-- ==== Sys2Proof/Word.lean ====
section
/-! DEFINITION. The words of the machine (R6), the three lanes, and the plainest operations on bit fields and on
values kept once per lane. -/
namespace Sys2Proof

abbrev Byte := BitVec 8
abbrev Half := BitVec 16
abbrev Word := BitVec 32
abbrev DWord := BitVec 64

/-- The lanes A, B and C (spec/00, Numbers, units and names). -/
inductive Lane where
  | a | b | c
  deriving DecidableEq, Repr

/-- Bit and code number of a lane: A 0, B 1, C 2. -/
def Lane.idx : Lane → Nat
  | .a => 0
  | .b => 1
  | .c => 2

def Lane.all : List Lane := [.a, .b, .c]

/-- One value per lane. -/
structure Tri (α : Type) where
  a : α
  b : α
  c : α
  deriving DecidableEq, Repr

def Tri.get {α : Type} (t : Tri α) : Lane → α
  | .a => t.a
  | .b => t.b
  | .c => t.c

def Tri.set {α : Type} (t : Tri α) (l : Lane) (x : α) : Tri α :=
  match l with
  | .a => { t with a := x }
  | .b => { t with b := x }
  | .c => { t with c := x }

def Tri.all {α : Type} (x : α) : Tri α := ⟨x, x, x⟩

def Tri.map {α β : Type} (f : Lane → α → β) (t : Tri α) : Tri β := ⟨f .a t.a, f .b t.b, f .c t.c⟩

def Tri.modify {α : Type} (t : Tri α) (l : Lane) (f : α → α) : Tri α := t.set l (f (t.get l))

end Sys2Proof
end

