-- ==== Sys2Proof/Wire.lean ====
section
/-! DEFINITION. What the commands carry and what the module sends: FTN frames (Tables 7.3, 7.4), Culvert packets (Table
14.1), checkpoint records (Table 11.4), KSP messages and paths (Tables 15.4, 15.8). Length fields that a list's own length
gives are kept as received, so that a receiver can check them. -/
namespace Sys2Proof

/-- An FTN frame as received (Table 7.3): Ethernet addresses and type, VLAN tag, whether the FCS holds, the header of Table 7.4, payload, E2E_CRC and pad. -/
structure Frame where
  dstMac    : BitVec 48
  srcMac    : BitVec 48
  etherType : Half
  vlan      : Bool
  fcsOk     : Bool
  looped    : Bool
  hop       : Nat
  version   : Nat
  kind      : Nat
  source    : Nat
  dest      : Nat
  /-- SLOT: window in [15:14], entry in [13:0]. -/
  slot      : Nat
  /-- CYCLE: b in [5:0], cluster-cycle count modulo 1,024 in [15:6]. -/
  cycle     : Nat
  seq       : Nat
  txTime    : Word
  objIndex  : Nat
  objSub    : Byte
  info      : Byte
  plen      : Nat
  flags     : Byte
  state     : Byte
  payload   : List Byte
  e2e       : Word
  /-- Bytes of pad after E2E_CRC. -/
  pad       : Nat
  deriving DecidableEq, Repr

/-- An own DATA frame for the arbitrating window: destination, object and payload. -/
structure ArbData where
  dest     : Nat
  objIndex : Nat
  objSub   : Byte
  payload  : List Byte
  deriving DecidableEq, Repr

/-- One attempt of a transfer through a hub port: its content, its sequence number in its direction, and its CRC-32C (R22). -/
structure HubTransfer where
  bytes : List Byte
  seq   : Nat
  crc   : Word
  deriving DecidableEq, Repr

/-- A Culvert packet; `length` is the LENGTH field. -/
structure Packet where
  type    : Nat
  code    : Nat
  tag     : Nat
  seq     : Nat
  length  : Nat
  addr    : Nat
  payload : List Byte
  crc     : Word
  deriving DecidableEq, Repr

/-- A checkpoint record; `length` is the LENGTH field. -/
structure CkRec where
  magic   : Half
  type    : Byte
  half    : Byte
  setSeq  : Word
  recSeq  : Word
  length  : Nat
  body    : List Byte
  crc     : Word
  deriving DecidableEq, Repr

/-- A KSP message; `length` is the LENGTH field. -/
structure KspMsg where
  verFlags : Byte
  code     : Byte
  session  : Half
  trans    : Half
  index    : Half
  sub      : Byte
  status   : Byte
  length   : Nat
  offset   : Word
  payload  : List Byte
  check    : Word
  deriving DecidableEq, Repr

/-- Path descriptor of Table 15.8. -/
structure Path where
  kind   : Byte
  source : Half
  ipv4   : Word
  /-- UDP source port of the request, to which it is answered (R487); no part of the path a session is bound to. -/
  port   : Half
  deriving DecidableEq, Repr

/-- The path that sessions and lockouts are bound to (Table 15.8): without the source port. -/
def Path.bound (p : Path) : Path := { p with port := 0 }

/-- Two requests come on one path. -/
def Path.same (p q : Path) : Bool := p.bound == q.bound

/-- How a KSP message reached the module: broadcast; and of a UDP datagram its destination port, that it is a fragment, and that its checksum is not
zero and wrong (R486, R487). -/
structure Via where
  bcast    : Bool
  dest     : Half
  fragment : Bool
  badSum   : Bool
  deriving DecidableEq, Repr

/-- The arrival of a unicast message that nothing discards below KSP. -/
def Via.plain : Via := ⟨false, 40970, false, false⟩

/-- A frame of the network, or a datagram to the KSP port that is no fragment and has no wrong checksum (R487). -/
def Via.passes (v : Via) (p : Path) : Bool := p.kind == 1 || (v.dest == 40970 && !v.fragment && !v.badSum)

/-- What a PTP message of IEEE 1588-2019 carries for the slave of Table 4.3; times in 1/256 ns with their correction fields added. -/
inductive PtpBody where
  /-- The sender's grandmaster identity, and the place of its data set in the order of the default best master clock algorithm: the lower, the
  better. -/
  | announce (gm rank : Nat)
  /-- logMessageInterval, and t1 unless a Follow_Up brings it. -/
  | sync (interval : Int) (t1 : Option Int)
  | followUp (t1 : Int)
  | delayResp (t4 : Int)
  /-- Ingress of the request at the peer, and egress of the answer unless a Follow_Up brings it. -/
  | pdelayResp (t2 : Int) (t3 : Option Int)
  | pdelayFollowUp (t3 : Int)
  deriving DecidableEq, Repr

/-- A PTP message: transport (0 UDP over IPv4, 1 IEEE 802.3), domain, port identity of the sender, sequence. -/
structure PtpMsg where
  transport : Nat
  domain    : Nat
  source    : Nat
  seq       : Nat
  body      : PtpBody
  deriving DecidableEq, Repr

/-- What the module puts on a wire or a pin, in the order in which it does so. -/
inductive Msg where
  | frame (port : Nat) (f : Frame)
  | packet (link : Nat) (p : Packet)
  | ksp (path : Path) (m : KspMsg)
  | arp (port : Nat) (sender target : Word)
  | echo (port : Nat) (target : Word) (data : List Byte)
  /-- A Delay_Req, or a Pdelay_Req, of the PTP slave. -/
  | delayReq (port : Nat) (peer : Bool) (domain seq : Nat)
  /-- A level of a DO switch, a SYNC line, FAIL_N or CLAIM_N changed: pin kind 0 DO, 1 SYNC, 2 FAIL_N, 3 CLAIM_N. -/
  | pin (kind : Nat) (n : Nat) (level : Bool)
  /-- The driver of a SYNC line has become high-impedance (R572). -/
  | release (n : Nat)
  deriving DecidableEq, Repr

end Sys2Proof
end

