-- ==== Sys2Proof/Syntax.lean ====
section
/-! DEFINITION. The commands of the block: one constructor per row of spec/opcode_table.json, in the table's order. A command
carries what its sender knows and the block does not: which lane or channel, the value written, what was measured, and (where
the rules turn on nanoseconds) the module time at which it comes. -/
namespace Sys2Proof

/-- The commands. -/
inductive Instr where
  -- spec/00
  /-- An access to a peripheral block that is narrower than 32 bits or not aligned reads zero, has no effect when
  written and returns a bus error (R7). -/
  | misalignedAccess (lane : Lane) (core : Nat) (off : Nat) (write : Bool)
  /-- An access to an offset that a block does not list reads zero, has no effect when written and increments the
  unmapped-access counter (R9). -/
  | unmappedAccess (lane : Lane) (core : Nat) (off : Nat) (write : Bool)
  /-- A read of a 64-bit register's _LO half latches its _HI half for the reading core; for module-shared registers
  the latch is taken once for all lanes (R10). -/
  | readLoLatch (lane : Lane) (core : Nat) (off : Nat)
  /-- A write of a 64-bit register's _HI half commits both halves at once, using the last committed _LO where no _LO
  was written first (R11). -/
  | writeHiCommit (lane : Lane) (core : Nat) (off : Nat) (v : Word)
  /-- A write to a SHADOWED register becomes its pending value, or its held value if a value is already pending,
  replaces any held value, and sets BUSY (R326). -/
  | shadowedWrite (lane : Lane) (off : Nat) (v : Word)
  /-- A write to a register that has no row of its own takes effect as the register's Update column states (R12). -/
  | registerWrite (lane : Lane) (core : Nat) (off : Nat) (v : Word)
  /-- A hub-port transfer fails its CRC or sequence check on a fourth attempt, so the lane is treated as late for that
  access and its hub-port error count rises (R23). -/
  | hubPortRetryExhausted (lane : Lane) (stream : Nat) (seq : Word) (attempts : List HubTransfer)
  -- spec/01
  /-- A slice clock or lane clock deviates by more than 500 ppm for 100 µs and is declared faulty (R25). -/
  | clockFault (part : Nat)
  /-- A slice time counter differs from the median by more than 8 ns for 100 µs and the slice is removed (R119). -/
  | sliceCounterFault (slice : Nat)
  /-- The protection of a lane or slice power domain opens on a short, and that part is treated as lost (R35). -/
  | domainProtectionOpen (part : Nat)
  /-- The supervisor heartbeat is missing for 10 ms and the module goes fail-silent (R35). -/
  | supervisorHeartbeatLoss
  /-- A network protocol engine fails its watchdog or loses its own frames, and its channel is disabled (R35). -/
  | netEngineFault (chanB : Bool)
  /-- The guardian engine fails its window-table self-check and all 16 star ports are closed (R35). -/
  | guardianFault
  /-- The measurement DSP fails its watchdog or output checks, and ODO and SUP outputs are marked invalid with quality
  0 (R35). -/
  | dspFault
  /-- The measurement DSP completes its automatic restart and resumes estimation (R35). -/
  | dspRestart
  /-- A supply interruption of up to 10 ms, or an undervoltage of up to 100 ms, is bridged with the mode unchanged and
  a SUPPLY_DIP record (R58). -/
  | supplyDip (durationUs : Nat) (lowest : Nat)
  -- spec/02
  /-- VIN_24 holds at or above 16.8 V for 1 ms; a power-on reset starts START-UP.BOOT and the supervisor reads GA
  (R50). -/
  | powerValid (ga : Nat)
  /-- A longer undervoltage makes the supervisor write POWER_FAIL, commit it, open the DO group switches and power
  down every domain (R58). -/
  | powerFail
  /-- An enabled wake source in DORMANT (DI group change, WAKE_N, RTC alarm or link energy) starts the module and is
  reported in SYS_WAKE_CAUSE (R60). -/
  | wake (source : Nat)
  /-- SYS_RTC_NOW reaches SYS_RTC_ALARM; the module wakes if in DORMANT, and otherwise raises SYS_RTC_ALARM (R60). -/
  | rtcAlarm
  /-- Every image type is loaded and its signature checked, falling back to the other slot where needed, and the
  module enters START-UP.VERIFY (R53). -/
  | bootComplete (badA badB badC : BitVec 8)
  /-- VERIFY ends; the module enters INTEGRATE, STANDBY, SAFE-HOLD or its first cycle, as the transitions allow (R44). -/
  | verifyComplete (lanesOk odd : BitVec 3) (holdupOk : Bool) (storeOk : BitVec 2)
  /-- START-UP has stayed in BOOT or VERIFY for more than 250 ms, so the supervisor performs a module reset; after
  three such resets it holds BOOT recovery (R55). -/
  | startWatchdog
  /-- 100 ms after fail-silent, with AUTO_RESTART set and no restart in the preceding hour, the supervisor performs
  one module reset (R43). -/
  | autoRestart
  /-- A keyed write of SYS_MODE_REQ with REQ DORMANT requests DORMANT entry at the next cycle boundary, or is rejected
  (R65). -/
  | requestDormant (key : Half)
  /-- A keyed write of SYS_MODE_REQ with REQ OPERATIONAL is accepted from SAFE-HOLD only under R57, and otherwise
  completes or is rejected (R57). -/
  | requestOperational (key : Half)
  /-- A keyed write of SYS_MODE_REQ with REQ SAFE-HOLD requests SAFE-HOLD.COMMISSIONING at the next cycle boundary
  (R65). -/
  | requestSafeHold (key : Half)
  /-- A write of SYS_RESET_REQ with KIND module reset and the right key performs a module reset; other keys are
  ignored and counted (R62). -/
  | moduleResetRequest (v : Word)
  /-- VIN_24 stays above 30 V for more than 1 s, and SAFE-HOLD reason SUPPLY is entered (R56). -/
  | overvoltageSupply
  /-- The hold-up test runs after 1 s within range, or every 60 s while SUPPLY is active; a pass clears SUPPLY and a
  failure sets it (R56). -/
  | holdupTest (pass : Bool)
  /-- Once the entry sequence has finished, every domain except the supervisor island powers down; a wake that arrived
  during entry wakes the module at once (R59). -/
  | dormantReached
  -- spec/03
  /-- A lane's voted write arrives at the Sluice and is matched by stream and sequence; it commits 4 ns after the
  majority access, or waits for the third access, or leads to fail-silent (R71). -/
  | votedWrite (lane : Lane) (stream : Nat) (seq : Word) (addr : Nat) (v : Word) (time : Nat)
  /-- A lane's voted read arrives; at the majority access the target is sampled once, with side effects taken once,
  and the value is returned to every lane in vote (R79). -/
  | votedRead (lane : Lane) (stream : Nat) (seq : Word) (addr : Nat) (time : Nat)
  /-- An access that arrives after its majority has resolved is compared with the kept access, answered from the kept
  value and counted as out of window (R72). -/
  | lateAccess (lane : Lane) (stream : Nat) (seq : Word) (addr : Nat) (write : Bool) (v : Word) (time : Nat)
  /-- LATE_LIMIT passes without a lane's access, so that lane is excluded with cause LATE, or the module goes
  fail-silent (R78). -/
  | lateLimitExpiry (stream : Nat) (seq : Word)
  /-- A read of VOT_FENCE completes once every earlier voted access of its stream is resolved and committed (R87). -/
  | votFenceRead (lane : Lane) (stream : Nat)
  /-- A capture path reaches PATH_LIMIT disagreements on a channel within 1 s and is masked for that channel (R92). -/
  | pathMask (lane : Lane) (chan : Nat)
  /-- A lane hands over its output image, and the Sluice reads it through port B and compares it word by word (R96). -/
  | outputHandover (lane : Lane) (time : Nat)
  /-- The 64-bit digest is voted; a minority counts on the SAFETY run and three different digests make the module
  fail-silent (R100). -/
  | digestWrite (lane : Lane) (writes : List (Nat × List Byte)) (flip : DWord) (time : Nat)
  /-- A lane receives its peers' digests over the lane links and compares them with its own (R101). -/
  | digestPeerExchange (lane : Lane) (peer1 peer2 : DWord)
  /-- A keyed write of VOT_REJOIN_REQ starts a rejoin attempt for an excluded or retired lane, or is rejected and
  counted (R112). -/
  | rejoinRequest (v : Word)
  /-- The reset hold of an excluded lane ends and the lane enters the BOOT phase of its rejoin (R107). -/
  | rejoinHoldEnd (lane : Lane)
  /-- The rejoining lane has copied and checked its images and enters SELFTEST (R107). -/
  | rejoinBootDone (lane : Lane)
  /-- SELFTEST ends; a matching image identity starts PRECOPY, and a mismatch retires the lane with cause IMAGE
  (R107). -/
  | rejoinSelftestDone (lane : Lane) (identityOk : Bool)
  /-- A background copy pass ends; a dirty set below the threshold ends PRECOPY, and exhausting PASSES ends the
  attempt (R108). -/
  | precopyPassEnd (lane : Lane) (dirty : Nat)
  /-- The stop-copy completes and the healthy lanes resume at the next cycle boundary (R109). -/
  | stopcopyEnd (lane : Lane)
  /-- A rejoin phase exceeds its bound, so the attempt ends, counts as an exclusion and returns the lane to RESET
  (R107). -/
  | rejoinPhaseTimeout (lane : Lane)
  -- spec/04
  /-- A valid offset input reaches a base's servo, which updates I and the rate, steps under R130, discards under R131
  and changes state under Table 4.2 (R126). -/
  | servoOffsetInput (base : Nat) (e : Int)
  /-- A write of TB_x_STEP_HI steps TB1 or TB3 by the signed amount; for TB0 or TB2 it is refused and counted (R132). -/
  | tbStepWrite (core : Nat) (base : Nat) (hi : Word)
  /-- A write of TB_x_RATE_HI with MODE MANUAL sets the base's rate word by a voted write to the slices (R125). -/
  | tbRateWrite (core : Nat) (base : Nat) (hi : Word)
  /-- Host software writes an offset into TB_x_OFFSET_IN of TB1 or TB3 as a servo input; writes for TB0 or TB2 are
  refused (R138). -/
  | tbOffsetInWrite (base : Nat) (v : Word)
  /-- No valid offset input arrives for HOLD_ENTER, so LOCKED goes to HOLDOVER or ACQUIRE goes to FREE (R127). -/
  | servoHoldEnter (base : Nat)
  /-- A base has been in HOLDOVER for HOLD_LIMIT and goes to FREE with I cleared (R127). -/
  | servoHoldLimit (base : Nat)
  /-- Once per second the service core writes TB_TRIM from the factory trim curve at the module temperature (R137). -/
  | tbTrimWrite (valid : Bool)
  /-- A PTP message arrives on X11 or X12; the slave computes the TB1 offset and writes it into TB_1_OFFSET_IN (R136). -/
  | ptpMessage (port : Nat) (m : PtpMsg) (stamp : Int)
  /-- A lane copy is more than 20 ns from the beacon for 10 µs, and the lane is excluded with cause CLOCK (R120). -/
  | laneAlignFault (lane : Lane)
  /-- A keyed write of FTN_TS_CAL_REQ starts the calibration of a port in START-UP or SAFE-HOLD, or is rejected
  (R140). -/
  | calRequest (v : Word)
  /-- A port calibration ends with the port FROZEN, NOMINAL or FAILED, and TB_CAL_DONE is raised (R141). -/
  | calibrationEnd (port : Nat)
  /-- A CALIBRATION frame with OP DEV carries the partner's deviation (R141). -/
  | calDev (port : Nat) (dev : Int)
  /-- A CALIBRATION PROBE arrives and is answered with a REPLY in the same network idle time (R141). -/
  | calProbe (port : Nat) (no : Nat) (t1 t2 : Int)
  /-- A CALIBRATION REPLY gives one two-way probe measurement (R140). -/
  | calReply (port : Nat) (no : Nat) (t1 t2 t3 t4 : Int)
  /-- A LOOP_REQ asks the partner to loop its PHY at the line side for the next network idle time (R141). -/
  | calLoopReq (port : Nat)
  /-- A NO_LOOP answer ends the calibration sequence in state NOMINAL (R141). -/
  | calNoLoop (port : Nat)
  -- spec/05
  /-- Every 10 µs of TB0 the position estimator fuses the agreed sensor and inertial data into a stamped estimate,
  checking sensor margins and quality (R144). -/
  | estimatorUpdate (currents : List Nat)
  /-- A speed sensor's qualification time expires (200 ms in REJOIN, or 1 s of quadrature in FAULT) and the sensor
  changes state (R147). -/
  | sensorStateTimer (sensor : Nat)
  /-- No net edges and low acceleration have held for STANDSTILL_TIME, so velocity is set to 0 and the lock points are
  recorded (R153). -/
  | standstillEntry
  /-- Bridging lasts BRIDGE_LIMIT ms and the quality class falls to COARSE (R148). -/
  | bridgeLimitExpiry
  /-- A position fix is submitted by ODO_FIX_CMD, KSP or an FTN slot; it is rejected for BUSY, BAD_KEY or REMOTE, or
  becomes pending (R156). -/
  | fixSubmit (pos : Int) (time : Word) (accSrc : Word) (cmd : Word)
  /-- The pending fix is processed within 20 µs: STALE, FUTURE and gate checks, then acceptance with correction or
  rejection (R158). -/
  | fixProcess
  /-- A 0x7000 position record from NODE arrives and the follower extrapolates from it (R165). -/
  | remoteRecord (node : Nat) (payload : List Byte)
  /-- No record has come from NODE for MAX_AGE basic cycles, so the class becomes INVALID (R165). -/
  | remoteStale
  /-- A read of ODO_POS_LO latches the rest of the same estimate update for the reading core (R178). -/
  | odoPosRead (lane : Lane) (core : Nat)
  -- spec/05
  /-- An analog channel has been out of range or INVALID for more than 1 ms and is excluded (R168). -/
  | supRangeFault (chan : Nat)
  /-- A range-fault channel has been back in range for 100 ms and returns (R168). -/
  | supRangeReturn (chan : Nat)
  /-- Every 15 s the spare converter takes over one channel while its converter is calibrated, raising SUP_CAL on
  failure (R169). -/
  | adcCalRotation (fails : BitVec 3)
  /-- The supply tracker changes lock state, with a SUPPLY_LOCK record (R172). -/
  | supLockChange (lock : Nat)
  /-- The tracker has been in HOLD for 5 cycles and goes to NO_SIGNAL (R172). -/
  | supHoldExpiry
  /-- A channel value meets the begin condition of a disturbance class, and the class bit is set in SUP_ACTIVE (R174). -/
  | disturbanceStart (cls : Nat) (chan : Nat)
  /-- A disturbance ends; an entry is pushed into the FIFO, or lost if it is full, and a record is written if enabled
  (R176). -/
  | disturbanceEnd (cls : Nat) (chan : Nat)
  /-- A read of SUP_DIST_HEAD pops one disturbance entry and latches its fields, once for all lanes (R176). -/
  | supDistHeadRead (core : Nat)
  -- spec/06
  /-- At least two slices report an armed entry's match; the guard and QUAL are evaluated and the action fires, skips
  or waits (R179). -/
  | pisteMatch (entry : Nat) (slices : BitVec 3)
  /-- A DO or SYNC pulse reaches its width and its target is cleared, unless another entry has acted on it meanwhile
  (R196). -/
  | pulseEnd (entry : Nat)
  /-- A WAITING entry finds its guard and QUAL true and fires with result WAITED (R191). -/
  | guardWaitFire (entry : Nat)
  /-- A WAITING entry reaches WAIT_LIMIT and ends with cause WAIT_LIMIT (R191). -/
  | waitLimitExpiry (entry : Nat)
  /-- PST_CMD ARM checks the named entry at its commit and arms, rejects or misses it (R189). -/
  | arm (v : Word)
  /-- PST_CMD DISARM returns the named entry to IDLE (R194). -/
  | disarm (v : Word)
  /-- PST_CMD ARM_MASK arms every entry selected in PST_ARM_MASK at one edge (R189). -/
  | armMask (v : Word)
  /-- PST_CMD DISARM_MASK disarms every selected entry (R194). -/
  | disarmMask (v : Word)
  /-- PST_CMD DISARM_ALL disarms every entry (R194). -/
  | disarmAll (v : Word)
  /-- A write of an entry word takes effect if the entry is not armed or waiting, and is otherwise rejected and
  counted (R186). -/
  | entryWordWrite (entry : Nat) (word : Nat) (v : Word)
  /-- A read of PST_FIRE_HEAD pops one fire FIFO entry and latches its time, once for all lanes (R193). -/
  | pstFireHeadRead (core : Nat)
  /-- The once-per-second scrub of the entry store finds an uncorrectable entry, which is disarmed and rejected with
  cause STORE (R539). -/
  | pisteStoreScrub (entry : Nat)
  -- spec/07
  /-- TB0 reaches n × T; a basic cycle begins, with its cluster-cycle effects such as integration, switch-over and
  changes of loop role (R212). -/
  | basicCycleStart
  /-- At an own occurrence's build point the frame (DATA, NULL or SYNC) is built from the committed state and sent on
  both channels at S (R225). -/
  | frameBuild (entry : Nat) (bufferError corrupt : Bool)
  /-- A frame arrives on a trunk port; it is forwarded, checked in order and delivered to its sink, or discarded
  (R236). -/
  | frameReceive (port : Nat) (f : Frame) (stamp : Int)
  /-- A star-port frame passed by the guardian is checked and put onto both channels at S, or queued for arbitration
  (R233). -/
  | starFrameReceive (port : Nat) (f : Frame) (stamp : Int)
  /-- At an own ARB occurrence the queued frame with the lowest SOURCE is sent (R235). -/
  | arbOccurrence (entry : Nat) (own : List ArbData)
  /-- A queued arbitrating frame exceeds ARB_AGE basic cycles and is discarded (R235). -/
  | arbAgeExpiry
  /-- At the start of the network idle time the midpoint is formed from the sync deviations and fed to the TB0 servo
  (R268). -/
  | nitStart
  /-- A cycle point occurs, raising FTN_CP_c and with CYC_START set starting the cyclic program (R242). -/
  | cyclePoint (c : Nat)
  /-- FTN_MATRIX_CMD COMMIT checks the shadow matrix and copies it to active while RUN is 0, or rejects it (R219). -/
  | matrixCommit (key : Half)
  /-- FTN_MATRIX_CMD DISCARD reloads the shadow matrix from the active one (R219). -/
  | matrixDiscard (key : Half)
  /-- A write of FTN_SLOT_W4 stores the selected shadow entry, and is refused with the active table selected (R245). -/
  | slotW4Write (v : Word)
  /-- FTN_TXB_CMD PREPARE makes the selected transmit buffer PREPARED (R230). -/
  | txbPrepare
  /-- FTN_TXB_CMD CANCEL returns the selected transmit buffer to EMPTY (R230). -/
  | txbCancel
  /-- A write to the data, header or configuration of a prepared or released buffer has no effect and is counted
  (R245). -/
  | txbWrite (off : Nat) (v : Word)
  /-- A write of FTN_RXB_SEL freezes the latest frame of that receive buffer into the snapshot registers (R246). -/
  | rxbSnapshot (v : Word)
  -- spec/08
  /-- Setting FTN_CTRL.RUN moves the start-up state from STOPPED to LISTEN (R249). -/
  | runSet
  /-- Clearing RUN sends LEAVING NULL frames for one cluster cycle, if the node was integrated, and passes the state
  to STOPPED (R249). -/
  | runClear
  /-- One cluster cycle after RUN was cleared, transmission stops (R249). -/
  | leavingEnd
  /-- A cold-start node's listen timeout expires and it enters COLDSTART (R250). -/
  | listenTimeout
  /-- The back-off ends and the node enters COLDSTART, or LISTEN once COLD_MAX is reached (R257). -/
  | backoffEnd
  /-- A COLD node has not integrated within COLD_ABORT cluster cycles and stops sending SYNC frames (R256). -/
  | coldAbort
  /-- At T − NIT + 1,000 ns a LINK_CHECK frame is sent on every trunk and star port in use (R260). -/
  | linkCheckSend
  /-- A LINK_CHECK arrives and updates the link delay, the path-delay table and the star offset (R262). -/
  | linkCheckReceive (port : Nat) (f : Frame) (stamp : Int)
  /-- A star frame violates its window, is not passed, and may block or disable the port (R272). -/
  | guardViolation (port : Nat) (kind : Nat)
  /-- FTN_GUARD_CMD ENABLE re-enables a disabled star port (R273). -/
  | guardPortEnable (v : Word)
  /-- A trunk link is found broken by link down, missing link checks or LINK_LONG (R275). -/
  | linkBroken (port : Nat) (cause : Nat)
  /-- A HEAL READY frame arrives during restoration of a link (R278). -/
  | healReady (port : Nat) (chan : Nat)
  /-- The TAIL receives RESTORE_AT and answers ACK (R278). -/
  | healRestoreAt (port : Nat) (chan : Nat) (cc : Nat)
  /-- The HEAD receives ACK for the announced restoration (R278). -/
  | healAck (port : Nat) (chan : Nat) (cc : Nat)
  /-- FTN_RING_CMD HOLD breaks the named trunk link in SAFE-HOLD, and is rejected otherwise (R281). -/
  | ringHold (v : Word)
  /-- FTN_RING_CMD RELEASE ends a hold and starts restoration (R281). -/
  | ringRelease (v : Word)
  -- spec/09
  /-- At a cycle boundary the module checks overrun, commits shadowed values, makes mode transitions, applies forces
  and batches, freezes inputs and starts logic (R293). -/
  | cycleBoundary (meets : List (Lane × Nat × List (BitVec 8)))
  /-- The cycle-end write is committed; the cycle ends, its cut is made and the checkpoint set is started (R291). -/
  | cycleEndWrite (lane : Lane) (v : Word) (pages : List (Nat × List Byte)) (time : Nat)
  /-- A checkpoint set's transfer ends with SET_COMMIT and CHK_LAG is updated (R379). -/
  | setSendComplete
  /-- A write of CYC_OC_VAL_HI stages the online-change entry at CYC_OC_SEL, or rejects it for BAD_TARGET or BAD_SIZE
  (R313). -/
  | ocStage (lane : Lane) (hi : Word)
  /-- CYC_OC_CMD COMMIT makes the staged batch PENDING for its target cycle, or rejects it (R314). -/
  | ocCommit (lane : Lane) (key : Half)
  /-- CYC_OC_CMD DISCARD clears the staged entries (R314). -/
  | ocDiscard (lane : Lane) (key : Half)
  /-- A write of CYC_FRC_VAL_HI stages a force edit, or rejects it (R318). -/
  | forceStage (lane : Lane) (hi : Word)
  /-- CYC_FRC_CMD COMMIT makes the staged force edits PENDING, or rejects them (R319). -/
  | forceCommit (lane : Lane) (key : Half)
  /-- CYC_FRC_CMD DISCARD clears the staged force edits (R319). -/
  | forceDiscard (lane : Lane) (key : Half)
  -- spec/10
  /-- The FILTER-th consecutive agreed sample of a new code changes a channel's filtered state (R341). -/
  | diFilterChange (chan : Nat) (code : Nat)
  /-- A DI group supply is below 14.4 V for 5 ms or above 36 V, so its channels become INVALID (R345). -/
  | diSupplyFault (group mv : Nat)
  /-- A DI group supply has been within range for 100 ms and the group returns to NORMAL (R345). -/
  | diSupplyReturn (group mv : Nat)
  /-- Every 10 s the sensor supply of a tested DI group is switched off for 100 µs (R346). -/
  | inputTestPulse (group : Nat)
  /-- The test pulse ends and each path and channel is judged to pass or fail (R347). -/
  | inputTestEnd (group : Nat)
  /-- A committed write of DIO_OUT_CMD commands and refreshes the HOST channels (R348). -/
  | outCmdWrite (v : Word)
  /-- A channel has had no refresh for SILENCE ms and takes its safe state (R350). -/
  | logicSilence (chan : Nat)
  /-- A DO group supply falls below 16.8 V and LOW is reported (R355). -/
  | doSupplyLow (group : Nat) (mv : Nat)
  /-- A DO group supply stays below 14.4 V for 5 ms and the group is latched off (R355). -/
  | doSupplyUnder (group : Nat) (mv : Nat)
  /-- A DO group supply exceeds 36 V and the group is latched off (R355). -/
  | doSupplyOver (group : Nat) (mv : Nat)
  /-- A latched group's supply has been within range for 100 ms; it becomes READY and, with AUTO_REEN, is re-enabled
  (R356). -/
  | doSupplyReady (group : Nat) (mv : Nat)
  /-- A group's channel currents exceed 8 A for 1 s and the group switch opens (R354). -/
  | groupOverload (group : Nat)
  /-- A channel's current limit is active for OC_TIME and the channel is latched OFF (R358). -/
  | channelOvercurrent (chan : Nat)
  /-- A channel switch shuts down thermally and the channel is latched OFF (R358). -/
  | channelOvertemp (chan : Nat)
  /-- An ON channel with OL_EN set draws less than OL_THRESH for 100 ms, and the open load is reported (R358). -/
  | openLoad (chan : Nat)
  /-- A channel resolved ON stays below the ON level for 1 ms and is latched OFF (R358). -/
  | stuckOff (chan : Nat)
  /-- A channel resolved OFF is above 12 V for 2 ms; a partner search ends in BACKFEED or SHORT_SUPPLY (R359). -/
  | shortSupplyDetect (chan : Nat) (partner : Option Nat) (fellWithGroup : Bool)
  /-- In its 625 ms slot an eligible ON channel is switched off for a dark-test pulse (R363). -/
  | darkTestSlot (chan : Nat)
  /-- The pulse ends in a pass or a failure, and two consecutive failures latch DARK_FAIL (R363). -/
  | darkTestEnd (chan : Nat) (fell : Bool)
  /-- With AUTO_RESET set, the trip unlatches once its rule has been false for 100 ms (R368). -/
  | tripAutoReset (rule : Nat)
  /-- A CLEAR_FAULT command clears the channel's latched faults whose conditions are gone (R361). -/
  | clearFault (chan : Nat) (gone : BitVec 7)
  /-- A GROUP_REENABLE command clears UNDER and OVER of a READY group, and is rejected otherwise (R357). -/
  | groupReenable (group : Nat)
  /-- A TRIP_RESET command unlatches a trip whose rule is false, and is rejected otherwise (R368). -/
  | tripReset (rule : Nat)
  /-- DIO_CTRL_CMD GROUP_OPEN opens a DO group switch with cause HOST (R354). -/
  | groupOpen (v : Word)
  /-- DIO_CTRL_CMD GROUP_RELEASE clears the HOST open cause (R354). -/
  | groupRelease (v : Word)
  /-- A write of a trip register is accepted in SAFE-HOLD only and commits at the next cycle boundary (R369). -/
  | tripRegWrite (off : Nat) (v : Word)
  /-- A shorted sensor supply is held at its limit and shuts down thermally within 100 ms (R567). -/
  | sensorSupplyShort (group : Nat)
  /-- A shut-down sensor supply restarts every 1 s (R567). -/
  | sensorSupplyRestart (group : Nat)
  -- spec/11
  /-- A ROLE record from the partner arrives and the higher (CLAIM, CYCLE, UNIT_ID) proceeds as active (R374). -/
  | roleRecord (r : CkRec)
  /-- No ROLE record arrives within 20 ms and the role is decided by GA_0 (R374). -/
  | roleTimeout
  /-- The 60 ms watch of PARTNER_CLAIM_N ends without conflict and VERIFY may end (R376). -/
  | gaWatchEnd
  /-- The standby receives SET_START and checks the base set and image identities (R380). -/
  | setStart (r : CkRec)
  /-- The standby writes a PAGE record into the target half, marked INCOMPLETE (R380). -/
  | checkpointPage (r : CkRec)
  /-- SET_COMMIT verifies the set and commits the half, or discards it; ARMED is updated (R380). -/
  | setCommit (r : CkRec)
  /-- A KEEPALIVE record restarts the standby's stream timeout (R385). -/
  | keepalive (r : CkRec)
  /-- A PAUSE record extends the stream timeout to its DURATION (R385). -/
  | pauseRecord (r : CkRec)
  /-- A PARK record makes the standby enter DORMANT within 10 ms (R382). -/
  | park (r : CkRec)
  /-- A HANDOVER record makes the standby recognise a failure and take over (R385). -/
  | handoverRecord (r : CkRec)
  /-- PARTNER_FAIL_N is asserted; a standby recognises a failure after 100 µs and an active module starts FULL
  resynchronisation (R385). -/
  | partnerFailAsserted
  /-- No valid record arrives for 3 × CYCLE_US and the standby recognises a failure (R385). -/
  | streamTimeout
  /-- Every CLAIM_PERIOD cluster cycles the holder sends a CLAIM ANNOUNCE (R391). -/
  | announceSend
  /-- An ANNOUNCE from the partner address arrives; a higher claim makes the module lose its own, and a lower claim is
  answered with REJECT (R393). -/
  | claimAnnounce (source : Nat) (claim : Word) (unit : BitVec 128)
  /-- A REJECT with a higher held claim makes the module lose its claim; a lower or equal one is ignored (R392). -/
  | claimReject (dest : Nat) (claim : Word) (unit : BitVec 128)
  /-- A falling edge of PARTNER_CLAIM_N makes the holder lose its claim and pass to STANDBY or SAFE-HOLD.FAULT (R392). -/
  | partnerClaimEdge
  /-- CHK_CMD RESYNC starts FULL sets without the 10 s limit (R395). -/
  | chkResync (key : Half)
  /-- CHK_CMD HANDOVER, accepted while protected, completes the set in transfer and sends HANDOVER (R395). -/
  | chkHandover (key : Half)
  /-- A keyed write of CHK_CMP_REPORT reports a remote output disagreement, which is fail-silent when protected
  (R384). -/
  | cmpReport (v : Word)
  /-- PARTNER_PRESENT_N changes as a partner module is inserted or withdrawn (R373). -/
  | partnerPresentChange (present : Bool)
  -- spec/12
  /-- An interrupt source is asserted at a lane's ICU and sets or merges its pending latch for routing (R398). -/
  | sourceAssert (lane : Lane) (id : Nat)
  /-- A core sets its class mask or EN is cleared before entry, so the signal is withdrawn and the source returns to
  pending (R403). -/
  | signalWithdraw (lane : Lane) (core : Nat) (fast : Bool) (mask : Bool)
  /-- A core begins the entry of a signalled source, resolving overlaps by Table 12.2 (R404). -/
  | handlerEntry (lane : Lane) (core : Nat) (fast : Bool)
  /-- A read of ICU_CLAIM_N returns and activates the signalled normal source, or returns 0 as spurious (R405). -/
  | claimNormal (lane : Lane) (core : Nat)
  /-- A read of ICU_CLAIM_F returns and activates the signalled fast source, or returns 0 as spurious (R405). -/
  | claimFast (lane : Lane) (core : Nat)
  /-- A write of ICU_COMPLETE ends the active state of the named source on the writing core, or is ignored and counted
  (R406). -/
  | icuComplete (lane : Lane) (core : Nat) (v : Word)
  /-- A handler exits, tail-chaining to a signalled source where Table 12.2 allows (R408). -/
  | handlerExit (lane : Lane) (core : Nat) (wait : Bool)
  /-- A write of ICU_SWI_SET makes a software-triggered source pending in the writing lane (R411). -/
  | swiSet (lane : Lane) (core : Nat) (v : Word)
  /-- A W1C write of ICU_PEND_w clears pending latches and withdraws signals (R403). -/
  | pendClear (lane : Lane) (w : Nat) (v : Word)
  /-- A pending source with no candidate core wakes every waiting core of its TARGET set (R412). -/
  | waitWake (lane : Lane) (id : Nat)
  /-- A filtered EXTINT edge of the selected kind asserts source 432 + k and writes its TB0 stamp (R415). The slices judge line `k` at a slice
  edge: it has held a level for `cycles` slice clock cycles (R414). -/
  | extintEdge (k : Nat) (rising : Bool) (cycles : Nat)
  /-- An EXTINT edge during DORMANT or start-up sets the supervisor latch, which becomes pending at the end of VERIFY
  (R413). -/
  | extintDormantEdge (k : Nat) (rising : Bool)
  -- spec/13
  /-- A single-bit error is corrected and written back, and counted towards the correction rate (R421). -/
  | eccCorrected (lane : Lane) (dram : Bool) (addr : Nat) (info : Word)
  /-- A double-bit error returns a bus error, and the lane requests its exclusion with cause SELF (R422). -/
  | eccUncorrectable (lane : Lane) (dram : Bool) (addr : Nat) (info : Word)
  /-- A write to the bit-set alias sets the masked bits of the scratchpad word atomically (R429). -/
  | aliasSet (lane : Lane) (core : Nat) (addr : Nat) (width : Nat) (mask : DWord)
  /-- A write to the bit-clear alias clears the masked bits atomically (R429). -/
  | aliasClear (lane : Lane) (core : Nat) (addr : Nat) (width : Nat) (mask : DWord)
  /-- A core access to the secure bank is denied with a bus error and counted (R432). -/
  | secureAccess (lane : Lane) (core : Nat) (addr : Nat)
  /-- An access outside every address region returns a bus error and is counted (R419). -/
  | mapError (lane : Lane) (core : Nat) (addr : Nat) (write : Bool)
  /-- A host write to the local MRAM window has no effect and returns a bus error (R420). -/
  | mramWindowWrite (lane : Lane) (core : Nat) (addr : Nat) (v : Word)
  /-- The supervisor qualifies a tamper event, starts SAFE-HOLD with reason TAMPER and signals the secure-bank wipe
  (R434). -/
  | tamper (event : Nat)
  /-- The 100 ms power-off of a lane after WIPE_FAIL ends (R436). -/
  | lanePowerRestore (lane : Lane)
  -- spec/14
  /-- A committed voted or DMA write to a Culvert window is tagged and sent as WR_POSTED, or is refused or fails at
  once (R443). -/
  | bridgeWrite (stream : Nat) (lanes : BitVec 3) (addr : Nat) (data : List Byte) (corrupt : Bool)
  /-- A write inside a non-posted window is sent as WR_NP and completes at the issuing core only on its answer (R447). -/
  | npWrite (stream : Nat) (lanes : BitVec 3) (addr : Nat) (data : List Byte)
  /-- A WR_ACK completes every posted tag up to TAG; an answer for a tag that already failed is counted late (R444). -/
  | wrAck (link : Nat) (p : Packet)
  /-- A WR_ERROR fails the tagged write, pushes a failure FIFO entry and writes a record (R445). -/
  | wrError (link : Nat) (p : Packet)
  /-- A posted tag has had no answer within ACK_TIMEOUT and fails locally with code TIMEOUT (R444). -/
  | ackTimeout (link : Nat) (tag : Nat)
  /-- A LINK_ACK confirms the packets received up to its SEQ (R442). -/
  | linkAck (link : Nat) (p : Packet)
  /-- A packet without LINK_ACK after 20 µs is resent; after the fourth failure the link goes DOWN (R442). -/
  | linkResend (link : Nat) (seq : Nat)
  /-- A read of BRG_FENCE completes once the stream's earlier link writes are acknowledged or failed, and reports the
  failures (R446). -/
  | brgFenceRead (stream : Nat)
  /-- A voted read of a Culvert window is sent as RD_REQ (R448). -/
  | bridgeRead (stream : Nat) (addr : Nat) (len : Nat)
  /-- A RETRY answer schedules a repeat of the read, or after RETRY_LIMIT ends it with a bus error (R448). -/
  | retry (link : Nat) (p : Packet)
  /-- RETRY_GAP has passed, or a read has had no answer for ACK_TIMEOUT; the read is repeated or ends with a bus error
  (R448). -/
  | rdReqRepeat (link : Nat) (tag : Nat)
  /-- RD_DATA arrives and the voted read is sampled and returned to every lane (R438). -/
  | rdData (link : Nat) (p : Packet) (corrupt : Bool)
  /-- An UNSUPPORTED answer completes the read with a bus error at once (R448). -/
  | unsupported (link : Nat) (p : Packet)
  /-- An inbound RD_REQ is answered from held data, or with RETRY and a background fetch (R449). -/
  | inboundRdReq (link : Nat) (p : Packet)
  /-- A delayed-read fetch completes and its data is held for 64 µs (R449). -/
  | fetchComplete (link : Nat) (addr : Nat) (len : Nat)
  /-- Held fetched data is discarded 64 µs after fetch completion (R449). -/
  | fetchHoldExpiry (link : Nat) (addr : Nat) (len : Nat)
  /-- An inbound write enters the inbound buffer, or receives RETRY, and discards overlapping fetches (R451). -/
  | inboundWrite (link : Nat) (p : Packet)
  /-- A backplane link changes state through training, DOWN or UP (R437). `full`: training has reached 8 GT/s (R577). -/
  | linkStateChange (link : Nat) (state : Nat) (full : Bool)
  /-- Link 0 enters STREAM when the partner is in STANDBY, and sends RECORD packets only (R440). -/
  | streamEntry
  /-- A read of BRG_FAIL_HEAD pops one failure entry and latches its address, once for all lanes (R445). -/
  | brgFailHeadRead (core : Nat)
  /-- DMA_c_CMD START fetches the first descriptor and runs the channel, or is rejected (R452). -/
  | dmaCmdStart (chan : Nat) (key : Half)
  /-- DMA_c_CMD ABORT stops the channel at the end of its current burst with state ABORTED (R454). -/
  | dmaCmdAbort (chan : Nat) (key : Half)
  /-- A descriptor completes; the chain continues or ends, or the channel stops with an error (R452). -/
  | dmaDescriptorDone (chan : Nat) (error : Nat) (moved : Nat) (corrupt : Bool)
  -- spec/15
  /-- An OPEN request opens a session bound to its path, in state OPEN or AWAIT_AUTH (R479). -/
  | kspOpen (path : Path) (via : Via) (m : KspMsg)
  /-- An AUTH request verifies the signature over nonce and session, opening or ending the session (R481). -/
  | kspAuth (path : Path) (via : Via) (m : KspMsg)
  /-- A CLOSE request ends the session (R484). -/
  | kspClose (path : Path) (via : Via) (m : KspMsg)
  /-- A READ request returns the value, or its first 1,400 bytes with a snapshot (R476). -/
  | kspRead (path : Path) (via : Via) (m : KspMsg)
  /-- A WRITE request checks role, mode and type and applies the value through its register path or the store (R462). -/
  | kspWrite (path : Path) (via : Via) (m : KspMsg) (storeOk : Bool)
  /-- A write of 0x01 to 0x1011 restores every STORED object to its default (R465). -/
  | restoreDefaults (path : Path) (via : Via) (m : KspMsg) (storeOk : Bool)
  /-- A READ_SEG request returns bytes from the session's snapshot at OFFSET (R476). -/
  | kspReadSeg (path : Path) (via : Via) (m : KspMsg)
  /-- A WRITE_SEG request appends a segment in order and applies the value at LAST (R477). -/
  | kspWriteSeg (path : Path) (via : Via) (m : KspMsg) (storeOk : Bool)
  /-- An ABORT request ends the session's segmented transfer without effect (R477). -/
  | kspAbort (path : Path) (via : Via) (m : KspMsg)
  /-- An INFO request returns the object's type, access, persistence, role and lengths (R470). -/
  | kspInfo (path : Path) (via : Via) (m : KspMsg)
  /-- A request with a CODE not in Table 15.5 is answered BAD_CODE (R470). -/
  | kspBadCode (path : Path) (via : Via) (m : KspMsg)
  /-- A session without a request for the idle timeout ends (R484). -/
  | sessionIdleTimeout (session : Nat)
  /-- No AUTH arrives within 30 s of OPEN and the session ends (R480). -/
  | authTimeout (session : Nat)
  /-- A read snapshot ends after 10 s without READ_SEG (R476). -/
  | readSnapshotTimeout (session : Nat)
  /-- A segmented write ends without effect after 10 s between segments (R477). -/
  | segWriteTimeout (session : Nat)
  /-- The 300 s authentication lockout of a path ends (R483). -/
  | lockoutEnd (path : Path)
  /-- A write through a status register has not completed within 5 s and is answered PENDING (R474). -/
  | pendingTimeout (session : Nat)
  /-- An ARP request on a maintenance port is answered (R487). -/
  | arpRequest (port : Nat) (sender target : Word)
  /-- An ICMP echo request on a maintenance port is answered (R487). -/
  | icmpEcho (port : Nat) (source target : Word) (data : List Byte)
  -- spec/16
  /-- A record request enters REC's queue, or is lost when the queue is full (R494). -/
  | recordRequest (type : Nat) (items : List (Nat × Nat × List Byte))
  /-- REC drains a queued record into the open page with a new SEQ, or folds it into the newest record (R495). -/
  | recordAccept
  /-- The open page is committed to NAND when full, at COMMIT_TIME, at DORMANT entry or at fail-silent (R497). `failed`: blocks that fail to program or
  erase in it (Table 16.10). -/
  | pageCommit (failed : Nat)
  /-- REC becomes ready after start and writes the events the supervisor kept (R498). `nand`: the NAND is present. -/
  | recReady (nand : Bool)
  /-- REC_APP_CMD submits an application record, or rejects it (R499). -/
  | appRecord (v : Word)
  /-- A write of 0x01 to 0xA010 writes a CLEAR record and erases the circulating area (R502). -/
  | clearCirculating (role : Nat) (path : List Byte)
  /-- A write of 0x02 to 0xA010 clears the kept area and sets a new KEPT_BASE (R502). -/
  | clearKept (role : Nat) (path : List Byte)
  /-- The erasure of a clear completes, also at the next start after a power loss (R503). -/
  | clearComplete
  /-- A write of REC_READ_SEQ loads the record into REC_READ_DATA (R504). `found`: the bytes found in the area, none where they are those stored. -/
  | recordLoad (seq : Word) (found : List (BitVec 8))
  /-- REC_EXP_CMD START exports a SEQ range by DMA channel 1, or is rejected (R505). -/
  | exportStart (v : Word)
  /-- REC_EXP_CMD ABORT stops a running export (R505). -/
  | exportAbort (v : Word)
  /-- An export ends as done, aborted or stopped by DMA failure (R505). -/
  | exportEnd (result : Nat)
  -- spec/17
  /-- UPD_CMD BEGIN erases the target slot of a type, or is rejected (R516). -/
  | updateBegin (v : Word)
  /-- The erase of the target slot completes and the slot becomes RECEIVING (R516). -/
  | eraseComplete (type : Nat)
  /-- An update block is checked and written to NOR, making the slot RECEIVED when complete, or rejected (R517). -/
  | blockSubmit (block : List Byte)
  /-- UPD_CMD VERIFY checks a RECEIVED slot, makes it VERIFIED or INVALID and reports compatibility (R519). -/
  | updateVerify (v : Word)
  /-- UPD_CMD ABORT makes a slot being staged INVALID (R520). -/
  | updateAbort (v : Word)
  /-- A NOR program or erase fails and the slot becomes INVALID with cause NOR (R520). -/
  | norFailure (slot : Nat)
  /-- UPD_CMD ACTIVATE writes TRIAL marks and arms a warm restart, or is rejected (R522). -/
  | updateActivate (v : Word)
  /-- At the first boundary with no cycle running, the lanes and masked engines reset and the warm restart pause
  begins (R524). -/
  | activatePause
  /-- The pause's copies, self-tests and warm-state load finish, or a failure leads to a module reset (R524). -/
  | warmRestartComplete (lanesOk : BitVec 3)
  /-- 0xB100.02 = PROVISION generates a new identity key pair and commits PROVISIONED (R532). -/
  | provision (role : Nat)
  /-- 0xB100.02 = RELEASE commits FIELD once the keys and endorsement are present (R535). -/
  | release (role : Nat)
  /-- 0xB100.02 = RETURN erases the keys and commits RETURNED (R535). -/
  | returnToMaker (role : Nat)
  /-- 0xB100.02 = SCRAP erases everything and commits SCRAPPED (R535). -/
  | scrap (role : Nat)
  /-- 0xB130 = 0x01 opens boundary scan, first committing FIELD-OPEN where required (R537). -/
  | openBoundaryScan (role : Nat)
  /-- 0xB130 = 0x02 opens debug access, first committing FIELD-OPEN where required (R537). -/
  | openDebug (role : Nat)
  /-- A TAP instruction other than BYPASS or IDCODE while access is closed executes as BYPASS and is counted (R537). -/
  | tapInstruction (ir : Nat)
  /-- A write of 0xB110.01 sets the session's attestation nonce (R534). -/
  | attestationNonce (session txn : Half) (nonce : List Byte)
  /-- A read of 0xB110.02 builds and signs the attestation report (R534). -/
  | attestationReport (session txn : Half)
  /-- SEC_OP SHA512 computes the SHA-512 of the input (R510). -/
  | secSha512 (v : Word)
  /-- SEC_OP VERIFY_PSS verifies a signature under an image-signing slot (R510). -/
  | secVerifyPss (v : Word)
  /-- SEC_OP SIGN_APP signs "SNAPPSIG" followed by the input with the identity key (R533). -/
  | secSignApp (v : Word)
  /-- A read of UPD_RNG returns a new random value, once for all lanes (R473). -/
  | updRngRead (lane : Lane) (core : Nat)
  -- spec/18, spec/19
  /-- A NOR slot is read and a block with a failing margin is rewritten in place under the conditions of R507 (R507). -/
  | norRefresh (slot : Nat) (blocks : Nat) (marginFail : Bool)
  /-- The DRAM scrub reads and corrects words at its budget (R539). -/
  | dramScrub (lane : Lane) (corrected : List (Nat × Nat)) (percent : Nat)
  /-- The scratchpad scrub reads and corrects words at its budget (R539). -/
  | spmScrub (lane : Lane) (corrected : List (Nat × Nat)) (passEnd : Bool)
  /-- The supervisor read-verifies the committed MRAM halves, setting MRAM_FAULT on failure (R539). -/
  | mramReadVerify (ok : Bool) (spareLeft : Bool)
  /-- REC reads the kept copies and rewrites aged pages, repairing from the other copy (R539). -/
  | nandRefresh (rewritten : Nat) (repaired : Nat) (failed : Nat)
  /-- Link margin is measured on every port in use once per second, with MARGIN_WARN after 10 s below the threshold
  (R539). -/
  | linkMarginCheck (port : Nat) (margin : Int)
  /-- A background activity misses its period, setting its TLM_BG_STATUS bit and raising TLM_BG_LATE (R540). -/
  | bgLate (activity : Nat)
  /-- At each whole second of TB2 the telemetry snapshot is taken and TLM_PUB_SEQ advances (R544). -/
  | telemetrySnapshot (temps : List Int) (vin power : Nat)
  /-- The cold wall rises above 80 °C and an excursion begins (R580). -/
  | tempExcursionBegin (edge : Int)
  /-- An excursion ends and a TEMP_EXCURSION record with its duration and peak is written (R580). -/
  | tempExcursionEnd (edge : Int)
  /-- An AX excursion reaches 10 min, is outside the rating and is recorded (R5). -/
  | tempExcursionLimit
  /-- The highest sensor stays at or above 110 °C for 1 s and the module goes fail-silent after a record (R580). -/
  | thermalShutdown (peak : Int)
  -- events of several chapters
  /-- At each voted sample strobe (1 MHz DI and speed, 200 kHz analog, inertial) the capture paths sample and the
  Sluice agrees each code or value, counting straddles, path disagreements and INVALID samples (R88). -/
  | sampleStrobe (kind : Nat) (samples : List (Tri Int))
  /-- At each 100 kHz tracker update the supply phase and frequency are advanced and stamped, and channel values,
  frequency means and harmonic windows are refreshed (R172). -/
  | supTrackerUpdate (freq : Nat) (phase : Word)
  /-- A trunk or star PHY completes training and links up, which starts the port's deviation calibration and the first
  stage of ring restoration (R140). -/
  | phyLinkUp (port : Nat) (speed : Nat)
  /-- A star or maintenance port PHY reports link loss, the port goes down and a PORT_DOWN record is written (R35). -/
  | portDown (port : Nat)
  /-- The partner releases FAIL_N; the active module ends its FULL resynchronisation and reports the partner READY
  (R381). -/
  | partnerFailReleased
  /-- 50 ms after the ROLE timeout, a module with GA_0 = 1 proceeds as active if PARTNER_CLAIM_N is still released,
  and otherwise enters STANDBY (R374). -/
  | ga1ClaimWaitEnd
  /-- A DI group supply falls below 16.8 V, so LOW is reported and DIO_SUPPLY_LOW is raised (R345). -/
  | diSupplyLow (group mv : Nat)
  /-- A DO group supply in LOW rises above 17.3 V and the group returns to NORMAL (R355). -/
  | doSupplyLowExit (group mv : Nat)
  /-- The current of a channel reported OPEN_LOAD returns and the report clears (R358). -/
  | openLoadClear (chan : Nat)
  /-- The 24 h TB2 window of the correction-rate count ends, and CE_RATE clears (R423). -/
  | ceRateWindowEnd (lane : Lane)
  /-- The supervisor detects a fault of the field front end and opens the DO group switches with cause SUPERVISOR
  (R354). -/
  | frontEndFault
  /-- Two voter slices find a third slice's output (voter, comparator or filter) in disagreement and remove it from
  the 2oo3 (R35). -/
  | sliceOutputDisagreement (slice : Nat)
  /-- The delay of RING × 1 ms after a broadcast READ or INFO request expires, and the module sends its answer (R486). -/
  | broadcastReplyDelay
  deriving DecidableEq, Repr

end Sys2Proof
end

