-- ==== Sys2Proof/Config.lean ====
section
/-! DEFINITION. What a unit fixes (R1, R2, Table 2.8, R492) and the values the spec leaves open. Every constant here is
opaque: nothing in Lean can evaluate it, so a statement about it holds for every value. The assumption log names each. -/
namespace Sys2Proof.Config

/-- Hardware revision of the unit, SYS_ID.HW_REV (Table 2.8: per unit). Log 3. -/
opaque hwRev : BitVec 8
/-- Grade of the unit: false SN-EVM3-A0, true SN-EVM3-AX (Table 0.1). Log 3. -/
opaque gradeAX : Bool
/-- Unit ID, 0x1018.06 (per unit). Log 3. -/
opaque unitId : BitVec 128
/-- Serial number and order code objects 0x1018.04 and .07 (per unit). Log 3. -/
opaque serialByte : Nat → Byte
opaque orderCodeByte : Nat → Byte
/-- Tag of field `i` of record type `t` in the type catalogue of the loaded LRT image (R492). Log 4. -/
opaque catalogueTag : Nat → Nat → BitVec 8
/-- Bytes of the type catalogue 0xA020 (per image). Log 4. -/
opaque catalogueByte : Nat → Byte
/-- FACTORY public key slot 0, fixed in boot ROM (Table 17.9). Log 3. -/
opaque factoryKey : BitVec 4096
/-- Rate correction that the TB2 trim curve 0x2305 gives at a module temperature in 0.1 degrees C, in units of 2^-40 ns per ns; the spec does
not give the curve's layout (R137). Log 107. -/
opaque trimAt : Int → Int
/-- Byte `i` of the TB2 trim curve 0x2305 (per unit, FACTORY). Log 3. -/
opaque trimCurveByte : Nat → Byte

/-- What a CPF image declares of its program data area, by byte offset (R282, R313, R318): the change map and the forceable locations; the
content that the program's initialisation gives it (R57). The spec does not give the image's layout. Log 15. -/
opaque changeable : List Byte → Nat → Bool
opaque forceable : List Byte → Nat → Bool
opaque initialData : List Byte → Nat → Byte
/-- The number of 4 KiB pages of the program data area, and the first page and the number of pages of its retained data (R282, Table 11.2). Log 15. -/
opaque dataPages : List Byte → Nat
opaque retainedFrom : List Byte → Nat
opaque retainedPages : List Byte → Nat

/-- A byte of a half header of the local MRAM at its offset, for the state (0 EMPTY, 1 INCOMPLETE, 2 COMMITTED), the set number and the cycle that it
shows (R380). The spec does not give the header's layout. Log 13. -/
opaque halfHeader (state set cycle offset : Nat) : Byte

/-- A CPF keeps to the limits of R282. Log 15. -/
opaque cpfWithin : List Byte → Bool

/-- What the LRT and CPF images define of the application parameters 0xC000 to 0xEFFF (R467): type code, maximum length, access code,
write role, persistence code. The spec does not give the images' layout. Log 15. -/
opaque appObject : List Byte → List Byte → Nat → Nat → Option (Nat × Nat × Nat × Nat × Nat)
/-- Highest sub-index of such an object; none where the images define no object. Log 15. -/
opaque appHighest : List Byte → List Byte → Nat → Option Nat

/-- Default of such an object. Log 15. -/
opaque appDefault : List Byte → List Byte → Nat → Nat → List Byte

/-- The SHA-512 function of the standard the spec names; the spec does not restate it. Log 5. -/
opaque sha512 : List Byte → BitVec 512
/-- RSASSA-PSS verification with the parameters of R481: key, message, signature. Log 5. -/
opaque pssVerify : BitVec 4096 → List Byte → List Byte → Bool
/-- RSASSA-PSS signature of R533: private key identity, message. Log 5. -/
opaque pssSign : Nat → List Byte → List Byte
/-- Public key (modulus) of the n-th identity key pair generated by PROVISION (R532). Log 5. -/
opaque identityPublic : Nat → BitVec 4096
/-- AES-256-GCM tag check of R511: key, header, payload. Log 5. -/
opaque gcmTagOk : BitVec 256 → List Byte → List Byte → Bool

/-- What the output controller measures of DO channel `n` at a module time: voltage in 10 mV in [15:0], current in mA in [31:16]; and
the clamp energy of a turn-off at that time, in mJ (R358, R362). Measured values that no command carries. Log 17. -/
opaque outMeas : Nat → Nat → Word
opaque clampEnergy : Nat → Nat → Nat

/-- EN 50160 value of a harmonic of order 2 to 25, in 0.01 % (Table 5.5); the spec does not restate it. Log 65. -/
opaque harmonicLimit : Nat → Nat

/-- How far the copies of module time in lane `l` (0 to 2) are from module time at the n-th 1 us strobe, in 1/256 ns, used within the bound of
R120. Log 59. -/
opaque laneSkew : Nat → Nat → Int

/-- The n-th free 32-bit value (an UPD_RNG read, a nonce word, a value the spec leaves open). Log 6. -/
opaque freeWord : Nat → Word
/-- The n-th free integer, used where the spec states a quantity only within a bound. Log 6. -/
opaque freeInt : Nat → Int

end Sys2Proof.Config
end

