-- ==== Sys2Proof/Machine/Regs.lean ====
section
/-! DEFINITION. The register map: every register of the block summary tables of spec/02 to spec/18, with its
offset, access code (Table 0.3), reset value and Update column, and the interrupt identifiers of Tables 2.14 to 18.11.
Offsets are from 0x20_0000_0000 (block offset of Table 1.3 and register offset together); the SPM block, whose registers lie in
the scratchpad region at 0x10_0400_0000, is given the model's own offset 0x11_0000 in this map. -/
namespace Sys2Proof

/-- Access codes of Table 0.3. -/
inductive Access where
  | rw | ro | wo | w1c | rc
  deriving DecidableEq, Repr

/-- The Update column (R12, R333): LIVE, SHADOWED with its boundary, or none. -/
inductive Update where
  | live | shadowCycle | shadowCluster | shadowMatrix | none
  deriving DecidableEq, Repr

/-- One row of a block summary table: `count` registers of one name, `stride` bytes apart. -/
structure RegRow where
  name   : String
  off    : Nat
  stride : Nat
  count  : Nat
  access : Access
  update : Update
  reset  : BitVec 32
  deriving DecidableEq, Repr

namespace Off

/-! ICU (spec/12) -/
abbrev ICU_CLAIM_N : Nat := 0x0
abbrev ICU_CLAIM_F : Nat := 0x4
abbrev ICU_COMPLETE : Nat := 0x8
abbrev ICU_RUNPRI : Nat := 0xC
abbrev ICU_CORE_STATE : Nat := 0x10
abbrev ICU_ACTIVE : Nat := 0x14
abbrev ICU_SWI_SET : Nat := 0x18
abbrev ICU_EXT_CFG : Nat := 0x40
abbrev ICU_EXT_STAMP : Nat := 0x80
abbrev ICU_EXT_LEVEL : Nat := 0xC0
abbrev ICU_EXT_DORMANT : Nat := 0xC4
abbrev ICU_CFG_STATUS : Nat := 0xC8
abbrev ICU_PEND : Nat := 0x200
abbrev ICU_ACTV : Nat := 0x240
abbrev ICU_SRC_CFG : Nat := 0x1004
abbrev ICU_SPURIOUS_CNT : Nat := 0x100
abbrev ICU_BAD_COMPLETE_CNT : Nat := 0x104
abbrev ICU_WITHDRAW_CNT : Nat := 0x108
abbrev ICU_ABANDON_CNT : Nat := 0x10C
abbrev ICU_TAILCHAIN_CNT : Nat := 0x110
abbrev ICU_SWI_REJECTS : Nat := 0x114
abbrev ICU_EXT_LOST_CNT : Nat := 0x118
abbrev ICU_FAST_MAX : Nat := 0x11C
abbrev ICU_DORMANT_EDGES : Nat := 0x120
/-! VOT (spec/03) -/
abbrev VOT_CFG : Nat := 0x10000
abbrev VOT_BLOCK_CLASS : Nat := 0x10004
abbrev VOT_INPUT_CFG : Nat := 0x10008
abbrev VOT_MEAS_TOL : Nat := 0x1000C
abbrev VOT_REJOIN_CFG : Nat := 0x10010
abbrev VOT_CFG_STATUS : Nat := 0x10014
abbrev VOT_REJOIN_REQ : Nat := 0x10018
abbrev VOT_FENCE : Nat := 0x1001C
abbrev VOT_LANE_STATE : Nat := 0x10020
abbrev VOT_LANE_CAUSE : Nat := 0x10024
abbrev VOT_DIGEST_LO : Nat := 0x10028
abbrev VOT_DIGEST_HI : Nat := 0x1002C
abbrev VOT_DIS_ADDR : Nat := 0x10030
abbrev VOT_DIS_INFO : Nat := 0x10034
abbrev VOT_OUT_STATUS : Nat := 0x10038
abbrev VOT_PATH_MASK_DI : Nat := 0x10040
abbrev VOT_PATH_MASK_MS : Nat := 0x1004C
abbrev VOT_OUT_CLASS : Nat := 0x10060
abbrev VOT_DIS_CNT : Nat := 0x10080
abbrev VOT_SKEW_CNT : Nat := 0x1008C
abbrev VOT_EXCL_CNT : Nat := 0x10098
abbrev VOT_STRADDLE_CNT : Nat := 0x100A4
abbrev VOT_NOAGREE_CNT : Nat := 0x100A8
abbrev VOT_REJOIN_CNT : Nat := 0x100AC
abbrev VOT_REQ_REJECTS : Nat := 0x100B0
abbrev VOT_SKIPPED_CNT : Nat := 0x100B4
/-! CYC (spec/09) -/
abbrev CYC_CFG : Nat := 0x20000
abbrev CYC_FREE_PERIOD : Nat := 0x20004
abbrev CYC_IMG_CFG : Nat := 0x20008
abbrev CYC_LOCAL_CFG : Nat := 0x2000C
abbrev CYC_DIGEST_CFG : Nat := 0x20010
abbrev CYC_CFG_STATUS : Nat := 0x20014
abbrev CYC_STATUS : Nat := 0x20018
abbrev CYC_COUNT_LO : Nat := 0x2001C
abbrev CYC_COUNT_HI : Nat := 0x20020
abbrev CYC_EXEC_TIME : Nat := 0x20024
abbrev CYC_OC_SEL : Nat := 0x20040
abbrev CYC_OC_ADDR : Nat := 0x20044
abbrev CYC_OC_VAL_LO : Nat := 0x20048
abbrev CYC_OC_VAL_HI : Nat := 0x2004C
abbrev CYC_OC_CMD : Nat := 0x20050
abbrev CYC_OC_STATUS : Nat := 0x20054
abbrev CYC_OC_TARGET : Nat := 0x20058
abbrev CYC_FRC_SEL : Nat := 0x20060
abbrev CYC_FRC_ADDR : Nat := 0x20064
abbrev CYC_FRC_VAL_LO : Nat := 0x20068
abbrev CYC_FRC_VAL_HI : Nat := 0x2006C
abbrev CYC_FRC_CMD : Nat := 0x20070
abbrev CYC_FRC_STATUS : Nat := 0x20074
abbrev CYC_FRC_TARGET : Nat := 0x20078
abbrev CYC_STN_SEL : Nat := 0x20080
abbrev CYC_STN_CFG : Nat := 0x20084
abbrev CYC_STN_STAT : Nat := 0x20088
abbrev CYC_OVERRUN_CNT : Nat := 0x200C0
abbrev CYC_SKIP_CNT : Nat := 0x200C4
abbrev CYC_OC_APPLIED : Nat := 0x200C8
abbrev CYC_OC_REJECTS : Nat := 0x200CC
abbrev CYC_FRC_COMMITS : Nat := 0x200D0
abbrev CYC_FRC_REJECTS : Nat := 0x200D4
abbrev CYC_STN_INVALID_CNT : Nat := 0x200D8
abbrev CYC_CFG_REPLACED : Nat := 0x200DC
abbrev CYC_FALLBACK_CNT : Nat := 0x200E0
abbrev CYC_IMG_OVERLAP : Nat := 0x200E4
abbrev CYC_STN_UNLISTED : Nat := 0x200E8
/-! TB (spec/04) -/
abbrev TB_NS : Nat := 0x30000
abbrev TB_FRAC : Nat := 0x30004
abbrev TB_SEC_LO : Nat := 0x30008
abbrev TB_SEC_HI : Nat := 0x3000C
abbrev TB_CTIME : Nat := 0x30010
abbrev TB_RATE_LO : Nat := 0x30014
abbrev TB_RATE_HI : Nat := 0x30018
abbrev TB_SERVO_CFG : Nat := 0x3001C
abbrev TB_GAINS : Nat := 0x30020
abbrev TB_HOLD_CFG : Nat := 0x30024
abbrev TB_OFFSET_IN : Nat := 0x30028
abbrev TB_STEP_LO : Nat := 0x3002C
abbrev TB_STEP_HI : Nat := 0x30030
abbrev TB_STATUS : Nat := 0x30034
abbrev TB_LAST_OFFSET : Nat := 0x30038
abbrev TB_INTEGRAL : Nat := 0x3003C
abbrev TB_CFG : Nat := 0x30100
abbrev TB_CFG_STATUS : Nat := 0x30104
abbrev TB_TRIM : Nat := 0x30108
abbrev TB_IPT_NS : Nat := 0x30110
abbrev TB_IPT_SEC_LO : Nat := 0x30114
abbrev TB_IPT_SEC_HI : Nat := 0x30118
abbrev TB_IPT_CTIME : Nat := 0x3011C
abbrev TB_STEP_CNT : Nat := 0x30180
abbrev TB_CLAMP_CNT : Nat := 0x30190
abbrev TB_REJECT_CNT : Nat := 0x301A0
abbrev TB_HOLD_CNT : Nat := 0x301A4
abbrev TB_ALIGN_MAX : Nat := 0x301A8
/-! PST (spec/06) -/
abbrev PST_CFG : Nat := 0x40000
abbrev PST_SYNC_CFG : Nat := 0x40004
abbrev PST_CFG_STATUS : Nat := 0x40008
abbrev PST_CMD : Nat := 0x40010
abbrev PST_CMD_STATUS : Nat := 0x40014
abbrev PST_SUMMARY : Nat := 0x40018
abbrev PST_SYNC_STATE : Nat := 0x4001C
abbrev PST_POS_LO : Nat := 0x40020
abbrev PST_POS_HI : Nat := 0x40024
abbrev PST_PHASE : Nat := 0x40028
abbrev PST_FIRE_LEVEL : Nat := 0x40040
abbrev PST_FIRE_HEAD : Nat := 0x40044
abbrev PST_FIRE_TIME : Nat := 0x40048
abbrev PST_ARM_MASK : Nat := 0x40080
abbrev PST_WIN_MIN_LO : Nat := 0x40100
abbrev PST_WIN_MIN_HI : Nat := 0x40104
abbrev PST_WIN_MAX_LO : Nat := 0x40108
abbrev PST_WIN_MAX_HI : Nat := 0x4010C
abbrev PST_STAMP : Nat := 0x44000
abbrev PST_ENTRY_W0 : Nat := 0x48000
abbrev PST_ENTRY_W1 : Nat := 0x48004
abbrev PST_ENTRY_W2 : Nat := 0x48008
abbrev PST_ENTRY_W3 : Nat := 0x4800C
abbrev PST_ENTRY_W4 : Nat := 0x48010
abbrev PST_ENTRY_W5 : Nat := 0x48014
abbrev PST_ENTRY_W6 : Nat := 0x48018
abbrev PST_ENTRY_W7 : Nat := 0x4801C
abbrev PST_FIRE_CNT : Nat := 0x40300
abbrev PST_MISSED_CNT : Nat := 0x40304
abbrev PST_SKIPPED_CNT : Nat := 0x40308
abbrev PST_SUPPRESSED_CNT : Nat := 0x4030C
abbrev PST_CONFLICT_CNT : Nat := 0x40310
abbrev PST_STEPPED_CNT : Nat := 0x40314
abbrev PST_JUMPED_CNT : Nat := 0x40318
abbrev PST_INVALID_CNT : Nat := 0x4031C
abbrev PST_WRITE_REJECTS : Nat := 0x40320
abbrev PST_ACT_LOST_CNT : Nat := 0x40324
/-! ODO (spec/05) -/
abbrev ODO_CFG : Nat := 0x50000
abbrev ODO_SLIP_CFG : Nat := 0x50004
abbrev ODO_UNC_CFG : Nat := 0x50008
abbrev ODO_BRIDGE_CFG : Nat := 0x5000C
abbrev ODO_FIX_CFG : Nat := 0x50010
abbrev ODO_REMOTE_CFG : Nat := 0x50014
abbrev ODO_IMU_CFG : Nat := 0x50018
abbrev ODO_CFG_STATUS : Nat := 0x5001C
abbrev ODO_SENSOR_CFG : Nat := 0x50020
abbrev ODO_DIAM : Nat := 0x50030
abbrev ODO_POS_LO : Nat := 0x50040
abbrev ODO_POS_HI : Nat := 0x50044
abbrev ODO_VEL : Nat := 0x50048
abbrev ODO_ACC : Nat := 0x5004C
abbrev ODO_QUALITY : Nat := 0x50050
abbrev ODO_UNC : Nat := 0x50054
abbrev ODO_EST_CTIME : Nat := 0x50058
abbrev ODO_EST_SEQ : Nat := 0x5005C
abbrev ODO_FIX_POS_LO : Nat := 0x50060
abbrev ODO_FIX_POS_HI : Nat := 0x50064
abbrev ODO_FIX_CTIME : Nat := 0x50068
abbrev ODO_FIX_INFO : Nat := 0x5006C
abbrev ODO_FIX_CMD : Nat := 0x50070
abbrev ODO_FIX_STATUS : Nat := 0x50074
abbrev ODO_FIX_CORR : Nat := 0x50078
abbrev ODO_SENS_VEL : Nat := 0x50080
abbrev ODO_SENS_STATE : Nat := 0x50090
abbrev ODO_DIAM_EFF : Nat := 0x500A0
abbrev ODO_IMU : Nat := 0x500B0
abbrev ODO_FIX_ACCEPT_CNT : Nat := 0x50100
abbrev ODO_FIX_REJECT_CNT : Nat := 0x50104
abbrev ODO_FIX_FORCED_CNT : Nat := 0x50108
abbrev ODO_SLIP_CNT : Nat := 0x5010C
abbrev ODO_SLIDE_CNT : Nat := 0x50110
abbrev ODO_BRIDGE_CNT : Nat := 0x50114
abbrev ODO_SENSOR_FAULT_CNT : Nat := 0x50118
abbrev ODO_REVERSAL_CNT : Nat := 0x5011C
abbrev ODO_REMOTE_STALE_CNT : Nat := 0x50120
abbrev ODO_DIAM_CAL_CNT : Nat := 0x50124
/-! SUP (spec/05) -/
abbrev SUP_CFG : Nat := 0x60000
abbrev SUP_CH_CFG : Nat := 0x60004
abbrev SUP_CH_SCALE : Nat := 0x60014
abbrev SUP_CH_OFFSET : Nat := 0x60024
abbrev SUP_CFG_STATUS : Nat := 0x60034
abbrev SUP_LIM : Nat := 0x60040
abbrev SUP_LOCK : Nat := 0x60080
abbrev SUP_PHASE : Nat := 0x60084
abbrev SUP_FREQ : Nat := 0x60088
abbrev SUP_PHASE_CTIME : Nat := 0x6008C
abbrev SUP_VAL : Nat := 0x60090
abbrev SUP_INST : Nat := 0x600A0
abbrev SUP_THD : Nat := 0x600B0
abbrev SUP_ACTIVE : Nat := 0x600B4
abbrev SUP_FIFO_LEVEL : Nat := 0x600B8
abbrev SUP_DIST_HEAD : Nat := 0x600C0
abbrev SUP_DIST_START : Nat := 0x600C4
abbrev SUP_DIST_DUR : Nat := 0x600C8
abbrev SUP_DIST_EXTREME : Nat := 0x600CC
abbrev SUP_HARM : Nat := 0x60200
abbrev SUP_DIST_CNT : Nat := 0x60100
abbrev SUP_FIFO_LOST : Nat := 0x60118
abbrev SUP_RANGE_CNT : Nat := 0x6011C
abbrev SUP_CAL_CNT : Nat := 0x60120
abbrev SUP_LOCK_LOSS_CNT : Nat := 0x60124
/-! FTN (spec/07/08) -/
abbrev FTN_TS_CORR : Nat := 0x7E000
abbrev FTN_TS_CAL_REQ : Nat := 0x7E060
abbrev FTN_TS_CAL_STATUS : Nat := 0x7E064
abbrev FTN_NODE_CFG : Nat := 0x70000
abbrev FTN_PORT_EN : Nat := 0x70004
abbrev FTN_MATRIX_CFG : Nat := 0x70008
abbrev FTN_MATRIX_CFG2 : Nat := 0x7000C
abbrev FTN_ARB_CFG : Nat := 0x70010
abbrev FTN_STAR_BCAST : Nat := 0x70014
abbrev FTN_CTRL : Nat := 0x70018
abbrev FTN_MATRIX_CMD : Nat := 0x7001C
abbrev FTN_MATRIX_STATUS : Nat := 0x70020
abbrev FTN_MATRIX_ID : Nat := 0x70024
abbrev FTN_CFG_STATUS : Nat := 0x70028
abbrev FTN_CYCLE_STATE : Nat := 0x7002C
abbrev FTN_CYCLE_CTIME : Nat := 0x70030
abbrev FTN_CP_ERR : Nat := 0x70034
abbrev FTN_CP : Nat := 0x70040
abbrev FTN_SLOT_SEL : Nat := 0x70100
abbrev FTN_SLOT : Nat := 0x70104
abbrev FTN_SLOT_RXSTAT : Nat := 0x70118
abbrev FTN_TXB_SEL : Nat := 0x70120
abbrev FTN_TXB_HDR : Nat := 0x70124
abbrev FTN_TXB_CFG : Nat := 0x70128
abbrev FTN_TXB_CMD : Nat := 0x7012C
abbrev FTN_TXB_STATUS : Nat := 0x70130
abbrev FTN_RXB_SEL : Nat := 0x70140
abbrev FTN_RXB_INFO : Nat := 0x70144
abbrev FTN_RXB_OBJ : Nat := 0x70148
abbrev FTN_RXB_TIME : Nat := 0x7014C
abbrev FTN_RXB_SSTAT : Nat := 0x70150
abbrev FTN_RX_STAT : Nat := 0x70200
abbrev FTN_TXB_DATA : Nat := 0x78000
abbrev FTN_RXB_DATA : Nat := 0x79000
abbrev FTN_RX_OK : Nat := 0x70600
abbrev FTN_RX_FCS_ERR : Nat := 0x70604
abbrev FTN_RX_BAD_HDR : Nat := 0x70608
abbrev FTN_RX_CRC_ERR : Nat := 0x7060C
abbrev FTN_RX_WRONG_SLOT : Nat := 0x70610
abbrev FTN_RX_MISSING : Nat := 0x70614
abbrev FTN_RX_NULL : Nat := 0x70618
abbrev FTN_CH_MISMATCH : Nat := 0x7061C
abbrev FTN_SEQ_GAP : Nat := 0x70620
abbrev FTN_TX_FRAMES : Nat := 0x70624
abbrev FTN_TX_NULL : Nat := 0x70628
abbrev FTN_ARB_DROP : Nat := 0x7062C
abbrev FTN_STAR_DROP : Nat := 0x70630
abbrev FTN_HOP_DROP : Nat := 0x70634
abbrev FTN_WRITE_REJECTS : Nat := 0x70638
abbrev FTN_SU_CFG : Nat := 0x71000
abbrev FTN_SU_STATE : Nat := 0x71004
abbrev FTN_SU_LEADER : Nat := 0x71008
abbrev FTN_SYNC_STATUS : Nat := 0x7100C
abbrev FTN_SYNC_CORR : Nat := 0x71010
abbrev FTN_SYNC_DEV : Nat := 0x71040
abbrev FTN_LINK_DELAY : Nat := 0x71080
abbrev FTN_RING_STATE : Nat := 0x71100
abbrev FTN_RING_CMD : Nat := 0x71104
abbrev FTN_GUARD_CFG : Nat := 0x71200
abbrev FTN_GUARD_STATE : Nat := 0x71204
abbrev FTN_GUARD_CMD : Nat := 0x71208
abbrev FTN_STAR_CFG : Nat := 0x7120C
abbrev FTN_GUARD_VIOL : Nat := 0x71240
abbrev FTN_STAR_OFFSET : Nat := 0x71280
abbrev FTN_SU_ATTEMPTS : Nat := 0x71300
abbrev FTN_SU_COLLISIONS : Nat := 0x71304
abbrev FTN_SU_MISMATCH : Nat := 0x71308
abbrev FTN_INTEG_COUNT : Nat := 0x7130C
abbrev FTN_INTEG_LOSS : Nat := 0x71310
abbrev FTN_SYNC_NO_MIDPOINT : Nat := 0x71314
abbrev FTN_SYNC_OUT_WINDOW : Nat := 0x71318
abbrev FTN_GUARD_BLOCKED : Nat := 0x7131C
abbrev FTN_GUARD_TRUNC : Nat := 0x71320
abbrev FTN_RING_LOOPS : Nat := 0x71324
abbrev FTN_RING_RESTORES : Nat := 0x71328
abbrev FTN_LOOPED_RX : Nat := 0x7132C
abbrev FTN_CMD_REJECTS : Nat := 0x71330
/-! DIO (spec/10) -/
abbrev DIO_IN_CFG : Nat := 0x80000
abbrev DIO_OUT_CFG : Nat := 0x80080
abbrev DIO_GRP_CFG : Nat := 0x800C0
abbrev DIO_CFG_STATUS : Nat := 0x800E0
abbrev DIO_OUT_CMD : Nat := 0x80100
abbrev DIO_CTRL_CMD : Nat := 0x80104
abbrev DIO_CMD_STATUS : Nat := 0x80108
abbrev DIO_DI_STATE_LO : Nat := 0x80110
abbrev DIO_DI_STATE_HI : Nat := 0x80114
abbrev DIO_DO_STATE_LO : Nat := 0x80118
abbrev DIO_DO_STATE_HI : Nat := 0x8011C
abbrev DIO_TRIP_STATE : Nat := 0x80120
abbrev DIO_GRP_STATE : Nat := 0x80140
abbrev DIO_GRP_VOLT : Nat := 0x80160
abbrev DIO_OUT_FAULT : Nat := 0x80180
abbrev DIO_OUT_MEAS : Nat := 0x801C0
abbrev DIO_TRIP_MASK : Nat := 0x80200
abbrev DIO_TRIP_POL : Nat := 0x80204
abbrev DIO_TRIP_CFG : Nat := 0x80208
abbrev DIO_SILENCE_CNT : Nat := 0x80300
abbrev DIO_LATCHOFF_CNT : Nat := 0x80304
abbrev DIO_OVERLOAD_CNT : Nat := 0x80308
abbrev DIO_OC_CNT : Nat := 0x8030C
abbrev DIO_OT_CNT : Nat := 0x80310
abbrev DIO_SS_CNT : Nat := 0x80314
abbrev DIO_BACKFEED_CNT : Nat := 0x80318
abbrev DIO_DARK_FAIL_CNT : Nat := 0x8031C
abbrev DIO_IN_TEST_FAIL_CNT : Nat := 0x80320
abbrev DIO_DEMAG_HIGH_CNT : Nat := 0x80324
abbrev DIO_TRIP_CNT : Nat := 0x80328
abbrev DIO_FENCED_CNT : Nat := 0x8032C
abbrev DIO_WRITE_REJECTS : Nat := 0x80330
abbrev DIO_DARK_SKIP_CNT : Nat := 0x80334
/-! BRG (spec/14) -/
abbrev BRG_CFG : Nat := 0x90000
abbrev BRG_LINK_CFG : Nat := 0x90004
abbrev BRG_CFG_STATUS : Nat := 0x90008
abbrev BRG_LINK_STATE : Nat := 0x9000C
abbrev BRG_FENCE : Nat := 0x90010
abbrev BRG_FAIL_LEVEL : Nat := 0x90014
abbrev BRG_FAIL_HEAD : Nat := 0x90018
abbrev BRG_FAIL_ADDR_LO : Nat := 0x9001C
abbrev BRG_FAIL_ADDR_HI : Nat := 0x90020
abbrev BRG_NP_BASE_LO : Nat := 0x90040
abbrev BRG_NP_BASE_HI : Nat := 0x90044
abbrev BRG_NP_CFG : Nat := 0x90048
abbrev BRG_XAREA : Nat := 0x98000
abbrev BRG_WRITE_FAILS : Nat := 0x90100
abbrev BRG_FAIL_LOST : Nat := 0x90104
abbrev BRG_LATE_ANSWERS : Nat := 0x90108
abbrev BRG_READ_EXHAUSTED_CNT : Nat := 0x9010C
abbrev BRG_RETRIES_SENT : Nat := 0x90110
abbrev BRG_HOLD_EXPIRED : Nat := 0x90114
abbrev BRG_SLOTS_FULL : Nat := 0x90118
abbrev BRG_RESENDS : Nat := 0x9011C
abbrev BRG_LINK_DOWNS : Nat := 0x90120
/-! DMA (spec/14) -/
abbrev DMA_DESC_LO : Nat := 0xA0000
abbrev DMA_DESC_HI : Nat := 0xA0004
abbrev DMA_CMD : Nat := 0xA0008
abbrev DMA_STATUS : Nat := 0xA000C
abbrev DMA_DONE_BYTES : Nat := 0xA0010
abbrev DMA_CRC : Nat := 0xA0014
abbrev DMA_CUR_LO : Nat := 0xA0018
abbrev DMA_CUR_HI : Nat := 0xA001C
abbrev DMA_SUMMARY : Nat := 0xA0400
abbrev DMA_BYTES_LO : Nat := 0xA0440
abbrev DMA_BYTES_HI : Nat := 0xA0444
abbrev DMA_ERRORS : Nat := 0xA0448
abbrev DMA_CMD_REJECTS : Nat := 0xA044C
/-! REC (spec/16) -/
abbrev REC_CFG : Nat := 0xB0000
abbrev REC_CFG_STATUS : Nat := 0xB0004
abbrev REC_STATUS : Nat := 0xB0008
abbrev REC_NEWEST_SEQ : Nat := 0xB000C
abbrev REC_OLDEST_SEQ : Nat := 0xB0010
abbrev REC_KEPT_BASE : Nat := 0xB0014
abbrev REC_KEPT_COUNT : Nat := 0xB0018
abbrev REC_READ_SEL : Nat := 0xB0020
abbrev REC_READ_SEQ : Nat := 0xB0024
abbrev REC_READ_STATUS : Nat := 0xB0028
abbrev REC_READ_DATA : Nat := 0xB0100
abbrev REC_APP_DATA : Nat := 0xB0200
abbrev REC_APP_CMD : Nat := 0xB026C
abbrev REC_APP_LEN : Nat := 0xB0270
abbrev REC_APP_STATUS : Nat := 0xB0274
abbrev REC_EXP_FROM : Nat := 0xB0300
abbrev REC_EXP_TO : Nat := 0xB0304
abbrev REC_EXP_DST_LO : Nat := 0xB0308
abbrev REC_EXP_DST_HI : Nat := 0xB030C
abbrev REC_EXP_CFG : Nat := 0xB0310
abbrev REC_EXP_CMD : Nat := 0xB0314
abbrev REC_EXP_STATUS : Nat := 0xB0318
abbrev REC_EXP_COUNT : Nat := 0xB031C
abbrev REC_MAP : Nat := 0xB0400
abbrev REC_PROF_ITEM : Nat := 0xB0800
abbrev REC_RECORDS : Nat := 0xB0600
abbrev REC_FOLDED : Nat := 0xB0604
abbrev REC_LOST_CNT : Nat := 0xB0608
abbrev REC_BAD_CRC_CNT : Nat := 0xB060C
abbrev REC_BAD_BLOCKS : Nat := 0xB0610
abbrev REC_PAGES : Nat := 0xB0614
/-! UPD (spec/17) -/
abbrev UPD_CMD : Nat := 0xC0000
abbrev UPD_STATUS : Nat := 0xC0004
abbrev UPD_STAGE : Nat := 0xC0008
abbrev UPD_STAGE_TOTAL : Nat := 0xC000C
abbrev UPD_SLOT : Nat := 0xC0010
abbrev UPD_VER_A : Nat := 0xC0020
abbrev UPD_VER_B : Nat := 0xC0024
abbrev UPD_BLK_OFFSET : Nat := 0xC0040
abbrev UPD_BLK_LEN : Nat := 0xC0044
abbrev UPD_BLK_CRC : Nat := 0xC0048
abbrev UPD_BLK_CMD : Nat := 0xC004C
abbrev UPD_BLK_STATUS : Nat := 0xC0050
abbrev UPD_COMPAT : Nat := 0xC0060
abbrev UPD_LC_STATE : Nat := 0xC0064
abbrev UPD_RNG : Nat := 0xC0068
abbrev UPD_BLK_DATA : Nat := 0xC1000
abbrev UPD_BLOCKS_OK : Nat := 0xC0080
abbrev UPD_BLOCK_REJECTS : Nat := 0xC0084
abbrev UPD_VERIFY_FAILS : Nat := 0xC0088
abbrev UPD_ACTIVATES : Nat := 0xC008C
abbrev UPD_REVERTS : Nat := 0xC0090
abbrev UPD_TAP_DENIED : Nat := 0xC0094
/-! SEC (spec/17) -/
abbrev SEC_OP : Nat := 0xD0000
abbrev SEC_STATUS : Nat := 0xD0004
abbrev SEC_SRC_LO : Nat := 0xD0008
abbrev SEC_SRC_HI : Nat := 0xD000C
abbrev SEC_LEN : Nat := 0xD0010
abbrev SEC_DST_LO : Nat := 0xD0014
abbrev SEC_DST_HI : Nat := 0xD0018
abbrev SEC_KEYS : Nat := 0xD001C
abbrev SEC_OP_CNT : Nat := 0xD0020
abbrev SEC_REJECT_CNT : Nat := 0xD0024
/-! CHK (spec/11) -/
abbrev CHK_CFG : Nat := 0xE0000
abbrev CHK_PARTNER : Nat := 0xE0004
abbrev CHK_CMP_MASK : Nat := 0xE0008
abbrev CHK_CFG_STATUS : Nat := 0xE000C
abbrev CHK_STATUS : Nat := 0xE0010
abbrev CHK_CLAIM : Nat := 0xE0014
abbrev CHK_HELD_CLAIM : Nat := 0xE0018
abbrev CHK_SIGNALS : Nat := 0xE001C
abbrev CHK_SET_SEQ : Nat := 0xE0020
abbrev CHK_SET_INFO : Nat := 0xE0024
abbrev CHK_LAG : Nat := 0xE0028
abbrev CHK_CMP_REPORT : Nat := 0xE0030
abbrev CHK_CMD : Nat := 0xE0034
abbrev CHK_CMD_STATUS : Nat := 0xE0038
abbrev CHK_SETS_SENT : Nat := 0xE0080
abbrev CHK_PAGES_SENT : Nat := 0xE0084
abbrev CHK_MERGED_CUTS : Nat := 0xE0088
abbrev CHK_RESYNCS : Nat := 0xE008C
abbrev CHK_TAKEOVERS : Nat := 0xE0090
abbrev CHK_CLAIMS_LOST : Nat := 0xE0094
abbrev CHK_REJECTS_SENT : Nat := 0xE0098
abbrev CHK_REJECTS_IGNORED : Nat := 0xE009C
abbrev CHK_CMP_FAILS : Nat := 0xE00A0
abbrev CHK_CMD_REJECTS : Nat := 0xE00A4
/-! SYS (spec/02) -/
abbrev SYS_ID : Nat := 0xF0000
abbrev SYS_MODE_STATE : Nat := 0xF0004
abbrev SYS_MODE_REQ : Nat := 0xF0008
abbrev SYS_MODE_REQ_STATUS : Nat := 0xF000C
abbrev SYS_SH_REASON : Nat := 0xF0010
abbrev SYS_START_CFG : Nat := 0xF0014
abbrev SYS_WAKE_CFG : Nat := 0xF0018
abbrev SYS_WAKE_CAUSE : Nat := 0xF001C
abbrev SYS_RTC_NOW : Nat := 0xF0020
abbrev SYS_RTC_ALARM : Nat := 0xF0024
abbrev SYS_RESET_REQ : Nat := 0xF0028
abbrev SYS_RESET_CAUSE : Nat := 0xF002C
abbrev SYS_START_TIME : Nat := 0xF0030
abbrev SYS_POR_COUNT : Nat := 0xF0040
abbrev SYS_RESET_COUNT : Nat := 0xF0044
abbrev SYS_WARM_COUNT : Nat := 0xF0048
abbrev SYS_MODE_CHANGES : Nat := 0xF004C
abbrev SYS_REQ_REJECTS : Nat := 0xF0050
abbrev SYS_OP_SECONDS : Nat := 0xF0054
/-! TLM (spec/18) -/
abbrev TLM_CFG : Nat := 0x100000
abbrev TLM_CFG_STATUS : Nat := 0x100004
abbrev TLM_PUB_SEQ : Nat := 0x100008
abbrev TLM_TEMP : Nat := 0x10000C
abbrev TLM_VIN : Nat := 0x100010
abbrev TLM_POWER : Nat := 0x100014
abbrev TLM_FAULTS : Nat := 0x100018
abbrev TLM_PORTS_UP : Nat := 0x10001C
abbrev TLM_BG_STATUS : Nat := 0x100020
abbrev TLM_SCRUB_PROGRESS : Nat := 0x100024
abbrev TLM_MARGIN : Nat := 0x100040
abbrev TLM_UNMAPPED_CNT : Nat := 0x100100
abbrev TLM_REPLACED_CNT : Nat := 0x100104
abbrev TLM_HUBPORT_ERR : Nat := 0x100108
abbrev TLM_BG_LATE_CNT : Nat := 0x100114
abbrev TLM_MARGIN_WARN_CNT : Nat := 0x100118
abbrev TLM_PUB_MISSED : Nat := 0x10011C
/-! SPM (spec/13) -/
abbrev SPM_ECC_CFG : Nat := 0x110000
abbrev SPM_ECC_STATUS : Nat := 0x110004
abbrev SPM_DRAM_ERR_LO : Nat := 0x110008
abbrev SPM_DRAM_ERR_HI : Nat := 0x11000C
abbrev SPM_DRAM_ERR_INFO : Nat := 0x110010
abbrev SPM_SPM_ERR_ADDR : Nat := 0x110014
abbrev SPM_SPM_ERR_INFO : Nat := 0x110018
abbrev SPM_SECURE_STATE : Nat := 0x110020
abbrev SPM_DRAM_CE_CNT : Nat := 0x110080
abbrev SPM_DRAM_UE_CNT : Nat := 0x110084
abbrev SPM_SPM_CE_CNT : Nat := 0x110088
abbrev SPM_SPM_UE_CNT : Nat := 0x11008C
abbrev SPM_B0_COLLIDE_CNT : Nat := 0x110090
abbrev SPM_ALIAS_ERR_CNT : Nat := 0x110094
abbrev SPM_SECURE_DENY_CNT : Nat := 0x110098
abbrev SPM_MAP_ERR_CNT : Nat := 0x11009C
abbrev SPM_WIPE_CNT : Nat := 0x1100A0
abbrev SPM_MRAM_WRITE_REJECTS : Nat := 0x1100A4
end Off

namespace Irq

abbrev SYS_MODE_CHANGE : Nat := 1
abbrev SYS_REQ_DONE : Nat := 2
abbrev SYS_SUPPLY_WARN : Nat := 3
abbrev SYS_RTC_ALARM : Nat := 4
abbrev VOT_DISAGREE : Nat := 64
abbrev VOT_SKEW : Nat := 65
abbrev VOT_EXCLUDED : Nat := 66
abbrev VOT_READMITTED : Nat := 67
abbrev VOT_REJOIN_FAILED : Nat := 68
abbrev VOT_DIGEST_MISMATCH : Nat := 69
abbrev VOT_PATH_MASKED : Nat := 70
abbrev VOT_OUT_VOTED : Nat := 71
abbrev VOT_SLICE_REMOVED : Nat := 72
abbrev TB_STEP : Nat := 384
abbrev TB_STATE : Nat := 385
abbrev TB_HOLDOVER : Nat := 386
abbrev TB_CLAMP : Nat := 387
abbrev TB_OFFSET_REJECT : Nat := 388
abbrev TB_CAL_DONE : Nat := 389
abbrev ODO_FIX_ACCEPTED : Nat := 400
abbrev ODO_FIX_REJECTED : Nat := 401
abbrev ODO_SLIP_SLIDE : Nat := 402
abbrev ODO_STANDSTILL : Nat := 403
abbrev ODO_QUALITY_CHG : Nat := 404
abbrev ODO_SENSOR_FAULT : Nat := 405
abbrev ODO_REVERSAL : Nat := 406
abbrev SUP_LOCK_CHG : Nat := 416
abbrev SUP_DIST_START : Nat := 417
abbrev SUP_DIST_END : Nat := 418
abbrev SUP_DIST_OVERFLOW : Nat := 419
abbrev SUP_RANGE : Nat := 420
abbrev SUP_CAL : Nat := 421
abbrev PST_FIRE_LOG : Nat := 192
abbrev PST_MISSED : Nat := 193
abbrev PST_SKIPPED : Nat := 194
abbrev PST_CONFLICT : Nat := 195
abbrev PST_SUPPRESSED : Nat := 196
abbrev PST_STEPPED_JUMPED : Nat := 197
abbrev PST_ACT_LOST : Nat := 198
abbrev PST_STORE_ERROR : Nat := 199
abbrev PST_CMD_DONE : Nat := 200
abbrev FTN_RX : Nat := 128
abbrev FTN_RX_MISSING : Nat := 129
abbrev FTN_RX_ERROR : Nat := 130
abbrev FTN_TX_DONE : Nat := 131
abbrev FTN_NULL_SENT : Nat := 132
abbrev FTN_CH_MISMATCH : Nat := 133
abbrev FTN_ARB_RX : Nat := 134
abbrev FTN_ARB_DROP : Nat := 135
abbrev FTN_MATRIX_DONE : Nat := 136
abbrev FTN_STAR_DROP : Nat := 137
abbrev FTN_INTEGRATED : Nat := 144
abbrev FTN_INTEG_LOST : Nat := 145
abbrev FTN_COLDSTART : Nat := 146
abbrev FTN_COLLISION : Nat := 147
abbrev FTN_SYNC_INVALID : Nat := 148
abbrev FTN_SYNC_OUT_WINDOW : Nat := 149
abbrev FTN_GUARD_VIOLATION : Nat := 150
abbrev FTN_GUARD_BLOCK : Nat := 151
abbrev FTN_GUARD_DISABLE : Nat := 152
abbrev FTN_STAR_OFFSET : Nat := 153
abbrev FTN_RING_LOOP : Nat := 154
abbrev FTN_RING_RESTORED : Nat := 155
abbrev FTN_LOOPED_SEEN : Nat := 156
abbrev FTN_MATRIX_MISMATCH : Nat := 157
abbrev CYC_START : Nat := 80
abbrev CYC_OVERRUN : Nat := 81
abbrev CYC_OC_DONE : Nat := 82
abbrev CYC_FRC_DONE : Nat := 83
abbrev CYC_STN_INVALID : Nat := 84
abbrev CYC_FALLBACK : Nat := 85
abbrev CYC_CFG_REJECT : Nat := 86
abbrev CYC_SKIPPED : Nat := 87
abbrev DIO_OUT_FAULT : Nat := 288
abbrev DIO_SUPPLY_LOW : Nat := 289
abbrev DIO_LATCHOFF : Nat := 290
abbrev DIO_RESTORE_READY : Nat := 291
abbrev DIO_TRIP : Nat := 292
abbrev DIO_SILENCE : Nat := 293
abbrev DIO_DARK_FAIL : Nat := 294
abbrev DIO_IN_TEST_FAIL : Nat := 295
abbrev DIO_CMD_DONE : Nat := 296
abbrev DIO_DEMAG_HIGH : Nat := 297
abbrev DIO_IN_SUPPLY : Nat := 298
abbrev CHK_CLAIM_TAKEN : Nat := 16
abbrev CHK_CLAIM_LOST : Nat := 17
abbrev CHK_PARTNER_CHG : Nat := 18
abbrev CHK_PROTECTION_CHG : Nat := 19
abbrev CHK_CMP_FAIL : Nat := 20
abbrev CHK_RESYNC : Nat := 21
abbrev CHK_CMD_DONE : Nat := 22
abbrev CHK_CLAIM_CONFLICT : Nat := 23
abbrev BRG_WRITE_FAIL : Nat := 320
abbrev BRG_FIFO_OVERFLOW : Nat := 321
abbrev BRG_READ_EXHAUSTED : Nat := 322
abbrev BRG_LINK_CHG : Nat := 323
abbrev DMA_ERROR : Nat := 352
abbrev DMA_CMD_DONE : Nat := 353
abbrev KSP_SESSION : Nat := 24
abbrev KSP_STORE : Nat := 25
abbrev KSP_STORE_FAULT : Nat := 26
abbrev REC_LOST : Nat := 32
abbrev REC_CLEAR_DONE : Nat := 33
abbrev REC_EXPORT_DONE : Nat := 34
abbrev REC_STORAGE : Nat := 35
abbrev REC_APP_DONE : Nat := 36
abbrev UPD_CMD_DONE : Nat := 40
abbrev UPD_BLK_DONE : Nat := 41
abbrev UPD_RESTARTED : Nat := 42
abbrev UPD_LIFECYCLE : Nat := 43
abbrev UPD_TEST_OPEN : Nat := 44
abbrev SEC_DONE : Nat := 45
abbrev MEM_CE : Nat := 48
abbrev MEM_UE : Nat := 49
abbrev MEM_CE_RATE : Nat := 50
abbrev TLM_PUBLISHED : Nat := 51
abbrev TLM_BG_LATE : Nat := 52
abbrev TLM_MARGIN_WARN : Nat := 53
abbrev TLM_TEMP_WARN : Nat := 54
/-- First source of the IRQ actions of the Piste. -/
abbrev PST_ACT : Nat := 208
/-- First cycle-point source. -/
abbrev FTN_CP : Nat := 160
/-- First DI source. -/
abbrev DIO_DI : Nat := 256
/-- First DMA completion source. -/
abbrev DMA_DONE : Nat := 336
abbrev EXTINT : Nat := 432
end Irq

namespace Regs

/-- Block ICU. -/
def rowsICU : List RegRow := [
  ⟨"ICU_CLAIM_N", 0x0, 4, 1, .rc, .none, 0x00000000⟩,
  ⟨"ICU_CLAIM_F", 0x4, 4, 1, .rc, .none, 0x00000000⟩,
  ⟨"ICU_COMPLETE", 0x8, 4, 1, .wo, .live, 0x00000000⟩,
  ⟨"ICU_RUNPRI", 0xC, 4, 1, .rw, .live, 0x00000000⟩,
  ⟨"ICU_CORE_STATE", 0x10, 4, 1, .ro, .none, 0x00000000⟩,
  ⟨"ICU_ACTIVE", 0x14, 4, 1, .ro, .none, 0x00000000⟩,
  ⟨"ICU_SWI_SET", 0x18, 4, 1, .wo, .live, 0x00000000⟩,
  ⟨"ICU_EXT_CFG", 0x40, 4, 16, .rw, .shadowCycle, 0x00001900⟩,
  ⟨"ICU_EXT_STAMP", 0x80, 4, 16, .ro, .none, 0x00000000⟩,
  ⟨"ICU_EXT_LEVEL", 0xC0, 4, 1, .ro, .none, 0x00000000⟩,
  ⟨"ICU_EXT_DORMANT", 0xC4, 4, 1, .ro, .none, 0x00000000⟩,
  ⟨"ICU_CFG_STATUS", 0xC8, 4, 1, .ro, .none, 0x00000000⟩,
  ⟨"ICU_PEND", 0x200, 4, 16, .w1c, .none, 0x00000000⟩,
  ⟨"ICU_ACTV", 0x240, 4, 16, .ro, .none, 0x00000000⟩,
  ⟨"ICU_SRC_CFG", 0x1004, 4, 511, .rw, .live, 0x00000100⟩,
  ⟨"ICU_SPURIOUS_CNT", 0x100, 4, 1, .ro, .none, 0x00000000⟩,
  ⟨"ICU_BAD_COMPLETE_CNT", 0x104, 4, 1, .ro, .none, 0x00000000⟩,
  ⟨"ICU_WITHDRAW_CNT", 0x108, 4, 1, .ro, .none, 0x00000000⟩,
  ⟨"ICU_ABANDON_CNT", 0x10C, 4, 1, .ro, .none, 0x00000000⟩,
  ⟨"ICU_TAILCHAIN_CNT", 0x110, 4, 1, .ro, .none, 0x00000000⟩,
  ⟨"ICU_SWI_REJECTS", 0x114, 4, 1, .ro, .none, 0x00000000⟩,
  ⟨"ICU_EXT_LOST_CNT", 0x118, 4, 1, .ro, .none, 0x00000000⟩,
  ⟨"ICU_FAST_MAX", 0x11C, 4, 1, .ro, .none, 0x00000000⟩,
  ⟨"ICU_DORMANT_EDGES", 0x120, 4, 1, .ro, .none, 0x00000000⟩
]

/-- Block VOT. -/
def rowsVOT : List RegRow := [
  ⟨"VOT_CFG", 0x10000, 4, 1, .rw, .shadowCycle, 0x000A0831⟩,
  ⟨"VOT_BLOCK_CLASS", 0x10004, 4, 1, .rw, .shadowCycle, 0x0000C112⟩,
  ⟨"VOT_INPUT_CFG", 0x10008, 4, 1, .rw, .shadowCycle, 0x00000310⟩,
  ⟨"VOT_MEAS_TOL", 0x1000C, 4, 1, .rw, .shadowCycle, 0x20010040⟩,
  ⟨"VOT_REJOIN_CFG", 0x10010, 4, 1, .rw, .live, 0x00148311⟩,
  ⟨"VOT_CFG_STATUS", 0x10014, 4, 1, .ro, .none, 0x00000000⟩,
  ⟨"VOT_REJOIN_REQ", 0x10018, 4, 1, .wo, .live, 0x00000000⟩,
  ⟨"VOT_FENCE", 0x1001C, 4, 1, .ro, .none, 0x00000000⟩,
  ⟨"VOT_LANE_STATE", 0x10020, 4, 1, .ro, .none, 0x00007222⟩,
  ⟨"VOT_LANE_CAUSE", 0x10024, 4, 1, .ro, .none, 0x00000000⟩,
  ⟨"VOT_DIGEST_LO", 0x10028, 4, 1, .rw, .none, 0x00000000⟩,
  ⟨"VOT_DIGEST_HI", 0x1002C, 4, 1, .rw, .none, 0x00000000⟩,
  ⟨"VOT_DIS_ADDR", 0x10030, 4, 1, .ro, .none, 0x00000000⟩,
  ⟨"VOT_DIS_INFO", 0x10034, 4, 1, .ro, .none, 0x00000000⟩,
  ⟨"VOT_OUT_STATUS", 0x10038, 4, 1, .ro, .none, 0x00000000⟩,
  ⟨"VOT_PATH_MASK_DI", 0x10040, 4, 3, .ro, .none, 0x00000000⟩,
  ⟨"VOT_PATH_MASK_MS", 0x1004C, 4, 3, .ro, .none, 0x00000000⟩,
  ⟨"VOT_OUT_CLASS", 0x10060, 4, 8, .rw, .shadowCycle, 0xFFFFFFFF⟩,
  ⟨"VOT_DIS_CNT", 0x10080, 4, 3, .ro, .none, 0x00000000⟩,
  ⟨"VOT_SKEW_CNT", 0x1008C, 4, 3, .ro, .none, 0x00000000⟩,
  ⟨"VOT_EXCL_CNT", 0x10098, 4, 3, .ro, .none, 0x00000000⟩,
  ⟨"VOT_STRADDLE_CNT", 0x100A4, 4, 1, .ro, .none, 0x00000000⟩,
  ⟨"VOT_NOAGREE_CNT", 0x100A8, 4, 1, .ro, .none, 0x00000000⟩,
  ⟨"VOT_REJOIN_CNT", 0x100AC, 4, 1, .ro, .none, 0x00000000⟩,
  ⟨"VOT_REQ_REJECTS", 0x100B0, 4, 1, .ro, .none, 0x00000000⟩,
  ⟨"VOT_SKIPPED_CNT", 0x100B4, 4, 1, .ro, .none, 0x00000000⟩
]

/-- Block CYC. -/
def rowsCYC : List RegRow := [
  ⟨"CYC_CFG", 0x20000, 4, 1, .rw, .shadowCycle, 0x00000104⟩,
  ⟨"CYC_FREE_PERIOD", 0x20004, 4, 1, .rw, .shadowCycle, 0x000007D0⟩,
  ⟨"CYC_IMG_CFG", 0x20008, 4, 1, .rw, .shadowCycle, 0x00400040⟩,
  ⟨"CYC_LOCAL_CFG", 0x2000C, 4, 1, .rw, .shadowCycle, 0x01000100⟩,
  ⟨"CYC_DIGEST_CFG", 0x20010, 4, 1, .rw, .shadowCycle, 0x00000004⟩,
  ⟨"CYC_CFG_STATUS", 0x20014, 4, 1, .ro, .none, 0x00000000⟩,
  ⟨"CYC_STATUS", 0x20018, 4, 1, .ro, .none, 0x00000000⟩,
  ⟨"CYC_COUNT_LO", 0x2001C, 4, 1, .ro, .none, 0x00000000⟩,
  ⟨"CYC_COUNT_HI", 0x20020, 4, 1, .ro, .none, 0x00000000⟩,
  ⟨"CYC_EXEC_TIME", 0x20024, 4, 1, .ro, .none, 0x00000000⟩,
  ⟨"CYC_OC_SEL", 0x20040, 4, 1, .rw, .live, 0x00000000⟩,
  ⟨"CYC_OC_ADDR", 0x20044, 4, 1, .rw, .live, 0x00000000⟩,
  ⟨"CYC_OC_VAL_LO", 0x20048, 4, 1, .rw, .live, 0x00000000⟩,
  ⟨"CYC_OC_VAL_HI", 0x2004C, 4, 1, .rw, .live, 0x00000000⟩,
  ⟨"CYC_OC_CMD", 0x20050, 4, 1, .wo, .live, 0x00000000⟩,
  ⟨"CYC_OC_STATUS", 0x20054, 4, 1, .ro, .none, 0x00000000⟩,
  ⟨"CYC_OC_TARGET", 0x20058, 4, 1, .rw, .live, 0x00000000⟩,
  ⟨"CYC_FRC_SEL", 0x20060, 4, 1, .rw, .live, 0x00000000⟩,
  ⟨"CYC_FRC_ADDR", 0x20064, 4, 1, .rw, .live, 0x00000000⟩,
  ⟨"CYC_FRC_VAL_LO", 0x20068, 4, 1, .rw, .live, 0x00000000⟩,
  ⟨"CYC_FRC_VAL_HI", 0x2006C, 4, 1, .rw, .live, 0x00000000⟩,
  ⟨"CYC_FRC_CMD", 0x20070, 4, 1, .wo, .live, 0x00000000⟩,
  ⟨"CYC_FRC_STATUS", 0x20074, 4, 1, .ro, .none, 0x00000000⟩,
  ⟨"CYC_FRC_TARGET", 0x20078, 4, 1, .rw, .live, 0x00000000⟩,
  ⟨"CYC_STN_SEL", 0x20080, 4, 1, .rw, .live, 0x00000000⟩,
  ⟨"CYC_STN_CFG", 0x20084, 4, 1, .rw, .shadowCycle, 0x00000000⟩,
  ⟨"CYC_STN_STAT", 0x20088, 4, 1, .ro, .none, 0x00000000⟩,
  ⟨"CYC_OVERRUN_CNT", 0x200C0, 4, 1, .ro, .none, 0x00000000⟩,
  ⟨"CYC_SKIP_CNT", 0x200C4, 4, 1, .ro, .none, 0x00000000⟩,
  ⟨"CYC_OC_APPLIED", 0x200C8, 4, 1, .ro, .none, 0x00000000⟩,
  ⟨"CYC_OC_REJECTS", 0x200CC, 4, 1, .ro, .none, 0x00000000⟩,
  ⟨"CYC_FRC_COMMITS", 0x200D0, 4, 1, .ro, .none, 0x00000000⟩,
  ⟨"CYC_FRC_REJECTS", 0x200D4, 4, 1, .ro, .none, 0x00000000⟩,
  ⟨"CYC_STN_INVALID_CNT", 0x200D8, 4, 1, .ro, .none, 0x00000000⟩,
  ⟨"CYC_CFG_REPLACED", 0x200DC, 4, 1, .ro, .none, 0x00000000⟩,
  ⟨"CYC_FALLBACK_CNT", 0x200E0, 4, 1, .ro, .none, 0x00000000⟩,
  ⟨"CYC_IMG_OVERLAP", 0x200E4, 4, 1, .ro, .none, 0x00000000⟩,
  ⟨"CYC_STN_UNLISTED", 0x200E8, 4, 1, .ro, .none, 0x00000000⟩
]

/-- Block TB. -/
def rowsTB : List RegRow := [
  ⟨"TB_NS", 0x30000, 64, 4, .ro, .none, 0x00000000⟩,
  ⟨"TB_FRAC", 0x30004, 64, 4, .ro, .none, 0x00000000⟩,
  ⟨"TB_SEC_LO", 0x30008, 64, 4, .ro, .none, 0x00000000⟩,
  ⟨"TB_SEC_HI", 0x3000C, 64, 4, .ro, .none, 0x00000000⟩,
  ⟨"TB_CTIME", 0x30010, 64, 4, .ro, .none, 0x00000000⟩,
  ⟨"TB_RATE_LO", 0x30014, 64, 4, .rw, .live, 0x00000000⟩,
  ⟨"TB_RATE_HI", 0x30018, 64, 4, .rw, .live, 0x00010000⟩,
  ⟨"TB_SERVO_CFG", 0x3001C, 64, 4, .rw, .shadowCycle, 0x00000000⟩,
  ⟨"TB_GAINS", 0x30020, 64, 4, .rw, .shadowCycle, 0x00000000⟩,
  ⟨"TB_HOLD_CFG", 0x30024, 64, 4, .rw, .shadowCycle, 0x00000000⟩,
  ⟨"TB_OFFSET_IN", 0x30028, 64, 4, .wo, .live, 0x00000000⟩,
  ⟨"TB_STEP_LO", 0x3002C, 64, 4, .wo, .live, 0x00000000⟩,
  ⟨"TB_STEP_HI", 0x30030, 64, 4, .wo, .live, 0x00000000⟩,
  ⟨"TB_STATUS", 0x30034, 64, 4, .ro, .none, 0x00000000⟩,
  ⟨"TB_LAST_OFFSET", 0x30038, 64, 4, .ro, .none, 0x00000000⟩,
  ⟨"TB_INTEGRAL", 0x3003C, 64, 4, .ro, .none, 0x00000000⟩,
  ⟨"TB_CFG", 0x30100, 4, 1, .rw, .shadowCycle, 0x00000000⟩,
  ⟨"TB_CFG_STATUS", 0x30104, 4, 1, .ro, .none, 0x00000000⟩,
  ⟨"TB_TRIM", 0x30108, 4, 1, .rw, .live, 0x00000000⟩,
  ⟨"TB_IPT_NS", 0x30110, 16, 4, .ro, .none, 0x00000000⟩,
  ⟨"TB_IPT_SEC_LO", 0x30114, 16, 4, .ro, .none, 0x00000000⟩,
  ⟨"TB_IPT_SEC_HI", 0x30118, 16, 4, .ro, .none, 0x00000000⟩,
  ⟨"TB_IPT_CTIME", 0x3011C, 16, 4, .ro, .none, 0x00000000⟩,
  ⟨"TB_STEP_CNT", 0x30180, 4, 4, .ro, .none, 0x00000000⟩,
  ⟨"TB_CLAMP_CNT", 0x30190, 4, 4, .ro, .none, 0x00000000⟩,
  ⟨"TB_REJECT_CNT", 0x301A0, 4, 1, .ro, .none, 0x00000000⟩,
  ⟨"TB_HOLD_CNT", 0x301A4, 4, 1, .ro, .none, 0x00000000⟩,
  ⟨"TB_ALIGN_MAX", 0x301A8, 4, 1, .ro, .none, 0x00000000⟩
]

/-- Block PST. -/
def rowsPST : List RegRow := [
  ⟨"PST_CFG", 0x40000, 4, 1, .rw, .shadowCycle, 0x00000064⟩,
  ⟨"PST_SYNC_CFG", 0x40004, 4, 1, .rw, .shadowCycle, 0x00000000⟩,
  ⟨"PST_CFG_STATUS", 0x40008, 4, 1, .ro, .none, 0x00000000⟩,
  ⟨"PST_CMD", 0x40010, 4, 1, .wo, .live, 0x00000000⟩,
  ⟨"PST_CMD_STATUS", 0x40014, 4, 1, .ro, .none, 0x00000000⟩,
  ⟨"PST_SUMMARY", 0x40018, 4, 1, .ro, .none, 0x00000000⟩,
  ⟨"PST_SYNC_STATE", 0x4001C, 4, 1, .ro, .none, 0x00000000⟩,
  ⟨"PST_POS_LO", 0x40020, 4, 1, .ro, .none, 0x00000000⟩,
  ⟨"PST_POS_HI", 0x40024, 4, 1, .ro, .none, 0x00000000⟩,
  ⟨"PST_PHASE", 0x40028, 4, 1, .ro, .none, 0x00000000⟩,
  ⟨"PST_FIRE_LEVEL", 0x40040, 4, 1, .ro, .none, 0x00000000⟩,
  ⟨"PST_FIRE_HEAD", 0x40044, 4, 1, .rc, .none, 0x00000000⟩,
  ⟨"PST_FIRE_TIME", 0x40048, 4, 1, .ro, .none, 0x00000000⟩,
  ⟨"PST_ARM_MASK", 0x40080, 4, 32, .rw, .live, 0x00000000⟩,
  ⟨"PST_WIN_MIN_LO", 0x40100, 16, 32, .rw, .shadowCycle, 0x00000000⟩,
  ⟨"PST_WIN_MIN_HI", 0x40104, 16, 32, .rw, .shadowCycle, 0x00000000⟩,
  ⟨"PST_WIN_MAX_LO", 0x40108, 16, 32, .rw, .shadowCycle, 0x00000000⟩,
  ⟨"PST_WIN_MAX_HI", 0x4010C, 16, 32, .rw, .shadowCycle, 0x00000000⟩,
  ⟨"PST_STAMP", 0x44000, 4, 1024, .ro, .none, 0x00000000⟩,
  ⟨"PST_ENTRY_W0", 0x48000, 32, 1024, .rw, .live, 0x00000000⟩,
  ⟨"PST_ENTRY_W1", 0x48004, 32, 1024, .rw, .live, 0x00000000⟩,
  ⟨"PST_ENTRY_W2", 0x48008, 32, 1024, .rw, .live, 0x00000000⟩,
  ⟨"PST_ENTRY_W3", 0x4800C, 32, 1024, .rw, .live, 0x00000000⟩,
  ⟨"PST_ENTRY_W4", 0x48010, 32, 1024, .rw, .live, 0x00000000⟩,
  ⟨"PST_ENTRY_W5", 0x48014, 32, 1024, .rw, .live, 0x00000000⟩,
  ⟨"PST_ENTRY_W6", 0x48018, 32, 1024, .rw, .live, 0x00000000⟩,
  ⟨"PST_ENTRY_W7", 0x4801C, 32, 1024, .rw, .live, 0x00000000⟩,
  ⟨"PST_FIRE_CNT", 0x40300, 4, 1, .ro, .none, 0x00000000⟩,
  ⟨"PST_MISSED_CNT", 0x40304, 4, 1, .ro, .none, 0x00000000⟩,
  ⟨"PST_SKIPPED_CNT", 0x40308, 4, 1, .ro, .none, 0x00000000⟩,
  ⟨"PST_SUPPRESSED_CNT", 0x4030C, 4, 1, .ro, .none, 0x00000000⟩,
  ⟨"PST_CONFLICT_CNT", 0x40310, 4, 1, .ro, .none, 0x00000000⟩,
  ⟨"PST_STEPPED_CNT", 0x40314, 4, 1, .ro, .none, 0x00000000⟩,
  ⟨"PST_JUMPED_CNT", 0x40318, 4, 1, .ro, .none, 0x00000000⟩,
  ⟨"PST_INVALID_CNT", 0x4031C, 4, 1, .ro, .none, 0x00000000⟩,
  ⟨"PST_WRITE_REJECTS", 0x40320, 4, 1, .ro, .none, 0x00000000⟩,
  ⟨"PST_ACT_LOST_CNT", 0x40324, 4, 1, .ro, .none, 0x00000000⟩
]

/-- Block ODO. -/
def rowsODO : List RegRow := [
  ⟨"ODO_CFG", 0x50000, 4, 1, .rw, .shadowCycle, 0x043209F1⟩,
  ⟨"ODO_SLIP_CFG", 0x50004, 4, 1, .rw, .shadowCycle, 0x01F400C8⟩,
  ⟨"ODO_UNC_CFG", 0x50008, 4, 1, .rw, .shadowCycle, 0x01F407D0⟩,
  ⟨"ODO_BRIDGE_CFG", 0x5000C, 4, 1, .rw, .shadowCycle, 0x27102710⟩,
  ⟨"ODO_FIX_CFG", 0x50010, 4, 1, .rw, .shadowCycle, 0x14020032⟩,
  ⟨"ODO_REMOTE_CFG", 0x50014, 4, 1, .rw, .shadowCycle, 0x00040000⟩,
  ⟨"ODO_IMU_CFG", 0x50018, 4, 1, .rw, .shadowCycle, 0x00000020⟩,
  ⟨"ODO_CFG_STATUS", 0x5001C, 4, 1, .ro, .none, 0x00000000⟩,
  ⟨"ODO_SENSOR_CFG", 0x50020, 4, 4, .rw, .shadowCycle, 0x00004064⟩,
  ⟨"ODO_DIAM", 0x50030, 4, 4, .rw, .shadowCycle, 0x000CD140⟩,
  ⟨"ODO_POS_LO", 0x50040, 4, 1, .ro, .none, 0x00000000⟩,
  ⟨"ODO_POS_HI", 0x50044, 4, 1, .ro, .none, 0x00000000⟩,
  ⟨"ODO_VEL", 0x50048, 4, 1, .ro, .none, 0x00000000⟩,
  ⟨"ODO_ACC", 0x5004C, 4, 1, .ro, .none, 0x00000000⟩,
  ⟨"ODO_QUALITY", 0x50050, 4, 1, .ro, .none, 0x00000000⟩,
  ⟨"ODO_UNC", 0x50054, 4, 1, .ro, .none, 0xFFFFFFFF⟩,
  ⟨"ODO_EST_CTIME", 0x50058, 4, 1, .ro, .none, 0x00000000⟩,
  ⟨"ODO_EST_SEQ", 0x5005C, 4, 1, .ro, .none, 0x00000000⟩,
  ⟨"ODO_FIX_POS_LO", 0x50060, 4, 1, .wo, .live, 0x00000000⟩,
  ⟨"ODO_FIX_POS_HI", 0x50064, 4, 1, .wo, .live, 0x00000000⟩,
  ⟨"ODO_FIX_CTIME", 0x50068, 4, 1, .wo, .live, 0x00000000⟩,
  ⟨"ODO_FIX_INFO", 0x5006C, 4, 1, .wo, .live, 0x00000000⟩,
  ⟨"ODO_FIX_CMD", 0x50070, 4, 1, .wo, .live, 0x00000000⟩,
  ⟨"ODO_FIX_STATUS", 0x50074, 4, 1, .ro, .none, 0x00000000⟩,
  ⟨"ODO_FIX_CORR", 0x50078, 4, 1, .ro, .none, 0x00000000⟩,
  ⟨"ODO_SENS_VEL", 0x50080, 4, 4, .ro, .none, 0x00000000⟩,
  ⟨"ODO_SENS_STATE", 0x50090, 4, 1, .ro, .none, 0x00000000⟩,
  ⟨"ODO_DIAM_EFF", 0x500A0, 4, 4, .ro, .none, 0x00000000⟩,
  ⟨"ODO_IMU", 0x500B0, 4, 6, .ro, .none, 0x00000000⟩,
  ⟨"ODO_FIX_ACCEPT_CNT", 0x50100, 4, 1, .ro, .none, 0x00000000⟩,
  ⟨"ODO_FIX_REJECT_CNT", 0x50104, 4, 1, .ro, .none, 0x00000000⟩,
  ⟨"ODO_FIX_FORCED_CNT", 0x50108, 4, 1, .ro, .none, 0x00000000⟩,
  ⟨"ODO_SLIP_CNT", 0x5010C, 4, 1, .ro, .none, 0x00000000⟩,
  ⟨"ODO_SLIDE_CNT", 0x50110, 4, 1, .ro, .none, 0x00000000⟩,
  ⟨"ODO_BRIDGE_CNT", 0x50114, 4, 1, .ro, .none, 0x00000000⟩,
  ⟨"ODO_SENSOR_FAULT_CNT", 0x50118, 4, 1, .ro, .none, 0x00000000⟩,
  ⟨"ODO_REVERSAL_CNT", 0x5011C, 4, 1, .ro, .none, 0x00000000⟩,
  ⟨"ODO_REMOTE_STALE_CNT", 0x50120, 4, 1, .ro, .none, 0x00000000⟩,
  ⟨"ODO_DIAM_CAL_CNT", 0x50124, 4, 1, .ro, .none, 0x00000000⟩
]

/-- Block SUP. -/
def rowsSUP : List RegRow := [
  ⟨"SUP_CFG", 0x60000, 4, 1, .rw, .shadowCycle, 0x003F0040⟩,
  ⟨"SUP_CH_CFG", 0x60004, 4, 4, .rw, .shadowCycle, 0x00000000⟩,
  ⟨"SUP_CH_SCALE", 0x60014, 4, 4, .rw, .shadowCycle, 0x00000000⟩,
  ⟨"SUP_CH_OFFSET", 0x60024, 4, 4, .rw, .shadowCycle, 0x00000000⟩,
  ⟨"SUP_CFG_STATUS", 0x60034, 4, 1, .ro, .none, 0x00000000⟩,
  ⟨"SUP_LIM", 0x60040, 4, 8, .rw, .shadowCycle, 0x00000000⟩,
  ⟨"SUP_LOCK", 0x60080, 4, 1, .ro, .none, 0x00000000⟩,
  ⟨"SUP_PHASE", 0x60084, 4, 1, .ro, .none, 0x00000000⟩,
  ⟨"SUP_FREQ", 0x60088, 4, 1, .ro, .none, 0x00000000⟩,
  ⟨"SUP_PHASE_CTIME", 0x6008C, 4, 1, .ro, .none, 0x00000000⟩,
  ⟨"SUP_VAL", 0x60090, 4, 4, .ro, .none, 0x00000000⟩,
  ⟨"SUP_INST", 0x600A0, 4, 4, .ro, .none, 0x00000000⟩,
  ⟨"SUP_THD", 0x600B0, 4, 1, .ro, .none, 0x00000000⟩,
  ⟨"SUP_ACTIVE", 0x600B4, 4, 1, .ro, .none, 0x00000000⟩,
  ⟨"SUP_FIFO_LEVEL", 0x600B8, 4, 1, .ro, .none, 0x00000000⟩,
  ⟨"SUP_DIST_HEAD", 0x600C0, 4, 1, .rc, .none, 0x00000000⟩,
  ⟨"SUP_DIST_START", 0x600C4, 4, 1, .ro, .none, 0x00000000⟩,
  ⟨"SUP_DIST_DUR", 0x600C8, 4, 1, .ro, .none, 0x00000000⟩,
  ⟨"SUP_DIST_EXTREME", 0x600CC, 4, 1, .ro, .none, 0x00000000⟩,
  ⟨"SUP_HARM", 0x60200, 4, 40, .ro, .none, 0x00000000⟩,
  ⟨"SUP_DIST_CNT", 0x60100, 4, 6, .ro, .none, 0x00000000⟩,
  ⟨"SUP_FIFO_LOST", 0x60118, 4, 1, .ro, .none, 0x00000000⟩,
  ⟨"SUP_RANGE_CNT", 0x6011C, 4, 1, .ro, .none, 0x00000000⟩,
  ⟨"SUP_CAL_CNT", 0x60120, 4, 1, .ro, .none, 0x00000000⟩,
  ⟨"SUP_LOCK_LOSS_CNT", 0x60124, 4, 1, .ro, .none, 0x00000000⟩
]

/-- Block FTN. -/
def rowsFTN : List RegRow := [
  ⟨"FTN_TS_CORR", 0x7E000, 4, 22, .ro, .none, 0x00000000⟩,
  ⟨"FTN_TS_CAL_REQ", 0x7E060, 4, 1, .wo, .live, 0x00000000⟩,
  ⟨"FTN_TS_CAL_STATUS", 0x7E064, 4, 1, .ro, .none, 0x00000000⟩,
  ⟨"FTN_NODE_CFG", 0x70000, 4, 1, .rw, .shadowMatrix, 0x00000000⟩,
  ⟨"FTN_PORT_EN", 0x70004, 4, 1, .rw, .shadowMatrix, 0x00300000⟩,
  ⟨"FTN_MATRIX_CFG", 0x70008, 4, 1, .rw, .shadowMatrix, 0x0A00C0FA⟩,
  ⟨"FTN_MATRIX_CFG2", 0x7000C, 4, 1, .rw, .shadowMatrix, 0x01F40CE4⟩,
  ⟨"FTN_ARB_CFG", 0x70010, 4, 1, .rw, .shadowMatrix, 0x401400C8⟩,
  ⟨"FTN_STAR_BCAST", 0x70014, 4, 1, .rw, .live, 0x00000000⟩,
  ⟨"FTN_CTRL", 0x70018, 4, 1, .rw, .live, 0x00000000⟩,
  ⟨"FTN_MATRIX_CMD", 0x7001C, 4, 1, .wo, .live, 0x00000000⟩,
  ⟨"FTN_MATRIX_STATUS", 0x70020, 4, 1, .ro, .none, 0x00000000⟩,
  ⟨"FTN_MATRIX_ID", 0x70024, 4, 1, .ro, .none, 0x00000000⟩,
  ⟨"FTN_CFG_STATUS", 0x70028, 4, 1, .ro, .none, 0x00000000⟩,
  ⟨"FTN_CYCLE_STATE", 0x7002C, 4, 1, .ro, .none, 0x00000000⟩,
  ⟨"FTN_CYCLE_CTIME", 0x70030, 4, 1, .ro, .none, 0x00000000⟩,
  ⟨"FTN_CP_ERR", 0x70034, 4, 1, .ro, .none, 0x00000000⟩,
  ⟨"FTN_CP", 0x70040, 4, 32, .rw, .shadowCluster, 0x00000000⟩,
  ⟨"FTN_SLOT_SEL", 0x70100, 4, 1, .rw, .live, 0x00000000⟩,
  ⟨"FTN_SLOT", 0x70104, 4, 5, .rw, .live, 0x00000000⟩,
  ⟨"FTN_SLOT_RXSTAT", 0x70118, 4, 1, .ro, .none, 0x00000000⟩,
  ⟨"FTN_TXB_SEL", 0x70120, 4, 1, .rw, .live, 0x00000000⟩,
  ⟨"FTN_TXB_HDR", 0x70124, 4, 1, .rw, .live, 0x0000FFFF⟩,
  ⟨"FTN_TXB_CFG", 0x70128, 4, 1, .rw, .live, 0x00000000⟩,
  ⟨"FTN_TXB_CMD", 0x7012C, 4, 1, .wo, .live, 0x00000000⟩,
  ⟨"FTN_TXB_STATUS", 0x70130, 4, 1, .ro, .none, 0x00000000⟩,
  ⟨"FTN_RXB_SEL", 0x70140, 4, 1, .rw, .live, 0x00000000⟩,
  ⟨"FTN_RXB_INFO", 0x70144, 4, 1, .ro, .none, 0x00000000⟩,
  ⟨"FTN_RXB_OBJ", 0x70148, 4, 1, .ro, .none, 0x00000000⟩,
  ⟨"FTN_RXB_TIME", 0x7014C, 4, 1, .ro, .none, 0x00000000⟩,
  ⟨"FTN_RXB_SSTAT", 0x70150, 4, 1, .ro, .none, 0x00000000⟩,
  ⟨"FTN_RX_STAT", 0x70200, 4, 256, .ro, .none, 0x00000000⟩,
  ⟨"FTN_TXB_DATA", 0x78000, 4, 368, .rw, .live, 0x00000000⟩,
  ⟨"FTN_RXB_DATA", 0x79000, 4, 368, .ro, .none, 0x00000000⟩,
  ⟨"FTN_RX_OK", 0x70600, 4, 1, .ro, .none, 0x00000000⟩,
  ⟨"FTN_RX_FCS_ERR", 0x70604, 4, 1, .ro, .none, 0x00000000⟩,
  ⟨"FTN_RX_BAD_HDR", 0x70608, 4, 1, .ro, .none, 0x00000000⟩,
  ⟨"FTN_RX_CRC_ERR", 0x7060C, 4, 1, .ro, .none, 0x00000000⟩,
  ⟨"FTN_RX_WRONG_SLOT", 0x70610, 4, 1, .ro, .none, 0x00000000⟩,
  ⟨"FTN_RX_MISSING", 0x70614, 4, 1, .ro, .none, 0x00000000⟩,
  ⟨"FTN_RX_NULL", 0x70618, 4, 1, .ro, .none, 0x00000000⟩,
  ⟨"FTN_CH_MISMATCH", 0x7061C, 4, 1, .ro, .none, 0x00000000⟩,
  ⟨"FTN_SEQ_GAP", 0x70620, 4, 1, .ro, .none, 0x00000000⟩,
  ⟨"FTN_TX_FRAMES", 0x70624, 4, 1, .ro, .none, 0x00000000⟩,
  ⟨"FTN_TX_NULL", 0x70628, 4, 1, .ro, .none, 0x00000000⟩,
  ⟨"FTN_ARB_DROP", 0x7062C, 4, 1, .ro, .none, 0x00000000⟩,
  ⟨"FTN_STAR_DROP", 0x70630, 4, 1, .ro, .none, 0x00000000⟩,
  ⟨"FTN_HOP_DROP", 0x70634, 4, 1, .ro, .none, 0x00000000⟩,
  ⟨"FTN_WRITE_REJECTS", 0x70638, 4, 1, .ro, .none, 0x00000000⟩,
  ⟨"FTN_SU_CFG", 0x71000, 4, 1, .rw, .shadowMatrix, 0x00011448⟩,
  ⟨"FTN_SU_STATE", 0x71004, 4, 1, .ro, .none, 0x00000000⟩,
  ⟨"FTN_SU_LEADER", 0x71008, 4, 1, .ro, .none, 0x00000000⟩,
  ⟨"FTN_SYNC_STATUS", 0x7100C, 4, 1, .ro, .none, 0x00000000⟩,
  ⟨"FTN_SYNC_CORR", 0x71010, 4, 1, .ro, .none, 0x00000000⟩,
  ⟨"FTN_SYNC_DEV", 0x71040, 4, 15, .ro, .none, 0x00000000⟩,
  ⟨"FTN_LINK_DELAY", 0x71080, 4, 20, .ro, .none, 0xFFFFFFFF⟩,
  ⟨"FTN_RING_STATE", 0x71100, 4, 1, .ro, .none, 0x00000000⟩,
  ⟨"FTN_RING_CMD", 0x71104, 4, 1, .wo, .live, 0x00000000⟩,
  ⟨"FTN_GUARD_CFG", 0x71200, 4, 1, .rw, .shadowMatrix, 0x084301F4⟩,
  ⟨"FTN_GUARD_STATE", 0x71204, 4, 1, .ro, .none, 0x00000000⟩,
  ⟨"FTN_GUARD_CMD", 0x71208, 4, 1, .wo, .live, 0x00000000⟩,
  ⟨"FTN_STAR_CFG", 0x7120C, 4, 1, .rw, .live, 0x00000064⟩,
  ⟨"FTN_GUARD_VIOL", 0x71240, 4, 16, .ro, .none, 0x00000000⟩,
  ⟨"FTN_STAR_OFFSET", 0x71280, 4, 16, .ro, .none, 0x80000000⟩,
  ⟨"FTN_SU_ATTEMPTS", 0x71300, 4, 1, .ro, .none, 0x00000000⟩,
  ⟨"FTN_SU_COLLISIONS", 0x71304, 4, 1, .ro, .none, 0x00000000⟩,
  ⟨"FTN_SU_MISMATCH", 0x71308, 4, 1, .ro, .none, 0x00000000⟩,
  ⟨"FTN_INTEG_COUNT", 0x7130C, 4, 1, .ro, .none, 0x00000000⟩,
  ⟨"FTN_INTEG_LOSS", 0x71310, 4, 1, .ro, .none, 0x00000000⟩,
  ⟨"FTN_SYNC_NO_MIDPOINT", 0x71314, 4, 1, .ro, .none, 0x00000000⟩,
  ⟨"FTN_SYNC_OUT_WINDOW", 0x71318, 4, 1, .ro, .none, 0x00000000⟩,
  ⟨"FTN_GUARD_BLOCKED", 0x7131C, 4, 1, .ro, .none, 0x00000000⟩,
  ⟨"FTN_GUARD_TRUNC", 0x71320, 4, 1, .ro, .none, 0x00000000⟩,
  ⟨"FTN_RING_LOOPS", 0x71324, 4, 1, .ro, .none, 0x00000000⟩,
  ⟨"FTN_RING_RESTORES", 0x71328, 4, 1, .ro, .none, 0x00000000⟩,
  ⟨"FTN_LOOPED_RX", 0x7132C, 4, 1, .ro, .none, 0x00000000⟩,
  ⟨"FTN_CMD_REJECTS", 0x71330, 4, 1, .ro, .none, 0x00000000⟩
]

/-- Block DIO. -/
def rowsDIO : List RegRow := [
  ⟨"DIO_IN_CFG", 0x80000, 4, 32, .rw, .shadowCycle, 0x000027E8⟩,
  ⟨"DIO_OUT_CFG", 0x80080, 4, 16, .rw, .shadowCycle, 0x000A5290⟩,
  ⟨"DIO_GRP_CFG", 0x800C0, 4, 6, .rw, .shadowCycle, 0x000001F4⟩,
  ⟨"DIO_CFG_STATUS", 0x800E0, 4, 1, .ro, .none, 0x00000000⟩,
  ⟨"DIO_OUT_CMD", 0x80100, 4, 1, .rw, .live, 0x00000000⟩,
  ⟨"DIO_CTRL_CMD", 0x80104, 4, 1, .wo, .live, 0x00000000⟩,
  ⟨"DIO_CMD_STATUS", 0x80108, 4, 1, .ro, .none, 0x00000000⟩,
  ⟨"DIO_DI_STATE_LO", 0x80110, 4, 1, .ro, .none, 0xFFFFFFFF⟩,
  ⟨"DIO_DI_STATE_HI", 0x80114, 4, 1, .ro, .none, 0xFFFFFFFF⟩,
  ⟨"DIO_DO_STATE_LO", 0x80118, 4, 1, .ro, .none, 0x00000000⟩,
  ⟨"DIO_DO_STATE_HI", 0x8011C, 4, 1, .ro, .none, 0x00000000⟩,
  ⟨"DIO_TRIP_STATE", 0x80120, 4, 1, .ro, .none, 0x00000000⟩,
  ⟨"DIO_GRP_STATE", 0x80140, 4, 6, .ro, .none, 0x00000100⟩,
  ⟨"DIO_GRP_VOLT", 0x80160, 4, 6, .ro, .none, 0x00000000⟩,
  ⟨"DIO_OUT_FAULT", 0x80180, 4, 16, .ro, .none, 0x00000000⟩,
  ⟨"DIO_OUT_MEAS", 0x801C0, 4, 16, .ro, .none, 0x00000000⟩,
  ⟨"DIO_TRIP_MASK", 0x80200, 16, 8, .rw, .shadowCycle, 0x00000000⟩,
  ⟨"DIO_TRIP_POL", 0x80204, 16, 8, .rw, .shadowCycle, 0x00000000⟩,
  ⟨"DIO_TRIP_CFG", 0x80208, 16, 8, .rw, .shadowCycle, 0x00000000⟩,
  ⟨"DIO_SILENCE_CNT", 0x80300, 4, 1, .ro, .none, 0x00000000⟩,
  ⟨"DIO_LATCHOFF_CNT", 0x80304, 4, 1, .ro, .none, 0x00000000⟩,
  ⟨"DIO_OVERLOAD_CNT", 0x80308, 4, 1, .ro, .none, 0x00000000⟩,
  ⟨"DIO_OC_CNT", 0x8030C, 4, 1, .ro, .none, 0x00000000⟩,
  ⟨"DIO_OT_CNT", 0x80310, 4, 1, .ro, .none, 0x00000000⟩,
  ⟨"DIO_SS_CNT", 0x80314, 4, 1, .ro, .none, 0x00000000⟩,
  ⟨"DIO_BACKFEED_CNT", 0x80318, 4, 1, .ro, .none, 0x00000000⟩,
  ⟨"DIO_DARK_FAIL_CNT", 0x8031C, 4, 1, .ro, .none, 0x00000000⟩,
  ⟨"DIO_IN_TEST_FAIL_CNT", 0x80320, 4, 1, .ro, .none, 0x00000000⟩,
  ⟨"DIO_DEMAG_HIGH_CNT", 0x80324, 4, 1, .ro, .none, 0x00000000⟩,
  ⟨"DIO_TRIP_CNT", 0x80328, 4, 1, .ro, .none, 0x00000000⟩,
  ⟨"DIO_FENCED_CNT", 0x8032C, 4, 1, .ro, .none, 0x00000000⟩,
  ⟨"DIO_WRITE_REJECTS", 0x80330, 4, 1, .ro, .none, 0x00000000⟩,
  ⟨"DIO_DARK_SKIP_CNT", 0x80334, 4, 1, .ro, .none, 0x00000000⟩
]

/-- Block BRG. -/
def rowsBRG : List RegRow := [
  ⟨"BRG_CFG", 0x90000, 4, 1, .rw, .shadowCycle, 0x000A0164⟩,
  ⟨"BRG_LINK_CFG", 0x90004, 4, 1, .rw, .live, 0x00000003⟩,
  ⟨"BRG_CFG_STATUS", 0x90008, 4, 1, .ro, .none, 0x00000000⟩,
  ⟨"BRG_LINK_STATE", 0x9000C, 4, 1, .ro, .none, 0x00000000⟩,
  ⟨"BRG_FENCE", 0x90010, 4, 1, .ro, .none, 0x00000000⟩,
  ⟨"BRG_FAIL_LEVEL", 0x90014, 4, 1, .ro, .none, 0x00000000⟩,
  ⟨"BRG_FAIL_HEAD", 0x90018, 4, 1, .rc, .none, 0x00000000⟩,
  ⟨"BRG_FAIL_ADDR_LO", 0x9001C, 4, 1, .ro, .none, 0x00000000⟩,
  ⟨"BRG_FAIL_ADDR_HI", 0x90020, 4, 1, .ro, .none, 0x00000000⟩,
  ⟨"BRG_NP_BASE_LO", 0x90040, 16, 8, .rw, .shadowCycle, 0x00000000⟩,
  ⟨"BRG_NP_BASE_HI", 0x90044, 16, 8, .rw, .shadowCycle, 0x00000000⟩,
  ⟨"BRG_NP_CFG", 0x90048, 16, 8, .rw, .shadowCycle, 0x00000000⟩,
  ⟨"BRG_XAREA", 0x98000, 4, 8192, .rw, .live, 0x00000000⟩,
  ⟨"BRG_WRITE_FAILS", 0x90100, 4, 1, .ro, .none, 0x00000000⟩,
  ⟨"BRG_FAIL_LOST", 0x90104, 4, 1, .ro, .none, 0x00000000⟩,
  ⟨"BRG_LATE_ANSWERS", 0x90108, 4, 1, .ro, .none, 0x00000000⟩,
  ⟨"BRG_READ_EXHAUSTED_CNT", 0x9010C, 4, 1, .ro, .none, 0x00000000⟩,
  ⟨"BRG_RETRIES_SENT", 0x90110, 4, 1, .ro, .none, 0x00000000⟩,
  ⟨"BRG_HOLD_EXPIRED", 0x90114, 4, 1, .ro, .none, 0x00000000⟩,
  ⟨"BRG_SLOTS_FULL", 0x90118, 4, 1, .ro, .none, 0x00000000⟩,
  ⟨"BRG_RESENDS", 0x9011C, 4, 1, .ro, .none, 0x00000000⟩,
  ⟨"BRG_LINK_DOWNS", 0x90120, 4, 1, .ro, .none, 0x00000000⟩
]

/-- Block DMA. -/
def rowsDMA : List RegRow := [
  ⟨"DMA_DESC_LO", 0xA0000, 64, 16, .rw, .live, 0x00000000⟩,
  ⟨"DMA_DESC_HI", 0xA0004, 64, 16, .rw, .live, 0x00000000⟩,
  ⟨"DMA_CMD", 0xA0008, 64, 16, .wo, .live, 0x00000000⟩,
  ⟨"DMA_STATUS", 0xA000C, 64, 16, .ro, .none, 0x00000000⟩,
  ⟨"DMA_DONE_BYTES", 0xA0010, 64, 16, .ro, .none, 0x00000000⟩,
  ⟨"DMA_CRC", 0xA0014, 64, 16, .ro, .none, 0x00000000⟩,
  ⟨"DMA_CUR_LO", 0xA0018, 64, 16, .ro, .none, 0x00000000⟩,
  ⟨"DMA_CUR_HI", 0xA001C, 64, 16, .ro, .none, 0x00000000⟩,
  ⟨"DMA_SUMMARY", 0xA0400, 4, 1, .ro, .none, 0x00000000⟩,
  ⟨"DMA_BYTES_LO", 0xA0440, 4, 1, .ro, .none, 0x00000000⟩,
  ⟨"DMA_BYTES_HI", 0xA0444, 4, 1, .ro, .none, 0x00000000⟩,
  ⟨"DMA_ERRORS", 0xA0448, 4, 1, .ro, .none, 0x00000000⟩,
  ⟨"DMA_CMD_REJECTS", 0xA044C, 4, 1, .ro, .none, 0x00000000⟩
]

/-- Block REC. -/
def rowsREC : List RegRow := [
  ⟨"REC_CFG", 0xB0000, 4, 1, .rw, .shadowCycle, 0x000A000A⟩,
  ⟨"REC_CFG_STATUS", 0xB0004, 4, 1, .ro, .none, 0x00000000⟩,
  ⟨"REC_STATUS", 0xB0008, 4, 1, .ro, .none, 0x00000000⟩,
  ⟨"REC_NEWEST_SEQ", 0xB000C, 4, 1, .ro, .none, 0x00000000⟩,
  ⟨"REC_OLDEST_SEQ", 0xB0010, 4, 1, .ro, .none, 0x00000000⟩,
  ⟨"REC_KEPT_BASE", 0xB0014, 4, 1, .ro, .none, 0x00000000⟩,
  ⟨"REC_KEPT_COUNT", 0xB0018, 4, 1, .ro, .none, 0x00000000⟩,
  ⟨"REC_READ_SEL", 0xB0020, 4, 1, .rw, .live, 0x00000000⟩,
  ⟨"REC_READ_SEQ", 0xB0024, 4, 1, .rw, .live, 0x00000000⟩,
  ⟨"REC_READ_STATUS", 0xB0028, 4, 1, .ro, .none, 0x00000000⟩,
  ⟨"REC_READ_DATA", 0xB0100, 4, 64, .ro, .none, 0x00000000⟩,
  ⟨"REC_APP_DATA", 0xB0200, 4, 27, .rw, .live, 0x00000000⟩,
  ⟨"REC_APP_CMD", 0xB026C, 4, 1, .wo, .live, 0x00000000⟩,
  ⟨"REC_APP_LEN", 0xB0270, 4, 1, .rw, .live, 0x00000000⟩,
  ⟨"REC_APP_STATUS", 0xB0274, 4, 1, .ro, .none, 0x00000000⟩,
  ⟨"REC_EXP_FROM", 0xB0300, 4, 1, .rw, .live, 0x00000000⟩,
  ⟨"REC_EXP_TO", 0xB0304, 4, 1, .rw, .live, 0x00000000⟩,
  ⟨"REC_EXP_DST_LO", 0xB0308, 4, 1, .rw, .live, 0x00000000⟩,
  ⟨"REC_EXP_DST_HI", 0xB030C, 4, 1, .rw, .live, 0x00000000⟩,
  ⟨"REC_EXP_CFG", 0xB0310, 4, 1, .rw, .live, 0x00000000⟩,
  ⟨"REC_EXP_CMD", 0xB0314, 4, 1, .wo, .live, 0x00000000⟩,
  ⟨"REC_EXP_STATUS", 0xB0318, 4, 1, .ro, .none, 0x00000000⟩,
  ⟨"REC_EXP_COUNT", 0xB031C, 4, 1, .ro, .none, 0x00000000⟩,
  ⟨"REC_MAP", 0xB0400, 4, 32, .rw, .shadowCycle, 0x00000000⟩,
  ⟨"REC_PROF_ITEM", 0xB0800, 4, 28, .rw, .shadowCycle, 0x00000000⟩,
  ⟨"REC_PROF_ITEM", 0xB0880, 4, 28, .rw, .shadowCycle, 0x00000000⟩,
  ⟨"REC_PROF_ITEM", 0xB0900, 4, 28, .rw, .shadowCycle, 0x00000000⟩,
  ⟨"REC_PROF_ITEM", 0xB0980, 4, 28, .rw, .shadowCycle, 0x00000000⟩,
  ⟨"REC_PROF_ITEM", 0xB0A00, 4, 28, .rw, .shadowCycle, 0x00000000⟩,
  ⟨"REC_PROF_ITEM", 0xB0A80, 4, 28, .rw, .shadowCycle, 0x00000000⟩,
  ⟨"REC_PROF_ITEM", 0xB0B00, 4, 28, .rw, .shadowCycle, 0x00000000⟩,
  ⟨"REC_PROF_ITEM", 0xB0B80, 4, 28, .rw, .shadowCycle, 0x00000000⟩,
  ⟨"REC_PROF_ITEM", 0xB0C00, 4, 28, .rw, .shadowCycle, 0x00000000⟩,
  ⟨"REC_PROF_ITEM", 0xB0C80, 4, 28, .rw, .shadowCycle, 0x00000000⟩,
  ⟨"REC_PROF_ITEM", 0xB0D00, 4, 28, .rw, .shadowCycle, 0x00000000⟩,
  ⟨"REC_PROF_ITEM", 0xB0D80, 4, 28, .rw, .shadowCycle, 0x00000000⟩,
  ⟨"REC_PROF_ITEM", 0xB0E00, 4, 28, .rw, .shadowCycle, 0x00000000⟩,
  ⟨"REC_PROF_ITEM", 0xB0E80, 4, 28, .rw, .shadowCycle, 0x00000000⟩,
  ⟨"REC_PROF_ITEM", 0xB0F00, 4, 28, .rw, .shadowCycle, 0x00000000⟩,
  ⟨"REC_PROF_ITEM", 0xB0F80, 4, 28, .rw, .shadowCycle, 0x00000000⟩,
  ⟨"REC_RECORDS", 0xB0600, 4, 1, .ro, .none, 0x00000000⟩,
  ⟨"REC_FOLDED", 0xB0604, 4, 1, .ro, .none, 0x00000000⟩,
  ⟨"REC_LOST_CNT", 0xB0608, 4, 1, .ro, .none, 0x00000000⟩,
  ⟨"REC_BAD_CRC_CNT", 0xB060C, 4, 1, .ro, .none, 0x00000000⟩,
  ⟨"REC_BAD_BLOCKS", 0xB0610, 4, 1, .ro, .none, 0x00000000⟩,
  ⟨"REC_PAGES", 0xB0614, 4, 1, .ro, .none, 0x00000000⟩
]

/-- Block UPD. -/
def rowsUPD : List RegRow := [
  ⟨"UPD_CMD", 0xC0000, 4, 1, .wo, .live, 0x00000000⟩,
  ⟨"UPD_STATUS", 0xC0004, 4, 1, .ro, .none, 0x00000000⟩,
  ⟨"UPD_STAGE", 0xC0008, 4, 1, .ro, .none, 0x00000000⟩,
  ⟨"UPD_STAGE_TOTAL", 0xC000C, 4, 1, .ro, .none, 0x00000000⟩,
  ⟨"UPD_SLOT", 0xC0010, 4, 4, .ro, .none, 0x00000000⟩,
  ⟨"UPD_VER_A", 0xC0020, 8, 4, .ro, .none, 0x00000000⟩,
  ⟨"UPD_VER_B", 0xC0024, 8, 4, .ro, .none, 0x00000000⟩,
  ⟨"UPD_BLK_OFFSET", 0xC0040, 4, 1, .rw, .live, 0x00000000⟩,
  ⟨"UPD_BLK_LEN", 0xC0044, 4, 1, .rw, .live, 0x00000000⟩,
  ⟨"UPD_BLK_CRC", 0xC0048, 4, 1, .rw, .live, 0x00000000⟩,
  ⟨"UPD_BLK_CMD", 0xC004C, 4, 1, .wo, .live, 0x00000000⟩,
  ⟨"UPD_BLK_STATUS", 0xC0050, 4, 1, .ro, .none, 0x00000000⟩,
  ⟨"UPD_COMPAT", 0xC0060, 4, 1, .ro, .none, 0x00000000⟩,
  ⟨"UPD_LC_STATE", 0xC0064, 4, 1, .ro, .none, 0x00000000⟩,
  ⟨"UPD_RNG", 0xC0068, 4, 1, .ro, .none, 0x00000000⟩,
  ⟨"UPD_BLK_DATA", 0xC1000, 4, 1024, .rw, .live, 0x00000000⟩,
  ⟨"UPD_BLOCKS_OK", 0xC0080, 4, 1, .ro, .none, 0x00000000⟩,
  ⟨"UPD_BLOCK_REJECTS", 0xC0084, 4, 1, .ro, .none, 0x00000000⟩,
  ⟨"UPD_VERIFY_FAILS", 0xC0088, 4, 1, .ro, .none, 0x00000000⟩,
  ⟨"UPD_ACTIVATES", 0xC008C, 4, 1, .ro, .none, 0x00000000⟩,
  ⟨"UPD_REVERTS", 0xC0090, 4, 1, .ro, .none, 0x00000000⟩,
  ⟨"UPD_TAP_DENIED", 0xC0094, 4, 1, .ro, .none, 0x00000000⟩
]

/-- Block SEC. -/
def rowsSEC : List RegRow := [
  ⟨"SEC_OP", 0xD0000, 4, 1, .wo, .live, 0x00000000⟩,
  ⟨"SEC_STATUS", 0xD0004, 4, 1, .ro, .none, 0x00000000⟩,
  ⟨"SEC_SRC_LO", 0xD0008, 4, 1, .rw, .live, 0x00000000⟩,
  ⟨"SEC_SRC_HI", 0xD000C, 4, 1, .rw, .live, 0x00000000⟩,
  ⟨"SEC_LEN", 0xD0010, 4, 1, .rw, .live, 0x00000000⟩,
  ⟨"SEC_DST_LO", 0xD0014, 4, 1, .rw, .live, 0x00000000⟩,
  ⟨"SEC_DST_HI", 0xD0018, 4, 1, .rw, .live, 0x00000000⟩,
  ⟨"SEC_KEYS", 0xD001C, 4, 1, .ro, .none, 0x00000000⟩,
  ⟨"SEC_OP_CNT", 0xD0020, 4, 1, .ro, .none, 0x00000000⟩,
  ⟨"SEC_REJECT_CNT", 0xD0024, 4, 1, .ro, .none, 0x00000000⟩
]

/-- Block CHK. -/
def rowsCHK : List RegRow := [
  ⟨"CHK_CFG", 0xE0000, 4, 1, .rw, .shadowCycle, 0x00000102⟩,
  ⟨"CHK_PARTNER", 0xE0004, 4, 1, .rw, .shadowMatrix, 0x00000000⟩,
  ⟨"CHK_CMP_MASK", 0xE0008, 4, 1, .rw, .shadowCycle, 0x0000FFFF⟩,
  ⟨"CHK_CFG_STATUS", 0xE000C, 4, 1, .ro, .none, 0x00000000⟩,
  ⟨"CHK_STATUS", 0xE0010, 4, 1, .ro, .none, 0x00000000⟩,
  ⟨"CHK_CLAIM", 0xE0014, 4, 1, .ro, .none, 0x00000000⟩,
  ⟨"CHK_HELD_CLAIM", 0xE0018, 4, 1, .ro, .none, 0x00000000⟩,
  ⟨"CHK_SIGNALS", 0xE001C, 4, 1, .ro, .none, 0x00000000⟩,
  ⟨"CHK_SET_SEQ", 0xE0020, 4, 1, .ro, .none, 0x00000000⟩,
  ⟨"CHK_SET_INFO", 0xE0024, 4, 1, .ro, .none, 0x00000000⟩,
  ⟨"CHK_LAG", 0xE0028, 4, 1, .ro, .none, 0x00000000⟩,
  ⟨"CHK_CMP_REPORT", 0xE0030, 4, 1, .wo, .live, 0x00000000⟩,
  ⟨"CHK_CMD", 0xE0034, 4, 1, .wo, .live, 0x00000000⟩,
  ⟨"CHK_CMD_STATUS", 0xE0038, 4, 1, .ro, .none, 0x00000000⟩,
  ⟨"CHK_SETS_SENT", 0xE0080, 4, 1, .ro, .none, 0x00000000⟩,
  ⟨"CHK_PAGES_SENT", 0xE0084, 4, 1, .ro, .none, 0x00000000⟩,
  ⟨"CHK_MERGED_CUTS", 0xE0088, 4, 1, .ro, .none, 0x00000000⟩,
  ⟨"CHK_RESYNCS", 0xE008C, 4, 1, .ro, .none, 0x00000000⟩,
  ⟨"CHK_TAKEOVERS", 0xE0090, 4, 1, .ro, .none, 0x00000000⟩,
  ⟨"CHK_CLAIMS_LOST", 0xE0094, 4, 1, .ro, .none, 0x00000000⟩,
  ⟨"CHK_REJECTS_SENT", 0xE0098, 4, 1, .ro, .none, 0x00000000⟩,
  ⟨"CHK_REJECTS_IGNORED", 0xE009C, 4, 1, .ro, .none, 0x00000000⟩,
  ⟨"CHK_CMP_FAILS", 0xE00A0, 4, 1, .ro, .none, 0x00000000⟩,
  ⟨"CHK_CMD_REJECTS", 0xE00A4, 4, 1, .ro, .none, 0x00000000⟩
]

/-- Block SYS. -/
def rowsSYS : List RegRow := [
  ⟨"SYS_ID", 0xF0000, 4, 1, .ro, .none, 0x00000000⟩,
  ⟨"SYS_MODE_STATE", 0xF0004, 4, 1, .ro, .none, 0x00000012⟩,
  ⟨"SYS_MODE_REQ", 0xF0008, 4, 1, .rw, .shadowCycle, 0x00000000⟩,
  ⟨"SYS_MODE_REQ_STATUS", 0xF000C, 4, 1, .ro, .none, 0x00000000⟩,
  ⟨"SYS_SH_REASON", 0xF0010, 4, 1, .ro, .none, 0x00000000⟩,
  ⟨"SYS_START_CFG", 0xF0014, 4, 1, .rw, .live, 0x00000000⟩,
  ⟨"SYS_WAKE_CFG", 0xF0018, 4, 1, .rw, .live, 0x000000F0⟩,
  ⟨"SYS_WAKE_CAUSE", 0xF001C, 4, 1, .ro, .none, 0x00000000⟩,
  ⟨"SYS_RTC_NOW", 0xF0020, 4, 1, .ro, .none, 0x00000000⟩,
  ⟨"SYS_RTC_ALARM", 0xF0024, 4, 1, .rw, .live, 0x00000000⟩,
  ⟨"SYS_RESET_REQ", 0xF0028, 4, 1, .wo, .live, 0x00000000⟩,
  ⟨"SYS_RESET_CAUSE", 0xF002C, 4, 1, .ro, .none, 0x00000001⟩,
  ⟨"SYS_START_TIME", 0xF0030, 4, 1, .ro, .none, 0x00000000⟩,
  ⟨"SYS_POR_COUNT", 0xF0040, 4, 1, .ro, .none, 0x00000000⟩,
  ⟨"SYS_RESET_COUNT", 0xF0044, 4, 1, .ro, .none, 0x00000000⟩,
  ⟨"SYS_WARM_COUNT", 0xF0048, 4, 1, .ro, .none, 0x00000000⟩,
  ⟨"SYS_MODE_CHANGES", 0xF004C, 4, 1, .ro, .none, 0x00000000⟩,
  ⟨"SYS_REQ_REJECTS", 0xF0050, 4, 1, .ro, .none, 0x00000000⟩,
  ⟨"SYS_OP_SECONDS", 0xF0054, 4, 1, .ro, .none, 0x00000000⟩
]

/-- Block TLM. -/
def rowsTLM : List RegRow := [
  ⟨"TLM_CFG", 0x100000, 4, 1, .rw, .shadowCycle, 0x00001E55⟩,
  ⟨"TLM_CFG_STATUS", 0x100004, 4, 1, .ro, .none, 0x00000000⟩,
  ⟨"TLM_PUB_SEQ", 0x100008, 4, 1, .ro, .none, 0x00000000⟩,
  ⟨"TLM_TEMP", 0x10000C, 4, 1, .ro, .none, 0x00000000⟩,
  ⟨"TLM_VIN", 0x100010, 4, 1, .ro, .none, 0x00000000⟩,
  ⟨"TLM_POWER", 0x100014, 4, 1, .ro, .none, 0x00000000⟩,
  ⟨"TLM_FAULTS", 0x100018, 4, 1, .ro, .none, 0x00000000⟩,
  ⟨"TLM_PORTS_UP", 0x10001C, 4, 1, .ro, .none, 0x00000000⟩,
  ⟨"TLM_BG_STATUS", 0x100020, 4, 1, .ro, .none, 0x00000000⟩,
  ⟨"TLM_SCRUB_PROGRESS", 0x100024, 4, 1, .ro, .none, 0x00000000⟩,
  ⟨"TLM_MARGIN", 0x100040, 4, 22, .ro, .none, 0x00000000⟩,
  ⟨"TLM_UNMAPPED_CNT", 0x100100, 4, 1, .ro, .none, 0x00000000⟩,
  ⟨"TLM_REPLACED_CNT", 0x100104, 4, 1, .ro, .none, 0x00000000⟩,
  ⟨"TLM_HUBPORT_ERR", 0x100108, 4, 3, .ro, .none, 0x00000000⟩,
  ⟨"TLM_BG_LATE_CNT", 0x100114, 4, 1, .ro, .none, 0x00000000⟩,
  ⟨"TLM_MARGIN_WARN_CNT", 0x100118, 4, 1, .ro, .none, 0x00000000⟩,
  ⟨"TLM_PUB_MISSED", 0x10011C, 4, 1, .ro, .none, 0x00000000⟩
]

/-- Block SPM. -/
def rowsSPM : List RegRow := [
  ⟨"SPM_ECC_CFG", 0x110000, 4, 1, .rw, .live, 0x00000040⟩,
  ⟨"SPM_ECC_STATUS", 0x110004, 4, 1, .ro, .none, 0x00000000⟩,
  ⟨"SPM_DRAM_ERR_LO", 0x110008, 4, 1, .ro, .none, 0x00000000⟩,
  ⟨"SPM_DRAM_ERR_HI", 0x11000C, 4, 1, .ro, .none, 0x00000000⟩,
  ⟨"SPM_DRAM_ERR_INFO", 0x110010, 4, 1, .ro, .none, 0x00000000⟩,
  ⟨"SPM_SPM_ERR_ADDR", 0x110014, 4, 1, .ro, .none, 0x00000000⟩,
  ⟨"SPM_SPM_ERR_INFO", 0x110018, 4, 1, .ro, .none, 0x00000000⟩,
  ⟨"SPM_SECURE_STATE", 0x110020, 4, 1, .ro, .none, 0x00000000⟩,
  ⟨"SPM_DRAM_CE_CNT", 0x110080, 4, 1, .ro, .none, 0x00000000⟩,
  ⟨"SPM_DRAM_UE_CNT", 0x110084, 4, 1, .ro, .none, 0x00000000⟩,
  ⟨"SPM_SPM_CE_CNT", 0x110088, 4, 1, .ro, .none, 0x00000000⟩,
  ⟨"SPM_SPM_UE_CNT", 0x11008C, 4, 1, .ro, .none, 0x00000000⟩,
  ⟨"SPM_B0_COLLIDE_CNT", 0x110090, 4, 1, .ro, .none, 0x00000000⟩,
  ⟨"SPM_ALIAS_ERR_CNT", 0x110094, 4, 1, .ro, .none, 0x00000000⟩,
  ⟨"SPM_SECURE_DENY_CNT", 0x110098, 4, 1, .ro, .none, 0x00000000⟩,
  ⟨"SPM_MAP_ERR_CNT", 0x11009C, 4, 1, .ro, .none, 0x00000000⟩,
  ⟨"SPM_WIPE_CNT", 0x1100A0, 4, 1, .ro, .none, 0x00000000⟩,
  ⟨"SPM_MRAM_WRITE_REJECTS", 0x1100A4, 4, 1, .ro, .none, 0x00000000⟩
]

/-- The whole register map. -/
def rows : List RegRow :=
  rowsICU ++ rowsVOT ++ rowsCYC ++ rowsTB ++ rowsPST ++ rowsODO ++ rowsSUP ++ rowsFTN ++ rowsDIO ++ rowsBRG ++ rowsDMA ++ rowsREC ++ rowsUPD ++ rowsSEC ++ rowsCHK ++ rowsSYS ++ rowsTLM ++ rowsSPM

end Regs

end Sys2Proof
end

