-- ==== Sys2Proof/Machine/BlocksCore.lean ====
section
/-! DEFINITION. The parts of the state that every block uses: modes (spec/02), the supervisor island, the Sluice
(spec/03), time bases (spec/04), interrupt controllers (spec/12), scratchpad and memories (spec/13), event recorder (spec/16). -/
namespace Sys2Proof.Machine

/-! ### Modes (Table 2.1) -/

/-- Modes of Table 2.1; START-UP is split into its sub-states. The sub-state of SAFE-HOLD follows from the active
reasons (R45). -/
inductive Mode where
  | dormant | boot | verify | integrate | standby | operational | degraded | safeHold
  deriving DecidableEq, Repr

/-- Mode code of Table 2.1. -/
def Mode.code : Mode → Nat
  | .dormant => 1
  | .boot | .verify | .integrate => 2
  | .standby => 3
  | .operational => 4
  | .degraded => 5
  | .safeHold => 6

/-- SAFE-HOLD reasons of Table 2.4. -/
inductive Reason where
  | compat | lanes | overrun | supply | lifecycle | claimLost | command | tamper
  deriving DecidableEq, Repr

/-- Reason codes of Table 2.4. -/
def Reason.code : Reason → Nat
  | .compat => 1
  | .lanes => 2
  | .overrun => 3
  | .supply => 4
  | .lifecycle => 5
  | .claimLost => 6
  | .command => 7
  | .tamper => 8

/-- Condition of a network protocol engine (Table 1.9): running or disabled, and the operating seconds of its restarts; and the module time from
and up to which a warm restart has it restart (R526). -/
structure Engine where
  off      : Bool
  restarts : List Nat
  from_    : Nat
  till     : Nat
  deriving DecidableEq, Repr

/-- Module condition: mode, SAFE-HOLD reasons, and what Table 1.9 and Table 2.2 need to know. -/
structure Sys where
  mode       : Mode
  failSilent : Bool
  recovery   : Bool
  /-- SH_REASON.ACTIVE: bit n - 1 set while reason code n is active. -/
  active     : BitVec 8
  /-- Reasons found in START-UP, in the bits of `active`: they take effect at the end of VERIFY or of START-UP (Table 2.2). -/
  found      : BitVec 8
  /-- Code of the reason that caused entry into SAFE-HOLD (R48); 0 outside SAFE-HOLD. -/
  first      : Nat
  /-- TB0 time of the last change of mode or sub-state (0x1100.04) and of SAFE-HOLD entry (0x1102.04). -/
  changedAt  : Nat
  heldAt     : Nat
  /-- The module has been OPERATIONAL or DEGRADED since its last reset (R38). -/
  ran        : Bool
  /-- START-UP has ended; the first cycle start enters OPERATIONAL or DEGRADED (Table 2.2). -/
  startDone  : Bool
  /-- Both copies of the object store were bad at VERIFY: the end of START-UP leads to COMMISSIONING (R464). -/
  storeBad   : Bool
  /-- The DORMANT entry sequence is running (R59). -/
  entering   : Bool
  /-- A warm restart is armed (R522), and its pause is running (R524): mask of image types. -/
  warmMask   : BitVec 4
  warmArmed  : Bool
  warmPause  : Bool
  /-- Module time at which the pause began. -/
  pauseAt    : Nat
  /-- A valid CPF is loaded (R57). -/
  cpfValid   : Bool
  netA       : Engine
  netB       : Engine
  guardianFault : Bool
  /-- Module time up to which a warm restart has the guardian engine restart (R526). -/
  guardianTill : Nat
  dspFault   : Bool
  mramFault  : Bool
  norFault   : Bool
  hubFault   : Bool
  /-- VIN_24 is above 30 V, or has been and no hold-up test has passed since (Table 2.4). -/
  overVolt   : Bool
  /-- Module time at which the present start-up began (SYS_START_TIME). -/
  startAt    : Nat
  deriving DecidableEq, Repr

/-! ### Records (spec/16) -/

/-- One event item of Table 16.2, held by the model's own field ordinal within its record type; the TAG byte of a field is
the ordinal for the types whose fields the spec numbers and the catalogue's tag otherwise (R492). -/
structure Item where
  field : Nat
  /-- Type code of Table 15.1. -/
  type  : Nat
  value : List Byte
  deriving DecidableEq, Repr

/-- A record request: the type, the event items, the application bytes, and the header values of its event instant (R493). -/
structure RecReq where
  type    : Nat
  items   : List Item
  app     : List Byte
  tb0     : Nat
  tbState : Nat
  opSec   : Nat
  power   : Nat
  profile : Nat
  snap    : List Word
  lost    : Bool
  /-- Module time of the event instant, by which REC orders its records (R493). -/
  at_     : Nat
  deriving DecidableEq, Repr

/-- An accepted record: its request, sequence number, repeats folded into it and the CONTINUES flag (R490, R495). -/
structure Rec where
  seq       : Word
  body      : RecReq
  repeats   : Nat
  continues : Bool
  deriving DecidableEq, Repr

/-- REC state codes of Table 16.6. -/
inductive RecState where
  | notReady | ready | clearing | exporting | failed
  deriving DecidableEq, Repr

def RecState.code : RecState → Nat
  | .notReady => 0
  | .ready => 1
  | .clearing => 2
  | .exporting => 3
  | .failed => 4

/-- A clear of an area in progress (R502): the kept area or the circulating one, and the SEQ of its CLEAR record. -/
structure Clear where
  kept : Bool
  seq  : Word
  deriving DecidableEq, Repr

/-- Volatile part of the event recorder. -/
structure Recorder where
  state   : RecState
  queue   : List RecReq
  /-- A request was lost since the last accepted record (R494). -/
  lost    : Bool
  /-- The open page, oldest record first (R497). -/
  page    : List Rec
  /-- Module time at which the first record entered the open page (R497). -/
  pageAt  : Nat
  /-- The record loaded for reading (R504). -/
  loaded  : List Byte
  loadBad : Bool
  /-- Events were lost while REC was not ready: the next accepted record raises REC_LOST (R498). -/
  tell    : Bool
  /-- A clear requested while an export runs (R503). -/
  clearWaits : Option (Bool × List Item)
  deriving DecidableEq, Repr

/-- What the SLC NAND holds (R500, R501). -/
structure Nand where
  circulating : List Rec
  kept        : List Rec
  newest      : Word
  keptBase    : Word
  clear       : Option Clear
  /-- Records found with a CRC-32C that does not hold: in the kept area or the circulating one, SEQ, and the bytes found. -/
  badCrc      : List (Bool × Word × List Byte)
  /-- Erase cycles of the ring, in total, and blocks retired. -/
  erases      : Nat
  retired     : Nat
  deriving DecidableEq, Repr

/-! ### Supervisor island -/

/-- What the supervisor island holds (Table 1.1, R498, R413, Table 2.6). -/
structure Island where
  powered     : Bool
  rtc         : Word
  /-- Nanoseconds into the present second of the RTC. -/
  rtcNs       : Nat
  rtcAlarm    : Word
  wakeCause   : Word
  /-- Wake latches as armed at DORMANT entry, and a wake that came during entry (R61). -/
  wakeArmed   : Word
  wakeEarly   : Option Word
  resetCause  : Nat
  /-- Consecutive module resets by the start watchdog (R55). -/
  startResets : Nat
  /-- Fail-silent output FAIL_N asserted (low), and claim output PARTNER_CLAIM_N asserted. -/
  failN       : Bool
  claimN      : Bool
  /-- Events kept while REC is not ready, at most 16, and those discarded (R498). -/
  events      : List RecReq
  eventsLost  : Nat
  /-- The asynchronous edge latches of the EXTINT lines (R413). -/
  extLatch    : BitVec 16
  /-- SUP image in supervisor RAM (Table 2.6). -/
  supLoaded   : Bool
  /-- Both group switches held open while test access is open (R538). -/
  testHold    : Bool
  /-- The standby follows its partner: VERIFIED target slots become FINAL at its next start (R530). -/
  follow      : Bool
  /-- GA_0 to GA_5 as read at power valid (R555). -/
  ga          : Nat
  deriving DecidableEq, Repr

/-! ### Time bases (spec/04) -/

/-- Servo states of Table 4.2. -/
inductive Servo where
  | free | acquire | locked | holdover
  deriving DecidableEq, Repr

def Servo.code : Servo → Nat
  | .free => 0
  | .acquire => 1
  | .locked => 2
  | .holdover => 3

/-- The PI servo of one base in one lane's TB block (R125 to R128). Times are those of TB2 in units of 2^-48 ns. -/
structure LaneServo where
  state    : Servo
  /-- I, in units of 2^-48 ns per ns. -/
  integral : Int
  /-- Last offset e, 1/256 ns. -/
  lastE    : Int
  /-- Time of the last valid input, and of entry into HOLDOVER. -/
  inputAt  : Option Nat
  holdAt   : Nat
  clamped  : Bool
  valid    : Bool
  lockRun  : Nat
  /-- Consecutive inputs beyond 4 x LOCK_THRESH (Table 4.2), and consecutive discards of R131 (R258). -/
  offRun   : Nat
  discards : Nat
  /-- Outputs issued: the sequence number of the next one on the base's stream (R68, R125). -/
  issued   : Nat
  deriving DecidableEq, Repr

/-- One time base: the three slice counters and the rate word, in units of 2^-48 ns (R118, R126), the steps applied, and the lanes'
servos. -/
structure Base where
  ctr1     : Nat
  ctr2     : Nat
  ctr3     : Nat
  rate     : Nat
  stepSeq  : BitVec 8
  servos   : Tri LaneServo
  deriving DecidableEq, Repr

/-- An output to the slices (R125): a rate word, or a step by an amount in units of 2^-48 ns. -/
inductive TbOut where
  | rate (v : Nat)
  | step (d : Int)
  deriving DecidableEq, Repr

/-- The voted write of one output of a base on stream 0x30 + base: what the lanes have issued, each with its module time, the output committed
with the module time of its majority, and the lanes that entered the vote after it. -/
structure TbVote where
  base     : Nat
  seq      : Nat
  issued   : List (Lane × Nat × TbOut)
  done     : Option (Nat × TbOut)
  spared   : List Lane
  deriving DecidableEq, Repr

/-- A master clock heard on a maintenance port: its port identity, grandmaster, and place in the order of the best master clock algorithm, the
better the lower; and whether its Sync interval is outside the supported range (Table 4.3). -/
structure PtpMaster where
  source : Nat
  gm     : Nat
  rank   : Nat
  barred : Bool
  deriving DecidableEq, Repr

/-- The PTP slave of TB1 (R136): the masters heard, the last Sync of the selected one (sequence, its own stamp once known, ingress stamp), the
egress stamp of the delay request under way with its sequence, and the mean path delay. Times in 1/256 ns. -/
structure Ptp where
  port    : Nat
  masters : List PtpMaster
  syncSeq : Nat
  t1      : Option Int
  t2      : Option Int
  reqSeq  : Nat
  t3      : Option Int
  /-- Of a two-step peer delay answer: the request's ingress and the answer's ingress. -/
  peer    : Option (Int × Int)
  delay   : Option Int
  deriving DecidableEq, Repr

/-- The four bases, the input-point time of the last freeze (R122), outputs on their way to the slices, and the PTP slave. -/
structure Time where
  tb0 : Base
  tb1 : Base
  tb2 : Base
  tb3 : Base
  ipt : List Nat
  votes : List TbVote
  ptp : Ptp
  deriving DecidableEq, Repr

/-! ### The Sluice (spec/03) -/

/-- Lane phases of Table 3.4 and VOT_LANE_STATE. -/
inductive Phase where
  | inVote | reset | boot | selftest | precopy | stopcopy | probation | retired
  deriving DecidableEq, Repr

def Phase.code : Phase → Nat
  | .inVote => 0
  | .reset => 1
  | .boot => 2
  | .selftest => 3
  | .precopy => 4
  | .stopcopy => 5
  | .probation => 6
  | .retired => 7

/-- Exclusion causes of Table 3.3. -/
inductive Cause where
  | disagree | digest | late | clock | hubPort | self | image | rejoinFail | domain
  deriving DecidableEq, Repr

def Cause.code : Cause → Nat
  | .disagree => 1
  | .digest => 2
  | .late => 3
  | .clock => 4
  | .hubPort => 5
  | .self => 6
  | .image => 7
  | .rejoinFail => 8
  | .domain => 9

/-- One lane's access of a stream and sequence (R68): when it arrived, its address, direction and value. -/
structure Access1 where
  lane  : Lane
  at_   : Nat
  addr  : Nat
  write : Bool
  value : Word
  deriving DecidableEq, Repr

/-- An unresolved voted access: the arrivals so far (R70, R73). -/
structure OpenAccess where
  stream   : Nat
  seq      : Word
  arrivals : List Access1
  /-- Lanes that entered the vote after it, so that it is not theirs to deliver (R111). -/
  spared   : List Lane
  deriving DecidableEq, Repr

/-- A resolved access, kept for LATE_LIMIT after its majority access (R82): what was agreed, the value a read returned, when its majority
access arrived, and the lanes that have delivered it. -/
structure KeptAccess where
  stream : Nat
  seq    : Word
  addr   : Nat
  write  : Bool
  value  : Word
  /-- A read of a Culvert window whose sample, RD_DATA, has not come (R438). -/
  awaits : Bool
  busError : Bool
  at_    : Nat
  lanes  : List Lane
  deriving DecidableEq, Repr

/-- The answer last returned to a lane over its hub port or by a lane-local block: the value and the bus error flag. -/
structure Answer where
  core     : Nat
  value    : Word
  busError : Bool
  deriving DecidableEq, Repr

/-- What the Sluice keeps for one lane. -/
structure LaneVote where
  phase      : Phase
  cause      : Nat
  /-- SAFETY and STANDARD runs and whether the lane was in the minority in this cycle (R102). -/
  safetyRun  : Nat
  stdRun     : Nat
  safetyHit  : Bool
  stdHit     : Bool
  /-- Consecutive out-of-window accesses (R77). -/
  skewRun    : Nat
  /-- Module times of hub-port failures in the last second (Table 3.3, HUB_PORT). -/
  portFails  : List Nat
  /-- Operating seconds of exclusions and ended attempts (R112). -/
  history    : List Nat
  /-- PRECOPY passes done, and the size of the dirty set in pages. -/
  passes     : Nat
  dirty      : Nat
  /-- PRECOPY, or the stop-copy, has ended: the next cycle boundary begins the stop-copy, or readmits the lane (R109, R111). -/
  ready      : Bool
  /-- Consecutive cycles in which the own digest differed from two equal peer digests (R101). -/
  peerRun    : Nat
  /-- A rejoin was requested while held in RESET (R107). -/
  requested  : Bool
  /-- VOT_REJOIN_CFG as read at the lane's last exclusion (Table 3.5). -/
  cfg        : Word
  /-- Module time at which the present phase began (Table 3.4). -/
  phaseAt    : Nat
  /-- Held in RESET until a cycle boundary finds the module DEGRADED (R107). -/
  waits      : Bool
  /-- What the lane has delivered in this cycle, each with the module time of its arrival: the output image handed over, the digest (its
  low half first, R11), and the value of the cycle-end write. -/
  handed     : Option (Nat × List DWord)
  digestLo   : Word
  digest     : Option (Nat × DWord)
  ended      : Option (Nat × Word)
  /-- Voted sequence counters per stream (R68), as far as they have left 0. -/
  seqs       : List (Nat × Word)
  /-- Sequence number of the next transfer through the lane's hub port towards the hub (R22). -/
  portSeq    : Nat
  answer     : Answer
  deriving DecidableEq, Repr

/-- Agreement state of one input channel (R89 to R93): previous agreed value, straddle candidate, consecutive two-path
differences, and the times of path disagreements of each lane's path. -/
structure Agree where
  last    : Option Int
  pending : Option Lane
  diffs   : Nat
  times   : Tri (List Nat)
  deriving DecidableEq, Repr

/-- The Sluice. -/
structure Vot where
  lanes     : Tri LaneVote
  /-- Slices in the output 2oo3, bit 0 slice 1. -/
  slices    : BitVec 3
  open_     : List OpenAccess
  kept      : List KeptAccess
  digest    : DWord
  digestLo  : Word
  exclSeq   : BitVec 8
  exclAt    : Nat
  readmitAt : Nat
  /-- Agreement state per channel: 0 to 31 DI, 32 to 39 speed signals, 40 to 43 analog, 44 to 49 inertial axes. -/
  agree     : List Agree
  /-- TB0 time of the last strobe of each kind: 1 MHz, 200 kHz, inertial. -/
  strobes   : List Nat
  /-- What has been voted in this cycle, with the module time of the majority access: output image, digest, cycle-end write. -/
  voted     : Option (Nat × List DWord)
  votedDigest : Option (Nat × DWord)
  votedEnd  : Option (Nat × Word)
  /-- The EXTINT lines behind the slices' filters: the accepted levels, and the module time of the slice edge at which each line was last
  judged (R414). -/
  extIn     : BitVec 16
  extAt     : List Nat
  deriving DecidableEq, Repr

/-! ### Interrupt controllers (spec/12) -/

/-- Handler sequence states of a core (Table 12.7). -/
inductive Seq where
  | run | wait | nEntry | nHandler | nExit | fHandler
  deriving DecidableEq, Repr

def Seq.code : Seq → Nat
  | .run => 0
  | .wait => 1
  | .nEntry => 2
  | .nHandler => 3
  | .nExit => 4
  | .fHandler => 5

/-- One core as its ICU sees it. -/
structure IcuCore where
  seq     : Seq
  /-- The normal sequence a fast handler runs above (R399). -/
  under   : Option Seq
  maskN   : Bool
  maskF   : Bool
  runPri  : BitVec 8
  /-- Signalled and active sources; 0 none. -/
  sigN    : Nat
  sigF    : Nat
  actN    : Nat
  actF    : Nat
  /-- PRIO of the source of the normal entry or handler (R401). -/
  prioN   : BitVec 8
  /-- Source held from routing until this core's fast exit ends (Table 12.2). -/
  held    : Nat
  /-- The second bank of an application core is switched in (R400). -/
  bank    : Bool
  deriving DecidableEq, Repr

/-- One lane's ICU. -/
structure Icu where
  /-- Sources whose pending latch is set, by rising ID. -/
  pend   : List Nat
  active : List (Nat × Nat)
  cores  : List IcuCore
  deriving DecidableEq, Repr

/-! ### Memories (spec/13) -/

/-- Secure bank states of SPM_SECURE_STATE. -/
inductive Secure where
  | empty | valid | wiping | wiped | wipeFail
  deriving DecidableEq, Repr

def Secure.code : Secure → Nat
  | .empty => 0
  | .valid => 1
  | .wiping => 2
  | .wiped => 3
  | .wipeFail => 4

/-- One lane's memories: byte lists in the canonical form of `Mem.wf`. -/
structure LaneMem where
  dram     : List (Nat × Byte)
  spad     : List (Nat × Byte)
  secure   : Secure
  wipeCause : Nat
  wipeSeq  : BitVec 8
  wipeTime : Nat
  /-- Correction-rate window: TB2 start (ns) and corrections in it; a window of this power cycle has been recorded (R423). -/
  ceStart  : Nat
  ceCount  : Nat
  ceRate   : Bool
  ceRecorded : Bool
  persistent : Bool
  /-- Words corrected on the previous scrub pass and on the current one. -/
  scrubOld : List Nat
  scrubNow : List Nat
  /-- Power domain open after a short, or off after WIPE_FAIL (Table 1.6). -/
  domainOpen : Bool
  powerOff   : Bool
  /-- Module time at which the power went off (R436). -/
  offAt      : Nat
  deriving DecidableEq, Repr

/-- One latched group of registers (R10, R81, R124, R178): the core that read the low half (module-shared: the core number,
lane none), and the values latched. -/
structure Latch where
  lane : Option Lane
  core : Nat
  off  : Nat
  vals : List (Nat × Word)
  deriving DecidableEq, Repr

/-- Low half written and not yet committed by a core (R11). -/
structure LoWrite where
  lane : Option Lane
  core : Nat
  off  : Nat
  val  : Word
  deriving DecidableEq, Repr

/-- Pending and held value of a SHADOWED register (R326). -/
structure Shadow where
  key     : Nat
  pending : Word
  held    : Option Word
  deriving DecidableEq, Repr

end Sys2Proof.Machine
end

