-- ==== Sys2Proof/Machine/BlocksField.lean ====
section
/-! DEFINITION. The parts of the state of the measurement and field blocks: position and supply (spec/05), the Piste
(spec/06), field inputs and outputs (spec/10). -/
namespace Sys2Proof.Machine

/-! ### Position (spec/05) -/

/-- Speed-sensor states of Table 5.1, in the coding of ODO_SENS_STATE. -/
inductive SensState where
  | off | ok | slip | slide | fault | rejoin
  deriving DecidableEq, Repr

def SensState.code : SensState → Nat
  | .off => 0
  | .ok => 1
  | .slip => 2
  | .slide => 3
  | .fault => 4
  | .rejoin => 5

/-- One phase of a speed sensor: its level as the agreed edge counts give it, module times of its last two edges, and module time since which its
agreed count is INVALID. -/
structure SpeedPhase where
  level    : Bool
  last     : Nat
  before   : Nat
  badSince : Option Nat
  deriving DecidableEq, Repr

/-- One speed sensor. -/
structure Sensor where
  state   : SensState
  a       : SpeedPhase
  b       : SpeedPhase
  /-- Net count of decoded edges, its value at the last update, and at standstill entry (R153). -/
  count   : Int
  seen    : Int
  lock    : Int
  /-- Sense of the last decoded edge; module times of the last two. -/
  fwd     : Bool
  edgeAt  : Nat
  prevAt  : Nat
  /-- Velocity of the sensor, pm/s. -/
  vel     : Int
  /-- Distance counted, pm, and TB0 time since which the sensor has been OK (R163). -/
  dist    : Int
  okFrom  : Option Nat
  /-- Changes of one phase since the last edge of the other, and the phase; module time of the last condition of FAULT; module time since which a
  sensor in REJOIN has been within VEL_MARGIN (Table 5.1). -/
  alone   : Nat
  aloneB  : Bool
  unfitAt : Nat
  fitSince : Option Nat
  deriving DecidableEq, Repr

/-- A submitted position fix (Table 5.3). -/
structure Fix where
  pos    : Int
  time   : Word
  source : Nat
  /-- Units of 10 um. -/
  acc    : Nat
  force  : Bool
  deriving DecidableEq, Repr

/-- A position record of Table 5.2. -/
structure PosRec where
  pos   : Int
  vel   : Int
  acc   : Int
  qual  : Word
  unc   : Nat
  time  : Word
  seq   : Word
  deriving DecidableEq, Repr

/-- One kept estimate (R158): TB0 time, position, uncertainty; and per sensor what R163 needs of that time, its distance and since when it is OK. -/
structure Kept where
  time  : Nat
  pos   : Int
  unc   : Nat
  sens  : List (Int × Option Nat)
  deriving DecidableEq, Repr

/-- The position estimator. Positions are in pm (10^-6 um), velocities in pm/s, accelerations in um/s2. -/
structure Odo where
  pos      : Int
  /-- What bridging has still to add to the position, in 10^-5 pm (R148). -/
  frac     : Nat
  vel      : Int
  acc      : Int
  /-- Quality class of R151. -/
  cls      : Nat
  standstill : Bool
  dir      : Nat
  bridged  : Bool
  /-- Module time from which bridging is counted (R148). -/
  bridgeAt : Nat
  fixSeq   : BitVec 8
  /-- Accuracy of the last accepted fix (um) and distance travelled since it (pm), R150. -/
  uncBase  : Nat
  uncDist  : Nat
  /-- ODO_UNC of the last update, um. -/
  unc      : Nat
  haveFix  : Bool
  /-- The estimate was restored and no fix has come since: the class stays at COARSE at best (R166). -/
  restored : Bool
  /-- QUALITY of the record followed in REMOTE (R165). -/
  quality  : Word
  estAt    : Nat
  estSeq   : Word
  sensors  : List Sensor
  pending  : Option Fix
  history  : List Kept
  /-- Consecutive GATE rejections, newest first: correction (um) and accuracy (um), R160. -/
  gateRun  : List (Int × Nat)
  /-- Position and time of the last accepted fix of at most 20 mm accuracy, and the sensors' distances at that time, for R163. -/
  calFix   : Option (Int × Int × List Int)
  remote   : Option PosRec
  /-- TB0 time of reception of the last record, and the node it came from. -/
  remoteAt : Nat
  remoteFrom : Nat
  /-- The followed record is over age, or one has come that is not from NODE (R165). -/
  remoteStale : Bool
  /-- The next update takes up a jump of the remote source (R205). -/
  remoteJump : Bool
  /-- Inertial longitudinal acceleration with gravity removed, um/s2 in the vehicle's forward direction, as the last inertial strobe gave it; module
  time since which it has lain within 0.05 m/s2 (R146, R153). -/
  inert    : Option Int
  calmSince : Option Nat
  /-- TB0 time of a checkpointed estimate that is still to be extrapolated at a takeover, and module time of its restore (R166). -/
  takeFrom : Option (Int × Nat)
  /-- The DSP resumes its estimate at the next update, extrapolated (R526). -/
  resume   : Bool
  deriving DecidableEq, Repr

/-! ### Supply (spec/05) -/

/-- Lock states of SUP_LOCK. -/
inductive Lock where
  | off | noSignal | acquire | locked | hold
  deriving DecidableEq, Repr

def Lock.code : Lock → Nat
  | .off => 0
  | .noSignal => 1
  | .acquire => 2
  | .locked => 3
  | .hold => 4

/-- One analog channel. -/
structure Chan where
  /-- Value of R170 and R171, whether one has been formed, and latest agreed sample, mV or mA. -/
  val     : Int
  valued  : Bool
  inst    : Int
  range   : Bool
  /-- Agreed samples in mV or mA, newest first; none INVALID. -/
  samples : List (Option Int)
  /-- TB0 time of the last refresh of the value. -/
  freshAt : Nat
  /-- Module times since which the samples are out of range or INVALID, and in range again (R168). -/
  outAt   : Option Nat
  backAt  : Option Nat
  /-- TB0 times since which the value is below Umin1, and above Umax1 (Table 5.5). -/
  lowAt   : Option Nat
  highAt  : Option Nat
  /-- Fundamental as last measured: peak, phase and TB0 time of the phase. -/
  peak    : Nat
  phase   : Word
  phaseAt : Nat
  /-- Deviation of the last sample from the reconstructed fundamental or the mean, samples within the limit since, and a deviation of 10 ms that has
  not ended (R175). -/
  dev     : Nat
  within  : Nat
  long    : Bool
  deriving DecidableEq, Repr

/-- An active disturbance (R174): class code, channel, start (TB0), extreme, threshold by which it began. -/
structure Dist where
  cls     : Nat
  chan    : Nat
  start   : Nat
  extreme : Int
  limit   : Int
  deriving DecidableEq, Repr

/-- Means of the tracker's values over 1 s or 10 s (Table 5.4): the sums since `since` (TB0), how many updates and windows they hold, and the last means:
frequency in uHz, THD in 0.01 %, orders 2 to 40. -/
structure Means where
  since : Nat
  freqs : Nat
  nFreq : Nat
  thds  : Nat
  harms : List Nat
  nHarm : Nat
  freq  : Option Nat
  thd   : Option Nat
  harm  : List Nat
  deriving DecidableEq, Repr

/-- An entry of the disturbance FIFO and of object 0x7120. -/
structure DistEntry where
  head    : Word
  start   : Word
  dur     : Word
  extreme : Word
  deriving DecidableEq, Repr

structure Sup where
  lock    : Lock
  phase   : Word
  freq    : Nat
  phaseAt : Nat
  chans   : List Chan
  /-- Fundamental of the reference channel as last measured, each half cycle: RMS, frequency in uHz and its slope in uHz/s, half cycles with a phase error
  within 1 degree and with a jump above 10 degrees in a row (R172, R173). -/
  rms     : Nat
  measFreq : Nat
  slope   : Nat
  goodRun : Nat
  jumpRun : Nat
  /-- Module time of the entry into HOLD; TB0 time of the end of the last harmonic window (R177). -/
  holdAt  : Nat
  windowAt : Nat
  means   : Means
  /-- Channel that each capture path's spare converter keeps; the channel that the spares take over next, and TB0 time of the last turn (R169). -/
  spares  : Tri (Option Nat)
  calNext : Nat
  calAt   : Nat
  thd     : Nat
  harm    : List Nat
  active  : List Dist
  fifo    : List DistEntry
  lost    : Bool
  seq     : BitVec 8
  recent  : List DistEntry
  lastEnd : Nat
  /-- Last ended event per (class, channel), for the 20 ms rule of R175: class, channel, TB0 end, start, extreme. -/
  ended   : List (Nat × Nat × Nat × Nat × Int)
  deriving DecidableEq, Repr

/-! ### Piste (spec/06) -/

/-- What the Piste keeps for an ARMED or WAITING entry beyond its words: the side of the trigger on which q lay at arming
(R190: true at or above), whether q had reached the trigger when last compared, the projected phase when last compared, the module time since which it
waits, what its VELOCITY, POSITION and QUAL conditions were when last evaluated (R191), and whether its comparison is suspended (R206). -/
structure Armed where
  index   : Nat
  above   : Bool
  reached : Bool
  phase   : Word
  waitAt  : Option Nat
  slow    : Bool
  suspend : Bool
  deriving DecidableEq, Repr

/-- A pulse in progress (R196): the entry, DO (false) or SYNC (true) target, and its end in module time. -/
structure Pulse where
  index  : Nat
  sync   : Bool
  target : Nat
  endAt  : Nat
  /-- Another entry has acted on the target meanwhile. -/
  taken  : Bool
  deriving DecidableEq, Repr

structure Fire where
  head : Word
  time : Word
  deriving DecidableEq, Repr

structure Piste where
  armed   : List Armed
  pulses  : List Pulse
  doLevel : BitVec 16
  sync    : BitVec 8
  fifo    : List Fire
  lost    : Bool
  seq     : BitVec 8
  /-- Entries whose last arming has fired (ENTRY guard FIRED). -/
  fired   : List Nat
  /-- Actions of the entries that have matched at the last edge (R195): its module time; oldest first SYNC, target, level, entry; how many of them the
  targets have taken; and whether its conflict is counted. -/
  edgeAt  : Nat
  edge    : List (Bool × Nat × Bool × Nat)
  applied : Nat
  clashed : Bool
  deriving DecidableEq, Repr

/-! ### Field inputs and outputs (spec/10) -/

/-- Input codes of Tables 9.4 and 10.2. -/
inductive Code where
  | off | on | broken | invalid
  deriving DecidableEq, Repr

def Code.num : Code → Nat
  | .off => 0
  | .on => 1
  | .broken => 2
  | .invalid => 3

/-- One digital input: filtered state, code being counted and its run (R341), states seen since the last freeze (R343), changes
(0x4000 + n .03), and test results (R347). -/
structure Di where
  state    : Code
  cand     : Code
  run      : Nat
  seenOn   : Bool
  seenOff  : Bool
  changes  : Word
  fails    : Nat
  deriving DecidableEq, Repr

/-- Group supply states of Table 10.11. -/
inductive Supply where
  | normal | low | under | over | absent
  deriving DecidableEq, Repr

def Supply.code : Supply → Nat
  | .normal => 0
  | .low => 1
  | .under => 2
  | .over => 3
  | .absent => 4

/-- One field group: supply, READY, measured supply, open causes in the bit order of OPEN_CAUSE, latch-offs (0x4203), sensor
supply on, and for DI groups the out-of-range condition, a test pulse in progress, the module time at which the last one began, and the paths that have
reported BROKEN in it: bit 3 i + p for channel i of the group and lane p (R346, R347). -/
structure Group where
  supply   : Supply
  ready    : Bool
  volt     : Half
  causes   : BitVec 9
  latches  : Word
  sensorOn : Bool
  outRange : Bool
  testing  : Bool
  testAt   : Option Nat
  broke    : BitVec 24
  /-- Module time at which a shorted sensor supply shut down (R567). -/
  shortAt  : Option Nat
  deriving DecidableEq, Repr

/-- One digital output at its output controller. -/
structure Out where
  /-- Command bit of the last released image. -/
  image    : Bool
  /-- Resolved state of the switch, the level HOLD keeps, and module times of the last refresh and of the last change. -/
  on       : Bool
  holdLvl  : Bool
  refreshAt : Option Nat
  changedAt : Nat
  /-- Logic silence has been reached (R350). -/
  silent   : Bool
  /-- A refresh has come since the last re-enable, trip reset or fault clear (Table 10.3, row 4). -/
  fresh    : Bool
  /-- Latched faults in the bit order of OUT_FAULT, DEMAG_HIGH, SS_SOURCE, PARTNER, ENERGY. -/
  faults   : BitVec 7
  demag    : Bool
  ssSource : Nat
  partner  : Nat
  energy   : Nat
  /-- Dark test: pulse in progress, consecutive failures, last test passed. -/
  dark     : Bool
  darkFails : Nat
  deriving DecidableEq, Repr

structure Dio where
  dis     : List Di
  groups  : List Group
  outs    : List Out
  trueR   : BitVec 8
  latched : BitVec 8
  /-- Module times at which the rules were last found false anew (R368). -/
  falseAt : List Nat
  /-- Request words of the previously released image (R370). -/
  prevClear : Word
  prevReen  : Word
  prevReset : Word
  /-- The field front end has been enabled by VERIFY (R41). -/
  enabled : Bool
  deriving DecidableEq, Repr

end Sys2Proof.Machine
end

