-- ==== Sys2Proof/Machine/BlocksNet.lean ====
section
/-! DEFINITION. The parts of the state of the Fjoerayr network controller (spec/07, spec/08, the port calibration of
spec/04) and of the cycle engine (spec/09). -/
namespace Sys2Proof.Machine

/-! ### Fjoerayr network -/

/-- Start-up states of Table 8.1. -/
inductive SuState where
  | stopped | listen | coldstart | backoff | aligned | integrated
  deriving DecidableEq, Repr

def SuState.code : SuState → Nat
  | .stopped => 0
  | .listen => 1
  | .coldstart => 2
  | .backoff => 3
  | .aligned => 4
  | .integrated => 5

/-- One slot entry: words W0 to W4 (Table 7.15). -/
structure Slot where
  w0 : Word
  w1 : Word
  w2 : Word
  w3 : Word
  w4 : Word
  deriving DecidableEq, Repr

/-- Configuration that a matrix commit copies together with the slot table: FTN_MATRIX_CFG, FTN_MATRIX_CFG2 and
FTN_ARB_CFG stand in the register file; this is the table of the entries that differ from all zeros, by rising index. -/
structure Table where
  entries : List (Nat × Slot)
  deriving DecidableEq, Repr

/-- Receive status of an RX entry (FTN_SLOT_RXSTAT, R239, R240) and what its occurrence of this basic cycle brought. -/
structure RxStat where
  entry  : Nat
  /-- 0 NONE, 1 VALID, 2 NULL, 3 MISSING. -/
  state  : Nat
  reason : Byte
  count  : Nat
  info   : Byte
  /-- A copy has been accepted in the present basic cycle. -/
  got    : Bool
  data   : List Byte
  deriving DecidableEq, Repr

/-- Receive buffer (R239, R241, R246). -/
structure RxBuf where
  frame  : Option Frame
  time   : Word
  chanB  : Bool
  state  : Nat
  reason : Byte
  lost   : Bool
  count  : Nat
  unread : Bool
  /-- Place of its frame in the order of arrival in the arbitrating ring (R241). -/
  order  : Nat
  deriving DecidableEq, Repr

/-- Transmit buffer states (FTN_TXB_STATUS). -/
inductive TxState where
  | empty | prepared | released | sent
  deriving DecidableEq, Repr

def TxState.code : TxState → Nat
  | .empty => 0
  | .prepared => 1
  | .released => 2
  | .sent => 3

structure TxBuf where
  state : TxState
  sent  : Nat
  hdr   : Word
  cfg   : Word
  /-- Payload words that differ from 0, by rising word number. -/
  data  : List (Nat × Word)
  deriving DecidableEq, Repr

/-- Last accepted frame of a SOURCE and SLOT value (R237). -/
structure LastSeq where
  source : Nat
  slot   : Nat
  seq    : Nat
  copy   : List Byte
  /-- The channel of the accepted copy and the hub clock edge at which it passed; none for a frame of a star port (R238). -/
  chanB  : Bool
  edge   : Option Nat
  deriving DecidableEq, Repr

/-- A frame waiting in the arbitrating queue (R235) and the basic cycle in which it was queued. -/
structure Queued where
  frame : Frame
  cycle : Nat
  deriving DecidableEq, Repr

/-- The copy of a sync node's frame used in this basic cycle (R266, R267). -/
structure SyncVal where
  dev   : Int
  hop   : Nat
  chanB : Bool
  /-- The value rests on a valid path delay. -/
  pd    : Bool
  deriving DecidableEq, Repr

/-- Calibration states of a port (Table 4.10). -/
inductive CalState where
  | uncal | measuring | frozen | nominal | failed
  deriving DecidableEq, Repr

/-- One port of Table 4.5 as the time-stamp unit and the link checks see it; times in 1/256 ns. -/
structure Port where
  up       : Bool
  /-- Linked at an unsupported speed: no stamps (R139). -/
  noStamp  : Bool
  cal      : CalState
  /-- A calibration sequence is running, and the network idle times it has taken (R141). -/
  calRun   : Bool
  calStep  : Nat
  calReq   : Bool
  dev      : Int
  partnerDev : Option Int
  loopMeas : List Int
  wayMeas  : List Int
  noLoop   : Bool
  /-- The partner asked for a loop in the next network idle time. -/
  loopFor  : Bool
  /-- SEQ and egress stamp of own LINK_CHECK frames still to be echoed. -/
  sent     : List (Nat × Int)
  seqOut   : Nat
  /-- SEQ, ingress stamp and basic cycle of the last LINK_CHECK received. -/
  echoSeq  : Nat
  echoRx   : Int
  lastCheck : Option Nat
  delays   : List Int
  delay    : Option Int
  /-- Path delays received with the last LINK_CHECK (R263). -/
  pdIn     : List (Option Nat)
  offset   : Option Int
  offsetOver : Bool
  deriving DecidableEq, Repr

/-- Loop roles of R276. -/
inductive Role where
  | normal | head | tail | isolated
  deriving DecidableEq, Repr

def Role.code : Role → Nat
  | .normal => 0
  | .head => 1
  | .tail => 2
  | .isolated => 3

/-- One trunk link (R275, R278, R279). -/
structure Link where
  broken   : Bool
  held     : Bool
  missing  : Nat
  good     : Nat
  restoring : Bool
  readyOut : Bool
  readyIn  : Bool
  restoreAt : Option Nat
  acked    : Bool
  restores : List Nat
  deriving DecidableEq, Repr

/-- Guardian state of a star port (R272, R273), and the module time at which its forward queue is empty (R234). -/
structure Guard where
  count    : Nat
  lastKind : Nat
  run      : Nat
  total    : Nat
  blocked  : Bool
  disabled : Bool
  hit      : Bool
  /-- Of this basic cycle: arbitrating frames, entries whose window has passed its frame, LINK_CHECKs in the service window (Table 8.6). -/
  arbs     : Nat
  passed   : List Nat
  checks   : Nat
  busyTill : Nat
  /-- The next LINK_CHECK to the port carries VIOLATION (R273). -/
  tell     : Bool
  deriving DecidableEq, Repr

/-- Result of the last matrix command (FTN_MATRIX_STATUS). -/
structure MatrixStatus where
  state : Nat
  cause : Nat
  entry : Nat
  deriving DecidableEq, Repr

structure Ftn where
  su       : SuState
  /-- Module time at which the listen timeout or the back-off ends (R250, R257). -/
  suDue    : Nat
  cold     : Bool
  leader   : Bool
  leaderOf : Nat
  match_   : Nat
  attempt  : Nat
  exit     : Nat
  exhausted : Bool
  /-- RUN was cleared and LEAVING frames are being sent (R249). -/
  leaving  : Bool
  /-- Absolute basic-cycle number at which COLDSTART frames began, and of the first counted cluster-cycle start. -/
  coldFrom : Option Nat
  countFrom : Option Nat
  /-- Absolute basic-cycle number n (R212). -/
  cycle    : Nat
  shadow   : Table
  active   : Table
  shadowDirty : Bool
  matrixId : Word
  matrix   : MatrixStatus
  cpErr    : Word
  rx       : List RxStat
  rxBufs   : List (Nat × RxBuf)
  arbNext  : Nat
  arbNo    : Nat
  snapshot : Option RxBuf
  txBufs   : List (Nat × TxBuf)
  seqs     : List (Nat × Nat)
  last     : List LastSeq
  arb      : List Queued
  /-- FTN_RX_ERROR and FTN_SYNC_OUT_WINDOW have been raised in this basic cycle. -/
  errSeen  : Bool
  outSeen  : Bool
  /-- The last DATA entry sent was a NULL frame (interrupt 132). -/
  nullSent : Bool
  sync     : List (Option SyncVal)
  midValid : Bool
  midpoint : Int
  used     : Nat
  out      : Nat
  k        : Nat
  fullPd   : Bool
  /-- Every basic cycle of the present cluster cycle has matched (R253); one had a valid midpoint (R258). -/
  ccMatch  : Bool
  ccMid    : Bool
  noMidRun : Nat
  noMidCc  : Nat
  clique   : Nat
  ports    : List Port
  roleA    : Role
  roleB    : Role
  links    : List Link
  loopedA  : Bool
  loopedB  : Bool
  /-- The same of the last whole cluster cycle (LOOPED_SEEN). -/
  loopedPrevA : Bool
  loopedPrevB : Bool
  guards   : List Guard
  deriving DecidableEq, Repr

/-! ### Cycle engine (spec/09) -/

/-- Batch states of CYC_OC_STATUS and CYC_FRC_STATUS. -/
inductive Batch where
  | idle | staging | pending | applied | rejected
  deriving DecidableEq, Repr

def Batch.code : Batch → Nat
  | .idle => 0
  | .staging => 1
  | .pending => 2
  | .applied => 3
  | .rejected => 4

/-- A staged online-change entry: index, ADDR and value (R313). -/
structure OcEntry where
  index : Nat
  addr  : Word
  value : DWord
  deriving DecidableEq, Repr

/-- A force entry or a staged edit: index, SEL, ADDR and value (R318). -/
structure Force where
  index : Nat
  sel   : Word
  addr  : Word
  value : DWord
  deriving DecidableEq, Repr

/-- What one lane's cycle engine holds for itself: staged and pending batches, force table, sequence counts, program data under
change, logic time, rejected configurations. -/
structure LaneCyc where
  oc       : Batch
  ocCause  : Nat
  ocList   : List OcEntry
  ocPend   : Option (List OcEntry)
  ocTarget : Nat
  under    : Nat
  ocSeq    : Word
  frc      : Batch
  frcCause : Nat
  frcList  : List Force
  frcPend  : Option (List Force)
  frcTarget : Nat
  frcSeq   : Word
  forces   : List Force
  /-- Program data area, by byte offset, where it differs from what initialisation gives (R313); its pages written since the last cut (R312);
  the rotation pointer of the digest (R311). -/
  data     : List (Nat × Byte)
  wrote    : List Nat
  rot      : Nat
  execLast : Nat
  execMax  : Nat
  /-- Phase of this lane (Table 9.1). -/
  phase    : Nat
  startAt  : Nat
  /-- CYC_CFG_STATUS.REJECT and REJ_SEQ. -/
  reject   : Nat
  rejSeq   : BitVec 8
  deriving DecidableEq, Repr

/-- Station (R300): its entry, state code, cause, age, NULL reason, INFO, run of unchanged INFO, bytes of its last VALID freeze. -/
structure Station where
  entry  : Nat
  state  : Nat
  cause  : Nat
  age    : Nat
  reason : Byte
  info   : Byte
  same   : Nat
  hold   : Option (List Byte)
  deriving DecidableEq, Repr

/-- An output image handed over and voted. -/
structure Image where
  cycle : Nat
  start : Nat
  data  : List Byte
  deriving DecidableEq, Repr

structure Cyc where
  lanes    : Tri LaneCyc
  count    : DWord
  /-- A boundary has occurred since the start (R287). -/
  begun    : Bool
  running  : Bool
  overrun  : Nat
  skipped  : Nat
  first    : Bool
  /-- The image of the first cycle is held until the next boundary (R292). -/
  firstImage : Option Image
  image    : Option Image
  /-- Whether an image has been released since the last entry into OPERATIONAL or DEGRADED (Table 7.10). -/
  released : Bool
  /-- TB2 ns of the last boundary, and of the last started cycle's input point (R284, R288). -/
  boundaryAt : Nat
  pointAt  : Option Nat
  absent   : Bool
  fallback : Bool
  /-- Cycle count of the last started cycle. -/
  startedNo : DWord
  stations : List Station
  ocApplied : Bool
  frcChanged : Bool
  /-- The running cycle has been found running at a boundary (R296). -/
  late     : Bool
  /-- A cut has been made since the last boundary (R377, R382). -/
  ended    : Bool
  deriving DecidableEq, Repr

end Sys2Proof.Machine
end

