-- ==== Sys2Proof/Machine/BlocksService.lean ====
section
/-! DEFINITION. The parts of the state of the redundant pair (spec/11), the Culvert and the DMA (spec/14), the service
protocol (spec/15), update and life cycle (spec/17), and telemetry (spec/18, spec/19). -/
namespace Sys2Proof.Machine

/-! ### Redundant pair -/

/-- CHK_STATUS.ROLE. -/
inductive PairRole where
  | solo | active | deciding
  deriving DecidableEq, Repr

def PairRole.code : PairRole → Nat
  | .solo => 0
  | .active => 1
  | .deciding => 2

/-- CHK_STATUS.STREAM. -/
inductive Stream where
  | idle | resync | running | paused
  deriving DecidableEq, Repr

def Stream.code : Stream → Nat
  | .idle => 0
  | .resync => 1
  | .running => 2
  | .paused => 3

/-- State of an MRAM half (R380). -/
inductive HalfState where
  | empty | incomplete | committed
  deriving DecidableEq, Repr

/-- One half of the local MRAM: state, set, cut, claim of its state page, pages. -/
structure Mram where
  state : HalfState
  set   : Word
  cycle : DWord
  pages : List (Nat × List Byte)
  deriving DecidableEq, Repr

/-- A set in transfer at the sender: number, FULL, pages and their CRCs, absorbed cuts, cycle of the final cut, module time of that cut. -/
structure SetOut where
  set    : Word
  full   : Bool
  pages  : List (Nat × List Byte)
  count  : Nat
  merged : Nat
  cycle  : DWord
  cutAt  : Nat
  /-- CRCs of the PAGE records in their order. -/
  crcs   : List Word
  deriving DecidableEq, Repr

/-- A set being received by a standby: number, half, whether its records have been good so far, expected REC_SEQ, PAGE CRCs. -/
structure SetIn where
  set   : Word
  half  : Nat
  full  : Bool
  good  : Bool
  next  : Nat
  crcs  : List Word
  deriving DecidableEq, Repr

structure Chk where
  role     : PairRole
  holder   : Bool
  claim    : Word
  held     : Word
  heldUnit : BitVec 128
  presentN : Bool
  pFail    : Bool
  pClaim   : Bool
  stream   : Stream
  /-- Module time of the last resynchronisation, and whether CHK_CMD RESYNC asked for one. -/
  resyncAt : Option Nat
  setSeq   : Word
  lastPages : Nat
  lastMerged : Nat
  lag      : Nat
  out      : Option SetOut
  /-- Pages changed since the final cut of the previous set and of the one before. -/
  dirty    : List Nat
  dirtyOld : List Nat
  /-- Checkpoint image pages as of the last cut. -/
  image    : List (Nat × List Byte)
  protected_ : Bool
  partner  : Nat
  mramOk   : Bool
  /-- Highest claim received in a ROLE record (R375); the watch of R376 runs; step 3 was taken. -/
  roleClaim : Word
  watch    : Bool
  /-- Module times of the start of the role decision and of the assertion of CLAIM_N, and ROLE records sent (R374, R376). -/
  roleAt   : Nat
  watchAt  : Nat
  roleSent : Nat
  ga1Wait  : Bool
  /-- Cluster cycles since the last ANNOUNCE; a REJECT was sent in this cluster cycle. -/
  announced : Nat
  rejected : Bool
  /-- Standby: ARMED, set being received, a set applied since STANDBY was entered, last set applied, identities match,
  CYCLE_US, module time until which a record is awaited. -/
  armed    : Bool
  inSet    : Option SetIn
  applied  : Bool
  lastOk   : Bool
  idMatch  : Bool
  cycleUs  : Nat
  deadline : Nat
  /-- Events of the STANDBY period, at most 16 (event code, set number, time). -/
  events   : List (Nat × Word × Nat)
  /-- The next set is FULL: the first after a warm restart (R525). -/
  fullNext : Bool
  /-- Those events have been written as PAIR_STATE records. -/
  told     : Bool
  /-- A takeover is running (R386): recognised, and the half loaded. -/
  takeover : Option Nat
  deriving DecidableEq, Repr

/-! ### Culvert and DMA -/

/-- BRG_LINK_STATE codes. -/
inductive LinkState where
  | off | down | training | up | stream
  deriving DecidableEq, Repr

def LinkState.code : LinkState → Nat
  | .off => 0
  | .down => 1
  | .training => 2
  | .up => 3
  | .stream => 4

/-- An outstanding write: tag, remote address, stream, agreeing lanes or DMA channel, non-posted, module time of its acceptance, its bytes, and
the module time of a RETRY after which it has not been repeated. -/
structure Posted where
  tag    : Nat
  addr   : Nat
  stream : Nat
  lanes  : BitVec 3
  dma    : Option Nat
  np     : Bool
  at_    : Nat
  data   : List Byte
  retryAt : Option Nat
  deriving DecidableEq, Repr

/-- A packet without LINK_ACK, its resends, and the module time of the last of its sendings. -/
structure Unacked where
  packet : Packet
  tries  : Nat
  at_    : Nat
  deriving DecidableEq, Repr

/-- A read in progress: tag, address, length, stream or DMA channel, RETRY answers in a row, whether the last request was answered by RETRY,
module time of the last request or answer. -/
structure Reading where
  tag     : Nat
  addr    : Nat
  len     : Nat
  stream  : Nat
  retries : Nat
  answered : Bool
  at_     : Nat
  dma     : Option Nat
  deriving DecidableEq, Repr

/-- A delayed-read slot (R449): the request, and when the fetch is complete the data and the module time of its completion. -/
structure Fetch where
  addr : Nat
  len  : Nat
  data : Option (List Byte)
  at_  : Nat
  deriving DecidableEq, Repr

structure Culvert where
  state   : LinkState
  nextTag : Nat
  txSeq   : Nat
  rxSeq   : Nat
  posted  : List Posted
  unacked : List Unacked
  reads   : List Reading
  fetches : List Fetch
  inbound : Nat
  /-- Tags that have failed locally and have not been given out again (R444). -/
  failedTags : List Nat
  deriving DecidableEq, Repr

/-- A failure FIFO entry (Table 14.8). -/
structure Fail where
  head : Word
  addr : Nat
  deriving DecidableEq, Repr

/-- What a link answer brought to the stream that waits for it: bus error, and the bytes of a read. -/
structure LinkAnswer where
  stream : Nat
  busError : Bool
  data   : List Byte
  deriving DecidableEq, Repr

structure Brg where
  link0   : Culvert
  link1   : Culvert
  fifo    : List Fail
  lost    : Bool
  /-- Failed writes per stream since its last fence. -/
  failed  : List (Nat × Nat)
  fence   : Word
  answers : List LinkAnswer
  /-- BRG_LINK_CFG as read at the last start-up (Table 14.7). -/
  cfg     : Word
  deriving DecidableEq, Repr

/-- DMA channel states. -/
inductive DmaState where
  | idle | running | done | error | aborted
  deriving DecidableEq, Repr

def DmaState.code : DmaState → Nat
  | .idle => 0
  | .running => 1
  | .done => 2
  | .error => 3
  | .aborted => 4

structure Dma where
  state : DmaState
  error : Nat
  cause : Nat
  seq   : BitVec 8
  done  : Nat
  crc   : Word
  cur   : Nat
  desc  : List Byte
  /-- Data read over a link that is held, unwritten, for room or for the end of a stop-copy (R443, R453). -/
  buf   : List Byte
  deriving DecidableEq, Repr

/-! ### Keneoha service protocol -/

/-- Session states (Table 15.7). -/
inductive SessState where
  | open_ | awaitAuth
  deriving DecidableEq, Repr

/-- A segmented write in progress (R477). -/
structure SegWrite where
  index : Half
  sub   : Byte
  data  : List Byte
  at_   : Nat
  deriving DecidableEq, Repr

structure Session where
  num     : Half
  role    : Nat
  state   : SessState
  path    : Path
  nonce   : List Byte
  openAt  : Nat
  lastAt  : Nat
  /-- Last executed request and its kept response (R472). -/
  kept    : Option (Half × KspMsg)
  snapshot : Option (List Byte × Nat)
  seg     : Option SegWrite
  segTimedOut : Bool
  /-- A write waiting for its register path's status (R474): the request and its module time. -/
  waiting : Option (KspMsg × Nat)
  attNonce : List Byte
  /-- Cursor of 0xA011: none while it stands at the oldest record; and its area (R506). -/
  cursor   : Option Word
  cursorKept : Nat
  deriving DecidableEq, Repr

/-- How a write through KSP ends: answered with a status and a payload, or once its register path's status is complete (R474). -/
inductive WriteEnd where
  | done (status : Nat) (payload : List Byte)
  | waits
  deriving DecidableEq, Repr

/-- Failed authentications of a path: module times of the failures in the last 60 s, and the end of a lockout (R483). -/
structure Lockout where
  path  : Path
  fails : List Nat
  till  : Option Nat
  deriving DecidableEq, Repr

structure Ksp where
  sessions : List Session
  lockouts : List Lockout
  executed : Word
  discarded : Word
  busy     : Word
  authFails : Word
  opened   : Word
  storeWrites : Word
  repairs  : Word
  /-- Broadcast answers waiting for their delay (R486), oldest first: module time at which each is due, path, message. -/
  broadcast : List (Nat × Path × KspMsg)
  /-- Volatile application parameters written since the last reset (R467), by objKey. -/
  params   : List (Nat × List Byte)
  /-- Values of 0x1200 to 0x1211 in force: those stored at the last VERIFY (R462), by objKey. -/
  active   : List (Nat × List Byte)
  /-- Requests that came at module time `queuedAt`: the server's queue (R471). -/
  queued   : Nat
  queuedAt : Nat
  deriving DecidableEq, Repr

end Sys2Proof.Machine
end

