-- ==== Sys2Proof/Machine/BlocksStore.lean ====
section
/-! DEFINITION. What survives a module reset or a power loss (image slots, object store, key vault, life cycle, NAND,
MRAM: R53, R62, R460, R507, R531, R535), and the volatile parts of update, security engine and telemetry (spec/17, spec/18). -/
namespace Sys2Proof.Machine

/-- Slot states of Table 17.2. -/
inductive SlotState where
  | empty | erasing | receiving | received | verified | invalid
  deriving DecidableEq, Repr

def SlotState.code : SlotState → Nat
  | .empty => 0
  | .erasing => 1
  | .receiving => 2
  | .received => 3
  | .verified => 4
  | .invalid => 5

/-- One NOR slot: its state and the blocks written, by rising block number (R517: 4,096 bytes each but the last). -/
structure NorSlot where
  state  : SlotState
  blocks : List (Nat × List Byte)
  deriving DecidableEq, Repr

/-- The two slots of an image type, the mark, the slot marked TRIAL, and the slot that runs (true: slot B). -/
structure TypeSlots where
  a      : NorSlot
  b      : NorSlot
  markB  : Bool
  trial  : Option Bool
  runB   : Bool
  deriving DecidableEq, Repr

/-- Life-cycle states of Table 17.11. -/
inductive Life where
  | manufacture | provisioned | field | fieldOpen | returned | scrapped
  deriving DecidableEq, Repr

def Life.code : Life → Nat
  | .manufacture => 1
  | .provisioned => 2
  | .field => 3
  | .fieldOpen => 4
  | .returned => 5
  | .scrapped => 6

/-- What keeps its value across resets and power loss. -/
structure NonVol where
  /-- LRT, NET, SUP, CPF. -/
  slots    : List TypeSlots
  nand     : Nand
  half0    : Mram
  half1    : Mram
  /-- Objects of persistence STORED whose value is not the default, by rising index × 256 + sub-index. -/
  store    : List (Nat × List Byte)
  gen      : Nat
  copy0    : Bool
  copy1    : Bool
  /-- Objects of persistence FACTORY that have been written (keys, endorsement). -/
  factory  : List (Nat × List Byte)
  life     : Life
  lifeWas  : Life
  lifeChanges : BitVec 8
  /-- Identity key pair present: its number among those this unit has generated. -/
  identity : Option Nat
  keysMade : Nat
  imageKey : Option (List Byte)
  porCount : Word
  resetCount : Word
  warmCount : Word
  opSeconds : Word
  /-- Nanoseconds into the present operating second (R584). -/
  opNs     : Nat
  /-- SYS_OP_SECONDS at the last automatic restart: its limit is measured across power losses (R43, R584). -/
  autoRestart : Option Nat
  /-- A tamper event that no re-provisioning has followed: reason TAMPER at every start (Table 2.4). -/
  tamper   : Bool
  /-- What DMA has written to the eMMC, by byte (512 × block number). -/
  emmc     : List (Nat × Byte)
  deriving DecidableEq, Repr

/-- Volatile part of UPD: results of the last command and block, cross-check, staging step, test access. -/
structure Upd where
  state   : Nat
  cause   : Nat
  seq     : BitVec 8
  lastOp  : Nat
  detail  : Nat
  blkState : Nat
  blkCause : Nat
  blkSeq  : BitVec 8
  compat  : Nat
  typeX   : Nat
  typeY   : Nat
  scanOpen : Bool
  debugOpen : Bool
  /-- Failing NOR blocks left as they are (R507): slot number and count. -/
  failing : List (Nat × Nat)
  deriving DecidableEq, Repr

/-- SEC engine of one lane. -/
structure Sec where
  state : Nat
  valid : Bool
  cause : Nat
  seq   : BitVec 8
  deriving DecidableEq, Repr

/-- Telemetry (spec/18), temperatures (spec/19). -/
structure Tlm where
  pubSeq  : Word
  snapshot : List Byte
  temp    : Int
  vin     : Nat
  power   : Nat
  tempWarn : Bool
  marginWarn : Bool
  /-- TLM_BG_STATUS, the activities whose present pass has missed its period, and the operating second of the last BG_LATE record of
  each activity (R540). -/
  late    : BitVec 10
  latePass : BitVec 10
  lateAt  : List (Option Nat)
  /-- Module time at which the present period of each activity of TLM_BG_STATUS began; from 10 on those of the two scrubs of lanes A to C (R540). -/
  periodAt : List Nat
  /-- Slots that the present NOR pass has read, and ports that the present pass of margin checks has measured. -/
  norSeen  : BitVec 8
  portSeen : BitVec 22
  margins : List Int
  /-- Module time since which a port's margin has been below MARGIN_WARN. -/
  lowSince : List (Option Nat)
  progress : Tri Nat
  /-- Excursion in progress: module time of its start, peak in 0.1 K, 10 min mark recorded. -/
  excursion : Option (Nat × Int × Bool)
  /-- Module time since which the snapshots have shown the highest sensor at or above 110 °C (R580). -/
  hotAt    : Option Nat
  deriving DecidableEq, Repr

end Sys2Proof.Machine
end

