-- ==== Sys2Proof/Machine/State.lean ====
section
/-! DEFINITION. The state of the module, the names of faults and refusals, and the state after a power-on reset. -/
namespace Sys2Proof.Machine

/-- No command of this block faults: every error the spec describes is an effect on the state (a bus error, an exclusion, a
rejected command). The one constructor names a state that no run from reset reaches; nothing raises it. Safe. -/
inductive Fault where
  | none
  deriving DecidableEq, Repr

/-- Reasons for which a command is not run. -/
inductive Refusal where
  /-- The command of this mnemonic has no meaning in the model yet: raised by its arm in Dispatch. Safe. -/
  | notModelled (mnemonic : String)
  deriving DecidableEq, Repr

/-- The state of the module: the queue of waiting commands, time, the register file, and the blocks. -/
structure State where
  /-- Commands waiting, the first to be run in front. -/
  pending : List Instr
  /-- Module time in ns since the start (TB2 as the blocks count it). -/
  now     : Nat
  /-- The model's own: number of free values used. -/
  free    : Nat
  /-- Registers whose value is not their reset value, by rising key (`regKey`): RW registers, counters, latched results. -/
  regs    : List (Nat × Word)
  /-- SHADOWED registers with a value pending. -/
  shadows : List Shadow
  latches : List Latch
  loWrites : List LoWrite
  /-- What the module has put on its wires since the last idle step, oldest first. -/
  out     : List Msg
  sys     : Sys
  isl     : Island
  nv      : NonVol
  time    : Time
  vot     : Vot
  icus    : Tri Icu
  mems    : Tri LaneMem
  erec    : Recorder
  odo     : Odo
  sup     : Sup
  pst     : Piste
  dio     : Dio
  ftn     : Ftn
  cyc     : Cyc
  chk     : Chk
  brg     : Brg
  dmas    : List Dma
  ksp     : Ksp
  upd     : Upd
  secs    : Tri Sec
  tlm     : Tlm
  deriving DecidableEq, Repr

/-! ### Reset values of the blocks -/

namespace Reset

def engine : Engine := ⟨false, [], 0, 0⟩

/-- START-UP.BOOT after a power-on reset (SYS_MODE_STATE 0x12, Table 2.8). -/
def sys : Sys :=
  { mode := .boot, failSilent := false, recovery := false, active := 0, found := 0, first := 0, changedAt := 0, heldAt := 0,
    ran := false, startDone := false, storeBad := false, entering := false, warmMask := 0, warmArmed := false, warmPause := false, pauseAt := 0, cpfValid := false,
    netA := engine, netB := engine, guardianFault := false, guardianTill := 0, dspFault := false, mramFault := false, norFault := false,
    hubFault := false, overVolt := false, startAt := 0 }

def island : Island :=
  { powered := true, rtc := 0, rtcNs := 0, rtcAlarm := 0, wakeCause := 0, wakeArmed := 0, wakeEarly := none, resetCause := 1,
    startResets := 0, failN := false, claimN := false, events := [], eventsLost := 0,
    extLatch := 0, supLoaded := false, testHold := false, follow := false, ga := 0 }

def slot : NorSlot := ⟨.empty, []⟩

def typeSlots : TypeSlots := ⟨slot, slot, false, none, false⟩

def half : Mram := ⟨.empty, 0, 0, []⟩

def nand : Nand := ⟨[], [], 0, 0, none, [], 0, 0⟩

def nonVol : NonVol :=
  { slots := List.replicate 4 typeSlots, nand := nand, half0 := half, half1 := half, store := [], gen := 0, copy0 := true,
    copy1 := true, factory := [], life := .manufacture, lifeWas := .manufacture, lifeChanges := 0, identity := none,
    keysMade := 0, imageKey := none, porCount := 0, resetCount := 0, warmCount := 0, opSeconds := 0, opNs := 0, autoRestart := none, tamper := false, emmc := [] }

def laneServo : LaneServo := ⟨.free, 0, 0, none, 0, false, false, 0, 0, 0, 0⟩

/-- A time base at 0 with the nominal rate word and its servos FREE (R113, R126). -/
def base : Base := { ctr1 := 0, ctr2 := 0, ctr3 := 0, rate := 281474976710656, stepSeq := 0, servos := Tri.all laneServo }

def ptp : Ptp := ⟨20, [], 0, none, none, 0, none, none, none⟩

def time : Time := ⟨base, base, base, base, [], [], ptp⟩

def laneVote : LaneVote :=
  { phase := .boot, cause := 0, safetyRun := 0, stdRun := 0, safetyHit := false, stdHit := false, skewRun := 0,
    portFails := [], history := [], passes := 0, dirty := 0, ready := false, peerRun := 0, requested := false,
    cfg := 0, phaseAt := 0, waits := false, handed := none, digestLo := 0, digest := none, ended := none, seqs := [],
    portSeq := 0, answer := ⟨0, 0, false⟩ }

def agree : Agree := ⟨none, none, 0, Tri.all []⟩

def vot : Vot :=
  { lanes := Tri.all laneVote, slices := 7, open_ := [], kept := [], digest := 0, digestLo := 0, exclSeq := 0, exclAt := 0,
    readmitAt := 0, agree := List.replicate 50 agree, strobes := [0, 0, 0], voted := none, votedDigest := none, votedEnd := none,
    extIn := 0, extAt := List.replicate 16 0 }

def icuCore : IcuCore :=
  { seq := .run, under := none, maskN := false, maskF := false, runPri := 0, sigN := 0, sigF := 0, actN := 0, actF := 0,
    prioN := 0, held := 0, bank := false }

def icu : Icu := ⟨[], [], List.replicate 6 icuCore⟩

def laneMem : LaneMem :=
  { dram := [], spad := [], secure := .empty, wipeCause := 0, wipeSeq := 0, wipeTime := 0, ceStart := 0, ceCount := 0,
    ceRate := false, ceRecorded := false, persistent := false, scrubOld := [], scrubNow := [], domainOpen := false,
    powerOff := false, offAt := 0 }

def recorder : Recorder := ⟨.notReady, [], false, [], 0, [], false, false, none⟩

def speedPhase : SpeedPhase := ⟨false, 0, 0, none⟩

def sensor : Sensor :=
  { state := .off, a := speedPhase, b := speedPhase, count := 0, seen := 0, lock := 0, fwd := true, edgeAt := 0, prevAt := 0, vel := 0, dist := 0,
    okFrom := none, alone := 0, aloneB := false, unfitAt := 0, fitSince := none }

def odo : Odo :=
  { pos := 0, frac := 0, vel := 0, acc := 0, cls := 0, standstill := false, dir := 0, bridged := false, bridgeAt := 0, fixSeq := 0,
    uncBase := 0, uncDist := 0, unc := 4294967295, haveFix := false, restored := false, quality := 0, estAt := 0, estSeq := 0, sensors := List.replicate 4 sensor,
    pending := none, history := [], gateRun := [], calFix := none, remote := none, remoteAt := 0, remoteFrom := 0,
    remoteStale := false, remoteJump := false, inert := none, calmSince := none, takeFrom := none, resume := false }

def chan : Chan :=
  { val := 0, valued := false, inst := 0, range := false, samples := [], freshAt := 0, outAt := none, backAt := none, lowAt := none, highAt := none,
    peak := 0, phase := 0, phaseAt := 0, dev := 0, within := 0, long := false }

def means : Means := { since := 0, freqs := 0, nFreq := 0, thds := 0, harms := [], nHarm := 0, freq := none, thd := none, harm := [] }

def sup : Sup :=
  { lock := .off, phase := 0, freq := 0, phaseAt := 0, chans := List.replicate 4 chan, rms := 0, measFreq := 0, slope := 0,
    goodRun := 0, jumpRun := 0, holdAt := 0, windowAt := 0, means := means, spares := Tri.all none, calNext := 0, calAt := 0, thd := 0,
    harm := List.replicate 40 0, active := [], fifo := [], lost := false, seq := 0, recent := [], lastEnd := 0, ended := [] }

def piste : Piste :=
  { armed := [], pulses := [], doLevel := 0, sync := 0, fifo := [], lost := false, seq := 0, fired := [], edgeAt := 0, edge := [], applied := 0,
    clashed := false }

def di : Di := ⟨.invalid, .invalid, 0, false, false, 0, 0⟩

def group : Group := ⟨.normal, false, 0, 0, 0, true, false, false, none, 0, none⟩

def out : Out :=
  { image := false, on := false, holdLvl := false, refreshAt := none, changedAt := 0, silent := false, fresh := false,
    faults := 0, demag := false, ssSource := 0, partner := 0, energy := 0, dark := false, darkFails := 0 }

/-- The group switches are open with cause MODE (DIO_GRP_STATE 0x100, Table 10.12). -/
def dio : Dio :=
  { dis := List.replicate 32 di, groups := List.replicate 4 group ++ List.replicate 2 { group with causes := 1 }, outs := List.replicate 16 out, trueR := 0, latched := 0,
    falseAt := List.replicate 8 0,
    prevClear := 0, prevReen := 0, prevReset := 0, enabled := false }

def port : Port :=
  { up := false, noStamp := false, cal := .uncal, calRun := false, calStep := 0, calReq := false, dev := 0, partnerDev := none, loopMeas := [],
    wayMeas := [], noLoop := false, loopFor := false, sent := [], seqOut := 0, echoSeq := 65535, echoRx := 0,
    lastCheck := none, delays := [], delay := none, pdIn := List.replicate 15 none, offset := none, offsetOver := false }

def link : Link := ⟨false, false, 0, 0, false, false, false, none, false, []⟩

def guard : Guard := ⟨0, 0, 0, 0, false, false, false, 0, [], 0, 0, false⟩

def ftn : Ftn :=
  { su := .stopped, suDue := 0, cold := false, leader := false, leaderOf := 0, match_ := 0, attempt := 0, exit := 0, exhausted := false,
    leaving := false, coldFrom := none, countFrom := none, cycle := 0, shadow := ⟨[]⟩, active := ⟨[]⟩, shadowDirty := false,
    matrixId := 0, matrix := ⟨0, 0, 0⟩, cpErr := 0, rx := [], rxBufs := [], arbNext := 0, arbNo := 0, snapshot := none, txBufs := [],
    seqs := [], last := [], arb := [], errSeen := false, outSeen := false, nullSent := false,
    sync := List.replicate 15 none, midValid := false, midpoint := 0, used := 0, out := 0, k := 0, fullPd := false,
    ccMatch := false, ccMid := false, noMidRun := 0, noMidCc := 0, clique := 0, ports := List.replicate 22 port,
    roleA := .normal, roleB := .normal, links := List.replicate 4 link, loopedA := false, loopedB := false,
    loopedPrevA := false, loopedPrevB := false, guards := List.replicate 16 guard }

def laneCyc : LaneCyc :=
  { oc := .idle, ocCause := 0, ocList := [], ocPend := none, ocTarget := 0, under := 0, ocSeq := 0, frc := .idle, frcCause := 0,
    frcList := [], frcPend := none, frcTarget := 0, frcSeq := 0, forces := [], data := [], wrote := [], rot := 0, execLast := 0, execMax := 0, phase := 0,
    startAt := 0, reject := 0, rejSeq := 0 }

def cyc : Cyc :=
  { lanes := Tri.all laneCyc, count := 0, begun := false, running := false, overrun := 0, skipped := 0, first := true,
    firstImage := none, image := none, released := false, boundaryAt := 0, pointAt := none, absent := false,
    fallback := false, startedNo := 0, stations := [], ocApplied := false,
    frcChanged := false, late := false, ended := false }

def chk : Chk :=
  { role := .solo, holder := false, claim := 0, held := 0, heldUnit := 0, presentN := false, pFail := true,
    pClaim := false, stream := .idle, resyncAt := none, setSeq := 0, lastPages := 0, lastMerged := 0, lag := 0, out := none,
    dirty := [], dirtyOld := [], image := [], protected_ := false, partner := 0,
    mramOk := false, roleClaim := 0, watch := false, roleAt := 0, watchAt := 0, roleSent := 0, ga1Wait := false, announced := 0, rejected := false, armed := false,
    inSet := none, applied := false, lastOk := false, idMatch := false, cycleUs := 0, deadline := 0, events := [], fullNext := false, told := true,
    takeover := none }

def culvert : Culvert := ⟨.off, 0, 0, 0, [], [], [], [], 0, []⟩

def brg : Brg := ⟨culvert, culvert, [], false, [], 0, [], 0⟩

def dma : Dma := ⟨.idle, 0, 0, 0, 0, 0, 0, [], []⟩

def ksp : Ksp := ⟨[], [], 0, 0, 0, 0, 0, 0, 0, [], [], [], 0, 0⟩

def upd : Upd := ⟨0, 0, 0, 0, 0, 0, 0, 0, 0, 0, 0, false, false, []⟩

def sec : Sec := ⟨0, false, 0, 0⟩

def tlm : Tlm :=
  { pubSeq := 0, snapshot := List.replicate 64 0, temp := 0, vin := 0, power := 0, tempWarn := false, marginWarn := false,
    late := 0, latePass := 0, lateAt := List.replicate 10 none, periodAt := List.replicate 16 0, norSeen := 0, portSeen := 0, margins := List.replicate 22 0, lowSince := List.replicate 22 none,
    progress := Tri.all 0, excursion := none, hotAt := none }

end Reset

/-- The module right after a power-on reset (R49, Table 2.1): START-UP.BOOT, every register at its reset value, nothing in
any store. What a unit's stores hold when it is switched on is its own matter; the model's unit holds nothing. -/
def State.reset : State :=
  { pending := [], now := 0, free := 0, regs := [], shadows := [], latches := [], loWrites := [], out := [],
    sys := Reset.sys, isl := Reset.island, nv := Reset.nonVol, time := Reset.time, vot := Reset.vot,
    icus := Tri.all Reset.icu, mems := Tri.all Reset.laneMem, erec := Reset.recorder, odo := Reset.odo, sup := Reset.sup,
    pst := Reset.piste, dio := Reset.dio, ftn := Reset.ftn, cyc := Reset.cyc, chk := Reset.chk, brg := Reset.brg,
    dmas := List.replicate 16 Reset.dma, ksp := Reset.ksp, upd := Reset.upd, secs := Tri.all Reset.sec, tlm := Reset.tlm }

end Sys2Proof.Machine
end

