-- ==== Sys2Proof/Machine/Ops.lean ====
section
/-! DEFINITION. The operations every meaning is written over: bit fields and checks of bytes, sparse lists in canonical form,
the register file, time, assertion of interrupt sources, records, modes and reasons, exclusion, fail-silent and reset. -/
namespace Sys2Proof.Machine

/-! ### Bit fields, bytes and check codes -/

/-- Field of `n` bits from bit `lo` of a word, as a number. -/
def fld (w : Word) (lo n : Nat) : Nat := (w.toNat >>> lo) % 2 ^ n

/-- Bit `i` of a word. -/
def bit (w : Word) (i : Nat) : Bool := w.getLsbD i

/-- A word of the fields given as (lowest bit, value): values are taken as they stand, so a caller cuts them to their width. -/
def mkWord (fs : List (Nat × Nat)) : Word := BitVec.ofNat 32 (fs.foldl (fun a f => a + f.2 <<< f.1) 0)

/-- 1 for true. -/
def b2n (b : Bool) : Nat := if b then 1 else 0

/-- `n` bytes of a number, most significant first (R15). -/
def beBytes : Nat → Nat → List Byte
  | 0, _ => []
  | n + 1, v => BitVec.ofNat 8 (v >>> (8 * n)) :: beBytes n v

/-- The number of bytes most significant first. -/
def beNat (bs : List Byte) : Nat := bs.foldl (fun a b => a * 256 + b.toNat) 0

/-- `n` bytes of a number, least significant first (R6). -/
def leBytes : Nat → Nat → List Byte
  | 0, _ => []
  | n + 1, v => BitVec.ofNat 8 v :: leBytes n (v / 256)

/-- The number of bytes least significant first. -/
def leNat : List Byte → Nat
  | [] => 0
  | b :: bs => b.toNat + 256 * leNat bs

/-- Bytes `o` to `o + n - 1`. -/
def slice (bs : List Byte) (o n : Nat) : List Byte := (bs.drop o).take n

/-- Number at offset `o`, `n` bytes, most significant first. -/
def beAt (bs : List Byte) (o n : Nat) : Nat := beNat (slice bs o n)

/-- A two's complement number of `n` bits. -/
def signed (n v : Nat) : Int := if v % 2 ^ n < 2 ^ (n - 1) then (v % 2 ^ n : Nat) else ((v % 2 ^ n : Nat) : Int) - (2 ^ n : Nat)

/-- The `n`-bit two's complement code of a number. -/
def code (n : Nat) (i : Int) : Nat := (i % ((2 ^ n : Nat) : Int)).toNat

/-- `i` held within [-(2^(n-1)), 2^(n-1) - 1] (a saturating signed field). -/
def satSigned (n : Nat) (i : Int) : Int := max (-((2 ^ (n - 1) : Nat) : Int)) (min i (((2 ^ (n - 1) : Nat) : Int) - 1))

/-- One reflected CRC step of a byte, polynomial given reflected. -/
def crcByte (poly : Nat) : Nat → Nat → Nat
  | 0, r => r
  | k + 1, r => crcByte poly k (if r % 2 = 1 then (r / 2) ^^^ poly else r / 2)

/-- Reflected CRC of `bits` bits with all-ones initial value and final XOR (R222, R311). -/
def crcOf (bits poly : Nat) (bs : List Byte) : Nat :=
  (bs.foldl (fun r b => crcByte poly 8 (r ^^^ b.toNat)) (2 ^ bits - 1)) ^^^ (2 ^ bits - 1)

/-- CRC-32C of R222: polynomial 0x1EDC_6F41, reflected. -/
def crc32c (bs : List Byte) : Word := BitVec.ofNat 32 (crcOf 32 0x82F63B78 bs)

/-- CRC-64 of R311: polynomial 0x42F0_E1EB_A9EA_3693, reflected. -/
def crc64 (bs : List Byte) : DWord := BitVec.ofNat 64 (crcOf 64 0xC96C5795D7870F42 bs)

/-- CRC-32C continued from the CRC of the bytes before. -/
def crc32cFrom (r : Word) (bs : List Byte) : Word :=
  BitVec.ofNat 32 ((bs.foldl (fun r b => crcByte 0x82F63B78 8 (r ^^^ b.toNat)) (r.toNat ^^^ 0xFFFFFFFF)) ^^^ 0xFFFFFFFF)

/-! ### Lists -/

/-- Element `i` replaced by `f` of it; the list unchanged when there is none. -/
def modAt {α : Type} (l : List α) (i : Nat) (f : α → α) : List α :=
  match l, i with
  | [], _ => []
  | x :: xs, 0 => f x :: xs
  | x :: xs, i + 1 => x :: modAt xs i f

/-- Value at a key of a sparse list. -/
def look {α : Type} (l : List (Nat × α)) (k : Nat) : Option α :=
  match l with
  | [] => none
  | (a, x) :: xs => if a = k then some x else look xs k

/-- Entry removed. -/
def del {α : Type} (l : List (Nat × α)) (k : Nat) : List (Nat × α) :=
  match l with
  | [] => []
  | (a, x) :: xs => if a = k then xs else (a, x) :: del xs k

/-- Entry inserted at its place by rising key, or replaced. -/
def put {α : Type} (l : List (Nat × α)) (k : Nat) (v : α) : List (Nat × α) :=
  match l with
  | [] => [(k, v)]
  | (a, x) :: xs => if k < a then (k, v) :: (a, x) :: xs else if a = k then (k, v) :: xs else (a, x) :: put xs k v

/-- Entry written in canonical form: a value equal to what an unlisted key reads as is not listed. -/
def putC {α : Type} [DecidableEq α] (l : List (Nat × α)) (k : Nat) (dflt v : α) : List (Nat × α) :=
  if v = dflt then del l k else put l k v

/-- Canonical form of a sparse list: keys strictly rising from `lo`, no entry at its default. -/
def canonFrom {α : Type} [DecidableEq α] (dflt : Nat → α) : Nat → List (Nat × α) → Bool
  | _, [] => true
  | lo, (k, v) :: xs => decide (lo ≤ k) && !decide (v = dflt k) && canonFrom dflt (k + 1) xs

def canon {α : Type} [DecidableEq α] (dflt : Nat → α) (l : List (Nat × α)) : Bool := canonFrom dflt 0 l

/-- A number inserted into a strictly rising list. -/
def insNat (l : List Nat) (n : Nat) : List Nat :=
  match l with
  | [] => [n]
  | x :: xs => if n < x then n :: x :: xs else if x = n then x :: xs else x :: insNat xs n

/-! ### Bytes of memory -/

/-- A byte of memory; what nothing has written reads 0 (log 8). -/
def rdByte (m : List (Nat × Byte)) (a : Nat) : Byte := (look m a).getD 0

def wrByte (m : List (Nat × Byte)) (a : Nat) (b : Byte) : List (Nat × Byte) := putC m a 0 b

def rdBytes (m : List (Nat × Byte)) (a : Nat) : Nat → List Byte
  | 0 => []
  | n + 1 => rdByte m a :: rdBytes m (a + 1) n

def wrBytes (m : List (Nat × Byte)) (a : Nat) (bs : List Byte) : List (Nat × Byte) :=
  match bs with
  | [] => m
  | b :: rest => wrBytes (wrByte m a b) (a + 1) rest

/-- Memory in canonical form. -/
def memWf (m : List (Nat × Byte)) : Bool := canon (fun _ => (0 : Byte)) m

/-! ### The register file -/

/-- Reset values that are not 0 (block summary tables; per-base values of Table 4.7): first offset, stride, count, value. -/
def resetRows : List (Nat × Nat × Nat × Word) :=
  [(0xF0018, 4, 1, 0xF0), (0x10000, 4, 1, 0xA0831), (0x10004, 4, 1, 0xC112), (0x10008, 4, 1, 0x310),
   (0x1000C, 4, 1, 0x20010040), (0x10010, 4, 1, 0x148311), (0x10060, 4, 8, 0xFFFFFFFF), (0x30018, 64, 4, 0x10000),
   (0x3001C, 4, 1, 0x01640205), (0x3005C, 4, 1, 0x0A643205), (0x300DC, 4, 1, 0x0A640A01),
   (0x30020, 4, 1, 0x40008000), (0x30060, 4, 1, 0x04002000), (0x300E0, 4, 1, 0x10004000),
   (0x30024, 4, 1, 0x000A0001), (0x30064, 4, 1, 0x0E100BB8), (0x300E4, 4, 1, 0x0E100BB8)] ++
  [(0x50000, 4, 1, 0x43209F1), (0x50004, 4, 1, 0x1F400C8), (0x50008, 4, 1, 0x1F407D0), (0x5000C, 4, 1, 0x27102710),
   (0x50010, 4, 1, 0x14020032), (0x50014, 4, 1, 0x40000), (0x50018, 4, 1, 0x20), (0x50020, 4, 4, 0x4064),
   (0x50030, 4, 4, 0xCD140), (0x50054, 4, 1, 0xFFFFFFFF), (0x60000, 4, 1, 0x3F0040), (0x40000, 4, 1, 0x64)] ++
  [(0x70004, 4, 1, 0x300000), (0x70008, 4, 1, 0xA00C0FA), (0x7000C, 4, 1, 0x1F40CE4), (0x70010, 4, 1, 0x401400C8),
   (0x70124, 4, 1, 0xFFFF), (0x71000, 4, 1, 0x11448), (0x71080, 4, 20, 0xFFFFFFFF), (0x71200, 4, 1, 0x84301F4),
   (0x7120C, 4, 1, 0x64), (0x71280, 4, 16, 0x80000000), (0x20000, 4, 1, 0x104), (0x20004, 4, 1, 0x7D0),
   (0x20008, 4, 1, 0x400040), (0x2000C, 4, 1, 0x1000100), (0x20010, 4, 1, 0x4)] ++
  [(0x80000, 4, 32, 0x27E8), (0x80080, 4, 16, 0xA5290), (0x800C0, 4, 6, 0x1F4), (0xE0000, 4, 1, 0x102),
   (0xE0008, 4, 1, 0xFFFF), (0x40, 4, 16, 0x1900), (0x110000, 4, 1, 0x40), (0x90000, 4, 1, 0xA0164), (0x90004, 4, 1, 0x3),
   (0xB0000, 4, 1, 0xA000A), (0x100000, 4, 1, 0x1E55)] ++
  -- interrupt sources whose default class is fast (Tables 9.14, 7.18, 6.14, 10.13) and the others
  [(0x1140, 4, 1, 0x102), (0x1280, 4, 32, 0x102), (0x1340, 4, 48, 0x102), (0x1400, 4, 32, 0x102), (0x1004, 4, 511, 0x100)]

/-- First row that holds an offset. -/
def resetOf (rows : List (Nat × Nat × Nat × Word)) (off : Nat) : Word :=
  match rows with
  | [] => 0
  | (lo, st, n, v) :: rest => if lo ≤ off && off < lo + st * n && (off - lo) % st == 0 then v else resetOf rest off

/-- Reset value of the register at a key. -/
def regReset (key : Nat) : Word := resetOf resetRows (key % 16777216)

/-- Defined bits of the registers that have reserved ones (field tables of the block chapters; R8): first offset, stride, count, mask. -/
def maskRows : List (Nat × Nat × Nat × Word) :=
  [(0xF0014, 4, 1, 0x303), (0xF0018, 4, 1, 0xFF), (0x10000, 4, 1, 0xFFFFF3), (0x10004, 4, 1, 0x1DFF2), (0x10008, 4, 1, 0xFFFF),
   (0x10010, 4, 1, 0xFFFFF1), (0x3001C, 64, 4, 0xFFFFFF07), (0x30100, 4, 1, 0x3), (0x50000, 4, 1, 0xFFF0FF3), (0x50010, 4, 1, 0xFF0FFFFF),
   (0x50014, 4, 1, 0xFF3FFF), (0x50018, 4, 1, 0x3F), (0x50020, 4, 4, 0x7FFF), (0x60000, 4, 1, 0x3F007F), (0x60004, 4, 4, 0x7)] ++
  [(0x48010, 32, 1024, 0x33FF00DF), (0x48014, 32, 1024, 0x33FF00DF), (0x48018, 32, 1024, 0xFFFFFF1F), (0x40000, 4, 1, 0xFFFF),
   (0x40004, 4, 1, 0xFFFF), (0x70000, 4, 1, 0x73FFF), (0x70004, 4, 1, 0x3FFFFF), (0x70008, 4, 1, 0xFF3FFFFF), (0x7000C, 4, 1, 0x3FFFFFF),
   (0x70010, 4, 1, 0xF1FF1FFF), (0x70014, 4, 1, 0xFFFF), (0x70018, 4, 1, 0x1), (0x70040, 4, 32, 0xFFF7FF), (0x70100, 4, 1, 0x13FFF),
   (0x70104, 4, 1, 0x7FF7FFF), (0x70108, 4, 1, 0x3FFFFF), (0x7010C, 4, 1, 0x7FFFFFF), (0x70110, 4, 1, 0xFFFF0FFF), (0x70114, 4, 1, 0xFFFF)] ++
  [(0x70120, 4, 1, 0xFF), (0x70140, 4, 1, 0xFF), (0x71000, 4, 1, 0xFFFFF), (0x71200, 4, 1, 0xFFFF03FF), (0x7120C, 4, 1, 0xFFFF),
   (0x20000, 4, 1, 0x3F7FFF), (0x20004, 4, 1, 0x3FFFF), (0x20008, 4, 1, 0x7FF07FF), (0x2000C, 4, 1, 0x1FF01FF), (0x20010, 4, 1, 0x1F),
   (0x20040, 4, 1, 0x3F), (0x20044, 32, 2, 0x7FFFFFFF), (0x20058, 32, 2, 0xFFFF), (0x20060, 4, 1, 0x10300FF), (0x20080, 4, 1, 0x3FF),
   (0x400000, 1, 1024, 0xFFFF03)] ++
  [(0x80000, 4, 32, 0x7FFF), (0x80080, 4, 16, 0xFFF7FF), (0x800C0, 4, 6, 0x11FFF), (0x80100, 4, 1, 0xFFFF), (0x80208, 16, 8, 0xFFFF003F),
   (0xE0000, 4, 1, 0xF03), (0xE0004, 4, 1, 0x3FFF), (0xE0008, 4, 1, 0xFFFF), (0x40, 4, 16, 0x3FF03), (0x1004, 4, 511, 0xFF3F03),
   (0x110000, 4, 1, 0xFFFF), (0x90000, 4, 1, 0xFF0FFF), (0x90004, 4, 1, 0x13), (0x90044, 16, 8, 0x1), (0x90048, 16, 8, 0x3F3), (0xB0000, 4, 1, 0xFF00FF),
   (0xB0020, 4, 1, 0x1), (0xB0270, 4, 1, 0x7F), (0xB0310, 4, 1, 0x71), (0xB0400, 4, 32, 0x800FFFFF), (0xB0800, 4, 512, 0xC0FFFFFF),
   (0xC0044, 4, 1, 0x1FFF), (0xD000C, 4, 1, 0xFF), (0xD0010, 4, 1, 0x1FFFFFF), (0xD0018, 4, 1, 0xFF), (0x100000, 4, 1, 0xFFFF)]

/-- First row that holds an offset; a register without one has no reserved bit. -/
def maskOf (rows : List (Nat × Nat × Nat × Word)) (off : Nat) : Word :=
  match rows with
  | [] => 0xFFFFFFFF
  | (lo, st, n, m) :: rest => if lo ≤ off && off < lo + st * n && (off - lo) % st == 0 then m else maskOf rest off

/-- Defined bits of the register at a key. -/
def regMask (key : Nat) : Word := maskOf maskRows (key % 16777216)

/-- Key of a lane-local register (R20). -/
def laneKey (l : Lane) (off : Nat) : Nat := (l.idx + 1) * 16777216 + off

/-- Blocks of Table 1.3 that each lane has for itself: ICU, CYC, TB, SEC, SPM (R125, spec/03). -/
def laneLocal (off : Nat) : Bool := off / 65536 == 0 || off / 65536 == 2 || off / 65536 == 3 || off / 65536 == 13 || off / 65536 == 17

/-- Key of CYC_STN_CFG of a rank: the register is a window on one word per rank (Table 9.12), which the register file holds under
offsets of its own. -/
def stnKey (l : Lane) (r : Nat) : Nat := laneKey l (0x400000 + r)

/-- Key of a register as a lane addresses it. -/
def regKey (l : Lane) (off : Nat) : Nat := if laneLocal off then laneKey l off else off

def State.reg (s : State) (key : Nat) : Word := (look s.regs key).getD (regReset key)

/-- A register takes a value; its reserved bits stay 0 (R8). -/
def setReg (key : Nat) (v : Word) (s : State) : State := { s with regs := putC s.regs key (regReset key) (v &&& regMask key) }

/-- A counter advanced by `n`, modulo 2^32 (log 9). -/
def bumpBy (key n : Nat) (s : State) : State := setReg key (s.reg key + BitVec.ofNat 32 n) s

def bump (key : Nat) (s : State) : State := bumpBy key 1 s

/-- A counter of every lane advanced. -/
def bumpLane (l : Lane) (off : Nat) (s : State) : State := bump (laneKey l off) s

/-- A counter kept alike by every lane's block. -/
def bumpAll (off : Nat) (s : State) : State := bumpLane .a off (bumpLane .b off (bumpLane .c off s))

/-- `f` for the state, when the condition holds. -/
def when (c : Bool) (f : State → State) (s : State) : State := if c then f s else s

/-! ### SHADOWED registers (R12, R13, R326 to R335) -/

/-- The boundary at which a SHADOWED register commits; `live` for the others. -/
def boundaryOf (off : Nat) : Update :=
  if (0x70000 ≤ off && off ≤ 0x70010) || off == 0x71000 || off == 0x71200 || off == 0xE0004 then .shadowMatrix
  else if 0x70040 ≤ off && off ≤ 0x700BC then .shadowCluster
  else if (0x10000 ≤ off && off ≤ 0x1000C) || (0x10060 ≤ off && off ≤ 0x1007C) then .shadowCycle
  else if (0x20000 ≤ off && off ≤ 0x20010) || (0x400000 ≤ off && off < 0x400400) then .shadowCycle
  else if (0x30000 ≤ off && off < 0x30100 && [0x1C, 0x20, 0x24].contains (off % 64)) || off == 0x30100 then .shadowCycle
  else if off == 0x40000 || off == 0x40004 || off == 0xE0000 || off == 0xE0008 || off == 0x90000 || off == 0x100000 then .shadowCycle
  else if (0x50000 ≤ off && off ≤ 0x50018) || (0x50020 ≤ off && off ≤ 0x5003C) || (0x60000 ≤ off && off < 0x60034) ||
    (0x60040 ≤ off && off < 0x60060) || (0x40100 ≤ off && off < 0x40300) then .shadowCycle
  else if (0x80000 ≤ off && off < 0x800E0) || (0x80200 ≤ off && off < 0x80280 && off % 16 != 12) || (0x40 ≤ off && off < 0x80) || (0x90040 ≤ off && off < 0x900C0) then .shadowCycle
  else if off == 0xB0000 || (0xB0400 ≤ off && off < 0xB0480) || (0xB0800 ≤ off && off < 0xB1000) then .shadowCycle
  else .live

/-- Value pending at a key. -/
def State.pendingAt (s : State) (key : Nat) : Option Word := (s.shadows.find? fun x => x.key == key).map (·.pending)

/-- A write of a SHADOWED register: pending, held, or replacing the held value, which is counted (R326 to R328). -/
def shadowWrite (key : Nat) (v : Word) (s : State) : State :=
  match s.shadows.find? fun x => x.key == key with
  | none => { s with shadows := s.shadows ++ [⟨key, v, none⟩] }
  | some x =>
    let s1 := { s with shadows := s.shadows.map fun y => if y.key == key then { y with held := some v } else y }
    if x.held.isSome then
      let s2 := bump Off.TLM_REPLACED_CNT s1
      if key % 16777216 / 65536 == 2 || key % 16777216 / 65536 == 64 then bump (key - key % 16777216 + Off.CYC_CFG_REPLACED) s2 else s2
    else s1

/-- A boundary has taken the pending value of a key: a held value becomes pending (R327). -/
def shadowNext (key : Nat) (s : State) : State :=
  { s with shadows := s.shadows.filterMap fun x =>
      if x.key == key then x.held.map fun h => ⟨key, h, none⟩ else some x }

/-! ### Time (R116, R118, R584) -/

/-- 2^48: units of 2^-48 ns. -/
def nsUnit : Nat := 281474976710656

/-- Median of three. -/
def med3 (a b c : Nat) : Nat := max (min a b) (min (max a b) c)

/-- Module time of a base in units of 2^-48 ns (R118). -/
def Base.time (b : Base) : Nat := med3 b.ctr1 b.ctr2 b.ctr3

def Base.ns (b : Base) : Nat := b.time / nsUnit

/-- Module time of TB0 in ns. -/
def State.tb0 (s : State) : Nat := s.time.tb0.ns

/-- Compact form. -/
def ctime (ns : Nat) : Word := BitVec.ofNat 32 ns

/-- A compact value extended against a reference (R116). -/
def extend (c : Word) (ref : Int) : Int := ref + (c - BitVec.ofInt 32 ref).toInt

/-- The slice counters advanced by `dt` ns; a 1 us strobe among them brings each to the median (R118; at one strobe wholly, DESIGN CHOICE,
log 59). -/
def Base.adv (dt : Nat) (strobe : Bool) (b : Base) : Base :=
  let b1 := if strobe then { b with ctr1 := b.time, ctr2 := b.time, ctr3 := b.time } else b
  { b1 with ctr1 := b1.ctr1 + dt * b.rate, ctr2 := b1.ctr2 + dt * b.rate, ctr3 := b1.ctr3 + dt * b.rate }

/-- The hub is powered: operating time advances (R584). -/
def State.hubOn (s : State) : Bool :=
  match s.sys.mode with
  | .dormant | .standby => false
  | _ => s.isl.powered

/-- Hub powered and not held in reset by fail-silent (R42). -/
def State.up (s : State) : Bool := s.hubOn && !s.sys.failSilent

/-- Module time advanced by `dt` ns: module time, the four bases, operating time and RTC. -/
def advance (dt : Nat) (s : State) : State :=
  let op := s.nv.opNs + dt
  let rt := s.isl.rtcNs + dt
  let st := decide (s.now / 1000 < (s.now + dt) / 1000)
  { s with
    now := s.now + dt
    time := { s.time with tb0 := s.time.tb0.adv dt st, tb1 := s.time.tb1.adv dt st, tb2 := s.time.tb2.adv dt st, tb3 := s.time.tb3.adv dt st }
    nv := if s.hubOn then
        { s.nv with opSeconds := s.nv.opSeconds + BitVec.ofNat 32 (op / 1000000000), opNs := op % 1000000000 }
      else s.nv
    isl := if s.isl.powered then
        { s.isl with rtc := s.isl.rtc + BitVec.ofNat 32 (rt / 1000000000), rtcNs := rt % 1000000000 }
      else s.isl }

/-- Module time brought to `t`, never back. -/
def advanceTo (t : Nat) (s : State) : State := if t ≤ s.now then s else advance (t - s.now) s

/-- Module time brought to the instant at which TB0 shows `ns`; unchanged when it already has. -/
def toTb0 (ns : Nat) (s : State) : State :=
  let b := s.time.tb0
  if ns * nsUnit ≤ b.time then s else advance ((ns * nsUnit - b.time + b.rate - 1) / b.rate) s

/-- Module time brought to the instant at which TB2 shows `t`, in units of 2^-48 ns. -/
def toTb2 (t : Nat) (s : State) : State :=
  let b := s.time.tb2
  if t ≤ b.time then s else advance ((t - b.time + b.rate - 1) / b.rate) s

/-- The first instant from `t` on that lies `phase` after a multiple of `period`. -/
def nextAt (period phase t : Nat) : Nat := t + (phase + period - t % period) % period

/-- The next free word, and the state after it is used. -/
def fresh (s : State) : Word × State := (Config.freeWord s.free, { s with free := s.free + 1 })

/-- A message put on a wire. -/
def send (m : Msg) (s : State) : State := { s with out := s.out ++ [m] }

/-! ### Lanes in vote -/

/-- In vote: PROBATION is the first cycle in vote (Table 3.4). -/
def LaneVote.inVote (v : LaneVote) : Bool := v.phase == .inVote || v.phase == .probation

def State.inVote (s : State) (l : Lane) : Bool := (s.vot.lanes.get l).inVote

def State.lanesIn (s : State) : List Lane := Lane.all.filter s.inVote

/-- The lanes are held in reset, and their capture paths with them, in the first 2 ms of a warm restart (R41, R524). -/
def State.lanesReset (s : State) : Bool := s.sys.warmPause && decide (s.now < s.sys.pauseAt + 2000000)

/-- The value that two of a list agree on. -/
def agreedOf {α : Type} [DecidableEq α] : List α → Option α
  | [] => none
  | x :: xs => if xs.contains x then some x else agreedOf xs

/-- The word that two of a list agree on, else the first, else 0. -/
def majWord : List Word → Word
  | [] => 0
  | [x] => x
  | x :: y :: zs => if x = y || zs.contains x then x else if zs.contains y then y else x

/-- The majority value of a lane-local register over the lanes in vote (R125, R286, R416). -/
def State.maj (s : State) (off : Nat) : Word := majWord (s.lanesIn.map fun l => s.reg (laneKey l off))

/-- State of a base's servo as the lanes in vote have it by majority (R125). -/
def State.servoState (s : State) (b : Base) : Servo :=
  let vs := s.lanesIn.map fun l => (b.servos.get l).state
  (agreedOf vs).getD (vs.headD .free)

def State.setLane (s : State) (l : Lane) (f : LaneVote → LaneVote) : State :=
  { s with vot := { s.vot with lanes := s.vot.lanes.modify l f } }

/-! ### Interrupt sources (spec/12) -/

/-- IDs a chapter assigns (Table 12.1 and the interrupt tables); the others are reserved (R396). -/
def irqAssigned (id : Nat) : Bool :=
  [(1, 4), (16, 26), (32, 36), (40, 45), (48, 54), (64, 72), (80, 87), (128, 137), (144, 157), (160, 200), (208, 298),
   (320, 323), (336, 353), (384, 389), (400, 406), (416, 421), (432, 511)].any fun r => r.1 ≤ id && id ≤ r.2

/-- ICU_SRC_CFG_n of a lane. -/
def State.srcCfg (s : State) (l : Lane) (id : Nat) : Word := s.reg (laneKey l (0x1000 + 4 * id))

/-- Effective run priority (R401). -/
def IcuCore.effPri (c : IcuCore) : Nat :=
  match c.seq with
  | .wait => 0
  | .fHandler => 255
  | .nEntry | .nHandler | .nExit => max c.runPri.toNat c.prioN.toNat
  | .run => c.runPri.toNat

/-- Whether a core is a candidate for a source of a class (R402). -/
def IcuCore.candidate (c : IcuCore) (fast : Bool) : Bool :=
  if fast then !c.maskF && c.seq != .fHandler && c.sigF == 0
  else !c.maskN && c.seq != .nEntry && c.seq != .nHandler && c.seq != .fHandler && c.sigN == 0

/-- The best of the candidates from core `i` on: number and effective priority; the lowest number among equals. -/
def bestCore (cfg : Word) : List IcuCore → Nat → Option (Nat × Nat)
  | [], _ => none
  | c :: cs, i =>
    let rest := bestCore cfg cs (i + 1)
    if c.candidate (bit cfg 1) && bit cfg (8 + i) then
      match rest with
      | some (j, p) => if p < c.effPri then some (j, p) else some (i, c.effPri)
      | none => some (i, c.effPri)
    else rest

/-- A source signalled to some core. -/
def Icu.signalled (u : Icu) (id : Nat) : Bool := u.cores.any fun c => c.sigN == id || c.sigF == id

/-- A source active on some core. -/
def Icu.isActive (u : Icu) (id : Nat) : Bool := u.active.any fun a => a.1 == id

/-- One source routed (R402): signalled to its best candidate, or left pending. -/
def Icu.route1 (cfg : Word) (id : Nat) (u : Icu) : Icu :=
  if bit cfg 0 && !u.signalled id && !u.isActive id && !u.cores.any (fun c => c.held == id) then
    match bestCore cfg u.cores 0 with
    | some (i, _) =>
      { u with cores := modAt u.cores i fun c => if bit cfg 1 then { c with sigF := id } else { c with sigN := id } }
    | none => u
  else u

/-- Routing order of R402: fast before normal, falling PRIO, rising ID. -/
def routeBefore (cfg : Nat → Word) (a b : Nat) : Bool :=
  let ka := (if bit (cfg a) 1 then 0 else 1, 255 - fld (cfg a) 16 8)
  let kb := (if bit (cfg b) 1 then 0 else 1, 255 - fld (cfg b) 16 8)
  if ka.1 != kb.1 then ka.1 < kb.1 else if ka.2 != kb.2 then ka.2 < kb.2 else a ≤ b

def insBy {α : Type} (le : α → α → Bool) (x : α) : List α → List α
  | [] => [x]
  | y :: ys => if le x y then x :: y :: ys else y :: insBy le x ys

def sortBy {α : Type} (le : α → α → Bool) (l : List α) : List α := l.foldr (insBy le) []

/-- All pending sources routed at an ICU clock edge. -/
def Icu.route (cfg : Nat → Word) (u : Icu) : Icu :=
  (sortBy (routeBefore cfg) u.pend).foldl (fun u id => u.route1 (cfg id) id) u

/-- A source asserted (R396, R398). -/
def Icu.assert (cfg : Nat → Word) (id : Nat) (u : Icu) : Icu :=
  if irqAssigned id then Icu.route cfg { u with pend := insNat u.pend id } else u

/-- A lane-local source asserted at one lane's ICU. -/
def assertAt (l : Lane) (id : Nat) (s : State) : State :=
  { s with icus := s.icus.modify l (Icu.assert (s.srcCfg l) id) }

/-- An event of a module-shared block: asserted at the ICU of every lane in vote (R397). -/
def raiseIrq (id : Nat) (s : State) : State :=
  { s with icus := s.icus.map fun l u => if s.inVote l then u.assert (s.srcCfg l) id else u }

/-! ### Records (spec/16) -/

/-- Event items: field ordinal, type code of Table 15.1, value. -/
def iU8 (f v : Nat) : Item := ⟨f, 2, beBytes 1 v⟩
def iU16 (f v : Nat) : Item := ⟨f, 3, beBytes 2 v⟩
def iU32 (f v : Nat) : Item := ⟨f, 4, beBytes 4 v⟩
def iU64 (f v : Nat) : Item := ⟨f, 5, beBytes 8 v⟩
def iI32 (f : Nat) (v : Int) : Item := ⟨f, 8, beBytes 4 (code 32 v)⟩
def iOct (f : Nat) (bs : List Byte) : Item := ⟨f, 0x11, bs⟩

/-- Profile that REC_MAP gives a record type: the lowest mapping in use wins (0 when none). -/
def State.profileOf (s : State) (type : Nat) : Option Nat :=
  (List.range 32).findSome? fun m =>
    let w := s.reg (Off.REC_MAP + 4 * m)
    if bit w 31 && fld w 0 16 == type then some (fld w 16 4) else none

/-- A request with the header values of the present instant (R493). -/
def State.request (s : State) (type : Nat) (items : List Item) (app : List Byte) (snap : List Word) : RecReq :=
  { type := type, items := items, app := app, tb0 := s.time.tb0.time, tbState := (s.servoState s.time.tb0).code,
    opSec := s.nv.opSeconds.toNat, power := s.nv.porCount.toNat, profile := (s.profileOf type).getD 0, snap := snap, lost := false, at_ := s.now }

/-- Whether REC takes requests itself (R498): ready, and not in DORMANT, STANDBY or fail-silent. -/
def State.recUp (s : State) : Bool := s.erec.state != .notReady && s.up

/-- A record request (R494), or an event kept by the supervisor while REC is not ready (R498). -/
def requestRec (q : RecReq) (s : State) : State :=
  if s.recUp then
    if s.erec.queue.length < 64 then { s with erec := { s.erec with queue := s.erec.queue ++ [q] } }
    else
      let s1 := bump Off.REC_LOST_CNT { s with erec := { s.erec with lost := true } }
      if s.erec.lost then s1 else raiseIrq Irq.REC_LOST s1
  else if s.isl.events.length < 16 then
    { s with isl := { s.isl with events := s.isl.events ++ [{ q with snap := [], profile := 0 }] } }
  else { s with isl := { s.isl with eventsLost := s.isl.eventsLost + 1 } }

end Sys2Proof.Machine
end

