-- ==== Sys2Proof/Machine/View.lean ====
section
/-! DEFINITION. Status registers of the measurement blocks and the Piste (spec/05, spec/06) as words: what a read shows of the
typed state. -/
namespace Sys2Proof.Machine

/-! ### Time bases -/

def Time.get (t : Time) : Nat → Base
  | 0 => t.tb0
  | 1 => t.tb1
  | 2 => t.tb2
  | _ => t.tb3

def Time.set (t : Time) (n : Nat) (b : Base) : Time :=
  match n with
  | 0 => { t with tb0 := b }
  | 1 => { t with tb1 := b }
  | 2 => { t with tb2 := b }
  | _ => { t with tb3 := b }

def State.base (s : State) (n : Nat) : Base := s.time.get n

def setBase (n : Nat) (f : Base → Base) (s : State) : State := { s with time := s.time.set n (f (s.time.get n)) }

/-! ### Interrupt controllers (Tables 12.5, 12.7) -/

/-- Bits of the sources listed that lie in word `w`. -/
def idBits (w : Nat) (ids : List Nat) : Word :=
  ids.foldl (fun a i => if i / 32 = w then a ||| (1#32 <<< (i % 32)) else a) 0

/-- ICU registers that show its state; those below 0x01C are a core's own copy. -/
def State.peekIcu (s : State) (l : Lane) (core off : Nat) : Option Word :=
  let u := s.icus.get l
  let c := u.cores.getD core Reset.icuCore
  if off = Off.ICU_CLAIM_N then some (BitVec.ofNat 32 c.sigN)
  else if off = Off.ICU_CLAIM_F then some (BitVec.ofNat 32 c.sigF)
  else if off = Off.ICU_RUNPRI then some (c.runPri.setWidth 32)
  else if off = Off.ICU_CORE_STATE then
    some (mkWord [(0, c.seq.code), (3, b2n (c.seq == .fHandler && (c.under == some .nHandler || c.under == some .nExit))), (4, b2n c.maskN),
      (5, b2n c.maskF), (8, c.effPri), (16, if c.sigF != 0 then c.sigF else c.sigN)])
  else if off = Off.ICU_ACTIVE then some (mkWord [(0, c.actN), (16, c.actF)])
  else if Off.ICU_PEND ≤ off && off < Off.ICU_PEND + 64 then some (idBits ((off - Off.ICU_PEND) / 4) u.pend)
  else if Off.ICU_ACTV ≤ off && off < Off.ICU_ACTV + 64 then some (idBits ((off - Off.ICU_ACTV) / 4) (u.active.map (·.1)))
  else none

/-! ### Memories (Table 13.7) -/

/-- SPM_SECURE_STATE of a lane. -/
def LaneMem.secureState (m : LaneMem) : Word :=
  mkWord [(0, m.secure.code), (4, m.wipeCause), (8, m.wipeSeq.toNat), (16, m.wipeTime)]

/-- 24 h in ns. -/
def ceWindow : Nat := 86400000000000

/-- CE_LIMIT has been reached in the window that TB2 is in (R423). -/
def LaneMem.rateNow (m : LaneMem) (tb2 : Nat) : Bool := m.ceRate && decide (tb2 < m.ceStart + ceWindow)

def State.peekSpm (s : State) (l : Lane) (off : Nat) : Option Word :=
  let m := s.mems.get l
  if off = Off.SPM_SECURE_STATE then some m.secureState
  else if off = Off.SPM_ECC_STATUS then some (mkWord [(0, b2n (m.rateNow s.time.tb2.ns)), (1, b2n m.persistent)])
  else none

/-! ### Objects of persistence STORED -/

/-- Key of an object and sub-index. -/
def objKey (index sub : Nat) : Nat := index * 256 + sub

/-- Stored value of an object as a number, most significant byte first; `dflt` when it has its default. -/
def State.stored (s : State) (index sub dflt : Nat) : Nat :=
  match look s.nv.store (objKey index sub) with
  | some b => beNat b
  | none => dflt

/-- An object's stored value, in the canonical form: a default is not listed. -/
def putStored (index sub : Nat) (dflt v : List Byte) (s : State) : State :=
  { s with nv := { s.nv with store := putC s.nv.store (objKey index sub) dflt v } }

/-! ### Position (Tables 5.6, 5.8) -/

/-- Effective diameter of sensor `n`, um: object 0x7004 (R164). -/
def State.dEff (s : State) (n : Nat) : Nat := s.stored 0x7004 (n + 1) 840000

def setDEff (n v : Nat) (s : State) : State := putStored 0x7004 (n + 1) (beBytes 4 840000) (beBytes 4 v) s

/-- ODO_CFG.SOURCE: 1 LOCAL, 2 REMOTE, otherwise OFF. -/
def State.odoSource (s : State) : Nat := fld (s.reg Off.ODO_CFG) 0 2

/-- ODO_QUALITY (Table 5.8); in REMOTE that of the record followed, with its class as it stands here (R165). -/
def State.odoQuality (s : State) : Word :=
  if s.odoSource = 2 then (s.odo.quality &&& 0xFFFFFFDC#32) ||| mkWord [(0, s.odo.cls), (5, 1)]
  else
    let ok := (s.odo.sensors.zipIdx.foldl (fun a x => a + (if x.1.state == .ok then 2 ^ x.2 else 0)) 0)
    mkWord [(0, s.odo.cls), (2, b2n s.odo.standstill), (3, s.odo.dir), (6, b2n s.odo.bridged), (8, ok), (16, s.odo.fixSeq.toNat)]

/-- Position in um of a position in pm. -/
def um (p : Int) : Int := p / 1000000

def State.peekOdo (s : State) (off : Nat) : Option Word :=
  if off = Off.ODO_POS_LO then some (BitVec.ofNat 32 (code 64 (um s.odo.pos)))
  else if off = Off.ODO_POS_HI then some (BitVec.ofNat 32 (code 64 (um s.odo.pos) / 4294967296))
  else if off = Off.ODO_VEL then some (BitVec.ofInt 32 (s.odo.vel / 1000000000))
  else if off = Off.ODO_ACC then some (BitVec.ofInt 32 s.odo.acc)
  else if off = Off.ODO_QUALITY then some s.odoQuality
  else if off = Off.ODO_UNC then some (BitVec.ofNat 32 s.odo.unc)
  else if off = Off.ODO_EST_CTIME then some (ctime s.odo.estAt)
  else if off = Off.ODO_EST_SEQ then some s.odo.estSeq
  else if Off.ODO_SENS_VEL ≤ off && off < Off.ODO_SENS_VEL + 16 then
    some (BitVec.ofInt 32 ((s.odo.sensors.getD ((off - Off.ODO_SENS_VEL) / 4) Reset.sensor).vel / 1000000000))
  else if off = Off.ODO_SENS_STATE then
    some (mkWord (s.odo.sensors.zipIdx.map fun x => (4 * x.2, x.1.state.code)))
  else if Off.ODO_DIAM_EFF ≤ off && off < Off.ODO_DIAM_EFF + 16 then some (BitVec.ofNat 32 (s.dEff ((off - Off.ODO_DIAM_EFF) / 4)))
  else if Off.ODO_IMU ≤ off && off < Off.ODO_IMU + 24 then
    some (BitVec.ofNat 32 (code 16 (((s.vot.agree.getD (44 + (off - Off.ODO_IMU) / 4) Reset.agree).last).getD 0)))
  else none

/-! ### Extrapolation (R182, R184) -/

/-- Position (pm) and velocity (pm/s) extrapolated to the TB0 instant `t` (R182). -/
def State.posAt (s : State) (t : Int) : Int :=
  let dt : Int := t - s.odo.estAt
  s.odo.pos + s.odo.vel * dt / 1000000000 + s.odo.acc * dt * dt / 2000000000000

def State.velAt (s : State) (t : Int) : Int := s.odo.vel + s.odo.acc * (t - s.odo.estAt) / 1000

/-- Projected position q (pm) at `t` for an ADVANCE in us. -/
def State.qAt (s : State) (advance : Nat) (t : Int) : Int := s.posAt t + s.velAt t * advance / 1000000

def State.posNow (s : State) : Int := s.posAt s.tb0

def State.velNow (s : State) : Int := s.velAt s.tb0

def State.qNow (s : State) (advance : Nat) : Int := s.qAt advance s.tb0

/-- Turn fraction that a frequency in uHz passes in `ns`. -/
def turns (freq : Nat) (ns : Int) : Word := BitVec.ofInt 32 ((freq : Int) * ns * 4294967296 / 1000000000000000)

/-- Phase extrapolated to the TB0 instant `t` (R184). -/
def State.phaseAt (s : State) (t : Int) : Word := s.sup.phase + turns s.sup.freq (t - s.sup.phaseAt)

def State.phaseNow (s : State) : Word := s.phaseAt s.tb0

/-- Status of a Piste entry in word 7 (Table 6.6): STATE. -/
def State.entryWord (s : State) (n w : Nat) : Word := s.reg (Off.PST_ENTRY_W0 + 32 * n + 4 * w)

def State.entryState (s : State) (n : Nat) : Nat := fld (s.entryWord n 7) 0 3

def State.peekPst (s : State) (off : Nat) : Option Word :=
  if off = Off.PST_SUMMARY then
    some (mkWord [(0, s.pst.armed.length), (16, (s.pst.armed.filter fun a => a.waitAt.isSome).length)])
  else if off = Off.PST_SYNC_STATE then some (s.pst.sync.setWidth 32)
  else if off = Off.PST_POS_LO then some (BitVec.ofNat 32 (code 64 (um s.posNow)))
  else if off = Off.PST_POS_HI then some (BitVec.ofNat 32 (code 64 (um s.posNow) / 4294967296))
  else if off = Off.PST_PHASE then some s.phaseNow
  else if off = Off.PST_FIRE_LEVEL then some (BitVec.ofNat 32 s.pst.fifo.length)
  else if off = Off.PST_FIRE_HEAD then some ((s.pst.fifo.head?.map (·.head)).getD 0)
  else none

/-! ### Supply (Tables 5.4, 5.11, 5.12) -/

/-- Limits of a listed profile: Un, Umin2, Umin1, Umax1, Umax2 in mV, frequency band in mHz, THD in 0.01 % (Table 5.4, Table 5.5);
0 where the profile has none. -/
def profileLimits : Nat → List Nat
  | 1 => [600000, 400000, 400000, 720000, 800000, 0, 0, 0]
  | 2 => [750000, 500000, 500000, 900000, 1000000, 0, 0, 0]
  | 3 => [1500000, 1000000, 1000000, 1800000, 1950000, 0, 0, 0]
  | 4 => [3000000, 2000000, 2000000, 3600000, 3900000, 0, 0, 0]
  | 5 => [15000000, 11000000, 12000000, 17250000, 18000000, 16370, 17030, 1000]
  | 6 => [25000000, 17500000, 19000000, 27500000, 29000000, 49000, 51000, 1000]
  | 7 => [25000000, 17500000, 19000000, 27500000, 29000000, 58800, 61200, 1000]
  | 8 => [230000, 0, 207000, 253000, 253000, 49500, 50500, 800]
  | _ => []

def State.supProfile (s : State) : Nat := fld (s.reg Off.SUP_CFG) 0 4

/-- Limit `i` in force: SUP_LIM_i in profile 0xF, Table 5.4 otherwise. -/
def State.supLimit (s : State) (i : Nat) : Nat :=
  if s.supProfile = 15 then (s.reg (Off.SUP_LIM + 4 * i)).toNat else (profileLimits s.supProfile).getD i 0

/-- A DC profile: one without a frequency band (R170). -/
def State.supDc (s : State) : Bool := s.supLimit 5 == 0 && s.supLimit 6 == 0

def State.supActive (s : State) : Word :=
  let cls := s.sup.active.foldl (fun a d => a ||| (1#32 <<< (d.cls - 1))) 0#32
  let rng := s.sup.chans.zipIdx.foldl (fun a x => if x.1.range then a ||| (1#32 <<< (8 + x.2)) else a) 0#32
  cls ||| rng

def State.peekSup (s : State) (off : Nat) : Option Word :=
  if Off.SUP_LIM ≤ off && off < Off.SUP_LIM + 32 then some (BitVec.ofNat 32 (s.supLimit ((off - Off.SUP_LIM) / 4)))
  else if off = Off.SUP_LOCK then some (mkWord [(0, s.sup.lock.code), (3, b2n (s.sup.lock == .locked))])
  else if off = Off.SUP_PHASE then some s.sup.phase
  else if off = Off.SUP_FREQ then some (BitVec.ofNat 32 s.sup.freq)
  else if off = Off.SUP_PHASE_CTIME then some (ctime s.sup.phaseAt)
  else if Off.SUP_VAL ≤ off && off < Off.SUP_VAL + 16 then
    some (BitVec.ofInt 32 (s.sup.chans.getD ((off - Off.SUP_VAL) / 4) Reset.chan).val)
  else if Off.SUP_INST ≤ off && off < Off.SUP_INST + 16 then
    some (BitVec.ofInt 32 (s.sup.chans.getD ((off - Off.SUP_INST) / 4) Reset.chan).inst)
  else if off = Off.SUP_THD then some (BitVec.ofNat 32 s.sup.thd)
  else if off = Off.SUP_ACTIVE then some s.supActive
  else if off = Off.SUP_FIFO_LEVEL then some (BitVec.ofNat 32 s.sup.fifo.length)
  else if off = Off.SUP_DIST_HEAD then some ((s.sup.fifo.head?.map (·.head)).getD 0)
  else if Off.SUP_HARM ≤ off && off < Off.SUP_HARM + 160 then some (BitVec.ofNat 32 (s.sup.harm.getD ((off - Off.SUP_HARM) / 4) 0))
  else none

end Sys2Proof.Machine
end

