-- ==== Sys2Proof/Machine/StatusView.lean ====
section
/-! DEFINITION. Status registers of the other blocks (spec/02 to spec/18) as words, and the predicates on modes that they and every
family use. -/
namespace Sys2Proof.Machine

/-- The port's measurements enter clock synchronisation: calibrated to FROZEN or NOMINAL, at a speed with stamps (R139 to R143). -/
def Port.measures (x : Port) : Bool := !x.noStamp && (x.cal == .frozen || x.cal == .nominal)

/-- FTN_LINK_DELAY of a port; a port that does not measure gives none (R262). -/
def Port.linkDelay (x : Port) : Option Int := if x.measures then x.delay else none

/-! ### Modes, pair, matrix, cycle source -/

/-- The module is in SAFE-HOLD. -/
def State.held (s : State) : Bool := s.sys.mode == .safeHold

def State.running (s : State) : Bool := s.sys.mode == .operational || s.sys.mode == .degraded

/-- Reason codes in the order of R48: TAMPER, LIFECYCLE, COMPAT, LANES, SUPPLY, CLAIM_LOST, OVERRUN, COMMAND. -/
def reasonOrder : List Nat := [8, 5, 1, 2, 4, 6, 3, 7]

/-- Current SAFE-HOLD reason (R48); 0 outside SAFE-HOLD. -/
def State.reason (s : State) : Nat :=
  if s.held then (reasonOrder.find? fun c => s.sys.active.getLsbD (c - 1)).getD 0 else 0

/-- Sub-state code of Table 2.1 (R45). -/
def State.sub (s : State) : Nat :=
  match s.sys.mode with
  | .boot => 1
  | .verify => 2
  | .integrate => 3
  | .safeHold => if s.sys.active &&& 0b10111111#8 != 0 then 2 else 1
  | _ => 0

/-- FTN node (Table 7.13). -/
def State.ftnNode (s : State) : Bool := bit (s.reg Off.FTN_NODE_CFG) 16

/-- T in ns, from a value of FTN_MATRIX_CFG. -/
def cycNs (cfg : Word) : Nat := 1000 * fld cfg 0 13

/-- The module is a pair member (R373). -/
def State.pairMember (s : State) : Bool := bit (s.reg Off.CHK_CFG) 0

/-- CHK_STATUS.PARTNER: 0 ABSENT, 1 NOT_READY, 2 READY. -/
def Chk.partnerCode (c : Chk) : Nat := if !c.presentN then 0 else if c.pFail then 1 else 2

/-- Fields of the matrix configuration words. -/
structure Matrix where
  t      : Nat
  m      : Nat
  n      : Nat
  nit    : Nat
  hop    : Nat
  margin : Nat
  arbAt  : Nat
  arbs   : Nat
  mExp   : Nat
  deriving DecidableEq, Repr

def matrixOf (cfg cfg2 arb : Word) : Matrix :=
  { t := cycNs cfg, m := 2 ^ fld cfg 13 3, n := fld cfg 16 6 + 1, nit := 1000 * fld cfg 24 8, hop := fld cfg2 0 16,
    margin := fld cfg2 16 10, arbAt := 1000 * fld arb 0 13, arbs := fld arb 16 9, mExp := fld cfg 13 3 }

/-- The active matrix. -/
def State.matrix (s : State) : Matrix :=
  matrixOf (s.reg Off.FTN_MATRIX_CFG) (s.reg Off.FTN_MATRIX_CFG2) (s.reg Off.FTN_ARB_CFG)

/-- SOURCE is FTN on a module that is an FTN node. -/
def State.coupled (s : State) : Bool := fld (s.maj Off.CYC_CFG) 0 2 == 0 && s.ftnNode

/-- Boundaries come from the cycle point: the node is integrated and its source not absent (R283, R288). -/
def State.pointSource (s : State) : Bool := s.coupled && s.ftn.su == .integrated && !s.cyc.absent

/-- Cycle boundaries occur: in OPERATIONAL, DEGRADED and SAFE-HOLD, and once START-UP has ended (R290, Table 2.2). -/
def State.boundariesOn (s : State) : Bool := s.up && (s.running || s.held || (s.sys.startDone && s.sys.mode.code == 2))

/-- Entry of the validity table (Table 9.5). -/
def Station.bytes (t : Station) : List Byte :=
  [BitVec.ofNat 8 (t.state + 16 * t.cause + 128 * b2n (t.state == 2)), BitVec.ofNat 8 t.age, t.reason, t.info]


/-! ### SYS (Tables 2.7 to 2.13) -/

/-- SYS_MODE_STATE (Table 2.9). -/
def State.modeState (s : State) : Word :=
  mkWord [(0, s.sys.mode.code), (4, s.sub), (8, s.reason), (16, s.lanesIn.foldl (fun a l => a + 2 ^ l.idx) 0),
    (19, b2n (s.ftn.su == .integrated)), (20, b2n s.sys.warmPause)]

/-- SYS_SH_REASON (Table 2.12). -/
def State.shReason (s : State) : Word := mkWord [(0, s.reason), (8, s.sys.first), (16, s.sys.active.toNat)]

/-- SYS_ID (Table 2.8). -/
def sysId : Word := mkWord [(0, 0x0E3A), (16, Config.hwRev.toNat), (24, b2n Config.gradeAX)]

def State.peekSys (s : State) (off : Nat) : Option Word :=
  if off = Off.SYS_ID then some sysId
  else if off = Off.SYS_MODE_STATE then some s.modeState
  else if off = Off.SYS_SH_REASON then some s.shReason
  else if off = Off.SYS_WAKE_CAUSE then some s.isl.wakeCause
  else if off = Off.SYS_RTC_NOW then some s.isl.rtc
  else if off = Off.SYS_RTC_ALARM then some s.isl.rtcAlarm
  else if off = Off.SYS_RESET_CAUSE then some (BitVec.ofNat 32 s.isl.resetCause)
  else if off = Off.SYS_POR_COUNT then some s.nv.porCount
  else if off = Off.SYS_RESET_COUNT then some s.nv.resetCount
  else if off = Off.SYS_WARM_COUNT then some s.nv.warmCount
  else if off = Off.SYS_OP_SECONDS then some s.nv.opSeconds
  else none

/-! ### SHADOWED registers that await their boundary (R13, R327) -/

/-- A value awaits its boundary in an offset range. -/
def State.busy (s : State) (lo hi : Nat) : Bool := s.shadows.any fun x => decide (lo ≤ x.key) && decide (x.key < hi)

/-- The same with a held value behind it. -/
def State.heldIn (s : State) (lo hi : Nat) : Bool := s.shadows.any fun x => decide (lo ≤ x.key) && decide (x.key < hi) && x.held.isSome

/-- BUSY bits of a list of offset ranges. -/
def State.busyBits (s : State) (rs : List (Nat × Nat)) : Word := mkWord (rs.zipIdx.map fun (r, i) => (i, b2n (s.busy r.1 r.2)))

/-- One range per word of a run of `n` registers. -/
def words (off n : Nat) : List (Nat × Nat) := (List.range n).map fun i => (off + 4 * i, off + 4 * i + 4)

/-! ### VOT (Tables 3.5 to 3.11) -/

def State.peekVot (s : State) (off : Nat) : Option Word :=
  if off = Off.VOT_CFG_STATUS then some (s.busyBits (words Off.VOT_CFG 4 ++ [(Off.VOT_OUT_CLASS, Off.VOT_OUT_CLASS + 32)]))
  else if off = Off.VOT_LANE_STATE then
    some (mkWord [(0, s.vot.lanes.a.phase.code), (4, s.vot.lanes.b.phase.code), (8, s.vot.lanes.c.phase.code), (12, s.vot.slices.toNat)])
  else if off = Off.VOT_LANE_CAUSE then
    some (mkWord [(0, s.vot.lanes.a.cause), (4, s.vot.lanes.b.cause), (8, s.vot.lanes.c.cause), (16, s.vot.exclSeq.toNat)])
  else if off = Off.VOT_DIGEST_LO then some (s.vot.digest.setWidth 32)
  else if off = Off.VOT_DIGEST_HI then some ((s.vot.digest >>> 32).setWidth 32)
  else none

/-! ### CYC (Tables 9.10 to 9.12) -/

/-- Source of the boundaries: 0 none, 1 FTN, 2 TB2, 3 fallback. -/
def State.sourceActive (s : State) : Nat :=
  if !s.boundariesOn then 0 else if s.pointSource then 1 else if s.coupled then 3 else 2

def State.peekCyc (s : State) (l : Lane) (off : Nat) : Option Word :=
  let c := s.cyc.lanes.get l
  let k := laneKey l 0
  let rs := words (k + Off.CYC_CFG) 5 ++ [(stnKey l 0, stnKey l 1024)]
  if off = Off.CYC_CFG_STATUS then
    some (s.busyBits rs ||| mkWord (rs.zipIdx.map fun (r, i) => (8 + i, b2n (s.heldIn r.1 r.2))) |||
      mkWord [(16, c.reject), (24, c.rejSeq.toNat)])
  else if off = Off.CYC_STATUS then
    some (mkWord [(0, c.phase), (4, s.sourceActive), (6, b2n (s.cyc.first && s.cyc.running)), (7, b2n (c.forces.any fun f => bit f.sel 24)),
      (8, min 3 s.cyc.overrun), (10, b2n s.running)])
  else if off = Off.CYC_COUNT_LO then some (s.cyc.count.setWidth 32)
  else if off = Off.CYC_COUNT_HI then some ((s.cyc.count >>> 32).setWidth 32)
  else if off = Off.CYC_EXEC_TIME then some (mkWord [(0, min 65535 c.execLast), (16, min 65535 c.execMax)])
  else if off = Off.CYC_OC_STATUS then
    some (mkWord [(0, c.oc.code), (4, c.ocCause), (8, c.ocList.length), (16, min 255 c.under), (24, c.ocSeq.toNat % 256)])
  else if off = Off.CYC_FRC_STATUS then
    some (mkWord [(0, c.frc.code), (4, c.frcCause), (8, (c.forces.filter fun f => bit f.sel 24).length), (24, c.frcSeq.toNat % 256)])
  else if off = Off.CYC_STN_CFG then some (s.reg (stnKey l (fld (s.reg (k + Off.CYC_STN_SEL)) 0 10)))
  else if off = Off.CYC_STN_STAT then
    some (match s.cyc.stations.drop (fld (s.reg (k + Off.CYC_STN_SEL)) 0 10) with
      | t :: _ => BitVec.ofNat 32 (leNat t.bytes)
      | [] => 0)
  else none

/-! ### TB (Tables 4.6, 4.8) -/

/-- Difference of a lane's copies from module time at 1 us strobe `k`, 1/256 ns: within 3 ns (R120). -/
def skewAt (l : Lane) (k : Nat) : Int := max (-768) (min 768 (Config.laneSkew l.idx k))

/-- Difference of a lane's copies from module time: the copy is slewed from strobe to strobe, so it never runs backwards (R120). -/
def State.laneSkew (s : State) (l : Lane) : Int :=
  let k := s.now / 1000
  let f := s.now % 1000
  (skewAt l k * ((1000 - f : Nat) : Int) + skewAt l (k + 1) * (f : Int)) / 1000

/-- Time of a lane's copy of a base: module time within 3 ns (R120). -/
def State.laneTime (s : State) (l : Lane) (b : Base) : Nat := ((b.time : Int) + s.laneSkew l * 1099511627776).toNat

/-- One base's registers, by their offset within the base, for a lane whose copy shows the time `t` and whose servo is `v`. -/
def Base.peek (b : Base) (v : LaneServo) (t o : Nat) : Option Word :=
  if o = 0x00 then some (BitVec.ofNat 32 (t / nsUnit % 1000000000))
  else if o = 0x04 then some (BitVec.ofNat 32 (t % nsUnit / 1099511627776))
  else if o = 0x08 then some (BitVec.ofNat 32 (t / nsUnit / 1000000000))
  else if o = 0x0C then some (BitVec.ofNat 32 (t / nsUnit / 1000000000 / 4294967296))
  else if o = 0x10 then some (ctime (t / nsUnit))
  else if o = 0x14 then some (BitVec.ofNat 32 b.rate)
  else if o = 0x18 then some (BitVec.ofNat 32 (b.rate / 4294967296))
  else if o = 0x34 then
    some (mkWord [(0, v.state.code), (3, b2n v.clamped), (4, b2n v.valid), (8, b.stepSeq.toNat), (16, min 16 v.lockRun)])
  else if o = 0x38 then some (BitVec.ofInt 32 v.lastE)
  else if o = 0x3C then some (BitVec.ofInt 32 (v.integral / 256))
  else none

def State.peekTb (s : State) (l : Lane) (off : Nat) : Option Word :=
  let k := laneKey l 0
  if off < Off.TB_NS + 256 then
    if off % 64 == 0x28 || off % 64 == 0x2C || off % 64 == 0x30 then none
    else
      let b := s.time.get ((off - Off.TB_NS) / 64)
      b.peek (b.servos.get l) (s.laneTime l b) (off % 64)
  else if off = Off.TB_CFG_STATUS then
    some (s.busyBits ((k + Off.TB_CFG, k + Off.TB_CFG + 4) :: (List.range 4).map fun n => (k + Off.TB_NS + 64 * n, k + Off.TB_NS + 64 * n + 64)))
  else if Off.TB_IPT_NS ≤ off && off < Off.TB_IPT_NS + 64 then
    let ns := s.time.ipt.getD ((off - Off.TB_IPT_NS) / 16) 0 / nsUnit
    some (match (off - Off.TB_IPT_NS) % 16 / 4 with
      | 0 => BitVec.ofNat 32 (ns % 1000000000)
      | 1 => BitVec.ofNat 32 (ns / 1000000000)
      | 2 => BitVec.ofNat 32 (ns / 1000000000 / 4294967296)
      | _ => ctime ns)
  else none

/-! ### FTN (Tables 7.12 to 7.16, 8.12, 8.13) -/

/-- FTN_RX_STAT of a buffer, FTN_SLOT_RXSTAT of an entry. -/
def rxWord (state : Nat) (lost : Bool) (reason : Byte) (count : Nat) : Word :=
  mkWord [(0, state), (3, b2n lost), (8, reason.toNat), (16, count % 65536)]

/-- Transmit buffer that FTN_TXB_SEL selects. -/
def State.txWindow (s : State) : TxBuf := (look s.ftn.txBufs (fld (s.reg Off.FTN_TXB_SEL) 0 8)).getD ⟨.empty, 0, 0x0000FFFF, 0, []⟩

/-- Receive snapshot (R246). -/
def State.rxWindow (s : State) (off : Nat) : Word :=
  match s.ftn.snapshot with
  | some b =>
    match b.frame with
    | some f =>
      if off = Off.FTN_RXB_INFO then mkWord [(0, f.source), (16, f.plen)]
      else if off = Off.FTN_RXB_OBJ then mkWord [(0, f.objIndex), (16, f.objSub.toNat), (24, f.info.toNat)]
      else if off = Off.FTN_RXB_TIME then b.time
      else if off = Off.FTN_RXB_SSTAT then mkWord [(0, f.seq), (16, if b.chanB then 2 else 1)]
      else BitVec.ofNat 32 (beAt (f.payload ++ List.replicate 3 0) (off - Off.FTN_RXB_DATA) 4)
    | none => 0
  | none => 0

/-- FTN_RING_STATE (Table 8.13). -/
def State.ringState (s : State) : Word :=
  let up := (List.range 4).map fun p =>
    let k := s.ftn.links.getD p Reset.link
    (4 + p, b2n ((s.ftn.ports.getD p Reset.port).up && !k.broken && !k.held && bit (s.reg Off.FTN_PORT_EN) p))
  let held := (List.range 4).map fun p => (8 + p, b2n (s.ftn.links.getD p Reset.link).held)
  mkWord ([(0, s.ftn.roleA.code), (2, s.ftn.roleB.code), (12, b2n s.ftn.loopedPrevA), (13, b2n s.ftn.loopedPrevB)] ++ up ++ held)

/-- FTN_SYNC_DEV of a sync index. -/
def syncDev : Option SyncVal → Word
  | some v => mkWord [(0, code 24 (satSigned 24 v.dev)), (24, min 63 v.hop), (30, b2n v.chanB), (31, 1)]
  | none => 0

def Guard.word (g : Guard) : Word :=
  mkWord [(0, min 255 g.count), (8, g.lastKind), (12, min 15 g.run), (16, min 65535 g.total)]

/-- FTN_CFG_STATUS (Table 7.13). -/
def State.ftnCfgStatus (s : State) : Word :=
  s.busyBits (words Off.FTN_NODE_CFG 5) ||| mkWord [(5, b2n s.ftn.shadowDirty), (6, b2n (s.busy Off.FTN_CP (Off.FTN_CP + 128))),
    (7, b2n (s.busy Off.FTN_SU_CFG (Off.FTN_SU_CFG + 4))), (8, b2n (s.busy Off.FTN_GUARD_CFG (Off.FTN_GUARD_CFG + 4))), (16, b2n (s.ftn.cpErr != 0))]

def State.peekFtn1 (s : State) (off : Nat) : Option Word :=
  if off = Off.FTN_MATRIX_STATUS then some (mkWord [(0, s.ftn.matrix.state), (4, s.ftn.matrix.cause), (16, s.ftn.matrix.entry)])
  else if off = Off.FTN_MATRIX_ID then some s.ftn.matrixId
  else if off = Off.FTN_CFG_STATUS then some s.ftnCfgStatus
  else if off = Off.FTN_CYCLE_STATE then some (mkWord [(0, s.ftn.cycle % s.matrix.m), (16, s.ftn.cycle / s.matrix.m % 65536)])
  else if off = Off.FTN_CYCLE_CTIME then some (ctime (s.ftn.cycle * s.matrix.t))
  else if off = Off.FTN_CP_ERR then some s.ftn.cpErr
  else if off = Off.FTN_SLOT_RXSTAT then
    some (match s.ftn.rx.find? fun r => r.entry == fld (s.reg Off.FTN_SLOT_SEL) 0 14 with
      | some r => rxWord r.state false r.reason r.count
      | none => 0)
  else if off = Off.FTN_TXB_HDR then some s.txWindow.hdr
  else if off = Off.FTN_TXB_CFG then some s.txWindow.cfg
  else if off = Off.FTN_TXB_STATUS then some (mkWord [(0, s.txWindow.state.code), (16, s.txWindow.sent % 65536)])
  else if Off.FTN_TXB_DATA ≤ off && off < Off.FTN_TXB_DATA + 1472 then some ((look s.txWindow.data ((off - Off.FTN_TXB_DATA) / 4)).getD 0)
  else if (Off.FTN_RXB_INFO ≤ off && off ≤ Off.FTN_RXB_SSTAT) || (Off.FTN_RXB_DATA ≤ off && off < Off.FTN_RXB_DATA + 1472) then some (s.rxWindow off)
  else if Off.FTN_RX_STAT ≤ off && off < Off.FTN_RX_STAT + 1024 then
    some (match look s.ftn.rxBufs ((off - Off.FTN_RX_STAT) / 4) with
      | some b => rxWord b.state b.lost b.reason b.count
      | none => 0)
  else none

def State.peekFtn2 (s : State) (off : Nat) : Option Word :=
  if off = Off.FTN_SU_STATE then
    some (mkWord [(0, s.ftn.su.code), (3, b2n s.ftn.cold), (4, min 3 s.ftn.match_), (8, min 255 s.ftn.attempt), (16, s.ftn.exit), (20, b2n s.ftn.exhausted)])
  else if off = Off.FTN_SU_LEADER then some (BitVec.ofNat 32 s.ftn.leaderOf)
  else if off = Off.FTN_SYNC_STATUS then
    some (mkWord [(0, s.ftn.used), (4, s.ftn.out), (8, min 3 s.ftn.k), (12, b2n s.ftn.midValid), (13, b2n s.ftn.fullPd)])
  else if off = Off.FTN_SYNC_CORR then some (BitVec.ofInt 32 s.ftn.midpoint)
  else if Off.FTN_SYNC_DEV ≤ off && off < Off.FTN_SYNC_DEV + 60 then some (syncDev (s.ftn.sync.getD ((off - Off.FTN_SYNC_DEV) / 4) none))
  else if Off.FTN_LINK_DELAY ≤ off && off < Off.FTN_LINK_DELAY + 80 then
    some (match (s.ftn.ports.getD ((off - Off.FTN_LINK_DELAY) / 4) Reset.port).linkDelay with
      | some d => BitVec.ofInt 32 d
      | none => 0xFFFFFFFF)
  else if off = Off.FTN_RING_STATE then some s.ringState
  else if off = Off.FTN_GUARD_STATE then
    some (mkWord (s.ftn.guards.zipIdx.flatMap fun (g, i) => [(i, b2n g.blocked), (16 + i, b2n g.disabled)]))
  else if Off.FTN_GUARD_VIOL ≤ off && off < Off.FTN_GUARD_VIOL + 64 then some (s.ftn.guards.getD ((off - Off.FTN_GUARD_VIOL) / 4) Reset.guard).word
  else if Off.FTN_STAR_OFFSET ≤ off && off < Off.FTN_STAR_OFFSET + 64 then
    some (match (s.ftn.ports.getD (4 + (off - Off.FTN_STAR_OFFSET) / 4) Reset.port).offset with
      | some d => BitVec.ofInt 32 d
      | none => 0x80000000)
  else none

def State.peekFtn (s : State) (off : Nat) : Option Word := if off < Off.FTN_SU_CFG then s.peekFtn1 off else if off < 0x78000 then s.peekFtn2 off else s.peekFtn1 off

/-! ### DIO (Tables 10.10, 10.11, 10.14) -/

/-- A trip that holds channel `n` (R366): the rule is latched and names the channel. -/
def State.tripHolds (s : State) (n : Nat) : Bool :=
  (List.range 8).any fun r => s.dio.latched.getLsbD r && bit (s.reg (Off.DIO_TRIP_CFG + 16 * r)) (16 + n)

/-- LEVEL of an output (Table 10.10): a voltage of at least 5 V (R359) while resolved OFF is DRIVEN_OFF. -/
def State.outLevel (s : State) (n : Nat) (o : Out) : Nat :=
  if o.on then 1
  else
    let v := fld (Config.outMeas n s.now) 0 16
    if 500 ≤ v && v < 32768 then 2 else 0

/-- DO channel state (Table 10.10). -/
def State.outState (s : State) (n : Nat) : Nat :=
  let o := s.dio.outs.getD n Reset.out
  let open_ := (s.dio.groups.getD (4 + n / 8) Reset.group).causes != 0
  let cond := if o.faults &&& 0b1111011#7 != 0 then 1
    else if open_ || s.tripHolds n || (fld (s.reg (Off.DIO_OUT_CFG + 4 * n)) 0 2 != 2 && !o.fresh) then 2
    else if o.silent || s.held then 3 else 0
  if s.dio.enabled then s.outLevel n o + 4 * cond else 0

/-- DIO_GRP_STATE of a group. -/
def State.groupState (s : State) (g : Nat) : Word :=
  let x := s.dio.groups.getD g Reset.group
  if g < 4 then mkWord [(0, x.supply.code), (3, b2n x.ready)]
  else mkWord [(0, x.supply.code), (3, b2n x.ready), (4, b2n (x.causes == 0)), (5, b2n (x.causes.getLsbD 2)), (8, x.causes.toNat)]

def Out.faultWord (o : Out) : Word :=
  mkWord [(0, o.faults.toNat), (7, b2n o.demag), (8, o.ssSource), (12, o.partner), (16, min 65535 o.energy)]

/-- DI states of 16 channels from `lo`, 2 bits each. -/
def State.diWord (s : State) (lo : Nat) : Word :=
  mkWord ((List.range 16).map fun k => (2 * k, (s.dio.dis.getD (lo + k) Reset.di).state.num))

def State.peekDio (s : State) (off : Nat) : Option Word :=
  if off = Off.DIO_CFG_STATUS then
    some (s.busyBits [(Off.DIO_IN_CFG, Off.DIO_OUT_CFG), (Off.DIO_OUT_CFG, Off.DIO_CFG_STATUS), (Off.DIO_TRIP_MASK, Off.DIO_TRIP_MASK + 128)])
  else if off = Off.DIO_DI_STATE_LO then some (s.diWord 0)
  else if off = Off.DIO_DI_STATE_HI then some (s.diWord 16)
  else if off = Off.DIO_DO_STATE_LO then some (mkWord ((List.range 8).map fun n => (4 * n, s.outState n)))
  else if off = Off.DIO_DO_STATE_HI then some (mkWord ((List.range 8).map fun n => (4 * n, s.outState (8 + n))))
  else if off = Off.DIO_TRIP_STATE then some (mkWord [(0, s.dio.trueR.toNat), (8, s.dio.latched.toNat)])
  else if Off.DIO_GRP_STATE ≤ off && off < Off.DIO_GRP_STATE + 24 then some (s.groupState ((off - Off.DIO_GRP_STATE) / 4))
  else if Off.DIO_GRP_VOLT ≤ off && off < Off.DIO_GRP_VOLT + 24 then
    some ((s.dio.groups.getD ((off - Off.DIO_GRP_VOLT) / 4) Reset.group).volt.setWidth 32)
  else if Off.DIO_OUT_FAULT ≤ off && off < Off.DIO_OUT_FAULT + 64 then some (s.dio.outs.getD ((off - Off.DIO_OUT_FAULT) / 4) Reset.out).faultWord
  else if Off.DIO_OUT_MEAS ≤ off && off < Off.DIO_OUT_MEAS + 64 then
    some (if s.dio.enabled then Config.outMeas ((off - Off.DIO_OUT_MEAS) / 4) s.now else 0)
  else none

/-! ### CHK (Table 11.9) -/

def State.chkStatus (s : State) : Word :=
  mkWord [(0, s.chk.role.code), (2, b2n s.chk.holder), (4, s.chk.partnerCode), (6, b2n s.chk.protected_), (8, s.chk.stream.code), (10, b2n s.chk.mramOk)]

def State.peekChk (s : State) (off : Nat) : Option Word :=
  if off = Off.CHK_CFG_STATUS then some (s.busyBits (words Off.CHK_CFG 3))
  else if off = Off.CHK_STATUS then some s.chkStatus
  else if off = Off.CHK_CLAIM then some s.chk.claim
  else if off = Off.CHK_HELD_CLAIM then some s.chk.held
  else if off = Off.CHK_SIGNALS then
    some (mkWord [(0, b2n s.chk.presentN), (1, b2n s.chk.pFail), (2, b2n s.chk.pClaim), (3, b2n s.isl.claimN), (4, b2n s.isl.failN)])
  else if off = Off.CHK_SET_SEQ then some s.chk.setSeq
  else if off = Off.CHK_SET_INFO then some (mkWord [(0, min 65535 s.chk.lastPages), (16, min 255 s.chk.lastMerged)])
  else if off = Off.CHK_LAG then some (BitVec.ofNat 32 s.chk.lag)
  else none

/-! ### BRG and DMA (Tables 14.8, 14.9) -/

def State.peekBrg (s : State) (off : Nat) : Option Word :=
  if off = Off.BRG_CFG_STATUS then some (s.busyBits [(Off.BRG_CFG, Off.BRG_CFG + 4), (Off.BRG_NP_BASE_LO, Off.BRG_NP_BASE_LO + 128)])
  else if off = Off.BRG_LINK_STATE then some (mkWord [(0, s.brg.link0.state.code), (4, s.brg.link1.state.code)])
  else if off = Off.BRG_FENCE then some s.brg.fence
  else if off = Off.BRG_FAIL_LEVEL then some (BitVec.ofNat 32 s.brg.fifo.length)
  else if off = Off.BRG_FAIL_HEAD then some ((s.brg.fifo.head?.map (·.head)).getD 0)
  else none

def Dma.peek (d : Dma) (o : Nat) : Option Word :=
  if o = 0x0C then some (mkWord [(0, d.state.code), (4, d.error), (8, d.cause), (16, d.seq.toNat)])
  else if o = 0x10 then some (BitVec.ofNat 32 d.done)
  else if o = 0x14 then some d.crc
  else if o = 0x18 then some (BitVec.ofNat 32 d.cur)
  else if o = 0x1C then some (BitVec.ofNat 32 (d.cur / 4294967296))
  else none

def State.peekDma (s : State) (off : Nat) : Option Word :=
  if off < Off.DMA_DESC_LO + 1024 then (s.dmas.getD ((off - Off.DMA_DESC_LO) / 64) Reset.dma).peek (off % 64)
  else if off = Off.DMA_SUMMARY then some (mkWord (s.dmas.zipIdx.map fun (d, i) => (i, b2n (d.state == .running))))
  else none

/-! ### REC (Tables 16.1, 16.6) -/

/-- TAG of a field of a record type (R492): the spec's own numbers for the types it gives, the catalogue's otherwise (log 4). -/
def fieldTag (type field : Nat) : Byte :=
  if type = 0x0201 || type = 0x0108 || type = 0x0109 then BitVec.ofNat 8 field else Config.catalogueTag type field

/-- EVENT bytes without padding: items of Table 16.2, or the application's bytes. -/
def RecReq.event (q : RecReq) : List Byte :=
  (q.items.flatMap fun i => [fieldTag q.type i.field, BitVec.ofNat 8 i.type, BitVec.ofNat 8 i.value.length] ++ i.value) ++ q.app

/-- Record as stored, without its CRC (Table 16.1). -/
def Rec.head (r : Rec) : List Byte :=
  let q := r.body
  let e := q.event
  let ev := e ++ List.replicate ((4 - e.length % 4) % 4) 0
  let len := 32 + ev.length + 4 * q.snap.length + 4
  let ns := q.tb0 / nsUnit
  beBytes 2 q.type ++ beBytes 1 (len / 4) ++ beBytes 1 (q.tbState + 4 * b2n q.lost + 8 * b2n r.continues + 16 * q.profile) ++
  beBytes 4 r.seq.toNat ++ beBytes 4 q.opSec ++ beBytes 4 q.power ++ beBytes 8 (ns / 1000000000) ++ beBytes 4 (ns % 1000000000) ++
  beBytes 1 (q.tb0 % nsUnit / 1099511627776) ++ beBytes 1 q.snap.length ++ beBytes 2 r.repeats ++ ev ++ q.snap.flatMap fun w => beBytes 4 w.toNat

/-- Record as stored (Table 16.1). -/
def Rec.bytes (r : Rec) : List Byte := r.head ++ beBytes 4 (crc32c r.head).toNat

/-- Records of an area as a reader finds them, oldest first: those in NAND and those of the open page (R497); of the circulating area the newest
65,536 (R500). With STATE FAILED the NAND holds nothing that can be read (log 120). -/
def State.recArea (s : State) (kept : Bool) : List Rec :=
  if s.erec.state == .failed then s.erec.page
  else if kept then s.nv.nand.kept ++ s.erec.page.filter fun r => decide ((r.seq - s.nv.nand.keptBase).toNat < 4096)
  else
    let l := s.nv.nand.circulating ++ s.erec.page
    l.drop (l.length - 65536)

/-- Bytes of a record as an area gives them: those last found there, where they are not those stored (R504). -/
def State.recBytes (s : State) (kept : Bool) (r : Rec) : List Byte :=
  ((s.nv.nand.badCrc.find? fun b => b.1 == kept && b.2.1 == r.seq).map (·.2.2)).getD r.bytes

/-- Mean erase count of the ring at 80 % of the rating (R501). -/
def State.wearWarn (s : State) : Bool := decide (40000 * 7872 ≤ s.nv.nand.erases)

def State.peekRec (s : State) (off : Nat) : Option Word :=
  let on := s.erec.state != .notReady
  if off = Off.REC_CFG_STATUS then
    some (s.busyBits [(Off.REC_CFG, Off.REC_CFG + 4), (Off.REC_MAP, Off.REC_MAP + 128), (Off.REC_PROF_ITEM, Off.REC_PROF_ITEM + 2048)])
  else if off = Off.REC_STATUS then
    some (mkWord [(0, s.erec.state.code), (3, b2n (on && decide (4096 ≤ (s.recArea true).length))), (4, b2n (on && s.wearWarn)), (8, s.erec.queue.length)])
  else if off = Off.REC_NEWEST_SEQ then some (if on then s.nv.nand.newest else 0)
  else if off = Off.REC_OLDEST_SEQ then some (if on then ((s.recArea false).head?.map (·.seq)).getD 0 else 0)
  else if off = Off.REC_KEPT_BASE then some (if on then s.nv.nand.keptBase else 0)
  else if off = Off.REC_KEPT_COUNT then some (if on then BitVec.ofNat 32 (s.recArea true).length else 0)
  else if Off.REC_READ_DATA ≤ off && off < Off.REC_READ_DATA + 256 then
    some (BitVec.ofNat 32 (beAt (s.erec.loaded ++ List.replicate 256 0) (off - Off.REC_READ_DATA) 4))
  else none

/-! ### UPD and SEC (Tables 17.15, 17.17) -/

/-- Bytes of a slot's block 0. -/
def NorSlot.header (n : NorSlot) : List Byte := (look n.blocks 0).getD []

/-- VERSION in a slot; 0 while it holds no header. -/
def NorSlot.version (n : NorSlot) : Nat := beAt n.header 12 4

/-- Bytes of an image slot in block order. -/
def NorSlot.bytes (n : NorSlot) : List Byte := n.blocks.flatMap (·.2)

def State.typeSlots (s : State) (t : Nat) : TypeSlots := s.nv.slots.getD t Reset.typeSlots

/-- The slot that is not running; in BOOT recovery the marked slot (R507): true slot B. -/
def State.targetB (s : State) (t : Nat) : Bool := if s.sys.recovery then (s.typeSlots t).markB else !(s.typeSlots t).runB

def TypeSlots.slot (t : TypeSlots) (b : Bool) : NorSlot := if b then t.b else t.a

def State.target (s : State) (t : Nat) : NorSlot := (s.typeSlots t).slot (s.targetB t)

/-- The slot marked active: a TRIAL mark is the newer one (R523). -/
def TypeSlots.mark (t : TypeSlots) : Bool := t.trial.getD t.markB

/-- UPD_SLOT_t. -/
def TypeSlots.word (t : TypeSlots) : Word :=
  mkWord [(0, t.a.state.code), (3, b2n !t.mark), (4, t.b.state.code), (7, b2n t.mark), (8, b2n t.runB), (9, b2n t.trial.isSome)]

/-- The type being staged: its target slot is ERASING, RECEIVING or RECEIVED. -/
def State.staged (s : State) : Option Nat :=
  (List.range 4).find? fun t => (s.target t).state == .erasing || (s.target t).state == .receiving || (s.target t).state == .received

/-- Blocks of an image with a payload of `len` bytes. -/
def imageBlocks (len : Nat) : Nat := (4096 + len + 4095) / 4096

/-- UPD_STATUS (Table 17.15). -/
def State.updStatus (s : State) : Word :=
  mkWord [(0, s.upd.state), (4, s.upd.cause), (8, s.upd.seq.toNat), (16, s.upd.lastOp), (20, s.upd.detail)]

/-- UPD_STAGE. -/
def State.updStage (s : State) : Word :=
  match s.staged with
  | some t => mkWord [(0, t + 1), (4, b2n (s.targetB t)), (5, (s.target t).state.code), (8, (s.target t).blocks.length)]
  | none => 0

/-- UPD_COMPAT. -/
def State.updCompat (s : State) : Word := mkWord [(0, s.upd.compat), (4, s.upd.typeX), (8, s.upd.typeY)]

def State.peekUpd (s : State) (off : Nat) : Option Word :=
  if off = Off.UPD_STATUS then some s.updStatus
  else if off = Off.UPD_STAGE then some s.updStage
  else if off = Off.UPD_STAGE_TOTAL then
    some (match s.staged with
      | some t => if (s.target t).header.isEmpty then 0 else BitVec.ofNat 32 (imageBlocks (beAt (s.target t).header 32 4))
      | none => 0)
  else if Off.UPD_SLOT ≤ off && off < Off.UPD_SLOT + 16 then some (s.typeSlots ((off - Off.UPD_SLOT) / 4)).word
  else if Off.UPD_VER_A ≤ off && off < Off.UPD_VER_A + 32 then
    some (BitVec.ofNat 32 ((s.typeSlots ((off - Off.UPD_VER_A) / 8)).slot ((off - Off.UPD_VER_A) % 8 == 4)).version)
  else if off = Off.UPD_BLK_STATUS then some (mkWord [(0, s.upd.blkState), (4, s.upd.blkCause), (8, s.upd.blkSeq.toNat)])
  else if off = Off.UPD_COMPAT then some s.updCompat
  else if off = Off.UPD_RNG then some (Config.freeWord s.free)
  else if off = Off.UPD_LC_STATE then
    some (mkWord [(0, s.nv.life.code), (4, s.nv.lifeWas.code), (8, b2n s.upd.scanOpen), (9, b2n s.upd.debugOpen), (16, s.nv.lifeChanges.toNat)])
  else none

/-- A public key (modulus) of an object of the key area (Table 17.9); none when the slot holds none. FACTORY slot 0 is fixed in boot ROM. -/
def State.publicKey (s : State) (index sub : Nat) : Option (BitVec 4096) :=
  if index = 0xB121 && sub = 1 then some Config.factoryKey
  else match look s.nv.factory (objKey index sub) with
    | some b => if beNat b = 0 then none else some (BitVec.ofNat 4096 (beNat b))
    | none => none

/-- SEC_KEYS. -/
def State.secKeys (s : State) : Word :=
  let k := fun (lo index n : Nat) => (List.range n).map fun i => (lo + i, b2n (s.publicKey index (i + 1)).isSome)
  mkWord (k 0 0xB122 4 ++ k 4 0xB120 4 ++ k 8 0xB121 2 ++ [(12, b2n s.nv.identity.isSome), (13, b2n s.nv.imageKey.isSome)])

def State.peekSec (s : State) (l : Lane) (off : Nat) : Option Word :=
  let x := s.secs.get l
  if off = Off.SEC_STATUS then some (mkWord [(0, x.state), (4, b2n x.valid), (8, x.cause), (16, x.seq.toNat)])
  else if off = Off.SEC_KEYS then some s.secKeys
  else none

/-! ### TLM (Table 18.9) -/

/-- TLM_FAULTS: standing faults. -/
def State.faults (s : State) : Word :=
  mkWord [(0, b2n (s.vot.slices != 7)), (1, b2n s.sys.netA.off), (2, b2n s.sys.netB.off), (3, b2n s.sys.guardianFault), (4, b2n s.sys.mramFault),
    (5, b2n (s.pairMember && !s.chk.protected_)), (6, b2n s.sys.dspFault), (7, b2n s.sys.norFault), (8, b2n s.tlm.tempWarn),
    (9, b2n s.tlm.marginWarn), (10, b2n s.wearWarn), (11, b2n (s.lanesIn.any fun l => (s.mems.get l).rateNow s.time.tb2.ns))]

/-- TLM_PORTS_UP. -/
def State.portsUp (s : State) : Word := mkWord (s.ftn.ports.zipIdx.map fun (p, i) => (i, b2n p.up))

def State.peekTlm (s : State) (off : Nat) : Option Word :=
  if off = Off.TLM_CFG_STATUS then some (s.busyBits (words Off.TLM_CFG 1))
  else if off = Off.TLM_PUB_SEQ then some s.tlm.pubSeq
  else if off = Off.TLM_TEMP then some (BitVec.ofNat 32 (code 16 s.tlm.temp))
  else if off = Off.TLM_VIN then some (BitVec.ofNat 32 (s.tlm.vin % 65536))
  else if off = Off.TLM_POWER then some (BitVec.ofNat 32 (s.tlm.power % 65536))
  else if off = Off.TLM_FAULTS then some s.faults
  else if off = Off.TLM_PORTS_UP then some s.portsUp
  else if off = Off.TLM_BG_STATUS then some (s.tlm.late.setWidth 32)
  else if off = Off.TLM_SCRUB_PROGRESS then
    some (mkWord (Lane.all.map fun l => (8 * l.idx, if s.inVote l then s.tlm.progress.get l else 0)))
  else if Off.TLM_MARGIN ≤ off && off < Off.TLM_MARGIN + 88 then
    some (BitVec.ofNat 32 (code 16 (s.tlm.margins.getD ((off - Off.TLM_MARGIN) / 4) 0)))
  else none

end Sys2Proof.Machine
end

