-- ==== Sys2Proof/Machine/Peek.lean ====
section
/-! DEFINITION. What a read of each register returns without any side effect: the register file, and the status registers
that show the typed state. -/
namespace Sys2Proof.Machine

/-- BUSY registers of the measurement blocks, the Piste and the interrupt controller (R13). -/
def State.peekBusy (s : State) (l : Lane) (off : Nat) : Option Word :=
  if off = Off.ICU_CFG_STATUS then some (s.busyBits [(laneKey l Off.ICU_EXT_CFG, laneKey l Off.ICU_EXT_CFG + 64)])
  else if off = Off.PST_CFG_STATUS then
    some (s.busyBits [(Off.PST_CFG, Off.PST_CFG + 4), (Off.PST_SYNC_CFG, Off.PST_SYNC_CFG + 4), (0x40100, 0x40300)])
  else if off = Off.ODO_CFG_STATUS then some (s.busyBits (words Off.ODO_CFG 7 ++ words Off.ODO_SENSOR_CFG 8))
  else if off = Off.SUP_CFG_STATUS then
    some (s.busyBits [(Off.SUP_CFG, Off.SUP_CFG + 4), (Off.SUP_CH_CFG, Off.SUP_CH_CFG + 16), (Off.SUP_CH_SCALE, Off.SUP_CH_SCALE + 16),
      (Off.SUP_CH_OFFSET, Off.SUP_CH_OFFSET + 16), (Off.SUP_LIM, Off.SUP_LIM + 32)])
  else none

/-- Value of the register at an offset as core `core` of lane `l` reads it, without side effect (R496). -/
def State.peekAt (s : State) (l : Lane) (core off : Nat) : Word :=
  let v := match off / 65536 with
    | 0 => s.peekIcu l core off
    | 1 => s.peekVot off
    | 2 => s.peekCyc l off
    | 3 => s.peekTb l off
    | 4 => s.peekPst off
    | 5 => s.peekOdo off
    | 6 => s.peekSup off
    | 7 => s.peekFtn off
    | 8 => s.peekDio off
    | 9 => s.peekBrg off
    | 10 => s.peekDma off
    | 11 => s.peekRec off
    | 12 => s.peekUpd off
    | 13 => s.peekSec l off
    | 14 => s.peekChk off
    | 15 => s.peekSys off
    | 16 => s.peekTlm off
    | 17 => s.peekSpm l off
    | _ => none
  match v with
  | some w => w
  | none => (s.peekBusy l off).getD (s.reg (regKey l off))

/-- The same for core 0. -/
def State.peek (s : State) (l : Lane) (off : Nat) : Word := s.peekAt l 0 off

end Sys2Proof.Machine
end

