-- ==== Sys2Proof/Machine/Objects.lean ====
section
/-! DEFINITION. The object dictionary: the object tables of spec/02 to spec/18 and what a read of each object returns (R456 to R461). -/
namespace Sys2Proof.Machine

/-- Rows of the object tables: indices from `i0`, `ni` of them; sub-indices from `s0`, `ns` of them; type code (Table 15.1), maximum
length, access code (Table 15.2), write role (Table 15.7; 0 none), persistence (Table 15.5), default of a value that no register has,
and the registers the object mirrors: the first offset, steps per index and per sub-index, and words; 0 words where it has none of its own. -/
structure ObjRow where
  i0 : Nat
  ni : Nat
  s0 : Nat
  ns : Nat
  type : Nat
  len : Nat
  access : Nat
  role : Nat
  pers : Nat
  dflt : Nat
  off : Nat
  iStep : Nat
  sStep : Nat
  words : Nat
  deriving DecidableEq, Repr

/-- One object, as INFO reports it. -/
structure ObjDesc where
  type : Nat
  len : Nat
  access : Nat
  role : Nat
  pers : Nat
  deriving DecidableEq, Repr

/-- A read-only volatile object that mirrors `w` registers. -/
def roReg (i s type len off w : Nat) : ObjRow := ⟨i, 1, s, 1, type, len, 1, 0, 1, 0, off, 0, 0, w⟩

/-- A read-only volatile object without a register of its own. -/
def roVal (i s type len : Nat) : ObjRow := ⟨i, 1, s, 1, type, len, 1, 0, 1, 0, 0, 0, 0, 0⟩

/-- Stored U32 configuration words in registers, write role MAINTAINER, in SAFE-HOLD.COMMISSIONING only. -/
def cfgRegs (i s n off : Nat) : ObjRow := ⟨i, 1, s, n, 4, 4, 4, 2, 2, 0, off, 0, 4, 1⟩

/-- Chapter 02, chapter 03, chapter 04. -/
def objRows1 : List ObjRow := [
  roVal 0x1100 1 2 1, roVal 0x1100 2 2 1, roVal 0x1100 3 2 1, roVal 0x1100 4 0x0C 13, roReg 0x1100 5 2 1 Off.SYS_RESET_CAUSE 1,
  roReg 0x1100 6 4 4 Off.SYS_START_TIME 1,
  ⟨0x1101, 1, 1, 1, 2, 1, 5, 1, 1, 0, 0, 0, 0, 0⟩, roReg 0x1101 2 4 4 Off.SYS_MODE_REQ_STATUS 1,
  roVal 0x1102 1 2 1, roVal 0x1102 2 2 1, roVal 0x1102 3 2 1, roVal 0x1102 4 0x0C 13,
  cfgRegs 0x1103 0 1 Off.SYS_START_CFG, ⟨0x1104, 1, 0, 1, 4, 4, 5, 2, 2, 0, Off.SYS_WAKE_CFG, 0, 0, 1⟩,
  ⟨0x1105, 1, 0, 1, 4, 4, 2, 1, 1, 0, Off.SYS_RTC_ALARM, 0, 0, 1⟩,
  cfgRegs 0x2200 1 5 Off.VOT_CFG, ⟨0x2200, 1, 6, 1, 0x11, 32, 4, 2, 2, 255, 0, 0, 0, 0⟩,
  roReg 0x2201 1 4 4 Off.VOT_LANE_STATE 1, roReg 0x2201 2 4 4 Off.VOT_LANE_CAUSE 1, roReg 0x2201 3 4 4 Off.VOT_DIS_INFO 1,
  roVal 0x2201 4 0x0C 13, roVal 0x2201 5 0x0C 13, ⟨0x2202, 1, 0, 1, 2, 1, 5, 3, 1, 0, 0, 0, 0, 0⟩,
  ⟨0x2300, 1, 1, 4, 4, 4, 4, 2, 2, 0, Off.TB_SERVO_CFG, 0, 64, 1⟩, ⟨0x2301, 1, 1, 4, 4, 4, 4, 2, 2, 0, Off.TB_GAINS, 0, 64, 1⟩,
  ⟨0x2302, 1, 1, 4, 4, 4, 4, 2, 2, 0, Off.TB_HOLD_CFG, 0, 64, 1⟩, cfgRegs 0x2303 0 1 Off.TB_CFG,
  ⟨0x2304, 1, 1, 3, 2, 1, 4, 2, 2, 0, 0, 0, 0, 0⟩, ⟨0x2304, 1, 4, 1, 6, 1, 4, 2, 2, 253, 0, 0, 0, 0⟩,
  ⟨0x2304, 1, 5, 1, 0x11, 8, 4, 2, 2, 0, 0, 0, 0, 0⟩, ⟨0x2305, 1, 0, 1, 0x11, 64, 1, 0, 3, 0, 0, 0, 0, 0⟩,
  ⟨0x2310, 1, 1, 4, 4, 4, 1, 0, 1, 0, Off.TB_STATUS, 0, 64, 1⟩, ⟨0x2311, 1, 1, 4, 0x0C, 13, 1, 0, 1, 0, 0, 0, 0, 0⟩,
  ⟨0x2320, 1, 1, 22, 4, 4, 1, 0, 1, 0, Off.FTN_TS_CORR, 0, 4, 1⟩, ⟨0x2321, 1, 0, 1, 2, 1, 5, 2, 1, 255, 0, 0, 0, 0⟩]

/-- Chapter 05, chapter 06. -/
def objRows2 : List ObjRow := [
  roVal 0x7000 1 0x0E 8, roReg 0x7000 2 8 4 Off.ODO_VEL 1, roReg 0x7000 3 8 4 Off.ODO_ACC 1, roReg 0x7000 4 4 4 Off.ODO_QUALITY 1,
  roReg 0x7000 5 4 4 Off.ODO_UNC 1, roVal 0x7000 6 0x0C 13, cfgRegs 0x7001 1 7 Off.ODO_CFG, cfgRegs 0x7002 1 4 Off.ODO_SENSOR_CFG,
  ⟨0x7003, 1, 1, 4, 4, 4, 5, 2, 2, 0, Off.ODO_DIAM, 0, 4, 1⟩, ⟨0x7004, 1, 1, 4, 4, 4, 1, 0, 2, 840000, 0, 0, 0, 0⟩,
  ⟨0x7010, 1, 1, 1, 0x0E, 8, 3, 1, 1, 0, 0, 0, 0, 0⟩, ⟨0x7010, 1, 2, 1, 0x0D, 4, 3, 1, 1, 0, 0, 0, 0, 0⟩,
  ⟨0x7010, 1, 3, 1, 4, 4, 3, 1, 1, 0, 0, 0, 0, 0⟩, ⟨0x7010, 1, 4, 1, 4, 4, 5, 1, 1, 0, 0, 0, 0, 0⟩, roReg 0x7010 5 4 4 Off.ODO_FIX_STATUS 1,
  roVal 0x7100 1 2 1, roReg 0x7100 2 4 4 Off.SUP_FREQ 1, roReg 0x7100 3 0x0F 4 Off.SUP_PHASE 1, roVal 0x7100 4 8 4,
  roReg 0x7100 5 3 2 Off.SUP_THD 1, roReg 0x7100 6 3 2 Off.SUP_ACTIVE 1, roVal 0x7100 7 4 4, roVal 0x7100 8 0x0C 13,
  cfgRegs 0x7101 1 4 Off.SUP_CH_CFG, ⟨0x7102, 1, 1, 4, 8, 4, 4, 2, 2, 0, Off.SUP_CH_SCALE, 0, 4, 1⟩,
  ⟨0x7103, 1, 1, 4, 8, 4, 4, 2, 2, 0, Off.SUP_CH_OFFSET, 0, 4, 1⟩, cfgRegs 0x7104 0 1 Off.SUP_CFG, cfgRegs 0x7105 1 8 Off.SUP_LIM,
  ⟨0x7110, 1, 1, 40, 4, 4, 1, 0, 1, 0, Off.SUP_HARM, 0, 4, 1⟩, roVal 0x7120 0 0x11 256,
  roVal 0x6000 1 3 2, roVal 0x6000 2 3 2, roReg 0x6000 3 4 4 Off.PST_FIRE_CNT 1, roReg 0x6000 4 4 4 Off.PST_MISSED_CNT 1,
  roReg 0x6000 5 4 4 Off.PST_SKIPPED_CNT 1, roReg 0x6000 6 4 4 Off.PST_SUPPRESSED_CNT 1, roReg 0x6000 7 4 4 Off.PST_CONFLICT_CNT 1,
  roVal 0x6000 8 4 4, roReg 0x6000 9 4 4 Off.PST_ACT_LOST_CNT 1,
  cfgRegs 0x6001 1 2 Off.PST_CFG, ⟨0x6002, 1, 1, 32, 0x11, 16, 4, 2, 2, 0, 0, 0, 0, 0⟩,
  ⟨0x6100, 1024, 1, 8, 4, 4, 1, 0, 1, 0, Off.PST_ENTRY_W0, 32, 4, 1⟩]

/-- Chapters 07 to 10. -/
def objRows3 : List ObjRow := [
  cfgRegs 0x8000 1 2 Off.FTN_NODE_CFG, ⟨0x8000, 1, 3, 1, 3, 2, 4, 2, 2, 0, Off.FTN_STAR_BCAST, 0, 0, 1⟩,
  ⟨0x8000, 1, 4, 1, 0x11, 2048, 4, 2, 2, 0, 0, 0, 0, 0⟩, cfgRegs 0x8100 1 3 Off.FTN_MATRIX_CFG,
  ⟨0x8100, 1, 4, 1, 0x11, 327680, 4, 2, 2, 0, 0, 0, 0, 0⟩, ⟨0x8100, 1, 5, 1, 0x11, 128, 4, 2, 2, 0, Off.FTN_CP, 0, 0, 32⟩,
  roReg 0x8100 6 4 4 Off.FTN_MATRIX_ID 1, roReg 0x8101 0 0x11 60 Off.FTN_RX_OK 15,
  cfgRegs 0x8200 1 1 Off.FTN_GUARD_CFG, ⟨0x8200, 1, 2, 1, 3, 2, 4, 2, 2, 0, Off.FTN_STAR_CFG, 0, 0, 1⟩,
  roReg 0x8200 3 4 4 Off.FTN_GUARD_STATE 1, roReg 0x8200 4 0x11 64 Off.FTN_GUARD_VIOL 16, roReg 0x8200 5 0x11 64 Off.FTN_STAR_OFFSET 16,
  ⟨0x8200, 1, 6, 1, 2, 1, 5, 2, 1, 255, 0, 0, 0, 0⟩, cfgRegs 0x8201 0 1 Off.FTN_SU_CFG,
  roReg 0x8202 1 4 4 Off.FTN_SU_STATE 1, roReg 0x8202 2 8 4 Off.FTN_SYNC_CORR 1, roReg 0x8202 3 0x11 60 Off.FTN_SYNC_DEV 15,
  roReg 0x8203 1 4 4 Off.FTN_RING_STATE 1, roReg 0x8203 2 0x11 80 Off.FTN_LINK_DELAY 20, ⟨0x8204, 1, 0, 1, 2, 1, 5, 2, 1, 0, 0, 0, 0, 0⟩,
  cfgRegs 0x2100 1 5 Off.CYC_CFG, roVal 0x2100 6 5 8, roReg 0x2100 7 4 4 Off.CYC_STATUS 1, roVal 0x2100 8 4 4,
  ⟨0x2101, 1, 0, 1, 0x11, 4096, 4, 2, 2, 0, 0, 0, 0, 0⟩, ⟨0x2102, 1, 0, 1, 0x11, 772, 5, 3, 1, 0, 0, 0, 0, 0⟩,
  ⟨0x2103, 1, 0, 1, 0x11, 4100, 5, 3, 1, 0, 0, 0, 0, 0⟩, roReg 0x2104 1 4 4 Off.CYC_OC_STATUS 1, roReg 0x2104 2 4 4 Off.CYC_FRC_STATUS 1,
  roVal 0x2105 0 0x11 4096,
  ⟨0x4000, 32, 1, 1, 4, 4, 4, 2, 2, 0, Off.DIO_IN_CFG, 4, 0, 1⟩, ⟨0x4000, 32, 2, 1, 2, 1, 1, 0, 1, 0, 0, 0, 0, 0⟩,
  ⟨0x4000, 32, 3, 1, 4, 4, 1, 0, 1, 0, 0, 0, 0, 0⟩, ⟨0x4100, 16, 1, 1, 4, 4, 4, 2, 2, 0, Off.DIO_OUT_CFG, 4, 0, 1⟩,
  ⟨0x4100, 16, 2, 1, 2, 1, 1, 0, 1, 0, 0, 0, 0, 0⟩, ⟨0x4100, 16, 3, 1, 4, 4, 1, 0, 1, 0, Off.DIO_OUT_FAULT, 4, 0, 1⟩,
  ⟨0x4100, 16, 4, 1, 7, 2, 1, 0, 1, 0, 0, 0, 0, 0⟩, ⟨0x4100, 16, 5, 1, 3, 2, 1, 0, 1, 0, 0, 0, 0, 0⟩,
  ⟨0x4200, 1, 1, 6, 4, 4, 1, 0, 1, 0, Off.DIO_GRP_STATE, 0, 4, 1⟩, ⟨0x4201, 1, 1, 6, 3, 2, 1, 0, 1, 0, Off.DIO_GRP_VOLT, 0, 4, 1⟩,
  roReg 0x4202 0 4 4 Off.DIO_TRIP_STATE 1, ⟨0x4203, 1, 1, 6, 4, 4, 1, 0, 1, 0, 0, 0, 0, 0⟩, cfgRegs 0x4210 1 6 Off.DIO_GRP_CFG,
  ⟨0x4220, 1, 0, 1, 4, 4, 5, 2, 1, 0, 0, 0, 0, 0⟩, ⟨0x4300, 1, 1, 8, 0x11, 12, 4, 2, 2, 0, Off.DIO_TRIP_MASK, 0, 16, 3⟩]

/-- Chapters 11 to 18. -/
def objRows4 : List ObjRow := [
  cfgRegs 0x2400 1 1 Off.CHK_CFG, ⟨0x2400, 1, 2, 2, 3, 2, 4, 2, 2, 0, Off.CHK_PARTNER, 0, 4, 1⟩,
  roReg 0x2401 1 4 4 Off.CHK_STATUS 1, roReg 0x2401 2 4 4 Off.CHK_CLAIM 1, roReg 0x2401 3 4 4 Off.CHK_HELD_CLAIM 1, roVal 0x2401 4 0x11 256,
  ⟨0x2402, 1, 0, 1, 2, 1, 5, 2, 1, 0, 0, 0, 0, 0⟩, cfgRegs 0x2500 1 16 Off.ICU_EXT_CFG, roVal 0x2501 0 0x11 36,
  cfgRegs 0x2600 1 1 Off.SPM_ECC_CFG, roVal 0x2601 0 0x11 40, ⟨0x2602, 1, 1, 3, 4, 4, 1, 0, 1, 0, 0, 0, 0, 0⟩,
  cfgRegs 0x2700 1 2 Off.BRG_CFG, ⟨0x2700, 1, 3, 1, 0x11, 96, 4, 2, 2, 0, 0, 0, 0, 0⟩, roReg 0x2701 1 4 4 Off.BRG_LINK_STATE 1, roVal 0x2701 2 0x11 52,
  ⟨0x1000, 1, 0, 1, 4, 4, 1, 0, 3, 0, Off.SYS_ID, 0, 0, 1⟩, ⟨0x1011, 1, 0, 1, 2, 1, 4, 3, 1, 0, 0, 0, 0, 0⟩, roVal 0x1012 0 4 4,
  ⟨0x1018, 1, 1, 2, 4, 4, 1, 0, 3, 0, 0, 0, 0, 0⟩, ⟨0x1018, 1, 3, 1, 2, 1, 1, 0, 3, 0, 0, 0, 0, 0⟩, ⟨0x1018, 1, 4, 1, 0x10, 16, 1, 0, 3, 0, 0, 0, 0, 0⟩,
  ⟨0x1018, 1, 5, 1, 2, 1, 1, 0, 3, 0, 0, 0, 0, 0⟩, ⟨0x1018, 1, 6, 1, 0x11, 16, 1, 0, 3, 0, 0, 0, 0, 0⟩, ⟨0x1018, 1, 7, 1, 0x10, 16, 1, 0, 3, 0, 0, 0, 0, 0⟩,
  ⟨0x1200, 1, 1, 1, 2, 1, 4, 2, 2, 3, 0, 0, 0, 0⟩, ⟨0x1200, 1, 2, 1, 3, 2, 4, 2, 2, 60, 0, 0, 0, 0⟩, ⟨0x1200, 1, 3, 1, 2, 1, 4, 2, 2, 3, 0, 0, 0, 0⟩,
  ⟨0x1210, 2, 1, 1, 4, 4, 4, 2, 2, 0, 0, 0, 0, 0⟩, ⟨0x1210, 2, 2, 1, 4, 4, 4, 2, 2, 0xFFFFFF00, 0, 0, 0, 0⟩, ⟨0x1210, 2, 3, 1, 4, 4, 4, 2, 2, 0, 0, 0, 0, 0⟩,
  ⟨0x1220, 1, 1, 7, 4, 4, 1, 0, 1, 0, 0, 0, 0, 0⟩, roVal 0x1230 0 0x11 128] ++ [
  roVal 0xA000 1 2 1, roReg 0xA000 2 4 4 Off.REC_NEWEST_SEQ 1, roReg 0xA000 3 4 4 Off.REC_OLDEST_SEQ 1, roReg 0xA000 4 4 4 Off.REC_KEPT_BASE 1,
  roReg 0xA000 5 3 2 Off.REC_KEPT_COUNT 1, roReg 0xA000 6 4 4 Off.REC_LOST_CNT 1, roVal 0xA000 7 2 1,
  ⟨0xA010, 1, 0, 1, 2, 1, 5, 3, 1, 0, 0, 0, 0, 0⟩, ⟨0xA011, 1, 1, 1, 4, 4, 2, 1, 1, 0, 0, 0, 0, 0⟩, ⟨0xA011, 1, 2, 1, 2, 1, 2, 1, 1, 0, 0, 0, 0, 0⟩,
  roVal 0xA012 0 0x11 4096, roVal 0xA020 0 0x11 65536, ⟨0xA030, 1, 0, 1, 0x11, 128, 4, 2, 2, 0, Off.REC_MAP, 0, 0, 32⟩,
  ⟨0xA040, 16, 0, 1, 0x11, 112, 4, 2, 2, 0, Off.REC_PROF_ITEM, 128, 0, 28⟩, cfgRegs 0xA050 0 1 Off.REC_CFG,
  ⟨0xB000, 1, 1, 1, 4, 4, 5, 2, 1, 0, 0, 0, 0, 0⟩, roReg 0xB000 2 4 4 Off.UPD_STATUS 1, roReg 0xB000 3 4 4 Off.UPD_STAGE 1, roVal 0xB000 4 0x11 48,
  roReg 0xB000 5 4 4 Off.UPD_COMPAT 1, ⟨0xB010, 1, 0, 1, 0x11, 4108, 3, 2, 1, 0, 0, 0, 0, 0⟩, ⟨0xB020, 1, 0, 1, 0x11, 728, 5, 3, 2, 0, 0, 0, 0, 0⟩,
  ⟨0xB100, 1, 1, 1, 2, 1, 1, 0, 3, 0, 0, 0, 0, 0⟩, ⟨0xB100, 1, 2, 1, 2, 1, 5, 3, 1, 0, 0, 0, 0, 0⟩, ⟨0xB101, 1, 1, 1, 0x11, 512, 1, 0, 3, 0, 0, 0, 0, 0⟩,
  ⟨0xB101, 1, 2, 1, 0x11, 512, 5, 4, 3, 0, 0, 0, 0, 0⟩, ⟨0xB102, 1, 0, 1, 0x11, 32, 3, 4, 3, 0, 0, 0, 0, 0⟩, ⟨0xB110, 1, 1, 1, 0x11, 32, 3, 1, 1, 0, 0, 0, 0, 0⟩,
  roVal 0xB110 2 0x11 1160, ⟨0xB120, 1, 1, 4, 0x11, 512, 2, 4, 3, 0, 0, 0, 0, 0⟩, ⟨0xB121, 1, 1, 1, 0x11, 512, 1, 0, 3, 0, 0, 0, 0, 0⟩,
  ⟨0xB121, 1, 2, 1, 0x11, 512, 2, 4, 3, 0, 0, 0, 0, 0⟩, ⟨0xB122, 1, 1, 4, 0x11, 512, 2, 4, 3, 0, 0, 0, 0, 0⟩, ⟨0xB130, 1, 0, 1, 2, 1, 5, 3, 1, 0, 0, 0, 0, 0⟩,
  roReg 0xF000 1 4 4 Off.TLM_PUB_SEQ 1, roVal 0xF000 2 0x11 64, roReg 0xF000 3 7 2 Off.TLM_TEMP 1, roReg 0xF000 4 3 2 Off.TLM_VIN 1,
  roReg 0xF000 5 3 2 Off.TLM_POWER 1, roReg 0xF000 6 4 4 Off.TLM_FAULTS 1, roReg 0xF000 7 4 4 Off.TLM_PORTS_UP 1, roReg 0xF000 8 4 4 Off.TLM_BG_STATUS 1,
  roReg 0xF000 9 4 4 Off.TLM_UNMAPPED_CNT 1, roReg 0xF000 10 4 4 Off.TLM_REPLACED_CNT 1, ⟨0xF000, 1, 11, 3, 4, 4, 1, 0, 1, 0, Off.TLM_HUBPORT_ERR, 0, 4, 1⟩,
  roReg 0xF000 14 0x11 56 Off.VOT_DIS_CNT 14, roVal 0xF000 15 0x11 36, cfgRegs 0xF001 0 1 Off.TLM_CFG, roReg 0xF002 0 0x11 88 Off.TLM_MARGIN 22]

def objRows : List ObjRow := objRows1 ++ objRows2 ++ objRows3 ++ objRows4

def ObjRow.hasIndex (r : ObjRow) (i : Nat) : Bool := decide (r.i0 ≤ i) && decide (i < r.i0 + r.ni)

def ObjRow.hasSub (r : ObjRow) (j : Nat) : Bool := decide (r.s0 ≤ j) && decide (j < r.s0 + r.ns)

def ObjRow.desc (r : ObjRow) : ObjDesc := ⟨r.type, r.len, r.access, r.role, r.pers⟩

/-- Row that holds an object. -/
def objRow (i j : Nat) : Option ObjRow := objRows.find? fun r => r.hasIndex i && r.hasSub j

/-- Highest sub-index of an index; none when the module does not hold the index. -/
def objHighest (i : Nat) : Option Nat :=
  match (objRows.filter fun r => r.hasIndex i).map fun r => r.s0 + r.ns - 1 with
  | [] => none
  | x :: xs => some (xs.foldl max x)

/-- First register offset an object mirrors. -/
def ObjRow.regOff (r : ObjRow) (i j : Nat) : Nat := r.off + r.iStep * (i - r.i0) + r.sStep * (j - r.s0)

/-- Bytes of `n` register values, most significant byte first, cut to the object's length from the low end of a single word. -/
def regBytes (len : Nat) (ws : List Word) : List Byte :=
  match ws with
  | [w] => beBytes len w.toNat
  | _ => ws.flatMap fun w => beBytes 4 w.toNat

/-- Default of an object: the reset values of its registers, or the table's own value. -/
def ObjRow.dfltBytes (r : ObjRow) (i j : Nat) : List Byte :=
  if r.words ≠ 0 then regBytes r.len ((List.range r.words).map fun k => regReset (r.regOff i j + 4 * k))
  else if r.type = 0x11 then List.replicate r.len (BitVec.ofNat 8 r.dflt)
  else beBytes r.len r.dflt

/-- TIME of Table 15.1, from module time in units of 2^-48 ns. -/
def timeBytes (t : Nat) : List Byte :=
  let ns := t / nsUnit
  beBytes 8 (ns / 1000000000) ++ beBytes 4 (ns % 1000000000) ++ beBytes 1 (t % nsUnit / 1099511627776)

/-- Full TIME of a value in ns. -/
def nsTime (ns : Nat) : List Byte := timeBytes (ns * nsUnit)

/-- `n` lane-local counters, each as the largest value among the lanes in vote. -/
def State.maxCounters (s : State) (off n : Nat) : List Byte :=
  (List.range n).flatMap fun k => beBytes 4 ((s.lanesIn.map fun l => (s.reg (laneKey l (off + 4 * k))).toNat).foldl max 0)

/-- `n` free bytes: a value the spec does not give (log 12). -/
def freeBytes (s : State) (n : Nat) : List Byte := (List.range n).map fun i => (Config.freeWord (s.free + i)).setWidth 8

/-- Force entries as SEL, ADDR, VALUE, most significant byte first (0x2105); unused ones all 0. -/
def forceBytes (fs : List Force) : List Byte :=
  (List.range 256).flatMap fun i =>
    match fs.find? fun f => f.index == i with
    | some f => beBytes 4 f.sel.toNat ++ beBytes 4 f.addr.toNat ++ beBytes 8 f.value.toNat
    | none => List.replicate 16 0

/-- First lane in vote, in the order A, B, C; lane A when there is none. -/
def State.lane0 (s : State) : Lane := s.lanesIn.headD .a

/-- Bytes of the image of a type that runs. -/
def State.runImage (s : State) (t : Nat) : List Byte := ((s.typeSlots t).slot (s.typeSlots t).runB).bytes

/-- Path descriptor (Table 15.8). -/
def pathBytes (p : Path) : List Byte := [p.kind] ++ beBytes 2 p.source.toNat ++ beBytes 4 p.ipv4.toNat ++ [0]

/-- One entry of 0x1230. -/
def Session.entry (now : Nat) (x : Session) : List Byte :=
  beBytes 2 x.num.toNat ++ beBytes 1 x.role ++ beBytes 1 (match x.state with | .open_ => 1 | .awaitAuth => 2) ++ pathBytes x.path ++
  beBytes 2 (min 65535 ((now - x.lastAt) / 1000000000)) ++ [0, 0]

def State.sessionTable (s : State) : List Byte :=
  let es := (s.ksp.sessions.take 8).flatMap fun x => x.entry s.now
  es ++ List.replicate (128 - es.length) 0

/-- Counters of 0x1220. -/
def State.kspCounter (s : State) (j : Nat) : Word :=
  match j with
  | 1 => s.ksp.executed
  | 2 => s.ksp.discarded
  | 3 => s.ksp.busy
  | 4 => s.ksp.authFails
  | 5 => s.ksp.opened
  | 6 => s.ksp.storeWrites
  | _ => s.ksp.repairs

/-- Whole records that fit 4,096 bytes (R506). -/
def wholeRecords : Nat → List (List Byte) → List Byte
  | _, [] => []
  | room, b :: rest =>
    if b.length ≤ room then b ++ wholeRecords (room - b.length) rest else []

/-- Records from a cursor onwards. -/
def State.fromCursor (s : State) (cursor : Option Word) (kept : Bool) : List Byte :=
  let a := s.recArea kept
  wholeRecords 4096 ((match cursor with
    | some c => a.dropWhile fun (r : Rec) => !decide ((r.seq - c).toNat < 2147483648)
    | none => a).map (s.recBytes kept))

/-- Slot descriptor of the attestation report (Table 17.10). -/
def State.slotReport (s : State) (t : Nat) (b : Bool) : List Byte :=
  let x := s.typeSlots t
  let n := x.slot b
  let held := n.state == .received || n.state == .verified || n.state == .invalid
  beBytes 1 (t + 1) ++ beBytes 1 (b2n b) ++ beBytes 1 n.state.code ++
  beBytes 1 (b2n (x.mark == b) + 2 * b2n (x.runB == b && !s.sys.recovery) + 4 * b2n (x.trial == some b)) ++
  beBytes 4 n.version ++ (if held then (n.header ++ List.replicate 4096 0).drop 68 |>.take 64 else List.replicate 64 0)

/-- Attestation report without its signature. -/
def State.reportBody (s : State) (nonce : List Byte) : List Byte :=
  beBytes 4 0x41545354 ++ beBytes 2 1 ++ beBytes 1 s.nv.life.code ++ beBytes 1 Config.hwRev.toNat ++ beBytes 16 Config.unitId.toNat ++
  (nonce ++ List.replicate 32 0).take 32 ++ beBytes 4 s.nv.opSeconds.toNat ++ beBytes 4 s.nv.porCount.toNat ++
  ((List.range 4).flatMap fun t => s.slotReport t false ++ s.slotReport t true) ++
  beBytes 1 s.sys.mode.code ++ beBytes 1 s.reason ++ beBytes 1 (b2n s.upd.scanOpen + 2 * b2n s.upd.debugOpen) ++ List.replicate 5 0

/-- Signature by the identity key (R533); all 0x00 without one. -/
def State.identitySign (s : State) (msg : List Byte) : List Byte :=
  match s.nv.identity with
  | some k => (Config.pssSign k msg ++ List.replicate 512 0).take 512
  | none => List.replicate 512 0

/-- Attestation report (R534, Table 17.10). -/
def State.report (s : State) (nonce : List Byte) : List Byte := s.reportBody nonce ++ s.identitySign (s.reportBody nonce)

/-- Values of the objects that mirror no single register: chapters 02 to 06. -/
def State.objSpecial1 (s : State) (i j : Nat) : Option (List Byte) :=
  if i = 0x1100 then
    (match j with
      | 1 => some (beBytes 1 s.sys.mode.code)
      | 2 => some (beBytes 1 s.sub)
      | 3 => some (beBytes 1 (fld s.modeState 16 3))
      | 4 => some (timeBytes s.sys.changedAt)
      | _ => none)
  else if i = 0x1101 && j = 1 then some (beBytes 1 (fld (s.reg Off.SYS_MODE_REQ) 0 4))
  else if i = 0x1102 then
    (match j with
      | 1 => some (beBytes 1 s.reason)
      | 2 => some (beBytes 1 s.sys.first)
      | 3 => some (beBytes 1 s.sys.active.toNat)
      | 4 => some (timeBytes s.sys.heldAt)
      | _ => none)
  else if i = 0x2201 then (match j with | 4 => some (timeBytes s.vot.exclAt) | 5 => some (timeBytes s.vot.readmitAt) | _ => none)
  else if i = 0x2305 then some ((List.range 64).map Config.trimCurveByte)
  else if i = 0x2311 then some (timeBytes (s.base (j - 1)).time)
  else if i = 0x7000 then
    (match j with
      | 1 => some (beBytes 4 (s.peek s.lane0 Off.ODO_POS_HI).toNat ++ beBytes 4 (s.peek s.lane0 Off.ODO_POS_LO).toNat)
      | 6 => some (nsTime s.odo.estAt)
      | _ => none)
  else if i = 0x7004 then some (beBytes 4 (s.dEff (j - 1)))
  else if i = 0x7100 then
    (match j with
      | 1 => some (beBytes 1 s.sup.lock.code)
      | 4 => some (beBytes 4 (s.peek s.lane0 (Off.SUP_VAL + 4 * fld (s.reg Off.SUP_CFG) 4 2)).toNat)
      | 7 => some (beBytes 4 ((List.range 6).foldl (fun a k => a + (s.reg (Off.SUP_DIST_CNT + 4 * k)).toNat) 0))
      | 8 => some (nsTime s.sup.lastEnd)
      | _ => none)
  else if i = 0x7120 then
    let es := s.sup.recent.flatMap fun e => beBytes 4 e.head.toNat ++ beBytes 4 e.start.toNat ++ beBytes 4 e.dur.toNat ++ beBytes 4 e.extreme.toNat
    some ((es ++ List.replicate 256 0).take 256)
  else if i = 0x6000 then
    (match j with
      | 1 => some (beBytes 2 s.pst.armed.length)
      | 2 => some (beBytes 2 (s.pst.armed.filter fun a => a.waitAt.isSome).length)
      | 8 => some (beBytes 4 ((s.reg Off.PST_STEPPED_CNT) + (s.reg Off.PST_JUMPED_CNT)).toNat)
      | _ => none)
  else none

/-- Snapshot (Table 18.2). -/
def State.snapshotBytes (s : State) : List Byte := (s.tlm.snapshot ++ List.replicate 64 0).take 64

/-- Values of chapters 09 to 14. -/
def State.objSpecial2 (s : State) (i j : Nat) : Option (List Byte) :=
  let c := s.cyc.lanes.get s.lane0
  if i = 0x2100 && j = 6 then some (beBytes 8 s.cyc.count.toNat)
  else if i = 0x2100 && j = 8 then some (beBytes 4 ((s.lanesIn.map fun l => (s.cyc.lanes.get l).execMax).foldl max 0))
  else if i = 0x2102 then some (freeBytes s 772)
  else if i = 0x2103 then some (freeBytes s 4100)
  else if i = 0x2105 then some (forceBytes c.forces)
  else if 0x4000 ≤ i && i ≤ 0x401F && j = 2 then some (beBytes 1 (s.dio.dis.getD (i - 0x4000) Reset.di).state.num)
  else if 0x4000 ≤ i && i ≤ 0x401F && j = 3 then some (beBytes 4 (s.dio.dis.getD (i - 0x4000) Reset.di).changes.toNat)
  else if 0x4100 ≤ i && i ≤ 0x410F && j = 2 then some (beBytes 1 (s.outState (i - 0x4100)))
  else if 0x4100 ≤ i && i ≤ 0x410F && (j = 4 || j = 5) then
    some (beBytes 2 (fld (s.peek s.lane0 (Off.DIO_OUT_MEAS + 4 * (i - 0x4100))) (16 * (j - 4)) 16))
  else if i = 0x4203 then some (beBytes 4 (s.dio.groups.getD (j - 1) Reset.group).latches.toNat)
  else if i = 0x2401 && j = 4 then some (freeBytes s 256)
  else if i = 0x2501 then some (s.maxCounters Off.ICU_SPURIOUS_CNT 9)
  else if i = 0x2601 then some (s.maxCounters Off.SPM_DRAM_CE_CNT 10)
  else if i = 0x2602 then
    some ((Lane.all.filter fun l => l.idx = j - 1).flatMap fun l => beBytes 4 (if s.inVote l then (s.mems.get l).secureState else 0).toNat)
  else if i = 0x2701 && j = 2 then
    some (((List.range 9).flatMap fun k => beBytes 4 (s.peek s.lane0 (Off.BRG_WRITE_FAILS + 4 * k)).toNat) ++
      (List.range 4).flatMap fun k => beBytes 4 (s.peek s.lane0 (Off.DMA_BYTES_LO + 4 * k)).toNat)
  else none

/-- Values of chapters 15 to 18; the session matters to its own cursor and nonce. -/
def State.objSpecial3 (s : State) (x : Option Session) (i j : Nat) : Option (List Byte) :=
  let cur := x.bind (·.cursor)
  let kept := (x.map fun y => y.cursorKept == 1).getD false
  if i = 0x1012 then some (beBytes 4 (mkWord [(0, s.nv.gen % 65536), (16, b2n s.nv.copy0), (17, b2n s.nv.copy1)]).toNat)
  else if i = 0x1018 then
    (match j with
      | 1 => some (beBytes 4 0x534E4C4B)
      | 2 => some (beBytes 4 0x0E3A)
      | 3 => some (beBytes 1 Config.hwRev.toNat)
      | 4 => some ((List.range 16).map Config.serialByte)
      | 5 => some (beBytes 1 (b2n Config.gradeAX))
      | 6 => some (beBytes 16 Config.unitId.toNat)
      | 7 => some ((List.range 16).map Config.orderCodeByte)
      | _ => none)
  else if i = 0x1220 then some (beBytes 4 (s.kspCounter j).toNat)
  else if i = 0x1230 then some s.sessionTable
  else if i = 0xA000 && j = 1 then some (beBytes 1 s.erec.state.code)
  else if i = 0xA000 && j = 7 then some (beBytes 1 (min 255 (100 * s.nv.nand.erases / (50000 * 7872))))
  else if i = 0xA011 && j = 1 then
    some (beBytes 4 (cur.getD (((s.recArea kept).head?.map (·.seq)).getD 0)).toNat)
  else if i = 0xA011 && j = 2 then some (beBytes 1 (b2n kept))
  else if i = 0xA012 then some (s.fromCursor cur kept)
  else if i = 0xA020 then some ((List.range 65536).map Config.catalogueByte)
  else if i = 0xB000 && j = 4 then
    some ((List.range 4).flatMap fun t => beBytes 4 (s.typeSlots t).word.toNat ++ beBytes 4 (s.typeSlots t).a.version ++ beBytes 4 (s.typeSlots t).b.version)
  else if i = 0xB100 && j = 1 then some (beBytes 1 s.nv.life.code)
  else if i = 0xB101 && j = 1 then
    some (match s.nv.identity with
      | some k => beBytes 512 (Config.identityPublic k).toNat
      | none => List.replicate 512 0)
  else if i = 0xB110 && j = 2 then some (s.report ((x.map (·.attNonce)).getD []))
  else if i = 0xB121 && j = 1 then some (beBytes 512 Config.factoryKey.toNat)
  else if i = 0xB101 || i = 0xB120 || i = 0xB121 || i = 0xB122 then
    some ((look s.nv.factory (objKey i j)).getD (List.replicate 512 0))
  else if i = 0xF000 && j = 2 then some s.snapshotBytes
  else if i = 0xF000 && j = 15 then some (s.maxCounters Off.ICU_SPURIOUS_CNT 9)
  else none

/-- Descriptor of an application parameter, from the running LRT and CPF (R467). -/
def State.appObj (s : State) (i j : Nat) : Option ObjDesc :=
  if 0xC000 ≤ i && i ≤ 0xEFFF then
    (Config.appObject (s.runImage 0) (s.runImage 3) i j).map fun d => ⟨d.1, d.2.1, d.2.2.1, d.2.2.2.1, d.2.2.2.2⟩
  else none

/-- Highest sub-index of an index the module holds. -/
def State.highest (s : State) (i : Nat) : Option Nat :=
  if 0xC000 ≤ i && i ≤ 0xEFFF then Config.appHighest (s.runImage 0) (s.runImage 3) i else objHighest i

/-- A simple object holds its value at sub-index 0 (R456). -/
def State.objAt (s : State) (i j : Nat) : Option ObjDesc :=
  match (objRow i j).map ObjRow.desc, s.appObj i j with
  | some d, _ => some d
  | none, some d => some d
  | none, none => if j = 0 && (s.highest i).isSome then some ⟨0x12, 1, 1, 0, 1⟩ else none

/-- In BOOT recovery the boot ROM answers for these alone (R54, R489). -/
def recoveryIndex (i : Nat) : Bool := i == 0x1018 || i == 0x1100 || i == 0xB000 || i == 0xB010

/-- Status of a lookup: 0 OK, 1 NO_OBJECT, 2 NO_SUB (R456, R467). -/
def State.objFind (s : State) (i j : Nat) : Nat :=
  if s.sys.recovery && !recoveryIndex i then 1
  else if (s.highest i).isNone then 1
  else if (s.objAt i j).isNone then 2 else 0

/-- Default of an object of persistence STORED, and of a volatile object that mirrors nothing. -/
def State.objDflt (s : State) (i j : Nat) : List Byte :=
  match objRow i j with
  | some r => r.dfltBytes i j
  | none => Config.appDefault (s.runImage 0) (s.runImage 3) i j

/-- Value of an object as a read of session `x` returns it (R460, R461). -/
def State.objValue (s : State) (x : Option Session) (i j : Nat) : List Byte :=
  match objRow i j with
  | some r =>
    if r.pers = 2 then (look s.nv.store (objKey i j)).getD (r.dfltBytes i j)
    else match s.objSpecial1 i j, s.objSpecial2 i j, s.objSpecial3 x i j with
      | some b, _, _ => b
      | _, some b, _ => b
      | _, _, some b => b
      | none, none, none =>
        if r.words ≠ 0 then regBytes r.len ((List.range r.words).map fun k => s.peek s.lane0 (r.regOff i j + 4 * k)) else r.dfltBytes i j
  | none =>
    match s.appObj i j with
    | some d =>
      if d.pers = 2 then (look s.nv.store (objKey i j)).getD (s.objDflt i j) else (look s.ksp.params (objKey i j)).getD (s.objDflt i j)
    | none => beBytes 1 ((s.highest i).getD 0)

/-! ### Loading at VERIFY (R334, R462) -/

/-- A register of every lane's copy, or the one of a module-shared block. -/
def setRegAll (off : Nat) (v : Word) (s : State) : State :=
  if laneLocal off then setReg (laneKey .a off) v (setReg (laneKey .b off) v (setReg (laneKey .c off) v s)) else setReg off v s

/-- Words of a value, 4 bytes each, most significant byte first. -/
def wordsOf (b : List Byte) (n : Nat) : List Word := (List.range n).map fun k => BitVec.ofNat 32 (beAt b (4 * k) 4)

/-- Registers from `off` on in steps of 4. -/
def setRegs (off : Nat) (ws : List Word) (s : State) : State := ws.zipIdx.foldl (fun s w => setRegAll (off + 4 * w.2) w.1 s) s

/-- A register offset that some stored object loads. -/
def loadedOff (off : Nat) : Bool :=
  (decide (Off.VOT_OUT_CLASS ≤ off) && decide (off < Off.VOT_OUT_CLASS + 32)) || (decide (0x400000 ≤ off) && decide (off < 0x400400)) ||
  (decide (Off.PST_WIN_MIN_LO ≤ off) && decide (off < Off.PST_WIN_MIN_LO + 512)) ||
  (decide (Off.BRG_NP_BASE_LO ≤ off) && decide (off < Off.BRG_NP_BASE_LO + 128)) ||
  objRows.any fun r => r.pers == 2 && r.words != 0 && (List.range r.ni).any fun a => (List.range r.ns).any fun b =>
    decide (r.off + r.iStep * a + r.sStep * b ≤ off) && decide (off < r.off + r.iStep * a + r.sStep * b + 4 * r.words)

/-- The slot entries of 0x8100.04 from entry `i` on; entries of all zeros are not listed. -/
def slotsOf : Nat → Nat → List Byte → List (Nat × Slot)
  | 0, _, _ => []
  | n + 1, i, b =>
    if b.isEmpty then [] else
      let w := fun k => BitVec.ofNat 32 (beAt b (4 * k) 4)
      let e : Slot := ⟨w 0, w 1, w 2, w 3, w 4⟩
      let rest := slotsOf n (i + 1) (b.drop 20)
      if e = ⟨0, 0, 0, 0, 0⟩ then rest else (i, e) :: rest

/-- One stored value loaded into the registers of its layout. -/
def loadOne (key : Nat) (b : List Byte) (s : State) : State :=
  let i := key / 256
  let j := key % 256
  if i = 0x2200 && j = 6 then setRegs Off.VOT_OUT_CLASS ((List.range 8).map fun n => BitVec.ofNat 32 (leNat (slice b (4 * n) 4))) s
  else if i = 0x2101 then
    (wordsOf b 1024).zipIdx.foldl (fun s w => Lane.all.foldl (fun s l => setReg (stnKey l w.2) w.1 s) s) s
  else if i = 0x6002 then
    let w := wordsOf b 4
    setRegs (Off.PST_WIN_MIN_LO + 16 * (j - 1)) [w.getD 1 0, w.getD 0 0, w.getD 3 0, w.getD 2 0] s
  else if i = 0x2700 && j = 3 then
    (List.range 8).foldl (fun s n => setRegs (Off.BRG_NP_BASE_LO + 16 * n) (wordsOf (b.drop (12 * n)) 3) s) s
  else if i = 0x8100 && j = 4 then { s with ftn := { s.ftn with shadow := ⟨slotsOf 16384 0 b⟩ } }
  else match objRow i j with
    | some r =>
      if r.pers = 2 && r.words = 1 then setRegAll (r.regOff i j) (BitVec.ofNat 32 (beNat b)) s
      else if r.pers = 2 && r.words ≠ 0 then setRegs (r.regOff i j) (wordsOf b r.words) s
      else s
    | none => s

/-- VERIFY writes the configuration of every stored object into the active values (R334). -/
def loadObjects (s : State) : State :=
  let bufs := (look s.nv.store (objKey 0x8000 4)).getD []
  let s1 := { s with
    regs := s.regs.filter fun r => !loadedOff (r.1 % 16777216)
    ksp := { s.ksp with active := s.nv.store.filter fun x => decide (0x1200 ≤ x.1 / 256) && decide (x.1 / 256 ≤ 0x1211) }
    ftn := { s.ftn with
      shadow := ⟨[]⟩
      txBufs := (List.range 256).map fun b =>
        (b, ⟨.empty, 0, BitVec.ofNat 32 (beAt bufs (8 * b) 4), BitVec.ofNat 32 (beAt bufs (8 * b + 4) 4), []⟩) } }
  s1.nv.store.foldl (fun s x => loadOne x.1 x.2 s) s1

end Sys2Proof.Machine
end

