-- ==== Sys2Proof/Machine/Actions.lean ====
section
/-! DEFINITION. Operations several families share: records with their snapshot, output resolution, mode changes and SAFE-HOLD
reasons, fail-silent, exclusion, resets. -/
namespace Sys2Proof.Machine

/-! ### Records -/

/-- Word of a snapshot item (R496): a module-shared register, without side effect; or an object, its first 4 bytes; none for KIND none. -/
def State.snapItem (s : State) (w : Word) : Option Word :=
  match fld w 30 2 with
  | 1 => some (if laneLocal (fld w 0 21) then 0 else s.peek s.lane0 (fld w 0 21))
  | 2 =>
    let i := fld w 8 16
    let j := fld w 0 8
    let ok := s.objFind i j == 0 && ((s.objAt i j).map fun d => d.access != 3).getD false
    some (if ok then BitVec.ofNat 32 (beNat ((s.objValue none i j).take 4)) else 0xFFFFFFFF)
  | _ => none

/-- Items of a snapshot profile at the event instant, in ascending order (R496). -/
def State.snapshotOf (s : State) (profile : Nat) : List Word :=
  (List.range 28).filterMap fun j => s.snapItem (s.reg (Off.REC_PROF_ITEM + 128 * profile + 4 * j))

/-- A record of a built-in type (R493, R496). -/
def record (type : Nat) (items : List Item) (s : State) : State :=
  match s.profileOf type with
  | some p => requestRec (s.request type items [] (s.snapshotOf p)) s
  | none => requestRec (s.request type items [] []) s

/-- A record that carries the snapshot of a profile named at its event (R496). -/
def recordWith (type profile : Nat) (items : List Item) (s : State) : State :=
  requestRec { s.request type items [] (s.snapshotOf profile) with profile := profile } s

/-! ### Latched groups (R10, R81) and answers to lanes -/

/-- The read of the register at `off` has latched its group for a core: a lane's own (R10), or once for all lanes (`none`, R81). -/
def setLatch (lane : Option Lane) (core off : Nat) (vals : List (Nat × Word)) (s : State) : State :=
  { s with latches := ⟨lane, core, off, vals⟩ :: s.latches.filter fun x => !(x.lane == lane && x.core == core && x.off == off) }

/-- Value latched for a core at a register of some group. -/
def State.latched (s : State) (lane : Option Lane) (core off : Nat) : Option Word :=
  (s.latches.filter fun x => x.lane == lane && x.core == core).findSome? fun x => look x.vals off

/-- What a lane's access returned. -/
def answer (l : Lane) (core : Nat) (v : Word) (err : Bool) (s : State) : State :=
  s.setLane l fun x => { x with answer := ⟨core, v, err⟩ }

/-- One value returned to every lane in vote (R79). -/
def answerAll (core : Nat) (v : Word) (err : Bool) (s : State) : State :=
  s.lanesIn.foldl (fun s l => answer l core v err s) s

/-! ### Background activities (Table 18.1) -/

/-- A pass or test of a background activity is complete, and its next period begins: its LATE bit clears unless this pass had missed its period
(R540). -/
def passDone (a : Nat) (s0 : State) : State :=
  let m := 1#10 <<< a
  let s := { s0 with tlm := { s0.tlm with periodAt := s0.tlm.periodAt.set a s0.now } }
  { s with tlm := if s.tlm.latePass.getLsbD a then { s.tlm with latePass := s.tlm.latePass &&& ~~~m } else { s.tlm with late := s.tlm.late &&& ~~~m } }

/-! ### Lane memory (Table 13.1) -/

/-- `n` bytes from `addr` lie in the lane's DRAM, of 8 GiB. -/
def inDram (addr n : Nat) : Bool := decide (addr + n ≤ 0x200000000)

/-- `n` bytes from `addr` lie in the lane's scratchpad, of 4 MiB. -/
def inSpad (addr n : Nat) : Bool := decide (0x1000000000 ≤ addr) && decide (addr + n ≤ 0x1000400000)

/-- `n` bytes of a lane's DRAM or scratchpad; an address of neither reads 0 (R419). -/
def LaneMem.rd (m : LaneMem) (addr n : Nat) : List Byte :=
  if inDram addr n then rdBytes m.dram addr n
  else if inSpad addr n then rdBytes m.spad (addr - 0x1000000000) n
  else List.replicate n 0

/-- Bytes written to a lane's DRAM or scratchpad; nothing at an address of neither (R419). -/
def LaneMem.wr (m : LaneMem) (addr : Nat) (bs : List Byte) : LaneMem :=
  if inDram addr bs.length then { m with dram := wrBytes m.dram addr bs }
  else if inSpad addr bs.length then { m with spad := wrBytes m.spad (addr - 0x1000000000) bs }
  else m

def wrLane (l : Lane) (addr : Nat) (bs : List Byte) (s : State) : State := { s with mems := s.mems.modify l fun m => m.wr addr bs }

/-- Bytes written identically into every lane in vote. -/
def wrLanes (addr : Nat) (bs : List Byte) (s : State) : State := s.lanesIn.foldl (fun s l => wrLane l addr bs s) s

/-- A 64-bit word that two of the lanes in vote agree on. -/
def majBytes8 : List (Lane × List Byte) → Option (List Byte)
  | [] => none
  | x :: xs => if xs.any (fun y => y.2 == x.2) then some x.2 else majBytes8 xs

/-- `n` 64-bit words from `addr` as the lanes in vote agree on them (R453), and the lanes that differ; none without a majority. -/
def State.voteWords (s : State) (addr : Nat) : Nat → Option (List Byte × List Lane)
  | 0 => some ([], [])
  | n + 1 =>
    let xs := s.lanesIn.map fun l => (l, (s.mems.get l).rd addr 8)
    match majBytes8 xs, s.voteWords (addr + 8) n with
    | some b, some (bs, ls) => some (b ++ bs, (xs.filter fun x => x.2 != b).map (·.1) ++ ls)
    | _, _ => none

/-! ### Field outputs (Tables 10.3, 10.4) -/

def Group.isOpen (g : Group) : Bool := g.causes != 0

/-- Set or clear an open cause (bit of OPEN_CAUSE) of a DO group (4 or 5). -/
def groupCause (g b : Nat) (v : Bool) (s : State) : State :=
  { s with dio := { s.dio with groups := modAt s.dio.groups g fun x =>
      { x with causes := if v then x.causes ||| (1#9 <<< b) else x.causes &&& ~~~(1#9 <<< b) } } }

def bothGroups (b : Nat) (v : Bool) (s : State) : State := groupCause 5 b v (groupCause 4 b v s)

/-- Source command of channel `n` (R348). -/
def State.outCmd (s : State) (n : Nat) (o : Out) : Bool :=
  match fld (s.reg (Off.DIO_OUT_CFG + 4 * n)) 0 2 with
  | 0 => o.image
  | 1 => bit (s.reg Off.DIO_OUT_CMD) n
  | 2 => s.pst.doLevel.getLsbD n
  | _ => o.image && s.pst.doLevel.getLsbD n

/-- Latched faults that hold a channel OFF (Table 10.3 row 3): OVERCURRENT, OVERTEMP, STUCK_OFF, SHORT_SUPPLY, BACKFEED. -/
def Out.holdsOff (o : Out) : Bool := o.faults &&& 0b0111011#7 != 0

/-- Resolution of one channel by Table 10.3. -/
def State.resolve (s : State) (n : Nat) (o : Out) : Bool :=
  let cfg := s.reg (Off.DIO_OUT_CFG + 4 * n)
  let src := fld cfg 0 2
  if (s.dio.groups.getD (4 + n / 8) Reset.group).isOpen then false
  else if s.tripHolds n then false
  else if o.holdsOff then false
  else if src != 2 && !o.fresh then false
  else if o.silent || s.held then
    match fld cfg 2 2 with
    | 1 => true
    | 2 => o.holdLvl
    | _ => false
  else if o.dark then false
  else s.outCmd n o

/-- One channel's switch takes its resolution (R352): a change of resolved state ends a dark-test pulse (R364), and a turn-off
reports the clamp energy (R362). -/
def State.settle (s : State) (n : Nat) (o0 : Out) : Out :=
  let o := if o0.dark && !s.resolve n { o0 with dark := false } then { o0 with dark := false } else o0
  let on := s.resolve n o
  if on == o.on then o
  else if on then { o with on := true, changedAt := s.now }
  else
    let e := Config.clampEnergy n s.now
    { o with on := false, changedAt := s.now, energy := min 65535 e, demag := decide (250 < e) }

/-- Every channel's switch takes its resolution, and a change shows at X9. -/
def resolveOuts (s : State) : State :=
  let ps := s.dio.outs.zipIdx.map fun (o, n) => (n, o, s.settle n o)
  let msgs := ps.filterMap fun p => if p.2.1.on == p.2.2.on then none else some (Msg.pin 0 p.1 p.2.2.on)
  let ended := (ps.filter fun p => p.2.1.dark && !p.2.2.dark).length
  let high := (ps.filter fun p => p.2.1.on && !p.2.2.on && p.2.2.demag).length
  { s with dio := { s.dio with outs := ps.map fun p => p.2.2 }, out := s.out ++ msgs }
  |> bumpBy Off.DIO_DARK_SKIP_CNT ended |> bumpBy Off.DIO_DEMAG_HIGH_CNT high |> when (high != 0) (raiseIrq Irq.DIO_DEMAG_HIGH)

/-- The level HOLD keeps is the one resolved at this instant (R350). -/
def latchHold (s : State) : State :=
  { s with dio := { s.dio with outs := s.dio.outs.map fun o => { o with holdLvl := o.on } } }

/-- A channel with safe state ON or HOLD in a DO group (Table 10.4, SAFE_HOLD). -/
def State.groupKeeps (s : State) (g : Nat) : Bool :=
  (List.range 8).any fun i =>
    let sf := fld (s.reg (Off.DIO_OUT_CFG + 4 * (8 * (g - 4) + i))) 2 2
    sf == 1 || sf == 2

/-! ### Modes -/

/-- MODE_CHANGE (R36) with its counter and interrupt, after a change of mode or sub-state from `old`. -/
def modeChanged (old : Nat × Nat) (s : State) : State :=
  if (s.sys.mode.code, s.sub) = old then s else
    { s with sys := { s.sys with changedAt := s.time.tb0.time } }
    |> bump Off.SYS_MODE_CHANGES
    |> record 0x0101 [iU8 1 old.1, iU8 2 old.2, iU8 3 s.sys.mode.code, iU8 4 s.sub, iU8 5 s.reason]
    |> raiseIrq Irq.SYS_MODE_CHANGE

/-- Nothing of a cycle has been delivered or voted. -/
def Vot.cycleCleared (v : Vot) : Vot :=
  { v with voted := none, votedDigest := none, votedEnd := none,
           lanes := v.lanes.map fun _ x => { x with handed := none, digest := none, ended := none } }

/-- The cycle that runs is abandoned (R38), and an image still held back is dropped. -/
def abandonCycle (s : State) : State :=
  { s with
    cyc := { s.cyc with running := false, firstImage := none, lanes := s.cyc.lanes.map fun _ c => { c with phase := 0 } }
    vot := s.vot.cycleCleared }

/-- Open causes MODE and SAFE_HOLD follow the mode (Table 10.4); MODE clears only with a released image. -/
def modeCauses (s : State) : State :=
  match s.sys.mode with
  | .dormant | .boot | .verify | .integrate | .standby => bothGroups 0 true (bothGroups 1 false s)
  | .safeHold =>
    s |> groupCause 4 1 (!(s.groupKeeps 4 && s.sys.ran)) |> groupCause 5 1 (!(s.groupKeeps 5 && s.sys.ran))
  | .operational | .degraded => bothGroups 1 false s

/-- SYNC lines whose drivers are on, of a module that is up (R572). -/
def State.syncOn (s : State) : BitVec 8 := if s.up then (s.reg Off.PST_SYNC_CFG).setWidth 8 else 0

/-- The drivers of a mask of SYNC lines become high-impedance. -/
def releases (m : BitVec 8) : List Msg := (List.range 8).filterMap fun k => if m.getLsbD k then some (.release k) else none

/-- Level of SYNC line `k` at X1; none while its driver is high-impedance: not enabled, the hub unpowered or held in reset, or fail-silent (R572). -/
def State.syncPin (s : State) (k : Nat) : Option Bool := if s.syncOn.getLsbD k then some (s.pst.sync.getLsbD k) else none

/-- SYNC lines brought to the levels given, and a change shown at X1; a line whose driver is off shows nothing. -/
def setSync (v : BitVec 8) (s : State) : State :=
  let en := s.reg Off.PST_SYNC_CFG
  let msgs := (List.range 8).filterMap fun k =>
    if bit en k && s.pst.sync.getLsbD k != v.getLsbD k then some (Msg.pin 1 k (v.getLsbD k)) else none
  { s with pst := { s.pst with sync := v }, out := s.out ++ msgs }

/-- Entry into SAFE-HOLD ends every pulse at once and brings every enabled SYNC line to its idle level (R200). -/
def pisteHold (s : State) : State :=
  let cfg := s.reg Off.PST_SYNC_CFG
  let ended := s.pst.pulses.filter fun p => !p.sync && !p.taken
  let lvl := ended.foldl (fun (v : BitVec 16) p => v &&& ~~~(1#16 <<< p.target)) s.pst.doLevel
  let en := cfg.setWidth 8
  let idle := (cfg >>> 8).setWidth 8
  setSync ((s.pst.sync &&& ~~~en) ||| (idle &&& en)) { s with pst := { s.pst with pulses := [], doLevel := lvl } }

/-- Everything a lane reset clears in the lane's own state (R104, Table 2.6). Its next attempt to rejoin begins with the hold that starts now,
or outside OPERATIONAL and DEGRADED waits for a boundary in DEGRADED (R107). -/
def resetLane (p : Phase) (l : Lane) (s : State) : State :=
  { s with
    vot := { s.vot with lanes := s.vot.lanes.modify l fun v =>
      { Reset.laneVote with phase := p, cause := v.cause, history := v.history, portFails := v.portFails, cfg := v.cfg,
                            phaseAt := s.now, waits := !s.running } }
    regs := putC (putC s.regs (Off.VOT_PATH_MASK_DI + 4 * l.idx) 0 0) (Off.VOT_PATH_MASK_MS + 4 * l.idx) 0 0
    icus := s.icus.set l Reset.icu
    latches := s.latches.filter fun x => x.lane != some l
    loWrites := s.loWrites.filter fun x => x.lane != some l }

/-- Rejoin attempts are abandoned when the module leaves DEGRADED other than by readmission: their lanes return to RESET, uncounted, and wait for a
boundary in DEGRADED, and without AUTO for a request (R107). -/
def abandonRejoins (s : State) : State :=
  Lane.all.foldl (fun s l =>
    match (s.vot.lanes.get l).phase with
    | .boot | .selftest | .precopy | .stopcopy => (resetLane .reset l s).setLane l fun v => { v with waits := true }
    | .reset => s.setLane l fun v => { v with waits := true, requested := false }
    | _ => s) s

/-- Mode set to `m` with what every change brings: the cyclic program halts in SAFE-HOLD, Piste levels go OFF and the release
of images begins anew at entry into OPERATIONAL or DEGRADED from START-UP or SAFE-HOLD (R37, R38, R292, R348). -/
def setMode (m : Mode) (s : State) : State :=
  let old := (s.sys.mode.code, s.sub)
  let enter := (m == .operational || m == .degraded) && !s.running
  let s0 := when (s.sys.mode == .degraded && m != .degraded && m != .operational) abandonRejoins s
  let s1 := if m == .safeHold && !s.held then latchHold (pisteHold (abandonCycle s0)) else s0
  let s2 := { s1 with sys := { s1.sys with mode := m, ran := s1.sys.ran || enter } }
  let s3 := if enter then { s2 with pst := { s2.pst with doLevel := 0 }, cyc := { s2.cyc with first := true, released := false } } else s2
  let s4 := if m == .safeHold then s3 else { s3 with sys := { s3.sys with active := 0, first := 0 } }
  s4 |> modeCauses |> modeChanged old |> resolveOuts

/-- A SAFE-HOLD reason becomes active (R45 to R48): from any other mode the module enters SAFE-HOLD with it as first reason. -/
def addReason (r : Reason) (s : State) : State :=
  let b := 1#8 <<< (r.code - 1)
  if s.held then
    let old := (s.sys.mode.code, s.sub)
    modeChanged old { s with sys := { s.sys with active := s.sys.active ||| b } }
  else
    { s with sys := { s.sys with active := b, first := r.code, heldAt := s.time.tb0.time } } |> setMode .safeHold

/-- Mask of a reason code in the active set. -/
def Reason.bit (r : Reason) : BitVec 8 := 1#8 <<< (r.code - 1)

/-- A reason found while the module starts up, which only the end of VERIFY or of START-UP may lead out of; in any other mode it is active at
once (Table 2.2). -/
def findReason (r : Reason) (s : State) : State :=
  if s.sys.mode.code == 2 then { s with sys := { s.sys with found := s.sys.found ||| r.bit } } else addReason r s

/-- The reasons found take the module into SAFE-HOLD, the first in the order of R48 as first reason. -/
def enterFound (s : State) : State :=
  if s.sys.found = 0 then s
  else
    { s with sys := { s.sys with
        active := s.sys.found, found := 0, heldAt := s.time.tb0.time
        first := (reasonOrder.find? fun c => s.sys.found.getLsbD (c - 1)).getD 0 } }
    |> setMode .safeHold

/-- OPERATIONAL with three lanes in vote, DEGRADED with two. -/
def State.runMode (s : State) : Mode := if s.lanesIn.length = 3 then .operational else .degraded

/-- A SAFE-HOLD reason cleared (R46): the last reason but COMMAND adds COMMAND, or leaves by the SUPPLY_AUTO row of Table
2.2 at the next boundary, which is due when nothing is active. -/
def clearReason (r : Reason) (s : State) : State :=
  let left := s.sys.active &&& ~~~(1#8 <<< (r.code - 1))
  if s.held && s.sys.active.getLsbD (r.code - 1) then
    let old := (s.sys.mode.code, s.sub)
    let auto := r == .supply && bit (s.reg Off.SYS_START_CFG) 9 && left == 0
    let act := if left &&& 0b10111111#8 == 0 && !auto then left ||| 0b01000000#8 else left
    modeChanged old { s with sys := { s.sys with active := act } }
  else s

/-! ### Fail-silent (R33, R42) -/

/-- Records enter the circulating area, and those within 4,095 after KEPT_BASE the kept area (R500). -/
def Nand.store (p : List Rec) (n : Nand) : Nand :=
  { n with
    circulating := ((n.circulating ++ p).reverse.take 65536).reverse
    kept := n.kept ++ (p.filter fun r => (r.seq - n.keptBase).toNat < 4096) }

/-- The open page goes to NAND (R497). Every 32 pages fill an erase block; at 80 % of the rating REC_STORAGE is raised (R501). With STATE FAILED
its records are not kept (Table 16.10). -/
def commitPage (s : State) : State :=
  if s.erec.page.isEmpty then s
  else if s.erec.state == .failed then { s with erec := { s.erec with page := [] } }
  else
    let n := s.nv.nand.store s.erec.page
    let e := { n with erases := n.erases + b2n (fld (s.reg Off.REC_PAGES) 0 5 == 31) }
    bump Off.REC_PAGES { s with nv := { s.nv with nand := e }, erec := { s.erec with page := [] } }
    |> when (!s.wearWarn && decide (40000 * 7872 ≤ e.erases)) (raiseIrq Irq.REC_STORAGE)

/-- Whether a request repeats a record: TYPE and EVENT the same, OP_SECONDS within REPEAT_WINDOW; a window of 0 takes nothing as a repeat (R495,
log 120). -/
def State.repeats (s : State) (q : RecReq) (r : Rec) : Bool :=
  let w := fld (s.reg Off.REC_CFG) 0 8
  w != 0 && r.body.type == q.type && r.body.items == q.items && r.body.app == q.app && decide (q.opSec ≤ r.body.opSec + w)

/-- Whether a request folds into the newest record of the open page (R495). -/
def State.folds (s : State) (q : RecReq) (r : Rec) : Bool := s.repeats q r && decide (r.repeats < 65535) && !q.lost

/-- The newest record: of the open page or, where that is empty, of those committed. -/
def State.newestRec (s : State) : Option Rec := s.erec.page.getLast?.or s.nv.nand.circulating.getLast?

/-- Peripheral offset, in units of 64 KiB, of the block that raises a record of a type (Table 1.3): groups 01 to 0E of Table 16.3, with CLEAR of
REC and SNAPSHOT of PST, PORT_CAL of FTN, and the supply's records of SUP; after them those of SPM, which has no offset, and of host software. -/
def blockOf (type : Nat) : Nat :=
  if type = 0x0108 then 11 else if type = 0x0109 then 4 else if type = 0x0403 then 7
  else if 0x0506 ≤ type && type ≤ 0x0508 then 6
  else [19, 15, 1, 17, 3, 5, 4, 7, 2, 8, 14, 12, 9, 15, 16].getD (type / 256) 19

/-- The queued request that REC takes next: the earliest event instant, and of one instant the lowest block, then the one first asked for (R493). -/
def firstRec : List RecReq → Option RecReq
  | [] => none
  | q :: rest =>
    match firstRec rest with
    | some p => if p.at_ < q.at_ || (p.at_ == q.at_ && decide (blockOf p.type < blockOf q.type)) then some p else some q
    | none => some q

/-- Bytes of a record (Table 16.1). -/
def Rec.size (r : Rec) : Nat :=
  let e := (r.body.items.foldl (fun a i => a + 3 + i.value.length) 0) + r.body.app.length
  32 + 4 * ((e + 3) / 4) + 4 * r.body.snap.length + 4

/-- The queue's next request accepted: folded into the newest record, or a new record in the open page, which is committed
first when the record does not fit (R491, R493 to R495, R497). -/
def acceptOne (s : State) : State :=
  match firstRec s.erec.queue with
  | none => s
  | some q0 =>
    let q := { q0 with lost := s.erec.lost }
    let s1 := { s with erec := { s.erec with queue := s.erec.queue.erase q0, lost := false, tell := false } } |> when s.erec.tell (raiseIrq Irq.REC_LOST)
    match s1.erec.page.getLast? with
    | some r =>
      if s.folds q r then
        bump Off.REC_FOLDED { s1 with erec := { s1.erec with page := s1.erec.page.dropLast ++ [{ r with repeats := r.repeats + 1 }] } }
      else newRec q (s.repeats q r) s1
    | none => newRec q ((s.newestRec.map (s.repeats q)).getD false) s1
where
  newRec (q : RecReq) (same : Bool) (s : State) : State :=
    let n := s.nv.nand.newest + 1
    let seq := if n = 0 then 1 else n
    let r : Rec := { seq := seq, body := q, repeats := 0, continues := same }
    let used := s.erec.page.foldl (fun a x => a + x.size) 0
    let s1 := if used + r.size ≤ 4096 then s else commitPage s
    bump Off.REC_RECORDS
      { s1 with
        erec := { s1.erec with page := s1.erec.page ++ [r], pageAt := if s1.erec.page.isEmpty then s1.now else s1.erec.pageAt }
        nv := { s1.nv with nand := { s1.nv.nand with newest := seq, keptBase := if s1.nv.nand.keptBase = 0 then seq else s1.nv.nand.keptBase } } }

/-- Blocks of the NAND fail to program or erase: each is retired and its pages are written elsewhere; when the ring of 7,872 blocks has none left,
STATE is FAILED (R501, Table 16.10). -/
def retireBlocks (n : Nat) (s : State) : State :=
  if n = 0 then s
  else
    let all := s.nv.nand.retired + n
    { s with
      nv := { s.nv with nand := { s.nv.nand with retired := all } }
      erec := { s.erec with state := if 7872 ≤ all then .failed else s.erec.state } }
    |> bumpBy Off.REC_BAD_BLOCKS n |> raiseIrq Irq.REC_STORAGE

/-- All queued requests accepted. -/
def acceptAll (s : State) : State := (List.range s.erec.queue.length).foldl (fun s _ => acceptOne s) s

/-- The module goes fail-silent (R33, R42, R498): the record of the cause is committed, FAIL_N is asserted, lanes, hub and
slices are held in reset; the mode stays as last recorded. The output controllers keep the levels last commanded, the Piste's among them, and
act by their own time (R33). -/
def failSilent (s : State) : State :=
  if s.sys.failSilent then s else
    let s1 := commitPage (acceptAll s)
    abandonCycle
      { s1 with
        sys := { s1.sys with failSilent := true }
        isl := { s1.isl with failN := true }
        ftn := { s1.ftn with su := .stopped, leaving := false }
        pst := { Reset.piste with doLevel := s1.pst.doLevel }
        regs := s1.regs.filter fun r => !(decide (Off.PST_STAMP ≤ r.1) && decide (r.1 < 0x50000))
        chk := { s1.chk with stream := .idle, out := none, protected_ := false }
        out := s1.out ++ releases s1.syncOn ++ [.pin 2 0 true] }

/-! ### Exclusion (R102 to R106, R112) -/

/-- Cause code of a lane's last exclusion, the sequence in VOT_LANE_CAUSE, the history that R112 counts, and VOT_REJOIN_CFG as it is read now
(Table 3.5). -/
def markExclusion (l : Lane) (c : Cause) (s : State) : State :=
  let op := s.nv.opSeconds.toNat
  { s with vot := { s.vot with
      exclSeq := s.vot.exclSeq + 1
      exclAt := s.time.tb0.time
      lanes := s.vot.lanes.modify l fun v =>
        { v with cause := c.code, cfg := s.reg Off.VOT_REJOIN_CFG, history := op :: v.history.filter fun t => decide (op < t + 3600) } } }

/-- LIMIT of VOT_REJOIN_CFG reached within 3,600 s (R112). -/
def State.retires (s : State) (l : Lane) : Bool :=
  let v := s.vot.lanes.get l
  decide (max 1 (fld v.cfg 8 4) ≤ v.history.length)

/-- A lane's memories lose their power (Table 1.6). -/
def unpowerLane (l : Lane) (s : State) : State :=
  { s with mems := s.mems.set l { Reset.laneMem with powerOff := true, offAt := s.now, domainOpen := (s.mems.get l).domainOpen } }

/-- A lane wipes its secure bank (R434, R435) with a cause of Table 13.4. Whether the read-back finds an error, and the time taken within its
bound, are not the state's to say: free (log 23). On WIPE_FAIL the supervisor removes the lane's power (R436). -/
def wipeLane (l : Lane) (cause : Nat) (s : State) : State :=
  let m := s.mems.get l
  if m.powerOff || m.domainOpen then s
  else
    let (w, s1) := fresh s
    let fail := bit w 31
    let st : Secure := if fail then .wipeFail else .wiped
    let s2 := { s1 with mems := s1.mems.set l { m with
      secure := st, wipeCause := cause, wipeSeq := m.wipeSeq + 1, wipeTime := w.toNat % 2001
      spad := m.spad.filter fun b => !(decide (0x3F0000 ≤ b.1) && decide (b.1 < 0x400000)) } }
    s2 |> bumpLane l Off.SPM_WIPE_CNT |> record 0x0302 [iU8 1 cause, iU8 2 l.idx, iU8 3 st.code]
       |> when fail (unpowerLane l)

/-- A lane leaves the vote (R103 to R106): two lanes left are fail-silent; otherwise the lane is held in reset, recorded and
reported, and OPERATIONAL passes to DEGRADED. A lane not in vote is not excluded again. -/
def excludeLane (l : Lane) (c : Cause) (s : State) : State :=
  if !s.inVote l then s
  else if s.lanesIn.length < 3 then
    failSilent (record 0x0201 [iU8 1 l.idx, iU8 2 c.code] s)
  else
    let s1 := markExclusion l c s
    let ret := s1.retires l
    let s2 := resetLane (if ret then .retired else .reset) l s1
      |> wipeLane l 4
      |> bump (Off.VOT_EXCL_CNT + 4 * l.idx)
      |> record 0x0201 [iU8 1 l.idx, iU8 2 c.code]
      |> when ret (record 0x0202 [iU8 1 l.idx])
      |> raiseIrq Irq.VOT_EXCLUDED
    if s2.sys.mode == .operational then setMode .degraded s2 else s2

/-- No majority can be formed: recorded, and the module goes fail-silent (R73, R74, R76, R97, R100, R106). -/
def noMajority (stream : Nat) (seq : Word) (s : State) : State := failSilent (record 0x0205 [iU8 1 stream, iU32 2 seq.toNat] s)

/-- A lane leaves the vote for a difference on a stream; of two lanes neither can be told to be right (R106). -/
def outvote (l : Lane) (c : Cause) (stream : Nat) (seq : Word) (s : State) : State :=
  if s.inVote l && decide (s.lanesIn.length < 3) then noMajority stream seq s else excludeLane l c s

/-- A minority event of a lane on a target of SAFETY or STANDARD class (R102, R103): the run of the class grows with the first
such event of a cycle and, at its limit, excludes the lane. -/
def minority (l : Lane) (safety : Bool) (c : Cause) (stream : Nat) (seq : Word) (s : State) : State :=
  let v := s.vot.lanes.get l
  if !v.inVote then s
  else if safety then
    let run := if v.safetyHit then v.safetyRun else v.safetyRun + 1
    let s1 := s.setLane l fun v => { v with safetyRun := run, safetyHit := true }
    if decide (max 1 (fld (s.reg Off.VOT_CFG) 0 2) ≤ run) then outvote l c stream seq s1 else s1
  else
    let run := if v.stdHit then v.stdRun else v.stdRun + 1
    let s1 := s.setLane l fun v => { v with stdRun := run, stdHit := true }
    if decide (max 1 (fld (s.reg Off.VOT_CFG) 4 4) ≤ run) then outvote l c stream seq s1 else s1

/-- A minority event shown, counted, reported and recorded; KIND of Table 3.10. -/
def showMinority (l : Lane) (stream kind addr : Nat) (seq : Word) (late : Bool) (s : State) : State :=
  s |> bump (Off.VOT_DIS_CNT + 4 * l.idx)
    |> setReg Off.VOT_DIS_ADDR (BitVec.ofNat 32 (addr % 2097152))
    |> setReg Off.VOT_DIS_INFO (mkWord [(0, stream), (6, kind), (8 + l.idx, 1), (11, b2n late), (16, seq.toNat % 65536)])
    |> raiseIrq (if kind = 3 then Irq.VOT_DIGEST_MISMATCH else Irq.VOT_DISAGREE)
    |> record (if kind = 3 then 0x0206 else 0x0204) [iU8 1 l.idx, iU32 2 (addr % 2097152), iU8 3 kind]

/-- A minority event, and what it counts towards; `safety` is the class of its target. -/
def minorityEvent (l : Lane) (stream kind addr : Nat) (seq : Word) (late safety : Bool) (s : State) : State :=
  s |> showMinority l stream kind addr seq late |> minority l safety (if kind = 3 then .digest else .disagree) stream seq

/-- Lanes in vote whose copy of a lane-local configuration word differs from the majority (R125, R286, R416). -/
def State.odd (s : State) (off : Nat) : List Lane :=
  s.lanesIn.filter fun l => s.reg (laneKey l off) != s.maj off

/-- The commit of a lane-local word, a voted write on `stream` as well (R286, R416): no two lanes alike are no majority (R74, R76), and a lane
that differs is a SAFETY-class minority (R102). -/
def oddMinority (stream off : Nat) (s : State) : State :=
  let vs := s.lanesIn.map fun l => s.reg (laneKey l off)
  if decide (2 ≤ vs.length) && (agreedOf vs).isNone then noMajority stream 0 s
  else (s.odd off).foldl (fun s l => minorityEvent l stream 0 off 0 false true s) s

/-! ### Windows (R67, R77, R78) -/

/-- LATE_LIMIT in ns. -/
def State.lateLimit (s : State) : Nat := 10000 * max 2 (min 50 (fld (s.reg Off.VOT_CFG) 16 8))

/-- The window of R67, ns. -/
def voteWindow : Nat := 2000

/-- An arrival at `x` is out of window of a majority access at `t`: late or early (R67). -/
def outWindow (t x : Nat) : Bool := decide (t + voteWindow < x) || decide (x + voteWindow < t)

/-- An out-of-window access of a lane (R77). -/
def skewEvent (l : Lane) (s : State) : State :=
  let run := (s.vot.lanes.get l).skewRun + 1
  let s1 := s.setLane l (fun v => { v with skewRun := run }) |> bump (Off.VOT_SKEW_CNT + 4 * l.idx) |> raiseIrq Irq.VOT_SKEW
  if decide (max 1 (fld (s.reg Off.VOT_CFG) 8 8) ≤ run) then excludeLane l .late s1 else s1

/-- The window of an access: out of it, or inside, which ends the lane's run. -/
def windowOfAccess (l : Lane) (out : Bool) (s : State) : State :=
  if out then skewEvent l s else s.setLane l fun v => { v with skewRun := 0 }

/-- Lanes named by one event leave the vote with cause LATE; fewer than two left is fail-silent, each lane recorded (R78, R105, R106). -/
def excludeLate (ls : List Lane) (s : State) : State :=
  if ls.isEmpty then s
  else if s.lanesIn.length < ls.length + 2 then failSilent (ls.foldl (fun s l => record 0x0201 [iU8 1 l.idx, iU8 2 Cause.late.code] s) s)
  else ls.foldl (fun s l => excludeLane l .late s) s

/-- A fault of the hub fabric, or data found corrupted in the network controller, the bridge or DMA (R27, R35, Table 1.9). -/
def hubFail (s : State) : State :=
  if s.up then failSilent (record 0x0107 [] { s with sys := { s.sys with hubFault := true } }) else s

/-! ### End of START-UP, commits at a boundary -/

/-- Reason COMMAND at a start: TARGET asks for COMMISSIONING, no valid CPF is loaded, or no copy of the store was good (Table 2.4, R464). -/
def findCommand (s : State) : State :=
  when (fld (s.reg Off.SYS_START_CFG) 0 2 != 0 || !s.sys.cpfValid || s.sys.storeBad) (findReason .command) s

/-- Reasons that the supervisor holds: an overvoltage or failed hold-up test without a pass since, and a tamper event (Table 2.4). -/
def findKept (s : State) : State := s |> when s.sys.overVolt (findReason .supply) |> when s.nv.tamper (findReason .tamper)

/-- End of START-UP (Table 2.2): SAFE-HOLD with the reasons found meanwhile (log 105), SAFE-HOLD.COMMISSIONING when COMMAND is the only one;
otherwise the first cycle start will enter OPERATIONAL or DEGRADED. -/
def endStartUp (s : State) : State := enterFound (findCommand (findKept { s with sys := { s.sys with startDone := true } }))

/-- Checks of CYC_CFG (R285): rejection cause, 0 when it passes. -/
def State.cycCheck (s : State) (v : Word) : Nat :=
  let k := max 1 (fld v 8 7)
  let phase := fld v 16 6
  let cp := s.reg (Off.FTN_CP + 4 * fld v 3 5)
  let rep := 2 ^ fld cp 2 3
  if fld v 0 2 == 0 && s.ftnNode && decide (k * cycNs (s.reg Off.FTN_MATRIX_CFG) < 250000) then 1
  else if decide (64 < k) || decide (k ≤ phase) then 2
  else if fld v 0 2 == 0 && s.ftnNode && (!bit cp 1 || k % rep != 0 || fld cp 5 6 != phase % rep) then 3
  else 0

/-- Whether a local block of a LOCAL_CFG value lies inside the lengths of an IMG_CFG value (R299). -/
def localInside (img loc : Word) : Bool :=
  (!bit loc 8 || decide (256 * fld loc 0 8 + 256 ≤ 64 * fld img 0 11)) &&
  (!bit loc 24 || decide (256 * fld loc 16 8 + 64 ≤ 64 * fld img 16 11))

/-- Both lengths of an IMG_CFG value are in range (Table 9.10). -/
def lengthsOk (v : Word) : Bool :=
  decide (1 ≤ fld v 0 11) && decide (fld v 0 11 ≤ 1024) && decide (1 ≤ fld v 16 11) && decide (fld v 16 11 ≤ 1024)

/-- The value that a register has after the boundary, unless its check fails. -/
def State.nextValue (s : State) (key : Nat) : Word :=
  match s.shadows.find? fun x => x.key == key with
  | some x => x.pending
  | none => s.reg key

/-- Check of a pending value at its commit (R332): the cause of CYC_CFG_STATUS.REJECT, 0 when it commits. Lengths and positions that commit at
one edge are held against one another (R331). -/
def State.commitCheck (s : State) (key : Nat) (v : Word) : Nat :=
  let off := key % 16777216
  let img := key - off + Off.CYC_IMG_CFG
  let loc := key - off + Off.CYC_LOCAL_CFG
  let fits (v : Word) := localInside v (s.nextValue loc) || localInside v (s.reg loc)
  if off = Off.CYC_CFG then s.cycCheck v
  else if off = Off.CYC_FREE_PERIOD then if 250 ≤ fld v 0 18 && fld v 0 18 ≤ 256000 then 0 else 2
  else if off = Off.CYC_IMG_CFG then if !lengthsOk v then 2 else if fits v then 0 else 4
  else if off = Off.CYC_LOCAL_CFG then
    let next := s.nextValue img
    if localInside (if lengthsOk next && fits next then next else s.reg img) v then 0 else 4
  else 0

/-- CYC_CFG_REJECT with its cause, in the engines of the lanes named (R285, R299, R332). -/
def cycReject (lanes : List Lane) (cause : Nat) (s : State) : State :=
  raiseIrq Irq.CYC_CFG_REJECT
    (lanes.foldl (fun s l => { s with cyc := { s.cyc with lanes := s.cyc.lanes.modify l fun c =>
      { c with reject := cause, rejSeq := c.rejSeq + 1 } } }) s)

/-- Lane of a lane-local register's key. -/
def keyLane (key : Nat) : Lane :=
  match key / 16777216 with
  | 2 => .b
  | 3 => .c
  | _ => .a

/-- One pending value at its boundary, `c` being the outcome of its check: active, or discarded; then the held value becomes pending (R326, R327,
R332). A CYC_CFG that passes ends the absence of the cycle source (R285). Station configurations stand in the cycle engine's
own table. -/
def commitOne (c : Nat) (x : Shadow) (s : State) : State :=
  let s1 := if c = 0 then setReg x.key x.pending s else cycReject [keyLane x.key] c s
  let s2 := if c = 0 && x.key % 16777216 == Off.CYC_CFG then { s1 with cyc := { s1.cyc with absent := false } } else s1
  shadowNext x.key s2

/-- Every pending value of one boundary commits at one edge (R331). -/
def commitBoundary (u : Update) (s : State) : State :=
  (s.shadows.filter fun x => boundaryOf (x.key % 16777216) == u).foldl (fun t x => commitOne (s.commitCheck x.key x.pending) x t) s

/-! ### Resets (Table 2.6) -/

/-- The wipes of a module reset, kept by the supervisor as records until REC is ready (Table 13.4, R435, R498); they end WIPED before the
reset is released, and the state then reads EMPTY (Table 13.7). -/
def resetWipes (s : State) : State :=
  Lane.all.foldl (fun s l => requestRec (s.request 0x0302 [iU8 1 4, iU8 2 l.idx, iU8 3 3] [] []) s) s

/-! ### Sessions (R484) -/

/-- Opening (1) and ending (0) a session are recorded with its role and path, and raise KSP_SESSION. -/
def sessionEvent (x : Session) (opened : Nat) (s : State) : State :=
  s |> record 0x0D04 [iU8 1 x.role, iOct 2 (pathBytes x.path), iU8 3 opened] |> raiseIrq Irq.KSP_SESSION

/-- The sessions that `p` picks end. -/
def endSessions (p : Session → Bool) (s : State) : State :=
  let gone := s.ksp.sessions.filter p
  let s1 := { s with ksp := { s.ksp with sessions := s.ksp.sessions.filter fun x => !p x } }
  gone.foldl (fun s x => sessionEvent x 0 s) s1

/-- What REC has accepted survives every reset (spec/16): queued requests are accepted and the open page is committed. -/
def flushRecords (s : State) : State := if s.erec.state == .notReady then s else commitPage (acceptAll s)

/-- The open cause SUPERVISOR, which only a power-on reset clears (Table 10.4, R337). -/
def keptGroups (gs : List Group) : List Group :=
  List.zipWith (fun (g x : Group) => { g with causes := g.causes ||| (x.causes &&& 128#9) }) Reset.dio.groups gs

/-- What a module reset and a wake keep: storage, the supervisor island with the RTC, and the commands still waiting; the commands come
from outside the block. Time goes on. `cause` is the code of R63. A SUPPLY condition is the supervisor's (Table 2.4). -/
def restart (cause : Nat) (s0 : State) : State :=
  let s := flushRecords (when s0.up (endSessions fun _ => true) s0)
  { State.reset with
    pending := s.pending
    now := s.now
    free := s.free
    out := s.out ++ releases s.syncOn
    nv := { s.nv with resetCount := s.nv.resetCount + 1 }
    isl := { s.isl with resetCause := cause, failN := false, claimN := false }
    sys := { Reset.sys with recovery := decide (3 ≤ s.isl.startResets), startAt := s.now, overVolt := s.sys.overVolt || s.sys.active.getLsbD 3 }
    upd := { Reset.upd with scanOpen := s.upd.scanOpen, debugOpen := s.upd.debugOpen }
    ksp := { Reset.ksp with lockouts := s.ksp.lockouts, active := s.ksp.active }
    chk := { Reset.chk with presentN := s.chk.presentN, pFail := s.chk.pFail, pClaim := s.chk.pClaim, mramOk := s.chk.mramOk,
                            events := s.chk.events, told := s.chk.told }
    dio := { Reset.dio with groups := keptGroups s.dio.groups }
    tlm := { Reset.tlm with excursion := s.tlm.excursion } }

/-- START-UP.BOOT is entered anew from the mode and sub-state `old` (R36); the record waits at the supervisor until REC is ready. -/
def bootEntered (old : Nat × Nat) (s : State) : State := modeChanged old s

/-- A module reset (Table 2.6): the lanes wipe their secure banks, and START-UP.BOOT follows. -/
def moduleReset (cause : Nat) (s : State) : State := bootEntered (s.sys.mode.code, s.sub) (resetWipes (restart cause s))

end Sys2Proof.Machine
end

