-- ==== Sys2Proof/Machine/Bridge.lean ====
section
/-! DEFINITION. Commands of the Culvert bridge and of the DMA (spec/14). -/
namespace Sys2Proof.Machine

/-! ### Packets and links -/

/-- Offsets 0 to 15 + LENGTH of Table 14.1. -/
def packetBytes (p : Packet) : List Byte :=
  beBytes 1 p.type ++ beBytes 1 p.code ++ beBytes 2 p.tag ++ beBytes 2 p.seq ++ beBytes 2 p.length ++ beBytes 8 p.addr ++ p.payload

def packetCrc (p : Packet) : Word := crc32c (packetBytes p)

def State.culvert (s : State) (l : Nat) : Culvert :=
  match l with
  | 0 => s.brg.link0
  | 1 => s.brg.link1
  | _ => Reset.culvert

def setCulvert (l : Nat) (f : Culvert → Culvert) (s : State) : State :=
  match l with
  | 0 => { s with brg := { s.brg with link0 := f s.brg.link0 } }
  | 1 => { s with brg := { s.brg with link1 := f s.brg.link1 } }
  | _ => s

/-- A packet leaves on link `l` with the next link sequence and its CRC; except in STREAM it stays unacknowledged (R442). -/
def linkSend (l : Nat) (type code tag addr len : Nat) (payload : List Byte) (s : State) : State :=
  let c := s.culvert l
  let p0 : Packet := { type := type, code := code, tag := tag, seq := c.txSeq, length := len, addr := addr, payload := payload, crc := 0 }
  let p := { p0 with crc := packetCrc p0 }
  s |> setCulvert l (fun c => { c with txSeq := (c.txSeq + 1) % 65536,
                                       unacked := if c.state == .stream then c.unacked else c.unacked ++ [⟨p, 0, s.now⟩] })
    |> send (.packet l p)

/-- A packet that arrives on link `l` in UP passes when its CRC, its length of at most 4,096 and its sequence hold (R442). In STREAM only records
travel, and a standby partner sends nothing (R440). -/
def State.packetOk (s : State) (l : Nat) (p : Packet) : Bool :=
  let c := s.culvert l
  s.up && decide (l < 2) && c.state == .up && p.crc == packetCrc p && decide (p.length ≤ 4096) &&
    p.payload.length == (if p.type == 3 then 0 else p.length) && p.seq == c.rxSeq

/-- The receiver's side of R442 for a packet that passes: LINK_ACK. -/
def linkTake (l : Nat) (p : Packet) (s : State) : State :=
  let a0 : Packet := { type := 10, code := 0, tag := 0, seq := p.seq, length := 0, addr := 0, payload := [], crc := 0 }
  send (.packet l { a0 with crc := packetCrc a0 }) (setCulvert l (fun c => { c with rxSeq := (c.rxSeq + 1) % 65536 }) s)

/-- `f` after a packet that passes; a packet that does not is discarded. -/
def onPacket (l : Nat) (p : Packet) (f : State → State) (s : State) : State := if s.packetOk l p then f (linkTake l p s) else s

/-- What a link returns to the stream that waits for it. -/
def answerStream (stream : Nat) (err : Bool) (data : List Byte) (s : State) : State :=
  { s with brg := { s.brg with answers := s.brg.answers ++ [⟨stream, err, data⟩] } }

/-- What a stream waits for over a link has come, a read's value or a non-posted write's answer, or a bus error: a voted read is sampled now,
once, and the answer goes to every lane that has issued the access (R79, R438, R447); a lane that issues it later finds it kept (R82). -/
def readReturns (stream : Nat) (err : Bool) (data : List Byte) (s : State) : State :=
  let v := BitVec.ofNat 32 (leNat (data.take 4))
  let mine (k : KeptAccess) : Bool := k.stream == stream && k.awaits
  let ls := match s.vot.kept.find? mine with
    | some k => s.lanesIn.filter k.lanes.contains
    | none => s.lanesIn
  ls.foldl (fun s l => answer l (stream / 8) v err s)
    { s with vot := { s.vot with kept := s.vot.kept.map fun k => if mine k then { k with awaits := false, value := if k.write then k.value else v, busError := err } else k } }
  |> answerStream stream err data

/-- A voted read, or a non-posted voted write, of the stream is outstanding on a link. -/
def State.linkWaits (s : State) (stream : Nat) : Bool :=
  ((s.brg.link0.reads ++ s.brg.link1.reads).any fun r => r.stream == stream && r.dma.isNone) ||
  ((s.brg.link0.posted ++ s.brg.link1.posted).any fun w => w.stream == stream && w.np && w.dma.isNone)

/-- The link may carry traffic: BRG_LINK_CFG, as read at start-up, enables it (R437). -/
def State.linkOn (s : State) (l : Nat) : Bool := bit s.brg.cfg l

/-- The next tag of a link is given out; answers for it are no late ones any more (R444). -/
def nextTag (l : Nat) (s : State) : State :=
  setCulvert l (fun c => { c with nextTag := (c.nextTag + 1) % 4096, failedTags := c.failedTags.filter fun t => t != c.nextTag }) s

/-- BRG_CFG.ACK_TIMEOUT in ns: 1 to 100 units of 100 µs, clamped (Table 14.8). -/
def State.ackLimit (s : State) : Nat := 100000 * min 100 (max 1 (fld (s.reg Off.BRG_CFG) 16 8))

/-- BRG_CFG.RETRY_GAP in ns. -/
def State.retryGap (s : State) : Nat := 1000 * max 1 (fld (s.reg Off.BRG_CFG) 8 4)

/-! ### Windows (R438, R447) -/

/-- Link and remote address of a Culvert window address. -/
def windowOf (addr : Nat) : Option (Nat × Nat) :=
  if 0x3000000000 ≤ addr && addr < 0x3400000000 then
    some ((addr - 0x3000000000) / 0x200000000, (addr - 0x3000000000) % 0x200000000)
  else none

/-- The address lies in an enabled non-posted window of its link. -/
def State.npWindow (s : State) (l remote : Nat) : Bool :=
  (List.range 8).any fun w =>
    let cfg := s.reg (Off.BRG_NP_CFG + 16 * w)
    let base := (s.reg (Off.BRG_NP_BASE_LO + 16 * w)).toNat + 4294967296 * fld (s.reg (Off.BRG_NP_BASE_HI + 16 * w)) 0 1
    let k := fld cfg 4 6
    bit cfg 0 && b2n (bit cfg 1) == l && decide (12 ≤ k) && decide (k ≤ 33) && remote / 2 ^ k == base / 2 ^ k

/-- A pair member that does not hold the current claim (R351, R441). -/
def State.fenced (s : State) : Bool := bit (s.reg Off.CHK_CFG) 0 && !s.chk.holder

/-! ### Write failures (R445) -/

/-- Number of failures of a stream since its last fence, advanced. -/
def countFailed (stream : Nat) (s : State) : State :=
  { s with brg := { s.brg with failed := put s.brg.failed stream ((look s.brg.failed stream).getD 0 + 1) } }

/-- A DMA channel stops with an error (R454). -/
def dmaStop (c err : Nat) (s : State) : State :=
  if (s.dmas.getD c Reset.dma).state == .running then
    { s with dmas := modAt s.dmas c fun d => { d with state := .error, error := err, seq := d.seq + 1 } }
    |> bump Off.DMA_ERRORS |> raiseIrq Irq.DMA_ERROR
  else s

/-- A failed link write: FIFO entry, interrupt, record (R445); its stream, non-posted writer or DMA channel learns of it (R446, R447, R454). -/
def failWrite (l : Nat) (w : Posted) (code : Nat) (s : State) : State :=
  let isDma := w.dma.isSome
  let head := mkWord [(0, w.tag), (12, l), (13, code), (16, if isDma then 0 else w.stream), (22, if isDma then 0 else w.lanes.toNat),
                      (25, w.dma.getD 0), (29, b2n isDma), (30, b2n s.brg.lost)]
  let full := decide (16 ≤ s.brg.fifo.length)
  let s1 := if full then { s with brg := { s.brg with lost := true } } |> bump Off.BRG_FAIL_LOST |> raiseIrq Irq.BRG_FIFO_OVERFLOW
    else { s with brg := { s.brg with fifo := s.brg.fifo ++ [⟨head, w.addr⟩], lost := false } }
  s1 |> bump Off.BRG_WRITE_FAILS |> raiseIrq Irq.BRG_WRITE_FAIL
    |> record 0x0C01 [iU64 1 w.addr, iU8 2 l, iU16 3 w.tag, iU8 4 code, iU8 5 w.stream, iU8 6 w.lanes.toNat, iU8 7 (w.dma.getD 255)]
    |> when (!isDma) (countFailed w.stream)
    |> when (w.np && !isDma) (readReturns w.stream true [])
    |> (match w.dma with
        | some c => dmaStop c 3
        | none => id)

/-- A write that fails locally: a later answer for its tag is late (R444). -/
def failLocally (l : Nat) (w : Posted) (code : Nat) (s : State) : State :=
  failWrite l w code (setCulvert l (fun c => { c with failedTags := w.tag :: c.failedTags }) s)

/-- A write to link 1 is refused for want of the claim (R441). -/
def State.refuses (s : State) (l : Nat) : Bool := l == 1 && bit s.brg.cfg 4 && s.fenced

/-- Outstanding writes a link has room for (R443). -/
def State.room (s : State) (l : Nat) : Nat := 2048 - (s.culvert l).posted.length

/-- A write to link `l`: tagged and sent, posted or non-posted; or failed at once (R440, R441, R443, R447). -/
def linkWrite (l remote stream : Nat) (lanes : BitVec 3) (dma : Option Nat) (data : List Byte) (s : State) : State :=
  let c := s.culvert l
  let np := s.npWindow l remote
  let w : Posted := ⟨c.nextTag, remote, stream, lanes, dma, np, s.now, data, none⟩
  if s.room l = 0 then s
  else
    let s1 := nextTag l s
    if s.refuses l then failLocally l w 4 s1
    else if c.state != .up then failLocally l w 6 s1
    else s1 |> setCulvert l (fun c => { c with posted := c.posted ++ [w] }) |> linkSend l (if np then 2 else 1) 0 w.tag remote data.length data

def windowWrite (stream : Nat) (lanes : BitVec 3) (addr : Nat) (data : List Byte) (s : State) : State :=
  match windowOf addr with
  | some (l, r) => if s.up && decide (data.length ≤ 4096) then linkWrite l r stream lanes none data s else s
  | none => s

/-- A committed access waits in the Sluice: a write for room on its link (R443), a fence for the stream's earlier link writes (R446). -/
def State.linkBusy (s : State) (stream addr : Nat) (write : Bool) : Bool :=
  if write then
    match windowOf addr with
    | some (l, _) => s.room l = 0
    | none => false
  else addr == 0x2000000000 + Off.BRG_FENCE && (s.brg.link0.posted ++ s.brg.link1.posted).any (fun w => w.stream == stream && w.dma.isNone)

/-- A write of a window. `corrupt`: the check at the receiving end finds its data corrupted inside the Culvert (R35). -/
def execBridgeWrite (stream : Nat) (lanes : BitVec 3) (addr : Nat) (data : List Byte) (corrupt : Bool) (s : State) : Host.Outcome State Fault Refusal :=
  .next (if corrupt then hubFail s else windowWrite stream lanes addr data s)

def execNpWrite (stream : Nat) (lanes : BitVec 3) (addr : Nat) (data : List Byte) (s : State) : Host.Outcome State Fault Refusal :=
  .next (windowWrite stream lanes addr data s)

/-! ### Answers to writes (R443, R444, R447) -/

/-- A tag not later than TAG, modulo 4,096. -/
def tagUpTo (tag t : Nat) : Bool := decide ((tag + 4096 - t) % 4096 < 2048)

/-- WR_ACK: a non-posted tag alone, or every posted tag up to TAG (Table 14.2); for a tag that has failed locally it is late (R444). -/
def writeAck (l tag : Nat) (s : State) : State :=
  let c := s.culvert l
  if c.failedTags.contains tag then bump Off.BRG_LATE_ANSWERS s
  else match c.posted.find? fun w => w.np && w.tag == tag with
    | some w => s |> setCulvert l (fun c => { c with posted := c.posted.erase w }) |> when w.dma.isNone (readReturns w.stream false [])
    | none => setCulvert l (fun c => { c with posted := c.posted.filter fun w => w.np || !tagUpTo tag w.tag }) s

/-- WR_ERROR: the outstanding write of a tag fails; for a tag that has failed locally it is late (R444, R445). -/
def writeError (l tag code : Nat) (s : State) : State :=
  let c := s.culvert l
  if c.failedTags.contains tag then bump Off.BRG_LATE_ANSWERS s
  else match c.posted.find? fun w => w.tag == tag with
    | some w => s |> setCulvert l (fun c => { c with posted := c.posted.erase w }) |> failWrite l w code
    | none => s

/-- ACK_TIMEOUT has passed since the write of a tag: it fails locally (R444). -/
def ackExpiry (l tag : Nat) (s : State) : State :=
  match (s.culvert l).posted.find? fun w => w.tag == tag with
  | some w => advanceTo (w.at_ + s.ackLimit) s |> setCulvert l (fun c => { c with posted := c.posted.erase w }) |> failLocally l w 5
  | none => s

/-! ### Link acknowledgement and state (R437, R440, R442) -/

def execLinkAck (l : Nat) (p : Packet) (s : State) : Host.Outcome State Fault Refusal :=
  .next (
    if s.up && decide (l < 2) && p.type == 10 && p.crc == packetCrc p then
      setCulvert l (fun c => { c with unacked := c.unacked.filter fun u => decide (32768 ≤ (p.seq + 65536 - u.packet.seq) % 65536) }) s
    else s)

/-- A read over a link fails: its stream has a bus error in every lane, its DMA channel stops (R448, R454). -/
def failRead (r : Reading) (s : State) : State :=
  match r.dma with
  | some c => dmaStop c 4 s
  | none => readReturns r.stream true [] s

/-- Every outstanding tag of a link fails with NO_LINK (R442). -/
def failAll (l : Nat) (s : State) : State :=
  let c := s.culvert l
  c.reads.foldl (fun s r => failRead r s)
    (c.posted.foldl (fun s w => failLocally l w 6 s) (setCulvert l (fun c => { c with posted := [], unacked := [], reads := [] }) s))

/-- A link takes a state: a change is reported, an entry into DOWN is counted, and what is outstanding fails where the link carries no answers
any more. -/
def linkState (l : Nat) (v : LinkState) (s : State) : State :=
  if (s.culvert l).state == v then s else
    s |> setCulvert l (fun c => { c with state := v }) |> raiseIrq Irq.BRG_LINK_CHG
      |> when (v == .down) (bump Off.BRG_LINK_DOWNS) |> when (v == .down || v == .stream || v == .off) (failAll l)

/-- A packet without LINK_ACK is resent after 20 µs, up to 3 times; after the fourth failure the link is DOWN (R442). -/
def linkResend (l seq : Nat) (s0 : State) : State :=
  match (s0.culvert l).unacked.find? fun u => u.packet.seq == seq with
  | some u =>
    let s := advanceTo (u.at_ + 20000) s0
    if u.tries < 3 then
      s |> setCulvert l (fun c => { c with unacked := c.unacked.map fun x => if x == u then { x with tries := x.tries + 1, at_ := s.now } else x })
        |> bump Off.BRG_RESENDS |> send (.packet l u.packet)
    else linkState l .down s
  | none => s0

def linkCode : Nat → LinkState
  | 0 => .off
  | 1 => .down
  | 2 => .training
  | 3 => .up
  | _ => .stream

/-! ### Fence (R446) -/

/-- A fence read completes once nothing of the stream is outstanding on either link: it takes the stream's failures since its last fence. -/
def brgFenceOp (stream : Nat) (s : State) : State :=
  if (s.brg.link0.posted ++ s.brg.link1.posted).any (fun w => w.stream == stream && w.dma.isNone) then s
  else
    let n := (look s.brg.failed stream).getD 0
    let v := mkWord [(0, b2n (n != 0)), (8, min 255 n)]
    { s with brg := { s.brg with fence := v, failed := del s.brg.failed stream } }
    |> answerStream stream false (leBytes 4 v.toNat) |> answerAll (stream / 8) v false

def execBrgFenceRead (stream : Nat) (s : State) : Host.Outcome State Fault Refusal := .next (when s.up (brgFenceOp stream) s)

/-! ### Outbound reads (R448) -/

/-- RD_REQ of a read, for a stream or a DMA channel (R448). -/
def sendRead (l remote len stream : Nat) (dma : Option Nat) (s : State) : State :=
  let t := (s.culvert l).nextTag
  s |> nextTag l |> setCulvert l (fun c => { c with reads := c.reads ++ [⟨t, remote, len, stream, 0, false, s.now, dma⟩] })
    |> linkSend l 3 0 t remote len []

/-- A voted read of the window goes out as RD_REQ; without a link it ends in a bus error at once. -/
def windowRead (stream addr len : Nat) (s : State) : State :=
  match windowOf addr with
  | some (l, r) =>
    if !s.up then s
    else if (s.culvert l).state != .up then readReturns stream true [] s
    else sendRead l r len stream none s
  | none => s

def execBridgeRead (stream addr len : Nat) (s : State) : Host.Outcome State Fault Refusal := .next (when s.up (windowRead stream addr len) s)

/-- A read ends in a bus error, or stops its DMA channel, after RETRY_LIMIT answers of RETRY or without an answer (R448, R454). -/
def exhaust (l : Nat) (r : Reading) (s : State) : State :=
  s |> setCulvert l (fun c => { c with reads := c.reads.erase r }) |> failRead r
    |> bump Off.BRG_READ_EXHAUSTED_CNT |> raiseIrq Irq.BRG_READ_EXHAUSTED
    |> record 0x0C02 [iU64 1 r.addr, iU8 2 l, iU16 3 r.tag, iU8 4 r.stream]

/-- RETRY: the read's count grows, and a write is to be repeated later (Table 14.2, R448, R451). -/
def retryOp (l tag : Nat) (s : State) : State :=
  match (s.culvert l).reads.find? fun r => r.tag == tag with
  | some r =>
    if max 1 (fld (s.reg Off.BRG_CFG) 0 8) ≤ r.retries + 1 then exhaust l r s
    else setCulvert l (fun c => { c with reads := c.reads.map fun x =>
      if x == r then { x with retries := x.retries + 1, answered := true, at_ := s.now } else x }) s
  | none => setCulvert l (fun c => { c with posted := c.posted.map fun w => if w.tag == tag then { w with retryAt := some s.now } else w }) s

def execRetry (l : Nat) (p : Packet) (s : State) : Host.Outcome State Fault Refusal := .next (onPacket l p (when (p.type == 5) (retryOp l p.tag)) s)

/-- A read is repeated RETRY_GAP after a RETRY, and exhausted when ACK_TIMEOUT has brought no answer (R448); a write that had RETRY is repeated after
the same gap. -/
def repeatOp (l tag : Nat) (s : State) : State :=
  match (s.culvert l).reads.find? fun r => r.tag == tag with
  | some r =>
    if r.answered then
      let s1 := advanceTo (r.at_ + s.retryGap) s
      s1 |> setCulvert l (fun c => { c with reads := c.reads.map fun x => if x == r then { x with answered := false, at_ := s1.now } else x })
        |> linkSend l 3 0 r.tag r.addr r.len []
    else exhaust l r (advanceTo (r.at_ + s.ackLimit) s)
  | none =>
    match (s.culvert l).posted.find? fun w => w.tag == tag && w.retryAt.isSome with
    | some w =>
      advanceTo (w.retryAt.getD 0 + s.retryGap) s
      |> setCulvert l (fun c => { c with posted := c.posted.map fun x => if x == w then { x with retryAt := none } else x })
      |> linkSend l (if w.np then 2 else 1) 0 w.tag w.addr w.data.length w.data
    | none => s

def execRdReqRepeat (l tag : Nat) (s : State) : Host.Outcome State Fault Refusal :=
  .next (when (s.up && (s.culvert l).state == .up) (repeatOp l tag) s)

def execUnsupported (l : Nat) (p : Packet) (s : State) : Host.Outcome State Fault Refusal :=
  .next (onPacket l p (when (p.type == 9) fun s =>
    match (s.culvert l).reads.find? fun r => r.tag == p.tag with
    | some r => s |> setCulvert l (fun c => { c with reads := c.reads.erase r }) |> failRead r
    | none => writeError l p.tag 1 s) s)

/-! ### Inbound requests (R439, R449 to R451) -/

/-- Byte of the exchange area: registers of 4 bytes, least significant first. -/
def State.xbyte (s : State) (a : Nat) : Byte := BitVec.ofNat 8 ((s.reg (Off.BRG_XAREA + a / 4 * 4)).toNat >>> (8 * (a % 4)))

def State.xread (s : State) (a n : Nat) : List Byte := (List.range n).map fun i => s.xbyte (a + i)

def xwriteByte (a : Nat) (b : Byte) (s : State) : State :=
  let k := Off.BRG_XAREA + a / 4 * 4
  let sh := 8 * (a % 4)
  setReg k ((s.reg k &&& ~~~(255#32 <<< sh)) ||| ((b.setWidth 32) <<< sh)) s

/-- Held or pending fetches that a write to a range of the exchange area discards (R450). -/
def dropFetches (a n : Nat) (s : State) : State :=
  let keep := fun (c : Culvert) => { c with fetches := c.fetches.filter fun f => decide (f.addr + f.len ≤ a) || decide (a + n ≤ f.addr) }
  setCulvert 1 keep (setCulvert 0 keep s)

/-- Bytes written into the exchange area. -/
def xwrite (a : Nat) (bs : List Byte) (s : State) : State :=
  dropFetches a bs.length ((bs.zipIdx).foldl (fun s x => xwriteByte (a + x.2) x.1 s) s)

/-- The request lies in the exchange area. -/
def inXarea (addr len : Nat) : Bool := decide (addr + len ≤ 0x8000)

/-- RETRY to the far side. -/
def sendRetry (l : Nat) (p : Packet) (s : State) : State := linkSend l 5 0 p.tag p.addr 0 [] (bump Off.BRG_RETRIES_SENT s)

def execInboundRdReq (l : Nat) (p : Packet) (s : State) : Host.Outcome State Fault Refusal :=
  .next (onPacket l p (when (p.type == 3) fun s =>
    if !inXarea p.addr p.length then linkSend l 9 0 p.tag p.addr 0 [] s
    else
      match (s.culvert l).fetches.find? fun f => f.addr == p.addr && f.len == p.length with
      | some f =>
        match f.data with
        | some d => linkSend l 4 0 p.tag p.addr d.length d s
        | none => sendRetry l p s
      | none =>
        if (s.culvert l).fetches.length < 8 then
          sendRetry l p (setCulvert l (fun c => { c with fetches := c.fetches ++ [⟨p.addr, p.length, none, 0⟩] }) s)
        else sendRetry l p (bump Off.BRG_SLOTS_FULL s)) s)

def execFetchComplete (l addr len : Nat) (s : State) : Host.Outcome State Fault Refusal :=
  .next (when s.up (setCulvert l (fun c => { c with fetches := c.fetches.map fun f =>
    if f.addr == addr && f.len == len && f.data.isNone then { f with data := some (s.xread addr len), at_ := s.now } else f })) s)

/-- Fetched data is discarded 64 µs after the fetch completed (R449). -/
def execFetchHoldExpiry (l addr len : Nat) (s : State) : Host.Outcome State Fault Refusal :=
  .next (when s.up (fun s => match (s.culvert l).fetches.find? fun f => f.addr == addr && f.len == len && f.data.isSome with
    | some f => advanceTo (f.at_ + 64000) s |> setCulvert l (fun c => { c with fetches := c.fetches.erase f }) |> bump Off.BRG_HOLD_EXPIRED
    | none => s) s)

/-- An inbound write: into the 32-entry buffer, which an idle step drains, and so into the exchange area; or RETRY. Another
address, and a record on link 1, receives UNSUPPORTED (R439). -/
def execInboundWrite (l : Nat) (p : Packet) (s : State) : Host.Outcome State Fault Refusal :=
  .next (onPacket l p (when (p.type == 1 || p.type == 2 || (p.type == 8 && l == 1)) fun s =>
    if p.type == 8 || !inXarea p.addr p.length then linkSend l 9 0 p.tag p.addr 0 [] s
    else if 32 ≤ (s.culvert l).inbound then sendRetry l p (bump Off.BRG_SLOTS_FULL s)
    else
      s |> setCulvert l (fun c => { c with inbound := c.inbound + 1 }) |> xwrite p.addr p.payload
        |> linkSend l 6 0 p.tag p.addr 0 []) s)

/-- A read of BRG_FAIL_HEAD pops one entry and latches its address, once for all lanes (R81, R445). -/
def failHeadOp (core : Nat) (s : State) : State :=
  match s.brg.fifo with
  | [] =>
    s |> setLatch none core Off.BRG_FAIL_HEAD [(Off.BRG_FAIL_ADDR_LO, 0), (Off.BRG_FAIL_ADDR_HI, 0)] |> answerAll core 0 false
  | e :: rest =>
    { s with brg := { s.brg with fifo := rest } }
    |> setLatch none core Off.BRG_FAIL_HEAD
      [(Off.BRG_FAIL_ADDR_LO, BitVec.ofNat 32 e.addr), (Off.BRG_FAIL_ADDR_HI, BitVec.ofNat 32 (e.addr / 4294967296 % 2))]
    |> answerAll core e.head false

def execBrgFailHeadRead (core : Nat) (s : State) : Host.Outcome State Fault Refusal := .next (when s.up (failHeadOp core) s)

/-! ### DMA (R452 to R455) -/

def State.dma (s : State) (c : Nat) : Dma := s.dmas.getD c Reset.dma

def setDma (c : Nat) (f : Dma → Dma) (s : State) : State := { s with dmas := modAt s.dmas c f }

/-- A command is rejected; causes 1 BUSY, 2 RESERVED, 3 BAD_KEY, 4 BAD_OP. -/
def dmaReject (c cause : Nat) (s : State) : State :=
  s |> setDma c (fun d => { d with cause := cause, seq := d.seq + 1 }) |> bump Off.DMA_CMD_REJECTS |> raiseIrq Irq.DMA_CMD_DONE

/-- Little-endian field of a descriptor. -/
def descField (d : List Byte) (o n : Nat) : Nat := leNat (slice d o n)

/-- Bytes an endpoint holds (Table 1.8): LANE addresses lie in DRAM or in the scratchpad below the secure bank, links take 33-bit addresses. -/
def endpointIn (kind addr len : Nat) : Bool :=
  match kind with
  | 0 => inDram addr len || (inSpad addr len && decide (addr + len ≤ 0x10003F0000))
  | 1 | 2 => decide (addr + len ≤ 8589934592)
  | 3 => decide (addr + len ≤ 268435456)
  | 4 => decide (512 * addr + len ≤ 68719476736)
  | 5 => decide (addr + len ≤ 1073741824)
  | 6 => decide (addr + len ≤ 536870912)
  | _ => decide (addr + len ≤ 32768)

/-- Whether channel `c` may run a descriptor (Tables 14.5, 14.6, R452). -/
def descOk (c : Nat) (d : List Byte) : Bool :=
  let src := descField d 0 1 % 8
  let dst := descField d 0 1 / 16 % 8
  let len := descField d 4 4
  let sa := descField d 8 8
  let da := descField d 16 8
  let blk := src == 4 || dst == 4 || src == 5
  let aligned := fun (k a : Nat) => k == 4 || a % 8 == 0
  decide (8 ≤ len) && decide (len ≤ 67108864) && len % 8 == 0 && (!blk || len % 512 == 0) && aligned src sa && aligned dst da &&
  endpointIn src sa len && endpointIn dst da len &&
  (src != 5 || c == 1) && (dst != 3 || c == 0) && dst != 5 && (dst != 6 || c == 2)

/-- The lanes that differ on a word the DMA reads: shown, recorded, and counted on the run of the DMA block's class (R102, R453). -/
def dmaMinority (ls : List Lane) (s : State) : State :=
  ls.foldl (fun s l => minorityEvent l 0 1 0xA0000 0 false (bit (s.reg Off.VOT_BLOCK_CLASS) 10) s) s

/-- A word the DMA reads has no majority: recorded, and the channel stops (R453, Table 14.13). -/
def dmaNoMajority (c : Nat) (s : State) : State :=
  s |> record 0x0204 [iU8 1 255, iU32 2 0xA0000, iU8 3 1] |> dmaStop c 2

/-- A channel whose descriptor reads from a link asks for its next burst (R452); without a link it stops (R454). -/
def dmaRequest (c : Nat) (s : State) : State :=
  let d := s.dma c
  let k := descField d.desc 0 1 % 8
  if d.state == .running && (k == 1 || k == 2) then
    if (s.culvert (k - 1)).state != .up then dmaStop c 4 s
    else sendRead (k - 1) (descField d.desc 8 8 + d.done) (min 4096 (descField d.desc 4 4 - d.done)) 0 (some c) s
  else s

/-- The channel reads the descriptor at `addr`. -/
def dmaFetch (c addr : Nat) (s : State) : State :=
  let s0 := setDma c (fun d => { d with state := .running, error := 0, done := 0, cur := addr, desc := [], buf := [] }) s
  if addr % 8 != 0 then dmaStop c 1 s0
  else match s0.voteWords addr 4 with
    | none => dmaNoMajority c s0
    | some (bs, ls) =>
      let s1 := s0 |> setDma c (fun d => { d with desc := bs }) |> dmaMinority ls
      if descOk c bs then dmaRequest c s1 else dmaStop c 1 s1

/-- The channel starts its chain at DMA_c_DESC. -/
def dmaRun (c : Nat) (s : State) : State :=
  let a := (s.reg (Off.DMA_DESC_LO + 64 * c)).toNat + 4294967296 * (s.reg (Off.DMA_DESC_HI + 64 * c)).toNat
  dmaFetch c a (setDma c (fun d => { d with crc := 0 }) s)

/-- A host command to channel `c`; op 1 START, 2 ABORT. -/
def dmaCmd (c : Nat) (op : Nat) (key : Half) (s : State) : State :=
  if key != 0x444D then dmaReject c 3 s
  else if op != 1 && op != 2 then dmaReject c 4 s
  else if c < 3 then dmaReject c 2 s
  else if op == 1 then
    if (s.dma c).state == .running then dmaReject c 1 s else dmaRun c s
  else if (s.dma c).state == .running then setDma c (fun d => { d with state := .aborted, seq := d.seq + 1 }) s
  else s

def execDmaCmdStart (c : Nat) (key : Half) (s : State) : Host.Outcome State Fault Refusal :=
  .next (when (s.up && decide (c < 16)) (dmaCmd c 1 key) s)

def execDmaCmdAbort (c : Nat) (key : Half) (s : State) : Host.Outcome State Fault Refusal :=
  .next (when (s.up && decide (c < 16)) (dmaCmd c 2 key) s)

/-- A byte of the local MRAM, of two halves of 128 MiB: the half header, whose layout the manual does not give, then page n at 4 KiB x (n + 1)
(Table 11.5); what no page fills reads 0 (log 13). -/
def State.mramByte (s : State) (o : Nat) : Byte :=
  let h := if o < 134217728 then s.nv.half0 else s.nv.half1
  let r := o % 134217728
  if r < 4096 then Config.halfHeader (if h.state == .committed then 2 else if h.state == .incomplete then 1 else 0) h.set.toNat h.cycle.toNat r
  else (((look h.pages (r / 4096 - 1)).getD []).drop (r % 4096)).headD 0

/-- The 64-bit words from `addr` on which the lanes in vote agree, up to the first without a majority, and the lanes that differ (R453). -/
def State.votedRun (s : State) (addr : Nat) : Nat → List Byte × List Lane
  | 0 => ([], [])
  | n + 1 =>
    match s.voteWords addr 1 with
    | some (b, ls) => let r := s.votedRun (addr + 8) n; (b ++ r.1, ls ++ r.2)
    | none => ([], [])

/-- What an endpoint yields from byte `o` of its range: `n` bytes, or fewer where the lanes have no majority. NOR and NAND data is not held byte by
byte and is free (log 13). -/
def State.dmaRead (s : State) (kind addr o n : Nat) : List Byte × List Lane :=
  match kind with
  | 0 => s.votedRun (addr + o) (n / 8)
  | 3 => ((List.range n).map fun i => s.mramByte (addr + o + i), [])
  | 4 => (rdBytes s.nv.emmc (512 * addr + o) n, [])
  | 7 => (s.xread (addr + o) n, [])
  | _ => (freeBytes s n, [])

/-- Bursts of 4 KiB to a link, up to one that fails: the bytes sent, and the state (R452, R454). -/
def dmaBursts (c l addr : Nat) (bs : List Byte) : Nat → State → Nat × State
  | 0, s => (0, s)
  | n + 1, s =>
    if bs.isEmpty then (0, s)
    else
      let s1 := linkWrite l addr 0 0 (some c) (bs.take 4096) s
      if (s1.dma c).state == .running then
        let r := dmaBursts c l (addr + 4096) (bs.drop 4096) n s1
        (r.1 + min 4096 bs.length, r.2)
      else (0, s1)

/-- Bytes written to an endpoint from byte `o` of its range: how many, and the state. -/
def dmaWrite (c kind addr o : Nat) (bs : List Byte) (s : State) : Nat × State :=
  match kind with
  | 0 => (bs.length, wrLanes (addr + o) bs s)
  | 1 => dmaBursts c 0 (addr + o) bs (bs.length / 4096 + 1) s
  | 2 => dmaBursts c 1 (addr + o) bs (bs.length / 4096 + 1) s
  | 4 => (bs.length, { s with nv := { s.nv with emmc := wrBytes s.nv.emmc (512 * addr + o) bs } })
  | 7 => (bs.length, xwrite (addr + o) bs s)
  | _ => (bs.length, s)

/-- Bytes moved, as a 64-bit count in two registers. -/
def countBytes (n : Nat) (s : State) : State :=
  let t := (s.reg Off.DMA_BYTES_LO).toNat + 4294967296 * (s.reg Off.DMA_BYTES_HI).toNat + n
  setReg Off.DMA_BYTES_HI (BitVec.ofNat 32 (t / 4294967296)) (setReg Off.DMA_BYTES_LO (BitVec.ofNat 32 t) s)

/-- The chain of channel `c` has ended. -/
def dmaFinish (c : Nat) (s : State) : State := s |> setDma c (fun d => { d with state := .done, seq := d.seq + 1 }) |> raiseIrq (Irq.DMA_DONE + c)

/-- The channel may write `n` bytes now: a link has room for the bursts (R443), and the lanes are not in a stop-copy (R453). -/
def State.dmaMay (s : State) (c n : Nat) : Bool :=
  match descField (s.dma c).desc 0 1 / 16 % 8 with
  | 0 => !Lane.all.any fun l => (s.vot.lanes.get l).phase == .stopcopy
  | 1 => decide ((n + 4095) / 4096 ≤ s.room 0)
  | 2 => decide ((n + 4095) / 4096 ≤ s.room 1)
  | _ => true

/-- Bytes of the channel's current descriptor written to its destination, after those written before. -/
def dmaPut (c : Nat) (bs : List Byte) (s : State) : State :=
  let d := s.dma c
  let (n, s1) := dmaWrite c (descField d.desc 0 1 / 16 % 8) (descField d.desc 16 8) d.done bs s
  s1 |> countBytes n |> setDma c (fun x => { x with
    done := d.done + n, buf := [], crc := if (descField d.desc 0 2).testBit 10 then crc32cFrom x.crc (bs.take n) else x.crc })

/-- A descriptor that has moved all its data is complete, with FENCE once the far side has answered the channel's writes (Table 14.6); the chain goes
on, or ends. A descriptor that reads from a link asks for its next burst. -/
def dmaNext (c : Nat) (s : State) : State :=
  let d := s.dma c
  let ctrl := descField d.desc 0 2
  if d.state != .running then s
  else if d.done < descField d.desc 4 4 then dmaRequest c s
  else if ctrl.testBit 9 && (s.brg.link0.posted ++ s.brg.link1.posted).any (fun w => w.dma == some c) then s
  else
    let s1 := when (ctrl.testBit 8) (raiseIrq (Irq.DMA_DONE + c)) s
    if ctrl.testBit 15 then dmaFinish c s1 else dmaFetch c (descField d.desc 24 8) s1

/-- Data read over a link has come for the channel: written, and the chain goes on; or held while the channel may not write. -/
def dmaArrives (c : Nat) (bs : List Byte) (s : State) : State :=
  if (s.dma c).state != .running then s
  else if s.dmaMay c bs.length then dmaNext c (dmaPut c bs s)
  else setDma c (fun d => { d with buf := bs }) s

/-- An endpoint whose device can fail: EMMC, NAND, NOR, MRAM (Table 14.9). -/
def deviceKind (k : Nat) : Bool := decide (3 ≤ k) && decide (k ≤ 6)

/-- The channel moves `n` bytes more from an endpoint other than a link. -/
def dmaMove (c n : Nat) (s : State) : State :=
  let d := s.dma c
  let (bs, ls) := s.dmaRead (descField d.desc 0 1 % 8) (descField d.desc 8 8) d.done n
  let s1 := s |> dmaPut c bs |> dmaMinority ls
  when (decide (bs.length < n)) (dmaNoMajority c) { s1 with free := s1.free + n }

/-- The channel has moved `moved` bytes more of its current descriptor, in words of 8 bytes; a device of its endpoints fails with error 5. What
comes over a link comes with RD_DATA, and what is held of it is written first. -/
def dmaDone (c error moved : Nat) (s : State) : State :=
  let d := s.dma c
  let src := descField d.desc 0 1 % 8
  let dst := descField d.desc 0 1 / 16 % 8
  let link := src == 1 || src == 2
  let n := if link then d.buf.length else min (descField d.desc 4 4 - d.done) (moved / 8 * 8)
  if c < 3 || !s.dmaMay c n || (error != 0 && !(deviceKind src || deviceKind dst)) then s
  else if link && d.buf.isEmpty && decide (d.done < descField d.desc 4 4) then when (error != 0) (dmaStop c error) s
  else
    let s1 := if link then (if d.buf.isEmpty then s else dmaPut c d.buf s) else dmaMove c n s
    if error != 0 then dmaStop c error s1 else dmaNext c s1

/-- `corrupt`: the check at the receiving end finds data corrupted inside the DMA (R35). -/
def execDmaDescriptorDone (c error moved : Nat) (corrupt : Bool) (s : State) : Host.Outcome State Fault Refusal :=
  .next (when (s.up && decide (c < 16) && (s.dma c).state == .running && (error == 0 || error == 5))
    (if corrupt then hubFail else dmaDone c error moved) s)

/-- RD_DATA brings the bytes that were asked for: the voted read is sampled, or the DMA channel has its burst (R438, R448). `corrupt`: the check
at the receiving end finds them corrupted inside the Culvert (R35). -/
def execRdData (l : Nat) (p : Packet) (corrupt : Bool) (s : State) : Host.Outcome State Fault Refusal :=
  .next (onPacket l p (when (p.type == 4) fun s =>
    if corrupt then hubFail s
    else match (s.culvert l).reads.find? fun r => r.tag == p.tag && r.len == p.payload.length with
      | some r =>
        s |> setCulvert l (fun c => { c with reads := c.reads.erase r })
          |> (match r.dma with
              | some c => dmaArrives c p.payload
              | none => readReturns r.stream false p.payload)
      | none => s) s)

end Sys2Proof.Machine
end

