-- ==== Sys2Proof/Machine/PisteOps.lean ====
section
/-! DEFINITION. The Piste: conditions, occurrences, actions and arming (spec/06). Entry words and status stand in the register file;
`Piste.armed` lists the entries that are ARMED or WAITING. -/
namespace Sys2Proof.Machine

/-! ### Entry fields (Tables 6.2 to 6.6) -/

def eDom (c : Word) : Nat := fld c 0 3
def eDir (c : Word) : Nat := fld c 4 2
def ePeriodic (c : Word) : Bool := fld c 6 2 == 1
def eQual (c : Word) : Nat := fld c 10 2
def eAdvance (c : Word) : Nat := fld c 12 20

def State.eCtrl (s : State) (n : Nat) : Word := s.entryWord n 0
def State.ePeriod (s : State) (n : Nat) : Nat := (s.entryWord n 3).toNat
def State.eAction (s : State) (n : Nat) : Word := s.entryWord n 6

def setEntry (n w : Nat) (v : Word) (s : State) : State := setReg (Off.PST_ENTRY_W0 + 32 * n + 4 * w) v s

/-- STATUS rewritten: state, result, cause; FIRES given. -/
def setStatus (n state result cause fires : Nat) (s : State) : State :=
  setEntry n 7 (mkWord [(0, state), (4, result), (8, cause), (16, fires)]) s

def State.eFires (s : State) (n : Nat) : Nat := fld (s.entryWord n 7) 16 16

def State.armedOf (s : State) (n : Nat) : Option Armed := s.pst.armed.find? fun a => a.index == n

def setArmed (n : Nat) (f : Armed → Armed) (s : State) : State :=
  { s with pst := { s.pst with armed := s.pst.armed.map fun a => if a.index == n then f a else a } }

def dropArmed (n : Nat) (s : State) : State := { s with pst := { s.pst with armed := s.pst.armed.filter fun a => a.index != n } }

/-- Trigger of a TB entry in ns, the seconds extended against the present time of the base (R180). -/
def State.tbTrig (s : State) (n : Nat) : Int :=
  let cur : Int := ((s.base (eDom (s.eCtrl n))).ns / 1000000000 : Nat)
  let sec := cur + (s.entryWord n 2 - BitVec.ofInt 32 cur).toInt
  sec * 1000000000 + (s.entryWord n 1).toNat

/-- Trigger of a POSITION entry in pm. -/
def State.posTrig (s : State) (n : Nat) : Int := (s.entryWord n 2 ++ s.entryWord n 1 : DWord).toInt * 1000000

/-- Sense of a POSITION entry: 1 increasing, −1 decreasing; with DIR 0b00 away from the side recorded at arming (R190, R202). -/
def State.posSense (s : State) (n : Nat) : Int :=
  match eDir (s.eCtrl n) with
  | 1 => 1
  | 2 => -1
  | _ => match s.armedOf n with
    | some a => if a.above then -1 else 1
    | none => 1

/-- q of a POSITION entry lies at or beyond its trigger in its sense. -/
def State.posReached (s : State) (n : Nat) (q : Int) : Bool := decide (0 ≤ (q - s.posTrig n) * s.posSense n)

/-- Projected phase of a PHASE entry at the TB0 instant `t` (Table 6.1). -/
def State.phiAt (s : State) (n : Nat) (t : Int) : Word := s.phaseAt t + turns s.sup.freq (eAdvance (s.eCtrl n) * 1000 : Nat)

/-- The phase passes `trig` on its way up from `p`, not counted, to `q`; less than half a turn (R207). -/
def passes (trig p q : Word) : Bool := decide ((trig - p - 1).toNat < (q - p).toNat) && decide ((q - p).toNat < 2147483648)

/-- The comparison of a POSITION entry is suspended while the class is below its QUAL (R206), and while the DSP has failed (R35). -/
def State.belowQual (s : State) (n : Nat) : Bool := eDom (s.eCtrl n) == 4 && (s.sys.dspFault || decide (s.odo.cls < eQual (s.eCtrl n)))

/-- The Piste compares (R200). -/
def State.comparing (s : State) : Bool := s.up && (s.running || s.held)

/-! ### Guards and QUAL (R188, R191) -/

/-- QUAL condition (Table 6.3). -/
def State.qualOk (s : State) (n : Nat) : Bool :=
  let c := s.eCtrl n
  let d := eDom c
  if d < 4 then
    let v := s.servoState (s.base d)
    match eQual c with
    | 0 => true
    | 1 => v != .free
    | 2 => v == .locked || v == .holdover
    | _ => v == .locked
  else if d = 4 then decide (eQual c ≤ s.odo.cls)
  else true

/-- MIN and MAX of a window as I64, um. -/
def State.window (s : State) (w : Nat) : Int × Int :=
  let v := fun o => s.reg (o + 16 * w)
  ((v Off.PST_WIN_MIN_HI ++ v Off.PST_WIN_MIN_LO : DWord).toInt, (v Off.PST_WIN_MAX_HI ++ v Off.PST_WIN_MAX_LO : DWord).toInt)

/-- One guard (R188, Table 6.4). A class below MIN_CLASS makes the guard false whatever INVERT says. -/
def State.guardOk (s : State) (g : Word) : Bool :=
  let arg := fld g 16 10
  let w := arg % 32
  let inv := bit g 3
  match fld g 0 3 with
  | 1 =>
    let r := match fld g 28 2 with
      | 0 => s.pst.fired.contains arg
      | 1 => (s.armedOf arg).isSome
      | _ => false
    r != inv
  | 2 => (decide ((s.dio.dis.getD (arg % 32) Reset.di).state.num = fld g 28 2)) != inv
  | 3 =>
    let lo := (s.reg (Off.PST_WIN_MIN_LO + 16 * w)).toInt
    let hi := (s.reg (Off.PST_WIN_MAX_LO + 16 * w)).toInt
    let v := s.velNow / 1000000000
    decide (fld g 6 2 ≤ s.odo.cls) && (decide (lo ≤ v ∧ v ≤ hi) != inv)
  | 4 =>
    let (lo, hi) := s.window w
    let p := um s.posNow
    let u : Int := if bit g 4 then s.odo.unc else 0
    decide (fld g 6 2 ≤ s.odo.cls) && (decide (lo ≤ p - u ∧ p + u ≤ hi) != inv)
  | _ => !inv

/-- A guard on VELOCITY or POSITION, which with QUAL is evaluated again at estimator updates alone (R191). -/
def slowGuard (g : Word) : Bool := fld g 0 3 == 3 || fld g 0 3 == 4

/-- QUAL and the guards on VELOCITY and POSITION hold. -/
def State.slowOk (s : State) (n : Nat) : Bool :=
  s.qualOk n && [4, 5].all fun w => !slowGuard (s.entryWord n w) || s.guardOk (s.entryWord n w)

/-- The guards on ENTRY and INPUT, which are evaluated again at every edge (R191), hold. -/
def State.fastOk (s : State) (n : Nat) : Bool := [4, 5].all fun w => slowGuard (s.entryWord n w) || s.guardOk (s.entryWord n w)

/-- Cause with which the conditions of an entry fail: QUAL 0xA, GUARD 7; 0 when both hold (R191). -/
def State.condFail (s : State) (n : Nat) : Nat :=
  if !s.qualOk n then 10 else if s.guardOk (s.entryWord n 4) && s.guardOk (s.entryWord n 5) then 0 else 7

/-! ### Actions (R195 to R199) -/

/-- An entry acts on a DO or SYNC target at this edge: its level waits for the end of the edge (R195); a pulse that another entry began loses its
clear (R196). -/
def actTarget (n : Nat) (sync : Bool) (t : Nat) (v : Bool) (s : State) : State :=
  let same := s.pst.edgeAt == s.now
  let took (x : Pulse) : Pulse := { x with taken := x.taken || (x.sync == sync && x.target == t && x.index != n) }
  { s with pst := { s.pst with
      edgeAt := s.now, edge := (if same then s.pst.edge else []) ++ [(sync, t, v, n)]
      applied := if same then s.pst.applied else 0, clashed := same && s.pst.clashed
      pulses := s.pst.pulses.map took } }

/-- Two entries have set one target to different values at this edge (R196). -/
def clashing (es : List (Bool × Nat × Bool × Nat)) : Bool :=
  es.any fun a => es.any fun b => a.1 == b.1 && a.2.1 == b.2.1 && a.2.2.1 != b.2.2.1 && a.2.2.2 != b.2.2.2

/-- One bit of a level word. -/
def setLevel {w : Nat} (t : Nat) (v : Bool) (x : BitVec w) : BitVec w := if v then x ||| (1#w <<< t) else x &&& ~~~(1#w <<< t)

/-- The changes of an edge appear together, in the order of the entries, the last on a target standing; an edge with a conflict counts once (R195,
R196). -/
def settleEdge (s : State) : State :=
  if s.pst.edgeAt != s.now || s.pst.edge.isEmpty then s
  else
    let es := s.pst.edge.drop s.pst.applied
    let fresh := clashing s.pst.edge && !s.pst.clashed
    let sync := es.foldl (fun x e => if e.1 then setLevel e.2.1 e.2.2.1 x else x) s.pst.sync
    let lvl := es.foldl (fun x e => if e.1 then x else setLevel e.2.1 e.2.2.1 x) s.pst.doLevel
    { s with pst := { s.pst with doLevel := lvl, applied := s.pst.edge.length, clashed := s.pst.clashed || fresh } }
    |> when fresh (fun s => raiseIrq Irq.PST_CONFLICT (bump Off.PST_CONFLICT_CNT s)) |> setSync sync |> resolveOuts

/-- A pulse begins, or begins anew for the same entry and target (R196); one that the entry began on another target goes on (R194). -/
def startPulse (n : Nat) (sync : Bool) (t ns : Nat) (s : State) : State :=
  let others := s.pst.pulses.filter fun p => !(p.index == n && p.sync == sync && p.target == t)
  { s with pst := { s.pst with pulses := ⟨n, sync, t, s.now + ns, false⟩ :: others } }

/-- An action that cannot be carried out (R197). -/
def actLost (s : State) : State := raiseIrq Irq.PST_ACT_LOST (bump Off.PST_ACT_LOST_CNT s)

/-- A transmit buffer released (R198, R230); any state but PREPARED loses the action. -/
def releaseBuffer (b : Nat) (s : State) : State :=
  match look s.ftn.txBufs b with
  | some t =>
    if t.state == .prepared then { s with ftn := { s.ftn with txBufs := put s.ftn.txBufs b { t with state := .released } } }
    else actLost s
  | none => actLost s

/-- The action of an entry (Table 6.5), at a match with result `result`. -/
def performAction (n result : Nat) (s : State) : State :=
  let a := s.eAction n
  let t := fld a 8 8
  let w := max 1 (fld a 16 16)
  match fld a 0 4 with
  | 1 => actTarget n false t true s
  | 2 => actTarget n false t false s
  | 3 => startPulse n false t (1000 * w) (actTarget n false t true s)
  | 4 => actTarget n true t true s
  | 5 => actTarget n true t false s
  | 6 => startPulse n true t (4 * w) (actTarget n true t true s)
  | 7 => if s.sys.warmPause then actLost s else raiseIrq (Irq.PST_ACT + t) s
  | 8 => if (s.dma t).state == .running then actLost (dmaReject t 1 s) else dmaRun t s
  | 9 => releaseBuffer t s
  | 10 => recordWith 0x0109 t [iU16 1 n, iU8 2 result] s
  | _ => s

/-! ### Occurrences (R191 to R193, R200) -/

/-- An entry of the fire FIFO, 64 deep (R193, Table 6.11). -/
def pushFire (n result : Nat) (s : State) : State :=
  if 64 ≤ s.pst.fifo.length then actLost { s with pst := { s.pst with lost := true } }
  else
    let seq := s.pst.seq + 1
    let h := mkWord [(0, n), (12, result), (15, b2n s.pst.lost), (16, seq.toNat), (31, 1)]
    { s with pst := { s.pst with seq := seq, lost := false, fifo := s.pst.fifo ++ [⟨h, s.reg (Off.PST_STAMP + 4 * n)⟩] } }
    |> when s.pst.fifo.isEmpty (raiseIrq Irq.PST_FIRE_LOG)

/-- A periodic entry's next trigger (R192): one PERIOD on, then by whole periods to the first value not yet passed. -/
def advanceTrig (n : Nat) (s : State) : State :=
  let per := s.ePeriod n
  let d := eDom (s.eCtrl n)
  if d < 4 then
    let t := s.tbTrig n + per
    let cur : Int := (s.base d).ns
    let t1 := if t ≤ cur then t + ((cur - t) / per + 1) * per else t
    s |> setEntry n 1 (BitVec.ofInt 32 (t1 % 1000000000)) |> setEntry n 2 (BitVec.ofInt 32 (t1 / 1000000000))
  else if d = 4 then
    let sg := s.posSense n
    let pp : Int := (per : Int) * 1000000
    let t := s.posTrig n + sg * pp
    let gap := (s.qNow (eAdvance (s.eCtrl n)) - t) * sg
    let t1 := (if 0 ≤ gap then t + sg * pp * (gap / pp + 1) else t) / 1000000
    s |> setEntry n 1 (BitVec.ofInt 32 t1) |> setEntry n 2 (BitVec.ofInt 32 (t1 / 4294967296))
  else setEntry n 1 (s.entryWord n 1 + BitVec.ofNat 32 per) s

/-- The end of an occurrence: a one-shot entry takes its final state, a periodic one stays ARMED; LOG pushes the match, unless it was pushed when
its waiting began (R193). -/
def endOccurrence (n final result cause : Nat) (s : State) : State :=
  let fires := s.eFires n
  let waited := (s.armedOf n).any fun a => a.waitAt.isSome
  let s1 := if ePeriodic (s.eCtrl n) then
      s |> setStatus n 1 result cause fires |> setArmed n fun a => { a with waitAt := none }
    else s |> setStatus n final result cause fires |> dropArmed n
  when (bit (s.eAction n) 4 && !waited) (pushFire n result) s1

/-- An occurrence skipped. -/
def skipOccurrence (n cause : Nat) (s : State) : State :=
  s |> bump Off.PST_SKIPPED_CNT |> raiseIrq Irq.PST_SKIPPED |> endOccurrence n 4 7 cause

/-- A fire, or in SAFE-HOLD the suppression of an action on a DO or SYNC target, which ends as if fired (R39, R200). -/
def fireEntry (n result : Nat) (s : State) : State :=
  let kind := fld (s.eAction n) 0 4
  let s0 := { s with pst := { s.pst with fired := insNat s.pst.fired n } }
  if s.held && decide (1 ≤ kind) && decide (kind ≤ 6) then
    s0 |> bump Off.PST_SUPPRESSED_CNT |> raiseIrq Irq.PST_SUPPRESSED |> endOccurrence n 3 6 0
  else
    s0 |> performAction n result
      |> setStatus n (s.entryState n) result 0 (min 65535 (s.eFires n + 1))
      |> bump Off.PST_FIRE_CNT
      |> when (result == 2) (bump Off.PST_STEPPED_CNT)
      |> when (result == 3) (bump Off.PST_JUMPED_CNT)
      |> when (result == 2 || result == 3) (raiseIrq Irq.PST_STEPPED_JUMPED)
      |> endOccurrence n 3 result 0

/-- A waiting occurrence dropped because the next one falls due (R192). -/
def dropWaiting (n : Nat) (s : State) : State :=
  match s.armedOf n with
  | some a => if a.waitAt.isSome then skipOccurrence n 8 s else s
  | none => s

/-- What an entry is compared with: q at or beyond the trigger, and the projected phase. -/
def compared (n : Nat) (s : State) : State :=
  setArmed n (fun a => { a with reached := s.posReached n (s.qNow (eAdvance (s.eCtrl n))), phase := s.phiAt n s.tb0 }) s

/-- An occurrence at a match edge with the result a fire would have: 1 FIRED, 2 STEPPED, 3 JUMPED, 4 LATE (R191 to R193). `jumpSkip` ends
it with cause JUMP_SKIP (R205). -/
def occurrence (n result : Nat) (jumpSkip : Bool) (s : State) : State :=
  let s0 := dropWaiting n s
  let s1 := setReg (Off.PST_STAMP + 4 * n) (ctime s0.tb0) s0
  let fail := s1.condFail n
  let s2 := when (ePeriodic (s1.eCtrl n)) (fun s => compared n (advanceTrig n s)) s1
  if jumpSkip then skipOccurrence n 9 s2
  else if fail = 0 then fireEntry n result s2
  else if bit (s2.eCtrl n) 8 then
    s2 |> setArmed n (fun a => { a with waitAt := some s2.now, slow := s1.slowOk n }) |> setStatus n 2 0 (fld (s2.entryWord n 7) 8 4) (s2.eFires n)
      |> when (bit (s2.eAction n) 4) (pushFire n 0)
  else skipOccurrence n fail s2

/-- Entries that compare: ARMED, or periodic and WAITING, by rising index. -/
def State.comparers (s : State) : List Nat :=
  (s.pst.armed.filter fun a => a.waitAt.isNone || ePeriodic (s.eCtrl a.index)).map (·.index)

/-- Those of a domain. -/
def State.comparersOf (s : State) (dom : Nat) : List Nat := s.comparers.filter fun n => eDom (s.eCtrl n) == dom

/-- The step of base `b` from `old` ns (R134): entries whose trigger lies in the interval a forward step passed fire at this edge. -/
def pisteStep (b old : Nat) (s : State) : State :=
  if s.comparing then
    let new := (s.base b).ns
    settleEdge (((s.comparersOf b).filter fun n => decide ((old : Int) < s.tbTrig n ∧ s.tbTrig n ≤ new)).foldl (fun s n => occurrence n 2 false s) s)
  else s

/-- A WAITING entry whose conditions hold fires (R191). -/
def waitFire (n : Nat) (s : State) : State :=
  when ((s.armedOf n).any fun a => a.waitAt.isSome && a.slow && s.fastOk n) (fireEntry n 5) s

/-- One POSITION entry compared at an estimator update or fix (R202, R205, R206): suspended while the class is below QUAL; a trigger passed since it was last
compared fires, by a jump or during the suspension as JUMPED or skipped. -/
def updateEntry (jump : Bool) (n : Nat) (s : State) : State :=
  match s.armedOf n with
  | none => s
  | some a =>
    if s.belowQual n then setArmed n (fun x => { x with suspend := true }) s
    else
      let passed := !a.reached && s.posReached n (s.qNow (eAdvance (s.eCtrl n)))
      let s1 := compared n (setArmed n (fun x => { x with suspend := false }) s)
      if !passed then s1
      else if a.suspend || jump then s1 |> when a.suspend (bump Off.PST_INVALID_CNT) |> occurrence n 3 (bit (s.eCtrl n) 3)
      else occurrence n 1 false s1

/-- One entry at an estimator update: VELOCITY, POSITION and QUAL conditions are evaluated again (R191), and a POSITION entry is compared. -/
def updateArmed (jump : Bool) (n : Nat) (s : State) : State :=
  let s1 := setArmed n (fun a => { a with slow := s.slowOk n }) s |> waitFire n
  when (s1.comparers.contains n && eDom (s1.eCtrl n) == 4) (updateEntry jump n) s1

/-- POSITION entries that have come to their triggers on the estimate as it was before an update or fix. -/
def pisteBefore (s : State) : State :=
  if s.comparing then settleEdge ((s.comparersOf 4).foldl (fun s n => updateEntry false n s) s) else s

/-- The armed entries at an estimator update or an accepted fix, by rising index (R195). -/
def pisteUpdate (jump : Bool) (s : State) : State :=
  if s.comparing then settleEdge ((s.pst.armed.map (·.index)).foldl (fun s n => updateArmed jump n s) s) else s

/-- A crossing of a PHASE entry: fired, or with no valid phase counted and left for the next (R185, R207). -/
def phaseEntry (n : Nat) (s : State) : State :=
  let hit := (s.armedOf n).any fun a => passes (s.entryWord n 1) a.phase (s.phiAt n s.tb0)
  let s1 := compared n s
  if !hit then s1 else if s.sup.lock != .locked then bump Off.PST_INVALID_CNT s1 else occurrence n 1 false s1

/-- PHASE entries at a tracker update, before the new phase is taken and after. -/
def pistePhase (s : State) : State :=
  if s.comparing then settleEdge ((s.comparersOf 5).foldl (fun s n => phaseEntry n s) s) else s

/-- What an entry was compared with last stays as it is while the class is below its QUAL (R206). -/
def suspendBelow (s : State) : State :=
  { s with pst := { s.pst with armed := s.pst.armed.map fun a => { a with suspend := a.suspend || s.belowQual a.index } } }

/-! ### Arming (R189, R190) -/

/-- FTN transmit buffers that a slot entry of this node sends. -/
def State.txDefined (s : State) (b : Nat) : Bool :=
  s.ftn.active.entries.any fun x =>
    bit x.2.w0 14 && fld x.2.w0 0 14 == fld (s.reg Off.FTN_NODE_CFG) 0 14 && fld x.2.w3 2 2 == 1 && fld x.2.w3 4 8 == b

/-- A snapshot profile with at least one item. -/
def State.profileDefined (s : State) (p : Nat) : Bool :=
  decide (p < 16) && (List.range 28).any fun j => [1, 2].contains (fld (s.reg (Off.REC_PROF_ITEM + 128 * p + 4 * j)) 30 2)

/-- The target of an action is available (R189, R455). -/
def State.targetOpen (s : State) (a : Word) : Bool :=
  let t := fld a 8 8
  let k := fld a 0 4
  if k = 0 then true
  else if k ≤ 3 then decide (t < 16) && decide (2 ≤ fld (s.reg (Off.DIO_OUT_CFG + 4 * t)) 0 2)
  else if k ≤ 6 then decide (t < 8) && bit (s.reg Off.PST_SYNC_CFG) t
  else if k = 7 then decide (t < 48)
  else if k = 8 then decide (3 ≤ t) && decide (t < 16)
  else if k = 9 then s.txDefined t
  else s.profileDefined t

/-- Cause with which arming rejects an entry; 0 when it may be armed (R189). -/
def State.armCause (s : State) (n : Nat) : Nat :=
  let c := s.eCtrl n
  let d := eDom c
  let per := s.ePeriod n
  if 6 ≤ d then 1
  else if 2 ≤ fld c 6 2 || 5 ≤ fld (s.entryWord n 4) 0 3 || 5 ≤ fld (s.entryWord n 5) 0 3 || 11 ≤ fld (s.eAction n) 0 4 then 2
  else if ePeriodic c && d = 4 && (eDir c = 0 || eDir c = 3) then 2
  else if ePeriodic c && decide (per < (if d = 5 then 0x1000000 else 1000)) then 2
  else if !s.targetOpen (s.eAction n) then 3
  else 0

/-- The trigger has already been passed at arming (R190). -/
def State.trigPassed (s : State) (n : Nat) : Bool :=
  let c := s.eCtrl n
  let d := eDom c
  if d < 4 then decide (s.tbTrig n ≤ (s.base d).ns)
  else if d = 4 && (eDir c = 1 || eDir c = 2) then s.posReached n (s.qNow (eAdvance c))
  else false

/-- One entry named by an ARM command: the cause that CMD_STATUS gives it, and the state after. -/
def armEntry (n : Nat) (s : State) : Nat × State :=
  if (s.armedOf n).isSome then (3, s)
  else
    let cause := s.armCause n
    if cause != 0 then (2, setStatus n 6 0 cause 0 s)
    else
      let c := s.eCtrl n
      let q := s.qNow (eAdvance c)
      let a : Armed :=
        { index := n, above := decide (s.posTrig n ≤ q), reached := false, phase := 0, waitAt := none, slow := false, suspend := s.belowQual n }
      let arm (s : State) : State :=
        { s with pst := { s.pst with armed := insBy (fun x y => decide (x.index ≤ y.index)) a s.pst.armed,
                                     fired := s.pst.fired.filter fun x => x != n } } |> setStatus n 1 0 0 0 |> compared n
      if s.trigPassed n then
        if bit c 9 then (0, occurrence n 4 false (arm s))
        else (2, s |> setStatus n 5 0 4 0 |> bump Off.PST_MISSED_CNT |> raiseIrq Irq.PST_MISSED)
      else (0, arm s)

/-- The entries armed in rising order; the lowest that is rejected, missed or already armed, with its cause (R189, R195). -/
def armList : List Nat → State → Option (Nat × Nat) × State
  | [], s => (none, s)
  | n :: ns, s =>
    let (c, s1) := armEntry n s
    let (r, s2) := armList ns s1
    (if c = 0 then r else some (n, c), s2)

def disarm (n : Nat) (s : State) : State :=
  if (s.armedOf n).isSome then s |> dropArmed n |> setStatus n 0 (fld (s.entryWord n 7) 4 3) 0 (s.eFires n)
  else setStatus n 0 (fld (s.entryWord n 7) 4 3) 0 (s.eFires n) s

/-- Entries that PST_ARM_MASK selects. -/
def State.masked (s : State) : List Nat :=
  (List.range 1024).filter fun n => bit (s.reg (Off.PST_ARM_MASK + 4 * (n / 32))) (n % 32)

/-- PST_CMD_STATUS after a command. -/
def pstResult (r : Option (Nat × Nat)) (s : State) : State :=
  let seq := (fld (s.reg Off.PST_CMD_STATUS) 8 8 + 1) % 256
  let w := match r with
    | some (n, c) => mkWord [(0, 3), (4, c), (8, seq), (16, n)]
    | none => mkWord [(0, 2), (8, seq)]
  s |> setReg Off.PST_CMD_STATUS w |> raiseIrq Irq.PST_CMD_DONE

/-- A write of PST_CMD (R189, R194). -/
def pstCmdOp (v : Word) (s : State) : State :=
  let n := fld v 16 10
  match fld v 0 4 with
  | 1 => let (r, s1) := armList [n] s; pstResult r (settleEdge s1)
  | 2 => pstResult none (disarm n s)
  | 3 => let (r, s1) := armList s.masked s; pstResult r (settleEdge s1)
  | 4 => pstResult none (s.masked.foldl (fun s n => disarm n s) s)
  | 5 => pstResult none ((List.range 1024).foldl (fun s n => disarm n s) s)
  | _ => pstResult (some (0, 1)) s

/-- A write of an entry word (R186). -/
def entryWordOp (n w : Nat) (v : Word) (s : State) : State :=
  if w = 7 then s
  else if (s.armedOf n).isSome then bump Off.PST_WRITE_REJECTS s
  else setEntry n w v s

/-- A committed change of PST_SYNC_CFG: a line newly enabled takes its idle level (Table 6.11), which its driver shows at X1; the driver of a line no
longer enabled becomes high-impedance (R572). -/
def syncCommitted (old : Word) (s : State) : State :=
  let cfg := s.reg Off.PST_SYNC_CFG
  let fresh : BitVec 8 := (cfg &&& ~~~old).setWidth 8
  let idle := (cfg >>> 8).setWidth 8
  let on := (List.range 8).filterMap fun k => if fresh.getLsbD k then some (Msg.pin 1 k (idle.getLsbD k)) else none
  { s with
    pst := { s.pst with sync := (s.pst.sync &&& ~~~fresh) ||| (idle &&& fresh) }
    out := s.out ++ on ++ releases ((old &&& ~~~cfg).setWidth 8) }

end Sys2Proof.Machine
end

