-- ==== Sys2Proof/Machine/OdoOps.lean ====
section
/-! DEFINITION. The position estimate: uncertainty and class, restore, fixes, and what commits of its configuration bring
(spec/05). -/
namespace Sys2Proof.Machine

/-! ### Uncertainty and class (R150, R151) -/

/-- Bridging time in ns (R148). -/
def State.bridgeNs (s : State) : Nat := s.now - s.odo.bridgeAt

/-- Uncertainty in um (R150); all ones while no fix has come. The growth of bridging lasts as long as bridging: R150 does not say what becomes of it
when bridging ends (DESIGN CHOICE, log 63). -/
def State.uncNow (s : State) : Nat :=
  if !s.odo.haveFix then 4294967295
  else
    let ppm := fld (s.reg Off.ODO_UNC_CFG) 0 16
    let t := s.bridgeNs
    min 4294967295 (s.odo.uncBase + ppm * s.odo.uncDist / 1000000000000 + (if s.odo.bridged then 25000 * t * t / 1000000000000000000 else 0))

/-- Class of R151 for an estimate of the module's own sensors. -/
def State.classNow (s : State) : Nat :=
  if !s.odo.haveFix || s.sys.dspFault then 0
  else if fld (s.reg Off.ODO_UNC_CFG) 16 16 * 1000 < s.uncNow then 1
  else if s.odo.restored then 1
  else if s.odo.bridged then (if fld (s.reg Off.ODO_BRIDGE_CFG) 0 16 * 1000000 < s.bridgeNs then 1 else 2)
  else if s.odo.sensors.any fun x => x.state == .ok then 3
  else 1

/-- A change of class (R151); POSITION entries whose QUAL it falls below are suspended (R206). -/
def setClass (c : Nat) (s : State) : State :=
  if c = s.odo.cls then s else raiseIrq Irq.ODO_QUALITY_CHG (suspendBelow { s with odo := { s.odo with cls := c } })

/-- Uncertainty and class of an update of the module's own estimate. -/
def gradeOwn (s : State) : State := setClass s.classNow { s with odo := { s.odo with unc := s.uncNow } }

def setSensor (n : Nat) (f : Sensor → Sensor) (s : State) : State :=
  { s with odo := { s.odo with sensors := modAt s.odo.sensors n f } }

def State.sensor (s : State) (n : Nat) : Sensor := s.odo.sensors.getD n Reset.sensor

def State.sensorCfg (s : State) (n : Nat) : Word := s.reg (Off.ODO_SENSOR_CFG + 4 * n)

/-- Decode factor F_n. -/
def decodeF (cfg : Word) : Nat :=
  match fld cfg 13 2 with
  | 0 => 1
  | 1 => 2
  | _ => 4

/-- Distance in pm of a number of decoded edges of sensor `n` (R145); π to 15 places. -/
def State.edgePm (s : State) (n : Nat) (edges : Int) : Int :=
  let cfg := s.sensorCfg n
  edges * (s.dEff n : Int) * 3141592653589793 / (1000000000 * ((max 1 (fld cfg 0 12) * decodeF cfg : Nat) : Int))

/-- ORIENT: 1, or −1 where the vehicle's forward direction is negative (R149). -/
def State.orient (s : State) : Int := if bit (s.reg Off.ODO_CFG) 10 then -1 else 1

/-- A sensor changes its state (Table 5.1). -/
def sensorTo (n : Nat) (v : SensState) (s : State) : State :=
  setSensor n (fun x => { x with state := v, okFrom := if v == .ok then some s.tb0 else none, fitSince := none }) s

/-- A condition of FAULT (Table 5.1): cause 1 one phase alone, 2 frequency, 3 INVALID, 4 supply current. -/
def faultSensor (n cause : Nat) (s0 : State) : State :=
  let s := setSensor n (fun x => { x with unfitAt := s0.now }) s0
  if (s.sensor n).state == .fault || (s.sensor n).state == .off then s else
    s |> sensorTo n .fault |> bump Off.ODO_SENSOR_FAULT_CNT |> record 0x0503 [iU8 1 n, iU8 2 cause] |> raiseIrq Irq.ODO_SENSOR_FAULT

/-- Sensors with SENSOR_EN clear or PPR 0 are OFF; one that is enabled passes from OFF to REJOIN (Table 5.1, Table 5.7). -/
def sensorEnables (s : State) : State :=
  (List.range 4).foldl (fun s n =>
    let on := bit (s.reg Off.ODO_CFG) (4 + n) && fld (s.sensorCfg n) 0 12 != 0
    let st := (s.sensor n).state
    if !on && st != .off then sensorTo n .off s else if on && st == .off then sensorTo n .rejoin s else s) s

/-! ### Quadrature (R144, R145, R147) -/

/-- Net decoded edges of one edge of a phase, and its sense: the phase that has changed differs from the other when A leads. ×4 takes every edge, ×2 those of
phase A, ×1 the edge of A that rises forwards (log 65). -/
def decodeEdge (f : Nat) (onB a b : Bool) : Int × Bool :=
  let fwd := if onB then a == b else a != b
  let takes := if f = 4 then true else if f = 2 then !onB else !onB && a == fwd
  (if !takes then 0 else if fwd then 1 else -1, fwd)

/-- One edge of a phase of a sensor at a strobe. -/
def phaseEdge (n : Nat) (onB : Bool) (s : State) : State :=
  let x := s.sensor n
  let p := if onB then x.b else x.a
  let q : SpeedPhase := { p with level := !p.level, last := s.now, before := p.last }
  let (d0, fwd0) := decodeEdge (decodeF (s.sensorCfg n)) onB (if onB then x.a.level else q.level) (if onB then q.level else x.b.level)
  let inv := bit (s.sensorCfg n) 12
  let d := if inv then -d0 else d0
  let alone := if x.aloneB == onB then min 4 (x.alone + 1) else 1
  let s1 := setSensor n (fun x => { x with
      a := if onB then x.a else q, b := if onB then q else x.b, alone := alone, aloneB := onB, fwd := fwd0 != inv
      count := x.count + d, edgeAt := if d = 0 then x.edgeAt else s.now, prevAt := if d = 0 then x.prevAt else x.edgeAt }) s
  s1 |> when (decide (s.now < p.before + 20000) && decide (0 < p.before)) (faultSensor n 2) |> when (decide (4 ≤ alone)) (faultSensor n 1)

/-- The agreed edge count of a phase at a strobe: `e` new edges, or INVALID. -/
def phaseStrobe (n : Nat) (onB : Bool) (e : Option Nat) (s : State) : State :=
  let p := if onB then (s.sensor n).b else (s.sensor n).a
  let bad := if e.isSome then none else some (p.badSince.getD s.now)
  let put (x : Sensor) : Sensor := if onB then { x with b := { x.b with badSince := bad } } else { x with a := { x.a with badSince := bad } }
  (List.range (e.getD 0)).foldl (fun s _ => phaseEdge n onB s) (setSensor n put s)
  |> when (bad.any fun t => decide (t + 1000000 < s.now)) (faultSensor n 3)

/-! ### Restore (R166) -/

/-- The estimate extrapolated by `dt` ns with its velocity and acceleration, the uncertainty grown by 0.75 m/s2 × dt² (R166). -/
def odoExtrapolate (dt : Int) (s : State) : State :=
  let grow := (750000 * dt * dt / 1000000000000000000).toNat
  gradeOwn { s with odo := { s.odo with
    pos := s.odo.pos + s.odo.vel * dt / 1000000000 + s.odo.acc * dt * dt / 2000000000000
    vel := s.odo.vel + s.odo.acc * dt / 1000, uncBase := min 4294967295 (s.odo.uncBase + grow) } }

/-- TB0 is aligned with the network: the estimate that a takeover restored is extrapolated over the time since its stamp that the module's own updates have not
covered, and its class follows R151 without the ceiling (R166). -/
def takeAligned (s : State) : State :=
  match s.odo.takeFrom with
  | none => s
  | some (t, at_) =>
    let gap : Int := max 0 ((s.tb0 : Int) - t - (s.now - at_ : Nat))
    pisteUpdate true (odoExtrapolate gap { s with odo := { s.odo with takeFrom := none, restored := false } })

/-- Position, uncertainty and D_eff restored from a state page (Table 11.3): COARSE at best until the next fix, and INVALID where the checkpointed estimate was
INVALID. At a takeover the extrapolation waits for the aligned TB0. -/
def odoRestore (page : List Byte) (takeover : Bool) (s : State) : State :=
  let f := fun o n => leNat (slice page o n)
  let q : Word := BitVec.ofNat 32 (f 0x38 4)
  if bit (s.reg Off.ODO_CFG) 11 then
    let pos : Int := signed 64 (f 0x28 8) * 1000000
    let vel : Int := signed 32 (f 0x30 4) * 1000000000
    let acc : Int := signed 32 (f 0x34 4)
    let start : Int := leNat (slice page 8 8) * 1000000000 + f 0x10 4
    let add := if takeover then 0 else 1000 * fld (s.reg Off.ODO_BRIDGE_CFG) 16 16
    let s1 := { s with odo := { s.odo with
      pos := pos, frac := 0
      vel := if takeover then vel else 0
      acc := if takeover then acc else 0
      estAt := s.tb0
      takeFrom := if takeover then some (extend (BitVec.ofNat 32 (f 0x40 4)) start, s.now) else none
      uncBase := min 4294967295 (f 0x3C 4 + add), uncDist := 0, haveFix := fld q 0 2 != 0, restored := true
      standstill := takeover && bit q 2
      dir := if takeover then fld q 3 2 else 0
      fixSeq := BitVec.ofNat 8 (fld q 16 8) } }
    let s2 := (List.range 4).foldl (fun s n => let d := f (0x48 + 4 * n) 4; if d = 0 then s else setDEff n d s) s1
    if s.odoSource = 2 then setClass 0 s2 else gradeOwn s2
  else s

/-! ### Fixes (R156 to R163) -/

/-- ODO_FIX_STATUS: state and cause; SEQ counts a fix that is settled. -/
def fixStatus (state cause : Nat) (s : State) : State :=
  if state = 1 then setReg Off.ODO_FIX_STATUS (mkWord [(0, 1), (8, fld (s.reg Off.ODO_FIX_STATUS) 8 8)]) s
  else cmdResult3 Off.ODO_FIX_STATUS state cause s
where
  cmdResult3 (key state cause : Nat) (s : State) : State :=
    setReg key (mkWord [(0, state), (4, cause), (8, (fld (s.reg key) 8 8 + 1) % 256)]) s

/-- A fix rejected; a cause other than GATE ends the run of R160. -/
def fixReject (cause : Nat) (s : State) : State :=
  { s with odo := { s.odo with gateRun := if cause = 1 then s.odo.gateRun else [] } }
  |> fixStatus 3 cause |> bump Off.ODO_FIX_REJECT_CNT |> raiseIrq Irq.ODO_FIX_REJECTED

/-- A write of ODO_FIX_CMD, or the object or FTN slot that takes its path (R156, R162). -/
def fixSubmitOp (pos : Int) (time accSrc cmd : Word) (s : State) : State :=
  if fld cmd 16 16 != 0x4658 then fixReject 5 s
  else if s.odoSource = 2 then fixReject 7 s
  else if s.odo.pending.isSome then fixReject 4 s
  else
    fixStatus 1 0 { s with odo := { s.odo with
      pending := some ⟨signed 64 (code 64 pos), time, fld accSrc 16 16, fld accSrc 0 16, bit cmd 0⟩ } }

/-- The present estimate as the DSP keeps it. -/
def State.kept (s : State) : Kept := ⟨s.odo.estAt, s.odo.pos, s.odo.unc, s.odo.sensors.map fun x => (x.dist, x.okFrom)⟩

/-- The newest kept estimate not after TB0 time `t`; the present one when none is kept (R158). -/
def State.estimateAt (s : State) (t : Int) : Kept :=
  (s.odo.history.find? fun k => decide ((k.time : Int) ≤ t)).getD s.kept

/-- Distance travelled since the newest kept estimate not after TB0 time `t`, pm; the history is newest first. -/
def pathSince (t : Int) (p : Int) : List Kept → Nat
  | [] => 0
  | k :: ks => if (k.time : Int) ≤ t then (p - k.pos).natAbs else (p - k.pos).natAbs + pathSince t k.pos ks

/-- Recalibration of the effective diameters from two consecutive accepted fixes (R163), the former at `p0` and time `t0` with the sensors' distances `d0`, the
latter at `p1` and the kept estimate `k`: each step within 0.5 %, the value within 3 % of ODO_DIAM_n. A sensor OK throughout means that nothing was bridged. -/
def diamCal (p0 t0 : Int) (d0 : List Int) (p1 : Int) (k : Kept) (s : State) : State :=
  let fixUm := (p1 - p0).natAbs
  if bit (s.reg Off.ODO_CFG) 9 && decide (fld (s.reg Off.ODO_FIX_CFG) 24 8 * 10000000 ≤ fixUm) then
    (List.range 4).foldl (fun s n =>
      let (dist, okFrom) := k.sens.getD n (0, none)
      let cnt := (dist - d0.getD n 0).natAbs / 1000000
      if (okFrom.any fun t => decide ((t : Int) ≤ t0)) && cnt != 0 then
        let d := s.dEff n
        let nom := (s.reg (Off.ODO_DIAM + 4 * n)).toNat
        let v := max (d - d * 5 / 1000) (min (d + d * 5 / 1000) (d * fixUm / cnt))
        let w := max (nom - nom * 3 / 100) (min (nom + nom * 3 / 100) v)
        bump Off.ODO_DIAM_CAL_CNT (setDEff n w s)
      else s) s
  else s

/-- A fix accepted, as FORCED after a run of R160 (R159): the correction is added to the position and the kept history. -/
def fixAccept (f : Fix) (corr : Int) (forced : Bool) (s00 : State) : State :=
  let s0 := pisteBefore s00
  let t := extend f.time s0.odo.estAt
  let good := decide (f.acc ≤ 2000)
  let k := s0.estimateAt t
  let s := match s0.odo.calFix with
    | some (p, t0, d0) => if good then diamCal p t0 d0 f.pos k s0 else s0
    | none => s0
  { s with odo := { s.odo with
      pos := s.odo.pos + corr * 1000000
      history := (s.odo.history.map fun k => { k with pos := k.pos + corr * 1000000 })
      fixSeq := s.odo.fixSeq + 1
      uncBase := 10 * f.acc, uncDist := pathSince t s.odo.pos s.odo.history
      haveFix := true, restored := false, gateRun := []
      bridgeAt := if s.odo.bridged then s.now else s.odo.bridgeAt
      calFix := if good then some (f.pos, t, k.sens.map (·.1)) else none } }
  |> gradeOwn
  |> setReg Off.ODO_FIX_CORR (BitVec.ofInt 32 (satSigned 32 corr))
  |> fixStatus (if forced then 4 else 2) 0
  |> bump Off.ODO_FIX_ACCEPT_CNT |> when forced (bump Off.ODO_FIX_FORCED_CNT)
  |> raiseIrq Irq.ODO_FIX_ACCEPTED
  |> record (if forced then 0x0502 else 0x0501) [⟨1, 9, beBytes 8 (code 64 corr)⟩]
  |> pisteUpdate true

/-- Every pair of a run agrees (R160). -/
def runAgrees (margin : Nat) : List (Int × Nat) → Bool
  | [] => true
  | x :: xs => (xs.all fun y => decide ((x.1 - y.1).natAbs ≤ x.2 + y.2 + margin)) && runAgrees margin xs

/-- The pending fix settled (R157 to R162). -/
def fixProcessOp (s0 : State) : State :=
  match s0.odo.pending with
  | none => s0
  | some f =>
    let s := { s0 with odo := { s0.odo with pending := none } }
    let ref : Int := s.odo.estAt
    let t := extend f.time ref
    if s.odoSource = 2 then fixReject 7 s
    else if t < ref - 1000000000 then fixReject 2 s
    else if ref < t then fixReject 3 s
    else
      let k := s.estimateAt t
      let corr := f.pos - um k.pos
      if f.force then
        if s.odo.standstill || decide (s.odo.cls ≤ 1) then fixAccept f corr false s else fixReject 6 s
      else
        let margin := 1000 * fld (s.reg Off.ODO_FIX_CFG) 0 16
        if s.odo.cls = 0 || decide (corr.natAbs ≤ k.unc + 10 * f.acc + margin) then fixAccept f corr false s
        else
          let n := max 2 (fld (s.reg Off.ODO_FIX_CFG) 16 4)
          let run := ((corr, 10 * f.acc) :: s.odo.gateRun).take n
          if run.length = n && runAgrees margin run then fixAccept f corr true s
          else
            { s with odo := { s.odo with gateRun := run } } |> setReg Off.ODO_FIX_CORR (BitVec.ofInt 32 (satSigned 32 corr)) |> fixReject 1

/-! ### Supply tracker (R170 to R173) -/

/-- The lock state changes (R172): reported and recorded; outside LOCKED harmonics and THD read 0 (R177). -/
def lockChange (v : Lock) (s : State) : State :=
  if s.sup.lock == v then s else
    let s1 := { s with sup := { s.sup with
        lock := v, goodRun := 0, jumpRun := 0, holdAt := if v == .hold then s.now else s.sup.holdAt
        windowAt := s.tb0, means := { Reset.means with since := s.tb0 }
        thd := if v == .locked then s.sup.thd else 0
        harm := if v == .locked then s.sup.harm else List.replicate 40 0
        freq := if v == .off then 0 else s.sup.freq
        phase := if v == .off then 0 else s.sup.phase } }
    s1 |> when (s.sup.lock == .locked) (bump Off.SUP_LOCK_LOSS_CNT) |> raiseIrq Irq.SUP_LOCK_CHG
       |> record 0x0506 [iU8 1 s.sup.lock.code, iU8 2 v.code]

/-- The tracker is off: no AC profile, or TRACK_EN clear (R170, R172). -/
def State.trackOff (s : State) : Bool := s.supDc || !bit (s.reg Off.SUP_CFG) 6

/-- Reference channel of the tracker. -/
def State.refCh (s : State) : Nat := fld (s.reg Off.SUP_CFG) 4 2

/-- MODE of a channel: 1 ±10 V, 2 4–20 mA, otherwise OFF. -/
def State.chMode (s : State) (n : Nat) : Nat := fld (s.reg (Off.SUP_CH_CFG + 4 * n)) 0 2

def State.chOn (s : State) (n : Nat) : Bool := s.chMode n == 1 || s.chMode n == 2

/-- QTY of the reference channel is current: nothing to track (R171). -/
def State.refCurrent (s : State) : Bool := bit (s.reg (Off.SUP_CH_CFG + 4 * s.refCh)) 2

/-- A channel turned OFF starts anew when it is next turned on. -/
def chansCommitted (s : State) : State :=
  { s with sup := { s.sup with chans := s.sup.chans.zipIdx.map fun x => if s.chOn x.2 then x.1 else Reset.chan } }

/-! ### Commits of position and supply configuration -/

/-- What the commits of a cycle boundary bring (`old` is the state before them): D_eff takes a committed ODO_DIAM_n (R164), a changed NODE
or SOURCE drops the followed record (R165), a sensor disabled goes OFF (Table 5.1), and a profile without tracking turns the lock OFF. -/
def domainCommitted (old s : State) : State :=
  let diams := (List.range 4).filter fun n => (old.shadows.any fun x => x.key == Off.ODO_DIAM + 4 * n)
  let s1 := diams.foldl (fun s n => setDEff n (s.reg (Off.ODO_DIAM + 4 * n)).toNat s) s
  let node := fld (old.reg Off.ODO_REMOTE_CFG) 0 14 != fld (s.reg Off.ODO_REMOTE_CFG) 0 14
  let src := old.odoSource != s.odoSource
  let s2 := if (node && s.odoSource == 2) || src then
      setClass (if s.odoSource = 2 then 0 else s1.classNow)
        { s1 with odo := { s1.odo with remote := none, remoteStale := false, remoteJump := false, quality := 0 } }
    else s1
  s2 |> sensorEnables |> chansCommitted |> when s2.trackOff (lockChange .off)
    |> when (!s2.trackOff && s2.refCurrent && s2.sup.lock != .off) (lockChange .noSignal)

end Sys2Proof.Machine
end

