-- ==== Sys2Proof/Machine/Servo.lean ====
section
/-! DEFINITION. The servos of the time bases (R125 to R134): each lane's TB block evaluates its own servo and issues its outputs, rate words and
steps, to the slices as voted writes on stream 0x30 + base; the slices apply the majority's. -/
namespace Sys2Proof.Machine

/-! ### Lanes' servos -/

/-- Majority word of a per-base configuration register. -/
def State.tbReg (s : State) (off n : Nat) : Word := s.maj (off + 64 * n)

/-- A lane's own word of it. -/
def State.laneTb (s : State) (l : Lane) (off n : Nat) : Word := s.reg (laneKey l (off + 64 * n))

/-- The servo of base `n` in a lane. -/
def State.servo (s : State) (n : Nat) (l : Lane) : LaneServo := (s.base n).servos.get l

def setServo (n : Nat) (l : Lane) (f : LaneServo → LaneServo) (s : State) : State :=
  setBase n (fun b => { b with servos := b.servos.modify l f }) s

/-! ### What the slices apply -/

/-- A step of base `n` by `d` units of 2^-48 ns at one slice edge (R133); the Piste sees the interval passed (R134). A backward step by more
than the base's time leaves the counters at 0: they hold no time before it (DESIGN CHOICE, log 60). The amount is recorded as whole ns, rounded
down, and a fraction in 1/256 ns, the old time in full. -/
def stepBase (n : Nat) (d : Int) (s : State) : State :=
  let old := (s.base n).time
  let mv (c : Nat) : Nat := ((c : Int) + d).toNat
  setBase n (fun b => { b with ctr1 := mv b.ctr1, ctr2 := mv b.ctr2, ctr3 := mv b.ctr3, stepSeq := b.stepSeq + 1 }) s
  |> when (n == 1) (fun s => { s with time := { s.time with ptp := { s.time.ptp with t1 := none, t2 := none, t3 := none, peer := none } } })
  |> bumpAll (Off.TB_STEP_CNT + 4 * n)
  |> raiseIrq Irq.TB_STEP
  |> record 0x0402 [iU8 1 n, ⟨2, 9, beBytes 8 (code 64 (d / (nsUnit : Int)))⟩, iU8 3 (d % (nsUnit : Int) / 1099511627776).toNat,
      ⟨4, 12, timeBytes old⟩]
  |> pisteStep n (old / nsUnit)

/-- A committed output takes effect (R125). The bases in FREE run with TB2 (R114), but in MODE MANUAL at the rate the host wrote. -/
def applyOut (n : Nat) (o : TbOut) (s : State) : State :=
  match o with
  | .step d => stepBase n d s
  | .rate v =>
    let s1 := setBase n (fun b => { b with rate := v }) s
    if n == 2 then
      [0, 1, 3].foldl (fun s k => when (s.servoState (s.base k) == .free && fld (s.tbReg Off.TB_SERVO_CFG k) 0 2 != 2)
        (setBase k fun b => { b with rate := v }) s) s1
    else s1

/-! ### The voted writes (R69 to R78, R102, R125) -/

def TbVote.is (v : TbVote) (n k : Nat) : Bool := v.base == n && v.seq == k

def putVote (v : TbVote) (s : State) : State :=
  { s with time := { s.time with votes := s.time.votes.map fun x => if x.is v.base v.seq then v else x } }

/-- Outputs that the lanes in vote have issued. -/
def State.tbIssued (s : State) (v : TbVote) : List (Lane × Nat × TbOut) := v.issued.filter fun x => s.inVote x.1

/-- Lanes in vote that a vote still waits for. -/
def State.tbAwaited (s : State) (v : TbVote) : List Lane :=
  s.lanesIn.filter fun l => !(v.issued.any fun x => x.1 == l) && !v.spared.contains l

/-- A lane's output judged against the majority's, whose second came at `t`: its window (R77), and a SAFETY-class minority (R102). -/
def judgeOut (v : TbVote) (t : Nat) (m : TbOut) (x : Lane × Nat × TbOut) (s : State) : State :=
  let out := outWindow t x.2.1
  s |> windowOfAccess x.1 out
    |> when (x.2.2 != m) (minorityEvent x.1 (0x30 + v.base) 0 (Off.TB_NS + 64 * v.base) (BitVec.ofNat 32 v.seq) out true)

/-- The first open vote of a base, if the lanes in vote decide it: two alike commit, all in without two alike are no majority (R71, R74, R76). -/
def decideTb (n : Nat) (s : State) : State :=
  match s.time.votes.find? fun v => v.base == n && v.done.isNone with
  | none => s
  | some v =>
    let xs := s.tbIssued v
    match agreedOf (xs.map (·.2.2)) with
    | some m => xs.foldl (fun s x => judgeOut v s.now m x s) (applyOut n m (putVote { v with done := some (s.now, m) } s))
    | none => if decide (2 ≤ s.lanesIn.length) && (s.tbAwaited v).isEmpty then noMajority (0x30 + n) (BitVec.ofNat 32 v.seq) s else s

/-- A vote that no lane is awaited for any more is forgotten. -/
def pruneTb (s : State) : State :=
  { s with time := { s.time with votes := s.time.votes.filter fun v => v.done.isNone || !(s.tbAwaited v).isEmpty } }

/-- Every vote that the lanes in vote decide, in sequence (R84). -/
def decideAllTb (n : Nat) (s : State) : State :=
  pruneTb ((List.range s.time.votes.length).foldl (fun s _ => if s.sys.failSilent then s else decideTb n s) s)

/-- A lane issues an output of a base. A lane alone in vote has no majority, and its output nothing to be voted with (log 60). -/
def issue (n : Nat) (l : Lane) (o : TbOut) (s0 : State) : State :=
  let k := (s0.servo n l).issued
  let s := setServo n l (fun v => { v with issued := k + 1 }) s0
  if s.lanesIn.length < 2 then s else match s.time.votes.find? fun v => v.is n k with
  | some v =>
    let v1 := { v with issued := v.issued ++ [(l, s.now, o)] }
    match v.done with
    | some (t, m) => pruneTb (judgeOut v1 t m (l, s.now, o) (putVote v1 s))
    | none => decideAllTb n (putVote v1 s)
  | none => decideAllTb n { s with time := { s.time with votes := s.time.votes ++ [⟨n, k, [(l, s.now, o)], none, []⟩] } }

/-- Instant from which the LATE_LIMIT of a vote runs: its majority, else its first output (R78). -/
def TbVote.limitFrom (v : TbVote) : Nat :=
  match v.done with
  | some (t, _) => t
  | none => ((v.issued.head?).map (·.2.1)).getD 0

/-- The lanes left in vote decide what waited for those that have left it. -/
def settleTb (s : State) : State :=
  [0, 1, 2, 3].foldl (fun s n => decideAllTb n s)
    { s with time := { s.time with votes := (s.time.votes.map fun v => { v with issued := s.tbIssued v }).filter fun v =>
        v.done.isSome || !v.issued.isEmpty } }

/-- LATE_LIMIT passes for the oldest output of base `n` that a lane still owes (R78). -/
def tbLimit (n : Nat) (s : State) : State :=
  match s.time.votes.find? fun v => v.base == n && !(s.tbAwaited v).isEmpty with
  | some v => let s1 := advanceTo (v.limitFrom + s.lateLimit) s; excludeLate (s1.tbAwaited v) s1
  | none => s

/-! ### Servo states (Table 4.2) -/

/-- The TIME_STATE record of a change of a base's state, as the majority of the lanes has it, in what `f` does (R127). -/
def stateWatch (n : Nat) (f : State → State) (s : State) : State :=
  let s1 := f s
  let a := s.servoState (s.base n)
  let b := s1.servoState (s1.base n)
  when (a != b) (record 0x0401 [iU8 1 n, iU8 2 a.code, iU8 3 b.code]) s1

/-- A rate word that a servo issues; with MODE MANUAL the rate is the host's (Table 4.7). -/
def issueRate (n : Nat) (l : Lane) (v : Int) (s : State) : State :=
  if fld (s.laneTb l Off.TB_SERVO_CFG n) 0 2 == 2 then s else issue n l (.rate v.toNat) s

/-- Change of a lane's servo state with its interrupt (R127). FREE clears I and runs at the rate of TB2 (R114, R128); HOLDOVER keeps I alone
(R128) and is counted and reported as well. Table 4.2 has no row for MODE MANUAL: the servo keeps its state there, takes no input, and its holding
times still pass (DESIGN CHOICE, log 60). -/
def toServo (n : Nat) (l : Lane) (v : Servo) (s : State) : State :=
  let o := s.servo n l
  if o.state = v then s else
    let i := if v == .free then 0 else o.integral
    let rate2 : Int := (s.base 2).rate
    s |> setServo n l (fun x => { x with
          state := v, integral := i, lockRun := 0, offRun := 0
          holdAt := if v == .holdover then s.time.tb2.time else x.holdAt
          inputAt := if v == .free then none else x.inputAt })
      |> assertAt l Irq.TB_STATE
      |> when (v == .holdover) (fun s => assertAt l Irq.TB_HOLDOVER (bumpLane l Off.TB_HOLD_CNT s))
      |> when (v == .free) (issueRate n l rate2)
      |> when (v == .holdover) (issueRate n l (rate2 - i))

/-! ### Offset inputs (R126, R128, R130, R131) -/

def clampInt (lim v : Int) : Int := max (-lim) (min v lim)

/-- A clamped update of a lane counted (R126). -/
def clamped (n : Nat) (l : Lane) (s : State) : State := assertAt l Irq.TB_CLAMP (bumpLane l (Off.TB_CLAMP_CNT + 4 * n) s)

/-- The PI terms of R126 for an input `e` (1/256 ns), `dt` units of 2^-48 ns after the previous one: I, the rate word, and whether each clamp
acted. Quotients are rounded down (log 60). -/
def servoTerms (cfg gains : Word) (rate2 : Nat) (i e : Int) (dt : Nat) : Int × Nat × Bool × Bool :=
  let lim : Int := (max 1 (fld cfg 16 8) * nsUnit / 1000000 : Nat)
  let c := e * 1099511627776 * (nsUnit : Int) / (dt : Int)
  let i0 := i + (fld gains 16 16 : Int) * c / 32768
  let i1 := clampInt lim i0
  let p0 := i1 + (fld gains 0 16 : Int) * c / 32768
  let p1 := clampInt lim p0
  (i1, ((rate2 : Int) - p1).toNat, i0 != i1, p0 != p1)

/-- Lock counting and the transitions between ACQUIRE and LOCKED (Table 4.2). -/
def servoLock (n : Nat) (l : Lane) (thr : Nat) (e : Int) (s : State) : State :=
  let b := s.servo n l
  let run := if e.natAbs ≤ thr then b.lockRun + 1 else 0
  let off := if 4 * thr < e.natAbs then b.offRun + 1 else 0
  let s1 := setServo n l (fun b => { b with lockRun := run, offRun := off }) s
  if b.state == .acquire && decide (16 ≤ run) then toServo n l .locked s1
  else if b.state == .locked && decide (4 ≤ off) then toServo n l .acquire s1
  else s1

/-- A lane's servo takes inputs: MODE AUTO, for TB1 with a source (Table 4.2, Table 4.8); TB2 has none. -/
def State.servoOn (s : State) (n : Nat) (l : Lane) : Bool :=
  n != 2 && fld (s.laneTb l Off.TB_SERVO_CFG n) 0 2 == 1 && !(n == 1 && fld (s.reg (laneKey l Off.TB_CFG)) 0 2 == 0)

/-- Base `n` is TB0 of an integrated node (R130, R131). -/
def State.fixedBase (s : State) (n : Nat) : Bool := n == 0 && s.ftn.su == .integrated

/-- A valid input noted. -/
def noteInput (n : Nat) (l : Lane) (e : Int) (s : State) : State :=
  setServo n l (fun b => { b with inputAt := some s.time.tb2.time, lastE := e, valid := true, discards := 0 }) s

/-- Slewing by an input `dt` after the one before (R126). -/
def slew (n : Nat) (l : Lane) (e : Int) (dt : Nat) (s : State) : State :=
  let cfg := s.laneTb l Off.TB_SERVO_CFG n
  let (i, r, ci, cp) := servoTerms cfg (s.laneTb l Off.TB_GAINS n) (s.base 2).rate (s.servo n l).integral e dt
  s |> setServo n l (fun b => { b with integral := i, clamped := ci || cp })
    |> when ci (clamped n l) |> when cp (clamped n l) |> servoLock n l (max 1 (fld cfg 8 8) * 256) e |> issueRate n l r

/-- A valid offset input `e` = base − reference in 1/256 ns at the servo of base `n` in one lane (R126, R128, R130, R131, Table 4.2). The
cold-start leader never steps its TB0 (R254). A second input at the same instant has no quotient e / T: it computes nothing and is the input that the
next T runs from (DESIGN CHOICE, log 60). -/
def laneInput (n : Nat) (e : Int) (l : Lane) (s : State) : State :=
  if !s.servoOn n l then s else
    let cfg := s.laneTb l Off.TB_SERVO_CFG n
    let big := decide (max 1 (fld cfg 24 8) * 256000 < e.natAbs)
    let stepEn := bit cfg 2 && !s.fixedBase n && !(n == 0 && s.ftn.leader)
    let out : TbOut := .step (-(e * 1099511627776))
    if s.fixedBase n && big then
      s |> setServo n l (fun b => { b with discards := b.discards + 1 }) |> bumpLane l Off.TB_REJECT_CNT |> assertAt l Irq.TB_OFFSET_REJECT
    else
      match (s.servo n l).state with
      | .free => s |> toServo n l .acquire |> noteInput n l e |> when (big && stepEn) (issue n l out)
      | v =>
        let s1 := when (v == .holdover) (toServo n l .acquire) s
        if v != .locked && big && stepEn then
          s1 |> noteInput n l e |> setServo n l (fun b => { b with integral := 0, lockRun := 0 }) |> issue n l out
        else
          let t := s.time.tb2.time
          match (s1.servo n l).inputAt with
          | some t0 => s1 |> noteInput n l e |> when (decide (t0 < t)) (slew n l e (t - t0))
          | none => noteInput n l e s1

/-- An offset input that reaches the servos of every lane alike (R125, R135). -/
def servoInput (n : Nat) (e : Int) (s : State) : State := stateWatch n (fun s => s.lanesIn.foldl (fun s l => laneInput n e l s) s) s

/-! ### Holding times (Table 4.2) -/

/-- The instant that two of the lanes' due times agree on, else the first of them. -/
def dueOf (ts : List Nat) : Option Nat := (agreedOf ts).or ts.min?

/-- HOLD_ENTER of a lane after its last valid input, in units of 2^-48 ns of TB2; none outside LOCKED and ACQUIRE. -/
def State.enterDue (s : State) (n : Nat) (l : Lane) : Option Nat :=
  let v := s.servo n l
  if v.state == .locked || v.state == .acquire then
    v.inputAt.map fun t => t + 1000000 * nsUnit * max 1 (fld (s.laneTb l Off.TB_HOLD_CFG n) 0 16)
  else none

/-- HOLD_LIMIT of a lane after its entry into HOLDOVER. -/
def State.limitDue (s : State) (n : Nat) (l : Lane) : Option Nat :=
  let v := s.servo n l
  if v.state == .holdover then some (v.holdAt + 1000000000 * nsUnit * max 1 (fld (s.laneTb l Off.TB_HOLD_CFG n) 16 16)) else none

/-- The lanes whose due time `d` gives has come act by `f`, at the instant the majority's comes. -/
def atDue (n : Nat) (d : State → Nat → Lane → Option Nat) (f : Lane → State → State) (s : State) : State :=
  match dueOf (s.lanesIn.filterMap (d s n)) with
  | none => s
  | some t => stateWatch n (fun s => s.lanesIn.foldl (fun s l =>
      match d s n l with
      | some x => when (decide (x ≤ s.time.tb2.time)) (f l) s
      | none => s) s) (toTb2 t s)

/-- No valid input for HOLD_ENTER: LOCKED passes to HOLDOVER, ACQUIRE to FREE. -/
def holdEnter (n : Nat) (s : State) : State :=
  atDue n State.enterDue (fun l s => toServo n l (if (s.servo n l).state == .locked then .holdover else .free)
    (setServo n l (fun v => { v with valid := false }) s)) s

/-- HOLDOVER for HOLD_LIMIT: FREE. -/
def holdLimit (n : Nat) (s : State) : State := atDue n State.limitDue (fun l => toServo n l .free) s

/-! ### Modes of the servos -/

/-- MODE is OFF (or 0b11, which acts as OFF), or TB1 in MODE AUTO has no source (Table 4.2). -/
def State.servoOff (s : State) (n : Nat) (l : Lane) : Bool :=
  let mode := fld (s.laneTb l Off.TB_SERVO_CFG n) 0 2
  mode % 3 == 0 || (n == 1 && mode == 1 && fld (s.reg (laneKey l Off.TB_CFG)) 0 2 == 0)

/-- Servos that are off run FREE; a servo that is FREE has the rate of TB2 (R114), which a lane issues where the base runs at another, as after
MODE MANUAL. -/
def servoModes (s : State) : State :=
  [0, 1, 3].foldl (fun s n => stateWatch n (fun s =>
    s.lanesIn.foldl (fun s l => when (s.servoOff n l) (toServo n l .free) s) s) s) s
  |> fun s => [0, 1, 3].foldl (fun s n =>
    let odd := (s.base n).rate != (s.base 2).rate
    s.lanesIn.foldl (fun s l => when (odd && (s.servo n l).state == .free) (issueRate n l (s.base 2).rate) s) s) s

end Sys2Proof.Machine
end

