-- ==== Sys2Proof/Machine/FtnOps.lean ====
section
/-! DEFINITION. Shared operations of the Fjoerayr network controller: the matrix (R212 to R220), frames on the wire (R221 to
R224), sending with loop roles (R226, R276), the start-up state (R249, R258). -/
namespace Sys2Proof.Machine

/-! ### The matrix -/

def State.ownAddr (s : State) : Nat := fld (s.reg Off.FTN_NODE_CFG) 0 14

def State.syncNode (s : State) : Bool := bit (s.reg Off.FTN_NODE_CFG) 17

def State.coldNode (s : State) : Bool := bit (s.reg Off.FTN_NODE_CFG) 18

/-- Index b of the present basic cycle, and its cluster-cycle count (R212). -/
def State.bIdx (s : State) : Nat := s.ftn.cycle % s.matrix.m

def State.clusterNo (s : State) : Nat := s.ftn.cycle / s.matrix.m

/-- CYCLE field of a frame (Table 7.4). -/
def cycleField (m n : Nat) : Nat := n % m + (n / m % 1024) * 64

def Slot.owner (e : Slot) : Nat := fld e.w0 0 14
def Slot.enabled (e : Slot) : Bool := bit e.w0 14
def Slot.kind (e : Slot) : Nat := fld e.w0 16 2
def Slot.rep (e : Slot) : Nat := fld e.w0 18 3
def Slot.base (e : Slot) : Nat := fld e.w0 21 6
def Slot.start (e : Slot) : Nat := fld e.w1 0 22
def Slot.len (e : Slot) : Nat := fld e.w2 0 16
def Slot.plen (e : Slot) : Nat := fld e.w2 16 11
def Slot.rx (e : Slot) : Bool := bit e.w3 0
def Slot.irq (e : Slot) : Bool := bit e.w3 1
def Slot.map (e : Slot) : Nat := fld e.w3 2 2
def Slot.buf (e : Slot) : Nat := fld e.w3 4 8
def Slot.offset (e : Slot) : Nat := fld e.w3 16 16
def Slot.starFwd (e : Slot) : Nat := fld e.w4 0 16

/-- A ring node's address has STAR = 0 and CASC = 0 (R209). -/
def isRing (a : Nat) : Bool := a % 256 == 0

/-- Star port of an address: CASC addresses lie on port 0 when STAR is 0 (R209, R271). -/
def starOf (a : Nat) : Nat := a / 16 % 16

/-- Occurrence in basic-cycle index b (R214). -/
def Slot.occurs (e : Slot) (b : Nat) : Bool := e.enabled && b % 2 ^ e.rep == e.base

def Table.entry (t : Table) (i : Nat) : Option Slot := look t.entries i

/-- Wire duration in tenths of a ns: 0.8 ns a byte at 10 Gbit/s, 8 ns at 1 Gbit/s (R215). -/
def wire (l : Nat) (gig10 : Bool) : Nat := (max (l + 46) 64 + 20) * (if gig10 then 8 else 80)

/-- Occurrence start on the ring (R217, R233). -/
def Slot.ringStart (e : Slot) : Nat := if isRing e.owner then e.start else e.start + e.len + 1500

/-- Occupied width W, in tenths of a ns (R217). -/
def Slot.width (mx : Matrix) (e : Slot) : Nat :=
  if isRing e.owner then 10 * e.len else wire e.plen true + 20 * mx.margin

/-- Hop count from an owner's position to a ring position on channel A or B. -/
def hops (n o r : Nat) (chanB : Bool) : Nat := if chanB then (o + n - r % n) % n else (r + n - o % n) % n

/-- Interval on the module's own transmit link, tenths of a ns from the basic-cycle start (R217). -/
def Slot.span (mx : Matrix) (r : Nat) (chanB : Bool) (e : Slot) : Nat × Nat :=
  let a := 10 * (e.ringStart + hops mx.n (e.owner / 256) r chanB * mx.hop)
  (a, a + e.width mx)

/-- Two entries share a basic-cycle index. -/
def Slot.meets (e f : Slot) : Bool := e.base % 2 ^ min e.rep f.rep == f.base % 2 ^ min e.rep f.rep

/-- Two entries collide on one of the two transmit links (R218). -/
def collide (mx : Matrix) (r : Nat) (e f : Slot) : Bool :=
  e.meets f && [false, true].any fun c =>
    let a := e.span mx r c
    let b := f.span mx r c
    decide (a.1 < b.2) && decide (b.1 < a.2)

/-- Field checks of an entry (R214 to R216, R545, Table 7.15): true when it passes. -/
def Slot.fieldsOk (mx : Matrix) (own : Nat) (e : Slot) : Bool :=
  decide (e.rep ≤ mx.mExp) && decide (e.base < 2 ^ e.rep) && e.start % 4 == 0 && e.len % 4 == 0 &&
  (match e.kind with
   | 0 | 1 =>
     decide (e.start + e.len ≤ mx.arbAt) && decide (wire e.plen (isRing e.owner) + 20 * mx.margin ≤ 10 * e.len) &&
       decide (e.plen ≤ 1472) && (e.kind == 0 || e.plen == 20)
   | 2 => isRing e.owner && e.len == 2000 && decide (mx.arbAt ≤ e.start) && (e.start - mx.arbAt) % 2000 == 0 &&
       decide ((e.start - mx.arbAt) / 2000 < mx.arbs)
   | _ => false) &&
  (e.map != 0 || decide (e.offset + e.plen ≤ 65536)) &&
  (!(e.map == 1 && e.rx) || decide (e.buf ≤ 191)) &&
  !(e.map == 2 && e.offset == 0xF000 && e.owner == own && e.plen != 64)

/-- SYNC entries of a table, in ascending index (R247). -/
def Table.syncs (t : Table) : List (Nat × Slot) := t.entries.filter fun x => x.2.enabled && x.2.kind == 1

/-- Sync index of an owner: rank of its SYNC entry (spec/08, Roles). -/
def Table.syncIndex (t : Table) (a : Nat) : Option Nat := t.syncs.findIdx? fun x => x.2.owner == a

/-- First collision among enabled entries: the later of the two entries. -/
def firstCollision (mx : Matrix) (r : Nat) : List (Nat × Slot) → Option Nat
  | [] => none
  | x :: xs =>
    match xs.find? fun y => collide mx r x.2 y.2 with
    | some y => some y.1
    | none => firstCollision mx r xs

/-- FTN_MATRIX_ID (R220). -/
def matrixId (cfg cfg2 arb : Word) (t : Table) : Word :=
  crc32c ((beBytes 4 cfg.toNat ++ beBytes 4 cfg2.toNat ++ beBytes 4 arb.toNat) ++
    (List.range 16384).flatMap fun i =>
      match t.entry i with
      | some e => beBytes 4 e.w0.toNat ++ beBytes 4 e.w1.toNat ++ beBytes 4 e.w2.toNat
      | none => List.replicate 12 0)

/-! ### Frames -/

/-- Header of Table 7.4. -/
def frameHeader (f : Frame) : List Byte :=
  beBytes 1 (b2n f.looped * 128 + f.hop) ++ beBytes 1 (f.version * 16 + f.kind) ++ beBytes 2 f.source ++ beBytes 2 f.dest ++
  beBytes 2 f.slot ++ beBytes 2 f.cycle ++ beBytes 2 f.seq ++ beBytes 4 f.txTime.toNat ++ beBytes 2 f.objIndex ++
  [f.objSub, f.info] ++ beBytes 2 f.plen ++ [f.flags, f.state]

/-- Header offset 1 to the end of the payload: what E2E_CRC covers and what two copies share (R222, R224). -/
def frameBody (f : Frame) : List Byte := (frameHeader f).drop 1 ++ f.payload

def frameCrc (f : Frame) : Word := crc32c (frameBody f)

def frameWindow (f : Frame) : Nat := f.slot / 16384

def frameEntry (f : Frame) : Nat := f.slot % 16384

/-- Next SEQ of an own SLOT value (R224). -/
def nextSeq (slot : Nat) (s : State) : Nat × State :=
  let v := ((look s.ftn.seqs slot).getD 65535 + 1) % 65536
  (v, { s with ftn := { s.ftn with seqs := put s.ftn.seqs slot v } })

/-- FLAGS and STATE of an own frame (Table 7.4). -/
def State.txFlags (s : State) (released : Bool) : Byte :=
  BitVec.ofNat 8 (b2n s.syncNode + 2 * b2n s.coldNode + 4 * b2n released + 8 * b2n s.sys.warmPause)

def State.txState (s : State) : Byte := BitVec.ofNat 8 (s.sys.mode.code + 16 * s.reason)

/-- What every own frame has, with its pad: addresses, tags and lengths (R221 to R223). -/
def bareFrame (kind dest : Nat) (payload : List Byte) (s : State) : Frame :=
  { dstMac := 0x0346544E0000, srcMac := 0x0246544E0000 + BitVec.ofNat 48 s.ownAddr, etherType := 0x88B6, vlan := false, fcsOk := true
    looped := false, hop := 0, version := 1, kind := kind, source := s.ownAddr, dest := dest, slot := 0x7FFF, cycle := 0, seq := 0
    txTime := 0, objIndex := 0, objSub := 0, info := 0, plen := payload.length, flags := 0, state := 0, payload := payload, e2e := 0
    pad := 18 - payload.length }

/-- An own frame with its addresses, SEQ, E2E_CRC and pad (R221 to R224). -/
def ownFrame (kind slot dest : Nat) (tx : Nat) (obj : Nat) (sub info : Byte) (released : Bool) (payload : List Byte) (s : State) :
    Frame × State :=
  let (q, s1) := nextSeq slot s
  let f := { bareFrame kind dest payload s with
    slot := slot, cycle := cycleField s.matrix.m (tx / s.matrix.t), seq := q, txTime := ctime tx, objIndex := obj, objSub := sub, info := info,
    flags := s.txFlags released, state := s.txState }
  ({ f with e2e := frameCrc f }, s1)

/-! ### Links and ports -/

def State.link (s : State) (p : Nat) : Link := s.ftn.links.getD p Reset.link

def State.port (s : State) (p : Nat) : Port := s.ftn.ports.getD p Reset.port

def setLink (p : Nat) (f : Link → Link) (s : State) : State := { s with ftn := { s.ftn with links := modAt s.ftn.links p f } }

def setPort (p : Nat) (f : Port → Port) (s : State) : State := { s with ftn := { s.ftn with ports := modAt s.ftn.ports p f } }

/-- Port `p` of Table 4.5 is in use (R29). -/
def State.portUsed (s : State) (p : Nat) : Bool := decide (p < 22) && bit (s.reg Off.FTN_PORT_EN) p

/-- Speed of a port's type, Mbit/s (Table 4.4). -/
def portSpeed (p : Nat) : Nat := if p < 4 then 10000 else if p < 20 then 1000 else 100

/-- A protocol engine is disabled, or restarts in a warm restart (Table 1.9, R526): the module is a break in its channel. -/
def State.engineDown (s : State) (chanB : Bool) : Bool :=
  let e := if chanB then s.sys.netB else s.sys.netA
  e.off || (decide (e.from_ ≤ s.now) && decide (s.now < e.till))

/-- Port `p` is in use and linked, and its channel is not disabled (R28, R29, Table 1.9). -/
def State.portLive (s : State) (p : Nat) : Bool :=
  s.portUsed p && (s.port p).up && !((p == 0 || p == 1) && s.engineDown false) && !((p == 2 || p == 3) && s.engineDown true)

/-- Stamp corrections of a port's type, 1/256 ns (Table 4.4). -/
def txCorr (p : Nat) : Int := if p < 4 then 262272 else if p < 20 then 75840 else 79872

def rxCorr (p : Nat) : Int := if p < 4 then 380608 else if p < 20 then 107008 else 89216

/-- Ingress stamp at the connector from the MAC boundary stamp; none on a link without stamps (R139). -/
def State.ingress (s : State) (p : Nat) (mac : Int) : Option Int :=
  let x := s.port p
  if x.noStamp then none else some (mac - (rxCorr p + x.dev))

/-- The port's link is lost: its measurements, and what it would echo, with it (R117, R262). -/
def Port.down (x : Port) : Port :=
  { x with up := false, noStamp := false, delay := none, delays := [], sent := [], echoSeq := 65535, lastCheck := none }

/-! ### Sending -/

/-- The channel is carried: its engine runs and the module is not ISOLATED on it. -/
def State.chanUp (s : State) (chanB : Bool) : Bool :=
  !s.engineDown chanB && (if chanB then s.ftn.roleB else s.ftn.roleA) != .isolated

/-- A frame onto the main-direction link of one channel; a HEAD turns it back, LOOPED (R276). -/
def sendChan (chanB : Bool) (f : Frame) (s : State) : State :=
  if s.chanUp chanB then
    let head := (if chanB then s.ftn.roleB else s.ftn.roleA) == .head
    let p := match chanB, head with
      | false, false => 0
      | false, true => 1
      | true, false => 3
      | true, true => 2
    when (s.portLive p) (send (.frame p (if head then { f with looped := true } else f))) s
  else s

/-- Both channels (R226). -/
def sendBoth (f : Frame) (s : State) : State := sendChan true f (sendChan false f s)

/-- A frame into the forward queue of a star port in use: 16 KiB sent at 1 Gbit/s (R234); none leaves while the guardian engine's fault closes the
star ports (Table 1.9). -/
def sendStar (p : Nat) (f : Frame) (s : State) : State :=
  if !s.portLive (4 + p) || s.sys.guardianFault then s else
  let g := s.ftn.guards.getD p Reset.guard
  let size := max (f.plen + 46) 64 + 20
  let queued := (g.busyTill - s.now) / 8
  if queued + size ≤ 16384 then
    send (.frame (4 + p) f)
      { s with ftn := { s.ftn with guards := modAt s.ftn.guards p fun g => { g with busyTill := max g.busyTill s.now + size * 8 } } }
  else raiseIrq Irq.FTN_STAR_DROP (bump Off.FTN_STAR_DROP s)

/-- Every star port of a mask. -/
def sendStars (mask : Nat) (f : Frame) (s : State) : State :=
  (List.range 16).foldl (fun s p => if mask.testBit p then sendStar p f s else s) s

/-- A frame put into the arbitrating queue of 32 (R235). -/
def queueArb (f : Frame) (s : State) : State :=
  if s.ftn.arb.length < 32 then { s with ftn := { s.ftn with arb := s.ftn.arb ++ [⟨f, s.ftn.cycle⟩] } }
  else raiseIrq Irq.FTN_ARB_DROP (bump Off.FTN_ARB_DROP s)

/-- Position record of Table 5.2, most significant byte first. -/
def State.posRecord (s : State) : List Byte :=
  [Off.ODO_POS_HI, Off.ODO_POS_LO, Off.ODO_VEL, Off.ODO_ACC, Off.ODO_QUALITY, Off.ODO_UNC, Off.ODO_EST_CTIME,
    Off.ODO_EST_SEQ].flatMap fun o => beBytes 4 (s.peek s.lane0 o).toNat

/-! ### Start-up state -/

def suSet (v : SuState) (s : State) : State := { s with ftn := { s.ftn with su := v } }

/-- INTEGRATED entered (R253, R258): counted and reported; START-UP.INTEGRATE ends (Table 2.2). -/
def integrate (s : State) : State :=
  let s1 := { s with ftn := { s.ftn with su := .integrated, noMidCc := 0, clique := 0 } }
    |> bump Off.FTN_INTEG_COUNT |> raiseIrq Irq.FTN_INTEGRATED |> takeAligned
  if s1.sys.mode == .integrate then endStartUp s1 else s1

/-- Cluster-cycle length, and two basic cycles for each ring position up to the node's own, in ns (R250, R257). -/
def State.clusterNs (s : State) : Nat := s.matrix.m * s.matrix.t

def State.ranksNs (s : State) (r : Nat) : Nat := r * 2 * s.matrix.t

/-- End of a listen timeout that starts now (R250). -/
def State.listenDue (s : State) : Nat := s.now + 2 * s.clusterNs + s.ranksNs (s.ownAddr / 256 + 1)

/-- End of a back-off that starts now (R257). -/
def State.backoffDue (s : State) : Nat := s.now + s.clusterNs + s.ranksNs (s.ownAddr / 256)

/-- Back to listening with nothing counted. -/
def toListen (s : State) : State :=
  { s with ftn := { s.ftn with su := .listen, suDue := s.listenDue, cold := false, leader := false, match_ := 0, countFrom := none, coldFrom := none } }

/-- Loss of integration (R258): cause codes of SU_STATE.EXIT. -/
def loseIntegration (cause : Nat) (s : State) : State :=
  if s.ftn.su == .integrated then
    let s1 := toListen { s with ftn := { s.ftn with exit := cause } }
    s1 |> bump Off.FTN_INTEG_LOSS |> raiseIrq Irq.FTN_INTEG_LOST |> record 0x0705 [iU8 1 cause]
  else s

/-- Collision (R257): the leader or a node in COLDSTART backs off, any other returns to LISTEN. -/
def collision (s : State) : State :=
  let s1 := s |> bump Off.FTN_SU_COLLISIONS |> raiseIrq Irq.FTN_COLLISION
  if s.ftn.su == .coldstart || s.ftn.leader then
    { s1 with ftn := { s1.ftn with su := .backoff, suDue := s1.backoffDue, cold := false, leader := false, coldFrom := none, countFrom := none, match_ := 0,
                                   exit := if s.ftn.su == .aligned then 6 else s1.ftn.exit } }
  else toListen { s1 with ftn := { s1.ftn with exit := 6 } }

/-- Own COLDSTART entered (R250, R254, R256). -/
def enterColdstart (s : State) : State :=
  let n := s.ftn.attempt + 1
  let done := decide (max 1 (fld (s.reg Off.FTN_SU_CFG) 0 4) ≤ n)
  { s with ftn := { s.ftn with su := .coldstart, leader := true, attempt := n, coldFrom := none, exhausted := done } }
  |> bump Off.FTN_SU_ATTEMPTS |> raiseIrq Irq.FTN_COLDSTART

/-! ### Roles -/

/-- Role of a channel from the state of its two links (R276): A sends on port 0 and receives on port 1, B on 3 and 2. -/
def State.roleOf (s : State) (chanB : Bool) : Role :=
  let tx := (s.link (if chanB then 3 else 0)).broken
  let rx := (s.link (if chanB then 2 else 1)).broken
  match tx, rx with
  | true, true => .isolated
  | true, false => .head
  | false, true => .tail
  | false, false => .normal

/-- Roles taken at a basic-cycle start; each entry into a role is counted and reported (R276). -/
def takeRoles (s : State) : State :=
  let a := s.roleOf false
  let b := s.roleOf true
  let na := a != .normal && a != s.ftn.roleA
  let nb := b != .normal && b != s.ftn.roleB
  { s with ftn := { s.ftn with roleA := a, roleB := b } }
  |> when na (bump Off.FTN_RING_LOOPS) |> when nb (bump Off.FTN_RING_LOOPS) |> when (na || nb) (raiseIrq Irq.FTN_RING_LOOP)

/-! ### TB0 instants -/

/-- Number of the basic cycle that begins next: the first after the present one whose start TB0 has not passed. -/
def State.nextCycle (s : State) : Nat :=
  let n := s.tb0 / s.matrix.t
  if s.ftn.cycle < n then n else n + 1

/-! ### Cycle points (R242, R243) -/

/-- FTN_CP_ERR: a set bit for each cycle point whose OFFSET is not below T. -/
def cpErrors (s : State) : State :=
  { s with ftn := { s.ftn with cpErr := mkWord ((List.range 32).map fun c =>
      (c, b2n (decide (s.matrix.t ≤ 1000 * fld (s.reg (Off.FTN_CP + 4 * c)) 12 12)))) } }

/-! ### Path delays (R263) -/

/-- A LINK_CHECK came on the port in the last 2 basic cycles. -/
def State.checkedIn (s : State) (p : Nat) : Bool :=
  match (s.port p).lastCheck with
  | some c => decide (s.ftn.cycle ≤ c + 2)
  | none => false

/-- PD_j of a channel, 1/256 ns: 0 at the node itself, else the entry received on the main-direction receive port plus that port's delay; none
without a delay value, as of a port under calibration, or over a broken link (R262, R263, R275). -/
def State.pathDelay (s : State) (chanB : Bool) (j : Nat) : Option Nat :=
  if s.syncNode && s.ftn.active.syncIndex s.ownAddr == some j then some 0
  else
    let p := if chanB then 2 else 1
    match (s.port p).pdIn.getD j none, (s.port p).linkDelay with
    | some d, some l => if s.checkedIn p && !(s.link p).broken then some (d + l.toNat) else none
    | _, _ => none

/-! ### Offset inputs of TB0 (R131, R258) -/

/-- Consecutive discards of TB0 inputs, as the majority of the lanes counts them. -/
def State.discards (s : State) : Nat := (agreedOf (s.lanesIn.map fun l => (s.servo 0 l).discards)).getD 0

/-- An offset input of TB0: with the fourth consecutive discard the node loses integration (R258). -/
def tb0Input (e : Int) (s : State) : State :=
  let s1 := servoInput 0 e s
  if decide (4 ≤ s1.discards) then
    loseIntegration 1 (Lane.all.foldl (fun s l => setServo 0 l (fun v => { v with discards := 0 }) s) s1)
  else s1

end Sys2Proof.Machine
end

