-- ==== Sys2Proof/Machine/ModeOps.lean ====
section
/-! DEFINITION. What several chapters do with modes: powering down, the end of VERIFY, results of commands. -/
namespace Sys2Proof.Machine

/-- The blocks lose their power (Table 1.6): storage and the supervisor island keep theirs. -/
def powerDown (m : Mode) (s0 : State) : State :=
  let s := flushRecords s0
  { State.reset with
    pending := s.pending, now := s.now, free := s.free, out := s.out ++ releases s.syncOn, nv := s.nv, isl := s.isl
    upd := { Reset.upd with scanOpen := s.upd.scanOpen, debugOpen := s.upd.debugOpen }
    ksp := { Reset.ksp with lockouts := s.ksp.lockouts }
    chk := { Reset.chk with presentN := s.chk.presentN, pFail := s.chk.pFail, pClaim := s.chk.pClaim, mramOk := s.chk.mramOk,
                            events := s.chk.events, told := s.chk.told }
    tlm := { Reset.tlm with excursion := s.tlm.excursion }
    dio := { Reset.dio with groups := keptGroups s.dio.groups }
    sys := { Reset.sys with mode := m, changedAt := s.sys.changedAt, overVolt := s.sys.overVolt || s.sys.active.getLsbD 3 } }

/-- Result of a command in a status register of the common layout: STATE [1:0], CAUSE [7:4], SEQ [15:8], counted up. -/
def cmdResult (key state cause : Nat) (s : State) : State :=
  let seq := (fld (s.reg key) 8 8 + 1) % 256
  setReg key (mkWord [(0, state), (4, cause), (8, seq)]) s

/-- SYS_START_TIME: the start-up has ended (R50 to R52). -/
def startTime (s : State) : State := setReg Off.SYS_START_TIME (BitVec.ofNat 32 ((s.now - s.sys.startAt) / 1000)) s

/-- VERIFY has ended: an FTN node integrates, with RUN set; any other module ends START-UP (Table 2.2). -/
def afterVerify (s : State) : State :=
  if s.ftnNode then
    let s1 := setReg Off.FTN_CTRL (s.reg Off.FTN_CTRL ||| 1#32) s
    setMode .integrate { s1 with ftn := { s1.ftn with su := .listen, attempt := 0, exhausted := false } }
  else
    let s1 := endStartUp s
    when s1.held startTime s1

end Sys2Proof.Machine
end

