-- ==== Sys2Proof/Machine/PairOps.lean ====
section
/-! DEFINITION. Shared operations of the redundant pair (spec/11): records, claims, cuts and sets, standby, recognition and
takeover. -/
namespace Sys2Proof.Machine

/-! ### Membership and status (R373, Table 11.9) -/

/-- PARTNER and PROTECTED follow what they rest on; each change is reported. -/
def chkUpdate (s : State) : State :=
  let p := s.chk.partnerCode
  let prot := s.pairMember && s.chk.role == .active && s.chk.holder && p == 2 && s.chk.mramOk && s.chk.stream == .running
  { s with chk := { s.chk with partner := p, protected_ := prot } }
  |> when (p != s.chk.partner) (raiseIrq Irq.CHK_PARTNER_CHG)
  |> when (prot != s.chk.protected_) (raiseIrq Irq.CHK_PROTECTION_CHG)

/-- Result of a CHK command. -/
def chkResult (state cause : Nat) (s : State) : State :=
  s |> cmdResult Off.CHK_CMD_STATUS state cause |> when (state == 3) (bump Off.CHK_CMD_REJECTS) |> raiseIrq Irq.CHK_CMD_DONE

/-! ### Records on the wire (Tables 11.4, 11.5) -/

def ckBytes (r : CkRec) : List Byte :=
  beBytes 2 r.magic.toNat ++ [r.type, r.half] ++ beBytes 4 r.setSeq.toNat ++ beBytes 4 r.recSeq.toNat ++ beBytes 4 r.length ++ r.body

def ckCrc (r : CkRec) : Word := crc32c (ckBytes r)

/-- A record that arrived passes its checks. -/
def ckOk (type : Nat) (r : CkRec) : Bool :=
  r.magic == 0x434B && r.type.toNat == type && r.length == r.body.length && r.crc == ckCrc r

def ckRecord (type half set rec : Nat) (body : List Byte) : CkRec :=
  let r : CkRec := { magic := 0x434B, type := BitVec.ofNat 8 type, half := BitVec.ofNat 8 half, setSeq := BitVec.ofNat 32 set,
                     recSeq := BitVec.ofNat 32 rec, length := body.length, body := body, crc := 0 }
  { r with crc := ckCrc r }

/-- A record onto the pair link, when that carries anything. -/
def sendRecord (r : CkRec) (s : State) : State :=
  if s.brg.link0.state == .up || s.brg.link0.state == .stream then
    let b := ckBytes r ++ beBytes 4 r.crc.toNat
    linkSend 0 8 0 0 0 b.length b s
  else s

/-! ### Halves of the local MRAM (R378, R380, R386) -/

def State.half (s : State) (h : Nat) : Mram := if h % 2 = 0 then s.nv.half0 else s.nv.half1

def setHalf (h : Nat) (m : Mram) (s : State) : State :=
  if h % 2 = 0 then { s with nv := { s.nv with half0 := m } } else { s with nv := { s.nv with half1 := m } }

/-- The committed half of later set number by serial arithmetic; half 0 when both hold one number (R386). -/
def State.newestHalf (s : State) : Option Nat :=
  match s.nv.half0.state == .committed, s.nv.half1.state == .committed with
  | true, true =>
    let d := (s.nv.half1.set - s.nv.half0.set).toNat
    some (if 1 ≤ d && d < 2147483648 then 1 else 0)
  | true, false => some 0
  | false, true => some 1
  | false, false => none

def Mram.page (m : Mram) (n : Nat) : List Byte := (look m.pages n).getD []

/-- Little-endian field of a half's state page (Table 11.3). -/
def Mram.field (m : Mram) (o n : Nat) : Nat := leNat (slice (m.page 0) o n)

/-- CLAIM of the newest committed half; 0 without one (R375). -/
def State.lastClaim (s : State) : Nat :=
  match s.newestHalf with
  | some h => (s.half h).field 0x20 4
  | none => 0

def State.lastCycle (s : State) : Nat :=
  match s.newestHalf with
  | some h => (s.half h).cycle.toNat
  | none => 0

/-- ROLE record of this module (R374). -/
def State.roleBody (s : State) : List Byte :=
  beBytes 4 s.lastClaim ++ beBytes 8 s.lastCycle ++ beBytes 16 Config.unitId.toNat ++ beBytes 1 s.isl.ga ++ beBytes 3 0

/-! ### Claims (R375, R388 to R393) -/

/-- (CLAIM, UNIT_ID) order of R390. -/
def claimLt (a : Nat) (ua : Nat) (b ub : Nat) : Bool := decide (a < b) || (a == b && decide (ua < ub))

/-- The highest claim seen. -/
def seeClaim (c : Word) (u : BitVec 128) (s : State) : State :=
  if claimLt s.chk.held.toNat s.chk.heldUnit.toNat c.toNat u.toNat then { s with chk := { s.chk with held := c, heldUnit := u } } else s

/-- Resynchronisation with FULL sets (R381). -/
def startResync (s : State) : State :=
  { s with chk := { s.chk with stream := .resync, resyncAt := some s.now } } |> bump Off.CHK_RESYNCS |> raiseIrq Irq.CHK_RESYNC

/-- R381: FULL sets while the partner is present with FAIL_N asserted, begun at most once per 10 s. -/
def resyncIfDue (s : State) : State :=
  if s.chk.role == .active && s.chk.presentN && s.chk.pFail && s.chk.stream != .resync then
    match s.chk.resyncAt with
    | some t => if t + 10000000000 ≤ s.now then startResync s else s
    | none => startResync s
  else s

/-- The module takes claim `n`: HOLDER, CLAIM_N; a claim beyond 32 bits is not taken (R375, R388, R390). -/
def takeClaim (n : Nat) (s : State) : State :=
  if 4294967295 < n then addReason .claimLost s
  else
    { s with
      chk := { s.chk with role := .active, holder := true, claim := BitVec.ofNat 32 n, announced := 65536,
                          stream := if s.chk.presentN then .running else .idle }
      isl := { s.isl with claimN := true } }
    |> seeClaim (BitVec.ofNat 32 n) Config.unitId |> send (.pin 3 0 true) |> raiseIrq Irq.CHK_CLAIM_TAKEN |> resyncIfDue |> chkUpdate

/-- STANDBY is entered: everything but the supervisor, the MRAM and the pair link receiver is off; FAIL_N is asserted until
the standby is ARMED (R373, R380). The supervisor keeps the wake enables. -/
def toStandby (s : State) : State :=
  let s1 := setMode .standby { s with
    sys := { s.sys with startDone := false }
    isl := { s.isl with wakeArmed := s.reg Off.SYS_WAKE_CFG &&& 0xFF#32 } }
  let s2 := powerDown .standby s1
  { s2 with isl := { s2.isl with failN := true, claimN := false }, chk := { s2.chk with cycleUs := 0 } }
  |> send (.pin 2 0 true)

/-- The claim is lost (R392, Table 2.2). A fail-silent module stays as it is (R42). -/
def loseClaim (s : State) : State :=
  if !s.chk.holder || s.sys.failSilent then s else
    let s1 := { s with chk := { s.chk with holder := false }, isl := { s.isl with claimN := false } }
      |> send (.pin 3 0 false) |> bump Off.CHK_CLAIMS_LOST |> raiseIrq Irq.CHK_CLAIM_LOST
      |> record 0x0A03 [iU32 1 s.chk.claim.toNat, iU32 2 s.chk.held.toNat] |> chkUpdate
    if s1.running || s1.held then
      if s1.pairMember && s1.chk.mramOk then toStandby s1 else addReason .claimLost s1
    else s1

/-- The module proceeds as active (R375) with the claim above its own last and any received. -/
def proceedActive (watch : Bool) (s : State) : State :=
  let n := max s.lastClaim s.chk.roleClaim.toNat + 1
  let s1 := takeClaim n { s with chk := { s.chk with watch := watch, watchAt := s.now, ga1Wait := false } }
  if watch then s1 else if s1.held then s1 else afterVerify s1

/-- Role decision at the end of VERIFY (R374). -/
def decideRole (s : State) : State :=
  if s.pairMember then
    if s.chk.presentN then
      if s.chk.pClaim then toStandby s
      else sendRecord (ckRecord 8 0 0 0 s.roleBody) { s with chk := { s.chk with role := .deciding, roleAt := s.now, roleSent := 1 } }
    else proceedActive false s
  else afterVerify s

/-- CLAIM frame of Table 7.9 put into the arbitrating queue. -/
def queueClaim (kind dest : Nat) (s : State) : State :=
  let rej := kind == 2
  let body := beBytes 4 s.chk.claim.toNat ++ beBytes 16 Config.unitId.toNat ++ beBytes 1 kind ++ beBytes 3 0 ++
    beBytes 4 (if rej then s.chk.held.toNat else 0) ++ beBytes 16 (if rej then s.chk.heldUnit.toNat else 0)
  queueArb (bareFrame 6 dest body s) s

/-! ### Cuts and sets (R377 to R379, R382) -/

/-- The slot of image type `t` that runs. -/
def State.runSlot (s : State) (t : Nat) : NorSlot := (s.typeSlots t).slot (s.typeSlots t).runB

/-- First 8 bytes of the SHA-512 of an image. -/
def slotId (n : NorSlot) : List Byte := (beBytes 64 (Config.sha512 n.bytes).toNat).take 8

/-- The same of the running image of a type. -/
def State.imageId (s : State) (t : Nat) : List Byte := slotId (s.runSlot t)

/-- A standby's image of a type matches an ID of the stream: 1 its marked slot, 2 its VERIFIED target slot, 0 neither (R530). -/
def State.idMatches (s : State) (t : Nat) (id : List Byte) : Nat :=
  let x := s.typeSlots t
  if slotId (x.slot x.markB) == id then 1 else if (s.target t).state == .verified && slotId (s.target t) == id then 2 else 0

/-- K × T, or the free period, in us (spec/09). -/
def State.cycleUsNow (s : State) : Nat :=
  let cfg := s.maj Off.CYC_CFG
  if fld cfg 0 2 == 0 && s.ftnNode then max 1 (fld cfg 8 7) * fld (s.reg Off.FTN_MATRIX_CFG) 0 13 else fld (s.maj Off.CYC_FREE_PERIOD) 0 18

/-- Position record of Table 5.2, each field least significant byte first (Tables 9.4, 11.3). -/
def State.posRecordLe (s : State) : List Byte :=
  let pos := fun o => leBytes 4 (s.peek s.lane0 o).toNat
  pos Off.ODO_POS_LO ++ pos Off.ODO_POS_HI ++ pos Off.ODO_VEL ++ pos Off.ODO_ACC ++ pos Off.ODO_QUALITY ++ pos Off.ODO_UNC ++
  pos Off.ODO_EST_CTIME ++ pos Off.ODO_EST_SEQ

/-- State page (Table 11.3) of the present cycle. -/
def State.statePage (s : State) : List Byte :=
  let ipt := (s.time.ipt.headD 0) / nsUnit
  let c := s.cyc.lanes.get s.lane0
  leBytes 8 s.cyc.startedNo.toNat ++ leBytes 8 (ipt / 1000000000) ++ leBytes 4 (ipt % 1000000000) ++ leBytes 4 s.cycleUsNow ++
  leBytes 4 c.ocSeq.toNat ++ leBytes 4 c.frcSeq.toNat ++ leBytes 4 s.chk.claim.toNat ++ leBytes 4 (s.peek s.lane0 Off.SYS_MODE_STATE).toNat ++
  s.posRecordLe ++ ((List.range 4).flatMap fun i => leBytes 4 (s.peek s.lane0 (Off.ODO_DIAM_EFF + 4 * i)).toNat) ++
  List.replicate 4008 0

/-- Union of page lists, rising. -/
def addPages (a b : List Nat) : List Nat := b.foldl (fun l p => insNat l p) a

/-- PAGE records of a set in transfer, from REC_SEQ `count + 1`. -/
def sendPages (half set : Nat) : List (Nat × List Byte) → State → State
  | [], s => s
  | (n, d) :: rest, s =>
    match s.chk.out with
    | none => s
    | some o =>
      let r := ckRecord 2 half set (o.count + 1) (beBytes 4 n ++ d)
      let s1 := { s with chk := { s.chk with out := some { o with count := o.count + 1, crcs := o.crcs ++ [r.crc], pages := put o.pages n d } } }
      sendPages half set rest (s1 |> when (s1.chk.stream != .idle) (fun s => bump Off.CHK_PAGES_SENT (sendRecord r s)))

/-- SET_START of a new set (Table 11.5). -/
def State.startBody (s : State) (set : Nat) (full : Bool) : List Byte :=
  beBytes 4 (if full then 4294967295 else set - 2) ++ beBytes 4 s.cycleUsNow ++ s.imageId 0 ++ s.imageId 3 ++ beBytes 4 s.chk.claim.toNat ++
  beBytes 1 s.sys.mode.code ++ beBytes 1 (b2n full) ++ beBytes 2 0

/-! ### Program data (R282, R311 to R315) -/

/-- A byte of a lane's program data. -/
def State.dataByte (s : State) (c : LaneCyc) (o : Nat) : Byte := (look c.data o).getD (Config.initialData (s.runImage 3) o)

/-- A 4 KiB page of a lane's program data. -/
def State.dataPage (s : State) (c : LaneCyc) (p : Nat) : List Byte := (List.range 4096).map fun i => s.dataByte c (4096 * p + i)

/-- Bytes written into a lane's program data. -/
def putData (bs : List (Nat × Byte)) (c : LaneCyc) : LaneCyc :=
  { c with
    data := bs.foldl (fun d b => put d b.1 b.2) c.data
    wrote := bs.foldl (fun w b => insNat w (b.1 / 4096)) c.wrote }

/-- Page of the checkpoint image of a page of program data: 2 to 257 for retained data (Table 11.2; log 15). -/
def State.imagePage (s : State) (p : Nat) : Option Nat :=
  let first := Config.retainedFrom (s.runImage 3)
  if first ≤ p && decide (p < first + min 256 (Config.retainedPages (s.runImage 3))) then some (p - first + 2) else none

/-- The retained pages written since the last cut, as the checkpoint phase copies them (R312). -/
def State.retainedCut (s : State) : List (Nat × List Byte) :=
  let c := s.cyc.lanes.get s.lane0
  c.wrote.filterMap fun p => (s.imagePage p).map fun n => (n, s.dataPage c p)

/-- The program's data is initialised: retained data as the checkpoint image has it from the last cut, the rest as the CPF gives it (R38, R57,
R315). -/
def programInit (s : State) : State :=
  let first := Config.retainedFrom (s.runImage 3)
  let kept := (s.chk.image.filter fun p => decide (2 ≤ p.1) && decide (p.1 < 2 + min 256 (Config.retainedPages (s.runImage 3)))).flatMap fun p =>
    p.2.zipIdx.map fun b => (4096 * (first + p.1 - 2) + b.2, b.1)
  { s with cyc := { s.cyc with lanes := s.cyc.lanes.map fun _ c => { c with data := kept, wrote := [] } } }

/-- The cut of a cycle (R377): the changed pages, the force table and the state page become the checkpoint image. A set in transfer
absorbs the cut; otherwise set s starts into half s mod 2, FULL when that half does not hold committed set s - 2 or a
resynchronisation runs (R378, R379, R381). `regions` are pages of the regions that the LRT declares for host software (Table 11.2). -/
def makeCut (regions : List (Nat × List Byte)) (s0 : State) : State :=
  let fresh (_ : Lane) (c : LaneCyc) : LaneCyc := { c with wrote := [] }
  let s : State := { s0 with cyc := { s0.cyc with lanes := s0.cyc.lanes.map fresh } }
  let force := forceBytes (s.cyc.lanes.get s.lane0).forces
  let all := s0.retainedCut ++ (regions.filter fun p => decide (258 ≤ p.1) && decide (p.1 < 16384)) ++ [(1, force)]
  let pg := all.filter fun p => (look s.chk.image p.1).getD [] != p.2
  let image := (pg ++ [(0, s.statePage)]).foldl (fun m p => put m p.1 p.2) s.chk.image
  let nums := pg.map (·.1)
  match s.chk.out with
  | some o =>
    let s1 := { s with chk := { s.chk with image := image, dirtyOld := addPages s.chk.dirtyOld nums,
                                           out := some { o with merged := o.merged + 1, cycle := s.cyc.startedNo, cutAt := s.now } } }
    s1 |> bump Off.CHK_MERGED_CUTS |> sendPages (o.set.toNat % 2) o.set.toNat (pg ++ [(0, s.statePage)])
  | none =>
    let set := s.chk.setSeq + 1
    let h := s.half set.toNat
    let full := s.chk.stream == .resync || s.chk.fullNext || !(h.state == .committed && h.set == set - 2)
    let dirty := addPages s.chk.dirty nums
    let due := addPages (addPages s.chk.dirtyOld dirty) [0]
    let pages := if full then image else image.filter fun p => due.contains p.1
    let s1 := { s with chk := { s.chk with image := image, dirtyOld := dirty, dirty := [], fullNext := false, out := some ⟨set, full, [], 0, 0, s.cyc.startedNo, s.now, []⟩ } }
    s1 |> setHalf set.toNat { h with state := .incomplete }
      |> when (s1.chk.stream != .idle) (sendRecord (ckRecord 1 (set.toNat % 2) set.toNat 0 (s1.startBody set.toNat full)))
      |> sendPages (set.toNat % 2) set.toNat pages

/-- The set in transfer ends with SET_COMMIT; the same records are committed in the local MRAM (R378, R379). -/
def completeSet (s : State) : State :=
  match s.chk.out with
  | none => s
  | some o =>
    let h := s.half o.set.toNat
    let base := if o.full then [] else h.pages
    let body := beBytes 8 o.cycle.toNat ++ beBytes 4 o.count ++ beBytes 4 (crc32c (o.crcs.flatMap fun c => beBytes 4 c.toNat)).toNat ++ beBytes 4 o.merged
    s |> setHalf o.set.toNat ⟨.committed, o.set, o.cycle, o.pages.foldl (fun m p => put m p.1 p.2) base⟩
      |> when (s.chk.stream != .idle) (sendRecord (ckRecord 3 (o.set.toNat % 2) o.set.toNat (o.count + 1) body))
      |> fun s => { s with chk := { s.chk with out := none, setSeq := o.set, lastPages := o.count, lastMerged := o.merged,
                                               lag := (s.now - o.cutAt) / 1000 } }
      |> bump Off.CHK_SETS_SENT |> chkUpdate

/-- KEEPALIVE at a boundary without a cut (R382); reason 1 SKIPPED, 2 SAFE_HOLD, 3 IN_TRANSFER. -/
def keepAlive (reason : Nat) (s : State) : State :=
  if s.chk.role == .active && s.chk.stream != .idle then
    sendRecord (ckRecord 4 0 0 0 (beBytes 4 s.cycleUsNow ++ beBytes 1 s.sys.mode.code ++ beBytes 1 reason ++ beBytes 2 0)) s
  else s

/-! ### Standby (R380, R385) -/

/-- One of the last 16 events of a STANDBY period. -/
def standbyEvent (code : Nat) (set : Word) (s : State) : State :=
  { s with chk := { s.chk with events := ((s.chk.events ++ [(code, set, s.now)]).reverse.take 16).reverse, told := false } }

/-- ARMED and FAIL_N follow their four conditions (R380). -/
def armUpdate (s : State) : State :=
  let a := s.chk.mramOk && s.chk.idMatch && s.newestHalf.isSome && s.chk.lastOk
  if a == s.chk.armed then s else
    { s with chk := { s.chk with armed := a }, isl := { s.isl with failN := !a } } |> send (.pin 2 0 (!a)) |> standbyEvent 2 (BitVec.ofNat 32 (b2n a))

/-- Recognition of a failed active module (R385, R386): a module reset with cause TAKEOVER that will load the newest half. -/
def recognise (s : State) : State :=
  match s.newestHalf with
  | some h =>
    if s.chk.idMatch then
      let s1 := restart 6 (standbyEvent 3 (s.half h).set s)
      bootEntered (s.sys.mode.code, s.sub) { s1 with chk := { s1.chk with takeover := some h } }
    else s
  | none => s

/-- An INCOMPLETE half becomes EMPTY when its set is discarded (R380). -/
def discardSet (i : SetIn) (s : State) : State :=
  let h := s.half i.half
  let s1 := if h.state == .incomplete then setHalf i.half ⟨.empty, 0, 0, []⟩ s else s
  { s1 with chk := { s1.chk with inSet := none, lastOk := false } } |> standbyEvent 1 i.set |> armUpdate

/-! ### Output comparison (R384) -/

/-- A readback disagreement: reported by an active pair member, which goes fail-silent when CMP_ACTION is set and it is PROTECTED. -/
def compareFail (what : Nat) (s : State) : State :=
  if s.pairMember && s.chk.role == .active then
    let s1 := s |> raiseIrq Irq.CHK_CMP_FAIL |> bump Off.CHK_CMP_FAILS |> record 0x0A01 [iU16 1 what]
    when (bit (s.reg Off.CHK_CFG) 1 && s.chk.protected_) failSilent s1
  else s

end Sys2Proof.Machine
end

