-- ==== Sys2Proof/Machine/DioOps.lean ====
section
/-! DEFINITION. Shared operations of the field inputs and outputs (spec/10): the hard-trip matrix, group switches, channel
faults, commands and request bits, refresh and the release of an output image. -/
namespace Sys2Proof.Machine

/-! ### Hard-trip matrix (R365 to R368) -/

def State.di (s : State) (n : Nat) : Di := s.dio.dis.getD n Reset.di

def setDi (n : Nat) (f : Di → Di) (s : State) : State := { s with dio := { s.dio with dis := modAt s.dio.dis n f } }

def State.group (s : State) (g : Nat) : Group := s.dio.groups.getD g Reset.group

def setGroup (g : Nat) (f : Group → Group) (s : State) : State := { s with dio := { s.dio with groups := modAt s.dio.groups g f } }

def State.dout (s : State) (n : Nat) : Out := s.dio.outs.getD n Reset.out

def setOut (n : Nat) (f : Out → Out) (s : State) : State := { s with dio := { s.dio with outs := modAt s.dio.outs n f } }

def State.outCfg (s : State) (n : Nat) : Word := s.reg (Off.DIO_OUT_CFG + 4 * n)

def State.tripCfg (s : State) (r : Nat) : Word := s.reg (Off.DIO_TRIP_CFG + 16 * r)

/-- Rule `r` is true (R365). -/
def State.ruleTrue (s : State) (r : Nat) : Bool :=
  let mask := s.reg (Off.DIO_TRIP_MASK + 16 * r)
  let pol := s.reg (Off.DIO_TRIP_POL + 16 * r)
  let cfg := s.tripCfg r
  let chans := (List.range 32).filter fun n => bit mask n
  let tripped (n : Nat) : Bool :=
    match (s.di n).state with
    | .on => bit pol n
    | .off => !bit pol n
    | .broken | .invalid => bit cfg 2
  bit cfg 0 && !chans.isEmpty && (if bit cfg 1 then chans.any tripped else chans.all tripped)

/-- Filtered states of the MASK channels of a rule, 2 bits a channel, most significant byte first. -/
def State.maskStates (s : State) (r : Nat) : List Byte :=
  let mask := s.reg (Off.DIO_TRIP_MASK + 16 * r)
  beBytes 8 ((List.range 32).foldl (fun a n => a + (if bit mask n then (s.di n).state.num * 4 ^ n else 0)) 0)

/-- A rule has become true: trip latched, groups opened, counted, recorded and reported (R366). -/
def tripLatch (r : Nat) (s : State) : State :=
  { s with dio := { s.dio with latched := s.dio.latched ||| (1#8 <<< r) } }
  |> when (bit (s.tripCfg r) 4) (groupCause 4 2 true) |> when (bit (s.tripCfg r) 5) (groupCause 5 2 true)
  |> bump Off.DIO_TRIP_CNT |> raiseIrq Irq.DIO_TRIP
  |> record 0x0906 [iU8 1 r, iOct 2 (s.maskStates r), iU64 3 s.tb0]

/-- The matrix acts: the field front end, two capture paths and two slices run (R41, R338). -/
def State.matrixOn (s : State) : Bool :=
  s.up && s.dio.enabled && !s.lanesReset && decide (2 ≤ s.lanesIn.length) &&
    decide (2 ≤ ((List.range 3).filter fun i => s.vot.slices.getLsbD i).length)

/-- The matrix evaluated in the slices at one edge; rules that become true act together (R366). -/
def tripEval (s : State) : State :=
  if !s.matrixOn then s else
    let now := (List.range 8).filter s.ruleTrue
    let rise := now.filter fun r => !s.dio.trueR.getLsbD r
    let word := now.foldl (fun w r => w ||| (1#8 <<< r)) 0#8
    let fell := s.dio.falseAt.zipIdx.map fun (t, r) => if s.dio.trueR.getLsbD r && !word.getLsbD r then s.now else t
    resolveOuts (rise.foldl (fun s r => tripLatch r s) { s with dio := { s.dio with trueR := word, falseAt := fell } })

/-- Channels that a rule of a configuration holds OFF: those of CHANNELS and those of its groups. -/
def tripChans (cfg : Word) (n : Nat) : Bool := bit cfg (16 + n) || bit cfg (4 + n / 8)

/-- No refresh counts for the channels until the next (Table 10.3 row 4). -/
def stale10 (p : Nat → Bool) (s : State) : State :=
  { s with dio := { s.dio with outs := s.dio.outs.zipIdx.map fun (o, n) => if p n then { o with fresh := false } else o } }

/-- A trip latched under the configurations `cfg` is unlatched; a group that no other latched rule names loses its TRIP cause (R368). -/
def tripUnlatch (cfg : Nat → Word) (r : Nat) (s : State) : State :=
  let s1 := { s with dio := { s.dio with latched := s.dio.latched &&& ~~~(1#8 <<< r) } }
  let named (g : Nat) : Bool := (List.range 8).any fun q => s1.dio.latched.getLsbD q && bit (cfg q) g
  s1 |> when (bit (cfg r) 4 && !named 4) (groupCause 4 2 false) |> when (bit (cfg r) 5 && !named 5) (groupCause 5 2 false)
    |> when (s.dio.latched.getLsbD r) (stale10 (tripChans (cfg r))) |> resolveOuts

/-! ### Commands and request bits (R356, R357, R361, R368, R371) -/

/-- Result of a DIO command or request bit. -/
def dioResult (cause : Nat) (s : State) : State :=
  s |> cmdResult Off.DIO_CMD_STATUS (if cause = 0 then 2 else 3) cause
    |> when (cause != 0) (bump Off.DIO_WRITE_REJECTS) |> raiseIrq Irq.DIO_CMD_DONE

/-- A refused refresh, command or request bit of a pair member without the claim (R351). -/
def dioFenced (s : State) : State := bump Off.DIO_FENCED_CNT s

/-- Rejection cause of a GROUP_REENABLE: a group latched for UNDER or OVER that is not READY (R357). -/
def State.reenableCause (s : State) (g : Nat) : Nat := if (s.group g).causes &&& 0b000011000#9 != 0 && !(s.group g).ready then 5 else 0

/-- Measured output voltage of a channel, in 10 mV (Table 10.14). -/
def State.outVolt (s : State) (n : Nat) : Int := signed 16 (fld (Config.outMeas n s.now) 0 16)

/-- UNDER and OVER of a group cleared (R357), with `all` also OVERLOAD, and SHORT_SUPPLY once the output of the channel is below 5 V
(Table 10.4). -/
def reenable (g : Nat) (all : Bool) (s : State) : State :=
  let held := (List.range 8).any fun i =>
    let o := s.dout (8 * (g - 4) + i)
    o.faults.getLsbD 4 && o.ssSource == 2 && decide (500 ≤ s.outVolt (8 * (g - 4) + i))
  let clr : BitVec 9 := 0b000011000#9 ||| (if all then 0b100000000#9 else 0#9) ||| (if all && !held then 0b000100000#9 else 0#9)
  let old := (s.group g).causes
  let hit := old &&& clr != 0
  s |> setGroup g (fun x => { x with causes := x.causes &&& ~~~clr, ready := x.ready && old &&& 0b000011000#9 == 0,
                                     supply := if old &&& 0b000011000#9 != 0 then .normal else x.supply })
    |> when hit (stale10 fun n => n / 8 == g - 4) |> resolveOuts

/-- A READY group with AUTO_REEN set is re-enabled at once (R357). -/
def autoReenable (s : State) : State :=
  [4, 5].foldl (fun s g =>
    when ((s.group g).ready && (s.group g).causes &&& 0b000011000#9 != 0 && bit (s.reg (Off.DIO_GRP_CFG + 4 * g)) 16) (reenable g false) s) s

def reenableOp (g : Nat) (s : State) : State :=
  let c := s.reenableCause g
  s |> when (c = 0) (reenable g true) |> dioResult c

def tripResetOp (r : Nat) (s : State) : State :=
  let c := if s.ruleTrue r then 4 else 0
  s |> when (c = 0) (tripUnlatch s.tripCfg r) |> dioResult c

/-- Latched faults of a channel whose condition is gone are cleared (R361): OPEN_LOAD is no latched fault, and DARK_FAIL clears
after a passing dark test. `gone` tells which of the other conditions are gone. -/
def clearFaultOp (n : Nat) (gone : BitVec 7) (s : State) : State :=
  let o := s.dout n
  let lat := o.faults &&& 0b1111011#7
  let g := (gone &&& 0b0111011#7) ||| (if o.darkFails = 0 then 0b1000000#7 else 0#7)
  let left := lat &&& ~~~g
  let cleared := lat &&& g
  s |> setOut n (fun o => { o with
        faults := o.faults &&& ~~~cleared
        ssSource := if cleared.getLsbD 4 then 0 else o.ssSource
        partner := if cleared.getLsbD 5 then 0 else o.partner
        fresh := o.fresh && cleared == 0 })
    |> resolveOuts |> dioResult (if left = 0 then 0 else 4)

/-- What the controller finds at a clear request that comes by register or image: the conditions that the state cannot show are
free (log 14). An overcurrent or a stuck output is gone once the channel is off. -/
def State.goneNow (s : State) : BitVec 7 := ((Config.freeWord s.free).setWidth 7 &&& 0b0110010#7) ||| 0b0001001#7

def clearFaultReq (n : Nat) (s : State) : State := clearFaultOp n s.goneNow { s with free := s.free + 1 }

/-- Open cause HOST of a DO group. -/
def hostOp (g : Nat) (v : Bool) (s : State) : State := s |> groupCause g 6 v |> resolveOuts |> dioResult 0

/-- A committed write of DIO_CTRL_CMD (R351, R371). -/
def ctrlCmdOp (v : Word) (s : State) : State :=
  let op := fld v 0 4
  let arg := fld v 4 8
  if fld v 16 16 != 0x444F then dioResult 1 s
  else if op == 0 || decide (5 < op) then dioResult 2 s
  else if (if op == 1 then decide (15 < arg) else if op == 3 then decide (7 < arg) else arg != 4 && arg != 5) then dioResult 3 s
  else if s.fenced then dioResult 6 (dioFenced s)
  else match op with
    | 1 => clearFaultReq arg s
    | 2 => reenableOp arg s
    | 3 => tripResetOp arg s
    | 4 => hostOp arg true s
    | _ => hostOp arg false s

/-! ### Logic silence (R350) -/

/-- SILENCE of a DO group in ns. -/
def State.silenceNs (s : State) (g : Nat) : Nat := 1000000 * max 10 (min 5000 (fld (s.reg (Off.DIO_GRP_CFG + 4 * g)) 0 13))

/-- Module time at which a channel that has been refreshed and is not silent times out. -/
def State.silenceAt (s : State) (n : Nat) : Option Nat :=
  if (s.dout n).silent then none else (s.dout n).refreshAt.map (· + s.silenceNs (4 + n / 8))

/-- A channel times out: its safe state, HOLD keeping the present level; the first of its group is reported. -/
def silenceOp (n : Nat) (s : State) : State :=
  let first := !(List.range 8).any fun i => (s.dout (8 * (n / 8) + i)).silent
  s |> setOut n (fun o => { o with silent := true, holdLvl := o.on }) |> bump Off.DIO_SILENCE_CNT
    |> when first (fun s => s |> raiseIrq Irq.DIO_SILENCE |> record 0x0902 [iU8 1 (4 + n / 8), iU8 2 n]) |> resolveOuts

/-- Channels whose last refresh lies further back than SILENCE. -/
def silenceCheck (s : State) : State :=
  (List.range 16).foldl (fun s n =>
    match s.silenceAt n with
    | some t => if t ≤ s.now then silenceOp n s else s
    | none => s) s

/-! ### Refresh and release (R348 to R351, R370) -/

/-- A channel's refresh: silence ends (R349, R350). -/
def Out.refresh (t : Nat) (o : Out) : Out := { o with refreshAt := some t, silent := false, fresh := true }

/-- Channels of the sources that `p` names are refreshed. -/
def refreshOuts (p : Nat → Bool) (s : State) : State :=
  { s with dio := { s.dio with outs := s.dio.outs.zipIdx.map fun (o, n) => if p (fld (s.outCfg n) 0 2) then o.refresh s.now else o } }

/-- A committed write of DIO_OUT_CMD (R348, R349). -/
def outCmdOp (v : Word) (s : State) : State :=
  if s.fenced then dioFenced s
  else s |> setReg Off.DIO_OUT_CMD (v &&& 0xFFFF#32) |> refreshOuts (· == 1) |> resolveOuts

/-- The 64-byte local output block of an image; zeros without one (R348). -/
def State.localOut (s : State) (img : List Byte) : List Byte :=
  let cfg := s.maj Off.CYC_LOCAL_CFG
  if bit cfg 24 then slice img (256 * fld cfg 16 8) 64 else List.replicate 64 0

def wordAt (bs : List Byte) (o : Nat) : Word := BitVec.ofNat 32 (leNat (slice bs o 4))

/-- Request bits that rise from `old` to `new`, among the first `n`. -/
def risen (old new : Word) (n : Nat) : List Nat := (List.range n).filter fun i => bit new i && !bit old i

/-- DIO takes a released image: commands and refresh, then the request bits that rose (R348 to R351, R370). -/
def dioImage (img : List Byte) (s : State) : State :=
  let b := s.localOut img
  let cmd := wordAt b 0
  let clr := wordAt b 4
  let ree := wordAt b 8
  let rst := wordAt b 12
  let cs := risen s.dio.prevClear clr 16
  let gs := risen s.dio.prevReen ree 2
  let rs := risen s.dio.prevReset rst 8
  let s1 := { s with dio := { s.dio with prevClear := clr, prevReen := ree, prevReset := rst } }
  if s.fenced then bumpBy Off.DIO_FENCED_CNT (1 + cs.length + gs.length + rs.length) s1
  else
    let s2 := { s1 with dio := { s1.dio with outs := s1.dio.outs.zipIdx.map fun (o, n) => { o with image := bit cmd n } } }
      |> refreshOuts (· != 1) |> resolveOuts
    let s3 := cs.foldl (fun s n => clearFaultReq n s) s2
    let s4 := gs.foldl (fun s g => reenableOp (4 + g) s) s3
    rs.foldl (fun s r => tripResetOp r s) s4

/-- The Sluice releases a voted output image (R96, R292): FTN entries and DIO take it, and the first one in OPERATIONAL or DEGRADED
ends the open cause MODE (Table 10.4). -/
def releaseImage (i : Image) (s : State) : State :=
  { s with cyc := { s.cyc with image := some i, released := true } }
  |> when s.running (bothGroups 0 false) |> dioImage i.data |> resolveOuts
  |> setReg Off.VOT_OUT_STATUS (s.reg Off.VOT_OUT_STATUS ||| 0x80000#32) |> raiseIrq Irq.VOT_OUT_VOTED

end Sys2Proof.Machine
end

