-- ==== Sys2Proof/Machine/CycOps.lean ====
section
/-! DEFINITION. Shared operations of the cycle engine (spec/09): cycle source, batches of online changes and forces, stations,
the process images and the input freeze. -/
namespace Sys2Proof.Machine

/-! ### Cycle source (R283 to R289) -/

/-- Cycle time of the cyclic program in ns: K basic cycles when coupled to the network, else the free period. -/
def State.cycleNs (s : State) : Nat :=
  let cfg := s.maj Off.CYC_CFG
  if s.coupled then max 1 (fld cfg 8 7) * s.matrix.t else 1000 * fld (s.maj Off.CYC_FREE_PERIOD) 0 18

/-- TB2 time, ns, of the next boundary that falls on TB2: the first at the next whole millisecond, the others one cycle time after the last (R284,
R288). -/
def State.nextBoundary (s : State) : Nat := if s.cyc.begun then s.cyc.boundaryAt + s.cycleNs else (s.time.tb2.ns / 1000000 + 1) * 1000000

/-- The check of CYC_CFG at a matrix commit or at the commit of a cycle point: a rejection makes the source absent (R285). -/
def sourceCheck (s : State) : State :=
  let c := s.cycCheck (s.maj Off.CYC_CFG)
  if c = 0 then { s with cyc := { s.cyc with absent := false } }
  else cycReject Lane.all c { s with cyc := { s.cyc with absent := true } }

/-! ### Targets of entries (R313, R318, R585) -/

/-- Bytes of a SIZE code: 1, 2, 4, 8; a bit or a 2-bit field lies in one byte. -/
def sizeBytes (sz : Nat) : Nat := if sz < 4 then 2 ^ sz else 1

def targetOff (addr : Word) : Nat := fld addr 0 25
def targetPos (addr : Word) : Nat := fld addr 25 3
def targetSize (addr : Word) : Nat := fld addr 28 3

/-- Bit interval of a target: first bit and number of bits. -/
def targetBits (addr : Word) : Nat × Nat :=
  match targetSize addr with
  | 4 => (8 * targetOff addr + targetPos addr, 1)
  | 5 => (8 * targetOff addr + targetPos addr, 2)
  | n => (8 * targetOff addr, 8 * sizeBytes n)

/-- Two targets share a bit. -/
def targetsMeet (a b : Word) : Bool :=
  let x := targetBits a
  let y := targetBits b
  decide (x.1 < y.1 + y.2) && decide (y.1 < x.1 + x.2)

/-- The bytes a value puts at its target, given what stands there (R585). -/
def targetBytes (addr : Word) (v : DWord) (rd : Nat → Byte) : List (Nat × Byte) :=
  let o := targetOff addr
  let p := targetPos addr
  match targetSize addr with
  | 4 => [(o, (rd o &&& ~~~(1#8 <<< p)) ||| (BitVec.ofNat 8 (v.toNat % 2) <<< p))]
  | 5 => [(o, (rd o &&& ~~~(3#8 <<< p)) ||| (BitVec.ofNat 8 (v.toNat % 4) <<< p))]
  | n => (leBytes (sizeBytes n) v.toNat).zipIdx.map fun (b, i) => (o + i, b)

/-- Bytes of a target, all of which `p` admits. -/
def targetIn (addr : Word) (p : Nat → Bool) : Bool := (List.range (sizeBytes (targetSize addr))).all fun i => p (targetOff addr + i)

/-- The CPF that runs. -/
def State.cpf (s : State) : List Byte := (s.runSlot 3).bytes

/-- SIZE and alignment of a target (R313, R318): codes up to `top`, a 2-bit field at an even position. -/
def sizeOk (top : Nat) (addr : Word) : Bool :=
  let sz := targetSize addr
  decide (sz ≤ top) && (decide (3 < sz) || targetOff addr % sizeBytes sz == 0) && (sz != 5 || targetPos addr % 2 == 0)

/-! ### Online change (R313 to R317) -/

def State.laneCyc (s : State) (l : Lane) : LaneCyc := s.cyc.lanes.get l

def setCyc (l : Lane) (f : LaneCyc → LaneCyc) (s : State) : State := { s with cyc := { s.cyc with lanes := s.cyc.lanes.modify l f } }

def cycReg (s : State) (l : Lane) (off : Nat) : Word := s.reg (laneKey l off)

/-- Value VAL_HI:VAL_LO of a staged entry. -/
def stagedValue (s : State) (l : Lane) (lo : Nat) (hi : Word) : DWord := hi ++ cycReg s l lo

/-- A batch entry or command rejected: status and counter; a command also raises the interrupt. -/
def ocReject (l : Lane) (cause : Nat) (cmd : Bool) (s : State) : State :=
  s |> setCyc l (fun c => { c with oc := .rejected, ocCause := cause }) |> bumpLane l Off.CYC_OC_REJECTS
    |> when cmd (assertAt l Irq.CYC_OC_DONE)

def insOc (e : OcEntry) (l : List OcEntry) : List OcEntry :=
  insBy (fun a b => decide (a.index ≤ b.index)) e (l.filter fun x => x.index != e.index)

/-- Staging of an online-change entry by a write of CYC_OC_VAL_HI. -/
def ocStageOp (l : Lane) (hi : Word) (s0 : State) : State :=
  let s := setReg (laneKey l Off.CYC_OC_VAL_HI) hi s0
  let addr := cycReg s l Off.CYC_OC_ADDR
  if !sizeOk 4 addr then ocReject l 2 false s
  else if !targetIn addr (Config.changeable s.cpf) then ocReject l 1 false s
  else
    let e : OcEntry := ⟨fld (cycReg s l Off.CYC_OC_SEL) 0 6, addr, stagedValue s l Off.CYC_OC_VAL_LO hi⟩
    setCyc l (fun c => { c with oc := .staging, ocCause := 0, ocList := insOc e c.ocList }) s

/-- TARGET lies 2 to 32,767 cycles ahead modulo 65,536 (R314). -/
def State.targetOk (s : State) (t : Nat) : Bool :=
  let d := (t + 65536 - s.cyc.count.toNat % 65536) % 65536
  decide (2 ≤ d) && decide (d ≤ 32767)

def ocCommitOp (l : Lane) (key : Half) (s : State) : State :=
  let c := s.laneCyc l
  let t := fld (cycReg s l Off.CYC_OC_TARGET) 0 16
  if key != 0x4F43 then ocReject l 6 true s
  else if c.ocPend.isSome then ocReject l 3 true s
  else if c.ocList.isEmpty then ocReject l 5 true s
  else if !s.targetOk t then ocReject l 4 true s
  else setCyc l (fun c => { c with oc := .pending, ocCause := 0, ocPend := some c.ocList, ocList := [], ocTarget := t }) s

/-- DISCARD clears the staged entries; a pending batch stays (Table 9.11). -/
def ocDiscardOp (l : Lane) (key : Half) (s : State) : State :=
  if key != 0x4F43 then ocReject l 6 true s
  else setCyc l (fun c => { c with oc := if c.ocPend.isSome then .pending else .idle, ocCause := 0, ocList := [] }) s

/-- A write of CYC_OC_CMD. -/
def ocCmdOp (l : Lane) (v : Word) (s : State) : State :=
  let key := v.extractLsb' 16 16
  match fld v 0 4 with
  | 1 => ocCommitOp l key s
  | 2 => ocDiscardOp l key s
  | _ => ocReject l (if key != 0x4F43 then 6 else 8) true s

/-- The count modulo 65,536 has reached a target (R315). -/
def reached (count t : Nat) : Bool := decide ((count + 65536 - t) % 65536 < 32768)

/-- A lane's batch applied to the program data beneath any force (R315, R317). -/
def ocApply (l : Lane) (s : State) : State :=
  let c := s.laneCyc l
  match c.ocPend with
  | some es =>
    if reached (s.cyc.count.toNat % 65536) c.ocTarget then
      let under := (es.filter fun e => c.forces.any fun f => fld f.sel 16 2 == 2 && targetsMeet f.addr e.addr).length
      { s with cyc := { s.cyc with ocApplied := true } }
      |> setCyc l (fun c => es.foldl (fun c e => putData (targetBytes e.addr e.value (s.dataByte c)) c)
          { c with oc := .applied, ocCause := 0, ocPend := none, under := min under 255, ocSeq := c.ocSeq + 1 })
      |> bumpLane l Off.CYC_OC_APPLIED |> assertAt l Irq.CYC_OC_DONE
      |> when (s.lane0 == l) (record 0x0803 [iU32 1 (c.ocSeq.toNat + 1), iU8 2 es.length, iU8 3 (min under 255)])
    else s
  | none => s

/-! ### Forces (R318 to R325) -/

def frcReject (l : Lane) (cause : Nat) (cmd : Bool) (s : State) : State :=
  s |> setCyc l (fun c => { c with frc := .rejected, frcCause := cause }) |> bumpLane l Off.CYC_FRC_REJECTS
    |> when cmd (assertAt l Irq.CYC_FRC_DONE)

def Force.kind (f : Force) : Nat := fld f.sel 16 2
def Force.en (f : Force) : Bool := bit f.sel 24

def insForce (e : Force) (l : List Force) : List Force :=
  insBy (fun a b => decide (a.index ≤ b.index)) e (l.filter fun x => x.index != e.index)

/-- Bytes of a force's area: the input image, the output image or the program data. -/
def State.forceArea (s : State) (l : Lane) (kind : Nat) (o : Nat) : Bool :=
  match kind with
  | 0 => decide (o < 64 * fld (cycReg s l Off.CYC_IMG_CFG) 0 11)
  | 1 => decide (o < 64 * fld (cycReg s l Off.CYC_IMG_CFG) 16 11)
  | _ => Config.forceable s.cpf o

/-- Staging of a force edit by a write of CYC_FRC_VAL_HI. The removal of an entry names no target. -/
def frcStageOp (l : Lane) (hi : Word) (s0 : State) : State :=
  let s := setReg (laneKey l Off.CYC_FRC_VAL_HI) hi s0
  let sel := cycReg s l Off.CYC_FRC_SEL
  let addr := cycReg s l Off.CYC_FRC_ADDR
  let f : Force := ⟨fld sel 0 8, sel, addr, stagedValue s l Off.CYC_FRC_VAL_LO hi⟩
  if f.kind == 3 then frcReject l 1 false s
  else if f.en && !sizeOk 5 addr then frcReject l 2 false s
  else if f.en && !targetIn addr (s.forceArea l f.kind) then frcReject l 1 false s
  else setCyc l (fun c => { c with frc := .staging, frcCause := 0, frcList := insForce f c.frcList }) s

/-- The force table after edits: an entry with EN set is put, one with EN clear removed. -/
def forceEdit (tab edits : List Force) : List Force :=
  edits.foldl (fun t e => if e.en then insForce e t else t.filter fun x => x.index != e.index) tab

/-- Two active entries cover one bit of one area (R319). -/
def forceOverlap : List Force → Bool
  | [] => false
  | f :: fs => fs.any (fun g => g.kind == f.kind && targetsMeet f.addr g.addr) || forceOverlap fs

def frcCommitOp (l : Lane) (key : Half) (s : State) : State :=
  let c := s.laneCyc l
  let t := fld (cycReg s l Off.CYC_FRC_TARGET) 0 16
  if key != 0x4643 then frcReject l 6 true s
  else if c.frcPend.isSome then frcReject l 3 true s
  else if c.frcList.isEmpty then frcReject l 5 true s
  else if !s.targetOk t then frcReject l 4 true s
  else if forceOverlap (forceEdit c.forces c.frcList) then frcReject l 7 true s
  else setCyc l (fun c => { c with frc := .pending, frcCause := 0, frcPend := some c.frcList, frcList := [], frcTarget := t }) s

def frcDiscardOp (l : Lane) (key : Half) (s : State) : State :=
  if key != 0x4643 then frcReject l 6 true s
  else setCyc l (fun c => { c with frc := if c.frcPend.isSome then .pending else .idle, frcCause := 0, frcList := [] }) s

/-- A write of CYC_FRC_CMD. -/
def frcCmdOp (l : Lane) (v : Word) (s : State) : State :=
  let key := v.extractLsb' 16 16
  match fld v 0 4 with
  | 1 => frcCommitOp l key s
  | 2 => frcDiscardOp l key s
  | _ => frcReject l (if key != 0x4643 then 6 else 8) true s

/-- A lane's force commit applied (R319); the FORCE record lists the entries changed, one bit each. -/
def frcApply (l : Lane) (s : State) : State :=
  let c := s.laneCyc l
  match c.frcPend with
  | some es =>
    if reached (s.cyc.count.toNat % 65536) c.frcTarget then
      let map := es.foldl (fun a e => a ||| 2 ^ e.index) 0
      { s with cyc := { s.cyc with frcChanged := true } }
      |> setCyc l (fun c => { c with frc := .applied, frcCause := 0, frcPend := none, frcSeq := c.frcSeq + 1, forces := forceEdit c.forces es })
      |> bumpLane l Off.CYC_FRC_COMMITS |> assertAt l Irq.CYC_FRC_DONE
      |> when (s.lane0 == l) (record 0x0804 [iU32 1 (c.frcSeq.toNat + 1), iOct 2 (leBytes 32 map)])
    else s
  | none => s

/-- The forces of a kind laid over an image held as a list of bytes (R320, R321). -/
def forceImage (kind : Nat) (fs : List Force) (img : List Byte) : List Byte :=
  (fs.filter fun f => f.kind == kind).foldl
    (fun img f => (targetBytes f.addr f.value fun i => img.getD i 0).foldl (fun img p => modAt img p.1 fun _ => p.2) img) img

/-- Steps 4 and 5 of Table 9.2 for every lane in vote: force tables first, then online changes. -/
def applyBatches (s : State) : State :=
  let s1 := { s with cyc := { s.cyc with ocApplied := false, frcChanged := false } }
  let s2 := s1.lanesIn.foldl (fun s l => frcApply l s) s1
  s2.lanesIn.foldl (fun s l => ocApply l s) s2

/-! ### Process images (R297 to R306) -/

/-- Stations in rank order: image-mapped RX entries of the active table. -/
def State.stations (s : State) : List (Nat × Slot) := s.ftn.active.entries.filter fun x => x.2.enabled && x.2.rx && x.2.kind == 0 && x.2.map == 0

/-- Bytes that more than one of some intervals cover, the intervals being given by rising first byte: `e1` is the furthest end so
far, `e2` the furthest end of a doubly covered one. -/
def overlapBytes : Nat → Nat → List (Nat × Nat) → Nat
  | _, _, [] => 0
  | e1, e2, (a, b) :: rest =>
    let hi := min b e1
    (hi - max a e2) + overlapBytes (max e1 b) (max e2 hi) rest

/-- CYC_IMG_OVERLAP of a lane's configuration (R299). -/
def State.imgOverlap (s : State) (l : Lane) : Nat :=
  let len := 64 * fld (cycReg s l Off.CYC_IMG_CFG) 0 11
  let loc := cycReg s l Off.CYC_LOCAL_CFG
  let ivs := (if bit loc 8 then [(256 * fld loc 0 8, 256 * fld loc 0 8 + 256)] else []) ++
    (s.stations.map fun x => (x.2.offset, x.2.offset + x.2.plen))
  overlapBytes 0 0 (sortBy (fun a b => decide (a.1 ≤ b.1)) (ivs.map fun v => (min v.1 len, min v.2 len)))

def setOverlap (s : State) : State :=
  Lane.all.foldl (fun s l => setReg (laneKey l Off.CYC_IMG_OVERLAP) (BitVec.ofNat 32 (s.imgOverlap l)) s) s

/-- What the cycle engine does at every matrix commit: CYC_CFG is checked, the overlap and the unlisted stations are counted
(R285, R299, R306). -/
def matrixHook (s : State) : State :=
  let un := s.stations.length - 1024
  sourceCheck (Lane.all.foldl (fun s l => setReg (laneKey l Off.CYC_STN_UNLISTED) (BitVec.ofNat 32 un) s) (setOverlap s))

/-- CYC_STN_CFG of a rank; one from 1,024 on has no configuration, and its substitute is ZERO (R306; DEDUCED, log 113). -/
def State.stnCfgOf (s : State) (r : Nat) : Word := if r < 1024 then s.reg (stnKey s.lane0 r) else 0

/-- The bytes a station contributes when INVALID (R301). -/
def substitute (cfg : Word) (n : Nat) (hold : Option (List Byte)) : List Byte :=
  match fld cfg 0 2 with
  | 1 => ((hold.getD []) ++ List.replicate n 0).take n
  | 2 => List.replicate n (BitVec.ofNat 8 (fld cfg 8 8))
  | _ => List.replicate n 0

def State.rxStat (s : State) (i : Nat) : RxStat := (s.ftn.rx.find? fun r => r.entry == i).getD ⟨i, 0, 0, 0, 0, false, []⟩

def State.stationOf (s : State) (i : Nat) : Option Station := s.cyc.stations.find? fun x => x.entry == i

/-- One station at the input freeze (R300 to R303): its new state, and its bytes. A freeze at which it is INVALID neither lengthens nor ends
the run of unchanged INFO (DESIGN CHOICE, log 113). -/
def State.freezeStation (s : State) (rank : Nat) (x : Nat × Slot) : Station × List Byte :=
  let cfg := s.stnCfgOf rank
  let r := s.rxStat x.1
  let old := (s.stationOf x.1).getD ⟨x.1, 0, 0, 0, 0, 0, 0, none⟩
  let n := x.2.plen
  let bad (cause : Nat) : Station × List Byte :=
    ({ old with state := 2, cause := cause, age := min 255 (old.age + 1), reason := if cause == 2 then r.reason else 0, info := r.info },
      substitute cfg n old.hold)
  if s.ftnNode && s.ftn.su != .integrated then bad 3
  else match r.state with
    | 1 =>
      let same := if (s.stationOf x.1).isSome && r.info == old.info then old.same + 1 else 0
      let lim := fld cfg 16 8
      let stale := decide (0 < lim) && decide (lim ≤ same)
      let data := (r.data ++ List.replicate n 0).take n
      (⟨x.1, b2n stale, 0, 0, 0, r.info, same, if stale then old.hold else some data⟩, data)
    | 2 => bad 2
    | 3 => bad 1
    | _ => bad 4

/-- A station that becomes INVALID is counted and recorded (R301). -/
def stationFell (rank : Nat) (was : Option Station) (t : Station) (s : State) : State :=
  if t.state == 2 && (match was with | some w => w.state != 2 | none => true) then
    s |> bumpAll Off.CYC_STN_INVALID_CNT |> record 0x0802 [iU16 1 rank, iU16 2 t.entry, iU8 3 t.cause]
  else s

/-- Bytes that a source lays over the input image at `o`, cut at its length. -/
def cutAt (len o : Nat) (bs : List Byte) : List Byte := bs.take (len - o)

/-- DI state reported at the freeze, with the edge latch (R343). -/
def Di.frozen (cfg : Word) (d : Di) : Code :=
  match d.state with
  | .invalid => .invalid
  | .broken => .broken
  | st => if fld cfg 11 2 == 1 && d.seenOn then .on else if fld cfg 11 2 == 2 && d.seenOff then .off else st

/-- Local input block (Table 9.4). -/
def State.localIn (s : State) : List Byte :=
  let w := fun (o : Nat) => leBytes 4 (s.peek s.lane0 o).toNat
  let dis := (List.range 32).foldl (fun a n => a + ((s.di n).frozen (s.reg (Off.DIO_IN_CFG + 4 * n))).num * 4 ^ n) 0
  let grp := (List.range 6).map fun g =>
    let v := s.peek s.lane0 (Off.DIO_GRP_STATE + 4 * g)
    BitVec.ofNat 8 (fld v 0 6 + 64 * b2n (fld v 8 9 != 0))
  let ref := fld (s.reg Off.SUP_CFG) 4 2
  leBytes 8 dis ++ w Off.DIO_DO_STATE_LO ++ w Off.DIO_DO_STATE_HI ++ grp ++ List.replicate 10 0 ++ s.posRecordLe ++
  w Off.SUP_LOCK ++ w Off.SUP_FREQ ++ w Off.SUP_PHASE ++ w (Off.SUP_VAL + 4 * ref) ++ w Off.SUP_THD ++ w Off.SUP_ACTIVE ++
  (s.odo.sensors.flatMap fun x => leBytes 4 (code 32 x.seen)) ++
  ((List.range 4).flatMap fun i => w (Off.SUP_INST + 4 * i)) ++
  ((List.range 6).flatMap fun i => leBytes 2 (fld (s.peek s.lane0 (Off.ODO_IMU + 4 * i)) 0 16)) ++ List.replicate 124 0

/-- Freeze header (Table 9.6). -/
def State.freezeHeader (s : State) (delta nInvalid : Nat) : List Byte :=
  let cs := s.lanesIn.map s.laneCyc
  let c := (cs.find? fun c => decide (2 ≤ (cs.filter fun d => d.ocSeq == c.ocSeq && d.frcSeq == c.frcSeq && d.forces == c.forces).length)).getD (s.laneCyc s.lane0)
  let flags := b2n s.cyc.first + 2 * b2n (s.cyc.fallback || !s.coupled) + 4 * b2n (!c.forces.isEmpty) +
    8 * b2n (s.sys.mode == .degraded) + 16 * b2n s.cyc.ocApplied + 32 * b2n s.cyc.frcChanged
  leBytes 8 s.cyc.count.toNat ++ leBytes 4 flags ++ leBytes 4 s.cyc.skipped ++ leBytes 8 delta ++ leBytes 4 c.ocSeq.toNat ++
  leBytes 4 c.frcSeq.toNat ++ leBytes 4 nInvalid ++ List.replicate 28 0

/-- Steps 6 to 8 of Table 9.2: stations, input image, validity table, freeze header, TB_IPT, input forces; logic begins. A byte that
two sources cover takes the local block, else the entry of lowest index (R299); a byte that none covers is not written (log 16). -/
def inputFreeze (s : State) : State :=
  let l := s.lane0
  let len := 64 * fld (cycReg s l Off.CYC_IMG_CFG) 0 11
  let loc := cycReg s l Off.CYC_LOCAL_CFG
  let sts := s.stations.zipIdx.map fun (x, r) => (r, x, s.freezeStation r x)
  let nInv := (sts.filter fun t => t.2.2.1.state == 2).length
  let fell := sts.any fun t => t.2.2.1.state == 2 && (match s.stationOf t.2.1.1 with | some w => w.state != 2 | none => true)
  let tb2 := s.time.tb2.ns
  let delta := if s.cyc.first then 0 else
    match s.cyc.pointAt with
    | some p => tb2 - p
    | none => 0
  let hdr := s.freezeHeader delta nInv
  let tab := (sts.take 1024).flatMap fun t => t.2.2.1.bytes
  let s1 := sts.foldl (fun s t => stationFell t.1 (s.stationOf t.2.1.1) t.2.2.1 s) s |> when fell (raiseIrq Irq.CYC_STN_INVALID)
  let s2 := sts.reverse.foldl (fun s t => wrLanes (0x1000000000 + t.2.1.2.offset) (cutAt len t.2.1.2.offset t.2.2.2) s) s1
  let s3 := when (bit loc 8) (wrLanes (0x1000000000 + 256 * fld loc 0 8) (cutAt len (256 * fld loc 0 8) s.localIn)) s2
  let s4 := s3 |> wrLanes 0x1000020040 (tab ++ List.replicate (4096 - tab.length) 0) |> wrLanes 0x1000020000 hdr
  let s5 := s4.lanesIn.foldl (fun s l =>
    ((s.laneCyc l).forces.filter fun f => f.kind == 0).foldl (fun s f =>
      (targetBytes f.addr f.value fun i => rdByte (s.mems.get l).spad i).foldl (fun s p => wrLane l (0x1000000000 + p.1) [p.2] s) s) s) s4
  { s5 with
    time := { s5.time with ipt := [s.time.tb0.time, s.time.tb1.time, s.time.tb2.time, s.time.tb3.time] }
    dio := { s5.dio with dis := s5.dio.dis.map fun d => { d with seenOn := d.state == .on, seenOff := d.state == .off } }
    cyc := { s5.cyc with
      stations := sts.map fun t => t.2.2.1
      pointAt := some tb2, startedNo := s.cyc.count, running := true, late := false, skipped := 0
      lanes := s5.cyc.lanes.map fun l c => if s.inVote l then { c with phase := 2, startAt := s.now } else c }
    vot := s5.vot.cycleCleared }
  |> raiseIrq Irq.CYC_START

end Sys2Proof.Machine
end

