-- ==== Sys2Proof/Machine/Ftn.lean ====
section
/-! DEFINITION. Commands of the Fjoerayr network controller (spec/07): basic cycles, building, receiving and queuing of
frames, the matrix, transmit and receive buffers. -/
namespace Sys2Proof.Machine

/-! ### Basic-cycle start (R212, and what spec/08 and Table 1.9 lay at cluster-cycle starts) -/

/-- Marks that live for one basic cycle cleared. -/
def clearCycleMarks (s : State) : State :=
  { s with ftn := { s.ftn with
      rx := s.ftn.rx.map fun r => { r with got := false }
      errSeen := false, outSeen := false, sync := List.replicate 15 none
      guards := s.ftn.guards.map fun g => { g with hit := false, arbs := 0, passed := [], checks := 0 } } }

/-- A disabled protocol engine restarts, up to 3 times in an hour of operating time (Table 1.9). -/
def Engine.restart (op : Nat) (e : Engine) : Engine :=
  let recent := e.restarts.filter fun t => decide (op < t + 3600)
  if e.off && decide (recent.length < 3) then { e with off := false, restarts := op :: recent } else { e with restarts := recent }

/-- The counted cluster cycle has ended (R253): the second consecutive match integrates; counting begins at the first
cluster-cycle start after alignment. -/
def countMatch (s : State) : State :=
  if s.ftn.su == .aligned then
    match s.ftn.countFrom with
    | none => { s with ftn := { s.ftn with countFrom := some s.ftn.cycle, ccMatch := true, match_ := 0 } }
    | some _ =>
      let m := if s.ftn.ccMatch then s.ftn.match_ + 1 else 0
      let s1 := { s with ftn := { s.ftn with match_ := m, ccMatch := true } }
      if 2 ≤ m then integrate s1 else s1
  else s

/-- Whole cluster cycles without a midpoint (R258). -/
def countMidpoints (s : State) : State :=
  if s.ftn.su == .integrated then
    let n := if s.ftn.ccMid then 0 else s.ftn.noMidCc + 1
    let s1 := { s with ftn := { s.ftn with noMidCc := n, ccMid := false } }
    if max 1 (fld (s.reg Off.FTN_SU_CFG) 16 4) ≤ n then loseIntegration 2 s1 else s1
  else { s with ftn := { s.ftn with noMidCc := 0, ccMid := false } }

/-- Guardian counts of a new cluster cycle: blocked ports open again; a run of blocked cycles ends with an unblocked one (R273). -/
def Guard.newCluster (g : Guard) : Guard :=
  { g with count := 0, run := if g.blocked then g.run else 0, blocked := false }

/-- A link whose RESTORE_AT has come and was acknowledged leaves its role; the third restoration within 600 s holds it (R278, R279). -/
def restoreLink (p : Nat) (s : State) : State :=
  let l := s.link p
  match l.restoreAt with
  | some cc =>
    if cc == s.clusterNo % 1024 then
      if l.acked then
        let op := s.nv.opSeconds.toNat
        let recent := op :: l.restores.filter fun t => decide (op < t + 600)
        let hold := decide (3 ≤ recent.length)
        s |> setLink p (fun l => { l with broken := hold, held := hold, restoring := false, readyOut := false, readyIn := false,
                                          restoreAt := none, acked := false, restores := recent })
          |> bump Off.FTN_RING_RESTORES |> raiseIrq Irq.FTN_RING_RESTORED
      else setLink p (fun l => { l with restoreAt := none }) s
    else s
  | none => s

/-- What a cluster-cycle start does. -/
def clusterStart (s : State) : State :=
  let op := s.nv.opSeconds.toNat
  { s with
    sys := { s.sys with netA := s.sys.netA.restart op, netB := s.sys.netB.restart op }
    chk := { s.chk with rejected := false, announced := s.chk.announced + 1 }
    ftn := { s.ftn with
      guards := s.ftn.guards.map Guard.newCluster
      loopedPrevA := s.ftn.loopedA, loopedPrevB := s.ftn.loopedB, loopedA := false, loopedB := false } }
  |> countMidpoints |> countMatch
  |> restoreLink 0 |> restoreLink 1 |> restoreLink 2 |> restoreLink 3
  |> fun s =>
    if s.shadows.any fun x => boundaryOf (x.key % 16777216) == .shadowCluster then
      s |> commitBoundary .shadowCluster |> cpErrors |> sourceCheck
    else s

/-- The COLDSTART frame of Table 7.8, SLOT window 0b10 and the index of the node's SYNC entry (R254). -/
def sendColdstart (s : State) : State :=
  let i := ((s.ftn.active.syncs.find? fun x => x.2.owner == s.ownAddr).map (·.1)).getD 0
  let (f, s1) := ownFrame 4 (32768 + i) 65535 s.tb0 0 0 0 false
    (beBytes 4 s.ftn.matrixId.toNat ++ beBytes 2 s.ftn.attempt ++ beBytes 2 0) s
  bump Off.FTN_TX_FRAMES (sendBoth f s1)

/-- COLDSTART at each basic-cycle start, until the switch-over at the first cluster-cycle start 4 basic cycles on (R254). -/
def coldCycle (s : State) : State :=
  if s.ftn.su == .coldstart then
    match s.ftn.coldFrom with
    | none => sendColdstart { s with ftn := { s.ftn with coldFrom := some s.ftn.cycle } }
    | some c =>
      if s.bIdx == 0 && decide (c + 4 ≤ s.ftn.cycle) then
        { s with ftn := { s.ftn with su := .aligned, cold := true, countFrom := some s.ftn.cycle, ccMatch := true, match_ := 0 } }
      else sendColdstart s
  else s

/-- Basic cycle `nextCycle` begins (R212). -/
def execBasicCycleStart (s : State) : Host.Outcome State Fault Refusal :=
  .next <| when s.up (fun s =>
    let n := s.nextCycle
    let s1 := clearCycleMarks (toTb0 (n * s.matrix.t) s)
    let s2 := { s1 with ftn := { s1.ftn with cycle := n } }
    s2 |> when (s2.bIdx == 0) clusterStart |> takeRoles |> coldCycle) s

/-! ### Building of own frames (R225 to R230) -/

/-- Payload of a SYNC frame (Table 7.6). -/
def State.syncPayload (s : State) : List Byte :=
  let d : Int := ((s.time.tb1.time : Int) - (s.time.tb0.time : Int)) / 1099511627776
  beBytes 8 (code 64 (d / 256)) ++ beBytes 1 (d % 256).toNat ++ beBytes 1 (s.servoState s.time.tb0).code ++
  beBytes 1 (if fld (s.tbReg Off.TB_SERVO_CFG 1) 0 2 == 1 || fld (s.tbReg Off.TB_SERVO_CFG 1) 0 2 == 2 then (s.servoState s.time.tb1).code else 255) ++
  beBytes 1 0 ++ beBytes 4 (code 32 (satSigned 32 s.ftn.midpoint)) ++ beBytes 4 s.ftn.matrixId.toNat

/-- R228: the latest released image started more than 2 cycle times and one basic cycle before `at_`. -/
def State.stale (s : State) (at_ : Nat) : Bool :=
  match s.cyc.image with
  | some i => !s.sys.warmPause && decide (i.start + 2 * s.cycleNs + s.matrix.t < at_)
  | none => false

def State.txBuf (s : State) (b : Nat) : TxBuf := (look s.ftn.txBufs b).getD ⟨.empty, 0, 0x0000FFFF, 0, []⟩

def setTxBuf (b : Nat) (v : TxBuf) (s : State) : State :=
  { s with ftn := { s.ftn with txBufs := putC s.ftn.txBufs b ⟨.empty, 0, 0x0000FFFF, 0, []⟩ v } }

/-- Byte `i` of a transmit buffer (R244). -/
def TxBuf.byte (t : TxBuf) (i : Nat) : Byte :=
  BitVec.ofNat 8 (((look t.data (i / 4)).getD 0).toNat >>> (8 * (3 - i % 4)))

/-- Lowest-precedence NULL reason of an own DATA entry that applies (Table 7.10, R229); 0 when the entry sends DATA. -/
def State.nullReason (s : State) (e : Slot) (at_ : Nat) (bufferError : Bool) : Nat :=
  let t := s.txBuf e.buf
  let relOnly := bit t.cfg 8
  if e.map == 2 then 0
  else if s.ftn.leaving then 5
  else if s.held then 4
  else if bufferError then 6
  else match e.map with
    | 0 => if s.stale at_ then 2 else if !s.cyc.released || s.cyc.image.isNone then 1 else 0
    | 1 =>
      if t.state == .released || (t.state == .prepared && !relOnly) then 0
      else if relOnly then 3 else 1
    | _ => 1

/-- IMAGE_CYCLE of a NULL frame (Table 7.7). -/
def State.imageCycle (s : State) : Nat :=
  match s.cyc.image with
  | some i => i.cycle % 4294967296
  | none => 4294967295

/-- Value that an object-mapped entry sends. -/
def State.mappedObject (s : State) (index n : Nat) : List Byte :=
  let v := if index == 0x7000 then s.posRecord else if index == 0xF000 then s.tlm.snapshot else s.objValue none index 0
  (v ++ List.replicate n 0).take n

/-- An own frame goes out on both channels and to the entry's star ports, and is counted. -/
def emitOwn (e : Slot) (f : Frame) (s : State) : State :=
  s |> sendBoth f |> when (s.ftn.su == .integrated) (sendStars e.starFwd f) |> bump Off.FTN_TX_FRAMES

/-- A NULL frame in place of DATA. -/
def sendNull (i : Nat) (e : Slot) (tx reason : Nat) (s : State) : State :=
  let (f, s1) := ownFrame 2 i 65535 tx 0 0 (BitVec.ofNat 8 reason) false (beBytes 4 s.imageCycle) s
  let first := !s1.ftn.nullSent
  { s1 with ftn := { s1.ftn with nullSent := true } }
  |> emitOwn e f |> bump Off.FTN_TX_NULL |> when first (raiseIrq Irq.FTN_NULL_SENT)
  |> when (reason == 6) (record 0x0704 [iU16 1 i])

/-- A DATA frame of an own entry. -/
def sendData (i : Nat) (e : Slot) (tx : Nat) (s : State) : State :=
  let s0 := { s with ftn := { s.ftn with nullSent := false } }
  match e.map with
  | 0 =>
    match s.cyc.image with
    | some im =>
      let (f, s1) := ownFrame 1 i 65535 tx 0 0 (BitVec.ofNat 8 im.cycle) false
        ((slice im.data e.offset e.plen ++ List.replicate e.plen 0).take e.plen) s0
      emitOwn e f s1
    | none => s0
  | 1 =>
    let t := s.txBuf e.buf
    let rel := t.state == .released
    let (f, s1) := ownFrame 1 i (fld t.hdr 0 16) tx (fld t.hdr 16 16) (BitVec.ofNat 8 (fld t.cfg 0 8)) 0 rel
      ((List.range e.plen).map t.byte) s0
    s1 |> emitOwn e f
      |> setTxBuf e.buf { t with state := if bit t.cfg 9 && !rel then .prepared else .sent, sent := (t.sent + 1) % 65536 }
      |> when e.irq (raiseIrq Irq.FTN_TX_DONE)
  | _ =>
    let (f, s1) := ownFrame 1 i 65535 tx e.offset 0 0 false (s.mappedObject e.offset e.plen) s0
    emitOwn e f { s1 with free := s1.free + (if e.offset == 0x7000 || e.offset == 0xF000 then 0 else e.plen) }

/-- Start S of the occurrence of an own entry whose build point, S - 2 us, comes next from the present basic cycle on, and its basic cycle; none
when that point has passed (R225): what changes after it is for the next occurrence. -/
def State.buildAt (s : State) (start : Nat) : Option (Nat × Nat) :=
  let n := if 2000 ≤ start then s.ftn.cycle else s.ftn.cycle + 1
  let tx := n * s.matrix.t + start
  if s.tb0 ≤ tx - 2000 then some (n, tx) else none

/-- The build point of own entry `i` (R225). `bufferError` tells of an uncorrectable error in its data (Table 7.10), `corrupt` that the end-to-end
checks find data corrupted in the controller: fail-silent (Table 7.20). -/
def execFrameBuild (i : Nat) (bufferError corrupt : Bool) (s : State) : Host.Outcome State Fault Refusal :=
  .next (match s.ftn.active.entry i with
    | none => s
    | some e =>
      match s.buildAt e.start with
      | none => s
      | some (n, tx) =>
        let s1 := toTb0 (tx - 2000) s
        if !(s.up && e.owner == s.ownAddr && e.occurs (n % s.matrix.m)) then s
        else if corrupt then hubFail s1
        else if e.kind == 1 then
          if s.ftn.su == .integrated || (s.ftn.su == .aligned && s.ftn.cold && s.syncNode && s.ftn.countFrom.isSome) then
            let (f, s2) := ownFrame 3 i 65535 tx 0 0 0 false s1.syncPayload s1
            emitOwn e f s2
          else s
        else if e.kind == 0 && s.ftn.su == .integrated then
          let r := s1.nullReason e tx bufferError
          if r == 0 then sendData i e tx s1 else sendNull i e tx r s1
        else s)

/-! ### Reception (R231 to R241) -/

/-- The first check failure of a basic cycle raises FTN_RX_ERROR. -/
def checkFailed (cnt : Nat) (s : State) : State :=
  let s1 := bump cnt s
  if s1.ftn.errSeen then s1 else raiseIrq Irq.FTN_RX_ERROR { s1 with ftn := { s1.ftn with errSeen := true } }

/-- Check 2 of R236 with R210 and R221. -/
def headerOk (f : Frame) : Bool :=
  f.etherType == 0x88B6 && !f.vlan && f.version == 1 && decide (1 ≤ f.kind) && decide (f.kind ≤ 6) &&
  decide (f.plen ≤ 1472) && f.payload.length == f.plen && f.pad == 18 - f.plen && decide (f.source ≤ 16383) &&
  (decide (f.dest ≤ 16383) || f.dest == 65535)

/-- Check 4 of R236: TX_TIME, extended against the module's TB0, is the start S of the entry's occurrence in the basic
cycle that CYCLE names. -/
def State.slotOk (s : State) (f : Frame) : Bool :=
  match s.ftn.active.entry (frameEntry f) with
  | none => false
  | some e =>
    let tx := extend f.txTime s.tb0
    let n := (tx / (s.matrix.t : Int)).toNat
    e.owner == f.source && e.occurs (n % s.matrix.m) && f.cycle == cycleField s.matrix.m n &&
      tx == (n * s.matrix.t + e.ringStart : Nat)

/-- Verdict of R236 and R237 on a frame. -/
inductive Verdict where
  | fail (counter : Nat)
  | old
  | second (same : Bool)
  | accept (gap : Nat)
  deriving DecidableEq, Repr

/-- SEQ check (R237). -/
def State.seqCheck (s : State) (f : Frame) : Verdict :=
  match s.ftn.last.find? fun x => x.source == f.source && x.slot == f.slot with
  | none => .accept 0
  | some x =>
    let d := (f.seq + 65536 - x.seq) % 65536
    if d == 0 then .second (x.copy == frameBody f)
    else if d ≤ 32767 then .accept (d - 1) else .old

/-- Checks of R236 in their order. -/
def State.verdict (s : State) (f : Frame) : Verdict :=
  if !f.fcsOk then .fail Off.FTN_RX_FCS_ERR
  else if !headerOk f then .fail Off.FTN_RX_BAD_HDR
  else if f.e2e != frameCrc f then .fail Off.FTN_RX_CRC_ERR
  else if frameWindow f == 0 && !s.slotOk f then .fail Off.FTN_RX_WRONG_SLOT
  else s.seqCheck f

/-- The frame becomes the last accepted of its SOURCE and SLOT, with its channel and the hub clock edge at which it passed. -/
def keepSeq (chanB : Bool) (edge : Option Nat) (f : Frame) (s : State) : State :=
  { s with ftn := { s.ftn with last := ⟨f.source, f.slot, f.seq, frameBody f, chanB, edge⟩ ::
      (s.ftn.last.filter fun x => !(x.source == f.source && x.slot == f.slot)) } }

/-- MATRIX_ID of a SYNC or COLDSTART frame. -/
def frameMatrixId (f : Frame) : Word := BitVec.ofNat 32 (beAt f.payload (if f.kind == 3 then 16 else 0) 4)

/-- Deviation of a copy in 1/256 ns and whether it rests on a valid path delay (R266). -/
def State.deviation (s : State) (chanB : Bool) (f : Frame) (stamp : Int) : Int × Bool :=
  let tx := extend f.txTime (stamp / 256)
  let pd := (s.ftn.active.syncIndex f.source).bind fun j => s.pathDelay chanB j
  let d : Int := match pd with
    | some d => d
    | none => (f.hop + 1) * ((s.matrix.hop : Int) - 2800) * 256
  (stamp - (tx * 256 + f.hop * 2800 * 256 + d), pd.isSome)

/-- The copy used of a sync node in this basic cycle: lowest HOP, channel A among equals (R267). -/
def useCopy (j : Nat) (v : SyncVal) (s : State) : State :=
  { s with ftn := { s.ftn with sync := modAt s.ftn.sync j fun o =>
      match o with
      | none => some v
      | some u => if v.hop < u.hop || (v.hop == u.hop && u.chanB && !v.chanB) then some v else some u } }

/-- A SYNC frame that does not carry the node's MATRIX_ID, or not its own CYCLE, fails its basic cycle for R253. -/
def missMatch (s : State) : State := { s with ftn := { s.ftn with ccMatch := false, match_ := 0 } }

/-- Every accepted SYNC or COLDSTART frame starts the listen timeout of a node in LISTEN anew (R250). -/
def heardSync (s : State) : State := when (s.ftn.su == .listen) (fun s => { s with ftn := { s.ftn with suDue := s.listenDue } }) s

/-- An accepted SYNC frame's CYCLE against the node's own, looped copies included (R253). -/
def checkCycle (f : Frame) (s : State) : State := when (f.kind == 3 && f.cycle != cycleField s.matrix.m s.ftn.cycle) missMatch s

/-- Alignment at an accepted frame (R251), its deviation the first offset input of TB0. -/
def align (f : Frame) (d : Int) (s : State) : State :=
  tb0Input d
    { s with ftn := { s.ftn with su := .aligned, leaderOf := f.source, cold := f.kind == 4, leader := false, match_ := 0,
                                 countFrom := none, coldFrom := none } }

/-- Synchronisation and start-up effect of a SYNC or COLDSTART copy (R250 to R257, R266, R267); `first` for an accepted one, `stamp` the ingress
stamp, none where the port gives no time measurements (R139 to R143). A value without valid path delays serves alignment only: until the node is
integrated, where R253 keeps it from a match (DEDUCED, log 110). -/
def syncCopy (chanB first : Bool) (f : Frame) (stamp : Option Int) (s0 : State) : State :=
  let s := when first (fun s => checkCycle f (heardSync s)) s0
  if frameMatrixId f != s.ftn.matrixId then
    when first (fun s => s |> when (f.kind == 3) missMatch |> bump Off.FTN_SU_MISMATCH |> raiseIrq Irq.FTN_MATRIX_MISMATCH) s
  else
    let clash := first && f.kind == 4 && f.source != s.ownAddr &&
      (s.ftn.su == .coldstart || (s.ftn.su == .aligned && s.ftn.cold && (s.ftn.leader || f.source != s.ftn.leaderOf)))
    if clash then collision s
    else match stamp with
      | none => s
      | some t =>
        let (d, pd) := s.deviation chanB f t
        if first && !f.looped && (s.ftn.su == .listen || s.ftn.su == .backoff) then align f d s
        else if f.looped || (s.ftn.su == .integrated && (f.kind == 4 || !pd)) then s
        else match s.ftn.active.syncIndex f.source with
          | some j => useCopy j ⟨d, f.hop, chanB, pd⟩ s
          | none => s

/-- The line time that an accepted SYNC frame carries, as an input of TB1 where TB_CFG selects FTN (R136): e = own TB1 − (TB0 + (TB1 − TB0 of the
source)), base minus reference as R126 has it (DEDUCED, log 60); none from a source that does not use TB1. -/
def lineTime (f : Frame) (s : State) : State :=
  when (f.kind == 3 && fld (s.maj Off.TB_CFG) 0 2 == 3 && beAt f.payload 10 1 != 255) (fun s =>
    let d : Int := ((s.time.tb1.time : Int) - (s.time.tb0.time : Int)) / 1099511627776
    servoInput 1 (satSigned 32 (d - (signed 64 (beAt f.payload 0 8) * 256 + (beAt f.payload 8 1 : Int)))) s) s

def State.rxOf (s : State) (i : Nat) : RxStat := (s.ftn.rx.find? fun r => r.entry == i).getD ⟨i, 0, 0, 0, 0, false, []⟩

def setRx (r : RxStat) (s : State) : State :=
  { s with ftn := { s.ftn with rx := r :: (s.ftn.rx.filter fun x => x.entry != r.entry) } }

def State.rxBuf (s : State) (b : Nat) : RxBuf := (look s.ftn.rxBufs b).getD ⟨none, 0, false, 0, 0, false, 0, false, 0⟩

def setRxBuf (b : Nat) (v : RxBuf) (s : State) : State := { s with ftn := { s.ftn with rxBufs := put s.ftn.rxBufs b v } }

/-- Star ports that receive a frame (R234): those of its entry; for an arbitrating frame the port of DEST, or the broadcast ports. -/
def State.starMask (s : State) (f : Frame) : Nat :=
  match frameWindow f with
  | 0 => ((s.ftn.active.entry (frameEntry f)).map Slot.starFwd).getD 0
  | 1 =>
    if f.dest == 65535 then fld (s.reg Off.FTN_STAR_BCAST) 0 16
    else if f.dest / 256 == s.ownAddr / 256 && f.dest != s.ownAddr then 2 ^ starOf f.dest else 0
  | _ => 0

/-- Link-local SERVICE frames (R261). -/
def linkLocal (f : Frame) : Bool := f.kind == 5 && (f.info == 2 || f.info == 3 || f.info == 4)

/-- Cut-through forwarding of a trunk frame (R231, R232, R276): the frame as it leaves, on the main direction or, looped, in the
counter-direction. -/
def forward (port : Nat) (f : Frame) (s : State) : State :=
  let chanB := port == 2 || port == 3
  let g := { f with hop := f.hop + 1 }
  let role := if chanB then s.ftn.roleB else s.ftn.roleA
  if f.looped then
    if role == .tail then s else send (.frame (if chanB then 2 else 1) g) s
  else sendChan chanB g s

/-! ### Arbitration (R235) -/

/-- Queue order of R235: lowest SOURCE, then the earliest. -/
def pickArb : List Queued → Option Queued
  | [] => none
  | q :: qs =>
    match pickArb qs with
    | some r => if r.frame.source < q.frame.source then some r else some q
    | none => some q

/-- An own frame gets its TX_TIME, CYCLE, SEQ, flags and E2E_CRC as it is sent (R223, R224); a star frame goes as it came. -/
def finishArb (tx : Nat) (f : Frame) (s : State) : Frame × State :=
  if f.source == s.ownAddr then
    ownFrame f.kind 0x7FFF f.dest tx f.objIndex f.objSub f.info false f.payload s
  else (f, s)

/-- Own DATA frames join the arbitrating queue. What puts them there the spec does not say: they come with the occurrence (DESIGN CHOICE,
log 111). -/
def queueOwn (ds : List ArbData) (s : State) : State :=
  ds.foldl (fun s d =>
    let (f, _) := ownFrame 1 0x7FFF d.dest s.tb0 d.objIndex d.objSub 0 false d.payload s
    queueArb f s) s

/-- The build point of an own minislot (R225, R235): the frame chosen leaves on both channels, to the star ports of the entry, and to those of its
destination (R234). -/
def execArbOccurrence (i : Nat) (own : List ArbData) (s : State) : Host.Outcome State Fault Refusal :=
  .next (match s.ftn.active.entry i with
    | none => s
    | some e =>
      match s.buildAt e.start with
      | none => s
      | some (n, tx) =>
        if s.up && s.ftn.su == .integrated && e.kind == 2 && e.owner == s.ownAddr && e.occurs (n % s.matrix.m) then
          let s1 := queueOwn own (toTb0 (tx - 2000) s)
          match pickArb s1.ftn.arb with
          | none => s1
          | some q =>
            let (f, s2) := finishArb tx q.frame { s1 with ftn := { s1.ftn with arb := s1.ftn.arb.erase q } }
            s2 |> sendBoth f |> sendStars (e.starFwd ||| s2.starMask f) f |> when (f.source == s.ownAddr) (bump Off.FTN_TX_FRAMES)
        else s)

/-- Frames queued for more than ARB_AGE basic cycles are discarded and counted (R235). -/
def execArbAgeExpiry (s : State) : Host.Outcome State Fault Refusal :=
  .next (
    let age := max 1 (fld (s.reg Off.FTN_ARB_CFG) 28 4)
    let keep := s.ftn.arb.filter fun q => decide (s.ftn.cycle ≤ q.cycle + age)
    let n := s.ftn.arb.length - keep.length
    if n == 0 then s else
      { s with ftn := { s.ftn with arb := keep } } |> bumpBy Off.FTN_ARB_DROP n |> raiseIrq Irq.FTN_ARB_DROP)

/-! ### Network idle time (R240, R268) -/

/-- One RX entry whose occurrence brought nothing (R240). -/
def markMissing (x : Nat × Slot) (s : State) : State :=
  let r := s.rxOf x.1
  if x.2.rx && x.2.kind != 2 && x.2.occurs s.bIdx && !r.got then
    let s1 := setRx { r with state := 3, count := (r.count + 1) % 65536 } s
      |> bump Off.FTN_RX_MISSING |> when x.2.irq (raiseIrq Irq.FTN_RX_MISSING)
    if x.2.map == 1 then
      let b := s1.rxBuf x.2.buf
      setRxBuf x.2.buf { b with state := 3, count := (b.count + 1) % 65536 } s1
    else s1
  else s

/-- Values of this basic cycle with the node's own, as deviations in 1/256 ns (R266 to R268). -/
def State.syncValues (s : State) : List SyncVal :=
  s.ftn.sync.filterMap id ++ (if s.syncNode then [⟨0, 0, false, true⟩] else [])

/-- Midpoint of values that are not empty: the mean of the ends after k at each end are dropped, towards zero (R268). -/
def midpointOf (vs : List Int) (k : Nat) : Int :=
  let l := sortBy (fun a b => decide (a ≤ b)) vs
  let m := (l.drop k).take (l.length - 2 * k)
  (m.headD 0 + m.getLastD 0).tdiv 2

/-- The midpoint is formed and reaches the servo of TB0; matching (R253) and the losses of R258 follow from it. -/
def formMidpoint (s : State) : State :=
  let win : Nat := max 1 (fld (s.reg Off.FTN_SU_CFG) 8 8) * 100 * 256
  let all := s.syncValues
  let ok := all.filter fun v => decide (v.dev.natAbs ≤ win)
  let out := all.length - ok.length
  let n := ok.length
  let k := if n ≤ 2 then 0 else if n ≤ 7 then 1 else 2
  let valid := !(n == 0 || (s.syncNode && decide (n < 2)))
  let mid := if valid then midpointOf (ok.map (·.dev)) k else s.ftn.midpoint
  let full := ok.all (·.pd)
  let stepLim : Nat := max 1 (fld (s.tbReg Off.TB_SERVO_CFG 0) 24 8) * 256000
  let good := valid && full && decide (mid.natAbs ≤ stepLim) && (!s.syncNode || decide (2 ≤ n))
  let others := n - b2n s.syncNode
  let clique := if others < out then s.ftn.clique + 1 else 0
  let firstOut := decide (0 < out) && !s.ftn.outSeen
  let firstBad := !valid && s.ftn.noMidRun == 0
  let s1 := { s with ftn := { s.ftn with
      midValid := valid, midpoint := mid, used := n, out := out, k := k, fullPd := full, clique := clique
      outSeen := s.ftn.outSeen || decide (0 < out)
      ccMid := s.ftn.ccMid || valid
      ccMatch := s.ftn.ccMatch && good, match_ := if good then s.ftn.match_ else 0
      noMidRun := if valid then 0 else s.ftn.noMidRun + 1 } }
    |> bumpBy Off.FTN_SYNC_OUT_WINDOW out |> when firstOut (raiseIrq Irq.FTN_SYNC_OUT_WINDOW)
    |> when firstBad (raiseIrq Irq.FTN_SYNC_INVALID)
    |> when (!valid && s.ftn.su == .integrated) (bump Off.FTN_SYNC_NO_MIDPOINT)
    |> when valid (tb0Input mid)
  if 2 ≤ clique then loseIntegration 3 { s1 with ftn := { s1.ftn with clique := 0 } }
  else s1

/-- The network idle time of the present basic cycle begins. -/
def execNitStart (s : State) : Host.Outcome State Fault Refusal :=
  .next <| when (s.up && s.ftn.su != .stopped) (fun s =>
    let s1 := toTb0 (s.ftn.cycle * s.matrix.t + s.matrix.t - s.matrix.nit) s
    formMidpoint (s1.ftn.active.entries.foldl (fun s x => markMissing x s) s1)) s

/-! ### Matrix commands (R213 to R220, R247, R271) -/

/-- A matrix register as the commit would take it: pending, else active. -/
def State.nextReg (s : State) (key : Nat) : Word := (s.pendingAt key).getD (s.reg key)

/-- Checks of R219 on the shadow matrix: cause of Table 7.14 and entry; cause 0 when it passes. The least number of SYNC entries is not asked of an
empty matrix where FTN_NODE is 0 (DEDUCED, log 72). -/
def State.matrixCheck (s : State) : Nat × Nat :=
  let node := s.nextReg Off.FTN_NODE_CFG
  let cfg := s.nextReg Off.FTN_MATRIX_CFG
  let cfg2 := s.nextReg Off.FTN_MATRIX_CFG2
  let arb := s.nextReg Off.FTN_ARB_CFG
  let guard := s.nextReg Off.FTN_GUARD_CFG
  let mx := matrixOf cfg cfg2 arb
  let own := fld node 0 14
  let tab := s.ftn.shadow
  let en := tab.entries.filter fun x => x.2.enabled
  let syncs := tab.syncs
  let owners := syncs.map fun x => x.2.owner
  let isNode := bit node 16
  let bad := !isRing own || fld cfg 13 3 == 7 || decide (fld cfg 0 13 < 100) || decide (4000 < fld cfg 0 13) ||
    decide (fld cfg 24 8 < 5) || decide (mx.t < mx.arbAt + 2000 * mx.arbs + mx.nit) || fld cfg2 0 16 % 4 != 0 ||
    fld guard 0 10 % 4 != 0 || decide (mx.margin < fld guard 0 10) ||
    decide (4096 < (en.filter fun x => !isRing x.2.owner && x.2.owner / 256 == own / 256).length) ||
    ((isNode || !en.isEmpty) && decide (syncs.length < 3)) || decide (15 < syncs.length) || !owners.Nodup ||
    syncs.any (fun x => !isRing x.2.owner || x.2.rep != 0) || (bit node 18 && !bit node 17) || owners.contains own != bit node 17
  if bad then (2, 0) else
    match en.find? fun x => !x.2.fieldsOk mx own with
    | some x => (3, x.1)
    | none =>
      match firstCollision mx (own / 256) en with
      | some i => (4, i)
      | none =>
        match en.find? fun x => [false, true].any fun c => decide (10 * (mx.t - mx.nit) < (x.2.span mx (own / 256) c).2) with
        | some x => (5, x.1)
        | none => (0, 0)

/-- A matrix command is rejected (R219); a commit refused is counted and reported. -/
def matrixReject (cause entry : Nat) (isCommit : Bool) (s : State) : State :=
  { s with ftn := { s.ftn with matrix := ⟨3, cause, entry⟩ } }
  |> when isCommit (fun s => raiseIrq Irq.FTN_MATRIX_DONE (bump Off.FTN_WRITE_REJECTS s))

/-- A port that is no longer in use has its PHY off (R28, R29): its link goes down, and a trunk link is then broken. -/
def portsOff (s : State) : State :=
  (List.range 22).foldl (fun s p =>
    if (s.port p).up && !s.portUsed p then
      s |> setPort p Port.down |> when (decide (p < 4)) (setLink p fun l => { l with broken := true, good := 0, restoring := false })
    else s) s

/-- The shadow matrix becomes the active one. -/
def matrixTake (s : State) : State :=
  let s1 := portsOff (commitBoundary .shadowMatrix s)
  { s1 with ftn := { s1.ftn with
      active := s1.ftn.shadow, shadowDirty := false, matrix := ⟨2, 0, 0⟩, sync := List.replicate 15 none
      matrixId := matrixId (s1.reg Off.FTN_MATRIX_CFG) (s1.reg Off.FTN_MATRIX_CFG2) (s1.reg Off.FTN_ARB_CFG) s1.ftn.shadow } }
  |> cpErrors |> matrixHook |> raiseIrq Irq.FTN_MATRIX_DONE

/-- FTN_MATRIX_CMD COMMIT with its key. -/
def matrixCommitOp (key : Half) (s : State) : State :=
  if key != 0x4D58 then matrixReject 6 0 true s
  else if bit (s.reg Off.FTN_CTRL) 0 then matrixReject 1 0 true s
  else
    let c := s.matrixCheck
    if c.1 = 0 then matrixTake s else matrixReject c.1 c.2 true s

def execMatrixCommit (key : Half) (s : State) : Host.Outcome State Fault Refusal := .next (when s.up (matrixCommitOp key) s)

/-- FTN_MATRIX_CMD DISCARD: shadow table and pending matrix registers reloaded from the active ones. -/
def matrixDiscardOp (key : Half) (s : State) : State :=
  if key != 0x4D58 then matrixReject 6 0 false s
  else
    { s with
      shadows := s.shadows.filter fun x => boundaryOf (x.key % 16777216) != .shadowMatrix
      ftn := { s.ftn with shadow := s.ftn.active, shadowDirty := false, matrix := ⟨2, 0, 0⟩ } }

def execMatrixDiscard (key : Half) (s : State) : Host.Outcome State Fault Refusal := .next (when s.up (matrixDiscardOp key) s)

/-- A write of FTN_SLOT_W4: the shadow entry selected takes W0 to W3 and this word (R245, Table 7.15). -/
def slotW4Op (v : Word) (s : State) : State :=
  let sel := s.reg Off.FTN_SLOT_SEL
  if bit sel 16 then bump Off.FTN_WRITE_REJECTS s
  else
    let e : Slot := ⟨s.reg Off.FTN_SLOT, s.reg (Off.FTN_SLOT + 4), s.reg (Off.FTN_SLOT + 8), s.reg (Off.FTN_SLOT + 12), v &&& 0xFFFF#32⟩
    let s1 := setReg (Off.FTN_SLOT + 16) v s
    { s1 with ftn := { s1.ftn with shadow := ⟨putC s1.ftn.shadow.entries (fld sel 0 14) ⟨0, 0, 0, 0, 0⟩ e⟩, shadowDirty := true } }

def execSlotW4Write (v : Word) (s : State) : Host.Outcome State Fault Refusal := .next (when s.up (slotW4Op v) s)

/-! ### Buffers (R230, R244 to R246) -/

/-- Transmit buffer that FTN_TXB_SEL selects. -/
def State.txSel (s : State) : Nat := fld (s.reg Off.FTN_TXB_SEL) 0 8

def txState (v : TxState) (s : State) : State := setTxBuf s.txSel { s.txBuf s.txSel with state := v } s

def execTxbPrepare (s : State) : Host.Outcome State Fault Refusal := .next (when s.up (txState .prepared) s)

def execTxbCancel (s : State) : Host.Outcome State Fault Refusal := .next (when s.up (txState .empty) s)

/-- A write to FTN_TXB_HDR, FTN_TXB_CFG or FTN_TXB_DATA of the selected buffer; refused while it is prepared or released (R245). -/
def txbWriteOp (off : Nat) (v : Word) (s : State) : State :=
  let t := s.txBuf s.txSel
  if t.state == .prepared || t.state == .released then bump Off.FTN_WRITE_REJECTS s
  else if off == Off.FTN_TXB_HDR then setTxBuf s.txSel { t with hdr := v } s
  else if off == Off.FTN_TXB_CFG then setTxBuf s.txSel { t with cfg := v &&& 0x3FF#32 } s
  else if Off.FTN_TXB_DATA ≤ off && off < Off.FTN_TXB_DATA + 1472 then
    setTxBuf s.txSel { t with data := putC t.data ((off - Off.FTN_TXB_DATA) / 4) 0 v } s
  else s

def execTxbWrite (off : Nat) (v : Word) (s : State) : Host.Outcome State Fault Refusal := .next (when s.up (txbWriteOp off v) s)

/-- A write of FTN_RXB_SEL: the latest frame of the buffer is frozen (R246) and counts as read (R241). -/
def rxbSnapshotOp (v : Word) (s : State) : State :=
  let b := s.rxBuf (fld v 0 8)
  let s1 := setReg Off.FTN_RXB_SEL v s
  { s1 with ftn := { s1.ftn with
      snapshot := some b
      rxBufs := if b.unread then put s1.ftn.rxBufs (fld v 0 8) { b with unread := false } else s1.ftn.rxBufs } }

def execRxbSnapshot (v : Word) (s : State) : Host.Outcome State Fault Refusal := .next (when s.up (rxbSnapshotOp v) s)

end Sys2Proof.Machine
end

