-- ==== Sys2Proof/Machine/FtnSync.lean ====
section
/-! DEFINITION. Commands of start-up, link checks, guardian engine and ring healing (spec/08). -/
namespace Sys2Proof.Machine

/-! ### Participation and start-up (R249 to R257) -/

/-- FTN_CTRL.RUN set: STOPPED passes to LISTEN, and the attempts are counted anew (R249, R256). -/
def runSetOp (s : State) : State :=
  let s1 := setReg Off.FTN_CTRL (s.reg Off.FTN_CTRL ||| 1#32) s
  { s1 with ftn := { s1.ftn with
      attempt := if bit (s.reg Off.FTN_CTRL) 0 then s1.ftn.attempt else 0
      exhausted := if bit (s.reg Off.FTN_CTRL) 0 then s1.ftn.exhausted else false
      su := if s1.ftn.su == .stopped then .listen else s1.ftn.su
      suDue := if s1.ftn.su == .stopped then s1.listenDue else s1.ftn.suDue } }

def execRunSet (s : State) : Host.Outcome State Fault Refusal := .next (when s.up runSetOp s)

/-- FTN_CTRL.RUN cleared: an integrated node sends LEAVING for one cluster cycle, any other is STOPPED (R249, Table 7.10). -/
def runClearOp (s : State) : State :=
  let s1 := setReg Off.FTN_CTRL (s.reg Off.FTN_CTRL &&& ~~~1#32) s
  if s1.ftn.su == .integrated then { s1 with ftn := { s1.ftn with leaving := true } }
  else
    { s1 with ftn := { s1.ftn with
        su := .stopped, cold := false, leader := false, coldFrom := none, countFrom := none, match_ := 0
        exit := if s1.ftn.su == .aligned then 4 else s1.ftn.exit } }

def execRunClear (s : State) : Host.Outcome State Fault Refusal := .next (when s.up runClearOp s)

/-- One cluster cycle after RUN was cleared: integration ends with cause RUN_CLEARED and the state is STOPPED, or LISTEN when RUN
has been set again (R249, R258). -/
def leavingEndOp (s : State) : State :=
  if s.ftn.leaving then
    let s1 := loseIntegration 4 { s with ftn := { s.ftn with leaving := false } }
    { s1 with ftn := { s1.ftn with su := if bit (s.reg Off.FTN_CTRL) 0 then .listen else .stopped, suDue := s1.listenDue } }
  else s

def execLeavingEnd (s : State) : Host.Outcome State Fault Refusal := .next (leavingEndOp s)

/-- The listen timeout of a cold-start node ends at its instant, which every SYNC or COLDSTART frame accepted meanwhile has put off (R250, R259); once
COLD_EXHAUSTED it no longer cold-starts (R256). -/
def execListenTimeout (s : State) : Host.Outcome State Fault Refusal :=
  .next (when (s.ftn.su == .listen && s.coldNode && !s.ftn.exhausted) (fun s => enterColdstart (advanceTo s.ftn.suDue s)) s)

/-- The back-off ends at its instant (R257): COLDSTART, or LISTEN once ATTEMPT has reached COLD_MAX (Table 8.1). -/
def execBackoffEnd (s : State) : Host.Outcome State Fault Refusal :=
  .next (when (s.ftn.su == .backoff) (fun s =>
    let s1 := advanceTo s.ftn.suDue s
    if s1.ftn.exhausted then toListen s1 else enterColdstart s1) s)

/-- A COLD node not integrated within COLD_ABORT cluster cycles of its first counted cluster-cycle start (R256). -/
def execColdAbort (s : State) : Host.Outcome State Fault Refusal :=
  .next (
    let lim := max 1 (fld (s.reg Off.FTN_SU_CFG) 4 4) * s.matrix.m
    let due := match s.ftn.countFrom with
      | some n => decide (n + lim ≤ s.ftn.cycle)
      | none => false
    if s.ftn.su == .aligned && s.ftn.cold && due then
      if s.ftn.leader then
        { s with ftn := { s.ftn with su := .backoff, suDue := s.backoffDue, cold := false, leader := false, coldFrom := none, countFrom := none, match_ := 0, exit := 5 } }
      else toListen { s with ftn := { s.ftn with exit := 5 } }
    else s)

/-! ### Link checks (R260 to R264) -/

/-- Transmit stamp of the present instant, 1/256 ns of TB0. -/
def State.stamp (s : State) : Int := (s.time.tb0.time / 1099511627776 : Nat)

/-- Limit of a trunk link's delay in 1/256 ns (R275). -/
def State.longLimit (s : State) : Int := ((s.matrix.hop : Int) - 2800) * 256

def State.linkLong (s : State) (p : Nat) : Bool :=
  match (s.port p).linkDelay with
  | some d => decide (s.longLimit < d)
  | none => false

/-- FLAGS of a LINK_CHECK to port `p` (Table 8.3). -/
def State.checkFlags (s : State) (p : Nat) : Nat :=
  let g := s.ftn.guards.getD (p - 4) Reset.guard
  let role := if p == 0 || p == 1 then s.ftn.roleA else s.ftn.roleB
  let star := decide (4 ≤ p) && decide (p < 20)
  b2n (s.ftn.su == .integrated) + 2 * b2n (star && (s.port p).offsetOver) + 4 * b2n (star && g.tell) +
  8 * b2n (star && g.blocked) + 16 * b2n (star && g.disabled) +
  32 * b2n (decide (p < 4) && (role == .head || role == .tail)) + 64 * b2n (decide (p < 4) && s.linkLong p)

/-- What a LINK_CHECK echoes of the partner's last one: its SEQ and ingress stamp. One older than 2^31 - 1 ns is outside the reference that its
consumer extends it by, and is marked invalid as none (R117). -/
def Port.echo (x : Port) (t1 : Int) : Option (Nat × Int) :=
  if x.echoSeq == 65535 || decide (2147483647 * 256 < t1 - x.echoRx) then none else some (x.echoSeq, x.echoRx)

/-- Payload of a LINK_CHECK (Table 8.3); `t1` is its egress stamp. -/
def State.checkPayload (s : State) (p : Nat) (t1 : Int) : List Byte :=
  let port := s.port p
  let echo := port.echo t1
  let main := p == 0 || p == 3
  let pds := (List.range 15).map fun j => if main then s.pathDelay (p == 3) j else none
  let valid := (pds.zipIdx.foldl (fun a x => a + (if x.1.isSome then 2 ^ x.2 else 0)) 0)
  beBytes 1 (s.checkFlags p) ++ beBytes 1 (t1 % 256).toNat ++ beBytes 1 p ++ beBytes 1 0 ++
  beBytes 2 ((echo.map (·.1)).getD 65535) ++ beBytes 2 valid ++
  beBytes 4 ((echo.map fun e => code 32 (e.2 / 256)).getD 0) ++
  beBytes 1 ((echo.map fun e => (e.2 % 256).toNat).getD 0) ++ beBytes 3 0 ++
  beBytes 4 (match port.linkDelay with | some d => code 32 d | none => 4294967295) ++
  beBytes 4 (match port.offset with | some d => code 32 (satSigned 32 d) | none => 2147483648) ++
  (if main then pds.flatMap (fun d => beBytes 4 (d.getD 0)) else [])

/-- Egress stamp at port `p`'s connector of a frame sent now (R139). -/
def State.egress (s : State) (p : Nat) : Int := s.stamp + txCorr p

/-- A link-local SERVICE frame onto one port, its TX_TIME the egress stamp (R223). -/
def sendLocal (p : Nat) (info : Byte) (payload : List Byte) (s : State) : State :=
  let (f, s1) := ownFrame 5 0xC000 65535 (s.egress p / 256).toNat 0 0 info false payload s
  send (.frame p f) s1

/-! ### Port calibration in the network idle time (R140, R141) -/

/-- CALIBRATION payload (Table 8.4): OP, PROBE_NO, own deviation, and for a REPLY the stamps t1 and t2 in 1/256 ns. -/
def calPayload (op no p : Nat) (tx dev t1 t2 : Int) : List Byte :=
  beBytes 1 op ++ beBytes 1 no ++ beBytes 1 p ++ beBytes 1 (tx % 256).toNat ++ beBytes 4 (code 32 dev) ++
  beBytes 4 (code 32 (t1 / 256)) ++ beBytes 4 (code 32 (t2 / 256)) ++ beBytes 1 (t1 % 256).toNat ++ beBytes 1 (t2 % 256).toNat ++
  beBytes 6 0

def sendCal (p op no : Nat) (dev t1 t2 : Int) (s : State) : State := sendLocal p 3 (calPayload op no p (s.egress p) dev t1 t2) s

/-- 16 PROBE frames from number `no` on. -/
def sendProbes (p no : Nat) (s : State) : State := (List.range 16).foldl (fun s i => sendCal p 2 ((no + i) % 64) 0 0 0 s) s

/-- A calibration of port `p` starts: measuring, with the deviation that the port's PHY reports after training; its value is the
PHY's (log 19). -/
def calStart (p : Nat) (s : State) : State :=
  let dev := satSigned 16 (Config.freeInt s.free)
  { s with free := s.free + 1 }
  |> setPort p (fun x => { x with cal := .measuring, calRun := true, calStep := 0, dev := dev, partnerDev := none, loopMeas := [],
                                  wayMeas := [], noLoop := false })
  |> setReg (Off.FTN_TS_CORR + 4 * p) (mkWord [(0, code 16 dev), (16, 1)])

/-- FTN_TS_CAL_STATUS: STATE and CAUSE; the speed-mismatch count stands. -/
def calStatus (state cause : Nat) (s : State) : State :=
  setReg Off.FTN_TS_CAL_STATUS ((s.reg Off.FTN_TS_CAL_STATUS &&& 0xFFFF00#32) ||| mkWord [(0, state), (4, cause)]) s

/-- Mean of a list of delays. -/
def meanInt (l : List Int) : Int := if l.isEmpty then 0 else l.foldl (· + ·) 0 / (l.length : Int)

/-- The end of a calibration (R140, R141): FROZEN or FAILED by its residual when the partner gave its deviation and all loops, NOMINAL
otherwise. The residual that FTN_TS_CORR shows of a NOMINAL port, which has none, is 0 (DESIGN CHOICE, log 19). -/
def calEnd (p : Nat) (s : State) : State :=
  let x := s.port p
  let full := !x.noLoop && x.partnerDev.isSome && x.wayMeas.length == 64 && x.loopMeas.length == 64
  let res := meanInt x.wayMeas - meanInt x.loopMeas
  let st : CalState := if !full then .nominal else if res.natAbs ≤ 512 && x.dev.natAbs ≤ 16384 then .frozen else .failed
  let stCode := match st with
    | .frozen => 2
    | .nominal => 3
    | _ => 4
  s |> setPort p (fun x => { x with cal := st, calRun := false, calReq := false })
    |> setReg (Off.FTN_TS_CORR + 4 * p) (mkWord [(0, code 16 x.dev), (16, stCode), (24, code 8 (if full then satSigned 8 (res / 64) else 0))])
    |> when (st == .failed) (record 0x0403 [iU8 1 p, iI32 2 (satSigned 32 res)])
    |> when x.calReq (calStatus 2 0)
    |> raiseIrq Irq.TB_CAL_DONE

/-- The calibration sequence of a port is over (R141): its twelve idle times have passed, the partner cannot loop or has given no deviation in
the first; the sequence is not carried on a maintenance port, whose partner gives none. -/
def State.calOver (s : State) (p : Nat) : Bool :=
  let x := s.port p
  x.calRun && (x.noLoop || decide (12 ≤ x.calStep) || (decide (1 ≤ x.calStep) && x.partnerDev.isNone) || decide (20 ≤ p))

/-- What a port under calibration sends in a network idle time (R141): idle time 1 DEV; 2 to 5 the two-way probes, 5 the first
LOOP_REQ; 6, 8, 10, 12 the looped probes, 7, 9, 11 the further LOOP_REQ. A sequence that is over ends. A loop made for the partner ends with this
idle time. -/
def calIdle (p : Nat) (s : State) : State :=
  let x := s.port p
  let n := x.calStep + 1
  let s1 := if s.calOver p then calEnd p s
    else if x.calRun && s.portLive p then
      setPort p (fun x => { x with calStep := n })
        (if n == 1 then sendCal p 1 0 x.dev 0 0 s
         else if n ≤ 4 then sendProbes p (16 * (n - 2)) s
         else if n == 5 then sendCal p 4 0 0 0 0 (sendProbes p 48 s)
         else if n == 6 || n == 8 || n == 10 || n == 12 then sendProbes p (8 * (n - 6)) s
         else sendCal p 4 0 0 0 0 s)
    else s
  if x.loopFor then s1 |> setPort p (fun x => { x with loopFor := false }) |> sendCal p 5 0 0 0 0 else s1

/-- One LINK_CHECK onto port `p`. -/
def sendCheck (p : Nat) (s : State) : State :=
  if s.portLive p then
    let t1 := s.egress p
    let (f, s1) := ownFrame 5 0xC000 65535 (t1 / 256).toNat 0 0 2 false (s.checkPayload p t1) s
    s1 |> send (.frame p f)
      |> setPort p (fun x => { x with sent := ((f.seq, t1) :: x.sent).take 4 })
      |> fun s => { s with ftn := { s.ftn with guards := modAt s.ftn.guards (p - 4) fun g => if 4 ≤ p then { g with tell := false } else g } }
  else s

/-- HEAL payload (Table 8.9). -/
def healPayload (op : Nat) (p cc : Nat) : List Byte :=
  beBytes 1 op ++ beBytes 1 (b2n (p == 2 || p == 3)) ++ beBytes 2 0 ++ beBytes 2 cc ++ beBytes 2 0

/-- Restoration frames of a network idle time (R278): READY while the link is being restored; from the HEAD, once both have
said READY, RESTORE_AT with the cluster-cycle count two ahead. -/
def sendHeal (p : Nat) (s : State) : State :=
  let l := s.link p
  if l.broken && l.restoring && s.portLive p then
    let s1 := s |> sendLocal p 4 (healPayload 2 p 0) |> setLink p (fun l => { l with readyOut := true })
    if (p == 0 || p == 3) && l.readyOut && l.readyIn && l.restoreAt.isNone then
      let cc := (s.clusterNo + 2) % 1024
      s1 |> sendLocal p 4 (healPayload 3 p cc) |> setLink p (fun l => { l with restoreAt := some cc, acked := false })
    else s1
  else s

/-- T - NIT + 1,000 ns of the present basic cycle: the link checks while RUN is 1 (R260), and the calibrations and restorations that the network
idle time carries in every start-up state (R140, R278, Table 8.1). -/
def execLinkCheckSend (s : State) : Host.Outcome State Fault Refusal :=
  .next <| when s.up (fun s =>
    let s1 := toTb0 (s.ftn.cycle * s.matrix.t + s.matrix.t - s.matrix.nit + 1000) s
    let run := bit (s.reg Off.FTN_CTRL) 0
    let s2 := (List.range 22).foldl (fun s p => calIdle p (when (run && decide (p < 20)) (sendCheck p) s)) s1
    s2 |> sendHeal 0 |> sendHeal 1 |> sendHeal 2 |> sendHeal 3) s

/-- Signed difference of two compact instants with fractions, 1/256 ns. -/
def compactDiff (a : Word) (af : Nat) (b : Word) (bf : Nat) : Int := (a - b).toInt * 256 + ((af : Int) - (bf : Int))

/-- Delay and offset of an echoed LINK_CHECK (R262, R264): the port's own stamps t1, t4 and the partner's t2, t3. -/
def measure (p : Nat) (f : Frame) (t1 t4 : Int) (s : State) : State :=
  let t2 : Word := BitVec.ofNat 32 (beAt f.payload 8 4)
  let t2f := beAt f.payload 12 1
  let t3f := beAt f.payload 1 1
  let c1 := BitVec.ofInt 32 (t1 / 256)
  let c4 := BitVec.ofInt 32 (t4 / 256)
  let f1 := (t1 % 256).toNat
  let f4 := (t4 % 256).toNat
  let d := ((t4 - t1) - compactDiff f.txTime t3f t2 t2f) / 2
  let off := (compactDiff t2 t2f c1 f1 - compactDiff c4 f4 f.txTime t3f) / 2
  let x := s.port p
  let calOk := x.measures
  let delays := if calOk then (d :: x.delays).take 64 else x.delays
  let m := meanInt delays
  let delay := if calOk then some (match x.delay with | some o => max (o - 64) (min m (o + 64)) | none => m) else x.delay
  let star := decide (4 ≤ p)
  let past := star && decide (max 1 (fld (s.reg Off.FTN_STAR_CFG) 0 16) * 256 < off.natAbs)
  let first := past && !x.offsetOver
  s |> setPort p (fun x => { x with delays := delays, delay := delay, offset := if star then some off else x.offset, offsetOver := past })
    |> when first (raiseIrq Irq.FTN_STAR_OFFSET)

/-- The count of good link checks of a broken trunk link: two in consecutive idle times begin its restoration (R278). -/
def countGood (p : Nat) (consecutive : Bool) (s : State) : State :=
  let x := s.port p
  let ok := x.up && x.linkDelay.isSome && !s.linkLong p
  setLink p (fun l =>
    if l.broken && !l.held then
      let g := if ok then (if consecutive then l.good + 1 else 1) else 0
      { l with missing := 0, good := g, restoring := l.restoring || decide (2 ≤ g) }
    else { l with missing := 0 }) s

/-! ### Guardian engine (R271 to R274, R281) -/

/-- A violation of kind `kind` of Table 8.7 on star port `p`. -/
def guardViolate (p kind : Nat) (s : State) : State :=
  let cfg := s.reg Off.FTN_GUARD_CFG
  let g := s.ftn.guards.getD p Reset.guard
  let first := !g.hit
  let n := g.count + 1
  let block := !g.blocked && !g.disabled && decide (max 1 (fld cfg 16 4) ≤ n)
  let run := if block then g.run + 1 else g.run
  let disable := block && fld cfg 24 8 != 0 && decide (fld cfg 24 8 ≤ run)
  let g1 : Guard := { g with count := n, lastKind := kind, run := run, total := min 65535 (g.total + 1), blocked := g.blocked || block,
                             disabled := g.disabled || disable, hit := true, tell := g.tell || first }
  { s with ftn := { s.ftn with guards := modAt s.ftn.guards p fun _ => g1 } }
  |> bump Off.FTN_GUARD_BLOCKED |> when (kind == 5) (bump Off.FTN_GUARD_TRUNC)
  |> when first (raiseIrq Irq.FTN_GUARD_VIOLATION) |> when block (raiseIrq Irq.FTN_GUARD_BLOCK)
  |> when disable (fun s => raiseIrq Irq.FTN_GUARD_DISABLE (record 0x0706 [iU8 1 p, iU8 2 kind] s))

def execGuardViolation (p kind : Nat) (s : State) : Host.Outcome State Fault Refusal :=
  .next (when (s.up && decide (p < 16) && decide (1 ≤ kind) && decide (kind ≤ 7)) (guardViolate p kind) s)

/-- A write of FTN_GUARD_CMD (R281). -/
def guardCmdOp (v : Word) (s : State) : State :=
  if fld v 16 16 == 0x4744 && fld v 0 4 == 1 then
    { s with ftn := { s.ftn with guards := modAt s.ftn.guards (fld v 8 4) fun g => { g with disabled := false, run := 0 } } }
  else bump Off.FTN_CMD_REJECTS s

def execGuardPortEnable (v : Word) (s : State) : Host.Outcome State Fault Refusal := .next (when s.up (guardCmdOp v) s)

/-! ### Link checks received (R260 to R264) -/

/-- A LINK_CHECK that a port takes: what it echoes, and the measurement of the own one that it answers; `x` its ingress stamp, none on a link
without stamps. -/
def takeCheck (p : Nat) (f : Frame) (x : Option Int) (s : State) : State :=
  let port := s.port p
  let consecutive := match port.lastCheck with
    | some c => c + 1 == s.ftn.cycle
    | none => false
  let valid := beAt f.payload 6 2
  let pds := (List.range 15).map fun j =>
    if f.plen == 84 && valid.testBit j then some (beAt f.payload (24 + 4 * j) 4) else none
  let s1 := s |> bump Off.FTN_RX_OK
    |> setPort p (fun y => { y with echoSeq := if x.isSome then f.seq else 65535, echoRx := x.getD 0, lastCheck := some s.ftn.cycle, pdIn := pds })
  let s2 := match port.sent.find? (fun y => y.1 == beAt f.payload 4 2), x with
    | some y, some x => measure p f y.2 x s1
    | _, _ => s1
  when (decide (p < 4)) (countGood p consecutive) s2

/-- Instant of TB0 within its basic cycle, 1/256 ns. -/
def State.inCycle (s : State) (stamp : Int) : Int := stamp % ((s.matrix.t : Int) * 256)

/-- A LINK_CHECK on trunk port 0 to 3 or star port 4 to 19 with its MAC boundary stamp, 1/256 ns of TB0. A star port admits one, in its service
window (R261, Table 8.6). -/
def execLinkCheckReceive (p : Nat) (f : Frame) (stamp : Int) (s : State) : Host.Outcome State Fault Refusal :=
  .next (
    if !(s.up && decide (p < 20) && s.portLive p) then s
    else
      let x := s.ingress p stamp
      let at_ := s.inCycle (x.getD stamp)
      let star := decide (4 ≤ p)
      let g := s.ftn.guards.getD (p - 4) Reset.guard
      if star && decide (at_ < ((s.matrix.t - s.matrix.nit : Nat) : Int) * 256) then guardViolate (p - 4) 3 s
      else if star && decide (1 ≤ g.checks) then guardViolate (p - 4) 7 s
      else
        let s1 := when star (fun s => { s with ftn := { s.ftn with guards := modAt s.ftn.guards (p - 4) fun g => { g with checks := g.checks + 1 } } }) s
        if !f.fcsOk then checkFailed Off.FTN_RX_FCS_ERR s1
        else if !headerOk f then checkFailed Off.FTN_RX_BAD_HDR s1
        else if f.e2e != frameCrc f then checkFailed Off.FTN_RX_CRC_ERR s1
        else if !(f.kind == 5 && f.info == 2 && (f.plen == 84 || f.plen == 24)) then when star (guardViolate (p - 4) 7) s1
        else takeCheck p f x s1)

/-! ### Ring healing (R275 to R279) -/

/-- A trunk link found broken; cause 1 link down, 2 missing link checks, 3 LINK_LONG. -/
def breakLink (p cause : Nat) (s : State) : State :=
  if (s.link p).broken then s else
    s |> setLink p (fun l => { l with broken := true, good := 0, restoring := false, readyOut := false, readyIn := false,
                                      restoreAt := none, acked := false })
      |> when (cause == 1) (setPort p Port.down)
      |> record 0x0703 [iU8 1 p, iU8 2 cause]

/-- The cause of a break holds (R275): the PHY's report, no LINK_CHECK in the last two idle times while the link is up, or a delay beyond the
limit. -/
def State.breaks (s : State) (p cause : Nat) : Bool :=
  match cause with
  | 1 => true
  | 2 => (s.port p).up && (match (s.port p).lastCheck with
    | some c => decide (c + 2 ≤ s.ftn.cycle)
    | none => true)
  | _ => s.linkLong p

def execLinkBroken (p cause : Nat) (s : State) : Host.Outcome State Fault Refusal :=
  .next (when (s.hubOn && decide (p < 4) && decide (1 ≤ cause) && decide (cause ≤ 3) && s.breaks p cause) (breakLink p cause) s)

/-- The channel code of trunk port `p`. -/
def chanOf (p : Nat) : Nat := b2n (p == 2 || p == 3)

def execHealReady (p chan : Nat) (s : State) : Host.Outcome State Fault Refusal :=
  .next (when (s.up && decide (p < 4) && chan == chanOf p && (s.link p).broken && !(s.link p).held)
    (setLink p fun l => { l with readyIn := true }) s)

/-- The TAIL, on its main-direction receive port 1 or 2, takes the instant and answers ACK (R278). -/
def execHealRestoreAt (p chan cc : Nat) (s : State) : Host.Outcome State Fault Refusal :=
  .next (when (s.up && (p == 1 || p == 2) && chan == chanOf p && (s.link p).restoring) (fun s =>
    s |> setLink p (fun l => { l with restoreAt := some (cc % 1024), acked := true })
      |> sendLocal p 4 (healPayload 4 p (cc % 1024))) s)

/-- The HEAD, on its main-direction transmit port 0 or 3, has its announced instant acknowledged (R278). -/
def execHealAck (p chan cc : Nat) (s : State) : Host.Outcome State Fault Refusal :=
  .next (when (s.up && (p == 0 || p == 3) && chan == chanOf p && (s.link p).restoreAt == some (cc % 1024))
    (setLink p fun l => { l with acked := true }) s)

/-- A write of FTN_RING_CMD (R279, R281): HOLD in SAFE-HOLD only; RELEASE ends a hold and restoration may start. -/
def ringCmdOp (v : Word) (s : State) : State :=
  let p := fld v 4 2
  if fld v 16 16 == 0x524E && fld v 0 4 == 1 && s.held then
    setLink p (fun l => { l with broken := true, held := true, good := 0, restoring := false, readyOut := false,
                                 readyIn := false, restoreAt := none, acked := false }) s
  else if fld v 16 16 == 0x524E && fld v 0 4 == 2 then setLink p (fun l => { l with held := false, good := 0 }) s
  else bump Off.FTN_CMD_REJECTS s

def execRingHold (v : Word) (s : State) : Host.Outcome State Fault Refusal := .next (when s.up (ringCmdOp v) s)

def execRingRelease (v : Word) (s : State) : Host.Outcome State Fault Refusal := .next (when s.up (ringCmdOp v) s)

end Sys2Proof.Machine
end

