-- ==== Sys2Proof/Machine/ModeSeq.lean ====
section
/-! DEFINITION. Mode requests (R47, R57, R64, R65), entry into DORMANT (R59 to R61), and what a cycle boundary does with them. -/
namespace Sys2Proof.Machine

/-- Key under which a waiting mode request stands among the SHADOWED values; its boundary is step 3 of Table 9.2. -/
def reqKey : Nat := Off.SYS_MODE_REQ

/-- SYS_MODE_REQ_STATUS: SEQ counts a completed or rejected request. While a request waits STATE is BUSY (R13), beside the cause of the request
that SEQ refers to. -/
def reqStatus (state cause req : Nat) (s : State) : State :=
  let old := s.reg Off.SYS_MODE_REQ_STATUS
  if state = 1 then setReg Off.SYS_MODE_REQ_STATUS (mkWord [(0, 1), (4, fld old 4 4), (8, fld old 8 8), (16, fld old 16 4)]) s
  else
    setReg Off.SYS_MODE_REQ_STATUS (mkWord [(0, state), (4, cause), (8, (fld old 8 8 + 1) % 256), (16, req)]) s
    |> raiseIrq Irq.SYS_REQ_DONE

def reqReject (cause req : Nat) (s : State) : State := s |> reqStatus 3 cause req |> bump Off.SYS_REQ_REJECTS

/-- What becomes of a request in the present state: rejection cause, or done at once, or to be carried out at a boundary. -/
inductive ReqFate where
  | reject (cause : Nat)
  | done
  | due
  deriving DecidableEq, Repr

/-- Conditions of R57 and R65. What becomes of a request made while the DORMANT entry sequence runs the spec leaves open: it is rejected with cause
NOT_IN_MODE (DESIGN CHOICE, log 28). -/
def State.reqFate (s : State) (req : Nat) : ReqFate :=
  if !(s.running || s.held) || s.sys.entering then .reject 1
  else match req with
    | 4 =>
      if s.running then .done
      else if s.sys.active &&& 0b10111011#8 != 0 then .reject 2
      else if !s.sys.cpfValid then .reject 7
      else if s.ftnNode && s.ftn.su != .integrated then .reject 6
      else .due
    | 6 => if s.held then .done else .due
    | _ => .due

/-- A committed write of SYS_MODE_REQ (R64, R65). While an earlier request waits for its boundary the later one is held and judged at its own
(R13). A Request SAFE-HOLD made in SAFE-HOLD.FAULT is DONE and adds no reason: whether COMMAND is then entered the spec leaves open (DESIGN
CHOICE, log 28). -/
def modeReqOp (v : Word) (s : State) : State :=
  let req := fld v 0 4
  if fld v 16 16 != 0x4D51 then reqReject 3 req s
  else if req != 1 && req != 4 && req != 6 then reqReject 4 req s
  else if (s.pendingAt reqKey).isSome then s |> shadowWrite reqKey v |> reqStatus 1 0 req
  else match s.reqFate req with
    | .reject c => reqReject c req s
    | .done => s |> setReg Off.SYS_MODE_REQ (BitVec.ofNat 32 req) |> reqStatus 2 0 req
    | .due => s |> shadowWrite reqKey v |> reqStatus 1 0 req

/-- Entry into DORMANT begins at a boundary (R59): the program stops, outputs go off, retained data is written as a checkpoint,
PARK follows the last set, an FTN node leaves, and the wake latches are armed. -/
def dormantEntry (s : State) : State :=
  let s1 := abandonCycle { s with sys := { s.sys with entering := true }, pst := { s.pst with doLevel := 0 } }
  let s2 := s1 |> bothGroups 0 true |> resolveOuts |> makeCut [] |> completeSet
  let s3 := s2 |> when (s2.chk.stream != .idle) (sendRecord (ckRecord 6 0 0 0 [])) |> when s2.ftnNode runClearOp
  { s3 with isl := { s3.isl with wakeCause := 0, wakeArmed := s3.reg Off.SYS_WAKE_CFG &&& 0xFF#32, wakeEarly := none } }

/-- A request carried out at step 3 of a boundary. -/
def performReq (req : Nat) (s : State) : State :=
  match req with
  | 4 => reqStatus 2 0 req (setMode s.runMode (programInit s))
  | 6 => reqStatus 2 0 req (addReason .command s)
  | _ => reqStatus 2 0 req (dormantEntry s)

/-- BUSY again while a held request waits for the following boundary (R13). -/
def stillBusy (s : State) : State := when (s.pendingAt reqKey).isSome (reqStatus 1 0 0) s

/-- Step 3 of Table 9.2: a waiting request, superseded by a fault-driven transition of this boundary (R47); the SUPPLY_AUTO row
of Table 2.2; the end of START-UP at its first cycle start. -/
def modeBoundary (fault : Bool) (s : State) : State :=
  match s.pendingAt reqKey with
  | some v =>
    let req := fld v 0 4
    let s1 := s |> setReg Off.SYS_MODE_REQ (BitVec.ofNat 32 req) |> shadowNext reqKey
    stillBusy (
      if fault then reqReject 5 req s1
      else match s1.reqFate req with
        | .reject c => reqReject c req s1
        | .done => reqStatus 2 0 req s1
        | .due => performReq req s1)
  | none => if s.held && s.sys.active == 0 then setMode s.runMode (programInit s) else s

/-- Wake: every domain but the supervisor island starts anew (Table 2.6); the lanes had no power, so no bank is wiped (R434). `cause` is
SYS_WAKE_CAUSE. -/
def wakeReset (cause : Word) (s : State) : State :=
  let s1 := restart 2 s
  bootEntered (s.sys.mode.code, s.sub) { s1 with isl := { s1.isl with wakeCause := cause, wakeArmed := 0, wakeEarly := none } }

/-- DORMANT is reached: the MODE_CHANGE record is written and the recorder flushed, the domains lose their power, and a wake that
came meanwhile acts at once (R59, R61). -/
def dormantReached (s : State) : State :=
  let s1 := s |> record 0x0101 [iU8 1 s.sys.mode.code, iU8 2 s.sub, iU8 3 1, iU8 4 0, iU8 5 0] |> acceptAll |> commitPage
  let s2 := powerDown .dormant (bump Off.SYS_MODE_CHANGES { s1 with sys := { s1.sys with changedAt := s1.time.tb0.time } })
  match s2.isl.wakeEarly with
  | some c => wakeReset c s2
  | none => s2

end Sys2Proof.Machine
end

