-- ==== Sys2Proof/Machine/Rejoin.lean ====
section
/-! DEFINITION. Live lane rejoin (spec/03): attempts and their ends, requests, and what a cycle boundary does with them. -/
namespace Sys2Proof.Machine

/-! Fields of VOT_REJOIN_CFG as it was read at the lane's last exclusion (Tables 3.5, 3.8). -/

/-- AUTO. -/
def LaneVote.auto (v : LaneVote) : Bool := bit v.cfg 0

/-- HOLD in ns. -/
def LaneVote.holdNs (v : LaneVote) : Nat := 1000000 * max 1 (fld v.cfg 4 4)

/-- PASSES. -/
def LaneVote.maxPasses (v : LaneVote) : Nat := max 1 (fld v.cfg 12 4)

/-- STOP_BUDGET in us. -/
def LaneVote.stopBudget (v : LaneVote) : Nat := 100 * max 5 (min 20 (fld v.cfg 16 8))

/-- Dirty-set threshold in pages (R108): (STOP_BUDGET - 100 us) at 7 GiB/s, in whole 4 KiB pages. -/
def LaneVote.dirtyLimit (v : LaneVote) : Nat := (v.stopBudget - 100) * 7 * 262144 / 1000000

/-- Bound in ns of a phase that has one in time (Table 3.4). -/
def LaneVote.bound (v : LaneVote) : Option Nat :=
  match v.phase with
  | .boot => some 100000000
  | .selftest => some 20000000
  | .stopcopy => some (1000 * v.stopBudget)
  | _ => none

/-- A lane's phase has exceeded its bound. -/
def State.overBound (s : State) (l : Lane) : Bool :=
  let v := s.vot.lanes.get l
  match v.bound with
  | some b => decide (v.phaseAt + b < s.now)
  | none => false

/-- A lane that an attempt may run in: DEGRADED, with its power (R107, Table 1.6). -/
def State.mayRejoin (s : State) (l : Lane) : Bool :=
  s.up && s.sys.mode == .degraded && !(s.mems.get l).powerOff && !(s.mems.get l).domainOpen

/-- The attempt of a lane ends (R107): it counts as an exclusion, and the lane returns to RESET or is retired. -/
def endAttempt (l : Lane) (c : Cause) (atOnce : Bool) (s : State) : State :=
  let s1 := markExclusion l c s
  let ret := atOnce || s1.retires l
  s1 |> resetLane (if ret then .retired else .reset) l |> wipeLane l 4 |> bump (Off.VOT_EXCL_CNT + 4 * l.idx)
     |> record 0x0203 [iU8 1 l.idx, iU8 2 c.code] |> when ret (record 0x0202 [iU8 1 l.idx]) |> raiseIrq Irq.VOT_REJOIN_FAILED

/-- A lane's attempt is under way: past RESET, or in RESET with AUTO set or a request accepted, and not waiting for a boundary in DEGRADED. -/
def State.rejoins (s : State) (l : Lane) : Bool :=
  let v := s.vot.lanes.get l
  match v.phase with
  | .boot | .selftest | .precopy | .stopcopy => true
  | .reset => (v.auto || v.requested) && !v.waits
  | _ => false

/-- A lane enters a phase of its attempt. -/
def toPhase (l : Lane) (p : Phase) (s : State) : State :=
  s.setLane l fun v => { v with phase := p, phaseAt := s.now, passes := 0, dirty := 0, ready := false }

/-- A committed write of VOT_REJOIN_REQ (R112, Table 3.8). -/
def rejoinReqOp (v : Word) (s : State) : State :=
  let lane := match fld v 0 2 with
    | 1 => some Lane.a
    | 2 => some Lane.b
    | 3 => some Lane.c
    | _ => none
  match lane with
  | some l =>
    if fld v 16 16 != 0x524A || s.inVote l || s.rejoins l || s.sys.mode != .degraded then bump Off.VOT_REQ_REJECTS s
    else s.setLane l fun x => { x with phase := .reset, phaseAt := s.now, waits := false, requested := true, history := [] }
  | none => bump Off.VOT_REQ_REJECTS s

/-! ### At a cycle boundary (R109 to R111) -/

/-- Offset of a lane's register that the stop-copy does not carry: the counters and results of its own, and the secure engine. -/
def copiedOff (off : Nat) : Bool := off / 65536 == 0 || off / 65536 == 2 || off / 65536 == 3 || off / 65536 == 17 || 0x400000 ≤ off

/-- Registers of a readmitted lane: those of ICU, CYC, TB and SPM as a lane in vote has them. -/
def copyRegs (src dst : Lane) (s : State) : State :=
  let base (l : Lane) := (l.idx + 1) * 16777216
  let mine := s.regs.filter fun r => r.1 / 16777216 == src.idx + 1 && copiedOff (r.1 % 16777216)
  let kept := s.regs.filter fun r => !(r.1 / 16777216 == dst.idx + 1 && copiedOff (r.1 % 16777216))
  let pend := s.shadows.filter fun x => x.key / 16777216 == src.idx + 1
  { s with
    regs := mine.foldl (fun m r => put m (base dst + r.1 % 16777216) r.2) kept
    shadows := (s.shadows.filter fun x => x.key / 16777216 != dst.idx + 1) ++
      pend.map fun x => { x with key := base dst + x.key % 16777216 } }

/-- Sources of lane-local blocks: memory, batches, the security engine, software interrupts. -/
def laneSource (id : Nat) : Bool := [48, 49, 50, Irq.CYC_OC_DONE, Irq.CYC_FRC_DONE, Irq.SEC_DONE].contains id || decide (448 ≤ id)

/-- Bytes of the 4 KiB pages of even number from one memory and of odd number from another. -/
def mergePages (even odd : List (Nat × Byte)) : List (Nat × Byte) :=
  (odd.filter fun b => b.1 / 4096 % 2 == 1).foldl (fun m b => put m b.1 b.2) (even.filter fun b => b.1 / 4096 % 2 == 0)

/-- What STOPCOPY brings into a lane: memory but for the secure bank, the even pages from one healthy lane and the odd ones from the other (R109;
which of the two sends the even ones the spec leaves open: the first, DESIGN CHOICE, log 109), configuration, sequence counters, the cycle
engine's data, and the states of module-shared interrupt sources (R397). -/
def copyLane (src other dst : Lane) (s : State) : State :=
  let m := s.mems.get src
  let n := s.mems.get other
  let s1 := copyRegs src dst s
  { s1 with
    mems := s1.mems.modify dst fun d => { d with
      dram := mergePages m.dram n.dram
      spad := mergePages (m.spad.filter fun b => decide (b.1 < 0x3F0000)) (n.spad.filter fun b => decide (b.1 < 0x3F0000)) }
    cyc := { s1.cyc with lanes := s1.cyc.lanes.set dst { s1.cyc.lanes.get src with execLast := 0, execMax := 0, phase := 0 } }
    icus := s1.icus.modify dst fun u => { u with
      pend := (s1.icus.get src).pend.filter fun i => !laneSource i
      active := (s1.icus.get src).active.filter fun a => !laneSource a.1 } }
  |> fun s => [0, 1, 2, 3].foldl (fun s n => setServo n dst (fun _ => s.servo n src) s)
      (s.setLane dst fun v => { v with seqs := (s.vot.lanes.get src).seqs })

/-- A lane whose stop-copy has ended enters vote in PROBATION, and the module becomes OPERATIONAL (R111). The accesses made before are not
the lane's to deliver: its sequence counters stand behind them. -/
def readmit (l : Lane) (s : State) : State :=
  let s1 := copyLane s.lane0 (s.lanesIn.getLastD s.lane0) l s
  { s1 with
    time := { s1.time with votes := s1.time.votes.map fun v => { v with spared := v.spared ++ [l] } }
    vot := { s1.vot with
      readmitAt := s1.time.tb0.time
      open_ := s1.vot.open_.map fun e => { e with spared := e.spared ++ [l] }
      kept := s1.vot.kept.map fun k => { k with lanes := k.lanes ++ [l] }
      lanes := s1.vot.lanes.modify l fun v =>
        { v with phase := .probation, phaseAt := s1.now, ready := false, requested := false, passes := 0, dirty := 0 } } }
  |> raiseIrq Irq.VOT_READMITTED |> setMode .operational

/-- The attempt of a lane in PROBATION ends: it is excluded, and the attempt is reported as ended (R107, R111). Of two lanes neither can be told
to be right (R106). -/
def probationFails (l : Lane) (s : State) : State :=
  if s.lanesIn.length < 3 then noMajority 0x20 0 s
  else s |> excludeLane l .rejoinFail |> record 0x0203 [iU8 1 l.idx, iU8 2 Cause.rejoinFail.code] |> raiseIrq Irq.VOT_REJOIN_FAILED

/-- PROBATION lasts one cycle (Table 3.4): a lane whose first cycle has run to this boundary without its digest judged has exceeded the bound. -/
def probationOver (l : Lane) (s : State) : State :=
  when ((s.vot.lanes.get l).phase == .probation && (s.cyc.running || s.cyc.ended)) (probationFails l) s

/-- Rejoins at a cycle boundary, ahead of everything else: a probation past its bound ends its attempt, a stop-copy that has ended readmits its
lane, a PRECOPY that has ended begins its stop-copy, and a lane that waited for DEGRADED begins its reset hold (R107, R109, R111). -/
def rejoinBoundary (s : State) : State :=
  Lane.all.foldl (fun s l =>
    let s := probationOver l s
    let v := s.vot.lanes.get l
    if s.mayRejoin l then
      match v.phase with
      | .stopcopy => if v.ready then readmit l s else if s.overBound l then endAttempt l .rejoinFail false s else s
      | .precopy => when v.ready (toPhase l .stopcopy) s
      | .reset => when v.waits (fun s => s.setLane l fun v => { v with waits := false, phaseAt := s.now }) s
      | _ => s
    else s) s

/-- The healthy lanes are suspended for a stop-copy (R110). -/
def State.stopped (s : State) : Bool := Lane.all.any fun l => (s.vot.lanes.get l).phase == .stopcopy

end Sys2Proof.Machine
end

