-- ==== Sys2Proof/Machine/UpdOps.lean ====
section
/-! DEFINITION. Shared operations of firmware update and life cycle (spec/17): checks of images and pairings, results of UPD commands,
marks and activation. -/
namespace Sys2Proof.Machine

/-! ### Image checks (R509 to R511, Tables 17.1, 17.3) -/

/-- Largest payload of image type index `t` (0 LRT to 3 CPF). -/
def maxPayload (t : Nat) : Nat := if t = 2 then 524288 else 67104768

/-- Image-signing slots of a type. -/
def signsFor (t slot : Nat) : Bool := if t = 3 then decide (slot ≤ 3) else decide (slot ≤ 1)

/-- Fields of a header, as the image table gives their offsets. -/
def hdrLen (h : List Byte) : Nat := beAt h 32 4
def hdrBound (h : List Byte) : Bool := (beAt h 9 1).testBit 0
def hdrEncrypted (h : List Byte) : Bool := (beAt h 9 1).testBit 1
def hdrSlot (h : List Byte) : Nat := beAt h 10 1

/-- The first part of R509: the fixed values, the type and the length. -/
def headerFields (t : Nat) (h : List Byte) : Bool :=
  h.length == 4096 && beAt h 0 4 == 0x534E494D && beAt h 4 2 == 1 && beAt h 6 2 == 0x0E3A && beAt h 8 1 == t + 1 &&
    decide (1 ≤ hdrLen h) && decide (hdrLen h ≤ maxPayload t)

/-- BOUND: the unit ID of the header is this unit's. -/
def headerBinds (h : List Byte) : Bool := !hdrBound h || beAt h 16 16 == Config.unitId.toNat

/-- A header is valid (R509). -/
def headerValid (t : Nat) (h : List Byte) : Bool := headerFields t h && headerBinds h && signsFor t (hdrSlot h)

/-- Payload of a slot as stored. -/
def NorSlot.payload (n : NorSlot) : List Byte := (n.blocks.filter fun b => b.1 != 0).flatMap (·.2)

/-- Image-signing public key of a slot (0xB122). -/
def State.signKey (s : State) (slot : Nat) : Option (BitVec 4096) := s.publicKey 0xB122 (slot + 1)

/-- The failing step of R510 as UPD_STATUS.DETAIL numbers it; 0 when the image passes. -/
def State.checkImage (s : State) (t : Nat) (n : NorSlot) : Nat :=
  let h := n.header
  if !headerFields t h then 1
  else if !headerBinds h then 2
  else if !signsFor t (hdrSlot h) then 3
  else match s.signKey (hdrSlot h) with
    | none => 3
    | some k =>
      if !Config.pssVerify k (h.take 3584) (slice h 3584 512) then 4
      else if beAt h 68 64 != (Config.sha512 n.payload).toNat then 5
      else if hdrEncrypted h then
        match s.nv.imageKey with
        | some ik => if Config.gcmTagOk (BitVec.ofNat 256 (beNat ik)) h n.payload then 0 else 6
        | none => 6
      else 0

/-! ### Compatibility (R512 to R514) -/

/-- COMPAT entries of a header: partner, lowest and highest version. -/
def compatOf (h : List Byte) : List (Nat × Nat × Nat) :=
  (List.range (min 32 (beAt h 11 1))).map fun i => (beAt h (132 + 12 * i) 1, beAt h (136 + 12 * i) 4, beAt h (140 + 12 * i) 4)

def compatHas (h : List Byte) (partner v : Nat) : Bool := (compatOf h).any fun e => e.1 == partner && decide (e.2.1 ≤ v) && decide (v ≤ e.2.2)

/-- Entry of the hardware revision, which stands in bits [7:0] of MIN and MAX. -/
def compatHw (h : List Byte) (v : Nat) : Bool := (compatOf h).any fun e => e.1 == 16 && decide (e.2.1 % 256 ≤ v) && decide (v ≤ e.2.2 % 256)

/-- Entries of an allowance: TYPE_X, TYPE_Y, VER_X, VER_Y (Table 17.6). -/
def allowEntries (b : List Byte) : List (Nat × Nat × Nat × Nat) :=
  (List.range (beAt b 7 1)).map fun i => (beAt b (24 + 12 * i) 1, beAt b (25 + 12 * i) 1, beAt b (28 + 12 * i) 4, beAt b (32 + 12 * i) 4)

/-- An allowance is valid (R513). -/
def State.allowValid (s : State) (b : List Byte) : Bool :=
  let slot := beAt b 6 1
  b.length == 728 && beAt b 0 4 == 0x414C4C57 && beAt b 4 2 == 1 && decide (1 ≤ beAt b 7 1) && decide (beAt b 7 1 ≤ 16) &&
    (beAt b 8 16 == 0 || beAt b 8 16 == Config.unitId.toNat) &&
    (decide (slot ≤ 1) || (decide (slot ≤ 3) && (allowEntries b).all fun e => e.1 == 4 || e.2.1 == 4)) &&
    (match s.signKey slot with
      | some k => Config.pssVerify k (b.take 216) (slice b 216 512)
      | none => false)

/-- An entry names both types and exactly both versions, in either order. -/
def allowNames (e : Nat × Nat × Nat × Nat) (x y vx vy : Nat) : Bool :=
  let v := fun (t n : Nat) => if t = 16 then n % 256 else n
  (e.1 == x && e.2.1 == y && v x e.2.2.1 == vx && v y e.2.2.2 == vy) || (e.1 == y && e.2.1 == x && v y e.2.2.1 == vy && v x e.2.2.2 == vx)

/-- A pairing is allowed by the stored allowance (R513). -/
def State.allowed (s : State) (x y vx vy : Nat) : Bool :=
  match look s.nv.store (objKey 0xB020 0) with
  | some b => s.allowValid b && (allowEntries b).any fun e => allowNames e x y vx vy
  | none => false

/-- Result of one pairing by its headers: 0 TESTED, 1 ALLOWED, 2 UNTESTED. Type codes as in Table 17.1; 0x10 is the hardware. -/
def State.pairing (s : State) (x y : Nat) (hx hy : List Byte) : Nat :=
  let vx := beAt hx 12 4
  let vy := if y = 16 then Config.hwRev.toNat else beAt hy 12 4
  let tested := if y = 16 then compatHw hx vy else compatHas hx y vy || compatHas hy x vx
  if tested then 0 else if s.allowed x y vx vy then 1 else 2

/-- Pairings of Table 17.5, the hardware last. -/
def pairings : List (Nat × Nat) := [(1, 2), (1, 3), (1, 4), (2, 3), (1, 16), (2, 16), (3, 16), (4, 16)]

/-- Cross-check of the images that `pick` names per type code (none where no image is taken), over the pairings that `on` picks: UPD_COMPAT's
result and the first pairing not tested. -/
def State.crossCheck (s : State) (pick : Nat → Option (List Byte)) (on : Nat × Nat → Bool) : Nat × Nat × Nat :=
  let rs := (pairings.filter on).filterMap fun p =>
    match pick p.1, (if p.2 = 16 then some [] else pick p.2) with
    | some a, some b => some (s.pairing p.1 p.2 a b, p.1, p.2 % 16)
    | _, _ => none
  match rs.find? fun r => r.1 == 2 with
  | some r => r
  | none => (rs.find? fun r => r.1 == 1).getD (0, 0, 0)

/-- UPD_COMPAT takes a result. -/
def setCompat (r : Nat × Nat × Nat) (s : State) : State := { s with upd := { s.upd with compat := r.1, typeX := r.2.1, typeY := r.2.2 } }

/-- Header of the running image of a type code; none in recovery, or without an image. -/
def State.runHeader (s : State) (x : Nat) : Option (List Byte) :=
  let n := s.runSlot (x - 1)
  if s.sys.recovery || n.header.isEmpty || n.state != .verified then none else some n.header

/-! ### Slots and marks (R508, R523) -/

def setSlots (t : Nat) (f : TypeSlots → TypeSlots) (s : State) : State := { s with nv := { s.nv with slots := modAt s.nv.slots t f } }

def TypeSlots.put (x : TypeSlots) (b : Bool) (n : NorSlot) : TypeSlots := if b then { x with b := n } else { x with a := n }

/-- The target slot of a type takes a new content. -/
def setTarget (t : Nat) (n : NorSlot) (s : State) : State := setSlots t (fun x => x.put (s.targetB t) n) s

/-- Result of an UPD command or of its completion: STATE, CAUSE, DETAIL; UPD_CMD_DONE unless it is still BUSY. -/
def updResult (state cause detail : Nat) (s : State) : State :=
  { s with upd := { s.upd with state := state, cause := cause, detail := detail } } |> when (state != 1) (raiseIrq Irq.UPD_CMD_DONE)

/-- A new command counts in SEQ and stands in LAST_OP. -/
def updBegins (op : Nat) (s : State) : State := { s with upd := { s.upd with seq := s.upd.seq + 1, lastOp := op } }

/-- The first cycle after the pause has made its cut: the TRIAL marks become FINAL (R523). -/
def warmFinal (s : State) : State :=
  if s.sys.warmMask == 0 || s.sys.warmArmed || s.sys.warmPause then s else
    let s1 := (List.range 4).foldl (fun s t => setSlots t (fun x => { x with markB := x.mark, trial := none }) s) s
    { s1 with sys := { s1.sys with warmMask := 0 } }
    |> bump Off.UPD_ACTIVATES |> record 0x0B03 [iU8 1 s.sys.warmMask.toNat, iU8 2 0] |> raiseIrq Irq.UPD_RESTARTED |> updResult 2 0 0

/-- A start that finds TRIAL marks takes the previous marks (R523). -/
def revertTrial (s : State) : State :=
  let ts := (List.range 4).filter fun t => (s.typeSlots t).trial.isSome
  if ts.isEmpty then s else
    ts.foldl (fun s t => setSlots t (fun x => { x with trial := none }) s) s
    |> bump Off.UPD_REVERTS |> record 0x0B03 [iU8 1 (ts.foldl (fun a t => a + 2 ^ t) 0), iU8 2 1]

/-- A standby that follows its partner marks its VERIFIED target slots FINAL at its next start (R530). -/
def followMarks (s : State) : State :=
  if s.isl.follow then
    (List.range 4).foldl (fun s t => if (s.target t).state == .verified then setSlots t (fun x => { x with markB := !x.runB }) s else s)
      { s with isl := { s.isl with follow := false } }
    |> record 0x0B07 []
  else s

end Sys2Proof.Machine
end

