-- ==== Sys2Proof/Machine/Cycle.lean ====
section
/-! DEFINITION. Commands of the cycle engine (spec/09) and of the checkpoint stream's sender. -/
namespace Sys2Proof.Machine

/-! ### Boundaries (R283 to R296, Table 9.2) -/

/-- Fallback is entered or left (R288). -/
def setFallback (fb : Bool) (s : State) : State :=
  if s.cyc.fallback == fb then s else
    { s with cyc := { s.cyc with fallback := fb } } |> bumpAll Off.CYC_FALLBACK_CNT |> raiseIrq Irq.CYC_FALLBACK

/-- Cycle count of the next boundary (R287, R389). -/
def State.nextCount (s : State) : DWord :=
  if s.cyc.begun then s.cyc.count + 1
  else match s.chk.takeover with
    | some h =>
      let m := s.half h
      let start := 1000000000 * m.field 8 8 + m.field 16 4
      let us := m.field 0x14 4
      if s.pointSource && us != 0 then BitVec.ofNat 64 (m.field 0 8 + (s.tb0 - start) / (1000 * us)) else BitVec.ofNat 64 (m.field 0 8 + 1)
    | none => 0

/-- Phase reached by the majority of the lanes in vote: the second furthest. -/
def State.majPhase (s : State) : Nat :=
  ((sortBy (fun a b => decide (b ≤ a)) (s.lanesIn.map fun l => (s.laneCyc l).phase)).getD 1 0)

/-- A boundary skipped for `n` more: counted, and reported unless by overrun. -/
def skipBoundary (tell : Bool) (s : State) : State :=
  { s with cyc := { s.cyc with skipped := s.cyc.skipped + 1 } } |> bumpAll Off.CYC_SKIP_CNT |> when tell (raiseIrq Irq.CYC_SKIPPED)

/-- Step 1: a cycle still running overruns (R294, R296). -/
def overrunStep (s : State) : State :=
  let run := s.cyc.overrun + 1
  let s1 := { s with cyc := { s.cyc with overrun := run, late := true } }
    |> bumpAll Off.CYC_OVERRUN_CNT |> raiseIrq Irq.CYC_OVERRUN |> record 0x0801 [iU64 1 s.cyc.startedNo.toNat, iU8 2 s.majPhase]
  if 3 ≤ run then addReason .overrun (abandonCycle { s1 with cyc := { s1.cyc with overrun := 0 } }) else s1

/-- Rules of the trip matrix whose registers a commit has changed: their latch is cleared and they are evaluated afresh (R369). -/
def tripCommitted (old : State) (s : State) : State :=
  let ch := (List.range 8).filter fun r => [Off.DIO_TRIP_MASK, Off.DIO_TRIP_POL, Off.DIO_TRIP_CFG].any fun o =>
    old.reg (o + 16 * r) != s.reg (o + 16 * r)
  let s1 := ch.foldl (fun s r => tripUnlatch old.tripCfg r { s with dio := { s.dio with trueR := s.dio.trueR &&& ~~~(1#8 <<< r) } }) s
  tripEval s1

/-- Lane-local words whose commits are voted: CYC_CFG and CYC_FREE_PERIOD (R286), ICU_EXT_CFG (R416). -/
def votedConfig : List Nat :=
  [Off.CYC_CFG, Off.CYC_FREE_PERIOD] ++ ((List.range 16).map fun k => Off.ICU_EXT_CFG + 4 * k)

/-- Step 2: every cycle-boundary value commits (R331), and what rests on it follows at the same edge. -/
def commitStep (s : State) : State :=
  let img := s.shadows.any fun x => x.key % 16777216 == Off.CYC_IMG_CFG || x.key % 16777216 == Off.CYC_LOCAL_CFG
  let voted := votedConfig.filter fun o => s.shadows.any fun x => x.key % 16777216 == o
  let s1 := commitBoundary .shadowCycle s
  let s2 := voted.foldl (fun s o => oddMinority 0x20 o s) s1
  s2 |> when img setOverlap |> servoModes |> syncCommitted (s.reg Off.PST_SYNC_CFG) |> domainCommitted s |> tripCommitted s |> autoReenable |> silenceCheck |> when s.held modeCauses |> resolveOuts |> chkUpdate

/-- The first cycle start after START-UP enters OPERATIONAL or DEGRADED (Table 2.2). -/
def firstStart (s : State) : State :=
  if s.sys.startDone && s.sys.mode.code == 2 then
    startTime (setMode s.runMode (programInit { s with sys := { s.sys with startDone := false } }))
  else s

/-- The claim that a takeover takes at the start of its first cycle (R388, R390). -/
def takeoverClaim (s : State) : State :=
  match s.chk.takeover with
  | some h =>
    let c := (s.half h).field 0x20 4 + 1
    takeClaim c { s with chk := { s.chk with takeover := none } }
    |> when (decide (c ≤ 4294967295)) (fun t => t |> bump Off.CHK_TAKEOVERS
        |> record 0x0A02 [iU32 1 (s.half h).set.toNat, iU64 2 (s.half h).cycle.toNat, iU32 3 c])
  | none => s

/-- The image of the first cycle, held until this boundary (R292). -/
def releaseFirst (s : State) : State :=
  match s.cyc.firstImage with
  | some i => if s.running then releaseImage i { s with cyc := { s.cyc with firstImage := none } } else s
  | none => s

/-- Cycles start at this boundary: fallback does not hold them, no entry into DORMANT runs, and no warm restart pauses them. -/
def State.startsCycles (s : State) : Bool :=
  !(s.cyc.fallback && !bit (s.maj Off.CYC_CFG) 2) && !s.sys.entering && !s.sys.warmPause

/-- A word of bank 0 that the input freeze writes through port B (R425, Table 9.3): header, validity table, or a byte of some source of the
input image. -/
def State.freezes (s : State) (word : Nat) : Bool :=
  let meet := fun (o n : Nat) => decide (o < word + 8) && decide (word < o + n)
  let loc := cycReg s s.lane0 Off.CYC_LOCAL_CFG
  let len := 64 * fld (cycReg s s.lane0 Off.CYC_IMG_CFG) 0 11
  meet 0x20000 4160 || (decide (word < len) && ((bit loc 8 && meet (256 * fld loc 0 8) 256) || s.stations.any fun x => meet x.2.offset x.2.plen))

/-- A core's write through port A in the cycle in which port B writes the word: port B's bytes stand afterwards, and elsewhere the core's
(R427, R430); so it is written first, and counted. -/
def portACollides (x : Lane × Nat × List Byte) (s : State) : State :=
  when (s.inVote x.1 && s.freezes (x.2.1 / 8 * 8)) (fun s => s |> wrLane x.1 (0x1000000000 + x.2.1) x.2.2 |> bumpLane x.1 Off.SPM_B0_COLLIDE_CNT) s

/-- A cycle boundary, the module being at its instant; `fb` tells that it is one of fallback, `meets` which writes of cores the freeze meets
(Table 9.2). -/
def boundary (fb : Bool) (meets : List (Lane × Nat × List Byte)) (s : State) : State :=
  let back := s.cyc.fallback && !fb
  let s0 := setFallback fb (rejoinBoundary s)
  let cut := s0.cyc.ended
  let s1 := { s0 with cyc := { s0.cyc with count := s0.nextCount, begun := true, boundaryAt := s0.time.tb2.ns, ended := false } }
  let over_ := s1.cyc.running
  let stop := s1.stopped
  let skip := over_ || stop || (s1.running && s1.sys.warmPause)
  let s2 := s1 |> when (over_ && !back && !stop) overrunStep |> when skip (skipBoundary (!over_ || back)) |> when stop (bump Off.VOT_SKIPPED_CNT)
  let s2c := commitStep s2
  let s3 := when (!s2c.sys.failSilent) (modeBoundary (s2c.sys.mode != s1.sys.mode)) s2c
  let starts := !skip && s3.startsCycles
  let s4 := s3 |> when starts firstStart |> when (!skip) applyBatches
  let s5 := when (starts && s4.running) takeoverClaim s4
  let s6 := releaseFirst s5
  let s7 := s6 |> when (!skip && s6.running && s6.startsCycles) (fun s => inputFreeze (meets.foldl (fun s x => portACollides x s) s))
  when (!cut) (keepAlive (if s7.held then 2 else if s7.chk.out.isSome then 3 else 1)) s7

/-! ### End of a cycle and the set in transfer (R291, R377 to R379) -/

/-- The runs of R102 at the end of a cycle: a lane without a minority of a class in it starts that run anew. -/
def endRuns (s : State) : State :=
  { s with vot := { s.vot with lanes := s.vot.lanes.map fun _ v =>
      { v with safetyRun := if v.safetyHit then v.safetyRun else 0, stdRun := if v.stdHit then v.stdRun else 0
               safetyHit := false, stdHit := false } } }

/-- The majority's cycle-end write is committed: the cycle ends with its cut, and the run of overruns with a cycle that ended in its
slot (R291, R296, R377). -/
def cycleEnd (pages : List (Nat × List Byte)) (s : State) : State :=
  let s1 := { s with cyc := { s.cyc with
    running := false, ended := true, first := false, overrun := if s.cyc.late then s.cyc.overrun else 0 } }
  s1 |> endRuns |> when (!s1.sys.mramFault) (makeCut pages) |> resyncIfDue |> warmFinal |> chkUpdate

/-- The transfer of the set ends with SET_COMMIT (R379). -/
def execSetSendComplete (s : State) : Host.Outcome State Fault Refusal := .next (when s.up completeSet s)

/-! ### Online change and forces (R313 to R319) -/

def execOcStage (l : Lane) (hi : Word) (s : State) : Host.Outcome State Fault Refusal := .next (when (s.up && s.inVote l) (ocStageOp l hi) s)

def execOcCommit (l : Lane) (key : Half) (s : State) : Host.Outcome State Fault Refusal := .next (when (s.up && s.inVote l) (ocCommitOp l key) s)

def execOcDiscard (l : Lane) (key : Half) (s : State) : Host.Outcome State Fault Refusal := .next (when (s.up && s.inVote l) (ocDiscardOp l key) s)

def execForceStage (l : Lane) (hi : Word) (s : State) : Host.Outcome State Fault Refusal := .next (when (s.up && s.inVote l) (frcStageOp l hi) s)

def execForceCommit (l : Lane) (key : Half) (s : State) : Host.Outcome State Fault Refusal := .next (when (s.up && s.inVote l) (frcCommitOp l key) s)

def execForceDiscard (l : Lane) (key : Half) (s : State) : Host.Outcome State Fault Refusal := .next (when (s.up && s.inVote l) (frcDiscardOp l key) s)

end Sys2Proof.Machine
end

