-- ==== Sys2Proof/Machine/RegOps.lean ====
section
/-! DEFINITION. 64-bit register pairs (R11): low halves written and not yet committed, and their commit. -/
namespace Sys2Proof.Machine

/-- Writable pairs: first _LO offset, stride, count (block summary tables). The _HI half lies 4 above. -/
def loPairs : List (Nat × Nat × Nat) :=
  [(0x30014, 64, 4), (0x3002C, 64, 4), (0x50060, 4, 1), (0x40100, 8, 64), (0x20048, 4, 1), (0x20068, 4, 1), (0x90040, 16, 8),
   (0xA0000, 64, 16), (0xB0308, 4, 1), (0xD0008, 4, 1), (0xD0014, 4, 1)]

/-- The offset is the low half of a writable pair. -/
def isLo (off : Nat) : Bool := loPairs.any fun r => decide (r.1 ≤ off) && (off - r.1) % r.2.1 == 0 && decide ((off - r.1) / r.2.1 < r.2.2)

/-- The offset is the high half of a writable pair. -/
def isHi (off : Nat) : Bool := decide (4 ≤ off) && isLo (off - 4)

/-- Whose low half a write sets: one lane's own, or all lanes' together for a module-shared block (R10, R14). -/
def loOwner (l : Lane) (off : Nat) : Option Lane := if laneLocal off then some l else none

def putLo (l : Lane) (core off : Nat) (v : Word) (s : State) : State :=
  { s with loWrites := ⟨loOwner l off, core, off, v⟩ ::
      s.loWrites.filter fun x => !(x.lane == loOwner l off && x.core == core && x.off == off) }

/-- The low half that a write of the _HI half commits: the one the same core wrote, else the one last committed. Of a SHADOWED pair with a value
pending that is the pending low half, not the one in force: R11 does not say which (DESIGN CHOICE, log 31). -/
def State.loFor (s : State) (l : Lane) (core lo : Nat) : Word :=
  match s.loWrites.find? fun x => x.lane == loOwner l lo && x.core == core && x.off == lo with
  | some x => x.val
  | none => match s.pendingAt (regKey l lo) with
    | some v => v
    | none => s.reg (regKey l lo)

/-- The low half is no longer waiting. -/
def dropLo (l : Lane) (core lo : Nat) (s : State) : State :=
  { s with loWrites := s.loWrites.filter fun x => !(x.lane == loOwner l lo && x.core == core && x.off == lo) }

/-- Low half `lo` committed as the active value, ahead of what the write of its _HI half does. -/
def commitLo (l : Lane) (core lo : Nat) (s : State) : State := dropLo l core lo (setReg (regKey l lo) (s.loFor l core lo) s)

/-- The same in every lane in vote. -/
def commitLoAll (core lo : Nat) (s : State) : State := s.lanesIn.foldl (fun s l => commitLo l core lo s) s

end Sys2Proof.Machine
end

