-- ==== Sys2Proof/Machine/Irq.lean ====
section
/-! DEFINITION. Commands of the interrupt controllers (spec/12). -/
namespace Sys2Proof.Machine

def State.icu (s : State) (l : Lane) : Icu := s.icus.get l

def setIcu (l : Lane) (f : Icu → Icu) (s : State) : State := { s with icus := s.icus.modify l f }

def setCore (l : Lane) (c : Nat) (f : IcuCore → IcuCore) (s : State) : State := setIcu l (fun u => { u with cores := modAt u.cores c f }) s

def State.icuCore (s : State) (l : Lane) (c : Nat) : IcuCore := (s.icu l).cores.getD c Reset.icuCore

/-- Every pending source of a lane routed at the next ICU clock edge (R402). -/
def routeLane (l : Lane) (s : State) : State := setIcu l (Icu.route (s.srcCfg l)) s

/-- The lane's cores run: its lane is powered and not held in reset. -/
def State.laneRuns (s : State) (l : Lane) : Bool :=
  s.up && match (s.vot.lanes.get l).phase with
    | .reset => false
    | .retired => false
    | _ => true

/-- A source asserted (R396 to R398). -/
def execSourceAssert (lane : Lane) (id : Nat) (s : State) : Host.Outcome State Fault Refusal :=
  .next (when (s.laneRuns lane) (assertAt lane id) s)

/-- The signal of a class withdrawn from a core before its entry: counted, and the source routed again (R403). -/
def withdraw (l : Lane) (c : Nat) (fast : Bool) (s : State) : State :=
  let k := s.icuCore l c
  if (if fast then k.sigF else k.sigN) = 0 then s
  else s |> setCore l c (fun k => if fast then { k with sigF := 0 } else { k with sigN := 0 }) |> bumpLane l Off.ICU_WITHDRAW_CNT

/-- The entry of the source signalled in a class has begun (R403, R404): a signal that the core still has in its handler is the one it entered
for, since a core in a handler of that class is no candidate (R402). -/
def IcuCore.begun (k : IcuCore) (fast : Bool) : Bool :=
  if fast then k.seq == .fHandler
  else k.seq == .nEntry || k.seq == .nHandler || (k.seq == .fHandler && k.under == some .nHandler)

/-- The signal of a class withdrawn from a core unless its entry has begun (R403). -/
def withdrawUnbegun (l : Lane) (c : Nat) (fast : Bool) (s : State) : State :=
  when (!(s.icuCore l c).begun fast) (withdraw l c fast) s

/-- The core's mask of a class, as its status register has it: set, it withdraws a signal whose entry has not begun (R403); cleared, the
core is a candidate again (R402). -/
def execSignalWithdraw (lane : Lane) (core : Nat) (fast mask : Bool) (s : State) : Host.Outcome State Fault Refusal :=
  .next <| when (s.laneRuns lane && decide (core < 6)) (fun s =>
    let s1 := setCore lane core (fun k => if fast then { k with maskF := mask } else { k with maskN := mask }) s
    routeLane lane (when mask (withdrawUnbegun lane core fast) s1)) s

/-- Free bytes saved into a 1 KiB frame of the scratchpad: core registers lie outside the manual (log 22). -/
def saveFrame (l : Lane) (addr : Nat) (s : State) : State :=
  wrLane l addr (freeBytes s 1024) { s with free := s.free + 1024 }

/-- A fast entry (R404, Table 12.2): what runs below is kept, an entry in progress is abandoned, an exit in progress stops. -/
def fastEntry (l : Lane) (c : Nat) (s : State) : State :=
  let k := s.icuCore l c
  let abandon := k.seq == .nEntry
  let under := match k.seq with
    | .nHandler => some Seq.nHandler
    | .nExit => some Seq.nExit
    | _ => none
  let (w, s1) := fresh s
  s1 |> setCore l c (fun k => { k with
        seq := .fHandler, under := under, bank := decide (c < 4)
        held := if abandon then k.sigN else k.held, sigN := if abandon then 0 else k.sigN, prioN := if abandon then 0 else k.prioN })
     |> when abandon (bumpLane l Off.ICU_ABANDON_CNT)
     |> when (k.seq == .nExit) (bumpLane l Off.ICU_TAILCHAIN_CNT)
     |> when (decide (c < 4)) (fun s =>
          setReg (laneKey l Off.ICU_FAST_MAX) (BitVec.ofNat 32 (max (s.reg (laneKey l Off.ICU_FAST_MAX)).toNat w.toNat)) s)
     |> when (decide (4 ≤ c)) (saveFrame l (0x1000041800 + 0x400 * (c - 4)))

/-- The core waits for the answer of a voted read (Table 12.2): one of its streams (R68) holds a read of the lane that has not resolved, or an
access whose window sample or non-posted answer has not come (R438, R447). Other voted writes are posted, and accesses to the lane's own memory end with their command. -/
def State.stalled (s : State) (l : Lane) (c : Nat) : Bool :=
  (s.vot.open_.any fun e => e.stream / 8 == c && e.arrivals.any fun x => x.lane == l && !x.write) ||
  (s.vot.kept.any fun k => k.stream / 8 == c && k.awaits && k.lanes.contains l)

/-- A core begins the entry of the source signalled in a class, or (in N_ENTRY) completes it (R404, Table 12.2). During a stall a normal entry
waits, and on the cycle core and the service core a fast entry too (R409): the command comes again when the access has completed. -/
def execHandlerEntry (lane : Lane) (core : Nat) (fast : Bool) (s : State) : Host.Outcome State Fault Refusal :=
  .next <| when (s.laneRuns lane && decide (core < 6)) (fun s =>
    let k := s.icuCore lane core
    if fast then
      if k.sigF != 0 && k.seq != .fHandler && !(decide (4 ≤ core) && s.stalled lane core) then routeLane lane (fastEntry lane core s) else s
    else if k.sigN = 0 then s
    else
      let p := BitVec.ofNat 8 (fld (s.srcCfg lane k.sigN) 16 8)
      match k.seq with
      | .run | .wait =>
        if s.stalled lane core then s
        else s |> setCore lane core (fun k => { k with seq := .nEntry, prioN := p }) |> saveFrame lane (0x1000040000 + 0x400 * core) |> routeLane lane
      | .nEntry => setCore lane core (fun k => { k with seq := .nHandler }) s
      | .nExit =>
        s |> setCore lane core (fun k => { k with seq := .nHandler, prioN := p }) |> bumpLane lane Off.ICU_TAILCHAIN_CNT |> routeLane lane
      | _ => s) s

/-- A read of ICU_CLAIM_N or ICU_CLAIM_F by a core (R405). A source has the class in which it is signalled until its next signalling (Table
12.6). -/
def claimOp (l : Lane) (c : Nat) (fast : Bool) (s : State) : State :=
  let k := s.icuCore l c
  let id := if fast then k.sigF else k.sigN
  let cfg := s.srcCfg l id
  let drop := setCore l c (fun k => if fast then { k with sigF := 0 } else { k with sigN := 0 })
  if id != 0 && bit cfg 0 then
    s |> drop
      |> setIcu l (fun u => { u with pend := u.pend.filter (fun x => x != id), active := u.active ++ [(id, c)] })
      |> setCore l c (fun k => if fast then { k with actF := id }
          else { k with actN := id, seq := if k.seq == .nEntry then .nHandler else k.seq })
      |> routeLane l |> answer l c (BitVec.ofNat 32 id) false
  else s |> drop |> bumpLane l Off.ICU_SPURIOUS_CNT |> routeLane l |> answer l c 0 false

def execClaimNormal (lane : Lane) (core : Nat) (s : State) : Host.Outcome State Fault Refusal :=
  .next (when (s.laneRuns lane && decide (core < 6)) (claimOp lane core false) s)

def execClaimFast (lane : Lane) (core : Nat) (s : State) : Host.Outcome State Fault Refusal :=
  .next (when (s.laneRuns lane && decide (core < 6)) (claimOp lane core true) s)

/-- A write of ICU_COMPLETE (R406). -/
def completeOp (l : Lane) (c : Nat) (v : Word) (s : State) : State :=
  let id := fld v 0 9
  if id != 0 && (s.icu l).active.contains (id, c) then
    s |> setIcu l (fun u => { u with active := u.active.filter (fun x => x != (id, c)) })
      |> setCore l c (fun k => { k with actN := if k.actN = id then 0 else k.actN, actF := if k.actF = id then 0 else k.actF })
      |> routeLane l
  else bumpLane l Off.ICU_BAD_COMPLETE_CNT s

def execIcuComplete (lane : Lane) (core : Nat) (v : Word) (s : State) : Host.Outcome State Fault Refusal :=
  .next (when (s.laneRuns lane && decide (core < 6)) (completeOp lane core v) s)

/-- A fast exit (Table 12.2): a fast source signalled meanwhile starts its handler with the bank switched; otherwise the core returns to what
ran below, and a source held since an abandoned entry is routed again. -/
def fastExit (l : Lane) (c : Nat) (s : State) : State :=
  let under := (s.icuCore l c).under
  let s1 := routeLane l (setCore l c (fun k => { k with seq := under.getD .run }) s)
  if (s1.icuCore l c).sigF != 0 then
    s1 |> setCore l c (fun k => { k with seq := .fHandler, under := under }) |> bumpLane l Off.ICU_TAILCHAIN_CNT
  else s1 |> setCore l c (fun k => { k with under := none, held := 0, bank := false }) |> routeLane l

/-- A handler exits. A normal handler's exit begins, and ends when the command comes again; a normal source signalled meanwhile starts its
handler with the frame in place (Table 12.2). `wait`: the core then executes its wait instruction. -/
def execHandlerExit (lane : Lane) (core : Nat) (wait : Bool) (s : State) : Host.Outcome State Fault Refusal :=
  .next <| when (s.laneRuns lane && decide (core < 6)) (fun s =>
    let k := s.icuCore lane core
    let rest : Seq := if wait then .wait else .run
    match k.seq with
    | .fHandler => fastExit lane core s
    | .nHandler => routeLane lane (setCore lane core (fun k => { k with seq := .nExit }) s)
    | .nExit =>
      if k.sigN != 0 then
        let p := BitVec.ofNat 8 (fld (s.srcCfg lane k.sigN) 16 8)
        s |> setCore lane core (fun k => { k with seq := .nHandler, prioN := p }) |> bumpLane lane Off.ICU_TAILCHAIN_CNT
      else routeLane lane (setCore lane core (fun k => { k with seq := rest, prioN := 0 }) s)
    | .run => routeLane lane (setCore lane core (fun k => { k with seq := rest }) s)
    | _ => s) s

/-- A write of ICU_SWI_SET (R411). -/
def swiOp (l : Lane) (v : Word) (s : State) : State :=
  let id := fld v 0 9
  if 448 ≤ id then assertAt l id s else bumpLane l Off.ICU_SWI_REJECTS s

def execSwiSet (lane : Lane) (_core : Nat) (v : Word) (s : State) : Host.Outcome State Fault Refusal :=
  .next (when (s.laneRuns lane) (swiOp lane v) s)

/-- Signals of a source withdrawn from every core whose entry has not begun (R403). -/
def withdrawSource (l : Lane) (id : Nat) (s : State) : State :=
  (List.range 6).foldl (fun s c =>
    let k := s.icuCore l c
    s |> when (k.sigN == id) (withdrawUnbegun l c false) |> when (k.sigF == id) (withdrawUnbegun l c true)) s

/-- A W1C write of ICU_PEND_w (Table 12.5). -/
def pendClearOp (l : Lane) (w : Nat) (v : Word) (s : State) : State :=
  let ids := ((List.range 32).filter fun b => bit v b).map fun b => 32 * w + b
  let s1 := (ids.filter fun i => i != 0).foldl (fun s i => withdrawSource l i s) s
  routeLane l (setIcu l (fun u => { u with pend := u.pend.filter (fun x => !ids.contains x) }) s1)

def execPendClear (lane : Lane) (w : Nat) (v : Word) (s : State) : Host.Outcome State Fault Refusal :=
  .next (when (s.laneRuns lane && decide (w < 16)) (pendClearOp lane w v) s)

/-- Cores in their wait state that a pending, enabled source wakes: it names them in TARGET and no core is a candidate (R412). -/
def execWaitWake (lane : Lane) (id : Nat) (s : State) : Host.Outcome State Fault Refusal :=
  .next (
    let cfg := s.srcCfg lane id
    let u := s.icu lane
    when (s.laneRuns lane && u.pend.contains id && bit cfg 0 && !u.signalled id && (bestCore cfg u.cores 0).isNone)
      (fun s => routeLane lane (setIcu lane (fun u => { u with cores := u.cores.zipIdx.map fun x =>
        if (x.1.seq == Seq.wait) && (bit cfg (8 + x.2)) then { x.1 with seq := .run } else x.1 }) s)) s)

/-- A write of ICU_SRC_CFG_n: EN cleared withdraws a signal whose entry has not begun (R403). -/
def srcCfgOp (l : Lane) (id : Nat) (v : Word) (s : State) : State :=
  let s1 := setReg (laneKey l (0x1000 + 4 * id)) v s
  routeLane l (when (!bit v 0) (withdrawSource l id) s1)

/-! ### External interrupt lines (R413 to R416) -/

/-- The kind of edge that an EDGE field selects. -/
def edgeWanted (edge : Nat) (rising : Bool) : Bool :=
  match edge with
  | 0 => rising
  | 1 => !rising
  | _ => true

/-- The committed configuration of line `k` with which the slices filter: the majority value (R416). -/
def State.extCfg (s : State) (k : Nat) : Word := s.maj (Off.ICU_EXT_CFG + 4 * k)

/-- The module TB0 time of the slice edge `cycles` slice clock cycles (250 MHz) before the latest one, in compact form (R415). -/
def State.sliceStamp (s : State) (cycles : Nat) : Word :=
  ctime ((s.time.tb0.time - (4 * cycles + s.now % 4) * s.time.tb0.rate) / nsUnit)

/-- A level change on line `k` that has passed its filter: the level, and for an edge of the selected kind the stamp of the run's start and
source 432 + k, in every lane in vote (R415). -/
def extEdge (k : Nat) (rising : Bool) (s : State) : State :=
  let cfg := s.extCfg k
  let stamp := s.sliceStamp (fld cfg 8 10)
  let want := edgeWanted (fld cfg 0 2) rising
  s.lanesIn.foldl (fun s l =>
    let lv := s.reg (laneKey l Off.ICU_EXT_LEVEL)
    let s1 := setReg (laneKey l Off.ICU_EXT_LEVEL) (if rising then lv ||| (1#32 <<< k) else lv &&& ~~~(1#32 <<< k)) s
    if want then
      s1 |> when ((s.icu l).pend.contains (432 + k)) (bumpLane l Off.ICU_EXT_LOST_CNT)
         |> setReg (laneKey l (Off.ICU_EXT_STAMP + 4 * k)) stamp |> assertAt l (432 + k)
    else s1) s

/-- VERIFY has ended: the slices serve the lines (R413). -/
def State.verified (s : State) : Bool :=
  match s.sys.mode with
  | .dormant | .boot | .verify | .standby => false
  | _ => true

/-- The slices judge line `k` at the latest slice edge: it has held a level for `cycles` slice clock cycles, all of them since it was last
judged. The new level is accepted once they are FILTER; a shorter pulse is ignored (R414). -/
def judgeLine (k : Nat) (rising : Bool) (cycles : Nat) (s : State) : State :=
  if rising != s.vot.extIn.getLsbD k && decide ((s.vot.extAt.getD k 0 + 3) / 4 + cycles ≤ s.now / 4) then
    let ok := decide (fld (s.extCfg k) 8 10 ≤ cycles)
    let lines := if ok then s.vot.extIn ^^^ (1#16 <<< k) else s.vot.extIn
    when ok (extEdge k rising) { s with vot := { s.vot with extIn := lines, extAt := s.vot.extAt.set k s.now } }
  else s

def execExtintEdge (k : Nat) (rising : Bool) (cycles : Nat) (s : State) : Host.Outcome State Fault Refusal :=
  .next (when (s.up && s.verified && decide (k < 16)) (judgeLine k rising cycles) s)

/-- An edge between DORMANT entry and the end of VERIFY, of the kind that EDGE in 0x2500 selects, sets the supervisor's latch (R413). -/
def execExtintDormantEdge (k : Nat) (rising : Bool) (s : State) : Host.Outcome State Fault Refusal :=
  .next (when (s.isl.powered && decide (k < 16) && (!s.verified || s.sys.entering) && edgeWanted (s.stored 0x2500 (k + 1) 0x1900 % 4) rising)
    (fun s => { s with isl := { s.isl with extLatch := s.isl.extLatch ||| (1#16 <<< k) } }) s)

/-- The end of VERIFY: each latched line becomes pending in every lane in vote, its stamp not valid (R413). -/
def dormantEdges (s : State) : State :=
  let ks := (List.range 16).filter fun k => s.isl.extLatch.getLsbD k
  let s1 := s.lanesIn.foldl (fun s l =>
    ks.foldl (fun s k => s |> assertAt l (432 + k) |> bumpLane l Off.ICU_DORMANT_EDGES)
      (setReg (laneKey l Off.ICU_EXT_DORMANT) (s.isl.extLatch.setWidth 32) s)) s
  { s1 with isl := { s1.isl with extLatch := 0 } }

end Sys2Proof.Machine
end

