-- ==== Sys2Proof/Machine/Memory.lean ====
section
/-! DEFINITION. Commands of the lanes' memories (spec/13), of the tamper input and of the lane power after a failed wipe. -/
namespace Sys2Proof.Machine

def setMem (l : Lane) (f : LaneMem → LaneMem) (s : State) : State := { s with mems := s.mems.modify l f }

def State.mem (s : State) (l : Lane) : LaneMem := s.mems.get l

/-- The lane's memories have power, and the lane works. -/
def State.memOn (s : State) (l : Lane) : Bool := s.up && !(s.mem l).powerOff && !(s.mem l).domainOpen

/-- SOURCE field of ERR_INFO: 1 scrub. -/
def fromScrub (info : Word) : Bool := fld info 1 3 == 1

/-- The SOURCE, BIT and CORE fields of an error's INFO (Table 13.7): CORE is 0xF unless a core read. -/
def errInfo (info : Word) : Word :=
  if fld info 1 3 = 0 then info &&& 0xFFF0#32 else (info &&& 0x0FFE#32) ||| 0xF000#32

/-- Error log of DRAM or scratchpad: address and INFO (Table 13.7). -/
def logError (l : Lane) (dram : Bool) (addr : Nat) (info : Word) (s : State) : State :=
  if dram then
    s |> setReg (laneKey l Off.SPM_DRAM_ERR_LO) (BitVec.ofNat 32 addr) |> setReg (laneKey l Off.SPM_DRAM_ERR_HI) (BitVec.ofNat 32 (addr / 4294967296 % 256))
      |> setReg (laneKey l Off.SPM_DRAM_ERR_INFO) info
  else
    s |> setReg (laneKey l Off.SPM_SPM_ERR_ADDR) (BitVec.ofNat 32 (addr % 4194304 / 8 * 8 + (if fld info 1 3 = 3 then 4194304 else 0)))
      |> setReg (laneKey l Off.SPM_SPM_ERR_INFO) info

/-- One correction counted in the lane's 24 h window of TB2; at CE_LIMIT the lane reports it, and the first such window of a power cycle is
recorded (R423). -/
def countCorrection (l : Lane) (s : State) : State :=
  let t := s.time.tb2.ns
  let m0 := s.mem l
  let m := if m0.ceStart + ceWindow ≤ t then { m0 with ceStart := t - (t - m0.ceStart) % ceWindow, ceCount := 1, ceRate := false }
    else { m0 with ceCount := m0.ceCount + 1 }
  let lim := fld (s.reg (laneKey l Off.SPM_ECC_CFG)) 0 16
  let hit := lim != 0 && decide (lim ≤ m.ceCount) && !m.ceRate
  let s1 := setMem l (fun _ => { m with ceRate := m.ceRate || hit, ceRecorded := m.ceRecorded || hit }) s
  s1 |> when hit (assertAt l Irq.MEM_CE_RATE) |> when (hit && !m.ceRecorded) (record 0x0301 [iU8 1 l.idx, iU8 2 0, iU32 3 m.ceCount])

/-- A single-bit error corrected at an address (a DRAM address, or an offset in the scratchpad), with the SOURCE, BIT and CORE fields of its
INFO (R421, R423, R424). -/
def correct (l : Lane) (dram : Bool) (addr : Nat) (info : Word) (s : State) : State :=
  let key := 2 * (addr / 8) + b2n dram
  let pers := (s.mem l).scrubOld.contains key
  let w := errInfo info ||| (if pers then 0x10000#32 else 0#32)
  s |> bumpLane l (if dram then Off.SPM_DRAM_CE_CNT else Off.SPM_SPM_CE_CNT)
    |> logError l dram addr w
    |> setMem l (fun m => { m with persistent := m.persistent || pers, scrubNow := if fromScrub info then insNat m.scrubNow key else m.scrubNow })
    |> assertAt l Irq.MEM_CE
    |> countCorrection l

def execEccCorrected (lane : Lane) (dram : Bool) (addr : Nat) (info : Word) (s : State) : Host.Outcome State Fault Refusal :=
  .next (when (s.memOn lane) (correct lane dram addr info) s)

/-- A double-bit error: no data, a bus error to a core that read, and the lane's exclusion at its own request (R422). -/
def uncorrectable (l : Lane) (dram : Bool) (addr : Nat) (info : Word) (s : State) : State :=
  let w := errInfo info ||| 0xFF1#32
  s |> bumpLane l (if dram then Off.SPM_DRAM_UE_CNT else Off.SPM_SPM_UE_CNT)
    |> logError l dram addr w
    |> when (fld info 1 3 == 0) (answer l (fld info 12 4) 0 true)
    |> assertAt l Irq.MEM_UE
    |> record 0x0301 [iU8 1 l.idx, iU8 2 1, iU64 3 addr]
    |> excludeLane l .self

/-! ### Aliases and denied accesses (R419, R420, R429 to R432) -/

/-- Offset in the scratchpad of an alias access that is allowed: aligned, 32 or 64 bits, not in the secure bank (R429, R431). -/
def aliasOff (base addr width : Nat) : Option Nat :=
  let x := addr - base
  if (width == 4 || width == 8) && decide (base ≤ addr) && decide (x + width ≤ 0x3F0000) && x % width == 0 then some x else none

/-- An alias write: `f` of the old bits and the mask, atomically over the width; a bad one is a bus error and counted (R431). -/
def aliasWrite (l : Lane) (core base addr width : Nat) (mask : DWord) (f : Nat → Nat → Nat) (s : State) : State :=
  match aliasOff base addr width with
  | some x =>
    let old := leNat (rdBytes (s.mem l).spad x width)
    setMem l (fun m => { m with spad := wrBytes m.spad x (leBytes width (f old (mask.toNat % 2 ^ (8 * width)))) }) s
  | none => s |> bumpLane l Off.SPM_ALIAS_ERR_CNT |> answer l core 0 true

def execAliasSet (lane : Lane) (core addr width : Nat) (mask : DWord) (s : State) : Host.Outcome State Fault Refusal :=
  .next (when (s.laneRuns lane && s.memOn lane) (aliasWrite lane core 0x1001000000 addr width mask (fun o m => o ||| m)) s)

def execAliasClear (lane : Lane) (core addr width : Nat) (mask : DWord) (s : State) : Host.Outcome State Fault Refusal :=
  .next (when (s.laneRuns lane && s.memOn lane) (aliasWrite lane core 0x1002000000 addr width mask (fun o m => o - (o &&& m))) s)

/-- A core's access to the secure bank (R432). -/
def execSecureAccess (lane : Lane) (core addr : Nat) (s : State) : Host.Outcome State Fault Refusal :=
  .next (when (s.laneRuns lane && decide (0x10003F0000 ≤ addr) && decide (addr ≤ 0x10003FFFFF))
    (fun s => s |> bumpLane lane Off.SPM_SECURE_DENY_CNT |> answer lane core 0 true) s)

/-- An address inside some region of Table 13.1. -/
def mapped (addr : Nat) : Bool :=
  [(0, 0x1FFFFFFFF), (0x1000000000, 0x10003FFFFF), (0x1001000000, 0x10013FFFFF), (0x1002000000, 0x10023FFFFF), (0x1004000000, 0x1004000FFF),
   (0x2000000000, 0x200010FFFF), (0x3000000000, 0x33FFFFFFFF), (0x4000000000, 0x400FFFFFFF)].any fun r => decide (r.1 ≤ addr) && decide (addr ≤ r.2)

/-- An access outside every region (R419). -/
def execMapError (lane : Lane) (core addr : Nat) (_write : Bool) (s : State) : Host.Outcome State Fault Refusal :=
  .next (when (s.laneRuns lane && !mapped addr) (fun s => s |> bumpLane lane Off.SPM_MAP_ERR_CNT |> answer lane core 0 true) s)

/-- A write of host software to the local MRAM window (R420). -/
def execMramWindowWrite (lane : Lane) (core addr : Nat) (_v : Word) (s : State) : Host.Outcome State Fault Refusal :=
  .next (when (s.laneRuns lane && decide (0x4000000000 ≤ addr) && decide (addr ≤ 0x400FFFFFFF))
    (fun s => s |> bumpLane lane Off.SPM_MRAM_WRITE_REJECTS |> answer lane core 0 true) s)

/-! ### Tamper and lane power (R434, R436) -/

/-- All three lanes, one held in reset included, wipe their secure banks; a lane whose wipe fails is excluded (R434, R436). -/
def wipeAll (cause : Nat) (s : State) : State :=
  let s1 := Lane.all.foldl (fun s l => wipeLane l cause s) s
  Lane.all.foldl (fun s l => when ((s.mem l).powerOff) (excludeLane l .self) s) s1

/-- A qualified tamper event (R434, Table 2.4): the supervisor keeps it until re-provisioning; lanes with power wipe their banks, lanes held in
reset among them; the reason is active at once, in START-UP at its end, and a fail-silent module changes no mode (R42). -/
def tamperOp (s : State) : State :=
  let s1 := { s with nv := { s.nv with tamper := true } }
  if s.up then wipeAll 1 (findReason .tamper s1)
  else when s.hubOn (fun s => Lane.all.foldl (fun s l => wipeLane l 1 s) s) s1

/-- The lane's power returns 100 ms after a failed wipe: its memories start anew, and the lane stays in reset (R436). -/
def execLanePowerRestore (lane : Lane) (s : State) : Host.Outcome State Fault Refusal :=
  .next (when (s.hubOn && (s.mem lane).powerOff)
    (fun s => setMem lane (fun m => { m with powerOff := false, offAt := 0 }) (advanceTo ((s.mem lane).offAt + 100000000) s)) s)

end Sys2Proof.Machine
end

