-- ==== Sys2Proof/Machine/Update.lean ====
section
/-! DEFINITION. Commands of firmware update, life cycle, test access and the SEC engines (spec/17). -/
namespace Sys2Proof.Machine

/-! ### UPD_CMD (R516 to R523, Table 17.15) -/

/-- A command is rejected with a cause. -/
def updReject (cause : Nat) (s : State) : State := updResult 3 cause 0 s

/-- Some target slot is ERASING or RECEIVING. -/
def State.stagingOn (s : State) : Bool := (List.range 4).any fun t => (s.target t).state == .erasing || (s.target t).state == .receiving

/-- Modes in which BEGIN and ACTIVATE are accepted. -/
def State.updMode (s : State) : Bool := s.running || s.held || (s.sys.recovery && s.sys.mode == .boot)

/-- BEGIN of type index `t` (R516): the erase begins, and the command is done at its end. -/
def beginOp (t : Nat) (s : State) : State :=
  if s.stagingOn then updReject 3 s
  else if !s.updMode then updReject 6 s
  else updResult 1 0 0 (setTarget t ⟨.erasing, []⟩ s)

/-- The slot of a staging that failed or was given up. -/
def stageRecord (t cause detail : Nat) (s : State) : State :=
  record 0x0B02 [iU8 1 (t + 1), iU8 2 (b2n (s.targetB t)), iU8 3 cause, iU8 4 detail] s

/-- VERIFY of type index `t` (R519). -/
def verifyOp (t : Nat) (s : State) : State :=
  let n := s.target t
  if n.state != .received then updReject 4 s
  else
    let d := s.checkImage t n
    let s1 := setCompat (s.crossCheck (fun x => if x = t + 1 then some n.header else s.runHeader x) (fun p => p.1 == t + 1 || p.2 == t + 1)) s
    if d = 0 then updResult 2 0 0 (setTarget t { n with state := .verified } s1)
    else setTarget t { n with state := .invalid } s1 |> bump Off.UPD_VERIFY_FAILS |> stageRecord t 8 d |> updResult 4 8 d

/-- ABORT of type index `t` (R520). -/
def abortOp (t : Nat) (s : State) : State :=
  let n := s.target t
  if n.state == .erasing || n.state == .receiving || n.state == .received then updResult 2 0 0 (setTarget t { n with state := .invalid } s)
  else updReject 4 s

/-- A lane is in a rejoin phase (R522). -/
def State.rejoining (s : State) : Bool :=
  !s.sys.recovery && Lane.all.any fun l => [Phase.boot, .selftest, .precopy, .stopcopy, .probation].contains (s.vot.lanes.get l).phase

/-- ACTIVATE (R522, R523). In BOOT recovery the marks are FINAL at once and a module reset follows, whose cause code the spec does not
give (log 18). -/
def activateOp (mask : Nat) (s : State) : State :=
  let ts := (List.range 4).filter fun t => mask.testBit t
  let c := s.crossCheck (fun x => if mask.testBit (x - 1) then some (s.target (x - 1)).header else s.runHeader x) fun _ => true
  if mask = 0 then updReject 2 s
  else if !ts.all (fun t => (s.target t).state == .verified) then updReject 4 s
  else if s.stagingOn then updReject 3 s
  else if s.rejoining then updReject 7 s
  else if !s.updMode then updReject 6 s
  else if c.1 = 2 then updReject 5 (setCompat c s)
  else if s.sys.recovery then
    let s1 := ts.foldl (fun s t => setSlots t (fun x => { x with markB := s.targetB t, trial := none }) s) (setCompat c s)
    moduleReset (fld (Config.freeWord s1.free) 0 4) { s1 with free := s1.free + 1 }
  else
    let s1 := ts.foldl (fun s t => setSlots t (fun x => { x with trial := some (!x.runB) }) s) (setCompat c s)
    updResult 1 0 0 { s1 with sys := { s1.sys with warmMask := BitVec.ofNat 4 mask, warmArmed := true } }

/-- A write of UPD_CMD: key, code, and the operation. -/
def updCmdOp (v : Word) (s : State) : State :=
  let op := fld v 0 4
  let t := fld v 4 4
  let s1 := updBegins op s
  if fld v 16 16 != 0x5550 then updReject 1 s1
  else if op = 3 then activateOp (fld v 8 4) s1
  else if op = 0 || 4 < op || t = 0 || 4 < t then updReject 2 s1
  else if op = 1 then beginOp (t - 1) s1
  else if op = 2 then verifyOp (t - 1) s1
  else abortOp (t - 1) s1

/-- UPD runs: powered and not held in reset. -/
def execUpdateBegin (v : Word) (s : State) : Host.Outcome State Fault Refusal := .next (when (s.up && fld v 0 4 == 1) (updCmdOp v) s)

def execUpdateVerify (v : Word) (s : State) : Host.Outcome State Fault Refusal := .next (when (s.up && fld v 0 4 == 2) (updCmdOp v) s)

def execUpdateAbort (v : Word) (s : State) : Host.Outcome State Fault Refusal := .next (when (s.up && fld v 0 4 == 4) (updCmdOp v) s)

def execUpdateActivate (v : Word) (s : State) : Host.Outcome State Fault Refusal := .next (when (s.up && fld v 0 4 == 3) (updCmdOp v) s)

/-- A rejoining lane, or a takeover, copies its LRT or its CPF from the device of slot B, or of slot A: erase and program of that device are
suspended (R520). -/
def State.norBusy (s : State) (b : Bool) : Bool :=
  (s.chk.takeover.isSome || (s.running && Lane.all.any fun l => (s.vot.lanes.get l).phase == .boot)) && [0, 3].any fun t => (s.typeSlots t).runB == b

/-- The erase of the target slot of a type code completes. -/
def eraseDone (t : Nat) (s : State) : State :=
  let n := s.target t
  if n.state == .erasing && !s.norBusy (s.targetB t) then
    setTarget t ⟨.receiving, []⟩ s |> when (s.upd.state == 1 && s.upd.lastOp == 1) (updResult 2 0 0)
  else s

def execEraseComplete (type : Nat) (s : State) : Host.Outcome State Fault Refusal :=
  .next (when (s.up && decide (1 ≤ type) && decide (type ≤ 4)) (eraseDone (type - 1)) s)

/-- A NOR program or erase fails in slot `n` (twice the type index, plus 1 for slot B): the slot is INVALID, and a staging that runs in it
has failed with cause NOR (R520). -/
def norFail (n : Nat) (s : State) : State :=
  let t := n / 2
  let b := n % 2 == 1
  let x := (s.typeSlots t).slot b
  let staging := b == s.targetB t && (x.state == .erasing || x.state == .receiving)
  let s1 := setSlots t (fun y => y.put b { x with state := .invalid }) { s with sys := { s.sys with norFault := true } }
  if staging then
    { s1 with upd := if x.state == .receiving then { s1.upd with blkState := 3, blkCause := 9 } else s1.upd }
    |> stageRecord t 9 0 |> updResult 4 9 0
  else record 0x0B01 [iU8 1 (t + 1), iU8 2 (b2n b)] s1

def execNorFailure (slot : Nat) (s : State) : Host.Outcome State Fault Refusal := .next (when (s.up && decide (slot < 8)) (norFail slot) s)

/-! ### Blocks (R517, R518, Table 17.7) -/

/-- Type index whose target slot is RECEIVING. -/
def State.receiving (s : State) : Option Nat := (List.range 4).find? fun t => (s.target t).state == .receiving

/-- Cause for which a block is rejected, in the order of R517; 0 when it is accepted. -/
def State.blockCause (s : State) (off len : Nat) (data : List Byte) (crcOk : Bool) : Nat :=
  match s.receiving with
  | none => 2
  | some t =>
    let n := s.target t
    let total := 4096 + hdrLen n.header
    if !crcOk then 3
    else if off % 4096 != 0 || len = 0 || 4096 < len || (len < 4096 && (off = 0 || (!n.header.isEmpty && off + len < total))) then 4
    else if off != 0 && n.header.isEmpty then 6
    else if off = 0 && !headerValid t data then 7
    else if off != 0 && total < off + len then 5
    else match look n.blocks (off / 4096) with
      | some d => if d = data then 0 else 8
      | none => 0

/-- An accepted block stands in NOR; the one that completes the image makes the slot RECEIVED. -/
def putBlock (off : Nat) (data : List Byte) (s : State) : State :=
  match s.receiving with
  | some t =>
    let n := s.target t
    let bs := put n.blocks (off / 4096) data
    let full := bs.length == imageBlocks (hdrLen ((look bs 0).getD []))
    setTarget t ⟨if full then .received else .receiving, bs⟩ s
  | none => s

/-- One block through the intake; BLK_STATUS and the counters tell of it. -/
def blockOp (off len : Nat) (data : List Byte) (crcOk : Bool) (s : State) : State :=
  let c := s.blockCause off len data crcOk
  let s1 := { s with upd := { s.upd with blkState := if c = 0 then 2 else 3, blkCause := c, blkSeq := s.upd.blkSeq + 1 } }
  if c = 0 then bump Off.UPD_BLOCKS_OK (putBlock off data s1) else bump Off.UPD_BLOCK_REJECTS s1

/-- A block in the layout of Table 17.7. -/
def blockBytes (b : List Byte) (s : State) : State :=
  let len := beAt b 4 2
  let data := slice b 8 len
  blockOp (beAt b 0 4) len data (b.length == 12 + len && beAt b (8 + len) 4 == (crc32c (b.take (8 + len))).toNat) s

def execBlockSubmit (block : List Byte) (s : State) : Host.Outcome State Fault Refusal := .next (when s.up (blockBytes block) s)

/-- DATA of the UPD_BLK registers, in the byte order of R244. -/
def State.blkData (s : State) (len : Nat) : List Byte :=
  ((List.range (min 1024 ((len + 3) / 4))).flatMap fun i => beBytes 4 (s.reg (Off.UPD_BLK_DATA + 4 * i)).toNat).take len

/-- A write of UPD_BLK_CMD. -/
def blkCmdOp (v : Word) (s : State) : State :=
  if fld v 16 16 != 0x5542 then
    { s with upd := { s.upd with blkState := 3, blkCause := 1, blkSeq := s.upd.blkSeq + 1 } }
    |> bump Off.UPD_BLOCK_REJECTS |> raiseIrq Irq.UPD_BLK_DONE
  else if bit v 0 then
    let off := (s.reg Off.UPD_BLK_OFFSET).toNat
    let len := fld (s.reg Off.UPD_BLK_LEN) 0 13
    let data := s.blkData len
    raiseIrq Irq.UPD_BLK_DONE
      (blockOp off len data (s.reg Off.UPD_BLK_CRC == crc32c (beBytes 4 off ++ beBytes 2 len ++ beBytes 2 0 ++ data)) s)
  else s

/-! ### Warm restart (R524 to R527) -/

/-- A lane in vote is held in reset for the pause; it stays in vote, and its wipe belongs to lane resets alone (log 24). Its path masks end with the
reset (R92). -/
def pauseLane (l : Lane) (s : State) : State :=
  { s with
    regs := putC (putC s.regs (Off.VOT_PATH_MASK_DI + 4 * l.idx) 0 0) (Off.VOT_PATH_MASK_MS + 4 * l.idx) 0 0
    icus := s.icus.set l Reset.icu
    latches := s.latches.filter fun x => x.lane != some l
    loWrites := s.loWrites.filter fun x => x.lane != some l }
  |> fun s => s.setLane l fun v => { v with skewRun := 0, digest := none, handed := none, ended := none, seqs := [], answer := ⟨0, 0, false⟩ }

/-- NET restarts its engines: channel A and the guardian at once, channel B once A runs again, each within 20 ms; how long each takes is not the
state's to say: free (R526, log 121). The DSP resumes its estimate, and the tracker starts in ACQUIRE. -/
def restartNet (s : State) : State :=
  let (a, s1) := fresh s
  let (b, s2) := fresh s1
  let (g, s3) := fresh s2
  let ta := s.now + a.toNat % 20000001
  let tb := ta + b.toNat % 20000001
  { s3 with
    sys := { s3.sys with
      netA := { s3.sys.netA with from_ := s.now, till := ta }, netB := { s3.sys.netB with from_ := ta, till := tb }
      guardianTill := s.now + g.toNat % 20000001 }
    odo := { s3.odo with resume := true } }
  |> when (s3.sup.lock != .off) (lockChange .acquire)

/-- The pause begins: the lanes are reset, sessions end, the standby is told, and with NET the engines start anew (R524 to R526). -/
def pauseBegin (s : State) : State :=
  let s1 := endSessions (fun _ => true) { s with sys := { s.sys with warmArmed := false, warmPause := true, pauseAt := s.now } }
  let s2 := s1.lanesIn.foldl (fun s l => pauseLane l s) { s1 with ksp := { Reset.ksp with lockouts := s1.ksp.lockouts, active := s1.ksp.active }, vot := { s1.vot with open_ := [], kept := [] } }
  s2 |> when (s2.chk.role == .active && s2.chk.stream != .idle) (sendRecord (ckRecord 5 0 0 0 (beBytes 4 250)))
     |> when (s2.sys.warmMask.getLsbD 1) restartNet

/-- The pause begins at the next boundary (R524); a boundary that a cycle point gives (R289) is the present instant. -/
def execActivatePause (s : State) : Host.Outcome State Fault Refusal :=
  .next (when (s.boundariesOn && s.sys.warmArmed && !s.cyc.running)
    (fun s => pauseBegin (if s.pointSource then s else toTb2 (s.nextBoundary * nsUnit) s)) s)

/-- Least length of the pause, ns: 2 ms of reset, the copy of the masked LRT, NET and CPF at 1,600 MiB/s, 15 ms of self-tests (R524). -/
def State.pauseNs (s : State) : Nat :=
  let n := ([0, 1, 3].map fun t => if s.sys.warmMask.getLsbD t then hdrLen (s.target t).header else 0).sum
  17000000 + n * 1000000000 / (1600 * 1048576)

/-- The pause ends with the lanes of `ok` having passed copies and self-tests: the masked types run from their new slots, and the program
starts with the warm state at the next boundary. With fewer than two lanes a module reset restores the previous marks. -/
def pauseEnd (ok : BitVec 3) (s : State) : State :=
  if (s.lanesIn.filter fun l => ok.getLsbD l.idx).length < 2 then moduleReset 7 s
  else
    let s1 := (s.lanesIn.filter fun l => !ok.getLsbD l.idx).foldl (fun s l => excludeLane l .image s) s
    let s2 := (List.range 4).foldl (fun s t => if s.sys.warmMask.getLsbD t then setSlots t (fun x => { x with runB := x.mark }) s else s) s1
    programInit { s2 with
      sys := { s2.sys with warmPause := false, cpfValid := s2.sys.cpfValid || s2.sys.warmMask.getLsbD 3 }
      cyc := { s2.cyc with first := true }
      chk := { s2.chk with fullNext := true }
      isl := { s2.isl with resetCause := 7 }
      nv := { s2.nv with warmCount := s2.nv.warmCount + 1 } }

def execWarmRestartComplete (lanesOk : BitVec 3) (s : State) : Host.Outcome State Fault Refusal :=
  .next (when (s.up && s.sys.warmPause) (fun s => pauseEnd lanesOk (advanceTo (s.sys.pauseAt + s.pauseNs) s)) s)

/-! ### Life cycle (R532, R535, R536, Table 17.12) -/

/-- Identity key and image key erased. -/
def eraseKeys (s : State) : State := { s with nv := { s.nv with identity := none, imageKey := none } }

/-- The secure banks are wiped; whether every bank that had power reads WIPED. -/
def wipeBanks (cause : Nat) (s : State) : Bool × State :=
  let on := Lane.all.filter fun l => !(s.mems.get l).powerOff && !(s.mems.get l).domainOpen
  let s1 := on.foldl (fun s l => wipeLane l cause s) s
  (on.all fun l => (s1.mems.get l).secure == .wiped, s1)

/-- A life-cycle change is committed: state, count, record, interrupt; ENGINEER and FACTORY sessions end, and reason LIFECYCLE is active. -/
def lifeCommit (to_ : Life) (s : State) : State :=
  let n := s.nv.lifeChanges
  { s with nv := { s.nv with life := to_, lifeWas := s.nv.life, lifeChanges := if n = 255 then n else n + 1 } }
  |> record 0x0B05 [iU8 1 s.nv.life.code, iU8 2 to_.code] |> raiseIrq Irq.UPD_LIFECYCLE |> endSessions (fun x => decide (3 ≤ x.role)) |> addReason .lifecycle

/-- The module reset that follows a life-cycle change; its cause code is not given (log 18). -/
def lifeReset (s : State) : State := moduleReset (fld (Config.freeWord s.free) 0 4) { s with free := s.free + 1 }

/-- Image key, endorsement and image-signing slot 0 are present (Table 17.12). -/
def State.releasable (s : State) : Bool :=
  s.nv.imageKey.isSome && (look s.nv.factory (objKey 0xB101 2)).isSome && (s.signKey 0).isSome

/-- Where a request of 0xB100.02 leads, and what the vault becomes; none when the present state has no such transition. -/
def State.lifeTarget (s : State) (req : Nat) : Option (Life × (State → State)) :=
  match req, s.nv.life with
  | 1, .manufacture | 1, .fieldOpen | 1, .returned =>
    some (.provisioned, fun s => { s with nv := { s.nv with
      identity := some s.nv.keysMade, keysMade := s.nv.keysMade + 1, factory := del s.nv.factory (objKey 0xB101 2), tamper := false } })
  | 2, .provisioned => if s.releasable then some (.field, id) else none
  | 3, .field | 3, .fieldOpen => some (.returned, eraseKeys)
  | 4, .scrapped => none
  | 4, _ => some (.scrapped, fun s => let t := eraseKeys s; { t with nv := { t.nv with factory := [] } })
  | _, _ => none

/-- Role that a request needs. -/
def lifeRole (req : Nat) : Nat := if req = 2 then 3 else 4

/-- KSP status of a life-cycle request: 4 ROLE, 5 MODE, 7 RANGE, 0 when it is accepted. -/
def State.lifeStatus (s : State) (req role : Nat) : Nat :=
  if role < lifeRole req then 4 else if !s.held then 5 else if (s.lifeTarget req).isNone then 7 else 0

/-- A life-cycle request of a session's role. -/
def lifeOp (req role : Nat) (s : State) : State :=
  match s.lifeTarget req with
  | some (l, vault) => if s.lifeStatus req role = 0 then lifeReset (lifeCommit l (vault (wipeBanks 2 s).2)) else s
  | none => s

def execProvision (role : Nat) (s : State) : Host.Outcome State Fault Refusal := .next (when s.up (lifeOp 1 role) s)

def execRelease (role : Nat) (s : State) : Host.Outcome State Fault Refusal := .next (when s.up (lifeOp 2 role) s)

def execReturnToMaker (role : Nat) (s : State) : Host.Outcome State Fault Refusal := .next (when s.up (lifeOp 3 role) s)

def execScrap (role : Nat) (s : State) : Host.Outcome State Fault Refusal := .next (when s.up (lifeOp 4 role) s)

/-! ### Test access (R537, R538) -/

/-- Access 1 boundary scan, 2 debug: open until the next power-on reset, with both DO group switches held open by the supervisor. -/
def openTest (kind : Nat) (s : State) : State :=
  { s with
    upd := { s.upd with scanOpen := s.upd.scanOpen || kind == 1, debugOpen := s.upd.debugOpen || kind == 2 }
    isl := { s.isl with testHold := true } }
  |> bothGroups 7 true |> resolveOuts |> record 0x0B06 [iU8 1 kind] |> raiseIrq Irq.UPD_TEST_OPEN |> endSessions fun x => decide (3 ≤ x.role)

/-- In PROVISIONED and FIELD the access erases the module first. -/
def State.testErases (s : State) : Bool := s.nv.life == .provisioned || s.nv.life == .field

/-- KSP status of a test-access request. -/
def State.testStatus (s : State) (kind role : Nat) : Nat :=
  if role < 2 + kind then 4 else if s.testErases && !s.held then 5 else if kind = 1 || kind = 2 then 0 else 7

/-- A write of 0xB130. Where it erases the module first, the access opens 2 ms after the secure banks read WIPED (R537). -/
def testOp (kind role : Nat) (s : State) : State :=
  if s.testStatus kind role != 0 then s
  else if s.testErases then
    let w := wipeBanks 3 s
    let s1 := lifeCommit .fieldOpen (eraseKeys w.2)
    lifeReset (when w.1 (fun s => openTest kind (advance 2000000 s)) s1)
  else openTest kind s

def execOpenBoundaryScan (role : Nat) (s : State) : Host.Outcome State Fault Refusal := .next (when s.up (testOp 1 role) s)

def execOpenDebug (role : Nat) (s : State) : Host.Outcome State Fault Refusal := .next (when s.up (testOp 2 role) s)

/-- A TAP instruction: 0 BYPASS, 1 IDCODE, others any other. While access is closed those others run as BYPASS and are counted; what
the chain does while open lies outside the module (log 25). -/
def execTapInstruction (ir : Nat) (s : State) : Host.Outcome State Fault Refusal :=
  .next (when (s.up && !s.upd.scanOpen && !s.upd.debugOpen && decide (2 ≤ ir)) (bump Off.UPD_TAP_DENIED) s)

/-! ### SEC (Table 17.17) -/

/-- A range in a lane's DRAM or scratchpad, clear of the secure bank. -/
def secRange (addr n : Nat) : Bool :=
  decide (addr + n ≤ 0x200000000) || (decide (0x1000000000 ≤ addr) && decide (addr + n ≤ 0x10003F0000))

def setSec (l : Lane) (f : Sec → Sec) (s : State) : State := { s with secs := s.secs.modify l f }

/-- An operation of a lane's engine ends. -/
def secEnds (l : Lane) (state : Nat) (valid : Bool) (cause : Nat) (s : State) : State :=
  s |> setSec l (fun x => ⟨state, valid, cause, x.seq + 1⟩) |> bumpLane l (if state = 2 then Off.SEC_OP_CNT else Off.SEC_REJECT_CNT) |> assertAt l Irq.SEC_DONE

/-- 40-bit address held in a lane's register pair. -/
def State.pair40 (s : State) (l : Lane) (lo : Nat) : Nat := (s.reg (laneKey l lo)).toNat + 4294967296 * fld (s.reg (laneKey l (lo + 4))) 0 8

/-- Bytes that SIGN_APP puts before its input (R533, spec/17): "SNAPPSIG". -/
def signPrefix : List Byte := [0x53, 0x4E, 0x41, 0x50, 0x50, 0x53, 0x49, 0x47]

/-- A write of SEC_OP in one lane; causes 1 BAD_KEY, 2 BAD_OP, 3 NO_KEY, 4 NOT_VALID, 5 BAD_ADDR. -/
def secOp (l : Lane) (v : Word) (s : State) : State :=
  let op := fld v 0 4
  let src := s.pair40 l Off.SEC_SRC_LO
  let dst := s.pair40 l Off.SEC_DST_LO
  let len := fld (s.reg (laneKey l Off.SEC_LEN)) 0 25
  let m := s.mems.get l
  let input := m.rd src len
  let key := s.signKey (fld v 8 2)
  if fld v 16 16 != 0x5345 then secEnds l 3 false 1 s
  else if op = 0 || 3 < op then secEnds l 3 false 2 s
  else if (op = 2 && key.isNone) || (op = 3 && s.nv.identity.isNone) then secEnds l 3 false 3 s
  else if op = 3 && m.secure != .valid then secEnds l 3 false 4 s
  else if !secRange src len || !secRange dst (if op = 1 then 64 else 512) || 16777216 < len then secEnds l 3 false 5 s
  else if op = 1 then secEnds l 2 false 0 (wrLane l dst (beBytes 64 (Config.sha512 input).toNat) s)
  else if op = 2 then secEnds l 2 ((key.map fun k => Config.pssVerify k input (m.rd dst 512)).getD false) 0 s
  else secEnds l 2 false 0 (wrLane l dst (s.identitySign (signPrefix ++ input)) s)

/-- The same write in every lane in vote, as host software makes it (R69). -/
def secAll (v : Word) (s : State) : State := s.lanesIn.foldl (fun s l => secOp l v s) s

def execSecSha512 (v : Word) (s : State) : Host.Outcome State Fault Refusal := .next (when (s.up && fld v 0 4 == 1) (secAll v) s)

def execSecVerifyPss (v : Word) (s : State) : Host.Outcome State Fault Refusal := .next (when (s.up && fld v 0 4 == 2) (secAll v) s)

def execSecSignApp (v : Word) (s : State) : Host.Outcome State Fault Refusal := .next (when (s.up && fld v 0 4 == 3) (secAll v) s)

/-! ### Random source (R473, Table 17.14) -/

/-- A read of UPD_RNG: a new free value, once for all lanes. -/
def rngRead (core : Nat) (s : State) : State :=
  let (w, s1) := fresh s
  answerAll core w false s1

def execUpdRngRead (lane : Lane) (core : Nat) (s : State) : Host.Outcome State Fault Refusal :=
  .next (when (s.up && s.inVote lane) (rngRead core) s)

end Sys2Proof.Machine
end

