-- ==== Sys2Proof/Machine/Background.lean ====
section
/-! DEFINITION. Background activities, telemetry (spec/18) and temperature actions (spec/19). -/
namespace Sys2Proof.Machine

/-! ### Scrubs and refreshes (Table 18.1) -/

/-- The scrubs run: they pause during STOPCOPY and the pause of a warm restart. -/
def State.scrubs (s : State) (l : Lane) : Bool :=
  s.memOn l && !s.sys.warmPause && !Lane.all.any fun x => (s.vot.lanes.get x).phase == .stopcopy

/-- INFO word of a correction by the scrub: SOURCE 1, BIT, CORE none. -/
def scrubInfo (b : Nat) : Word := mkWord [(1, 1), (4, b % 72), (12, 15)]

/-- The words a scrub has corrected, as address and bit (R421, R423). -/
def scrubWords (l : Lane) (dram : Bool) (limit : Nat) (ws : List (Nat × Nat)) (s : State) : State :=
  (ws.filter fun w => decide (w.1 < limit)).foldl (fun s w => correct l dram w.1 (scrubInfo w.2) s) s

/-- A lane's pass of scrub `a` (0 DRAM, 1 scratchpad) is complete. -/
def lanePassDone (a : Nat) (l : Lane) (s : State) : State :=
  passDone a { s with tlm := { s.tlm with periodAt := s.tlm.periodAt.set (10 + 2 * l.idx + a) s.now } }

/-- A pass ends: the words it corrected are those of the previous pass for the next one (R423). -/
def passEnds (l : Lane) (dram : Bool) (s : State) : State :=
  let mine := fun (k : Nat) => k % 2 == b2n dram
  setMem l (fun m => { m with
    scrubOld := (m.scrubOld.filter fun k => !mine k) ++ m.scrubNow.filter mine
    scrubNow := m.scrubNow.filter fun k => !mine k }) s

/-- The DRAM scrub of a lane has come to `percent` of its pass and corrected the words given; 100 ends the pass. -/
def execDramScrub (lane : Lane) (corrected : List (Nat × Nat)) (percent : Nat) (s : State) : Host.Outcome State Fault Refusal :=
  .next (when (s.scrubs lane) (fun s =>
    let s1 := scrubWords lane true 0x200000000 corrected s
    let done := decide (100 ≤ percent)
    { s1 with tlm := { s1.tlm with progress := s1.tlm.progress.set lane (if done then 0 else percent) } }
    |> when done (fun s => s |> passEnds lane true |> lanePassDone 0 lane)) s)

def execSpmScrub (lane : Lane) (corrected : List (Nat × Nat)) (passEnd : Bool) (s : State) : Host.Outcome State Fault Refusal :=
  .next (when (s.scrubs lane) (fun s =>
    s |> scrubWords lane false 0x400000 corrected |> when passEnd (fun s => s |> passEnds lane false |> lanePassDone 1 lane)) s)

/-- The supervisor has read-verified the committed halves. A page that fails is replaced by a spare page while one is left; without one
the MRAM has failed (Table 1.9, spec/11). -/
def execMramReadVerify (ok spareLeft : Bool) (s : State) : Host.Outcome State Fault Refusal :=
  .next (when (s.isl.powered && decide (3 ≤ s.sys.mode.code) && s.chk.takeover.isNone && !s.sys.warmPause) (fun s =>
    if ok || spareLeft then
      { s with chk := { s.chk with mramOk := s.chk.mramOk || !s.sys.mramFault } } |> passDone 2 |> chkUpdate
    else
      { s with chk := { s.chk with mramOk := false }, sys := { s.sys with mramFault := true } }
      |> passDone 2 |> when (!s.sys.mramFault) (record 0x0303 [iU8 1 1]) |> chkUpdate) s)

/-- `f` repeated. -/
def times (n : Nat) (f : State → State) (s : State) : State := (List.range n).foldl (fun s _ => f s) s

/-- A slot has been read; with every slot read and no failing block left, the pass is complete. -/
def norRead (slot : Nat) (s : State) : State :=
  let seen := s.tlm.norSeen ||| 1#8 <<< slot
  if seen = 255 && s.upd.failing.isEmpty then passDone 3 { s with tlm := { s.tlm with norSeen := 0 } }
  else { s with tlm := { s.tlm with norSeen := seen } }

/-- Slot `slot` (twice the type, plus 1 for slot B) has been read. Of a slot that matches its hash, `blocks` blocks whose margin fails are
rewritten in place; for a marked or running slot only while the other slot is VERIFIED, and else they are left and reported (R507). -/
def norRefresh (slot blocks : Nat) (marginFail : Bool) (s : State) : State :=
  let t := s.typeSlots (slot / 2)
  let b := slot % 2 == 1
  let n := t.slot b
  let used := t.mark == b || t.runB == b || t.markB == b
  let may := !used || (t.slot (!b)).state == .verified
  let match_ := beAt n.header 68 64 == (Config.sha512 n.payload).toNat
  let keep := s.upd.failing.filter fun x => x.1 != slot
  if !marginFail then norRead slot { s with upd := { s.upd with failing := keep } }
  else if !match_ then norRead slot s
  else if may then { s with upd := { s.upd with failing := keep } } |> times blocks (record 0x0E03 [iU8 1 0, iU8 2 slot]) |> norRead slot
  else
    norRead slot ({ s with
      upd := { s.upd with failing := (slot, blocks) :: keep }
      tlm := { s.tlm with late := s.tlm.late ||| 8#10 } } |> record 0x0B01 [iU8 1 (slot / 2 + 1), iU8 2 (b2n b)])

/-- Suspended while a lane or a takeover copies from the slot's device (R520). -/
def execNorRefresh (slot blocks : Nat) (marginFail : Bool) (s : State) : Host.Outcome State Fault Refusal :=
  .next (when (s.up && decide (slot < 8) && !s.norBusy (slot % 2 == 1)) (norRefresh slot blocks marginFail) s)

/-- REC has read its kept copies: pages rewritten for their age, pages repaired from the other copy, with REC_STORAGE, and blocks that failed in it
(R501, Tables 16.10 and 18.1). A kept record whose bytes were found bad is whole again after a repair. -/
def nandRefresh (rewritten repaired failed : Nat) (s : State) : State :=
  let n := s.nv.nand
  { s with nv := { s.nv with nand := { n with badCrc := if repaired = 0 then n.badCrc else n.badCrc.filter fun b => !b.1 } } }
  |> times (rewritten + repaired) (record 0x0E03 [iU8 1 1]) |> when (repaired != 0) (raiseIrq Irq.REC_STORAGE) |> retireBlocks failed |> passDone 4

def execNandRefresh (rewritten repaired failed : Nat) (s : State) : Host.Outcome State Fault Refusal :=
  .next (when (s.recUp && s.erec.state != .failed) (nandRefresh rewritten repaired failed) s)

/-! ### Late activities (R540) -/

/-- An activity runs in the present mode (Table 18.1). -/
def State.bgRuns (s : State) (a : Nat) : Bool :=
  match a with
  | 0 | 1 | 6 => Lane.all.any s.memOn
  | 2 => s.isl.powered && decide (3 ≤ s.sys.mode.code)
  | 3 | 4 | 5 | 7 => s.up
  | 8 => s.up && s.dio.enabled
  | 9 => s.up && decide (4 ≤ s.sys.mode.code)
  | _ => false

/-- Period of an activity in ns (Table 18.1, R137, R169, R346, R363). -/
def bgPeriod (a : Nat) : Nat :=
  1000000000 * [86400, 10, 86400, 604800, 2592000, 15, 1, 1, 10, 1].getD a 1

/-- Module time at which the present period of an activity began; of a scrub that of the powered lane whose pass is oldest. -/
def State.periodStart (s : State) (a : Nat) : Nat :=
  let at_ := fun (k : Nat) => max s.sys.startAt (s.tlm.periodAt.getD k 0)
  if 2 ≤ a then at_ a
  else match (Lane.all.filter s.memOn).map fun l => at_ (10 + 2 * l.idx + a) with
    | [] => at_ a
    | t :: ts => ts.foldl min t

/-- The next period of an activity that was late begins now; of a scrub in the lanes whose period is over. -/
def State.nextPeriods (s : State) (a : Nat) : List Nat :=
  if 2 ≤ a then s.tlm.periodAt.set a s.now
  else Lane.all.foldl (fun ps l =>
    let k := 10 + 2 * l.idx + a
    if max s.sys.startAt (ps.getD k 0) + bgPeriod a ≤ s.now then ps.set k s.now else ps) s.tlm.periodAt

/-- An activity has not completed its pass or test at the end of its period. -/
def bgLate (activity : Nat) (s0 : State) : State :=
  let s := advanceTo (s0.periodStart activity + bgPeriod activity) s0
  let op := s.nv.opSeconds.toNat
  let due := match s.tlm.lateAt.getD activity none with
    | some t => decide (t + 3600 ≤ op)
    | none => true
  let m := 1#10 <<< activity
  { s with tlm := { s.tlm with
      late := s.tlm.late ||| m, latePass := s.tlm.latePass ||| m, periodAt := s.nextPeriods activity
      lateAt := if due then s.tlm.lateAt.set activity (some op) else s.tlm.lateAt } }
  |> bump Off.TLM_BG_LATE_CNT |> raiseIrq Irq.TLM_BG_LATE |> when due (record 0x0E01 [iU8 1 activity])
  |> when (activity == 9) (bump Off.TLM_PUB_MISSED)

def execBgLate (activity : Nat) (s : State) : Host.Outcome State Fault Refusal := .next (when (s.bgRuns activity) (bgLate activity) s)

/-! ### Link margins -/

/-- A port whose margin has been below MARGIN_WARN for 10 s. -/
def State.portLow (s : State) (p : Nat) : Bool :=
  match s.tlm.lowSince.getD p none with
  | some t => s.portUsed p && decide (t + 10000000000 ≤ s.now)
  | none => false

/-- A port has been measured; with every port in use measured the pass is complete. -/
def portRead (port : Nat) (s : State) : State :=
  let seen := s.tlm.portSeen ||| 1#22 <<< port
  if (List.range 22).all fun p => !s.portUsed p || seen.getLsbD p then passDone 7 { s with tlm := { s.tlm with portSeen := 0 } }
  else { s with tlm := { s.tlm with portSeen := seen } }

/-- The margin of a port in use is measured (0.1 dB); the first port low for 10 s sets MARGIN_WARN, and the last to recover clears it. -/
def marginCheck (port : Nat) (margin : Int) (s : State) : State :=
  let low := decide (margin < (fld (s.reg Off.TLM_CFG) 8 8 : Nat))
  let since := if low then some ((s.tlm.lowSince.getD port none).getD s.now) else none
  let s1 := { s with tlm := { s.tlm with margins := s.tlm.margins.set port (satSigned 16 margin), lowSince := s.tlm.lowSince.set port since } }
  let first := (List.range 22).find? s1.portLow
  let p := first.getD port
  { s1 with tlm := { s1.tlm with marginWarn := first.isSome } } |> portRead port
  |> when (first.isSome && !s.tlm.marginWarn) (fun s => s |> bump Off.TLM_MARGIN_WARN_CNT |> raiseIrq Irq.TLM_MARGIN_WARN
      |> record 0x0E02 [iU8 1 p, ⟨2, 7, beBytes 2 (code 16 (s.tlm.margins.getD p 0))⟩])

def execLinkMarginCheck (port : Nat) (margin : Int) (s : State) : Host.Outcome State Fault Refusal :=
  .next (when (s.up && s.portUsed port) (marginCheck port margin) s)

/-! ### Telemetry (R544, Table 18.2) -/

/-- Sum of a counter over lanes, saturating. -/
def satSum (ws : List Word) : Nat := min 4294967295 (ws.foldl (fun a w => a + w.toNat) 0)

/-- The snapshot with its sequence number, as the module stands. -/
def State.telemetry (s : State) : List Byte :=
  let l := s.lane0
  let u32 := fun (off : Nat) => beBytes 4 (s.peek l off).toNat
  beBytes 4 s.tlm.pubSeq.toNat ++ beBytes 4 s.nv.opSeconds.toNat ++ beBytes 4 (ctime s.tb0).toNat ++ beBytes 2 (code 16 s.tlm.temp) ++
  beBytes 2 (s.tlm.vin % 65536) ++ beBytes 2 (s.tlm.power % 65536) ++ beBytes 1 (s.sys.mode.code + 16 * s.sub) ++ beBytes 1 s.reason ++
  beBytes 1 (s.lanesIn.foldl (fun a x => a + 2 ^ x.idx) 0 + 16 * s.vot.slices.toNat) ++ beBytes 1 (s.chkStatus.toNat % 256) ++
  beBytes 2 (s.faults.toNat % 65536) ++ beBytes 4 s.portsUp.toNat ++ u32 Off.TLM_UNMAPPED_CNT ++ u32 Off.TLM_REPLACED_CNT ++
  beBytes 4 (satSum (s.lanesIn.map fun x => s.reg (laneKey x Off.SPM_DRAM_CE_CNT))) ++
  beBytes 4 (satSum (Lane.all.map fun x => s.reg (Off.VOT_DIS_CNT + 4 * x.idx))) ++ u32 Off.FTN_RX_MISSING ++
  beBytes 4 (s.maj Off.CYC_OVERRUN_CNT).toNat ++ beBytes 2 (min 65535 (beNat (s.objValue none 0x2100 8))) ++
  beBytes 2 (s.tlm.late.toNat) ++ u32 Off.REC_NEWEST_SEQ ++ beBytes 4 0

/-- The next whole second of TB2 is reached. `temps` are the six sensors in 0.1 °C, the two edge sensors first; `vin` mV and `power` 0.1 W
are the supervisor's last measurement (R544, R580). -/
def execTelemetrySnapshot (temps : List Int) (vin power : Nat) (s : State) : Host.Outcome State Fault Refusal :=
  .next (when (s.up && decide (4 ≤ s.sys.mode.code)) (fun s =>
    let s0 := toTb2 ((s.time.tb2.ns / 1000000000 + 1) * 1000000000 * nsUnit) s
    let hot := match temps with
      | [] => s.tlm.temp
      | t :: ts => ts.foldl max t
    let wall := (temps.take 2).foldl max (temps.headD s.tlm.temp)
    let warn := decide (10 * ((fld (s.reg Off.TLM_CFG) 0 8 : Nat) : Int) < hot)
    let s1 := { s0 with tlm := { s0.tlm with
      temp := hot, vin := vin, power := power, pubSeq := s0.tlm.pubSeq + 1, tempWarn := warn
      excursion := s0.tlm.excursion.map fun e => (e.1, max e.2.1 wall, e.2.2)
      hotAt := if 1100 ≤ hot then some (s0.tlm.hotAt.getD s0.now) else none } }
    let s2 := s1 |> passDone 9 |> when (warn && !s.tlm.tempWarn)
      (fun s => s |> raiseIrq Irq.TLM_TEMP_WARN |> record 0x0E04 [⟨1, 7, beBytes 2 (code 16 hot)⟩])
    { s2 with tlm := { s2.tlm with snapshot := s2.telemetry } } |> raiseIrq Irq.TLM_PUBLISHED) s)

/-! ### Temperature actions (R580, Table 19.13) -/

/-- TEMP_EXCURSION: duration so far in seconds, and peak in 0.1 °C. -/
def tempRecord (start : Nat) (peak : Int) (s : State) : State :=
  record 0x0105 [iU32 1 ((s.now - start) / 1000000000), ⟨2, 7, beBytes 2 (code 16 peak)⟩] s

/-- The cold wall, at `edge` in 0.1 °C, has passed 80 °C. -/
def execTempExcursionBegin (edge : Int) (s : State) : Host.Outcome State Fault Refusal :=
  .next (when (s.isl.powered && s.tlm.excursion.isNone && decide (800 < edge))
    (fun s => { s with tlm := { s.tlm with excursion := some (s.now, edge, false) } }) s)

/-- The cold wall, at `edge` in 0.1 °C, is no longer above 80 °C. -/
def execTempExcursionEnd (edge : Int) (s : State) : Host.Outcome State Fault Refusal :=
  .next (
    match s.tlm.excursion with
    | some e => when (decide (edge ≤ 800)) (fun s => tempRecord e.1 e.2.1 { s with tlm := { s.tlm with excursion := none } }) s
    | none => s)

/-- The 10 min mark of an excursion of an AX module. -/
def execTempExcursionLimit (s : State) : Host.Outcome State Fault Refusal :=
  .next (
    match s.tlm.excursion with
    | some e =>
      if Config.gradeAX && !e.2.2 then
        let s1 := advanceTo (e.1 + 600000000000) s
        tempRecord e.1 e.2.1 { s1 with tlm := { s1.tlm with excursion := some (e.1, e.2.1, true) } }
      else s
    | none => s)

/-- The highest sensor has stood at `peak` (0.1 °C), at least 110 °C, for 1 s: since a snapshot that showed it, or since now where none has. -/
def execThermalShutdown (peak : Int) (s : State) : Host.Outcome State Fault Refusal :=
  .next (when (s.up && decide (1100 ≤ peak)) (fun s =>
    let hot := s.tlm.hotAt.getD s.now
    let start := (s.tlm.excursion.map (·.1)).getD hot
    failSilent (tempRecord start peak (advanceTo (hot + 1000000000) s))) s)

end Sys2Proof.Machine
end

