-- ==== Sys2Proof/Machine/VoteOps.lean ====
section
/-! DEFINITION. Shared operations of the Sluice's input agreement (R88 to R93). -/
namespace Sys2Proof.Machine

/-! Channels of input agreement: 0 to 31 DI, 32 to 39 speed signals, 40 to 43 analog, 44 to 49 inertial axes. -/

/-- Register and bit of a lane's path mask for a channel (VOT_PATH_MASK_DI, VOT_PATH_MASK_MS). -/
def maskAt (l : Lane) (ch : Nat) : Nat × Nat :=
  if ch < 32 then (Off.VOT_PATH_MASK_DI + 4 * l.idx, ch) else (Off.VOT_PATH_MASK_MS + 4 * l.idx, ch - 32)

def State.pathMasked (s : State) (l : Lane) (ch : Nat) : Bool := bit (s.reg (maskAt l ch).1) (maskAt l ch).2

/-- A capture path masked for a channel (R92). -/
def maskPath (l : Lane) (ch : Nat) (s : State) : State :=
  let k := maskAt l ch
  s |> setReg k.1 (s.reg k.1 ||| (1#32 <<< k.2)) |> raiseIrq Irq.VOT_PATH_MASKED |> record 0x0207 [iU8 1 l.idx, iU8 2 ch]

def State.agreeOf (s : State) (ch : Nat) : Agree := s.vot.agree.getD ch Reset.agree

def setAgree (ch : Nat) (f : Agree → Agree) (s : State) : State := { s with vot := { s.vot with agree := modAt s.vot.agree ch f } }

/-- A path disagreement counted; at PATH_LIMIT within 1 s the path is masked (R92). -/
def pathDisagree (l : Lane) (ch : Nat) (s : State) : State :=
  let ts := s.now :: ((s.agreeOf ch).times.get l).filter fun t => decide (s.now < t + 1000000000)
  let s1 := setAgree ch (fun a => { a with times := a.times.set l ts }) s
  if decide (max 1 (fld (s.reg Off.VOT_INPUT_CFG) 0 8) ≤ ts.length) && !s.pathMasked l ch then maskPath l ch s1 else s1

/-- Paths that count for a channel: those of the lanes in vote that are not masked. -/
def State.paths (s : State) (ch : Nat) : List Lane := if s.lanesReset then [] else s.lanesIn.filter fun l => !s.pathMasked l ch

end Sys2Proof.Machine
end

