-- ==== Sys2Proof/Machine/FieldIO.lean ====
section
/-! DEFINITION. Commands of the field inputs and outputs (spec/10, R567). -/
namespace Sys2Proof.Machine

/-! ### Inputs (R339 to R347) -/

def codeOf : Nat → Code
  | 0 => .off
  | 1 => .on
  | 2 => .broken
  | _ => .invalid

/-- A filtered state changes: counted, seen by the edge latch and reported with IRQ_EN (R341 to R344). The trip matrix is evaluated once all changes of
an edge are there (R366). -/
def diChange (n : Nat) (c : Code) (s : State) : State :=
  if (s.di n).state == c then s else
    s |> setDi n (fun d => { d with state := c, changes := d.changes + 1, seenOn := d.seenOn || c == .on, seenOff := d.seenOff || c == .off })
      |> when (bit (s.reg (Off.DIO_IN_CFG + 4 * n)) 14) (raiseIrq (Irq.DIO_DI + n))

/-- Code that the filter takes from an agreed one: BROKEN counts as OFF with WB_EN clear (R340). -/
def State.diCode (s : State) (n : Nat) (c : Code) : Code :=
  if c == .broken && !bit (s.reg (Off.DIO_IN_CFG + 4 * n)) 10 then .off else c

/-- A channel whose filter may show a code: its front end runs, its group is in range and it has not failed two tests (R345, R347). -/
def State.diLive (s : State) (n : Nat) : Bool := s.dio.enabled && !(s.group (n / 8)).outRange && decide ((s.di n).fails < 2)

/-- FILTER of a channel (Table 10.13). -/
def State.diFilter (s : State) (n : Nat) : Nat := max 1 (min 1000 (fld (s.reg (Off.DIO_IN_CFG + 4 * n)) 0 10))

/-- The agreed samples of a channel carry one code up to the FILTER-th in a row: time passes to the strobe at which the filtered state changes (R341).
What the other channels carry meanwhile the command does not say: their filters wait (DESIGN CHOICE, log 114). -/
def execDiFilterChange (n code : Nat) (s : State) : Host.Outcome State Fault Refusal :=
  .next (when (decide (n < 32) && s.diLive n && decide (2 ≤ (s.paths n).length)) (fun s =>
    let c := s.diCode n (codeOf code)
    let left := s.diFilter n - if (s.di n).cand == c then (s.di n).run else 0
    let due := (s.tb0 / 1000 + left) * 1000
    let s1 := toTb0 due s
    { s1 with vot := { s1.vot with strobes := modAt s1.vot.strobes 0 fun _ => due } }
    |> setDi n (fun d => { d with cand := c, run := s.diFilter n }) |> diChange n c |> tripEval) s)

/-- Every channel of a DI group INVALID, its filter starting anew. -/
def diInvalid (g : Nat) (s : State) : State :=
  (List.range 8).foldl (fun s i => s |> diChange (8 * g + i) .invalid |> setDi (8 * g + i) (fun d => { d with cand := .invalid, run := 0 })) s

/-- A DI group supply has stayed below 14.4 V for 5 ms, or is above 36.0 V, `mv` being its voltage (R345). -/
def execDiSupplyFault (g mv : Nat) (s : State) : Host.Outcome State Fault Refusal :=
  .next (
    if s.dio.enabled && decide (g < 4) && (decide (mv < 14400) || decide (36000 < mv)) then
      let high := decide (36000 < mv)
      s |> setGroup g (fun x =>
            { x with outRange := true, supply := if high then .over else .under, sensorOn := x.sensorOn && !high, volt := BitVec.ofNat 16 mv })
        |> diInvalid g |> raiseIrq Irq.DIO_IN_SUPPLY |> tripEval
    else s)

/-- It has stayed within 18.0 V to 32.0 V for 100 ms. -/
def execDiSupplyReturn (g mv : Nat) (s : State) : Host.Outcome State Fault Refusal :=
  .next (when (s.dio.enabled && decide (g < 4) && decide (18000 ≤ mv) && decide (mv ≤ 32000)) (setGroup g fun x =>
    { x with outRange := false, supply := .normal, sensorOn := x.sensorOn || x.supply == .over, volt := BitVec.ofNat 16 mv }) s)

/-- A DI group supply below 16.8 V reports LOW (R345). -/
def execDiSupplyLow (g mv : Nat) (s : State) : Host.Outcome State Fault Refusal :=
  .next (
    if s.dio.enabled && decide (g < 4) && decide (mv < 16800) && (s.group g).supply == .normal then
      s |> setGroup g (fun x => { x with supply := .low, volt := BitVec.ofNat 16 mv }) |> raiseIrq Irq.DIO_SUPPLY_LOW
    else s)

def State.testEn (s : State) (n : Nat) : Bool := bit (s.reg (Off.DIO_IN_CFG + 4 * n)) 13

/-- A group is tested only if one of its channels has TEST_EN set, at its place in the 10 s of TB2, which is a quarter of them after the group before
(R346; the places count from multiples of 10 s, DESIGN CHOICE, log 114). -/
def execInputTestPulse (g : Nat) (s : State) : Host.Outcome State Fault Refusal :=
  .next (
    if decide (g < 4) && s.dio.enabled && !(s.group g).outRange && ((s.group g).sensorOn || (s.group g).shortAt.isSome) && (List.range 8).any (fun i => s.testEn (8 * g + i)) then
      let s1 := toTb2 (nextAt 10000000000 (2500000000 * g) s.time.tb2.ns * nsUnit) s
      setGroup g (fun x => { x with testing := true, sensorOn := false, testAt := some s1.now, broke := 0 }) s1
    else s)

/-- The samples of a group are marked TEST: during the pulse and for 20 us after it (R346). -/
def State.testMarked (s : State) (g : Nat) : Bool := (s.group g).testAt.any fun t => decide (s.now < t + 120000)

/-- A sample within the pulse: the paths that report BROKEN (R347). -/
def testSample (n : Nat) (t : Tri Int) (s : State) : State :=
  if (s.group (n / 8)).testAt.any fun p => decide (s.now < p + 100000) then
    let bits := Lane.all.foldl (fun (w : BitVec 24) l => if t.get l == 2 then w ||| (1#24 <<< (3 * (n % 8) + l.idx)) else w) 0#24
    setGroup (n / 8) (fun x => { x with broke := x.broke ||| bits }) s
  else s

/-- Judgement of one channel's test (R347): `failed` are the paths that reported no BROKEN sample. -/
def diTested (n : Nat) (failed : List Lane) (s : State) : State :=
  let ps := s.paths n
  let bad := ps.filter failed.contains
  if !s.testEn n || ps.isEmpty then s
  else if bad.length = ps.length then
    let fails := (s.di n).fails + 1
    let s1 := s |> setDi n (fun d => { d with fails := fails }) |> bump Off.DIO_IN_TEST_FAIL_CNT
    if 2 ≤ fails then s1 |> diChange n .invalid |> raiseIrq Irq.DIO_IN_TEST_FAIL |> record 0x0901 [iU8 1 n, iU16 2 fails] else s1
  else
    let s1 := setDi n (fun d => { d with fails := 0, cand := if 2 ≤ d.fails then .invalid else d.cand, run := if 2 ≤ d.fails then 0 else d.run }) s
    match bad with
    | [l] => pathDisagree l n s1
    | _ => s1

/-- The pulse ends after 100 us, and a path that has reported no BROKEN sample of a channel in it has failed on that channel (R346, R347); with the
sensor supply shut down by a short every path has failed (R567). -/
def execInputTestEnd (g : Nat) (s : State) : Host.Outcome State Fault Refusal :=
  .next (
    if decide (g < 4) && (s.group g).testing then
      let x := s.group g
      let s1 := setGroup g (fun x => { x with testing := false, sensorOn := x.shortAt.isNone && x.supply != .over }) (advanceTo (x.testAt.getD s.now + 100000) s)
      tripEval ((List.range 8).foldl (fun s i => diTested (8 * g + i) (Lane.all.filter fun l => x.shortAt.isSome || !x.broke.getLsbD (3 * i + l.idx)) s) s1)
    else s)

/-! ### Commands to outputs, silence (R348 to R351) -/

/-- A fail-silent module issues no more writes to its output stages (R33). -/
def execOutCmdWrite (v : Word) (s : State) : Host.Outcome State Fault Refusal := .next (when s.up (outCmdOp v) s)

/-- SILENCE ms have passed since the channel's last refresh. -/
def execLogicSilence (n : Nat) (s : State) : Host.Outcome State Fault Refusal :=
  .next (
    match s.silenceAt n with
    | some t => if n < 16 then silenceOp n (advanceTo t s) else s
    | none => s)

/-! ### Group supply (R354 to R357) -/

def isDo (g : Nat) : Bool := g == 4 || g == 5

/-- LOW below 16.8 V, ABSENT below 5.0 V, of a group that is not latched (Table 10.5). -/
def execDoSupplyLow (g mv : Nat) (s : State) : Host.Outcome State Fault Refusal :=
  .next (
    let x := s.group g
    if s.dio.enabled && isDo g && decide (mv < 16800) && (x.supply == .normal || x.supply == .low || x.supply == .absent) then
      s |> setGroup g (fun x => { x with supply := if mv < 5000 then .absent else .low, volt := BitVec.ofNat 16 mv })
        |> when (x.supply == .normal) (raiseIrq Irq.DIO_SUPPLY_LOW)
    else s)

/-- A DO group is latched off for UNDER or OVER. -/
def latchSupply (g mv : Nat) (high : Bool) (s : State) : State :=
  s |> setGroup g (fun x => { x with supply := if high then .over else .under, ready := false, latches := x.latches + 1, volt := BitVec.ofNat 16 mv })
    |> groupCause g (if high then 4 else 3) true |> bump Off.DIO_LATCHOFF_CNT |> raiseIrq Irq.DIO_LATCHOFF
    |> record 0x0903 [iU8 1 g, iU8 2 (if high then 3 else 2), iU16 3 (mv % 65536)] |> resolveOuts

def execDoSupplyUnder (g mv : Nat) (s : State) : Host.Outcome State Fault Refusal :=
  .next (when (s.dio.enabled && isDo g && decide (mv < 14400) && (s.group g).supply != .under) (latchSupply g mv false) s)

def execDoSupplyOver (g mv : Nat) (s : State) : Host.Outcome State Fault Refusal :=
  .next (when (s.dio.enabled && isDo g && decide (36000 < mv) && (s.group g).supply != .over) (latchSupply g mv true) s)

/-- R356, and R357 with AUTO_REEN. -/
def execDoSupplyReady (g mv : Nat) (s : State) : Host.Outcome State Fault Refusal :=
  .next (
    if s.dio.enabled && isDo g && (s.group g).causes &&& 0b000011000#9 != 0 && !(s.group g).ready && decide (18000 ≤ mv) && decide (mv ≤ 32000) then
      s |> setGroup g (fun x => { x with ready := true, volt := BitVec.ofNat 16 mv }) |> raiseIrq Irq.DIO_RESTORE_READY
        |> when (bit (s.reg (Off.DIO_GRP_CFG + 4 * g)) 16) (reenable g false)
    else s)

/-- LOW is left above 17.3 V (Table 10.5). -/
def execDoSupplyLowExit (g mv : Nat) (s : State) : Host.Outcome State Fault Refusal :=
  .next (when (s.dio.enabled && isDo g && decide (17300 < mv) && ((s.group g).supply == .low || (s.group g).supply == .absent))
    (setGroup g fun x => { x with supply := .normal, volt := BitVec.ofNat 16 mv }) s)

/-- Channels of a DO group that are ON, by the time at which they came on. -/
def State.onSince (s : State) (g : Nat) : List Nat :=
  (List.range 8).filterMap fun i => if (s.dout (8 * (g - 4) + i)).on then some (s.dout (8 * (g - 4) + i)).changedAt else none

/-- The channel currents of a group have been above 8.0 A together for 1 s (Table 10.4): at least one channel has been ON that long. -/
def execGroupOverload (g : Nat) (s : State) : Host.Outcome State Fault Refusal :=
  .next (
    match (s.onSince g).min? with
    | some t =>
      when (s.dio.enabled && isDo g && !(s.group g).causes.getLsbD 8) (fun s =>
        advanceTo (t + 1000000000) s |> groupCause g 8 true |> bump Off.DIO_OVERLOAD_CNT |> raiseIrq Irq.DIO_LATCHOFF |> resolveOuts) s
    | none => s)

/-! ### Channel faults (R358 to R361) -/

/-- A fault of Table 10.6 latched or reported, with its counter. -/
def outFault (n b cnt : Nat) (s : State) : State :=
  let m := Config.outMeas n s.now
  s |> setOut n (fun o => { o with faults := o.faults ||| (1#7 <<< b) }) |> when (cnt != 0) (bump cnt)
    |> raiseIrq Irq.DIO_OUT_FAULT |> record 0x0904 [iU8 1 n, iU8 2 b, iU16 3 (fld m 0 16), iU16 4 (fld m 16 16)] |> resolveOuts

def Out.has (o : Out) (b : Nat) : Bool := o.faults.getLsbD b

/-- A condition of Table 10.6 has held for `us`, counted from the last change of resolved state, or 1 ms later where that masks it (R358); a dark-test
pulse ends in such a change. -/
def lastsFor (n us : Nat) (s : State) : State := advanceTo ((s.dout n).changedAt + 1000 * us) s

/-- OC_TIME of a channel in us. -/
def State.ocTime (s : State) (n : Nat) : Nat := 2000 * max 1 (fld (s.outCfg n) 12 4)

/-- An output-comparison failure of a channel that CHK_CMP_MASK compares (R384). -/
def compareOut (n what : Nat) (s : State) : State := when (bit (s.reg Off.CHK_CMP_MASK) n) (compareFail (256 * what + n)) s

def execChannelOvercurrent (n : Nat) (s : State) : Host.Outcome State Fault Refusal :=
  .next (when (s.dio.enabled && decide (n < 16) && (s.dout n).on && !(s.dout n).has 0) (fun s => outFault n 0 Off.DIO_OC_CNT (lastsFor n (s.ocTime n) s)) s)

def execChannelOvertemp (n : Nat) (s : State) : Host.Outcome State Fault Refusal :=
  .next (when (s.dio.enabled && decide (n < 16) && !(s.dout n).has 1) (outFault n 1 Off.DIO_OT_CNT) s)

def execOpenLoad (n : Nat) (s : State) : Host.Outcome State Fault Refusal :=
  .next (when (s.dio.enabled && decide (n < 16) && bit (s.outCfg n) 8 && (s.dout n).on && !(s.dout n).has 2) (fun s => outFault n 2 0 (lastsFor n 101000 s)) s)

def execOpenLoadClear (n : Nat) (s : State) : Host.Outcome State Fault Refusal :=
  .next (when (decide (n < 16)) (setOut n fun o => { o with faults := o.faults &&& 0b1111011#7 }) s)

def execStuckOff (n : Nat) (s : State) : Host.Outcome State Fault Refusal :=
  .next (when (s.dio.enabled && decide (n < 16) && (s.dout n).on && !(s.dout n).has 3) (fun s => compareOut n 3 (outFault n 3 0 (lastsFor n 2000 s))) s)

/-- SHORT_SUPPLY after a search without a partner: the group is opened with SS_GROUP set, and the source told by whether the output
fell with it (R359). -/
def shortSupply (n : Nat) (fell : Bool) (s : State) : State :=
  let grp := bit (s.outCfg n) 9
  s |> outFault n 4 Off.DIO_SS_CNT
    |> when grp (fun s => s |> groupCause (4 + n / 8) 5 true |> setOut n (fun o => { o with ssSource := if fell then 1 else 2 }) |> resolveOuts)
    |> when (grp && fell) (compareOut n 4)

/-- A channel that qualifies as partner of `n` (R359). -/
def State.isPartner (s : State) (n m : Nat) : Bool := decide (m < 16) && m != n && (s.dout m).on && bit (s.outCfg m) 4

def execShortSupplyDetect (n : Nat) (partner : Option Nat) (fell : Bool) (s : State) : Host.Outcome State Fault Refusal :=
  .next (
    if s.dio.enabled && decide (n < 16) && !(s.dout n).on && !(s.dout n).dark && !bit (s.outCfg n) 10 && !(s.dout n).has 4 && !(s.dout n).has 5 then
      let s1 := lastsFor n 3000 s
      match partner with
      | some m =>
        if s1.isPartner n m then setOut n (fun o => { o with partner := m }) (outFault n 5 Off.DIO_BACKFEED_CNT s1)
        else shortSupply n fell s1
      | none => shortSupply n fell s1
    else s)

/-! ### Dark tests (R363, R364) -/

/-- A channel eligible in its slot: ON under row 7, DARK_EN, ON for at least 1 s, and no other pulse. -/
def State.darkReady (s : State) (n : Nat) : Bool :=
  let o := s.dout n
  decide (n < 16) && o.on && !o.silent && !s.held && bit (s.outCfg n) 4 && decide (o.changedAt + 1000000000 ≤ s.now) && !s.dio.outs.any (·.dark)

/-- The slot of a channel in the 10 s of TB2: a channel that is eligible then is switched OFF (R363; the periods begin at multiples of 10 s, DESIGN
CHOICE, log 114). -/
def execDarkTestSlot (n : Nat) (s : State) : Host.Outcome State Fault Refusal :=
  .next (when (decide (n < 16)) (fun s =>
    let s1 := toTb2 (nextAt 10000000000 (625000000 * n) s.time.tb2.ns * nsUnit) s
    when (s1.darkReady n) (fun s => resolveOuts (setOut n (fun o => { o with dark := true }) s)) s1) s)

/-- DARK_WIDTH of a channel in ns. -/
def State.darkNs (s : State) (n : Nat) : Nat := 50000 * max 1 (min 4 (fld (s.outCfg n) 5 3))

/-- The pulse of a channel ends: a pass when the output fell below 5 V, else a failure, two of which in a row latch DARK_FAIL. -/
def execDarkTestEnd (n : Nat) (fell : Bool) (s : State) : Host.Outcome State Fault Refusal :=
  .next (
    if decide (n < 16) && (s.dout n).dark then
      let fails := if fell then 0 else (s.dout n).darkFails + 1
      let latch := decide (2 ≤ fails) && !(s.dout n).has 6
      when (!fell) (advanceTo ((s.dout n).changedAt + s.darkNs n)) s |> setOut n (fun o => { o with dark := false, darkFails := fails, faults := if latch then o.faults ||| 0b1000000#7 else o.faults })
        |> resolveOuts |> passDone 8 |> when (!fell) (bump Off.DIO_DARK_FAIL_CNT)
        |> when latch (fun s => s |> raiseIrq Irq.DIO_DARK_FAIL |> record 0x0905 [iU8 1 n, iU16 2 fails] |> compareOut n 6)
    else s)

/-! ### Requests (R351, R357, R361, R368, R371) -/

/-- A DIO command with its argument checked and the claim held. -/
def dioCommand (argOk : Bool) (f : State → State) (s : State) : State :=
  if !s.up then s else if !argOk then dioResult 3 s else if s.fenced then dioResult 6 (dioFenced s) else f s

def execClearFault (n : Nat) (gone : BitVec 7) (s : State) : Host.Outcome State Fault Refusal :=
  .next (dioCommand (decide (n < 16)) (clearFaultOp n gone) s)

def execGroupReenable (g : Nat) (s : State) : Host.Outcome State Fault Refusal := .next (dioCommand (isDo g) (reenableOp g) s)

def execTripReset (r : Nat) (s : State) : Host.Outcome State Fault Refusal := .next (dioCommand (decide (r < 8)) (tripResetOp r) s)

/-- A command word with its OP field as given. -/
def withOp (v : Word) (op : Nat) : Word := (v &&& 0xFFFFFFF0#32) ||| BitVec.ofNat 32 op

def execGroupOpen (v : Word) (s : State) : Host.Outcome State Fault Refusal := .next (when s.up (ctrlCmdOp (withOp v 4)) s)

def execGroupRelease (v : Word) (s : State) : Host.Outcome State Fault Refusal := .next (when s.up (ctrlCmdOp (withOp v 5)) s)

/-- A rule with AUTO_RESET has been false for 100 ms (R368). -/
def execTripAutoReset (r : Nat) (s : State) : Host.Outcome State Fault Refusal :=
  .next (when (decide (r < 8) && bit (s.tripCfg r) 3 && s.dio.latched.getLsbD r && !s.ruleTrue r)
    (fun s => tripUnlatch s.tripCfg r (advanceTo (s.dio.falseAt.getD r 0 + 100000000) s)) s)

/-- The trip registers accept writes in SAFE-HOLD only (R369). -/
def tripRegOp (off : Nat) (v : Word) (s : State) : State :=
  if decide (0x80200 ≤ off) && decide (off < 0x80280) && off % 4 == 0 && off % 16 != 12 then
    if s.held then shadowWrite off v s else bump Off.DIO_WRITE_REJECTS s
  else s

def execTripRegWrite (off : Nat) (v : Word) (s : State) : Host.Outcome State Fault Refusal := .next (when s.up (tripRegOp off v) s)

/-! ### Sensor supplies (R567) -/

def execSensorSupplyShort (g : Nat) (s : State) : Host.Outcome State Fault Refusal :=
  .next (when (s.dio.enabled && decide (g < 4) && (s.group g).sensorOn) (fun s => setGroup g (fun x => { x with sensorOn := false, shortAt := some s.now }) s) s)

/-- A sensor supply that a short has shut down restarts 1 s later, unless an overvoltage of the group keeps it off (R345). -/
def execSensorSupplyRestart (g : Nat) (s : State) : Host.Outcome State Fault Refusal :=
  .next (
    match (s.group g).shortAt with
    | some t =>
      when (s.dio.enabled && decide (g < 4))
        (fun s => setGroup g (fun x => { x with sensorOn := x.supply != .over && !x.testing, shortAt := none }) (advanceTo (t + 1000000000) s)) s
    | none => s)

end Sys2Proof.Machine
end

