-- ==== Sys2Proof/Machine/Signal.lean ====
section
/-! DEFINITION. Arithmetic of the supply-phase domain (R170 to R177): turns as fractions of 2^32, square roots, and what a run of samples 5 us apart, newest
first, holds of a frequency. The spec states the results and their bounds and no method (log 65). -/
namespace Sys2Proof.Machine

def fullTurn : Int := 4294967296

/-- Integer square root, rounded down. -/
def isqrt (n : Nat) : Nat := (List.range 96).foldr (fun k r => if (r + 2 ^ k) * (r + 2 ^ k) ≤ n then r + 2 ^ k else r) 0

/-- The angles whose tangents are 2^0, 2^-1, …, as turn fractions. -/
def tangentAngles : List Int :=
  [536870912, 316933406, 167458907, 85004756, 42667331, 21354465, 10679838, 5340245, 2670163, 1335087, 667544, 333772, 166886, 83443, 41722,
    20861, 10430, 5215, 2608, 1304, 652, 326, 163, 81, 41, 20, 10, 5, 3, 1]

/-- (x, y) turned through `z` by these angles. -/
def rotateBy : List Int → Nat → Int → Int → Int → Int × Int
  | [], _, x, y, _ => (x, y)
  | a :: as, i, x, y, z =>
    let p : Int := (2 ^ i : Nat)
    if 0 ≤ z then rotateBy as (i + 1) (x - y / p) (y + x / p) (z - a) else rotateBy as (i + 1) (x + y / p) (y - x / p) (z + a)

/-- Angle of (x, y) with x not negative, found by turning y to 0. -/
def angleBy : List Int → Nat → Int → Int → Int → Int
  | [], _, _, _, z => z
  | a :: as, i, x, y, z =>
    let p : Int := (2 ^ i : Nat)
    if 0 ≤ y then angleBy as (i + 1) (x + y / p) (y - x / p) (z + a) else angleBy as (i + 1) (x - y / p) (y + x / p) (z - a)

/-- Sine of a turn fraction, times 2^30. -/
def sinTurn (p : Int) : Int :=
  let q := p % fullTurn
  let z := if q ≤ fullTurn / 4 then q else if q ≤ 3 * fullTurn / 4 then fullTurn / 2 - q else q - fullTurn
  (rotateBy tangentAngles 0 652032874 0 z).2

def cosTurn (p : Int) : Int := sinTurn (p + fullTurn / 4)

/-- Angle of (x, y) as a turn fraction. -/
def angleOf (y x : Int) : BitVec 32 :=
  let k : Int := 65536
  BitVec.ofInt 32 (if 0 ≤ x then angleBy tangentAngles 0 (k * x) (k * y) 0 else fullTurn / 2 + angleBy tangentAngles 0 (-k * x) (-k * y) 0)

/-- Sums of samples times the cosine and the sine of their angles, the angle of each `step` further back than the one before. -/
def spectrum (step : Nat → Int) : List Int → Nat → Int × Int
  | [], _ => (0, 0)
  | x :: xs, j =>
    let (c, d) := spectrum step xs (j + 1)
    (c + x * cosTurn (step j), d + x * sinTurn (step j))

/-- Peak and, at the newest sample, phase of the component of frequency `freq` (uHz) of samples 5 us apart; phase 0 is its positive-going zero crossing. -/
def component (freq : Nat) (xs : List Int) : Nat × BitVec 32 :=
  let (c, d) := spectrum (fun j => ((j * freq * 5 * 4294967296 / 1000000000000 : Nat) : Int)) xs 0
  (2 * isqrt (c * c + d * d).toNat / max 1 xs.length / 1073741824, angleOf c (-d))

/-- `k` points, `step` apart and the first at `pos`, both in 2^-16 of the samples' distance, each between its two neighbours. -/
def resample : Nat → List Int → Nat → Nat → List Int
  | 0, _, _, _ => []
  | k + 1, xs, pos, step =>
    let ys := xs.drop (pos / 65536)
    let f : Int := (pos % 65536 : Nat)
    let x := ys.headD 0
    (x + ((ys.drop 1).headD x - x) * f / 65536) :: resample k ys (pos % 65536 + step) step

/-- RMS of order `h` over four cycles of 1,024 points each. -/
def orderRms (points : List Int) (h : Nat) : Nat :=
  let (c, d) := spectrum (fun j => ((h * j % 1024 * 4194304 : Nat) : Int)) points 0
  isqrt (2 * (c * c + d * d)).toNat / 4096 / 1073741824

/-- A sample without agreement is bridged with the one before it. -/
def fillGaps (xs : List (Option Int)) : List Int := xs.foldr (fun x ys => x.getD (ys.headD 0) :: ys) []

end Sys2Proof.Machine
end

