-- ==== Sys2Proof/Machine/Supply.lean ====
section
/-! DEFINITION. Commands of the supply-phase domain (spec/05). -/
namespace Sys2Proof.Machine

def setSup (f : Sup → Sup) (s : State) : State := { s with sup := f s.sup }

def setChan (n : Nat) (f : Chan → Chan) (s : State) : State := setSup (fun x => { x with chans := modAt x.chans n f }) s

def State.chan (s : State) (n : Nat) : Chan := s.sup.chans.getD n Reset.chan

/-- The measurement DSP and the analog inputs work. -/
def State.dspOn (s : State) : Bool := s.up && s.dio.enabled && !s.sys.dspFault

/-- Physical value of an agreed sample `x` in converter steps (R167): full scale 10 V, or 25 mA read as 4 to 20 mA. -/
def State.physical (s : State) (n : Nat) (x : Int) : Int :=
  let sc := (s.reg (Off.SUP_CH_SCALE + 4 * n)).toInt
  let of := (s.reg (Off.SUP_CH_OFFSET + 4 * n)).toInt
  match s.chMode n with
  | 1 => satSigned 32 (of + sc * x / 131072)
  | 2 => satSigned 32 (of + sc * (25 * x - 524288) / 2097152)
  | _ => 0

/-! ### Lock state (R171, R172) -/

/-- Middle of the frequency band in force, uHz: what measures the fundamental until the tracker has a frequency (log 65). -/
def State.nominal (s : State) : Nat := (s.supLimit 5 + s.supLimit 6) * 500

/-- A frequency within 14 Hz to 70 Hz. -/
def inRange (f : Nat) : Bool := decide (14000000 ≤ f) && decide (f ≤ 70000000)

def State.trackFreq (s : State) : Nat := if inRange s.sup.freq then s.sup.freq else s.nominal

/-- Length of a cycle in ns. -/
def cycleOf (f : Nat) : Nat := 1000000000000000 / max 1 f

/-- The reference channel is a voltage channel that is on and in range. -/
def State.refOk (s : State) : Bool := s.chOn s.refCh && !s.refCurrent && !(s.chan s.refCh).range

/-- The fundamental of the reference channel is not below 10 % of Un. -/
def State.signal (s : State) : Bool := s.refOk && decide (s.supLimit 0 ≤ 10 * s.sup.rms)

/-- Module time at which HOLD ends: 5 cycles at the last frequency. -/
def State.holdEnd (s : State) : Nat := s.sup.holdAt + 5 * cycleOf s.trackFreq

/-- The criterion of a lock state is met (R172). A frequency outside 14 Hz to 70 Hz is a loss. -/
def State.lockMeets (s : State) (v : Lock) : Bool :=
  if s.trackOff then v == .off
  else match s.sup.lock, v with
    | .off, .noSignal => !s.signal
    | .off, .acquire => s.signal
    | .noSignal, .acquire => s.signal
    | .acquire, .noSignal => !s.signal
    | .acquire, .locked => s.signal && decide (20 ≤ s.sup.goodRun)
    | .locked, .hold => !s.signal || !inRange s.sup.freq
    | .locked, .acquire => decide (2 ≤ s.sup.jumpRun)
    | .hold, .acquire => s.signal
    | .hold, .noSignal => decide (s.holdEnd ≤ s.now)
    | _, _ => false

def lockOf : Nat → Lock
  | 1 => .noSignal
  | 2 => .acquire
  | 3 => .locked
  | 4 => .hold
  | _ => .off

def execSupLockChange (lock : Nat) (s : State) : Host.Outcome State Fault Refusal :=
  .next (when (s.dspOn && s.lockMeets (lockOf lock)) (lockChange (lockOf lock)) s)

/-- Five cycles in HOLD (R172). -/
def execSupHoldExpiry (s : State) : Host.Outcome State Fault Refusal :=
  .next (when (s.dspOn && s.sup.lock == .hold) (fun s => lockChange .noSignal (advanceTo s.holdEnd s)) s)

/-! ### Ranges (R168) -/

/-- A sample in converter steps is out of range: beyond ±10.2 V, below 3.6 mA or above 21 mA. -/
def State.outOfRange (s : State) (n : Nat) (x : Int) : Bool :=
  if s.chMode n = 1 then decide (102 * 131072 < x.natAbs * 100) else decide (x * 250 < 36 * 131072) || decide (21 * 131072 < x * 25)

/-- Out of range or INVALID for more than 1 ms: range fault. A reference channel that is lost so is a loss of its signal. -/
def execSupRangeFault (chan : Nat) (s : State) : Host.Outcome State Fault Refusal :=
  .next (when (s.dspOn && decide (chan < 4) && s.chOn chan && !(s.chan chan).range && (s.chan chan).outAt.any fun t => decide (t + 1000000 < s.now))
    (fun s =>
      let ref := chan == s.refCh
      s |> setChan chan (fun c => { c with range := true }) |> bump Off.SUP_RANGE_CNT |> raiseIrq Irq.SUP_RANGE
        |> when (ref && s.sup.lock == .locked) (lockChange .hold) |> when (ref && s.sup.lock == .acquire) (lockChange .noSignal)) s)

/-- Back in range for 100 ms. -/
def execSupRangeReturn (chan : Nat) (s : State) : Host.Outcome State Fault Refusal :=
  .next (when (s.dspOn && decide (chan < 4) && (s.chan chan).backAt.any fun t => decide (t + 100000000 ≤ s.now))
    (setChan chan fun c => { c with range := false }) s)

/-! ### Spare converters (R169) -/

/-- A turn of the spares, 15 s after the one before: each path's spare takes over the next channel in rotation while that converter is calibrated; `fails` are the paths
whose converter is outside the limit. A failed converter stays replaced, so that its path's spare takes no further turn. -/
def execAdcCalRotation (fails : BitVec 3) (s : State) : Host.Outcome State Fault Refusal :=
  .next (when (s.dspOn && Lane.all.any fun l => (s.sup.spares.get l).isNone) (fun s0 =>
    let s := advanceTo (s0.sup.calAt + 15000000000) s0
    let ch := s.sup.calNext
    let bad := Lane.all.filter fun l => fails.getLsbD l.idx && (s.sup.spares.get l).isNone
    bad.foldl (fun s l => s |> setSup (fun x => { x with spares := x.spares.set l (some ch) }) |> bump Off.SUP_CAL_CNT
        |> record 0x0508 [iU8 1 ch, iU8 2 l.idx] |> raiseIrq Irq.SUP_CAL)
      (passDone 5 (setSup (fun x => { x with calNext := (ch + 1) % 4, calAt := s.now }) s))) s)

/-! ### Disturbances (R174 to R176) -/

/-- A channel is classified: a listed or custom profile, an enabled voltage channel in range with a value; FREQUENCY and HARMONIC on the reference
channel of an AC profile. -/
def State.classifies (s : State) (cls ch : Nat) : Bool :=
  s.supLimit 0 != 0 && decide (ch < 4) && s.chOn ch && !bit (s.reg (Off.SUP_CH_CFG + 4 * ch)) 2 && (s.chan ch).valued &&
    !(s.chan ch).range && (decide (cls < 5) || (ch == s.refCh && !s.supDc))

def State.mains (s : State) : Bool := s.supProfile == 8

/-- Threshold of INTERRUPTION: 10 % of Un, mains 5 %. -/
def State.brokenLimit (s : State) : Int := (s.supLimit 0 * (if s.mains then 5 else 10) / 100 : Nat)

/-- Limit of TRANSIENT: 30 % of Un, AC times √2. -/
def State.spikeLimit (s : State) : Nat := if s.supDc then s.supLimit 0 * 30 / 100 else s.supLimit 0 * 42426 / 100000

/-- A frequency outside the band by so many uHz; 0 inside. -/
def State.offBand (s : State) (f : Nat) : Nat := max (s.supLimit 5 * 1000 - f) (f - s.supLimit 6 * 1000)

/-- A mean of harmonics above its limit: THD, and in profile 0x8 the orders 2 to 25 and 26 to 40. -/
def State.harmHigh (s : State) : Bool :=
  (s.sup.means.thd.any fun t => decide (s.supLimit 7 < t)) ||
  (s.mains && s.sup.means.harm.zipIdx.any fun x => decide ((if x.2 + 2 ≤ 25 then Config.harmonicLimit (x.2 + 2) else 50) < x.1))

/-- A TB0 time at least `sec` seconds ago. -/
def State.lasted (s : State) (t : Option Nat) (sec : Nat) : Bool := t.any fun t => decide (t + sec * 1000000000 ≤ s.tb0)

/-- The begin condition of a class is met on a channel (Table 5.5): the value that begins the event, and the threshold. A custom AC profile counts as traction. -/
def State.begins (s : State) (cls ch : Nat) : Option (Int × Int) :=
  let c := s.chan ch
  let l (i : Nat) : Int := s.supLimit i
  match cls with
  | 1 => if c.val < l 1 then some (c.val, l 1) else
      if c.val < l 2 && (s.supDc || s.mains || s.lasted c.lowAt 120) then some (c.val, l 2) else none
  | 2 => if l 4 < c.val then some (c.val, l 4) else if l 3 < c.val && s.lasted c.highAt 300 then some (c.val, l 3) else none
  | 3 => if c.val < s.brokenLimit then some (c.val, s.brokenLimit) else none
  | 4 => if s.spikeLimit < c.dev && !c.long then some (c.dev, s.spikeLimit) else none
  | 5 => s.sup.means.freq.bind fun f => if s.offBand f = 0 then none else some (f, 0)
  | 6 => s.sup.means.thd.bind fun t => if s.harmHigh then some (t, l 7) else none
  | _ => none

/-- The end condition of an event (Table 5.5). -/
def State.ends (s : State) (d : Dist) : Bool :=
  let c := s.chan d.chan
  let hyst : Int := s.supLimit 0 * 2 / 100
  match d.cls with
  | 1 => decide (d.limit + hyst < c.val)
  | 2 => decide (c.val < d.limit - hyst)
  | 3 => decide (d.limit + hyst < c.val)
  | 4 => decide (20 ≤ c.within)
  | 5 => s.sup.means.freq.any fun f => s.offBand f == 0
  | 6 => s.sup.means.thd.isSome && !s.harmHigh
  | _ => false

/-- The more extreme of two values of a class. -/
def State.extremeOf (s : State) (cls : Nat) (a b : Int) : Int :=
  match cls with
  | 1 => min a b
  | 3 => min a b
  | 5 => if s.offBand a.toNat < s.offBand b.toNat then b else a
  | _ => max a b

/-- A value of a class on a channel is taken into the extreme of its event. -/
def worsen (cls ch : Nat) (v : Int) (s : State) : State :=
  setSup (fun x => { x with active := x.active.map fun d => if d.cls == cls && d.chan == ch then { d with extreme := s.extremeOf cls d.extreme v } else d }) s

/-- An event begins (R174): within 20 ms of the end of one of its class and channel it extends that one, and an INTERRUPTION takes over a DIP
from its start (R175). -/
def distStart (cls ch : Nat) (v limit : Int) (s : State) : State :=
  let t := s.tb0
  let isDip (d : Dist) : Bool := cls == 3 && d.cls == 1 && d.chan == ch
  let left := s.sup.active.filter fun d => !isDip d
  match s.sup.ended.find? fun e => e.1 == cls && e.2.1 == ch && decide (t ≤ e.2.2.1 + 20000000) with
  | some e => setSup (fun x => { x with active := ⟨cls, ch, e.2.2.2.1, s.extremeOf cls e.2.2.2.2 v, limit⟩ :: left }) s
  | none =>
    let start := ((s.sup.active.find? isDip).map (·.start)).getD t
    setSup (fun x => { x with active := ⟨cls, ch, start, v, limit⟩ :: left }) s
    |> bump (Off.SUP_DIST_CNT + 4 * (cls - 1)) |> raiseIrq Irq.SUP_DIST_START

def execDisturbanceStart (cls chan : Nat) (s : State) : Host.Outcome State Fault Refusal :=
  .next (match s.begins cls chan with
    | some (v, l) => when (s.dspOn && s.classifies cls chan && !(s.sup.active.any fun d => d.chan == chan && (d.cls == cls || (cls == 1 && d.cls == 3))))
        (distStart cls chan v l) s
    | none => s)

/-- An event ends (R176): queued, or lost with the FIFO full, and recorded when enabled. -/
def distEnd (d : Dist) (s0 : State) : State :=
  let t := s0.tb0
  let e : DistEntry :=
    { head := mkWord [(0, d.cls), (4, d.chan), (8, (s0.sup.seq + 1).toNat), (16, b2n s0.sup.lost)], start := ctime d.start,
      dur := BitVec.ofNat 32 (min 4294967295 ((t - d.start) / 1000)), extreme := BitVec.ofInt 32 (satSigned 32 d.extreme) }
  let s := { s0 with sup := { s0.sup with
    active := s0.sup.active.filter (fun y => !(y.cls == d.cls && y.chan == d.chan)), seq := s0.sup.seq + 1, lastEnd := t
    recent := ((s0.sup.recent ++ [e]).reverse.take 16).reverse
    ended := (d.cls, d.chan, t, d.start, d.extreme) :: s0.sup.ended.filter fun y => !(y.1 == d.cls && y.2.1 == d.chan) } }
  let s1 := if s.sup.fifo.length < 16 then
      raiseIrq Irq.SUP_DIST_END { s with sup := { s.sup with fifo := s.sup.fifo ++ [e], lost := false } }
    else raiseIrq Irq.SUP_DIST_OVERFLOW (bump Off.SUP_FIFO_LOST { s with sup := { s.sup with lost := true } })
  when (bit (s1.reg Off.SUP_CFG) (15 + d.cls))
    (record 0x0507 [iU8 1 d.cls, iU8 2 d.chan, iU32 3 e.start.toNat, iU32 4 e.dur.toNat, iI32 5 (satSigned 32 d.extreme)]) s1

def State.activeDist (s : State) (cls chan : Nat) : Option Dist := s.sup.active.find? fun d => d.cls == cls && d.chan == chan

def execDisturbanceEnd (cls chan : Nat) (s : State) : Host.Outcome State Fault Refusal :=
  .next (match s.activeDist cls chan with
    | some d => when (s.dspOn && s.classifies cls chan && s.ends d) (distEnd d) s
    | none => s)

/-- A deviation of 10 ms ends as TRANSIENT, and begins no further one until it has ended (R175). -/
def longSpike (n : Nat) (s : State) : State :=
  match s.activeDist 4 n with
  | some d => when (decide (d.start + 10000000 ≤ s.tb0)) (fun s => distEnd d (setChan n (fun c => { c with long := true }) s)) s
  | none => s

/-- A read of SUP_DIST_HEAD pops an entry and latches its fields, once for all lanes (R176, R81). -/
def distHeadOp (core : Nat) (s : State) : State :=
  let e := s.sup.fifo.headD ⟨0, 0, 0, 0⟩
  { s with sup := { s.sup with fifo := s.sup.fifo.drop 1 } }
  |> setLatch none core Off.SUP_DIST_HEAD [(Off.SUP_DIST_START, e.start), (Off.SUP_DIST_DUR, e.dur), (Off.SUP_DIST_EXTREME, e.extreme)]
  |> answerAll core e.head false

def execSupDistHeadRead (core : Nat) (s : State) : Host.Outcome State Fault Refusal := .next (when s.up (distHeadOp core) s)

/-! ### Samples -/

/-- What the reconstructed fundamental, or in a DC profile the 1 ms mean, has at the present instant. -/
def State.expected (s : State) (n : Nat) : Int :=
  let c := s.chan n
  if s.supDc then c.val
  else c.peak * sinTurn ((c.phase + turns s.trackFreq ((s.tb0 : Int) - c.phaseAt)).toNat : Int) / 1073741824

/-- Samples kept: four cycles at 14 Hz. -/
def samplesKept : Nat := 57200

/-- Analog input `n` at a strobe (R167, R168, R174): the sample, its range, and its deviation. -/
def takeSample (n : Nat) (v : Option Int) (s : State) : State :=
  if !(s.dspOn && s.chOn n) then s
  else
    let phys := v.map (s.physical n)
    let out := match v with
      | some x => s.outOfRange n x
      | none => true
    let dev := match phys with
      | some x => if (s.chan n).valued then (x - s.expected n).natAbs else 0
      | none => (s.chan n).dev
    let within := if dev ≤ s.spikeLimit then min 20 ((s.chan n).within + 1) else 0
    s |> setChan n (fun c => { c with
        inst := phys.getD c.inst, samples := phys :: c.samples.take samplesKept
        outAt := if out then some (c.outAt.getD s.now) else none, backAt := if out then none else some (c.backAt.getD s.now)
        dev := dev, within := within, long := c.long && decide (within < 20) })
      |> worsen 4 n dev |> longSpike n

/-! ### Values (R170, R171) -/

/-- Mean, and RMS, of the samples of a window; none without one. -/
def meanOf (xs : List Int) : Option Int := if xs.isEmpty then none else some (xs.foldl (· + ·) 0 / xs.length)

def rmsOf (xs : List Int) : Option Int := if xs.isEmpty then none else some (isqrt ((xs.foldl (fun a x => a + x.natAbs * x.natAbs) 0) / xs.length))

/-- Period of a channel's value in ns: 0.5 ms in DC profiles, half a cycle in AC profiles. -/
def State.valuePeriod (s : State) : Nat := if s.supDc then 500000 else cycleOf s.trackFreq / 2

/-- A channel's value formed anew when its time has come: the mean over 1 ms, or the RMS over one cycle. -/
def refresh (n : Nat) (s : State) : State :=
  let c := s.chan n
  if !(s.chOn n) || s.tb0 < c.freshAt + s.valuePeriod then s
  else
    let xs := (c.samples.take (2 * s.valuePeriod / 5000)).filterMap id
    match if s.supDc then meanOf xs else rmsOf xs with
    | none => s
    | some x =>
      let v := satSigned 32 x
      let since (hit : Bool) (t : Option Nat) : Option Nat := if hit then some (t.getD s.tb0) else none
      s |> setChan n (fun c => { c with
          val := v, valued := true, freshAt := s.tb0, lowAt := since (decide (v < s.supLimit 2)) c.lowAt
          highAt := since (decide ((s.supLimit 3 : Int) < v)) c.highAt })
        |> worsen 1 n v |> worsen 2 n v |> worsen 3 n v

/-! ### The fundamental (R172, R173) -/

/-- A turn fraction as a signed difference. -/
def signedTurn (w : Word) : Int := w.toInt

/-- 1 degree and 10 degrees as turn fractions. -/
def degree : Nat := 11930465
def tenDegrees : Nat := 119304647

/-- The fundamental of one channel measured over the last cycle of samples, at the last strobe. -/
def measureChan (f t n : Nat) (s : State) : State :=
  if s.chOn n then
    let xs := fillGaps ((s.chan n).samples.take (cycleOf f / 5000))
    let (a, p) := component f xs
    setChan n (fun c => { c with peak := a, phase := p, phaseAt := t }) s
  else s

/-- Half a cycle has passed: every channel's fundamental, and with the reference channel's what the criteria of R172 count. -/
def measureHalf (s0 : State) : State :=
  let f := s0.trackFreq
  let r := s0.refCh
  let t := s0.vot.strobes.getD 1 0
  let old := s0.chan r
  let s := [0, 1, 2, 3].foldl (fun s n => measureChan f t n s) s0
  let c := s.chan r
  let dt := max 1 (t - old.phaseAt)
  let d := signedTurn (c.phase - (old.phase + turns f ((t : Int) - old.phaseAt)))
  let err := signedTurn (c.phase - s.phaseAt t)
  let mf := ((f : Int) + d * 1000000000000000 / (fullTurn * dt)).toNat
  setSup (fun x => { x with
    rms := if s.refOk then c.peak * 70710678 / 100000000 else 0, measFreq := mf, slope := ((mf : Int) - x.measFreq).natAbs * 1000000000 / dt
    goodRun := if err.natAbs ≤ degree && inRange x.freq then min 20 (x.goodRun + 1) else 0
    jumpRun := if tenDegrees < d.natAbs then min 2 (x.jumpRun + 1) else 0 }) s

/-- The next half cycle of samples is complete. -/
def State.halfDue (s : State) : Bool := !s.supDc && decide ((s.chan s.refCh).phaseAt + cycleOf s.trackFreq / 2 ≤ s.vot.strobes.getD 1 0)

/-- Phase that the tracker shows for `phase`, its own result: within 0.1 degree of the fundamental of the agreed samples, and 0.2 degree more per Hz/s above
0.5 Hz/s (R173). -/
def State.lockedPhase (s : State) (phase : Word) : Word :=
  let c := s.chan s.refCh
  let ref := c.phase + turns s.sup.measFreq ((s.tb0 : Int) - c.phaseAt)
  let excess : Nat := s.sup.slope - 500000
  let lim : Int := degree / 10 + excess * (degree / 5) / 1000000
  ref + BitVec.ofInt 32 (max (-lim) (min lim (signedTurn (phase - ref))))

/-- Frequency likewise: within 1 mHz up to 0.5 Hz/s. -/
def State.lockedFreq (s : State) (freq : Nat) : Nat :=
  if s.sup.slope ≤ 500000 then max (s.sup.measFreq - 1000) (min (s.sup.measFreq + 1000) freq) else freq % 4294967296

/-! ### Harmonics and means (R177, Table 5.4) -/

/-- The end of a window of 4 cycles while LOCKED: orders 1 to 40 and THD. -/
def windowEnd (s : State) : State :=
  let cyc := cycleOf s.trackFreq
  if s.sup.lock != .locked || s.tb0 < s.sup.windowAt + 4 * cyc then s
  else
    let pts := resample 4096 (fillGaps (s.chan s.refCh).samples) 0 (cyc * 65536 / 1024 / 5000)
    let one := orderRms pts 1
    let hs := (List.range 39).map fun k => orderRms pts (k + 2) * 10000 / max 1 one
    let thd := isqrt (hs.foldl (fun a h => a + h * h) 0)
    setSup (fun x => { x with
      windowAt := s.tb0, thd := thd, harm := one :: hs
      means := { x.means with thds := x.means.thds + thd, nHarm := x.means.nHarm + 1
                              harms := (hs.zipIdx.map fun h => h.1 + x.means.harms.getD h.2 0) } }) s

/-- Period of the means: 10 s in profile 0x8, otherwise 1 s. -/
def State.meanPeriod (s : State) : Nat := if s.mains then 10000000000 else 1000000000

/-- The means at the end of their period. -/
def meansEnd (s : State) : State :=
  let m := s.sup.means
  if s.sup.lock != .locked || s.tb0 < m.since + s.meanPeriod then s
  else
    let freq := if m.nFreq = 0 then m.freq else some (m.freqs / m.nFreq)
    let thd := if m.nHarm = 0 then m.thd else some (m.thds / m.nHarm)
    let harm := if m.nHarm = 0 then m.harm else m.harms.map (· / m.nHarm)
    setSup (fun x => { x with means := { Reset.means with since := s.tb0, freq := freq, thd := thd, harm := harm } }) s
    |> worsen 5 s.refCh ((freq.getD 0 : Nat) : Int) |> worsen 6 s.refCh ((thd.getD 0 : Nat) : Int)

/-- One tracker update, 100 kHz (R170 to R173, R177), with the frequency and phase at which the tracker arrives: taken as they are in ACQUIRE, within the bounds of R173 of the
agreed samples in LOCKED, and running on in HOLD. Values, fundamentals, harmonics and means are formed from the samples as their times come. -/
def execSupTrackerUpdate (freq : Nat) (phase : Word) (s : State) : Host.Outcome State Fault Refusal :=
  .next <| when s.dspOn (fun s0 =>
    let s := pistePhase (toTb0 ((s0.tb0 / 10000 + 1) * 10000) s0)
    let s1 := [0, 1, 2, 3].foldl (fun s n => refresh n s) s
    let s2 := when s1.halfDue measureHalf s1
    let ph := match s2.sup.lock with
      | .off => 0
      | .noSignal => s2.sup.phase
      | .acquire => phase
      | .locked => s2.lockedPhase phase
      | .hold => s2.phaseNow
    let fr := match s2.sup.lock with
      | .off => 0
      | .acquire => freq % 4294967296
      | .locked => s2.lockedFreq freq
      | _ => s2.sup.freq
    let s3 := setSup (fun x => { x with phase := ph, freq := fr, phaseAt := s2.tb0 }) s2
    let s4 := when (s3.sup.lock == .locked) (setSup fun x => { x with means := { x.means with freqs := x.means.freqs + fr, nFreq := x.means.nFreq + 1 } }) s3
    pistePhase (meansEnd (windowEnd s4))) s

end Sys2Proof.Machine
end

