-- ==== Sys2Proof/Machine/Parts.lean ====
section
/-! DEFINITION. Commands of faults of the module's parts (spec/01, Table 1.9). Parts are numbered 0 to 2 lanes A to C, 3 to 5 voter
slices 1 to 3, 6 hub fabric. -/
namespace Sys2Proof.Machine

/-- Lane of a part number. -/
def partLane : Nat → Option Lane
  | 0 => some .a
  | 1 => some .b
  | 2 => some .c
  | _ => none

/-- A slice leaves the output 2oo3; a second one makes the module fail-silent (Table 1.9). -/
def removeSlice (k : Nat) (s : State) : State :=
  if !s.up || !s.vot.slices.getLsbD k then s
  else
    let s1 := record 0x0208 [iU8 1 (k + 1)] { s with vot := { s.vot with slices := s.vot.slices &&& ~~~(1#3 <<< k) } }
    if s.vot.slices = 7 then raiseIrq Irq.VOT_SLICE_REMOVED s1 else failSilent s1

/-- A slice's time counter stays off the median (R119). -/
def execSliceCounterFault (slice : Nat) (s : State) : Host.Outcome State Fault Refusal := .next (removeSlice slice s)

/-- A lane's domain is open: its memory is lost with its power, and the lane is lost (Table 1.6, Table 1.9). -/
def loseDomain (l : Lane) (s : State) : State :=
  let s1 := if s.inVote l then excludeLane l .domain s else
    match (s.vot.lanes.get l).phase with
    | .retired => s
    | _ => resetLane .reset l s
  { s1 with mems := s1.mems.set l { Reset.laneMem with domainOpen := true } }

/-- The heartbeat watch is suspended: 20 ms from the start of a pause that restarts the supervisor (R526). -/
def State.watchSuspended (s : State) : Bool := s.sys.warmMask.getLsbD 2 && !s.sys.warmArmed && decide (s.now < s.sys.pauseAt + 20000000)

/-- The supervisor's heartbeat is missing for 10 ms. -/
def execSupervisorHeartbeatLoss (s : State) : Host.Outcome State Fault Refusal :=
  .next (when (s.up && !s.watchSuspended) (fun s => failSilent (record 0x0106 [] s)) s)

/-- A network protocol engine fails: its channel is disabled until a cluster-cycle boundary restarts it. -/
def execNetEngineFault (chanB : Bool) (s : State) : Host.Outcome State Fault Refusal :=
  .next (
    if s.up && !(if chanB then s.sys.netB else s.sys.netA).off then
      let sys := if chanB then { s.sys with netB := { s.sys.netB with off := true } } else { s.sys with netA := { s.sys.netA with off := true } }
      record 0x0701 [iU8 1 (b2n chanB)] { s with sys := sys }
    else s)

/-- The guardian engine fails: every star port is closed. -/
def execGuardianFault (s : State) : Host.Outcome State Fault Refusal :=
  .next (when (s.up && !s.sys.guardianFault) (fun s => record 0x0702 [] { s with sys := { s.sys with guardianFault := true } }) s)

/-- The measurement DSP fails: ODO and SUP are invalid with quality 0. -/
def execDspFault (s : State) : Host.Outcome State Fault Refusal :=
  .next (
    if s.up && !s.sys.dspFault then
      { s with sys := { s.sys with dspFault := true } } |> setClass 0 |> lockChange .off |> record 0x0505 []
    else s)

/-- The DSP has restarted: the position comes from the checkpoint with RESTORE set, and is established anew by the next fix without (R166, Table 5.16). Samples and
edges of the time of the fault are not taken up. -/
def dspRestart (s : State) : State :=
  let anew (x : Sensor) : Sensor := { x with seen := x.count }
  let empty (c : Chan) : Chan := { Reset.chan with range := c.range }
  let s1 := { s with
    sys := { s.sys with dspFault := false }
    odo := { s.odo with haveFix := false, unc := 4294967295, standstill := false, bridged := false, history := [], gateRun := [], calFix := none
                        inert := none, calmSince := none, sensors := s.odo.sensors.map anew }
    sup := { s.sup with chans := s.sup.chans.map empty, rms := 0 } }
  match s1.newestHalf with
  | some h => pisteUpdate true (odoRestore ((s1.half h).page 0) false s1)
  | none => s1

def execDspRestart (s : State) : Host.Outcome State Fault Refusal := .next (when s.sys.dspFault dspRestart s)

/-- The dip is bridged: an interruption of at most 10 ms, or at most 100 ms of a supply not below 14.4 V (R58). -/
def bridged (durationUs lowest : Nat) : Bool := decide (durationUs ≤ 10000) || (decide (durationUs ≤ 100000) && decide (14400 ≤ lowest))

/-- A supply dip with the lowest supply in mV, bridged: recorded; the warning of a supply below 16.8 V is raised. -/
def execSupplyDip (durationUs lowest : Nat) (s : State) : Host.Outcome State Fault Refusal :=
  .next (when (s.up && bridged durationUs lowest)
    (fun s => s |> record 0x0104 [iU32 1 (durationUs % 4294967296), iU16 2 (lowest % 65536)] |> when (decide (lowest < 16800)) (raiseIrq Irq.SYS_SUPPLY_WARN)) s)

end Sys2Proof.Machine
end

