-- ==== Sys2Proof/Machine/Position.lean ====
section
/-! DEFINITION. Commands of the position domain (spec/05). -/
namespace Sys2Proof.Machine

/-! ### Inertial axes (R146) -/

/-- Sensor axis (0 X, 1 Y, 2 Z) and sign of a code of ODO_IMU_CFG; the other codes name none. -/
def axisOf (c : Nat) : Option (Nat × Int) := if c < 6 then some (c / 2, if c % 2 = 0 then 1 else -1) else none

/-- A free integer within [lo, hi], and the state after. -/
def freeIn (lo hi : Int) (s : State) : Int × State := (max lo (min hi (Config.freeInt s.free)), { s with free := s.free + 1 })

/-- The six agreed axes of an inertial strobe (R146): the longitudinal one in um/s2 by its LSB and sign, less the share of gravity, which the estimator finds with the
rate axes by a method that the spec does not state: a free value within 9.81 m/s2 (log 63). Nothing without IMU_EN, with an INVALID axis, or with equal axes. -/
def inertStrobe (axes : List (Option Int)) (s : State) : State :=
  let cfg := s.reg Off.ODO_IMU_CFG
  let raw : Option Int := match axisOf (fld cfg 0 3), axisOf (fld cfg 3 3) with
    | some (i, g), some (k, _) =>
      if i != k && bit (s.reg Off.ODO_CFG) 8 && axes.length == 6 && axes.all (·.isSome) then (axes.getD i none).map fun v => g * v * 2394 else none
    | _, _ => none
  match raw with
  | none => { s with odo := { s.odo with inert := none, calmSince := none } }
  | some r =>
    let (g, s1) := freeIn (-9810000) 9810000 s
    let a := r - g
    let calm := if a.natAbs ≤ 50000 then some (s1.odo.calmSince.getD s1.now) else none
    { s1 with odo := { s1.odo with inert := some a, calmSince := calm } }

/-! ### Sensors at an update (R145, R147, R152) -/

/-- SLIP (+1), SLIDE (−1) or within both margins (0), for a sensor velocity (pm/s) against the estimate without it and a sensor acceleration
(um/s2) against the inertial one, all in the sense of travel `sg` (Table 5.1). `v` none: the inertial check alone. -/
def State.marginOf (s : State) (sg vel : Int) (v : Option Int) (acc : Int) (inert : Option Int) : Int :=
  let vm : Int := 1000000000 * fld (s.reg Off.ODO_SLIP_CFG) 0 16
  let am : Int := 1000 * fld (s.reg Off.ODO_SLIP_CFG) 16 16
  let dv := match v with
    | some v =>
      let m := vm + (v.natAbs : Int) * 2 / 100
      if (v.natAbs : Int) + m < vel.natAbs then 1 else if (vel.natAbs : Int) + m < v.natAbs then -1 else 0
    | none => 0
  if dv != 0 then dv
  else match inert with
    | some a => if am < (acc - a) * sg then 1 else if (acc - a) * sg < -am then -1 else 0
    | none => 0

/-- Least and greatest of a list. -/
def listMin (l : List Int) : Int := l.foldl min (l.headD 0)
def listMax (l : List Int) : Int := l.foldl max (l.headD 0)

/-- The common value of a list, or one between its least and greatest: the spec states no fusion rule (log 21). -/
def fuse (l : List Int) (s : State) : Int × State :=
  if listMin l = listMax l then (listMin l, s) else freeIn (listMin l) (listMax l) s

/-- R152: d_n over the time since the sensor's last edge, pm/s; no limit at the edge itself. -/
def State.speedCap (s : State) (n : Nat) : Int :=
  let x := s.sensor n
  if x.edgeAt < s.now then ((s.edgePm n 1).natAbs * 1000000000 / (s.now - x.edgeAt) : Nat) else 1000000000000000000

/-- Velocity of a sensor, pm/s: a free value within the limit of R152, and above 20 mm/s, with the class GOOD and |a| within 1.5 m/s2, within 2 mm/s + 0.2 % and what
1.5 m/s2 adds since the middle of its last two edges of the velocity that these give, their strobes' 1 us included (log 21). -/
def sensorVel (n : Nat) (s : State) : Int × State :=
  let x := s.sensor n
  let cap := s.speedCap n
  let dt := x.edgeAt - x.prevAt
  let v : Int := (if x.fwd then 1 else -1) * s.orient * ((s.edgePm n 1).natAbs * 1000000000 / max 1 dt : Nat)
  let since := s.now - (x.edgeAt + x.prevAt) / 2
  let w : Int := 2000000000 + v.natAbs / 500 + v.natAbs * 1000 / max 1000 dt + 1500 * since
  let tight := s.odo.cls == 3 && decide (s.odo.acc.natAbs ≤ 1500000) && decide (20000000000 < v.natAbs)
  freeIn (if tight then max (-cap) (v - w) else -cap) (if tight then min cap (v + w) else cap) s

/-- The estimate without sensor `n`: of the other OK sensors, else of the estimator, bridged; none when `n` alone is OK (Table 5.1). -/
def refVel (n : Nat) (s : State) : Option Int × State :=
  let others := (s.odo.sensors.zipIdx.filter fun y => y.2 != n && y.1.state == .ok).map (·.1.vel)
  if others.isEmpty then ((if (s.sensor n).state == .ok then none else some s.odo.vel), s)
  else
    let (v, s1) := fuse others s
    (some v, s1)

/-- A sensor enters SLIP or SLIDE. -/
def enterSlip (n : Nat) (v : SensState) (c : Nat) (s : State) : State :=
  s |> sensorTo n v |> bump c |> record 0x0504 [iU8 1 n, iU8 2 v.code] |> raiseIrq Irq.ODO_SLIP_SLIDE

/-- The qualification of a sensor is over: in REJOIN 200 ms within VEL_MARGIN, in FAULT 1 s without a condition of FAULT (Table 5.1). -/
def qualify (n : Nat) (s : State) : State :=
  let x := s.sensor n
  match x.state with
  | .rejoin => when (x.fitSince.any fun t => decide (t + 200000000 ≤ s.now)) (sensorTo n .ok) s
  | .fault =>
    when (decide (x.unfitAt + 1000000000 ≤ s.now) && decide (x.alone < 4) && x.a.badSince.isNone && x.b.badSince.isNone) (sensorTo n .rejoin) s
  | _ => s

/-- One sensor at an update: its velocity, its distance and its state (Table 5.1). `current` is its supply current in uA; its acceleration is a value that the spec
does not state, free (log 21). -/
def sensorStep (n : Nat) (current : Option Nat) (s0 : State) : State :=
  if (s0.sensor n).state == .off then s0
  else
    let s := when (current.any fun i => decide (i < 2000) || decide (60000 < i)) (faultSensor n 4) s0
    let (vel, s1) := sensorVel n s
    let (acc, s2) := freeIn (-2147483648) 2147483647 s1
    let (v, s3) := refVel n s2
    let pm := s.edgePm n ((s.sensor n).count - (s.sensor n).seen) * s.orient
    let fit := match v with
      | some v => decide ((vel.natAbs - v.natAbs : Int).natAbs ≤ 1000000000 * fld (s.reg Off.ODO_SLIP_CFG) 0 16)
      | none => true
    let s4 := setSensor n (fun x => { x with vel := vel, dist := x.dist + pm, fitSince := if fit then some (x.fitSince.getD s3.now) else none }) s3
    let m := s4.marginOf (if s4.odo.vel < 0 then -1 else 1) vel v acc (s4.odo.inert.map (· * s4.orient))
    qualify n (match (s4.sensor n).state with
      | .ok => if m = 1 then enterSlip n .slip Off.ODO_SLIP_CNT s4 else if m = -1 then enterSlip n .slide Off.ODO_SLIDE_CNT s4 else s4
      | .slip | .slide => when (m == 0) (sensorTo n .rejoin) s4
      | _ => s4)

/-! ### The estimate (R148 to R155) -/

/-- Distances in pm of the OK sensors for the counts that `edges` gives. -/
def State.okDist (s : State) (edges : Sensor → Int) : List Int :=
  (s.odo.sensors.zipIdx.filter fun x => x.1.state == .ok).map fun x => s.edgePm x.2 (edges x.1) * s.orient

/-- The velocity of an update takes the direction rule of R155: a change of sense passes through 0 at one update, and DIR follows at the
next. -/
def takeVel (v : Int) (s : State) : State :=
  let old := s.odo.dir
  let dir := if 0 < v then 1 else if v < 0 then 2 else old
  if old != 0 && dir != old && s.odo.vel != 0 then { s with odo := { s.odo with vel := 0 } }
  else
    let rev := old != 0 && dir != old
    { s with odo := { s.odo with vel := v, dir := dir } }
    |> when rev (fun s => raiseIrq Irq.ODO_REVERSAL (bump Off.ODO_REVERSAL_CNT s))

/-- The estimate moves by `d` pm. -/
def movePos (d : Int) (s : State) : State :=
  { s with odo := { s.odo with pos := s.odo.pos + d, uncDist := s.odo.uncDist + d.natAbs } }

/-- An update with an OK sensor: in standstill held until a sensor departs from its lock point (R154), otherwise moved by the fused distance, the velocity limited by
R152. -/
def fusedUpdate (s0 : State) : State :=
  let s := { s0 with odo := { s0.odo with bridged := false } }
  if s.odo.standstill then
    let lim := max 1 (fld (s.reg Off.ODO_CFG) 24 4)
    if s.odo.sensors.any fun x => x.state == .ok && decide (lim ≤ (x.count - x.lock).natAbs) then
      let (d, s1) := fuse (s.okDist fun x => x.count - x.lock) s
      raiseIrq Irq.ODO_STANDSTILL (movePos d { s1 with odo := { s1.odo with standstill := false } })
    else s
  else
    let oks := s.odo.sensors.zipIdx.filter fun x => x.1.state == .ok
    let (d, s1) := fuse (s.okDist fun x => x.count - x.seen) s
    let (v, s2) := fuse (oks.map (·.1.vel)) s1
    let cap := listMin (oks.map fun x => s2.speedCap x.2)
    let (a, s3) := freeIn (-2147483648) 2147483647 s2
    let s4 := takeVel (max (-cap) (min cap v)) (movePos d s3)
    { s4 with odo := { s4.odo with acc := a } }

/-- A bridged update: 10 us of the inertial longitudinal acceleration from the estimate before (R148); a free acceleration where the inertial sensor gives none
(log 21). Standstill holds (R154). -/
def bridgedUpdate (s0 : State) : State :=
  let s := if s0.odo.bridged then s0 else bump Off.ODO_BRIDGE_CNT { s0 with odo := { s0.odo with bridged := true, bridgeAt := s0.now } }
  if s.odo.standstill then s
  else
    let (fa, s1) := match s.odo.inert with
      | some a => (a * s.orient, s)
      | none => freeIn (-2147483648) 2147483647 s
    let fine := s1.odo.vel + 5 * fa + s1.odo.frac
    let s2 := movePos (fine / 100000) { s1 with odo := { s1.odo with frac := (fine % 100000).toNat } }
    let s3 := takeVel (s1.odo.vel + 10 * fa) s2
    { s3 with odo := { s3.odo with acc := fa } }

/-- Module time at which standstill begins, both conditions of R153 having held for STANDSTILL_TIME; an OK sensor without an edge has shown no net edge. -/
def State.standstillAt (s : State) : Option Nat :=
  let oks := s.odo.sensors.filter fun x => x.state == .ok
  if s.odo.standstill || s.odo.bridged || oks.isEmpty then none
  else s.odo.calmSince.map fun t => (oks.foldl (fun a x => max a x.edgeAt) t) + 10000000 * max 1 (fld (s.reg Off.ODO_CFG) 16 8)

/-- Standstill entered when its time has come (R153). -/
def standstill (s : State) : State :=
  if s.standstillAt.any fun t => decide (t ≤ s.now) then
    raiseIrq Irq.ODO_STANDSTILL { s with odo := { s.odo with
      standstill := true, vel := 0, acc := 0, dir := 0, sensors := s.odo.sensors.map fun x => { x with lock := x.count } } }
  else s

/-- LOCAL: fused from the OK sensors, held in standstill, or bridged by the inertial acceleration when no sensor is OK (R148 to R155). A DSP that resumes has the
estimate extrapolated over its restart, in which it counted nothing (R526). -/
def localUpdate (currents : List Nat) (s00 : State) : State :=
  let s0 := if s00.odo.resume then
      odoExtrapolate ((s00.tb0 : Int) - s00.odo.estAt - 10000)
        { s00 with odo := { s00.odo with resume := false, sensors := s00.odo.sensors.map fun x => { x with seen := x.count } } }
    else s00
  let s := (List.range 4).foldl (fun s n => sensorStep n currents[n]? s) (sensorEnables s0)
  let s1 := if s.odo.sensors.any fun x => x.state == .ok then fusedUpdate s else bridgedUpdate s
  gradeOwn (standstill { s1 with odo := { s1.odo with sensors := s1.odo.sensors.map fun x => { x with seen := x.count } } })

/-- The followed record is stale, which counts once (R165). -/
def staleRemote (s : State) : State :=
  setClass 0 (if s.odo.remoteStale then s else bump Off.ODO_REMOTE_STALE_CNT { s with odo := { s.odo with remoteStale := true } })

/-- TB0 instant at which the followed record is older than MAX_AGE basic cycles. -/
def State.remoteDue (s : State) (r : PosRec) : Int :=
  extend r.time s.odo.remoteAt + (max 1 (fld (s.reg Off.ODO_REMOTE_CFG) 16 8) * cycNs (s.reg Off.FTN_MATRIX_CFG) : Nat)

/-- REMOTE: the last record of NODE extrapolated to the update (R165). -/
def remoteUpdate (s : State) : State :=
  match s.odo.remote with
  | none => setClass 0 s
  | some r =>
    let dt : Int := (s.tb0 : Int) - extend r.time s.odo.remoteAt
    let s1 := { s with odo := { s.odo with
      pos := (r.pos * 1000000) + r.vel * dt + r.acc * dt * dt / 2000000000000
      vel := r.vel * 1000000000 + r.acc * dt / 1000, acc := r.acc
      unc := min 4294967295 (r.unc + (750000 * dt * dt / 1000000000000000000).toNat)
      quality := r.qual, standstill := bit r.qual 2, dir := fld r.qual 3 2 } }
    if s1.odo.remoteStale || decide (s1.remoteDue r < s1.tb0) then staleRemote s1 else setClass (fld r.qual 0 2) s1

/-! ### Commands -/

/-- One update at a tenth whole microsecond of TB0 (R144), with the supply currents of the speed sensors in uA. With SOURCE OFF the estimator makes no update, and
the estimate and its stamp stand (DESIGN CHOICE, log 63). -/
def execEstimatorUpdate (currents : List Nat) (s : State) : Host.Outcome State Fault Refusal :=
  .next <| when (s.up && s.dio.enabled && !s.sys.dspFault && (s.odoSource == 1 || s.odoSource == 2)) (fun s =>
    let t := if s.tb0 % 10000 == 0 && s.tb0 != s.odo.estAt then s.tb0 else (s.tb0 / 10000 + 1) * 10000
    let s0 := pisteBefore (toTb0 t s)
    let jump := s0.odoSource == 2 && s0.odo.remoteJump
    let s1 := if s0.odoSource = 2 then remoteUpdate s0 else localUpdate currents s0
    let s2 := { s1 with odo := { s1.odo with estAt := t, estSeq := s1.odo.estSeq + 1, remoteJump := false } }
    pisteUpdate jump { s2 with odo := { s2.odo with history := s2.kept :: s2.odo.history.filter fun k => decide (t ≤ k.time + 1000000000) } }) s

def execSensorStateTimer (sensor : Nat) (s : State) : Host.Outcome State Fault Refusal :=
  .next (when (s.up && s.dio.enabled && !s.sys.dspFault && s.odoSource == 1 && decide (sensor < 4)) (qualify sensor) s)

/-- STANDSTILL_TIME of R153 is over. -/
def execStandstillEntry (s : State) : Host.Outcome State Fault Refusal :=
  .next (when (s.up && s.dio.enabled && s.odoSource == 1 && !s.sys.dspFault) standstill s)

/-- BRIDGE_LIMIT ms of bridging (R148): the class falls to COARSE. -/
def execBridgeLimitExpiry (s : State) : Host.Outcome State Fault Refusal :=
  .next <| when (s.up && s.odo.bridged && s.odoSource == 1) (fun s =>
    gradeOwn (advanceTo (s.odo.bridgeAt + fld (s.reg Off.ODO_BRIDGE_CFG) 0 16 * 1000000 + 1) s)) s

/-! ### Fixes and the remote source -/

def execFixSubmit (pos : Int) (time accSrc cmd : Word) (s : State) : Host.Outcome State Fault Refusal :=
  .next (when s.up (fixSubmitOp pos time accSrc cmd) s)

/-- A fix as Table 5.3 carries it in an FTN slot; its path supplies the key. -/
def fixFromWire (b : List Byte) (s : State) : State :=
  when (b.length == 20)
    (fixSubmitOp (signed 64 (beAt b 0 8)) (BitVec.ofNat 32 (beAt b 8 4)) (BitVec.ofNat 32 (beAt b 12 4))
      (mkWord [(0, beAt b 16 4 % 2), (16, 0x4658)])) s

def execFixProcess (s : State) : Host.Outcome State Fault Refusal := .next (when (s.up && !s.sys.dspFault) fixProcessOp s)

/-- A record of Table 5.2. -/
def posRecOf (b : List Byte) : PosRec :=
  { pos := signed 64 (beAt b 0 8), vel := signed 32 (beAt b 8 4), acc := signed 32 (beAt b 12 4), qual := BitVec.ofNat 32 (beAt b 16 4),
    unc := beAt b 20 4, time := BitVec.ofNat 32 (beAt b 24 4), seq := BitVec.ofNat 32 (beAt b 28 4) }

/-- A position record from a node (R165): one that is not from NODE is stale; from NODE it is followed from the next update on. The first whose FIX_SEQ differs from
the previous one's, and the first of a changed source, is a jump at that update (R205). -/
def execRemoteRecord (node : Nat) (payload : List Byte) (s : State) : Host.Outcome State Fault Refusal :=
  .next <| when (s.up && s.odoSource == 2 && payload.length == 32) (fun s =>
    if node != fld (s.reg Off.ODO_REMOTE_CFG) 0 14 then
      setClass 0 (bump Off.ODO_REMOTE_STALE_CNT { s with odo := { s.odo with remoteStale := true } })
    else
      let r := posRecOf payload
      let jump := match s.odo.remote with
        | some p => fld p.qual 16 8 != fld r.qual 16 8 || s.odo.remoteFrom != node
        | none => true
      { s with odo := { s.odo with
          remote := some r, remoteAt := s.tb0, remoteFrom := node, remoteStale := false, remoteJump := s.odo.remoteJump || jump } }) s

/-- The followed record has become older than MAX_AGE basic cycles (R165). -/
def execRemoteStale (s : State) : Host.Outcome State Fault Refusal :=
  .next <| when (s.up && s.odoSource == 2) (fun s =>
    match s.odo.remote with
    | some r => staleRemote (toTb0 ((s.remoteDue r).toNat + 1) s)
    | none => s) s

/-- A read of ODO_POS_LO latches the rest of the update for the reading core, once for all lanes (R178). -/
def odoPosOp (core : Nat) (s : State) : State :=
  let v := fun o => (o, s.peek s.lane0 o)
  setLatch none core Off.ODO_POS_LO
    ([Off.ODO_POS_HI, Off.ODO_VEL, Off.ODO_ACC, Off.ODO_QUALITY, Off.ODO_UNC, Off.ODO_EST_CTIME, Off.ODO_EST_SEQ].map v) s

def execOdoPosRead (lane : Lane) (core : Nat) (s : State) : Host.Outcome State Fault Refusal :=
  .next (when (s.up && s.inVote lane) (fun s => answerAll core (s.peek lane Off.ODO_POS_LO) false (odoPosOp core s)) s)

end Sys2Proof.Machine
end

