-- ==== Sys2Proof/Machine/Events.lean ====
section
/-! DEFINITION. Sampling with input agreement (spec/03), and events of several chapters: port links, the correction-rate window,
front-end and slice faults. -/
namespace Sys2Proof.Machine

/-! ### Input agreement (R88 to R93) -/

/-- A sample as agreed: the value, or INVALID (none). -/
abbrev Agreed := Option Int

def noAgree (s : State) : State := bump Off.VOT_NOAGREE_CNT s

/-- The pending single-path difference of the previous DI sample, judged by this one's agreed code (R90): a straddle where the code changed. -/
def judgePending (ch : Nat) (v : Agreed) (s : State) : State :=
  match (s.agreeOf ch).pending with
  | none => s
  | some l =>
    let s1 := setAgree ch (fun a => { a with pending := none }) s
    match v with
    | some x => if (s.agreeOf ch).last != some x then bump Off.VOT_STRADDLE_CNT s1 else pathDisagree l ch s1
    | none => pathDisagree l ch s1

/-- Two paths (R93): the agreed value, the previous one on the first DEGR_REPEAT differences, then INVALID. It judges the difference of a third
path that the sample before left pending. -/
def agreeTwo (ch : Nat) (same : Bool) (v : Int) (s0 : State) : Agreed × State :=
  let a := s0.agreeOf ch
  let rep := max 1 (fld (s0.reg Off.VOT_INPUT_CFG) 8 8)
  let r : Agreed := if same then some v else if a.diffs < rep then a.last else none
  let s := judgePending ch r s0
  if same then (r, setAgree ch (fun a => { a with last := some v, diffs := 0 }) s)
  else (r, when (decide (rep ≤ a.diffs)) noAgree (setAgree ch (fun a => { a with diffs := min (rep + 1) (a.diffs + 1) }) s))

/-- Three paths of a digital input (R89, R90). -/
def agreeCode (ch : Nat) (t : Tri Int) (s : State) : Agreed × State :=
  let v : Agreed := if t.a = t.b || t.a = t.c then some t.a else if t.b = t.c then some t.b else none
  let s1 := judgePending ch v s
  match v with
  | none => (none, noAgree (setAgree ch (fun a => { a with diffs := 0 }) s1))
  | some x =>
    let lone := Lane.all.find? fun l => t.get l != x
    let changed := match (s.agreeOf ch).last with
      | some y => y != x
      | none => false
    let s2 := setAgree ch (fun a => { a with last := some x, diffs := 0, pending := if changed then none else lone }) s1
    (v, when (changed && lone.isSome) (bump Off.VOT_STRADDLE_CNT) s2)

/-- Tolerance of a measurement channel (VOT_MEAS_TOL). -/
def State.measTol (s : State) (ch : Nat) : Nat :=
  let w := s.reg Off.VOT_MEAS_TOL
  if ch < 40 then fld w 16 8 else if ch < 44 then fld w 0 16 else fld w 24 8

def medInt (a b c : Int) : Int := max (min a b) (min (max a b) c)

/-- Three paths of a measurement (R91). -/
def agreeMeas (ch : Nat) (t : Tri Int) (s : State) : Agreed × State :=
  let m := medInt t.a t.b t.c
  let off := Lane.all.filter fun l => decide (s.measTol ch < (t.get l - m).natAbs)
  let s1 := setAgree ch (fun a => { a with diffs := 0, pending := none }) s
  if off.length < 2 then
    (some m, off.foldl (fun s l => pathDisagree l ch s) (setAgree ch (fun a => { a with last := some m }) s1))
  else (none, noAgree s1)

/-- Half of an integer, rounded towards zero. -/
def halfInt (x : Int) : Int := Int.tdiv x 2

/-- One sample of a channel from the paths that count for it (R89 to R93). -/
def agreeSample (ch : Nat) (t : Tri Int) (s : State) : Agreed × State :=
  let tol := if ch < 32 then 0 else s.measTol ch
  match s.paths ch with
  | [_, _, _] => if ch < 32 then agreeCode ch t s else agreeMeas ch t s
  | [p, q] =>
    let x := t.get p
    let y := t.get q
    agreeTwo ch (decide ((x - y).natAbs ≤ tol)) (if ch < 32 then x else halfInt (x + y)) s
  | _ => (none, judgePending ch none s)

/-- A digital input's sample at the DIO filter (R341). -/
def diSample (n : Nat) (v : Agreed) (s : State) : State :=
  if !s.diLive n then s
  else
    let c := s.diCode n ((v.map fun x => codeOf x.toNat).getD .invalid)
    let lim := s.diFilter n
    let run := if (s.di n).cand == c then min lim ((s.di n).run + 1) else 1
    let s1 := setDi n (fun d => { d with cand := c, run := run }) s
    when (decide (lim ≤ run)) (diChange n c) s1

/-- Input `n`: a TEST sample repeats the previous agreed code (R346). -/
def diStrobe (n : Nat) (t : Tri Int) (s : State) : State :=
  if s.testMarked (n / 8) then diSample n (s.agreeOf n).last (testSample n t s)
  else
    let (v, s1) := agreeSample n t s
    diSample n v s1

/-- Speed signal `k`: the edge count of phase A of sensor k / 2, or of phase B; what it has grown by since it was last agreed are the new edges. -/
def speedStrobe (k : Nat) (t : Tri Int) (s : State) : State :=
  let old := (s.agreeOf (32 + k)).last
  let (v, s1) := agreeSample (32 + k) t s
  when (!s.sys.dspFault) (phaseStrobe (k / 2) (k % 2 == 1) (v.map fun y => (y - old.getD y).toNat)) s1

/-- Analog input `n`. -/
def analogStrobe (n : Nat) (t : Tri Int) (s : State) : State :=
  let (v, s1) := agreeSample (40 + n) t s
  takeSample n v s1

/-- The inertial axes. -/
def inertialStrobe (samples : List (Tri Int)) (s : State) : State :=
  let (axes, s1) := samples.zipIdx.foldl (fun (p : List (Option Int) × State) x =>
    if x.2 < 6 then let (v, s) := agreeSample (44 + x.2) x.1 p.2; (p.1 ++ [v], s) else p) ([], s)
  when (!s.sys.dspFault) (inertStrobe axes) s1

/-- Period of a strobe kind in ns of TB0. -/
def strobePeriod : Nat → Nat
  | 0 => 1000
  | 1 => 5000
  | _ => 250000

/-- One strobe: kind 0 digital inputs (codes of Table 10.2: 0 OFF, 1 ON, 2 BROKEN) and then speed signals, kind 1 analog inputs, kind 2
inertial axes; each sample is the three paths' values. The strobe falls at the next instant of its period. -/
def strobe (kind : Nat) (samples : List (Tri Int)) (s0 : State) : State :=
  let p := strobePeriod kind
  let t := s0.tb0 / p * p
  let due := if t = s0.tb0 && s0.vot.strobes.getD kind 0 != t then t else t + p
  let s1 := toTb0 due s0
  let s := { s1 with vot := { s1.vot with strobes := modAt s1.vot.strobes kind fun _ => due } }
  match kind with
  | 0 => tripEval (samples.zipIdx.foldl (fun s x => if x.2 < 32 then diStrobe x.2 x.1 s else when (decide (x.2 < 40)) (speedStrobe (x.2 - 32) x.1) s) s)
  | 1 => samples.zipIdx.foldl (fun s x => when (decide (x.2 < 4)) (analogStrobe x.2 x.1) s) s
  | _ => inertialStrobe samples s

def execSampleStrobe (kind : Nat) (samples : List (Tri Int)) (s : State) : Host.Outcome State Fault Refusal :=
  .next (when (s.up && s.dio.enabled && decide (kind < 3)) (strobe kind samples) s)

/-! ### Ports -/

/-- A PHY links up: the port is up, and a trunk or star port calibrates its deviation (R140). -/
def execPhyLinkUp (port speed : Nat) (s : State) : Host.Outcome State Fault Refusal :=
  .next (
    if s.hubOn && s.portUsed port && decide (port < 22) && !(s.ftn.ports.getD port Reset.port).up then
      let ok := speed == portSpeed port
      s |> setPort port (fun x => { x with up := true, noStamp := !ok })
        |> if ok then calStart port else fun s =>
          let v := s.reg Off.FTN_TS_CAL_STATUS
          setReg Off.FTN_TS_CAL_STATUS ((v &&& ~~~(0xFFFF00#32)) ||| mkWord [(8, min 65535 (fld v 8 16 + 1))]) s
    else s)

/-- A star or maintenance port loses its link (Table 1.9). -/
def execPortDown (port : Nat) (s : State) : Host.Outcome State Fault Refusal :=
  .next (
    if s.hubOn && decide (4 ≤ port) && decide (port < 22) && (s.ftn.ports.getD port Reset.port).up then
      s |> setPort port Port.down |> record 0x0703 [iU8 1 port, iU8 2 1]
    else s)

/-! ### Memories and field front end -/

/-- The window of the correction rate of a lane ends, 24 h of TB2 after it began (R423). -/
def execCeRateWindowEnd (lane : Lane) (s : State) : Host.Outcome State Fault Refusal :=
  .next (when (s.memOn lane) (fun s =>
    setMem lane (fun m => { m with ceStart := m.ceStart + ceWindow, ceCount := 0, ceRate := false })
      (toTb2 (((s.mem lane).ceStart + ceWindow) * nsUnit) s)) s)

/-- The supervisor opens both DO groups on a fault of the field front end (R354, Table 10.4). -/
def execFrontEndFault (s : State) : Host.Outcome State Fault Refusal := .next (when s.hubOn (fun s => resolveOuts (bothGroups 7 true s)) s)

/-- Two slices find the third in disagreement (R35). -/
def execSliceOutputDisagreement (slice : Nat) (s : State) : Host.Outcome State Fault Refusal := .next (removeSlice slice s)

end Sys2Proof.Machine
end

