-- ==== Sys2Proof/Machine/Modes.lean ====
section
/-! DEFINITION. Commands of the modes: power, wake, start-up, requests, resets, supply (spec/02). -/
namespace Sys2Proof.Machine

/-! ### Power (R50, R58, Table 2.6) -/

/-- Power-on reset: storage alone keeps its content; GA is read (R50, R555). The MODE_CHANGE record of the change from Unpowered, which has no mode
code, carries 0 as the old mode (DESIGN CHOICE, log 105). -/
def powerOn (ga : Nat) (s : State) : State :=
  bootEntered (0, 0) { State.reset with
    pending := s.pending, now := s.now, free := s.free, out := s.out
    nv := { s.nv with porCount := s.nv.porCount + 1 }
    isl := { Reset.island with ga := ga % 64 }
    chk := { Reset.chk with presentN := s.chk.presentN, pFail := s.chk.pFail, pClaim := s.chk.pClaim }
    sys := { Reset.sys with startAt := s.now } }

def execPowerValid (ga : Nat) (s : State) : Host.Outcome State Fault Refusal := .next (when (!s.isl.powered) (powerOn ga) s)

/-- POWER_FAIL is written into the open page and committed, behind the events that the supervisor still keeps where REC is not ready (R58, R498). -/
def recordPowerFail (s : State) : State :=
  if s.recUp then flushRecords (record 0x0103 [] s)
  else
    commitPage (acceptAll { s with
      erec := { s.erec with queue := s.isl.events ++ [s.request 0x0103 [] [] []], lost := decide (0 < s.isl.eventsLost) }
      isl := { s.isl with events := [], eventsLost := 0 } })

/-- Power fail: the POWER_FAIL record is committed, the group switches open, every domain goes down (R34, R58, R498). -/
def powerLoss (s : State) : State :=
  let s1 := s |> bothGroups 0 true |> resolveOuts |> recordPowerFail
  { State.reset with
    pending := s1.pending, now := s1.now, free := s1.free, out := s1.out ++ releases s1.syncOn ++ [.pin 2 0 true], nv := s1.nv
    isl := { Reset.island with powered := false, failN := true }
    chk := { Reset.chk with presentN := s.chk.presentN, pFail := s.chk.pFail, pClaim := s.chk.pClaim } }

def execPowerFail (s : State) : Host.Outcome State Fault Refusal := .next (when s.isl.powered powerLoss s)

/-! ### Wake (R60, R61, Table 2.5) -/

/-- Bit of SYS_WAKE_CFG and cause word of a wake source: 0 to 3 DI groups A to D, 4 WAKE_N, 5 RTC, 8 + p link energy on port p (0 to 3 trunk,
4 to 19 star). -/
def wakeBit (source : Nat) : Option (Nat × Word) :=
  if source ≤ 5 then some (source, 1#32 <<< source)
  else if 8 ≤ source && source < 12 then some (6, mkWord [(6, 1), (8, source - 8)])
  else if 12 ≤ source && source < 28 then some (7, mkWord [(7, 1), (8, source - 8)])
  else none

/-- Link energy counts on ports in use alone (R29), which the stored configuration names. -/
def State.wakeable (s : State) (source : Nat) : Bool := decide (source < 8) || (s.stored 0x8000 2 0x00300000).testBit (source - 8)

/-- A wake source becomes active: in DORMANT the module wakes; while it enters DORMANT the wake is kept until it has got there. -/
def wakeOp (source : Nat) (s : State) : State :=
  match wakeBit source with
  | some (b, cause) =>
    if bit s.isl.wakeArmed b && s.wakeable source then
      if s.sys.mode == .dormant then wakeReset cause s
      else if s.sys.entering && s.isl.wakeEarly.isNone then { s with isl := { s.isl with wakeEarly := some cause } }
      else s
    else s
  | none => s

def execWake (source : Nat) (s : State) : Host.Outcome State Fault Refusal := .next (when s.isl.powered (wakeOp source) s)

/-- SYS_RTC_NOW reaches SYS_RTC_ALARM: time goes on to that second. -/
def rtcAlarmOp (s : State) : State :=
  if s.isl.rtcAlarm = 0 || s.isl.rtcAlarm.toNat < s.isl.rtc.toNat then s
  else
    let s1 := advance (1000000000 * (s.isl.rtcAlarm.toNat - s.isl.rtc.toNat) - (if s.isl.rtcAlarm = s.isl.rtc then 0 else s.isl.rtcNs)) s
    wakeOp 5 (when s1.up (raiseIrq Irq.SYS_RTC_ALARM) s1)

def execRtcAlarm (s : State) : Host.Outcome State Fault Refusal := .next (when s.isl.powered rtcAlarmOp s)

def execDormantReached (s : State) : Host.Outcome State Fault Refusal := .next (when (s.up && s.sys.entering) dormantReached s)

/-! ### BOOT (R53, R54, R508, R510, R515, R523, R530, R531) -/

/-- Lanes whose check of a slot fails: all of them when the image does not pass, else those with a bad copy. A takeover compares with the
digest kept from VERIFY in place of the check (R386). -/
def State.slotFails (s : State) (bad : Lane → BitVec 8) (t : Nat) (b : Bool) : List Lane :=
  let n := (s.typeSlots t).slot b
  let ok := if s.chk.takeover.isSome then n.state == .verified else s.checkImage t n == 0
  Lane.all.filter fun l => !ok || (bad l).getLsbD (2 * t + b2n b)

/-- Slot that boot takes for a type: the marked one, or the other when at least two lanes find the marked one bad; none when both fail. -/
def State.bootSlot (s : State) (bad : Lane → BitVec 8) (t : Nat) : Option Bool :=
  let m := (s.typeSlots t).markB
  if (s.slotFails bad t m).length < 2 then some m
  else if (s.slotFails bad t (!m)).length < 2 then some (!m)
  else none

/-- State of a slot after boot: interrupted staging and a failed check leave it INVALID, a passed one VERIFIED (R508). -/
def bootState (n : NorSlot) (checked passed : Bool) : NorSlot :=
  if checked && passed then { n with state := .verified }
  else if n.state == .empty then n
  else if n.state == .erasing || n.state == .receiving || checked then { n with state := .invalid }
  else n

/-- One type at boot: slots, running slot, and the IMAGE_SLOT record of a fallback. -/
def bootType (bad : Lane → BitVec 8) (s : State) (t : Nat) : State :=
  let x := s.typeSlots t
  let m := x.markB
  let taken := s.bootSlot bad t
  let x1 := x.put m (bootState (x.slot m) true (taken == some m))
  let x2 := x1.put (!m) (bootState (x.slot (!m)) (taken != some m) (taken == some (!m)))
  setSlots t (fun _ => { x2 with runB := taken.getD m }) s |> when (taken == some (!m)) (record 0x0B01 [iU8 1 (t + 1), iU8 2 (b2n m)])

/-- A lane excluded during START-UP (R49, R515). -/
def startExclude (c : Cause) (s : State) (l : Lane) : State :=
  s |> markExclusion l c |> resetLane .reset l |> wipeLane l 4 |> bump (Off.VOT_EXCL_CNT + 4 * l.idx) |> record 0x0201 [iU8 1 l.idx, iU8 2 c.code]

/-- The supervisor installs the keys into a lane's secure bank at BOOT (R531), but not after a tamper event until re-provisioning (Table 2.4). -/
def installKeys (s : State) (l : Lane) : State :=
  let m := s.mems.get l
  if s.nv.identity.isSome && !s.nv.tamper && !m.powerOff && !m.domainOpen then { s with mems := s.mems.set l { m with secure := .valid } } else s

/-- Every image has been loaded and checked, with the slots each lane found bad (bit 2t + 1 for slot B): VERIFY follows, or recovery without an
LRT, NET or SUP (R54). -/
def bootDone (bad : Lane → BitVec 8) (s : State) : State :=
  let s0 := revertTrial (followMarks s)
  let taken := (List.range 4).map fun t => (t, s0.bootSlot bad t)
  let lost := Lane.all.filter fun l => taken.any fun x => (x.2.map fun b => (s0.slotFails bad x.1 b).contains l).getD false
  let s1 := (List.range 4).foldl (bootType bad) s0
  if taken.any fun x => x.1 < 3 && x.2.isNone then { s1 with sys := { s1.sys with recovery := true } }
  else
    let s2 := Lane.all.foldl (fun s l => s.setLane l fun v => { v with phase := .selftest })
      { s1 with sys := { s1.sys with cpfValid := taken.any fun x => x.1 == 3 && x.2.isSome }, isl := { s1.isl with supLoaded := true } }
    let s3 := lost.foldl (startExclude .image) s2
    setMode .verify ((Lane.all.filter fun l => !lost.contains l).foldl installKeys s3)

def execBootComplete (badA badB badC : BitVec 8) (s : State) : Host.Outcome State Fault Refusal :=
  .next (when (s.up && s.sys.mode == .boot && !s.sys.recovery)
    (bootDone fun l => match l with | .a => badA | .b => badB | .c => badC) s)

/-! ### VERIFY (R41, R44, R49, R334, R374, R464, R514, R531) -/

/-- The object store at VERIFY: a bad copy is rewritten from the good one; with two bad ones every default is loaded (R464). -/
def checkStore (ok : BitVec 2) (s : State) : State :=
  if ok = 3 then { s with nv := { s.nv with copy0 := true, copy1 := true } }
  else if ok = 0 then
    { s with nv := { s.nv with store := [], copy0 := false, copy1 := false }, sys := { s.sys with storeBad := true } }
    |> record 0x0D01 [iU8 1 3] |> raiseIrq Irq.KSP_STORE_FAULT
  else
    { s with nv := { s.nv with copy0 := true, copy1 := true }, ksp := { s.ksp with repairs := s.ksp.repairs + 1 } }
    |> record 0x0D01 [iU8 1 (if ok = 1 then 2 else 1)]

/-- What a takeover restores beside the position: the force table and the sequence counts, in every lane (R325, R389). -/
def restoreTakeover (m : Mram) (s : State) : State :=
  let b := m.page 1
  let fs : List Force := (List.range 256).filterMap fun i =>
    let sel := beAt b (16 * i) 4
    if sel = 0 then none else some ⟨i, BitVec.ofNat 32 sel, BitVec.ofNat 32 (beAt b (16 * i + 4) 4), BitVec.ofNat 64 (beAt b (16 * i + 8) 8)⟩
  { s with cyc := { s.cyc with lanes := s.cyc.lanes.map fun _ c =>
      { c with forces := fs, ocSeq := BitVec.ofNat 32 (m.field 0x18 4), frcSeq := BitVec.ofNat 32 (m.field 0x1C 4) } } }

/-- The checkpoint image of the newest committed half, from which retained data and the position estimate come; set numbers go on from it, and the pages
in which the other half differs count as changed (R378). -/
def restoreImage (s : State) : State :=
  match s.newestHalf with
  | some h0 =>
    let h := s.chk.takeover.getD h0
    let m := s.half h
    let s1 := { s with chk := { s.chk with image := m.pages, setSeq := m.set, dirtyOld := (m.pages.filter fun p => (s.half (h + 1)).page p.1 != p.2).map (·.1) } }
    s1 |> when s.chk.takeover.isSome (restoreTakeover m) |> odoRestore (m.page 0) s.chk.takeover.isSome
  | none => s

/-- The field front end is enabled (R41): refresh times begin, and what the inputs say acts. -/
def enableFrontEnd (s : State) : State :=
  { s with dio := { s.dio with enabled := true, outs := s.dio.outs.map fun o => { o with refreshAt := some s.now } } }
  |> tripEval |> resolveOuts

/-- Images taken at start-up, for the cross-check of R514. -/
def State.startHeader (s : State) (x : Nat) : Option (List Byte) := if x = 4 && !s.sys.cpfValid then none else s.runHeader x

/-- The cross-check of start-up: the first pairing neither tested nor allowed is reason COMPAT, with its record (R514). -/
def checkCompat (s : State) : State :=
  let c := s.crossCheck s.startHeader fun _ => true
  if c.1 = 2 then
    let ver := fun x => if x = 0 then Config.hwRev.toNat else ((s.startHeader x).map fun h => beAt h 12 4).getD 0
    setCompat c s |> record 0x0B04 [iU8 1 c.2.1, iU32 2 (ver c.2.1), iU8 3 c.2.2, iU32 4 (ver c.2.2)] |> findReason .compat
  else setCompat c s

/-- Life-cycle state other than FIELD, or a lane without a VALID secure bank (Table 2.4, R531). -/
def State.lifeReason (s : State) : Bool :=
  s.nv.life != .field || s.lanesIn.any fun l => (s.mems.get l).secure != .valid

/-- Configuration loaded and checked: the matrix commits with RUN 0, and CYC_CFG passes R285; otherwise reason COMMAND. -/
def checkConfig (s : State) : State :=
  let s1 := when s.ftnNode (matrixCommitOp 0x4D58) s
  let bad := (s.ftnNode && s1.ftn.matrix.cause != 0) || s1.cycCheck (s1.maj Off.CYC_CFG) != 0
  when bad (findReason .command) s1

/-- Lanes at the end of VERIFY: those that passed and agree with two equal reports are in vote; the others are excluded (R49, R515). -/
def verifyLanes (ok odd : BitVec 3) (s : State) : State :=
  let here := Lane.all.filter fun l => (s.vot.lanes.get l).phase == .selftest
  let all3 := decide (2 ≤ (here.filter fun l => odd.getLsbD l.idx).length)
  let fails := here.filter fun l => !ok.getLsbD l.idx
  let odds := if all3 then [] else here.filter fun l => ok.getLsbD l.idx && odd.getLsbD l.idx
  let s1 := here.foldl (fun s l => s.setLane l fun v => { v with phase := .inVote }) s
  let s2 := odds.foldl (startExclude .image) (fails.foldl (startExclude .self) s1)
  when (all3 || decide (s2.lanesIn.length < 2)) (findReason .lanes) s2

/-- The hold-up test has failed: the condition of SUPPLY stands until a test passes, and a SUPPLY_DIP record reports it (Tables 2.4, 2.15). -/
def holdupFailed (s : State) : State := record 0x0104 [] { s with sys := { s.sys with overVolt := true } }

/-- VERIFY ends (Table 2.2). `ok` and `odd` name the lanes that passed and those whose image report differs from two equal ones, `storeOk` the
good copies of the object store. -/
def verifyDone (ok odd : BitVec 3) (holdupOk : Bool) (storeOk : BitVec 2) (s : State) : State :=
  let s1 := s |> checkStore storeOk |> loadObjects
  let s2 := { s1 with
    sys := { s1.sys with cpfValid := s1.sys.cpfValid && Config.cpfWithin (s1.runImage 3) }
    isl := { s1.isl with startResets := 0 }
    brg := { s1.brg with cfg := s1.reg Off.BRG_LINK_CFG } }
  let s3 := s2 |> verifyLanes ok odd |> restoreImage |> setOverlap |> servoModes |> enableFrontEnd |> dormantEdges
  let s4 := ((List.range 22).filter fun p => (s3.ftn.ports.getD p Reset.port).up).foldl (fun s p => calStart p s) s3
  let s5 := s4 |> checkCompat |> when s4.lifeReason (findReason .lifecycle) |> when (!holdupOk) holdupFailed |> findKept |> checkConfig |> chkUpdate
  if s5.sys.found != 0 then startTime (enterFound (findCommand s5))
  else if s5.chk.takeover.isSome then afterVerify s5
  else decideRole s5

def execVerifyComplete (lanesOk odd : BitVec 3) (holdupOk : Bool) (storeOk : BitVec 2) (s : State) : Host.Outcome State Fault Refusal :=
  .next (when (s.up && s.sys.mode == .verify) (verifyDone lanesOk odd holdupOk storeOk) s)

/-! ### Watchdog and restart (R43, R55) -/

/-- START-UP has stayed in BOOT or VERIFY for more than 250 ms: a module reset; after three in a row the module stays in BOOT recovery. -/
def watchdogReset (s : State) : State :=
  let s1 := record 0x0102 [iU8 1 s.sub] { s with isl := { s.isl with startResets := s.isl.startResets + 1 } }
  moduleReset 5 s1

def execStartWatchdog (s : State) : Host.Outcome State Fault Refusal :=
  .next (when (s.up && (s.sys.mode == .boot || s.sys.mode == .verify) && !s.sys.recovery) watchdogReset s)

/-- No automatic restart in the preceding 3,600 s of operating time. -/
def State.restartFree (s : State) : Bool :=
  match s.nv.autoRestart with
  | some t => decide (t + 3600 ≤ s.nv.opSeconds.toNat)
  | none => true

def execAutoRestart (s : State) : Host.Outcome State Fault Refusal :=
  .next (when (s.hubOn && s.sys.failSilent && bit (s.reg Off.SYS_START_CFG) 8 && s.restartFree)
    (fun s => moduleReset 4 { s with nv := { s.nv with autoRestart := some s.nv.opSeconds.toNat } }) s)

/-! ### Requests (R57, R62, R64, R65) -/

/-- Word of SYS_MODE_REQ. -/
def reqWord (key : Half) (req : Nat) : Word := mkWord [(0, req), (16, key.toNat)]

def execRequestDormant (key : Half) (s : State) : Host.Outcome State Fault Refusal := .next (when s.up (modeReqOp (reqWord key 1)) s)

def execRequestOperational (key : Half) (s : State) : Host.Outcome State Fault Refusal := .next (when s.up (modeReqOp (reqWord key 4)) s)

def execRequestSafeHold (key : Half) (s : State) : Host.Outcome State Fault Refusal := .next (when s.up (modeReqOp (reqWord key 6)) s)

/-- A write of SYS_RESET_REQ (Table 2.12). -/
def resetReqOp (v : Word) (s : State) : State :=
  if fld v 16 16 != 0x5253 then bump Off.SYS_REQ_REJECTS s else if fld v 0 4 == 1 then moduleReset 3 s else s

def execModuleResetRequest (v : Word) (s : State) : Host.Outcome State Fault Refusal := .next (when s.up (resetReqOp v) s)

/-! ### Supply of the module (R56, Table 2.4) -/

/-- VIN_24 has been above 30 V for more than 1 s. In START-UP the reason takes effect at the end of VERIFY or of START-UP. -/
def overvoltage (s : State) : State :=
  { s with sys := { s.sys with overVolt := true } } |> raiseIrq Irq.SYS_SUPPLY_WARN |> findReason .supply

def execOvervoltageSupply (s : State) : Host.Outcome State Fault Refusal := .next (when s.up overvoltage s)

/-- A hold-up test with VIN_24 in range for 1 s: a pass clears reason SUPPLY, a failure sets it. -/
def holdup (pass : Bool) (s : State) : State :=
  if pass then clearReason .supply { s with sys := { s.sys with overVolt := false, found := s.sys.found &&& ~~~Reason.supply.bit } }
  else findReason .supply (holdupFailed s)

def execHoldupTest (pass : Bool) (s : State) : Host.Outcome State Fault Refusal := .next (when s.up (holdup pass) s)

end Sys2Proof.Machine
end

