-- ==== Sys2Proof/Machine/Pair.lean ====
section
/-! DEFINITION. Commands of the redundant pair (spec/11). -/
namespace Sys2Proof.Machine

/-! ### Role decision (R374 to R376) -/

/-- (CLAIM, CYCLE, UNIT_ID) order. -/
def roleLt (a b : Nat × Nat × Nat) : Bool :=
  decide (a.1 < b.1) || (a.1 == b.1 && (decide (a.2.1 < b.2.1) || (a.2.1 == b.2.1 && decide (a.2.2 < b.2.2))))

/-- The ROLE records that are due by now: one every 1 ms for 20 ms (step 2 of R374). -/
def roleSends (s : State) : State :=
  let due := min 20 ((s.now - s.chk.roleAt) / 1000000 + 1)
  (List.range (due - s.chk.roleSent)).foldl (fun s _ => sendRecord (ckRecord 8 0 0 0 s.roleBody) s)
    { s with chk := { s.chk with roleSent := max due s.chk.roleSent } }

/-- A ROLE record while the module decides: the higher module proceeds as active (step 2 of R374). -/
def execRoleRecord (r : CkRec) (s0 : State) : Host.Outcome State Fault Refusal :=
  .next (
    if s0.chk.role == .deciding && !s0.chk.ga1Wait && ckOk 8 r && r.length == 32 then
      let s := roleSends s0
      let claim := beAt r.body 0 4
      let s1 := { s with chk := { s.chk with roleClaim := BitVec.ofNat 32 (max claim s.chk.roleClaim.toNat) } }
      if roleLt (claim, beAt r.body 4 8, beAt r.body 12 16) (s.lastClaim, s.lastCycle, Config.unitId.toNat) then proceedActive false s1
      else toStandby s1
    else s0)

/-- 20 ms without a ROLE record (step 3 of R374). -/
def execRoleTimeout (s0 : State) : Host.Outcome State Fault Refusal :=
  .next (
    if s0.chk.role == .deciding && !s0.chk.ga1Wait then
      let s := roleSends (advanceTo (s0.chk.roleAt + 20000000) s0)
      if s.isl.ga % 2 = 0 then proceedActive true s else { s with chk := { s.chk with ga1Wait := true } }
    else s0)

/-- 50 ms later, the module with GA_0 = 1. -/
def execGa1ClaimWaitEnd (s : State) : Host.Outcome State Fault Refusal :=
  .next (when s.chk.ga1Wait (fun s =>
    let s1 := advanceTo (s.chk.roleAt + 70000000) s
    if s1.chk.pClaim then toStandby s1 else proceedActive true s1) s)

/-- The watch of 60 ms ends, and VERIFY with it (R376). -/
def execGaWatchEnd (s : State) : Host.Outcome State Fault Refusal :=
  .next (
    if s.chk.watch then
      let s0 := advanceTo (s.chk.watchAt + 60000000) s
      let s1 := { s0 with chk := { s0.chk with watch := false } }
      if s1.chk.holder then (if s1.held then s1 else afterVerify s1) else addReason .claimLost s1
    else s)

/-- A falling edge of PARTNER_CLAIM_N: within the watch both modules withdraw (R376), otherwise the claim is lost (R392). -/
def execPartnerClaimEdge (s : State) : Host.Outcome State Fault Refusal :=
  .next (
    let s1 := { s with chk := { s.chk with pClaim := true } }
    if s.chk.watch then
      if s.chk.holder then
        { s1 with chk := { s1.chk with holder := false, claim := 0, role := .solo }, isl := { s1.isl with claimN := false } }
        |> send (.pin 3 0 false) |> record 0x0A04 [iU8 1 4] |> chkUpdate
      else s1
    else loseClaim s1)

/-! ### The standby's receiver (R380, R385) -/

/-- A valid record has come: the wait for the next begins anew. -/
def gotRecord (us : Nat) (s : State) : State := { s with chk := { s.chk with cycleUs := us, deadline := s.now + 3000 * us } }

/-- A record that a standby takes. -/
def State.standbyTakes (s : State) (type : Nat) (r : CkRec) : Bool := s.sys.mode == .standby && ckOk type r

/-- SET_START: the set is taken only with matching image identities, healthy MRAM, and FULL or on its base set. -/
def startSet (r : CkRec) (s0 : State) : State :=
  let s1 := gotRecord (beAt r.body 4 4) s0
  let s2 := match s1.chk.inSet with
    | some i => discardSet i s1
    | none => s1
  let a := s2.idMatches 0 (slice r.body 8 8)
  let b := s2.idMatches 3 (slice r.body 16 8)
  let ok := a != 0 && b != 0
  let s := armUpdate { s2 with chk := { s2.chk with idMatch := ok }, isl := { s2.isl with follow := ok && (a == 2 || b == 2) } }
  let full := r.body.getD 29 0 &&& 1#8 != 0
  let h := s.half r.half.toNat
  let base := h.state == .committed && decide (h.set.toNat = beAt r.body 0 4)
  let i : SetIn := ⟨r.setSeq, r.half.toNat, full, true, 1, []⟩
  if ok && s.chk.mramOk && r.recSeq == 0 && r.half.toNat == r.setSeq.toNat % 2 && (full || base) then
    { s with chk := { s.chk with inSet := some i } }
  else discardSet { i with half := r.half.toNat % 2 } s

def execSetStart (r : CkRec) (s : State) : Host.Outcome State Fault Refusal :=
  .next (when (s.standbyTakes 1 r && r.length == 32) (startSet r) s)

/-- PAGE: the half is marked INCOMPLETE before the first; a record that fails its checks discards the set. -/
def takePage (r : CkRec) (i : SetIn) (s : State) : State :=
  let n := beAt r.body 0 4
  if ckOk 2 r && r.setSeq == i.set && r.half.toNat == i.half && r.recSeq.toNat == i.next && r.length == 4100 && decide (n < 16384) then
    let h := s.half i.half
    let old := if i.full && i.next == 1 then [] else h.pages
    gotRecord s.chk.cycleUs { s with chk := { s.chk with inSet := some { i with next := i.next + 1, crcs := i.crcs ++ [r.crc] } } }
    |> setHalf i.half { h with state := .incomplete, pages := put old n (r.body.drop 4) }
  else discardSet i s

def execCheckpointPage (r : CkRec) (s : State) : Host.Outcome State Fault Refusal :=
  .next (
    match s.chk.inSet with
    | some i => when (s.sys.mode == .standby) (takePage r i) s
    | none => s)

/-- SET_COMMIT: the set commits when PAGES and SET_CRC match what has come. -/
def takeCommit (r : CkRec) (i : SetIn) (s : State) : State :=
  if ckOk 3 r && r.setSeq == i.set && r.half.toNat == i.half && r.recSeq.toNat == i.next && r.length == 20 &&
      beAt r.body 8 4 == i.next - 1 && beAt r.body 12 4 == (crc32c (i.crcs.flatMap fun c => beBytes 4 c.toNat)).toNat then
    let h := s.half i.half
    gotRecord s.chk.cycleUs { s with chk := { s.chk with inSet := none, lastOk := true, applied := true } }
    |> setHalf i.half { h with state := .committed, set := i.set, cycle := BitVec.ofNat 64 (beAt r.body 0 8) } |> armUpdate
  else discardSet i s

def execSetCommit (r : CkRec) (s : State) : Host.Outcome State Fault Refusal :=
  .next (
    match s.chk.inSet with
    | some i => when (s.sys.mode == .standby) (takeCommit r i) s
    | none => s)

def execKeepalive (r : CkRec) (s : State) : Host.Outcome State Fault Refusal :=
  .next (when (s.standbyTakes 4 r && r.length == 8) (gotRecord (beAt r.body 0 4)) s)

/-- PAUSE extends the wait to its DURATION. -/
def execPauseRecord (r : CkRec) (s : State) : Host.Outcome State Fault Refusal :=
  .next (
    when (s.standbyTakes 5 r && r.length == 4)
      (fun s => { s with chk := { s.chk with deadline := s.now + max (3000 * s.chk.cycleUs) (1000000 * beAt r.body 0 4) } }) s)

/-- PARK: the standby enters DORMANT (Table 2.2). -/
def execPark (r : CkRec) (s : State) : Host.Outcome State Fault Refusal :=
  .next (when (s.standbyTakes 6 r && r.length == 0) (fun s =>
    let s1 := setMode .dormant s
    powerDown .dormant { s1 with isl := { s1.isl with wakeCause := 0 } }) s)

def execHandoverRecord (r : CkRec) (s : State) : Host.Outcome State Fault Refusal :=
  .next (when (s.standbyTakes 7 r && r.length == 0) recognise s)

/-- No valid record for 3 × CYCLE_US, or a PAUSE's DURATION; it counts only after a set has been applied (R385). -/
def execStreamTimeout (s : State) : Host.Outcome State Fault Refusal :=
  .next (when (s.sys.mode == .standby && s.chk.applied) (fun s => recognise (advanceTo s.chk.deadline s)) s)

/-! ### Pair signals -/

/-- PARTNER_FAIL_N low for 100 µs: a standby recognises the failure (R385); one whose images differ from the stream's starts anew by
an ordinary module reset, whose cause code the spec does not give (log 18); an active module resynchronises (R381). -/
def execPartnerFailAsserted (s : State) : Host.Outcome State Fault Refusal :=
  .next (
    let s1 := { s with chk := { s.chk with pFail := true } }
    if s1.sys.mode == .standby then
      if !s1.chk.idMatch && s1.chk.cycleUs != 0 then
        moduleReset (fld (Config.freeWord s1.free) 0 3) { s1 with free := s1.free + 1 }
      else recognise s1
    else s1 |> resyncIfDue |> chkUpdate)

/-- The partner releases FAIL_N: a resynchronisation ends (R381). -/
def execPartnerFailReleased (s : State) : Host.Outcome State Fault Refusal :=
  .next (
    let st := if s.chk.stream == .resync then .running else s.chk.stream
    chkUpdate { s with chk := { s.chk with pFail := false, stream := st } })

/-- A partner is inserted or removed; without one PARTNER_FAIL_N reads low and PARTNER_CLAIM_N high (Table 11.1). -/
def execPartnerPresentChange (present : Bool) (s : State) : Host.Outcome State Fault Refusal :=
  .next (
    if present then
      let st := if s.chk.role == .active && s.chk.stream == .idle then .running else s.chk.stream
      { s with chk := { s.chk with presentN := true, stream := st } } |> resyncIfDue |> chkUpdate
    else chkUpdate { s with chk := { s.chk with presentN := false, pFail := true, pClaim := false, stream := .idle } })

/-! ### Claims on the network (R391 to R393) -/

/-- The own minislot of a node that holds the claim: ANNOUNCE when it is due. -/
def execAnnounceSend (s : State) : Host.Outcome State Fault Refusal :=
  .next (
    if s.chk.holder && s.ftnNode && s.ftn.su == .integrated && decide (max 1 (fld (s.reg Off.CHK_CFG) 8 4) ≤ s.chk.announced) then
      queueClaim 1 0xFFFF { s with chk := { s.chk with announced := 0 } }
    else s)

def ownLess (s : State) (claim : Word) (unit : BitVec 128) : Bool :=
  claimLt s.chk.claim.toNat Config.unitId.toNat claim.toNat unit.toNat

/-- An ANNOUNCE from the partner's address: a higher claim ends the own one, a lower one is answered by a REJECT at most once per
cluster cycle. -/
def execClaimAnnounce (source : Nat) (claim : Word) (unit : BitVec 128) (s : State) : Host.Outcome State Fault Refusal :=
  .next (
    let s1 := when s.up (seeClaim claim unit) s
    if s1.chk.holder && source == fld (s.reg Off.CHK_PARTNER) 0 14 then
      if ownLess s1 claim unit then loseClaim s1
      else
        let s2 := bump Off.CHK_REJECTS_IGNORED s1
        if claimLt claim.toNat unit.toNat s.chk.claim.toNat Config.unitId.toNat && !s.chk.rejected then
          { s2 with chk := { s2.chk with rejected := true } } |> queueClaim 2 source |> bump Off.CHK_REJECTS_SENT |> raiseIrq Irq.CHK_CLAIM_CONFLICT
        else s2
    else s1)

/-- A REJECT addressed to this node. -/
def execClaimReject (dest : Nat) (claim : Word) (unit : BitVec 128) (s : State) : Host.Outcome State Fault Refusal :=
  .next (
    if s.chk.holder && s.ftnNode && dest == s.ownAddr then
      let s1 := seeClaim claim unit s
      if ownLess s1 claim unit then loseClaim s1 else bump Off.CHK_REJECTS_IGNORED s1
    else s)

/-! ### Commands (R381, R384, R395) -/

/-- RESYNC: FULL sets without the limit of 10 s. -/
def resyncCmd (s : State) : State :=
  if s.chk.role != .active then chkResult 3 3 s
  else s |> when s.chk.presentN (fun s => chkUpdate (startResync s)) |> chkResult 2 0

/-- HANDOVER: the set in transfer is completed, and the partner told. -/
def handoverCmd (s : State) : State :=
  if s.chk.role != .active then chkResult 3 3 s
  else if !(s.chk.protected_ && s.running) then chkResult 3 4 s
  else s |> completeSet |> sendRecord (ckRecord 7 0 0 0 []) |> chkResult 2 0

/-- A committed write of CHK_CMD. -/
def chkCmdOp (v : Word) (s : State) : State :=
  if fld v 16 16 != 0x434B then chkResult 3 1 s
  else match fld v 0 4 with
    | 1 => resyncCmd s
    | 2 => handoverCmd s
    | _ => chkResult 3 2 s

def execChkResync (key : Half) (s : State) : Host.Outcome State Fault Refusal :=
  .next (if key != 0x434B then chkResult 3 1 s else resyncCmd s)

def execChkHandover (key : Half) (s : State) : Host.Outcome State Fault Refusal :=
  .next (if key != 0x434B then chkResult 3 1 s else handoverCmd s)

/-- A committed write of CHK_CMP_REPORT: host software reports an output stage in disagreement. -/
def cmpReportOp (v : Word) (s : State) : State :=
  if fld v 16 16 != 0x434D then bump Off.CHK_CMD_REJECTS s else compareFail (fld v 0 14) s

def execCmpReport (v : Word) (s : State) : Host.Outcome State Fault Refusal := .next (when s.up (cmpReportOp v) s)

end Sys2Proof.Machine
end

