-- ==== Sys2Proof/Machine/PisteCmd.lean ====
section
/-! DEFINITION. Commands of the Piste (spec/06). -/
namespace Sys2Proof.Machine

/-- Slices that report and are in the output 2oo3. -/
def State.reports (s : State) (slices : BitVec 3) : Nat := ((List.range 3).filter fun i => slices.getLsbD i && s.vot.slices.getLsbD i).length

/-! ### The comparison (R179 to R185, R202, R207) -/

/-- TB0 in `dt` ns of module time. -/
def State.tb0In (s : State) (dt : Nat) : Nat := (s.time.tb0.time + dt * s.time.tb0.rate) / nsUnit

/-- A POSITION or PHASE entry has come to its trigger `dt` ns on, since it was last compared. -/
def State.crossed (s : State) (a : Armed) (dt : Nat) : Bool :=
  let n := a.index
  let t : Int := s.tb0In dt
  match eDom (s.eCtrl n) with
  | 4 => !a.reached && !s.belowQual n && s.posReached n (s.qAt (eAdvance (s.eCtrl n)) t)
  | 5 => !s.sys.dspFault && passes (s.entryWord n 1) a.phase (s.phiAt n t)
  | _ => false

/-- The first of `k` slice edges, the next of them `dt` ns on, at which `hit` holds; 250 MHz. -/
def firstEdge (hit : Nat → Bool) : Nat → Nat → Option Nat
  | 0, _ => none
  | k + 1, dt => if hit dt then some dt else firstEdge hit k (dt + 4)

/-- Slice edges that the extrapolation from the latest update covers: to the next update, 10 us of TB0 after it (R182, R184). -/
def State.edgesLeft (s : State) (at_ : Nat) : Nat := (at_ + 10000 - s.tb0) / 4 + 1

/-- Time to the edge at which an entry matches: a TB entry at the first edge at or after its trigger (R180), a POSITION or PHASE entry at the first edge at
which it has come to its trigger, before the estimate or the phase is next updated. -/
def State.matchIn (s : State) (a : Armed) : Option Nat :=
  let d := eDom (s.eCtrl a.index)
  let off := (s.now + 3) / 4 * 4 - s.now
  if d < 4 then
    let b := s.base d
    let need := (s.tbTrig a.index * (nsUnit : Int) - b.time).toNat
    some ((s.now + (need + b.rate - 1) / b.rate + 3) / 4 * 4 - s.now)
  else firstEdge (s.crossed a) (s.edgesLeft (if d = 4 then s.odo.estAt else s.sup.phaseAt)) off

/-- An entry matches at the present edge. -/
def State.matchesNow (s : State) (n : Nat) : Bool := (s.armedOf n).any fun a =>
  s.comparers.contains n && (if eDom (s.eCtrl n) < 4 then decide (s.tbTrig n ≤ (s.base (eDom (s.eCtrl n))).ns) else s.crossed a 0)

/-- A match of one entry at the present edge. -/
def matchEntry (n : Nat) (s : State) : State :=
  if !s.matchesNow n then s else if eDom (s.eCtrl n) = 5 then phaseEntry n s else occurrence n 1 false (compared n s)

/-- A match that at least two slices report (R179): time passes to the edge of the entry's match, at which every entry that matches takes effect, by rising
index (R195). Where no edge matches there is nothing to report. -/
def execPisteMatch (entry : Nat) (slices : BitVec 3) (s : State) : Host.Outcome State Fault Refusal :=
  .next <| when (s.comparing && decide (2 ≤ s.reports slices) && s.comparers.contains entry) (fun s =>
    match (s.armedOf entry).bind s.matchIn with
    | some dt =>
      let s1 := advance dt s
      settleEdge ((s1.comparers.filter s1.matchesNow).foldl (fun s n => matchEntry n s) s1)
    | none => s) s

/-- A pulse reaches its width: its target is cleared, unless another entry has acted on it (R196). Of several pulses of an entry it is the one that
ends first. -/
def execPulseEnd (entry : Nat) (s : State) : Host.Outcome State Fault Refusal :=
  .next (match (sortBy (fun (a b : Pulse) => decide (a.endAt ≤ b.endAt)) (s.pst.pulses.filter fun p => p.index == entry)).head? with
    | none => s
    | some p => when s.up (fun s =>
      let s1 := advanceTo p.endAt { s with pst := { s.pst with pulses := s.pst.pulses.erase p } }
      if p.taken then raiseIrq Irq.PST_CONFLICT (bump Off.PST_CONFLICT_CNT s1)
      else if p.sync then setSync (s1.pst.sync &&& ~~~(1#8 <<< p.target)) s1
      else resolveOuts { s1 with pst := { s1.pst with doLevel := s1.pst.doLevel &&& ~~~(1#16 <<< p.target) } }) s)

def State.waiting (s : State) (n : Nat) : Bool :=
  match s.armedOf n with
  | some a => a.waitAt.isSome
  | none => false

/-- A WAITING entry fires at the first edge at which its conditions hold: ENTRY and INPUT guards as they are now, the others as the last estimator update
found them (R191). -/
def execGuardWaitFire (entry : Nat) (s : State) : Host.Outcome State Fault Refusal :=
  .next (when s.comparing (fun s => settleEdge (waitFire entry s)) s)

/-- WAIT_LIMIT ms in WAITING (R191). -/
def execWaitLimitExpiry (entry : Nat) (s : State) : Host.Outcome State Fault Refusal :=
  .next <| when (s.comparing && s.waiting entry) (fun s =>
    let at_ := match s.armedOf entry with
      | some a => a.waitAt.getD s.now
      | none => s.now
    skipOccurrence entry 8 (advanceTo (at_ + 1000000 * max 1 (fld (s.reg Off.PST_CFG) 0 16)) s)) s

/-! ### Commands of PST_CMD: the word with its OP field -/

def execArm (v : Word) (s : State) : Host.Outcome State Fault Refusal := .next (when s.up (pstCmdOp (withOp v 1)) s)
def execDisarm (v : Word) (s : State) : Host.Outcome State Fault Refusal := .next (when s.up (pstCmdOp (withOp v 2)) s)
def execArmMask (v : Word) (s : State) : Host.Outcome State Fault Refusal := .next (when s.up (pstCmdOp (withOp v 3)) s)
def execDisarmMask (v : Word) (s : State) : Host.Outcome State Fault Refusal := .next (when s.up (pstCmdOp (withOp v 4)) s)
def execDisarmAll (v : Word) (s : State) : Host.Outcome State Fault Refusal := .next (when s.up (pstCmdOp (withOp v 5)) s)

def execEntryWordWrite (entry word : Nat) (v : Word) (s : State) : Host.Outcome State Fault Refusal :=
  .next (when (s.up && decide (entry < 1024) && decide (word < 8)) (entryWordOp entry word v) s)

/-- A read of PST_FIRE_HEAD pops an entry and latches its time, once for all lanes (R193, R81). -/
def fireHeadOp (core : Nat) (s : State) : State :=
  let e := s.pst.fifo.headD ⟨0, 0⟩
  { s with pst := { s.pst with fifo := s.pst.fifo.drop 1 } }
  |> setLatch none core Off.PST_FIRE_HEAD [(Off.PST_FIRE_TIME, e.time)] |> answerAll core e.head false

def execPstFireHeadRead (core : Nat) (s : State) : Host.Outcome State Fault Refusal := .next (when s.up (fireHeadOp core) s)

/-- An uncorrectable entry found by the scrub: disarmed and REJECTED with cause STORE (Table 6.15). -/
def execPisteStoreScrub (entry : Nat) (s : State) : Host.Outcome State Fault Refusal :=
  .next (when (s.up && decide (entry < 1024)) (fun s =>
    s |> dropArmed entry |> setStatus entry 6 0 6 (s.eFires entry) |> record 0x0601 [iU16 1 entry] |> raiseIrq Irq.PST_STORE_ERROR) s)

end Sys2Proof.Machine
end

