-- ==== Sys2Proof/Machine/Recorder.lean ====
section
/-! DEFINITION. Commands of the event recorder (spec/16). -/
namespace Sys2Proof.Machine

/-- REC runs: powered, not held in reset, ready (R498). -/
def State.recRuns (s : State) : Bool := s.up && s.erec.state != .notReady

/-! ### Requests, pages, start (R493 to R498) -/

/-- A record that firmware requests: type, and items of field, type code, value. -/
def execRecordRequest (type : Nat) (items : List (Nat × Nat × List Byte)) (s : State) : Host.Outcome State Fault Refusal :=
  .next (when s.up (record type (items.map fun i => ⟨i.1, i.2.1, i.2.2⟩)) s)

def execRecordAccept (s : State) : Host.Outcome State Fault Refusal := .next (when s.recRuns acceptOne s)

/-- COMMIT_TIME in ns: 1 to 50 units of 100 ms, clamped (Table 16.6). -/
def State.commitTime (s : State) : Nat := 100000000 * min 50 (max 1 (fld (s.reg Off.REC_CFG) 16 8))

/-- The open page is committed COMMIT_TIME after its first record (R497); blocks that fail to take it are retired. -/
def pageDue (failed : Nat) (s : State) : State :=
  if s.erec.page.isEmpty then s else advanceTo (s.erec.pageAt + s.commitTime) s |> retireBlocks failed |> commitPage

def execPageCommit (failed : Nat) (s : State) : Host.Outcome State Fault Refusal := .next (when s.recRuns (pageDue failed) s)

/-- Events of a STANDBY period, written as PAIR_STATE records at the next start (spec/11). -/
def tellStandby (s : State) : State :=
  if s.chk.told then s else
    { s.chk.events.foldl (fun s e => record 0x0A04 [iU8 1 e.1, iU32 2 e.2.1.toNat, iU64 3 e.2.2] s) s with
      chk := { s.chk with told := true } }

/-- REC becomes ready: it takes the supervisor's events in order, without snapshots, adds those discarded to REC_LOST_CNT, and goes on
with a clear that a power loss interrupted (R498, R503). Without a NAND, or without usable blocks, STATE is FAILED (Table 16.10). -/
def recReady (nand : Bool) (s : State) : State :=
  let lost := s.isl.eventsLost
  let fails := !nand || decide (7872 ≤ s.nv.nand.retired)
  let s1 := { s with
    erec := { s.erec with state := if fails then .failed else if s.nv.nand.clear.isSome then .clearing else .ready, queue := s.isl.events }
    isl := { s.isl with events := [], eventsLost := 0 } }
  let s2 := acceptAll s1 |> bumpBy Off.REC_LOST_CNT lost |> when fails (raiseIrq Irq.REC_STORAGE)
  tellStandby (if lost = 0 then s2 else { s2 with erec := { s2.erec with lost := true, tell := true } })

/-- `nand`: the NAND is present. -/
def execRecReady (nand : Bool) (s : State) : Host.Outcome State Fault Refusal :=
  .next (when (s.up && s.erec.state == .notReady) (recReady nand) s)

/-! ### Application records (R499) -/

/-- Bytes that host software has placed for an application record. -/
def State.appBytes (s : State) (n : Nat) : List Byte :=
  ((List.range 27).flatMap fun i => beBytes 4 (s.reg (Off.REC_APP_DATA + 4 * i)).toNat).take n

/-- REC_APP_CMD; causes 1 BAD_KEY, 2 BAD_TYPE, 3 BAD_LEN, 4 QUEUE_FULL. -/
def appRecordOp (v : Word) (s : State) : State :=
  let type := fld v 0 16
  let n := fld (s.reg Off.REC_APP_LEN) 0 7
  let done := fun cause s => raiseIrq Irq.REC_APP_DONE (cmdResult Off.REC_APP_STATUS (if cause = 0 then 2 else 3) cause s)
  if fld v 16 16 != 0x5243 then done 1 s
  else if type < 0x8000 || 0xFEFF < type then done 2 s
  else if 108 < n then done 3 s
  else
    let full := decide (64 ≤ s.erec.queue.length)
    let snap := match s.profileOf type with
      | some p => s.snapshotOf p
      | none => []
    done (if full then 4 else 0) (requestRec (s.request type [] (s.appBytes n) snap) s)

def execAppRecord (v : Word) (s : State) : Host.Outcome State Fault Refusal := .next (when s.recRuns (appRecordOp v) s)

/-! ### Clearing (R502, R503) -/

/-- A clear begins: the CLEAR record is written and committed; a clear of the kept area makes it the new KEPT_BASE. -/
def beginClear (kept : Bool) (role : Nat) (path : List Byte) (s : State) : State :=
  let s0 := acceptAll s
  let area := s0.recArea kept
  let first := (area.head?.map (·.seq)).getD 0
  let last := (area.getLast?.map (·.seq)).getD 0
  let s1 := s0 |> record 0x0108 [iU8 1 (b2n kept), iU8 2 role, iOct 3 path, iU32 4 first.toNat, iU32 5 last.toNat] |> acceptAll
  let seq := s1.nv.nand.newest
  let n := { s1.nv.nand with clear := some ⟨kept, seq⟩, keptBase := if kept then seq else s1.nv.nand.keptBase }
  commitPage { s1 with nv := { s1.nv with nand := n }, erec := { s1.erec with state := .clearing } }

/-- Role and path of a clear that waits, as the items of its CLEAR record hold them. -/
def clearOp (kept : Bool) (role : Nat) (path : List Byte) (s : State) : State :=
  match s.erec.state with
  | .ready => beginClear kept role path s
  | .exporting => if s.erec.clearWaits.isSome then s else { s with erec := { s.erec with clearWaits := some (kept, [iU8 2 role, iOct 3 path]) } }
  | _ => s

/-- The write of 0x01 needs the ENGINEER role. -/
def execClearCirculating (role : Nat) (path : List Byte) (s : State) : Host.Outcome State Fault Refusal :=
  .next (when (s.recRuns && decide (3 ≤ role)) (clearOp false role path) s)

/-- The write of 0x02 needs the FACTORY role. -/
def execClearKept (role : Nat) (path : List Byte) (s : State) : Host.Outcome State Fault Refusal :=
  .next (when (s.recRuns && decide (4 ≤ role)) (clearOp true role path) s)

/-- `a` is earlier than `b` by serial arithmetic (R491). -/
def seqBefore (a b : Word) : Bool := decide (1 ≤ (b - a).toNat) && decide ((b - a).toNat < 2147483648)

/-- The erasure completes: records of the area earlier than the CLEAR record are gone. -/
def clearDone (c : Clear) (s : State) : State :=
  let cut := fun (l : List Rec) => l.filter fun r => !seqBefore r.seq c.seq
  let n := if c.kept then { s.nv.nand with kept := cut s.nv.nand.kept, clear := none }
    else { s.nv.nand with circulating := cut s.nv.nand.circulating, clear := none }
  raiseIrq Irq.REC_CLEAR_DONE { s with nv := { s.nv with nand := n }, erec := { s.erec with state := .ready } }

def execClearComplete (s : State) : Host.Outcome State Fault Refusal :=
  .next (match s.nv.nand.clear with
    | some c => when (s.recRuns && s.erec.state == .clearing) (clearDone c) s
    | none => s)

/-! ### Reading (R504) -/

/-- A record of an area by its SEQ. -/
def State.recOf (s : State) (kept : Bool) (seq : Word) : Option Rec := (s.recArea kept).find? fun r => r.seq == seq

/-- The CRC-32C of a record holds (Table 16.1). -/
def crcHolds (bs : List Byte) : Bool := beAt bs (bs.length - 4) 4 == (crc32c (bs.take (bs.length - 4))).toNat

/-- A write of REC_READ_SEQ; READ_STATUS 2 DONE, 3 NONE. `found`: the bytes that the read of the area finds, none where they are those stored. -/
def recordLoadOp (seq : Word) (found : List Byte) (s0 : State) : State :=
  let s := setReg Off.REC_READ_SEQ seq s0
  let kept := bit (s.reg Off.REC_READ_SEL) 0
  match s.recOf kept seq with
  | some r =>
    let bs := if found.isEmpty then s.recBytes kept r else found
    let bad := !crcHolds bs
    let rest := s.nv.nand.badCrc.filter fun b => !(b.1 == kept && b.2.1 == seq)
    { s with
      erec := { s.erec with loaded := bs, loadBad := bad }
      nv := { s.nv with nand := { s.nv.nand with badCrc := if bad then (kept, seq, bs) :: rest else rest } } }
    |> setReg Off.REC_READ_STATUS (mkWord [(0, 2), (2, b2n bad), (8, beAt bs 2 1)]) |> when bad (bump Off.REC_BAD_CRC_CNT)
  | none => setReg Off.REC_READ_STATUS 3 s

def execRecordLoad (seq : Word) (found : List Byte) (s : State) : Host.Outcome State Fault Refusal := .next (when s.recRuns (recordLoadOp seq found) s)

/-! ### Export (R505) -/

def expStatus (state cause : Nat) (s : State) : State := cmdResult Off.REC_EXP_STATUS state cause s

/-- State of an export that ends, with the SEQ of its command. -/
def expEnds (state cause : Nat) (s : State) : State :=
  setReg Off.REC_EXP_STATUS (mkWord [(0, state), (4, cause), (8, fld (s.reg Off.REC_EXP_STATUS) 8 8)]) s

/-- SEQ values of the export's range. -/
def State.expSpan (s : State) : Nat := (s.reg Off.REC_EXP_TO - s.reg Off.REC_EXP_FROM).toNat + 1

/-- Slot `i` of an export: the record, padded, or all zeros. -/
def State.expSlot (s : State) (i : Nat) : List Byte :=
  let kept := bit (s.reg Off.REC_EXP_CFG) 0
  match s.recOf kept (s.reg Off.REC_EXP_FROM + BitVec.ofNat 32 i) with
  | some r => (s.recBytes kept r ++ List.replicate 256 0).take 256
  | none => List.replicate 256 0

/-- Whether slot `i` holds a record whose CRC-32C fails. -/
def State.expBad (s : State) (i : Nat) : Bool :=
  let q := s.reg Off.REC_EXP_FROM + BitVec.ofNat 32 i
  s.nv.nand.badCrc.any fun b => b.1 == bit (s.reg Off.REC_EXP_CFG) 0 && b.2.1 == q && (s.recOf b.1 q).isSome

def State.expDst (s : State) : Nat := (s.reg Off.REC_EXP_DST_LO).toNat + 4294967296 * (s.reg Off.REC_EXP_DST_HI).toNat

/-- Bursts of 4 KiB that the destination takes now: as many as a link has room for (R443), none to lanes in a stop-copy (R453). -/
def State.expRoom (s : State) : Nat :=
  match fld (s.reg Off.REC_EXP_CFG) 4 3 with
  | 0 => if Lane.all.any fun l => (s.vot.lanes.get l).phase == .stopcopy then 0 else 4096
  | 1 => s.room 0
  | 2 => s.room 1
  | _ => 4096

/-- The export has written its first `n` slots, or as much of them as the destination takes, by DMA channel 1. -/
def expWrite (n : Nat) (s : State) : State :=
  let d := (s.dma 1).done
  let bs := (((List.range n).drop (d / 256)).flatMap s.expSlot).drop (d % 256)
  let (m, s1) := dmaWrite 1 (fld (s.reg Off.REC_EXP_CFG) 4 3) s.expDst d (bs.take (4096 * s.expRoom)) s
  let k := (d + m) / 256
  let bad := ((List.range k).filter fun i => decide (d / 256 ≤ i) && s.expBad i).length
  s1 |> countBytes m |> setDma 1 (fun x => { x with done := d + m }) |> bumpBy Off.REC_BAD_CRC_CNT bad
    |> setReg Off.REC_EXP_COUNT (BitVec.ofNat 32 k)

/-- REC_EXP_CMD START; causes 1 BAD_KEY, 2 BAD_RANGE, 3 BAD_DST, 4 BUSY. A range that the destination cannot hold (Table 1.8) is BAD_DST (log 120). -/
def exportStartOp (v : Word) (s : State) : State :=
  let kind := fld (s.reg Off.REC_EXP_CFG) 4 3
  if fld v 16 16 != 0x5245 then expStatus 3 1 s
  else if s.erec.state != .ready then expStatus 3 4 s
  else if 65536 < s.expSpan then expStatus 3 2 s
  else if (kind != 0 && kind != 1 && kind != 2 && kind != 4) || !endpointIn kind s.expDst (256 * s.expSpan) then expStatus 3 3 s
  else { s with erec := { s.erec with state := .exporting } } |> expStatus 1 0 |> setReg Off.REC_EXP_COUNT 0
    |> setDma 1 (fun d => { d with state := .running, done := 0 })

def execExportStart (v : Word) (s : State) : Host.Outcome State Fault Refusal := .next (when s.recRuns (exportStartOp v) s)

/-- An export is over: a clear that waited for it begins (R503). -/
def exportOver (state cause : Nat) (d : DmaState) (s : State) : State :=
  let s1 := { s with erec := { s.erec with state := .ready, clearWaits := none } } |> expEnds state cause |> setDma 1 (fun x => { x with state := d })
    |> raiseIrq Irq.REC_EXPORT_DONE
  match s.erec.clearWaits with
  | some (kept, [r, p]) => beginClear kept (beNat r.value) p.value s1
  | _ => s1

/-- A write of the export's channel has failed: the export stops with cause DMA (R454, R505). -/
def exportFailed (s : State) : State := when (s.erec.state == .exporting && (s.dma 1).state == .error) (exportOver 4 5 .error) s

/-- REC_EXP_CMD ABORT. How many slots were written by then is not the state's to say: free within the range (log 13). -/
def exportAbortOp (v : Word) (s : State) : State :=
  if fld v 16 16 != 0x5245 then expStatus 3 1 s
  else if s.erec.state == .exporting then
    let (w, s1) := fresh s
    let k := (s.dma 1).done / 256
    s1 |> expWrite (k + w.toNat % (s.expSpan + 1 - k)) |> exportOver 5 0 .aborted
  else s

def execExportAbort (v : Word) (s : State) : Host.Outcome State Fault Refusal := .next (when s.recRuns (exportAbortOp v) s)

/-- The export ends: with `result` 0 as DONE, once the destination has taken every slot, and again when it has room for more; otherwise by a DMA
failure after `result - 1` slots. -/
def exportEndOp (result : Nat) (s : State) : State :=
  let t := expWrite (if result = 0 then s.expSpan else min (result - 1) s.expSpan) s
  if (t.dma 1).state == .error then exportFailed t
  else if result ≠ 0 then t |> bump Off.DMA_ERRORS |> exportOver 4 5 .error
  else if (t.dma 1).done < 256 * s.expSpan then t
  else exportOver 2 0 .done t

def execExportEnd (result : Nat) (s : State) : Host.Outcome State Fault Refusal :=
  .next (when (s.recRuns && s.erec.state == .exporting) (exportEndOp result) s)

end Sys2Proof.Machine
end

