-- ==== Sys2Proof/Machine/TimeBase.lean ====
section
/-! DEFINITION. Commands of the time bases and of the port calibration (spec/04). -/
namespace Sys2Proof.Machine

/-! ### Servo inputs, steps and rates (R125 to R138) -/

/-- A valid offset input at a base's servos, 1/256 ns. -/
def execServoOffsetInput (base : Nat) (e : Int) (s : State) : Host.Outcome State Fault Refusal :=
  .next (when (s.up && decide (base < 4)) (if base = 0 then tb0Input e else servoInput base e) s)

/-- A write refused by a lane's TB, counted there (Table 4.11). -/
def tbRefuse (l : Lane) (s : State) : State := bumpLane l Off.TB_REJECT_CNT s

/-- What each lane in vote writes alike. -/
def everyLane (f : Lane → State → State) (s : State) : State := s.lanesIn.foldl (fun s l => f l s) s

/-- A lane's write of TB_x_STEP_HI: a step of TB1 or TB3 by the 64-bit amount in ns, one output on the base's stream (R125, R132). -/
def tbStepOp (core base : Nat) (hi : Word) (l : Lane) (s : State) : State :=
  let lo := Off.TB_STEP_LO + 64 * base
  let s1 := commitLo l core lo s
  if base == 1 || base == 3 then issue base l (.step ((hi ++ s1.reg (laneKey l lo)).toInt * (nsUnit : Int))) s1 else tbRefuse l s1

def execTbStepWrite (core base : Nat) (hi : Word) (s : State) : Host.Outcome State Fault Refusal :=
  .next (when (s.up && decide (base < 4)) (everyLane (tbStepOp core base hi)) s)

/-- A lane's write of TB_x_RATE_HI: the pair is a rate word on the base's stream while MODE is MANUAL; otherwise the write is refused (R125,
Table 4.6). -/
def tbRateOp (core base : Nat) (hi : Word) (l : Lane) (s : State) : State :=
  let lo := Off.TB_RATE_LO + 64 * base
  let s1 := commitLo l core lo s
  if base != 2 && fld (s.laneTb l Off.TB_SERVO_CFG base) 0 2 == 2 then
    let v : DWord := hi ++ s1.reg (laneKey l lo)
    issue base l (.rate v.toNat) (setReg (laneKey l (Off.TB_RATE_HI + 64 * base)) hi s1)
  else tbRefuse l s1

def execTbRateWrite (core base : Nat) (hi : Word) (s : State) : Host.Outcome State Fault Refusal :=
  .next (when (s.up && decide (base < 4)) (everyLane (tbRateOp core base hi)) s)

/-- A lane's write of TB_x_OFFSET_IN: an input of its servo of TB1 or TB3 (R138); refused for TB0 and TB2 (Table 4.8). -/
def tbOffsetOp (base : Nat) (v : Word) (l : Lane) (s : State) : State :=
  if base == 1 || base == 3 then stateWatch base (laneInput base v.toInt l) s else tbRefuse l s

def execTbOffsetInWrite (base : Nat) (v : Word) (s : State) : Host.Outcome State Fault Refusal :=
  .next (when (s.up && decide (base < 4)) (everyLane (tbOffsetOp base v)) s)

/-- HOLD_ENTER after the last valid input (Table 4.2): LOCKED passes to HOLDOVER, ACQUIRE to FREE. -/
def execServoHoldEnter (base : Nat) (s : State) : Host.Outcome State Fault Refusal :=
  .next (when (s.up && decide (base < 4)) (holdEnter base) s)

/-- HOLD_LIMIT in HOLDOVER: FREE, with I cleared (Table 4.2, R128). -/
def execServoHoldLimit (base : Nat) (s : State) : Host.Outcome State Fault Refusal :=
  .next (when (s.up && decide (base < 4)) (holdLimit base) s)

/-- A lane's TB_TRIM (2^-40 ns per ns) gives the rate word of TB2 that the lane issues (R114, R137). -/
def trimOp (l : Lane) (s : State) : State :=
  issue 2 l (.rate ((nsUnit : Int) + (s.reg (laneKey l Off.TB_TRIM)).toInt * 256).toNat) s

/-- 0.01 ppm in units of 2^-40 (R137). -/
def trimStep : Int := 10995

/-- The service core of a lane writes TB_TRIM: the trim curve's correction at the module temperature, by no more than 0.01 ppm from the value
before (R137). -/
def laneTrim (l : Lane) (s : State) : State :=
  let old := (s.reg (laneKey l Off.TB_TRIM)).toInt
  trimOp l (setReg (laneKey l Off.TB_TRIM) (BitVec.ofInt 32 (old + clampInt trimStep (Config.trimAt s.tlm.temp - old))) s)

/-- Once per second (R137). With the module temperature invalid TB_TRIM holds its last value, and a TIME_STATE record of TB2 says so (Table
4.14). -/
def execTbTrimWrite (valid : Bool) (s : State) : Host.Outcome State Fault Refusal :=
  .next (when s.up (fun s => passDone 6 (if valid then everyLane laneTrim s
    else record 0x0401 [iU8 1 2, iU8 2 (s.servoState s.time.tb2).code, iU8 3 (s.servoState s.time.tb2).code] s)) s)

/-! ### The PTP slave of TB1 (R136, Table 4.3) -/

/-- Option `j` of object 0x2304. -/
def State.ptpOpt (s : State) (j : Nat) : Nat := beNat (s.objValue none 0x2304 j)

/-- Maintenance port that TB_CFG selects as source of TB1. -/
def State.ptpPort (s : State) : Option Nat :=
  match fld (s.maj Off.TB_CFG) 0 2 with
  | 1 => some 20
  | 2 => some 21
  | _ => none

def setPtp (f : Ptp → Ptp) (s : State) : State := { s with time := { s.time with ptp := f s.time.ptp } }

/-- The selected master: the best of those heard that 0x2304.05 accepts (all zeros: any) and whose Sync interval is in range. -/
def State.ptpMaster (s : State) : Option PtpMaster :=
  let only := s.ptpOpt 5
  (sortBy (fun (a b : PtpMaster) => decide (a.rank ≤ b.rank)) (s.time.ptp.masters.filter fun m => !m.barred && (only == 0 || only == m.gm))).head?

/-- A master heard, or its entry renewed. -/
def hearMaster (m : PtpMaster) (s : State) : State := setPtp (fun p => { p with masters := m :: p.masters.filter fun x => x.source != m.source }) s

/-- TB1 in 1/256 ns. -/
def State.stamp1 (s : State) : Int := (s.time.tb1.time / 1099511627776 : Nat)

/-- The offset of the last Sync goes to the servo of TB1 in every lane (R136, R138). -/
def ptpInput (s : State) : State :=
  match s.time.ptp.t1, s.time.ptp.t2, s.time.ptp.delay with
  | some t1, some t2, some d => servoInput 1 (satSigned 32 (t2 - t1 - d)) s
  | _, _, _ => s

/-- A Sync is complete: its offset where the delay is known, and the next delay request. -/
def ptpSynced (s : State) : State :=
  match s.time.ptp.t1, s.time.ptp.t2 with
  | some _, some _ =>
    let n := (s.time.ptp.reqSeq + 1) % 65536
    let port := s.time.ptp.port
    ptpInput s |> send (.delayReq port (s.ptpOpt 3 != 0) (s.ptpOpt 1) n)
      |> setPtp fun p => { p with reqSeq := n, peer := none, t3 := some (s.stamp1 + txCorr port) }
  | _, _ => s

/-- A new path delay; the first one gives the waiting Sync its offset. -/
def ptpDelay (d : Int) (s : State) : State :=
  let first := s.time.ptp.delay.isNone
  s |> setPtp (fun p => { p with delay := some d, t3 := none, peer := none }) |> when first ptpInput

/-- A message of the domain and transport selected: Announce and Sync of every master, the rest of the selected one alone. -/
def ptpTake (m : PtpMsg) (x : Int) (s : State) : State :=
  let p := s.time.ptp
  let mine := s.ptpMaster.any fun y => y.source == m.source
  let peer := s.ptpOpt 3 != 0
  match m.body with
  | .announce gm rank => hearMaster ⟨m.source, gm, rank, (p.masters.find? fun y => y.source == m.source).any (·.barred)⟩ s
  | .sync interval t1 =>
    let out := decide (interval < -4) || decide (0 < interval)
    let s1 := setPtp (fun p => { p with masters := p.masters.map fun y => if y.source == m.source then { y with barred := out } else y }) s
    if mine && !out then ptpSynced (setPtp (fun p => { p with syncSeq := m.seq, t1 := t1, t2 := some x }) s1) else s1
  | .followUp t1 => if mine && m.seq == p.syncSeq && p.t1.isNone then ptpSynced (setPtp (fun p => { p with t1 := some t1 }) s) else s
  | .delayResp t4 =>
    match p.t1, p.t2, p.t3 with
    | some t1, some t2, some t3 => if mine && !peer && m.seq == p.reqSeq then ptpDelay (((t2 - t1) + (t4 - t3)) / 2) s else s
    | _, _, _ => s
  | .pdelayResp t2 t3 =>
    match p.t3 with
    | some t1 =>
      if peer && m.seq == p.reqSeq then
        match t3 with
        | some t3 => ptpDelay (((x - t1) - (t3 - t2)) / 2) s
        | none => setPtp (fun p => { p with peer := some (t2, x) }) s
      else s
    | none => s
  | .pdelayFollowUp t3 =>
    match p.t3, p.peer with
    | some t1, some (t2, t4) => if peer && m.seq == p.reqSeq then ptpDelay (((t4 - t1) - (t3 - t2)) / 2) s else s
    | _, _ => s

/-- A PTP message on X11 (port 20) or X12 (port 21) with its MAC boundary stamp of TB1, 1/256 ns. The slave runs on the port that TB_CFG selects;
messages of another domain or transport than 0x2304 gives are not its own. A link without stamps gives no offset (R139). -/
def execPtpMessage (port : Nat) (m : PtpMsg) (stamp : Int) (s : State) : Host.Outcome State Fault Refusal :=
  .next (
    if s.up && s.ptpPort == some port && m.domain == s.ptpOpt 1 && m.transport == s.ptpOpt 2 then
      match s.ingress port stamp with
      | some x => ptpTake m x (if s.time.ptp.port == port then s else setPtp (fun _ => { Reset.ptp with port := port }) s)
      | none => s
    else s)

/-- A lane copy off its beacon: the lane is excluded (Table 4.14). TB_ALIGN_MAX of the lane holds an error above 20 ns, of free
amount (log 20). -/
def laneAlignFault (lane : Lane) (s : State) : State :=
  let (w, s1) := fresh s
  let v := BitVec.ofNat 32 (max (s.reg (laneKey lane Off.TB_ALIGN_MAX)).toNat (max 5121 w.toNat))
  s1 |> setReg (laneKey lane Off.TB_ALIGN_MAX) v |> excludeLane lane .clock

/-! ### Port calibration (R140 to R143) -/

/-- A write of FTN_TS_CAL_REQ (R140, Table 4.10). A request for a port that is measuring starts its sequence anew (DESIGN CHOICE, log 19). -/
def calReqOp (v : Word) (s : State) : State :=
  let p := fld v 0 5
  if fld v 16 16 != 0x5443 then calStatus 3 3 s
  else if !(s.sys.mode.code == 2 || s.held) then calStatus 3 1 s
  else if 21 < p then calStatus 3 2 s
  else if !(s.port p).up then calStatus 3 4 s
  else s |> calStatus 1 0 |> calStart p |> setPort p fun x => { x with calReq := true }

def execCalRequest (v : Word) (s : State) : Host.Outcome State Fault Refusal := .next (when s.up (calReqOp v) s)

/-- A calibration ends where its sequence is over (R141). -/
def execCalibrationEnd (port : Nat) (s : State) : Host.Outcome State Fault Refusal :=
  .next (when (s.up && s.calOver port) (calEnd port) s)

/-- A CALIBRATION frame is taken from a trunk port at any time, from a star port during a calibration of the port: outside one it is a violation of
the service window (R261, Table 8.6, Table 8.7). -/
def calFrame (port : Nat) (f : State → State) (s : State) : State :=
  if !(s.up && decide (port < 20) && s.portLive port) then s
  else if decide (4 ≤ port) && !(s.port port).calRun then guardViolate (port - 4) 7 s
  else f s

/-- The partner's deviation, 1/256 ns. -/
def execCalDev (port : Nat) (dev : Int) (s : State) : Host.Outcome State Fault Refusal :=
  .next (calFrame port (fun s => when (s.port port).calRun (setPort port fun x => { x with partnerDev := some dev }) s) s)

/-- Line-side loop delay of the partner of a port, 1/256 ns (Table 4.4). -/
def lineDelay (p : Nat) : Int := if p < 4 then 54272 else if p < 20 then 24576 else 16384

/-- A PROBE sent at t1 and received with the MAC stamp t2, 1/256 ns. Once this port's own two-way probes are complete it is its own probe, looped at
the partner's line side; otherwise the partner's, answered by a REPLY (Table 8.4). -/
def execCalProbe (port no : Nat) (t1 t2 : Int) (s : State) : Host.Outcome State Fault Refusal :=
  .next (calFrame port (fun s =>
    let x := s.port port
    match s.ingress port t2 with
    | none => s
    | some r =>
      if x.calRun && x.wayMeas.length == 64 then
        when (decide (x.loopMeas.length < 64)) (setPort port fun x => { x with loopMeas := (r - t1 - lineDelay port) :: x.loopMeas }) s
      else sendCal port 3 (no % 64) 0 t1 r s) s)

/-- A REPLY to an own probe: d = (t4 − t1) − (t3 − t2), t4 the MAC stamp (R140). -/
def execCalReply (port _no : Nat) (t1 t2 t3 t4 : Int) (s : State) : Host.Outcome State Fault Refusal :=
  .next (calFrame port (fun s =>
    match s.ingress port t4 with
    | none => s
    | some r => when ((s.port port).calRun && decide ((s.port port).wayMeas.length < 64))
        (setPort port fun x => { x with wayMeas := ((r - t1) - (t3 - t2)) :: x.wayMeas }) s) s)

/-- The port's PHY will loop at the line side in the next network idle time. -/
def execCalLoopReq (port : Nat) (s : State) : Host.Outcome State Fault Refusal :=
  .next (calFrame port (setPort port fun x => { x with loopFor := true }) s)

/-- The partner cannot loop: the sequence ends in NOMINAL (R141). -/
def execCalNoLoop (port : Nat) (s : State) : Host.Outcome State Fault Refusal :=
  .next (calFrame port (fun s => when (s.port port).calRun (fun s => calEnd port (setPort port (fun x => { x with noLoop := true }) s)) s) s)

end Sys2Proof.Machine
end

