-- ==== Sys2Proof/Machine/Registers.lean ====
section
/-! DEFINITION. A read and a write of every register of the map: what host software's access does, in one lane's block or, for a
module-shared block, as the committed voted access (R6 to R14, R75, R81). Offsets are from 0x20_0000_0000. -/
namespace Sys2Proof.Machine

/-- The register that an offset names, if its block lists one (R9). -/
def rowAt (off : Nat) : Option RegRow :=
  Regs.rows.find? fun r => decide (r.off ≤ off) && decide (off < r.off + r.stride * r.count) && (off - r.off) % r.stride == 0

/-- Offset inside a run of `n` words from `base`. -/
def inRun (off base n : Nat) : Bool := decide (base ≤ off) && decide (off < base + 4 * n)

/-! ### Writes -/

/-- A register without an action of its own: pairs commit with their _HI half (R11), SHADOWED values become pending (R12, R326), others
are active at once. -/
def regWriteGen (l : Lane) (core off : Nat) (v : Word) (s : State) : State :=
  let key := regKey l off
  if isLo off then putLo l core off v s
  else if isHi off then
    if boundaryOf off = .live then setReg key v (commitLo l core (off - 4) s)
    else
      let lo := s.loFor l core (off - 4)
      dropLo l core (off - 4) s |> shadowWrite (regKey l (off - 4)) (lo &&& regMask (off - 4)) |> shadowWrite key (v &&& regMask off)
  else if boundaryOf off = .live then setReg key v s
  else shadowWrite key (v &&& regMask off) s

def writeIcu (l : Lane) (core off : Nat) (v : Word) (s : State) : State :=
  if off = Off.ICU_COMPLETE then completeOp l core v s
  else if off = Off.ICU_RUNPRI then routeLane l (setCore l core (fun k => { k with runPri := v.setWidth 8 }) s)
  else if off = Off.ICU_SWI_SET then swiOp l v s
  else if inRun off Off.ICU_PEND 16 then pendClearOp l ((off - Off.ICU_PEND) / 4) v s
  else if inRun off Off.ICU_SRC_CFG 511 then srcCfgOp l ((off - 0x1000) / 4) v s
  else regWriteGen l core off v s

/-- VOT: the digest pair is written on stream 0x20, and the module-shared pair commits at its _HI half (R100). -/
def writeVot (l : Lane) (core stream off : Nat) (v : Word) (s : State) : State :=
  if off = Off.VOT_REJOIN_REQ then rejoinReqOp v s
  else if off = Off.VOT_DIGEST_LO then
    if stream = 0x20 then { s with vot := { s.vot with digestLo := v } } else answerAll core 0 true s
  else if off = Off.VOT_DIGEST_HI then
    if stream = 0x20 then { s with vot := { s.vot with digest := v ++ s.vot.digestLo } } else answerAll core 0 true s
  else regWriteGen l core off v s

def writeCyc (l : Lane) (core off : Nat) (v : Word) (s : State) : State :=
  if off = Off.CYC_OC_VAL_HI then ocStageOp l v (commitLo l core Off.CYC_OC_VAL_LO s)
  else if off = Off.CYC_FRC_VAL_HI then frcStageOp l v (commitLo l core Off.CYC_FRC_VAL_LO s)
  else if off = Off.CYC_OC_CMD then ocCmdOp l v s
  else if off = Off.CYC_FRC_CMD then frcCmdOp l v s
  else if off = Off.CYC_STN_CFG then shadowWrite (stnKey l (fld (cycReg s l Off.CYC_STN_SEL) 0 10)) (v &&& regMask 0x400000) s
  else regWriteGen l core off v s

/-- TB: a lane's writes act on its own servo, and reach the base as its outputs (R20, R125). -/
def writeTb (l : Lane) (core off : Nat) (v : Word) (s : State) : State :=
  let x := (off - 0x30000) / 64
  let r := off % 64
  if off < 0x30100 && r == 0x18 then tbRateOp core x v l s
  else if off < 0x30100 && r == 0x30 then tbStepOp core x v l s
  else if off < 0x30100 && r == 0x28 then tbOffsetOp x v l s
  else if off = Off.TB_TRIM then trimOp l (setReg (laneKey l off) v s)
  else regWriteGen l core off v s

def writePst (l : Lane) (core off : Nat) (v : Word) (s : State) : State :=
  if off = Off.PST_CMD then pstCmdOp v s
  else if inRun off Off.PST_ENTRY_W0 8192 then entryWordOp ((off - Off.PST_ENTRY_W0) / 32) ((off - Off.PST_ENTRY_W0) / 4 % 8) v s
  else regWriteGen l core off v s

def writeOdo (l : Lane) (core off : Nat) (v : Word) (s : State) : State :=
  if off = Off.ODO_FIX_CMD then
    fixSubmitOp (s.reg Off.ODO_FIX_POS_HI ++ s.reg Off.ODO_FIX_POS_LO).toInt (s.reg Off.ODO_FIX_CTIME) (s.reg Off.ODO_FIX_INFO) v s
  else regWriteGen l core off v s

/-- FTN_SLOT_SEL written: the words of the entry selected are loaded (Table 7.15). -/
def slotSelOp (v : Word) (s : State) : State :=
  let t := if bit v 16 then s.ftn.active else s.ftn.shadow
  let e := (look t.entries (fld v 0 14)).getD ⟨0, 0, 0, 0, 0⟩
  s |> setReg Off.FTN_SLOT_SEL v |> setReg Off.FTN_SLOT e.w0 |> setReg (Off.FTN_SLOT + 4) e.w1 |> setReg (Off.FTN_SLOT + 8) e.w2
    |> setReg (Off.FTN_SLOT + 12) e.w3 |> setReg (Off.FTN_SLOT + 16) e.w4

/-- FTN_MATRIX_CMD; cause 7 BAD_OP. -/
def matrixCmdOp (v : Word) (s : State) : State :=
  let key := v.extractLsb' 16 16
  match fld v 0 4 with
  | 1 => matrixCommitOp key s
  | 2 => matrixDiscardOp key s
  | _ => matrixReject (if key != 0x4D58 then 6 else 7) 0 false s

/-- FTN_TXB_CMD; an OP that Table 7.16 does not list has no effect. -/
def txbCmdOp (v : Word) (s : State) : State :=
  match fld v 0 2 with
  | 1 => txState .prepared s
  | 2 => txState .empty s
  | _ => s

def writeFtn (l : Lane) (core off : Nat) (v : Word) (s : State) : State :=
  if off = Off.FTN_CTRL then if bit v 0 then runSetOp s else runClearOp s
  else if off = Off.FTN_MATRIX_CMD then matrixCmdOp v s
  else if off = Off.FTN_SLOT_SEL then slotSelOp v s
  else if off = Off.FTN_SLOT + 16 then slotW4Op v s
  else if off = Off.FTN_TXB_CMD then txbCmdOp v s
  else if off = Off.FTN_TXB_HDR || off = Off.FTN_TXB_CFG || inRun off Off.FTN_TXB_DATA 368 then txbWriteOp off v s
  else if off = Off.FTN_RXB_SEL then rxbSnapshotOp v s
  else if off = Off.FTN_RING_CMD then ringCmdOp v s
  else if off = Off.FTN_GUARD_CMD then guardCmdOp v s
  else if off = Off.FTN_TS_CAL_REQ then calReqOp v s
  else regWriteGen l core off v s

def writeDio (l : Lane) (core off : Nat) (v : Word) (s : State) : State :=
  if off = Off.DIO_OUT_CMD then outCmdOp v s
  else if off = Off.DIO_CTRL_CMD then ctrlCmdOp v s
  else if inRun off Off.DIO_TRIP_MASK 32 then tripRegOp off (v &&& regMask off) s
  else regWriteGen l core off v s

def writeBrg (l : Lane) (core off : Nat) (v : Word) (s : State) : State :=
  if inRun off Off.BRG_XAREA 8192 then xwrite (off - Off.BRG_XAREA) (leBytes 4 v.toNat) s else regWriteGen l core off v s

def writeDma (l : Lane) (core off : Nat) (v : Word) (s : State) : State :=
  if off < 0xA0400 && off % 64 == 8 then dmaCmd ((off - 0xA0000) / 64) (fld v 0 4) (v.extractLsb' 16 16) s else regWriteGen l core off v s

/-- REC_EXP_CMD; an OP that the table does not list is taken for neither command. -/
def expCmdOp (v : Word) (s : State) : State :=
  match fld v 0 4 with
  | 1 => exportStartOp v s
  | 2 => exportAbortOp v s
  | _ => s

def writeRec (l : Lane) (core off : Nat) (v : Word) (s : State) : State :=
  if off = Off.REC_READ_SEQ then when s.recRuns (recordLoadOp v []) s
  else if off = Off.REC_APP_CMD then when s.recRuns (appRecordOp v) s
  else if off = Off.REC_EXP_CMD then when s.recRuns (expCmdOp v) s
  else regWriteGen l core off v s

def writeUpd (l : Lane) (core off : Nat) (v : Word) (s : State) : State :=
  if off = Off.UPD_CMD then updCmdOp v s else if off = Off.UPD_BLK_CMD then blkCmdOp v s else regWriteGen l core off v s

def writeChk (l : Lane) (core off : Nat) (v : Word) (s : State) : State :=
  if off = Off.CHK_CMD then chkCmdOp v s else if off = Off.CHK_CMP_REPORT then cmpReportOp v s else regWriteGen l core off v s

def writeSys (l : Lane) (core off : Nat) (v : Word) (s : State) : State :=
  if off = Off.SYS_MODE_REQ then modeReqOp v s
  else if off = Off.SYS_RESET_REQ then resetReqOp v s
  else if off = Off.SYS_RTC_ALARM then { s with isl := { s.isl with rtcAlarm := v } }
  else regWriteGen l core off v s

/-- The write of a listed register that can be written. -/
def regWriteOp (l : Lane) (core stream off : Nat) (v : Word) (s : State) : State :=
  match off / 65536 with
  | 0 => writeIcu l core off v s
  | 1 => writeVot l core stream off v s
  | 2 => writeCyc l core off v s
  | 3 => writeTb l core off v s
  | 4 => writePst l core off v s
  | 5 => writeOdo l core off v s
  | 7 => writeFtn l core off v s
  | 8 => writeDio l core off v s
  | 9 => writeBrg l core off v s
  | 10 => writeDma l core off v s
  | 11 => writeRec l core off v s
  | 12 => writeUpd l core off v s
  | 13 => if off = Off.SEC_OP then secOp l v s else regWriteGen l core off v s
  | 14 => writeChk l core off v s
  | 15 => writeSys l core off v s
  | _ => regWriteGen l core off v s

/-- A write without effect: a read-only or read-to-clear register (Table 0.3). -/
def writable (off : Nat) : Bool :=
  match rowAt off with
  | some r => r.access == .rw || r.access == .wo || r.access == .w1c
  | none => false

/-! ### Reads -/

/-- Registers that the read of one latches for the reading core (R10, R124, R178, R187, and the block summaries). -/
def latchGroup (off : Nat) : List Nat :=
  if inRun off 0x30000 64 && off % 64 == 0 then [off + 4, off + 8, off + 12]
  else if off = Off.PST_POS_LO then [Off.PST_POS_HI, Off.PST_PHASE]
  else if inRun off Off.PST_ENTRY_W0 8192 && off % 32 == 4 then [off + 4]
  else if off = Off.SUP_PHASE then [Off.SUP_FREQ, Off.SUP_PHASE_CTIME]
  else if off = Off.SPM_DRAM_ERR_LO then [off + 4, off + 8]
  else if off = Off.SPM_SPM_ERR_ADDR || off = Off.CYC_COUNT_LO || off = Off.VOT_DIGEST_LO || off = Off.DIO_DI_STATE_LO || off = Off.DIO_DO_STATE_LO ||
    off = 0xA0440 || (inRun off 0xA0000 256 && off % 64 == 0x18) || (inRun off 0x30110 16 && off % 16 == 4) || isLo off then [off + 4]
  else []

/-- The latches of a block: a lane's own, or one for all lanes (R81). -/
def latchOwner (l : Lane) (off : Nat) : Option Lane := if laneLocal off then some l else none

/-- The value goes to the reading lane, or for a module-shared register to every lane in vote (R79). -/
def readAnswer (l : Lane) (core off : Nat) (v : Word) (s : State) : State :=
  if laneLocal off then answer l core v false s else answerAll core v false s

/-- The read of a listed register: what it returns, and its side effect, once (R81). -/
def regReadOp (l : Lane) (core stream off : Nat) (s : State) : State :=
  if off = Off.ICU_CLAIM_N then claimOp l core false s
  else if off = Off.ICU_CLAIM_F then claimOp l core true s
  else if off = Off.PST_FIRE_HEAD then fireHeadOp core s
  else if off = Off.SUP_DIST_HEAD then distHeadOp core s
  else if off = Off.BRG_FAIL_HEAD then failHeadOp core s
  else if off = Off.UPD_RNG then rngRead core s
  else if off = Off.ODO_POS_LO then answerAll core (s.peek l off) false (odoPosOp core s)
  else if off = Off.BRG_FENCE then brgFenceOp stream s
  else
    let wo := ((rowAt off).map fun r => r.access == .wo).getD false
    let own := latchOwner l off
    let v := if wo = true then 0 else (s.latched own core off).getD (s.peekAt l core off)
    let g := (latchGroup off).map fun o => (o, s.peekAt l core o)
    readAnswer l core off v (when (!g.isEmpty) (setLatch own core off g) s)

/-! ### Accesses that reach no register (R7, R9) -/

/-- An unlisted offset reads zero, takes no write, and is counted. -/
def unmappedOp (l : Lane) (core off : Nat) (write : Bool) (s : State) : State :=
  bump Off.TLM_UNMAPPED_CNT (if write then s else readAnswer l core off 0 s)

/-- A write of an offset: its effect, none where it cannot be written, and the count of R9 where no register stands. -/
def writeAt (l : Lane) (core stream off : Nat) (v : Word) (s : State) : State :=
  if (rowAt off).isNone then unmappedOp l core off true s
  else when (writable off) (regWriteOp l core stream off v) s

/-- A read of an offset. -/
def readAt (l : Lane) (core stream off : Nat) (s : State) : State :=
  if (rowAt off).isNone then unmappedOp l core off false s else regReadOp l core stream off s

end Sys2Proof.Machine
end

