-- ==== Sys2Proof/Machine/Access.lean ====
section
/-! DEFINITION. Commands of register access (spec/00, R12, R326): the accesses of a lane's core to its own blocks, and for
module-shared blocks the access as the lanes in vote make it. -/
namespace Sys2Proof.Machine

/-- The core can make the access: its lane runs, and for a module-shared block is in vote (R14). -/
def State.accessOk (s : State) (l : Lane) (core off : Nat) : Bool :=
  s.laneRuns l && decide (core < 6) && decide (off < 0x111000) && (laneLocal off || s.inVote l)

/-- An access narrower than 32 bits or not aligned: zero, no effect, a bus error (R7). -/
def execMisalignedAccess (lane : Lane) (core off : Nat) (_write : Bool) (s : State) : Host.Outcome State Fault Refusal :=
  .next (when (s.accessOk lane core off) (answer lane core 0 true) s)

/-- An access to an offset that no block lists (R9). -/
def execUnmappedAccess (lane : Lane) (core off : Nat) (write : Bool) (s : State) : Host.Outcome State Fault Refusal :=
  .next (when (s.accessOk lane core off && (rowAt off).isNone) (unmappedOp lane core off write) s)

/-- A read of a register that latches others for the reading core (R10, R81). -/
def execReadLoLatch (lane : Lane) (core off : Nat) (s : State) : Host.Outcome State Fault Refusal :=
  .next (when (s.accessOk lane core off && (off == Off.ODO_POS_LO || !(latchGroup off).isEmpty)) (readAt lane core (8 * core) off) s)

/-- A write of the _HI half of a writable pair (R11). -/
def execWriteHiCommit (lane : Lane) (core off : Nat) (v : Word) (s : State) : Host.Outcome State Fault Refusal :=
  .next (when (s.accessOk lane core off && (isHi off || off == Off.VOT_DIGEST_HI)) (writeAt lane core (if off = Off.VOT_DIGEST_HI then 0x20 else 8 * core) off v) s)

/-- A write of a SHADOWED register (R326 to R328). -/
def execShadowedWrite (lane : Lane) (off : Nat) (v : Word) (s : State) : Host.Outcome State Fault Refusal :=
  .next (when (s.accessOk lane 0 off && (boundaryOf off != .live || off == Off.CYC_STN_CFG || off == Off.SYS_MODE_REQ)) (writeAt lane 0 0 off v) s)

/-- A write of any register: it takes effect as its Update column states (R12). -/
def execRegisterWrite (lane : Lane) (core off : Nat) (v : Word) (s : State) : Host.Outcome State Fault Refusal :=
  .next (when (s.accessOk lane core off && decide (off % 4 = 0)) (writeAt lane core (8 * core) off v) s)

end Sys2Proof.Machine
end

