-- ==== Sys2Proof/Machine/Sluice.lean ====
section
/-! DEFINITION. The Sluice's operations (spec/03): voted accesses, output images, digests and cycle-end writes, and what is settled when lanes
leave the vote. -/
namespace Sys2Proof.Machine

/-! ### Voted accesses (R68 to R87) -/

/-- Class of an access's target: servo outputs and targets outside every block are SAFETY (R102). -/
def State.accessSafety (s : State) (stream addr : Nat) : Bool :=
  (decide (0x30 ≤ stream) && decide (stream ≤ 0x33)) || decide (0x110000 ≤ addr) || bit (s.reg Off.VOT_BLOCK_CLASS) (addr / 65536)

/-- The pair that holds the digest: its minorities are digest disagreements (R100). -/
def isDigest (addr : Nat) : Bool := addr == Off.VOT_DIGEST_LO || addr == Off.VOT_DIGEST_HI

/-- A voted access's offset from 0x20_0000_0000: a module-shared block, or the Culvert windows. -/
def votedTarget (addr : Nat) : Bool :=
  addr % 4 == 0 && ((decide (addr < 0x110000) && !laneLocal addr) || (decide (0x1000000000 ≤ addr) && decide (addr < 0x1400000000)))

/-- An offset from 0x20_0000_0000 in the local MRAM window, which host software only reads (R420). -/
def mramWindow (addr : Nat) : Bool := decide (0x2000000000 ≤ addr) && decide (addr < 0x2010000000)

/-- A word of the local MRAM window, least significant byte first. -/
def State.mramWord (s : State) (addr : Nat) : Word :=
  BitVec.ofNat 32 (leNat ((List.range 4).map fun i => s.mramByte (addr % 268435456 + i)))

/-- Two accesses agree (R68). -/
def Access1.same (a b : Access1) : Bool := a.addr == b.addr && a.write == b.write && (!a.write || a.value == b.value)

/-- Streams' unresolved accesses stand in sequence order (R84): `a` comes before `b` of its stream. -/
def accessBefore (a b : OpenAccess) : Bool := a.stream == b.stream && decide ((b.seq - a.seq).toNat < 2147483648)

/-- A lane's digest is in the minority: in PROBATION it ends the attempt whatever the runs (R111), otherwise it counts on the SAFETY run (R100). -/
def digestMinority (l : Lane) (seq : Word) (late : Bool) (s : State) : State :=
  if (s.vot.lanes.get l).phase == .probation then probationFails l (showMinority l 0x20 3 Off.VOT_DIGEST_LO seq late s)
  else minorityEvent l 0x20 3 Off.VOT_DIGEST_LO seq late true s

/-- A lane's digest agrees: its probation ends (R111). -/
def digestAgrees (l : Lane) (s : State) : State :=
  if (s.vot.lanes.get l).phase == .probation then bump Off.VOT_REJOIN_CNT (s.setLane l fun v => { v with phase := .inVote }) else s

/-- The commit of a write, or the sample of a read, at its target, once; `lanes` have agreed on it (R71, R75, R79). -/
def commitAccess (stream : Nat) (a : Access1) (lanes : List Lane) (s : State) : State :=
  let core := stream / 8
  let mask := lanes.foldl (fun (m : BitVec 3) l => m ||| (1#3 <<< l.idx)) 0#3
  if mramWindow a.addr then answerAll core (s.mramWord a.addr) false s
  else if 0x1000000000 ≤ a.addr then
    if a.write then windowWrite stream mask (0x2000000000 + a.addr) (leBytes 4 a.value.toNat) s
    else windowRead stream (0x2000000000 + a.addr) 4 s
  else if a.write then writeAt s.lane0 core stream a.addr a.value s
  else readAt s.lane0 core stream a.addr s

/-- A lane whose access is not the majority's (R83): a read takes 0 when the majority wrote, and the event counts. -/
def oddAccess (stream : Nat) (seq : Word) (m : Access1) (late : Bool) (x : Access1) (s : State) : State :=
  s |> when (!x.write && m.write) (answer x.lane (stream / 8) 0 false)
    |> if isDigest m.addr && m.write && stream = 0x20 then digestMinority x.lane seq late
       else minorityEvent x.lane stream (if isDigest m.addr then 3 else b2n (!x.write)) m.addr seq late (isDigest m.addr || s.accessSafety stream m.addr)

/-- A lane's access judged against the majority `m`, which arrived at `t`: its window (R77), then its agreement (R72, R102, R111). -/
def judgeAccess (stream : Nat) (seq : Word) (m : Access1) (t : Nat) (x : Access1) (s : State) : State :=
  let out := outWindow t x.at_
  let s1 := windowOfAccess x.lane out s
  if !x.same m then oddAccess stream seq m out x s1
  else when (m.addr == Off.VOT_DIGEST_HI && m.write && decide (stream = 0x20)) (digestAgrees x.lane) s1

/-- Arrival of the majority access: the second that agrees (spec/03). -/
def majorityAt (m : Access1) (xs : List Access1) : Nat := ((xs.filter m.same).map (·.at_)).getD 1 0

/-- An access resolves with its majority `m`: its effect, the kept access, the windows and minorities of the lanes that delivered. -/
def resolveWith (e : OpenAccess) (m : Access1) (s0 : State) : State :=
  let agree := (e.arrivals.filter fun x => x.same m).map (·.lane)
  let came := e.arrivals.map (·.lane)
  let t := majorityAt m e.arrivals
  let s := { s0 with vot := { s0.vot with open_ := s0.vot.open_.filter fun x => !(x.stream == e.stream && x.seq == e.seq) } }
  let s1 := commitAccess e.stream m agree s
  let r := (s1.vot.lanes.get m.lane).answer
  let awaits := decide (0x1000000000 ≤ m.addr) && s1.linkWaits e.stream
  let k : KeptAccess :=
    { stream := e.stream, seq := e.seq, addr := m.addr, write := m.write, value := if m.write then m.value else r.value,
      awaits := awaits, busError := !m.write && r.busError, at_ := t, lanes := came ++ e.spared }
  let s2 := { s1 with vot := { s1.vot with
    kept := s1.vot.kept ++ [k]
    lanes := s1.vot.lanes.map fun l x => if came.contains l then x else { x with answer := (s0.vot.lanes.get l).answer } } }
  e.arrivals.foldl (fun s x => judgeAccess e.stream e.seq m t x s) s2

/-- The access that two of a list agree on. -/
def majAccess : List Access1 → Option Access1
  | [] => none
  | x :: xs => if xs.any x.same then some x else majAccess xs

/-- Arrivals of the lanes in vote. -/
def State.arrived (s : State) (e : OpenAccess) : List Access1 := e.arrivals.filter fun x => s.inVote x.lane

/-- Lanes in vote that have not delivered an access, and are to. -/
def State.awaited (s : State) (e : OpenAccess) : List Lane :=
  s.lanesIn.filter fun l => !(e.arrivals.any fun x => x.lane == l) && !e.spared.contains l

/-- The first unresolved access of a stream, if the lanes in vote decide it (R71, R73, R74, R76) and it waits for no link write (R443, R446). -/
def resolveFirst (stream : Nat) (s : State) : State :=
  match s.vot.open_.find? fun x => x.stream == stream with
  | none => s
  | some e0 =>
    let e := { e0 with arrivals := s.arrived e0 }
    match majAccess e.arrivals with
    | some m => if s.linkBusy stream (0x2000000000 + m.addr) m.write then s else resolveWith e m s
    | none => if (s.awaited e).isEmpty then noMajority stream e.seq s else s

/-- Everything unresolved that the lanes in vote decide, stream by stream. -/
def resolveAll (s : State) : State :=
  (s.vot.open_.map (·.stream)).foldl (fun s k => if s.sys.failSilent then s else resolveFirst k s) s

/-- Module time at which the LATE_LIMIT of an unresolved access begins: its majority access where one has arrived, which waits for an earlier
access of its stream (R84), else its first arrival (R73, R78). -/
def State.limitFrom (s : State) (e : OpenAccess) : Option Nat :=
  let xs := s.arrived e
  match majAccess xs with
  | some m => some (majorityAt m xs)
  | none => (xs.head?).map (·.at_)

/-- A kept access whose LATE_LIMIT has passed: lanes that never delivered it are excluded, and it is forgotten (R78, R82). -/
def expireKept (k : KeptAccess) (s : State) : State :=
  excludeLate (s.lanesIn.filter fun l => !k.lanes.contains l)
    { s with vot := { s.vot with kept := s.vot.kept.filter fun x => !(x.stream == k.stream && x.seq == k.seq) } }

/-- An unresolved access whose LATE_LIMIT has passed: the lanes that have not delivered it are excluded, and the others decide it (R73, R78). -/
def expireOpen (e : OpenAccess) (s : State) : State := resolveAll (excludeLate (s.awaited e) s)

/-- Every limit that has passed by now. -/
def expireAll (s : State) : State :=
  let lim := s.lateLimit
  let s1 := (s.vot.kept.filter fun k => decide (k.at_ + lim ≤ s.now)).foldl (fun s k => if s.sys.failSilent then s else expireKept k s) s
  (s1.vot.open_.filter fun e => match s1.limitFrom e with
    | some t => decide (t + lim ≤ s1.now)
    | none => false).foldl (fun s e => if s.sys.failSilent then s else expireOpen e s) s1

/-- An access that finds its majority resolved (R72, R82): answered from the kept value, which a read that waits for RD_DATA gets when it comes,
compared, and its window counted. -/
def lateArrival (k : KeptAccess) (x : Access1) (s : State) : State :=
  if k.lanes.contains x.lane then s
  else
    let m : Access1 := ⟨x.lane, k.at_, k.addr, k.write, k.value⟩
    { s with vot := { s.vot with kept := s.vot.kept.map fun y =>
        if y.stream == k.stream && y.seq == k.seq then { y with lanes := y.lanes ++ [x.lane] } else y } }
    |> when (!x.write && !k.awaits) (answer x.lane (k.stream / 8) (if k.write then 0 else k.value) (!k.write && k.busError))
    |> judgeAccess k.stream k.seq m k.at_ x

/-- A first or further arrival of an access not yet resolved; a stream with 64 unresolved accesses stalls (R70). -/
def openArrival (stream : Nat) (seq : Word) (x : Access1) (s : State) : State :=
  match s.vot.open_.find? fun e => e.stream == stream && e.seq == seq with
  | some e =>
    if e.arrivals.any fun y => y.lane == x.lane then s
    else
      resolveAll { s with vot := { s.vot with open_ := s.vot.open_.map fun y =>
        if y.stream == stream && y.seq == seq then { y with arrivals := y.arrivals ++ [x] } else y } }
  | none =>
    if 64 ≤ (s.vot.open_.filter fun e => e.stream == stream).length then s
    else resolveAll { s with vot := { s.vot with open_ := insBy accessBefore ⟨stream, seq, [x], []⟩ s.vot.open_ } }

/-! ### Output images (R96 to R99) -/

/-- The image a lane hands over: its output image in bank 0 with its forces laid over, in 64-bit words (R96, R321). -/
def State.outImage (s : State) (l : Lane) : List DWord :=
  let n := fld (cycReg s l Off.CYC_IMG_CFG) 16 11
  let bs := forceImage 1 (s.laneCyc l).forces (rdBytes (s.mems.get l).spad 0x10000 (64 * n))
  (List.range (8 * n)).map fun i => BitVec.ofNat 64 (leNat (slice bs (8 * i) 8))

/-- Words of the longest image of a list. -/
def longest (imgs : List (List DWord)) : Nat := imgs.foldl (fun n w => max n w.length) 0

/-- The image that the words of a list's images agree on, word by word up to the longest; an image that has ended holds no word there. None
where a word has no majority (R97). -/
def majImage (imgs : List (List DWord)) : Option (List DWord) :=
  ((List.range (longest imgs)).mapM fun i => agreedOf (imgs.map fun w => w[i]?)).map fun ws => ws.filterMap id

/-- Words in which an image differs from the voted one. -/
def oddWords (v w : List DWord) : List Nat := (List.range (longest [v, w])).filter fun i => v[i]? != w[i]?

/-- VOT_OUT_STATUS of this cycle. -/
def outStatus (done : Bool) (words : Nat) (s : State) : State :=
  let m := Lane.all.foldl (fun a l => a + b2n (s.vot.lanes.get l).handed.isSome * 2 ^ l.idx) 0
  setReg Off.VOT_OUT_STATUS (mkWord [(0, s.cyc.startedNo.toNat % 65536), (16, m), (19, b2n done), (20, min 4095 words)]) s

/-- The segment of a word is of SAFETY class (R99). -/
def State.wordSafety (s : State) (i : Nat) : Bool := bit (s.reg (Off.VOT_OUT_CLASS + 4 * (i / 32 / 32))) (i / 32 % 32)

/-- A lane's minority words: once for each class that has one (R99). -/
def imageMinority (l : Lane) (v w : List DWord) (late : Bool) (s : State) : State :=
  let odd := oddWords v w
  let ev (safety : Bool) (s1 : State) : State :=
    match odd.find? fun i => s.wordSafety i == safety with
    | some i => minorityEvent l 0x20 2 (8 * i) 0 late safety s1
    | none => s1
  ev false (ev true s)

/-- A lane's image judged against the voted one, whose majority hand-over came at `t`. -/
def judgeImage (v : List DWord) (t : Nat) (l : Lane) (s : State) : State :=
  match (s.vot.lanes.get l).handed with
  | some h => s |> windowOfAccess l (outWindow t h.1) |> imageMinority l v h.2 (outWindow t h.1)
  | none => s

/-- The voted image is released as one unit; that of the first cycle waits for the next boundary (R96, R292). -/
def takeImage (v : List DWord) (s : State) : State :=
  let i : Image := ⟨s.cyc.startedNo.toNat, (s.time.ipt.headD 0) / nsUnit, v.flatMap fun w => leBytes 8 w.toNat⟩
  let s1 := { s with vot := { s.vot with voted := some (s.now, v) } }
  if s.cyc.first then { s1 with cyc := { s1.cyc with firstImage := some i } } else releaseImage i s1

/-- Lanes in vote that have delivered something in this cycle. -/
def State.delivered (s : State) (p : LaneVote → Bool) : List Lane := s.lanesIn.filter fun l => p (s.vot.lanes.get l)

/-- The images handed over so far are voted, where they decide it (R97). -/
def voteImages (s : State) : State :=
  let ls := s.delivered fun v => v.handed.isSome
  let imgs := ls.filterMap fun l => (s.vot.lanes.get l).handed.map (·.2)
  let pair := match imgs with
    | [x, y] => if x == y then some x else none
    | [_, _, _] => majImage imgs
    | _ => none
  match pair with
  | some v =>
    let dis := (List.range (longest imgs)).filter fun i => imgs.any fun w => w[i]? != v[i]?
    ls.foldl (fun s l => judgeImage v s.now l s) (takeImage v (outStatus false dis.length s))
  | none => if decide (2 ≤ ls.length) && ls.length == s.lanesIn.length then noMajority 0x20 0 s else outStatus false 0 s

/-! ### Digests and cycle-end writes (R100, R102, R291) -/

/-- Every lane's digest so far, judged by the majority (R100). -/
def judgeDigest (m : DWord) (t : Nat) (l : Lane) (s : State) : State :=
  match (s.vot.lanes.get l).digest with
  | some d => s |> windowOfAccess l (outWindow t d.1) |> if d.2 = m then digestAgrees l else digestMinority l 0 (outWindow t d.1)
  | none => s

/-- The digests written so far are voted: the second that agrees commits them; all lanes in vote without two alike is no majority (R100). -/
def voteDigests (s : State) : State :=
  let ls := s.delivered fun v => v.digest.isSome
  match agreedOf (ls.filterMap fun l => (s.vot.lanes.get l).digest.map (·.2)) with
  | some m => ls.foldl (fun s l => judgeDigest m s.now l s) { s with vot := { s.vot with digest := m, votedDigest := some (s.now, m) } }
  | none => if decide (2 ≤ ls.length) && ls.length == s.lanesIn.length then noMajority 0x20 0 s else s

/-- Pages of program data that the next digest of a lane takes by rotation (R311). -/
def State.rotation (s : State) (l : Lane) : List Nat :=
  let all := max 1 (min 8192 (Config.dataPages (s.runImage 3)))
  (List.range (max 1 (min 16 (fld (cycReg s l Off.CYC_DIGEST_CFG) 0 5)))).map fun i => ((s.laneCyc l).rot + i) % all

/-- Digest of a lane that has written the pages `ps` in this cycle (R311). -/
def State.digestOf (s : State) (l : Lane) (ps : List Nat) : DWord :=
  let c := s.laneCyc l
  let img := ((s.vot.lanes.get l).handed.map (·.2)).getD []
  crc64 (leBytes 8 s.cyc.startedNo.toNat ++ (img.flatMap fun w => leBytes 8 w.toNat) ++
    ((addPages ps (s.rotation l)).flatMap fun p => leBytes 4 p ++ s.dataPage c p) ++ leBytes 4 c.ocSeq.toNat ++ leBytes 4 c.frcSeq.toNat)

/-- A lane's digest arrives, with its low half already written (R11, R100); its rotation goes on (R311). -/
def digestArrive (l : Lane) (d : DWord) (s : State) : State :=
  let next := ((s.rotation l).getLastD 0) + 1
  let s1 := setCyc l (fun c => { c with phase := 5, rot := next }) (s.setLane l fun v => { v with digest := some (s.now, d) })
  match s1.vot.votedDigest with
  | some (t, m) => judgeDigest m t l s1
  | none => voteDigests s1

/-- The lane is in the phase of its cycle that a command belongs to: 2 logic, 4 digest, 5 checkpoint. -/
def State.inCyclePhase (s : State) (l : Lane) (p : Nat) : Bool := s.up && s.inVote l && (s.laneCyc l).phase == p

/-- A lane's cycle-end write judged against the majority's: a SAFETY-class minority where its value differs (R102). The write has no target,
whose offset VOT_DIS_ADDR would show: it shows 0 (DESIGN CHOICE, log 109). -/
def judgeEnd (m : Word) (t : Nat) (l : Lane) (s : State) : State :=
  match (s.vot.lanes.get l).ended with
  | some e => s |> windowOfAccess l (outWindow t e.1) |> when (e.2 != m) (minorityEvent l 0x20 0 0 0 (outWindow t e.1) true)
  | none => s

/-- The cycle-end writes so far are voted; the second that agrees ends the cycle, with `pages` of host software's checkpoint regions (R291,
R312, R377). -/
def voteEnds (pages : List (Nat × List Byte)) (s : State) : State :=
  let ls := s.delivered fun v => v.ended.isSome
  match agreedOf (ls.filterMap fun l => (s.vot.lanes.get l).ended.map (·.2)) with
  | some m =>
    let s1 := ls.foldl (fun s l => judgeEnd m s.now l s) { s with vot := { s.vot with votedEnd := some (s.now, m) } }
    when s1.cyc.running (cycleEnd pages) s1
  | none => if decide (2 ≤ ls.length) && ls.length == s.lanesIn.length then noMajority 0x20 0 s else s

/-- A lane's cycle-end write arrives. -/
def endArrive (l : Lane) (v : Word) (pages : List (Nat × List Byte)) (s : State) : State :=
  let s1 := setCyc l (fun c => { c with phase := 0 }) (s.setLane l fun x => { x with ended := some (s.now, v) })
  match s1.vot.votedEnd with
  | some (t, m) => judgeEnd m t l s1
  | none => voteEnds pages s1

/-! ### Limits of the deliveries of a cycle, and lanes that have left -/

/-- What LATE_LIMIT_EXPIRY names beside a stream: 64 the output image, 65 the digest, 66 the cycle-end write. -/
def LaneVote.deliveredAt (v : LaneVote) : Nat → Option Nat
  | 64 => v.handed.map (·.1)
  | 65 => v.digest.map (·.1)
  | _ => v.ended.map (·.1)

def Vot.majorityTime (v : Vot) : Nat → Option Nat
  | 64 => v.voted.map (·.1)
  | 65 => v.votedDigest.map (·.1)
  | _ => v.votedEnd.map (·.1)

/-- What the lanes left in vote decide, after lanes have left it: an access that no lane is still awaited for is resolved or has no majority,
and so is an image, a digest or a cycle-end write (R73, R76, R97, R100, R105). The waiting accesses of an excluded lane are dropped, since its
port is closed (R104); LATE_LIMIT then runs from the first arrival left (DESIGN CHOICE, log 109). -/
def settleVotes (s : State) : State :=
  if !s.up then s else
    let left (e : OpenAccess) : Option OpenAccess := if (s.arrived e).isEmpty then none else some { e with arrivals := s.arrived e }
    let s1 := resolveAll { s with vot := { s.vot with open_ := s.vot.open_.filterMap left } }
    let any (s : State) (p : LaneVote → Bool) : Bool := s.up && !(s.delivered p).isEmpty
    let s2 := when (s1.vot.voted.isNone && any s1 fun v => v.handed.isSome) voteImages s1
    let s3 := when (s2.vot.votedDigest.isNone && any s2 fun v => v.digest.isSome) voteDigests s2
    let s4 := when (s3.vot.votedEnd.isNone && any s3 fun v => v.ended.isSome) (voteEnds []) s3
    when (s4.up && !s4.time.votes.isEmpty) settleTb s4

/-- What a command has done, settled when a lane has left the vote in it. -/
def settled (s0 s : State) : State := if s.lanesIn == s0.lanesIn then s else settleVotes s

/-- LATE_LIMIT passes for a delivery of the cycle: the lanes without it are excluded, from its majority, or from its first where none has
formed (R78). -/
def deliveryExpiry (kind : Nat) (s : State) : State :=
  let at_ (l : Lane) : Option Nat := (s.vot.lanes.get l).deliveredAt kind
  match (s.vot.majorityTime kind).or (s.lanesIn.filterMap at_).min? with
  | some t =>
    let s1 := advanceTo (t + s.lateLimit) s
    settled s (excludeLate (s1.lanesIn.filter fun l => (at_ l).isNone) s1)
  | none => s

/-! ### Arrivals -/

/-- A lane's digest written as two halves on stream 0x20 in its digest phase is one 64-bit voted write (R11, R100): the low half waits for the
high one. -/
def digestHalf (l : Lane) (addr : Nat) (v : Word) (s : State) : State :=
  if addr = Off.VOT_DIGEST_LO then s.setLane l fun x => { x with digestLo := v }
  else digestArrive l (v ++ (s.vot.lanes.get l).digestLo) s

/-- A lane's voted access arrives at the slices at a module time. -/
def arrive (stream : Nat) (seq : Word) (x : Access1) (s0 : State) : State :=
  if s0.up && s0.inVote x.lane && decide (stream < 48) && (votedTarget x.addr || (!x.write && x.addr % 4 == 0 && mramWindow x.addr)) then
    let s := expireAll (advanceTo x.at_ s0)
    if !s.up || !s.inVote x.lane then s
    else
      let a := { x with at_ := s.now }
      let s1 := s.setLane x.lane fun v => { v with seqs := put v.seqs stream (seq + 1), portSeq := v.portSeq + 1 }
      if isDigest x.addr && x.write && decide (stream = 0x20) && s1.inCyclePhase x.lane 4 then digestHalf x.lane x.addr x.value s1
      else match s1.vot.kept.find? fun k => k.stream == stream && k.seq == seq with
        | some k => lateArrival k a s1
        | none => openArrival stream seq a s1
  else s0

end Sys2Proof.Machine
end

