-- ==== Sys2Proof/Machine/Boundaries.lean ====
section
/-! DEFINITION. The cycle boundary and the cycle point as commands (spec/07, spec/09), with what the lanes in vote decide when one leaves at it. -/
namespace Sys2Proof.Machine

/-- A boundary that falls on TB2: the first at the next whole millisecond, the others one cycle time after the last (R284, R288).
A node whose cycle point gives the boundaries has none on TB2 (R289). `meets`: writes of cores that reach words of bank 0 in the cycle in
which the freeze writes them (R427). -/
def execCycleBoundary (meets : List (Lane × Nat × List Byte)) (s : State) : Host.Outcome State Fault Refusal :=
  .next (settled s (
    if s.boundariesOn && !s.pointSource then
      boundary s.coupled meets (toTb2 (s.nextBoundary * nsUnit) s)
    else s))

/-- Cycle point `c` occurs in the present basic cycle (R242), and one that starts the cyclic program is a boundary (R283). -/
def execCyclePoint (c : Nat) (s : State) : Host.Outcome State Fault Refusal :=
  .next (settled s (
    let cp := s.reg (Off.FTN_CP + 4 * c)
    if decide (c < 32) && s.ftn.su == .integrated && s.bIdx % 2 ^ fld cp 2 3 == fld cp 5 6 && !bit s.ftn.cpErr c then
      let s1 := toTb0 (s.ftn.cycle * s.matrix.t + 1000 * fld cp 12 12) s |> when (bit cp 0) (raiseIrq (Irq.FTN_CP + c))
      let cfg := s1.maj Off.CYC_CFG
      if bit cp 1 && s1.pointSource && s1.boundariesOn && fld cfg 3 5 == c && s1.ftn.cycle % max 1 (fld cfg 8 7) == fld cfg 16 6 then
        boundary false [] s1
      else s1
    else s))

end Sys2Proof.Machine
end

