-- ==== Sys2Proof/Machine/KspOps.lean ====
section
/-! DEFINITION. Operations of the Keneoha service protocol (spec/15): messages, transports, sessions, reads and writes of objects. -/
namespace Sys2Proof.Machine

/-! ### Messages (Table 15.4, R468 to R470) -/

/-- Header of a message, offsets 0 to 15. -/
def kspHeader (m : KspMsg) : List Byte :=
  [m.verFlags, m.code] ++ beBytes 2 m.session.toNat ++ beBytes 2 m.trans.toNat ++ beBytes 2 m.index.toNat ++ [m.sub, m.status] ++
  beBytes 2 m.length ++ beBytes 4 m.offset.toNat

def kspCheck (m : KspMsg) : Word := crc32c (kspHeader m ++ m.payload)

/-- Bytes of a message on the wire. -/
def kspBytes (m : KspMsg) : List Byte := kspHeader m ++ m.payload ++ beBytes 4 m.check.toNat

/-- A message that is not discarded (R468, R469). -/
def kspGood (m : KspMsg) : Bool :=
  m.verFlags.toNat / 16 == 1 && decide (m.length ≤ 1400) && m.payload.length == m.length && m.check == kspCheck m

/-- A request has RESPONSE clear. -/
def kspResponse (m : KspMsg) : Bool := m.verFlags.getLsbD 3

def kspLast (m : KspMsg) : Bool := m.verFlags.getLsbD 2

/-- The codes of Table 15.5. -/
def kspCodes : List Nat := [1, 2, 3, 0x10, 0x11, 0x12, 0x13, 0x14, 0x20]

/-- Response to a request (R470). -/
def kspRespond (m : KspMsg) (session : Half) (status : Nat) (last : Bool) (offset : Nat) (payload : List Byte) : KspMsg :=
  let r : KspMsg :=
    { verFlags := BitVec.ofNat 8 (0x18 + 4 * b2n last), code := m.code, session := session, trans := m.trans, index := m.index, sub := m.sub,
      status := BitVec.ofNat 8 status, length := payload.length, offset := BitVec.ofNat 32 offset, payload := payload, check := 0 }
  { r with check := kspCheck r }

/-! ### Transports (R485 to R489) -/

/-- Value in force of an object 0x1200 to 0x1211; the boot ROM reads the store (R489). -/
def State.kspCfg (s : State) (i j : Nat) : Nat :=
  let src := if s.sys.recovery then (if s.nv.copy0 || s.nv.copy1 then s.nv.store else []) else s.ksp.active
  beNat ((look src (objKey i j)).getD (s.objDflt i j))

/-- Address of a maintenance port: 0 X11, 1 X12 (R488). -/
def State.portAddr (s : State) (p : Nat) : Nat :=
  let a := s.kspCfg (0x1210 + p) 1
  if a = 0 then (if p = 0 then 0x0A510064 else 0x0A520064) + s.isl.ga else a

/-- Answers go outside the mask only with a gateway (R488). -/
def State.reachable (s : State) (p : Nat) (ip : Word) : Bool :=
  s.kspCfg (0x1210 + p) 3 != 0 || (BitVec.ofNat 32 (s.portAddr p) ^^^ ip) &&& BitVec.ofNat 32 (s.kspCfg (0x1210 + p) 2) == 0

/-- The service cores run: lanes in vote, or the boot ROM in recovery (R473, R489); not in the pause of a warm restart (R484). -/
def State.serverOn (s : State) : Bool := s.up && !s.sys.warmPause && (s.sys.recovery || !s.lanesIn.isEmpty)

/-- The server serves requests that arrive on a path. -/
def State.kspServes (s : State) (p : Path) : Bool :=
  s.serverOn && (
    if s.sys.recovery then p.kind == 2
    else if p.kind == 1 then s.ftnNode
    else if p.kind == 2 then (s.kspCfg 0x1200 1).testBit 0
    else p.kind == 3 && (s.kspCfg 0x1200 1).testBit 1)

/-- A message as the payload of a SERVICE frame for the arbitrating queue (R485). -/
def kspFrame (p : Path) (m : KspMsg) (s : State) : Frame := { bareFrame 5 p.source.toNat (kspBytes m) s with info := 1 }

/-- A response leaves on the path of its request. -/
def transmit (p : Path) (m : KspMsg) (s : State) : State :=
  if p.kind == 1 then when s.serverOn (fun s => queueArb (kspFrame p m s) s) s
  else when (s.reachable (p.kind.toNat - 2) p.ipv4) (send (.ksp p m)) s

/-! ### Sessions -/

def setKsp (f : Ksp → Ksp) (s : State) : State := { s with ksp := f s.ksp }

/-- The session of a number on its path (R478). -/
def State.session (s : State) (p : Path) (num : Half) : Option Session := s.ksp.sessions.find? fun x => x.num == num && x.path.same p

def setSession (num : Half) (f : Session → Session) (s : State) : State :=
  setKsp (fun k => { k with sessions := k.sessions.map fun x => if x.num == num then f x else x }) s

/-- A message discarded without an answer. -/
def kspDiscard (s : State) : State := setKsp (fun k => { k with discarded := k.discarded + 1 }) s

/-- An answer that is not kept: BUSY, BAD_SESSION. -/
def kspRefuse (status : Nat) (p : Path) (m : KspMsg) (s : State) : State :=
  s |> when (status == 0x0E) (setKsp fun k => { k with busy := k.busy + 1 }) |> transmit p (kspRespond m m.session status false 0 [])

/-- An executed request is answered, and its session keeps the response (R470, R472). -/
def conclude (p : Path) (m : KspMsg) (status : Nat) (last : Bool) (offset : Nat) (payload : List Byte) (s : State) : State :=
  let r := kspRespond m m.session status last offset payload
  s |> setKsp (fun k => { k with executed := k.executed + 1 })
    |> when (m.session != 0) (setSession m.session fun x => { x with kept := some (m.trans, r), waiting := none })
    |> transmit p r

/-- An error or an empty OK. -/
def concludeStatus (p : Path) (m : KspMsg) (status : Nat) (s : State) : State := conclude p m status false 0 [] s

/-- A request of a session (R471, R472, R477, R478, R480): repeated, refused as busy, or executed by `f`. -/
def inSession (p : Path) (m : KspMsg) (f : Session → State → State) (s : State) : State :=
  match s.session p m.session with
  | none => kspRefuse 9 p m s
  | some x =>
    let s1 := setSession x.num (fun y => { y with lastAt := s.now }) s
    match x.waiting, x.kept with
    | some w, _ => if w.1.trans == m.trans then s1 else kspRefuse 0x0E p m s1
    | none, some k => if k.1 == m.trans then transmit p k.2 s1 else run x s1
    | none, none => run x s1
where
  run (x : Session) (s : State) : State :=
    if x.state == .awaitAuth && m.code != 2 && m.code != 3 then kspRefuse 9 p m s
    else
      let s1 := setSession x.num (fun y => { y with path := p, segTimedOut := false }) s
      if x.segTimedOut then concludeStatus p m 0x14 s1 else f x s1

/-- A request that may come without a session. -/
def anySession (p : Path) (m : KspMsg) (f : Option Session → State → State) (s : State) : State :=
  if m.session = 0 then f none s else inSession p m (fun x => f (some x)) s

/-! ### Register paths with a status register (R474) -/

/-- Status register of a register path that has one. -/
def pathReg (i j : Nat) : Option Nat :=
  if i = 0x1101 && j = 1 then some Off.SYS_MODE_REQ_STATUS
  else if i = 0x2321 then some Off.FTN_TS_CAL_STATUS
  else if i = 0x7010 && j = 4 then some Off.ODO_FIX_STATUS
  else if i = 0x2102 then some Off.CYC_OC_STATUS
  else if i = 0x2103 then some Off.CYC_FRC_STATUS
  else if i = 0x4220 then some Off.DIO_CMD_STATUS
  else if i = 0x2402 then some Off.CHK_CMD_STATUS
  else if i = 0xB000 && j = 1 then some Off.UPD_STATUS
  else if i = 0xB010 then some Off.UPD_BLK_STATUS
  else none

/-- What a status register says of a write through its path: REJECTED with the status word, OK, or nothing yet. A batch is APPLIED with
its status word (R336); ACTIVATE is OK at its acceptance (R528). -/
def State.pathEnd (s : State) (i j : Nat) : WriteEnd :=
  match pathReg i j with
  | none => if s.erec.state == .clearing || s.erec.clearWaits.isSome then .waits else .done 0 []
  | some off =>
    let w := s.peek s.lane0 off
    let bytes := beBytes 4 w.toNat
    if i = 0x2102 || i = 0x2103 then
      (if fld w 0 3 = 2 then .waits else if fld w 0 3 = 3 then .done 0 bytes else .done 0x10 bytes)
    else if i = 0xB000 then
      (if fld w 0 3 = 1 then (if fld w 16 4 = 3 then .done 0 [] else .waits) else if fld w 0 3 = 2 then .done 0 [] else .done 0x10 bytes)
    else if fld w 0 2 = 2 || (i = 0x7010 && fld w 0 3 = 4) then .done 0 []
    else if fld w 0 2 = 3 then .done 0x10 bytes
    else .waits

/-- TARGET of a batch: VOT_OUT_STATUS.CYCLE + 16 (R316). -/
def State.batchTarget (s : State) : Word := BitVec.ofNat 32 ((fld (s.reg Off.VOT_OUT_STATUS) 0 16 + 16) % 65536)

/-- An online-change batch staged and committed in a lane, as host software would (R336, Table 9.16). An entry that is rejected ends the
batch, and what was staged is discarded. -/
def ocBatch (l : Lane) (data : List Byte) (s : State) : State :=
  let r := (List.range (beAt data 0 2)).foldl (fun (a : Bool × State) k =>
    if a.1 then a else
      let t := a.2 |> setReg (laneKey l Off.CYC_OC_SEL) (BitVec.ofNat 32 k)
        |> setReg (laneKey l Off.CYC_OC_ADDR) (BitVec.ofNat 32 (beAt data (4 + 12 * k) 4))
        |> setReg (laneKey l Off.CYC_OC_VAL_LO) (BitVec.ofNat 32 (beAt data (12 + 12 * k) 4))
        |> ocStageOp l (BitVec.ofNat 32 (beAt data (8 + 12 * k) 4))
      ((t.laneCyc l).oc == .rejected, t)) (false, s)
  if r.1 then setCyc l (fun c => { c with ocList := [] }) r.2
  else ocCmdOp l 0x4F430001 (setReg (laneKey l Off.CYC_OC_TARGET) s.batchTarget r.2)

/-- The same for force edits. -/
def frcBatch (l : Lane) (data : List Byte) (s : State) : State :=
  let r := (List.range (beAt data 0 2)).foldl (fun (a : Bool × State) k =>
    if a.1 then a else
      let t := a.2 |> setReg (laneKey l Off.CYC_FRC_SEL) (BitVec.ofNat 32 (beAt data (4 + 16 * k) 4))
        |> setReg (laneKey l Off.CYC_FRC_ADDR) (BitVec.ofNat 32 (beAt data (8 + 16 * k) 4))
        |> setReg (laneKey l Off.CYC_FRC_VAL_LO) (BitVec.ofNat 32 (beAt data (16 + 16 * k) 4))
        |> frcStageOp l (BitVec.ofNat 32 (beAt data (12 + 16 * k) 4))
      ((t.laneCyc l).frc == .rejected, t)) (false, s)
  if r.1 then setCyc l (fun c => { c with frcList := [] }) r.2
  else frcCmdOp l 0x46430001 (setReg (laneKey l Off.CYC_FRC_TARGET) s.batchTarget r.2)

/-- A command word of a key and the value written. -/
def keyed (key v : Nat) : Word := BitVec.ofNat 32 (key * 65536 + v)

/-- A write takes its register path; `v` is the value as a number. -/
def registerPath (x : Session) (i : Nat) (v : Nat) (data : List Byte) (s : State) : State :=
  if i = 0x1101 then modeReqOp (keyed 0x4D51 v) s
  else if i = 0x2321 then calReqOp (keyed 0x5443 v) s
  else if i = 0x7010 then
    fixSubmitOp (s.reg Off.ODO_FIX_POS_HI ++ s.reg Off.ODO_FIX_POS_LO).toInt (s.reg Off.ODO_FIX_CTIME) (s.reg Off.ODO_FIX_INFO) (keyed 0x4658 (v % 2)) s
  else if i = 0x2102 then s.lanesIn.foldl (fun s l => ocBatch l data s) s
  else if i = 0x2103 then s.lanesIn.foldl (fun s l => frcBatch l data s) s
  else if i = 0x4220 then ctrlCmdOp (keyed 0x444F (v % 65536)) s
  else if i = 0x2402 then chkCmdOp (keyed 0x434B v) s
  else if i = 0xB000 then updCmdOp (keyed 0x5550 (v % 4096)) s
  else if i = 0xB010 then blockBytes data s
  else if i = 0xA010 then clearOp (v == 2) x.role (pathBytes x.path) s
  else s

/-! ### Checks of a write (R456 to R459) -/

/-- Role that a write needs: the object's, or the one its chapter names for the value (R65, R502, R521, R537, Table 17.12). -/
def writeRole (d : ObjDesc) (i j v : Nat) : Nat :=
  if d.pers = 3 then 4
  else if i = 0x1101 && v = 4 then 2
  else if i = 0xB000 && v % 16 = 3 then 3
  else if i = 0xA010 && v = 2 then 4
  else if i = 0xB100 && j = 2 then lifeRole v
  else if i = 0xB130 && v = 2 then 4
  else d.role

/-- The life-cycle states in which a FACTORY object accepts a write (R536). -/
def State.lifeAllows (s : State) (i : Nat) : Bool :=
  if i = 0xB101 || i = 0xB102 then s.nv.life == .provisioned
  else s.nv.life == .manufacture || s.nv.life == .provisioned || s.nv.life == .returned

/-- What stands between a request and a write of an object: 0, or the status of the first check that fails; the role comes before the
mode. `v` is none for a segment that is not the last. -/
def State.writeGate (s : State) (x : Session) (i j : Nat) (v : Option Nat) : Nat :=
  let f := s.objFind i j
  if f ≠ 0 then f
  else match s.objAt i j with
    | none => 1
    | some d =>
      let holds := (i == 0xB100 && j == 2) || (i == 0xB130 && s.testErases)
      if d.access = 1 then 3
      else if x.role < (match v with | some n => writeRole d i j n | none => if d.pers = 3 then 4 else d.role) then 4
      else if d.access == 4 && !(s.held && s.sub == 1) then 5
      else if holds && !s.held then 5
      else if d.pers = 3 && !s.lifeAllows i then 0x12
      else if s.ksp.sessions.any fun y => y.num != x.num && (match y.seg with | some g => g.index.toNat == i && g.sub.toNat == j | none => false) then 8
      else 0

/-- The length is that of the type, or follows the length rule of the object's chapter (R458). -/
def lengthOk (d : ObjDesc) (i : Nat) (data : List Byte) : Bool :=
  if d.type = 0x10 || i = 0xB010 then decide (data.length ≤ d.len)
  else if i = 0x2102 then data.length == 772 || data.length == 4 + 12 * beAt data 0 2
  else if i = 0x2103 then data.length == 4 + 16 * beAt data 0 2
  else data.length == d.len

/-- The object's own checks of a value (R458). A value of 0x1101.01 that does not fit REQ, 16 or more, is answered RANGE here and does not reach
SYS, whose cause BAD_CODE then stays for 4-bit codes: R66 does not say which (DESIGN CHOICE, log 106). -/
def State.valueOk (s : State) (d : ObjDesc) (i j v : Nat) (data : List Byte) : Bool :=
  if d.type = 1 then decide (v ≤ 1)
  else if d.type = 0x10 then data.all fun b => decide (0x20 ≤ b.toNat) && decide (b.toNat ≤ 0x7E)
  else if i = 0x1011 then v == 1
  else if i = 0x1101 || i = 0x2402 || (i = 0x8200 && j = 6) then decide (v < 16)
  else if i = 0x1200 && j = 2 then decide (10 ≤ v) && decide (v ≤ 3600)
  else if i = 0x2202 then decide (1 ≤ v) && decide (v ≤ 3)
  else if i = 0x2321 then decide (v < 32)
  else if i = 0x2102 then decide (1 ≤ beAt data 0 2) && decide (beAt data 0 2 ≤ 64)
  else if i = 0x2103 then decide (1 ≤ beAt data 0 2) && decide (beAt data 0 2 ≤ 256)
  else if i = 0xA010 then v == 1 || v == 2
  else if i = 0xA011 && j = 2 then decide (v ≤ 1)
  else if i = 0xB020 then s.allowValid data
  else if i = 0xB100 then decide (1 ≤ v) && decide (v ≤ 4) && (s.lifeTarget v).isSome
  else if i = 0xB101 then Config.pssVerify Config.factoryKey (beBytes 16 Config.unitId.toNat ++ s.objValue none 0xB101 1) data
  else if i = 0xB130 then v == 1 || v == 2
  else true

/-! ### Effects of a write (R462 to R466) -/

/-- The store commits: both copies, the generation, the CONFIG_CHANGE record, KSP_STORE. -/
def storeCommitted (x : Session) (i j gen : Nat) (s : State) : State :=
  { s with nv := { s.nv with gen := gen, copy0 := true, copy1 := true }, ksp := { s.ksp with storeWrites := s.ksp.storeWrites + 1 } }
  |> record 0x0D02 [iU16 1 i, iU8 2 j, iU8 3 x.role, iOct 4 (pathBytes x.path), iU16 5 (gen % 65536)] |> raiseIrq Irq.KSP_STORE

/-- A STORED object takes a value; the LIVE or SHADOWED register of an object that acts before VERIFY is written as well (R164, R462). -/
def storeObject (x : Session) (i j v : Nat) (data : List Byte) (s : State) : State :=
  putStored i j (s.objDflt i j) data s |> storeCommitted x i j (s.nv.gen + 1)
    |> when (i == 0x1104) (setReg Off.SYS_WAKE_CFG (BitVec.ofNat 32 v))
    |> when (i == 0x7003) (shadowWrite (Off.ODO_DIAM + 4 * (j - 1)) (BitVec.ofNat 32 v &&& regMask (Off.ODO_DIAM + 4 * (j - 1))))

/-- RESTORE_DEFAULTS (R465): every STORED object of index 0x1000 to 0xEFFF has its default; the generation stays. -/
def restoreStore (x : Session) (s : State) : State :=
  { s with nv := { s.nv with store := s.nv.store.filter fun e => decide (e.1 / 256 < 0x1000) || decide (0xEFFF < e.1 / 256) } }
  |> storeCommitted x 0x1011 0 s.nv.gen

/-- A rejection without a status register shows in its counter (R458). -/
def countedPath (cnt : Nat) (f : State → State) (s : State) : WriteEnd × State :=
  let t := f s
  (.done (if t.reg cnt = s.reg cnt then 0 else 7) [], t)

/-- A key or another FACTORY value. -/
def factoryWrite (i j : Nat) (data : List Byte) (s : State) : State :=
  if i = 0xB102 then { s with nv := { s.nv with imageKey := some data } }
  else { s with nv := { s.nv with factory := put s.nv.factory (objKey i j) data } }

/-- A VOLATILE object of no status register takes a value; a session's own cursor and nonce belong to it (R506, R534). -/
def volatileWrite (x : Session) (i j v : Nat) (data : List Byte) (s : State) : State :=
  if i = 0x1105 then { s with isl := { s.isl with rtcAlarm := BitVec.ofNat 32 v } }
  else if i = 0x7010 && j = 1 then
    s |> setReg Off.ODO_FIX_POS_LO (BitVec.ofNat 32 v) |> setReg Off.ODO_FIX_POS_HI (BitVec.ofNat 32 (v / 4294967296))
  else if i = 0x7010 && j = 2 then setReg Off.ODO_FIX_CTIME (BitVec.ofNat 32 v) s
  else if i = 0x7010 && j = 3 then setReg Off.ODO_FIX_INFO (BitVec.ofNat 32 v) s
  else if i = 0xA011 && j = 1 then setSession x.num (fun y => { y with cursor := some (BitVec.ofNat 32 v) }) s
  else if i = 0xA011 then setSession x.num (fun y => { y with cursorKept := v }) s
  else if i = 0xB110 then setSession x.num (fun y => { y with attNonce := data }) s
  else setKsp (fun k => { k with params := put k.params (objKey i j) data }) s

/-- The value acts. `storeOk`: what goes to the store is read back well; else the object stays (Table 15.6). -/
def applyWrite (storeOk : Bool) (x : Session) (d : ObjDesc) (i j v : Nat) (data : List Byte) (s : State) : WriteEnd × State :=
  if !storeOk && (i == 0x1011 || d.pers == 2) then (.done 0x0F [], s)
  else if i = 0x1011 then (.done 0 [], restoreStore x s)
  else if d.pers = 2 then (.done 0 [], storeObject x i j v data s)
  else if d.pers = 3 then (.done 0 [], factoryWrite i j data s)
  else if i = 0x2202 then countedPath Off.VOT_REQ_REJECTS (rejoinReqOp (keyed 0x524A v)) s
  else if i = 0x8200 then countedPath Off.FTN_CMD_REJECTS (guardCmdOp (keyed 0x4744 (v * 256 + 1))) s
  else if i = 0x8204 then
    countedPath Off.FTN_CMD_REJECTS (ringCmdOp (keyed 0x524E (16 * (v % 4) + if v.testBit 7 then 1 else 2))) s
  else if i = 0xB100 then (.done 0 [], lifeOp v x.role s)
  else if i = 0xB130 then (.done 0 [], testOp v x.role s)
  else if i = 0xA010 && !(s.recRuns && s.erec.state != .clearing && s.erec.clearWaits.isNone) then (.done 0x0E [], s)
  else if i = 0xA010 || (pathReg i j).isSome then
    let t := registerPath x i v data s
    (t.pathEnd i j, t)
  else (.done 0 [], volatileWrite x i j v data s)

/-- A whole value written: the checks, then the effect, and its answer at once or later. -/
def writeObj (storeOk : Bool) (p : Path) (m : KspMsg) (x : Session) (data : List Byte) (s : State) : State :=
  let i := m.index.toNat
  let j := m.sub.toNat
  let v := beNat data
  let g := s.writeGate x i j (some v)
  match s.objAt i j with
  | none => concludeStatus p m (max 1 g) s
  | some d =>
    if g ≠ 0 then concludeStatus p m g s
    else if !lengthOk d i data then concludeStatus p m 6 s
    else if !s.valueOk d i j v data then concludeStatus p m 7 s
    else match applyWrite storeOk x d i j v data s with
      | (.done st pl, t) => conclude p m st false 0 pl t
      | (.waits, t) => setSession x.num (fun y => { y with waiting := some (m, s.now) }) t

/-- Answers the writes whose register path is complete (R474). -/
def kspService (s : State) : State :=
  s.ksp.sessions.foldl (fun s x =>
    match x.waiting with
    | some w =>
      (match s.pathEnd w.1.index.toNat w.1.sub.toNat with
        | .done st pl => conclude x.path w.1 st false 0 pl s
        | .waits => s)
    | none => s) s

/-! ### Requests -/

/-- Requests in the server's queue: those that have come at this instant (R471). -/
def State.queue (s : State) : Nat := if s.ksp.queuedAt = s.now then s.ksp.queued else 0

/-- What every message passes before a request is executed: `c` tells whether its CODE is the command's. A request that finds the queue of 16 full is
answered BUSY (R471). -/
def kspArrive (c : Bool) (p : Path) (via : Via) (m : KspMsg) (wide f : State → State) (s : State) : State :=
  if !c || !s.kspServes p || !via.passes p then s
  else
    let s1 := kspService s
    if !kspGood m then kspDiscard s1
    else if kspResponse m then s1
    else if via.bcast then wide s1
    else if s1.queue = 16 then kspRefuse 0x0E p m s1
    else f (setKsp (fun k => { k with queued := s1.queue + 1, queuedAt := s1.now }) s1)

/-- A broadcast request is executed only as a READ or INFO of 0x1000 or 0x1018 without a session (R486). -/
def wideOk (m : KspMsg) : Bool := m.session == 0 && (m.index == 0x1000 || m.index == 0x1018)

/-- Its answer: on the FTN after RING × 1 ms, on a maintenance port at once (R486, R487). -/
def wideAnswer (p : Path) (m r : KspMsg) (s : State) : State :=
  if wideOk m then
    let s1 := setKsp (fun k => { k with executed := k.executed + 1 }) s
    if p.kind == 1 then setKsp (fun k => { k with broadcast := k.broadcast ++ [(s.now + fld (s.reg Off.FTN_NODE_CFG) 8 6 * 1000000, p, r)] }) s1
    else transmit p r s1
  else kspDiscard s

/-- What a READ finds: status and value. -/
def State.readResult (s : State) (x : Option Session) (i j : Nat) : Nat × List Byte :=
  let f := s.objFind i j
  if f ≠ 0 then (f, [])
  else match s.objAt i j with
    | none => (1, [])
    | some d => if d.access = 3 then (3, []) else (0, s.objValue x i j)

/-- Free bytes that the read of an object uses (log 12). -/
def freeUsed (i j : Nat) : Nat := if i = 0x2102 then 772 else if i = 0x2103 then 4100 else if i = 0x2401 && j = 4 then 256 else 0

/-- Response to a READ: the value, or its first 1,400 bytes, and its length (R476). -/
def readResponse (m : KspMsg) (r : Nat × List Byte) : KspMsg :=
  if r.1 ≠ 0 then kspRespond m m.session r.1 false 0 []
  else kspRespond m m.session 0 (decide (r.2.length ≤ 1400)) r.2.length (r.2.take 1400)

/-- What INFO finds: status and the 12 bytes of Table 15.5. -/
def State.infoResult (s : State) (x : Option Session) (i j : Nat) : Nat × List Byte :=
  let f := s.objFind i j
  if f ≠ 0 then (f, [])
  else match s.objAt i j with
    | none => (1, [])
    | some d =>
      (0, beBytes 1 d.type ++ beBytes 1 d.access ++ beBytes 1 d.pers ++ beBytes 1 d.role ++ beBytes 4 d.len ++ beBytes 4 (s.objValue x i j).length)

end Sys2Proof.Machine
end

