-- ==== Sys2Proof/Machine/Ksp.lean ====
section
/-! DEFINITION. Commands of the Keneoha service protocol (spec/15) and the attestation requests (spec/17). -/
namespace Sys2Proof.Machine

/-! ### OPEN, AUTH, CLOSE (R478 to R484) -/

def State.lockout (s : State) (p : Path) : Lockout := (s.ksp.lockouts.find? fun l => l.path.same p).getD ⟨p.bound, [], none⟩

def putLockout (x : Lockout) (s : State) : State :=
  setKsp (fun k => { k with lockouts := x :: k.lockouts.filter fun l => !l.path.same x.path }) s

/-- A session number from a random word: never 0 or 0xFFFF, and not in use. -/
def State.sessionNum (s : State) (w : Word) : Half :=
  let cand := (List.range 9).map fun k => BitVec.ofNat 16 ((w.toNat + k) % 65534 + 1)
  (cand.find? fun n => s.ksp.sessions.all fun x => x.num != n).getD 1

/-- Bit of 0x1200.03 for a path kind. -/
def pathBit (p : Path) : Nat := if p.kind == 1 then 2 else p.kind.toNat - 2

/-- A session is opened; ENGINEER and FACTORY await AUTH with a fresh nonce (Table 15.7). -/
def openSession (p : Path) (m : KspMsg) (role : Nat) (s : State) : State :=
  let (w, s1) := fresh s
  let num := s1.sessionNum w
  let auth := decide (3 ≤ role)
  let nonce := if auth then freeBytes s1 64 else List.replicate 64 0
  let x : Session :=
    { num := num, role := role, state := if auth then .awaitAuth else .open_, path := p, nonce := nonce, openAt := s.now, lastAt := s.now,
      kept := none, snapshot := none, seg := none, segTimedOut := false, waiting := none, attNonce := [], cursor := none, cursorKept := 0 }
  let body := beBytes 1 role ++ beBytes 1 (if auth then 2 else 1) ++ (s.objValue none 0x1200 2) ++ nonce ++ beBytes 16 Config.unitId.toNat
  { s1 with free := s1.free + if auth then 64 else 0 }
  |> setKsp (fun k => { k with sessions := k.sessions ++ [x], opened := k.opened + 1, executed := k.executed + 1 })
  |> sessionEvent x 1 |> transmit p (kspRespond m num 0 false 0 body)

/-- What refuses an OPEN; 0 when it is granted. -/
def State.openGate (s : State) (p : Path) (m : KspMsg) (role : Nat) : Nat :=
  if m.session != 0 then 9
  else if m.payload.length ≠ 4 then 6
  else if role = 0 || 4 < role then 7
  else if 8 ≤ s.ksp.sessions.length then 0x0E
  else if role = 2 && !(s.kspCfg 0x1200 3).testBit (pathBit p) then 4
  else if 3 ≤ role && (match (s.lockout p).till with | some t => decide (s.now < t) | none => false) then 0x0D
  else 0

def openReq (p : Path) (m : KspMsg) (s : State) : State :=
  let role := beAt m.payload 0 1
  match s.openGate p m role with
  | 0 => openSession p m role s
  | 9 => kspRefuse 9 p m s
  | 0x0E => kspRefuse 0x0E p m s
  | g => concludeStatus p m g s

def execKspOpen (path : Path) (via : Via) (m : KspMsg) (s : State) : Host.Outcome State Fault Refusal :=
  .next (kspArrive (m.code == 1) path via m kspDiscard (openReq path m) s)

/-- The 91 bytes that an AUTH signs (R481). -/
def authBytes (x : Session) : List Byte :=
  x.nonce ++ beBytes 16 Config.unitId.toNat ++ beBytes 2 x.num.toNat ++ beBytes 1 x.role ++ pathBytes x.path

/-- Public key of a role's slot; none where the slot holds none. -/
def State.roleKey (s : State) (role slot : Nat) : Option (BitVec 4096) :=
  if role = 3 then (if slot < 4 then s.publicKey 0xB120 (slot + 1) else none) else if slot < 2 then s.publicKey 0xB121 (slot + 1) else none

/-- A failed AUTH ends the session; the third of a path within 60 s locks it out for 300 s (R482, R483). -/
def authFailed (p : Path) (m : KspMsg) (x : Session) (s : State) : State :=
  let l := s.lockout p
  let fails := (s.now :: l.fails).filter fun t => decide (s.now ≤ t + 60000000000)
  s |> endSessions (fun y => y.num == x.num) |> setKsp (fun k => { k with authFails := k.authFails + 1 })
    |> record 0x0D03 [iOct 1 (pathBytes p), iU8 2 x.role] |> raiseIrq Irq.KSP_SESSION
    |> putLockout (if 3 ≤ fails.length then ⟨p.bound, [], some (s.now + 300000000000)⟩ else ⟨p.bound, fails, l.till⟩)
    |> concludeStatus p m 0x0C

def authReq (p : Path) (m : KspMsg) (x : Session) (s : State) : State :=
  if x.state != .awaitAuth then kspRefuse 9 p m s
  else if m.payload.length ≠ 516 then concludeStatus p m 6 s
  else
    match s.roleKey x.role (beAt m.payload 0 1) with
    | some k =>
      if Config.pssVerify k (authBytes x) (m.payload.drop 4) then concludeStatus p m 0 (setSession x.num (fun y => { y with state := .open_ }) s)
      else authFailed p m x s
    | none => authFailed p m x s

def execKspAuth (path : Path) (via : Via) (m : KspMsg) (s : State) : Host.Outcome State Fault Refusal :=
  .next (kspArrive (m.code == 2) path via m kspDiscard (inSession path m (authReq path m)) s)

def closeReq (p : Path) (m : KspMsg) (x : Session) (s : State) : State := concludeStatus p m 0 (endSessions (fun y => y.num == x.num) s)

def execKspClose (path : Path) (via : Via) (m : KspMsg) (s : State) : Host.Outcome State Fault Refusal :=
  .next (kspArrive (m.code == 3) path via m kspDiscard (inSession path m (closeReq path m)) s)

/-! ### Reads (R475, R476) -/

/-- A READ: the snapshot of a session's earlier one ends; a long value is kept for READ_SEG, unless a segmented write is the session's one
transfer. -/
def readReq (p : Path) (m : KspMsg) (x : Option Session) (s : State) : State :=
  let i := m.index.toNat
  let j := m.sub.toNat
  let r := s.readResult x i j
  let q := readResponse m r
  let snap := match x with
    | some y => if decide (1400 < r.2.length) && y.seg.isNone then some (r.2, s.now) else none
    | none => none
  { s with free := s.free + if r.1 = 0 then freeUsed i j else 0 }
  |> when x.isSome (setSession m.session fun y => { y with snapshot := snap })
  |> conclude p m q.status.toNat (kspLast q) q.offset.toNat q.payload

def execKspRead (path : Path) (via : Via) (m : KspMsg) (s : State) : Host.Outcome State Fault Refusal :=
  .next (kspArrive (m.code == 0x10) path via m
    (fun t => wideAnswer path m (readResponse m (t.readResult none m.index.toNat m.sub.toNat)) t) (anySession path m (readReq path m)) s)

/-- READ_SEG: bytes of the snapshot from OFFSET; the last ones end it. -/
def readSegReq (p : Path) (m : KspMsg) (x : Session) (s : State) : State :=
  match x.snapshot with
  | some b =>
    if m.offset.toNat < b.1.length then
      let part := (b.1.drop m.offset.toNat).take 1400
      let last := decide (b.1.length ≤ m.offset.toNat + 1400)
      s |> setSession x.num (fun y => { y with snapshot := if last then none else some (b.1, s.now) })
        |> conclude p m 0 last m.offset.toNat part
    else concludeStatus p m 0x0A s
  | none => concludeStatus p m 0x0A s

def execKspReadSeg (path : Path) (via : Via) (m : KspMsg) (s : State) : Host.Outcome State Fault Refusal :=
  .next (kspArrive (m.code == 0x12) path via m kspDiscard (inSession path m (readSegReq path m)) s)

def infoReq (p : Path) (m : KspMsg) (x : Option Session) (s : State) : State :=
  let r := s.infoResult x m.index.toNat m.sub.toNat
  conclude p m r.1 false 0 r.2 s

def execKspInfo (path : Path) (via : Via) (m : KspMsg) (s : State) : Host.Outcome State Fault Refusal :=
  .next (kspArrive (m.code == 0x20) path via m
    (fun t => let r := t.infoResult none m.index.toNat m.sub.toNat; wideAnswer path m (kspRespond m 0 r.1 false 0 r.2) t)
    (anySession path m (infoReq path m)) s)

/-! ### Writes (R458, R462 to R466, R477) -/

def writeReq (storeOk : Bool) (p : Path) (m : KspMsg) (x : Session) (s : State) : State := writeObj storeOk p m x m.payload s

def execKspWrite (path : Path) (via : Via) (m : KspMsg) (storeOk : Bool) (s : State) : Host.Outcome State Fault Refusal :=
  .next (kspArrive (m.code == 0x11) path via m kspDiscard (inSession path m (writeReq storeOk path m)) s)

/-- The write of 0x01 to 0x1011. -/
def execRestoreDefaults (path : Path) (via : Via) (m : KspMsg) (storeOk : Bool) (s : State) : Host.Outcome State Fault Refusal :=
  .next (kspArrive (m.code == 0x11 && m.index == 0x1011 && m.sub == 0) path via m kspDiscard (inSession path m (writeReq storeOk path m)) s)

/-- A segment out of order, or of another object than the transfer's. -/
def segBad (m : KspMsg) (x : Session) : Bool :=
  match x.seg with
  | some g => g.index != m.index || g.sub != m.sub || m.offset.toNat != g.data.length
  | none => m.offset != 0

def endSeg (x : Session) (s : State) : State := setSession x.num (fun y => { y with seg := none, snapshot := none }) s

/-- WRITE_SEG: the segments gather in the session, and act with the last. -/
def writeSegReq (storeOk : Bool) (p : Path) (m : KspMsg) (x : Session) (s : State) : State :=
  let i := m.index.toNat
  let j := m.sub.toNat
  let data := ((x.seg.map (·.data)).getD []) ++ m.payload
  let max := ((s.objAt i j).map (·.len)).getD 0
  let g := s.writeGate x i j none
  if segBad m x then concludeStatus p m 0x0B (endSeg x s)
  else if g ≠ 0 then concludeStatus p m g (endSeg x s)
  else if max < data.length then concludeStatus p m 0x13 (endSeg x s)
  else if kspLast m then writeObj storeOk p m x data (endSeg x s)
  else concludeStatus p m 0 (setSession x.num (fun y => { y with snapshot := none, seg := some ⟨m.index, m.sub, data, s.now⟩ }) s)

def execKspWriteSeg (path : Path) (via : Via) (m : KspMsg) (storeOk : Bool) (s : State) : Host.Outcome State Fault Refusal :=
  .next (kspArrive (m.code == 0x13) path via m kspDiscard (inSession path m (writeSegReq storeOk path m)) s)

def abortReq (p : Path) (m : KspMsg) (x : Session) (s : State) : State := concludeStatus p m 0 (endSeg x s)

def execKspAbort (path : Path) (via : Via) (m : KspMsg) (s : State) : Host.Outcome State Fault Refusal :=
  .next (kspArrive (m.code == 0x14) path via m kspDiscard (inSession path m (abortReq path m)) s)

/-- A CODE not in Table 15.5, with or without a session. -/
def execKspBadCode (path : Path) (via : Via) (m : KspMsg) (s : State) : Host.Outcome State Fault Refusal :=
  .next (kspArrive (!kspCodes.contains m.code.toNat) path via m kspDiscard (anySession path m fun _ => concludeStatus path m 0x11) s)

/-! ### Times (R474, R476, R477, R480, R483, R484, R486) -/

/-- The session of a number, on whatever path. -/
def State.sessionOf (s : State) (n : Nat) : Option Session := s.ksp.sessions.find? fun x => x.num.toNat == n

/-- At an instant of a session's own, `f` acts on it; without such a session nothing does. -/
def atSession (n : Nat) (due : Session → Option Nat) (f : Session → State → State) (s : State) : State :=
  match s.sessionOf n with
  | some x =>
    (match due x with
      | some t => when s.serverOn (fun s => f x (advanceTo t s)) s
      | none => s)
  | none => s

def execSessionIdleTimeout (session : Nat) (s : State) : Host.Outcome State Fault Refusal :=
  .next (atSession session (fun x => some (x.lastAt + s.kspCfg 0x1200 2 * 1000000000)) (fun x => endSessions fun y => y.num == x.num) s)

def execAuthTimeout (session : Nat) (s : State) : Host.Outcome State Fault Refusal :=
  .next (atSession session (fun x => if x.state == .awaitAuth then some (x.openAt + 30000000000) else none)
    (fun x => endSessions fun y => y.num == x.num) s)

def execReadSnapshotTimeout (session : Nat) (s : State) : Host.Outcome State Fault Refusal :=
  .next (atSession session (fun x => x.snapshot.map fun b => b.2 + 10000000000)
    (fun x => setSession x.num fun y => { y with snapshot := none }) s)

def execSegWriteTimeout (session : Nat) (s : State) : Host.Outcome State Fault Refusal :=
  .next (atSession session (fun x => x.seg.map fun g => g.at_ + 10000000000)
    (fun x => setSession x.num fun y => { y with seg := none, segTimedOut := true }) s)

def execLockoutEnd (path : Path) (s : State) : Host.Outcome State Fault Refusal :=
  .next (match (s.lockout path).till with
    | some t => setKsp (fun k => { k with lockouts := k.lockouts.filter fun l => !l.path.same path }) (advanceTo t s)
    | none => s)

/-- Five seconds after the request: the answer is PENDING unless the register path is complete. -/
def pendingEnds (x : Session) (s : State) : State :=
  let s1 := kspService s
  match (s1.sessionOf x.num.toNat).bind (·.waiting) with
  | some w => concludeStatus x.path w.1 0x15 s1
  | none => s1

def execPendingTimeout (session : Nat) (s : State) : Host.Outcome State Fault Refusal :=
  .next (atSession session (fun x => x.waiting.map fun w => w.2 + 5000000000) pendingEnds s)

/-- The broadcast answer that waits longest leaves. -/
def execBroadcastReplyDelay (s : State) : Host.Outcome State Fault Refusal :=
  .next (match s.ksp.broadcast with
    | (t, p, m) :: rest => when s.serverOn (fun s => transmit p m (advanceTo t (setKsp (fun k => { k with broadcast := rest }) s))) s
    | [] => s)

/-! ### ARP and ICMP (R487) -/

/-- A maintenance port answers: in recovery X11 alone. -/
def State.portOn (s : State) (p : Nat) : Bool := s.serverOn && (p == 0 || (p == 1 && !s.sys.recovery))

/-- A request for the port's own address is answered with it. -/
def execArpRequest (port : Nat) (sender target : Word) (s : State) : Host.Outcome State Fault Refusal :=
  .next (when (s.portOn port && target.toNat == s.portAddr port) (send (.arp port target sender)) s)

def execIcmpEcho (port : Nat) (source target : Word) (data : List Byte) (s : State) : Host.Outcome State Fault Refusal :=
  .next (when (s.portOn port && target.toNat == s.portAddr port && s.reachable port source) (send (.echo port source data)) s)

/-! ### Attestation (R534) -/

/-- A well-formed request of a session for an object, with LAST set. -/
def sessionMsg (code : Byte) (session trans : Half) (i sub : Nat) (payload : List Byte) : KspMsg :=
  let m : KspMsg :=
    { verFlags := 0x14, code := code, session := session, trans := trans, index := BitVec.ofNat 16 i, sub := BitVec.ofNat 8 sub, status := 0,
      length := payload.length, offset := 0, payload := payload, check := 0 }
  { m with check := kspCheck m }

/-- Such a request arrives on its session's path. -/
def onPath (session : Half) (f : Path → State → State) (s : State) : State :=
  match s.sessionOf session.toNat with
  | some x => f x.path s
  | none => s

def execAttestationNonce (session txn : Half) (nonce : List Byte) (s : State) : Host.Outcome State Fault Refusal :=
  let m := sessionMsg 0x11 session txn 0xB110 1 nonce
  .next (onPath session (fun p => kspArrive true p .plain m kspDiscard (inSession p m (writeReq true p m))) s)

/-- The report as the session's READ of 0xB110.02 returns it. -/
def execAttestationReport (session txn : Half) (s : State) : Host.Outcome State Fault Refusal :=
  let m := sessionMsg 0x10 session txn 0xB110 2 []
  .next (onPath session (fun p => kspArrive true p .plain m kspDiscard (inSession p m fun x => readReq p m (some x))) s)

/-! ### Idling -/

/-- A slice period of 4 ns passes with nothing commanded: the wires take what was sent, the inbound write buffers of the links drain, and
writes whose register path is complete are answered. -/
def idle (s : State) : State :=
  let s1 := { s with out := [], brg := { s.brg with link0 := { s.brg.link0 with inbound := 0 }, link1 := { s.brg.link1 with inbound := 0 } } }
  when s1.serverOn kspService (advance 4 s1)

end Sys2Proof.Machine
end

