-- ==== Sys2Proof/Machine/Reception.lean ====
section
/-! DEFINITION. Frames received from the network (spec/07, spec/08): checks, sinks, star ports and their windows. -/
namespace Sys2Proof.Machine

/-! ### Sinks (R239, R241) -/

/-- The state a command leads to. -/
def resultOf (o : Host.Outcome State Fault Refusal) (s : State) : State :=
  match o with
  | .next t => t
  | _ => s

/-- The payload written to the object that OBJ_INDEX names: 0x7000 while ODO is in REMOTE, 0x7010 as a fix; none for any other (R239). -/
def objectSink (f : Frame) (s : State) : Option State :=
  if f.objIndex == 0x7000 && s.odoSource == 2 then some (resultOf (execRemoteRecord f.source f.payload s) s)
  else if f.objIndex == 0x7010 then some (fixFromWire f.payload s)
  else none

/-- Status and data of an RX entry's occurrence. -/
def rxStatus (i : Nat) (e : Slot) (f : Frame) (s : State) : State :=
  let nul := f.kind == 2
  let r := s.rxOf i
  setRx { r with state := if nul then 2 else 1, reason := if nul then f.info else 0, count := (r.count + 1) % 65536,
                 info := f.info, got := true, data := if nul || e.map != 0 then r.data else f.payload } s
  |> when e.irq (raiseIrq Irq.FTN_RX)

/-- The time word of a receive stamp: TB0 compact; 0 where the link carries no stamps (DESIGN CHOICE, log 108). -/
def stampWord (x : Option Int) : Word := (x.map fun t => BitVec.ofInt 32 (t / 256)).getD 0

/-- An accepted frame of RX entry `i` reaches its sink (R239): status, image bytes, receive buffer or object. A frame for an object that takes none
is discarded, and leaves the status as it is. -/
def deliver (i : Nat) (e : Slot) (chanB : Bool) (f : Frame) (x : Option Int) (s : State) : State :=
  let nul := f.kind == 2
  if e.map == 1 then
    let s1 := rxStatus i e f s
    let b := s1.rxBuf e.buf
    setRxBuf e.buf { b with frame := if nul then b.frame else some f, time := if nul then b.time else stampWord x,
                            chanB := if nul then b.chanB else chanB, state := if nul then 2 else 1,
                            reason := if nul then f.info else 0, count := (b.count + 1) % 65536 } s1
  else if e.map == 2 && !nul then
    match objectSink f s with
    | some t => rxStatus i e f t
    | none => bump Off.FTN_RX_BAD_HDR s
  else rxStatus i e f s

/-- Receive buffer of the arbitrating ring that takes a frame: the next in turn without an unread frame, else the one whose frame is oldest
(R241). -/
def State.arbSlot (s : State) : Nat × Bool :=
  match ((List.range 64).map fun k => (s.ftn.arbNext + k) % 64).find? fun k => !(s.rxBuf (192 + k)).unread with
  | some k => (k, false)
  | none => ((List.range 64).foldl (fun a k => if (s.rxBuf (192 + k)).order < (s.rxBuf (192 + a)).order then k else a) 0, true)

/-- A DATA frame of the arbitrating window enters the receive ring (R241). -/
def deliverArb (chanB : Bool) (f : Frame) (x : Option Int) (s : State) : State :=
  let wasEmpty := (List.range 64).all fun k => !(s.rxBuf (192 + k)).unread
  let (k, full) := s.arbSlot
  let b := s.rxBuf (192 + k)
  let s1 := setRxBuf (192 + k) { frame := some f, time := stampWord x, chanB := chanB, state := 1, reason := 0, lost := full,
                                 count := (b.count + 1) % 65536, unread := true, order := s.ftn.arbNo } s
  { s1 with ftn := { s1.ftn with arbNext := (k + 1) % 64, arbNo := s1.ftn.arbNo + 1 } }
  |> when full (fun s => raiseIrq Irq.FTN_ARB_DROP (bump Off.FTN_ARB_DROP s))
  |> when wasEmpty (raiseIrq Irq.FTN_ARB_RX)

/-- A KSP message as an FTN frame carries it (Table 15.4): its payload is what stands between header and CHECK; none when it is too short for
both. -/
def kspOf (bs : List Byte) : Option KspMsg :=
  let n := bs.length
  if n < 20 then none
  else some
    { verFlags := bs.headD 0, code := (bs.drop 1).headD 0, session := BitVec.ofNat 16 (beAt bs 2 2), trans := BitVec.ofNat 16 (beAt bs 4 2),
      index := BitVec.ofNat 16 (beAt bs 6 2), sub := (bs.drop 8).headD 0, status := (bs.drop 9).headD 0, length := beAt bs 10 2,
      offset := BitVec.ofNat 32 (beAt bs 12 4), payload := slice bs 16 (n - 20), check := BitVec.ofNat 32 (beAt bs (n - 4) 4) }

/-- A SERVICE frame with INFO 0x01 goes to the KSP server (R241), by the code of its message. -/
def serviceFrame (f : Frame) (s : State) : State :=
  match kspOf f.payload with
  | none => when (s.kspServes ⟨1, BitVec.ofNat 16 f.source, 0, 0⟩) kspDiscard s
  | some m =>
    let p : Path := ⟨1, BitVec.ofNat 16 f.source, 0, 0⟩
    let b : Via := { Via.plain with bcast := f.dest == 65535 }
    resultOf (match m.code.toNat with
      | 0x01 => execKspOpen p b m s
      | 0x02 => execKspAuth p b m s
      | 0x03 => execKspClose p b m s
      | 0x10 => execKspRead p b m s
      | 0x11 => execKspWrite p b m true s
      | 0x12 => execKspReadSeg p b m s
      | 0x13 => execKspWriteSeg p b m true s
      | 0x14 => execKspAbort p b m s
      | 0x20 => execKspInfo p b m s
      | _ => execKspBadCode p b m s) s

/-- A CLAIM frame goes to the CHK block (R241, Table 7.9). -/
def claimFrame (f : Frame) (s : State) : State :=
  if f.plen == 44 then
    match beAt f.payload 20 1 with
    | 1 => resultOf (execClaimAnnounce f.source (BitVec.ofNat 32 (beAt f.payload 0 4)) (BitVec.ofNat 128 (beAt f.payload 4 16)) s) s
    | 2 => resultOf (execClaimReject f.dest (BitVec.ofNat 32 (beAt f.payload 24 4)) (BitVec.ofNat 128 (beAt f.payload 28 16)) s) s
    | _ => s
  else s

/-- What is addressed to this node in the arbitrating window (R241). -/
def arbFrame (chanB : Bool) (f : Frame) (x : Option Int) (s : State) : State :=
  if !(f.dest == s.ownAddr || f.dest == 65535) then s
  else match f.kind with
    | 1 => deliverArb chanB f x s
    | 5 => when (f.info == 1) (serviceFrame f) s
    | 6 => claimFrame f s
    | _ => s

/-- The sink of an accepted frame. -/
def sink (chanB : Bool) (f : Frame) (x : Option Int) (s : State) : State :=
  match frameWindow f with
  | 0 =>
    match s.ftn.active.entry (frameEntry f) with
    | some e => if e.rx && (f.kind == 1 || f.kind == 2 || f.kind == 3) then deliver (frameEntry f) e chanB f x s else s
    | none => s
  | 1 => arbFrame chanB f x s
  | _ => s

/-- What an accepted frame does beyond the sync rules: counters, star ports, sink, line time. -/
def acceptFrame (chanB : Bool) (edge : Option Nat) (stars : Bool) (gap : Nat) (f : Frame) (x : Option Int) (s : State) : State :=
  let firstLoop := f.looped && !s.ftn.loopedA && !s.ftn.loopedB && !s.ftn.loopedPrevA && !s.ftn.loopedPrevB
  let s1 := keepSeq chanB edge f s
    |> bump Off.FTN_RX_OK |> bumpBy Off.FTN_SEQ_GAP gap |> when (f.kind == 2) (bump Off.FTN_RX_NULL)
    |> when f.looped (bump Off.FTN_LOOPED_RX) |> when firstLoop (raiseIrq Irq.FTN_LOOPED_SEEN)
  { s1 with ftn := { s1.ftn with loopedA := s1.ftn.loopedA || (f.looped && !chanB),
                                 loopedB := s1.ftn.loopedB || (f.looped && chanB) } }
  |> when (stars && s.ftn.su == .integrated) (sendStars (s.starMask f) f)
  |> sink chanB f x |> lineTime f

/-- Hub clock edge of an ingress stamp: the hub fabric runs at 500 MHz (Table 1.5). -/
def hubEdge (x : Int) : Nat := (x / 512).toNat

/-- The copy of channel A that passes at the same hub clock edge as the accepted copy of channel B is the one taken (R238): where the buffer shows
the channel and the stamp, it shows those of A. -/
def retake (f : Frame) (x : Option Int) (s : State) : State :=
  let same := (s.ftn.last.find? fun y => y.source == f.source && y.slot == f.slot).any fun y =>
    y.chanB && y.edge.isSome && y.edge == x.map hubEdge
  if !same then s
  else match frameWindow f with
    | 0 =>
      match s.ftn.active.entry (frameEntry f) with
      | some e => when (e.rx && e.map == 1 && f.kind == 1) (fun s => setRxBuf e.buf { s.rxBuf e.buf with chanB := false, time := stampWord x, frame := some f } s) s
      | none => s
    | _ =>
      let shown (b : RxBuf) : Bool := b.frame.any fun g => g.source == f.source && g.slot == f.slot && g.seq == f.seq
      let ofA (b : RxBuf) : RxBuf := { b with chanB := false, time := stampWord x, frame := some f }
      { s with ftn := { s.ftn with rxBufs := s.ftn.rxBufs.map fun b => (b.1, bif shown b.2 then ofA b.2 else b.2) } }

/-- Checks and effect of a frame of another node (R236 to R241); `x` the ingress stamp, and `t` the same where the port's time measurements count. -/
def receive (chanB : Bool) (f : Frame) (x t : Option Int) (s : State) : State :=
  let sync := f.kind == 3 || f.kind == 4
  match s.verdict f with
  | .fail c => checkFailed c s
  | .old => s
  | .second same =>
    s |> when (!same) (fun s => raiseIrq Irq.FTN_CH_MISMATCH (bump Off.FTN_CH_MISMATCH s))
      |> when (!chanB) (retake f x)
      |> when (same && sync) (syncCopy chanB false f t)
  | .accept gap => s |> acceptFrame chanB (x.map hubEdge) true gap f x |> when sync (syncCopy chanB true f t)

/-- A link-local frame ends at the port that receives it, checked (R261). -/
def localFrame (f : Frame) (s : State) : State :=
  match s.verdict f with
  | .fail c => checkFailed c s
  | _ => s

/-- What a ring node does with a trunk frame of its direction (R231, R232, R236): own frames are removed when they come unlooped, frames at the HOP
limit discarded and counted, the rest forwarded, and received unless they are of this ring position. -/
def ringFrame (port : Nat) (chanB : Bool) (f : Frame) (x : Option Int) (s : State) : State :=
  let own := f.source / 256 == s.ownAddr / 256
  if own && !f.looped then s
  else if 2 * s.matrix.n ≤ f.hop + 1 then bump Off.FTN_HOP_DROP s
  else
    let t := if (s.port port).measures then x else none
    s |> forward port f |> when (!own) (receive chanB f x t)

/-- A frame on trunk port 0 to 3 with its MAC boundary stamp, 1/256 ns of TB0. Main-direction traffic arrives on port 1 (A) and 2 (B), looped
traffic on 0 and 3. -/
def execFrameReceive (port : Nat) (f : Frame) (stamp : Int) (s : State) : Host.Outcome State Fault Refusal :=
  .next (
    let chanB := port == 2 || port == 3
    let counter := port == 0 || port == 3
    if !(s.up && decide (port < 4) && s.portLive port) then s
    else if linkLocal f then localFrame f s
    else if s.chanUp chanB && f.looped == counter then ringFrame port chanB f (s.ingress port stamp) s
    else s)

/-! ### Star ports and their windows (R233, R271, R272) -/

/-- The star port passes frames beside those of its service window: the guardian engine does not restart (R526), the node is integrated, the port
is neither blocked nor disabled. -/
def State.starOpen (s : State) (p : Nat) : Bool :=
  let g := s.ftn.guards.getD p Reset.guard
  s.ftn.su == .integrated && !g.blocked && !g.disabled && decide (s.sys.guardianTill ≤ s.now)

/-- An address in the star domain of this ring node on star port `p` (R209, R271). -/
def State.onStar (s : State) (a p : Nat) : Bool := a / 256 == s.ownAddr / 256 && a != s.ownAddr && starOf a == p

/-- Entries with an exclusive window on star port `p` that occur in the present basic cycle (R271). -/
def State.starWindows (s : State) (p : Nat) : List (Nat × Slot) :=
  s.ftn.active.entries.filter fun x => x.2.kind == 0 && s.onStar x.2.owner p && x.2.occurs s.bIdx

/-- Where a frame's start falls among the windows of Table 8.6: the kind of its violation by Table 8.7, none when it is admitted. `at_` is the
instant in the basic cycle, 1/256 ns; a frame lasts from its first bit to its FCS. A second frame in one exclusive window finds it closed
(DEDUCED, log 112). -/
def State.starViolation (s : State) (p : Nat) (f : Frame) (at_ : Int) : Option Nat :=
  let mg : Int := fld (s.reg Off.FTN_GUARD_CFG) 0 10
  let g := s.ftn.guards.getD p Reset.guard
  let ns (n : Int) : Int := n * 256
  let ends := at_ + ns (8 * (max (f.plen + 46) 64 : Nat))
  let ws := s.starWindows p
  let arbEnd : Int := ns ((s.matrix.t - s.matrix.nit : Nat) : Int)
  match ws.find? fun x => decide (ns (x.2.start - mg) ≤ at_ ∧ at_ ≤ ns (x.2.start + mg)) with
  | some (i, e) =>
    if !s.starOpen p || g.passed.contains i then some 3
    else if f.source != e.owner || f.slot != i then some 4
    else if ns ((e.start + e.len : Nat) : Int) < ends then some 5 else none
  | none =>
    if decide (ns ((s.matrix.arbAt : Int) - mg) ≤ at_ ∧ at_ < arbEnd) then
      if !s.starOpen p then some 3
      else if !s.onStar f.source p || frameWindow f != 1 then some 4
      else if decide (fld (s.reg Off.FTN_GUARD_CFG) 20 4 ≤ g.arbs) then some 6
      else if arbEnd < ends then some 5 else none
    else if decide (arbEnd ≤ at_) then some 7
    else if ws.any fun x => decide (ns (x.2.start - mg - (x.2.len : Int)) ≤ at_ ∧ at_ < ns (x.2.start - mg)) then some 1
    else if ws.any fun x => decide (ns (x.2.start + mg) < at_ ∧ at_ < ns ((x.2.start + x.2.len : Nat) : Int)) then some 2
    else some 3

/-- A frame that the guardian has passed uses its window. -/
def usedWindow (p : Nat) (f : Frame) (s : State) : State :=
  let arb := frameWindow f == 1
  { s with ftn := { s.ftn with guards := modAt s.ftn.guards p fun g =>
      { g with arbs := g.arbs + b2n arb, passed := bif arb then g.passed else f.slot :: g.passed } } }

/-- A star frame that the guardian passed (R233, R235): an exclusive one goes onto both channels at S of its entry, an arbitrating one waits in the
queue, from where it also reaches star ports. -/
def starFrame (f : Frame) (x : Option Int) (s : State) : State :=
  match s.verdict f with
  | .fail c => checkFailed c s
  | .old => s
  | .second same => when (!same) (fun s => raiseIrq Irq.FTN_CH_MISMATCH (bump Off.FTN_CH_MISMATCH s)) s
  | .accept gap =>
    if frameWindow f = 1 then s |> queueArb f |> acceptFrame false none false gap f x
    else
      let at_ := s.ftn.cycle * s.matrix.t + ((s.ftn.active.entry f.slot).map Slot.ringStart).getD 0
      toTb0 at_ s |> sendBoth f |> acceptFrame false none true gap f x

/-- A frame on star port `port` of the node with its MAC boundary stamp, 1/256 ns of TB0. On a link without stamps the guardian measures with the
boundary stamp alone (DESIGN CHOICE, log 108). -/
def execStarFrameReceive (port : Nat) (f : Frame) (stamp : Int) (s : State) : Host.Outcome State Fault Refusal :=
  .next (
    let x := s.ingress (4 + port) stamp
    if !(s.up && decide (port < 16) && s.portLive (4 + port) && !s.sys.guardianFault) then s
    else match s.starViolation port f (s.inCycle (x.getD stamp)) with
      | some k => guardViolate port k s
      | none => starFrame f x (usedWindow port f s))

end Sys2Proof.Machine
end

