-- ==== Sys2Proof/Machine/Links.lean ====
section
/-! DEFINITION. Commands of the Culvert that end outstanding writes (spec/14): the accesses that waited in the Sluice for them then resolve
(R443, R446). -/
namespace Sys2Proof.Machine

/-- After an outstanding write has ended: an export whose write failed stops (R505); accesses that waited for room, and fences, resolve. -/
def afterWrites (s : State) : State := when s.up (fun s => resolveAll (exportFailed s)) s

def execWrAck (l : Nat) (p : Packet) (s : State) : Host.Outcome State Fault Refusal :=
  .next (afterWrites (onPacket l p (when (p.type == 6) (writeAck l p.tag)) s))

def execWrError (l : Nat) (p : Packet) (s : State) : Host.Outcome State Fault Refusal :=
  .next (afterWrites (onPacket l p (when (p.type == 7) (writeError l p.tag p.code)) s))

def execAckTimeout (l tag : Nat) (s : State) : Host.Outcome State Fault Refusal := .next (when s.up (fun s => afterWrites (ackExpiry l tag s)) s)

def execLinkResend (l seq : Nat) (s : State) : Host.Outcome State Fault Refusal := .next (when s.up (fun s => afterWrites (linkResend l seq s)) s)

/-- State that a link takes: OFF where BRG_LINK_CFG, as read at start-up, does not enable it (R437), and DOWN in place of UP where training has not
reached 8 GT/s (R577). -/
def State.linkTakes (s : State) (l state : Nat) (full : Bool) : LinkState :=
  if !s.linkOn l then .off else if linkCode state == .up && !full then .down else linkCode state

/-- A backplane link changes state. -/
def execLinkStateChange (l state : Nat) (full : Bool) (s : State) : Host.Outcome State Fault Refusal :=
  .next (when (s.up && decide (l < 2) && decide (state < 4)) (fun s => afterWrites (linkState l (s.linkTakes l state full) s)) s)

/-- Link 0 enters STREAM: a partner is present, and is in STANDBY (R440). -/
def execStreamEntry (s : State) : Host.Outcome State Fault Refusal :=
  .next (when (s.up && s.linkOn 0 && s.chk.presentN) (fun s => afterWrites (linkState 0 .stream s)) s)

end Sys2Proof.Machine
end

