-- ==== Sys2Proof/Machine/Voter.lean ====
section
/-! DEFINITION. Commands of the Sluice (spec/03): voted accesses, output images, digests, cycle-end writes, and live rejoin; and the events that take
a lane from the vote, with what the lanes left then decide. -/
namespace Sys2Proof.Machine

/-! ### Voted accesses (R68 to R87) -/

def execVotedWrite (lane : Lane) (stream : Nat) (seq : Word) (addr : Nat) (v : Word) (time : Nat) (s : State) : Host.Outcome State Fault Refusal :=
  .next (settled s (arrive stream seq ⟨lane, time, addr, true, v⟩ s))

def execVotedRead (lane : Lane) (stream : Nat) (seq : Word) (addr : Nat) (time : Nat) (s : State) : Host.Outcome State Fault Refusal :=
  .next (settled s (arrive stream seq ⟨lane, time, addr, false, 0⟩ s))

/-- The access of a lane whose majority has resolved (R72, R82). -/
def execLateAccess (lane : Lane) (stream : Nat) (seq : Word) (addr : Nat) (write : Bool) (v : Word) (time : Nat) (s : State) :
    Host.Outcome State Fault Refusal :=
  .next (
    if s.vot.kept.any fun k => k.stream == stream && k.seq == seq then
      settled s (arrive stream seq ⟨lane, time, addr, write, if write then v else 0⟩ s)
    else s)

/-- LATE_LIMIT passes for an access, or with streams 64 to 66 for a delivery of the cycle (R78, R96, R100, R291). -/
def execLateLimitExpiry (stream : Nat) (seq : Word) (s : State) : Host.Outcome State Fault Refusal :=
  .next (
    if !s.up then s
    else if 64 ≤ stream then deliveryExpiry stream s
    else if 48 ≤ stream then settled s (tbLimit (stream - 48) s)
    else
      match s.vot.kept.find? (fun k => k.stream == stream && k.seq == seq) with
      | some k => settled s (expireAll (advanceTo (k.at_ + s.lateLimit) s))
      | none => match (s.vot.open_.find? fun e => e.stream == stream && e.seq == seq).bind s.limitFrom with
        | some t => settled s (expireAll (advanceTo (t + s.lateLimit) s))
        | none => s)

/-- A fence completes once its stream has nothing unresolved (R87). -/
def execVotFenceRead (lane : Lane) (stream : Nat) (s : State) : Host.Outcome State Fault Refusal :=
  .next (when (s.up && s.inVote lane && decide (stream < 64) && !s.vot.open_.any (fun e => e.stream == stream)) (answer lane (stream / 8) 0 false) s)

/-- A transfer passes the check at the hub: its CRC-32C holds, and it is the next of its direction (R22). -/
def State.portPasses (s : State) (l : Lane) (t : HubTransfer) : Bool := t.crc == crc32c t.bytes && t.seq == (s.vot.lanes.get l).portSeq

/-- A lane's hub port fails four attempts of a transfer (R23): late for that access, and at 16 failures within 1 s excluded (Table 3.3). With one
attempt that passes nothing has failed. -/
def execHubPortRetryExhausted (lane : Lane) (_stream : Nat) (_seq : Word) (attempts : List HubTransfer) (s : State) : Host.Outcome State Fault Refusal :=
  .next (
    if s.up && s.inVote lane && decide (attempts.length = 4) && !attempts.any (s.portPasses lane) then
      let ts := s.now :: ((s.vot.lanes.get lane).portFails.filter fun t => decide (s.now < t + 1000000000))
      s.setLane lane (fun v => { v with portFails := ts }) |> bump (Off.TLM_HUBPORT_ERR + 4 * lane.idx) |> skewEvent lane
      |> when (decide (16 ≤ ts.length)) (excludeLane lane .hubPort) |> settled s
    else s)

/-! ### Input paths (R92) -/

def execPathMask (lane : Lane) (chan : Nat) (s : State) : Host.Outcome State Fault Refusal :=
  .next (when (s.up && s.inVote lane && decide (chan < 50) && !s.pathMasked lane chan) (maskPath lane chan) s)

/-! ### Deliveries of a cycle (R96 to R101, R291) -/

/-- A lane hands over its output image: its logic ends, and the image is compared (R96 to R99, Table 9.1). -/
def execOutputHandover (lane : Lane) (time : Nat) (s0 : State) : Host.Outcome State Fault Refusal :=
  .next (
    if s0.inCyclePhase lane 2 then
      let s := advanceTo time s0
      let us := (s.now - (s.laneCyc lane).startAt) / 1000
      let img := s.outImage lane
      let s1 := setCyc lane (fun c => { c with phase := 4, execLast := us, execMax := max c.execMax us }) s
      let s2 := s1.setLane lane fun v => { v with handed := some (s.now, img) }
      settled s0 (match s2.vot.voted with
        | some v =>
          let st := s2.reg Off.VOT_OUT_STATUS
          judgeImage v.2 v.1 lane (outStatus (bit st 19) (fld st 20 12 + (oddWords v.2 img).length) s2)
        | none => voteImages s2)
    else s0)

/-- A lane writes its digest in its digest phase; the second that agrees commits it (R100). `writes` are the runs of program data, by first offset,
that its logic has written in this cycle; `flip` holds the bits of the digest that a fault of the lane inverts, 0 without one (R311). -/
def execDigestWrite (lane : Lane) (writes : List (Nat × List Byte)) (flip : DWord) (time : Nat) (s0 : State) : Host.Outcome State Fault Refusal :=
  .next (when (s0.inCyclePhase lane 4) (fun s0 =>
    let bs := writes.flatMap fun w => w.2.zipIdx.map fun b => (w.1 + b.2, b.1)
    let s := setCyc lane (putData bs) (advanceTo time s0)
    settled s0 (digestArrive lane (s.digestOf lane (bs.foldl (fun w b => insNat w (b.1 / 4096)) []) ^^^ flip) s)) s0)

/-- A lane compares its digest with its peers' (R101). -/
def execDigestPeerExchange (lane : Lane) (peer1 peer2 : DWord) (s : State) : Host.Outcome State Fault Refusal :=
  .next (
    if s.up && s.inVote lane && s.lanesIn.length == 3 then
      match (s.vot.lanes.get lane).digest with
      | some d =>
        let run := if peer1 == peer2 && peer1 != d.2 then (s.vot.lanes.get lane).peerRun + 1 else 0
        let s1 := s.setLane lane fun v => { v with peerRun := run }
        if run != 0 && decide (max 1 (fld (s.reg Off.VOT_CFG) 0 2) ≤ run) then settled s (excludeLane lane .self s1) else s1
      | none => s
    else s)

/-- A lane's cycle-end write, the last act of its checkpoint phase, with the pages of host software's checkpoint regions; the second that agrees ends the cycle
with its cut (R291, R312, R377). -/
def execCycleEndWrite (lane : Lane) (v : Word) (pages : List (Nat × List Byte)) (time : Nat) (s : State) : Host.Outcome State Fault Refusal :=
  .next (when (s.inCyclePhase lane 5) (fun s => settled s (endArrive lane v pages (advanceTo time s))) s)

/-! ### Live rejoin (R107 to R112) -/

def execRejoinRequest (v : Word) (s : State) : Host.Outcome State Fault Refusal := .next (when s.up (rejoinReqOp v) s)

/-- The lane is in a phase of its attempt. -/
def State.inPhase (s : State) (l : Lane) (p : Phase) : Bool := s.mayRejoin l && (s.vot.lanes.get l).phase == p

/-- A phase has done its work: beyond its bound the attempt ends all the same (R107). -/
def inBound (l : Lane) (f : State → State) (s : State) : State := if s.overBound l then endAttempt l .rejoinFail false s else f s

/-- The reset hold ends, and an attempt begins where AUTO or a request asks for one. -/
def execRejoinHoldEnd (lane : Lane) (s : State) : Host.Outcome State Fault Refusal :=
  .next (when (s.inPhase lane .reset && s.rejoins lane)
    (fun s => toPhase lane .boot (advanceTo ((s.vot.lanes.get lane).phaseAt + (s.vot.lanes.get lane).holdNs) s)) s)

/-- LRT and CPF are copied and checked; the keys are installed (R531). -/
def execRejoinBootDone (lane : Lane) (s : State) : Host.Outcome State Fault Refusal :=
  .next (when (s.inPhase lane .boot) (inBound lane fun s => installKeys (toPhase lane .selftest s) lane) s)

def execRejoinSelftestDone (lane : Lane) (identityOk : Bool) (s : State) : Host.Outcome State Fault Refusal :=
  .next (when (s.inPhase lane .selftest) (inBound lane (if identityOk then toPhase lane .precopy else endAttempt lane .image true)) s)

/-- A PRECOPY pass ends with a number of dirty pages (R108). -/
def execPrecopyPassEnd (lane : Lane) (dirty : Nat) (s : State) : Host.Outcome State Fault Refusal :=
  .next (
    let v := s.vot.lanes.get lane
    if s.inPhase lane .precopy && !v.ready then
      let done := decide (dirty ≤ v.dirtyLimit)
      let s1 := s.setLane lane fun v => { v with passes := v.passes + 1, dirty := dirty, ready := done }
      if !done && decide (v.maxPasses ≤ v.passes + 1) then endAttempt lane .rejoinFail false s1 else s1
    else s)

def execStopcopyEnd (lane : Lane) (s : State) : Host.Outcome State Fault Refusal :=
  .next (when (s.inPhase lane .stopcopy) (inBound lane fun s => s.setLane lane fun v => { v with ready := true, dirty := 0 }) s)

/-- A phase with a bound in time reaches it without its end (Table 3.4). -/
def execRejoinPhaseTimeout (lane : Lane) (s : State) : Host.Outcome State Fault Refusal :=
  .next (
    let v := s.vot.lanes.get lane
    match v.bound with
    | some b => when (s.mayRejoin lane && !v.ready) (fun s => endAttempt lane .rejoinFail false (advanceTo (v.phaseAt + b) s)) s
    | none => s)

/-! ### Events that take a lane from the vote -/

/-- A part's clock fails against the slices (R25 to R27). -/
def execClockFault (part : Nat) (s : State) : Host.Outcome State Fault Refusal :=
  .next (settled s (
    match partLane part with
    | some l => when s.up (excludeLane l .clock) s
    | none => if part < 6 then removeSlice (part - 3) s else when (part = 6) hubFail s))

/-- The protection of a lane's or a slice's domain opens on a short circuit. -/
def execDomainProtectionOpen (part : Nat) (s : State) : Host.Outcome State Fault Refusal :=
  .next (settled s (
    match partLane part with
    | some l => when s.hubOn (loseDomain l) s
    | none => when (decide (part < 6)) (removeSlice (part - 3)) s))

/-- A double-bit error (R422). -/
def execEccUncorrectable (lane : Lane) (dram : Bool) (addr : Nat) (info : Word) (s : State) : Host.Outcome State Fault Refusal :=
  .next (settled s (when (s.memOn lane) (uncorrectable lane dram addr info) s))

/-- A qualified tamper event; a lane whose wipe fails leaves the vote (R434, R436). -/
def execTamper (_event : Nat) (s : State) : Host.Outcome State Fault Refusal := .next (settled s (when s.isl.powered tamperOp s))

/-- A lane copy of a time base is off the beacon (R120). -/
def execLaneAlignFault (lane : Lane) (s : State) : Host.Outcome State Fault Refusal :=
  .next (settled s (when (s.up && s.inVote lane) (laneAlignFault lane) s))

end Sys2Proof.Machine
end

