-- ==== Sys2Proof/Machine/Dispatch.lean ====
section
/-! DEFINITION. One arm per command. -/
namespace Sys2Proof.Machine

def exec (i : Instr) (s : State) : Host.Outcome State Fault Refusal :=
  match i with
  | .misalignedAccess lane core off write => Sys2Proof.Machine.execMisalignedAccess lane core off write s
  | .unmappedAccess lane core off write => Sys2Proof.Machine.execUnmappedAccess lane core off write s
  | .readLoLatch lane core off => Sys2Proof.Machine.execReadLoLatch lane core off s
  | .writeHiCommit lane core off v => Sys2Proof.Machine.execWriteHiCommit lane core off v s
  | .shadowedWrite lane off v => Sys2Proof.Machine.execShadowedWrite lane off v s
  | .registerWrite lane core off v => Sys2Proof.Machine.execRegisterWrite lane core off v s
  | .hubPortRetryExhausted lane stream seq attempts => Sys2Proof.Machine.execHubPortRetryExhausted lane stream seq attempts s
  | .clockFault part => Sys2Proof.Machine.execClockFault part s
  | .sliceCounterFault slice => Sys2Proof.Machine.execSliceCounterFault slice s
  | .domainProtectionOpen part => Sys2Proof.Machine.execDomainProtectionOpen part s
  | .supervisorHeartbeatLoss => Sys2Proof.Machine.execSupervisorHeartbeatLoss s
  | .netEngineFault chanB => Sys2Proof.Machine.execNetEngineFault chanB s
  | .guardianFault => Sys2Proof.Machine.execGuardianFault s
  | .dspFault => Sys2Proof.Machine.execDspFault s
  | .dspRestart => Sys2Proof.Machine.execDspRestart s
  | .supplyDip durationUs lowest => Sys2Proof.Machine.execSupplyDip durationUs lowest s
  | .powerValid ga => Sys2Proof.Machine.execPowerValid ga s
  | .powerFail => Sys2Proof.Machine.execPowerFail s
  | .wake source => Sys2Proof.Machine.execWake source s
  | .rtcAlarm => Sys2Proof.Machine.execRtcAlarm s
  | .bootComplete badA badB badC => Sys2Proof.Machine.execBootComplete badA badB badC s
  | .verifyComplete lanesOk odd holdupOk storeOk => Sys2Proof.Machine.execVerifyComplete lanesOk odd holdupOk storeOk s
  | .startWatchdog => Sys2Proof.Machine.execStartWatchdog s
  | .autoRestart => Sys2Proof.Machine.execAutoRestart s
  | .requestDormant key => Sys2Proof.Machine.execRequestDormant key s
  | .requestOperational key => Sys2Proof.Machine.execRequestOperational key s
  | .requestSafeHold key => Sys2Proof.Machine.execRequestSafeHold key s
  | .moduleResetRequest v => Sys2Proof.Machine.execModuleResetRequest v s
  | .overvoltageSupply => Sys2Proof.Machine.execOvervoltageSupply s
  | .holdupTest pass => Sys2Proof.Machine.execHoldupTest pass s
  | .dormantReached => Sys2Proof.Machine.execDormantReached s
  | .votedWrite lane stream seq addr v time => Sys2Proof.Machine.execVotedWrite lane stream seq addr v time s
  | .votedRead lane stream seq addr time => Sys2Proof.Machine.execVotedRead lane stream seq addr time s
  | .lateAccess lane stream seq addr write v time => Sys2Proof.Machine.execLateAccess lane stream seq addr write v time s
  | .lateLimitExpiry stream seq => Sys2Proof.Machine.execLateLimitExpiry stream seq s
  | .votFenceRead lane stream => Sys2Proof.Machine.execVotFenceRead lane stream s
  | .pathMask lane chan => Sys2Proof.Machine.execPathMask lane chan s
  | .outputHandover lane time => Sys2Proof.Machine.execOutputHandover lane time s
  | .digestWrite lane writes flip time => Sys2Proof.Machine.execDigestWrite lane writes flip time s
  | .digestPeerExchange lane peer1 peer2 => Sys2Proof.Machine.execDigestPeerExchange lane peer1 peer2 s
  | .rejoinRequest v => Sys2Proof.Machine.execRejoinRequest v s
  | .rejoinHoldEnd lane => Sys2Proof.Machine.execRejoinHoldEnd lane s
  | .rejoinBootDone lane => Sys2Proof.Machine.execRejoinBootDone lane s
  | .rejoinSelftestDone lane identityOk => Sys2Proof.Machine.execRejoinSelftestDone lane identityOk s
  | .precopyPassEnd lane dirty => Sys2Proof.Machine.execPrecopyPassEnd lane dirty s
  | .stopcopyEnd lane => Sys2Proof.Machine.execStopcopyEnd lane s
  | .rejoinPhaseTimeout lane => Sys2Proof.Machine.execRejoinPhaseTimeout lane s
  | .servoOffsetInput base e => Sys2Proof.Machine.execServoOffsetInput base e s
  | .tbStepWrite core base hi => Sys2Proof.Machine.execTbStepWrite core base hi s
  | .tbRateWrite core base hi => Sys2Proof.Machine.execTbRateWrite core base hi s
  | .tbOffsetInWrite base v => Sys2Proof.Machine.execTbOffsetInWrite base v s
  | .servoHoldEnter base => Sys2Proof.Machine.execServoHoldEnter base s
  | .servoHoldLimit base => Sys2Proof.Machine.execServoHoldLimit base s
  | .tbTrimWrite valid => Sys2Proof.Machine.execTbTrimWrite valid s
  | .ptpMessage port m stamp => Sys2Proof.Machine.execPtpMessage port m stamp s
  | .laneAlignFault lane => Sys2Proof.Machine.execLaneAlignFault lane s
  | .calRequest v => Sys2Proof.Machine.execCalRequest v s
  | .calibrationEnd port => Sys2Proof.Machine.execCalibrationEnd port s
  | .calDev port dev => Sys2Proof.Machine.execCalDev port dev s
  | .calProbe port no t1 t2 => Sys2Proof.Machine.execCalProbe port no t1 t2 s
  | .calReply port no t1 t2 t3 t4 => Sys2Proof.Machine.execCalReply port no t1 t2 t3 t4 s
  | .calLoopReq port => Sys2Proof.Machine.execCalLoopReq port s
  | .calNoLoop port => Sys2Proof.Machine.execCalNoLoop port s
  | .estimatorUpdate currents => Sys2Proof.Machine.execEstimatorUpdate currents s
  | .sensorStateTimer sensor => Sys2Proof.Machine.execSensorStateTimer sensor s
  | .standstillEntry => Sys2Proof.Machine.execStandstillEntry s
  | .bridgeLimitExpiry => Sys2Proof.Machine.execBridgeLimitExpiry s
  | .fixSubmit pos time accSrc cmd => Sys2Proof.Machine.execFixSubmit pos time accSrc cmd s
  | .fixProcess => Sys2Proof.Machine.execFixProcess s
  | .remoteRecord node payload => Sys2Proof.Machine.execRemoteRecord node payload s
  | .remoteStale => Sys2Proof.Machine.execRemoteStale s
  | .odoPosRead lane core => Sys2Proof.Machine.execOdoPosRead lane core s
  | .supRangeFault chan => Sys2Proof.Machine.execSupRangeFault chan s
  | .supRangeReturn chan => Sys2Proof.Machine.execSupRangeReturn chan s
  | .adcCalRotation fails => Sys2Proof.Machine.execAdcCalRotation fails s
  | .supLockChange lock => Sys2Proof.Machine.execSupLockChange lock s
  | .supHoldExpiry => Sys2Proof.Machine.execSupHoldExpiry s
  | .disturbanceStart cls chan => Sys2Proof.Machine.execDisturbanceStart cls chan s
  | .disturbanceEnd cls chan => Sys2Proof.Machine.execDisturbanceEnd cls chan s
  | .supDistHeadRead core => Sys2Proof.Machine.execSupDistHeadRead core s
  | .pisteMatch entry slices => Sys2Proof.Machine.execPisteMatch entry slices s
  | .pulseEnd entry => Sys2Proof.Machine.execPulseEnd entry s
  | .guardWaitFire entry => Sys2Proof.Machine.execGuardWaitFire entry s
  | .waitLimitExpiry entry => Sys2Proof.Machine.execWaitLimitExpiry entry s
  | .arm v => Sys2Proof.Machine.execArm v s
  | .disarm v => Sys2Proof.Machine.execDisarm v s
  | .armMask v => Sys2Proof.Machine.execArmMask v s
  | .disarmMask v => Sys2Proof.Machine.execDisarmMask v s
  | .disarmAll v => Sys2Proof.Machine.execDisarmAll v s
  | .entryWordWrite entry word v => Sys2Proof.Machine.execEntryWordWrite entry word v s
  | .pstFireHeadRead core => Sys2Proof.Machine.execPstFireHeadRead core s
  | .pisteStoreScrub entry => Sys2Proof.Machine.execPisteStoreScrub entry s
  | .basicCycleStart => Sys2Proof.Machine.execBasicCycleStart s
  | .frameBuild entry bufferError corrupt => Sys2Proof.Machine.execFrameBuild entry bufferError corrupt s
  | .frameReceive port f stamp => Sys2Proof.Machine.execFrameReceive port f stamp s
  | .starFrameReceive port f stamp => Sys2Proof.Machine.execStarFrameReceive port f stamp s
  | .arbOccurrence entry own => Sys2Proof.Machine.execArbOccurrence entry own s
  | .arbAgeExpiry => Sys2Proof.Machine.execArbAgeExpiry s
  | .nitStart => Sys2Proof.Machine.execNitStart s
  | .cyclePoint c => Sys2Proof.Machine.execCyclePoint c s
  | .matrixCommit key => Sys2Proof.Machine.execMatrixCommit key s
  | .matrixDiscard key => Sys2Proof.Machine.execMatrixDiscard key s
  | .slotW4Write v => Sys2Proof.Machine.execSlotW4Write v s
  | .txbPrepare => Sys2Proof.Machine.execTxbPrepare s
  | .txbCancel => Sys2Proof.Machine.execTxbCancel s
  | .txbWrite off v => Sys2Proof.Machine.execTxbWrite off v s
  | .rxbSnapshot v => Sys2Proof.Machine.execRxbSnapshot v s
  | .runSet => Sys2Proof.Machine.execRunSet s
  | .runClear => Sys2Proof.Machine.execRunClear s
  | .leavingEnd => Sys2Proof.Machine.execLeavingEnd s
  | .listenTimeout => Sys2Proof.Machine.execListenTimeout s
  | .backoffEnd => Sys2Proof.Machine.execBackoffEnd s
  | .coldAbort => Sys2Proof.Machine.execColdAbort s
  | .linkCheckSend => Sys2Proof.Machine.execLinkCheckSend s
  | .linkCheckReceive port f stamp => Sys2Proof.Machine.execLinkCheckReceive port f stamp s
  | .guardViolation port kind => Sys2Proof.Machine.execGuardViolation port kind s
  | .guardPortEnable v => Sys2Proof.Machine.execGuardPortEnable v s
  | .linkBroken port cause => Sys2Proof.Machine.execLinkBroken port cause s
  | .healReady port chan => Sys2Proof.Machine.execHealReady port chan s
  | .healRestoreAt port chan cc => Sys2Proof.Machine.execHealRestoreAt port chan cc s
  | .healAck port chan cc => Sys2Proof.Machine.execHealAck port chan cc s
  | .ringHold v => Sys2Proof.Machine.execRingHold v s
  | .ringRelease v => Sys2Proof.Machine.execRingRelease v s
  | .cycleBoundary meets => Sys2Proof.Machine.execCycleBoundary meets s
  | .cycleEndWrite lane v pages time => Sys2Proof.Machine.execCycleEndWrite lane v pages time s
  | .setSendComplete => Sys2Proof.Machine.execSetSendComplete s
  | .ocStage lane hi => Sys2Proof.Machine.execOcStage lane hi s
  | .ocCommit lane key => Sys2Proof.Machine.execOcCommit lane key s
  | .ocDiscard lane key => Sys2Proof.Machine.execOcDiscard lane key s
  | .forceStage lane hi => Sys2Proof.Machine.execForceStage lane hi s
  | .forceCommit lane key => Sys2Proof.Machine.execForceCommit lane key s
  | .forceDiscard lane key => Sys2Proof.Machine.execForceDiscard lane key s
  | .diFilterChange chan code => Sys2Proof.Machine.execDiFilterChange chan code s
  | .diSupplyFault group mv => Sys2Proof.Machine.execDiSupplyFault group mv s
  | .diSupplyReturn group mv => Sys2Proof.Machine.execDiSupplyReturn group mv s
  | .inputTestPulse group => Sys2Proof.Machine.execInputTestPulse group s
  | .inputTestEnd group => Sys2Proof.Machine.execInputTestEnd group s
  | .outCmdWrite v => Sys2Proof.Machine.execOutCmdWrite v s
  | .logicSilence chan => Sys2Proof.Machine.execLogicSilence chan s
  | .doSupplyLow group mv => Sys2Proof.Machine.execDoSupplyLow group mv s
  | .doSupplyUnder group mv => Sys2Proof.Machine.execDoSupplyUnder group mv s
  | .doSupplyOver group mv => Sys2Proof.Machine.execDoSupplyOver group mv s
  | .doSupplyReady group mv => Sys2Proof.Machine.execDoSupplyReady group mv s
  | .groupOverload group => Sys2Proof.Machine.execGroupOverload group s
  | .channelOvercurrent chan => Sys2Proof.Machine.execChannelOvercurrent chan s
  | .channelOvertemp chan => Sys2Proof.Machine.execChannelOvertemp chan s
  | .openLoad chan => Sys2Proof.Machine.execOpenLoad chan s
  | .stuckOff chan => Sys2Proof.Machine.execStuckOff chan s
  | .shortSupplyDetect chan partner fellWithGroup => Sys2Proof.Machine.execShortSupplyDetect chan partner fellWithGroup s
  | .darkTestSlot chan => Sys2Proof.Machine.execDarkTestSlot chan s
  | .darkTestEnd chan fell => Sys2Proof.Machine.execDarkTestEnd chan fell s
  | .tripAutoReset rule => Sys2Proof.Machine.execTripAutoReset rule s
  | .clearFault chan gone => Sys2Proof.Machine.execClearFault chan gone s
  | .groupReenable group => Sys2Proof.Machine.execGroupReenable group s
  | .tripReset rule => Sys2Proof.Machine.execTripReset rule s
  | .groupOpen v => Sys2Proof.Machine.execGroupOpen v s
  | .groupRelease v => Sys2Proof.Machine.execGroupRelease v s
  | .tripRegWrite off v => Sys2Proof.Machine.execTripRegWrite off v s
  | .sensorSupplyShort group => Sys2Proof.Machine.execSensorSupplyShort group s
  | .sensorSupplyRestart group => Sys2Proof.Machine.execSensorSupplyRestart group s
  | .roleRecord r => Sys2Proof.Machine.execRoleRecord r s
  | .roleTimeout => Sys2Proof.Machine.execRoleTimeout s
  | .gaWatchEnd => Sys2Proof.Machine.execGaWatchEnd s
  | .setStart r => Sys2Proof.Machine.execSetStart r s
  | .checkpointPage r => Sys2Proof.Machine.execCheckpointPage r s
  | .setCommit r => Sys2Proof.Machine.execSetCommit r s
  | .keepalive r => Sys2Proof.Machine.execKeepalive r s
  | .pauseRecord r => Sys2Proof.Machine.execPauseRecord r s
  | .park r => Sys2Proof.Machine.execPark r s
  | .handoverRecord r => Sys2Proof.Machine.execHandoverRecord r s
  | .partnerFailAsserted => Sys2Proof.Machine.execPartnerFailAsserted s
  | .streamTimeout => Sys2Proof.Machine.execStreamTimeout s
  | .announceSend => Sys2Proof.Machine.execAnnounceSend s
  | .claimAnnounce source claim unit => Sys2Proof.Machine.execClaimAnnounce source claim unit s
  | .claimReject dest claim unit => Sys2Proof.Machine.execClaimReject dest claim unit s
  | .partnerClaimEdge => Sys2Proof.Machine.execPartnerClaimEdge s
  | .chkResync key => Sys2Proof.Machine.execChkResync key s
  | .chkHandover key => Sys2Proof.Machine.execChkHandover key s
  | .cmpReport v => Sys2Proof.Machine.execCmpReport v s
  | .partnerPresentChange present => Sys2Proof.Machine.execPartnerPresentChange present s
  | .sourceAssert lane id => Sys2Proof.Machine.execSourceAssert lane id s
  | .signalWithdraw lane core fast mask => Sys2Proof.Machine.execSignalWithdraw lane core fast mask s
  | .handlerEntry lane core fast => Sys2Proof.Machine.execHandlerEntry lane core fast s
  | .claimNormal lane core => Sys2Proof.Machine.execClaimNormal lane core s
  | .claimFast lane core => Sys2Proof.Machine.execClaimFast lane core s
  | .icuComplete lane core v => Sys2Proof.Machine.execIcuComplete lane core v s
  | .handlerExit lane core wait => Sys2Proof.Machine.execHandlerExit lane core wait s
  | .swiSet lane core v => Sys2Proof.Machine.execSwiSet lane core v s
  | .pendClear lane w v => Sys2Proof.Machine.execPendClear lane w v s
  | .waitWake lane id => Sys2Proof.Machine.execWaitWake lane id s
  | .extintEdge k rising cycles => Sys2Proof.Machine.execExtintEdge k rising cycles s
  | .extintDormantEdge k rising => Sys2Proof.Machine.execExtintDormantEdge k rising s
  | .eccCorrected lane dram addr info => Sys2Proof.Machine.execEccCorrected lane dram addr info s
  | .eccUncorrectable lane dram addr info => Sys2Proof.Machine.execEccUncorrectable lane dram addr info s
  | .aliasSet lane core addr width mask => Sys2Proof.Machine.execAliasSet lane core addr width mask s
  | .aliasClear lane core addr width mask => Sys2Proof.Machine.execAliasClear lane core addr width mask s
  | .secureAccess lane core addr => Sys2Proof.Machine.execSecureAccess lane core addr s
  | .mapError lane core addr write => Sys2Proof.Machine.execMapError lane core addr write s
  | .mramWindowWrite lane core addr v => Sys2Proof.Machine.execMramWindowWrite lane core addr v s
  | .tamper event => Sys2Proof.Machine.execTamper event s
  | .lanePowerRestore lane => Sys2Proof.Machine.execLanePowerRestore lane s
  | .bridgeWrite stream lanes addr data corrupt => Sys2Proof.Machine.execBridgeWrite stream lanes addr data corrupt s
  | .npWrite stream lanes addr data => Sys2Proof.Machine.execNpWrite stream lanes addr data s
  | .wrAck link p => Sys2Proof.Machine.execWrAck link p s
  | .wrError link p => Sys2Proof.Machine.execWrError link p s
  | .ackTimeout link tag => Sys2Proof.Machine.execAckTimeout link tag s
  | .linkAck link p => Sys2Proof.Machine.execLinkAck link p s
  | .linkResend link seq => Sys2Proof.Machine.execLinkResend link seq s
  | .brgFenceRead stream => Sys2Proof.Machine.execBrgFenceRead stream s
  | .bridgeRead stream addr len => Sys2Proof.Machine.execBridgeRead stream addr len s
  | .retry link p => Sys2Proof.Machine.execRetry link p s
  | .rdReqRepeat link tag => Sys2Proof.Machine.execRdReqRepeat link tag s
  | .rdData link p corrupt => Sys2Proof.Machine.execRdData link p corrupt s
  | .unsupported link p => Sys2Proof.Machine.execUnsupported link p s
  | .inboundRdReq link p => Sys2Proof.Machine.execInboundRdReq link p s
  | .fetchComplete link addr len => Sys2Proof.Machine.execFetchComplete link addr len s
  | .fetchHoldExpiry link addr len => Sys2Proof.Machine.execFetchHoldExpiry link addr len s
  | .inboundWrite link p => Sys2Proof.Machine.execInboundWrite link p s
  | .linkStateChange link state full => Sys2Proof.Machine.execLinkStateChange link state full s
  | .streamEntry => Sys2Proof.Machine.execStreamEntry s
  | .brgFailHeadRead core => Sys2Proof.Machine.execBrgFailHeadRead core s
  | .dmaCmdStart chan key => Sys2Proof.Machine.execDmaCmdStart chan key s
  | .dmaCmdAbort chan key => Sys2Proof.Machine.execDmaCmdAbort chan key s
  | .dmaDescriptorDone chan error moved corrupt => Sys2Proof.Machine.execDmaDescriptorDone chan error moved corrupt s
  | .kspOpen path via m => Sys2Proof.Machine.execKspOpen path via m s
  | .kspAuth path via m => Sys2Proof.Machine.execKspAuth path via m s
  | .kspClose path via m => Sys2Proof.Machine.execKspClose path via m s
  | .kspRead path via m => Sys2Proof.Machine.execKspRead path via m s
  | .kspWrite path via m storeOk => Sys2Proof.Machine.execKspWrite path via m storeOk s
  | .restoreDefaults path via m storeOk => Sys2Proof.Machine.execRestoreDefaults path via m storeOk s
  | .kspReadSeg path via m => Sys2Proof.Machine.execKspReadSeg path via m s
  | .kspWriteSeg path via m storeOk => Sys2Proof.Machine.execKspWriteSeg path via m storeOk s
  | .kspAbort path via m => Sys2Proof.Machine.execKspAbort path via m s
  | .kspInfo path via m => Sys2Proof.Machine.execKspInfo path via m s
  | .kspBadCode path via m => Sys2Proof.Machine.execKspBadCode path via m s
  | .sessionIdleTimeout session => Sys2Proof.Machine.execSessionIdleTimeout session s
  | .authTimeout session => Sys2Proof.Machine.execAuthTimeout session s
  | .readSnapshotTimeout session => Sys2Proof.Machine.execReadSnapshotTimeout session s
  | .segWriteTimeout session => Sys2Proof.Machine.execSegWriteTimeout session s
  | .lockoutEnd path => Sys2Proof.Machine.execLockoutEnd path s
  | .pendingTimeout session => Sys2Proof.Machine.execPendingTimeout session s
  | .arpRequest port sender target => Sys2Proof.Machine.execArpRequest port sender target s
  | .icmpEcho port source target data => Sys2Proof.Machine.execIcmpEcho port source target data s
  | .recordRequest type items => Sys2Proof.Machine.execRecordRequest type items s
  | .recordAccept => Sys2Proof.Machine.execRecordAccept s
  | .pageCommit failed => Sys2Proof.Machine.execPageCommit failed s
  | .recReady nand => Sys2Proof.Machine.execRecReady nand s
  | .appRecord v => Sys2Proof.Machine.execAppRecord v s
  | .clearCirculating role path => Sys2Proof.Machine.execClearCirculating role path s
  | .clearKept role path => Sys2Proof.Machine.execClearKept role path s
  | .clearComplete => Sys2Proof.Machine.execClearComplete s
  | .recordLoad seq found => Sys2Proof.Machine.execRecordLoad seq found s
  | .exportStart v => Sys2Proof.Machine.execExportStart v s
  | .exportAbort v => Sys2Proof.Machine.execExportAbort v s
  | .exportEnd result => Sys2Proof.Machine.execExportEnd result s
  | .updateBegin v => Sys2Proof.Machine.execUpdateBegin v s
  | .eraseComplete type => Sys2Proof.Machine.execEraseComplete type s
  | .blockSubmit block => Sys2Proof.Machine.execBlockSubmit block s
  | .updateVerify v => Sys2Proof.Machine.execUpdateVerify v s
  | .updateAbort v => Sys2Proof.Machine.execUpdateAbort v s
  | .norFailure slot => Sys2Proof.Machine.execNorFailure slot s
  | .updateActivate v => Sys2Proof.Machine.execUpdateActivate v s
  | .activatePause => Sys2Proof.Machine.execActivatePause s
  | .warmRestartComplete lanesOk => Sys2Proof.Machine.execWarmRestartComplete lanesOk s
  | .provision role => Sys2Proof.Machine.execProvision role s
  | .release role => Sys2Proof.Machine.execRelease role s
  | .returnToMaker role => Sys2Proof.Machine.execReturnToMaker role s
  | .scrap role => Sys2Proof.Machine.execScrap role s
  | .openBoundaryScan role => Sys2Proof.Machine.execOpenBoundaryScan role s
  | .openDebug role => Sys2Proof.Machine.execOpenDebug role s
  | .tapInstruction ir => Sys2Proof.Machine.execTapInstruction ir s
  | .attestationNonce session txn nonce => Sys2Proof.Machine.execAttestationNonce session txn nonce s
  | .attestationReport session txn => Sys2Proof.Machine.execAttestationReport session txn s
  | .secSha512 v => Sys2Proof.Machine.execSecSha512 v s
  | .secVerifyPss v => Sys2Proof.Machine.execSecVerifyPss v s
  | .secSignApp v => Sys2Proof.Machine.execSecSignApp v s
  | .updRngRead lane core => Sys2Proof.Machine.execUpdRngRead lane core s
  | .norRefresh slot blocks marginFail => Sys2Proof.Machine.execNorRefresh slot blocks marginFail s
  | .dramScrub lane corrected percent => Sys2Proof.Machine.execDramScrub lane corrected percent s
  | .spmScrub lane corrected passEnd => Sys2Proof.Machine.execSpmScrub lane corrected passEnd s
  | .mramReadVerify ok spareLeft => Sys2Proof.Machine.execMramReadVerify ok spareLeft s
  | .nandRefresh rewritten repaired failed => Sys2Proof.Machine.execNandRefresh rewritten repaired failed s
  | .linkMarginCheck port margin => Sys2Proof.Machine.execLinkMarginCheck port margin s
  | .bgLate activity => Sys2Proof.Machine.execBgLate activity s
  | .telemetrySnapshot temps vin power => Sys2Proof.Machine.execTelemetrySnapshot temps vin power s
  | .tempExcursionBegin edge => Sys2Proof.Machine.execTempExcursionBegin edge s
  | .tempExcursionEnd edge => Sys2Proof.Machine.execTempExcursionEnd edge s
  | .tempExcursionLimit => Sys2Proof.Machine.execTempExcursionLimit s
  | .thermalShutdown peak => Sys2Proof.Machine.execThermalShutdown peak s
  | .sampleStrobe kind samples => Sys2Proof.Machine.execSampleStrobe kind samples s
  | .supTrackerUpdate freq phase => Sys2Proof.Machine.execSupTrackerUpdate freq phase s
  | .phyLinkUp port speed => Sys2Proof.Machine.execPhyLinkUp port speed s
  | .portDown port => Sys2Proof.Machine.execPortDown port s
  | .partnerFailReleased => Sys2Proof.Machine.execPartnerFailReleased s
  | .ga1ClaimWaitEnd => Sys2Proof.Machine.execGa1ClaimWaitEnd s
  | .diSupplyLow group mv => Sys2Proof.Machine.execDiSupplyLow group mv s
  | .doSupplyLowExit group mv => Sys2Proof.Machine.execDoSupplyLowExit group mv s
  | .openLoadClear chan => Sys2Proof.Machine.execOpenLoadClear chan s
  | .ceRateWindowEnd lane => Sys2Proof.Machine.execCeRateWindowEnd lane s
  | .frontEndFault => Sys2Proof.Machine.execFrontEndFault s
  | .sliceOutputDisagreement slice => Sys2Proof.Machine.execSliceOutputDisagreement slice s
  | .broadcastReplyDelay => Sys2Proof.Machine.execBroadcastReplyDelay s

end Sys2Proof.Machine
end

