-- ==== Sys2Proof/Safety.lean ====
section
/-! DEFINITION. What counts as a safe state and a safe run, and the frame of a step, in the terms the statements use. -/
namespace Sys2Proof

open Machine

/-- The register file lists only values that differ from their reset value, by strictly rising key. -/
def RegsWf (s : State) : Prop := canon regReset s.regs = true

/-- Reserved bits of every listed register read 0 (R8). -/
def ReservedZero (s : State) : Prop := ∀ e ∈ s.regs, e.2 &&& regMask e.1 = e.2

/-- The memories of every lane are in canonical form. -/
def MemsWf (s : State) : Prop := ∀ l : Lane, memWf (s.mems.get l).dram = true ∧ memWf (s.mems.get l).spad = true

/-- The record queue and the supervisor's event store stay within their places (R494, R498). -/
def QueuesFit (s : State) : Prop := s.erec.queue.length ≤ 64 ∧ s.isl.events.length ≤ 16

/-- A state that a sequence of steps from `s` reaches. -/
inductive Reaches (s : State) : State → Prop where
  | refl : Reaches s s
  | step {t u : State} : Reaches s t → Machine.step t = .next u → Reaches s u

/-! ### Frames -/

/-- The parts of the state that a command can change: every field of `State` but the queue of waiting commands. -/
inductive Part where
  | now | free | regs | shadows | latches | loWrites | out | sys | isl | nv | time | vot | icus | mems
  | erec | odo | sup | pst | dio | ftn | cyc | chk | brg | dmas | ksp | upd | secs | tlm
  deriving DecidableEq, Repr

/-- A part of `t` is as it is in `s`. -/
def Part.same (s t : State) : Part → Prop
  | .now => t.now = s.now
  | .free => t.free = s.free
  | .regs => t.regs = s.regs
  | .shadows => t.shadows = s.shadows
  | .latches => t.latches = s.latches
  | .loWrites => t.loWrites = s.loWrites
  | .out => t.out = s.out
  | .sys => t.sys = s.sys
  | .isl => t.isl = s.isl
  | .nv => t.nv = s.nv
  | .time => t.time = s.time
  | .vot => t.vot = s.vot
  | .icus => t.icus = s.icus
  | .mems => t.mems = s.mems
  | .erec => t.erec = s.erec
  | .odo => t.odo = s.odo
  | .sup => t.sup = s.sup
  | .pst => t.pst = s.pst
  | .dio => t.dio = s.dio
  | .ftn => t.ftn = s.ftn
  | .cyc => t.cyc = s.cyc
  | .chk => t.chk = s.chk
  | .brg => t.brg = s.brg
  | .dmas => t.dmas = s.dmas
  | .ksp => t.ksp = s.ksp
  | .upd => t.upd = s.upd
  | .secs => t.secs = s.secs
  | .tlm => t.tlm = s.tlm

/-- `t` differs from `s` at most in the parts listed; the commands still waiting are the same. -/
def OnlyIn (may : List Part) (s t : State) : Prop := t.pending = s.pending ∧ ∀ p : Part, p ∉ may → p.same s t

/-- Every register but those at the offsets listed (in any lane) holds what it held. -/
def RegsOnly (offs : List Nat) (s t : State) : Prop := ∀ k : Nat, k % 16777216 ∉ offs → t.reg k = s.reg k

/-- The parts that a record request can change: the queue of REC and its lost count and interrupt, or the supervisor's event store. -/
def recParts : List Part := [.regs, .isl, .icus, .erec]

/-- The parts that the exclusion of a lane can change. -/
def exclParts : List Part :=
  [.free, .regs, .latches, .loWrites, .out, .sys, .isl, .nv, .vot, .icus, .mems, .erec, .pst, .dio, .ftn, .cyc, .chk]

/-- The parts that entering fail-silent can change. -/
def silentParts : List Part := [.regs, .out, .sys, .isl, .nv, .vot, .icus, .erec, .pst, .ftn, .cyc, .chk]

/-! ### Effects that many commands share -/

/-- A source is pending at the interrupt controller of every lane in vote (R397). -/
def Raised (id : Nat) (t : State) : Prop := ∀ l : Lane, t.inVote l = true → id ∈ (t.icus.get l).pend

/-- A record of the type and items was requested at state `s`: while REC runs and its queue has room, it is the queue's last entry, with
the time of TB0 and the operating time of `s`; while REC does not run and the supervisor has a place left, it is its last event
(R494, R498). -/
def Recorded (type : Nat) (items : List Item) (s t : State) : Prop :=
  (s.recUp = true → s.erec.queue.length < 64 → ∃ q : RecReq, t.erec.queue = s.erec.queue ++ [q] ∧ q.type = type ∧ q.items = items ∧
    q.tb0 = s.time.tb0.time ∧ q.opSec = s.nv.opSeconds.toNat) ∧
  (s.recUp = false → s.isl.events.length < 16 → ∃ q : RecReq, t.isl.events = s.isl.events ++ [q] ∧ q.type = type ∧ q.items = items ∧
    q.tb0 = s.time.tb0.time ∧ q.opSec = s.nv.opSeconds.toNat)

/-- The same of a command that requests several records: while REC runs and its queue has 8 places left, a record of the type and items
is in the queue. -/
def InQueue (type : Nat) (items : List Item) (s t : State) : Prop :=
  s.recUp = true → s.erec.queue.length ≤ 56 → ∃ q ∈ t.erec.queue, q.type = type ∧ q.items = items

/-- Lane `l` has left the vote with a cause of Table 3.3, and no other lane has; the module is not silent, the exclusion is counted
and reported, and OPERATIONAL has become DEGRADED (R103, R104, Table 2.2). -/
def LeftVote (l : Lane) (c : Cause) (s t : State) : Prop :=
  t.inVote l = false ∧ (t.vot.lanes.get l).cause = c.code ∧ (∀ m : Lane, m ≠ l → t.inVote m = s.inVote m) ∧
  t.vot.exclSeq = s.vot.exclSeq + 1 ∧ t.sys.failSilent = false ∧ Raised Irq.VOT_EXCLUDED t ∧
  (s.sys.mode = .operational → t.sys.mode = .degraded)

/-- The module has gone fail-silent (R33, R42): FAIL_N is asserted, FTN transmission, the checkpoint stream and the cycle have stopped, the
output controllers keep the levels last commanded, and the mode stays as last recorded. -/
def FellSilent (s t : State) : Prop :=
  t.sys.failSilent = true ∧ t.isl.failN = true ∧ t.ftn.su = .stopped ∧ t.chk.stream = .idle ∧ t.cyc.running = false ∧
  t.pst = { Reset.piste with doLevel := t.pst.doLevel } ∧ t.sys.mode = s.sys.mode

/-- A module reset with a cause of R63 has taken place (Table 2.6): START-UP.BOOT, counted as a change of mode where it is one, every other
register and every block at its reset value, time, storage and the supervisor island kept, the reset counted. -/
def ResetTo (cause : Nat) (s t : State) : Prop :=
  t.sys.mode = .boot ∧ t.sys.failSilent = false ∧ t.reg Off.SYS_MODE_CHANGES = (if s.sys.mode = .boot then 0 else 1) ∧
  (∀ k : Nat, k ≠ Off.SYS_MODE_CHANGES → t.reg k = regReset k) ∧ t.shadows = [] ∧ t.vot = Reset.vot ∧ t.cyc = Reset.cyc ∧
  t.mems = State.reset.mems ∧ t.isl.resetCause = cause ∧ t.isl.failN = false ∧ t.isl.rtc = s.isl.rtc ∧ t.now = s.now ∧
  t.nv.resetCount = s.nv.resetCount + 1 ∧ t.nv.slots = s.nv.slots ∧ t.nv.store = s.nv.store ∧ t.nv.half0 = s.nv.half0 ∧
  t.nv.half1 = s.nv.half1 ∧ t.pending = s.pending

/-! ### Terms of single families -/

/-- No voted access, no image, digest or cycle-end write and no output of a time base waits for the vote. -/
def Machine.State.quiet (s : State) : Bool :=
  s.vot.open_.isEmpty && s.time.votes.isEmpty &&
  (s.vot.voted.isSome || Lane.all.all fun l => (s.vot.lanes.get l).handed.isNone) &&
  (s.vot.votedDigest.isSome || Lane.all.all fun l => (s.vot.lanes.get l).digest.isNone) &&
  (s.vot.votedEnd.isSome || Lane.all.all fun l => (s.vot.lanes.get l).ended.isNone)

/-- The Sluice after one answer to every lane in vote (R79). -/
def Machine.Vot.answered (v : Vot) (core : Nat) (w : Word) (err : Bool) : Vot :=
  { v with lanes := v.lanes.map fun _ x => if x.inVote then { x with answer := ⟨core, w, err⟩ } else x }

/-- Digest of a lane whose logic has written runs of program data, by first offset, in its cycle (R311). -/
def Machine.State.ownDigest (s : State) (l : Lane) (writes : List (Nat × List Byte)) : DWord :=
  let bs := writes.flatMap fun w => w.2.zipIdx.map fun b => (w.1 + b.2, b.1)
  (setCyc l (putData bs) s).digestOf l (bs.foldl (fun w b => insNat w (b.1 / 4096)) [])

/-- At least two lanes are in vote, no output of a time base waits for its vote, and the servos and configurations of base `n` are alike in them. -/
def Machine.State.alike (s : State) (n : Nat) (v : LaneServo) : Prop :=
  s.time.votes = [] ∧ 2 ≤ s.lanesIn.length ∧ ∀ l : Lane, s.inVote l = true → s.servo n l = v ∧
    s.reg (laneKey l Off.TB_CFG) = s.maj Off.TB_CFG ∧ s.laneTb l Off.TB_SERVO_CFG n = s.tbReg Off.TB_SERVO_CFG n ∧
    s.laneTb l Off.TB_GAINS n = s.tbReg Off.TB_GAINS n ∧ s.laneTb l Off.TB_HOLD_CFG n = s.tbReg Off.TB_HOLD_CFG n

/-- The servo of base `n` in the lanes in vote has become `v`, as it was in the others, and no other base has changed. -/
def Served (n : Nat) (v : LaneServo) (s t : State) : Prop :=
  (∀ l : Lane, t.servo n l = if s.inVote l = true then v else s.servo n l) ∧ ∀ m, m < 4 → m ≠ n → t.base m = s.base m

/-- Registers whose write is a command of its own beside the plain one (the WO command registers, entry words, buffers and windows):
first offset, stride, count. -/
def ownCommands : List (Nat × Nat × Nat) :=
  [(Off.ICU_COMPLETE, 4, 1), (Off.ICU_RUNPRI, 4, 1), (Off.ICU_SWI_SET, 4, 1), (Off.ICU_PEND, 4, 16), (Off.ICU_SRC_CFG, 4, 511),
   (Off.VOT_REJOIN_REQ, 4, 1), (Off.VOT_DIGEST_LO, 4, 2), (Off.CYC_OC_CMD, 4, 1), (Off.CYC_FRC_CMD, 4, 1), (Off.CYC_STN_CFG, 4, 1),
   (Off.TB_OFFSET_IN, 64, 4), (Off.TB_TRIM, 4, 1), (Off.PST_CMD, 4, 1), (Off.PST_ENTRY_W0, 4, 8192), (Off.ODO_FIX_CMD, 4, 1)] ++
  [(Off.FTN_CTRL, 4, 1), (Off.FTN_MATRIX_CMD, 4, 1), (Off.FTN_SLOT_SEL, 4, 1), (Off.FTN_SLOT + 16, 4, 1), (Off.FTN_TXB_HDR, 4, 3),
   (Off.FTN_TXB_DATA, 4, 368), (Off.FTN_RXB_SEL, 4, 1), (Off.FTN_RING_CMD, 4, 1), (Off.FTN_GUARD_CMD, 4, 1), (Off.FTN_TS_CAL_REQ, 4, 1)] ++
  [(Off.DIO_OUT_CMD, 4, 2), (Off.DIO_TRIP_MASK, 4, 32), (Off.BRG_XAREA, 4, 8192), (Off.DMA_CMD, 64, 16), (Off.REC_READ_SEQ, 4, 1),
   (Off.REC_APP_CMD, 4, 1), (Off.REC_EXP_CMD, 4, 1), (Off.UPD_CMD, 4, 1), (Off.UPD_BLK_CMD, 4, 1), (Off.SEC_OP, 4, 1),
   (Off.CHK_CMP_REPORT, 4, 2), (Off.SYS_MODE_REQ, 4, 1), (Off.SYS_RESET_REQ, 4, 1), (Off.SYS_RTC_ALARM, 4, 1)]

/-- A writable register that no other command writes, and no half of a 64-bit pair. -/
def plainReg (off : Nat) : Bool :=
  writable off && !isLo off && !isHi off &&
  !ownCommands.any fun r => decide (r.1 ≤ off) && decide (off < r.1 + r.2.1 * r.2.2) && (off - r.1) % r.2.1 == 0

/-- SYS_MODE_REQ_STATUS (Table 2.11) after a request has been completed or rejected: STATE, CAUSE, SEQ counted up, LAST_REQ. -/
def modeStatus (old : Word) (state cause req : Nat) : Word :=
  mkWord [(0, state), (4, cause), (8, (fld old 8 8 + 1) % 256), (16, req)]

/-- A request of the mode register waits for its boundary (R13): STATE BUSY, the rest as before. -/
def modeBusy (old : Word) : Word := mkWord [(0, 1), (4, fld old 4 4), (8, fld old 8 8), (16, fld old 16 4)]

/-- Bit of a reason in SH_REASON.ACTIVE. -/
def Machine.Reason.mask (r : Reason) : BitVec 8 := 1#8 <<< (r.code - 1)

/-- SAFE-HOLD with a reason active, which is the first one unless the module was in SAFE-HOLD already (R45, R48). -/
def HeldWith (r : Reason) (s t : State) : Prop :=
  t.sys.mode = .safeHold ∧ t.sys.active = (if s.sys.mode = .safeHold then s.sys.active ||| r.mask else r.mask) ∧
  t.sys.first = (if s.sys.mode = .safeHold then s.sys.first else r.code)

/-- Every block is as after a power-on reset but the parts listed (Table 2.6); the commands still waiting are the same. -/
def AnewBut (kept : List Part) (s t : State) : Prop := t.pending = s.pending ∧ ∀ p : Part, p ∉ kept → p.same State.reset t

/-- The part of an output channel that the resolution of its switch does not touch. -/
def Machine.Out.setting (o : Out) : Out := { o with on := false, changedAt := 0, energy := 0, demag := false, dark := false }

/-- Every output switch stands as Table 10.3 resolves it (R352). -/
def Resolved (s : State) : Prop := ∀ n : Nat, n < s.dio.outs.length → (s.dout n).on = s.resolve n (s.dout n)

/-- Every channel but those that `p` names keeps what the resolution of its switch does not touch. -/
def OutsKeep (p : Nat → Prop) (s t : State) : Prop :=
  t.dio.outs.length = s.dio.outs.length ∧ ∀ m : Nat, ¬ p m → (t.dout m).setting = (s.dout m).setting

/-- Status register of the common layout after a command: STATE, CAUSE, SEQ counted up. -/
def cmdStatus (old : Word) (state cause : Nat) : Word := mkWord [(0, state), (4, cause), (8, (fld old 8 8 + 1) % 256)]

/-- The parts that the end of VERIFY with the module in SAFE-HOLD can change. -/
def verifyParts : List Part :=
  [.free, .regs, .shadows, .latches, .loWrites, .out, .sys, .isl, .nv, .time, .vot, .icus, .mems, .erec, .odo, .pst, .dio, .ftn, .cyc, .chk, .brg,
    .ksp, .upd]

/-- The time bases run alike, with the servos as reset leaves them and no output under way. -/
def Machine.State.freshBases (s : State) : Prop :=
  s.time.votes = [] ∧ ∀ n, n < 4 → (s.base n).servos = Tri.all Reset.laneServo ∧ (s.base n).rate = (s.base 2).rate

/-- The pair state with PARTNER and PROTECTED as they follow from the rest (R373, Table 11.9). -/
def Machine.State.settled (s : State) (c : Chk) : Chk :=
  { c with
    partner := if !c.presentN then 0 else if c.pFail then 1 else 2
    protected_ := s.pairMember && c.role == .active && c.holder && c.presentN && !c.pFail && c.mramOk && c.stream == .running }

/-- A resynchronisation may begin (R381). -/
def Machine.State.resyncFree (s : State) : Bool := match s.chk.resyncAt with
  | some a => decide (a + 10000000000 ≤ s.now)
  | none => true

/-- Each change of PARTNER and of PROTECTED is reported (Table 11.11). -/
def PairReported (s t : State) : Prop :=
  (t.chk.partner ≠ s.chk.partner → Raised Irq.CHK_PARTNER_CHG t) ∧ (t.chk.protected_ ≠ s.chk.protected_ → Raised Irq.CHK_PROTECTION_CHG t)

/-- The module has taken claim `n`: HOLDER, CLAIM_N asserted, the stream running to a partner that is present (R375, R381, R390). -/
def TookClaim (n : Nat) (s t : State) : Prop :=
  t.chk.role = .active ∧ t.chk.holder = true ∧ t.chk.claim = BitVec.ofNat 32 n ∧ t.isl.claimN = true ∧ t.chk.ga1Wait = false ∧
  Raised Irq.CHK_CLAIM_TAKEN t ∧
  t.chk.stream = (if s.chk.presentN = false then .idle else if s.chk.pFail = true ∧ ({ s with now := t.now } : State).resyncFree = true then .resync else .running) ∧
  t.chk.held = (if claimLt s.chk.held.toNat s.chk.heldUnit.toNat n Config.unitId.toNat then BitVec.ofNat 32 n else s.chk.held)

/-- The module has entered STANDBY (R373, R380): only the supervisor, the MRAM and the pair link receiver keep their state, with FAIL_N
asserted, CLAIM_N released and the wake enables kept. -/
def StoodBy (s t : State) : Prop :=
  t.sys.mode = .standby ∧ t.isl.failN = true ∧ t.isl.claimN = false ∧ t.isl.wakeArmed = s.reg Off.SYS_WAKE_CFG &&& 0xFF#32 ∧
  t.chk.cycleUs = 0 ∧ t.chk.holder = false ∧ t.nv = { s.nv with nand := t.nv.nand } ∧
  AnewBut [.now, .free, .out, .nv, .isl, .upd, .ksp, .chk, .tlm, .sys] s t

/-- The set being received has been discarded (R380): an INCOMPLETE half is EMPTY, the other half is as it was, the standby is not ARMED. -/
def Discarded (h : Nat) (s t : State) : Prop :=
  t.chk.inSet = none ∧ t.chk.lastOk = false ∧ t.chk.armed = false ∧ (s.chk.armed = true → t.isl.failN = true) ∧
  t.half h = (if (s.half h).state = .incomplete then ⟨.empty, 0, 0, []⟩ else s.half h) ∧ t.half (h + 1) = s.half (h + 1) ∧
  t.nv.slots = s.nv.slots ∧ t.nv.store = s.nv.store ∧ t.nv.nand = s.nv.nand

/-- What a lane's core was told by its last access, in the vote block; nothing else of it differs. -/
def Machine.Vot.told (v : Vot) (l : Lane) (core : Nat) (w : Word) (err : Bool) : Vot :=
  { v with lanes := v.lanes.modify l fun x => { x with answer := ⟨core, w, err⟩ } }

/-- The bytes of a lane's memories are as they were. -/
def SameBytes (l : Lane) (s t : State) : Prop := (t.mem l).dram = (s.mem l).dram ∧ (t.mem l).spad = (s.mem l).spad

/-- What a link returns to a packet that passes (R442): LINK_ACK, except in STREAM. -/
def Machine.State.ackMsgs (s : State) (l : Nat) (p : Packet) : List Msg :=
  if (s.culvert l).state = .stream then []
  else [.packet l ⟨10, 0, 0, p.seq, 0, 0, [], packetCrc ⟨10, 0, 0, p.seq, 0, 0, [], 0⟩⟩]

/-- The packet that a link sends next: its sequence number, and the CRC of Table 14.1. -/
def Machine.State.nextPacket (s : State) (l type tag addr len : Nat) (payload : List Byte) : Packet :=
  ⟨type, 0, tag, (s.culvert l).txSeq, len, addr, payload, packetCrc ⟨type, 0, tag, (s.culvert l).txSeq, len, addr, payload, 0⟩⟩

/-- The Sluice after what a stream waited for over a link has come (R79, R438, R447): the value goes to the lanes in vote that have issued the
access, or to all of them where none is kept, and the kept access holds it. -/
def Machine.Vot.returned (v : Vot) (stream : Nat) (err : Bool) (data : List Byte) : Vot :=
  let w : Word := BitVec.ofNat 32 (leNat (data.take 4))
  let mine (k : KeptAccess) : Bool := k.stream == stream && k.awaits
  { v with
    kept := v.kept.map fun k => if mine k then { k with awaits := false, value := if k.write then k.value else w, busError := err } else k
    lanes := v.lanes.map fun l y =>
      if y.inVote && (v.kept.find? mine).all fun k => k.lanes.contains l then { y with answer := ⟨stream / 8, w, err⟩ } else y }

/-- No access waits in the Sluice and no export runs: nothing follows from a write that ends. -/
def Machine.State.nothingWaits (s : State) : Prop := s.vot.open_ = [] ∧ s.erec.state ≠ .exporting

/-- A write of a link has failed with a code of Table 14.3 (R445): the failure FIFO, its loss, the record, the fence count of its stream, the
answer to a non-posted writer, and the DMA channel. -/
def WriteFailed (l : Nat) (w : Posted) (code : Nat) (s t : State) : Prop :=
  t.reg Off.BRG_WRITE_FAILS = s.reg Off.BRG_WRITE_FAILS + 1 ∧ Raised Irq.BRG_WRITE_FAIL t ∧
  Recorded 0x0C01 [iU64 1 w.addr, iU8 2 l, iU16 3 w.tag, iU8 4 code, iU8 5 w.stream, iU8 6 w.lanes.toNat, iU8 7 (w.dma.getD 255)] s t ∧
  (s.brg.fifo.length < 16 → t.brg.lost = false ∧ t.brg.fifo = s.brg.fifo ++ [⟨mkWord [(0, w.tag), (12, l), (13, code), (16, if w.dma.isSome then 0 else w.stream), (22, if w.dma.isSome then 0 else w.lanes.toNat), (25, w.dma.getD 0), (29, b2n w.dma.isSome), (30, b2n s.brg.lost)], w.addr⟩]) ∧
  (16 ≤ s.brg.fifo.length → t.brg.lost = true ∧ t.brg.fifo = s.brg.fifo ∧ t.reg Off.BRG_FAIL_LOST = s.reg Off.BRG_FAIL_LOST + 1 ∧
    Raised Irq.BRG_FIFO_OVERFLOW t) ∧
  (w.dma = none → look t.brg.failed w.stream = some ((look s.brg.failed w.stream).getD 0 + 1) ∧ t.dmas = s.dmas) ∧
  t.brg.answers = s.brg.answers ++ (if w.np && w.dma.isNone then [⟨w.stream, true, []⟩] else []) ∧
  t.vot = (if w.np && w.dma.isNone then s.vot.returned w.stream true [] else s.vot) ∧
  (∀ c, w.dma = some c → t.brg.failed = s.brg.failed ∧ ((s.dma c).state = .running → (t.dma c).state = .error ∧ (t.dma c).error = 3 ∧ Raised Irq.DMA_ERROR t))

/-- A link carries no answers any more, in state `v` (R442): what was outstanding on it has failed. -/
def LinkLost (l : Nat) (v : LinkState) (s t : State) : Prop :=
  (t.culvert l).state = v ∧ (t.culvert l).posted = [] ∧ (t.culvert l).unacked = [] ∧ (t.culvert l).reads = [] ∧
  (∀ m, m ≠ l → t.culvert m = s.culvert m) ∧
  t.reg Off.BRG_LINK_DOWNS = s.reg Off.BRG_LINK_DOWNS + (if v = .down then 1 else 0) ∧
  t.reg Off.BRG_WRITE_FAILS = s.reg Off.BRG_WRITE_FAILS + BitVec.ofNat 32 (s.culvert l).posted.length ∧ Raised Irq.BRG_LINK_CHG t ∧
  ((s.culvert l).posted ≠ [] → Raised Irq.BRG_WRITE_FAIL t) ∧
  (∀ r ∈ (s.culvert l).reads, r.dma = none → ⟨r.stream, true, []⟩ ∈ t.brg.answers) ∧
  RegsOnly [Off.BRG_LINK_DOWNS, Off.BRG_WRITE_FAILS, Off.BRG_FAIL_LOST, Off.DMA_ERRORS, Off.REC_LOST_CNT] s t ∧
  OnlyIn (.vot :: .brg :: .dmas :: recParts) s t

/-- Offsets of the exchange area (Table 14.9). -/
def xareaRegs : List Nat := (List.range 8192).map fun i => Off.BRG_XAREA + 4 * i

/-- A request that the server takes up, unicast or broadcast (`wide`): it arrives on a path that is served, passes the checks below KSP and its own, no write
waits for its register path, and the queue has room (R468 to R471, R487). -/
def Requested (wide : Bool) (p : Path) (via : Via) (m : KspMsg) (s : State) : Prop :=
  s.kspServes p = true ∧ via.passes p = true ∧ via.bcast = wide ∧ kspGood m = true ∧ kspResponse m = false ∧ (wide = true ∨ s.queue < 16) ∧
  ∀ x ∈ s.ksp.sessions, x.waiting = none

/-- A request of session `x`, the one of its number, that it executes: new, in a session that is open or admits it, no segment timed out (R471, R472, R477, R480). -/
def Executes (p : Path) (m : KspMsg) (x : Session) (s : State) : Prop :=
  m.session ≠ 0 ∧ s.session p m.session = some x ∧ (s.ksp.sessions.filter fun y => y.num == m.session) = [x] ∧ (x.kept.map (·.1) ≠ some m.trans) ∧ x.segTimedOut = false ∧
  (x.state = .open_ ∨ m.code = 2 ∨ m.code = 3)

/-- A request more stands in the server's queue (R471). -/
def Machine.State.taken (s : State) : State := { s with ksp := { s.ksp with queued := s.queue + 1, queuedAt := s.now } }

/-- It is one of session `n`, the time of whose last request is now (R484). -/
def Machine.State.heard (s : State) (n : Half) : State :=
  { s.taken with ksp := { s.taken.ksp with sessions := s.ksp.sessions.map fun y => if y.num = n then { y with lastAt := s.now } else y } }

/-- The session executes it, and has the path it came on (R478). -/
def Machine.State.touched (s : State) (p : Path) (n : Half) : State :=
  { s.taken with ksp := { s.taken.ksp with sessions := s.ksp.sessions.map fun y => if y.num = n then { y with lastAt := s.now, path := p } else y } }

/-- A response has left on the path of its request (R485, R487, R488). -/
def Answers (p : Path) (r : KspMsg) (s t : State) : Prop :=
  (p.kind ≠ 1 → t.ftn = s.ftn ∧ t.out = s.out ++ (if s.reachable (p.kind.toNat - 2) p.ipv4 then [.ksp p r] else [])) ∧
  (p.kind = 1 → t.out = s.out ∧ (s.ftn.arb.length < 32 → t.ftn = { s.ftn with arb := s.ftn.arb ++ [⟨kspFrame p r s, s.ftn.cycle⟩] }))

/-- A request of a session has been executed (R470, R472): the response has left and is kept, what `f` does to the session besides, and the
rest of the server as `k` has it. -/
def Concluded (p : Path) (m r : KspMsg) (f : Session → Session) (k : Ksp) (s t : State) : Prop :=
  Answers p r s t ∧
  t.ksp = { k with
    sessions := s.ksp.sessions.map fun y => if y.num = m.session then { f { y with lastAt := s.now, path := p } with kept := some (m.trans, r), waiting := none } else y
    executed := s.ksp.executed + 1, queued := s.queue + 1, queuedAt := s.now }

/-- The parts and registers that a response can change. -/
def answerParts : List Part := [.regs, .out, .icus, .ftn, .ksp]

/-- SEQ of the record accepted after one of SEQ `n`: 0 is skipped (R491). -/
def nextSeq (n : Word) : Word := if n + 1 = 0 then 1 else n + 1

/-- The open page has gone to NAND (R497, R500, R501). -/
def PageStored (s t : State) : Prop :=
  t.nv.nand.circulating = ((s.nv.nand.circulating ++ s.erec.page).reverse.take 65536).reverse ∧
  t.nv.nand.kept = s.nv.nand.kept ++ (s.erec.page.filter fun r => (r.seq - s.nv.nand.keptBase).toNat < 4096) ∧
  t.nv.nand.erases = s.nv.nand.erases + (if fld (s.reg Off.REC_PAGES) 0 5 = 31 then 1 else 0) ∧
  t.reg Off.REC_PAGES = s.reg Off.REC_PAGES + 1

/-- The bytes of slots of an export from byte `d` on, up to slot `n` (R505). -/
def Machine.State.slotBytes (s : State) (d n : Nat) : List Byte := (((List.range n).drop (d / 256)).flatMap s.expSlot).drop (d % 256)

/-- Records among them, from slot `m` on, whose CRC-32C fails. -/
def Machine.State.badSlots (s : State) (m n : Nat) : Nat := ((List.range n).filter fun i => decide (m ≤ i) && s.expBad i).length

/-- SEQ of the first and of the last of a list of records; 0 without one. -/
def firstSeq (l : List Rec) : Word := (l.head?.map fun r => r.seq).getD 0

def lastSeqOf (l : List Rec) : Word := (l.getLast?.map fun r => r.seq).getD 0

/-- A pass of a background activity is complete: its LATE bit clears unless this pass had missed its period (R540). -/
def PassTold (a : Nat) (s t : State) : Prop :=
  t.tlm.latePass = s.tlm.latePass &&& ~~~(1#10 <<< a) ∧
  t.tlm.late = (if s.tlm.latePass.getLsbD a then s.tlm.late else s.tlm.late &&& ~~~(1#10 <<< a))

/-- The register file and every memory are in canonical form, reserved bits reading 0 (R8, log 8). -/
def CanonForm (s : State) : Prop := RegsWf s ∧ ReservedZero s ∧ MemsWf s ∧ memWf s.nv.emmc = true

/-- No queue or FIFO holds more than the spec gives it: records 64 and supervisor events 16 (R494, R498), the fire FIFO 64 (R193), ended
disturbances 16 (R176), failed writes 16 (R445), frames for minislots 32, standby events 16. -/
def WithinCapacity (s : State) : Prop :=
  QueuesFit s ∧ s.pst.fifo.length ≤ 64 ∧ s.sup.fifo.length ≤ 16 ∧ s.brg.fifo.length ≤ 16 ∧ s.ftn.arb.length ≤ 32 ∧ s.chk.events.length ≤ 16

/-- No Piste entry is armed, and none acts at the present edge. -/
def Machine.State.pisteIdle (s : State) : Bool := s.pst.armed.isEmpty && (s.pst.edge.isEmpty || decide (s.pst.edgeAt < s.now))

/-- Nothing of the Piste differs but which entries are suspended (R206). -/
def SuspendOnly (s t : State) : Prop :=
  t.pst = { s.pst with armed := t.pst.armed } ∧
  t.pst.armed.map (fun a => { a with suspend := false }) = s.pst.armed.map (fun a => { a with suspend := false })

/-- The estimate is the one that record `r`, received at the TB0 time `at_`, gives at the present instant (R165). -/
def FollowsRecord (r : PosRec) (at_ : Nat) (t : State) : Prop :=
  let dt : Int := (t.tb0 : Int) - extend r.time at_
  t.odo.pos = r.pos * 1000000 + r.vel * dt + r.acc * dt * dt / 2000000000000 ∧ t.odo.vel = r.vel * 1000000000 + r.acc * dt / 1000 ∧
  t.odo.acc = r.acc ∧ t.odo.unc = min 4294967295 (r.unc + (750000 * dt * dt / 1000000000000000000).toNat) ∧
  t.odo.standstill = bit r.qual 2 ∧ t.odo.dir = fld r.qual 3 2

/-- No Piste entry acts at the present edge. -/
def Machine.State.edgeFree (s : State) : Bool := s.pst.edge.isEmpty || decide (s.pst.edgeAt < s.now)

/-- An armed entry comes to its trigger (R180, R202, R207): a TB entry at an edge still to come, on a base that runs; a POSITION or PHASE entry, whose value has
passed the trigger since it was last compared, at the present edge. -/
def Machine.State.comesToTrigger (s : State) (n : Nat) (a : Armed) : Prop :=
  eDom (s.eCtrl n) < 4 ∧ 0 < (s.base (eDom (s.eCtrl n))).rate ∧ (s.base (eDom (s.eCtrl n))).rate < 2 * nsUnit ∧
    ((s.base (eDom (s.eCtrl n))).ns : Int) ≤ s.tbTrig n ∨
  s.now % 4 = 0 ∧ s.sys.dspFault = false ∧
    (eDom (s.eCtrl n) = 4 ∧ eQual (s.eCtrl n) ≤ s.odo.cls ∧ a.reached = false ∧ s.posReached n (s.qNow (eAdvance (s.eCtrl n))) = true ∨
     eDom (s.eCtrl n) = 5 ∧ passes (s.entryWord n 1) a.phase (s.phiAt n s.tb0) = true)

/-- The protocol engines run from now on, and both main-direction transmit ports are live. -/
def Machine.State.txLive (s : State) : Bool :=
  [s.sys.netA, s.sys.netB].all (fun e => !e.off && decide (e.till ≤ s.now)) && [0, 3].all fun p => s.portUsed p && (s.port p).up

/-- The same with neither channel looped. -/
def Machine.State.bothLive (s : State) : Bool := s.ftn.roleA == .normal && s.ftn.roleB == .normal && s.txLive

/-- The addresses and the pad of an own frame (R221, R222). -/
def OwnAddressed (f : Frame) (s : State) : Prop :=
  f.dstMac = 0x0346544E0000 ∧ f.srcMac = 0x0246544E0000 + BitVec.ofNat 48 s.ownAddr ∧ f.source = s.ownAddr ∧ f.etherType = 0x88B6 ∧
  f.plen = f.payload.length ∧ f.pad = 18 - f.plen ∧ f.e2e = frameCrc f

/-- Port `p` carries frames of its direction, which leave on port `out` (R231, R276): the two ports of one channel are live, and it is not looped. -/
def Machine.State.passesOn (s : State) (p out : Nat) : Prop :=
  (p = 1 ∧ out = 0 ∧ s.ftn.roleA = .normal ∨ p = 2 ∧ out = 3 ∧ s.ftn.roleB = .normal) ∧ s.portLive p = true ∧ s.portLive out = true

/-- A module at an ordinary boundary: the boundaries fall on TB2 and have begun, nothing waits for a commit, for the boundary or for the vote, no lane is in
an attempt or its probation, and every time base runs as its servos have it. -/
def Machine.State.plainBoundary (s : State) : Prop :=
  s.up = true ∧ s.coupled = false ∧ s.cyc.fallback = false ∧ s.cyc.begun = true ∧ s.cyc.firstImage = none ∧ s.shadows = [] ∧ s.time.votes = [] ∧
  (∀ l : Lane, (s.vot.lanes.get l).phase = .inVote ∨ s.inVote l = false ∧ s.rejoins l = false) ∧
  ∀ n, n < 4 → n ≠ 2 → ∀ l : Lane, s.inVote l = true →
    (s.servoOff n l = true → (s.servo n l).state = .free) ∧ ((s.servo n l).state = .free → (s.base n).rate = (s.base 2).rate)

end Sys2Proof
end

