-- ==== Sys2Proof/Certificates/Slice0/Obligations.lean ====
section
/-! DEFINITION. The statements for the provers, family by family in the order of the command table. A clause about a command gives a next
state under hypotheses on the state and the operands, what that state holds, and the frame. -/
open Sys2Proof Sys2Proof.Machine

/-! ### The whole machine -/

/-- A step with a command in front runs that command on the queue's rest. -/
def Obligations.StepRunsFront : Prop :=
  ∀ (s : State) (c : Instr) (rest : List Instr), s.pending = c :: rest → step s = exec c { s with pending := rest }

/-- The machine right after a power-on reset, as the tables of the spec give it: START-UP.BOOT, no lane in vote, cause POWER_ON, the group switches open
with cause MODE, nothing listed in memory. -/
def Obligations.ResetState : Prop :=
  State.reset.pending = [] ∧ State.reset.sys.mode = .boot ∧ State.reset.sys.failSilent = false ∧ State.reset.up = true ∧
  State.reset.peek .a Off.SYS_MODE_STATE = 0x12 ∧ State.reset.peek .a Off.SYS_RESET_CAUSE = 1 ∧ State.reset.peek .a Off.SYS_WAKE_CFG = 0xF0 ∧
  State.reset.peek .a (Off.DIO_GRP_STATE + 16) = 0x100 ∧ State.reset.peek .a (Off.DIO_GRP_STATE + 20) = 0x100 ∧ State.reset.peek .a Off.UPD_STATUS = 0 ∧
  State.reset.peek .a Off.VOT_CFG = 0xA0831 ∧ State.reset.peek .a Off.CYC_CFG = 0x104 ∧ State.reset.peek .a Off.TB_RATE_HI = 0x10000 ∧
  State.reset.peek .a Off.TB_RATE_LO = 0 ∧ State.reset.peek .a Off.PST_CFG = 0x64 ∧ State.reset.peek .a Off.DIO_IN_CFG = 0x27E8 ∧
  State.reset.peek .a Off.BRG_CFG = 0xA0164 ∧ State.reset.peek .a Off.REC_CFG = 0xA000A ∧ State.reset.peek .a Off.TLM_CFG = 0x1E55 ∧
  State.reset.peek .a Off.ICU_SRC_CFG = 0x100 ∧
  (∀ l, State.reset.inVote l = false ∧ (State.reset.mem l).secure = .empty ∧ (State.reset.icu l).pend = []) ∧
  State.reset.time.tb0.time = 0 ∧ State.reset.time.tb2.rate = 281474976710656

/-- On an empty queue a step idles for one slice period of 4 ns (the model's choice, log 7): time passes, the wires have taken what was sent, the inbound
write buffers of the links are empty; while no write waits for the KSP server nothing else happens. -/
def Obligations.IdleStep : Prop :=
  ∀ (s : State), s.pending = [] → ∃ t, step s = .next t ∧ t.pending = [] ∧ t.now = s.now + 4 ∧ t.brg.link0.inbound = 0 ∧ t.brg.link1.inbound = 0 ∧
    OnlyIn [.now, .regs, .out, .isl, .nv, .time, .icus, .ftn, .brg, .ksp] s t ∧
    ((∀ x ∈ s.ksp.sessions, x.waiting = none) → t.out = [] ∧ OnlyIn [.now, .out, .isl, .nv, .time, .brg] s t)

/-- Every command completes in every state and leaves the commands that wait as they are: no command of the block ends in a fault or a refusal, because
every error that the spec describes is an effect on the state. -/
def Obligations.NoCommandStops : Prop :=
  ∀ (s : State) (c : Instr), ∃ t, exec c s = .next t ∧ t.pending = s.pending

/-- The invariants of `StepKeepsForm` and `StepKeepsCapacity` hold right after reset. -/
def Obligations.ResetMeetsInvariants : Prop :=
  CanonForm State.reset ∧ WithinCapacity State.reset

/-- Every step, from every state, keeps the register file and the memories in canonical form and every reserved bit at 0 (R8). -/
def Obligations.StepKeepsForm : Prop :=
  ∀ (s t : State), CanonForm s → step s = .next t → CanonForm t

/-- Every step, from every state, keeps every queue and FIFO of the spec within its capacity (R176, R193, R235, R445, R494, R498). -/
def Obligations.StepKeepsCapacity : Prop :=
  ∀ (s t : State), WithinCapacity s → step s = .next t → WithinCapacity t

/-! ### Register access -/

/-- MISALIGNED_ACCESS (R7), for every access that a running core can make, as a read or as a write: the word 0, a bus error, and nothing else. -/
def Obligations.MisalignedAccess : Prop :=
  ∀ (s : State) (l : Lane) (core off : Nat) (w : Bool), s.accessOk l core off = true →
    ∃ t, exec (.misalignedAccess l core off w) s = .next t ∧
      t.vot = { s.vot with lanes := s.vot.lanes.set l { s.vot.lanes.get l with answer := ⟨core, 0, true⟩ } } ∧ OnlyIn [.vot] s t

/-- UNMAPPED_ACCESS (R9), for every access that a running core can make. A module-shared block is reached by the lanes in vote together (R14), so its
answer goes to each of them. -/
def Obligations.UnmappedAccess : Prop :=
  (∀ (s : State) (l : Lane) (core off : Nat), RegsWf s → s.accessOk l core off = true → rowAt off = none →
    ∃ t, exec (.unmappedAccess l core off true) s = .next t ∧ t.reg Off.TLM_UNMAPPED_CNT = s.reg Off.TLM_UNMAPPED_CNT + 1 ∧
      RegsOnly [Off.TLM_UNMAPPED_CNT] s t ∧ OnlyIn [.regs] s t) ∧
  (∀ (s : State) (l : Lane) (core off : Nat), RegsWf s → s.accessOk l core off = true → rowAt off = none →
    ∃ t, exec (.unmappedAccess l core off false) s = .next t ∧ t.reg Off.TLM_UNMAPPED_CNT = s.reg Off.TLM_UNMAPPED_CNT + 1 ∧
      t.vot = (if laneLocal off then { s.vot with lanes := s.vot.lanes.set l { s.vot.lanes.get l with answer := ⟨core, 0, false⟩ } }
        else s.vot.answered core 0 false) ∧
      RegsOnly [Off.TLM_UNMAPPED_CNT] s t ∧ OnlyIn [.regs, .vot] s t)

/-- READ_LO_LATCH (R10) and WRITE_HI_COMMIT (R11). The latch holds the values of the instant of the read, belongs to the reading core (once for all lanes
in a module-shared block, R81), and leaves every other core's latches alone. A write of the _HI half commits both halves, the low one as this core
last wrote it; the pairs of the cycle engine and the time bases act through commands of their own. SHADOWED_WRITE (R326, R327, R328) and
REGISTER_WRITE (R12, R8). A value written to a SHADOWED register stands pending, behind a pending value it is held, and a held value is replaced and
the replacement counted; the active value stays. A LIVE register has its new value at once, its reserved bits 0. -/
def Obligations.RegisterAccess : Prop :=
  (∀ (s : State) (l : Lane) (core off : Nat), s.accessOk l core off = true → latchGroup off ≠ [] → (rowAt off).isSome = true →
    ∃ t, exec (.readLoLatch l core off) s = .next t ∧
      (∀ o ∈ latchGroup off, t.latched (latchOwner l off) core o = some (s.peekAt l core o)) ∧
      (∀ (m : Option Lane) (c o : Nat), (m, c) ≠ (latchOwner l off, core) → t.latched m c o = s.latched m c o) ∧
      OnlyIn [.latches, .vot] s t) ∧
  (∀ (s : State) (l : Lane) (core off : Nat) (v : Word), RegsWf s → s.accessOk l core off = true → isHi off = true →
    boundaryOf off = .live → off / 65536 ≠ 2 → off / 65536 ≠ 3 →
    ∃ t, exec (.writeHiCommit l core off v) s = .next t ∧ t.reg (regKey l off) = v &&& regMask off ∧
      t.reg (regKey l (off - 4)) = s.loFor l core (off - 4) ∧ RegsOnly [off, off - 4] s t ∧ OnlyIn [.regs, .loWrites] s t) ∧
  (∀ (s : State) (l : Lane) (core off : Nat) (v : Word), s.accessOk l core off = true → isLo off = true →
    ∃ t, exec (.registerWrite l core off v) s = .next t ∧ t.loFor l core off = v ∧ OnlyIn [.loWrites] s t) ∧
  (∀ (s : State) (l : Lane) (off : Nat) (v : Word), s.accessOk l 0 off = true → plainReg off = true → boundaryOf off ≠ .live →
    (s.shadows.find? fun x => x.key == regKey l off) = none →
    ∃ t, exec (.shadowedWrite l off v) s = .next t ∧ t.shadows = s.shadows ++ [⟨regKey l off, v &&& regMask off, none⟩] ∧
      OnlyIn [.shadows] s t) ∧
  (∀ (s : State) (l : Lane) (off : Nat) (v p : Word), s.accessOk l 0 off = true → plainReg off = true → boundaryOf off ≠ .live →
    (s.shadows.find? fun x => x.key == regKey l off) = some ⟨regKey l off, p, none⟩ →
    ∃ t, exec (.shadowedWrite l off v) s = .next t ∧
      (t.shadows.find? fun x => x.key == regKey l off) = some ⟨regKey l off, p, some (v &&& regMask off)⟩ ∧
      (∀ k : Nat, k ≠ regKey l off → (t.shadows.find? fun x => x.key == k) = s.shadows.find? fun x => x.key == k) ∧
      OnlyIn [.shadows] s t) ∧
  (∀ (s : State) (l : Lane) (off : Nat) (v p h : Word), RegsWf s → s.accessOk l 0 off = true → plainReg off = true →
    boundaryOf off ≠ .live → (s.shadows.find? fun x => x.key == regKey l off) = some ⟨regKey l off, p, some h⟩ →
    ∃ t, exec (.shadowedWrite l off v) s = .next t ∧
      (t.shadows.find? fun x => x.key == regKey l off) = some ⟨regKey l off, p, some (v &&& regMask off)⟩ ∧
      (∀ k : Nat, k ≠ regKey l off → (t.shadows.find? fun x => x.key == k) = s.shadows.find? fun x => x.key == k) ∧
      t.reg Off.TLM_REPLACED_CNT = s.reg Off.TLM_REPLACED_CNT + 1 ∧
      (off / 65536 = 2 → t.reg (laneKey l Off.CYC_CFG_REPLACED) = s.reg (laneKey l Off.CYC_CFG_REPLACED) + 1) ∧
      RegsOnly (if off / 65536 = 2 then [Off.TLM_REPLACED_CNT, Off.CYC_CFG_REPLACED] else [Off.TLM_REPLACED_CNT]) s t ∧
      OnlyIn [.shadows, .regs] s t) ∧
  (∀ (s : State) (l : Lane) (core off : Nat) (v : Word), RegsWf s → s.accessOk l core off = true → plainReg off = true →
    boundaryOf off = .live → off % 4 = 0 →
    ∃ t, exec (.registerWrite l core off v) s = .next t ∧ t.reg (regKey l off) = v &&& regMask off ∧
      (∀ k : Nat, k ≠ regKey l off → t.reg k = s.reg k) ∧ OnlyIn [.regs] s t)

/-! ### Faults of parts (Table 1.9) -/

/-- CLOCK_FAULT (R25 to R27), SLICE_COUNTER_FAULT (R119), SLICE_OUTPUT_DISAGREEMENT (R35) and DOMAIN_PROTECTION_OPEN (R35): a lane with a bad clock or a
shorted domain leaves the vote, the first voter slice lost leaves the 2oo3, and a second lane, a second slice or the hub clock make the module
fail-silent. SUPERVISOR_HEARTBEAT_LOSS, NET_ENGINE_FAULT, GUARDIAN_FAULT, DSP_FAULT and DSP_RESTART (R35, Table 1.9) and SUPPLY_DIP (R58). A heartbeat
is not missed while a warm restart suspends the watch (R526). A restarted DSP without a committed checkpoint has lost its fix (Table 5.16). -/
def Obligations.PartAndEngineFaults : Prop :=
  (∀ (s : State) (p : Nat) (l : Lane), partLane p = some l → s.up = true → s.quiet = true → s.inVote l = true → s.lanesIn.length = 3 →
    (∃ t, exec (.clockFault p) s = .next t ∧ LeftVote l .clock s t ∧ OnlyIn exclParts s t) ∧
    (∃ t, exec (.domainProtectionOpen p) s = .next t ∧ LeftVote l .domain s t ∧
      t.mems.get l = { Reset.laneMem with domainOpen := true } ∧ OnlyIn exclParts s t)) ∧
  (∀ (s : State) (p : Nat) (l : Lane), partLane p = some l → s.up = true → s.inVote l = true → s.lanesIn.length < 3 →
    (∃ t, exec (.clockFault p) s = .next t ∧ FellSilent s t ∧ OnlyIn silentParts s t) ∧
    (∃ t, exec (.domainProtectionOpen p) s = .next t ∧ FellSilent s t ∧ OnlyIn (.mems :: silentParts) s t)) ∧
  (∀ (s : State) (k : Nat) (c : Instr), c ∈ [.clockFault (k + 3), .sliceCounterFault k, .domainProtectionOpen (k + 3), .sliceOutputDisagreement k] →
    k < 3 → s.up = true → s.vot.slices = 7 →
    ∃ t, exec c s = .next t ∧ t.vot = { s.vot with slices := 7 &&& ~~~(1#3 <<< k) } ∧ Recorded 0x0208 [iU8 1 (k + 1)] s t ∧
      Raised Irq.VOT_SLICE_REMOVED t ∧ RegsOnly [Off.REC_LOST_CNT] s t ∧ OnlyIn (.vot :: recParts) s t) ∧
  (∀ (s : State) (k : Nat) (c : Instr), c ∈ [.clockFault (k + 3), .sliceCounterFault k, .domainProtectionOpen (k + 3), .sliceOutputDisagreement k] →
    k < 3 → s.up = true → s.vot.slices ≠ 7 → s.vot.slices.getLsbD k = true →
    ∃ t, exec c s = .next t ∧ t.vot.slices = s.vot.slices &&& ~~~(1#3 <<< k) ∧ FellSilent s t ∧ OnlyIn silentParts s t) ∧
  (∀ (s : State), s.up = true →
    ∃ t, exec (.clockFault 6) s = .next t ∧ t.sys = { s.sys with hubFault := true, failSilent := true } ∧ FellSilent s t ∧ OnlyIn silentParts s t) ∧
  (∀ (s : State), s.up = true → s.watchSuspended = false →
    ∃ t, exec .supervisorHeartbeatLoss s = .next t ∧ FellSilent s t ∧ OnlyIn silentParts s t) ∧
  (∀ (s : State) (b : Bool), s.up = true → (if b then s.sys.netB else s.sys.netA).off = false →
    ∃ t, exec (.netEngineFault b) s = .next t ∧
      t.sys = (if b then { s.sys with netB := { s.sys.netB with off := true } } else { s.sys with netA := { s.sys.netA with off := true } }) ∧
      Recorded 0x0701 [iU8 1 (b2n b)] s t ∧ RegsOnly [Off.REC_LOST_CNT] s t ∧ OnlyIn (.sys :: recParts) s t) ∧
  (∀ (s : State), s.up = true → s.sys.guardianFault = false →
    ∃ t, exec .guardianFault s = .next t ∧ t.sys = { s.sys with guardianFault := true } ∧ Recorded 0x0702 [] s t ∧
      RegsOnly [Off.REC_LOST_CNT] s t ∧ OnlyIn (.sys :: recParts) s t) ∧
  (∀ (s : State), s.up = true → s.sys.dspFault = false →
    ∃ t, exec .dspFault s = .next t ∧ t.sys = { s.sys with dspFault := true } ∧ t.odo = { s.odo with cls := 0 } ∧ t.sup.lock = .off ∧
      t.pst = { s.pst with armed := t.pst.armed } ∧ InQueue 0x0505 [] s t ∧ OnlyIn (.sys :: .odo :: .sup :: .pst :: recParts) s t) ∧
  (∀ (s : State), s.sys.dspFault = true → s.newestHalf = none →
    ∃ t, exec .dspRestart s = .next t ∧ t.sys = { s.sys with dspFault := false } ∧ t.odo.haveFix = false ∧ t.odo.unc = 0xFFFFFFFF ∧
      t.odo.history = [] ∧ t.odo.pos = s.odo.pos ∧ t.odo.cls = s.odo.cls ∧ t.odo.fixSeq = s.odo.fixSeq ∧
      (∀ n, (t.sensor n) = { s.sensor n with seen := (s.sensor n).count }) ∧ OnlyIn [.sys, .odo, .sup] s t) ∧
  (∀ (s : State) (d v : Nat), s.up = true → (d ≤ 10000 ∨ d ≤ 100000 ∧ 14400 ≤ v) → d < 4294967296 → v < 65536 →
    ∃ t, exec (.supplyDip d v) s = .next t ∧ t.sys = s.sys ∧ Recorded 0x0104 [iU32 1 d, iU16 2 v] s t ∧
      (v < 16800 → Raised Irq.SYS_SUPPLY_WARN t) ∧ RegsOnly [Off.REC_LOST_CNT] s t ∧ OnlyIn recParts s t)

/-! ### Modes, start-up and reset -/

/-- POWER_VALID (R50), POWER_FAIL (R58), WAKE and RTC_ALARM (R60), DORMANT_REACHED (R59). Only storage outlives the loss of power. -/
def Obligations.PowerAndWake : Prop :=
  (∀ (s : State) (ga : Nat), s.isl.powered = false → ga < 64 →
    ∃ t, exec (.powerValid ga) s = .next t ∧ t.sys.mode = .boot ∧ t.isl = { Reset.island with ga := ga, events := t.isl.events } ∧
      t.isl.events.map (·.type) = [0x0101] ∧ t.nv = { s.nv with porCount := s.nv.porCount + 1 } ∧ t.now = s.now ∧
      t.sys = { Reset.sys with startAt := s.now } ∧ t.reg Off.SYS_MODE_CHANGES = 1 ∧
      (∀ k : Nat, k ≠ Off.SYS_MODE_CHANGES → t.reg k = regReset k) ∧ AnewBut [.now, .free, .regs, .out, .nv, .isl, .chk, .sys] s t) ∧
  (∀ (s : State), s.isl.powered = true →
    ∃ t, exec .powerFail s = .next t ∧ t.isl = { Reset.island with powered := false, failN := true } ∧
      t.nv.slots = s.nv.slots ∧ t.nv.store = s.nv.store ∧ t.nv.half0 = s.nv.half0 ∧ t.nv.half1 = s.nv.half1 ∧
      (s.erec.state ≠ .failed → s.erec.queue = [] → s.isl.events = [] → s.erec.page = [] → ∃ r ∈ t.nv.nand.circulating, r.body.type = 0x0103) ∧
      AnewBut [.now, .free, .out, .nv, .isl, .chk] s t) ∧
  (∀ (s : State) (src b : Nat) (cause : Word), s.isl.powered = true → s.sys.mode = .dormant → wakeBit src = some (b, cause) →
    bit s.isl.wakeArmed b = true → s.wakeable src = true →
    ∃ t, exec (.wake src) s = .next t ∧ ResetTo 2 s t ∧ t.isl.wakeCause = cause ∧ t.isl.wakeArmed = 0) ∧
  (∀ (s : State) (src b : Nat) (cause : Word), s.isl.powered = true → s.sys.mode ≠ .dormant → s.sys.entering = true →
    s.isl.wakeEarly = none → wakeBit src = some (b, cause) → bit s.isl.wakeArmed b = true → s.wakeable src = true →
    ∃ t, exec (.wake src) s = .next t ∧ t.isl = { s.isl with wakeEarly := some cause } ∧ OnlyIn [.isl] s t) ∧
  (∀ (s : State), s.up = true → s.sys.entering = false → s.isl.rtcAlarm ≠ 0 → s.isl.rtcNs < 1000000000 →
    s.isl.rtc.toNat < s.isl.rtcAlarm.toNat →
    ∃ t, exec .rtcAlarm s = .next t ∧ t.isl = { s.isl with rtc := s.isl.rtcAlarm, rtcNs := 0 } ∧ Raised Irq.SYS_RTC_ALARM t ∧
      OnlyIn [.now, .nv, .time, .isl, .icus] s t) ∧
  (∀ (s : State), s.isl.powered = true → s.sys.mode = .dormant → bit s.isl.wakeArmed 5 = true → s.isl.rtcAlarm ≠ 0 → s.isl.rtcNs < 1000000000 →
    s.isl.rtc.toNat < s.isl.rtcAlarm.toNat →
    ∃ t, exec .rtcAlarm s = .next t ∧ t.sys.mode = .boot ∧ t.isl.resetCause = 2 ∧ t.isl.wakeCause = 32 ∧ t.isl.rtc = s.isl.rtcAlarm ∧
      AnewBut [.now, .regs, .free, .out, .nv, .isl, .upd, .ksp, .chk, .tlm, .sys, .dio] s t) ∧
  (∀ (s : State), s.up = true → s.sys.entering = true → s.isl.wakeEarly = none →
    ∃ t, exec .dormantReached s = .next t ∧ t.sys.mode = .dormant ∧ t.isl.rtc = s.isl.rtc ∧ t.isl.wakeArmed = s.isl.wakeArmed ∧
      t.nv.slots = s.nv.slots ∧ t.nv.store = s.nv.store ∧ t.now = s.now ∧ AnewBut [.now, .free, .out, .nv, .isl, .upd, .ksp, .chk, .tlm, .sys, .dio] s t) ∧
  (∀ (s : State) (cause : Word), s.up = true → s.sys.entering = true → s.isl.wakeEarly = some cause →
    ∃ t, exec .dormantReached s = .next t ∧ t.sys.mode = .boot ∧ t.isl.resetCause = 2 ∧ t.isl.wakeCause = cause ∧
      AnewBut [.now, .regs, .free, .out, .nv, .isl, .upd, .ksp, .chk, .tlm, .sys, .dio] s t)

/-- BOOT_COMPLETE (R53, R54), VERIFY_COMPLETE (R44, R374, R464, Table 2.4) and START_WATCHDOG (R55). VERIFY that finds nothing wrong ends START-UP of a
module without network and pair: it stays for its first cycle start, or is SAFE-HOLD.COMMISSIONING where TARGET or the CPF asks for it. -/
def Obligations.StartUp : Prop :=
  (∀ (s : State) (a b c : BitVec 8),
    s.up = true → s.sys.mode = .boot → s.sys.recovery = false → (∀ x, x < 3 → (revertTrial (followMarks s)).bootSlot (Tri.mk a b c).get x ≠ none) →
    ∃ t, exec (.bootComplete a b c) s = .next t ∧ t.sys.mode = .verify ∧
      t.sys.cpfValid = ((revertTrial (followMarks s)).bootSlot (Tri.mk a b c).get 3).isSome ∧ t.isl.supLoaded = true ∧ OnlyIn exclParts s t) ∧
  (∀ (s : State) (a b c : BitVec 8) (x : Nat),
    s.up = true → s.sys.mode = .boot → s.sys.recovery = false → x < 3 → (revertTrial (followMarks s)).bootSlot (Tri.mk a b c).get x = none →
    ∃ t, exec (.bootComplete a b c) s = .next t ∧ t.sys = { s.sys with recovery := true } ∧ OnlyIn [.regs, .sys, .isl, .nv, .icus, .erec] s t) ∧
  (∀ (s : State) (ok odd : BitVec 3) (store : BitVec 2), s.up = true → s.sys.mode = .verify →
    (∀ l, (s.vot.lanes.get l).phase = .selftest) → s.freshBases → odd = 0 → 2 ≤ ((Lane.all.filter fun l => ok.getLsbD l.idx).length) →
    ∃ t, exec (.verifyComplete ok odd false store) s = .next t ∧ t.sys.mode = .safeHold ∧ t.sys.active.getLsbD 3 = true ∧
      t.isl.startResets = 0 ∧ (∀ l, t.inVote l = ok.getLsbD l.idx) ∧
      (∀ l, ok.getLsbD l.idx = false → (t.vot.lanes.get l).cause = Cause.self.code) ∧ OnlyIn verifyParts s t) ∧
  (∀ (s : State) (ok odd : BitVec 3) (hold : Bool) (store : BitVec 2), s.up = true → s.sys.mode = .verify →
    (∀ l, (s.vot.lanes.get l).phase = .selftest) → odd = 0 → (Lane.all.filter fun l => ok.getLsbD l.idx).length < 2 →
    ∃ t, exec (.verifyComplete ok odd hold store) s = .next t ∧ t.sys.mode = .safeHold ∧ t.sys.active.getLsbD 1 = true ∧
      (t.sys.active &&& 0x91 = 0 → t.sys.first = Reason.lanes.code) ∧ OnlyIn verifyParts s t) ∧
  (∀ (s : State), s.up = true → s.sys.mode = .verify → (∀ l, (s.vot.lanes.get l).phase = .selftest) → s.freshBases → s.sys.found = 0 →
    s.sys.overVolt = false → s.nv.tamper = false → s.sys.storeBad = false → s.chk.takeover = none → s.nv.life = .field →
    (∀ l, (s.mem l).secure = .valid) → (loadObjects s).ftnNode = false → (loadObjects s).pairMember = false →
    (∀ x, x < 5 → s.runHeader x = none) → (∀ l, s.cycCheck ((loadObjects s).reg (laneKey l Off.CYC_CFG)) = 0) →
    ∃ t, exec (.verifyComplete 7 0 true 3) s = .next t ∧ (∀ l, t.inVote l = true) ∧ t.dio.enabled = true ∧ t.sys.startDone = true ∧
      t.sys.mode = (if fld (t.reg Off.SYS_START_CFG) 0 2 = 0 ∧ t.sys.cpfValid = true then .verify else .safeHold) ∧
      t.sys.active = (if fld (t.reg Off.SYS_START_CFG) 0 2 = 0 ∧ t.sys.cpfValid = true then 0 else 0x40) ∧
      (s.newestHalf = none → t.nv.store = s.nv.store) ∧ t.nv.copy0 = true ∧ t.nv.copy1 = true ∧ t.isl.startResets = 0 ∧ OnlyIn verifyParts s t) ∧
  (∀ (s : State), s.up = true → s.sys.mode = .boot ∨ s.sys.mode = .verify → s.sys.recovery = false →
    ∃ t, exec .startWatchdog s = .next t ∧ ResetTo 5 s t ∧ t.isl.startResets = s.isl.startResets + 1 ∧
      t.sys.recovery = decide (3 ≤ s.isl.startResets + 1))

/-- The refusals of R64: a wrong KEY with any REQ, or a REQ that Table 2.10 does not list, in every mode the registers can be reached in;
SYS_MODE_REQ_STATUS tells it as Table 2.11 has it, and the rejection is counted. -/
def Obligations.ModeRequestRefused : Prop :=
  (∀ (s : State) (c : Instr) (req : Nat) (key : Half), RegsWf s → s.up = true →
    (c = .requestDormant key ∧ req = 1 ∨ c = .requestOperational key ∧ req = 4 ∨ c = .requestSafeHold key ∧ req = 6) → key ≠ 0x4D51 →
    ∃ t, exec c s = .next t ∧ t.reg Off.SYS_MODE_REQ_STATUS = modeStatus (s.reg Off.SYS_MODE_REQ_STATUS) 3 3 req ∧
      t.reg Off.SYS_REQ_REJECTS = s.reg Off.SYS_REQ_REJECTS + 1 ∧
      RegsOnly [Off.SYS_MODE_REQ_STATUS, Off.SYS_REQ_REJECTS] s t ∧ OnlyIn [.regs, .icus] s t) ∧
  (∀ (s : State) (l : Lane) (core cause : Nat) (v : Word), RegsWf s → s.accessOk l core Off.SYS_MODE_REQ = true →
    (fld v 16 16 ≠ 0x4D51 ∧ cause = 3 ∨ fld v 16 16 = 0x4D51 ∧ fld v 0 4 ∉ [1, 4, 6] ∧ cause = 4) →
    ∃ t, exec (.registerWrite l core Off.SYS_MODE_REQ v) s = .next t ∧
      t.reg Off.SYS_MODE_REQ_STATUS = modeStatus (s.reg Off.SYS_MODE_REQ_STATUS) 3 cause (fld v 0 4) ∧
      t.reg Off.SYS_REQ_REJECTS = s.reg Off.SYS_REQ_REJECTS + 1 ∧
      RegsOnly [Off.SYS_MODE_REQ_STATUS, Off.SYS_REQ_REJECTS] s t ∧ OnlyIn [.regs, .icus] s t)

/-- REQUEST_DORMANT, REQUEST_OPERATIONAL and REQUEST_SAFE_HOLD with the key (R57, R65): a request of the present mode is DONE, one that needs a boundary
waits for it, and one that the mode or a reason forbids is rejected with its cause. A request behind one that waits is held (R13). -/
def Obligations.ModeRequests : Prop :=
  (∀ (s : State) (c : Instr) (req : Nat), RegsWf s → s.up = true → s.sys.entering = false → s.pendingAt reqKey = none →
    (c = .requestDormant 0x4D51 ∧ req = 1 ∧ (s.running ∨ s.held) ∨
     c = .requestSafeHold 0x4D51 ∧ req = 6 ∧ s.running ∨
     c = .requestOperational 0x4D51 ∧ req = 4 ∧ s.held ∧ s.sys.active &&& 0xBB = 0 ∧ s.sys.cpfValid = true ∧
       (s.ftnNode = true → s.ftn.su = .integrated)) →
    ∃ t, exec c s = .next t ∧ t.pendingAt reqKey = some (reqWord 0x4D51 req) ∧
      t.reg Off.SYS_MODE_REQ_STATUS = modeBusy (s.reg Off.SYS_MODE_REQ_STATUS) ∧
      RegsOnly [Off.SYS_MODE_REQ_STATUS] s t ∧ OnlyIn [.regs, .shadows] s t) ∧
  (∀ (s : State) (c : Instr) (req : Nat) (p : Word), RegsWf s → s.up = true →
    (c = .requestDormant 0x4D51 ∧ req = 1 ∨ c = .requestOperational 0x4D51 ∧ req = 4 ∨ c = .requestSafeHold 0x4D51 ∧ req = 6) →
    (s.shadows.find? fun x => x.key == reqKey) = some ⟨reqKey, p, none⟩ →
    ∃ t, exec c s = .next t ∧ (t.shadows.find? fun x => x.key == reqKey) = some ⟨reqKey, p, some (reqWord 0x4D51 req)⟩ ∧
      t.reg Off.SYS_MODE_REQ_STATUS = modeBusy (s.reg Off.SYS_MODE_REQ_STATUS) ∧
      RegsOnly [Off.SYS_MODE_REQ_STATUS] s t ∧ OnlyIn [.regs, .shadows] s t) ∧
  (∀ (s : State) (c : Instr) (req : Nat), RegsWf s → s.up = true → s.sys.entering = false → s.pendingAt reqKey = none →
    (c = .requestOperational 0x4D51 ∧ req = 4 ∧ s.running ∨ c = .requestSafeHold 0x4D51 ∧ req = 6 ∧ s.held) →
    ∃ t, exec c s = .next t ∧ t.reg Off.SYS_MODE_REQ_STATUS = modeStatus (s.reg Off.SYS_MODE_REQ_STATUS) 2 0 req ∧
      Raised Irq.SYS_REQ_DONE t ∧ RegsOnly [Off.SYS_MODE_REQ, Off.SYS_MODE_REQ_STATUS] s t ∧ OnlyIn [.regs, .icus] s t) ∧
  (∀ (s : State) (c : Instr) (req cause : Nat), RegsWf s → s.up = true → s.pendingAt reqKey = none →
    ((c = .requestDormant 0x4D51 ∧ req = 1 ∨ c = .requestOperational 0x4D51 ∧ req = 4 ∨ c = .requestSafeHold 0x4D51 ∧ req = 6) ∧
       cause = 1 ∧ (s.sys.entering = true ∨ ¬ s.running ∧ ¬ s.held) ∨
     c = .requestOperational 0x4D51 ∧ req = 4 ∧ s.sys.entering = false ∧ s.held ∧
       (cause = 2 ∧ s.sys.active &&& 0xBB ≠ 0 ∨ cause = 7 ∧ s.sys.active &&& 0xBB = 0 ∧ s.sys.cpfValid = false ∨
        cause = 6 ∧ s.sys.active &&& 0xBB = 0 ∧ s.sys.cpfValid = true ∧ s.ftnNode = true ∧ s.ftn.su ≠ .integrated)) →
    ∃ t, exec c s = .next t ∧ t.reg Off.SYS_MODE_REQ_STATUS = modeStatus (s.reg Off.SYS_MODE_REQ_STATUS) 3 cause req ∧
      t.reg Off.SYS_REQ_REJECTS = s.reg Off.SYS_REQ_REJECTS + 1 ∧ Raised Irq.SYS_REQ_DONE t ∧
      RegsOnly [Off.SYS_MODE_REQ_STATUS, Off.SYS_REQ_REJECTS] s t ∧ OnlyIn [.regs, .icus] s t)

/-- AUTO_RESTART (R43), MODULE_RESET_REQUEST (R62), OVERVOLTAGE_SUPPLY and HOLDUP_TEST (R56, Table 2.4). -/
def Obligations.ResetsAndSupply : Prop :=
  (∀ (s : State), s.hubOn = true → s.sys.failSilent = true → bit (s.reg Off.SYS_START_CFG) 8 = true → s.restartFree = true →
    ∃ t, exec .autoRestart s = .next t ∧ ResetTo 4 s t ∧ t.nv.autoRestart = some s.nv.opSeconds.toNat) ∧
  (∀ (s : State) (v : Word), s.up = true → fld v 16 16 = 0x5253 → fld v 0 4 = 1 →
    ∃ t, exec (.moduleResetRequest v) s = .next t ∧ ResetTo 3 s t) ∧
  (∀ (s : State) (v : Word), RegsWf s → s.up = true → fld v 16 16 ≠ 0x5253 →
    ∃ t, exec (.moduleResetRequest v) s = .next t ∧ t.reg Off.SYS_REQ_REJECTS = s.reg Off.SYS_REQ_REJECTS + 1 ∧
      RegsOnly [Off.SYS_REQ_REJECTS] s t ∧ OnlyIn [.regs] s t) ∧
  (∀ (s : State) (v : Word), s.up = true → fld v 16 16 = 0x5253 → fld v 0 4 ≠ 1 → exec (.moduleResetRequest v) s = .next s) ∧
  (∀ (s : State), s.up = true → s.sys.mode.code ≠ 2 →
    (∃ t, exec .overvoltageSupply s = .next t ∧ HeldWith .supply s t ∧ t.sys.overVolt = true ∧ Raised Irq.SYS_SUPPLY_WARN t ∧ OnlyIn exclParts s t) ∧
    (∃ t, exec (.holdupTest false) s = .next t ∧ HeldWith .supply s t ∧ t.sys.overVolt = true ∧ InQueue 0x0104 [] s t ∧ OnlyIn exclParts s t)) ∧
  (∀ (s : State), s.up = true → s.sys.mode.code = 2 →
    (∃ t, exec .overvoltageSupply s = .next t ∧ t.sys = { s.sys with overVolt := true, found := s.sys.found ||| Reason.supply.bit } ∧
      Raised Irq.SYS_SUPPLY_WARN t ∧ OnlyIn [.sys, .icus] s t) ∧
    (∃ t, exec (.holdupTest false) s = .next t ∧ t.sys = { s.sys with overVolt := true, found := s.sys.found ||| Reason.supply.bit } ∧
      Recorded 0x0104 [] s t ∧ RegsOnly [Off.REC_LOST_CNT] s t ∧ OnlyIn (.sys :: recParts) s t) ∧
    (∃ t, exec (.holdupTest true) s = .next t ∧ t.sys = { s.sys with overVolt := false, found := s.sys.found &&& ~~~Reason.supply.bit } ∧
      OnlyIn [.sys] s t)) ∧
  (∀ (s : State), s.up = true → s.held = true → s.sys.active.getLsbD 3 = true →
    ∃ t, exec (.holdupTest true) s = .next t ∧ t.sys.mode = .safeHold ∧ t.sys.overVolt = false ∧ t.sys.active.getLsbD 3 = false ∧
      (s.sys.active &&& 0xB7 = 0 → bit (s.reg Off.SYS_START_CFG) 9 = false → t.sys.active = 0x40) ∧ OnlyIn (.sys :: recParts) s t)

/-! ### The Sluice -/

/-- VOTED_WRITE and VOTED_READ (R68, R71, R79): the first access of a stream and sequence waits, and the second that agrees with it resolves both: a LIVE
register has the value, a configuration register is sampled once for both lanes. Nothing else is outstanding, the first access has come at most 2 us
before, and no more than its window passes. -/
def Obligations.VotedAccess : Prop :=
  (∀ (s : State) (l : Lane) (st : Nat) (seq : Word) (addr : Nat) (v : Word) (w : Bool) (time : Nat), s.up = true → s.inVote l = true →
    2 ≤ s.lanesIn.length → st < 48 → votedTarget addr = true → isDigest addr = false → s.vot.open_ = [] → s.vot.kept = [] → s.now ≤ time →
    ∃ t, exec (if w then .votedWrite l st seq addr v time else .votedRead l st seq addr time) s = .next t ∧ t.now = time ∧
      t.vot.open_ = [⟨st, seq, [⟨l, time, addr, w, if w then v else 0⟩], []⟩] ∧ t.vot.kept = [] ∧
      look (t.vot.lanes.get l).seqs st = some (seq + 1) ∧ (∀ m : Lane, m ≠ l → t.vot.lanes.get m = s.vot.lanes.get m) ∧
      OnlyIn [.now, .time, .nv, .isl, .vot] s t) ∧
  (∀ (s : State) (l m : Lane) (st : Nat) (seq : Word) (addr : Nat) (v : Word) (at_ time : Nat), RegsWf s → s.up = true → s.inVote l = true →
    s.inVote m = true → l ≠ m → st < 48 → votedTarget addr = true → plainReg addr = true → boundaryOf addr = .live →
    s.vot.open_ = [⟨st, seq, [⟨m, at_, addr, true, v⟩], []⟩] → s.vot.kept = [] → at_ ≤ s.now → s.now ≤ time → time ≤ at_ + 2000 →
    ∃ t, exec (.votedWrite l st seq addr v time) s = .next t ∧ t.now = time ∧ t.reg addr = v &&& regMask addr ∧
      (∀ k : Nat, k ≠ addr → t.reg k = s.reg k) ∧ t.vot.open_ = [] ∧
      t.vot.kept = [⟨st, seq, addr, true, v, false, false, time, [m, l]⟩] ∧
      (∀ x : Lane, (t.vot.lanes.get x).phase = (s.vot.lanes.get x).phase) ∧ OnlyIn [.now, .time, .nv, .isl, .regs, .vot] s t) ∧
  (∀ (s : State) (l m : Lane) (st : Nat) (seq : Word) (addr : Nat) (at_ time : Nat), s.up = true → s.inVote l = true →
    s.inVote m = true → l ≠ m → st < 48 → addr ∈ [Off.VOT_CFG, Off.PST_CFG, Off.ODO_CFG, Off.SUP_CFG, Off.DIO_OUT_CFG, Off.REC_CFG] →
    s.latches = [] → s.vot.open_ = [⟨st, seq, [⟨m, at_, addr, false, 0⟩], []⟩] → s.vot.kept = [] → at_ ≤ s.now → s.now ≤ time →
    time ≤ at_ + 2000 →
    ∃ t, exec (.votedRead l st seq addr time) s = .next t ∧ t.now = time ∧ (t.vot.lanes.get l).answer = ⟨st / 8, s.reg addr, false⟩ ∧
      (t.vot.lanes.get m).answer = ⟨st / 8, s.reg addr, false⟩ ∧ t.vot.open_ = [] ∧
      t.vot.kept = [⟨st, seq, addr, false, s.reg addr, false, false, time, [m, l]⟩] ∧ OnlyIn [.now, .time, .nv, .isl, .vot] s t)

/-- LATE_ACCESS (R72, R77, R82): the third lane's access finds its majority resolved. It has no effect on the target; a read takes the kept value; outside
the window it counts on the lane's skew run, and a write of another value counts as a minority. LATE_LIMIT_EXPIRY (R78) of a resolved access: the one
lane that has not delivered it leaves the vote, and with two lanes in vote the module goes fail-silent; HUB_PORT_RETRY_EXHAUSTED (R22, R23, Table
3.3), four attempts that do not pass the check: late for that access and counted, and the sixteenth failure within 1 s excludes. -/
def Obligations.LateAccesses : Prop :=
  (∀ (s : State) (l : Lane) (st : Nat) (seq : Word) (addr : Nat) (v w : Word) (wr : Bool) (at_ time : Nat) (ls : List Lane), RegsWf s →
    s.up = true → s.inVote l = true → st < 48 → votedTarget addr = true → isDigest addr = false → s.vot.open_ = [] →
    s.vot.kept = [⟨st, seq, addr, wr, v, false, false, at_, ls⟩] → l ∉ ls → (wr = true → w = v) → s.now ≤ time → at_ + 2000 < time →
    time < at_ + s.lateLimit → (s.vot.lanes.get l).skewRun + 1 < max 1 (fld (s.reg Off.VOT_CFG) 8 8) →
    ∃ t, exec (.lateAccess l st seq addr wr w time) s = .next t ∧ t.now = time ∧ (t.vot.lanes.get l).skewRun = (s.vot.lanes.get l).skewRun + 1 ∧
      (wr = false → (t.vot.lanes.get l).answer = ⟨st / 8, v, false⟩) ∧ t.vot.kept = [⟨st, seq, addr, wr, v, false, false, at_, ls ++ [l]⟩] ∧
      t.reg (Off.VOT_SKEW_CNT + 4 * l.idx) = s.reg (Off.VOT_SKEW_CNT + 4 * l.idx) + 1 ∧ Raised Irq.VOT_SKEW t ∧
      RegsOnly [Off.VOT_SKEW_CNT + 4 * l.idx] s t ∧ OnlyIn [.now, .time, .nv, .isl, .regs, .vot, .icus] s t) ∧
  (∀ (s : State) (l : Lane) (st : Nat) (seq : Word) (addr : Nat) (v w : Word) (at_ time : Nat) (ls : List Lane), RegsWf s →
    s.up = true → s.inVote l = true → st < 48 → votedTarget addr = true → isDigest addr = false → s.vot.open_ = [] →
    s.vot.kept = [⟨st, seq, addr, true, v, false, false, at_, ls⟩] → l ∉ ls → w ≠ v → s.now ≤ time → at_ ≤ time → time ≤ at_ + 2000 →
    (s.vot.lanes.get l).safetyRun + 1 < max 1 (fld (s.reg Off.VOT_CFG) 0 2) → (s.vot.lanes.get l).stdRun + 1 < max 1 (fld (s.reg Off.VOT_CFG) 4 4) →
    ∃ t, exec (.lateAccess l st seq addr true w time) s = .next t ∧ t.reg (Off.VOT_DIS_CNT + 4 * l.idx) = s.reg (Off.VOT_DIS_CNT + 4 * l.idx) + 1 ∧
      t.reg Off.VOT_DIS_ADDR = BitVec.ofNat 32 (addr % 2097152) ∧ Raised Irq.VOT_DISAGREE t ∧ t.inVote l = true ∧
      InQueue 0x0204 [iU8 1 l.idx, iU32 2 (addr % 2097152), iU8 3 0] s t ∧
      RegsOnly [Off.VOT_DIS_CNT + 4 * l.idx, Off.VOT_DIS_ADDR, Off.VOT_DIS_INFO, Off.REC_LOST_CNT] s t ∧
      OnlyIn [.now, .time, .nv, .isl, .regs, .vot, .icus, .erec] s t) ∧
  (∀ (s : State) (l : Lane) (k : KeptAccess), s.up = true → s.quiet = true → s.inVote l = true → k.stream < 48 → s.vot.kept = [k] →
    (∀ m : Lane, m ∈ k.lanes ↔ m ≠ l) → s.now ≤ k.at_ + s.lateLimit →
    (s.lanesIn.length = 3 → ∃ t, exec (.lateLimitExpiry k.stream k.seq) s = .next t ∧ t.now = k.at_ + s.lateLimit ∧ LeftVote l .late s t ∧
      t.vot.kept = [] ∧ OnlyIn (.now :: .time :: exclParts) s t) ∧
    (s.lanesIn.length = 2 → ∃ t, exec (.lateLimitExpiry k.stream k.seq) s = .next t ∧ FellSilent s t ∧ OnlyIn (.now :: .time :: silentParts) s t)) ∧
  (∀ (s : State) (l : Lane) (st : Nat) (seq : Word) (xs : List HubTransfer), RegsWf s → s.up = true → s.inVote l = true → xs.length = 4 →
    (∀ x ∈ xs, s.portPasses l x = false) →
    ((s.vot.lanes.get l).portFails.filter fun t => decide (s.now < t + 1000000000)).length < 15 →
    (s.vot.lanes.get l).skewRun + 1 < max 1 (fld (s.reg Off.VOT_CFG) 8 8) →
    ∃ t, exec (.hubPortRetryExhausted l st seq xs) s = .next t ∧
      t.reg (Off.TLM_HUBPORT_ERR + 4 * l.idx) = s.reg (Off.TLM_HUBPORT_ERR + 4 * l.idx) + 1 ∧
      t.reg (Off.VOT_SKEW_CNT + 4 * l.idx) = s.reg (Off.VOT_SKEW_CNT + 4 * l.idx) + 1 ∧
      (t.vot.lanes.get l).skewRun = (s.vot.lanes.get l).skewRun + 1 ∧ s.now ∈ (t.vot.lanes.get l).portFails ∧ t.inVote l = true ∧
      Raised Irq.VOT_SKEW t ∧ RegsOnly [Off.TLM_HUBPORT_ERR + 4 * l.idx, Off.VOT_SKEW_CNT + 4 * l.idx] s t ∧ OnlyIn [.regs, .vot, .icus] s t) ∧
  (∀ (s : State) (l : Lane) (st : Nat) (seq : Word) (xs : List HubTransfer), s.up = true → s.quiet = true → s.inVote l = true →
    s.lanesIn.length = 3 → xs.length = 4 → (∀ x ∈ xs, s.portPasses l x = false) →
    15 ≤ ((s.vot.lanes.get l).portFails.filter fun t => decide (s.now < t + 1000000000)).length →
    (s.vot.lanes.get l).skewRun + 1 < max 1 (fld (s.reg Off.VOT_CFG) 8 8) →
    ∃ t, exec (.hubPortRetryExhausted l st seq xs) s = .next t ∧ LeftVote l .hubPort s t ∧ OnlyIn exclParts s t)

/-- VOT_FENCE_READ (R87), PATH_MASK (R92) and DIGEST_PEER_EXCHANGE (R101). -/
def Obligations.FenceMaskAndPeers : Prop :=
  (∀ (s : State) (l : Lane) (st : Nat), s.up = true → s.inVote l = true → st < 64 → (∀ e ∈ s.vot.open_, e.stream ≠ st) →
    ∃ t, exec (.votFenceRead l st) s = .next t ∧
      t.vot = { s.vot with lanes := s.vot.lanes.set l { s.vot.lanes.get l with answer := ⟨st / 8, 0, false⟩ } } ∧ OnlyIn [.vot] s t) ∧
  (∀ (s : State) (l : Lane) (st : Nat) (e : OpenAccess), e ∈ s.vot.open_ → e.stream = st → exec (.votFenceRead l st) s = .next s) ∧
  (∀ (s : State) (l : Lane) (ch : Nat), RegsWf s → s.up = true → s.inVote l = true → ch < 50 → s.pathMasked l ch = false →
    ∃ t, exec (.pathMask l ch) s = .next t ∧ t.reg (maskAt l ch).1 = (s.reg (maskAt l ch).1 ||| 1#32 <<< (maskAt l ch).2) ∧
      t.pathMasked l ch = true ∧ Raised Irq.VOT_PATH_MASKED t ∧ Recorded 0x0207 [iU8 1 l.idx, iU8 2 ch] s t ∧
      RegsOnly [(maskAt l ch).1, Off.REC_LOST_CNT] s t ∧ OnlyIn recParts s t) ∧
  (∀ (s : State) (l : Lane) (at_ : Nat) (d p q : DWord), s.up = true → s.inVote l = true → s.lanesIn.length = 3 →
    (s.vot.lanes.get l).digest = some (at_, d) →
    (¬ (p = q ∧ p ≠ d) → ∃ t, exec (.digestPeerExchange l p q) s = .next t ∧
      t.vot = { s.vot with lanes := s.vot.lanes.set l { s.vot.lanes.get l with peerRun := 0 } } ∧ OnlyIn [.vot] s t) ∧
    (p = q → p ≠ d → (s.vot.lanes.get l).peerRun + 1 < max 1 (fld (s.reg Off.VOT_CFG) 0 2) →
      ∃ t, exec (.digestPeerExchange l p q) s = .next t ∧
        t.vot = { s.vot with lanes := s.vot.lanes.set l { s.vot.lanes.get l with peerRun := (s.vot.lanes.get l).peerRun + 1 } } ∧ OnlyIn [.vot] s t) ∧
    (p = q → p ≠ d → max 1 (fld (s.reg Off.VOT_CFG) 0 2) ≤ (s.vot.lanes.get l).peerRun + 1 → s.quiet = true →
      ∃ t, exec (.digestPeerExchange l p q) s = .next t ∧ LeftVote l .self s t ∧ OnlyIn exclParts s t))

/-- OUTPUT_HANDOVER (R96, R97) and DIGEST_WRITE (R100, R311) in a running cycle: the first lane's image or digest waits, the second that equals it
decides; two lanes in vote that differ make the module fail-silent. -/
def Obligations.ImagesAndDigests : Prop :=
  (∀ (s : State) (l : Lane) (time : Nat), s.up = true → s.inVote l = true → 2 ≤ s.lanesIn.length →
    (s.laneCyc l).phase = 2 → s.vot.voted = none → (∀ m : Lane, m ≠ l → (s.vot.lanes.get m).handed = none) → s.now ≤ time →
    ∃ t, exec (.outputHandover l time) s = .next t ∧ t.now = time ∧ (t.vot.lanes.get l).handed = some (time, s.outImage l) ∧
      t.vot.voted = none ∧ (t.laneCyc l).phase = 4 ∧ (t.laneCyc l).execLast = (time - (s.laneCyc l).startAt) / 1000 ∧
      RegsOnly [Off.VOT_OUT_STATUS] s t ∧ OnlyIn [.now, .time, .nv, .isl, .regs, .vot, .cyc] s t) ∧
  (∀ (s : State) (l m : Lane) (at_ time : Nat), s.up = true → s.inVote l = true → s.inVote m = true → l ≠ m →
    (s.laneCyc l).phase = 2 → s.cyc.first = true → s.vot.voted = none → (s.vot.lanes.get m).handed = some (at_, s.outImage l) →
    (∀ x : Lane, x ≠ m → (s.vot.lanes.get x).handed = none) → at_ ≤ s.now → s.now ≤ time → time ≤ at_ + 2000 →
    ∃ t, exec (.outputHandover l time) s = .next t ∧ t.vot.voted = some (time, s.outImage l) ∧
      (t.cyc.firstImage.map (·.data)) = some ((s.outImage l).flatMap fun w => leBytes 8 w.toNat) ∧ t.dio = s.dio ∧
      (∀ x : Lane, (t.vot.lanes.get x).phase = (s.vot.lanes.get x).phase) ∧
      RegsOnly [Off.VOT_OUT_STATUS] s t ∧ OnlyIn [.now, .time, .nv, .isl, .regs, .vot, .cyc] s t) ∧
  (∀ (s : State) (l : Lane) (ws : List (Nat × List Byte)) (flip : DWord) (time : Nat), s.up = true → s.inVote l = true →
    2 ≤ s.lanesIn.length → (s.laneCyc l).phase = 4 → s.vot.votedDigest = none → (∀ m : Lane, m ≠ l → (s.vot.lanes.get m).digest = none) →
    s.now ≤ time →
    ∃ t, exec (.digestWrite l ws flip time) s = .next t ∧ (t.vot.lanes.get l).digest = some (time, s.ownDigest l ws ^^^ flip) ∧
      (t.laneCyc l).phase = 5 ∧ t.vot.digest = s.vot.digest ∧ t.vot.votedDigest = none ∧ OnlyIn [.now, .time, .nv, .isl, .vot, .cyc] s t) ∧
  (∀ (s : State) (l m : Lane) (ws : List (Nat × List Byte)) (flip d : DWord) (at_ time : Nat), s.up = true →
    (s.vot.lanes.get l).phase = .inVote → (s.vot.lanes.get m).phase = .inVote → l ≠ m → (s.laneCyc l).phase = 4 → s.vot.votedDigest = none →
    d = s.ownDigest l ws ^^^ flip → (s.vot.lanes.get m).digest = some (at_, d) → (∀ x : Lane, x ≠ m → (s.vot.lanes.get x).digest = none) →
    at_ ≤ s.now → s.now ≤ time → time ≤ at_ + 2000 →
    ∃ t, exec (.digestWrite l ws flip time) s = .next t ∧ t.vot.digest = d ∧ t.vot.votedDigest = some (time, d) ∧
      (t.vot.lanes.get l).digest = some (time, d) ∧ (t.laneCyc l).phase = 5 ∧ OnlyIn [.now, .time, .nv, .isl, .vot, .cyc] s t) ∧
  (∀ (s : State) (l m : Lane) (ws : List (Nat × List Byte)) (flip e : DWord) (at_ time : Nat), s.up = true → s.inVote l = true →
    s.inVote m = true → l ≠ m → s.lanesIn.length = 2 → (s.laneCyc l).phase = 4 → s.vot.votedDigest = none →
    (s.vot.lanes.get m).digest = some (at_, e) → s.ownDigest l ws ^^^ flip ≠ e → s.now ≤ time →
    ∃ t, exec (.digestWrite l ws flip time) s = .next t ∧ FellSilent s t ∧ OnlyIn (.now :: .time :: silentParts) s t)

/-- The phases of a live rejoin: REJOIN_REQUEST (R112), REJOIN_HOLD_END, REJOIN_BOOT_DONE, REJOIN_SELFTEST_DONE and REJOIN_PHASE_TIMEOUT (R107),
PRECOPY_PASS_END (R108), STOPCOPY_END (R109). A lane is in an attempt while the module is DEGRADED; a phase past its bound ends the attempt. -/
def Obligations.LiveRejoin : Prop :=
  (∀ (s : State) (v : Word) (l : Lane), s.up = true → s.sys.mode = .degraded → fld v 16 16 = 0x524A → fld v 0 2 = l.idx + 1 →
    s.inVote l = false → s.rejoins l = false →
    ∃ t, exec (.rejoinRequest v) s = .next t ∧
      t.vot = { s.vot with lanes := s.vot.lanes.set l { s.vot.lanes.get l with phase := .reset, phaseAt := s.now, waits := false, requested := true, history := [] } } ∧
      OnlyIn [.vot] s t) ∧
  (∀ (s : State) (v : Word), RegsWf s → s.up = true →
    (fld v 16 16 ≠ 0x524A ∨ fld v 0 2 = 0 ∨ s.sys.mode ≠ .degraded ∨ (∃ l : Lane, fld v 0 2 = l.idx + 1 ∧ (s.inVote l = true ∨ s.rejoins l = true))) →
    ∃ t, exec (.rejoinRequest v) s = .next t ∧ t.reg Off.VOT_REQ_REJECTS = s.reg Off.VOT_REQ_REJECTS + 1 ∧
      RegsOnly [Off.VOT_REQ_REJECTS] s t ∧ OnlyIn [.regs] s t) ∧
  (∀ (s : State) (l : Lane), s.inPhase l .reset = true → s.rejoins l = true →
    ∃ t, exec (.rejoinHoldEnd l) s = .next t ∧ t.now = max s.now ((s.vot.lanes.get l).phaseAt + (s.vot.lanes.get l).holdNs) ∧
      (t.vot.lanes.get l).phase = .boot ∧ (t.vot.lanes.get l).phaseAt = t.now ∧ (∀ m, m ≠ l → t.vot.lanes.get m = s.vot.lanes.get m) ∧
      OnlyIn [.now, .time, .nv, .isl, .vot] s t) ∧
  (∀ (s : State) (l : Lane), s.inPhase l .boot = true → s.overBound l = false →
    ∃ t, exec (.rejoinBootDone l) s = .next t ∧ (t.vot.lanes.get l).phase = .selftest ∧ (∀ m, m ≠ l → t.vot.lanes.get m = s.vot.lanes.get m) ∧
      (s.nv.identity.isSome = true → s.nv.tamper = false → (t.mems.get l).secure = .valid) ∧ (∀ m, m ≠ l → t.mems.get m = s.mems.get m) ∧
      OnlyIn [.vot, .mems] s t) ∧
  (∀ (s : State) (l : Lane), s.inPhase l .selftest = true → s.overBound l = false →
    (∃ t, exec (.rejoinSelftestDone l true) s = .next t ∧ (t.vot.lanes.get l).phase = .precopy ∧
      (∀ m, m ≠ l → t.vot.lanes.get m = s.vot.lanes.get m) ∧ OnlyIn [.vot] s t) ∧
    (∃ t, exec (.rejoinSelftestDone l false) s = .next t ∧ (t.vot.lanes.get l).phase = .retired ∧
      (t.vot.lanes.get l).cause = Cause.image.code ∧ t.vot.exclSeq = s.vot.exclSeq + 1 ∧ Raised Irq.VOT_REJOIN_FAILED t ∧
      InQueue 0x0203 [iU8 1 l.idx, iU8 2 7] s t ∧
      (∀ m, m ≠ l → t.vot.lanes.get m = s.vot.lanes.get m) ∧ OnlyIn [.free, .regs, .latches, .loWrites, .isl, .vot, .icus, .mems, .erec] s t)) ∧
  (∀ (s : State) (l : Lane) (n : Nat), s.inPhase l .precopy = true → (s.vot.lanes.get l).ready = false →
    (n ≤ (s.vot.lanes.get l).dirtyLimit ∨ (s.vot.lanes.get l).passes + 1 < (s.vot.lanes.get l).maxPasses) →
    ∃ t, exec (.precopyPassEnd l n) s = .next t ∧
      t.vot = { s.vot with lanes := s.vot.lanes.set l { s.vot.lanes.get l with passes := (s.vot.lanes.get l).passes + 1, dirty := n, ready := decide (n ≤ (s.vot.lanes.get l).dirtyLimit) } } ∧
      OnlyIn [.vot] s t) ∧
  (∀ (s : State) (l : Lane) (n : Nat), s.inPhase l .precopy = true → (s.vot.lanes.get l).ready = false → (s.vot.lanes.get l).dirtyLimit < n →
    (s.vot.lanes.get l).maxPasses ≤ (s.vot.lanes.get l).passes + 1 →
    ∃ t, exec (.precopyPassEnd l n) s = .next t ∧ (t.vot.lanes.get l).phase ∈ [Phase.reset, .retired] ∧
      (t.vot.lanes.get l).cause = Cause.rejoinFail.code ∧ t.vot.exclSeq = s.vot.exclSeq + 1 ∧ Raised Irq.VOT_REJOIN_FAILED t ∧
      InQueue 0x0203 [iU8 1 l.idx, iU8 2 8] s t ∧
      (∀ m, m ≠ l → t.vot.lanes.get m = s.vot.lanes.get m) ∧ OnlyIn [.free, .regs, .latches, .loWrites, .isl, .vot, .icus, .mems, .erec] s t) ∧
  (∀ (s : State) (l : Lane), s.inPhase l .stopcopy = true → s.overBound l = false →
    ∃ t, exec (.stopcopyEnd l) s = .next t ∧
      t.vot = { s.vot with lanes := s.vot.lanes.set l { s.vot.lanes.get l with ready := true, dirty := 0 } } ∧ OnlyIn [.vot] s t) ∧
  (∀ (s : State) (l : Lane), (s.inPhase l .boot = true ∨ s.inPhase l .selftest = true ∨ s.inPhase l .stopcopy = true) →
    (s.vot.lanes.get l).ready = false →
    ∃ t, exec (.rejoinPhaseTimeout l) s = .next t ∧ (t.vot.lanes.get l).phase ∈ [Phase.reset, .retired] ∧
      (t.vot.lanes.get l).cause = Cause.rejoinFail.code ∧ t.vot.exclSeq = s.vot.exclSeq + 1 ∧ Raised Irq.VOT_REJOIN_FAILED t ∧
      InQueue 0x0203 [iU8 1 l.idx, iU8 2 8] s t ∧ (∀ m, m ≠ l → t.vot.lanes.get m = s.vot.lanes.get m) ∧
      OnlyIn [.now, .time, .nv, .free, .regs, .latches, .loWrites, .isl, .vot, .icus, .mems, .erec] s t) ∧
  (∀ (s : State) (l : Lane) (ok : Bool) (c : Instr), s.overBound l = true →
    (c = .rejoinBootDone l ∧ s.inPhase l .boot = true ∨ c = .rejoinSelftestDone l ok ∧ s.inPhase l .selftest = true ∨
      c = .stopcopyEnd l ∧ s.inPhase l .stopcopy = true) →
    ∃ t, exec c s = .next t ∧ (t.vot.lanes.get l).phase ∈ [Phase.reset, .retired] ∧
      (t.vot.lanes.get l).cause = Cause.rejoinFail.code ∧ t.vot.exclSeq = s.vot.exclSeq + 1 ∧ Raised Irq.VOT_REJOIN_FAILED t ∧
      (∀ m, m ≠ l → t.vot.lanes.get m = s.vot.lanes.get m) ∧ OnlyIn [.free, .regs, .latches, .loWrites, .isl, .vot, .icus, .mems, .erec] s t)

/-! ### Time bases -/

/-- The servo of a base (R126, R127, R128, Table 4.2), alike in the lanes in vote: SERVO_OFFSET_INPUT as first input and as a further one of a LOCKED
base, SERVO_HOLD_ENTER and SERVO_HOLD_LIMIT. Times are those of TB2 in units of 2^-48 ns; quotients round toward minus infinity (log 60). -/
def Obligations.ServoOfABase : Prop :=
  (∀ (s : State) (n : Nat) (v : LaneServo) (e : Int) (cfg : Word), s.up = true → n ∈ [0, 1, 3] → s.alike n v →
    cfg = s.tbReg Off.TB_SERVO_CFG n → fld cfg 0 2 = 1 → (n = 1 → fld (s.maj Off.TB_CFG) 0 2 ≠ 0) → v.state = .free →
    e.natAbs ≤ max 1 (fld cfg 24 8) * 256000 →
    ∃ t, exec (.servoOffsetInput n e) s = .next t ∧
      Served n { v with state := .acquire, lockRun := 0, offRun := 0, inputAt := some s.time.tb2.time, lastE := e, valid := true, discards := 0 } s t ∧
      t.base n = { s.base n with servos := (t.base n).servos } ∧ Raised Irq.TB_STATE t ∧ Recorded 0x0401 [iU8 1 n, iU8 2 0, iU8 3 1] s t ∧
      RegsOnly [Off.REC_LOST_CNT] s t ∧ OnlyIn (.time :: recParts) s t) ∧
  (∀ (s : State) (n : Nat) (v : LaneServo) (e lim c i p : Int) (cfg gains : Word) (at_ : Nat), s.up = true → n ∈ [0, 1, 3] → s.alike n v →
    cfg = s.tbReg Off.TB_SERVO_CFG n → gains = s.tbReg Off.TB_GAINS n → fld cfg 0 2 = 1 → (n = 1 → fld (s.maj Off.TB_CFG) 0 2 ≠ 0) →
    v.state = .locked → e.natAbs ≤ max 1 (fld cfg 24 8) * 256000 → e.natAbs ≤ 4 * (max 1 (fld cfg 8 8) * 256) →
    v.inputAt = some at_ → at_ < s.time.tb2.time → lim = (max 1 (fld cfg 16 8) * 281474976710656 / 1000000 : Nat) →
    c = e * 1099511627776 * 281474976710656 / ((s.time.tb2.time - at_ : Nat) : Int) →
    i = max (-lim) (min (v.integral + (fld gains 16 16 : Int) * c / 32768) lim) → p = max (-lim) (min (i + (fld gains 0 16 : Int) * c / 32768) lim) →
    ∃ t, exec (.servoOffsetInput n e) s = .next t ∧
      (∀ l : Lane, s.inVote l = true → (t.servo n l).integral = i ∧ (t.servo n l).state = .locked ∧
        (t.servo n l).inputAt = some s.time.tb2.time ∧ (t.servo n l).lastE = e ∧ (t.servo n l).issued = v.issued + 1) ∧
      t.base n = { s.base n with rate := (((s.base 2).rate : Int) - p).toNat, servos := (t.base n).servos } ∧
      (∀ m, m < 4 → m ≠ n → t.base m = s.base m) ∧ t.time.votes = [] ∧ (∀ l : Lane, t.inVote l = s.inVote l) ∧
      RegsOnly [Off.TB_CLAMP_CNT + 4 * n] s t ∧ OnlyIn [.regs, .time, .vot, .icus] s t) ∧
  (∀ (s : State) (n at_ : Nat) (v : LaneServo), s.up = true → n ∈ [0, 1, 3] → s.alike n v → 0 < (s.base 2).rate →
    fld (s.tbReg Off.TB_SERVO_CFG n) 0 2 = 1 → v.inputAt = some at_ → (v.state = .locked ∨ v.state = .acquire) →
    ∃ t, exec (.servoHoldEnter n) s = .next t ∧
      t.now = (toTb2 (at_ + 1000000 * nsUnit * max 1 (fld (s.tbReg Off.TB_HOLD_CFG n) 0 16)) s).now ∧
      (v.state = .locked → (t.base n).rate = (((s.base 2).rate : Int) - v.integral).toNat ∧ Raised Irq.TB_HOLDOVER t ∧
        InQueue 0x0401 [iU8 1 n, iU8 2 2, iU8 3 3] s t ∧
        ∀ l : Lane, s.inVote l = true → (t.servo n l).state = .holdover ∧ (t.servo n l).integral = v.integral ∧ (t.servo n l).holdAt = t.time.tb2.time) ∧
      (v.state = .acquire → (t.base n).rate = (s.base 2).rate ∧ InQueue 0x0401 [iU8 1 n, iU8 2 1, iU8 3 0] s t ∧
        ∀ l : Lane, s.inVote l = true → (t.servo n l).state = .free ∧ (t.servo n l).integral = 0) ∧
      (∀ l : Lane, t.inVote l = s.inVote l) ∧ Raised Irq.TB_STATE t ∧ RegsOnly [Off.REC_LOST_CNT, Off.TB_HOLD_CNT] s t ∧
      OnlyIn (.now :: .time :: .nv :: .vot :: recParts) s t) ∧
  (∀ (s : State) (n : Nat) (v : LaneServo), s.up = true → n ∈ [0, 1, 3] → s.alike n v → 0 < (s.base 2).rate →
    fld (s.tbReg Off.TB_SERVO_CFG n) 0 2 = 1 → v.state = .holdover →
    ∃ t, exec (.servoHoldLimit n) s = .next t ∧
      t.now = (toTb2 (v.holdAt + 1000000000 * nsUnit * max 1 (fld (s.tbReg Off.TB_HOLD_CFG n) 16 16)) s).now ∧
      (∀ l : Lane, s.inVote l = true → (t.servo n l).state = .free ∧ (t.servo n l).integral = 0) ∧ (t.base n).rate = (s.base 2).rate ∧
      InQueue 0x0401 [iU8 1 n, iU8 2 3, iU8 3 0] s t ∧ (∀ l : Lane, t.inVote l = s.inVote l) ∧ Raised Irq.TB_STATE t ∧
      RegsOnly [Off.REC_LOST_CNT] s t ∧ OnlyIn (.now :: .time :: .nv :: .vot :: recParts) s t)

/-- TB_STEP_WRITE (R132, R133), TB_RATE_WRITE (R125) and TB_OFFSET_IN_WRITE (R138), made alike by the lanes in vote: accepted for the bases they are for,
refused and counted for the others. No Piste entry is armed, so that the step has no match to report (R134). TB_TRIM_WRITE (R137; the trim curve is an
open function, log 119), PTP_MESSAGE (R136) and LANE_ALIGN_FAULT (R120, Table 4.14). -/
def Obligations.TimeBaseCommands : Prop :=
  (∀ (s : State) (core n : Nat) (v : LaneServo) (hi lo : Word) (d : Int), RegsWf s → s.up = true → s.alike n v → n = 1 ∨ n = 3 →
    s.pst.armed = [] → s.pst.edge = [] → (∀ l, s.inVote l = true → s.loFor l core (Off.TB_STEP_LO + 64 * n) = lo) →
    d = (hi ++ lo : DWord).toInt * 281474976710656 →
    ∃ t, exec (.tbStepWrite core n hi) s = .next t ∧ t.base n = { s.base n with ctr1 := (((s.base n).ctr1 : Int) + d).toNat, ctr2 := (((s.base n).ctr2 : Int) + d).toNat, ctr3 := (((s.base n).ctr3 : Int) + d).toNat, stepSeq := (s.base n).stepSeq + 1, servos := (t.base n).servos } ∧
      Served n { v with issued := v.issued + 1 } s t ∧ Raised Irq.TB_STEP t ∧
      (∀ l, t.reg (laneKey l (Off.TB_STEP_CNT + 4 * n)) = s.reg (laneKey l (Off.TB_STEP_CNT + 4 * n)) + 1) ∧
      Recorded 0x0402 [iU8 1 n, ⟨2, 9, beBytes 8 (code 64 (hi ++ lo : DWord).toInt)⟩, iU8 3 0, ⟨4, 12, timeBytes (s.base n).time⟩] s t ∧
      (∀ l : Lane, t.inVote l = s.inVote l) ∧
      RegsOnly [Off.TB_STEP_LO + 64 * n, Off.TB_STEP_CNT + 4 * n, Off.REC_LOST_CNT] s t ∧ OnlyIn (.loWrites :: .time :: .vot :: recParts) s t) ∧
  (∀ (s : State) (core n : Nat) (v : LaneServo) (hi lo : Word), RegsWf s → s.up = true → s.alike n v → n ∈ [0, 1, 3] →
    fld (s.tbReg Off.TB_SERVO_CFG n) 0 2 = 2 → (∀ l, s.inVote l = true → s.loFor l core (Off.TB_RATE_LO + 64 * n) = lo) →
    ∃ t, exec (.tbRateWrite core n hi) s = .next t ∧ t.base n = { s.base n with rate := (hi ++ lo : DWord).toNat, servos := (t.base n).servos } ∧
      Served n { v with issued := v.issued + 1 } s t ∧
      (∀ l, s.inVote l = true → t.reg (laneKey l (Off.TB_RATE_HI + 64 * n)) = hi ∧ t.reg (laneKey l (Off.TB_RATE_LO + 64 * n)) = lo) ∧
      (∀ l : Lane, t.inVote l = s.inVote l) ∧ RegsOnly [Off.TB_RATE_LO + 64 * n, Off.TB_RATE_HI + 64 * n] s t ∧
      OnlyIn [.regs, .loWrites, .time, .vot] s t) ∧
  (∀ (s : State) (n : Nat) (v : LaneServo) (x : Word) (e : Int) (cfg : Word), s.up = true → s.alike n v → n = 1 ∨ n = 3 → e = x.toInt →
    cfg = s.tbReg Off.TB_SERVO_CFG n → fld cfg 0 2 = 1 → (n = 1 → fld (s.maj Off.TB_CFG) 0 2 ≠ 0) → v.state = .free →
    e.natAbs ≤ max 1 (fld cfg 24 8) * 256000 →
    ∃ t, exec (.tbOffsetInWrite n x) s = .next t ∧
      Served n { v with state := .acquire, lockRun := 0, offRun := 0, inputAt := some s.time.tb2.time, lastE := e, valid := true, discards := 0 } s t ∧
      t.base n = { s.base n with servos := (t.base n).servos } ∧ Raised Irq.TB_STATE t ∧ Recorded 0x0401 [iU8 1 n, iU8 2 0, iU8 3 1] s t ∧
      RegsOnly [Off.REC_LOST_CNT] s t ∧ OnlyIn (.time :: recParts) s t) ∧
  (∀ (s : State) (core n : Nat) (v : Word) (c : Instr), RegsWf s → s.up = true →
    (c = .tbStepWrite core n v ∨ c = .tbOffsetInWrite n v) → n = 0 ∨ n = 2 →
    ∃ t, exec c s = .next t ∧ t.time = s.time ∧
      (∀ l, s.inVote l = true → t.reg (laneKey l Off.TB_REJECT_CNT) = s.reg (laneKey l Off.TB_REJECT_CNT) + 1) ∧
      RegsOnly [Off.TB_REJECT_CNT, Off.TB_STEP_LO + 64 * n] s t ∧ OnlyIn [.regs, .loWrites] s t) ∧
  (∀ (s : State) (v : LaneServo) (trim : Word), RegsWf s → s.up = true → s.alike 2 v → (∀ l, s.inVote l = true → s.reg (laneKey l Off.TB_TRIM) = trim) →
    ∃ t, exec (.tbTrimWrite true) s = .next t ∧
      (∀ l, s.inVote l = true → t.reg (laneKey l Off.TB_TRIM) = BitVec.ofInt 32 (trim.toInt + clampInt trimStep (Config.trimAt s.tlm.temp - trim.toInt))) ∧
      t.base 2 = { s.base 2 with rate := (281474976710656 + (BitVec.ofInt 32 (trim.toInt + clampInt trimStep (Config.trimAt s.tlm.temp - trim.toInt))).toInt * 256).toNat, servos := (t.base 2).servos } ∧
      (∀ l : Lane, t.inVote l = s.inVote l) ∧ PassTold 6 s t ∧ RegsOnly [Off.TB_TRIM] s t ∧ OnlyIn [.regs, .time, .vot, .tlm] s t) ∧
  (∀ (s : State), s.up = true →
    ∃ t, exec (.tbTrimWrite false) s = .next t ∧ t.time = s.time ∧
      Recorded 0x0401 [iU8 1 2, iU8 2 (s.servoState s.time.tb2).code, iU8 3 (s.servoState s.time.tb2).code] s t ∧ PassTold 6 s t ∧
      RegsOnly [Off.REC_LOST_CNT] s t ∧ OnlyIn (.tlm :: recParts) s t) ∧
  (∀ (s : State) (m : PtpMsg) (port gm rank : Nat) (stamp : Int), s.up = true → s.ptpPort = some port → s.time.ptp.port = port →
    m.domain = s.ptpOpt 1 → m.transport = s.ptpOpt 2 → (s.port port).noStamp = false → m.body = .announce gm rank →
    ∃ t, exec (.ptpMessage port m stamp) s = .next t ∧
      t.time = { s.time with ptp := { s.time.ptp with masters := ⟨m.source, gm, rank, (s.time.ptp.masters.find? fun y => y.source == m.source).any (·.barred)⟩ :: s.time.ptp.masters.filter fun x => x.source != m.source } } ∧
      OnlyIn [.time] s t) ∧
  (∀ (s : State) (m : PtpMsg) (y : PtpMaster) (v : LaneServo) (port : Nat) (stamp i t1 d e : Int) (cfg : Word), s.up = true → s.alike 1 v →
    s.ptpPort = some port → s.time.ptp.port = port → m.domain = s.ptpOpt 1 → m.transport = s.ptpOpt 2 → (s.port port).noStamp = false →
    m.body = .sync i (some t1) → s.ptpMaster = some y → y.source = m.source → -4 ≤ i → i ≤ 0 → s.time.ptp.delay = some d →
    e = satSigned 32 (stamp - (rxCorr port + (s.port port).dev) - t1 - d) → cfg = s.tbReg Off.TB_SERVO_CFG 1 → fld cfg 0 2 = 1 →
    v.state = .free → e.natAbs ≤ max 1 (fld cfg 24 8) * 256000 →
    ∃ t, exec (.ptpMessage port m stamp) s = .next t ∧
      Served 1 { v with state := .acquire, lockRun := 0, offRun := 0, inputAt := some s.time.tb2.time, lastE := e, valid := true, discards := 0 } s t ∧
      t.out = s.out ++ [.delayReq port (s.ptpOpt 3 != 0) (s.ptpOpt 1) ((s.time.ptp.reqSeq + 1) % 65536)] ∧
      t.time.ptp.t3 = some (s.stamp1 + txCorr port) ∧ Raised Irq.TB_STATE t ∧ Recorded 0x0401 [iU8 1 1, iU8 2 0, iU8 3 1] s t ∧
      RegsOnly [Off.REC_LOST_CNT] s t ∧ OnlyIn (.time :: .out :: recParts) s t) ∧
  (∀ (s : State) (m : PtpMsg) (port : Nat) (stamp : Int), (s.ptpPort ≠ some port ∨ m.domain ≠ s.ptpOpt 1 ∨ m.transport ≠ s.ptpOpt 2) →
    exec (.ptpMessage port m stamp) s = .next s) ∧
  (∀ (s : State) (l : Lane), s.up = true → s.quiet = true → s.inVote l = true → s.lanesIn.length = 3 →
    ∃ t, exec (.laneAlignFault l) s = .next t ∧ LeftVote l .clock s t ∧ OnlyIn exclParts s t)

/-- The calibration of a port (R139, R140, R141): CAL_REQUEST and its rejections, CAL_DEV, CAL_PROBE, CAL_REPLY, CAL_LOOP_REQ, CALIBRATION_END and
CAL_NO_LOOP. A frame outside the service window of a star port is a violation (Table 8.6). The port's own deviation is a free value (log 19). -/
def Obligations.PortCalibration : Prop :=
  (∀ (s : State) (v : Word) (p : Nat), p = fld v 0 5 → s.up = true → fld v 16 16 = 0x5443 → (s.sys.mode.code = 2 ∨ s.sys.mode = .safeHold) →
    p < 22 → p < s.ftn.ports.length → (s.port p).up = true →
    ∃ t, exec (.calRequest v) s = .next t ∧ (t.port p).cal = .measuring ∧ (t.port p).calRun = true ∧ (t.port p).calReq = true ∧
      (t.port p).calStep = 0 ∧ (t.port p).wayMeas = [] ∧ (t.port p).loopMeas = [] ∧ (∀ q, q ≠ p → t.port q = s.port q) ∧
      RegsOnly [Off.FTN_TS_CAL_STATUS, Off.FTN_TS_CORR + 4 * p] s t ∧ OnlyIn [.free, .regs, .ftn] s t) ∧
  (∀ (s : State) (v : Word) (cause : Nat), RegsWf s → s.up = true →
    (cause = 3 ∧ fld v 16 16 ≠ 0x5443 ∨ cause = 1 ∧ fld v 16 16 = 0x5443 ∧ s.sys.mode.code ≠ 2 ∧ s.sys.mode ≠ .safeHold ∨
     cause = 2 ∧ fld v 16 16 = 0x5443 ∧ s.sys.mode = .safeHold ∧ 21 < fld v 0 5 ∨
     cause = 4 ∧ fld v 16 16 = 0x5443 ∧ s.sys.mode = .safeHold ∧ fld v 0 5 ≤ 21 ∧ (s.port (fld v 0 5)).up = false) →
    ∃ t, exec (.calRequest v) s = .next t ∧ fld (t.reg Off.FTN_TS_CAL_STATUS) 0 2 = 3 ∧ fld (t.reg Off.FTN_TS_CAL_STATUS) 4 4 = cause ∧
      RegsOnly [Off.FTN_TS_CAL_STATUS] s t ∧ OnlyIn [.regs] s t) ∧
  (∀ (s : State) (p : Nat), s.up = true → p < 20 → p < s.ftn.ports.length → s.portLive p = true → (s.port p).calRun = true →
    (∀ dev : Int, ∃ t, exec (.calDev p dev) s = .next t ∧ t.port p = { s.port p with partnerDev := some dev } ∧
      (∀ q, q ≠ p → t.port q = s.port q) ∧ OnlyIn [.ftn] s t) ∧
    (∀ (no : Nat) (t1 t2 t3 t4 : Int), (s.port p).noStamp = false → (s.port p).wayMeas.length < 64 →
      ∃ t, exec (.calReply p no t1 t2 t3 t4) s = .next t ∧
      t.port p = { s.port p with wayMeas := ((t4 - (rxCorr p + (s.port p).dev) - t1) - (t3 - t2)) :: (s.port p).wayMeas } ∧
      (∀ q, q ≠ p → t.port q = s.port q) ∧ OnlyIn [.ftn] s t) ∧
    (∀ (no : Nat) (t1 t2 : Int), (s.port p).noStamp = false → (s.port p).wayMeas.length = 64 → (s.port p).loopMeas.length < 64 →
      ∃ t, exec (.calProbe p no t1 t2) s = .next t ∧
      t.port p = { s.port p with loopMeas := (t2 - (rxCorr p + (s.port p).dev) - t1 - lineDelay p) :: (s.port p).loopMeas } ∧
      (∀ q, q ≠ p → t.port q = s.port q) ∧ OnlyIn [.ftn] s t)) ∧
  (∀ (s : State) (p no : Nat) (t1 t2 : Int), s.up = true → p < 4 → s.portLive p = true → (s.port p).calRun = false → (s.port p).noStamp = false →
    ∃ t, exec (.calProbe p no t1 t2) s = .next t ∧
      (∃ f : Frame, f.payload = calPayload 3 (no % 64) p (s.egress p) 0 t1 (t2 - (rxCorr p + (s.port p).dev)) ∧ t.out = s.out ++ [.frame p f]) ∧
      OnlyIn [.out, .ftn] s t) ∧
  (∀ (s : State) (p : Nat), s.up = true → p < 20 → p < s.ftn.ports.length → s.portLive p = true → (p < 4 ∨ (s.port p).calRun = true) →
    ∃ t, exec (.calLoopReq p) s = .next t ∧ t.port p = { s.port p with loopFor := true } ∧ (∀ q, q ≠ p → t.port q = s.port q) ∧
      OnlyIn [.ftn] s t) ∧
  (∀ (s : State) (p : Nat) (c : Instr), RegsWf s → s.up = true → p < 20 → 4 ≤ p → p - 4 < s.ftn.guards.length → s.portLive p = true →
    (s.port p).calRun = false → c ∈ [.calDev p 0, .calProbe p 0 0 0, .calReply p 0 0 0 0 0, .calLoopReq p, .calNoLoop p] →
    ∃ t, exec c s = .next t ∧ t.port p = s.port p ∧ (t.ftn.guards.getD (p - 4) Reset.guard).lastKind = 7 ∧
      (t.ftn.guards.getD (p - 4) Reset.guard).count = (s.ftn.guards.getD (p - 4) Reset.guard).count + 1 ∧
      t.reg Off.FTN_GUARD_BLOCKED = s.reg Off.FTN_GUARD_BLOCKED + 1 ∧ RegsOnly [Off.FTN_GUARD_BLOCKED, Off.REC_LOST_CNT] s t ∧
      OnlyIn (.ftn :: recParts) s t) ∧
  (∀ (s : State) (p : Nat) (c : Instr), s.up = true → p < s.ftn.ports.length → (s.port p).calRun = true →
    (c = .calNoLoop p ∧ p < 20 ∧ s.portLive p = true ∨
      c = .calibrationEnd p ∧ (s.port p).partnerDev = none ∧ (1 ≤ (s.port p).calStep ∨ 20 ≤ p)) →
    ∃ t, exec c s = .next t ∧ (t.port p).cal = .nominal ∧ (t.port p).calRun = false ∧ (∀ q, q ≠ p → t.port q = s.port q) ∧
      Raised Irq.TB_CAL_DONE t ∧ RegsOnly [Off.FTN_TS_CORR + 4 * p, Off.FTN_TS_CAL_STATUS] s t ∧ OnlyIn (.ftn :: recParts) s t) ∧
  (∀ (s : State) (p : Nat) (res : Int), s.up = true → p < s.ftn.ports.length → (s.port p).calRun = true → (s.port p).noLoop = false →
    12 ≤ (s.port p).calStep → (s.port p).partnerDev ≠ none → (s.port p).wayMeas.length = 64 → (s.port p).loopMeas.length = 64 →
    res = meanInt (s.port p).wayMeas - meanInt (s.port p).loopMeas →
    ∃ t, exec (.calibrationEnd p) s = .next t ∧
      (t.port p).cal = (if res.natAbs ≤ 512 ∧ (s.port p).dev.natAbs ≤ 16384 then .frozen else .failed) ∧ (t.port p).calRun = false ∧
      (∀ q, q ≠ p → t.port q = s.port q) ∧ Raised Irq.TB_CAL_DONE t ∧
      RegsOnly [Off.FTN_TS_CORR + 4 * p, Off.FTN_TS_CAL_STATUS, Off.REC_LOST_CNT] s t ∧ OnlyIn (.ftn :: recParts) s t)

/-! ### Position and supply -/

/-- ESTIMATOR_UPDATE (R144, R148, R165), SENSOR_STATE_TIMER (R147), STANDSTILL_ENTRY (R153) and BRIDGE_LIMIT_EXPIRY (R148). An update falls on a tenth
whole microsecond of TB0 and is kept; without an OK sensor the estimate is bridged with the inertial acceleration; a follower takes the record of its
node, and without one, or with one too old, is INVALID. No Piste entry is armed, so that no trigger is passed. -/
def Obligations.Estimator : Prop :=
  (∀ (s : State) (currents : List Nat), s.up = true → s.dio.enabled = true → s.sys.dspFault = false →
    (s.odoSource = 1 ∨ s.odoSource = 2) → s.pisteIdle = true →
    ∃ t, exec (.estimatorUpdate currents) s = .next t ∧ t.odo.estAt % 10000 = 0 ∧ s.tb0 ≤ t.odo.estAt ∧ t.odo.estAt ≤ s.tb0 + 10000 ∧
      t.odo.estSeq = s.odo.estSeq + 1 ∧ t.odo.history.head? = some t.kept ∧ t.odo.pending = s.odo.pending ∧ t.odo.fixSeq = s.odo.fixSeq ∧
      OnlyIn (.now :: .free :: .nv :: .time :: .odo :: recParts) s t) ∧
  (∀ (s : State) (currents : List Nat), RegsWf s → s.up = true → s.dio.enabled = true → s.sys.dspFault = false →
    s.odoSource = 1 → s.pisteIdle = true → s.odo.sensors.length = 4 → fld (s.reg Off.ODO_CFG) 4 4 = 0 → s.odo.bridged = false →
    ∃ t, exec (.estimatorUpdate currents) s = .next t ∧ t.odo.bridged = true ∧ (∀ x ∈ t.odo.sensors, x.state = .off) ∧
      (∀ a, s.odo.inert = some a → s.odo.standstill = false → t.odo.acc = a * s.orient) ∧
      t.reg Off.ODO_BRIDGE_CNT = s.reg Off.ODO_BRIDGE_CNT + 1 ∧ RegsOnly [Off.ODO_BRIDGE_CNT, Off.ODO_REVERSAL_CNT] s t ∧
      OnlyIn (.now :: .free :: .nv :: .time :: .odo :: recParts) s t) ∧
  (∀ (s : State) (currents : List Nat), s.up = true → s.dio.enabled = true → s.sys.dspFault = false →
    s.odoSource = 2 → s.pisteIdle = true → s.odo.remote = none →
    ∃ t, exec (.estimatorUpdate currents) s = .next t ∧ t.odo.cls = 0 ∧ t.odo.pos = s.odo.pos ∧ t.odo.remoteJump = false ∧
      t.odo.sensors = s.odo.sensors ∧ OnlyIn [.now, .nv, .isl, .time, .odo, .icus] s t) ∧
  (∀ (s : State) (currents : List Nat) (r : PosRec), s.up = true → s.dio.enabled = true → s.sys.dspFault = false →
    s.odoSource = 2 → s.pisteIdle = true → s.odo.remote = some r →
    ∃ t, exec (.estimatorUpdate currents) s = .next t ∧ FollowsRecord r s.odo.remoteAt t ∧ t.odo.remoteJump = false ∧ t.odo.remote = some r ∧
      t.odo.sensors = s.odo.sensors ∧ RegsOnly [Off.ODO_REMOTE_STALE_CNT] s t ∧
      (s.odo.remoteStale = false → (t.tb0 : Int) ≤ s.remoteDue r → t.odo.cls = fld r.qual 0 2 ∧ t.regs = s.regs) ∧
      (s.odo.remoteStale = true ∨ s.remoteDue r < t.tb0 → t.odo.cls = 0 ∧ t.odo.remoteStale = true) ∧
      OnlyIn [.now, .regs, .nv, .isl, .time, .odo, .icus] s t) ∧
  (∀ (s : State) (n : Nat), s.up = true → s.dio.enabled = true → s.sys.dspFault = false → s.odoSource = 1 → n < 4 → n < s.odo.sensors.length →
    (∀ f : Nat, (s.sensor n).state = .rejoin → (s.sensor n).fitSince = some f → f + 200000000 ≤ s.now →
      ∃ t, exec (.sensorStateTimer n) s = .next t ∧ t.sensor n = { s.sensor n with state := .ok, okFrom := some s.tb0, fitSince := none } ∧
      (∀ m, m ≠ n → t.sensor m = s.sensor m) ∧ OnlyIn [.odo] s t) ∧
    ((s.sensor n).state = .fault → (s.sensor n).unfitAt + 1000000000 ≤ s.now → (s.sensor n).alone < 4 → (s.sensor n).a.badSince = none →
      (s.sensor n).b.badSince = none →
      ∃ t, exec (.sensorStateTimer n) s = .next t ∧ t.sensor n = { s.sensor n with state := .rejoin, okFrom := none, fitSince := none } ∧
      (∀ m, m ≠ n → t.sensor m = s.sensor m) ∧ OnlyIn [.odo] s t)) ∧
  (∀ (s : State) (c w : Nat), s.up = true → s.dio.enabled = true → s.odoSource = 1 → s.odo.standstill = false → s.odo.bridged = false →
    s.sys.dspFault = false → (s.odo.sensors.any fun x => x.state == .ok) = true → s.odo.calmSince = some c →
    w = 10000000 * max 1 (fld (s.reg Off.ODO_CFG) 16 8) → c + w ≤ s.now → (∀ x ∈ s.odo.sensors, x.state = .ok → x.edgeAt + w ≤ s.now) →
    ∃ t, exec .standstillEntry s = .next t ∧ t.odo = { s.odo with standstill := true, vel := 0, acc := 0, dir := 0, sensors := s.odo.sensors.map fun x => { x with lock := x.count } } ∧ Raised Irq.ODO_STANDSTILL t ∧
      OnlyIn [.odo, .icus] s t) ∧
  (∀ (s : State), s.up = true → s.odo.bridged = true → s.odoSource = 1 → s.odo.haveFix = true → s.sys.dspFault = false →
    ∃ t, exec .bridgeLimitExpiry s = .next t ∧ t.odo.cls = 1 ∧ t.odo.pos = s.odo.pos ∧ (s.odo.cls ≠ 1 → Raised Irq.ODO_QUALITY_CHG t) ∧
      SuspendOnly s t ∧ (s.odo.cls ≠ 1 → ∀ a ∈ t.pst.armed, eDom (s.eCtrl a.index) = 4 → 1 < eQual (s.eCtrl a.index) → a.suspend = true) ∧
      OnlyIn [.now, .time, .nv, .isl, .odo, .icus, .pst] s t)

/-- FIX_SUBMIT (R156) and FIX_PROCESS (R157 to R162): a fix becomes pending or is rejected with its cause; the pending fix is accepted and corrects the
position and its history, or is rejected as STALE, FUTURE, by the GATE or as an unfounded FORCE. REMOTE_RECORD and REMOTE_STALE (R165, R205),
ODO_POS_READ (R178). A record of NODE is followed from the next update on; one of another node, or one grown older than MAX_AGE, makes the class
INVALID and counts. -/
def Obligations.FixesAndRemotePosition : Prop :=
  (∀ (s : State) (pos : Int) (time acc cmd : Word), RegsWf s → s.up = true → fld cmd 16 16 = 0x4658 → s.odoSource ≠ 2 → s.odo.pending = none →
    -9223372036854775808 ≤ pos → pos < 9223372036854775808 →
    ∃ t, exec (.fixSubmit pos time acc cmd) s = .next t ∧
      t.odo = { s.odo with pending := some ⟨pos, time, fld acc 16 16, fld acc 0 16, bit cmd 0⟩ } ∧
      fld (t.reg Off.ODO_FIX_STATUS) 0 2 = 1 ∧ RegsOnly [Off.ODO_FIX_STATUS] s t ∧ OnlyIn [.regs, .odo] s t) ∧
  (∀ (s : State) (pos : Int) (time acc cmd : Word) (cause : Nat), RegsWf s → s.up = true →
    (cause = 5 ∧ fld cmd 16 16 ≠ 0x4658 ∨ cause = 7 ∧ fld cmd 16 16 = 0x4658 ∧ s.odoSource = 2 ∨
     cause = 4 ∧ fld cmd 16 16 = 0x4658 ∧ s.odoSource ≠ 2 ∧ s.odo.pending ≠ none) →
    ∃ t, exec (.fixSubmit pos time acc cmd) s = .next t ∧ fld (t.reg Off.ODO_FIX_STATUS) 0 2 = 3 ∧
      fld (t.reg Off.ODO_FIX_STATUS) 4 4 = cause ∧ t.odo.pending = s.odo.pending ∧ t.odo.pos = s.odo.pos ∧
      t.reg Off.ODO_FIX_REJECT_CNT = s.reg Off.ODO_FIX_REJECT_CNT + 1 ∧ Raised Irq.ODO_FIX_REJECTED t ∧
      RegsOnly [Off.ODO_FIX_STATUS, Off.ODO_FIX_REJECT_CNT] s t ∧ OnlyIn [.regs, .odo, .icus] s t) ∧
  (∀ (s : State) (f : Fix) (corr : Int), RegsWf s → s.up = true → s.sys.dspFault = false → s.odo.pending = some f → s.odoSource ≠ 2 →
    s.pisteIdle = true → s.odo.calFix = none → (s.odo.estAt : Int) - 1000000000 ≤ extend f.time s.odo.estAt →
    extend f.time s.odo.estAt ≤ s.odo.estAt → corr = f.pos - um (s.estimateAt (extend f.time s.odo.estAt)).pos → f.force = false →
    (s.odo.cls = 0 ∨ corr.natAbs ≤ (s.estimateAt (extend f.time s.odo.estAt)).unc + 10 * f.acc + 1000 * fld (s.reg Off.ODO_FIX_CFG) 0 16) →
    ∃ t, exec .fixProcess s = .next t ∧ t.odo.pos = s.odo.pos + corr * 1000000 ∧ t.odo.fixSeq = s.odo.fixSeq + 1 ∧ t.odo.haveFix = true ∧
      t.odo.history = (s.odo.history.map fun k => { k with pos := k.pos + corr * 1000000 }) ∧
      t.odo.uncBase = 10 * f.acc ∧ t.odo.pending = none ∧ t.odo.vel = s.odo.vel ∧ fld (t.reg Off.ODO_FIX_STATUS) 0 3 = 2 ∧
      t.reg Off.ODO_FIX_ACCEPT_CNT = s.reg Off.ODO_FIX_ACCEPT_CNT + 1 ∧ Raised Irq.ODO_FIX_ACCEPTED t ∧
      Recorded 0x0501 [⟨1, 9, beBytes 8 (code 64 corr)⟩] s t ∧
      RegsOnly [Off.ODO_FIX_CORR, Off.ODO_FIX_STATUS, Off.ODO_FIX_ACCEPT_CNT, Off.REC_LOST_CNT] s t ∧ OnlyIn (.odo :: recParts) s t) ∧
  (∀ (s : State) (f : Fix) (cause : Nat) (u : Int), RegsWf s → s.up = true → s.sys.dspFault = false → s.odo.pending = some f →
    s.odoSource ≠ 2 → u = extend f.time s.odo.estAt →
    (cause = 2 ∧ u < (s.odo.estAt : Int) - 1000000000 ∨ cause = 3 ∧ (s.odo.estAt : Int) < u ∨
     (s.odo.estAt : Int) - 1000000000 ≤ u ∧ u ≤ s.odo.estAt ∧ (cause = 6 ∧ f.force = true ∧ s.odo.standstill = false ∧ 1 < s.odo.cls ∨
       cause = 1 ∧ f.force = false ∧ s.odo.cls ≠ 0 ∧ s.odo.gateRun = [] ∧
       (s.estimateAt u).unc + 10 * f.acc + 1000 * fld (s.reg Off.ODO_FIX_CFG) 0 16 < (f.pos - um (s.estimateAt u).pos).natAbs)) →
    ∃ t, exec .fixProcess s = .next t ∧ t.odo.pos = s.odo.pos ∧ t.odo.fixSeq = s.odo.fixSeq ∧ t.odo.pending = none ∧
      fld (t.reg Off.ODO_FIX_STATUS) 0 2 = 3 ∧ fld (t.reg Off.ODO_FIX_STATUS) 4 4 = cause ∧
      t.reg Off.ODO_FIX_REJECT_CNT = s.reg Off.ODO_FIX_REJECT_CNT + 1 ∧ Raised Irq.ODO_FIX_REJECTED t ∧
      RegsOnly [Off.ODO_FIX_CORR, Off.ODO_FIX_STATUS, Off.ODO_FIX_REJECT_CNT] s t ∧ OnlyIn [.regs, .odo, .icus] s t) ∧
  (∀ (s : State) (node : Nat) (payload : List Byte) (r : PosRec), s.up = true → s.odoSource = 2 → payload.length = 32 → r = posRecOf payload →
    node = fld (s.reg Off.ODO_REMOTE_CFG) 0 14 →
    ∃ t, exec (.remoteRecord node payload) s = .next t ∧
      t.odo = { s.odo with remote := some r, remoteAt := s.tb0, remoteFrom := node, remoteStale := false, remoteJump := t.odo.remoteJump } ∧
      t.odo.remoteJump = (s.odo.remoteJump || s.odo.remote.all fun p => fld p.qual 16 8 != fld r.qual 16 8 || s.odo.remoteFrom != node) ∧
      OnlyIn [.odo] s t) ∧
  (∀ (s : State) (node : Nat) (payload : List Byte) (c : Instr), RegsWf s → s.up = true → s.odoSource = 2 →
    (c = .remoteStale ∧ s.odo.remote ≠ none ∧ s.odo.remoteStale = false ∨
     c = .remoteRecord node payload ∧ payload.length = 32 ∧ node ≠ fld (s.reg Off.ODO_REMOTE_CFG) 0 14) →
    ∃ t, exec c s = .next t ∧ t.odo = { s.odo with cls := 0, remoteStale := true } ∧ (s.odo.cls ≠ 0 → Raised Irq.ODO_QUALITY_CHG t) ∧
      t.reg Off.ODO_REMOTE_STALE_CNT = s.reg Off.ODO_REMOTE_STALE_CNT + 1 ∧ SuspendOnly s t ∧ RegsOnly [Off.ODO_REMOTE_STALE_CNT] s t ∧ OnlyIn [.now, .time, .nv, .isl, .regs, .odo, .icus, .pst] s t) ∧
  (∀ (s : State) (l : Lane) (core : Nat), s.up = true → s.inVote l = true →
    ∃ t, exec (.odoPosRead l core) s = .next t ∧ t.vot = s.vot.answered core (s.peek l Off.ODO_POS_LO) false ∧
      (∀ o ∈ [Off.ODO_POS_HI, Off.ODO_VEL, Off.ODO_ACC, Off.ODO_QUALITY, Off.ODO_UNC, Off.ODO_EST_CTIME, Off.ODO_EST_SEQ],
        t.latched none core o = some (s.peek s.lane0 o)) ∧ OnlyIn [.latches, .vot] s t)

/-- SUP_RANGE_FAULT and SUP_RANGE_RETURN (R168), ADC_CAL_ROTATION (R169), SUP_LOCK_CHANGE and SUP_HOLD_EXPIRY (R172), SUP_TRACKER_UPDATE (R170, R172,
R173). DISTURBANCE_START (R174, R175), DISTURBANCE_END and SUP_DIST_HEAD_READ (R176): a disturbance begins by its criterion of Table 5.5, takes over a
dip or extends the one that has just ended; it ends in the FIFO or is lost with the FIFO full, and is popped by a read of the head. -/
def Obligations.SupplyDomain : Prop :=
  (∀ (s : State) (n a : Nat), RegsWf s → s.dspOn = true → n < 4 → n < s.sup.chans.length → (s.chan n).range = false →
    (s.chMode n = 1 ∨ s.chMode n = 2) → (s.chan n).outAt = some a → a + 1000000 < s.now →
    (n = s.refCh → s.sup.lock ≠ .locked ∧ s.sup.lock ≠ .acquire) →
    ∃ t, exec (.supRangeFault n) s = .next t ∧ t.sup = { s.sup with chans := t.sup.chans } ∧ t.chan n = { s.chan n with range := true } ∧
      (∀ m, m ≠ n → t.chan m = s.chan m) ∧
      t.reg Off.SUP_RANGE_CNT = s.reg Off.SUP_RANGE_CNT + 1 ∧ Raised Irq.SUP_RANGE t ∧ RegsOnly [Off.SUP_RANGE_CNT] s t ∧
      OnlyIn [.regs, .sup, .icus] s t) ∧
  (∀ (s : State) (n a : Nat), s.dspOn = true → n < 4 → n < s.sup.chans.length → (s.chan n).range = false →
    (s.chMode n = 1 ∨ s.chMode n = 2) → (s.chan n).outAt = some a → a + 1000000 < s.now → n = s.refCh → s.sup.lock = .locked →
    ∃ t, exec (.supRangeFault n) s = .next t ∧ (t.chan n).range = true ∧ t.sup.lock = .hold ∧ t.sup.holdAt = s.now ∧ Raised Irq.SUP_RANGE t ∧
      Raised Irq.SUP_LOCK_CHG t ∧ InQueue 0x0506 [iU8 1 Lock.locked.code, iU8 2 Lock.hold.code] s t ∧
      RegsOnly [Off.SUP_RANGE_CNT, Off.SUP_LOCK_LOSS_CNT, Off.REC_LOST_CNT] s t ∧ OnlyIn (.sup :: recParts) s t) ∧
  (∀ (s : State) (n a : Nat), s.dspOn = true → n < 4 → n < s.sup.chans.length → (s.chan n).backAt = some a → a + 100000000 ≤ s.now →
    ∃ t, exec (.supRangeReturn n) s = .next t ∧ t.sup = { s.sup with chans := t.sup.chans } ∧ t.chan n = { s.chan n with range := false } ∧
      (∀ m, m ≠ n → t.chan m = s.chan m) ∧ OnlyIn [.sup] s t) ∧
  (∀ (s : State) (l : Lane), s.dspOn = true → s.sup.spares.get l = none →
    ∃ t, exec (.adcCalRotation 0) s = .next t ∧ s.sup.calAt + 15000000000 ≤ t.now ∧
      t.sup = { s.sup with calNext := (s.sup.calNext + 1) % 4, calAt := t.now } ∧ PassTold 5 s t ∧
      OnlyIn [.now, .time, .nv, .isl, .sup, .tlm] s t) ∧
  (∀ (s : State) (l : Lane) (fails : BitVec 3), RegsWf s → s.dspOn = true → fails = 1 <<< l.idx → s.sup.spares.get l = none →
    ∃ t, exec (.adcCalRotation fails) s = .next t ∧
      t.sup = { s.sup with calNext := (s.sup.calNext + 1) % 4, calAt := t.now, spares := s.sup.spares.set l (some s.sup.calNext) } ∧
      t.reg Off.SUP_CAL_CNT = s.reg Off.SUP_CAL_CNT + 1 ∧ Raised Irq.SUP_CAL t ∧ InQueue 0x0508 [iU8 1 s.sup.calNext, iU8 2 l.idx] s t ∧
      RegsOnly [Off.SUP_CAL_CNT, Off.REC_LOST_CNT] s t ∧ OnlyIn (.now :: .time :: .nv :: .sup :: .tlm :: recParts) s t) ∧
  (∀ (s : State) (n : Nat) (v : Lock) (c : Instr), RegsWf s → s.dspOn = true → s.sup.lock ≠ v →
    (c = .supLockChange n ∧ v = lockOf n ∧ (s.trackOff = true ∧ v = .off ∨
       s.trackOff = false ∧ (s.signal = false ∧ (s.sup.lock = .off ∨ s.sup.lock = .acquire) ∧ v = .noSignal ∨
         s.signal = true ∧ (s.sup.lock = .off ∨ s.sup.lock = .noSignal ∨ s.sup.lock = .hold) ∧ v = .acquire ∨
         s.signal = true ∧ s.sup.lock = .acquire ∧ 20 ≤ s.sup.goodRun ∧ v = .locked ∨
         s.sup.lock = .locked ∧ (s.signal = false ∨ s.sup.freq < 14000000 ∨ 70000000 < s.sup.freq) ∧ v = .hold ∨
         s.sup.lock = .locked ∧ 2 ≤ s.sup.jumpRun ∧ v = .acquire)) ∨
     c = .supHoldExpiry ∧ s.sup.lock = .hold ∧ v = .noSignal) →
    ∃ t, exec c s = .next t ∧ t.sup.lock = v ∧ (v ≠ .locked → t.sup.thd = 0 ∧ t.sup.harm = List.replicate 40 0) ∧
      (v ≠ .off → t.sup.freq = s.sup.freq ∧ t.sup.phase = s.sup.phase) ∧ (v = .off → t.sup.freq = 0 ∧ t.sup.phase = 0) ∧
      t.sup.active = s.sup.active ∧ t.sup.chans = s.sup.chans ∧ (c = .supHoldExpiry → s.holdEnd ≤ t.now) ∧
      t.reg Off.SUP_LOCK_LOSS_CNT = s.reg Off.SUP_LOCK_LOSS_CNT + (if s.sup.lock = .locked then 1 else 0) ∧
      Raised Irq.SUP_LOCK_CHG t ∧ InQueue 0x0506 [iU8 1 s.sup.lock.code, iU8 2 v.code] s t ∧
      RegsOnly [Off.SUP_LOCK_LOSS_CNT, Off.REC_LOST_CNT] s t ∧ OnlyIn (.now :: .time :: .nv :: .sup :: recParts) s t) ∧
  (∀ (s : State) (freq : Nat) (phase : Word), s.dspOn = true → s.pisteIdle = true → freq < 4294967296 →
    ∃ t, exec (.supTrackerUpdate freq phase) s = .next t ∧ t.sup.phaseAt = t.tb0 ∧ t.sup.lock = s.sup.lock ∧
      (s.sup.lock = .acquire → t.sup.phase = phase ∧ t.sup.freq = freq) ∧
      (s.sup.lock = .off → t.sup.phase = 0 ∧ t.sup.freq = 0) ∧
      (s.sup.lock = .noSignal → t.sup.phase = s.sup.phase ∧ t.sup.freq = s.sup.freq) ∧ (s.sup.lock = .hold → t.sup.freq = s.sup.freq) ∧
      (s.sup.lock = .locked → t.sup.slope ≤ 500000 → t.sup.freq ≤ t.sup.measFreq + 1000 ∧ t.sup.measFreq ≤ t.sup.freq + 1000 ∧
        (t.sup.phase - ((t.chan t.refCh).phase + turns t.sup.measFreq ((t.tb0 : Int) - (t.chan t.refCh).phaseAt))).toInt.natAbs ≤ 1193046) ∧
      (s.sup.lock ≠ .locked → t.sup.thd = s.sup.thd ∧ t.sup.harm = s.sup.harm) ∧ t.sup.fifo = s.sup.fifo ∧
      OnlyIn [.now, .time, .nv, .isl, .sup] s t) ∧
  (∀ (s : State) (cls ch f a : Nat) (v l : Int), RegsWf s → s.dspOn = true → s.classifies cls ch = true →
    (cls = 1 ∧ v = (s.chan ch).val ∧ (v < s.supLimit 1 ∧ l = s.supLimit 1 ∨
       (s.supLimit 1 : Int) ≤ v ∧ v < s.supLimit 2 ∧ l = s.supLimit 2 ∧ (s.chan ch).lowAt = some a ∧ a + 120000000000 ≤ s.tb0) ∨
     cls = 2 ∧ v = (s.chan ch).val ∧ (s.supLimit 4 < v ∧ l = s.supLimit 4 ∨
       s.supLimit 3 < v ∧ v ≤ s.supLimit 4 ∧ l = s.supLimit 3 ∧ (s.chan ch).highAt = some a ∧ a + 300000000000 ≤ s.tb0) ∨
     cls = 3 ∧ v = (s.chan ch).val ∧ v < s.brokenLimit ∧ l = s.brokenLimit ∨
     cls = 4 ∧ v = (s.chan ch).dev ∧ s.spikeLimit < v ∧ l = s.spikeLimit ∧ (s.chan ch).long = false ∨
     cls = 5 ∧ s.sup.means.freq = some f ∧ (f < s.supLimit 5 * 1000 ∨ s.supLimit 6 * 1000 < f) ∧ v = f ∧ l = 0 ∨
     cls = 6 ∧ s.sup.means.thd = some f ∧ s.supLimit 7 < f ∧ v = f ∧ l = s.supLimit 7) →
    (∀ d ∈ s.sup.active, d.chan ≠ ch) →
    (s.sup.ended = [] → ∃ t, exec (.disturbanceStart cls ch) s = .next t ∧
      t.sup = { s.sup with active := ⟨cls, ch, s.tb0, v, l⟩ :: s.sup.active } ∧
      t.reg (Off.SUP_DIST_CNT + 4 * (cls - 1)) = s.reg (Off.SUP_DIST_CNT + 4 * (cls - 1)) + 1 ∧ Raised Irq.SUP_DIST_START t ∧
      RegsOnly [Off.SUP_DIST_CNT + 4 * (cls - 1)] s t ∧ OnlyIn [.regs, .sup, .icus] s t) ∧
    (∀ (at_ start : Nat) (x : Int), s.sup.ended = [(cls, ch, at_, start, x)] → s.tb0 ≤ at_ + 20000000 →
      ∃ t, exec (.disturbanceStart cls ch) s = .next t ∧
      t.sup = { s.sup with active := ⟨cls, ch, start, s.extremeOf cls x v, l⟩ :: s.sup.active } ∧ OnlyIn [.sup] s t)) ∧
  (∀ (s : State) (ch : Nat) (d : Dist), s.dspOn = true → s.classifies 3 ch = true → (s.chan ch).val < s.brokenLimit → d.cls = 1 → d.chan = ch →
    s.sup.active = [d] → s.sup.ended = [] →
    ∃ t, exec (.disturbanceStart 3 ch) s = .next t ∧ t.sup = { s.sup with active := [⟨3, ch, d.start, (s.chan ch).val, s.brokenLimit⟩] } ∧
      OnlyIn [.regs, .sup, .icus] s t) ∧
  (∀ (s : State) (d : Dist) (f : Nat), RegsWf s → s.dspOn = true → s.sup.active = [d] → s.classifies d.cls d.chan = true →
    ((d.cls = 1 ∨ d.cls = 3) ∧ d.limit + (s.supLimit 0 * 2 / 100 : Nat) < (s.chan d.chan).val ∨
     d.cls = 2 ∧ (s.chan d.chan).val < d.limit - (s.supLimit 0 * 2 / 100 : Nat) ∨ d.cls = 4 ∧ 20 ≤ (s.chan d.chan).within ∨
     d.cls = 5 ∧ s.sup.means.freq = some f ∧ s.supLimit 5 * 1000 ≤ f ∧ f ≤ s.supLimit 6 * 1000 ∨
     d.cls = 6 ∧ s.sup.means.thd ≠ none ∧ s.harmHigh = false) →
    (s.sup.fifo.length < 16 →
      ∃ t e, exec (.disturbanceEnd d.cls d.chan) s = .next t ∧ t.sup.active = [] ∧ t.sup.fifo = s.sup.fifo ++ [e] ∧ t.sup.lost = false ∧
        fld e.head 0 3 = d.cls ∧ bit e.head 16 = s.sup.lost ∧ e.start = ctime d.start ∧
        e.dur = BitVec.ofNat 32 (min 4294967295 ((s.tb0 - d.start) / 1000)) ∧ e.extreme = BitVec.ofInt 32 (satSigned 32 d.extreme) ∧
        Raised Irq.SUP_DIST_END t ∧ RegsOnly [Off.REC_LOST_CNT] s t ∧ OnlyIn (.sup :: recParts) s t) ∧
    (16 ≤ s.sup.fifo.length →
      ∃ t, exec (.disturbanceEnd d.cls d.chan) s = .next t ∧ t.sup.active = [] ∧ t.sup.fifo = s.sup.fifo ∧ t.sup.lost = true ∧
        t.reg Off.SUP_FIFO_LOST = s.reg Off.SUP_FIFO_LOST + 1 ∧ Raised Irq.SUP_DIST_OVERFLOW t ∧
        RegsOnly [Off.SUP_FIFO_LOST, Off.REC_LOST_CNT] s t ∧ OnlyIn (.sup :: recParts) s t)) ∧
  (∀ (s : State) (core : Nat) (e : DistEntry) (rest : List DistEntry), s.up = true → s.sup.fifo = e :: rest →
    ∃ t, exec (.supDistHeadRead core) s = .next t ∧ t.sup = { s.sup with fifo := rest } ∧ t.vot = s.vot.answered core e.head false ∧
      t.latched none core Off.SUP_DIST_START = some e.start ∧ t.latched none core Off.SUP_DIST_DUR = some e.dur ∧
      t.latched none core Off.SUP_DIST_EXTREME = some e.extreme ∧ OnlyIn [.latches, .sup, .vot] s t) ∧
  (∀ (s : State) (core : Nat), s.up = true → s.sup.fifo = [] →
    ∃ t, exec (.supDistHeadRead core) s = .next t ∧ t.sup = s.sup ∧ t.vot = s.vot.answered core 0 false ∧ OnlyIn [.latches, .sup, .vot] s t)

/-! ### Piste -/

/-- An armed one-shot entry, the only one that compares, at its trigger (R179, R180, R185, R191 to R193, R202, R207): PISTE_MATCH fires it, skips it or
lets it wait; a PHASE crossing without a valid phase is counted. Of a waiting one, GUARD_WAIT_FIRE and WAIT_LIMIT_EXPIRY. -/
def Obligations.PisteOccurrences : Prop :=
  (∀ (s : State) (n d : Nat) (a : Armed) (sl : BitVec 3), RegsWf s → s.comparing = true → s.edgeFree = true → 2 ≤ s.reports sl → n < 1024 →
    s.comparers = [n] → s.armedOf n = some a → a.waitAt = none → s.comesToTrigger n a → d = eDom (s.eCtrl n) → (d = 5 → s.sup.lock = .locked) →
    ePeriodic (s.eCtrl n) = false → s.qualOk n = true →
    fld (s.eAction n) 0 5 = 0 → fld (s.entryWord n 4) 0 4 = 0 → fld (s.entryWord n 5) 0 4 = 0 →
    ∃ t, exec (.pisteMatch n sl) s = .next t ∧ t.entryState n = 3 ∧ fld (t.entryWord n 7) 4 3 = 1 ∧
      t.eFires n = min 65535 (s.eFires n + 1) ∧ t.armedOf n = none ∧ (∀ m, m ≠ n → t.armedOf m = s.armedOf m) ∧ n ∈ t.pst.fired ∧
      (d < 4 → t.now % 4 = 0 ∧ s.tbTrig n * 281474976710656 ≤ ((t.base d).time : Int)) ∧ (4 ≤ d → t.now = s.now) ∧
      t.reg (Off.PST_STAMP + 4 * n) = ctime t.tb0 ∧ t.reg Off.PST_FIRE_CNT = s.reg Off.PST_FIRE_CNT + 1 ∧
      RegsOnly [Off.PST_ENTRY_W7 + 32 * n, Off.PST_STAMP + 4 * n, Off.PST_FIRE_CNT] s t ∧ OnlyIn [.now, .time, .nv, .isl, .regs, .pst] s t) ∧
  (∀ (s : State) (n : Nat) (a : Armed) (sl : BitVec 3), RegsWf s → s.comparing = true → s.edgeFree = true → 2 ≤ s.reports sl →
    s.comparers = [n] → s.armedOf n = some a → a.waitAt = none → s.comesToTrigger n a → eDom (s.eCtrl n) = 5 → s.sup.lock ≠ .locked →
    ∃ t, exec (.pisteMatch n sl) s = .next t ∧ t.reg Off.PST_INVALID_CNT = s.reg Off.PST_INVALID_CNT + 1 ∧ t.now = s.now ∧
      (t.armedOf n).map (·.phase) = some (s.phiAt n s.tb0) ∧ (∀ m, m ≠ n → t.armedOf m = s.armedOf m) ∧ t.pst.fired = s.pst.fired ∧
      RegsOnly [Off.PST_INVALID_CNT] s t ∧ OnlyIn [.now, .time, .nv, .isl, .regs, .pst] s t) ∧
  (∀ (s : State) (n cause : Nat) (a : Armed) (sl : BitVec 3), RegsWf s → s.comparing = true → s.edgeFree = true → 2 ≤ s.reports sl → n < 1024 →
    s.comparers = [n] → s.armedOf n = some a → a.waitAt = none → s.comesToTrigger n a → 4 ≤ eDom (s.eCtrl n) →
    (eDom (s.eCtrl n) = 5 → s.sup.lock = .locked) → ePeriodic (s.eCtrl n) = false →
    bit (s.eAction n) 4 = false → cause = s.condFail n → cause ≠ 0 →
    ∃ t, exec (.pisteMatch n sl) s = .next t ∧ t.reg (Off.PST_STAMP + 4 * n) = ctime s.tb0 ∧
      (bit (s.eCtrl n) 8 = false → t.entryState n = 4 ∧ fld (t.entryWord n 7) 4 3 = 7 ∧ fld (t.entryWord n 7) 8 4 = cause ∧
        t.armedOf n = none ∧ t.reg Off.PST_SKIPPED_CNT = s.reg Off.PST_SKIPPED_CNT + 1 ∧ Raised Irq.PST_SKIPPED t) ∧
      (bit (s.eCtrl n) 8 = true → t.entryState n = 2 ∧ (t.armedOf n).map (fun x => (x.waitAt, x.slow)) = some (some s.now, s.slowOk n) ∧
        t.reg Off.PST_SKIPPED_CNT = s.reg Off.PST_SKIPPED_CNT) ∧ (∀ m, m ≠ n → t.armedOf m = s.armedOf m) ∧ t.pst.fired = s.pst.fired ∧
      RegsOnly [Off.PST_ENTRY_W7 + 32 * n, Off.PST_STAMP + 4 * n, Off.PST_SKIPPED_CNT] s t ∧ OnlyIn [.now, .time, .nv, .isl, .regs, .pst, .icus] s t) ∧
  (∀ (s : State) (n : Nat) (a : Armed), RegsWf s → s.comparing = true → s.edgeFree = true → n < 1024 → s.armedOf n = some a →
    a.waitAt.isSome = true → a.slow = true → s.fastOk n = true → ePeriodic (s.eCtrl n) = false → fld (s.eAction n) 0 4 = 0 →
    ∃ t, exec (.guardWaitFire n) s = .next t ∧ t.entryState n = 3 ∧ fld (t.entryWord n 7) 4 3 = 5 ∧
      t.eFires n = min 65535 (s.eFires n + 1) ∧ t.armedOf n = none ∧ (∀ m, m ≠ n → t.armedOf m = s.armedOf m) ∧ t.pst.fifo = s.pst.fifo ∧
      t.reg Off.PST_FIRE_CNT = s.reg Off.PST_FIRE_CNT + 1 ∧ RegsOnly [Off.PST_ENTRY_W7 + 32 * n, Off.PST_FIRE_CNT] s t ∧
      OnlyIn [.regs, .pst] s t) ∧
  (∀ (s : State) (n at_ : Nat) (a : Armed), RegsWf s → s.comparing = true → n < 1024 → s.armedOf n = some a → a.waitAt = some at_ →
    ePeriodic (s.eCtrl n) = false →
    ∃ t, exec (.waitLimitExpiry n) s = .next t ∧ at_ + 1000000 * max 1 (fld (s.reg Off.PST_CFG) 0 16) ≤ t.now ∧ t.entryState n = 4 ∧
      fld (t.entryWord n 7) 4 3 = 7 ∧ fld (t.entryWord n 7) 8 4 = 8 ∧ t.armedOf n = none ∧ (∀ m, m ≠ n → t.armedOf m = s.armedOf m) ∧
      t.reg Off.PST_SKIPPED_CNT = s.reg Off.PST_SKIPPED_CNT + 1 ∧ Raised Irq.PST_SKIPPED t ∧ t.pst.fifo = s.pst.fifo ∧
      RegsOnly [Off.PST_ENTRY_W7 + 32 * n, Off.PST_SKIPPED_CNT] s t ∧ OnlyIn [.now, .time, .nv, .isl, .regs, .pst, .icus] s t)

/-- The commands of PST_CMD (R189, R190, R194, Table 6.6): ARM and ARM_MASK of one entry arm it, reject it with its cause or find it missed; DISARM,
DISARM_MASK and DISARM_ALL return the entries they name to IDLE. PULSE_END (R196), ENTRY_WORD_WRITE (R186), PST_FIRE_HEAD_READ (R193, R81) and
PISTE_STORE_SCRUB (Table 6.15). -/
def Obligations.PisteCommands : Prop :=
  (∀ (s : State) (n : Nat) (v : Word) (c : Instr), RegsWf s → s.up = true → s.edgeFree = true → n < 1024 →
    (c = .arm v ∧ n = fld v 16 10 ∨ c = .armMask v ∧ s.masked = [n]) →
    ∃ t, exec c s = .next t ∧ Raised Irq.PST_CMD_DONE t ∧
      (s.armedOf n = none → s.armCause n = 0 → s.trigPassed n = false → t.entryState n = 1 ∧ (t.armedOf n).isSome = true ∧
        n ∉ t.pst.fired ∧ t.eFires n = 0 ∧ fld (t.reg Off.PST_CMD_STATUS) 0 4 = 2 ∧ t.reg Off.PST_MISSED_CNT = s.reg Off.PST_MISSED_CNT ∧
        (∀ m, m ≠ n → t.armedOf m = s.armedOf m) ∧ OnlyIn [.regs, .pst, .icus] s t) ∧
      (s.armedOf n = none → s.armCause n ≠ 0 → t.entryState n = 6 ∧ fld (t.entryWord n 7) 8 4 = s.armCause n ∧
        fld (t.reg Off.PST_CMD_STATUS) 0 4 = 3 ∧ fld (t.reg Off.PST_CMD_STATUS) 4 4 = 2 ∧ fld (t.reg Off.PST_CMD_STATUS) 16 10 = n ∧
        OnlyIn [.regs, .icus] s t) ∧
      (s.armedOf n = none → s.armCause n = 0 → s.trigPassed n = true → bit (s.eCtrl n) 9 = false → t.entryState n = 5 ∧
        fld (t.entryWord n 7) 8 4 = 4 ∧ t.reg Off.PST_MISSED_CNT = s.reg Off.PST_MISSED_CNT + 1 ∧ Raised Irq.PST_MISSED t ∧
        fld (t.reg Off.PST_CMD_STATUS) 0 4 = 3 ∧ OnlyIn [.regs, .icus] s t) ∧
      (s.armedOf n ≠ none → t.entryWord n 7 = s.entryWord n 7 ∧ fld (t.reg Off.PST_CMD_STATUS) 0 4 = 3 ∧
        fld (t.reg Off.PST_CMD_STATUS) 4 4 = 3 ∧ OnlyIn [.regs, .icus] s t) ∧
      (s.trigPassed n = false → RegsOnly [Off.PST_ENTRY_W7 + 32 * n, Off.PST_CMD_STATUS] s t)) ∧
  (∀ (s : State) (v : Word) (c : Instr) (sel : List Nat), RegsWf s → s.up = true →
    (c = .disarm v ∧ sel = [fld v 16 10] ∨ c = .disarmMask v ∧ sel = s.masked ∨ c = .disarmAll v ∧ sel = List.range 1024) →
    ∃ t, exec c s = .next t ∧ fld (t.reg Off.PST_CMD_STATUS) 0 4 = 2 ∧ Raised Irq.PST_CMD_DONE t ∧
      (∀ n ∈ sel, t.entryState n = 0 ∧ t.armedOf n = none ∧ t.eFires n = s.eFires n) ∧
      (∀ n, n ∉ sel → n < 1024 → t.armedOf n = s.armedOf n ∧ t.entryWord n 7 = s.entryWord n 7) ∧ t.pst.pulses = s.pst.pulses ∧
      (∀ n w, n < 1024 → w < 7 → t.entryWord n w = s.entryWord n w) ∧ OnlyIn [.regs, .pst, .icus] s t) ∧
  (∀ (s : State) (n : Nat) (p : Pulse) (rest : List Pulse), RegsWf s → s.up = true → s.pst.pulses.filter (fun x => x.index == n) = p :: rest →
    (∀ x ∈ rest, p.endAt < x.endAt) →
    ∃ t, exec (.pulseEnd n) s = .next t ∧ p.endAt ≤ t.now ∧ t.pst.pulses = s.pst.pulses.erase p ∧
      (p.taken = true → t.reg Off.PST_CONFLICT_CNT = s.reg Off.PST_CONFLICT_CNT + 1 ∧ Raised Irq.PST_CONFLICT t ∧ t.pst.sync = s.pst.sync ∧
        t.pst.doLevel = s.pst.doLevel ∧ t.dio = s.dio ∧ t.out = s.out) ∧
      (p.taken = false → p.sync = true → t.pst.sync = s.pst.sync &&& ~~~(1#8 <<< p.target) ∧ t.pst.doLevel = s.pst.doLevel ∧
        t.regs = s.regs ∧ t.dio = s.dio) ∧
      (p.taken = false → p.sync = false → t.pst.doLevel = s.pst.doLevel &&& ~~~(1#16 <<< p.target) ∧ t.pst.sync = s.pst.sync) ∧
      t.pst.armed = s.pst.armed ∧ RegsOnly [Off.PST_CONFLICT_CNT, Off.DIO_DARK_SKIP_CNT, Off.DIO_DEMAG_HIGH_CNT] s t ∧
      OnlyIn [.now, .time, .nv, .isl, .regs, .out, .pst, .dio, .icus] s t) ∧
  (∀ (s : State) (n w : Nat) (v : Word), RegsWf s → s.up = true → n < 1024 → w < 8 →
    ∃ t, exec (.entryWordWrite n w v) s = .next t ∧
      (w < 7 → s.armedOf n = none → t.entryWord n w = v &&& regMask (Off.PST_ENTRY_W0 + 32 * n + 4 * w) ∧
        RegsOnly [Off.PST_ENTRY_W0 + 32 * n + 4 * w] s t) ∧
      (w < 7 → s.armedOf n ≠ none → t.reg Off.PST_WRITE_REJECTS = s.reg Off.PST_WRITE_REJECTS + 1 ∧
        RegsOnly [Off.PST_WRITE_REJECTS] s t) ∧ (w = 7 → t.regs = s.regs) ∧ OnlyIn [.regs] s t) ∧
  (∀ (s : State) (core : Nat) (e : Fire) (rest : List Fire), s.up = true → s.pst.fifo = e :: rest →
    ∃ t, exec (.pstFireHeadRead core) s = .next t ∧ t.pst = { s.pst with fifo := rest } ∧ t.vot = s.vot.answered core e.head false ∧
      t.latched none core Off.PST_FIRE_TIME = some e.time ∧ OnlyIn [.latches, .pst, .vot] s t) ∧
  (∀ (s : State) (core : Nat), s.up = true → s.pst.fifo = [] →
    ∃ t, exec (.pstFireHeadRead core) s = .next t ∧ t.pst = s.pst ∧ t.vot = s.vot.answered core 0 false ∧
      OnlyIn [.latches, .pst, .vot] s t) ∧
  (∀ (s : State) (n : Nat), RegsWf s → s.up = true → n < 1024 →
    ∃ t, exec (.pisteStoreScrub n) s = .next t ∧ t.entryState n = 6 ∧ fld (t.entryWord n 7) 8 4 = 6 ∧ t.eFires n = s.eFires n ∧
      t.armedOf n = none ∧ (∀ m, m ≠ n → t.armedOf m = s.armedOf m) ∧ Raised Irq.PST_STORE_ERROR t ∧ Recorded 0x0601 [iU16 1 n] s t ∧
      RegsOnly [Off.PST_ENTRY_W7 + 32 * n, Off.REC_LOST_CNT] s t ∧ OnlyIn (.pst :: recParts) s t)

/-! ### Fjoerayr network -/

/-- BASIC_CYCLE_START (R212, R276, R253, R254), CYCLE_POINT (R242) and NIT_START (R240, R268): a plain basic cycle with the loop roles it brings, the
integration at the second matching cluster cycle, a COLDSTART frame, a cycle point with its interrupt, and the midpoint of one value or of none. -/
def Obligations.BasicCycles : Prop :=
  (∀ (s : State) (n : Nat), RegsWf s → s.up = true → n = s.nextCycle → n % s.matrix.m ≠ 0 → s.ftn.su ≠ .coldstart →
    0 < s.time.tb0.rate →
    ∃ t, exec .basicCycleStart s = .next t ∧ t.ftn.cycle = n ∧ n * s.matrix.t ≤ t.tb0 ∧ t.ftn.roleA = s.roleOf false ∧
      t.ftn.roleB = s.roleOf true ∧ t.ftn.su = s.ftn.su ∧ t.ftn.sync = List.replicate 15 none ∧ t.ftn.errSeen = false ∧
      t.ftn.ports = s.ftn.ports ∧ t.ftn.links = s.ftn.links ∧
      (s.roleOf false ≠ .normal → s.roleOf false ≠ s.ftn.roleA → s.roleOf true = .normal →
        t.reg Off.FTN_RING_LOOPS = s.reg Off.FTN_RING_LOOPS + 1 ∧ Raised Irq.FTN_RING_LOOP t) ∧
      RegsOnly [Off.FTN_RING_LOOPS] s t ∧ OnlyIn [.now, .time, .nv, .isl, .regs, .ftn, .icus] s t) ∧
  (∀ (s : State) (n from_ : Nat), RegsWf s → s.up = true → n = s.nextCycle → n % s.matrix.m = 0 → s.shadows = [] →
    (∀ l ∈ s.ftn.links, l.restoreAt = none ∧ l.broken = false) → s.ftn.su = .aligned → s.ftn.countFrom = some from_ → s.ftn.ccMatch = true →
    1 ≤ s.ftn.match_ → s.sys.mode ≠ .integrate → s.odo.takeFrom = none →
    ∃ t, exec .basicCycleStart s = .next t ∧ t.ftn.cycle = n ∧ t.ftn.su = .integrated ∧ t.sys.mode = s.sys.mode ∧
      t.reg Off.FTN_INTEG_COUNT = s.reg Off.FTN_INTEG_COUNT + 1 ∧ Raised Irq.FTN_INTEGRATED t ∧ RegsOnly [Off.FTN_INTEG_COUNT] s t ∧
      OnlyIn [.now, .time, .nv, .isl, .regs, .sys, .chk, .ftn, .icus] s t) ∧
  (∀ (s : State) (n : Nat), RegsWf s → s.up = true → n = s.nextCycle → n % s.matrix.m ≠ 0 → s.ftn.su = .coldstart →
    s.roleOf false = .normal → s.roleOf true = .normal → s.txLive = true →
    ∃ t, exec .basicCycleStart s = .next t ∧ t.ftn.su = .coldstart ∧ t.ftn.coldFrom.isSome = true ∧
      (∃ f : Frame, f.kind = 4 ∧ f.slot = 32768 + ((s.ftn.active.syncs.find? fun x => x.2.owner == s.ownAddr).map (·.1)).getD 0 ∧ OwnAddressed f s ∧
        f.payload = beBytes 4 s.ftn.matrixId.toNat ++ beBytes 2 s.ftn.attempt ++ beBytes 2 0 ∧
        t.out = s.out ++ [.frame 0 f, .frame 3 f]) ∧ t.reg Off.FTN_TX_FRAMES = s.reg Off.FTN_TX_FRAMES + 1 ∧
      RegsOnly [Off.FTN_TX_FRAMES] s t ∧ OnlyIn [.now, .time, .nv, .isl, .regs, .out, .ftn] s t) ∧
  (∀ (s : State) (c : Nat) (cp : Word), c < 32 → cp = s.reg (Off.FTN_CP + 4 * c) → s.ftn.su = .integrated →
    s.bIdx % 2 ^ fld cp 2 3 = fld cp 5 6 → bit cp 1 = false → 0 < s.time.tb0.rate →
    (bit s.ftn.cpErr c = false → ∃ t, exec (.cyclePoint c) s = .next t ∧
      s.ftn.cycle * s.matrix.t + 1000 * fld cp 12 12 ≤ t.tb0 ∧ (bit cp 0 = true → Raised (Irq.FTN_CP + c) t) ∧
      (bit cp 0 = false → t.icus = s.icus) ∧ OnlyIn [.now, .time, .nv, .isl, .icus] s t) ∧
    (bit s.ftn.cpErr c = true → ∃ t, exec (.cyclePoint c) s = .next t ∧ OnlyIn [] s t)) ∧
  (∀ (s : State) (v : SyncVal), RegsWf s → s.up = true → s.ftn.su = .integrated → s.ftn.active.entries = [] →
    s.ftn.sync.filterMap id = [v] → s.syncNode = false → v.dev.natAbs ≤ max 1 (fld (s.reg Off.FTN_SU_CFG) 8 8) * 25600 →
    (∀ l : Lane, s.servoOn 0 l = false) → s.discards < 4 →
    ∃ t, exec .nitStart s = .next t ∧ t.ftn.midValid = true ∧ t.ftn.midpoint = v.dev ∧ t.ftn.used = 1 ∧ t.ftn.out = 0 ∧
      t.ftn.noMidRun = 0 ∧ t.ftn.clique = 0 ∧ t.ftn.su = .integrated ∧ RegsOnly [Off.FTN_SYNC_OUT_WINDOW] s t ∧
      OnlyIn [.now, .time, .nv, .isl, .regs, .ftn, .icus] s t) ∧
  (∀ (s : State) (i : Nat) (e : Slot), RegsWf s → s.up = true → s.ftn.su = .integrated → s.ftn.active.entries = [(i, e)] →
    e.rx = true → e.kind ≠ 2 → e.occurs s.bIdx = true → (s.rxOf i).got = false → s.ftn.sync.filterMap id = [] → s.syncNode = false →
    ∃ t, exec .nitStart s = .next t ∧ (t.rxOf i).state = 3 ∧ (t.rxOf i).count = ((s.rxOf i).count + 1) % 65536 ∧ t.ftn.midValid = false ∧
      t.ftn.midpoint = s.ftn.midpoint ∧ t.ftn.noMidRun = s.ftn.noMidRun + 1 ∧ t.reg Off.FTN_RX_MISSING = s.reg Off.FTN_RX_MISSING + 1 ∧
      t.reg Off.FTN_SYNC_NO_MIDPOINT = s.reg Off.FTN_SYNC_NO_MIDPOINT + 1 ∧ (e.irq = true → Raised Irq.FTN_RX_MISSING t) ∧
      (s.ftn.noMidRun = 0 → Raised Irq.FTN_SYNC_INVALID t) ∧ RegsOnly [Off.FTN_RX_MISSING, Off.FTN_SYNC_NO_MIDPOINT, Off.FTN_SYNC_OUT_WINDOW] s t ∧
      OnlyIn [.now, .time, .nv, .isl, .regs, .ftn, .icus] s t)

/-- FRAME_BUILD (R225 to R230, Table 7.20), ARB_OCCURRENCE and ARB_AGE_EXPIRY (R235), with no broken link, both channels on and no star port to serve: the
own frame of a SYNC or DATA entry, or the NULL frame in its place, and the queued frame of a minislot go out on both channels; corrupt data makes the
module fail-silent. -/
def Obligations.SendingFrames : Prop :=
  (∀ (s : State) (i n tx kind : Nat) (e : Slot) (be : Bool), RegsWf s → s.up = true → s.ftn.su = .integrated →
    s.ftn.active.entry i = some e → s.buildAt e.start = some (n, tx) →
    e.owner = s.ownAddr → e.occurs (n % s.matrix.m) = true → e.starFwd = 0 → s.bothLive = true →
    (kind = 3 ∧ e.kind = 1 ∨ kind = 2 ∧ e.kind = 0 ∧ s.nullReason e tx be ≠ 0 ∨ kind = 1 ∧ e.kind = 0 ∧ s.nullReason e tx be = 0) →
    ∃ t, exec (.frameBuild i be false) s = .next t ∧
      (∃ f : Frame, f.kind = kind ∧ OwnAddressed f s ∧ f.slot = i ∧ f.txTime = ctime tx ∧ f.cycle = cycleField s.matrix.m (tx / s.matrix.t) ∧
        f.hop = 0 ∧ f.looped = false ∧ f.seq = ((look s.ftn.seqs i).getD 65535 + 1) % 65536 ∧
        (kind = 2 → f.info = BitVec.ofNat 8 (s.nullReason e tx be) ∧ f.payload = beBytes 4 s.imageCycle) ∧
        (kind = 1 → e.map = 1 → f.dest = fld (s.txBuf e.buf).hdr 0 16 ∧ f.payload = (List.range e.plen).map (s.txBuf e.buf).byte) ∧
        t.out = s.out ++ [.frame 0 f, .frame 3 f]) ∧
      t.reg Off.FTN_TX_FRAMES = s.reg Off.FTN_TX_FRAMES + 1 ∧ (kind = 2 → t.reg Off.FTN_TX_NULL = s.reg Off.FTN_TX_NULL + 1) ∧
      (kind = 1 → e.map = 1 → (t.txBuf e.buf).sent = ((s.txBuf e.buf).sent + 1) % 65536 ∧ (e.irq = true → Raised Irq.FTN_TX_DONE t)) ∧
      (kind = 2 → s.ftn.nullSent = false → Raised Irq.FTN_NULL_SENT t) ∧
      (kind = 2 → s.nullReason e tx be = 6 → InQueue 0x0704 [iU16 1 i] s t) ∧ t.ftn.su = s.ftn.su ∧ t.ftn.cycle = s.ftn.cycle ∧
      RegsOnly [Off.FTN_TX_FRAMES, Off.FTN_TX_NULL, Off.REC_LOST_CNT] s t ∧
      OnlyIn (.now :: .free :: .out :: .nv :: .time :: .ftn :: recParts) s t) ∧
  (∀ (s : State) (i n tx : Nat) (e : Slot) (be : Bool), s.up = true → s.ftn.active.entry i = some e → s.buildAt e.start = some (n, tx) →
    e.owner = s.ownAddr → e.occurs (n % s.matrix.m) = true →
    ∃ t, exec (.frameBuild i be true) s = .next t ∧ FellSilent s t ∧ t.sys.hubFault = true ∧ OnlyIn (.now :: .time :: silentParts) s t) ∧
  (∀ (s : State) (i n tx : Nat) (e : Slot) (q : Queued), s.up = true → s.ftn.su = .integrated → s.ftn.active.entry i = some e → e.kind = 2 →
    s.buildAt e.start = some (n, tx) → e.owner = s.ownAddr → e.occurs (n % s.matrix.m) = true → e.starFwd = 0 → s.bothLive = true →
    (s.ftn.arb = [q] → q.frame.source ≠ s.ownAddr → s.starMask q.frame = 0 → ∃ t, exec (.arbOccurrence i []) s = .next t ∧
      t.out = s.out ++ [.frame 0 q.frame, .frame 3 q.frame] ∧ t.ftn.arb = [] ∧ t.ftn.seqs = s.ftn.seqs ∧
      OnlyIn [.now, .time, .nv, .isl, .out, .ftn] s t) ∧
    (s.ftn.arb = [] → ∃ t, exec (.arbOccurrence i []) s = .next t ∧ t.out = s.out ∧ OnlyIn [.now, .time, .nv, .isl] s t)) ∧
  (∀ (s : State) (i n tx kind dest : Nat) (e : Slot) (q : Queued) (own : List ArbData) (payload : List Byte), RegsWf s → s.up = true →
    s.ftn.su = .integrated → s.ftn.active.entry i = some e → e.kind = 2 → s.buildAt e.start = some (n, tx) → e.owner = s.ownAddr →
    e.occurs (n % s.matrix.m) = true → e.starFwd = 0 → s.bothLive = true → dest ≠ 65535 → dest / 256 ≠ s.ownAddr / 256 →
    (own = [] ∧ s.ftn.arb = [q] ∧ q.frame.source = s.ownAddr ∧ kind = q.frame.kind ∧ dest = q.frame.dest ∧ payload = q.frame.payload ∨
     own = [⟨dest, 7, 3, payload⟩] ∧ s.ftn.arb = [] ∧ kind = 1) →
    ∃ t, exec (.arbOccurrence i own) s = .next t ∧ t.ftn.arb = [] ∧
      (∃ f : Frame, f.kind = kind ∧ f.dest = dest ∧ f.payload = payload ∧ f.slot = 0x7FFF ∧ f.txTime = ctime tx ∧ OwnAddressed f s ∧
        t.out = s.out ++ [.frame 0 f, .frame 3 f]) ∧ t.reg Off.FTN_TX_FRAMES = s.reg Off.FTN_TX_FRAMES + 1 ∧
      RegsOnly [Off.FTN_TX_FRAMES] s t ∧ OnlyIn [.now, .time, .nv, .isl, .regs, .out, .ftn] s t) ∧
  (∀ (s : State) (keep : List Queued), RegsWf s →
    keep = s.ftn.arb.filter (fun q => decide (s.ftn.cycle ≤ q.cycle + max 1 (fld (s.reg Off.FTN_ARB_CFG) 28 4))) →
    ∃ t, exec .arbAgeExpiry s = .next t ∧ t.ftn = { s.ftn with arb := keep } ∧
      t.reg Off.FTN_ARB_DROP = s.reg Off.FTN_ARB_DROP + BitVec.ofNat 32 (s.ftn.arb.length - keep.length) ∧
      (keep.length < s.ftn.arb.length → Raised Irq.FTN_ARB_DROP t) ∧ RegsOnly [Off.FTN_ARB_DROP] s t ∧ OnlyIn [.regs, .ftn, .icus] s t)

/-- FRAME_RECEIVE (R231, R232, R236 to R239) and STAR_FRAME_RECEIVE (R233, R235, R271, R272): a frame of another ring node on a main-direction receive
port is forwarded and checked, an own one removed, one past its hops dropped; a star frame that the guardian passes goes onto both channels or into
the arbitrating queue, and one that it does not is a violation. -/
def Obligations.ReceivingFrames : Prop :=
  (∀ (s : State) (p out gap : Nat) (f : Frame) (e : Slot) (stamp : Int), RegsWf s → s.up = true → s.passesOn p out →
    f.looped = false → f.source / 256 ≠ s.ownAddr / 256 → f.hop + 1 < 2 * s.matrix.n → s.verdict f = .accept gap → f.kind = 1 ∨ f.kind = 2 →
    frameWindow f = 0 → s.ftn.active.entry (frameEntry f) = some e → e.rx = true → e.map ≠ 2 → e.starFwd = 0 →
    ∃ t, exec (.frameReceive p f stamp) s = .next t ∧ t.out = s.out ++ [.frame out { f with hop := f.hop + 1 }] ∧
      t.reg Off.FTN_RX_OK = s.reg Off.FTN_RX_OK + 1 ∧ t.reg Off.FTN_SEQ_GAP = s.reg Off.FTN_SEQ_GAP + BitVec.ofNat 32 gap ∧
      (f.kind = 2 → t.reg Off.FTN_RX_NULL = s.reg Off.FTN_RX_NULL + 1) ∧ (t.rxOf (frameEntry f)).state = f.kind ∧
      (t.rxOf (frameEntry f)).count = ((s.rxOf (frameEntry f)).count + 1) % 65536 ∧ (t.rxOf (frameEntry f)).got = true ∧
      (f.kind = 1 → e.map = 0 → (t.rxOf (frameEntry f)).data = f.payload) ∧
      (f.kind = 1 → e.map = 1 → (t.rxBuf e.buf).frame = some f ∧ (t.rxBuf e.buf).chanB = (p == 2) ∧
        (t.rxBuf e.buf).time = stampWord (s.ingress p stamp) ∧ (t.rxBuf e.buf).state = 1) ∧
      t.ftn.last.head? = some ⟨f.source, f.slot, f.seq, frameBody f, p == 2, (s.ingress p stamp).map hubEdge⟩ ∧
      (e.irq = true → Raised Irq.FTN_RX t) ∧ t.ftn.su = s.ftn.su ∧
      RegsOnly [Off.FTN_RX_OK, Off.FTN_SEQ_GAP, Off.FTN_RX_NULL] s t ∧ OnlyIn [.regs, .out, .ftn, .icus] s t) ∧
  (∀ (s : State) (p out c : Nat) (f : Frame) (stamp : Int), RegsWf s → s.up = true → s.passesOn p out →
    f.looped = false → f.source / 256 ≠ s.ownAddr / 256 → linkLocal f = false →
    (2 * s.matrix.n ≤ f.hop + 1 → ∃ t, exec (.frameReceive p f stamp) s = .next t ∧
      t.reg Off.FTN_HOP_DROP = s.reg Off.FTN_HOP_DROP + 1 ∧ RegsOnly [Off.FTN_HOP_DROP] s t ∧ OnlyIn [.regs] s t) ∧
    (f.hop + 1 < 2 * s.matrix.n → s.verdict f = .fail c → ∃ t, exec (.frameReceive p f stamp) s = .next t ∧
      t.out = s.out ++ [.frame out { f with hop := f.hop + 1 }] ∧ t.reg c = s.reg c + 1 ∧ t.ftn = { s.ftn with errSeen := true } ∧
      (s.ftn.errSeen = false → Raised Irq.FTN_RX_ERROR t) ∧ RegsOnly [c] s t ∧ OnlyIn [.regs, .out, .ftn, .icus] s t) ∧
    (f.hop + 1 < 2 * s.matrix.n → s.verdict f = .second false → (s.ftn.last.all fun y => !y.chanB) = true →
      ∃ t, exec (.frameReceive p f stamp) s = .next t ∧
      t.reg Off.FTN_CH_MISMATCH = s.reg Off.FTN_CH_MISMATCH + 1 ∧ Raised Irq.FTN_CH_MISMATCH t ∧ t.ftn = s.ftn ∧
      RegsOnly [Off.FTN_CH_MISMATCH] s t ∧ OnlyIn [.regs, .out, .icus] s t)) ∧
  (∀ (s : State) (p out : Nat) (f : Frame) (stamp : Int), linkLocal f = false → f.source / 256 = s.ownAddr / 256 →
    (p = 1 ∨ p = 2 → f.looped = false → ∃ t, exec (.frameReceive p f stamp) s = .next t ∧ OnlyIn [] s t) ∧
    (s.up = true → s.portLive p = true → f.looped = true → f.hop + 1 < 2 * s.matrix.n →
      (p = 0 ∧ out = 1 ∧ s.ftn.roleA ≠ .tail ∧ s.ftn.roleA ≠ .isolated ∨ p = 3 ∧ out = 2 ∧ s.ftn.roleB ≠ .tail ∧ s.ftn.roleB ≠ .isolated) →
      ∃ t, exec (.frameReceive p f stamp) s = .next t ∧ t.out = s.out ++ [.frame out { f with hop := f.hop + 1 }] ∧ OnlyIn [.out] s t)) ∧
  (∀ (s : State) (p gap : Nat) (f : Frame) (g : Guard) (stamp : Int), RegsWf s → s.up = true → p < 16 → s.portLive (4 + p) = true →
    s.sys.guardianFault = false → s.ftn.guards[p]? = some g → s.starViolation p f (s.inCycle ((s.ingress (4 + p) stamp).getD stamp)) = none →
    s.verdict f = .accept gap → f.looped = false → f.kind = 1 →
    (∀ e, frameWindow f = 0 → s.ftn.active.entry f.slot = some e → e.rx = false → e.starFwd = 0 → s.bothLive = true → 0 < s.time.tb0.rate →
      ∃ t, exec (.starFrameReceive p f stamp) s = .next t ∧ t.out = s.out ++ [.frame 0 f, .frame 3 f] ∧ t.ftn.arb = s.ftn.arb ∧
        s.ftn.cycle * s.matrix.t + e.ringStart ≤ t.tb0 ∧
        t.ftn.guards[p]? = some { g with passed := f.slot :: g.passed } ∧
        t.reg Off.FTN_RX_OK = s.reg Off.FTN_RX_OK + 1 ∧ RegsOnly [Off.FTN_RX_OK, Off.FTN_SEQ_GAP] s t ∧
        OnlyIn [.now, .time, .nv, .isl, .regs, .out, .ftn] s t) ∧
    (frameWindow f = 1 → s.ftn.arb.length < 32 → f.dest ≠ s.ownAddr → f.dest ≠ 65535 →
      ∃ t, exec (.starFrameReceive p f stamp) s = .next t ∧ t.ftn.arb = s.ftn.arb ++ [⟨f, s.ftn.cycle⟩] ∧
        t.ftn.guards[p]? = some { g with arbs := g.arbs + 1 } ∧
        t.reg Off.FTN_RX_OK = s.reg Off.FTN_RX_OK + 1 ∧ RegsOnly [Off.FTN_RX_OK, Off.FTN_SEQ_GAP] s t ∧ OnlyIn [.regs, .ftn] s t)) ∧
  (∀ (s : State) (p c : Nat) (f : Frame) (stamp : Int), RegsWf s → s.up = true → p < 16 → s.portLive (4 + p) = true →
    s.sys.guardianFault = false → s.starViolation p f (s.inCycle ((s.ingress (4 + p) stamp).getD stamp)) = none → s.verdict f = .fail c →
    ∃ t, exec (.starFrameReceive p f stamp) s = .next t ∧ t.reg c = s.reg c + 1 ∧ t.out = s.out ∧ t.ftn.errSeen = true ∧ t.ftn.arb = s.ftn.arb ∧
      t.ftn.last = s.ftn.last ∧ RegsOnly [c] s t ∧ OnlyIn [.regs, .ftn, .icus] s t) ∧
  (∀ (s : State) (p : Nat) (f : Frame) (stamp : Int), RegsWf s → s.up = true → p < 16 → s.portLive (4 + p) = true → s.sys.guardianFault = false →
    p < s.ftn.guards.length → (s.starWindows p = [] ∧ s.matrix.nit ≤ s.matrix.t) →
    ((s.matrix.t - s.matrix.nit : Nat) : Int) * 256 ≤ s.inCycle ((s.ingress (4 + p) stamp).getD stamp) →
    ∃ t, exec (.starFrameReceive p f stamp) s = .next t ∧ t.reg Off.FTN_GUARD_BLOCKED = s.reg Off.FTN_GUARD_BLOCKED + 1 ∧ t.out = s.out ∧
      (t.ftn.guards[p]?).map (·.lastKind) = some 7 ∧ t.ftn.arb = s.ftn.arb ∧ t.ftn.last = s.ftn.last ∧
      RegsOnly [Off.FTN_GUARD_BLOCKED, Off.REC_LOST_CNT] s t ∧ OnlyIn (.ftn :: recParts) s t)

/-- MATRIX_COMMIT and MATRIX_DISCARD (R219, Tables 7.14 and 7.15), SLOT_W4_WRITE, TXB_PREPARE, TXB_CANCEL and TXB_WRITE (R244, R245) and RXB_SNAPSHOT
(R246). Taking part in the network (R249, R250, R256, R258, Table 8.1): RUN_SET, RUN_CLEAR, LEAVING_END, LISTEN_TIMEOUT, BACKOFF_END and COLD_ABORT. -/
def Obligations.MatrixAndParticipation : Prop :=
  (∀ (s : State) (key : Half), RegsWf s → s.up = true → s.shadows = [] →
    ((List.range 22).all fun p => !(s.port p).up || s.portUsed p) = true →
    ∃ t, exec (.matrixCommit key) s = .next t ∧ Raised Irq.FTN_MATRIX_DONE t ∧ t.ftn.shadow = s.ftn.shadow ∧
      (key = 0x4D58 → bit (s.reg Off.FTN_CTRL) 0 = false → s.matrixCheck.1 = 0 → t.ftn.active = s.ftn.shadow ∧ t.ftn.shadowDirty = false ∧
        t.ftn.matrix = ⟨2, 0, 0⟩ ∧ t.ftn.matrixId = matrixId (s.reg Off.FTN_MATRIX_CFG) (s.reg Off.FTN_MATRIX_CFG2) (s.reg Off.FTN_ARB_CFG) s.ftn.shadow ∧
        RegsOnly [Off.CYC_IMG_OVERLAP, Off.CYC_STN_UNLISTED] s t) ∧
      (∀ cause entry, (cause = 6 ∧ entry = 0 ∧ key ≠ 0x4D58 ∨ cause = 1 ∧ entry = 0 ∧ key = 0x4D58 ∧ bit (s.reg Off.FTN_CTRL) 0 = true ∨
          key = 0x4D58 ∧ bit (s.reg Off.FTN_CTRL) 0 = false ∧ s.matrixCheck = (cause, entry) ∧ cause ≠ 0) →
        t.ftn = { s.ftn with matrix := ⟨3, cause, entry⟩ } ∧ t.cyc = s.cyc ∧
        t.reg Off.FTN_WRITE_REJECTS = s.reg Off.FTN_WRITE_REJECTS + 1 ∧ RegsOnly [Off.FTN_WRITE_REJECTS] s t) ∧
      OnlyIn [.regs, .ftn, .cyc, .icus] s t) ∧
  (∀ (s : State) (key : Half), s.up = true →
    (key = 0x4D58 → ∃ t, exec (.matrixDiscard key) s = .next t ∧
      t.ftn = { s.ftn with shadow := s.ftn.active, shadowDirty := false, matrix := ⟨2, 0, 0⟩ } ∧
      t.shadows = s.shadows.filter (fun x => boundaryOf (x.key % 16777216) != .shadowMatrix) ∧ OnlyIn [.shadows, .ftn] s t) ∧
    (key ≠ 0x4D58 → ∃ t, exec (.matrixDiscard key) s = .next t ∧ t.ftn = { s.ftn with matrix := ⟨3, 6, 0⟩ } ∧ OnlyIn [.ftn] s t)) ∧
  (∀ (s : State) (v : Word), RegsWf s → s.up = true → (s.ftn.shadow.entries.map (·.1)).Nodup → bit (s.reg Off.FTN_SLOT_SEL) 16 = false →
    ∃ t, exec (.slotW4Write v) s = .next t ∧
      (t.ftn.shadow.entry (fld (s.reg Off.FTN_SLOT_SEL) 0 14)).getD ⟨0, 0, 0, 0, 0⟩ = ⟨s.reg Off.FTN_SLOT, s.reg (Off.FTN_SLOT + 4), s.reg (Off.FTN_SLOT + 8), s.reg (Off.FTN_SLOT + 12), v &&& 0xFFFF#32⟩ ∧
      (∀ j, j ≠ fld (s.reg Off.FTN_SLOT_SEL) 0 14 → t.ftn.shadow.entry j = s.ftn.shadow.entry j) ∧ t.ftn.shadowDirty = true ∧
      t.ftn.active = s.ftn.active ∧ RegsOnly [Off.FTN_SLOT + 16] s t ∧ OnlyIn [.regs, .ftn] s t) ∧
  (∀ (s : State) (v : Word), RegsWf s → s.up = true → bit (s.reg Off.FTN_SLOT_SEL) 16 = true →
    ∃ t, exec (.slotW4Write v) s = .next t ∧ t.reg Off.FTN_WRITE_REJECTS = s.reg Off.FTN_WRITE_REJECTS + 1 ∧
      RegsOnly [Off.FTN_WRITE_REJECTS] s t ∧ OnlyIn [.regs] s t) ∧
  (∀ (s : State), s.up = true → (∃ t, exec .txbPrepare s = .next t ∧ t.txBuf s.txSel = { s.txBuf s.txSel with state := .prepared } ∧
      (∀ b, b ≠ s.txSel → t.txBuf b = s.txBuf b) ∧ OnlyIn [.ftn] s t) ∧
    ((s.ftn.txBufs.map (·.1)).Nodup → ∃ t, exec .txbCancel s = .next t ∧ t.txBuf s.txSel = { s.txBuf s.txSel with state := .empty } ∧
      (∀ b, b ≠ s.txSel → t.txBuf b = s.txBuf b) ∧ OnlyIn [.ftn] s t)) ∧
  (∀ (s : State) (off : Nat) (v : Word), RegsWf s → s.up = true →
    ((s.txBuf s.txSel).state = .prepared ∨ (s.txBuf s.txSel).state = .released → ∃ t, exec (.txbWrite off v) s = .next t ∧
      t.reg Off.FTN_WRITE_REJECTS = s.reg Off.FTN_WRITE_REJECTS + 1 ∧ RegsOnly [Off.FTN_WRITE_REJECTS] s t ∧ OnlyIn [.regs] s t) ∧
    ((s.txBuf s.txSel).state = .sent → ∃ t, exec (.txbWrite off v) s = .next t ∧ OnlyIn [.ftn] s t ∧
      (∀ b, b ≠ s.txSel → t.txBuf b = s.txBuf b) ∧
      (off = Off.FTN_TXB_HDR → t.txBuf s.txSel = { s.txBuf s.txSel with hdr := v }) ∧
      (off = Off.FTN_TXB_CFG → t.txBuf s.txSel = { s.txBuf s.txSel with cfg := v &&& 0x3FF#32 }) ∧
      (∀ i, i < 368 → off = Off.FTN_TXB_DATA + 4 * i → v ≠ 0 → look (t.txBuf s.txSel).data i = some v))) ∧
  (∀ (s : State) (v : Word), RegsWf s → s.up = true → ∃ t, exec (.rxbSnapshot v) s = .next t ∧ t.ftn.snapshot = some (s.rxBuf (fld v 0 8)) ∧
    (t.rxBuf (fld v 0 8)).unread = false ∧ t.reg Off.FTN_RXB_SEL = v &&& regMask Off.FTN_RXB_SEL ∧
    (∀ b, b ≠ fld v 0 8 → t.rxBuf b = s.rxBuf b) ∧ t.ftn.arb = s.ftn.arb ∧ RegsOnly [Off.FTN_RXB_SEL] s t ∧ OnlyIn [.regs, .ftn] s t) ∧
  (∀ (s : State), RegsWf s → s.up = true → ∃ t, exec .runSet s = .next t ∧ bit (t.reg Off.FTN_CTRL) 0 = true ∧
    t.ftn.su = (if s.ftn.su = .stopped then .listen else s.ftn.su) ∧
    t.ftn.suDue = (if s.ftn.su = .stopped then s.listenDue else s.ftn.suDue) ∧
    t.ftn.attempt = (if bit (s.reg Off.FTN_CTRL) 0 then s.ftn.attempt else 0) ∧ t.ftn.active = s.ftn.active ∧ t.ftn.cycle = s.ftn.cycle ∧
    RegsOnly [Off.FTN_CTRL] s t ∧ OnlyIn [.regs, .ftn] s t) ∧
  (∀ (s : State), RegsWf s → s.up = true → ∃ t, exec .runClear s = .next t ∧ bit (t.reg Off.FTN_CTRL) 0 = false ∧
    (s.ftn.su = .integrated → t.ftn = { s.ftn with leaving := true }) ∧ (s.ftn.su ≠ .integrated → t.ftn.su = .stopped) ∧
    t.ftn.active = s.ftn.active ∧ RegsOnly [Off.FTN_CTRL] s t ∧ OnlyIn [.regs, .ftn] s t) ∧
  (∀ (s : State), RegsWf s → s.ftn.leaving = true → s.ftn.su = .integrated →
    ∃ t, exec .leavingEnd s = .next t ∧ t.ftn.leaving = false ∧ t.ftn.exit = 4 ∧
      t.ftn.su = (if bit (s.reg Off.FTN_CTRL) 0 then .listen else .stopped) ∧ t.reg Off.FTN_INTEG_LOSS = s.reg Off.FTN_INTEG_LOSS + 1 ∧
      Raised Irq.FTN_INTEG_LOST t ∧ Recorded 0x0705 [iU8 1 4] s t ∧ RegsOnly [Off.FTN_INTEG_LOSS, Off.REC_LOST_CNT] s t ∧
      OnlyIn (.ftn :: recParts) s t) ∧
  (∀ (s : State) (c : Instr), RegsWf s →
    (c = .listenTimeout ∧ s.ftn.su = .listen ∧ s.coldNode = true ∧ s.ftn.exhausted = false ∨
     c = .backoffEnd ∧ s.ftn.su = .backoff ∧ s.ftn.exhausted = false) →
    ∃ t, exec c s = .next t ∧ s.ftn.suDue ≤ t.now ∧ t.ftn = { s.ftn with su := .coldstart, leader := true, attempt := s.ftn.attempt + 1, coldFrom := none, exhausted := decide (max 1 (fld (s.reg Off.FTN_SU_CFG) 0 4) ≤ s.ftn.attempt + 1) } ∧
      t.reg Off.FTN_SU_ATTEMPTS = s.reg Off.FTN_SU_ATTEMPTS + 1 ∧ Raised Irq.FTN_COLDSTART t ∧ RegsOnly [Off.FTN_SU_ATTEMPTS] s t ∧
      OnlyIn [.now, .time, .nv, .isl, .regs, .ftn, .icus] s t) ∧
  (∀ (s : State), s.ftn.su = .backoff → s.ftn.exhausted = true → ∃ t, exec .backoffEnd s = .next t ∧ t.ftn.su = .listen ∧
    s.ftn.suDue ≤ t.now ∧ t.ftn.suDue = t.listenDue ∧ OnlyIn [.now, .time, .nv, .isl, .ftn] s t) ∧
  (∀ (s : State), s.ftn.su = .listen → s.coldNode = false → ∃ t, exec .listenTimeout s = .next t ∧ OnlyIn [] s t) ∧
  (∀ (s : State) (n : Nat), s.ftn.su = .aligned → s.ftn.cold = true → s.ftn.countFrom = some n →
    n + max 1 (fld (s.reg Off.FTN_SU_CFG) 4 4) * s.matrix.m ≤ s.ftn.cycle →
    ∃ t, exec .coldAbort s = .next t ∧ t.ftn.su = (if s.ftn.leader then .backoff else .listen) ∧
      t.ftn.suDue = (if s.ftn.leader then s.backoffDue else s.listenDue) ∧ t.ftn.cold = false ∧ t.ftn.leader = false ∧
      t.ftn.exit = 5 ∧ t.ftn.attempt = s.ftn.attempt ∧ OnlyIn [.ftn] s t)

/-- LINK_CHECK_SEND and LINK_CHECK_RECEIVE (R139, R260 to R262): one link check on the one live port; a check received is kept for the echo, an echo gives
the delay, a bad frame is counted, and a star port takes one in its service window alone. The guardian and ring healing (R273, R278, R279, R281):
GUARD_VIOLATION, GUARD_PORT_ENABLE, LINK_BROKEN, HEAL_READY, HEAL_RESTORE_AT, HEAL_ACK, RING_HOLD and RING_RELEASE. -/
def Obligations.LinkChecksAndHealing : Prop :=
  (∀ (s : State) (p : Nat), RegsWf s → s.up = true → bit (s.reg Off.FTN_CTRL) 0 = true → p < 20 → p < s.ftn.ports.length → s.portLive p = true →
    ([s.sys.netA, s.sys.netB].all fun e => decide (e.till ≤ s.now)) = true →
    (∀ q, q < 22 → q ≠ p → s.portLive q = false) → (∀ q, q < 22 → (s.port q).loopFor = false ∧ (s.port q).calRun = false) →
    (∀ l ∈ s.ftn.links, l.broken = false) →
    ∃ t, exec .linkCheckSend s = .next t ∧ (∃ f : Frame, f.kind = 5 ∧ f.info = 2 ∧ f.slot = 0xC000 ∧ f.dest = 65535 ∧ f.hop = 0 ∧
      OwnAddressed f s ∧ f.txTime = ctime (t.egress p / 256).toNat ∧ f.payload.length = (if p = 0 ∨ p = 3 then 84 else 24) ∧
      t.out = s.out ++ [.frame p f] ∧ (t.port p).sent = ((f.seq, t.egress p) :: (s.port p).sent).take 4) ∧
      (∀ q, q ≠ p → t.port q = s.port q) ∧ t.ftn.links = s.ftn.links ∧ OnlyIn [.now, .time, .nv, .isl, .out, .ftn] s t) ∧
  (∀ (s : State) (p : Nat) (f : Frame) (stamp x : Int), RegsWf s → s.up = true → p < 20 → p < s.ftn.ports.length → s.portLive p = true →
    s.ingress p stamp = some x →
    (4 ≤ p → ((s.matrix.t - s.matrix.nit : Nat) : Int) * 256 ≤ s.inCycle x ∧ (s.ftn.guards.getD (p - 4) Reset.guard).checks = 0) →
    f.fcsOk = true → headerOk f = true → f.e2e = frameCrc f → f.kind = 5 → f.info = 2 → f.plen = 84 ∨ f.plen = 24 →
    ∃ t, exec (.linkCheckReceive p f stamp) s = .next t ∧ (t.port p).echoSeq = f.seq ∧ (t.port p).echoRx = x ∧
      (t.port p).lastCheck = some s.ftn.cycle ∧ t.reg Off.FTN_RX_OK = s.reg Off.FTN_RX_OK + 1 ∧ (∀ q, q ≠ p → t.port q = s.port q) ∧
      (∀ y, (s.port p).sent.find? (fun x => x.1 == beAt f.payload 4 2) = some y → (s.port p).cal = .frozen → (s.port p).delay = none →
        (s.port p).delays = [] → (t.port p).delay = some (((x - y.2) - compactDiff f.txTime (beAt f.payload 1 1) (BitVec.ofNat 32 (beAt f.payload 8 4)) (beAt f.payload 12 1)) / 2)) ∧
      ((s.port p).sent = [] → (t.port p).delay = (s.port p).delay) ∧ (4 ≤ p → p < 4 + s.ftn.guards.length → (t.ftn.guards.getD (p - 4) Reset.guard).checks = 1) ∧
      RegsOnly [Off.FTN_RX_OK] s t ∧ OnlyIn [.regs, .ftn, .icus] s t) ∧
  (∀ (s : State) (p c : Nat) (f : Frame) (stamp : Int), RegsWf s → s.up = true → p < 20 → s.portLive p = true →
    (4 ≤ p → ((s.matrix.t - s.matrix.nit : Nat) : Int) * 256 ≤ s.inCycle ((s.ingress p stamp).getD stamp) ∧
      (s.ftn.guards.getD (p - 4) Reset.guard).checks = 0) →
    (c = Off.FTN_RX_FCS_ERR ∧ f.fcsOk = false ∨ c = Off.FTN_RX_BAD_HDR ∧ f.fcsOk = true ∧ headerOk f = false ∨
     c = Off.FTN_RX_CRC_ERR ∧ f.fcsOk = true ∧ headerOk f = true ∧ f.e2e ≠ frameCrc f) →
    ∃ t, exec (.linkCheckReceive p f stamp) s = .next t ∧ t.reg c = s.reg c + 1 ∧ t.ftn = { s.ftn with errSeen := true, guards := t.ftn.guards } ∧
      (s.ftn.errSeen = false → Raised Irq.FTN_RX_ERROR t) ∧ RegsOnly [c] s t ∧ OnlyIn [.regs, .ftn, .icus] s t) ∧
  (∀ (s : State) (p kind : Nat) (f : Frame) (stamp x : Int), RegsWf s → s.up = true → 4 ≤ p → p < 20 → p < 4 + s.ftn.guards.length →
    s.portLive p = true → s.ingress p stamp = some x →
    (kind = 3 ∧ s.inCycle x < ((s.matrix.t - s.matrix.nit : Nat) : Int) * 256 ∨
     kind = 7 ∧ ((s.matrix.t - s.matrix.nit : Nat) : Int) * 256 ≤ s.inCycle x ∧ 1 ≤ (s.ftn.guards.getD (p - 4) Reset.guard).checks) →
    ∃ t, exec (.linkCheckReceive p f stamp) s = .next t ∧ t.reg Off.FTN_GUARD_BLOCKED = s.reg Off.FTN_GUARD_BLOCKED + 1 ∧
      (t.ftn.guards[p - 4]?).map (·.lastKind) = some kind ∧ t.ftn.ports = s.ftn.ports ∧
      RegsOnly [Off.FTN_GUARD_BLOCKED, Off.REC_LOST_CNT] s t ∧ OnlyIn (.ftn :: recParts) s t) ∧
  (∀ (s : State) (p kind lim : Nat) (g : Guard), RegsWf s → s.up = true → p < 16 → s.ftn.guards[p]? = some g → 1 ≤ kind → kind ≤ 7 →
    lim = max 1 (fld (s.reg Off.FTN_GUARD_CFG) 16 4) → g.blocked = false → g.disabled = false → fld (s.reg Off.FTN_GUARD_CFG) 24 8 = 0 →
    ∃ t, exec (.guardViolation p kind) s = .next t ∧
      t.ftn.guards[p]? = some { g with count := g.count + 1, lastKind := kind, total := min 65535 (g.total + 1), blocked := decide (lim ≤ g.count + 1), run := (if lim ≤ g.count + 1 then g.run + 1 else g.run), hit := true, tell := g.tell || !g.hit } ∧
      (∀ q, q ≠ p → t.ftn.guards[q]? = s.ftn.guards[q]?) ∧ t.reg Off.FTN_GUARD_BLOCKED = s.reg Off.FTN_GUARD_BLOCKED + 1 ∧
      (g.hit = false → Raised Irq.FTN_GUARD_VIOLATION t) ∧ (lim ≤ g.count + 1 → Raised Irq.FTN_GUARD_BLOCK t) ∧
      RegsOnly [Off.FTN_GUARD_BLOCKED, Off.FTN_GUARD_TRUNC] s t ∧ OnlyIn [.regs, .ftn, .icus] s t) ∧
  (∀ (s : State) (p kind : Nat) (g : Guard), RegsWf s → s.up = true → p < 16 → s.ftn.guards[p]? = some g → 1 ≤ kind → kind ≤ 7 →
    g.blocked = false → g.disabled = false → max 1 (fld (s.reg Off.FTN_GUARD_CFG) 16 4) ≤ g.count + 1 →
    fld (s.reg Off.FTN_GUARD_CFG) 24 8 ≠ 0 → fld (s.reg Off.FTN_GUARD_CFG) 24 8 ≤ g.run + 1 →
    ∃ t g', exec (.guardViolation p kind) s = .next t ∧ t.ftn.guards[p]? = some g' ∧ g'.blocked = true ∧ g'.disabled = true ∧
      Raised Irq.FTN_GUARD_DISABLE t ∧ Recorded 0x0706 [iU8 1 p, iU8 2 kind] s t ∧
      RegsOnly [Off.FTN_GUARD_BLOCKED, Off.FTN_GUARD_TRUNC, Off.REC_LOST_CNT] s t ∧ OnlyIn (.ftn :: recParts) s t) ∧
  (∀ (s : State) (v : Word) (g : Guard), RegsWf s → s.up = true → s.ftn.guards[fld v 8 4]? = some g →
    (fld v 16 16 = 0x4744 → fld v 0 4 = 1 → ∃ t, exec (.guardPortEnable v) s = .next t ∧
      t.ftn.guards[fld v 8 4]? = some { g with disabled := false, run := 0 } ∧
      (∀ q, q ≠ fld v 8 4 → t.ftn.guards[q]? = s.ftn.guards[q]?) ∧ OnlyIn [.ftn] s t) ∧
    (fld v 16 16 ≠ 0x4744 → ∃ t, exec (.guardPortEnable v) s = .next t ∧ t.reg Off.FTN_CMD_REJECTS = s.reg Off.FTN_CMD_REJECTS + 1 ∧
      RegsOnly [Off.FTN_CMD_REJECTS] s t ∧ OnlyIn [.regs] s t)) ∧
  (∀ (s : State) (p cause : Nat), s.hubOn = true → p < 4 → p < s.ftn.links.length → (s.link p).broken = false →
    (cause = 1 ∨ cause = 2 ∧ (s.port p).up = true ∧ ((s.port p).lastCheck.all fun c => decide (c + 2 ≤ s.ftn.cycle)) = true ∨
     cause = 3 ∧ s.linkLong p = true) →
    ∃ t, exec (.linkBroken p cause) s = .next t ∧ (t.link p).broken = true ∧ (t.link p).restoring = false ∧ (t.link p).held = (s.link p).held ∧
      (cause = 1 → t.port p = (s.port p).down) ∧ (cause ≠ 1 → t.port p = s.port p) ∧
      (∀ q, q ≠ p → t.link q = s.link q) ∧ (∀ q, q ≠ p → t.port q = s.port q) ∧ Recorded 0x0703 [iU8 1 p, iU8 2 cause] s t ∧
      RegsOnly [Off.REC_LOST_CNT] s t ∧ OnlyIn (.ftn :: recParts) s t) ∧
  (∀ (s : State) (p cc : Nat), s.up = true → p < 4 → p < s.ftn.links.length →
    ((s.link p).broken = true → (s.link p).held = false → ∃ t, exec (.healReady p (chanOf p)) s = .next t ∧
      t.link p = { s.link p with readyIn := true } ∧ (∀ q, q ≠ p → t.link q = s.link q) ∧ OnlyIn [.ftn] s t) ∧
    (p = 1 ∨ p = 2 → (s.link p).restoring = true → ∃ t, exec (.healRestoreAt p (chanOf p) cc) s = .next t ∧
      t.link p = { s.link p with restoreAt := some (cc % 1024), acked := true } ∧ (∀ q, q ≠ p → t.link q = s.link q) ∧
      (∃ f : Frame, f.kind = 5 ∧ f.info = 4 ∧ f.payload = healPayload 4 p (cc % 1024) ∧ t.out = s.out ++ [.frame p f]) ∧ OnlyIn [.out, .ftn] s t) ∧
    (p = 0 ∨ p = 3 → (s.link p).restoreAt = some (cc % 1024) → ∃ t, exec (.healAck p (chanOf p) cc) s = .next t ∧
      t.link p = { s.link p with acked := true } ∧ (∀ q, q ≠ p → t.link q = s.link q) ∧ OnlyIn [.ftn] s t)) ∧
  (∀ (s : State) (v : Word) (p : Nat), RegsWf s → s.up = true → p = fld v 4 2 → p < s.ftn.links.length →
    (fld v 16 16 = 0x524E → fld v 0 4 = 1 → s.sys.mode = .safeHold → ∃ t, exec (.ringHold v) s = .next t ∧ (t.link p).broken = true ∧
      (t.link p).held = true ∧ (∀ q, q ≠ p → t.link q = s.link q) ∧ OnlyIn [.ftn] s t) ∧
    (fld v 16 16 = 0x524E → fld v 0 4 = 2 → ∃ t, exec (.ringRelease v) s = .next t ∧ t.link p = { s.link p with held := false, good := 0 } ∧
      (∀ q, q ≠ p → t.link q = s.link q) ∧ OnlyIn [.ftn] s t) ∧
    (∀ c : Instr, (c = .ringHold v ∨ c = .ringRelease v) → fld v 16 16 ≠ 0x524E → ∃ t, exec c s = .next t ∧
      t.reg Off.FTN_CMD_REJECTS = s.reg Off.FTN_CMD_REJECTS + 1 ∧ RegsOnly [Off.FTN_CMD_REJECTS] s t ∧ OnlyIn [.regs] s t) ∧
    (fld v 0 4 = 1 → s.sys.mode ≠ .safeHold → ∃ t, exec (.ringHold v) s = .next t ∧
      t.reg Off.FTN_CMD_REJECTS = s.reg Off.FTN_CMD_REJECTS + 1 ∧ RegsOnly [Off.FTN_CMD_REJECTS] s t ∧ OnlyIn [.regs] s t))

/-! ### Cycle engine -/

/-- CYCLE_BOUNDARY (R284, R290, R294, R296, R302, R427, Table 9.2), CYCLE_END_WRITE (R291, R377) and SET_SEND_COMPLETE (R378, R379): in OPERATIONAL or
DEGRADED with nothing to commit a boundary starts a cycle, one cycle time after the last on TB2, and a core's write that meets the freeze loses and is
counted; a boundary that finds a cycle running is an overrun, the third of which leads to SAFE-HOLD; in SAFE-HOLD no cycle starts. A lane's cycle-end
write waits for a second that agrees, which ends the cycle with its cut. -/
def Obligations.CycleBoundaries : Prop :=
  (∀ (s : State) (meets : List (Lane × Nat × List Byte)), s.plainBoundary → s.running = true → MemsWf s →
    s.cyc.running = false → s.sys.warmPause = false → s.sys.entering = false → s.chk.takeover = none →
    (∀ l : Lane, (s.laneCyc l).frcPend = none ∧ (s.laneCyc l).ocPend = none ∧ (s.laneCyc l).forces = []) →
    ∃ t, exec (.cycleBoundary meets) s = .next t ∧ s.cyc.boundaryAt + s.cycleNs ≤ t.time.tb2.ns ∧ t.cyc.boundaryAt = t.time.tb2.ns ∧
      t.cyc.count = s.cyc.count + 1 ∧
      t.cyc.running = true ∧ t.cyc.startedNo = s.cyc.count + 1 ∧ t.cyc.skipped = 0 ∧ t.cyc.late = false ∧
      (∀ l : Lane, s.inVote l = true → (t.laneCyc l).phase = 2 ∧ rdBytes (t.mems.get l).spad 0x20000 8 = leBytes 8 (s.cyc.count + 1).toNat) ∧
      t.sys.mode = s.sys.mode ∧ Raised Irq.CYC_START t ∧ t.ftn = s.ftn ∧
      OnlyIn (.now :: .time :: .nv :: .out :: .mems :: .sup :: .odo :: .pst :: .dio :: .vot :: .cyc :: .chk :: .brg :: recParts) s t) ∧
  (∀ (s : State) (l : Lane) (o : Nat) (bs : List Byte), s.plainBoundary → s.running = true → RegsWf s →
    s.cyc.running = false → s.sys.warmPause = false → s.sys.entering = false → s.chk.takeover = none →
    s.inVote l = true → 0x20000 ≤ o → o < 0x21040 →
    ∃ t, exec (.cycleBoundary [(l, o, bs)]) s = .next t ∧
      t.reg (laneKey l Off.SPM_B0_COLLIDE_CNT) = s.reg (laneKey l Off.SPM_B0_COLLIDE_CNT) + 1) ∧
  (∀ (s : State) (meets : List (Lane × Nat × List Byte)), s.plainBoundary → RegsWf s → s.running = true → s.cyc.running = true →
    ∃ t, exec (.cycleBoundary meets) s = .next t ∧ t.cyc.count = s.cyc.count + 1 ∧ t.cyc.skipped = s.cyc.skipped + 1 ∧ Raised Irq.CYC_OVERRUN t ∧
      (∀ l : Lane, t.reg (laneKey l Off.CYC_OVERRUN_CNT) = s.reg (laneKey l Off.CYC_OVERRUN_CNT) + 1 ∧
        t.reg (laneKey l Off.CYC_SKIP_CNT) = s.reg (laneKey l Off.CYC_SKIP_CNT) + 1) ∧
      (s.cyc.overrun < 2 → t.cyc.running = true ∧ t.cyc.late = true ∧ t.cyc.overrun = s.cyc.overrun + 1 ∧ t.sys.mode = s.sys.mode) ∧
      (2 ≤ s.cyc.overrun → t.cyc.running = false ∧ t.cyc.overrun = 0 ∧ HeldWith .overrun s t) ∧ t.ftn = s.ftn ∧
      OnlyIn (.now :: .time :: .nv :: .out :: .sys :: .sup :: .odo :: .pst :: .dio :: .vot :: .cyc :: .chk :: .brg :: recParts) s t) ∧
  (∀ (s : State) (meets : List (Lane × Nat × List Byte)), s.plainBoundary → s.sys.mode = .safeHold → s.sys.active ≠ 0 →
    s.cyc.running = false → s.chk.takeover = none → s.sys.startDone = false →
    (∀ l : Lane, (s.laneCyc l).frcPend = none ∧ (s.laneCyc l).ocPend = none) →
    ∃ t, exec (.cycleBoundary meets) s = .next t ∧ t.cyc.count = s.cyc.count + 1 ∧ t.cyc.running = false ∧ t.cyc.boundaryAt = t.time.tb2.ns ∧
      t.sys.mode = .safeHold ∧ t.mems = s.mems ∧
      OnlyIn (.now :: .time :: .nv :: .out :: .sup :: .odo :: .pst :: .dio :: .vot :: .cyc :: .chk :: .brg :: recParts) s t) ∧
  (∀ (s : State) (l : Lane) (v : Word) (pages : List (Nat × List Byte)) (time : Nat), s.up = true → s.inVote l = true →
    2 ≤ s.lanesIn.length → (s.laneCyc l).phase = 5 → s.vot.votedEnd = none → (∀ m : Lane, m ≠ l → (s.vot.lanes.get m).ended = none) → s.now ≤ time →
    ∃ t, exec (.cycleEndWrite l v pages time) s = .next t ∧ (t.vot.lanes.get l).ended = some (time, v) ∧ t.vot.votedEnd = none ∧
      (t.laneCyc l).phase = 0 ∧ t.cyc.running = s.cyc.running ∧ t.cyc.ended = s.cyc.ended ∧ OnlyIn [.now, .time, .nv, .isl, .vot, .cyc] s t) ∧
  (∀ (s : State) (l m : Lane) (v : Word) (pages : List (Nat × List Byte)) (at_ time : Nat), s.up = true → s.inVote l = true →
    s.inVote m = true → l ≠ m → (s.laneCyc l).phase = 5 → s.vot.votedEnd = none → (s.vot.lanes.get m).ended = some (at_, v) →
    (∀ x : Lane, x ≠ m → (s.vot.lanes.get x).ended = none) → at_ ≤ s.now → s.now ≤ time → time ≤ at_ + 2000 →
    s.cyc.running = true → s.sys.warmMask = 0 →
    ∃ t, exec (.cycleEndWrite l v pages time) s = .next t ∧ t.vot.votedEnd = some (time, v) ∧ t.cyc.running = false ∧ t.cyc.ended = true ∧
      t.cyc.first = false ∧ t.cyc.overrun = (if s.cyc.late then s.cyc.overrun else 0) ∧ (t.laneCyc l).phase = 0 ∧
      (s.sys.mramFault = false → s.chk.out = none → ∃ o, t.chk.out = some o ∧ o.set = s.chk.setSeq + 1 ∧ o.cycle = s.cyc.startedNo) ∧
      (s.sys.mramFault = true → t.chk.out = s.chk.out ∧ t.nv.half0 = s.nv.half0 ∧ t.nv.half1 = s.nv.half1) ∧ t.sys = s.sys ∧ t.mems = s.mems ∧
      (∀ x : Lane, t.inVote x = s.inVote x) ∧ OnlyIn [.now, .time, .isl, .regs, .out, .nv, .vot, .icus, .cyc, .chk, .brg] s t) ∧
  (∀ (s : State) (o : SetOut), RegsWf s → s.up = true → s.chk.out = some o →
    ∃ t, exec .setSendComplete s = .next t ∧ t.chk.out = none ∧ t.chk.setSeq = o.set ∧ (t.half o.set.toNat).state = .committed ∧
      (t.half o.set.toNat).set = o.set ∧ (t.half o.set.toNat).cycle = o.cycle ∧ t.half (o.set.toNat + 1) = s.half (o.set.toNat + 1) ∧
      t.reg Off.CHK_SETS_SENT = s.reg Off.CHK_SETS_SENT + 1 ∧ RegsOnly [Off.CHK_SETS_SENT] s t ∧
      OnlyIn [.regs, .out, .nv, .icus, .chk, .brg] s t)

/-- Online change and forces of a lane (R313, R314, R318, R319): staging, COMMIT and DISCARD of a batch, and their rejections, each in the one lane. What
the program declares open to online change and forcing is a free value (log 16). -/
def Obligations.OnlineChangeAndForces : Prop :=
  (∀ (s : State) (l : Lane) (hi addr : Word) (e : OcEntry), RegsWf s → s.up = true → s.inVote l = true → addr = s.reg (laneKey l Off.CYC_OC_ADDR) →
    e = ⟨fld (s.reg (laneKey l Off.CYC_OC_SEL)) 0 6, addr, hi ++ s.reg (laneKey l Off.CYC_OC_VAL_LO)⟩ →
    ∃ t, exec (.ocStage l hi) s = .next t ∧ t.reg (laneKey l Off.CYC_OC_VAL_HI) = hi ∧
      (sizeOk 4 addr = true → targetIn addr (Config.changeable s.cpf) = true →
        t.laneCyc l = { s.laneCyc l with oc := .staging, ocCause := 0, ocList := insOc e (s.laneCyc l).ocList }) ∧
      (sizeOk 4 addr = true → targetIn addr (Config.changeable s.cpf) = false →
        t.laneCyc l = { s.laneCyc l with oc := .rejected, ocCause := 1 }) ∧
      (sizeOk 4 addr = false → t.laneCyc l = { s.laneCyc l with oc := .rejected, ocCause := 2 } ∧
        t.reg (laneKey l Off.CYC_OC_REJECTS) = s.reg (laneKey l Off.CYC_OC_REJECTS) + 1) ∧ (∀ m, m ≠ l → t.laneCyc m = s.laneCyc m) ∧
      RegsOnly [Off.CYC_OC_VAL_HI, Off.CYC_OC_REJECTS] s t ∧ OnlyIn [.regs, .cyc] s t) ∧
  (∀ (s : State) (l : Lane) (tgt : Nat), s.up = true → s.inVote l = true → tgt = fld (s.reg (laneKey l Off.CYC_OC_TARGET)) 0 16 → (s.laneCyc l).ocPend = none →
    (s.laneCyc l).ocList ≠ [] → s.targetOk tgt = true →
    ∃ t, exec (.ocCommit l 0x4F43) s = .next t ∧ t.laneCyc l = { s.laneCyc l with oc := .pending, ocCause := 0, ocPend := some (s.laneCyc l).ocList, ocList := [], ocTarget := tgt } ∧
      (∀ m, m ≠ l → t.laneCyc m = s.laneCyc m) ∧ OnlyIn [.cyc] s t) ∧
  (∀ (s : State) (l : Lane) (key : Half) (cause : Nat) (c : Instr), RegsWf s → s.up = true → s.inVote l = true →
    (key ≠ 0x4F43 ∧ cause = 6 ∧ (c = .ocCommit l key ∨ c = .ocDiscard l key) ∨
     c = .ocCommit l key ∧ key = 0x4F43 ∧ (cause = 3 ∧ (s.laneCyc l).ocPend ≠ none ∨ cause = 5 ∧ (s.laneCyc l).ocPend = none ∧ (s.laneCyc l).ocList = [] ∨
       cause = 4 ∧ (s.laneCyc l).ocPend = none ∧ (s.laneCyc l).ocList ≠ [] ∧ s.targetOk (fld (s.reg (laneKey l Off.CYC_OC_TARGET)) 0 16) = false)) →
    ∃ t, exec c s = .next t ∧ t.laneCyc l = { s.laneCyc l with oc := .rejected, ocCause := cause } ∧ (∀ m, m ≠ l → t.laneCyc m = s.laneCyc m) ∧
      t.reg (laneKey l Off.CYC_OC_REJECTS) = s.reg (laneKey l Off.CYC_OC_REJECTS) + 1 ∧ Irq.CYC_OC_DONE ∈ (t.icus.get l).pend ∧
      RegsOnly [Off.CYC_OC_REJECTS] s t ∧ OnlyIn [.regs, .cyc, .icus] s t) ∧
  (∀ (s : State) (l : Lane), s.up = true → s.inVote l = true →
    ∃ t, exec (.ocDiscard l 0x4F43) s = .next t ∧
    t.laneCyc l = { s.laneCyc l with oc := (if (s.laneCyc l).ocPend.isSome then .pending else .idle), ocCause := 0, ocList := [] } ∧
    (∀ m, m ≠ l → t.laneCyc m = s.laneCyc m) ∧ OnlyIn [.cyc] s t) ∧
  (∀ (s : State) (l : Lane) (hi sel addr : Word) (f : Force), RegsWf s → s.up = true → s.inVote l = true → sel = s.reg (laneKey l Off.CYC_FRC_SEL) →
    addr = s.reg (laneKey l Off.CYC_FRC_ADDR) → f = ⟨fld sel 0 8, sel, addr, hi ++ s.reg (laneKey l Off.CYC_FRC_VAL_LO)⟩ →
    ∃ t, exec (.forceStage l hi) s = .next t ∧ t.reg (laneKey l Off.CYC_FRC_VAL_HI) = hi ∧
      (fld sel 16 2 < 3 → (bit sel 24 = true → sizeOk 5 addr = true ∧ targetIn addr (s.forceArea l (fld sel 16 2)) = true) →
        t.laneCyc l = { s.laneCyc l with frc := .staging, frcCause := 0, frcList := insForce f (s.laneCyc l).frcList }) ∧
      (fld sel 16 2 < 3 → bit sel 24 = true → sizeOk 5 addr = false →
        t.laneCyc l = { s.laneCyc l with frc := .rejected, frcCause := 2 } ∧
        t.reg (laneKey l Off.CYC_FRC_REJECTS) = s.reg (laneKey l Off.CYC_FRC_REJECTS) + 1) ∧
      (fld sel 16 2 = 3 → t.laneCyc l = { s.laneCyc l with frc := .rejected, frcCause := 1 }) ∧ (∀ m, m ≠ l → t.laneCyc m = s.laneCyc m) ∧
      RegsOnly [Off.CYC_FRC_VAL_HI, Off.CYC_FRC_REJECTS] s t ∧ OnlyIn [.regs, .cyc] s t) ∧
  (∀ (s : State) (l : Lane) (tgt : Nat), s.up = true → s.inVote l = true → tgt = fld (s.reg (laneKey l Off.CYC_FRC_TARGET)) 0 16 → (s.laneCyc l).frcPend = none →
    (s.laneCyc l).frcList ≠ [] → s.targetOk tgt = true → forceOverlap (forceEdit (s.laneCyc l).forces (s.laneCyc l).frcList) = false →
    ∃ t, exec (.forceCommit l 0x4643) s = .next t ∧ t.laneCyc l = { s.laneCyc l with frc := .pending, frcCause := 0, frcPend := some (s.laneCyc l).frcList, frcList := [], frcTarget := tgt } ∧
      (∀ m, m ≠ l → t.laneCyc m = s.laneCyc m) ∧ OnlyIn [.cyc] s t) ∧
  (∀ (s : State) (l : Lane) (key : Half) (cause : Nat) (c : Instr), RegsWf s → s.up = true → s.inVote l = true →
    (key ≠ 0x4643 ∧ cause = 6 ∧ (c = .forceCommit l key ∨ c = .forceDiscard l key) ∨
     c = .forceCommit l key ∧ key = 0x4643 ∧ (cause = 3 ∧ (s.laneCyc l).frcPend ≠ none ∨ cause = 5 ∧ (s.laneCyc l).frcPend = none ∧ (s.laneCyc l).frcList = [] ∨
       cause = 4 ∧ (s.laneCyc l).frcPend = none ∧ (s.laneCyc l).frcList ≠ [] ∧ s.targetOk (fld (s.reg (laneKey l Off.CYC_FRC_TARGET)) 0 16) = false ∨
       cause = 7 ∧ (s.laneCyc l).frcPend = none ∧ (s.laneCyc l).frcList ≠ [] ∧ s.targetOk (fld (s.reg (laneKey l Off.CYC_FRC_TARGET)) 0 16) = true ∧ forceOverlap (forceEdit (s.laneCyc l).forces (s.laneCyc l).frcList) = true)) →
    ∃ t, exec c s = .next t ∧ t.laneCyc l = { s.laneCyc l with frc := .rejected, frcCause := cause } ∧ (∀ m, m ≠ l → t.laneCyc m = s.laneCyc m) ∧
      t.reg (laneKey l Off.CYC_FRC_REJECTS) = s.reg (laneKey l Off.CYC_FRC_REJECTS) + 1 ∧ Irq.CYC_FRC_DONE ∈ (t.icus.get l).pend ∧
      RegsOnly [Off.CYC_FRC_REJECTS] s t ∧ OnlyIn [.regs, .cyc, .icus] s t) ∧
  (∀ (s : State) (l : Lane), s.up = true → s.inVote l = true →
    ∃ t, exec (.forceDiscard l 0x4643) s = .next t ∧
    t.laneCyc l = { s.laneCyc l with frc := (if (s.laneCyc l).frcPend.isSome then .pending else .idle), frcCause := 0, frcList := [] } ∧
    (∀ m, m ≠ l → t.laneCyc m = s.laneCyc m) ∧ OnlyIn [.cyc] s t)

/-! ### Field inputs and outputs -/

/-- Inputs (R341 to R347, R365, R366): DI_FILTER_CHANGE with the trip matrix it feeds, DI_SUPPLY_FAULT, DI_SUPPLY_RETURN, DI_SUPPLY_LOW, INPUT_TEST_PULSE,
INPUT_TEST_END, SENSOR_SUPPLY_SHORT and SENSOR_SUPPLY_RESTART. -/
def Obligations.FieldInputs : Prop :=
  (∀ (s : State) (n code : Nat) (c : Code), RegsWf s → s.matrixOn = true → n < 32 → n < s.dio.dis.length → s.diLive n = true →
    2 ≤ (s.paths n).length → c = s.diCode n (codeOf code) → (s.di n).state ≠ c →
    ∃ t, exec (.diFilterChange n code) s = .next t ∧ (t.di n).state = c ∧ (t.di n).cand = c ∧ (t.di n).run = s.diFilter n ∧ (t.di n).changes = (s.di n).changes + 1 ∧
      (∀ m, m ≠ n → t.di m = s.di m) ∧ (bit (s.reg (Off.DIO_IN_CFG + 4 * n)) 14 = true → Raised (Irq.DIO_DI + n) t) ∧
      (∀ r, r < 8 → t.dio.trueR.getLsbD r = t.ruleTrue r) ∧
      (∀ r, r < 8 → s.dio.trueR.getLsbD r = false → t.ruleTrue r = true → t.dio.latched.getLsbD r = true ∧ Raised Irq.DIO_TRIP t) ∧
      (∀ r, r < 8 → s.dio.trueR.getLsbD r = true ∨ t.ruleTrue r = false → t.dio.latched.getLsbD r = s.dio.latched.getLsbD r) ∧
      Resolved t ∧ OutsKeep (fun _ => False) s t ∧
      RegsOnly [Off.DIO_TRIP_CNT, Off.DIO_DARK_SKIP_CNT, Off.DIO_DEMAG_HIGH_CNT, Off.REC_LOST_CNT] s t ∧
      OnlyIn (.now :: .time :: .nv :: .vot :: .out :: .dio :: recParts) s t) ∧
  (∀ (s : State) (g mv : Nat) (high : Bool), RegsWf s → s.dio.enabled = true → g < 4 → mv < 14400 ∧ high = false ∨ 36000 < mv ∧ high = true →
    s.dio.dis.length = 32 → s.dio.groups.length = 6 →
    ∃ t, exec (.diSupplyFault g mv) s = .next t ∧ (t.group g).outRange = true ∧ (t.group g).supply = (if high then .over else .under) ∧
      (t.group g).volt = BitVec.ofNat 16 mv ∧
      (high = true → (t.group g).sensorOn = false) ∧ (∀ i, i < 8 → (t.di (8 * g + i)).state = .invalid ∧ (t.di (8 * g + i)).run = 0) ∧
      (∀ m, m / 8 ≠ g → t.di m = s.di m) ∧ Raised Irq.DIO_IN_SUPPLY t ∧ OutsKeep (fun _ => False) s t ∧
      RegsOnly [Off.DIO_TRIP_CNT, Off.DIO_DARK_SKIP_CNT, Off.DIO_DEMAG_HIGH_CNT, Off.REC_LOST_CNT] s t ∧
      OnlyIn (.out :: .dio :: recParts) s t) ∧
  (∀ (s : State) (g mv : Nat), g < 4 → g < s.dio.groups.length → s.dio.enabled = true →
    (18000 ≤ mv → mv ≤ 32000 → ∃ t, exec (.diSupplyReturn g mv) s = .next t ∧
      t.group g = { s.group g with outRange := false, supply := .normal, sensorOn := (s.group g).sensorOn || (s.group g).supply == .over, volt := BitVec.ofNat 16 mv } ∧
      (∀ h, h ≠ g → t.group h = s.group h) ∧ t.dio.outs = s.dio.outs ∧ t.dio.dis = s.dio.dis ∧ OnlyIn [.dio] s t) ∧
    (mv < 16800 → (s.group g).supply = .normal → ∃ t, exec (.diSupplyLow g mv) s = .next t ∧
      t.group g = { s.group g with supply := .low, volt := BitVec.ofNat 16 mv } ∧
      (∀ h, h ≠ g → t.group h = s.group h) ∧ Raised Irq.DIO_SUPPLY_LOW t ∧ OnlyIn [.dio, .icus] s t) ∧
    ((s.group g).outRange = false → (s.group g).sensorOn = true ∨ (s.group g).shortAt.isSome = true → (∃ i, i < 8 ∧ s.testEn (8 * g + i) = true) →
      ∃ t, exec (.inputTestPulse g) s = .next t ∧ t.group g = { s.group g with testing := true, sensorOn := false, testAt := some t.now, broke := 0 } ∧
      (∀ h, h ≠ g → t.group h = s.group h) ∧ t.dio.dis = s.dio.dis ∧ t.dio.outs = s.dio.outs ∧ OnlyIn [.now, .time, .nv, .isl, .dio] s t) ∧
    ((s.group g).sensorOn = true → ∃ t, exec (.sensorSupplyShort g) s = .next t ∧
      t.group g = { s.group g with sensorOn := false, shortAt := some s.now } ∧
      (∀ h, h ≠ g → t.group h = s.group h) ∧ t.dio.dis = s.dio.dis ∧ t.dio.outs = s.dio.outs ∧ OnlyIn [.dio] s t)) ∧
  (∀ (s : State) (g at_ : Nat), g < 4 → s.dio.enabled = true → (s.group g).shortAt = some at_ →
    ∃ t, exec (.sensorSupplyRestart g) s = .next t ∧ t.now = max s.now (at_ + 1000000000) ∧
      t.group g = { s.group g with sensorOn := (s.group g).supply != .over && !(s.group g).testing, shortAt := none } ∧
      (∀ h, h ≠ g → t.group h = s.group h) ∧ t.dio.dis = s.dio.dis ∧ t.dio.outs = s.dio.outs ∧ OnlyIn [.now, .time, .nv, .isl, .dio] s t) ∧
  (∀ (s : State) (g at_ : Nat), RegsWf s → g < 4 → (s.group g).testing = true → (s.group g).testAt = some at_ → (s.group g).shortAt = none →
    (∀ i, i < 8 → s.testEn (8 * g + i) = true → ∀ l : Lane, (s.group g).broke.getLsbD (3 * i + l.idx) = true) →
    ∃ t, exec (.inputTestEnd g) s = .next t ∧ t.now = max s.now (at_ + 100000) ∧ (t.group g).testing = false ∧
      (t.group g).sensorOn = decide ((s.group g).supply ≠ .over) ∧
      (∀ i, i < 8 → 8 * g + i < s.dio.dis.length → s.testEn (8 * g + i) = true → s.paths (8 * g + i) ≠ [] → (t.di (8 * g + i)).fails = 0) ∧
      (∀ m, (t.di m).state = (s.di m).state) ∧ (∀ m, m / 8 ≠ g ∨ s.testEn m = false → t.di m = s.di m) ∧ OutsKeep (fun _ => False) s t ∧
      RegsOnly [Off.DIO_TRIP_CNT, Off.DIO_DARK_SKIP_CNT, Off.DIO_DEMAG_HIGH_CNT, Off.REC_LOST_CNT] s t ∧
      OnlyIn (.now :: .time :: .nv :: .out :: .dio :: recParts) s t) ∧
  (∀ (s : State) (g at_ : Nat), RegsWf s → g < 4 → s.dio.dis.length = 32 → (s.group g).testing = true → (s.group g).testAt = some at_ →
    (∀ i, i < 8 → s.testEn (8 * g + i) = decide (i = 0)) → s.paths (8 * g) ≠ [] →
    (s.group g).shortAt.isSome = true ∨ (∀ l : Lane, (s.group g).broke.getLsbD l.idx = false) →
    ∃ t, exec (.inputTestEnd g) s = .next t ∧ (t.di (8 * g)).fails = (s.di (8 * g)).fails + 1 ∧
      t.reg Off.DIO_IN_TEST_FAIL_CNT = s.reg Off.DIO_IN_TEST_FAIL_CNT + 1 ∧ (t.group g).testing = false ∧ (∀ m, m ≠ 8 * g → t.di m = s.di m) ∧
      ((s.di (8 * g)).fails = 0 → (t.di (8 * g)).state = (s.di (8 * g)).state) ∧
      (1 ≤ (s.di (8 * g)).fails → (t.di (8 * g)).state = .invalid ∧ Raised Irq.DIO_IN_TEST_FAIL t) ∧
      RegsOnly [Off.DIO_IN_TEST_FAIL_CNT, Off.DIO_TRIP_CNT, Off.DIO_DARK_SKIP_CNT, Off.DIO_DEMAG_HIGH_CNT, Off.REC_LOST_CNT] s t ∧
      OnlyIn (.now :: .time :: .nv :: .out :: .dio :: recParts) s t)

/-- Output commands and group supplies (R348 to R351, R354 to R357): OUT_CMD_WRITE, LOGIC_SILENCE, DO_SUPPLY_LOW, DO_SUPPLY_LOW_EXIT, DO_SUPPLY_UNDER,
DO_SUPPLY_OVER, DO_SUPPLY_READY, GROUP_OVERLOAD and FRONT_END_FAULT. -/
def Obligations.OutputsAndSupplies : Prop :=
  (∀ (s : State) (v : Word), RegsWf s → s.up = true → s.fenced = false →
    ∃ t, exec (.outCmdWrite v) s = .next t ∧ t.reg Off.DIO_OUT_CMD = v &&& 0xFFFF#32 ∧
      (∀ n, n < s.dio.outs.length → fld (s.outCfg n) 0 2 = 1 → (t.dout n).refreshAt = some s.now ∧ (t.dout n).silent = false ∧ (t.dout n).fresh = true) ∧
      Resolved t ∧ OutsKeep (fun n => fld (s.outCfg n) 0 2 = 1) s t ∧ t.dio.groups = s.dio.groups ∧
      RegsOnly [Off.DIO_OUT_CMD, Off.DIO_DARK_SKIP_CNT, Off.DIO_DEMAG_HIGH_CNT] s t ∧ OnlyIn [.regs, .out, .dio, .icus] s t) ∧
  (∀ (s : State) (v : Word), RegsWf s → s.up = true → s.fenced = true → ∃ t, exec (.outCmdWrite v) s = .next t ∧
    t.reg Off.DIO_FENCED_CNT = s.reg Off.DIO_FENCED_CNT + 1 ∧ RegsOnly [Off.DIO_FENCED_CNT] s t ∧ OnlyIn [.regs] s t) ∧
  (∀ (s : State) (n at_ : Nat), RegsWf s → n < 16 → n < s.dio.outs.length → s.silenceAt n = some at_ →
    ∃ t, exec (.logicSilence n) s = .next t ∧ at_ ≤ t.now ∧ (t.dout n).silent = true ∧ (t.dout n).holdLvl = (s.dout n).on ∧
      t.reg Off.DIO_SILENCE_CNT = s.reg Off.DIO_SILENCE_CNT + 1 ∧
      ((∀ i, i < 8 → (s.dout (8 * (n / 8) + i)).silent = false) → Raised Irq.DIO_SILENCE t) ∧ Resolved t ∧ OutsKeep (fun m => m = n) s t ∧
      RegsOnly [Off.DIO_SILENCE_CNT, Off.DIO_DARK_SKIP_CNT, Off.DIO_DEMAG_HIGH_CNT, Off.REC_LOST_CNT] s t ∧
      OnlyIn (.now :: .nv :: .time :: .out :: .dio :: recParts) s t) ∧
  (∀ (s : State) (g mv : Nat), g = 4 ∨ g = 5 → g < s.dio.groups.length → s.dio.enabled = true →
    (mv < 16800 → (s.group g).supply = .low ∨ (s.group g).supply = .absent → ∃ t, exec (.doSupplyLow g mv) s = .next t ∧
      t.group g = { s.group g with supply := if mv < 5000 then .absent else .low, volt := BitVec.ofNat 16 mv } ∧
      (∀ h, h ≠ g → t.group h = s.group h) ∧ t.dio.outs = s.dio.outs ∧ OnlyIn [.dio] s t) ∧
    (mv < 16800 → (s.group g).supply = .normal → ∃ t, exec (.doSupplyLow g mv) s = .next t ∧
      t.group g = { s.group g with supply := if mv < 5000 then .absent else .low, volt := BitVec.ofNat 16 mv } ∧
      (∀ h, h ≠ g → t.group h = s.group h) ∧ t.dio.outs = s.dio.outs ∧ Raised Irq.DIO_SUPPLY_LOW t ∧ OnlyIn [.dio, .icus] s t) ∧
    (17300 < mv → (s.group g).supply = .low ∨ (s.group g).supply = .absent → ∃ t, exec (.doSupplyLowExit g mv) s = .next t ∧
      t.group g = { s.group g with supply := .normal, volt := BitVec.ofNat 16 mv } ∧ (∀ h, h ≠ g → t.group h = s.group h) ∧ t.dio.outs = s.dio.outs ∧ OnlyIn [.dio] s t)) ∧
  (∀ (s : State) (g mv : Nat) (high : Bool) (c : Instr), RegsWf s → g = 4 ∨ g = 5 → s.dio.groups.length = 6 → s.dio.enabled = true →
    (c = .doSupplyUnder g mv ∧ high = false ∧ mv < 14400 ∧ (s.group g).supply ≠ .under ∨
     c = .doSupplyOver g mv ∧ high = true ∧ 36000 < mv ∧ (s.group g).supply ≠ .over) →
    ∃ t, exec c s = .next t ∧ (t.group g).supply = (if high then .over else .under) ∧ (t.group g).ready = false ∧
      (t.group g).causes = (s.group g).causes ||| (if high then 0b10000#9 else 0b1000#9) ∧ (t.group g).latches = (s.group g).latches + 1 ∧
      (∀ h, h ≠ g → t.group h = s.group h) ∧ (∀ n, n / 8 = g - 4 → (t.dout n).on = false) ∧ Resolved t ∧ OutsKeep (fun _ => False) s t ∧
      t.reg Off.DIO_LATCHOFF_CNT = s.reg Off.DIO_LATCHOFF_CNT + 1 ∧ Raised Irq.DIO_LATCHOFF t ∧
      Recorded 0x0903 [iU8 1 g, iU8 2 (if high then 3 else 2), iU16 3 (mv % 65536)] s t ∧
      RegsOnly [Off.DIO_LATCHOFF_CNT, Off.DIO_DARK_SKIP_CNT, Off.DIO_DEMAG_HIGH_CNT, Off.REC_LOST_CNT] s t ∧
      OnlyIn (.out :: .dio :: recParts) s t) ∧
  (∀ (s : State) (g mv : Nat), g = 4 ∨ g = 5 → s.dio.groups.length = 6 → s.dio.enabled = true → (s.group g).causes &&& 0b000011000#9 ≠ 0 → (s.group g).ready = false →
    18000 ≤ mv → mv ≤ 32000 →
    ∃ t, exec (.doSupplyReady g mv) s = .next t ∧ Raised Irq.DIO_RESTORE_READY t ∧ (t.group g).volt = BitVec.ofNat 16 mv ∧
      (bit (s.reg (Off.DIO_GRP_CFG + 4 * g)) 16 = false → (t.group g).ready = true ∧ (t.group g).causes = (s.group g).causes ∧
        t.dio.outs = s.dio.outs) ∧
      (bit (s.reg (Off.DIO_GRP_CFG + 4 * g)) 16 = true → (t.group g).causes = (s.group g).causes &&& ~~~0b000011000#9 ∧
        (t.group g).supply = .normal ∧ Resolved t) ∧ (∀ h, h ≠ g → t.group h = s.group h) ∧
      RegsOnly [Off.DIO_DARK_SKIP_CNT, Off.DIO_DEMAG_HIGH_CNT] s t ∧ OnlyIn [.regs, .out, .dio, .icus] s t) ∧
  (∀ (s : State) (g since : Nat), RegsWf s → g = 4 ∨ g = 5 → s.dio.groups.length = 6 → s.dio.enabled = true → (s.onSince g).min? = some since →
    (s.group g).causes.getLsbD 8 = false →
    ∃ t, exec (.groupOverload g) s = .next t ∧ t.now = max s.now (since + 1000000000) ∧ t.group g = { s.group g with causes := (s.group g).causes ||| 0b100000000#9 } ∧
      (∀ h, h ≠ g → t.group h = s.group h) ∧ (∀ n, n / 8 = g - 4 → (t.dout n).on = false) ∧ OutsKeep (fun _ => False) s t ∧
      t.reg Off.DIO_OVERLOAD_CNT = s.reg Off.DIO_OVERLOAD_CNT + 1 ∧ Raised Irq.DIO_LATCHOFF t ∧
      RegsOnly [Off.DIO_OVERLOAD_CNT, Off.DIO_DARK_SKIP_CNT, Off.DIO_DEMAG_HIGH_CNT] s t ∧ OnlyIn [.now, .time, .nv, .isl, .regs, .out, .dio, .icus] s t) ∧
  (∀ (s : State), s.hubOn = true → s.dio.groups.length = 6 → s.dio.outs.length = 16 →
    ∃ t, exec .frontEndFault s = .next t ∧ (∀ g, g = 4 ∨ g = 5 → (t.group g).causes = (s.group g).causes ||| 0b10000000#9) ∧
      (∀ n, (t.dout n).on = false) ∧ OutsKeep (fun _ => False) s t ∧ t.dio.dis = s.dio.dis ∧
      RegsOnly [Off.DIO_DARK_SKIP_CNT, Off.DIO_DEMAG_HIGH_CNT] s t ∧ OnlyIn [.regs, .out, .dio, .icus] s t)

/-- Channel faults and dark tests (R358 to R364, Table 10.6): CHANNEL_OVERCURRENT, CHANNEL_OVERTEMP, OPEN_LOAD, OPEN_LOAD_CLEAR, STUCK_OFF,
SHORT_SUPPLY_DETECT, DARK_TEST_SLOT and DARK_TEST_END, of a channel that CHK_CMP_MASK does not compare (R384). What the measurement shows is a free
value (log 14). Requests of DIO_CTRL_CMD and the trip matrix (R351, R357, R361, R368, R369, R371): CLEAR_FAULT, GROUP_REENABLE, TRIP_RESET,
GROUP_OPEN, GROUP_RELEASE, TRIP_AUTO_RESET and TRIP_REG_WRITE. -/
def Obligations.OutputFaultsAndRequests : Prop :=
  (∀ (s : State) (n b us : Nat) (cnt : List Nat) (c : Instr), RegsWf s → s.dio.enabled = true → n < 16 → n < s.dio.outs.length →
    bit (s.reg Off.CHK_CMP_MASK) n = false → (s.dout n).has b = false →
    (c = .channelOvercurrent n ∧ b = 0 ∧ us = s.ocTime n ∧ cnt = [Off.DIO_OC_CNT] ∧ (s.dout n).on = true ∨
     c = .channelOvertemp n ∧ b = 1 ∧ us = 0 ∧ cnt = [Off.DIO_OT_CNT] ∨
     c = .openLoad n ∧ b = 2 ∧ us = 101000 ∧ cnt = [] ∧ (s.dout n).on = true ∧ bit (s.outCfg n) 8 = true ∨
     c = .stuckOff n ∧ b = 3 ∧ us = 2000 ∧ cnt = [] ∧ (s.dout n).on = true ∨
     c = .shortSupplyDetect n none false ∧ b = 4 ∧ us = 3000 ∧ cnt = [Off.DIO_SS_CNT] ∧ (s.dout n).on = false ∧ (s.dout n).dark = false ∧
       (s.dout n).has 5 = false ∧ bit (s.outCfg n) 10 = false ∧ bit (s.outCfg n) 9 = false) →
    ∃ t, exec c s = .next t ∧ t.now = (if us = 0 then s.now else max s.now ((s.dout n).changedAt + 1000 * us)) ∧
      (t.dout n).faults = (s.dout n).faults ||| (1#7 <<< b) ∧ (b ≠ 2 → (t.dout n).on = false) ∧ Resolved t ∧
      OutsKeep (fun m => m = n) s t ∧ t.dio.groups = s.dio.groups ∧ (∀ o ∈ cnt, t.reg o = s.reg o + 1) ∧ Raised Irq.DIO_OUT_FAULT t ∧
      InQueue 0x0904 [iU8 1 n, iU8 2 b, iU16 3 (fld (Config.outMeas n t.now) 0 16), iU16 4 (fld (Config.outMeas n t.now) 16 16)] s t ∧
      RegsOnly (cnt ++ [Off.DIO_DARK_SKIP_CNT, Off.DIO_DEMAG_HIGH_CNT, Off.REC_LOST_CNT]) s t ∧
      OnlyIn (.now :: .time :: .nv :: .out :: .dio :: recParts) s t) ∧
  (∀ (s : State) (n : Nat), n < 16 → n < s.dio.outs.length → ∃ t, exec (.openLoadClear n) s = .next t ∧
    t.dout n = { s.dout n with faults := (s.dout n).faults &&& 0b1111011#7 } ∧ (∀ m, m ≠ n → t.dout m = s.dout m) ∧
    t.dio.groups = s.dio.groups ∧ OnlyIn [.dio] s t) ∧
  (∀ (s : State) (n m : Nat) (fell : Bool), RegsWf s → s.dio.enabled = true → n < 16 → n < s.dio.outs.length → (s.dout n).on = false →
    (s.dout n).dark = false → bit (s.outCfg n) 10 = false → (s.dout n).has 4 = false → (s.dout n).has 5 = false → s.isPartner n m = true →
    ∃ t, exec (.shortSupplyDetect n (some m) fell) s = .next t ∧ (t.dout n).has 5 = true ∧ (t.dout n).partner = m ∧ (t.dout n).on = false ∧
      t.reg Off.DIO_BACKFEED_CNT = s.reg Off.DIO_BACKFEED_CNT + 1 ∧ Raised Irq.DIO_OUT_FAULT t ∧ t.dio.groups = s.dio.groups ∧
      OutsKeep (fun k => k = n) s t ∧
      RegsOnly [Off.DIO_BACKFEED_CNT, Off.DIO_DARK_SKIP_CNT, Off.DIO_DEMAG_HIGH_CNT, Off.REC_LOST_CNT] s t ∧
      OnlyIn (.now :: .nv :: .time :: .out :: .dio :: recParts) s t) ∧
  (∀ (s : State) (n : Nat), RegsWf s → n < 16 → n < s.dio.outs.length → s.dio.groups.length = 6 → s.dio.enabled = true → (s.dout n).on = false →
    (s.dout n).dark = false → bit (s.outCfg n) 10 = false → bit (s.outCfg n) 9 = true → (s.dout n).has 4 = false → (s.dout n).has 5 = false →
    ∃ t, exec (.shortSupplyDetect n none false) s = .next t ∧ (t.dout n).has 4 = true ∧ (t.dout n).ssSource = 2 ∧
      (t.group (4 + n / 8)).causes.getLsbD 5 = true ∧ (∀ m, m / 8 = n / 8 → (t.dout m).on = false) ∧ Resolved t ∧
      t.reg Off.DIO_SS_CNT = s.reg Off.DIO_SS_CNT + 1 ∧ OutsKeep (fun k => k = n) s t ∧
      RegsOnly [Off.DIO_SS_CNT, Off.DIO_DARK_SKIP_CNT, Off.DIO_DEMAG_HIGH_CNT, Off.REC_LOST_CNT] s t ∧
      OnlyIn (.now :: .nv :: .time :: .out :: .dio :: recParts) s t) ∧
  (∀ (s : State) (n : Nat), s.darkReady n = true → n < s.dio.outs.length → s.resolve n (s.dout n) = true →
    ∃ t, exec (.darkTestSlot n) s = .next t ∧ (t.dout n).dark = true ∧ (t.dout n).on = false ∧ OutsKeep (fun _ => False) s t ∧ Resolved t ∧
      t.dio.groups = s.dio.groups ∧ RegsOnly [Off.DIO_DARK_SKIP_CNT, Off.DIO_DEMAG_HIGH_CNT] s t ∧
      OnlyIn [.now, .time, .nv, .isl, .regs, .out, .dio, .icus] s t) ∧
  (∀ (s : State) (n : Nat) (fell : Bool), RegsWf s → n < 16 → n < s.dio.outs.length → (s.dout n).dark = true → bit (s.reg Off.CHK_CMP_MASK) n = false →
    ∃ t, exec (.darkTestEnd n fell) s = .next t ∧ t.now = (if fell then s.now else max s.now ((s.dout n).changedAt + s.darkNs n)) ∧ (t.dout n).dark = false ∧ (t.dout n).darkFails = (if fell then 0 else (s.dout n).darkFails + 1) ∧
      (fell = false → 1 ≤ (s.dout n).darkFails → (t.dout n).has 6 = true ∧ ((s.dout n).has 6 = false → Raised Irq.DIO_DARK_FAIL t)) ∧
      (fell = true ∨ (s.dout n).darkFails = 0 → (t.dout n).faults = (s.dout n).faults) ∧
      t.reg Off.DIO_DARK_FAIL_CNT = s.reg Off.DIO_DARK_FAIL_CNT + (if fell then 0 else 1) ∧ Resolved t ∧ OutsKeep (fun k => k = n) s t ∧
      RegsOnly [Off.DIO_DARK_FAIL_CNT, Off.DIO_DARK_SKIP_CNT, Off.DIO_DEMAG_HIGH_CNT, Off.REC_LOST_CNT] s t ∧
      OnlyIn (.now :: .time :: .nv :: .out :: .dio :: .tlm :: recParts) s t) ∧
  (∀ (s : State) (n : Nat), RegsWf s → n < 16 → n < s.dio.outs.length → s.up = true → s.fenced = false → (s.dout n).darkFails = 0 →
    (∃ t, exec (.clearFault n 0b1111111) s = .next t ∧ (t.dout n).faults = (s.dout n).faults &&& 0b0000100#7 ∧ Resolved t ∧
      OutsKeep (fun k => k = n) s t ∧ fld (t.reg Off.DIO_CMD_STATUS) 0 2 = 2 ∧ Raised Irq.DIO_CMD_DONE t ∧
      RegsOnly [Off.DIO_CMD_STATUS, Off.DIO_DARK_SKIP_CNT, Off.DIO_DEMAG_HIGH_CNT] s t ∧ OnlyIn [.regs, .out, .dio, .icus] s t) ∧
    ((s.dout n).has 0 = true → ∃ t, exec (.clearFault n 0) s = .next t ∧ (t.dout n).has 0 = true ∧ fld (t.reg Off.DIO_CMD_STATUS) 0 2 = 3 ∧
      fld (t.reg Off.DIO_CMD_STATUS) 4 4 = 4 ∧ t.reg Off.DIO_WRITE_REJECTS = s.reg Off.DIO_WRITE_REJECTS + 1 ∧ OutsKeep (fun k => k = n) s t ∧
      RegsOnly [Off.DIO_CMD_STATUS, Off.DIO_WRITE_REJECTS, Off.DIO_DARK_SKIP_CNT, Off.DIO_DEMAG_HIGH_CNT] s t ∧ OnlyIn [.regs, .out, .dio, .icus] s t)) ∧
  (∀ (s : State) (g : Nat), RegsWf s → g = 4 ∨ g = 5 → s.dio.groups.length = 6 → s.up = true → s.fenced = false →
    (s.reenableCause g = 0 → ∃ t, exec (.groupReenable g) s = .next t ∧ (t.group g).causes &&& 0b100011000#9 = 0 ∧
      (t.group g).causes.getLsbD 2 = (s.group g).causes.getLsbD 2 ∧ (∀ h, h ≠ g → t.group h = s.group h) ∧ Resolved t ∧
      OutsKeep (fun n => n / 8 = g - 4) s t ∧ fld (t.reg Off.DIO_CMD_STATUS) 0 2 = 2 ∧ Raised Irq.DIO_CMD_DONE t ∧
      RegsOnly [Off.DIO_CMD_STATUS, Off.DIO_DARK_SKIP_CNT, Off.DIO_DEMAG_HIGH_CNT] s t ∧ OnlyIn [.regs, .out, .dio, .icus] s t) ∧
    ((s.group g).causes &&& 0b000011000#9 ≠ 0 → (s.group g).ready = false → ∃ t, exec (.groupReenable g) s = .next t ∧ t.dio = s.dio ∧
      fld (t.reg Off.DIO_CMD_STATUS) 0 2 = 3 ∧ fld (t.reg Off.DIO_CMD_STATUS) 4 4 = 5 ∧
      t.reg Off.DIO_WRITE_REJECTS = s.reg Off.DIO_WRITE_REJECTS + 1 ∧ RegsOnly [Off.DIO_CMD_STATUS, Off.DIO_WRITE_REJECTS] s t ∧
      OnlyIn [.regs, .icus] s t)) ∧
  (∀ (s : State) (r : Nat), RegsWf s → r < 8 → s.up = true → s.fenced = false →
    (s.ruleTrue r = false → ∃ t, exec (.tripReset r) s = .next t ∧ t.dio.latched = s.dio.latched &&& ~~~(1#8 <<< r) ∧ Resolved t ∧
      t.dio.dis = s.dio.dis ∧ fld (t.reg Off.DIO_CMD_STATUS) 0 2 = 2 ∧ Raised Irq.DIO_CMD_DONE t ∧
      RegsOnly [Off.DIO_CMD_STATUS, Off.DIO_DARK_SKIP_CNT, Off.DIO_DEMAG_HIGH_CNT] s t ∧ OnlyIn [.regs, .out, .dio, .icus] s t) ∧
    (s.ruleTrue r = true → ∃ t, exec (.tripReset r) s = .next t ∧ t.dio = s.dio ∧ fld (t.reg Off.DIO_CMD_STATUS) 0 2 = 3 ∧
      fld (t.reg Off.DIO_CMD_STATUS) 4 4 = 4 ∧ t.reg Off.DIO_WRITE_REJECTS = s.reg Off.DIO_WRITE_REJECTS + 1 ∧
      RegsOnly [Off.DIO_CMD_STATUS, Off.DIO_WRITE_REJECTS] s t ∧ OnlyIn [.regs, .icus] s t) ∧
    (bit (s.tripCfg r) 3 = true → s.dio.latched.getLsbD r = true → s.ruleTrue r = false → ∃ t, exec (.tripAutoReset r) s = .next t ∧
      t.now = max s.now (s.dio.falseAt.getD r 0 + 100000000) ∧ t.dio.latched = s.dio.latched &&& ~~~(1#8 <<< r) ∧ Resolved t ∧ t.dio.dis = s.dio.dis ∧
      RegsOnly [Off.DIO_DARK_SKIP_CNT, Off.DIO_DEMAG_HIGH_CNT] s t ∧ OnlyIn [.now, .time, .nv, .isl, .regs, .out, .dio, .icus] s t)) ∧
  (∀ (s : State) (v : Word) (g : Nat), RegsWf s → fld v 16 16 = 0x444F → g = fld v 4 8 → g = 4 ∨ g = 5 → s.dio.groups.length = 6 →
    s.up = true → s.fenced = false →
    (∃ t, exec (.groupOpen v) s = .next t ∧ t.group g = { s.group g with causes := (s.group g).causes ||| 0b1000000#9 } ∧
      (∀ h, h ≠ g → t.group h = s.group h) ∧ (∀ n, n / 8 = g - 4 → (t.dout n).on = false) ∧ Resolved t ∧ OutsKeep (fun _ => False) s t ∧
      fld (t.reg Off.DIO_CMD_STATUS) 0 2 = 2 ∧
      RegsOnly [Off.DIO_CMD_STATUS, Off.DIO_DARK_SKIP_CNT, Off.DIO_DEMAG_HIGH_CNT] s t ∧ OnlyIn [.regs, .out, .dio, .icus] s t) ∧
    (∃ t, exec (.groupRelease v) s = .next t ∧ t.group g = { s.group g with causes := (s.group g).causes &&& ~~~0b1000000#9 } ∧
      (∀ h, h ≠ g → t.group h = s.group h) ∧ Resolved t ∧ OutsKeep (fun _ => False) s t ∧ fld (t.reg Off.DIO_CMD_STATUS) 0 2 = 2 ∧
      RegsOnly [Off.DIO_CMD_STATUS, Off.DIO_DARK_SKIP_CNT, Off.DIO_DEMAG_HIGH_CNT] s t ∧ OnlyIn [.regs, .out, .dio, .icus] s t)) ∧
  (∀ (s : State) (v : Word) (c : Instr) (cause : Nat), RegsWf s → s.up = true → (c = .groupOpen v ∨ c = .groupRelease v) →
    (cause = 1 ∧ fld v 16 16 ≠ 0x444F ∨ cause = 3 ∧ fld v 16 16 = 0x444F ∧ fld v 4 8 ≠ 4 ∧ fld v 4 8 ≠ 5) →
    ∃ t, exec c s = .next t ∧ fld (t.reg Off.DIO_CMD_STATUS) 0 2 = 3 ∧ fld (t.reg Off.DIO_CMD_STATUS) 4 4 = cause ∧
      t.reg Off.DIO_WRITE_REJECTS = s.reg Off.DIO_WRITE_REJECTS + 1 ∧ Raised Irq.DIO_CMD_DONE t ∧
      RegsOnly [Off.DIO_CMD_STATUS, Off.DIO_WRITE_REJECTS] s t ∧ OnlyIn [.regs, .icus] s t) ∧
  (∀ (s : State) (r o : Nat) (v : Word), RegsWf s → s.up = true → r < 8 → o ∈ [0, 4, 8] →
    (s.sys.mode = .safeHold → s.pendingAt (Off.DIO_TRIP_MASK + 16 * r + o) = none → ∃ t, exec (.tripRegWrite (Off.DIO_TRIP_MASK + 16 * r + o) v) s = .next t ∧
      t.pendingAt (Off.DIO_TRIP_MASK + 16 * r + o) = some v ∧ t.regs = s.regs ∧ OnlyIn [.shadows] s t) ∧
    (s.sys.mode ≠ .safeHold → ∃ t, exec (.tripRegWrite (Off.DIO_TRIP_MASK + 16 * r + o) v) s = .next t ∧
      t.reg Off.DIO_WRITE_REJECTS = s.reg Off.DIO_WRITE_REJECTS + 1 ∧ RegsOnly [Off.DIO_WRITE_REJECTS] s t ∧ OnlyIn [.regs] s t))

/-! ### Redundant pair -/

/-- Role decision (R374 to R376): ROLE_RECORD, ROLE_TIMEOUT, GA1_CLAIM_WAIT_END and GA_WATCH_END, with the 20 ROLE records of the 20 ms before the
timeout, the wait of 50 ms after it and the watch of 60 ms. -/
def Obligations.RoleDecision : Prop :=
  (∀ (s : State) (r : CkRec), s.chk.role = .deciding → s.chk.ga1Wait = false → s.sys.mode = .verify → ckOk 8 r = true → r.length = 32 →
    (roleLt (beAt r.body 0 4, beAt r.body 4 8, beAt r.body 12 16) (s.lastClaim, s.lastCycle, Config.unitId.toNat) = false →
      ∃ t, exec (.roleRecord r) s = .next t ∧ StoodBy s t) ∧
    (roleLt (beAt r.body 0 4, beAt r.body 4 8, beAt r.body 12 16) (s.lastClaim, s.lastCycle, Config.unitId.toNat) = true →
      max s.lastClaim (max (beAt r.body 0 4) s.chk.roleClaim.toNat) < 4294967295 →
      ∃ t, exec (.roleRecord r) s = .next t ∧ TookClaim (max s.lastClaim (max (beAt r.body 0 4) s.chk.roleClaim.toNat) + 1) s t ∧ t.chk.watch = false ∧
        (s.ftnNode = true → t.sys.mode = .integrate ∧ t.ftn.su = .listen) ∧
        (s.ftnNode = false → fld (s.reg Off.SYS_START_CFG) 0 2 = 0 → s.sys.cpfValid = true → s.sys.storeBad = false → s.sys.found = 0 →
          s.nv.tamper = false → t.sys = { s.sys with startDone := true }) ∧
        RegsOnly [Off.CHK_RESYNCS, Off.FTN_CTRL, Off.SYS_MODE_CHANGES, Off.SYS_START_TIME, Off.DIO_DARK_SKIP_CNT, Off.DIO_DEMAG_HIGH_CNT, Off.REC_LOST_CNT] s t ∧
        OnlyIn (.latches :: .loWrites :: .out :: .sys :: .vot :: .pst :: .dio :: .ftn :: .cyc :: .chk :: .brg :: recParts) s t)) ∧
  (∀ (s : State) (c : Instr) (at_ : Nat),
    (c = .roleTimeout ∧ s.chk.role = .deciding ∧ s.chk.ga1Wait = false ∧ s.isl.ga % 2 = 0 ∧ at_ = s.chk.roleAt + 20000000 ∨
     c = .ga1ClaimWaitEnd ∧ s.chk.ga1Wait = true ∧ s.chk.pClaim = false ∧ at_ = s.chk.roleAt + 70000000) →
    (max s.lastClaim s.chk.roleClaim.toNat < 4294967295 →
      ∃ t, exec c s = .next t ∧ t.now = max s.now at_ ∧ TookClaim (max s.lastClaim s.chk.roleClaim.toNat + 1) s t ∧ t.chk.watch = true ∧
        t.chk.watchAt = t.now ∧ RegsOnly [Off.CHK_RESYNCS] s t ∧ OnlyIn [.now, .time, .nv, .regs, .out, .isl, .icus, .chk, .brg] s t) ∧
    (max s.lastClaim s.chk.roleClaim.toNat = 4294967295 →
      ∃ t, exec c s = .next t ∧ HeldWith .claimLost s t ∧ t.chk.watch = true ∧ t.chk.ga1Wait = false ∧ t.chk.holder = s.chk.holder ∧
        t.chk.claim = s.chk.claim ∧ t.chk.role = s.chk.role ∧
        OnlyIn (.now :: .time :: .nv :: .latches :: .loWrites :: .out :: .sys :: .vot :: .pst :: .dio :: .cyc :: .chk :: .brg :: recParts) s t)) ∧
  (∀ (s : State), s.chk.role = .deciding → s.chk.ga1Wait = false → s.isl.ga % 2 = 1 →
    ∃ t, exec .roleTimeout s = .next t ∧ t.now = max s.now (s.chk.roleAt + 20000000) ∧
      t.chk = { s.chk with ga1Wait := true, roleSent := max 20 s.chk.roleSent } ∧ OnlyIn [.now, .time, .nv, .isl, .out, .chk, .brg] s t) ∧
  (∀ (s : State), s.chk.ga1Wait = true → s.chk.pClaim = true →
    ∃ t, exec .ga1ClaimWaitEnd s = .next t ∧ StoodBy (advanceTo (s.chk.roleAt + 70000000) s) t) ∧
  (∀ (s : State), s.chk.watch = true → s.sys.mode = .verify →
    (s.chk.holder = true → s.ftnNode = true → ∃ t, exec .gaWatchEnd s = .next t ∧ t.now = max s.now (s.chk.watchAt + 60000000) ∧
      t.chk = { s.chk with watch := false } ∧ t.sys.mode = .integrate ∧ t.ftn.su = .listen ∧
      OnlyIn (.now :: .time :: .nv :: .latches :: .loWrites :: .out :: .sys :: .vot :: .pst :: .dio :: .ftn :: .cyc :: .chk :: recParts) s t) ∧
    (s.chk.holder = true → s.ftnNode = false → fld (s.reg Off.SYS_START_CFG) 0 2 = 0 → s.sys.cpfValid = true → s.sys.storeBad = false →
      s.sys.found = 0 → s.nv.tamper = false →
      ∃ t, exec .gaWatchEnd s = .next t ∧ t.chk = { s.chk with watch := false } ∧ t.sys = { s.sys with startDone := true } ∧
        OnlyIn [.now, .time, .nv, .isl, .sys, .chk] s t) ∧
    (s.chk.holder = false → ∃ t, exec .gaWatchEnd s = .next t ∧ t.chk = { s.chk with watch := false } ∧ HeldWith .claimLost s t ∧
      OnlyIn (.now :: .time :: .nv :: .latches :: .loWrites :: .out :: .sys :: .vot :: .pst :: .dio :: .cyc :: .chk :: recParts) s t))

/-- Claims (R376, R390 to R393): PARTNER_CLAIM_EDGE, CLAIM_ANNOUNCE, CLAIM_REJECT and ANNOUNCE_SEND. -/
def Obligations.Claims : Prop :=
  (∀ (s : State), s.chk.watch = true → s.chk.holder = true →
    ∃ t, exec .partnerClaimEdge s = .next t ∧ t.chk = s.settled { s.chk with pClaim := true, holder := false, claim := 0, role := .solo } ∧
      t.isl.claimN = false ∧ Recorded 0x0A04 [iU8 1 4] s t ∧ PairReported s t ∧ RegsOnly [Off.REC_LOST_CNT] s t ∧ OnlyIn (.out :: .chk :: recParts) s t) ∧
  (∀ (s : State), s.chk.holder = false →
    ∃ t, exec .partnerClaimEdge s = .next t ∧ t.chk = { s.chk with pClaim := true } ∧ OnlyIn [.chk] s t) ∧
  (∀ (s : State) (c : Instr) (dest : Nat) (claim : Word) (unit : BitVec 128) (seen : Bool), RegsWf s → s.chk.holder = true →
    (c = .partnerClaimEdge ∧ s.chk.watch = false ∧ seen = false ∨
     c = .claimAnnounce dest claim unit ∧ dest = fld (s.reg Off.CHK_PARTNER) 0 14 ∧ s.up = true ∧ ownLess s claim unit = true ∧ seen = true ∨
     c = .claimReject dest claim unit ∧ s.ftnNode = true ∧ dest = s.ownAddr ∧ ownLess s claim unit = true ∧ seen = true) →
    (s.running = false → s.held = false →
      ∃ t, exec c s = .next t ∧ t.chk.holder = false ∧ t.chk.protected_ = false ∧ t.isl.claimN = false ∧ t.sys = s.sys ∧
        t.chk.held = (if seen = true ∧ claimLt s.chk.held.toNat s.chk.heldUnit.toNat claim.toNat unit.toNat = true then claim else s.chk.held) ∧
        t.reg Off.CHK_CLAIMS_LOST = s.reg Off.CHK_CLAIMS_LOST + 1 ∧ Raised Irq.CHK_CLAIM_LOST t ∧
        Recorded 0x0A03 [iU32 1 s.chk.claim.toNat, iU32 2 t.chk.held.toNat] s t ∧ PairReported s t ∧
        RegsOnly [Off.CHK_CLAIMS_LOST, Off.REC_LOST_CNT] s t ∧ OnlyIn (.out :: .chk :: recParts) s t) ∧
    (s.running = true ∨ s.held = true → s.pairMember = true → s.chk.mramOk = true → ∃ t, exec c s = .next t ∧ StoodBy s t) ∧
    (s.running = true ∨ s.held = true → s.pairMember = false ∨ s.chk.mramOk = false →
      ∃ t, exec c s = .next t ∧ HeldWith .claimLost s t ∧ t.chk.holder = false ∧ t.isl.claimN = false ∧
        t.reg Off.CHK_CLAIMS_LOST = s.reg Off.CHK_CLAIMS_LOST + 1 ∧ Raised Irq.CHK_CLAIM_LOST t ∧
        OnlyIn (.latches :: .loWrites :: .out :: .sys :: .vot :: .pst :: .dio :: .cyc :: .chk :: recParts) s t)) ∧
  (∀ (s : State) (dest : Nat) (claim : Word) (unit : BitVec 128), RegsWf s → s.chk.holder = true → s.up = true →
    dest = fld (s.reg Off.CHK_PARTNER) 0 14 → claim.toNat < s.chk.claim.toNat → s.chk.rejected = false → s.ftn.arb.length < 32 →
    ∃ t f, exec (.claimAnnounce dest claim unit) s = .next t ∧ t.chk.rejected = true ∧ t.chk.holder = true ∧ t.chk.claim = s.chk.claim ∧
      t.ftn = { s.ftn with arb := s.ftn.arb ++ [⟨f, s.ftn.cycle⟩] } ∧ f.kind = 6 ∧ f.source = s.ownAddr ∧ f.dest = dest ∧
      f.payload.take 21 = beBytes 4 s.chk.claim.toNat ++ beBytes 16 Config.unitId.toNat ++ beBytes 1 2 ∧
      t.reg Off.CHK_REJECTS_SENT = s.reg Off.CHK_REJECTS_SENT + 1 ∧ t.reg Off.CHK_REJECTS_IGNORED = s.reg Off.CHK_REJECTS_IGNORED + 1 ∧
      Raised Irq.CHK_CLAIM_CONFLICT t ∧ RegsOnly [Off.CHK_REJECTS_SENT, Off.CHK_REJECTS_IGNORED] s t ∧ OnlyIn [.regs, .icus, .ftn, .chk] s t) ∧
  (∀ (s : State) (dest : Nat) (claim : Word) (unit : BitVec 128) (c : Instr), RegsWf s → s.chk.holder = true → claim.toNat < s.chk.claim.toNat →
    (c = .claimAnnounce dest claim unit ∧ dest = fld (s.reg Off.CHK_PARTNER) 0 14 ∧ s.chk.rejected = true ∨
     c = .claimReject dest claim unit ∧ s.ftnNode = true ∧ dest = s.ownAddr) →
    ∃ t, exec c s = .next t ∧ t.reg Off.CHK_REJECTS_IGNORED = s.reg Off.CHK_REJECTS_IGNORED + 1 ∧
      t.chk = { s.chk with held := t.chk.held, heldUnit := t.chk.heldUnit } ∧ RegsOnly [Off.CHK_REJECTS_IGNORED] s t ∧ OnlyIn [.regs, .chk] s t) ∧
  (∀ (s : State), s.chk.holder = true → s.ftnNode = true → s.ftn.su = .integrated → max 1 (fld (s.reg Off.CHK_CFG) 8 4) ≤ s.chk.announced →
    s.ftn.arb.length < 32 →
    ∃ t f, exec .announceSend s = .next t ∧ t.chk = { s.chk with announced := 0 } ∧
      t.ftn = { s.ftn with arb := s.ftn.arb ++ [⟨f, s.ftn.cycle⟩] } ∧ f.kind = 6 ∧ f.source = s.ownAddr ∧ f.dest = 0xFFFF ∧
      f.payload.take 21 = beBytes 4 s.chk.claim.toNat ++ beBytes 16 Config.unitId.toNat ++ beBytes 1 1 ∧ OnlyIn [.ftn, .chk] s t)

/-- The standby's receiver (R380, R385, Table 11.5): SET_START, CHECKPOINT_PAGE, SET_COMMIT, KEEPALIVE, PAUSE_RECORD and PARK. -/
def Obligations.StandbyRecords : Prop :=
  (∀ (s : State) (r : CkRec) (a b : Nat) (full : Bool), s.standbyTakes 1 r = true → r.length = 32 → s.chk.inSet = none →
    a = s.idMatches 0 (slice r.body 8 8) → b = s.idMatches 3 (slice r.body 16 8) → full = (r.body.getD 29 0).getLsbD 0 →
    (a ≠ 0 → b ≠ 0 → s.chk.mramOk = true → r.recSeq = 0 → r.half.toNat = r.setSeq.toNat % 2 →
      (full = true ∨ (s.half r.half.toNat).state = .committed ∧ (s.half r.half.toNat).set.toNat = beAt r.body 0 4) →
      ∃ t, exec (.setStart r) s = .next t ∧ t.chk.inSet = some ⟨r.setSeq, r.half.toNat, full, true, 1, []⟩ ∧ t.chk.idMatch = true ∧
        t.chk.cycleUs = beAt r.body 4 4 ∧ t.chk.deadline = s.now + 3000 * beAt r.body 4 4 ∧ t.isl.follow = (a == 2 || b == 2) ∧
        t.chk.armed = (s.newestHalf.isSome && s.chk.lastOk) ∧
        t.isl.failN = (if t.chk.armed = s.chk.armed then s.isl.failN else !t.chk.armed) ∧ OnlyIn [.out, .isl, .chk] s t) ∧
    (a = 0 ∨ b = 0 ∨ s.chk.mramOk = false ∨ r.recSeq ≠ 0 ∨ r.half.toNat ≠ r.setSeq.toNat % 2 ∨
      full = false ∧ ((s.half r.half.toNat).state ≠ .committed ∨ (s.half r.half.toNat).set.toNat ≠ beAt r.body 0 4) →
      ∃ t, exec (.setStart r) s = .next t ∧ Discarded r.half.toNat s t ∧ t.chk.idMatch = (a != 0 && b != 0) ∧
        t.chk.cycleUs = beAt r.body 4 4 ∧ t.chk.deadline = s.now + 3000 * beAt r.body 4 4 ∧ OnlyIn [.out, .isl, .nv, .chk] s t)) ∧
  (∀ (s : State) (r : CkRec) (i : SetIn), s.sys.mode = .standby → s.chk.inSet = some i →
    (ckOk 2 r = true → r.setSeq = i.set → r.half.toNat = i.half → r.recSeq.toNat = i.next → r.length = 4100 → beAt r.body 0 4 < 16384 →
      ∃ t, exec (.checkpointPage r) s = .next t ∧ t.chk.inSet = some { i with next := i.next + 1, crcs := i.crcs ++ [r.crc] } ∧
        t.chk.deadline = s.now + 3000 * s.chk.cycleUs ∧ t.chk.armed = s.chk.armed ∧ (t.half i.half).state = .incomplete ∧
        (t.half i.half).page (beAt r.body 0 4) = r.body.drop 4 ∧ t.half (i.half + 1) = s.half (i.half + 1) ∧
        t.nv.slots = s.nv.slots ∧ t.nv.store = s.nv.store ∧ OnlyIn [.nv, .chk] s t) ∧
    (ckOk 2 r = false ∨ r.setSeq ≠ i.set ∨ r.half.toNat ≠ i.half ∨ r.recSeq.toNat ≠ i.next ∨ r.length ≠ 4100 ∨ 16384 ≤ beAt r.body 0 4 →
      ∃ t, exec (.checkpointPage r) s = .next t ∧ Discarded i.half s t ∧ OnlyIn [.out, .isl, .nv, .chk] s t) ∧
    (ckOk 3 r = true → r.setSeq = i.set → r.half.toNat = i.half → r.recSeq.toNat = i.next → r.length = 20 → beAt r.body 8 4 = i.next - 1 →
      beAt r.body 12 4 = (crc32c (i.crcs.flatMap fun c => beBytes 4 c.toNat)).toNat →
      ∃ t, exec (.setCommit r) s = .next t ∧ t.chk.inSet = none ∧ t.chk.lastOk = true ∧ t.chk.applied = true ∧
        t.half i.half = { s.half i.half with state := .committed, set := i.set, cycle := BitVec.ofNat 64 (beAt r.body 0 8) } ∧
        t.half (i.half + 1) = s.half (i.half + 1) ∧ t.chk.armed = (s.chk.mramOk && s.chk.idMatch) ∧
        t.isl.failN = (if t.chk.armed = s.chk.armed then s.isl.failN else !t.chk.armed) ∧
        t.nv.slots = s.nv.slots ∧ t.nv.store = s.nv.store ∧ OnlyIn [.out, .isl, .nv, .chk] s t) ∧
    (ckOk 3 r = false ∨ r.setSeq ≠ i.set ∨ r.half.toNat ≠ i.half ∨ r.recSeq.toNat ≠ i.next ∨ r.length ≠ 20 ∨ beAt r.body 8 4 ≠ i.next - 1 →
      ∃ t, exec (.setCommit r) s = .next t ∧ Discarded i.half s t ∧ OnlyIn [.out, .isl, .nv, .chk] s t)) ∧
  (∀ (s : State) (r : CkRec),
    (s.standbyTakes 4 r = true → r.length = 8 → ∃ t, exec (.keepalive r) s = .next t ∧
      t.chk = { s.chk with cycleUs := beAt r.body 0 4, deadline := s.now + 3000 * beAt r.body 0 4 } ∧ OnlyIn [.chk] s t) ∧
    (s.standbyTakes 5 r = true → r.length = 4 → ∃ t, exec (.pauseRecord r) s = .next t ∧
      t.chk = { s.chk with deadline := s.now + max (3000 * s.chk.cycleUs) (1000000 * beAt r.body 0 4) } ∧ OnlyIn [.chk] s t) ∧
    (s.standbyTakes 6 r = true → r.length = 0 → ∃ t, exec (.park r) s = .next t ∧ t.sys.mode = .dormant ∧ t.isl.wakeCause = 0 ∧
      t.isl.wakeArmed = s.isl.wakeArmed ∧ t.nv = { s.nv with nand := t.nv.nand } ∧
      AnewBut [.now, .free, .out, .nv, .isl, .upd, .ksp, .chk, .tlm, .sys] s t))

/-- Recognition and the pair signals (R381, R385, R386): HANDOVER_RECORD, STREAM_TIMEOUT, PARTNER_FAIL_ASSERTED, PARTNER_FAIL_RELEASED and
PARTNER_PRESENT_CHANGE. Commands of the pair (R381, R384, R395): CHK_RESYNC, CHK_HANDOVER and CMP_REPORT. -/
def Obligations.PairSignalsAndCommands : Prop :=
  (∀ (s u : State) (c : Instr) (r : CkRec) (h : Nat), s.sys.mode = .standby → s.newestHalf = some h → s.chk.idMatch = true →
    (c = .handoverRecord r ∧ ckOk 7 r = true ∧ r.length = 0 ∧ u = s ∨ c = .streamTimeout ∧ s.chk.applied = true ∧ u = advanceTo s.chk.deadline s ∨
     c = .partnerFailAsserted ∧ u = s) →
    ∃ t, exec c s = .next t ∧ ResetTo 6 u t ∧ t.chk.takeover = some h) ∧
  (∀ (s : State), s.sys.mode = .standby → s.chk.idMatch = false → s.chk.cycleUs ≠ 0 →
    ∃ t, exec .partnerFailAsserted s = .next t ∧ ResetTo (fld (Config.freeWord s.free) 0 3) s t ∧ t.free = s.free + 1) ∧
  (∀ (s : State), RegsWf s → s.sys.mode ≠ .standby → s.chk.role = .active → s.chk.presentN = true → s.chk.stream ≠ .resync → s.resyncFree = true →
    ∃ t, exec .partnerFailAsserted s = .next t ∧ t.chk = s.settled { s.chk with pFail := true, stream := .resync, resyncAt := some s.now } ∧
      t.reg Off.CHK_RESYNCS = s.reg Off.CHK_RESYNCS + 1 ∧ Raised Irq.CHK_RESYNC t ∧ PairReported s t ∧
      RegsOnly [Off.CHK_RESYNCS] s t ∧ OnlyIn [.regs, .icus, .chk] s t) ∧
  (∀ (s : State), s.sys.mode ≠ .standby → s.chk.role ≠ .active ∨ s.chk.presentN = false ∨ s.chk.stream = .resync ∨ s.resyncFree = false →
    ∃ t, exec .partnerFailAsserted s = .next t ∧ t.chk = s.settled { s.chk with pFail := true } ∧ PairReported s t ∧ OnlyIn [.icus, .chk] s t) ∧
  (∀ (s : State),
    (∃ t, exec .partnerFailReleased s = .next t ∧
      t.chk = s.settled { s.chk with pFail := false, stream := if s.chk.stream = .resync then .running else s.chk.stream } ∧
      PairReported s t ∧ OnlyIn [.icus, .chk] s t) ∧
    (∃ t, exec (.partnerPresentChange false) s = .next t ∧
      t.chk = s.settled { s.chk with presentN := false, pFail := true, pClaim := false, stream := .idle } ∧ PairReported s t ∧ OnlyIn [.icus, .chk] s t) ∧
    (s.chk.role ≠ .active ∨ s.chk.pFail = false → ∃ t, exec (.partnerPresentChange true) s = .next t ∧
      t.chk = s.settled { s.chk with presentN := true, stream := if s.chk.role = .active ∧ s.chk.stream = .idle then .running else s.chk.stream } ∧
      PairReported s t ∧ OnlyIn [.icus, .chk] s t)) ∧
  (∀ (s : State), RegsWf s → s.chk.role = .active → s.chk.pFail = true → s.chk.stream ≠ .resync → s.resyncFree = true →
    ∃ t, exec (.partnerPresentChange true) s = .next t ∧
      t.chk = s.settled { s.chk with presentN := true, stream := .resync, resyncAt := some s.now } ∧
      t.reg Off.CHK_RESYNCS = s.reg Off.CHK_RESYNCS + 1 ∧ Raised Irq.CHK_RESYNC t ∧ PairReported s t ∧
      RegsOnly [Off.CHK_RESYNCS] s t ∧ OnlyIn [.regs, .icus, .chk] s t) ∧
  (∀ (s : State), RegsWf s →
    (s.chk.role = .active → s.chk.presentN = true → ∃ t, exec (.chkResync 0x434B) s = .next t ∧
      t.chk = s.settled { s.chk with stream := .resync, resyncAt := some s.now } ∧ t.reg Off.CHK_RESYNCS = s.reg Off.CHK_RESYNCS + 1 ∧
      t.reg Off.CHK_CMD_STATUS = cmdStatus (s.reg Off.CHK_CMD_STATUS) 2 0 ∧ Raised Irq.CHK_RESYNC t ∧ Raised Irq.CHK_CMD_DONE t ∧
      RegsOnly [Off.CHK_RESYNCS, Off.CHK_CMD_STATUS] s t ∧ OnlyIn [.regs, .icus, .chk] s t) ∧
    (s.chk.protected_ = true → s.running = true → s.chk.role = .active → ∃ t, exec (.chkHandover 0x434B) s = .next t ∧
      t.reg Off.CHK_CMD_STATUS = cmdStatus (s.reg Off.CHK_CMD_STATUS) 2 0 ∧ Raised Irq.CHK_CMD_DONE t ∧ t.chk.out = none ∧ t.chk.holder = s.chk.holder ∧
      (∀ o, s.chk.out = some o → (t.half o.set.toNat).state = .committed ∧ (t.half o.set.toNat).set = o.set ∧
        (t.half o.set.toNat).cycle = o.cycle ∧ t.half (o.set.toNat + 1) = s.half (o.set.toNat + 1) ∧ t.chk.setSeq = o.set ∧ t.reg Off.CHK_SETS_SENT = s.reg Off.CHK_SETS_SENT + 1) ∧
      (s.chk.out = none → t.nv = s.nv ∧ t.chk = s.chk) ∧
      (s.brg.link0.state = .up → ∃ p, t.out.getLast? = some (.packet 0 p) ∧ p.type = 8 ∧ p.payload.take 4 = [0x43, 0x4B, 7, 0]) ∧
      RegsOnly [Off.CHK_CMD_STATUS, Off.CHK_SETS_SENT] s t ∧ OnlyIn [.regs, .out, .nv, .icus, .chk, .brg] s t)) ∧
  (∀ (s : State) (c : Instr) (cause : Nat) (key : Half), RegsWf s →
    ((c = .chkResync key ∨ c = .chkHandover key) ∧ (key ≠ 0x434B ∧ cause = 1 ∨ key = 0x434B ∧ s.chk.role ≠ .active ∧ cause = 3) ∨
     c = .chkHandover key ∧ key = 0x434B ∧ s.chk.role = .active ∧ (s.chk.protected_ = false ∨ s.running = false) ∧ cause = 4) →
    ∃ t, exec c s = .next t ∧ t.reg Off.CHK_CMD_STATUS = cmdStatus (s.reg Off.CHK_CMD_STATUS) 3 cause ∧
      t.reg Off.CHK_CMD_REJECTS = s.reg Off.CHK_CMD_REJECTS + 1 ∧ Raised Irq.CHK_CMD_DONE t ∧
      RegsOnly [Off.CHK_CMD_STATUS, Off.CHK_CMD_REJECTS] s t ∧ OnlyIn [.regs, .icus] s t) ∧
  (∀ (s : State) (v : Word), RegsWf s →
    (fld v 16 16 ≠ 0x434D → ∃ t, exec (.cmpReport v) s = .next t ∧ t.reg Off.CHK_CMD_REJECTS = s.reg Off.CHK_CMD_REJECTS + 1 ∧
      RegsOnly [Off.CHK_CMD_REJECTS] s t ∧ OnlyIn [.regs] s t) ∧
    (fld v 16 16 = 0x434D → s.pairMember = true → s.chk.role = .active → bit (s.reg Off.CHK_CFG) 1 = false ∨ s.chk.protected_ = false →
      ∃ t, exec (.cmpReport v) s = .next t ∧ t.reg Off.CHK_CMP_FAILS = s.reg Off.CHK_CMP_FAILS + 1 ∧ Raised Irq.CHK_CMP_FAIL t ∧
        Recorded 0x0A01 [iU16 1 (fld v 0 14)] s t ∧ RegsOnly [Off.CHK_CMP_FAILS, Off.REC_LOST_CNT] s t ∧ OnlyIn recParts s t) ∧
    (fld v 16 16 = 0x434D → s.pairMember = true → s.chk.role = .active → bit (s.reg Off.CHK_CFG) 1 = true → s.chk.protected_ = true →
      s.sys.failSilent = false →
      ∃ t, exec (.cmpReport v) s = .next t ∧ FellSilent s t ∧ t.reg Off.CHK_CMP_FAILS = s.reg Off.CHK_CMP_FAILS + 1 ∧ OnlyIn silentParts s t))

/-! ### Interrupt controllers -/

/-- Sources (R396 to R398, R402, R403, R411 to R415, Table 12.5): SOURCE_ASSERT, SWI_SET, PEND_CLEAR, WAIT_WAKE, EXTINT_EDGE, whose level the slices
accept once it has held for FILTER cycles and ignore otherwise, and EXTINT_DORMANT_EDGE. A core and its signals (R399 to R406, R409, Table 12.2):
SIGNAL_WITHDRAW, HANDLER_ENTRY, CLAIM_NORMAL, CLAIM_FAST, ICU_COMPLETE and HANDLER_EXIT. What a frame holds is a free value (log 22). -/
def Obligations.InterruptController : Prop :=
  (∀ (s : State) (l : Lane) (id k : Nat) (v : Word) (c : Instr), s.laneRuns l = true →
    (c = .sourceAssert l id ∨ c = .swiSet l k v ∧ id = fld v 0 9 ∧ 448 ≤ id) →
    (irqAssigned id = true → ∃ t, exec c s = .next t ∧ id ∈ (t.icu l).pend ∧ t.icu l = Icu.route (s.srcCfg l) { s.icu l with pend := insNat (s.icu l).pend id } ∧
      (∀ m, m ≠ l → t.icu m = s.icu m) ∧ OnlyIn [.icus] s t) ∧
    (irqAssigned id = false → ∃ t, exec c s = .next t ∧ OnlyIn [] s t)) ∧
  (∀ (s : State) (l : Lane) (id i : Nat) (fast : Bool), s.laneRuns l = true → irqAssigned id = true → (s.icu l).pend = [] →
    (s.icu l).signalled id = false → (s.icu l).isActive id = false → (∀ k ∈ (s.icu l).cores, k.held ≠ id) →
    bit (s.srcCfg l id) 0 = true → fast = bit (s.srcCfg l id) 1 → i < (s.icu l).cores.length → (s.icuCore l i).candidate fast = true →
    bit (s.srcCfg l id) (8 + i) = true →
    (∀ j, j < (s.icu l).cores.length → (s.icuCore l j).candidate fast = true → bit (s.srcCfg l id) (8 + j) = true →
      (s.icuCore l i).effPri < (s.icuCore l j).effPri ∨ (s.icuCore l i).effPri = (s.icuCore l j).effPri ∧ i ≤ j) →
    ∃ t, exec (.sourceAssert l id) s = .next t ∧ (t.icu l).pend = [id] ∧
      t.icuCore l i = (if fast then { s.icuCore l i with sigF := id } else { s.icuCore l i with sigN := id }) ∧
      (∀ j, j ≠ i → t.icuCore l j = s.icuCore l j) ∧ OnlyIn [.icus] s t) ∧
  (∀ (s : State) (l : Lane) (k : Nat) (v : Word), RegsWf s → s.laneRuns l = true → fld v 0 9 < 448 →
    ∃ t, exec (.swiSet l k v) s = .next t ∧ t.reg (laneKey l Off.ICU_SWI_REJECTS) = s.reg (laneKey l Off.ICU_SWI_REJECTS) + 1 ∧
      (∀ m, m ≠ l → t.reg (laneKey m Off.ICU_SWI_REJECTS) = s.reg (laneKey m Off.ICU_SWI_REJECTS)) ∧
      RegsOnly [Off.ICU_SWI_REJECTS] s t ∧ OnlyIn [.regs] s t) ∧
  (∀ (s : State) (l : Lane) (w : Nat) (v : Word), s.laneRuns l = true → w < 16 →
    ∃ t, exec (.pendClear l w v) s = .next t ∧ (∀ x, x ∈ (t.icu l).pend ↔ x ∈ (s.icu l).pend ∧ ¬ (x / 32 = w ∧ bit v (x % 32) = true)) ∧
      (t.icu l).active = (s.icu l).active ∧
      ((∀ x ∈ (s.icu l).pend, x / 32 = w ∧ bit v (x % 32) = true) → ∀ c, c < 6 → t.icuCore l c = { s.icuCore l c with sigN := if (s.icuCore l c).sigN / 32 = w ∧ bit v ((s.icuCore l c).sigN % 32) = true ∧ (s.icuCore l c).begun false = false then 0 else (s.icuCore l c).sigN, sigF := if (s.icuCore l c).sigF / 32 = w ∧ bit v ((s.icuCore l c).sigF % 32) = true ∧ (s.icuCore l c).begun true = false then 0 else (s.icuCore l c).sigF }) ∧
      (∀ m, m ≠ l → t.icu m = s.icu m) ∧ RegsOnly [Off.ICU_WITHDRAW_CNT] s t ∧ OnlyIn [.regs, .icus] s t) ∧
  (∀ (s : State) (l : Lane) (id : Nat), s.laneRuns l = true → id ∈ (s.icu l).pend → bit (s.srcCfg l id) 0 = true → (s.icu l).signalled id = false →
    (∀ k, k < (s.icu l).cores.length → bit (s.srcCfg l id) (8 + k) = true → (s.icuCore l k).candidate (bit (s.srcCfg l id) 1) = false) →
    ∃ t, exec (.waitWake l id) s = .next t ∧
      (∀ k, (s.icuCore l k).seq = .wait → bit (s.srcCfg l id) (8 + k) = true → (t.icuCore l k).seq = .run) ∧
      (∀ k, (s.icuCore l k).seq ≠ .wait ∨ bit (s.srcCfg l id) (8 + k) = false → (t.icuCore l k).seq = (s.icuCore l k).seq) ∧
      (t.icu l).pend = (s.icu l).pend ∧ (t.icu l).active = (s.icu l).active ∧ (∀ m, m ≠ l → t.icu m = s.icu m) ∧ OnlyIn [.icus] s t) ∧
  (∀ (s : State) (k cycles : Nat) (rising : Bool) (cfg : Word), RegsWf s → s.up = true → s.verified = true → k < 16 →
    cfg = s.maj (Off.ICU_EXT_CFG + 4 * k) → rising ≠ s.vot.extIn.getLsbD k → (s.vot.extAt.getD k 0 + 3) / 4 + cycles ≤ s.now / 4 →
    (fld cfg 8 10 ≤ cycles → ∃ t, exec (.extintEdge k rising cycles) s = .next t ∧
      t.vot = { s.vot with extIn := s.vot.extIn ^^^ (1#16 <<< k), extAt := s.vot.extAt.set k s.now } ∧
      (∀ l, s.inVote l = true → t.reg (laneKey l Off.ICU_EXT_LEVEL) =
        (if rising then s.reg (laneKey l Off.ICU_EXT_LEVEL) ||| (1#32 <<< k) else s.reg (laneKey l Off.ICU_EXT_LEVEL) &&& ~~~(1#32 <<< k))) ∧
      (∀ l, s.inVote l = true → edgeWanted (fld cfg 0 2) rising = true → 432 + k ∈ (t.icu l).pend ∧
        t.reg (laneKey l (Off.ICU_EXT_STAMP + 4 * k)) = ctime ((s.time.tb0.time - (4 * fld cfg 8 10 + s.now % 4) * s.time.tb0.rate) / nsUnit) ∧
        t.reg (laneKey l Off.ICU_EXT_LOST_CNT) = (if 432 + k ∈ (s.icu l).pend then s.reg (laneKey l Off.ICU_EXT_LOST_CNT) + 1 else s.reg (laneKey l Off.ICU_EXT_LOST_CNT))) ∧
      (edgeWanted (fld cfg 0 2) rising = false → t.icus = s.icus ∧ RegsOnly [Off.ICU_EXT_LEVEL] s t) ∧
      (∀ l, s.inVote l = false → t.icu l = s.icu l) ∧
      RegsOnly [Off.ICU_EXT_LEVEL, Off.ICU_EXT_STAMP + 4 * k, Off.ICU_EXT_LOST_CNT] s t ∧ OnlyIn [.regs, .vot, .icus] s t) ∧
    (cycles < fld cfg 8 10 → ∃ t, exec (.extintEdge k rising cycles) s = .next t ∧
      t.vot = { s.vot with extAt := s.vot.extAt.set k s.now } ∧ OnlyIn [.vot] s t)) ∧
  (∀ (s : State) (k : Nat) (rising : Bool), s.isl.powered = true → k < 16 → s.verified = false ∨ s.sys.entering = true →
    edgeWanted (s.stored 0x2500 (k + 1) 0x1900 % 4) rising = true →
    ∃ t, exec (.extintDormantEdge k rising) s = .next t ∧ t.isl = { s.isl with extLatch := s.isl.extLatch ||| (1#16 <<< k) } ∧ OnlyIn [.isl] s t) ∧
  (∀ (s : State) (l : Lane) (c : Nat) (fast : Bool) (k : IcuCore), RegsWf s → s.laneRuns l = true → c < 6 → k = s.icuCore l c →
    ((if fast then k.sigF else k.sigN) ≠ 0 → k.begun fast = false →
      ∃ t, exec (.signalWithdraw l c fast true) s = .next t ∧ t.reg (laneKey l Off.ICU_WITHDRAW_CNT) = s.reg (laneKey l Off.ICU_WITHDRAW_CNT) + 1 ∧
        t.icu l = Icu.route (t.srcCfg l) { s.icu l with cores := modAt (s.icu l).cores c fun x => if fast then { x with maskF := true, sigF := 0 } else { x with maskN := true, sigN := 0 } } ∧
        (t.icu l).pend = (s.icu l).pend ∧ (∀ m, m ≠ l → t.icu m = s.icu m) ∧ RegsOnly [Off.ICU_WITHDRAW_CNT] s t ∧ OnlyIn [.regs, .icus] s t) ∧
    (∀ mask : Bool, mask = false ∨ (if fast then k.sigF else k.sigN) = 0 ∨ k.begun fast = true →
      ∃ t, exec (.signalWithdraw l c fast mask) s = .next t ∧
        t.icu l = Icu.route (s.srcCfg l) { s.icu l with cores := modAt (s.icu l).cores c fun x => if fast then { x with maskF := mask } else { x with maskN := mask } } ∧
        (∀ m, m ≠ l → t.icu m = s.icu m) ∧ OnlyIn [.icus] s t)) ∧
  (∀ (s : State) (l : Lane) (c : Nat) (k : IcuCore) (p : BitVec 8), RegsWf s → s.laneRuns l = true → c < 6 → k = s.icuCore l c → k.sigN ≠ 0 →
    p = BitVec.ofNat 8 (fld (s.srcCfg l k.sigN) 16 8) →
    (k.seq = .run ∨ k.seq = .wait → s.stalled l c = false → ∃ t, exec (.handlerEntry l c false) s = .next t ∧
      t.icu l = Icu.route (s.srcCfg l) { s.icu l with cores := modAt (s.icu l).cores c fun x => { x with seq := .nEntry, prioN := p } } ∧
      (∀ m, m ≠ l → t.icu m = s.icu m ∧ t.mems.get m = s.mems.get m) ∧ t.mems.get l = { s.mems.get l with spad := (t.mems.get l).spad } ∧
      (∀ a, a < 0x40000 + 0x400 * c ∨ 0x40000 + 0x400 * c + 1024 ≤ a → rdByte (t.mems.get l).spad a = rdByte (s.mems.get l).spad a) ∧
      OnlyIn [.free, .icus, .mems] s t) ∧
    (k.seq = .run ∨ k.seq = .wait → s.stalled l c = true → ∃ t, exec (.handlerEntry l c false) s = .next t ∧ OnlyIn [] s t) ∧
    (k.seq = .nEntry → ∃ t, exec (.handlerEntry l c false) s = .next t ∧
      t.icu l = { s.icu l with cores := modAt (s.icu l).cores c fun x => { x with seq := .nHandler } } ∧ (∀ m, m ≠ l → t.icu m = s.icu m) ∧ OnlyIn [.icus] s t) ∧
    (k.seq = .nExit → ∃ t, exec (.handlerEntry l c false) s = .next t ∧
      t.icu l = Icu.route (t.srcCfg l) { s.icu l with cores := modAt (s.icu l).cores c fun x => { x with seq := .nHandler, prioN := p } } ∧
      t.reg (laneKey l Off.ICU_TAILCHAIN_CNT) = s.reg (laneKey l Off.ICU_TAILCHAIN_CNT) + 1 ∧ (∀ m, m ≠ l → t.icu m = s.icu m) ∧
      RegsOnly [Off.ICU_TAILCHAIN_CNT] s t ∧ OnlyIn [.regs, .icus] s t)) ∧
  (∀ (s : State) (l : Lane) (c : Nat) (k : IcuCore), RegsWf s → s.laneRuns l = true → c < 6 → k = s.icuCore l c → k.sigF ≠ 0 → k.seq ≠ .fHandler →
    c < 4 ∨ s.stalled l c = false →
    ∃ t, exec (.handlerEntry l c true) s = .next t ∧
      t.icu l = Icu.route (t.srcCfg l) { s.icu l with cores := modAt (s.icu l).cores c fun x => { x with seq := .fHandler, under := if k.seq = .nHandler ∨ k.seq = .nExit then some k.seq else none, bank := decide (c < 4), held := if k.seq = .nEntry then k.sigN else x.held, sigN := if k.seq = .nEntry then 0 else x.sigN, prioN := if k.seq = .nEntry then 0 else x.prioN } } ∧
      (t.icu l).pend = (s.icu l).pend ∧
      t.reg (laneKey l Off.ICU_ABANDON_CNT) = s.reg (laneKey l Off.ICU_ABANDON_CNT) + (if k.seq = .nEntry then 1 else 0) ∧
      t.reg (laneKey l Off.ICU_TAILCHAIN_CNT) = s.reg (laneKey l Off.ICU_TAILCHAIN_CNT) + (if k.seq = .nExit then 1 else 0) ∧
      (s.reg (laneKey l Off.ICU_FAST_MAX)).toNat ≤ (t.reg (laneKey l Off.ICU_FAST_MAX)).toNat ∧
      (c < 4 → t.mems = s.mems) ∧
      (∀ a, a < 0x41800 + 0x400 * (c - 4) ∨ 0x41800 + 0x400 * (c - 4) + 1024 ≤ a → rdByte (t.mems.get l).spad a = rdByte (s.mems.get l).spad a) ∧
      (t.mems.get l).dram = (s.mems.get l).dram ∧ (∀ m, m ≠ l → t.icu m = s.icu m ∧ t.mems.get m = s.mems.get m) ∧
      RegsOnly [Off.ICU_ABANDON_CNT, Off.ICU_TAILCHAIN_CNT, Off.ICU_FAST_MAX] s t ∧ OnlyIn [.free, .regs, .icus, .mems] s t) ∧
  (∀ (s : State) (l : Lane) (c : Nat), s.laneRuns l = true → c < 6 → 4 ≤ c → s.stalled l c = true →
    ∃ t, exec (.handlerEntry l c true) s = .next t ∧ OnlyIn [] s t) ∧
  (∀ (s : State) (l : Lane) (core id : Nat) (fast : Bool) (c : Instr), RegsWf s → s.laneRuns l = true → core < 6 →
    (c = .claimNormal l core ∧ fast = false ∨ c = .claimFast l core ∧ fast = true) →
    id = (if fast then (s.icuCore l core).sigF else (s.icuCore l core).sigN) →
    (id ≠ 0 → bit (s.srcCfg l id) 0 = true → bit (s.srcCfg l id) 1 = fast →
      ∃ t, exec c s = .next t ∧ t.vot = s.vot.told l core (BitVec.ofNat 32 id) false ∧
        id ∉ (t.icu l).pend ∧ (∀ x, x ≠ id → (x ∈ (t.icu l).pend ↔ x ∈ (s.icu l).pend)) ∧ (t.icu l).active = (s.icu l).active ++ [(id, core)] ∧
        (fast = true → (t.icuCore l core).actF = id ∧ (t.icuCore l core).actN = (s.icuCore l core).actN ∧ (t.icuCore l core).seq = (s.icuCore l core).seq) ∧
        (fast = false → (t.icuCore l core).actN = id ∧ (t.icuCore l core).actF = (s.icuCore l core).actF ∧
          (t.icuCore l core).seq = (if (s.icuCore l core).seq = .nEntry then .nHandler else (s.icuCore l core).seq)) ∧
        (∀ m, m ≠ l → t.icu m = s.icu m) ∧ OnlyIn [.vot, .icus] s t) ∧
    (id = 0 ∨ bit (s.srcCfg l id) 0 = false ∨ bit (s.srcCfg l id) 1 ≠ fast →
      ∃ t, exec c s = .next t ∧ t.vot = s.vot.told l core 0 false ∧
        (t.icu l).pend = (s.icu l).pend ∧ (t.icu l).active = (s.icu l).active ∧
        t.reg (laneKey l Off.ICU_SPURIOUS_CNT) = s.reg (laneKey l Off.ICU_SPURIOUS_CNT) + 1 ∧ (∀ m, m ≠ l → t.icu m = s.icu m) ∧
        RegsOnly [Off.ICU_SPURIOUS_CNT] s t ∧ OnlyIn [.regs, .vot, .icus] s t)) ∧
  (∀ (s : State) (l : Lane) (core : Nat) (v : Word), RegsWf s → s.laneRuns l = true → core < 6 →
    (fld v 0 9 ≠ 0 → (fld v 0 9, core) ∈ (s.icu l).active →
      ∃ t, exec (.icuComplete l core v) s = .next t ∧ (t.icu l).active = (s.icu l).active.filter (fun x => x != (fld v 0 9, core)) ∧
        (t.icu l).pend = (s.icu l).pend ∧ (t.icuCore l core).actN = (if (s.icuCore l core).actN = fld v 0 9 then 0 else (s.icuCore l core).actN) ∧
        (t.icuCore l core).actF = (if (s.icuCore l core).actF = fld v 0 9 then 0 else (s.icuCore l core).actF) ∧
        (∀ m, m ≠ l → t.icu m = s.icu m) ∧ OnlyIn [.icus] s t) ∧
    (fld v 0 9 = 0 ∨ (fld v 0 9, core) ∉ (s.icu l).active →
      ∃ t, exec (.icuComplete l core v) s = .next t ∧ t.reg (laneKey l Off.ICU_BAD_COMPLETE_CNT) = s.reg (laneKey l Off.ICU_BAD_COMPLETE_CNT) + 1 ∧
        RegsOnly [Off.ICU_BAD_COMPLETE_CNT] s t ∧ OnlyIn [.regs] s t)) ∧
  (∀ (s : State) (l : Lane) (c : Nat) (wait : Bool) (k : IcuCore), RegsWf s → s.laneRuns l = true → c < 6 → k = s.icuCore l c →
    (k.seq = .fHandler → (Icu.route (s.srcCfg l) { s.icu l with cores := modAt (s.icu l).cores c fun x => { x with seq := k.under.getD .run } }).cores[c]?.any (fun x => x.sigF != 0) = false →
      ∃ t, exec (.handlerExit l c wait) s = .next t ∧ (t.icuCore l c).seq = k.under.getD .run ∧ (t.icuCore l c).under = none ∧ (t.icuCore l c).bank = false ∧
        (t.icuCore l c).held = 0 ∧ (t.icu l).pend = (s.icu l).pend ∧ (∀ m, m ≠ l → t.icu m = s.icu m) ∧ OnlyIn [.icus] s t) ∧
    (k.seq = .fHandler → (Icu.route (s.srcCfg l) { s.icu l with cores := modAt (s.icu l).cores c fun x => { x with seq := k.under.getD .run } }).cores[c]?.any (fun x => x.sigF != 0) = true →
      ∃ t, exec (.handlerExit l c wait) s = .next t ∧ (t.icuCore l c).seq = .fHandler ∧ (t.icuCore l c).under = k.under ∧ (t.icuCore l c).bank = k.bank ∧
        (t.icuCore l c).sigF ≠ 0 ∧ t.reg (laneKey l Off.ICU_TAILCHAIN_CNT) = s.reg (laneKey l Off.ICU_TAILCHAIN_CNT) + 1 ∧
        (∀ m, m ≠ l → t.icu m = s.icu m) ∧ RegsOnly [Off.ICU_TAILCHAIN_CNT] s t ∧ OnlyIn [.regs, .icus] s t) ∧
    (∀ q : Seq, k.seq = .nHandler ∧ q = .nExit ∨ k.seq = .run ∧ q = (if wait then .wait else .run) →
      ∃ t, exec (.handlerExit l c wait) s = .next t ∧
        t.icu l = Icu.route (s.srcCfg l) { s.icu l with cores := modAt (s.icu l).cores c fun x => { x with seq := q } } ∧
        (∀ m, m ≠ l → t.icu m = s.icu m) ∧ OnlyIn [.icus] s t) ∧
    (k.seq = .nExit → k.sigN = 0 → ∃ t, exec (.handlerExit l c wait) s = .next t ∧
      t.icu l = Icu.route (s.srcCfg l) { s.icu l with cores := modAt (s.icu l).cores c fun x => { x with seq := if wait then .wait else .run, prioN := 0 } } ∧
      (∀ m, m ≠ l → t.icu m = s.icu m) ∧ OnlyIn [.icus] s t) ∧
    (k.seq = .nExit → k.sigN ≠ 0 → ∃ t, exec (.handlerExit l c wait) s = .next t ∧
      t.icu l = { s.icu l with cores := modAt (s.icu l).cores c fun x => { x with seq := .nHandler, prioN := BitVec.ofNat 8 (fld (s.srcCfg l k.sigN) 16 8) } } ∧
      t.reg (laneKey l Off.ICU_TAILCHAIN_CNT) = s.reg (laneKey l Off.ICU_TAILCHAIN_CNT) + 1 ∧ (∀ m, m ≠ l → t.icu m = s.icu m) ∧
      RegsOnly [Off.ICU_TAILCHAIN_CNT] s t ∧ OnlyIn [.regs, .icus] s t))

/-! ### Memories of a lane -/

/-- Errors of a lane's memories (R421 to R424, Table 13.7): ECC_CORRECTED, CE_RATE_WINDOW_END and ECC_UNCORRECTABLE. Accesses to the memories (R419, R420,
R429, R431, R432, R434, R436): ALIAS_SET, ALIAS_CLEAR, SECURE_ACCESS, MAP_ERROR, MRAM_WINDOW_WRITE, TAMPER and LANE_POWER_RESTORE. Whether a wipe
succeeds is a free value (log 23). -/
def Obligations.LaneMemories : Prop :=
  (∀ (s : State) (l : Lane) (dram : Bool) (addr key lim cnt : Nat) (info : Word), RegsWf s → s.memOn l = true → key = 2 * (addr / 8) + b2n dram →
    s.time.tb2.ns < (s.mem l).ceStart + ceWindow → cnt = (s.mem l).ceCount + 1 → lim = fld (s.reg (laneKey l Off.SPM_ECC_CFG)) 0 16 →
    ∃ t, exec (.eccCorrected l dram addr info) s = .next t ∧
      (∀ o, o = (if dram then Off.SPM_DRAM_CE_CNT else Off.SPM_SPM_CE_CNT) → t.reg (laneKey l o) = s.reg (laneKey l o) + 1) ∧
      (dram = true → t.reg (laneKey l Off.SPM_DRAM_ERR_LO) = BitVec.ofNat 32 addr ∧
        t.reg (laneKey l Off.SPM_DRAM_ERR_HI) = BitVec.ofNat 32 (addr / 4294967296 % 256) ∧
        t.reg (laneKey l Off.SPM_DRAM_ERR_INFO) = (if fld info 1 3 = 0 then info &&& 0xFFF0#32 else info &&& 0xFFE#32 ||| 0xF000#32) ||| (if key ∈ (s.mem l).scrubOld then 0x10000#32 else 0#32)) ∧
      (t.mem l).persistent = ((s.mem l).persistent || (s.mem l).scrubOld.contains key) ∧ (t.mem l).ceCount = cnt ∧
      (t.mem l).ceRate = ((s.mem l).ceRate || decide (lim ≠ 0 ∧ lim ≤ cnt)) ∧
      (∀ x, x ∈ (t.mem l).scrubNow ↔ x ∈ (s.mem l).scrubNow ∨ x = key ∧ fromScrub info = true) ∧
      Irq.MEM_CE ∈ (t.icu l).pend ∧
      (lim ≠ 0 → lim ≤ cnt → (s.mem l).ceRate = false → Irq.MEM_CE_RATE ∈ (t.icu l).pend ∧
        ((s.mem l).ceRecorded = false → Recorded 0x0301 [iU8 1 l.idx, iU8 2 0, iU32 3 cnt] s t)) ∧
      (lim = 0 ∨ cnt < lim ∨ (s.mem l).ceRate = true ∨ (s.mem l).ceRecorded = true → t.erec = s.erec ∧ t.isl = s.isl) ∧
      SameBytes l s t ∧ (∀ m, m ≠ l → t.mem m = s.mem m) ∧ t.vot = s.vot ∧
      RegsOnly [Off.SPM_DRAM_CE_CNT, Off.SPM_SPM_CE_CNT, Off.SPM_DRAM_ERR_LO, Off.SPM_DRAM_ERR_HI, Off.SPM_DRAM_ERR_INFO, Off.SPM_SPM_ERR_ADDR, Off.SPM_SPM_ERR_INFO, Off.REC_LOST_CNT] s t ∧
      OnlyIn (.mems :: recParts) s t) ∧
  (∀ (s : State) (l : Lane), s.memOn l = true →
    ∃ t, exec (.ceRateWindowEnd l) s = .next t ∧ t.mem l = { s.mem l with ceStart := (s.mem l).ceStart + ceWindow, ceCount := 0, ceRate := false } ∧
      (∀ m, m ≠ l → t.mem m = s.mem m) ∧ s.now ≤ t.now ∧ OnlyIn [.now, .isl, .nv, .time, .mems] s t) ∧
  (∀ (s : State) (l : Lane) (dram : Bool) (addr : Nat) (info : Word), RegsWf s → s.memOn l = true →
    (s.inVote l = true → s.lanesIn.length = 3 →
      ∃ t, exec (.eccUncorrectable l dram addr info) s = .next t ∧ LeftVote l .self s t ∧
        (∀ o, o = (if dram then Off.SPM_DRAM_UE_CNT else Off.SPM_SPM_UE_CNT) → t.reg (laneKey l o) = s.reg (laneKey l o) + 1) ∧
        InQueue 0x0301 [iU8 1 l.idx, iU8 2 1, iU64 3 addr] s t ∧ OnlyIn exclParts s t) ∧
    (s.inVote l = true → s.lanesIn.length < 3 →
      ∃ t, exec (.eccUncorrectable l dram addr info) s = .next t ∧ FellSilent s t ∧ OnlyIn silentParts s t) ∧
    (s.inVote l = false →
      ∃ t, exec (.eccUncorrectable l dram addr info) s = .next t ∧ Irq.MEM_UE ∈ (t.icu l).pend ∧ t.mems = s.mems ∧
        t.vot = (if fld info 1 3 = 0 then s.vot.told l (fld info 12 4) 0 true else s.vot) ∧
        (∀ o, o = (if dram then Off.SPM_DRAM_UE_CNT else Off.SPM_SPM_UE_CNT) → t.reg (laneKey l o) = s.reg (laneKey l o) + 1) ∧
        Recorded 0x0301 [iU8 1 l.idx, iU8 2 1, iU64 3 addr] s t ∧
        RegsOnly [Off.SPM_DRAM_UE_CNT, Off.SPM_SPM_UE_CNT, Off.SPM_DRAM_ERR_LO, Off.SPM_DRAM_ERR_HI, Off.SPM_DRAM_ERR_INFO, Off.SPM_SPM_ERR_ADDR, Off.SPM_SPM_ERR_INFO, Off.REC_LOST_CNT] s t ∧
        OnlyIn (.vot :: recParts) s t)) ∧
  (∀ (s : State) (l : Lane) (core addr width x : Nat) (mask : DWord) (old m : BitVec 64), MemsWf s → s.laneRuns l = true → s.memOn l = true →
    old = BitVec.ofNat 64 (leNat (rdBytes (s.mem l).spad x width)) → m = BitVec.ofNat 64 (mask.toNat % 2 ^ (8 * width)) →
    (∀ (c : Instr) (new : BitVec 64),
      (c = .aliasSet l core addr width mask ∧ aliasOff 0x1001000000 addr width = some x ∧ new = old ||| m ∨
       c = .aliasClear l core addr width mask ∧ aliasOff 0x1002000000 addr width = some x ∧ new = old &&& ~~~m) →
      ∃ t, exec c s = .next t ∧ BitVec.ofNat 64 (leNat (rdBytes (t.mem l).spad x width)) = new ∧
        (∀ a, a < x ∨ x + width ≤ a → rdByte (t.mem l).spad a = rdByte (s.mem l).spad a) ∧ t.mem l = { s.mem l with spad := (t.mem l).spad } ∧
        (∀ k, k ≠ l → t.mem k = s.mem k) ∧ OnlyIn [.mems] s t)) ∧
  (∀ (s : State) (l : Lane) (core addr width o : Nat) (mask : DWord) (v : Word) (w : Bool) (c : Instr), RegsWf s → s.laneRuns l = true →
    (c = .aliasSet l core addr width mask ∧ s.memOn l = true ∧ aliasOff 0x1001000000 addr width = none ∧ o = Off.SPM_ALIAS_ERR_CNT ∨
     c = .aliasClear l core addr width mask ∧ s.memOn l = true ∧ aliasOff 0x1002000000 addr width = none ∧ o = Off.SPM_ALIAS_ERR_CNT ∨
     c = .secureAccess l core addr ∧ 0x10003F0000 ≤ addr ∧ addr ≤ 0x10003FFFFF ∧ o = Off.SPM_SECURE_DENY_CNT ∨
     c = .mapError l core addr w ∧ mapped addr = false ∧ o = Off.SPM_MAP_ERR_CNT ∨
     c = .mramWindowWrite l core addr v ∧ 0x4000000000 ≤ addr ∧ addr ≤ 0x400FFFFFFF ∧ o = Off.SPM_MRAM_WRITE_REJECTS) →
    ∃ t, exec c s = .next t ∧ t.reg (laneKey l o) = s.reg (laneKey l o) + 1 ∧ t.vot = s.vot.told l core 0 true ∧
      (∀ m, m ≠ l → t.reg (laneKey m o) = s.reg (laneKey m o)) ∧ RegsOnly [o] s t ∧ OnlyIn [.regs, .vot] s t) ∧
  (∀ (s : State) (e : Nat), s.up = true →
    ∃ t, exec (.tamper e) s = .next t ∧ t.nv.tamper = true ∧
      (s.sys.mode.code ≠ 2 → HeldWith .tamper s t) ∧
      (s.sys.mode.code = 2 → t.sys.mode = s.sys.mode ∧ t.sys.found = s.sys.found ||| Reason.tamper.mask) ∧
      (∀ l, (s.mem l).powerOff = false → (s.mem l).domainOpen = false →
        ((t.mem l).secure = .wiped ∧ (t.mem l).wipeCause = 1 ∧ (t.mem l).wipeSeq = (s.mem l).wipeSeq + 1 ∧ (t.mem l).wipeTime ≤ 2000 ∨
          (t.mem l).powerOff = true ∧ t.inVote l = false ∨ t.sys.failSilent = true) ∧
        (∀ a, 0x3F0000 ≤ a → a < 0x400000 → rdByte (t.mem l).spad a = 0)) ∧ OnlyIn exclParts s t) ∧
  (∀ (s : State) (l : Lane), s.hubOn = true → (s.mem l).powerOff = true →
    ∃ t, exec (.lanePowerRestore l) s = .next t ∧ t.now = max s.now ((s.mem l).offAt + 100000000) ∧
      t.mem l = { s.mem l with powerOff := false, offAt := 0 } ∧ (∀ m, m ≠ l → t.mem m = s.mem m) ∧ OnlyIn [.now, .time, .nv, .isl, .mems] s t)

/-! ### Culvert and DMA -/

/-- Writes of the window and their answers (R35, R441 to R447): BRIDGE_WRITE, NP_WRITE, WR_ACK, WR_ERROR and ACK_TIMEOUT. Data found corrupted in the
Culvert ends in fail-silent. -/
def Obligations.CulvertWrites : Prop :=
  (∀ (s : State) (stream addr l r : Nat) (lanes : BitVec 3) (data : List Byte) (c : Instr) (w : Posted), RegsWf s →
    c = .bridgeWrite stream lanes addr data false ∨ c = .npWrite stream lanes addr data → s.up = true → windowOf addr = some (l, r) → data.length ≤ 4096 →
    (s.culvert l).posted.length < 2048 → w = ⟨(s.culvert l).nextTag, r, stream, lanes, none, s.npWindow l r, s.now, data, none⟩ →
    (¬ (l = 1 ∧ bit s.brg.cfg 4 = true ∧ s.fenced = true) → (s.culvert l).state = .up →
      ∃ t, exec c s = .next t ∧ (t.culvert l).posted = (s.culvert l).posted ++ [w] ∧ (t.culvert l).nextTag = ((s.culvert l).nextTag + 1) % 4096 ∧
        (t.culvert l).failedTags = (s.culvert l).failedTags.filter (fun g => g != w.tag) ∧
        (t.culvert l).txSeq = ((s.culvert l).txSeq + 1) % 65536 ∧
        t.out = s.out ++ [.packet l (s.nextPacket l (if w.np then 2 else 1) w.tag r data.length data)] ∧
        (t.culvert l).unacked = (s.culvert l).unacked ++ [⟨s.nextPacket l (if w.np then 2 else 1) w.tag r data.length data, 0, s.now⟩] ∧
        (t.culvert l).reads = (s.culvert l).reads ∧ (∀ m, m ≠ l → t.culvert m = s.culvert m) ∧ OnlyIn [.out, .brg] s t) ∧
    (∀ code : Nat, (if l = 1 ∧ bit s.brg.cfg 4 = true ∧ s.fenced = true then code = 4 else (s.culvert l).state ≠ .up ∧ code = 6) →
      ∃ t, exec c s = .next t ∧ WriteFailed l w code s t ∧
        t.culvert l = { s.culvert l with nextTag := ((s.culvert l).nextTag + 1) % 4096, failedTags := w.tag :: (s.culvert l).failedTags.filter (fun g => g != w.tag) } ∧
        (∀ m, m ≠ l → t.culvert m = s.culvert m) ∧ RegsOnly [Off.BRG_WRITE_FAILS, Off.BRG_FAIL_LOST, Off.REC_LOST_CNT] s t ∧
        OnlyIn (.vot :: .brg :: recParts) s t)) ∧
  (∀ (s : State) (stream addr : Nat) (lanes : BitVec 3) (data : List Byte), s.up = true →
    ∃ t, exec (.bridgeWrite stream lanes addr data true) s = .next t ∧ FellSilent s t ∧ t.sys.hubFault = true ∧ OnlyIn silentParts s t) ∧
  (∀ (s : State) (l : Nat) (p : Packet), RegsWf s → s.packetOk l p = true → p.type = 6 → s.nothingWaits →
    (∀ w, p.tag ∉ (s.culvert l).failedTags → (s.culvert l).posted.find? (fun x => x.np && x.tag == p.tag) = some w →
      ∃ t, exec (.wrAck l p) s = .next t ∧ (t.culvert l).posted = (s.culvert l).posted.erase w ∧
        t.brg.answers = s.brg.answers ++ (if w.dma = none then [⟨w.stream, false, []⟩] else []) ∧
        t.vot = (if w.dma = none then s.vot.returned w.stream false [] else s.vot) ∧ t.out = s.out ++ s.ackMsgs l p ∧
        (t.culvert l).rxSeq = ((s.culvert l).rxSeq + 1) % 65536 ∧ (∀ m, m ≠ l → t.culvert m = s.culvert m) ∧ OnlyIn [.out, .vot, .brg] s t) ∧
    (p.tag ∉ (s.culvert l).failedTags → (s.culvert l).posted.find? (fun x => x.np && x.tag == p.tag) = none →
      ∃ t, exec (.wrAck l p) s = .next t ∧ (t.culvert l).posted = (s.culvert l).posted.filter (fun w => w.np || !tagUpTo p.tag w.tag) ∧
        t.brg.answers = s.brg.answers ∧ t.out = s.out ++ s.ackMsgs l p ∧ (∀ m, m ≠ l → t.culvert m = s.culvert m) ∧ OnlyIn [.out, .brg] s t) ∧
    (p.tag ∈ (s.culvert l).failedTags →
      ∃ t, exec (.wrAck l p) s = .next t ∧ (t.culvert l).posted = (s.culvert l).posted ∧
        t.reg Off.BRG_LATE_ANSWERS = s.reg Off.BRG_LATE_ANSWERS + 1 ∧ t.out = s.out ++ s.ackMsgs l p ∧
        RegsOnly [Off.BRG_LATE_ANSWERS] s t ∧ OnlyIn [.regs, .out, .brg] s t)) ∧
  (∀ (s : State) (l : Nat) (p : Packet), RegsWf s → s.packetOk l p = true → p.type = 7 → s.nothingWaits →
    (∀ w, p.tag ∉ (s.culvert l).failedTags → (s.culvert l).posted.find? (fun x => x.tag == p.tag) = some w →
      ∃ t, exec (.wrError l p) s = .next t ∧ WriteFailed l w p.code s t ∧ (t.culvert l).posted = (s.culvert l).posted.erase w ∧
        t.out = s.out ++ s.ackMsgs l p ∧ (∀ m, m ≠ l → t.culvert m = s.culvert m) ∧
        RegsOnly [Off.BRG_WRITE_FAILS, Off.BRG_FAIL_LOST, Off.DMA_ERRORS, Off.REC_LOST_CNT] s t ∧ OnlyIn (.out :: .vot :: .brg :: .dmas :: recParts) s t) ∧
    (p.tag ∈ (s.culvert l).failedTags →
      ∃ t, exec (.wrError l p) s = .next t ∧ t.reg Off.BRG_LATE_ANSWERS = s.reg Off.BRG_LATE_ANSWERS + 1 ∧ t.brg.fifo = s.brg.fifo ∧
        (t.culvert l).posted = (s.culvert l).posted ∧
        t.out = s.out ++ s.ackMsgs l p ∧ (∀ m, m ≠ l → t.culvert m = s.culvert m) ∧ RegsOnly [Off.BRG_LATE_ANSWERS] s t ∧ OnlyIn [.regs, .out, .brg] s t)) ∧
  (∀ (s : State) (l tag : Nat), RegsWf s → s.up = true → s.nothingWaits →
    (∀ w, l < 2 → (s.culvert l).posted.find? (fun x => x.tag == tag) = some w →
      ∃ t, exec (.ackTimeout l tag) s = .next t ∧ t.now = max s.now (w.at_ + s.ackLimit) ∧ WriteFailed l w 5 (advanceTo (w.at_ + s.ackLimit) s) t ∧
        t.culvert l = { s.culvert l with posted := (s.culvert l).posted.erase w, failedTags := w.tag :: (s.culvert l).failedTags } ∧
        (∀ m, m ≠ l → t.culvert m = s.culvert m) ∧
        RegsOnly [Off.BRG_WRITE_FAILS, Off.BRG_FAIL_LOST, Off.DMA_ERRORS, Off.REC_LOST_CNT] s t ∧
        OnlyIn (.now :: .time :: .nv :: .vot :: .brg :: .dmas :: recParts) s t) ∧
    ((s.culvert l).posted.find? (fun x => x.tag == tag) = none → exec (.ackTimeout l tag) s = .next s))

/-- Links, fence and failure FIFO (R437, R440, R442, R445, R446, R577): LINK_ACK, LINK_RESEND, LINK_STATE_CHANGE, STREAM_ENTRY, BRG_FENCE_READ and
BRG_FAIL_HEAD_READ. -/
def Obligations.CulvertLinks : Prop :=
  (∀ (s : State) (l : Nat) (p : Packet), s.up = true → l < 2 → p.type = 10 → p.crc = packetCrc p →
    ∃ t, exec (.linkAck l p) s = .next t ∧ t.culvert l = { s.culvert l with unacked := (s.culvert l).unacked.filter fun u => decide (32768 ≤ (p.seq + 65536 - u.packet.seq) % 65536) } ∧
      (∀ m, m ≠ l → t.culvert m = s.culvert m) ∧ OnlyIn [.brg] s t) ∧
  (∀ (s : State) (l seq : Nat) (u : Unacked), RegsWf s → s.up = true → l < 2 → s.nothingWaits →
    (s.culvert l).unacked.find? (fun x => x.packet.seq == seq) = some u →
    (u.tries < 3 → ∃ t, exec (.linkResend l seq) s = .next t ∧ t.now = max s.now (u.at_ + 20000) ∧ t.out = s.out ++ [.packet l u.packet] ∧
      t.culvert l = { s.culvert l with unacked := (s.culvert l).unacked.map fun x => if x = u then { x with tries := x.tries + 1, at_ := t.now } else x } ∧
      (∀ m, m ≠ l → t.culvert m = s.culvert m) ∧ t.reg Off.BRG_RESENDS = s.reg Off.BRG_RESENDS + 1 ∧
      RegsOnly [Off.BRG_RESENDS] s t ∧ OnlyIn [.now, .time, .nv, .isl, .regs, .out, .brg] s t) ∧
    (3 ≤ u.tries → (s.culvert l).state ≠ .down → ∃ t, exec (.linkResend l seq) s = .next t ∧ LinkLost l .down (advanceTo (u.at_ + 20000) s) t)) ∧
  (∀ (s : State) (l n : Nat) (full : Bool) (v : LinkState), RegsWf s → s.up = true → l < 2 → n < 4 → s.nothingWaits →
    v = (if bit s.brg.cfg l = false then .off else if n = 3 ∧ full = false then .down else linkCode n) →
    ((s.culvert l).state = v → exec (.linkStateChange l n full) s = .next s) ∧
    ((s.culvert l).state ≠ v → v = .down ∨ v = .off → ∃ t, exec (.linkStateChange l n full) s = .next t ∧ LinkLost l v s t) ∧
    ((s.culvert l).state ≠ v → v = .training ∨ v = .up → ∃ t, exec (.linkStateChange l n full) s = .next t ∧ t.culvert l = { s.culvert l with state := v } ∧
      (∀ m, m ≠ l → t.culvert m = s.culvert m) ∧ Raised Irq.BRG_LINK_CHG t ∧ OnlyIn [.icus, .brg] s t)) ∧
  (∀ (s : State), RegsWf s → s.up = true → bit s.brg.cfg 0 = true → s.chk.presentN = true → s.brg.link0.state ≠ .stream → s.nothingWaits →
    ∃ t, exec .streamEntry s = .next t ∧ LinkLost 0 .stream s t) ∧
  (∀ (s : State) (stream n : Nat) (v : Word), s.up = true → n = (look s.brg.failed stream).getD 0 → v = mkWord [(0, b2n (n != 0)), (8, min 255 n)] →
    ((∀ w ∈ s.brg.link0.posted ++ s.brg.link1.posted, w.stream ≠ stream ∨ w.dma ≠ none) →
      ∃ t, exec (.brgFenceRead stream) s = .next t ∧ t.vot = s.vot.answered (stream / 8) v false ∧
        t.brg = { s.brg with fence := v, failed := del s.brg.failed stream, answers := s.brg.answers ++ [⟨stream, false, leBytes 4 v.toNat⟩] } ∧
        OnlyIn [.vot, .brg] s t) ∧
    ((∃ w ∈ s.brg.link0.posted ++ s.brg.link1.posted, w.stream = stream ∧ w.dma = none) → exec (.brgFenceRead stream) s = .next s)) ∧
  (∀ (s : State) (core : Nat), s.up = true →
    (s.brg.fifo = [] → ∃ t, exec (.brgFailHeadRead core) s = .next t ∧ t.vot = s.vot.answered core 0 false ∧
      t.latched none core Off.BRG_FAIL_ADDR_LO = some 0 ∧ t.latched none core Off.BRG_FAIL_ADDR_HI = some 0 ∧ OnlyIn [.latches, .vot] s t) ∧
    (∀ e rest, s.brg.fifo = e :: rest → ∃ t, exec (.brgFailHeadRead core) s = .next t ∧ t.vot = s.vot.answered core e.head false ∧
      t.brg = { s.brg with fifo := rest } ∧ t.latched none core Off.BRG_FAIL_ADDR_LO = some (BitVec.ofNat 32 e.addr) ∧
      t.latched none core Off.BRG_FAIL_ADDR_HI = some (BitVec.ofNat 32 (e.addr / 4294967296 % 2)) ∧ OnlyIn [.latches, .vot, .brg] s t))

/-- Outbound reads (R438, R448, R451): BRIDGE_READ, RETRY, RD_REQ_REPEAT, RD_DATA and UNSUPPORTED; a write that had RETRY is repeated as well, and
UNSUPPORTED fails it. Inbound requests (R439, R449 to R451): INBOUND_RD_REQ, FETCH_COMPLETE, FETCH_HOLD_EXPIRY and INBOUND_WRITE. -/
def Obligations.CulvertRequests : Prop :=
  (∀ (s : State) (stream addr len l r : Nat), s.up = true → windowOf addr = some (l, r) →
    ((s.culvert l).state = .up → ∃ t, exec (.bridgeRead stream addr len) s = .next t ∧
      (t.culvert l).reads = (s.culvert l).reads ++ [⟨(s.culvert l).nextTag, r, len, stream, 0, false, s.now, none⟩] ∧
      (t.culvert l).nextTag = ((s.culvert l).nextTag + 1) % 4096 ∧ t.out = s.out ++ [.packet l (s.nextPacket l 3 (s.culvert l).nextTag r len [])] ∧
      (t.culvert l).posted = (s.culvert l).posted ∧ (∀ m, m ≠ l → t.culvert m = s.culvert m) ∧ OnlyIn [.out, .brg] s t) ∧
    ((s.culvert l).state ≠ .up → ∃ t, exec (.bridgeRead stream addr len) s = .next t ∧
      t.brg = { s.brg with answers := s.brg.answers ++ [⟨stream, true, []⟩] } ∧ t.vot = s.vot.returned stream true [] ∧ OnlyIn [.vot, .brg] s t)) ∧
  (∀ (s : State) (l : Nat) (p : Packet) (r : Reading) (lim : Nat), RegsWf s → s.packetOk l p = true →
    (s.culvert l).reads.find? (fun x => x.tag == p.tag) = some r → r.dma = none → lim = max 1 (fld (s.reg Off.BRG_CFG) 0 8) →
    (p.type = 5 → r.retries + 1 < lim → ∃ t, exec (.retry l p) s = .next t ∧
      (t.culvert l).reads = ((s.culvert l).reads.map fun x => if x = r then { x with retries := x.retries + 1, answered := true, at_ := s.now } else x) ∧
      t.brg.answers = s.brg.answers ∧ t.out = s.out ++ s.ackMsgs l p ∧ (∀ m, m ≠ l → t.culvert m = s.culvert m) ∧ OnlyIn [.out, .brg] s t) ∧
    (p.type = 5 → lim ≤ r.retries + 1 → ∃ t, exec (.retry l p) s = .next t ∧ (t.culvert l).reads = (s.culvert l).reads.erase r ∧
      t.brg.answers = s.brg.answers ++ [⟨r.stream, true, []⟩] ∧ t.vot = s.vot.returned r.stream true [] ∧
      t.reg Off.BRG_READ_EXHAUSTED_CNT = s.reg Off.BRG_READ_EXHAUSTED_CNT + 1 ∧
      Raised Irq.BRG_READ_EXHAUSTED t ∧ Recorded 0x0C02 [iU64 1 r.addr, iU8 2 l, iU16 3 r.tag, iU8 4 r.stream] s t ∧
      t.out = s.out ++ s.ackMsgs l p ∧ (∀ m, m ≠ l → t.culvert m = s.culvert m) ∧
      RegsOnly [Off.BRG_READ_EXHAUSTED_CNT, Off.REC_LOST_CNT] s t ∧ OnlyIn (.out :: .vot :: .brg :: recParts) s t) ∧
    (p.type = 9 → ∃ t, exec (.unsupported l p) s = .next t ∧
      (t.culvert l).reads = (s.culvert l).reads.erase r ∧ t.out = s.out ++ s.ackMsgs l p ∧
      t.brg.answers = s.brg.answers ++ [⟨r.stream, true, []⟩] ∧ t.vot = s.vot.returned r.stream true [] ∧
      (∀ m, m ≠ l → t.culvert m = s.culvert m) ∧ OnlyIn [.out, .vot, .brg] s t)) ∧
  (∀ (s : State) (l : Nat) (p : Packet) (r : Reading), s.packetOk l p = true → p.type = 4 →
    (s.culvert l).reads.find? (fun x => x.tag == p.tag && x.len == p.payload.length) = some r → r.dma = none →
    ∃ t, exec (.rdData l p false) s = .next t ∧ (t.culvert l).reads = (s.culvert l).reads.erase r ∧ t.out = s.out ++ s.ackMsgs l p ∧
      t.brg.answers = s.brg.answers ++ [⟨r.stream, false, p.payload⟩] ∧ t.vot = s.vot.returned r.stream false p.payload ∧
      (∀ m, m ≠ l → t.culvert m = s.culvert m) ∧ OnlyIn [.out, .vot, .brg] s t) ∧
  (∀ (s : State) (l : Nat) (p : Packet), s.packetOk l p = true → p.type = 4 →
    ∃ t, exec (.rdData l p true) s = .next t ∧ FellSilent s t ∧ t.sys.hubFault = true ∧ OnlyIn (.brg :: silentParts) s t) ∧
  (∀ (s : State) (l : Nat) (p : Packet), RegsWf s → s.packetOk l p = true → (s.culvert l).reads.find? (fun x => x.tag == p.tag) = none →
    (p.type = 5 → ∃ t, exec (.retry l p) s = .next t ∧
      (t.culvert l).posted = ((s.culvert l).posted.map fun w => if w.tag = p.tag then { w with retryAt := some s.now } else w) ∧
      t.out = s.out ++ s.ackMsgs l p ∧ (∀ m, m ≠ l → t.culvert m = s.culvert m) ∧ OnlyIn [.out, .brg] s t) ∧
    (∀ w, p.type = 9 → p.tag ∉ (s.culvert l).failedTags → (s.culvert l).posted.find? (fun x => x.tag == p.tag) = some w →
      ∃ t, exec (.unsupported l p) s = .next t ∧ WriteFailed l w 1 s t ∧ (t.culvert l).posted = (s.culvert l).posted.erase w ∧
        t.out = s.out ++ s.ackMsgs l p ∧ (∀ m, m ≠ l → t.culvert m = s.culvert m) ∧ OnlyIn (.out :: .vot :: .brg :: .dmas :: recParts) s t)) ∧
  (∀ (s : State) (l tag gap : Nat) (r : Reading), RegsWf s → s.up = true → (s.culvert l).state = .up →
    (s.culvert l).reads.find? (fun x => x.tag == tag) = some r →
    gap = 1000 * max 1 (fld (s.reg Off.BRG_CFG) 8 4) →
    (r.answered = true → ∃ t, exec (.rdReqRepeat l tag) s = .next t ∧ t.now = max s.now (r.at_ + gap) ∧
      (t.culvert l).reads = ((s.culvert l).reads.map fun x => if x = r then { x with answered := false, at_ := t.now } else x) ∧
      t.out = s.out ++ [.packet l (s.nextPacket l 3 r.tag r.addr r.len [])] ∧ (∀ m, m ≠ l → t.culvert m = s.culvert m) ∧
      OnlyIn [.now, .out, .isl, .nv, .time, .brg] s t) ∧
    (r.answered = false → r.dma = none → ∃ t, exec (.rdReqRepeat l tag) s = .next t ∧ t.now = max s.now (r.at_ + s.ackLimit) ∧
      (t.culvert l).reads = (s.culvert l).reads.erase r ∧
      t.brg.answers = s.brg.answers ++ [⟨r.stream, true, []⟩] ∧ t.vot = s.vot.returned r.stream true [] ∧
      t.reg Off.BRG_READ_EXHAUSTED_CNT = s.reg Off.BRG_READ_EXHAUSTED_CNT + 1 ∧
      Raised Irq.BRG_READ_EXHAUSTED t ∧ InQueue 0x0C02 [iU64 1 r.addr, iU8 2 l, iU16 3 r.tag, iU8 4 r.stream] s t ∧
      (∀ m, m ≠ l → t.culvert m = s.culvert m) ∧ RegsOnly [Off.BRG_READ_EXHAUSTED_CNT, Off.REC_LOST_CNT] s t ∧
      OnlyIn (.now :: .time :: .nv :: .vot :: .brg :: recParts) s t)) ∧
  (∀ (s : State) (l tag at_ : Nat) (w : Posted), s.up = true → (s.culvert l).state = .up →
    (s.culvert l).reads.find? (fun x => x.tag == tag) = none →
    (s.culvert l).posted.find? (fun x => x.tag == tag && x.retryAt.isSome) = some w → w.retryAt = some at_ →
    ∃ t, exec (.rdReqRepeat l tag) s = .next t ∧ t.now = max s.now (at_ + s.retryGap) ∧
      (t.culvert l).posted = ((s.culvert l).posted.map fun x => if x = w then { x with retryAt := none } else x) ∧
      t.out = s.out ++ [.packet l (s.nextPacket l (if w.np then 2 else 1) w.tag w.addr w.data.length w.data)] ∧
      (∀ m, m ≠ l → t.culvert m = s.culvert m) ∧ OnlyIn [.now, .out, .isl, .nv, .time, .brg] s t) ∧
  (∀ (s : State) (l : Nat) (p : Packet), RegsWf s → s.packetOk l p = true → p.type = 3 →
    (32768 < p.addr + p.length → ∃ t, exec (.inboundRdReq l p) s = .next t ∧
      t.out = s.out ++ s.ackMsgs l p ++ [.packet l (s.nextPacket l 9 p.tag p.addr 0 [])] ∧ (t.culvert l).fetches = (s.culvert l).fetches ∧
      (∀ m, m ≠ l → t.culvert m = s.culvert m) ∧ OnlyIn [.out, .brg] s t) ∧
    (∀ (f : Fetch) (d : List Byte), p.addr + p.length ≤ 32768 →
      (s.culvert l).fetches.find? (fun x => x.addr == p.addr && x.len == p.length) = some f → f.data = some d →
      ∃ t, exec (.inboundRdReq l p) s = .next t ∧ t.out = s.out ++ s.ackMsgs l p ++ [.packet l (s.nextPacket l 4 p.tag p.addr d.length d)] ∧
        (t.culvert l).fetches = (s.culvert l).fetches ∧ (∀ m, m ≠ l → t.culvert m = s.culvert m) ∧ OnlyIn [.out, .brg] s t) ∧
    (p.addr + p.length ≤ 32768 → (s.culvert l).fetches.find? (fun x => x.addr == p.addr && x.len == p.length) = none →
      ∃ t, exec (.inboundRdReq l p) s = .next t ∧ t.out = s.out ++ s.ackMsgs l p ++ [.packet l (s.nextPacket l 5 p.tag p.addr 0 [])] ∧
        t.reg Off.BRG_RETRIES_SENT = s.reg Off.BRG_RETRIES_SENT + 1 ∧
        ((s.culvert l).fetches.length < 8 → (t.culvert l).fetches = (s.culvert l).fetches ++ [⟨p.addr, p.length, none, 0⟩] ∧ RegsOnly [Off.BRG_RETRIES_SENT] s t) ∧
        (8 ≤ (s.culvert l).fetches.length → (t.culvert l).fetches = (s.culvert l).fetches ∧ t.reg Off.BRG_SLOTS_FULL = s.reg Off.BRG_SLOTS_FULL + 1) ∧
        (∀ m, m ≠ l → t.culvert m = s.culvert m) ∧ RegsOnly [Off.BRG_RETRIES_SENT, Off.BRG_SLOTS_FULL] s t ∧ OnlyIn [.regs, .out, .brg] s t)) ∧
  (∀ (s : State) (l addr len : Nat), RegsWf s → s.up = true → l < 2 →
    (∃ t, exec (.fetchComplete l addr len) s = .next t ∧ t.culvert l = { s.culvert l with fetches := (s.culvert l).fetches.map fun f => if f.addr = addr ∧ f.len = len ∧ f.data = none then { f with data := some (s.xread addr len), at_ := s.now } else f } ∧
      (∀ m, m ≠ l → t.culvert m = s.culvert m) ∧ OnlyIn [.brg] s t) ∧
    (∀ f, (s.culvert l).fetches.find? (fun x => x.addr == addr && x.len == len && x.data.isSome) = some f →
      ∃ t, exec (.fetchHoldExpiry l addr len) s = .next t ∧ t.now = max s.now (f.at_ + 64000) ∧ t.culvert l = { s.culvert l with fetches := (s.culvert l).fetches.erase f } ∧
        (∀ m, m ≠ l → t.culvert m = s.culvert m) ∧ t.reg Off.BRG_HOLD_EXPIRED = s.reg Off.BRG_HOLD_EXPIRED + 1 ∧
        RegsOnly [Off.BRG_HOLD_EXPIRED] s t ∧ OnlyIn [.now, .time, .nv, .isl, .regs, .brg] s t)) ∧
  (∀ (s : State) (l : Nat) (p : Packet), RegsWf s → s.packetOk l p = true → p.type = 1 ∨ p.type = 2 →
    (p.addr + p.length ≤ 32768 → (s.culvert l).inbound < 32 →
      ∃ t, exec (.inboundWrite l p) s = .next t ∧ t.xread p.addr p.length = p.payload ∧
        (∀ a, a < p.addr ∨ p.addr + p.length ≤ a → t.xbyte a = s.xbyte a) ∧ (t.culvert l).inbound = (s.culvert l).inbound + 1 ∧
        (∀ m, (t.culvert m).fetches = (s.culvert m).fetches.filter fun f => decide (f.addr + f.len ≤ p.addr) || decide (p.addr + p.length ≤ f.addr)) ∧
        (∀ m, m ≠ l → (t.culvert m).inbound = (s.culvert m).inbound) ∧
        t.out = s.out ++ s.ackMsgs l p ++ [.packet l (s.nextPacket l 6 p.tag p.addr 0 [])] ∧ RegsOnly xareaRegs s t ∧ OnlyIn [.regs, .out, .brg] s t) ∧
    (p.addr + p.length ≤ 32768 → 32 ≤ (s.culvert l).inbound →
      ∃ t, exec (.inboundWrite l p) s = .next t ∧ (∀ a, t.xbyte a = s.xbyte a) ∧ t.reg Off.BRG_SLOTS_FULL = s.reg Off.BRG_SLOTS_FULL + 1 ∧
        t.out = s.out ++ s.ackMsgs l p ++ [.packet l (s.nextPacket l 5 p.tag p.addr 0 [])] ∧
        RegsOnly [Off.BRG_RETRIES_SENT, Off.BRG_SLOTS_FULL] s t ∧ OnlyIn [.regs, .out, .brg] s t) ∧
    (32768 < p.addr + p.length → ∃ t, exec (.inboundWrite l p) s = .next t ∧
      t.out = s.out ++ s.ackMsgs l p ++ [.packet l (s.nextPacket l 9 p.tag p.addr 0 [])] ∧ OnlyIn [.out, .brg] s t)) ∧
  (∀ (s : State) (p : Packet), s.packetOk 1 p = true → p.type = 8 → ∃ t, exec (.inboundWrite 1 p) s = .next t ∧
    t.out = s.out ++ s.ackMsgs 1 p ++ [.packet 1 (s.nextPacket 1 9 p.tag p.addr 0 [])] ∧ OnlyIn [.out, .brg] s t)

/-- DMA channels (R35, R452 to R455, Table 14.6): DMA_CMD_START, DMA_CMD_ABORT and DMA_DESCRIPTOR_DONE, with what an RD_DATA for a channel brings, the
bursts of a channel that writes to a link, and data found corrupted. What a NOR or NAND source yields is a free value (log 13). -/
def Obligations.DmaChannels : Prop :=
  (∀ (s : State) (c a : Nat), RegsWf s → s.up = true → 3 ≤ c → c < 16 → s.dmas.length = 16 → (s.dma c).state ≠ .running →
    a = (s.reg (Off.DMA_DESC_LO + 64 * c)).toNat + 4294967296 * (s.reg (Off.DMA_DESC_HI + 64 * c)).toNat →
    (∀ bs k, a % 8 = 0 → s.voteWords a 4 = some (bs, []) → descOk c bs = true → k = descField bs 0 1 % 8 →
      ∃ t, exec (.dmaCmdStart c 0x444D) s = .next t ∧ (∀ m, m ≠ c → t.dma m = s.dma m) ∧
        (k ≠ 1 → k ≠ 2 → t.dma c = { s.dma c with state := .running, error := 0, done := 0, cur := a, desc := bs, buf := [], crc := 0 } ∧ OnlyIn [.dmas] s t) ∧
        (k = 1 ∨ k = 2 → (s.culvert (k - 1)).state = .up →
          t.dma c = { s.dma c with state := .running, error := 0, done := 0, cur := a, desc := bs, buf := [], crc := 0 } ∧
          (t.culvert (k - 1)).reads = (s.culvert (k - 1)).reads ++ [⟨(s.culvert (k - 1)).nextTag, descField bs 8 8, min 4096 (descField bs 4 4), 0, 0, false, s.now, some c⟩] ∧
          t.out = s.out ++ [.packet (k - 1) (s.nextPacket (k - 1) 3 (s.culvert (k - 1)).nextTag (descField bs 8 8) (min 4096 (descField bs 4 4)) [])] ∧
          OnlyIn [.out, .brg, .dmas] s t) ∧
        (k = 1 ∨ k = 2 → (s.culvert (k - 1)).state ≠ .up → (t.dma c).state = .error ∧ (t.dma c).error = 4 ∧
          t.reg Off.DMA_ERRORS = s.reg Off.DMA_ERRORS + 1 ∧ Raised Irq.DMA_ERROR t ∧ RegsOnly [Off.DMA_ERRORS] s t ∧ OnlyIn [.regs, .icus, .dmas] s t)) ∧
    (∀ e : Nat, (a % 8 ≠ 0 ∨ ((s.voteWords a 4).any fun x => x.2.isEmpty && !descOk c x.1) = true) ∧ e = 1 ∨ a % 8 = 0 ∧ s.voteWords a 4 = none ∧ e = 2 →
      ∃ t, exec (.dmaCmdStart c 0x444D) s = .next t ∧ (t.dma c).state = .error ∧ (t.dma c).error = e ∧ (t.dma c).seq = (s.dma c).seq + 1 ∧
        (∀ k, k ≠ c → t.dma k = s.dma k) ∧ t.reg Off.DMA_ERRORS = s.reg Off.DMA_ERRORS + 1 ∧ Raised Irq.DMA_ERROR t ∧
        (e = 2 → Recorded 0x0204 [iU8 1 255, iU32 2 0xA0000, iU8 3 1] s t) ∧
        RegsOnly [Off.DMA_ERRORS, Off.REC_LOST_CNT] s t ∧ OnlyIn (.dmas :: recParts) s t)) ∧
  (∀ (s : State) (i : Instr) (c cause : Nat) (key : Half), RegsWf s → s.up = true → c < 16 → s.dmas.length = 16 →
    ((i = .dmaCmdStart c key ∨ i = .dmaCmdAbort c key) ∧ (key ≠ 0x444D ∧ cause = 3 ∨ key = 0x444D ∧ c < 3 ∧ cause = 2) ∨
     i = .dmaCmdStart c key ∧ key = 0x444D ∧ 3 ≤ c ∧ (s.dma c).state = .running ∧ cause = 1) →
    ∃ t, exec i s = .next t ∧ t.dma c = { s.dma c with cause := cause, seq := (s.dma c).seq + 1 } ∧ (∀ k, k ≠ c → t.dma k = s.dma k) ∧
      t.reg Off.DMA_CMD_REJECTS = s.reg Off.DMA_CMD_REJECTS + 1 ∧ Raised Irq.DMA_CMD_DONE t ∧
      RegsOnly [Off.DMA_CMD_REJECTS] s t ∧ OnlyIn [.regs, .icus, .dmas] s t) ∧
  (∀ (s : State) (c : Nat), s.up = true → 3 ≤ c → c < 16 → s.dmas.length = 16 →
    ((s.dma c).state = .running → ∃ t, exec (.dmaCmdAbort c 0x444D) s = .next t ∧ t.dma c = { s.dma c with state := .aborted, seq := (s.dma c).seq + 1 } ∧
      (∀ k, k ≠ c → t.dma k = s.dma k) ∧ OnlyIn [.dmas] s t) ∧
    ((s.dma c).state ≠ .running → exec (.dmaCmdAbort c 0x444D) s = .next s)) ∧
  (∀ (s : State) (c e moved n src dst da : Nat) (d : Dma) (bs : List Byte), RegsWf s → MemsWf s → s.up = true → 3 ≤ c → c < 16 → s.dmas.length = 16 →
    d = s.dma c → d.state = .running → src = descField d.desc 0 1 % 8 → src ≠ 1 → src ≠ 2 → dst = descField d.desc 0 1 / 16 % 8 →
    e = 0 ∨ e = 5 ∧ deviceKind src = true → n = min (descField d.desc 4 4 - d.done) (moved / 8 * 8) → da = descField d.desc 16 8 + d.done →
    s.dmaRead src (descField d.desc 8 8) d.done n = (bs, []) → bs.length = n →
    dst = 0 ∧ inDram da n = true ∧ (∀ l, (s.vot.lanes.get l).phase ≠ .stopcopy) ∨ dst = 7 ∧ da + n ≤ 32768 →
    (descField d.desc 0 2).testBit 15 = true → (descField d.desc 0 2).testBit 9 = false → d.done ≤ descField d.desc 4 4 →
    ∃ t, exec (.dmaDescriptorDone c e moved false) s = .next t ∧ (t.dma c).done = d.done + n ∧ (t.dma c).desc = d.desc ∧
      (t.dma c).crc = (if (descField d.desc 0 2).testBit 10 then crc32cFrom d.crc bs else d.crc) ∧ (∀ k, k ≠ c → t.dma k = s.dma k) ∧
      (e = 0 → d.done + n < descField d.desc 4 4 → (t.dma c).state = .running ∧ (t.dma c).seq = d.seq) ∧
      (e = 0 → d.done + n = descField d.desc 4 4 → (t.dma c).state = .done ∧ (t.dma c).seq = d.seq + 1 ∧ Raised (Irq.DMA_DONE + c) t) ∧
      (e = 5 → (t.dma c).state = .error ∧ (t.dma c).error = 5 ∧ (t.dma c).seq = d.seq + 1 ∧ t.reg Off.DMA_ERRORS = s.reg Off.DMA_ERRORS + 1 ∧
        Raised Irq.DMA_ERROR t) ∧
      ((t.reg Off.DMA_BYTES_LO).toNat + 4294967296 * (t.reg Off.DMA_BYTES_HI).toNat =
        ((s.reg Off.DMA_BYTES_LO).toNat + 4294967296 * (s.reg Off.DMA_BYTES_HI).toNat + n) % 18446744073709551616) ∧
      (dst = 0 → (∀ l, s.inVote l = true → (t.mem l).rd da n = bs) ∧ (∀ l, s.inVote l = false → t.mem l = s.mem l) ∧
        RegsOnly [Off.DMA_BYTES_LO, Off.DMA_BYTES_HI, Off.DMA_ERRORS] s t ∧ OnlyIn [.free, .regs, .icus, .mems, .dmas] s t) ∧
      (dst = 7 → t.xread da n = bs ∧ (∀ a, a < da ∨ da + n ≤ a → t.xbyte a = s.xbyte a) ∧
        RegsOnly ([Off.DMA_BYTES_LO, Off.DMA_BYTES_HI, Off.DMA_ERRORS] ++ xareaRegs) s t ∧ OnlyIn [.free, .regs, .icus, .brg, .dmas] s t)) ∧
  (∀ (s : State) (c n a moved : Nat) (d : Dma) (bs nb : List Byte), RegsWf s → s.up = true → 3 ≤ c → c < 16 → s.dmas.length = 16 → d = s.dma c →
    d.state = .running → descField d.desc 0 1 % 8 ≠ 1 → descField d.desc 0 1 % 8 ≠ 2 → d.done ≤ descField d.desc 4 4 → n = descField d.desc 4 4 - d.done →
    n ≤ moved → n % 8 = 0 → s.dmaRead (descField d.desc 0 1 % 8) (descField d.desc 8 8) d.done n = (bs, []) → bs.length = n →
    descField d.desc 0 1 / 16 % 8 = 4 → (descField d.desc 0 2).testBit 15 = false → (descField d.desc 0 2).testBit 9 = false →
    a = descField d.desc 24 8 → a % 8 = 0 → s.voteWords a 4 = some (nb, []) → descOk c nb = true → descField nb 0 1 % 8 ≠ 1 → descField nb 0 1 % 8 ≠ 2 →
    ∃ t, exec (.dmaDescriptorDone c 0 moved false) s = .next t ∧ (t.dma c).state = .running ∧ (t.dma c).cur = a ∧ (t.dma c).desc = nb ∧ (t.dma c).done = 0 ∧
      (t.dma c).seq = d.seq ∧ t.nv.emmc = wrBytes s.nv.emmc (512 * descField d.desc 16 8 + d.done) bs ∧
      ((descField d.desc 0 2).testBit 8 = true → Raised (Irq.DMA_DONE + c) t) ∧ (∀ k, k ≠ c → t.dma k = s.dma k) ∧
      RegsOnly [Off.DMA_BYTES_LO, Off.DMA_BYTES_HI] s t ∧ OnlyIn [.free, .regs, .nv, .icus, .dmas] s t) ∧
  (∀ (s : State) (c n l da moved : Nat) (d : Dma) (bs : List Byte) (w : Posted), RegsWf s → s.up = true → 3 ≤ c → c < 16 → s.dmas.length = 16 →
    d = s.dma c → d.state = .running → descField d.desc 0 1 % 8 = 7 → descField d.desc 0 1 / 16 % 8 = l + 1 → l < 2 → (s.culvert l).state = .up →
    s.refuses l = false → n = min (descField d.desc 4 4 - d.done) (moved / 8 * 8) → 0 < n → n ≤ 4096 → (s.culvert l).posted.length < 2048 →
    d.done + n < descField d.desc 4 4 → bs = s.xread (descField d.desc 8 8 + d.done) n → da = descField d.desc 16 8 + d.done →
    w = ⟨(s.culvert l).nextTag, da, 0, 0, some c, s.npWindow l da, s.now, bs, none⟩ →
    ∃ t, exec (.dmaDescriptorDone c 0 moved false) s = .next t ∧ (t.culvert l).posted = (s.culvert l).posted ++ [w] ∧ (t.dma c).done = d.done + n ∧
      (t.dma c).state = .running ∧ t.out = s.out ++ [.packet l (s.nextPacket l (if w.np then 2 else 1) w.tag da n bs)] ∧
      (∀ k, k ≠ c → t.dma k = s.dma k) ∧ (∀ m, m ≠ l → t.culvert m = s.culvert m) ∧
      RegsOnly [Off.DMA_BYTES_LO, Off.DMA_BYTES_HI] s t ∧ OnlyIn [.free, .regs, .out, .brg, .dmas] s t) ∧
  (∀ (s : State) (l c da : Nat) (p : Packet) (r : Reading) (d : Dma), RegsWf s → s.packetOk l p = true → p.type = 4 →
    (s.culvert l).reads.find? (fun x => x.tag == p.tag && x.len == p.payload.length) = some r → r.dma = some c → c < s.dmas.length → d = s.dma c →
    d.state = .running → descField d.desc 0 1 / 16 % 8 = 7 → da = descField d.desc 16 8 + d.done → da + p.payload.length ≤ 32768 →
    d.done + p.payload.length = descField d.desc 4 4 → (descField d.desc 0 2).testBit 15 = true → (descField d.desc 0 2).testBit 9 = false →
    ∃ t, exec (.rdData l p false) s = .next t ∧ t.xread da p.payload.length = p.payload ∧ (t.culvert l).reads = (s.culvert l).reads.erase r ∧
      (t.dma c).state = .done ∧ (t.dma c).seq = d.seq + 1 ∧ (t.dma c).done = d.done + p.payload.length ∧ Raised (Irq.DMA_DONE + c) t ∧
      t.out = s.out ++ s.ackMsgs l p ∧ (∀ k, k ≠ c → t.dma k = s.dma k) ∧
      RegsOnly ([Off.DMA_BYTES_LO, Off.DMA_BYTES_HI] ++ xareaRegs) s t ∧ OnlyIn [.regs, .out, .icus, .brg, .dmas] s t) ∧
  (∀ (s : State) (c e moved : Nat), s.up = true → c < 16 → (s.dma c).state = .running → e = 0 ∨ e = 5 →
    ∃ t, exec (.dmaDescriptorDone c e moved true) s = .next t ∧ FellSilent s t ∧ t.sys.hubFault = true ∧ OnlyIn silentParts s t)

/-! ### Service protocol -/

/-- Sessions (R469 to R472, R478 to R484): KSP_OPEN, KSP_AUTH, KSP_CLOSE, KSP_BAD_CODE, SESSION_IDLE_TIMEOUT, AUTH_TIMEOUT and LOCKOUT_END. Session
number, nonce and the verification of a signature are free values. -/
def Obligations.KspSessions : Prop :=
  (∀ (s : State) (p : Path) (via : Via) (m : KspMsg) (role : Nat), Requested false p via m s → m.code = 1 → role = beAt m.payload 0 1 →
    (s.openGate p m role = 0 → ∃ t x, exec (.kspOpen p via m) s = .next t ∧ x.role = role ∧ x.path = p ∧ x.state = (if 3 ≤ role then .awaitAuth else .open_) ∧
      x.num ≠ 0 ∧ x.num ≠ 0xFFFF ∧ (∀ y ∈ s.ksp.sessions, y.num ≠ x.num) ∧ x.openAt = s.now ∧ x.lastAt = s.now ∧ x.kept = none ∧ x.nonce.length = 64 ∧
      (role < 3 → ∀ b ∈ x.nonce, b = 0) ∧ t.free = s.free + (if 3 ≤ role then 65 else 1) ∧
      t.ksp = { s.taken.ksp with sessions := s.ksp.sessions ++ [x], opened := s.ksp.opened + 1, executed := s.ksp.executed + 1 } ∧
      Answers p (kspRespond m x.num 0 false 0 (beBytes 1 role ++ beBytes 1 (if 3 ≤ role then 2 else 1) ++ s.objValue none 0x1200 2 ++ x.nonce ++ beBytes 16 Config.unitId.toNat)) s t ∧
      Recorded 0x0D04 [iU8 1 role, iOct 2 (pathBytes p), iU8 3 1] s t ∧ Raised Irq.KSP_SESSION t ∧
      RegsOnly [Off.REC_LOST_CNT, Off.FTN_ARB_DROP] s t ∧ OnlyIn (.free :: .out :: .ftn :: .ksp :: recParts) s t) ∧
    (∀ g, s.openGate p m role = g → g ≠ 0 → ∃ t, exec (.kspOpen p via m) s = .next t ∧ Answers p (kspRespond m m.session g false 0 []) s t ∧
      t.ksp = { s.taken.ksp with executed := if g = 9 ∨ g = 0x0E then s.ksp.executed else s.ksp.executed + 1, busy := if g = 0x0E then s.ksp.busy + 1 else s.ksp.busy } ∧
      RegsOnly [Off.FTN_ARB_DROP] s t ∧ OnlyIn answerParts s t)) ∧
  (∀ (s : State) (p : Path) (via : Via) (m : KspMsg) (x : Session) (ok : Bool), Requested false p via m s → Executes p m x s → m.code = 2 → x.state = .awaitAuth → m.payload.length = 516 →
    ok = (match s.roleKey x.role (beAt m.payload 0 1) with | some k => Config.pssVerify k (authBytes x) (m.payload.drop 4) | none => false) →
    ∃ t, exec (.kspAuth p via m) s = .next t ∧
      (ok = true → Concluded p m (kspRespond m m.session 0 false 0 []) (fun y => { y with state := .open_ }) s.ksp s t) ∧
      (ok = false → t.ksp.sessions = s.ksp.sessions.filter fun y => y.num != m.session) ∧
      (ok = false → Answers p (kspRespond m m.session 0x0C false 0 []) s t ∧ t.ksp.authFails = s.ksp.authFails + 1 ∧ Raised Irq.KSP_SESSION t ∧
        InQueue 0x0D03 [iOct 1 (pathBytes p), iU8 2 x.role] s t ∧ InQueue 0x0D04 [iU8 1 x.role, iOct 2 (pathBytes x.path), iU8 3 0] s t ∧
        (t.lockout p).till = (if 3 ≤ ((s.now :: (s.lockout p).fails).filter fun a => decide (s.now ≤ a + 60000000000)).length then some (s.now + 300000000000) else (s.lockout p).till) ∧
        (∀ q, p.same q = false → (t.lockout q).till = (s.lockout q).till ∧ (t.lockout q).fails = (s.lockout q).fails)) ∧
      RegsOnly [Off.REC_LOST_CNT, Off.FTN_ARB_DROP] s t ∧ OnlyIn (.out :: .ftn :: .ksp :: recParts) s t) ∧
  (∀ (s : State) (p : Path) (via : Via) (m : KspMsg) (x : Session), Requested false p via m s → Executes p m x s →
    (m.code = 2 → x.state = .open_ → ∃ t, exec (.kspAuth p via m) s = .next t ∧ Answers p (kspRespond m m.session 9 false 0 []) s t ∧
      t.ksp = (s.touched p m.session).ksp ∧ RegsOnly [Off.FTN_ARB_DROP] s t ∧ OnlyIn answerParts s t) ∧
    (m.code = 3 → ∃ t, exec (.kspClose p via m) s = .next t ∧ Answers p (kspRespond m m.session 0 false 0 []) s t ∧
      t.ksp = { s.taken.ksp with sessions := s.ksp.sessions.filter fun y => y.num != m.session, executed := s.ksp.executed + 1 } ∧
      InQueue 0x0D04 [iU8 1 x.role, iOct 2 (pathBytes x.path), iU8 3 0] s t ∧ Raised Irq.KSP_SESSION t ∧
      RegsOnly [Off.REC_LOST_CNT, Off.FTN_ARB_DROP] s t ∧ OnlyIn (.out :: .ftn :: .ksp :: recParts) s t) ∧
    (m.code.toNat ∉ kspCodes → ∃ t, exec (.kspBadCode p via m) s = .next t ∧ Concluded p m (kspRespond m m.session 0x11 false 0 []) id s.ksp s t ∧
      RegsOnly [Off.FTN_ARB_DROP] s t ∧ OnlyIn answerParts s t)) ∧
  (∀ (s : State) (p : Path) (via : Via) (m : KspMsg) (storeOk : Bool) (c : Instr), Requested false p via m s → m.session ≠ 0 →
    (c = .kspAuth p via m ∧ m.code = 2 ∨ c = .kspClose p via m ∧ m.code = 3 ∨ c = .kspRead p via m ∧ m.code = 0x10 ∨
     c = .kspWrite p via m storeOk ∧ m.code = 0x11 ∨ c = .kspReadSeg p via m ∧ m.code = 0x12 ∨ c = .kspWriteSeg p via m storeOk ∧ m.code = 0x13 ∨
     c = .kspAbort p via m ∧ m.code = 0x14 ∨ c = .kspInfo p via m ∧ m.code = 0x20) →
    (s.session p m.session = none → ∃ t, exec c s = .next t ∧ Answers p (kspRespond m m.session 9 false 0 []) s t ∧ t.ksp = s.taken.ksp ∧
      RegsOnly [Off.FTN_ARB_DROP] s t ∧ OnlyIn answerParts s t) ∧
    (∀ x r, s.session p m.session = some x → x.kept = some (m.trans, r) → ∃ t, exec c s = .next t ∧ Answers p r s t ∧ t.ksp = (s.heard m.session).ksp ∧
      RegsOnly [Off.FTN_ARB_DROP] s t ∧ OnlyIn answerParts s t)) ∧
  (∀ (s : State) (p : Path) (via : Via) (m : KspMsg) (c : Instr),
    (c = .kspOpen p via m ∧ m.code = 1 ∨ c = .kspRead p via m ∧ m.code = 0x10 ∨ c = .kspWrite p via m true ∧ m.code = 0x11 ∨
     c = .kspInfo p via m ∧ m.code = 0x20 ∨ c = .kspBadCode p via m ∧ m.code.toNat ∉ kspCodes) →
    (s.kspServes p = false ∨ via.passes p = false → exec c s = .next s) ∧
    (s.kspServes p = true → via.passes p = true → (∀ x ∈ s.ksp.sessions, x.waiting = none) → kspGood m = false →
      ∃ t, exec c s = .next t ∧ t.ksp = { s.ksp with discarded := s.ksp.discarded + 1 } ∧ OnlyIn [.ksp] s t) ∧
    (s.kspServes p = true → via.passes p = true → (∀ x ∈ s.ksp.sessions, x.waiting = none) → kspGood m = true → kspResponse m = false → via.bcast = false → s.queue = 16 →
      ∃ t, exec c s = .next t ∧ Answers p (kspRespond m m.session 0x0E false 0 []) s t ∧ t.ksp = { s.ksp with busy := s.ksp.busy + 1 } ∧
        RegsOnly [Off.FTN_ARB_DROP] s t ∧ OnlyIn answerParts s t)) ∧
  (∀ (s : State) (n due : Nat) (x : Session) (c : Instr), s.serverOn = true → s.sessionOf n = some x →
    (s.ksp.sessions.filter fun y => y.num == x.num) = [x] →
    (c = .sessionIdleTimeout n ∧ due = x.lastAt + s.kspCfg 0x1200 2 * 1000000000 ∨
     c = .authTimeout n ∧ x.state = .awaitAuth ∧ due = x.openAt + 30000000000) →
    ∃ t, exec c s = .next t ∧ t.now = max s.now due ∧ t.ksp = { s.ksp with sessions := s.ksp.sessions.filter fun y => y.num != x.num } ∧
      InQueue 0x0D04 [iU8 1 x.role, iOct 2 (pathBytes x.path), iU8 3 0] s t ∧ Raised Irq.KSP_SESSION t ∧
      RegsOnly [Off.REC_LOST_CNT] s t ∧ OnlyIn (.now :: .nv :: .time :: .ksp :: recParts) s t) ∧
  (∀ (s : State) (p : Path) (at_ : Nat), (s.lockout p).till = some at_ →
    ∃ t, exec (.lockoutEnd p) s = .next t ∧ t.now = max s.now at_ ∧ t.ksp = { s.ksp with lockouts := s.ksp.lockouts.filter fun l => !l.path.same p } ∧
      OnlyIn [.now, .isl, .nv, .time, .ksp] s t)

/-- Objects read (R475, R476, R486, Table 15.5): KSP_READ, KSP_READ_SEG, KSP_INFO, ATTESTATION_REPORT, READ_SNAPSHOT_TIMEOUT and BROADCAST_REPLY_DELAY.
Objects written (R458, R462, R465, R474, R477, R534): KSP_WRITE, RESTORE_DEFAULTS, KSP_WRITE_SEG, KSP_ABORT, ATTESTATION_NONCE, SEG_WRITE_TIMEOUT and
PENDING_TIMEOUT; and ARP_REQUEST and ICMP_ECHO (R487, R488). -/
def Obligations.ServiceObjects : Prop :=
  (∀ (s : State) (p : Path) (via : Via) (m : KspMsg) (r : Nat × List Byte), Requested false p via m s → m.session = 0 →
    (m.code = 0x10 → r = s.readResult none m.index.toNat m.sub.toNat → ∃ t, exec (.kspRead p via m) s = .next t ∧ Answers p (readResponse m r) s t ∧
      t.ksp = { s.taken.ksp with executed := s.ksp.executed + 1 } ∧ t.free = s.free + (if r.1 = 0 then freeUsed m.index.toNat m.sub.toNat else 0) ∧
      RegsOnly [Off.FTN_ARB_DROP] s t ∧ OnlyIn (.free :: answerParts) s t) ∧
    (m.code = 0x20 → r = s.infoResult none m.index.toNat m.sub.toNat → ∃ t, exec (.kspInfo p via m) s = .next t ∧
      Answers p (kspRespond m 0 r.1 false 0 r.2) s t ∧ t.ksp = { s.taken.ksp with executed := s.ksp.executed + 1 } ∧
      RegsOnly [Off.FTN_ARB_DROP] s t ∧ OnlyIn answerParts s t)) ∧
  (∀ (s : State) (p : Path) (via : Via) (m : KspMsg) (x : Session) (r : Nat × List Byte), Requested false p via m s → Executes p m x s →
    (m.code = 0x10 → r = (s.touched p m.session).readResult (some x) m.index.toNat m.sub.toNat → ∃ t, exec (.kspRead p via m) s = .next t ∧
      Concluded p m (readResponse m r) (fun y => { y with snapshot := if 1400 < r.2.length ∧ x.seg = none then some (r.2, s.now) else none }) s.ksp s t ∧
      t.free = s.free + (if r.1 = 0 then freeUsed m.index.toNat m.sub.toNat else 0) ∧ RegsOnly [Off.FTN_ARB_DROP] s t ∧ OnlyIn (.free :: answerParts) s t) ∧
    (m.code = 0x20 → r = (s.touched p m.session).infoResult (some x) m.index.toNat m.sub.toNat → ∃ t, exec (.kspInfo p via m) s = .next t ∧
      Concluded p m (kspRespond m m.session r.1 false 0 r.2) id s.ksp s t ∧ RegsOnly [Off.FTN_ARB_DROP] s t ∧ OnlyIn answerParts s t) ∧
    (∀ b, m.code = 0x12 → x.snapshot = some b → m.offset.toNat < b.1.length → ∃ t, exec (.kspReadSeg p via m) s = .next t ∧
      Concluded p m (kspRespond m m.session 0 (decide (b.1.length ≤ m.offset.toNat + 1400)) m.offset.toNat ((b.1.drop m.offset.toNat).take 1400)) (fun y => { y with snapshot := if b.1.length ≤ m.offset.toNat + 1400 then none else some (b.1, s.now) }) s.ksp s t ∧
      RegsOnly [Off.FTN_ARB_DROP] s t ∧ OnlyIn answerParts s t) ∧
    (m.code = 0x12 → (x.snapshot.all fun b => decide (b.1.length ≤ m.offset.toNat)) = true → ∃ t, exec (.kspReadSeg p via m) s = .next t ∧
      Concluded p m (kspRespond m m.session 0x0A false 0 []) id s.ksp s t ∧ RegsOnly [Off.FTN_ARB_DROP] s t ∧ OnlyIn answerParts s t)) ∧
  (∀ (s : State) (p : Path) (via : Via) (m : KspMsg), Requested true p via m s →
    (wideOk m = true → m.code = 0x10 → p.kind ≠ 1 → ∃ t, exec (.kspRead p via m) s = .next t ∧
      Answers p (readResponse m (s.readResult none m.index.toNat m.sub.toNat)) s t ∧ t.ksp = { s.ksp with executed := s.ksp.executed + 1 } ∧ OnlyIn [.out, .ksp] s t) ∧
    (wideOk m = true → m.code = 0x10 → p.kind = 1 → ∃ t, exec (.kspRead p via m) s = .next t ∧
      t.ksp = { s.ksp with executed := s.ksp.executed + 1, broadcast := s.ksp.broadcast ++ [(s.now + fld (s.reg Off.FTN_NODE_CFG) 8 6 * 1000000, p, readResponse m (s.readResult none m.index.toNat m.sub.toNat))] } ∧
      OnlyIn [.ksp] s t) ∧
    (wideOk m = false → m.code = 0x10 → ∃ t, exec (.kspRead p via m) s = .next t ∧ t.ksp = { s.ksp with discarded := s.ksp.discarded + 1 } ∧ OnlyIn [.ksp] s t) ∧
    (m.code = 0x11 → ∃ t, exec (.kspWrite p via m true) s = .next t ∧ t.ksp = { s.ksp with discarded := s.ksp.discarded + 1 } ∧ OnlyIn [.ksp] s t)) ∧
  (∀ (s : State) (n txn : Half) (x : Session) (m : KspMsg) (r : Nat × List Byte), m = sessionMsg 0x10 n txn 0xB110 2 [] → s.sessionOf n.toNat = some x →
    Requested false x.path .plain m s → Executes x.path m x s → r = (s.touched x.path n).readResult (some x) 0xB110 2 →
    ∃ t, exec (.attestationReport n txn) s = .next t ∧
      Concluded x.path m (readResponse m r) (fun y => { y with snapshot := if 1400 < r.2.length ∧ x.seg = none then some (r.2, s.now) else none }) s.ksp s t ∧
      t.free = s.free ∧ RegsOnly [Off.FTN_ARB_DROP] s t ∧ OnlyIn (.free :: answerParts) s t) ∧
  (∀ (s : State) (n : Nat) (x : Session) (b : List Byte × Nat), s.serverOn = true → s.sessionOf n = some x → x.snapshot = some b →
    ∃ t, exec (.readSnapshotTimeout n) s = .next t ∧ t.now = max s.now (b.2 + 10000000000) ∧
      t.ksp = { s.ksp with sessions := s.ksp.sessions.map fun y => if y.num = x.num then { y with snapshot := none } else y } ∧
      OnlyIn [.now, .isl, .nv, .time, .ksp] s t) ∧
  (∀ (s : State) (due : Nat) (p : Path) (r : KspMsg) (rest : List (Nat × Path × KspMsg)), s.serverOn = true → s.ksp.broadcast = (due, p, r) :: rest →
    ∃ t, exec .broadcastReplyDelay s = .next t ∧ t.now = max s.now due ∧ Answers p r s t ∧ t.ksp = { s.ksp with broadcast := rest } ∧
      RegsOnly [Off.FTN_ARB_DROP] s t ∧ OnlyIn (.now :: .isl :: .nv :: .time :: answerParts) s t) ∧
  (∀ (s : State) (p : Path) (via : Via) (m : KspMsg) (storeOk : Bool) (x : Session) (d : ObjDesc) (g i j v : Nat), Requested false p via m s → Executes p m x s → m.code = 0x11 →
    i = m.index.toNat → j = m.sub.toNat → v = beNat m.payload → (s.touched p m.session).objAt i j = some d → g = (s.touched p m.session).writeGate x i j (some v) →
    (∀ st, (g ≠ 0 ∧ st = g ∨ g = 0 ∧ lengthOk d i m.payload = false ∧ st = 6 ∨
        g = 0 ∧ lengthOk d i m.payload = true ∧ (s.touched p m.session).valueOk d i j v m.payload = false ∧ st = 7 ∨
        g = 0 ∧ lengthOk d i m.payload = true ∧ (s.touched p m.session).valueOk d i j v m.payload = true ∧ storeOk = false ∧ d.pers = 2 ∧ st = 0x0F) →
      ∃ t, exec (.kspWrite p via m storeOk) s = .next t ∧ Concluded p m (kspRespond m m.session st false 0 []) id s.ksp s t ∧
        RegsOnly [Off.FTN_ARB_DROP] s t ∧ OnlyIn answerParts s t) ∧
    (g = 0 → lengthOk d i m.payload = true → (s.touched p m.session).valueOk d i j v m.payload = true → d.pers = 2 → storeOk = true → i ∉ [0x1011, 0x7003] →
      s.sys.recovery = false →
      ∃ t, exec (.kspWrite p via m storeOk) s = .next t ∧
        t.nv = { s.nv with store := putC s.nv.store (objKey i j) (s.objDflt i j) m.payload, gen := s.nv.gen + 1, copy0 := true, copy1 := true } ∧
        Concluded p m (kspRespond m m.session 0 false 0 []) id { s.ksp with storeWrites := s.ksp.storeWrites + 1 } s t ∧
        Recorded 0x0D02 [iU16 1 i, iU8 2 j, iU8 3 x.role, iOct 4 (pathBytes x.path), iU16 5 ((s.nv.gen + 1) % 65536)] s t ∧ Raised Irq.KSP_STORE t ∧
        t.reg Off.SYS_WAKE_CFG = (if i = 0x1104 then BitVec.ofNat 32 v &&& regMask Off.SYS_WAKE_CFG else s.reg Off.SYS_WAKE_CFG) ∧
        RegsOnly [Off.SYS_WAKE_CFG, Off.REC_LOST_CNT, Off.FTN_ARB_DROP] s t ∧ OnlyIn (.nv :: .out :: .ftn :: .ksp :: recParts) s t) ∧
    (i = 0x1011 → j = 0 → g = 0 → lengthOk d i m.payload = true → v = 1 → d.type ≠ 1 → d.type ≠ 0x10 → s.sys.recovery = false →
      ∃ t, exec (.restoreDefaults p via m true) s = .next t ∧
        t.nv = { s.nv with store := s.nv.store.filter (fun e => decide (e.1 / 256 < 0x1000) || decide (0xEFFF < e.1 / 256)), copy0 := true, copy1 := true } ∧
        Concluded p m (kspRespond m m.session 0 false 0 []) id { s.ksp with storeWrites := s.ksp.storeWrites + 1 } s t ∧
        Recorded 0x0D02 [iU16 1 0x1011, iU8 2 0, iU8 3 x.role, iOct 4 (pathBytes x.path), iU16 5 (s.nv.gen % 65536)] s t ∧ Raised Irq.KSP_STORE t ∧
        RegsOnly [Off.REC_LOST_CNT, Off.FTN_ARB_DROP] s t ∧ OnlyIn (.nv :: .out :: .ftn :: .ksp :: recParts) s t)) ∧
  (∀ (s : State) (p : Path) (via : Via) (m : KspMsg) (storeOk : Bool) (x : Session) (data : List Byte) (g len : Nat), Requested false p via m s → Executes p m x s →
    m.code = 0x13 → data = ((x.seg.map (·.data)).getD []) ++ m.payload → g = (s.touched p m.session).writeGate x m.index.toNat m.sub.toNat none →
    len = (((s.touched p m.session).objAt m.index.toNat m.sub.toNat).map (·.len)).getD 0 →
    (∀ st, (segBad m x = true ∧ st = 0x0B ∨ segBad m x = false ∧ g ≠ 0 ∧ st = g ∨ segBad m x = false ∧ g = 0 ∧ len < data.length ∧ st = 0x13) →
      ∃ t, exec (.kspWriteSeg p via m storeOk) s = .next t ∧
        Concluded p m (kspRespond m m.session st false 0 []) (fun y => { y with seg := none, snapshot := none }) s.ksp s t ∧
        RegsOnly [Off.FTN_ARB_DROP] s t ∧ OnlyIn answerParts s t) ∧
    (segBad m x = false → g = 0 → kspLast m = false → data.length ≤ len →
      ∃ t, exec (.kspWriteSeg p via m storeOk) s = .next t ∧
        Concluded p m (kspRespond m m.session 0 false 0 []) (fun y => { y with snapshot := none, seg := some ⟨m.index, m.sub, data, s.now⟩ }) s.ksp s t ∧
        RegsOnly [Off.FTN_ARB_DROP] s t ∧ OnlyIn answerParts s t)) ∧
  (∀ (s : State) (p : Path) (via : Via) (m : KspMsg) (x : Session), Requested false p via m s → Executes p m x s → m.code = 0x14 →
    ∃ t, exec (.kspAbort p via m) s = .next t ∧
      Concluded p m (kspRespond m m.session 0 false 0 []) (fun y => { y with seg := none, snapshot := none }) s.ksp s t ∧
      RegsOnly [Off.FTN_ARB_DROP] s t ∧ OnlyIn answerParts s t) ∧
  (∀ (s : State) (n txn : Half) (x : Session) (d : ObjDesc) (m : KspMsg) (nonce : List Byte), m = sessionMsg 0x11 n txn 0xB110 1 nonce →
    s.sessionOf n.toNat = some x → Requested false x.path .plain m s → Executes x.path m x s → (s.touched x.path n).objAt 0xB110 1 = some d → d.pers = 1 → d.type ≠ 1 → d.type ≠ 0x10 →
    (s.touched x.path n).writeGate x 0xB110 1 (some (beNat nonce)) = 0 → lengthOk d 0xB110 nonce = true →
    ∃ t, exec (.attestationNonce n txn nonce) s = .next t ∧
      Concluded x.path m (kspRespond m m.session 0 false 0 []) (fun y => { y with attNonce := nonce }) s.ksp s t ∧
      RegsOnly [Off.FTN_ARB_DROP] s t ∧ OnlyIn answerParts s t) ∧
  (∀ (s : State) (n : Nat) (x : Session) (g : SegWrite), s.serverOn = true → s.sessionOf n = some x → x.seg = some g →
    ∃ t, exec (.segWriteTimeout n) s = .next t ∧ t.now = max s.now (g.at_ + 10000000000) ∧
      t.ksp = { s.ksp with sessions := s.ksp.sessions.map fun y => if y.num = x.num then { y with seg := none, segTimedOut := true } else y } ∧
      OnlyIn [.now, .isl, .nv, .time, .ksp] s t) ∧
  (∀ (s : State) (n : Nat) (x : Session) (w : KspMsg × Nat), s.serverOn = true → s.ksp.sessions = [x] → x.num.toNat = n → x.waiting = some w →
    w.1.session = x.num → x.num ≠ 0 → (advanceTo (w.2 + 5000000000) s).pathEnd w.1.index.toNat w.1.sub.toNat = .waits →
    ∃ t, exec (.pendingTimeout n) s = .next t ∧ t.now = max s.now (w.2 + 5000000000) ∧
      Answers x.path (kspRespond w.1 x.num 0x15 false 0 []) s t ∧
      t.ksp = { s.ksp with sessions := [{ x with kept := some (w.1.trans, kspRespond w.1 x.num 0x15 false 0 []), waiting := none }], executed := s.ksp.executed + 1 } ∧
      RegsOnly [Off.FTN_ARB_DROP] s t ∧ OnlyIn (.now :: .isl :: .nv :: .time :: answerParts) s t) ∧
  (∀ (s : State) (port : Nat) (src target : Word) (data : List Byte), s.portOn port = true → target.toNat = s.portAddr port →
    (∃ t, exec (.arpRequest port src target) s = .next t ∧ t.out = s.out ++ [.arp port target src] ∧ OnlyIn [.out] s t) ∧
    (s.reachable port src = true → ∃ t, exec (.icmpEcho port src target data) s = .next t ∧ t.out = s.out ++ [.echo port src data] ∧ OnlyIn [.out] s t)) ∧
  (∀ (s : State) (port : Nat) (src target : Word) (data : List Byte), s.portOn port = false ∨ target.toNat ≠ s.portAddr port →
    exec (.arpRequest port src target) s = .next s ∧ exec (.icmpEcho port src target data) s = .next s)

/-! ### Event recorder -/

/-- Records (R491, R494 to R500, R504): RECORD_REQUEST, RECORD_ACCEPT, PAGE_COMMIT, REC_READY, APP_RECORD and RECORD_LOAD. -/
def Obligations.Records : Prop :=
  (∀ (s : State) (type : Nat) (items : List (Nat × Nat × List Byte)), RegsWf s → s.up = true →
    ∃ t, exec (.recordRequest type items) s = .next t ∧ Recorded type (items.map fun i => ⟨i.1, i.2.1, i.2.2⟩) s t ∧
      (s.recUp = true → 64 ≤ s.erec.queue.length → t.erec = { s.erec with lost := true } ∧ t.reg Off.REC_LOST_CNT = s.reg Off.REC_LOST_CNT + 1 ∧
        (s.erec.lost = false → Raised Irq.REC_LOST t)) ∧
      (s.recUp = false → 16 ≤ s.isl.events.length → t.isl = { s.isl with eventsLost := s.isl.eventsLost + 1 }) ∧
      RegsOnly [Off.REC_LOST_CNT] s t ∧ OnlyIn recParts s t) ∧
  (∀ (s : State) (q q' : RecReq), RegsWf s → s.recRuns = true → firstRec s.erec.queue = some q → q' = { q with lost := s.erec.lost } →
    (∀ r, s.erec.page.getLast? = some r → s.folds q' r = true → ∃ t, exec .recordAccept s = .next t ∧
      t.erec = { s.erec with queue := s.erec.queue.erase q, lost := false, tell := false, page := s.erec.page.dropLast ++ [{ r with repeats := r.repeats + 1 }] } ∧
      t.reg Off.REC_FOLDED = s.reg Off.REC_FOLDED + 1 ∧ (s.erec.tell = true → Raised Irq.REC_LOST t) ∧
      RegsOnly [Off.REC_FOLDED] s t ∧ OnlyIn [.regs, .icus, .erec] s t) ∧
    (∀ (x : Rec) (used : Nat), (s.erec.page.getLast?.all fun r => !s.folds q' r) = true → used = s.erec.page.foldl (fun a y => a + y.size) 0 →
      x = ⟨nextSeq s.nv.nand.newest, q', 0, ((s.erec.page.getLast?.or s.nv.nand.circulating.getLast?).map (s.repeats q')).getD false⟩ →
      ∃ t, exec .recordAccept s = .next t ∧ t.erec.queue = s.erec.queue.erase q ∧ t.erec.lost = false ∧ t.nv.nand.newest = x.seq ∧
        t.reg Off.REC_RECORDS = s.reg Off.REC_RECORDS + 1 ∧ (s.erec.tell = true → Raised Irq.REC_LOST t) ∧
        t.nv.nand.keptBase = (if s.nv.nand.keptBase = 0 then x.seq else s.nv.nand.keptBase) ∧
        (used + x.size ≤ 4096 → t.erec.page = s.erec.page ++ [x] ∧ t.erec.pageAt = (if s.erec.page = [] then s.now else s.erec.pageAt) ∧
          t.nv.nand.circulating = s.nv.nand.circulating ∧ RegsOnly [Off.REC_RECORDS] s t) ∧
        (4096 < used + x.size → s.erec.page ≠ [] → t.erec.page = [x] ∧ t.erec.pageAt = s.now ∧ (s.erec.state ≠ .failed → PageStored s t)) ∧
        RegsOnly [Off.REC_RECORDS, Off.REC_PAGES] s t ∧ OnlyIn [.regs, .nv, .icus, .erec] s t)) ∧
  (∀ (s : State) (failed : Nat), RegsWf s → s.recRuns = true →
    (s.erec.page ≠ [] → ∃ t, exec (.pageCommit failed) s = .next t ∧ t.now = max s.now (s.erec.pageAt + s.commitTime) ∧ t.erec.page = [] ∧
      t.erec = { s.erec with page := [], state := if 0 < failed ∧ 7872 ≤ s.nv.nand.retired + failed then .failed else s.erec.state } ∧
      t.nv.nand.newest = s.nv.nand.newest ∧ t.nv.nand.keptBase = s.nv.nand.keptBase ∧ t.nv.nand.retired = s.nv.nand.retired + failed ∧
      t.reg Off.REC_BAD_BLOCKS = s.reg Off.REC_BAD_BLOCKS + BitVec.ofNat 32 failed ∧ (0 < failed → Raised Irq.REC_STORAGE t) ∧
      (t.erec.state ≠ .failed → PageStored s t) ∧ (t.erec.state = .failed → t.nv.nand.circulating = s.nv.nand.circulating ∧ t.nv.nand.kept = s.nv.nand.kept) ∧
      RegsOnly [Off.REC_PAGES, Off.REC_BAD_BLOCKS] s t ∧ OnlyIn [.now, .regs, .isl, .nv, .time, .icus, .erec] s t) ∧
    (s.erec.page = [] → exec (.pageCommit failed) s = .next s)) ∧
  (∀ (s : State) (nand : Bool), RegsWf s → s.up = true → s.erec.state = .notReady →
    ∃ t, exec (.recReady nand) s = .next t ∧
      t.erec.state = (if nand = false ∨ 7872 ≤ s.nv.nand.retired then .failed else if s.nv.nand.clear.isSome then .clearing else .ready) ∧
      (nand = false ∨ 7872 ≤ s.nv.nand.retired → Raised Irq.REC_STORAGE t) ∧
      t.isl = { s.isl with events := [], eventsLost := 0 } ∧
      t.chk = { s.chk with told := true } ∧ (s.chk.told = true → t.erec.queue = []) ∧
      t.reg Off.REC_RECORDS + t.reg Off.REC_FOLDED = s.reg Off.REC_RECORDS + s.reg Off.REC_FOLDED + BitVec.ofNat 32 s.isl.events.length ∧
      (s.chk.told = true → t.reg Off.REC_LOST_CNT = s.reg Off.REC_LOST_CNT + BitVec.ofNat 32 s.isl.eventsLost) ∧
      (s.isl.eventsLost ≠ 0 → t.erec.lost = true ∧ t.erec.tell = true) ∧
      RegsOnly [Off.REC_RECORDS, Off.REC_FOLDED, Off.REC_LOST_CNT, Off.REC_PAGES] s t ∧ OnlyIn (.nv :: .chk :: recParts) s t) ∧
  (∀ (s : State) (v : Word) (type n : Nat), RegsWf s → s.recRuns = true → type = fld v 0 16 → n = fld (s.reg Off.REC_APP_LEN) 0 7 →
    (fld v 16 16 = 0x5243 → 0x8000 ≤ type → type ≤ 0xFEFF → n ≤ 108 → s.erec.queue.length < 64 →
      ∃ t q, exec (.appRecord v) s = .next t ∧ t.erec = { s.erec with queue := s.erec.queue ++ [q] } ∧ q.type = type ∧ q.items = [] ∧ q.app = s.appBytes n ∧ q.at_ = s.now ∧
        t.reg Off.REC_APP_STATUS = cmdStatus (s.reg Off.REC_APP_STATUS) 2 0 ∧ Raised Irq.REC_APP_DONE t ∧
        RegsOnly [Off.REC_APP_STATUS] s t ∧ OnlyIn [.regs, .icus, .erec] s t) ∧
    (∀ cause : Nat, (fld v 16 16 ≠ 0x5243 ∧ cause = 1 ∨ fld v 16 16 = 0x5243 ∧ (type < 0x8000 ∨ 0xFEFF < type) ∧ cause = 2 ∨
        fld v 16 16 = 0x5243 ∧ 0x8000 ≤ type ∧ type ≤ 0xFEFF ∧ 108 < n ∧ cause = 3) →
      ∃ t, exec (.appRecord v) s = .next t ∧ t.reg Off.REC_APP_STATUS = cmdStatus (s.reg Off.REC_APP_STATUS) 3 cause ∧ Raised Irq.REC_APP_DONE t ∧
        RegsOnly [Off.REC_APP_STATUS] s t ∧ OnlyIn [.regs, .icus] s t) ∧
    (fld v 16 16 = 0x5243 → 0x8000 ≤ type → type ≤ 0xFEFF → n ≤ 108 → 64 ≤ s.erec.queue.length →
      ∃ t, exec (.appRecord v) s = .next t ∧ t.erec = { s.erec with lost := true } ∧ t.reg Off.REC_LOST_CNT = s.reg Off.REC_LOST_CNT + 1 ∧
        t.reg Off.REC_APP_STATUS = cmdStatus (s.reg Off.REC_APP_STATUS) 3 4 ∧ Raised Irq.REC_APP_DONE t ∧
        RegsOnly [Off.REC_APP_STATUS, Off.REC_LOST_CNT] s t ∧ OnlyIn [.regs, .icus, .erec] s t)) ∧
  (∀ (s : State) (seq : Word) (found : List Byte) (kept : Bool), RegsWf s → s.recRuns = true → kept = bit (s.reg Off.REC_READ_SEL) 0 →
    (∀ r bs, s.recOf kept seq = some r → bs = (if found = [] then s.recBytes kept r else found) → ∃ t, exec (.recordLoad seq found) s = .next t ∧
      t.erec = { s.erec with loaded := bs, loadBad := !crcHolds bs } ∧ t.reg Off.REC_READ_SEQ = seq ∧
      t.reg Off.REC_READ_STATUS = mkWord [(0, 2), (2, b2n (!crcHolds bs)), (8, beAt bs 2 1)] ∧
      t.reg Off.REC_BAD_CRC_CNT = s.reg Off.REC_BAD_CRC_CNT + (if crcHolds bs then 0 else 1) ∧
      t.nv = { s.nv with nand := { s.nv.nand with badCrc := t.nv.nand.badCrc } } ∧
      (crcHolds bs = false → t.recBytes kept r = bs) ∧ (crcHolds bs = true → t.recBytes kept r = r.bytes) ∧
      (∀ b ∈ s.nv.nand.badCrc, b.1 ≠ kept ∨ b.2.1 ≠ seq → b ∈ t.nv.nand.badCrc) ∧
      RegsOnly [Off.REC_READ_SEQ, Off.REC_READ_STATUS, Off.REC_BAD_CRC_CNT] s t ∧ OnlyIn [.regs, .nv, .erec] s t) ∧
    (s.recOf kept seq = none → ∃ t, exec (.recordLoad seq found) s = .next t ∧ t.reg Off.REC_READ_SEQ = seq ∧
      t.reg Off.REC_READ_STATUS = 3 ∧ RegsOnly [Off.REC_READ_SEQ, Off.REC_READ_STATUS] s t ∧ OnlyIn [.regs] s t))

/-- Clearing and export (R502, R503, R505): CLEAR_CIRCULATING, CLEAR_KEPT, CLEAR_COMPLETE, EXPORT_START, EXPORT_ABORT and EXPORT_END. How far an aborted
export has come is a free value (log 13). -/
def Obligations.ClearsAndExports : Prop :=
  (∀ (s : State) (c : Instr) (kept : Bool) (role : Nat) (path : List Byte), RegsWf s → s.recRuns = true →
    (c = .clearCirculating role path ∧ kept = false ∧ 3 ≤ role ∨ c = .clearKept role path ∧ kept = true ∧ 4 ≤ role) →
    (s.erec.state = .ready → s.erec.queue = [] → s.erec.page = [] → ∃ t r, exec c s = .next t ∧ t.erec.state = .clearing ∧ t.erec.page = [] ∧ t.erec.queue = [] ∧
      t.nv.nand.clear = some ⟨kept, nextSeq s.nv.nand.newest⟩ ∧ t.nv.nand.newest = nextSeq s.nv.nand.newest ∧ r ∈ t.nv.nand.circulating ∧
      r.seq = nextSeq s.nv.nand.newest ∧ r.body.type = 0x0108 ∧
      r.body.items = [iU8 1 (b2n kept), iU8 2 role, iOct 3 path, iU32 4 (firstSeq (s.recArea kept)).toNat, iU32 5 (lastSeqOf (s.recArea kept)).toNat] ∧
      t.nv.nand.keptBase = (if kept = true ∨ s.nv.nand.keptBase = 0 then nextSeq s.nv.nand.newest else s.nv.nand.keptBase) ∧
      t.reg Off.REC_RECORDS = s.reg Off.REC_RECORDS + 1 ∧ RegsOnly [Off.REC_RECORDS, Off.REC_PAGES] s t ∧ OnlyIn [.regs, .nv, .icus, .erec] s t) ∧
    (s.erec.state = .exporting → s.erec.clearWaits = none → ∃ t, exec c s = .next t ∧
      t.erec = { s.erec with clearWaits := some (kept, [iU8 2 role, iOct 3 path]) } ∧ OnlyIn [.erec] s t)) ∧
  (∀ (s : State) (role : Nat) (path : List Byte), (role < 3 → exec (.clearCirculating role path) s = .next s) ∧ (role < 4 → exec (.clearKept role path) s = .next s)) ∧
  (∀ (s : State) (c : Clear), s.recRuns = true → s.erec.state = .clearing → s.nv.nand.clear = some c →
    ∃ t, exec .clearComplete s = .next t ∧ t.erec = { s.erec with state := .ready } ∧ t.nv = { s.nv with nand := t.nv.nand } ∧ t.nv.nand.clear = none ∧
      t.nv.nand.newest = s.nv.nand.newest ∧ t.nv.nand.keptBase = s.nv.nand.keptBase ∧
      t.nv.nand.kept = (if c.kept then s.nv.nand.kept.filter (fun r => !seqBefore r.seq c.seq) else s.nv.nand.kept) ∧
      t.nv.nand.circulating = (if c.kept then s.nv.nand.circulating else s.nv.nand.circulating.filter (fun r => !seqBefore r.seq c.seq)) ∧
      Raised Irq.REC_CLEAR_DONE t ∧ OnlyIn [.nv, .icus, .erec] s t) ∧
  (∀ (s : State) (v : Word), RegsWf s → s.recRuns = true → 1 < s.dmas.length →
    (fld v 16 16 = 0x5245 → s.erec.state = .ready → s.expSpan ≤ 65536 → fld (s.reg Off.REC_EXP_CFG) 4 3 ∈ [0, 1, 2, 4] →
      endpointIn (fld (s.reg Off.REC_EXP_CFG) 4 3) s.expDst (256 * s.expSpan) = true →
      ∃ t, exec (.exportStart v) s = .next t ∧ t.erec = { s.erec with state := .exporting } ∧ t.dma 1 = { s.dma 1 with state := .running, done := 0 } ∧
        (∀ k, k ≠ 1 → t.dma k = s.dma k) ∧ t.reg Off.REC_EXP_STATUS = cmdStatus (s.reg Off.REC_EXP_STATUS) 1 0 ∧ t.reg Off.REC_EXP_COUNT = 0 ∧
        RegsOnly [Off.REC_EXP_STATUS, Off.REC_EXP_COUNT] s t ∧ OnlyIn [.regs, .erec, .dmas] s t) ∧
    (∀ (c : Instr) (cause : Nat), (c = .exportStart v ∨ c = .exportAbort v) ∧ fld v 16 16 ≠ 0x5245 ∧ cause = 1 ∨
        c = .exportStart v ∧ fld v 16 16 = 0x5245 ∧ (s.erec.state ≠ .ready ∧ cause = 4 ∨ s.erec.state = .ready ∧ 65536 < s.expSpan ∧ cause = 2 ∨
          s.erec.state = .ready ∧ s.expSpan ≤ 65536 ∧ (fld (s.reg Off.REC_EXP_CFG) 4 3 ∉ [0, 1, 2, 4] ∨
            endpointIn (fld (s.reg Off.REC_EXP_CFG) 4 3) s.expDst (256 * s.expSpan) = false) ∧ cause = 3) →
      ∃ t, exec c s = .next t ∧ t.reg Off.REC_EXP_STATUS = cmdStatus (s.reg Off.REC_EXP_STATUS) 3 cause ∧
        RegsOnly [Off.REC_EXP_STATUS] s t ∧ OnlyIn [.regs] s t) ∧
    (fld v 16 16 = 0x5245 → s.erec.state ≠ .exporting → exec (.exportAbort v) s = .next s)) ∧
  (∀ (s : State) (v : Word) (result n st cause kind : Nat) (d : DmaState) (c : Instr) (bs : List Byte), RegsWf s → MemsWf s → s.recRuns = true →
    s.erec.state = .exporting → 1 < s.dmas.length → (s.dma 1).state = .running → (s.dma 1).done = 0 → s.erec.clearWaits = none → s.expSpan ≤ 65536 →
    kind = fld (s.reg Off.REC_EXP_CFG) 4 3 → kind = 4 ∨ kind = 0 ∧ (∀ l, (s.vot.lanes.get l).phase ≠ .stopcopy) → bs = s.slotBytes 0 n →
    (c = .exportEnd 0 ∧ n = s.expSpan ∧ st = 2 ∧ cause = 0 ∧ d = .done ∨ c = .exportEnd (result + 1) ∧ n = min result s.expSpan ∧ st = 4 ∧ cause = 5 ∧ d = .error ∨
     c = .exportAbort v ∧ fld v 16 16 = 0x5245 ∧ n = (Config.freeWord s.free).toNat % (s.expSpan + 1) ∧ st = 5 ∧ cause = 0 ∧ d = .aborted) →
    ∃ t, exec c s = .next t ∧ t.erec.state = .ready ∧ (t.dma 1).state = d ∧ (t.dma 1).done = 256 * n ∧ (∀ k, k ≠ 1 → t.dma k = s.dma k) ∧
      t.reg Off.REC_EXP_COUNT = BitVec.ofNat 32 n ∧ t.reg Off.REC_EXP_STATUS = mkWord [(0, st), (4, cause), (8, fld (s.reg Off.REC_EXP_STATUS) 8 8)] ∧
      t.reg Off.REC_BAD_CRC_CNT = s.reg Off.REC_BAD_CRC_CNT + BitVec.ofNat 32 (s.badSlots 0 n) ∧ Raised Irq.REC_EXPORT_DONE t ∧
      t.reg Off.DMA_ERRORS = s.reg Off.DMA_ERRORS + (if st = 4 then 1 else 0) ∧
      (kind = 4 → t.nv = { s.nv with emmc := wrBytes s.nv.emmc (512 * s.expDst) bs } ∧ t.mems = s.mems) ∧
      (kind = 0 → inDram s.expDst (256 * n) = true → (∀ l, s.inVote l = true → (t.mem l).rd s.expDst bs.length = bs) ∧
        (∀ l, s.inVote l = false → t.mem l = s.mem l) ∧ t.nv = s.nv) ∧
      RegsOnly [Off.REC_EXP_COUNT, Off.REC_EXP_STATUS, Off.REC_BAD_CRC_CNT, Off.DMA_ERRORS, Off.DMA_BYTES_LO, Off.DMA_BYTES_HI] s t ∧
      OnlyIn [.free, .regs, .nv, .icus, .mems, .erec, .dmas] s t) ∧
  (∀ (s : State) (l d : Nat) (bs : List Byte), RegsWf s → s.recRuns = true → s.erec.state = .exporting → 1 < s.dmas.length → (s.dma 1).state = .running →
    d = (s.dma 1).done → fld (s.reg Off.REC_EXP_CFG) 4 3 = l + 1 → l < 2 → (s.culvert l).state = .up → s.refuses l = false → s.expSpan ≤ 65536 →
    bs = (s.slotBytes d s.expSpan).take (4096 * s.room l) → d + bs.length < 256 * s.expSpan →
    ∃ t, exec (.exportEnd 0) s = .next t ∧ t.erec = s.erec ∧ (t.dma 1).state = .running ∧ (t.dma 1).done = d + bs.length ∧
      (t.culvert l).posted.take (s.culvert l).posted.length = (s.culvert l).posted ∧
      ((t.culvert l).posted.drop (s.culvert l).posted.length).flatMap (·.data) = bs ∧
      (∀ x ∈ ((t.culvert l).posted.drop (s.culvert l).posted.length).zipIdx, x.1.addr = s.expDst + d + 4096 * x.2 ∧ x.1.dma = some 1 ∧ x.1.data.length ≤ 4096) ∧
      t.reg Off.REC_EXP_COUNT = BitVec.ofNat 32 ((d + bs.length) / 256) ∧
      (∀ k, k ≠ 1 → t.dma k = s.dma k) ∧ (∀ m, m ≠ l → t.culvert m = s.culvert m) ∧
      RegsOnly [Off.REC_EXP_COUNT, Off.REC_BAD_CRC_CNT, Off.DMA_BYTES_LO, Off.DMA_BYTES_HI] s t ∧ OnlyIn [.regs, .out, .brg, .dmas] s t) ∧
  (∀ (s : State) (kept : Bool) (r p : Item), s.recRuns = true → s.erec.state = .exporting → s.erec.clearWaits = some (kept, [r, p]) →
    (s.dma 1).state = .running → (s.dma 1).done = 256 * s.expSpan → 1 < s.dmas.length → fld (s.reg Off.REC_EXP_CFG) 4 3 = 4 →
    ∃ t, exec (.exportEnd 0) s = .next t ∧ t.erec.state = .clearing ∧ t.erec.clearWaits = none ∧ t.nv.nand.clear.map (·.kept) = some kept ∧
      (t.dma 1).state = .done ∧ OnlyIn [.regs, .nv, .icus, .isl, .erec, .dmas] s t) ∧
  (∀ (s : State) (l : Nat) (p : Packet) (w : Posted), RegsWf s → s.packetOk l p = true → p.type = 7 → s.vot.open_ = [] → s.erec.state = .exporting →
    s.erec.clearWaits = none → 1 < s.dmas.length → (s.dma 1).state = .running → p.tag ∉ (s.culvert l).failedTags →
    (s.culvert l).posted.find? (fun x => x.tag == p.tag) = some w → w.dma = some 1 →
    ∃ t, exec (.wrError l p) s = .next t ∧ t.erec.state = .ready ∧ (t.dma 1).state = .error ∧ (t.dma 1).error = 3 ∧ Raised Irq.REC_EXPORT_DONE t ∧
      t.reg Off.REC_EXP_STATUS = mkWord [(0, 4), (4, 5), (8, fld (s.reg Off.REC_EXP_STATUS) 8 8)] ∧ (t.culvert l).posted = (s.culvert l).posted.erase w ∧
      OnlyIn (.out :: .vot :: .brg :: .dmas :: recParts) s t)

/-! ### Firmware update, life cycle, SEC -/

/-- UPDATE_BEGIN, UPDATE_VERIFY, UPDATE_ABORT, UPDATE_ACTIVATE, ERASE_COMPLETE, BLOCK_SUBMIT and NOR_FAILURE (R516 to R523, Table 17.15). In BOOT recovery
an activation resets the module with a cause that the spec does not give (log 18). -/
def Obligations.FirmwareUpdate : Prop :=
  (∀ (s : State) (v : Word) (x : Nat), s.up = true → fld v 0 4 = 1 → fld v 16 16 = 0x5550 → fld v 4 4 = x + 1 → x < 4 →
    s.stagingOn = false → s.updMode = true →
    ∃ t, exec (.updateBegin v) s = .next t ∧ t.nv = { s.nv with slots := modAt s.nv.slots x fun y => y.put (s.targetB x) ⟨.erasing, []⟩ } ∧
      t.upd = { s.upd with state := 1, cause := 0, detail := 0, seq := s.upd.seq + 1, lastOp := 1 } ∧ OnlyIn [.nv, .upd] s t) ∧
  (∀ (s : State) (c : Instr) (v : Word) (op x m cause : Nat), s.up = true → op = fld v 0 4 → x = fld v 4 4 → m = fld v 8 4 →
    (c = .updateBegin v ∧ op = 1 ∨ c = .updateVerify v ∧ op = 2 ∨ c = .updateActivate v ∧ op = 3 ∨ c = .updateAbort v ∧ op = 4) →
    (fld v 16 16 ≠ 0x5550 ∧ cause = 1 ∨ fld v 16 16 = 0x5550 ∧
      (op ≠ 3 ∧ (x = 0 ∨ 4 < x) ∧ cause = 2 ∨ op = 3 ∧ m = 0 ∧ cause = 2 ∨
       op ≠ 3 ∧ 1 ≤ x ∧ x ≤ 4 ∧
         (op = 1 ∧ s.stagingOn = true ∧ cause = 3 ∨ op = 1 ∧ s.stagingOn = false ∧ s.updMode = false ∧ cause = 6 ∨
          op = 2 ∧ (s.target (x - 1)).state ≠ .received ∧ cause = 4 ∨
          op = 4 ∧ (s.target (x - 1)).state ∉ [SlotState.erasing, .receiving, .received] ∧ cause = 4) ∨
       op = 3 ∧ m ≠ 0 ∧ (∃ y, y < 4 ∧ m.testBit y = true ∧ (s.target y).state ≠ .verified) ∧ cause = 4 ∨
       op = 3 ∧ m ≠ 0 ∧ (∀ y, y < 4 → m.testBit y = true → (s.target y).state = .verified) ∧
         (s.stagingOn = true ∧ cause = 3 ∨ s.stagingOn = false ∧ s.rejoining = true ∧ cause = 7 ∨
          s.stagingOn = false ∧ s.rejoining = false ∧ s.updMode = false ∧ cause = 6))) →
    ∃ t, exec c s = .next t ∧ t.upd = { s.upd with state := 3, cause := cause, detail := 0, seq := s.upd.seq + 1, lastOp := op } ∧
      Raised Irq.UPD_CMD_DONE t ∧ OnlyIn [.icus, .upd] s t) ∧
  (∀ (s : State) (v : Word) (x d : Nat) (n : NorSlot), RegsWf s → s.up = true → fld v 0 4 = 2 → fld v 16 16 = 0x5550 → fld v 4 4 = x + 1 → x < 4 →
    n = s.target x → n.state = .received →
    ∃ t, exec (.updateVerify v) s = .next t ∧ t.upd.seq = s.upd.seq + 1 ∧ t.upd.lastOp = 2 ∧ Raised Irq.UPD_CMD_DONE t ∧
      (d = s.checkImage x n → d = 0 → t.upd.state = 2 ∧ t.upd.cause = 0 ∧ t.upd.detail = 0 ∧
        t.nv = { s.nv with slots := modAt s.nv.slots x fun y => y.put (s.targetB x) { n with state := .verified } } ∧
        t.regs = s.regs ∧ t.erec = s.erec ∧ t.isl = s.isl) ∧
      (d = s.checkImage x n → d ≠ 0 → t.upd.state = 4 ∧ t.upd.cause = 8 ∧ t.upd.detail = d ∧
        t.nv = { s.nv with slots := modAt s.nv.slots x fun y => y.put (s.targetB x) { n with state := .invalid } } ∧
        t.reg Off.UPD_VERIFY_FAILS = s.reg Off.UPD_VERIFY_FAILS + 1 ∧
        Recorded 0x0B02 [iU8 1 (x + 1), iU8 2 (b2n (s.targetB x)), iU8 3 8, iU8 4 d] s t) ∧
      RegsOnly [Off.UPD_VERIFY_FAILS, Off.REC_LOST_CNT] s t ∧ OnlyIn (.nv :: .upd :: recParts) s t) ∧
  (∀ (s : State) (v : Word) (x : Nat) (n : NorSlot), s.up = true → fld v 0 4 = 4 → fld v 16 16 = 0x5550 → fld v 4 4 = x + 1 → x < 4 →
    n = s.target x → n.state ∈ [SlotState.erasing, .receiving, .received] →
    ∃ t, exec (.updateAbort v) s = .next t ∧ t.upd = { s.upd with state := 2, cause := 0, detail := 0, seq := s.upd.seq + 1, lastOp := 4 } ∧
      t.nv = { s.nv with slots := modAt s.nv.slots x fun y => y.put (s.targetB x) { n with state := .invalid } } ∧
      Raised Irq.UPD_CMD_DONE t ∧ OnlyIn [.nv, .icus, .upd] s t) ∧
  (∀ (s : State) (x : Nat), s.up = true → x < 4 →
    ((s.target x).state = .erasing → s.norBusy (s.targetB x) = false → ∃ t, exec (.eraseComplete (x + 1)) s = .next t ∧
      t.nv = { s.nv with slots := modAt s.nv.slots x fun y => y.put (s.targetB x) ⟨.receiving, []⟩ } ∧
      t.upd = (if s.upd.state = 1 ∧ s.upd.lastOp = 1 then { s.upd with state := 2, cause := 0, detail := 0 } else s.upd) ∧
      (s.upd.state = 1 → s.upd.lastOp = 1 → Raised Irq.UPD_CMD_DONE t) ∧ OnlyIn [.nv, .icus, .upd] s t) ∧
    ((s.target x).state ≠ .erasing ∨ s.norBusy (s.targetB x) = true → exec (.eraseComplete (x + 1)) s = .next s)) ∧
  (∀ (s : State) (b : List Byte) (off len total x : Nat) (data : List Byte) (n : NorSlot), RegsWf s → s.up = true → off = beAt b 0 4 → len = beAt b 4 2 →
    data = slice b 8 len → b.length = 12 + len → beAt b (8 + len) 4 = (crc32c (b.take (8 + len))).toNat → s.receiving = some x → n = s.target x →
    total = 4096 + hdrLen n.header → off % 4096 = 0 → 1 ≤ len → len ≤ 4096 →
    (off = 0 ∧ headerValid x data = true ∨ off ≠ 0 ∧ n.header ≠ [] ∧ off + len ≤ total ∧ (len = 4096 ∨ off + len = total)) →
    (look n.blocks (off / 4096) = none ∨ look n.blocks (off / 4096) = some data) →
    ∃ t bs, exec (.blockSubmit b) s = .next t ∧ bs = put n.blocks (off / 4096) data ∧
      t.nv = { s.nv with slots := modAt s.nv.slots x fun y => y.put (s.targetB x) ⟨if bs.length = imageBlocks (hdrLen ((look bs 0).getD [])) then .received else .receiving, bs⟩ } ∧
      t.upd = { s.upd with blkState := 2, blkCause := 0, blkSeq := s.upd.blkSeq + 1 } ∧
      t.reg Off.UPD_BLOCKS_OK = s.reg Off.UPD_BLOCKS_OK + 1 ∧ RegsOnly [Off.UPD_BLOCKS_OK] s t ∧ OnlyIn [.regs, .nv, .upd] s t) ∧
  (∀ (s : State) (b : List Byte) (off len total x cause : Nat) (data : List Byte) (n : NorSlot), RegsWf s → s.up = true → off = beAt b 0 4 → len = beAt b 4 2 →
    data = slice b 8 len → n = s.target x → total = 4096 + hdrLen n.header →
    (s.receiving = none ∧ cause = 2 ∨
     s.receiving = some x ∧ (b.length ≠ 12 + len ∨ beAt b (8 + len) 4 ≠ (crc32c (b.take (8 + len))).toNat) ∧ cause = 3 ∨
     s.receiving = some x ∧ b.length = 12 + len ∧ beAt b (8 + len) 4 = (crc32c (b.take (8 + len))).toNat ∧
       ((off % 4096 ≠ 0 ∨ len = 0 ∨ 4096 < len) ∧ cause = 4 ∨
        off % 4096 = 0 ∧ 1 ≤ len ∧ len ≤ 4096 ∧
          (off ≠ 0 ∧ n.header = [] ∧ cause = 6 ∨ off = 0 ∧ len < 4096 ∧ cause = 4 ∨ off = 0 ∧ len = 4096 ∧ headerValid x data = false ∧ cause = 7 ∨
           off ≠ 0 ∧ n.header ≠ [] ∧ len < 4096 ∧ off + len < total ∧ cause = 4 ∨ off ≠ 0 ∧ n.header ≠ [] ∧ total < off + len ∧ cause = 5 ∨
           off ≠ 0 ∧ n.header ≠ [] ∧ off + len ≤ total ∧ (len = 4096 ∨ off + len = total) ∧
             ((look n.blocks (off / 4096)).any fun d => d != data) = true ∧ cause = 8))) →
    ∃ t, exec (.blockSubmit b) s = .next t ∧ t.upd = { s.upd with blkState := 3, blkCause := cause, blkSeq := s.upd.blkSeq + 1 } ∧
      t.reg Off.UPD_BLOCK_REJECTS = s.reg Off.UPD_BLOCK_REJECTS + 1 ∧ RegsOnly [Off.UPD_BLOCK_REJECTS] s t ∧ OnlyIn [.regs, .upd] s t) ∧
  (∀ (s : State) (n x : Nat) (b : Bool) (y : NorSlot), s.up = true → n < 8 → x = n / 2 → b = (n % 2 == 1) → y = (s.typeSlots x).slot b →
    ∃ t, exec (.norFailure n) s = .next t ∧ t.sys = { s.sys with norFault := true } ∧
      t.nv = { s.nv with slots := modAt s.nv.slots x fun z => z.put b { y with state := .invalid } } ∧
      (b = s.targetB x → y.state ∈ [SlotState.erasing, .receiving] → Raised Irq.UPD_CMD_DONE t ∧ Recorded 0x0B02 [iU8 1 (x + 1), iU8 2 (b2n b), iU8 3 9, iU8 4 0] s t ∧
        t.upd.state = 4 ∧ t.upd.cause = 9 ∧ t.upd.detail = 0 ∧ (y.state = .receiving → t.upd.blkState = 3 ∧ t.upd.blkCause = 9)) ∧
      (b ≠ s.targetB x ∨ y.state ∉ [SlotState.erasing, .receiving] → t.upd = s.upd ∧ Recorded 0x0B01 [iU8 1 (x + 1), iU8 2 (b2n b)] s t) ∧
      RegsOnly [Off.REC_LOST_CNT] s t ∧ OnlyIn (.sys :: .nv :: .upd :: recParts) s t) ∧
  (∀ (s : State) (v : Word) (m : Nat) (c : Nat × Nat × Nat), s.up = true → fld v 0 4 = 3 → fld v 16 16 = 0x5550 → m = fld v 8 4 → m ≠ 0 → s.nv.slots.length = 4 →
    (∀ x, x < 4 → m.testBit x = true → (s.target x).state = .verified) → s.stagingOn = false → s.rejoining = false → s.updMode = true →
    ∃ t, exec (.updateActivate v) s = .next t ∧
      (c = s.crossCheck (fun x => if m.testBit (x - 1) then some (s.target (x - 1)).header else s.runHeader x) (fun _ => true) →
        (c.1 = 2 → t.upd = { s.upd with state := 3, cause := 5, detail := 0, seq := s.upd.seq + 1, lastOp := 3, compat := 2, typeX := c.2.1, typeY := c.2.2 } ∧
          Raised Irq.UPD_CMD_DONE t ∧ OnlyIn [.icus, .upd] s t) ∧
        (c.1 ≠ 2 → s.sys.recovery = false →
          t.upd = { s.upd with state := 1, cause := 0, detail := 0, seq := s.upd.seq + 1, lastOp := 3, compat := c.1, typeX := c.2.1, typeY := c.2.2 } ∧
          t.sys = { s.sys with warmMask := BitVec.ofNat 4 m, warmArmed := true } ∧
          (∀ x, x < 4 → t.typeSlots x = (if m.testBit x then { s.typeSlots x with trial := some (!(s.typeSlots x).runB) } else s.typeSlots x)) ∧
          OnlyIn [.sys, .nv, .upd] s t) ∧
        (c.1 ≠ 2 → s.sys.recovery = true → t.sys.mode = .boot ∧ t.isl.resetCause = fld (Config.freeWord s.free) 0 4 ∧ t.regs = [] ∧
          (∀ x, x < 4 → t.typeSlots x = (if m.testBit x then { s.typeSlots x with markB := s.targetB x, trial := none } else s.typeSlots x)))))

/-- The warm restart (R524 to R527): ACTIVATE_PAUSE and WARM_RESTART_COMPLETE. -/
def Obligations.WarmRestart : Prop :=
  (∀ (s u : State), s.boundariesOn = true → s.sys.warmArmed = true → s.cyc.running = false → u = (if s.pointSource then s else toTb2 (s.nextBoundary * nsUnit) s) →
    ∃ t, exec .activatePause s = .next t ∧ t.now = u.now ∧
      t.sys = { s.sys with warmArmed := false, warmPause := true, pauseAt := u.now, netA := t.sys.netA, netB := t.sys.netB, guardianTill := t.sys.guardianTill } ∧
      t.ksp = { Reset.ksp with lockouts := s.ksp.lockouts, active := s.ksp.active } ∧ t.vot.open_ = [] ∧ t.vot.kept = [] ∧
      (∀ l, t.inVote l = s.inVote l ∧ (s.inVote l = true → (∀ x ∈ t.latches, x.lane ≠ some l) ∧ (∀ x ∈ t.loWrites, x.lane ≠ some l) ∧
        (t.vot.lanes.get l).digest = none ∧ (t.vot.lanes.get l).handed = none ∧
        t.reg (Off.VOT_PATH_MASK_DI + 4 * l.idx) = 0 ∧ t.reg (Off.VOT_PATH_MASK_MS + 4 * l.idx) = 0 ∧
        (s.sys.warmMask.getLsbD 1 = false → s.chk.role ≠ .active → t.icu l = Reset.icu))) ∧
      (s.sys.warmMask.getLsbD 1 = false → t.sys.netA = s.sys.netA ∧ t.sys.netB = s.sys.netB ∧ t.sys.guardianTill = s.sys.guardianTill ∧ t.odo = u.odo ∧ t.sup = u.sup) ∧
      (s.sys.warmMask.getLsbD 1 = true → t.sys.netA.from_ = u.now ∧ t.sys.netA.till ≤ u.now + 20000000 ∧ t.sys.netB.from_ = t.sys.netA.till ∧
        t.sys.netB.till ≤ t.sys.netA.till + 20000000 ∧ t.sys.guardianTill ≤ u.now + 20000000 ∧ t.odo = { u.odo with resume := true } ∧
        (s.sup.lock ≠ .off → t.sup.lock = .acquire)) ∧
      OnlyIn [.free, .regs, .latches, .loWrites, .out, .sys, .isl, .vot, .icus, .erec, .odo, .sup, .brg, .ksp] u t) ∧
  (∀ (s u : State) (ok : BitVec 3), s.up = true → s.sys.warmPause = true → (s.lanesIn.filter fun l => ok.getLsbD l.idx).length < 2 →
    u = advanceTo (s.sys.pauseAt + s.pauseNs) s →
    ∃ t, exec (.warmRestartComplete ok) s = .next t ∧ ResetTo 7 u t) ∧
  (∀ (s u : State) (ok : BitVec 3), s.up = true → s.sys.warmPause = true → 2 ≤ s.lanesIn.length → (∀ l, s.inVote l = true → ok.getLsbD l.idx = true) →
    s.nv.slots.length = 4 → u = advanceTo (s.sys.pauseAt + s.pauseNs) s →
    ∃ t, exec (.warmRestartComplete ok) s = .next t ∧ t.isl = { u.isl with resetCause := 7 } ∧ t.nv = { u.nv with slots := t.nv.slots, warmCount := s.nv.warmCount + 1 } ∧
      t.sys = { s.sys with warmPause := false, cpfValid := s.sys.cpfValid || s.sys.warmMask.getLsbD 3 } ∧ t.cyc = { s.cyc with first := true, lanes := t.cyc.lanes } ∧
      t.chk = { s.chk with fullNext := true } ∧
      (∀ x, x < 4 → t.typeSlots x = (if s.sys.warmMask.getLsbD x then { s.typeSlots x with runB := (s.typeSlots x).mark } else s.typeSlots x)) ∧
      OnlyIn [.sys, .isl, .nv, .cyc, .chk] u t) ∧
  (∀ (s u : State) (ok : BitVec 3) (l : Lane), s.up = true → s.sys.warmPause = true → s.lanesIn.length = 3 → (∀ m, ok.getLsbD m.idx = decide (m ≠ l)) →
    u = advanceTo (s.sys.pauseAt + s.pauseNs) s →
    ∃ t, exec (.warmRestartComplete ok) s = .next t ∧ LeftVote l .image s t ∧ t.isl.resetCause = 7 ∧ t.sys.warmPause = false ∧ t.nv.warmCount = s.nv.warmCount + 1 ∧
      OnlyIn exclParts u t)

/-- Life cycle and test access (R532, R535 to R538, Tables 17.11, 17.12): PROVISION, RELEASE, RETURN_TO_MAKER, SCRAP, OPEN_BOUNDARY_SCAN, OPEN_DEBUG and
TAP_INSTRUCTION. The cause of the reset that follows a change is not given (log 18). -/
def Obligations.LifeCycle : Prop :=
  (∀ (s : State) (c : Instr) (role : Nat) (was : Life), was = s.nv.life →
    (c = .provision role ∧ (role < 4 ∨ s.held = false ∨ was ∉ [Life.manufacture, .fieldOpen, .returned]) ∨
     c = .release role ∧ (role < 3 ∨ s.held = false ∨ was ≠ .provisioned ∨ s.releasable = false) ∨
     c = .returnToMaker role ∧ (role < 4 ∨ s.held = false ∨ was ∉ [Life.field, .fieldOpen]) ∨
     c = .scrap role ∧ (role < 4 ∨ s.held = false ∨ was = .scrapped) ∨
     c = .openBoundaryScan role ∧ (role < 3 ∨ was ∈ [Life.provisioned, .field] ∧ s.held = false) ∨
     c = .openDebug role ∧ (role < 4 ∨ was ∈ [Life.provisioned, .field] ∧ s.held = false)) →
    exec c s = .next s) ∧
  (∀ (s : State) (c : Instr) (role : Nat) (was now : Life), s.up = true → s.held = true → was = s.nv.life →
    (c = .provision role ∧ 4 ≤ role ∧ was ∈ [Life.manufacture, .fieldOpen, .returned] ∧ now = .provisioned ∨
     c = .release role ∧ 3 ≤ role ∧ was = .provisioned ∧ s.releasable = true ∧ now = .field ∨
     c = .returnToMaker role ∧ 4 ≤ role ∧ was ∈ [Life.field, .fieldOpen] ∧ now = .returned ∨
     c = .scrap role ∧ 4 ≤ role ∧ was ≠ .scrapped ∧ now = .scrapped ∨
     c = .openBoundaryScan role ∧ 3 ≤ role ∧ was ∈ [Life.provisioned, .field] ∧ now = .fieldOpen ∨
     c = .openDebug role ∧ 4 ≤ role ∧ was ∈ [Life.provisioned, .field] ∧ now = .fieldOpen) →
    ∃ t, exec c s = .next t ∧ (∃ cause, ResetTo cause (if now = .fieldOpen ∧ (wipeBanks 3 s).1 = true then advance 2000000 s else s) t) ∧ t.nv.life = now ∧ t.nv.lifeWas = was ∧
      t.nv.lifeChanges = (if s.nv.lifeChanges = 255 then 255 else s.nv.lifeChanges + 1) ∧
      (now = .provisioned → t.nv.identity = some s.nv.keysMade ∧ t.nv.keysMade = s.nv.keysMade + 1 ∧ t.nv.imageKey = s.nv.imageKey ∧
        t.nv.factory = del s.nv.factory (objKey 0xB101 2) ∧ t.nv.tamper = false) ∧
      (now = .field → t.nv.identity = s.nv.identity ∧ t.nv.imageKey = s.nv.imageKey ∧ t.nv.factory = s.nv.factory) ∧
      (now ∈ [Life.returned, .scrapped, .fieldOpen] → t.nv.identity = none ∧ t.nv.imageKey = none ∧ t.nv.keysMade = s.nv.keysMade ∧
        t.nv.factory = (if now = .scrapped then [] else s.nv.factory)) ∧
      (now = .fieldOpen → (t.upd.scanOpen = true → s.upd.scanOpen = true ∨ c = .openBoundaryScan role ∧ t.isl.testHold = true) ∧
        (t.upd.debugOpen = true → s.upd.debugOpen = true ∨ c = .openDebug role ∧ t.isl.testHold = true)) ∧
      (now = .fieldOpen → (wipeBanks 3 s).1 = true → (t.upd.scanOpen = true ∨ c = .openDebug role) ∧ (t.upd.debugOpen = true ∨ c = .openBoundaryScan role)) ∧
      (now ≠ .fieldOpen → t.upd.scanOpen = s.upd.scanOpen ∧ t.upd.debugOpen = s.upd.debugOpen ∧ t.isl.testHold = s.isl.testHold)) ∧
  (∀ (s : State) (c : Instr) (role : Nat) (scan debug : Bool) (kind : Nat), s.up = true → s.nv.life ∉ [Life.provisioned, .field] →
    (c = .openBoundaryScan role ∧ 3 ≤ role ∧ kind = 1 ∧ scan = true ∧ debug = s.upd.debugOpen ∨
     c = .openDebug role ∧ 4 ≤ role ∧ kind = 2 ∧ scan = s.upd.scanOpen ∧ debug = true) →
    ∃ t, exec c s = .next t ∧ t.upd = { s.upd with scanOpen := scan, debugOpen := debug } ∧ t.isl.testHold = true ∧ Resolved t ∧
      t.dio.groups = (bothGroups 7 true s).dio.groups ∧ t.ksp = { s.ksp with sessions := s.ksp.sessions.filter fun x => !decide (3 ≤ x.role) } ∧
      Raised Irq.UPD_TEST_OPEN t ∧ InQueue 0x0B06 [iU8 1 kind] s t ∧ OnlyIn (.out :: .dio :: .upd :: .ksp :: recParts) s t) ∧
  (∀ (s : State) (ir : Nat), RegsWf s → s.up = true → s.upd.scanOpen = false → s.upd.debugOpen = false → 2 ≤ ir →
    ∃ t, exec (.tapInstruction ir) s = .next t ∧ t.reg Off.UPD_TAP_DENIED = s.reg Off.UPD_TAP_DENIED + 1 ∧
      RegsOnly [Off.UPD_TAP_DENIED] s t ∧ OnlyIn [.regs] s t) ∧
  (∀ (s : State) (ir : Nat), ir < 2 ∨ s.upd.scanOpen = true ∨ s.upd.debugOpen = true → exec (.tapInstruction ir) s = .next s)

/-- The SEC engines (R532, R533, Table 17.17): SEC_SHA512, SEC_VERIFY_PSS and SEC_SIGN_APP in every lane in vote; and UPD_RNG_READ (Table 17.14), whose
value is a free value, the same for all lanes. -/
def Obligations.SecEngines : Prop :=
  (∀ (s : State) (c : Instr) (v : Word) (l : Lane) (op n src dst len : Nat), RegsWf s → MemsWf s → s.up = true → op = fld v 0 4 →
    (c = .secSha512 v ∧ op = 1 ∧ n = 64 ∨ c = .secVerifyPss v ∧ op = 2 ∧ n = 512 ∨ c = .secSignApp v ∧ op = 3 ∧ n = 512) →
    src = s.pair40 l Off.SEC_SRC_LO → dst = s.pair40 l Off.SEC_DST_LO → len = fld (s.reg (laneKey l Off.SEC_LEN)) 0 25 →
    (s.inVote l = false → ∃ t, exec c s = .next t ∧ t.secs.get l = s.secs.get l ∧ t.mem l = s.mem l ∧ t.icu l = s.icu l ∧
      (∀ o ∈ [Off.SEC_OP_CNT, Off.SEC_REJECT_CNT], t.reg (laneKey l o) = s.reg (laneKey l o))) ∧
    (∀ cause : Nat, s.inVote l = true → (fld v 16 16 ≠ 0x5345 ∧ cause = 1 ∨ fld v 16 16 = 0x5345 ∧
        (op = 2 ∧ s.signKey (fld v 8 2) = none ∧ cause = 3 ∨ op = 3 ∧ s.nv.identity = none ∧ cause = 3 ∨
         op = 3 ∧ s.nv.identity ≠ none ∧ (s.mem l).secure ≠ .valid ∧ cause = 4 ∨
         (op = 1 ∨ op = 2 ∧ s.signKey (fld v 8 2) ≠ none ∨ op = 3 ∧ s.nv.identity ≠ none ∧ (s.mem l).secure = .valid) ∧
           (secRange src len = false ∨ secRange dst n = false ∨ 16777216 < len) ∧ cause = 5)) →
      ∃ t, exec c s = .next t ∧ t.secs.get l = ⟨3, false, cause, (s.secs.get l).seq + 1⟩ ∧ t.mem l = s.mem l ∧ Irq.SEC_DONE ∈ (t.icu l).pend ∧
        t.reg (laneKey l Off.SEC_REJECT_CNT) = s.reg (laneKey l Off.SEC_REJECT_CNT) + 1 ∧ t.reg (laneKey l Off.SEC_OP_CNT) = s.reg (laneKey l Off.SEC_OP_CNT) ∧
        RegsOnly [Off.SEC_OP_CNT, Off.SEC_REJECT_CNT] s t ∧ OnlyIn [.regs, .icus, .mems, .secs] s t) ∧
    (s.inVote l = true → fld v 16 16 = 0x5345 → secRange src len = true → secRange dst n = true → len ≤ 16777216 →
      (op = 1 ∨ op = 2 ∧ s.signKey (fld v 8 2) ≠ none ∨ op = 3 ∧ s.nv.identity ≠ none ∧ (s.mem l).secure = .valid) →
      ∃ t, exec c s = .next t ∧ (t.secs.get l).state = 2 ∧ (t.secs.get l).cause = 0 ∧ (t.secs.get l).seq = (s.secs.get l).seq + 1 ∧ Irq.SEC_DONE ∈ (t.icu l).pend ∧
        t.reg (laneKey l Off.SEC_OP_CNT) = s.reg (laneKey l Off.SEC_OP_CNT) + 1 ∧ t.reg (laneKey l Off.SEC_REJECT_CNT) = s.reg (laneKey l Off.SEC_REJECT_CNT) ∧
        (op = 1 → (t.mem l).rd dst 64 = beBytes 64 (Config.sha512 ((s.mem l).rd src len)).toNat ∧ (t.secs.get l).valid = false) ∧
        (op = 2 → t.mem l = s.mem l ∧ (t.secs.get l).valid = ((s.signKey (fld v 8 2)).map fun k => Config.pssVerify k ((s.mem l).rd src len) ((s.mem l).rd dst 512)).getD false) ∧
        (op = 3 → (t.mem l).rd dst 512 = s.identitySign (signPrefix ++ (s.mem l).rd src len) ∧ (t.secs.get l).valid = false) ∧
        RegsOnly [Off.SEC_OP_CNT, Off.SEC_REJECT_CNT] s t ∧ OnlyIn [.regs, .icus, .mems, .secs] s t)) ∧
  (∀ (s : State) (l : Lane) (core : Nat), s.up = true → s.inVote l = true →
    ∃ t, exec (.updRngRead l core) s = .next t ∧ t.vot = s.vot.answered core (Config.freeWord s.free) false ∧ t.free = s.free + 1 ∧ OnlyIn [.free, .vot] s t)

/-! ### Background activities, telemetry, temperatures, sampling, ports -/

/-- Scrubs and refreshes (Table 18.1, R423, R507, R520, R540): DRAM_SCRUB, SPM_SCRUB, MRAM_READ_VERIFY, NOR_REFRESH, NAND_REFRESH and BG_LATE. -/
def Obligations.BackgroundPasses : Prop :=
  (∀ (s : State) (l : Lane) (ws : List (Nat × Nat)) (percent lim cnt a : Nat) (dram done : Bool) (c : Instr), RegsWf s → s.scrubs l = true →
    (c = .dramScrub l ws percent ∧ dram = true ∧ lim = 0x200000000 ∧ done = decide (100 ≤ percent) ∧ cnt = Off.SPM_DRAM_CE_CNT ∧ a = 0 ∨
     c = .spmScrub l ws done ∧ dram = false ∧ lim = 0x400000 ∧ cnt = Off.SPM_SPM_CE_CNT ∧ a = 1) →
    ∃ t, exec c s = .next t ∧
      t.reg (laneKey l cnt) = s.reg (laneKey l cnt) + BitVec.ofNat 32 (ws.filter fun w => decide (w.1 < lim)).length ∧
      SameBytes l s t ∧ (∀ m, m ≠ l → t.mem m = s.mem m) ∧
      (done = true → PassTold a s t ∧ ∀ k, (k % 2 = b2n dram → k ∉ (t.mem l).scrubNow ∧
          (k ∈ (t.mem l).scrubOld ↔ k ∈ (s.mem l).scrubNow ∨ ∃ w ∈ ws, w.1 < lim ∧ k = 2 * (w.1 / 8) + b2n dram)) ∧
        (k % 2 ≠ b2n dram → (k ∈ (t.mem l).scrubNow ↔ k ∈ (s.mem l).scrubNow) ∧ (k ∈ (t.mem l).scrubOld ↔ k ∈ (s.mem l).scrubOld))) ∧
      (done = false → t.tlm.late = s.tlm.late ∧ t.tlm.latePass = s.tlm.latePass ∧ (t.mem l).scrubOld = (s.mem l).scrubOld ∧
        ∀ k, k ∈ (t.mem l).scrubNow ↔ k ∈ (s.mem l).scrubNow ∨ ∃ w ∈ ws, w.1 < lim ∧ k = 2 * (w.1 / 8) + b2n dram) ∧
      t.tlm = { s.tlm with late := t.tlm.late, latePass := t.tlm.latePass, progress := if dram then s.tlm.progress.set l (if done then 0 else percent) else s.tlm.progress, periodAt := if done then (s.tlm.periodAt.set (10 + 2 * l.idx + a) s.now).set a s.now else s.tlm.periodAt } ∧
      RegsOnly [Off.SPM_DRAM_CE_CNT, Off.SPM_SPM_CE_CNT, Off.SPM_DRAM_ERR_LO, Off.SPM_DRAM_ERR_HI, Off.SPM_DRAM_ERR_INFO, Off.SPM_SPM_ERR_ADDR, Off.SPM_SPM_ERR_INFO, Off.REC_LOST_CNT] s t ∧
      OnlyIn (.mems :: .tlm :: recParts) s t) ∧
  (∀ (s : State) (ok spare : Bool), s.isl.powered = true → 3 ≤ s.sys.mode.code → s.chk.takeover = none → s.sys.warmPause = false →
    ∃ t, exec (.mramReadVerify ok spare) s = .next t ∧ PassTold 2 s t ∧ PairReported s t ∧
      (ok = true ∨ spare = true → t.chk = s.settled { s.chk with mramOk := s.chk.mramOk || !s.sys.mramFault } ∧ t.sys = s.sys ∧ t.erec = s.erec ∧ t.isl = s.isl) ∧
      (ok = false → spare = false → t.chk = s.settled { s.chk with mramOk := false } ∧ t.sys = { s.sys with mramFault := true } ∧
        (s.sys.mramFault = false → Recorded 0x0303 [iU8 1 1] s t)) ∧
      RegsOnly [Off.REC_LOST_CNT] s t ∧ OnlyIn (.sys :: .chk :: .tlm :: recParts) s t) ∧
  (∀ (s : State) (slot blocks : Nat) (fails b may : Bool) (ts : TypeSlots) (n : NorSlot) (keep : List (Nat × Nat)) (seen : BitVec 8), s.up = true → slot < 8 →
    s.norBusy b = false → seen = s.tlm.norSeen ||| 1#8 <<< slot → ts = s.typeSlots (slot / 2) → b = (slot % 2 == 1) → n = ts.slot b → keep = (s.upd.failing.filter fun x => x.1 != slot) →
    may = (decide (ts.mark ≠ b ∧ ts.runB ≠ b ∧ ts.markB ≠ b) || decide ((ts.slot (!b)).state = .verified)) →
    ∃ t, exec (.norRefresh slot blocks fails) s = .next t ∧
      (seen = 255 ∧ t.upd.failing = [] → PassTold 3 s t ∧ t.tlm.norSeen = 0) ∧
      (¬ (seen = 255 ∧ t.upd.failing = []) → t.tlm.norSeen = seen ∧ t.tlm.latePass = s.tlm.latePass ∧ (may = true ∨ fails = false → t.tlm.late = s.tlm.late)) ∧
      (fails = false → t.upd = { s.upd with failing := keep } ∧ t.erec = s.erec ∧ t.isl = s.isl) ∧
      (fails = true → beAt n.header 68 64 ≠ (Config.sha512 n.payload).toNat → t.upd = s.upd ∧ t.erec = s.erec ∧ t.isl = s.isl) ∧
      (fails = true → beAt n.header 68 64 = (Config.sha512 n.payload).toNat → may = true → t.upd = { s.upd with failing := keep } ∧
        (s.recUp = true → s.erec.queue.length + blocks ≤ 64 → t.erec.queue.length = s.erec.queue.length + blocks) ∧
        (1 ≤ blocks → InQueue 0x0E03 [iU8 1 0, iU8 2 slot] s t)) ∧
      (fails = true → beAt n.header 68 64 = (Config.sha512 n.payload).toNat → may = false → t.upd = { s.upd with failing := (slot, blocks) :: keep } ∧
        t.tlm = { s.tlm with late := s.tlm.late ||| 8#10, norSeen := seen } ∧ Recorded 0x0B01 [iU8 1 (slot / 2 + 1), iU8 2 (b2n b)] s t) ∧
      RegsOnly [Off.REC_LOST_CNT] s t ∧ OnlyIn (.upd :: .tlm :: recParts) s t) ∧
  (∀ (s : State) (slot blocks : Nat) (fails : Bool), s.norBusy (slot % 2 == 1) = true → exec (.norRefresh slot blocks fails) s = .next s) ∧
  (∀ (s : State) (n m f : Nat), RegsWf s → s.recUp = true → s.erec.state ≠ .failed →
    ∃ t, exec (.nandRefresh n m f) s = .next t ∧ PassTold 4 s t ∧ (s.erec.queue.length + n + m ≤ 64 → t.erec.queue.length = s.erec.queue.length + n + m) ∧
      (1 ≤ n + m → InQueue 0x0E03 [iU8 1 1] s t) ∧ (1 ≤ m + f → Raised Irq.REC_STORAGE t) ∧
      t.reg Off.REC_BAD_BLOCKS = s.reg Off.REC_BAD_BLOCKS + BitVec.ofNat 32 f ∧
      t.erec.state = (if 1 ≤ f ∧ 7872 ≤ s.nv.nand.retired + f then .failed else s.erec.state) ∧
      t.nv = { s.nv with nand := { s.nv.nand with retired := s.nv.nand.retired + f, badCrc := s.nv.nand.badCrc.filter fun b => decide (m = 0) || !b.1 } } ∧
      RegsOnly [Off.REC_LOST_CNT, Off.REC_BAD_BLOCKS] s t ∧ OnlyIn (.nv :: .tlm :: recParts) s t) ∧
  (∀ (s u : State) (a : Nat) (due : Bool), RegsWf s → s.bgRuns a = true → u = advanceTo (s.periodStart a + bgPeriod a) s →
    due = ((s.tlm.lateAt.getD a none).all fun x => decide (x + 3600 ≤ u.nv.opSeconds.toNat)) →
    ∃ t, exec (.bgLate a) s = .next t ∧ t.reg Off.TLM_BG_LATE_CNT = s.reg Off.TLM_BG_LATE_CNT + 1 ∧ Raised Irq.TLM_BG_LATE t ∧
      t.tlm = { s.tlm with late := s.tlm.late ||| 1#10 <<< a, latePass := s.tlm.latePass ||| 1#10 <<< a, periodAt := u.nextPeriods a, lateAt := if due then s.tlm.lateAt.set a (some u.nv.opSeconds.toNat) else s.tlm.lateAt } ∧
      (due = true → Recorded 0x0E01 [iU8 1 a] u t) ∧ (due = false → t.erec = s.erec ∧ t.isl = u.isl) ∧
      t.reg Off.TLM_PUB_MISSED = s.reg Off.TLM_PUB_MISSED + (if a = 9 then 1 else 0) ∧
      RegsOnly [Off.TLM_BG_LATE_CNT, Off.TLM_PUB_MISSED, Off.REC_LOST_CNT] s t ∧ OnlyIn (.tlm :: recParts) u t)

/-- Telemetry and temperatures (R544, R580, Tables 18.2, 19.13): TELEMETRY_SNAPSHOT, LINK_MARGIN_CHECK, TEMP_EXCURSION_BEGIN, TEMP_EXCURSION_END,
TEMP_EXCURSION_LIMIT and THERMAL_SHUTDOWN. -/
def Obligations.Telemetry : Prop :=
  (∀ (s u : State) (t0 : Int) (ts : List Int) (vin power : Nat) (hot wall : Int) (warn : Bool), s.up = true → 4 ≤ s.sys.mode.code →
    u = toTb2 ((s.time.tb2.ns / 1000000000 + 1) * 1000000000 * nsUnit) s → hot = ts.foldl max t0 → wall = ((t0 :: ts).take 2).foldl max t0 → warn = decide (10 * (fld (s.reg Off.TLM_CFG) 0 8 : Int) < hot) →
    ∃ t, exec (.telemetrySnapshot (t0 :: ts) vin power) s = .next t ∧ t.now = u.now ∧
      t.tlm.pubSeq = s.tlm.pubSeq + 1 ∧ t.tlm.temp = hot ∧ t.tlm.vin = vin ∧ t.tlm.power = power ∧ t.tlm.tempWarn = warn ∧
      t.tlm.excursion = s.tlm.excursion.map (fun e => (e.1, max e.2.1 wall, e.2.2)) ∧
      t.tlm.hotAt = (if 1100 ≤ hot then some (s.tlm.hotAt.getD u.now) else none) ∧ PassTold 9 s t ∧ Raised Irq.TLM_PUBLISHED t ∧
      (warn = true → s.tlm.tempWarn = false → Raised Irq.TLM_TEMP_WARN t ∧ InQueue 0x0E04 [⟨1, 7, beBytes 2 (code 16 hot)⟩] s t) ∧
      (warn = false ∨ s.tlm.tempWarn = true → t.erec = s.erec) ∧
      t.tlm.snapshot.length = 64 ∧ t.tlm.snapshot.take 4 = beBytes 4 (s.tlm.pubSeq + 1).toNat ∧ slice t.tlm.snapshot 4 4 = beBytes 4 t.nv.opSeconds.toNat ∧
      slice t.tlm.snapshot 12 6 = beBytes 2 (code 16 hot) ++ beBytes 2 vin ++ beBytes 2 power ∧
      RegsOnly [Off.REC_LOST_CNT] s t ∧ OnlyIn (.tlm :: recParts) u t) ∧
  (∀ (s : State) (p pp : Nat) (m : Int) (since : Option Nat) (low : List (Option Nat)) (seen : BitVec 22), RegsWf s → s.up = true → s.portUsed p = true →
    since = (if m < (fld (s.reg Off.TLM_CFG) 8 8 : Int) then some ((s.tlm.lowSince.getD p none).getD s.now) else none) → low = s.tlm.lowSince.set p since →
    seen = s.tlm.portSeen ||| 1#22 <<< p →
    pp = ((List.range 22).find? fun q => s.portUsed q && (low.getD q none).any fun x => decide (x + 10000000000 ≤ s.now)).getD p →
    ∃ t, exec (.linkMarginCheck p m) s = .next t ∧ t.tlm.margins = s.tlm.margins.set p (satSigned 16 m) ∧ t.tlm.lowSince = low ∧
      (t.tlm.marginWarn = true ↔ ∃ q x, q < 22 ∧ low.getD q none = some x ∧ s.portUsed q = true ∧ x + 10000000000 ≤ s.now) ∧
      ((∀ q, q < 22 → s.portUsed q = true → seen.getLsbD q = true) → PassTold 7 s t ∧ t.tlm.portSeen = 0) ∧
      ((∃ q, q < 22 ∧ s.portUsed q = true ∧ seen.getLsbD q = false) → t.tlm.portSeen = seen ∧ t.tlm.late = s.tlm.late ∧ t.tlm.latePass = s.tlm.latePass) ∧
      t.tlm = { s.tlm with margins := t.tlm.margins, lowSince := low, marginWarn := t.tlm.marginWarn, late := t.tlm.late, latePass := t.tlm.latePass, portSeen := t.tlm.portSeen, periodAt := t.tlm.periodAt } ∧
      (t.tlm.marginWarn = true → s.tlm.marginWarn = false → t.reg Off.TLM_MARGIN_WARN_CNT = s.reg Off.TLM_MARGIN_WARN_CNT + 1 ∧ Raised Irq.TLM_MARGIN_WARN t ∧
        Recorded 0x0E02 [iU8 1 pp, ⟨2, 7, beBytes 2 (code 16 (t.tlm.margins.getD pp 0))⟩] s t) ∧
      (t.tlm.marginWarn = false ∨ s.tlm.marginWarn = true → t.regs = s.regs ∧ t.icus = s.icus ∧ t.erec = s.erec ∧ t.isl = s.isl) ∧
      RegsOnly [Off.TLM_MARGIN_WARN_CNT, Off.REC_LOST_CNT] s t ∧ OnlyIn (.tlm :: recParts) s t) ∧
  (∀ (s : State) (edge : Int), s.isl.powered = true → s.tlm.excursion = none → 800 < edge →
    ∃ t, exec (.tempExcursionBegin edge) s = .next t ∧ t.tlm = { s.tlm with excursion := some (s.now, edge, false) } ∧ OnlyIn [.tlm] s t) ∧
  (∀ (s : State) (start : Nat) (peak edge : Int) (marked : Bool), s.tlm.excursion = some (start, peak, marked) →
    (edge ≤ 800 → ∃ t, exec (.tempExcursionEnd edge) s = .next t ∧ t.tlm = { s.tlm with excursion := none } ∧
      Recorded 0x0105 [iU32 1 ((s.now - start) / 1000000000), ⟨2, 7, beBytes 2 (code 16 peak)⟩] s t ∧ RegsOnly [Off.REC_LOST_CNT] s t ∧ OnlyIn (.tlm :: recParts) s t) ∧
    (800 < edge → exec (.tempExcursionEnd edge) s = .next s) ∧
    (∃ t, exec .tempExcursionLimit s = .next t ∧ (Config.gradeAX = false ∨ marked = true → t = s) ∧
      (Config.gradeAX = true → marked = false → t.now = max s.now (start + 600000000000) ∧ t.tlm = { s.tlm with excursion := some (start, peak, true) } ∧
        InQueue 0x0105 [iU32 1 ((t.now - start) / 1000000000), ⟨2, 7, beBytes 2 (code 16 peak)⟩] s t) ∧
      RegsOnly [Off.REC_LOST_CNT] s t ∧ OnlyIn (.now :: .nv :: .time :: .tlm :: recParts) s t)) ∧
  (∀ (s : State) (edge : Int), s.tlm.excursion = none → exec (.tempExcursionEnd edge) s = .next s ∧ exec .tempExcursionLimit s = .next s) ∧
  (∀ (s u : State) (peak : Int) (hot : Nat), s.up = true → 1100 ≤ peak → hot = s.tlm.hotAt.getD s.now → u = advanceTo (hot + 1000000000) s →
    ∃ t, exec (.thermalShutdown peak) s = .next t ∧ FellSilent u t ∧
      (s.recUp = true → s.erec.state ≠ .failed → s.erec.queue = [] → s.erec.page = [] → ∃ r ∈ t.nv.nand.circulating, r.body.type = 0x0105 ∧
        r.body.items = [iU32 1 ((u.now - (s.tlm.excursion.map (·.1)).getD hot) / 1000000000), ⟨2, 7, beBytes 2 (code 16 peak)⟩]) ∧ OnlyIn silentParts u t)

/-- Input agreement (R88 to R93): SAMPLE_STROBE. The strobe falls at the next instant of its period; three paths agree on the majority code or the median,
two on a value, a repeated one, or none. PHY_LINK_UP (R139, R140) and PORT_DOWN (Table 1.9). The deviation that a calibration starts from is a free
value. -/
def Obligations.SamplingAndPorts : Prop :=
  (∀ (s : State) (kind due : Nat) (xs : List (Tri Int)), s.up = true → s.dio.enabled = true → kind < 3 → kind < s.vot.strobes.length →
    due = (if s.tb0 % strobePeriod kind = 0 ∧ s.vot.strobes.getD kind 0 ≠ s.tb0 then s.tb0 else (s.tb0 / strobePeriod kind + 1) * strobePeriod kind) →
    ∃ t, exec (.sampleStrobe kind xs) s = .next t ∧ t.now = (toTb0 due s).now ∧ t.vot.strobes.getD kind 0 = due ∧
      (∀ k, k ≠ kind → t.vot.strobes.getD k 0 = s.vot.strobes.getD k 0) ∧
      OnlyIn [.now, .free, .regs, .out, .isl, .nv, .time, .vot, .icus, .erec, .odo, .sup, .dio] s t) ∧
  (∀ (s : State) (x : Tri Int) (m : Int) (tol : Nat), s.up = true → s.dio.enabled = true → 44 < s.vot.agree.length → (s.paths 44).length = 3 →
    m = medInt x.a x.b x.c → tol = fld (s.reg Off.VOT_MEAS_TOL) 24 8 → (x.a - m).natAbs ≤ tol → (x.b - m).natAbs ≤ tol → (x.c - m).natAbs ≤ tol →
    ∃ t, exec (.sampleStrobe 2 [x]) s = .next t ∧ (t.agreeOf 44).last = some m ∧ (t.agreeOf 44).diffs = 0 ∧
      (∀ ch, ch ≠ 44 → t.agreeOf ch = s.agreeOf ch) ∧ OnlyIn [.now, .isl, .nv, .time, .vot, .odo] s t) ∧
  (∀ (s : State) (x : Tri Int) (p q : Lane) (tol rep : Nat), RegsWf s → s.up = true → s.dio.enabled = true → 44 < s.vot.agree.length → s.paths 44 = [p, q] →
    (s.agreeOf 44).pending = none → tol = fld (s.reg Off.VOT_MEAS_TOL) 24 8 → rep = max 1 (fld (s.reg Off.VOT_INPUT_CFG) 8 8) →
    ∃ t, exec (.sampleStrobe 2 [x]) s = .next t ∧
      ((x.get p - x.get q).natAbs ≤ tol → (t.agreeOf 44).last = some (Int.tdiv (x.get p + x.get q) 2) ∧ (t.agreeOf 44).diffs = 0 ∧ t.regs = s.regs) ∧
      (tol < (x.get p - x.get q).natAbs → (t.agreeOf 44).last = (s.agreeOf 44).last ∧ (t.agreeOf 44).diffs = min (rep + 1) ((s.agreeOf 44).diffs + 1) ∧
        t.reg Off.VOT_NOAGREE_CNT = s.reg Off.VOT_NOAGREE_CNT + (if (s.agreeOf 44).diffs < rep then 0 else 1)) ∧
      RegsOnly [Off.VOT_NOAGREE_CNT] s t ∧ OnlyIn [.now, .regs, .isl, .nv, .time, .vot, .odo] s t) ∧
  (∀ (s : State) (x : Tri Int) (v : Int), s.up = true → s.dio.enabled = true → 0 < s.vot.agree.length → (s.paths 0).length = 3 → s.testMarked 0 = false →
    (x.a = v ∧ x.b = v ∨ x.a = v ∧ x.c = v ∨ x.b = v ∧ x.c = v) →
    ∃ t, exec (.sampleStrobe 0 [x]) s = .next t ∧ (t.agreeOf 0).last = some v ∧ (t.agreeOf 0).diffs = 0 ∧ (∀ ch, ch ≠ 0 → t.agreeOf ch = s.agreeOf ch) ∧
      OnlyIn [.now, .regs, .out, .isl, .nv, .time, .vot, .icus, .erec, .odo, .sup, .dio] s t) ∧
  (∀ (s : State) (x : Tri Int) (v w : Int) (l : Lane), RegsWf s → s.up = true → s.dio.enabled = true → 0 < s.vot.agree.length → (s.paths 0).length = 3 →
    s.testMarked 0 = false → (s.agreeOf 0).pending = some l → (s.agreeOf 0).last = some w → x = ⟨v, v, v⟩ →
    ∃ t, exec (.sampleStrobe 0 [x]) s = .next t ∧ (t.agreeOf 0).pending = none ∧
      t.reg Off.VOT_STRADDLE_CNT = s.reg Off.VOT_STRADDLE_CNT + (if v = w then 0 else 1) ∧
      (v = w → t.now ∈ (t.agreeOf 0).times.get l) ∧ (v ≠ w → (t.agreeOf 0).times = (s.agreeOf 0).times)) ∧
  (∀ (s : State) (p speed : Nat) (old : Word), RegsWf s → s.hubOn = true → s.portUsed p = true → p < s.ftn.ports.length → (s.ftn.ports.getD p Reset.port).up = false →
    old = s.reg Off.FTN_TS_CAL_STATUS →
    (speed = portSpeed p → ∃ t, exec (.phyLinkUp p speed) s = .next t ∧
      t.ftn.ports.getD p Reset.port = { s.ftn.ports.getD p Reset.port with up := true, noStamp := false, cal := .measuring, calRun := true, calStep := 0, dev := satSigned 16 (Config.freeInt s.free), partnerDev := none, loopMeas := [], wayMeas := [], noLoop := false } ∧
      (∀ q, q ≠ p → t.ftn.ports.getD q Reset.port = s.ftn.ports.getD q Reset.port) ∧ t.ftn = { s.ftn with ports := t.ftn.ports } ∧ t.free = s.free + 1 ∧
      t.reg (Off.FTN_TS_CORR + 4 * p) = mkWord [(0, code 16 (satSigned 16 (Config.freeInt s.free))), (16, 1)] &&& regMask (Off.FTN_TS_CORR + 4 * p) ∧
      RegsOnly [Off.FTN_TS_CORR + 4 * p] s t ∧ OnlyIn [.free, .regs, .ftn] s t) ∧
    (speed ≠ portSpeed p → ∃ t, exec (.phyLinkUp p speed) s = .next t ∧
      t.ftn.ports.getD p Reset.port = { s.ftn.ports.getD p Reset.port with up := true, noStamp := true } ∧
      (∀ q, q ≠ p → t.ftn.ports.getD q Reset.port = s.ftn.ports.getD q Reset.port) ∧ t.ftn = { s.ftn with ports := t.ftn.ports } ∧
      fld (t.reg Off.FTN_TS_CAL_STATUS) 8 16 = min 65535 (fld old 8 16 + 1) ∧ fld (t.reg Off.FTN_TS_CAL_STATUS) 0 8 = fld old 0 8 ∧
      RegsOnly [Off.FTN_TS_CAL_STATUS] s t ∧ OnlyIn [.regs, .ftn] s t)) ∧
  (∀ (s : State) (p : Nat), s.hubOn = true → 4 ≤ p → p < 22 → p < s.ftn.ports.length → (s.ftn.ports.getD p Reset.port).up = true →
    ∃ t, exec (.portDown p) s = .next t ∧
      t.ftn.ports.getD p Reset.port = { s.ftn.ports.getD p Reset.port with up := false, noStamp := false, delay := none, delays := [], sent := [], echoSeq := 65535, lastCheck := none } ∧
      (∀ q, q ≠ p → t.ftn.ports.getD q Reset.port = s.ftn.ports.getD q Reset.port) ∧ t.ftn = { s.ftn with ports := t.ftn.ports } ∧
      Recorded 0x0703 [iU8 1 p, iU8 2 1] s t ∧ RegsOnly [Off.REC_LOST_CNT] s t ∧ OnlyIn (.ftn :: recParts) s t)
end

