-- ==== Sys2Proof/Laws/State.lean ====
section
/-! SUPPORT. What a shared operation leaves as it was: one lemma per field of the state per operation. -/
namespace Sys2Proof.Machine

@[simp] theorem setReg_pending (key : Nat) (v : Word) (s : State) : (setReg key v s).pending = s.pending := rfl
@[simp] theorem setReg_now (key : Nat) (v : Word) (s : State) : (setReg key v s).now = s.now := rfl
@[simp] theorem setReg_free (key : Nat) (v : Word) (s : State) : (setReg key v s).free = s.free := rfl
@[simp] theorem setReg_shadows (key : Nat) (v : Word) (s : State) : (setReg key v s).shadows = s.shadows := rfl
@[simp] theorem setReg_latches (key : Nat) (v : Word) (s : State) : (setReg key v s).latches = s.latches := rfl
@[simp] theorem setReg_loWrites (key : Nat) (v : Word) (s : State) : (setReg key v s).loWrites = s.loWrites := rfl
@[simp] theorem setReg_out (key : Nat) (v : Word) (s : State) : (setReg key v s).out = s.out := rfl
@[simp] theorem setReg_sys (key : Nat) (v : Word) (s : State) : (setReg key v s).sys = s.sys := rfl
@[simp] theorem setReg_isl (key : Nat) (v : Word) (s : State) : (setReg key v s).isl = s.isl := rfl
@[simp] theorem setReg_nv (key : Nat) (v : Word) (s : State) : (setReg key v s).nv = s.nv := rfl
@[simp] theorem setReg_time (key : Nat) (v : Word) (s : State) : (setReg key v s).time = s.time := rfl
@[simp] theorem setReg_vot (key : Nat) (v : Word) (s : State) : (setReg key v s).vot = s.vot := rfl
@[simp] theorem setReg_icus (key : Nat) (v : Word) (s : State) : (setReg key v s).icus = s.icus := rfl
@[simp] theorem setReg_mems (key : Nat) (v : Word) (s : State) : (setReg key v s).mems = s.mems := rfl
@[simp] theorem setReg_erec (key : Nat) (v : Word) (s : State) : (setReg key v s).erec = s.erec := rfl
@[simp] theorem setReg_odo (key : Nat) (v : Word) (s : State) : (setReg key v s).odo = s.odo := rfl
@[simp] theorem setReg_sup (key : Nat) (v : Word) (s : State) : (setReg key v s).sup = s.sup := rfl
@[simp] theorem setReg_pst (key : Nat) (v : Word) (s : State) : (setReg key v s).pst = s.pst := rfl
@[simp] theorem setReg_dio (key : Nat) (v : Word) (s : State) : (setReg key v s).dio = s.dio := rfl
@[simp] theorem setReg_ftn (key : Nat) (v : Word) (s : State) : (setReg key v s).ftn = s.ftn := rfl
@[simp] theorem setReg_cyc (key : Nat) (v : Word) (s : State) : (setReg key v s).cyc = s.cyc := rfl
@[simp] theorem setReg_chk (key : Nat) (v : Word) (s : State) : (setReg key v s).chk = s.chk := rfl
@[simp] theorem setReg_brg (key : Nat) (v : Word) (s : State) : (setReg key v s).brg = s.brg := rfl
@[simp] theorem setReg_dmas (key : Nat) (v : Word) (s : State) : (setReg key v s).dmas = s.dmas := rfl
@[simp] theorem setReg_ksp (key : Nat) (v : Word) (s : State) : (setReg key v s).ksp = s.ksp := rfl
@[simp] theorem setReg_upd (key : Nat) (v : Word) (s : State) : (setReg key v s).upd = s.upd := rfl
@[simp] theorem setReg_secs (key : Nat) (v : Word) (s : State) : (setReg key v s).secs = s.secs := rfl
@[simp] theorem setReg_tlm (key : Nat) (v : Word) (s : State) : (setReg key v s).tlm = s.tlm := rfl
@[simp] theorem bumpBy_pending (key n : Nat) (s : State) : (bumpBy key n s).pending = s.pending := by
  unfold bumpBy; simp only [setReg_pending]
@[simp] theorem bumpBy_now (key n : Nat) (s : State) : (bumpBy key n s).now = s.now := by
  unfold bumpBy; simp only [setReg_now]
@[simp] theorem bumpBy_free (key n : Nat) (s : State) : (bumpBy key n s).free = s.free := by
  unfold bumpBy; simp only [setReg_free]
@[simp] theorem bumpBy_shadows (key n : Nat) (s : State) : (bumpBy key n s).shadows = s.shadows := by
  unfold bumpBy; simp only [setReg_shadows]
@[simp] theorem bumpBy_latches (key n : Nat) (s : State) : (bumpBy key n s).latches = s.latches := by
  unfold bumpBy; simp only [setReg_latches]
@[simp] theorem bumpBy_loWrites (key n : Nat) (s : State) : (bumpBy key n s).loWrites = s.loWrites := by
  unfold bumpBy; simp only [setReg_loWrites]
@[simp] theorem bumpBy_out (key n : Nat) (s : State) : (bumpBy key n s).out = s.out := by
  unfold bumpBy; simp only [setReg_out]
@[simp] theorem bumpBy_sys (key n : Nat) (s : State) : (bumpBy key n s).sys = s.sys := by
  unfold bumpBy; simp only [setReg_sys]
@[simp] theorem bumpBy_isl (key n : Nat) (s : State) : (bumpBy key n s).isl = s.isl := by
  unfold bumpBy; simp only [setReg_isl]
@[simp] theorem bumpBy_nv (key n : Nat) (s : State) : (bumpBy key n s).nv = s.nv := by
  unfold bumpBy; simp only [setReg_nv]
@[simp] theorem bumpBy_time (key n : Nat) (s : State) : (bumpBy key n s).time = s.time := by
  unfold bumpBy; simp only [setReg_time]
@[simp] theorem bumpBy_vot (key n : Nat) (s : State) : (bumpBy key n s).vot = s.vot := by
  unfold bumpBy; simp only [setReg_vot]
@[simp] theorem bumpBy_icus (key n : Nat) (s : State) : (bumpBy key n s).icus = s.icus := by
  unfold bumpBy; simp only [setReg_icus]
@[simp] theorem bumpBy_mems (key n : Nat) (s : State) : (bumpBy key n s).mems = s.mems := by
  unfold bumpBy; simp only [setReg_mems]
@[simp] theorem bumpBy_erec (key n : Nat) (s : State) : (bumpBy key n s).erec = s.erec := by
  unfold bumpBy; simp only [setReg_erec]
@[simp] theorem bumpBy_odo (key n : Nat) (s : State) : (bumpBy key n s).odo = s.odo := by
  unfold bumpBy; simp only [setReg_odo]
@[simp] theorem bumpBy_sup (key n : Nat) (s : State) : (bumpBy key n s).sup = s.sup := by
  unfold bumpBy; simp only [setReg_sup]
@[simp] theorem bumpBy_pst (key n : Nat) (s : State) : (bumpBy key n s).pst = s.pst := by
  unfold bumpBy; simp only [setReg_pst]
@[simp] theorem bumpBy_dio (key n : Nat) (s : State) : (bumpBy key n s).dio = s.dio := by
  unfold bumpBy; simp only [setReg_dio]
@[simp] theorem bumpBy_ftn (key n : Nat) (s : State) : (bumpBy key n s).ftn = s.ftn := by
  unfold bumpBy; simp only [setReg_ftn]
@[simp] theorem bumpBy_cyc (key n : Nat) (s : State) : (bumpBy key n s).cyc = s.cyc := by
  unfold bumpBy; simp only [setReg_cyc]
@[simp] theorem bumpBy_chk (key n : Nat) (s : State) : (bumpBy key n s).chk = s.chk := by
  unfold bumpBy; simp only [setReg_chk]
@[simp] theorem bumpBy_brg (key n : Nat) (s : State) : (bumpBy key n s).brg = s.brg := by
  unfold bumpBy; simp only [setReg_brg]
@[simp] theorem bumpBy_dmas (key n : Nat) (s : State) : (bumpBy key n s).dmas = s.dmas := by
  unfold bumpBy; simp only [setReg_dmas]
@[simp] theorem bumpBy_ksp (key n : Nat) (s : State) : (bumpBy key n s).ksp = s.ksp := by
  unfold bumpBy; simp only [setReg_ksp]
@[simp] theorem bumpBy_upd (key n : Nat) (s : State) : (bumpBy key n s).upd = s.upd := by
  unfold bumpBy; simp only [setReg_upd]
@[simp] theorem bumpBy_secs (key n : Nat) (s : State) : (bumpBy key n s).secs = s.secs := by
  unfold bumpBy; simp only [setReg_secs]
@[simp] theorem bumpBy_tlm (key n : Nat) (s : State) : (bumpBy key n s).tlm = s.tlm := by
  unfold bumpBy; simp only [setReg_tlm]
@[simp] theorem bump_pending (key : Nat) (s : State) : (bump key s).pending = s.pending := by
  unfold bump; simp only [bumpBy_pending]
@[simp] theorem bump_now (key : Nat) (s : State) : (bump key s).now = s.now := by
  unfold bump; simp only [bumpBy_now]
@[simp] theorem bump_free (key : Nat) (s : State) : (bump key s).free = s.free := by
  unfold bump; simp only [bumpBy_free]
@[simp] theorem bump_shadows (key : Nat) (s : State) : (bump key s).shadows = s.shadows := by
  unfold bump; simp only [bumpBy_shadows]
@[simp] theorem bump_latches (key : Nat) (s : State) : (bump key s).latches = s.latches := by
  unfold bump; simp only [bumpBy_latches]
@[simp] theorem bump_loWrites (key : Nat) (s : State) : (bump key s).loWrites = s.loWrites := by
  unfold bump; simp only [bumpBy_loWrites]
@[simp] theorem bump_out (key : Nat) (s : State) : (bump key s).out = s.out := by
  unfold bump; simp only [bumpBy_out]
@[simp] theorem bump_sys (key : Nat) (s : State) : (bump key s).sys = s.sys := by
  unfold bump; simp only [bumpBy_sys]
@[simp] theorem bump_isl (key : Nat) (s : State) : (bump key s).isl = s.isl := by
  unfold bump; simp only [bumpBy_isl]
@[simp] theorem bump_nv (key : Nat) (s : State) : (bump key s).nv = s.nv := by
  unfold bump; simp only [bumpBy_nv]
@[simp] theorem bump_time (key : Nat) (s : State) : (bump key s).time = s.time := by
  unfold bump; simp only [bumpBy_time]
@[simp] theorem bump_vot (key : Nat) (s : State) : (bump key s).vot = s.vot := by
  unfold bump; simp only [bumpBy_vot]
@[simp] theorem bump_icus (key : Nat) (s : State) : (bump key s).icus = s.icus := by
  unfold bump; simp only [bumpBy_icus]
@[simp] theorem bump_mems (key : Nat) (s : State) : (bump key s).mems = s.mems := by
  unfold bump; simp only [bumpBy_mems]
@[simp] theorem bump_erec (key : Nat) (s : State) : (bump key s).erec = s.erec := by
  unfold bump; simp only [bumpBy_erec]
@[simp] theorem bump_odo (key : Nat) (s : State) : (bump key s).odo = s.odo := by
  unfold bump; simp only [bumpBy_odo]
@[simp] theorem bump_sup (key : Nat) (s : State) : (bump key s).sup = s.sup := by
  unfold bump; simp only [bumpBy_sup]
@[simp] theorem bump_pst (key : Nat) (s : State) : (bump key s).pst = s.pst := by
  unfold bump; simp only [bumpBy_pst]
@[simp] theorem bump_dio (key : Nat) (s : State) : (bump key s).dio = s.dio := by
  unfold bump; simp only [bumpBy_dio]
@[simp] theorem bump_ftn (key : Nat) (s : State) : (bump key s).ftn = s.ftn := by
  unfold bump; simp only [bumpBy_ftn]
@[simp] theorem bump_cyc (key : Nat) (s : State) : (bump key s).cyc = s.cyc := by
  unfold bump; simp only [bumpBy_cyc]
@[simp] theorem bump_chk (key : Nat) (s : State) : (bump key s).chk = s.chk := by
  unfold bump; simp only [bumpBy_chk]
@[simp] theorem bump_brg (key : Nat) (s : State) : (bump key s).brg = s.brg := by
  unfold bump; simp only [bumpBy_brg]
@[simp] theorem bump_dmas (key : Nat) (s : State) : (bump key s).dmas = s.dmas := by
  unfold bump; simp only [bumpBy_dmas]
@[simp] theorem bump_ksp (key : Nat) (s : State) : (bump key s).ksp = s.ksp := by
  unfold bump; simp only [bumpBy_ksp]
@[simp] theorem bump_upd (key : Nat) (s : State) : (bump key s).upd = s.upd := by
  unfold bump; simp only [bumpBy_upd]
@[simp] theorem bump_secs (key : Nat) (s : State) : (bump key s).secs = s.secs := by
  unfold bump; simp only [bumpBy_secs]
@[simp] theorem bump_tlm (key : Nat) (s : State) : (bump key s).tlm = s.tlm := by
  unfold bump; simp only [bumpBy_tlm]
@[simp] theorem bumpLane_pending (l : Lane) (off : Nat) (s : State) : (bumpLane l off s).pending = s.pending := by
  unfold bumpLane; simp only [bump_pending]
@[simp] theorem bumpLane_now (l : Lane) (off : Nat) (s : State) : (bumpLane l off s).now = s.now := by
  unfold bumpLane; simp only [bump_now]
@[simp] theorem bumpLane_free (l : Lane) (off : Nat) (s : State) : (bumpLane l off s).free = s.free := by
  unfold bumpLane; simp only [bump_free]
@[simp] theorem bumpLane_shadows (l : Lane) (off : Nat) (s : State) : (bumpLane l off s).shadows = s.shadows := by
  unfold bumpLane; simp only [bump_shadows]
@[simp] theorem bumpLane_latches (l : Lane) (off : Nat) (s : State) : (bumpLane l off s).latches = s.latches := by
  unfold bumpLane; simp only [bump_latches]
@[simp] theorem bumpLane_loWrites (l : Lane) (off : Nat) (s : State) : (bumpLane l off s).loWrites = s.loWrites := by
  unfold bumpLane; simp only [bump_loWrites]
@[simp] theorem bumpLane_out (l : Lane) (off : Nat) (s : State) : (bumpLane l off s).out = s.out := by
  unfold bumpLane; simp only [bump_out]
@[simp] theorem bumpLane_sys (l : Lane) (off : Nat) (s : State) : (bumpLane l off s).sys = s.sys := by
  unfold bumpLane; simp only [bump_sys]
@[simp] theorem bumpLane_isl (l : Lane) (off : Nat) (s : State) : (bumpLane l off s).isl = s.isl := by
  unfold bumpLane; simp only [bump_isl]
@[simp] theorem bumpLane_nv (l : Lane) (off : Nat) (s : State) : (bumpLane l off s).nv = s.nv := by
  unfold bumpLane; simp only [bump_nv]
@[simp] theorem bumpLane_time (l : Lane) (off : Nat) (s : State) : (bumpLane l off s).time = s.time := by
  unfold bumpLane; simp only [bump_time]
@[simp] theorem bumpLane_vot (l : Lane) (off : Nat) (s : State) : (bumpLane l off s).vot = s.vot := by
  unfold bumpLane; simp only [bump_vot]
@[simp] theorem bumpLane_icus (l : Lane) (off : Nat) (s : State) : (bumpLane l off s).icus = s.icus := by
  unfold bumpLane; simp only [bump_icus]
@[simp] theorem bumpLane_mems (l : Lane) (off : Nat) (s : State) : (bumpLane l off s).mems = s.mems := by
  unfold bumpLane; simp only [bump_mems]
@[simp] theorem bumpLane_erec (l : Lane) (off : Nat) (s : State) : (bumpLane l off s).erec = s.erec := by
  unfold bumpLane; simp only [bump_erec]
@[simp] theorem bumpLane_odo (l : Lane) (off : Nat) (s : State) : (bumpLane l off s).odo = s.odo := by
  unfold bumpLane; simp only [bump_odo]
@[simp] theorem bumpLane_sup (l : Lane) (off : Nat) (s : State) : (bumpLane l off s).sup = s.sup := by
  unfold bumpLane; simp only [bump_sup]
@[simp] theorem bumpLane_pst (l : Lane) (off : Nat) (s : State) : (bumpLane l off s).pst = s.pst := by
  unfold bumpLane; simp only [bump_pst]
@[simp] theorem bumpLane_dio (l : Lane) (off : Nat) (s : State) : (bumpLane l off s).dio = s.dio := by
  unfold bumpLane; simp only [bump_dio]
@[simp] theorem bumpLane_ftn (l : Lane) (off : Nat) (s : State) : (bumpLane l off s).ftn = s.ftn := by
  unfold bumpLane; simp only [bump_ftn]
@[simp] theorem bumpLane_cyc (l : Lane) (off : Nat) (s : State) : (bumpLane l off s).cyc = s.cyc := by
  unfold bumpLane; simp only [bump_cyc]
@[simp] theorem bumpLane_chk (l : Lane) (off : Nat) (s : State) : (bumpLane l off s).chk = s.chk := by
  unfold bumpLane; simp only [bump_chk]
@[simp] theorem bumpLane_brg (l : Lane) (off : Nat) (s : State) : (bumpLane l off s).brg = s.brg := by
  unfold bumpLane; simp only [bump_brg]
@[simp] theorem bumpLane_dmas (l : Lane) (off : Nat) (s : State) : (bumpLane l off s).dmas = s.dmas := by
  unfold bumpLane; simp only [bump_dmas]
@[simp] theorem bumpLane_ksp (l : Lane) (off : Nat) (s : State) : (bumpLane l off s).ksp = s.ksp := by
  unfold bumpLane; simp only [bump_ksp]
@[simp] theorem bumpLane_upd (l : Lane) (off : Nat) (s : State) : (bumpLane l off s).upd = s.upd := by
  unfold bumpLane; simp only [bump_upd]
@[simp] theorem bumpLane_secs (l : Lane) (off : Nat) (s : State) : (bumpLane l off s).secs = s.secs := by
  unfold bumpLane; simp only [bump_secs]
@[simp] theorem bumpLane_tlm (l : Lane) (off : Nat) (s : State) : (bumpLane l off s).tlm = s.tlm := by
  unfold bumpLane; simp only [bump_tlm]
@[simp] theorem bumpAll_pending (off : Nat) (s : State) : (bumpAll off s).pending = s.pending := by
  unfold bumpAll; simp only [bumpLane_pending]
@[simp] theorem bumpAll_now (off : Nat) (s : State) : (bumpAll off s).now = s.now := by
  unfold bumpAll; simp only [bumpLane_now]
@[simp] theorem bumpAll_free (off : Nat) (s : State) : (bumpAll off s).free = s.free := by
  unfold bumpAll; simp only [bumpLane_free]
@[simp] theorem bumpAll_shadows (off : Nat) (s : State) : (bumpAll off s).shadows = s.shadows := by
  unfold bumpAll; simp only [bumpLane_shadows]
@[simp] theorem bumpAll_latches (off : Nat) (s : State) : (bumpAll off s).latches = s.latches := by
  unfold bumpAll; simp only [bumpLane_latches]
@[simp] theorem bumpAll_loWrites (off : Nat) (s : State) : (bumpAll off s).loWrites = s.loWrites := by
  unfold bumpAll; simp only [bumpLane_loWrites]
@[simp] theorem bumpAll_out (off : Nat) (s : State) : (bumpAll off s).out = s.out := by
  unfold bumpAll; simp only [bumpLane_out]
@[simp] theorem bumpAll_sys (off : Nat) (s : State) : (bumpAll off s).sys = s.sys := by
  unfold bumpAll; simp only [bumpLane_sys]
@[simp] theorem bumpAll_isl (off : Nat) (s : State) : (bumpAll off s).isl = s.isl := by
  unfold bumpAll; simp only [bumpLane_isl]
@[simp] theorem bumpAll_nv (off : Nat) (s : State) : (bumpAll off s).nv = s.nv := by
  unfold bumpAll; simp only [bumpLane_nv]
@[simp] theorem bumpAll_time (off : Nat) (s : State) : (bumpAll off s).time = s.time := by
  unfold bumpAll; simp only [bumpLane_time]
@[simp] theorem bumpAll_vot (off : Nat) (s : State) : (bumpAll off s).vot = s.vot := by
  unfold bumpAll; simp only [bumpLane_vot]
@[simp] theorem bumpAll_icus (off : Nat) (s : State) : (bumpAll off s).icus = s.icus := by
  unfold bumpAll; simp only [bumpLane_icus]
@[simp] theorem bumpAll_mems (off : Nat) (s : State) : (bumpAll off s).mems = s.mems := by
  unfold bumpAll; simp only [bumpLane_mems]
@[simp] theorem bumpAll_erec (off : Nat) (s : State) : (bumpAll off s).erec = s.erec := by
  unfold bumpAll; simp only [bumpLane_erec]
@[simp] theorem bumpAll_odo (off : Nat) (s : State) : (bumpAll off s).odo = s.odo := by
  unfold bumpAll; simp only [bumpLane_odo]
@[simp] theorem bumpAll_sup (off : Nat) (s : State) : (bumpAll off s).sup = s.sup := by
  unfold bumpAll; simp only [bumpLane_sup]
@[simp] theorem bumpAll_pst (off : Nat) (s : State) : (bumpAll off s).pst = s.pst := by
  unfold bumpAll; simp only [bumpLane_pst]
@[simp] theorem bumpAll_dio (off : Nat) (s : State) : (bumpAll off s).dio = s.dio := by
  unfold bumpAll; simp only [bumpLane_dio]
@[simp] theorem bumpAll_ftn (off : Nat) (s : State) : (bumpAll off s).ftn = s.ftn := by
  unfold bumpAll; simp only [bumpLane_ftn]
@[simp] theorem bumpAll_cyc (off : Nat) (s : State) : (bumpAll off s).cyc = s.cyc := by
  unfold bumpAll; simp only [bumpLane_cyc]
@[simp] theorem bumpAll_chk (off : Nat) (s : State) : (bumpAll off s).chk = s.chk := by
  unfold bumpAll; simp only [bumpLane_chk]
@[simp] theorem bumpAll_brg (off : Nat) (s : State) : (bumpAll off s).brg = s.brg := by
  unfold bumpAll; simp only [bumpLane_brg]
@[simp] theorem bumpAll_dmas (off : Nat) (s : State) : (bumpAll off s).dmas = s.dmas := by
  unfold bumpAll; simp only [bumpLane_dmas]
@[simp] theorem bumpAll_ksp (off : Nat) (s : State) : (bumpAll off s).ksp = s.ksp := by
  unfold bumpAll; simp only [bumpLane_ksp]
@[simp] theorem bumpAll_upd (off : Nat) (s : State) : (bumpAll off s).upd = s.upd := by
  unfold bumpAll; simp only [bumpLane_upd]
@[simp] theorem bumpAll_secs (off : Nat) (s : State) : (bumpAll off s).secs = s.secs := by
  unfold bumpAll; simp only [bumpLane_secs]
@[simp] theorem bumpAll_tlm (off : Nat) (s : State) : (bumpAll off s).tlm = s.tlm := by
  unfold bumpAll; simp only [bumpLane_tlm]
@[simp] theorem send_pending (m : Msg) (s : State) : (send m s).pending = s.pending := rfl
@[simp] theorem send_now (m : Msg) (s : State) : (send m s).now = s.now := rfl
@[simp] theorem send_free (m : Msg) (s : State) : (send m s).free = s.free := rfl
@[simp] theorem send_regs (m : Msg) (s : State) : (send m s).regs = s.regs := rfl
@[simp] theorem send_shadows (m : Msg) (s : State) : (send m s).shadows = s.shadows := rfl
@[simp] theorem send_latches (m : Msg) (s : State) : (send m s).latches = s.latches := rfl
@[simp] theorem send_loWrites (m : Msg) (s : State) : (send m s).loWrites = s.loWrites := rfl
@[simp] theorem send_sys (m : Msg) (s : State) : (send m s).sys = s.sys := rfl
@[simp] theorem send_isl (m : Msg) (s : State) : (send m s).isl = s.isl := rfl
@[simp] theorem send_nv (m : Msg) (s : State) : (send m s).nv = s.nv := rfl
@[simp] theorem send_time (m : Msg) (s : State) : (send m s).time = s.time := rfl
@[simp] theorem send_vot (m : Msg) (s : State) : (send m s).vot = s.vot := rfl
@[simp] theorem send_icus (m : Msg) (s : State) : (send m s).icus = s.icus := rfl
@[simp] theorem send_mems (m : Msg) (s : State) : (send m s).mems = s.mems := rfl
@[simp] theorem send_erec (m : Msg) (s : State) : (send m s).erec = s.erec := rfl
@[simp] theorem send_odo (m : Msg) (s : State) : (send m s).odo = s.odo := rfl
@[simp] theorem send_sup (m : Msg) (s : State) : (send m s).sup = s.sup := rfl
@[simp] theorem send_pst (m : Msg) (s : State) : (send m s).pst = s.pst := rfl
@[simp] theorem send_dio (m : Msg) (s : State) : (send m s).dio = s.dio := rfl
@[simp] theorem send_ftn (m : Msg) (s : State) : (send m s).ftn = s.ftn := rfl
@[simp] theorem send_cyc (m : Msg) (s : State) : (send m s).cyc = s.cyc := rfl
@[simp] theorem send_chk (m : Msg) (s : State) : (send m s).chk = s.chk := rfl
@[simp] theorem send_brg (m : Msg) (s : State) : (send m s).brg = s.brg := rfl
@[simp] theorem send_dmas (m : Msg) (s : State) : (send m s).dmas = s.dmas := rfl
@[simp] theorem send_ksp (m : Msg) (s : State) : (send m s).ksp = s.ksp := rfl
@[simp] theorem send_upd (m : Msg) (s : State) : (send m s).upd = s.upd := rfl
@[simp] theorem send_secs (m : Msg) (s : State) : (send m s).secs = s.secs := rfl
@[simp] theorem send_tlm (m : Msg) (s : State) : (send m s).tlm = s.tlm := rfl
@[simp] theorem setLane_pending (s : State) (l : Lane) (f : LaneVote → LaneVote) : (s.setLane l f).pending = s.pending := rfl
@[simp] theorem setLane_now (s : State) (l : Lane) (f : LaneVote → LaneVote) : (s.setLane l f).now = s.now := rfl
@[simp] theorem setLane_free (s : State) (l : Lane) (f : LaneVote → LaneVote) : (s.setLane l f).free = s.free := rfl
@[simp] theorem setLane_regs (s : State) (l : Lane) (f : LaneVote → LaneVote) : (s.setLane l f).regs = s.regs := rfl
@[simp] theorem setLane_shadows (s : State) (l : Lane) (f : LaneVote → LaneVote) : (s.setLane l f).shadows = s.shadows := rfl
@[simp] theorem setLane_latches (s : State) (l : Lane) (f : LaneVote → LaneVote) : (s.setLane l f).latches = s.latches := rfl
@[simp] theorem setLane_loWrites (s : State) (l : Lane) (f : LaneVote → LaneVote) : (s.setLane l f).loWrites = s.loWrites := rfl
@[simp] theorem setLane_out (s : State) (l : Lane) (f : LaneVote → LaneVote) : (s.setLane l f).out = s.out := rfl
@[simp] theorem setLane_sys (s : State) (l : Lane) (f : LaneVote → LaneVote) : (s.setLane l f).sys = s.sys := rfl
@[simp] theorem setLane_isl (s : State) (l : Lane) (f : LaneVote → LaneVote) : (s.setLane l f).isl = s.isl := rfl
@[simp] theorem setLane_nv (s : State) (l : Lane) (f : LaneVote → LaneVote) : (s.setLane l f).nv = s.nv := rfl
@[simp] theorem setLane_time (s : State) (l : Lane) (f : LaneVote → LaneVote) : (s.setLane l f).time = s.time := rfl
@[simp] theorem setLane_icus (s : State) (l : Lane) (f : LaneVote → LaneVote) : (s.setLane l f).icus = s.icus := rfl
@[simp] theorem setLane_mems (s : State) (l : Lane) (f : LaneVote → LaneVote) : (s.setLane l f).mems = s.mems := rfl
@[simp] theorem setLane_erec (s : State) (l : Lane) (f : LaneVote → LaneVote) : (s.setLane l f).erec = s.erec := rfl
@[simp] theorem setLane_odo (s : State) (l : Lane) (f : LaneVote → LaneVote) : (s.setLane l f).odo = s.odo := rfl
@[simp] theorem setLane_sup (s : State) (l : Lane) (f : LaneVote → LaneVote) : (s.setLane l f).sup = s.sup := rfl
@[simp] theorem setLane_pst (s : State) (l : Lane) (f : LaneVote → LaneVote) : (s.setLane l f).pst = s.pst := rfl
@[simp] theorem setLane_dio (s : State) (l : Lane) (f : LaneVote → LaneVote) : (s.setLane l f).dio = s.dio := rfl
@[simp] theorem setLane_ftn (s : State) (l : Lane) (f : LaneVote → LaneVote) : (s.setLane l f).ftn = s.ftn := rfl
@[simp] theorem setLane_cyc (s : State) (l : Lane) (f : LaneVote → LaneVote) : (s.setLane l f).cyc = s.cyc := rfl
@[simp] theorem setLane_chk (s : State) (l : Lane) (f : LaneVote → LaneVote) : (s.setLane l f).chk = s.chk := rfl
@[simp] theorem setLane_brg (s : State) (l : Lane) (f : LaneVote → LaneVote) : (s.setLane l f).brg = s.brg := rfl
@[simp] theorem setLane_dmas (s : State) (l : Lane) (f : LaneVote → LaneVote) : (s.setLane l f).dmas = s.dmas := rfl
@[simp] theorem setLane_ksp (s : State) (l : Lane) (f : LaneVote → LaneVote) : (s.setLane l f).ksp = s.ksp := rfl
@[simp] theorem setLane_upd (s : State) (l : Lane) (f : LaneVote → LaneVote) : (s.setLane l f).upd = s.upd := rfl
@[simp] theorem setLane_secs (s : State) (l : Lane) (f : LaneVote → LaneVote) : (s.setLane l f).secs = s.secs := rfl
@[simp] theorem setLane_tlm (s : State) (l : Lane) (f : LaneVote → LaneVote) : (s.setLane l f).tlm = s.tlm := rfl
@[simp] theorem answer_pending (l : Lane) (core : Nat) (v : Word) (err : Bool) (s : State) : (answer l core v err s).pending = s.pending := rfl
@[simp] theorem answer_now (l : Lane) (core : Nat) (v : Word) (err : Bool) (s : State) : (answer l core v err s).now = s.now := rfl
@[simp] theorem answer_free (l : Lane) (core : Nat) (v : Word) (err : Bool) (s : State) : (answer l core v err s).free = s.free := rfl
@[simp] theorem answer_regs (l : Lane) (core : Nat) (v : Word) (err : Bool) (s : State) : (answer l core v err s).regs = s.regs := rfl
@[simp] theorem answer_shadows (l : Lane) (core : Nat) (v : Word) (err : Bool) (s : State) : (answer l core v err s).shadows = s.shadows := rfl
@[simp] theorem answer_latches (l : Lane) (core : Nat) (v : Word) (err : Bool) (s : State) : (answer l core v err s).latches = s.latches := rfl
@[simp] theorem answer_loWrites (l : Lane) (core : Nat) (v : Word) (err : Bool) (s : State) : (answer l core v err s).loWrites = s.loWrites := rfl
@[simp] theorem answer_out (l : Lane) (core : Nat) (v : Word) (err : Bool) (s : State) : (answer l core v err s).out = s.out := rfl
@[simp] theorem answer_sys (l : Lane) (core : Nat) (v : Word) (err : Bool) (s : State) : (answer l core v err s).sys = s.sys := rfl
@[simp] theorem answer_isl (l : Lane) (core : Nat) (v : Word) (err : Bool) (s : State) : (answer l core v err s).isl = s.isl := rfl
@[simp] theorem answer_nv (l : Lane) (core : Nat) (v : Word) (err : Bool) (s : State) : (answer l core v err s).nv = s.nv := rfl
@[simp] theorem answer_time (l : Lane) (core : Nat) (v : Word) (err : Bool) (s : State) : (answer l core v err s).time = s.time := rfl
@[simp] theorem answer_icus (l : Lane) (core : Nat) (v : Word) (err : Bool) (s : State) : (answer l core v err s).icus = s.icus := rfl
@[simp] theorem answer_mems (l : Lane) (core : Nat) (v : Word) (err : Bool) (s : State) : (answer l core v err s).mems = s.mems := rfl
@[simp] theorem answer_erec (l : Lane) (core : Nat) (v : Word) (err : Bool) (s : State) : (answer l core v err s).erec = s.erec := rfl
@[simp] theorem answer_odo (l : Lane) (core : Nat) (v : Word) (err : Bool) (s : State) : (answer l core v err s).odo = s.odo := rfl
@[simp] theorem answer_sup (l : Lane) (core : Nat) (v : Word) (err : Bool) (s : State) : (answer l core v err s).sup = s.sup := rfl
@[simp] theorem answer_pst (l : Lane) (core : Nat) (v : Word) (err : Bool) (s : State) : (answer l core v err s).pst = s.pst := rfl
@[simp] theorem answer_dio (l : Lane) (core : Nat) (v : Word) (err : Bool) (s : State) : (answer l core v err s).dio = s.dio := rfl
@[simp] theorem answer_ftn (l : Lane) (core : Nat) (v : Word) (err : Bool) (s : State) : (answer l core v err s).ftn = s.ftn := rfl
@[simp] theorem answer_cyc (l : Lane) (core : Nat) (v : Word) (err : Bool) (s : State) : (answer l core v err s).cyc = s.cyc := rfl
@[simp] theorem answer_chk (l : Lane) (core : Nat) (v : Word) (err : Bool) (s : State) : (answer l core v err s).chk = s.chk := rfl
@[simp] theorem answer_brg (l : Lane) (core : Nat) (v : Word) (err : Bool) (s : State) : (answer l core v err s).brg = s.brg := rfl
@[simp] theorem answer_dmas (l : Lane) (core : Nat) (v : Word) (err : Bool) (s : State) : (answer l core v err s).dmas = s.dmas := rfl
@[simp] theorem answer_ksp (l : Lane) (core : Nat) (v : Word) (err : Bool) (s : State) : (answer l core v err s).ksp = s.ksp := rfl
@[simp] theorem answer_upd (l : Lane) (core : Nat) (v : Word) (err : Bool) (s : State) : (answer l core v err s).upd = s.upd := rfl
@[simp] theorem answer_secs (l : Lane) (core : Nat) (v : Word) (err : Bool) (s : State) : (answer l core v err s).secs = s.secs := rfl
@[simp] theorem answer_tlm (l : Lane) (core : Nat) (v : Word) (err : Bool) (s : State) : (answer l core v err s).tlm = s.tlm := rfl
@[simp] theorem setLatch_pending (lane : Option Lane) (core off : Nat) (vals : List (Nat × Word)) (s : State) : (setLatch lane core off vals s).pending = s.pending := rfl
@[simp] theorem setLatch_now (lane : Option Lane) (core off : Nat) (vals : List (Nat × Word)) (s : State) : (setLatch lane core off vals s).now = s.now := rfl
@[simp] theorem setLatch_free (lane : Option Lane) (core off : Nat) (vals : List (Nat × Word)) (s : State) : (setLatch lane core off vals s).free = s.free := rfl
@[simp] theorem setLatch_regs (lane : Option Lane) (core off : Nat) (vals : List (Nat × Word)) (s : State) : (setLatch lane core off vals s).regs = s.regs := rfl
@[simp] theorem setLatch_shadows (lane : Option Lane) (core off : Nat) (vals : List (Nat × Word)) (s : State) : (setLatch lane core off vals s).shadows = s.shadows := rfl
@[simp] theorem setLatch_loWrites (lane : Option Lane) (core off : Nat) (vals : List (Nat × Word)) (s : State) : (setLatch lane core off vals s).loWrites = s.loWrites := rfl
@[simp] theorem setLatch_out (lane : Option Lane) (core off : Nat) (vals : List (Nat × Word)) (s : State) : (setLatch lane core off vals s).out = s.out := rfl
@[simp] theorem setLatch_sys (lane : Option Lane) (core off : Nat) (vals : List (Nat × Word)) (s : State) : (setLatch lane core off vals s).sys = s.sys := rfl
@[simp] theorem setLatch_isl (lane : Option Lane) (core off : Nat) (vals : List (Nat × Word)) (s : State) : (setLatch lane core off vals s).isl = s.isl := rfl
@[simp] theorem setLatch_nv (lane : Option Lane) (core off : Nat) (vals : List (Nat × Word)) (s : State) : (setLatch lane core off vals s).nv = s.nv := rfl
@[simp] theorem setLatch_time (lane : Option Lane) (core off : Nat) (vals : List (Nat × Word)) (s : State) : (setLatch lane core off vals s).time = s.time := rfl
@[simp] theorem setLatch_vot (lane : Option Lane) (core off : Nat) (vals : List (Nat × Word)) (s : State) : (setLatch lane core off vals s).vot = s.vot := rfl
@[simp] theorem setLatch_icus (lane : Option Lane) (core off : Nat) (vals : List (Nat × Word)) (s : State) : (setLatch lane core off vals s).icus = s.icus := rfl
@[simp] theorem setLatch_mems (lane : Option Lane) (core off : Nat) (vals : List (Nat × Word)) (s : State) : (setLatch lane core off vals s).mems = s.mems := rfl
@[simp] theorem setLatch_erec (lane : Option Lane) (core off : Nat) (vals : List (Nat × Word)) (s : State) : (setLatch lane core off vals s).erec = s.erec := rfl
@[simp] theorem setLatch_odo (lane : Option Lane) (core off : Nat) (vals : List (Nat × Word)) (s : State) : (setLatch lane core off vals s).odo = s.odo := rfl
@[simp] theorem setLatch_sup (lane : Option Lane) (core off : Nat) (vals : List (Nat × Word)) (s : State) : (setLatch lane core off vals s).sup = s.sup := rfl
@[simp] theorem setLatch_pst (lane : Option Lane) (core off : Nat) (vals : List (Nat × Word)) (s : State) : (setLatch lane core off vals s).pst = s.pst := rfl
@[simp] theorem setLatch_dio (lane : Option Lane) (core off : Nat) (vals : List (Nat × Word)) (s : State) : (setLatch lane core off vals s).dio = s.dio := rfl
@[simp] theorem setLatch_ftn (lane : Option Lane) (core off : Nat) (vals : List (Nat × Word)) (s : State) : (setLatch lane core off vals s).ftn = s.ftn := rfl
@[simp] theorem setLatch_cyc (lane : Option Lane) (core off : Nat) (vals : List (Nat × Word)) (s : State) : (setLatch lane core off vals s).cyc = s.cyc := rfl
@[simp] theorem setLatch_chk (lane : Option Lane) (core off : Nat) (vals : List (Nat × Word)) (s : State) : (setLatch lane core off vals s).chk = s.chk := rfl
@[simp] theorem setLatch_brg (lane : Option Lane) (core off : Nat) (vals : List (Nat × Word)) (s : State) : (setLatch lane core off vals s).brg = s.brg := rfl
@[simp] theorem setLatch_dmas (lane : Option Lane) (core off : Nat) (vals : List (Nat × Word)) (s : State) : (setLatch lane core off vals s).dmas = s.dmas := rfl
@[simp] theorem setLatch_ksp (lane : Option Lane) (core off : Nat) (vals : List (Nat × Word)) (s : State) : (setLatch lane core off vals s).ksp = s.ksp := rfl
@[simp] theorem setLatch_upd (lane : Option Lane) (core off : Nat) (vals : List (Nat × Word)) (s : State) : (setLatch lane core off vals s).upd = s.upd := rfl
@[simp] theorem setLatch_secs (lane : Option Lane) (core off : Nat) (vals : List (Nat × Word)) (s : State) : (setLatch lane core off vals s).secs = s.secs := rfl
@[simp] theorem setLatch_tlm (lane : Option Lane) (core off : Nat) (vals : List (Nat × Word)) (s : State) : (setLatch lane core off vals s).tlm = s.tlm := rfl
@[simp] theorem assertAt_pending (l : Lane) (id : Nat) (s : State) : (assertAt l id s).pending = s.pending := rfl
@[simp] theorem assertAt_now (l : Lane) (id : Nat) (s : State) : (assertAt l id s).now = s.now := rfl
@[simp] theorem assertAt_free (l : Lane) (id : Nat) (s : State) : (assertAt l id s).free = s.free := rfl
@[simp] theorem assertAt_regs (l : Lane) (id : Nat) (s : State) : (assertAt l id s).regs = s.regs := rfl
@[simp] theorem assertAt_shadows (l : Lane) (id : Nat) (s : State) : (assertAt l id s).shadows = s.shadows := rfl
@[simp] theorem assertAt_latches (l : Lane) (id : Nat) (s : State) : (assertAt l id s).latches = s.latches := rfl
@[simp] theorem assertAt_loWrites (l : Lane) (id : Nat) (s : State) : (assertAt l id s).loWrites = s.loWrites := rfl
@[simp] theorem assertAt_out (l : Lane) (id : Nat) (s : State) : (assertAt l id s).out = s.out := rfl
@[simp] theorem assertAt_sys (l : Lane) (id : Nat) (s : State) : (assertAt l id s).sys = s.sys := rfl
@[simp] theorem assertAt_isl (l : Lane) (id : Nat) (s : State) : (assertAt l id s).isl = s.isl := rfl
@[simp] theorem assertAt_nv (l : Lane) (id : Nat) (s : State) : (assertAt l id s).nv = s.nv := rfl
@[simp] theorem assertAt_time (l : Lane) (id : Nat) (s : State) : (assertAt l id s).time = s.time := rfl
@[simp] theorem assertAt_vot (l : Lane) (id : Nat) (s : State) : (assertAt l id s).vot = s.vot := rfl
@[simp] theorem assertAt_mems (l : Lane) (id : Nat) (s : State) : (assertAt l id s).mems = s.mems := rfl
@[simp] theorem assertAt_erec (l : Lane) (id : Nat) (s : State) : (assertAt l id s).erec = s.erec := rfl
@[simp] theorem assertAt_odo (l : Lane) (id : Nat) (s : State) : (assertAt l id s).odo = s.odo := rfl
@[simp] theorem assertAt_sup (l : Lane) (id : Nat) (s : State) : (assertAt l id s).sup = s.sup := rfl
@[simp] theorem assertAt_pst (l : Lane) (id : Nat) (s : State) : (assertAt l id s).pst = s.pst := rfl
@[simp] theorem assertAt_dio (l : Lane) (id : Nat) (s : State) : (assertAt l id s).dio = s.dio := rfl
@[simp] theorem assertAt_ftn (l : Lane) (id : Nat) (s : State) : (assertAt l id s).ftn = s.ftn := rfl
@[simp] theorem assertAt_cyc (l : Lane) (id : Nat) (s : State) : (assertAt l id s).cyc = s.cyc := rfl
@[simp] theorem assertAt_chk (l : Lane) (id : Nat) (s : State) : (assertAt l id s).chk = s.chk := rfl
@[simp] theorem assertAt_brg (l : Lane) (id : Nat) (s : State) : (assertAt l id s).brg = s.brg := rfl
@[simp] theorem assertAt_dmas (l : Lane) (id : Nat) (s : State) : (assertAt l id s).dmas = s.dmas := rfl
@[simp] theorem assertAt_ksp (l : Lane) (id : Nat) (s : State) : (assertAt l id s).ksp = s.ksp := rfl
@[simp] theorem assertAt_upd (l : Lane) (id : Nat) (s : State) : (assertAt l id s).upd = s.upd := rfl
@[simp] theorem assertAt_secs (l : Lane) (id : Nat) (s : State) : (assertAt l id s).secs = s.secs := rfl
@[simp] theorem assertAt_tlm (l : Lane) (id : Nat) (s : State) : (assertAt l id s).tlm = s.tlm := rfl
@[simp] theorem raiseIrq_pending (id : Nat) (s : State) : (raiseIrq id s).pending = s.pending := rfl
@[simp] theorem raiseIrq_now (id : Nat) (s : State) : (raiseIrq id s).now = s.now := rfl
@[simp] theorem raiseIrq_free (id : Nat) (s : State) : (raiseIrq id s).free = s.free := rfl
@[simp] theorem raiseIrq_regs (id : Nat) (s : State) : (raiseIrq id s).regs = s.regs := rfl
@[simp] theorem raiseIrq_shadows (id : Nat) (s : State) : (raiseIrq id s).shadows = s.shadows := rfl
@[simp] theorem raiseIrq_latches (id : Nat) (s : State) : (raiseIrq id s).latches = s.latches := rfl
@[simp] theorem raiseIrq_loWrites (id : Nat) (s : State) : (raiseIrq id s).loWrites = s.loWrites := rfl
@[simp] theorem raiseIrq_out (id : Nat) (s : State) : (raiseIrq id s).out = s.out := rfl
@[simp] theorem raiseIrq_sys (id : Nat) (s : State) : (raiseIrq id s).sys = s.sys := rfl
@[simp] theorem raiseIrq_isl (id : Nat) (s : State) : (raiseIrq id s).isl = s.isl := rfl
@[simp] theorem raiseIrq_nv (id : Nat) (s : State) : (raiseIrq id s).nv = s.nv := rfl
@[simp] theorem raiseIrq_time (id : Nat) (s : State) : (raiseIrq id s).time = s.time := rfl
@[simp] theorem raiseIrq_vot (id : Nat) (s : State) : (raiseIrq id s).vot = s.vot := rfl
@[simp] theorem raiseIrq_mems (id : Nat) (s : State) : (raiseIrq id s).mems = s.mems := rfl
@[simp] theorem raiseIrq_erec (id : Nat) (s : State) : (raiseIrq id s).erec = s.erec := rfl
@[simp] theorem raiseIrq_odo (id : Nat) (s : State) : (raiseIrq id s).odo = s.odo := rfl
@[simp] theorem raiseIrq_sup (id : Nat) (s : State) : (raiseIrq id s).sup = s.sup := rfl
@[simp] theorem raiseIrq_pst (id : Nat) (s : State) : (raiseIrq id s).pst = s.pst := rfl
@[simp] theorem raiseIrq_dio (id : Nat) (s : State) : (raiseIrq id s).dio = s.dio := rfl
@[simp] theorem raiseIrq_ftn (id : Nat) (s : State) : (raiseIrq id s).ftn = s.ftn := rfl
@[simp] theorem raiseIrq_cyc (id : Nat) (s : State) : (raiseIrq id s).cyc = s.cyc := rfl
@[simp] theorem raiseIrq_chk (id : Nat) (s : State) : (raiseIrq id s).chk = s.chk := rfl
@[simp] theorem raiseIrq_brg (id : Nat) (s : State) : (raiseIrq id s).brg = s.brg := rfl
@[simp] theorem raiseIrq_dmas (id : Nat) (s : State) : (raiseIrq id s).dmas = s.dmas := rfl
@[simp] theorem raiseIrq_ksp (id : Nat) (s : State) : (raiseIrq id s).ksp = s.ksp := rfl
@[simp] theorem raiseIrq_upd (id : Nat) (s : State) : (raiseIrq id s).upd = s.upd := rfl
@[simp] theorem raiseIrq_secs (id : Nat) (s : State) : (raiseIrq id s).secs = s.secs := rfl
@[simp] theorem raiseIrq_tlm (id : Nat) (s : State) : (raiseIrq id s).tlm = s.tlm := rfl
@[simp] theorem putLo_pending (l : Lane) (core off : Nat) (v : Word) (s : State) : (putLo l core off v s).pending = s.pending := rfl
@[simp] theorem putLo_now (l : Lane) (core off : Nat) (v : Word) (s : State) : (putLo l core off v s).now = s.now := rfl
@[simp] theorem putLo_free (l : Lane) (core off : Nat) (v : Word) (s : State) : (putLo l core off v s).free = s.free := rfl
@[simp] theorem putLo_regs (l : Lane) (core off : Nat) (v : Word) (s : State) : (putLo l core off v s).regs = s.regs := rfl
@[simp] theorem putLo_shadows (l : Lane) (core off : Nat) (v : Word) (s : State) : (putLo l core off v s).shadows = s.shadows := rfl
@[simp] theorem putLo_latches (l : Lane) (core off : Nat) (v : Word) (s : State) : (putLo l core off v s).latches = s.latches := rfl
@[simp] theorem putLo_out (l : Lane) (core off : Nat) (v : Word) (s : State) : (putLo l core off v s).out = s.out := rfl
@[simp] theorem putLo_sys (l : Lane) (core off : Nat) (v : Word) (s : State) : (putLo l core off v s).sys = s.sys := rfl
@[simp] theorem putLo_isl (l : Lane) (core off : Nat) (v : Word) (s : State) : (putLo l core off v s).isl = s.isl := rfl
@[simp] theorem putLo_nv (l : Lane) (core off : Nat) (v : Word) (s : State) : (putLo l core off v s).nv = s.nv := rfl
@[simp] theorem putLo_time (l : Lane) (core off : Nat) (v : Word) (s : State) : (putLo l core off v s).time = s.time := rfl
@[simp] theorem putLo_vot (l : Lane) (core off : Nat) (v : Word) (s : State) : (putLo l core off v s).vot = s.vot := rfl
@[simp] theorem putLo_icus (l : Lane) (core off : Nat) (v : Word) (s : State) : (putLo l core off v s).icus = s.icus := rfl
@[simp] theorem putLo_mems (l : Lane) (core off : Nat) (v : Word) (s : State) : (putLo l core off v s).mems = s.mems := rfl
@[simp] theorem putLo_erec (l : Lane) (core off : Nat) (v : Word) (s : State) : (putLo l core off v s).erec = s.erec := rfl
@[simp] theorem putLo_odo (l : Lane) (core off : Nat) (v : Word) (s : State) : (putLo l core off v s).odo = s.odo := rfl
@[simp] theorem putLo_sup (l : Lane) (core off : Nat) (v : Word) (s : State) : (putLo l core off v s).sup = s.sup := rfl
@[simp] theorem putLo_pst (l : Lane) (core off : Nat) (v : Word) (s : State) : (putLo l core off v s).pst = s.pst := rfl
@[simp] theorem putLo_dio (l : Lane) (core off : Nat) (v : Word) (s : State) : (putLo l core off v s).dio = s.dio := rfl
@[simp] theorem putLo_ftn (l : Lane) (core off : Nat) (v : Word) (s : State) : (putLo l core off v s).ftn = s.ftn := rfl
@[simp] theorem putLo_cyc (l : Lane) (core off : Nat) (v : Word) (s : State) : (putLo l core off v s).cyc = s.cyc := rfl
@[simp] theorem putLo_chk (l : Lane) (core off : Nat) (v : Word) (s : State) : (putLo l core off v s).chk = s.chk := rfl
@[simp] theorem putLo_brg (l : Lane) (core off : Nat) (v : Word) (s : State) : (putLo l core off v s).brg = s.brg := rfl
@[simp] theorem putLo_dmas (l : Lane) (core off : Nat) (v : Word) (s : State) : (putLo l core off v s).dmas = s.dmas := rfl
@[simp] theorem putLo_ksp (l : Lane) (core off : Nat) (v : Word) (s : State) : (putLo l core off v s).ksp = s.ksp := rfl
@[simp] theorem putLo_upd (l : Lane) (core off : Nat) (v : Word) (s : State) : (putLo l core off v s).upd = s.upd := rfl
@[simp] theorem putLo_secs (l : Lane) (core off : Nat) (v : Word) (s : State) : (putLo l core off v s).secs = s.secs := rfl
@[simp] theorem putLo_tlm (l : Lane) (core off : Nat) (v : Word) (s : State) : (putLo l core off v s).tlm = s.tlm := rfl
@[simp] theorem dropLo_pending (l : Lane) (core lo : Nat) (s : State) : (dropLo l core lo s).pending = s.pending := rfl
@[simp] theorem dropLo_now (l : Lane) (core lo : Nat) (s : State) : (dropLo l core lo s).now = s.now := rfl
@[simp] theorem dropLo_free (l : Lane) (core lo : Nat) (s : State) : (dropLo l core lo s).free = s.free := rfl
@[simp] theorem dropLo_regs (l : Lane) (core lo : Nat) (s : State) : (dropLo l core lo s).regs = s.regs := rfl
@[simp] theorem dropLo_shadows (l : Lane) (core lo : Nat) (s : State) : (dropLo l core lo s).shadows = s.shadows := rfl
@[simp] theorem dropLo_latches (l : Lane) (core lo : Nat) (s : State) : (dropLo l core lo s).latches = s.latches := rfl
@[simp] theorem dropLo_out (l : Lane) (core lo : Nat) (s : State) : (dropLo l core lo s).out = s.out := rfl
@[simp] theorem dropLo_sys (l : Lane) (core lo : Nat) (s : State) : (dropLo l core lo s).sys = s.sys := rfl
@[simp] theorem dropLo_isl (l : Lane) (core lo : Nat) (s : State) : (dropLo l core lo s).isl = s.isl := rfl
@[simp] theorem dropLo_nv (l : Lane) (core lo : Nat) (s : State) : (dropLo l core lo s).nv = s.nv := rfl
@[simp] theorem dropLo_time (l : Lane) (core lo : Nat) (s : State) : (dropLo l core lo s).time = s.time := rfl
@[simp] theorem dropLo_vot (l : Lane) (core lo : Nat) (s : State) : (dropLo l core lo s).vot = s.vot := rfl
@[simp] theorem dropLo_icus (l : Lane) (core lo : Nat) (s : State) : (dropLo l core lo s).icus = s.icus := rfl
@[simp] theorem dropLo_mems (l : Lane) (core lo : Nat) (s : State) : (dropLo l core lo s).mems = s.mems := rfl
@[simp] theorem dropLo_erec (l : Lane) (core lo : Nat) (s : State) : (dropLo l core lo s).erec = s.erec := rfl
@[simp] theorem dropLo_odo (l : Lane) (core lo : Nat) (s : State) : (dropLo l core lo s).odo = s.odo := rfl
@[simp] theorem dropLo_sup (l : Lane) (core lo : Nat) (s : State) : (dropLo l core lo s).sup = s.sup := rfl
@[simp] theorem dropLo_pst (l : Lane) (core lo : Nat) (s : State) : (dropLo l core lo s).pst = s.pst := rfl
@[simp] theorem dropLo_dio (l : Lane) (core lo : Nat) (s : State) : (dropLo l core lo s).dio = s.dio := rfl
@[simp] theorem dropLo_ftn (l : Lane) (core lo : Nat) (s : State) : (dropLo l core lo s).ftn = s.ftn := rfl
@[simp] theorem dropLo_cyc (l : Lane) (core lo : Nat) (s : State) : (dropLo l core lo s).cyc = s.cyc := rfl
@[simp] theorem dropLo_chk (l : Lane) (core lo : Nat) (s : State) : (dropLo l core lo s).chk = s.chk := rfl
@[simp] theorem dropLo_brg (l : Lane) (core lo : Nat) (s : State) : (dropLo l core lo s).brg = s.brg := rfl
@[simp] theorem dropLo_dmas (l : Lane) (core lo : Nat) (s : State) : (dropLo l core lo s).dmas = s.dmas := rfl
@[simp] theorem dropLo_ksp (l : Lane) (core lo : Nat) (s : State) : (dropLo l core lo s).ksp = s.ksp := rfl
@[simp] theorem dropLo_upd (l : Lane) (core lo : Nat) (s : State) : (dropLo l core lo s).upd = s.upd := rfl
@[simp] theorem dropLo_secs (l : Lane) (core lo : Nat) (s : State) : (dropLo l core lo s).secs = s.secs := rfl
@[simp] theorem dropLo_tlm (l : Lane) (core lo : Nat) (s : State) : (dropLo l core lo s).tlm = s.tlm := rfl
@[simp] theorem commitLo_pending (l : Lane) (core lo : Nat) (s : State) : (commitLo l core lo s).pending = s.pending := by
  unfold commitLo; simp only [dropLo_pending, setReg_pending]
@[simp] theorem commitLo_now (l : Lane) (core lo : Nat) (s : State) : (commitLo l core lo s).now = s.now := by
  unfold commitLo; simp only [dropLo_now, setReg_now]
@[simp] theorem commitLo_free (l : Lane) (core lo : Nat) (s : State) : (commitLo l core lo s).free = s.free := by
  unfold commitLo; simp only [dropLo_free, setReg_free]
@[simp] theorem commitLo_shadows (l : Lane) (core lo : Nat) (s : State) : (commitLo l core lo s).shadows = s.shadows := by
  unfold commitLo; simp only [dropLo_shadows, setReg_shadows]
@[simp] theorem commitLo_latches (l : Lane) (core lo : Nat) (s : State) : (commitLo l core lo s).latches = s.latches := by
  unfold commitLo; simp only [dropLo_latches, setReg_latches]
@[simp] theorem commitLo_out (l : Lane) (core lo : Nat) (s : State) : (commitLo l core lo s).out = s.out := by
  unfold commitLo; simp only [dropLo_out, setReg_out]
@[simp] theorem commitLo_sys (l : Lane) (core lo : Nat) (s : State) : (commitLo l core lo s).sys = s.sys := by
  unfold commitLo; simp only [dropLo_sys, setReg_sys]
@[simp] theorem commitLo_isl (l : Lane) (core lo : Nat) (s : State) : (commitLo l core lo s).isl = s.isl := by
  unfold commitLo; simp only [dropLo_isl, setReg_isl]
@[simp] theorem commitLo_nv (l : Lane) (core lo : Nat) (s : State) : (commitLo l core lo s).nv = s.nv := by
  unfold commitLo; simp only [dropLo_nv, setReg_nv]
@[simp] theorem commitLo_time (l : Lane) (core lo : Nat) (s : State) : (commitLo l core lo s).time = s.time := by
  unfold commitLo; simp only [dropLo_time, setReg_time]
@[simp] theorem commitLo_vot (l : Lane) (core lo : Nat) (s : State) : (commitLo l core lo s).vot = s.vot := by
  unfold commitLo; simp only [dropLo_vot, setReg_vot]
@[simp] theorem commitLo_icus (l : Lane) (core lo : Nat) (s : State) : (commitLo l core lo s).icus = s.icus := by
  unfold commitLo; simp only [dropLo_icus, setReg_icus]
@[simp] theorem commitLo_mems (l : Lane) (core lo : Nat) (s : State) : (commitLo l core lo s).mems = s.mems := by
  unfold commitLo; simp only [dropLo_mems, setReg_mems]
@[simp] theorem commitLo_erec (l : Lane) (core lo : Nat) (s : State) : (commitLo l core lo s).erec = s.erec := by
  unfold commitLo; simp only [dropLo_erec, setReg_erec]
@[simp] theorem commitLo_odo (l : Lane) (core lo : Nat) (s : State) : (commitLo l core lo s).odo = s.odo := by
  unfold commitLo; simp only [dropLo_odo, setReg_odo]
@[simp] theorem commitLo_sup (l : Lane) (core lo : Nat) (s : State) : (commitLo l core lo s).sup = s.sup := by
  unfold commitLo; simp only [dropLo_sup, setReg_sup]
@[simp] theorem commitLo_pst (l : Lane) (core lo : Nat) (s : State) : (commitLo l core lo s).pst = s.pst := by
  unfold commitLo; simp only [dropLo_pst, setReg_pst]
@[simp] theorem commitLo_dio (l : Lane) (core lo : Nat) (s : State) : (commitLo l core lo s).dio = s.dio := by
  unfold commitLo; simp only [dropLo_dio, setReg_dio]
@[simp] theorem commitLo_ftn (l : Lane) (core lo : Nat) (s : State) : (commitLo l core lo s).ftn = s.ftn := by
  unfold commitLo; simp only [dropLo_ftn, setReg_ftn]
@[simp] theorem commitLo_cyc (l : Lane) (core lo : Nat) (s : State) : (commitLo l core lo s).cyc = s.cyc := by
  unfold commitLo; simp only [dropLo_cyc, setReg_cyc]
@[simp] theorem commitLo_chk (l : Lane) (core lo : Nat) (s : State) : (commitLo l core lo s).chk = s.chk := by
  unfold commitLo; simp only [dropLo_chk, setReg_chk]
@[simp] theorem commitLo_brg (l : Lane) (core lo : Nat) (s : State) : (commitLo l core lo s).brg = s.brg := by
  unfold commitLo; simp only [dropLo_brg, setReg_brg]
@[simp] theorem commitLo_dmas (l : Lane) (core lo : Nat) (s : State) : (commitLo l core lo s).dmas = s.dmas := by
  unfold commitLo; simp only [dropLo_dmas, setReg_dmas]
@[simp] theorem commitLo_ksp (l : Lane) (core lo : Nat) (s : State) : (commitLo l core lo s).ksp = s.ksp := by
  unfold commitLo; simp only [dropLo_ksp, setReg_ksp]
@[simp] theorem commitLo_upd (l : Lane) (core lo : Nat) (s : State) : (commitLo l core lo s).upd = s.upd := by
  unfold commitLo; simp only [dropLo_upd, setReg_upd]
@[simp] theorem commitLo_secs (l : Lane) (core lo : Nat) (s : State) : (commitLo l core lo s).secs = s.secs := by
  unfold commitLo; simp only [dropLo_secs, setReg_secs]
@[simp] theorem commitLo_tlm (l : Lane) (core lo : Nat) (s : State) : (commitLo l core lo s).tlm = s.tlm := by
  unfold commitLo; simp only [dropLo_tlm, setReg_tlm]
@[simp] theorem wrLane_pending (l : Lane) (addr : Nat) (bs : List Byte) (s : State) : (wrLane l addr bs s).pending = s.pending := rfl
@[simp] theorem wrLane_now (l : Lane) (addr : Nat) (bs : List Byte) (s : State) : (wrLane l addr bs s).now = s.now := rfl
@[simp] theorem wrLane_free (l : Lane) (addr : Nat) (bs : List Byte) (s : State) : (wrLane l addr bs s).free = s.free := rfl
@[simp] theorem wrLane_regs (l : Lane) (addr : Nat) (bs : List Byte) (s : State) : (wrLane l addr bs s).regs = s.regs := rfl
@[simp] theorem wrLane_shadows (l : Lane) (addr : Nat) (bs : List Byte) (s : State) : (wrLane l addr bs s).shadows = s.shadows := rfl
@[simp] theorem wrLane_latches (l : Lane) (addr : Nat) (bs : List Byte) (s : State) : (wrLane l addr bs s).latches = s.latches := rfl
@[simp] theorem wrLane_loWrites (l : Lane) (addr : Nat) (bs : List Byte) (s : State) : (wrLane l addr bs s).loWrites = s.loWrites := rfl
@[simp] theorem wrLane_out (l : Lane) (addr : Nat) (bs : List Byte) (s : State) : (wrLane l addr bs s).out = s.out := rfl
@[simp] theorem wrLane_sys (l : Lane) (addr : Nat) (bs : List Byte) (s : State) : (wrLane l addr bs s).sys = s.sys := rfl
@[simp] theorem wrLane_isl (l : Lane) (addr : Nat) (bs : List Byte) (s : State) : (wrLane l addr bs s).isl = s.isl := rfl
@[simp] theorem wrLane_nv (l : Lane) (addr : Nat) (bs : List Byte) (s : State) : (wrLane l addr bs s).nv = s.nv := rfl
@[simp] theorem wrLane_time (l : Lane) (addr : Nat) (bs : List Byte) (s : State) : (wrLane l addr bs s).time = s.time := rfl
@[simp] theorem wrLane_vot (l : Lane) (addr : Nat) (bs : List Byte) (s : State) : (wrLane l addr bs s).vot = s.vot := rfl
@[simp] theorem wrLane_icus (l : Lane) (addr : Nat) (bs : List Byte) (s : State) : (wrLane l addr bs s).icus = s.icus := rfl
@[simp] theorem wrLane_erec (l : Lane) (addr : Nat) (bs : List Byte) (s : State) : (wrLane l addr bs s).erec = s.erec := rfl
@[simp] theorem wrLane_odo (l : Lane) (addr : Nat) (bs : List Byte) (s : State) : (wrLane l addr bs s).odo = s.odo := rfl
@[simp] theorem wrLane_sup (l : Lane) (addr : Nat) (bs : List Byte) (s : State) : (wrLane l addr bs s).sup = s.sup := rfl
@[simp] theorem wrLane_pst (l : Lane) (addr : Nat) (bs : List Byte) (s : State) : (wrLane l addr bs s).pst = s.pst := rfl
@[simp] theorem wrLane_dio (l : Lane) (addr : Nat) (bs : List Byte) (s : State) : (wrLane l addr bs s).dio = s.dio := rfl
@[simp] theorem wrLane_ftn (l : Lane) (addr : Nat) (bs : List Byte) (s : State) : (wrLane l addr bs s).ftn = s.ftn := rfl
@[simp] theorem wrLane_cyc (l : Lane) (addr : Nat) (bs : List Byte) (s : State) : (wrLane l addr bs s).cyc = s.cyc := rfl
@[simp] theorem wrLane_chk (l : Lane) (addr : Nat) (bs : List Byte) (s : State) : (wrLane l addr bs s).chk = s.chk := rfl
@[simp] theorem wrLane_brg (l : Lane) (addr : Nat) (bs : List Byte) (s : State) : (wrLane l addr bs s).brg = s.brg := rfl
@[simp] theorem wrLane_dmas (l : Lane) (addr : Nat) (bs : List Byte) (s : State) : (wrLane l addr bs s).dmas = s.dmas := rfl
@[simp] theorem wrLane_ksp (l : Lane) (addr : Nat) (bs : List Byte) (s : State) : (wrLane l addr bs s).ksp = s.ksp := rfl
@[simp] theorem wrLane_upd (l : Lane) (addr : Nat) (bs : List Byte) (s : State) : (wrLane l addr bs s).upd = s.upd := rfl
@[simp] theorem wrLane_secs (l : Lane) (addr : Nat) (bs : List Byte) (s : State) : (wrLane l addr bs s).secs = s.secs := rfl
@[simp] theorem wrLane_tlm (l : Lane) (addr : Nat) (bs : List Byte) (s : State) : (wrLane l addr bs s).tlm = s.tlm := rfl
@[simp] theorem groupCause_pending (g b : Nat) (v : Bool) (s : State) : (groupCause g b v s).pending = s.pending := rfl
@[simp] theorem groupCause_now (g b : Nat) (v : Bool) (s : State) : (groupCause g b v s).now = s.now := rfl
@[simp] theorem groupCause_free (g b : Nat) (v : Bool) (s : State) : (groupCause g b v s).free = s.free := rfl
@[simp] theorem groupCause_regs (g b : Nat) (v : Bool) (s : State) : (groupCause g b v s).regs = s.regs := rfl
@[simp] theorem groupCause_shadows (g b : Nat) (v : Bool) (s : State) : (groupCause g b v s).shadows = s.shadows := rfl
@[simp] theorem groupCause_latches (g b : Nat) (v : Bool) (s : State) : (groupCause g b v s).latches = s.latches := rfl
@[simp] theorem groupCause_loWrites (g b : Nat) (v : Bool) (s : State) : (groupCause g b v s).loWrites = s.loWrites := rfl
@[simp] theorem groupCause_out (g b : Nat) (v : Bool) (s : State) : (groupCause g b v s).out = s.out := rfl
@[simp] theorem groupCause_sys (g b : Nat) (v : Bool) (s : State) : (groupCause g b v s).sys = s.sys := rfl
@[simp] theorem groupCause_isl (g b : Nat) (v : Bool) (s : State) : (groupCause g b v s).isl = s.isl := rfl
@[simp] theorem groupCause_nv (g b : Nat) (v : Bool) (s : State) : (groupCause g b v s).nv = s.nv := rfl
@[simp] theorem groupCause_time (g b : Nat) (v : Bool) (s : State) : (groupCause g b v s).time = s.time := rfl
@[simp] theorem groupCause_vot (g b : Nat) (v : Bool) (s : State) : (groupCause g b v s).vot = s.vot := rfl
@[simp] theorem groupCause_icus (g b : Nat) (v : Bool) (s : State) : (groupCause g b v s).icus = s.icus := rfl
@[simp] theorem groupCause_mems (g b : Nat) (v : Bool) (s : State) : (groupCause g b v s).mems = s.mems := rfl
@[simp] theorem groupCause_erec (g b : Nat) (v : Bool) (s : State) : (groupCause g b v s).erec = s.erec := rfl
@[simp] theorem groupCause_odo (g b : Nat) (v : Bool) (s : State) : (groupCause g b v s).odo = s.odo := rfl
@[simp] theorem groupCause_sup (g b : Nat) (v : Bool) (s : State) : (groupCause g b v s).sup = s.sup := rfl
@[simp] theorem groupCause_pst (g b : Nat) (v : Bool) (s : State) : (groupCause g b v s).pst = s.pst := rfl
@[simp] theorem groupCause_ftn (g b : Nat) (v : Bool) (s : State) : (groupCause g b v s).ftn = s.ftn := rfl
@[simp] theorem groupCause_cyc (g b : Nat) (v : Bool) (s : State) : (groupCause g b v s).cyc = s.cyc := rfl
@[simp] theorem groupCause_chk (g b : Nat) (v : Bool) (s : State) : (groupCause g b v s).chk = s.chk := rfl
@[simp] theorem groupCause_brg (g b : Nat) (v : Bool) (s : State) : (groupCause g b v s).brg = s.brg := rfl
@[simp] theorem groupCause_dmas (g b : Nat) (v : Bool) (s : State) : (groupCause g b v s).dmas = s.dmas := rfl
@[simp] theorem groupCause_ksp (g b : Nat) (v : Bool) (s : State) : (groupCause g b v s).ksp = s.ksp := rfl
@[simp] theorem groupCause_upd (g b : Nat) (v : Bool) (s : State) : (groupCause g b v s).upd = s.upd := rfl
@[simp] theorem groupCause_secs (g b : Nat) (v : Bool) (s : State) : (groupCause g b v s).secs = s.secs := rfl
@[simp] theorem groupCause_tlm (g b : Nat) (v : Bool) (s : State) : (groupCause g b v s).tlm = s.tlm := rfl
@[simp] theorem bothGroups_pending (b : Nat) (v : Bool) (s : State) : (bothGroups b v s).pending = s.pending := rfl
@[simp] theorem bothGroups_now (b : Nat) (v : Bool) (s : State) : (bothGroups b v s).now = s.now := rfl
@[simp] theorem bothGroups_free (b : Nat) (v : Bool) (s : State) : (bothGroups b v s).free = s.free := rfl
@[simp] theorem bothGroups_regs (b : Nat) (v : Bool) (s : State) : (bothGroups b v s).regs = s.regs := rfl
@[simp] theorem bothGroups_shadows (b : Nat) (v : Bool) (s : State) : (bothGroups b v s).shadows = s.shadows := rfl
@[simp] theorem bothGroups_latches (b : Nat) (v : Bool) (s : State) : (bothGroups b v s).latches = s.latches := rfl
@[simp] theorem bothGroups_loWrites (b : Nat) (v : Bool) (s : State) : (bothGroups b v s).loWrites = s.loWrites := rfl
@[simp] theorem bothGroups_out (b : Nat) (v : Bool) (s : State) : (bothGroups b v s).out = s.out := rfl
@[simp] theorem bothGroups_sys (b : Nat) (v : Bool) (s : State) : (bothGroups b v s).sys = s.sys := rfl
@[simp] theorem bothGroups_isl (b : Nat) (v : Bool) (s : State) : (bothGroups b v s).isl = s.isl := rfl
@[simp] theorem bothGroups_nv (b : Nat) (v : Bool) (s : State) : (bothGroups b v s).nv = s.nv := rfl
@[simp] theorem bothGroups_time (b : Nat) (v : Bool) (s : State) : (bothGroups b v s).time = s.time := rfl
@[simp] theorem bothGroups_vot (b : Nat) (v : Bool) (s : State) : (bothGroups b v s).vot = s.vot := rfl
@[simp] theorem bothGroups_icus (b : Nat) (v : Bool) (s : State) : (bothGroups b v s).icus = s.icus := rfl
@[simp] theorem bothGroups_mems (b : Nat) (v : Bool) (s : State) : (bothGroups b v s).mems = s.mems := rfl
@[simp] theorem bothGroups_erec (b : Nat) (v : Bool) (s : State) : (bothGroups b v s).erec = s.erec := rfl
@[simp] theorem bothGroups_odo (b : Nat) (v : Bool) (s : State) : (bothGroups b v s).odo = s.odo := rfl
@[simp] theorem bothGroups_sup (b : Nat) (v : Bool) (s : State) : (bothGroups b v s).sup = s.sup := rfl
@[simp] theorem bothGroups_pst (b : Nat) (v : Bool) (s : State) : (bothGroups b v s).pst = s.pst := rfl
@[simp] theorem bothGroups_ftn (b : Nat) (v : Bool) (s : State) : (bothGroups b v s).ftn = s.ftn := rfl
@[simp] theorem bothGroups_cyc (b : Nat) (v : Bool) (s : State) : (bothGroups b v s).cyc = s.cyc := rfl
@[simp] theorem bothGroups_chk (b : Nat) (v : Bool) (s : State) : (bothGroups b v s).chk = s.chk := rfl
@[simp] theorem bothGroups_brg (b : Nat) (v : Bool) (s : State) : (bothGroups b v s).brg = s.brg := rfl
@[simp] theorem bothGroups_dmas (b : Nat) (v : Bool) (s : State) : (bothGroups b v s).dmas = s.dmas := rfl
@[simp] theorem bothGroups_ksp (b : Nat) (v : Bool) (s : State) : (bothGroups b v s).ksp = s.ksp := rfl
@[simp] theorem bothGroups_upd (b : Nat) (v : Bool) (s : State) : (bothGroups b v s).upd = s.upd := rfl
@[simp] theorem bothGroups_secs (b : Nat) (v : Bool) (s : State) : (bothGroups b v s).secs = s.secs := rfl
@[simp] theorem bothGroups_tlm (b : Nat) (v : Bool) (s : State) : (bothGroups b v s).tlm = s.tlm := rfl
@[simp] theorem setBase_pending (n : Nat) (f : Base → Base) (s : State) : (setBase n f s).pending = s.pending := rfl
@[simp] theorem setBase_now (n : Nat) (f : Base → Base) (s : State) : (setBase n f s).now = s.now := rfl
@[simp] theorem setBase_free (n : Nat) (f : Base → Base) (s : State) : (setBase n f s).free = s.free := rfl
@[simp] theorem setBase_regs (n : Nat) (f : Base → Base) (s : State) : (setBase n f s).regs = s.regs := rfl
@[simp] theorem setBase_shadows (n : Nat) (f : Base → Base) (s : State) : (setBase n f s).shadows = s.shadows := rfl
@[simp] theorem setBase_latches (n : Nat) (f : Base → Base) (s : State) : (setBase n f s).latches = s.latches := rfl
@[simp] theorem setBase_loWrites (n : Nat) (f : Base → Base) (s : State) : (setBase n f s).loWrites = s.loWrites := rfl
@[simp] theorem setBase_out (n : Nat) (f : Base → Base) (s : State) : (setBase n f s).out = s.out := rfl
@[simp] theorem setBase_sys (n : Nat) (f : Base → Base) (s : State) : (setBase n f s).sys = s.sys := rfl
@[simp] theorem setBase_isl (n : Nat) (f : Base → Base) (s : State) : (setBase n f s).isl = s.isl := rfl
@[simp] theorem setBase_nv (n : Nat) (f : Base → Base) (s : State) : (setBase n f s).nv = s.nv := rfl
@[simp] theorem setBase_vot (n : Nat) (f : Base → Base) (s : State) : (setBase n f s).vot = s.vot := rfl
@[simp] theorem setBase_icus (n : Nat) (f : Base → Base) (s : State) : (setBase n f s).icus = s.icus := rfl
@[simp] theorem setBase_mems (n : Nat) (f : Base → Base) (s : State) : (setBase n f s).mems = s.mems := rfl
@[simp] theorem setBase_erec (n : Nat) (f : Base → Base) (s : State) : (setBase n f s).erec = s.erec := rfl
@[simp] theorem setBase_odo (n : Nat) (f : Base → Base) (s : State) : (setBase n f s).odo = s.odo := rfl
@[simp] theorem setBase_sup (n : Nat) (f : Base → Base) (s : State) : (setBase n f s).sup = s.sup := rfl
@[simp] theorem setBase_pst (n : Nat) (f : Base → Base) (s : State) : (setBase n f s).pst = s.pst := rfl
@[simp] theorem setBase_dio (n : Nat) (f : Base → Base) (s : State) : (setBase n f s).dio = s.dio := rfl
@[simp] theorem setBase_ftn (n : Nat) (f : Base → Base) (s : State) : (setBase n f s).ftn = s.ftn := rfl
@[simp] theorem setBase_cyc (n : Nat) (f : Base → Base) (s : State) : (setBase n f s).cyc = s.cyc := rfl
@[simp] theorem setBase_chk (n : Nat) (f : Base → Base) (s : State) : (setBase n f s).chk = s.chk := rfl
@[simp] theorem setBase_brg (n : Nat) (f : Base → Base) (s : State) : (setBase n f s).brg = s.brg := rfl
@[simp] theorem setBase_dmas (n : Nat) (f : Base → Base) (s : State) : (setBase n f s).dmas = s.dmas := rfl
@[simp] theorem setBase_ksp (n : Nat) (f : Base → Base) (s : State) : (setBase n f s).ksp = s.ksp := rfl
@[simp] theorem setBase_upd (n : Nat) (f : Base → Base) (s : State) : (setBase n f s).upd = s.upd := rfl
@[simp] theorem setBase_secs (n : Nat) (f : Base → Base) (s : State) : (setBase n f s).secs = s.secs := rfl
@[simp] theorem setBase_tlm (n : Nat) (f : Base → Base) (s : State) : (setBase n f s).tlm = s.tlm := rfl
@[simp] theorem setAgree_pending (ch : Nat) (f : Agree → Agree) (s : State) : (setAgree ch f s).pending = s.pending := rfl
@[simp] theorem setAgree_now (ch : Nat) (f : Agree → Agree) (s : State) : (setAgree ch f s).now = s.now := rfl
@[simp] theorem setAgree_free (ch : Nat) (f : Agree → Agree) (s : State) : (setAgree ch f s).free = s.free := rfl
@[simp] theorem setAgree_regs (ch : Nat) (f : Agree → Agree) (s : State) : (setAgree ch f s).regs = s.regs := rfl
@[simp] theorem setAgree_shadows (ch : Nat) (f : Agree → Agree) (s : State) : (setAgree ch f s).shadows = s.shadows := rfl
@[simp] theorem setAgree_latches (ch : Nat) (f : Agree → Agree) (s : State) : (setAgree ch f s).latches = s.latches := rfl
@[simp] theorem setAgree_loWrites (ch : Nat) (f : Agree → Agree) (s : State) : (setAgree ch f s).loWrites = s.loWrites := rfl
@[simp] theorem setAgree_out (ch : Nat) (f : Agree → Agree) (s : State) : (setAgree ch f s).out = s.out := rfl
@[simp] theorem setAgree_sys (ch : Nat) (f : Agree → Agree) (s : State) : (setAgree ch f s).sys = s.sys := rfl
@[simp] theorem setAgree_isl (ch : Nat) (f : Agree → Agree) (s : State) : (setAgree ch f s).isl = s.isl := rfl
@[simp] theorem setAgree_nv (ch : Nat) (f : Agree → Agree) (s : State) : (setAgree ch f s).nv = s.nv := rfl
@[simp] theorem setAgree_time (ch : Nat) (f : Agree → Agree) (s : State) : (setAgree ch f s).time = s.time := rfl
@[simp] theorem setAgree_icus (ch : Nat) (f : Agree → Agree) (s : State) : (setAgree ch f s).icus = s.icus := rfl
@[simp] theorem setAgree_mems (ch : Nat) (f : Agree → Agree) (s : State) : (setAgree ch f s).mems = s.mems := rfl
@[simp] theorem setAgree_erec (ch : Nat) (f : Agree → Agree) (s : State) : (setAgree ch f s).erec = s.erec := rfl
@[simp] theorem setAgree_odo (ch : Nat) (f : Agree → Agree) (s : State) : (setAgree ch f s).odo = s.odo := rfl
@[simp] theorem setAgree_sup (ch : Nat) (f : Agree → Agree) (s : State) : (setAgree ch f s).sup = s.sup := rfl
@[simp] theorem setAgree_pst (ch : Nat) (f : Agree → Agree) (s : State) : (setAgree ch f s).pst = s.pst := rfl
@[simp] theorem setAgree_dio (ch : Nat) (f : Agree → Agree) (s : State) : (setAgree ch f s).dio = s.dio := rfl
@[simp] theorem setAgree_ftn (ch : Nat) (f : Agree → Agree) (s : State) : (setAgree ch f s).ftn = s.ftn := rfl
@[simp] theorem setAgree_cyc (ch : Nat) (f : Agree → Agree) (s : State) : (setAgree ch f s).cyc = s.cyc := rfl
@[simp] theorem setAgree_chk (ch : Nat) (f : Agree → Agree) (s : State) : (setAgree ch f s).chk = s.chk := rfl
@[simp] theorem setAgree_brg (ch : Nat) (f : Agree → Agree) (s : State) : (setAgree ch f s).brg = s.brg := rfl
@[simp] theorem setAgree_dmas (ch : Nat) (f : Agree → Agree) (s : State) : (setAgree ch f s).dmas = s.dmas := rfl
@[simp] theorem setAgree_ksp (ch : Nat) (f : Agree → Agree) (s : State) : (setAgree ch f s).ksp = s.ksp := rfl
@[simp] theorem setAgree_upd (ch : Nat) (f : Agree → Agree) (s : State) : (setAgree ch f s).upd = s.upd := rfl
@[simp] theorem setAgree_secs (ch : Nat) (f : Agree → Agree) (s : State) : (setAgree ch f s).secs = s.secs := rfl
@[simp] theorem setAgree_tlm (ch : Nat) (f : Agree → Agree) (s : State) : (setAgree ch f s).tlm = s.tlm := rfl
@[simp] theorem setCore_pending (l : Lane) (c : Nat) (f : IcuCore → IcuCore) (s : State) : (setCore l c f s).pending = s.pending := rfl
@[simp] theorem setCore_now (l : Lane) (c : Nat) (f : IcuCore → IcuCore) (s : State) : (setCore l c f s).now = s.now := rfl
@[simp] theorem setCore_free (l : Lane) (c : Nat) (f : IcuCore → IcuCore) (s : State) : (setCore l c f s).free = s.free := rfl
@[simp] theorem setCore_regs (l : Lane) (c : Nat) (f : IcuCore → IcuCore) (s : State) : (setCore l c f s).regs = s.regs := rfl
@[simp] theorem setCore_shadows (l : Lane) (c : Nat) (f : IcuCore → IcuCore) (s : State) : (setCore l c f s).shadows = s.shadows := rfl
@[simp] theorem setCore_latches (l : Lane) (c : Nat) (f : IcuCore → IcuCore) (s : State) : (setCore l c f s).latches = s.latches := rfl
@[simp] theorem setCore_loWrites (l : Lane) (c : Nat) (f : IcuCore → IcuCore) (s : State) : (setCore l c f s).loWrites = s.loWrites := rfl
@[simp] theorem setCore_out (l : Lane) (c : Nat) (f : IcuCore → IcuCore) (s : State) : (setCore l c f s).out = s.out := rfl
@[simp] theorem setCore_sys (l : Lane) (c : Nat) (f : IcuCore → IcuCore) (s : State) : (setCore l c f s).sys = s.sys := rfl
@[simp] theorem setCore_isl (l : Lane) (c : Nat) (f : IcuCore → IcuCore) (s : State) : (setCore l c f s).isl = s.isl := rfl
@[simp] theorem setCore_nv (l : Lane) (c : Nat) (f : IcuCore → IcuCore) (s : State) : (setCore l c f s).nv = s.nv := rfl
@[simp] theorem setCore_time (l : Lane) (c : Nat) (f : IcuCore → IcuCore) (s : State) : (setCore l c f s).time = s.time := rfl
@[simp] theorem setCore_vot (l : Lane) (c : Nat) (f : IcuCore → IcuCore) (s : State) : (setCore l c f s).vot = s.vot := rfl
@[simp] theorem setCore_mems (l : Lane) (c : Nat) (f : IcuCore → IcuCore) (s : State) : (setCore l c f s).mems = s.mems := rfl
@[simp] theorem setCore_erec (l : Lane) (c : Nat) (f : IcuCore → IcuCore) (s : State) : (setCore l c f s).erec = s.erec := rfl
@[simp] theorem setCore_odo (l : Lane) (c : Nat) (f : IcuCore → IcuCore) (s : State) : (setCore l c f s).odo = s.odo := rfl
@[simp] theorem setCore_sup (l : Lane) (c : Nat) (f : IcuCore → IcuCore) (s : State) : (setCore l c f s).sup = s.sup := rfl
@[simp] theorem setCore_pst (l : Lane) (c : Nat) (f : IcuCore → IcuCore) (s : State) : (setCore l c f s).pst = s.pst := rfl
@[simp] theorem setCore_dio (l : Lane) (c : Nat) (f : IcuCore → IcuCore) (s : State) : (setCore l c f s).dio = s.dio := rfl
@[simp] theorem setCore_ftn (l : Lane) (c : Nat) (f : IcuCore → IcuCore) (s : State) : (setCore l c f s).ftn = s.ftn := rfl
@[simp] theorem setCore_cyc (l : Lane) (c : Nat) (f : IcuCore → IcuCore) (s : State) : (setCore l c f s).cyc = s.cyc := rfl
@[simp] theorem setCore_chk (l : Lane) (c : Nat) (f : IcuCore → IcuCore) (s : State) : (setCore l c f s).chk = s.chk := rfl
@[simp] theorem setCore_brg (l : Lane) (c : Nat) (f : IcuCore → IcuCore) (s : State) : (setCore l c f s).brg = s.brg := rfl
@[simp] theorem setCore_dmas (l : Lane) (c : Nat) (f : IcuCore → IcuCore) (s : State) : (setCore l c f s).dmas = s.dmas := rfl
@[simp] theorem setCore_ksp (l : Lane) (c : Nat) (f : IcuCore → IcuCore) (s : State) : (setCore l c f s).ksp = s.ksp := rfl
@[simp] theorem setCore_upd (l : Lane) (c : Nat) (f : IcuCore → IcuCore) (s : State) : (setCore l c f s).upd = s.upd := rfl
@[simp] theorem setCore_secs (l : Lane) (c : Nat) (f : IcuCore → IcuCore) (s : State) : (setCore l c f s).secs = s.secs := rfl
@[simp] theorem setCore_tlm (l : Lane) (c : Nat) (f : IcuCore → IcuCore) (s : State) : (setCore l c f s).tlm = s.tlm := rfl
@[simp] theorem setIcu_pending (l : Lane) (f : Icu → Icu) (s : State) : (setIcu l f s).pending = s.pending := rfl
@[simp] theorem setIcu_now (l : Lane) (f : Icu → Icu) (s : State) : (setIcu l f s).now = s.now := rfl
@[simp] theorem setIcu_free (l : Lane) (f : Icu → Icu) (s : State) : (setIcu l f s).free = s.free := rfl
@[simp] theorem setIcu_regs (l : Lane) (f : Icu → Icu) (s : State) : (setIcu l f s).regs = s.regs := rfl
@[simp] theorem setIcu_shadows (l : Lane) (f : Icu → Icu) (s : State) : (setIcu l f s).shadows = s.shadows := rfl
@[simp] theorem setIcu_latches (l : Lane) (f : Icu → Icu) (s : State) : (setIcu l f s).latches = s.latches := rfl
@[simp] theorem setIcu_loWrites (l : Lane) (f : Icu → Icu) (s : State) : (setIcu l f s).loWrites = s.loWrites := rfl
@[simp] theorem setIcu_out (l : Lane) (f : Icu → Icu) (s : State) : (setIcu l f s).out = s.out := rfl
@[simp] theorem setIcu_sys (l : Lane) (f : Icu → Icu) (s : State) : (setIcu l f s).sys = s.sys := rfl
@[simp] theorem setIcu_isl (l : Lane) (f : Icu → Icu) (s : State) : (setIcu l f s).isl = s.isl := rfl
@[simp] theorem setIcu_nv (l : Lane) (f : Icu → Icu) (s : State) : (setIcu l f s).nv = s.nv := rfl
@[simp] theorem setIcu_time (l : Lane) (f : Icu → Icu) (s : State) : (setIcu l f s).time = s.time := rfl
@[simp] theorem setIcu_vot (l : Lane) (f : Icu → Icu) (s : State) : (setIcu l f s).vot = s.vot := rfl
@[simp] theorem setIcu_mems (l : Lane) (f : Icu → Icu) (s : State) : (setIcu l f s).mems = s.mems := rfl
@[simp] theorem setIcu_erec (l : Lane) (f : Icu → Icu) (s : State) : (setIcu l f s).erec = s.erec := rfl
@[simp] theorem setIcu_odo (l : Lane) (f : Icu → Icu) (s : State) : (setIcu l f s).odo = s.odo := rfl
@[simp] theorem setIcu_sup (l : Lane) (f : Icu → Icu) (s : State) : (setIcu l f s).sup = s.sup := rfl
@[simp] theorem setIcu_pst (l : Lane) (f : Icu → Icu) (s : State) : (setIcu l f s).pst = s.pst := rfl
@[simp] theorem setIcu_dio (l : Lane) (f : Icu → Icu) (s : State) : (setIcu l f s).dio = s.dio := rfl
@[simp] theorem setIcu_ftn (l : Lane) (f : Icu → Icu) (s : State) : (setIcu l f s).ftn = s.ftn := rfl
@[simp] theorem setIcu_cyc (l : Lane) (f : Icu → Icu) (s : State) : (setIcu l f s).cyc = s.cyc := rfl
@[simp] theorem setIcu_chk (l : Lane) (f : Icu → Icu) (s : State) : (setIcu l f s).chk = s.chk := rfl
@[simp] theorem setIcu_brg (l : Lane) (f : Icu → Icu) (s : State) : (setIcu l f s).brg = s.brg := rfl
@[simp] theorem setIcu_dmas (l : Lane) (f : Icu → Icu) (s : State) : (setIcu l f s).dmas = s.dmas := rfl
@[simp] theorem setIcu_ksp (l : Lane) (f : Icu → Icu) (s : State) : (setIcu l f s).ksp = s.ksp := rfl
@[simp] theorem setIcu_upd (l : Lane) (f : Icu → Icu) (s : State) : (setIcu l f s).upd = s.upd := rfl
@[simp] theorem setIcu_secs (l : Lane) (f : Icu → Icu) (s : State) : (setIcu l f s).secs = s.secs := rfl
@[simp] theorem setIcu_tlm (l : Lane) (f : Icu → Icu) (s : State) : (setIcu l f s).tlm = s.tlm := rfl
@[simp] theorem setMem_pending (l : Lane) (f : LaneMem → LaneMem) (s : State) : (setMem l f s).pending = s.pending := rfl
@[simp] theorem setMem_now (l : Lane) (f : LaneMem → LaneMem) (s : State) : (setMem l f s).now = s.now := rfl
@[simp] theorem setMem_free (l : Lane) (f : LaneMem → LaneMem) (s : State) : (setMem l f s).free = s.free := rfl
@[simp] theorem setMem_regs (l : Lane) (f : LaneMem → LaneMem) (s : State) : (setMem l f s).regs = s.regs := rfl
@[simp] theorem setMem_shadows (l : Lane) (f : LaneMem → LaneMem) (s : State) : (setMem l f s).shadows = s.shadows := rfl
@[simp] theorem setMem_latches (l : Lane) (f : LaneMem → LaneMem) (s : State) : (setMem l f s).latches = s.latches := rfl
@[simp] theorem setMem_loWrites (l : Lane) (f : LaneMem → LaneMem) (s : State) : (setMem l f s).loWrites = s.loWrites := rfl
@[simp] theorem setMem_out (l : Lane) (f : LaneMem → LaneMem) (s : State) : (setMem l f s).out = s.out := rfl
@[simp] theorem setMem_sys (l : Lane) (f : LaneMem → LaneMem) (s : State) : (setMem l f s).sys = s.sys := rfl
@[simp] theorem setMem_isl (l : Lane) (f : LaneMem → LaneMem) (s : State) : (setMem l f s).isl = s.isl := rfl
@[simp] theorem setMem_nv (l : Lane) (f : LaneMem → LaneMem) (s : State) : (setMem l f s).nv = s.nv := rfl
@[simp] theorem setMem_time (l : Lane) (f : LaneMem → LaneMem) (s : State) : (setMem l f s).time = s.time := rfl
@[simp] theorem setMem_vot (l : Lane) (f : LaneMem → LaneMem) (s : State) : (setMem l f s).vot = s.vot := rfl
@[simp] theorem setMem_icus (l : Lane) (f : LaneMem → LaneMem) (s : State) : (setMem l f s).icus = s.icus := rfl
@[simp] theorem setMem_erec (l : Lane) (f : LaneMem → LaneMem) (s : State) : (setMem l f s).erec = s.erec := rfl
@[simp] theorem setMem_odo (l : Lane) (f : LaneMem → LaneMem) (s : State) : (setMem l f s).odo = s.odo := rfl
@[simp] theorem setMem_sup (l : Lane) (f : LaneMem → LaneMem) (s : State) : (setMem l f s).sup = s.sup := rfl
@[simp] theorem setMem_pst (l : Lane) (f : LaneMem → LaneMem) (s : State) : (setMem l f s).pst = s.pst := rfl
@[simp] theorem setMem_dio (l : Lane) (f : LaneMem → LaneMem) (s : State) : (setMem l f s).dio = s.dio := rfl
@[simp] theorem setMem_ftn (l : Lane) (f : LaneMem → LaneMem) (s : State) : (setMem l f s).ftn = s.ftn := rfl
@[simp] theorem setMem_cyc (l : Lane) (f : LaneMem → LaneMem) (s : State) : (setMem l f s).cyc = s.cyc := rfl
@[simp] theorem setMem_chk (l : Lane) (f : LaneMem → LaneMem) (s : State) : (setMem l f s).chk = s.chk := rfl
@[simp] theorem setMem_brg (l : Lane) (f : LaneMem → LaneMem) (s : State) : (setMem l f s).brg = s.brg := rfl
@[simp] theorem setMem_dmas (l : Lane) (f : LaneMem → LaneMem) (s : State) : (setMem l f s).dmas = s.dmas := rfl
@[simp] theorem setMem_ksp (l : Lane) (f : LaneMem → LaneMem) (s : State) : (setMem l f s).ksp = s.ksp := rfl
@[simp] theorem setMem_upd (l : Lane) (f : LaneMem → LaneMem) (s : State) : (setMem l f s).upd = s.upd := rfl
@[simp] theorem setMem_secs (l : Lane) (f : LaneMem → LaneMem) (s : State) : (setMem l f s).secs = s.secs := rfl
@[simp] theorem setMem_tlm (l : Lane) (f : LaneMem → LaneMem) (s : State) : (setMem l f s).tlm = s.tlm := rfl
@[simp] theorem setPort_pending (p : Nat) (f : Port → Port) (s : State) : (setPort p f s).pending = s.pending := rfl
@[simp] theorem setPort_now (p : Nat) (f : Port → Port) (s : State) : (setPort p f s).now = s.now := rfl
@[simp] theorem setPort_free (p : Nat) (f : Port → Port) (s : State) : (setPort p f s).free = s.free := rfl
@[simp] theorem setPort_regs (p : Nat) (f : Port → Port) (s : State) : (setPort p f s).regs = s.regs := rfl
@[simp] theorem setPort_shadows (p : Nat) (f : Port → Port) (s : State) : (setPort p f s).shadows = s.shadows := rfl
@[simp] theorem setPort_latches (p : Nat) (f : Port → Port) (s : State) : (setPort p f s).latches = s.latches := rfl
@[simp] theorem setPort_loWrites (p : Nat) (f : Port → Port) (s : State) : (setPort p f s).loWrites = s.loWrites := rfl
@[simp] theorem setPort_out (p : Nat) (f : Port → Port) (s : State) : (setPort p f s).out = s.out := rfl
@[simp] theorem setPort_sys (p : Nat) (f : Port → Port) (s : State) : (setPort p f s).sys = s.sys := rfl
@[simp] theorem setPort_isl (p : Nat) (f : Port → Port) (s : State) : (setPort p f s).isl = s.isl := rfl
@[simp] theorem setPort_nv (p : Nat) (f : Port → Port) (s : State) : (setPort p f s).nv = s.nv := rfl
@[simp] theorem setPort_time (p : Nat) (f : Port → Port) (s : State) : (setPort p f s).time = s.time := rfl
@[simp] theorem setPort_vot (p : Nat) (f : Port → Port) (s : State) : (setPort p f s).vot = s.vot := rfl
@[simp] theorem setPort_icus (p : Nat) (f : Port → Port) (s : State) : (setPort p f s).icus = s.icus := rfl
@[simp] theorem setPort_mems (p : Nat) (f : Port → Port) (s : State) : (setPort p f s).mems = s.mems := rfl
@[simp] theorem setPort_erec (p : Nat) (f : Port → Port) (s : State) : (setPort p f s).erec = s.erec := rfl
@[simp] theorem setPort_odo (p : Nat) (f : Port → Port) (s : State) : (setPort p f s).odo = s.odo := rfl
@[simp] theorem setPort_sup (p : Nat) (f : Port → Port) (s : State) : (setPort p f s).sup = s.sup := rfl
@[simp] theorem setPort_pst (p : Nat) (f : Port → Port) (s : State) : (setPort p f s).pst = s.pst := rfl
@[simp] theorem setPort_dio (p : Nat) (f : Port → Port) (s : State) : (setPort p f s).dio = s.dio := rfl
@[simp] theorem setPort_cyc (p : Nat) (f : Port → Port) (s : State) : (setPort p f s).cyc = s.cyc := rfl
@[simp] theorem setPort_chk (p : Nat) (f : Port → Port) (s : State) : (setPort p f s).chk = s.chk := rfl
@[simp] theorem setPort_brg (p : Nat) (f : Port → Port) (s : State) : (setPort p f s).brg = s.brg := rfl
@[simp] theorem setPort_dmas (p : Nat) (f : Port → Port) (s : State) : (setPort p f s).dmas = s.dmas := rfl
@[simp] theorem setPort_ksp (p : Nat) (f : Port → Port) (s : State) : (setPort p f s).ksp = s.ksp := rfl
@[simp] theorem setPort_upd (p : Nat) (f : Port → Port) (s : State) : (setPort p f s).upd = s.upd := rfl
@[simp] theorem setPort_secs (p : Nat) (f : Port → Port) (s : State) : (setPort p f s).secs = s.secs := rfl
@[simp] theorem setPort_tlm (p : Nat) (f : Port → Port) (s : State) : (setPort p f s).tlm = s.tlm := rfl
@[simp] theorem setLink_pending (p : Nat) (f : Link → Link) (s : State) : (setLink p f s).pending = s.pending := rfl
@[simp] theorem setLink_now (p : Nat) (f : Link → Link) (s : State) : (setLink p f s).now = s.now := rfl
@[simp] theorem setLink_free (p : Nat) (f : Link → Link) (s : State) : (setLink p f s).free = s.free := rfl
@[simp] theorem setLink_regs (p : Nat) (f : Link → Link) (s : State) : (setLink p f s).regs = s.regs := rfl
@[simp] theorem setLink_shadows (p : Nat) (f : Link → Link) (s : State) : (setLink p f s).shadows = s.shadows := rfl
@[simp] theorem setLink_latches (p : Nat) (f : Link → Link) (s : State) : (setLink p f s).latches = s.latches := rfl
@[simp] theorem setLink_loWrites (p : Nat) (f : Link → Link) (s : State) : (setLink p f s).loWrites = s.loWrites := rfl
@[simp] theorem setLink_out (p : Nat) (f : Link → Link) (s : State) : (setLink p f s).out = s.out := rfl
@[simp] theorem setLink_sys (p : Nat) (f : Link → Link) (s : State) : (setLink p f s).sys = s.sys := rfl
@[simp] theorem setLink_isl (p : Nat) (f : Link → Link) (s : State) : (setLink p f s).isl = s.isl := rfl
@[simp] theorem setLink_nv (p : Nat) (f : Link → Link) (s : State) : (setLink p f s).nv = s.nv := rfl
@[simp] theorem setLink_time (p : Nat) (f : Link → Link) (s : State) : (setLink p f s).time = s.time := rfl
@[simp] theorem setLink_vot (p : Nat) (f : Link → Link) (s : State) : (setLink p f s).vot = s.vot := rfl
@[simp] theorem setLink_icus (p : Nat) (f : Link → Link) (s : State) : (setLink p f s).icus = s.icus := rfl
@[simp] theorem setLink_mems (p : Nat) (f : Link → Link) (s : State) : (setLink p f s).mems = s.mems := rfl
@[simp] theorem setLink_erec (p : Nat) (f : Link → Link) (s : State) : (setLink p f s).erec = s.erec := rfl
@[simp] theorem setLink_odo (p : Nat) (f : Link → Link) (s : State) : (setLink p f s).odo = s.odo := rfl
@[simp] theorem setLink_sup (p : Nat) (f : Link → Link) (s : State) : (setLink p f s).sup = s.sup := rfl
@[simp] theorem setLink_pst (p : Nat) (f : Link → Link) (s : State) : (setLink p f s).pst = s.pst := rfl
@[simp] theorem setLink_dio (p : Nat) (f : Link → Link) (s : State) : (setLink p f s).dio = s.dio := rfl
@[simp] theorem setLink_cyc (p : Nat) (f : Link → Link) (s : State) : (setLink p f s).cyc = s.cyc := rfl
@[simp] theorem setLink_chk (p : Nat) (f : Link → Link) (s : State) : (setLink p f s).chk = s.chk := rfl
@[simp] theorem setLink_brg (p : Nat) (f : Link → Link) (s : State) : (setLink p f s).brg = s.brg := rfl
@[simp] theorem setLink_dmas (p : Nat) (f : Link → Link) (s : State) : (setLink p f s).dmas = s.dmas := rfl
@[simp] theorem setLink_ksp (p : Nat) (f : Link → Link) (s : State) : (setLink p f s).ksp = s.ksp := rfl
@[simp] theorem setLink_upd (p : Nat) (f : Link → Link) (s : State) : (setLink p f s).upd = s.upd := rfl
@[simp] theorem setLink_secs (p : Nat) (f : Link → Link) (s : State) : (setLink p f s).secs = s.secs := rfl
@[simp] theorem setLink_tlm (p : Nat) (f : Link → Link) (s : State) : (setLink p f s).tlm = s.tlm := rfl
@[simp] theorem setTxBuf_pending (b : Nat) (v : TxBuf) (s : State) : (setTxBuf b v s).pending = s.pending := rfl
@[simp] theorem setTxBuf_now (b : Nat) (v : TxBuf) (s : State) : (setTxBuf b v s).now = s.now := rfl
@[simp] theorem setTxBuf_free (b : Nat) (v : TxBuf) (s : State) : (setTxBuf b v s).free = s.free := rfl
@[simp] theorem setTxBuf_regs (b : Nat) (v : TxBuf) (s : State) : (setTxBuf b v s).regs = s.regs := rfl
@[simp] theorem setTxBuf_shadows (b : Nat) (v : TxBuf) (s : State) : (setTxBuf b v s).shadows = s.shadows := rfl
@[simp] theorem setTxBuf_latches (b : Nat) (v : TxBuf) (s : State) : (setTxBuf b v s).latches = s.latches := rfl
@[simp] theorem setTxBuf_loWrites (b : Nat) (v : TxBuf) (s : State) : (setTxBuf b v s).loWrites = s.loWrites := rfl
@[simp] theorem setTxBuf_out (b : Nat) (v : TxBuf) (s : State) : (setTxBuf b v s).out = s.out := rfl
@[simp] theorem setTxBuf_sys (b : Nat) (v : TxBuf) (s : State) : (setTxBuf b v s).sys = s.sys := rfl
@[simp] theorem setTxBuf_isl (b : Nat) (v : TxBuf) (s : State) : (setTxBuf b v s).isl = s.isl := rfl
@[simp] theorem setTxBuf_nv (b : Nat) (v : TxBuf) (s : State) : (setTxBuf b v s).nv = s.nv := rfl
@[simp] theorem setTxBuf_time (b : Nat) (v : TxBuf) (s : State) : (setTxBuf b v s).time = s.time := rfl
@[simp] theorem setTxBuf_vot (b : Nat) (v : TxBuf) (s : State) : (setTxBuf b v s).vot = s.vot := rfl
@[simp] theorem setTxBuf_icus (b : Nat) (v : TxBuf) (s : State) : (setTxBuf b v s).icus = s.icus := rfl
@[simp] theorem setTxBuf_mems (b : Nat) (v : TxBuf) (s : State) : (setTxBuf b v s).mems = s.mems := rfl
@[simp] theorem setTxBuf_erec (b : Nat) (v : TxBuf) (s : State) : (setTxBuf b v s).erec = s.erec := rfl
@[simp] theorem setTxBuf_odo (b : Nat) (v : TxBuf) (s : State) : (setTxBuf b v s).odo = s.odo := rfl
@[simp] theorem setTxBuf_sup (b : Nat) (v : TxBuf) (s : State) : (setTxBuf b v s).sup = s.sup := rfl
@[simp] theorem setTxBuf_pst (b : Nat) (v : TxBuf) (s : State) : (setTxBuf b v s).pst = s.pst := rfl
@[simp] theorem setTxBuf_dio (b : Nat) (v : TxBuf) (s : State) : (setTxBuf b v s).dio = s.dio := rfl
@[simp] theorem setTxBuf_cyc (b : Nat) (v : TxBuf) (s : State) : (setTxBuf b v s).cyc = s.cyc := rfl
@[simp] theorem setTxBuf_chk (b : Nat) (v : TxBuf) (s : State) : (setTxBuf b v s).chk = s.chk := rfl
@[simp] theorem setTxBuf_brg (b : Nat) (v : TxBuf) (s : State) : (setTxBuf b v s).brg = s.brg := rfl
@[simp] theorem setTxBuf_dmas (b : Nat) (v : TxBuf) (s : State) : (setTxBuf b v s).dmas = s.dmas := rfl
@[simp] theorem setTxBuf_ksp (b : Nat) (v : TxBuf) (s : State) : (setTxBuf b v s).ksp = s.ksp := rfl
@[simp] theorem setTxBuf_upd (b : Nat) (v : TxBuf) (s : State) : (setTxBuf b v s).upd = s.upd := rfl
@[simp] theorem setTxBuf_secs (b : Nat) (v : TxBuf) (s : State) : (setTxBuf b v s).secs = s.secs := rfl
@[simp] theorem setTxBuf_tlm (b : Nat) (v : TxBuf) (s : State) : (setTxBuf b v s).tlm = s.tlm := rfl
@[simp] theorem setRxBuf_pending (b : Nat) (v : RxBuf) (s : State) : (setRxBuf b v s).pending = s.pending := rfl
@[simp] theorem setRxBuf_now (b : Nat) (v : RxBuf) (s : State) : (setRxBuf b v s).now = s.now := rfl
@[simp] theorem setRxBuf_free (b : Nat) (v : RxBuf) (s : State) : (setRxBuf b v s).free = s.free := rfl
@[simp] theorem setRxBuf_regs (b : Nat) (v : RxBuf) (s : State) : (setRxBuf b v s).regs = s.regs := rfl
@[simp] theorem setRxBuf_shadows (b : Nat) (v : RxBuf) (s : State) : (setRxBuf b v s).shadows = s.shadows := rfl
@[simp] theorem setRxBuf_latches (b : Nat) (v : RxBuf) (s : State) : (setRxBuf b v s).latches = s.latches := rfl
@[simp] theorem setRxBuf_loWrites (b : Nat) (v : RxBuf) (s : State) : (setRxBuf b v s).loWrites = s.loWrites := rfl
@[simp] theorem setRxBuf_out (b : Nat) (v : RxBuf) (s : State) : (setRxBuf b v s).out = s.out := rfl
@[simp] theorem setRxBuf_sys (b : Nat) (v : RxBuf) (s : State) : (setRxBuf b v s).sys = s.sys := rfl
@[simp] theorem setRxBuf_isl (b : Nat) (v : RxBuf) (s : State) : (setRxBuf b v s).isl = s.isl := rfl
@[simp] theorem setRxBuf_nv (b : Nat) (v : RxBuf) (s : State) : (setRxBuf b v s).nv = s.nv := rfl
@[simp] theorem setRxBuf_time (b : Nat) (v : RxBuf) (s : State) : (setRxBuf b v s).time = s.time := rfl
@[simp] theorem setRxBuf_vot (b : Nat) (v : RxBuf) (s : State) : (setRxBuf b v s).vot = s.vot := rfl
@[simp] theorem setRxBuf_icus (b : Nat) (v : RxBuf) (s : State) : (setRxBuf b v s).icus = s.icus := rfl
@[simp] theorem setRxBuf_mems (b : Nat) (v : RxBuf) (s : State) : (setRxBuf b v s).mems = s.mems := rfl
@[simp] theorem setRxBuf_erec (b : Nat) (v : RxBuf) (s : State) : (setRxBuf b v s).erec = s.erec := rfl
@[simp] theorem setRxBuf_odo (b : Nat) (v : RxBuf) (s : State) : (setRxBuf b v s).odo = s.odo := rfl
@[simp] theorem setRxBuf_sup (b : Nat) (v : RxBuf) (s : State) : (setRxBuf b v s).sup = s.sup := rfl
@[simp] theorem setRxBuf_pst (b : Nat) (v : RxBuf) (s : State) : (setRxBuf b v s).pst = s.pst := rfl
@[simp] theorem setRxBuf_dio (b : Nat) (v : RxBuf) (s : State) : (setRxBuf b v s).dio = s.dio := rfl
@[simp] theorem setRxBuf_cyc (b : Nat) (v : RxBuf) (s : State) : (setRxBuf b v s).cyc = s.cyc := rfl
@[simp] theorem setRxBuf_chk (b : Nat) (v : RxBuf) (s : State) : (setRxBuf b v s).chk = s.chk := rfl
@[simp] theorem setRxBuf_brg (b : Nat) (v : RxBuf) (s : State) : (setRxBuf b v s).brg = s.brg := rfl
@[simp] theorem setRxBuf_dmas (b : Nat) (v : RxBuf) (s : State) : (setRxBuf b v s).dmas = s.dmas := rfl
@[simp] theorem setRxBuf_ksp (b : Nat) (v : RxBuf) (s : State) : (setRxBuf b v s).ksp = s.ksp := rfl
@[simp] theorem setRxBuf_upd (b : Nat) (v : RxBuf) (s : State) : (setRxBuf b v s).upd = s.upd := rfl
@[simp] theorem setRxBuf_secs (b : Nat) (v : RxBuf) (s : State) : (setRxBuf b v s).secs = s.secs := rfl
@[simp] theorem setRxBuf_tlm (b : Nat) (v : RxBuf) (s : State) : (setRxBuf b v s).tlm = s.tlm := rfl
@[simp] theorem setCyc_pending (l : Lane) (f : LaneCyc → LaneCyc) (s : State) : (setCyc l f s).pending = s.pending := rfl
@[simp] theorem setCyc_now (l : Lane) (f : LaneCyc → LaneCyc) (s : State) : (setCyc l f s).now = s.now := rfl
@[simp] theorem setCyc_free (l : Lane) (f : LaneCyc → LaneCyc) (s : State) : (setCyc l f s).free = s.free := rfl
@[simp] theorem setCyc_regs (l : Lane) (f : LaneCyc → LaneCyc) (s : State) : (setCyc l f s).regs = s.regs := rfl
@[simp] theorem setCyc_shadows (l : Lane) (f : LaneCyc → LaneCyc) (s : State) : (setCyc l f s).shadows = s.shadows := rfl
@[simp] theorem setCyc_latches (l : Lane) (f : LaneCyc → LaneCyc) (s : State) : (setCyc l f s).latches = s.latches := rfl
@[simp] theorem setCyc_loWrites (l : Lane) (f : LaneCyc → LaneCyc) (s : State) : (setCyc l f s).loWrites = s.loWrites := rfl
@[simp] theorem setCyc_out (l : Lane) (f : LaneCyc → LaneCyc) (s : State) : (setCyc l f s).out = s.out := rfl
@[simp] theorem setCyc_sys (l : Lane) (f : LaneCyc → LaneCyc) (s : State) : (setCyc l f s).sys = s.sys := rfl
@[simp] theorem setCyc_isl (l : Lane) (f : LaneCyc → LaneCyc) (s : State) : (setCyc l f s).isl = s.isl := rfl
@[simp] theorem setCyc_nv (l : Lane) (f : LaneCyc → LaneCyc) (s : State) : (setCyc l f s).nv = s.nv := rfl
@[simp] theorem setCyc_time (l : Lane) (f : LaneCyc → LaneCyc) (s : State) : (setCyc l f s).time = s.time := rfl
@[simp] theorem setCyc_vot (l : Lane) (f : LaneCyc → LaneCyc) (s : State) : (setCyc l f s).vot = s.vot := rfl
@[simp] theorem setCyc_icus (l : Lane) (f : LaneCyc → LaneCyc) (s : State) : (setCyc l f s).icus = s.icus := rfl
@[simp] theorem setCyc_mems (l : Lane) (f : LaneCyc → LaneCyc) (s : State) : (setCyc l f s).mems = s.mems := rfl
@[simp] theorem setCyc_erec (l : Lane) (f : LaneCyc → LaneCyc) (s : State) : (setCyc l f s).erec = s.erec := rfl
@[simp] theorem setCyc_odo (l : Lane) (f : LaneCyc → LaneCyc) (s : State) : (setCyc l f s).odo = s.odo := rfl
@[simp] theorem setCyc_sup (l : Lane) (f : LaneCyc → LaneCyc) (s : State) : (setCyc l f s).sup = s.sup := rfl
@[simp] theorem setCyc_pst (l : Lane) (f : LaneCyc → LaneCyc) (s : State) : (setCyc l f s).pst = s.pst := rfl
@[simp] theorem setCyc_dio (l : Lane) (f : LaneCyc → LaneCyc) (s : State) : (setCyc l f s).dio = s.dio := rfl
@[simp] theorem setCyc_ftn (l : Lane) (f : LaneCyc → LaneCyc) (s : State) : (setCyc l f s).ftn = s.ftn := rfl
@[simp] theorem setCyc_chk (l : Lane) (f : LaneCyc → LaneCyc) (s : State) : (setCyc l f s).chk = s.chk := rfl
@[simp] theorem setCyc_brg (l : Lane) (f : LaneCyc → LaneCyc) (s : State) : (setCyc l f s).brg = s.brg := rfl
@[simp] theorem setCyc_dmas (l : Lane) (f : LaneCyc → LaneCyc) (s : State) : (setCyc l f s).dmas = s.dmas := rfl
@[simp] theorem setCyc_ksp (l : Lane) (f : LaneCyc → LaneCyc) (s : State) : (setCyc l f s).ksp = s.ksp := rfl
@[simp] theorem setCyc_upd (l : Lane) (f : LaneCyc → LaneCyc) (s : State) : (setCyc l f s).upd = s.upd := rfl
@[simp] theorem setCyc_secs (l : Lane) (f : LaneCyc → LaneCyc) (s : State) : (setCyc l f s).secs = s.secs := rfl
@[simp] theorem setCyc_tlm (l : Lane) (f : LaneCyc → LaneCyc) (s : State) : (setCyc l f s).tlm = s.tlm := rfl
@[simp] theorem setDma_pending (c : Nat) (f : Dma → Dma) (s : State) : (setDma c f s).pending = s.pending := rfl
@[simp] theorem setDma_now (c : Nat) (f : Dma → Dma) (s : State) : (setDma c f s).now = s.now := rfl
@[simp] theorem setDma_free (c : Nat) (f : Dma → Dma) (s : State) : (setDma c f s).free = s.free := rfl
@[simp] theorem setDma_regs (c : Nat) (f : Dma → Dma) (s : State) : (setDma c f s).regs = s.regs := rfl
@[simp] theorem setDma_shadows (c : Nat) (f : Dma → Dma) (s : State) : (setDma c f s).shadows = s.shadows := rfl
@[simp] theorem setDma_latches (c : Nat) (f : Dma → Dma) (s : State) : (setDma c f s).latches = s.latches := rfl
@[simp] theorem setDma_loWrites (c : Nat) (f : Dma → Dma) (s : State) : (setDma c f s).loWrites = s.loWrites := rfl
@[simp] theorem setDma_out (c : Nat) (f : Dma → Dma) (s : State) : (setDma c f s).out = s.out := rfl
@[simp] theorem setDma_sys (c : Nat) (f : Dma → Dma) (s : State) : (setDma c f s).sys = s.sys := rfl
@[simp] theorem setDma_isl (c : Nat) (f : Dma → Dma) (s : State) : (setDma c f s).isl = s.isl := rfl
@[simp] theorem setDma_nv (c : Nat) (f : Dma → Dma) (s : State) : (setDma c f s).nv = s.nv := rfl
@[simp] theorem setDma_time (c : Nat) (f : Dma → Dma) (s : State) : (setDma c f s).time = s.time := rfl
@[simp] theorem setDma_vot (c : Nat) (f : Dma → Dma) (s : State) : (setDma c f s).vot = s.vot := rfl
@[simp] theorem setDma_icus (c : Nat) (f : Dma → Dma) (s : State) : (setDma c f s).icus = s.icus := rfl
@[simp] theorem setDma_mems (c : Nat) (f : Dma → Dma) (s : State) : (setDma c f s).mems = s.mems := rfl
@[simp] theorem setDma_erec (c : Nat) (f : Dma → Dma) (s : State) : (setDma c f s).erec = s.erec := rfl
@[simp] theorem setDma_odo (c : Nat) (f : Dma → Dma) (s : State) : (setDma c f s).odo = s.odo := rfl
@[simp] theorem setDma_sup (c : Nat) (f : Dma → Dma) (s : State) : (setDma c f s).sup = s.sup := rfl
@[simp] theorem setDma_pst (c : Nat) (f : Dma → Dma) (s : State) : (setDma c f s).pst = s.pst := rfl
@[simp] theorem setDma_dio (c : Nat) (f : Dma → Dma) (s : State) : (setDma c f s).dio = s.dio := rfl
@[simp] theorem setDma_ftn (c : Nat) (f : Dma → Dma) (s : State) : (setDma c f s).ftn = s.ftn := rfl
@[simp] theorem setDma_cyc (c : Nat) (f : Dma → Dma) (s : State) : (setDma c f s).cyc = s.cyc := rfl
@[simp] theorem setDma_chk (c : Nat) (f : Dma → Dma) (s : State) : (setDma c f s).chk = s.chk := rfl
@[simp] theorem setDma_brg (c : Nat) (f : Dma → Dma) (s : State) : (setDma c f s).brg = s.brg := rfl
@[simp] theorem setDma_ksp (c : Nat) (f : Dma → Dma) (s : State) : (setDma c f s).ksp = s.ksp := rfl
@[simp] theorem setDma_upd (c : Nat) (f : Dma → Dma) (s : State) : (setDma c f s).upd = s.upd := rfl
@[simp] theorem setDma_secs (c : Nat) (f : Dma → Dma) (s : State) : (setDma c f s).secs = s.secs := rfl
@[simp] theorem setDma_tlm (c : Nat) (f : Dma → Dma) (s : State) : (setDma c f s).tlm = s.tlm := rfl
@[simp] theorem setCulvert_pending (l : Nat) (f : Culvert → Culvert) (s : State) : (setCulvert l f s).pending = s.pending := by
  unfold setCulvert; split <;> rfl
@[simp] theorem setCulvert_now (l : Nat) (f : Culvert → Culvert) (s : State) : (setCulvert l f s).now = s.now := by
  unfold setCulvert; split <;> rfl
@[simp] theorem setCulvert_free (l : Nat) (f : Culvert → Culvert) (s : State) : (setCulvert l f s).free = s.free := by
  unfold setCulvert; split <;> rfl
@[simp] theorem setCulvert_regs (l : Nat) (f : Culvert → Culvert) (s : State) : (setCulvert l f s).regs = s.regs := by
  unfold setCulvert; split <;> rfl
@[simp] theorem setCulvert_shadows (l : Nat) (f : Culvert → Culvert) (s : State) : (setCulvert l f s).shadows = s.shadows := by
  unfold setCulvert; split <;> rfl
@[simp] theorem setCulvert_latches (l : Nat) (f : Culvert → Culvert) (s : State) : (setCulvert l f s).latches = s.latches := by
  unfold setCulvert; split <;> rfl
@[simp] theorem setCulvert_loWrites (l : Nat) (f : Culvert → Culvert) (s : State) : (setCulvert l f s).loWrites = s.loWrites := by
  unfold setCulvert; split <;> rfl
@[simp] theorem setCulvert_out (l : Nat) (f : Culvert → Culvert) (s : State) : (setCulvert l f s).out = s.out := by
  unfold setCulvert; split <;> rfl
@[simp] theorem setCulvert_sys (l : Nat) (f : Culvert → Culvert) (s : State) : (setCulvert l f s).sys = s.sys := by
  unfold setCulvert; split <;> rfl
@[simp] theorem setCulvert_isl (l : Nat) (f : Culvert → Culvert) (s : State) : (setCulvert l f s).isl = s.isl := by
  unfold setCulvert; split <;> rfl
@[simp] theorem setCulvert_nv (l : Nat) (f : Culvert → Culvert) (s : State) : (setCulvert l f s).nv = s.nv := by
  unfold setCulvert; split <;> rfl
@[simp] theorem setCulvert_time (l : Nat) (f : Culvert → Culvert) (s : State) : (setCulvert l f s).time = s.time := by
  unfold setCulvert; split <;> rfl
@[simp] theorem setCulvert_vot (l : Nat) (f : Culvert → Culvert) (s : State) : (setCulvert l f s).vot = s.vot := by
  unfold setCulvert; split <;> rfl
@[simp] theorem setCulvert_icus (l : Nat) (f : Culvert → Culvert) (s : State) : (setCulvert l f s).icus = s.icus := by
  unfold setCulvert; split <;> rfl
@[simp] theorem setCulvert_mems (l : Nat) (f : Culvert → Culvert) (s : State) : (setCulvert l f s).mems = s.mems := by
  unfold setCulvert; split <;> rfl
@[simp] theorem setCulvert_erec (l : Nat) (f : Culvert → Culvert) (s : State) : (setCulvert l f s).erec = s.erec := by
  unfold setCulvert; split <;> rfl
@[simp] theorem setCulvert_odo (l : Nat) (f : Culvert → Culvert) (s : State) : (setCulvert l f s).odo = s.odo := by
  unfold setCulvert; split <;> rfl
@[simp] theorem setCulvert_sup (l : Nat) (f : Culvert → Culvert) (s : State) : (setCulvert l f s).sup = s.sup := by
  unfold setCulvert; split <;> rfl
@[simp] theorem setCulvert_pst (l : Nat) (f : Culvert → Culvert) (s : State) : (setCulvert l f s).pst = s.pst := by
  unfold setCulvert; split <;> rfl
@[simp] theorem setCulvert_dio (l : Nat) (f : Culvert → Culvert) (s : State) : (setCulvert l f s).dio = s.dio := by
  unfold setCulvert; split <;> rfl
@[simp] theorem setCulvert_ftn (l : Nat) (f : Culvert → Culvert) (s : State) : (setCulvert l f s).ftn = s.ftn := by
  unfold setCulvert; split <;> rfl
@[simp] theorem setCulvert_cyc (l : Nat) (f : Culvert → Culvert) (s : State) : (setCulvert l f s).cyc = s.cyc := by
  unfold setCulvert; split <;> rfl
@[simp] theorem setCulvert_chk (l : Nat) (f : Culvert → Culvert) (s : State) : (setCulvert l f s).chk = s.chk := by
  unfold setCulvert; split <;> rfl
@[simp] theorem setCulvert_dmas (l : Nat) (f : Culvert → Culvert) (s : State) : (setCulvert l f s).dmas = s.dmas := by
  unfold setCulvert; split <;> rfl
@[simp] theorem setCulvert_ksp (l : Nat) (f : Culvert → Culvert) (s : State) : (setCulvert l f s).ksp = s.ksp := by
  unfold setCulvert; split <;> rfl
@[simp] theorem setCulvert_upd (l : Nat) (f : Culvert → Culvert) (s : State) : (setCulvert l f s).upd = s.upd := by
  unfold setCulvert; split <;> rfl
@[simp] theorem setCulvert_secs (l : Nat) (f : Culvert → Culvert) (s : State) : (setCulvert l f s).secs = s.secs := by
  unfold setCulvert; split <;> rfl
@[simp] theorem setCulvert_tlm (l : Nat) (f : Culvert → Culvert) (s : State) : (setCulvert l f s).tlm = s.tlm := by
  unfold setCulvert; split <;> rfl
@[simp] theorem setSession_pending (num : Half) (f : Session → Session) (s : State) : (setSession num f s).pending = s.pending := rfl
@[simp] theorem setSession_now (num : Half) (f : Session → Session) (s : State) : (setSession num f s).now = s.now := rfl
@[simp] theorem setSession_free (num : Half) (f : Session → Session) (s : State) : (setSession num f s).free = s.free := rfl
@[simp] theorem setSession_regs (num : Half) (f : Session → Session) (s : State) : (setSession num f s).regs = s.regs := rfl
@[simp] theorem setSession_shadows (num : Half) (f : Session → Session) (s : State) : (setSession num f s).shadows = s.shadows := rfl
@[simp] theorem setSession_latches (num : Half) (f : Session → Session) (s : State) : (setSession num f s).latches = s.latches := rfl
@[simp] theorem setSession_loWrites (num : Half) (f : Session → Session) (s : State) : (setSession num f s).loWrites = s.loWrites := rfl
@[simp] theorem setSession_out (num : Half) (f : Session → Session) (s : State) : (setSession num f s).out = s.out := rfl
@[simp] theorem setSession_sys (num : Half) (f : Session → Session) (s : State) : (setSession num f s).sys = s.sys := rfl
@[simp] theorem setSession_isl (num : Half) (f : Session → Session) (s : State) : (setSession num f s).isl = s.isl := rfl
@[simp] theorem setSession_nv (num : Half) (f : Session → Session) (s : State) : (setSession num f s).nv = s.nv := rfl
@[simp] theorem setSession_time (num : Half) (f : Session → Session) (s : State) : (setSession num f s).time = s.time := rfl
@[simp] theorem setSession_vot (num : Half) (f : Session → Session) (s : State) : (setSession num f s).vot = s.vot := rfl
@[simp] theorem setSession_icus (num : Half) (f : Session → Session) (s : State) : (setSession num f s).icus = s.icus := rfl
@[simp] theorem setSession_mems (num : Half) (f : Session → Session) (s : State) : (setSession num f s).mems = s.mems := rfl
@[simp] theorem setSession_erec (num : Half) (f : Session → Session) (s : State) : (setSession num f s).erec = s.erec := rfl
@[simp] theorem setSession_odo (num : Half) (f : Session → Session) (s : State) : (setSession num f s).odo = s.odo := rfl
@[simp] theorem setSession_sup (num : Half) (f : Session → Session) (s : State) : (setSession num f s).sup = s.sup := rfl
@[simp] theorem setSession_pst (num : Half) (f : Session → Session) (s : State) : (setSession num f s).pst = s.pst := rfl
@[simp] theorem setSession_dio (num : Half) (f : Session → Session) (s : State) : (setSession num f s).dio = s.dio := rfl
@[simp] theorem setSession_ftn (num : Half) (f : Session → Session) (s : State) : (setSession num f s).ftn = s.ftn := rfl
@[simp] theorem setSession_cyc (num : Half) (f : Session → Session) (s : State) : (setSession num f s).cyc = s.cyc := rfl
@[simp] theorem setSession_chk (num : Half) (f : Session → Session) (s : State) : (setSession num f s).chk = s.chk := rfl
@[simp] theorem setSession_brg (num : Half) (f : Session → Session) (s : State) : (setSession num f s).brg = s.brg := rfl
@[simp] theorem setSession_dmas (num : Half) (f : Session → Session) (s : State) : (setSession num f s).dmas = s.dmas := rfl
@[simp] theorem setSession_upd (num : Half) (f : Session → Session) (s : State) : (setSession num f s).upd = s.upd := rfl
@[simp] theorem setSession_secs (num : Half) (f : Session → Session) (s : State) : (setSession num f s).secs = s.secs := rfl
@[simp] theorem setSession_tlm (num : Half) (f : Session → Session) (s : State) : (setSession num f s).tlm = s.tlm := rfl
@[simp] theorem setKsp_pending (f : Ksp → Ksp) (s : State) : (setKsp f s).pending = s.pending := rfl
@[simp] theorem setKsp_now (f : Ksp → Ksp) (s : State) : (setKsp f s).now = s.now := rfl
@[simp] theorem setKsp_free (f : Ksp → Ksp) (s : State) : (setKsp f s).free = s.free := rfl
@[simp] theorem setKsp_regs (f : Ksp → Ksp) (s : State) : (setKsp f s).regs = s.regs := rfl
@[simp] theorem setKsp_shadows (f : Ksp → Ksp) (s : State) : (setKsp f s).shadows = s.shadows := rfl
@[simp] theorem setKsp_latches (f : Ksp → Ksp) (s : State) : (setKsp f s).latches = s.latches := rfl
@[simp] theorem setKsp_loWrites (f : Ksp → Ksp) (s : State) : (setKsp f s).loWrites = s.loWrites := rfl
@[simp] theorem setKsp_out (f : Ksp → Ksp) (s : State) : (setKsp f s).out = s.out := rfl
@[simp] theorem setKsp_sys (f : Ksp → Ksp) (s : State) : (setKsp f s).sys = s.sys := rfl
@[simp] theorem setKsp_isl (f : Ksp → Ksp) (s : State) : (setKsp f s).isl = s.isl := rfl
@[simp] theorem setKsp_nv (f : Ksp → Ksp) (s : State) : (setKsp f s).nv = s.nv := rfl
@[simp] theorem setKsp_time (f : Ksp → Ksp) (s : State) : (setKsp f s).time = s.time := rfl
@[simp] theorem setKsp_vot (f : Ksp → Ksp) (s : State) : (setKsp f s).vot = s.vot := rfl
@[simp] theorem setKsp_icus (f : Ksp → Ksp) (s : State) : (setKsp f s).icus = s.icus := rfl
@[simp] theorem setKsp_mems (f : Ksp → Ksp) (s : State) : (setKsp f s).mems = s.mems := rfl
@[simp] theorem setKsp_erec (f : Ksp → Ksp) (s : State) : (setKsp f s).erec = s.erec := rfl
@[simp] theorem setKsp_odo (f : Ksp → Ksp) (s : State) : (setKsp f s).odo = s.odo := rfl
@[simp] theorem setKsp_sup (f : Ksp → Ksp) (s : State) : (setKsp f s).sup = s.sup := rfl
@[simp] theorem setKsp_pst (f : Ksp → Ksp) (s : State) : (setKsp f s).pst = s.pst := rfl
@[simp] theorem setKsp_dio (f : Ksp → Ksp) (s : State) : (setKsp f s).dio = s.dio := rfl
@[simp] theorem setKsp_ftn (f : Ksp → Ksp) (s : State) : (setKsp f s).ftn = s.ftn := rfl
@[simp] theorem setKsp_cyc (f : Ksp → Ksp) (s : State) : (setKsp f s).cyc = s.cyc := rfl
@[simp] theorem setKsp_chk (f : Ksp → Ksp) (s : State) : (setKsp f s).chk = s.chk := rfl
@[simp] theorem setKsp_brg (f : Ksp → Ksp) (s : State) : (setKsp f s).brg = s.brg := rfl
@[simp] theorem setKsp_dmas (f : Ksp → Ksp) (s : State) : (setKsp f s).dmas = s.dmas := rfl
@[simp] theorem setKsp_upd (f : Ksp → Ksp) (s : State) : (setKsp f s).upd = s.upd := rfl
@[simp] theorem setKsp_secs (f : Ksp → Ksp) (s : State) : (setKsp f s).secs = s.secs := rfl
@[simp] theorem setKsp_tlm (f : Ksp → Ksp) (s : State) : (setKsp f s).tlm = s.tlm := rfl
@[simp] theorem setCompat_pending (r : Nat × Nat × Nat) (s : State) : (setCompat r s).pending = s.pending := rfl
@[simp] theorem setCompat_now (r : Nat × Nat × Nat) (s : State) : (setCompat r s).now = s.now := rfl
@[simp] theorem setCompat_free (r : Nat × Nat × Nat) (s : State) : (setCompat r s).free = s.free := rfl
@[simp] theorem setCompat_regs (r : Nat × Nat × Nat) (s : State) : (setCompat r s).regs = s.regs := rfl
@[simp] theorem setCompat_shadows (r : Nat × Nat × Nat) (s : State) : (setCompat r s).shadows = s.shadows := rfl
@[simp] theorem setCompat_latches (r : Nat × Nat × Nat) (s : State) : (setCompat r s).latches = s.latches := rfl
@[simp] theorem setCompat_loWrites (r : Nat × Nat × Nat) (s : State) : (setCompat r s).loWrites = s.loWrites := rfl
@[simp] theorem setCompat_out (r : Nat × Nat × Nat) (s : State) : (setCompat r s).out = s.out := rfl
@[simp] theorem setCompat_sys (r : Nat × Nat × Nat) (s : State) : (setCompat r s).sys = s.sys := rfl
@[simp] theorem setCompat_isl (r : Nat × Nat × Nat) (s : State) : (setCompat r s).isl = s.isl := rfl
@[simp] theorem setCompat_nv (r : Nat × Nat × Nat) (s : State) : (setCompat r s).nv = s.nv := rfl
@[simp] theorem setCompat_time (r : Nat × Nat × Nat) (s : State) : (setCompat r s).time = s.time := rfl
@[simp] theorem setCompat_vot (r : Nat × Nat × Nat) (s : State) : (setCompat r s).vot = s.vot := rfl
@[simp] theorem setCompat_icus (r : Nat × Nat × Nat) (s : State) : (setCompat r s).icus = s.icus := rfl
@[simp] theorem setCompat_mems (r : Nat × Nat × Nat) (s : State) : (setCompat r s).mems = s.mems := rfl
@[simp] theorem setCompat_erec (r : Nat × Nat × Nat) (s : State) : (setCompat r s).erec = s.erec := rfl
@[simp] theorem setCompat_odo (r : Nat × Nat × Nat) (s : State) : (setCompat r s).odo = s.odo := rfl
@[simp] theorem setCompat_sup (r : Nat × Nat × Nat) (s : State) : (setCompat r s).sup = s.sup := rfl
@[simp] theorem setCompat_pst (r : Nat × Nat × Nat) (s : State) : (setCompat r s).pst = s.pst := rfl
@[simp] theorem setCompat_dio (r : Nat × Nat × Nat) (s : State) : (setCompat r s).dio = s.dio := rfl
@[simp] theorem setCompat_ftn (r : Nat × Nat × Nat) (s : State) : (setCompat r s).ftn = s.ftn := rfl
@[simp] theorem setCompat_cyc (r : Nat × Nat × Nat) (s : State) : (setCompat r s).cyc = s.cyc := rfl
@[simp] theorem setCompat_chk (r : Nat × Nat × Nat) (s : State) : (setCompat r s).chk = s.chk := rfl
@[simp] theorem setCompat_brg (r : Nat × Nat × Nat) (s : State) : (setCompat r s).brg = s.brg := rfl
@[simp] theorem setCompat_dmas (r : Nat × Nat × Nat) (s : State) : (setCompat r s).dmas = s.dmas := rfl
@[simp] theorem setCompat_ksp (r : Nat × Nat × Nat) (s : State) : (setCompat r s).ksp = s.ksp := rfl
@[simp] theorem setCompat_secs (r : Nat × Nat × Nat) (s : State) : (setCompat r s).secs = s.secs := rfl
@[simp] theorem setCompat_tlm (r : Nat × Nat × Nat) (s : State) : (setCompat r s).tlm = s.tlm := rfl
@[simp] theorem setTarget_pending (t : Nat) (n : NorSlot) (s : State) : (setTarget t n s).pending = s.pending := rfl
@[simp] theorem setTarget_now (t : Nat) (n : NorSlot) (s : State) : (setTarget t n s).now = s.now := rfl
@[simp] theorem setTarget_free (t : Nat) (n : NorSlot) (s : State) : (setTarget t n s).free = s.free := rfl
@[simp] theorem setTarget_regs (t : Nat) (n : NorSlot) (s : State) : (setTarget t n s).regs = s.regs := rfl
@[simp] theorem setTarget_shadows (t : Nat) (n : NorSlot) (s : State) : (setTarget t n s).shadows = s.shadows := rfl
@[simp] theorem setTarget_latches (t : Nat) (n : NorSlot) (s : State) : (setTarget t n s).latches = s.latches := rfl
@[simp] theorem setTarget_loWrites (t : Nat) (n : NorSlot) (s : State) : (setTarget t n s).loWrites = s.loWrites := rfl
@[simp] theorem setTarget_out (t : Nat) (n : NorSlot) (s : State) : (setTarget t n s).out = s.out := rfl
@[simp] theorem setTarget_sys (t : Nat) (n : NorSlot) (s : State) : (setTarget t n s).sys = s.sys := rfl
@[simp] theorem setTarget_isl (t : Nat) (n : NorSlot) (s : State) : (setTarget t n s).isl = s.isl := rfl
@[simp] theorem setTarget_time (t : Nat) (n : NorSlot) (s : State) : (setTarget t n s).time = s.time := rfl
@[simp] theorem setTarget_vot (t : Nat) (n : NorSlot) (s : State) : (setTarget t n s).vot = s.vot := rfl
@[simp] theorem setTarget_icus (t : Nat) (n : NorSlot) (s : State) : (setTarget t n s).icus = s.icus := rfl
@[simp] theorem setTarget_mems (t : Nat) (n : NorSlot) (s : State) : (setTarget t n s).mems = s.mems := rfl
@[simp] theorem setTarget_erec (t : Nat) (n : NorSlot) (s : State) : (setTarget t n s).erec = s.erec := rfl
@[simp] theorem setTarget_odo (t : Nat) (n : NorSlot) (s : State) : (setTarget t n s).odo = s.odo := rfl
@[simp] theorem setTarget_sup (t : Nat) (n : NorSlot) (s : State) : (setTarget t n s).sup = s.sup := rfl
@[simp] theorem setTarget_pst (t : Nat) (n : NorSlot) (s : State) : (setTarget t n s).pst = s.pst := rfl
@[simp] theorem setTarget_dio (t : Nat) (n : NorSlot) (s : State) : (setTarget t n s).dio = s.dio := rfl
@[simp] theorem setTarget_ftn (t : Nat) (n : NorSlot) (s : State) : (setTarget t n s).ftn = s.ftn := rfl
@[simp] theorem setTarget_cyc (t : Nat) (n : NorSlot) (s : State) : (setTarget t n s).cyc = s.cyc := rfl
@[simp] theorem setTarget_chk (t : Nat) (n : NorSlot) (s : State) : (setTarget t n s).chk = s.chk := rfl
@[simp] theorem setTarget_brg (t : Nat) (n : NorSlot) (s : State) : (setTarget t n s).brg = s.brg := rfl
@[simp] theorem setTarget_dmas (t : Nat) (n : NorSlot) (s : State) : (setTarget t n s).dmas = s.dmas := rfl
@[simp] theorem setTarget_ksp (t : Nat) (n : NorSlot) (s : State) : (setTarget t n s).ksp = s.ksp := rfl
@[simp] theorem setTarget_upd (t : Nat) (n : NorSlot) (s : State) : (setTarget t n s).upd = s.upd := rfl
@[simp] theorem setTarget_secs (t : Nat) (n : NorSlot) (s : State) : (setTarget t n s).secs = s.secs := rfl
@[simp] theorem setTarget_tlm (t : Nat) (n : NorSlot) (s : State) : (setTarget t n s).tlm = s.tlm := rfl
@[simp] theorem setHalf_pending (h : Nat) (m : Mram) (s : State) : (setHalf h m s).pending = s.pending := by
  unfold setHalf; split <;> rfl
@[simp] theorem setHalf_now (h : Nat) (m : Mram) (s : State) : (setHalf h m s).now = s.now := by
  unfold setHalf; split <;> rfl
@[simp] theorem setHalf_free (h : Nat) (m : Mram) (s : State) : (setHalf h m s).free = s.free := by
  unfold setHalf; split <;> rfl
@[simp] theorem setHalf_regs (h : Nat) (m : Mram) (s : State) : (setHalf h m s).regs = s.regs := by
  unfold setHalf; split <;> rfl
@[simp] theorem setHalf_shadows (h : Nat) (m : Mram) (s : State) : (setHalf h m s).shadows = s.shadows := by
  unfold setHalf; split <;> rfl
@[simp] theorem setHalf_latches (h : Nat) (m : Mram) (s : State) : (setHalf h m s).latches = s.latches := by
  unfold setHalf; split <;> rfl
@[simp] theorem setHalf_loWrites (h : Nat) (m : Mram) (s : State) : (setHalf h m s).loWrites = s.loWrites := by
  unfold setHalf; split <;> rfl
@[simp] theorem setHalf_out (h : Nat) (m : Mram) (s : State) : (setHalf h m s).out = s.out := by
  unfold setHalf; split <;> rfl
@[simp] theorem setHalf_sys (h : Nat) (m : Mram) (s : State) : (setHalf h m s).sys = s.sys := by
  unfold setHalf; split <;> rfl
@[simp] theorem setHalf_isl (h : Nat) (m : Mram) (s : State) : (setHalf h m s).isl = s.isl := by
  unfold setHalf; split <;> rfl
@[simp] theorem setHalf_time (h : Nat) (m : Mram) (s : State) : (setHalf h m s).time = s.time := by
  unfold setHalf; split <;> rfl
@[simp] theorem setHalf_vot (h : Nat) (m : Mram) (s : State) : (setHalf h m s).vot = s.vot := by
  unfold setHalf; split <;> rfl
@[simp] theorem setHalf_icus (h : Nat) (m : Mram) (s : State) : (setHalf h m s).icus = s.icus := by
  unfold setHalf; split <;> rfl
@[simp] theorem setHalf_mems (h : Nat) (m : Mram) (s : State) : (setHalf h m s).mems = s.mems := by
  unfold setHalf; split <;> rfl
@[simp] theorem setHalf_erec (h : Nat) (m : Mram) (s : State) : (setHalf h m s).erec = s.erec := by
  unfold setHalf; split <;> rfl
@[simp] theorem setHalf_odo (h : Nat) (m : Mram) (s : State) : (setHalf h m s).odo = s.odo := by
  unfold setHalf; split <;> rfl
@[simp] theorem setHalf_sup (h : Nat) (m : Mram) (s : State) : (setHalf h m s).sup = s.sup := by
  unfold setHalf; split <;> rfl
@[simp] theorem setHalf_pst (h : Nat) (m : Mram) (s : State) : (setHalf h m s).pst = s.pst := by
  unfold setHalf; split <;> rfl
@[simp] theorem setHalf_dio (h : Nat) (m : Mram) (s : State) : (setHalf h m s).dio = s.dio := by
  unfold setHalf; split <;> rfl
@[simp] theorem setHalf_ftn (h : Nat) (m : Mram) (s : State) : (setHalf h m s).ftn = s.ftn := by
  unfold setHalf; split <;> rfl
@[simp] theorem setHalf_cyc (h : Nat) (m : Mram) (s : State) : (setHalf h m s).cyc = s.cyc := by
  unfold setHalf; split <;> rfl
@[simp] theorem setHalf_chk (h : Nat) (m : Mram) (s : State) : (setHalf h m s).chk = s.chk := by
  unfold setHalf; split <;> rfl
@[simp] theorem setHalf_brg (h : Nat) (m : Mram) (s : State) : (setHalf h m s).brg = s.brg := by
  unfold setHalf; split <;> rfl
@[simp] theorem setHalf_dmas (h : Nat) (m : Mram) (s : State) : (setHalf h m s).dmas = s.dmas := by
  unfold setHalf; split <;> rfl
@[simp] theorem setHalf_ksp (h : Nat) (m : Mram) (s : State) : (setHalf h m s).ksp = s.ksp := by
  unfold setHalf; split <;> rfl
@[simp] theorem setHalf_upd (h : Nat) (m : Mram) (s : State) : (setHalf h m s).upd = s.upd := by
  unfold setHalf; split <;> rfl
@[simp] theorem setHalf_secs (h : Nat) (m : Mram) (s : State) : (setHalf h m s).secs = s.secs := by
  unfold setHalf; split <;> rfl
@[simp] theorem setHalf_tlm (h : Nat) (m : Mram) (s : State) : (setHalf h m s).tlm = s.tlm := by
  unfold setHalf; split <;> rfl
@[simp] theorem setSlots_pending (t : Nat) (f : TypeSlots → TypeSlots) (s : State) : (setSlots t f s).pending = s.pending := rfl
@[simp] theorem setSlots_now (t : Nat) (f : TypeSlots → TypeSlots) (s : State) : (setSlots t f s).now = s.now := rfl
@[simp] theorem setSlots_free (t : Nat) (f : TypeSlots → TypeSlots) (s : State) : (setSlots t f s).free = s.free := rfl
@[simp] theorem setSlots_regs (t : Nat) (f : TypeSlots → TypeSlots) (s : State) : (setSlots t f s).regs = s.regs := rfl
@[simp] theorem setSlots_shadows (t : Nat) (f : TypeSlots → TypeSlots) (s : State) : (setSlots t f s).shadows = s.shadows := rfl
@[simp] theorem setSlots_latches (t : Nat) (f : TypeSlots → TypeSlots) (s : State) : (setSlots t f s).latches = s.latches := rfl
@[simp] theorem setSlots_loWrites (t : Nat) (f : TypeSlots → TypeSlots) (s : State) : (setSlots t f s).loWrites = s.loWrites := rfl
@[simp] theorem setSlots_out (t : Nat) (f : TypeSlots → TypeSlots) (s : State) : (setSlots t f s).out = s.out := rfl
@[simp] theorem setSlots_sys (t : Nat) (f : TypeSlots → TypeSlots) (s : State) : (setSlots t f s).sys = s.sys := rfl
@[simp] theorem setSlots_isl (t : Nat) (f : TypeSlots → TypeSlots) (s : State) : (setSlots t f s).isl = s.isl := rfl
@[simp] theorem setSlots_time (t : Nat) (f : TypeSlots → TypeSlots) (s : State) : (setSlots t f s).time = s.time := rfl
@[simp] theorem setSlots_vot (t : Nat) (f : TypeSlots → TypeSlots) (s : State) : (setSlots t f s).vot = s.vot := rfl
@[simp] theorem setSlots_icus (t : Nat) (f : TypeSlots → TypeSlots) (s : State) : (setSlots t f s).icus = s.icus := rfl
@[simp] theorem setSlots_mems (t : Nat) (f : TypeSlots → TypeSlots) (s : State) : (setSlots t f s).mems = s.mems := rfl
@[simp] theorem setSlots_erec (t : Nat) (f : TypeSlots → TypeSlots) (s : State) : (setSlots t f s).erec = s.erec := rfl
@[simp] theorem setSlots_odo (t : Nat) (f : TypeSlots → TypeSlots) (s : State) : (setSlots t f s).odo = s.odo := rfl
@[simp] theorem setSlots_sup (t : Nat) (f : TypeSlots → TypeSlots) (s : State) : (setSlots t f s).sup = s.sup := rfl
@[simp] theorem setSlots_pst (t : Nat) (f : TypeSlots → TypeSlots) (s : State) : (setSlots t f s).pst = s.pst := rfl
@[simp] theorem setSlots_dio (t : Nat) (f : TypeSlots → TypeSlots) (s : State) : (setSlots t f s).dio = s.dio := rfl
@[simp] theorem setSlots_ftn (t : Nat) (f : TypeSlots → TypeSlots) (s : State) : (setSlots t f s).ftn = s.ftn := rfl
@[simp] theorem setSlots_cyc (t : Nat) (f : TypeSlots → TypeSlots) (s : State) : (setSlots t f s).cyc = s.cyc := rfl
@[simp] theorem setSlots_chk (t : Nat) (f : TypeSlots → TypeSlots) (s : State) : (setSlots t f s).chk = s.chk := rfl
@[simp] theorem setSlots_brg (t : Nat) (f : TypeSlots → TypeSlots) (s : State) : (setSlots t f s).brg = s.brg := rfl
@[simp] theorem setSlots_dmas (t : Nat) (f : TypeSlots → TypeSlots) (s : State) : (setSlots t f s).dmas = s.dmas := rfl
@[simp] theorem setSlots_ksp (t : Nat) (f : TypeSlots → TypeSlots) (s : State) : (setSlots t f s).ksp = s.ksp := rfl
@[simp] theorem setSlots_upd (t : Nat) (f : TypeSlots → TypeSlots) (s : State) : (setSlots t f s).upd = s.upd := rfl
@[simp] theorem setSlots_secs (t : Nat) (f : TypeSlots → TypeSlots) (s : State) : (setSlots t f s).secs = s.secs := rfl
@[simp] theorem setSlots_tlm (t : Nat) (f : TypeSlots → TypeSlots) (s : State) : (setSlots t f s).tlm = s.tlm := rfl
@[simp] theorem setDi_pending (n : Nat) (f : Di → Di) (s : State) : (setDi n f s).pending = s.pending := rfl
@[simp] theorem setDi_now (n : Nat) (f : Di → Di) (s : State) : (setDi n f s).now = s.now := rfl
@[simp] theorem setDi_free (n : Nat) (f : Di → Di) (s : State) : (setDi n f s).free = s.free := rfl
@[simp] theorem setDi_regs (n : Nat) (f : Di → Di) (s : State) : (setDi n f s).regs = s.regs := rfl
@[simp] theorem setDi_shadows (n : Nat) (f : Di → Di) (s : State) : (setDi n f s).shadows = s.shadows := rfl
@[simp] theorem setDi_latches (n : Nat) (f : Di → Di) (s : State) : (setDi n f s).latches = s.latches := rfl
@[simp] theorem setDi_loWrites (n : Nat) (f : Di → Di) (s : State) : (setDi n f s).loWrites = s.loWrites := rfl
@[simp] theorem setDi_out (n : Nat) (f : Di → Di) (s : State) : (setDi n f s).out = s.out := rfl
@[simp] theorem setDi_sys (n : Nat) (f : Di → Di) (s : State) : (setDi n f s).sys = s.sys := rfl
@[simp] theorem setDi_isl (n : Nat) (f : Di → Di) (s : State) : (setDi n f s).isl = s.isl := rfl
@[simp] theorem setDi_nv (n : Nat) (f : Di → Di) (s : State) : (setDi n f s).nv = s.nv := rfl
@[simp] theorem setDi_time (n : Nat) (f : Di → Di) (s : State) : (setDi n f s).time = s.time := rfl
@[simp] theorem setDi_vot (n : Nat) (f : Di → Di) (s : State) : (setDi n f s).vot = s.vot := rfl
@[simp] theorem setDi_icus (n : Nat) (f : Di → Di) (s : State) : (setDi n f s).icus = s.icus := rfl
@[simp] theorem setDi_mems (n : Nat) (f : Di → Di) (s : State) : (setDi n f s).mems = s.mems := rfl
@[simp] theorem setDi_erec (n : Nat) (f : Di → Di) (s : State) : (setDi n f s).erec = s.erec := rfl
@[simp] theorem setDi_odo (n : Nat) (f : Di → Di) (s : State) : (setDi n f s).odo = s.odo := rfl
@[simp] theorem setDi_sup (n : Nat) (f : Di → Di) (s : State) : (setDi n f s).sup = s.sup := rfl
@[simp] theorem setDi_pst (n : Nat) (f : Di → Di) (s : State) : (setDi n f s).pst = s.pst := rfl
@[simp] theorem setDi_ftn (n : Nat) (f : Di → Di) (s : State) : (setDi n f s).ftn = s.ftn := rfl
@[simp] theorem setDi_cyc (n : Nat) (f : Di → Di) (s : State) : (setDi n f s).cyc = s.cyc := rfl
@[simp] theorem setDi_chk (n : Nat) (f : Di → Di) (s : State) : (setDi n f s).chk = s.chk := rfl
@[simp] theorem setDi_brg (n : Nat) (f : Di → Di) (s : State) : (setDi n f s).brg = s.brg := rfl
@[simp] theorem setDi_dmas (n : Nat) (f : Di → Di) (s : State) : (setDi n f s).dmas = s.dmas := rfl
@[simp] theorem setDi_ksp (n : Nat) (f : Di → Di) (s : State) : (setDi n f s).ksp = s.ksp := rfl
@[simp] theorem setDi_upd (n : Nat) (f : Di → Di) (s : State) : (setDi n f s).upd = s.upd := rfl
@[simp] theorem setDi_secs (n : Nat) (f : Di → Di) (s : State) : (setDi n f s).secs = s.secs := rfl
@[simp] theorem setDi_tlm (n : Nat) (f : Di → Di) (s : State) : (setDi n f s).tlm = s.tlm := rfl
@[simp] theorem setGroup_pending (g : Nat) (f : Group → Group) (s : State) : (setGroup g f s).pending = s.pending := rfl
@[simp] theorem setGroup_now (g : Nat) (f : Group → Group) (s : State) : (setGroup g f s).now = s.now := rfl
@[simp] theorem setGroup_free (g : Nat) (f : Group → Group) (s : State) : (setGroup g f s).free = s.free := rfl
@[simp] theorem setGroup_regs (g : Nat) (f : Group → Group) (s : State) : (setGroup g f s).regs = s.regs := rfl
@[simp] theorem setGroup_shadows (g : Nat) (f : Group → Group) (s : State) : (setGroup g f s).shadows = s.shadows := rfl
@[simp] theorem setGroup_latches (g : Nat) (f : Group → Group) (s : State) : (setGroup g f s).latches = s.latches := rfl
@[simp] theorem setGroup_loWrites (g : Nat) (f : Group → Group) (s : State) : (setGroup g f s).loWrites = s.loWrites := rfl
@[simp] theorem setGroup_out (g : Nat) (f : Group → Group) (s : State) : (setGroup g f s).out = s.out := rfl
@[simp] theorem setGroup_sys (g : Nat) (f : Group → Group) (s : State) : (setGroup g f s).sys = s.sys := rfl
@[simp] theorem setGroup_isl (g : Nat) (f : Group → Group) (s : State) : (setGroup g f s).isl = s.isl := rfl
@[simp] theorem setGroup_nv (g : Nat) (f : Group → Group) (s : State) : (setGroup g f s).nv = s.nv := rfl
@[simp] theorem setGroup_time (g : Nat) (f : Group → Group) (s : State) : (setGroup g f s).time = s.time := rfl
@[simp] theorem setGroup_vot (g : Nat) (f : Group → Group) (s : State) : (setGroup g f s).vot = s.vot := rfl
@[simp] theorem setGroup_icus (g : Nat) (f : Group → Group) (s : State) : (setGroup g f s).icus = s.icus := rfl
@[simp] theorem setGroup_mems (g : Nat) (f : Group → Group) (s : State) : (setGroup g f s).mems = s.mems := rfl
@[simp] theorem setGroup_erec (g : Nat) (f : Group → Group) (s : State) : (setGroup g f s).erec = s.erec := rfl
@[simp] theorem setGroup_odo (g : Nat) (f : Group → Group) (s : State) : (setGroup g f s).odo = s.odo := rfl
@[simp] theorem setGroup_sup (g : Nat) (f : Group → Group) (s : State) : (setGroup g f s).sup = s.sup := rfl
@[simp] theorem setGroup_pst (g : Nat) (f : Group → Group) (s : State) : (setGroup g f s).pst = s.pst := rfl
@[simp] theorem setGroup_ftn (g : Nat) (f : Group → Group) (s : State) : (setGroup g f s).ftn = s.ftn := rfl
@[simp] theorem setGroup_cyc (g : Nat) (f : Group → Group) (s : State) : (setGroup g f s).cyc = s.cyc := rfl
@[simp] theorem setGroup_chk (g : Nat) (f : Group → Group) (s : State) : (setGroup g f s).chk = s.chk := rfl
@[simp] theorem setGroup_brg (g : Nat) (f : Group → Group) (s : State) : (setGroup g f s).brg = s.brg := rfl
@[simp] theorem setGroup_dmas (g : Nat) (f : Group → Group) (s : State) : (setGroup g f s).dmas = s.dmas := rfl
@[simp] theorem setGroup_ksp (g : Nat) (f : Group → Group) (s : State) : (setGroup g f s).ksp = s.ksp := rfl
@[simp] theorem setGroup_upd (g : Nat) (f : Group → Group) (s : State) : (setGroup g f s).upd = s.upd := rfl
@[simp] theorem setGroup_secs (g : Nat) (f : Group → Group) (s : State) : (setGroup g f s).secs = s.secs := rfl
@[simp] theorem setGroup_tlm (g : Nat) (f : Group → Group) (s : State) : (setGroup g f s).tlm = s.tlm := rfl
@[simp] theorem setOut_pending (n : Nat) (f : Out → Out) (s : State) : (setOut n f s).pending = s.pending := rfl
@[simp] theorem setOut_now (n : Nat) (f : Out → Out) (s : State) : (setOut n f s).now = s.now := rfl
@[simp] theorem setOut_free (n : Nat) (f : Out → Out) (s : State) : (setOut n f s).free = s.free := rfl
@[simp] theorem setOut_regs (n : Nat) (f : Out → Out) (s : State) : (setOut n f s).regs = s.regs := rfl
@[simp] theorem setOut_shadows (n : Nat) (f : Out → Out) (s : State) : (setOut n f s).shadows = s.shadows := rfl
@[simp] theorem setOut_latches (n : Nat) (f : Out → Out) (s : State) : (setOut n f s).latches = s.latches := rfl
@[simp] theorem setOut_loWrites (n : Nat) (f : Out → Out) (s : State) : (setOut n f s).loWrites = s.loWrites := rfl
@[simp] theorem setOut_out (n : Nat) (f : Out → Out) (s : State) : (setOut n f s).out = s.out := rfl
@[simp] theorem setOut_sys (n : Nat) (f : Out → Out) (s : State) : (setOut n f s).sys = s.sys := rfl
@[simp] theorem setOut_isl (n : Nat) (f : Out → Out) (s : State) : (setOut n f s).isl = s.isl := rfl
@[simp] theorem setOut_nv (n : Nat) (f : Out → Out) (s : State) : (setOut n f s).nv = s.nv := rfl
@[simp] theorem setOut_time (n : Nat) (f : Out → Out) (s : State) : (setOut n f s).time = s.time := rfl
@[simp] theorem setOut_vot (n : Nat) (f : Out → Out) (s : State) : (setOut n f s).vot = s.vot := rfl
@[simp] theorem setOut_icus (n : Nat) (f : Out → Out) (s : State) : (setOut n f s).icus = s.icus := rfl
@[simp] theorem setOut_mems (n : Nat) (f : Out → Out) (s : State) : (setOut n f s).mems = s.mems := rfl
@[simp] theorem setOut_erec (n : Nat) (f : Out → Out) (s : State) : (setOut n f s).erec = s.erec := rfl
@[simp] theorem setOut_odo (n : Nat) (f : Out → Out) (s : State) : (setOut n f s).odo = s.odo := rfl
@[simp] theorem setOut_sup (n : Nat) (f : Out → Out) (s : State) : (setOut n f s).sup = s.sup := rfl
@[simp] theorem setOut_pst (n : Nat) (f : Out → Out) (s : State) : (setOut n f s).pst = s.pst := rfl
@[simp] theorem setOut_ftn (n : Nat) (f : Out → Out) (s : State) : (setOut n f s).ftn = s.ftn := rfl
@[simp] theorem setOut_cyc (n : Nat) (f : Out → Out) (s : State) : (setOut n f s).cyc = s.cyc := rfl
@[simp] theorem setOut_chk (n : Nat) (f : Out → Out) (s : State) : (setOut n f s).chk = s.chk := rfl
@[simp] theorem setOut_brg (n : Nat) (f : Out → Out) (s : State) : (setOut n f s).brg = s.brg := rfl
@[simp] theorem setOut_dmas (n : Nat) (f : Out → Out) (s : State) : (setOut n f s).dmas = s.dmas := rfl
@[simp] theorem setOut_ksp (n : Nat) (f : Out → Out) (s : State) : (setOut n f s).ksp = s.ksp := rfl
@[simp] theorem setOut_upd (n : Nat) (f : Out → Out) (s : State) : (setOut n f s).upd = s.upd := rfl
@[simp] theorem setOut_secs (n : Nat) (f : Out → Out) (s : State) : (setOut n f s).secs = s.secs := rfl
@[simp] theorem setOut_tlm (n : Nat) (f : Out → Out) (s : State) : (setOut n f s).tlm = s.tlm := rfl
@[simp] theorem setChan_pending (n : Nat) (f : Chan → Chan) (s : State) : (setChan n f s).pending = s.pending := rfl
@[simp] theorem setChan_now (n : Nat) (f : Chan → Chan) (s : State) : (setChan n f s).now = s.now := rfl
@[simp] theorem setChan_free (n : Nat) (f : Chan → Chan) (s : State) : (setChan n f s).free = s.free := rfl
@[simp] theorem setChan_regs (n : Nat) (f : Chan → Chan) (s : State) : (setChan n f s).regs = s.regs := rfl
@[simp] theorem setChan_shadows (n : Nat) (f : Chan → Chan) (s : State) : (setChan n f s).shadows = s.shadows := rfl
@[simp] theorem setChan_latches (n : Nat) (f : Chan → Chan) (s : State) : (setChan n f s).latches = s.latches := rfl
@[simp] theorem setChan_loWrites (n : Nat) (f : Chan → Chan) (s : State) : (setChan n f s).loWrites = s.loWrites := rfl
@[simp] theorem setChan_out (n : Nat) (f : Chan → Chan) (s : State) : (setChan n f s).out = s.out := rfl
@[simp] theorem setChan_sys (n : Nat) (f : Chan → Chan) (s : State) : (setChan n f s).sys = s.sys := rfl
@[simp] theorem setChan_isl (n : Nat) (f : Chan → Chan) (s : State) : (setChan n f s).isl = s.isl := rfl
@[simp] theorem setChan_nv (n : Nat) (f : Chan → Chan) (s : State) : (setChan n f s).nv = s.nv := rfl
@[simp] theorem setChan_time (n : Nat) (f : Chan → Chan) (s : State) : (setChan n f s).time = s.time := rfl
@[simp] theorem setChan_vot (n : Nat) (f : Chan → Chan) (s : State) : (setChan n f s).vot = s.vot := rfl
@[simp] theorem setChan_icus (n : Nat) (f : Chan → Chan) (s : State) : (setChan n f s).icus = s.icus := rfl
@[simp] theorem setChan_mems (n : Nat) (f : Chan → Chan) (s : State) : (setChan n f s).mems = s.mems := rfl
@[simp] theorem setChan_erec (n : Nat) (f : Chan → Chan) (s : State) : (setChan n f s).erec = s.erec := rfl
@[simp] theorem setChan_odo (n : Nat) (f : Chan → Chan) (s : State) : (setChan n f s).odo = s.odo := rfl
@[simp] theorem setChan_pst (n : Nat) (f : Chan → Chan) (s : State) : (setChan n f s).pst = s.pst := rfl
@[simp] theorem setChan_dio (n : Nat) (f : Chan → Chan) (s : State) : (setChan n f s).dio = s.dio := rfl
@[simp] theorem setChan_ftn (n : Nat) (f : Chan → Chan) (s : State) : (setChan n f s).ftn = s.ftn := rfl
@[simp] theorem setChan_cyc (n : Nat) (f : Chan → Chan) (s : State) : (setChan n f s).cyc = s.cyc := rfl
@[simp] theorem setChan_chk (n : Nat) (f : Chan → Chan) (s : State) : (setChan n f s).chk = s.chk := rfl
@[simp] theorem setChan_brg (n : Nat) (f : Chan → Chan) (s : State) : (setChan n f s).brg = s.brg := rfl
@[simp] theorem setChan_dmas (n : Nat) (f : Chan → Chan) (s : State) : (setChan n f s).dmas = s.dmas := rfl
@[simp] theorem setChan_ksp (n : Nat) (f : Chan → Chan) (s : State) : (setChan n f s).ksp = s.ksp := rfl
@[simp] theorem setChan_upd (n : Nat) (f : Chan → Chan) (s : State) : (setChan n f s).upd = s.upd := rfl
@[simp] theorem setChan_secs (n : Nat) (f : Chan → Chan) (s : State) : (setChan n f s).secs = s.secs := rfl
@[simp] theorem setChan_tlm (n : Nat) (f : Chan → Chan) (s : State) : (setChan n f s).tlm = s.tlm := rfl
@[simp] theorem setSensor_pending (n : Nat) (f : Sensor → Sensor) (s : State) : (setSensor n f s).pending = s.pending := rfl
@[simp] theorem setSensor_now (n : Nat) (f : Sensor → Sensor) (s : State) : (setSensor n f s).now = s.now := rfl
@[simp] theorem setSensor_free (n : Nat) (f : Sensor → Sensor) (s : State) : (setSensor n f s).free = s.free := rfl
@[simp] theorem setSensor_regs (n : Nat) (f : Sensor → Sensor) (s : State) : (setSensor n f s).regs = s.regs := rfl
@[simp] theorem setSensor_shadows (n : Nat) (f : Sensor → Sensor) (s : State) : (setSensor n f s).shadows = s.shadows := rfl
@[simp] theorem setSensor_latches (n : Nat) (f : Sensor → Sensor) (s : State) : (setSensor n f s).latches = s.latches := rfl
@[simp] theorem setSensor_loWrites (n : Nat) (f : Sensor → Sensor) (s : State) : (setSensor n f s).loWrites = s.loWrites := rfl
@[simp] theorem setSensor_out (n : Nat) (f : Sensor → Sensor) (s : State) : (setSensor n f s).out = s.out := rfl
@[simp] theorem setSensor_sys (n : Nat) (f : Sensor → Sensor) (s : State) : (setSensor n f s).sys = s.sys := rfl
@[simp] theorem setSensor_isl (n : Nat) (f : Sensor → Sensor) (s : State) : (setSensor n f s).isl = s.isl := rfl
@[simp] theorem setSensor_nv (n : Nat) (f : Sensor → Sensor) (s : State) : (setSensor n f s).nv = s.nv := rfl
@[simp] theorem setSensor_time (n : Nat) (f : Sensor → Sensor) (s : State) : (setSensor n f s).time = s.time := rfl
@[simp] theorem setSensor_vot (n : Nat) (f : Sensor → Sensor) (s : State) : (setSensor n f s).vot = s.vot := rfl
@[simp] theorem setSensor_icus (n : Nat) (f : Sensor → Sensor) (s : State) : (setSensor n f s).icus = s.icus := rfl
@[simp] theorem setSensor_mems (n : Nat) (f : Sensor → Sensor) (s : State) : (setSensor n f s).mems = s.mems := rfl
@[simp] theorem setSensor_erec (n : Nat) (f : Sensor → Sensor) (s : State) : (setSensor n f s).erec = s.erec := rfl
@[simp] theorem setSensor_sup (n : Nat) (f : Sensor → Sensor) (s : State) : (setSensor n f s).sup = s.sup := rfl
@[simp] theorem setSensor_pst (n : Nat) (f : Sensor → Sensor) (s : State) : (setSensor n f s).pst = s.pst := rfl
@[simp] theorem setSensor_dio (n : Nat) (f : Sensor → Sensor) (s : State) : (setSensor n f s).dio = s.dio := rfl
@[simp] theorem setSensor_ftn (n : Nat) (f : Sensor → Sensor) (s : State) : (setSensor n f s).ftn = s.ftn := rfl
@[simp] theorem setSensor_cyc (n : Nat) (f : Sensor → Sensor) (s : State) : (setSensor n f s).cyc = s.cyc := rfl
@[simp] theorem setSensor_chk (n : Nat) (f : Sensor → Sensor) (s : State) : (setSensor n f s).chk = s.chk := rfl
@[simp] theorem setSensor_brg (n : Nat) (f : Sensor → Sensor) (s : State) : (setSensor n f s).brg = s.brg := rfl
@[simp] theorem setSensor_dmas (n : Nat) (f : Sensor → Sensor) (s : State) : (setSensor n f s).dmas = s.dmas := rfl
@[simp] theorem setSensor_ksp (n : Nat) (f : Sensor → Sensor) (s : State) : (setSensor n f s).ksp = s.ksp := rfl
@[simp] theorem setSensor_upd (n : Nat) (f : Sensor → Sensor) (s : State) : (setSensor n f s).upd = s.upd := rfl
@[simp] theorem setSensor_secs (n : Nat) (f : Sensor → Sensor) (s : State) : (setSensor n f s).secs = s.secs := rfl
@[simp] theorem setSensor_tlm (n : Nat) (f : Sensor → Sensor) (s : State) : (setSensor n f s).tlm = s.tlm := rfl
@[simp] theorem passDone_pending (a : Nat) (s : State) : (passDone a s).pending = s.pending := rfl
@[simp] theorem passDone_now (a : Nat) (s : State) : (passDone a s).now = s.now := rfl
@[simp] theorem passDone_free (a : Nat) (s : State) : (passDone a s).free = s.free := rfl
@[simp] theorem passDone_regs (a : Nat) (s : State) : (passDone a s).regs = s.regs := rfl
@[simp] theorem passDone_shadows (a : Nat) (s : State) : (passDone a s).shadows = s.shadows := rfl
@[simp] theorem passDone_latches (a : Nat) (s : State) : (passDone a s).latches = s.latches := rfl
@[simp] theorem passDone_loWrites (a : Nat) (s : State) : (passDone a s).loWrites = s.loWrites := rfl
@[simp] theorem passDone_out (a : Nat) (s : State) : (passDone a s).out = s.out := rfl
@[simp] theorem passDone_sys (a : Nat) (s : State) : (passDone a s).sys = s.sys := rfl
@[simp] theorem passDone_isl (a : Nat) (s : State) : (passDone a s).isl = s.isl := rfl
@[simp] theorem passDone_nv (a : Nat) (s : State) : (passDone a s).nv = s.nv := rfl
@[simp] theorem passDone_time (a : Nat) (s : State) : (passDone a s).time = s.time := rfl
@[simp] theorem passDone_vot (a : Nat) (s : State) : (passDone a s).vot = s.vot := rfl
@[simp] theorem passDone_icus (a : Nat) (s : State) : (passDone a s).icus = s.icus := rfl
@[simp] theorem passDone_mems (a : Nat) (s : State) : (passDone a s).mems = s.mems := rfl
@[simp] theorem passDone_erec (a : Nat) (s : State) : (passDone a s).erec = s.erec := rfl
@[simp] theorem passDone_odo (a : Nat) (s : State) : (passDone a s).odo = s.odo := rfl
@[simp] theorem passDone_sup (a : Nat) (s : State) : (passDone a s).sup = s.sup := rfl
@[simp] theorem passDone_pst (a : Nat) (s : State) : (passDone a s).pst = s.pst := rfl
@[simp] theorem passDone_dio (a : Nat) (s : State) : (passDone a s).dio = s.dio := rfl
@[simp] theorem passDone_ftn (a : Nat) (s : State) : (passDone a s).ftn = s.ftn := rfl
@[simp] theorem passDone_cyc (a : Nat) (s : State) : (passDone a s).cyc = s.cyc := rfl
@[simp] theorem passDone_chk (a : Nat) (s : State) : (passDone a s).chk = s.chk := rfl
@[simp] theorem passDone_brg (a : Nat) (s : State) : (passDone a s).brg = s.brg := rfl
@[simp] theorem passDone_dmas (a : Nat) (s : State) : (passDone a s).dmas = s.dmas := rfl
@[simp] theorem passDone_ksp (a : Nat) (s : State) : (passDone a s).ksp = s.ksp := rfl
@[simp] theorem passDone_upd (a : Nat) (s : State) : (passDone a s).upd = s.upd := rfl
@[simp] theorem passDone_secs (a : Nat) (s : State) : (passDone a s).secs = s.secs := rfl
@[simp] theorem markExclusion_pending (l : Lane) (c : Cause) (s : State) : (markExclusion l c s).pending = s.pending := rfl
@[simp] theorem markExclusion_now (l : Lane) (c : Cause) (s : State) : (markExclusion l c s).now = s.now := rfl
@[simp] theorem markExclusion_free (l : Lane) (c : Cause) (s : State) : (markExclusion l c s).free = s.free := rfl
@[simp] theorem markExclusion_regs (l : Lane) (c : Cause) (s : State) : (markExclusion l c s).regs = s.regs := rfl
@[simp] theorem markExclusion_shadows (l : Lane) (c : Cause) (s : State) : (markExclusion l c s).shadows = s.shadows := rfl
@[simp] theorem markExclusion_latches (l : Lane) (c : Cause) (s : State) : (markExclusion l c s).latches = s.latches := rfl
@[simp] theorem markExclusion_loWrites (l : Lane) (c : Cause) (s : State) : (markExclusion l c s).loWrites = s.loWrites := rfl
@[simp] theorem markExclusion_out (l : Lane) (c : Cause) (s : State) : (markExclusion l c s).out = s.out := rfl
@[simp] theorem markExclusion_sys (l : Lane) (c : Cause) (s : State) : (markExclusion l c s).sys = s.sys := rfl
@[simp] theorem markExclusion_isl (l : Lane) (c : Cause) (s : State) : (markExclusion l c s).isl = s.isl := rfl
@[simp] theorem markExclusion_nv (l : Lane) (c : Cause) (s : State) : (markExclusion l c s).nv = s.nv := rfl
@[simp] theorem markExclusion_time (l : Lane) (c : Cause) (s : State) : (markExclusion l c s).time = s.time := rfl
@[simp] theorem markExclusion_icus (l : Lane) (c : Cause) (s : State) : (markExclusion l c s).icus = s.icus := rfl
@[simp] theorem markExclusion_mems (l : Lane) (c : Cause) (s : State) : (markExclusion l c s).mems = s.mems := rfl
@[simp] theorem markExclusion_erec (l : Lane) (c : Cause) (s : State) : (markExclusion l c s).erec = s.erec := rfl
@[simp] theorem markExclusion_odo (l : Lane) (c : Cause) (s : State) : (markExclusion l c s).odo = s.odo := rfl
@[simp] theorem markExclusion_sup (l : Lane) (c : Cause) (s : State) : (markExclusion l c s).sup = s.sup := rfl
@[simp] theorem markExclusion_pst (l : Lane) (c : Cause) (s : State) : (markExclusion l c s).pst = s.pst := rfl
@[simp] theorem markExclusion_dio (l : Lane) (c : Cause) (s : State) : (markExclusion l c s).dio = s.dio := rfl
@[simp] theorem markExclusion_ftn (l : Lane) (c : Cause) (s : State) : (markExclusion l c s).ftn = s.ftn := rfl
@[simp] theorem markExclusion_cyc (l : Lane) (c : Cause) (s : State) : (markExclusion l c s).cyc = s.cyc := rfl
@[simp] theorem markExclusion_chk (l : Lane) (c : Cause) (s : State) : (markExclusion l c s).chk = s.chk := rfl
@[simp] theorem markExclusion_brg (l : Lane) (c : Cause) (s : State) : (markExclusion l c s).brg = s.brg := rfl
@[simp] theorem markExclusion_dmas (l : Lane) (c : Cause) (s : State) : (markExclusion l c s).dmas = s.dmas := rfl
@[simp] theorem markExclusion_ksp (l : Lane) (c : Cause) (s : State) : (markExclusion l c s).ksp = s.ksp := rfl
@[simp] theorem markExclusion_upd (l : Lane) (c : Cause) (s : State) : (markExclusion l c s).upd = s.upd := rfl
@[simp] theorem markExclusion_secs (l : Lane) (c : Cause) (s : State) : (markExclusion l c s).secs = s.secs := rfl
@[simp] theorem markExclusion_tlm (l : Lane) (c : Cause) (s : State) : (markExclusion l c s).tlm = s.tlm := rfl
@[simp] theorem unpowerLane_pending (l : Lane) (s : State) : (unpowerLane l s).pending = s.pending := rfl
@[simp] theorem unpowerLane_now (l : Lane) (s : State) : (unpowerLane l s).now = s.now := rfl
@[simp] theorem unpowerLane_free (l : Lane) (s : State) : (unpowerLane l s).free = s.free := rfl
@[simp] theorem unpowerLane_regs (l : Lane) (s : State) : (unpowerLane l s).regs = s.regs := rfl
@[simp] theorem unpowerLane_shadows (l : Lane) (s : State) : (unpowerLane l s).shadows = s.shadows := rfl
@[simp] theorem unpowerLane_latches (l : Lane) (s : State) : (unpowerLane l s).latches = s.latches := rfl
@[simp] theorem unpowerLane_loWrites (l : Lane) (s : State) : (unpowerLane l s).loWrites = s.loWrites := rfl
@[simp] theorem unpowerLane_out (l : Lane) (s : State) : (unpowerLane l s).out = s.out := rfl
@[simp] theorem unpowerLane_sys (l : Lane) (s : State) : (unpowerLane l s).sys = s.sys := rfl
@[simp] theorem unpowerLane_isl (l : Lane) (s : State) : (unpowerLane l s).isl = s.isl := rfl
@[simp] theorem unpowerLane_nv (l : Lane) (s : State) : (unpowerLane l s).nv = s.nv := rfl
@[simp] theorem unpowerLane_time (l : Lane) (s : State) : (unpowerLane l s).time = s.time := rfl
@[simp] theorem unpowerLane_vot (l : Lane) (s : State) : (unpowerLane l s).vot = s.vot := rfl
@[simp] theorem unpowerLane_icus (l : Lane) (s : State) : (unpowerLane l s).icus = s.icus := rfl
@[simp] theorem unpowerLane_erec (l : Lane) (s : State) : (unpowerLane l s).erec = s.erec := rfl
@[simp] theorem unpowerLane_odo (l : Lane) (s : State) : (unpowerLane l s).odo = s.odo := rfl
@[simp] theorem unpowerLane_sup (l : Lane) (s : State) : (unpowerLane l s).sup = s.sup := rfl
@[simp] theorem unpowerLane_pst (l : Lane) (s : State) : (unpowerLane l s).pst = s.pst := rfl
@[simp] theorem unpowerLane_dio (l : Lane) (s : State) : (unpowerLane l s).dio = s.dio := rfl
@[simp] theorem unpowerLane_ftn (l : Lane) (s : State) : (unpowerLane l s).ftn = s.ftn := rfl
@[simp] theorem unpowerLane_cyc (l : Lane) (s : State) : (unpowerLane l s).cyc = s.cyc := rfl
@[simp] theorem unpowerLane_chk (l : Lane) (s : State) : (unpowerLane l s).chk = s.chk := rfl
@[simp] theorem unpowerLane_brg (l : Lane) (s : State) : (unpowerLane l s).brg = s.brg := rfl
@[simp] theorem unpowerLane_dmas (l : Lane) (s : State) : (unpowerLane l s).dmas = s.dmas := rfl
@[simp] theorem unpowerLane_ksp (l : Lane) (s : State) : (unpowerLane l s).ksp = s.ksp := rfl
@[simp] theorem unpowerLane_upd (l : Lane) (s : State) : (unpowerLane l s).upd = s.upd := rfl
@[simp] theorem unpowerLane_secs (l : Lane) (s : State) : (unpowerLane l s).secs = s.secs := rfl
@[simp] theorem unpowerLane_tlm (l : Lane) (s : State) : (unpowerLane l s).tlm = s.tlm := rfl
@[simp] theorem advance_pending (dt : Nat) (s : State) : (advance dt s).pending = s.pending := rfl
@[simp] theorem advance_free (dt : Nat) (s : State) : (advance dt s).free = s.free := rfl
@[simp] theorem advance_regs (dt : Nat) (s : State) : (advance dt s).regs = s.regs := rfl
@[simp] theorem advance_shadows (dt : Nat) (s : State) : (advance dt s).shadows = s.shadows := rfl
@[simp] theorem advance_latches (dt : Nat) (s : State) : (advance dt s).latches = s.latches := rfl
@[simp] theorem advance_loWrites (dt : Nat) (s : State) : (advance dt s).loWrites = s.loWrites := rfl
@[simp] theorem advance_out (dt : Nat) (s : State) : (advance dt s).out = s.out := rfl
@[simp] theorem advance_sys (dt : Nat) (s : State) : (advance dt s).sys = s.sys := rfl
@[simp] theorem advance_vot (dt : Nat) (s : State) : (advance dt s).vot = s.vot := rfl
@[simp] theorem advance_icus (dt : Nat) (s : State) : (advance dt s).icus = s.icus := rfl
@[simp] theorem advance_mems (dt : Nat) (s : State) : (advance dt s).mems = s.mems := rfl
@[simp] theorem advance_erec (dt : Nat) (s : State) : (advance dt s).erec = s.erec := rfl
@[simp] theorem advance_odo (dt : Nat) (s : State) : (advance dt s).odo = s.odo := rfl
@[simp] theorem advance_sup (dt : Nat) (s : State) : (advance dt s).sup = s.sup := rfl
@[simp] theorem advance_pst (dt : Nat) (s : State) : (advance dt s).pst = s.pst := rfl
@[simp] theorem advance_dio (dt : Nat) (s : State) : (advance dt s).dio = s.dio := rfl
@[simp] theorem advance_ftn (dt : Nat) (s : State) : (advance dt s).ftn = s.ftn := rfl
@[simp] theorem advance_cyc (dt : Nat) (s : State) : (advance dt s).cyc = s.cyc := rfl
@[simp] theorem advance_chk (dt : Nat) (s : State) : (advance dt s).chk = s.chk := rfl
@[simp] theorem advance_brg (dt : Nat) (s : State) : (advance dt s).brg = s.brg := rfl
@[simp] theorem advance_dmas (dt : Nat) (s : State) : (advance dt s).dmas = s.dmas := rfl
@[simp] theorem advance_ksp (dt : Nat) (s : State) : (advance dt s).ksp = s.ksp := rfl
@[simp] theorem advance_upd (dt : Nat) (s : State) : (advance dt s).upd = s.upd := rfl
@[simp] theorem advance_secs (dt : Nat) (s : State) : (advance dt s).secs = s.secs := rfl
@[simp] theorem advance_tlm (dt : Nat) (s : State) : (advance dt s).tlm = s.tlm := rfl
@[simp] theorem shadowNext_pending (key : Nat) (s : State) : (shadowNext key s).pending = s.pending := rfl
@[simp] theorem shadowNext_now (key : Nat) (s : State) : (shadowNext key s).now = s.now := rfl
@[simp] theorem shadowNext_free (key : Nat) (s : State) : (shadowNext key s).free = s.free := rfl
@[simp] theorem shadowNext_regs (key : Nat) (s : State) : (shadowNext key s).regs = s.regs := rfl
@[simp] theorem shadowNext_latches (key : Nat) (s : State) : (shadowNext key s).latches = s.latches := rfl
@[simp] theorem shadowNext_loWrites (key : Nat) (s : State) : (shadowNext key s).loWrites = s.loWrites := rfl
@[simp] theorem shadowNext_out (key : Nat) (s : State) : (shadowNext key s).out = s.out := rfl
@[simp] theorem shadowNext_sys (key : Nat) (s : State) : (shadowNext key s).sys = s.sys := rfl
@[simp] theorem shadowNext_isl (key : Nat) (s : State) : (shadowNext key s).isl = s.isl := rfl
@[simp] theorem shadowNext_nv (key : Nat) (s : State) : (shadowNext key s).nv = s.nv := rfl
@[simp] theorem shadowNext_time (key : Nat) (s : State) : (shadowNext key s).time = s.time := rfl
@[simp] theorem shadowNext_vot (key : Nat) (s : State) : (shadowNext key s).vot = s.vot := rfl
@[simp] theorem shadowNext_icus (key : Nat) (s : State) : (shadowNext key s).icus = s.icus := rfl
@[simp] theorem shadowNext_mems (key : Nat) (s : State) : (shadowNext key s).mems = s.mems := rfl
@[simp] theorem shadowNext_erec (key : Nat) (s : State) : (shadowNext key s).erec = s.erec := rfl
@[simp] theorem shadowNext_odo (key : Nat) (s : State) : (shadowNext key s).odo = s.odo := rfl
@[simp] theorem shadowNext_sup (key : Nat) (s : State) : (shadowNext key s).sup = s.sup := rfl
@[simp] theorem shadowNext_pst (key : Nat) (s : State) : (shadowNext key s).pst = s.pst := rfl
@[simp] theorem shadowNext_dio (key : Nat) (s : State) : (shadowNext key s).dio = s.dio := rfl
@[simp] theorem shadowNext_ftn (key : Nat) (s : State) : (shadowNext key s).ftn = s.ftn := rfl
@[simp] theorem shadowNext_cyc (key : Nat) (s : State) : (shadowNext key s).cyc = s.cyc := rfl
@[simp] theorem shadowNext_chk (key : Nat) (s : State) : (shadowNext key s).chk = s.chk := rfl
@[simp] theorem shadowNext_brg (key : Nat) (s : State) : (shadowNext key s).brg = s.brg := rfl
@[simp] theorem shadowNext_dmas (key : Nat) (s : State) : (shadowNext key s).dmas = s.dmas := rfl
@[simp] theorem shadowNext_ksp (key : Nat) (s : State) : (shadowNext key s).ksp = s.ksp := rfl
@[simp] theorem shadowNext_upd (key : Nat) (s : State) : (shadowNext key s).upd = s.upd := rfl
@[simp] theorem shadowNext_secs (key : Nat) (s : State) : (shadowNext key s).secs = s.secs := rfl
@[simp] theorem shadowNext_tlm (key : Nat) (s : State) : (shadowNext key s).tlm = s.tlm := rfl
@[simp] theorem setArmed_pending (n : Nat) (f : Armed → Armed) (s : State) : (setArmed n f s).pending = s.pending := rfl
@[simp] theorem setArmed_now (n : Nat) (f : Armed → Armed) (s : State) : (setArmed n f s).now = s.now := rfl
@[simp] theorem setArmed_free (n : Nat) (f : Armed → Armed) (s : State) : (setArmed n f s).free = s.free := rfl
@[simp] theorem setArmed_regs (n : Nat) (f : Armed → Armed) (s : State) : (setArmed n f s).regs = s.regs := rfl
@[simp] theorem setArmed_shadows (n : Nat) (f : Armed → Armed) (s : State) : (setArmed n f s).shadows = s.shadows := rfl
@[simp] theorem setArmed_latches (n : Nat) (f : Armed → Armed) (s : State) : (setArmed n f s).latches = s.latches := rfl
@[simp] theorem setArmed_loWrites (n : Nat) (f : Armed → Armed) (s : State) : (setArmed n f s).loWrites = s.loWrites := rfl
@[simp] theorem setArmed_out (n : Nat) (f : Armed → Armed) (s : State) : (setArmed n f s).out = s.out := rfl
@[simp] theorem setArmed_sys (n : Nat) (f : Armed → Armed) (s : State) : (setArmed n f s).sys = s.sys := rfl
@[simp] theorem setArmed_isl (n : Nat) (f : Armed → Armed) (s : State) : (setArmed n f s).isl = s.isl := rfl
@[simp] theorem setArmed_nv (n : Nat) (f : Armed → Armed) (s : State) : (setArmed n f s).nv = s.nv := rfl
@[simp] theorem setArmed_time (n : Nat) (f : Armed → Armed) (s : State) : (setArmed n f s).time = s.time := rfl
@[simp] theorem setArmed_vot (n : Nat) (f : Armed → Armed) (s : State) : (setArmed n f s).vot = s.vot := rfl
@[simp] theorem setArmed_icus (n : Nat) (f : Armed → Armed) (s : State) : (setArmed n f s).icus = s.icus := rfl
@[simp] theorem setArmed_mems (n : Nat) (f : Armed → Armed) (s : State) : (setArmed n f s).mems = s.mems := rfl
@[simp] theorem setArmed_erec (n : Nat) (f : Armed → Armed) (s : State) : (setArmed n f s).erec = s.erec := rfl
@[simp] theorem setArmed_odo (n : Nat) (f : Armed → Armed) (s : State) : (setArmed n f s).odo = s.odo := rfl
@[simp] theorem setArmed_sup (n : Nat) (f : Armed → Armed) (s : State) : (setArmed n f s).sup = s.sup := rfl
@[simp] theorem setArmed_dio (n : Nat) (f : Armed → Armed) (s : State) : (setArmed n f s).dio = s.dio := rfl
@[simp] theorem setArmed_ftn (n : Nat) (f : Armed → Armed) (s : State) : (setArmed n f s).ftn = s.ftn := rfl
@[simp] theorem setArmed_cyc (n : Nat) (f : Armed → Armed) (s : State) : (setArmed n f s).cyc = s.cyc := rfl
@[simp] theorem setArmed_chk (n : Nat) (f : Armed → Armed) (s : State) : (setArmed n f s).chk = s.chk := rfl
@[simp] theorem setArmed_brg (n : Nat) (f : Armed → Armed) (s : State) : (setArmed n f s).brg = s.brg := rfl
@[simp] theorem setArmed_dmas (n : Nat) (f : Armed → Armed) (s : State) : (setArmed n f s).dmas = s.dmas := rfl
@[simp] theorem setArmed_ksp (n : Nat) (f : Armed → Armed) (s : State) : (setArmed n f s).ksp = s.ksp := rfl
@[simp] theorem setArmed_upd (n : Nat) (f : Armed → Armed) (s : State) : (setArmed n f s).upd = s.upd := rfl
@[simp] theorem setArmed_secs (n : Nat) (f : Armed → Armed) (s : State) : (setArmed n f s).secs = s.secs := rfl
@[simp] theorem setArmed_tlm (n : Nat) (f : Armed → Armed) (s : State) : (setArmed n f s).tlm = s.tlm := rfl
@[simp] theorem dropArmed_pending (n : Nat) (s : State) : (dropArmed n s).pending = s.pending := rfl
@[simp] theorem dropArmed_now (n : Nat) (s : State) : (dropArmed n s).now = s.now := rfl
@[simp] theorem dropArmed_free (n : Nat) (s : State) : (dropArmed n s).free = s.free := rfl
@[simp] theorem dropArmed_regs (n : Nat) (s : State) : (dropArmed n s).regs = s.regs := rfl
@[simp] theorem dropArmed_shadows (n : Nat) (s : State) : (dropArmed n s).shadows = s.shadows := rfl
@[simp] theorem dropArmed_latches (n : Nat) (s : State) : (dropArmed n s).latches = s.latches := rfl
@[simp] theorem dropArmed_loWrites (n : Nat) (s : State) : (dropArmed n s).loWrites = s.loWrites := rfl
@[simp] theorem dropArmed_out (n : Nat) (s : State) : (dropArmed n s).out = s.out := rfl
@[simp] theorem dropArmed_sys (n : Nat) (s : State) : (dropArmed n s).sys = s.sys := rfl
@[simp] theorem dropArmed_isl (n : Nat) (s : State) : (dropArmed n s).isl = s.isl := rfl
@[simp] theorem dropArmed_nv (n : Nat) (s : State) : (dropArmed n s).nv = s.nv := rfl
@[simp] theorem dropArmed_time (n : Nat) (s : State) : (dropArmed n s).time = s.time := rfl
@[simp] theorem dropArmed_vot (n : Nat) (s : State) : (dropArmed n s).vot = s.vot := rfl
@[simp] theorem dropArmed_icus (n : Nat) (s : State) : (dropArmed n s).icus = s.icus := rfl
@[simp] theorem dropArmed_mems (n : Nat) (s : State) : (dropArmed n s).mems = s.mems := rfl
@[simp] theorem dropArmed_erec (n : Nat) (s : State) : (dropArmed n s).erec = s.erec := rfl
@[simp] theorem dropArmed_odo (n : Nat) (s : State) : (dropArmed n s).odo = s.odo := rfl
@[simp] theorem dropArmed_sup (n : Nat) (s : State) : (dropArmed n s).sup = s.sup := rfl
@[simp] theorem dropArmed_dio (n : Nat) (s : State) : (dropArmed n s).dio = s.dio := rfl
@[simp] theorem dropArmed_ftn (n : Nat) (s : State) : (dropArmed n s).ftn = s.ftn := rfl
@[simp] theorem dropArmed_cyc (n : Nat) (s : State) : (dropArmed n s).cyc = s.cyc := rfl
@[simp] theorem dropArmed_chk (n : Nat) (s : State) : (dropArmed n s).chk = s.chk := rfl
@[simp] theorem dropArmed_brg (n : Nat) (s : State) : (dropArmed n s).brg = s.brg := rfl
@[simp] theorem dropArmed_dmas (n : Nat) (s : State) : (dropArmed n s).dmas = s.dmas := rfl
@[simp] theorem dropArmed_ksp (n : Nat) (s : State) : (dropArmed n s).ksp = s.ksp := rfl
@[simp] theorem dropArmed_upd (n : Nat) (s : State) : (dropArmed n s).upd = s.upd := rfl
@[simp] theorem dropArmed_secs (n : Nat) (s : State) : (dropArmed n s).secs = s.secs := rfl
@[simp] theorem dropArmed_tlm (n : Nat) (s : State) : (dropArmed n s).tlm = s.tlm := rfl
@[simp] theorem movePos_pending (d : Int) (s : State) : (movePos d s).pending = s.pending := rfl
@[simp] theorem movePos_now (d : Int) (s : State) : (movePos d s).now = s.now := rfl
@[simp] theorem movePos_free (d : Int) (s : State) : (movePos d s).free = s.free := rfl
@[simp] theorem movePos_regs (d : Int) (s : State) : (movePos d s).regs = s.regs := rfl
@[simp] theorem movePos_shadows (d : Int) (s : State) : (movePos d s).shadows = s.shadows := rfl
@[simp] theorem movePos_latches (d : Int) (s : State) : (movePos d s).latches = s.latches := rfl
@[simp] theorem movePos_loWrites (d : Int) (s : State) : (movePos d s).loWrites = s.loWrites := rfl
@[simp] theorem movePos_out (d : Int) (s : State) : (movePos d s).out = s.out := rfl
@[simp] theorem movePos_sys (d : Int) (s : State) : (movePos d s).sys = s.sys := rfl
@[simp] theorem movePos_isl (d : Int) (s : State) : (movePos d s).isl = s.isl := rfl
@[simp] theorem movePos_nv (d : Int) (s : State) : (movePos d s).nv = s.nv := rfl
@[simp] theorem movePos_time (d : Int) (s : State) : (movePos d s).time = s.time := rfl
@[simp] theorem movePos_vot (d : Int) (s : State) : (movePos d s).vot = s.vot := rfl
@[simp] theorem movePos_icus (d : Int) (s : State) : (movePos d s).icus = s.icus := rfl
@[simp] theorem movePos_mems (d : Int) (s : State) : (movePos d s).mems = s.mems := rfl
@[simp] theorem movePos_erec (d : Int) (s : State) : (movePos d s).erec = s.erec := rfl
@[simp] theorem movePos_sup (d : Int) (s : State) : (movePos d s).sup = s.sup := rfl
@[simp] theorem movePos_pst (d : Int) (s : State) : (movePos d s).pst = s.pst := rfl
@[simp] theorem movePos_dio (d : Int) (s : State) : (movePos d s).dio = s.dio := rfl
@[simp] theorem movePos_ftn (d : Int) (s : State) : (movePos d s).ftn = s.ftn := rfl
@[simp] theorem movePos_cyc (d : Int) (s : State) : (movePos d s).cyc = s.cyc := rfl
@[simp] theorem movePos_chk (d : Int) (s : State) : (movePos d s).chk = s.chk := rfl
@[simp] theorem movePos_brg (d : Int) (s : State) : (movePos d s).brg = s.brg := rfl
@[simp] theorem movePos_dmas (d : Int) (s : State) : (movePos d s).dmas = s.dmas := rfl
@[simp] theorem movePos_ksp (d : Int) (s : State) : (movePos d s).ksp = s.ksp := rfl
@[simp] theorem movePos_upd (d : Int) (s : State) : (movePos d s).upd = s.upd := rfl
@[simp] theorem movePos_secs (d : Int) (s : State) : (movePos d s).secs = s.secs := rfl
@[simp] theorem movePos_tlm (d : Int) (s : State) : (movePos d s).tlm = s.tlm := rfl
@[simp] theorem routeLane_pending (l : Lane) (s : State) : (routeLane l s).pending = s.pending := rfl
@[simp] theorem routeLane_now (l : Lane) (s : State) : (routeLane l s).now = s.now := rfl
@[simp] theorem routeLane_free (l : Lane) (s : State) : (routeLane l s).free = s.free := rfl
@[simp] theorem routeLane_regs (l : Lane) (s : State) : (routeLane l s).regs = s.regs := rfl
@[simp] theorem routeLane_shadows (l : Lane) (s : State) : (routeLane l s).shadows = s.shadows := rfl
@[simp] theorem routeLane_latches (l : Lane) (s : State) : (routeLane l s).latches = s.latches := rfl
@[simp] theorem routeLane_loWrites (l : Lane) (s : State) : (routeLane l s).loWrites = s.loWrites := rfl
@[simp] theorem routeLane_out (l : Lane) (s : State) : (routeLane l s).out = s.out := rfl
@[simp] theorem routeLane_sys (l : Lane) (s : State) : (routeLane l s).sys = s.sys := rfl
@[simp] theorem routeLane_isl (l : Lane) (s : State) : (routeLane l s).isl = s.isl := rfl
@[simp] theorem routeLane_nv (l : Lane) (s : State) : (routeLane l s).nv = s.nv := rfl
@[simp] theorem routeLane_time (l : Lane) (s : State) : (routeLane l s).time = s.time := rfl
@[simp] theorem routeLane_vot (l : Lane) (s : State) : (routeLane l s).vot = s.vot := rfl
@[simp] theorem routeLane_mems (l : Lane) (s : State) : (routeLane l s).mems = s.mems := rfl
@[simp] theorem routeLane_erec (l : Lane) (s : State) : (routeLane l s).erec = s.erec := rfl
@[simp] theorem routeLane_odo (l : Lane) (s : State) : (routeLane l s).odo = s.odo := rfl
@[simp] theorem routeLane_sup (l : Lane) (s : State) : (routeLane l s).sup = s.sup := rfl
@[simp] theorem routeLane_pst (l : Lane) (s : State) : (routeLane l s).pst = s.pst := rfl
@[simp] theorem routeLane_dio (l : Lane) (s : State) : (routeLane l s).dio = s.dio := rfl
@[simp] theorem routeLane_ftn (l : Lane) (s : State) : (routeLane l s).ftn = s.ftn := rfl
@[simp] theorem routeLane_cyc (l : Lane) (s : State) : (routeLane l s).cyc = s.cyc := rfl
@[simp] theorem routeLane_chk (l : Lane) (s : State) : (routeLane l s).chk = s.chk := rfl
@[simp] theorem routeLane_brg (l : Lane) (s : State) : (routeLane l s).brg = s.brg := rfl
@[simp] theorem routeLane_dmas (l : Lane) (s : State) : (routeLane l s).dmas = s.dmas := rfl
@[simp] theorem routeLane_ksp (l : Lane) (s : State) : (routeLane l s).ksp = s.ksp := rfl
@[simp] theorem routeLane_upd (l : Lane) (s : State) : (routeLane l s).upd = s.upd := rfl
@[simp] theorem routeLane_secs (l : Lane) (s : State) : (routeLane l s).secs = s.secs := rfl
@[simp] theorem routeLane_tlm (l : Lane) (s : State) : (routeLane l s).tlm = s.tlm := rfl
@[simp] theorem fresh_pending (s : State) : (fresh s).2.pending = s.pending := rfl
@[simp] theorem when_pending (c : Bool) (f : State → State) (s : State) : (when c f s).pending = if c then (f s).pending else s.pending := by
  unfold when; split <;> rfl
@[simp] theorem advanceTo_pending (t : Nat) (s : State) : (advanceTo t s).pending = s.pending := by
  unfold advanceTo; split <;> rfl
@[simp] theorem requestRec_pending (q : RecReq) (s : State) : (requestRec q s).pending = s.pending := by
  unfold requestRec; repeat' split
  all_goals rfl
@[simp] theorem record_pending (type : Nat) (items : List Item) (s : State) : (record type items s).pending = s.pending := by
  unfold record; split <;> exact requestRec_pending _ _
@[simp] theorem recordWith_pending (type profile : Nat) (items : List Item) (s : State) : (recordWith type profile items s).pending = s.pending := requestRec_pending _ s
@[simp] theorem answerAll_pending (core : Nat) (v : Word) (err : Bool) (s : State) : (answerAll core v err s).pending = s.pending := by
  unfold answerAll; induction s.lanesIn generalizing s with
  | nil => rfl
  | cons l ls ih => rw [List.foldl_cons, ih]; rfl
@[simp] theorem fresh_now (s : State) : (fresh s).2.now = s.now := rfl
@[simp] theorem when_now (c : Bool) (f : State → State) (s : State) : (when c f s).now = if c then (f s).now else s.now := by
  unfold when; split <;> rfl
@[simp] theorem requestRec_now (q : RecReq) (s : State) : (requestRec q s).now = s.now := by
  unfold requestRec; repeat' split
  all_goals rfl
@[simp] theorem record_now (type : Nat) (items : List Item) (s : State) : (record type items s).now = s.now := by
  unfold record; split <;> exact requestRec_now _ _
@[simp] theorem recordWith_now (type profile : Nat) (items : List Item) (s : State) : (recordWith type profile items s).now = s.now := requestRec_now _ s
@[simp] theorem answerAll_now (core : Nat) (v : Word) (err : Bool) (s : State) : (answerAll core v err s).now = s.now := by
  unfold answerAll; induction s.lanesIn generalizing s with
  | nil => rfl
  | cons l ls ih => rw [List.foldl_cons, ih]; rfl
@[simp] theorem when_free (c : Bool) (f : State → State) (s : State) : (when c f s).free = if c then (f s).free else s.free := by
  unfold when; split <;> rfl
@[simp] theorem advanceTo_free (t : Nat) (s : State) : (advanceTo t s).free = s.free := by
  unfold advanceTo; split <;> rfl
@[simp] theorem requestRec_free (q : RecReq) (s : State) : (requestRec q s).free = s.free := by
  unfold requestRec; repeat' split
  all_goals rfl
@[simp] theorem record_free (type : Nat) (items : List Item) (s : State) : (record type items s).free = s.free := by
  unfold record; split <;> exact requestRec_free _ _
@[simp] theorem recordWith_free (type profile : Nat) (items : List Item) (s : State) : (recordWith type profile items s).free = s.free := requestRec_free _ s
@[simp] theorem answerAll_free (core : Nat) (v : Word) (err : Bool) (s : State) : (answerAll core v err s).free = s.free := by
  unfold answerAll; induction s.lanesIn generalizing s with
  | nil => rfl
  | cons l ls ih => rw [List.foldl_cons, ih]; rfl
@[simp] theorem fresh_regs (s : State) : (fresh s).2.regs = s.regs := rfl
@[simp] theorem when_regs (c : Bool) (f : State → State) (s : State) : (when c f s).regs = if c then (f s).regs else s.regs := by
  unfold when; split <;> rfl
@[simp] theorem advanceTo_regs (t : Nat) (s : State) : (advanceTo t s).regs = s.regs := by
  unfold advanceTo; split <;> rfl
@[simp] theorem answerAll_regs (core : Nat) (v : Word) (err : Bool) (s : State) : (answerAll core v err s).regs = s.regs := by
  unfold answerAll; induction s.lanesIn generalizing s with
  | nil => rfl
  | cons l ls ih => rw [List.foldl_cons, ih]; rfl
@[simp] theorem fresh_shadows (s : State) : (fresh s).2.shadows = s.shadows := rfl
@[simp] theorem when_shadows (c : Bool) (f : State → State) (s : State) : (when c f s).shadows = if c then (f s).shadows else s.shadows := by
  unfold when; split <;> rfl
@[simp] theorem advanceTo_shadows (t : Nat) (s : State) : (advanceTo t s).shadows = s.shadows := by
  unfold advanceTo; split <;> rfl
@[simp] theorem requestRec_shadows (q : RecReq) (s : State) : (requestRec q s).shadows = s.shadows := by
  unfold requestRec; repeat' split
  all_goals rfl
@[simp] theorem record_shadows (type : Nat) (items : List Item) (s : State) : (record type items s).shadows = s.shadows := by
  unfold record; split <;> exact requestRec_shadows _ _
@[simp] theorem recordWith_shadows (type profile : Nat) (items : List Item) (s : State) : (recordWith type profile items s).shadows = s.shadows := requestRec_shadows _ s
@[simp] theorem answerAll_shadows (core : Nat) (v : Word) (err : Bool) (s : State) : (answerAll core v err s).shadows = s.shadows := by
  unfold answerAll; induction s.lanesIn generalizing s with
  | nil => rfl
  | cons l ls ih => rw [List.foldl_cons, ih]; rfl
@[simp] theorem fresh_latches (s : State) : (fresh s).2.latches = s.latches := rfl
@[simp] theorem when_latches (c : Bool) (f : State → State) (s : State) : (when c f s).latches = if c then (f s).latches else s.latches := by
  unfold when; split <;> rfl
@[simp] theorem advanceTo_latches (t : Nat) (s : State) : (advanceTo t s).latches = s.latches := by
  unfold advanceTo; split <;> rfl
@[simp] theorem requestRec_latches (q : RecReq) (s : State) : (requestRec q s).latches = s.latches := by
  unfold requestRec; repeat' split
  all_goals rfl
@[simp] theorem record_latches (type : Nat) (items : List Item) (s : State) : (record type items s).latches = s.latches := by
  unfold record; split <;> exact requestRec_latches _ _
@[simp] theorem recordWith_latches (type profile : Nat) (items : List Item) (s : State) : (recordWith type profile items s).latches = s.latches := requestRec_latches _ s
@[simp] theorem answerAll_latches (core : Nat) (v : Word) (err : Bool) (s : State) : (answerAll core v err s).latches = s.latches := by
  unfold answerAll; induction s.lanesIn generalizing s with
  | nil => rfl
  | cons l ls ih => rw [List.foldl_cons, ih]; rfl
@[simp] theorem fresh_loWrites (s : State) : (fresh s).2.loWrites = s.loWrites := rfl
@[simp] theorem when_loWrites (c : Bool) (f : State → State) (s : State) : (when c f s).loWrites = if c then (f s).loWrites else s.loWrites := by
  unfold when; split <;> rfl
@[simp] theorem advanceTo_loWrites (t : Nat) (s : State) : (advanceTo t s).loWrites = s.loWrites := by
  unfold advanceTo; split <;> rfl
@[simp] theorem requestRec_loWrites (q : RecReq) (s : State) : (requestRec q s).loWrites = s.loWrites := by
  unfold requestRec; repeat' split
  all_goals rfl
@[simp] theorem record_loWrites (type : Nat) (items : List Item) (s : State) : (record type items s).loWrites = s.loWrites := by
  unfold record; split <;> exact requestRec_loWrites _ _
@[simp] theorem recordWith_loWrites (type profile : Nat) (items : List Item) (s : State) : (recordWith type profile items s).loWrites = s.loWrites := requestRec_loWrites _ s
@[simp] theorem answerAll_loWrites (core : Nat) (v : Word) (err : Bool) (s : State) : (answerAll core v err s).loWrites = s.loWrites := by
  unfold answerAll; induction s.lanesIn generalizing s with
  | nil => rfl
  | cons l ls ih => rw [List.foldl_cons, ih]; rfl
@[simp] theorem fresh_out (s : State) : (fresh s).2.out = s.out := rfl
@[simp] theorem when_out (c : Bool) (f : State → State) (s : State) : (when c f s).out = if c then (f s).out else s.out := by
  unfold when; split <;> rfl
@[simp] theorem advanceTo_out (t : Nat) (s : State) : (advanceTo t s).out = s.out := by
  unfold advanceTo; split <;> rfl
@[simp] theorem requestRec_out (q : RecReq) (s : State) : (requestRec q s).out = s.out := by
  unfold requestRec; repeat' split
  all_goals rfl
@[simp] theorem record_out (type : Nat) (items : List Item) (s : State) : (record type items s).out = s.out := by
  unfold record; split <;> exact requestRec_out _ _
@[simp] theorem recordWith_out (type profile : Nat) (items : List Item) (s : State) : (recordWith type profile items s).out = s.out := requestRec_out _ s
@[simp] theorem answerAll_out (core : Nat) (v : Word) (err : Bool) (s : State) : (answerAll core v err s).out = s.out := by
  unfold answerAll; induction s.lanesIn generalizing s with
  | nil => rfl
  | cons l ls ih => rw [List.foldl_cons, ih]; rfl
@[simp] theorem fresh_sys (s : State) : (fresh s).2.sys = s.sys := rfl
@[simp] theorem when_sys (c : Bool) (f : State → State) (s : State) : (when c f s).sys = if c then (f s).sys else s.sys := by
  unfold when; split <;> rfl
@[simp] theorem advanceTo_sys (t : Nat) (s : State) : (advanceTo t s).sys = s.sys := by
  unfold advanceTo; split <;> rfl
@[simp] theorem requestRec_sys (q : RecReq) (s : State) : (requestRec q s).sys = s.sys := by
  unfold requestRec; repeat' split
  all_goals rfl
@[simp] theorem record_sys (type : Nat) (items : List Item) (s : State) : (record type items s).sys = s.sys := by
  unfold record; split <;> exact requestRec_sys _ _
@[simp] theorem recordWith_sys (type profile : Nat) (items : List Item) (s : State) : (recordWith type profile items s).sys = s.sys := requestRec_sys _ s
@[simp] theorem answerAll_sys (core : Nat) (v : Word) (err : Bool) (s : State) : (answerAll core v err s).sys = s.sys := by
  unfold answerAll; induction s.lanesIn generalizing s with
  | nil => rfl
  | cons l ls ih => rw [List.foldl_cons, ih]; rfl
@[simp] theorem fresh_isl (s : State) : (fresh s).2.isl = s.isl := rfl
@[simp] theorem when_isl (c : Bool) (f : State → State) (s : State) : (when c f s).isl = if c then (f s).isl else s.isl := by
  unfold when; split <;> rfl
@[simp] theorem answerAll_isl (core : Nat) (v : Word) (err : Bool) (s : State) : (answerAll core v err s).isl = s.isl := by
  unfold answerAll; induction s.lanesIn generalizing s with
  | nil => rfl
  | cons l ls ih => rw [List.foldl_cons, ih]; rfl
@[simp] theorem fresh_nv (s : State) : (fresh s).2.nv = s.nv := rfl
@[simp] theorem when_nv (c : Bool) (f : State → State) (s : State) : (when c f s).nv = if c then (f s).nv else s.nv := by
  unfold when; split <;> rfl
@[simp] theorem requestRec_nv (q : RecReq) (s : State) : (requestRec q s).nv = s.nv := by
  unfold requestRec; repeat' split
  all_goals rfl
@[simp] theorem record_nv (type : Nat) (items : List Item) (s : State) : (record type items s).nv = s.nv := by
  unfold record; split <;> exact requestRec_nv _ _
@[simp] theorem recordWith_nv (type profile : Nat) (items : List Item) (s : State) : (recordWith type profile items s).nv = s.nv := requestRec_nv _ s
@[simp] theorem answerAll_nv (core : Nat) (v : Word) (err : Bool) (s : State) : (answerAll core v err s).nv = s.nv := by
  unfold answerAll; induction s.lanesIn generalizing s with
  | nil => rfl
  | cons l ls ih => rw [List.foldl_cons, ih]; rfl
@[simp] theorem fresh_time (s : State) : (fresh s).2.time = s.time := rfl
@[simp] theorem when_time (c : Bool) (f : State → State) (s : State) : (when c f s).time = if c then (f s).time else s.time := by
  unfold when; split <;> rfl
@[simp] theorem requestRec_time (q : RecReq) (s : State) : (requestRec q s).time = s.time := by
  unfold requestRec; repeat' split
  all_goals rfl
@[simp] theorem record_time (type : Nat) (items : List Item) (s : State) : (record type items s).time = s.time := by
  unfold record; split <;> exact requestRec_time _ _
@[simp] theorem recordWith_time (type profile : Nat) (items : List Item) (s : State) : (recordWith type profile items s).time = s.time := requestRec_time _ s
@[simp] theorem answerAll_time (core : Nat) (v : Word) (err : Bool) (s : State) : (answerAll core v err s).time = s.time := by
  unfold answerAll; induction s.lanesIn generalizing s with
  | nil => rfl
  | cons l ls ih => rw [List.foldl_cons, ih]; rfl
@[simp] theorem fresh_vot (s : State) : (fresh s).2.vot = s.vot := rfl
@[simp] theorem when_vot (c : Bool) (f : State → State) (s : State) : (when c f s).vot = if c then (f s).vot else s.vot := by
  unfold when; split <;> rfl
@[simp] theorem advanceTo_vot (t : Nat) (s : State) : (advanceTo t s).vot = s.vot := by
  unfold advanceTo; split <;> rfl
@[simp] theorem requestRec_vot (q : RecReq) (s : State) : (requestRec q s).vot = s.vot := by
  unfold requestRec; repeat' split
  all_goals rfl
@[simp] theorem record_vot (type : Nat) (items : List Item) (s : State) : (record type items s).vot = s.vot := by
  unfold record; split <;> exact requestRec_vot _ _
@[simp] theorem recordWith_vot (type profile : Nat) (items : List Item) (s : State) : (recordWith type profile items s).vot = s.vot := requestRec_vot _ s
@[simp] theorem fresh_icus (s : State) : (fresh s).2.icus = s.icus := rfl
@[simp] theorem when_icus (c : Bool) (f : State → State) (s : State) : (when c f s).icus = if c then (f s).icus else s.icus := by
  unfold when; split <;> rfl
@[simp] theorem advanceTo_icus (t : Nat) (s : State) : (advanceTo t s).icus = s.icus := by
  unfold advanceTo; split <;> rfl
@[simp] theorem answerAll_icus (core : Nat) (v : Word) (err : Bool) (s : State) : (answerAll core v err s).icus = s.icus := by
  unfold answerAll; induction s.lanesIn generalizing s with
  | nil => rfl
  | cons l ls ih => rw [List.foldl_cons, ih]; rfl
@[simp] theorem fresh_mems (s : State) : (fresh s).2.mems = s.mems := rfl
@[simp] theorem when_mems (c : Bool) (f : State → State) (s : State) : (when c f s).mems = if c then (f s).mems else s.mems := by
  unfold when; split <;> rfl
@[simp] theorem advanceTo_mems (t : Nat) (s : State) : (advanceTo t s).mems = s.mems := by
  unfold advanceTo; split <;> rfl
@[simp] theorem requestRec_mems (q : RecReq) (s : State) : (requestRec q s).mems = s.mems := by
  unfold requestRec; repeat' split
  all_goals rfl
@[simp] theorem record_mems (type : Nat) (items : List Item) (s : State) : (record type items s).mems = s.mems := by
  unfold record; split <;> exact requestRec_mems _ _
@[simp] theorem recordWith_mems (type profile : Nat) (items : List Item) (s : State) : (recordWith type profile items s).mems = s.mems := requestRec_mems _ s
@[simp] theorem answerAll_mems (core : Nat) (v : Word) (err : Bool) (s : State) : (answerAll core v err s).mems = s.mems := by
  unfold answerAll; induction s.lanesIn generalizing s with
  | nil => rfl
  | cons l ls ih => rw [List.foldl_cons, ih]; rfl
@[simp] theorem fresh_erec (s : State) : (fresh s).2.erec = s.erec := rfl
@[simp] theorem when_erec (c : Bool) (f : State → State) (s : State) : (when c f s).erec = if c then (f s).erec else s.erec := by
  unfold when; split <;> rfl
@[simp] theorem advanceTo_erec (t : Nat) (s : State) : (advanceTo t s).erec = s.erec := by
  unfold advanceTo; split <;> rfl
@[simp] theorem answerAll_erec (core : Nat) (v : Word) (err : Bool) (s : State) : (answerAll core v err s).erec = s.erec := by
  unfold answerAll; induction s.lanesIn generalizing s with
  | nil => rfl
  | cons l ls ih => rw [List.foldl_cons, ih]; rfl
@[simp] theorem fresh_odo (s : State) : (fresh s).2.odo = s.odo := rfl
@[simp] theorem when_odo (c : Bool) (f : State → State) (s : State) : (when c f s).odo = if c then (f s).odo else s.odo := by
  unfold when; split <;> rfl
@[simp] theorem advanceTo_odo (t : Nat) (s : State) : (advanceTo t s).odo = s.odo := by
  unfold advanceTo; split <;> rfl
@[simp] theorem requestRec_odo (q : RecReq) (s : State) : (requestRec q s).odo = s.odo := by
  unfold requestRec; repeat' split
  all_goals rfl
@[simp] theorem record_odo (type : Nat) (items : List Item) (s : State) : (record type items s).odo = s.odo := by
  unfold record; split <;> exact requestRec_odo _ _
@[simp] theorem recordWith_odo (type profile : Nat) (items : List Item) (s : State) : (recordWith type profile items s).odo = s.odo := requestRec_odo _ s
@[simp] theorem answerAll_odo (core : Nat) (v : Word) (err : Bool) (s : State) : (answerAll core v err s).odo = s.odo := by
  unfold answerAll; induction s.lanesIn generalizing s with
  | nil => rfl
  | cons l ls ih => rw [List.foldl_cons, ih]; rfl
@[simp] theorem fresh_sup (s : State) : (fresh s).2.sup = s.sup := rfl
@[simp] theorem when_sup (c : Bool) (f : State → State) (s : State) : (when c f s).sup = if c then (f s).sup else s.sup := by
  unfold when; split <;> rfl
@[simp] theorem advanceTo_sup (t : Nat) (s : State) : (advanceTo t s).sup = s.sup := by
  unfold advanceTo; split <;> rfl
@[simp] theorem requestRec_sup (q : RecReq) (s : State) : (requestRec q s).sup = s.sup := by
  unfold requestRec; repeat' split
  all_goals rfl
@[simp] theorem record_sup (type : Nat) (items : List Item) (s : State) : (record type items s).sup = s.sup := by
  unfold record; split <;> exact requestRec_sup _ _
@[simp] theorem recordWith_sup (type profile : Nat) (items : List Item) (s : State) : (recordWith type profile items s).sup = s.sup := requestRec_sup _ s
@[simp] theorem answerAll_sup (core : Nat) (v : Word) (err : Bool) (s : State) : (answerAll core v err s).sup = s.sup := by
  unfold answerAll; induction s.lanesIn generalizing s with
  | nil => rfl
  | cons l ls ih => rw [List.foldl_cons, ih]; rfl
@[simp] theorem fresh_pst (s : State) : (fresh s).2.pst = s.pst := rfl
@[simp] theorem when_pst (c : Bool) (f : State → State) (s : State) : (when c f s).pst = if c then (f s).pst else s.pst := by
  unfold when; split <;> rfl
@[simp] theorem advanceTo_pst (t : Nat) (s : State) : (advanceTo t s).pst = s.pst := by
  unfold advanceTo; split <;> rfl
@[simp] theorem requestRec_pst (q : RecReq) (s : State) : (requestRec q s).pst = s.pst := by
  unfold requestRec; repeat' split
  all_goals rfl
@[simp] theorem record_pst (type : Nat) (items : List Item) (s : State) : (record type items s).pst = s.pst := by
  unfold record; split <;> exact requestRec_pst _ _
@[simp] theorem recordWith_pst (type profile : Nat) (items : List Item) (s : State) : (recordWith type profile items s).pst = s.pst := requestRec_pst _ s
@[simp] theorem answerAll_pst (core : Nat) (v : Word) (err : Bool) (s : State) : (answerAll core v err s).pst = s.pst := by
  unfold answerAll; induction s.lanesIn generalizing s with
  | nil => rfl
  | cons l ls ih => rw [List.foldl_cons, ih]; rfl
@[simp] theorem fresh_dio (s : State) : (fresh s).2.dio = s.dio := rfl
@[simp] theorem when_dio (c : Bool) (f : State → State) (s : State) : (when c f s).dio = if c then (f s).dio else s.dio := by
  unfold when; split <;> rfl
@[simp] theorem advanceTo_dio (t : Nat) (s : State) : (advanceTo t s).dio = s.dio := by
  unfold advanceTo; split <;> rfl
@[simp] theorem requestRec_dio (q : RecReq) (s : State) : (requestRec q s).dio = s.dio := by
  unfold requestRec; repeat' split
  all_goals rfl
@[simp] theorem record_dio (type : Nat) (items : List Item) (s : State) : (record type items s).dio = s.dio := by
  unfold record; split <;> exact requestRec_dio _ _
@[simp] theorem recordWith_dio (type profile : Nat) (items : List Item) (s : State) : (recordWith type profile items s).dio = s.dio := requestRec_dio _ s
@[simp] theorem answerAll_dio (core : Nat) (v : Word) (err : Bool) (s : State) : (answerAll core v err s).dio = s.dio := by
  unfold answerAll; induction s.lanesIn generalizing s with
  | nil => rfl
  | cons l ls ih => rw [List.foldl_cons, ih]; rfl
@[simp] theorem fresh_ftn (s : State) : (fresh s).2.ftn = s.ftn := rfl
@[simp] theorem when_ftn (c : Bool) (f : State → State) (s : State) : (when c f s).ftn = if c then (f s).ftn else s.ftn := by
  unfold when; split <;> rfl
@[simp] theorem advanceTo_ftn (t : Nat) (s : State) : (advanceTo t s).ftn = s.ftn := by
  unfold advanceTo; split <;> rfl
@[simp] theorem requestRec_ftn (q : RecReq) (s : State) : (requestRec q s).ftn = s.ftn := by
  unfold requestRec; repeat' split
  all_goals rfl
@[simp] theorem record_ftn (type : Nat) (items : List Item) (s : State) : (record type items s).ftn = s.ftn := by
  unfold record; split <;> exact requestRec_ftn _ _
@[simp] theorem recordWith_ftn (type profile : Nat) (items : List Item) (s : State) : (recordWith type profile items s).ftn = s.ftn := requestRec_ftn _ s
@[simp] theorem answerAll_ftn (core : Nat) (v : Word) (err : Bool) (s : State) : (answerAll core v err s).ftn = s.ftn := by
  unfold answerAll; induction s.lanesIn generalizing s with
  | nil => rfl
  | cons l ls ih => rw [List.foldl_cons, ih]; rfl
@[simp] theorem fresh_cyc (s : State) : (fresh s).2.cyc = s.cyc := rfl
@[simp] theorem when_cyc (c : Bool) (f : State → State) (s : State) : (when c f s).cyc = if c then (f s).cyc else s.cyc := by
  unfold when; split <;> rfl
@[simp] theorem advanceTo_cyc (t : Nat) (s : State) : (advanceTo t s).cyc = s.cyc := by
  unfold advanceTo; split <;> rfl
@[simp] theorem requestRec_cyc (q : RecReq) (s : State) : (requestRec q s).cyc = s.cyc := by
  unfold requestRec; repeat' split
  all_goals rfl
@[simp] theorem record_cyc (type : Nat) (items : List Item) (s : State) : (record type items s).cyc = s.cyc := by
  unfold record; split <;> exact requestRec_cyc _ _
@[simp] theorem recordWith_cyc (type profile : Nat) (items : List Item) (s : State) : (recordWith type profile items s).cyc = s.cyc := requestRec_cyc _ s
@[simp] theorem answerAll_cyc (core : Nat) (v : Word) (err : Bool) (s : State) : (answerAll core v err s).cyc = s.cyc := by
  unfold answerAll; induction s.lanesIn generalizing s with
  | nil => rfl
  | cons l ls ih => rw [List.foldl_cons, ih]; rfl
@[simp] theorem fresh_chk (s : State) : (fresh s).2.chk = s.chk := rfl
@[simp] theorem when_chk (c : Bool) (f : State → State) (s : State) : (when c f s).chk = if c then (f s).chk else s.chk := by
  unfold when; split <;> rfl
@[simp] theorem advanceTo_chk (t : Nat) (s : State) : (advanceTo t s).chk = s.chk := by
  unfold advanceTo; split <;> rfl
@[simp] theorem requestRec_chk (q : RecReq) (s : State) : (requestRec q s).chk = s.chk := by
  unfold requestRec; repeat' split
  all_goals rfl
@[simp] theorem record_chk (type : Nat) (items : List Item) (s : State) : (record type items s).chk = s.chk := by
  unfold record; split <;> exact requestRec_chk _ _
@[simp] theorem recordWith_chk (type profile : Nat) (items : List Item) (s : State) : (recordWith type profile items s).chk = s.chk := requestRec_chk _ s
@[simp] theorem answerAll_chk (core : Nat) (v : Word) (err : Bool) (s : State) : (answerAll core v err s).chk = s.chk := by
  unfold answerAll; induction s.lanesIn generalizing s with
  | nil => rfl
  | cons l ls ih => rw [List.foldl_cons, ih]; rfl
@[simp] theorem fresh_brg (s : State) : (fresh s).2.brg = s.brg := rfl
@[simp] theorem when_brg (c : Bool) (f : State → State) (s : State) : (when c f s).brg = if c then (f s).brg else s.brg := by
  unfold when; split <;> rfl
@[simp] theorem advanceTo_brg (t : Nat) (s : State) : (advanceTo t s).brg = s.brg := by
  unfold advanceTo; split <;> rfl
@[simp] theorem requestRec_brg (q : RecReq) (s : State) : (requestRec q s).brg = s.brg := by
  unfold requestRec; repeat' split
  all_goals rfl
@[simp] theorem record_brg (type : Nat) (items : List Item) (s : State) : (record type items s).brg = s.brg := by
  unfold record; split <;> exact requestRec_brg _ _
@[simp] theorem recordWith_brg (type profile : Nat) (items : List Item) (s : State) : (recordWith type profile items s).brg = s.brg := requestRec_brg _ s
@[simp] theorem answerAll_brg (core : Nat) (v : Word) (err : Bool) (s : State) : (answerAll core v err s).brg = s.brg := by
  unfold answerAll; induction s.lanesIn generalizing s with
  | nil => rfl
  | cons l ls ih => rw [List.foldl_cons, ih]; rfl
@[simp] theorem fresh_dmas (s : State) : (fresh s).2.dmas = s.dmas := rfl
@[simp] theorem when_dmas (c : Bool) (f : State → State) (s : State) : (when c f s).dmas = if c then (f s).dmas else s.dmas := by
  unfold when; split <;> rfl
@[simp] theorem advanceTo_dmas (t : Nat) (s : State) : (advanceTo t s).dmas = s.dmas := by
  unfold advanceTo; split <;> rfl
@[simp] theorem requestRec_dmas (q : RecReq) (s : State) : (requestRec q s).dmas = s.dmas := by
  unfold requestRec; repeat' split
  all_goals rfl
@[simp] theorem record_dmas (type : Nat) (items : List Item) (s : State) : (record type items s).dmas = s.dmas := by
  unfold record; split <;> exact requestRec_dmas _ _
@[simp] theorem recordWith_dmas (type profile : Nat) (items : List Item) (s : State) : (recordWith type profile items s).dmas = s.dmas := requestRec_dmas _ s
@[simp] theorem answerAll_dmas (core : Nat) (v : Word) (err : Bool) (s : State) : (answerAll core v err s).dmas = s.dmas := by
  unfold answerAll; induction s.lanesIn generalizing s with
  | nil => rfl
  | cons l ls ih => rw [List.foldl_cons, ih]; rfl
@[simp] theorem fresh_ksp (s : State) : (fresh s).2.ksp = s.ksp := rfl
@[simp] theorem when_ksp (c : Bool) (f : State → State) (s : State) : (when c f s).ksp = if c then (f s).ksp else s.ksp := by
  unfold when; split <;> rfl
@[simp] theorem advanceTo_ksp (t : Nat) (s : State) : (advanceTo t s).ksp = s.ksp := by
  unfold advanceTo; split <;> rfl
@[simp] theorem requestRec_ksp (q : RecReq) (s : State) : (requestRec q s).ksp = s.ksp := by
  unfold requestRec; repeat' split
  all_goals rfl
@[simp] theorem record_ksp (type : Nat) (items : List Item) (s : State) : (record type items s).ksp = s.ksp := by
  unfold record; split <;> exact requestRec_ksp _ _
@[simp] theorem recordWith_ksp (type profile : Nat) (items : List Item) (s : State) : (recordWith type profile items s).ksp = s.ksp := requestRec_ksp _ s
@[simp] theorem answerAll_ksp (core : Nat) (v : Word) (err : Bool) (s : State) : (answerAll core v err s).ksp = s.ksp := by
  unfold answerAll; induction s.lanesIn generalizing s with
  | nil => rfl
  | cons l ls ih => rw [List.foldl_cons, ih]; rfl
@[simp] theorem fresh_upd (s : State) : (fresh s).2.upd = s.upd := rfl
@[simp] theorem when_upd (c : Bool) (f : State → State) (s : State) : (when c f s).upd = if c then (f s).upd else s.upd := by
  unfold when; split <;> rfl
@[simp] theorem advanceTo_upd (t : Nat) (s : State) : (advanceTo t s).upd = s.upd := by
  unfold advanceTo; split <;> rfl
@[simp] theorem requestRec_upd (q : RecReq) (s : State) : (requestRec q s).upd = s.upd := by
  unfold requestRec; repeat' split
  all_goals rfl
@[simp] theorem record_upd (type : Nat) (items : List Item) (s : State) : (record type items s).upd = s.upd := by
  unfold record; split <;> exact requestRec_upd _ _
@[simp] theorem recordWith_upd (type profile : Nat) (items : List Item) (s : State) : (recordWith type profile items s).upd = s.upd := requestRec_upd _ s
@[simp] theorem answerAll_upd (core : Nat) (v : Word) (err : Bool) (s : State) : (answerAll core v err s).upd = s.upd := by
  unfold answerAll; induction s.lanesIn generalizing s with
  | nil => rfl
  | cons l ls ih => rw [List.foldl_cons, ih]; rfl
@[simp] theorem fresh_secs (s : State) : (fresh s).2.secs = s.secs := rfl
@[simp] theorem when_secs (c : Bool) (f : State → State) (s : State) : (when c f s).secs = if c then (f s).secs else s.secs := by
  unfold when; split <;> rfl
@[simp] theorem advanceTo_secs (t : Nat) (s : State) : (advanceTo t s).secs = s.secs := by
  unfold advanceTo; split <;> rfl
@[simp] theorem requestRec_secs (q : RecReq) (s : State) : (requestRec q s).secs = s.secs := by
  unfold requestRec; repeat' split
  all_goals rfl
@[simp] theorem record_secs (type : Nat) (items : List Item) (s : State) : (record type items s).secs = s.secs := by
  unfold record; split <;> exact requestRec_secs _ _
@[simp] theorem recordWith_secs (type profile : Nat) (items : List Item) (s : State) : (recordWith type profile items s).secs = s.secs := requestRec_secs _ s
@[simp] theorem answerAll_secs (core : Nat) (v : Word) (err : Bool) (s : State) : (answerAll core v err s).secs = s.secs := by
  unfold answerAll; induction s.lanesIn generalizing s with
  | nil => rfl
  | cons l ls ih => rw [List.foldl_cons, ih]; rfl
@[simp] theorem fresh_tlm (s : State) : (fresh s).2.tlm = s.tlm := rfl
@[simp] theorem when_tlm (c : Bool) (f : State → State) (s : State) : (when c f s).tlm = if c then (f s).tlm else s.tlm := by
  unfold when; split <;> rfl
@[simp] theorem advanceTo_tlm (t : Nat) (s : State) : (advanceTo t s).tlm = s.tlm := by
  unfold advanceTo; split <;> rfl
@[simp] theorem requestRec_tlm (q : RecReq) (s : State) : (requestRec q s).tlm = s.tlm := by
  unfold requestRec; repeat' split
  all_goals rfl
@[simp] theorem record_tlm (type : Nat) (items : List Item) (s : State) : (record type items s).tlm = s.tlm := by
  unfold record; split <;> exact requestRec_tlm _ _
@[simp] theorem recordWith_tlm (type profile : Nat) (items : List Item) (s : State) : (recordWith type profile items s).tlm = s.tlm := requestRec_tlm _ s
@[simp] theorem answerAll_tlm (core : Nat) (v : Word) (err : Bool) (s : State) : (answerAll core v err s).tlm = s.tlm := by
  unfold answerAll; induction s.lanesIn generalizing s with
  | nil => rfl
  | cons l ls ih => rw [List.foldl_cons, ih]; rfl

end Sys2Proof.Machine
end

