-- ==== Sys2Proof/Laws/Ops.lean ====
section
/-! SUPPORT. What the shared operations do: the register file, memory and its canonical form, interrupt sources, records. -/
namespace Sys2Proof.Machine

/-! ### Sparse lists -/

theorem look_put_self {α : Type} (l : List (Nat × α)) (k : Nat) (v : α) : look (put l k v) k = some v := by
  induction l with
  | nil => simp [put, look]
  | cons x xs ih =>
    obtain ⟨a, y⟩ := x
    simp only [put]
    split
    · simp [look]
    · split
      · simp [look]
      · rename_i h1 h2; simp [look, h2, ih]

theorem look_put_ne {α : Type} (l : List (Nat × α)) (k k' : Nat) (v : α) (h : k' ≠ k) : look (put l k v) k' = look l k' := by
  have h' : ¬ k = k' := fun e => h e.symm
  induction l with
  | nil => simp [put, look, h']
  | cons x xs ih =>
    obtain ⟨a, y⟩ := x
    simp only [put]
    split
    · simp [look, h']
    · split
      · rename_i h1 h2; subst h2; simp [look, h']
      · simp [look, ih]

theorem look_del_ne {α : Type} (l : List (Nat × α)) (k k' : Nat) (h : k' ≠ k) : look (del l k) k' = look l k' := by
  induction l with
  | nil => rfl
  | cons x xs ih =>
    obtain ⟨a, y⟩ := x
    simp only [del]
    split
    · rename_i h1; subst h1; have h' : ¬ a = k' := fun e => h e.symm; simp [look, h']
    · simp [look, ih]

theorem look_none_of_canonFrom {α : Type} [DecidableEq α] (d : Nat → α) (l : List (Nat × α)) (lo k : Nat) (h : canonFrom d lo l = true)
    (hk : k < lo) : look l k = none := by
  induction l generalizing lo with
  | nil => rfl
  | cons x xs ih =>
    obtain ⟨a, y⟩ := x
    simp only [canonFrom, Bool.and_eq_true, decide_eq_true_eq] at h
    have : a ≠ k := by omega
    simp [look, this, ih (a + 1) h.2 (by omega)]

theorem look_del_self {α : Type} [DecidableEq α] (d : Nat → α) (l : List (Nat × α)) (lo k : Nat) (h : canonFrom d lo l = true) :
    look (del l k) k = none := by
  induction l generalizing lo with
  | nil => rfl
  | cons x xs ih =>
    obtain ⟨a, y⟩ := x
    simp only [canonFrom, Bool.and_eq_true, decide_eq_true_eq] at h
    simp only [del]
    split
    · rename_i e; exact look_none_of_canonFrom d xs (a + 1) k h.2 (by omega)
    · rename_i e; simp [look, e, ih (a + 1) h.2]

theorem canonFrom_mono {α : Type} [DecidableEq α] (d : Nat → α) (l : List (Nat × α)) (lo lo' : Nat) (h : canonFrom d lo l = true)
    (hl : lo' ≤ lo) : canonFrom d lo' l = true := by
  cases l with
  | nil => rfl
  | cons x xs =>
    obtain ⟨a, y⟩ := x
    simp only [canonFrom, Bool.and_eq_true, decide_eq_true_eq] at h ⊢
    exact ⟨⟨by omega, h.1.2⟩, h.2⟩

theorem canonFrom_put {α : Type} [DecidableEq α] (d : Nat → α) (l : List (Nat × α)) (lo k : Nat) (v : α) (h : canonFrom d lo l = true)
    (hk : lo ≤ k) (hv : v ≠ d k) : canonFrom d lo (put l k v) = true := by
  induction l generalizing lo with
  | nil => simp [put, canonFrom, hk, hv]
  | cons x xs ih =>
    obtain ⟨a, y⟩ := x
    simp only [canonFrom, Bool.and_eq_true, decide_eq_true_eq] at h
    simp only [put]
    split
    · rename_i e
      simp only [canonFrom, Bool.and_eq_true, decide_eq_true_eq]
      exact ⟨⟨hk, by simp [hv]⟩, ⟨by omega, h.1.2⟩, h.2⟩
    · split
      · rename_i e1 e; subst e
        simp only [canonFrom, Bool.and_eq_true, decide_eq_true_eq]
        exact ⟨⟨hk, by simp [hv]⟩, h.2⟩
      · simp only [canonFrom, Bool.and_eq_true, decide_eq_true_eq]
        exact ⟨h.1, ih (a + 1) h.2 (by omega)⟩

theorem canonFrom_del {α : Type} [DecidableEq α] (d : Nat → α) (l : List (Nat × α)) (lo k : Nat) (h : canonFrom d lo l = true) :
    canonFrom d lo (del l k) = true := by
  induction l generalizing lo with
  | nil => rfl
  | cons x xs ih =>
    obtain ⟨a, y⟩ := x
    simp only [canonFrom, Bool.and_eq_true, decide_eq_true_eq] at h
    simp only [del]
    split
    · exact canonFrom_mono d xs (a + 1) lo h.2 (by omega)
    · simp only [canonFrom, Bool.and_eq_true, decide_eq_true_eq]
      exact ⟨h.1, ih (a + 1) h.2⟩

/-- A write keeps the canonical form. -/
theorem canon_putC {α : Type} [DecidableEq α] (d : Nat → α) (l : List (Nat × α)) (k : Nat) (v : α) (h : canon d l = true) :
    canon d (putC l k (d k) v) = true := by
  unfold putC
  split
  · exact canonFrom_del d l 0 k h
  · rename_i e; exact canonFrom_put d l 0 k v h (by omega) e

theorem look_putC_ne {α : Type} [DecidableEq α] (l : List (Nat × α)) (k k' : Nat) (d v : α) (h : k' ≠ k) :
    look (putC l k d v) k' = look l k' := by
  unfold putC
  split
  · exact look_del_ne l k k' h
  · exact look_put_ne l k k' v h

theorem look_putC_self {α : Type} [DecidableEq α] (d : Nat → α) (l : List (Nat × α)) (k : Nat) (v : α) (h : canon d l = true) :
    (look (putC l k (d k) v) k).getD (d k) = v := by
  unfold putC
  split
  · rename_i e; rw [look_del_self d l 0 k h, e]; rfl
  · rw [look_put_self]; rfl

/-- Filtering keeps the canonical form. -/
theorem canonFrom_filter {α : Type} [DecidableEq α] (d : Nat → α) (p : Nat × α → Bool) (l : List (Nat × α)) (lo : Nat)
    (h : canonFrom d lo l = true) : canonFrom d lo (l.filter p) = true := by
  induction l generalizing lo with
  | nil => rfl
  | cons x xs ih =>
    obtain ⟨a, y⟩ := x
    simp only [canonFrom, Bool.and_eq_true, decide_eq_true_eq] at h
    have hx := ih (a + 1) h.2
    rw [List.filter_cons]
    split
    · simp only [canonFrom, Bool.and_eq_true, decide_eq_true_eq]; exact ⟨h.1, hx⟩
    · exact canonFrom_mono d _ (a + 1) lo hx (by omega)

/-! ### Registers -/

/-- A register written reads its value without the reserved bits. -/
theorem reg_setReg_self (k : Nat) (v : Word) (s : State) (h : RegsWf s) : (setReg k v s).reg k = v &&& regMask k :=
  look_putC_self regReset s.regs k _ h

/-- A register write leaves every other register. -/
theorem reg_setReg_ne (k k' : Nat) (v : Word) (s : State) (h : k' ≠ k) : (setReg k v s).reg k' = s.reg k' := by
  unfold State.reg setReg
  rw [look_putC_ne _ _ _ _ _ h]

theorem regsWf_setReg (k : Nat) (v : Word) (s : State) (h : RegsWf s) : RegsWf (setReg k v s) := canon_putC regReset s.regs k _ h

theorem reg_bump_ne (k k' : Nat) (s : State) (h : k' ≠ k) : (bump k s).reg k' = s.reg k' := reg_setReg_ne k k' _ s h

theorem reg_bump_self (k : Nat) (s : State) (h : RegsWf s) : (bump k s).reg k = (s.reg k + 1) &&& regMask k :=
  reg_setReg_self k _ s h

theorem regsWf_bump (k : Nat) (s : State) (h : RegsWf s) : RegsWf (bump k s) := regsWf_setReg k _ s h

/-- Equal register lists read alike. -/
theorem reg_congr (s t : State) (k : Nat) (h : t.regs = s.regs) : t.reg k = s.reg k := by
  unfold State.reg; rw [h]

/-! ### Memory -/

theorem rdByte_wrByte_self (m : List (Nat × Byte)) (a : Nat) (b : Byte) (h : memWf m = true) : rdByte (wrByte m a b) a = b :=
  look_putC_self (fun _ => (0 : Byte)) m a b h

theorem rdByte_wrByte_ne (m : List (Nat × Byte)) (a a' : Nat) (b : Byte) (h : a' ≠ a) : rdByte (wrByte m a b) a' = rdByte m a' := by
  unfold rdByte wrByte
  rw [look_putC_ne _ _ _ _ _ h]

/-- Every memory operation keeps the canonical form. -/
theorem memWf_wrByte (m : List (Nat × Byte)) (a : Nat) (b : Byte) (h : memWf m = true) : memWf (wrByte m a b) = true :=
  canon_putC (fun _ => (0 : Byte)) m a b h

theorem memWf_wrBytes (m : List (Nat × Byte)) (a : Nat) (bs : List Byte) (h : memWf m = true) : memWf (wrBytes m a bs) = true := by
  induction bs generalizing m a with
  | nil => exact h
  | cons b rest ih => exact ih _ _ (memWf_wrByte m a b h)

theorem memWf_filter (m : List (Nat × Byte)) (p : Nat × Byte → Bool) (h : memWf m = true) : memWf (m.filter p) = true :=
  canonFrom_filter _ p m 0 h

/-- Bytes outside a run of bytes written are as before. -/
theorem rdByte_wrBytes_out (m : List (Nat × Byte)) (a a' : Nat) (bs : List Byte) (h : a' < a ∨ a + bs.length ≤ a') :
    rdByte (wrBytes m a bs) a' = rdByte m a' := by
  induction bs generalizing m a with
  | nil => rfl
  | cons b rest ih =>
    simp only [List.length_cons] at h
    show rdByte (wrBytes (wrByte m a b) (a + 1) rest) a' = _
    rw [ih _ _ (by omega), rdByte_wrByte_ne _ _ _ _ (by omega)]

/-! ### Interrupt sources -/

theorem mem_insNat (l : List Nat) (n : Nat) : n ∈ insNat l n := by
  induction l with
  | nil => simp [insNat]
  | cons x xs ih =>
    simp only [insNat]
    split
    · simp
    · split
      · rename_i h; simp [h]
      · simp [ih]

theorem mem_insNat_of_mem (l : List Nat) (n m : Nat) (h : m ∈ l) : m ∈ insNat l n := by
  induction l with
  | nil => cases h
  | cons x xs ih =>
    simp only [insNat]
    split
    · exact List.mem_cons_of_mem _ h
    · split
      · exact h
      · rcases List.mem_cons.1 h with e | e
        · exact e ▸ List.mem_cons_self
        · exact List.mem_cons_of_mem _ (ih e)

theorem route1_pend (cfg : Word) (id : Nat) (u : Icu) : (u.route1 cfg id).pend = u.pend := by
  unfold Icu.route1
  split
  · split <;> rfl
  · rfl

theorem route_pend (cfg : Nat → Word) (u : Icu) : (u.route cfg).pend = u.pend := by
  unfold Icu.route
  generalize sortBy (routeBefore cfg) u.pend = l
  induction l generalizing u with
  | nil => rfl
  | cons x xs ih => rw [List.foldl_cons, ih, route1_pend]

/-- An assigned source asserted is pending. -/
theorem mem_pend_assert (cfg : Nat → Word) (id : Nat) (u : Icu) (h : irqAssigned id = true) : id ∈ (u.assert cfg id).pend := by
  unfold Icu.assert
  rw [if_pos h, route_pend]
  exact mem_insNat _ _

theorem mem_pend_assert_of_mem (cfg : Nat → Word) (id m : Nat) (u : Icu) (h : m ∈ u.pend) : m ∈ (u.assert cfg id).pend := by
  unfold Icu.assert
  split
  · rw [route_pend]; exact mem_insNat_of_mem _ _ _ h
  · exact h

theorem get_map {α β : Type} (f : Lane → α → β) (t : Tri α) (l : Lane) : (t.map f).get l = f l (t.get l) := by cases l <;> rfl

theorem get_set_self {α : Type} (t : Tri α) (l : Lane) (x : α) : (t.set l x).get l = x := by cases l <;> rfl

theorem get_set_ne {α : Type} (t : Tri α) (l l' : Lane) (x : α) (h : l' ≠ l) : (t.set l x).get l' = t.get l' := by
  cases l <;> cases l' <;> first | rfl | exact absurd rfl h

theorem get_modify_self {α : Type} (t : Tri α) (l : Lane) (f : α → α) : (t.modify l f).get l = f (t.get l) := get_set_self _ _ _

theorem get_modify_ne {α : Type} (t : Tri α) (l l' : Lane) (f : α → α) (h : l' ≠ l) : (t.modify l f).get l' = t.get l' :=
  get_set_ne _ _ _ _ h

/-- An event of a shared block is pending at every lane in vote. -/
theorem raiseIrq_raises (id : Nat) (s : State) (h : irqAssigned id = true) (l : Lane) (hl : s.inVote l = true) :
    id ∈ ((raiseIrq id s).icus.get l).pend := by
  simp only [raiseIrq, get_map, hl, if_true]
  exact mem_pend_assert _ _ _ h

/-- Raising a source withdraws none. -/
theorem raiseIrq_keeps (id m : Nat) (s : State) (l : Lane) (h : m ∈ (s.icus.get l).pend) : m ∈ ((raiseIrq id s).icus.get l).pend := by
  simp only [raiseIrq, get_map]
  split
  · exact mem_pend_assert_of_mem _ _ _ _ h
  · exact h

theorem requestRec_keeps (q : RecReq) (m : Nat) (s : State) (l : Lane) (h : m ∈ (s.icus.get l).pend) :
    m ∈ ((requestRec q s).icus.get l).pend := by
  unfold requestRec
  split
  · split
    · exact h
    · dsimp only
      split
      · exact h
      · exact raiseIrq_keeps _ _ _ _ h
  · split <;> exact h

theorem record_keeps (type : Nat) (items : List Item) (m : Nat) (s : State) (l : Lane) (h : m ∈ (s.icus.get l).pend) :
    m ∈ ((record type items s).icus.get l).pend := by
  unfold record
  split <;> exact requestRec_keeps _ _ _ _ h

theorem raised_raiseIrq (id : Nat) (s : State) (h : irqAssigned id = true) : Raised id (raiseIrq id s) :=
  fun l hl => raiseIrq_raises id s h l (by rwa [State.inVote, raiseIrq_vot] at hl)

theorem raised_raiseIrq_of (id m : Nat) (s : State) (h : Raised m s) : Raised m (raiseIrq id s) :=
  fun l hl => raiseIrq_keeps id m s l (h l (by rwa [State.inVote, raiseIrq_vot] at hl))

theorem raised_record_of (type : Nat) (items : List Item) (m : Nat) (s : State) (h : Raised m s) : Raised m (record type items s) :=
  fun l hl => record_keeps type items m s l (h l (by rwa [State.inVote, record_vot] at hl))

/-- What a source pending depends on. -/
theorem raised_congr (m : Nat) (s t : State) (hi : t.icus = s.icus) (hv : t.vot = s.vot) (h : Raised m s) : Raised m t := by
  intro l hl
  rw [hi]; exact h l (by rwa [State.inVote, hv] at hl)

/-! ### Records -/

theorem requestRec_queue (q : RecReq) (s : State) (h : s.recUp = true) (hq : s.erec.queue.length < 64) :
    (requestRec q s).erec.queue = s.erec.queue ++ [q] := by
  unfold requestRec; rw [if_pos h, if_pos hq]

theorem requestRec_events (q : RecReq) (s : State) (h : s.recUp = false) (hq : s.isl.events.length < 16) :
    (requestRec q s).isl.events = s.isl.events ++ [{ q with snap := [], profile := 0 }] := by
  unfold requestRec; rw [if_neg (by simp [h]), if_pos hq]

/-- A record is requested with its type, items and time. -/
theorem recorded_record (type : Nat) (items : List Item) (s : State) : Recorded type items s (record type items s) := by
  unfold record
  constructor
  · intro h hq
    split
    · exact ⟨_, requestRec_queue _ s h hq, rfl, rfl, rfl, rfl⟩
    · exact ⟨_, requestRec_queue _ s h hq, rfl, rfl, rfl, rfl⟩
  · intro h hq
    split
    · exact ⟨_, requestRec_events _ s h hq, rfl, rfl, rfl, rfl⟩
    · exact ⟨_, requestRec_events _ s h hq, rfl, rfl, rfl, rfl⟩

/-- What a record request depends on: the queue, the events, time and the mode. -/
theorem recorded_congr (type : Nat) (items : List Item) (s s' t t' : State) (h : Recorded type items s' t') (hr : s'.recUp = s.recUp)
    (he : s'.erec = s.erec) (hi : s'.isl.events = s.isl.events) (ht : s'.time = s.time) (hn : s'.nv = s.nv)
    (hte : t.erec = t'.erec) (hti : t.isl.events = t'.isl.events) : Recorded type items s t := by
  unfold Recorded at h ⊢
  rw [hr, he, hi, ht, hn] at h
  rw [hte, hti]
  exact h

/-! ### Frames -/

theorem onlyIn_refl (may : List Part) (s : State) : OnlyIn may s s := ⟨rfl, fun p _ => by cases p <;> rfl⟩

theorem part_same_trans (p : Part) (s t u : State) (h1 : p.same s t) (h2 : p.same t u) : p.same s u := by
  cases p <;> exact Eq.trans h2 h1

theorem onlyIn_trans {may : List Part} {s t u : State} (h1 : OnlyIn may s t) (h2 : OnlyIn may t u) : OnlyIn may s u :=
  ⟨h2.1.trans h1.1, fun p hp => part_same_trans p s t u (h1.2 p hp) (h2.2 p hp)⟩

theorem onlyIn_mono {may may' : List Part} {s t : State} (h : OnlyIn may s t) (hs : ∀ p ∈ may, p ∈ may') : OnlyIn may' s t :=
  ⟨h.1, fun p hp => h.2 p fun hm => hp (hs p hm)⟩

theorem onlyIn_record (type : Nat) (items : List Item) (s : State) : OnlyIn recParts s (record type items s) :=
  ⟨record_pending type items s, fun p hp => by cases p <;> first | exact absurd (by decide) hp | simp only [Part.same, record_now, record_free,
    record_shadows, record_latches, record_loWrites, record_out, record_sys, record_nv, record_time, record_vot, record_mems, record_odo,
    record_sup, record_pst, record_dio, record_ftn, record_cyc, record_chk, record_brg, record_dmas, record_ksp, record_upd, record_secs,
    record_tlm]⟩

theorem onlyIn_raiseIrq (id : Nat) (s : State) : OnlyIn [.icus] s (raiseIrq id s) :=
  ⟨rfl, fun p hp => by cases p <;> first | exact absurd (by decide) hp | rfl⟩

theorem onlyIn_setReg (k : Nat) (v : Word) (s : State) : OnlyIn [.regs] s (setReg k v s) :=
  ⟨rfl, fun p hp => by cases p <;> first | exact absurd (by decide) hp | rfl⟩

theorem onlyIn_bump (k : Nat) (s : State) : OnlyIn [.regs] s (bump k s) := onlyIn_setReg k _ s

theorem onlyIn_when {may : List Part} {s : State} (c : Bool) (f : State → State) (h : OnlyIn may s (f s)) : OnlyIn may s (when c f s) := by
  unfold when; split
  · exact h
  · exact onlyIn_refl may s

end Sys2Proof.Machine
end

