-- ==== Sys2Proof/WellFormed.lean ====
section
/-! DEFINITION. Which commands are well formed: every operand lies in the range its unit, channel, port, register or field has. The
widths of wire fields are those of Tables 7.4, 11.4, 14.1 and 15.4; list lengths and measured values have no bound of their own. -/
namespace Sys2Proof

/-- The header fields fit their widths (Table 7.4). -/
def Frame.wf (f : Frame) : Bool :=
  decide (f.hop < 128) && decide (f.version < 16) && decide (f.kind < 16) && decide (f.source < 65536) && decide (f.dest < 65536) &&
  decide (f.slot < 65536) && decide (f.cycle < 65536) && decide (f.seq < 65536) && decide (f.objIndex < 65536) && decide (f.plen < 65536)

/-- Destination, object and payload of a DATA frame (Table 7.4, R210). -/
def ArbData.wf (d : ArbData) : Bool :=
  (decide (d.dest < 16384) || d.dest == 65535) && decide (d.objIndex < 65536) && decide (d.payload.length ≤ 1472)

/-- The header fields fit their widths (Table 14.1). -/
def Packet.wf (p : Packet) : Bool :=
  decide (p.type < 256) && decide (p.code < 256) && decide (p.tag < 65536) && decide (p.seq < 65536) && decide (p.length < 65536)

/-- The length field fits its width (Table 11.4). -/
def CkRec.wf (r : CkRec) : Bool := decide (r.length < 4294967296)

/-- The length field fits its width (Table 15.4). -/
def KspMsg.wf (m : KspMsg) : Bool := decide (m.length < 65536)

/-- Where an error is found, and by whom (Table 13.7): a DRAM address or a scratchpad offset, a SOURCE the table names, port B only at the
scratchpad, and a core of the lane. -/
def errorSite (dram : Bool) (addr : Nat) (info : BitVec 32) : Bool :=
  let source := info.toNat / 2 % 8
  decide (addr < if dram then 0x200000000 else 0x400000) && decide (source < if dram then 3 else 4) &&
  (source != 0 || decide (info.toNat / 4096 % 16 < 6))

/-- A core's write to the scratchpad that meets one of port B (R427): bank 0, within one 64-bit word. -/
def portAWrite (x : Lane × Nat × List (BitVec 8)) : Bool :=
  let n := x.2.2.length
  decide (1 ≤ n) && decide (x.2.1 % 8 + n ≤ 8) && decide (x.2.1 + n ≤ 262144)

/-- A well-formed command. -/
def Instr.wf : Instr → Bool
  | .misalignedAccess _ core off _ => decide (core < 6) && decide (off < 1179648)
  | .unmappedAccess _ core off _ => decide (core < 6) && decide (off < 1179648)
  | .readLoLatch _ core off => decide (core < 6) && decide (off < 1179648)
  | .writeHiCommit _ core off _ => decide (core < 6) && decide (off < 1179648)
  | .shadowedWrite _ off _ => decide (off < 1179648)
  | .registerWrite _ core off _ => decide (core < 6) && decide (off < 1179648)
  | .hubPortRetryExhausted _ stream _ attempts => decide (stream < 64) && decide (attempts.length = 4)
  | .clockFault part => decide (part < 7)
  | .sliceCounterFault slice => decide (slice < 3)
  | .domainProtectionOpen part => decide (part < 7)
  | .supervisorHeartbeatLoss => true
  | .netEngineFault .. => true
  | .guardianFault => true
  | .dspFault => true
  | .dspRestart => true
  | .supplyDip .. => true
  | .powerValid ga => decide (ga < 64)
  | .powerFail => true
  | .wake source => decide (source < 28)
  | .rtcAlarm => true
  | .bootComplete .. => true
  | .verifyComplete .. => true
  | .startWatchdog => true
  | .autoRestart => true
  | .requestDormant .. => true
  | .requestOperational .. => true
  | .requestSafeHold .. => true
  | .moduleResetRequest .. => true
  | .overvoltageSupply => true
  | .holdupTest .. => true
  | .dormantReached => true
  | .votedWrite _ stream _ addr _ _ => decide (stream < 64) && decide (addr < 1099511627776)
  | .votedRead _ stream _ addr _ => decide (stream < 64) && decide (addr < 1099511627776)
  | .lateAccess _ stream _ addr _ _ _ => decide (stream < 64) && decide (addr < 1099511627776)
  | .lateLimitExpiry stream _ => decide (stream ≤ 66)
  | .votFenceRead _ stream => decide (stream < 64)
  | .pathMask _ chan => decide (chan < 50)
  | .outputHandover .. => true
  | .digestWrite _ ws _ _ => ws.all fun w => decide (w.1 + w.2.length ≤ 33554432)
  | .digestPeerExchange .. => true
  | .rejoinRequest .. => true
  | .rejoinHoldEnd .. => true
  | .rejoinBootDone .. => true
  | .rejoinSelftestDone .. => true
  | .precopyPassEnd .. => true
  | .stopcopyEnd .. => true
  | .rejoinPhaseTimeout .. => true
  | .servoOffsetInput base _ => decide (base < 4)
  | .tbStepWrite core base _ => decide (core < 6) && decide (base < 4)
  | .tbRateWrite core base _ => decide (core < 6) && decide (base < 4)
  | .tbOffsetInWrite base _ => decide (base < 4)
  | .servoHoldEnter base => decide (base < 4)
  | .servoHoldLimit base => decide (base < 4)
  | .tbTrimWrite .. => true
  | .ptpMessage port m _ => decide (20 ≤ port) && decide (port < 22) && decide (m.transport < 2) && decide (m.domain < 256) && decide (m.seq < 65536)
  | .laneAlignFault .. => true
  | .calRequest .. => true
  | .calibrationEnd port => decide (port < 22)
  | .calDev port _ => decide (port < 20)
  | .calProbe port no _ _ => decide (port < 20) && decide (no < 64)
  | .calReply port no _ _ _ _ => decide (port < 20) && decide (no < 64)
  | .calLoopReq port => decide (port < 20)
  | .calNoLoop port => decide (port < 20)
  | .estimatorUpdate .. => true
  | .sensorStateTimer sensor => decide (sensor < 4)
  | .standstillEntry => true
  | .bridgeLimitExpiry => true
  | .fixSubmit .. => true
  | .fixProcess => true
  | .remoteRecord node _ => decide (node < 16384)
  | .remoteStale => true
  | .odoPosRead _ core => decide (core < 6)
  | .supRangeFault chan => decide (chan < 4)
  | .supRangeReturn chan => decide (chan < 4)
  | .adcCalRotation _ => true
  | .supLockChange lock => decide (lock < 5)
  | .supHoldExpiry => true
  | .disturbanceStart cls chan => decide (1 ≤ cls) && decide (cls ≤ 6) && decide (chan < 4)
  | .disturbanceEnd cls chan => decide (1 ≤ cls) && decide (cls ≤ 6) && decide (chan < 4)
  | .supDistHeadRead core => decide (core < 6)
  | .pisteMatch entry _ => decide (entry < 1024)
  | .pulseEnd entry => decide (entry < 1024)
  | .guardWaitFire entry => decide (entry < 1024)
  | .waitLimitExpiry entry => decide (entry < 1024)
  | .arm .. => true
  | .disarm .. => true
  | .armMask .. => true
  | .disarmMask .. => true
  | .disarmAll .. => true
  | .entryWordWrite entry word _ => decide (entry < 1024) && decide (word < 8)
  | .pstFireHeadRead core => decide (core < 6)
  | .pisteStoreScrub entry => decide (entry < 1024)
  | .basicCycleStart => true
  | .frameBuild entry _ _ => decide (entry < 16384)
  | .frameReceive port f _ => decide (port < 4) && f.wf
  | .starFrameReceive port f _ => decide (port < 16) && f.wf
  | .arbOccurrence entry own => decide (entry < 16384) && own.all ArbData.wf
  | .arbAgeExpiry => true
  | .nitStart => true
  | .cyclePoint c => decide (c < 32)
  | .matrixCommit .. => true
  | .matrixDiscard .. => true
  | .slotW4Write .. => true
  | .txbPrepare => true
  | .txbCancel => true
  | .txbWrite off _ => decide (off < 1179648)
  | .rxbSnapshot .. => true
  | .runSet => true
  | .runClear => true
  | .leavingEnd => true
  | .listenTimeout => true
  | .backoffEnd => true
  | .coldAbort => true
  | .linkCheckSend => true
  | .linkCheckReceive port f _ => decide (port < 20) && f.wf
  | .guardViolation port kind => decide (port < 16) && decide (1 ≤ kind) && decide (kind ≤ 7)
  | .guardPortEnable .. => true
  | .linkBroken port cause => decide (port < 4) && decide (1 ≤ cause) && decide (cause ≤ 3)
  | .healReady port chan => decide (port < 4) && decide (chan < 2)
  | .healRestoreAt port chan cc => decide (port < 4) && decide (chan < 2) && decide (cc < 1024)
  | .healAck port chan cc => decide (port < 4) && decide (chan < 2) && decide (cc < 1024)
  | .ringHold .. => true
  | .ringRelease .. => true
  | .cycleBoundary meets => meets.all portAWrite
  | .cycleEndWrite .. => true
  | .setSendComplete => true
  | .ocStage .. => true
  | .ocCommit .. => true
  | .ocDiscard .. => true
  | .forceStage .. => true
  | .forceCommit .. => true
  | .forceDiscard .. => true
  | .diFilterChange chan code => decide (chan < 32) && decide (code < 4)
  | .diSupplyFault group _ => decide (group < 4)
  | .diSupplyReturn group _ => decide (group < 4)
  | .inputTestPulse group => decide (group < 4)
  | .inputTestEnd group => decide (group < 4)
  | .outCmdWrite .. => true
  | .logicSilence chan => decide (chan < 16)
  | .doSupplyLow group mv => (group == 4 || group == 5) && decide (mv < 65536)
  | .doSupplyUnder group mv => (group == 4 || group == 5) && decide (mv < 65536)
  | .doSupplyOver group mv => (group == 4 || group == 5) && decide (mv < 65536)
  | .doSupplyReady group mv => (group == 4 || group == 5) && decide (mv < 65536)
  | .groupOverload group => (group == 4 || group == 5)
  | .channelOvercurrent chan => decide (chan < 16)
  | .channelOvertemp chan => decide (chan < 16)
  | .openLoad chan => decide (chan < 16)
  | .stuckOff chan => decide (chan < 16)
  | .shortSupplyDetect chan partner _ => decide (chan < 16) && (partner.all fun p => decide (p < 16))
  | .darkTestSlot chan => decide (chan < 16)
  | .darkTestEnd chan _ => decide (chan < 16)
  | .tripAutoReset rule => decide (rule < 8)
  | .clearFault chan _ => decide (chan < 16)
  | .groupReenable group => (group == 4 || group == 5)
  | .tripReset rule => decide (rule < 8)
  | .groupOpen .. => true
  | .groupRelease .. => true
  | .tripRegWrite off _ => decide (off < 1179648)
  | .sensorSupplyShort group => decide (group < 4)
  | .sensorSupplyRestart group => decide (group < 4)
  | .roleRecord r => r.wf
  | .roleTimeout => true
  | .gaWatchEnd => true
  | .setStart r => r.wf
  | .checkpointPage r => r.wf
  | .setCommit r => r.wf
  | .keepalive r => r.wf
  | .pauseRecord r => r.wf
  | .park r => r.wf
  | .handoverRecord r => r.wf
  | .partnerFailAsserted => true
  | .streamTimeout => true
  | .announceSend => true
  | .claimAnnounce source _ _ => decide (source < 16384)
  | .claimReject dest _ _ => decide (dest < 16384)
  | .partnerClaimEdge => true
  | .chkResync .. => true
  | .chkHandover .. => true
  | .cmpReport .. => true
  | .partnerPresentChange .. => true
  | .sourceAssert _ id => decide (1 ≤ id) && decide (id < 512)
  | .signalWithdraw _ core _ _ => decide (core < 6)
  | .handlerEntry _ core _ => decide (core < 6)
  | .claimNormal _ core => decide (core < 6)
  | .claimFast _ core => decide (core < 6)
  | .icuComplete _ core _ => decide (core < 6)
  | .handlerExit _ core _ => decide (core < 6)
  | .swiSet _ core _ => decide (core < 6)
  | .pendClear _ w _ => decide (w < 16)
  | .waitWake _ id => decide (1 ≤ id) && decide (id < 512)
  | .extintEdge k _ _ => decide (k < 16)
  | .extintDormantEdge k _ => decide (k < 16)
  | .eccCorrected _ dram addr info => errorSite dram addr info
  | .eccUncorrectable _ dram addr info => errorSite dram addr info
  | .aliasSet _ core addr width _ => decide (core < 6) && decide (addr < 1099511627776) && [1, 2, 4, 8].contains width
  | .aliasClear _ core addr width _ => decide (core < 6) && decide (addr < 1099511627776) && [1, 2, 4, 8].contains width
  | .secureAccess _ core addr => decide (core < 6) && decide (addr < 1099511627776)
  | .mapError _ core addr _ => decide (core < 6) && decide (addr < 1099511627776)
  | .mramWindowWrite _ core addr _ => decide (core < 6) && decide (addr < 1099511627776)
  | .tamper .. => true
  | .lanePowerRestore .. => true
  | .bridgeWrite stream _ addr _ _ => decide (stream < 64) && decide (addr < 1099511627776)
  | .npWrite stream _ addr _ => decide (stream < 64) && decide (addr < 1099511627776)
  | .wrAck link p => decide (link < 2) && p.wf
  | .wrError link p => decide (link < 2) && p.wf
  | .ackTimeout link tag => decide (link < 2) && decide (tag < 4096)
  | .linkAck link p => decide (link < 2) && p.wf
  | .linkResend link seq => decide (link < 2) && decide (seq < 65536)
  | .brgFenceRead stream => decide (stream < 64)
  | .bridgeRead stream addr len => decide (stream < 64) && decide (addr < 1099511627776) && decide (len ≤ 4096)
  | .retry link p => decide (link < 2) && p.wf
  | .rdReqRepeat link tag => decide (link < 2) && decide (tag < 4096)
  | .rdData link p _ => decide (link < 2) && p.wf
  | .unsupported link p => decide (link < 2) && p.wf
  | .inboundRdReq link p => decide (link < 2) && p.wf
  | .fetchComplete link addr _ => decide (link < 2) && decide (addr < 1099511627776)
  | .fetchHoldExpiry link addr _ => decide (link < 2) && decide (addr < 1099511627776)
  | .inboundWrite link p => decide (link < 2) && p.wf
  | .linkStateChange link state _ => decide (link < 2) && decide (state < 4)
  | .streamEntry => true
  | .brgFailHeadRead core => decide (core < 6)
  | .dmaCmdStart chan _ => decide (chan < 16)
  | .dmaCmdAbort chan _ => decide (chan < 16)
  | .dmaDescriptorDone chan error moved _ => decide (chan < 16) && (error == 0 || error == 5) && decide (moved < 4294967296)
  | .kspOpen _ _ m => m.wf
  | .kspAuth _ _ m => m.wf
  | .kspClose _ _ m => m.wf
  | .kspRead _ _ m => m.wf
  | .kspWrite _ _ m _ => m.wf
  | .restoreDefaults _ _ m _ => m.wf
  | .kspReadSeg _ _ m => m.wf
  | .kspWriteSeg _ _ m _ => m.wf
  | .kspAbort _ _ m => m.wf
  | .kspInfo _ _ m => m.wf
  | .kspBadCode _ _ m => m.wf
  | .sessionIdleTimeout session => decide (session < 65536)
  | .authTimeout session => decide (session < 65536)
  | .readSnapshotTimeout session => decide (session < 65536)
  | .segWriteTimeout session => decide (session < 65536)
  | .lockoutEnd .. => true
  | .pendingTimeout session => decide (session < 65536)
  | .arpRequest port _ _ => decide (port < 2)
  | .icmpEcho port _ _ _ => decide (port < 2)
  | .recordRequest ty items =>
    decide (ty < 65536) && decide (items.foldl (fun n i => n + 3 + i.2.2.length) 0 ≤ 108) &&
      items.all fun i => decide (1 ≤ i.1) && decide (i.1 < 256) && decide (i.2.1 < 256)
  | .recordAccept => true
  | .pageCommit .. => true
  | .recReady .. => true
  | .appRecord .. => true
  | .clearCirculating role _ => decide (role < 8)
  | .clearKept role _ => decide (role < 8)
  | .clearComplete => true
  | .recordLoad _ found => found.isEmpty || (decide (36 ≤ found.length) && decide (found.length ≤ 256) && found.length % 4 == 0)
  | .exportStart .. => true
  | .exportAbort .. => true
  | .exportEnd .. => true
  | .updateBegin .. => true
  | .eraseComplete ty => decide (1 ≤ ty) && decide (ty ≤ 4)
  | .blockSubmit .. => true
  | .updateVerify .. => true
  | .updateAbort .. => true
  | .norFailure slot => decide (slot < 8)
  | .updateActivate .. => true
  | .activatePause => true
  | .warmRestartComplete .. => true
  | .provision role => decide (role < 8)
  | .release role => decide (role < 8)
  | .returnToMaker role => decide (role < 8)
  | .scrap role => decide (role < 8)
  | .openBoundaryScan role => decide (role < 8)
  | .openDebug role => decide (role < 8)
  | .tapInstruction .. => true
  | .attestationNonce .. => true
  | .attestationReport .. => true
  | .secSha512 .. => true
  | .secVerifyPss .. => true
  | .secSignApp .. => true
  | .updRngRead _ core => decide (core < 6)
  | .norRefresh slot _ _ => decide (slot < 8)
  | .dramScrub _ _ percent => decide (percent ≤ 100)
  | .spmScrub .. => true
  | .mramReadVerify .. => true
  | .nandRefresh .. => true
  | .linkMarginCheck port _ => decide (port < 22)
  | .bgLate activity => decide (activity < 10)
  | .telemetrySnapshot temps vin power => temps.length == 6 && decide (vin < 65536) && decide (power < 65536)
  | .tempExcursionBegin .. => true
  | .tempExcursionEnd .. => true
  | .tempExcursionLimit => true
  | .thermalShutdown .. => true
  | .sampleStrobe kind _ => decide (kind < 3)
  | .supTrackerUpdate .. => true
  | .phyLinkUp port _ => decide (port < 22)
  | .portDown port => decide (port < 22)
  | .partnerFailReleased => true
  | .ga1ClaimWaitEnd => true
  | .diSupplyLow group _ => decide (group < 4)
  | .doSupplyLowExit group _ => (group == 4 || group == 5)
  | .openLoadClear chan => decide (chan < 16)
  | .ceRateWindowEnd .. => true
  | .frontEndFault => true
  | .sliceOutputDisagreement slice => decide (slice < 3)
  | .broadcastReplyDelay => true

end Sys2Proof
end

