-- ==== Sys2Proof/Tests/Slice0.lean ====
section
/-! SUPPORT. Small states, ill-formed commands that `Instr.wf` refuses, and for every statement with hypotheses the witnesses that meet
them: a list of values for each clause. -/
namespace Sys2Proof.Tests

open Machine

set_option Elab.async false

theorem everyLane {p : Lane → Prop} [DecidablePred p] : (∀ l, p l) ↔ Lane.all.all (fun l => decide (p l)) = true := by
  simp only [List.all_eq_true, decide_eq_true_eq]
  exact ⟨fun h l _ => h l, fun h l => h l (by cases l <;> decide)⟩

theorem someLane {p : Lane → Prop} [DecidablePred p] : (∃ l, p l) ↔ Lane.all.any (fun l => decide (p l)) = true := by
  simp only [List.any_eq_true, decide_eq_true_eq]
  exact ⟨fun ⟨l, h⟩ => ⟨l, by cases l <;> decide, h⟩, fun ⟨l, _, h⟩ => ⟨l, h⟩⟩

theorem flipped (x : DWord) : x ^^^ 1 ≠ x := fun h => by simpa using congrArg (·.getLsbD 0) h

/-- Every value of a list meets the hypotheses. -/
inductive Met {α : Type} (h : α → Prop) : List α → Prop where
  | nil : Met h []
  | cons {a : α} {l : List α} : h a → Met h l → Met h (a :: l)

/-! ### States and messages -/

/-- A module in operation: OPERATIONAL, three lanes in vote, REC ready, the field front end enabled. -/
def op : State :=
  { State.reset with
    sys := { Reset.sys with mode := .operational, startDone := true, ran := true, cpfValid := true }
    vot := { Reset.vot with lanes := Tri.all { Reset.laneVote with phase := .inVote } }
    erec := { Reset.recorder with state := .ready }
    dio := { Reset.dio with enabled := true } }

/-- The same with lane C in reset: DEGRADED. -/
def op2 : State :=
  { op with sys := { op.sys with mode := .degraded }, vot := { op.vot with lanes := op.vot.lanes.set .c { Reset.laneVote with phase := .reset } } }

/-- SAFE-HOLD with reason COMMAND. -/
def hold : State := { op with sys := { op.sys with mode := .safeHold, active := 0x40, first := 7 } }

/-- DORMANT with every wake source armed. -/
def dormant : State :=
  { State.reset with sys := { Reset.sys with mode := .dormant }, isl := { Reset.island with wakeArmed := 0xFF, rtcAlarm := 1 } }

/-- A module that enters DORMANT. -/
def entering : State := { hold with sys := { hold.sys with entering := true }, isl := { hold.isl with wakeArmed := 0xFF } }

/-- The end of VERIFY: the lanes have their self-tests behind them. -/
def verify : State :=
  { State.reset with
    sys := { Reset.sys with mode := .verify }, vot := { Reset.vot with lanes := Tri.all { Reset.laneVote with phase := .selftest } },
    erec := { Reset.recorder with state := .ready } }

/-- BOOT during a takeover, with VERIFIED images in the marked slots. -/
def bootTakeover : State :=
  { State.reset with
    chk := { Reset.chk with takeover := some 0 }
    nv := { Reset.nonVol with slots := List.replicate 4 ⟨⟨.verified, []⟩, Reset.slot, false, none, false⟩ } }

/-- A register listed with a value. -/
def withRegs (rs : List (Nat × Word)) (s : State) : State := { s with regs := rs }

/-- Lane-local registers listed alike in every lane. -/
def withLaneRegs (rs : List (Nat × Word)) (s : State) : State :=
  { s with regs := Lane.all.flatMap fun l => rs.map fun r => (laneKey l r.1, r.2) }

/-- The module with a time base locked since instant 0, at 1 ms; and the slave of a PTP master on X11 with a known delay. -/
def lockedServo : LaneServo := { Reset.laneServo with state := .locked, inputAt := some 0 }
def ptpSlave : State :=
  { withLaneRegs [(Off.TB_CFG, 1)] op with time := { Reset.time with ptp := { Reset.ptp with masters := [⟨9, 7, 3, false⟩], delay := some 256 } } }
def locked (n : Nat) : State :=
  setBase n (fun b => { b with servos := Tri.all lockedServo })
    { op with now := 1000000, time := { Reset.time with tb2 := { Reset.base with ctr1 := 1000000 * nsUnit, ctr2 := 1000000 * nsUnit, ctr3 := 1000000 * nsUnit } } }

/-- The position source is REMOTE, or LOCAL with no sensor configured. -/
def remoteSrc : State := withRegs [(Off.ODO_CFG, 0x43209F2)] op
def noSensors : State := withRegs [(Off.ODO_CFG, 0x4320901)] op

/-- The supply domain measures a catenary of 25 kV, 50 Hz, on channel 0 and on channel 3. -/
def supplied : State := withRegs [(Off.SUP_CFG, 0x3F0046), (Off.SUP_CH_CFG, 1), (Off.SUP_CH_CFG + 12, 2)] op

/-- Channel values and deviations; the same 300 s after the value left the band; the reference channel with a signal; an event that can end. -/
def chansBy (f : Chan → Chan) (s : State) : State := { s with sup := { s.sup with chans := s.sup.chans.map f } }
def valued (v : Int) (s : State) : State :=
  chansBy (fun c => { c with val := v, valued := true, dev := 20000000, lowAt := some 0, highAt := some 0 })
    { s with sup := { s.sup with means := { Reset.means with freq := some 40000000, thd := some 2000 } } }
def lowFor (v : Int) : State :=
  let b := { Reset.base with ctr1 := 300000000000 * nsUnit, ctr2 := 300000000000 * nsUnit, ctr3 := 300000000000 * nsUnit }
  valued v { supplied with time := { Reset.time with tb0 := b } }
def signalOn : State := { supplied with sup := { supplied.sup with rms := 2500000 } }
def outOf (other : Nat) : State :=
  chansBy (fun c => { c with outAt := some 0, backAt := some 0 })
    { withRegs [(Off.SUP_CFG, 0x3F0046 + BitVec.ofNat 32 (16 * (3 - other))), (Off.SUP_CH_CFG, 1), (Off.SUP_CH_CFG + 4, 1), (Off.SUP_CH_CFG + 12, 2)] op with now := 2000000 }
def ending (d : Dist) (q : List DistEntry) : State :=
  chansBy (fun c => { c with val := 25000000, valued := true, within := 20 })
    { supplied with sup := { supplied.sup with active := [d], fifo := q, means := { Reset.means with freq := some 50000000, thd := some 10 } } }

/-- A follower with a record taken `age` ns of TB0 ago. -/
def followed (age : Nat) : State :=
  let b := { Reset.base with ctr1 := age * nsUnit, ctr2 := age * nsUnit, ctr3 := age * nsUnit }
  { remoteSrc with time := { Reset.time with tb0 := b }, odo := { remoteSrc.odo with remote := some (posRecOf (List.replicate 32 1)) } }

/-- Speed sensors in a state. -/
def sensorsAre (x : SensState) (s : State) : State :=
  { s with odo := { s.odo with sensors := s.odo.sensors.map fun y => { y with state := x, fitSince := some 0 } } }

/-- One Piste entry with the words given by their numbers, and as the Piste keeps it. -/
def entryOf (n : Nat) (ws : List (Nat × Word)) (a : List Armed) (s : State) : State :=
  { s with regs := ws.map (fun w => (Off.PST_ENTRY_W0 + 32 * n + 4 * w.1, w.2)), pst := { s.pst with armed := a } }

/-- An integrated node with an active slot table. -/
def net (es : List (Nat × Slot)) (s : State) : State :=
  { s with ftn := { s.ftn with su := .integrated, active := ⟨es⟩ } }

/-- The frame of entry 5 that ring node 1 sends in basic cycle 0, and the entry that receives it. -/
def nodeFrame : Frame :=
  { dstMac := 0x0346544E0000, srcMac := 0x0246544E0100, etherType := 0x88B6, vlan := false, fcsOk := true, looped := false, hop := 0, version := 1, kind := 1, source := 256, dest := 65535,
    slot := 5, cycle := 0, seq := 0, txTime := 10000, objIndex := 0, objSub := 0, info := 0, plen := 4, flags := 0, state := 0,
    payload := [1, 2, 3, 4], e2e := 0, pad := 14 }
def rxEntry : Slot := ⟨0x4100, 10000, 0x403E8, 15, 0⟩
def crcSet (f : Frame) : Frame := { f with e2e := frameCrc f }

/-- A link check and a star frame of port 3. -/
def checkFrame : Frame := { nodeFrame with kind := 5, info := 2, slot := 0xC000, plen := 24, payload := List.replicate 24 0, pad := 0 }
def slotFrame : Frame := { nodeFrame with source := 0x30, txTime := 12500 }

/-- Every port is linked, in use, and measures; and the same at an instant of TB0. -/
def linked (s : State) : State :=
  setReg Off.FTN_PORT_EN 0x3FFFFF { s with ftn := { s.ftn with ports := List.replicate 22 { Reset.port with up := true, cal := .frozen } } }
def tb0At (n : Nat) (s : State) : State :=
  setBase 0 (fun b => { b with ctr1 := n * nsUnit, ctr2 := n * nsUnit, ctr3 := n * nsUnit }) s

/-- The cycle engine of a lane that has begun, with a change of `f` in each lane. -/
def cycling (f : LaneCyc → LaneCyc) (s : State) : State :=
  { s with cyc := { s.cyc with begun := true, first := false, lanes := s.cyc.lanes.map fun _ c => f c } }

/-- Every output channel, every field group, every digital input changed alike. -/
def outsBy (f : Out → Out) (s : State) : State := { s with dio := { s.dio with outs := s.dio.outs.map f } }
def groupsBy (f : Group → Group) (s : State) : State := { s with dio := { s.dio with groups := s.dio.groups.map f } }
def disBy (f : Di → Di) (s : State) : State := { s with dio := { s.dio with dis := s.dio.dis.map f } }

/-- A millisecond after the last change of any output. -/
def settledOuts : State := { op with now := 1000000 }

/-- The pair block changed. -/
def chkBy (f : Chk → Chk) (s : State) : State := { s with chk := f s.chk }

/-- A member of a redundant pair that decides its role at the end of VERIFY. -/
def deciding : State := chkBy (fun c => { c with role := .deciding, presentN := true, mramOk := true }) (withRegs [(Off.CHK_CFG, 0x103)] verify)

/-- The same with a committed half of claim 5. -/
def claimed : State := { deciding with nv := { deciding.nv with half0 := ⟨.committed, 2, 9, [(0, List.replicate 32 0 ++ [5, 0, 0, 0])]⟩ } }

/-- The holder of claim 5. -/
def holder (s : State) : State := chkBy (fun c => { c with role := .active, holder := true, claim := 5, mramOk := true, presentN := true, pFail := false }) s

/-- A standby whose images match, with a committed half 0. -/
def standby : State :=
  { chkBy (fun c => { c with mramOk := true, idMatch := true, lastOk := true, cycleUs := 1000 }) State.reset with
    sys := { Reset.sys with mode := .standby }, nv := { Reset.nonVol with half0 := ⟨.committed, 2, 9, []⟩ } }

/-- The record that starts a full set 3 for that standby. -/
def startRec : CkRec :=
  ckRecord 1 1 3 0 (beBytes 4 0xFFFFFFFF ++ beBytes 4 1000 ++ standby.imageId 0 ++ standby.imageId 3 ++ (beBytes 4 5 ++ [4, 1, 0, 0]))

/-- A set being received into half 1. -/
def setIn (next : Nat) : SetIn := ⟨3, 1, true, true, next, []⟩
def receiving (next : Nat) : State := chkBy (fun c => { c with inSet := some (setIn next) }) standby

/-- Every core of every lane changed alike, and sources pending. -/
def coresBy (f : IcuCore → IcuCore) (s : State) : State := { s with icus := s.icus.map fun _ u => { u with cores := u.cores.map f } }
def pends (ids : List Nat) (s : State) : State := { s with icus := s.icus.map fun _ u => { u with pend := ids } }

/-- Every lane's memories changed alike. -/
def memsBy (f : LaneMem → LaneMem) (s : State) : State := { s with mems := s.mems.map fun _ m => f m }

/-- Both links UP, in the field of view of a change; a packet with its CRC; a descriptor as memory holds it. -/
def linksUp (f : Culvert → Culvert) (s : State) : State :=
  { s with brg := { s.brg with link0 := f { s.brg.link0 with state := .up }, link1 := f { s.brg.link1 with state := .up } } }
def brgCfg (n : Word) (s : State) : State := { s with brg := { s.brg with cfg := n } }
def wr (tag stream : Nat) (np : Bool) (dma : Option Nat) : Posted := ⟨tag, 0, stream, 7, dma, np, 0, [1, 2], none⟩
def rd (tag retries : Nat) (answered : Bool) : Reading := ⟨tag, 0x1FFFFFFFE, 2, 5, retries, answered, 0, none⟩
def pkt (type tag seq length addr : Nat) (payload : List Byte) : Packet :=
  ⟨type, 0, tag, seq, length, addr, payload, packetCrc ⟨type, 0, tag, seq, length, addr, payload, 0⟩⟩
def desc (flags len sa da next : Nat) : List Byte := leBytes 4 flags ++ leBytes 4 len ++ leBytes 8 sa ++ leBytes 8 da ++ leBytes 8 next
def dmaBy (c : Nat) (f : Dma → Dma) (s : State) : State := { s with dmas := modAt s.dmas c f }

/-- The path of a maintenance terminal on X11, and a ring node as a service client. -/
def x11 : Path := ⟨2, 0, 0x0A510001, 0xC000⟩
def ringPath : Path := ⟨1, 0x100, 0, 0⟩

/-- A request as it arrives, with its check. -/
def req (code : Byte) (session trans index : Half) (sub : Byte) (payload : List Byte) : KspMsg :=
  ⟨0x10, code, session, trans, index, sub, 0, payload.length, 0, payload,
    kspCheck ⟨0x10, code, session, trans, index, sub, 0, payload.length, 0, payload, 0⟩⟩
def segReq (code : Byte) (session trans index : Half) (sub : Byte) (offset : Word) (payload : List Byte) : KspMsg :=
  { req code session trans index sub payload with
    offset := offset, check := kspCheck { req code session trans index sub payload with offset := offset } }

/-- An open session of the role FACTORY, and the module with sessions. -/
def sess : Session :=
  { num := 5, role := 4, state := .open_, path := x11, nonce := [], openAt := 0, lastAt := 0, kept := none, snapshot := none, seg := none,
    segTimedOut := false, waiting := none, attNonce := List.replicate 32 1, cursor := none, cursorKept := 0 }
def served (xs : List Session) : State := { op with ksp := { op.ksp with sessions := xs }, now := 1000000000 }
def objd (i j : Nat) : ObjDesc := (op.objAt i j).getD ⟨0, 0, 0, 0, 0⟩

/-- The same in SAFE-HOLD.COMMISSIONING, and as a ring node. -/
def commissioned (s : State) : State := { s with sys := { hold.sys with active := 0x40 } }
def onRing (s : State) : State := withRegs [(Off.FTN_NODE_CFG, 0x10300)] s

/-- A request, an accepted record, and the recorder changed. -/
def recReq (type : Nat) : RecReq := ⟨type, [], [], 0, 0, 0, 0, 0, [], false, 0⟩
def aRec (seq : Word) (type : Nat) : Rec := ⟨seq, recReq type, 0, false⟩
def recBy (f : Recorder → Recorder) (s : State) : State := { s with erec := f s.erec }
def nandBy (f : Nand → Nand) (s : State) : State := { s with nv := { s.nv with nand := f s.nv.nand } }

/-- An export runs. -/
def exporting (s : State) : State := dmaBy 1 (fun x => { x with state := .running }) (recBy (fun r => { r with state := .exporting }) s)

/-- The staging slots of an image type and the update unit changed; a NOR slot with a header block; an image header of a type and payload
length; a block as it is submitted. -/
def slotsBy (x : Nat) (f : TypeSlots → TypeSlots) (s : State) : State := { s with nv := { s.nv with slots := modAt s.nv.slots x f } }
def updBy (f : Upd → Upd) (s : State) : State := { s with upd := f s.upd }
def headerOf (x len : Nat) : List Byte :=
  beBytes 4 0x534E494D ++ beBytes 2 1 ++ beBytes 2 0x0E3A ++ beBytes 1 (x + 1) ++ List.replicate 23 0 ++ beBytes 4 len ++ List.replicate 4060 0
def shortHeader (len : Nat) : List Byte := List.replicate 32 0 ++ beBytes 4 len
def block (off : Nat) (data : List Byte) : List Byte :=
  beBytes 4 off ++ beBytes 2 data.length ++ beBytes 2 0 ++ data ++ beBytes 4 (crc32c (beBytes 4 off ++ beBytes 2 data.length ++ beBytes 2 0 ++ data)).toNat
def staged (x : Nat) (n : NorSlot) (s : State) : State := slotsBy x (fun y => y.put (s.targetB x) n) s

/-- In the pause of a warm restart for the types of a mask. -/
def warm (m : BitVec 4) (s : State) : State := { s with sys := { s.sys with warmPause := true, warmMask := m } }
def lifeIs (l : Life) (s : State) : State := { s with nv := { s.nv with life := l } }
def releasing : State :=
  { lifeIs .provisioned hold with
    nv := { hold.nv with life := .provisioned, imageKey := some [1], factory := [(objKey 0xB101 2, [1]), (objKey 0xB122 1, [1])] } }

/-- SEC registers of every lane: a source, a destination and a length; and a signing key of slot 0 with the identity key made. -/
def secAt (src dst len : Word) (s : State) : State := withLaneRegs [(Off.SEC_SRC_LO, src), (Off.SEC_LEN, len), (Off.SEC_DST_LO, dst)] s
def keyed0 (s : State) : State := memsBy (fun m => { m with secure := .valid })
  { s with nv := { s.nv with identity := some 0, factory := [(objKey 0xB122 1, [1])] } }

/-- Telemetry changed, and ports in use. -/
def tlmBy (f : Tlm → Tlm) (s : State) : State := { s with tlm := f s.tlm }
def portsOn : State := withRegs [(Off.FTN_PORT_EN, 0x3FFFFF)] op
def oper : State := op

theorem ckRecord_ok {type half set rec : Nat} {body : List Byte} (h : type < 256) : ckOk type (ckRecord type half set rec body) = true := by
  simp [ckOk, ckRecord, ckCrc, ckBytes, Nat.mod_eq_of_lt h]

theorem startRec_image (s : State) (t : Nat) (h : s.runSlot t = (s.typeSlots t).slot (s.typeSlots t).markB) : s.idMatches t (s.imageId t) ≠ 0 := by
  simp [State.idMatches, State.imageId, h]

theorem beBytes_len (n v : Nat) : (beBytes n v).length = n := by
  induction n generalizing v with
  | zero => rfl
  | succ n ih => simp [beBytes, ih]

theorem slice_ids (a b : Nat) (x y z : List Byte) (hx : x.length = 8) (hy : y.length = 8) :
    slice (beBytes 4 a ++ beBytes 4 b ++ x ++ y ++ z) 8 8 = x ∧ slice (beBytes 4 a ++ beBytes 4 b ++ x ++ y ++ z) 16 8 = y := by
  simp [slice, List.drop_append, beBytes_len, hx, hy, List.drop_eq_nil_of_le]

theorem imageId_len (s : State) (t : Nat) : (s.imageId t).length = 8 := by simp [State.imageId, slotId, beBytes_len]

theorem startRec_ids : slice startRec.body 8 8 = standby.imageId 0 ∧ slice startRec.body 16 8 = standby.imageId 3 :=
  slice_ids _ _ _ _ _ (imageId_len _ _) (imageId_len _ _)

theorem req_good {code : Byte} {session trans index : Half} {sub : Byte} {payload : List Byte} (h : payload.length ≤ 1400) :
    kspGood (req code session trans index sub payload) = true := by
  simp [kspGood, req, kspCheck, kspHeader, h]

/-! ### Ill-formed commands -/

/-- A frame, a packet, a checkpoint record, a message and data to arbitrate that do not fit their wire fields. -/
def badFrame : Frame := { nodeFrame with hop := 128 }
def badPacket : Packet := { pkt 1 0 0 0 0 [] with type := 256 }
def badRecord : CkRec := { ckRecord 1 0 0 0 [] with length := 4294967296 }
def badMessage : KspMsg := { req 1 0 0 0 0 [] with length := 65536 }

def badData : ArbData := ⟨16384, 0, 0, []⟩

theorem test_bad_frames : [badFrame, { nodeFrame with version := 16 }, { nodeFrame with kind := 16 }, { nodeFrame with source := 65536 },
    { nodeFrame with dest := 65536 }, { nodeFrame with slot := 65536 }, { nodeFrame with cycle := 65536 }, { nodeFrame with seq := 65536 },
    { nodeFrame with objIndex := 65536 }, { nodeFrame with plen := 65536 }].any Frame.wf = false ∧ nodeFrame.wf = true := by decide

theorem test_bad_packets : [badPacket, { pkt 1 0 0 0 0 [] with code := 256 }, pkt 1 65536 0 0 0 [], pkt 1 0 65536 0 0 [], pkt 1 0 0 65536 0 []].any Packet.wf = false ∧
    (pkt 255 65535 65535 65535 0 []).wf = true := by decide

theorem test_bad_records : badRecord.wf = false ∧ badMessage.wf = false ∧ { badRecord with length := 4294967295 }.wf = true ∧
    { badMessage with length := 65535 }.wf = true := by decide

theorem test_bad_data : [badData, ⟨65534, 0, 0, []⟩, ⟨0, 65536, 0, []⟩, ⟨0, 0, 0, List.replicate 1473 0⟩].any ArbData.wf = false ∧
    (⟨65535, 65535, 0, []⟩ : ArbData).wf = true ∧ (⟨16383, 0, 0, List.replicate 1472 0⟩ : ArbData).wf = true := by decide +kernel

/-- Errors at no site that Table 13.7 names, and writes of port A that meet none of port B. -/
theorem test_bad_sites : ([
    .eccCorrected .a true 0x200000000 0, .eccCorrected .a false 0x400000 0, .eccCorrected .a true 0 6, .eccCorrected .a false 0 8,
    .eccUncorrectable .a true 0 0x6000, .eccUncorrectable .a false 0x400000 2, .cycleBoundary [(.a, 0, [])], .cycleBoundary [(.b, 5, [1, 2, 3, 4])],
    .recordRequest 65536 [], .recordRequest 1 [(0, 0, [])], .recordRequest 1 [(256, 0, [])], .recordRequest 1 [(1, 256, [])],
    .recordRequest 1 [(1, 0, List.replicate 106 0)], .recordLoad 1 (List.replicate 35 0), .recordLoad 1 (List.replicate 260 0),
    .recordLoad 1 (List.replicate 38 0)] : List Instr).any Instr.wf = false ∧ ([.eccCorrected .c true 0x1FFFFFFFF 4, .eccCorrected .a false 0x3FFFFF 0x5000,
    .recordRequest 1 [(1, 0, List.replicate 105 0)], .recordLoad 1 [], .recordLoad 1 (List.replicate 256 0), .cycleBoundary [(.b, 4, [1, 2, 3, 4])]]
      : List Instr).all Instr.wf = true := by decide +kernel

/-- Commands with one operand out of its range, misalignedAccess to ptpMessage. -/
theorem test_ill_formed_1 : ([
    .misalignedAccess .a 6 1 false, .misalignedAccess .a 1 1179648 false, .unmappedAccess .a 6 1 false, .unmappedAccess .a 1 1179648 false,
    .readLoLatch .a 6 1, .readLoLatch .a 1 1179648, .writeHiCommit .a 6 1 0, .writeHiCommit .a 1 1179648 0, .shadowedWrite .a 1179648 0,
    .registerWrite .a 6 1 0, .registerWrite .a 1 1179648 0, .hubPortRetryExhausted .a 64 0 (List.replicate 4 ⟨[], 0, 0⟩),
    .hubPortRetryExhausted .a 1 0 (List.replicate 3 ⟨[], 0, 0⟩), .clockFault 7, .sliceCounterFault 3, .domainProtectionOpen 7, .powerValid 64,
    .wake 28, .votedWrite .a 64 0 1 0 1, .votedWrite .a 1 0 1099511627776 0 1, .votedRead .a 64 0 1 1, .votedRead .a 1 0 1099511627776 1,
    .lateAccess .a 64 0 1 false 0 1, .lateAccess .a 1 0 1099511627776 false 0 1, .lateLimitExpiry 67 0, .votFenceRead .a 64, .pathMask .a 50,
    .digestWrite .a [(33554432, [1])] 0 1, .servoOffsetInput 4 0, .tbStepWrite 6 1 0, .tbStepWrite 1 4 0, .tbRateWrite 6 1 0, .tbRateWrite 1 4 0,
    .tbOffsetInWrite 4 0, .servoHoldEnter 4, .servoHoldLimit 4, .ptpMessage 19 ⟨0, 0, 1, 0, .followUp 0⟩ 0,
    .ptpMessage 22 ⟨0, 0, 1, 0, .followUp 0⟩ 0, .ptpMessage 20 ⟨2, 0, 1, 0, .followUp 0⟩ 0, .ptpMessage 20 ⟨0, 256, 1, 0, .followUp 0⟩ 0] : List Instr).any Instr.wf = false := by decide

/-- Commands with one operand out of its range, ptpMessage to linkCheckReceive. -/
theorem test_ill_formed_2 : ([
    .ptpMessage 20 ⟨0, 0, 1, 65536, .followUp 0⟩ 0, .calibrationEnd 22, .calDev 20 0, .calProbe 20 1 0 0, .calProbe 1 64 0 0, .calReply 20 1 0 0 0 0,
    .calReply 1 64 0 0 0 0, .calLoopReq 20, .calNoLoop 20, .sensorStateTimer 4, .remoteRecord 16384 [], .odoPosRead .a 6, .supRangeFault 4,
    .supRangeReturn 4, .supLockChange 5, .disturbanceStart 0 1, .disturbanceStart 7 1, .disturbanceStart 1 4, .disturbanceEnd 0 1,
    .disturbanceEnd 7 1, .disturbanceEnd 1 4, .supDistHeadRead 6, .pisteMatch 1024 0, .pulseEnd 1024, .guardWaitFire 1024, .waitLimitExpiry 1024,
    .entryWordWrite 1024 1 0, .entryWordWrite 1 8 0, .pstFireHeadRead 6, .pisteStoreScrub 1024, .frameBuild 16384 false false,
    .frameReceive 4 nodeFrame 0, .frameReceive 1 badFrame 0, .starFrameReceive 16 nodeFrame 0, .starFrameReceive 1 badFrame 0,
    .arbOccurrence 16384 [], .arbOccurrence 1 [badData], .cyclePoint 32, .txbWrite 1179648 0, .linkCheckReceive 20 nodeFrame 0] : List Instr).any Instr.wf = false := by decide

/-- Commands with one operand out of its range, linkCheckReceive to darkTestEnd. -/
theorem test_ill_formed_3 : ([
    .linkCheckReceive 1 badFrame 0, .guardViolation 16 1, .guardViolation 1 0, .guardViolation 1 8, .linkBroken 4 1, .linkBroken 1 0,
    .linkBroken 1 4, .healReady 4 1, .healReady 1 2, .healRestoreAt 4 1 1, .healRestoreAt 1 2 1, .healRestoreAt 1 1 1024, .healAck 4 1 1,
    .healAck 1 2 1, .healAck 1 1 1024, .cycleBoundary [(.a, 262144, [1])], .diFilterChange 32 1, .diFilterChange 1 4, .diSupplyFault 4 1,
    .diSupplyReturn 4 1, .inputTestPulse 4, .inputTestEnd 4, .logicSilence 16, .doSupplyLow 6 1, .doSupplyLow 4 65536, .doSupplyUnder 6 1,
    .doSupplyUnder 4 65536, .doSupplyOver 6 1, .doSupplyOver 4 65536, .doSupplyReady 6 1, .doSupplyReady 4 65536, .groupOverload 6,
    .channelOvercurrent 16, .channelOvertemp 16, .openLoad 16, .stuckOff 16, .shortSupplyDetect 16 none false, .shortSupplyDetect 1 (some 16) false,
    .darkTestSlot 16, .darkTestEnd 16 false] : List Instr).any Instr.wf = false := by decide

/-- Commands with one operand out of its range, tripAutoReset to mapError. -/
theorem test_ill_formed_4 : ([
    .tripAutoReset 8, .clearFault 16 0, .groupReenable 6, .tripReset 8, .tripRegWrite 1179648 0, .sensorSupplyShort 4, .sensorSupplyRestart 4,
    .roleRecord badRecord, .setStart badRecord, .checkpointPage badRecord, .setCommit badRecord, .keepalive badRecord, .pauseRecord badRecord,
    .park badRecord, .handoverRecord badRecord, .claimAnnounce 16384 0 0, .claimReject 16384 0 0, .sourceAssert .a 0, .sourceAssert .a 512,
    .signalWithdraw .a 6 false false, .handlerEntry .a 6 false, .claimNormal .a 6, .claimFast .a 6, .icuComplete .a 6 0, .handlerExit .a 6 false,
    .swiSet .a 6 0, .pendClear .a 16 0, .waitWake .a 0, .waitWake .a 512, .extintEdge 16 false 1, .extintDormantEdge 16 false, .aliasSet .a 6 1 4 0,
    .aliasSet .a 1 1099511627776 4 0, .aliasSet .a 1 1 3 0, .aliasClear .a 6 1 4 0, .aliasClear .a 1 1099511627776 4 0, .aliasClear .a 1 1 3 0,
    .secureAccess .a 6 1, .secureAccess .a 1 1099511627776, .mapError .a 6 1 false] : List Instr).any Instr.wf = false := by decide

/-- Commands with one operand out of its range, mapError to brgFailHeadRead. -/
theorem test_ill_formed_5 : ([
    .mapError .a 1 1099511627776 false, .mramWindowWrite .a 6 1 0, .mramWindowWrite .a 1 1099511627776 0, .bridgeWrite 64 0 1 [] false,
    .bridgeWrite 1 0 1099511627776 [] false, .npWrite 64 0 1 [], .npWrite 1 0 1099511627776 [], .wrAck 2 (pkt 1 0 0 0 0 []), .wrAck 1 badPacket,
    .wrError 2 (pkt 1 0 0 0 0 []), .wrError 1 badPacket, .ackTimeout 2 1, .ackTimeout 1 4096, .linkAck 2 (pkt 1 0 0 0 0 []), .linkAck 1 badPacket,
    .linkResend 2 1, .linkResend 1 65536, .brgFenceRead 64, .bridgeRead 64 1 1, .bridgeRead 1 1099511627776 1, .bridgeRead 1 1 4097,
    .retry 2 (pkt 1 0 0 0 0 []), .retry 1 badPacket, .rdReqRepeat 2 1, .rdReqRepeat 1 4096, .rdData 2 (pkt 1 0 0 0 0 []) false,
    .rdData 1 badPacket false, .unsupported 2 (pkt 1 0 0 0 0 []), .unsupported 1 badPacket, .inboundRdReq 2 (pkt 1 0 0 0 0 []),
    .inboundRdReq 1 badPacket, .fetchComplete 2 1 1, .fetchComplete 1 1099511627776 1, .fetchHoldExpiry 2 1 1, .fetchHoldExpiry 1 1099511627776 1,
    .inboundWrite 2 (pkt 1 0 0 0 0 []), .inboundWrite 1 badPacket, .linkStateChange 2 1 false, .linkStateChange 1 4 false, .brgFailHeadRead 6] : List Instr).any Instr.wf = false := by decide

/-- Commands with one operand out of its range, dmaCmdStart to telemetrySnapshot. -/
theorem test_ill_formed_6 : ([
    .dmaCmdStart 16 0, .dmaCmdAbort 16 0, .dmaDescriptorDone 16 0 1 false, .dmaDescriptorDone 1 4 1 false, .dmaDescriptorDone 1 0 4294967296 false,
    .kspOpen x11 .plain badMessage, .kspAuth x11 .plain badMessage, .kspClose x11 .plain badMessage, .kspRead x11 .plain badMessage,
    .kspWrite x11 .plain badMessage false, .restoreDefaults x11 .plain badMessage false, .kspReadSeg x11 .plain badMessage,
    .kspWriteSeg x11 .plain badMessage false, .kspAbort x11 .plain badMessage, .kspInfo x11 .plain badMessage, .kspBadCode x11 .plain badMessage,
    .sessionIdleTimeout 65536, .authTimeout 65536, .readSnapshotTimeout 65536, .segWriteTimeout 65536, .pendingTimeout 65536, .arpRequest 2 0 0,
    .icmpEcho 2 0 0 [], .clearCirculating 8 [], .clearKept 8 [], .eraseComplete 0, .eraseComplete 5, .norFailure 8, .provision 8, .release 8,
    .returnToMaker 8, .scrap 8, .openBoundaryScan 8, .openDebug 8, .updRngRead .a 6, .norRefresh 8 1 false, .dramScrub .a [] 101,
    .linkMarginCheck 22 0, .bgLate 10, .telemetrySnapshot [0, 0, 0, 0, 0] 1 1] : List Instr).any Instr.wf = false := by decide

/-- Commands with one operand out of its range, telemetrySnapshot to sliceOutputDisagreement. -/
theorem test_ill_formed_7 : ([
    .telemetrySnapshot [0, 0, 0, 0, 0, 0] 65536 1, .telemetrySnapshot [0, 0, 0, 0, 0, 0] 1 65536, .sampleStrobe 3 [], .phyLinkUp 22 1, .portDown 22,
    .diSupplyLow 4 1, .doSupplyLowExit 6 1, .openLoadClear 16, .sliceOutputDisagreement 3] : List Instr).any Instr.wf = false := by decide

/-- No row of the table has bits, so no word spells a command, and nothing is put in front of the queue. -/
theorem test_no_word (nbits w : Nat) : decodeTableWord nbits w = none ∧ State.reset.withFetchWord nbits w = State.reset := ⟨rfl, rfl⟩

/-! ### Witnesses -/

/-- `StepKeepsForm` and `StepKeepsCapacity`: a command in operation, in front of another. -/
theorem witness_StepKeepsForm : ∃ s t : State, (CanonForm s ∧ WithinCapacity s) ∧ s.pending = [.rtcAlarm, .recordAccept] ∧ step s = .next t :=
  ⟨{ op with pending := [.rtcAlarm, .recordAccept] }, _,
    ⟨⟨by unfold RegsWf; decide +kernel, by unfold ReservedZero; decide +kernel, by intro l; cases l <;> decide +kernel, by decide +kernel⟩,
      by unfold WithinCapacity QueuesFit; decide +kernel⟩, rfl, rfl⟩

/-- `StepRunsFront`. -/
theorem witness_StepRunsFront :
  Met (fun ((s, c, rest) : State × Instr × List Instr) => s.pending = c :: rest)
    [({ op with pending := [.recordAccept, .basicCycleStart] }, .recordAccept, [.basicCycleStart])] :=
  by
    (repeat' apply Met.cons) <;>
      first | exact .nil | decide +kernel

/-- `IdleStep`. -/
theorem witness_IdleStep :
  Met (fun s : State => s.pending = [])
    [op,
      { linksUp (fun c => { c with inbound := 32 }) op with out := [.arp 0 1 2] }] :=
  by
    (repeat' apply Met.cons) <;>
      first | exact .nil | decide +kernel

/-- `MisalignedAccess`. -/
theorem witness_MisalignedAccess :
  Met (fun ((s, l, core, off) : State × Lane × Nat × Nat) => s.accessOk l core off = true)
    [(op, .b, 5, 0x10002),
      (op2, .a, 0, 1)] :=
  by
    (repeat' apply Met.cons) <;>
      first | exact .nil | decide +kernel

/-- `UnmappedAccess`. -/
theorem witness_UnmappedAccess :
  (Met (fun ((s, l, core, off) : State × Lane × Nat × Nat) => RegsWf s ∧ s.accessOk l core off = true ∧ rowAt off = none)
    [(op, .a, 3, 0x10F000),
      (op2, .a, 3, 0x2FFFC)]) ∧
  (Met (fun ((s, l, core, off) : State × Lane × Nat × Nat) => RegsWf s ∧ s.accessOk l core off = true ∧ rowAt off = none)
    [(op, .a, 3, 0x10F000),
      (op2, .a, 3, 0x2FFFC)]) :=
  by
    and_intros <;> (repeat' apply Met.cons) <;>
      first | exact .nil | (unfold RegsWf; decide +kernel)

/-- `RegisterAccess`: its clauses from READ_LO_LATCH to WRITE_HI_COMMIT. -/
theorem witness_RegisterPairs :
  (Met (fun ((s, l, core, off) : State × Lane × Nat × Nat) => s.accessOk l core off = true ∧ latchGroup off ≠ [] ∧ (rowAt off).isSome = true)
    [(op, .c, 4, Off.CYC_COUNT_LO),
      (op2, .a, 0, Off.DIO_DI_STATE_LO)]) ∧
  (Met (fun ((s, l, core, off) : State × Lane × Nat × Nat) => RegsWf s ∧ s.accessOk l core off = true ∧ isHi off = true ∧ boundaryOf off = .live ∧
    off / 65536 ≠ 2 ∧ off / 65536 ≠ 3)
    [({ op with loWrites := [⟨none, 1, Off.ODO_FIX_POS_LO, 7⟩] }, .a, 1, Off.ODO_FIX_POS_HI)]) ∧
  (Met (fun ((s, l, core, off) : State × Lane × Nat × Nat) => s.accessOk l core off = true ∧ isLo off = true)
    [(op, .a, 5, Off.ODO_FIX_POS_LO)]) :=
  by
    and_intros <;> (repeat' apply Met.cons) <;>
      first | exact .nil | ((try unfold RegsWf); decide +kernel)

/-- `RegisterAccess`: its clauses from SHADOWED_WRITE to REGISTER_WRITE. -/
theorem witness_RegisterWrites :
  (Met (fun ((s, l, off) : State × Lane × Nat) => s.accessOk l 0 off = true ∧ plainReg off = true ∧ boundaryOf off ≠ .live ∧
    (s.shadows.find? fun x => x.key == regKey l off) = none)
    [(op, .a, Off.VOT_CFG),
      (op, .b, Off.CYC_CFG)]) ∧
  (Met (fun ((s, l, off, p) : State × Lane × Nat × Word) => s.accessOk l 0 off = true ∧ plainReg off = true ∧ boundaryOf off ≠ .live ∧
    (s.shadows.find? fun x => x.key == regKey l off) = some ⟨regKey l off, p, none⟩)
    [({ op with shadows := [⟨Off.VOT_CFG, 5, none⟩] }, .a, Off.VOT_CFG, 5)]) ∧
  (Met (fun ((s, l, off, p, h) : State × Lane × Nat × Word × Word) => RegsWf s ∧ s.accessOk l 0 off = true ∧ plainReg off = true ∧
    boundaryOf off ≠ .live ∧ (s.shadows.find? fun x => x.key == regKey l off) = some ⟨regKey l off, p, some h⟩)
    [({ op with shadows := [⟨laneKey .b Off.CYC_CFG, 5, some 7⟩] }, .b, Off.CYC_CFG, 5, 7),
      ({ op with shadows := [⟨Off.VOT_CFG, 5, some 7⟩] }, .b, Off.VOT_CFG, 5, 7)]) ∧
  (Met (fun ((s, l, core, off) : State × Lane × Nat × Nat) => RegsWf s ∧ s.accessOk l core off = true ∧ plainReg off = true ∧ boundaryOf off = .live ∧
    off % 4 = 0)
    [(op, .a, 2, Off.SYS_START_CFG)]) :=
  by
    and_intros <;> (repeat' apply Met.cons) <;>
      first | exact .nil | ((try unfold RegsWf); decide +kernel)

/-- `PartAndEngineFaults`: its clauses from CLOCK_FAULT to DOMAIN_PROTECTION_OPEN. -/
theorem witness_PartFaults :
  (Met (fun ((s, p, l) : State × Nat × Lane) => partLane p = some l ∧ s.up = true ∧ s.quiet = true ∧ s.inVote l = true ∧ s.lanesIn.length = 3)
    [(op, 1, .b),
      ({ op with sys := { op.sys with mode := .integrate } }, 0, .a)]) ∧
  (Met (fun ((s, p, l) : State × Nat × Lane) => partLane p = some l ∧ s.up = true ∧ s.quiet = true ∧ s.inVote l = true ∧ s.lanesIn.length = 3)
    [(op, 2, .c)]) ∧
  (Met (fun ((s, p, l) : State × Nat × Lane) => partLane p = some l ∧ s.up = true ∧ s.inVote l = true ∧ s.lanesIn.length < 3)
    [(op2, 1, .b)]) ∧
  (Met (fun ((s, p, l) : State × Nat × Lane) => partLane p = some l ∧ s.up = true ∧ s.inVote l = true ∧ s.lanesIn.length < 3)
    [(op2, 0, .a)]) ∧
  (Met (fun ((s, k, c) : State × Nat × Instr) => c ∈ [.clockFault (k + 3), .sliceCounterFault k, .domainProtectionOpen (k + 3),
    .sliceOutputDisagreement k] ∧ k < 3 ∧ s.up = true ∧ s.vot.slices = 7)
    [(op, 0, .clockFault 3),
      (op, 1, .sliceCounterFault 1),
      (op, 2, .domainProtectionOpen 5),
      (op, 2, .sliceOutputDisagreement 2)]) ∧
  (Met (fun ((s, k, c) : State × Nat × Instr) => c ∈ [.clockFault (k + 3), .sliceCounterFault k, .domainProtectionOpen (k + 3),
    .sliceOutputDisagreement k] ∧ k < 3 ∧ s.up = true ∧ s.vot.slices ≠ 7 ∧ s.vot.slices.getLsbD k = true)
    [({ op with vot := { op.vot with slices := 3 } }, 1, .clockFault 4),
      ({ op with vot := { op.vot with slices := 6 } }, 2, .sliceOutputDisagreement 2)]) ∧
  (Met (fun s : State => s.up = true)
    [op]) :=
  by
    and_intros <;> (repeat' apply Met.cons) <;>
      first | exact .nil | decide +kernel

/-- `PartAndEngineFaults`: its clauses from SUPERVISOR_HEARTBEAT_LOSS to SUPPLY_DIP. -/
theorem witness_EngineFaults :
  (Met (fun s : State => s.up = true ∧ s.watchSuspended = false)
    [op]) ∧
  (Met (fun ((s, b) : State × Bool) => s.up = true ∧ (if b then s.sys.netB else s.sys.netA).off = false)
    [(op, true),
      (op, false)]) ∧
  (Met (fun s : State => s.up = true ∧ s.sys.guardianFault = false)
    [op]) ∧
  (Met (fun s : State => s.up = true ∧ s.sys.dspFault = false)
    [op,
      { op with sup := { op.sup with lock := .locked } }]) ∧
  (Met (fun s : State => s.sys.dspFault = true ∧ s.newestHalf = none)
    [{ op with sys := { op.sys with dspFault := true } }]) ∧
  (Met (fun ((s, d, v) : State × Nat × Nat) => s.up = true ∧ (d ≤ 10000 ∨ d ≤ 100000 ∧ 14400 ≤ v) ∧ d < 4294967296 ∧ v < 65536)
    [(op, 10000, 65535),
      (op2, 100000, 14400)]) :=
  by
    and_intros <;> (repeat' apply Met.cons) <;>
      first | exact .nil | decide +kernel

/-- `PowerAndWake`. -/
theorem witness_PowerAndWake :
  (Met (fun ((s, ga) : State × Nat) => s.isl.powered = false ∧ ga < 64)
    [({ State.reset with isl := { Reset.island with powered := false } }, 63),
      ({ op with isl := { Reset.island with powered := false, failN := true }, now := 5 }, 0)]) ∧
  (Met (fun s : State => s.isl.powered = true)
    [op,
      State.reset]) ∧
  (Met (fun ((s, src, b, cause) : State × Nat × Nat × Word) => s.isl.powered = true ∧ s.sys.mode = .dormant ∧ wakeBit src = some (b, cause) ∧
    bit s.isl.wakeArmed b = true ∧ s.wakeable src = true)
    [(dormant, 0, 0, 1),
      (dormant, 4, 4, 16)]) ∧
  (Met (fun ((s, src, b, cause) : State × Nat × Nat × Word) => s.isl.powered = true ∧ s.sys.mode ≠ .dormant ∧ s.sys.entering = true ∧
    s.isl.wakeEarly = none ∧ wakeBit src = some (b, cause) ∧ bit s.isl.wakeArmed b = true ∧ s.wakeable src = true)
    [(entering, 5, 5, 32),
      (entering, 3, 3, 8)]) ∧
  (Met (fun s : State => s.up = true ∧ s.sys.entering = false ∧ s.isl.rtcAlarm ≠ 0 ∧ s.isl.rtcNs < 1000000000 ∧
    s.isl.rtc.toNat < s.isl.rtcAlarm.toNat)
    [{ op with isl := { op.isl with rtcAlarm := 1, rtcNs := 999999999 } },
      { op with isl := { op.isl with rtcAlarm := 9, rtc := 3 } }]) ∧
  (Met (fun s : State => s.isl.powered = true ∧ s.sys.mode = .dormant ∧ bit s.isl.wakeArmed 5 = true ∧ s.isl.rtcAlarm ≠ 0 ∧ s.isl.rtcNs < 1000000000 ∧
    s.isl.rtc.toNat < s.isl.rtcAlarm.toNat)
    [dormant]) ∧
  (Met (fun s : State => s.up = true ∧ s.sys.entering = true ∧ s.isl.wakeEarly = none)
    [entering]) ∧
  (Met (fun ((s, cause) : State × Word) => s.up = true ∧ s.sys.entering = true ∧ s.isl.wakeEarly = some cause)
    [({ entering with isl := { entering.isl with wakeEarly := some 32 } }, 32)]) :=
  by
    and_intros <;> (repeat' apply Met.cons) <;>
      first | exact .nil | decide +kernel

/-- `StartUp`. -/
theorem witness_StartUp :
  (Met (fun ((s, a, b, c) : State × BitVec 8 × BitVec 8 × BitVec 8) => s.up = true ∧ s.sys.mode = .boot ∧ s.sys.recovery = false ∧ (∀ x,
    x < 3 → (revertTrial (followMarks s)).bootSlot (Tri.mk a b c).get x ≠ none))
    [(bootTakeover, 0, 0, 0),
      (bootTakeover, 1, 0, 0)]) ∧
  (Met (fun ((s, a, b, c, x) : State × BitVec 8 × BitVec 8 × BitVec 8 × Nat) => s.up = true ∧ s.sys.mode = .boot ∧ s.sys.recovery = false ∧ x < 3 ∧
    (revertTrial (followMarks s)).bootSlot (Tri.mk a b c).get x = none)
    [(State.reset, 0xFF, 0, 0, 2)]) ∧
  (Met (fun ((s, ok, odd) : State × BitVec 3 × BitVec 3) => s.up = true ∧ s.sys.mode = .verify ∧ (∀ l, (s.vot.lanes.get l).phase = .selftest) ∧
    s.freshBases ∧ odd = 0 ∧ 2 ≤ ((Lane.all.filter fun l => ok.getLsbD l.idx).length))
    [(verify, 7, 0),
      (verify, 5, 0),
      (verify, 6, 0)]) ∧
  (Met (fun ((s, ok, odd) : State × BitVec 3 × BitVec 3) => s.up = true ∧ s.sys.mode = .verify ∧ (∀ l, (s.vot.lanes.get l).phase = .selftest) ∧
    odd = 0 ∧ (Lane.all.filter fun l => ok.getLsbD l.idx).length < 2)
    [(verify, 2, 0),
      (verify, 0, 0)]) ∧
  (Met (fun s : State => s.up = true ∧ s.sys.mode = .verify ∧ (∀ l, (s.vot.lanes.get l).phase = .selftest) ∧ s.freshBases ∧ s.sys.found = 0 ∧
    s.sys.overVolt = false ∧ s.nv.tamper = false ∧ s.sys.storeBad = false ∧ s.chk.takeover = none ∧ s.nv.life = .field ∧ (∀ l,
      (s.mem l).secure = .valid) ∧ (loadObjects s).ftnNode = false ∧ (loadObjects s).pairMember = false ∧ (∀ x, x < 5 → s.runHeader x = none) ∧ (∀ l,
        s.cycCheck ((loadObjects s).reg (laneKey l Off.CYC_CFG)) = 0))
    [{ memsBy (fun m => { m with secure := .valid }) verify with nv := { Reset.nonVol with life := .field } }]) ∧
  (Met (fun s : State => s.up = true ∧ (s.sys.mode = .boot ∨ s.sys.mode = .verify) ∧ s.sys.recovery = false)
    [State.reset,
      { verify with isl := { verify.isl with startResets := 2 } }]) :=
  by
    and_intros <;> (repeat' apply Met.cons) <;>
      first | exact .nil | ((try unfold State.freshBases); (try simp only [everyLane]); decide +kernel)

/-- `ModeRequestRefused`. -/
theorem witness_ModeRequestRefused :
  (Met (fun ((s, c, req, key) : State × Instr × Nat × Half) => RegsWf s ∧ s.up = true ∧ (c = .requestDormant key ∧ req = 1 ∨
    c = .requestOperational key ∧ req = 4 ∨ c = .requestSafeHold key ∧ req = 6) ∧ key ≠ 0x4D51)
    [(op, .requestDormant 0, 1, 0),
      (op, .requestOperational 0x4D50, 4, 0x4D50),
      (op, .requestSafeHold 0xFFFF, 6, 0xFFFF)]) ∧
  (Met (fun ((s, l, core, cause, v) : State × Lane × Nat × Nat × Word) => RegsWf s ∧ s.accessOk l core Off.SYS_MODE_REQ = true ∧
    (fld v 16 16 ≠ 0x4D51 ∧ cause = 3 ∨ fld v 16 16 = 0x4D51 ∧ fld v 0 4 ∉ [1, 4, 6] ∧ cause = 4))
    [(op, .a, 0, 4, 0x4D510000),
      (op, .a, 5, 4, 0x4D51000F),
      (op, .c, 0, 3, 0xFFFF0004)]) :=
  by
    and_intros <;> (repeat' apply Met.cons) <;>
      first | exact .nil | (unfold RegsWf; decide +kernel)

/-- `ModeRequests`. -/
theorem witness_ModeRequests :
  (Met (fun ((s, c, req) : State × Instr × Nat) => RegsWf s ∧ s.up = true ∧ s.sys.entering = false ∧ s.pendingAt reqKey = none ∧
    (c = .requestDormant 0x4D51 ∧ req = 1 ∧ (s.running ∨ s.held) ∨ c = .requestSafeHold 0x4D51 ∧ req = 6 ∧ s.running ∨
      c = .requestOperational 0x4D51 ∧ req = 4 ∧ s.held ∧ s.sys.active &&& 0xBB = 0 ∧ s.sys.cpfValid = true ∧
        (s.ftnNode = true → s.ftn.su = .integrated)))
    [(op, .requestDormant 0x4D51, 1),
      (op, .requestSafeHold 0x4D51, 6),
      (hold, .requestOperational 0x4D51, 4)]) ∧
  (Met (fun ((s, c, req, p) : State × Instr × Nat × Word) => RegsWf s ∧ s.up = true ∧ (c = .requestDormant 0x4D51 ∧ req = 1 ∨
    c = .requestOperational 0x4D51 ∧ req = 4 ∨ c = .requestSafeHold 0x4D51 ∧ req = 6) ∧ (s.shadows.find? fun x => x.key == reqKey) = some ⟨reqKey, p,
      none⟩)
    [({ op with shadows := [⟨reqKey, 0x4D510006, none⟩] }, .requestOperational 0x4D51, 4, 0x4D510006),
      ({ hold with shadows := [⟨reqKey, 0x4D510004, none⟩] }, .requestDormant 0x4D51, 1, 0x4D510004)]) ∧
  (Met (fun ((s, c, req) : State × Instr × Nat) => RegsWf s ∧ s.up = true ∧ s.sys.entering = false ∧ s.pendingAt reqKey = none ∧
    (c = .requestOperational 0x4D51 ∧ req = 4 ∧ s.running ∨ c = .requestSafeHold 0x4D51 ∧ req = 6 ∧ s.held))
    [(op2, .requestOperational 0x4D51, 4),
      (hold, .requestSafeHold 0x4D51, 6)]) ∧
  (Met (fun ((s, c, req, cause) : State × Instr × Nat × Nat) => RegsWf s ∧ s.up = true ∧ s.pendingAt reqKey = none ∧ ((c = .requestDormant 0x4D51 ∧
    req = 1 ∨ c = .requestOperational 0x4D51 ∧ req = 4 ∨ c = .requestSafeHold 0x4D51 ∧ req = 6) ∧ cause = 1 ∧ (s.sys.entering = true ∨ ¬ s.running ∧
      ¬ s.held) ∨ c = .requestOperational 0x4D51 ∧ req = 4 ∧ s.sys.entering = false ∧ s.held ∧ (cause = 2 ∧ s.sys.active &&& 0xBB ≠ 0 ∨ cause = 7 ∧
        s.sys.active &&& 0xBB = 0 ∧ s.sys.cpfValid = false ∨ cause = 6 ∧ s.sys.active &&& 0xBB = 0 ∧ s.sys.cpfValid = true ∧ s.ftnNode = true ∧
          s.ftn.su ≠ .integrated)))
    [(State.reset, .requestDormant 0x4D51, 1, 1),
      (entering, .requestSafeHold 0x4D51, 6, 1),
      ({ hold with sys := { hold.sys with active := 0x41 } }, .requestOperational 0x4D51, 4, 2),
      ({ hold with sys := { hold.sys with cpfValid := false } }, .requestOperational 0x4D51, 4, 7),
      (withRegs [(Off.FTN_NODE_CFG, 0x10000)] hold, .requestOperational 0x4D51, 4, 6)]) :=
  by
    and_intros <;> (repeat' apply Met.cons) <;>
      first | exact .nil | (unfold RegsWf; decide +kernel)

/-- `ResetsAndSupply`. -/
theorem witness_ResetsAndSupply :
  (Met (fun s : State => s.hubOn = true ∧ s.sys.failSilent = true ∧ bit (s.reg Off.SYS_START_CFG) 8 = true ∧ s.restartFree = true)
    [withRegs [(Off.SYS_START_CFG, 0x100)] { op with sys := { op.sys with failSilent := true } }]) ∧
  (Met (fun ((s, v) : State × Word) => s.up = true ∧ fld v 16 16 = 0x5253 ∧ fld v 0 4 = 1)
    [(op, 0x52530001)]) ∧
  (Met (fun ((s, v) : State × Word) => RegsWf s ∧ s.up = true ∧ fld v 16 16 ≠ 0x5253)
    [(op, 0)]) ∧
  (Met (fun ((s, v) : State × Word) => s.up = true ∧ fld v 16 16 = 0x5253 ∧ fld v 0 4 ≠ 1)
    [(op, 0x52530000)]) ∧
  (Met (fun s : State => s.up = true ∧ s.sys.mode.code ≠ 2)
    [op,
      hold]) ∧
  (Met (fun s : State => s.up = true ∧ s.sys.mode.code ≠ 2)
    [op2,
      hold]) ∧
  (Met (fun s : State => s.up = true ∧ s.sys.mode.code = 2)
    [State.reset,
      { verify with sys := { verify.sys with mode := .integrate } }]) ∧
  (Met (fun s : State => s.up = true ∧ s.sys.mode.code = 2)
    [State.reset]) ∧
  (Met (fun s : State => s.up = true ∧ s.sys.mode.code = 2)
    [{ verify with sys := { verify.sys with found := 0x08, overVolt := true } }]) ∧
  (Met (fun s : State => s.up = true ∧ s.held = true ∧ s.sys.active.getLsbD 3 = true)
    [{ hold with sys := { hold.sys with active := 0x08, first := 4 } },
      { hold with sys := { hold.sys with active := 0xFF, first := 4 } }]) :=
  by
    and_intros <;> (repeat' apply Met.cons) <;>
      first | exact .nil | ((try unfold RegsWf); decide +kernel)

/-- `VotedAccess`. -/
theorem witness_VotedAccess :
  (Met (fun ((s, l, st, addr, time) : State × Lane × Nat × Nat × Nat) => s.up = true ∧ s.inVote l = true ∧ 2 ≤ s.lanesIn.length ∧ st < 48 ∧
    votedTarget addr = true ∧ isDigest addr = false ∧ s.vot.open_ = [] ∧ s.vot.kept = [] ∧ s.now ≤ time)
    [(op, .b, 47, Off.VOT_CFG, 0),
      (op2, .a, 0, 0x13FFFFFFFC, 100)]) ∧
  (Met (fun ((s, l, m, st, seq, addr, v, at_, time) : State × Lane × Lane × Nat × Word × Nat × Word × Nat × Nat) => RegsWf s ∧ s.up = true ∧
    s.inVote l = true ∧ s.inVote m = true ∧ l ≠ m ∧ st < 48 ∧ votedTarget addr = true ∧ plainReg addr = true ∧ boundaryOf addr = .live ∧
      s.vot.open_ = [⟨st, seq, [⟨m, at_, addr, true, v⟩], []⟩] ∧ s.vot.kept = [] ∧ at_ ≤ s.now ∧ s.now ≤ time ∧ time ≤ at_ + 2000)
    [({ op with now := 1000, vot := { op.vot with open_ := [⟨3, 9, [⟨.a, 0, Off.SYS_START_CFG, true, 0xFFFFFFFF⟩], []⟩] } }, .b, .a, 3, 9,
      Off.SYS_START_CFG, 0xFFFFFFFF, 0, 2000),
      ({ op2 with now := 1000, vot := { op2.vot with open_ := [⟨3, 9, [⟨.b, 0, Off.SYS_START_CFG, true, 0xFFFFFFFF⟩], []⟩] } }, .a, .b, 3, 9,
        Off.SYS_START_CFG, 0xFFFFFFFF, 0, 1000)]) ∧
  (Met (fun ((s, l, m, st, seq, addr, at_, time) : State × Lane × Lane × Nat × Word × Nat × Nat × Nat) => s.up = true ∧ s.inVote l = true ∧
    s.inVote m = true ∧ l ≠ m ∧ st < 48 ∧ addr ∈ [Off.VOT_CFG, Off.PST_CFG, Off.ODO_CFG, Off.SUP_CFG, Off.DIO_OUT_CFG, Off.REC_CFG] ∧ s.latches = [] ∧
      s.vot.open_ = [⟨st, seq, [⟨m, at_, addr, false, 0⟩], []⟩] ∧ s.vot.kept = [] ∧ at_ ≤ s.now ∧ s.now ≤ time ∧ time ≤ at_ + 2000)
    [({ op with vot := { op.vot with open_ := [⟨47, 9, [⟨.c, 0, Off.VOT_CFG, false, 0⟩], []⟩] } }, .a, .c, 47, 9, Off.VOT_CFG, 0, 2000),
      ({ op2 with vot := { op2.vot with open_ := [⟨0, 9, [⟨.b, 0, Off.DIO_OUT_CFG, false, 0⟩], []⟩] } }, .a, .b, 0, 9, Off.DIO_OUT_CFG, 0, 0)]) :=
  by
    and_intros <;> (repeat' apply Met.cons) <;>
      first | exact .nil | ((try unfold RegsWf); decide +kernel)

/-- `LateAccesses`: its clauses of LATE_ACCESS. -/
theorem witness_LateAccess :
  (Met (fun ((s, l, st, seq, addr, v, w, wr, at_, time,
    ls) : State × Lane × Nat × Word × Nat × Word × Word × Bool × Nat × Nat × List Lane) => RegsWf s ∧ s.up = true ∧ s.inVote l = true ∧ st < 48 ∧
      votedTarget addr = true ∧ isDigest addr = false ∧ s.vot.open_ = [] ∧ s.vot.kept = [⟨st, seq, addr, wr, v, false, false, at_, ls⟩] ∧ l ∉ ls ∧
        (wr = true → w = v) ∧ s.now ≤ time ∧ at_ + 2000 < time ∧ time < at_ + s.lateLimit ∧
          (s.vot.lanes.get l).skewRun + 1 < max 1 (fld (s.reg Off.VOT_CFG) 8 8))
    [({ op with now := 2001, vot := { op.vot with kept := [⟨1, 2, Off.VOT_CFG, true, 5, false, false, 0, [.a, .b]⟩] } }, .c, 1, 2, Off.VOT_CFG, 5, 5,
      true, 0, 2001, [.a, .b]),
      ({ op with now := 2001, vot := { op.vot with kept := [⟨1, 2, Off.VOT_CFG, false, 5, false, false, 0, [.a, .b]⟩] } }, .c, 1, 2, Off.VOT_CFG, 5,
        0, false, 0, 99999, [.a, .b])]) ∧
  (Met (fun ((s, l, st, seq, addr, v, w, at_, time, ls) : State × Lane × Nat × Word × Nat × Word × Word × Nat × Nat × List Lane) => RegsWf s ∧
    s.up = true ∧ s.inVote l = true ∧ st < 48 ∧ votedTarget addr = true ∧ isDigest addr = false ∧ s.vot.open_ = [] ∧ s.vot.kept = [⟨st, seq, addr,
      true, v, false, false, at_, ls⟩] ∧ l ∉ ls ∧ w ≠ v ∧ s.now ≤ time ∧ at_ ≤ time ∧ time ≤ at_ + 2000 ∧
        (s.vot.lanes.get l).safetyRun + 1 < max 1 (fld (s.reg Off.VOT_CFG) 0 2) ∧
          (s.vot.lanes.get l).stdRun + 1 < max 1 (fld (s.reg Off.VOT_CFG) 4 4))
    [(withRegs [(Off.VOT_CFG, 0xA0833)] { op with vot := { op.vot with kept := [⟨1, 2, Off.VOT_CFG, true, 5, false, false, 0, [.a, .b]⟩] } }, .c, 1,
      2, Off.VOT_CFG, 5, 4, 0, 2000, [.a, .b])]) :=
  by
    and_intros <;> (repeat' apply Met.cons) <;>
      first | exact .nil | (unfold RegsWf; decide +kernel)

/-- `LateAccesses`: its clauses from LATE_LIMIT_EXPIRY to HUB_PORT_RETRY_EXHAUSTED. -/
theorem witness_LateLanes :
  (Met (fun ((s, l, k) : State × Lane × KeptAccess) => s.up = true ∧ s.quiet = true ∧ s.inVote l = true ∧ k.stream < 48 ∧ s.vot.kept = [k] ∧
    (∀ m : Lane, m ∈ k.lanes ↔ m ≠ l) ∧ s.now ≤ k.at_ + s.lateLimit ∧ s.lanesIn.length = 3)
    [({ op with vot := { op.vot with kept := [⟨1, 2, Off.VOT_CFG, true, 5, false, false, 0, [.a, .b]⟩] } }, .c, ⟨1, 2, Off.VOT_CFG, true, 5, false,
      false, 0, [.a, .b]⟩)]) ∧
  (Met (fun ((s, l, k) : State × Lane × KeptAccess) => s.up = true ∧ s.quiet = true ∧ s.inVote l = true ∧ k.stream < 48 ∧ s.vot.kept = [k] ∧
    (∀ m : Lane, m ∈ k.lanes ↔ m ≠ l) ∧ s.now ≤ k.at_ + s.lateLimit ∧ s.lanesIn.length = 2)
    [({ op2 with vot := { op2.vot with kept := [⟨1, 2, Off.VOT_CFG, true, 5, false, false, 0, [.a, .c]⟩] } }, .b, ⟨1, 2, Off.VOT_CFG, true, 5, false,
      false, 0, [.a, .c]⟩)]) ∧
  (Met (fun ((s, l, xs) : State × Lane × List HubTransfer) => RegsWf s ∧ s.up = true ∧ s.inVote l = true ∧ xs.length = 4 ∧ (∀ x ∈ xs,
    s.portPasses l x = false) ∧ ((s.vot.lanes.get l).portFails.filter fun t => decide (s.now < t + 1000000000)).length < 15 ∧
      (s.vot.lanes.get l).skewRun + 1 < max 1 (fld (s.reg Off.VOT_CFG) 8 8))
    [(op, .b, List.replicate 4 ⟨[1], 0, 0⟩)]) ∧
  (Met (fun ((s, l, xs) : State × Lane × List HubTransfer) => s.up = true ∧ s.quiet = true ∧ s.inVote l = true ∧ s.lanesIn.length = 3 ∧
    xs.length = 4 ∧ (∀ x ∈ xs, s.portPasses l x = false) ∧
      15 ≤ ((s.vot.lanes.get l).portFails.filter fun t => decide (s.now < t + 1000000000)).length ∧
        (s.vot.lanes.get l).skewRun + 1 < max 1 (fld (s.reg Off.VOT_CFG) 8 8))
    [({ op with vot := { op.vot with lanes := Tri.all { Reset.laneVote with phase := .inVote, portFails := List.replicate 15 0 } } }, .b,
      List.replicate 4 ⟨[1], 0, 0⟩)]) :=
  by
    and_intros <;> (repeat' apply Met.cons) <;>
      first | exact .nil | ((try unfold RegsWf); (try simp only [everyLane]); decide +kernel)

/-- `FenceMaskAndPeers`. -/
theorem witness_FenceMaskAndPeers :
  (Met (fun ((s, l, st) : State × Lane × Nat) => s.up = true ∧ s.inVote l = true ∧ st < 64 ∧ (∀ e ∈ s.vot.open_, e.stream ≠ st))
    [(op, .c, 63),
      ({ op with vot := { op.vot with open_ := [⟨3, 9, [], []⟩] } }, .a, 0)]) ∧
  (Met (fun ((s, st, e) : State × Nat × OpenAccess) => e ∈ s.vot.open_ ∧ e.stream = st)
    [({ op with vot := { op.vot with open_ := [⟨3, 9, [], []⟩] } }, 3, ⟨3, 9, [], []⟩)]) ∧
  (Met (fun ((s, l, ch) : State × Lane × Nat) => RegsWf s ∧ s.up = true ∧ s.inVote l = true ∧ ch < 50 ∧ s.pathMasked l ch = false)
    [(op, .c, 49),
      (op, .a, 0),
      (op2, .b, 32)]) ∧
  (Met (fun ((s, l, at_, d, p, q) : State × Lane × Nat × DWord × DWord × DWord) => s.up = true ∧ s.inVote l = true ∧ s.lanesIn.length = 3 ∧
    (s.vot.lanes.get l).digest = some (at_, d) ∧ ¬ (p = q ∧ p ≠ d))
    [({ op with vot := { op.vot with lanes := Tri.all { Reset.laneVote with phase := .inVote, digest := some (0, 5) }, votedDigest := some (0, 5) } },
      .b, 0, 5, 5, 5),
      ({ op with vot := { op.vot with lanes := Tri.all { Reset.laneVote with phase := .inVote, digest := some (0, 5) }, votedDigest := some (0, 5) } },
        .b, 0, 5, 5, 6)]) ∧
  (Met (fun ((s, l, at_, d, p, q) : State × Lane × Nat × DWord × DWord × DWord) => s.up = true ∧ s.inVote l = true ∧ s.lanesIn.length = 3 ∧
    (s.vot.lanes.get l).digest = some (at_, d) ∧ p = q ∧ p ≠ d ∧ (s.vot.lanes.get l).peerRun + 1 < max 1 (fld (s.reg Off.VOT_CFG) 0 2))
    [(withRegs [(Off.VOT_CFG,
      0xA0833)] { op with vot := { op.vot with lanes := Tri.all { Reset.laneVote with phase := .inVote, digest := some (0, 5) }, votedDigest := some (0, 5) } },
        .b, 0, 5, 6, 6)]) ∧
  (Met (fun ((s, l, at_, d, p, q) : State × Lane × Nat × DWord × DWord × DWord) => s.up = true ∧ s.inVote l = true ∧ s.lanesIn.length = 3 ∧
    (s.vot.lanes.get l).digest = some (at_, d) ∧ p = q ∧ p ≠ d ∧ max 1 (fld (s.reg Off.VOT_CFG) 0 2) ≤ (s.vot.lanes.get l).peerRun + 1 ∧
      s.quiet = true)
    [({ op with vot := { op.vot with lanes := Tri.all { Reset.laneVote with phase := .inVote, digest := some (0, 5) }, votedDigest := some (0, 5) } },
      .b, 0, 5, 6, 6)]) :=
  by
    and_intros <;> (repeat' apply Met.cons) <;>
      first | exact .nil | ((try unfold RegsWf); decide +kernel)

/-- `ImagesAndDigests`. -/
theorem witness_ImagesAndDigests :
  (Met (fun ((s, l, time) : State × Lane × Nat) => s.up = true ∧ s.inVote l = true ∧ 2 ≤ s.lanesIn.length ∧ (s.laneCyc l).phase = 2 ∧
    s.vot.voted = none ∧ (∀ m : Lane, m ≠ l → (s.vot.lanes.get m).handed = none) ∧ s.now ≤ time)
    [({ op with cyc := { Reset.cyc with running := true, lanes := Tri.all { Reset.laneCyc with phase := 2 } } }, .b, 5000)]) ∧
  (Met (fun ((s, l, m, at_, time) : State × Lane × Lane × Nat × Nat) => s.up = true ∧ s.inVote l = true ∧ s.inVote m = true ∧ l ≠ m ∧
    (s.laneCyc l).phase = 2 ∧ s.cyc.first = true ∧ s.vot.voted = none ∧ (s.vot.lanes.get m).handed = some (at_, s.outImage l) ∧ (∀ x : Lane,
      x ≠ m → (s.vot.lanes.get x).handed = none) ∧ at_ ≤ s.now ∧ s.now ≤ time ∧ time ≤ at_ + 2000)
    [(withRegs [(laneKey .a Off.CYC_IMG_CFG, 0x10000), (laneKey .b Off.CYC_IMG_CFG, 0x10000), (laneKey .c Off.CYC_IMG_CFG,
      0x10000)] { op with cyc := { Reset.cyc with running := true, lanes := Tri.all { Reset.laneCyc with phase := 2 } }, vot := { op.vot with lanes := op.vot.lanes.modify .a fun v => { v with handed := some (0, List.replicate 8 0) } } },
        .b, .a, 0, 2000)]) ∧
  (Met (fun ((s, l, time) : State × Lane × Nat) => s.up = true ∧ s.inVote l = true ∧ 2 ≤ s.lanesIn.length ∧ (s.laneCyc l).phase = 4 ∧
    s.vot.votedDigest = none ∧ (∀ m : Lane, m ≠ l → (s.vot.lanes.get m).digest = none) ∧ s.now ≤ time)
    [({ op with cyc := { Reset.cyc with running := true, lanes := Tri.all { Reset.laneCyc with phase := 4 } } }, .b, 700)]) ∧
  (Met (fun ((s, l, m, ws, flip, at_, time) : State × Lane × Lane × (List (Nat × List Byte)) × DWord × Nat × Nat) => ∃ d : DWord,
    d = s.ownDigest l ws ^^^ flip ∧ s.up = true ∧ (s.vot.lanes.get l).phase = .inVote ∧ (s.vot.lanes.get m).phase = .inVote ∧ l ≠ m ∧
      (s.laneCyc l).phase = 4 ∧ s.vot.votedDigest = none ∧ (s.vot.lanes.get m).digest = some (at_, d) ∧ (∀ x : Lane,
        x ≠ m → (s.vot.lanes.get x).digest = none) ∧ at_ ≤ s.now ∧ s.now ≤ time ∧ time ≤ at_ + 2000)
    [({ op with cyc := { Reset.cyc with running := true, lanes := Tri.all { Reset.laneCyc with phase := 4 } }, vot := { op.vot with lanes := op.vot.lanes.modify .a fun v => { v with digest := some (0, ({ op with cyc := { Reset.cyc with running := true, lanes := Tri.all { Reset.laneCyc with phase := 4 } } } : State).ownDigest .b [(0, [7])] ^^^ 0) } } },
      .b, .a, [(0, [7])], 0, 0, 2000)]) ∧
  (Met (fun ((s, l, m, ws, flip, e, at_, time) : State × Lane × Lane × (List (Nat × List Byte)) × DWord × DWord × Nat × Nat) => s.up = true ∧
    s.inVote l = true ∧ s.inVote m = true ∧ l ≠ m ∧ s.lanesIn.length = 2 ∧ (s.laneCyc l).phase = 4 ∧ s.vot.votedDigest = none ∧
      (s.vot.lanes.get m).digest = some (at_, e) ∧ s.ownDigest l ws ^^^ flip ≠ e ∧ s.now ≤ time)
    [({ op2 with cyc := { Reset.cyc with running := true, lanes := Tri.all { Reset.laneCyc with phase := 4 } }, vot := { op2.vot with lanes := op2.vot.lanes.modify .a fun v => { v with digest := some (0, ({ op2 with cyc := { Reset.cyc with running := true, lanes := Tri.all { Reset.laneCyc with phase := 4 } } } : State).ownDigest .b []) } } },
      .b, .a, [], 1,
        ({ op2 with cyc := { Reset.cyc with running := true, lanes := Tri.all { Reset.laneCyc with phase := 4 } } } : State).ownDigest .b [], 0,
          5000)]) :=
  by refine ⟨?_, ?_, ?_,
      .cons (⟨_, rfl, by
          iterate 6 refine ⟨by decide +kernel, ?_⟩
          refine ⟨rfl, (by simp only [everyLane]; decide +kernel), ?_⟩
          decide +kernel⟩) .nil,
      .cons (by
          iterate 7 refine ⟨by decide +kernel, ?_⟩
          refine ⟨rfl, flipped _, ?_⟩
          decide +kernel) .nil⟩ <;>
    (repeat' apply Met.cons) <;>
      first | exact .nil | (simp only [everyLane]; decide +kernel)

/-- `LiveRejoin`. -/
theorem witness_LiveRejoin :
  (Met (fun ((s, v, l) : State × Word × Lane) => s.up = true ∧ s.sys.mode = .degraded ∧ fld v 16 16 = 0x524A ∧ fld v 0 2 = l.idx + 1 ∧
    s.inVote l = false ∧ s.rejoins l = false)
    [(withRegs [(Off.VOT_REJOIN_CFG, 0x148310)] op2, 0x524A0003, .c)]) ∧
  (Met (fun ((s, v) : State × Word) => RegsWf s ∧ s.up = true ∧ (fld v 16 16 ≠ 0x524A ∨ fld v 0 2 = 0 ∨ s.sys.mode ≠ .degraded ∨ (∃ l : Lane,
    fld v 0 2 = l.idx + 1 ∧ (s.inVote l = true ∨ s.rejoins l = true))))
    [(op, 0x524A0003),
      (op2, 0x524A0000),
      (op2, 3),
      (op2, 0x524A0001)]) ∧
  (Met (fun ((s, l) : State × Lane) => s.inPhase l .reset = true ∧ s.rejoins l = true)
    [({ op2 with vot := { op2.vot with lanes := op2.vot.lanes.set .c { Reset.laneVote with phase := .reset, requested := true } } }, .c)]) ∧
  (Met (fun ((s, l) : State × Lane) => s.inPhase l .boot = true ∧ s.overBound l = false)
    [({ op2 with nv := { op2.nv with identity := some 0 }, vot := { op2.vot with lanes := op2.vot.lanes.set .c { Reset.laneVote with phase := .boot } } },
      .c)]) ∧
  (Met (fun ((s, l) : State × Lane) => s.inPhase l .selftest = true ∧ s.overBound l = false)
    [({ op2 with vot := { op2.vot with lanes := op2.vot.lanes.set .c { Reset.laneVote with phase := .selftest } } }, .c)]) ∧
  (Met (fun ((s, l) : State × Lane) => s.inPhase l .selftest = true ∧ s.overBound l = false)
    [({ op2 with vot := { op2.vot with lanes := op2.vot.lanes.set .c { Reset.laneVote with phase := .selftest } } }, .c)]) ∧
  (Met (fun ((s, l, n) : State × Lane × Nat) => s.inPhase l .precopy = true ∧ (s.vot.lanes.get l).ready = false ∧
    (n ≤ (s.vot.lanes.get l).dirtyLimit ∨ (s.vot.lanes.get l).passes + 1 < (s.vot.lanes.get l).maxPasses))
    [({ op2 with vot := { op2.vot with lanes := op2.vot.lanes.set .c { Reset.laneVote with phase := .precopy, cfg := 0x148311 } } }, .c, 0),
      ({ op2 with vot := { op2.vot with lanes := op2.vot.lanes.set .c { Reset.laneVote with phase := .precopy, cfg := 0x148311 } } }, .c, 1000000)]) ∧
  (Met (fun ((s, l, n) : State × Lane × Nat) => s.inPhase l .precopy = true ∧ (s.vot.lanes.get l).ready = false ∧ (s.vot.lanes.get l).dirtyLimit < n ∧
    (s.vot.lanes.get l).maxPasses ≤ (s.vot.lanes.get l).passes + 1)
    [({ op2 with vot := { op2.vot with lanes := op2.vot.lanes.set .c { Reset.laneVote with phase := .precopy, cfg := 0x148311, passes := 15 } } }, .c,
      1000000)]) ∧
  (Met (fun ((s, l) : State × Lane) => s.inPhase l .stopcopy = true ∧ s.overBound l = false)
    [({ op2 with vot := { op2.vot with lanes := op2.vot.lanes.set .c { Reset.laneVote with phase := .stopcopy } } }, .c)]) ∧
  (Met (fun ((s, l) : State × Lane) => (s.inPhase l .boot = true ∨ s.inPhase l .selftest = true ∨ s.inPhase l .stopcopy = true) ∧
    (s.vot.lanes.get l).ready = false)
    [({ op2 with vot := { op2.vot with lanes := op2.vot.lanes.set .c { Reset.laneVote with phase := .stopcopy } } }, .c),
      ({ op2 with vot := { op2.vot with lanes := op2.vot.lanes.set .c { Reset.laneVote with phase := .boot, history := List.replicate 15 0 } } },
        .c)]) ∧
  (Met (fun ((s, l, ok, c) : State × Lane × Bool × Instr) => s.overBound l = true ∧ (c = .rejoinBootDone l ∧ s.inPhase l .boot = true ∨
    c = .rejoinSelftestDone l ok ∧ s.inPhase l .selftest = true ∨ c = .stopcopyEnd l ∧ s.inPhase l .stopcopy = true))
    [({ op2 with now := 100000001, vot := { op2.vot with lanes := op2.vot.lanes.set .c { Reset.laneVote with phase := .boot } } }, .c, false,
      .rejoinBootDone .c),
      ({ op2 with now := 20000001, vot := { op2.vot with lanes := op2.vot.lanes.set .c { Reset.laneVote with phase := .selftest } } }, .c, true,
        .rejoinSelftestDone .c true),
      ({ op2 with now := 2000001, vot := { op2.vot with lanes := op2.vot.lanes.set .c { Reset.laneVote with phase := .stopcopy } } }, .c, false,
        .stopcopyEnd .c)]) :=
  by
    and_intros <;> (repeat' apply Met.cons) <;>
      first | exact .nil | ((try unfold RegsWf); (try simp only [someLane]); decide +kernel)

/-- `ServoOfABase`. -/
theorem witness_ServoOfABase :
  (Met (fun ((s, n, v, e) : State × Nat × LaneServo × Int) => ∃ cfg : Word, cfg = s.tbReg Off.TB_SERVO_CFG n ∧ s.up = true ∧ n ∈ [0, 1, 3] ∧
    s.alike n v ∧ fld cfg 0 2 = 1 ∧ (n = 1 → fld (s.maj Off.TB_CFG) 0 2 ≠ 0) ∧ v.state = .free ∧ e.natAbs ≤ max 1 (fld cfg 24 8) * 256000)
    [(op, 0, Reset.laneServo, 256000),
      (withLaneRegs [(Off.TB_CFG, 1)] op, 1, Reset.laneServo, -2560000),
      (op2, 3, Reset.laneServo, 0)]) ∧
  (Met (fun ((s, n, v, e, at_) : State × Nat × LaneServo × Int × Nat) => ∃ c : Int,
    c = e * 1099511627776 * 281474976710656 / ((s.time.tb2.time - at_ : Nat) : Int) ∧ ∃ cfg : Word, cfg = s.tbReg Off.TB_SERVO_CFG n ∧ ∃ lim : Int,
      lim = (max 1 (fld cfg 16 8) * 281474976710656 / 1000000 : Nat) ∧ ∃ gains : Word, gains = s.tbReg Off.TB_GAINS n ∧ ∃ i : Int,
        i = max (-lim) (min (v.integral + (fld gains 16 16 : Int) * c / 32768) lim) ∧ ∃ p : Int,
          p = max (-lim) (min (i + (fld gains 0 16 : Int) * c / 32768) lim) ∧ s.up = true ∧ n ∈ [0, 1, 3] ∧ s.alike n v ∧ fld cfg 0 2 = 1 ∧
            (n = 1 → fld (s.maj Off.TB_CFG) 0 2 ≠ 0) ∧ v.state = .locked ∧ e.natAbs ≤ max 1 (fld cfg 24 8) * 256000 ∧
              e.natAbs ≤ 4 * (max 1 (fld cfg 8 8) * 256) ∧ v.inputAt = some at_ ∧ at_ < s.time.tb2.time)
    [(locked 0, 0, lockedServo, 2048, 0),
      (locked 3, 3, lockedServo, -2048, 0),
      (locked 3, 3, lockedServo, 0, 0)]) ∧
  (Met (fun ((s, n, at_, v) : State × Nat × Nat × LaneServo) => s.up = true ∧ n ∈ [0, 1, 3] ∧ s.alike n v ∧ 0 < (s.base 2).rate ∧
    fld (s.tbReg Off.TB_SERVO_CFG n) 0 2 = 1 ∧ v.inputAt = some at_ ∧ (v.state = .locked ∨ v.state = .acquire))
    [(locked 0, 0, 0, lockedServo),
      (setBase 3 (fun b => { b with servos := Tri.all { Reset.laneServo with state := .acquire, inputAt := some 0 } }) op2, 3, 0,
        { Reset.laneServo with state := .acquire, inputAt := some 0 })]) ∧
  (Met (fun ((s, n, v) : State × Nat × LaneServo) => s.up = true ∧ n ∈ [0, 1, 3] ∧ s.alike n v ∧ 0 < (s.base 2).rate ∧
    fld (s.tbReg Off.TB_SERVO_CFG n) 0 2 = 1 ∧ v.state = .holdover)
    [(setBase 0 (fun b => { b with servos := Tri.all { Reset.laneServo with state := .holdover } }) op, 0,
      { Reset.laneServo with state := .holdover }),
      (setBase 3 (fun b => { b with servos := Tri.all { Reset.laneServo with state := .holdover, holdAt := 50 } }) op2, 3,
        { Reset.laneServo with state := .holdover, holdAt := 50 })]) :=
  by
    and_intros <;> (repeat' apply Met.cons) <;>
      first | exact .nil | ((repeat refine ⟨_, rfl, ?_⟩); unfold State.alike; simp only [everyLane]; decide +kernel)

/-- `TimeBaseCommands`: its clauses from TB_STEP_WRITE to TB_OFFSET_IN_WRITE. -/
theorem witness_TimeBaseWrites :
  (Met (fun ((s, core, n, v, hi, lo, d) : State × Nat × Nat × LaneServo × Word × Word × Int) => RegsWf s ∧ s.up = true ∧ s.alike n v ∧ (n = 1 ∨
    n = 3) ∧ s.pst.armed = [] ∧ s.pst.edge = [] ∧ (∀ l, s.inVote l = true → s.loFor l core (Off.TB_STEP_LO + 64 * n) = lo) ∧
      d = (hi ++ lo : DWord).toInt * 281474976710656)
    [({ op with loWrites := Lane.all.map fun l => ⟨some l, 2, Off.TB_STEP_LO + 64, 7⟩ }, 2, 1, Reset.laneServo, 0, 7,
      ((0 : Word) ++ (7 : Word) : DWord).toInt * 281474976710656),
      (op, 5, 3, Reset.laneServo, 0xFFFFFFFF, 0, -4294967296 * 281474976710656)]) ∧
  (Met (fun ((s, core, n, v, lo) : State × Nat × Nat × LaneServo × Word) => RegsWf s ∧ s.up = true ∧ s.alike n v ∧ n ∈ [0, 1, 3] ∧
    fld (s.tbReg Off.TB_SERVO_CFG n) 0 2 = 2 ∧ (∀ l, s.inVote l = true → s.loFor l core (Off.TB_RATE_LO + 64 * n) = lo))
    [(withLaneRegs [(Off.TB_SERVO_CFG, 2)] op, 1, 0, Reset.laneServo, 0),
      (withLaneRegs [(Off.TB_SERVO_CFG + 192, 2)] op2, 1, 3, Reset.laneServo, 0)]) ∧
  (Met (fun ((s, n, v, x) : State × Nat × LaneServo × Word) => ∃ e : Int, e = x.toInt ∧ ∃ cfg : Word, cfg = s.tbReg Off.TB_SERVO_CFG n ∧ s.up = true ∧
    s.alike n v ∧ (n = 1 ∨ n = 3) ∧ fld cfg 0 2 = 1 ∧ (n = 1 → fld (s.maj Off.TB_CFG) 0 2 ≠ 0) ∧ v.state = .free ∧
      e.natAbs ≤ max 1 (fld cfg 24 8) * 256000)
    [(withLaneRegs [(Off.TB_CFG, 3)] op, 1, Reset.laneServo, 100),
      (op, 3, Reset.laneServo, 0xFFFFFF00)]) ∧
  (Met (fun ((s, core, n, v, c) : State × Nat × Nat × Word × Instr) => RegsWf s ∧ s.up = true ∧ (c = .tbStepWrite core n v ∨
    c = .tbOffsetInWrite n v) ∧ (n = 0 ∨ n = 2))
    [(op, 0, 0, 5, .tbStepWrite 0 0 5),
      (op, 0, 2, 5, .tbStepWrite 0 2 5),
      (op, 0, 0, 5, .tbOffsetInWrite 0 5),
      (op2, 0, 2, 5, .tbOffsetInWrite 2 5)]) :=
  by
    and_intros <;> (repeat' apply Met.cons) <;>
      first | exact .nil | ((repeat refine ⟨_, rfl, ?_⟩); (try unfold RegsWf); (try unfold State.alike); (try simp only [everyLane]); decide +kernel)

/-- `TimeBaseCommands`: its clauses from TB_TRIM_WRITE to LANE_ALIGN_FAULT. -/
theorem witness_TrimPtpAndAlignment :
  (Met (fun ((s, v, trim) : State × LaneServo × Word) => RegsWf s ∧ s.up = true ∧ s.alike 2 v ∧ (∀ l,
    s.inVote l = true → s.reg (laneKey l Off.TB_TRIM) = trim))
    [(op, Reset.laneServo, 0),
      (withLaneRegs [(Off.TB_TRIM, 0xFFFFFFFF)] op2, Reset.laneServo, 0xFFFFFFFF)]) ∧
  (Met (fun s : State => s.up = true)
    [op]) ∧
  (Met (fun ((s, m, port, gm, rank) : State × PtpMsg × Nat × Nat × Nat) => s.up = true ∧ s.ptpPort = some port ∧ s.time.ptp.port = port ∧
    m.domain = s.ptpOpt 1 ∧ m.transport = s.ptpOpt 2 ∧ (s.port port).noStamp = false ∧ m.body = .announce gm rank)
    [(withLaneRegs [(Off.TB_CFG, 1)] op, ⟨0, 0, 9, 1, .announce 7 3⟩, 20, 7, 3)]) ∧
  (Met (fun ((s, m, y, v, port, stamp, i, t1, d) : State × PtpMsg × PtpMaster × LaneServo × Nat × Int × Int × Int × Int) => ∃ e : Int,
    e = satSigned 32 (stamp - (rxCorr port + (s.port port).dev) - t1 - d) ∧ ∃ cfg : Word, cfg = s.tbReg Off.TB_SERVO_CFG 1 ∧ s.up = true ∧
      s.alike 1 v ∧ s.ptpPort = some port ∧ s.time.ptp.port = port ∧ m.domain = s.ptpOpt 1 ∧ m.transport = s.ptpOpt 2 ∧
        (s.port port).noStamp = false ∧ m.body = .sync i (some t1) ∧ s.ptpMaster = some y ∧ y.source = m.source ∧ -4 ≤ i ∧ i ≤ 0 ∧
          s.time.ptp.delay = some d ∧ fld cfg 0 2 = 1 ∧ v.state = .free ∧ e.natAbs ≤ max 1 (fld cfg 24 8) * 256000)
    [(ptpSlave, ⟨0, 0, 9, 1, .sync (-3) (some 0)⟩, ⟨9, 7, 3, false⟩, Reset.laneServo, 20, 89900, -3, 0, 256)]) ∧
  (Met (fun ((s, m, port) : State × PtpMsg × Nat) => (s.ptpPort ≠ some port ∨ m.domain ≠ s.ptpOpt 1 ∨ m.transport ≠ s.ptpOpt 2))
    [(op, ⟨0, 0, 9, 1, .announce 7 3⟩, 20),
      (withLaneRegs [(Off.TB_CFG, 1)] op, ⟨0, 200, 9, 1, .announce 7 3⟩, 20)]) ∧
  (Met (fun ((s, l) : State × Lane) => s.up = true ∧ s.quiet = true ∧ s.inVote l = true ∧ s.lanesIn.length = 3)
    [(op, .c)]) :=
  by
    and_intros <;> (repeat' apply Met.cons) <;>
      first | exact .nil | ((repeat refine ⟨_, rfl, ?_⟩); (try unfold RegsWf); (try unfold State.alike); (try simp only [everyLane]); decide +kernel)

/-- `PortCalibration`. -/
theorem witness_PortCalibration :
  (Met (fun ((s, v, p) : State × Word × Nat) => p = fld v 0 5 ∧ s.up = true ∧ fld v 16 16 = 0x5443 ∧ (s.sys.mode.code = 2 ∨ s.sys.mode = .safeHold) ∧
    p < 22 ∧ p < s.ftn.ports.length ∧ (s.port p).up = true)
    [({ hold with ftn := { hold.ftn with ports := List.replicate 22 { Reset.port with up := true } } }, 0x54430015, 21),
      ({ State.reset with ftn := { hold.ftn with ports := List.replicate 22 { Reset.port with up := true } } }, 0x54430000, 0)]) ∧
  (Met (fun ((s, v, cause) : State × Word × Nat) => RegsWf s ∧ s.up = true ∧ (cause = 3 ∧ fld v 16 16 ≠ 0x5443 ∨ cause = 1 ∧ fld v 16 16 = 0x5443 ∧
    s.sys.mode.code ≠ 2 ∧ s.sys.mode ≠ .safeHold ∨ cause = 2 ∧ fld v 16 16 = 0x5443 ∧ s.sys.mode = .safeHold ∧ 21 < fld v 0 5 ∨ cause = 4 ∧
      fld v 16 16 = 0x5443 ∧ s.sys.mode = .safeHold ∧ fld v 0 5 ≤ 21 ∧ (s.port (fld v 0 5)).up = false))
    [(op, 0, 3),
      (op, 0x54430000, 1),
      (hold, 0x54430016, 2),
      (hold, 0x54430015, 4)]) ∧
  (Met (fun ((s, p) : State × Nat) => s.up = true ∧ p < 20 ∧ p < s.ftn.ports.length ∧ s.portLive p = true ∧ (s.port p).calRun = true)
    [(withRegs [(Off.FTN_PORT_EN,
      0x3FFFFF)] { op with ftn := { op.ftn with ports := List.replicate 22 { Reset.port with up := true, calRun := true } } }, 19)]) ∧
  (Met (fun ((s, p) : State × Nat) => s.up = true ∧ p < 20 ∧ p < s.ftn.ports.length ∧ s.portLive p = true ∧ (s.port p).calRun = true ∧
    (s.port p).noStamp = false ∧ (s.port p).wayMeas.length < 64)
    [(withRegs [(Off.FTN_PORT_EN,
      0x3FFFFF)] { op with ftn := { op.ftn with ports := List.replicate 22 { Reset.port with up := true, calRun := true } } }, 0)]) ∧
  (Met (fun ((s, p) : State × Nat) => s.up = true ∧ p < 20 ∧ p < s.ftn.ports.length ∧ s.portLive p = true ∧ (s.port p).calRun = true ∧
    (s.port p).noStamp = false ∧ (s.port p).wayMeas.length = 64 ∧ (s.port p).loopMeas.length < 64)
    [(withRegs [(Off.FTN_PORT_EN,
      0x3FFFFF)] { op with ftn := { op.ftn with ports := List.replicate 22 { Reset.port with up := true, calRun := true, wayMeas := List.replicate 64 5 } } },
        19)]) ∧
  (Met (fun ((s, p) : State × Nat) => s.up = true ∧ p < 4 ∧ s.portLive p = true ∧ (s.port p).calRun = false ∧ (s.port p).noStamp = false)
    [(withRegs [(Off.FTN_PORT_EN, 0x3FFFFF)] { op with ftn := { op.ftn with ports := List.replicate 22 { Reset.port with up := true } } }, 3)]) ∧
  (Met (fun ((s, p) : State × Nat) => s.up = true ∧ p < 20 ∧ p < s.ftn.ports.length ∧ s.portLive p = true ∧ (p < 4 ∨ (s.port p).calRun = true))
    [(withRegs [(Off.FTN_PORT_EN, 0x3FFFFF)] { op with ftn := { op.ftn with ports := List.replicate 22 { Reset.port with up := true } } }, 3)]) ∧
  (Met (fun ((s, p, c) : State × Nat × Instr) => RegsWf s ∧ s.up = true ∧ p < 20 ∧ 4 ≤ p ∧ p - 4 < s.ftn.guards.length ∧ s.portLive p = true ∧
    (s.port p).calRun = false ∧ c ∈ [.calDev p 0, .calProbe p 0 0 0, .calReply p 0 0 0 0 0, .calLoopReq p, .calNoLoop p])
    [(withRegs [(Off.FTN_PORT_EN, 0x3FFFFF)] { op with ftn := { op.ftn with ports := List.replicate 22 { Reset.port with up := true } } }, 4,
      .calDev 4 0),
      (withRegs [(Off.FTN_PORT_EN, 0x3FFFFF)] { op with ftn := { op.ftn with ports := List.replicate 22 { Reset.port with up := true } } }, 19,
        .calProbe 19 0 0 0)]) ∧
  (Met (fun ((s, p, c) : State × Nat × Instr) => s.up = true ∧ p < s.ftn.ports.length ∧ (s.port p).calRun = true ∧ (c = .calNoLoop p ∧ p < 20 ∧
    s.portLive p = true ∨ c = .calibrationEnd p ∧ (s.port p).partnerDev = none ∧ (1 ≤ (s.port p).calStep ∨ 20 ≤ p)))
    [(withRegs [(Off.FTN_PORT_EN,
      0x3FFFFF)] { op with ftn := { op.ftn with ports := List.replicate 22 { Reset.port with up := true, calRun := true } } }, 0, .calNoLoop 0),
      ({ op with ftn := { op.ftn with ports := List.replicate 22 { Reset.port with calRun := true, calStep := 1 } } }, 19, .calibrationEnd 19),
      ({ op with ftn := { op.ftn with ports := List.replicate 22 { Reset.port with calRun := true } } }, 20, .calibrationEnd 20)]) ∧
  (Met (fun ((s, p) : State × Nat) => ∃ res : Int, res = meanInt (s.port p).wayMeas - meanInt (s.port p).loopMeas ∧ s.up = true ∧
    p < s.ftn.ports.length ∧ (s.port p).calRun = true ∧ (s.port p).noLoop = false ∧ 12 ≤ (s.port p).calStep ∧ (s.port p).partnerDev ≠ none ∧
      (s.port p).wayMeas.length = 64 ∧ (s.port p).loopMeas.length = 64)
    [({ op with ftn := { op.ftn with ports := List.replicate 22 { Reset.port with calRun := true, calStep := 12, partnerDev := some 0, wayMeas := List.replicate 64 512, loopMeas := List.replicate 64 0 } } },
      19),
      ({ op with ftn := { op.ftn with ports := List.replicate 22 { Reset.port with calRun := true, calStep := 12, partnerDev := some 0, wayMeas := List.replicate 64 513, loopMeas := List.replicate 64 0 } } },
        0)]) :=
  by
    and_intros <;> (repeat' apply Met.cons) <;>
      first | exact .nil | ((repeat refine ⟨_, rfl, ?_⟩); (try unfold RegsWf); decide +kernel)

/-- `Estimator`. -/
theorem witness_Estimator :
  (Met (fun s : State => s.up = true ∧ s.dio.enabled = true ∧ s.sys.dspFault = false ∧ (s.odoSource = 1 ∨ s.odoSource = 2) ∧ s.pisteIdle = true)
    [op,
      remoteSrc,
      { sensorsAre .ok op2 with now := 1000000 }]) ∧
  (Met (fun s : State => RegsWf s ∧ s.up = true ∧ s.dio.enabled = true ∧ s.sys.dspFault = false ∧ s.odoSource = 1 ∧ s.pisteIdle = true ∧
    s.odo.sensors.length = 4 ∧ fld (s.reg Off.ODO_CFG) 4 4 = 0 ∧ s.odo.bridged = false)
    [noSensors,
      { noSensors with odo := { noSensors.odo with inert := some (-1234567), vel := 5000000000 } }]) ∧
  (Met (fun s : State => s.up = true ∧ s.dio.enabled = true ∧ s.sys.dspFault = false ∧ s.odoSource = 2 ∧ s.pisteIdle = true ∧ s.odo.remote = none)
    [remoteSrc]) ∧
  (Met (fun ((s, r) : State × PosRec) => s.up = true ∧ s.dio.enabled = true ∧ s.sys.dspFault = false ∧ s.odoSource = 2 ∧ s.pisteIdle = true ∧
    s.odo.remote = some r)
    [(followed 0, posRecOf (List.replicate 32 1)),
      (followed 20000000, posRecOf (List.replicate 32 1)),
      ({ followed 0 with odo := { (followed 0).odo with remoteStale := true } }, posRecOf (List.replicate 32 1))]) ∧
  (Met (fun ((s, n, f) : State × Nat × Nat) => s.up = true ∧ s.dio.enabled = true ∧ s.sys.dspFault = false ∧ s.odoSource = 1 ∧ n < 4 ∧
    n < s.odo.sensors.length ∧ (s.sensor n).state = .rejoin ∧ (s.sensor n).fitSince = some f ∧ f + 200000000 ≤ s.now)
    [({ sensorsAre .rejoin op with now := 200000000 }, 0, 0),
      ({ sensorsAre .rejoin op2 with now := 1200000000 }, 3, 0)]) ∧
  (Met (fun ((s, n) : State × Nat) => s.up = true ∧ s.dio.enabled = true ∧ s.sys.dspFault = false ∧ s.odoSource = 1 ∧ n < 4 ∧
    n < s.odo.sensors.length ∧ (s.sensor n).state = .fault ∧ (s.sensor n).unfitAt + 1000000000 ≤ s.now ∧ (s.sensor n).alone < 4 ∧
      (s.sensor n).a.badSince = none ∧ (s.sensor n).b.badSince = none)
    [({ sensorsAre .fault op with now := 1000000000 }, 0),
      ({ sensorsAre .fault op2 with now := 1000000001 }, 3)]) ∧
  (Met (fun ((s, c) : State × Nat) => ∃ w : Nat, w = 10000000 * max 1 (fld (s.reg Off.ODO_CFG) 16 8) ∧ s.up = true ∧ s.dio.enabled = true ∧
    s.odoSource = 1 ∧ s.odo.standstill = false ∧ s.odo.bridged = false ∧ s.sys.dspFault = false ∧ (s.odo.sensors.any fun x => x.state == .ok) = true ∧
      s.odo.calmSince = some c ∧ c + w ≤ s.now ∧ (∀ x ∈ s.odo.sensors, x.state = .ok → x.edgeAt + w ≤ s.now))
    [({ sensorsAre .ok { op with odo := { op.odo with calmSince := some 0 } } with now := 500000000 }, 0),
      ({ sensorsAre .ok { op2 with odo := { op2.odo with calmSince := some 1000000, vel := -3 } } with now := 5000000000 }, 1000000)]) ∧
  (Met (fun s : State => s.up = true ∧ s.odo.bridged = true ∧ s.odoSource = 1 ∧ s.odo.haveFix = true ∧ s.sys.dspFault = false)
    [{ op with odo := { op.odo with bridged := true, haveFix := true, cls := 3 } },
      { op2 with odo := { op2.odo with bridged := true, haveFix := true, cls := 1 } },
      entryOf 3 [(0, 0x804)] [⟨3, true, false, 0, none, false,
        false⟩] { op with odo := { op.odo with bridged := true, haveFix := true, cls := 2 } }]) :=
  by
    and_intros <;> (repeat' apply Met.cons) <;>
      first | exact .nil | ((repeat refine ⟨_, rfl, ?_⟩); (try unfold RegsWf); decide +kernel)

/-- `FixesAndRemotePosition`: its clauses from FIX_SUBMIT to FIX_PROCESS. -/
theorem witness_PositionFixes :
  (Met (fun ((s, pos, cmd) : State × Int × Word) => RegsWf s ∧ s.up = true ∧ fld cmd 16 16 = 0x4658 ∧ s.odoSource ≠ 2 ∧ s.odo.pending = none ∧
    -9223372036854775808 ≤ pos ∧ pos < 9223372036854775808)
    [(op, 9223372036854775807, 0x46580001),
      (noSensors, -9223372036854775808, 0x46580000)]) ∧
  (Met (fun ((s, cmd, cause) : State × Word × Nat) => RegsWf s ∧ s.up = true ∧ (cause = 5 ∧ fld cmd 16 16 ≠ 0x4658 ∨ cause = 7 ∧
    fld cmd 16 16 = 0x4658 ∧ s.odoSource = 2 ∨ cause = 4 ∧ fld cmd 16 16 = 0x4658 ∧ s.odoSource ≠ 2 ∧ s.odo.pending ≠ none))
    [(op, 0x46590000, 5),
      (remoteSrc, 0x46580000, 7),
      ({ op with odo := { op.odo with pending := some ⟨5, 0, 1, 1, false⟩ } }, 0x46580000, 4)]) ∧
  (Met (fun ((s, f) : State × Fix) => ∃ corr : Int, corr = f.pos - um (s.estimateAt (extend f.time s.odo.estAt)).pos ∧ RegsWf s ∧ s.up = true ∧
    s.sys.dspFault = false ∧ s.odo.pending = some f ∧ s.odoSource ≠ 2 ∧ s.pisteIdle = true ∧ s.odo.calFix = none ∧
      (s.odo.estAt : Int) - 1000000000 ≤ extend f.time s.odo.estAt ∧ extend f.time s.odo.estAt ≤ s.odo.estAt ∧ f.force = false ∧ (s.odo.cls = 0 ∨
        corr.natAbs ≤ (s.estimateAt (extend f.time s.odo.estAt)).unc + 10 * f.acc + 1000 * fld (s.reg Off.ODO_FIX_CFG) 0 16))
    [({ op with odo := { op.odo with pending := some ⟨5000, 0, 1, 1, false⟩ } }, ⟨5000, 0, 1, 1, false⟩),
      ({ op2 with odo := { op2.odo with cls := 2, unc := 100, estAt := 1000000000, history := [⟨1000000000, 7000000, 3, []⟩], pending := some ⟨17, 1000000000, 1, 1, false⟩ } },
        ⟨17, 1000000000, 1, 1, false⟩)]) ∧
  (Met (fun ((s, f, cause) : State × Fix × Nat) => ∃ u : Int, u = extend f.time s.odo.estAt ∧ RegsWf s ∧ s.up = true ∧ s.sys.dspFault = false ∧
    s.odo.pending = some f ∧ s.odoSource ≠ 2 ∧ (cause = 2 ∧ u < (s.odo.estAt : Int) - 1000000000 ∨ cause = 3 ∧ (s.odo.estAt : Int) < u ∨
      (s.odo.estAt : Int) - 1000000000 ≤ u ∧ u ≤ s.odo.estAt ∧ (cause = 6 ∧ f.force = true ∧ s.odo.standstill = false ∧ 1 < s.odo.cls ∨ cause = 1 ∧
        f.force = false ∧ s.odo.cls ≠ 0 ∧ s.odo.gateRun = [] ∧
          (s.estimateAt u).unc + 10 * f.acc + 1000 * fld (s.reg Off.ODO_FIX_CFG) 0 16 < (f.pos - um (s.estimateAt u).pos).natAbs)))
    [({ op with odo := { op.odo with estAt := 1000001000, pending := some ⟨5000, 0, 1, 1, false⟩ } }, ⟨5000, 0, 1, 1, false⟩, 2),
      ({ op with odo := { op.odo with pending := some ⟨5000, 1, 1, 1, true⟩ } }, ⟨5000, 1, 1, 1, true⟩, 3),
      ({ op with odo := { op.odo with cls := 3, unc := 100, pending := some ⟨100000000, 0, 1, 1, false⟩ } }, ⟨100000000, 0, 1, 1, false⟩, 1),
      ({ op with odo := { op.odo with cls := 2, unc := 100, pending := some ⟨0, 0, 1, 1, true⟩ } }, ⟨0, 0, 1, 1, true⟩, 6)]) :=
  by
    and_intros <;> (repeat' apply Met.cons) <;>
      first | exact .nil | ((repeat refine ⟨_, rfl, ?_⟩); unfold RegsWf; decide +kernel)

/-- `FixesAndRemotePosition`: its clauses from REMOTE_RECORD to ODO_POS_READ. -/
theorem witness_RemoteAndPositionRead :
  (Met (fun ((s, node, payload) : State × Nat × List Byte) => ∃ r : PosRec, r = posRecOf payload ∧ s.up = true ∧ s.odoSource = 2 ∧
    payload.length = 32 ∧ node = fld (s.reg Off.ODO_REMOTE_CFG) 0 14)
    [(remoteSrc, 0, List.replicate 32 0),
      (withRegs [(Off.ODO_CFG, 0x43209F2), (Off.ODO_REMOTE_CFG, 0x2103FFF)] op2, 0x3FFF, List.replicate 19 0xF0 ++ [3] ++ List.replicate 12 0)]) ∧
  (Met (fun ((s, node, payload, c) : State × Nat × List Byte × Instr) => RegsWf s ∧ s.up = true ∧ s.odoSource = 2 ∧ (c = .remoteStale ∧
    s.odo.remote ≠ none ∧ s.odo.remoteStale = false ∨ c = .remoteRecord node payload ∧ payload.length = 32 ∧
      node ≠ fld (s.reg Off.ODO_REMOTE_CFG) 0 14))
    [(followed 0, 5, List.replicate 32 0, .remoteStale),
      (remoteSrc, 5, List.replicate 32 0, .remoteRecord 5 (List.replicate 32 0))]) ∧
  (Met (fun ((s, l) : State × Lane) => s.up = true ∧ s.inVote l = true)
    [(op, .a),
      (op2, .b)]) :=
  by
    and_intros <;> (repeat' apply Met.cons) <;>
      first | exact .nil | ((repeat refine ⟨_, rfl, ?_⟩); (try unfold RegsWf); decide +kernel)

/-- `SupplyDomain`: its clauses from SUP_RANGE_FAULT to SUP_TRACKER_UPDATE. -/
theorem witness_SupplyTracker :
  (Met (fun ((s, n, a) : State × Nat × Nat) => RegsWf s ∧ s.dspOn = true ∧ n < 4 ∧ n < s.sup.chans.length ∧ (s.chan n).range = false ∧
    (s.chMode n = 1 ∨ s.chMode n = 2) ∧ (s.chan n).outAt = some a ∧ a + 1000000 < s.now ∧ (n = s.refCh → s.sup.lock ≠ .locked ∧
      s.sup.lock ≠ .acquire))
    [(outOf 0, 0, 0),
      (outOf 3, 3, 0)]) ∧
  (Met (fun ((s, n, a) : State × Nat × Nat) => s.dspOn = true ∧ n < 4 ∧ n < s.sup.chans.length ∧ (s.chan n).range = false ∧ (s.chMode n = 1 ∨
    s.chMode n = 2) ∧ (s.chan n).outAt = some a ∧ a + 1000000 < s.now ∧ n = s.refCh ∧ s.sup.lock = .locked)
    [({ outOf 0 with sup := { (outOf 0).sup with lock := .locked } }, 3, 0)]) ∧
  (Met (fun ((s, n, a) : State × Nat × Nat) => s.dspOn = true ∧ n < 4 ∧ n < s.sup.chans.length ∧ (s.chan n).backAt = some a ∧ a + 100000000 ≤ s.now)
    [({ outOf 0 with now := 100000000 }, 1, 0)]) ∧
  (Met (fun ((s, l) : State × Lane) => s.dspOn = true ∧ s.sup.spares.get l = none)
    [(op, .a),
      ({ op with sup := { op.sup with spares := Tri.mk (some 0) (some 3) none, calNext := 3, calAt := 7 } }, .c)]) ∧
  (Met (fun ((s, l, fails) : State × Lane × BitVec 3) => RegsWf s ∧ s.dspOn = true ∧ fails = 1 <<< l.idx ∧ s.sup.spares.get l = none)
    [(op, .b, 2),
      ({ op with erec := { op.erec with state := .notReady } }, .a, 1)]) ∧
  (Met (fun ((s, n, v, c) : State × Nat × Lock × Instr) => RegsWf s ∧ s.dspOn = true ∧ s.sup.lock ≠ v ∧ (c = .supLockChange n ∧ v = lockOf n ∧
    (s.trackOff = true ∧ v = .off ∨ s.trackOff = false ∧ (s.signal = false ∧ (s.sup.lock = .off ∨ s.sup.lock = .acquire) ∧ v = .noSignal ∨
      s.signal = true ∧ (s.sup.lock = .off ∨ s.sup.lock = .noSignal ∨ s.sup.lock = .hold) ∧ v = .acquire ∨ s.signal = true ∧ s.sup.lock = .acquire ∧
        20 ≤ s.sup.goodRun ∧ v = .locked ∨ s.sup.lock = .locked ∧ (s.signal = false ∨ s.sup.freq < 14000000 ∨ 70000000 < s.sup.freq) ∧ v = .hold ∨
          s.sup.lock = .locked ∧ 2 ≤ s.sup.jumpRun ∧ v = .acquire)) ∨ c = .supHoldExpiry ∧ s.sup.lock = .hold ∧ v = .noSignal))
    [(withRegs [(Off.SUP_CFG, 0x3F0006)] { supplied with sup := { signalOn.sup with lock := .locked, freq := 50000000, phase := 7 } }, 8, .off,
      .supLockChange 8),
      (signalOn, 2, .acquire, .supLockChange 2),
      (supplied, 1, .noSignal, .supLockChange 1),
      ({ supplied with sup := { supplied.sup with lock := .hold, freq := 50000000, phase := 7 } }, 2, .noSignal, .supHoldExpiry),
      ({ signalOn with sup := { signalOn.sup with lock := .acquire, goodRun := 20 } }, 3, .locked, .supLockChange 3),
      ({ signalOn with sup := { signalOn.sup with lock := .locked, freq := 13999999 } }, 4, .hold, .supLockChange 4),
      ({ signalOn with sup := { signalOn.sup with lock := .locked, freq := 50000000, jumpRun := 2 } }, 2, .acquire, .supLockChange 2)]) ∧
  (Met (fun ((s, freq) : State × Nat) => s.dspOn = true ∧ s.pisteIdle = true ∧ freq < 4294967296)
    [({ supplied with sup := { supplied.sup with lock := .locked, measFreq := 50000000, slope := 3 } }, 4294967295),
      ({ supplied with sup := { supplied.sup with lock := .acquire } }, 50000),
      (op, 50000),
      ({ supplied with sup := { supplied.sup with lock := .noSignal } }, 50000),
      ({ supplied with sup := { supplied.sup with lock := .hold } }, 50000)]) :=
  by
    and_intros <;> (repeat' apply Met.cons) <;>
      first | exact .nil | ((try unfold RegsWf); decide +kernel)

/-- `SupplyDomain`: its clauses from DISTURBANCE_START to SUP_DIST_HEAD_READ. -/
theorem witness_Disturbances :
  (Met (fun ((s, cls, ch, f, a, v, l) : State × Nat × Nat × Nat × Nat × Int × Int) => RegsWf s ∧ s.dspOn = true ∧ s.classifies cls ch = true ∧
    (cls = 1 ∧ v = (s.chan ch).val ∧ (v < s.supLimit 1 ∧ l = s.supLimit 1 ∨ (s.supLimit 1 : Int) ≤ v ∧ v < s.supLimit 2 ∧ l = s.supLimit 2 ∧
      (s.chan ch).lowAt = some a ∧ a + 120000000000 ≤ s.tb0) ∨ cls = 2 ∧ v = (s.chan ch).val ∧ (s.supLimit 4 < v ∧ l = s.supLimit 4 ∨
        s.supLimit 3 < v ∧ v ≤ s.supLimit 4 ∧ l = s.supLimit 3 ∧ (s.chan ch).highAt = some a ∧ a + 300000000000 ≤ s.tb0) ∨ cls = 3 ∧
          v = (s.chan ch).val ∧ v < s.brokenLimit ∧ l = s.brokenLimit ∨ cls = 4 ∧ v = (s.chan ch).dev ∧ s.spikeLimit < v ∧ l = s.spikeLimit ∧
            (s.chan ch).long = false ∨ cls = 5 ∧ s.sup.means.freq = some f ∧ (f < s.supLimit 5 * 1000 ∨ s.supLimit 6 * 1000 < f) ∧ v = f ∧ l = 0 ∨
              cls = 6 ∧ s.sup.means.thd = some f ∧ s.supLimit 7 < f ∧ v = f ∧ l = s.supLimit 7) ∧ (∀ d ∈ s.sup.active, d.chan ≠ ch) ∧
                s.sup.ended = [])
    [(valued 0 supplied, 1, 0, 0, 0, 0, 17500000),
      (lowFor 18000000, 1, 0, 0, 0, 18000000, 19000000),
      (valued 30000000 supplied, 2, 3, 0, 0, 30000000, 29000000),
      (valued 28000000 { supplied with time := (lowFor 5).time }, 2, 0, 0, 0, 28000000, 27500000),
      (valued 0 supplied, 3, 0, 0, 0, 0, 2500000),
      (valued 0 supplied, 4, 0, 0, 0, 20000000, 10606500),
      (valued 0 supplied, 5, 0, 40000000, 0, 40000000, 0),
      (valued 0 supplied, 6, 0, 2000, 0, 2000, 1000)]) ∧
  (Met (fun ((s, cls, ch, f, a, v, l, at_, start, x) : State × Nat × Nat × Nat × Nat × Int × Int × Nat × Nat × Int) => RegsWf s ∧ s.dspOn = true ∧
    s.classifies cls ch = true ∧ (cls = 1 ∧ v = (s.chan ch).val ∧ (v < s.supLimit 1 ∧ l = s.supLimit 1 ∨ (s.supLimit 1 : Int) ≤ v ∧ v < s.supLimit 2 ∧
      l = s.supLimit 2 ∧ (s.chan ch).lowAt = some a ∧ a + 120000000000 ≤ s.tb0) ∨ cls = 2 ∧ v = (s.chan ch).val ∧ (s.supLimit 4 < v ∧
        l = s.supLimit 4 ∨ s.supLimit 3 < v ∧ v ≤ s.supLimit 4 ∧ l = s.supLimit 3 ∧ (s.chan ch).highAt = some a ∧ a + 300000000000 ≤ s.tb0) ∨
          cls = 3 ∧ v = (s.chan ch).val ∧ v < s.brokenLimit ∧ l = s.brokenLimit ∨ cls = 4 ∧ v = (s.chan ch).dev ∧ s.spikeLimit < v ∧
            l = s.spikeLimit ∧ (s.chan ch).long = false ∨ cls = 5 ∧ s.sup.means.freq = some f ∧ (f < s.supLimit 5 * 1000 ∨ s.supLimit 6 * 1000 < f) ∧
              v = f ∧ l = 0 ∨ cls = 6 ∧ s.sup.means.thd = some f ∧ s.supLimit 7 < f ∧ v = f ∧ l = s.supLimit 7) ∧ (∀ d ∈ s.sup.active, d.chan ≠ ch) ∧
                s.sup.ended = [(cls, ch, at_, start, x)] ∧ s.tb0 ≤ at_ + 20000000)
    [({ valued 0 supplied with sup := { (valued 0 supplied).sup with ended := [(3, 0, 5, 2, 77)] } }, 3, 0, 0, 0, 0, 2500000, 5, 2, 77)]) ∧
  (Met (fun ((s, ch, d) : State × Nat × Dist) => s.dspOn = true ∧ s.classifies 3 ch = true ∧ (s.chan ch).val < s.brokenLimit ∧ d.cls = 1 ∧
    d.chan = ch ∧ s.sup.active = [d] ∧ s.sup.ended = [])
    [({ valued 0 supplied with sup := { (valued 0 supplied).sup with active := [⟨1, 0, 0, 100, 17500000⟩] } }, 0, ⟨1, 0, 0, 100, 17500000⟩)]) ∧
  (Met (fun ((s, d, f) : State × Dist × Nat) => RegsWf s ∧ s.dspOn = true ∧ s.sup.active = [d] ∧ s.classifies d.cls d.chan = true ∧ ((d.cls = 1 ∨
    d.cls = 3) ∧ d.limit + (s.supLimit 0 * 2 / 100 : Nat) < (s.chan d.chan).val ∨ d.cls = 2 ∧
      (s.chan d.chan).val < d.limit - (s.supLimit 0 * 2 / 100 : Nat) ∨ d.cls = 4 ∧ 20 ≤ (s.chan d.chan).within ∨ d.cls = 5 ∧
        s.sup.means.freq = some f ∧ s.supLimit 5 * 1000 ≤ f ∧ f ≤ s.supLimit 6 * 1000 ∨ d.cls = 6 ∧ s.sup.means.thd ≠ none ∧ s.harmHigh = false) ∧
          s.sup.fifo.length < 16)
    [(ending ⟨1, 0, 0, 100, 17500000⟩ [], ⟨1, 0, 0, 100, 17500000⟩, 0),
      (ending ⟨6, 0, 0, 100, 1000⟩ (List.replicate 15 ⟨0, 0, 0, 0⟩), ⟨6, 0, 0, 100, 1000⟩, 0),
      (ending ⟨5, 0, 0, 100, 0⟩ [], ⟨5, 0, 0, 100, 0⟩, 50000000)]) ∧
  (Met (fun ((s, d, f) : State × Dist × Nat) => RegsWf s ∧ s.dspOn = true ∧ s.sup.active = [d] ∧ s.classifies d.cls d.chan = true ∧ ((d.cls = 1 ∨
    d.cls = 3) ∧ d.limit + (s.supLimit 0 * 2 / 100 : Nat) < (s.chan d.chan).val ∨ d.cls = 2 ∧
      (s.chan d.chan).val < d.limit - (s.supLimit 0 * 2 / 100 : Nat) ∨ d.cls = 4 ∧ 20 ≤ (s.chan d.chan).within ∨ d.cls = 5 ∧
        s.sup.means.freq = some f ∧ s.supLimit 5 * 1000 ≤ f ∧ f ≤ s.supLimit 6 * 1000 ∨ d.cls = 6 ∧ s.sup.means.thd ≠ none ∧ s.harmHigh = false) ∧
          16 ≤ s.sup.fifo.length)
    [(ending ⟨4, 3, 0, 100, 10606500⟩ (List.replicate 16 ⟨0, 0, 0, 0⟩), ⟨4, 3, 0, 100, 10606500⟩, 0)]) ∧
  (Met (fun ((s, e, rest) : State × DistEntry × List DistEntry) => s.up = true ∧ s.sup.fifo = e :: rest)
    [({ op with sup := { op.sup with fifo := [⟨1, 2, 3, 4⟩] } }, ⟨1, 2, 3, 4⟩, []),
      ({ op2 with sup := { op.sup with fifo := List.replicate 16 ⟨1, 2, 3, 4⟩ } }, ⟨1, 2, 3, 4⟩, List.replicate 15 ⟨1, 2, 3, 4⟩)]) ∧
  (Met (fun s : State => s.up = true ∧ s.sup.fifo = [])
    [op]) :=
  by refine ⟨?_,
      .cons (by unfold RegsWf; and_intros <;> decide +kernel) .nil,
      ?_, ?_, ?_, ?_, ?_⟩ <;>
    (repeat' apply Met.cons) <;>
      first | exact .nil | ((try unfold RegsWf); decide +kernel)

/-- `PisteOccurrences`. -/
theorem witness_PisteOccurrences :
  (Met (fun ((s, n, a, sl) : State × Nat × Armed × BitVec 3) => ∃ d : Nat, d = eDom (s.eCtrl n) ∧ RegsWf s ∧ s.comparing = true ∧ s.edgeFree = true ∧
    2 ≤ s.reports sl ∧ n < 1024 ∧ s.comparers = [n] ∧ s.armedOf n = some a ∧ a.waitAt = none ∧ s.comesToTrigger n a ∧ (d = 5 → s.sup.lock = .locked) ∧
      ePeriodic (s.eCtrl n) = false ∧ s.qualOk n = true ∧ fld (s.eAction n) 0 5 = 0 ∧ fld (s.entryWord n 4) 0 4 = 0 ∧ fld (s.entryWord n 5) 0 4 = 0)
    [(entryOf 0 [(1, 5000), (7, 1)] [⟨0, false, false, 0, none, false, false⟩] op, 0, ⟨0, false, false, 0, none, false, false⟩, 7),
      (entryOf 1023 [(0, 3), (1, 5000), (7, 0xFFFF0001)] [⟨2, false, false, 0, some 0, false, false⟩, ⟨1023, false, false, 0, none, false,
        false⟩] op2, 1023, ⟨1023, false, false, 0, none, false, false⟩, 3),
      (entryOf 7 [(0, 4), (7, 1)] [⟨7, false, false, 0, none, false, false⟩] op, 7, ⟨7, false, false, 0, none, false, false⟩, 6),
      (entryOf 7 [(0, 0x24), (1, 0xFFFFFFFF), (2, 0xFFFFFFFF), (7, 1)] [⟨7, false, false, 0, none, false,
        false⟩] { op with now := 4, odo := { op.odo with pos := -2000000 } }, 7, ⟨7, false, false, 0, none, false, false⟩, 6),
      (let x := entryOf 7 [(0, 5), (1, 5000), (7, 1)] [⟨7, false, false, 0, none, false,
        false⟩] hold; { x with sup := { x.sup with lock := .locked, phase := 5000 } }, 7, ⟨7, false, false, 0, none, false, false⟩, 5)]) ∧
  (Met (fun ((s, n, a, sl) : State × Nat × Armed × BitVec 3) => RegsWf s ∧ s.comparing = true ∧ s.edgeFree = true ∧ 2 ≤ s.reports sl ∧
    s.comparers = [n] ∧ s.armedOf n = some a ∧ a.waitAt = none ∧ s.comesToTrigger n a ∧ eDom (s.eCtrl n) = 5 ∧ s.sup.lock ≠ .locked)
    [(let x := entryOf 7 [(0, 5), (1, 5), (7, 1)] [⟨7, false, false, 0, none, false, false⟩] op; { x with sup := { x.sup with phase := 5000 } }, 7,
      ⟨7, false, false, 0, none, false, false⟩, 5)]) ∧
  (Met (fun ((s, n, cause, a, sl) : State × Nat × Nat × Armed × BitVec 3) => RegsWf s ∧ s.comparing = true ∧ s.edgeFree = true ∧ 2 ≤ s.reports sl ∧
    n < 1024 ∧ s.comparers = [n] ∧ s.armedOf n = some a ∧ a.waitAt = none ∧ s.comesToTrigger n a ∧ 4 ≤ eDom (s.eCtrl n) ∧
      (eDom (s.eCtrl n) = 5 → s.sup.lock = .locked) ∧ ePeriodic (s.eCtrl n) = false ∧ bit (s.eAction n) 4 = false ∧ cause = s.condFail n ∧ cause ≠ 0)
    [(let x := entryOf 1023 [(0, 5), (1, 4), (4, 1), (7, 1)] [⟨1023, false, false, 0, none, false,
      false⟩] op; { x with sup := { x.sup with lock := .locked, phase := 7 } }, 1023, 7, ⟨1023, false, false, 0, none, false, false⟩, 7),
      (let x := entryOf 0 [(0, 0x105), (1, 4), (4, 1), (7, 1)] [⟨0, false, false, 0, none, false,
        false⟩] op; { x with sup := { x.sup with lock := .locked, phase := 7 } }, 0, 7, ⟨0, false, false, 0, none, false, false⟩, 7),
      (entryOf 7 [(0, 4), (4, 3), (5, 8), (7, 1)] [⟨7, false, false, 0, none, false, false⟩] op2, 7, 7, ⟨7, false, false, 0, none, false, false⟩,
        6)]) ∧
  (Met (fun ((s, n, a) : State × Nat × Armed) => RegsWf s ∧ s.comparing = true ∧ s.edgeFree = true ∧ n < 1024 ∧ s.armedOf n = some a ∧
    a.waitAt.isSome = true ∧ a.slow = true ∧ s.fastOk n = true ∧ ePeriodic (s.eCtrl n) = false ∧ fld (s.eAction n) 0 4 = 0)
    [(entryOf 0 [(7, 2)] [⟨0, false, true, 0, some 0, true, false⟩] op, 0, ⟨0, false, true, 0, some 0, true, false⟩),
      (entryOf 1023 [(6, 16), (7, 0xFFFF0002)] [⟨1023, false, true, 0, some 0, true, false⟩] hold, 1023, ⟨1023, false, true, 0, some 0, true,
        false⟩)]) ∧
  (Met (fun ((s, n, at_, a) : State × Nat × Nat × Armed) => RegsWf s ∧ s.comparing = true ∧ n < 1024 ∧ s.armedOf n = some a ∧ a.waitAt = some at_ ∧
    ePeriodic (s.eCtrl n) = false)
    [(entryOf 1023 [(6, 16), (7, 0xFFFF0002)] [⟨1023, false, true, 0, some 0, false, false⟩] hold, 1023, 0, ⟨1023, false, true, 0, some 0, false,
      false⟩),
      (entryOf 0 [(7, 2)] [⟨0, false, true, 0, some 5, false, false⟩] op, 0, 5, ⟨0, false, true, 0, some 5, false, false⟩)]) :=
  by
    and_intros <;> (repeat' apply Met.cons) <;>
      first | exact .nil | ((repeat refine ⟨_, rfl, ?_⟩); (try unfold RegsWf); (try unfold State.comesToTrigger); decide +kernel)

/-- `PisteCommands`: its clauses from ARM to DISARM_ALL. -/
theorem witness_PisteArming :
  (Met (fun ((s, n, v, c) : State × Nat × Word × Instr) => RegsWf s ∧ s.up = true ∧ s.edgeFree = true ∧ n < 1024 ∧ (c = .arm v ∧ n = fld v 16 10 ∨
    c = .armMask v ∧ s.masked = [n]))
    [(entryOf 1023 [(1, 5000)] [] op, 1023, 0x03FF0001, .arm 0x03FF0001),
      ({ entryOf 0 [(1, 5000)] [] op with regs := [(Off.PST_ARM_MASK, 1), (Off.PST_ENTRY_W1, 5000)] }, 0, 3, .armMask 3),
      (entryOf 5 [(0, 6)] [] op, 5, 0x50001, .arm 0x50001),
      (entryOf 5 [] [] op, 5, 0x50001, .arm 0x50001),
      (entryOf 5 [(0, 4), (7, 1)] [⟨5, false, false, 0, none, false, false⟩] op, 5, 0x50001, .arm 0x50001)]) ∧
  (Met (fun ((s, v, c, sel) : State × Word × Instr × List Nat) => RegsWf s ∧ s.up = true ∧ (c = .disarm v ∧ sel = [fld v 16 10] ∨ c = .disarmMask v ∧
    sel = s.masked ∨ c = .disarmAll v ∧ sel = List.range 1024))
    [(entryOf 1023 [(7, 0x30001)] [⟨1023, false, false, 0, none, false, false⟩] op, 0x03FF0002, .disarm 0x03FF0002, [1023]),
      ({ entryOf 0 [] [⟨0, false, false, 0, none, false, false⟩] op with regs := [(Off.PST_ARM_MASK, 3)] }, 4, .disarmMask 4,
        ({ entryOf 0 [] [⟨0, false, false, 0, none, false, false⟩] op with regs := [(Off.PST_ARM_MASK, 3)] } : State).masked),
      (entryOf 1023 [(7, 0x30001)] [⟨1023, false, false, 0, none, false, false⟩] op2, 5, .disarmAll 5, List.range 1024)]) :=
  by
    and_intros <;> (repeat' apply Met.cons) <;>
      first | exact .nil | (unfold RegsWf; decide +kernel)

/-- `PisteCommands`: its clauses from PULSE_END to PISTE_STORE_SCRUB. -/
theorem witness_PisteStore :
  (Met (fun ((s, n, p, rest) : State × Nat × Pulse × List Pulse) => RegsWf s ∧ s.up = true ∧ s.pst.pulses.filter (fun x => x.index == n) = p :: rest ∧
    (∀ x ∈ rest, p.endAt < x.endAt))
    [({ op with pst := { op.pst with pulses := [⟨3, true, 7, 50, false⟩], sync := 0x80 } }, 3, ⟨3, true, 7, 50, false⟩, []),
      ({ op with pst := { op.pst with pulses := [⟨3, false, 15, 50, false⟩, ⟨2, true, 1, 5, false⟩, ⟨3, true, 1, 51, false⟩], doLevel := 0x8000 } },
        3, ⟨3, false, 15, 50, false⟩, [⟨3, true, 1, 51, false⟩]),
      ({ op with pst := { op.pst with pulses := [⟨3, false, 15, 50, true⟩], doLevel := 0x8000 } }, 3, ⟨3, false, 15, 50, true⟩, [])]) ∧
  (Met (fun ((s, n, w) : State × Nat × Nat) => RegsWf s ∧ s.up = true ∧ n < 1024 ∧ w < 8)
    [(op, 1023, 6),
      (op, 0, 7),
      (entryOf 5 [(0, 4), (7, 1)] [⟨5, false, false, 0, none, false, false⟩] op, 5, 0)]) ∧
  (Met (fun ((s, e, rest) : State × Fire × List Fire) => s.up = true ∧ s.pst.fifo = e :: rest)
    [({ op with pst := { op.pst with fifo := [⟨1, 2⟩] } }, ⟨1, 2⟩, []),
      ({ op2 with pst := { op.pst with fifo := List.replicate 64 ⟨1, 2⟩ } }, ⟨1, 2⟩, List.replicate 63 ⟨1, 2⟩)]) ∧
  (Met (fun s : State => s.up = true ∧ s.pst.fifo = [])
    [op]) ∧
  (Met (fun ((s, n) : State × Nat) => RegsWf s ∧ s.up = true ∧ n < 1024)
    [(entryOf 1023 [(7, 0x30001)] [⟨1023, false, false, 0, none, false, false⟩] op, 1023),
      (op2, 0)]) :=
  by
    and_intros <;> (repeat' apply Met.cons) <;>
      first | exact .nil | ((try unfold RegsWf); decide +kernel)

/-- `BasicCycles`. -/
theorem witness_BasicCycles :
  (Met (fun s : State => ∃ n : Nat, n = s.nextCycle ∧ RegsWf s ∧ s.up = true ∧ n % s.matrix.m ≠ 0 ∧ s.ftn.su ≠ .coldstart ∧ 0 < s.time.tb0.rate)
    [op,
      { net [] op2 with ftn := { (net [] op2).ftn with links := Reset.link :: { Reset.link with broken := true } :: List.replicate 2 Reset.link } }]) ∧
  (Met (fun ((s, from_) : State × Nat) => ∃ n : Nat, n = s.nextCycle ∧ RegsWf s ∧ s.up = true ∧ n % s.matrix.m = 0 ∧ s.shadows = [] ∧
    (∀ l ∈ s.ftn.links, l.restoreAt = none ∧ l.broken = false) ∧ s.ftn.su = .aligned ∧ s.ftn.countFrom = some from_ ∧ s.ftn.ccMatch = true ∧
      1 ≤ s.ftn.match_ ∧ s.sys.mode ≠ .integrate ∧ s.odo.takeFrom = none)
    [(let x := tb0At 15750000 op; { x with ftn := { op.ftn with su := .aligned, cycle := 63, countFrom := some 0, ccMatch := true, match_ := 1 } },
      0)]) ∧
  (Met (fun s : State => ∃ n : Nat, n = s.nextCycle ∧ RegsWf s ∧ s.up = true ∧ n % s.matrix.m ≠ 0 ∧ s.ftn.su = .coldstart ∧ s.roleOf false = .normal ∧
    s.roleOf true = .normal ∧ s.txLive = true)
    [linked { op with ftn := { op.ftn with su := .coldstart } },
      linked { op2 with ftn := { op2.ftn with su := .coldstart, coldFrom := some 0, cycle := 3 } }]) ∧
  (Met (fun ((s, c) : State × Nat) => ∃ cp : Word, cp = s.reg (Off.FTN_CP + 4 * c) ∧ c < 32 ∧ s.ftn.su = .integrated ∧
    s.bIdx % 2 ^ fld cp 2 3 = fld cp 5 6 ∧ bit cp 1 = false ∧ 0 < s.time.tb0.rate ∧ bit s.ftn.cpErr c = false)
    [(withRegs [(Off.FTN_CP, 0x00064001)] (net [] op), 0),
      (net [] op2, 31)]) ∧
  (Met (fun ((s, c) : State × Nat) => ∃ cp : Word, cp = s.reg (Off.FTN_CP + 4 * c) ∧ c < 32 ∧ s.ftn.su = .integrated ∧
    s.bIdx % 2 ^ fld cp 2 3 = fld cp 5 6 ∧ bit cp 1 = false ∧ 0 < s.time.tb0.rate ∧ bit s.ftn.cpErr c = true)
    [({ net [] op with ftn := { (net [] op).ftn with cpErr := 0x80000000 } }, 31)]) ∧
  (Met (fun ((s, v) : State × SyncVal) => RegsWf s ∧ s.up = true ∧ s.ftn.su = .integrated ∧ s.ftn.active.entries = [] ∧
    s.ftn.sync.filterMap id = [v] ∧ s.syncNode = false ∧ v.dev.natAbs ≤ max 1 (fld (s.reg Off.FTN_SU_CFG) 8 8) * 25600 ∧ (∀ l : Lane,
      s.servoOn 0 l = false) ∧ s.discards < 4)
    [(let x := net [] (withLaneRegs [(Off.TB_SERVO_CFG,
      2)] op); { x with ftn := { x.ftn with sync := some ⟨25600, 1, false, true⟩ :: List.replicate 14 none } }, ⟨25600, 1, false, true⟩),
      (let x := net [] (withLaneRegs [(Off.TB_SERVO_CFG,
        2)] op); { x with ftn := { x.ftn with sync := List.replicate 14 none ++ [some ⟨-25600, 1, false, false⟩] } }, ⟨-25600, 1, false, false⟩)]) ∧
  (Met (fun ((s, i, e) : State × Nat × Slot) => RegsWf s ∧ s.up = true ∧ s.ftn.su = .integrated ∧ s.ftn.active.entries = [(i, e)] ∧ e.rx = true ∧
    e.kind ≠ 2 ∧ e.occurs s.bIdx = true ∧ (s.rxOf i).got = false ∧ s.ftn.sync.filterMap id = [] ∧ s.syncNode = false)
    [(net [(5, rxEntry)] op, 5, rxEntry),
      (net [(5, { rxEntry with w3 := 5, w0 := 0x14100 })] op, 5, { rxEntry with w3 := 5, w0 := 0x14100 })]) :=
  by
    and_intros <;> (repeat' apply Met.cons) <;>
      first | exact .nil | ((repeat refine ⟨_, rfl, ?_⟩); (try unfold RegsWf); (try simp only [everyLane]); decide +kernel)

/-- `SendingFrames`. -/
theorem witness_SendingFrames :
  (Met (fun ((s, i, n, tx, kind, e, be) : State × Nat × Nat × Nat × Nat × Slot × Bool) => RegsWf s ∧ s.up = true ∧ s.ftn.su = .integrated ∧
    s.ftn.active.entry i = some e ∧ s.buildAt e.start = some (n, tx) ∧ e.owner = s.ownAddr ∧ e.occurs (n % s.matrix.m) = true ∧ e.starFwd = 0 ∧
      s.bothLive = true ∧ (kind = 3 ∧ e.kind = 1 ∨ kind = 2 ∧ e.kind = 0 ∧ s.nullReason e tx be ≠ 0 ∨ kind = 1 ∧ e.kind = 0 ∧
        s.nullReason e tx be = 0))
    [(linked (net [(0, ⟨0x14000, 10000, 0x1403E8, 0, 0⟩)] op), 0, 0, 10000, 3, ⟨0x14000, 10000, 0x1403E8, 0, 0⟩, false),
      (linked (net [(5, ⟨0x4000, 1996, 0x403E8, 0, 0⟩)] op), 5, 1, 251996, 2, ⟨0x4000, 1996, 0x403E8, 0, 0⟩, true),
      (linked (net [(5, ⟨0x4000, 2000, 0x403E8, 0, 0⟩)] hold), 5, 0, 2000, 2, ⟨0x4000, 2000, 0x403E8, 0, 0⟩, false),
      (let x := linked (net [(5, ⟨0x4000, 10000, 0x403E8, 0x36,
        0⟩)] op); { x with ftn := { x.ftn with txBufs := [(3, ⟨.prepared, 65535, 0x00050007, 9, [(0, 0x01020304)]⟩)] } }, 5, 0, 10000, 1, ⟨0x4000,
          10000, 0x403E8, 0x36, 0⟩, false),
      (let x := linked (net [(5, ⟨0x4000, 10000, 0x403E8, 0,
        0⟩)] op); { x with cyc := { x.cyc with released := true, image := some ⟨1, 0, [1, 2, 3, 4]⟩ } }, 5, 0, 10000, 1, ⟨0x4000, 10000, 0x403E8, 0,
          0⟩, false)]) ∧
  (Met (fun ((s, i, n, tx, e) : State × Nat × Nat × Nat × Slot) => s.up = true ∧ s.ftn.active.entry i = some e ∧ s.buildAt e.start = some (n, tx) ∧
    e.owner = s.ownAddr ∧ e.occurs (n % s.matrix.m) = true)
    [(net [(5, ⟨0x4000, 10000, 0x403E8, 0, 0⟩)] op, 5, 0, 10000, ⟨0x4000, 10000, 0x403E8, 0, 0⟩)]) ∧
  (Met (fun ((s, i, n, tx, e, q) : State × Nat × Nat × Nat × Slot × Queued) => s.up = true ∧ s.ftn.su = .integrated ∧ s.ftn.active.entry i = some e ∧
    e.kind = 2 ∧ s.buildAt e.start = some (n, tx) ∧ e.owner = s.ownAddr ∧ e.occurs (n % s.matrix.m) = true ∧ e.starFwd = 0 ∧ s.bothLive = true ∧
      s.ftn.arb = [q] ∧ q.frame.source ≠ s.ownAddr ∧ s.starMask q.frame = 0)
    [(let x := linked (net [(9, ⟨0x24000, 20000, 2000, 0, 0⟩)] op); { x with ftn := { x.ftn with arb := [⟨slotFrame, 0⟩] } }, 9, 0, 20000, ⟨0x24000,
      20000, 2000, 0, 0⟩, ⟨slotFrame, 0⟩)]) ∧
  (Met (fun ((s, i, n, tx, e) : State × Nat × Nat × Nat × Slot) => s.up = true ∧ s.ftn.su = .integrated ∧ s.ftn.active.entry i = some e ∧ e.kind = 2 ∧
    s.buildAt e.start = some (n, tx) ∧ e.owner = s.ownAddr ∧ e.occurs (n % s.matrix.m) = true ∧ e.starFwd = 0 ∧ s.bothLive = true ∧ s.ftn.arb = [])
    [(linked (net [(9, ⟨0x24000, 20000, 2000, 0, 0⟩)] op), 9, 0, 20000, ⟨0x24000, 20000, 2000, 0, 0⟩)]) ∧
  (Met (fun ((s, i, n, tx, kind, dest, e, q, own,
    payload) : State × Nat × Nat × Nat × Nat × Nat × Slot × Queued × List ArbData × List Byte) => RegsWf s ∧ s.up = true ∧ s.ftn.su = .integrated ∧
      s.ftn.active.entry i = some e ∧ e.kind = 2 ∧ s.buildAt e.start = some (n, tx) ∧ e.owner = s.ownAddr ∧ e.occurs (n % s.matrix.m) = true ∧
        e.starFwd = 0 ∧ s.bothLive = true ∧ dest ≠ 65535 ∧ dest / 256 ≠ s.ownAddr / 256 ∧ (own = [] ∧ s.ftn.arb = [q] ∧ q.frame.source = s.ownAddr ∧
          kind = q.frame.kind ∧ dest = q.frame.dest ∧ payload = q.frame.payload ∨ own = [⟨dest, 7, 3, payload⟩] ∧ s.ftn.arb = [] ∧ kind = 1))
    [(let x := linked (net [(9, ⟨0x24000, 20000, 2000, 0,
      0⟩)] op); { x with ftn := { x.ftn with arb := [⟨{ slotFrame with source := 0, dest := 512 }, 0⟩] } }, 9, 0, 20000, 1, 512, ⟨0x24000, 20000,
        2000, 0, 0⟩, ⟨{ slotFrame with source := 0, dest := 512 }, 0⟩, [], [1, 2, 3, 4]),
      (linked (net [(9, ⟨0x24000, 20000, 2000, 0, 0⟩)] op), 9, 0, 20000, 1, 512, ⟨0x24000, 20000, 2000, 0, 0⟩, ⟨slotFrame, 0⟩, [⟨512, 7, 3, [9]⟩],
        [9])]) ∧
  (Met (fun ((s, keep) : State × List Queued) => RegsWf s ∧
    keep = s.ftn.arb.filter (fun q => decide (s.ftn.cycle ≤ q.cycle + max 1 (fld (s.reg Off.FTN_ARB_CFG) 28 4))))
    [(let x := net [] op; { x with ftn := { x.ftn with cycle := 100, arb := [⟨slotFrame, 0⟩, ⟨slotFrame, 100⟩] } }, [⟨slotFrame, 100⟩]),
      (op, (op : State).ftn.arb.filter (fun q => decide ((op : State).ftn.cycle ≤ q.cycle + max 1 (fld ((op : State).reg Off.FTN_ARB_CFG) 28 4))))]) :=
  by
    and_intros <;> (repeat' apply Met.cons) <;>
      first | exact .nil | ((try unfold RegsWf); decide +kernel)

/-- `ReceivingFrames`. -/
theorem witness_ReceivingFrames :
  (Met (fun ((s, p, out, gap, f, e) : State × Nat × Nat × Nat × Frame × Slot) => RegsWf s ∧ s.up = true ∧ s.passesOn p out ∧ f.looped = false ∧
    f.source / 256 ≠ s.ownAddr / 256 ∧ f.hop + 1 < 2 * s.matrix.n ∧ s.verdict f = .accept gap ∧ (f.kind = 1 ∨ f.kind = 2) ∧ frameWindow f = 0 ∧
      s.ftn.active.entry (frameEntry f) = some e ∧ e.rx = true ∧ e.map ≠ 2 ∧ e.starFwd = 0)
    [(linked (net [(5, rxEntry)] op), 1, 0, 0, crcSet nodeFrame, rxEntry),
      (let x := linked (net [(5, rxEntry)] op); { x with ftn := { x.ftn with last := [⟨256, 5, 65530, [], false, none⟩] } }, 2, 3, 5,
        crcSet { nodeFrame with kind := 2 }, rxEntry),
      (linked (net [(5, { rxEntry with w3 := 0x75 })] op), 2, 3, 0, crcSet nodeFrame, { rxEntry with w3 := 0x75 }),
      (linked (net [(5, { rxEntry with w3 := 3 })] op), 1, 0, 0, crcSet nodeFrame, { rxEntry with w3 := 3 })]) ∧
  (Met (fun ((s, p, out, f) : State × Nat × Nat × Frame) => RegsWf s ∧ s.up = true ∧ s.passesOn p out ∧ f.looped = false ∧
    f.source / 256 ≠ s.ownAddr / 256 ∧ linkLocal f = false ∧ 2 * s.matrix.n ≤ f.hop + 1)
    [(linked (net [(5, rxEntry)] op), 1, 0, crcSet { nodeFrame with hop := 1 })]) ∧
  (Met (fun ((s, p, out, c, f) : State × Nat × Nat × Nat × Frame) => RegsWf s ∧ s.up = true ∧ s.passesOn p out ∧ f.looped = false ∧
    f.source / 256 ≠ s.ownAddr / 256 ∧ linkLocal f = false ∧ f.hop + 1 < 2 * s.matrix.n ∧ s.verdict f = .fail c)
    [(linked (net [(5, rxEntry)] op), 2, 3, Off.FTN_RX_CRC_ERR, { crcSet nodeFrame with e2e := 0 }),
      (linked (net [(5, rxEntry)] op), 2, 3, Off.FTN_RX_FCS_ERR, { nodeFrame with fcsOk := false }),
      (linked (net [(5, rxEntry)] op), 1, 0, Off.FTN_RX_BAD_HDR, { nodeFrame with version := 2 }),
      (linked (net [(5, rxEntry)] op), 1, 0, Off.FTN_RX_WRONG_SLOT, crcSet { nodeFrame with txTime := 9999 })]) ∧
  (Met (fun ((s, p, out, f) : State × Nat × Nat × Frame) => RegsWf s ∧ s.up = true ∧ s.passesOn p out ∧ f.looped = false ∧
    f.source / 256 ≠ s.ownAddr / 256 ∧ linkLocal f = false ∧ f.hop + 1 < 2 * s.matrix.n ∧ s.verdict f = .second false ∧
      (s.ftn.last.all fun y => !y.chanB) = true)
    [(let x := linked (net [(5, rxEntry)] op); { x with ftn := { x.ftn with last := [⟨256, 5, 0, [], false, some 9⟩] } }, 1, 0, crcSet nodeFrame)]) ∧
  (Met (fun ((s, p, f) : State × Nat × Frame) => linkLocal f = false ∧ f.source / 256 = s.ownAddr / 256 ∧ (p = 1 ∨ p = 2) ∧ f.looped = false)
    [(op, 1, { nodeFrame with source := 255 }),
      (op, 2, { nodeFrame with source := 0 })]) ∧
  (Met (fun ((s, p, out, f) : State × Nat × Nat × Frame) => linkLocal f = false ∧ f.source / 256 = s.ownAddr / 256 ∧ s.up = true ∧
    s.portLive p = true ∧ f.looped = true ∧ f.hop + 1 < 2 * s.matrix.n ∧ (p = 0 ∧ out = 1 ∧ s.ftn.roleA ≠ .tail ∧ s.ftn.roleA ≠ .isolated ∨ p = 3 ∧
      out = 2 ∧ s.ftn.roleB ≠ .tail ∧ s.ftn.roleB ≠ .isolated))
    [(linked op, 3, 2, { nodeFrame with source := 0, looped := true }),
      (let x := linked op2; { x with ftn := { x.ftn with roleA := .head } }, 0, 1, { nodeFrame with source := 0, looped := true })]) ∧
  (Met (fun ((s, p, gap, f, g, stamp, e) : State × Nat × Nat × Frame × Guard × Int × Slot) => RegsWf s ∧ s.up = true ∧ p < 16 ∧
    s.portLive (4 + p) = true ∧ s.sys.guardianFault = false ∧ s.ftn.guards[p]? = some g ∧
      s.starViolation p f (s.inCycle ((s.ingress (4 + p) stamp).getD stamp)) = none ∧ s.verdict f = .accept gap ∧ f.looped = false ∧ f.kind = 1 ∧
        frameWindow f = 0 ∧ s.ftn.active.entry f.slot = some e ∧ e.rx = false ∧ e.starFwd = 0 ∧ s.bothLive = true ∧ 0 < s.time.tb0.rate)
    [(linked (tb0At 10000 (net [(5, ⟨0x4030, 10000, 0x403E8, 0, 0⟩)] op)), 3, 0, crcSet { slotFrame with pad := 14 }, Reset.guard, 2667008, ⟨0x4030,
      10000, 0x403E8, 0, 0⟩)]) ∧
  (Met (fun ((s, p, gap, f, g, stamp) : State × Nat × Nat × Frame × Guard × Int) => RegsWf s ∧ s.up = true ∧ p < 16 ∧ s.portLive (4 + p) = true ∧
    s.sys.guardianFault = false ∧ s.ftn.guards[p]? = some g ∧ s.starViolation p f (s.inCycle ((s.ingress (4 + p) stamp).getD stamp)) = none ∧
      s.verdict f = .accept gap ∧ f.looped = false ∧ f.kind = 1 ∧ frameWindow f = 1 ∧ s.ftn.arb.length < 32 ∧ f.dest ≠ s.ownAddr ∧ f.dest ≠ 65535)
    [(linked (setReg Off.FTN_ARB_CFG 0x96 (net [] op)), 0, 0, crcSet { slotFrame with source := 1, slot := 0x4000, dest := 256 }, Reset.guard,
      51200000)]) ∧
  (Met (fun ((s, p, c, f, stamp) : State × Nat × Nat × Frame × Int) => RegsWf s ∧ s.up = true ∧ p < 16 ∧ s.portLive (4 + p) = true ∧
    s.sys.guardianFault = false ∧ s.starViolation p f (s.inCycle ((s.ingress (4 + p) stamp).getD stamp)) = none ∧ s.verdict f = .fail c)
    [(linked (setReg Off.FTN_ARB_CFG 0x96 (net [] op)), 15, Off.FTN_RX_CRC_ERR,
      { crcSet { slotFrame with source := 0xF0, slot := 0x4000, dest := 256 } with e2e := 0 }, 51200000)]) ∧
  (Met (fun ((s, p, stamp) : State × Nat × Int) => RegsWf s ∧ s.up = true ∧ p < 16 ∧ s.portLive (4 + p) = true ∧ s.sys.guardianFault = false ∧
    p < s.ftn.guards.length ∧ (s.starWindows p = [] ∧ s.matrix.nit ≤ s.matrix.t) ∧
      ((s.matrix.t - s.matrix.nit : Nat) : Int) * 256 ≤ s.inCycle ((s.ingress (4 + p) stamp).getD stamp))
    [(linked op, 15, 63990000),
      (linked (net [] op2), 0, 62000000)]) :=
  by
    and_intros <;> (repeat' apply Met.cons) <;>
      first | exact .nil | ((try unfold RegsWf); (try unfold State.passesOn); decide +kernel)

/-- `MatrixAndParticipation`: its clauses from MATRIX_COMMIT to RXB_SNAPSHOT. -/
theorem witness_MatrixAndBuffers :
  (Met (fun s : State => RegsWf s ∧ s.up = true ∧ s.shadows = [] ∧ ((List.range 22).all fun p => !(s.port p).up || s.portUsed p) = true)
    [op,
      linked op2,
      withRegs [(Off.FTN_CTRL, 1)] op2]) ∧
  (Met (fun ((s, key) : State × Half) => s.up = true ∧ key = 0x4D58)
    [(op, 0x4D58)]) ∧
  (Met (fun ((s, key) : State × Half) => s.up = true ∧ key ≠ 0x4D58)
    [(op, 0)]) ∧
  (Met (fun s : State => RegsWf s ∧ s.up = true ∧ (s.ftn.shadow.entries.map (·.1)).Nodup ∧ bit (s.reg Off.FTN_SLOT_SEL) 16 = false)
    [op,
      withRegs [(Off.FTN_SLOT_SEL, 0x3FFF)] op]) ∧
  (Met (fun s : State => RegsWf s ∧ s.up = true ∧ bit (s.reg Off.FTN_SLOT_SEL) 16 = true)
    [withRegs [(Off.FTN_SLOT_SEL, 0x10005)] op]) ∧
  (Met (fun s : State => s.up = true)
    [op]) ∧
  (Met (fun s : State => s.up = true ∧ (s.ftn.txBufs.map (·.1)).Nodup)
    [{ op with ftn := { op.ftn with txBufs := [(0, ⟨.prepared, 65535, 0x00050007, 9, [(0, 0x01020304)]⟩)] } }]) ∧
  (Met (fun s : State => RegsWf s ∧ s.up = true ∧ ((s.txBuf s.txSel).state = .prepared ∨ (s.txBuf s.txSel).state = .released))
    [{ op with ftn := { op.ftn with txBufs := [(0, ⟨.prepared, 65535, 0x00050007, 9, [(0, 0x01020304)]⟩)] } }]) ∧
  (Met (fun s : State => RegsWf s ∧ s.up = true ∧ (s.txBuf s.txSel).state = .sent)
    [{ op with ftn := { op.ftn with txBufs := [(0, ⟨.sent, 65535, 0x00050007, 9, [(0, 0x01020304)]⟩)] } },
      { op with ftn := { op.ftn with txBufs := [(0, ⟨.sent, 65535, 0x00050007, 9, [(0, 0x01020304)]⟩)] } },
      { op with ftn := { op.ftn with txBufs := [(0, ⟨.sent, 65535, 0x00050007, 9, [(0, 0x01020304)]⟩)] } }]) ∧
  (Met (fun s : State => RegsWf s ∧ s.up = true)
    [op,
      { op with ftn := { op.ftn with rxBufs := [(3, ⟨none, 0, false, 0, 0, false, 0, true, 4⟩)] } }]) :=
  by
    and_intros <;> (repeat' apply Met.cons) <;>
      first | exact .nil | ((try unfold RegsWf); decide +kernel)

/-- `MatrixAndParticipation`: its clauses from RUN_SET to COLD_ABORT. -/
theorem witness_NetworkParticipation :
  (Met (fun s : State => RegsWf s ∧ s.up = true)
    [op,
      withRegs [(Off.FTN_CTRL, 1)] (net [] op)]) ∧
  (Met (fun s : State => RegsWf s ∧ s.up = true)
    [op,
      withRegs [(Off.FTN_CTRL, 1)] (net [] op)]) ∧
  (Met (fun s : State => RegsWf s ∧ s.ftn.leaving = true ∧ s.ftn.su = .integrated)
    [{ net [] op with ftn := { (net [] op).ftn with leaving := true } },
      withRegs [(Off.FTN_CTRL, 1)] { net [] op with ftn := { (net [] op).ftn with leaving := true } }]) ∧
  (Met (fun ((s, c) : State × Instr) => RegsWf s ∧ (c = .listenTimeout ∧ s.ftn.su = .listen ∧ s.coldNode = true ∧ s.ftn.exhausted = false ∨
    c = .backoffEnd ∧ s.ftn.su = .backoff ∧ s.ftn.exhausted = false))
    [(withRegs [(Off.FTN_NODE_CFG, 0x40000)] { op with ftn := { op.ftn with su := .listen, suDue := 77 } }, .listenTimeout),
      ({ op with ftn := { op.ftn with su := .backoff, suDue := 5000 } }, .backoffEnd)]) ∧
  (Met (fun s : State => s.ftn.su = .backoff ∧ s.ftn.exhausted = true)
    [{ op with ftn := { op.ftn with su := .backoff, exhausted := true, suDue := 5000 } }]) ∧
  (Met (fun s : State => s.ftn.su = .listen ∧ s.coldNode = false)
    [{ op with ftn := { op.ftn with su := .listen } }]) ∧
  (Met (fun ((s, n) : State × Nat) => s.ftn.su = .aligned ∧ s.ftn.cold = true ∧ s.ftn.countFrom = some n ∧
    n + max 1 (fld (s.reg Off.FTN_SU_CFG) 4 4) * s.matrix.m ≤ s.ftn.cycle)
    [({ op with ftn := { op.ftn with su := .aligned, cold := true, countFrom := some 0, leader := true, cycle := 256000 } }, 0)]) :=
  by
    and_intros <;> (repeat' apply Met.cons) <;>
      first | exact .nil | ((try unfold RegsWf); decide +kernel)

/-- `LinkChecksAndHealing`: its clauses from LINK_CHECK_SEND to LINK_CHECK_RECEIVE. -/
theorem witness_LinkChecks :
  (Met (fun ((s, p) : State × Nat) => RegsWf s ∧ s.up = true ∧ bit (s.reg Off.FTN_CTRL) 0 = true ∧ p < 20 ∧ p < s.ftn.ports.length ∧
    s.portLive p = true ∧ ([s.sys.netA, s.sys.netB].all fun e => decide (e.till ≤ s.now)) = true ∧ (∀ q, q < 22 → q ≠ p → s.portLive q = false) ∧
      (∀ q, q < 22 → (s.port q).loopFor = false ∧ (s.port q).calRun = false) ∧ (∀ l ∈ s.ftn.links, l.broken = false))
    [(let x := withRegs [(Off.FTN_PORT_EN, 1), (Off.FTN_CTRL,
      1)] op; { x with ftn := { x.ftn with ports := { Reset.port with up := true } :: List.replicate 21 Reset.port } }, 0),
      (let x := withRegs [(Off.FTN_PORT_EN, 0x80000), (Off.FTN_CTRL,
        1)] op; { x with ftn := { x.ftn with ports := List.replicate 19 Reset.port ++ [{ Reset.port with up := true }] ++ List.replicate 2 Reset.port } },
          19)]) ∧
  (Met (fun ((s, p, f, stamp, x) : State × Nat × Frame × Int × Int) => RegsWf s ∧ s.up = true ∧ p < 20 ∧ p < s.ftn.ports.length ∧
    s.portLive p = true ∧ s.ingress p stamp = some x ∧ (4 ≤ p → ((s.matrix.t - s.matrix.nit : Nat) : Int) * 256 ≤ s.inCycle x ∧
      (s.ftn.guards.getD (p - 4) Reset.guard).checks = 0) ∧ f.fcsOk = true ∧ headerOk f = true ∧ f.e2e = frameCrc f ∧ f.kind = 5 ∧ f.info = 2 ∧
        (f.plen = 84 ∨ f.plen = 24))
    [(linked op, 0, crcSet { checkFrame with plen := 84, payload := List.replicate 84 0 }, 2560, -378048),
      (let z := linked op; { z with ftn := { z.ftn with ports := List.replicate 22 { Reset.port with up := true, cal := .frozen, sent := [(0, 256)] } } },
        19, crcSet checkFrame, 63990000, 63882992)]) ∧
  (Met (fun ((s, p, c, f, stamp) : State × Nat × Nat × Frame × Int) => RegsWf s ∧ s.up = true ∧ p < 20 ∧ s.portLive p = true ∧
    (4 ≤ p → ((s.matrix.t - s.matrix.nit : Nat) : Int) * 256 ≤ s.inCycle ((s.ingress p stamp).getD stamp) ∧
      (s.ftn.guards.getD (p - 4) Reset.guard).checks = 0) ∧ (c = Off.FTN_RX_FCS_ERR ∧ f.fcsOk = false ∨ c = Off.FTN_RX_BAD_HDR ∧ f.fcsOk = true ∧
        headerOk f = false ∨ c = Off.FTN_RX_CRC_ERR ∧ f.fcsOk = true ∧ headerOk f = true ∧ f.e2e ≠ frameCrc f))
    [(linked op, 0, Off.FTN_RX_FCS_ERR, { checkFrame with fcsOk := false }, 0),
      (linked op, 19, Off.FTN_RX_BAD_HDR, { checkFrame with version := 0 }, 63990000),
      (linked op, 5, Off.FTN_RX_CRC_ERR, { crcSet checkFrame with e2e := 0 }, 63990000)]) ∧
  (Met (fun ((s, p, kind, stamp, x) : State × Nat × Nat × Int × Int) => RegsWf s ∧ s.up = true ∧ 4 ≤ p ∧ p < 20 ∧ p < 4 + s.ftn.guards.length ∧
    s.portLive p = true ∧ s.ingress p stamp = some x ∧ (kind = 3 ∧ s.inCycle x < ((s.matrix.t - s.matrix.nit : Nat) : Int) * 256 ∨ kind = 7 ∧
      ((s.matrix.t - s.matrix.nit : Nat) : Int) * 256 ≤ s.inCycle x ∧ 1 ≤ (s.ftn.guards.getD (p - 4) Reset.guard).checks))
    [(linked op, 4, 3, 2560000, 2452992),
      (let z := linked op; { z with ftn := { z.ftn with guards := List.replicate 16 { Reset.guard with checks := 1 } } }, 19, 7, 63990000,
        63882992)]) :=
  by
    and_intros <;> (repeat' apply Met.cons) <;>
      first | exact .nil | (unfold RegsWf; decide +kernel)

/-- `LinkChecksAndHealing`: its clauses from GUARD_VIOLATION to RING_RELEASE. -/
theorem witness_GuardianAndRing :
  (Met (fun ((s, p, kind, g) : State × Nat × Nat × Guard) => ∃ lim : Nat, lim = max 1 (fld (s.reg Off.FTN_GUARD_CFG) 16 4) ∧ RegsWf s ∧ s.up = true ∧
    p < 16 ∧ s.ftn.guards[p]? = some g ∧ 1 ≤ kind ∧ kind ≤ 7 ∧ g.blocked = false ∧ g.disabled = false ∧ fld (s.reg Off.FTN_GUARD_CFG) 24 8 = 0)
    [(withRegs [(Off.FTN_GUARD_CFG, 0x30064)] (net [] op), 15, 5, Reset.guard),
      (let x := withRegs [(Off.FTN_GUARD_CFG,
        0x30064)] (net [] op); { x with ftn := { x.ftn with guards := List.replicate 16 { Reset.guard with count := 2, total := 65535, hit := true } } },
          0, 7, { Reset.guard with count := 2, total := 65535, hit := true })]) ∧
  (Met (fun ((s, p, kind, g) : State × Nat × Nat × Guard) => RegsWf s ∧ s.up = true ∧ p < 16 ∧ s.ftn.guards[p]? = some g ∧ 1 ≤ kind ∧ kind ≤ 7 ∧
    g.blocked = false ∧ g.disabled = false ∧ max 1 (fld (s.reg Off.FTN_GUARD_CFG) 16 4) ≤ g.count + 1 ∧ fld (s.reg Off.FTN_GUARD_CFG) 24 8 ≠ 0 ∧
      fld (s.reg Off.FTN_GUARD_CFG) 24 8 ≤ g.run + 1)
    [(let x := withRegs [(Off.FTN_GUARD_CFG, 0x01010064)] op; x, 3, 1, Reset.guard)]) ∧
  (Met (fun ((s, v, g) : State × Word × Guard) => RegsWf s ∧ s.up = true ∧ s.ftn.guards[fld v 8 4]? = some g ∧ fld v 16 16 = 0x4744 ∧ fld v 0 4 = 1)
    [({ op with ftn := { op.ftn with guards := List.replicate 16 { Reset.guard with disabled := true, run := 4 } } }, 0x47440F01,
      { Reset.guard with disabled := true, run := 4 })]) ∧
  (Met (fun ((s, v, g) : State × Word × Guard) => RegsWf s ∧ s.up = true ∧ s.ftn.guards[fld v 8 4]? = some g ∧ fld v 16 16 ≠ 0x4744)
    [(op, 0x00000F01, Reset.guard)]) ∧
  (Met (fun ((s, p, cause) : State × Nat × Nat) => s.hubOn = true ∧ p < 4 ∧ p < s.ftn.links.length ∧ (s.link p).broken = false ∧ (cause = 1 ∨
    cause = 2 ∧ (s.port p).up = true ∧ ((s.port p).lastCheck.all fun c => decide (c + 2 ≤ s.ftn.cycle)) = true ∨ cause = 3 ∧ s.linkLong p = true))
    [(linked op, 0, 1),
      (let x := linked op2; { x with ftn := { x.ftn with ports := x.ftn.ports.map fun y => { y with delay := some 100000000 } } }, 3, 3),
      (linked op, 2, 2)]) ∧
  (Met (fun ((s, p) : State × Nat) => s.up = true ∧ p < 4 ∧ p < s.ftn.links.length ∧ (s.link p).broken = true ∧ (s.link p).held = false)
    [({ op with ftn := { op.ftn with links := List.replicate 4 { Reset.link with broken := true } } }, 2)]) ∧
  (Met (fun ((s, p) : State × Nat) => s.up = true ∧ p < 4 ∧ p < s.ftn.links.length ∧ (p = 1 ∨ p = 2) ∧ (s.link p).restoring = true)
    [({ op with ftn := { op.ftn with links := List.replicate 4 { Reset.link with restoring := true } } }, 2),
      ({ op with ftn := { op.ftn with links := List.replicate 4 { Reset.link with restoring := true } } }, 1)]) ∧
  (Met (fun ((s, p, cc) : State × Nat × Nat) => s.up = true ∧ p < 4 ∧ p < s.ftn.links.length ∧ (p = 0 ∨ p = 3) ∧
    (s.link p).restoreAt = some (cc % 1024))
    [({ op with ftn := { op.ftn with links := List.replicate 4 { Reset.link with restoreAt := some 5 } } }, 3, 1029),
      ({ op with ftn := { op.ftn with links := List.replicate 4 { Reset.link with restoreAt := some 5 } } }, 0, 5)]) ∧
  (Met (fun ((s, v, p) : State × Word × Nat) => RegsWf s ∧ s.up = true ∧ p = fld v 4 2 ∧ p < s.ftn.links.length ∧ fld v 16 16 = 0x524E ∧
    fld v 0 4 = 1 ∧ s.sys.mode = .safeHold)
    [(hold, 0x524E0031, 3)]) ∧
  (Met (fun ((s, v, p) : State × Word × Nat) => RegsWf s ∧ s.up = true ∧ p = fld v 4 2 ∧ p < s.ftn.links.length ∧ fld v 16 16 = 0x524E ∧
    fld v 0 4 = 2)
    [({ op with ftn := { op.ftn with links := List.replicate 4 { Reset.link with held := true, good := 1 } } }, 0x524E0002, 0)]) ∧
  (Met (fun ((s, v, p, c) : State × Word × Nat × Instr) => RegsWf s ∧ s.up = true ∧ p = fld v 4 2 ∧ p < s.ftn.links.length ∧ (c = .ringHold v ∨
    c = .ringRelease v) ∧ fld v 16 16 ≠ 0x524E)
    [(hold, 0x524F0031, 3, .ringHold 0x524F0031),
      (hold, 0x524F0002, 0, .ringRelease 0x524F0002)]) ∧
  (Met (fun ((s, v, p) : State × Word × Nat) => RegsWf s ∧ s.up = true ∧ p = fld v 4 2 ∧ p < s.ftn.links.length ∧ fld v 0 4 = 1 ∧
    s.sys.mode ≠ .safeHold)
    [(op, 0x524E0031, 3)]) :=
  by
    and_intros <;> (repeat' apply Met.cons) <;>
      first | exact .nil | ((repeat refine ⟨_, rfl, ?_⟩); (try unfold RegsWf); decide +kernel)

/-- `CycleBoundaries`. -/
theorem witness_CycleBoundaries :
  (Met (fun s : State => s.plainBoundary ∧ s.running = true ∧ MemsWf s ∧ s.cyc.running = false ∧ s.sys.warmPause = false ∧ s.sys.entering = false ∧
    s.chk.takeover = none ∧ (∀ l : Lane, (s.laneCyc l).frcPend = none ∧ (s.laneCyc l).ocPend = none ∧ (s.laneCyc l).forces = []))
    [cycling id op,
      { cycling id op with now := 2000000, cyc := { (cycling id op).cyc with skipped := 3, count := 0xFFFFFFFFFFFFFFFF, released := true } },
      cycling id op2]) ∧
  (Met (fun ((s, l, o) : State × Lane × Nat) => s.plainBoundary ∧ s.running = true ∧ RegsWf s ∧ s.cyc.running = false ∧ s.sys.warmPause = false ∧
    s.sys.entering = false ∧ s.chk.takeover = none ∧ s.inVote l = true ∧ 0x20000 ≤ o ∧ o < 0x21040)
    [(cycling id op, .b, 0x20000),
      (cycling id op2, .a, 0x2103F)]) ∧
  (Met (fun s : State => s.plainBoundary ∧ RegsWf s ∧ s.running = true ∧ s.cyc.running = true)
    [let x := cycling id op; { x with cyc := { x.cyc with running := true, overrun := 1 } },
      let x := cycling id op2; { x with cyc := { x.cyc with running := true, overrun := 2 } }]) ∧
  (Met (fun s : State => s.plainBoundary ∧ s.sys.mode = .safeHold ∧ s.sys.active ≠ 0 ∧ s.cyc.running = false ∧ s.chk.takeover = none ∧
    s.sys.startDone = false ∧ (∀ l : Lane, (s.laneCyc l).frcPend = none ∧ (s.laneCyc l).ocPend = none))
    [{ cycling id hold with sys := { hold.sys with startDone := false } }]) ∧
  (Met (fun ((s, l, time) : State × Lane × Nat) => s.up = true ∧ s.inVote l = true ∧ 2 ≤ s.lanesIn.length ∧ (s.laneCyc l).phase = 5 ∧
    s.vot.votedEnd = none ∧ (∀ m : Lane, m ≠ l → (s.vot.lanes.get m).ended = none) ∧ s.now ≤ time)
    [(cycling (fun c => { c with phase := 5 }) op, .b, 5),
      (cycling (fun c => { c with phase := 5 }) op2, .a, 0)]) ∧
  (Met (fun ((s, l, m, v, at_, time) : State × Lane × Lane × Word × Nat × Nat) => s.up = true ∧ s.inVote l = true ∧ s.inVote m = true ∧ l ≠ m ∧
    (s.laneCyc l).phase = 5 ∧ s.vot.votedEnd = none ∧ (s.vot.lanes.get m).ended = some (at_, v) ∧ (∀ x : Lane,
      x ≠ m → (s.vot.lanes.get x).ended = none) ∧ at_ ≤ s.now ∧ s.now ≤ time ∧ time ≤ at_ + 2000 ∧ s.cyc.running = true ∧ s.sys.warmMask = 0)
    [(let x := cycling (fun c => { c with phase := 5 }) op; { x with cyc := { x.cyc with running := true, late := true, overrun := 2 }, vot := { x.vot with lanes := x.vot.lanes.modify .a fun v => { v with ended := some (0, 7) } } },
      .b, .a, 7, 0, 2000),
      (let x := cycling (fun c => { c with phase := 5 }) op2; { x with cyc := { x.cyc with running := true }, sys := { x.sys with mramFault := true }, vot := { x.vot with lanes := x.vot.lanes.modify .a fun v => { v with ended := some (0, 0) } } },
        .b, .a, 0, 0, 0)]) ∧
  (Met (fun ((s, o) : State × SetOut) => RegsWf s ∧ s.up = true ∧ s.chk.out = some o)
    [({ op with chk := { op.chk with out := some ⟨7, false, [], 0, 0, 9, 0, []⟩ } }, ⟨7, false, [], 0, 0, 9, 0, []⟩),
      ({ op with chk := { op.chk with out := some ⟨8, true, [(0, [1])], 1, 0, 9, 0, []⟩ } }, ⟨8, true, [(0, [1])], 1, 0, 9, 0, []⟩)]) :=
  by
    and_intros <;> (repeat' apply Met.cons) <;>
      first | exact .nil | ((try unfold MemsWf); (try unfold RegsWf); (try unfold State.plainBoundary); (try simp only [everyLane]); decide +kernel)

/-- `OnlineChangeAndForces`. -/
theorem witness_OnlineChangeAndForces :
  (Met (fun ((s, l, hi) : State × Lane × Word) => ∃ addr : Word, addr = s.reg (laneKey l Off.CYC_OC_ADDR) ∧ ∃ e : OcEntry,
    e = ⟨fld (s.reg (laneKey l Off.CYC_OC_SEL)) 0 6, addr, hi ++ s.reg (laneKey l Off.CYC_OC_VAL_LO)⟩ ∧ RegsWf s ∧ s.up = true ∧ s.inVote l = true)
    [(op, .a, 0xFFFFFFFF),
      (withLaneRegs [(Off.CYC_OC_SEL, 63), (Off.CYC_OC_ADDR, 0x30000008), (Off.CYC_OC_VAL_LO, 5)] op, .c, 7),
      (withLaneRegs [(Off.CYC_OC_ADDR, 0x50000000)] op, .b, 7)]) ∧
  (Met (fun ((s, l) : State × Lane) => ∃ tgt : Nat, tgt = fld (s.reg (laneKey l Off.CYC_OC_TARGET)) 0 16 ∧ s.up = true ∧ s.inVote l = true ∧
    (s.laneCyc l).ocPend = none ∧ (s.laneCyc l).ocList ≠ [] ∧ s.targetOk tgt = true)
    [(cycling (fun c => { c with ocList := [⟨0, 0, 1⟩] }) (withLaneRegs [(Off.CYC_OC_TARGET, 2)] op), .b),
      (cycling (fun c => { c with ocList := [⟨0, 0, 1⟩] }) (withLaneRegs [(Off.CYC_OC_TARGET, 32767)] op), .c)]) ∧
  (Met (fun ((s, l, key, cause, c) : State × Lane × Half × Nat × Instr) => RegsWf s ∧ s.up = true ∧ s.inVote l = true ∧ (key ≠ 0x4F43 ∧ cause = 6 ∧
    (c = .ocCommit l key ∨ c = .ocDiscard l key) ∨ c = .ocCommit l key ∧ key = 0x4F43 ∧ (cause = 3 ∧ (s.laneCyc l).ocPend ≠ none ∨ cause = 5 ∧
      (s.laneCyc l).ocPend = none ∧ (s.laneCyc l).ocList = [] ∨ cause = 4 ∧ (s.laneCyc l).ocPend = none ∧ (s.laneCyc l).ocList ≠ [] ∧
        s.targetOk (fld (s.reg (laneKey l Off.CYC_OC_TARGET)) 0 16) = false)))
    [(op, .a, 0x4F44, 6, .ocCommit .a 0x4F44),
      (op, .b, 0, 6, .ocDiscard .b 0),
      (op, .b, 0x4F43, 5, .ocCommit .b 0x4F43),
      (cycling (fun c => { c with ocPend := some [] }) op, .b, 0x4F43, 3, .ocCommit .b 0x4F43),
      (cycling (fun c => { c with ocList := [⟨0, 0, 1⟩] }) (withLaneRegs [(Off.CYC_OC_TARGET, 1)] op), .c, 0x4F43, 4, .ocCommit .c 0x4F43),
      (cycling (fun c => { c with ocList := [⟨0, 0, 1⟩] }) (withLaneRegs [(Off.CYC_OC_TARGET, 32768)] op), .c, 0x4F43, 4, .ocCommit .c 0x4F43)]) ∧
  (Met (fun ((s, l) : State × Lane) => s.up = true ∧ s.inVote l = true)
    [(op, .a),
      (cycling (fun c => { c with ocPend := some [] }) op, .c)]) ∧
  (Met (fun ((s, l, hi) : State × Lane × Word) => ∃ sel : Word, sel = s.reg (laneKey l Off.CYC_FRC_SEL) ∧ ∃ addr : Word,
    addr = s.reg (laneKey l Off.CYC_FRC_ADDR) ∧ ∃ f : Force, f = ⟨fld sel 0 8, sel, addr, hi ++ s.reg (laneKey l Off.CYC_FRC_VAL_LO)⟩ ∧ RegsWf s ∧
      s.up = true ∧ s.inVote l = true)
    [(withLaneRegs [(Off.CYC_FRC_SEL, 0xFF), (Off.CYC_FRC_VAL_LO, 3)] op, .a, 1),
      (withLaneRegs [(Off.CYC_FRC_SEL, 0x10000FF), (Off.CYC_FRC_ADDR, 0x60000000)] op, .b, 1),
      (withLaneRegs [(Off.CYC_FRC_SEL, 0x30000)] op, .b, 1),
      (withLaneRegs [(Off.CYC_IMG_CFG, 0x10001), (Off.CYC_FRC_SEL, 0x10100FF), (Off.CYC_FRC_ADDR, 0x30000038)] op, .c, 1)]) ∧
  (Met (fun ((s, l) : State × Lane) => ∃ tgt : Nat, tgt = fld (s.reg (laneKey l Off.CYC_FRC_TARGET)) 0 16 ∧ s.up = true ∧ s.inVote l = true ∧
    (s.laneCyc l).frcPend = none ∧ (s.laneCyc l).frcList ≠ [] ∧ s.targetOk tgt = true ∧
      forceOverlap (forceEdit (s.laneCyc l).forces (s.laneCyc l).frcList) = false)
    [(cycling (fun c => { c with frcList := [⟨0, 0x1000000, 0, 1⟩] }) (withLaneRegs [(Off.CYC_FRC_TARGET, 2)] op), .b)]) ∧
  (Met (fun ((s, l, key, cause, c) : State × Lane × Half × Nat × Instr) => RegsWf s ∧ s.up = true ∧ s.inVote l = true ∧ (key ≠ 0x4643 ∧ cause = 6 ∧
    (c = .forceCommit l key ∨ c = .forceDiscard l key) ∨ c = .forceCommit l key ∧ key = 0x4643 ∧ (cause = 3 ∧ (s.laneCyc l).frcPend ≠ none ∨
      cause = 5 ∧ (s.laneCyc l).frcPend = none ∧ (s.laneCyc l).frcList = [] ∨ cause = 4 ∧ (s.laneCyc l).frcPend = none ∧ (s.laneCyc l).frcList ≠ [] ∧
        s.targetOk (fld (s.reg (laneKey l Off.CYC_FRC_TARGET)) 0 16) = false ∨ cause = 7 ∧ (s.laneCyc l).frcPend = none ∧ (s.laneCyc l).frcList ≠ [] ∧
          s.targetOk (fld (s.reg (laneKey l Off.CYC_FRC_TARGET)) 0 16) = true ∧
            forceOverlap (forceEdit (s.laneCyc l).forces (s.laneCyc l).frcList) = true)))
    [(op, .a, 0x4644, 6, .forceCommit .a 0x4644),
      (op, .b, 0, 6, .forceDiscard .b 0),
      (op, .b, 0x4643, 5, .forceCommit .b 0x4643),
      (cycling (fun c => { c with frcPend := some [] }) op, .b, 0x4643, 3, .forceCommit .b 0x4643),
      (cycling (fun c => { c with frcList := [⟨0, 0, 0, 1⟩] }) op, .c, 0x4643, 4, .forceCommit .c 0x4643),
      (cycling (fun c => { c with frcList := [⟨0, 0x1000000, 0, 1⟩, ⟨1, 0x1000001, 0, 1⟩] }) (withLaneRegs [(Off.CYC_FRC_TARGET, 2)] op), .c, 0x4643,
        7, .forceCommit .c 0x4643)]) ∧
  (Met (fun ((s, l) : State × Lane) => s.up = true ∧ s.inVote l = true)
    [(op, .a),
      (cycling (fun c => { c with frcPend := some [] }) op, .c)]) :=
  by
    and_intros <;> (repeat' apply Met.cons) <;>
      first | exact .nil | ((repeat refine ⟨_, rfl, ?_⟩); (try unfold RegsWf); decide +kernel)

/-- `FieldInputs`. -/
theorem witness_FieldInputs :
  (Met (fun ((s, n, code) : State × Nat × Nat) => ∃ c : Code, c = s.diCode n (codeOf code) ∧ RegsWf s ∧ s.matrixOn = true ∧ n < 32 ∧
    n < s.dio.dis.length ∧ s.diLive n = true ∧ 2 ≤ (s.paths n).length ∧ (s.di n).state ≠ c)
    [(op, 31, 1),
      (withRegs [(Off.DIO_IN_CFG, 0x4400), (Off.DIO_TRIP_MASK, 1), (Off.DIO_TRIP_POL, 1), (Off.DIO_TRIP_CFG, 0x11)] op2, 0, 1),
      (withRegs [(Off.DIO_IN_CFG, 0x4400)] op, 0, 2),
      ({ withRegs [(Off.DIO_IN_CFG, 0x4000), (Off.DIO_TRIP_MASK + 112, 1), (Off.DIO_TRIP_POL + 112, 1), (Off.DIO_TRIP_CFG + 112, 0x31)] op with dio := { op.dio with trueR := 0x80, latched := 0x80, dis := List.replicate 32 { Reset.di with state := .on } } },
        0, 2)]) ∧
  (Met (fun ((s, g, mv, high) : State × Nat × Nat × Bool) => RegsWf s ∧ s.dio.enabled = true ∧ g < 4 ∧ (mv < 14400 ∧ high = false ∨ 36000 < mv ∧
    high = true) ∧ s.dio.dis.length = 32 ∧ s.dio.groups.length = 6)
    [(op, 0, 36001, true),
      (disBy (fun d => { d with state := .on }) op2, 3, 14399, false)]) ∧
  (Met (fun ((s, g, mv) : State × Nat × Nat) => g < 4 ∧ g < s.dio.groups.length ∧ s.dio.enabled = true ∧ 18000 ≤ mv ∧ mv ≤ 32000)
    [(groupsBy (fun g => { g with supply := .over, outRange := true, sensorOn := false }) op, 3, 18000),
      (groupsBy (fun g => { g with supply := .under, outRange := true }) op2, 0, 32000)]) ∧
  (Met (fun ((s, g, mv) : State × Nat × Nat) => g < 4 ∧ g < s.dio.groups.length ∧ s.dio.enabled = true ∧ mv < 16800 ∧ (s.group g).supply = .normal)
    [(op, 0, 16799)]) ∧
  (Met (fun ((s, g) : State × Nat) => g < 4 ∧ g < s.dio.groups.length ∧ s.dio.enabled = true ∧ (s.group g).outRange = false ∧
    ((s.group g).sensorOn = true ∨ (s.group g).shortAt.isSome = true) ∧ (∃ i, i < 8 ∧ s.testEn (8 * g + i) = true))
    [(withRegs [(Off.DIO_IN_CFG + 124, 0x2000)] op, 3)]) ∧
  (Met (fun ((s, g) : State × Nat) => g < 4 ∧ g < s.dio.groups.length ∧ s.dio.enabled = true ∧ (s.group g).sensorOn = true)
    [(op, 0)]) ∧
  (Met (fun ((s, g, at_) : State × Nat × Nat) => g < 4 ∧ s.dio.enabled = true ∧ (s.group g).shortAt = some at_)
    [(groupsBy (fun g => { g with sensorOn := false, shortAt := some 5 }) op, 3, 5),
      (groupsBy (fun g => { g with sensorOn := false, supply := .over, shortAt := some 0 }) op2, 0, 0)]) ∧
  (Met (fun ((s, g, at_) : State × Nat × Nat) => RegsWf s ∧ g < 4 ∧ (s.group g).testing = true ∧ (s.group g).testAt = some at_ ∧
    (s.group g).shortAt = none ∧ (∀ i, i < 8 → s.testEn (8 * g + i) = true → ∀ l : Lane, (s.group g).broke.getLsbD (3 * i + l.idx) = true))
    [(withRegs [(Off.DIO_IN_CFG,
      0x2000)] (disBy (fun d => { d with fails := 2, state := .on }) (groupsBy (fun g => { g with testing := true, testAt := some 0, broke := 0xFFFFFF }) op)),
        0, 0),
      (withRegs ((List.range 7).map fun i => (Off.DIO_IN_CFG + 4 * (i + 24),
        0x07E8)) (groupsBy (fun g => { g with testing := true, testAt := some 0, broke := 0xE00000, supply := .over }) op), 3, 0)]) ∧
  (Met (fun ((s, g, at_) : State × Nat × Nat) => RegsWf s ∧ g < 4 ∧ s.dio.dis.length = 32 ∧ (s.group g).testing = true ∧
    (s.group g).testAt = some at_ ∧ (∀ i, i < 8 → s.testEn (8 * g + i) = decide (i = 0)) ∧ s.paths (8 * g) ≠ [] ∧ ((s.group g).shortAt.isSome = true ∨
      (∀ l : Lane, (s.group g).broke.getLsbD l.idx = false)))
    [(withRegs ((List.range 7).map fun i => (Off.DIO_IN_CFG + 4 * (i + 1),
      0x07E8)) (disBy (fun d => { d with fails := 1, state := .on }) (groupsBy (fun g => { g with testing := true, testAt := some 0, broke := 0xFFFFF8 }) op)),
        0, 0),
      (withRegs ((List.range 7).map fun i => (Off.DIO_IN_CFG + 4 * (i + 25),
        0x07E8)) (groupsBy (fun g => { g with testing := true, testAt := some 0, broke := 7, shortAt := some 0 }) op2), 3, 0)]) :=
  by
    and_intros <;> (repeat' apply Met.cons) <;>
      first | exact .nil | ((repeat refine ⟨_, rfl, ?_⟩); (try unfold RegsWf); (try simp only [everyLane]); decide +kernel)

/-- `OutputsAndSupplies`. -/
theorem witness_OutputsAndSupplies :
  (Met (fun s : State => RegsWf s ∧ s.up = true ∧ s.fenced = false)
    [withRegs [(Off.DIO_OUT_CFG, 1), (Off.DIO_OUT_CFG + 60, 1)] op]) ∧
  (Met (fun s : State => RegsWf s ∧ s.up = true ∧ s.fenced = true)
    [withRegs [(Off.CHK_CFG, 1)] op]) ∧
  (Met (fun ((s, n, at_) : State × Nat × Nat) => RegsWf s ∧ n < 16 ∧ n < s.dio.outs.length ∧ s.silenceAt n = some at_)
    [(outsBy (fun o => { o with refreshAt := some 5, on := true }) op, 15, 500000005),
      (outsBy (fun o => { o with refreshAt := some 0 }) (withRegs [(Off.DIO_GRP_CFG + 16, 9)] op2), 0, 10000000)]) ∧
  (Met (fun ((s, g, mv) : State × Nat × Nat) => (g = 4 ∨ g = 5) ∧ g < s.dio.groups.length ∧ s.dio.enabled = true ∧ mv < 16800 ∧
    ((s.group g).supply = .low ∨ (s.group g).supply = .absent))
    [(groupsBy (fun g => { g with supply := .low }) op, 4, 4999),
      (groupsBy (fun g => { g with supply := .absent }) op, 5, 5000)]) ∧
  (Met (fun ((s, g, mv) : State × Nat × Nat) => (g = 4 ∨ g = 5) ∧ g < s.dio.groups.length ∧ s.dio.enabled = true ∧ mv < 16800 ∧
    (s.group g).supply = .normal)
    [(op, 4, 4999),
      (op, 5, 16799)]) ∧
  (Met (fun ((s, g, mv) : State × Nat × Nat) => (g = 4 ∨ g = 5) ∧ g < s.dio.groups.length ∧ s.dio.enabled = true ∧ 17300 < mv ∧
    ((s.group g).supply = .low ∨ (s.group g).supply = .absent))
    [(groupsBy (fun g => { g with supply := .low }) op, 4, 17301),
      (groupsBy (fun g => { g with supply := .absent }) op, 5, 32000)]) ∧
  (Met (fun ((s, g, mv, high, c) : State × Nat × Nat × Bool × Instr) => RegsWf s ∧ (g = 4 ∨ g = 5) ∧ s.dio.groups.length = 6 ∧ s.dio.enabled = true ∧
    (c = .doSupplyUnder g mv ∧ high = false ∧ mv < 14400 ∧ (s.group g).supply ≠ .under ∨ c = .doSupplyOver g mv ∧ high = true ∧ 36000 < mv ∧
      (s.group g).supply ≠ .over))
    [(op, 4, 14399, false, .doSupplyUnder 4 14399),
      (outsBy (fun o => { o with on := true }) op2, 5, 36001, true, .doSupplyOver 5 36001)]) ∧
  (Met (fun ((s, g, mv) : State × Nat × Nat) => (g = 4 ∨ g = 5) ∧ s.dio.groups.length = 6 ∧ s.dio.enabled = true ∧
    (s.group g).causes &&& 0b000011000#9 ≠ 0 ∧ (s.group g).ready = false ∧ 18000 ≤ mv ∧ mv ≤ 32000)
    [(groupsBy (fun g => { g with causes := 8, supply := .under, ready := false }) op, 4, 18000),
      (withRegs [(Off.DIO_GRP_CFG + 20, 0x10064)] (groupsBy (fun g => { g with causes := 16, supply := .over, ready := false }) op), 5, 32000)]) ∧
  (Met (fun ((s, g, since) : State × Nat × Nat) => RegsWf s ∧ (g = 4 ∨ g = 5) ∧ s.dio.groups.length = 6 ∧ s.dio.enabled = true ∧
    (s.onSince g).min? = some since ∧ (s.group g).causes.getLsbD 8 = false)
    [(outsBy (fun o => { o with on := true, changedAt := 7 }) op, 4, 7),
      (outsBy (fun o => { o with on := true }) { op2 with now := 2000000000 }, 5, 0)]) ∧
  (Met (fun s : State => s.hubOn = true ∧ s.dio.groups.length = 6 ∧ s.dio.outs.length = 16)
    [outsBy (fun o => { o with on := true }) op]) :=
  by
    and_intros <;> (repeat' apply Met.cons) <;>
      first | exact .nil | ((try unfold RegsWf); decide +kernel)

/-- `OutputFaultsAndRequests`: its clauses from CHANNEL_OVERCURRENT to DARK_TEST_END. -/
theorem witness_OutputFaults :
  (Met (fun ((s, n, b, us, cnt, c) : State × Nat × Nat × Nat × List Nat × Instr) => RegsWf s ∧ s.dio.enabled = true ∧ n < 16 ∧ n < s.dio.outs.length ∧
    bit (s.reg Off.CHK_CMP_MASK) n = false ∧ (s.dout n).has b = false ∧ (c = .channelOvercurrent n ∧ b = 0 ∧ us = s.ocTime n ∧
      cnt = [Off.DIO_OC_CNT] ∧ (s.dout n).on = true ∨ c = .channelOvertemp n ∧ b = 1 ∧ us = 0 ∧ cnt = [Off.DIO_OT_CNT] ∨ c = .openLoad n ∧ b = 2 ∧
        us = 101000 ∧ cnt = [] ∧ (s.dout n).on = true ∧ bit (s.outCfg n) 8 = true ∨ c = .stuckOff n ∧ b = 3 ∧ us = 2000 ∧ cnt = [] ∧
          (s.dout n).on = true ∨ c = .shortSupplyDetect n none false ∧ b = 4 ∧ us = 3000 ∧ cnt = [Off.DIO_SS_CNT] ∧ (s.dout n).on = false ∧
            (s.dout n).dark = false ∧ (s.dout n).has 5 = false ∧ bit (s.outCfg n) 10 = false ∧ bit (s.outCfg n) 9 = false))
    [(withRegs [(Off.CHK_CMP_MASK, 0)] (outsBy (fun o => { o with on := true }) settledOuts), 0, 0, State.ocTime op 0, [Off.DIO_OC_CNT],
      .channelOvercurrent 0),
      (withRegs [(Off.CHK_CMP_MASK, 0)] settledOuts, 15, 1, 0, [Off.DIO_OT_CNT], .channelOvertemp 15),
      (withRegs [(Off.DIO_OUT_CFG + 60, 0x100), (Off.CHK_CMP_MASK, 0)] (outsBy (fun o => { o with on := true }) settledOuts), 15, 2, 101000, [],
        .openLoad 15),
      (withRegs [(Off.CHK_CMP_MASK, 0)] (outsBy (fun o => { o with on := true }) settledOuts), 8, 3, 2000, [], .stuckOff 8),
      (withRegs [(Off.DIO_OUT_CFG + 28, 1), (Off.CHK_CMP_MASK, 0)] settledOuts, 7, 4, 3000, [Off.DIO_SS_CNT], .shortSupplyDetect 7 none false)]) ∧
  (Met (fun ((s, n) : State × Nat) => n < 16 ∧ n < s.dio.outs.length)
    [(outsBy (fun o => { o with faults := 0x7F }) op, 15)]) ∧
  (Met (fun ((s, n, m) : State × Nat × Nat) => RegsWf s ∧ s.dio.enabled = true ∧ n < 16 ∧ n < s.dio.outs.length ∧ (s.dout n).on = false ∧
    (s.dout n).dark = false ∧ bit (s.outCfg n) 10 = false ∧ (s.dout n).has 4 = false ∧ (s.dout n).has 5 = false ∧ s.isPartner n m = true)
    [(withRegs [(Off.DIO_OUT_CFG + 60,
      0x10)] { op with dio := { op.dio with outs := List.replicate 15 Reset.out ++ [{ Reset.out with on := true }] } }, 0, 15)]) ∧
  (Met (fun ((s, n) : State × Nat) => RegsWf s ∧ n < 16 ∧ n < s.dio.outs.length ∧ s.dio.groups.length = 6 ∧ s.dio.enabled = true ∧
    (s.dout n).on = false ∧ (s.dout n).dark = false ∧ bit (s.outCfg n) 10 = false ∧ bit (s.outCfg n) 9 = true ∧ (s.dout n).has 4 = false ∧
      (s.dout n).has 5 = false)
    [(withRegs [(Off.DIO_OUT_CFG + 60, 0x200)] op, 15),
      (withRegs [(Off.DIO_OUT_CFG, 0x200)] op2, 0)]) ∧
  (Met (fun ((s, n) : State × Nat) => s.darkReady n = true ∧ n < s.dio.outs.length ∧ s.resolve n (s.dout n) = true)
    [(withRegs [(Off.DIO_OUT_CFG + 60,
      0x10)] (groupsBy (fun g => { g with causes := 0 }) (outsBy (fun o => { o with on := true, image := true, fresh := true, refreshAt := some 0 }) { op with now := 1000000000 })),
        15)]) ∧
  (Met (fun ((s, n) : State × Nat) => RegsWf s ∧ n < 16 ∧ n < s.dio.outs.length ∧ (s.dout n).dark = true ∧ bit (s.reg Off.CHK_CMP_MASK) n = false)
    [(withRegs [(Off.CHK_CMP_MASK, 0)] (outsBy (fun o => { o with dark := true, darkFails := 1 }) op), 15),
      (withRegs [(Off.CHK_CMP_MASK, 0)] (outsBy (fun o => { o with dark := true, darkFails := 1 }) op), 0)]) :=
  by
    and_intros <;> (repeat' apply Met.cons) <;>
      first | exact .nil | ((try unfold RegsWf); decide +kernel)

/-- `OutputFaultsAndRequests`: its clauses from CLEAR_FAULT to TRIP_REG_WRITE. -/
theorem witness_OutputRequests :
  (Met (fun ((s, n) : State × Nat) => RegsWf s ∧ n < 16 ∧ n < s.dio.outs.length ∧ s.up = true ∧ s.fenced = false ∧ (s.dout n).darkFails = 0)
    [(outsBy (fun o => { o with faults := 0x7F }) op, 15)]) ∧
  (Met (fun ((s, n) : State × Nat) => RegsWf s ∧ n < 16 ∧ n < s.dio.outs.length ∧ s.up = true ∧ s.fenced = false ∧ (s.dout n).darkFails = 0 ∧
    (s.dout n).has 0 = true)
    [(outsBy (fun o => { o with faults := 0x7F }) op2, 0)]) ∧
  (Met (fun ((s, g) : State × Nat) => RegsWf s ∧ (g = 4 ∨ g = 5) ∧ s.dio.groups.length = 6 ∧ s.up = true ∧ s.fenced = false ∧ s.reenableCause g = 0)
    [(groupsBy (fun g => { g with causes := 0x1FF, ready := true, supply := .under }) op, 4),
      (op, 5)]) ∧
  (Met (fun ((s, g) : State × Nat) => RegsWf s ∧ (g = 4 ∨ g = 5) ∧ s.dio.groups.length = 6 ∧ s.up = true ∧ s.fenced = false ∧
    (s.group g).causes &&& 0b000011000#9 ≠ 0 ∧ (s.group g).ready = false)
    [(groupsBy (fun g => { g with causes := 8, ready := false }) op, 5)]) ∧
  (Met (fun ((s, r) : State × Nat) => RegsWf s ∧ r < 8 ∧ s.up = true ∧ s.fenced = false ∧ s.ruleTrue r = false)
    [({ op with dio := { op.dio with latched := 0xFF } }, 7)]) ∧
  (Met (fun ((s, r) : State × Nat) => RegsWf s ∧ r < 8 ∧ s.up = true ∧ s.fenced = false ∧ s.ruleTrue r = true)
    [(withRegs [(Off.DIO_TRIP_MASK, 1), (Off.DIO_TRIP_CFG, 5)] { op with dio := { op.dio with latched := 0xFF, trueR := 1 } }, 0)]) ∧
  (Met (fun ((s, r) : State × Nat) => RegsWf s ∧ r < 8 ∧ s.up = true ∧ s.fenced = false ∧ bit (s.tripCfg r) 3 = true ∧
    s.dio.latched.getLsbD r = true ∧ s.ruleTrue r = false)
    [(withRegs [(Off.DIO_TRIP_CFG + 112, 8)] { op with dio := { op.dio with latched := 0xFF } }, 7)]) ∧
  (Met (fun ((s, v) : State × Word) => ∃ g : Nat, g = fld v 4 8 ∧ RegsWf s ∧ fld v 16 16 = 0x444F ∧ (g = 4 ∨ g = 5) ∧ s.dio.groups.length = 6 ∧
    s.up = true ∧ s.fenced = false)
    [(outsBy (fun o => { o with on := true }) op, 0x444F0044)]) ∧
  (Met (fun ((s, v) : State × Word) => ∃ g : Nat, g = fld v 4 8 ∧ RegsWf s ∧ fld v 16 16 = 0x444F ∧ (g = 4 ∨ g = 5) ∧ s.dio.groups.length = 6 ∧
    s.up = true ∧ s.fenced = false)
    [(groupsBy (fun g => { g with causes := 0x41 }) op, 0x444F0055)]) ∧
  (Met (fun ((s, v, c, cause) : State × Word × Instr × Nat) => RegsWf s ∧ s.up = true ∧ (c = .groupOpen v ∨ c = .groupRelease v) ∧ (cause = 1 ∧
    fld v 16 16 ≠ 0x444F ∨ cause = 3 ∧ fld v 16 16 = 0x444F ∧ fld v 4 8 ≠ 4 ∧ fld v 4 8 ≠ 5))
    [(op, 0x444E0044, .groupOpen 0x444E0044, 1),
      (op, 0x444F0065, .groupRelease 0x444F0065, 3)]) ∧
  (Met (fun ((s, r, o) : State × Nat × Nat) => RegsWf s ∧ s.up = true ∧ r < 8 ∧ o ∈ [0, 4, 8] ∧ s.sys.mode = .safeHold ∧
    s.pendingAt (Off.DIO_TRIP_MASK + 16 * r + o) = none)
    [(hold, 7, 8),
      (hold, 0, 0)]) ∧
  (Met (fun ((s, r, o) : State × Nat × Nat) => RegsWf s ∧ s.up = true ∧ r < 8 ∧ o ∈ [0, 4, 8] ∧ s.sys.mode ≠ .safeHold)
    [(op, 7, 4)]) :=
  by
    and_intros <;> (repeat' apply Met.cons) <;>
      first | exact .nil | ((repeat refine ⟨_, rfl, ?_⟩); unfold RegsWf; decide +kernel)

/-- `RoleDecision`. -/
theorem witness_RoleDecision :
  (Met (fun ((s, r) : State × CkRec) => s.chk.role = .deciding ∧ s.chk.ga1Wait = false ∧ s.sys.mode = .verify ∧ ckOk 8 r = true ∧ r.length = 32 ∧
    roleLt (beAt r.body 0 4, beAt r.body 4 8, beAt r.body 12 16) (s.lastClaim, s.lastCycle, Config.unitId.toNat) = false)
    [(deciding, ckRecord 8 0 0 0 (beBytes 4 5 ++ List.replicate 28 0))]) ∧
  (Met (fun ((s, r) : State × CkRec) => s.chk.role = .deciding ∧ s.chk.ga1Wait = false ∧ s.sys.mode = .verify ∧ ckOk 8 r = true ∧ r.length = 32 ∧
    roleLt (beAt r.body 0 4, beAt r.body 4 8, beAt r.body 12 16) (s.lastClaim, s.lastCycle, Config.unitId.toNat) = true ∧
      max s.lastClaim (max (beAt r.body 0 4) s.chk.roleClaim.toNat) < 4294967295)
    [(claimed, ckRecord 8 0 0 0 (List.replicate 32 0)),
      ({ claimed with regs := [(Off.FTN_NODE_CFG, 0x10000), (Off.CHK_CFG, 0x103)], sys := { claimed.sys with cpfValid := true } },
        ckRecord 8 0 0 0 (List.replicate 32 0)),
      ({ claimed with sys := { claimed.sys with cpfValid := true } }, ckRecord 8 0 0 0 (List.replicate 32 0))]) ∧
  (Met (fun ((s, c, at_) : State × Instr × Nat) => (c = .roleTimeout ∧ s.chk.role = .deciding ∧ s.chk.ga1Wait = false ∧ s.isl.ga % 2 = 0 ∧
    at_ = s.chk.roleAt + 20000000 ∨ c = .ga1ClaimWaitEnd ∧ s.chk.ga1Wait = true ∧ s.chk.pClaim = false ∧ at_ = s.chk.roleAt + 70000000) ∧
      max s.lastClaim s.chk.roleClaim.toNat < 4294967295)
    [(deciding, .roleTimeout, 20000000),
      (chkBy (fun c => { c with ga1Wait := true }) claimed, .ga1ClaimWaitEnd, 70000000)]) ∧
  (Met (fun ((s, c, at_) : State × Instr × Nat) => (c = .roleTimeout ∧ s.chk.role = .deciding ∧ s.chk.ga1Wait = false ∧ s.isl.ga % 2 = 0 ∧
    at_ = s.chk.roleAt + 20000000 ∨ c = .ga1ClaimWaitEnd ∧ s.chk.ga1Wait = true ∧ s.chk.pClaim = false ∧ at_ = s.chk.roleAt + 70000000) ∧
      max s.lastClaim s.chk.roleClaim.toNat = 4294967295)
    [(chkBy (fun c => { c with roleClaim := 0xFFFFFFFF }) claimed, .roleTimeout, 20000000),
      (chkBy (fun c => { c with roleClaim := 0xFFFFFFFF, ga1Wait := true }) claimed, .ga1ClaimWaitEnd, 70000000)]) ∧
  (Met (fun s : State => s.chk.role = .deciding ∧ s.chk.ga1Wait = false ∧ s.isl.ga % 2 = 1)
    [{ deciding with isl := { deciding.isl with ga := 1 } }]) ∧
  (Met (fun s : State => s.chk.ga1Wait = true ∧ s.chk.pClaim = true)
    [chkBy (fun c => { c with ga1Wait := true, pClaim := true }) deciding]) ∧
  (Met (fun s : State => s.chk.watch = true ∧ s.sys.mode = .verify ∧ s.chk.holder = true ∧ s.ftnNode = true)
    [withRegs [(Off.FTN_NODE_CFG, 0x10000)] (chkBy (fun c => { c with watch := true }) (holder verify))]) ∧
  (Met (fun s : State => s.chk.watch = true ∧ s.sys.mode = .verify ∧ s.chk.holder = true ∧ s.ftnNode = false ∧ fld (s.reg Off.SYS_START_CFG) 0 2 = 0 ∧
    s.sys.cpfValid = true ∧ s.sys.storeBad = false ∧ s.sys.found = 0 ∧ s.nv.tamper = false)
    [let x := chkBy (fun c => { c with watch := true }) (holder verify); { x with sys := { x.sys with cpfValid := true } }]) ∧
  (Met (fun s : State => s.chk.watch = true ∧ s.sys.mode = .verify ∧ s.chk.holder = false)
    [chkBy (fun c => { c with watch := true }) verify]) :=
  by
    and_intros <;> (repeat' apply Met.cons) <;>
      first | exact .nil | decide +kernel

/-- `Claims`. -/
theorem witness_Claims :
  (Met (fun s : State => s.chk.watch = true ∧ s.chk.holder = true)
    [chkBy (fun c => { c with watch := true }) (holder verify)]) ∧
  (Met (fun s : State => s.chk.holder = false)
    [op]) ∧
  (Met (fun ((s, c, dest, claim, unit, seen) : State × Instr × Nat × Word × BitVec 128 × Bool) => RegsWf s ∧ s.chk.holder = true ∧
    (c = .partnerClaimEdge ∧ s.chk.watch = false ∧ seen = false ∨ c = .claimAnnounce dest claim unit ∧ dest = fld (s.reg Off.CHK_PARTNER) 0 14 ∧
      s.up = true ∧ ownLess s claim unit = true ∧ seen = true ∨ c = .claimReject dest claim unit ∧ s.ftnNode = true ∧ dest = s.ownAddr ∧
        ownLess s claim unit = true ∧ seen = true) ∧ s.running = false ∧ s.held = false)
    [(withRegs [(Off.CHK_CFG, 0x103)] (holder verify), .partnerClaimEdge, 0, 0, 0, false),
      (withRegs [(Off.CHK_CFG, 0x103), (Off.CHK_PARTNER, 7)] (holder verify), .claimAnnounce 7 6 0, 7, 6, 0, true),
      (withRegs [(Off.FTN_NODE_CFG, 0x10100), (Off.CHK_CFG, 0x103)] (holder verify), .claimReject 256 0xFFFFFFFF 0, 256, 0xFFFFFFFF, 0, true)]) ∧
  (Met (fun ((s, c, dest, claim, unit, seen) : State × Instr × Nat × Word × BitVec 128 × Bool) => RegsWf s ∧ s.chk.holder = true ∧
    (c = .partnerClaimEdge ∧ s.chk.watch = false ∧ seen = false ∨ c = .claimAnnounce dest claim unit ∧ dest = fld (s.reg Off.CHK_PARTNER) 0 14 ∧
      s.up = true ∧ ownLess s claim unit = true ∧ seen = true ∨ c = .claimReject dest claim unit ∧ s.ftnNode = true ∧ dest = s.ownAddr ∧
        ownLess s claim unit = true ∧ seen = true) ∧ (s.running = true ∨ s.held = true) ∧ s.pairMember = true ∧ s.chk.mramOk = true)
    [(withRegs [(Off.CHK_CFG, 0x103)] (holder op), .partnerClaimEdge, 0, 0, 0, false),
      (withRegs [(Off.CHK_CFG, 0x103)] (holder hold), .claimAnnounce 0 6 0, 0, 6, 0, true),
      (withRegs [(Off.FTN_NODE_CFG, 0x10100), (Off.CHK_CFG, 0x103)] (holder op2), .claimReject 256 0xFFFFFFFF 0, 256, 0xFFFFFFFF, 0, true)]) ∧
  (Met (fun ((s, c, dest, claim, unit, seen) : State × Instr × Nat × Word × BitVec 128 × Bool) => RegsWf s ∧ s.chk.holder = true ∧
    (c = .partnerClaimEdge ∧ s.chk.watch = false ∧ seen = false ∨ c = .claimAnnounce dest claim unit ∧ dest = fld (s.reg Off.CHK_PARTNER) 0 14 ∧
      s.up = true ∧ ownLess s claim unit = true ∧ seen = true ∨ c = .claimReject dest claim unit ∧ s.ftnNode = true ∧ dest = s.ownAddr ∧
        ownLess s claim unit = true ∧ seen = true) ∧ (s.running = true ∨ s.held = true) ∧ (s.pairMember = false ∨ s.chk.mramOk = false))
    [(holder op, .partnerClaimEdge, 0, 0, 0, false),
      (chkBy (fun c => { c with mramOk := false }) (withRegs [(Off.CHK_CFG, 0x103)] (holder hold)), .claimAnnounce 0 6 0, 0, 6, 0, true),
      (withRegs [(Off.FTN_NODE_CFG, 0x10100)] (holder op2), .claimReject 256 0xFFFFFFFF 0, 256, 0xFFFFFFFF, 0, true)]) ∧
  (Met (fun ((s, claim) : State × Word) => ∃ dest : Nat, dest = fld (s.reg Off.CHK_PARTNER) 0 14 ∧ RegsWf s ∧ s.chk.holder = true ∧ s.up = true ∧
    claim.toNat < s.chk.claim.toNat ∧ s.chk.rejected = false ∧ s.ftn.arb.length < 32)
    [(holder op, 4)]) ∧
  (Met (fun ((s, dest, claim, unit, c) : State × Nat × Word × BitVec 128 × Instr) => RegsWf s ∧ s.chk.holder = true ∧
    claim.toNat < s.chk.claim.toNat ∧ (c = .claimAnnounce dest claim unit ∧ dest = fld (s.reg Off.CHK_PARTNER) 0 14 ∧ s.chk.rejected = true ∨
      c = .claimReject dest claim unit ∧ s.ftnNode = true ∧ dest = s.ownAddr))
    [(chkBy (fun c => { c with rejected := true }) (holder op), 0, 4, 0, .claimAnnounce 0 4 0),
      (withRegs [(Off.FTN_NODE_CFG, 0x10100)] (holder op2), 256, 0, 0, .claimReject 256 0 0)]) ∧
  (Met (fun s : State => s.chk.holder = true ∧ s.ftnNode = true ∧ s.ftn.su = .integrated ∧ max 1 (fld (s.reg Off.CHK_CFG) 8 4) ≤ s.chk.announced ∧
    s.ftn.arb.length < 32)
    [withRegs [(Off.FTN_NODE_CFG, 0x10100)] (net [] (chkBy (fun c => { c with announced := 1 }) (holder op)))]) :=
  by
    and_intros <;> (repeat' apply Met.cons) <;>
      first | exact .nil | ((repeat refine ⟨_, rfl, ?_⟩); (try unfold RegsWf); decide +kernel)

/-- `StandbyRecords`. -/
theorem witness_StandbyRecords :
  (Met (fun ((s, r) : State × CkRec) => ∃ a : Nat, a = s.idMatches 0 (slice r.body 8 8) ∧ ∃ b : Nat, b = s.idMatches 3 (slice r.body 16 8) ∧
    ∃ full : Bool, full = (r.body.getD 29 0).getLsbD 0 ∧ s.standbyTakes 1 r = true ∧ r.length = 32 ∧ s.chk.inSet = none ∧ a ≠ 0 ∧ b ≠ 0 ∧
      s.chk.mramOk = true ∧ r.recSeq = 0 ∧ r.half.toNat = r.setSeq.toNat % 2 ∧ (full = true ∨ (s.half r.half.toNat).state = .committed ∧
        (s.half r.half.toNat).set.toNat = beAt r.body 0 4))
    [(standby, startRec)]) ∧
  (Met (fun ((s, r) : State × CkRec) => ∃ a : Nat, a = s.idMatches 0 (slice r.body 8 8) ∧ ∃ b : Nat, b = s.idMatches 3 (slice r.body 16 8) ∧
    ∃ full : Bool, full = (r.body.getD 29 0).getLsbD 0 ∧ s.standbyTakes 1 r = true ∧ r.length = 32 ∧ s.chk.inSet = none ∧ (a = 0 ∨ b = 0 ∨
      s.chk.mramOk = false ∨ r.recSeq ≠ 0 ∨ r.half.toNat ≠ r.setSeq.toNat % 2 ∨ full = false ∧ ((s.half r.half.toNat).state ≠ .committed ∨
        (s.half r.half.toNat).set.toNat ≠ beAt r.body 0 4)))
    [(standby, ckRecord 1 1 3 1 startRec.body),
      (chkBy (fun c => { c with mramOk := false }) standby, startRec)]) ∧
  (Met (fun ((s, r, i) : State × CkRec × SetIn) => s.sys.mode = .standby ∧ s.chk.inSet = some i ∧ ckOk 2 r = true ∧ r.setSeq = i.set ∧
    r.half.toNat = i.half ∧ r.recSeq.toNat = i.next ∧ r.length = 4100 ∧ beAt r.body 0 4 < 16384)
    [(receiving 1, ckRecord 2 1 3 1 (beBytes 4 16383 ++ List.replicate 4096 7), setIn 1)]) ∧
  (Met (fun ((s, r, i) : State × CkRec × SetIn) => s.sys.mode = .standby ∧ s.chk.inSet = some i ∧ (ckOk 2 r = false ∨ r.setSeq ≠ i.set ∨
    r.half.toNat ≠ i.half ∨ r.recSeq.toNat ≠ i.next ∨ r.length ≠ 4100 ∨ 16384 ≤ beAt r.body 0 4))
    [(receiving 2, ckRecord 2 1 3 1 (List.replicate 4100 7), setIn 2)]) ∧
  (Met (fun ((s, r, i) : State × CkRec × SetIn) => s.sys.mode = .standby ∧ s.chk.inSet = some i ∧ ckOk 3 r = true ∧ r.setSeq = i.set ∧
    r.half.toNat = i.half ∧ r.recSeq.toNat = i.next ∧ r.length = 20 ∧ beAt r.body 8 4 = i.next - 1 ∧
      beAt r.body 12 4 = (crc32c (i.crcs.flatMap fun c => beBytes 4 c.toNat)).toNat)
    [(receiving 1, ckRecord 3 1 3 1 (beBytes 8 9 ++ beBytes 4 0 ++ beBytes 4 0 ++ beBytes 4 0), setIn 1)]) ∧
  (Met (fun ((s, r, i) : State × CkRec × SetIn) => s.sys.mode = .standby ∧ s.chk.inSet = some i ∧ (ckOk 3 r = false ∨ r.setSeq ≠ i.set ∨
    r.half.toNat ≠ i.half ∨ r.recSeq.toNat ≠ i.next ∨ r.length ≠ 20 ∨ beAt r.body 8 4 ≠ i.next - 1))
    [(receiving 2, ckRecord 3 1 3 1 (beBytes 8 9 ++ beBytes 4 0 ++ beBytes 4 0 ++ beBytes 4 0), setIn 2)]) ∧
  (Met (fun ((s, r) : State × CkRec) => s.standbyTakes 4 r = true ∧ r.length = 8)
    [(standby, ckRecord 4 0 0 0 (beBytes 4 2000 ++ beBytes 4 0))]) ∧
  (Met (fun ((s, r) : State × CkRec) => s.standbyTakes 5 r = true ∧ r.length = 4)
    [(standby, ckRecord 5 0 0 0 (beBytes 4 20))]) ∧
  (Met (fun ((s, r) : State × CkRec) => s.standbyTakes 6 r = true ∧ r.length = 0)
    [(standby, ckRecord 6 0 0 0 [])]) :=
  by refine ⟨.cons (⟨_, rfl, _, rfl, _, rfl, by
          refine ⟨(by unfold State.standbyTakes; simp [startRec, ckRecord_ok]; rfl), by decide +kernel, by decide +kernel, (by rw [startRec_ids.1]; exact startRec_image _ _ (by decide +kernel)), (by rw [startRec_ids.2]; exact startRec_image _ _ (by decide +kernel)), by decide +kernel, by decide +kernel, ?_⟩
          decide +kernel⟩) .nil,
      .cons (⟨_, rfl, _, rfl, _, rfl, by
          refine ⟨(by unfold State.standbyTakes; simp [startRec, ckRecord_ok]; rfl), by decide +kernel, by decide +kernel, ?_⟩
          exact .inr (.inr (.inr (.inl (by decide +kernel))))⟩) (.cons (⟨_, rfl, _, rfl, _, rfl, by
          refine ⟨(by unfold State.standbyTakes; simp [startRec, ckRecord_ok]; rfl), by decide +kernel, by decide +kernel, ?_⟩
          exact .inr (.inr (.inl (by decide +kernel)))⟩) .nil),
      .cons (by
          refine ⟨by decide +kernel, by decide +kernel, ckRecord_ok (by decide), ?_⟩
          decide +kernel) .nil,
      .cons (by
          refine ⟨by decide +kernel, by decide +kernel, ?_⟩
          exact .inr (by decide +kernel)) .nil,
      ?_, ?_, ?_, ?_, ?_⟩ <;>
    (repeat' apply Met.cons) <;>
      first | exact .nil | decide +kernel

/-- `PairSignalsAndCommands`: its clauses from HANDOVER_RECORD to PARTNER_PRESENT_CHANGE. -/
theorem witness_PairSignals :
  (Met (fun ((s, u, c, r, h) : State × State × Instr × CkRec × Nat) => s.sys.mode = .standby ∧ s.newestHalf = some h ∧ s.chk.idMatch = true ∧
    (c = .handoverRecord r ∧ ckOk 7 r = true ∧ r.length = 0 ∧ u = s ∨ c = .streamTimeout ∧ s.chk.applied = true ∧ u = advanceTo s.chk.deadline s ∨
      c = .partnerFailAsserted ∧ u = s))
    [(standby, standby, .handoverRecord (ckRecord 7 0 0 0 []), ckRecord 7 0 0 0 [], 0),
      (chkBy (fun c => { c with applied := true, deadline := 5000 }) standby,
        advanceTo (chkBy (fun c => { c with applied := true, deadline := 5000 }) standby : State).chk.deadline (chkBy (fun c => { c with applied := true, deadline := 5000 }) standby : State),
          .streamTimeout, ckRecord 7 0 0 0 [], 0),
      (standby, standby, .partnerFailAsserted, ckRecord 7 0 0 0 [], 0)]) ∧
  (Met (fun s : State => s.sys.mode = .standby ∧ s.chk.idMatch = false ∧ s.chk.cycleUs ≠ 0)
    [chkBy (fun c => { c with idMatch := false }) standby]) ∧
  (Met (fun s : State => RegsWf s ∧ s.sys.mode ≠ .standby ∧ s.chk.role = .active ∧ s.chk.presentN = true ∧ s.chk.stream ≠ .resync ∧
    s.resyncFree = true)
    [holder op]) ∧
  (Met (fun s : State => s.sys.mode ≠ .standby ∧ (s.chk.role ≠ .active ∨ s.chk.presentN = false ∨ s.chk.stream = .resync ∨ s.resyncFree = false))
    [op,
      chkBy (fun c => { c with stream := .resync }) (holder op),
      chkBy (fun c => { c with presentN := false }) (holder op),
      chkBy (fun c => { c with resyncAt := some 0 }) (holder op)]) ∧
  (Met (fun s : State => (s.chk.role ≠ .active ∨ s.chk.pFail = false))
    [op,
      holder op]) ∧
  (Met (fun s : State => RegsWf s ∧ s.chk.role = .active ∧ s.chk.pFail = true ∧ s.chk.stream ≠ .resync ∧ s.resyncFree = true)
    [chkBy (fun c => { c with pFail := true, presentN := false }) (holder op)]) :=
  by
    and_intros <;> (repeat' apply Met.cons) <;>
      first | exact .nil | ((try unfold RegsWf); decide +kernel)

/-- `PairSignalsAndCommands`: its clauses from CHK_RESYNC to CMP_REPORT. -/
theorem witness_PairCommands :
  (Met (fun s : State => RegsWf s ∧ s.chk.role = .active ∧ s.chk.presentN = true)
    [holder op]) ∧
  (Met (fun s : State => RegsWf s ∧ s.chk.protected_ = true ∧ s.running = true ∧ s.chk.role = .active)
    [let x := chkBy (fun c => { c with protected_ := true, stream := .running, out := some ⟨7, false, [], 0, 0, 9, 0, []⟩ }) (holder op); { x with brg := { x.brg with link0 := { x.brg.link0 with state := .up } } }]) ∧
  (Met (fun ((s, c, cause, key) : State × Instr × Nat × Half) => RegsWf s ∧ ((c = .chkResync key ∨ c = .chkHandover key) ∧ (key ≠ 0x434B ∧ cause = 1 ∨
    key = 0x434B ∧ s.chk.role ≠ .active ∧ cause = 3) ∨ c = .chkHandover key ∧ key = 0x434B ∧ s.chk.role = .active ∧ (s.chk.protected_ = false ∨
      s.running = false) ∧ cause = 4))
    [(holder op, .chkResync 0, 1, 0),
      (holder op, .chkHandover 0x434C, 1, 0x434C),
      (op, .chkResync 0x434B, 3, 0x434B),
      (op, .chkHandover 0x434B, 3, 0x434B),
      (holder op, .chkHandover 0x434B, 4, 0x434B)]) ∧
  (Met (fun ((s, v) : State × Word) => RegsWf s ∧ fld v 16 16 ≠ 0x434D)
    [(op, 0x434E0001)]) ∧
  (Met (fun ((s, v) : State × Word) => RegsWf s ∧ fld v 16 16 = 0x434D ∧ s.pairMember = true ∧ s.chk.role = .active ∧
    (bit (s.reg Off.CHK_CFG) 1 = false ∨ s.chk.protected_ = false))
    [(withRegs [(Off.CHK_CFG, 0x101)] (holder op), 0x434D3FFF)]) ∧
  (Met (fun ((s, v) : State × Word) => RegsWf s ∧ fld v 16 16 = 0x434D ∧ s.pairMember = true ∧ s.chk.role = .active ∧
    bit (s.reg Off.CHK_CFG) 1 = true ∧ s.chk.protected_ = true ∧ s.sys.failSilent = false)
    [(withRegs [(Off.CHK_CFG, 0x103)] (chkBy (fun c => { c with protected_ := true }) (holder op)), 0x434D0001)]) :=
  by
    and_intros <;> (repeat' apply Met.cons) <;>
      first | exact .nil | (unfold RegsWf; decide +kernel)

/-- `InterruptController`: its clauses from SOURCE_ASSERT to EXTINT_DORMANT_EDGE. -/
theorem witness_InterruptSources :
  (Met (fun ((s, l, id, k, v, c) : State × Lane × Nat × Nat × Word × Instr) => s.laneRuns l = true ∧ (c = .sourceAssert l id ∨ c = .swiSet l k v ∧
    id = fld v 0 9 ∧ 448 ≤ id) ∧ irqAssigned id = true)
    [(op, .b, 511, 0, 0, .sourceAssert .b 511),
      (withLaneRegs [(0x1000 + 4 * 448, 0x3F01)] op, .a, 448, 3, 448, .swiSet .a 3 448)]) ∧
  (Met (fun ((s, l, id, k, v, c) : State × Lane × Nat × Nat × Word × Instr) => s.laneRuns l = true ∧ (c = .sourceAssert l id ∨ c = .swiSet l k v ∧
    id = fld v 0 9 ∧ 448 ≤ id) ∧ irqAssigned id = false)
    [(op, .b, 0, 0, 0, .sourceAssert .b 0),
      (op, .b, 431, 0, 0, .sourceAssert .b 431)]) ∧
  (Met (fun ((s, l, id, i, fast) : State × Lane × Nat × Nat × Bool) => s.laneRuns l = true ∧ irqAssigned id = true ∧ (s.icu l).pend = [] ∧
    (s.icu l).signalled id = false ∧ (s.icu l).isActive id = false ∧ (∀ k ∈ (s.icu l).cores, k.held ≠ id) ∧ bit (s.srcCfg l id) 0 = true ∧
      fast = bit (s.srcCfg l id) 1 ∧ i < (s.icu l).cores.length ∧ (s.icuCore l i).candidate fast = true ∧ bit (s.srcCfg l id) (8 + i) = true ∧ (∀ j,
        j < (s.icu l).cores.length → (s.icuCore l j).candidate fast = true → bit (s.srcCfg l id) (8 + j) = true → (s.icuCore l i).effPri < (s.icuCore l j).effPri ∨
          (s.icuCore l i).effPri = (s.icuCore l j).effPri ∧ i ≤ j))
    [(withLaneRegs [(0x1000 + 4 * 448, 0x3F01)] op, .a, 448, 0, false),
      (withLaneRegs [(0x1000 + 4, 0x2003)] op, .c, 1, 5, true)]) ∧
  (Met (fun ((s, l, v) : State × Lane × Word) => RegsWf s ∧ s.laneRuns l = true ∧ fld v 0 9 < 448)
    [(op, .b, 447),
      (op, .c, 0)]) ∧
  (Met (fun ((s, l, w) : State × Lane × Nat) => s.laneRuns l = true ∧ w < 16)
    [(pends [449, 450] (coresBy (fun x => { x with sigN := 450 }) op), .a, 14),
      (pends [1, 511] (coresBy (fun x => { x with sigF := 511, sigN := 1, seq := .nEntry }) op), .b, 15),
      (op, .c, 0)]) ∧
  (Met (fun ((s, l, id) : State × Lane × Nat) => s.laneRuns l = true ∧ id ∈ (s.icu l).pend ∧ bit (s.srcCfg l id) 0 = true ∧
    (s.icu l).signalled id = false ∧ (∀ k,
      k < (s.icu l).cores.length → bit (s.srcCfg l id) (8 + k) = true → (s.icuCore l k).candidate (bit (s.srcCfg l id) 1) = false))
    [(pends [448] (coresBy (fun x => { x with seq := .wait, maskN := true }) (withLaneRegs [(0x1000 + 4 * 448, 0x2101)] op)), .b, 448)]) ∧
  (Met (fun ((s, k, cycles, rising) : State × Nat × Nat × Bool) => ∃ cfg : Word, cfg = s.maj (Off.ICU_EXT_CFG + 4 * k) ∧ RegsWf s ∧ s.up = true ∧
    s.verified = true ∧ k < 16 ∧ rising ≠ s.vot.extIn.getLsbD k ∧ (s.vot.extAt.getD k 0 + 3) / 4 + cycles ≤ s.now / 4 ∧ fld cfg 8 10 ≤ cycles)
    [({ pends [447] op with now := 40007, vot := { op.vot with extAt := List.replicate 16 1 } }, 15, 10000, true),
      ({ withLaneRegs [(Off.ICU_EXT_CFG, 0x1902)] op2 with now := 100, vot := { op2.vot with extIn := 0xFFFF } }, 0, 25, false),
      ({ hold with now := 100000, vot := { hold.vot with extIn := 1 } }, 0, 25000, false)]) ∧
  (Met (fun ((s, k, cycles, rising) : State × Nat × Nat × Bool) => ∃ cfg : Word, cfg = s.maj (Off.ICU_EXT_CFG + 4 * k) ∧ RegsWf s ∧ s.up = true ∧
    s.verified = true ∧ k < 16 ∧ rising ≠ s.vot.extIn.getLsbD k ∧ (s.vot.extAt.getD k 0 + 3) / 4 + cycles ≤ s.now / 4 ∧ cycles < fld cfg 8 10)
    [({ withLaneRegs [(Off.ICU_EXT_CFG, 0x1902)] op2 with now := 100, vot := { op2.vot with extIn := 0xFFFF } }, 0, 24, false)]) ∧
  (Met (fun ((s, k, rising) : State × Nat × Bool) => s.isl.powered = true ∧ k < 16 ∧ (s.verified = false ∨ s.sys.entering = true) ∧
    edgeWanted (s.stored 0x2500 (k + 1) 0x1900 % 4) rising = true)
    [(dormant, 15, true),
      (entering, 0, true)]) :=
  by
    and_intros <;> (repeat' apply Met.cons) <;>
      first | exact .nil | ((repeat refine ⟨_, rfl, ?_⟩); (try unfold RegsWf); decide +kernel)

/-- `InterruptController`: its clauses from SIGNAL_WITHDRAW to HANDLER_EXIT. -/
theorem witness_InterruptHandling :
  (Met (fun ((s, l, c, fast) : State × Lane × Nat × Bool) => ∃ k : IcuCore, k = s.icuCore l c ∧ RegsWf s ∧ s.laneRuns l = true ∧ c < 6 ∧
    (if fast then k.sigF else k.sigN) ≠ 0 ∧ k.begun fast = false)
    [(pends [448] (coresBy (fun x => { x with sigN := 448 }) (withLaneRegs [(0x1000 + 4 * 448, 0x3F01)] op)), .a, 5, false),
      (coresBy (fun x => { x with sigF := 448, seq := .nEntry }) op, .c, 0, true)]) ∧
  (Met (fun ((s, l, c, fast, mask) : State × Lane × Nat × Bool × Bool) => ∃ k : IcuCore, k = s.icuCore l c ∧ RegsWf s ∧ s.laneRuns l = true ∧ c < 6 ∧
    (mask = false ∨ (if fast then k.sigF else k.sigN) = 0 ∨ k.begun fast = true))
    [(coresBy (fun x => { x with sigN := 448, seq := .nEntry }) op, .c, 0, false, true),
      (pends [448] (coresBy (fun x => { x with maskN := true }) (withLaneRegs [(0x1000 + 4 * 448, 0x3F01)] op)), .b, 5, false, false),
      (op, .b, 2, true, true)]) ∧
  (Met (fun ((s, l, c) : State × Lane × Nat) => ∃ k : IcuCore, k = s.icuCore l c ∧ ∃ p : BitVec 8, p = BitVec.ofNat 8 (fld (s.srcCfg l k.sigN) 16 8) ∧
    RegsWf s ∧ s.laneRuns l = true ∧ c < 6 ∧ k.sigN ≠ 0 ∧ (k.seq = .run ∨ k.seq = .wait) ∧ s.stalled l c = false)
    [(coresBy (fun x => { x with sigN := 448 }) (withLaneRegs [(0x1000 + 4 * 448, 0xFF0101)] op), .b, 0),
      (coresBy (fun x => { x with sigN := 448, seq := .wait }) op, .b, 5)]) ∧
  (Met (fun ((s, l, c) : State × Lane × Nat) => ∃ k : IcuCore, k = s.icuCore l c ∧ ∃ p : BitVec 8, p = BitVec.ofNat 8 (fld (s.srcCfg l k.sigN) 16 8) ∧
    RegsWf s ∧ s.laneRuns l = true ∧ c < 6 ∧ k.sigN ≠ 0 ∧ (k.seq = .run ∨ k.seq = .wait) ∧ s.stalled l c = true)
    [(coresBy (fun x => { x with sigN := 448 }) { op with vot := { op.vot with kept := [⟨40, 2, 0x2000004008, false, 0, true, false, 0, [.a, .b]⟩] } },
      .b, 5)]) ∧
  (Met (fun ((s, l, c) : State × Lane × Nat) => ∃ k : IcuCore, k = s.icuCore l c ∧ ∃ p : BitVec 8, p = BitVec.ofNat 8 (fld (s.srcCfg l k.sigN) 16 8) ∧
    RegsWf s ∧ s.laneRuns l = true ∧ c < 6 ∧ k.sigN ≠ 0 ∧ k.seq = .nEntry)
    [(coresBy (fun x => { x with sigN := 448, seq := .nEntry }) op, .b, 5)]) ∧
  (Met (fun ((s, l, c) : State × Lane × Nat) => ∃ k : IcuCore, k = s.icuCore l c ∧ ∃ p : BitVec 8, p = BitVec.ofNat 8 (fld (s.srcCfg l k.sigN) 16 8) ∧
    RegsWf s ∧ s.laneRuns l = true ∧ c < 6 ∧ k.sigN ≠ 0 ∧ k.seq = .nExit)
    [(coresBy (fun x => { x with sigN := 448, seq := .nExit }) op, .b, 0)]) ∧
  (Met (fun ((s, l, c) : State × Lane × Nat) => ∃ k : IcuCore, k = s.icuCore l c ∧ RegsWf s ∧ s.laneRuns l = true ∧ c < 6 ∧ k.sigF ≠ 0 ∧
    k.seq ≠ .fHandler ∧ (c < 4 ∨ s.stalled l c = false))
    [(coresBy (fun x => { x with sigF := 448, sigN := 7, seq := .nEntry }) op, .b, 5),
      (coresBy (fun x => { x with sigF := 448, seq := .nExit }) op, .a, 0),
      (coresBy (fun x => { x with sigF := 448, seq := .wait }) op, .a, 4)]) ∧
  (Met (fun ((s, l, c) : State × Lane × Nat) => s.laneRuns l = true ∧ c < 6 ∧ 4 ≤ c ∧ s.stalled l c = true)
    [(coresBy (fun x => { x with sigF := 448 }) { op with vot := { op.vot with open_ := [⟨32, 2, [⟨.c, 0, Off.VOT_CFG, false, 0⟩], []⟩] } }, .c,
      4)]) ∧
  (Met (fun ((s, l, core, fast, c) : State × Lane × Nat × Bool × Instr) => ∃ id : Nat,
    id = (if fast then (s.icuCore l core).sigF else (s.icuCore l core).sigN) ∧ RegsWf s ∧ s.laneRuns l = true ∧ core < 6 ∧ (c = .claimNormal l core ∧
      fast = false ∨ c = .claimFast l core ∧ fast = true) ∧ id ≠ 0 ∧ bit (s.srcCfg l id) 0 = true ∧ bit (s.srcCfg l id) 1 = fast)
    [(pends [448] (coresBy (fun x => { x with sigN := 448, seq := .nEntry }) (withLaneRegs [(0x1000 + 4 * 448, 0x3F01)] op)), .b, 0, false,
      .claimNormal .b 0),
      (pends [1, 448] (coresBy (fun x => { x with sigF := 448, seq := .fHandler }) (withLaneRegs [(0x1000 + 4 * 448, 0x3F03)] op)), .b, 5, true,
        .claimFast .b 5)]) ∧
  (Met (fun ((s, l, core, fast, c) : State × Lane × Nat × Bool × Instr) => ∃ id : Nat,
    id = (if fast then (s.icuCore l core).sigF else (s.icuCore l core).sigN) ∧ RegsWf s ∧ s.laneRuns l = true ∧ core < 6 ∧ (c = .claimNormal l core ∧
      fast = false ∨ c = .claimFast l core ∧ fast = true) ∧ (id = 0 ∨ bit (s.srcCfg l id) 0 = false ∨ bit (s.srcCfg l id) 1 ≠ fast))
    [(op, .b, 5, true, .claimFast .b 5),
      (pends [448] (coresBy (fun x => { x with sigN := 448 }) op), .b, 0, false, .claimNormal .b 0)]) ∧
  (Met (fun ((s, l, core, v) : State × Lane × Nat × Word) => RegsWf s ∧ s.laneRuns l = true ∧ core < 6 ∧ fld v 0 9 ≠ 0 ∧ (fld v 0 9,
    core) ∈ (s.icu l).active)
    [({ op with icus := op.icus.map fun _ u => { u with active := [(448, 5), (7, 1)], cores := u.cores.map fun x => { x with actN := 448 } } }, .c, 5,
      448)]) ∧
  (Met (fun ((s, l, core, v) : State × Lane × Nat × Word) => RegsWf s ∧ s.laneRuns l = true ∧ core < 6 ∧ (fld v 0 9 = 0 ∨ (fld v 0 9,
    core) ∉ (s.icu l).active))
    [({ op with icus := op.icus.map fun _ u => { u with active := [(448, 5), (7, 1)] } }, .c, 4, 448),
      (op, .c, 4, 0)]) ∧
  (Met (fun ((s, l, c) : State × Lane × Nat) => ∃ k : IcuCore, k = s.icuCore l c ∧ RegsWf s ∧ s.laneRuns l = true ∧ c < 6 ∧ k.seq = .fHandler ∧
    (Icu.route (s.srcCfg l) { s.icu l with cores := modAt (s.icu l).cores c fun x => { x with seq := k.under.getD .run } }).cores[c]?.any (fun x => x.sigF != 0) = false)
    [(coresBy (fun x => { x with seq := .fHandler, under := some .nHandler, bank := true, held := 7 }) op, .c, 0)]) ∧
  (Met (fun ((s, l, c) : State × Lane × Nat) => ∃ k : IcuCore, k = s.icuCore l c ∧ RegsWf s ∧ s.laneRuns l = true ∧ c < 6 ∧ k.seq = .fHandler ∧
    (Icu.route (s.srcCfg l) { s.icu l with cores := modAt (s.icu l).cores c fun x => { x with seq := k.under.getD .run } }).cores[c]?.any (fun x => x.sigF != 0) = true)
    [(coresBy (fun x => { x with seq := .fHandler, under := some .nHandler, bank := true, sigF := 7 }) op, .c, 5)]) ∧
  (Met (fun ((s, l, c, wait, q) : State × Lane × Nat × Bool × Seq) => ∃ k : IcuCore, k = s.icuCore l c ∧ RegsWf s ∧ s.laneRuns l = true ∧ c < 6 ∧
    (k.seq = .nHandler ∧ q = .nExit ∨ k.seq = .run ∧ q = (if wait then .wait else .run)))
    [(coresBy (fun x => { x with seq := .nHandler }) op, .c, 5, false, .nExit),
      (op, .c, 0, true, .wait)]) ∧
  (Met (fun ((s, l, c) : State × Lane × Nat) => ∃ k : IcuCore, k = s.icuCore l c ∧ RegsWf s ∧ s.laneRuns l = true ∧ c < 6 ∧ k.seq = .nExit ∧
    k.sigN = 0)
    [(coresBy (fun x => { x with seq := .nExit, prioN := 9 }) op, .c, 0)]) ∧
  (Met (fun ((s, l, c) : State × Lane × Nat) => ∃ k : IcuCore, k = s.icuCore l c ∧ RegsWf s ∧ s.laneRuns l = true ∧ c < 6 ∧ k.seq = .nExit ∧
    k.sigN ≠ 0)
    [(coresBy (fun x => { x with seq := .nExit, sigN := 448 }) op, .c, 0)]) :=
  by
    and_intros <;> (repeat' apply Met.cons) <;>
      first | exact .nil | ((repeat refine ⟨_, rfl, ?_⟩); (try unfold RegsWf); decide +kernel)

/-- `LaneMemories`: its clauses from ECC_CORRECTED to ECC_UNCORRECTABLE. -/
theorem witness_MemoryErrors :
  (Met (fun ((s, l, dram, addr) : State × Lane × Bool × Nat) => ∃ key : Nat, key = 2 * (addr / 8) + b2n dram ∧ ∃ lim : Nat,
    lim = fld (s.reg (laneKey l Off.SPM_ECC_CFG)) 0 16 ∧ ∃ cnt : Nat, cnt = (s.mem l).ceCount + 1 ∧ RegsWf s ∧ s.memOn l = true ∧
      s.time.tb2.ns < (s.mem l).ceStart + ceWindow)
    [(memsBy (fun m => { m with ceCount := 63 }) op, .b, true, 0xFFFFFFFF8),
      (memsBy (fun m => { m with ceCount := 100, ceRate := true, scrubOld := [16] }) op, .c, false, 0x40)]) ∧
  (Met (fun ((s, l) : State × Lane) => s.memOn l = true)
    [(op, .b)]) ∧
  (Met (fun ((s, l) : State × Lane) => RegsWf s ∧ s.memOn l = true ∧ s.inVote l = true ∧ s.lanesIn.length = 3)
    [(op, .b)]) ∧
  (Met (fun ((s, l) : State × Lane) => RegsWf s ∧ s.memOn l = true ∧ s.inVote l = true ∧ s.lanesIn.length < 3)
    [(op2, .b)]) ∧
  (Met (fun ((s, l) : State × Lane) => RegsWf s ∧ s.memOn l = true ∧ s.inVote l = false)
    [(op2, .c)]) :=
  by
    and_intros <;> (repeat' apply Met.cons) <;>
      first | exact .nil | ((repeat refine ⟨_, rfl, ?_⟩); (try unfold RegsWf); decide +kernel)

/-- `LaneMemories`: its clauses from ALIAS_SET to LANE_POWER_RESTORE. -/
theorem witness_MemoryAccess :
  (Met (fun ((s, l, core, addr, width, x, mask, c, new) : State × Lane × Nat × Nat × Nat × Nat × DWord × Instr × BitVec 64) => ∃ old : BitVec 64,
    old = BitVec.ofNat 64 (leNat (rdBytes (s.mem l).spad x width)) ∧ ∃ m : BitVec 64, m = BitVec.ofNat 64 (mask.toNat % 2 ^ (8 * width)) ∧ MemsWf s ∧
      s.laneRuns l = true ∧ s.memOn l = true ∧ (c = .aliasSet l core addr width mask ∧ aliasOff 0x1001000000 addr width = some x ∧ new = old ||| m ∨
        c = .aliasClear l core addr width mask ∧ aliasOff 0x1002000000 addr width = some x ∧ new = old &&& ~~~m))
    [(memsBy (fun m => { m with spad := [(0x3EFFF8, 0xF0)] }) op, .b, 0, 0x1001000000 + 0x3EFFF8, 8, 0x3EFFF8, 0xFFFF000000000001,
      .aliasSet .b 0 (0x1001000000 + 0x3EFFF8) 8 0xFFFF000000000001,
        (BitVec.ofNat 64 (leNat (rdBytes ((memsBy (fun m => { m with spad := [(0x3EFFF8, 0xF0)] }) op : State).mem (.b : Lane)).spad (0x3EFFF8 : Nat) (8 : Nat))) : BitVec 64) ||| (BitVec.ofNat 64 ((0xFFFF000000000001 : DWord).toNat % 2 ^ (8 * (8 : Nat))) : BitVec 64)),
      (memsBy (fun m => { m with spad := [(0, 0xF0), (1, 1)] }) op, .c, 5, 0x1002000000, 4, 0, 0xFFFF000000000080,
        .aliasClear .c 5 0x1002000000 4 0xFFFF000000000080,
          (BitVec.ofNat 64 (leNat (rdBytes ((memsBy (fun m => { m with spad := [(0, 0xF0), (1, 1)] }) op : State).mem (.c : Lane)).spad (0 : Nat) (4 : Nat))) : BitVec 64) &&& ~~~(BitVec.ofNat 64 ((0xFFFF000000000080 : DWord).toNat % 2 ^ (8 * (4 : Nat))) : BitVec 64))]) ∧
  (Met (fun ((s, l, core, addr, width, o, mask, v, w, c) : State × Lane × Nat × Nat × Nat × Nat × DWord × Word × Bool × Instr) => RegsWf s ∧
    s.laneRuns l = true ∧ (c = .aliasSet l core addr width mask ∧ s.memOn l = true ∧ aliasOff 0x1001000000 addr width = none ∧
      o = Off.SPM_ALIAS_ERR_CNT ∨ c = .aliasClear l core addr width mask ∧ s.memOn l = true ∧ aliasOff 0x1002000000 addr width = none ∧
        o = Off.SPM_ALIAS_ERR_CNT ∨ c = .secureAccess l core addr ∧ 0x10003F0000 ≤ addr ∧ addr ≤ 0x10003FFFFF ∧ o = Off.SPM_SECURE_DENY_CNT ∨
          c = .mapError l core addr w ∧ mapped addr = false ∧ o = Off.SPM_MAP_ERR_CNT ∨ c = .mramWindowWrite l core addr v ∧ 0x4000000000 ≤ addr ∧
            addr ≤ 0x400FFFFFFF ∧ o = Off.SPM_MRAM_WRITE_REJECTS))
    [(op, .b, 5, 0x1001000001, 4, Off.SPM_ALIAS_ERR_CNT, 1, 0, false, .aliasSet .b 5 0x1001000001 4 1),
      (op, .b, 5, 0x10023F0000, 8, Off.SPM_ALIAS_ERR_CNT, 1, 0, false, .aliasClear .b 5 0x10023F0000 8 1),
      (op, .b, 5, 0x10003F0000, 0, Off.SPM_SECURE_DENY_CNT, 0, 0, false, .secureAccess .b 5 0x10003F0000),
      (op, .a, 0, 0x10003FFFFF, 0, Off.SPM_SECURE_DENY_CNT, 0, 0, false, .secureAccess .a 0 0x10003FFFFF),
      (op, .a, 0, 0x200000000, 0, Off.SPM_MAP_ERR_CNT, 0, 0, true, .mapError .a 0 0x200000000 true),
      (op, .a, 0, 0x400FFFFFFF, 0, Off.SPM_MRAM_WRITE_REJECTS, 0, 5, false, .mramWindowWrite .a 0 0x400FFFFFFF 5)]) ∧
  (Met (fun s : State => s.up = true)
    [memsBy (fun m => { m with spad := [(0x3F0000, 0xF0)], secure := .valid }) op,
      hold,
      verify]) ∧
  (Met (fun ((s, l) : State × Lane) => s.hubOn = true ∧ (s.mem l).powerOff = true)
    [(memsBy (fun m => { m with powerOff := true, offAt := 7 }) op, .b)]) :=
  by
    and_intros <;> (repeat' apply Met.cons) <;>
      first | exact .nil | ((repeat refine ⟨_, rfl, ?_⟩); (try unfold MemsWf); (try unfold RegsWf); (try simp only [everyLane]); decide +kernel)

/-- `CulvertWrites`. -/
theorem witness_CulvertWrites :
  (Met (fun ((s, stream, addr, l, r, lanes, data, c, w) : State × Nat × Nat × Nat × Nat × BitVec 3 × List Byte × Instr × Posted) => RegsWf s ∧
    (c = .bridgeWrite stream lanes addr data false ∨ c = .npWrite stream lanes addr data) ∧ s.up = true ∧ windowOf addr = some (l, r) ∧
      data.length ≤ 4096 ∧ (s.culvert l).posted.length < 2048 ∧ w = ⟨(s.culvert l).nextTag, r, stream, lanes, none, s.npWindow l r, s.now, data,
        none⟩ ∧ ¬ (l = 1 ∧ bit s.brg.cfg 4 = true ∧ s.fenced = true) ∧ (s.culvert l).state = .up)
    [(linksUp id op, 0, 0x3000000000, 0, 0, 7, [1, 2, 3], .bridgeWrite 0 7 0x3000000000 [1, 2, 3] false, ⟨0, 0, 0, 7, none, false, 0, [1, 2, 3],
      none⟩),
      (linksUp (fun c => { c with nextTag := 4095, txSeq := 65535, failedTags := [4095, 7] }) op, 47, 0x33FFFFFFFF, 1, 0x1FFFFFFFF, 5, [9],
        .npWrite 47 5 0x33FFFFFFFF [9], ⟨4095, 0x1FFFFFFFF, 47, 5, none, false, 0, [9], none⟩),
      (linksUp id (withRegs [(Off.BRG_NP_CFG, 0xC1)] op), 0, 0x3000000FFF, 0, 0xFFF, 7, [1], .npWrite 0 7 0x3000000FFF [1], ⟨0, 0xFFF, 0, 7, none,
        true, 0, [1], none⟩)]) ∧
  (Met (fun ((s, stream, addr, l, r, lanes, data, c, w,
    code) : State × Nat × Nat × Nat × Nat × BitVec 3 × List Byte × Instr × Posted × Nat) => RegsWf s ∧
      (c = .bridgeWrite stream lanes addr data false ∨ c = .npWrite stream lanes addr data) ∧ s.up = true ∧ windowOf addr = some (l, r) ∧
        data.length ≤ 4096 ∧ (s.culvert l).posted.length < 2048 ∧ w = ⟨(s.culvert l).nextTag, r, stream, lanes, none, s.npWindow l r, s.now, data,
          none⟩ ∧ (if l = 1 ∧ bit s.brg.cfg 4 = true ∧ s.fenced = true then code = 4 else (s.culvert l).state ≠ .up ∧ code = 6))
    [(brgCfg 0x13 (chkBy (fun c => { c with holder := false }) (linksUp id (withRegs [(Off.CHK_CFG, 0x103)] op))), 3, 0x3200000000, 1, 0, 7, [1],
      .bridgeWrite 3 7 0x3200000000 [1] false, ⟨0, 0, 3, 7, none, false, 0, [1], none⟩, 4),
      (op, 3, 0x31FFFFFFFF, 0, 0x1FFFFFFFF, 7, [1], .npWrite 3 7 0x31FFFFFFFF [1], ⟨0, 0x1FFFFFFFF, 3, 7, none, false, 0, [1], none⟩, 6),
      ({ op with brg := { op.brg with fifo := List.replicate 16 ⟨0, 0⟩ } }, 3, 0x31FFFFFFFF, 0, 0x1FFFFFFFF, 7, [1], .npWrite 3 7 0x31FFFFFFFF [1],
        ⟨0, 0x1FFFFFFFF, 3, 7, none, false, 0, [1], none⟩, 6)]) ∧
  (Met (fun s : State => s.up = true)
    [op]) ∧
  (Met (fun ((s, l, p, w) : State × Nat × Packet × Posted) => RegsWf s ∧ s.packetOk l p = true ∧ p.type = 6 ∧ s.nothingWaits ∧
    p.tag ∉ (s.culvert l).failedTags ∧ (s.culvert l).posted.find? (fun x => x.np && x.tag == p.tag) = some w)
    [(linksUp (fun c => { c with posted := [wr 5 3 true none], rxSeq := 65535 }) op, 1, pkt 6 5 65535 0 0 [], wr 5 3 true none),
      (linksUp (fun c => { c with posted := [wr 5 3 true (some 4)] }) op, 0, pkt 6 5 0 0 0 [], wr 5 3 true (some 4))]) ∧
  (Met (fun ((s, l, p) : State × Nat × Packet) => RegsWf s ∧ s.packetOk l p = true ∧ p.type = 6 ∧ s.nothingWaits ∧ p.tag ∉ (s.culvert l).failedTags ∧
    (s.culvert l).posted.find? (fun x => x.np && x.tag == p.tag) = none)
    [(linksUp (fun c => { c with posted := [wr 5 3 false none, wr 6 3 false none] }) op, 0, pkt 6 5 0 0 0 []),
      (linksUp (fun c => { c with posted := [wr 6 3 true none, wr 4095 3 false none] }) op, 0, pkt 6 5 0 0 0 [])]) ∧
  (Met (fun ((s, l, p) : State × Nat × Packet) => RegsWf s ∧ s.packetOk l p = true ∧ p.type = 6 ∧ s.nothingWaits ∧ p.tag ∈ (s.culvert l).failedTags)
    [(linksUp (fun c => { c with posted := [wr 6 3 true none], failedTags := [5] }) op, 0, pkt 6 5 0 0 0 [])]) ∧
  (Met (fun ((s, l, p, w) : State × Nat × Packet × Posted) => RegsWf s ∧ s.packetOk l p = true ∧ p.type = 7 ∧ s.nothingWaits ∧
    p.tag ∉ (s.culvert l).failedTags ∧ (s.culvert l).posted.find? (fun x => x.tag == p.tag) = some w)
    [(linksUp (fun c => { c with posted := [wr 5 3 true none] }) op, 1,
      { pkt 7 5 0 0 0 [] with code := 2, crc := packetCrc { pkt 7 5 0 0 0 [] with code := 2 } }, wr 5 3 true none),
      (dmaBy 4 (fun x => { x with state := .running }) (linksUp (fun c => { c with posted := [wr 5 0 false (some 4)] }) op), 1, pkt 7 5 0 0 0 [],
        wr 5 0 false (some 4))]) ∧
  (Met (fun ((s, l, p) : State × Nat × Packet) => RegsWf s ∧ s.packetOk l p = true ∧ p.type = 7 ∧ s.nothingWaits ∧ p.tag ∈ (s.culvert l).failedTags)
    [(linksUp (fun c => { c with failedTags := [7, 4095] }) op, 0, pkt 7 4095 0 0 0 [])]) ∧
  (Met (fun ((s, l, tag, w) : State × Nat × Nat × Posted) => RegsWf s ∧ s.up = true ∧ s.nothingWaits ∧ l < 2 ∧
    (s.culvert l).posted.find? (fun x => x.tag == tag) = some w)
    [(linksUp (fun c => { c with posted := [wr 5 63 false none] }) op, 1, 5, wr 5 63 false none)]) ∧
  (Met (fun ((s, l, tag) : State × Nat × Nat) => RegsWf s ∧ s.up = true ∧ s.nothingWaits ∧ (s.culvert l).posted.find? (fun x => x.tag == tag) = none)
    [(op, 0, 0)]) :=
  by
    and_intros <;> (repeat' apply Met.cons) <;>
      first | exact .nil | ((try unfold RegsWf); (try unfold State.nothingWaits); decide +kernel)

/-- `CulvertLinks`. -/
theorem witness_CulvertLinks :
  (Met (fun ((s, l, p) : State × Nat × Packet) => s.up = true ∧ l < 2 ∧ p.type = 10 ∧ p.crc = packetCrc p)
    [(linksUp (fun c => { c with unacked := [⟨pkt 1 0 65535 0 0 [], 0, 0⟩, ⟨pkt 1 0 0 0 0 [], 0, 0⟩, ⟨pkt 1 0 1 0 0 [], 2, 0⟩] }) op, 1,
      pkt 10 0 0 0 0 [])]) ∧
  (Met (fun ((s, l, seq, u) : State × Nat × Nat × Unacked) => RegsWf s ∧ s.up = true ∧ l < 2 ∧ s.nothingWaits ∧
    (s.culvert l).unacked.find? (fun x => x.packet.seq == seq) = some u ∧ u.tries < 3)
    [(linksUp (fun c => { c with unacked := [⟨pkt 1 0 65535 0 0 [], 2, 0⟩] }) op, 0, 65535, ⟨pkt 1 0 65535 0 0 [], 2, 0⟩)]) ∧
  (Met (fun ((s, l, seq, u) : State × Nat × Nat × Unacked) => RegsWf s ∧ s.up = true ∧ l < 2 ∧ s.nothingWaits ∧
    (s.culvert l).unacked.find? (fun x => x.packet.seq == seq) = some u ∧ 3 ≤ u.tries ∧ (s.culvert l).state ≠ .down)
    [(linksUp (fun c => { c with unacked := [⟨pkt 1 0 65535 0 0 [], 3, 0⟩], posted := [wr 5 63 true none, wr 6 63 false (some 3)], reads := [rd 7 1 false] }) op,
      1, 65535, ⟨pkt 1 0 65535 0 0 [], 3, 0⟩)]) ∧
  (Met (fun ((s, l, n, full, v) : State × Nat × Nat × Bool × LinkState) => RegsWf s ∧ s.up = true ∧ l < 2 ∧ n < 4 ∧ s.nothingWaits ∧
    v = (if bit s.brg.cfg l = false then .off else if n = 3 ∧ full = false then .down else linkCode n) ∧ (s.culvert l).state = v)
    [(brgCfg 1 op, 1, 3, false, .off)]) ∧
  (Met (fun ((s, l, n, full, v) : State × Nat × Nat × Bool × LinkState) => RegsWf s ∧ s.up = true ∧ l < 2 ∧ n < 4 ∧ s.nothingWaits ∧
    v = (if bit s.brg.cfg l = false then .off else if n = 3 ∧ full = false then .down else linkCode n) ∧ (s.culvert l).state ≠ v ∧ (v = .down ∨
      v = .off))
    [(brgCfg 3 (linksUp (fun c => { c with posted := [wr 5 63 true none] }) op), 0, 1, false, .down),
      (brgCfg 3 (linksUp id op), 0, 3, false, .down),
      (brgCfg 1 (linksUp id op), 1, 1, false, .off)]) ∧
  (Met (fun ((s, l, n, full, v) : State × Nat × Nat × Bool × LinkState) => RegsWf s ∧ s.up = true ∧ l < 2 ∧ n < 4 ∧ s.nothingWaits ∧
    v = (if bit s.brg.cfg l = false then .off else if n = 3 ∧ full = false then .down else linkCode n) ∧ (s.culvert l).state ≠ v ∧ (v = .training ∨
      v = .up))
    [(brgCfg 3 (linksUp id op), 1, 2, false, .training),
      (brgCfg 3 op, 1, 3, true, .up)]) ∧
  (Met (fun s : State => RegsWf s ∧ s.up = true ∧ bit s.brg.cfg 0 = true ∧ s.chk.presentN = true ∧ s.brg.link0.state ≠ .stream ∧ s.nothingWaits)
    [chkBy (fun c => { c with presentN := true }) (brgCfg 1 (linksUp (fun c => { c with posted := [wr 5 63 true none] }) op))]) ∧
  (Met (fun ((s, stream, n, v) : State × Nat × Nat × Word) => s.up = true ∧ n = (look s.brg.failed stream).getD 0 ∧ v = mkWord [(0, b2n (n != 0)), (8,
    min 255 n)] ∧ (∀ w ∈ s.brg.link0.posted ++ s.brg.link1.posted, w.stream ≠ stream ∨ w.dma ≠ none))
    [({ op with brg := { op.brg with failed := [(17, 300)] } }, 17, 300, mkWord [(0, 1), (8, 255)]),
      (op, 17, 0, 0)]) ∧
  (Met (fun ((s, stream, n, v) : State × Nat × Nat × Word) => s.up = true ∧ n = (look s.brg.failed stream).getD 0 ∧ v = mkWord [(0, b2n (n != 0)), (8,
    min 255 n)] ∧ (∃ w ∈ s.brg.link0.posted ++ s.brg.link1.posted, w.stream = stream ∧ w.dma = none))
    [(linksUp (fun c => { c with posted := [wr 5 17 false none] }) op, 17, 0, 0)]) ∧
  (Met (fun s : State => s.up = true ∧ s.brg.fifo = [])
    [op]) ∧
  (Met (fun ((s, e, rest) : State × Fail × List Fail) => s.up = true ∧ s.brg.fifo = e :: rest)
    [({ op with brg := { op.brg with fifo := [⟨0x77, 0x1FFFFFFFF⟩, ⟨0x78, 1⟩] } }, ⟨0x77, 0x1FFFFFFFF⟩, [⟨0x78, 1⟩])]) :=
  by
    and_intros <;> (repeat' apply Met.cons) <;>
      first | exact .nil | ((try unfold RegsWf); (try unfold State.nothingWaits); decide +kernel)

/-- `CulvertRequests`: its clauses from BRIDGE_READ to UNSUPPORTED. -/
theorem witness_CulvertReads :
  (Met (fun ((s, addr, l, r) : State × Nat × Nat × Nat) => s.up = true ∧ windowOf addr = some (l, r) ∧ (s.culvert l).state = .up)
    [(linksUp (fun c => { c with nextTag := 4095 }) op, 0x33FFFFFFFF, 1, 0x1FFFFFFFF)]) ∧
  (Met (fun ((s, addr, l, r) : State × Nat × Nat × Nat) => s.up = true ∧ windowOf addr = some (l, r) ∧ (s.culvert l).state ≠ .up)
    [(op, 0x3000000000, 0, 0)]) ∧
  (Met (fun ((s, l, p, r, lim) : State × Nat × Packet × Reading × Nat) => RegsWf s ∧ s.packetOk l p = true ∧
    (s.culvert l).reads.find? (fun x => x.tag == p.tag) = some r ∧ r.dma = none ∧ lim = max 1 (fld (s.reg Off.BRG_CFG) 0 8) ∧ p.type = 5 ∧
      r.retries + 1 < lim)
    [(linksUp (fun c => { c with reads := [rd 7 98 false] }) op, 1, pkt 5 7 0 0 0 [], rd 7 98 false, 100)]) ∧
  (Met (fun ((s, l, p, r, lim) : State × Nat × Packet × Reading × Nat) => RegsWf s ∧ s.packetOk l p = true ∧
    (s.culvert l).reads.find? (fun x => x.tag == p.tag) = some r ∧ r.dma = none ∧ lim = max 1 (fld (s.reg Off.BRG_CFG) 0 8) ∧ p.type = 5 ∧
      lim ≤ r.retries + 1)
    [(linksUp (fun c => { c with reads := [rd 7 99 false] }) op, 1, pkt 5 7 0 0 0 [], rd 7 99 false, 100)]) ∧
  (Met (fun ((s, l, p, r, lim) : State × Nat × Packet × Reading × Nat) => RegsWf s ∧ s.packetOk l p = true ∧
    (s.culvert l).reads.find? (fun x => x.tag == p.tag) = some r ∧ r.dma = none ∧ lim = max 1 (fld (s.reg Off.BRG_CFG) 0 8) ∧ p.type = 9)
    [(linksUp (fun c => { c with reads := [rd 7 99 true] }) op, 0, pkt 9 7 0 0 0 [], rd 7 99 true, 100)]) ∧
  (Met (fun ((s, l, p, r) : State × Nat × Packet × Reading) => s.packetOk l p = true ∧ p.type = 4 ∧
    (s.culvert l).reads.find? (fun x => x.tag == p.tag && x.len == p.payload.length) = some r ∧ r.dma = none)
    [(linksUp (fun c => { c with reads := [rd 7 99 true] }) op, 1, pkt 4 7 0 2 0 [8, 9], rd 7 99 true)]) ∧
  (Met (fun ((s, l, p) : State × Nat × Packet) => s.packetOk l p = true ∧ p.type = 4)
    [(linksUp (fun c => { c with reads := [rd 7 99 true] }) op, 1, pkt 4 7 0 2 0 [8, 9])]) ∧
  (Met (fun ((s, l, p) : State × Nat × Packet) => RegsWf s ∧ s.packetOk l p = true ∧ (s.culvert l).reads.find? (fun x => x.tag == p.tag) = none ∧
    p.type = 5)
    [(linksUp (fun c => { c with posted := [wr 7 1 true none, wr 8 1 true none] }) op, 1, pkt 5 7 0 0 0 [])]) ∧
  (Met (fun ((s, l, p, w) : State × Nat × Packet × Posted) => RegsWf s ∧ s.packetOk l p = true ∧
    (s.culvert l).reads.find? (fun x => x.tag == p.tag) = none ∧ p.type = 9 ∧ p.tag ∉ (s.culvert l).failedTags ∧
      (s.culvert l).posted.find? (fun x => x.tag == p.tag) = some w)
    [(linksUp (fun c => { c with posted := [wr 7 1 true none, wr 8 1 true none] }) op, 0, pkt 9 7 0 0 0 [], wr 7 1 true none)]) ∧
  (Met (fun ((s, l, tag, gap, r) : State × Nat × Nat × Nat × Reading) => RegsWf s ∧ s.up = true ∧ (s.culvert l).state = .up ∧
    (s.culvert l).reads.find? (fun x => x.tag == tag) = some r ∧ gap = 1000 * max 1 (fld (s.reg Off.BRG_CFG) 8 4) ∧ r.answered = true)
    [(linksUp (fun c => { c with reads := [rd 7 9 true] }) op, 0, 7, 1000 * max 1 (fld (State.reset.reg Off.BRG_CFG) 8 4), rd 7 9 true)]) ∧
  (Met (fun ((s, l, tag, gap, r) : State × Nat × Nat × Nat × Reading) => RegsWf s ∧ s.up = true ∧ (s.culvert l).state = .up ∧
    (s.culvert l).reads.find? (fun x => x.tag == tag) = some r ∧ gap = 1000 * max 1 (fld (s.reg Off.BRG_CFG) 8 4) ∧ r.answered = false ∧ r.dma = none)
    [(linksUp (fun c => { c with reads := [rd 7 9 false] }) op, 1, 7, 1000 * max 1 (fld (State.reset.reg Off.BRG_CFG) 8 4), rd 7 9 false)]) ∧
  (Met (fun ((s, l, tag, at_, w) : State × Nat × Nat × Nat × Posted) => s.up = true ∧ (s.culvert l).state = .up ∧
    (s.culvert l).reads.find? (fun x => x.tag == tag) = none ∧ (s.culvert l).posted.find? (fun x => x.tag == tag && x.retryAt.isSome) = some w ∧
      w.retryAt = some at_)
    [(linksUp (fun c => { c with posted := [wr 8 1 true none, { wr 7 1 true none with retryAt := some 5 }] }) op, 1, 7, 5,
      { wr 7 1 true none with retryAt := some 5 })]) :=
  by
    and_intros <;> (repeat' apply Met.cons) <;>
      first | exact .nil | ((try unfold RegsWf); decide +kernel)

/-- `CulvertRequests`: its clauses from INBOUND_RD_REQ to INBOUND_WRITE. -/
theorem witness_InboundRequests :
  (Met (fun ((s, l, p) : State × Nat × Packet) => RegsWf s ∧ s.packetOk l p = true ∧ p.type = 3 ∧ 32768 < p.addr + p.length)
    [(linksUp id op, 0, pkt 3 7 0 8 32761 [])]) ∧
  (Met (fun ((s, l, p, f, d) : State × Nat × Packet × Fetch × List Byte) => RegsWf s ∧ s.packetOk l p = true ∧ p.type = 3 ∧
    p.addr + p.length ≤ 32768 ∧ (s.culvert l).fetches.find? (fun x => x.addr == p.addr && x.len == p.length) = some f ∧ f.data = some d)
    [(linksUp (fun c => { c with fetches := [⟨32760, 8, some (List.replicate 8 5), 0⟩] }) op, 1, pkt 3 7 0 8 32760 [], ⟨32760, 8,
      some (List.replicate 8 5), 0⟩, List.replicate 8 5)]) ∧
  (Met (fun ((s, l, p) : State × Nat × Packet) => RegsWf s ∧ s.packetOk l p = true ∧ p.type = 3 ∧ p.addr + p.length ≤ 32768 ∧
    (s.culvert l).fetches.find? (fun x => x.addr == p.addr && x.len == p.length) = none)
    [(linksUp (fun c => { c with fetches := [⟨32760, 7, none, 0⟩] }) op, 1, pkt 3 7 0 8 32760 []),
      (linksUp (fun c => { c with fetches := List.replicate 8 ⟨0, 7, none, 0⟩ }) op, 1, pkt 3 7 0 8 32760 [])]) ∧
  (Met (fun ((s, l) : State × Nat) => RegsWf s ∧ s.up = true ∧ l < 2)
    [(linksUp (fun c => { c with fetches := [⟨4, 4, none, 0⟩] }) (withRegs [(Off.BRG_XAREA + 4, 0x01020304)] op), 1)]) ∧
  (Met (fun ((s, l, addr, len, f) : State × Nat × Nat × Nat × Fetch) => RegsWf s ∧ s.up = true ∧ l < 2 ∧
    (s.culvert l).fetches.find? (fun x => x.addr == addr && x.len == len && x.data.isSome) = some f)
    [(linksUp (fun c => { c with fetches := [⟨4, 4, some [1, 2, 3, 4], 7⟩] }) op, 1, 4, 4, ⟨4, 4, some [1, 2, 3, 4], 7⟩)]) ∧
  (Met (fun ((s, l, p) : State × Nat × Packet) => RegsWf s ∧ s.packetOk l p = true ∧ (p.type = 1 ∨ p.type = 2) ∧ p.addr + p.length ≤ 32768 ∧
    (s.culvert l).inbound < 32)
    [(linksUp (fun c => { c with inbound := 31, fetches := [⟨32760, 8, none, 0⟩, ⟨32756, 4, none, 0⟩] }) (withRegs [(Off.BRG_XAREA + 32764,
      0x01020304)] op), 1, pkt 1 7 0 3 32765 [1, 2, 3]),
      (linksUp id op, 0, pkt 2 7 0 5 2 [1, 2, 3, 0, 5])]) ∧
  (Met (fun ((s, l, p) : State × Nat × Packet) => RegsWf s ∧ s.packetOk l p = true ∧ (p.type = 1 ∨ p.type = 2) ∧ p.addr + p.length ≤ 32768 ∧
    32 ≤ (s.culvert l).inbound)
    [(linksUp (fun c => { c with inbound := 32 }) op, 1, pkt 1 7 0 3 32765 [1, 2, 3])]) ∧
  (Met (fun ((s, l, p) : State × Nat × Packet) => RegsWf s ∧ s.packetOk l p = true ∧ (p.type = 1 ∨ p.type = 2) ∧ 32768 < p.addr + p.length)
    [(linksUp id op, 1, pkt 2 7 0 3 32766 [1, 2, 3])]) ∧
  (Met (fun ((s, p) : State × Packet) => s.packetOk 1 p = true ∧ p.type = 8)
    [(linksUp id op, pkt 8 7 0 3 0 [1, 2, 3])]) :=
  by
    and_intros <;> (repeat' apply Met.cons) <;>
      first | exact .nil | ((try unfold RegsWf); decide +kernel)

/-- `DmaChannels`. -/
theorem witness_DmaChannels :
  (Met (fun ((s, c, a, bs, k) : State × Nat × Nat × List Byte × Nat) => RegsWf s ∧ s.up = true ∧ 3 ≤ c ∧ c < 16 ∧ s.dmas.length = 16 ∧
    (s.dma c).state ≠ .running ∧ a = (s.reg (Off.DMA_DESC_LO + 64 * c)).toNat + 4294967296 * (s.reg (Off.DMA_DESC_HI + 64 * c)).toNat ∧ a % 8 = 0 ∧
      s.voteWords a 4 = some (bs, []) ∧ descOk c bs = true ∧ k = descField bs 0 1 % 8)
    [(memsBy (fun m => m.wr 0x1000 (desc 0x8000 8 0 16 0)) (withRegs [(Off.DMA_DESC_LO + 64 * 3, 0x1000)] op), 3, 0x1000, desc 0x8000 8 0 16 0, 0),
      (linksUp (fun c => { c with nextTag := 4095 }) (memsBy (fun m => m.wr 0x1000 (desc 0x8072 5000 16 0 0)) (withRegs [(Off.DMA_DESC_LO + 64 * 3,
        0x1000)] op)), 3, 0x1000, desc 0x8072 5000 16 0 0, 2),
      (memsBy (fun m => m.wr 0x1000 (desc 0x8071 8 16 0 0)) (withRegs [(Off.DMA_DESC_LO + 64 * 3, 0x1000)] op), 3, 0x1000, desc 0x8071 8 16 0 0,
        1)]) ∧
  (Met (fun ((s, c, a, e) : State × Nat × Nat × Nat) => RegsWf s ∧ s.up = true ∧ 3 ≤ c ∧ c < 16 ∧ s.dmas.length = 16 ∧ (s.dma c).state ≠ .running ∧
    a = (s.reg (Off.DMA_DESC_LO + 64 * c)).toNat + 4294967296 * (s.reg (Off.DMA_DESC_HI + 64 * c)).toNat ∧ ((a % 8 ≠ 0 ∨
      ((s.voteWords a 4).any fun x => x.2.isEmpty && !descOk c x.1) = true) ∧ e = 1 ∨ a % 8 = 0 ∧ s.voteWords a 4 = none ∧ e = 2))
    [(withRegs [(Off.DMA_DESC_LO + 64 * 15, 0x1004)] op, 15, 0x1004, 1),
      (op, 15, 0, 1),
      ({ op with mems := ⟨(Reset.laneMem).wr 0 [1], (Reset.laneMem).wr 0 [2], (Reset.laneMem).wr 0 [3]⟩ }, 15, 0, 2)]) ∧
  (Met (fun ((s, i, c, cause, key) : State × Instr × Nat × Nat × Half) => RegsWf s ∧ s.up = true ∧ c < 16 ∧ s.dmas.length = 16 ∧
    ((i = .dmaCmdStart c key ∨ i = .dmaCmdAbort c key) ∧ (key ≠ 0x444D ∧ cause = 3 ∨ key = 0x444D ∧ c < 3 ∧ cause = 2) ∨ i = .dmaCmdStart c key ∧
      key = 0x444D ∧ 3 ≤ c ∧ (s.dma c).state = .running ∧ cause = 1))
    [(op, .dmaCmdStart 15 0, 15, 3, 0),
      (op, .dmaCmdAbort 2 0x444D, 2, 2, 0x444D),
      (dmaBy 3 (fun x => { x with state := .running }) op, .dmaCmdStart 3 0x444D, 3, 1, 0x444D)]) ∧
  (Met (fun ((s, c) : State × Nat) => s.up = true ∧ 3 ≤ c ∧ c < 16 ∧ s.dmas.length = 16 ∧ (s.dma c).state = .running)
    [(dmaBy 3 (fun x => { x with state := .running }) op, 3)]) ∧
  (Met (fun ((s, c) : State × Nat) => s.up = true ∧ 3 ≤ c ∧ c < 16 ∧ s.dmas.length = 16 ∧ (s.dma c).state ≠ .running)
    [(op, 15)]) ∧
  (Met (fun ((s, c, e, moved, n, src, dst, da, d, bs) : State × Nat × Nat × Nat × Nat × Nat × Nat × Nat × Dma × List Byte) => RegsWf s ∧ MemsWf s ∧
    s.up = true ∧ 3 ≤ c ∧ c < 16 ∧ s.dmas.length = 16 ∧ d = s.dma c ∧ d.state = .running ∧ src = descField d.desc 0 1 % 8 ∧ src ≠ 1 ∧ src ≠ 2 ∧
      dst = descField d.desc 0 1 / 16 % 8 ∧ (e = 0 ∨ e = 5 ∧ deviceKind src = true) ∧ n = min (descField d.desc 4 4 - d.done) (moved / 8 * 8) ∧
        da = descField d.desc 16 8 + d.done ∧ s.dmaRead src (descField d.desc 8 8) d.done n = (bs, []) ∧ bs.length = n ∧ (dst = 0 ∧
          inDram da n = true ∧ (∀ l, (s.vot.lanes.get l).phase ≠ .stopcopy) ∨ dst = 7 ∧ da + n ≤ 32768) ∧ (descField d.desc 0 2).testBit 15 = true ∧
            (descField d.desc 0 2).testBit 9 = false ∧ d.done ≤ descField d.desc 4 4)
    [(dmaBy 15 (fun x => { x with state := .running, crc := 0x1234, desc := desc 0x8570 16 0 32752 0 }) (memsBy (fun m => m.wr 0 (List.replicate 16 7)) op),
      15, 0, 23, 16, 0, 7, 32752,
        (dmaBy 15 (fun x => { x with state := .running, crc := 0x1234, desc := desc 0x8570 16 0 32752 0 }) (memsBy (fun m => m.wr 0 (List.replicate 16 7)) op) : State).dma 15,
          List.replicate 16 7),
      (dmaBy 3 (fun x => { x with state := .running, desc := desc 0x8104 1024 2 0x100 0, done := 8 }) op, 3, 5, 15, 8, 4, 0, 0x108,
        (dmaBy 3 (fun x => { x with state := .running, desc := desc 0x8104 1024 2 0x100 0, done := 8 }) op : State).dma 3, List.replicate 8 0)]) ∧
  (Met (fun ((s, c, n, a, moved, d, bs, nb) : State × Nat × Nat × Nat × Nat × Dma × List Byte × List Byte) => RegsWf s ∧ s.up = true ∧ 3 ≤ c ∧
    c < 16 ∧ s.dmas.length = 16 ∧ d = s.dma c ∧ d.state = .running ∧ descField d.desc 0 1 % 8 ≠ 1 ∧ descField d.desc 0 1 % 8 ≠ 2 ∧
      d.done ≤ descField d.desc 4 4 ∧ n = descField d.desc 4 4 - d.done ∧ n ≤ moved ∧ n % 8 = 0 ∧
        s.dmaRead (descField d.desc 0 1 % 8) (descField d.desc 8 8) d.done n = (bs, []) ∧ bs.length = n ∧ descField d.desc 0 1 / 16 % 8 = 4 ∧
          (descField d.desc 0 2).testBit 15 = false ∧ (descField d.desc 0 2).testBit 9 = false ∧ a = descField d.desc 24 8 ∧ a % 8 = 0 ∧
            s.voteWords a 4 = some (nb, []) ∧ descOk c nb = true ∧ descField nb 0 1 % 8 ≠ 1 ∧ descField nb 0 1 % 8 ≠ 2)
    [(dmaBy 15 (fun x => { x with state := .running, crc := 0x1234, desc := desc 0x0540 512 0 1 64 }) (memsBy (fun m => (m.wr 0 (List.replicate 8 7)).wr 64 (desc 0x8000 8 0 16 0)) op),
      15, 512, 64, 512,
        (dmaBy 15 (fun x => { x with state := .running, crc := 0x1234, desc := desc 0x0540 512 0 1 64 }) (memsBy (fun m => (m.wr 0 (List.replicate 8 7)).wr 64 (desc 0x8000 8 0 16 0)) op) : State).dma 15,
          List.replicate 8 7 ++ List.replicate 56 0 ++ desc 0x8000 8 0 16 0 ++ List.replicate 416 0, desc 0x8000 8 0 16 0)]) ∧
  (Met (fun ((s, c, n, l, da, moved, d, bs, w) : State × Nat × Nat × Nat × Nat × Nat × Dma × List Byte × Posted) => RegsWf s ∧ s.up = true ∧ 3 ≤ c ∧
    c < 16 ∧ s.dmas.length = 16 ∧ d = s.dma c ∧ d.state = .running ∧ descField d.desc 0 1 % 8 = 7 ∧ descField d.desc 0 1 / 16 % 8 = l + 1 ∧ l < 2 ∧
      (s.culvert l).state = .up ∧ s.refuses l = false ∧ n = min (descField d.desc 4 4 - d.done) (moved / 8 * 8) ∧ 0 < n ∧ n ≤ 4096 ∧
        (s.culvert l).posted.length < 2048 ∧ d.done + n < descField d.desc 4 4 ∧ bs = s.xread (descField d.desc 8 8 + d.done) n ∧
          da = descField d.desc 16 8 + d.done ∧ w = ⟨(s.culvert l).nextTag, da, 0, 0, some c, s.npWindow l da, s.now, bs, none⟩)
    [(linksUp id (dmaBy 3 (fun x => { x with state := .running, desc := desc 0x8017 24 32744 16 0 }) op), 3, 8, 0, 16, 9,
      (linksUp id (dmaBy 3 (fun x => { x with state := .running, desc := desc 0x8017 24 32744 16 0 }) op) : State).dma 3, List.replicate 8 0, ⟨0, 16,
        0, 0, some 3, false, 0, List.replicate 8 0, none⟩)]) ∧
  (Met (fun ((s, l, c, da, p, r, d) : State × Nat × Nat × Nat × Packet × Reading × Dma) => RegsWf s ∧ s.packetOk l p = true ∧ p.type = 4 ∧
    (s.culvert l).reads.find? (fun x => x.tag == p.tag && x.len == p.payload.length) = some r ∧ r.dma = some c ∧ c < s.dmas.length ∧ d = s.dma c ∧
      d.state = .running ∧ descField d.desc 0 1 / 16 % 8 = 7 ∧ da = descField d.desc 16 8 + d.done ∧ da + p.payload.length ≤ 32768 ∧
        d.done + p.payload.length = descField d.desc 4 4 ∧ (descField d.desc 0 2).testBit 15 = true ∧ (descField d.desc 0 2).testBit 9 = false)
    [(linksUp (fun c => { c with reads := [{ rd 7 0 false with dma := some 3, len := 8 }] }) (dmaBy 3 (fun x => { x with state := .running, desc := desc 0x8071 16 0 32752 0, done := 8 }) op),
      0, 3, 32760, pkt 4 7 0 8 0 [1, 2, 3, 4, 5, 6, 7, 8], { rd 7 0 false with dma := some 3, len := 8 },
        (linksUp (fun c => { c with reads := [{ rd 7 0 false with dma := some 3, len := 8 }] }) (dmaBy 3 (fun x => { x with state := .running, desc := desc 0x8071 16 0 32752 0, done := 8 }) op) : State).dma 3)]) ∧
  (Met (fun ((s, c, e) : State × Nat × Nat) => s.up = true ∧ c < 16 ∧ (s.dma c).state = .running ∧ (e = 0 ∨ e = 5))
    [(dmaBy 15 (fun x => { x with state := .running }) op, 15, 5)]) :=
  by refine ⟨?_, ?_, ?_, ?_, ?_,
      .cons (by unfold RegsWf MemsWf; simp only [everyLane]; and_intros <;> decide +kernel) (.cons (by unfold RegsWf MemsWf; simp only [everyLane]; and_intros <;> decide +kernel) .nil),
      ?_, ?_, ?_, ?_⟩ <;>
    (repeat' apply Met.cons) <;>
      first | exact .nil | ((try unfold RegsWf); decide +kernel)

/-- `KspSessions`. -/
theorem witness_KspSessions :
  (Met (fun ((s, p, via, m, role) : State × Path × Via × KspMsg × Nat) => Requested false p via m s ∧ m.code = 1 ∧ role = beAt m.payload 0 1 ∧
    s.openGate p m role = 0)
    [(served [sess], x11, .plain, req 1 0 9 0 0 [1, 0, 0, 0], 1),
      (served [sess], x11, .plain, req 1 0 9 0 0 [4, 0, 0, 0], 4)]) ∧
  (Met (fun ((s, p, via, m, role, g) : State × Path × Via × KspMsg × Nat × Nat) => Requested false p via m s ∧ m.code = 1 ∧
    role = beAt m.payload 0 1 ∧ s.openGate p m role = g ∧ g ≠ 0)
    [(served [sess], x11, .plain, req 1 0 9 0 0 [5, 0, 0, 0], 5, 7),
      (served (List.replicate 8 sess), x11, .plain, req 1 0 9 0 0 [1, 0, 0, 0], 1, 0x0E),
      (served [sess], x11, .plain, req 1 5 9 0 0 [1, 0, 0, 0], 1, 9)]) ∧
  (Met (fun ((s, p, via, m, x) : State × Path × Via × KspMsg × Session) => ∃ ok : Bool,
    ok = (match s.roleKey x.role (beAt m.payload 0 1) with | some k => Config.pssVerify k (authBytes x) (m.payload.drop 4) | none => false) ∧
      Requested false p via m s ∧ Executes p m x s ∧ m.code = 2 ∧ x.state = .awaitAuth ∧ m.payload.length = 516)
    [(served [{ sess with state := .awaitAuth }], x11, .plain, req 2 5 9 0 0 (List.replicate 516 0), { sess with state := .awaitAuth }),
      ((fun y => { y with ksp := { y.ksp with lockouts := [⟨x11, [999999999, 2], none⟩] } }) (served [{ sess with state := .awaitAuth }]), x11,
        .plain, req 2 5 9 0 0 (9 :: List.replicate 515 0), { sess with state := .awaitAuth })]) ∧
  (Met (fun ((s, p, via, m, x) : State × Path × Via × KspMsg × Session) => Requested false p via m s ∧ Executes p m x s ∧ m.code = 2 ∧
    x.state = .open_)
    [(served [sess], x11, .plain, req 2 5 9 0 0 (List.replicate 516 0), sess)]) ∧
  (Met (fun ((s, p, via, m, x) : State × Path × Via × KspMsg × Session) => Requested false p via m s ∧ Executes p m x s ∧ m.code = 3)
    [(served [{ sess with state := .awaitAuth }], x11, .plain, req 3 5 9 0 0 [], { sess with state := .awaitAuth })]) ∧
  (Met (fun ((s, p, via, m, x) : State × Path × Via × KspMsg × Session) => Requested false p via m s ∧ Executes p m x s ∧ m.code.toNat ∉ kspCodes)
    [(served [sess], x11, .plain, req 0x99 5 9 0 0 [], sess)]) ∧
  (Met (fun ((s, p, via, m, storeOk, c) : State × Path × Via × KspMsg × Bool × Instr) => Requested false p via m s ∧ m.session ≠ 0 ∧
    (c = .kspAuth p via m ∧ m.code = 2 ∨ c = .kspClose p via m ∧ m.code = 3 ∨ c = .kspRead p via m ∧ m.code = 0x10 ∨ c = .kspWrite p via m storeOk ∧
      m.code = 0x11 ∨ c = .kspReadSeg p via m ∧ m.code = 0x12 ∨ c = .kspWriteSeg p via m storeOk ∧ m.code = 0x13 ∨ c = .kspAbort p via m ∧
        m.code = 0x14 ∨ c = .kspInfo p via m ∧ m.code = 0x20) ∧ s.session p m.session = none)
    [(served [], x11, .plain, req 2 5 9 0 0 [], false, .kspAuth x11 .plain (req 2 5 9 0 0 [])),
      (served [], x11, .plain, req 0x14 5 9 0 0 [], false, .kspAbort x11 .plain (req 0x14 5 9 0 0 [])),
      (served [], x11, .plain, req 0x10 5 9 0 0 [], false, .kspRead x11 .plain (req 0x10 5 9 0 0 []))]) ∧
  (Met (fun ((s, p, via, m, storeOk, c, x, r) : State × Path × Via × KspMsg × Bool × Instr × Session × KspMsg) => Requested false p via m s ∧
    m.session ≠ 0 ∧ (c = .kspAuth p via m ∧ m.code = 2 ∨ c = .kspClose p via m ∧ m.code = 3 ∨ c = .kspRead p via m ∧ m.code = 0x10 ∨
      c = .kspWrite p via m storeOk ∧ m.code = 0x11 ∨ c = .kspReadSeg p via m ∧ m.code = 0x12 ∨ c = .kspWriteSeg p via m storeOk ∧ m.code = 0x13 ∨
        c = .kspAbort p via m ∧ m.code = 0x14 ∨ c = .kspInfo p via m ∧ m.code = 0x20) ∧ s.session p m.session = some x ∧ x.kept = some (m.trans, r))
    [(served [{ sess with kept := some (9, req 0x12 5 9 0 0 [1]), lastAt := 3 }], x11, .plain, req 0x12 5 9 0 0 [], false,
      .kspReadSeg x11 .plain (req 0x12 5 9 0 0 []), { sess with kept := some (9, req 0x12 5 9 0 0 [1]), lastAt := 3 }, req 0x12 5 9 0 0 [1]),
      (served [{ sess with kept := some (9, req 0x12 5 9 0 0 [1]), state := .awaitAuth }], x11, .plain, req 0x11 5 9 0 0 [], true,
        .kspWrite x11 .plain (req 0x11 5 9 0 0 []) true, { sess with kept := some (9, req 0x12 5 9 0 0 [1]), state := .awaitAuth },
          req 0x12 5 9 0 0 [1])]) ∧
  (Met (fun ((s, p, via, m, c) : State × Path × Via × KspMsg × Instr) => (c = .kspOpen p via m ∧ m.code = 1 ∨ c = .kspRead p via m ∧ m.code = 0x10 ∨
    c = .kspWrite p via m true ∧ m.code = 0x11 ∨ c = .kspInfo p via m ∧ m.code = 0x20 ∨ c = .kspBadCode p via m ∧ m.code.toNat ∉ kspCodes) ∧
      (s.kspServes p = false ∨ via.passes p = false))
    [(served [sess], ringPath, .plain, req 1 5 9 0 0 [], .kspOpen ringPath .plain (req 1 5 9 0 0 [])),
      (served [sess], x11, { Via.plain with badSum := true }, req 0x20 5 9 0 0 [],
        .kspInfo x11 { Via.plain with badSum := true } (req 0x20 5 9 0 0 []))]) ∧
  (Met (fun ((s, p, via, m, c) : State × Path × Via × KspMsg × Instr) => (c = .kspOpen p via m ∧ m.code = 1 ∨ c = .kspRead p via m ∧ m.code = 0x10 ∨
    c = .kspWrite p via m true ∧ m.code = 0x11 ∨ c = .kspInfo p via m ∧ m.code = 0x20 ∨ c = .kspBadCode p via m ∧ m.code.toNat ∉ kspCodes) ∧
      s.kspServes p = true ∧ via.passes p = true ∧ (∀ x ∈ s.ksp.sessions, x.waiting = none) ∧ kspGood m = false)
    [(served [sess], x11, .plain, { req 1 5 9 0 0 [] with check := kspCheck (req 1 5 9 0 0 []) + 1 },
      .kspOpen x11 .plain { req 1 5 9 0 0 [] with check := kspCheck (req 1 5 9 0 0 []) + 1 }),
      (served [sess], x11, .plain, { req 0x30 5 9 0 0 [] with verFlags := 0x20 },
        .kspBadCode x11 .plain { req 0x30 5 9 0 0 [] with verFlags := 0x20 })]) ∧
  (Met (fun ((s, p, via, m, c) : State × Path × Via × KspMsg × Instr) => (c = .kspOpen p via m ∧ m.code = 1 ∨ c = .kspRead p via m ∧ m.code = 0x10 ∨
    c = .kspWrite p via m true ∧ m.code = 0x11 ∨ c = .kspInfo p via m ∧ m.code = 0x20 ∨ c = .kspBadCode p via m ∧ m.code.toNat ∉ kspCodes) ∧
      s.kspServes p = true ∧ via.passes p = true ∧ (∀ x ∈ s.ksp.sessions, x.waiting = none) ∧ kspGood m = true ∧ kspResponse m = false ∧
        via.bcast = false ∧ s.queue = 16)
    [((fun y => { y with ksp := { y.ksp with queued := 16, queuedAt := y.now } }) (served [sess]), x11, .plain, req 0x10 5 9 0 0 [],
      .kspRead x11 .plain (req 0x10 5 9 0 0 []))]) ∧
  (Met (fun ((s, n, due, x, c) : State × Nat × Nat × Session × Instr) => s.serverOn = true ∧ s.sessionOf n = some x ∧
    (s.ksp.sessions.filter fun y => y.num == x.num) = [x] ∧ (c = .sessionIdleTimeout n ∧ due = x.lastAt + s.kspCfg 0x1200 2 * 1000000000 ∨
      c = .authTimeout n ∧ x.state = .awaitAuth ∧ due = x.openAt + 30000000000))
    [(served [sess], 5, 60000000000, sess, .sessionIdleTimeout 5),
      (served [{ sess with state := .awaitAuth }], 5, 30000000000, { sess with state := .awaitAuth }, .authTimeout 5)]) ∧
  (Met (fun ((s, p, at_) : State × Path × Nat) => (s.lockout p).till = some at_)
    [({ op with ksp := { op.ksp with lockouts := [⟨x11, [], some 5⟩] } }, x11, 5)]) :=
  by refine ⟨?_, ?_,
      .cons (⟨_, rfl, by
          unfold Executes
          refine ⟨⟨by decide +kernel, rfl, rfl, req_good (by decide +kernel), by decide +kernel⟩, ?_⟩
          decide +kernel⟩) (.cons (⟨_, rfl, by
          unfold Executes
          refine ⟨⟨by decide +kernel, rfl, rfl, req_good (by decide +kernel), by decide +kernel⟩, ?_⟩
          decide +kernel⟩) .nil),
      .cons (by
          unfold Executes
          refine ⟨⟨by decide +kernel, rfl, rfl, req_good (by decide +kernel), by decide +kernel⟩, ?_⟩
          decide +kernel) .nil,
      ?_, ?_, ?_, ?_, ?_, ?_, ?_, ?_, ?_⟩ <;>
    (repeat' apply Met.cons) <;>
      first | exact .nil | ((try unfold Executes); (try unfold Requested); decide +kernel)

/-- `ServiceObjects`: its clauses from KSP_READ to BROADCAST_REPLY_DELAY. -/
theorem witness_KspReads :
  (Met (fun ((s, p, via, m) : State × Path × Via × KspMsg) => ∃ r : Nat × List Byte, r = s.readResult none m.index.toNat m.sub.toNat ∧
    Requested false p via m s ∧ m.session = 0 ∧ m.code = 0x10)
    [(served [], x11, .plain, req 0x10 0 9 0x1000 0 []),
      (served [], x11, .plain, req 0x10 0 9 0x2102 0 []),
      (served [], x11, .plain, req 0x10 0 9 0x0001 0 [])]) ∧
  (Met (fun ((s, p, via, m) : State × Path × Via × KspMsg) => ∃ r : Nat × List Byte, r = s.infoResult none m.index.toNat m.sub.toNat ∧
    Requested false p via m s ∧ m.session = 0 ∧ m.code = 0x20)
    [(served [], x11, .plain, req 0x20 0 9 0x1000 0 [])]) ∧
  (Met (fun ((s, p, via, m, x) : State × Path × Via × KspMsg × Session) => ∃ r : Nat × List Byte,
    r = (s.touched p m.session).readResult (some x) m.index.toNat m.sub.toNat ∧ Requested false p via m s ∧ Executes p m x s ∧ m.code = 0x10)
    [(served [sess], x11, .plain, req 0x10 5 9 0x2103 0 [], sess),
      (onRing (served [{ sess with path := ringPath }]), ringPath, .plain, req 0x10 5 9 0x1018 4 [], { sess with path := ringPath })]) ∧
  (Met (fun ((s, p, via, m, x) : State × Path × Via × KspMsg × Session) => ∃ r : Nat × List Byte,
    r = (s.touched p m.session).infoResult (some x) m.index.toNat m.sub.toNat ∧ Requested false p via m s ∧ Executes p m x s ∧ m.code = 0x20)
    [(served [sess], x11, .plain, req 0x20 5 9 0x1200 2 [], sess)]) ∧
  (Met (fun ((s, p, via, m, x, b) : State × Path × Via × KspMsg × Session × (List Byte × Nat)) => Requested false p via m s ∧ Executes p m x s ∧
    m.code = 0x12 ∧ x.snapshot = some b ∧ m.offset.toNat < b.1.length)
    [(served [{ sess with snapshot := some (List.replicate 2800 7, 0) }], x11, .plain, segReq 0x12 5 9 0 0 1400 [],
      { sess with snapshot := some (List.replicate 2800 7, 0) }, (List.replicate 2800 7, 0)),
      (served [{ sess with snapshot := some (List.replicate 2801 7, 0) }], x11, .plain, segReq 0x12 5 9 0 0 1400 [],
        { sess with snapshot := some (List.replicate 2801 7, 0) }, (List.replicate 2801 7, 0))]) ∧
  (Met (fun ((s, p, via, m, x) : State × Path × Via × KspMsg × Session) => Requested false p via m s ∧ Executes p m x s ∧ m.code = 0x12 ∧
    (x.snapshot.all fun b => decide (b.1.length ≤ m.offset.toNat)) = true)
    [(served [{ sess with snapshot := some (List.replicate 1401 7, 0) }], x11, .plain, segReq 0x12 5 9 0 0 1401 [],
      { sess with snapshot := some (List.replicate 1401 7, 0) }),
      (served [sess], x11, .plain, segReq 0x12 5 9 0 0 0 [], sess)]) ∧
  (Met (fun ((s, p, via, m) : State × Path × Via × KspMsg) => Requested true p via m s ∧ wideOk m = true ∧ m.code = 0x10 ∧ p.kind ≠ 1)
    [(served [], x11, { Via.plain with bcast := true }, req 0x10 0 9 0x1018 1 [])]) ∧
  (Met (fun ((s, p, via, m) : State × Path × Via × KspMsg) => Requested true p via m s ∧ wideOk m = true ∧ m.code = 0x10 ∧ p.kind = 1)
    [(onRing (served []), ringPath, { Via.plain with bcast := true }, req 0x10 0 9 0x1000 0 [])]) ∧
  (Met (fun ((s, p, via, m) : State × Path × Via × KspMsg) => Requested true p via m s ∧ wideOk m = false ∧ m.code = 0x10)
    [(served [], x11, { Via.plain with bcast := true }, req 0x10 0 9 0x1200 2 [])]) ∧
  (Met (fun ((s, p, via, m) : State × Path × Via × KspMsg) => Requested true p via m s ∧ m.code = 0x11)
    [(served [], x11, { Via.plain with bcast := true }, req 0x11 0 9 0x1200 2 [0, 60])]) ∧
  (Met (fun ((s, n, txn, x) : State × Half × Half × Session) => ∃ m : KspMsg, m = sessionMsg 0x10 n txn 0xB110 2 [] ∧ ∃ r : Nat × List Byte,
    r = (s.touched x.path n).readResult (some x) 0xB110 2 ∧ s.sessionOf n.toNat = some x ∧ Requested false x.path .plain m s ∧ Executes x.path m x s)
    [(served [sess], 5, 9, sess)]) ∧
  (Met (fun ((s, n, x, b) : State × Nat × Session × (List Byte × Nat)) => s.serverOn = true ∧ s.sessionOf n = some x ∧ x.snapshot = some b)
    [(served [{ sess with snapshot := some (List.replicate 1401 7, 3) }], 5, { sess with snapshot := some (List.replicate 1401 7, 3) },
      (List.replicate 1401 7, 3))]) ∧
  (Met (fun ((s, due, p, r, rest) : State × Nat × Path × KspMsg × (List (Nat × Path × KspMsg))) => s.serverOn = true ∧ s.ksp.broadcast = (due, p,
    r) :: rest)
    [({ op with ksp := { op.ksp with broadcast := [(5, ringPath, req 0x10 0 9 0 0 []), (6, x11, req 0x10 0 9 0 0 [])] } }, 5, ringPath,
      req 0x10 0 9 0 0 [], [(6, x11, req 0x10 0 9 0 0 [])])]) :=
  by
    and_intros <;> (repeat' apply Met.cons) <;>
      first | exact .nil | ((repeat refine ⟨_, rfl, ?_⟩); (try unfold Executes); (try unfold Requested); decide +kernel)

/-- `ServiceObjects`: its clauses from KSP_WRITE to ICMP_ECHO. -/
theorem witness_KspWrites :
  (Met (fun ((s, p, via, m, storeOk, x, d, st) : State × Path × Via × KspMsg × Bool × Session × ObjDesc × Nat) => ∃ i : Nat, i = m.index.toNat ∧
    ∃ j : Nat, j = m.sub.toNat ∧ ∃ v : Nat, v = beNat m.payload ∧ ∃ g : Nat, g = (s.touched p m.session).writeGate x i j (some v) ∧
      Requested false p via m s ∧ Executes p m x s ∧ m.code = 0x11 ∧ (s.touched p m.session).objAt i j = some d ∧ (g ≠ 0 ∧ st = g ∨ g = 0 ∧
        lengthOk d i m.payload = false ∧ st = 6 ∨ g = 0 ∧ lengthOk d i m.payload = true ∧ (s.touched p m.session).valueOk d i j v m.payload = false ∧
          st = 7 ∨ g = 0 ∧ lengthOk d i m.payload = true ∧ (s.touched p m.session).valueOk d i j v m.payload = true ∧ storeOk = false ∧ d.pers = 2 ∧
            st = 0x0F))
    [(commissioned (served [sess]), x11, .plain, req 0x11 5 9 0x1200 2 [0, 60], false, sess, objd 0x1200 2, 0x0F),
      (commissioned (served [sess]), x11, .plain, req 0x11 5 9 0x1200 2 [60], false, sess, objd 0x1200 2, 6),
      (commissioned (served [sess]), x11, .plain, req 0x11 5 9 0x1200 2 [0, 9], false, sess, objd 0x1200 2, 7),
      (served [{ sess with role := 1 }], x11, .plain, req 0x11 5 9 0x1200 2 [0, 60], false, { sess with role := 1 }, objd 0x1200 2, 4)]) ∧
  (Met (fun ((s, p, via, m, storeOk, x, d, g) : State × Path × Via × KspMsg × Bool × Session × ObjDesc × Nat) => ∃ i : Nat, i = m.index.toNat ∧
    ∃ j : Nat, j = m.sub.toNat ∧ ∃ v : Nat, v = beNat m.payload ∧ Requested false p via m s ∧ Executes p m x s ∧ m.code = 0x11 ∧
      (s.touched p m.session).objAt i j = some d ∧ g = (s.touched p m.session).writeGate x i j (some v) ∧ g = 0 ∧ lengthOk d i m.payload = true ∧
        (s.touched p m.session).valueOk d i j v m.payload = true ∧ d.pers = 2 ∧ storeOk = true ∧ i ∉ [0x1011, 0x7003] ∧ s.sys.recovery = false)
    [(commissioned (served [sess]), { x11 with port := 7 }, .plain, req 0x11 5 9 0x1104 0 [0xFF, 0, 0, 7], true, sess, objd 0x1104 0, 0),
      (commissioned (served [sess]), x11, .plain, req 0x11 5 9 0x1200 2 [14, 16], true, sess, objd 0x1200 2, 0)]) ∧
  (Met (fun ((s, p, via, m, x, d, g, i, j,
    v) : State × Path × Via × KspMsg × Session × ObjDesc × Nat × Nat × Nat × Nat) => Requested false p via m s ∧ Executes p m x s ∧ m.code = 0x11 ∧
      i = m.index.toNat ∧ j = m.sub.toNat ∧ v = beNat m.payload ∧ (s.touched p m.session).objAt i j = some d ∧
        g = (s.touched p m.session).writeGate x i j (some v) ∧ i = 0x1011 ∧ j = 0 ∧ g = 0 ∧ lengthOk d i m.payload = true ∧ v = 1 ∧ d.type ≠ 1 ∧
          d.type ≠ 0x10 ∧ s.sys.recovery = false)
    [((fun y => { y with sys := (commissioned y).sys, nv := { y.nv with store := [(0xFFF00, [1]), (0x120002, [0, 10]), (0xF00000, [2])] } }) (served [sess]),
      x11, .plain, req 0x11 5 9 0x1011 0 [1], sess, objd 0x1011 0, 0, 0x1011, 0, 1)]) ∧
  (Met (fun ((s, p, via, m, x, st) : State × Path × Via × KspMsg × Session × Nat) => ∃ data : List Byte,
    data = ((x.seg.map (·.data)).getD []) ++ m.payload ∧ ∃ g : Nat, g = (s.touched p m.session).writeGate x m.index.toNat m.sub.toNat none ∧
      ∃ len : Nat, len = (((s.touched p m.session).objAt m.index.toNat m.sub.toNat).map (·.len)).getD 0 ∧ Requested false p via m s ∧
        Executes p m x s ∧ m.code = 0x13 ∧ (segBad m x = true ∧ st = 0x0B ∨ segBad m x = false ∧ g ≠ 0 ∧ st = g ∨ segBad m x = false ∧ g = 0 ∧
          len < data.length ∧ st = 0x13))
    [(served [sess], x11, .plain, segReq 0x13 5 9 0xB000 1 1 [1], sess, 0x0B),
      (served [{ sess with seg := some ⟨0x8100, 1, [1, 2], 0⟩ }], x11, .plain, segReq 0x13 5 9 0x8100 1 1 [1],
        { sess with seg := some ⟨0x8100, 1, [1, 2], 0⟩ }, 0x0B)]) ∧
  (Met (fun ((s, p, via, m, x) : State × Path × Via × KspMsg × Session) => ∃ data : List Byte, data = ((x.seg.map (·.data)).getD []) ++ m.payload ∧
    ∃ g : Nat, g = (s.touched p m.session).writeGate x m.index.toNat m.sub.toNat none ∧ ∃ len : Nat,
      len = (((s.touched p m.session).objAt m.index.toNat m.sub.toNat).map (·.len)).getD 0 ∧ Requested false p via m s ∧ Executes p m x s ∧
        m.code = 0x13 ∧ segBad m x = false ∧ g = 0 ∧ kspLast m = false ∧ data.length ≤ len)
    [((fun y => { y with sys := hold.sys }) (served [{ sess with seg := some ⟨0x2102, 0, [1, 2], 0⟩ }]), x11, .plain, segReq 0x13 5 9 0x2102 0 2 [1],
      { sess with seg := some ⟨0x2102, 0, [1, 2], 0⟩ })]) ∧
  (Met (fun ((s, p, via, m, x) : State × Path × Via × KspMsg × Session) => Requested false p via m s ∧ Executes p m x s ∧ m.code = 0x14)
    [(served [{ sess with seg := some ⟨0x2102, 0, [1, 2], 0⟩ }], x11, .plain, req 0x14 5 9 0 0 [],
      { sess with seg := some ⟨0x2102, 0, [1, 2], 0⟩ })]) ∧
  (Met (fun ((s, n, txn, x, d, nonce) : State × Half × Half × Session × ObjDesc × List Byte) => ∃ m : KspMsg,
    m = sessionMsg 0x11 n txn 0xB110 1 nonce ∧ s.sessionOf n.toNat = some x ∧ Requested false x.path .plain m s ∧ Executes x.path m x s ∧
      (s.touched x.path n).objAt 0xB110 1 = some d ∧ d.pers = 1 ∧ d.type ≠ 1 ∧ d.type ≠ 0x10 ∧
        (s.touched x.path n).writeGate x 0xB110 1 (some (beNat nonce)) = 0 ∧ lengthOk d 0xB110 nonce = true)
    [(served [sess], 5, 9, sess, objd 0xB110 1, List.replicate 32 9)]) ∧
  (Met (fun ((s, n, x, g) : State × Nat × Session × SegWrite) => s.serverOn = true ∧ s.sessionOf n = some x ∧ x.seg = some g)
    [(served [{ sess with seg := some ⟨0x2102, 0, [1, 2], 7⟩ }], 5, { sess with seg := some ⟨0x2102, 0, [1, 2], 7⟩ }, ⟨0x2102, 0, [1, 2], 7⟩)]) ∧
  (Met (fun ((s, n, x, w) : State × Nat × Session × (KspMsg × Nat)) => s.serverOn = true ∧ s.ksp.sessions = [x] ∧ x.num.toNat = n ∧
    x.waiting = some w ∧ w.1.session = x.num ∧ x.num ≠ 0 ∧ (advanceTo (w.2 + 5000000000) s).pathEnd w.1.index.toNat w.1.sub.toNat = .waits)
    [(withRegs [(Off.SYS_MODE_REQ_STATUS, 1)] (served [{ sess with waiting := some (req 0x11 5 9 0x1101 1 [3], 5) }]), 5,
      { sess with waiting := some (req 0x11 5 9 0x1101 1 [3], 5) }, (req 0x11 5 9 0x1101 1 [3], 5))]) ∧
  (Met (fun ((s, port, target) : State × Nat × Word) => s.portOn port = true ∧ target.toNat = s.portAddr port)
    [(linked op, 0, BitVec.ofNat 32 ((linked op).portAddr 0))]) ∧
  (Met (fun ((s, port, src, target) : State × Nat × Word × Word) => s.portOn port = true ∧ target.toNat = s.portAddr port ∧
    s.reachable port src = true)
    [(linked op, 1, 0x0A520001, BitVec.ofNat 32 ((linked op).portAddr 1))]) ∧
  (Met (fun ((s, port, target) : State × Nat × Word) => (s.portOn port = false ∨ target.toNat ≠ s.portAddr port))
    [(op, 0, 5)]) ∧
  (Met (fun ((s, port, target) : State × Nat × Word) => (s.portOn port = false ∨ target.toNat ≠ s.portAddr port))
    [(op, 2, 5)]) :=
  by
    and_intros <;> (repeat' apply Met.cons) <;>
      first | exact .nil | ((repeat refine ⟨_, rfl, ?_⟩); (try unfold Executes); (try unfold Requested); decide +kernel)

/-- `Records`. -/
theorem witness_Records :
  (Met (fun s : State => RegsWf s ∧ s.up = true)
    [op,
      recBy (fun r => { r with queue := List.replicate 64 (recReq 5) }) op,
      { verify with erec := Reset.recorder, isl := { verify.isl with events := List.replicate 16 (recReq 5) } },
      { verify with erec := Reset.recorder }]) ∧
  (Met (fun ((s, q, r) : State × RecReq × Rec) => ∃ q' : RecReq, q' = { q with lost := s.erec.lost } ∧ RegsWf s ∧ s.recRuns = true ∧
    firstRec s.erec.queue = some q ∧ s.erec.page.getLast? = some r ∧ s.folds q' r = true)
    [(recBy (fun r => { r with queue := [recReq 0x101, recReq 9], page := [aRec 2 9, { aRec 3 0x101 with repeats := 65534 }], tell := true }) op,
      recReq 0x101, { aRec 3 0x101 with repeats := 65534 })]) ∧
  (Met (fun ((s, q, x, used) : State × RecReq × Rec × Nat) => ∃ q' : RecReq, q' = { q with lost := s.erec.lost } ∧ RegsWf s ∧ s.recRuns = true ∧
    firstRec s.erec.queue = some q ∧ (s.erec.page.getLast?.all fun r => !s.folds q' r) = true ∧ used = s.erec.page.foldl (fun a y => a + y.size) 0 ∧
      x = ⟨nextSeq s.nv.nand.newest, q', 0, ((s.erec.page.getLast?.or s.nv.nand.circulating.getLast?).map (s.repeats q')).getD false⟩)
    [(recBy (fun r => { r with queue := [recReq 0x101, recReq 9], page := [aRec 2 9, { aRec 3 0x101 with repeats := 65535 }], tell := true, lost := true }) (nandBy (fun n => { n with newest := 0xFFFFFFFF, circulating := [aRec 1 1] }) op),
      recReq 0x101, ⟨1, { recReq 0x101 with lost := true }, 0, true⟩, 72),
      (recBy (fun r => { r with queue := [recReq 0x101], page := List.replicate 100 (aRec 2 9) }) (nandBy (fun n => { n with newest := 5, keptBase := 2, kept := [aRec 4 1] }) op),
        recReq 0x101, ⟨6, recReq 0x101, 0, false⟩, 3600),
      (recBy (fun r => { r with queue := [{ recReq 0x101 with at_ := 5 }, { recReq 0xC02 with at_ := 3 }, { recReq 0x402 with at_ := 3 }] }) (nandBy (fun n => { n with circulating := [aRec 1 0x402] }) op),
        { recReq 0x402 with at_ := 3 }, ⟨1, { recReq 0x402 with at_ := 3 }, 0, true⟩, 0)]) ∧
  (Met (fun s : State => RegsWf s ∧ s.recRuns = true ∧ s.erec.page ≠ [])
    [recBy (fun r => { r with page := [aRec 2 9, aRec 3 9] }) (nandBy (fun n => { n with newest := 3, keptBase := 3, kept := [aRec 4 1] }) op),
      recBy (fun r => { r with page := [aRec 2 9], pageAt := 5 }) (nandBy (fun n => { n with newest := 3, retired := 7870 }) op),
      recBy (fun r => { r with page := [aRec 2 9], pageAt := 5 }) (nandBy (fun n => { n with newest := 3, retired := 7870 }) op)]) ∧
  (Met (fun s : State => RegsWf s ∧ s.recRuns = true ∧ s.erec.page = [])
    [op]) ∧
  (Met (fun s : State => RegsWf s ∧ s.up = true ∧ s.erec.state = .notReady)
    [{ verify with erec := Reset.recorder, isl := { verify.isl with events := [recReq 5, recReq 5, recReq 6], eventsLost := 7 } },
      nandBy (fun n => { n with clear := some ⟨true, 5⟩ }) { verify with erec := Reset.recorder },
      nandBy (fun n => { n with retired := 7872 }) { verify with erec := Reset.recorder }]) ∧
  (Met (fun ((s, v) : State × Word) => ∃ type : Nat, type = fld v 0 16 ∧ ∃ n : Nat, n = fld (s.reg Off.REC_APP_LEN) 0 7 ∧ RegsWf s ∧
    s.recRuns = true ∧ fld v 16 16 = 0x5243 ∧ 0x8000 ≤ type ∧ type ≤ 0xFEFF ∧ n ≤ 108 ∧ s.erec.queue.length < 64)
    [(withRegs [(Off.REC_APP_DATA, 0x01020304), (Off.REC_APP_LEN, 108)] op, 0x5243FEFF),
      (recBy (fun r => { r with queue := List.replicate 63 (recReq 5) }) op, 0x52438000)]) ∧
  (Met (fun ((s, v, cause) : State × Word × Nat) => ∃ type : Nat, type = fld v 0 16 ∧ ∃ n : Nat, n = fld (s.reg Off.REC_APP_LEN) 0 7 ∧ RegsWf s ∧
    s.recRuns = true ∧ (fld v 16 16 ≠ 0x5243 ∧ cause = 1 ∨ fld v 16 16 = 0x5243 ∧ (type < 0x8000 ∨ 0xFEFF < type) ∧ cause = 2 ∨ fld v 16 16 = 0x5243 ∧
      0x8000 ≤ type ∧ type ≤ 0xFEFF ∧ 108 < n ∧ cause = 3))
    [(op, 0, 1),
      (op, 0x52437FFF, 2),
      (op, 0x5243FF00, 2),
      (withRegs [(Off.REC_APP_LEN, 109)] op, 0x52438000, 3)]) ∧
  (Met (fun ((s, v) : State × Word) => ∃ type : Nat, type = fld v 0 16 ∧ ∃ n : Nat, n = fld (s.reg Off.REC_APP_LEN) 0 7 ∧ RegsWf s ∧
    s.recRuns = true ∧ fld v 16 16 = 0x5243 ∧ 0x8000 ≤ type ∧ type ≤ 0xFEFF ∧ n ≤ 108 ∧ 64 ≤ s.erec.queue.length)
    [(recBy (fun r => { r with queue := List.replicate 64 (recReq 5) }) op, 0x52438000)]) ∧
  (Met (fun ((s, seq, found, kept, r, bs) : State × Word × List Byte × Bool × Rec × List Byte) => RegsWf s ∧ s.recRuns = true ∧
    kept = bit (s.reg Off.REC_READ_SEL) 0 ∧ s.recOf kept seq = some r ∧ bs = (if found = [] then s.recBytes kept r else found))
    [(withRegs [(Off.REC_READ_SEL, 1)] (nandBy (fun n => { n with kept := [aRec 4 9], badCrc := [(false, 4, []), (true, 5, [1])] }) op), 4, [], true,
      aRec 4 9, (aRec 4 9).bytes),
      (recBy (fun r => { r with page := [aRec 4 9] }) (nandBy (fun n => { n with badCrc := [(false, 4, [7]), (true, 4, [7])] }) op), 4,
        List.replicate 36 7,
          bit ((recBy (fun r => { r with page := [aRec 4 9] }) (nandBy (fun n => { n with badCrc := [(false, 4, [7]), (true, 4, [7])] }) op) : State).reg Off.REC_READ_SEL) 0,
            aRec 4 9, List.replicate 36 7)]) ∧
  (Met (fun ((s, seq) : State × Word) => ∃ kept : Bool, kept = bit (s.reg Off.REC_READ_SEL) 0 ∧ RegsWf s ∧ s.recRuns = true ∧ s.recOf kept seq = none)
    [(op, 0)]) :=
  by
    and_intros <;> (repeat' apply Met.cons) <;>
      first | exact .nil | ((repeat refine ⟨_, rfl, ?_⟩); unfold RegsWf; decide +kernel)

/-- `ClearsAndExports`. -/
theorem witness_ClearsAndExports :
  (Met (fun ((s, c, kept, role, path) : State × Instr × Bool × Nat × List Byte) => RegsWf s ∧ s.recRuns = true ∧ (c = .clearCirculating role path ∧
    kept = false ∧ 3 ≤ role ∨ c = .clearKept role path ∧ kept = true ∧ 4 ≤ role) ∧ s.erec.state = .ready ∧ s.erec.queue = [] ∧ s.erec.page = [])
    [(nandBy (fun n => { n with circulating := [aRec 4 9, aRec 5 9], newest := 0xFFFFFFFF }) op, .clearCirculating 3 [1], false, 3, [1]),
      (nandBy (fun n => { n with kept := [aRec 4 9, aRec 5 9], newest := 5, keptBase := 3 }) op, .clearKept 4 [], true, 4, [])]) ∧
  (Met (fun ((s, c, kept, role, path) : State × Instr × Bool × Nat × List Byte) => RegsWf s ∧ s.recRuns = true ∧ (c = .clearCirculating role path ∧
    kept = false ∧ 3 ≤ role ∨ c = .clearKept role path ∧ kept = true ∧ 4 ≤ role) ∧ s.erec.state = .exporting ∧ s.erec.clearWaits = none)
    [(recBy (fun r => { r with state := .exporting }) op, .clearKept 4 [1], true, 4, [1])]) ∧
  (Met (fun role : Nat => role < 3)
    [2]) ∧
  (Met (fun role : Nat => role < 4)
    [3]) ∧
  (Met (fun ((s, c) : State × Clear) => s.recRuns = true ∧ s.erec.state = .clearing ∧ s.nv.nand.clear = some c)
    [(recBy (fun r => { r with state := .clearing }) (nandBy (fun n => { n with clear := some ⟨false, 6⟩, circulating := [aRec 4 9, aRec 6 9, aRec 7 9] }) op),
      ⟨false, 6⟩),
      (recBy (fun r => { r with state := .clearing }) (nandBy (fun n => { n with clear := some ⟨true, 0⟩, kept := [aRec 0xFFFFFFFF 9, aRec 1 9] }) op),
        ⟨true, 0⟩)]) ∧
  (Met (fun ((s, v) : State × Word) => RegsWf s ∧ s.recRuns = true ∧ 1 < s.dmas.length ∧ fld v 16 16 = 0x5245 ∧ s.erec.state = .ready ∧
    s.expSpan ≤ 65536 ∧ fld (s.reg Off.REC_EXP_CFG) 4 3 ∈ [0, 1, 2, 4] ∧
      endpointIn (fld (s.reg Off.REC_EXP_CFG) 4 3) s.expDst (256 * s.expSpan) = true)
    [(withRegs [(Off.REC_EXP_TO, 65535), (Off.REC_EXP_CFG, 0x40)] op, 0x52450001)]) ∧
  (Met (fun ((s, v, c, cause) : State × Word × Instr × Nat) => RegsWf s ∧ s.recRuns = true ∧ 1 < s.dmas.length ∧ ((c = .exportStart v ∨
    c = .exportAbort v) ∧ fld v 16 16 ≠ 0x5245 ∧ cause = 1 ∨ c = .exportStart v ∧ fld v 16 16 = 0x5245 ∧ (s.erec.state ≠ .ready ∧ cause = 4 ∨
      s.erec.state = .ready ∧ 65536 < s.expSpan ∧ cause = 2 ∨ s.erec.state = .ready ∧ s.expSpan ≤ 65536 ∧ (fld (s.reg Off.REC_EXP_CFG) 4 3 ∉ [0, 1, 2,
        4] ∨ endpointIn (fld (s.reg Off.REC_EXP_CFG) 4 3) s.expDst (256 * s.expSpan) = false) ∧ cause = 3)))
    [(op, 1, .exportStart 1, 1),
      (op, 1, .exportAbort 1, 1),
      (recBy (fun r => { r with state := .clearing }) op, 0x52450000, .exportStart 0x52450000, 4),
      (withRegs [(Off.REC_EXP_TO, 65536)] op, 0x52450000, .exportStart 0x52450000, 2),
      (withRegs [(Off.REC_EXP_CFG, 0x30)] op, 0x52450000, .exportStart 0x52450000, 3),
      (withRegs [(Off.REC_EXP_DST_LO, 134217728), (Off.REC_EXP_CFG, 0x40)] op, 0x52450000, .exportStart 0x52450000, 3)]) ∧
  (Met (fun ((s, v) : State × Word) => RegsWf s ∧ s.recRuns = true ∧ 1 < s.dmas.length ∧ fld v 16 16 = 0x5245 ∧ s.erec.state ≠ .exporting)
    [(op, 0x52450000)]) ∧
  (Met (fun ((s, v, result, n, st, cause, kind, d, c, bs) : State × Word × Nat × Nat × Nat × Nat × Nat × DmaState × Instr × List Byte) => RegsWf s ∧
    MemsWf s ∧ s.recRuns = true ∧ s.erec.state = .exporting ∧ 1 < s.dmas.length ∧ (s.dma 1).state = .running ∧ (s.dma 1).done = 0 ∧
      s.erec.clearWaits = none ∧ s.expSpan ≤ 65536 ∧ kind = fld (s.reg Off.REC_EXP_CFG) 4 3 ∧ (kind = 4 ∨ kind = 0 ∧ (∀ l,
        (s.vot.lanes.get l).phase ≠ .stopcopy)) ∧ bs = s.slotBytes 0 n ∧ (c = .exportEnd 0 ∧ n = s.expSpan ∧ st = 2 ∧ cause = 0 ∧ d = .done ∨
          c = .exportEnd (result + 1) ∧ n = min result s.expSpan ∧ st = 4 ∧ cause = 5 ∧ d = .error ∨ c = .exportAbort v ∧ fld v 16 16 = 0x5245 ∧
            n = (Config.freeWord s.free).toNat % (s.expSpan + 1) ∧ st = 5 ∧ cause = 0 ∧ d = .aborted))
    [(exporting (withRegs [(Off.REC_EXP_FROM, 3), (Off.REC_EXP_TO, 4), (Off.REC_EXP_DST_LO, 7), (Off.REC_EXP_CFG,
      0x40)] (nandBy (fun n => { n with circulating := [aRec 4 9], badCrc := [(false, 4, [5])] }) op)), 0, 0, 2, 2, 0, 4, .done, .exportEnd 0,
        (exporting (withRegs [(Off.REC_EXP_FROM, 3), (Off.REC_EXP_TO, 4), (Off.REC_EXP_DST_LO, 7), (Off.REC_EXP_CFG,
          0x40)] (nandBy (fun n => { n with circulating := [aRec 4 9], badCrc := [(false, 4, [5])] }) op)) : State).slotBytes 0 2),
      (exporting (withRegs [(Off.REC_EXP_FROM, 3), (Off.REC_EXP_TO, 4), (Off.REC_EXP_DST_LO, 0xFFFFFFF8), (Off.REC_EXP_DST_HI,
        1)] (nandBy (fun n => { n with circulating := [aRec 3 9] }) op2)), 0, 1, 1, 4, 5, fld ((exporting (withRegs [(Off.REC_EXP_FROM, 3),
          (Off.REC_EXP_TO, 4), (Off.REC_EXP_DST_LO, 0xFFFFFFF8), (Off.REC_EXP_DST_HI,
            1)] (nandBy (fun n => { n with circulating := [aRec 3 9] }) op2)) : State).reg Off.REC_EXP_CFG) 4 3, .error, .exportEnd 2,
              (exporting (withRegs [(Off.REC_EXP_FROM, 3), (Off.REC_EXP_TO, 4), (Off.REC_EXP_DST_LO, 0xFFFFFFF8), (Off.REC_EXP_DST_HI,
                1)] (nandBy (fun n => { n with circulating := [aRec 3 9] }) op2)) : State).slotBytes 0 1),
      (exporting (withRegs [(Off.REC_EXP_CFG, 0x40)] op), 0x52450000, 0, (Config.freeWord (exporting (withRegs [(Off.REC_EXP_CFG,
        0x40)] op) : State).free).toNat % ((exporting (withRegs [(Off.REC_EXP_CFG, 0x40)] op) : State).expSpan + 1), 5, 0, 4, .aborted,
          .exportAbort 0x52450000, (exporting (withRegs [(Off.REC_EXP_CFG,
            0x40)] op) : State).slotBytes 0 ((Config.freeWord (exporting (withRegs [(Off.REC_EXP_CFG,
              0x40)] op) : State).free).toNat % ((exporting (withRegs [(Off.REC_EXP_CFG, 0x40)] op) : State).expSpan + 1)))]) ∧
  (Met (fun ((s, l, d) : State × Nat × Nat) => ∃ bs : List Byte, bs = (s.slotBytes d s.expSpan).take (4096 * s.room l) ∧ RegsWf s ∧ s.recRuns = true ∧
    s.erec.state = .exporting ∧ 1 < s.dmas.length ∧ (s.dma 1).state = .running ∧ d = (s.dma 1).done ∧ fld (s.reg Off.REC_EXP_CFG) 4 3 = l + 1 ∧
      l < 2 ∧ (s.culvert l).state = .up ∧ s.refuses l = false ∧ s.expSpan ≤ 65536 ∧ d + bs.length < 256 * s.expSpan)
    [(exporting (linksUp (fun c => { c with posted := List.replicate 2047 (wr 5 0 false none) }) (withRegs [(Off.REC_EXP_FROM, 3), (Off.REC_EXP_TO,
      40), (Off.REC_EXP_DST_LO, 8), (Off.REC_EXP_CFG, 0x20)] op)), 1, 0)]) ∧
  (Met (fun ((s, kept, r, p) : State × Bool × Item × Item) => s.recRuns = true ∧ s.erec.state = .exporting ∧ s.erec.clearWaits = some (kept, [r, p]) ∧
    (s.dma 1).state = .running ∧ (s.dma 1).done = 256 * s.expSpan ∧ 1 < s.dmas.length ∧ fld (s.reg Off.REC_EXP_CFG) 4 3 = 4)
    [(dmaBy 1 (fun x => { x with done := 256 }) (exporting (withRegs [(Off.REC_EXP_CFG,
      0x40)] (recBy (fun r => { r with clearWaits := some (false, [iU8 2 3, iOct 3 [1]]) }) op))), false, iU8 2 3, iOct 3 [1])]) ∧
  (Met (fun ((s, l, p, w) : State × Nat × Packet × Posted) => RegsWf s ∧ s.packetOk l p = true ∧ p.type = 7 ∧ s.vot.open_ = [] ∧
    s.erec.state = .exporting ∧ s.erec.clearWaits = none ∧ 1 < s.dmas.length ∧ (s.dma 1).state = .running ∧ p.tag ∉ (s.culvert l).failedTags ∧
      (s.culvert l).posted.find? (fun x => x.tag == p.tag) = some w ∧ w.dma = some 1)
    [(exporting (linksUp (fun c => { c with posted := [wr 5 0 false (some 1)] }) op), 1, pkt 7 5 0 0 0 [], wr 5 0 false (some 1))]) :=
  by refine ⟨?_, ?_, ?_, ?_, ?_, ?_, ?_, ?_,
      .cons (by
          unfold RegsWf
          refine ⟨by decide +kernel, (by unfold MemsWf; simp only [everyLane]; decide +kernel), ?_⟩
          iterate 8 refine ⟨by decide +kernel, ?_⟩
          refine ⟨(by simp only [everyLane]; decide +kernel), rfl, ?_⟩
          exact .inl (by decide +kernel)) (.cons (by
          unfold RegsWf
          refine ⟨by decide +kernel, (by unfold MemsWf; simp only [everyLane]; decide +kernel), ?_⟩
          iterate 8 refine ⟨by decide +kernel, ?_⟩
          refine ⟨(by simp only [everyLane]; decide +kernel), rfl, ?_⟩
          exact .inr (.inl (by decide +kernel))) (.cons (by
          unfold RegsWf
          refine ⟨by decide +kernel, (by unfold MemsWf; simp only [everyLane]; decide +kernel), ?_⟩
          iterate 8 refine ⟨by decide +kernel, ?_⟩
          refine ⟨(by simp only [everyLane]; decide +kernel), rfl, ?_⟩
          exact .inr (.inr ⟨rfl, by decide +kernel, rfl, rfl, rfl, rfl⟩)) .nil)),
      .cons (⟨_, rfl, by
          unfold RegsWf
          iterate 11 refine ⟨by decide +kernel, ?_⟩
          exact Nat.lt_of_le_of_lt (Nat.add_le_add_left (List.length_take_le _ _) _) (by decide +kernel)⟩) .nil,
      ?_, ?_⟩ <;>
    (repeat' apply Met.cons) <;>
      first | exact .nil | ((try unfold RegsWf); decide +kernel)

/-- `FirmwareUpdate`. -/
theorem witness_FirmwareUpdate :
  (Met (fun ((s, v, x) : State × Word × Nat) => s.up = true ∧ fld v 0 4 = 1 ∧ fld v 16 16 = 0x5550 ∧ fld v 4 4 = x + 1 ∧ x < 4 ∧ s.stagingOn = false ∧
    s.updMode = true)
    [(op, 0x55500041, 3),
      (hold, 0x55500011, 0)]) ∧
  (Met (fun ((s, c, v, cause) : State × Instr × Word × Nat) => ∃ op : Nat, op = fld v 0 4 ∧ ∃ x : Nat, x = fld v 4 4 ∧ ∃ m : Nat, m = fld v 8 4 ∧
    s.up = true ∧ (c = .updateBegin v ∧ op = 1 ∨ c = .updateVerify v ∧ op = 2 ∨ c = .updateActivate v ∧ op = 3 ∨ c = .updateAbort v ∧ op = 4) ∧
      (fld v 16 16 ≠ 0x5550 ∧ cause = 1 ∨ fld v 16 16 = 0x5550 ∧ (op ≠ 3 ∧ (x = 0 ∨ 4 < x) ∧ cause = 2 ∨ op = 3 ∧ m = 0 ∧ cause = 2 ∨ op ≠ 3 ∧ 1 ≤ x ∧
        x ≤ 4 ∧ (op = 1 ∧ s.stagingOn = true ∧ cause = 3 ∨ op = 1 ∧ s.stagingOn = false ∧ s.updMode = false ∧ cause = 6 ∨ op = 2 ∧
          (s.target (x - 1)).state ≠ .received ∧ cause = 4 ∨ op = 4 ∧ (s.target (x - 1)).state ∉ [SlotState.erasing, .receiving, .received] ∧
            cause = 4) ∨ op = 3 ∧ m ≠ 0 ∧ (∃ y, y < 4 ∧ m.testBit y = true ∧ (s.target y).state ≠ .verified) ∧ cause = 4 ∨ op = 3 ∧ m ≠ 0 ∧ (∀ y,
              y < 4 → m.testBit y = true → (s.target y).state = .verified) ∧ (s.stagingOn = true ∧ cause = 3 ∨ s.stagingOn = false ∧
                s.rejoining = true ∧ cause = 7 ∨ s.stagingOn = false ∧ s.rejoining = false ∧ s.updMode = false ∧ cause = 6))))
    [(oper, .updateBegin 0x11, 0x00000011, 1),
      (oper, .updateVerify 0x55500052, 0x55500052, 2),
      (oper, .updateActivate 0x55500013, 0x55500013, 2),
      (staged 3 ⟨.receiving, []⟩ oper, .updateBegin 0x55500011, 0x55500011, 3),
      (verify, .updateBegin 0x55500041, 0x55500041, 6),
      (oper, .updateVerify 0x55500012, 0x55500012, 4),
      (oper, .updateAbort 0x55500044, 0x55500044, 4),
      (oper, .updateActivate 0x55500803, 0x55500803, 4),
      (staged 3 ⟨.erasing, []⟩ (staged 0 ⟨.verified, []⟩ oper), .updateActivate 0x55500103, 0x55500103, 3),
      (staged 0 ⟨.verified, []⟩ { oper with vot := { oper.vot with lanes := oper.vot.lanes.set .c { Reset.laneVote with phase := .boot } } },
        .updateActivate 0x55500103, 0x55500103, 7),
      (staged 0 ⟨.verified, []⟩ { verify with vot := oper.vot }, .updateActivate 0x55500103, 0x55500103, 6)]) ∧
  (Met (fun ((s, v, x) : State × Word × Nat) => ∃ n : NorSlot, n = s.target x ∧ RegsWf s ∧ s.up = true ∧ fld v 0 4 = 2 ∧ fld v 16 16 = 0x5550 ∧
    fld v 4 4 = x + 1 ∧ x < 4 ∧ n.state = .received)
    [(staged 0 ⟨.received, [(0, headerOf 0 5), (1, [1, 2, 3, 4, 5])]⟩ op, 0x55500012, 0),
      (staged 2 ⟨.received, []⟩ op, 0x55500032, 2)]) ∧
  (Met (fun ((s, v, x) : State × Word × Nat) => ∃ n : NorSlot, n = s.target x ∧ s.up = true ∧ fld v 0 4 = 4 ∧ fld v 16 16 = 0x5550 ∧
    fld v 4 4 = x + 1 ∧ x < 4 ∧ n.state ∈ [SlotState.erasing, .receiving, .received])
    [(staged 3 ⟨.receiving, [(0, [1])]⟩ op, 0x55500044, 3)]) ∧
  (Met (fun ((s, x) : State × Nat) => s.up = true ∧ x < 4 ∧ (s.target x).state = .erasing ∧ s.norBusy (s.targetB x) = false)
    [(updBy (fun u => { u with state := 1, lastOp := 1 }) (staged 3 ⟨.erasing, []⟩ op), 3),
      (updBy (fun u => { u with state := 1, lastOp := 3 }) (staged 0 ⟨.erasing, []⟩ op), 0)]) ∧
  (Met (fun ((s, x) : State × Nat) => s.up = true ∧ x < 4 ∧ ((s.target x).state ≠ .erasing ∨ s.norBusy (s.targetB x) = true))
    [(staged 0 ⟨.receiving, []⟩ op, 0),
      (slotsBy 3 (fun y => { y with runB := true }) (staged 1 ⟨.erasing,
        []⟩ { oper with vot := { oper.vot with lanes := oper.vot.lanes.set .c { Reset.laneVote with phase := .boot } } }), 1)]) ∧
  (Met (fun ((s, b, x) : State × List Byte × Nat) => ∃ off : Nat, off = beAt b 0 4 ∧ ∃ len : Nat, len = beAt b 4 2 ∧ ∃ data : List Byte,
    data = slice b 8 len ∧ ∃ n : NorSlot, n = s.target x ∧ ∃ total : Nat, total = 4096 + hdrLen n.header ∧ RegsWf s ∧ s.up = true ∧
      b.length = 12 + len ∧ beAt b (8 + len) 4 = (crc32c (b.take (8 + len))).toNat ∧ s.receiving = some x ∧ off % 4096 = 0 ∧ 1 ≤ len ∧ len ≤ 4096 ∧
        (off = 0 ∧ headerValid x data = true ∨ off ≠ 0 ∧ n.header ≠ [] ∧ off + len ≤ total ∧ (len = 4096 ∨ off + len = total)) ∧
          (look n.blocks (off / 4096) = none ∨ look n.blocks (off / 4096) = some data))
    [(staged 1 ⟨.receiving, [(0, shortHeader 5)]⟩ op, block 4096 [1, 2, 3, 4, 5], 1)]) ∧
  (Met (fun ((s, b, x, cause) : State × List Byte × Nat × Nat) => ∃ off : Nat, off = beAt b 0 4 ∧ ∃ len : Nat, len = beAt b 4 2 ∧ ∃ data : List Byte,
    data = slice b 8 len ∧ ∃ n : NorSlot, n = s.target x ∧ ∃ total : Nat, total = 4096 + hdrLen n.header ∧ RegsWf s ∧ s.up = true ∧
      (s.receiving = none ∧ cause = 2 ∨ s.receiving = some x ∧ (b.length ≠ 12 + len ∨ beAt b (8 + len) 4 ≠ (crc32c (b.take (8 + len))).toNat) ∧
        cause = 3 ∨ s.receiving = some x ∧ b.length = 12 + len ∧ beAt b (8 + len) 4 = (crc32c (b.take (8 + len))).toNat ∧ ((off % 4096 ≠ 0 ∨ len = 0 ∨
          4096 < len) ∧ cause = 4 ∨ off % 4096 = 0 ∧ 1 ≤ len ∧ len ≤ 4096 ∧ (off ≠ 0 ∧ n.header = [] ∧ cause = 6 ∨ off = 0 ∧ len < 4096 ∧ cause = 4 ∨
            off = 0 ∧ len = 4096 ∧ headerValid x data = false ∧ cause = 7 ∨ off ≠ 0 ∧ n.header ≠ [] ∧ len < 4096 ∧ off + len < total ∧ cause = 4 ∨
              off ≠ 0 ∧ n.header ≠ [] ∧ total < off + len ∧ cause = 5 ∨ off ≠ 0 ∧ n.header ≠ [] ∧ off + len ≤ total ∧ (len = 4096 ∨
                off + len = total) ∧ ((look n.blocks (off / 4096)).any fun d => d != data) = true ∧ cause = 8))))
    [(op, [], 0, 2),
      (staged 1 ⟨.receiving, []⟩ op, [], 1, 3),
      (staged 1 ⟨.receiving, []⟩ op, block 1 [1], 1, 4),
      (staged 1 ⟨.receiving, []⟩ op, block 4096 [1], 1, 6),
      (staged 1 ⟨.receiving, []⟩ op, block 0 [1], 1, 4),
      (staged 1 ⟨.receiving, [(0, shortHeader 5)]⟩ op, block 4096 [1], 1, 4),
      (staged 1 ⟨.receiving, [(0, shortHeader 5)]⟩ op, block 4096 [1, 2, 3, 4, 5, 6], 1, 5),
      (staged 1 ⟨.receiving, [(0, shortHeader 5), (1, [9])]⟩ op, block 4096 [1, 2, 3, 4, 5], 1, 8)]) ∧
  (Met (fun ((s, n) : State × Nat) => ∃ x : Nat, x = n / 2 ∧ ∃ b : Bool, b = (n % 2 == 1) ∧ ∃ y : NorSlot, y = (s.typeSlots x).slot b ∧ s.up = true ∧
    n < 8)
    [(updBy (fun u => { u with state := 1, lastOp := 1 }) (staged 3 ⟨.receiving, [(0, [1])]⟩ op), 7),
      (updBy (fun u => { u with state := 1, lastOp := 1 }) (staged 0 ⟨.erasing, [(0, [1])]⟩ op), 1),
      (op, 0)]) ∧
  (Met (fun ((s, v) : State × Word) => ∃ m : Nat, m = fld v 8 4 ∧ s.up = true ∧ fld v 0 4 = 3 ∧ fld v 16 16 = 0x5550 ∧ m ≠ 0 ∧ s.nv.slots.length = 4 ∧
    (∀ x, x < 4 → m.testBit x = true → (s.target x).state = .verified) ∧ s.stagingOn = false ∧ s.rejoining = false ∧ s.updMode = true)
    [(staged 0 ⟨.verified, []⟩ op, 0x55500103),
      (staged 3 ⟨.verified, [(0, headerOf 3 5)]⟩ op, 0x55500803),
      ((fun y => { y with sys := { y.sys with recovery := true, mode := .boot } }) (slotsBy 0 (fun y => y.put false ⟨.verified, []⟩) State.reset),
        0x55500103)]) :=
  by
    and_intros <;> (repeat' apply Met.cons) <;>
      first | exact .nil | ((repeat refine ⟨_, rfl, ?_⟩); (try unfold RegsWf); decide +kernel)

/-- `WarmRestart`. -/
theorem witness_WarmRestart :
  (Met (fun s : State => ∃ u : State, u = (if s.pointSource then s else toTb2 (s.nextBoundary * nsUnit) s) ∧ s.boundariesOn = true ∧
    s.sys.warmArmed = true ∧ s.cyc.running = false)
    [{ op with sys := { op.sys with warmArmed := true, warmMask := 2 }, ksp := { op.ksp with sessions := [sess] }, latches := [⟨some .a, 0, 5, []⟩], sup := { op.sup with lock := .locked } },
      { op2 with sys := { op2.sys with warmArmed := true, warmMask := 1 } }]) ∧
  (Met (fun ((s, ok) : State × BitVec 3) => ∃ u : State, u = advanceTo (s.sys.pauseAt + s.pauseNs) s ∧ s.up = true ∧ s.sys.warmPause = true ∧
    (s.lanesIn.filter fun l => ok.getLsbD l.idx).length < 2)
    [(warm 1 op, 1)]) ∧
  (Met (fun ((s, ok) : State × BitVec 3) => ∃ u : State, u = advanceTo (s.sys.pauseAt + s.pauseNs) s ∧ s.up = true ∧ s.sys.warmPause = true ∧
    2 ≤ s.lanesIn.length ∧ (∀ l, s.inVote l = true → ok.getLsbD l.idx = true) ∧ s.nv.slots.length = 4)
    [(warm 9 (slotsBy 0 (fun y => { y with trial := some true, runB := false }) op), 7),
      (warm 15 op2, 3)]) ∧
  (Met (fun ((s, ok, l) : State × BitVec 3 × Lane) => ∃ u : State, u = advanceTo (s.sys.pauseAt + s.pauseNs) s ∧ s.up = true ∧
    s.sys.warmPause = true ∧ s.lanesIn.length = 3 ∧ (∀ m, ok.getLsbD m.idx = decide (m ≠ l)))
    [(warm 1 op, 3, .c)]) :=
  by
    and_intros <;> (repeat' apply Met.cons) <;>
      first | exact .nil | ((repeat refine ⟨_, rfl, ?_⟩); (try simp only [everyLane]); decide +kernel)

/-- `LifeCycle`. -/
theorem witness_LifeCycle :
  (Met (fun ((s, c, role) : State × Instr × Nat) => ∃ was : Life, was = s.nv.life ∧ (c = .provision role ∧ (role < 4 ∨ s.held = false ∨
    was ∉ [Life.manufacture, .fieldOpen, .returned]) ∨ c = .release role ∧ (role < 3 ∨ s.held = false ∨ was ≠ .provisioned ∨ s.releasable = false) ∨
      c = .returnToMaker role ∧ (role < 4 ∨ s.held = false ∨ was ∉ [Life.field, .fieldOpen]) ∨ c = .scrap role ∧ (role < 4 ∨ s.held = false ∨
        was = .scrapped) ∨ c = .openBoundaryScan role ∧ (role < 3 ∨ was ∈ [Life.provisioned, .field] ∧ s.held = false) ∨ c = .openDebug role ∧
          (role < 4 ∨ was ∈ [Life.provisioned, .field] ∧ s.held = false)))
    [(lifeIs .manufacture hold, .provision 3, 3),
      (lifeIs .provisioned hold, .release 4, 4),
      (lifeIs .field op, .returnToMaker 4, 4),
      (lifeIs .scrapped hold, .scrap 4, 4),
      (lifeIs .field op, .openBoundaryScan 3, 3),
      (lifeIs .manufacture hold, .openDebug 3, 3)]) ∧
  (Met (fun ((s, c, role, now) : State × Instr × Nat × Life) => ∃ was : Life, was = s.nv.life ∧ s.up = true ∧ s.held = true ∧ (c = .provision role ∧
    4 ≤ role ∧ was ∈ [Life.manufacture, .fieldOpen, .returned] ∧ now = .provisioned ∨ c = .release role ∧ 3 ≤ role ∧ was = .provisioned ∧
      s.releasable = true ∧ now = .field ∨ c = .returnToMaker role ∧ 4 ≤ role ∧ was ∈ [Life.field, .fieldOpen] ∧ now = .returned ∨ c = .scrap role ∧
        4 ≤ role ∧ was ≠ .scrapped ∧ now = .scrapped ∨ c = .openBoundaryScan role ∧ 3 ≤ role ∧ was ∈ [Life.provisioned, .field] ∧ now = .fieldOpen ∨
          c = .openDebug role ∧ 4 ≤ role ∧ was ∈ [Life.provisioned, .field] ∧ now = .fieldOpen))
    [(lifeIs .fieldOpen hold, .provision 4, 4, .provisioned),
      (releasing, .release 3, 3, .field),
      (lifeIs .field hold, .returnToMaker 4, 4, .returned),
      (lifeIs .manufacture hold, .scrap 4, 4, .scrapped),
      (lifeIs .field hold, .openBoundaryScan 3, 3, .fieldOpen),
      (lifeIs .provisioned hold, .openDebug 4, 4, .fieldOpen)]) ∧
  (Met (fun ((s, c, role, scan, debug, kind) : State × Instr × Nat × Bool × Bool × Nat) => s.up = true ∧ s.nv.life ∉ [Life.provisioned, .field] ∧
    (c = .openBoundaryScan role ∧ 3 ≤ role ∧ kind = 1 ∧ scan = true ∧ debug = s.upd.debugOpen ∨ c = .openDebug role ∧ 4 ≤ role ∧ kind = 2 ∧
      scan = s.upd.scanOpen ∧ debug = true))
    [((fun y => { y with ksp := { y.ksp with sessions := [sess] } }) (lifeIs .manufacture op), .openBoundaryScan 3, 3, true, false, 1),
      (lifeIs .returned hold, .openDebug 4, 4, false, true, 2)]) ∧
  (Met (fun ((s, ir) : State × Nat) => RegsWf s ∧ s.up = true ∧ s.upd.scanOpen = false ∧ s.upd.debugOpen = false ∧ 2 ≤ ir)
    [(op, 2)]) ∧
  (Met (fun ((s, ir) : State × Nat) => (ir < 2 ∨ s.upd.scanOpen = true ∨ s.upd.debugOpen = true))
    [(op, 1),
      (updBy (fun u => { u with debugOpen := true }) op, 5)]) :=
  by
    and_intros <;> (repeat' apply Met.cons) <;>
      first | exact .nil | ((repeat refine ⟨_, rfl, ?_⟩); (try unfold RegsWf); decide +kernel)

/-- `SecEngines`. -/
theorem witness_SecEngines :
  (Met (fun ((s, c, v, l, n) : State × Instr × Word × Lane × Nat) => ∃ op : Nat, op = fld v 0 4 ∧ ∃ src : Nat, src = s.pair40 l Off.SEC_SRC_LO ∧
    ∃ dst : Nat, dst = s.pair40 l Off.SEC_DST_LO ∧ ∃ len : Nat, len = fld (s.reg (laneKey l Off.SEC_LEN)) 0 25 ∧ RegsWf s ∧ MemsWf s ∧ s.up = true ∧
      (c = .secSha512 v ∧ op = 1 ∧ n = 64 ∨ c = .secVerifyPss v ∧ op = 2 ∧ n = 512 ∨ c = .secSignApp v ∧ op = 3 ∧ n = 512) ∧ s.inVote l = false)
    [(op2, .secSha512 0x53450001, 0x53450001, .c, 64)]) ∧
  (Met (fun ((s, c, v, l, n, cause) : State × Instr × Word × Lane × Nat × Nat) => ∃ op : Nat, op = fld v 0 4 ∧ ∃ src : Nat,
    src = s.pair40 l Off.SEC_SRC_LO ∧ ∃ dst : Nat, dst = s.pair40 l Off.SEC_DST_LO ∧ ∃ len : Nat, len = fld (s.reg (laneKey l Off.SEC_LEN)) 0 25 ∧
      RegsWf s ∧ MemsWf s ∧ s.up = true ∧ (c = .secSha512 v ∧ op = 1 ∧ n = 64 ∨ c = .secVerifyPss v ∧ op = 2 ∧ n = 512 ∨ c = .secSignApp v ∧ op = 3 ∧
        n = 512) ∧ s.inVote l = true ∧ (fld v 16 16 ≠ 0x5345 ∧ cause = 1 ∨ fld v 16 16 = 0x5345 ∧ (op = 2 ∧ s.signKey (fld v 8 2) = none ∧ cause = 3 ∨
          op = 3 ∧ s.nv.identity = none ∧ cause = 3 ∨ op = 3 ∧ s.nv.identity ≠ none ∧ (s.mem l).secure ≠ .valid ∧ cause = 4 ∨ (op = 1 ∨ op = 2 ∧
            s.signKey (fld v 8 2) ≠ none ∨ op = 3 ∧ s.nv.identity ≠ none ∧ (s.mem l).secure = .valid) ∧ (secRange src len = false ∨
              secRange dst n = false ∨ 16777216 < len) ∧ cause = 5)))
    [(oper, .secSha512 1, 1, .b, 64, 1),
      ((fun y => memsBy (fun m => { m with secure := .empty }) y) (keyed0 oper), .secSignApp 0x53450003, 0x53450003, .c, 512, 4),
      (oper, .secVerifyPss 0x53450002, 0x53450002, .a, 512, 3),
      (withLaneRegs [(Off.SEC_SRC_LO, 8), (Off.SEC_SRC_LO + 4, 2)] oper, .secSha512 0x53450001, 0x53450001, .b, 64, 5)]) ∧
  (Met (fun ((s, c, v, l, n) : State × Instr × Word × Lane × Nat) => ∃ op : Nat, op = fld v 0 4 ∧ ∃ src : Nat, src = s.pair40 l Off.SEC_SRC_LO ∧
    ∃ dst : Nat, dst = s.pair40 l Off.SEC_DST_LO ∧ ∃ len : Nat, len = fld (s.reg (laneKey l Off.SEC_LEN)) 0 25 ∧ RegsWf s ∧ MemsWf s ∧ s.up = true ∧
      (c = .secSha512 v ∧ op = 1 ∧ n = 64 ∨ c = .secVerifyPss v ∧ op = 2 ∧ n = 512 ∨ c = .secSignApp v ∧ op = 3 ∧ n = 512) ∧ s.inVote l = true ∧
        fld v 16 16 = 0x5345 ∧ secRange src len = true ∧ secRange dst n = true ∧ len ≤ 16777216 ∧ (op = 1 ∨ op = 2 ∧ s.signKey (fld v 8 2) ≠ none ∨
          op = 3 ∧ s.nv.identity ≠ none ∧ (s.mem l).secure = .valid))
    [(secAt 0x100 0xFFFFFFC0 16 oper, .secSha512 0x53450001, 0x53450001, .a, 64),
      (keyed0 (withLaneRegs [(Off.SEC_SRC_LO, 0x100), (Off.SEC_DST_LO, 0x200)] op2), .secVerifyPss 0x53450002, 0x53450002, .b, 512),
      (keyed0 (secAt 0x100 0x200 16 oper), .secSignApp 0x53450003, 0x53450003, .c, 512)]) ∧
  (Met (fun ((s, l) : State × Lane) => s.up = true ∧ s.inVote l = true)
    [(op2, .b)]) :=
  by
    and_intros <;> (repeat' apply Met.cons) <;>
      first | exact .nil | ((repeat refine ⟨_, rfl, ?_⟩); (try unfold MemsWf); (try unfold RegsWf); (try simp only [everyLane]); decide +kernel)

/-- `BackgroundPasses`. -/
theorem witness_BackgroundPasses :
  (Met (fun ((s, l, ws, percent, lim, cnt, a, dram, done,
    c) : State × Lane × (List (Nat × Nat)) × Nat × Nat × Nat × Nat × Bool × Bool × Instr) => RegsWf s ∧ s.scrubs l = true ∧
      (c = .dramScrub l ws percent ∧ dram = true ∧ lim = 0x200000000 ∧ done = decide (100 ≤ percent) ∧ cnt = Off.SPM_DRAM_CE_CNT ∧ a = 0 ∨
        c = .spmScrub l ws done ∧ dram = false ∧ lim = 0x400000 ∧ cnt = Off.SPM_SPM_CE_CNT ∧ a = 1))
    [(memsBy (fun m => { m with scrubNow := [3, 4], scrubOld := [7, 8] }) op, .b, [(0x1FFFFFFF8, 71), (0x200000000, 1), (9, 0)], 100, 0x200000000,
      Off.SPM_DRAM_CE_CNT, 0, true, true, .dramScrub .b [(0x1FFFFFFF8, 71), (0x200000000, 1), (9, 0)] 100),
      (memsBy (fun m => { m with scrubNow := [3, 4], scrubOld := [7, 8] }) op, .b, [(9, 0)], 99, 0x200000000, Off.SPM_DRAM_CE_CNT, 0, true, false,
        .dramScrub .b [(9, 0)] 99),
      (tlmBy (fun t => { t with late := 0x3FF }) (memsBy (fun m => { m with scrubNow := [3, 4], scrubOld := [7, 8] }) op), .c, [(0x400000, 0),
        (0x3FFFF8, 1)], 0, 0x400000, Off.SPM_SPM_CE_CNT, 1, false, true, .spmScrub .c [(0x400000, 0), (0x3FFFF8, 1)] true)]) ∧
  (Met (fun s : State => s.isl.powered = true ∧ 3 ≤ s.sys.mode.code ∧ s.chk.takeover = none ∧ s.sys.warmPause = false)
    [op,
      tlmBy (fun t => { t with late := 0x3FF, latePass := 4 }) op,
      holder op]) ∧
  (Met (fun ((s, slot, may) : State × Nat × Bool) => ∃ b : Bool, b = (slot % 2 == 1) ∧ ∃ ts : TypeSlots, ts = s.typeSlots (slot / 2) ∧ ∃ n : NorSlot,
    n = ts.slot b ∧ ∃ keep : List (Nat × Nat), keep = (s.upd.failing.filter fun x => x.1 != slot) ∧ ∃ seen : BitVec 8,
      seen = s.tlm.norSeen ||| 1#8 <<< slot ∧ s.up = true ∧ slot < 8 ∧ s.norBusy b = false ∧ may = (decide (ts.mark ≠ b ∧ ts.runB ≠ b ∧
        ts.markB ≠ b) || decide ((ts.slot (!b)).state = .verified)))
    [(tlmBy (fun t => { t with norSeen := 0x7F, late := 0x3FF }) (updBy (fun u => { u with failing := [(7, 2)] }) op), 7, true),
      (op, 0, false)]) ∧
  (Met (fun ((s, slot) : State × Nat) => s.norBusy (slot % 2 == 1) = true)
    [(slotsBy 0 (fun y => { y with runB := true }) { oper with vot := { oper.vot with lanes := oper.vot.lanes.set .c { Reset.laneVote with phase := .boot } } },
      3)]) ∧
  (Met (fun s : State => RegsWf s ∧ s.recUp = true ∧ s.erec.state ≠ .failed)
    [nandBy (fun n => { n with badCrc := [(true, 5, [1]), (false, 5, [1])] }) op,
      nandBy (fun n => { n with retired := 7871 }) op]) ∧
  (Met (fun ((s, a, due) : State × Nat × Bool) => ∃ u : State, u = advanceTo (s.periodStart a + bgPeriod a) s ∧ RegsWf s ∧ s.bgRuns a = true ∧
    due = ((s.tlm.lateAt.getD a none).all fun x => decide (x + 3600 ≤ u.nv.opSeconds.toNat)))
    [(op, 9, true),
      (tlmBy (fun t => { t with lateAt := List.replicate 10 (some 3599) }) op, 0, true),
      (tlmBy (fun t => { t with lateAt := List.replicate 10 (some 0) }) { op with now := 99000000000 }, 6, false)]) :=
  by
    and_intros <;> (repeat' apply Met.cons) <;>
      first | exact .nil | ((repeat refine ⟨_, rfl, ?_⟩); (try unfold RegsWf); decide +kernel)

/-- `Telemetry`. -/
theorem witness_Telemetry :
  (Met (fun ((s, t0, ts) : State × Int × List Int) => ∃ u : State, u = toTb2 ((s.time.tb2.ns / 1000000000 + 1) * 1000000000 * nsUnit) s ∧ ∃ hot : Int,
    hot = ts.foldl max t0 ∧ ∃ wall : Int, wall = ((t0 :: ts).take 2).foldl max t0 ∧ ∃ warn : Bool,
      warn = decide (10 * (fld (s.reg Off.TLM_CFG) 0 8 : Int) < hot) ∧ s.up = true ∧ 4 ≤ s.sys.mode.code)
    [(op, 851, [20, -5, 990]),
      (tlmBy (fun t => { t with tempWarn := true, excursion := some (0, 0, false) }) op, 850, [])]) ∧
  (Met (fun ((s, p, m) : State × Nat × Int) => ∃ since : Option Nat,
    since = (if m < (fld (s.reg Off.TLM_CFG) 8 8 : Int) then some ((s.tlm.lowSince.getD p none).getD s.now) else none) ∧ ∃ low : List (Option Nat),
      low = s.tlm.lowSince.set p since ∧ ∃ pp : Nat,
        pp = ((List.range 22).find? fun q => s.portUsed q && (low.getD q none).any fun x => decide (x + 10000000000 ≤ s.now)).getD p ∧
          ∃ seen : BitVec 22, seen = s.tlm.portSeen ||| 1#22 <<< p ∧ RegsWf s ∧ s.up = true ∧ s.portUsed p = true)
    [(tlmBy (fun t => { t with portSeen := 0x1FFFFF }) portsOn, 21, 29),
      (tlmBy (fun t => { t with lowSince := t.lowSince.set 0 (some 0) }) { portsOn with now := 10000000000 }, 0, -40000),
      (tlmBy (fun t => { t with lowSince := t.lowSince.set 0 (some 0), marginWarn := true }) { portsOn with now := 10000000000 }, 0, 30)]) ∧
  (Met (fun ((s, edge) : State × Int) => s.isl.powered = true ∧ s.tlm.excursion = none ∧ 800 < edge)
    [(op, 801)]) ∧
  (Met (fun ((s, start, peak, edge, marked) : State × Nat × Int × Int × Bool) => s.tlm.excursion = some (start, peak, marked) ∧ edge ≤ 800)
    [(tlmBy (fun t => { t with excursion := some (0, 990, false) }) { op with now := 5999999999 }, 0, 990, 800, false)]) ∧
  (Met (fun ((s, start, peak, edge, marked) : State × Nat × Int × Int × Bool) => s.tlm.excursion = some (start, peak, marked) ∧ 800 < edge)
    [(tlmBy (fun t => { t with excursion := some (0, 990, false) }) op, 0, 990, 801, false)]) ∧
  (Met (fun ((s, start, peak, marked) : State × Nat × Int × Bool) => s.tlm.excursion = some (start, peak, marked))
    [(tlmBy (fun t => { t with excursion := some (0, 990, false) }) op, 0, 990, false),
      (tlmBy (fun t => { t with excursion := some (0, 990, true) }) op, 0, 990, true)]) ∧
  (Met (fun s : State => s.tlm.excursion = none)
    [op]) ∧
  (Met (fun s : State => s.tlm.excursion = none)
    [op]) ∧
  (Met (fun ((s, peak) : State × Int) => ∃ hot : Nat, hot = s.tlm.hotAt.getD s.now ∧ ∃ u : State, u = advanceTo (hot + 1000000000) s ∧ s.up = true ∧
    1100 ≤ peak)
    [(op, 1100),
      (tlmBy (fun t => { t with hotAt := some 7, excursion := some (3, 990, true) }) op, 1250)]) :=
  by
    and_intros <;> (repeat' apply Met.cons) <;>
      first | exact .nil | ((repeat refine ⟨_, rfl, ?_⟩); (try unfold RegsWf); decide +kernel)

/-- `SamplingAndPorts`: its clauses of SAMPLE_STROBE. -/
theorem witness_InputAgreement :
  (Met (fun ((s, kind, due) : State × Nat × Nat) => s.up = true ∧ s.dio.enabled = true ∧ kind < 3 ∧ kind < s.vot.strobes.length ∧
    due = (if s.tb0 % strobePeriod kind = 0 ∧ s.vot.strobes.getD kind 0 ≠ s.tb0 then s.tb0 else (s.tb0 / strobePeriod kind + 1) * strobePeriod kind))
    [({ op with vot := { op.vot with strobes := [7, 7, 7] } }, 0, 0),
      (op, 2, 250000),
      (tb0At 5001 op, 1, 10000)]) ∧
  (Met (fun ((s, x) : State × Tri Int) => ∃ m : Int, m = medInt x.a x.b x.c ∧ ∃ tol : Nat, tol = fld (s.reg Off.VOT_MEAS_TOL) 24 8 ∧ s.up = true ∧
    s.dio.enabled = true ∧ 44 < s.vot.agree.length ∧ (s.paths 44).length = 3 ∧ (x.a - m).natAbs ≤ tol ∧ (x.b - m).natAbs ≤ tol ∧
      (x.c - m).natAbs ≤ tol)
    [(op, ⟨5, 6, 7⟩)]) ∧
  (Met (fun ((s, p, q) : State × Lane × Lane) => ∃ tol : Nat, tol = fld (s.reg Off.VOT_MEAS_TOL) 24 8 ∧ ∃ rep : Nat,
    rep = max 1 (fld (s.reg Off.VOT_INPUT_CFG) 8 8) ∧ RegsWf s ∧ s.up = true ∧ s.dio.enabled = true ∧ 44 < s.vot.agree.length ∧ s.paths 44 = [p, q] ∧
      (s.agreeOf 44).pending = none)
    [(op2, .a, .b),
      ({ op2 with vot := { op2.vot with agree := modAt op2.vot.agree 44 (fun y => { y with diffs := 200 }) } }, .a, .b),
      (op2, .a, .b)]) ∧
  (Met (fun ((s, x, v) : State × Tri Int × Int) => s.up = true ∧ s.dio.enabled = true ∧ 0 < s.vot.agree.length ∧ (s.paths 0).length = 3 ∧
    s.testMarked 0 = false ∧ (x.a = v ∧ x.b = v ∨ x.a = v ∧ x.c = v ∨ x.b = v ∧ x.c = v))
    [(op, ⟨1, 0, 1⟩, 1)]) ∧
  (Met (fun ((s, v, w, l) : State × Int × Int × Lane) => ∃ x : Tri Int, x = ⟨v, v, v⟩ ∧ RegsWf s ∧ s.up = true ∧ s.dio.enabled = true ∧
    0 < s.vot.agree.length ∧ (s.paths 0).length = 3 ∧ s.testMarked 0 = false ∧ (s.agreeOf 0).pending = some l ∧ (s.agreeOf 0).last = some w)
    [({ op with vot := { op.vot with agree := modAt op.vot.agree 0 (fun y => { y with pending := some .b, last := some 1 }) } }, 1, 1, .b),
      ({ op with vot := { op.vot with agree := modAt op.vot.agree 0 (fun y => { y with pending := some .b, last := some 1 }) } }, 0, 1, .b)]) :=
  by
    and_intros <;> (repeat' apply Met.cons) <;>
      first | exact .nil | ((repeat refine ⟨_, rfl, ?_⟩); (try unfold RegsWf); decide +kernel)

/-- `SamplingAndPorts`: its clauses from PHY_LINK_UP to PORT_DOWN. -/
theorem witness_PortLinks :
  (Met (fun ((s, p, speed) : State × Nat × Nat) => ∃ old : Word, old = s.reg Off.FTN_TS_CAL_STATUS ∧ RegsWf s ∧ s.hubOn = true ∧ s.portUsed p = true ∧
    p < s.ftn.ports.length ∧ (s.ftn.ports.getD p Reset.port).up = false ∧ speed = portSpeed p)
    [(portsOn, 19, 1000),
      (portsOn, 20, 100)]) ∧
  (Met (fun ((s, p, speed) : State × Nat × Nat) => ∃ old : Word, old = s.reg Off.FTN_TS_CAL_STATUS ∧ RegsWf s ∧ s.hubOn = true ∧ s.portUsed p = true ∧
    p < s.ftn.ports.length ∧ (s.ftn.ports.getD p Reset.port).up = false ∧ speed ≠ portSpeed p)
    [(withRegs [(Off.FTN_PORT_EN, 0x3FFFFF), (Off.FTN_TS_CAL_STATUS, 0xFFFF13)] op, 0, 1000),
      (portsOn, 20, 0)]) ∧
  (Met (fun ((s, p) : State × Nat) => s.hubOn = true ∧ 4 ≤ p ∧ p < 22 ∧ p < s.ftn.ports.length ∧ (s.ftn.ports.getD p Reset.port).up = true)
    [(linked portsOn, 4),
      (linked op, 21)]) :=
  by
    and_intros <;> (repeat' apply Met.cons) <;>
      first | exact .nil | ((repeat refine ⟨_, rfl, ?_⟩); (try unfold RegsWf); decide +kernel)

end Sys2Proof.Tests
end

namespace Sys2Proof.Machine

/-! ### Answers to lanes (R14, R79) -/

theorem answer_vot (l : Lane) (core : Nat) (v : Word) (err : Bool) (s : State) :
    (answer l core v err s).vot = { s.vot with lanes := s.vot.lanes.set l { s.vot.lanes.get l with answer := ⟨core, v, err⟩ } } := rfl

theorem onlyIn_answer (l : Lane) (core : Nat) (v : Word) (err : Bool) (s : State) : OnlyIn [.vot] s (answer l core v err s) :=
  ⟨rfl, fun p hp => by
    cases p
    case vot => exact absurd List.mem_cons_self hp
    all_goals rfl⟩

/-- One answer given to a list of lanes reaches each of them, however often the list names it. -/
theorem foldl_answer_vot (ls : List Lane) (core : Nat) (v : Word) (err : Bool) (s : State) :
    (ls.foldl (fun s l => answer l core v err s) s).vot =
      { s.vot with lanes := s.vot.lanes.map fun m x => if m ∈ ls then { x with answer := ⟨core, v, err⟩ } else x } := by
  induction ls generalizing s with
  | nil => simp [Tri.map]
  | cons l ls ih =>
    rw [List.foldl_cons, ih, answer_vot]
    cases l <;> simp [Tri.map, Tri.set, Tri.get]

theorem mem_lanesIn (s : State) (l : Lane) : l ∈ s.lanesIn ↔ s.inVote l = true := by
  have hall : l ∈ Lane.all := by cases l <;> decide
  simp [State.lanesIn, List.mem_filter, hall]

/-- The answer to all lanes is the one that the Sluice gives to every lane in vote (R79). -/
theorem answerAll_vot (core : Nat) (v : Word) (err : Bool) (s : State) : (answerAll core v err s).vot = s.vot.answered core v err := by
  rw [answerAll, foldl_answer_vot]
  simp only [mem_lanesIn]
  rfl

theorem onlyIn_answerAll (core : Nat) (v : Word) (err : Bool) (s : State) : OnlyIn [.vot] s (answerAll core v err s) := by
  unfold answerAll
  induction s.lanesIn generalizing s with
  | nil => exact onlyIn_refl _ s
  | cons l ls ih => exact onlyIn_trans (onlyIn_answer l core v err s) (ih _)

/-- A lane-local block answers the lane that reads, a module-shared block every lane in vote (R14, R79). -/
theorem readAnswer_vot (l : Lane) (core off : Nat) (v : Word) (s : State) :
    (readAnswer l core off v s).vot =
      if laneLocal off then { s.vot with lanes := s.vot.lanes.set l { s.vot.lanes.get l with answer := ⟨core, v, false⟩ } }
      else s.vot.answered core v false := by
  unfold readAnswer
  split
  · exact answer_vot l core v false s
  · exact answerAll_vot core v false s

theorem onlyIn_readAnswer (l : Lane) (core off : Nat) (v : Word) (s : State) : OnlyIn [.vot] s (readAnswer l core off v s) := by
  unfold readAnswer
  split
  · exact onlyIn_answer l core v false s
  · exact onlyIn_answerAll core v false s

theorem readAnswer_regs (l : Lane) (core off : Nat) (v : Word) (s : State) : (readAnswer l core off v s).regs = s.regs :=
  (onlyIn_readAnswer l core off v s).2 .regs (by decide)

/-! ### The count of unmapped accesses (R9) -/

/-- The counter has no reserved bits, so it advances by one (R9). -/
theorem reg_bump_unmapped (s : State) (h : RegsWf s) :
    (bump Off.TLM_UNMAPPED_CNT s).reg Off.TLM_UNMAPPED_CNT = s.reg Off.TLM_UNMAPPED_CNT + 1 := by
  have hmask : regMask Off.TLM_UNMAPPED_CNT = BitVec.allOnes 32 := by decide
  rw [reg_bump_self _ s h, hmask, BitVec.and_allOnes]

theorem regsOnly_bump_unmapped (s : State) : RegsOnly [Off.TLM_UNMAPPED_CNT] s (bump Off.TLM_UNMAPPED_CNT s) := by
  intro k hk
  refine reg_bump_ne _ k s ?_
  rintro rfl
  exact hk (by decide)

/-! ### An unlisted offset (R9) -/

theorem unmappedOp_write (l : Lane) (core off : Nat) (s : State) : unmappedOp l core off true s = bump Off.TLM_UNMAPPED_CNT s := rfl

theorem unmappedOp_read (l : Lane) (core off : Nat) (s : State) :
    unmappedOp l core off false s = bump Off.TLM_UNMAPPED_CNT (readAnswer l core off 0 s) := rfl

theorem onlyIn_unmappedOp_read (l : Lane) (core off : Nat) (s : State) : OnlyIn [.regs, .vot] s (unmappedOp l core off false s) :=
  onlyIn_trans (onlyIn_mono (onlyIn_readAnswer l core off 0 s) (by decide)) (onlyIn_mono (onlyIn_bump _ _) (by decide))

/-- An unlisted offset read: the answer touches no register, so the count is of the register as it stood. -/
theorem reg_unmappedOp_read (l : Lane) (core off : Nat) (s : State) (h : RegsWf s) :
    (unmappedOp l core off false s).reg Off.TLM_UNMAPPED_CNT = s.reg Off.TLM_UNMAPPED_CNT + 1 := by
  have hwf : RegsWf (readAnswer l core off 0 s) := by rwa [RegsWf, readAnswer_regs]
  rw [unmappedOp_read, reg_bump_unmapped _ hwf, reg_congr s _ _ (readAnswer_regs l core off 0 s)]

theorem regsOnly_unmappedOp_read (l : Lane) (core off : Nat) (s : State) :
    RegsOnly [Off.TLM_UNMAPPED_CNT] s (unmappedOp l core off false s) := fun k hk =>
  (regsOnly_bump_unmapped _ k hk).trans (reg_congr s _ k (readAnswer_regs l core off 0 s))

/-! ### The two commands -/

theorem exec_misalignedAccess (l : Lane) (core off : Nat) (w : Bool) (s : State) (h : s.accessOk l core off = true) :
    exec (.misalignedAccess l core off w) s = .next (answer l core 0 true s) := by
  change execMisalignedAccess l core off w s = _
  rw [execMisalignedAccess, h, when, if_pos rfl]

theorem exec_unmappedAccess (l : Lane) (core off : Nat) (w : Bool) (s : State) (h : s.accessOk l core off = true)
    (hrow : rowAt off = none) : exec (.unmappedAccess l core off w) s = .next (unmappedOp l core off w s) := by
  change execUnmappedAccess l core off w s = _
  rw [execUnmappedAccess, h, hrow, when, Option.isNone_none, Bool.and_self, if_pos rfl]

/-- Settles O8: the access answers its own lane with a bus error, and an answer changes nothing else. -/
theorem misalignedAccess : Obligations.MisalignedAccess := fun s l core off w hok =>
  ⟨_, exec_misalignedAccess l core off w s hok, answer_vot l core 0 true s, onlyIn_answer l core 0 true s⟩

/-- Settles O9: a write is counted and has no other effect; a read is answered with 0 and then counted. -/
theorem unmappedAccess : Obligations.UnmappedAccess := by
  constructor
  · intro s l core off hwf hok hrow
    refine ⟨_, exec_unmappedAccess l core off true s hok hrow, ?_⟩
    rw [unmappedOp_write]
    exact ⟨reg_bump_unmapped s hwf, regsOnly_bump_unmapped s, onlyIn_bump _ s⟩
  · intro s l core off hwf hok hrow
    refine ⟨_, exec_unmappedAccess l core off false s hok hrow, reg_unmappedOp_read l core off s hwf, ?_,
      regsOnly_unmappedOp_read l core off s, onlyIn_unmappedOp_read l core off s⟩
    rw [unmappedOp_read, bump_vot, readAnswer_vot]

end Sys2Proof.Machine

namespace Sys2Proof.Machine

/-! ### Registers without reserved bits, and register frames -/

theorem reg_setReg_unmasked (k : Nat) (v : Word) (s : State) (h : RegsWf s) (hmask : regMask k = BitVec.allOnes 32) :
    (setReg k v s).reg k = v := by
  rw [reg_setReg_self k v s h, hmask, BitVec.and_allOnes]

theorem reg_bump_unmasked (k : Nat) (s : State) (h : RegsWf s) (hmask : regMask k = BitVec.allOnes 32) :
    (bump k s).reg k = s.reg k + 1 :=
  reg_setReg_unmasked k _ s h hmask

theorem regsOnly_trans {offs : List Nat} {s t u : State} (h1 : RegsOnly offs s t) (h2 : RegsOnly offs t u) : RegsOnly offs s u :=
  fun k hk => (h2 k hk).trans (h1 k hk)

theorem regsOnly_setReg {offs : List Nat} (k : Nat) (v : Word) (s : State) (hk : k % 16777216 ∈ offs) : RegsOnly offs s (setReg k v s) := by
  intro k' hk'
  refine reg_setReg_ne k k' v s ?_
  rintro rfl
  exact hk' hk

theorem regsOnly_bump {offs : List Nat} (k : Nat) (s : State) (hk : k % 16777216 ∈ offs) : RegsOnly offs s (bump k s) :=
  regsOnly_setReg k _ s hk

theorem raiseIrq_reg (id k : Nat) (s : State) : (raiseIrq id s).reg k = s.reg k := reg_congr s _ k rfl

theorem regsOnly_raiseIrq (offs : List Nat) (id : Nat) (s : State) : RegsOnly offs s (raiseIrq id s) := fun k _ => raiseIrq_reg id k s

/-! ### SYS_MODE_REQ_STATUS once a request has ended (Table 2.11) -/

/-- STATE other than BUSY ends a request: the status word is written and SYS_REQ_DONE raised. -/
theorem reqStatus_ended (state cause req : Nat) (s : State) (hstate : state ≠ 1) :
    reqStatus state cause req s =
      raiseIrq Irq.SYS_REQ_DONE (setReg Off.SYS_MODE_REQ_STATUS (modeStatus (s.reg Off.SYS_MODE_REQ_STATUS) state cause req) s) := by
  unfold reqStatus
  exact if_neg hstate

/-- The status register has no reserved bits, so it reads as Table 2.11 composes it. -/
theorem reg_reqStatus_ended (state cause req : Nat) (s : State) (h : RegsWf s) (hstate : state ≠ 1) :
    (reqStatus state cause req s).reg Off.SYS_MODE_REQ_STATUS = modeStatus (s.reg Off.SYS_MODE_REQ_STATUS) state cause req := by
  rw [reqStatus_ended state cause req s hstate, raiseIrq_reg]
  exact reg_setReg_unmasked _ _ s h (by decide)

theorem regsWf_reqStatus_ended (state cause req : Nat) (s : State) (h : RegsWf s) (hstate : state ≠ 1) :
    RegsWf (reqStatus state cause req s) := by
  rw [reqStatus_ended state cause req s hstate]
  exact regsWf_setReg _ _ s h

theorem regsOnly_reqStatus_ended (state cause req : Nat) (s : State) (hstate : state ≠ 1) :
    RegsOnly [Off.SYS_MODE_REQ_STATUS] s (reqStatus state cause req s) := by
  rw [reqStatus_ended state cause req s hstate]
  exact regsOnly_trans (regsOnly_setReg _ _ s (by decide)) (regsOnly_raiseIrq _ _ _)

theorem onlyIn_reqStatus_ended (state cause req : Nat) (s : State) (hstate : state ≠ 1) :
    OnlyIn [.regs, .icus] s (reqStatus state cause req s) := by
  rw [reqStatus_ended state cause req s hstate]
  exact onlyIn_trans (onlyIn_mono (onlyIn_setReg _ _ s) (by decide)) (onlyIn_mono (onlyIn_raiseIrq _ _) (by decide))

/-! ### A rejected request -/

theorem reqReject_eq (cause req : Nat) (s : State) : reqReject cause req s = bump Off.SYS_REQ_REJECTS (reqStatus 3 cause req s) := rfl

/-- The count of rejections leaves the status word. -/
theorem reg_reqReject_status (cause req : Nat) (s : State) (h : RegsWf s) :
    (reqReject cause req s).reg Off.SYS_MODE_REQ_STATUS = modeStatus (s.reg Off.SYS_MODE_REQ_STATUS) 3 cause req := by
  rw [reqReject_eq, reg_bump_ne _ _ _ (by decide), reg_reqStatus_ended 3 cause req s h (by decide)]

/-- The status word leaves the count of rejections, which advances by one (Table 2.13). -/
theorem reg_reqReject_rejects (cause req : Nat) (s : State) (h : RegsWf s) :
    (reqReject cause req s).reg Off.SYS_REQ_REJECTS = s.reg Off.SYS_REQ_REJECTS + 1 := by
  have hcount := regsOnly_reqStatus_ended 3 cause req s (by decide) Off.SYS_REQ_REJECTS (by decide)
  rw [reqReject_eq, reg_bump_unmasked _ _ (regsWf_reqStatus_ended 3 cause req s h (by decide)) (by decide), hcount]

theorem regsOnly_reqReject (cause req : Nat) (s : State) :
    RegsOnly [Off.SYS_MODE_REQ_STATUS, Off.SYS_REQ_REJECTS] s (reqReject cause req s) := fun k hk => by
  obtain ⟨hstatus, hrejects⟩ := not_or.mp (mt List.mem_cons.mpr hk)
  exact (regsOnly_bump (offs := [Off.SYS_REQ_REJECTS]) _ _ (by decide) k hrejects).trans
    (regsOnly_reqStatus_ended 3 cause req s (by decide) k (by simpa using hstatus))

theorem onlyIn_reqReject (cause req : Nat) (s : State) : OnlyIn [.regs, .icus] s (reqReject cause req s) :=
  onlyIn_trans (onlyIn_reqStatus_ended 3 cause req s (by decide)) (onlyIn_mono (onlyIn_bump _ _) (by decide))

/-- What a rejected request shows: its end in the status word, the count, and nothing else but the interrupt. -/
theorem exists_next_reqReject {o : Host.Outcome State Fault Refusal} (cause req : Nat) (s : State) (h : RegsWf s)
    (ho : o = .next (reqReject cause req s)) :
    ∃ t, o = .next t ∧ t.reg Off.SYS_MODE_REQ_STATUS = modeStatus (s.reg Off.SYS_MODE_REQ_STATUS) 3 cause req ∧
      t.reg Off.SYS_REQ_REJECTS = s.reg Off.SYS_REQ_REJECTS + 1 ∧
      RegsOnly [Off.SYS_MODE_REQ_STATUS, Off.SYS_REQ_REJECTS] s t ∧ OnlyIn [.regs, .icus] s t :=
  ⟨_, ho, reg_reqReject_status cause req s h, reg_reqReject_rejects cause req s h, regsOnly_reqReject cause req s, onlyIn_reqReject cause req s⟩

/-! ### The word of a request (Table 2.10) and how it is judged (R64) -/

theorem reqWord_toNat (key : Half) (req : Nat) (hreq : req < 65536) : (reqWord key req).toNat = key.toNat * 65536 + req := by
  have hkey := key.isLt
  simp only [reqWord, mkWord, List.foldl, BitVec.toNat_ofNat, Nat.shiftLeft_eq]
  omega

theorem fld_reqWord_key (key : Half) (req : Nat) (hreq : req < 65536) : fld (reqWord key req) 16 16 = key.toNat := by
  have hkey := key.isLt
  rw [fld, reqWord_toNat key req hreq, Nat.shiftRight_eq_div_pow]
  omega

theorem fld_reqWord_req (key : Half) (req : Nat) (hreq : req < 16) : fld (reqWord key req) 0 4 = req := by
  rw [fld, reqWord_toNat key req (by omega), Nat.shiftRight_zero]
  omega

theorem modeReqOp_bad_key (v : Word) (s : State) (hkey : fld v 16 16 ≠ 0x4D51) : modeReqOp v s = reqReject 3 (fld v 0 4) s := by
  unfold modeReqOp
  exact if_pos (bne_iff_ne.mpr hkey)

theorem modeReqOp_bad_code (v : Word) (s : State) (hkey : fld v 16 16 = 0x4D51) (hreq : fld v 0 4 ∉ [1, 4, 6]) :
    modeReqOp v s = reqReject 4 (fld v 0 4) s := by
  have hunlisted : fld v 0 4 ≠ 1 ∧ fld v 0 4 ≠ 4 ∧ fld v 0 4 ≠ 6 := by simpa using hreq
  simp [modeReqOp, hkey, hunlisted]

theorem modeReqOp_reqWord_bad_key (key : Half) (req : Nat) (s : State) (hkey : key ≠ 0x4D51) (hreq : req < 16) :
    modeReqOp (reqWord key req) s = reqReject 3 req s := by
  have hfld : fld (reqWord key req) 16 16 ≠ 0x4D51 := by
    rw [fld_reqWord_key key req (by omega)]
    exact fun e => hkey (BitVec.eq_of_toNat_eq e)
  rw [modeReqOp_bad_key _ s hfld, fld_reqWord_req key req hreq]

/-! ### The commands that carry a request -/

theorem exec_requestDormant (key : Half) (s : State) (hup : s.up = true) : exec (.requestDormant key) s = .next (modeReqOp (reqWord key 1) s) := by
  change execRequestDormant key s = _
  rw [execRequestDormant, hup, when, if_pos rfl]

theorem exec_requestOperational (key : Half) (s : State) (hup : s.up = true) :
    exec (.requestOperational key) s = .next (modeReqOp (reqWord key 4) s) := by
  change execRequestOperational key s = _
  rw [execRequestOperational, hup, when, if_pos rfl]

theorem exec_requestSafeHold (key : Half) (s : State) (hup : s.up = true) :
    exec (.requestSafeHold key) s = .next (modeReqOp (reqWord key 6) s) := by
  change execRequestSafeHold key s = _
  rw [execRequestSafeHold, hup, when, if_pos rfl]

/-- SYS_MODE_REQ is a listed register that can be written, and its write is the request. -/
theorem writeAt_modeReq (l : Lane) (core stream : Nat) (v : Word) (s : State) :
    writeAt l core stream Off.SYS_MODE_REQ v s = modeReqOp v s := by
  have hlisted : (rowAt Off.SYS_MODE_REQ).isNone = false := by decide +kernel
  have hwritable : writable Off.SYS_MODE_REQ = true := by decide +kernel
  rw [writeAt, hlisted, hwritable, when, if_neg Bool.false_ne_true, if_pos rfl]
  rfl

theorem exec_registerWrite (l : Lane) (core off : Nat) (v : Word) (s : State) (hok : s.accessOk l core off = true) (haligned : off % 4 = 0) :
    exec (.registerWrite l core off v) s = .next (writeAt l core (8 * core) off v s) := by
  change execRegisterWrite l core off v s = _
  rw [execRegisterWrite, hok, decide_eq_true haligned, Bool.and_self, when, if_pos rfl]

theorem exec_registerWrite_modeReq (l : Lane) (core : Nat) (v : Word) (s : State) (hok : s.accessOk l core Off.SYS_MODE_REQ = true) :
    exec (.registerWrite l core Off.SYS_MODE_REQ v) s = .next (modeReqOp v s) := by
  rw [exec_registerWrite l core _ v s hok (by decide), writeAt_modeReq]

/-- The request commands: each is the write of its word, and REQ fits its field. -/
theorem exec_request {c : Instr} {req : Nat} {key : Half} (s : State) (hup : s.up = true)
    (hc : c = .requestDormant key ∧ req = 1 ∨ c = .requestOperational key ∧ req = 4 ∨ c = .requestSafeHold key ∧ req = 6) :
    exec c s = .next (modeReqOp (reqWord key req) s) ∧ req < 16 := by
  obtain ⟨rfl, rfl⟩ | ⟨rfl, rfl⟩ | ⟨rfl, rfl⟩ := hc
  · exact ⟨exec_requestDormant key s hup, by decide⟩
  · exact ⟨exec_requestOperational key s hup, by decide⟩
  · exact ⟨exec_requestSafeHold key s hup, by decide⟩

/-- Settles O14: a wrong key, and after it an unlisted code, ends in the rejection alone, whichever command carries the request. -/
theorem modeRequestRefused : Obligations.ModeRequestRefused := by
  constructor
  · intro s c req key hwf hup hc hkey
    obtain ⟨hexec, hreq⟩ := exec_request s hup hc
    exact exists_next_reqReject 3 req s hwf (by rw [hexec, modeReqOp_reqWord_bad_key key req s hkey hreq])
  · intro s l core cause v hwf hok hbad
    have hexec := exec_registerWrite_modeReq l core v s hok
    obtain ⟨hkey, rfl⟩ | ⟨hkey, hreq, rfl⟩ := hbad
    · exact exists_next_reqReject 3 _ s hwf (by rw [hexec, modeReqOp_bad_key v s hkey])
    · exact exists_next_reqReject 4 _ s hwf (by rw [hexec, modeReqOp_bad_code v s hkey hreq])

end Sys2Proof.Machine

namespace Sys2Proof.Machine

-- One proof after another: so many short ones at once would exhaust the threads of the check.
set_option Elab.async false

/-! ### What every operation keeps: the waiting commands, the canonical form, the capacities -/

/-- State `s` keeps what `b`, a state before, had: the same commands wait, and the canonical form and the capacities hold if they held. -/
def Keeps (b s : State) : Prop := s.pending = b.pending ∧ (CanonForm b → CanonForm s) ∧ (WithinCapacity b → WithinCapacity s)

/-- A command that ends in a next state which keeps them. -/
def KeepsOut (b : State) (o : Host.Outcome State Fault Refusal) : Prop := ∃ t, o = .next t ∧ Keeps b t

/-! ### The register file in form -/

theorem forall_del {α : Type} {p : Nat × α → Prop} {l : List (Nat × α)} (k : Nat) (h : ∀ e ∈ l, p e) : ∀ e ∈ del l k, p e := by
  induction l with
  | nil => exact h
  | cons x xs ih =>
    obtain ⟨hx, hxs⟩ := List.forall_mem_cons.mp h
    obtain ⟨a, w⟩ := x
    rw [del]
    split
    · exact hxs
    · exact List.forall_mem_cons.mpr ⟨hx, ih hxs⟩

theorem forall_put {α : Type} {p : Nat × α → Prop} {l : List (Nat × α)} (k : Nat) (v : α) (hv : p (k, v)) (h : ∀ e ∈ l, p e) :
    ∀ e ∈ put l k v, p e := by
  induction l with
  | nil => exact List.forall_mem_cons.mpr ⟨hv, h⟩
  | cons x xs ih =>
    obtain ⟨hx, hxs⟩ := List.forall_mem_cons.mp h
    obtain ⟨a, w⟩ := x
    rw [put]
    split
    · exact List.forall_mem_cons.mpr ⟨hv, h⟩
    · split
      · exact List.forall_mem_cons.mpr ⟨hv, hxs⟩
      · exact List.forall_mem_cons.mpr ⟨hx, ih hxs⟩

theorem forall_putC {α : Type} [DecidableEq α] {p : Nat × α → Prop} {l : List (Nat × α)} (k : Nat) (d v : α) (hv : p (k, v)) (h : ∀ e ∈ l, p e) :
    ∀ e ∈ putC l k d v, p e := by
  rw [putC]
  split
  · exact forall_del k h
  · exact forall_put k v hv h

/-- The register file is canonical and its reserved bits are 0. -/
def RegsForm (l : List (Nat × Word)) : Prop := canon regReset l = true ∧ ∀ e ∈ l, e.2 &&& regMask e.1 = e.2

theorem regsForm_putC {l : List (Nat × Word)} (k : Nat) (v : Word) (h : RegsForm l) (hv : v &&& regMask k = v) :
    RegsForm (putC l k (regReset k) v) :=
  ⟨canon_putC regReset l k v h.1, forall_putC k _ v hv h.2⟩

theorem regsForm_filter {l : List (Nat × Word)} (p : Nat × Word → Bool) (h : RegsForm l) : RegsForm (l.filter p) :=
  ⟨canonFrom_filter regReset p l 0 h.1, fun e he => h.2 e (List.mem_of_mem_filter he)⟩

theorem regsForm_nil : RegsForm [] := ⟨rfl, fun _ he => absurd he List.not_mem_nil⟩

section
variable {b s t : State}

theorem keeps_refl : Keeps b b := ⟨rfl, id, id⟩

theorem keeps_ite {c : Prop} [Decidable c] (hs : Keeps b s) (ht : Keeps b t) : Keeps b (if c then s else t) := by
  split
  · exact hs
  · exact ht

theorem keeps_ite_snd {α : Type} {c : Prop} [Decidable c] {p q : α × State} (hp : Keeps b p.2) (hq : Keeps b q.2) :
    Keeps b (if c then p else q).2 := by
  split
  · exact hp
  · exact hq

theorem keeps_when {c : Bool} {f : State → State} (hf : Keeps b s → Keeps b (f s)) (h : Keeps b s) : Keeps b (when c f s) :=
  keeps_ite (hf h) h

theorem keeps_foldl {α : Type} {f : State → α → State} {l : List α} (hf : ∀ t x, Keeps b t → Keeps b (f t x)) (h : Keeps b s) :
    Keeps b (l.foldl f s) := by
  induction l generalizing s with
  | nil => exact h
  | cons x xs ih => exact ih (hf s x h)

theorem keepsOut_next (h : Keeps b t) : KeepsOut b (.next t) := ⟨t, rfl, h⟩

theorem keepsOut_ite {c : Prop} [Decidable c] {o o' : Host.Outcome State Fault Refusal} (ho : KeepsOut b o) (ho' : KeepsOut b o') :
    KeepsOut b (if c then o else o') := by
  split
  · exact ho
  · exact ho'

end

/-! ### A state rewritten -/

section
variable {b s : State}
variable {now free : Nat} {regs : List (Nat × Word)} {shadows : List Shadow} {latches : List Latch} {loWrites : List LoWrite} {out : List Msg}
  {sys : Sys} {isl : Island} {nv : NonVol} {time : Time} {vot : Vot} {icus : Tri Icu} {mems : Tri LaneMem} {erec : Recorder} {odo : Odo} {sup : Sup}
  {pst : Piste} {dio : Dio} {ftn : Ftn} {cyc : Cyc} {chk : Chk} {brg : Brg} {dmas : List Dma} {ksp : Ksp} {upd : Upd} {secs : Tri Sec} {tlm : Tlm}

/-- Registers and memories may differ, as long as they stay in form; the lists with a capacity are as before. -/
theorem keeps_form (hform : CanonForm s → RegsForm regs ∧ (∀ l : Lane, memWf (mems.get l).dram = true ∧ memWf (mems.get l).spad = true) ∧
      memWf nv.emmc = true) (h : Keeps b s) (hqueue : erec.queue = s.erec.queue := by rfl) (hevents : isl.events = s.isl.events := by rfl)
    (hended : sup.fifo = s.sup.fifo := by rfl) (hfires : pst.fifo = s.pst.fifo := by rfl) (hfailed : brg.fifo = s.brg.fifo := by rfl)
    (harb : ftn.arb = s.ftn.arb := by rfl) (hstandby : chk.events = s.chk.events := by rfl) :
    Keeps b ⟨s.pending, now, free, regs, shadows, latches, loWrites, out, sys, isl, nv, time, vot, icus, mems, erec, odo, sup, pst, dio, ftn, cyc, chk, brg, dmas, ksp, upd, secs, tlm⟩ := by
  obtain ⟨hpending, hcanon, hcap⟩ := h
  refine ⟨hpending, fun hb => ?_, fun hb => ?_⟩
  · obtain ⟨⟨hregs, hzero⟩, hmems, hemmc⟩ := hform (hcanon hb)
    exact ⟨hregs, hzero, hmems, hemmc⟩
  · have hs := hcap hb
    unfold WithinCapacity QueuesFit at hs ⊢
    rwa [hqueue, hevents, hended, hfires, hfailed, harb, hstandby]

/-- Lists with a capacity may differ, as long as they stay within it; registers and memories are as before. -/
theorem keeps_capacity (hcap : WithinCapacity s → (erec.queue.length ≤ 64 ∧ isl.events.length ≤ 16) ∧ pst.fifo.length ≤ 64 ∧
      sup.fifo.length ≤ 16 ∧ brg.fifo.length ≤ 16 ∧ ftn.arb.length ≤ 32 ∧ chk.events.length ≤ 16) (h : Keeps b s)
    (hemmc : nv.emmc = s.nv.emmc := by rfl) :
    Keeps b ⟨s.pending, now, free, s.regs, shadows, latches, loWrites, out, sys, isl, nv, time, vot, icus, s.mems, erec, odo, sup, pst, dio, ftn, cyc, chk, brg, dmas, ksp, upd, secs, tlm⟩ := by
  obtain ⟨hpending, hcanon, hwithin⟩ := h
  refine ⟨hpending, fun hb => ?_, fun hb => hcap (hwithin hb)⟩
  obtain ⟨hregs, hzero, hmems, he⟩ := hcanon hb
  exact ⟨hregs, hzero, hmems, hemmc ▸ he⟩

/-- The parts that the invariants do not rest on may differ. -/
theorem keeps_same (h : Keeps b s) (hemmc : nv.emmc = s.nv.emmc := by rfl) (hqueue : erec.queue = s.erec.queue := by rfl) (hevents : isl.events = s.isl.events := by rfl)
    (hended : sup.fifo = s.sup.fifo := by rfl) (hfires : pst.fifo = s.pst.fifo := by rfl) (hfailed : brg.fifo = s.brg.fifo := by rfl)
    (harb : ftn.arb = s.ftn.arb := by rfl) (hstandby : chk.events = s.chk.events := by rfl) :
    Keeps b ⟨s.pending, now, free, s.regs, shadows, latches, loWrites, out, sys, isl, nv, time, vot, icus, s.mems, erec, odo, sup, pst, dio, ftn, cyc, chk, brg, dmas, ksp, upd, secs, tlm⟩ :=
  keeps_form (fun ⟨hregs, hzero, hmems, he⟩ => ⟨⟨hregs, hzero⟩, hmems, hemmc ▸ he⟩) h hqueue hevents hended hfires hfailed harb hstandby

/-- The register file may differ as long as it stays in form. -/
theorem keeps_regs (hform : RegsForm s.regs → RegsForm regs) (h : Keeps b s) (hemmc : nv.emmc = s.nv.emmc := by rfl) (hqueue : erec.queue = s.erec.queue := by rfl) (hevents : isl.events = s.isl.events := by rfl)
    (hended : sup.fifo = s.sup.fifo := by rfl) (hfires : pst.fifo = s.pst.fifo := by rfl) (hfailed : brg.fifo = s.brg.fifo := by rfl)
    (harb : ftn.arb = s.ftn.arb := by rfl) (hstandby : chk.events = s.chk.events := by rfl) :
    Keeps b ⟨s.pending, now, free, regs, shadows, latches, loWrites, out, sys, isl, nv, time, vot, icus, s.mems, erec, odo, sup, pst, dio, ftn, cyc, chk, brg, dmas, ksp, upd, secs, tlm⟩ :=
  keeps_form (fun ⟨hregs, hzero, hmems, he⟩ => ⟨hform ⟨hregs, hzero⟩, hmems, hemmc ▸ he⟩) h hqueue hevents hended hfires hfailed harb hstandby

/-- The memories may differ as long as they stay in form. -/
theorem keeps_mems (hform : MemsWf s → ∀ l : Lane, memWf (mems.get l).dram = true ∧ memWf (mems.get l).spad = true) (h : Keeps b s)
    (hemmc : nv.emmc = s.nv.emmc := by rfl) (hqueue : erec.queue = s.erec.queue := by rfl) (hevents : isl.events = s.isl.events := by rfl)
    (hended : sup.fifo = s.sup.fifo := by rfl) (hfires : pst.fifo = s.pst.fifo := by rfl) (hfailed : brg.fifo = s.brg.fifo := by rfl)
    (harb : ftn.arb = s.ftn.arb := by rfl) (hstandby : chk.events = s.chk.events := by rfl) :
    Keeps b ⟨s.pending, now, free, s.regs, shadows, latches, loWrites, out, sys, isl, nv, time, vot, icus, mems, erec, odo, sup, pst, dio, ftn, cyc, chk, brg, dmas, ksp, upd, secs, tlm⟩ :=
  keeps_form (fun ⟨hregs, hzero, hmems, he⟩ => ⟨⟨hregs, hzero⟩, hform hmems, hemmc ▸ he⟩) h hqueue hevents hended hfires hfailed harb hstandby

/-- What power-on leaves empty meets the invariants; storage is kept, and of the supervisor's and the standby's events no more than before. -/
theorem keeps_anew (h : Keeps b s) (hevents : isl.events.length ≤ s.isl.events.length := by exact Nat.le_refl _)
    (hstandby : chk.events.length ≤ s.chk.events.length := by exact Nat.le_refl _) (hemmc : nv.emmc = s.nv.emmc := by rfl) (hqueue : erec.queue = [] := by rfl)
    (hended : sup.fifo = [] := by rfl) (hfires : pst.fifo = [] := by rfl) (hfailed : brg.fifo = [] := by rfl) (harb : ftn.arb = [] := by rfl) :
    Keeps b ⟨s.pending, now, free, [], shadows, latches, loWrites, out, sys, isl, nv, time, vot, icus, State.reset.mems, erec, odo, sup, pst, dio, ftn, cyc, chk, brg, dmas, ksp, upd, secs, tlm⟩ := by
  obtain ⟨hpending, hcanon, hwithin⟩ := h
  refine ⟨hpending, fun hb => ?_, fun hb => ?_⟩
  · obtain ⟨hregs, hzero, hmems, he⟩ := hcanon hb
    exact ⟨regsForm_nil.1, regsForm_nil.2, fun l => by cases l <;> exact ⟨rfl, rfl⟩, hemmc ▸ he⟩
  · obtain ⟨⟨hq, hev⟩, hf, hen, hfa, ha, hst⟩ := hwithin hb
    unfold WithinCapacity QueuesFit
    dsimp only
    rw [hqueue, hfires, hended, hfailed, harb]
    exact ⟨⟨Nat.zero_le _, hevents.trans hev⟩, Nat.zero_le _, Nat.zero_le _, Nat.zero_le _, Nat.zero_le _, hstandby.trans hst⟩

theorem memsWf_set {m : LaneMem} (l : Lane) (hd : memWf (s.mems.get l).dram = true → memWf m.dram = true)
    (hs : memWf (s.mems.get l).spad = true → memWf m.spad = true) (h : MemsWf s) :
    ∀ k : Lane, memWf ((s.mems.set l m).get k).dram = true ∧ memWf ((s.mems.set l m).get k).spad = true := by
  intro k
  by_cases e : k = l
  · subst e
    rw [get_set_self]
    exact ⟨hd (h k).1, hs (h k).2⟩
  · rw [get_set_ne _ _ _ _ e]
    exact h k

/-- A register write keeps the file canonical, and the reserved bits 0 (R8). -/
theorem keeps_setReg {k v} (h : Keeps b s) : Keeps b (setReg k v s) :=
  keeps_regs (fun hs => regsForm_putC k _ hs (by rw [BitVec.and_assoc, BitVec.and_self])) h

end


section
variable {b s : State}

theorem keeps_bumpBy {key n} (h : Keeps b s) : Keeps b (bumpBy key n s) :=
  keeps_setReg h

theorem keeps_bump {key} (h : Keeps b s) : Keeps b (bump key s) :=
  keeps_bumpBy h

theorem keeps_bumpLane {l off} (h : Keeps b s) : Keeps b (bumpLane l off s) :=
  keeps_bump h

theorem keeps_bumpAll {off} (h : Keeps b s) : Keeps b (bumpAll off s) :=
  keeps_bumpLane (keeps_bumpLane (keeps_bumpLane h))

theorem keeps_shadowWrite {key v} (h : Keeps b s) : Keeps b (shadowWrite key v s) := by
  unfold shadowWrite
  split
  · exact keeps_same h
  · exact keeps_ite (keeps_ite (keeps_bump (keeps_bump (keeps_same h))) (keeps_bump (keeps_same h))) (keeps_same h)

theorem keeps_shadowNext {key} (h : Keeps b s) : Keeps b (shadowNext key s) :=
  h

/-- Time changes no register, memory or list with a capacity. -/
theorem keeps_advance {dt} (h : Keeps b s) : Keeps b (advance dt s) := by
  refine keeps_same h (hemmc := ?_) (hevents := ?_)
  · dsimp only
    split <;> rfl
  · dsimp only
    split <;> rfl

theorem keeps_advanceTo {t} (h : Keeps b s) : Keeps b (advanceTo t s) :=
  keeps_ite h (keeps_advance h)

theorem keeps_toTb0 {ns} (h : Keeps b s) : Keeps b (toTb0 ns s) :=
  keeps_ite h (keeps_advance h)

theorem keeps_toTb2 {t} (h : Keeps b s) : Keeps b (toTb2 t s) :=
  keeps_ite h (keeps_advance h)

theorem keeps_fresh (h : Keeps b s) : Keeps b (fresh s).2 :=
  h

theorem keeps_send {m} (h : Keeps b s) : Keeps b (send m s) :=
  h

theorem keeps_setLane {l f} (h : Keeps b s) : Keeps b (State.setLane s l f) :=
  h

theorem keeps_assertAt {l id} (h : Keeps b s) : Keeps b (assertAt l id s) :=
  h

theorem keeps_raiseIrq {id} (h : Keeps b s) : Keeps b (raiseIrq id s) :=
  h

/-- The queue takes a request and the supervisor an event only where there is room (R494, R498). -/
theorem keeps_requestRec {q} (h : Keeps b s) : Keeps b (requestRec q s) := by
  unfold requestRec
  split
  · split
    next hroom =>
      refine keeps_capacity (fun hcap => ⟨⟨?_, hcap.1.2⟩, hcap.2⟩) h
      rw [List.length_append, List.length_singleton]
      omega
    next => exact keeps_ite (keeps_bump (keeps_same h)) (keeps_raiseIrq (keeps_bump (keeps_same h)))
  · split
    next hroom =>
      refine keeps_capacity (fun hcap => ⟨⟨hcap.1.1, ?_⟩, hcap.2⟩) h
      rw [List.length_append, List.length_singleton]
      omega
    next => exact keeps_same h

theorem keeps_setBase {n f} (h : Keeps b s) : Keeps b (setBase n f s) :=
  h

theorem keeps_putStored {index sub dflt v} (h : Keeps b s) : Keeps b (putStored index sub dflt v s) :=
  h

theorem keeps_setDEff {n v} (h : Keeps b s) : Keeps b (setDEff n v s) :=
  keeps_putStored h

theorem keeps_setRegAll {off v} (h : Keeps b s) : Keeps b (setRegAll off v s) :=
  keeps_ite (keeps_setReg (keeps_setReg (keeps_setReg h))) (keeps_setReg h)

theorem keeps_setRegs {off ws} (h : Keeps b s) : Keeps b (setRegs off ws s) :=
  keeps_foldl (fun _ _ h => keeps_setRegAll h) h

theorem keeps_loadOne {key b'} (h : Keeps b s) : Keeps b (loadOne key b' s) := by
  unfold loadOne
  refine keeps_ite (keeps_setRegs h) (keeps_ite (keeps_foldl (fun _ _ h => keeps_foldl (fun _ _ h => keeps_setReg h) h) h) (keeps_ite (keeps_setRegs
      h) (keeps_ite (keeps_foldl (fun _ _ h => keeps_setRegs h) h) (keeps_ite h ?_))))
  split
  · exact keeps_ite (keeps_setRegAll h) (keeps_ite (keeps_setRegs h) h)
  · exact h

theorem keeps_loadObjects (h : Keeps b s) : Keeps b (loadObjects s) :=
  keeps_foldl (fun _ _ h => keeps_loadOne h) (keeps_regs (regsForm_filter _) h)

theorem keeps_record {type items} (h : Keeps b s) : Keeps b (record type items s) := by
  unfold record
  split <;> exact keeps_requestRec h

theorem keeps_recordWith {type profile items} (h : Keeps b s) : Keeps b (recordWith type profile items s) :=
  keeps_requestRec h

theorem keeps_setLatch {lane core off vals} (h : Keeps b s) : Keeps b (setLatch lane core off vals s) :=
  h

theorem keeps_answer {l core v err} (h : Keeps b s) : Keeps b (answer l core v err s) :=
  keeps_setLane h

theorem keeps_answerAll {core v err} (h : Keeps b s) : Keeps b (answerAll core v err s) :=
  keeps_foldl (fun _ _ h => keeps_answer h) h

theorem keeps_passDone {a} (h : Keeps b s) : Keeps b (passDone a s) :=
  h

theorem memWf_wr {m : LaneMem} {addr bs} :
    (memWf m.dram = true → memWf (m.wr addr bs).dram = true) ∧ (memWf m.spad = true → memWf (m.wr addr bs).spad = true) := by
  unfold LaneMem.wr
  split
  · exact ⟨memWf_wrBytes _ _ _, id⟩
  · split
    · exact ⟨id, memWf_wrBytes _ _ _⟩
    · exact ⟨id, id⟩

theorem keeps_wrLane {l addr bs} (h : Keeps b s) : Keeps b (wrLane l addr bs s) :=
  keeps_mems (memsWf_set l memWf_wr.1 memWf_wr.2) h

theorem keeps_wrLanes {addr bs} (h : Keeps b s) : Keeps b (wrLanes addr bs s) :=
  keeps_foldl (fun _ _ h => keeps_wrLane h) h

theorem keeps_groupCause {g b' v} (h : Keeps b s) : Keeps b (groupCause g b' v s) :=
  h

theorem keeps_bothGroups {b' v} (h : Keeps b s) : Keeps b (bothGroups b' v s) :=
  keeps_groupCause (keeps_groupCause h)

theorem keeps_resolveOuts (h : Keeps b s) : Keeps b (resolveOuts s) :=
  keeps_when keeps_raiseIrq (keeps_bumpBy (keeps_bumpBy h))

theorem keeps_latchHold (h : Keeps b s) : Keeps b (latchHold s) :=
  h

theorem keeps_modeChanged {old} (h : Keeps b s) : Keeps b (modeChanged old s) :=
  keeps_ite h (keeps_raiseIrq (keeps_record (keeps_bump h)))

theorem keeps_abandonCycle (h : Keeps b s) : Keeps b (abandonCycle s) :=
  h

theorem keeps_modeCauses (h : Keeps b s) : Keeps b (modeCauses s) := by
  unfold modeCauses
  split
  · exact keeps_bothGroups (keeps_bothGroups h)
  · exact keeps_bothGroups (keeps_bothGroups h)
  · exact keeps_bothGroups (keeps_bothGroups h)
  · exact keeps_bothGroups (keeps_bothGroups h)
  · exact keeps_bothGroups (keeps_bothGroups h)
  · exact keeps_groupCause (keeps_groupCause h)
  · exact keeps_bothGroups h
  · exact keeps_bothGroups h

theorem keeps_setSync {v} (h : Keeps b s) : Keeps b (setSync v s) :=
  h

theorem keeps_pisteHold (h : Keeps b s) : Keeps b (pisteHold s) :=
  keeps_setSync h

/-- The path masks of the lane read 0, their reset value. -/
theorem keeps_resetLane {p l} (h : Keeps b s) : Keeps b (resetLane p l s) := by
  have hdi : regReset (Off.VOT_PATH_MASK_DI + 4 * l.idx) = 0 := by cases l <;> decide
  have hms : regReset (Off.VOT_PATH_MASK_MS + 4 * l.idx) = 0 := by cases l <;> decide
  refine keeps_regs (fun hs => ?_) h
  have h1 := regsForm_putC (Off.VOT_PATH_MASK_DI + 4 * l.idx) 0 hs (BitVec.zero_and)
  have h2 := regsForm_putC (Off.VOT_PATH_MASK_MS + 4 * l.idx) 0 h1 (BitVec.zero_and)
  rwa [hdi, hms] at h2

theorem keeps_abandonRejoins (h : Keeps b s) : Keeps b (abandonRejoins s) := by
  unfold abandonRejoins
  refine keeps_foldl (fun _ _ h => ?_) h
  split
  · exact keeps_setLane (keeps_resetLane h)
  · exact keeps_setLane (keeps_resetLane h)
  · exact keeps_setLane (keeps_resetLane h)
  · exact keeps_setLane (keeps_resetLane h)
  · exact keeps_setLane h
  · exact h

theorem keeps_setMode {m} (h : Keeps b s) : Keeps b (setMode m s) :=
  keeps_resolveOuts (keeps_modeChanged (keeps_modeCauses (keeps_ite (keeps_ite (keeps_same (keeps_same (keeps_ite (keeps_latchHold (keeps_pisteHold
    (keeps_abandonCycle (keeps_when keeps_abandonRejoins h)))) (keeps_when keeps_abandonRejoins h)))) (keeps_same (keeps_ite (keeps_latchHold
    (keeps_pisteHold (keeps_abandonCycle (keeps_when keeps_abandonRejoins h)))) (keeps_when keeps_abandonRejoins h)))) (keeps_same (keeps_ite
    (keeps_same (keeps_same (keeps_ite (keeps_latchHold (keeps_pisteHold (keeps_abandonCycle (keeps_when keeps_abandonRejoins h)))) (keeps_when
    keeps_abandonRejoins h)))) (keeps_same (keeps_ite (keeps_latchHold (keeps_pisteHold (keeps_abandonCycle (keeps_when keeps_abandonRejoins h))))
    (keeps_when keeps_abandonRejoins h))))))))

theorem keeps_addReason {r} (h : Keeps b s) : Keeps b (addReason r s) :=
  keeps_ite (keeps_modeChanged h) (keeps_setMode h)

theorem keeps_findReason {r} (h : Keeps b s) : Keeps b (findReason r s) :=
  keeps_ite h (keeps_addReason h)

theorem keeps_enterFound (h : Keeps b s) : Keeps b (enterFound s) :=
  keeps_ite h (keeps_setMode h)

theorem keeps_clearReason {r} (h : Keeps b s) : Keeps b (clearReason r s) :=
  keeps_ite (keeps_modeChanged h) h

theorem keeps_commitPage (h : Keeps b s) : Keeps b (commitPage s) :=
  keeps_ite h (keeps_ite h (keeps_when keeps_raiseIrq (keeps_bump h)))

theorem keeps_newRec {q same} (h : Keeps b s) : Keeps b (acceptOne.newRec q same s) :=
  keeps_bump (keeps_same (keeps_ite h (keeps_commitPage h)))

theorem keeps_acceptOne (h : Keeps b s) : Keeps b (acceptOne s) := by
  have htaken : ∀ q : RecReq, Keeps b { s with erec := { s.erec with queue := s.erec.queue.erase q, lost := false, tell := false } } := fun q =>
    keeps_capacity (fun hcap => ⟨⟨(List.length_erase_le).trans hcap.1.1, hcap.1.2⟩, hcap.2⟩) h
  unfold acceptOne
  split
  · exact h
  next q0 hq =>
    dsimp only
    split
    · exact keeps_ite (keeps_bump (keeps_same (keeps_when keeps_raiseIrq (htaken q0)))) (keeps_newRec (keeps_when keeps_raiseIrq (htaken q0)))
    · exact keeps_newRec (keeps_when keeps_raiseIrq (htaken q0))

theorem keeps_retireBlocks {n} (h : Keeps b s) : Keeps b (retireBlocks n s) :=
  keeps_ite h (keeps_raiseIrq (keeps_bumpBy h))

theorem keeps_acceptAll (h : Keeps b s) : Keeps b (acceptAll s) :=
  keeps_foldl (fun _ _ h => keeps_acceptOne h) h

theorem keeps_failSilent (h : Keeps b s) : Keeps b (failSilent s) := by
  have hcommitted := keeps_commitPage (keeps_acceptAll h)
  unfold failSilent
  generalize commitPage (acceptAll s) = s1 at hcommitted
  have hregs : Keeps b { s1 with regs := s1.regs.filter fun r => !(decide (Off.PST_STAMP ≤ r.1) && decide (r.1 < 0x50000)) } :=
    keeps_regs (regsForm_filter _) hcommitted
  refine keeps_ite h (keeps_abandonCycle (keeps_capacity (fun hcap => ?_) hregs))
  obtain ⟨hq, hfires, hrest⟩ := hcap
  exact ⟨hq, Nat.zero_le _, hrest⟩

theorem keeps_markExclusion {l c} (h : Keeps b s) : Keeps b (markExclusion l c s) :=
  h

/-- A lane without power holds no byte. -/
theorem keeps_unpowerLane {l} (h : Keeps b s) : Keeps b (unpowerLane l s) :=
  keeps_mems (memsWf_set l (fun _ => rfl) (fun _ => rfl)) h

theorem keeps_wipeLane {l cause} (h : Keeps b s) : Keeps b (wipeLane l cause s) :=
  keeps_ite h (keeps_when keeps_unpowerLane (keeps_record (keeps_bumpLane
    (keeps_mems (memsWf_set l id (memWf_filter _ _)) h))))

theorem keeps_excludeLane {l c} (h : Keeps b s) : Keeps b (excludeLane l c s) :=
  keeps_ite h (keeps_ite (keeps_failSilent (keeps_record h)) (keeps_ite (keeps_setMode (keeps_raiseIrq (keeps_when keeps_record (keeps_record
    (keeps_bump (keeps_wipeLane (keeps_resetLane (keeps_markExclusion h)))))))) (keeps_raiseIrq (keeps_when keeps_record (keeps_record (keeps_bump
    (keeps_wipeLane (keeps_resetLane (keeps_markExclusion h)))))))))

theorem keeps_noMajority {stream seq} (h : Keeps b s) : Keeps b (noMajority stream seq s) :=
  keeps_failSilent (keeps_record h)

theorem keeps_outvote {l c stream seq} (h : Keeps b s) : Keeps b (outvote l c stream seq s) :=
  keeps_ite (keeps_noMajority h) (keeps_excludeLane h)

theorem keeps_minority {l safety c stream seq} (h : Keeps b s) : Keeps b (minority l safety c stream seq s) :=
  keeps_ite h (keeps_ite (keeps_ite (keeps_outvote (keeps_setLane h)) (keeps_setLane h)) (keeps_ite (keeps_outvote (keeps_setLane h)) (keeps_setLane
    h)))

theorem keeps_showMinority {l stream kind addr seq late} (h : Keeps b s) : Keeps b (showMinority l stream kind addr seq late s) :=
  keeps_record (keeps_raiseIrq (keeps_setReg (keeps_setReg (keeps_bump h))))

theorem keeps_minorityEvent {l stream kind addr seq late safety} (h : Keeps b s) : Keeps b (minorityEvent l stream kind addr seq late safety s) :=
  keeps_minority (keeps_showMinority h)

theorem keeps_oddMinority {stream off} (h : Keeps b s) : Keeps b (oddMinority stream off s) :=
  keeps_ite (keeps_noMajority h) (keeps_foldl (fun _ _ h => keeps_minorityEvent h) h)

theorem keeps_skewEvent {l} (h : Keeps b s) : Keeps b (skewEvent l s) :=
  keeps_ite (keeps_excludeLane (keeps_raiseIrq (keeps_bump (keeps_setLane h)))) (keeps_raiseIrq (keeps_bump (keeps_setLane h)))

theorem keeps_windowOfAccess {l out} (h : Keeps b s) : Keeps b (windowOfAccess l out s) :=
  keeps_ite (keeps_skewEvent h) (keeps_setLane h)

theorem keeps_excludeLate {ls} (h : Keeps b s) : Keeps b (excludeLate ls s) :=
  keeps_ite h (keeps_ite (keeps_failSilent (keeps_foldl (fun _ _ h => keeps_record h) h)) (keeps_foldl (fun _ _ h => keeps_excludeLane h) h))

theorem keeps_hubFail (h : Keeps b s) : Keeps b (hubFail s) :=
  keeps_ite (keeps_failSilent (keeps_record h)) h

theorem keeps_findCommand (h : Keeps b s) : Keeps b (findCommand s) :=
  keeps_when keeps_findReason h

theorem keeps_findKept (h : Keeps b s) : Keeps b (findKept s) :=
  keeps_when keeps_findReason (keeps_when keeps_findReason h)

theorem keeps_endStartUp (h : Keeps b s) : Keeps b (endStartUp s) :=
  keeps_enterFound (keeps_findCommand (keeps_findKept h))

theorem keeps_cycReject {lanes cause} (h : Keeps b s) : Keeps b (cycReject lanes cause s) :=
  keeps_raiseIrq (keeps_foldl (fun _ _ h => h) h)

theorem keeps_commitOne {c x} (h : Keeps b s) : Keeps b (commitOne c x s) :=
  keeps_shadowNext (keeps_ite (keeps_same (keeps_ite (keeps_setReg h) (keeps_cycReject h))) (keeps_ite (keeps_setReg h) (keeps_cycReject h)))

theorem keeps_commitBoundary {u} (h : Keeps b s) : Keeps b (commitBoundary u s) :=
  keeps_foldl (fun _ _ h => keeps_commitOne h) h

theorem keeps_resetWipes (h : Keeps b s) : Keeps b (resetWipes s) :=
  keeps_foldl (fun _ _ h => keeps_requestRec h) h

theorem keeps_sessionEvent {x opened} (h : Keeps b s) : Keeps b (sessionEvent x opened s) :=
  keeps_raiseIrq (keeps_record h)

theorem keeps_endSessions {p} (h : Keeps b s) : Keeps b (endSessions p s) :=
  keeps_foldl (fun _ _ h => keeps_sessionEvent h) h

theorem keeps_flushRecords (h : Keeps b s) : Keeps b (flushRecords s) :=
  keeps_ite h (keeps_commitPage (keeps_acceptAll h))

theorem keeps_restart {cause} (h : Keeps b s) : Keeps b (restart cause s) := by
  have hflushed := keeps_flushRecords (keeps_when (c := s.up) (f := endSessions fun _ => true) keeps_endSessions h)
  unfold restart
  generalize flushRecords (when s.up (endSessions fun _ => true) s) = s1 at hflushed
  exact keeps_anew hflushed

theorem keeps_bootEntered {old} (h : Keeps b s) : Keeps b (bootEntered old s) :=
  keeps_modeChanged h

theorem keeps_moduleReset {cause} (h : Keeps b s) : Keeps b (moduleReset cause s) :=
  keeps_bootEntered (keeps_resetWipes (keeps_restart h))

theorem keeps_setCulvert {l f} (h : Keeps b s) : Keeps b (setCulvert l f s) := by
  unfold setCulvert
  split
  · exact keeps_same h
  · exact keeps_same h
  · exact h

theorem keeps_linkSend {l type code tag addr len payload} (h : Keeps b s) : Keeps b (linkSend l type code tag addr len payload s) :=
  keeps_send (keeps_setCulvert h)

theorem keeps_linkTake {l p} (h : Keeps b s) : Keeps b (linkTake l p s) :=
  keeps_send (keeps_setCulvert h)

theorem keeps_onPacket {l p f} (hf : ∀ t, Keeps b t → Keeps b (f t)) (h : Keeps b s) : Keeps b (onPacket l p f s) :=
  keeps_ite (hf _ (keeps_linkTake h)) h

theorem keeps_answerStream {stream err data} (h : Keeps b s) : Keeps b (answerStream stream err data s) :=
  h

theorem keeps_readReturns {stream err data} (h : Keeps b s) : Keeps b (readReturns stream err data s) :=
  keeps_answerStream (keeps_foldl (fun _ _ h => keeps_answer h) h)

theorem keeps_nextTag {l} (h : Keeps b s) : Keeps b (nextTag l s) :=
  keeps_setCulvert h

theorem keeps_countFailed {stream} (h : Keeps b s) : Keeps b (countFailed stream s) :=
  h

theorem keeps_dmaStop {c err} (h : Keeps b s) : Keeps b (dmaStop c err s) :=
  keeps_ite (keeps_raiseIrq (keeps_bump h)) h

/-- The failure FIFO takes an entry only where there is room (R445). -/
theorem keeps_failWrite {l w code} (h : Keeps b s) : Keeps b (failWrite l w code s) := by
  have hfifo : ∀ e : Fail, s.brg.fifo.length < 16 → Keeps b { s with brg := { s.brg with fifo := s.brg.fifo ++ [e], lost := false } } := by
    intro e hroom
    refine keeps_capacity (fun hcap => ?_) h
    obtain ⟨hq, hfires, hended, hfailed, hrest⟩ := hcap
    refine ⟨hq, hfires, hended, ?_, hrest⟩
    rw [List.length_append, List.length_singleton]
    omega
  have hdma : ∀ (d : Option Nat) t, Keeps b t → Keeps b ((match d with | some c => dmaStop c 3 | none => id) t) := by
    intro d t ht
    cases d with
    | none => exact ht
    | some c => exact keeps_dmaStop ht
  unfold failWrite
  refine hdma w.dma _ (keeps_when keeps_readReturns (keeps_when keeps_countFailed (keeps_record (keeps_raiseIrq (keeps_bump ?_)))))
  split
  · exact keeps_raiseIrq (keeps_bump (keeps_same h))
  next hroom => exact hfifo _ (by simpa using hroom)

theorem keeps_failLocally {l w code} (h : Keeps b s) : Keeps b (failLocally l w code s) :=
  keeps_failWrite (keeps_setCulvert h)

theorem keeps_linkWrite {l remote stream lanes dma data} (h : Keeps b s) : Keeps b (linkWrite l remote stream lanes dma data s) :=
  keeps_ite h (keeps_ite (keeps_failLocally (keeps_nextTag h)) (keeps_ite (keeps_failLocally (keeps_nextTag h)) (keeps_linkSend (keeps_setCulvert
    (keeps_nextTag h)))))

theorem keeps_windowWrite {stream lanes addr data} (h : Keeps b s) : Keeps b (windowWrite stream lanes addr data s) := by
  unfold windowWrite
  split
  · exact keeps_ite (keeps_linkWrite h) h
  · exact h

theorem keeps_execBridgeWrite {stream lanes addr data corrupt} (h : Keeps b s) : KeepsOut b (execBridgeWrite stream lanes addr data corrupt s) :=
  keepsOut_next (keeps_ite (keeps_hubFail h) (keeps_windowWrite h))

theorem keeps_execNpWrite {stream lanes addr data} (h : Keeps b s) : KeepsOut b (execNpWrite stream lanes addr data s) :=
  keepsOut_next (keeps_windowWrite h)

theorem keeps_writeAck {l tag} (h : Keeps b s) : Keeps b (writeAck l tag s) := by
  unfold writeAck
  refine keeps_ite (keeps_bump h) ?_
  split
  · exact keeps_when keeps_readReturns (keeps_setCulvert h)
  · exact keeps_setCulvert h

theorem keeps_writeError {l tag code} (h : Keeps b s) : Keeps b (writeError l tag code s) := by
  unfold writeError
  refine keeps_ite (keeps_bump h) ?_
  split
  · exact keeps_failWrite (keeps_setCulvert h)
  · exact h

theorem keeps_ackExpiry {l tag} (h : Keeps b s) : Keeps b (ackExpiry l tag s) := by
  unfold ackExpiry
  split
  · exact keeps_failLocally (keeps_setCulvert (keeps_advanceTo h))
  · exact h

theorem keeps_execLinkAck {l p} (h : Keeps b s) : KeepsOut b (execLinkAck l p s) :=
  keepsOut_next (keeps_ite (keeps_setCulvert h) h)

theorem keeps_failRead {r} (h : Keeps b s) : Keeps b (failRead r s) := by
  unfold failRead
  split
  · exact keeps_dmaStop h
  · exact keeps_readReturns h

theorem keeps_failAll {l} (h : Keeps b s) : Keeps b (failAll l s) :=
  keeps_foldl (fun _ _ h => keeps_failRead h) (keeps_foldl (fun _ _ h => keeps_failLocally h) (keeps_setCulvert h))

theorem keeps_linkState {l v} (h : Keeps b s) : Keeps b (linkState l v s) :=
  keeps_ite h (keeps_when keeps_failAll (keeps_when keeps_bump (keeps_raiseIrq (keeps_setCulvert h))))

theorem keeps_linkResend {l seq} (h : Keeps b s) : Keeps b (linkResend l seq s) := by
  unfold linkResend
  split
  · exact keeps_ite (keeps_send (keeps_bump (keeps_setCulvert (keeps_advanceTo h)))) (keeps_linkState (keeps_advanceTo h))
  · exact h

theorem keeps_brgFenceOp {stream} (h : Keeps b s) : Keeps b (brgFenceOp stream s) :=
  keeps_ite h (keeps_answerAll (keeps_answerStream h))

theorem keeps_execBrgFenceRead {stream} (h : Keeps b s) : KeepsOut b (execBrgFenceRead stream s) :=
  keepsOut_next (keeps_when keeps_brgFenceOp h)

theorem keeps_sendRead {l remote len stream dma} (h : Keeps b s) : Keeps b (sendRead l remote len stream dma s) :=
  keeps_linkSend (keeps_setCulvert (keeps_nextTag h))

theorem keeps_windowRead {stream addr len} (h : Keeps b s) : Keeps b (windowRead stream addr len s) := by
  unfold windowRead
  split
  · exact keeps_ite h (keeps_ite (keeps_readReturns h) (keeps_sendRead h))
  · exact h

theorem keeps_execBridgeRead {stream addr len} (h : Keeps b s) : KeepsOut b (execBridgeRead stream addr len s) :=
  keepsOut_next (keeps_when keeps_windowRead h)

theorem keeps_exhaust {l r} (h : Keeps b s) : Keeps b (exhaust l r s) :=
  keeps_record (keeps_raiseIrq (keeps_bump (keeps_failRead (keeps_setCulvert h))))

theorem keeps_retryOp {l tag} (h : Keeps b s) : Keeps b (retryOp l tag s) := by
  unfold retryOp
  split
  · exact keeps_ite (keeps_exhaust h) (keeps_setCulvert h)
  · exact keeps_setCulvert h

theorem keeps_execRetry {l p} (h : Keeps b s) : KeepsOut b (execRetry l p s) :=
  keepsOut_next (keeps_onPacket (fun _ h => keeps_when keeps_retryOp h) h)

theorem keeps_repeatOp {l tag} (h : Keeps b s) : Keeps b (repeatOp l tag s) := by
  unfold repeatOp
  split
  · exact keeps_ite (keeps_linkSend (keeps_setCulvert (keeps_advanceTo h))) (keeps_exhaust (keeps_advanceTo h))
  · split
    · exact keeps_linkSend (keeps_setCulvert (keeps_advanceTo h))
    · exact h

theorem keeps_execRdReqRepeat {l tag} (h : Keeps b s) : KeepsOut b (execRdReqRepeat l tag s) :=
  keepsOut_next (keeps_when keeps_repeatOp h)

theorem keeps_execUnsupported {l p} (h : Keeps b s) : KeepsOut b (execUnsupported l p s) := by
  unfold execUnsupported
  refine keepsOut_next (keeps_onPacket (fun _ h => keeps_when (fun h => ?_) h) h)
  split
  · exact keeps_failRead (keeps_setCulvert h)
  · exact keeps_writeError h

theorem keeps_xwriteByte {a b'} (h : Keeps b s) : Keeps b (xwriteByte a b' s) :=
  keeps_setReg h

theorem keeps_dropFetches {a n} (h : Keeps b s) : Keeps b (dropFetches a n s) :=
  keeps_setCulvert (keeps_setCulvert h)

theorem keeps_xwrite {a bs} (h : Keeps b s) : Keeps b (xwrite a bs s) :=
  keeps_dropFetches (keeps_foldl (fun _ _ h => keeps_xwriteByte h) h)

theorem keeps_sendRetry {l p} (h : Keeps b s) : Keeps b (sendRetry l p s) :=
  keeps_linkSend (keeps_bump h)

theorem keeps_execInboundRdReq {l p} (h : Keeps b s) : KeepsOut b (execInboundRdReq l p s) := by
  unfold execInboundRdReq
  refine keepsOut_next (keeps_onPacket (fun _ h => keeps_when (fun h => keeps_ite (keeps_linkSend h) ?_) h) h)
  split
  · split
    · exact keeps_linkSend h
    · exact keeps_sendRetry h
  · exact keeps_ite (keeps_sendRetry (keeps_setCulvert h)) (keeps_sendRetry (keeps_bump h))

theorem keeps_execFetchComplete {l addr len} (h : Keeps b s) : KeepsOut b (execFetchComplete l addr len s) :=
  keepsOut_next (keeps_when keeps_setCulvert h)

theorem keeps_execFetchHoldExpiry {l addr len} (h : Keeps b s) : KeepsOut b (execFetchHoldExpiry l addr len s) := by
  unfold execFetchHoldExpiry
  refine keepsOut_next (keeps_when (fun h => ?_) h)
  split
  · exact keeps_bump (keeps_setCulvert (keeps_advanceTo h))
  · exact h

theorem keeps_execInboundWrite {l p} (h : Keeps b s) : KeepsOut b (execInboundWrite l p s) :=
  keepsOut_next (keeps_onPacket (fun _ h => keeps_when (fun h => keeps_ite (keeps_linkSend h) (keeps_ite (keeps_sendRetry (keeps_bump h))
    (keeps_linkSend (keeps_xwrite (keeps_setCulvert h))))) h) h)

theorem keeps_failHeadOp {core} (h : Keeps b s) : Keeps b (failHeadOp core s) := by
  unfold failHeadOp
  split
  · exact keeps_answerAll (keeps_setLatch h)
  next e rest hfifo =>
    refine keeps_answerAll (keeps_setLatch (keeps_capacity (fun hcap => ?_) h))
    obtain ⟨hq, hfires, hended, hfailed, hrest⟩ := hcap
    rw [hfifo] at hfailed
    exact ⟨hq, hfires, hended, Nat.le_of_succ_le hfailed, hrest⟩

theorem keeps_execBrgFailHeadRead {core} (h : Keeps b s) : KeepsOut b (execBrgFailHeadRead core s) :=
  keepsOut_next (keeps_when keeps_failHeadOp h)

theorem keeps_setDma {c f} (h : Keeps b s) : Keeps b (setDma c f s) :=
  h

theorem keeps_dmaReject {c cause} (h : Keeps b s) : Keeps b (dmaReject c cause s) :=
  keeps_raiseIrq (keeps_bump (keeps_setDma h))

theorem keeps_dmaMinority {ls} (h : Keeps b s) : Keeps b (dmaMinority ls s) :=
  keeps_foldl (fun _ _ h => keeps_minorityEvent h) h

theorem keeps_dmaNoMajority {c} (h : Keeps b s) : Keeps b (dmaNoMajority c s) :=
  keeps_dmaStop (keeps_record h)

theorem keeps_dmaRequest {c} (h : Keeps b s) : Keeps b (dmaRequest c s) :=
  keeps_ite (keeps_ite (keeps_dmaStop h) (keeps_sendRead h)) h

theorem keeps_dmaFetch {c addr} (h : Keeps b s) : Keeps b (dmaFetch c addr s) := by
  unfold dmaFetch
  refine keeps_ite (keeps_dmaStop (keeps_setDma h)) ?_
  split
  · exact keeps_dmaNoMajority (keeps_setDma h)
  · exact keeps_ite (keeps_dmaRequest (keeps_dmaMinority (keeps_setDma (keeps_setDma h)))) (keeps_dmaStop (keeps_dmaMinority (keeps_setDma
      (keeps_setDma h))))

theorem keeps_dmaRun {c} (h : Keeps b s) : Keeps b (dmaRun c s) :=
  keeps_dmaFetch (keeps_setDma h)

theorem keeps_dmaCmd {c op key} (h : Keeps b s) : Keeps b (dmaCmd c op key s) :=
  keeps_ite (keeps_dmaReject h) (keeps_ite (keeps_dmaReject h) (keeps_ite (keeps_dmaReject h) (keeps_ite (keeps_ite (keeps_dmaReject h) (keeps_dmaRun
    h)) (keeps_ite (keeps_setDma h) h))))

theorem keeps_execDmaCmdStart {c key} (h : Keeps b s) : KeepsOut b (execDmaCmdStart c key s) :=
  keepsOut_next (keeps_when keeps_dmaCmd h)

theorem keeps_execDmaCmdAbort {c key} (h : Keeps b s) : KeepsOut b (execDmaCmdAbort c key s) :=
  keepsOut_next (keeps_when keeps_dmaCmd h)

theorem keeps_dmaBursts {c l addr bs n} (h : Keeps b s) : Keeps b (dmaBursts c l addr bs n s).2 := by
  induction n generalizing addr bs s with
  | zero => exact h
  | succ n ih =>
    unfold dmaBursts
    split
    · exact h
    · dsimp only
      split
      · exact ih (keeps_linkWrite h)
      · exact keeps_linkWrite h

theorem keeps_dmaWrite {c kind addr o bs} (h : Keeps b s) : Keeps b (dmaWrite c kind addr o bs s).2 := by
  unfold dmaWrite
  split
  · exact keeps_wrLanes h
  · exact keeps_dmaBursts h
  · exact keeps_dmaBursts h
  · refine keeps_form (fun hform => ?_) h
    obtain ⟨hcanon, hzero, hmems, hemmc⟩ := hform
    exact ⟨⟨hcanon, hzero⟩, hmems, memWf_wrBytes _ _ _ hemmc⟩
  · exact keeps_xwrite h
  · exact h

theorem keeps_countBytes {n} (h : Keeps b s) : Keeps b (countBytes n s) :=
  keeps_setReg (keeps_setReg h)

theorem keeps_dmaFinish {c} (h : Keeps b s) : Keeps b (dmaFinish c s) :=
  keeps_raiseIrq (keeps_setDma h)

theorem keeps_dmaPut {c bs} (h : Keeps b s) : Keeps b (dmaPut c bs s) :=
  keeps_setDma (keeps_countBytes (keeps_dmaWrite h))

theorem keeps_dmaNext {c} (h : Keeps b s) : Keeps b (dmaNext c s) :=
  keeps_ite h (keeps_ite (keeps_dmaRequest h) (keeps_ite h (keeps_ite (keeps_dmaFinish (keeps_when keeps_raiseIrq h)) (keeps_dmaFetch (keeps_when
    keeps_raiseIrq h)))))

theorem keeps_dmaArrives {c bs} (h : Keeps b s) : Keeps b (dmaArrives c bs s) :=
  keeps_ite h (keeps_ite (keeps_dmaNext (keeps_dmaPut h)) (keeps_setDma h))

theorem keeps_dmaMove {c n} (h : Keeps b s) : Keeps b (dmaMove c n s) :=
  keeps_when keeps_dmaNoMajority (keeps_same (keeps_dmaMinority (keeps_dmaPut h)))

theorem keeps_dmaDone {c error moved} (h : Keeps b s) : Keeps b (dmaDone c error moved s) :=
  keeps_ite h (keeps_ite (keeps_when keeps_dmaStop h) (keeps_ite (keeps_dmaStop (keeps_ite (keeps_ite h (keeps_dmaPut h)) (keeps_dmaMove h)))
    (keeps_dmaNext (keeps_ite (keeps_ite h (keeps_dmaPut h)) (keeps_dmaMove h)))))

theorem keeps_execDmaDescriptorDone {c error moved corrupt} (h : Keeps b s) : KeepsOut b (execDmaDescriptorDone c error moved corrupt s) := by
  refine keepsOut_next (keeps_when (fun h => ?_) h)
  split
  · exact keeps_hubFail h
  · exact keeps_dmaDone h

theorem keeps_execRdData {l p corrupt} (h : Keeps b s) : KeepsOut b (execRdData l p corrupt s) := by
  refine keepsOut_next (keeps_onPacket (fun _ h => keeps_when (fun h => keeps_ite (keeps_hubFail h) ?_) h) h)
  split
  next r _ =>
    cases r.dma with
    | some c => exact keeps_dmaArrives (keeps_setCulvert h)
    | none => exact keeps_readReturns (keeps_setCulvert h)
  next => exact h

theorem keeps_setEntry {n w v} (h : Keeps b s) : Keeps b (setEntry n w v s) :=
  keeps_setReg h

theorem keeps_setStatus {n state result cause fires} (h : Keeps b s) : Keeps b (setStatus n state result cause fires s) :=
  keeps_setEntry h

theorem keeps_setArmed {n f} (h : Keeps b s) : Keeps b (setArmed n f s) :=
  h

theorem keeps_dropArmed {n} (h : Keeps b s) : Keeps b (dropArmed n s) :=
  h

theorem keeps_actTarget {n sync t v} (h : Keeps b s) : Keeps b (actTarget n sync t v s) :=
  h

theorem keeps_settleEdge (h : Keeps b s) : Keeps b (settleEdge s) :=
  keeps_ite h (keeps_resolveOuts (keeps_setSync (keeps_when (fun h => keeps_raiseIrq (keeps_bump h)) h)))

theorem keeps_startPulse {n sync t ns} (h : Keeps b s) : Keeps b (startPulse n sync t ns s) :=
  h

theorem keeps_actLost (h : Keeps b s) : Keeps b (actLost s) :=
  keeps_raiseIrq (keeps_bump h)

theorem keeps_releaseBuffer {b'} (h : Keeps b s) : Keeps b (releaseBuffer b' s) := by
  unfold releaseBuffer
  split
  · exact keeps_ite (keeps_same h) (keeps_actLost h)
  · exact keeps_actLost h

theorem keeps_performAction {n result} (h : Keeps b s) : Keeps b (performAction n result s) := by
  unfold performAction
  dsimp only
  split
  · exact keeps_actTarget h
  · exact keeps_actTarget h
  · exact keeps_startPulse (keeps_actTarget h)
  · exact keeps_actTarget h
  · exact keeps_actTarget h
  · exact keeps_startPulse (keeps_actTarget h)
  · exact keeps_ite (keeps_actLost h) (keeps_raiseIrq h)
  · exact keeps_ite (keeps_actLost (keeps_dmaReject h)) (keeps_dmaRun h)
  · exact keeps_releaseBuffer h
  · exact keeps_recordWith h
  · exact h

/-- The fire FIFO takes an entry only where there is room (R193). -/
theorem keeps_pushFire {n result} (h : Keeps b s) : Keeps b (pushFire n result s) := by
  unfold pushFire
  split
  · exact keeps_actLost (keeps_same h)
  next hroom =>
    refine keeps_when keeps_raiseIrq (keeps_capacity (fun hcap => ?_) h)
    refine ⟨hcap.1, ?_, hcap.2.2⟩
    rw [List.length_append, List.length_singleton]
    omega

theorem keeps_advanceTrig {n} (h : Keeps b s) : Keeps b (advanceTrig n s) :=
  keeps_ite (keeps_setEntry (keeps_setEntry h)) (keeps_ite (keeps_setEntry (keeps_setEntry h)) (keeps_setEntry h))

theorem keeps_endOccurrence {n final result cause} (h : Keeps b s) : Keeps b (endOccurrence n final result cause s) :=
  keeps_when keeps_pushFire (keeps_ite (keeps_setArmed (keeps_setStatus h)) (keeps_dropArmed (keeps_setStatus h)))

theorem keeps_skipOccurrence {n cause} (h : Keeps b s) : Keeps b (skipOccurrence n cause s) :=
  keeps_endOccurrence (keeps_raiseIrq (keeps_bump h))

theorem keeps_fireEntry {n result} (h : Keeps b s) : Keeps b (fireEntry n result s) :=
  keeps_ite (keeps_endOccurrence (keeps_raiseIrq (keeps_bump h))) (keeps_endOccurrence (keeps_when keeps_raiseIrq (keeps_when keeps_bump (keeps_when
    keeps_bump (keeps_bump (keeps_setStatus (keeps_performAction h)))))))

theorem keeps_dropWaiting {n} (h : Keeps b s) : Keeps b (dropWaiting n s) := by
  unfold dropWaiting
  split
  · exact keeps_ite (keeps_skipOccurrence h) h
  · exact h

theorem keeps_compared {n} (h : Keeps b s) : Keeps b (compared n s) :=
  keeps_setArmed h

theorem keeps_occurrence {n result jumpSkip} (h : Keeps b s) : Keeps b (occurrence n result jumpSkip s) :=
  keeps_ite (keeps_skipOccurrence (keeps_when (fun h => keeps_compared (keeps_advanceTrig h)) (keeps_setReg (keeps_dropWaiting h)))) (keeps_ite
    (keeps_fireEntry (keeps_when (fun h => keeps_compared (keeps_advanceTrig h)) (keeps_setReg (keeps_dropWaiting h)))) (keeps_ite (keeps_when
    keeps_pushFire (keeps_setStatus (keeps_setArmed (keeps_when (fun h => keeps_compared (keeps_advanceTrig h)) (keeps_setReg (keeps_dropWaiting
    h)))))) (keeps_skipOccurrence (keeps_when (fun h => keeps_compared (keeps_advanceTrig h)) (keeps_setReg (keeps_dropWaiting h))))))

theorem keeps_pisteStep {b' old} (h : Keeps b s) : Keeps b (pisteStep b' old s) :=
  keeps_ite (keeps_settleEdge (keeps_foldl (fun _ _ h => keeps_occurrence h) h)) h

theorem keeps_waitFire {n} (h : Keeps b s) : Keeps b (waitFire n s) :=
  keeps_when keeps_fireEntry h

theorem keeps_updateEntry {jump n} (h : Keeps b s) : Keeps b (updateEntry jump n s) := by
  unfold updateEntry
  split
  · exact h
  · exact keeps_ite (keeps_setArmed h) (keeps_ite (keeps_compared (keeps_setArmed h)) (keeps_ite (keeps_occurrence (keeps_when keeps_bump
      (keeps_compared (keeps_setArmed h)))) (keeps_occurrence (keeps_compared (keeps_setArmed h)))))

theorem keeps_updateArmed {jump n} (h : Keeps b s) : Keeps b (updateArmed jump n s) :=
  keeps_when keeps_updateEntry (keeps_waitFire (keeps_setArmed h))

theorem keeps_pisteBefore (h : Keeps b s) : Keeps b (pisteBefore s) :=
  keeps_ite (keeps_settleEdge (keeps_foldl (fun _ _ h => keeps_updateEntry h) h)) h

theorem keeps_pisteUpdate {jump} (h : Keeps b s) : Keeps b (pisteUpdate jump s) :=
  keeps_ite (keeps_settleEdge (keeps_foldl (fun _ _ h => keeps_updateArmed h) h)) h

theorem keeps_phaseEntry {n} (h : Keeps b s) : Keeps b (phaseEntry n s) :=
  keeps_ite (keeps_compared h) (keeps_ite (keeps_bump (keeps_compared h)) (keeps_occurrence (keeps_compared h)))

theorem keeps_pistePhase (h : Keeps b s) : Keeps b (pistePhase s) :=
  keeps_ite (keeps_settleEdge (keeps_foldl (fun _ _ h => keeps_phaseEntry h) h)) h

theorem keeps_suspendBelow (h : Keeps b s) : Keeps b (suspendBelow s) :=
  h

theorem keeps_armEntry {n} (h : Keeps b s) : Keeps b (armEntry n s).2 :=
  keeps_ite_snd h (keeps_ite_snd (keeps_setStatus h) (keeps_ite_snd (keeps_ite_snd (keeps_occurrence (keeps_compared (keeps_setStatus h)))
    (keeps_raiseIrq (keeps_bump (keeps_setStatus h)))) (keeps_compared (keeps_setStatus h))))

theorem keeps_armList {ns} (h : Keeps b s) : Keeps b (armList ns s).2 := by
  induction ns generalizing s with
  | nil => exact h
  | cons n ns ih => exact ih (keeps_armEntry h)

theorem keeps_disarm {n} (h : Keeps b s) : Keeps b (disarm n s) :=
  keeps_ite (keeps_setStatus (keeps_dropArmed h)) (keeps_setStatus h)

theorem keeps_pstResult {r} (h : Keeps b s) : Keeps b (pstResult r s) :=
  keeps_raiseIrq (keeps_setReg h)

theorem keeps_pstCmdOp {v} (h : Keeps b s) : Keeps b (pstCmdOp v s) := by
  unfold pstCmdOp
  dsimp only
  split
  · exact keeps_pstResult (keeps_settleEdge (keeps_armList h))
  · exact keeps_pstResult (keeps_disarm h)
  · exact keeps_pstResult (keeps_settleEdge (keeps_armList h))
  · exact keeps_pstResult (keeps_foldl (fun _ _ h => keeps_disarm h) h)
  · exact keeps_pstResult (keeps_foldl (fun _ _ h => keeps_disarm h) h)
  · exact keeps_pstResult h

theorem keeps_entryWordOp {n w v} (h : Keeps b s) : Keeps b (entryWordOp n w v s) :=
  keeps_ite h (keeps_ite (keeps_bump h) (keeps_setEntry h))

theorem keeps_syncCommitted {old} (h : Keeps b s) : Keeps b (syncCommitted old s) :=
  h

theorem keeps_setClass {c} (h : Keeps b s) : Keeps b (setClass c s) :=
  keeps_ite h (keeps_raiseIrq (keeps_suspendBelow h))

theorem keeps_gradeOwn (h : Keeps b s) : Keeps b (gradeOwn s) :=
  keeps_setClass h

theorem keeps_setSensor {n f} (h : Keeps b s) : Keeps b (setSensor n f s) :=
  h

theorem keeps_sensorTo {n v} (h : Keeps b s) : Keeps b (sensorTo n v s) :=
  keeps_setSensor h

theorem keeps_faultSensor {n cause} (h : Keeps b s) : Keeps b (faultSensor n cause s) :=
  keeps_ite (keeps_setSensor h) (keeps_raiseIrq (keeps_record (keeps_bump (keeps_sensorTo (keeps_setSensor h)))))

theorem keeps_sensorEnables (h : Keeps b s) : Keeps b (sensorEnables s) :=
  keeps_foldl (fun _ _ h => keeps_ite (keeps_sensorTo h) (keeps_ite (keeps_sensorTo h) h)) h

theorem keeps_phaseEdge {n onB} (h : Keeps b s) : Keeps b (phaseEdge n onB s) :=
  keeps_when keeps_faultSensor (keeps_when keeps_faultSensor (keeps_setSensor h))

theorem keeps_phaseStrobe {n onB e} (h : Keeps b s) : Keeps b (phaseStrobe n onB e s) :=
  keeps_when keeps_faultSensor (keeps_foldl (fun _ _ h => keeps_phaseEdge h) (keeps_setSensor h))

theorem keeps_odoExtrapolate {dt} (h : Keeps b s) : Keeps b (odoExtrapolate dt s) :=
  keeps_gradeOwn h

theorem keeps_takeAligned (h : Keeps b s) : Keeps b (takeAligned s) := by
  unfold takeAligned
  split
  · exact h
  · exact keeps_pisteUpdate (keeps_odoExtrapolate (keeps_same h))

theorem keeps_odoRestore {page takeover} (h : Keeps b s) : Keeps b (odoRestore page takeover s) :=
  keeps_ite (keeps_ite (keeps_setClass (keeps_foldl (fun _ _ h => keeps_ite h (keeps_setDEff h)) h)) (keeps_gradeOwn (keeps_foldl (fun _ _ h =>
    keeps_ite h (keeps_setDEff h)) h))) h

theorem keeps_cmdResult3 {key state cause} (h : Keeps b s) : Keeps b (fixStatus.cmdResult3 key state cause s) :=
  keeps_setReg h

theorem keeps_fixStatus {state cause} (h : Keeps b s) : Keeps b (fixStatus state cause s) :=
  keeps_ite (keeps_setReg h) (keeps_cmdResult3 h)

theorem keeps_fixReject {cause} (h : Keeps b s) : Keeps b (fixReject cause s) :=
  keeps_raiseIrq (keeps_bump (keeps_fixStatus h))

theorem keeps_fixSubmitOp {pos time accSrc cmd} (h : Keeps b s) : Keeps b (fixSubmitOp pos time accSrc cmd s) :=
  keeps_ite (keeps_fixReject h) (keeps_ite (keeps_fixReject h) (keeps_ite (keeps_fixReject h) (keeps_fixStatus h)))

theorem keeps_diamCal {p0 t0 d0 p1 k} (h : Keeps b s) : Keeps b (diamCal p0 t0 d0 p1 k s) :=
  keeps_ite (keeps_foldl (fun _ _ h => keeps_ite (keeps_bump (keeps_setDEff h)) h) h) h

theorem keeps_fixAccept {f corr forced} (h : Keeps b s) : Keeps b (fixAccept f corr forced s) := by
  unfold fixAccept
  refine keeps_pisteUpdate (keeps_record (keeps_raiseIrq (keeps_when keeps_bump (keeps_bump (keeps_fixStatus (keeps_setReg (keeps_gradeOwn (keeps_same
      ?_))))))))
  split
  · exact keeps_ite (keeps_diamCal (keeps_pisteBefore h)) (keeps_pisteBefore h)
  · exact keeps_pisteBefore h

theorem keeps_fixProcessOp (h : Keeps b s) : Keeps b (fixProcessOp s) := by
  unfold fixProcessOp
  split
  · exact h
  · exact keeps_ite (keeps_fixReject (keeps_same h)) (keeps_ite (keeps_fixReject (keeps_same h)) (keeps_ite (keeps_fixReject (keeps_same
      h)) (keeps_ite (keeps_ite (keeps_fixAccept (keeps_same h)) (keeps_fixReject (keeps_same h))) (keeps_ite (keeps_fixAccept (keeps_same
      h)) (keeps_ite (keeps_fixAccept (keeps_same h)) (keeps_fixReject (keeps_setReg (keeps_same (keeps_same h)))))))))

theorem keeps_lockChange {v} (h : Keeps b s) : Keeps b (lockChange v s) :=
  keeps_ite h (keeps_record (keeps_raiseIrq (keeps_when keeps_bump h)))

theorem keeps_chansCommitted (h : Keeps b s) : Keeps b (chansCommitted s) :=
  h

theorem keeps_domainCommitted {old} (h : Keeps b s) : Keeps b (domainCommitted old s) := by
  have hdiams := keeps_foldl (f := fun s n => setDEff n (s.reg (Off.ODO_DIAM + 4 * n)).toNat s)
    (l := (List.range 4).filter fun n => old.shadows.any fun x => x.key == Off.ODO_DIAM + 4 * n) (fun _ _ h => keeps_setDEff h) h
  unfold domainCommitted
  dsimp only
  exact keeps_when keeps_lockChange (keeps_when keeps_lockChange (keeps_chansCommitted (keeps_sensorEnables
    (keeps_ite (keeps_setClass (keeps_same hdiams)) hdiams))))

theorem keeps_setServo {n l f} (h : Keeps b s) : Keeps b (setServo n l f s) :=
  keeps_setBase h

theorem keeps_stepBase {n d} (h : Keeps b s) : Keeps b (stepBase n d s) :=
  keeps_pisteStep (keeps_record (keeps_raiseIrq (keeps_bumpAll (keeps_when (keeps_same) (keeps_setBase h)))))

theorem keeps_applyOut {n o} (h : Keeps b s) : Keeps b (applyOut n o s) := by
  unfold applyOut
  split
  · exact keeps_stepBase h
  · exact keeps_ite (keeps_foldl (fun _ _ h => keeps_when keeps_setBase h) (keeps_setBase h)) (keeps_setBase h)

theorem keeps_putVote {v} (h : Keeps b s) : Keeps b (putVote v s) :=
  h

theorem keeps_judgeOut {v t m x} (h : Keeps b s) : Keeps b (judgeOut v t m x s) :=
  keeps_when keeps_minorityEvent (keeps_windowOfAccess h)

theorem keeps_decideTb {n} (h : Keeps b s) : Keeps b (decideTb n s) := by
  unfold decideTb
  split
  · exact h
  · dsimp only
    split
    · exact keeps_foldl (fun _ _ h => keeps_judgeOut h) (keeps_applyOut (keeps_putVote h))
    · exact keeps_ite (keeps_noMajority h) h

theorem keeps_pruneTb (h : Keeps b s) : Keeps b (pruneTb s) :=
  h

theorem keeps_decideAllTb {n} (h : Keeps b s) : Keeps b (decideAllTb n s) :=
  keeps_pruneTb (keeps_foldl (fun _ _ h => keeps_ite h (keeps_decideTb h)) h)

theorem keeps_issue {n l o} (h : Keeps b s) : Keeps b (issue n l o s) := by
  have hs := keeps_setServo (n := n) (l := l) (f := fun v => { v with issued := (s.servo n l).issued + 1 }) h
  unfold issue
  dsimp only
  split
  · exact hs
  · split
    · split
      · exact keeps_pruneTb (keeps_judgeOut (keeps_putVote hs))
      · exact keeps_decideAllTb (keeps_putVote hs)
    · exact keeps_decideAllTb (keeps_same hs)

theorem keeps_settleTb (h : Keeps b s) : Keeps b (settleTb s) :=
  keeps_foldl (fun _ _ h => keeps_decideAllTb h) h

theorem keeps_tbLimit {n} (h : Keeps b s) : Keeps b (tbLimit n s) := by
  unfold tbLimit
  split
  · exact keeps_excludeLate (keeps_advanceTo h)
  · exact h

theorem keeps_stateWatch {n f} (hf : ∀ t, Keeps b t → Keeps b (f t)) (h : Keeps b s) : Keeps b (stateWatch n f s) :=
  keeps_when keeps_record (hf _ h)

theorem keeps_issueRate {n l v} (h : Keeps b s) : Keeps b (issueRate n l v s) :=
  keeps_ite h (keeps_issue h)

theorem keeps_toServo {n l v} (h : Keeps b s) : Keeps b (toServo n l v s) :=
  keeps_ite h (keeps_when keeps_issueRate (keeps_when keeps_issueRate (keeps_when (fun h => keeps_assertAt (keeps_bumpLane h)) (keeps_assertAt
    (keeps_setServo h)))))

theorem keeps_clamped {n l} (h : Keeps b s) : Keeps b (clamped n l s) :=
  keeps_assertAt (keeps_bumpLane h)

theorem keeps_servoLock {n l thr e} (h : Keeps b s) : Keeps b (servoLock n l thr e s) :=
  keeps_ite (keeps_toServo (keeps_setServo h)) (keeps_ite (keeps_toServo (keeps_setServo h)) (keeps_setServo h))

theorem keeps_noteInput {n l e} (h : Keeps b s) : Keeps b (noteInput n l e s) :=
  keeps_setServo h

theorem keeps_slew {n l e dt} (h : Keeps b s) : Keeps b (slew n l e dt s) :=
  keeps_issueRate (keeps_servoLock (keeps_when keeps_clamped (keeps_when keeps_clamped (keeps_setServo h))))

theorem keeps_laneInput {n e l} (h : Keeps b s) : Keeps b (laneInput n e l s) := by
  unfold laneInput
  refine keeps_ite h (keeps_ite (keeps_assertAt (keeps_bumpLane (keeps_setServo h))) ?_)
  split
  · exact keeps_when keeps_issue (keeps_noteInput (keeps_toServo h))
  · refine keeps_ite (keeps_issue (keeps_setServo (keeps_noteInput (keeps_when keeps_toServo h)))) ?_
    split
    · exact keeps_when keeps_slew (keeps_noteInput (keeps_when keeps_toServo h))
    · exact keeps_noteInput (keeps_when keeps_toServo h)

theorem keeps_servoInput {n e} (h : Keeps b s) : Keeps b (servoInput n e s) :=
  keeps_stateWatch (fun _ h => keeps_foldl (fun _ _ h => keeps_laneInput h) h) h

theorem keeps_atDue {n d f} (hf : ∀ x0 t, Keeps b t → Keeps b (f x0 t)) (h : Keeps b s) : Keeps b (atDue n d f s) := by
  unfold atDue
  split
  · exact h
  · refine keeps_stateWatch (fun _ h => keeps_foldl (fun _ _ h => ?_) h) (keeps_toTb2 h)
    split
    · exact keeps_when (hf _ _) h
    · exact h

theorem keeps_holdEnter {n} (h : Keeps b s) : Keeps b (holdEnter n s) :=
  keeps_atDue (fun _ _ h => keeps_toServo (keeps_setServo h)) h

theorem keeps_holdLimit {n} (h : Keeps b s) : Keeps b (holdLimit n s) :=
  keeps_atDue (fun _ _ h => keeps_toServo h) h

theorem keeps_servoModes (h : Keeps b s) : Keeps b (servoModes s) :=
  keeps_foldl (fun _ _ h => keeps_foldl (fun _ _ h => keeps_when keeps_issueRate h) h) (keeps_foldl (fun _ _ h => keeps_stateWatch (fun _ h =>
    keeps_foldl (fun _ _ h => keeps_when keeps_toServo h) h) h) h)

theorem keeps_nextSeq {slot} (h : Keeps b s) : Keeps b (nextSeq slot s).2 :=
  h

theorem keeps_ownFrame {kind slot dest tx obj sub info released payload} (h : Keeps b s) : Keeps b (ownFrame kind slot dest tx obj sub info released
    payload s).2 :=
  h

theorem keeps_setLink {p f} (h : Keeps b s) : Keeps b (setLink p f s) :=
  h

theorem keeps_setPort {p f} (h : Keeps b s) : Keeps b (setPort p f s) :=
  h

theorem keeps_sendChan {chanB f} (h : Keeps b s) : Keeps b (sendChan chanB f s) :=
  keeps_ite (keeps_when keeps_send h) h

theorem keeps_sendBoth {f} (h : Keeps b s) : Keeps b (sendBoth f s) :=
  keeps_sendChan (keeps_sendChan h)

theorem keeps_sendStar {p f} (h : Keeps b s) : Keeps b (sendStar p f s) :=
  keeps_ite h (keeps_ite (keeps_send h) (keeps_raiseIrq (keeps_bump h)))

theorem keeps_sendStars {mask f} (h : Keeps b s) : Keeps b (sendStars mask f s) :=
  keeps_foldl (fun _ _ h => keeps_ite (keeps_sendStar h) h) h

/-- The arbitrating queue takes a frame only where there is room (R235). -/
theorem keeps_queueArb {f} (h : Keeps b s) : Keeps b (queueArb f s) := by
  unfold queueArb
  split
  next hroom =>
    refine keeps_capacity (fun hcap => ?_) h
    obtain ⟨hq, hfires, hended, hfailed, harb, hstandby⟩ := hcap
    refine ⟨hq, hfires, hended, hfailed, ?_, hstandby⟩
    rw [List.length_append, List.length_singleton]
    omega
  next => exact keeps_raiseIrq (keeps_bump h)

theorem keeps_suSet {v} (h : Keeps b s) : Keeps b (suSet v s) :=
  h

theorem keeps_integrate (h : Keeps b s) : Keeps b (integrate s) :=
  keeps_ite (keeps_endStartUp (keeps_takeAligned (keeps_raiseIrq (keeps_bump h)))) (keeps_takeAligned (keeps_raiseIrq (keeps_bump h)))

theorem keeps_toListen (h : Keeps b s) : Keeps b (toListen s) :=
  h

theorem keeps_loseIntegration {cause} (h : Keeps b s) : Keeps b (loseIntegration cause s) :=
  keeps_ite (keeps_record (keeps_raiseIrq (keeps_bump (keeps_toListen h)))) h

theorem keeps_collision (h : Keeps b s) : Keeps b (collision s) := by
  have hcounted := keeps_raiseIrq (id := Irq.FTN_COLLISION) (keeps_bump (key := Off.FTN_SU_COLLISIONS) h)
  unfold collision
  generalize raiseIrq Irq.FTN_COLLISION (bump Off.FTN_SU_COLLISIONS s) = s1 at hcounted
  exact keeps_ite (keeps_same hcounted) (keeps_toListen (keeps_same hcounted))

theorem keeps_enterColdstart (h : Keeps b s) : Keeps b (enterColdstart s) :=
  keeps_raiseIrq (keeps_bump h)

theorem keeps_takeRoles (h : Keeps b s) : Keeps b (takeRoles s) :=
  keeps_when keeps_raiseIrq (keeps_when keeps_bump (keeps_when keeps_bump h))

theorem keeps_cpErrors (h : Keeps b s) : Keeps b (cpErrors s) := by
  unfold cpErrors
  generalize mkWord _ = errors
  exact keeps_same h

theorem keeps_tb0Input {e} (h : Keeps b s) : Keeps b (tb0Input e s) :=
  keeps_ite (keeps_loseIntegration (keeps_foldl (fun _ _ h => keeps_setServo h) (keeps_servoInput h))) (keeps_servoInput h)

theorem keeps_powerDown {m} (h : Keeps b s) : Keeps b (powerDown m s) := by
  have hflushed := keeps_flushRecords h
  unfold powerDown
  generalize flushRecords s = s1 at hflushed
  exact keeps_anew hflushed

theorem keeps_cmdResult {key state cause} (h : Keeps b s) : Keeps b (cmdResult key state cause s) :=
  keeps_setReg h

theorem keeps_startTime (h : Keeps b s) : Keeps b (startTime s) :=
  keeps_setReg h

theorem keeps_afterVerify (h : Keeps b s) : Keeps b (afterVerify s) :=
  keeps_ite (keeps_setMode (keeps_same (keeps_setReg h))) (keeps_when keeps_startTime (keeps_endStartUp h))

theorem keeps_chkUpdate (h : Keeps b s) : Keeps b (chkUpdate s) :=
  keeps_when keeps_raiseIrq (keeps_when keeps_raiseIrq h)

theorem keeps_chkResult {state cause} (h : Keeps b s) : Keeps b (chkResult state cause s) :=
  keeps_raiseIrq (keeps_when keeps_bump (keeps_cmdResult h))

theorem keeps_sendRecord {r} (h : Keeps b s) : Keeps b (sendRecord r s) :=
  keeps_ite (keeps_linkSend h) h

theorem keeps_setHalf {h' m} (h : Keeps b s) : Keeps b (setHalf h' m s) :=
  keeps_ite h h

theorem keeps_seeClaim {c u} (h : Keeps b s) : Keeps b (seeClaim c u s) :=
  keeps_ite h h

theorem keeps_startResync (h : Keeps b s) : Keeps b (startResync s) :=
  keeps_raiseIrq (keeps_bump h)

theorem keeps_resyncIfDue (h : Keeps b s) : Keeps b (resyncIfDue s) := by
  unfold resyncIfDue
  refine keeps_ite ?_ h
  split
  · exact keeps_ite (keeps_startResync h) h
  · exact keeps_startResync h

theorem keeps_takeClaim {n} (h : Keeps b s) : Keeps b (takeClaim n s) :=
  keeps_ite (keeps_addReason h) (keeps_chkUpdate (keeps_resyncIfDue (keeps_raiseIrq (keeps_send (keeps_seeClaim h)))))

theorem keeps_toStandby (h : Keeps b s) : Keeps b (toStandby s) := by
  have hdown := keeps_powerDown (m := .standby) (keeps_setMode (m := .standby) (s :=
    { s with sys := { s.sys with startDone := false }, isl := { s.isl with wakeArmed := s.reg Off.SYS_WAKE_CFG &&& 0xFF#32 } }) (keeps_same h))
  unfold toStandby
  dsimp only
  generalize powerDown _ _ = s2 at hdown ⊢
  exact keeps_send (keeps_same hdown)

theorem keeps_loseClaim (h : Keeps b s) : Keeps b (loseClaim s) :=
  keeps_ite h (keeps_ite (keeps_ite (keeps_toStandby (keeps_chkUpdate (keeps_record (keeps_raiseIrq (keeps_bump (keeps_send h)))))) (keeps_addReason
    (keeps_chkUpdate (keeps_record (keeps_raiseIrq (keeps_bump (keeps_send h))))))) (keeps_chkUpdate (keeps_record (keeps_raiseIrq (keeps_bump
    (keeps_send h))))))

theorem keeps_proceedActive {watch} (h : Keeps b s) : Keeps b (proceedActive watch s) :=
  keeps_ite (keeps_takeClaim h) (keeps_ite (keeps_takeClaim h) (keeps_afterVerify (keeps_takeClaim h)))

theorem keeps_decideRole (h : Keeps b s) : Keeps b (decideRole s) :=
  keeps_ite (keeps_ite (keeps_ite (keeps_toStandby h) (keeps_sendRecord h)) (keeps_proceedActive h)) (keeps_afterVerify h)

theorem keeps_queueClaim {kind dest} (h : Keeps b s) : Keeps b (queueClaim kind dest s) :=
  keeps_queueArb h

theorem keeps_sendPages {half set ps} (h : Keeps b s) : Keeps b (sendPages half set ps s) := by
  induction ps generalizing s with
  | nil => exact h
  | cons p ps ih =>
    unfold sendPages
    split
    · exact h
    · exact ih (keeps_when (fun h => keeps_bump (keeps_sendRecord h)) (keeps_same h))

theorem keeps_programInit (h : Keeps b s) : Keeps b (programInit s) :=
  h

theorem keeps_makeCut {regions} (h : Keeps b s) : Keeps b (makeCut regions s) := by
  unfold makeCut
  dsimp only
  split
  · exact keeps_sendPages (keeps_bump (keeps_same (keeps_same h)))
  · exact keeps_sendPages (keeps_when keeps_sendRecord (keeps_setHalf (keeps_same (keeps_same h))))

theorem keeps_completeSet (h : Keeps b s) : Keeps b (completeSet s) := by
  unfold completeSet
  split
  · exact h
  · exact keeps_chkUpdate (keeps_bump (keeps_same (keeps_when keeps_sendRecord (keeps_setHalf h))))

theorem keeps_keepAlive {reason} (h : Keeps b s) : Keeps b (keepAlive reason s) :=
  keeps_ite (keeps_sendRecord h) h

/-- Of the standby's events the last 16 are kept. -/
theorem keeps_standbyEvent {code set} (h : Keeps b s) : Keeps b (standbyEvent code set s) := by
  refine keeps_capacity (fun hcap => ?_) h
  obtain ⟨hq, hfires, hended, hfailed, harb, hstandby⟩ := hcap
  refine ⟨hq, hfires, hended, hfailed, harb, ?_⟩
  rw [List.length_reverse]
  exact List.length_take_le _ _

theorem keeps_armUpdate (h : Keeps b s) : Keeps b (armUpdate s) :=
  keeps_ite h (keeps_standbyEvent (keeps_send h))

theorem keeps_recognise (h : Keeps b s) : Keeps b (recognise s) := by
  unfold recognise
  split
  · exact keeps_ite (keeps_bootEntered (keeps_same (keeps_restart (keeps_standbyEvent h)))) h
  · exact h

theorem keeps_discardSet {i} (h : Keeps b s) : Keeps b (discardSet i s) :=
  keeps_armUpdate (keeps_standbyEvent (keeps_same (keeps_ite (keeps_setHalf h) h)))

theorem keeps_compareFail {what} (h : Keeps b s) : Keeps b (compareFail what s) :=
  keeps_ite (keeps_when keeps_failSilent (keeps_record (keeps_bump (keeps_raiseIrq h)))) h

theorem keeps_setDi {n f} (h : Keeps b s) : Keeps b (setDi n f s) :=
  h

theorem keeps_setGroup {g f} (h : Keeps b s) : Keeps b (setGroup g f s) :=
  h

theorem keeps_setOut {n f} (h : Keeps b s) : Keeps b (setOut n f s) :=
  h

theorem keeps_tripLatch {r} (h : Keeps b s) : Keeps b (tripLatch r s) :=
  keeps_record (keeps_raiseIrq (keeps_bump (keeps_when keeps_groupCause (keeps_when keeps_groupCause h))))

theorem keeps_tripEval (h : Keeps b s) : Keeps b (tripEval s) :=
  keeps_ite h (keeps_resolveOuts (keeps_foldl (fun _ _ h => keeps_tripLatch h) h))

theorem keeps_stale10 {p} (h : Keeps b s) : Keeps b (stale10 p s) :=
  h

theorem keeps_tripUnlatch {cfg r} (h : Keeps b s) : Keeps b (tripUnlatch cfg r s) :=
  keeps_resolveOuts (keeps_when keeps_stale10 (keeps_when keeps_groupCause (keeps_when keeps_groupCause h)))

theorem keeps_dioResult {cause} (h : Keeps b s) : Keeps b (dioResult cause s) :=
  keeps_raiseIrq (keeps_when keeps_bump (keeps_cmdResult h))

theorem keeps_dioFenced (h : Keeps b s) : Keeps b (dioFenced s) :=
  keeps_bump h

theorem keeps_reenable {g all} (h : Keeps b s) : Keeps b (reenable g all s) :=
  keeps_resolveOuts (keeps_when keeps_stale10 (keeps_setGroup h))

theorem keeps_autoReenable (h : Keeps b s) : Keeps b (autoReenable s) :=
  keeps_foldl (fun _ _ h => keeps_when keeps_reenable h) h

theorem keeps_reenableOp {g} (h : Keeps b s) : Keeps b (reenableOp g s) :=
  keeps_dioResult (keeps_when keeps_reenable h)

theorem keeps_tripResetOp {r} (h : Keeps b s) : Keeps b (tripResetOp r s) :=
  keeps_dioResult (keeps_when keeps_tripUnlatch h)

theorem keeps_clearFaultOp {n gone} (h : Keeps b s) : Keeps b (clearFaultOp n gone s) :=
  keeps_dioResult (keeps_resolveOuts (keeps_setOut h))

theorem keeps_clearFaultReq {n} (h : Keeps b s) : Keeps b (clearFaultReq n s) :=
  keeps_clearFaultOp h

theorem keeps_hostOp {g v} (h : Keeps b s) : Keeps b (hostOp g v s) :=
  keeps_dioResult (keeps_resolveOuts (keeps_groupCause h))

theorem keeps_ctrlCmdOp {v} (h : Keeps b s) : Keeps b (ctrlCmdOp v s) := by
  unfold ctrlCmdOp
  refine keeps_ite (keeps_dioResult h) (keeps_ite (keeps_dioResult h) (keeps_ite (keeps_dioResult h) (keeps_ite (keeps_dioResult (keeps_dioFenced h))
      ?_)))
  split
  · exact keeps_clearFaultReq h
  · exact keeps_reenableOp h
  · exact keeps_tripResetOp h
  · exact keeps_hostOp h
  · exact keeps_hostOp h

theorem keeps_silenceOp {n} (h : Keeps b s) : Keeps b (silenceOp n s) :=
  keeps_resolveOuts (keeps_when (fun h => keeps_record (keeps_raiseIrq h)) (keeps_bump (keeps_setOut h)))

theorem keeps_silenceCheck (h : Keeps b s) : Keeps b (silenceCheck s) := by
  unfold silenceCheck
  refine keeps_foldl (fun _ _ h => ?_) h
  split
  · exact keeps_ite (keeps_silenceOp h) h
  · exact h

theorem keeps_refreshOuts {p} (h : Keeps b s) : Keeps b (refreshOuts p s) :=
  h

theorem keeps_outCmdOp {v} (h : Keeps b s) : Keeps b (outCmdOp v s) :=
  keeps_ite (keeps_dioFenced h) (keeps_resolveOuts (keeps_refreshOuts (keeps_setReg h)))

theorem keeps_dioImage {img} (h : Keeps b s) : Keeps b (dioImage img s) :=
  keeps_ite (keeps_bumpBy h) (keeps_foldl (fun _ _ h => keeps_tripResetOp h) (keeps_foldl (fun _ _ h => keeps_reenableOp h) (keeps_foldl (fun _ _ h =>
    keeps_clearFaultReq h) (keeps_resolveOuts (keeps_refreshOuts (h))))))

theorem keeps_releaseImage {i} (h : Keeps b s) : Keeps b (releaseImage i s) :=
  keeps_raiseIrq (keeps_setReg (keeps_resolveOuts (keeps_dioImage (keeps_when keeps_bothGroups h))))

theorem keeps_sourceCheck (h : Keeps b s) : Keeps b (sourceCheck s) :=
  keeps_ite h (keeps_cycReject h)

theorem keeps_setCyc {l f} (h : Keeps b s) : Keeps b (setCyc l f s) :=
  h

theorem keeps_ocReject {l cause cmd} (h : Keeps b s) : Keeps b (ocReject l cause cmd s) :=
  keeps_when keeps_assertAt (keeps_bumpLane (keeps_setCyc h))

theorem keeps_ocStageOp {l hi} (h : Keeps b s) : Keeps b (ocStageOp l hi s) :=
  keeps_ite (keeps_ocReject (keeps_setReg h)) (keeps_ite (keeps_ocReject (keeps_setReg h)) (keeps_setCyc (keeps_setReg h)))

theorem keeps_ocCommitOp {l key} (h : Keeps b s) : Keeps b (ocCommitOp l key s) :=
  keeps_ite (keeps_ocReject h) (keeps_ite (keeps_ocReject h) (keeps_ite (keeps_ocReject h) (keeps_ite (keeps_ocReject h) (keeps_setCyc h))))

theorem keeps_ocDiscardOp {l key} (h : Keeps b s) : Keeps b (ocDiscardOp l key s) :=
  keeps_ite (keeps_ocReject h) (keeps_setCyc h)

theorem keeps_ocCmdOp {l v} (h : Keeps b s) : Keeps b (ocCmdOp l v s) := by
  unfold ocCmdOp
  split
  · exact keeps_ocCommitOp h
  · exact keeps_ocDiscardOp h
  · exact keeps_ocReject h

theorem keeps_ocApply {l} (h : Keeps b s) : Keeps b (ocApply l s) := by
  unfold ocApply
  dsimp only
  split
  · exact keeps_ite (keeps_when keeps_record (keeps_assertAt (keeps_bumpLane (keeps_setCyc (keeps_same h))))) h
  · exact h

theorem keeps_frcReject {l cause cmd} (h : Keeps b s) : Keeps b (frcReject l cause cmd s) :=
  keeps_when keeps_assertAt (keeps_bumpLane (keeps_setCyc h))

theorem keeps_frcStageOp {l hi} (h : Keeps b s) : Keeps b (frcStageOp l hi s) :=
  keeps_ite (keeps_frcReject (keeps_setReg h)) (keeps_ite (keeps_frcReject (keeps_setReg h)) (keeps_ite (keeps_frcReject (keeps_setReg h)) (keeps_setCyc
    (keeps_setReg h))))

theorem keeps_frcCommitOp {l key} (h : Keeps b s) : Keeps b (frcCommitOp l key s) :=
  keeps_ite (keeps_frcReject h) (keeps_ite (keeps_frcReject h) (keeps_ite (keeps_frcReject h) (keeps_ite (keeps_frcReject h) (keeps_ite (keeps_frcReject
    h) (keeps_setCyc h)))))

theorem keeps_frcDiscardOp {l key} (h : Keeps b s) : Keeps b (frcDiscardOp l key s) :=
  keeps_ite (keeps_frcReject h) (keeps_setCyc h)

theorem keeps_frcCmdOp {l v} (h : Keeps b s) : Keeps b (frcCmdOp l v s) := by
  unfold frcCmdOp
  split
  · exact keeps_frcCommitOp h
  · exact keeps_frcDiscardOp h
  · exact keeps_frcReject h

theorem keeps_frcApply {l} (h : Keeps b s) : Keeps b (frcApply l s) := by
  unfold frcApply
  dsimp only
  split
  · exact keeps_ite (keeps_when keeps_record (keeps_assertAt (keeps_bumpLane (keeps_setCyc (keeps_same h))))) h
  · exact h

theorem keeps_applyBatches (h : Keeps b s) : Keeps b (applyBatches s) :=
  keeps_foldl (fun _ _ h => keeps_ocApply h) (keeps_foldl (fun _ _ h => keeps_frcApply h) h)

theorem keeps_setOverlap (h : Keeps b s) : Keeps b (setOverlap s) :=
  keeps_foldl (fun _ _ h => keeps_setReg h) h

theorem keeps_matrixHook (h : Keeps b s) : Keeps b (matrixHook s) :=
  keeps_sourceCheck (keeps_foldl (fun _ _ h => keeps_setReg h) (keeps_setOverlap h))

theorem keeps_stationFell {rank was t} (h : Keeps b s) : Keeps b (stationFell rank was t s) :=
  keeps_ite (keeps_record (keeps_bumpAll h)) h

/-- The freeze writes the memories and the blocks' marks; no register. -/
theorem keeps_inputFreeze (h : Keeps b s) : Keeps b (inputFreeze s) := by
  unfold inputFreeze
  extract_lets l len loc sts nInv fell tb2 delta hdr tab s1 s2 s3 s4 s5
  have h1 : Keeps b s1 := keeps_when keeps_raiseIrq (keeps_foldl (fun _ _ h => keeps_stationFell h) h)
  have h2 : Keeps b s2 := keeps_foldl (fun _ _ h => keeps_wrLanes h) h1
  have h3 : Keeps b s3 := keeps_when keeps_wrLanes h2
  have h4 : Keeps b s4 := keeps_wrLanes (keeps_wrLanes h3)
  have h5 : Keeps b s5 :=
    keeps_foldl (fun _ _ h => keeps_foldl (fun _ _ h => keeps_foldl (fun _ _ h => keeps_wrLane h) h) h) h4
  clear_value s5
  exact keeps_raiseIrq (keeps_same h5)

theorem keeps_clearCycleMarks (h : Keeps b s) : Keeps b (clearCycleMarks s) :=
  h

theorem keeps_countMatch (h : Keeps b s) : Keeps b (countMatch s) := by
  unfold countMatch
  refine keeps_ite ?_ h
  split
  · exact keeps_same h
  · exact keeps_ite (keeps_integrate (keeps_same h)) (keeps_same h)

theorem keeps_countMidpoints (h : Keeps b s) : Keeps b (countMidpoints s) :=
  keeps_ite (keeps_ite (keeps_loseIntegration h) h) h

theorem keeps_restoreLink {p} (h : Keeps b s) : Keeps b (restoreLink p s) := by
  unfold restoreLink
  dsimp only
  split
  · exact keeps_ite (keeps_ite (keeps_raiseIrq (keeps_bump (keeps_setLink h))) (keeps_setLink h)) h
  · exact h

theorem keeps_clusterStart (h : Keeps b s) : Keeps b (clusterStart s) :=
  keeps_ite (keeps_sourceCheck (keeps_cpErrors (keeps_commitBoundary (keeps_restoreLink (keeps_restoreLink (keeps_restoreLink (keeps_restoreLink
    (keeps_countMatch (keeps_countMidpoints h))))))))) (keeps_restoreLink (keeps_restoreLink (keeps_restoreLink (keeps_restoreLink (keeps_countMatch
    (keeps_countMidpoints h))))))

theorem keeps_sendColdstart (h : Keeps b s) : Keeps b (sendColdstart s) :=
  keeps_bump (keeps_sendBoth h)

theorem keeps_coldCycle (h : Keeps b s) : Keeps b (coldCycle s) := by
  unfold coldCycle
  refine keeps_ite ?_ h
  split
  · exact keeps_sendColdstart (keeps_same h)
  · exact keeps_ite (keeps_same h) (keeps_sendColdstart h)

theorem keeps_setCycle {n} (h : Keeps b s) : Keeps b { s with ftn := { s.ftn with cycle := n } } := keeps_same h

theorem keeps_execBasicCycleStart (h : Keeps b s) : KeepsOut b (execBasicCycleStart s) := by
  refine keepsOut_next (keeps_when (fun h => ?_) h)
  exact keeps_coldCycle (keeps_takeRoles (keeps_when keeps_clusterStart (keeps_setCycle (keeps_clearCycleMarks (keeps_toTb0 h)))))

theorem keeps_setTxBuf {b' v} (h : Keeps b s) : Keeps b (setTxBuf b' v s) :=
  h

theorem keeps_emitOwn {e f} (h : Keeps b s) : Keeps b (emitOwn e f s) :=
  keeps_bump (keeps_when keeps_sendStars (keeps_sendBoth h))

theorem keeps_sendNull {i e tx reason} (h : Keeps b s) : Keeps b (sendNull i e tx reason s) :=
  keeps_when keeps_record (keeps_when keeps_raiseIrq (keeps_bump (keeps_emitOwn (h))))

theorem keeps_sendData {i e tx} (h : Keeps b s) : Keeps b (sendData i e tx s) := by
  unfold sendData
  split
  · split
    · exact keeps_emitOwn (keeps_same (keeps_same h))
    · exact keeps_same h
  · exact keeps_when keeps_raiseIrq (keeps_setTxBuf (keeps_emitOwn (keeps_same (keeps_same h))))
  · exact keeps_emitOwn (keeps_same (keeps_same (keeps_same h)))

theorem keeps_execFrameBuild {i bufferError corrupt} (h : Keeps b s) : KeepsOut b (execFrameBuild i bufferError corrupt s) := by
  unfold execFrameBuild
  refine keepsOut_next ?_
  split
  · exact h
  · split
    · exact h
    next n tx _ =>
      have h1 := keeps_toTb0 (ns := tx - 2000) h
      dsimp only
      exact keeps_ite h (keeps_ite (keeps_hubFail h1) (keeps_ite (keeps_ite (keeps_emitOwn (keeps_ownFrame h1)) h)
        (keeps_ite (keeps_ite (keeps_sendData h1) (keeps_sendNull h1)) h)))

theorem keeps_checkFailed {cnt} (h : Keeps b s) : Keeps b (checkFailed cnt s) := by
  have h1 := keeps_bump (key := cnt) h
  unfold checkFailed
  generalize bump cnt s = s1 at h1 ⊢
  exact keeps_ite h1 (keeps_raiseIrq (keeps_same h1))

theorem keeps_keepSeq {chanB edge f} (h : Keeps b s) : Keeps b (keepSeq chanB edge f s) :=
  h

theorem keeps_useCopy {j v} (h : Keeps b s) : Keeps b (useCopy j v s) :=
  h

theorem keeps_missMatch (h : Keeps b s) : Keeps b (missMatch s) :=
  h

theorem keeps_heardSync (h : Keeps b s) : Keeps b (heardSync s) :=
  keeps_when (keeps_same) h

theorem keeps_checkCycle {f} (h : Keeps b s) : Keeps b (checkCycle f s) :=
  keeps_when keeps_missMatch h

theorem keeps_align {f d} (h : Keeps b s) : Keeps b (align f d s) :=
  keeps_tb0Input h

theorem keeps_syncCopy {chanB first f stamp} (h : Keeps b s) : Keeps b (syncCopy chanB first f stamp s) := by
  unfold syncCopy
  refine keeps_ite (keeps_when (fun h => keeps_raiseIrq (keeps_bump (keeps_when keeps_missMatch h))) (keeps_when (fun h => keeps_checkCycle
      (keeps_heardSync h)) h)) (keeps_ite (keeps_collision (keeps_when (fun h => keeps_checkCycle (keeps_heardSync h)) h)) ?_)
  split
  · exact keeps_when (fun h => keeps_checkCycle (keeps_heardSync h)) h
  · refine keeps_ite (keeps_align (keeps_when (fun h => keeps_checkCycle (keeps_heardSync h)) h)) (keeps_ite (keeps_when (fun h => keeps_checkCycle
      (keeps_heardSync h)) h) ?_)
    split
    · exact keeps_useCopy (keeps_when (fun h => keeps_checkCycle (keeps_heardSync h)) h)
    · exact keeps_when (fun h => keeps_checkCycle (keeps_heardSync h)) h

theorem keeps_lineTime {f} (h : Keeps b s) : Keeps b (lineTime f s) :=
  keeps_when keeps_servoInput h

theorem keeps_setRx {r} (h : Keeps b s) : Keeps b (setRx r s) :=
  h

theorem keeps_setRxBuf {b' v} (h : Keeps b s) : Keeps b (setRxBuf b' v s) :=
  h

theorem keeps_forward {port f} (h : Keeps b s) : Keeps b (forward port f s) :=
  keeps_ite (keeps_ite h (keeps_send h)) (keeps_sendChan h)

theorem keeps_finishArb {tx f} (h : Keeps b s) : Keeps b (finishArb tx f s).2 :=
  keeps_ite_snd (keeps_ownFrame h) h

theorem keeps_queueOwn {ds} (h : Keeps b s) : Keeps b (queueOwn ds s) :=
  keeps_foldl (fun _ _ h => keeps_queueArb h) h

/-- The frame chosen leaves the arbitrating queue. -/
theorem keeps_arbErase {q} (h : Keeps b s) : Keeps b { s with ftn := { s.ftn with arb := s.ftn.arb.erase q } } := by
  refine keeps_capacity (fun hcap => ?_) h
  obtain ⟨hq, hfires, hended, hfailed, harb, hstandby⟩ := hcap
  exact ⟨hq, hfires, hended, hfailed, List.length_erase_le.trans harb, hstandby⟩

theorem keeps_execArbOccurrence {i own} (h : Keeps b s) : KeepsOut b (execArbOccurrence i own s) := by
  unfold execArbOccurrence
  refine keepsOut_next ?_
  split
  · exact h
  · split
    · exact h
    next n tx _ =>
      have h1 := keeps_queueOwn (ds := own) (keeps_toTb0 (ns := tx - 2000) h)
      dsimp only
      generalize queueOwn own (toTb0 (tx - 2000) s) = s1 at h1 ⊢
      refine keeps_ite ?_ h
      split
      · exact h1
      · exact keeps_when keeps_bump (keeps_sendStars (keeps_sendBoth (keeps_finishArb (keeps_arbErase h1))))

theorem keeps_execArbAgeExpiry (h : Keeps b s) : KeepsOut b (execArbAgeExpiry s) := by
  refine keepsOut_next (keeps_ite h (keeps_raiseIrq (keeps_bumpBy (keeps_capacity (fun hcap => ?_) h))))
  obtain ⟨hq, hfires, hended, hfailed, harb, hstandby⟩ := hcap
  exact ⟨hq, hfires, hended, hfailed, (List.length_filter_le _ _).trans harb, hstandby⟩

theorem keeps_markMissing {x} (h : Keeps b s) : Keeps b (markMissing x s) :=
  keeps_ite (keeps_ite (keeps_setRxBuf (keeps_when keeps_raiseIrq (keeps_bump (keeps_setRx h)))) (keeps_when keeps_raiseIrq (keeps_bump (keeps_setRx
    h)))) h

theorem keeps_formMidpoint (h : Keeps b s) : Keeps b (formMidpoint s) :=
  keeps_ite (keeps_loseIntegration (keeps_same (keeps_when keeps_tb0Input (keeps_when keeps_bump (keeps_when keeps_raiseIrq (keeps_when
    keeps_raiseIrq (keeps_bumpBy h))))))) (keeps_when keeps_tb0Input (keeps_when keeps_bump (keeps_when keeps_raiseIrq (keeps_when keeps_raiseIrq
    (keeps_bumpBy h)))))

theorem keeps_execNitStart (h : Keeps b s) : KeepsOut b (execNitStart s) :=
  keepsOut_next (keeps_when (fun h => keeps_formMidpoint (keeps_foldl (fun _ _ h => keeps_markMissing h) (keeps_toTb0 h))) h)

theorem keeps_matrixReject {cause entry isCommit} (h : Keeps b s) : Keeps b (matrixReject cause entry isCommit s) :=
  keeps_when (fun h => keeps_raiseIrq (keeps_bump h)) h

theorem keeps_portsOff (h : Keeps b s) : Keeps b (portsOff s) :=
  keeps_foldl (fun _ _ h => keeps_ite (keeps_when keeps_setLink (keeps_setPort h)) h) h

theorem keeps_matrixTake (h : Keeps b s) : Keeps b (matrixTake s) := by
  have h1 := keeps_portsOff (keeps_commitBoundary (u := .shadowMatrix) h)
  unfold matrixTake
  generalize portsOff (commitBoundary .shadowMatrix s) = s1 at h1 ⊢
  dsimp only
  generalize matrixId _ _ _ _ = id
  exact keeps_raiseIrq (keeps_matrixHook (keeps_cpErrors (keeps_same h1)))

theorem keeps_matrixCommitOp {key} (h : Keeps b s) : Keeps b (matrixCommitOp key s) :=
  keeps_ite (keeps_matrixReject h) (keeps_ite (keeps_matrixReject h) (keeps_ite (keeps_matrixTake h) (keeps_matrixReject h)))

theorem keeps_execMatrixCommit {key} (h : Keeps b s) : KeepsOut b (execMatrixCommit key s) :=
  keepsOut_next (keeps_when keeps_matrixCommitOp h)

theorem keeps_matrixDiscardOp {key} (h : Keeps b s) : Keeps b (matrixDiscardOp key s) :=
  keeps_ite (keeps_matrixReject h) h

theorem keeps_execMatrixDiscard {key} (h : Keeps b s) : KeepsOut b (execMatrixDiscard key s) :=
  keepsOut_next (keeps_when keeps_matrixDiscardOp h)

theorem keeps_slotW4Op {v} (h : Keeps b s) : Keeps b (slotW4Op v s) :=
  keeps_ite (keeps_bump h) (keeps_same (keeps_setReg h))

theorem keeps_execSlotW4Write {v} (h : Keeps b s) : KeepsOut b (execSlotW4Write v s) :=
  keepsOut_next (keeps_when keeps_slotW4Op h)

theorem keeps_txState {v} (h : Keeps b s) : Keeps b (txState v s) :=
  keeps_setTxBuf h

theorem keeps_execTxbPrepare (h : Keeps b s) : KeepsOut b (execTxbPrepare s) :=
  keepsOut_next (keeps_when keeps_txState h)

theorem keeps_execTxbCancel (h : Keeps b s) : KeepsOut b (execTxbCancel s) :=
  keepsOut_next (keeps_when keeps_txState h)

theorem keeps_txbWriteOp {off v} (h : Keeps b s) : Keeps b (txbWriteOp off v s) :=
  keeps_ite (keeps_bump h) (keeps_ite (keeps_setTxBuf h) (keeps_ite (keeps_setTxBuf h) (keeps_ite (keeps_setTxBuf h) h)))

theorem keeps_execTxbWrite {off v} (h : Keeps b s) : KeepsOut b (execTxbWrite off v s) :=
  keepsOut_next (keeps_when keeps_txbWriteOp h)

theorem keeps_rxbSnapshotOp {v} (h : Keeps b s) : Keeps b (rxbSnapshotOp v s) :=
  keeps_same (keeps_setReg h)

theorem keeps_execRxbSnapshot {v} (h : Keeps b s) : KeepsOut b (execRxbSnapshot v s) :=
  keepsOut_next (keeps_when keeps_rxbSnapshotOp h)

theorem keeps_runSetOp (h : Keeps b s) : Keeps b (runSetOp s) :=
  keeps_same (keeps_setReg h)

theorem keeps_execRunSet (h : Keeps b s) : KeepsOut b (execRunSet s) :=
  keepsOut_next (keeps_when keeps_runSetOp h)

theorem keeps_runClearOp (h : Keeps b s) : Keeps b (runClearOp s) :=
  keeps_ite (keeps_same (keeps_setReg h)) (keeps_same (keeps_setReg h))

theorem keeps_execRunClear (h : Keeps b s) : KeepsOut b (execRunClear s) :=
  keepsOut_next (keeps_when keeps_runClearOp h)

theorem keeps_leavingEndOp (h : Keeps b s) : Keeps b (leavingEndOp s) :=
  keeps_ite (keeps_same (keeps_loseIntegration h)) h

theorem keeps_execLeavingEnd (h : Keeps b s) : KeepsOut b (execLeavingEnd s) :=
  keepsOut_next (keeps_leavingEndOp h)

theorem keeps_execListenTimeout (h : Keeps b s) : KeepsOut b (execListenTimeout s) :=
  keepsOut_next (keeps_when (fun h => keeps_enterColdstart (keeps_advanceTo h)) h)

theorem keeps_execBackoffEnd (h : Keeps b s) : KeepsOut b (execBackoffEnd s) :=
  keepsOut_next (keeps_when (fun h => keeps_ite (keeps_toListen (keeps_advanceTo h)) (keeps_enterColdstart (keeps_advanceTo h))) h)

theorem keeps_execColdAbort (h : Keeps b s) : KeepsOut b (execColdAbort s) :=
  keepsOut_next (keeps_ite (keeps_ite h (keeps_toListen h)) h)

theorem keeps_sendLocal {p info payload} (h : Keeps b s) : Keeps b (sendLocal p info payload s) :=
  keeps_send h

theorem keeps_sendCal {p op no dev t1 t2} (h : Keeps b s) : Keeps b (sendCal p op no dev t1 t2 s) :=
  keeps_sendLocal h

theorem keeps_sendProbes {p no} (h : Keeps b s) : Keeps b (sendProbes p no s) :=
  keeps_foldl (fun _ _ h => keeps_sendCal h) h

theorem keeps_calStart {p} (h : Keeps b s) : Keeps b (calStart p s) :=
  keeps_setReg (keeps_setPort h)

theorem keeps_calStatus {state cause} (h : Keeps b s) : Keeps b (calStatus state cause s) :=
  keeps_setReg h

theorem keeps_calEnd {p} (h : Keeps b s) : Keeps b (calEnd p s) :=
  keeps_raiseIrq (keeps_when keeps_calStatus (keeps_when keeps_record (keeps_setReg (keeps_setPort h))))

theorem keeps_calIdle {p} (h : Keeps b s) : Keeps b (calIdle p s) :=
  keeps_ite (keeps_sendCal (keeps_setPort (keeps_ite (keeps_calEnd h) (keeps_ite (keeps_setPort (keeps_ite (keeps_sendCal h) (keeps_ite
    (keeps_sendProbes h) (keeps_ite (keeps_sendCal (keeps_sendProbes h)) (keeps_ite (keeps_sendProbes h) (keeps_sendCal h)))))) h)))) (keeps_ite
    (keeps_calEnd h) (keeps_ite (keeps_setPort (keeps_ite (keeps_sendCal h) (keeps_ite (keeps_sendProbes h) (keeps_ite (keeps_sendCal
    (keeps_sendProbes h)) (keeps_ite (keeps_sendProbes h) (keeps_sendCal h)))))) h))

theorem keeps_sendCheck {p} (h : Keeps b s) : Keeps b (sendCheck p s) := by
  unfold sendCheck
  refine keeps_ite ?_ h
  have h1 := keeps_ownFrame (kind := 5) (slot := 0xC000) (dest := 65535) (tx := (s.egress p / 256).toNat) (obj := 0) (sub := 0) (info := 2)
    (released := false) (payload := s.checkPayload p (s.egress p)) h
  dsimp only
  generalize ownFrame 5 0xC000 65535 _ 0 0 2 false _ s = x at h1 ⊢
  obtain ⟨f, s1⟩ := x
  have h2 := keeps_setPort (p := p) (f := fun x => { x with sent := ((f.seq, s.egress p) :: x.sent).take 4 }) (keeps_send (m := .frame p f) h1)
  dsimp only
  generalize setPort _ _ _ = s2 at h2 ⊢
  exact keeps_same h2

theorem keeps_sendHeal {p} (h : Keeps b s) : Keeps b (sendHeal p s) :=
  keeps_ite (keeps_ite (keeps_setLink (keeps_sendLocal (keeps_setLink (keeps_sendLocal h)))) (keeps_setLink (keeps_sendLocal h))) h

theorem keeps_execLinkCheckSend (h : Keeps b s) : KeepsOut b (execLinkCheckSend s) :=
  keepsOut_next (keeps_when (fun h => keeps_sendHeal (keeps_sendHeal (keeps_sendHeal (keeps_sendHeal (keeps_foldl (fun _ _ h => keeps_calIdle
    (keeps_when keeps_sendCheck h)) (keeps_toTb0 h)))))) h)

theorem keeps_measure {p f t1 t4} (h : Keeps b s) : Keeps b (measure p f t1 t4 s) :=
  keeps_when keeps_raiseIrq (keeps_setPort h)

theorem keeps_countGood {p consecutive} (h : Keeps b s) : Keeps b (countGood p consecutive s) :=
  keeps_setLink h

theorem keeps_guardViolate {p kind} (h : Keeps b s) : Keeps b (guardViolate p kind s) :=
  keeps_when (fun h => keeps_raiseIrq (keeps_record h)) (keeps_when keeps_raiseIrq (keeps_when keeps_raiseIrq (keeps_when keeps_bump (keeps_bump h))))

theorem keeps_execGuardViolation {p kind} (h : Keeps b s) : KeepsOut b (execGuardViolation p kind s) :=
  keepsOut_next (keeps_when keeps_guardViolate h)

theorem keeps_guardCmdOp {v} (h : Keeps b s) : Keeps b (guardCmdOp v s) :=
  keeps_ite h (keeps_bump h)

theorem keeps_execGuardPortEnable {v} (h : Keeps b s) : KeepsOut b (execGuardPortEnable v s) :=
  keepsOut_next (keeps_when keeps_guardCmdOp h)

theorem keeps_takeCheck {p f x} (h : Keeps b s) : Keeps b (takeCheck p f x s) := by
  unfold takeCheck
  refine keeps_when keeps_countGood ?_
  split
  · exact keeps_measure (keeps_setPort (keeps_bump h))
  · exact keeps_setPort (keeps_bump h)

theorem keeps_execLinkCheckReceive {p f stamp} (h : Keeps b s) : KeepsOut b (execLinkCheckReceive p f stamp s) :=
  keepsOut_next (keeps_ite h (keeps_ite (keeps_guardViolate h) (keeps_ite (keeps_guardViolate h) (keeps_ite (keeps_checkFailed (keeps_when keeps_same
    h)) (keeps_ite (keeps_checkFailed (keeps_when keeps_same h)) (keeps_ite (keeps_checkFailed (keeps_when keeps_same h)) (keeps_ite (keeps_when
    keeps_guardViolate (keeps_when keeps_same h)) (keeps_takeCheck (keeps_when keeps_same h)))))))))

theorem keeps_breakLink {p cause} (h : Keeps b s) : Keeps b (breakLink p cause s) :=
  keeps_ite h (keeps_record (keeps_when keeps_setPort (keeps_setLink h)))

theorem keeps_execLinkBroken {p cause} (h : Keeps b s) : KeepsOut b (execLinkBroken p cause s) :=
  keepsOut_next (keeps_when keeps_breakLink h)

theorem keeps_execHealReady {p chan} (h : Keeps b s) : KeepsOut b (execHealReady p chan s) :=
  keepsOut_next (keeps_when keeps_setLink h)

theorem keeps_execHealRestoreAt {p chan cc} (h : Keeps b s) : KeepsOut b (execHealRestoreAt p chan cc s) :=
  keepsOut_next (keeps_when (fun h => keeps_sendLocal (keeps_setLink h)) h)

theorem keeps_execHealAck {p chan cc} (h : Keeps b s) : KeepsOut b (execHealAck p chan cc s) :=
  keepsOut_next (keeps_when keeps_setLink h)

theorem keeps_ringCmdOp {v} (h : Keeps b s) : Keeps b (ringCmdOp v s) :=
  keeps_ite (keeps_setLink h) (keeps_ite (keeps_setLink h) (keeps_bump h))

theorem keeps_execRingHold {v} (h : Keeps b s) : KeepsOut b (execRingHold v s) :=
  keepsOut_next (keeps_when keeps_ringCmdOp h)

theorem keeps_execRingRelease {v} (h : Keeps b s) : KeepsOut b (execRingRelease v s) :=
  keepsOut_next (keeps_when keeps_ringCmdOp h)

theorem keeps_reqStatus {state cause req} (h : Keeps b s) : Keeps b (reqStatus state cause req s) :=
  keeps_ite (keeps_setReg h) (keeps_raiseIrq (keeps_setReg h))

theorem keeps_reqReject {cause req} (h : Keeps b s) : Keeps b (reqReject cause req s) :=
  keeps_bump (keeps_reqStatus h)

theorem keeps_modeReqOp {v} (h : Keeps b s) : Keeps b (modeReqOp v s) := by
  unfold modeReqOp
  refine keeps_ite (keeps_reqReject h) (keeps_ite (keeps_reqReject h) (keeps_ite (keeps_reqStatus (keeps_shadowWrite h)) ?_))
  split
  · exact keeps_reqReject h
  · exact keeps_reqStatus (keeps_setReg h)
  · exact keeps_reqStatus (keeps_shadowWrite h)

theorem keeps_dormantEntry (h : Keeps b s) : Keeps b (dormantEntry s) :=
  keeps_same (keeps_when keeps_runClearOp (keeps_when keeps_sendRecord (keeps_completeSet (keeps_makeCut (keeps_resolveOuts (keeps_bothGroups
    (keeps_abandonCycle h)))))))

theorem keeps_performReq {req} (h : Keeps b s) : Keeps b (performReq req s) := by
  unfold performReq
  split
  · exact keeps_reqStatus (keeps_setMode (keeps_programInit h))
  · exact keeps_reqStatus (keeps_addReason h)
  · exact keeps_reqStatus (keeps_dormantEntry h)

theorem keeps_stillBusy (h : Keeps b s) : Keeps b (stillBusy s) :=
  keeps_when keeps_reqStatus h

theorem keeps_modeBoundary {fault} (h : Keeps b s) : Keeps b (modeBoundary fault s) := by
  unfold modeBoundary
  split
  · refine keeps_stillBusy (keeps_ite (keeps_reqReject (keeps_shadowNext (keeps_setReg h))) ?_)
    split
    · exact keeps_reqReject (keeps_shadowNext (keeps_setReg h))
    · exact keeps_reqStatus (keeps_shadowNext (keeps_setReg h))
    · exact keeps_performReq (keeps_shadowNext (keeps_setReg h))
  · exact keeps_ite (keeps_setMode (keeps_programInit h)) h

theorem keeps_wakeReset {cause} (h : Keeps b s) : Keeps b (wakeReset cause s) := by
  have h1 := keeps_restart (cause := 2) h
  unfold wakeReset
  generalize restart 2 s = s1 at h1 ⊢
  exact keeps_bootEntered (keeps_same h1)

theorem keeps_dormantReached (h : Keeps b s) : Keeps b (dormantReached s) := by
  unfold dormantReached
  dsimp only
  split
  · exact keeps_wakeReset (keeps_powerDown (keeps_bump (keeps_same (keeps_commitPage (keeps_acceptAll (keeps_record h))))))
  · exact keeps_powerDown (keeps_bump (keeps_same (keeps_commitPage (keeps_acceptAll (keeps_record h)))))

theorem keeps_endAttempt {l c atOnce} (h : Keeps b s) : Keeps b (endAttempt l c atOnce s) :=
  keeps_raiseIrq (keeps_when keeps_record (keeps_record (keeps_bump (keeps_wipeLane (keeps_resetLane (keeps_markExclusion h))))))

theorem keeps_toPhase {l p} (h : Keeps b s) : Keeps b (toPhase l p s) :=
  keeps_setLane h

theorem keeps_rejoinReqOp {v} (h : Keeps b s) : Keeps b (rejoinReqOp v s) := by
  unfold rejoinReqOp
  dsimp only
  split
  · exact keeps_ite (keeps_bump h) (keeps_setLane h)
  · exact keeps_bump h

theorem regsForm_put {l : List (Nat × Word)} {k : Nat} {v : Word} (h : RegsForm l) (hne : v ≠ regReset k) (hv : v &&& regMask k = v) :
    RegsForm (put l k v) :=
  ⟨canonFrom_put regReset l 0 k v h.1 (Nat.zero_le k) hne, forall_put k v hv h.2⟩

theorem ne_default_of_canonFrom {α : Type} [DecidableEq α] {d : Nat → α} {l : List (Nat × α)} {lo : Nat} (h : canonFrom d lo l = true) :
    ∀ e ∈ l, e.2 ≠ d e.1 := by
  induction l generalizing lo with
  | nil => exact fun e he => absurd he List.not_mem_nil
  | cons x xs ih =>
    obtain ⟨k, v⟩ := x
    simp only [canonFrom, Bool.and_eq_true, Bool.not_eq_true', decide_eq_false_iff_not] at h
    exact List.forall_mem_cons.mpr ⟨h.1.2, ih h.2⟩

/-- Reset value and mask of a lane's register are those of its offset, whichever the lane. -/
theorem regsForm_copied {l m : List (Nat × Word)} {base : Nat} (hbase : base % 16777216 = 0) (hl : RegsForm l) (hm : RegsForm m) :
    RegsForm (m.foldl (fun m r => put m (base + r.1 % 16777216) r.2) l) := by
  have hmem : ∀ e ∈ m, e.2 ≠ regReset e.1 ∧ e.2 &&& regMask e.1 = e.2 := fun e he => ⟨ne_default_of_canonFrom hm.1 e he, hm.2 e he⟩
  clear hm
  induction m generalizing l with
  | nil => exact hl
  | cons x xs ih =>
    obtain ⟨⟨hne, hv⟩, hxs⟩ := List.forall_mem_cons.mp hmem
    have hoff : (base + x.1 % 16777216) % 16777216 = x.1 % 16777216 := by omega
    refine ih (regsForm_put hl ?_ ?_) hxs
    · rwa [regReset, hoff]
    · rwa [regMask, hoff]

theorem keeps_copyRegs {src dst} (h : Keeps b s) : Keeps b (copyRegs src dst s) :=
  keeps_regs (fun hs => regsForm_copied (Nat.mul_mod_left _ _) (regsForm_filter _ hs) (regsForm_filter _ hs)) h

theorem memWf_mergePages {even odd : List (Nat × Byte)} (he : memWf even = true) (ho : memWf odd = true) : memWf (mergePages even odd) = true := by
  have hput : ∀ (l m : List (Nat × Byte)), memWf m = true → (∀ e ∈ l, e.2 ≠ 0) → memWf (l.foldl (fun m b => put m b.1 b.2) m) = true := by
    intro l
    induction l with
    | nil => exact fun m hm _ => hm
    | cons x xs ih =>
      intro m hm hl
      obtain ⟨hx, hxs⟩ := List.forall_mem_cons.mp hl
      exact ih _ (canonFrom_put _ m 0 x.1 x.2 hm (Nat.zero_le _) hx) hxs
  exact hput _ _ (memWf_filter _ _ he) (ne_default_of_canonFrom (memWf_filter _ _ ho))

theorem keeps_copyLane {src other dst} (h : Keeps b s) : Keeps b (copyLane src other dst s) := by
  have h1 := keeps_copyRegs (src := src) (dst := dst) h
  have hsame : (copyRegs src dst s).mems = s.mems := rfl
  unfold copyLane
  dsimp only
  generalize copyRegs src dst s = s1 at h1 hsame ⊢
  refine keeps_foldl (fun _ _ h => keeps_setServo h) (keeps_setLane (keeps_mems (fun hm l => ?_) h1))
  have hmerged : ∀ k : Lane, memWf (s.mems.get k).dram = true ∧ memWf (s.mems.get k).spad = true := hsame ▸ hm
  by_cases e : l = dst
  · subst e
    rw [get_modify_self]
    exact ⟨memWf_mergePages (hmerged src).1 (hmerged other).1,
      memWf_mergePages (memWf_filter _ _ (hmerged src).2) (memWf_filter _ _ (hmerged other).2)⟩
  · rw [get_modify_ne _ _ _ _ e]
    exact hm l

theorem keeps_readmit {l} (h : Keeps b s) : Keeps b (readmit l s) := by
  have h1 := keeps_copyLane (src := s.lane0) (other := s.lanesIn.getLastD s.lane0) (dst := l) h
  unfold readmit
  generalize copyLane _ _ _ s = s1 at h1 ⊢
  exact keeps_setMode (keeps_raiseIrq (keeps_same h1))

theorem keeps_probationFails {l} (h : Keeps b s) : Keeps b (probationFails l s) :=
  keeps_ite (keeps_noMajority h) (keeps_raiseIrq (keeps_record (keeps_excludeLane h)))

theorem keeps_probationOver {l} (h : Keeps b s) : Keeps b (probationOver l s) :=
  keeps_when keeps_probationFails h

theorem keeps_rejoinBoundary (h : Keeps b s) : Keeps b (rejoinBoundary s) := by
  unfold rejoinBoundary
  refine keeps_foldl (fun _ _ h => keeps_ite ?_ (keeps_probationOver h)) h
  split
  · exact keeps_ite (keeps_readmit (keeps_probationOver h)) (keeps_ite (keeps_endAttempt (keeps_probationOver h)) (keeps_probationOver h))
  · exact keeps_when keeps_toPhase (keeps_probationOver h)
  · exact keeps_when keeps_setLane (keeps_probationOver h)
  · exact keeps_probationOver h

theorem keeps_setCompat {r} (h : Keeps b s) : Keeps b (setCompat r s) :=
  h

theorem keeps_setSlots {t f} (h : Keeps b s) : Keeps b (setSlots t f s) :=
  h

theorem keeps_setTarget {t n} (h : Keeps b s) : Keeps b (setTarget t n s) :=
  keeps_setSlots h

theorem keeps_updResult {state cause detail} (h : Keeps b s) : Keeps b (updResult state cause detail s) :=
  keeps_when keeps_raiseIrq h

theorem keeps_updBegins {op} (h : Keeps b s) : Keeps b (updBegins op s) :=
  h

theorem keeps_warmFinal (h : Keeps b s) : Keeps b (warmFinal s) :=
  keeps_ite h (keeps_updResult (keeps_raiseIrq (keeps_record (keeps_bump (keeps_same (keeps_foldl (fun _ _ h => keeps_setSlots h) h))))))

theorem keeps_revertTrial (h : Keeps b s) : Keeps b (revertTrial s) :=
  keeps_ite h (keeps_record (keeps_bump (keeps_foldl (fun _ _ h => keeps_setSlots h) h)))

theorem keeps_followMarks (h : Keeps b s) : Keeps b (followMarks s) :=
  keeps_ite (keeps_record (keeps_foldl (fun _ _ h => keeps_ite (keeps_setSlots h) h) h)) h

theorem keeps_setFallback {fb} (h : Keeps b s) : Keeps b (setFallback fb s) :=
  keeps_ite h (keeps_raiseIrq (keeps_bumpAll h))

theorem keeps_skipBoundary {tell} (h : Keeps b s) : Keeps b (skipBoundary tell s) :=
  keeps_when keeps_raiseIrq (keeps_bumpAll h)

theorem keeps_overrunStep (h : Keeps b s) : Keeps b (overrunStep s) :=
  keeps_ite (keeps_addReason (keeps_abandonCycle (keeps_same (keeps_record (keeps_raiseIrq (keeps_bumpAll h)))))) (keeps_record (keeps_raiseIrq
    (keeps_bumpAll h)))

theorem keeps_tripCommitted {old} (h : Keeps b s) : Keeps b (tripCommitted old s) :=
  keeps_tripEval (keeps_foldl (fun t _ h => keeps_tripUnlatch (keeps_same h)) h)

theorem keeps_commitStep (h : Keeps b s) : Keeps b (commitStep s) := by
  have h1 := keeps_commitBoundary (u := .shadowCycle) h
  unfold commitStep
  generalize commitBoundary .shadowCycle s = s1 at h1 ⊢
  exact keeps_chkUpdate (keeps_resolveOuts (keeps_when keeps_modeCauses (keeps_silenceCheck (keeps_autoReenable (keeps_tripCommitted
    (keeps_domainCommitted (keeps_syncCommitted (keeps_servoModes (keeps_when keeps_setOverlap
      (keeps_foldl (fun _ _ h => keeps_oddMinority h) h1))))))))))

theorem keeps_firstStart (h : Keeps b s) : Keeps b (firstStart s) :=
  keeps_ite (keeps_startTime (keeps_setMode (keeps_programInit h))) h

theorem keeps_takeoverClaim (h : Keeps b s) : Keeps b (takeoverClaim s) := by
  unfold takeoverClaim
  split
  · exact keeps_when (fun h => keeps_record (keeps_bump h)) (keeps_takeClaim (keeps_same h))
  · exact h

theorem keeps_releaseFirst (h : Keeps b s) : Keeps b (releaseFirst s) := by
  unfold releaseFirst
  split
  · exact keeps_ite (keeps_releaseImage (keeps_same h)) h
  · exact h

theorem keeps_portACollides {x} (h : Keeps b s) : Keeps b (portACollides x s) :=
  keeps_when (fun h => keeps_bumpLane (keeps_wrLane h)) h

theorem keeps_boundary {fb meets} (h : Keeps b s) : Keeps b (boundary fb meets s) := by
  unfold boundary
  extract_lets back s0 cut cyc1 s1 over_ stop skip s2 s2c s3 starts s4 s5 s6 s7
  have h0 : Keeps b s0 := keeps_setFallback (keeps_rejoinBoundary h)
  have h1 : Keeps b s1 := by
    clear_value s0
    exact keeps_same h0
  have h2 : Keeps b s2 := keeps_when keeps_bump (keeps_when keeps_skipBoundary (keeps_when keeps_overrunStep h1))
  have h2c : Keeps b s2c := keeps_commitStep h2
  have h3 : Keeps b s3 := keeps_when keeps_modeBoundary h2c
  have h4 : Keeps b s4 := keeps_when keeps_applyBatches (keeps_when keeps_firstStart h3)
  have h5 : Keeps b s5 := keeps_when keeps_takeoverClaim h4
  have h6 : Keeps b s6 := keeps_releaseFirst h5
  have h7 : Keeps b s7 :=
    keeps_when (fun h => keeps_inputFreeze (keeps_foldl (fun _ _ h => keeps_portACollides h) h)) h6
  exact keeps_when keeps_keepAlive h7

theorem keeps_endRuns (h : Keeps b s) : Keeps b (endRuns s) :=
  h

theorem keeps_cycleEnd {pages} (h : Keeps b s) : Keeps b (cycleEnd pages s) :=
  keeps_chkUpdate (keeps_warmFinal (keeps_resyncIfDue (keeps_when keeps_makeCut (keeps_endRuns h))))

theorem keeps_execSetSendComplete (h : Keeps b s) : KeepsOut b (execSetSendComplete s) :=
  keepsOut_next (keeps_when keeps_completeSet h)

theorem keeps_execOcStage {l hi} (h : Keeps b s) : KeepsOut b (execOcStage l hi s) :=
  keepsOut_next (keeps_when keeps_ocStageOp h)

theorem keeps_execOcCommit {l key} (h : Keeps b s) : KeepsOut b (execOcCommit l key s) :=
  keepsOut_next (keeps_when keeps_ocCommitOp h)

theorem keeps_execOcDiscard {l key} (h : Keeps b s) : KeepsOut b (execOcDiscard l key s) :=
  keepsOut_next (keeps_when keeps_ocDiscardOp h)

theorem keeps_execForceStage {l hi} (h : Keeps b s) : KeepsOut b (execForceStage l hi s) :=
  keepsOut_next (keeps_when keeps_frcStageOp h)

theorem keeps_execForceCommit {l key} (h : Keeps b s) : KeepsOut b (execForceCommit l key s) :=
  keepsOut_next (keeps_when keeps_frcCommitOp h)

theorem keeps_execForceDiscard {l key} (h : Keeps b s) : KeepsOut b (execForceDiscard l key s) :=
  keepsOut_next (keeps_when keeps_frcDiscardOp h)

theorem keeps_putLo {l core off v} (h : Keeps b s) : Keeps b (putLo l core off v s) :=
  h

theorem keeps_dropLo {l core lo} (h : Keeps b s) : Keeps b (dropLo l core lo s) :=
  h

theorem keeps_commitLo {l core lo} (h : Keeps b s) : Keeps b (commitLo l core lo s) :=
  keeps_dropLo (keeps_setReg h)

theorem keeps_commitLoAll {core lo} (h : Keeps b s) : Keeps b (commitLoAll core lo s) :=
  keeps_foldl (fun _ _ h => keeps_commitLo h) h

theorem keeps_setIcu {l f} (h : Keeps b s) : Keeps b (setIcu l f s) :=
  h

theorem keeps_setCore {l c f} (h : Keeps b s) : Keeps b (setCore l c f s) :=
  keeps_setIcu h

theorem keeps_routeLane {l} (h : Keeps b s) : Keeps b (routeLane l s) :=
  keeps_setIcu h

theorem keeps_execSourceAssert {lane id} (h : Keeps b s) : KeepsOut b (execSourceAssert lane id s) :=
  keepsOut_next (keeps_when keeps_assertAt h)

theorem keeps_withdraw {l c fast} (h : Keeps b s) : Keeps b (withdraw l c fast s) :=
  keeps_ite h (keeps_bumpLane (keeps_setCore h))

theorem keeps_withdrawUnbegun {l c fast} (h : Keeps b s) : Keeps b (withdrawUnbegun l c fast s) :=
  keeps_when keeps_withdraw h

theorem keeps_execSignalWithdraw {lane core fast mask} (h : Keeps b s) : KeepsOut b (execSignalWithdraw lane core fast mask s) :=
  keepsOut_next (keeps_when (fun h => keeps_routeLane (keeps_when keeps_withdrawUnbegun (keeps_setCore h))) h)

theorem keeps_saveFrame {l addr} (h : Keeps b s) : Keeps b (saveFrame l addr s) :=
  keeps_wrLane h

theorem keeps_fastEntry {l c} (h : Keeps b s) : Keeps b (fastEntry l c s) :=
  keeps_when keeps_saveFrame (keeps_when keeps_setReg (keeps_when keeps_bumpLane (keeps_when keeps_bumpLane (keeps_setCore h))))

theorem keeps_execHandlerEntry {lane core fast} (h : Keeps b s) : KeepsOut b (execHandlerEntry lane core fast s) := by
  unfold execHandlerEntry
  refine keepsOut_next (keeps_when (fun h => keeps_ite (keeps_ite (keeps_routeLane (keeps_fastEntry h)) h) (keeps_ite h ?_)) h)
  split
  · exact keeps_ite h (keeps_routeLane (keeps_saveFrame (keeps_setCore h)))
  · exact keeps_ite h (keeps_routeLane (keeps_saveFrame (keeps_setCore h)))
  · exact keeps_setCore h
  · exact keeps_routeLane (keeps_bumpLane (keeps_setCore h))
  · exact h

theorem keeps_claimOp {l c fast} (h : Keeps b s) : Keeps b (claimOp l c fast s) :=
  keeps_ite (keeps_answer (keeps_routeLane (keeps_setCore (keeps_setIcu (keeps_setCore h))))) (keeps_answer (keeps_routeLane (keeps_bumpLane
    (keeps_setCore h))))

theorem keeps_execClaimNormal {lane core} (h : Keeps b s) : KeepsOut b (execClaimNormal lane core s) :=
  keepsOut_next (keeps_when keeps_claimOp h)

theorem keeps_execClaimFast {lane core} (h : Keeps b s) : KeepsOut b (execClaimFast lane core s) :=
  keepsOut_next (keeps_when keeps_claimOp h)

theorem keeps_completeOp {l c v} (h : Keeps b s) : Keeps b (completeOp l c v s) :=
  keeps_ite (keeps_routeLane (keeps_setCore (keeps_setIcu h))) (keeps_bumpLane h)

theorem keeps_execIcuComplete {lane core v} (h : Keeps b s) : KeepsOut b (execIcuComplete lane core v s) :=
  keepsOut_next (keeps_when keeps_completeOp h)

theorem keeps_fastExit {l c} (h : Keeps b s) : Keeps b (fastExit l c s) :=
  keeps_ite (keeps_bumpLane (keeps_setCore (keeps_routeLane (keeps_setCore h)))) (keeps_routeLane (keeps_setCore (keeps_routeLane (keeps_setCore h))))

theorem keeps_execHandlerExit {lane core wait} (h : Keeps b s) : KeepsOut b (execHandlerExit lane core wait s) := by
  unfold execHandlerExit
  dsimp only
  refine keepsOut_next (keeps_when (fun h => ?_) h)
  split
  · exact keeps_fastExit h
  · exact keeps_routeLane (keeps_setCore h)
  · exact keeps_ite (keeps_bumpLane (keeps_setCore h)) (keeps_routeLane (keeps_setCore h))
  · exact keeps_routeLane (keeps_setCore h)
  · exact h

theorem keeps_swiOp {l v} (h : Keeps b s) : Keeps b (swiOp l v s) :=
  keeps_ite (keeps_assertAt h) (keeps_bumpLane h)

theorem keeps_execSwiSet {lane _core v} (h : Keeps b s) : KeepsOut b (execSwiSet lane _core v s) :=
  keepsOut_next (keeps_when keeps_swiOp h)

theorem keeps_withdrawSource {l id} (h : Keeps b s) : Keeps b (withdrawSource l id s) :=
  keeps_foldl (fun _ _ h => keeps_when keeps_withdrawUnbegun (keeps_when keeps_withdrawUnbegun h)) h

theorem keeps_pendClearOp {l w v} (h : Keeps b s) : Keeps b (pendClearOp l w v s) :=
  keeps_routeLane (keeps_setIcu (keeps_foldl (fun _ _ h => keeps_withdrawSource h) h))

theorem keeps_execPendClear {lane w v} (h : Keeps b s) : KeepsOut b (execPendClear lane w v s) :=
  keepsOut_next (keeps_when keeps_pendClearOp h)

theorem keeps_execWaitWake {lane id} (h : Keeps b s) : KeepsOut b (execWaitWake lane id s) :=
  keepsOut_next (keeps_when (fun h => keeps_routeLane (keeps_setIcu h)) h)

theorem keeps_srcCfgOp {l id v} (h : Keeps b s) : Keeps b (srcCfgOp l id v s) :=
  keeps_routeLane (keeps_when keeps_withdrawSource (keeps_setReg h))

theorem keeps_extEdge {k rising} (h : Keeps b s) : Keeps b (extEdge k rising s) :=
  keeps_foldl (fun _ _ h => keeps_ite (keeps_assertAt (keeps_setReg (keeps_when keeps_bumpLane (keeps_setReg h)))) (keeps_setReg h)) h

theorem keeps_judgeLine {k rising cycles} (h : Keeps b s) : Keeps b (judgeLine k rising cycles s) :=
  keeps_ite (keeps_when keeps_extEdge h) h

theorem keeps_execExtintEdge {k rising cycles} (h : Keeps b s) : KeepsOut b (execExtintEdge k rising cycles s) :=
  keepsOut_next (keeps_when keeps_judgeLine h)

theorem keeps_execExtintDormantEdge {k rising} (h : Keeps b s) : KeepsOut b (execExtintDormantEdge k rising s) :=
  keepsOut_next (keeps_when (keeps_same) h)

theorem keeps_dormantEdges (h : Keeps b s) : Keeps b (dormantEdges s) :=
  keeps_same (keeps_foldl (fun _ _ h => keeps_foldl (fun _ _ h => keeps_bumpLane (keeps_assertAt h)) (keeps_setReg h)) h)

theorem keeps_setMem {l f} (h : Keeps b s) (hd : ∀ m, (f m).dram = m.dram := by exact fun _ => rfl)
    (hs : ∀ m, (f m).spad = m.spad := by exact fun _ => rfl) : Keeps b (setMem l f s) :=
  keeps_mems (memsWf_set l (fun h => by rwa [hd]) (fun h => by rwa [hs])) h

theorem keeps_logError {l dram addr info} (h : Keeps b s) : Keeps b (logError l dram addr info s) :=
  keeps_ite (keeps_setReg (keeps_setReg (keeps_setReg h))) (keeps_setReg (keeps_setReg h))

theorem keeps_setMemTo {l} {m : LaneMem} (hd : m.dram = (s.mem l).dram) (hs : m.spad = (s.mem l).spad) (h : Keeps b s) :
    Keeps b (setMem l (fun _ => m) s) :=
  keeps_mems (memsWf_set l (fun h => hd ▸ h) (fun h => hs ▸ h)) h

theorem keeps_countCorrection {l} (h : Keeps b s) : Keeps b (countCorrection l s) := by
  unfold countCorrection
  by_cases hc : (s.mem l).ceStart + ceWindow ≤ s.time.tb2.ns
  · simp only [if_pos hc]
    exact keeps_when keeps_record (keeps_when keeps_assertAt (keeps_setMemTo rfl rfl h))
  · simp only [if_neg hc]
    exact keeps_when keeps_record (keeps_when keeps_assertAt (keeps_setMemTo rfl rfl h))

theorem keeps_correct {l dram addr info} (h : Keeps b s) : Keeps b (correct l dram addr info s) :=
  keeps_countCorrection (keeps_assertAt (keeps_setMem (keeps_logError (keeps_bumpLane h))))

theorem keeps_execEccCorrected {lane dram addr info} (h : Keeps b s) : KeepsOut b (execEccCorrected lane dram addr info s) :=
  keepsOut_next (keeps_when keeps_correct h)

theorem keeps_uncorrectable {l dram addr info} (h : Keeps b s) : Keeps b (uncorrectable l dram addr info s) :=
  keeps_excludeLane (keeps_record (keeps_assertAt (keeps_when keeps_answer (keeps_logError (keeps_bumpLane h)))))

theorem keeps_aliasWrite {l core base addr width mask f} (h : Keeps b s) : Keeps b (aliasWrite l core base addr width mask f s) := by
  unfold aliasWrite
  split
  · exact keeps_mems (memsWf_set l id (memWf_wrBytes _ _ _)) h
  · exact keeps_answer (keeps_bumpLane h)

theorem keeps_execAliasSet {lane core addr width mask} (h : Keeps b s) : KeepsOut b (execAliasSet lane core addr width mask s) :=
  keepsOut_next (keeps_when keeps_aliasWrite h)

theorem keeps_execAliasClear {lane core addr width mask} (h : Keeps b s) : KeepsOut b (execAliasClear lane core addr width mask s) :=
  keepsOut_next (keeps_when keeps_aliasWrite h)

theorem keeps_execSecureAccess {lane core addr} (h : Keeps b s) : KeepsOut b (execSecureAccess lane core addr s) :=
  keepsOut_next (keeps_when (fun h => keeps_answer (keeps_bumpLane h)) h)

theorem keeps_execMapError {lane core addr _write} (h : Keeps b s) : KeepsOut b (execMapError lane core addr _write s) :=
  keepsOut_next (keeps_when (fun h => keeps_answer (keeps_bumpLane h)) h)

theorem keeps_execMramWindowWrite {lane core addr _v} (h : Keeps b s) : KeepsOut b (execMramWindowWrite lane core addr _v s) :=
  keepsOut_next (keeps_when (fun h => keeps_answer (keeps_bumpLane h)) h)

theorem keeps_wipeAll {cause} (h : Keeps b s) : Keeps b (wipeAll cause s) :=
  keeps_foldl (fun _ _ h => keeps_when keeps_excludeLane h) (keeps_foldl (fun _ _ h => keeps_wipeLane h) h)

theorem keeps_tamperOp (h : Keeps b s) : Keeps b (tamperOp s) :=
  keeps_ite (keeps_wipeAll (keeps_findReason h)) (keeps_when (fun h => keeps_foldl (fun _ _ h => keeps_wipeLane h) h) h)

theorem keeps_execLanePowerRestore {lane} (h : Keeps b s) : KeepsOut b (execLanePowerRestore lane s) :=
  keepsOut_next (keeps_when (fun h => keeps_setMem (keeps_advanceTo h)) h)

theorem keeps_updReject {cause} (h : Keeps b s) : Keeps b (updReject cause s) :=
  keeps_updResult h

theorem keeps_beginOp {t} (h : Keeps b s) : Keeps b (beginOp t s) :=
  keeps_ite (keeps_updReject h) (keeps_ite (keeps_updReject h) (keeps_updResult (keeps_setTarget h)))

theorem keeps_stageRecord {t cause detail} (h : Keeps b s) : Keeps b (stageRecord t cause detail s) :=
  keeps_record h

theorem keeps_verifyOp {t} (h : Keeps b s) : Keeps b (verifyOp t s) :=
  keeps_ite (keeps_updReject h) (keeps_ite (keeps_updResult (keeps_setTarget (keeps_setCompat h))) (keeps_updResult (keeps_stageRecord (keeps_bump
    (keeps_setTarget (keeps_setCompat h))))))

theorem keeps_abortOp {t} (h : Keeps b s) : Keeps b (abortOp t s) :=
  keeps_ite (keeps_updResult (keeps_setTarget h)) (keeps_updReject h)

theorem keeps_activateOp {mask} (h : Keeps b s) : Keeps b (activateOp mask s) :=
  keeps_ite (keeps_updReject h) (keeps_ite (keeps_updReject h) (keeps_ite (keeps_updReject h) (keeps_ite (keeps_updReject h) (keeps_ite (keeps_updReject
    h) (keeps_ite (keeps_updReject (keeps_setCompat h)) (keeps_ite (keeps_moduleReset (keeps_same (keeps_foldl (fun _ _ h => keeps_setSlots h)
    (keeps_setCompat h)))) (keeps_updResult (keeps_same (keeps_foldl (fun _ _ h => keeps_setSlots h) (keeps_setCompat h))))))))))

theorem keeps_updCmdOp {v} (h : Keeps b s) : Keeps b (updCmdOp v s) :=
  keeps_ite (keeps_updReject (keeps_updBegins h)) (keeps_ite (keeps_activateOp (keeps_updBegins h)) (keeps_ite (keeps_updReject (keeps_updBegins h))
    (keeps_ite (keeps_beginOp (keeps_updBegins h)) (keeps_ite (keeps_verifyOp (keeps_updBegins h)) (keeps_abortOp (keeps_updBegins h))))))

theorem keeps_execUpdateBegin {v} (h : Keeps b s) : KeepsOut b (execUpdateBegin v s) :=
  keepsOut_next (keeps_when keeps_updCmdOp h)

theorem keeps_execUpdateVerify {v} (h : Keeps b s) : KeepsOut b (execUpdateVerify v s) :=
  keepsOut_next (keeps_when keeps_updCmdOp h)

theorem keeps_execUpdateAbort {v} (h : Keeps b s) : KeepsOut b (execUpdateAbort v s) :=
  keepsOut_next (keeps_when keeps_updCmdOp h)

theorem keeps_execUpdateActivate {v} (h : Keeps b s) : KeepsOut b (execUpdateActivate v s) :=
  keepsOut_next (keeps_when keeps_updCmdOp h)

theorem keeps_eraseDone {t} (h : Keeps b s) : Keeps b (eraseDone t s) :=
  keeps_ite (keeps_when keeps_updResult (keeps_setTarget h)) h

theorem keeps_execEraseComplete {type} (h : Keeps b s) : KeepsOut b (execEraseComplete type s) :=
  keepsOut_next (keeps_when keeps_eraseDone h)

theorem keeps_norFail {n} (h : Keeps b s) : Keeps b (norFail n s) := by
  have h1 := keeps_setSlots (t := n / 2) (f := fun y => y.put (n % 2 == 1) { (s.typeSlots (n / 2)).slot (n % 2 == 1) with state := .invalid })
    (s := { s with sys := { s.sys with norFault := true } }) (keeps_same h)
  unfold norFail
  dsimp only
  generalize setSlots _ _ _ = s1 at h1 ⊢
  exact keeps_ite (keeps_updResult (keeps_stageRecord (keeps_same h1))) (keeps_record h1)

theorem keeps_execNorFailure {slot} (h : Keeps b s) : KeepsOut b (execNorFailure slot s) :=
  keepsOut_next (keeps_when keeps_norFail h)

theorem keeps_putBlock {off data} (h : Keeps b s) : Keeps b (putBlock off data s) := by
  unfold putBlock
  split
  · exact keeps_setTarget h
  · exact h

theorem keeps_blockOp {off len data crcOk} (h : Keeps b s) : Keeps b (blockOp off len data crcOk s) :=
  keeps_ite (keeps_bump (keeps_putBlock h)) (keeps_bump h)

theorem keeps_blockBytes {b'} (h : Keeps b s) : Keeps b (blockBytes b' s) :=
  keeps_blockOp h

theorem keeps_execBlockSubmit {block} (h : Keeps b s) : KeepsOut b (execBlockSubmit block s) :=
  keepsOut_next (keeps_when keeps_blockBytes h)

theorem keeps_blkCmdOp {v} (h : Keeps b s) : Keeps b (blkCmdOp v s) :=
  keeps_ite (keeps_raiseIrq (keeps_bump h)) (keeps_ite (keeps_raiseIrq (keeps_blockOp h)) h)

theorem keeps_pauseLane {l} (h : Keeps b s) : Keeps b (pauseLane l s) :=
  keeps_setLane (keeps_resetLane (p := .reset) (l := l) h)

theorem keeps_restartNet (h : Keeps b s) : Keeps b (restartNet s) :=
  keeps_when keeps_lockChange (keeps_same (keeps_same (h)))

theorem keeps_pauseBegin (h : Keeps b s) : Keeps b (pauseBegin s) :=
  keeps_when keeps_restartNet (keeps_when keeps_sendRecord (keeps_foldl (fun _ _ h => keeps_pauseLane h) (keeps_same (keeps_endSessions h))))

theorem keeps_execActivatePause (h : Keeps b s) : KeepsOut b (execActivatePause s) :=
  keepsOut_next (keeps_when (fun h => keeps_pauseBegin (keeps_ite h (keeps_toTb2 h))) h)

theorem keeps_pauseEnd {ok} (h : Keeps b s) : Keeps b (pauseEnd ok s) :=
  keeps_ite (keeps_moduleReset h) (keeps_programInit (keeps_same (keeps_foldl (fun _ _ h => keeps_ite (keeps_setSlots h) h) (keeps_foldl (fun _ _ h
    => keeps_excludeLane h) h))))

theorem keeps_execWarmRestartComplete {lanesOk} (h : Keeps b s) : KeepsOut b (execWarmRestartComplete lanesOk s) :=
  keepsOut_next (keeps_when (fun h => keeps_pauseEnd (keeps_advanceTo h)) h)

theorem keeps_eraseKeys (h : Keeps b s) : Keeps b (eraseKeys s) :=
  h

theorem keeps_wipeBanks {cause} (h : Keeps b s) : Keeps b (wipeBanks cause s).2 :=
  keeps_foldl (fun _ _ h => keeps_wipeLane h) h

theorem keeps_lifeCommit {to_} (h : Keeps b s) : Keeps b (lifeCommit to_ s) :=
  keeps_addReason (keeps_endSessions (keeps_raiseIrq (keeps_record h)))

theorem keeps_lifeReset (h : Keeps b s) : Keeps b (lifeReset s) :=
  keeps_moduleReset h

/-- What a transition does to the vault rests on no part of the invariants. -/
theorem keeps_vault {req l vault} (hv : s.lifeTarget req = some (l, vault)) : ∀ t, Keeps b t → Keeps b (vault t) := by
  intro t ht
  unfold State.lifeTarget at hv
  split at hv
  · cases hv
    exact keeps_same ht
  · cases hv
    exact keeps_same ht
  · cases hv
    exact keeps_same ht
  · split at hv
    · cases hv
      exact ht
    · cases hv
  · cases hv
    exact keeps_eraseKeys ht
  · cases hv
    exact keeps_eraseKeys ht
  · cases hv
  · cases hv
    have ht' := keeps_eraseKeys ht
    dsimp only
    generalize eraseKeys t = u at ht' ⊢
    exact keeps_same ht'
  · cases hv

theorem keeps_lifeOp {req role} (h : Keeps b s) : Keeps b (lifeOp req role s) := by
  unfold lifeOp
  split
  next l vault hv => exact keeps_ite (keeps_lifeReset (keeps_lifeCommit (keeps_vault hv _ (keeps_wipeBanks h)))) h
  next => exact h

theorem keeps_execProvision {role} (h : Keeps b s) : KeepsOut b (execProvision role s) :=
  keepsOut_next (keeps_when keeps_lifeOp h)

theorem keeps_execRelease {role} (h : Keeps b s) : KeepsOut b (execRelease role s) :=
  keepsOut_next (keeps_when keeps_lifeOp h)

theorem keeps_execReturnToMaker {role} (h : Keeps b s) : KeepsOut b (execReturnToMaker role s) :=
  keepsOut_next (keeps_when keeps_lifeOp h)

theorem keeps_execScrap {role} (h : Keeps b s) : KeepsOut b (execScrap role s) :=
  keepsOut_next (keeps_when keeps_lifeOp h)

theorem keeps_openTest {kind} (h : Keeps b s) : Keeps b (openTest kind s) :=
  keeps_endSessions (keeps_raiseIrq (keeps_record (keeps_resolveOuts (keeps_bothGroups h))))

theorem keeps_testOp {kind role} (h : Keeps b s) : Keeps b (testOp kind role s) :=
  keeps_ite h (keeps_ite (keeps_lifeReset (keeps_when (fun h => keeps_openTest (keeps_advance h)) (keeps_lifeCommit (keeps_eraseKeys (keeps_wipeBanks
    h))))) (keeps_openTest h))

theorem keeps_execOpenBoundaryScan {role} (h : Keeps b s) : KeepsOut b (execOpenBoundaryScan role s) :=
  keepsOut_next (keeps_when keeps_testOp h)

theorem keeps_execOpenDebug {role} (h : Keeps b s) : KeepsOut b (execOpenDebug role s) :=
  keepsOut_next (keeps_when keeps_testOp h)

theorem keeps_execTapInstruction {ir} (h : Keeps b s) : KeepsOut b (execTapInstruction ir s) :=
  keepsOut_next (keeps_when keeps_bump h)

theorem keeps_setSec {l f} (h : Keeps b s) : Keeps b (setSec l f s) :=
  h

theorem keeps_secEnds {l state valid cause} (h : Keeps b s) : Keeps b (secEnds l state valid cause s) :=
  keeps_assertAt (keeps_bumpLane (keeps_setSec h))

theorem keeps_secOp {l v} (h : Keeps b s) : Keeps b (secOp l v s) :=
  keeps_ite (keeps_secEnds h) (keeps_ite (keeps_secEnds h) (keeps_ite (keeps_secEnds h) (keeps_ite (keeps_secEnds h) (keeps_ite (keeps_secEnds h)
    (keeps_ite (keeps_secEnds (keeps_wrLane h)) (keeps_ite (keeps_secEnds h) (keeps_secEnds (keeps_wrLane h))))))))

theorem keeps_secAll {v} (h : Keeps b s) : Keeps b (secAll v s) :=
  keeps_foldl (fun _ _ h => keeps_secOp h) h

theorem keeps_execSecSha512 {v} (h : Keeps b s) : KeepsOut b (execSecSha512 v s) :=
  keepsOut_next (keeps_when keeps_secAll h)

theorem keeps_execSecVerifyPss {v} (h : Keeps b s) : KeepsOut b (execSecVerifyPss v s) :=
  keepsOut_next (keeps_when keeps_secAll h)

theorem keeps_execSecSignApp {v} (h : Keeps b s) : KeepsOut b (execSecSignApp v s) :=
  keepsOut_next (keeps_when keeps_secAll h)

theorem keeps_rngRead {core} (h : Keeps b s) : Keeps b (rngRead core s) :=
  keeps_answerAll h

theorem keeps_execUpdRngRead {lane core} (h : Keeps b s) : KeepsOut b (execUpdRngRead lane core s) :=
  keepsOut_next (keeps_when keeps_rngRead h)

theorem keeps_scrubWords {l dram limit ws} (h : Keeps b s) : Keeps b (scrubWords l dram limit ws s) :=
  keeps_foldl (fun _ _ h => keeps_correct h) h

theorem keeps_lanePassDone {a l} (h : Keeps b s) : Keeps b (lanePassDone a l s) :=
  keeps_passDone h

theorem keeps_passEnds {l dram} (h : Keeps b s) : Keeps b (passEnds l dram s) :=
  keeps_setMem h

theorem keeps_execDramScrub {lane corrected percent} (h : Keeps b s) : KeepsOut b (execDramScrub lane corrected percent s) :=
  keepsOut_next (keeps_when (fun h => keeps_when (fun h => keeps_lanePassDone (keeps_passEnds h)) (keeps_same (keeps_scrubWords h))) h)

theorem keeps_execSpmScrub {lane corrected passEnd} (h : Keeps b s) : KeepsOut b (execSpmScrub lane corrected passEnd s) :=
  keepsOut_next (keeps_when (fun h => keeps_when (fun h => keeps_lanePassDone (keeps_passEnds h)) (keeps_scrubWords h)) h)

theorem keeps_execMramReadVerify {ok spareLeft} (h : Keeps b s) : KeepsOut b (execMramReadVerify ok spareLeft s) :=
  keepsOut_next (keeps_when (fun h => keeps_ite (keeps_chkUpdate (keeps_passDone h)) (keeps_chkUpdate (keeps_when keeps_record (keeps_passDone h)))) h)

theorem keeps_times {n f} (hf : ∀ t, Keeps b t → Keeps b (f t)) (h : Keeps b s) : Keeps b (times n f s) :=
  keeps_foldl (fun _ _ h => hf _ h) h

theorem keeps_norRead {slot} (h : Keeps b s) : Keeps b (norRead slot s) :=
  keeps_ite (keeps_passDone h) h

theorem keeps_norRefresh {slot blocks marginFail} (h : Keeps b s) : Keeps b (norRefresh slot blocks marginFail s) :=
  keeps_ite (keeps_norRead h) (keeps_ite (keeps_norRead h) (keeps_ite (keeps_norRead (keeps_times (fun _ h => keeps_record h) h)) (keeps_norRead
    (keeps_record h))))

theorem keeps_execNorRefresh {slot blocks marginFail} (h : Keeps b s) : KeepsOut b (execNorRefresh slot blocks marginFail s) :=
  keepsOut_next (keeps_when keeps_norRefresh h)

theorem keeps_nandRefresh {rewritten repaired failed} (h : Keeps b s) : Keeps b (nandRefresh rewritten repaired failed s) :=
  keeps_passDone (keeps_retireBlocks (keeps_when keeps_raiseIrq (keeps_times (fun _ h => keeps_record h) h)))

theorem keeps_execNandRefresh {rewritten repaired failed} (h : Keeps b s) : KeepsOut b (execNandRefresh rewritten repaired failed s) :=
  keepsOut_next (keeps_when keeps_nandRefresh h)

theorem keeps_bgLate {activity} (h : Keeps b s) : Keeps b (bgLate activity s) :=
  keeps_when keeps_bump (keeps_when keeps_record (keeps_raiseIrq (keeps_bump (keeps_same (keeps_advanceTo h)))))

theorem keeps_execBgLate {activity} (h : Keeps b s) : KeepsOut b (execBgLate activity s) :=
  keepsOut_next (keeps_when keeps_bgLate h)

theorem keeps_portRead {port} (h : Keeps b s) : Keeps b (portRead port s) :=
  keeps_ite (keeps_passDone h) h

theorem keeps_marginCheck {port margin} (h : Keeps b s) : Keeps b (marginCheck port margin s) :=
  keeps_when (fun h => keeps_record (keeps_raiseIrq (keeps_bump h))) (keeps_portRead (h))

theorem keeps_execLinkMarginCheck {port margin} (h : Keeps b s) : KeepsOut b (execLinkMarginCheck port margin s) :=
  keepsOut_next (keeps_when keeps_marginCheck h)

theorem keeps_execTelemetrySnapshot {temps vin power} (h : Keeps b s) : KeepsOut b (execTelemetrySnapshot temps vin power s) := by
  refine keepsOut_next (keeps_when (fun h => ?_) h)
  extract_lets s0 hot wall warn tlm1 s1 s2
  have h0 : Keeps b s0 := keeps_toTb2 h
  clear_value s0 hot wall warn tlm1
  have h1 : Keeps b s1 := keeps_same h0
  clear_value s1
  have h2 : Keeps b s2 := keeps_when (fun h => keeps_record (keeps_raiseIrq h)) (keeps_passDone h1)
  clear_value s2
  exact keeps_raiseIrq (keeps_same h2)

theorem keeps_tempRecord {start peak} (h : Keeps b s) : Keeps b (tempRecord start peak s) :=
  keeps_record h

theorem keeps_execTempExcursionBegin {edge} (h : Keeps b s) : KeepsOut b (execTempExcursionBegin edge s) :=
  keepsOut_next (keeps_when (keeps_same) h)

theorem keeps_execTempExcursionEnd {edge} (h : Keeps b s) : KeepsOut b (execTempExcursionEnd edge s) := by
  unfold execTempExcursionEnd
  refine keepsOut_next ?_
  split
  · exact keeps_when (fun h => keeps_tempRecord (keeps_same h)) h
  · exact h

theorem keeps_execTempExcursionLimit (h : Keeps b s) : KeepsOut b (execTempExcursionLimit s) := by
  unfold execTempExcursionLimit
  refine keepsOut_next ?_
  split
  next e _ =>
    have h1 := keeps_advanceTo (t := e.1 + 600000000000) h
    dsimp only
    generalize advanceTo (e.1 + 600000000000) s = s1 at h1 ⊢
    exact keeps_ite (keeps_tempRecord (keeps_same h1)) h
  next => exact h

theorem keeps_execThermalShutdown {peak} (h : Keeps b s) : KeepsOut b (execThermalShutdown peak s) :=
  keepsOut_next (keeps_when (fun h => keeps_failSilent (keeps_tempRecord (keeps_advanceTo h))) h)

theorem keeps_maskPath {l ch} (h : Keeps b s) : Keeps b (maskPath l ch s) :=
  keeps_record (keeps_raiseIrq (keeps_setReg h))

theorem keeps_setAgree {ch f} (h : Keeps b s) : Keeps b (setAgree ch f s) :=
  h

theorem keeps_pathDisagree {l ch} (h : Keeps b s) : Keeps b (pathDisagree l ch s) :=
  keeps_ite (keeps_maskPath (keeps_setAgree h)) (keeps_setAgree h)

theorem keeps_diChange {n c} (h : Keeps b s) : Keeps b (diChange n c s) :=
  keeps_ite h (keeps_when keeps_raiseIrq (keeps_setDi h))

theorem keeps_execDiFilterChange {n code} (h : Keeps b s) : KeepsOut b (execDiFilterChange n code s) := by
  refine keepsOut_next (keeps_when (fun h => ?_) h)
  extract_lets c left due s1
  have h1 : Keeps b s1 := keeps_toTb0 h
  clear_value s1
  exact keeps_tripEval (keeps_diChange (keeps_setDi (keeps_same h1)))

theorem keeps_diInvalid {g} (h : Keeps b s) : Keeps b (diInvalid g s) :=
  keeps_foldl (fun _ _ h => keeps_setDi (keeps_diChange h)) h

theorem keeps_execDiSupplyFault {g mv} (h : Keeps b s) : KeepsOut b (execDiSupplyFault g mv s) :=
  keepsOut_next (keeps_ite (keeps_tripEval (keeps_raiseIrq (keeps_diInvalid (keeps_setGroup h)))) h)

theorem keeps_execDiSupplyReturn {g mv} (h : Keeps b s) : KeepsOut b (execDiSupplyReturn g mv s) :=
  keepsOut_next (keeps_when keeps_setGroup h)

theorem keeps_execDiSupplyLow {g mv} (h : Keeps b s) : KeepsOut b (execDiSupplyLow g mv s) :=
  keepsOut_next (keeps_ite (keeps_raiseIrq (keeps_setGroup h)) h)

theorem keeps_execInputTestPulse {g} (h : Keeps b s) : KeepsOut b (execInputTestPulse g s) :=
  keepsOut_next (keeps_ite (keeps_setGroup (keeps_toTb2 h)) h)

theorem keeps_testSample {n t} (h : Keeps b s) : Keeps b (testSample n t s) :=
  keeps_ite (keeps_setGroup h) h

theorem keeps_diTested {n failed} (h : Keeps b s) : Keeps b (diTested n failed s) := by
  unfold diTested
  refine keeps_ite h (keeps_ite (keeps_ite (keeps_record (keeps_raiseIrq (keeps_diChange (keeps_bump (keeps_setDi h))))) (keeps_bump (keeps_setDi h)))
      ?_)
  split
  · exact keeps_pathDisagree (keeps_setDi h)
  · exact keeps_setDi h

theorem keeps_execInputTestEnd {g} (h : Keeps b s) : KeepsOut b (execInputTestEnd g s) :=
  keepsOut_next (keeps_ite (keeps_tripEval (keeps_foldl (fun _ _ h => keeps_diTested h) (keeps_setGroup (keeps_advanceTo h)))) h)

theorem keeps_execOutCmdWrite {v} (h : Keeps b s) : KeepsOut b (execOutCmdWrite v s) :=
  keepsOut_next (keeps_when keeps_outCmdOp h)

theorem keeps_execLogicSilence {n} (h : Keeps b s) : KeepsOut b (execLogicSilence n s) := by
  unfold execLogicSilence
  refine keepsOut_next ?_
  split
  · exact keeps_ite (keeps_silenceOp (keeps_advanceTo h)) h
  · exact h

theorem keeps_execDoSupplyLow {g mv} (h : Keeps b s) : KeepsOut b (execDoSupplyLow g mv s) :=
  keepsOut_next (keeps_ite (keeps_when keeps_raiseIrq (keeps_setGroup h)) h)

theorem keeps_latchSupply {g mv high} (h : Keeps b s) : Keeps b (latchSupply g mv high s) :=
  keeps_resolveOuts (keeps_record (keeps_raiseIrq (keeps_bump (keeps_groupCause (keeps_setGroup h)))))

theorem keeps_execDoSupplyUnder {g mv} (h : Keeps b s) : KeepsOut b (execDoSupplyUnder g mv s) :=
  keepsOut_next (keeps_when keeps_latchSupply h)

theorem keeps_execDoSupplyOver {g mv} (h : Keeps b s) : KeepsOut b (execDoSupplyOver g mv s) :=
  keepsOut_next (keeps_when keeps_latchSupply h)

theorem keeps_execDoSupplyReady {g mv} (h : Keeps b s) : KeepsOut b (execDoSupplyReady g mv s) :=
  keepsOut_next (keeps_ite (keeps_when keeps_reenable (keeps_raiseIrq (keeps_setGroup h))) h)

theorem keeps_execDoSupplyLowExit {g mv} (h : Keeps b s) : KeepsOut b (execDoSupplyLowExit g mv s) :=
  keepsOut_next (keeps_when keeps_setGroup h)

theorem keeps_execGroupOverload {g} (h : Keeps b s) : KeepsOut b (execGroupOverload g s) := by
  unfold execGroupOverload
  refine keepsOut_next ?_
  split
  · exact keeps_when (fun h => keeps_resolveOuts (keeps_raiseIrq (keeps_bump (keeps_groupCause (keeps_advanceTo h))))) h
  · exact h

theorem keeps_outFault {n b' cnt} (h : Keeps b s) : Keeps b (outFault n b' cnt s) :=
  keeps_resolveOuts (keeps_record (keeps_raiseIrq (keeps_when keeps_bump (keeps_setOut h))))

theorem keeps_lastsFor {n us} (h : Keeps b s) : Keeps b (lastsFor n us s) :=
  keeps_advanceTo h

theorem keeps_compareOut {n what} (h : Keeps b s) : Keeps b (compareOut n what s) :=
  keeps_when keeps_compareFail h

theorem keeps_execChannelOvercurrent {n} (h : Keeps b s) : KeepsOut b (execChannelOvercurrent n s) :=
  keepsOut_next (keeps_when (fun h => keeps_outFault (keeps_lastsFor h)) h)

theorem keeps_execChannelOvertemp {n} (h : Keeps b s) : KeepsOut b (execChannelOvertemp n s) :=
  keepsOut_next (keeps_when keeps_outFault h)

theorem keeps_execOpenLoad {n} (h : Keeps b s) : KeepsOut b (execOpenLoad n s) :=
  keepsOut_next (keeps_when (fun h => keeps_outFault (keeps_lastsFor h)) h)

theorem keeps_execOpenLoadClear {n} (h : Keeps b s) : KeepsOut b (execOpenLoadClear n s) :=
  keepsOut_next (keeps_when keeps_setOut h)

theorem keeps_execStuckOff {n} (h : Keeps b s) : KeepsOut b (execStuckOff n s) :=
  keepsOut_next (keeps_when (fun h => keeps_compareOut (keeps_outFault (keeps_lastsFor h))) h)

theorem keeps_shortSupply {n fell} (h : Keeps b s) : Keeps b (shortSupply n fell s) :=
  keeps_when keeps_compareOut (keeps_when (fun h => keeps_resolveOuts (keeps_setOut (keeps_groupCause h))) (keeps_outFault h))

theorem keeps_execShortSupplyDetect {n partner fell} (h : Keeps b s) : KeepsOut b (execShortSupplyDetect n partner fell s) := by
  unfold execShortSupplyDetect
  refine keepsOut_next (keeps_ite ?_ h)
  split
  · exact keeps_ite (keeps_setOut (keeps_outFault (keeps_lastsFor h))) (keeps_shortSupply (keeps_lastsFor h))
  · exact keeps_shortSupply (keeps_lastsFor h)

theorem keeps_execDarkTestSlot {n} (h : Keeps b s) : KeepsOut b (execDarkTestSlot n s) :=
  keepsOut_next (keeps_when (fun h => keeps_when (fun h => keeps_resolveOuts (keeps_setOut h)) (keeps_toTb2 h)) h)

theorem keeps_execDarkTestEnd {n fell} (h : Keeps b s) : KeepsOut b (execDarkTestEnd n fell s) :=
  keepsOut_next (keeps_ite (keeps_when (fun h => keeps_compareOut (keeps_record (keeps_raiseIrq h))) (keeps_when keeps_bump (keeps_passDone
    (keeps_resolveOuts (keeps_setOut (keeps_when keeps_advanceTo h)))))) h)

theorem keeps_dioCommand {argOk f} (hf : ∀ t, Keeps b t → Keeps b (f t)) (h : Keeps b s) : Keeps b (dioCommand argOk f s) :=
  keeps_ite h (keeps_ite (keeps_dioResult h) (keeps_ite (keeps_dioResult (keeps_dioFenced h)) (hf _ h)))

theorem keeps_execClearFault {n gone} (h : Keeps b s) : KeepsOut b (execClearFault n gone s) :=
  keepsOut_next (keeps_dioCommand (fun _ h => keeps_clearFaultOp h) h)

theorem keeps_execGroupReenable {g} (h : Keeps b s) : KeepsOut b (execGroupReenable g s) :=
  keepsOut_next (keeps_dioCommand (fun _ h => keeps_reenableOp h) h)

theorem keeps_execTripReset {r} (h : Keeps b s) : KeepsOut b (execTripReset r s) :=
  keepsOut_next (keeps_dioCommand (fun _ h => keeps_tripResetOp h) h)

theorem keeps_execGroupOpen {v} (h : Keeps b s) : KeepsOut b (execGroupOpen v s) :=
  keepsOut_next (keeps_when keeps_ctrlCmdOp h)

theorem keeps_execGroupRelease {v} (h : Keeps b s) : KeepsOut b (execGroupRelease v s) :=
  keepsOut_next (keeps_when keeps_ctrlCmdOp h)

theorem keeps_execTripAutoReset {r} (h : Keeps b s) : KeepsOut b (execTripAutoReset r s) :=
  keepsOut_next (keeps_when (fun h => keeps_tripUnlatch (keeps_advanceTo h)) h)

theorem keeps_tripRegOp {off v} (h : Keeps b s) : Keeps b (tripRegOp off v s) :=
  keeps_ite (keeps_ite (keeps_shadowWrite h) (keeps_bump h)) h

theorem keeps_execTripRegWrite {off v} (h : Keeps b s) : KeepsOut b (execTripRegWrite off v s) :=
  keepsOut_next (keeps_when keeps_tripRegOp h)

theorem keeps_execSensorSupplyShort {g} (h : Keeps b s) : KeepsOut b (execSensorSupplyShort g s) :=
  keepsOut_next (keeps_when keeps_setGroup h)

theorem keeps_execSensorSupplyRestart {g} (h : Keeps b s) : KeepsOut b (execSensorSupplyRestart g s) := by
  unfold execSensorSupplyRestart
  refine keepsOut_next ?_
  split
  · exact keeps_when (fun h => keeps_setGroup (keeps_advanceTo h)) h
  · exact h

theorem keeps_setSup {f} (h : Keeps b s) (hf : ∀ x, (f x).fifo = x.fifo := by exact fun _ => rfl) : Keeps b (setSup f s) :=
  keeps_same h (hended := hf _)

theorem keeps_setChan {n f} (h : Keeps b s) : Keeps b (setChan n f s) :=
  keeps_setSup h

theorem keeps_execSupLockChange {lock} (h : Keeps b s) : KeepsOut b (execSupLockChange lock s) :=
  keepsOut_next (keeps_when keeps_lockChange h)

theorem keeps_execSupHoldExpiry (h : Keeps b s) : KeepsOut b (execSupHoldExpiry s) :=
  keepsOut_next (keeps_when (fun h => keeps_lockChange (keeps_advanceTo h)) h)

theorem keeps_execSupRangeFault {chan} (h : Keeps b s) : KeepsOut b (execSupRangeFault chan s) :=
  keepsOut_next (keeps_when (fun h => keeps_when keeps_lockChange (keeps_when keeps_lockChange (keeps_raiseIrq (keeps_bump (keeps_setChan h))))) h)

theorem keeps_execSupRangeReturn {chan} (h : Keeps b s) : KeepsOut b (execSupRangeReturn chan s) :=
  keepsOut_next (keeps_when keeps_setChan h)

theorem keeps_execAdcCalRotation {fails} (h : Keeps b s) : KeepsOut b (execAdcCalRotation fails s) :=
  keepsOut_next (keeps_when (fun h => keeps_foldl (fun _ _ h => keeps_raiseIrq (keeps_record (keeps_bump (keeps_setSup h)))) (keeps_passDone
    (keeps_setSup (keeps_advanceTo h)))) h)

theorem keeps_worsen {cls ch v} (h : Keeps b s) : Keeps b (worsen cls ch v s) :=
  keeps_setSup h

theorem keeps_distStart {cls ch v limit} (h : Keeps b s) : Keeps b (distStart cls ch v limit s) := by
  unfold distStart
  dsimp only
  split
  · exact keeps_setSup h
  · exact keeps_raiseIrq (keeps_bump (keeps_setSup h))

theorem keeps_execDisturbanceStart {cls chan} (h : Keeps b s) : KeepsOut b (execDisturbanceStart cls chan s) := by
  unfold execDisturbanceStart
  refine keepsOut_next ?_
  split
  · exact keeps_when keeps_distStart h
  · exact h

/-- The FIFO of ended disturbances takes an entry only where there is room (R176). -/
theorem keeps_distStore {e} (h : Keeps b s) :
    Keeps b (if s.sup.fifo.length < 16 then
      raiseIrq Irq.SUP_DIST_END { s with sup := { s.sup with fifo := s.sup.fifo ++ [e], lost := false } }
    else raiseIrq Irq.SUP_DIST_OVERFLOW (bump Off.SUP_FIFO_LOST { s with sup := { s.sup with lost := true } })) := by
  split
  next hroom =>
    refine keeps_raiseIrq (keeps_capacity (fun hcap => ?_) h)
    refine ⟨hcap.1, hcap.2.1, ?_, hcap.2.2.2⟩
    rw [List.length_append, List.length_singleton]
    omega
  next => exact keeps_raiseIrq (keeps_bump (keeps_same h))

theorem keeps_distEnd {d} (h : Keeps b s) : Keeps b (distEnd d s) :=
  keeps_when keeps_record (keeps_distStore (keeps_same h))

theorem keeps_execDisturbanceEnd {cls chan} (h : Keeps b s) : KeepsOut b (execDisturbanceEnd cls chan s) := by
  unfold execDisturbanceEnd
  refine keepsOut_next ?_
  split
  · exact keeps_when keeps_distEnd h
  · exact h

theorem keeps_longSpike {n} (h : Keeps b s) : Keeps b (longSpike n s) := by
  unfold longSpike
  split
  · exact keeps_when (fun h => keeps_distEnd (keeps_setChan h)) h
  · exact h

theorem keeps_distHeadOp {core} (h : Keeps b s) : Keeps b (distHeadOp core s) := by
  refine keeps_answerAll (keeps_setLatch (keeps_capacity (fun hcap => ?_) h))
  refine ⟨hcap.1, hcap.2.1, ?_, hcap.2.2.2⟩
  exact (List.length_drop ▸ Nat.sub_le _ _).trans hcap.2.2.1

theorem keeps_execSupDistHeadRead {core} (h : Keeps b s) : KeepsOut b (execSupDistHeadRead core s) :=
  keepsOut_next (keeps_when keeps_distHeadOp h)

theorem keeps_takeSample {n v} (h : Keeps b s) : Keeps b (takeSample n v s) :=
  keeps_ite h (keeps_longSpike (keeps_worsen (keeps_setChan h)))

theorem keeps_refresh {n} (h : Keeps b s) : Keeps b (refresh n s) := by
  unfold refresh
  dsimp only
  refine keeps_ite h ?_
  split
  · exact h
  · exact keeps_worsen (keeps_worsen (keeps_worsen (keeps_setChan h)))

theorem keeps_measureChan {f t n} (h : Keeps b s) : Keeps b (measureChan f t n s) :=
  keeps_ite (keeps_setChan h) h

theorem keeps_measureHalf (h : Keeps b s) : Keeps b (measureHalf s) :=
  keeps_setSup (keeps_foldl (fun _ _ h => keeps_measureChan h) h)

theorem keeps_windowEnd (h : Keeps b s) : Keeps b (windowEnd s) :=
  keeps_ite h (keeps_setSup h)

theorem keeps_meansEnd (h : Keeps b s) : Keeps b (meansEnd s) :=
  keeps_ite h (keeps_worsen (keeps_worsen (keeps_setSup h)))

theorem keeps_execSupTrackerUpdate {freq phase} (h : Keeps b s) : KeepsOut b (execSupTrackerUpdate freq phase s) :=
  keepsOut_next (keeps_when (fun h => keeps_pistePhase (keeps_meansEnd (keeps_windowEnd (keeps_when keeps_setSup (keeps_setSup (keeps_when
    keeps_measureHalf (keeps_foldl (fun _ _ h => keeps_refresh h) (keeps_pistePhase (keeps_toTb0 h))))))))) h)

theorem keeps_removeSlice {k} (h : Keeps b s) : Keeps b (removeSlice k s) :=
  keeps_ite h (keeps_ite (keeps_raiseIrq (keeps_record h)) (keeps_failSilent (keeps_record h)))

theorem keeps_execSliceCounterFault {slice} (h : Keeps b s) : KeepsOut b (execSliceCounterFault slice s) :=
  keepsOut_next (keeps_removeSlice h)

theorem keeps_loseDomain {l} (h : Keeps b s) : Keeps b (loseDomain l s) := by
  have hleft : Keeps b (if s.inVote l then excludeLane l .domain s else
      match (s.vot.lanes.get l).phase with
      | .retired => s
      | _ => resetLane .reset l s) := by
    refine keeps_ite (keeps_excludeLane h) ?_
    split
    · exact h
    · exact keeps_resetLane h
  unfold loseDomain
  extract_lets s1
  have h1 : Keeps b s1 := hleft
  clear_value s1
  exact keeps_mems (memsWf_set l (fun _ => rfl) (fun _ => rfl)) h1

theorem keeps_execSupervisorHeartbeatLoss (h : Keeps b s) : KeepsOut b (execSupervisorHeartbeatLoss s) :=
  keepsOut_next (keeps_when (fun h => keeps_failSilent (keeps_record h)) h)

theorem keeps_execNetEngineFault {chanB} (h : Keeps b s) : KeepsOut b (execNetEngineFault chanB s) :=
  keepsOut_next (keeps_ite (keeps_record h) h)

theorem keeps_execGuardianFault (h : Keeps b s) : KeepsOut b (execGuardianFault s) :=
  keepsOut_next (keeps_when (fun h => keeps_record h) h)

theorem keeps_execDspFault (h : Keeps b s) : KeepsOut b (execDspFault s) :=
  keepsOut_next (keeps_ite (keeps_record (keeps_lockChange (keeps_setClass h))) h)

theorem keeps_dspRestart (h : Keeps b s) : Keeps b (dspRestart s) := by
  unfold dspRestart
  dsimp only
  split
  · exact keeps_pisteUpdate (keeps_odoRestore (keeps_same h))
  · exact keeps_same h

theorem keeps_execDspRestart (h : Keeps b s) : KeepsOut b (execDspRestart s) :=
  keepsOut_next (keeps_when keeps_dspRestart h)

theorem keeps_execSupplyDip {durationUs lowest} (h : Keeps b s) : KeepsOut b (execSupplyDip durationUs lowest s) :=
  keepsOut_next (keeps_when (fun h => keeps_when keeps_raiseIrq (keeps_record h)) h)

theorem keeps_freeIn {lo hi} (h : Keeps b s) : Keeps b (freeIn lo hi s).2 :=
  h

theorem keeps_inertStrobe {axes} (h : Keeps b s) : Keeps b (inertStrobe axes s) := by
  unfold inertStrobe
  dsimp only
  split
  · exact keeps_same h
  · exact keeps_same (keeps_same h)

theorem keeps_fuse {l} (h : Keeps b s) : Keeps b (fuse l s).2 :=
  keeps_ite_snd h (keeps_freeIn h)

theorem keeps_sensorVel {n} (h : Keeps b s) : Keeps b (sensorVel n s).2 :=
  keeps_freeIn h

theorem keeps_refVel {n} (h : Keeps b s) : Keeps b (refVel n s).2 := by
  unfold refVel
  exact keeps_ite_snd h (keeps_fuse h)

theorem keeps_enterSlip {n v c} (h : Keeps b s) : Keeps b (enterSlip n v c s) :=
  keeps_raiseIrq (keeps_record (keeps_bump (keeps_sensorTo h)))

theorem keeps_qualify {n} (h : Keeps b s) : Keeps b (qualify n s) := by
  unfold qualify
  dsimp only
  split
  · exact keeps_when keeps_sensorTo h
  · exact keeps_when keeps_sensorTo h
  · exact h

theorem keeps_sensorStep {n current} (h : Keeps b s) : Keeps b (sensorStep n current s) := by
  unfold sensorStep
  split
  · exact h
  · extract_lets +onlyGivenNames s1
    have h1 : Keeps b s1 := keeps_when keeps_faultSensor h
    clear_value s1
    have h2 := keeps_sensorVel (n := n) h1
    generalize sensorVel n s1 = x at h2 ⊢
    obtain ⟨vel, s2⟩ := x
    have h3 := keeps_freeIn (lo := -2147483648) (hi := 2147483647) h2
    dsimp -zeta only at h3 ⊢
    generalize freeIn (-2147483648) 2147483647 s2 = x at h3 ⊢
    obtain ⟨acc, s3⟩ := x
    have h4 := keeps_refVel (n := n) h3
    dsimp -zeta only at h4 ⊢
    generalize refVel n s3 = x at h4 ⊢
    obtain ⟨v, s4⟩ := x
    extract_lets pm fit s5 m
    have h5 : Keeps b s5 := keeps_setSensor h4
    clear_value s5 m
    refine keeps_qualify ?_
    split
    · exact keeps_ite (keeps_enterSlip h5) (keeps_ite (keeps_enterSlip h5) h5)
    · exact keeps_when keeps_sensorTo h5
    · exact keeps_when keeps_sensorTo h5
    · exact h5

theorem keeps_takeVel {v} (h : Keeps b s) : Keeps b (takeVel v s) :=
  keeps_ite h (keeps_when (fun h => keeps_raiseIrq (keeps_bump h)) h)

theorem keeps_movePos {d} (h : Keeps b s) : Keeps b (movePos d s) :=
  h

theorem keeps_fusedMove {d v a} (h : Keeps b s) :
    Keeps b (let s4 := takeVel v (movePos d s); { s4 with odo := { s4.odo with acc := a } }) := by
  extract_lets s4
  have h4 : Keeps b s4 := keeps_takeVel (keeps_movePos h)
  exact keeps_same h4

theorem keeps_fusedUpdate (h : Keeps b s) : Keeps b (fusedUpdate s) := by
  unfold fusedUpdate
  extract_lets +onlyGivenNames odo' s'
  have h' : Keeps b s' := keeps_same h
  clear_value s' odo'
  refine keeps_ite (keeps_ite ?_ h') ?_
  · have h1 := keeps_fuse (l := s'.okDist fun x => x.count - x.lock) h'
    generalize fuse (s'.okDist fun x => x.count - x.lock) s' = x at h1 ⊢
    obtain ⟨d, s1⟩ := x
    exact keeps_raiseIrq (keeps_movePos (keeps_same h1))
  · extract_lets oks
    have h1 := keeps_fuse (l := s'.okDist fun x => x.count - x.seen) h'
    generalize fuse (s'.okDist fun x => x.count - x.seen) s' = x at h1 ⊢
    obtain ⟨d, s1⟩ := x
    have h2 := keeps_fuse (l := oks.map (·.1.vel)) h1
    dsimp -zeta only at h2 ⊢
    generalize fuse (oks.map (·.1.vel)) s1 = x at h2 ⊢
    obtain ⟨v, s2⟩ := x
    dsimp -zeta only at h2 ⊢
    extract_lets cap
    exact keeps_fusedMove (keeps_freeIn (lo := -2147483648) (hi := 2147483647) h2)

theorem keeps_bridgedMove {fa} (h : Keeps b s) :
    Keeps b (let fine := s.odo.vel + 5 * fa + s.odo.frac
      let s2 := movePos (fine / 100000) { s with odo := { s.odo with frac := (fine % 100000).toNat } }
      let s3 := takeVel (s.odo.vel + 10 * fa) s2
      { s3 with odo := { s3.odo with acc := fa } }) := by
  extract_lets fine odo' s2 s3
  have h3 : Keeps b s3 := keeps_takeVel (keeps_movePos (keeps_same h))
  exact keeps_same h3

theorem keeps_bridgedUpdate (h : Keeps b s) : Keeps b (bridgedUpdate s) := by
  unfold bridgedUpdate
  extract_lets odo' s'
  have h' : Keeps b s' := keeps_ite h (keeps_bump (keeps_same h))
  clear_value s' odo'
  refine keeps_ite h' ?_
  cases s'.odo.inert with
  | some a => exact keeps_bridgedMove h'
  | none => exact keeps_bridgedMove (keeps_freeIn (lo := -2147483648) (hi := 2147483647) h')

theorem keeps_standstill (h : Keeps b s) : Keeps b (standstill s) :=
  keeps_ite (keeps_raiseIrq h) h

theorem keeps_localUpdate {currents} (h : Keeps b s) : Keeps b (localUpdate currents s) := by
  unfold localUpdate
  extract_lets odo0 s0 s2 s1
  have h0 : Keeps b s0 := keeps_ite (keeps_odoExtrapolate (keeps_same h)) h
  clear_value s0
  have h2 : Keeps b s2 := keeps_foldl (fun _ _ h => keeps_sensorStep h) (keeps_sensorEnables h0)
  clear_value s2
  have h1 : Keeps b s1 := keeps_ite (keeps_fusedUpdate h2) (keeps_bridgedUpdate h2)
  clear_value s1
  exact keeps_gradeOwn (keeps_standstill (keeps_same h1))

theorem keeps_staleRemote (h : Keeps b s) : Keeps b (staleRemote s) :=
  keeps_setClass (keeps_ite h (keeps_bump h))

theorem keeps_remoteUpdate (h : Keeps b s) : Keeps b (remoteUpdate s) := by
  unfold remoteUpdate
  split
  · exact keeps_setClass h
  · exact keeps_ite (keeps_staleRemote (keeps_same h)) (keeps_setClass (keeps_same h))

theorem keeps_execEstimatorUpdate {currents} (h : Keeps b s) : KeepsOut b (execEstimatorUpdate currents s) := by
  refine keepsOut_next (keeps_when (fun h => ?_) h)
  extract_lets t s0 jump s1 odo1 s2
  have h0 : Keeps b s0 := keeps_pisteBefore (keeps_toTb0 h)
  clear_value s0
  have h1 : Keeps b s1 := keeps_ite (keeps_remoteUpdate h0) (keeps_localUpdate h0)
  clear_value s1
  have h2 : Keeps b s2 := keeps_same h1
  clear_value s2
  exact keeps_pisteUpdate (keeps_same h2)

theorem keeps_execSensorStateTimer {sensor} (h : Keeps b s) : KeepsOut b (execSensorStateTimer sensor s) :=
  keepsOut_next (keeps_when keeps_qualify h)

theorem keeps_execStandstillEntry (h : Keeps b s) : KeepsOut b (execStandstillEntry s) :=
  keepsOut_next (keeps_when keeps_standstill h)

theorem keeps_execBridgeLimitExpiry (h : Keeps b s) : KeepsOut b (execBridgeLimitExpiry s) :=
  keepsOut_next (keeps_when (fun h => keeps_gradeOwn (keeps_advanceTo h)) h)

theorem keeps_execFixSubmit {pos time accSrc cmd} (h : Keeps b s) : KeepsOut b (execFixSubmit pos time accSrc cmd s) :=
  keepsOut_next (keeps_when keeps_fixSubmitOp h)

theorem keeps_fixFromWire {b'} (h : Keeps b s) : Keeps b (fixFromWire b' s) :=
  keeps_when keeps_fixSubmitOp h

theorem keeps_execFixProcess (h : Keeps b s) : KeepsOut b (execFixProcess s) :=
  keepsOut_next (keeps_when keeps_fixProcessOp h)

theorem keeps_execRemoteRecord {node payload} (h : Keeps b s) : KeepsOut b (execRemoteRecord node payload s) :=
  keepsOut_next (keeps_when (fun h => keeps_ite (keeps_setClass (keeps_bump h)) h) h)

theorem keeps_execRemoteStale (h : Keeps b s) : KeepsOut b (execRemoteStale s) := by
  unfold execRemoteStale
  refine keepsOut_next (keeps_when (fun h => ?_) h)
  split
  · exact keeps_staleRemote (keeps_toTb0 h)
  · exact h

theorem keeps_odoPosOp {core} (h : Keeps b s) : Keeps b (odoPosOp core s) :=
  keeps_setLatch h

theorem keeps_execOdoPosRead {lane core} (h : Keeps b s) : KeepsOut b (execOdoPosRead lane core s) :=
  keepsOut_next (keeps_when (fun h => keeps_answerAll (keeps_odoPosOp h)) h)

theorem keeps_noAgree (h : Keeps b s) : Keeps b (noAgree s) :=
  keeps_bump h

theorem keeps_judgePending {ch v} (h : Keeps b s) : Keeps b (judgePending ch v s) := by
  unfold judgePending
  split
  · exact h
  · split
    · exact keeps_ite (keeps_bump (keeps_setAgree h)) (keeps_pathDisagree (keeps_setAgree h))
    · exact keeps_pathDisagree (keeps_setAgree h)

theorem keeps_agreeTwo {ch same v} (h : Keeps b s) : Keeps b (agreeTwo ch same v s).2 :=
  keeps_ite_snd (keeps_setAgree (keeps_judgePending h)) (keeps_when keeps_noAgree (keeps_setAgree (keeps_judgePending h)))

theorem keeps_agreeCode {ch t} (h : Keeps b s) : Keeps b (agreeCode ch t s).2 := by
  unfold agreeCode
  dsimp only
  split
  · exact keeps_noAgree (keeps_setAgree (keeps_judgePending h))
  · exact keeps_when keeps_bump (keeps_setAgree (keeps_judgePending h))

theorem keeps_agreeMeas {ch t} (h : Keeps b s) : Keeps b (agreeMeas ch t s).2 :=
  keeps_ite_snd (keeps_foldl (fun _ _ h => keeps_pathDisagree h) (keeps_setAgree (keeps_setAgree h))) (keeps_noAgree (keeps_setAgree h))

theorem keeps_agreeSample {ch t} (h : Keeps b s) : Keeps b (agreeSample ch t s).2 := by
  unfold agreeSample
  dsimp only
  split
  · exact keeps_ite_snd (keeps_agreeCode h) (keeps_agreeMeas h)
  · exact keeps_agreeTwo h
  · exact keeps_judgePending h

theorem keeps_diSample {n v} (h : Keeps b s) : Keeps b (diSample n v s) :=
  keeps_ite h (keeps_when keeps_diChange (keeps_setDi h))

theorem keeps_diStrobe {n t} (h : Keeps b s) : Keeps b (diStrobe n t s) := by
  unfold diStrobe
  refine keeps_ite (keeps_diSample (keeps_testSample h)) (keeps_diSample ?_)
  split
  · exact keeps_ite_snd (keeps_agreeCode h) (keeps_agreeMeas h)
  · exact keeps_agreeTwo h
  · exact keeps_judgePending h

theorem keeps_speedStrobe {k t} (h : Keeps b s) : Keeps b (speedStrobe k t s) := by
  unfold speedStrobe
  refine keeps_when keeps_phaseStrobe ?_
  split
  · exact keeps_ite_snd (keeps_agreeCode h) (keeps_agreeMeas h)
  · exact keeps_agreeTwo h
  · exact keeps_judgePending h

theorem keeps_analogStrobe {n t} (h : Keeps b s) : Keeps b (analogStrobe n t s) := by
  unfold analogStrobe
  refine keeps_takeSample ?_
  split
  · exact keeps_ite_snd (keeps_agreeCode h) (keeps_agreeMeas h)
  · exact keeps_agreeTwo h
  · exact keeps_judgePending h

theorem keeps_inertialStrobe {samples} (h : Keeps b s) : Keeps b (inertialStrobe samples s) := by
  have hagreed : ∀ (xs : List (Tri Int × Nat)) (p : List (Option Int) × State), Keeps b p.2 →
      Keeps b (xs.foldl (fun (p : List (Option Int) × State) x =>
        if x.2 < 6 then let (v, s) := agreeSample (44 + x.2) x.1 p.2; (p.1 ++ [v], s) else p) p).2 := by
    intro xs
    induction xs with
    | nil => exact fun _ hp => hp
    | cons x xs ih => exact fun p hp => ih _ (keeps_ite_snd (keeps_agreeSample hp) hp)
  have h1 := hagreed samples.zipIdx ([], s) h
  unfold inertialStrobe
  generalize List.foldl _ ([], s) samples.zipIdx = x at h1 ⊢
  obtain ⟨axes, s1⟩ := x
  exact keeps_when keeps_inertStrobe h1

theorem keeps_strobe {kind samples} (h : Keeps b s) : Keeps b (strobe kind samples s) := by
  unfold strobe
  extract_lets p t due s1 vot1 s'
  have h1 : Keeps b s1 := keeps_toTb0 h
  clear_value s1
  have hs : Keeps b s' := keeps_same h1
  clear_value s'
  split
  · exact keeps_tripEval (keeps_foldl (fun _ _ h => keeps_ite (keeps_diStrobe h) (keeps_when keeps_speedStrobe h)) hs)
  · exact keeps_foldl (fun _ _ h => keeps_when keeps_analogStrobe h) hs
  · exact keeps_inertialStrobe hs

theorem keeps_execSampleStrobe {kind samples} (h : Keeps b s) : KeepsOut b (execSampleStrobe kind samples s) :=
  keepsOut_next (keeps_when keeps_strobe h)

theorem keeps_execPhyLinkUp {port speed} (h : Keeps b s) : KeepsOut b (execPhyLinkUp port speed s) := by
  refine keepsOut_next (keeps_ite ?_ h)
  have h1 := keeps_setPort (p := port) (f := fun x => { x with up := true, noStamp := !(speed == portSpeed port) }) h
  dsimp only
  generalize setPort _ _ _ = s1 at h1 ⊢
  split
  · exact keeps_calStart h1
  · exact keeps_setReg h1

theorem keeps_execPortDown {port} (h : Keeps b s) : KeepsOut b (execPortDown port s) :=
  keepsOut_next (keeps_ite (keeps_record (keeps_setPort h)) h)

theorem keeps_execCeRateWindowEnd {lane} (h : Keeps b s) : KeepsOut b (execCeRateWindowEnd lane s) :=
  keepsOut_next (keeps_when (fun h => keeps_setMem (keeps_toTb2 h)) h)

theorem keeps_execFrontEndFault (h : Keeps b s) : KeepsOut b (execFrontEndFault s) :=
  keepsOut_next (keeps_when (fun h => keeps_resolveOuts (keeps_bothGroups h)) h)

theorem keeps_execSliceOutputDisagreement {slice} (h : Keeps b s) : KeepsOut b (execSliceOutputDisagreement slice s) :=
  keepsOut_next (keeps_removeSlice h)

theorem keeps_powerOn {ga} (h : Keeps b s) : Keeps b (powerOn ga s) :=
  keeps_bootEntered (keeps_anew h (Nat.zero_le _) (Nat.zero_le _))

theorem keeps_execPowerValid {ga} (h : Keeps b s) : KeepsOut b (execPowerValid ga s) :=
  keepsOut_next (keeps_when keeps_powerOn h)

/-- The supervisor's events, at most 16, and the record of the power fail fit the queue. -/
theorem keeps_recordPowerFail (h : Keeps b s) : Keeps b (recordPowerFail s) := by
  refine keeps_ite (keeps_flushRecords (keeps_record h)) (keeps_commitPage (keeps_acceptAll (keeps_capacity (fun hcap => ?_) h)))
  obtain ⟨⟨hqueue, hevents⟩, hrest⟩ := hcap
  refine ⟨⟨?_, Nat.zero_le _⟩, hrest⟩
  rw [List.length_append, List.length_singleton]
  omega

theorem keeps_powerLoss (h : Keeps b s) : Keeps b (powerLoss s) := by
  have h1 := keeps_recordPowerFail (keeps_resolveOuts (keeps_bothGroups (b' := 0) (v := true) h))
  unfold powerLoss
  dsimp only
  generalize recordPowerFail _ = s1 at h1 ⊢
  exact keeps_anew h1 (Nat.zero_le _) (Nat.zero_le _)

theorem keeps_execPowerFail (h : Keeps b s) : KeepsOut b (execPowerFail s) :=
  keepsOut_next (keeps_when keeps_powerLoss h)

theorem keeps_wakeOp {source} (h : Keeps b s) : Keeps b (wakeOp source s) := by
  unfold wakeOp
  split
  · exact keeps_ite (keeps_ite (keeps_wakeReset h) (keeps_ite (keeps_same h) h)) h
  · exact h

theorem keeps_execWake {source} (h : Keeps b s) : KeepsOut b (execWake source s) :=
  keepsOut_next (keeps_when keeps_wakeOp h)

theorem keeps_rtcAlarmOp (h : Keeps b s) : Keeps b (rtcAlarmOp s) :=
  keeps_ite h (keeps_wakeOp (keeps_when keeps_raiseIrq (keeps_advance h)))

theorem keeps_execRtcAlarm (h : Keeps b s) : KeepsOut b (execRtcAlarm s) :=
  keepsOut_next (keeps_when keeps_rtcAlarmOp h)

theorem keeps_execDormantReached (h : Keeps b s) : KeepsOut b (execDormantReached s) :=
  keepsOut_next (keeps_when keeps_dormantReached h)

theorem keeps_bootType {bad t} (h : Keeps b s) : Keeps b (bootType bad s t) :=
  keeps_when keeps_record (keeps_setSlots h)

theorem keeps_startExclude {c l} (h : Keeps b s) : Keeps b (startExclude c s l) :=
  keeps_record (keeps_bump (keeps_wipeLane (keeps_resetLane (keeps_markExclusion h))))

theorem keeps_installKeys {l} (h : Keeps b s) : Keeps b (installKeys s l) :=
  keeps_ite (keeps_mems (memsWf_set l id id) h) h

theorem keeps_bootDone {bad} (h : Keeps b s) : Keeps b (bootDone bad s) := by
  unfold bootDone
  extract_lets s0 taken lost s1 sys2 isl2 s2 s3
  have h0 : Keeps b s0 := keeps_revertTrial (keeps_followMarks h)
  clear_value s0
  have h1 : Keeps b s1 := keeps_foldl (fun _ _ h => keeps_bootType h) h0
  clear_value s1
  have h2 : Keeps b s2 := keeps_foldl (fun _ _ h => keeps_setLane h) (keeps_same h1)
  have h3 : Keeps b s3 := keeps_foldl (fun _ _ h => keeps_startExclude h) h2
  clear_value s3
  exact keeps_ite (keeps_same h1) (keeps_setMode (keeps_foldl (fun _ _ h => keeps_installKeys h) h3))

theorem keeps_execBootComplete {badA badB badC} (h : Keeps b s) : KeepsOut b (execBootComplete badA badB badC s) :=
  keepsOut_next (keeps_when keeps_bootDone h)

theorem keeps_checkStore {ok} (h : Keeps b s) : Keeps b (checkStore ok s) :=
  keeps_ite h (keeps_ite (keeps_raiseIrq (keeps_record h)) (keeps_record h))

theorem keeps_restoreTakeover {m} (h : Keeps b s) : Keeps b (restoreTakeover m s) :=
  h

theorem keeps_restoreImage (h : Keeps b s) : Keeps b (restoreImage s) := by
  unfold restoreImage
  split
  · exact keeps_odoRestore (keeps_when keeps_restoreTakeover (keeps_same h))
  · exact h

theorem keeps_enableFrontEnd (h : Keeps b s) : Keeps b (enableFrontEnd s) :=
  keeps_resolveOuts (keeps_tripEval h)

theorem keeps_checkCompat (h : Keeps b s) : Keeps b (checkCompat s) :=
  keeps_ite (keeps_findReason (keeps_record (keeps_setCompat h))) (keeps_setCompat h)

theorem keeps_checkConfig (h : Keeps b s) : Keeps b (checkConfig s) :=
  keeps_when keeps_findReason (keeps_when keeps_matrixCommitOp h)

theorem keeps_verifyLanes {ok odd} (h : Keeps b s) : Keeps b (verifyLanes ok odd s) :=
  keeps_when keeps_findReason (keeps_foldl (fun _ _ h => keeps_startExclude h) (keeps_foldl (fun _ _ h => keeps_startExclude h) (keeps_foldl (fun _ _ h
    => keeps_setLane h) h)))

theorem keeps_holdupFailed (h : Keeps b s) : Keeps b (holdupFailed s) :=
  keeps_record h

theorem keeps_verifyDone {ok odd holdupOk storeOk} (h : Keeps b s) : Keeps b (verifyDone ok odd holdupOk storeOk s) :=
  keeps_ite (keeps_startTime (keeps_enterFound (keeps_findCommand (keeps_chkUpdate (keeps_checkConfig (keeps_findKept (keeps_when keeps_holdupFailed
    (keeps_when keeps_findReason (keeps_checkCompat (keeps_foldl (fun _ _ h => keeps_calStart h) (keeps_dormantEdges (keeps_enableFrontEnd
    (keeps_servoModes (keeps_setOverlap (keeps_restoreImage (keeps_verifyLanes (keeps_same (keeps_loadObjects (keeps_checkStore
    h))))))))))))))))))) (keeps_ite (keeps_afterVerify (keeps_chkUpdate (keeps_checkConfig (keeps_findKept (keeps_when keeps_holdupFailed (keeps_when
    keeps_findReason (keeps_checkCompat (keeps_foldl (fun _ _ h => keeps_calStart h) (keeps_dormantEdges (keeps_enableFrontEnd (keeps_servoModes
    (keeps_setOverlap (keeps_restoreImage (keeps_verifyLanes (keeps_same (keeps_loadObjects (keeps_checkStore h))))))))))))))))) (keeps_decideRole
    (keeps_chkUpdate (keeps_checkConfig (keeps_findKept (keeps_when keeps_holdupFailed (keeps_when keeps_findReason (keeps_checkCompat (keeps_foldl
    (fun _ _ h => keeps_calStart h) (keeps_dormantEdges (keeps_enableFrontEnd (keeps_servoModes (keeps_setOverlap (keeps_restoreImage
    (keeps_verifyLanes (keeps_same (keeps_loadObjects (keeps_checkStore h))))))))))))))))))

theorem keeps_execVerifyComplete {lanesOk odd holdupOk storeOk} (h : Keeps b s) : KeepsOut b (execVerifyComplete lanesOk odd holdupOk storeOk s) :=
  keepsOut_next (keeps_when keeps_verifyDone h)

theorem keeps_watchdogReset (h : Keeps b s) : Keeps b (watchdogReset s) :=
  keeps_moduleReset (keeps_record h)

theorem keeps_execStartWatchdog (h : Keeps b s) : KeepsOut b (execStartWatchdog s) :=
  keepsOut_next (keeps_when keeps_watchdogReset h)

theorem keeps_execAutoRestart (h : Keeps b s) : KeepsOut b (execAutoRestart s) :=
  keepsOut_next (keeps_when (fun h => keeps_moduleReset h) h)

theorem keeps_execRequestDormant {key} (h : Keeps b s) : KeepsOut b (execRequestDormant key s) :=
  keepsOut_next (keeps_when keeps_modeReqOp h)

theorem keeps_execRequestOperational {key} (h : Keeps b s) : KeepsOut b (execRequestOperational key s) :=
  keepsOut_next (keeps_when keeps_modeReqOp h)

theorem keeps_execRequestSafeHold {key} (h : Keeps b s) : KeepsOut b (execRequestSafeHold key s) :=
  keepsOut_next (keeps_when keeps_modeReqOp h)

theorem keeps_resetReqOp {v} (h : Keeps b s) : Keeps b (resetReqOp v s) :=
  keeps_ite (keeps_bump h) (keeps_ite (keeps_moduleReset h) h)

theorem keeps_execModuleResetRequest {v} (h : Keeps b s) : KeepsOut b (execModuleResetRequest v s) :=
  keepsOut_next (keeps_when keeps_resetReqOp h)

theorem keeps_overvoltage (h : Keeps b s) : Keeps b (overvoltage s) :=
  keeps_findReason (keeps_raiseIrq h)

theorem keeps_execOvervoltageSupply (h : Keeps b s) : KeepsOut b (execOvervoltageSupply s) :=
  keepsOut_next (keeps_when keeps_overvoltage h)

theorem keeps_holdup {pass} (h : Keeps b s) : Keeps b (holdup pass s) :=
  keeps_ite (keeps_clearReason h) (keeps_findReason (keeps_holdupFailed h))

theorem keeps_execHoldupTest {pass} (h : Keeps b s) : KeepsOut b (execHoldupTest pass s) :=
  keepsOut_next (keeps_when keeps_holdup h)

theorem keeps_roleSends (h : Keeps b s) : Keeps b (roleSends s) :=
  keeps_foldl (fun _ _ h => keeps_sendRecord h) h

theorem keeps_execRoleRecord {r} (h : Keeps b s) : KeepsOut b (execRoleRecord r s) :=
  keepsOut_next (keeps_ite (keeps_ite (keeps_proceedActive (keeps_same (keeps_roleSends h))) (keeps_toStandby (keeps_same (keeps_roleSends h))))
    h)

theorem keeps_waitGa1 (h : Keeps b s) : Keeps b (if s.isl.ga % 2 = 0 then proceedActive true s else { s with chk := { s.chk with ga1Wait := true } }) :=
  keeps_ite (keeps_proceedActive h) (keeps_same h)

theorem keeps_execRoleTimeout (h : Keeps b s) : KeepsOut b (execRoleTimeout s) :=
  keepsOut_next (keeps_ite (keeps_waitGa1 (keeps_roleSends (keeps_advanceTo h))) h)

theorem keeps_execGa1ClaimWaitEnd (h : Keeps b s) : KeepsOut b (execGa1ClaimWaitEnd s) :=
  keepsOut_next (keeps_when (fun h => keeps_ite (keeps_toStandby (keeps_advanceTo h)) (keeps_proceedActive (keeps_advanceTo h))) h)

theorem keeps_endWatch (h : Keeps b s) : Keeps b { s with chk := { s.chk with watch := false } } := keeps_same h

theorem keeps_execGaWatchEnd (h : Keeps b s) : KeepsOut b (execGaWatchEnd s) := by
  refine keepsOut_next (keeps_ite ?_ h)
  have h1 := keeps_endWatch (keeps_advanceTo (t := s.chk.watchAt + 60000000) h)
  exact keeps_ite (keeps_ite h1 (keeps_afterVerify h1)) (keeps_addReason h1)

theorem keeps_execPartnerClaimEdge (h : Keeps b s) : KeepsOut b (execPartnerClaimEdge s) :=
  keepsOut_next (keeps_ite (keeps_ite (keeps_chkUpdate (keeps_record (keeps_send (h)))) h) (keeps_loseClaim h))

theorem keeps_gotRecord {us} (h : Keeps b s) : Keeps b (gotRecord us s) :=
  h

theorem keeps_startSet {r} (h : Keeps b s) : Keeps b (startSet r s) := by
  unfold startSet
  refine keeps_ite (keeps_same (keeps_armUpdate (keeps_same ?_))) (keeps_discardSet (keeps_armUpdate (keeps_same ?_)))
  · split
    · exact keeps_discardSet (keeps_gotRecord h)
    · exact keeps_gotRecord h
  · split
    · exact keeps_discardSet (keeps_gotRecord h)
    · exact keeps_gotRecord h

theorem keeps_execSetStart {r} (h : Keeps b s) : KeepsOut b (execSetStart r s) :=
  keepsOut_next (keeps_when keeps_startSet h)

theorem keeps_takePage {r i} (h : Keeps b s) : Keeps b (takePage r i s) :=
  keeps_ite (keeps_setHalf (keeps_gotRecord h)) (keeps_discardSet h)

theorem keeps_execCheckpointPage {r} (h : Keeps b s) : KeepsOut b (execCheckpointPage r s) := by
  unfold execCheckpointPage
  refine keepsOut_next ?_
  split
  · exact keeps_when keeps_takePage h
  · exact h

theorem keeps_takeCommit {r i} (h : Keeps b s) : Keeps b (takeCommit r i s) :=
  keeps_ite (keeps_armUpdate (keeps_setHalf (keeps_gotRecord h))) (keeps_discardSet h)

theorem keeps_execSetCommit {r} (h : Keeps b s) : KeepsOut b (execSetCommit r s) := by
  unfold execSetCommit
  refine keepsOut_next ?_
  split
  · exact keeps_when keeps_takeCommit h
  · exact h

theorem keeps_execKeepalive {r} (h : Keeps b s) : KeepsOut b (execKeepalive r s) :=
  keepsOut_next (keeps_when keeps_gotRecord h)

theorem keeps_execPauseRecord {r} (h : Keeps b s) : KeepsOut b (execPauseRecord r s) :=
  keepsOut_next (keeps_when (keeps_same) h)

theorem keeps_execPark {r} (h : Keeps b s) : KeepsOut b (execPark r s) := by
  refine keepsOut_next (keeps_when (fun h => ?_) h)
  have h1 := keeps_setMode (m := .dormant) h
  dsimp only
  generalize setMode .dormant s = s1 at h1 ⊢
  exact keeps_powerDown (keeps_same h1)

theorem keeps_execHandoverRecord {r} (h : Keeps b s) : KeepsOut b (execHandoverRecord r s) :=
  keepsOut_next (keeps_when keeps_recognise h)

theorem keeps_execStreamTimeout (h : Keeps b s) : KeepsOut b (execStreamTimeout s) :=
  keepsOut_next (keeps_when (fun h => keeps_recognise (keeps_advanceTo h)) h)

theorem keeps_execPartnerFailAsserted (h : Keeps b s) : KeepsOut b (execPartnerFailAsserted s) :=
  keepsOut_next (keeps_ite (keeps_ite (keeps_moduleReset (h)) (keeps_recognise h)) (keeps_chkUpdate (keeps_resyncIfDue h)))

theorem keeps_execPartnerFailReleased (h : Keeps b s) : KeepsOut b (execPartnerFailReleased s) :=
  keepsOut_next (keeps_chkUpdate h)

theorem keeps_execPartnerPresentChange {present} (h : Keeps b s) : KeepsOut b (execPartnerPresentChange present s) :=
  keepsOut_next (keeps_ite (keeps_chkUpdate (keeps_resyncIfDue h)) (keeps_chkUpdate h))

theorem keeps_execAnnounceSend (h : Keeps b s) : KeepsOut b (execAnnounceSend s) :=
  keepsOut_next (keeps_ite (keeps_queueClaim h) h)

theorem keeps_execClaimAnnounce {source claim unit} (h : Keeps b s) : KeepsOut b (execClaimAnnounce source claim unit s) := by
  refine keepsOut_next ?_
  extract_lets s1 s2
  have h1 : Keeps b s1 := keeps_when keeps_seeClaim h
  have h2 : Keeps b s2 := keeps_bump h1
  clear_value s2
  clear_value s1
  exact keeps_ite (keeps_ite (keeps_loseClaim h1) (keeps_ite (keeps_raiseIrq (keeps_bump (keeps_queueClaim (keeps_same h2)))) h2)) h1

theorem keeps_execClaimReject {dest claim unit} (h : Keeps b s) : KeepsOut b (execClaimReject dest claim unit s) :=
  keepsOut_next (keeps_ite (keeps_ite (keeps_loseClaim (keeps_seeClaim h)) (keeps_bump (keeps_seeClaim h))) h)

theorem keeps_resyncCmd (h : Keeps b s) : Keeps b (resyncCmd s) :=
  keeps_ite (keeps_chkResult h) (keeps_chkResult (keeps_when (fun h => keeps_chkUpdate (keeps_startResync h)) h))

theorem keeps_handoverCmd (h : Keeps b s) : Keeps b (handoverCmd s) :=
  keeps_ite (keeps_chkResult h) (keeps_ite (keeps_chkResult h) (keeps_chkResult (keeps_sendRecord (keeps_completeSet h))))

theorem keeps_chkCmdOp {v} (h : Keeps b s) : Keeps b (chkCmdOp v s) := by
  unfold chkCmdOp
  refine keeps_ite (keeps_chkResult h) ?_
  split
  · exact keeps_resyncCmd h
  · exact keeps_handoverCmd h
  · exact keeps_chkResult h

theorem keeps_execChkResync {key} (h : Keeps b s) : KeepsOut b (execChkResync key s) :=
  keepsOut_next (keeps_ite (keeps_chkResult h) (keeps_resyncCmd h))

theorem keeps_execChkHandover {key} (h : Keeps b s) : KeepsOut b (execChkHandover key s) :=
  keepsOut_next (keeps_ite (keeps_chkResult h) (keeps_handoverCmd h))

theorem keeps_cmpReportOp {v} (h : Keeps b s) : Keeps b (cmpReportOp v s) :=
  keeps_ite (keeps_bump h) (keeps_compareFail h)

theorem keeps_execCmpReport {v} (h : Keeps b s) : KeepsOut b (execCmpReport v s) :=
  keepsOut_next (keeps_when keeps_cmpReportOp h)

theorem keeps_matchEntry {n} (h : Keeps b s) : Keeps b (matchEntry n s) :=
  keeps_ite h (keeps_ite (keeps_phaseEntry h) (keeps_occurrence (keeps_compared h)))

theorem keeps_execPisteMatch {entry slices} (h : Keeps b s) : KeepsOut b (execPisteMatch entry slices s) := by
  unfold execPisteMatch
  refine keepsOut_next (keeps_when (fun h => ?_) h)
  split
  · exact keeps_settleEdge (keeps_foldl (fun _ _ h => keeps_matchEntry h) (keeps_advance h))
  · exact h

theorem keeps_execPulseEnd {entry} (h : Keeps b s) : KeepsOut b (execPulseEnd entry s) := by
  unfold execPulseEnd
  refine keepsOut_next ?_
  split
  · exact h
  · exact keeps_when (fun h => keeps_ite (keeps_raiseIrq (keeps_bump (keeps_advanceTo (keeps_same h)))) (keeps_ite (keeps_setSync (keeps_advanceTo
      (keeps_same h))) (keeps_resolveOuts (keeps_same (keeps_advanceTo (keeps_same h)))))) h

theorem keeps_execGuardWaitFire {entry} (h : Keeps b s) : KeepsOut b (execGuardWaitFire entry s) :=
  keepsOut_next (keeps_when (fun h => keeps_settleEdge (keeps_waitFire h)) h)

theorem keeps_execWaitLimitExpiry {entry} (h : Keeps b s) : KeepsOut b (execWaitLimitExpiry entry s) :=
  keepsOut_next (keeps_when (fun h => keeps_skipOccurrence (keeps_advanceTo h)) h)

theorem keeps_execArm {v} (h : Keeps b s) : KeepsOut b (execArm v s) :=
  keepsOut_next (keeps_when keeps_pstCmdOp h)

theorem keeps_execDisarm {v} (h : Keeps b s) : KeepsOut b (execDisarm v s) :=
  keepsOut_next (keeps_when keeps_pstCmdOp h)

theorem keeps_execArmMask {v} (h : Keeps b s) : KeepsOut b (execArmMask v s) :=
  keepsOut_next (keeps_when keeps_pstCmdOp h)

theorem keeps_execDisarmMask {v} (h : Keeps b s) : KeepsOut b (execDisarmMask v s) :=
  keepsOut_next (keeps_when keeps_pstCmdOp h)

theorem keeps_execDisarmAll {v} (h : Keeps b s) : KeepsOut b (execDisarmAll v s) :=
  keepsOut_next (keeps_when keeps_pstCmdOp h)

theorem keeps_execEntryWordWrite {entry word v} (h : Keeps b s) : KeepsOut b (execEntryWordWrite entry word v s) :=
  keepsOut_next (keeps_when keeps_entryWordOp h)

theorem keeps_fireHeadOp {core} (h : Keeps b s) : Keeps b (fireHeadOp core s) := by
  refine keeps_answerAll (keeps_setLatch (keeps_capacity (fun hcap => ?_) h))
  refine ⟨hcap.1, ?_, hcap.2.2⟩
  exact (List.length_drop ▸ Nat.sub_le _ _).trans hcap.2.1

theorem keeps_execPstFireHeadRead {core} (h : Keeps b s) : KeepsOut b (execPstFireHeadRead core s) :=
  keepsOut_next (keeps_when keeps_fireHeadOp h)

theorem keeps_execPisteStoreScrub {entry} (h : Keeps b s) : KeepsOut b (execPisteStoreScrub entry s) :=
  keepsOut_next (keeps_when (fun h => keeps_raiseIrq (keeps_record (keeps_setStatus (keeps_dropArmed h)))) h)

theorem keeps_execRecordRequest {type items} (h : Keeps b s) : KeepsOut b (execRecordRequest type items s) :=
  keepsOut_next (keeps_when keeps_record h)

theorem keeps_execRecordAccept (h : Keeps b s) : KeepsOut b (execRecordAccept s) :=
  keepsOut_next (keeps_when keeps_acceptOne h)

theorem keeps_pageDue {failed} (h : Keeps b s) : Keeps b (pageDue failed s) :=
  keeps_ite h (keeps_commitPage (keeps_retireBlocks (keeps_advanceTo h)))

theorem keeps_execPageCommit {failed} (h : Keeps b s) : KeepsOut b (execPageCommit failed s) :=
  keepsOut_next (keeps_when keeps_pageDue h)

theorem keeps_tellStandby (h : Keeps b s) : Keeps b (tellStandby s) := by
  refine keeps_ite h ?_
  have hsame : ∀ (es : List (Nat × Word × Nat)) (t : State), Keeps b t → t.chk = s.chk →
      Keeps b (es.foldl (fun s e => record 0x0A04 [iU8 1 e.1, iU32 2 e.2.1.toNat, iU64 3 e.2.2] s) t) ∧
      (es.foldl (fun s e => record 0x0A04 [iU8 1 e.1, iU32 2 e.2.1.toNat, iU64 3 e.2.2] s) t).chk = s.chk := by
    intro es
    induction es with
    | nil => exact fun _ ht hchk => ⟨ht, hchk⟩
    | cons e es ih => exact fun t ht hchk => ih _ (keeps_record ht) ((record_chk _ _ t).trans hchk)
  obtain ⟨h1, hchk⟩ := hsame s.chk.events s h rfl
  generalize List.foldl _ s s.chk.events = s1 at h1 hchk ⊢
  exact keeps_same h1 (hstandby := by rw [hchk])

theorem keeps_recReady {nand} (h : Keeps b s) : Keeps b (recReady nand s) := by
  unfold recReady
  extract_lets lost fails erec1 isl1 s1 s2
  have h1 : Keeps b s1 := by
    refine keeps_capacity (fun hcap => ?_) h
    obtain ⟨⟨hqueue, hevents⟩, hrest⟩ := hcap
    exact ⟨⟨hevents.trans (by decide), Nat.zero_le _⟩, hrest⟩
  clear_value s1
  have h2 : Keeps b s2 := keeps_when keeps_raiseIrq (keeps_bumpBy (keeps_acceptAll h1))
  clear_value s2
  exact keeps_tellStandby (keeps_ite h2 (keeps_same h2))

theorem keeps_execRecReady {nand} (h : Keeps b s) : KeepsOut b (execRecReady nand s) :=
  keepsOut_next (keeps_when keeps_recReady h)

theorem keeps_appRecordOp {v} (h : Keeps b s) : Keeps b (appRecordOp v s) :=
  keeps_ite (keeps_raiseIrq (keeps_cmdResult h)) (keeps_ite (keeps_raiseIrq (keeps_cmdResult h)) (keeps_ite (keeps_raiseIrq (keeps_cmdResult h))
    (keeps_raiseIrq (keeps_cmdResult (keeps_requestRec h)))))

theorem keeps_execAppRecord {v} (h : Keeps b s) : KeepsOut b (execAppRecord v s) :=
  keepsOut_next (keeps_when keeps_appRecordOp h)

theorem keeps_beginClear {kept role path} (h : Keeps b s) : Keeps b (beginClear kept role path s) :=
  keeps_commitPage (keeps_same (keeps_acceptAll (keeps_record (keeps_acceptAll h))))

theorem keeps_clearOp {kept role path} (h : Keeps b s) : Keeps b (clearOp kept role path s) := by
  unfold clearOp
  split
  · exact keeps_beginClear h
  · exact keeps_ite h (keeps_same h)
  · exact h

theorem keeps_execClearCirculating {role path} (h : Keeps b s) : KeepsOut b (execClearCirculating role path s) :=
  keepsOut_next (keeps_when keeps_clearOp h)

theorem keeps_execClearKept {role path} (h : Keeps b s) : KeepsOut b (execClearKept role path s) :=
  keepsOut_next (keeps_when keeps_clearOp h)

theorem keeps_clearDone {c} (h : Keeps b s) : Keeps b (clearDone c s) :=
  keeps_raiseIrq h

theorem keeps_execClearComplete (h : Keeps b s) : KeepsOut b (execClearComplete s) := by
  unfold execClearComplete
  refine keepsOut_next ?_
  split
  · exact keeps_when keeps_clearDone h
  · exact h

theorem keeps_recordLoadOp {seq found} (h : Keeps b s) : Keeps b (recordLoadOp seq found s) := by
  have h1 := keeps_setReg (k := Off.REC_READ_SEQ) (v := seq) h
  unfold recordLoadOp
  generalize setReg Off.REC_READ_SEQ seq s = s1 at h1 ⊢
  dsimp only
  split
  · exact keeps_when keeps_bump (keeps_setReg (keeps_same h1))
  · exact keeps_setReg h1

theorem keeps_execRecordLoad {seq found} (h : Keeps b s) : KeepsOut b (execRecordLoad seq found s) :=
  keepsOut_next (keeps_when keeps_recordLoadOp h)

theorem keeps_expStatus {state cause} (h : Keeps b s) : Keeps b (expStatus state cause s) :=
  keeps_cmdResult h

theorem keeps_expEnds {state cause} (h : Keeps b s) : Keeps b (expEnds state cause s) :=
  keeps_setReg h

theorem keeps_expWrite {i} (h : Keeps b s) : Keeps b (expWrite i s) := by
  unfold expWrite
  exact keeps_setReg (keeps_bumpBy (keeps_setDma (keeps_countBytes (keeps_dmaWrite h))))

theorem keeps_exportStartOp {v} (h : Keeps b s) : Keeps b (exportStartOp v s) :=
  keeps_ite (keeps_expStatus h) (keeps_ite (keeps_expStatus h) (keeps_ite (keeps_expStatus h) (keeps_ite (keeps_expStatus h) (keeps_setDma (keeps_setReg
    (keeps_expStatus h))))))

theorem keeps_execExportStart {v} (h : Keeps b s) : KeepsOut b (execExportStart v s) :=
  keepsOut_next (keeps_when keeps_exportStartOp h)

theorem keeps_exportOver {state cause d} (h : Keeps b s) : Keeps b (exportOver state cause d s) := by
  unfold exportOver
  split
  · exact keeps_beginClear (keeps_raiseIrq (keeps_setDma (keeps_expEnds (keeps_same h))))
  · exact keeps_raiseIrq (keeps_setDma (keeps_expEnds (keeps_same h)))

theorem keeps_exportFailed (h : Keeps b s) : Keeps b (exportFailed s) :=
  keeps_when keeps_exportOver h

theorem keeps_exportAbortOp {v} (h : Keeps b s) : Keeps b (exportAbortOp v s) :=
  keeps_ite (keeps_expStatus h) (keeps_ite (keeps_exportOver (keeps_expWrite h)) h)

theorem keeps_execExportAbort {v} (h : Keeps b s) : KeepsOut b (execExportAbort v s) :=
  keepsOut_next (keeps_when keeps_exportAbortOp h)

theorem keeps_exportEndOp {result} (h : Keeps b s) : Keeps b (exportEndOp result s) :=
  keeps_ite (keeps_exportFailed (keeps_expWrite h)) (keeps_ite (keeps_exportOver (keeps_bump (keeps_expWrite h))) (keeps_ite (keeps_expWrite h)
    (keeps_exportOver (keeps_expWrite h))))

theorem keeps_execExportEnd {result} (h : Keeps b s) : KeepsOut b (execExportEnd result s) :=
  keepsOut_next (keeps_when keeps_exportEndOp h)

theorem keeps_execServoOffsetInput {base e} (h : Keeps b s) : KeepsOut b (execServoOffsetInput base e s) := by
  refine keepsOut_next (keeps_when (fun h => ?_) h)
  split
  · exact keeps_tb0Input h
  · exact keeps_servoInput h

theorem keeps_tbRefuse {l} (h : Keeps b s) : Keeps b (tbRefuse l s) :=
  keeps_bumpLane h

theorem keeps_everyLane {f} (hf : ∀ x0 t, Keeps b t → Keeps b (f x0 t)) (h : Keeps b s) : Keeps b (everyLane f s) :=
  keeps_foldl (fun _ _ h => hf _ _ h) h

theorem keeps_tbStepOp {core base hi l} (h : Keeps b s) : Keeps b (tbStepOp core base hi l s) :=
  keeps_ite (keeps_issue (keeps_commitLo h)) (keeps_tbRefuse (keeps_commitLo h))

theorem keeps_execTbStepWrite {core base hi} (h : Keeps b s) : KeepsOut b (execTbStepWrite core base hi s) :=
  keepsOut_next (keeps_when (fun h => keeps_everyLane (fun _ _ h => keeps_tbStepOp h) h) h)

theorem keeps_tbRateOp {core base hi l} (h : Keeps b s) : Keeps b (tbRateOp core base hi l s) :=
  keeps_ite (keeps_issue (keeps_setReg (keeps_commitLo h))) (keeps_tbRefuse (keeps_commitLo h))

theorem keeps_execTbRateWrite {core base hi} (h : Keeps b s) : KeepsOut b (execTbRateWrite core base hi s) :=
  keepsOut_next (keeps_when (fun h => keeps_everyLane (fun _ _ h => keeps_tbRateOp h) h) h)

theorem keeps_tbOffsetOp {base v l} (h : Keeps b s) : Keeps b (tbOffsetOp base v l s) :=
  keeps_ite (keeps_stateWatch (fun _ h => keeps_laneInput h) h) (keeps_tbRefuse h)

theorem keeps_execTbOffsetInWrite {base v} (h : Keeps b s) : KeepsOut b (execTbOffsetInWrite base v s) :=
  keepsOut_next (keeps_when (fun h => keeps_everyLane (fun _ _ h => keeps_tbOffsetOp h) h) h)

theorem keeps_execServoHoldEnter {base} (h : Keeps b s) : KeepsOut b (execServoHoldEnter base s) :=
  keepsOut_next (keeps_when keeps_holdEnter h)

theorem keeps_execServoHoldLimit {base} (h : Keeps b s) : KeepsOut b (execServoHoldLimit base s) :=
  keepsOut_next (keeps_when keeps_holdLimit h)

theorem keeps_trimOp {l} (h : Keeps b s) : Keeps b (trimOp l s) :=
  keeps_issue h

theorem keeps_laneTrim {l} (h : Keeps b s) : Keeps b (laneTrim l s) :=
  keeps_trimOp (keeps_setReg h)

theorem keeps_execTbTrimWrite {valid} (h : Keeps b s) : KeepsOut b (execTbTrimWrite valid s) :=
  keepsOut_next (keeps_when (fun h => keeps_passDone (keeps_ite (keeps_everyLane (fun _ _ h => keeps_laneTrim h) h) (keeps_record h))) h)

theorem keeps_setPtp {f} (h : Keeps b s) : Keeps b (setPtp f s) :=
  h

theorem keeps_hearMaster {m} (h : Keeps b s) : Keeps b (hearMaster m s) :=
  keeps_setPtp h

theorem keeps_ptpInput (h : Keeps b s) : Keeps b (ptpInput s) := by
  unfold ptpInput
  split
  · exact keeps_servoInput h
  · exact h

theorem keeps_ptpSynced (h : Keeps b s) : Keeps b (ptpSynced s) := by
  unfold ptpSynced
  split
  · exact keeps_setPtp (keeps_send (keeps_ptpInput h))
  · exact h

theorem keeps_ptpDelay {d} (h : Keeps b s) : Keeps b (ptpDelay d s) :=
  keeps_when keeps_ptpInput (keeps_setPtp h)

theorem keeps_ptpTake {m x} (h : Keeps b s) : Keeps b (ptpTake m x s) := by
  unfold ptpTake
  dsimp only
  split
  · exact keeps_hearMaster h
  · exact keeps_ite (keeps_ptpSynced (keeps_setPtp (keeps_setPtp h))) (keeps_setPtp h)
  · exact keeps_ite (keeps_ptpSynced (keeps_setPtp h)) h
  · split
    · exact keeps_ite (keeps_ptpDelay h) h
    · exact h
  · split
    · refine keeps_ite ?_ h
      split
      · exact keeps_ptpDelay h
      · exact keeps_setPtp h
    · exact h
  · split
    · exact keeps_ite (keeps_ptpDelay h) h
    · exact h

theorem keeps_execPtpMessage {port m stamp} (h : Keeps b s) : KeepsOut b (execPtpMessage port m stamp s) := by
  unfold execPtpMessage
  refine keepsOut_next (keeps_ite ?_ h)
  split
  · exact keeps_ptpTake (keeps_ite h (keeps_setPtp h))
  · exact h

theorem keeps_laneAlignFault {lane} (h : Keeps b s) : Keeps b (laneAlignFault lane s) :=
  keeps_excludeLane (keeps_setReg h)

theorem keeps_calReqOp {v} (h : Keeps b s) : Keeps b (calReqOp v s) :=
  keeps_ite (keeps_calStatus h) (keeps_ite (keeps_calStatus h) (keeps_ite (keeps_calStatus h) (keeps_ite (keeps_calStatus h) (keeps_setPort
    (keeps_calStart (keeps_calStatus h))))))

theorem keeps_execCalRequest {v} (h : Keeps b s) : KeepsOut b (execCalRequest v s) :=
  keepsOut_next (keeps_when keeps_calReqOp h)

theorem keeps_execCalibrationEnd {port} (h : Keeps b s) : KeepsOut b (execCalibrationEnd port s) :=
  keepsOut_next (keeps_when keeps_calEnd h)

theorem keeps_calFrame {port f} (hf : ∀ t, Keeps b t → Keeps b (f t)) (h : Keeps b s) : Keeps b (calFrame port f s) :=
  keeps_ite h (keeps_ite (keeps_guardViolate h) (hf _ h))

theorem keeps_execCalDev {port dev} (h : Keeps b s) : KeepsOut b (execCalDev port dev s) :=
  keepsOut_next (keeps_calFrame (fun _ h => keeps_when keeps_setPort h) h)

theorem keeps_execCalProbe {port no t1 t2} (h : Keeps b s) : KeepsOut b (execCalProbe port no t1 t2 s) := by
  unfold execCalProbe
  refine keepsOut_next (keeps_calFrame (fun _ h => ?_) h)
  split
  · exact h
  · exact keeps_ite (keeps_when keeps_setPort h) (keeps_sendCal h)

theorem keeps_execCalReply {port _no t1 t2 t3 t4} (h : Keeps b s) : KeepsOut b (execCalReply port _no t1 t2 t3 t4 s) := by
  unfold execCalReply
  refine keepsOut_next (keeps_calFrame (fun _ h => ?_) h)
  split
  · exact h
  · exact keeps_when keeps_setPort h

theorem keeps_execCalLoopReq {port} (h : Keeps b s) : KeepsOut b (execCalLoopReq port s) :=
  keepsOut_next (keeps_calFrame (fun _ h => keeps_setPort h) h)

theorem keeps_execCalNoLoop {port} (h : Keeps b s) : KeepsOut b (execCalNoLoop port s) :=
  keepsOut_next (keeps_calFrame (fun _ h => keeps_when (fun h => keeps_calEnd (keeps_setPort h)) h) h)

theorem keeps_regWriteGen {l core off v} (h : Keeps b s) : Keeps b (regWriteGen l core off v s) :=
  keeps_ite (keeps_putLo h) (keeps_ite (keeps_ite (keeps_setReg (keeps_commitLo h)) (keeps_shadowWrite (keeps_shadowWrite (keeps_dropLo h)))) (keeps_ite
    (keeps_setReg h) (keeps_shadowWrite h)))

theorem keeps_writeIcu {l core off v} (h : Keeps b s) : Keeps b (writeIcu l core off v s) :=
  keeps_ite (keeps_completeOp h) (keeps_ite (keeps_routeLane (keeps_setCore h)) (keeps_ite (keeps_swiOp h) (keeps_ite (keeps_pendClearOp h) (keeps_ite
    (keeps_srcCfgOp h) (keeps_regWriteGen h)))))

theorem keeps_writeVot {l core stream off v} (h : Keeps b s) : Keeps b (writeVot l core stream off v s) :=
  keeps_ite (keeps_rejoinReqOp h) (keeps_ite (keeps_ite h (keeps_answerAll h)) (keeps_ite (keeps_ite h (keeps_answerAll h)) (keeps_regWriteGen h)))

theorem keeps_writeCyc {l core off v} (h : Keeps b s) : Keeps b (writeCyc l core off v s) :=
  keeps_ite (keeps_ocStageOp (keeps_commitLo h)) (keeps_ite (keeps_frcStageOp (keeps_commitLo h)) (keeps_ite (keeps_ocCmdOp h) (keeps_ite
    (keeps_frcCmdOp h) (keeps_ite (keeps_shadowWrite h) (keeps_regWriteGen h)))))

theorem keeps_writeTb {l core off v} (h : Keeps b s) : Keeps b (writeTb l core off v s) :=
  keeps_ite (keeps_tbRateOp h) (keeps_ite (keeps_tbStepOp h) (keeps_ite (keeps_tbOffsetOp h) (keeps_ite (keeps_trimOp (keeps_setReg h))
    (keeps_regWriteGen h))))

theorem keeps_writePst {l core off v} (h : Keeps b s) : Keeps b (writePst l core off v s) :=
  keeps_ite (keeps_pstCmdOp h) (keeps_ite (keeps_entryWordOp h) (keeps_regWriteGen h))

theorem keeps_writeOdo {l core off v} (h : Keeps b s) : Keeps b (writeOdo l core off v s) :=
  keeps_ite (keeps_fixSubmitOp h) (keeps_regWriteGen h)

theorem keeps_slotSelOp {v} (h : Keeps b s) : Keeps b (slotSelOp v s) :=
  keeps_setReg (keeps_setReg (keeps_setReg (keeps_setReg (keeps_setReg (keeps_setReg h)))))

theorem keeps_matrixCmdOp {v} (h : Keeps b s) : Keeps b (matrixCmdOp v s) := by
  unfold matrixCmdOp
  split
  · exact keeps_matrixCommitOp h
  · exact keeps_matrixDiscardOp h
  · exact keeps_matrixReject h

theorem keeps_txbCmdOp {v} (h : Keeps b s) : Keeps b (txbCmdOp v s) := by
  unfold txbCmdOp
  split
  · exact keeps_txState h
  · exact keeps_txState h
  · exact h

theorem keeps_writeFtn {l core off v} (h : Keeps b s) : Keeps b (writeFtn l core off v s) :=
  keeps_ite (keeps_ite (keeps_runSetOp h) (keeps_runClearOp h)) (keeps_ite (keeps_matrixCmdOp h) (keeps_ite (keeps_slotSelOp h) (keeps_ite
    (keeps_slotW4Op h) (keeps_ite (keeps_txbCmdOp h) (keeps_ite (keeps_txbWriteOp h) (keeps_ite (keeps_rxbSnapshotOp h) (keeps_ite (keeps_ringCmdOp h)
    (keeps_ite (keeps_guardCmdOp h) (keeps_ite (keeps_calReqOp h) (keeps_regWriteGen h))))))))))

theorem keeps_writeDio {l core off v} (h : Keeps b s) : Keeps b (writeDio l core off v s) :=
  keeps_ite (keeps_outCmdOp h) (keeps_ite (keeps_ctrlCmdOp h) (keeps_ite (keeps_tripRegOp h) (keeps_regWriteGen h)))

theorem keeps_writeBrg {l core off v} (h : Keeps b s) : Keeps b (writeBrg l core off v s) :=
  keeps_ite (keeps_xwrite h) (keeps_regWriteGen h)

theorem keeps_writeDma {l core off v} (h : Keeps b s) : Keeps b (writeDma l core off v s) :=
  keeps_ite (keeps_dmaCmd h) (keeps_regWriteGen h)

theorem keeps_expCmdOp {v} (h : Keeps b s) : Keeps b (expCmdOp v s) := by
  unfold expCmdOp
  split
  · exact keeps_exportStartOp h
  · exact keeps_exportAbortOp h
  · exact h

theorem keeps_writeRec {l core off v} (h : Keeps b s) : Keeps b (writeRec l core off v s) :=
  keeps_ite (keeps_when keeps_recordLoadOp h) (keeps_ite (keeps_when keeps_appRecordOp h) (keeps_ite (keeps_when keeps_expCmdOp h) (keeps_regWriteGen
    h)))

theorem keeps_writeUpd {l core off v} (h : Keeps b s) : Keeps b (writeUpd l core off v s) :=
  keeps_ite (keeps_updCmdOp h) (keeps_ite (keeps_blkCmdOp h) (keeps_regWriteGen h))

theorem keeps_writeChk {l core off v} (h : Keeps b s) : Keeps b (writeChk l core off v s) :=
  keeps_ite (keeps_chkCmdOp h) (keeps_ite (keeps_cmpReportOp h) (keeps_regWriteGen h))

theorem keeps_writeSys {l core off v} (h : Keeps b s) : Keeps b (writeSys l core off v s) :=
  keeps_ite (keeps_modeReqOp h) (keeps_ite (keeps_resetReqOp h) (keeps_ite h (keeps_regWriteGen h)))

theorem keeps_regWriteOp {l core stream off v} (h : Keeps b s) : Keeps b (regWriteOp l core stream off v s) := by
  unfold regWriteOp
  split
  · exact keeps_writeIcu h
  · exact keeps_writeVot h
  · exact keeps_writeCyc h
  · exact keeps_writeTb h
  · exact keeps_writePst h
  · exact keeps_writeOdo h
  · exact keeps_writeFtn h
  · exact keeps_writeDio h
  · exact keeps_writeBrg h
  · exact keeps_writeDma h
  · exact keeps_writeRec h
  · exact keeps_writeUpd h
  · exact keeps_ite (keeps_secOp h) (keeps_regWriteGen h)
  · exact keeps_writeChk h
  · exact keeps_writeSys h
  · exact keeps_regWriteGen h

theorem keeps_readAnswer {l core off v} (h : Keeps b s) : Keeps b (readAnswer l core off v s) :=
  keeps_ite (keeps_answer h) (keeps_answerAll h)

theorem keeps_regReadOp {l core stream off} (h : Keeps b s) : Keeps b (regReadOp l core stream off s) :=
  keeps_ite (keeps_claimOp h) (keeps_ite (keeps_claimOp h) (keeps_ite (keeps_fireHeadOp h) (keeps_ite (keeps_distHeadOp h) (keeps_ite (keeps_failHeadOp
    h) (keeps_ite (keeps_rngRead h) (keeps_ite (keeps_answerAll (keeps_odoPosOp h)) (keeps_ite (keeps_brgFenceOp h) (keeps_readAnswer (keeps_when
    keeps_setLatch h)))))))))

theorem keeps_unmappedOp {l core off write} (h : Keeps b s) : Keeps b (unmappedOp l core off write s) :=
  keeps_bump (keeps_ite h (keeps_readAnswer h))

theorem keeps_writeAt {l core stream off v} (h : Keeps b s) : Keeps b (writeAt l core stream off v s) :=
  keeps_ite (keeps_unmappedOp h) (keeps_when keeps_regWriteOp h)

theorem keeps_readAt {l core stream off} (h : Keeps b s) : Keeps b (readAt l core stream off s) :=
  keeps_ite (keeps_unmappedOp h) (keeps_regReadOp h)

theorem keeps_execMisalignedAccess {lane core off _write} (h : Keeps b s) : KeepsOut b (execMisalignedAccess lane core off _write s) :=
  keepsOut_next (keeps_when keeps_answer h)

theorem keeps_execUnmappedAccess {lane core off write} (h : Keeps b s) : KeepsOut b (execUnmappedAccess lane core off write s) :=
  keepsOut_next (keeps_when keeps_unmappedOp h)

theorem keeps_execReadLoLatch {lane core off} (h : Keeps b s) : KeepsOut b (execReadLoLatch lane core off s) :=
  keepsOut_next (keeps_when keeps_readAt h)

theorem keeps_execWriteHiCommit {lane core off v} (h : Keeps b s) : KeepsOut b (execWriteHiCommit lane core off v s) :=
  keepsOut_next (keeps_when keeps_writeAt h)

theorem keeps_execShadowedWrite {lane off v} (h : Keeps b s) : KeepsOut b (execShadowedWrite lane off v s) :=
  keepsOut_next (keeps_when keeps_writeAt h)

theorem keeps_execRegisterWrite {lane core off v} (h : Keeps b s) : KeepsOut b (execRegisterWrite lane core off v s) :=
  keepsOut_next (keeps_when keeps_writeAt h)

theorem keeps_digestMinority {l seq late} (h : Keeps b s) : Keeps b (digestMinority l seq late s) :=
  keeps_ite (keeps_probationFails (keeps_showMinority h)) (keeps_minorityEvent h)

theorem keeps_digestAgrees {l} (h : Keeps b s) : Keeps b (digestAgrees l s) :=
  keeps_ite (keeps_bump (keeps_setLane h)) h

theorem keeps_commitAccess {stream a lanes} (h : Keeps b s) : Keeps b (commitAccess stream a lanes s) :=
  keeps_ite (keeps_answerAll h) (keeps_ite (keeps_ite (keeps_windowWrite h) (keeps_windowRead h)) (keeps_ite (keeps_writeAt h) (keeps_readAt h)))

theorem keeps_oddAccess {stream seq m late x} (h : Keeps b s) : Keeps b (oddAccess stream seq m late x s) := by
  have h1 := keeps_when (c := !x.write && m.write) (f := answer x.lane (stream / 8) 0 false) keeps_answer h
  unfold oddAccess
  split
  · exact keeps_digestMinority h1
  · exact keeps_minorityEvent h1

theorem keeps_judgeAccess {stream seq m t x} (h : Keeps b s) : Keeps b (judgeAccess stream seq m t x s) :=
  keeps_ite (keeps_oddAccess (keeps_windowOfAccess h)) (keeps_when keeps_digestAgrees (keeps_windowOfAccess h))

theorem keeps_resolveWith {e m} (h : Keeps b s) : Keeps b (resolveWith e m s) :=
  keeps_foldl (fun _ _ h => keeps_judgeAccess h) (keeps_same (keeps_commitAccess h))

theorem keeps_resolveFirst {stream} (h : Keeps b s) : Keeps b (resolveFirst stream s) := by
  unfold resolveFirst
  dsimp only
  split
  · exact h
  · split
    · exact keeps_ite h (keeps_resolveWith h)
    · exact keeps_ite (keeps_noMajority h) h

theorem keeps_resolveAll (h : Keeps b s) : Keeps b (resolveAll s) :=
  keeps_foldl (fun _ _ h => keeps_ite h (keeps_resolveFirst h)) h

theorem keeps_expireKept {k} (h : Keeps b s) : Keeps b (expireKept k s) :=
  keeps_excludeLate h

theorem keeps_expireOpen {e} (h : Keeps b s) : Keeps b (expireOpen e s) :=
  keeps_resolveAll (keeps_excludeLate h)

theorem keeps_expireAll (h : Keeps b s) : Keeps b (expireAll s) :=
  keeps_foldl (fun _ _ h => keeps_ite h (keeps_expireOpen h)) (keeps_foldl (fun _ _ h => keeps_ite h (keeps_expireKept h)) h)

theorem keeps_lateArrival {k x} (h : Keeps b s) : Keeps b (lateArrival k x s) :=
  keeps_ite h (keeps_judgeAccess (keeps_when keeps_answer h))

theorem keeps_openArrival {stream seq x} (h : Keeps b s) : Keeps b (openArrival stream seq x s) := by
  unfold openArrival
  split <;> exact keeps_ite h (keeps_resolveAll (keeps_same h))

theorem keeps_outStatus {done words} (h : Keeps b s) : Keeps b (outStatus done words s) :=
  keeps_setReg h

theorem keeps_imageMinority {l v w late} (h : Keeps b s) : Keeps b (imageMinority l v w late s) := by
  unfold imageMinority
  dsimp only
  split
  · refine keeps_minorityEvent ?_
    split
    · exact keeps_minorityEvent h
    · exact h
  · split
    · exact keeps_minorityEvent h
    · exact h

theorem keeps_judgeImage {v t l} (h : Keeps b s) : Keeps b (judgeImage v t l s) := by
  unfold judgeImage
  split
  · exact keeps_imageMinority (keeps_windowOfAccess h)
  · exact h

theorem keeps_takeImage {v} (h : Keeps b s) : Keeps b (takeImage v s) :=
  keeps_ite (h) (keeps_releaseImage h)

theorem keeps_voteImages (h : Keeps b s) : Keeps b (voteImages s) := by
  unfold voteImages
  dsimp only
  split
  · exact keeps_foldl (fun _ _ h => keeps_judgeImage h) (keeps_takeImage (keeps_outStatus h))
  · exact keeps_ite (keeps_noMajority h) (keeps_outStatus h)

theorem keeps_judgeDigest {m t l} (h : Keeps b s) : Keeps b (judgeDigest m t l s) := by
  unfold judgeDigest
  split
  · split
    · exact keeps_digestAgrees (keeps_windowOfAccess h)
    · exact keeps_digestMinority (keeps_windowOfAccess h)
  · exact h

theorem keeps_voteDigests (h : Keeps b s) : Keeps b (voteDigests s) := by
  unfold voteDigests
  dsimp only
  split
  · exact keeps_foldl (fun _ _ h => keeps_judgeDigest h) (keeps_same h)
  · exact keeps_ite (keeps_noMajority h) h

theorem keeps_digestArrive {l d} (h : Keeps b s) : Keeps b (digestArrive l d s) := by
  unfold digestArrive
  dsimp only
  split
  · exact keeps_judgeDigest (keeps_setCyc (keeps_setLane h))
  · exact keeps_voteDigests (keeps_setCyc (keeps_setLane h))

theorem keeps_judgeEnd {m t l} (h : Keeps b s) : Keeps b (judgeEnd m t l s) := by
  unfold judgeEnd
  split
  · exact keeps_when keeps_minorityEvent (keeps_windowOfAccess h)
  · exact h

theorem keeps_voteEnds {pages} (h : Keeps b s) : Keeps b (voteEnds pages s) := by
  unfold voteEnds
  dsimp only
  split
  · exact keeps_when keeps_cycleEnd (keeps_foldl (fun _ _ h => keeps_judgeEnd h) (keeps_same h))
  · exact keeps_ite (keeps_noMajority h) h

theorem keeps_endArrive {l v pages} (h : Keeps b s) : Keeps b (endArrive l v pages s) := by
  unfold endArrive
  dsimp only
  split
  · exact keeps_judgeEnd (keeps_setCyc (keeps_setLane h))
  · exact keeps_voteEnds (keeps_setCyc (keeps_setLane h))

theorem keeps_settleVotes (h : Keeps b s) : Keeps b (settleVotes s) :=
  keeps_ite h (keeps_when keeps_settleTb (keeps_when keeps_voteEnds (keeps_when keeps_voteDigests (keeps_when keeps_voteImages (keeps_resolveAll h)))))

theorem keeps_settled {s0 : State} (h : Keeps b s) : Keeps b (settled s0 s) :=
  keeps_ite h (keeps_settleVotes h)

theorem keeps_deliveryExpiry {kind} (h : Keeps b s) : Keeps b (deliveryExpiry kind s) := by
  unfold deliveryExpiry
  dsimp only
  split
  · exact keeps_settled (keeps_excludeLate (keeps_advanceTo h))
  · exact h

theorem keeps_digestHalf {l addr v} (h : Keeps b s) : Keeps b (digestHalf l addr v s) :=
  keeps_ite (keeps_setLane h) (keeps_digestArrive h)

theorem keeps_arrive {stream seq x} (h : Keeps b s) : Keeps b (arrive stream seq x s) := by
  unfold arrive
  refine keeps_ite (keeps_ite (keeps_expireAll (keeps_advanceTo h)) (keeps_ite (keeps_digestHalf (keeps_setLane (keeps_expireAll (keeps_advanceTo
      h)))) ?_)) h
  split
  · exact keeps_lateArrival (keeps_setLane (keeps_expireAll (keeps_advanceTo h)))
  · exact keeps_openArrival (keeps_setLane (keeps_expireAll (keeps_advanceTo h)))

theorem keeps_execCycleBoundary {meets} (h : Keeps b s) : KeepsOut b (execCycleBoundary meets s) :=
  keepsOut_next (keeps_settled (keeps_ite (keeps_boundary (keeps_toTb2 h)) h))

theorem keeps_execCyclePoint {c} (h : Keeps b s) : KeepsOut b (execCyclePoint c s) := by
  refine keepsOut_next (keeps_settled ?_)
  extract_lets cp s1 cfg
  have h1 : Keeps b s1 := keeps_when keeps_raiseIrq (keeps_toTb0 h)
  clear_value s1
  exact keeps_ite (keeps_ite (keeps_boundary h1) h1) h

theorem keeps_transmit {p m} (h : Keeps b s) : Keeps b (transmit p m s) :=
  keeps_ite (keeps_when keeps_queueArb h) (keeps_when keeps_send h)

theorem keeps_setKsp {f} (h : Keeps b s) : Keeps b (setKsp f s) :=
  h

theorem keeps_setSession {num f} (h : Keeps b s) : Keeps b (setSession num f s) :=
  keeps_setKsp h

theorem keeps_kspDiscard (h : Keeps b s) : Keeps b (kspDiscard s) :=
  keeps_setKsp h

theorem keeps_kspRefuse {status p m} (h : Keeps b s) : Keeps b (kspRefuse status p m s) :=
  keeps_transmit (keeps_when keeps_setKsp h)

theorem keeps_conclude {p m status last offset payload} (h : Keeps b s) : Keeps b (conclude p m status last offset payload s) :=
  keeps_transmit (keeps_when keeps_setSession (keeps_setKsp h))

theorem keeps_concludeStatus {p m status} (h : Keeps b s) : Keeps b (concludeStatus p m status s) :=
  keeps_conclude h

theorem keeps_run {p m f x} (hf : ∀ x0 t, Keeps b t → Keeps b (f x0 t)) (h : Keeps b s) : Keeps b (inSession.run p m f x s) :=
  keeps_ite (keeps_kspRefuse h) (keeps_ite (keeps_concludeStatus (keeps_setSession h)) (hf _ _ (keeps_setSession h)))

theorem keeps_inSession {p m f} (hf : ∀ x0 t, Keeps b t → Keeps b (f x0 t)) (h : Keeps b s) : Keeps b (inSession p m f s) := by
  unfold inSession
  split
  · exact keeps_kspRefuse h
  · split
    · exact keeps_ite (keeps_setSession h) (keeps_kspRefuse (keeps_setSession h))
    · exact keeps_ite (keeps_transmit (keeps_setSession h)) (keeps_run (fun _ _ h => hf _ _ h) (keeps_setSession h))
    · exact keeps_run (fun _ _ h => hf _ _ h) (keeps_setSession h)

theorem keeps_anySession {p m f} (hf : ∀ x0 t, Keeps b t → Keeps b (f x0 t)) (h : Keeps b s) : Keeps b (anySession p m f s) :=
  keeps_ite (hf _ _ h) (keeps_inSession (fun _ _ h => hf _ _ h) h)

theorem keeps_foldl_snd {α β : Type} {f : β × State → α → β × State} {l : List α} (hf : ∀ p x, Keeps b p.2 → Keeps b (f p x).2) {p : β × State}
    (h : Keeps b p.2) : Keeps b (l.foldl f p).2 := by
  induction l generalizing p with
  | nil => exact h
  | cons x xs ih => exact ih (hf p x h)

theorem keeps_ocBatch {l data} (h : Keeps b s) : Keeps b (ocBatch l data s) := by
  unfold ocBatch
  extract_lets r
  have hr : Keeps b r.2 := keeps_foldl_snd
    (fun p k hp => keeps_ite_snd hp (keeps_ocStageOp (keeps_setReg (keeps_setReg (keeps_setReg hp))))) h
  clear_value r
  exact keeps_ite (keeps_setCyc hr) (keeps_ocCmdOp (keeps_setReg hr))

theorem keeps_frcBatch {l data} (h : Keeps b s) : Keeps b (frcBatch l data s) := by
  unfold frcBatch
  extract_lets r
  have hr : Keeps b r.2 := keeps_foldl_snd
    (fun p k hp => keeps_ite_snd hp (keeps_frcStageOp (keeps_setReg (keeps_setReg (keeps_setReg hp))))) h
  clear_value r
  exact keeps_ite (keeps_setCyc hr) (keeps_frcCmdOp (keeps_setReg hr))

theorem keeps_registerPath {x i v data} (h : Keeps b s) : Keeps b (registerPath x i v data s) :=
  keeps_ite (keeps_modeReqOp h) (keeps_ite (keeps_calReqOp h) (keeps_ite (keeps_fixSubmitOp h) (keeps_ite (keeps_foldl (fun _ _ h => keeps_ocBatch h) h)
    (keeps_ite (keeps_foldl (fun _ _ h => keeps_frcBatch h) h) (keeps_ite (keeps_ctrlCmdOp h) (keeps_ite (keeps_chkCmdOp h) (keeps_ite (keeps_updCmdOp
    h) (keeps_ite (keeps_blockBytes h) (keeps_ite (keeps_clearOp h) h)))))))))

theorem keeps_storeCommitted {x i j gen} (h : Keeps b s) : Keeps b (storeCommitted x i j gen s) :=
  keeps_raiseIrq (keeps_record h)

theorem keeps_storeObject {x i j v data} (h : Keeps b s) : Keeps b (storeObject x i j v data s) :=
  keeps_when keeps_shadowWrite (keeps_when keeps_setReg (keeps_storeCommitted (keeps_putStored h)))

theorem keeps_restoreStore {x} (h : Keeps b s) : Keeps b (restoreStore x s) :=
  keeps_storeCommitted h

theorem keeps_countedPath {cnt f} (hf : ∀ t, Keeps b t → Keeps b (f t)) (h : Keeps b s) : Keeps b (countedPath cnt f s).2 :=
  hf _ h

theorem keeps_factoryWrite {i j data} (h : Keeps b s) : Keeps b (factoryWrite i j data s) :=
  keeps_ite h h

theorem keeps_volatileWrite {x i j v data} (h : Keeps b s) : Keeps b (volatileWrite x i j v data s) :=
  keeps_ite h (keeps_ite (keeps_setReg (keeps_setReg h)) (keeps_ite (keeps_setReg h) (keeps_ite (keeps_setReg h) (keeps_ite (keeps_setSession h)
    (keeps_ite (keeps_setSession h) (keeps_ite (keeps_setSession h) (keeps_setKsp h)))))))

theorem keeps_applyWrite {storeOk x d i j v data} (h : Keeps b s) : Keeps b (applyWrite storeOk x d i j v data s).2 :=
  keeps_ite_snd h (keeps_ite_snd (keeps_restoreStore h) (keeps_ite_snd (keeps_storeObject h) (keeps_ite_snd (keeps_factoryWrite h) (keeps_ite_snd
    (keeps_countedPath (fun _ h => keeps_rejoinReqOp h) h) (keeps_ite_snd (keeps_countedPath (fun _ h => keeps_guardCmdOp h) h) (keeps_ite_snd
    (keeps_countedPath (fun _ h => keeps_ringCmdOp h) h) (keeps_ite_snd (keeps_lifeOp h) (keeps_ite_snd (keeps_testOp h) (keeps_ite_snd h
    (keeps_ite_snd (keeps_registerPath h) (keeps_volatileWrite h)))))))))))

theorem keeps_writeObj {storeOk p m x data} (h : Keeps b s) : Keeps b (writeObj storeOk p m x data s) := by
  unfold writeObj
  extract_lets i j v g
  split
  · exact keeps_concludeStatus h
  next d _ =>
    have hw := keeps_applyWrite (storeOk := storeOk) (x := x) (d := d) (i := i) (j := j) (v := v) (data := data) h
    refine keeps_ite (keeps_concludeStatus h) (keeps_ite (keeps_concludeStatus h) (keeps_ite (keeps_concludeStatus h) ?_))
    split
    next heq => exact keeps_conclude (by rwa [heq] at hw)
    next heq => exact keeps_setSession (by rwa [heq] at hw)

theorem keeps_kspService (h : Keeps b s) : Keeps b (kspService s) := by
  unfold kspService
  refine keeps_foldl (fun _ _ h => ?_) h
  split
  · split
    · exact keeps_conclude h
    · exact h
  · exact h

theorem keeps_kspArrive {c p via m wide f} (hwide : ∀ t, Keeps b t → Keeps b (wide t)) (hf : ∀ t, Keeps b t → Keeps b (f t)) (h : Keeps b s) : Keeps b
    (kspArrive c p via m wide f s) :=
  keeps_ite h (keeps_ite (keeps_kspDiscard (keeps_kspService h)) (keeps_ite (keeps_kspService h) (keeps_ite (hwide _ (keeps_kspService h)) (keeps_ite
    (keeps_kspRefuse (keeps_kspService h)) (hf _ (keeps_setKsp (keeps_kspService h)))))))

theorem keeps_wideAnswer {p m r} (h : Keeps b s) : Keeps b (wideAnswer p m r s) :=
  keeps_ite (keeps_ite (keeps_setKsp (keeps_setKsp h)) (keeps_transmit (keeps_setKsp h))) (keeps_kspDiscard h)

theorem keeps_putLockout {x} (h : Keeps b s) : Keeps b (putLockout x s) :=
  keeps_setKsp h

theorem keeps_openSession {p m role} (h : Keeps b s) : Keeps b (openSession p m role s) :=
  keeps_transmit (keeps_sessionEvent (keeps_setKsp (h)))

theorem keeps_openReq {p m} (h : Keeps b s) : Keeps b (openReq p m s) := by
  unfold openReq
  dsimp only
  split
  · exact keeps_openSession h
  · exact keeps_kspRefuse h
  · exact keeps_kspRefuse h
  · exact keeps_concludeStatus h

theorem keeps_execKspOpen {path via m} (h : Keeps b s) : KeepsOut b (execKspOpen path via m s) :=
  keepsOut_next (keeps_kspArrive (fun _ h => keeps_kspDiscard h) (fun _ h => keeps_openReq h) h)

theorem keeps_authFailed {p m x} (h : Keeps b s) : Keeps b (authFailed p m x s) :=
  keeps_concludeStatus (keeps_putLockout (keeps_raiseIrq (keeps_record (keeps_setKsp (keeps_endSessions h)))))

theorem keeps_authReq {p m x} (h : Keeps b s) : Keeps b (authReq p m x s) := by
  unfold authReq
  refine keeps_ite (keeps_kspRefuse h) (keeps_ite (keeps_concludeStatus h) ?_)
  split
  · exact keeps_ite (keeps_concludeStatus (keeps_setSession h)) (keeps_authFailed h)
  · exact keeps_authFailed h

theorem keeps_execKspAuth {path via m} (h : Keeps b s) : KeepsOut b (execKspAuth path via m s) :=
  keepsOut_next (keeps_kspArrive (fun _ h => keeps_kspDiscard h) (fun _ h => keeps_inSession (fun _ _ h => keeps_authReq h) h) h)

theorem keeps_closeReq {p m x} (h : Keeps b s) : Keeps b (closeReq p m x s) :=
  keeps_concludeStatus (keeps_endSessions h)

theorem keeps_execKspClose {path via m} (h : Keeps b s) : KeepsOut b (execKspClose path via m s) :=
  keepsOut_next (keeps_kspArrive (fun _ h => keeps_kspDiscard h) (fun _ h => keeps_inSession (fun _ _ h => keeps_closeReq h) h) h)

theorem keeps_readReq {p m x} (h : Keeps b s) : Keeps b (readReq p m x s) :=
  keeps_conclude (keeps_when keeps_setSession h)

theorem keeps_execKspRead {path via m} (h : Keeps b s) : KeepsOut b (execKspRead path via m s) :=
  keepsOut_next (keeps_kspArrive (fun _ h => keeps_wideAnswer h) (fun _ h => keeps_anySession (fun _ _ h => keeps_readReq h) h) h)

theorem keeps_readSegReq {p m x} (h : Keeps b s) : Keeps b (readSegReq p m x s) := by
  unfold readSegReq
  split
  · exact keeps_ite (keeps_conclude (keeps_setSession h)) (keeps_concludeStatus h)
  · exact keeps_concludeStatus h

theorem keeps_execKspReadSeg {path via m} (h : Keeps b s) : KeepsOut b (execKspReadSeg path via m s) :=
  keepsOut_next (keeps_kspArrive (fun _ h => keeps_kspDiscard h) (fun _ h => keeps_inSession (fun _ _ h => keeps_readSegReq h) h) h)

theorem keeps_infoReq {p m x} (h : Keeps b s) : Keeps b (infoReq p m x s) :=
  keeps_conclude h

theorem keeps_execKspInfo {path via m} (h : Keeps b s) : KeepsOut b (execKspInfo path via m s) :=
  keepsOut_next (keeps_kspArrive (fun _ h => keeps_wideAnswer h) (fun _ h => keeps_anySession (fun _ _ h => keeps_infoReq h) h) h)

theorem keeps_writeReq {storeOk p m x} (h : Keeps b s) : Keeps b (writeReq storeOk p m x s) :=
  keeps_writeObj h

theorem keeps_execKspWrite {path via m storeOk} (h : Keeps b s) : KeepsOut b (execKspWrite path via m storeOk s) :=
  keepsOut_next (keeps_kspArrive (fun _ h => keeps_kspDiscard h) (fun _ h => keeps_inSession (fun _ _ h => keeps_writeReq h) h) h)

theorem keeps_execRestoreDefaults {path via m storeOk} (h : Keeps b s) : KeepsOut b (execRestoreDefaults path via m storeOk s) :=
  keepsOut_next (keeps_kspArrive (fun _ h => keeps_kspDiscard h) (fun _ h => keeps_inSession (fun _ _ h => keeps_writeReq h) h) h)

theorem keeps_endSeg {x} (h : Keeps b s) : Keeps b (endSeg x s) :=
  keeps_setSession h

theorem keeps_writeSegReq {storeOk p m x} (h : Keeps b s) : Keeps b (writeSegReq storeOk p m x s) :=
  keeps_ite (keeps_concludeStatus (keeps_endSeg h)) (keeps_ite (keeps_concludeStatus (keeps_endSeg h)) (keeps_ite (keeps_concludeStatus (keeps_endSeg
    h)) (keeps_ite (keeps_writeObj (keeps_endSeg h)) (keeps_concludeStatus (keeps_setSession h)))))

theorem keeps_execKspWriteSeg {path via m storeOk} (h : Keeps b s) : KeepsOut b (execKspWriteSeg path via m storeOk s) :=
  keepsOut_next (keeps_kspArrive (fun _ h => keeps_kspDiscard h) (fun _ h => keeps_inSession (fun _ _ h => keeps_writeSegReq h) h) h)

theorem keeps_abortReq {p m x} (h : Keeps b s) : Keeps b (abortReq p m x s) :=
  keeps_concludeStatus (keeps_endSeg h)

theorem keeps_execKspAbort {path via m} (h : Keeps b s) : KeepsOut b (execKspAbort path via m s) :=
  keepsOut_next (keeps_kspArrive (fun _ h => keeps_kspDiscard h) (fun _ h => keeps_inSession (fun _ _ h => keeps_abortReq h) h) h)

theorem keeps_execKspBadCode {path via m} (h : Keeps b s) : KeepsOut b (execKspBadCode path via m s) :=
  keepsOut_next (keeps_kspArrive (fun _ h => keeps_kspDiscard h) (fun _ h => keeps_anySession (fun _ _ h => keeps_concludeStatus h) h) h)

theorem keeps_atSession {n due f} (hf : ∀ x0 t, Keeps b t → Keeps b (f x0 t)) (h : Keeps b s) : Keeps b (atSession n due f s) := by
  unfold atSession
  split
  · split
    · exact keeps_when (fun h => hf _ _ (keeps_advanceTo h)) h
    · exact h
  · exact h

theorem keeps_execSessionIdleTimeout {session} (h : Keeps b s) : KeepsOut b (execSessionIdleTimeout session s) :=
  keepsOut_next (keeps_atSession (fun _ _ h => keeps_endSessions h) h)

theorem keeps_execAuthTimeout {session} (h : Keeps b s) : KeepsOut b (execAuthTimeout session s) :=
  keepsOut_next (keeps_atSession (fun _ _ h => keeps_endSessions h) h)

theorem keeps_execReadSnapshotTimeout {session} (h : Keeps b s) : KeepsOut b (execReadSnapshotTimeout session s) :=
  keepsOut_next (keeps_atSession (fun _ _ h => keeps_setSession h) h)

theorem keeps_execSegWriteTimeout {session} (h : Keeps b s) : KeepsOut b (execSegWriteTimeout session s) :=
  keepsOut_next (keeps_atSession (fun _ _ h => keeps_setSession h) h)

theorem keeps_execLockoutEnd {path} (h : Keeps b s) : KeepsOut b (execLockoutEnd path s) := by
  unfold execLockoutEnd
  refine keepsOut_next ?_
  split
  · exact keeps_setKsp (keeps_advanceTo h)
  · exact h

theorem keeps_pendingEnds {x} (h : Keeps b s) : Keeps b (pendingEnds x s) := by
  unfold pendingEnds
  dsimp only
  split
  · exact keeps_concludeStatus (keeps_kspService h)
  · exact keeps_kspService h

theorem keeps_execPendingTimeout {session} (h : Keeps b s) : KeepsOut b (execPendingTimeout session s) :=
  keepsOut_next (keeps_atSession (fun _ _ h => keeps_pendingEnds h) h)

theorem keeps_execBroadcastReplyDelay (h : Keeps b s) : KeepsOut b (execBroadcastReplyDelay s) := by
  unfold execBroadcastReplyDelay
  refine keepsOut_next ?_
  split
  · exact keeps_when (fun h => keeps_transmit (keeps_advanceTo (keeps_setKsp h))) h
  · exact h

theorem keeps_execArpRequest {port sender target} (h : Keeps b s) : KeepsOut b (execArpRequest port sender target s) :=
  keepsOut_next (keeps_when keeps_send h)

theorem keeps_execIcmpEcho {port source target data} (h : Keeps b s) : KeepsOut b (execIcmpEcho port source target data s) :=
  keepsOut_next (keeps_when keeps_send h)

theorem keeps_onPath {session f} (hf : ∀ x0 t, Keeps b t → Keeps b (f x0 t)) (h : Keeps b s) : Keeps b (onPath session f s) := by
  unfold onPath
  split
  · exact hf _ _ h
  · exact h

theorem keeps_execAttestationNonce {session txn nonce} (h : Keeps b s) : KeepsOut b (execAttestationNonce session txn nonce s) :=
  keepsOut_next (keeps_onPath (fun _ _ h => keeps_kspArrive (fun _ h => keeps_kspDiscard h) (fun _ h => keeps_inSession (fun _ _ h => keeps_writeReq h)
    h) h) h)

theorem keeps_execAttestationReport {session txn} (h : Keeps b s) : KeepsOut b (execAttestationReport session txn s) :=
  keepsOut_next (keeps_onPath (fun _ _ h => keeps_kspArrive (fun _ h => keeps_kspDiscard h) (fun _ h => keeps_inSession (fun _ _ h => keeps_readReq h)
    h) h) h)

theorem keeps_idle (h : Keeps b s) : Keeps b (idle s) :=
  keeps_when keeps_kspService (keeps_advance h)

theorem keeps_resultOf {o} (h : KeepsOut b o) : Keeps b (resultOf o s) := by
  obtain ⟨t, rfl, ht⟩ := h
  exact ht

theorem keeps_rxStatus {i e f} (h : Keeps b s) : Keeps b (rxStatus i e f s) :=
  keeps_when keeps_raiseIrq (keeps_setRx h)

theorem keeps_objectSink {f t} (h : Keeps b s) (ht : objectSink f s = some t) : Keeps b t := by
  unfold objectSink at ht
  split at ht
  · cases ht
    exact keeps_resultOf (keeps_execRemoteRecord h)
  · split at ht
    · cases ht
      exact keeps_fixFromWire h
    · cases ht

theorem keeps_deliver {i e chanB f x} (h : Keeps b s) : Keeps b (deliver i e chanB f x s) := by
  unfold deliver
  dsimp only
  refine keeps_ite (keeps_setRxBuf (keeps_rxStatus h)) (keeps_ite ?_ (keeps_rxStatus h))
  split
  next ht => exact keeps_rxStatus (keeps_objectSink h ht)
  · exact keeps_bump h

theorem keeps_deliverArb {chanB f x} (h : Keeps b s) : Keeps b (deliverArb chanB f x s) :=
  keeps_when keeps_raiseIrq (keeps_when (fun h => keeps_raiseIrq (keeps_bump h)) (keeps_same (keeps_setRxBuf h)))

theorem keeps_serviceFrame {f} (h : Keeps b s) : Keeps b (serviceFrame f s) := by
  unfold serviceFrame
  split
  · exact keeps_when keeps_kspDiscard h
  next m _ =>
    refine keeps_resultOf ?_
    split
    · exact keeps_execKspOpen h
    · exact keeps_execKspAuth h
    · exact keeps_execKspClose h
    · exact keeps_execKspRead h
    · exact keeps_execKspWrite h
    · exact keeps_execKspReadSeg h
    · exact keeps_execKspWriteSeg h
    · exact keeps_execKspAbort h
    · exact keeps_execKspInfo h
    · exact keeps_execKspBadCode h

theorem keeps_claimFrame {f} (h : Keeps b s) : Keeps b (claimFrame f s) := by
  unfold claimFrame
  refine keeps_ite ?_ h
  split
  · exact keeps_resultOf (keeps_execClaimAnnounce h)
  · exact keeps_resultOf (keeps_execClaimReject h)
  · exact h

theorem keeps_arbFrame {chanB f x} (h : Keeps b s) : Keeps b (arbFrame chanB f x s) := by
  unfold arbFrame
  refine keeps_ite h ?_
  split
  · exact keeps_deliverArb h
  · exact keeps_when keeps_serviceFrame h
  · exact keeps_claimFrame h
  · exact h

theorem keeps_sink {chanB f x} (h : Keeps b s) : Keeps b (sink chanB f x s) := by
  unfold sink
  split
  · split
    · exact keeps_ite (keeps_deliver h) h
    · exact h
  · exact keeps_arbFrame h
  · exact h

theorem keeps_acceptFrame {chanB edge stars gap f x} (h : Keeps b s) : Keeps b (acceptFrame chanB edge stars gap f x s) :=
  keeps_lineTime (keeps_sink (keeps_when keeps_sendStars (keeps_same (keeps_when keeps_raiseIrq (keeps_when keeps_bump (keeps_when keeps_bump
    (keeps_bumpBy (keeps_bump (keeps_keepSeq h)))))))))

theorem keeps_retake {f x} (h : Keeps b s) : Keeps b (retake f x s) := by
  unfold retake
  refine keeps_ite h ?_
  split
  · split
    · exact keeps_when keeps_setRxBuf h
    · exact h
  · exact keeps_same h

theorem keeps_receive {chanB f x t} (h : Keeps b s) : Keeps b (receive chanB f x t s) := by
  unfold receive
  split
  · exact keeps_checkFailed h
  · exact h
  · exact keeps_when keeps_syncCopy (keeps_when keeps_retake (keeps_when (fun h => keeps_raiseIrq (keeps_bump h)) h))
  · exact keeps_when keeps_syncCopy (keeps_acceptFrame h)

theorem keeps_localFrame {f} (h : Keeps b s) : Keeps b (localFrame f s) := by
  unfold localFrame
  split
  · exact keeps_checkFailed h
  · exact h

theorem keeps_ringFrame {port chanB f x} (h : Keeps b s) : Keeps b (ringFrame port chanB f x s) :=
  keeps_ite h (keeps_ite (keeps_bump h) (keeps_when keeps_receive (keeps_forward h)))

theorem keeps_execFrameReceive {port f stamp} (h : Keeps b s) : KeepsOut b (execFrameReceive port f stamp s) :=
  keepsOut_next (keeps_ite h (keeps_ite (keeps_localFrame h) (keeps_ite (keeps_ringFrame h) h)))

theorem keeps_usedWindow {p f} (h : Keeps b s) : Keeps b (usedWindow p f s) :=
  h

theorem keeps_starFrame {f x} (h : Keeps b s) : Keeps b (starFrame f x s) := by
  unfold starFrame
  split
  · exact keeps_checkFailed h
  · exact h
  · exact keeps_when (fun h => keeps_raiseIrq (keeps_bump h)) h
  · exact keeps_ite (keeps_acceptFrame (keeps_queueArb h)) (keeps_acceptFrame (keeps_sendBoth (keeps_toTb0 h)))

theorem keeps_execStarFrameReceive {port f stamp} (h : Keeps b s) : KeepsOut b (execStarFrameReceive port f stamp s) := by
  unfold execStarFrameReceive
  refine keepsOut_next (keeps_ite h ?_)
  split
  · exact keeps_guardViolate h
  · exact keeps_starFrame (keeps_usedWindow h)

theorem keeps_afterWrites (h : Keeps b s) : Keeps b (afterWrites s) :=
  keeps_when (fun h => keeps_resolveAll (keeps_exportFailed h)) h

theorem keeps_execWrAck {l p} (h : Keeps b s) : KeepsOut b (execWrAck l p s) :=
  keepsOut_next (keeps_afterWrites (keeps_onPacket (fun _ h => keeps_when keeps_writeAck h) h))

theorem keeps_execWrError {l p} (h : Keeps b s) : KeepsOut b (execWrError l p s) :=
  keepsOut_next (keeps_afterWrites (keeps_onPacket (fun _ h => keeps_when keeps_writeError h) h))

theorem keeps_execAckTimeout {l tag} (h : Keeps b s) : KeepsOut b (execAckTimeout l tag s) :=
  keepsOut_next (keeps_when (fun h => keeps_afterWrites (keeps_ackExpiry h)) h)

theorem keeps_execLinkResend {l seq} (h : Keeps b s) : KeepsOut b (execLinkResend l seq s) :=
  keepsOut_next (keeps_when (fun h => keeps_afterWrites (keeps_linkResend h)) h)

theorem keeps_execLinkStateChange {l state full} (h : Keeps b s) : KeepsOut b (execLinkStateChange l state full s) :=
  keepsOut_next (keeps_when (fun h => keeps_afterWrites (keeps_linkState h)) h)

theorem keeps_execStreamEntry (h : Keeps b s) : KeepsOut b (execStreamEntry s) :=
  keepsOut_next (keeps_when (fun h => keeps_afterWrites (keeps_linkState h)) h)

theorem keeps_execVotedWrite {lane stream seq addr v time} (h : Keeps b s) : KeepsOut b (execVotedWrite lane stream seq addr v time s) :=
  keepsOut_next (keeps_settled (keeps_arrive h))

theorem keeps_execVotedRead {lane stream seq addr time} (h : Keeps b s) : KeepsOut b (execVotedRead lane stream seq addr time s) :=
  keepsOut_next (keeps_settled (keeps_arrive h))

theorem keeps_execLateAccess {lane stream seq addr write v time} (h : Keeps b s) : KeepsOut b (execLateAccess lane stream seq addr write v time s) :=
  keepsOut_next (keeps_ite (keeps_settled (keeps_arrive h)) h)

theorem keeps_execLateLimitExpiry {stream seq} (h : Keeps b s) : KeepsOut b (execLateLimitExpiry stream seq s) := by
  refine keepsOut_next (keeps_ite h (keeps_ite (keeps_deliveryExpiry h) (keeps_ite (keeps_settled (keeps_tbLimit h)) ?_)))
  split
  · exact keeps_settled (keeps_expireAll (keeps_advanceTo h))
  · split
    · exact keeps_settled (keeps_expireAll (keeps_advanceTo h))
    · exact h

theorem keeps_execVotFenceRead {lane stream} (h : Keeps b s) : KeepsOut b (execVotFenceRead lane stream s) :=
  keepsOut_next (keeps_when keeps_answer h)

theorem keeps_execHubPortRetryExhausted {lane stream seq attempts} (h : Keeps b s) :
    KeepsOut b (execHubPortRetryExhausted lane stream seq attempts s) :=
  keepsOut_next (keeps_ite (keeps_settled (keeps_when keeps_excludeLane (keeps_skewEvent (keeps_bump (keeps_setLane h))))) h)

theorem keeps_execPathMask {lane chan} (h : Keeps b s) : KeepsOut b (execPathMask lane chan s) :=
  keepsOut_next (keeps_when keeps_maskPath h)

theorem keeps_execOutputHandover {lane time} (h : Keeps b s) : KeepsOut b (execOutputHandover lane time s) := by
  refine keepsOut_next (keeps_ite ?_ h)
  extract_lets s1 us img s2 s3
  have h3 : Keeps b s3 := keeps_setLane (keeps_setCyc (keeps_advanceTo h))
  clear_value s3
  refine keeps_settled ?_
  split
  · exact keeps_judgeImage (keeps_outStatus h3)
  · exact keeps_voteImages h3

theorem keeps_execDigestWrite {lane writes flip time} (h : Keeps b s) : KeepsOut b (execDigestWrite lane writes flip time s) :=
  keepsOut_next (keeps_when (fun h => keeps_settled (keeps_digestArrive (keeps_setCyc (keeps_advanceTo h)))) h)

theorem keeps_execDigestPeerExchange {lane peer1 peer2} (h : Keeps b s) : KeepsOut b (execDigestPeerExchange lane peer1 peer2 s) := by
  refine keepsOut_next (keeps_ite ?_ h)
  split
  · exact keeps_ite (keeps_settled (keeps_excludeLane (keeps_setLane h))) (keeps_setLane h)
  · exact h

theorem keeps_execCycleEndWrite {lane v pages time} (h : Keeps b s) : KeepsOut b (execCycleEndWrite lane v pages time s) :=
  keepsOut_next (keeps_when (fun h => keeps_settled (keeps_endArrive (keeps_advanceTo h))) h)

theorem keeps_execRejoinRequest {v} (h : Keeps b s) : KeepsOut b (execRejoinRequest v s) :=
  keepsOut_next (keeps_when keeps_rejoinReqOp h)

theorem keeps_inBound {l f} (hf : ∀ t, Keeps b t → Keeps b (f t)) (h : Keeps b s) : Keeps b (inBound l f s) :=
  keeps_ite (keeps_endAttempt h) (hf _ h)

theorem keeps_execRejoinHoldEnd {lane} (h : Keeps b s) : KeepsOut b (execRejoinHoldEnd lane s) :=
  keepsOut_next (keeps_when (fun h => keeps_toPhase (keeps_advanceTo h)) h)

theorem keeps_execRejoinBootDone {lane} (h : Keeps b s) : KeepsOut b (execRejoinBootDone lane s) :=
  keepsOut_next (keeps_when (fun h => keeps_inBound (fun _ h => keeps_installKeys (keeps_toPhase h)) h) h)

theorem keeps_execRejoinSelftestDone {lane identityOk} (h : Keeps b s) : KeepsOut b (execRejoinSelftestDone lane identityOk s) := by
  refine keepsOut_next (keeps_when (keeps_inBound (fun t ht => ?_)) h)
  split
  · exact keeps_toPhase ht
  · exact keeps_endAttempt ht

theorem keeps_execPrecopyPassEnd {lane dirty} (h : Keeps b s) : KeepsOut b (execPrecopyPassEnd lane dirty s) :=
  keepsOut_next (keeps_ite (keeps_ite (keeps_endAttempt (keeps_setLane h)) (keeps_setLane h)) h)

theorem keeps_execStopcopyEnd {lane} (h : Keeps b s) : KeepsOut b (execStopcopyEnd lane s) :=
  keepsOut_next (keeps_when (fun h => keeps_inBound (fun _ h => keeps_setLane h) h) h)

theorem keeps_execRejoinPhaseTimeout {lane} (h : Keeps b s) : KeepsOut b (execRejoinPhaseTimeout lane s) := by
  unfold execRejoinPhaseTimeout
  dsimp only
  refine keepsOut_next ?_
  split
  · exact keeps_when (fun h => keeps_endAttempt (keeps_advanceTo h)) h
  · exact h

theorem keeps_execClockFault {part} (h : Keeps b s) : KeepsOut b (execClockFault part s) := by
  refine keepsOut_next (keeps_settled ?_)
  split
  · exact keeps_when keeps_excludeLane h
  · split
    · exact keeps_removeSlice h
    · exact keeps_when keeps_hubFail h

theorem keeps_execDomainProtectionOpen {part} (h : Keeps b s) : KeepsOut b (execDomainProtectionOpen part s) := by
  refine keepsOut_next (keeps_settled ?_)
  split
  · exact keeps_when keeps_loseDomain h
  · exact keeps_when keeps_removeSlice h

theorem keeps_execEccUncorrectable {lane dram addr info} (h : Keeps b s) : KeepsOut b (execEccUncorrectable lane dram addr info s) :=
  keepsOut_next (keeps_settled (keeps_when keeps_uncorrectable h))

theorem keeps_execTamper {event} (h : Keeps b s) : KeepsOut b (execTamper event s) :=
  keepsOut_next (keeps_settled (keeps_when keeps_tamperOp h))

theorem keeps_execLaneAlignFault {lane} (h : Keeps b s) : KeepsOut b (execLaneAlignFault lane s) :=
  keepsOut_next (keeps_settled (keeps_when keeps_laneAlignFault h))

theorem keeps_withFetchWord {nbits w} (h : Keeps b s) : Keeps b (State.withFetchWord s nbits w) :=
  h

end

/-- Every command ends in a next state, which keeps the commands that wait, the canonical form and the capacities. -/
theorem keeps_exec (c : Instr) (s : State) : KeepsOut s (exec c s) := by
  unfold exec
  split
  · exact keeps_execMisalignedAccess keeps_refl
  · exact keeps_execUnmappedAccess keeps_refl
  · exact keeps_execReadLoLatch keeps_refl
  · exact keeps_execWriteHiCommit keeps_refl
  · exact keeps_execShadowedWrite keeps_refl
  · exact keeps_execRegisterWrite keeps_refl
  · exact keeps_execHubPortRetryExhausted keeps_refl
  · exact keeps_execClockFault keeps_refl
  · exact keeps_execSliceCounterFault keeps_refl
  · exact keeps_execDomainProtectionOpen keeps_refl
  · exact keeps_execSupervisorHeartbeatLoss keeps_refl
  · exact keeps_execNetEngineFault keeps_refl
  · exact keeps_execGuardianFault keeps_refl
  · exact keeps_execDspFault keeps_refl
  · exact keeps_execDspRestart keeps_refl
  · exact keeps_execSupplyDip keeps_refl
  · exact keeps_execPowerValid keeps_refl
  · exact keeps_execPowerFail keeps_refl
  · exact keeps_execWake keeps_refl
  · exact keeps_execRtcAlarm keeps_refl
  · exact keeps_execBootComplete keeps_refl
  · exact keeps_execVerifyComplete keeps_refl
  · exact keeps_execStartWatchdog keeps_refl
  · exact keeps_execAutoRestart keeps_refl
  · exact keeps_execRequestDormant keeps_refl
  · exact keeps_execRequestOperational keeps_refl
  · exact keeps_execRequestSafeHold keeps_refl
  · exact keeps_execModuleResetRequest keeps_refl
  · exact keeps_execOvervoltageSupply keeps_refl
  · exact keeps_execHoldupTest keeps_refl
  · exact keeps_execDormantReached keeps_refl
  · exact keeps_execVotedWrite keeps_refl
  · exact keeps_execVotedRead keeps_refl
  · exact keeps_execLateAccess keeps_refl
  · exact keeps_execLateLimitExpiry keeps_refl
  · exact keeps_execVotFenceRead keeps_refl
  · exact keeps_execPathMask keeps_refl
  · exact keeps_execOutputHandover keeps_refl
  · exact keeps_execDigestWrite keeps_refl
  · exact keeps_execDigestPeerExchange keeps_refl
  · exact keeps_execRejoinRequest keeps_refl
  · exact keeps_execRejoinHoldEnd keeps_refl
  · exact keeps_execRejoinBootDone keeps_refl
  · exact keeps_execRejoinSelftestDone keeps_refl
  · exact keeps_execPrecopyPassEnd keeps_refl
  · exact keeps_execStopcopyEnd keeps_refl
  · exact keeps_execRejoinPhaseTimeout keeps_refl
  · exact keeps_execServoOffsetInput keeps_refl
  · exact keeps_execTbStepWrite keeps_refl
  · exact keeps_execTbRateWrite keeps_refl
  · exact keeps_execTbOffsetInWrite keeps_refl
  · exact keeps_execServoHoldEnter keeps_refl
  · exact keeps_execServoHoldLimit keeps_refl
  · exact keeps_execTbTrimWrite keeps_refl
  · exact keeps_execPtpMessage keeps_refl
  · exact keeps_execLaneAlignFault keeps_refl
  · exact keeps_execCalRequest keeps_refl
  · exact keeps_execCalibrationEnd keeps_refl
  · exact keeps_execCalDev keeps_refl
  · exact keeps_execCalProbe keeps_refl
  · exact keeps_execCalReply keeps_refl
  · exact keeps_execCalLoopReq keeps_refl
  · exact keeps_execCalNoLoop keeps_refl
  · exact keeps_execEstimatorUpdate keeps_refl
  · exact keeps_execSensorStateTimer keeps_refl
  · exact keeps_execStandstillEntry keeps_refl
  · exact keeps_execBridgeLimitExpiry keeps_refl
  · exact keeps_execFixSubmit keeps_refl
  · exact keeps_execFixProcess keeps_refl
  · exact keeps_execRemoteRecord keeps_refl
  · exact keeps_execRemoteStale keeps_refl
  · exact keeps_execOdoPosRead keeps_refl
  · exact keeps_execSupRangeFault keeps_refl
  · exact keeps_execSupRangeReturn keeps_refl
  · exact keeps_execAdcCalRotation keeps_refl
  · exact keeps_execSupLockChange keeps_refl
  · exact keeps_execSupHoldExpiry keeps_refl
  · exact keeps_execDisturbanceStart keeps_refl
  · exact keeps_execDisturbanceEnd keeps_refl
  · exact keeps_execSupDistHeadRead keeps_refl
  · exact keeps_execPisteMatch keeps_refl
  · exact keeps_execPulseEnd keeps_refl
  · exact keeps_execGuardWaitFire keeps_refl
  · exact keeps_execWaitLimitExpiry keeps_refl
  · exact keeps_execArm keeps_refl
  · exact keeps_execDisarm keeps_refl
  · exact keeps_execArmMask keeps_refl
  · exact keeps_execDisarmMask keeps_refl
  · exact keeps_execDisarmAll keeps_refl
  · exact keeps_execEntryWordWrite keeps_refl
  · exact keeps_execPstFireHeadRead keeps_refl
  · exact keeps_execPisteStoreScrub keeps_refl
  · exact keeps_execBasicCycleStart keeps_refl
  · exact keeps_execFrameBuild keeps_refl
  · exact keeps_execFrameReceive keeps_refl
  · exact keeps_execStarFrameReceive keeps_refl
  · exact keeps_execArbOccurrence keeps_refl
  · exact keeps_execArbAgeExpiry keeps_refl
  · exact keeps_execNitStart keeps_refl
  · exact keeps_execCyclePoint keeps_refl
  · exact keeps_execMatrixCommit keeps_refl
  · exact keeps_execMatrixDiscard keeps_refl
  · exact keeps_execSlotW4Write keeps_refl
  · exact keeps_execTxbPrepare keeps_refl
  · exact keeps_execTxbCancel keeps_refl
  · exact keeps_execTxbWrite keeps_refl
  · exact keeps_execRxbSnapshot keeps_refl
  · exact keeps_execRunSet keeps_refl
  · exact keeps_execRunClear keeps_refl
  · exact keeps_execLeavingEnd keeps_refl
  · exact keeps_execListenTimeout keeps_refl
  · exact keeps_execBackoffEnd keeps_refl
  · exact keeps_execColdAbort keeps_refl
  · exact keeps_execLinkCheckSend keeps_refl
  · exact keeps_execLinkCheckReceive keeps_refl
  · exact keeps_execGuardViolation keeps_refl
  · exact keeps_execGuardPortEnable keeps_refl
  · exact keeps_execLinkBroken keeps_refl
  · exact keeps_execHealReady keeps_refl
  · exact keeps_execHealRestoreAt keeps_refl
  · exact keeps_execHealAck keeps_refl
  · exact keeps_execRingHold keeps_refl
  · exact keeps_execRingRelease keeps_refl
  · exact keeps_execCycleBoundary keeps_refl
  · exact keeps_execCycleEndWrite keeps_refl
  · exact keeps_execSetSendComplete keeps_refl
  · exact keeps_execOcStage keeps_refl
  · exact keeps_execOcCommit keeps_refl
  · exact keeps_execOcDiscard keeps_refl
  · exact keeps_execForceStage keeps_refl
  · exact keeps_execForceCommit keeps_refl
  · exact keeps_execForceDiscard keeps_refl
  · exact keeps_execDiFilterChange keeps_refl
  · exact keeps_execDiSupplyFault keeps_refl
  · exact keeps_execDiSupplyReturn keeps_refl
  · exact keeps_execInputTestPulse keeps_refl
  · exact keeps_execInputTestEnd keeps_refl
  · exact keeps_execOutCmdWrite keeps_refl
  · exact keeps_execLogicSilence keeps_refl
  · exact keeps_execDoSupplyLow keeps_refl
  · exact keeps_execDoSupplyUnder keeps_refl
  · exact keeps_execDoSupplyOver keeps_refl
  · exact keeps_execDoSupplyReady keeps_refl
  · exact keeps_execGroupOverload keeps_refl
  · exact keeps_execChannelOvercurrent keeps_refl
  · exact keeps_execChannelOvertemp keeps_refl
  · exact keeps_execOpenLoad keeps_refl
  · exact keeps_execStuckOff keeps_refl
  · exact keeps_execShortSupplyDetect keeps_refl
  · exact keeps_execDarkTestSlot keeps_refl
  · exact keeps_execDarkTestEnd keeps_refl
  · exact keeps_execTripAutoReset keeps_refl
  · exact keeps_execClearFault keeps_refl
  · exact keeps_execGroupReenable keeps_refl
  · exact keeps_execTripReset keeps_refl
  · exact keeps_execGroupOpen keeps_refl
  · exact keeps_execGroupRelease keeps_refl
  · exact keeps_execTripRegWrite keeps_refl
  · exact keeps_execSensorSupplyShort keeps_refl
  · exact keeps_execSensorSupplyRestart keeps_refl
  · exact keeps_execRoleRecord keeps_refl
  · exact keeps_execRoleTimeout keeps_refl
  · exact keeps_execGaWatchEnd keeps_refl
  · exact keeps_execSetStart keeps_refl
  · exact keeps_execCheckpointPage keeps_refl
  · exact keeps_execSetCommit keeps_refl
  · exact keeps_execKeepalive keeps_refl
  · exact keeps_execPauseRecord keeps_refl
  · exact keeps_execPark keeps_refl
  · exact keeps_execHandoverRecord keeps_refl
  · exact keeps_execPartnerFailAsserted keeps_refl
  · exact keeps_execStreamTimeout keeps_refl
  · exact keeps_execAnnounceSend keeps_refl
  · exact keeps_execClaimAnnounce keeps_refl
  · exact keeps_execClaimReject keeps_refl
  · exact keeps_execPartnerClaimEdge keeps_refl
  · exact keeps_execChkResync keeps_refl
  · exact keeps_execChkHandover keeps_refl
  · exact keeps_execCmpReport keeps_refl
  · exact keeps_execPartnerPresentChange keeps_refl
  · exact keeps_execSourceAssert keeps_refl
  · exact keeps_execSignalWithdraw keeps_refl
  · exact keeps_execHandlerEntry keeps_refl
  · exact keeps_execClaimNormal keeps_refl
  · exact keeps_execClaimFast keeps_refl
  · exact keeps_execIcuComplete keeps_refl
  · exact keeps_execHandlerExit keeps_refl
  · exact keeps_execSwiSet keeps_refl
  · exact keeps_execPendClear keeps_refl
  · exact keeps_execWaitWake keeps_refl
  · exact keeps_execExtintEdge keeps_refl
  · exact keeps_execExtintDormantEdge keeps_refl
  · exact keeps_execEccCorrected keeps_refl
  · exact keeps_execEccUncorrectable keeps_refl
  · exact keeps_execAliasSet keeps_refl
  · exact keeps_execAliasClear keeps_refl
  · exact keeps_execSecureAccess keeps_refl
  · exact keeps_execMapError keeps_refl
  · exact keeps_execMramWindowWrite keeps_refl
  · exact keeps_execTamper keeps_refl
  · exact keeps_execLanePowerRestore keeps_refl
  · exact keeps_execBridgeWrite keeps_refl
  · exact keeps_execNpWrite keeps_refl
  · exact keeps_execWrAck keeps_refl
  · exact keeps_execWrError keeps_refl
  · exact keeps_execAckTimeout keeps_refl
  · exact keeps_execLinkAck keeps_refl
  · exact keeps_execLinkResend keeps_refl
  · exact keeps_execBrgFenceRead keeps_refl
  · exact keeps_execBridgeRead keeps_refl
  · exact keeps_execRetry keeps_refl
  · exact keeps_execRdReqRepeat keeps_refl
  · exact keeps_execRdData keeps_refl
  · exact keeps_execUnsupported keeps_refl
  · exact keeps_execInboundRdReq keeps_refl
  · exact keeps_execFetchComplete keeps_refl
  · exact keeps_execFetchHoldExpiry keeps_refl
  · exact keeps_execInboundWrite keeps_refl
  · exact keeps_execLinkStateChange keeps_refl
  · exact keeps_execStreamEntry keeps_refl
  · exact keeps_execBrgFailHeadRead keeps_refl
  · exact keeps_execDmaCmdStart keeps_refl
  · exact keeps_execDmaCmdAbort keeps_refl
  · exact keeps_execDmaDescriptorDone keeps_refl
  · exact keeps_execKspOpen keeps_refl
  · exact keeps_execKspAuth keeps_refl
  · exact keeps_execKspClose keeps_refl
  · exact keeps_execKspRead keeps_refl
  · exact keeps_execKspWrite keeps_refl
  · exact keeps_execRestoreDefaults keeps_refl
  · exact keeps_execKspReadSeg keeps_refl
  · exact keeps_execKspWriteSeg keeps_refl
  · exact keeps_execKspAbort keeps_refl
  · exact keeps_execKspInfo keeps_refl
  · exact keeps_execKspBadCode keeps_refl
  · exact keeps_execSessionIdleTimeout keeps_refl
  · exact keeps_execAuthTimeout keeps_refl
  · exact keeps_execReadSnapshotTimeout keeps_refl
  · exact keeps_execSegWriteTimeout keeps_refl
  · exact keeps_execLockoutEnd keeps_refl
  · exact keeps_execPendingTimeout keeps_refl
  · exact keeps_execArpRequest keeps_refl
  · exact keeps_execIcmpEcho keeps_refl
  · exact keeps_execRecordRequest keeps_refl
  · exact keeps_execRecordAccept keeps_refl
  · exact keeps_execPageCommit keeps_refl
  · exact keeps_execRecReady keeps_refl
  · exact keeps_execAppRecord keeps_refl
  · exact keeps_execClearCirculating keeps_refl
  · exact keeps_execClearKept keeps_refl
  · exact keeps_execClearComplete keeps_refl
  · exact keeps_execRecordLoad keeps_refl
  · exact keeps_execExportStart keeps_refl
  · exact keeps_execExportAbort keeps_refl
  · exact keeps_execExportEnd keeps_refl
  · exact keeps_execUpdateBegin keeps_refl
  · exact keeps_execEraseComplete keeps_refl
  · exact keeps_execBlockSubmit keeps_refl
  · exact keeps_execUpdateVerify keeps_refl
  · exact keeps_execUpdateAbort keeps_refl
  · exact keeps_execNorFailure keeps_refl
  · exact keeps_execUpdateActivate keeps_refl
  · exact keeps_execActivatePause keeps_refl
  · exact keeps_execWarmRestartComplete keeps_refl
  · exact keeps_execProvision keeps_refl
  · exact keeps_execRelease keeps_refl
  · exact keeps_execReturnToMaker keeps_refl
  · exact keeps_execScrap keeps_refl
  · exact keeps_execOpenBoundaryScan keeps_refl
  · exact keeps_execOpenDebug keeps_refl
  · exact keeps_execTapInstruction keeps_refl
  · exact keeps_execAttestationNonce keeps_refl
  · exact keeps_execAttestationReport keeps_refl
  · exact keeps_execSecSha512 keeps_refl
  · exact keeps_execSecVerifyPss keeps_refl
  · exact keeps_execSecSignApp keeps_refl
  · exact keeps_execUpdRngRead keeps_refl
  · exact keeps_execNorRefresh keeps_refl
  · exact keeps_execDramScrub keeps_refl
  · exact keeps_execSpmScrub keeps_refl
  · exact keeps_execMramReadVerify keeps_refl
  · exact keeps_execNandRefresh keeps_refl
  · exact keeps_execLinkMarginCheck keeps_refl
  · exact keeps_execBgLate keeps_refl
  · exact keeps_execTelemetrySnapshot keeps_refl
  · exact keeps_execTempExcursionBegin keeps_refl
  · exact keeps_execTempExcursionEnd keeps_refl
  · exact keeps_execTempExcursionLimit keeps_refl
  · exact keeps_execThermalShutdown keeps_refl
  · exact keeps_execSampleStrobe keeps_refl
  · exact keeps_execSupTrackerUpdate keeps_refl
  · exact keeps_execPhyLinkUp keeps_refl
  · exact keeps_execPortDown keeps_refl
  · exact keeps_execPartnerFailReleased keeps_refl
  · exact keeps_execGa1ClaimWaitEnd keeps_refl
  · exact keeps_execDiSupplyLow keeps_refl
  · exact keeps_execDoSupplyLowExit keeps_refl
  · exact keeps_execOpenLoadClear keeps_refl
  · exact keeps_execCeRateWindowEnd keeps_refl
  · exact keeps_execFrontEndFault keeps_refl
  · exact keeps_execSliceOutputDisagreement keeps_refl
  · exact keeps_execBroadcastReplyDelay keeps_refl

/-- A step keeps what the state without the command in front has. -/
theorem keeps_step (s : State) : KeepsOut { s with pending := s.pending.tail } (step s) := by
  unfold step
  split
  next hnil => exact keepsOut_next (keeps_idle ⟨by rw [hnil]; rfl, id, id⟩)
  next c rest hcons =>
    rw [hcons]
    exact keeps_exec c _

/-- Settles O1: the step's two arms are the queue's two forms. -/
theorem stepRunsFront : Obligations.StepRunsFront := by
  intro s c rest hcons
  unfold step
  rw [hcons]

/-- Settles O4: every command keeps the commands that wait. -/
theorem noCommandStops : Obligations.NoCommandStops := by
  intro s c
  obtain ⟨t, hexec, hpending, _⟩ := keeps_exec c s
  exact ⟨t, hexec, hpending⟩

/-- Settles O6: every function of the model keeps the form, so the step does. -/
theorem stepKeepsForm : Obligations.StepKeepsForm := by
  intro s t hform hstep
  obtain ⟨t', hnext, _, hkeeps, _⟩ := keeps_step s
  cases hstep.symm.trans hnext
  exact hkeeps hform

/-- Settles O7: every function of the model keeps the capacities, so the step does. -/
theorem stepKeepsCapacity : Obligations.StepKeepsCapacity := by
  intro s t hwithin hstep
  obtain ⟨t', hnext, _, _, hkeeps⟩ := keeps_step s
  cases hstep.symm.trans hnext
  exact hkeeps hwithin

/-- Settles O5: right after reset the register file, the store and every list with a capacity are empty. -/
theorem resetMeetsInvariants : Obligations.ResetMeetsInvariants := by
  refine ⟨⟨regsForm_nil.1, regsForm_nil.2, fun l => ?_, rfl⟩, ⟨?_, ?_⟩, ?_⟩
  · cases l <;> exact ⟨rfl, rfl⟩
  all_goals decide

/-- Settles O2: the reset state is a closed term, whose parts are looked up. -/
theorem resetState : Obligations.ResetState := by
  unfold Obligations.ResetState
  refine ⟨rfl, rfl, rfl, rfl, ?_⟩
  iterate 16 refine ⟨by decide, ?_⟩
  exact ⟨fun l => by cases l <;> decide, rfl, rfl⟩

end Sys2Proof.Machine

namespace Sys2Proof.Machine

set_option Elab.async false

/-! ### What an operation may change -/

/-- A command that ends in a next state which differs from `b` in the parts listed at most. -/
def OnlyOut (P : List Part) (b : State) (o : Host.Outcome State Fault Refusal) : Prop := ∃ t, o = .next t ∧ OnlyIn P b t

section
variable {P Q : List Part} {b s t : State}

theorem only_refl : OnlyIn P b b := onlyIn_refl P b

theorem only_via (h : OnlyIn P b s) (hQ : ∀ p ∈ Q, p ∈ P) (hf : ∀ b, OnlyIn Q b s → OnlyIn Q b t) : OnlyIn P b t :=
  onlyIn_trans h (onlyIn_mono (hf s only_refl) hQ)

theorem only_ite {c : Prop} [Decidable c] (hs : OnlyIn P b s) (ht : OnlyIn P b t) : OnlyIn P b (if c then s else t) := by
  split
  · exact hs
  · exact ht

theorem only_ite_snd {α : Type} {c : Prop} [Decidable c] {p q : α × State} (hp : OnlyIn P b p.2) (hq : OnlyIn P b q.2) :
    OnlyIn P b (if c then p else q).2 := by
  split
  · exact hp
  · exact hq

theorem only_when {c : Bool} {f : State → State} (hf : OnlyIn P b s → OnlyIn P b (f s)) (h : OnlyIn P b s) : OnlyIn P b (when c f s) :=
  only_ite (hf h) h

theorem only_foldl {α : Type} {f : State → α → State} {l : List α} (hf : ∀ t x, OnlyIn P b t → OnlyIn P b (f t x)) (h : OnlyIn P b s) :
    OnlyIn P b (l.foldl f s) := by
  induction l generalizing s with
  | nil => exact h
  | cons x xs ih => exact ih (hf s x h)

theorem onlyOut_next (h : OnlyIn P b t) : OnlyOut P b (.next t) := ⟨t, rfl, h⟩

theorem onlyOut_via {o : Host.Outcome State Fault Refusal} (h : OnlyIn P b s) (hQ : ∀ p ∈ Q, p ∈ P) (hf : ∀ b, OnlyIn Q b s → OnlyOut Q b o) :
    OnlyOut P b o := by
  obtain ⟨t, ho, ht⟩ := hf s only_refl
  exact ⟨t, ho, onlyIn_trans h (onlyIn_mono ht hQ)⟩

theorem onlyOut_ite {c : Prop} [Decidable c] {o o' : Host.Outcome State Fault Refusal} (ho : OnlyOut P b o) (ho' : OnlyOut P b o') :
    OnlyOut P b (if c then o else o') := by
  split
  · exact ho
  · exact ho'

end

section
variable {P : List Part} {b s : State}
variable {now free : Nat} {regs : List (Nat × Word)} {shadows : List Shadow} {latches : List Latch} {loWrites : List LoWrite} {out : List Msg}
  {sys : Sys} {isl : Island} {nv : NonVol} {time : Time} {vot : Vot} {icus : Tri Icu} {mems : Tri LaneMem} {erec : Recorder} {odo : Odo} {sup : Sup}
  {pst : Piste} {dio : Dio} {ftn : Ftn} {cyc : Cyc} {chk : Chk} {brg : Brg} {dmas : List Dma} {ksp : Ksp} {upd : Upd} {secs : Tri Sec} {tlm : Tlm}

/-- A part that is not listed is as before. -/
theorem only_mk (h : OnlyIn P b s)
    (hrest : ∀ p ∉ P, p.same s ⟨s.pending, now, free, regs, shadows, latches, loWrites, out, sys, isl, nv, time, vot, icus, mems, erec, odo, sup, pst, dio, ftn, cyc, chk, brg, dmas, ksp, upd, secs, tlm⟩ := by
      intro p hp; cases p <;> first | exact absurd (by decide) hp | rfl) :
    OnlyIn P b ⟨s.pending, now, free, regs, shadows, latches, loWrites, out, sys, isl, nv, time, vot, icus, mems, erec, odo, sup, pst, dio, ftn, cyc, chk, brg, dmas, ksp, upd, secs, tlm⟩ :=
  onlyIn_trans h ⟨rfl, hrest⟩

end

section
variable {P : List Part} {b s : State}

theorem only_setReg {k v} (h : OnlyIn P b s) (hP : ∀ p ∈ [.regs], p ∈ P := by decide) : OnlyIn P b (setReg k v s) :=
  only_via h hP fun b h => only_mk h

theorem only_bumpBy {key n} (h : OnlyIn P b s) (hP : ∀ p ∈ [.regs], p ∈ P := by decide) : OnlyIn P b (bumpBy key n s) :=
  only_via h hP fun b h =>
    only_setReg h

theorem only_bump {key} (h : OnlyIn P b s) (hP : ∀ p ∈ [.regs], p ∈ P := by decide) : OnlyIn P b (bump key s) :=
  only_via h hP fun b h =>
    only_bumpBy h

theorem only_bumpLane {l off} (h : OnlyIn P b s) (hP : ∀ p ∈ [.regs], p ∈ P := by decide) : OnlyIn P b (bumpLane l off s) :=
  only_via h hP fun b h =>
    only_bump h

theorem only_advance {dt} (h : OnlyIn P b s) (hP : ∀ p ∈ [.now, .isl, .nv, .time], p ∈ P := by decide) : OnlyIn P b (advance dt s) :=
  only_via h hP fun b h => only_mk h

theorem only_advanceTo {t} (h : OnlyIn P b s) (hP : ∀ p ∈ [.now, .isl, .nv, .time], p ∈ P := by decide) : OnlyIn P b (advanceTo t s) :=
  only_via h hP fun b h =>
    only_ite h (only_advance h)

theorem only_toTb0 {ns} (h : OnlyIn P b s) (hP : ∀ p ∈ [.now, .isl, .nv, .time], p ∈ P := by decide) : OnlyIn P b (toTb0 ns s) :=
  only_via h hP fun b h =>
    only_ite h (only_advance h)

theorem only_toTb2 {t} (h : OnlyIn P b s) (hP : ∀ p ∈ [.now, .isl, .nv, .time], p ∈ P := by decide) : OnlyIn P b (toTb2 t s) :=
  only_via h hP fun b h =>
    only_ite h (only_advance h)

theorem only_send {m} (h : OnlyIn P b s) (hP : ∀ p ∈ [.out], p ∈ P := by decide) : OnlyIn P b (send m s) :=
  only_via h hP fun b h => only_mk h

theorem only_setLane {l f} (h : OnlyIn P b s) (hP : ∀ p ∈ [.vot], p ∈ P := by decide) : OnlyIn P b (State.setLane s l f) :=
  only_via h hP fun b h => only_mk h

theorem only_assertAt {l id} (h : OnlyIn P b s) (hP : ∀ p ∈ [.icus], p ∈ P := by decide) : OnlyIn P b (assertAt l id s) :=
  only_via h hP fun b h => only_mk h

theorem only_raiseIrq {id} (h : OnlyIn P b s) (hP : ∀ p ∈ [.icus], p ∈ P := by decide) : OnlyIn P b (raiseIrq id s) :=
  only_via h hP fun b h => only_mk h

theorem only_requestRec {q} (h : OnlyIn P b s) (hP : ∀ p ∈ [.regs, .isl, .icus, .erec], p ∈ P := by decide) : OnlyIn P b (requestRec q s) :=
  only_via h hP fun b h =>
    only_ite (only_ite (only_mk h) (only_ite (only_bump (only_mk h)) (only_raiseIrq (only_bump (only_mk h))))) (only_ite (only_mk h) (only_mk h))

theorem only_record {type items} (h : OnlyIn P b s) (hP : ∀ p ∈ [.regs, .isl, .icus, .erec], p ∈ P := by decide) : OnlyIn P b (record type items s) :=
    by
  refine only_via h hP fun b h => ?_
  unfold record
  split <;> exact only_requestRec h

theorem only_setLatch {lane core off vals} (h : OnlyIn P b s) (hP : ∀ p ∈ [.latches], p ∈ P := by decide) : OnlyIn P b (setLatch lane core off vals s)
    :=
  only_via h hP fun b h => only_mk h

theorem only_answer {l core v err} (h : OnlyIn P b s) (hP : ∀ p ∈ [.vot], p ∈ P := by decide) : OnlyIn P b (answer l core v err s) :=
  only_via h hP fun b h =>
    only_setLane h

theorem only_answerAll {core v err} (h : OnlyIn P b s) (hP : ∀ p ∈ [.vot], p ∈ P := by decide) : OnlyIn P b (answerAll core v err s) :=
  only_via h hP fun b h =>
    only_foldl (fun _ _ h => only_answer h) h

theorem only_passDone {a} (h : OnlyIn P b s) (hP : ∀ p ∈ [.tlm], p ∈ P := by decide) : OnlyIn P b (passDone a s) :=
  only_via h hP fun b h =>
    only_mk (only_mk h)

theorem only_wrLane {l addr bs} (h : OnlyIn P b s) (hP : ∀ p ∈ [.mems], p ∈ P := by decide) : OnlyIn P b (wrLane l addr bs s) :=
  only_via h hP fun b h => only_mk h

theorem only_groupCause {g b' v} (h : OnlyIn P b s) (hP : ∀ p ∈ [.dio], p ∈ P := by decide) : OnlyIn P b (groupCause g b' v s) :=
  only_via h hP fun b h => only_mk h

theorem only_bothGroups {b' v} (h : OnlyIn P b s) (hP : ∀ p ∈ [.dio], p ∈ P := by decide) : OnlyIn P b (bothGroups b' v s) :=
  only_via h hP fun b h =>
    only_groupCause (only_groupCause h)

theorem only_resolveOuts (h : OnlyIn P b s) (hP : ∀ p ∈ [.regs, .out, .icus, .dio], p ∈ P := by decide) : OnlyIn P b (resolveOuts s) :=
  only_via h hP fun b h =>
    only_when only_raiseIrq (only_bumpBy (only_bumpBy (only_mk h)))

theorem only_latchHold (h : OnlyIn P b s) (hP : ∀ p ∈ [.dio], p ∈ P := by decide) : OnlyIn P b (latchHold s) :=
  only_via h hP fun b h => only_mk h

theorem only_modeChanged {old} (h : OnlyIn P b s) (hP : ∀ p ∈ [.regs, .sys, .isl, .icus, .erec], p ∈ P := by decide) : OnlyIn P b (modeChanged old s)
    :=
  only_via h hP fun b h =>
    only_ite h (only_raiseIrq (only_record (only_bump (only_mk h))))

theorem only_abandonCycle (h : OnlyIn P b s) (hP : ∀ p ∈ [.vot, .cyc], p ∈ P := by decide) : OnlyIn P b (abandonCycle s) :=
  only_via h hP fun b h => only_mk h

theorem only_modeCauses (h : OnlyIn P b s) (hP : ∀ p ∈ [.dio], p ∈ P := by decide) : OnlyIn P b (modeCauses s) := by
  refine only_via h hP fun b h => ?_
  unfold modeCauses
  split
  · exact only_bothGroups (only_bothGroups h)
  · exact only_bothGroups (only_bothGroups h)
  · exact only_bothGroups (only_bothGroups h)
  · exact only_bothGroups (only_bothGroups h)
  · exact only_bothGroups (only_bothGroups h)
  · exact only_groupCause (only_groupCause h)
  · exact only_bothGroups h
  · exact only_bothGroups h

theorem only_setSync {v} (h : OnlyIn P b s) (hP : ∀ p ∈ [.out, .pst], p ∈ P := by decide) : OnlyIn P b (setSync v s) :=
  only_via h hP fun b h => only_mk h

theorem only_pisteHold (h : OnlyIn P b s) (hP : ∀ p ∈ [.out, .pst], p ∈ P := by decide) : OnlyIn P b (pisteHold s) :=
  only_via h hP fun b h =>
    only_setSync (only_mk h)

theorem only_resetLane {p l} (h : OnlyIn P b s) (hP : ∀ p ∈ [.regs, .latches, .loWrites, .vot, .icus], p ∈ P := by decide) : OnlyIn P b (resetLane p l
    s) :=
  only_via h hP fun b h => only_mk h

theorem only_abandonRejoins (h : OnlyIn P b s) (hP : ∀ p ∈ [.regs, .latches, .loWrites, .vot, .icus], p ∈ P := by decide) : OnlyIn P b (abandonRejoins
    s) := by
  refine only_via h hP fun b h => ?_
  unfold abandonRejoins
  refine only_foldl (fun _ _ h => ?_) h
  split
  · exact only_setLane (only_resetLane h)
  · exact only_setLane (only_resetLane h)
  · exact only_setLane (only_resetLane h)
  · exact only_setLane (only_resetLane h)
  · exact only_setLane h
  · exact h

theorem only_setMode {m} (h : OnlyIn P b s) (hP : ∀ p ∈ [.regs, .latches, .loWrites, .out, .sys, .isl, .vot, .icus, .erec, .pst, .dio, .cyc], p ∈ P :=
    by decide) : OnlyIn P b (setMode m s) :=
  only_via h hP fun b h =>
    only_resolveOuts (only_modeChanged (only_modeCauses (only_ite (only_ite (only_mk (only_mk (only_ite (only_latchHold (only_pisteHold
    (only_abandonCycle (only_when only_abandonRejoins h)))) (only_when only_abandonRejoins h)))) (only_mk (only_ite (only_latchHold
    (only_pisteHold (only_abandonCycle (only_when only_abandonRejoins h)))) (only_when only_abandonRejoins h)))) (only_mk (only_ite
    (only_mk (only_mk (only_ite (only_latchHold (only_pisteHold (only_abandonCycle (only_when only_abandonRejoins h)))) (only_when
    only_abandonRejoins h)))) (only_mk (only_ite (only_latchHold (only_pisteHold (only_abandonCycle (only_when only_abandonRejoins h))))
    (only_when only_abandonRejoins h))))))))

theorem only_addReason {r} (h : OnlyIn P b s) (hP : ∀ p ∈ [.regs, .latches, .loWrites, .out, .sys, .isl, .vot, .icus, .erec, .pst, .dio, .cyc], p ∈ P
    := by decide) : OnlyIn P b (addReason r s) :=
  only_via h hP fun b h =>
    only_ite (only_modeChanged (only_mk h)) (only_setMode (only_mk h))

theorem only_findReason {r} (h : OnlyIn P b s) (hP : ∀ p ∈ [.regs, .latches, .loWrites, .out, .sys, .isl, .vot, .icus, .erec, .pst, .dio, .cyc], p ∈ P
    := by decide) : OnlyIn P b (findReason r s) :=
  only_via h hP fun b h =>
    only_ite (only_mk h) (only_addReason h)

theorem only_clearReason {r} (h : OnlyIn P b s) (hP : ∀ p ∈ [.regs, .sys, .isl, .icus, .erec], p ∈ P := by decide) : OnlyIn P b (clearReason r s) :=
  only_via h hP fun b h =>
    only_ite (only_modeChanged (only_mk h)) h

theorem only_commitPage (h : OnlyIn P b s) (hP : ∀ p ∈ [.regs, .nv, .icus, .erec], p ∈ P := by decide) : OnlyIn P b (commitPage s) :=
  only_via h hP fun b h =>
    only_ite h (only_ite (only_mk h) (only_when only_raiseIrq (only_bump (only_mk h))))

theorem only_newRec {q same} (h : OnlyIn P b s) (hP : ∀ p ∈ [.regs, .nv, .icus, .erec], p ∈ P := by decide) : OnlyIn P b (acceptOne.newRec q same s)
    :=
  only_via h hP fun b h =>
    only_bump (only_mk (only_ite h (only_commitPage h)))

theorem only_acceptOne (h : OnlyIn P b s) (hP : ∀ p ∈ [.regs, .nv, .icus, .erec], p ∈ P := by decide) : OnlyIn P b (acceptOne s) := by
  refine only_via h hP fun b h => ?_
  have htaken : ∀ q : RecReq, OnlyIn [.regs, .nv, .icus, .erec] b { s with erec := { s.erec with queue := s.erec.queue.erase q, lost := false, tell :=
      false } } :=
    fun q => only_mk h
  unfold acceptOne
  split
  · exact h
  next q0 hq =>
    dsimp only
    split
    · exact only_ite (only_bump (only_mk (only_when only_raiseIrq (htaken q0)))) (only_newRec (only_when only_raiseIrq (htaken q0)))
    · exact only_newRec (only_when only_raiseIrq (htaken q0))

theorem only_retireBlocks {n} (h : OnlyIn P b s) (hP : ∀ p ∈ [.regs, .nv, .icus, .erec], p ∈ P := by decide) : OnlyIn P b (retireBlocks n s) :=
  only_via h hP fun b h =>
    only_ite h (only_raiseIrq (only_bumpBy (only_mk h)))

theorem only_acceptAll (h : OnlyIn P b s) (hP : ∀ p ∈ [.regs, .nv, .icus, .erec], p ∈ P := by decide) : OnlyIn P b (acceptAll s) :=
  only_via h hP fun b h =>
    only_foldl (fun _ _ h => only_acceptOne h) h

theorem only_failSilent (h : OnlyIn P b s) (hP : ∀ p ∈ [.regs, .out, .sys, .isl, .nv, .vot, .icus, .erec, .pst, .ftn, .cyc, .chk], p ∈ P := by decide)
    : OnlyIn P b (failSilent s) := by
  refine only_via h hP fun b h => ?_
  have hcommitted := only_commitPage (P := [.regs, .out, .sys, .isl, .nv, .vot, .icus, .erec, .pst, .ftn, .cyc, .chk]) (only_acceptAll h)
  unfold failSilent
  generalize commitPage (acceptAll s) = s1 at hcommitted
  exact only_ite h (only_abandonCycle (only_mk hcommitted))

theorem only_markExclusion {l c} (h : OnlyIn P b s) (hP : ∀ p ∈ [.vot], p ∈ P := by decide) : OnlyIn P b (markExclusion l c s) :=
  only_via h hP fun b h => only_mk h

theorem only_unpowerLane {l} (h : OnlyIn P b s) (hP : ∀ p ∈ [.mems], p ∈ P := by decide) : OnlyIn P b (unpowerLane l s) :=
  only_via h hP fun b h => only_mk h

theorem only_wipeLane {l cause} (h : OnlyIn P b s) (hP : ∀ p ∈ [.free, .regs, .isl, .icus, .mems, .erec], p ∈ P := by decide) : OnlyIn P b (wipeLane l
    cause s) :=
  only_via h hP fun b h => only_ite (only_mk h) (only_when only_unpowerLane (only_record (only_bumpLane (only_mk (only_mk h)))))

theorem only_excludeLane {l c} (h : OnlyIn P b s) (hP : ∀ p ∈ [.free, .regs, .latches, .loWrites, .out, .sys, .isl, .nv, .vot, .icus, .mems, .erec,
    .pst, .dio, .ftn, .cyc, .chk], p ∈ P := by decide) : OnlyIn P b (excludeLane l c s) :=
  only_via h hP fun b h =>
    only_ite h (only_ite (only_failSilent (only_record h)) (only_ite (only_setMode (only_raiseIrq (only_when only_record (only_record
    (only_bump (only_wipeLane (only_resetLane (only_markExclusion h)))))))) (only_raiseIrq (only_when only_record (only_record (only_bump
    (only_wipeLane (only_resetLane (only_markExclusion h)))))))))

theorem only_hubFail (h : OnlyIn P b s) (hP : ∀ p ∈ [.regs, .out, .sys, .isl, .nv, .vot, .icus, .erec, .pst, .ftn, .cyc, .chk], p ∈ P := by decide) :
    OnlyIn P b (hubFail s) :=
  only_via h hP fun b h =>
    only_ite (only_failSilent (only_record (only_mk h))) h

theorem only_sessionEvent {x opened} (h : OnlyIn P b s) (hP : ∀ p ∈ [.regs, .isl, .icus, .erec], p ∈ P := by decide) : OnlyIn P b (sessionEvent x
    opened s) :=
  only_via h hP fun b h =>
    only_raiseIrq (only_record h)

theorem only_endSessions {p} (h : OnlyIn P b s) (hP : ∀ p ∈ [.regs, .isl, .icus, .erec, .ksp], p ∈ P := by decide) : OnlyIn P b (endSessions p s) :=
  only_via h hP fun b h =>
    only_foldl (fun _ _ h => only_sessionEvent h) (only_mk h)

theorem only_flushRecords (h : OnlyIn P b s) (hP : ∀ p ∈ [.regs, .nv, .icus, .erec], p ∈ P := by decide) : OnlyIn P b (flushRecords s) :=
  only_via h hP fun b h =>
    only_ite h (only_commitPage (only_acceptAll h))

theorem only_setCulvert {l f} (h : OnlyIn P b s) (hP : ∀ p ∈ [.brg], p ∈ P := by decide) : OnlyIn P b (setCulvert l f s) := by
  refine only_via h hP fun b h => ?_
  unfold setCulvert
  split
  · exact only_mk h
  · exact only_mk h
  · exact h

theorem only_linkSend {l type code tag addr len payload} (h : OnlyIn P b s) (hP : ∀ p ∈ [.out, .brg], p ∈ P := by decide) : OnlyIn P b (linkSend l
    type code tag addr len payload s) :=
  only_via h hP fun b h =>
    only_send (only_setCulvert h)

theorem only_linkTake {l p} (h : OnlyIn P b s) (hP : ∀ p ∈ [.out, .brg], p ∈ P := by decide) : OnlyIn P b (linkTake l p s) :=
  only_via h hP fun b h =>
    only_send (only_setCulvert h)

theorem only_answerStream {stream err data} (h : OnlyIn P b s) (hP : ∀ p ∈ [.brg], p ∈ P := by decide) : OnlyIn P b (answerStream stream err data s)
    :=
  only_via h hP fun b h => only_mk h

theorem only_readReturns {stream err data} (h : OnlyIn P b s) (hP : ∀ p ∈ [.vot, .brg], p ∈ P := by decide) : OnlyIn P b (readReturns stream err data
    s) :=
  only_via h hP fun b h =>
    only_answerStream (only_foldl (fun _ _ h => only_answer h) (only_mk h))

theorem only_nextTag {l} (h : OnlyIn P b s) (hP : ∀ p ∈ [.brg], p ∈ P := by decide) : OnlyIn P b (nextTag l s) :=
  only_via h hP fun b h =>
    only_setCulvert h

theorem only_countFailed {stream} (h : OnlyIn P b s) (hP : ∀ p ∈ [.brg], p ∈ P := by decide) : OnlyIn P b (countFailed stream s) :=
  only_via h hP fun b h => only_mk h

theorem only_dmaStop {c err} (h : OnlyIn P b s) (hP : ∀ p ∈ [.regs, .icus, .dmas], p ∈ P := by decide) : OnlyIn P b (dmaStop c err s) :=
  only_via h hP fun b h =>
    only_ite (only_raiseIrq (only_bump (only_mk h))) h

theorem only_failWrite {l w code} (h : OnlyIn P b s) (hP : ∀ p ∈ [.regs, .isl, .vot, .icus, .erec, .brg, .dmas], p ∈ P := by decide) : OnlyIn P b
    (failWrite l w code s) := by
  refine only_via h hP fun b h => ?_
  have hdma : ∀ (d : Option Nat) t, OnlyIn [.regs, .isl, .vot, .icus, .erec, .brg, .dmas] b t → OnlyIn [.regs, .isl, .vot, .icus, .erec, .brg, .dmas]
      b ((match d with | some c => dmaStop c 3 | none => id) t) := by
    intro d t ht
    cases d with
    | none => exact ht
    | some c => exact only_dmaStop ht
  unfold failWrite
  exact hdma w.dma _ (only_when only_readReturns (only_when only_countFailed (only_record (only_raiseIrq (only_bump
    (only_ite (only_raiseIrq (only_bump (only_mk h))) (only_mk h)))))))

theorem only_failLocally {l w code} (h : OnlyIn P b s) (hP : ∀ p ∈ [.regs, .isl, .vot, .icus, .erec, .brg, .dmas], p ∈ P := by decide) : OnlyIn P b
    (failLocally l w code s) :=
  only_via h hP fun b h =>
    only_failWrite (only_setCulvert h)

theorem only_failRead {r} (h : OnlyIn P b s) (hP : ∀ p ∈ [.regs, .vot, .icus, .brg, .dmas], p ∈ P := by decide) : OnlyIn P b (failRead r s) := by
  refine only_via h hP fun b h => ?_
  unfold failRead
  split
  · exact only_dmaStop h
  · exact only_readReturns h

theorem only_failAll {l} (h : OnlyIn P b s) (hP : ∀ p ∈ [.regs, .isl, .vot, .icus, .erec, .brg, .dmas], p ∈ P := by decide) : OnlyIn P b (failAll l s)
    :=
  only_via h hP fun b h =>
    only_foldl (fun _ _ h => only_failRead h) (only_foldl (fun _ _ h => only_failLocally h) (only_setCulvert h))

theorem only_linkState {l v} (h : OnlyIn P b s) (hP : ∀ p ∈ [.regs, .isl, .vot, .icus, .erec, .brg, .dmas], p ∈ P := by decide) : OnlyIn P b
    (linkState l v s) :=
  only_via h hP fun b h =>
    only_ite h (only_when only_failAll (only_when only_bump (only_raiseIrq (only_setCulvert h))))

theorem only_xwriteByte {a b'} (h : OnlyIn P b s) (hP : ∀ p ∈ [.regs], p ∈ P := by decide) : OnlyIn P b (xwriteByte a b' s) :=
  only_via h hP fun b h =>
    only_setReg h

theorem only_dropFetches {a n} (h : OnlyIn P b s) (hP : ∀ p ∈ [.brg], p ∈ P := by decide) : OnlyIn P b (dropFetches a n s) :=
  only_via h hP fun b h =>
    only_setCulvert (only_setCulvert h)

theorem only_xwrite {a bs} (h : OnlyIn P b s) (hP : ∀ p ∈ [.regs, .brg], p ∈ P := by decide) : OnlyIn P b (xwrite a bs s) :=
  only_via h hP fun b h =>
    only_dropFetches (only_foldl (fun _ _ h => only_xwriteByte h) h)

theorem only_sendRetry {l p} (h : OnlyIn P b s) (hP : ∀ p ∈ [.regs, .out, .brg], p ∈ P := by decide) : OnlyIn P b (sendRetry l p s) :=
  only_via h hP fun b h =>
    only_linkSend (only_bump h)

theorem only_suspendBelow (h : OnlyIn P b s) (hP : ∀ p ∈ [.pst], p ∈ P := by decide) : OnlyIn P b (suspendBelow s) :=
  only_via h hP fun b h => only_mk h

theorem only_setClass {c} (h : OnlyIn P b s) (hP : ∀ p ∈ [.icus, .odo, .pst], p ∈ P := by decide) : OnlyIn P b (setClass c s) :=
  only_via h hP fun b h =>
    only_ite h (only_raiseIrq (only_suspendBelow (only_mk h)))

theorem only_gradeOwn (h : OnlyIn P b s) (hP : ∀ p ∈ [.icus, .odo, .pst], p ∈ P := by decide) : OnlyIn P b (gradeOwn s) :=
  only_via h hP fun b h =>
    only_setClass (only_mk h)

theorem only_setSensor {n f} (h : OnlyIn P b s) (hP : ∀ p ∈ [.odo], p ∈ P := by decide) : OnlyIn P b (setSensor n f s) :=
  only_via h hP fun b h => only_mk h

theorem only_sensorTo {n v} (h : OnlyIn P b s) (hP : ∀ p ∈ [.odo], p ∈ P := by decide) : OnlyIn P b (sensorTo n v s) :=
  only_via h hP fun b h =>
    only_setSensor h

theorem only_faultSensor {n cause} (h : OnlyIn P b s) (hP : ∀ p ∈ [.regs, .isl, .icus, .erec, .odo], p ∈ P := by decide) : OnlyIn P b (faultSensor n
    cause s) :=
  only_via h hP fun b h =>
    only_ite (only_setSensor h) (only_raiseIrq (only_record (only_bump (only_sensorTo (only_setSensor h)))))

theorem only_phaseEdge {n onB} (h : OnlyIn P b s) (hP : ∀ p ∈ [.regs, .isl, .icus, .erec, .odo], p ∈ P := by decide) : OnlyIn P b (phaseEdge n onB s)
    :=
  only_via h hP fun b h =>
    only_when only_faultSensor (only_when only_faultSensor (only_setSensor h))

theorem only_phaseStrobe {n onB e} (h : OnlyIn P b s) (hP : ∀ p ∈ [.regs, .isl, .icus, .erec, .odo], p ∈ P := by decide) : OnlyIn P b (phaseStrobe n
    onB e s) :=
  only_via h hP fun b h =>
    only_when only_faultSensor (only_foldl (fun _ _ h => only_phaseEdge h) (only_setSensor h))

theorem only_cmdResult3 {key state cause} (h : OnlyIn P b s) (hP : ∀ p ∈ [.regs], p ∈ P := by decide) : OnlyIn P b (fixStatus.cmdResult3 key state
    cause s) :=
  only_via h hP fun b h =>
    only_setReg h

theorem only_fixStatus {state cause} (h : OnlyIn P b s) (hP : ∀ p ∈ [.regs], p ∈ P := by decide) : OnlyIn P b (fixStatus state cause s) :=
  only_via h hP fun b h =>
    only_ite (only_setReg h) (only_cmdResult3 h)

theorem only_fixReject {cause} (h : OnlyIn P b s) (hP : ∀ p ∈ [.regs, .icus, .odo], p ∈ P := by decide) : OnlyIn P b (fixReject cause s) :=
  only_via h hP fun b h =>
    only_raiseIrq (only_bump (only_fixStatus (only_mk h)))

theorem only_lockChange {v} (h : OnlyIn P b s) (hP : ∀ p ∈ [.regs, .isl, .icus, .erec, .sup], p ∈ P := by decide) : OnlyIn P b (lockChange v s) :=
  only_via h hP fun b h =>
    only_ite h (only_record (only_raiseIrq (only_when only_bump (only_mk h))))

theorem only_setPort {p f} (h : OnlyIn P b s) (hP : ∀ p ∈ [.ftn], p ∈ P := by decide) : OnlyIn P b (setPort p f s) :=
  only_via h hP fun b h => only_mk h

theorem only_queueArb {f} (h : OnlyIn P b s) (hP : ∀ p ∈ [.regs, .icus, .ftn], p ∈ P := by decide) : OnlyIn P b (queueArb f s) :=
  only_via h hP fun b h => only_ite (only_mk h) (only_raiseIrq (only_bump h))

theorem only_cmdResult {key state cause} (h : OnlyIn P b s) (hP : ∀ p ∈ [.regs], p ∈ P := by decide) : OnlyIn P b (cmdResult key state cause s) :=
  only_via h hP fun b h =>
    only_setReg h

theorem only_chkUpdate (h : OnlyIn P b s) (hP : ∀ p ∈ [.icus, .chk], p ∈ P := by decide) : OnlyIn P b (chkUpdate s) :=
  only_via h hP fun b h =>
    only_when only_raiseIrq (only_when only_raiseIrq (only_mk h))

theorem only_setDi {n f} (h : OnlyIn P b s) (hP : ∀ p ∈ [.dio], p ∈ P := by decide) : OnlyIn P b (setDi n f s) :=
  only_via h hP fun b h => only_mk h

theorem only_setGroup {g f} (h : OnlyIn P b s) (hP : ∀ p ∈ [.dio], p ∈ P := by decide) : OnlyIn P b (setGroup g f s) :=
  only_via h hP fun b h => only_mk h

theorem only_tripLatch {r} (h : OnlyIn P b s) (hP : ∀ p ∈ [.regs, .isl, .icus, .erec, .dio], p ∈ P := by decide) : OnlyIn P b (tripLatch r s) :=
  only_via h hP fun b h =>
    only_record (only_raiseIrq (only_bump (only_when only_groupCause (only_when only_groupCause (only_mk h)))))

theorem only_tripEval (h : OnlyIn P b s) (hP : ∀ p ∈ [.regs, .out, .isl, .icus, .erec, .dio], p ∈ P := by decide) : OnlyIn P b (tripEval s) :=
  only_via h hP fun b h =>
    only_ite h (only_resolveOuts (only_foldl (fun _ _ h => only_tripLatch h) (only_mk h)))

theorem only_calStart {p} (h : OnlyIn P b s) (hP : ∀ p ∈ [.free, .regs, .ftn], p ∈ P := by decide) : OnlyIn P b (calStart p s) :=
  only_via h hP fun b h =>
    only_setReg (only_setPort (only_mk h))

theorem only_reqStatus {state cause req} (h : OnlyIn P b s) (hP : ∀ p ∈ [.regs, .icus], p ∈ P := by decide) : OnlyIn P b (reqStatus state cause req s)
    :=
  only_via h hP fun b h =>
    only_ite (only_setReg h) (only_raiseIrq (only_setReg h))

theorem only_endAttempt {l c atOnce} (h : OnlyIn P b s) (hP : ∀ p ∈ [.free, .regs, .latches, .loWrites, .isl, .vot, .icus, .mems, .erec], p ∈ P := by
    decide) : OnlyIn P b (endAttempt l c atOnce s) :=
  only_via h hP fun b h =>
    only_raiseIrq (only_when only_record (only_record (only_bump (only_wipeLane (only_resetLane (only_markExclusion h))))))

theorem only_toPhase {l p} (h : OnlyIn P b s) (hP : ∀ p ∈ [.vot], p ∈ P := by decide) : OnlyIn P b (toPhase l p s) :=
  only_via h hP fun b h =>
    only_setLane h

theorem only_setMem {l f} (h : OnlyIn P b s) (hP : ∀ p ∈ [.mems], p ∈ P := by decide) : OnlyIn P b (setMem l f s) :=
  only_via h hP fun b h => only_mk h

theorem only_logError {l dram addr info} (h : OnlyIn P b s) (hP : ∀ p ∈ [.regs], p ∈ P := by decide) : OnlyIn P b (logError l dram addr info s) :=
  only_via h hP fun b h =>
    only_ite (only_setReg (only_setReg (only_setReg h))) (only_setReg (only_setReg h))

theorem only_countCorrection {l} (h : OnlyIn P b s) (hP : ∀ p ∈ [.regs, .isl, .icus, .mems, .erec], p ∈ P := by decide) : OnlyIn P b (countCorrection
    l s) :=
  only_via h hP fun b h => only_when only_record (only_when only_assertAt (only_setMem h))

theorem only_correct {l dram addr info} (h : OnlyIn P b s) (hP : ∀ p ∈ [.regs, .isl, .icus, .mems, .erec], p ∈ P := by decide) : OnlyIn P b (correct l
    dram addr info s) :=
  only_via h hP fun b h =>
    only_countCorrection (only_assertAt (only_setMem (only_logError (only_bumpLane h))))

theorem only_setSec {l f} (h : OnlyIn P b s) (hP : ∀ p ∈ [.secs], p ∈ P := by decide) : OnlyIn P b (setSec l f s) :=
  only_via h hP fun b h => only_mk h

theorem only_secEnds {l state valid cause} (h : OnlyIn P b s) (hP : ∀ p ∈ [.regs, .icus, .secs], p ∈ P := by decide) : OnlyIn P b (secEnds l state
    valid cause s) :=
  only_via h hP fun b h =>
    only_assertAt (only_bumpLane (only_setSec h))

theorem only_secOp {l v} (h : OnlyIn P b s) (hP : ∀ p ∈ [.regs, .icus, .mems, .secs], p ∈ P := by decide) : OnlyIn P b (secOp l v s) :=
  only_via h hP fun b h =>
    only_ite (only_secEnds h) (only_ite (only_secEnds h) (only_ite (only_secEnds h) (only_ite (only_secEnds h) (only_ite (only_secEnds h)
    (only_ite (only_secEnds (only_wrLane h)) (only_ite (only_secEnds h) (only_secEnds (only_wrLane h))))))))

theorem only_secAll {v} (h : OnlyIn P b s) (hP : ∀ p ∈ [.regs, .icus, .mems, .secs], p ∈ P := by decide) : OnlyIn P b (secAll v s) :=
  only_via h hP fun b h =>
    only_foldl (fun _ _ h => only_secOp h) h

theorem only_rngRead {core} (h : OnlyIn P b s) (hP : ∀ p ∈ [.free, .vot], p ∈ P := by decide) : OnlyIn P b (rngRead core s) :=
  only_via h hP fun b h =>
    only_answerAll (only_mk h)

theorem only_times {n f} (hf : ∀ t, OnlyIn P b t → OnlyIn P b (f t)) (h : OnlyIn P b s) : OnlyIn P b (times n f s) :=
  only_foldl (fun _ _ h => hf _ h) h

theorem only_norRead {slot} (h : OnlyIn P b s) (hP : ∀ p ∈ [.tlm], p ∈ P := by decide) : OnlyIn P b (norRead slot s) :=
  only_via h hP fun b h =>
    only_ite (only_passDone (only_mk h)) (only_mk h)

theorem only_norRefresh {slot blocks marginFail} (h : OnlyIn P b s) (hP : ∀ p ∈ [.regs, .isl, .icus, .erec, .upd, .tlm], p ∈ P := by decide) : OnlyIn
    P b (norRefresh slot blocks marginFail s) :=
  only_via h hP fun b h =>
    only_ite (only_norRead (only_mk h)) (only_ite (only_norRead h) (only_ite (only_norRead (only_times (fun _ h => only_record h) (only_mk
    h))) (only_norRead (only_record (only_mk h)))))

theorem only_portRead {port} (h : OnlyIn P b s) (hP : ∀ p ∈ [.tlm], p ∈ P := by decide) : OnlyIn P b (portRead port s) :=
  only_via h hP fun b h =>
    only_ite (only_passDone (only_mk h)) (only_mk h)

theorem only_maskPath {l ch} (h : OnlyIn P b s) (hP : ∀ p ∈ [.regs, .isl, .icus, .erec], p ∈ P := by decide) : OnlyIn P b (maskPath l ch s) :=
  only_via h hP fun b h =>
    only_record (only_raiseIrq (only_setReg h))

theorem only_setAgree {ch f} (h : OnlyIn P b s) (hP : ∀ p ∈ [.vot], p ∈ P := by decide) : OnlyIn P b (setAgree ch f s) :=
  only_via h hP fun b h => only_mk h

theorem only_pathDisagree {l ch} (h : OnlyIn P b s) (hP : ∀ p ∈ [.regs, .isl, .vot, .icus, .erec], p ∈ P := by decide) : OnlyIn P b (pathDisagree l ch
    s) :=
  only_via h hP fun b h =>
    only_ite (only_maskPath (only_setAgree h)) (only_setAgree h)

theorem only_diChange {n c} (h : OnlyIn P b s) (hP : ∀ p ∈ [.icus, .dio], p ∈ P := by decide) : OnlyIn P b (diChange n c s) :=
  only_via h hP fun b h =>
    only_ite h (only_when only_raiseIrq (only_setDi h))

theorem only_testSample {n t} (h : OnlyIn P b s) (hP : ∀ p ∈ [.dio], p ∈ P := by decide) : OnlyIn P b (testSample n t s) :=
  only_via h hP fun b h =>
    only_ite (only_setGroup h) h

theorem only_setSup {f} (h : OnlyIn P b s) (hP : ∀ p ∈ [.sup], p ∈ P := by decide) (hf : ∀ x, (f x).fifo = x.fifo := by exact fun _ => rfl) : OnlyIn P
    b (setSup f s) :=
  only_via h hP fun b h => only_mk h

theorem only_setChan {n f} (h : OnlyIn P b s) (hP : ∀ p ∈ [.sup], p ∈ P := by decide) : OnlyIn P b (setChan n f s) :=
  only_via h hP fun b h =>
    only_setSup h

theorem only_worsen {cls ch v} (h : OnlyIn P b s) (hP : ∀ p ∈ [.sup], p ∈ P := by decide) : OnlyIn P b (worsen cls ch v s) :=
  only_via h hP fun b h =>
    only_setSup h

theorem only_distEnd {d} (h : OnlyIn P b s) (hP : ∀ p ∈ [.regs, .isl, .icus, .erec, .sup], p ∈ P := by decide) : OnlyIn P b (distEnd d s) :=
  only_via h hP fun b h =>
    only_when only_record (only_ite (only_raiseIrq (only_mk (only_mk h))) (only_raiseIrq (only_bump (only_mk (only_mk h)))))

theorem only_longSpike {n} (h : OnlyIn P b s) (hP : ∀ p ∈ [.regs, .isl, .icus, .erec, .sup], p ∈ P := by decide) : OnlyIn P b (longSpike n s) := by
  refine only_via h hP fun b h => ?_
  unfold longSpike
  split
  · exact only_when (fun h => only_distEnd (only_setChan h)) h
  · exact h

theorem only_takeSample {n v} (h : OnlyIn P b s) (hP : ∀ p ∈ [.regs, .isl, .icus, .erec, .sup], p ∈ P := by decide) : OnlyIn P b (takeSample n v s) :=
  only_via h hP fun b h =>
    only_ite h (only_longSpike (only_worsen (only_setChan h)))

theorem only_inertStrobe {axes} (h : OnlyIn P b s) (hP : ∀ p ∈ [.free, .odo], p ∈ P := by decide) : OnlyIn P b (inertStrobe axes s) := by
  refine only_via h hP fun b h => ?_
  unfold inertStrobe
  dsimp only
  split
  · exact only_mk h
  · exact only_mk (only_mk h)

theorem only_noAgree (h : OnlyIn P b s) (hP : ∀ p ∈ [.regs], p ∈ P := by decide) : OnlyIn P b (noAgree s) :=
  only_via h hP fun b h =>
    only_bump h

theorem only_judgePending {ch v} (h : OnlyIn P b s) (hP : ∀ p ∈ [.regs, .isl, .vot, .icus, .erec], p ∈ P := by decide) : OnlyIn P b (judgePending ch v
    s) := by
  refine only_via h hP fun b h => ?_
  unfold judgePending
  split
  · exact h
  · split
    · exact only_ite (only_bump (only_setAgree h)) (only_pathDisagree (only_setAgree h))
    · exact only_pathDisagree (only_setAgree h)

theorem only_agreeTwo {ch same v} (h : OnlyIn P b s) (hP : ∀ p ∈ [.regs, .isl, .vot, .icus, .erec], p ∈ P := by decide) : OnlyIn P b (agreeTwo ch same
    v s).2 :=
  only_via h hP fun b h =>
    only_ite_snd (only_setAgree (only_judgePending h)) (only_when only_noAgree (only_setAgree (only_judgePending h)))

theorem only_agreeCode {ch t} (h : OnlyIn P b s) (hP : ∀ p ∈ [.regs, .isl, .vot, .icus, .erec], p ∈ P := by decide) : OnlyIn P b (agreeCode ch t s).2
    := by
  refine only_via h hP fun b h => ?_
  unfold agreeCode
  dsimp only
  split
  · exact only_noAgree (only_setAgree (only_judgePending h))
  · exact only_when only_bump (only_setAgree (only_judgePending h))

theorem only_agreeMeas {ch t} (h : OnlyIn P b s) (hP : ∀ p ∈ [.regs, .isl, .vot, .icus, .erec], p ∈ P := by decide) : OnlyIn P b (agreeMeas ch t s).2
    :=
  only_via h hP fun b h =>
    only_ite_snd (only_foldl (fun _ _ h => only_pathDisagree h) (only_setAgree (only_setAgree h))) (only_noAgree (only_setAgree h))

theorem only_agreeSample {ch t} (h : OnlyIn P b s) (hP : ∀ p ∈ [.regs, .isl, .vot, .icus, .erec], p ∈ P := by decide) : OnlyIn P b (agreeSample ch t
    s).2 := by
  refine only_via h hP fun b h => ?_
  unfold agreeSample
  dsimp only
  split
  · exact only_ite_snd (only_agreeCode h) (only_agreeMeas h)
  · exact only_agreeTwo h
  · exact only_judgePending h

theorem only_diSample {n v} (h : OnlyIn P b s) (hP : ∀ p ∈ [.icus, .dio], p ∈ P := by decide) : OnlyIn P b (diSample n v s) :=
  only_via h hP fun b h =>
    only_ite h (only_when only_diChange (only_setDi h))

theorem only_diStrobe {n t} (h : OnlyIn P b s) (hP : ∀ p ∈ [.regs, .isl, .vot, .icus, .erec, .dio], p ∈ P := by decide) : OnlyIn P b (diStrobe n t s)
    := by
  refine only_via h hP fun b h => ?_
  unfold diStrobe
  refine only_ite (only_diSample (only_testSample h)) (only_diSample ?_)
  split
  · exact only_ite_snd (only_agreeCode h) (only_agreeMeas h)
  · exact only_agreeTwo h
  · exact only_judgePending h

theorem only_speedStrobe {k t} (h : OnlyIn P b s) (hP : ∀ p ∈ [.regs, .isl, .vot, .icus, .erec, .odo], p ∈ P := by decide) : OnlyIn P b (speedStrobe k
    t s) := by
  refine only_via h hP fun b h => ?_
  unfold speedStrobe
  refine only_when only_phaseStrobe ?_
  split
  · exact only_ite_snd (only_agreeCode h) (only_agreeMeas h)
  · exact only_agreeTwo h
  · exact only_judgePending h

theorem only_analogStrobe {n t} (h : OnlyIn P b s) (hP : ∀ p ∈ [.regs, .isl, .vot, .icus, .erec, .sup], p ∈ P := by decide) : OnlyIn P b (analogStrobe
    n t s) := by
  refine only_via h hP fun b h => ?_
  unfold analogStrobe
  refine only_takeSample ?_
  split
  · exact only_ite_snd (only_agreeCode h) (only_agreeMeas h)
  · exact only_agreeTwo h
  · exact only_judgePending h

theorem only_inertialStrobe {samples} (h : OnlyIn P b s) (hP : ∀ p ∈ [.free, .regs, .isl, .vot, .icus, .erec, .odo], p ∈ P := by decide) : OnlyIn P b
    (inertialStrobe samples s) := by
  refine only_via h hP fun b h => ?_
  have hagreed : ∀ (xs : List (Tri Int × Nat)) (p : List (Option Int) × State), OnlyIn [.free, .regs, .isl, .vot, .icus, .erec, .odo] b p.2 →
      OnlyIn [.free, .regs, .isl, .vot, .icus, .erec, .odo] b (xs.foldl (fun (p : List (Option Int) × State) x =>
        if x.2 < 6 then let (v, s) := agreeSample (44 + x.2) x.1 p.2; (p.1 ++ [v], s) else p) p).2 := by
    intro xs
    induction xs with
    | nil => exact fun _ hp => hp
    | cons x xs ih => exact fun p hp => ih _ (only_ite_snd (only_agreeSample hp) hp)
  have h1 := hagreed samples.zipIdx ([], s) h
  unfold inertialStrobe
  generalize List.foldl _ ([], s) samples.zipIdx = x at h1 ⊢
  obtain ⟨axes, s1⟩ := x
  exact only_when only_inertStrobe h1

theorem only_recordPowerFail (h : OnlyIn P b s) (hP : ∀ p ∈ [.regs, .isl, .nv, .icus, .erec], p ∈ P := by decide) : OnlyIn P b (recordPowerFail s) :=
  only_via h hP fun b h => only_ite (only_flushRecords (only_record h)) (only_commitPage (only_acceptAll (only_mk h)))

theorem only_installKeys {l} (h : OnlyIn P b s) (hP : ∀ p ∈ [.mems], p ∈ P := by decide) : OnlyIn P b (installKeys s l) :=
  only_via h hP fun b h => only_ite (only_mk h) h

theorem only_holdupFailed (h : OnlyIn P b s) (hP : ∀ p ∈ [.regs, .sys, .isl, .icus, .erec], p ∈ P := by decide) : OnlyIn P b (holdupFailed s) :=
  only_via h hP fun b h =>
    only_record (only_mk h)

theorem only_overvoltage (h : OnlyIn P b s) (hP : ∀ p ∈ [.regs, .latches, .loWrites, .out, .sys, .isl, .vot, .icus, .erec, .pst, .dio, .cyc], p ∈ P :=
    by decide) : OnlyIn P b (overvoltage s) :=
  only_via h hP fun b h =>
    only_findReason (only_raiseIrq (only_mk h))

theorem only_holdup {pass} (h : OnlyIn P b s) (hP : ∀ p ∈ [.regs, .latches, .loWrites, .out, .sys, .isl, .vot, .icus, .erec, .pst, .dio, .cyc], p ∈ P
    := by decide) : OnlyIn P b (holdup pass s) :=
  only_via h hP fun b h =>
    only_ite (only_clearReason (only_mk h)) (only_findReason (only_holdupFailed h))

theorem only_tellStandby (h : OnlyIn P b s) (hP : ∀ p ∈ [.regs, .isl, .icus, .erec, .chk], p ∈ P := by decide) : OnlyIn P b (tellStandby s) :=
  only_via h hP fun b h => only_ite h (only_mk (only_foldl (fun _ _ h => only_record h) h))

theorem only_transmit {p m} (h : OnlyIn P b s) (hP : ∀ p ∈ [.regs, .out, .icus, .ftn], p ∈ P := by decide) : OnlyIn P b (transmit p m s) :=
  only_via h hP fun b h =>
    only_ite (only_when only_queueArb h) (only_when only_send h)

theorem only_setKsp {f} (h : OnlyIn P b s) (hP : ∀ p ∈ [.ksp], p ∈ P := by decide) : OnlyIn P b (setKsp f s) :=
  only_via h hP fun b h => only_mk h

theorem only_setSession {num f} (h : OnlyIn P b s) (hP : ∀ p ∈ [.ksp], p ∈ P := by decide) : OnlyIn P b (setSession num f s) :=
  only_via h hP fun b h =>
    only_setKsp h

theorem only_conclude {p m status last offset payload} (h : OnlyIn P b s) (hP : ∀ p ∈ [.regs, .out, .icus, .ftn, .ksp], p ∈ P := by decide) : OnlyIn P
    b (conclude p m status last offset payload s) :=
  only_via h hP fun b h =>
    only_transmit (only_when only_setSession (only_setKsp h))

theorem only_kspService (h : OnlyIn P b s) (hP : ∀ p ∈ [.regs, .out, .icus, .ftn, .ksp], p ∈ P := by decide) : OnlyIn P b (kspService s) := by
  refine only_via h hP fun b h => ?_
  unfold kspService
  refine only_foldl (fun _ _ h => ?_) h
  split
  · split
    · exact only_conclude h
    · exact h
  · exact h

theorem only_idle (h : OnlyIn P b s) (hP : ∀ p ∈ [.now, .regs, .out, .isl, .nv, .time, .icus, .ftn, .brg, .ksp], p ∈ P := by decide) : OnlyIn P b
    (idle s) :=
  only_via h hP fun b h =>
    only_when only_kspService (only_advance (only_mk h))

end

end Sys2Proof.Machine

namespace Sys2Proof.Machine

set_option Elab.async false

/-! ### Which registers an operation may change -/

/-- A command that ends in a next state in which the registers outside `R` are those of `b`. -/
def RegsOut (R : List Nat) (b : State) (o : Host.Outcome State Fault Refusal) : Prop := ∃ t, o = .next t ∧ RegsOnly R b t

section
variable {R Q : List Nat} {b s t : State}

theorem regs_refl : RegsOnly R b b := fun _ _ => rfl

theorem regs_via (h : RegsOnly R b s) (hQ : ∀ o ∈ Q, o ∈ R) (hf : ∀ b, RegsOnly Q b s → RegsOnly Q b t) : RegsOnly R b t := fun k hk =>
  (hf s regs_refl k fun hq => hk (hQ _ hq)).trans (h k hk)

/-- An operation that leaves the register file alone changes no register. -/
theorem regs_of_only {P : List Part} (h : RegsOnly R b s) (ht : OnlyIn P s t) (hP : Part.regs ∉ P := by decide) : RegsOnly R b t := fun k hk =>
  (reg_congr s t k (ht.2 .regs hP)).trans (h k hk)

theorem regs_ite {c : Prop} [Decidable c] (hs : RegsOnly R b s) (ht : RegsOnly R b t) : RegsOnly R b (if c then s else t) := by
  split
  · exact hs
  · exact ht

theorem regs_ite_snd {α : Type} {c : Prop} [Decidable c] {p q : α × State} (hp : RegsOnly R b p.2) (hq : RegsOnly R b q.2) :
    RegsOnly R b (if c then p else q).2 := by
  split
  · exact hp
  · exact hq

theorem regs_when {c : Bool} {f : State → State} (hf : RegsOnly R b s → RegsOnly R b (f s)) (h : RegsOnly R b s) : RegsOnly R b (when c f s) :=
  regs_ite (hf h) h

theorem regs_foldl {α : Type} {f : State → α → State} {l : List α} (hf : ∀ t x, RegsOnly R b t → RegsOnly R b (f t x)) (h : RegsOnly R b s) :
    RegsOnly R b (l.foldl f s) := by
  induction l generalizing s with
  | nil => exact h
  | cons x xs ih => exact ih (hf s x h)

theorem regsOut_next (h : RegsOnly R b t) : RegsOut R b (.next t) := ⟨t, rfl, h⟩

theorem regsOut_via {o : Host.Outcome State Fault Refusal} (h : RegsOnly R b s) (hQ : ∀ p ∈ Q, p ∈ R) (hf : ∀ b, RegsOnly Q b s → RegsOut Q b o) :
    RegsOut R b o := by
  obtain ⟨t, ho, ht⟩ := hf s regs_refl
  exact ⟨t, ho, regs_via h hQ fun _ h' => fun k hk => (ht k hk).trans (h' k hk)⟩

theorem regsOut_ite {c : Prop} [Decidable c] {o o' : Host.Outcome State Fault Refusal} (ho : RegsOut R b o) (ho' : RegsOut R b o') :
    RegsOut R b (if c then o else o') := by
  split
  · exact ho
  · exact ho'

/-- A lane's register has the offset of its name. -/
theorem laneKey_mem (l : Lane) {off : Nat} (h : off < 16777216 ∧ off ∈ R) : laneKey l off % 16777216 ∈ R := by
  have hoff : laneKey l off % 16777216 = off := by
    rw [laneKey, Nat.mul_add_mod_self_right, Nat.mod_eq_of_lt h.1]
  rw [hoff]
  exact h.2

theorem regs_setReg {k v} (h : RegsOnly R b s) (hk : k % 16777216 ∈ R := by first | decide | exact laneKey_mem _ (by decide)) : RegsOnly R b (setReg k v s) :=
  regsOnly_trans h (regsOnly_setReg k v s hk)

theorem regs_bumpBy {k n} (h : RegsOnly R b s) (hk : k % 16777216 ∈ R := by first | decide | exact laneKey_mem _ (by decide)) : RegsOnly R b (bumpBy k n s) := regs_setReg h hk

theorem regs_bump {k} (h : RegsOnly R b s) (hk : k % 16777216 ∈ R := by first | decide | exact laneKey_mem _ (by decide)) : RegsOnly R b (bump k s) := regs_setReg h hk

theorem regs_bumpLane {l off} (h : RegsOnly R b s) (hk : off < 16777216 ∧ off ∈ R := by decide) : RegsOnly R b (bumpLane l off s) :=
  regs_bump h (laneKey_mem l hk)

theorem regs_bumpAll {off} (h : RegsOnly R b s) (hk : off < 16777216 ∧ off ∈ R := by decide) : RegsOnly R b (bumpAll off s) :=
  regs_bumpLane (regs_bumpLane (regs_bumpLane h hk) hk) hk

end

section
variable {R : List Nat} {b s : State}
variable {now free : Nat} {shadows : List Shadow} {latches : List Latch} {loWrites : List LoWrite} {out : List Msg}
  {sys : Sys} {isl : Island} {nv : NonVol} {time : Time} {vot : Vot} {icus : Tri Icu} {mems : Tri LaneMem} {erec : Recorder} {odo : Odo} {sup : Sup}
  {pst : Piste} {dio : Dio} {ftn : Ftn} {cyc : Cyc} {chk : Chk} {brg : Brg} {dmas : List Dma} {ksp : Ksp} {upd : Upd} {secs : Tri Sec} {tlm : Tlm}

theorem regs_mk (h : RegsOnly R b s) :
    RegsOnly R b ⟨s.pending, now, free, s.regs, shadows, latches, loWrites, out, sys, isl, nv, time, vot, icus, mems, erec, odo, sup, pst, dio, ftn, cyc, chk, brg, dmas, ksp, upd, secs, tlm⟩ :=
  fun k hk => h k hk

end

section
variable {R : List Nat} {b s : State}

theorem regs_advanceTo {t} (h : RegsOnly R b s) : RegsOnly R b (advanceTo t s) :=
  regs_of_only h (only_advanceTo (P := [.now, .isl, .nv, .time]) only_refl)

theorem regs_send {m} (h : RegsOnly R b s) : RegsOnly R b (send m s) :=
  regs_of_only h (only_send (P := [.out]) only_refl)

theorem regs_assertAt {l id} (h : RegsOnly R b s) : RegsOnly R b (assertAt l id s) :=
  regs_of_only h (only_assertAt (P := [.icus]) only_refl)

theorem regs_raiseIrq {id} (h : RegsOnly R b s) : RegsOnly R b (raiseIrq id s) :=
  regs_of_only h (only_raiseIrq (P := [.icus]) only_refl)

theorem regs_requestRec {q} (h : RegsOnly R b s) (hR : ∀ o ∈ [Off.REC_LOST_CNT], o ∈ R := by decide) : RegsOnly R b (requestRec q s) :=
  regs_via h hR fun b h =>
    regs_ite (regs_ite (regs_mk h) (regs_ite (regs_bump (regs_mk h)) (regs_raiseIrq (regs_bump (regs_mk h))))) (regs_ite (regs_mk h) (regs_mk h))

theorem regs_record {type items} (h : RegsOnly R b s) (hR : ∀ o ∈ [Off.REC_LOST_CNT], o ∈ R := by decide) : RegsOnly R b (record type items s) := by
  refine regs_via h hR fun b h => ?_
  unfold record
  split <;> exact regs_requestRec h

theorem regs_passDone {a} (h : RegsOnly R b s) : RegsOnly R b (passDone a s) :=
  regs_of_only h (only_passDone (P := [.tlm]) only_refl)

theorem regs_groupCause {g b' v} (h : RegsOnly R b s) : RegsOnly R b (groupCause g b' v s) :=
  regs_of_only h (only_groupCause (P := [.dio]) only_refl)

theorem regs_resolveOuts (h : RegsOnly R b s) (hR : ∀ o ∈ [Off.DIO_DARK_SKIP_CNT, Off.DIO_DEMAG_HIGH_CNT], o ∈ R := by decide) : RegsOnly R b
    (resolveOuts s) :=
  regs_via h hR fun b h =>
    regs_when regs_raiseIrq (regs_bumpBy (regs_bumpBy (regs_mk h)))

theorem regs_commitPage (h : RegsOnly R b s) (hR : ∀ o ∈ [Off.REC_PAGES], o ∈ R := by decide) : RegsOnly R b (commitPage s) :=
  regs_via h hR fun b h =>
    regs_ite h (regs_ite (regs_mk h) (regs_when regs_raiseIrq (regs_bump (regs_mk h))))

theorem regs_retireBlocks {n} (h : RegsOnly R b s) (hR : ∀ o ∈ [Off.REC_BAD_BLOCKS], o ∈ R := by decide) : RegsOnly R b (retireBlocks n s) :=
  regs_via h hR fun b h =>
    regs_ite h (regs_raiseIrq (regs_bumpBy (regs_mk h)))

theorem regs_setCulvert {l f} (h : RegsOnly R b s) : RegsOnly R b (setCulvert l f s) :=
  regs_of_only h (only_setCulvert (P := [.brg]) only_refl)

theorem regs_linkSend {l type code tag addr len payload} (h : RegsOnly R b s) : RegsOnly R b (linkSend l type code tag addr len payload s) :=
  regs_of_only h (only_linkSend (P := [.out, .brg]) only_refl)

theorem regs_linkTake {l p} (h : RegsOnly R b s) : RegsOnly R b (linkTake l p s) :=
  regs_of_only h (only_linkTake (P := [.out, .brg]) only_refl)

theorem regs_readReturns {stream err data} (h : RegsOnly R b s) : RegsOnly R b (readReturns stream err data s) :=
  regs_of_only h (only_readReturns (P := [.vot, .brg]) only_refl)

theorem regs_nextTag {l} (h : RegsOnly R b s) : RegsOnly R b (nextTag l s) :=
  regs_of_only h (only_nextTag (P := [.brg]) only_refl)

theorem regs_countFailed {stream} (h : RegsOnly R b s) : RegsOnly R b (countFailed stream s) :=
  regs_of_only h (only_countFailed (P := [.brg]) only_refl)

theorem regs_dmaStop {c err} (h : RegsOnly R b s) (hR : ∀ o ∈ [Off.DMA_ERRORS], o ∈ R := by decide) : RegsOnly R b (dmaStop c err s) :=
  regs_via h hR fun b h =>
    regs_ite (regs_raiseIrq (regs_bump (regs_mk h))) h

theorem regs_failWrite {l w code} (h : RegsOnly R b s) (hR : ∀ o ∈ [Off.BRG_FAIL_LOST, Off.BRG_WRITE_FAILS, Off.DMA_ERRORS, Off.REC_LOST_CNT], o ∈ R
    := by decide) : RegsOnly R b (failWrite l w code s) := by
  refine regs_via h hR fun b h => ?_
  have hdma : ∀ (d : Option Nat) t, RegsOnly [Off.BRG_FAIL_LOST, Off.BRG_WRITE_FAILS, Off.DMA_ERRORS, Off.REC_LOST_CNT] b t → RegsOnly
      [Off.BRG_FAIL_LOST, Off.BRG_WRITE_FAILS, Off.DMA_ERRORS, Off.REC_LOST_CNT] b ((match d with | some c => dmaStop c 3 | none => id) t) := by
    intro d t ht
    cases d with
    | none => exact ht
    | some c => exact regs_dmaStop ht
  unfold failWrite
  exact hdma w.dma _ (regs_when regs_readReturns (regs_when regs_countFailed (regs_record (regs_raiseIrq (regs_bump
    (regs_ite (regs_raiseIrq (regs_bump (regs_mk h))) (regs_mk h)))))))

theorem regs_failLocally {l w code} (h : RegsOnly R b s) (hR : ∀ o ∈ [Off.BRG_FAIL_LOST, Off.BRG_WRITE_FAILS, Off.DMA_ERRORS, Off.REC_LOST_CNT], o ∈ R
    := by decide) : RegsOnly R b (failLocally l w code s) :=
  regs_via h hR fun b h =>
    regs_failWrite (regs_setCulvert h)

theorem regs_failRead {r} (h : RegsOnly R b s) (hR : ∀ o ∈ [Off.DMA_ERRORS], o ∈ R := by decide) : RegsOnly R b (failRead r s) := by
  refine regs_via h hR fun b h => ?_
  unfold failRead
  split
  · exact regs_dmaStop h
  · exact regs_readReturns h

theorem regs_failAll {l} (h : RegsOnly R b s) (hR : ∀ o ∈ [Off.BRG_FAIL_LOST, Off.BRG_WRITE_FAILS, Off.DMA_ERRORS, Off.REC_LOST_CNT], o ∈ R := by
    decide) : RegsOnly R b (failAll l s) :=
  regs_via h hR fun b h =>
    regs_foldl (fun _ _ h => regs_failRead h) (regs_foldl (fun _ _ h => regs_failLocally h) (regs_setCulvert h))

theorem regs_linkState {l v} (h : RegsOnly R b s) (hR : ∀ o ∈ [Off.BRG_FAIL_LOST, Off.BRG_LINK_DOWNS, Off.BRG_WRITE_FAILS, Off.DMA_ERRORS,
    Off.REC_LOST_CNT], o ∈ R := by decide) : RegsOnly R b (linkState l v s) :=
  regs_via h hR fun b h =>
    regs_ite h (regs_when regs_failAll (regs_when regs_bump (regs_raiseIrq (regs_setCulvert h))))

theorem regs_sendRetry {l p} (h : RegsOnly R b s) (hR : ∀ o ∈ [Off.BRG_RETRIES_SENT], o ∈ R := by decide) : RegsOnly R b (sendRetry l p s) :=
  regs_via h hR fun b h =>
    regs_linkSend (regs_bump h)

theorem regs_setClass {c} (h : RegsOnly R b s) : RegsOnly R b (setClass c s) :=
  regs_of_only h (only_setClass (P := [.icus, .odo, .pst]) only_refl)

theorem regs_gradeOwn (h : RegsOnly R b s) : RegsOnly R b (gradeOwn s) :=
  regs_of_only h (only_gradeOwn (P := [.icus, .odo, .pst]) only_refl)

theorem regs_setPort {p f} (h : RegsOnly R b s) : RegsOnly R b (setPort p f s) :=
  regs_of_only h (only_setPort (P := [.ftn]) only_refl)

theorem regs_chkUpdate (h : RegsOnly R b s) : RegsOnly R b (chkUpdate s) :=
  regs_of_only h (only_chkUpdate (P := [.icus, .chk]) only_refl)

theorem regs_tripLatch {r} (h : RegsOnly R b s) (hR : ∀ o ∈ [Off.DIO_TRIP_CNT, Off.REC_LOST_CNT], o ∈ R := by decide) : RegsOnly R b (tripLatch r s)
    :=
  regs_via h hR fun b h =>
    regs_record (regs_raiseIrq (regs_bump (regs_when regs_groupCause (regs_when regs_groupCause (regs_mk h)))))

theorem regs_tripEval (h : RegsOnly R b s) (hR : ∀ o ∈ [Off.DIO_DARK_SKIP_CNT, Off.DIO_DEMAG_HIGH_CNT, Off.DIO_TRIP_CNT, Off.REC_LOST_CNT], o ∈ R :=
    by decide) : RegsOnly R b (tripEval s) :=
  regs_via h hR fun b h =>
    regs_ite h (regs_resolveOuts (regs_foldl (fun _ _ h => regs_tripLatch h) (regs_mk h)))

theorem regs_reqStatus {state cause req} (h : RegsOnly R b s) (hR : ∀ o ∈ [Off.SYS_MODE_REQ_STATUS], o ∈ R := by decide) : RegsOnly R b (reqStatus
    state cause req s) :=
  regs_via h hR fun b h =>
    regs_ite (regs_setReg h) (regs_raiseIrq (regs_setReg h))

theorem regs_setMem {l f} (h : RegsOnly R b s) : RegsOnly R b (setMem l f s) :=
  regs_of_only h (only_setMem (P := [.mems]) only_refl)

theorem regs_logError {l dram addr info} (h : RegsOnly R b s) (hR : ∀ o ∈ [Off.SPM_DRAM_ERR_HI, Off.SPM_DRAM_ERR_INFO, Off.SPM_DRAM_ERR_LO,
    Off.SPM_SPM_ERR_ADDR, Off.SPM_SPM_ERR_INFO], o ∈ R := by decide) : RegsOnly R b (logError l dram addr info s) :=
  regs_via h hR fun b h =>
    regs_ite (regs_setReg (regs_setReg (regs_setReg h))) (regs_setReg (regs_setReg h))

theorem regs_countCorrection {l} (h : RegsOnly R b s) (hR : ∀ o ∈ [Off.REC_LOST_CNT], o ∈ R := by decide) : RegsOnly R b (countCorrection l s) :=
  regs_via h hR fun b h => regs_when regs_record (regs_when regs_assertAt (regs_setMem h))

theorem regs_norRead {slot} (h : RegsOnly R b s) : RegsOnly R b (norRead slot s) :=
  regs_of_only h (only_norRead (P := [.tlm]) only_refl)

theorem regs_diSample {n v} (h : RegsOnly R b s) : RegsOnly R b (diSample n v s) :=
  regs_of_only h (only_diSample (P := [.icus, .dio]) only_refl)

theorem regs_tellStandby (h : RegsOnly R b s) (hR : ∀ o ∈ [Off.REC_LOST_CNT], o ∈ R := by decide) : RegsOnly R b (tellStandby s) :=
  regs_via h hR fun b h => regs_ite h (regs_mk (regs_foldl (fun _ _ h => regs_record h) h))

end

end Sys2Proof.Machine

namespace Sys2Proof.Machine

set_option Elab.async false

/-! ### What keeps a raised interrupt -/

section
variable {m : Nat} {s t : State}

/-- An operation on other parts than the interrupt controllers and the vote clears no interrupt. -/
theorem raised_of_only {P : List Part} (h : Raised m s) (ht : OnlyIn P s t) (hicus : Part.icus ∉ P := by decide) (hvot : Part.vot ∉ P := by decide) :
    Raised m t :=
  raised_congr m s t (ht.2 .icus hicus) (ht.2 .vot hvot) h

theorem raised_ite {c : Prop} [Decidable c] (hs : Raised m s) (ht : Raised m t) : Raised m (if c then s else t) := by
  split
  · exact hs
  · exact ht

theorem raised_when {c : Bool} {f : State → State} (hf : Raised m s → Raised m (f s)) (h : Raised m s) : Raised m (when c f s) :=
  raised_ite (hf h) h

theorem raised_foldl {α : Type} {f : State → α → State} {l : List α} (hf : ∀ t x, Raised m t → Raised m (f t x)) (h : Raised m s) :
    Raised m (l.foldl f s) := by
  induction l generalizing s with
  | nil => exact h
  | cons x xs ih => exact ih (hf s x h)

theorem raised_assertAt {l id} (h : Raised m s) : Raised m (assertAt l id s) := by
  intro k hk
  by_cases e : k = l
  · subst e
    rw [assertAt, get_modify_self]
    exact mem_pend_assert_of_mem _ _ _ _ (h k hk)
  · rw [assertAt, get_modify_ne _ _ _ _ e]
    exact h k hk

end

section
variable {m : Nat} {s : State}
variable {now free : Nat} {regs : List (Nat × Word)} {shadows : List Shadow} {latches : List Latch} {loWrites : List LoWrite} {out : List Msg}
  {sys : Sys} {isl : Island} {nv : NonVol} {time : Time} {mems : Tri LaneMem} {erec : Recorder} {odo : Odo} {sup : Sup}
  {pst : Piste} {dio : Dio} {ftn : Ftn} {cyc : Cyc} {chk : Chk} {brg : Brg} {dmas : List Dma} {ksp : Ksp} {upd : Upd} {secs : Tri Sec} {tlm : Tlm}

theorem raised_mk (h : Raised m s) :
    Raised m ⟨s.pending, now, free, regs, shadows, latches, loWrites, out, sys, isl, nv, time, s.vot, s.icus, mems, erec, odo, sup, pst, dio, ftn, cyc, chk, brg, dmas, ksp, upd, secs, tlm⟩ := h

end

/-- The lanes in vote keep their interrupts while others are reset. -/
theorem raised_of_lanes {m : Nat} {s t : State} (h : Raised m s) (hin : ∀ l, t.inVote l = true → s.inVote l = true ∧ t.icus.get l = s.icus.get l) :
    Raised m t := by
  intro l hl
  obtain ⟨hs, hicu⟩ := hin l hl
  rw [hicu]
  exact h l hs

section
variable {m : Nat} {s : State}

theorem raised_bumpBy {key n} (h : Raised m s) : Raised m (bumpBy key n s) :=
  raised_of_only h (only_bumpBy (P := [.regs]) only_refl)

theorem raised_bump {key} (h : Raised m s) : Raised m (bump key s) :=
  raised_of_only h (only_bump (P := [.regs]) only_refl)

/-- A note in a lane's record that leaves its phase. -/
theorem raised_setLane {l : Lane} {f : LaneVote → LaneVote} (h : Raised m s) (hf : ∀ v, (f v).phase = v.phase := by exact fun _ => rfl) :
    Raised m (s.setLane l f) := by
  refine raised_of_lanes h fun k hk => ⟨?_, rfl⟩
  rw [State.inVote, State.setLane] at hk
  by_cases e : k = l
  · subst e
    dsimp only at hk
    rw [get_modify_self, LaneVote.inVote, hf] at hk
    exact hk
  · dsimp only at hk
    rw [get_modify_ne _ _ _ _ e] at hk
    exact hk

theorem raised_raiseIrq_too {id} (h : Raised m s) : Raised m (raiseIrq id s) := raised_raiseIrq_of id m s h

theorem raised_record {type items} (h : Raised m s) : Raised m (record type items s) := raised_record_of type items m s h

theorem raised_answer {l core v err} (h : Raised m s)  : Raised m (answer l core v err s) :=
  
    raised_setLane h

theorem raised_passDone {a} (h : Raised m s) : Raised m (passDone a s) :=
  raised_of_only h (only_passDone (P := [.tlm]) only_refl)

theorem raised_resolveOuts (h : Raised m s)  : Raised m (resolveOuts s) :=
  
    raised_when raised_raiseIrq_too (raised_bumpBy (raised_bumpBy (raised_mk h)))

theorem raised_latchHold (h : Raised m s) : Raised m (latchHold s) :=
  raised_of_only h (only_latchHold (P := [.dio]) only_refl)

theorem raised_modeChanged {old} (h : Raised m s)  : Raised m (modeChanged old s) :=
  
    raised_ite h (raised_raiseIrq_too (raised_record (raised_bump (raised_mk h))))

theorem raised_abandonCycle (h : Raised m s) : Raised m (abandonCycle s) := by
  refine raised_of_lanes h fun k hk => ⟨?_, rfl⟩
  rw [State.inVote, abandonCycle, Vot.cycleCleared] at hk
  dsimp only at hk
  rw [get_map] at hk
  exact hk

theorem raised_modeCauses (h : Raised m s) : Raised m (modeCauses s) :=
  raised_of_only h (only_modeCauses (P := [.dio]) only_refl)

theorem raised_pisteHold (h : Raised m s) : Raised m (pisteHold s) :=
  raised_of_only h (only_pisteHold (P := [.out, .pst]) only_refl)

theorem raised_resetLane {p : Phase} {l : Lane} (hp : (p == .inVote || p == .probation) = false) (h : Raised m s) :
    Raised m (resetLane p l s) := by
  refine raised_of_lanes h fun k hk => ?_
  by_cases e : k = l
  · subst e
    rw [State.inVote, resetLane] at hk
    dsimp only at hk
    rw [get_modify_self, LaneVote.inVote] at hk
    exact absurd (hp.symm.trans hk) (by decide)
  · rw [State.inVote, resetLane] at hk
    dsimp only at hk
    rw [get_modify_ne _ _ _ _ e] at hk
    exact ⟨hk, get_set_ne _ _ _ _ e⟩

theorem raised_abandonRejoins (h : Raised m s) : Raised m (abandonRejoins s) := by
  refine raised_foldl (fun t l ht => ?_) h
  split
  · exact raised_setLane (raised_resetLane (by decide) ht)
  · exact raised_setLane (raised_resetLane (by decide) ht)
  · exact raised_setLane (raised_resetLane (by decide) ht)
  · exact raised_setLane (raised_resetLane (by decide) ht)
  · exact raised_setLane ht
  · exact ht

theorem raised_setMode {m : Nat} {v : Mode} {s : State} (h : Raised m s) : Raised m (setMode v s) := by
  unfold setMode
  exact raised_resolveOuts (raised_modeChanged (raised_modeCauses (raised_ite
    (raised_ite (raised_mk (raised_mk (raised_ite (raised_latchHold (raised_pisteHold (raised_abandonCycle (raised_when raised_abandonRejoins h))))
      (raised_when raised_abandonRejoins h)))) (raised_mk (raised_ite
      (raised_latchHold (raised_pisteHold (raised_abandonCycle (raised_when raised_abandonRejoins h)))) (raised_when raised_abandonRejoins h))))
    (raised_mk (raised_ite (raised_mk (raised_mk (raised_ite (raised_latchHold (raised_pisteHold (raised_abandonCycle (raised_when
        raised_abandonRejoins h))))
      (raised_when raised_abandonRejoins h)))) (raised_mk (raised_ite
      (raised_latchHold (raised_pisteHold (raised_abandonCycle (raised_when raised_abandonRejoins h)))) (raised_when raised_abandonRejoins h))))))))

theorem raised_addReason {m : Nat} {r : Reason} {s : State} (h : Raised m s) : Raised m (addReason r s) :=
  raised_ite (raised_modeChanged (raised_mk h)) (raised_setMode (raised_mk h))

theorem raised_commitPage (h : Raised m s)  : Raised m (commitPage s) :=
  
    raised_ite h (raised_ite (raised_mk h) (raised_when raised_raiseIrq_too (raised_bump (raised_mk h))))

theorem raised_retireBlocks {n} (h : Raised m s)  : Raised m (retireBlocks n s) :=
  
    raised_ite h (raised_raiseIrq_too (raised_bumpBy (raised_mk h)))

theorem raised_setCulvert {l f} (h : Raised m s) : Raised m (setCulvert l f s) :=
  raised_of_only h (only_setCulvert (P := [.brg]) only_refl)

theorem raised_answerStream {stream err data} (h : Raised m s) : Raised m (answerStream stream err data s) :=
  raised_of_only h (only_answerStream (P := [.brg]) only_refl)

theorem raised_readReturns {stream err data} (h : Raised m s)  : Raised m (readReturns stream err data s) :=
  
    raised_answerStream (raised_foldl (fun _ _ h => raised_answer h) (raised_mk h))

theorem raised_countFailed {stream} (h : Raised m s) : Raised m (countFailed stream s) :=
  raised_of_only h (only_countFailed (P := [.brg]) only_refl)

theorem raised_dmaStop {c err} (h : Raised m s)  : Raised m (dmaStop c err s) :=
  
    raised_ite (raised_raiseIrq_too (raised_bump (raised_mk h))) h

theorem raised_failWrite {l w code} (h : Raised m s)  : Raised m (failWrite l w code s) := by
  have hdma : ∀ (d : Option Nat) t, Raised m t → Raised m ((match d with | some c => dmaStop c 3 | none => id) t) := by
    intro d t ht
    cases d with
    | none => exact ht
    | some c => exact raised_dmaStop ht
  unfold failWrite
  exact hdma w.dma _ (raised_when raised_readReturns (raised_when raised_countFailed (raised_record (raised_raiseIrq_too (raised_bump
    (raised_ite (raised_raiseIrq_too (raised_bump (raised_mk h))) (raised_mk h)))))))

theorem raised_failLocally {l w code} (h : Raised m s)  : Raised m (failLocally l w code s) :=
  
    raised_failWrite (raised_setCulvert h)

theorem raised_failRead {r} (h : Raised m s)  : Raised m (failRead r s) := by
  unfold failRead
  split
  · exact raised_dmaStop h
  · exact raised_readReturns h

theorem raised_failAll {l} (h : Raised m s)  : Raised m (failAll l s) :=
  
    raised_foldl (fun _ _ h => raised_failRead h) (raised_foldl (fun _ _ h => raised_failLocally h) (raised_setCulvert h))

theorem raised_tellStandby (h : Raised m s)  : Raised m (tellStandby s) :=
   raised_ite h (raised_mk (raised_foldl (fun _ _ h => raised_record h) h))

end

end Sys2Proof.Machine

namespace Sys2Proof.Machine

set_option Elab.async false

/-! ### Register files that stay in form -/

section
variable {s t : State}

theorem wf_of_only {P : List Part} (h : RegsWf s) (ht : OnlyIn P s t) (hP : Part.regs ∉ P := by decide) : RegsWf t := by
  have hregs : t.regs = s.regs := ht.2 .regs hP
  rw [RegsWf, hregs]
  exact h

theorem wf_ite {c : Prop} [Decidable c] (hs : RegsWf s) (ht : RegsWf t) : RegsWf (if c then s else t) := by
  split
  · exact hs
  · exact ht

theorem wf_ite_snd {α : Type} {c : Prop} [Decidable c] {p q : α × State} (hp : RegsWf p.2) (hq : RegsWf q.2) : RegsWf (if c then p else q).2 := by
  split
  · exact hp
  · exact hq

theorem wf_when {c : Bool} {f : State → State} (hf : RegsWf s → RegsWf (f s)) (h : RegsWf s) : RegsWf (when c f s) := wf_ite (hf h) h

theorem wf_foldl {α : Type} {f : State → α → State} {l : List α} (hf : ∀ t x, RegsWf t → RegsWf (f t x)) (h : RegsWf s) : RegsWf (l.foldl f s) := by
  induction l generalizing s with
  | nil => exact h
  | cons x xs ih => exact ih (hf _ x h)

theorem wf_setReg {k v} (h : RegsWf s) : RegsWf (setReg k v s) := regsWf_setReg k v s h

theorem wf_bumpBy {k n} (h : RegsWf s) : RegsWf (bumpBy k n s) := wf_setReg h

theorem wf_bump {k} (h : RegsWf s) : RegsWf (bump k s) := wf_setReg h

theorem wf_bumpLane {l off} (h : RegsWf s) : RegsWf (bumpLane l off s) := wf_bump h

theorem wf_bumpAll {off} (h : RegsWf s) : RegsWf (bumpAll off s) := wf_bumpLane (wf_bumpLane (wf_bumpLane h))

end

section
variable {s : State} {now free : Nat} {shadows : List Shadow} {latches : List Latch} {loWrites : List LoWrite} {out : List Msg}
  {sys : Sys} {isl : Island} {nv : NonVol} {time : Time} {vot : Vot} {icus : Tri Icu} {mems : Tri LaneMem} {erec : Recorder} {odo : Odo} {sup : Sup}
  {pst : Piste} {dio : Dio} {ftn : Ftn} {cyc : Cyc} {chk : Chk} {brg : Brg} {dmas : List Dma} {ksp : Ksp} {upd : Upd} {secs : Tri Sec} {tlm : Tlm}

theorem wf_mk (h : RegsWf s) :
    RegsWf ⟨s.pending, now, free, s.regs, shadows, latches, loWrites, out, sys, isl, nv, time, vot, icus, mems, erec, odo, sup, pst, dio, ftn, cyc, chk, brg, dmas, ksp, upd, secs, tlm⟩ := h

end

section
variable {s : State}

theorem wf_advanceTo {t} (h : RegsWf s) : RegsWf (advanceTo t s) :=
  wf_of_only h (only_advanceTo (P := [.now, .isl, .nv, .time]) only_refl)

theorem wf_assertAt {l id} (h : RegsWf s) : RegsWf (assertAt l id s) :=
  wf_of_only h (only_assertAt (P := [.icus]) only_refl)

theorem wf_raiseIrq {id} (h : RegsWf s) : RegsWf (raiseIrq id s) :=
  wf_of_only h (only_raiseIrq (P := [.icus]) only_refl)

theorem wf_requestRec {q} (h : RegsWf s) : RegsWf (requestRec q s) :=
  wf_ite (wf_ite (wf_mk h) (wf_ite (wf_bump (wf_mk h)) (wf_raiseIrq (wf_bump (wf_mk h))))) (wf_ite (wf_mk h) (wf_mk h))

theorem wf_record {type items} (h : RegsWf s) : RegsWf (record type items s) := by
  unfold record
  split <;> exact wf_requestRec h

theorem wf_commitPage (h : RegsWf s) : RegsWf (commitPage s) :=
  wf_ite h (wf_ite (wf_mk h) (wf_when wf_raiseIrq (wf_bump (wf_mk h))))

theorem wf_retireBlocks {n} (h : RegsWf s) : RegsWf (retireBlocks n s) :=
  wf_ite h (wf_raiseIrq (wf_bumpBy (wf_mk h)))

theorem wf_setCulvert {l f} (h : RegsWf s) : RegsWf (setCulvert l f s) :=
  wf_of_only h (only_setCulvert (P := [.brg]) only_refl)

theorem wf_linkTake {l p} (h : RegsWf s) : RegsWf (linkTake l p s) :=
  wf_of_only h (only_linkTake (P := [.out, .brg]) only_refl)

theorem wf_readReturns {stream err data} (h : RegsWf s) : RegsWf (readReturns stream err data s) :=
  wf_of_only h (only_readReturns (P := [.vot, .brg]) only_refl)

theorem wf_nextTag {l} (h : RegsWf s) : RegsWf (nextTag l s) :=
  wf_of_only h (only_nextTag (P := [.brg]) only_refl)

theorem wf_countFailed {stream} (h : RegsWf s) : RegsWf (countFailed stream s) :=
  wf_of_only h (only_countFailed (P := [.brg]) only_refl)

theorem wf_dmaStop {c err} (h : RegsWf s) : RegsWf (dmaStop c err s) :=
  wf_ite (wf_raiseIrq (wf_bump (wf_mk h))) h

theorem wf_failWrite {l w code} (h : RegsWf s) : RegsWf (failWrite l w code s) := by
  have hdma : ∀ (d : Option Nat) t, RegsWf t → RegsWf ((match d with | some c => dmaStop c 3 | none => id) t) := by
    intro d t ht
    cases d with
    | none => exact ht
    | some c => exact wf_dmaStop ht
  unfold failWrite
  exact hdma w.dma _ (wf_when wf_readReturns (wf_when wf_countFailed (wf_record (wf_raiseIrq (wf_bump
    (wf_ite (wf_raiseIrq (wf_bump (wf_mk h))) (wf_mk h)))))))

theorem wf_failLocally {l w code} (h : RegsWf s) : RegsWf (failLocally l w code s) :=
  wf_failWrite (wf_setCulvert h)

theorem wf_setMem {l f} (h : RegsWf s) : RegsWf (setMem l f s) :=
  wf_of_only h (only_setMem (P := [.mems]) only_refl)

theorem wf_logError {l dram addr info} (h : RegsWf s) : RegsWf (logError l dram addr info s) :=
  wf_ite (wf_setReg (wf_setReg (wf_setReg h))) (wf_setReg (wf_setReg h))

theorem wf_countCorrection {l} (h : RegsWf s) : RegsWf (countCorrection l s) :=
  wf_when wf_record (wf_when wf_assertAt (wf_setMem h))

end

end Sys2Proof.Machine

namespace Sys2Proof.Machine

set_option Elab.async false

/-- Without a write that waits for its register path the server has nothing to answer. -/
theorem kspService_of_none_waits (s : State) (h : ∀ x ∈ s.ksp.sessions, x.waiting = none) : kspService s = s := by
  unfold kspService
  have hfold : ∀ (l : List Session), (∀ x ∈ l, x.waiting = none) →
      l.foldl (fun s x =>
        match x.waiting with
        | some w =>
          (match s.pathEnd w.1.index.toNat w.1.sub.toNat with
            | .done st pl => conclude x.path w.1 st false 0 pl s
            | .waits => s)
        | none => s) s = s := by
    intro l hl
    induction l with
    | nil => rfl
    | cons x xs ih =>
      obtain ⟨hx, hxs⟩ := List.forall_mem_cons.mp hl
      rw [List.foldl_cons, hx]
      exact ih hxs
  exact hfold _ h

/-- Settles O3: time passes, and the server of the service protocol looks at the writes that wait. -/
theorem idleStep : Obligations.IdleStep := by
  intro s hpending
  have hstep : step s = .next (idle s) := by
    unfold step
    rw [hpending]
  -- the state of which the server's answers are a change
  let s1 : State := advance 4 { s with out := [], brg := { s.brg with link0 := { s.brg.link0 with inbound := 0 }, link1 := { s.brg.link1 with inbound := 0 } } }
  have hs1 : OnlyIn [.now, .out, .isl, .nv, .time, .brg] s s1 := only_advance (only_mk only_refl)
  have hserved : OnlyIn [.regs, .out, .icus, .ftn, .ksp] s1 (idle s) := only_when only_kspService only_refl
  have hnow : (idle s).now = s1.now := hserved.2 .now (by decide)
  have hbrg : (idle s).brg = s1.brg := hserved.2 .brg (by decide)
  refine ⟨idle s, hstep, ?_, hnow, by rw [hbrg]; rfl, by rw [hbrg]; rfl, only_idle only_refl, fun hwaits => ?_⟩
  · exact hserved.1.trans (hs1.1.trans hpending)
  · have hsame : idle s = s1 := by
      unfold idle
      dsimp only [when]
      split
      · exact kspService_of_none_waits _ hwaits
      · rfl
    rw [hsame]
    exact ⟨rfl, hs1⟩

end Sys2Proof.Machine

namespace Sys2Proof.Machine

set_option Elab.async false

/-! ### Effects seen from another state -/

/-- REC runs as it did while the mode, the supervisor and REC are as they were. -/
theorem recUp_of_only {P : List Part} {s t : State} (h : OnlyIn P s t) (hP : ∀ p ∈ [Part.sys, .isl, .erec], p ∉ P := by decide) : t.recUp = s.recUp := by
  have hsys : t.sys = s.sys := h.2 .sys (hP _ (by decide))
  have hisl : t.isl = s.isl := h.2 .isl (hP _ (by decide))
  have herec : t.erec = s.erec := h.2 .erec (hP _ (by decide))
  unfold State.recUp State.up State.hubOn
  rw [hsys, hisl, herec]

/-- A record requested after a change of other parts was requested before it. -/
theorem recorded_before {P : List Part} {type : Nat} {items : List Item} {s s' t : State} (h : Recorded type items s' t) (hs : OnlyIn P s s')
    (hP : ∀ p ∈ [Part.sys, .isl, .erec, .time, .nv], p ∉ P := by decide) : Recorded type items s t := by
  have hisl : s'.isl = s.isl := hs.2 .isl (hP _ (by decide))
  refine recorded_congr type items s s' t t h (recUp_of_only hs fun p hp => hP p ?_) (hs.2 .erec (hP _ (by decide))) (by rw [hisl])
    (hs.2 .time (hP _ (by decide))) (hs.2 .nv (hP _ (by decide))) rfl rfl
  revert p
  decide

/-- A record stays while REC and the supervisor's store are left alone. -/
theorem recorded_after {P : List Part} {type : Nat} {items : List Item} {s t u : State} (h : Recorded type items s t) (ht : OnlyIn P t u)
    (hP : ∀ p ∈ [Part.isl, .erec], p ∉ P := by decide) : Recorded type items s u := by
  have hisl : u.isl = t.isl := ht.2 .isl (hP _ (by decide))
  exact recorded_congr type items s s u t h rfl rfl rfl rfl rfl (ht.2 .erec (hP _ (by decide))) (by rw [hisl])

/-- A record after operations on other parts. -/
theorem recorded_record_of {P : List Part} {type : Nat} {items : List Item} {s s' : State} (hs : OnlyIn P s s')
    (hP : ∀ p ∈ [Part.sys, .isl, .erec, .time, .nv], p ∉ P := by decide) : Recorded type items s (record type items s') :=
  recorded_before (recorded_record type items s') hs hP

@[simp] theorem when_true (f : State → State) (s : State) : when true f s = f s := rfl

@[simp] theorem when_false (f : State → State) (s : State) : when false f s = s := rfl

/-! ### Counters and unmasked registers -/

theorem regsWf_of_only {P : List Part} {s t : State} (h : RegsWf s) (ht : OnlyIn P s t) (hP : Part.regs ∉ P := by decide) : RegsWf t := by
  have hregs : t.regs = s.regs := ht.2 .regs hP
  rw [RegsWf, hregs]
  exact h

theorem reg_of_only {P : List Part} {s t : State} (k : Nat) (ht : OnlyIn P s t) (hP : Part.regs ∉ P := by decide) : t.reg k = s.reg k :=
  reg_congr s t k (ht.2 .regs hP)

end Sys2Proof.Machine

namespace Sys2Proof.Machine

set_option Elab.async false

/-! ### Fail-silent (R33, R42) -/

theorem fellSilent_failSilent (s : State) (h : s.sys.failSilent = false) : FellSilent s (failSilent s) := by
  have hsys : (commitPage (acceptAll s)).sys = s.sys := (only_commitPage (P := [.regs, .nv, .icus, .erec]) (only_acceptAll only_refl)).2 .sys (by decide)
  have hmode : (commitPage (acceptAll s)).sys.mode = s.sys.mode := congrArg Sys.mode hsys
  unfold failSilent
  rw [if_neg (by rw [h]; decide)]
  exact ⟨rfl, rfl, rfl, rfl, rfl, rfl, hmode⟩

theorem fellSilent_of_same {s s' t : State} (h : FellSilent s' t) (hmode : s'.sys.mode = s.sys.mode) : FellSilent s t := by
  obtain ⟨h1, h2, h3, h4, h5, h6, h7⟩ := h
  exact ⟨h1, h2, h3, h4, h5, h6, h7.trans hmode⟩

/-- A record on the way to fail-silent changes none of what fail-silent shows. -/
theorem fellSilent_record (type : Nat) (items : List Item) (s : State) (h : s.sys.failSilent = false) :
    FellSilent s (failSilent (record type items s)) := by
  have hsys : (record type items s).sys = s.sys := record_sys type items s
  exact fellSilent_of_same (fellSilent_failSilent _ (by rw [hsys]; exact h)) (congrArg Sys.mode hsys)

theorem failSilent_of_up {s : State} (h : s.up = true) : s.sys.failSilent = false := by
  simpa using (Bool.and_eq_true_iff.mp h).2

/-- Below three lanes in vote an exclusion silences the module. -/
theorem excludeLane_of_few (l : Lane) (c : Cause) (s : State) (hin : s.inVote l = true) (hfew : s.lanesIn.length < 3) :
    excludeLane l c s = failSilent (record 0x0201 [iU8 1 l.idx, iU8 2 c.code] s) := by
  unfold excludeLane
  rw [hin]
  exact if_pos hfew

/-! ### The vote once a lane has left it -/

theorem not_up_failSilent {t : State} (s : State) (h : FellSilent s t) : t.up = false := by
  obtain ⟨hsilent, _⟩ := h
  simp [State.up, hsilent]

theorem settled_of_silent {s0 s t : State} (h : FellSilent s t) : settled s0 t = t := by
  have hup := not_up_failSilent s h
  unfold settled settleVotes
  rw [hup]
  exact ite_self _

/-- Without a lane that has delivered, a round of the vote does not begin. -/
theorem delivered_eq_nil {s : State} {p : LaneVote → Bool} (h : ∀ l : Lane, p (s.vot.lanes.get l) = false) : s.delivered p = [] :=
  List.filter_eq_nil_iff.mpr fun l _ => by rw [h l]; decide

/-- With nothing outstanding, a lane that leaves decides nothing. -/
theorem settleVotes_of_quiet (t : State) (h : t.quiet = true) : settleVotes t = t := by
  have hlanes : ∀ p : LaneVote → Bool, Lane.all.all (fun l => p (t.vot.lanes.get l)) = true → ∀ l : Lane, p (t.vot.lanes.get l) = true :=
    fun p hp l => List.all_eq_true.mp hp l (by cases l <;> decide)
  have hround : ∀ (voted : Bool) (p : LaneVote → Bool), (voted || Lane.all.all fun l => !p (t.vot.lanes.get l)) = true →
      ((!voted) && (t.up && !(t.delivered p).isEmpty)) = false := by
    intro voted p hp
    cases voted with
    | true => rfl
    | false =>
      have hnone := hlanes (fun v => !p v) (by simpa using hp)
      rw [delivered_eq_nil fun l => by simpa using hnone l]
      simp
  unfold State.quiet at h
  simp only [Bool.and_eq_true] at h
  obtain ⟨⟨⟨⟨hopen, hvotes⟩, himage⟩, hdigest⟩, hend⟩ := h
  have hresolve : resolveAll { t with vot := { t.vot with open_ := [] } } = t := by
    have ht : ({ t with vot := { t.vot with open_ := [] } } : State) = t := by
      rw [← List.isEmpty_iff.mp hopen]
    rw [ht]
    unfold resolveAll
    rw [List.isEmpty_iff.mp hopen]
    rfl
  have hopen' := List.isEmpty_iff.mp hopen
  unfold settleVotes
  split
  · rfl
  · simp only [hopen', List.filterMap_nil, hresolve]
    have h1 := hround _ (fun v => v.handed.isSome) (by simpa using himage)
    have h2 := hround _ (fun v => v.digest.isSome) (by simpa using hdigest)
    have h3 := hround _ (fun v => v.ended.isSome) (by simpa using hend)
    simp only [Option.not_isSome] at h1 h2 h3
    simp [when, h1, h2, h3, hvotes]

/-! ### A change of mode (R39) -/

/-- A change of mode is told and dated; the mode block is otherwise as it was. -/
theorem modeChanged_sys (old : Nat × Nat) (s : State) : (modeChanged old s).sys = { s.sys with changedAt := (modeChanged old s).sys.changedAt } := by
  unfold modeChanged
  split
  · rfl
  · simp only [raiseIrq_sys, record_sys, bump_sys]

/-- What follows the new mode changes the time of the change alone in the mode block. -/
theorem modeEnd_sys (old : Nat × Nat) (s : State) : (s |> modeCauses |> modeChanged old |> resolveOuts).sys = { s.sys with changedAt := (modeChanged old (modeCauses s)).sys.changedAt } := by
  have hout : ∀ t, (resolveOuts t).sys = t.sys := fun t => (only_resolveOuts (P := [.regs, .out, .icus, .dio]) only_refl).2 .sys (by decide)
  have hcauses : (modeCauses s).sys = s.sys := (only_modeCauses (P := [.dio]) only_refl).2 .sys (by decide)
  dsimp only
  rw [hout, modeChanged_sys, hcauses]

theorem setMode_mode (m : Mode) (s : State) : (setMode m s).sys.mode = m := by
  unfold setMode
  dsimp only
  rw [modeEnd_sys]
  split <;> split <;> rfl

/-- OPERATIONAL becomes DEGRADED by the mode alone: no cycle stops and no attempt ends. -/
theorem setMode_degraded {s : State} (h : s.sys.mode = .operational) :
    setMode .degraded s = ({ s with sys := { s.sys with mode := .degraded, active := 0, first := 0 } }
      |> modeCauses |> modeChanged (s.sys.mode.code, s.sub) |> resolveOuts) := by
  have hrun : s.running = true := by
    unfold State.running
    rw [h]
    rfl
  unfold setMode
  simp [h, hrun, when]

/-- The parts that follow from a new mode. -/
theorem only_modeEnd {P : List Part} {b s : State} {old : Nat × Nat} (h : OnlyIn P b s)
    (hP : ∀ p ∈ [.regs, .out, .sys, .isl, .icus, .erec, .dio], p ∈ P := by decide) : OnlyIn P b (s |> modeCauses |> modeChanged old |> resolveOuts) :=
  only_via h hP fun b h => only_resolveOuts (only_modeChanged (only_modeCauses h))

theorem setMode_degraded_vot {s : State} (h : s.sys.mode = .operational) : (setMode .degraded s).vot = s.vot := by
  rw [setMode_degraded h]
  exact (only_modeEnd (P := [.regs, .out, .sys, .isl, .icus, .erec, .dio]) only_refl).2 .vot (by decide)

theorem setMode_degraded_failSilent {s : State} (h : s.sys.mode = .operational) : (setMode .degraded s).sys.failSilent = s.sys.failSilent := by
  rw [setMode_degraded h, modeEnd_sys]

theorem raised_setMode_degraded {m : Nat} {s : State} (h : s.sys.mode = .operational) (hm : Raised m s) : Raised m (setMode .degraded s) := by
  rw [setMode_degraded h]
  exact raised_resolveOuts (raised_modeChanged (raised_modeCauses (raised_mk hm)))

/-! ### A lane leaves the vote (R103, R104) -/

/-- The state of an exclusion before the mode follows: the lane is out, its volatile state wiped, and the exclusion told. -/
def exclusion (l : Lane) (c : Cause) (s : State) : State :=
  let s1 := markExclusion l c s
  let ret := s1.retires l
  resetLane (if ret then .retired else .reset) l s1
    |> wipeLane l 4
    |> bump (Off.VOT_EXCL_CNT + 4 * l.idx)
    |> record 0x0201 [iU8 1 l.idx, iU8 2 c.code]
    |> when ret (record 0x0202 [iU8 1 l.idx])
    |> raiseIrq Irq.VOT_EXCLUDED

/-- With a third lane left an exclusion takes place, and OPERATIONAL becomes DEGRADED. -/
theorem excludeLane_of_three (l : Lane) (c : Cause) (s : State) (hin : s.inVote l = true) (hthree : 3 ≤ s.lanesIn.length) :
    excludeLane l c s = if (exclusion l c s).sys.mode == .operational then setMode .degraded (exclusion l c s) else exclusion l c s := by
  unfold excludeLane
  rw [hin]
  exact if_neg (Nat.not_lt.mpr hthree)

/-- The vote after an exclusion: the lane's record as reset leaves it, but for what an exclusion notes. -/
theorem exclusion_vot (l : Lane) (c : Cause) (s : State) :
    (exclusion l c s).vot = (resetLane (if (markExclusion l c s).retires l then .retired else .reset) l (markExclusion l c s)).vot :=
  (only_raiseIrq (P := [.free, .regs, .isl, .icus, .mems, .erec]) (only_when only_record (only_record (only_bump (only_wipeLane only_refl))))).2 .vot (by decide)

theorem exclusion_sys (l : Lane) (c : Cause) (s : State) : (exclusion l c s).sys = s.sys :=
  (only_raiseIrq (P := [.free, .regs, .latches, .loWrites, .isl, .vot, .icus, .mems, .erec])
    (only_when only_record (only_record (only_bump (only_wipeLane (only_resetLane (only_markExclusion only_refl))))))).2 .sys (by decide)

/-- The record of the lane that leaves. -/
theorem exclusion_lane (l : Lane) (c : Cause) (s : State) :
    ∃ v : LaneVote, (exclusion l c s).vot.lanes.get l = v ∧ v.inVote = false ∧ v.cause = c.code ∧ v.handed = none ∧ v.digest = none ∧ v.ended = none := by
  refine ⟨_, rfl, ?_⟩
  rw [exclusion_vot, resetLane]
  dsimp only
  rw [get_modify_self, markExclusion, get_modify_self]
  generalize State.retires _ l = ret
  cases ret <;> exact ⟨rfl, rfl, rfl, rfl, rfl⟩

/-- The record of another lane is untouched. -/
theorem exclusion_other (l k : Lane) (c : Cause) (s : State) (h : k ≠ l) : (exclusion l c s).vot.lanes.get k = s.vot.lanes.get k := by
  rw [exclusion_vot, resetLane]
  dsimp only
  rw [get_modify_ne _ _ _ _ h, markExclusion, get_modify_ne _ _ _ _ h]

theorem raised_exclusion (l : Lane) (c : Cause) (s : State) : Raised Irq.VOT_EXCLUDED (exclusion l c s) := raised_raiseIrq _ _ (by decide)

/-- The rest of the vote block: the count of exclusions goes up, what is outstanding stays. -/
theorem exclusion_rest (l : Lane) (c : Cause) (s : State) :
    (exclusion l c s).vot.exclSeq = s.vot.exclSeq + 1 ∧ (exclusion l c s).vot.open_ = s.vot.open_ ∧ (exclusion l c s).vot.voted = s.vot.voted ∧
      (exclusion l c s).vot.votedDigest = s.vot.votedDigest ∧ (exclusion l c s).vot.votedEnd = s.vot.votedEnd := by
  rw [exclusion_vot]
  exact ⟨rfl, rfl, rfl, rfl, rfl⟩

/-- What the mode after an exclusion leaves of it. -/
theorem excludeLane_vot (l : Lane) (c : Cause) (s : State) (hin : s.inVote l = true) (hthree : 3 ≤ s.lanesIn.length) :
    (excludeLane l c s).vot = (exclusion l c s).vot := by
  rw [excludeLane_of_three l c s hin hthree]
  split
  next hop => exact setMode_degraded_vot (by simpa using hop)
  next => rfl

/-- The lane has left the vote, and what the table of exclusions gives holds (R103, R104). -/
theorem leftVote_excludeLane (l : Lane) (c : Cause) (s : State) (hup : s.up = true) (hin : s.inVote l = true) (hthree : 3 ≤ s.lanesIn.length) :
    LeftVote l c s (excludeLane l c s) := by
  obtain ⟨v, hv, hout, hcause, _⟩ := exclusion_lane l c s
  obtain ⟨hseq, _⟩ := exclusion_rest l c s
  have hvot := excludeLane_vot l c s hin hthree
  have hsys := exclusion_sys l c s
  have hsilent : (excludeLane l c s).sys.failSilent = false := by
    rw [excludeLane_of_three l c s hin hthree, ← failSilent_of_up hup]
    split
    next hop => rw [setMode_degraded_failSilent (by simpa using hop), hsys]
    next => rw [hsys]
  have hraised : Raised Irq.VOT_EXCLUDED (excludeLane l c s) := by
    rw [excludeLane_of_three l c s hin hthree]
    split
    next hop => exact raised_setMode_degraded (by simpa using hop) (raised_exclusion l c s)
    next => exact raised_exclusion l c s
  refine ⟨?_, ?_, fun k hk => ?_, by rw [hvot, hseq], hsilent, hraised, fun hmode => ?_⟩
  · rw [State.inVote, hvot, hv, hout]
  · rw [hvot, hv, hcause]
  · rw [State.inVote, hvot, exclusion_other l k c s hk, State.inVote]
  · rw [excludeLane_of_three l c s hin hthree, if_pos (by rw [hsys, hmode]; rfl), setMode_mode]

/-- Nothing is outstanding after an exclusion if nothing was before. -/
theorem quiet_excludeLane (l : Lane) (c : Cause) (s : State) (hin : s.inVote l = true) (hthree : 3 ≤ s.lanesIn.length) (hquiet : s.quiet = true) :
    (excludeLane l c s).quiet = true := by
  obtain ⟨v, hv, _, _, hhanded, hdigest, hended⟩ := exclusion_lane l c s
  obtain ⟨_, hopen, hvoted, hvotedD, hvotedE⟩ := exclusion_rest l c s
  have htime : (excludeLane l c s).time = s.time := (only_excludeLane (P := exclParts) only_refl).2 .time (by decide)
  have hlanes : ∀ p : LaneVote → Bool, p v = true → Lane.all.all (fun k => p (s.vot.lanes.get k)) = true →
      Lane.all.all (fun k => p ((excludeLane l c s).vot.lanes.get k)) = true := by
    intro p hp hall
    refine List.all_eq_true.mpr fun k hk => ?_
    rw [excludeLane_vot l c s hin hthree]
    by_cases e : k = l
    · rw [e, hv, hp]
    · rw [exclusion_other l k c s e]
      exact List.all_eq_true.mp hall k hk
  unfold State.quiet at hquiet ⊢
  simp only [Bool.and_eq_true, Bool.or_eq_true] at hquiet ⊢
  obtain ⟨⟨⟨⟨h1, h2⟩, h3⟩, h4⟩, h5⟩ := hquiet
  rw [htime]
  rw [excludeLane_vot l c s hin hthree] at hlanes ⊢
  rw [hopen, hvoted, hvotedD, hvotedE]
  exact ⟨⟨⟨⟨h1, h2⟩, h3.imp_right (hlanes (fun v => v.handed.isNone) (by rw [hhanded]; rfl))⟩,
    h4.imp_right (hlanes (fun v => v.digest.isNone) (by rw [hdigest]; rfl))⟩, h5.imp_right (hlanes (fun v => v.ended.isNone) (by rw [hended]; rfl))⟩

/-- An exclusion with nothing outstanding leaves nothing to settle. -/
theorem settled_excludeLane (s0 : State) (l : Lane) (c : Cause) (s : State) (hin : s.inVote l = true) (hthree : 3 ≤ s.lanesIn.length)
    (hquiet : s.quiet = true) : settled s0 (excludeLane l c s) = excludeLane l c s := by
  unfold settled
  rw [settleVotes_of_quiet _ (quiet_excludeLane l c s hin hthree hquiet)]
  exact ite_self _

end Sys2Proof.Machine

namespace Sys2Proof.Machine

set_option Elab.async false

/-! ### The path masks (R92) -/

/-- A lane's mask register and the bit of the channel in it. -/
theorem maskAt_mem (l : Lane) (ch : Nat) (h : ch < 50) :
    (maskAt l ch).1 ∈ [Off.VOT_PATH_MASK_DI, Off.VOT_PATH_MASK_DI + 4, Off.VOT_PATH_MASK_DI + 8, Off.VOT_PATH_MASK_MS, Off.VOT_PATH_MASK_MS + 4, Off.VOT_PATH_MASK_MS + 8] ∧
      (maskAt l ch).2 < 32 := by
  unfold maskAt
  split
  next hlt =>
    dsimp only
    exact ⟨by cases l <;> decide, hlt⟩
  next hge =>
    dsimp only
    exact ⟨by cases l <;> decide, by omega⟩

/-- The mask registers have no reserved bits, and are not the count of lost records. -/
theorem maskAt_reg (l : Lane) (ch : Nat) (h : ch < 50) :
    regMask (maskAt l ch).1 = BitVec.allOnes 32 ∧ (maskAt l ch).1 ≠ Off.REC_LOST_CNT ∧ (maskAt l ch).1 % 16777216 = (maskAt l ch).1 := by
  have hall : ∀ k ∈ [Off.VOT_PATH_MASK_DI, Off.VOT_PATH_MASK_DI + 4, Off.VOT_PATH_MASK_DI + 8, Off.VOT_PATH_MASK_MS, Off.VOT_PATH_MASK_MS + 4,
      Off.VOT_PATH_MASK_MS + 8], regMask k = BitVec.allOnes 32 ∧ k ≠ Off.REC_LOST_CNT ∧ k % 16777216 = k := by decide
  exact hall _ (maskAt_mem l ch h).1

/-- A word with the bit set has it. -/
theorem bit_or_self (w : Word) (i : Nat) (h : i < 32) : bit (w ||| 1#32 <<< i) i = true := by
  simp [bit, h]

/-- What masking a path does (R92): the bit is set, the mask told and recorded. -/
theorem exists_next_pathMask (s : State) (l : Lane) (ch : Nat) (hwf : RegsWf s) (hup : s.up = true) (hin : s.inVote l = true) (hch : ch < 50)
    (hfree : s.pathMasked l ch = false) :
    ∃ t, exec (.pathMask l ch) s = .next t ∧ t.reg (maskAt l ch).1 = (s.reg (maskAt l ch).1 ||| 1#32 <<< (maskAt l ch).2) ∧
      t.pathMasked l ch = true ∧ Raised Irq.VOT_PATH_MASKED t ∧ Recorded 0x0207 [iU8 1 l.idx, iU8 2 ch] s t ∧
      RegsOnly [(maskAt l ch).1, Off.REC_LOST_CNT] s t ∧ OnlyIn recParts s t := by
  obtain ⟨hmask, hne, hoff⟩ := maskAt_reg l ch hch
  have hexec : exec (.pathMask l ch) s = .next (maskPath l ch s) := by
    show Host.Outcome.next _ = _
    unfold when
    rw [if_pos (by simp [hup, hin, hch, hfree])]
  have hset : OnlyIn [.regs, .icus] s (raiseIrq Irq.VOT_PATH_MASKED (setReg (maskAt l ch).1 (s.reg (maskAt l ch).1 ||| 1#32 <<< (maskAt l ch).2) s)) :=
    only_raiseIrq (only_setReg only_refl)
  have hreg : (maskPath l ch s).reg (maskAt l ch).1 = (s.reg (maskAt l ch).1 ||| 1#32 <<< (maskAt l ch).2) := by
    have hrecord := regs_record (type := 0x0207) (items := [iU8 1 l.idx, iU8 2 ch]) (R := [Off.REC_LOST_CNT])
      (regs_refl (b := raiseIrq Irq.VOT_PATH_MASKED (setReg (maskAt l ch).1 (s.reg (maskAt l ch).1 ||| 1#32 <<< (maskAt l ch).2) s)))
    unfold maskPath
    dsimp only
    rw [hrecord _ (by rw [hoff, List.mem_singleton]; exact hne), raiseIrq_reg, reg_setReg_unmasked _ _ _ hwf hmask]
  refine ⟨_, hexec, hreg, ?_, raised_record (raised_raiseIrq _ _ (by decide)), recorded_record_of hset, ?_, only_record (only_raiseIrq (only_setReg only_refl))⟩
  · rw [State.pathMasked, hreg]
    exact bit_or_self _ _ (maskAt_mem l ch hch).2
  · exact regs_record (regs_raiseIrq (regs_setReg regs_refl (by rw [hoff]; exact List.mem_cons_self))) (by simp)

/-! ### The digest exchange between peers (R101) -/

/-- The run of disagreement of a lane with its peers, and the exclusion at its end. -/
theorem execDigestPeerExchange_eq (s : State) (l : Lane) (at_ : Nat) (d p q : DWord) (hup : s.up = true) (hin : s.inVote l = true)
    (hthree : s.lanesIn.length = 3) (hd : (s.vot.lanes.get l).digest = some (at_, d)) :
    exec (.digestPeerExchange l p q) s = .next (
      let run := if p == q && p != d then (s.vot.lanes.get l).peerRun + 1 else 0
      let s1 := s.setLane l fun v => { v with peerRun := run }
      if run != 0 && decide (max 1 (fld (s.reg Off.VOT_CFG) 0 2) ≤ run) then settled s (excludeLane l .self s1) else s1) := by
  show Host.Outcome.next _ = _
  rw [if_pos (by simp [hup, hin, hthree]), hd]

/-- The run of a lane stands in no comparison of the vote. -/
theorem peerRun_same (s : State) (l : Lane) (n : Nat) :
    (∀ k, (s.setLane l fun v => { v with peerRun := n }).inVote k = s.inVote k) ∧
      (s.quiet = true → (s.setLane l fun v => { v with peerRun := n }).quiet = true) := by
  have hget : ∀ k, ∃ m, (s.setLane l fun v => { v with peerRun := n }).vot.lanes.get k = { s.vot.lanes.get k with peerRun := m } := by
    intro k
    by_cases e : k = l
    · subst e
      exact ⟨n, get_modify_self _ _ _⟩
    · exact ⟨_, get_modify_ne _ _ _ _ e⟩
  refine ⟨fun k => ?_, fun h => ?_⟩
  · obtain ⟨m, hm⟩ := hget k
    rw [State.inVote, hm]
    rfl
  · have hsame : (s.setLane l fun v => { v with peerRun := n }).quiet = s.quiet := by
      obtain ⟨ma, ha⟩ := hget .a
      obtain ⟨mb, hb⟩ := hget .b
      obtain ⟨mc, hc⟩ := hget .c
      simp only [State.quiet, Lane.all, List.all_cons, List.all_nil, ha, hb, hc]
      rfl
    rw [hsame, h]

theorem lanesIn_congr {s t : State} (h : ∀ k, t.inVote k = s.inVote k) : t.lanesIn = s.lanesIn := by
  unfold State.lanesIn
  exact List.filter_congr fun k _ => h k

/-- A lane that leaves the vote of a state alike in what the exclusion shows. -/
theorem leftVote_of_same {l : Lane} {c : Cause} {s s' t : State} (h : LeftVote l c s' t) (hin : ∀ k, s'.inVote k = s.inVote k)
    (hseq : s'.vot.exclSeq = s.vot.exclSeq) (hmode : s'.sys.mode = s.sys.mode) : LeftVote l c s t := by
  obtain ⟨hout, hcause, hothers, hcount, hrest⟩ := h
  rw [hmode] at hrest
  exact ⟨hout, hcause, fun k hk => (hothers k hk).trans (hin k), hcount.trans (congrArg (· + 1) hseq), hrest⟩

/-- Settles O19: the fence answers at once or waits, a mask is set, and a lane whose digest its peers outvote long enough leaves the vote. -/
theorem fenceMaskAndPeers : Obligations.FenceMaskAndPeers := by
  refine ⟨?_, ?_, exists_next_pathMask, ?_⟩
  · intro s l st hup hin hst hfree
    refine ⟨answer l (st / 8) 0 false s, ?_, answer_vot _ _ _ _ _, only_answer only_refl⟩
    show Host.Outcome.next _ = _
    unfold when
    rw [if_pos]
    simp only [hup, hin, hst, decide_true, Bool.true_and, Bool.not_eq_true', List.any_eq_false, beq_iff_eq]
    exact hfree
  · intro s l st e he hst
    show Host.Outcome.next _ = _
    unfold when
    rw [if_neg]
    simp only [Bool.and_eq_true, Bool.not_eq_true', List.any_eq_false, beq_iff_eq, not_and, Classical.not_forall, not_not]
    exact fun _ => ⟨e, he, hst⟩
  · intro s l at_ d p q hup hin hthree hd
    have hexec := execDigestPeerExchange_eq s l at_ d p q hup hin hthree hd
    refine ⟨fun hne => ?_, fun hpq hpd hrun => ?_, fun hpq hpd hrun hquiet => ?_⟩
    · refine ⟨s.setLane l fun v => { v with peerRun := 0 }, ?_, rfl, only_setLane only_refl⟩
      have hcond : (p == q && p != d) = false := by simpa using hne
      rw [hexec]
      simp only [hcond, Bool.false_eq_true, if_false]
      rfl
    · refine ⟨s.setLane l fun v => { v with peerRun := (s.vot.lanes.get l).peerRun + 1 }, ?_, rfl, only_setLane only_refl⟩
      have hcond : (p == q && p != d) = true := by simpa using And.intro hpq hpd
      rw [hexec]
      simp only [hcond, if_true]
      rw [if_neg (by simpa using hrun)]
    · obtain ⟨hsame, hstill⟩ := peerRun_same s l ((s.vot.lanes.get l).peerRun + 1)
      have hlanes := lanesIn_congr hsame
      have hup' : (s.setLane l fun v => { v with peerRun := (s.vot.lanes.get l).peerRun + 1 }).up = true := hup
      have hin' := (hsame l).trans hin
      have hthree' := hlanes ▸ hthree.ge
      refine ⟨excludeLane l .self (s.setLane l fun v => { v with peerRun := (s.vot.lanes.get l).peerRun + 1 }), ?_, ?_, ?_⟩
      · have hcond : (p == q && p != d) = true := by simpa using And.intro hpq hpd
        rw [hexec]
        simp only [hcond, if_true]
        rw [if_pos (by simpa using hrun), settled_excludeLane _ _ _ _ hin' hthree' (hstill hquiet)]
      · exact leftVote_of_same (leftVote_excludeLane l .self _ hup' hin' hthree') hsame rfl rfl
      · exact only_excludeLane (only_setLane only_refl)

end Sys2Proof.Machine

namespace Sys2Proof.Machine

set_option Elab.async false

/-! ### Records in the queue (R494) -/

theorem recUp_requestRec (q : RecReq) (s : State) : (requestRec q s).recUp = s.recUp := by
  unfold requestRec
  dsimp only
  split
  · split
    · rfl
    · split <;> rfl
  · split <;> rfl

theorem recUp_record (type : Nat) (items : List Item) (s : State) : (record type items s).recUp = s.recUp := by
  unfold record
  split <;> exact recUp_requestRec _ s

theorem queue_requestRec_le (q : RecReq) (s : State) : (requestRec q s).erec.queue.length ≤ s.erec.queue.length + 1 := by
  unfold requestRec
  dsimp only
  split
  · split
    · exact (List.length_append).le
    · split <;> exact Nat.le_succ _
  · split <;> exact Nat.le_succ _

theorem queue_record_le (type : Nat) (items : List Item) (s : State) : (record type items s).erec.queue.length ≤ s.erec.queue.length + 1 := by
  unfold record
  split <;> exact queue_requestRec_le _ s

/-- A record is in the queue if what came before it in the same command has left room. -/
theorem inQueue_record {type : Nat} {items : List Item} {s s' : State} (hrec : s'.recUp = s.recUp)
    (hlen : s'.erec.queue.length ≤ s.erec.queue.length + 7) : InQueue type items s (record type items s') := by
  intro hup hroom
  obtain ⟨q, hq, htype, hitems, _⟩ := (recorded_record type items s').1 (hrec.trans hup) (by omega)
  exact ⟨q, by rw [hq]; exact List.mem_append_right _ (List.mem_singleton_self q), htype, hitems⟩

/-! ### Lanes and domains lost (R25 to R27, R35) -/

theorem settled_of_lanes {s t : State} (h : ∀ k, t.inVote k = s.inVote k) : settled s t = t := by
  have hl : t.lanesIn = s.lanesIn := by
    unfold State.lanesIn
    exact List.filter_congr fun k _ => h k
  unfold settled
  rw [if_pos (by rw [hl]; exact beq_self_eq_true _)]

/-- A lane whose clock fails, or whose domain is shorted, with a third lane left. -/
theorem exists_next_laneLost (s : State) (p : Nat) (l : Lane) (hp : partLane p = some l) (hup : s.up = true) (hquiet : s.quiet = true)
    (hin : s.inVote l = true) (hthree : s.lanesIn.length = 3) :
    (∃ t, exec (.clockFault p) s = .next t ∧ LeftVote l .clock s t ∧ OnlyIn exclParts s t) ∧
    (∃ t, exec (.domainProtectionOpen p) s = .next t ∧ LeftVote l .domain s t ∧
      t.mems.get l = { Reset.laneMem with domainOpen := true } ∧ OnlyIn exclParts s t) := by
  have hhub : s.hubOn = true := (Bool.and_eq_true_iff.mp hup).1
  refine ⟨⟨excludeLane l .clock s, ?_, leftVote_excludeLane l .clock s hup hin hthree.ge, only_excludeLane only_refl⟩,
    ⟨loseDomain l s, ?_, ?_⟩⟩
  · show Host.Outcome.next _ = _
    rw [hp]
    simp only [when, hup, if_true]
    rw [settled_excludeLane s l .clock s hin hthree.ge hquiet]
  · have hq : (loseDomain l s).quiet = true := by
      have h := quiet_excludeLane l .domain s hin hthree.ge hquiet
      unfold loseDomain
      rw [hin]
      exact h
    show Host.Outcome.next _ = _
    rw [hp]
    simp only [when, hhub, if_true]
    unfold settled
    rw [settleVotes_of_quiet _ hq, ite_self]
  · unfold loseDomain
    rw [hin]
    exact ⟨leftVote_excludeLane l .domain s hup hin hthree.ge, get_set_self _ _ _, only_mk (only_excludeLane only_refl)⟩

/-- The same with a lane fewer: the module goes silent. -/
theorem exists_next_laneLost_silent (s : State) (p : Nat) (l : Lane) (hp : partLane p = some l) (hup : s.up = true) (hin : s.inVote l = true)
    (hfew : s.lanesIn.length < 3) :
    (∃ t, exec (.clockFault p) s = .next t ∧ FellSilent s t ∧ OnlyIn silentParts s t) ∧
    (∃ t, exec (.domainProtectionOpen p) s = .next t ∧ FellSilent s t ∧ OnlyIn (.mems :: silentParts) s t) := by
  have hhub : s.hubOn = true := (Bool.and_eq_true_iff.mp hup).1
  have hsilent : ∀ c : Cause, FellSilent s (excludeLane l c s) := by
    intro c
    rw [excludeLane_of_few l c s hin hfew]
    exact fellSilent_record _ _ s (failSilent_of_up hup)
  have honly : ∀ c : Cause, OnlyIn silentParts s (excludeLane l c s) := by
    intro c
    rw [excludeLane_of_few l c s hin hfew]
    exact only_failSilent (only_record only_refl)
  have hdomain : loseDomain l s = { excludeLane l .domain s with mems := (excludeLane l .domain s).mems.set l { Reset.laneMem with domainOpen := true } } := by
    unfold loseDomain
    rw [hin]
    rfl
  have hsilent' : FellSilent s (loseDomain l s) := by
    rw [hdomain]
    exact hsilent .domain
  refine ⟨⟨_, ?_, hsilent .clock, honly .clock⟩, ⟨_, ?_, hsilent', ?_⟩⟩
  · show Host.Outcome.next _ = _
    rw [hp]
    simp only [when, hup, if_true]
    rw [settled_of_silent (hsilent .clock)]
  · show Host.Outcome.next _ = _
    rw [hp]
    simp only [when, hhub, if_true]
    rw [settled_of_silent hsilent']
  · rw [hdomain]
    exact only_mk (onlyIn_mono (honly .domain) (by decide))

/-! ### Voter slices (R119, R35) -/

/-- The commands that remove slice `k`. -/
theorem exec_removeSlice (s : State) (k : Nat) (c : Instr)
    (hc : c ∈ [Instr.clockFault (k + 3), .sliceCounterFault k, .domainProtectionOpen (k + 3), .sliceOutputDisagreement k]) (hk : k < 3)
    (hsettled : settled s (removeSlice k s) = removeSlice k s) : exec c s = .next (removeSlice k s) := by
  have hpart : partLane (k + 3) = none := rfl
  simp only [List.mem_cons, List.not_mem_nil, or_false] at hc
  obtain rfl | rfl | rfl | rfl := hc
  · show Host.Outcome.next _ = _
    rw [hpart]
    simp only [if_pos (show k + 3 < 6 by omega), Nat.add_sub_cancel, hsettled]
  · rfl
  · show Host.Outcome.next _ = _
    rw [hpart]
    simp only [when, decide_eq_true (show k + 3 < 6 by omega), if_true, Nat.add_sub_cancel, hsettled]
  · rfl

theorem exists_next_firstSlice (s : State) (k : Nat) (c : Instr)
    (hc : c ∈ [Instr.clockFault (k + 3), .sliceCounterFault k, .domainProtectionOpen (k + 3), .sliceOutputDisagreement k]) (hk : k < 3) (hup : s.up = true)
    (hall : s.vot.slices = 7) :
    ∃ t, exec c s = .next t ∧ t.vot = { s.vot with slices := 7 &&& ~~~(1#3 <<< k) } ∧ Recorded 0x0208 [iU8 1 (k + 1)] s t ∧
      Raised Irq.VOT_SLICE_REMOVED t ∧ RegsOnly [Off.REC_LOST_CNT] s t ∧ OnlyIn (.vot :: recParts) s t := by
  have hbit : s.vot.slices.getLsbD k = true := by
    rw [hall]
    interval_cases k <;> rfl
  have hrem : removeSlice k s = raiseIrq Irq.VOT_SLICE_REMOVED (record 0x0208 [iU8 1 (k + 1)] { s with vot := { s.vot with slices := 7 &&& ~~~(1#3 <<< k) } }) := by
    unfold removeSlice
    rw [if_neg (by simp [hup, hbit]), if_pos hall, hall]
  have hvot : (removeSlice k s).vot = { s.vot with slices := 7 &&& ~~~(1#3 <<< k) } := by
    rw [hrem, raiseIrq_vot, record_vot]
  refine ⟨removeSlice k s, exec_removeSlice s k c hc hk (settled_of_lanes fun l => by rw [State.inVote, hvot]; rfl), hvot, ?_⟩
  rw [hrem]
  have hmk : OnlyIn [.vot] s { s with vot := { s.vot with slices := 7 &&& ~~~(1#3 <<< k) } } := only_mk only_refl
  exact ⟨recorded_after (recorded_record_of hmk) (only_raiseIrq (P := [.icus]) only_refl), raised_raiseIrq _ _ (by decide),
    regs_raiseIrq (regs_record (regs_mk regs_refl)), only_raiseIrq (only_record (only_mk only_refl))⟩

theorem failSilent_slices (s : State) : (failSilent s).vot.slices = s.vot.slices := by
  have hvot : (commitPage (acceptAll s)).vot = s.vot := (only_commitPage (P := [.regs, .nv, .icus, .erec]) (only_acceptAll only_refl)).2 .vot (by decide)
  unfold failSilent
  split
  · rfl
  · exact (congrArg Vot.slices hvot : (commitPage (acceptAll s)).vot.slices = s.vot.slices)

theorem exists_next_secondSlice (s : State) (k : Nat) (c : Instr)
    (hc : c ∈ [Instr.clockFault (k + 3), .sliceCounterFault k, .domainProtectionOpen (k + 3), .sliceOutputDisagreement k]) (hk : k < 3) (hup : s.up = true)
    (hall : s.vot.slices ≠ 7) (hbit : s.vot.slices.getLsbD k = true) :
    ∃ t, exec c s = .next t ∧ t.vot.slices = s.vot.slices &&& ~~~(1#3 <<< k) ∧ FellSilent s t ∧ OnlyIn silentParts s t := by
  have hrem : removeSlice k s = failSilent (record 0x0208 [iU8 1 (k + 1)] { s with vot := { s.vot with slices := s.vot.slices &&& ~~~(1#3 <<< k) } }) := by
    unfold removeSlice
    rw [if_neg (by simp [hup, hbit]), if_neg hall]
  have hsilent : FellSilent s (removeSlice k s) := by
    rw [hrem]
    exact fellSilent_of_same (fellSilent_record _ _ { s with vot := { s.vot with slices := s.vot.slices &&& ~~~(1#3 <<< k) } } (failSilent_of_up hup)) rfl
  refine ⟨removeSlice k s, exec_removeSlice s k c hc hk (settled_of_silent hsilent), ?_, hsilent, ?_⟩
  · rw [hrem, failSilent_slices, record_vot]
  · rw [hrem]
    exact only_failSilent (only_record (only_mk only_refl))

/-! ### Faults of the hub, of network engines, guardian and DSP (R35, Table 1.9) -/

/-- The mode block once the module is silent. -/
theorem failSilent_sys (s : State) (h : s.sys.failSilent = false) : (failSilent s).sys = { s.sys with failSilent := true } := by
  have hsys : (commitPage (acceptAll s)).sys = s.sys := (only_commitPage (P := [.regs, .nv, .icus, .erec]) (only_acceptAll only_refl)).2 .sys (by decide)
  unfold failSilent
  rw [if_neg (by rw [h]; decide), ← hsys]
  rfl

/-- The hub lost: recorded, and the module falls silent (R35). -/
theorem hubFail_of_up {s : State} (hup : s.up = true) :
    (hubFail s).sys = { s.sys with hubFault := true, failSilent := true } ∧ FellSilent s (hubFail s) ∧ OnlyIn silentParts s (hubFail s) := by
  have hfail : hubFail s = failSilent (record 0x0107 [] { s with sys := { s.sys with hubFault := true } }) := if_pos hup
  have hnot : (record 0x0107 [] { s with sys := { s.sys with hubFault := true } }).sys.failSilent = false := by
    rw [record_sys]
    exact failSilent_of_up hup
  rw [hfail]
  refine ⟨?_, fellSilent_of_same (fellSilent_failSilent _ hnot) (by rw [record_sys]), only_failSilent (only_record (only_mk only_refl))⟩
  rw [failSilent_sys _ hnot, record_sys]

theorem exists_next_hubClock (s : State) (hup : s.up = true) :
    ∃ t, exec (.clockFault 6) s = .next t ∧ t.sys = { s.sys with hubFault := true, failSilent := true } ∧ FellSilent s t ∧ OnlyIn silentParts s t := by
  obtain ⟨hsys, hsilent, honly⟩ := hubFail_of_up hup
  exact ⟨hubFail s, congrArg Host.Outcome.next (settled_of_silent hsilent), hsys, hsilent, honly⟩

theorem exists_next_heartbeatLoss (s : State) (hup : s.up = true) (hwatch : s.watchSuspended = false) :
    ∃ t, exec .supervisorHeartbeatLoss s = .next t ∧ FellSilent s t ∧ OnlyIn silentParts s t := by
  refine ⟨failSilent (record 0x0106 [] s), ?_, fellSilent_record _ _ s (failSilent_of_up hup), only_failSilent (only_record only_refl)⟩
  exact congrArg Host.Outcome.next (if_pos (by simp [hup, hwatch]))

/-- A record after a note of the fault in the mode block, which leaves the mode and the silence as they are. -/
theorem recorded_record_sys (type : Nat) (items : List Item) (s : State) (y : Sys) (hmode : y.mode = s.sys.mode)
    (hsilent : y.failSilent = s.sys.failSilent) : Recorded type items s (record type items { s with sys := y }) := by
  have hup : ({ s with sys := y } : State).recUp = s.recUp := by simp only [State.recUp, State.up, State.hubOn, hmode, hsilent]
  exact recorded_congr type items s { s with sys := y } _ _ (recorded_record type items { s with sys := y }) hup rfl rfl rfl rfl rfl rfl

theorem exists_next_netEngineFault (s : State) (b : Bool) (hup : s.up = true) (hon : (if b then s.sys.netB else s.sys.netA).off = false) :
    ∃ t, exec (.netEngineFault b) s = .next t ∧
      t.sys = (if b then { s.sys with netB := { s.sys.netB with off := true } } else { s.sys with netA := { s.sys.netA with off := true } }) ∧
      Recorded 0x0701 [iU8 1 (b2n b)] s t ∧ RegsOnly [Off.REC_LOST_CNT] s t ∧ OnlyIn (.sys :: recParts) s t := by
  refine ⟨record 0x0701 [iU8 1 (b2n b)] { s with sys := (if b then { s.sys with netB := { s.sys.netB with off := true } }
      else { s.sys with netA := { s.sys.netA with off := true } }) }, ?_, record_sys _ _ _, ?_, regs_record (regs_mk regs_refl), only_record (only_mk only_refl)⟩
  · exact congrArg Host.Outcome.next (if_pos (by simp [hup, hon]))
  · exact recorded_record_sys _ _ s _ (by cases b <;> rfl) (by cases b <;> rfl)

theorem exists_next_guardianFault (s : State) (hup : s.up = true) (hon : s.sys.guardianFault = false) :
    ∃ t, exec .guardianFault s = .next t ∧ t.sys = { s.sys with guardianFault := true } ∧ Recorded 0x0702 [] s t ∧
      RegsOnly [Off.REC_LOST_CNT] s t ∧ OnlyIn (.sys :: recParts) s t := by
  refine ⟨record 0x0702 [] { s with sys := { s.sys with guardianFault := true } }, ?_, record_sys _ _ _, recorded_record_sys _ _ s _ rfl rfl,
    regs_record (regs_mk regs_refl), only_record (only_mk only_refl)⟩
  exact congrArg Host.Outcome.next (if_pos (by simp [hup, hon]))

/-- A new class of the estimate (R144): the entries below it are suspended. -/
theorem setClass_parts (c : Nat) (s : State) :
    (setClass c s).odo = { s.odo with cls := c } ∧ (setClass c s).pst = { s.pst with armed := (setClass c s).pst.armed } := by
  unfold setClass
  split
  next h => exact ⟨by rw [h], rfl⟩
  next => exact ⟨rfl, rfl⟩

theorem lockChange_lock (v : Lock) (s : State) : (lockChange v s).sup.lock = v := by
  unfold lockChange
  split
  next h => exact eq_of_beq h
  next =>
    dsimp only
    rw [record_sup, raiseIrq_sup]
    unfold when
    split <;> rfl

theorem lockChange_queue (v : Lock) (s : State) :
    (lockChange v s).recUp = s.recUp ∧ (lockChange v s).erec.queue.length ≤ s.erec.queue.length + 1 := by
  unfold lockChange
  split
  · exact ⟨rfl, Nat.le_succ _⟩
  · dsimp only
    rw [recUp_record]
    refine ⟨?_, (queue_record_le _ _ _).trans (Nat.succ_le_succ ?_)⟩
    · unfold when
      split <;> rfl
    · unfold when
      split <;> exact Nat.le_refl _

theorem setClass_queue (c : Nat) (s : State) : (setClass c s).recUp = s.recUp ∧ (setClass c s).erec = s.erec := by
  unfold setClass
  split <;> exact ⟨rfl, rfl⟩

theorem exists_next_dspFault (s : State) (hup : s.up = true) (hon : s.sys.dspFault = false) :
    ∃ t, exec .dspFault s = .next t ∧ t.sys = { s.sys with dspFault := true } ∧ t.odo = { s.odo with cls := 0 } ∧ t.sup.lock = .off ∧
      t.pst = { s.pst with armed := t.pst.armed } ∧ InQueue 0x0505 [] s t ∧ OnlyIn (.sys :: .odo :: .sup :: .pst :: recParts) s t := by
  let s1 : State := { s with sys := { s.sys with dspFault := true } }
  have hclass : OnlyIn [.icus, .odo, .pst] s1 (setClass 0 s1) := only_setClass only_refl
  have hlock : OnlyIn [.regs, .isl, .icus, .erec, .sup] (setClass 0 s1) (lockChange .off (setClass 0 s1)) := only_lockChange only_refl
  obtain ⟨hodo, hpst⟩ := setClass_parts 0 s1
  obtain ⟨hup1, herec1⟩ := setClass_queue 0 s1
  obtain ⟨hup2, hlen⟩ := lockChange_queue .off (setClass 0 s1)
  refine ⟨record 0x0505 [] (lockChange .off (setClass 0 s1)), ?_, ?_, ?_, ?_, ?_, ?_, ?_⟩
  · exact congrArg Host.Outcome.next (if_pos (by simp [hup, hon]))
  · rw [record_sys]
    exact (hlock.2 .sys (by decide)).trans (hclass.2 .sys (by decide))
  · rw [record_odo]
    exact (hlock.2 .odo (by decide)).trans hodo
  · rw [record_sup, lockChange_lock]
  · have hsame : (lockChange .off (setClass 0 s1)).pst = (setClass 0 s1).pst := hlock.2 .pst (by decide)
    rw [record_pst, hsame]
    exact hpst
  · rw [herec1] at hlen
    exact inQueue_record (hup2.trans hup1) (hlen.trans (Nat.add_le_add_left (by decide) _))
  · exact only_record (only_lockChange (only_setClass (only_mk only_refl)))

/-- A sensor of a list in which each has been seen. -/
theorem sensor_seen (l : List Sensor) (n : Nat) :
    (l.map fun x => { x with seen := x.count }).getD n Reset.sensor = { l.getD n Reset.sensor with seen := (l.getD n Reset.sensor).count } := by
  rw [List.getD_eq_getElem?_getD, List.getD_eq_getElem?_getD, List.getElem?_map]
  cases l[n]? <;> rfl

theorem exists_next_dspRestart (s : State) (hfault : s.sys.dspFault = true) (hnone : s.newestHalf = none) :
    ∃ t, exec .dspRestart s = .next t ∧ t.sys = { s.sys with dspFault := false } ∧ t.odo.haveFix = false ∧ t.odo.unc = 0xFFFFFFFF ∧
      t.odo.history = [] ∧ t.odo.pos = s.odo.pos ∧ t.odo.cls = s.odo.cls ∧ t.odo.fixSeq = s.odo.fixSeq ∧
      (∀ n, (t.sensor n) = { s.sensor n with seen := (s.sensor n).count }) ∧ OnlyIn [.sys, .odo, .sup] s t := by
  have hexec : exec .dspRestart s = .next (dspRestart s) := congrArg Host.Outcome.next (if_pos hfault)
  rw [hexec]
  unfold dspRestart
  extract_lets anew chan0 empty sys0 odo0 sup0 s1
  have hnone1 : s1.newestHalf = none := hnone
  rw [hnone1]
  exact ⟨s1, rfl, rfl, rfl, rfl, rfl, rfl, rfl, rfl, sensor_seen s.odo.sensors, only_mk only_refl⟩

theorem exists_next_supplyDip (s : State) (d v : Nat) (hup : s.up = true) (hdip : d ≤ 10000 ∨ d ≤ 100000 ∧ 14400 ≤ v) (hd : d < 4294967296)
    (hv : v < 65536) :
    ∃ t, exec (.supplyDip d v) s = .next t ∧ t.sys = s.sys ∧ Recorded 0x0104 [iU32 1 d, iU16 2 v] s t ∧
      (v < 16800 → Raised Irq.SYS_SUPPLY_WARN t) ∧ RegsOnly [Off.REC_LOST_CNT] s t ∧ OnlyIn recParts s t := by
  refine ⟨when (decide (v < 16800)) (raiseIrq Irq.SYS_SUPPLY_WARN) (record 0x0104 [iU32 1 d, iU16 2 v] s), ?_, ?_, ?_, fun hlow => ?_, ?_, ?_⟩
  · have hbridged : bridged d v = true := by simpa [bridged] using hdip
    have hexec : exec (.supplyDip d v) s = .next (when (s.up && bridged d v) (fun s => s |> record 0x0104 [iU32 1 (d % 4294967296), iU16 2 (v % 65536)]
      |> when (decide (v < 16800)) (raiseIrq Irq.SYS_SUPPLY_WARN)) s) := rfl
    rw [hexec, hup, hbridged, Nat.mod_eq_of_lt hd, Nat.mod_eq_of_lt hv]
    rfl
  · rw [when_sys, raiseIrq_sys, record_sys, ite_self]
  · exact recorded_after (recorded_record _ _ s) (only_when only_raiseIrq (only_refl (P := [.icus])))
  · rw [decide_eq_true hlow]
    exact raised_raiseIrq _ _ (by decide)
  · exact regs_when regs_raiseIrq (regs_record regs_refl)
  · exact only_when only_raiseIrq (only_record only_refl)

/-- Settles O11: each fault takes its part out, silences the module, or is noted and told. -/
theorem partAndEngineFaults : Obligations.PartAndEngineFaults :=
  ⟨fun s p l hp hup hquiet hin hthree => exists_next_laneLost s p l hp hup hquiet hin hthree, exists_next_laneLost_silent, exists_next_firstSlice,
    exists_next_secondSlice, exists_next_hubClock, exists_next_heartbeatLoss, exists_next_netEngineFault, exists_next_guardianFault, exists_next_dspFault,
    exists_next_dspRestart, exists_next_supplyDip⟩

end Sys2Proof.Machine

namespace Sys2Proof.Machine

set_option Elab.async false

/-! ### Storage and the supervisor through records (R491 to R501) -/

/-- What a record request leaves of the supervisor: all but its event store. -/
theorem requestRec_isl (q : RecReq) (s : State) :
    (requestRec q s).isl = { s.isl with events := (requestRec q s).isl.events, eventsLost := (requestRec q s).isl.eventsLost } := by
  unfold requestRec
  dsimp only
  split
  · split
    · rfl
    · split <;> rfl
  · split <;> rfl

theorem record_isl_rest (type : Nat) (items : List Item) (s : State) :
    (record type items s).isl = { s.isl with events := (record type items s).isl.events, eventsLost := (record type items s).isl.eventsLost } := by
  unfold record
  split <;> exact requestRec_isl _ s

theorem modeChanged_isl (old : Nat × Nat) (s : State) :
    (modeChanged old s).isl = { s.isl with events := (modeChanged old s).isl.events, eventsLost := (modeChanged old s).isl.eventsLost } := by
  unfold modeChanged
  split
  · rfl
  · simp only [raiseIrq_isl]
    rw [record_isl_rest]
    rfl

/-- Pages go to NAND; the rest of storage is untouched. -/
theorem commitPage_nv (s : State) : (commitPage s).nv = { s.nv with nand := (commitPage s).nv.nand } := by
  unfold commitPage
  dsimp only
  split
  · rfl
  · split
    · rfl
    · rw [when_nv, raiseIrq_nv, ite_self]
      rfl

theorem newRec_nv (q : RecReq) (same : Bool) (s : State) : (acceptOne.newRec q same s).nv = { s.nv with nand := (acceptOne.newRec q same s).nv.nand } := by
  unfold acceptOne.newRec
  extract_lets n seq r used s1
  have h1 : s1.nv = { s.nv with nand := s1.nv.nand } := by
    unfold s1
    split
    · rfl
    · exact commitPage_nv s
  clear_value s1
  have hother : ∀ x : Nand, ({ s1.nv with nand := x } : NonVol) = { s.nv with nand := x } := fun x => by rw [h1]
  rw [bump_nv]
  exact hother _

theorem acceptOne_nv (s : State) : (acceptOne s).nv = { s.nv with nand := (acceptOne s).nv.nand } := by
  have hwhen : ∀ (c : Bool) (t : State), (when c (raiseIrq Irq.REC_LOST) t).nv = t.nv := fun c t => by rw [when_nv, raiseIrq_nv, ite_self]
  unfold acceptOne
  split
  · rfl
  · dsimp only
    split
    · split
      · rw [bump_nv]
        dsimp only
        rw [hwhen]
      · rw [newRec_nv, hwhen]
    · rw [newRec_nv, hwhen]

theorem acceptAll_nv (s : State) : (acceptAll s).nv = { s.nv with nand := (acceptAll s).nv.nand } := by
  have hfold : ∀ (l : List Nat) (t : State), (l.foldl (fun s _ => acceptOne s) t).nv = { t.nv with nand := (l.foldl (fun s _ => acceptOne s) t).nv.nand } := by
    intro l
    induction l with
    | nil => exact fun _ => rfl
    | cons x xs ih =>
      intro t
      rw [List.foldl_cons, ih (acceptOne t), acceptOne_nv]
  exact hfold _ s

theorem flushRecords_nv (s : State) : (flushRecords s).nv = { s.nv with nand := (flushRecords s).nv.nand } := by
  unfold flushRecords
  split
  · rfl
  · rw [commitPage_nv, acceptAll_nv]

/-! ### A module reset (R62, R63) -/

/-- A record while REC does not run is the supervisor's, and no register counts it. -/
theorem requestRec_regs_of_not_up (q : RecReq) (s : State) (h : s.recUp = false) : (requestRec q s).regs = s.regs := by
  unfold requestRec
  rw [h, if_neg (by decide)]
  split <;> rfl

theorem record_regs_of_not_up (type : Nat) (items : List Item) (s : State) (h : s.recUp = false) : (record type items s).regs = s.regs := by
  unfold record
  split <;> exact requestRec_regs_of_not_up _ s h

/-- START-UP.BOOT is a mode of its own. -/
theorem boot_code_sub (s : State) : (Mode.boot.code, 1) = (s.sys.mode.code, s.sub) ↔ s.sys.mode = .boot := by
  unfold State.sub
  cases s.sys.mode <;> simp [Mode.code]

/-- The registers of a module set up anew, once its change of mode has been counted. -/
theorem reg_bootEntered_of_change (old : Nat × Nat) (y : State) (hold : (y.sys.mode.code, y.sub) ≠ old) (hregs : y.regs = []) (hrec : y.recUp = false) :
    (bootEntered old y).reg Off.SYS_MODE_CHANGES = 1 ∧ ∀ k, k ≠ Off.SYS_MODE_CHANGES → (bootEntered old y).reg k = regReset k := by
  have hy : ∀ k, y.reg k = regReset k := fun k => by rw [State.reg, hregs]; rfl
  have hwf : RegsWf y := by rw [RegsWf, hregs]; rfl
  unfold bootEntered modeChanged
  rw [if_neg hold]
  have hreg : ∀ k, (raiseIrq Irq.SYS_MODE_CHANGE (record 0x0101 [iU8 1 old.1, iU8 2 old.2, iU8 3 y.sys.mode.code, iU8 4 y.sub, iU8 5 y.reason]
      (bump Off.SYS_MODE_CHANGES { y with sys := { y.sys with changedAt := y.time.tb0.time } }))).reg k =
      (bump Off.SYS_MODE_CHANGES y).reg k := by
    intro k
    rw [raiseIrq_reg]
    refine reg_congr _ _ k (record_regs_of_not_up _ _ _ ?_)
    exact hrec
  refine ⟨?_, fun k hk => ?_⟩
  · exact (hreg _).trans ((reg_bump_unmasked _ y hwf (by decide)).trans (by rw [hy]; decide))
  · exact (hreg k).trans ((reg_bump_ne _ k y hk).trans (hy k))

/-- The registers after a reset into BOOT: the count of changes of mode alone. -/
theorem reg_bootEntered (s y : State) (hboot : y.sys.mode = .boot) (hregs : y.regs = []) (hrec : y.recUp = false) :
    (bootEntered (s.sys.mode.code, s.sub) y).reg Off.SYS_MODE_CHANGES = (if s.sys.mode = .boot then 0 else 1) ∧
      ∀ k, k ≠ Off.SYS_MODE_CHANGES → (bootEntered (s.sys.mode.code, s.sub) y).reg k = regReset k := by
  have hsub : y.sub = 1 := by
    unfold State.sub
    rw [hboot]
  by_cases h : s.sys.mode = .boot
  · have hsame : bootEntered (s.sys.mode.code, s.sub) y = y := if_pos (by rw [hboot, hsub]; exact (boot_code_sub s).mpr h)
    have hy : ∀ k, y.reg k = regReset k := fun k => by rw [State.reg, hregs]; rfl
    rw [hsame, if_pos h]
    exact ⟨hy _, fun k _ => hy k⟩
  · rw [if_neg h]
    exact reg_bootEntered_of_change _ y (by rw [hboot, hsub]; exact mt (boot_code_sub s).mp h) hregs hrec

/-- A state that a restart has left, once BOOT has been entered. -/
theorem resetTo_bootEntered {cause : Nat} {s y : State} (hboot : y.sys.mode = .boot) (hsilent : y.sys.failSilent = false) (hregs : y.regs = [])
    (hrec : y.erec.state = .notReady) (hblocks : y.shadows = [] ∧ y.vot = Reset.vot ∧ y.cyc = Reset.cyc ∧ y.mems = State.reset.mems)
    (hisl : y.isl.resetCause = cause ∧ y.isl.failN = false ∧ y.isl.rtc = s.isl.rtc) (hnow : y.now = s.now)
    (hnv : y.nv.resetCount = s.nv.resetCount + 1 ∧ y.nv.slots = s.nv.slots ∧ y.nv.store = s.nv.store ∧ y.nv.half0 = s.nv.half0 ∧ y.nv.half1 = s.nv.half1)
    (hpending : y.pending = s.pending) : ResetTo cause s (bootEntered (s.sys.mode.code, s.sub) y) := by
  have hup : y.recUp = false := by rw [State.recUp, hrec]; rfl
  obtain ⟨hchanges, hothers⟩ := reg_bootEntered s y hboot hregs hup
  have honly : OnlyIn [.regs, .sys, .isl, .icus, .erec] y (bootEntered (s.sys.mode.code, s.sub) y) := only_modeChanged only_refl
  have hsys := modeChanged_sys (s.sys.mode.code, s.sub) y
  have hisl' := modeChanged_isl (s.sys.mode.code, s.sub) y
  obtain ⟨hshadows, hvot, hcyc, hmems⟩ := hblocks
  obtain ⟨hcause, hfail, hrtc⟩ := hisl
  obtain ⟨hcount, hslots, hstore, hhalf0, hhalf1⟩ := hnv
  have hnv' : (bootEntered (s.sys.mode.code, s.sub) y).nv = y.nv := honly.2 .nv (by decide)
  unfold bootEntered at *
  refine ⟨?_, ?_, hchanges, hothers, (honly.2 .shadows (by decide)).trans hshadows, (honly.2 .vot (by decide)).trans hvot,
    (honly.2 .cyc (by decide)).trans hcyc, (honly.2 .mems (by decide)).trans hmems, ?_, ?_, ?_, (honly.2 .now (by decide)).trans hnow,
    by rw [hnv', hcount], by rw [hnv', hslots], by rw [hnv', hstore], by rw [hnv', hhalf0], by rw [hnv', hhalf1], honly.1.trans hpending⟩
  · rw [hsys, ← hboot]
  · rw [hsys, ← hsilent]
  · rw [hisl', ← hcause]
  · rw [hisl', ← hfail]
  · rw [hisl', ← hrtc]

/-- The supervisor is as it was but for its event store. -/
def IslKept (s t : State) : Prop := t.isl = { s.isl with events := t.isl.events, eventsLost := t.isl.eventsLost }

theorem islKept_trans {s t u : State} (h1 : IslKept s t) (h2 : IslKept t u) : IslKept s u := by
  unfold IslKept at *
  rw [h2, h1]

theorem islKept_of_only {P : List Part} {s t : State} (h : OnlyIn P s t) (hP : Part.isl ∉ P := by decide) : IslKept s t := by
  have hisl : t.isl = s.isl := h.2 .isl hP
  rw [IslKept, hisl]

theorem islKept_endSessions (p : Session → Bool) (s : State) : IslKept s (endSessions p s) := by
  have hfold : ∀ (l : List Session) (t : State), IslKept t (l.foldl (fun s x => sessionEvent x 0 s) t) := by
    intro l
    induction l with
    | nil => exact fun _ => rfl
    | cons x xs ih => exact fun t => islKept_trans (record_isl_rest _ _ t) (ih _)
  exact islKept_trans (islKept_of_only (only_mk (P := [.ksp]) only_refl)) (hfold (s.ksp.sessions.filter p) { s with ksp := { s.ksp with sessions := s.ksp.sessions.filter fun x => !p x } })

/-- The state whose storage and supervisor a restart keeps. -/
def beforeRestart (s : State) : State := flushRecords (when s.up (endSessions fun _ => true) s)

theorem beforeRestart_kept (s : State) : IslKept s (beforeRestart s) ∧ (beforeRestart s).nv = { s.nv with nand := (beforeRestart s).nv.nand } ∧
    OnlyIn [.regs, .isl, .nv, .icus, .erec, .ksp] s (beforeRestart s) := by
  have hflush : OnlyIn [.regs, .nv, .icus, .erec] (when s.up (endSessions fun _ => true) s) (beforeRestart s) := only_flushRecords only_refl
  have hend : OnlyIn [.regs, .isl, .icus, .erec, .ksp] s (when s.up (endSessions fun _ => true) s) := only_when only_endSessions only_refl
  have hnv : (when s.up (endSessions fun _ => true) s).nv = s.nv := hend.2 .nv (by decide)
  refine ⟨islKept_trans ?_ (islKept_of_only hflush), ?_, only_flushRecords (only_when only_endSessions only_refl)⟩
  · unfold when
    split
    · exact islKept_endSessions _ s
    · rfl
  · have h := flushRecords_nv (when s.up (endSessions fun _ => true) s)
    rw [hnv] at h
    exact h

/-- A module reset for any cause (Table 2.6). -/
theorem resetTo_restart {s s' y : State} (cause : Nat) (hy : OnlyIn [.isl] (restart cause s') y)
    (hisl : y.isl.resetCause = cause ∧ y.isl.failN = false ∧ y.isl.rtc = s'.isl.rtc) (hpending : s'.pending = s.pending) (hnow : s'.now = s.now)
    (hrtc : s'.isl.rtc = s.isl.rtc)
    (hnv : s'.nv.resetCount = s.nv.resetCount ∧ s'.nv.slots = s.nv.slots ∧ s'.nv.store = s.nv.store ∧ s'.nv.half0 = s.nv.half0 ∧ s'.nv.half1 = s.nv.half1) :
    ResetTo cause s (bootEntered (s.sys.mode.code, s.sub) y) := by
  obtain ⟨_, hnvKept, hkept⟩ := beforeRestart_kept s'
  have hsys : y.sys = (restart cause s').sys := hy.2 .sys (by decide)
  have hnv' : y.nv = { (beforeRestart s').nv with resetCount := (beforeRestart s').nv.resetCount + 1 } := hy.2 .nv (by decide)
  rw [hnvKept] at hnv'
  obtain ⟨hcount, hslots, hstore, hhalf0, hhalf1⟩ := hnv
  obtain ⟨hcause, hfail, hislRtc⟩ := hisl
  have herec : y.erec.state = .notReady := congrArg Recorder.state (hy.2 .erec (by decide))
  refine resetTo_bootEntered (by rw [hsys]; rfl) (by rw [hsys]; rfl) (hy.2 .regs (by decide)) herec
    ⟨hy.2 .shadows (by decide), hy.2 .vot (by decide), hy.2 .cyc (by decide), hy.2 .mems (by decide)⟩ ⟨hcause, hfail, hislRtc.trans hrtc⟩ ?_ ?_ ?_
  · exact (hy.2 .now (by decide)).trans ((hkept.2 .now (by decide)).trans hnow)
  · rw [hnv']
    exact ⟨congrArg (· + 1) hcount, hslots, hstore, hhalf0, hhalf1⟩
  · exact hy.1.trans (hkept.1.trans hpending)

end Sys2Proof.Machine

namespace Sys2Proof.Machine

set_option Elab.async false

/-! ### Module resets by command (R43, R62) -/

theorem only_requestRec_of_not_up {P : List Part} {b s : State} {q : RecReq} (h : OnlyIn P b s) (hup : s.recUp = false)
    (hP : ∀ p ∈ [Part.isl], p ∈ P := by decide) : OnlyIn P b (requestRec q s) := by
  refine only_via h hP fun b h => ?_
  unfold requestRec
  rw [hup, if_neg (by decide)]
  exact only_ite (only_mk h) (only_mk h)

/-- The wipes that a reset notes go to the supervisor's store. -/
theorem only_resetWipes_of_not_up (s : State) (hup : s.recUp = false) : OnlyIn [.isl] s (resetWipes s) := by
  have hfold : ∀ (ls : List Lane) (t : State), t.recUp = false →
      OnlyIn [.isl] t (ls.foldl (fun s l => requestRec (s.request 0x0302 [iU8 1 4, iU8 2 l.idx, iU8 3 3] [] []) s) t) := by
    intro ls
    induction ls with
    | nil => exact fun _ _ => only_refl
    | cons l ls ih =>
      intro t ht
      exact onlyIn_trans (only_requestRec_of_not_up only_refl ht) (ih _ ((recUp_requestRec _ t).trans ht))
  exact hfold _ s hup

theorem resetWipes_isl (s : State) : IslKept s (resetWipes s) := by
  have hfold : ∀ (ls : List Lane) (t : State),
      IslKept t (ls.foldl (fun s l => requestRec (s.request 0x0302 [iU8 1 4, iU8 2 l.idx, iU8 3 3] [] []) s) t) := by
    intro ls
    induction ls with
    | nil => exact fun _ => rfl
    | cons l ls ih => exact fun t => islKept_trans (requestRec_isl _ t) (ih _)
  exact hfold _ s

theorem restart_recUp (cause : Nat) (s : State) : (restart cause s).recUp = false := rfl

/-- A module reset of a state alike in what a reset shows. -/
theorem resetTo_moduleReset {s s' : State} (cause : Nat) (hsys : s'.sys = s.sys) (hpending : s'.pending = s.pending) (hnow : s'.now = s.now)
    (hrtc : s'.isl.rtc = s.isl.rtc)
    (hnv : s'.nv.resetCount = s.nv.resetCount ∧ s'.nv.slots = s.nv.slots ∧ s'.nv.store = s.nv.store ∧ s'.nv.half0 = s.nv.half0 ∧ s'.nv.half1 = s.nv.half1) :
    ResetTo cause s (moduleReset cause s') := by
  have hold : (s'.sys.mode.code, s'.sub) = (s.sys.mode.code, s.sub) := by rw [State.sub, State.sub, hsys]
  have hwipes : IslKept (restart cause s') (resetWipes (restart cause s')) := resetWipes_isl _
  have hbefore : IslKept s' (beforeRestart s') := (beforeRestart_kept s').1
  unfold moduleReset
  rw [hold]
  refine resetTo_restart cause (only_resetWipes_of_not_up _ (restart_recUp cause s')) ⟨?_, ?_, ?_⟩ hpending hnow hrtc hnv
  · rw [hwipes]
    rfl
  · rw [hwipes]
    rfl
  · rw [hwipes]
    have hrtc' : (beforeRestart s').isl.rtc = s'.isl.rtc := by rw [hbefore]
    exact hrtc'

/-- Storage that a module reset leaves: the count of resets goes up. -/
theorem moduleReset_nv (cause : Nat) (s : State) :
    (moduleReset cause s).nv = { s.nv with resetCount := s.nv.resetCount + 1, nand := (moduleReset cause s).nv.nand } := by
  have hbefore := (beforeRestart_kept s).2.1
  have hnv : (moduleReset cause s).nv = (restart cause s).nv :=
    ((only_modeChanged (P := [.regs, .sys, .isl, .icus, .erec]) only_refl).2 .nv (by decide)).trans
      ((only_resetWipes_of_not_up _ (restart_recUp cause s)).2 .nv (by decide))
  have hrestart : (restart cause s).nv = { (beforeRestart s).nv with resetCount := (beforeRestart s).nv.resetCount + 1 } := rfl
  rw [hnv, hrestart, hbefore]

theorem exists_next_autoRestart (s : State) (hhub : s.hubOn = true) (hsilent : s.sys.failSilent = true) (hcfg : bit (s.reg Off.SYS_START_CFG) 8 = true)
    (hfree : s.restartFree = true) : ∃ t, exec .autoRestart s = .next t ∧ ResetTo 4 s t ∧ t.nv.autoRestart = some s.nv.opSeconds.toNat := by
  refine ⟨moduleReset 4 { s with nv := { s.nv with autoRestart := some s.nv.opSeconds.toNat } }, ?_,
    resetTo_moduleReset 4 rfl rfl rfl rfl ⟨rfl, rfl, rfl, rfl, rfl⟩, ?_⟩
  · exact congrArg Host.Outcome.next (if_pos (by simp [hhub, hsilent, hcfg, hfree]))
  · rw [moduleReset_nv]

theorem exists_next_resetRequest (s : State) (v : Word) (hup : s.up = true) (hkey : fld v 16 16 = 0x5253) (hcode : fld v 0 4 = 1) :
    ∃ t, exec (.moduleResetRequest v) s = .next t ∧ ResetTo 3 s t := by
  refine ⟨moduleReset 3 s, ?_, resetTo_moduleReset 3 rfl rfl rfl rfl ⟨rfl, rfl, rfl, rfl, rfl⟩⟩
  have hop : resetReqOp v s = moduleReset 3 s := by
    unfold resetReqOp
    rw [hkey, hcode]
    rfl
  exact congrArg Host.Outcome.next ((if_pos hup).trans hop)

theorem exists_next_resetRequest_bad_key (s : State) (v : Word) (hwf : RegsWf s) (hup : s.up = true) (hkey : fld v 16 16 ≠ 0x5253) :
    ∃ t, exec (.moduleResetRequest v) s = .next t ∧ t.reg Off.SYS_REQ_REJECTS = s.reg Off.SYS_REQ_REJECTS + 1 ∧
      RegsOnly [Off.SYS_REQ_REJECTS] s t ∧ OnlyIn [.regs] s t := by
  refine ⟨bump Off.SYS_REQ_REJECTS s, ?_, reg_bump_unmasked _ s hwf (by decide), regs_bump regs_refl, only_bump only_refl⟩
  have hop : resetReqOp v s = bump Off.SYS_REQ_REJECTS s := if_pos (by simpa using hkey)
  exact congrArg Host.Outcome.next ((if_pos hup).trans hop)

theorem exec_resetRequest_bad_code (s : State) (v : Word) (hup : s.up = true) (hkey : fld v 16 16 = 0x5253) (hcode : fld v 0 4 ≠ 1) :
    exec (.moduleResetRequest v) s = .next s := by
  have hop : resetReqOp v s = s := by
    unfold resetReqOp
    rw [if_neg (by simp [hkey]), if_neg (by simpa using hcode)]
  exact congrArg Host.Outcome.next ((if_pos hup).trans hop)

/-! ### SAFE-HOLD for a reason (R45 to R48) -/

/-- The mode block in SAFE-HOLD: the mode and the time of the change are new. -/
theorem setMode_safeHold_sys (s : State) : (setMode .safeHold s).sys = { s.sys with mode := .safeHold, changedAt := (setMode .safeHold s).sys.changedAt } := by
  have hrejoins : (when (s.sys.mode == .degraded && Mode.safeHold != .degraded && Mode.safeHold != .operational) abandonRejoins s).sys = s.sys :=
    (only_when (P := [.regs, .latches, .loWrites, .vot, .icus]) only_abandonRejoins only_refl).2 .sys (by decide)
  have hhold : ∀ t : State, (latchHold (pisteHold (abandonCycle t))).sys = t.sys := fun t =>
    (only_latchHold (P := [.out, .vot, .pst, .dio, .cyc]) (only_pisteHold (only_abandonCycle only_refl))).2 .sys (by decide)
  have henter : ((Mode.safeHold == .operational || Mode.safeHold == .degraded) && !s.running) = false := rfl
  unfold setMode
  dsimp only
  rw [modeEnd_sys, henter]
  simp only [Bool.false_eq_true, if_false, Bool.or_false]
  split
  · split
    · rw [hhold, hrejoins]
    · rw [hrejoins]
  next hne => exact absurd rfl hne

/-- The reason is active, the first one unless the module was in SAFE-HOLD already; the rest of the mode block is untouched. -/
theorem addReason_sys (r : Reason) (s : State) : HeldWith r s (addReason r s) ∧ (addReason r s).sys.overVolt = s.sys.overVolt := by
  unfold HeldWith Reason.mask addReason
  by_cases h : s.sys.mode = .safeHold
  · have hheld : s.held = true := by rw [State.held, h]; rfl
    dsimp only
    rw [if_pos hheld, modeChanged_sys, if_pos h, if_pos h]
    exact ⟨⟨h, rfl, rfl⟩, rfl⟩
  · have hheld : s.held = false := by simpa [State.held] using h
    dsimp only
    rw [if_neg (by rw [hheld]; decide), setMode_safeHold_sys, if_neg h, if_neg h]
    exact ⟨⟨rfl, rfl, rfl⟩, rfl⟩

/-- A state alike in the mode block's reasons is held alike. -/
theorem heldWith_of_same {r : Reason} {s s' t : State} (h : HeldWith r s' t) (hmode : s'.sys.mode = s.sys.mode) (hactive : s'.sys.active = s.sys.active)
    (hfirst : s'.sys.first = s.sys.first) : HeldWith r s t := by
  unfold HeldWith at *
  rwa [hmode, hactive, hfirst] at h

/-! ### Records that stay in the queue -/

theorem mem_queue_requestRec {q : RecReq} (r : RecReq) {s : State} (h : q ∈ s.erec.queue) : q ∈ (requestRec r s).erec.queue := by
  unfold requestRec
  dsimp only
  split
  · split
    · exact List.mem_append_left _ h
    · split <;> exact h
  · split <;> exact h

theorem mem_queue_ite {q : RecReq} {c : Prop} [Decidable c] {s t : State} (hs : q ∈ s.erec.queue) (ht : q ∈ t.erec.queue) :
    q ∈ (if c then s else t).erec.queue := by
  split
  · exact hs
  · exact ht

theorem mem_queue_modeChanged {q : RecReq} (old : Nat × Nat) {s : State} (h : q ∈ s.erec.queue) : q ∈ (modeChanged old s).erec.queue := by
  unfold modeChanged record
  split
  · exact h
  · split <;> exact mem_queue_requestRec _ h

theorem mem_queue_setMode {q : RecReq} (m : Mode) {s : State} (h : q ∈ s.erec.queue) : q ∈ (setMode m s).erec.queue := by
  have hrejoins : (when (s.sys.mode == .degraded && m != .degraded && m != .operational) abandonRejoins s).erec = s.erec :=
    (only_when (P := [.regs, .latches, .loWrites, .vot, .icus]) only_abandonRejoins only_refl).2 .erec (by decide)
  have hhold : ∀ t : State, (latchHold (pisteHold (abandonCycle t))).erec = t.erec := fun t =>
    (only_latchHold (P := [.out, .vot, .pst, .dio, .cyc]) (only_pisteHold (only_abandonCycle only_refl))).2 .erec (by decide)
  have hcauses : ∀ t : State, (modeCauses t).erec = t.erec := fun t => (only_modeCauses (P := [.dio]) only_refl).2 .erec (by decide)
  have houts : ∀ t : State, (resolveOuts t).erec = t.erec := fun t => (only_resolveOuts (P := [.out, .dio, .icus, .regs]) only_refl).2 .erec (by decide)
  unfold setMode
  dsimp only
  rw [houts]
  refine mem_queue_modeChanged _ ?_
  rw [hcauses]
  have hold : q ∈ (if m == .safeHold && !s.held then latchHold (pisteHold (abandonCycle
      (when (s.sys.mode == .degraded && m != .degraded && m != .operational) abandonRejoins s)))
      else when (s.sys.mode == .degraded && m != .degraded && m != .operational) abandonRejoins s).erec.queue :=
    mem_queue_ite (by rw [hhold, hrejoins]; exact h) (by rw [hrejoins]; exact h)
  exact mem_queue_ite (mem_queue_ite hold hold) (mem_queue_ite hold hold)

theorem mem_queue_addReason {q : RecReq} (r : Reason) {s : State} (h : q ∈ s.erec.queue) : q ∈ (addReason r s).erec.queue := by
  unfold addReason
  dsimp only
  split
  · exact mem_queue_modeChanged _ h
  · exact mem_queue_setMode _ h

theorem inQueue_addReason {type : Nat} {items : List Item} {s t : State} (r : Reason) (h : InQueue type items s t) :
    InQueue type items s (addReason r t) := by
  intro hup hroom
  obtain ⟨q, hq, hrest⟩ := h hup hroom
  exact ⟨q, mem_queue_addReason r hq, hrest⟩

/-! ### Overvoltage and the hold-up test (R56, Table 2.4) -/

theorem findReason_of_running {r : Reason} {s : State} (h : s.sys.mode.code ≠ 2) : findReason r s = addReason r s :=
  if_neg (by simpa using h)

theorem findReason_of_startUp {r : Reason} {s : State} (h : s.sys.mode.code = 2) :
    findReason r s = { s with sys := { s.sys with found := s.sys.found ||| r.bit } } :=
  if_pos (by rw [h]; rfl)

theorem exists_next_overvoltage (s : State) (hup : s.up = true) (hcode : s.sys.mode.code ≠ 2) :
    ∃ t, exec .overvoltageSupply s = .next t ∧ HeldWith .supply s t ∧ t.sys.overVolt = true ∧ Raised Irq.SYS_SUPPLY_WARN t ∧ OnlyIn exclParts s t := by
  refine ⟨overvoltage s, congrArg Host.Outcome.next (if_pos hup), ?_⟩
  have honly : OnlyIn exclParts s (overvoltage s) := only_overvoltage only_refl
  let s' : State := raiseIrq Irq.SYS_SUPPLY_WARN { s with sys := { s.sys with overVolt := true } }
  have hs' : overvoltage s = addReason .supply s' := findReason_of_running hcode
  rw [hs'] at honly ⊢
  obtain ⟨hheld, hover⟩ := addReason_sys .supply s'
  exact ⟨heldWith_of_same hheld rfl rfl rfl, hover, raised_addReason (raised_raiseIrq _ _ (by decide)), honly⟩

theorem holdupFailed_sys (s : State) : (holdupFailed s).sys = { s.sys with overVolt := true } :=
  (only_record (P := [.isl, .erec, .regs, .icus]) only_refl).2 .sys (by decide)

theorem exists_next_holdupFailed (s : State) (hup : s.up = true) (hcode : s.sys.mode.code ≠ 2) :
    ∃ t, exec (.holdupTest false) s = .next t ∧ HeldWith .supply s t ∧ t.sys.overVolt = true ∧ InQueue 0x0104 [] s t ∧ OnlyIn exclParts s t := by
  refine ⟨holdup false s, congrArg Host.Outcome.next (if_pos hup), ?_⟩
  have honly : OnlyIn exclParts s (holdup false s) := only_holdup only_refl
  have hs' : holdup false s = addReason .supply (holdupFailed s) := findReason_of_running (by rw [holdupFailed_sys]; exact hcode)
  rw [hs'] at honly ⊢
  obtain ⟨hheld, hover⟩ := addReason_sys .supply (holdupFailed s)
  rw [holdupFailed_sys] at hover
  exact ⟨heldWith_of_same hheld (by rw [holdupFailed_sys]) (by rw [holdupFailed_sys]) (by rw [holdupFailed_sys]), hover,
    inQueue_addReason _ (inQueue_record rfl (Nat.le_add_right _ _)), honly⟩

theorem exists_next_overvoltage_startUp (s : State) (hup : s.up = true) (hcode : s.sys.mode.code = 2) :
    ∃ t, exec .overvoltageSupply s = .next t ∧ t.sys = { s.sys with overVolt := true, found := s.sys.found ||| Reason.supply.bit } ∧
      Raised Irq.SYS_SUPPLY_WARN t ∧ OnlyIn [.sys, .icus] s t := by
  refine ⟨overvoltage s, congrArg Host.Outcome.next (if_pos hup), ?_⟩
  have hs' : overvoltage s = _ := findReason_of_startUp hcode
  rw [hs']
  exact ⟨rfl, raised_mk (raised_raiseIrq _ _ (by decide)), only_mk (only_raiseIrq (only_mk only_refl))⟩

theorem exists_next_holdupFailed_startUp (s : State) (hup : s.up = true) (hcode : s.sys.mode.code = 2) :
    ∃ t, exec (.holdupTest false) s = .next t ∧ t.sys = { s.sys with overVolt := true, found := s.sys.found ||| Reason.supply.bit } ∧
      Recorded 0x0104 [] s t ∧ RegsOnly [Off.REC_LOST_CNT] s t ∧ OnlyIn (.sys :: recParts) s t := by
  refine ⟨holdup false s, congrArg Host.Outcome.next (if_pos hup), ?_⟩
  have hs' : holdup false s = _ := findReason_of_startUp (s := holdupFailed s) (by rw [holdupFailed_sys]; exact hcode)
  rw [hs', holdupFailed_sys]
  have hrec : Recorded 0x0104 [] s (holdupFailed s) := recorded_record_sys _ _ _ _ rfl rfl
  have hregs : RegsOnly [Off.REC_LOST_CNT] s (holdupFailed s) := regs_record (regs_mk regs_refl)
  have honly : OnlyIn (.sys :: recParts) s (holdupFailed s) := only_record (only_mk only_refl)
  generalize holdupFailed s = u at hrec hregs honly
  exact ⟨rfl, recorded_after hrec (P := [.sys]) (only_mk only_refl), regs_mk hregs, only_mk honly⟩

theorem exists_next_holdupPassed_startUp (s : State) (hup : s.up = true) (hcode : s.sys.mode.code = 2) :
    ∃ t, exec (.holdupTest true) s = .next t ∧ t.sys = { s.sys with overVolt := false, found := s.sys.found &&& ~~~Reason.supply.bit } ∧
      OnlyIn [.sys] s t := by
  let s' : State := { s with sys := { s.sys with overVolt := false, found := s.sys.found &&& ~~~Reason.supply.bit } }
  refine ⟨s', ?_, rfl, only_mk only_refl⟩
  have hheld : s'.held = false := by
    show (s.sys.mode == .safeHold) = false
    revert hcode
    cases s.sys.mode <;> decide
  have hclear : clearReason .supply s' = s' := if_neg (by rw [hheld, Bool.false_and]; exact Bool.false_ne_true)
  exact congrArg Host.Outcome.next ((if_pos hup).trans hclear)

/-- A reason that ends leaves SAFE-HOLD for its own, unless others hold it. -/
theorem clearReason_of_held {r : Reason} {s : State} (hheld : s.held = true) (hactive : s.sys.active.getLsbD (r.code - 1) = true) :
    clearReason r s = modeChanged (s.sys.mode.code, s.sub) { s with sys := { s.sys with active :=
      (if ((s.sys.active &&& ~~~(1#8 <<< (r.code - 1))) &&& 0b10111111#8 == 0 && !(r == .supply && bit (s.reg Off.SYS_START_CFG) 9 &&
          (s.sys.active &&& ~~~(1#8 <<< (r.code - 1))) == 0))
        then (s.sys.active &&& ~~~(1#8 <<< (r.code - 1))) ||| 0b01000000#8 else s.sys.active &&& ~~~(1#8 <<< (r.code - 1))) } } :=
  if_pos (by rw [hheld, hactive]; rfl)

theorem exists_next_holdupPassed_held (s : State) (hup : s.up = true) (hheld : s.held = true) (hactive : s.sys.active.getLsbD 3 = true) :
    ∃ t, exec (.holdupTest true) s = .next t ∧ t.sys.mode = .safeHold ∧ t.sys.overVolt = false ∧ t.sys.active.getLsbD 3 = false ∧
      (s.sys.active &&& 0xB7 = 0 → bit (s.reg Off.SYS_START_CFG) 9 = false → t.sys.active = 0x40) ∧ OnlyIn (.sys :: recParts) s t := by
  have hmode : s.sys.mode = .safeHold := by simpa [State.held] using hheld
  let s' : State := { s with sys := { s.sys with overVolt := false, found := s.sys.found &&& ~~~Reason.supply.bit } }
  have hs' : holdup true s = _ := clearReason_of_held (r := .supply) (s := s') hheld hactive
  refine ⟨holdup true s, congrArg Host.Outcome.next (if_pos hup), ?_⟩
  rw [hs', modeChanged_sys]
  refine ⟨hmode, rfl, ?_, ?_, only_modeChanged (only_mk (only_mk only_refl))⟩
  · have hleft : ∀ a : BitVec 8, ∀ c : Bool, (if c then (a &&& ~~~(1#8 <<< 3)) ||| 0b01000000#8 else a &&& ~~~(1#8 <<< 3)).getLsbD 3 = false := by decide
    exact hleft s.sys.active _
  · intro hothers hmanual
    have hleft : ∀ a : BitVec 8, a &&& 0xB7 = 0 → (a &&& ~~~(1#8 <<< 3)) &&& 0b10111111#8 = 0 ∧ (a &&& ~~~(1#8 <<< 3)) ||| 0b01000000#8 = 0x40 := by decide
    obtain ⟨hzero, h40⟩ := hleft s.sys.active hothers
    have hcond : ((s.sys.active &&& ~~~(1#8 <<< 3)) &&& 0b10111111#8 == 0 && !(Reason.supply == .supply && bit (s.reg Off.SYS_START_CFG) 9 &&
        (s.sys.active &&& ~~~(1#8 <<< 3)) == 0)) = true := by
      rw [hzero, hmanual]
      rfl
    exact (if_pos hcond).trans h40

/-- Settles O16, command by command. -/
theorem resetsAndSupply : Obligations.ResetsAndSupply :=
  ⟨exists_next_autoRestart, exists_next_resetRequest, exists_next_resetRequest_bad_key, exec_resetRequest_bad_code,
    fun s hup hcode => ⟨exists_next_overvoltage s hup hcode, exists_next_holdupFailed s hup hcode⟩,
    fun s hup hcode => ⟨exists_next_overvoltage_startUp s hup hcode, exists_next_holdupFailed_startUp s hup hcode, exists_next_holdupPassed_startUp s hup hcode⟩,
    exists_next_holdupPassed_held⟩

end Sys2Proof.Machine

namespace Sys2Proof.Machine

set_option Elab.async false

/-! ### States set up anew -/

theorem anewBut_of_only {K P : List Part} {s y t : State} (hy : AnewBut K s y) (h : OnlyIn P y t) (hP : ∀ p ∈ P, p ∈ K := by decide) : AnewBut K s t := by
  obtain ⟨hpending, hsame⟩ := hy
  refine ⟨h.1.trans hpending, fun p hp => ?_⟩
  have ht := h.2 p fun hmem => hp (hP p hmem)
  have hy' := hsame p hp
  cases p <;> exact ht.trans hy'

theorem only_record_of_not_up {P : List Part} {b s : State} {type : Nat} {items : List Item} (h : OnlyIn P b s) (hup : s.recUp = false)
    (hP : ∀ p ∈ [Part.isl], p ∈ P := by decide) : OnlyIn P b (record type items s) := by
  unfold record
  split
  · exact only_requestRec_of_not_up h hup hP
  · exact only_requestRec_of_not_up h hup hP

/-- With no lane in vote no interrupt is raised. -/
theorem raiseIrq_of_no_lane {id : Nat} {s : State} (h : ∀ l, s.inVote l = false) : raiseIrq id s = s := by
  have hicus : (s.icus.map fun l u => if s.inVote l then u.assert (s.srcCfg l) id else u) = s.icus := by
    cases hs : s.icus
    simp only [Tri.map, h]
    rfl
  unfold raiseIrq
  rw [hicus]

/-- The change of mode of a module that restarts goes to the supervisor's store. -/
theorem only_bootEntered_of_reset {P : List Part} {b y : State} {old : Nat × Nat} (h : OnlyIn P b y) (hrec : y.recUp = false) (hlanes : ∀ l, y.inVote l = false)
    (hP : ∀ p ∈ [Part.regs, .sys, .isl], p ∈ P := by decide) : OnlyIn P b (bootEntered old y) := by
  unfold bootEntered modeChanged
  split
  · exact h
  · rw [raiseIrq_of_no_lane]
    · have hstart : OnlyIn [.regs, .sys] y (bump Off.SYS_MODE_CHANGES { y with sys := { y.sys with changedAt := y.time.tb0.time } }) :=
        only_bump (only_mk only_refl)
      have hall : OnlyIn [.regs, .sys, .isl] y (record 0x0101 [iU8 1 old.1, iU8 2 old.2, iU8 3 y.sys.mode.code, iU8 4 y.sub, iU8 5 y.reason]
          (bump Off.SYS_MODE_CHANGES { y with sys := { y.sys with changedAt := y.time.tb0.time } })) :=
        only_record_of_not_up (onlyIn_mono hstart (by decide)) hrec
      exact onlyIn_trans h (onlyIn_mono hall hP)
    · intro l
      have hvot : (record 0x0101 [iU8 1 old.1, iU8 2 old.2, iU8 3 y.sys.mode.code, iU8 4 y.sub, iU8 5 y.reason]
          (bump Off.SYS_MODE_CHANGES { y with sys := { y.sys with changedAt := y.time.tb0.time } })).vot = y.vot :=
        (only_record (P := [.regs, .isl, .icus, .erec, .sys]) (only_bump (only_mk only_refl))).2 .vot (by decide)
      rw [State.inVote, hvot]
      exact hlanes l

/-- A state written out from the reset one. -/
theorem anewBut_of_reset {K : List Part} {s y : State} (h : OnlyIn K { State.reset with pending := s.pending } y) : AnewBut K s y := by
  have hreset : AnewBut K s { State.reset with pending := s.pending } := by
    refine ⟨rfl, fun p _ => ?_⟩
    cases p <;> rfl
  exact anewBut_of_only hreset h fun p hp => hp

/-! ### POWER_VALID (R50) -/

/-- The state that the supply's return sets up, before its change of mode is noted. -/
def powered (ga : Nat) (s : State) : State :=
  { State.reset with
    pending := s.pending, now := s.now, free := s.free, out := s.out
    nv := { s.nv with porCount := s.nv.porCount + 1 }
    isl := { Reset.island with ga := ga % 64 }
    chk := { Reset.chk with presentN := s.chk.presentN, pFail := s.chk.pFail, pClaim := s.chk.pClaim }
    sys := { Reset.sys with startAt := s.now } }

theorem powerOn_eq (ga : Nat) (s : State) : powerOn ga s = bootEntered (0, 0) (powered ga s) := rfl

theorem eventsLost_requestRec_of_room (q : RecReq) (s : State) (h : s.isl.events.length < 16) : (requestRec q s).isl.eventsLost = s.isl.eventsLost := by
  unfold requestRec
  dsimp only
  split
  · split
    · rfl
    · split <;> rfl
  · rfl

theorem eventsLost_record_of_room (type : Nat) (items : List Item) (s : State) (h : s.isl.events.length < 16) :
    (record type items s).isl.eventsLost = s.isl.eventsLost := by
  unfold record
  split <;> exact eventsLost_requestRec_of_room _ s h

/-- The first change of mode of a module whose store of events is empty. -/
theorem bootEntered_isl_of_empty (old : Nat × Nat) (y : State) (hold : (y.sys.mode.code, y.sub) ≠ old) (hrec : y.recUp = false) (hempty : y.isl.events = []) :
    (bootEntered old y).isl = { y.isl with events := (bootEntered old y).isl.events } ∧ (bootEntered old y).isl.events.map (·.type) = [0x0101] := by
  let s1 : State := bump Off.SYS_MODE_CHANGES { y with sys := { y.sys with changedAt := y.time.tb0.time } }
  let items := [iU8 1 old.1, iU8 2 old.2, iU8 3 y.sys.mode.code, iU8 4 y.sub, iU8 5 y.reason]
  have heq : bootEntered old y = raiseIrq Irq.SYS_MODE_CHANGE (record 0x0101 items s1) := if_neg hold
  rw [heq, raiseIrq_isl]
  have hroom : s1.isl.events.length < 16 := by
    show y.isl.events.length < 16
    rw [hempty]
    decide
  obtain ⟨q, hq, htype, _⟩ := (recorded_record 0x0101 items s1).2 hrec hroom
  have hlost := eventsLost_record_of_room 0x0101 items s1 hroom
  have hrest := record_isl_rest 0x0101 items s1
  rw [hlost] at hrest
  have hevents : s1.isl.events = [] := hempty
  refine ⟨hrest, ?_⟩
  rw [hq, hevents, List.nil_append, List.map_singleton, htype]

theorem bootEntered_sys_of_change (old : Nat × Nat) (y : State) (hold : (y.sys.mode.code, y.sub) ≠ old) :
    (bootEntered old y).sys = { y.sys with changedAt := y.time.tb0.time } := by
  let s1 : State := bump Off.SYS_MODE_CHANGES { y with sys := { y.sys with changedAt := y.time.tb0.time } }
  have heq : bootEntered old y = raiseIrq Irq.SYS_MODE_CHANGE (record 0x0101 [iU8 1 old.1, iU8 2 old.2, iU8 3 y.sys.mode.code, iU8 4 y.sub, iU8 5 y.reason] s1) :=
    if_neg hold
  rw [heq, raiseIrq_sys]
  exact (only_record (P := [.isl, .erec, .regs, .icus]) only_refl).2 .sys (by decide)

theorem exists_next_powerValid (s : State) (ga : Nat) (hoff : s.isl.powered = false) (hga : ga < 64) :
    ∃ t, exec (.powerValid ga) s = .next t ∧ t.sys.mode = .boot ∧ t.isl = { Reset.island with ga := ga, events := t.isl.events } ∧
      t.isl.events.map (·.type) = [0x0101] ∧ t.nv = { s.nv with porCount := s.nv.porCount + 1 } ∧ t.now = s.now ∧
      t.sys = { Reset.sys with startAt := s.now } ∧ t.reg Off.SYS_MODE_CHANGES = 1 ∧
      (∀ k : Nat, k ≠ Off.SYS_MODE_CHANGES → t.reg k = regReset k) ∧ AnewBut [.now, .free, .regs, .out, .nv, .isl, .chk, .sys] s t := by
  have hrec : (powered ga s).recUp = false := rfl
  have honly : OnlyIn [.regs, .sys, .isl] (powered ga s) (bootEntered (0, 0) (powered ga s)) := only_bootEntered_of_reset only_refl hrec fun l => by cases l <;> rfl
  have hanew : AnewBut [.now, .free, .regs, .out, .nv, .isl, .chk, .sys] s (powered ga s) := anewBut_of_reset (only_mk (s := { State.reset with pending := s.pending }) only_refl)
  have hchange : ((powered ga s).sys.mode.code, (powered ga s).sub) ≠ (0, 0) := by
    show ((2 : Nat), (1 : Nat)) ≠ (0, 0)
    decide
  obtain ⟨hisl, hevents⟩ := bootEntered_isl_of_empty (0, 0) (powered ga s) hchange hrec rfl
  have hsys : (bootEntered (0, 0) (powered ga s)).sys = { (powered ga s).sys with changedAt := (powered ga s).time.tb0.time } :=
    bootEntered_sys_of_change _ _ hchange
  obtain ⟨hcount, hothers⟩ := reg_bootEntered_of_change (0, 0) (powered ga s) hchange rfl hrec
  refine ⟨powerOn ga s, congrArg Host.Outcome.next (if_pos (by rw [hoff]; rfl)), ?_⟩
  rw [powerOn_eq]
  refine ⟨by rw [hsys]; rfl, ?_, hevents, honly.2 .nv (by decide), honly.2 .now (by decide), hsys.trans rfl, hcount, hothers, anewBut_of_only hanew honly⟩
  rw [hisl]
  show ({ Reset.island with ga := ga % 64, events := (bootEntered (0, 0) (powered ga s)).isl.events } : Island) = _
  rw [Nat.mod_eq_of_lt hga]

/-! ### POWER_FAIL (R58) -/

theorem mem_store (r : Rec) (n : Nand) : r ∈ (n.store [r]).circulating := by
  show r ∈ ((n.circulating ++ [r]).reverse.take 65536).reverse
  rw [List.reverse_append, List.reverse_singleton, List.singleton_append, List.take_succ_cons, List.mem_reverse]
  exact List.mem_cons_self

theorem mem_circulating_commitPage (s : State) (r : Rec) (hpage : s.erec.page = [r]) (hok : s.erec.state ≠ .failed) :
    r ∈ (commitPage s).nv.nand.circulating := by
  unfold commitPage
  rw [hpage, if_neg (fun h => nomatch h), if_neg (by simpa using hok)]
  dsimp only
  rw [when_nv, raiseIrq_nv, ite_self]
  exact mem_store r s.nv.nand

/-- The one request that waits becomes the one record of the open page. -/
theorem page_acceptOne_of_single (s : State) (q : RecReq) (hqueue : s.erec.queue = [q]) (hpage : s.erec.page = []) :
    (∃ r, (acceptOne s).erec.page = [r] ∧ r.body.type = q.type) ∧ (acceptOne s).erec.state = s.erec.state := by
  have hwhen : ∀ (c : Bool) (t : State), (when c (raiseIrq Irq.REC_LOST) t).erec = t.erec := fun c t => by rw [when_erec, raiseIrq_erec, ite_self]
  have hnew : ∀ (q : RecReq) (same : Bool) (t : State), t.erec.page = [] →
      (∃ r, (acceptOne.newRec q same t).erec.page = [r] ∧ r.body.type = q.type) ∧ (acceptOne.newRec q same t).erec.state = t.erec.state := by
    intro q same t ht
    have hcommit : commitPage t = t := if_pos (by rw [ht]; rfl)
    unfold acceptOne.newRec
    dsimp only
    rw [hcommit, ite_self, ht, bump_erec]
    exact ⟨⟨_, rfl, rfl⟩, rfl⟩
  have hlast : (when s.erec.tell (raiseIrq Irq.REC_LOST)
      { s with erec := { s.erec with queue := [q].erase q, lost := false, tell := false } }).erec.page.getLast? = none := by
    rw [hwhen]
    show s.erec.page.getLast? = none
    rw [hpage]
    rfl
  unfold acceptOne
  rw [hqueue]
  dsimp only [firstRec]
  rw [hlast]
  obtain ⟨hrec, hstate⟩ := hnew { q with lost := s.erec.lost } ((s.newestRec.map (s.repeats { q with lost := s.erec.lost })).getD false)
    (when s.erec.tell (raiseIrq Irq.REC_LOST) { s with erec := { s.erec with queue := [q].erase q, lost := false, tell := false } }) ((congrArg Recorder.page (hwhen _ _)).trans hpage)
  exact ⟨hrec, hstate.trans (by rw [hwhen])⟩

theorem acceptAll_of_single (s : State) (q : RecReq) (hqueue : s.erec.queue = [q]) : acceptAll s = acceptOne s := by
  unfold acceptAll
  rw [hqueue]
  rfl

/-- A single request is in NAND once the page has been committed. -/
theorem mem_circulating_of_single (s : State) (q : RecReq) (hqueue : s.erec.queue = [q]) (hpage : s.erec.page = []) (hok : s.erec.state ≠ .failed) :
    ∃ r ∈ (commitPage (acceptAll s)).nv.nand.circulating, r.body.type = q.type := by
  rw [acceptAll_of_single s q hqueue]
  obtain ⟨⟨r, hr, htype⟩, hstate⟩ := page_acceptOne_of_single s q hqueue hpage
  exact ⟨r, mem_circulating_commitPage _ r hr (by rw [hstate]; exact hok), htype⟩

theorem requestRec_erec_of_room (q : RecReq) (s : State) (hup : s.recUp = true) (hroom : s.erec.queue.length < 64) :
    (requestRec q s).erec = { s.erec with queue := (requestRec q s).erec.queue } := by
  unfold requestRec
  rw [if_pos hup, if_pos hroom]

theorem record_erec_of_room (type : Nat) (items : List Item) (s : State) (hup : s.recUp = true) (hroom : s.erec.queue.length < 64) :
    (record type items s).erec = { s.erec with queue := (record type items s).erec.queue } := by
  unfold record
  split <;> exact requestRec_erec_of_room _ s hup hroom

theorem recordPowerFail_nv (s : State) : (recordPowerFail s).nv = { s.nv with nand := (recordPowerFail s).nv.nand } := by
  unfold recordPowerFail
  split
  · have hrec : (record 0x0103 [] s).nv = s.nv := (onlyIn_record _ _ s).2 .nv (by decide)
    rw [flushRecords_nv, hrec]
  · rw [commitPage_nv, acceptAll_nv]

theorem mem_circulating_recordPowerFail (s : State) (hok : s.erec.state ≠ .failed) (hqueue : s.erec.queue = []) (hevents : s.isl.events = [])
    (hpage : s.erec.page = []) : ∃ r ∈ (recordPowerFail s).nv.nand.circulating, r.body.type = 0x0103 := by
  unfold recordPowerFail
  split
  next hup =>
    have hroom : s.erec.queue.length < 64 := by rw [hqueue]; decide
    obtain ⟨q, hq, htype, _⟩ := (recorded_record 0x0103 [] s).1 hup hroom
    rw [hqueue, List.nil_append] at hq
    have hrest := record_erec_of_room 0x0103 [] s hup hroom
    have hready : ((record 0x0103 [] s).erec.state == .notReady) = false := by
      rw [hrest]
      cases hstate : s.erec.state
      case notReady =>
        rw [State.recUp, hstate] at hup
        exact absurd hup (fun h => nomatch h)
      all_goals rfl
    unfold flushRecords
    rw [hready, if_neg (by decide)]
    obtain ⟨r, hr, hbody⟩ := mem_circulating_of_single _ q hq (by rw [hrest]; exact hpage) (by rw [hrest]; exact hok)
    exact ⟨r, hr, hbody.trans htype⟩
  · exact mem_circulating_of_single _ (s.request 0x0103 [] [] []) (by rw [hevents]; rfl) hpage hok

theorem exists_next_powerFail (s : State) (hon : s.isl.powered = true) :
    ∃ t, exec .powerFail s = .next t ∧ t.isl = { Reset.island with powered := false, failN := true } ∧
      t.nv.slots = s.nv.slots ∧ t.nv.store = s.nv.store ∧ t.nv.half0 = s.nv.half0 ∧ t.nv.half1 = s.nv.half1 ∧
      (s.erec.state ≠ .failed → s.erec.queue = [] → s.isl.events = [] → s.erec.page = [] → ∃ r ∈ t.nv.nand.circulating, r.body.type = 0x0103) ∧
      AnewBut [.now, .free, .out, .nv, .isl, .chk] s t := by
  refine ⟨powerLoss s, congrArg Host.Outcome.next (if_pos hon), rfl, ?_⟩
  let s1 := s |> bothGroups 0 true |> resolveOuts
  have hopen : OnlyIn [.regs, .out, .icus, .dio] s s1 := only_resolveOuts (only_bothGroups only_refl)
  have herec : s1.erec = s.erec := hopen.2 .erec (by decide)
  have hisl : s1.isl = s.isl := hopen.2 .isl (by decide)
  have hnv : (powerLoss s).nv = { s1.nv with nand := (powerLoss s).nv.nand } := recordPowerFail_nv s1
  have hs1 : s1.nv = s.nv := hopen.2 .nv (by decide)
  have hpending : (powerLoss s).pending = s.pending := (only_recordPowerFail (P := [.regs, .out, .icus, .dio, .isl, .nv, .erec]) (onlyIn_mono hopen (by decide))).1
  rw [hs1] at hnv
  refine ⟨by rw [hnv], by rw [hnv], by rw [hnv], by rw [hnv], fun hok hqueue hevents hpage => ?_, ?_⟩
  · exact mem_circulating_recordPowerFail s1 (by rw [herec]; exact hok) (by rw [herec]; exact hqueue) (by rw [hisl]; exact hevents) (by rw [herec]; exact hpage)
  · have hanew : AnewBut [.now, .free, .out, .nv, .isl, .chk] (recordPowerFail s1) (powerLoss s) :=
      anewBut_of_reset (only_mk (s := { State.reset with pending := (recordPowerFail s1).pending }) only_refl)
    exact ⟨hpending, hanew.2⟩

/-! ### WAKE and RTC_ALARM (R60) -/

/-- A wake resets the module and keeps the wake cause. -/
theorem resetTo_wakeReset (cause : Word) (s : State) :
    ResetTo 2 s (wakeReset cause s) ∧ (wakeReset cause s).isl.wakeCause = cause ∧ (wakeReset cause s).isl.wakeArmed = 0 := by
  have hbefore : IslKept s (beforeRestart s) := (beforeRestart_kept s).1
  have hrtc : (beforeRestart s).isl.rtc = s.isl.rtc := by rw [hbefore]
  let y : State := { restart 2 s with isl := { (restart 2 s).isl with wakeCause := cause, wakeArmed := 0, wakeEarly := none } }
  have hisl : (wakeReset cause s).isl = _ := modeChanged_isl (s.sys.mode.code, s.sub) y
  exact ⟨resetTo_restart 2 (s' := s) (y := y) (only_mk only_refl) ⟨rfl, rfl, hrtc⟩ rfl rfl rfl ⟨rfl, rfl, rfl, rfl, rfl⟩, by rw [hisl], by rw [hisl]⟩

theorem wakeOp_of_armed {src b : Nat} {cause : Word} {s : State} (hsrc : wakeBit src = some (b, cause)) (harmed : bit s.isl.wakeArmed b = true)
    (hable : s.wakeable src = true) : wakeOp src s = if s.sys.mode == .dormant then wakeReset cause s
      else if s.sys.entering && s.isl.wakeEarly.isNone then { s with isl := { s.isl with wakeEarly := some cause } } else s := by
  unfold wakeOp
  rw [hsrc]
  exact if_pos (by rw [harmed, hable]; rfl)

theorem exists_next_wake (s : State) (src b : Nat) (cause : Word) (hon : s.isl.powered = true) (hmode : s.sys.mode = .dormant)
    (hsrc : wakeBit src = some (b, cause)) (harmed : bit s.isl.wakeArmed b = true) (hable : s.wakeable src = true) :
    ∃ t, exec (.wake src) s = .next t ∧ ResetTo 2 s t ∧ t.isl.wakeCause = cause ∧ t.isl.wakeArmed = 0 := by
  have hop : wakeOp src s = wakeReset cause s := (wakeOp_of_armed hsrc harmed hable).trans (if_pos (by rw [hmode]; rfl))
  exact ⟨wakeReset cause s, congrArg Host.Outcome.next ((if_pos hon).trans hop), resetTo_wakeReset cause s⟩

theorem exists_next_wakeEarly (s : State) (src b : Nat) (cause : Word) (hon : s.isl.powered = true) (hmode : s.sys.mode ≠ .dormant)
    (hentering : s.sys.entering = true) (hnone : s.isl.wakeEarly = none) (hsrc : wakeBit src = some (b, cause)) (harmed : bit s.isl.wakeArmed b = true)
    (hable : s.wakeable src = true) :
    ∃ t, exec (.wake src) s = .next t ∧ t.isl = { s.isl with wakeEarly := some cause } ∧ OnlyIn [.isl] s t := by
  have hop : wakeOp src s = { s with isl := { s.isl with wakeEarly := some cause } } :=
    (wakeOp_of_armed hsrc harmed hable).trans ((if_neg (by simpa using hmode)).trans (if_pos (by rw [hentering, hnone]; rfl)))
  exact ⟨_, congrArg Host.Outcome.next ((if_pos hon).trans hop), rfl, only_mk only_refl⟩

/-- The time that passes until the alarm's second begins. -/
def State.untilAlarm (s : State) : Nat := 1000000000 * (s.isl.rtcAlarm.toNat - s.isl.rtc.toNat) - s.isl.rtcNs

theorem rtcAlarmOp_of_ahead {s : State} (hset : s.isl.rtcAlarm ≠ 0) (hahead : s.isl.rtc.toNat < s.isl.rtcAlarm.toNat) :
    rtcAlarmOp s = wakeOp 5 (when (advance s.untilAlarm s).up (raiseIrq Irq.SYS_RTC_ALARM) (advance s.untilAlarm s)) := by
  have hne : s.isl.rtcAlarm ≠ s.isl.rtc := fun h => by rw [h] at hahead; exact absurd hahead (Nat.lt_irrefl _)
  unfold rtcAlarmOp State.untilAlarm
  rw [if_neg (by simpa [Nat.le_of_lt hahead] using hset), if_neg hne]

/-- The clock stands at the alarm when that time has passed. -/
theorem advance_untilAlarm_isl {s : State} (hon : s.isl.powered = true) (hns : s.isl.rtcNs < 1000000000) (hahead : s.isl.rtc.toNat < s.isl.rtcAlarm.toNat) :
    (advance s.untilAlarm s).isl = { s.isl with rtc := s.isl.rtcAlarm, rtcNs := 0 } := by
  have hsum : s.isl.rtcNs + s.untilAlarm = 1000000000 * (s.isl.rtcAlarm.toNat - s.isl.rtc.toNat) := by
    unfold State.untilAlarm
    omega
  have hisl : (advance s.untilAlarm s).isl = if s.isl.powered then
      { s.isl with rtc := s.isl.rtc + BitVec.ofNat 32 ((s.isl.rtcNs + s.untilAlarm) / 1000000000), rtcNs := (s.isl.rtcNs + s.untilAlarm) % 1000000000 }
      else s.isl := rfl
  have hrtc : s.isl.rtc + BitVec.ofNat 32 (s.isl.rtcAlarm.toNat - s.isl.rtc.toNat) = s.isl.rtcAlarm := by
    generalize s.isl.rtc = a at *
    generalize s.isl.rtcAlarm = b at *
    refine BitVec.eq_of_toNat_eq ?_
    rw [BitVec.toNat_add, BitVec.toNat_ofNat]
    omega
  rw [hisl, if_pos hon, hsum, Nat.mul_div_cancel_left _ (by decide), Nat.mul_mod_right, hrtc]

theorem powered_of_up {s : State} (h : s.up = true) : s.isl.powered = true := by
  revert h
  unfold State.up State.hubOn
  cases s.sys.mode <;> simp +contextual

theorem exists_next_rtcAlarm (s : State) (hup : s.up = true) (hentering : s.sys.entering = false) (hset : s.isl.rtcAlarm ≠ 0)
    (hns : s.isl.rtcNs < 1000000000) (hahead : s.isl.rtc.toNat < s.isl.rtcAlarm.toNat) :
    ∃ t, exec .rtcAlarm s = .next t ∧ t.isl = { s.isl with rtc := s.isl.rtcAlarm, rtcNs := 0 } ∧ Raised Irq.SYS_RTC_ALARM t ∧
      OnlyIn [.now, .nv, .time, .isl, .icus] s t := by
  have hon : s.isl.powered = true := powered_of_up hup
  have hisl := advance_untilAlarm_isl hon hns hahead
  let s1 := advance s.untilAlarm s
  have hup1 : s1.up = true := by
    rw [← hup]
    unfold State.up State.hubOn
    rw [advance_sys, hisl]
  have hraise : rtcAlarmOp s = wakeOp 5 (raiseIrq Irq.SYS_RTC_ALARM s1) := by
    rw [rtcAlarmOp_of_ahead hset hahead]
    exact congrArg (wakeOp 5) (if_pos hup1)
  have hawake : (s.sys.mode == .dormant) = false := by
    cases hmode : s.sys.mode
    case dormant =>
      rw [State.up, State.hubOn, hmode] at hup
      exact absurd hup (fun h => nomatch h)
    all_goals rfl
  have hwake : wakeOp 5 (raiseIrq Irq.SYS_RTC_ALARM s1) = raiseIrq Irq.SYS_RTC_ALARM s1 := by
    have hmode : ((raiseIrq Irq.SYS_RTC_ALARM s1).sys.mode == .dormant) = false := hawake
    have henter : (raiseIrq Irq.SYS_RTC_ALARM s1).sys.entering = false := hentering
    unfold wakeOp
    split
    · rw [hmode, henter]
      simp only [Bool.false_and, Bool.false_eq_true, if_false, ite_self]
    · rfl
  exact ⟨_, congrArg Host.Outcome.next ((if_pos hon).trans (hraise.trans hwake)), hisl, raised_raiseIrq _ _ (by decide), only_raiseIrq (only_advance only_refl)⟩

/-- What a wake from a state that is set up anew leaves. -/
theorem wakeReset_of_anew (cause : Word) {s y : State} :
    (wakeReset cause y).sys.mode = .boot ∧ (wakeReset cause y).isl.resetCause = 2 ∧ (wakeReset cause y).isl.wakeCause = cause ∧
      (wakeReset cause y).isl.rtc = y.isl.rtc ∧
      (y.pending = s.pending → AnewBut [.now, .regs, .free, .out, .nv, .isl, .upd, .ksp, .chk, .tlm, .sys, .dio] s (wakeReset cause y)) := by
  obtain ⟨⟨hmode, _, _, _, _, _, _, _, hcause, _, hrtc, _⟩, hwake, _⟩ := resetTo_wakeReset cause y
  refine ⟨hmode, hcause, hwake, hrtc, fun hpending => ?_⟩
  let z : State := { restart 2 y with isl := { (restart 2 y).isl with wakeCause := cause, wakeArmed := 0, wakeEarly := none } }
  have hz : AnewBut [.now, .regs, .free, .out, .nv, .isl, .upd, .ksp, .chk, .tlm, .sys, .dio] s z := by
    have hsame : AnewBut [.now, .regs, .free, .out, .nv, .isl, .upd, .ksp, .chk, .tlm, .sys, .dio] (beforeRestart y) z :=
      anewBut_of_reset (only_mk (s := { State.reset with pending := (beforeRestart y).pending }) only_refl)
    exact ⟨(beforeRestart_kept y).2.2.1.trans hpending, hsame.2⟩
  exact anewBut_of_only (P := [.regs, .sys, .isl]) hz (only_bootEntered_of_reset (old := (y.sys.mode.code, y.sub)) only_refl rfl fun l => by cases l <;> rfl)

theorem exists_next_rtcAlarm_dormant (s : State) (hon : s.isl.powered = true) (hmode : s.sys.mode = .dormant) (harmed : bit s.isl.wakeArmed 5 = true)
    (hset : s.isl.rtcAlarm ≠ 0) (hns : s.isl.rtcNs < 1000000000) (hahead : s.isl.rtc.toNat < s.isl.rtcAlarm.toNat) :
    ∃ t, exec .rtcAlarm s = .next t ∧ t.sys.mode = .boot ∧ t.isl.resetCause = 2 ∧ t.isl.wakeCause = 32 ∧ t.isl.rtc = s.isl.rtcAlarm ∧
      AnewBut [.now, .regs, .free, .out, .nv, .isl, .upd, .ksp, .chk, .tlm, .sys, .dio] s t := by
  have hisl := advance_untilAlarm_isl hon hns hahead
  let s1 := advance s.untilAlarm s
  have hmode1 : s1.sys.mode = .dormant := hmode
  have hdown : s1.up = false := by
    rw [State.up, State.hubOn, hmode1]
    rfl
  have hraise : rtcAlarmOp s = wakeOp 5 s1 := by
    rw [rtcAlarmOp_of_ahead hset hahead]
    exact congrArg (wakeOp 5) (if_neg (by rw [hdown]; exact Bool.false_ne_true))
  have hwake : wakeOp 5 s1 = wakeReset 32 s1 :=
    (wakeOp_of_armed (b := 5) (cause := 32) (by decide) (by rw [hisl]; exact harmed) rfl).trans (if_pos (by rw [hmode1]; rfl))
  obtain ⟨hboot, hcause, hwakeCause, hrtc, hanew⟩ := wakeReset_of_anew 32 (s := s) (y := s1)
  exact ⟨wakeReset 32 s1, congrArg Host.Outcome.next ((if_pos hon).trans (hraise.trans hwake)), hboot, hcause, hwakeCause, hrtc.trans (by rw [hisl]), hanew rfl⟩

/-! ### DORMANT reached (R59) -/

/-- The state from which the module goes dark. -/
def lastRecorded (s : State) : State :=
  s |> record 0x0101 [iU8 1 s.sys.mode.code, iU8 2 s.sub, iU8 3 1, iU8 4 0, iU8 5 0] |> acceptAll |> commitPage

theorem lastRecorded_kept (s : State) : IslKept s (lastRecorded s) ∧ (lastRecorded s).nv = { s.nv with nand := (lastRecorded s).nv.nand } ∧
    OnlyIn [.regs, .isl, .nv, .icus, .erec] s (lastRecorded s) := by
  refine ⟨islKept_trans (record_isl_rest _ _ s) (islKept_of_only (P := [.regs, .nv, .icus, .erec]) (only_commitPage (only_acceptAll only_refl))), ?_,
    only_commitPage (only_acceptAll (only_record only_refl))⟩
  have hrec : (record 0x0101 [iU8 1 s.sys.mode.code, iU8 2 s.sub, iU8 3 1, iU8 4 0, iU8 5 0] s).nv = s.nv := (onlyIn_record _ _ s).2 .nv (by decide)
  unfold lastRecorded
  rw [commitPage_nv, acceptAll_nv, hrec]

/-- The module in DORMANT, before a wake that came early acts. -/
def wentDark (s : State) : State :=
  powerDown .dormant (bump Off.SYS_MODE_CHANGES { lastRecorded s with sys := { (lastRecorded s).sys with changedAt := (lastRecorded s).time.tb0.time } })

theorem wentDark_kept (s : State) : IslKept s (wentDark s) ∧ (wentDark s).nv = { s.nv with nand := (wentDark s).nv.nand } ∧
    (wentDark s).now = s.now ∧ (wentDark s).sys.mode = .dormant ∧
    AnewBut [.now, .free, .out, .nv, .isl, .upd, .ksp, .chk, .tlm, .sys, .dio] s (wentDark s) := by
  obtain ⟨hisl, hnv, honly⟩ := lastRecorded_kept s
  let s1 := bump Off.SYS_MODE_CHANGES { lastRecorded s with sys := { (lastRecorded s).sys with changedAt := (lastRecorded s).time.tb0.time } }
  have hflush : OnlyIn [.regs, .nv, .icus, .erec, .sys] (lastRecorded s) (flushRecords s1) := only_flushRecords (only_bump (only_mk only_refl))
  have hnvFlush := flushRecords_nv s1
  have hs1 : s1.nv = (lastRecorded s).nv := rfl
  have hislFlush : IslKept s (flushRecords s1) := islKept_trans hisl (islKept_of_only hflush)
  refine ⟨hislFlush, ?_, ?_, rfl, ?_⟩
  · show (flushRecords s1).nv = { s.nv with nand := (flushRecords s1).nv.nand }
    rw [hnvFlush, hs1, hnv]
  · exact (hflush.2 .now (by decide)).trans (honly.2 .now (by decide))
  · have hsame : AnewBut [.now, .free, .out, .nv, .isl, .upd, .ksp, .chk, .tlm, .sys, .dio] (flushRecords s1) (wentDark s) :=
      anewBut_of_reset (only_mk (s := { State.reset with pending := (flushRecords s1).pending }) only_refl)
    exact ⟨hflush.1.trans honly.1, hsame.2⟩

theorem dormantReached_of_none {s : State} (h : s.isl.wakeEarly = none) : dormantReached s = wentDark s := by
  have hisl : (wentDark s).isl.wakeEarly = none := by rw [(wentDark_kept s).1, ← h]
  show (match (wentDark s).isl.wakeEarly with | some c => wakeReset c (wentDark s) | none => wentDark s) = wentDark s
  rw [hisl]

theorem dormantReached_of_early {s : State} {cause : Word} (h : s.isl.wakeEarly = some cause) : dormantReached s = wakeReset cause (wentDark s) := by
  have hisl : (wentDark s).isl.wakeEarly = some cause := by rw [(wentDark_kept s).1, ← h]
  show (match (wentDark s).isl.wakeEarly with | some c => wakeReset c (wentDark s) | none => wentDark s) = wakeReset cause (wentDark s)
  rw [hisl]

theorem exists_next_dormantReached (s : State) (hup : s.up = true) (hentering : s.sys.entering = true) (hnone : s.isl.wakeEarly = none) :
    ∃ t, exec .dormantReached s = .next t ∧ t.sys.mode = .dormant ∧ t.isl.rtc = s.isl.rtc ∧ t.isl.wakeArmed = s.isl.wakeArmed ∧
      t.nv.slots = s.nv.slots ∧ t.nv.store = s.nv.store ∧ t.now = s.now ∧
      AnewBut [.now, .free, .out, .nv, .isl, .upd, .ksp, .chk, .tlm, .sys, .dio] s t := by
  obtain ⟨hisl, hnv, hnow, hmode, hanew⟩ := wentDark_kept s
  exact ⟨wentDark s, congrArg Host.Outcome.next ((if_pos (by rw [hup, hentering]; rfl)).trans (dormantReached_of_none hnone)), hmode, by rw [hisl], by rw [hisl],
    by rw [hnv], by rw [hnv], hnow, hanew⟩

theorem exists_next_dormantReached_early (s : State) (cause : Word) (hup : s.up = true) (hentering : s.sys.entering = true)
    (hearly : s.isl.wakeEarly = some cause) :
    ∃ t, exec .dormantReached s = .next t ∧ t.sys.mode = .boot ∧ t.isl.resetCause = 2 ∧ t.isl.wakeCause = cause ∧
      AnewBut [.now, .regs, .free, .out, .nv, .isl, .upd, .ksp, .chk, .tlm, .sys, .dio] s t := by
  obtain ⟨_, _, _, _, hdark⟩ := wentDark_kept s
  obtain ⟨hboot, hcause, hwakeCause, _, hanew⟩ := wakeReset_of_anew cause (s := s) (y := wentDark s)
  exact ⟨_, congrArg Host.Outcome.next ((if_pos (by rw [hup, hentering]; rfl)).trans (dormantReached_of_early hearly)), hboot, hcause, hwakeCause, hanew hdark.1⟩

/-- Settles O12, command by command. -/
theorem powerAndWake : Obligations.PowerAndWake :=
  ⟨exists_next_powerValid, exists_next_powerFail, exists_next_wake, exists_next_wakeEarly, exists_next_rtcAlarm, exists_next_rtcAlarm_dormant,
    exists_next_dormantReached, exists_next_dormantReached_early⟩

end Sys2Proof.Machine

namespace Sys2Proof.Machine

set_option Elab.async false

/-! ### Bytes of a lane's memory -/

theorem rdBytes_wrBytes (m : List (Nat × Byte)) (a : Nat) (bs : List Byte) (h : memWf m = true) : rdBytes (wrBytes m a bs) a bs.length = bs := by
  induction bs generalizing m a with
  | nil => rfl
  | cons b bs ih =>
    have hfirst : rdByte (wrBytes (wrByte m a b) (a + 1) bs) a = b := by
      rw [rdByte_wrBytes_out _ _ _ _ (Or.inl (Nat.lt_succ_self a)), rdByte_wrByte_self m a b h]
    show rdByte (wrBytes (wrByte m a b) (a + 1) bs) a :: rdBytes (wrBytes (wrByte m a b) (a + 1) bs) (a + 1) bs.length = b :: bs
    rw [hfirst, ih _ _ (memWf_wrByte m a b h)]

/-- A range of the DRAM or of the scratchpad reads back as it was written. -/
theorem rd_wr (m : LaneMem) (a : Nat) (bs : List Byte) (hdram : memWf m.dram = true) (hspad : memWf m.spad = true)
    (hrange : inDram a bs.length = true ∨ inSpad a bs.length = true) : (m.wr a bs).rd a bs.length = bs := by
  unfold LaneMem.rd LaneMem.wr
  by_cases hd : inDram a bs.length = true
  · rw [if_pos hd, if_pos hd]
    exact rdBytes_wrBytes _ _ _ hdram
  · have hs : inSpad a bs.length = true := hrange.resolve_left hd
    rw [if_neg hd, if_pos hs, if_neg hd, if_pos hs]
    exact rdBytes_wrBytes _ _ _ hspad

theorem length_identitySign (s : State) (msg : List Byte) : (s.identitySign msg).length = 512 := by
  unfold State.identitySign
  split
  · rw [List.length_take, List.length_append, List.length_replicate]
    omega
  · exact List.length_replicate

/-! ### What a lane has to itself -/

theorem laneKey_ne {l k : Lane} {o o' : Nat} (hne : l ≠ k) (ho : o < 16777216) (ho' : o' < 16777216) : laneKey l o ≠ laneKey k o' := by
  have hidx : l.idx ≠ k.idx := by
    revert hne
    cases l <;> cases k <;> decide
  unfold laneKey
  omega

theorem laneKey_ne_of_offset {l : Lane} {o o' : Nat} (hne : o ≠ o') : laneKey l o ≠ laneKey l o' := by
  unfold laneKey
  omega

/-- What an operation of another lane's SEC engine leaves to lane `l`. -/
def SecKept (l : Lane) (s t : State) : Prop :=
  t.secs.get l = s.secs.get l ∧ t.mem l = s.mem l ∧ t.icu l = s.icu l ∧ (∀ o < 16777216, t.reg (laneKey l o) = s.reg (laneKey l o)) ∧ t.nv = s.nv ∧
    (RegsWf s → RegsWf t)

theorem secKept_refl (l : Lane) (s : State) : SecKept l s s := ⟨rfl, rfl, rfl, fun _ _ => rfl, rfl, fun h => h⟩

theorem secKept_trans {l : Lane} {s t u : State} (h1 : SecKept l s t) (h2 : SecKept l t u) : SecKept l s u := by
  obtain ⟨hsec, hmem, hicu, hreg, hnv, hwf⟩ := h1
  obtain ⟨hsec', hmem', hicu', hreg', hnv', hwf'⟩ := h2
  exact ⟨hsec'.trans hsec, hmem'.trans hmem, hicu'.trans hicu, fun o ho => (hreg' o ho).trans (hreg o ho), hnv'.trans hnv, fun h => hwf' (hwf h)⟩

theorem assertAt_icus (l : Lane) (id : Nat) (s : State) : ∃ cfg, (assertAt l id s).icus = s.icus.modify l (Icu.assert cfg id) := ⟨_, rfl⟩

theorem bumpLane_regs_congr {l : Lane} {o : Nat} {s t : State} (h : t.regs = s.regs) : (bumpLane l o t).regs = (bumpLane l o s).regs := by
  unfold bumpLane bump bumpBy setReg
  rw [reg_congr s t _ h, h]

theorem secEnds_parts (k : Lane) (o : Nat) (f : Sec → Sec) (s : State) :
    (setSec k f s |> bumpLane k o |> assertAt k Irq.SEC_DONE).regs = (bumpLane k o s).regs ∧
      (setSec k f s |> bumpLane k o |> assertAt k Irq.SEC_DONE).secs = s.secs.modify k f ∧
      (setSec k f s |> bumpLane k o |> assertAt k Irq.SEC_DONE).mems = s.mems ∧
      ∃ cfg, (setSec k f s |> bumpLane k o |> assertAt k Irq.SEC_DONE).icus = s.icus.modify k (Icu.assert cfg Irq.SEC_DONE) :=
  ⟨by rw [assertAt_regs]; exact bumpLane_regs_congr rfl, by rw [assertAt_secs, bumpLane_secs]; rfl, by rw [assertAt_mems, bumpLane_mems]; rfl,
    by
      obtain ⟨cfg, h⟩ := assertAt_icus k Irq.SEC_DONE (setSec k f s |> bumpLane k o)
      exact ⟨cfg, by rw [h, bumpLane_icus]; rfl⟩⟩

theorem secEnds_regs (k : Lane) (state cause : Nat) (valid : Bool) (s : State) :
    (secEnds k state valid cause s).regs = (bumpLane k (if state = 2 then Off.SEC_OP_CNT else Off.SEC_REJECT_CNT) s).regs :=
  (secEnds_parts k _ _ s).1

theorem secEnds_secs (k : Lane) (state cause : Nat) (valid : Bool) (s : State) :
    (secEnds k state valid cause s).secs = s.secs.modify k fun x => ⟨state, valid, cause, x.seq + 1⟩ := (secEnds_parts k _ _ s).2.1

theorem secEnds_mems (k : Lane) (state cause : Nat) (valid : Bool) (s : State) : (secEnds k state valid cause s).mems = s.mems :=
  (secEnds_parts k _ _ s).2.2.1

theorem secEnds_icus (k : Lane) (state cause : Nat) (valid : Bool) (s : State) :
    ∃ cfg, (secEnds k state valid cause s).icus = s.icus.modify k (Icu.assert cfg Irq.SEC_DONE) := (secEnds_parts k _ _ s).2.2.2

theorem secKept_secEnds {l k : Lane} {state cause : Nat} {valid : Bool} {s : State} (hne : l ≠ k) :
    SecKept l s (secEnds k state valid cause s) := by
  obtain ⟨cfg, hicus⟩ := secEnds_icus k state cause valid s
  refine ⟨?_, congrArg (Tri.get · l) (secEnds_mems k state cause valid s), ?_, fun o ho => ?_, ?_, fun h => ?_⟩
  · rw [secEnds_secs, get_modify_ne _ _ _ _ hne]
  · rw [State.icu, hicus, get_modify_ne _ _ _ _ hne]
    rfl
  · rw [reg_congr _ _ _ (secEnds_regs k state cause valid s)]
    refine reg_bump_ne _ _ _ (laneKey_ne hne ho ?_)
    split <;> decide
  · exact (only_secEnds (P := [.regs, .icus, .secs]) only_refl).2 .nv (by decide)
  · rw [RegsWf, secEnds_regs]
    exact regsWf_bump _ _ h

theorem secKept_ite {l : Lane} {c : Prop} [Decidable c] {s t u : State} (ht : SecKept l s t) (hu : SecKept l s u) : SecKept l s (if c then t else u) := by
  split
  · exact ht
  · exact hu

theorem secKept_wrLane {l k : Lane} {addr : Nat} {bs : List Byte} {s : State} (hne : l ≠ k) : SecKept l s (wrLane k addr bs s) :=
  ⟨rfl, get_modify_ne _ _ _ _ hne, rfl, fun _ _ => rfl, rfl, fun h => h⟩

theorem secKept_secOp {l k : Lane} {v : Word} {s : State} (hne : l ≠ k) : SecKept l s (secOp k v s) := by
  have hends : ∀ state valid cause, SecKept l s (secEnds k state valid cause s) := fun _ _ _ => secKept_secEnds hne
  have hwrite : ∀ addr bs, SecKept l s (secEnds k 2 false 0 (wrLane k addr bs s)) := fun _ _ => secKept_trans (secKept_wrLane hne) (secKept_secEnds hne)
  exact secKept_ite (hends ..) (secKept_ite (hends ..) (secKept_ite (hends ..) (secKept_ite (hends ..) (secKept_ite (hends ..)
    (secKept_ite (hwrite ..) (secKept_ite (hends ..) (hwrite ..)))))))

theorem secKept_foldl {l : Lane} {v : Word} (ls : List Lane) (s : State) (h : l ∉ ls) : SecKept l s (ls.foldl (fun s k => secOp k v s) s) := by
  induction ls generalizing s with
  | nil => exact secKept_refl l s
  | cons k ks ih =>
    obtain ⟨hne, hks⟩ := not_or.mp (mt List.mem_cons.mpr h)
    exact secKept_trans (secKept_secOp hne) (ih _ hks)

theorem nodup_lanesIn (s : State) : s.lanesIn.Nodup := List.Nodup.filter _ (by decide)

/-- Of the lanes' operations one is lane `l`'s own; the others leave it alone. -/
theorem exists_secAll (l : Lane) (v : Word) (s : State) (hin : s.inVote l = true) :
    ∃ s', SecKept l s s' ∧ SecKept l (secOp l v s') (secAll v s) := by
  obtain ⟨before, after, hsplit⟩ := List.append_of_mem ((mem_lanesIn s l).mpr hin)
  have hnodup := nodup_lanesIn s
  rw [hsplit, List.nodup_append] at hnodup
  obtain ⟨_, hafter, hdisjoint⟩ := hnodup
  have hbefore : l ∉ before := fun h => hdisjoint l h l List.mem_cons_self rfl
  refine ⟨before.foldl (fun s k => secOp k v s) s, secKept_foldl before s hbefore, ?_⟩
  unfold secAll
  rw [hsplit, List.foldl_append, List.foldl_cons]
  exact secKept_foldl after _ (List.nodup_cons.mp hafter).1

theorem secKept_secAll (l : Lane) (v : Word) (s : State) (hout : s.inVote l = false) : SecKept l s (secAll v s) :=
  secKept_foldl _ s fun h => by
    rw [mem_lanesIn, hout] at h
    exact absurd h Bool.false_ne_true

/-! ### An operation of the engine (Table 17.17) -/

/-- The engine's status and its interrupt; the memory is untouched. -/
theorem secEnds_lane (l : Lane) (state cause : Nat) (valid : Bool) (s : State) :
    (secEnds l state valid cause s).secs.get l = ⟨state, valid, cause, (s.secs.get l).seq + 1⟩ ∧ (secEnds l state valid cause s).mem l = s.mem l ∧
      Irq.SEC_DONE ∈ ((secEnds l state valid cause s).icu l).pend := by
  obtain ⟨cfg, hicus⟩ := secEnds_icus l state cause valid s
  refine ⟨by rw [secEnds_secs, get_modify_self], congrArg (Tri.get · l) (secEnds_mems l state cause valid s), ?_⟩
  rw [State.icu, hicus, get_modify_self]
  exact mem_pend_assert _ _ _ (by decide)

theorem secEnds_rejected (l : Lane) (cause : Nat) (s : State) (hwf : RegsWf s) :
    (secEnds l 3 false cause s).reg (laneKey l Off.SEC_REJECT_CNT) = s.reg (laneKey l Off.SEC_REJECT_CNT) + 1 ∧
      (secEnds l 3 false cause s).reg (laneKey l Off.SEC_OP_CNT) = s.reg (laneKey l Off.SEC_OP_CNT) := by
  have hmask : regMask (laneKey l Off.SEC_REJECT_CNT) = BitVec.allOnes 32 := by
    cases l <;> decide
  rw [reg_congr _ _ _ (secEnds_regs l 3 cause false s), reg_congr _ _ (laneKey l Off.SEC_OP_CNT) (secEnds_regs l 3 cause false s)]
  exact ⟨reg_bump_unmasked _ _ hwf hmask, reg_bump_ne _ _ _ (laneKey_ne_of_offset (by decide))⟩

theorem secEnds_done (l : Lane) (valid : Bool) (s : State) (hwf : RegsWf s) :
    (secEnds l 2 valid 0 s).reg (laneKey l Off.SEC_OP_CNT) = s.reg (laneKey l Off.SEC_OP_CNT) + 1 ∧
      (secEnds l 2 valid 0 s).reg (laneKey l Off.SEC_REJECT_CNT) = s.reg (laneKey l Off.SEC_REJECT_CNT) := by
  have hmask : regMask (laneKey l Off.SEC_OP_CNT) = BitVec.allOnes 32 := by
    cases l <;> decide
  rw [reg_congr _ _ _ (secEnds_regs l 2 0 valid s), reg_congr _ _ (laneKey l Off.SEC_REJECT_CNT) (secEnds_regs l 2 0 valid s)]
  exact ⟨reg_bump_unmasked _ _ hwf hmask, reg_bump_ne _ _ _ (laneKey_ne_of_offset (by decide))⟩

/-- The three commands are one operation in every lane in vote. -/
theorem exec_sec {s : State} {c : Instr} {v : Word} {op n : Nat} (hup : s.up = true) (hop : op = fld v 0 4)
    (hc : c = .secSha512 v ∧ op = 1 ∧ n = 64 ∨ c = .secVerifyPss v ∧ op = 2 ∧ n = 512 ∨ c = .secSignApp v ∧ op = 3 ∧ n = 512) :
    exec c s = .next (secAll v s) ∧ n = (if op = 1 then 64 else 512) ∧ 1 ≤ op ∧ op ≤ 3 := by
  subst hop
  obtain ⟨rfl, h, rfl⟩ | ⟨rfl, h, rfl⟩ | ⟨rfl, h, rfl⟩ := hc
  · exact ⟨congrArg Host.Outcome.next (if_pos (by rw [hup, h]; rfl)), by rw [h]; rfl, by omega, by omega⟩
  · exact ⟨congrArg Host.Outcome.next (if_pos (by rw [hup, h]; rfl)), by rw [h]; rfl, by omega, by omega⟩
  · exact ⟨congrArg Host.Outcome.next (if_pos (by rw [hup, h]; rfl)), by rw [h]; rfl, by omega, by omega⟩

theorem exec_sec_out (s : State) (c : Instr) (v : Word) (l : Lane) (op n : Nat) (hup : s.up = true) (hop : op = fld v 0 4)
    (hc : c = .secSha512 v ∧ op = 1 ∧ n = 64 ∨ c = .secVerifyPss v ∧ op = 2 ∧ n = 512 ∨ c = .secSignApp v ∧ op = 3 ∧ n = 512) (hout : s.inVote l = false) :
    ∃ t, exec c s = .next t ∧ t.secs.get l = s.secs.get l ∧ t.mem l = s.mem l ∧ t.icu l = s.icu l ∧
      (∀ o ∈ [Off.SEC_OP_CNT, Off.SEC_REJECT_CNT], t.reg (laneKey l o) = s.reg (laneKey l o)) := by
  obtain ⟨hsec, hmem, hicu, hreg, _⟩ := secKept_secAll l v s hout
  have hoffs : ∀ o ∈ [Off.SEC_OP_CNT, Off.SEC_REJECT_CNT], o < 16777216 := by decide
  exact ⟨secAll v s, (exec_sec hup hop hc).1, hsec, hmem, hicu, fun o ho => hreg o (hoffs o ho)⟩

/-- The operands of lane `l` are those it had before the other lanes' operations. -/
theorem sec_operands {l : Lane} {s s' : State} (h : SecKept l s s') :
    s'.pair40 l Off.SEC_SRC_LO = s.pair40 l Off.SEC_SRC_LO ∧ s'.pair40 l Off.SEC_DST_LO = s.pair40 l Off.SEC_DST_LO ∧
      s'.reg (laneKey l Off.SEC_LEN) = s.reg (laneKey l Off.SEC_LEN) ∧ (∀ k, s'.signKey k = s.signKey k) ∧ ∀ m, s'.identitySign m = s.identitySign m := by
  obtain ⟨_, _, _, hreg, hnv, _⟩ := h
  unfold State.pair40 State.signKey State.publicKey State.identitySign
  rw [hreg _ (by decide), hreg _ (by decide), hreg _ (by decide), hreg _ (by decide), hreg _ (by decide), hnv]
  exact ⟨rfl, rfl, rfl, fun _ => rfl, fun _ => rfl⟩

/-- An operation that has what it needs: SHA-512, a verification with its key, a signature with identity and a valid secure memory. -/
theorem sec_key_found {s : State} {l : Lane} {op k : Nat}
    (h : op = 1 ∨ op = 2 ∧ s.signKey k ≠ none ∨ op = 3 ∧ s.nv.identity ≠ none ∧ (s.mem l).secure = .valid) :
    ¬ (decide (op = 2) && (s.signKey k).isNone || decide (op = 3) && s.nv.identity.isNone) = true := by
  obtain rfl | ⟨rfl, hkey⟩ | ⟨rfl, hid, _⟩ := h
  · exact Bool.false_ne_true
  · simpa using hkey
  · simpa using hid

theorem sec_not_locked {s : State} {l : Lane} {op k : Nat}
    (h : op = 1 ∨ op = 2 ∧ s.signKey k ≠ none ∨ op = 3 ∧ s.nv.identity ≠ none ∧ (s.mem l).secure = .valid) :
    ¬ (decide (op = 3) && (s.mem l).secure != .valid) = true := by
  obtain rfl | ⟨rfl, _⟩ | ⟨rfl, _, hvalid⟩ := h
  · exact Bool.false_ne_true
  · exact Bool.false_ne_true
  · rw [hvalid]
    exact Bool.false_ne_true

theorem regs_secEnds {R : List Nat} {b s : State} {l : Lane} {state cause : Nat} {valid : Bool} (h : RegsOnly R b s)
    (hR : ∀ o ∈ [Off.SEC_OP_CNT, Off.SEC_REJECT_CNT], o ∈ R := by decide) : RegsOnly R b (secEnds l state valid cause s) := by
  refine regs_of_only (P := [.icus]) (regs_bumpLane (regs_of_only (P := [.secs]) h (only_mk only_refl)) ?_) (only_assertAt only_refl)
  split
  · exact ⟨by decide, hR _ (by decide)⟩
  · exact ⟨by decide, hR _ (by decide)⟩

theorem regs_secOp {R : List Nat} {b s : State} {l : Lane} {v : Word} (h : RegsOnly R b s)
    (hR : ∀ o ∈ [Off.SEC_OP_CNT, Off.SEC_REJECT_CNT], o ∈ R := by decide) : RegsOnly R b (secOp l v s) :=
  have hends {state valid cause} : RegsOnly R b (secEnds l state valid cause s) := regs_secEnds h hR
  have hwrite {addr bs state valid cause} : RegsOnly R b (secEnds l state valid cause (wrLane l addr bs s)) :=
    regs_secEnds (regs_of_only (P := [.mems]) h (only_wrLane only_refl)) hR
  regs_ite hends (regs_ite hends (regs_ite hends (regs_ite hends (regs_ite hends (regs_ite hwrite (regs_ite hends hwrite))))))

theorem regs_secAll {R : List Nat} {b s : State} {v : Word} (h : RegsOnly R b s)
    (hR : ∀ o ∈ [Off.SEC_OP_CNT, Off.SEC_REJECT_CNT], o ∈ R := by decide) : RegsOnly R b (secAll v s) :=
  regs_foldl (fun _ _ h => regs_secOp h hR) h

theorem exists_next_sec_rejected (s : State) (c : Instr) (v : Word) (l : Lane) (op n src dst len cause : Nat) (hwf : RegsWf s) (hup : s.up = true)
    (hop : op = fld v 0 4)
    (hc : c = .secSha512 v ∧ op = 1 ∧ n = 64 ∨ c = .secVerifyPss v ∧ op = 2 ∧ n = 512 ∨ c = .secSignApp v ∧ op = 3 ∧ n = 512)
    (hsrc : src = s.pair40 l Off.SEC_SRC_LO) (hdst : dst = s.pair40 l Off.SEC_DST_LO) (hlen : len = fld (s.reg (laneKey l Off.SEC_LEN)) 0 25)
    (hin : s.inVote l = true)
    (hcause : fld v 16 16 ≠ 0x5345 ∧ cause = 1 ∨ fld v 16 16 = 0x5345 ∧
      (op = 2 ∧ s.signKey (fld v 8 2) = none ∧ cause = 3 ∨ op = 3 ∧ s.nv.identity = none ∧ cause = 3 ∨
       op = 3 ∧ s.nv.identity ≠ none ∧ (s.mem l).secure ≠ .valid ∧ cause = 4 ∨
       (op = 1 ∨ op = 2 ∧ s.signKey (fld v 8 2) ≠ none ∨ op = 3 ∧ s.nv.identity ≠ none ∧ (s.mem l).secure = .valid) ∧
         (secRange src len = false ∨ secRange dst n = false ∨ 16777216 < len) ∧ cause = 5)) :
    ∃ t, exec c s = .next t ∧ t.secs.get l = ⟨3, false, cause, (s.secs.get l).seq + 1⟩ ∧ t.mem l = s.mem l ∧ Irq.SEC_DONE ∈ (t.icu l).pend ∧
      t.reg (laneKey l Off.SEC_REJECT_CNT) = s.reg (laneKey l Off.SEC_REJECT_CNT) + 1 ∧ t.reg (laneKey l Off.SEC_OP_CNT) = s.reg (laneKey l Off.SEC_OP_CNT) ∧
      RegsOnly [Off.SEC_OP_CNT, Off.SEC_REJECT_CNT] s t ∧ OnlyIn [.regs, .icus, .mems, .secs] s t := by
  obtain ⟨hexec, hn, hge, hle⟩ := exec_sec hup hop hc
  obtain ⟨s', hbefore, hafter⟩ := exists_secAll l v s hin
  obtain ⟨hsrc', hdst', hlen', hkey, _⟩ := sec_operands hbefore
  obtain ⟨hsec, hmem, hicu, hreg, hnv, hwf'⟩ := hbefore
  have hmems : s'.mems.get l = s.mem l := hmem
  have hends : secOp l v s' = secEnds l 3 false cause s' := by
    unfold secOp
    rw [hsrc', hdst', hlen', hmems, hkey, hnv, ← hsrc, ← hdst, ← hlen, ← hop]
    dsimp only
    rw [← hn]
    obtain ⟨hk, rfl⟩ | ⟨hk, hrest⟩ := hcause
    · rw [if_pos (by simpa using hk)]
    · rw [if_neg (by simp [hk]), if_neg (by simp; omega)]
      obtain ⟨h2, hnone, rfl⟩ | ⟨h3, hnone, rfl⟩ | ⟨h3, hsome, hinvalid, rfl⟩ | ⟨hok, hrange, rfl⟩ := hrest
      · rw [if_pos (by simp [h2, hnone])]
      · rw [if_pos (by simp [h3, hnone])]
      · rw [if_neg (by simp [h3, Option.isNone_iff_eq_none, hsome]), if_pos (by simp [h3, hinvalid])]
      · rw [if_neg (sec_key_found hok), if_neg (sec_not_locked hok), if_pos (by simpa [or_assoc] using hrange)]
  have hwfs := hwf' hwf
  obtain ⟨hs, hm, hi⟩ := secEnds_lane l 3 cause false s'
  obtain ⟨hrej, hops⟩ := secEnds_rejected l cause s' hwfs
  rw [hends] at hafter
  obtain ⟨hsecA, hmemA, hicuA, hregA, _⟩ := hafter
  refine ⟨secAll v s, hexec, by rw [hsecA, hs, hsec], by rw [hmemA, hm, hmem], by rw [hicuA]; exact hi, ?_, ?_, regs_secAll regs_refl, only_secAll only_refl⟩
  · rw [hregA _ (by decide), hrej, hreg _ (by decide)]
  · rw [hregA _ (by decide), hops, hreg _ (by decide)]

theorem exists_next_sec_done (s : State) (c : Instr) (v : Word) (l : Lane) (op n src dst len : Nat) (hwf : RegsWf s) (hmwf : MemsWf s) (hup : s.up = true)
    (hop : op = fld v 0 4)
    (hc : c = .secSha512 v ∧ op = 1 ∧ n = 64 ∨ c = .secVerifyPss v ∧ op = 2 ∧ n = 512 ∨ c = .secSignApp v ∧ op = 3 ∧ n = 512)
    (hsrc : src = s.pair40 l Off.SEC_SRC_LO) (hdst : dst = s.pair40 l Off.SEC_DST_LO) (hlen : len = fld (s.reg (laneKey l Off.SEC_LEN)) 0 25)
    (hin : s.inVote l = true) (hkey : fld v 16 16 = 0x5345) (hsrcOk : secRange src len = true) (hdstOk : secRange dst n = true) (hlenOk : len ≤ 16777216)
    (hok : op = 1 ∨ op = 2 ∧ s.signKey (fld v 8 2) ≠ none ∨ op = 3 ∧ s.nv.identity ≠ none ∧ (s.mem l).secure = .valid) :
    ∃ t, exec c s = .next t ∧ (t.secs.get l).state = 2 ∧ (t.secs.get l).cause = 0 ∧ (t.secs.get l).seq = (s.secs.get l).seq + 1 ∧ Irq.SEC_DONE ∈ (t.icu l).pend ∧
      t.reg (laneKey l Off.SEC_OP_CNT) = s.reg (laneKey l Off.SEC_OP_CNT) + 1 ∧ t.reg (laneKey l Off.SEC_REJECT_CNT) = s.reg (laneKey l Off.SEC_REJECT_CNT) ∧
      (op = 1 → (t.mem l).rd dst 64 = beBytes 64 (Config.sha512 ((s.mem l).rd src len)).toNat ∧ (t.secs.get l).valid = false) ∧
      (op = 2 → t.mem l = s.mem l ∧
        (t.secs.get l).valid = ((s.signKey (fld v 8 2)).map fun k => Config.pssVerify k ((s.mem l).rd src len) ((s.mem l).rd dst 512)).getD false) ∧
      (op = 3 → (t.mem l).rd dst 512 = s.identitySign (signPrefix ++ (s.mem l).rd src len) ∧ (t.secs.get l).valid = false) ∧
      RegsOnly [Off.SEC_OP_CNT, Off.SEC_REJECT_CNT] s t ∧ OnlyIn [.regs, .icus, .mems, .secs] s t := by
  obtain ⟨hexec, hn, hge, hle⟩ := exec_sec hup hop hc
  obtain ⟨s', hbefore, hafter⟩ := exists_secAll l v s hin
  obtain ⟨hsrc', hdst', hlen', hkey', hsign⟩ := sec_operands hbefore
  obtain ⟨hsec, hmem, hicu, hreg, hnv, hwf'⟩ := hbefore
  have hmems : s'.mems.get l = s.mem l := hmem
  have hgo : secOp l v s' = if op = 1 then secEnds l 2 false 0 (wrLane l dst (beBytes 64 (Config.sha512 ((s.mem l).rd src len)).toNat) s')
      else if op = 2 then
        secEnds l 2 (((s.signKey (fld v 8 2)).map fun k => Config.pssVerify k ((s.mem l).rd src len) ((s.mem l).rd dst 512)).getD false) 0 s'
      else secEnds l 2 false 0 (wrLane l dst (s.identitySign (signPrefix ++ (s.mem l).rd src len)) s') := by
    unfold secOp
    rw [hsrc', hdst', hlen', hmems, hkey', hnv, ← hsrc, ← hdst, ← hlen, ← hop]
    dsimp only
    rw [← hn, hsign, if_neg (by simp [hkey]), if_neg (by simp; omega), if_neg (sec_key_found hok), if_neg (sec_not_locked hok),
      if_neg (by simp [hsrcOk, hdstOk, hlenOk])]
  -- a step that leaves memory `m` and ends with `valid`
  have hdone : ∀ (valid : Bool) (u : State), SecKept l (secEnds l 2 valid 0 u) (secAll v s) → RegsWf u → u.secs = s'.secs → u.regs = s'.regs →
      (secAll v s).secs.get l = ⟨2, valid, 0, (s.secs.get l).seq + 1⟩ ∧ (secAll v s).mem l = u.mem l ∧ Irq.SEC_DONE ∈ ((secAll v s).icu l).pend ∧
      (secAll v s).reg (laneKey l Off.SEC_OP_CNT) = s.reg (laneKey l Off.SEC_OP_CNT) + 1 ∧
      (secAll v s).reg (laneKey l Off.SEC_REJECT_CNT) = s.reg (laneKey l Off.SEC_REJECT_CNT) := by
    intro valid u hu hwfu hsecs hregs
    obtain ⟨hs, hm, hi⟩ := secEnds_lane l 2 0 valid u
    obtain ⟨hops, hrej⟩ := secEnds_done l valid u hwfu
    obtain ⟨hsecA, hmemA, hicuA, hregA, _⟩ := hu
    have hreg' : ∀ k, u.reg k = s'.reg k := fun k => reg_congr _ _ k hregs
    refine ⟨by rw [hsecA, hs, hsecs, hsec], by rw [hmemA, hm], by rw [hicuA]; exact hi, ?_, ?_⟩
    · rw [hregA _ (by decide), hops, hreg', hreg _ (by decide)]
    · rw [hregA _ (by decide), hrej, hreg', hreg _ (by decide)]
  obtain ⟨hwfDram, hwfSpad⟩ := hmwf l
  have hwrote : ∀ bs : List Byte, bs.length = n → ((wrLane l dst bs s').mem l).rd dst n = bs := by
    intro bs hbs
    have hrange : inDram dst bs.length = true ∨ inSpad dst bs.length = true := by
      rw [hbs]
      unfold secRange at hdstOk
      unfold inDram inSpad
      simp only [Bool.or_eq_true, Bool.and_eq_true, decide_eq_true_eq] at hdstOk ⊢
      omega
    have hmem' : (wrLane l dst bs s').mem l = (s.mem l).wr dst bs := by
      unfold wrLane State.mem
      rw [get_modify_self, hmems]
      rfl
    rw [hmem', ← hbs]
    exact rd_wr _ _ _ hwfDram hwfSpad hrange
  rw [hgo] at hafter
  have hframe : RegsOnly [Off.SEC_OP_CNT, Off.SEC_REJECT_CNT] s (secAll v s) ∧ OnlyIn [.regs, .icus, .mems, .secs] s (secAll v s) :=
    ⟨regs_secAll regs_refl, only_secAll only_refl⟩
  refine ⟨secAll v s, hexec, ?_⟩
  obtain h1 | h2 | h3 : op = 1 ∨ op = 2 ∨ op = 3 := by omega
  · rw [if_pos h1] at hafter
    obtain ⟨hs, hm, hi, ho, hr⟩ := hdone false _ hafter (hwf' hwf) rfl rfl
    rw [hs, hm]
    obtain rfl : n = 64 := by rw [hn, if_pos h1]
    exact ⟨rfl, rfl, rfl, hi, ho, hr, fun _ => ⟨hwrote _ (Tests.beBytes_len _ _), rfl⟩, fun h => absurd h (by omega), fun h => absurd h (by omega), hframe⟩
  · rw [if_neg (by omega), if_pos h2] at hafter
    obtain ⟨hs, hm, hi, ho, hr⟩ := hdone _ _ hafter (hwf' hwf) rfl rfl
    rw [hs, hm]
    exact ⟨rfl, rfl, rfl, hi, ho, hr, fun h => absurd h (by omega), fun _ => ⟨hmem, rfl⟩, fun h => absurd h (by omega), hframe⟩
  · rw [if_neg (by omega), if_neg (by omega)] at hafter
    obtain ⟨hs, hm, hi, ho, hr⟩ := hdone false _ hafter (hwf' hwf) rfl rfl
    rw [hs, hm]
    obtain rfl : n = 512 := by rw [hn, if_neg (by omega)]
    exact ⟨rfl, rfl, rfl, hi, ho, hr, fun h => absurd h (by omega), fun h => absurd h (by omega),
      fun _ => ⟨hwrote _ (length_identitySign _ _), rfl⟩, hframe⟩

/-! ### The random number register (Table 17.14) -/

theorem exists_next_rngRead (s : State) (l : Lane) (core : Nat) (hup : s.up = true) (hin : s.inVote l = true) :
    ∃ t, exec (.updRngRead l core) s = .next t ∧ t.vot = s.vot.answered core (Config.freeWord s.free) false ∧ t.free = s.free + 1 ∧
      OnlyIn [.free, .vot] s t := by
  refine ⟨rngRead core s, congrArg Host.Outcome.next (if_pos (by rw [hup, hin]; rfl)), answerAll_vot core _ false (fresh s).2, ?_, only_rngRead only_refl⟩
  exact (onlyIn_answerAll core (Config.freeWord s.free) false (fresh s).2).2 .free (by decide)

/-- Settles O57, command by command. -/
theorem secEngines : Obligations.SecEngines :=
  ⟨fun s c v l op n src dst len hwf hmwf hup hop hc hsrc hdst hlen =>
    ⟨exec_sec_out s c v l op n hup hop hc,
      fun cause hin => exists_next_sec_rejected s c v l op n src dst len cause hwf hup hop hc hsrc hdst hlen hin,
      exists_next_sec_done s c v l op n src dst len hwf hmwf hup hop hc hsrc hdst hlen⟩,
    exists_next_rngRead⟩

end Sys2Proof.Machine

namespace Sys2Proof.Machine

set_option Elab.async false

/-! ### Requests that wait for their boundary (R13, R326) -/

theorem shadowWrite_of_none {key : Nat} {v : Word} {s : State} (h : s.pendingAt key = none) :
    shadowWrite key v s = { s with shadows := s.shadows ++ [⟨key, v, none⟩] } := by
  have hfind : (s.shadows.find? fun x => x.key == key) = none := Option.map_eq_none_iff.mp h
  unfold shadowWrite
  rw [hfind]

theorem pendingAt_shadowWrite_of_none {key : Nat} {v : Word} {s : State} (h : s.pendingAt key = none) : (shadowWrite key v s).pendingAt key = some v := by
  have hfind : (s.shadows.find? fun x => x.key == key) = none := Option.map_eq_none_iff.mp h
  rw [shadowWrite_of_none h, State.pendingAt]
  dsimp only
  rw [List.find?_append, hfind, Option.none_or, List.find?_singleton, beq_self_eq_true, if_pos rfl]
  rfl

theorem shadowWrite_of_pending {key : Nat} {v p : Word} {s : State} (h : (s.shadows.find? fun x => x.key == key) = some ⟨key, p, none⟩) :
    shadowWrite key v s = { s with shadows := s.shadows.map fun y => if y.key == key then { y with held := some v } else y } := by
  unfold shadowWrite
  rw [h]
  rfl

/-- A list whose entries of one key get a held value finds it at the first of them. -/
theorem find_held {l : List Shadow} {key : Nat} {v p : Word} {held : Option Word} (h : (l.find? fun x => x.key == key) = some ⟨key, p, held⟩) :
    ((l.map fun y => if y.key == key then { y with held := some v } else y).find? fun x => x.key == key) = some ⟨key, p, some v⟩ := by
  induction l with
  | nil => exact absurd h (by simp)
  | cons x xs ih =>
    by_cases hx : (x.key == key) = true
    · rw [List.find?_cons_of_pos (p := fun y : Shadow => y.key == key) hx, Option.some.injEq] at h
      subst h
      simp
    · rw [List.find?_cons_of_neg (p := fun y : Shadow => y.key == key) hx] at h
      rw [List.map_cons, if_neg hx, List.find?_cons_of_neg (p := fun y : Shadow => y.key == key) hx]
      exact ih h

/-! ### The status of a request that waits (Table 2.11) -/

theorem reqStatus_waits (req : Nat) (s : State) : reqStatus 1 0 req s = setReg Off.SYS_MODE_REQ_STATUS (modeBusy (s.reg Off.SYS_MODE_REQ_STATUS)) s := rfl

/-- A request that waits shows in its status word alone, beside the value that waits. -/
theorem reqStatus_waiting {req : Nat} {s u : State} (hwf : RegsWf s) (hu : OnlyIn [.shadows] s u) :
    (reqStatus 1 0 req u).reg Off.SYS_MODE_REQ_STATUS = modeBusy (s.reg Off.SYS_MODE_REQ_STATUS) ∧
      RegsOnly [Off.SYS_MODE_REQ_STATUS] s (reqStatus 1 0 req u) ∧ OnlyIn [.regs, .shadows] s (reqStatus 1 0 req u) := by
  rw [reqStatus_waits]
  refine ⟨?_, regs_setReg (regs_of_only regs_refl hu), only_setReg (onlyIn_mono hu (by decide))⟩
  rw [reg_setReg_unmasked _ _ _ (regsWf_of_only hwf hu) (by decide), reg_of_only _ hu]

/-! ### How a request with the key ends (R64, R65) -/

theorem modeReqOp_of_key {req : Nat} {s : State} (hreq : req = 1 ∨ req = 4 ∨ req = 6) :
    modeReqOp (reqWord 0x4D51 req) s =
      if (s.pendingAt reqKey).isSome then s |> shadowWrite reqKey (reqWord 0x4D51 req) |> reqStatus 1 0 req
      else match s.reqFate req with
        | .reject c => reqReject c req s
        | .done => s |> setReg Off.SYS_MODE_REQ (BitVec.ofNat 32 req) |> reqStatus 2 0 req
        | .due => s |> shadowWrite reqKey (reqWord 0x4D51 req) |> reqStatus 1 0 req := by
  unfold modeReqOp
  rw [fld_reqWord_key _ _ (by omega), fld_reqWord_req _ _ (by omega)]
  dsimp only
  have hcode : (req != 1 && req != 4 && req != 6) = false := by
    obtain rfl | rfl | rfl := hreq
    · rfl
    · rfl
    · rfl
  rw [hcode]
  rfl

theorem modeReqOp_of_fate {req : Nat} {s : State} (hreq : req = 1 ∨ req = 4 ∨ req = 6) (hnone : s.pendingAt reqKey = none) :
    modeReqOp (reqWord 0x4D51 req) s = match s.reqFate req with
      | .reject c => reqReject c req s
      | .done => s |> setReg Off.SYS_MODE_REQ (BitVec.ofNat 32 req) |> reqStatus 2 0 req
      | .due => s |> shadowWrite reqKey (reqWord 0x4D51 req) |> reqStatus 1 0 req := by
  rw [modeReqOp_of_key hreq, hnone]
  rfl

theorem running_held (s : State) : ¬ (s.running = true ∧ s.held = true) := by
  unfold State.running State.held
  cases s.sys.mode <;> decide

/-- The requests that wait for their boundary. -/
theorem reqFate_due {s : State} {req : Nat} (hentering : s.sys.entering = false)
    (h : req = 1 ∧ (s.running ∨ s.held) ∨ req = 6 ∧ s.running ∨
      req = 4 ∧ s.held ∧ s.sys.active &&& 0xBB = 0 ∧ s.sys.cpfValid = true ∧ (s.ftnNode = true → s.ftn.su = .integrated)) : s.reqFate req = .due := by
  have hexcl := running_held s
  unfold State.reqFate
  obtain ⟨rfl, hmode⟩ | ⟨rfl, hmode⟩ | ⟨rfl, hmode, hactive, hcpf, hnet⟩ := h
  · have hany : (s.running || s.held) = true := (Bool.or_eq_true _ _).mpr hmode
    rw [if_neg (by rw [hentering, hany]; exact Bool.false_ne_true)]
    rfl
  · have hheld : s.held = false := by simpa [hmode] using hexcl
    rw [if_neg (by rw [hentering, hmode, hheld]; exact Bool.false_ne_true), hheld]
    rfl
  · have hrun : s.running = false := by simpa [hmode] using hexcl
    have hsu : (s.ftnNode && s.ftn.su != .integrated) = false := by
      cases hnode : s.ftnNode
      · rfl
      · rw [hnet hnode]
        rfl
    rw [if_neg (by rw [hentering, hmode, hrun]; exact Bool.false_ne_true)]
    refine (if_neg (by rw [hrun]; exact Bool.false_ne_true)).trans ?_
    rw [if_neg (by simpa using hactive), hcpf, Bool.not_true, if_neg Bool.false_ne_true, hsu, if_neg Bool.false_ne_true]

theorem reqFate_done {s : State} {req : Nat} (hentering : s.sys.entering = false) (h : req = 4 ∧ s.running ∨ req = 6 ∧ s.held) : s.reqFate req = .done := by
  unfold State.reqFate
  obtain ⟨rfl, hmode⟩ | ⟨rfl, hmode⟩ := h
  · rw [if_neg (by rw [hentering, hmode]; exact Bool.false_ne_true)]
    exact if_pos hmode
  · rw [if_neg (by rw [hentering, hmode, Bool.or_true]; exact Bool.false_ne_true)]
    exact if_pos hmode

theorem reqFate_wrong_mode {s : State} {req : Nat} (h : s.sys.entering = true ∨ ¬ s.running ∧ ¬ s.held) : s.reqFate req = .reject 1 := by
  refine if_pos ?_
  obtain h | ⟨hrun, hheld⟩ := h
  · rw [h, Bool.or_true]
  · rw [Bool.eq_false_iff.mpr hrun, Bool.eq_false_iff.mpr hheld]
    rfl

theorem reqFate_operational_refused {s : State} {cause : Nat} (hentering : s.sys.entering = false) (hheld : s.held)
    (h : cause = 2 ∧ s.sys.active &&& 0xBB ≠ 0 ∨ cause = 7 ∧ s.sys.active &&& 0xBB = 0 ∧ s.sys.cpfValid = false ∨
      cause = 6 ∧ s.sys.active &&& 0xBB = 0 ∧ s.sys.cpfValid = true ∧ s.ftnNode = true ∧ s.ftn.su ≠ .integrated) : s.reqFate 4 = .reject cause := by
  have hrun : s.running = false := by simpa [hheld] using running_held s
  unfold State.reqFate
  rw [if_neg (by rw [hentering, hheld, hrun]; exact Bool.false_ne_true)]
  refine (if_neg (by rw [hrun]; exact Bool.false_ne_true)).trans ?_
  obtain ⟨rfl, hactive⟩ | ⟨rfl, hactive, hcpf⟩ | ⟨rfl, hactive, hcpf, hnode, hsu⟩ := h
  · rw [if_pos (by simpa using hactive)]
  · rw [if_neg (by simpa using hactive), hcpf]
    rfl
  · rw [if_neg (by simpa using hactive), hcpf, Bool.not_true, if_neg Bool.false_ne_true, if_pos (by simpa [hnode] using hsu)]

/-! ### The four ends of a request -/

theorem exists_next_request_waits (s : State) (c : Instr) (req : Nat) (hwf : RegsWf s) (hup : s.up = true) (hentering : s.sys.entering = false)
    (hnone : s.pendingAt reqKey = none)
    (hc : c = .requestDormant 0x4D51 ∧ req = 1 ∧ (s.running ∨ s.held) ∨
     c = .requestSafeHold 0x4D51 ∧ req = 6 ∧ s.running ∨
     c = .requestOperational 0x4D51 ∧ req = 4 ∧ s.held ∧ s.sys.active &&& 0xBB = 0 ∧ s.sys.cpfValid = true ∧
       (s.ftnNode = true → s.ftn.su = .integrated)) :
    ∃ t, exec c s = .next t ∧ t.pendingAt reqKey = some (reqWord 0x4D51 req) ∧
      t.reg Off.SYS_MODE_REQ_STATUS = modeBusy (s.reg Off.SYS_MODE_REQ_STATUS) ∧
      RegsOnly [Off.SYS_MODE_REQ_STATUS] s t ∧ OnlyIn [.regs, .shadows] s t := by
  have hcommand : c = .requestDormant 0x4D51 ∧ req = 1 ∨ c = .requestOperational 0x4D51 ∧ req = 4 ∨ c = .requestSafeHold 0x4D51 ∧ req = 6 := by tauto
  have hfate : s.reqFate req = .due := reqFate_due hentering (by tauto)
  have hop := modeReqOp_of_fate (req := req) (s := s) (by tauto) hnone
  rw [hfate] at hop
  have hshadow : OnlyIn [.shadows] s (shadowWrite reqKey (reqWord 0x4D51 req) s) := by
    rw [shadowWrite_of_none hnone]
    exact only_mk only_refl
  obtain ⟨hstatus, hregs, honly⟩ := reqStatus_waiting (req := req) hwf hshadow
  exact ⟨_, ((exec_request s hup hcommand).1).trans (congrArg Host.Outcome.next hop), pendingAt_shadowWrite_of_none hnone, hstatus, hregs, honly⟩

theorem exists_next_request_held (s : State) (c : Instr) (req : Nat) (p : Word) (hwf : RegsWf s) (hup : s.up = true)
    (hc : c = .requestDormant 0x4D51 ∧ req = 1 ∨ c = .requestOperational 0x4D51 ∧ req = 4 ∨ c = .requestSafeHold 0x4D51 ∧ req = 6)
    (hfind : (s.shadows.find? fun x => x.key == reqKey) = some ⟨reqKey, p, none⟩) :
    ∃ t, exec c s = .next t ∧ (t.shadows.find? fun x => x.key == reqKey) = some ⟨reqKey, p, some (reqWord 0x4D51 req)⟩ ∧
      t.reg Off.SYS_MODE_REQ_STATUS = modeBusy (s.reg Off.SYS_MODE_REQ_STATUS) ∧
      RegsOnly [Off.SYS_MODE_REQ_STATUS] s t ∧ OnlyIn [.regs, .shadows] s t := by
  have hop := modeReqOp_of_key (req := req) (s := s) (by tauto)
  have hpending : s.pendingAt reqKey = some p := by rw [State.pendingAt, hfind]; rfl
  rw [hpending, Option.isSome_some, if_pos rfl] at hop
  have hshadow : OnlyIn [.shadows] s (shadowWrite reqKey (reqWord 0x4D51 req) s) := by
    rw [shadowWrite_of_pending hfind]
    exact only_mk only_refl
  obtain ⟨hstatus, hregs, honly⟩ := reqStatus_waiting (req := req) hwf hshadow
  refine ⟨_, ((exec_request s hup hc).1).trans (congrArg Host.Outcome.next hop), ?_, hstatus, hregs, honly⟩
  have hshadows : (reqStatus 1 0 req (shadowWrite reqKey (reqWord 0x4D51 req) s)).shadows = (shadowWrite reqKey (reqWord 0x4D51 req) s).shadows := rfl
  rw [hshadows, shadowWrite_of_pending hfind]
  exact find_held hfind

theorem raised_reqStatus_ended (state cause req : Nat) (s : State) (hstate : state ≠ 1) : Raised Irq.SYS_REQ_DONE (reqStatus state cause req s) := by
  rw [reqStatus_ended state cause req s hstate]
  exact raised_raiseIrq _ _ (by decide)

theorem exists_next_request_done (s : State) (c : Instr) (req : Nat) (hwf : RegsWf s) (hup : s.up = true) (hentering : s.sys.entering = false)
    (hnone : s.pendingAt reqKey = none)
    (hc : c = .requestOperational 0x4D51 ∧ req = 4 ∧ s.running ∨ c = .requestSafeHold 0x4D51 ∧ req = 6 ∧ s.held) :
    ∃ t, exec c s = .next t ∧ t.reg Off.SYS_MODE_REQ_STATUS = modeStatus (s.reg Off.SYS_MODE_REQ_STATUS) 2 0 req ∧
      Raised Irq.SYS_REQ_DONE t ∧ RegsOnly [Off.SYS_MODE_REQ, Off.SYS_MODE_REQ_STATUS] s t ∧ OnlyIn [.regs, .icus] s t := by
  have hcommand : c = .requestDormant 0x4D51 ∧ req = 1 ∨ c = .requestOperational 0x4D51 ∧ req = 4 ∨ c = .requestSafeHold 0x4D51 ∧ req = 6 := by tauto
  have hfate : s.reqFate req = .done := reqFate_done hentering (by tauto)
  have hop := modeReqOp_of_fate (req := req) (s := s) (by tauto) hnone
  rw [hfate] at hop
  refine ⟨_, ((exec_request s hup hcommand).1).trans (congrArg Host.Outcome.next hop), ?_, raised_reqStatus_ended _ _ _ _ (by decide),
    regs_reqStatus (regs_setReg regs_refl), only_reqStatus (only_setReg only_refl)⟩
  rw [reg_reqStatus_ended _ _ _ _ (regsWf_setReg _ _ _ hwf) (by decide), reg_setReg_ne _ _ _ _ (by decide)]

theorem exists_next_request_refused (s : State) (c : Instr) (req cause : Nat) (hwf : RegsWf s) (hup : s.up = true) (hnone : s.pendingAt reqKey = none)
    (hc : (c = .requestDormant 0x4D51 ∧ req = 1 ∨ c = .requestOperational 0x4D51 ∧ req = 4 ∨ c = .requestSafeHold 0x4D51 ∧ req = 6) ∧
       cause = 1 ∧ (s.sys.entering = true ∨ ¬ s.running ∧ ¬ s.held) ∨
     c = .requestOperational 0x4D51 ∧ req = 4 ∧ s.sys.entering = false ∧ s.held ∧
       (cause = 2 ∧ s.sys.active &&& 0xBB ≠ 0 ∨ cause = 7 ∧ s.sys.active &&& 0xBB = 0 ∧ s.sys.cpfValid = false ∨
        cause = 6 ∧ s.sys.active &&& 0xBB = 0 ∧ s.sys.cpfValid = true ∧ s.ftnNode = true ∧ s.ftn.su ≠ .integrated)) :
    ∃ t, exec c s = .next t ∧ t.reg Off.SYS_MODE_REQ_STATUS = modeStatus (s.reg Off.SYS_MODE_REQ_STATUS) 3 cause req ∧
      t.reg Off.SYS_REQ_REJECTS = s.reg Off.SYS_REQ_REJECTS + 1 ∧ Raised Irq.SYS_REQ_DONE t ∧
      RegsOnly [Off.SYS_MODE_REQ_STATUS, Off.SYS_REQ_REJECTS] s t ∧ OnlyIn [.regs, .icus] s t := by
  have hcommand : c = .requestDormant 0x4D51 ∧ req = 1 ∨ c = .requestOperational 0x4D51 ∧ req = 4 ∨ c = .requestSafeHold 0x4D51 ∧ req = 6 := by
    obtain ⟨h, _⟩ | ⟨hc', hreq, _⟩ := hc
    · exact h
    · exact Or.inr (Or.inl ⟨hc', hreq⟩)
  have hfate : s.reqFate req = .reject cause := by
    obtain ⟨_, rfl, h⟩ | ⟨_, rfl, hentering, hheld, h⟩ := hc
    · exact reqFate_wrong_mode h
    · exact reqFate_operational_refused hentering hheld h
  have hop := modeReqOp_of_fate (req := req) (s := s) (by tauto) hnone
  rw [hfate] at hop
  refine ⟨_, ((exec_request s hup hcommand).1).trans (congrArg Host.Outcome.next hop), reg_reqReject_status cause req s hwf, reg_reqReject_rejects cause req s hwf,
    ?_, regsOnly_reqReject cause req s, onlyIn_reqReject cause req s⟩
  exact raised_bump (raised_reqStatus_ended 3 cause req s (by decide))

/-- Settles O15, one end of a request after the other. -/
theorem modeRequests : Obligations.ModeRequests :=
  ⟨exists_next_request_waits, exists_next_request_held, exists_next_request_done, exists_next_request_refused⟩

end Sys2Proof.Machine

namespace Sys2Proof.Machine

set_option Elab.async false

/-! ### PARK of a module whose test access holds its groups (Table 11.5) -/

/-- A standby whose output groups are held open by test access (cause 7), which the entry into STANDBY keeps. -/
def testedStandby : State := { State.reset with sys := { Reset.sys with mode := .standby }, dio := (bothGroups 7 true State.reset).dio }

/-- A PARK record. -/
def parkRecord : CkRec := { magic := 0x434B, type := 6, half := 0, setSeq := 0, recSeq := 0, length := 0, body := [], crc := ckCrc ⟨0x434B, 6, 0, 0, 0, 0, [], 0⟩ }

/-- The state in which the PARK record leaves that standby. -/
def parkedTested : State := powerDown .dormant { setMode .dormant testedStandby with isl := { (setMode .dormant testedStandby).isl with wakeCause := 0 } }

theorem exec_park_testedStandby : exec (.park parkRecord) testedStandby = .next parkedTested :=
  congrArg Host.Outcome.next (if_pos (by decide +kernel))

/-- The groups keep the cause of the test access, so they are not as a reset leaves them. -/
theorem parkedTested_causes : (parkedTested.dio.groups.map Group.causes) ≠ Reset.dio.groups.map Group.causes := by decide +kernel

/-- Refutes O42: a PARK record received while test access holds the output groups leaves that cause in force, so the groups are not as a reset leaves them. -/
theorem not_standbyRecords : ¬ Obligations.StandbyRecords := by
  unfold Obligations.StandbyRecords
  rintro ⟨_, _, hrecords⟩
  obtain ⟨_, _, hpark⟩ := hrecords testedStandby parkRecord
  obtain ⟨t, hexec, _, _, _, _, _, hanew⟩ := hpark (by decide +kernel) rfl
  rw [exec_park_testedStandby, Host.Outcome.next.injEq] at hexec
  subst hexec
  have hdio : parkedTested.dio = Reset.dio := hanew .dio (by decide)
  exact parkedTested_causes (by rw [hdio])

end Sys2Proof.Machine

namespace Sys2Proof.Machine

set_option Elab.async false

/-! ### Entry into STANDBY of a module whose test access holds its groups (R373) -/

/-- A module in VERIFY that waits with the partner's claim before it, its groups held open by test access (cause 7). -/
def testedWaiting : State :=
  { State.reset with
    sys := { Reset.sys with mode := .verify }, dio := (bothGroups 7 true State.reset).dio
    chk := { Reset.chk with role := .deciding, ga1Wait := true, pClaim := true } }

def testedStoodBy : State := toStandby (advanceTo (testedWaiting.chk.roleAt + 70000000) testedWaiting)

theorem exec_claimWaitEnd_testedWaiting : exec .ga1ClaimWaitEnd testedWaiting = .next testedStoodBy := rfl

theorem testedStoodBy_causes : (testedStoodBy.dio.groups.map Group.causes) ≠ Reset.dio.groups.map Group.causes := by decide +kernel

/-- Refutes O40: the entry into STANDBY keeps the cause of a test access in the groups, so they are not as a reset leaves them. -/
theorem not_roleDecision : ¬ Obligations.RoleDecision := by
  unfold Obligations.RoleDecision
  rintro ⟨_, _, _, hwait, _⟩
  obtain ⟨t, hexec, _, _, _, _, _, _, _, _, hanew⟩ := hwait testedWaiting rfl rfl
  rw [exec_claimWaitEnd_testedWaiting, Host.Outcome.next.injEq] at hexec
  subst hexec
  have hdio : testedStoodBy.dio = Reset.dio := hanew .dio (by decide)
  exact testedStoodBy_causes (by rw [hdio])

/-! ### A claim lost in SAFE-HOLD with test access open (R390) -/

/-- A pair member in SAFE-HOLD that holds its claim, its groups held open by test access (cause 7). -/
def testedHolder : State :=
  setReg Off.CHK_CFG 1
    { State.reset with
      sys := { Reset.sys with mode := .safeHold }, dio := (bothGroups 7 true State.reset).dio
      chk := { Reset.chk with role := .active, holder := true, claim := 1, mramOk := true } }

def testedLoser : State := loseClaim { testedHolder with chk := { testedHolder.chk with pClaim := true } }

theorem exec_partnerClaimEdge_testedHolder : exec .partnerClaimEdge testedHolder = .next testedLoser := rfl

theorem testedLoser_causes : (testedLoser.dio.groups.map Group.causes) ≠ Reset.dio.groups.map Group.causes := by decide +kernel

/-- Refutes O41: a claim lost in SAFE-HOLD leads to STANDBY, whose entry keeps the cause of a test access in the groups. -/
theorem not_claims : ¬ Obligations.Claims := by
  unfold Obligations.Claims
  rintro ⟨_, _, hlost, _⟩
  obtain ⟨_, hstandby, _⟩ := hlost testedHolder .partnerClaimEdge 0 0 0 false (regsWf_setReg _ _ _ rfl) rfl (Or.inl ⟨rfl, rfl, rfl⟩)
  obtain ⟨t, hexec, _, _, _, _, _, _, _, _, hanew⟩ := hstandby (Or.inr rfl) (by decide +kernel) rfl
  rw [exec_partnerClaimEdge_testedHolder, Host.Outcome.next.injEq] at hexec
  subst hexec
  have hdio : testedLoser.dio = Reset.dio := hanew .dio (by decide)
  exact testedLoser_causes (by rw [hdio])

end Sys2Proof.Machine

namespace Sys2Proof.Machine

set_option Elab.async false

/-! ### A warm restart of a register file out of form (R524) -/

/-- A module in operation whose warm restart is armed, and whose register file holds the path mask of lane A twice. -/
def pauseArmed : State :=
  { Tests.op with
    sys := { Tests.op.sys with warmArmed := true }
    regs := [(Off.VOT_PATH_MASK_DI, 1), (Off.VOT_PATH_MASK_DI, 1)] }

/-- The state at its pause. -/
def pausedTwice : State := pauseBegin (if pauseArmed.pointSource then pauseArmed else toTb2 (pauseArmed.nextBoundary * nsUnit) pauseArmed)

theorem exec_activatePause_pauseArmed : exec .activatePause pauseArmed = .next pausedTwice := congrArg Host.Outcome.next (if_pos (by decide +kernel))

/-- The pause removes one of the two entries. -/
theorem pausedTwice_mask : pausedTwice.reg Off.VOT_PATH_MASK_DI = 1 := by decide +kernel

/-- Refutes O55: nothing asks for a register file in form, and of a path mask that stands there twice the pause clears one entry alone. -/
theorem not_warmRestart : ¬ Obligations.WarmRestart := by
  unfold Obligations.WarmRestart
  rintro ⟨hpause, _⟩
  obtain ⟨t, hexec, _, _, _, _, _, hlanes, _⟩ := hpause pauseArmed _ (by decide +kernel) rfl rfl rfl
  rw [exec_activatePause_pauseArmed, Host.Outcome.next.injEq] at hexec
  subst hexec
  obtain ⟨_, hcleared⟩ := hlanes .a
  obtain ⟨_, _, _, _, hmask, _⟩ := hcleared (by decide +kernel)
  exact absurd (hmask.symm.trans pausedTwice_mask) (by decide)

end Sys2Proof.Machine

namespace Sys2Proof.Machine

set_option Elab.async false

/-! ### What the failures of a link leave alone (R445, R446) -/

/-- Both links are as before, the same accesses are outstanding, REC is in its state, and no answer that was given is lost. -/
def LinksKept (s t : State) : Prop :=
  t.brg.link0 = s.brg.link0 ∧ t.brg.link1 = s.brg.link1 ∧ t.vot.open_ = s.vot.open_ ∧ t.erec.state = s.erec.state ∧ ∀ a ∈ s.brg.answers, a ∈ t.brg.answers

theorem linksKept_refl (s : State) : LinksKept s s := ⟨rfl, rfl, rfl, rfl, fun _ h => h⟩

theorem linksKept_trans {s t u : State} (h1 : LinksKept s t) (h2 : LinksKept t u) : LinksKept s u := by
  obtain ⟨h0, h1, hopen, hstate, hans⟩ := h1
  obtain ⟨h0', h1', hopen', hstate', hans'⟩ := h2
  exact ⟨h0'.trans h0, h1'.trans h1, hopen'.trans hopen, hstate'.trans hstate, fun a ha => hans' a (hans a ha)⟩

theorem linksKept_of_only {P : List Part} {s t : State} (h : OnlyIn P s t) (hP : ∀ p ∈ [Part.brg, .vot, .erec], p ∉ P := by decide) : LinksKept s t := by
  have hbrg : t.brg = s.brg := h.2 .brg (hP _ (by decide))
  have hvot : t.vot = s.vot := h.2 .vot (hP _ (by decide))
  have herec : t.erec = s.erec := h.2 .erec (hP _ (by decide))
  rw [LinksKept, hbrg, hvot, herec]
  exact ⟨rfl, rfl, rfl, rfl, fun _ h => h⟩

theorem linksKept_ite {s t u : State} {c : Prop} [Decidable c] (ht : LinksKept s t) (hu : LinksKept s u) : LinksKept s (if c then t else u) := by
  split
  · exact ht
  · exact hu

theorem linksKept_when {s : State} {c : Bool} {f : State → State} (h : ∀ t, LinksKept t (f t)) : LinksKept s (when c f s) :=
  linksKept_ite (h s) (linksKept_refl s)

theorem culvert_of_kept {s t : State} (h : LinksKept s t) (l : Nat) : t.culvert l = s.culvert l := by
  obtain ⟨h0, h1, _, _, _⟩ := h
  unfold State.culvert
  rw [h0, h1]

/-- The answer goes to the end of the answers given, whatever the lanes took of it. -/
theorem readReturns_brg (stream : Nat) (err : Bool) (data : List Byte) (s : State) :
    (readReturns stream err data s).brg = { s.brg with answers := s.brg.answers ++ [⟨stream, err, data⟩] } := by
  unfold readReturns
  extract_lets v mine ls
  have hlanes : ∀ t : State, (ls.foldl (fun s l => answer l (stream / 8) v err s) t).brg = t.brg := fun t =>
    (only_foldl (P := [.vot]) (fun _ _ h => only_answer h) only_refl).2 .brg (by decide)
  unfold answerStream
  dsimp only
  rw [hlanes]

theorem readReturns_open (stream : Nat) (err : Bool) (data : List Byte) (s : State) : (readReturns stream err data s).vot.open_ = s.vot.open_ := by
  have hlanes : ∀ (ls : List Lane) (v : Word) (t : State), (ls.foldl (fun s l => answer l (stream / 8) v err s) t).vot.open_ = t.vot.open_ := by
    intro ls v
    induction ls with
    | nil => exact fun _ => rfl
    | cons l ls ih => exact fun t => ih _
  unfold readReturns answerStream
  dsimp only
  rw [hlanes]

theorem record_erec_state (type : Nat) (items : List Item) (s : State) : (record type items s).erec.state = s.erec.state := by
  have hreq : ∀ q : RecReq, (requestRec q s).erec.state = s.erec.state := by
    intro q
    unfold requestRec
    dsimp only
    split
    · split
      · rfl
      · split <;> rfl
    · split <;> rfl
  unfold record
  split <;> exact hreq _

theorem linksKept_record {type : Nat} {items : List Item} {s : State} : LinksKept s (record type items s) := by
  have honly : OnlyIn recParts s (record type items s) := onlyIn_record _ _ s
  have hbrg : (record type items s).brg = s.brg := honly.2 .brg (by decide)
  have hvot : (record type items s).vot = s.vot := honly.2 .vot (by decide)
  rw [LinksKept, hbrg, hvot]
  exact ⟨rfl, rfl, rfl, record_erec_state type items s, fun _ h => h⟩

theorem linksKept_readReturns {stream : Nat} {err : Bool} {data : List Byte} {s : State} : LinksKept s (readReturns stream err data s) := by
  rw [LinksKept, readReturns_brg]
  exact ⟨rfl, rfl, readReturns_open _ _ _ s, congrArg Recorder.state ((only_readReturns (P := [.vot, .brg]) only_refl).2 .erec (by decide)),
    fun a ha => List.mem_append_left _ ha⟩

theorem linksKept_dmaStop {c err : Nat} {s : State} : LinksKept s (dmaStop c err s) := linksKept_of_only (P := [.regs, .icus, .dmas]) (only_dmaStop only_refl)

theorem linksKept_failRead {r : Reading} {s : State} : LinksKept s (failRead r s) := by
  unfold failRead
  split
  · exact linksKept_dmaStop
  · exact linksKept_readReturns

/-- What a failed write does to the failure FIFO, before it is counted. -/
def fifoPushed (l : Nat) (w : Posted) (code : Nat) (s : State) : State :=
  if decide (16 ≤ s.brg.fifo.length) then { s with brg := { s.brg with lost := true } } |> bump Off.BRG_FAIL_LOST |> raiseIrq Irq.BRG_FIFO_OVERFLOW
  else { s with brg := { s.brg with fifo := s.brg.fifo ++ [⟨mkWord [(0, w.tag), (12, l), (13, code), (16, if w.dma.isSome then 0 else w.stream),
    (22, if w.dma.isSome then 0 else w.lanes.toNat), (25, w.dma.getD 0), (29, b2n w.dma.isSome), (30, b2n s.brg.lost)], w.addr⟩], lost := false } }

/-- What it does beside the FIFO and the count. -/
def writeFailureTold (l : Nat) (w : Posted) (code : Nat) (s : State) : State :=
  s |> raiseIrq Irq.BRG_WRITE_FAIL
    |> record 0x0C01 [iU64 1 w.addr, iU8 2 l, iU16 3 w.tag, iU8 4 code, iU8 5 w.stream, iU8 6 w.lanes.toNat, iU8 7 (w.dma.getD 255)]
    |> when (!w.dma.isSome) (countFailed w.stream)
    |> when (w.np && !w.dma.isSome) (readReturns w.stream true [])
    |> (match w.dma with
        | some c => dmaStop c 3
        | none => id)

theorem failWrite_eq (l : Nat) (w : Posted) (code : Nat) (s : State) :
    failWrite l w code s = writeFailureTold l w code (bump Off.BRG_WRITE_FAILS (fifoPushed l w code s)) := rfl

theorem linksKept_fifoPushed {l code : Nat} {w : Posted} {s : State} : LinksKept s (fifoPushed l w code s) :=
  linksKept_ite ⟨rfl, rfl, rfl, rfl, fun _ h => h⟩ ⟨rfl, rfl, rfl, rfl, fun _ h => h⟩

theorem linksKept_writeFailureTold {l code : Nat} {w : Posted} {s : State} : LinksKept s (writeFailureTold l w code s) := by
  have hdma : ∀ (d : Option Nat) (t : State), LinksKept t ((match d with | some c => dmaStop c 3 | none => id) t) := by
    intro d t
    cases d with
    | none => exact linksKept_refl t
    | some c => exact linksKept_dmaStop
  have hrec : LinksKept s (record 0x0C01 [iU64 1 w.addr, iU8 2 l, iU16 3 w.tag, iU8 4 code, iU8 5 w.stream, iU8 6 w.lanes.toNat, iU8 7 (w.dma.getD 255)]
      (raiseIrq Irq.BRG_WRITE_FAIL s)) :=
    linksKept_trans (linksKept_of_only (P := [.icus]) (only_raiseIrq only_refl)) linksKept_record
  refine linksKept_trans (linksKept_trans hrec ?_) (hdma w.dma _)
  exact linksKept_trans (linksKept_when (f := countFailed w.stream) fun _ => ⟨rfl, rfl, rfl, rfl, fun _ h => h⟩)
    (linksKept_when (f := readReturns w.stream true []) fun _ => linksKept_readReturns)

theorem linksKept_failWrite {l code : Nat} {w : Posted} {s : State} : LinksKept s (failWrite l w code s) := by
  rw [failWrite_eq]
  exact linksKept_trans (linksKept_trans linksKept_fifoPushed (linksKept_of_only (P := [.regs]) (only_bump only_refl))) linksKept_writeFailureTold

theorem regs_writeFailureTold {R : List Nat} {b s : State} {l code : Nat} {w : Posted} (h : RegsOnly R b s)
    (hR : ∀ o ∈ [Off.REC_LOST_CNT, Off.DMA_ERRORS], o ∈ R := by decide) : RegsOnly R b (writeFailureTold l w code s) := by
  refine regs_via h hR fun b h => ?_
  have hdma : ∀ (d : Option Nat) t, RegsOnly [Off.REC_LOST_CNT, Off.DMA_ERRORS] b t →
      RegsOnly [Off.REC_LOST_CNT, Off.DMA_ERRORS] b ((match d with | some c => dmaStop c 3 | none => id) t) := by
    intro d t ht
    cases d with
    | none => exact ht
    | some c => exact regs_dmaStop ht
  exact hdma w.dma _ (regs_when regs_readReturns (regs_when regs_countFailed (regs_record (regs_raiseIrq h))))

/-- A failed write counts once (R445). -/
theorem reg_failWrite (l : Nat) (w : Posted) (code : Nat) (s : State) (hwf : RegsWf s) :
    (failWrite l w code s).reg Off.BRG_WRITE_FAILS = s.reg Off.BRG_WRITE_FAILS + 1 := by
  have hpush : RegsOnly [Off.BRG_FAIL_LOST] s (fifoPushed l w code s) := regs_ite (regs_raiseIrq (regs_bump (regs_mk regs_refl))) (regs_mk regs_refl)
  have hwfPush : RegsWf (fifoPushed l w code s) := wf_ite (wf_raiseIrq (wf_bump (wf_mk hwf))) (wf_mk hwf)
  have htold := regs_writeFailureTold (R := [Off.REC_LOST_CNT, Off.DMA_ERRORS]) (b := bump Off.BRG_WRITE_FAILS (fifoPushed l w code s)) (l := l) (code := code) (w := w) regs_refl
  rw [failWrite_eq, htold _ (by decide), reg_bump_unmasked _ _ hwfPush (by decide), hpush _ (by decide)]

theorem raised_failWrite_fresh (l : Nat) (w : Posted) (code : Nat) (s : State) : Raised Irq.BRG_WRITE_FAIL (failWrite l w code s) := by
  have hdma : ∀ (d : Option Nat) (t : State), Raised Irq.BRG_WRITE_FAIL t → Raised Irq.BRG_WRITE_FAIL ((match d with | some c => dmaStop c 3 | none => id) t) := by
    intro d t ht
    cases d with
    | none => exact ht
    | some c => exact raised_dmaStop ht
  exact hdma w.dma _ (raised_when raised_readReturns (raised_when raised_countFailed (raised_record (raised_raiseIrq _ _ (by decide)))))

/-! ### A link that is lost (R446) -/

theorem culvert_setCulvert_self {l : Nat} (hl : l < 2) (f : Culvert → Culvert) (s : State) : (setCulvert l f s).culvert l = f (s.culvert l) := by
  obtain rfl | rfl : l = 0 ∨ l = 1 := by omega
  · rfl
  · rfl

theorem culvert_setCulvert_ne {l m : Nat} (hl : l < 2) (h : m ≠ l) (f : Culvert → Culvert) (s : State) : (setCulvert l f s).culvert m = s.culvert m := by
  obtain rfl | rfl : l = 0 ∨ l = 1 := by omega
  · match m with
    | 0 => exact absurd rfl h
    | 1 => rfl
    | _ + 2 => rfl
  · match m with
    | 0 => rfl
    | 1 => exact absurd rfl h
    | _ + 2 => rfl

theorem setCulvert_answers (l : Nat) (f : Culvert → Culvert) (s : State) : (setCulvert l f s).brg.answers = s.brg.answers := by
  unfold setCulvert
  split <;> rfl

/-- While the writes and reads of a link fail, its state and its empty lists stay. -/
def LinkEmptied (l : Nat) (s t : State) : Prop :=
  (t.culvert l).state = (s.culvert l).state ∧ (t.culvert l).posted = (s.culvert l).posted ∧ (t.culvert l).unacked = (s.culvert l).unacked ∧
    (t.culvert l).reads = (s.culvert l).reads ∧ (∀ m, m ≠ l → t.culvert m = s.culvert m) ∧ t.vot.open_ = s.vot.open_ ∧ t.erec.state = s.erec.state ∧
    ∀ a ∈ s.brg.answers, a ∈ t.brg.answers

theorem linkEmptied_refl (l : Nat) (s : State) : LinkEmptied l s s := ⟨rfl, rfl, rfl, rfl, fun _ _ => rfl, rfl, rfl, fun _ h => h⟩

theorem linkEmptied_trans {l : Nat} {s t u : State} (h1 : LinkEmptied l s t) (h2 : LinkEmptied l t u) : LinkEmptied l s u := by
  obtain ⟨hstate, hposted, hunacked, hreads, hother, hopen, hrec, hans⟩ := h1
  obtain ⟨hstate', hposted', hunacked', hreads', hother', hopen', hrec', hans'⟩ := h2
  exact ⟨hstate'.trans hstate, hposted'.trans hposted, hunacked'.trans hunacked, hreads'.trans hreads, fun m hm => (hother' m hm).trans (hother m hm),
    hopen'.trans hopen, hrec'.trans hrec, fun a ha => hans' a (hans a ha)⟩

theorem linkEmptied_of_kept {l : Nat} {s t : State} (h : LinksKept s t) : LinkEmptied l s t := by
  have hc := culvert_of_kept h
  rw [LinkEmptied, hc]
  obtain ⟨_, _, hopen, hrec, hans⟩ := h
  exact ⟨rfl, rfl, rfl, rfl, fun m _ => hc m, hopen, hrec, hans⟩

theorem linkEmptied_failLocally {l : Nat} (hl : l < 2) {w : Posted} {code : Nat} {s : State} : LinkEmptied l s (failLocally l w code s) := by
  refine linkEmptied_trans ?_ (linkEmptied_of_kept linksKept_failWrite)
  rw [LinkEmptied, culvert_setCulvert_self hl, setCulvert_answers]
  have hset : OnlyIn [.brg] s (setCulvert l (fun c => { c with failedTags := w.tag :: c.failedTags }) s) := only_setCulvert only_refl
  exact ⟨rfl, rfl, rfl, rfl, fun m hm => culvert_setCulvert_ne hl hm _ s, congrArg Vot.open_ (hset.2 .vot (by decide)),
    congrArg Recorder.state (hset.2 .erec (by decide)), fun _ h => h⟩

theorem failLocally_reg (l : Nat) (w : Posted) (code : Nat) (s : State) (hwf : RegsWf s) :
    (failLocally l w code s).reg Off.BRG_WRITE_FAILS = s.reg Off.BRG_WRITE_FAILS + 1 := by
  have hset : RegsOnly [] s (setCulvert l (fun c => { c with failedTags := w.tag :: c.failedTags }) s) := regs_setCulvert regs_refl
  exact (reg_failWrite l w code _ (wf_setCulvert hwf)).trans (by rw [hset _ (by decide)])

/-- The posted writes fail one after the other. -/
theorem foldl_failLocally {l : Nat} (hl : l < 2) (ws : List Posted) (s : State) (hwf : RegsWf s) :
    LinkEmptied l s (ws.foldl (fun s w => failLocally l w 6 s) s) ∧
      (ws.foldl (fun s w => failLocally l w 6 s) s).reg Off.BRG_WRITE_FAILS = s.reg Off.BRG_WRITE_FAILS + BitVec.ofNat 32 ws.length ∧
      (ws ≠ [] → Raised Irq.BRG_WRITE_FAIL (ws.foldl (fun s w => failLocally l w 6 s) s)) := by
  induction ws generalizing s with
  | nil => exact ⟨linkEmptied_refl l s, (BitVec.add_zero _).symm, fun h => absurd rfl h⟩
  | cons w ws ih =>
    obtain ⟨hempty, hreg, hraised⟩ := ih (failLocally l w 6 s) (wf_failLocally hwf)
    refine ⟨linkEmptied_trans (linkEmptied_failLocally hl) hempty, ?_, fun _ => ?_⟩
    · rw [List.foldl_cons, hreg, failLocally_reg l w 6 s hwf, List.length_cons, BitVec.ofNat_add, BitVec.add_assoc, BitVec.add_comm 1]
      rfl
    · rw [List.foldl_cons]
      exact raised_foldl (fun _ _ h => raised_failLocally h) (raised_failWrite_fresh l w 6 _)

/-- The reads that wait are answered with an error, but for those of the DMA channels. -/
theorem foldl_failRead (rs : List Reading) (s : State) :
    LinksKept s (rs.foldl (fun s r => failRead r s) s) ∧ ∀ r ∈ rs, r.dma = none → ⟨r.stream, true, []⟩ ∈ (rs.foldl (fun s r => failRead r s) s).brg.answers := by
  induction rs generalizing s with
  | nil => exact ⟨linksKept_refl s, fun _ h => absurd h List.not_mem_nil⟩
  | cons r rs ih =>
    obtain ⟨hkept, hans⟩ := ih (failRead r s)
    refine ⟨linksKept_trans linksKept_failRead hkept, fun x hx hdma => ?_⟩
    obtain rfl | hx := List.mem_cons.mp hx
    · obtain ⟨_, _, _, _, hmore⟩ := hkept
      refine hmore _ ?_
      rw [failRead, hdma]
      dsimp only
      rw [readReturns_brg]
      exact List.mem_append_right _ (List.mem_singleton_self _)
    · exact hans x hx hdma

/-- What a link loses with its state: its writes and reads fail, each told in its way. -/
theorem failAll_lost {l : Nat} (hl : l < 2) (s : State) (hwf : RegsWf s) :
    ((failAll l s).culvert l).state = (s.culvert l).state ∧ ((failAll l s).culvert l).posted = [] ∧ ((failAll l s).culvert l).unacked = [] ∧
      ((failAll l s).culvert l).reads = [] ∧ (∀ m, m ≠ l → (failAll l s).culvert m = s.culvert m) ∧
      (failAll l s).reg Off.BRG_WRITE_FAILS = s.reg Off.BRG_WRITE_FAILS + BitVec.ofNat 32 (s.culvert l).posted.length ∧
      ((s.culvert l).posted ≠ [] → Raised Irq.BRG_WRITE_FAIL (failAll l s)) ∧
      ∀ r ∈ (s.culvert l).reads, r.dma = none → ⟨r.stream, true, []⟩ ∈ (failAll l s).brg.answers := by
  let s1 := setCulvert l (fun c => { c with posted := [], unacked := [], reads := [] }) s
  have hs1 : s1.culvert l = { s.culvert l with posted := [], unacked := [], reads := [] } := culvert_setCulvert_self hl _ s
  have hreg1 : RegsOnly [] s s1 := regs_setCulvert regs_refl
  obtain ⟨⟨hstate, hposted, hunacked, hreads, hother, _, _, _⟩, hreg, hraised⟩ := foldl_failLocally hl (s.culvert l).posted s1 (wf_setCulvert hwf)
  obtain ⟨hkept, hans⟩ := foldl_failRead (s.culvert l).reads ((s.culvert l).posted.foldl (fun s w => failLocally l w 6 s) s1)
  have hreads' : RegsOnly [Off.DMA_ERRORS] ((s.culvert l).posted.foldl (fun s w => failLocally l w 6 s) s1) (failAll l s) := regs_foldl (fun _ _ h => regs_failRead h) regs_refl
  have hc := culvert_of_kept hkept
  refine ⟨?_, ?_, ?_, ?_, fun m hm => ?_, ?_, fun hne => ?_, hans⟩
  · exact (congrArg Culvert.state (hc l)).trans (hstate.trans (by rw [hs1]))
  · exact (congrArg Culvert.posted (hc l)).trans (hposted.trans (by rw [hs1]))
  · exact (congrArg Culvert.unacked (hc l)).trans (hunacked.trans (by rw [hs1]))
  · exact (congrArg Culvert.reads (hc l)).trans (hreads.trans (by rw [hs1]))
  · exact (hc m).trans ((hother m hm).trans (culvert_setCulvert_ne hl hm _ s))
  · rw [hreads' _ (by decide), hreg, hreg1 _ (by decide)]
  · exact raised_foldl (fun _ _ h => raised_failRead h) (hraised hne)

theorem linkLost_linkState {l : Nat} {v : LinkState} {s : State} (hl : l < 2) (hwf : RegsWf s) (hv : v = .down ∨ v = .off ∨ v = .stream)
    (hne : (s.culvert l).state ≠ v) : LinkLost l v s (linkState l v s) := by
  let s1 := setCulvert l (fun c => { c with state := v }) s |> raiseIrq Irq.BRG_LINK_CHG |> when (v == .down) (bump Off.BRG_LINK_DOWNS)
  have heq : linkState l v s = failAll l s1 := by
    unfold linkState
    rw [if_neg (by simpa using hne)]
    exact if_pos (by obtain rfl | rfl | rfl := hv <;> rfl)
  have hbrg : s1.brg = (setCulvert l (fun c => { c with state := v }) s).brg := by
    have hcount : OnlyIn [.regs, .icus] (setCulvert l (fun c => { c with state := v }) s) s1 := only_when only_bump (only_raiseIrq only_refl)
    exact hcount.2 .brg (by decide)
  have hculv : ∀ m, s1.culvert m = (setCulvert l (fun c => { c with state := v }) s).culvert m := fun m => by
    unfold State.culvert
    rw [hbrg]
  have hs1 : s1.culvert l = { s.culvert l with state := v } := (hculv l).trans (culvert_setCulvert_self hl _ s)
  have hwf0 : RegsWf (setCulvert l (fun c => { c with state := v }) s |> raiseIrq Irq.BRG_LINK_CHG) := wf_raiseIrq (wf_setCulvert hwf)
  have hreg0 : RegsOnly [] s (setCulvert l (fun c => { c with state := v }) s |> raiseIrq Irq.BRG_LINK_CHG) := regs_raiseIrq (regs_setCulvert regs_refl)
  obtain ⟨hstate, hposted, hunacked, hreads, hother, hfails, hraised, hans⟩ := failAll_lost hl s1 (wf_when wf_bump hwf0)
  have hall : RegsOnly [Off.BRG_FAIL_LOST, Off.BRG_WRITE_FAILS, Off.DMA_ERRORS, Off.REC_LOST_CNT] s1 (failAll l s1) := regs_failAll regs_refl
  rw [hs1] at hstate hfails hraised hans
  have hdowns : s1.reg Off.BRG_LINK_DOWNS = s.reg Off.BRG_LINK_DOWNS + (if v = .down then 1 else 0) ∧ s1.reg Off.BRG_WRITE_FAILS = s.reg Off.BRG_WRITE_FAILS := by
    unfold s1
    by_cases hdown : v = .down
    · subst hdown
      exact ⟨(reg_bump_unmasked _ _ hwf0 (by decide)).trans (by rw [hreg0 _ (by decide), if_pos rfl]), (reg_bump_ne _ _ _ (by decide)).trans (hreg0 _ (by decide))⟩
    · rw [when, if_neg (by simpa using hdown), if_neg hdown, add_zero]
      exact ⟨hreg0 _ (by decide), hreg0 _ (by decide)⟩
  rw [LinkLost, heq]
  refine ⟨hstate, hposted, hunacked, hreads, fun m hm => (hother m hm).trans ((hculv m).trans (culvert_setCulvert_ne hl hm _ s)), ?_, ?_,
    raised_failAll (raised_when raised_bump (raised_raiseIrq _ _ (by decide))), hraised, hans, ?_, ?_⟩
  · rw [hall _ (by decide), hdowns.1]
  · rw [hfails, hdowns.2]
  · rw [← heq]
    exact regs_linkState regs_refl
  · rw [← heq]
    exact only_linkState only_refl

/-- Losing a link opens no access and leaves REC's state. -/
theorem idle_linkState {l : Nat} {v : LinkState} {s : State} (hl : l < 2) (hwf : RegsWf s) :
    (linkState l v s).vot.open_ = s.vot.open_ ∧ (linkState l v s).erec.state = s.erec.state := by
  have hfail : ∀ t : State, RegsWf t → (failAll l t).vot.open_ = t.vot.open_ ∧ (failAll l t).erec.state = t.erec.state := by
    intro t ht
    have hset : OnlyIn [.brg] t (setCulvert l (fun c => { c with posted := [], unacked := [], reads := [] }) t) := only_setCulvert only_refl
    obtain ⟨⟨_, _, _, _, _, hopen, hrec, _⟩, _⟩ := foldl_failLocally hl (t.culvert l).posted _ (wf_setCulvert (l := l) (f := fun c => { c with posted := [], unacked := [], reads := [] }) ht)
    obtain ⟨⟨_, _, hopen', hrec', _⟩, _⟩ := foldl_failRead (t.culvert l).reads
      ((t.culvert l).posted.foldl (fun s w => failLocally l w 6 s) (setCulvert l (fun c => { c with posted := [], unacked := [], reads := [] }) t))
    exact ⟨hopen'.trans (hopen.trans (congrArg Vot.open_ (hset.2 .vot (by decide)))), hrec'.trans (hrec.trans (congrArg Recorder.state (hset.2 .erec (by decide))))⟩
  let s1 := setCulvert l (fun c => { c with state := v }) s |> raiseIrq Irq.BRG_LINK_CHG |> when (v == .down) (bump Off.BRG_LINK_DOWNS)
  have hs1 : OnlyIn [.brg, .icus, .regs] s s1 := only_when only_bump (only_raiseIrq (only_setCulvert only_refl))
  have hopen : s1.vot.open_ = s.vot.open_ := congrArg Vot.open_ (hs1.2 .vot (by decide))
  have hrec : s1.erec.state = s.erec.state := congrArg Recorder.state (hs1.2 .erec (by decide))
  obtain ⟨hopen', hrec'⟩ := hfail s1 (wf_when wf_bump (wf_raiseIrq (wf_setCulvert hwf)))
  unfold linkState
  split
  · exact ⟨rfl, rfl⟩
  · unfold when
    split
    · exact ⟨hopen'.trans hopen, hrec'.trans hrec⟩
    · exact ⟨hopen, hrec⟩

/-! ### The commands of the links -/

theorem resolveAll_of_none {s : State} (h : s.vot.open_ = []) : resolveAll s = s := by
  rw [resolveAll, h]
  rfl

/-- With no access outstanding and no export nothing follows a write's end. -/
theorem afterWrites_of_idle {s : State} (h : s.nothingWaits) : afterWrites s = s := by
  obtain ⟨hopen, hexport⟩ := h
  have hexp : exportFailed s = s := if_neg (by rw [beq_eq_false_iff_ne.mpr hexport, Bool.false_and]; exact Bool.false_ne_true)
  unfold afterWrites when
  dsimp only
  rw [hexp, resolveAll_of_none hopen]
  exact ite_self _

theorem nothingWaits_of_same {s t : State} (h : s.nothingWaits) (hopen : t.vot.open_ = s.vot.open_) (hrec : t.erec.state = s.erec.state) : t.nothingWaits :=
  ⟨hopen.trans h.1, by rw [hrec]; exact h.2⟩

theorem nothingWaits_of_only {P : List Part} {s t : State} (h : s.nothingWaits) (ht : OnlyIn P s t) (hP : ∀ p ∈ [Part.vot, .erec], p ∉ P := by decide) :
    t.nothingWaits :=
  nothingWaits_of_same h (congrArg Vot.open_ (ht.2 .vot (hP _ (by decide)))) (congrArg Recorder.state (ht.2 .erec (hP _ (by decide))))

theorem exists_next_linkAck (s : State) (l : Nat) (p : Packet) (hup : s.up = true) (hl : l < 2) (htype : p.type = 10) (hcrc : p.crc = packetCrc p) :
    ∃ t, exec (.linkAck l p) s = .next t ∧
      t.culvert l = { s.culvert l with unacked := (s.culvert l).unacked.filter fun u => decide (32768 ≤ (p.seq + 65536 - u.packet.seq) % 65536) } ∧
      (∀ m, m ≠ l → t.culvert m = s.culvert m) ∧ OnlyIn [.brg] s t := by
  refine ⟨_, congrArg Host.Outcome.next (if_pos ?_), culvert_setCulvert_self hl _ s, fun m hm => culvert_setCulvert_ne hl hm _ s, only_setCulvert only_refl⟩
  rw [hup, htype, decide_eq_true hl, hcrc]
  exact beq_self_eq_true _

theorem now_advanceTo (n : Nat) (s : State) : (advanceTo n s).now = max s.now n := by
  unfold advanceTo
  split
  · exact (Nat.max_eq_left ‹_›).symm
  · show s.now + (n - s.now) = max s.now n
    omega

theorem exists_next_linkResend (s : State) (l seq : Nat) (u : Unacked) (hwf : RegsWf s) (hup : s.up = true) (hl : l < 2) (hidle : s.nothingWaits)
    (hfind : (s.culvert l).unacked.find? (fun x => x.packet.seq == seq) = some u) :
    (u.tries < 3 → ∃ t, exec (.linkResend l seq) s = .next t ∧ t.now = max s.now (u.at_ + 20000) ∧ t.out = s.out ++ [.packet l u.packet] ∧
      t.culvert l = { s.culvert l with unacked := (s.culvert l).unacked.map fun x => if x = u then { x with tries := x.tries + 1, at_ := t.now } else x } ∧
      (∀ m, m ≠ l → t.culvert m = s.culvert m) ∧ t.reg Off.BRG_RESENDS = s.reg Off.BRG_RESENDS + 1 ∧
      RegsOnly [Off.BRG_RESENDS] s t ∧ OnlyIn [.now, .time, .nv, .isl, .regs, .out, .brg] s t) ∧
    (3 ≤ u.tries → (s.culvert l).state ≠ .down → ∃ t, exec (.linkResend l seq) s = .next t ∧ LinkLost l .down (advanceTo (u.at_ + 20000) s) t) := by
  let s' := advanceTo (u.at_ + 20000) s
  have hadv : OnlyIn [.now, .isl, .nv, .time] s s' := only_advanceTo only_refl
  have hculv : ∀ m, s'.culvert m = s.culvert m := fun m => by
    have hbrg : s'.brg = s.brg := hadv.2 .brg (by decide)
    unfold State.culvert
    rw [hbrg]
  have hidle' : s'.nothingWaits := nothingWaits_of_only hidle hadv
  have hwf' : RegsWf s' := wf_advanceTo hwf
  have hexec : exec (.linkResend l seq) s = .next (afterWrites (linkResend l seq s)) := congrArg Host.Outcome.next (if_pos hup)
  refine ⟨fun htries => ?_, fun htries hstate => ?_⟩
  · let t := s' |> setCulvert l (fun c => { c with unacked := c.unacked.map fun x => if x == u then { x with tries := x.tries + 1, at_ := s'.now } else x })
      |> bump Off.BRG_RESENDS |> send (.packet l u.packet)
    have hop : linkResend l seq s = t := by
      unfold linkResend
      rw [hfind]
      exact if_pos htries
    have ht : OnlyIn [.regs, .out, .brg] s' t := only_send (only_bump (only_setCulvert only_refl))
    have hset : RegsOnly [] s (setCulvert l (fun c => { c with unacked := c.unacked.map fun x => if x == u then { x with tries := x.tries + 1, at_ := s'.now } else x }) s') :=
      regs_setCulvert (regs_advanceTo regs_refl)
    have hnow : t.now = s'.now := ht.2 .now (by decide)
    rw [hop, afterWrites_of_idle (nothingWaits_of_only hidle' ht)] at hexec
    refine ⟨t, hexec, hnow.trans (now_advanceTo _ s), ?_, ?_, fun m hm => ?_, ?_,
      regs_send (regs_bump (regs_setCulvert (regs_advanceTo regs_refl))), only_send (only_bump (only_setCulvert (only_advanceTo only_refl)))⟩
    · have hout : s'.out = s.out := hadv.2 .out (by decide)
      have hbefore : (s' |> setCulvert l (fun c => { c with unacked := c.unacked.map fun x => if x == u then { x with tries := x.tries + 1, at_ := s'.now } else x })
        |> bump Off.BRG_RESENDS).out = s'.out := (only_bump (P := [.regs, .brg]) (only_setCulvert only_refl)).2 .out (by decide)
      exact (congrArg (· ++ [Msg.packet l u.packet]) hbefore).trans (by rw [hout])
    · rw [hnow]
      have hself := culvert_setCulvert_self hl (fun c => { c with unacked := c.unacked.map fun x => if x == u then { x with tries := x.tries + 1, at_ := s'.now } else x }) s'
      rw [hculv] at hself
      have hmap : (fun x : Unacked => if x = u then { x with tries := x.tries + 1, at_ := s'.now } else x) =
          fun x => if x == u then { x with tries := x.tries + 1, at_ := s'.now } else x := by
        funext x
        simp only [beq_iff_eq]
      rw [hmap]
      exact hself
    · exact (culvert_setCulvert_ne hl hm _ s').trans (hculv m)
    · exact (reg_bump_unmasked _ _ (wf_setCulvert hwf') (by decide)).trans (by rw [hset _ (by decide)])
  · have hop : linkResend l seq s = linkState l .down s' := by
      unfold linkResend
      rw [hfind]
      exact if_neg (by omega)
    obtain ⟨hopen, hrec⟩ := idle_linkState (v := .down) hl hwf'
    rw [hop, afterWrites_of_idle (nothingWaits_of_same hidle' hopen hrec)] at hexec
    refine ⟨_, hexec, linkLost_linkState hl hwf' (Or.inl rfl) ?_⟩
    rw [hculv]
    exact hstate

theorem exists_next_linkStateChange (s : State) (l n : Nat) (full : Bool) (v : LinkState) (hwf : RegsWf s) (hup : s.up = true) (hl : l < 2) (hn : n < 4)
    (hidle : s.nothingWaits) (hv : v = (if bit s.brg.cfg l = false then .off else if n = 3 ∧ full = false then .down else linkCode n)) :
    ((s.culvert l).state = v → exec (.linkStateChange l n full) s = .next s) ∧
    ((s.culvert l).state ≠ v → v = .down ∨ v = .off → ∃ t, exec (.linkStateChange l n full) s = .next t ∧ LinkLost l v s t) ∧
    ((s.culvert l).state ≠ v → v = .training ∨ v = .up → ∃ t, exec (.linkStateChange l n full) s = .next t ∧ t.culvert l = { s.culvert l with state := v } ∧
      (∀ m, m ≠ l → t.culvert m = s.culvert m) ∧ Raised Irq.BRG_LINK_CHG t ∧ OnlyIn [.icus, .brg] s t) := by
  have htakes : s.linkTakes l n full = v := by
    subst hv
    unfold State.linkTakes State.linkOn
    cases hon : bit s.brg.cfg l
    · rfl
    · obtain rfl | rfl | rfl | rfl : n = 0 ∨ n = 1 ∨ n = 2 ∨ n = 3 := by omega
      · rfl
      · rfl
      · rfl
      · cases full <;> rfl
  have hexec : exec (.linkStateChange l n full) s = .next (afterWrites (linkState l v s)) := by
    refine congrArg Host.Outcome.next ((if_pos ?_).trans (congrArg (fun x => afterWrites (linkState l x s)) htakes))
    rw [hup, decide_eq_true hl, decide_eq_true hn]
    rfl
  obtain ⟨hopen, hrec⟩ := idle_linkState (v := v) hl hwf
  rw [afterWrites_of_idle (nothingWaits_of_same hidle hopen hrec)] at hexec
  refine ⟨fun hsame => ?_, fun hne hlost => ?_, fun hne hfine => ?_⟩
  · rw [hexec, linkState, if_pos (by simpa using hsame)]
  · exact ⟨_, hexec, linkLost_linkState hl hwf (by tauto) hne⟩
  · have hop : linkState l v s = raiseIrq Irq.BRG_LINK_CHG (setCulvert l (fun c => { c with state := v }) s) := by
      unfold linkState
      rw [if_neg (by simpa using hne)]
      obtain rfl | rfl := hfine <;> rfl
    rw [hop] at hexec
    exact ⟨_, hexec, culvert_setCulvert_self hl _ s, fun m hm => culvert_setCulvert_ne hl hm _ s, raised_raiseIrq _ _ (by decide), only_raiseIrq (only_setCulvert only_refl)⟩

theorem exists_next_streamEntry (s : State) (hwf : RegsWf s) (hup : s.up = true) (hon : bit s.brg.cfg 0 = true) (hpresent : s.chk.presentN = true)
    (hne : s.brg.link0.state ≠ .stream) (hidle : s.nothingWaits) : ∃ t, exec .streamEntry s = .next t ∧ LinkLost 0 .stream s t := by
  obtain ⟨hopen, hrec⟩ := idle_linkState (l := 0) (v := .stream) (by decide) hwf
  have hexec : exec .streamEntry s = .next (afterWrites (linkState 0 .stream s)) := by
    refine congrArg Host.Outcome.next (if_pos ?_)
    rw [hup, State.linkOn, hon, hpresent]
    rfl
  rw [afterWrites_of_idle (nothingWaits_of_same hidle hopen hrec)] at hexec
  exact ⟨_, hexec, linkLost_linkState (by decide) hwf (Or.inr (Or.inr rfl)) hne⟩

/-! ### The fence and the failure FIFO (R442, R445) -/

theorem exists_next_brgFence (s : State) (stream n : Nat) (v : Word) (hup : s.up = true) (hn : n = (look s.brg.failed stream).getD 0)
    (hv : v = mkWord [(0, b2n (n != 0)), (8, min 255 n)]) :
    ((∀ w ∈ s.brg.link0.posted ++ s.brg.link1.posted, w.stream ≠ stream ∨ w.dma ≠ none) →
      ∃ t, exec (.brgFenceRead stream) s = .next t ∧ t.vot = s.vot.answered (stream / 8) v false ∧
        t.brg = { s.brg with fence := v, failed := del s.brg.failed stream, answers := s.brg.answers ++ [⟨stream, false, leBytes 4 v.toNat⟩] } ∧
        OnlyIn [.vot, .brg] s t) ∧
    ((∃ w ∈ s.brg.link0.posted ++ s.brg.link1.posted, w.stream = stream ∧ w.dma = none) → exec (.brgFenceRead stream) s = .next s) := by
  have hexec : exec (.brgFenceRead stream) s = .next (brgFenceOp stream s) := congrArg Host.Outcome.next (if_pos hup)
  subst hn hv
  refine ⟨fun hnone => ?_, fun hsome => ?_⟩
  · have hidle : ((s.brg.link0.posted ++ s.brg.link1.posted).any fun w => w.stream == stream && w.dma.isNone) = false := by
      rw [List.any_eq_false]
      intro w hw
      have := hnone w hw
      simpa [or_iff_not_imp_left] using this
    refine ⟨_, hexec.trans (congrArg Host.Outcome.next (if_neg ?_)), answerAll_vot _ _ _ _, ?_, only_answerAll (only_answerStream (only_mk only_refl))⟩
    · rw [hidle]
      exact Bool.false_ne_true
    · exact (only_answerAll (P := [.vot]) only_refl).2 .brg (by decide)
  · have hbusy : ((s.brg.link0.posted ++ s.brg.link1.posted).any fun w => w.stream == stream && w.dma.isNone) = true := by
      obtain ⟨w, hw, hstream, hdma⟩ := hsome
      exact List.any_eq_true.mpr ⟨w, hw, by rw [hstream, hdma, beq_self_eq_true]; rfl⟩
    exact hexec.trans (congrArg Host.Outcome.next (if_pos hbusy))

theorem latched_setLatch (lane : Option Lane) (core off o : Nat) (v : Word) (vals : List (Nat × Word)) (s : State) (h : look vals o = some v) :
    (setLatch lane core off vals s).latched lane core o = some v := by
  unfold setLatch State.latched
  dsimp only
  rw [List.filter_cons_of_pos (by simp), List.findSome?_cons, h]

theorem exists_next_brgFailHead (s : State) (core : Nat) (hup : s.up = true) :
    (s.brg.fifo = [] → ∃ t, exec (.brgFailHeadRead core) s = .next t ∧ t.vot = s.vot.answered core 0 false ∧
      t.latched none core Off.BRG_FAIL_ADDR_LO = some 0 ∧ t.latched none core Off.BRG_FAIL_ADDR_HI = some 0 ∧ OnlyIn [.latches, .vot] s t) ∧
    (∀ e rest, s.brg.fifo = e :: rest → ∃ t, exec (.brgFailHeadRead core) s = .next t ∧ t.vot = s.vot.answered core e.head false ∧
      t.brg = { s.brg with fifo := rest } ∧ t.latched none core Off.BRG_FAIL_ADDR_LO = some (BitVec.ofNat 32 e.addr) ∧
      t.latched none core Off.BRG_FAIL_ADDR_HI = some (BitVec.ofNat 32 (e.addr / 4294967296 % 2)) ∧ OnlyIn [.latches, .vot, .brg] s t) := by
  have hexec : exec (.brgFailHeadRead core) s = .next (failHeadOp core s) := congrArg Host.Outcome.next (if_pos hup)
  have hlatched : ∀ (w : Word) (o : Nat) (u : State), (answerAll core w false u).latched none core o = u.latched none core o := by
    intro w o u
    have hlatches : (answerAll core w false u).latches = u.latches := (onlyIn_answerAll core w false u).2 .latches (by decide)
    rw [State.latched, hlatches]
    rfl
  refine ⟨fun hempty => ?_, fun e rest hfifo => ?_⟩
  · have hop : failHeadOp core s = answerAll core 0 false (setLatch none core Off.BRG_FAIL_HEAD [(Off.BRG_FAIL_ADDR_LO, 0), (Off.BRG_FAIL_ADDR_HI, 0)] s) := by
      unfold failHeadOp
      rw [hempty]
    rw [hop] at hexec
    refine ⟨_, hexec, answerAll_vot _ _ _ _, ?_, ?_, only_answerAll (only_setLatch only_refl)⟩
    · rw [hlatched]
      exact latched_setLatch _ _ _ _ _ _ _ (by decide)
    · rw [hlatched]
      exact latched_setLatch _ _ _ _ _ _ _ (by decide)
  · have hop : failHeadOp core s = answerAll core e.head false (setLatch none core Off.BRG_FAIL_HEAD
        [(Off.BRG_FAIL_ADDR_LO, BitVec.ofNat 32 e.addr), (Off.BRG_FAIL_ADDR_HI, BitVec.ofNat 32 (e.addr / 4294967296 % 2))]
        { s with brg := { s.brg with fifo := rest } }) := by
      unfold failHeadOp
      rw [hfifo]
    rw [hop] at hexec
    refine ⟨_, hexec, answerAll_vot _ _ _ _, (onlyIn_answerAll core e.head false _).2 .brg (by decide), ?_, ?_, only_answerAll (only_setLatch (only_mk only_refl))⟩
    · rw [hlatched]
      exact latched_setLatch _ _ _ _ _ _ _ rfl
    · rw [hlatched]
      exact latched_setLatch _ _ _ _ _ _ _ rfl

/-- Settles O47, command by command. -/
theorem culvertLinks : Obligations.CulvertLinks :=
  ⟨exists_next_linkAck, exists_next_linkResend, exists_next_linkStateChange, exists_next_streamEntry, exists_next_brgFence, exists_next_brgFailHead⟩

end Sys2Proof.Machine

namespace Sys2Proof.Machine

set_option Elab.async false

/-! ### What a failed write tells (R445) -/

theorem tri_map_congr {α β : Type} {f g : Lane → α → β} {x : Tri α} (h : ∀ l, f l (x.get l) = g l (x.get l)) : x.map f = x.map g := by
  unfold Tri.map
  rw [show f .a x.a = g .a x.a from h .a, show f .b x.b = g .b x.b from h .b, show f .c x.c = g .c x.c from h .c]

/-- What a stream waited for has come to the lanes that issued the access. -/
theorem readReturns_vot (stream : Nat) (err : Bool) (data : List Byte) (s : State) :
    (readReturns stream err data s).vot = s.vot.returned stream err data := by
  have hin : ∀ l, (l ∈ s.lanesIn) ↔ (s.vot.lanes.get l).inVote = true := fun l => mem_lanesIn s l
  unfold readReturns answerStream
  dsimp only
  rw [foldl_answer_vot]
  unfold Vot.returned
  dsimp only
  congr 1
  refine tri_map_congr fun l => ?_
  cases s.vot.kept.find? fun k => k.stream == stream && k.awaits with
  | none => simp only [hin, Option.all_none, Bool.and_true]
  | some k => simp only [List.mem_filter, hin, Option.all_some, Bool.and_eq_true]

theorem readReturns_rest (stream : Nat) (err : Bool) (data : List Byte) (s : State) :
    (readReturns stream err data s).dmas = s.dmas := (only_readReturns (P := [.vot, .brg]) only_refl).2 .dmas (by decide)

/-- The record of a failed write. -/
def writeFailureRecorded (l : Nat) (w : Posted) (code : Nat) (s : State) : State :=
  record 0x0C01 [iU64 1 w.addr, iU8 2 l, iU16 3 w.tag, iU8 4 code, iU8 5 w.stream, iU8 6 w.lanes.toNat, iU8 7 (w.dma.getD 255)]
    (raiseIrq Irq.BRG_WRITE_FAIL s)

theorem writeFailureTold_of_none {l code : Nat} {w : Posted} {s : State} (h : w.dma = none) :
    writeFailureTold l w code s = when w.np (readReturns w.stream true []) (countFailed w.stream (writeFailureRecorded l w code s)) := by
  unfold writeFailureTold writeFailureRecorded
  rw [h]
  simp only [Option.isSome_none, Bool.not_false, Bool.and_true, when_true]
  rfl

theorem writeFailureTold_of_some {l code c : Nat} {w : Posted} {s : State} (h : w.dma = some c) :
    writeFailureTold l w code s = dmaStop c 3 (writeFailureRecorded l w code s) := by
  unfold writeFailureTold writeFailureRecorded
  rw [h]
  simp only [Option.isSome_some, Bool.not_true, Bool.and_false, when_false]

theorem only_writeFailureRecorded {P : List Part} {b s : State} {l code : Nat} {w : Posted} (h : OnlyIn P b s) (hP : ∀ p ∈ recParts, p ∈ P := by decide) :
    OnlyIn P b (writeFailureRecorded l w code s) :=
  only_via h hP fun _ h => only_record (only_raiseIrq h)

/-- What the failure leaves in the bridge, beside the FIFO, and in the Sluice. -/
theorem writeFailureTold_blocks (l : Nat) (w : Posted) (code : Nat) (s : State) :
    (writeFailureTold l w code s).brg = { s.brg with
        failed := if w.dma = none then put s.brg.failed w.stream ((look s.brg.failed w.stream).getD 0 + 1) else s.brg.failed
        answers := s.brg.answers ++ if w.np && w.dma.isNone then [⟨w.stream, true, []⟩] else [] } ∧
      (writeFailureTold l w code s).vot = (if w.np && w.dma.isNone then s.vot.returned w.stream true [] else s.vot) ∧
      (w.dma = none → (writeFailureTold l w code s).dmas = s.dmas) := by
  have hrec : OnlyIn recParts s (writeFailureRecorded l w code s) := only_writeFailureRecorded only_refl
  have hbrg : (writeFailureRecorded l w code s).brg = s.brg := hrec.2 .brg (by decide)
  have hvot : (writeFailureRecorded l w code s).vot = s.vot := hrec.2 .vot (by decide)
  have hdmas : (writeFailureRecorded l w code s).dmas = s.dmas := hrec.2 .dmas (by decide)
  cases hdma : w.dma with
  | none =>
    rw [writeFailureTold_of_none hdma, if_pos rfl, Option.isNone_none, Bool.and_true]
    unfold when
    split
    · rw [readReturns_brg, readReturns_vot, readReturns_rest]
      unfold countFailed
      dsimp only
      rw [hbrg, hvot, hdmas]
      exact ⟨rfl, rfl, fun _ => rfl⟩
    · unfold countFailed
      dsimp only
      rw [hbrg, hvot, hdmas, List.append_nil]
      exact ⟨rfl, rfl, fun _ => rfl⟩
  | some c =>
    have hstop : OnlyIn [.regs, .icus, .dmas] (writeFailureRecorded l w code s) (dmaStop c 3 (writeFailureRecorded l w code s)) := only_dmaStop only_refl
    have hbrg' := hstop.2 .brg (by decide)
    have hvot' := hstop.2 .vot (by decide)
    rw [writeFailureTold_of_some hdma, if_neg (by simp), Option.isNone_some, Bool.and_false, if_neg Bool.false_ne_true, if_neg Bool.false_ne_true, List.append_nil]
    exact ⟨hbrg'.trans hbrg, hvot'.trans hvot, fun h => absurd h (by simp)⟩

theorem getD_modAt_self {α : Type} (l : List α) (i : Nat) (f : α → α) (d : α) (h : i < l.length) : (modAt l i f).getD i d = f (l.getD i d) := by
  induction l generalizing i with
  | nil => exact absurd h (Nat.not_lt_zero _)
  | cons x xs ih =>
    cases i with
    | zero => rfl
    | succ i => exact ih i (Nat.lt_of_succ_lt_succ h)

theorem getD_modAt_ne {α : Type} (l : List α) (i j : Nat) (f : α → α) (d : α) (h : j ≠ i) : (modAt l i f).getD j d = l.getD j d := by
  induction l generalizing i j with
  | nil => rfl
  | cons x xs ih =>
    cases i with
    | zero =>
      cases j with
      | zero => exact absurd rfl h
      | succ j => rfl
    | succ i =>
      cases j with
      | zero => rfl
      | succ j => exact ih i j fun e => h (congrArg Nat.succ e)

/-- A running channel that is stopped for an error. -/
theorem dmaStop_of_running {c err : Nat} {s : State} (h : (s.dma c).state = .running) :
    dmaStop c err s = ({ s with dmas := modAt s.dmas c fun d => { d with state := .error, error := err, seq := d.seq + 1 } }
      |> bump Off.DMA_ERRORS |> raiseIrq Irq.DMA_ERROR) ∧
    (dmaStop c err s).dma c = { s.dma c with state := .error, error := err, seq := (s.dma c).seq + 1 } := by
  have hlt : c < s.dmas.length := by
    by_contra hge
    rw [State.dma, List.getD_eq_default _ _ (Nat.le_of_not_lt hge)] at h
    exact absurd h (by decide)
  have heq : dmaStop c err s = ({ s with dmas := modAt s.dmas c fun d => { d with state := .error, error := err, seq := d.seq + 1 } }
      |> bump Off.DMA_ERRORS |> raiseIrq Irq.DMA_ERROR) := if_pos (by rw [← State.dma, h]; rfl)
  exact ⟨heq, by rw [heq]; exact getD_modAt_self _ _ _ _ hlt⟩

theorem fifoPushed_of_full {l code : Nat} {w : Posted} {s : State} (h : 16 ≤ s.brg.fifo.length) :
    fifoPushed l w code s = ({ s with brg := { s.brg with lost := true } } |> bump Off.BRG_FAIL_LOST |> raiseIrq Irq.BRG_FIFO_OVERFLOW) := by
  rw [fifoPushed, if_pos (by simpa using h)]

theorem fifoPushed_blocks (l : Nat) (w : Posted) (code : Nat) (s : State) (hwf : RegsWf s) :
    (s.brg.fifo.length < 16 → (fifoPushed l w code s).brg = { s.brg with lost := false, fifo := s.brg.fifo ++ [⟨mkWord [(0, w.tag), (12, l), (13, code),
      (16, if w.dma.isSome then 0 else w.stream), (22, if w.dma.isSome then 0 else w.lanes.toNat), (25, w.dma.getD 0), (29, b2n w.dma.isSome),
      (30, b2n s.brg.lost)], w.addr⟩] }) ∧
    (16 ≤ s.brg.fifo.length → (fifoPushed l w code s).brg = { s.brg with lost := true } ∧
      (fifoPushed l w code s).reg Off.BRG_FAIL_LOST = s.reg Off.BRG_FAIL_LOST + 1 ∧ Raised Irq.BRG_FIFO_OVERFLOW (fifoPushed l w code s)) ∧
    OnlyIn [.regs, .icus, .brg] s (fifoPushed l w code s) := by
  refine ⟨fun hroom => ?_, fun hfull => ?_, only_ite (only_raiseIrq (only_bump (only_mk only_refl))) (only_mk only_refl)⟩
  · rw [fifoPushed, if_neg (by simpa using hroom)]
  · rw [fifoPushed_of_full hfull]
    let s1 : State := { s with brg := { s.brg with lost := true } }
    have hwf1 : RegsWf s1 := wf_mk hwf
    have hraise : OnlyIn [.icus] (bump Off.BRG_FAIL_LOST s1) (raiseIrq Irq.BRG_FIFO_OVERFLOW (bump Off.BRG_FAIL_LOST s1)) := only_raiseIrq only_refl
    refine ⟨by rw [raiseIrq_brg, bump_brg], ?_, raised_raiseIrq _ _ (by decide)⟩
    rw [reg_of_only _ hraise, reg_bump_unmasked _ _ hwf1 (by decide)]
    rfl

/-- The write's failure as WriteFailed tells it. -/
theorem writeFailed_failWrite (l : Nat) (w : Posted) (code : Nat) (s : State) (hwf : RegsWf s) : WriteFailed l w code s (failWrite l w code s) := by
  obtain ⟨hroom, hfull, hpush⟩ := fifoPushed_blocks l w code s hwf
  let u := bump Off.BRG_WRITE_FAILS (fifoPushed l w code s)
  have hu : OnlyIn [.regs, .icus, .brg] s u := only_bump hpush
  obtain ⟨hbrg, hvot, hdmas⟩ := writeFailureTold_blocks l w code u
  have hubrg : u.brg = (fifoPushed l w code s).brg := bump_brg _ _
  have huvot : u.vot = s.vot := hu.2 .vot (by decide)
  have hudmas : u.dmas = s.dmas := hu.2 .dmas (by decide)
  have hkept : (fifoPushed l w code s).brg.failed = s.brg.failed ∧ (fifoPushed l w code s).brg.answers = s.brg.answers := by
    by_cases h : s.brg.fifo.length < 16
    · rw [hroom h]
      exact ⟨rfl, rfl⟩
    · rw [(hfull (by omega)).1]
      exact ⟨rfl, rfl⟩
  have heq : failWrite l w code s = writeFailureTold l w code u := failWrite_eq l w code s
  have htold := regs_writeFailureTold (R := [Off.REC_LOST_CNT, Off.DMA_ERRORS]) (b := u) (l := l) (code := code) (w := w) regs_refl
  have hrec : Recorded 0x0C01 [iU64 1 w.addr, iU8 2 l, iU16 3 w.tag, iU8 4 code, iU8 5 w.stream, iU8 6 w.lanes.toNat, iU8 7 (w.dma.getD 255)] s
      (writeFailureTold l w code u) := by
    have hfirst : Recorded 0x0C01 [iU64 1 w.addr, iU8 2 l, iU16 3 w.tag, iU8 4 code, iU8 5 w.stream, iU8 6 w.lanes.toNat, iU8 7 (w.dma.getD 255)] s
        (writeFailureRecorded l w code u) := recorded_record_of (P := [.regs, .icus, .brg]) (only_raiseIrq hu)
    refine recorded_after (P := [.vot, .brg, .regs, .icus, .dmas]) hfirst ?_
    cases hdma : w.dma with
    | none =>
      rw [writeFailureTold_of_none hdma]
      exact only_when only_readReturns (only_countFailed only_refl)
    | some c =>
      rw [writeFailureTold_of_some hdma]
      exact only_dmaStop only_refl
  refine ⟨reg_failWrite l w code s hwf, raised_failWrite_fresh l w code s, heq ▸ hrec, fun h => ?_, fun h => ?_, fun h => ?_, ?_, ?_, fun c hc => ?_⟩
  · rw [heq, hbrg, hubrg, hroom h]
    exact ⟨rfl, rfl⟩
  · obtain ⟨hlost, hcount, hirq⟩ := hfull h
    have hraised : Raised Irq.BRG_FIFO_OVERFLOW (writeFailureTold l w code u) := by
      have hfirst : Raised Irq.BRG_FIFO_OVERFLOW (writeFailureRecorded l w code u) := raised_record (raised_raiseIrq_too (raised_bump hirq))
      cases hdma : w.dma with
      | none =>
        rw [writeFailureTold_of_none hdma]
        exact raised_when raised_readReturns (raised_countFailed hfirst)
      | some c =>
        rw [writeFailureTold_of_some hdma]
        exact raised_dmaStop hfirst
    rw [heq, hbrg, hubrg, hlost, htold _ (by decide)]
    exact ⟨rfl, rfl, (reg_bump_ne _ _ _ (by decide)).trans hcount, hraised⟩
  · rw [heq, hbrg, hdmas h, hudmas, if_pos h, hubrg, hkept.1]
    exact ⟨look_put_self _ _ _, rfl⟩
  · rw [heq, hbrg, hubrg, hkept.2]
  · rw [heq, hvot, huvot]
  · have hrecorded : OnlyIn recParts u (writeFailureRecorded l w code u) := only_writeFailureRecorded only_refl
    have hdma' : ∀ k, (writeFailureRecorded l w code u).dma k = s.dma k := fun k => by
      have hd : (writeFailureRecorded l w code u).dmas = s.dmas := (hrecorded.2 .dmas (by decide)).trans hudmas
      rw [State.dma, hd]
      rfl
    refine ⟨by rw [heq, hbrg, if_neg (by rw [hc]; simp), hubrg, hkept.1], fun hrun => ?_⟩
    obtain ⟨hstop, hself⟩ := dmaStop_of_running (err := 3) ((congrArg Dma.state (hdma' c)).trans hrun)
    rw [heq, writeFailureTold_of_some hc, hself]
    refine ⟨rfl, rfl, ?_⟩
    rw [hstop]
    exact raised_raiseIrq _ _ (by decide)

/-! ### Writes of the window (R438, R441, R447) -/

theorem windowOf_link {addr l r : Nat} (h : windowOf addr = some (l, r)) : l < 2 := by
  unfold windowOf at h
  split at h
  · obtain ⟨rfl, _⟩ := Prod.mk.inj (Option.some.inj h)
    simp only [Bool.and_eq_true, decide_eq_true_eq] at *
    omega
  · exact absurd h (by simp)

theorem exec_windowWrite {s : State} {stream addr l r : Nat} {lanes : BitVec 3} {data : List Byte} {c : Instr}
    (hc : c = .bridgeWrite stream lanes addr data false ∨ c = .npWrite stream lanes addr data) (hup : s.up = true) (haddr : windowOf addr = some (l, r))
    (hlen : data.length ≤ 4096) : exec c s = .next (linkWrite l r stream lanes none data s) := by
  have hop : windowWrite stream lanes addr data s = linkWrite l r stream lanes none data s := by
    unfold windowWrite
    rw [haddr]
    exact if_pos (by rw [hup, decide_eq_true hlen]; rfl)
  obtain rfl | rfl := hc
  · exact congrArg Host.Outcome.next hop
  · exact congrArg Host.Outcome.next hop

/-- The write of an access that a link takes or refuses next. -/
def nextWrite (l r stream : Nat) (lanes : BitVec 3) (data : List Byte) (s : State) : Posted :=
  ⟨(s.culvert l).nextTag, r, stream, lanes, none, s.npWindow l r, s.now, data, none⟩

@[simp] theorem readReturns_out (stream : Nat) (err : Bool) (data : List Byte) (s : State) : (readReturns stream err data s).out = s.out :=
  (only_readReturns (P := [.vot, .brg]) only_refl).2 .out (by decide)

@[simp] theorem failWrite_out (l : Nat) (w : Posted) (code : Nat) (s : State) : (failWrite l w code s).out = s.out :=
  (only_failWrite (P := .vot :: .brg :: .dmas :: recParts) only_refl).2 .out (by decide)

theorem nextTag_link {l : Nat} (hl : l < 2) (s : State) :
    (nextTag l s).culvert l = { s.culvert l with nextTag := ((s.culvert l).nextTag + 1) % 4096,
                                                 failedTags := (s.culvert l).failedTags.filter fun t => t != (s.culvert l).nextTag } ∧
    (∀ m, m ≠ l → (nextTag l s).culvert m = s.culvert m) ∧ OnlyIn [.brg] s (nextTag l s) ∧ (nextTag l s).brg.answers = s.brg.answers ∧
    (nextTag l s).brg.fifo = s.brg.fifo ∧ (nextTag l s).brg.lost = s.brg.lost ∧ (nextTag l s).brg.failed = s.brg.failed := by
  refine ⟨culvert_setCulvert_self hl _ s, fun m hm => culvert_setCulvert_ne hl hm _ s, only_setCulvert only_refl, ?_⟩
  obtain rfl | rfl : l = 0 ∨ l = 1 := by omega
  · exact ⟨rfl, rfl, rfl, rfl⟩
  · exact ⟨rfl, rfl, rfl, rfl⟩

/-- A failure told from a state that differs in the link and what waits on it alone. -/
theorem writeFailed_of_link {l code : Nat} {w : Posted} {s s' t : State} (h : WriteFailed l w code s' t) (hs : OnlyIn [.out, .brg] s s')
    (hans : s'.brg.answers = s.brg.answers) (hfifo : s'.brg.fifo = s.brg.fifo) (hlost : s'.brg.lost = s.brg.lost) (hfailed : s'.brg.failed = s.brg.failed) :
    WriteFailed l w code s t := by
  obtain ⟨hcount, hraised, hrec, hroom, hfull, hlane, hanswers, hvot, hdma⟩ := h
  have hregs : ∀ k, s'.reg k = s.reg k := fun k => reg_of_only k hs
  have hvot' : s'.vot = s.vot := hs.2 .vot (by decide)
  have hdmas : s'.dmas = s.dmas := hs.2 .dmas (by decide)
  have hdma' : ∀ c, s'.dma c = s.dma c := fun c => by rw [State.dma, hdmas]; rfl
  rw [hfifo, hlost] at hroom
  rw [hfifo, hregs] at hfull
  rw [hfailed, hdmas] at hlane
  refine ⟨by rw [hcount, hregs], hraised, recorded_before hrec hs, hroom, hfull, hlane, by rw [hanswers, hans], by rw [hvot, hvot'], fun c hc => ?_⟩
  rw [← hfailed, ← hdma']
  exact hdma c hc

theorem writeFailed_failLocally {l code : Nat} {w : Posted} {s : State} (hl : l < 2) (hwf : RegsWf s) : WriteFailed l w code s (failLocally l w code s) := by
  refine writeFailed_of_link (writeFailed_failWrite l w code _ (wf_setCulvert hwf)) (only_setCulvert only_refl) ?_ ?_ ?_ ?_ <;>
    obtain rfl | rfl : l = 0 ∨ l = 1 := by omega
  all_goals rfl

theorem culvert_failLocally {l code : Nat} {w : Posted} {s : State} (hl : l < 2) :
    (failLocally l w code s).culvert l = { s.culvert l with failedTags := w.tag :: (s.culvert l).failedTags } ∧
      ∀ m, m ≠ l → (failLocally l w code s).culvert m = s.culvert m := by
  refine ⟨(culvert_of_kept linksKept_failWrite l).trans (culvert_setCulvert_self hl _ s), fun m hm => ?_⟩
  exact (culvert_of_kept linksKept_failWrite m).trans (culvert_setCulvert_ne hl hm _ s)

theorem regs_failLocally_of_none {R : List Nat} {b s : State} {l code : Nat} {w : Posted} (hdma : w.dma = none) (h : RegsOnly R b s)
    (hR : ∀ o ∈ [Off.BRG_WRITE_FAILS, Off.BRG_FAIL_LOST, Off.REC_LOST_CNT], o ∈ R := by decide) : RegsOnly R b (failLocally l w code s) :=
  regs_via h hR fun b h => by
    rw [failLocally, failWrite_eq, writeFailureTold_of_none hdma]
    exact regs_when regs_readReturns (regs_countFailed (regs_record (regs_raiseIrq (regs_bump
      (regs_ite (regs_raiseIrq (regs_bump (regs_mk (regs_setCulvert h)))) (regs_mk (regs_setCulvert h)))))))

theorem only_failLocally_of_none {P : List Part} {b s : State} {l code : Nat} {w : Posted} (hdma : w.dma = none) (h : OnlyIn P b s)
    (hP : ∀ p ∈ Part.vot :: .brg :: recParts, p ∈ P := by decide) : OnlyIn P b (failLocally l w code s) :=
  only_via h hP fun b h => by
    rw [failLocally, failWrite_eq, writeFailureTold_of_none hdma]
    exact only_when only_readReturns (only_countFailed (only_record (only_raiseIrq (only_bump
      (only_ite (only_raiseIrq (only_bump (only_mk (only_setCulvert h)))) (only_mk (only_setCulvert h)))))))

theorem exists_next_windowWrite (s : State) (stream addr l r : Nat) (lanes : BitVec 3) (data : List Byte) (c : Instr) (w : Posted) (hwf : RegsWf s)
    (hc : c = .bridgeWrite stream lanes addr data false ∨ c = .npWrite stream lanes addr data) (hup : s.up = true) (haddr : windowOf addr = some (l, r))
    (hlen : data.length ≤ 4096) (hroom : (s.culvert l).posted.length < 2048)
    (hw : w = ⟨(s.culvert l).nextTag, r, stream, lanes, none, s.npWindow l r, s.now, data, none⟩) :
    (¬ (l = 1 ∧ bit s.brg.cfg 4 = true ∧ s.fenced = true) → (s.culvert l).state = .up →
      ∃ t, exec c s = .next t ∧ (t.culvert l).posted = (s.culvert l).posted ++ [w] ∧ (t.culvert l).nextTag = ((s.culvert l).nextTag + 1) % 4096 ∧
        (t.culvert l).failedTags = (s.culvert l).failedTags.filter (fun g => g != w.tag) ∧
        (t.culvert l).txSeq = ((s.culvert l).txSeq + 1) % 65536 ∧
        t.out = s.out ++ [.packet l (s.nextPacket l (if w.np then 2 else 1) w.tag r data.length data)] ∧
        (t.culvert l).unacked = (s.culvert l).unacked ++ [⟨s.nextPacket l (if w.np then 2 else 1) w.tag r data.length data, 0, s.now⟩] ∧
        (t.culvert l).reads = (s.culvert l).reads ∧ (∀ m, m ≠ l → t.culvert m = s.culvert m) ∧ OnlyIn [.out, .brg] s t) ∧
    (∀ code : Nat, (if l = 1 ∧ bit s.brg.cfg 4 = true ∧ s.fenced = true then code = 4 else (s.culvert l).state ≠ .up ∧ code = 6) →
      ∃ t, exec c s = .next t ∧ WriteFailed l w code s t ∧
        t.culvert l = { s.culvert l with nextTag := ((s.culvert l).nextTag + 1) % 4096, failedTags := w.tag :: (s.culvert l).failedTags.filter (fun g => g != w.tag) } ∧
        (∀ m, m ≠ l → t.culvert m = s.culvert m) ∧ RegsOnly [Off.BRG_WRITE_FAILS, Off.BRG_FAIL_LOST, Off.REC_LOST_CNT] s t ∧
        OnlyIn (.vot :: .brg :: recParts) s t) := by
  have hl : l < 2 := windowOf_link haddr
  have hexec := exec_windowWrite hc hup haddr hlen
  obtain ⟨htag, htagOther, htagOnly, hans, hfifo, hlost, hfailed⟩ := nextTag_link hl s
  have htagParts : OnlyIn [.out, .brg] s (nextTag l s) := only_nextTag only_refl
  have hrefuses : s.refuses l = decide (l = 1 ∧ bit s.brg.cfg 4 = true ∧ s.fenced = true) := by
    rw [Bool.eq_iff_iff]
    simp [State.refuses, and_assoc]
  have hwrite : linkWrite l r stream lanes none data s =
      if l = 1 ∧ bit s.brg.cfg 4 = true ∧ s.fenced = true then failLocally l w 4 (nextTag l s)
      else if (s.culvert l).state ≠ .up then failLocally l w 6 (nextTag l s)
      else nextTag l s |> setCulvert l (fun c => { c with posted := c.posted ++ [w] }) |> linkSend l (if w.np then 2 else 1) 0 w.tag r data.length data := by
    have hsome : ¬ s.room l = 0 := by
      unfold State.room
      omega
    subst hw
    unfold linkWrite
    dsimp only
    rw [if_neg hsome, hrefuses]
    simp only [decide_eq_true_eq, bne_iff_ne]
  rw [hwrite] at hexec
  have htagW : w.tag = (s.culvert l).nextTag := by rw [hw]
  refine ⟨fun hopen hstate => ?_, fun code hcode => ?_⟩
  · rw [if_neg hopen, if_neg (not_not.mpr hstate)] at hexec
    let s2 := nextTag l s |> setCulvert l (fun c => { c with posted := c.posted ++ [w] })
    have hs2 : s2.culvert l = { s.culvert l with nextTag := ((s.culvert l).nextTag + 1) % 4096, posted := (s.culvert l).posted ++ [w],
                                                 failedTags := (s.culvert l).failedTags.filter fun t => t != (s.culvert l).nextTag } := by
      rw [show s2.culvert l = _ from culvert_setCulvert_self hl _ _, htag]
    have hs2Only : OnlyIn [.brg] s s2 := only_setCulvert htagOnly
    have hsent : (linkSend l (if w.np then 2 else 1) 0 w.tag r data.length data s2).culvert l = _ := culvert_setCulvert_self hl _ s2
    have hout : s2.out = s.out := hs2Only.2 .out (by decide)
    have hnow : s2.now = s.now := hs2Only.2 .now (by decide)
    rw [hs2, hnow, hstate] at hsent
    refine ⟨_, hexec, ?_, ?_, ?_, ?_, ?_, ?_, ?_, fun m hm => ?_, only_linkSend (only_setCulvert htagParts)⟩
    · rw [hsent]
    · rw [hsent]
    · rw [hsent, htagW]
    · rw [hsent]
    · show (linkSend l _ 0 w.tag r data.length data s2).out = _
      unfold linkSend send
      dsimp only
      rw [(only_setCulvert (P := [.brg]) only_refl : OnlyIn [.brg] s2 (setCulvert l _ s2)).2 .out (by decide), hout, hs2]
      rfl
    · rw [hsent]
      rfl
    · rw [hsent]
    · exact (culvert_setCulvert_ne hl hm _ s2).trans ((culvert_setCulvert_ne hl hm _ _).trans (htagOther m hm))
  · have hcase : exec c s = .next (failLocally l w code (nextTag l s)) := by
      split at hcode
      · next hopen => rw [hexec, if_pos hopen, hcode]
      · next hopen => rw [hexec, if_neg hopen, if_pos hcode.1, hcode.2]
    have hnone : w.dma = none := by rw [hw]
    obtain ⟨hself, hother⟩ := culvert_failLocally (code := code) (w := w) (s := nextTag l s) hl
    rw [htag] at hself
    refine ⟨_, hcase, writeFailed_of_link (writeFailed_failLocally hl (wf_nextTag hwf)) htagParts hans hfifo hlost hfailed, ?_, fun m hm => (hother m hm).trans (htagOther m hm),
      regs_failLocally_of_none hnone (regs_nextTag regs_refl), only_failLocally_of_none hnone (only_nextTag only_refl)⟩
    rw [hself, htagW]

theorem exists_next_corruptWrite (s : State) (stream addr : Nat) (lanes : BitVec 3) (data : List Byte) (hup : s.up = true) :
    ∃ t, exec (.bridgeWrite stream lanes addr data true) s = .next t ∧ FellSilent s t ∧ t.sys.hubFault = true ∧ OnlyIn silentParts s t := by
  obtain ⟨hsys, hsilent, honly⟩ := hubFail_of_up hup
  exact ⟨hubFail s, rfl, hsilent, by rw [hsys], honly⟩

/-! ### The answers to writes (R443 to R445) -/

/-- A packet that a link takes: its acknowledgement, and the sequence number that is expected next. -/
theorem linkTake_link {l : Nat} {p : Packet} {s : State} (hok : s.packetOk l p = true) :
    l < 2 ∧ s.up = true ∧ (linkTake l p s).culvert l = { s.culvert l with rxSeq := ((s.culvert l).rxSeq + 1) % 65536 } ∧
      (∀ m, m ≠ l → (linkTake l p s).culvert m = s.culvert m) ∧ (linkTake l p s).out = s.out ++ s.ackMsgs l p ∧
      (linkTake l p s).brg.answers = s.brg.answers ∧ (linkTake l p s).brg.fifo = s.brg.fifo ∧ (linkTake l p s).brg.lost = s.brg.lost ∧
      (linkTake l p s).brg.failed = s.brg.failed ∧ OnlyIn [.out, .brg] s (linkTake l p s) := by
  simp only [State.packetOk, Bool.and_eq_true, decide_eq_true_eq, beq_iff_eq] at hok
  obtain ⟨⟨⟨⟨⟨⟨hup, hl⟩, hstate⟩, _⟩, _⟩, _⟩, _⟩ := hok
  have hack : s.ackMsgs l p = [.packet l ⟨10, 0, 0, p.seq, 0, 0, [], packetCrc ⟨10, 0, 0, p.seq, 0, 0, [], 0⟩⟩] :=
    if_neg (by rw [hstate]; decide)
  have hset : OnlyIn [.brg] s (setCulvert l (fun c => { c with rxSeq := (c.rxSeq + 1) % 65536 }) s) := only_setCulvert only_refl
  have hout : (setCulvert l (fun c => { c with rxSeq := (c.rxSeq + 1) % 65536 }) s).out = s.out := hset.2 .out (by decide)
  refine ⟨hl, hup, culvert_setCulvert_self hl _ s, fun m hm => culvert_setCulvert_ne hl hm _ s, ?_, ?_⟩
  · rw [hack]
    exact congrArg (· ++ _) hout
  · have honly : OnlyIn [.out, .brg] s (linkTake l p s) := only_linkTake only_refl
    obtain rfl | rfl : l = 0 ∨ l = 1 := by omega
    · exact ⟨rfl, rfl, rfl, rfl, honly⟩
    · exact ⟨rfl, rfl, rfl, rfl, honly⟩

theorem exec_wrAck {s : State} {l : Nat} {p : Packet} (hok : s.packetOk l p = true) (htype : p.type = 6) :
    exec (.wrAck l p) s = .next (afterWrites (writeAck l p.tag (linkTake l p s))) := by
  refine congrArg (fun t => Host.Outcome.next (afterWrites t)) ((if_pos hok).trans ?_)
  rw [htype]
  rfl

theorem exec_wrError {s : State} {l : Nat} {p : Packet} (hok : s.packetOk l p = true) (htype : p.type = 7) :
    exec (.wrError l p) s = .next (afterWrites (writeError l p.tag p.code (linkTake l p s))) := by
  refine congrArg (fun t => Host.Outcome.next (afterWrites t)) ((if_pos hok).trans ?_)
  rw [htype]
  rfl

theorem exists_next_wrAck (s : State) (l : Nat) (p : Packet) (hwf : RegsWf s) (hok : s.packetOk l p = true) (htype : p.type = 6) (hidle : s.nothingWaits) :
    (∀ w, p.tag ∉ (s.culvert l).failedTags → (s.culvert l).posted.find? (fun x => x.np && x.tag == p.tag) = some w →
      ∃ t, exec (.wrAck l p) s = .next t ∧ (t.culvert l).posted = (s.culvert l).posted.erase w ∧
        t.brg.answers = s.brg.answers ++ (if w.dma = none then [⟨w.stream, false, []⟩] else []) ∧
        t.vot = (if w.dma = none then s.vot.returned w.stream false [] else s.vot) ∧ t.out = s.out ++ s.ackMsgs l p ∧
        (t.culvert l).rxSeq = ((s.culvert l).rxSeq + 1) % 65536 ∧ (∀ m, m ≠ l → t.culvert m = s.culvert m) ∧ OnlyIn [.out, .vot, .brg] s t) ∧
    (p.tag ∉ (s.culvert l).failedTags → (s.culvert l).posted.find? (fun x => x.np && x.tag == p.tag) = none →
      ∃ t, exec (.wrAck l p) s = .next t ∧ (t.culvert l).posted = (s.culvert l).posted.filter (fun w => w.np || !tagUpTo p.tag w.tag) ∧
        t.brg.answers = s.brg.answers ∧ t.out = s.out ++ s.ackMsgs l p ∧ (∀ m, m ≠ l → t.culvert m = s.culvert m) ∧ OnlyIn [.out, .brg] s t) ∧
    (p.tag ∈ (s.culvert l).failedTags →
      ∃ t, exec (.wrAck l p) s = .next t ∧ (t.culvert l).posted = (s.culvert l).posted ∧
        t.reg Off.BRG_LATE_ANSWERS = s.reg Off.BRG_LATE_ANSWERS + 1 ∧ t.out = s.out ++ s.ackMsgs l p ∧
        RegsOnly [Off.BRG_LATE_ANSWERS] s t ∧ OnlyIn [.regs, .out, .brg] s t) := by
  have hexec := exec_wrAck hok htype
  obtain ⟨hl, _, hself, hother, hout, hans, _, _, _, honly⟩ := linkTake_link hok
  have hidle1 : (linkTake l p s).nothingWaits := nothingWaits_of_only hidle honly
  refine ⟨fun w hfresh hfind => ?_, fun hfresh hfind => ?_, fun hlate => ?_⟩
  · let s2 := setCulvert l (fun c => { c with posted := c.posted.erase w }) (linkTake l p s)
    have hop : writeAck l p.tag (linkTake l p s) = when w.dma.isNone (readReturns w.stream false []) s2 := by
      unfold writeAck
      dsimp only
      rw [hself, if_neg (by simpa using hfresh), hfind]
    have hs2 : s2.culvert l = { s.culvert l with rxSeq := ((s.culvert l).rxSeq + 1) % 65536, posted := (s.culvert l).posted.erase w } :=
      (culvert_setCulvert_self hl _ _).trans (by rw [hself])
    have hs2Other : ∀ m, m ≠ l → s2.culvert m = s.culvert m := fun m hm => (culvert_setCulvert_ne hl hm _ _).trans (hother m hm)
    have hs2Only : OnlyIn [.out, .brg] s s2 := only_setCulvert honly
    have hs2Ans : s2.brg.answers = s.brg.answers := (setCulvert_answers _ _ _).trans hans
    have hs2Out : s2.out = s.out ++ s.ackMsgs l p := (setCulvert_out _ _ _).trans hout
    have hs2Vot : s2.vot = s.vot := hs2Only.2 .vot (by decide)
    have hidle2 : s2.nothingWaits := nothingWaits_of_only hidle hs2Only
    cases hdma : w.dma with
    | none =>
      rw [hdma, Option.isNone_none, when_true] at hop
      have hkept : LinksKept s2 (readReturns w.stream false [] s2) := linksKept_readReturns
      rw [hop, afterWrites_of_idle (nothingWaits_of_same hidle2 (readReturns_open _ _ _ _) hkept.2.2.2.1)] at hexec
      refine ⟨_, hexec, ?_, ?_, ?_, ?_, ?_, fun m hm => (culvert_of_kept hkept m).trans (hs2Other m hm), only_readReturns (only_setCulvert (only_linkTake only_refl))⟩
      · rw [culvert_of_kept hkept, hs2]
      · rw [readReturns_brg, hs2Ans, if_pos rfl]
      · rw [readReturns_vot, hs2Vot, if_pos rfl]
      · exact (readReturns_out _ _ _ _).trans hs2Out
      · rw [culvert_of_kept hkept, hs2]
    | some c =>
      rw [hdma, Option.isNone_some, when_false] at hop
      rw [hop, afterWrites_of_idle hidle2] at hexec
      refine ⟨_, hexec, ?_, ?_, ?_, hs2Out, ?_, hs2Other, only_setCulvert (only_linkTake only_refl)⟩
      · rw [hs2]
      · rw [hs2Ans, if_neg (by simp), List.append_nil]
      · rw [hs2Vot, if_neg (by simp)]
      · rw [hs2]
  · have hop : writeAck l p.tag (linkTake l p s) =
        setCulvert l (fun c => { c with posted := c.posted.filter fun w => w.np || !tagUpTo p.tag w.tag }) (linkTake l p s) := by
      unfold writeAck
      dsimp only
      rw [hself, if_neg (by simpa using hfresh), hfind]
    have hset : OnlyIn [.out, .brg] s (setCulvert l (fun c => { c with posted := c.posted.filter fun w => w.np || !tagUpTo p.tag w.tag }) (linkTake l p s)) := only_setCulvert honly
    rw [hop, afterWrites_of_idle (nothingWaits_of_only hidle hset)] at hexec
    refine ⟨_, hexec, ?_, (setCulvert_answers _ _ _).trans hans, (setCulvert_out _ _ _).trans hout,
      fun m hm => (culvert_setCulvert_ne hl hm _ _).trans (hother m hm), hset⟩
    rw [culvert_setCulvert_self hl, hself]
  · have hop : writeAck l p.tag (linkTake l p s) = bump Off.BRG_LATE_ANSWERS (linkTake l p s) := by
      unfold writeAck
      dsimp only
      rw [hself, if_pos (by simpa using hlate)]
    have hbump : OnlyIn [.regs] (linkTake l p s) (bump Off.BRG_LATE_ANSWERS (linkTake l p s)) := only_bump only_refl
    rw [hop, afterWrites_of_idle (nothingWaits_of_only hidle1 hbump)] at hexec
    refine ⟨_, hexec, ?_, ?_, (hbump.2 .out (by decide)).trans hout, regs_bump (regs_linkTake regs_refl), only_bump (only_linkTake only_refl)⟩
    · unfold State.culvert at hself ⊢
      rw [bump_brg, hself]
    · rw [reg_bump_unmasked _ _ (wf_linkTake hwf) (by decide), reg_of_only _ honly]

theorem culvert_bump (key : Nat) (s : State) (l : Nat) : (bump key s).culvert l = s.culvert l := by
  unfold State.culvert
  rw [bump_brg]

/-- A write whose error comes while its tag has not failed. -/
theorem writeError_of_posted {s : State} {l : Nat} {p : Packet} {w : Posted} (code : Nat) (hwf : RegsWf s) (hok : s.packetOk l p = true)
    (hfresh : p.tag ∉ (s.culvert l).failedTags) (hfind : (s.culvert l).posted.find? (fun x => x.tag == p.tag) = some w) :
    let t := writeError l p.tag code (linkTake l p s)
    WriteFailed l w code s t ∧ (t.culvert l).posted = (s.culvert l).posted.erase w ∧
      t.out = s.out ++ s.ackMsgs l p ∧ (∀ m, m ≠ l → t.culvert m = s.culvert m) ∧
      (t.vot.open_ = s.vot.open_ ∧ t.erec.state = s.erec.state ∧
        RegsOnly [Off.BRG_WRITE_FAILS, Off.BRG_FAIL_LOST, Off.DMA_ERRORS, Off.REC_LOST_CNT] s t) ∧
      OnlyIn (.out :: .vot :: .brg :: .dmas :: recParts) s t := by
  obtain ⟨hl, _, hself, hother, hout, hans, hfifo, hlost, hfailed, honly⟩ := linkTake_link hok
  let s2 := setCulvert l (fun c => { c with posted := c.posted.erase w }) (linkTake l p s)
  have hop : writeError l p.tag code (linkTake l p s) = failWrite l w code s2 := by
    unfold writeError
    dsimp only
    rw [hself, if_neg (by simpa using hfresh), hfind]
  have hs2Only : OnlyIn [.out, .brg] s s2 := only_setCulvert honly
  have hkept : LinksKept s2 (failWrite l w code s2) := linksKept_failWrite
  have hbrg : s2.brg.answers = s.brg.answers ∧ s2.brg.fifo = s.brg.fifo ∧ s2.brg.lost = s.brg.lost ∧ s2.brg.failed = s.brg.failed := by
    rw [← hans, ← hfifo, ← hlost, ← hfailed]
    obtain rfl | rfl : l = 0 ∨ l = 1 := by omega
    · exact ⟨rfl, rfl, rfl, rfl⟩
    · exact ⟨rfl, rfl, rfl, rfl⟩
  obtain ⟨hans2, hfifo2, hlost2, hfailed2⟩ := hbrg
  obtain ⟨_, _, hopen, hstate, _⟩ := hkept
  rw [hop]
  refine ⟨writeFailed_of_link (writeFailed_failWrite l w code s2 (wf_setCulvert (wf_linkTake hwf))) hs2Only hans2 hfifo2 hlost2 hfailed2, ?_, ?_,
    fun m hm => (culvert_of_kept linksKept_failWrite m).trans ((culvert_setCulvert_ne hl hm _ _).trans (hother m hm)),
    ⟨hopen.trans (congrArg Vot.open_ (hs2Only.2 .vot (by decide))), hstate.trans (congrArg Recorder.state (hs2Only.2 .erec (by decide))),
      regs_failWrite (regs_setCulvert (regs_linkTake regs_refl))⟩, only_failWrite (only_setCulvert (only_linkTake only_refl))⟩
  · rw [culvert_of_kept linksKept_failWrite, culvert_setCulvert_self hl, hself]
  · exact (failWrite_out _ _ _ _).trans ((setCulvert_out _ _ _).trans hout)

theorem exists_next_wrError (s : State) (l : Nat) (p : Packet) (hwf : RegsWf s) (hok : s.packetOk l p = true) (htype : p.type = 7) (hidle : s.nothingWaits) :
    (∀ w, p.tag ∉ (s.culvert l).failedTags → (s.culvert l).posted.find? (fun x => x.tag == p.tag) = some w →
      ∃ t, exec (.wrError l p) s = .next t ∧ WriteFailed l w p.code s t ∧ (t.culvert l).posted = (s.culvert l).posted.erase w ∧
        t.out = s.out ++ s.ackMsgs l p ∧ (∀ m, m ≠ l → t.culvert m = s.culvert m) ∧
        RegsOnly [Off.BRG_WRITE_FAILS, Off.BRG_FAIL_LOST, Off.DMA_ERRORS, Off.REC_LOST_CNT] s t ∧ OnlyIn (.out :: .vot :: .brg :: .dmas :: recParts) s t) ∧
    (p.tag ∈ (s.culvert l).failedTags →
      ∃ t, exec (.wrError l p) s = .next t ∧ t.reg Off.BRG_LATE_ANSWERS = s.reg Off.BRG_LATE_ANSWERS + 1 ∧ t.brg.fifo = s.brg.fifo ∧
        (t.culvert l).posted = (s.culvert l).posted ∧
        t.out = s.out ++ s.ackMsgs l p ∧ (∀ m, m ≠ l → t.culvert m = s.culvert m) ∧ RegsOnly [Off.BRG_LATE_ANSWERS] s t ∧ OnlyIn [.regs, .out, .brg] s t) := by
  obtain ⟨_, _, hself, hother, hout, _, hfifo, _, _, honly⟩ := linkTake_link hok
  have hexec := exec_wrError hok htype
  refine ⟨fun w hfresh hfind => ?_, fun hlate => ?_⟩
  · obtain ⟨hfailed, hposted, hout', hother', ⟨hopen, hstate, hregs⟩, honly'⟩ := writeError_of_posted p.code hwf hok hfresh hfind
    rw [afterWrites_of_idle (nothingWaits_of_same hidle hopen hstate)] at hexec
    exact ⟨_, hexec, hfailed, hposted, hout', hother', hregs, honly'⟩
  · have hop : writeError l p.tag p.code (linkTake l p s) = bump Off.BRG_LATE_ANSWERS (linkTake l p s) := by
      unfold writeError
      dsimp only
      rw [hself, if_pos (by simpa using hlate)]
    have hbump : OnlyIn [.out, .brg, .regs] s (bump Off.BRG_LATE_ANSWERS (linkTake l p s)) := only_bump (only_linkTake only_refl)
    rw [hop, afterWrites_of_idle (nothingWaits_of_only hidle hbump)] at hexec
    refine ⟨_, hexec, ?_, by rw [bump_brg, hfifo], by rw [culvert_bump, hself], (bump_out _ _).trans hout, fun m hm => (culvert_bump _ _ m).trans (hother m hm),
      regs_bump (regs_linkTake regs_refl), only_bump (only_linkTake only_refl)⟩
    rw [reg_bump_unmasked _ _ (wf_linkTake hwf) (by decide), reg_of_only _ honly]

theorem exists_next_ackTimeout (s : State) (l tag : Nat) (hwf : RegsWf s) (hup : s.up = true) (hidle : s.nothingWaits) :
    (∀ w, l < 2 → (s.culvert l).posted.find? (fun x => x.tag == tag) = some w →
      ∃ t, exec (.ackTimeout l tag) s = .next t ∧ t.now = max s.now (w.at_ + s.ackLimit) ∧ WriteFailed l w 5 (advanceTo (w.at_ + s.ackLimit) s) t ∧
        t.culvert l = { s.culvert l with posted := (s.culvert l).posted.erase w, failedTags := w.tag :: (s.culvert l).failedTags } ∧
        (∀ m, m ≠ l → t.culvert m = s.culvert m) ∧
        RegsOnly [Off.BRG_WRITE_FAILS, Off.BRG_FAIL_LOST, Off.DMA_ERRORS, Off.REC_LOST_CNT] s t ∧
        OnlyIn (.now :: .time :: .nv :: .vot :: .brg :: .dmas :: recParts) s t) ∧
    ((s.culvert l).posted.find? (fun x => x.tag == tag) = none → exec (.ackTimeout l tag) s = .next s) := by
  have hexec : exec (.ackTimeout l tag) s = .next (afterWrites (ackExpiry l tag s)) := congrArg Host.Outcome.next (if_pos hup)
  refine ⟨fun w hl hfind => ?_, fun hfind => ?_⟩
  · let s' := advanceTo (w.at_ + s.ackLimit) s
    let s2 := setCulvert l (fun c => { c with posted := c.posted.erase w }) s'
    have hop : ackExpiry l tag s = failLocally l w 5 s2 := by
      unfold ackExpiry
      rw [hfind]
    have hadv : OnlyIn [.now, .isl, .time, .nv] s s' := only_advanceTo only_refl
    have hbrg : s'.brg = s.brg := hadv.2 .brg (by decide)
    have hculv : ∀ m, s'.culvert m = s.culvert m := fun m => by
      unfold State.culvert
      rw [hbrg]
    have hset : OnlyIn [.brg] s' s2 := only_setCulvert only_refl
    have hidle2 : s2.nothingWaits := nothingWaits_of_only (nothingWaits_of_only hidle hadv) hset
    have hbrg2 : s2.brg.answers = s'.brg.answers ∧ s2.brg.fifo = s'.brg.fifo ∧ s2.brg.lost = s'.brg.lost ∧ s2.brg.failed = s'.brg.failed := by
      obtain rfl | rfl : l = 0 ∨ l = 1 := by omega
      · exact ⟨rfl, rfl, rfl, rfl⟩
      · exact ⟨rfl, rfl, rfl, rfl⟩
    obtain ⟨hans2, hfifo2, hlost2, hfailed2⟩ := hbrg2
    have hwf2 : RegsWf s2 := wf_setCulvert (wf_advanceTo hwf)
    obtain ⟨hself, hother⟩ := culvert_failLocally (code := 5) (w := w) (s := s2) hl
    have hfail : OnlyIn (.vot :: .brg :: .dmas :: recParts) s2 (failLocally l w 5 s2) := only_failLocally only_refl
    have hopen : (failLocally l w 5 s2).vot.open_ = s2.vot.open_ ∧ (failLocally l w 5 s2).erec.state = s2.erec.state := by
      obtain ⟨_, _, _, _, _, hopen, hrec, _⟩ := linkEmptied_failLocally (l := l) (w := w) (code := 5) (s := s2) hl
      exact ⟨hopen, hrec⟩
    rw [hop, afterWrites_of_idle (nothingWaits_of_same hidle2 hopen.1 hopen.2)] at hexec
    refine ⟨_, hexec, ?_, writeFailed_of_link (writeFailed_failLocally hl hwf2) (only_setCulvert only_refl) hans2 hfifo2 hlost2 hfailed2, ?_, fun m hm => ?_,
      regs_failLocally (regs_setCulvert (regs_advanceTo regs_refl)), only_failLocally (only_setCulvert (only_advanceTo only_refl))⟩
    · exact (hfail.2 .now (by decide)).trans ((hset.2 .now (by decide)).trans (now_advanceTo _ s))
    · rw [hself, culvert_setCulvert_self hl, hculv]
    · exact (hother m hm).trans ((culvert_setCulvert_ne hl hm _ _).trans (hculv m))
  · rw [hexec, ackExpiry, hfind]
    exact congrArg Host.Outcome.next (afterWrites_of_idle hidle)

/-- Settles O46, command by command. -/
theorem culvertWrites : Obligations.CulvertWrites :=
  ⟨exists_next_windowWrite, exists_next_corruptWrite, exists_next_wrAck, exists_next_wrError, exists_next_ackTimeout⟩

end Sys2Proof.Machine

namespace Sys2Proof.Machine

set_option Elab.async false

/-- The hub runs as before while the mode block and the supply are as they were. -/
theorem up_of_only {P : List Part} {s t : State} (h : OnlyIn P s t) (hP : ∀ p ∈ [Part.sys, .isl], p ∉ P := by decide) : t.up = s.up := by
  have hsys : t.sys = s.sys := h.2 .sys (hP _ (by decide))
  have hisl : t.isl = s.isl := h.2 .isl (hP _ (by decide))
  unfold State.up State.hubOn
  rw [hsys, hisl]

/-! ### What a link sends -/

/-- A packet that a link sends from a state that has the link's sequence number and messages as `s` has them. -/
theorem linkSend_link {l : Nat} (hl : l < 2) (type tag addr len : Nat) (payload : List Byte) {s u : State} (hseq : (u.culvert l).txSeq = (s.culvert l).txSeq) :
    (linkSend l type 0 tag addr len payload u).out = u.out ++ [.packet l (s.nextPacket l type tag addr len payload)] ∧
      ((linkSend l type 0 tag addr len payload u).culvert l).reads = (u.culvert l).reads ∧
      ((linkSend l type 0 tag addr len payload u).culvert l).posted = (u.culvert l).posted ∧
      ((linkSend l type 0 tag addr len payload u).culvert l).nextTag = (u.culvert l).nextTag ∧
      ((linkSend l type 0 tag addr len payload u).culvert l).fetches = (u.culvert l).fetches ∧
      ((linkSend l type 0 tag addr len payload u).culvert l).inbound = (u.culvert l).inbound ∧
      ∀ m, m ≠ l → (linkSend l type 0 tag addr len payload u).culvert m = u.culvert m := by
  have hself : (linkSend l type 0 tag addr len payload u).culvert l = _ := culvert_setCulvert_self hl _ u
  refine ⟨?_, by rw [hself], by rw [hself], by rw [hself], by rw [hself], by rw [hself], fun m hm => culvert_setCulvert_ne hl hm _ u⟩
  unfold linkSend send State.nextPacket
  dsimp only
  rw [setCulvert_out, hseq]

theorem link_lt_of_up {s : State} {l : Nat} (h : (s.culvert l).state = .up) : l < 2 := by
  match l with
  | 0 => decide
  | 1 => decide
  | _ + 2 => exact nomatch h

theorem now_of_only {P : List Part} {s t : State} (h : OnlyIn P s t) (hP : Part.now ∉ P := by decide) : t.now = s.now := h.2 .now hP

/-! ### Reads that go out and their answers (R438, R448) -/

theorem exists_next_bridgeRead (s : State) (stream addr len l r : Nat) (hup : s.up = true) (haddr : windowOf addr = some (l, r)) :
    ((s.culvert l).state = .up → ∃ t, exec (.bridgeRead stream addr len) s = .next t ∧
      (t.culvert l).reads = (s.culvert l).reads ++ [⟨(s.culvert l).nextTag, r, len, stream, 0, false, s.now, none⟩] ∧
      (t.culvert l).nextTag = ((s.culvert l).nextTag + 1) % 4096 ∧ t.out = s.out ++ [.packet l (s.nextPacket l 3 (s.culvert l).nextTag r len [])] ∧
      (t.culvert l).posted = (s.culvert l).posted ∧ (∀ m, m ≠ l → t.culvert m = s.culvert m) ∧ OnlyIn [.out, .brg] s t) ∧
    ((s.culvert l).state ≠ .up → ∃ t, exec (.bridgeRead stream addr len) s = .next t ∧
      t.brg = { s.brg with answers := s.brg.answers ++ [⟨stream, true, []⟩] } ∧ t.vot = s.vot.returned stream true [] ∧ OnlyIn [.vot, .brg] s t) := by
  have hl : l < 2 := windowOf_link haddr
  have hexec : exec (.bridgeRead stream addr len) s = .next (windowRead stream addr len s) := congrArg Host.Outcome.next (if_pos hup)
  have hread : windowRead stream addr len s = if (s.culvert l).state ≠ .up then readReturns stream true [] s else sendRead l r len stream none s := by
    unfold windowRead
    rw [haddr, hup]
    simp only [Bool.not_true, Bool.false_eq_true, if_false, bne_iff_ne]
  rw [hread] at hexec
  refine ⟨fun hstate => ?_, fun hstate => ?_⟩
  · rw [if_neg (not_not.mpr hstate)] at hexec
    obtain ⟨htag, htagOther, _⟩ := nextTag_link hl s
    let s2 := nextTag l s |> setCulvert l (fun c => { c with reads := c.reads ++ [⟨(s.culvert l).nextTag, r, len, stream, 0, false, s.now, none⟩] })
    have hs2 : s2.culvert l = _ := culvert_setCulvert_self hl _ (nextTag l s)
    have hs2Out : s2.out = s.out := (setCulvert_out _ _ _).trans (setCulvert_out _ _ _)
    rw [htag] at hs2
    obtain ⟨hout, hreads, hposted, hnext, _, _, hother⟩ := linkSend_link hl 3 (s.culvert l).nextTag r len [] (s := s) (u := s2) (by rw [hs2])
    refine ⟨_, hexec, hreads.trans (by rw [hs2]), hnext.trans (by rw [hs2]), hout.trans (by rw [hs2Out]), hposted.trans (by rw [hs2]), fun m hm => ?_,
      only_linkSend (only_setCulvert (only_nextTag only_refl))⟩
    exact (hother m hm).trans ((culvert_setCulvert_ne hl hm _ _).trans (htagOther m hm))
  · rw [if_pos hstate] at hexec
    exact ⟨_, hexec, readReturns_brg _ _ _ _, readReturns_vot _ _ _ _, only_readReturns only_refl⟩

theorem exec_retry {s : State} {l : Nat} {p : Packet} (hok : s.packetOk l p = true) (htype : p.type = 5) :
    exec (.retry l p) s = .next (retryOp l p.tag (linkTake l p s)) := by
  refine congrArg Host.Outcome.next ((if_pos hok).trans ?_)
  rw [htype]
  rfl

/-- What UNSUPPORTED does to the read or the write of its tag. -/
def unsupportedOp (l tag : Nat) (s : State) : State :=
  match (s.culvert l).reads.find? fun r => r.tag == tag with
  | some r => s |> setCulvert l (fun c => { c with reads := c.reads.erase r }) |> failRead r
  | none => writeError l tag 1 s

theorem exec_unsupported {s : State} {l : Nat} {p : Packet} (hok : s.packetOk l p = true) (htype : p.type = 9) :
    exec (.unsupported l p) s = .next (unsupportedOp l p.tag (linkTake l p s)) := by
  refine congrArg Host.Outcome.next ((if_pos hok).trans ?_)
  rw [htype]
  rfl

/-- A read of a stream that fails is taken from its link and answered with an error. -/
theorem readFailed {l : Nat} {r : Reading} {s : State} (hl : l < 2) (hdma : r.dma = none) :
    (s |> setCulvert l (fun c => { c with reads := c.reads.erase r }) |> failRead r) =
      readReturns r.stream true [] (setCulvert l (fun c => { c with reads := c.reads.erase r }) s) ∧
    (∀ err data, let t := readReturns r.stream err data (setCulvert l (fun c => { c with reads := c.reads.erase r }) s)
      t.culvert l = { s.culvert l with reads := (s.culvert l).reads.erase r } ∧ (∀ m, m ≠ l → t.culvert m = s.culvert m) ∧
      t.brg.answers = s.brg.answers ++ [⟨r.stream, err, data⟩] ∧ t.vot = s.vot.returned r.stream err data ∧ t.out = s.out) := by
  refine ⟨?_, fun err data => ?_⟩
  · rw [failRead, hdma]
  · dsimp only
    have hkept : LinksKept (setCulvert l (fun c => { c with reads := c.reads.erase r }) s)
        (readReturns r.stream err data (setCulvert l (fun c => { c with reads := c.reads.erase r }) s)) := linksKept_readReturns
    refine ⟨(culvert_of_kept hkept l).trans (culvert_setCulvert_self hl _ s), fun m hm => (culvert_of_kept hkept m).trans (culvert_setCulvert_ne hl hm _ s), ?_, ?_, ?_⟩
    · rw [readReturns_brg, setCulvert_answers]
    · rw [readReturns_vot]
      exact congrArg (fun v : Vot => v.returned r.stream err data) ((only_setCulvert (P := [.brg]) only_refl).2 .vot (by decide))
    · rw [readReturns_out, setCulvert_out]

/-- A read of a stream that is given up (R448). -/
theorem exhaust_of_stream {l : Nat} {r : Reading} {s : State} (hl : l < 2) (hwf : RegsWf s) (hdma : r.dma = none) :
    ((exhaust l r s).culvert l).reads = (s.culvert l).reads.erase r ∧ (exhaust l r s).brg.answers = s.brg.answers ++ [⟨r.stream, true, []⟩] ∧
      (exhaust l r s).vot = s.vot.returned r.stream true [] ∧
      (exhaust l r s).reg Off.BRG_READ_EXHAUSTED_CNT = s.reg Off.BRG_READ_EXHAUSTED_CNT + 1 ∧ Raised Irq.BRG_READ_EXHAUSTED (exhaust l r s) ∧
      Recorded 0x0C02 [iU64 1 r.addr, iU8 2 l, iU16 3 r.tag, iU8 4 r.stream] s (exhaust l r s) ∧ (exhaust l r s).out = s.out ∧
      (∀ m, m ≠ l → (exhaust l r s).culvert m = s.culvert m) ∧ RegsOnly [Off.BRG_READ_EXHAUSTED_CNT, Off.REC_LOST_CNT] s (exhaust l r s) ∧
      OnlyIn (.vot :: .brg :: recParts) s (exhaust l r s) := by
  obtain ⟨hfail, hread⟩ := readFailed (s := s) hl hdma
  obtain ⟨hself, hother, hans, hvot, hout⟩ := hread true []
  let s2 := readReturns r.stream true [] (setCulvert l (fun c => { c with reads := c.reads.erase r }) s)
  have heq : exhaust l r s = (s2 |> bump Off.BRG_READ_EXHAUSTED_CNT |> raiseIrq Irq.BRG_READ_EXHAUSTED
      |> record 0x0C02 [iU64 1 r.addr, iU8 2 l, iU16 3 r.tag, iU8 4 r.stream]) := by
    unfold exhaust
    rw [hfail]
  have hend : OnlyIn recParts s2 (exhaust l r s) := by
    rw [heq]
    exact only_record (only_raiseIrq (only_bump only_refl))
  have hbrg : (exhaust l r s).brg = s2.brg := hend.2 .brg (by decide)
  have hculv : ∀ m, (exhaust l r s).culvert m = s2.culvert m := fun m => by
    unfold State.culvert
    rw [hbrg]
  have hwf2 : RegsWf s2 := wf_readReturns (wf_setCulvert hwf)
  have hs2 : OnlyIn [.vot, .brg] s s2 := only_readReturns (only_setCulvert only_refl)
  have hcounted : OnlyIn [.vot, .brg, .regs, .icus] s (s2 |> bump Off.BRG_READ_EXHAUSTED_CNT |> raiseIrq Irq.BRG_READ_EXHAUSTED) :=
    only_raiseIrq (only_bump (only_readReturns (only_setCulvert only_refl)))
  have hrec : RegsOnly [Off.REC_LOST_CNT] (bump Off.BRG_READ_EXHAUSTED_CNT s2) (exhaust l r s) := by
    rw [heq]
    exact regs_record (regs_raiseIrq regs_refl)
  refine ⟨?_, by rw [hbrg, hans], (hend.2 .vot (by decide)).trans hvot, ?_, ?_, ?_, (hend.2 .out (by decide)).trans hout, fun m hm => (hculv m).trans (hother m hm), ?_, ?_⟩
  · rw [hculv, hself]
  · rw [hrec _ (by decide), reg_bump_unmasked _ _ hwf2 (by decide), reg_of_only _ hs2]
  · rw [heq]
    exact raised_record (raised_raiseIrq _ _ (by decide))
  · rw [heq]
    exact recorded_record_of hcounted
  · rw [heq]
    exact regs_record (regs_raiseIrq (regs_bump (regs_readReturns (regs_setCulvert regs_refl))))
  · rw [heq]
    exact only_record (only_raiseIrq (only_bump (only_readReturns (only_setCulvert only_refl))))

theorem only_exhaust_of_stream {P : List Part} {b s : State} {l : Nat} {r : Reading} (hdma : r.dma = none) (h : OnlyIn P b s)
    (hP : ∀ p ∈ Part.vot :: .brg :: recParts, p ∈ P := by decide) : OnlyIn P b (exhaust l r s) :=
  only_via h hP fun b h => by
    unfold exhaust
    rw [failRead, hdma]
    exact only_record (only_raiseIrq (only_bump (only_readReturns (only_setCulvert h))))

theorem regs_exhaust_of_stream {R : List Nat} {b s : State} {l : Nat} {r : Reading} (hdma : r.dma = none) (h : RegsOnly R b s)
    (hR : ∀ o ∈ [Off.BRG_READ_EXHAUSTED_CNT, Off.REC_LOST_CNT], o ∈ R := by decide) : RegsOnly R b (exhaust l r s) :=
  regs_via h hR fun b h => by
    unfold exhaust
    rw [failRead, hdma]
    exact regs_record (regs_raiseIrq (regs_bump (regs_readReturns (regs_setCulvert h))))

theorem exists_next_readAnswered (s : State) (l : Nat) (p : Packet) (r : Reading) (lim : Nat) (hwf : RegsWf s) (hok : s.packetOk l p = true)
    (hfind : (s.culvert l).reads.find? (fun x => x.tag == p.tag) = some r) (hdma : r.dma = none) (hlim : lim = max 1 (fld (s.reg Off.BRG_CFG) 0 8)) :
    (p.type = 5 → r.retries + 1 < lim → ∃ t, exec (.retry l p) s = .next t ∧
      (t.culvert l).reads = ((s.culvert l).reads.map fun x => if x = r then { x with retries := x.retries + 1, answered := true, at_ := s.now } else x) ∧
      t.brg.answers = s.brg.answers ∧ t.out = s.out ++ s.ackMsgs l p ∧ (∀ m, m ≠ l → t.culvert m = s.culvert m) ∧ OnlyIn [.out, .brg] s t) ∧
    (p.type = 5 → lim ≤ r.retries + 1 → ∃ t, exec (.retry l p) s = .next t ∧ (t.culvert l).reads = (s.culvert l).reads.erase r ∧
      t.brg.answers = s.brg.answers ++ [⟨r.stream, true, []⟩] ∧ t.vot = s.vot.returned r.stream true [] ∧
      t.reg Off.BRG_READ_EXHAUSTED_CNT = s.reg Off.BRG_READ_EXHAUSTED_CNT + 1 ∧
      Raised Irq.BRG_READ_EXHAUSTED t ∧ Recorded 0x0C02 [iU64 1 r.addr, iU8 2 l, iU16 3 r.tag, iU8 4 r.stream] s t ∧
      t.out = s.out ++ s.ackMsgs l p ∧ (∀ m, m ≠ l → t.culvert m = s.culvert m) ∧
      RegsOnly [Off.BRG_READ_EXHAUSTED_CNT, Off.REC_LOST_CNT] s t ∧ OnlyIn (.out :: .vot :: .brg :: recParts) s t) ∧
    (p.type = 9 → ∃ t, exec (.unsupported l p) s = .next t ∧
      (t.culvert l).reads = (s.culvert l).reads.erase r ∧ t.out = s.out ++ s.ackMsgs l p ∧
      t.brg.answers = s.brg.answers ++ [⟨r.stream, true, []⟩] ∧ t.vot = s.vot.returned r.stream true [] ∧
      (∀ m, m ≠ l → t.culvert m = s.culvert m) ∧ OnlyIn [.out, .vot, .brg] s t) := by
  obtain ⟨hl, _, hself, hother, hout, hans, _, _, _, honly⟩ := linkTake_link hok
  have hfind' : ((linkTake l p s).culvert l).reads.find? (fun x => x.tag == p.tag) = some r := by
    rw [hself]
    exact hfind
  have hvotTake : (linkTake l p s).vot = s.vot := honly.2 .vot (by decide)
  have hcfg : max 1 (fld ((linkTake l p s).reg Off.BRG_CFG) 0 8) = lim := by rw [hlim, reg_of_only _ honly]
  refine ⟨fun htype hfew => ?_, fun htype hmany => ?_, fun htype => ?_⟩
  · have hexec := exec_retry hok htype
    have hop : retryOp l p.tag (linkTake l p s) = setCulvert l (fun c => { c with reads := c.reads.map fun x =>
        if x == r then { x with retries := x.retries + 1, answered := true, at_ := (linkTake l p s).now } else x }) (linkTake l p s) := by
      unfold retryOp
      rw [hfind']
      exact if_neg (by rw [hcfg]; omega)
    rw [hop, now_of_only honly] at hexec
    refine ⟨_, hexec, ?_, (setCulvert_answers _ _ _).trans hans, (setCulvert_out _ _ _).trans hout,
      fun m hm => (culvert_setCulvert_ne hl hm _ _).trans (hother m hm), only_setCulvert honly⟩
    rw [culvert_setCulvert_self hl, hself]
    simp only [beq_iff_eq]
  · have hexec := exec_retry hok htype
    have hop : retryOp l p.tag (linkTake l p s) = exhaust l r (linkTake l p s) := by
      unfold retryOp
      rw [hfind']
      exact if_pos (by rw [hcfg]; exact hmany)
    rw [hop] at hexec
    obtain ⟨hreads, hans', hvot, hcount, hraised, hrec, hout', hother', hregs, honly'⟩ := exhaust_of_stream (r := r) (s := linkTake l p s) hl (wf_linkTake hwf) hdma
    refine ⟨_, hexec, ?_, by rw [hans', hans], by rw [hvot, hvotTake], by rw [hcount, reg_of_only _ honly], hraised, recorded_before hrec honly, hout'.trans hout,
      fun m hm => (hother' m hm).trans (hother m hm), regs_exhaust_of_stream hdma (regs_linkTake regs_refl), ?_⟩
    · rw [hreads, hself]
    · exact only_exhaust_of_stream hdma (only_linkTake only_refl)
  · have hexec := exec_unsupported hok htype
    obtain ⟨hfail, hread⟩ := readFailed (r := r) (s := linkTake l p s) hl hdma
    obtain ⟨hself', hother', hans', hvot, hout'⟩ := hread true []
    have hop : unsupportedOp l p.tag (linkTake l p s) = readReturns r.stream true [] (setCulvert l (fun c => { c with reads := c.reads.erase r }) (linkTake l p s)) := by
      unfold unsupportedOp
      rw [hfind']
      exact hfail
    rw [hop] at hexec
    refine ⟨_, hexec, ?_, hout'.trans hout, by rw [hans', hans], by rw [hvot, hvotTake], fun m hm => (hother' m hm).trans (hother m hm),
      only_readReturns (only_setCulvert (only_linkTake only_refl))⟩
    rw [hself', hself]

theorem exec_rdData {s : State} {l : Nat} {p : Packet} (corrupt : Bool) (hok : s.packetOk l p = true) (htype : p.type = 4) :
    exec (.rdData l p corrupt) s = .next (if corrupt then hubFail (linkTake l p s)
      else match ((linkTake l p s).culvert l).reads.find? fun r => r.tag == p.tag && r.len == p.payload.length with
        | some r => linkTake l p s |> setCulvert l (fun c => { c with reads := c.reads.erase r })
            |> (match r.dma with
                | some c => dmaArrives c p.payload
                | none => readReturns r.stream false p.payload)
        | none => linkTake l p s) := by
  refine congrArg Host.Outcome.next ((if_pos hok).trans ?_)
  rw [htype]
  rfl

theorem exists_next_rdData (s : State) (l : Nat) (p : Packet) (r : Reading) (hok : s.packetOk l p = true) (htype : p.type = 4)
    (hfind : (s.culvert l).reads.find? (fun x => x.tag == p.tag && x.len == p.payload.length) = some r) (hdma : r.dma = none) :
    ∃ t, exec (.rdData l p false) s = .next t ∧ (t.culvert l).reads = (s.culvert l).reads.erase r ∧ t.out = s.out ++ s.ackMsgs l p ∧
      t.brg.answers = s.brg.answers ++ [⟨r.stream, false, p.payload⟩] ∧ t.vot = s.vot.returned r.stream false p.payload ∧
      (∀ m, m ≠ l → t.culvert m = s.culvert m) ∧ OnlyIn [.out, .vot, .brg] s t := by
  obtain ⟨hl, _, hself, hother, hout, hans, _, _, _, honly⟩ := linkTake_link hok
  have hexec := exec_rdData false hok htype
  rw [if_neg Bool.false_ne_true, hself, hfind] at hexec
  dsimp only at hexec
  rw [hdma] at hexec
  obtain ⟨hself', hother', hans', hvot, hout'⟩ := (readFailed (r := r) (s := linkTake l p s) hl hdma).2 false p.payload
  refine ⟨_, hexec, ?_, hout'.trans hout, by rw [hans', hans], ?_, fun m hm => (hother' m hm).trans (hother m hm),
    only_readReturns (only_setCulvert (only_linkTake only_refl))⟩
  · rw [hself', hself]
  · rw [hvot, show (linkTake l p s).vot = s.vot from honly.2 .vot (by decide)]

theorem exists_next_corruptRead (s : State) (l : Nat) (p : Packet) (hok : s.packetOk l p = true) (htype : p.type = 4) :
    ∃ t, exec (.rdData l p true) s = .next t ∧ FellSilent s t ∧ t.sys.hubFault = true ∧ OnlyIn (.brg :: silentParts) s t := by
  obtain ⟨_, hup, _, _, _, _, _, _, _, honly⟩ := linkTake_link hok
  have hup' : (linkTake l p s).up = true := (up_of_only honly).trans hup
  obtain ⟨hsys, hsilent, _⟩ := hubFail_of_up hup'
  refine ⟨hubFail (linkTake l p s), (exec_rdData true hok htype).trans (by rw [if_pos rfl]), fellSilent_of_same hsilent (congrArg Sys.mode (honly.2 .sys (by decide))),
    by rw [hsys], only_hubFail (only_linkTake only_refl)⟩

theorem exists_next_writeAnswered (s : State) (l : Nat) (p : Packet) (hwf : RegsWf s) (hok : s.packetOk l p = true)
    (hfind : (s.culvert l).reads.find? (fun x => x.tag == p.tag) = none) :
    (p.type = 5 → ∃ t, exec (.retry l p) s = .next t ∧
      (t.culvert l).posted = ((s.culvert l).posted.map fun w => if w.tag = p.tag then { w with retryAt := some s.now } else w) ∧
      t.out = s.out ++ s.ackMsgs l p ∧ (∀ m, m ≠ l → t.culvert m = s.culvert m) ∧ OnlyIn [.out, .brg] s t) ∧
    (∀ w, p.type = 9 → p.tag ∉ (s.culvert l).failedTags → (s.culvert l).posted.find? (fun x => x.tag == p.tag) = some w →
      ∃ t, exec (.unsupported l p) s = .next t ∧ WriteFailed l w 1 s t ∧ (t.culvert l).posted = (s.culvert l).posted.erase w ∧
        t.out = s.out ++ s.ackMsgs l p ∧ (∀ m, m ≠ l → t.culvert m = s.culvert m) ∧ OnlyIn (.out :: .vot :: .brg :: .dmas :: recParts) s t) := by
  obtain ⟨hl, _, hself, hother, hout, _, _, _, _, honly⟩ := linkTake_link hok
  have hfind' : ((linkTake l p s).culvert l).reads.find? (fun x => x.tag == p.tag) = none := by
    rw [hself]
    exact hfind
  refine ⟨fun htype => ?_, fun w htype hfresh hw => ?_⟩
  · have hexec := exec_retry hok htype
    have hop : retryOp l p.tag (linkTake l p s) = setCulvert l (fun c => { c with posted := c.posted.map fun w =>
        if w.tag == p.tag then { w with retryAt := some (linkTake l p s).now } else w }) (linkTake l p s) := by
      unfold retryOp
      rw [hfind']
    rw [hop, now_of_only honly] at hexec
    refine ⟨_, hexec, ?_, (setCulvert_out _ _ _).trans hout, fun m hm => (culvert_setCulvert_ne hl hm _ _).trans (hother m hm), only_setCulvert honly⟩
    rw [culvert_setCulvert_self hl, hself]
    simp only [beq_iff_eq]
  · have hexec := exec_unsupported hok htype
    have hop : unsupportedOp l p.tag (linkTake l p s) = writeError l p.tag 1 (linkTake l p s) := by
      unfold unsupportedOp
      rw [hfind']
    rw [hop] at hexec
    obtain ⟨hfailed, hposted, hout', hother', _, honly'⟩ := writeError_of_posted 1 hwf hok hfresh hw
    exact ⟨_, hexec, hfailed, hposted, hout', hother', honly'⟩

/-! ### Repetition (R448) -/

theorem culvert_advanceTo (n : Nat) (s : State) (m : Nat) : (advanceTo n s).culvert m = s.culvert m := by
  have hbrg : (advanceTo n s).brg = s.brg := (only_advanceTo (P := [.now, .isl, .time, .nv]) only_refl).2 .brg (by decide)
  unfold State.culvert
  rw [hbrg]

theorem recUp_advanceTo (n : Nat) (s : State) : (advanceTo n s).recUp = s.recUp := by
  have hpowered : (advanceTo n s).isl.powered = s.isl.powered := by
    unfold advanceTo advance
    split
    · rfl
    · dsimp only
      split <;> rfl
  have hsys : (advanceTo n s).sys = s.sys := (only_advanceTo (P := [.now, .isl, .time, .nv]) only_refl).2 .sys (by decide)
  have herec : (advanceTo n s).erec = s.erec := (only_advanceTo (P := [.now, .isl, .time, .nv]) only_refl).2 .erec (by decide)
  unfold State.recUp State.up State.hubOn
  rw [hpowered, hsys, herec]

/-- A record told from a later instant stands in REC's queue. -/
theorem inQueue_of_recorded_later {type n : Nat} {items : List Item} {s t : State} (h : Recorded type items (advanceTo n s) t) : InQueue type items s t := by
  intro hup hlen
  have herec : (advanceTo n s).erec = s.erec := (only_advanceTo (P := [.now, .isl, .time, .nv]) only_refl).2 .erec (by decide)
  obtain ⟨q, hq, htype, hitems, _⟩ := h.1 ((recUp_advanceTo n s).trans hup) (by rw [herec]; omega)
  exact ⟨q, by rw [hq]; exact List.mem_append_right _ (List.mem_singleton_self q), htype, hitems⟩

theorem exec_rdReqRepeat {s : State} {l tag : Nat} (hup : s.up = true) (hstate : (s.culvert l).state = .up) :
    exec (.rdReqRepeat l tag) s = .next (repeatOp l tag s) :=
  congrArg Host.Outcome.next (if_pos (by rw [hup, hstate]; rfl))

theorem exists_next_rdReqRepeat (s : State) (l tag gap : Nat) (r : Reading) (hwf : RegsWf s) (hup : s.up = true) (hstate : (s.culvert l).state = .up)
    (hfind : (s.culvert l).reads.find? (fun x => x.tag == tag) = some r) (hgap : gap = 1000 * max 1 (fld (s.reg Off.BRG_CFG) 8 4)) :
    (r.answered = true → ∃ t, exec (.rdReqRepeat l tag) s = .next t ∧ t.now = max s.now (r.at_ + gap) ∧
      (t.culvert l).reads = ((s.culvert l).reads.map fun x => if x = r then { x with answered := false, at_ := t.now } else x) ∧
      t.out = s.out ++ [.packet l (s.nextPacket l 3 r.tag r.addr r.len [])] ∧ (∀ m, m ≠ l → t.culvert m = s.culvert m) ∧
      OnlyIn [.now, .out, .isl, .nv, .time, .brg] s t) ∧
    (r.answered = false → r.dma = none → ∃ t, exec (.rdReqRepeat l tag) s = .next t ∧ t.now = max s.now (r.at_ + s.ackLimit) ∧
      (t.culvert l).reads = (s.culvert l).reads.erase r ∧
      t.brg.answers = s.brg.answers ++ [⟨r.stream, true, []⟩] ∧ t.vot = s.vot.returned r.stream true [] ∧
      t.reg Off.BRG_READ_EXHAUSTED_CNT = s.reg Off.BRG_READ_EXHAUSTED_CNT + 1 ∧
      Raised Irq.BRG_READ_EXHAUSTED t ∧ InQueue 0x0C02 [iU64 1 r.addr, iU8 2 l, iU16 3 r.tag, iU8 4 r.stream] s t ∧
      (∀ m, m ≠ l → t.culvert m = s.culvert m) ∧ RegsOnly [Off.BRG_READ_EXHAUSTED_CNT, Off.REC_LOST_CNT] s t ∧
      OnlyIn (.now :: .time :: .nv :: .vot :: .brg :: recParts) s t) := by
  have hl : l < 2 := link_lt_of_up hstate
  have hexec := exec_rdReqRepeat (tag := tag) hup hstate
  refine ⟨fun hanswered => ?_, fun hanswered hdma => ?_⟩
  · let s1 := advanceTo (r.at_ + gap) s
    let s2 := setCulvert l (fun c => { c with reads := c.reads.map fun x => if x == r then { x with answered := false, at_ := s1.now } else x }) s1
    have hop : repeatOp l tag s = linkSend l 3 0 r.tag r.addr r.len [] s2 := by
      unfold repeatOp State.retryGap
      rw [hfind, ← hgap]
      exact if_pos hanswered
    have hs1 : OnlyIn [.now, .isl, .nv, .time] s s1 := only_advanceTo only_refl
    have hs2 : s2.culvert l = { s.culvert l with reads := (s.culvert l).reads.map fun x => if x == r then { x with answered := false, at_ := s1.now } else x } :=
      (culvert_setCulvert_self hl _ s1).trans (by rw [culvert_advanceTo])
    have hs2Out : s2.out = s.out := (setCulvert_out _ _ _).trans (hs1.2 .out (by decide))
    obtain ⟨hout, hreads, _, _, _, _, hother⟩ := linkSend_link hl 3 r.tag r.addr r.len [] (s := s) (u := s2) (by rw [hs2])
    have hnow : (linkSend l 3 0 r.tag r.addr r.len [] s2).now = s1.now :=
      now_of_only (only_linkSend (P := [.out, .brg]) (only_setCulvert only_refl))
    rw [hop] at hexec
    refine ⟨_, hexec, hnow.trans (now_advanceTo _ s), ?_, by rw [hout, hs2Out], fun m hm => ?_, only_linkSend (only_setCulvert (only_advanceTo only_refl))⟩
    · rw [hreads, hs2, hnow]
      simp only [beq_iff_eq]
    · exact (hother m hm).trans ((culvert_setCulvert_ne hl hm _ s1).trans (culvert_advanceTo _ s m))
  · let s1 := advanceTo (r.at_ + s.ackLimit) s
    have hop : repeatOp l tag s = exhaust l r s1 := by
      unfold repeatOp
      rw [hfind]
      exact if_neg (by rw [hanswered]; exact Bool.false_ne_true)
    have hs1 : OnlyIn [.now, .isl, .nv, .time] s s1 := only_advanceTo only_refl
    have hbrg : s1.brg = s.brg := hs1.2 .brg (by decide)
    have hvot1 : s1.vot = s.vot := hs1.2 .vot (by decide)
    obtain ⟨hreads, hans, hvot, hcount, hraised, hrec, _, hother, _, honly⟩ := exhaust_of_stream (r := r) (s := s1) hl (wf_advanceTo hwf) hdma
    rw [hop] at hexec
    refine ⟨_, hexec, (now_of_only honly).trans (now_advanceTo _ s), ?_, by rw [hans, hbrg], by rw [hvot, hvot1], by rw [hcount, reg_of_only _ hs1], hraised,
      inQueue_of_recorded_later hrec, fun m hm => (hother m hm).trans (culvert_advanceTo _ s m), regs_exhaust_of_stream hdma (regs_advanceTo regs_refl),
      only_exhaust_of_stream hdma (only_advanceTo only_refl)⟩
    rw [hreads, culvert_advanceTo]

theorem exists_next_writeRepeat (s : State) (l tag at_ : Nat) (w : Posted) (hup : s.up = true) (hstate : (s.culvert l).state = .up)
    (hreads : (s.culvert l).reads.find? (fun x => x.tag == tag) = none)
    (hfind : (s.culvert l).posted.find? (fun x => x.tag == tag && x.retryAt.isSome) = some w) (hat : w.retryAt = some at_) :
    ∃ t, exec (.rdReqRepeat l tag) s = .next t ∧ t.now = max s.now (at_ + s.retryGap) ∧
      (t.culvert l).posted = ((s.culvert l).posted.map fun x => if x = w then { x with retryAt := none } else x) ∧
      t.out = s.out ++ [.packet l (s.nextPacket l (if w.np then 2 else 1) w.tag w.addr w.data.length w.data)] ∧
      (∀ m, m ≠ l → t.culvert m = s.culvert m) ∧ OnlyIn [.now, .out, .isl, .nv, .time, .brg] s t := by
  have hl : l < 2 := link_lt_of_up hstate
  let s1 := advanceTo (at_ + s.retryGap) s
  let s2 := setCulvert l (fun c => { c with posted := c.posted.map fun x => if x == w then { x with retryAt := none } else x }) s1
  have hop : repeatOp l tag s = linkSend l (if w.np then 2 else 1) 0 w.tag w.addr w.data.length w.data s2 := by
    unfold repeatOp
    rw [hreads]
    dsimp only
    rw [hfind]
    dsimp only
    rw [hat]
    rfl
  have hexec := exec_rdReqRepeat (tag := tag) hup hstate
  have hs1 : OnlyIn [.now, .isl, .nv, .time] s s1 := only_advanceTo only_refl
  have hs2 : s2.culvert l = { s.culvert l with posted := (s.culvert l).posted.map fun x => if x == w then { x with retryAt := none } else x } :=
    (culvert_setCulvert_self hl _ s1).trans (by rw [culvert_advanceTo])
  have hs2Out : s2.out = s.out := (setCulvert_out _ _ _).trans (hs1.2 .out (by decide))
  obtain ⟨hout, _, hposted, _, _, _, hother⟩ := linkSend_link hl (if w.np then 2 else 1) w.tag w.addr w.data.length w.data (s := s) (u := s2) (by rw [hs2])
  rw [hop] at hexec
  refine ⟨_, hexec, (now_of_only (only_linkSend (P := [.out, .brg]) (only_setCulvert only_refl))).trans (now_advanceTo _ s), ?_, by rw [hout, hs2Out], fun m hm => ?_,
    only_linkSend (only_setCulvert (only_advanceTo only_refl))⟩
  · rw [hposted, hs2]
    simp only [beq_iff_eq]
  · exact (hother m hm).trans ((culvert_setCulvert_ne hl hm _ s1).trans (culvert_advanceTo _ s m))

end Sys2Proof.Machine

namespace Sys2Proof.Machine

set_option Elab.async false

/-! ### Bytes of the exchange area (R449) -/

/-- Byte `i` of a word. -/
def wordByte (w : Word) (i : Nat) : Byte := BitVec.ofNat 8 (w.toNat >>> (8 * i))

theorem getLsbD_wordByte (w : Word) (i : Nat) {k : Nat} (hk : k < 8) : (wordByte w i).getLsbD k = w.getLsbD (8 * i + k) := by
  rw [wordByte, BitVec.getLsbD_ofNat, decide_eq_true hk, Bool.true_and, Nat.testBit_shiftRight]
  rfl

/-- A byte put into a word stands there and leaves the others. -/
theorem wordByte_replace (w : Word) (b : Byte) {i j : Nat} (hi : i < 4) (hj : j < 4) :
    wordByte ((w &&& ~~~(255#32 <<< (8 * i))) ||| (b.setWidth 32 <<< (8 * i))) j = if j = i then b else wordByte w j := by
  have h255 : ∀ n, (255#32).getLsbD n = decide (n < 8) := fun n => by
    by_cases hn : n < 8
    · interval_cases n <;> rfl
    · rw [decide_eq_false hn, BitVec.getLsbD_ofNat, Nat.testBit_lt_two_pow (lt_of_lt_of_le (by decide : 255 < 2 ^ 8) (Nat.pow_le_pow_right (by decide) (by omega))),
        Bool.and_false]
  refine BitVec.eq_of_getLsbD_eq fun k hk => ?_
  rw [getLsbD_wordByte _ _ hk, BitVec.getLsbD_or, BitVec.getLsbD_and, BitVec.getLsbD_not, BitVec.getLsbD_shiftLeft, BitVec.getLsbD_shiftLeft, h255,
    BitVec.getLsbD_setWidth]
  have h32 : 8 * j + k < 32 := by omega
  split
  · next h =>
    subst h
    rw [Nat.add_sub_cancel_left]
    simp [hk, h32]
    omega
  · next h =>
    rw [getLsbD_wordByte _ _ hk]
    obtain hlt | hge : 8 * j + k < 8 * i ∨ 8 ≤ 8 * j + k - 8 * i := by omega
    · simp [hlt, h32]
    · simp [hge, h32]

theorem xbyte_eq_wordByte (s : State) (a : Nat) : s.xbyte a = wordByte (s.reg (Off.BRG_XAREA + a / 4 * 4)) (a % 4) := rfl

/-- A row of Table of masks that lies outside the exchange area. -/
def rowOutside (r : Nat × Nat × Nat × Word) : Bool := decide (r.1 + r.2.1 * r.2.2.1 ≤ Off.BRG_XAREA) || decide (Off.BRG_XAREA + 32768 ≤ r.1)

theorem maskOf_of_outside {rows : List (Nat × Nat × Nat × Word)} {off : Nat} (h : ∀ r ∈ rows, rowOutside r = true) (hlo : Off.BRG_XAREA ≤ off)
    (hhi : off < Off.BRG_XAREA + 32768) : maskOf rows off = 0xFFFFFFFF := by
  induction rows with
  | nil => rfl
  | cons r rows ih =>
    obtain ⟨lo, st, n, m⟩ := r
    have hr := h _ List.mem_cons_self
    simp only [rowOutside, Bool.or_eq_true, decide_eq_true_eq] at hr
    rw [maskOf, if_neg, ih fun x hx => h x (List.mem_cons_of_mem _ hx)]
    simp only [Bool.and_eq_true, decide_eq_true_eq]
    omega

theorem regMask_xarea {a : Nat} (h : a < 32768) : regMask (Off.BRG_XAREA + a / 4 * 4) = BitVec.allOnes 32 := by
  have hmod : (Off.BRG_XAREA + a / 4 * 4) % 16777216 = Off.BRG_XAREA + a / 4 * 4 := Nat.mod_eq_of_lt (by simp only [Off.BRG_XAREA]; omega)
  unfold regMask
  rw [hmod]
  exact maskOf_of_outside (by decide) (Nat.le_add_right _ _) (by omega)

theorem xbyte_xwriteByte {a : Nat} (b : Byte) {s : State} (ha : a < 32768) (hwf : RegsWf s) (c : Nat) :
    (xwriteByte a b s).xbyte c = if c = a then b else s.xbyte c := by
  rw [xbyte_eq_wordByte, xbyte_eq_wordByte]
  unfold xwriteByte
  dsimp only
  by_cases hword : c / 4 = a / 4
  · rw [hword, reg_setReg_unmasked _ _ _ hwf (regMask_xarea ha), wordByte_replace _ _ (Nat.mod_lt _ (by decide)) (Nat.mod_lt _ (by decide))]
    have hmod : c % 4 = a % 4 ↔ c = a := by omega
    simp only [hmod]
  · rw [reg_setReg_ne _ _ _ _ (by omega), if_neg (by rintro rfl; exact hword rfl)]

theorem wf_xwriteByte {a : Nat} {b : Byte} {s : State} (h : RegsWf s) : RegsWf (xwriteByte a b s) := wf_setReg h

theorem regs_xwriteByte {a : Nat} {b : Byte} {s0 s : State} (ha : a < 32768) (h : RegsOnly xareaRegs s0 s) : RegsOnly xareaRegs s0 (xwriteByte a b s) := by
  refine fun k hk => (reg_setReg_ne _ _ _ _ ?_).trans (h k hk)
  rintro rfl
  refine hk (List.mem_map.mpr ⟨a / 4, List.mem_range.mpr (by omega), ?_⟩)
  simp only [Off.BRG_XAREA]
  omega

/-- Bytes written one after the other. -/
theorem foldl_xwriteByte (a n : Nat) (bs : List Byte) {s0 s : State} (hend : a + n + bs.length ≤ 32768) (hwf : RegsWf s) (hregs : RegsOnly xareaRegs s0 s) :
    let t := (bs.zipIdx n).foldl (fun s x => xwriteByte (a + x.2) x.1 s) s
    RegsWf t ∧ RegsOnly xareaRegs s0 t ∧ OnlyIn [.regs] s t ∧ (∀ c, c < a + n ∨ a + n + bs.length ≤ c → t.xbyte c = s.xbyte c) ∧
      ∀ i (hi : i < bs.length), t.xbyte (a + n + i) = bs[i] := by
  induction bs generalizing n s with
  | nil => exact ⟨hwf, hregs, only_refl, fun _ _ => rfl, fun i hi => absurd hi (Nat.not_lt_zero i)⟩
  | cons b bs ih =>
    rw [List.length_cons] at hend
    have hlt : a + n < 32768 := by omega
    have hbyte := xbyte_xwriteByte b hlt hwf
    obtain ⟨hwf', hregs', honly, hout, hin⟩ := ih (n + 1) (s := xwriteByte (a + n) b s) (by omega) (wf_xwriteByte hwf) (regs_xwriteByte hlt hregs)
    refine ⟨hwf', hregs', onlyIn_trans (only_setReg only_refl) honly, fun c hc => ?_, fun i hi => ?_⟩
    · rw [List.length_cons] at hc
      exact (hout c (by omega)).trans ((hbyte c).trans (if_neg (by omega)))
    · cases i with
      | zero => exact (hout _ (by omega)).trans ((hbyte _).trans (if_pos rfl))
      | succ i =>
        rw [show a + n + (i + 1) = a + (n + 1) + i by omega]
        exact hin i (by rw [List.length_cons] at hi; omega)

/-- A write into the exchange area: its bytes, the others, and the fetches it leaves (R449, R450). -/
theorem xwrite_blocks (a : Nat) (bs : List Byte) {s : State} (hend : a + bs.length ≤ 32768) (hwf : RegsWf s) :
    (xwrite a bs s).xread a bs.length = bs ∧ (∀ c, c < a ∨ a + bs.length ≤ c → (xwrite a bs s).xbyte c = s.xbyte c) ∧
      RegsOnly xareaRegs s (xwrite a bs s) ∧ (∀ m, (xwrite a bs s).culvert m = { s.culvert m with
        fetches := (s.culvert m).fetches.filter fun f => decide (f.addr + f.len ≤ a) || decide (a + bs.length ≤ f.addr) }) ∧
      (xwrite a bs s).out = s.out := by
  obtain ⟨_, hregs, honly, hout, hin⟩ := foldl_xwriteByte a 0 bs hend hwf regs_refl
  dsimp only [Nat.add_zero] at hregs honly hout hin
  let s1 := (bs.zipIdx).foldl (fun s x => xwriteByte (a + x.2) x.1 s) s
  have hbrg : s1.brg = s.brg := honly.2 .brg (by decide)
  have hdrop : OnlyIn [.brg] s1 (xwrite a bs s) := only_setCulvert (only_setCulvert only_refl)
  have hbyte : ∀ c, (xwrite a bs s).xbyte c = s1.xbyte c := fun c => by
    rw [xbyte_eq_wordByte, reg_of_only _ hdrop]
    rfl
  refine ⟨?_, fun c hc => (hbyte c).trans (hout c hc), fun k hk => (reg_of_only k hdrop).trans (hregs k hk), fun m => ?_, ?_⟩
  · refine List.ext_getElem (by rw [State.xread, List.length_map, List.length_range]) fun i _ hi => ?_
    simp only [State.xread, List.getElem_map, List.getElem_range, hbyte]
    exact hin i hi
  · have hm : (dropFetches a bs.length s1).culvert m = { s1.culvert m with
        fetches := (s1.culvert m).fetches.filter fun f => decide (f.addr + f.len ≤ a) || decide (a + bs.length ≤ f.addr) } := by
      match m with
      | 0 => rfl
      | 1 => rfl
      | _ + 2 => rfl
    refine hm.trans ?_
    have hculv : s1.culvert m = s.culvert m := by
      unfold State.culvert
      rw [hbrg]
    rw [hculv]
  · exact (hdrop.2 .out (by decide)).trans (honly.2 .out (by decide))

/-! ### Requests from the far side (R439, R449 to R451) -/

/-- What an inbound read request does once the link has taken it. -/
def inboundRead (l : Nat) (p : Packet) (s : State) : State :=
  if !inXarea p.addr p.length then linkSend l 9 0 p.tag p.addr 0 [] s
  else
    match (s.culvert l).fetches.find? fun f => f.addr == p.addr && f.len == p.length with
    | some f =>
      match f.data with
      | some d => linkSend l 4 0 p.tag p.addr d.length d s
      | none => sendRetry l p s
    | none =>
      if (s.culvert l).fetches.length < 8 then
        sendRetry l p (setCulvert l (fun c => { c with fetches := c.fetches ++ [⟨p.addr, p.length, none, 0⟩] }) s)
      else sendRetry l p (bump Off.BRG_SLOTS_FULL s)

theorem exec_inboundRdReq {s : State} {l : Nat} {p : Packet} (hok : s.packetOk l p = true) (htype : p.type = 3) :
    exec (.inboundRdReq l p) s = .next (inboundRead l p (linkTake l p s)) := by
  refine congrArg Host.Outcome.next ((if_pos hok).trans ?_)
  rw [htype]
  rfl

/-- RETRY is counted and sent. -/
theorem sendRetry_link {l : Nat} (hl : l < 2) (p : Packet) {s u : State} (hseq : (u.culvert l).txSeq = (s.culvert l).txSeq) (hwf : RegsWf u) :
    (sendRetry l p u).out = u.out ++ [.packet l (s.nextPacket l 5 p.tag p.addr 0 [])] ∧
      (sendRetry l p u).reg Off.BRG_RETRIES_SENT = u.reg Off.BRG_RETRIES_SENT + 1 ∧ RegsOnly [Off.BRG_RETRIES_SENT] u (sendRetry l p u) ∧
      ((sendRetry l p u).culvert l).fetches = (u.culvert l).fetches ∧ (∀ m, m ≠ l → (sendRetry l p u).culvert m = u.culvert m) := by
  obtain ⟨hout, _, _, _, hfetches, _, hother⟩ := linkSend_link hl 5 p.tag p.addr 0 [] (s := s) (u := bump Off.BRG_RETRIES_SENT u) (by rw [culvert_bump, hseq])
  have hsend : OnlyIn [.out, .brg] (bump Off.BRG_RETRIES_SENT u) (sendRetry l p u) := only_linkSend only_refl
  refine ⟨by rw [sendRetry, hout, bump_out], ?_, regs_linkSend (regs_bump regs_refl), by rw [sendRetry, hfetches, culvert_bump], fun m hm => ?_⟩
  · rw [reg_of_only _ hsend, reg_bump_unmasked _ _ hwf (by decide)]
  · exact (hother m hm).trans (culvert_bump _ _ m)

theorem exists_next_inboundRdReq (s : State) (l : Nat) (p : Packet) (hwf : RegsWf s) (hok : s.packetOk l p = true) (htype : p.type = 3) :
    (32768 < p.addr + p.length → ∃ t, exec (.inboundRdReq l p) s = .next t ∧
      t.out = s.out ++ s.ackMsgs l p ++ [.packet l (s.nextPacket l 9 p.tag p.addr 0 [])] ∧ (t.culvert l).fetches = (s.culvert l).fetches ∧
      (∀ m, m ≠ l → t.culvert m = s.culvert m) ∧ OnlyIn [.out, .brg] s t) ∧
    (∀ (f : Fetch) (d : List Byte), p.addr + p.length ≤ 32768 →
      (s.culvert l).fetches.find? (fun x => x.addr == p.addr && x.len == p.length) = some f → f.data = some d →
      ∃ t, exec (.inboundRdReq l p) s = .next t ∧ t.out = s.out ++ s.ackMsgs l p ++ [.packet l (s.nextPacket l 4 p.tag p.addr d.length d)] ∧
        (t.culvert l).fetches = (s.culvert l).fetches ∧ (∀ m, m ≠ l → t.culvert m = s.culvert m) ∧ OnlyIn [.out, .brg] s t) ∧
    (p.addr + p.length ≤ 32768 → (s.culvert l).fetches.find? (fun x => x.addr == p.addr && x.len == p.length) = none →
      ∃ t, exec (.inboundRdReq l p) s = .next t ∧ t.out = s.out ++ s.ackMsgs l p ++ [.packet l (s.nextPacket l 5 p.tag p.addr 0 [])] ∧
        t.reg Off.BRG_RETRIES_SENT = s.reg Off.BRG_RETRIES_SENT + 1 ∧
        ((s.culvert l).fetches.length < 8 → (t.culvert l).fetches = (s.culvert l).fetches ++ [⟨p.addr, p.length, none, 0⟩] ∧ RegsOnly [Off.BRG_RETRIES_SENT] s t) ∧
        (8 ≤ (s.culvert l).fetches.length → (t.culvert l).fetches = (s.culvert l).fetches ∧ t.reg Off.BRG_SLOTS_FULL = s.reg Off.BRG_SLOTS_FULL + 1) ∧
        (∀ m, m ≠ l → t.culvert m = s.culvert m) ∧ RegsOnly [Off.BRG_RETRIES_SENT, Off.BRG_SLOTS_FULL] s t ∧ OnlyIn [.regs, .out, .brg] s t) := by
  obtain ⟨hl, _, hself, hother, hout, _, _, _, _, honly⟩ := linkTake_link hok
  have hexec := exec_inboundRdReq hok htype
  have hseq : ((linkTake l p s).culvert l).txSeq = (s.culvert l).txSeq := by rw [hself]
  have hfetches : ((linkTake l p s).culvert l).fetches = (s.culvert l).fetches := by rw [hself]
  have hwf1 : RegsWf (linkTake l p s) := wf_linkTake hwf
  unfold inboundRead inXarea at hexec
  refine ⟨fun hout' => ?_, fun f d hin hfind hdata => ?_, fun hin hfind => ?_⟩
  · rw [if_pos (by simpa using hout')] at hexec
    obtain ⟨hsend, _, _, _, hkept, _, hother'⟩ := linkSend_link hl 9 p.tag p.addr 0 [] (s := s) (u := linkTake l p s) hseq
    exact ⟨_, hexec, by rw [hsend, hout], hkept.trans hfetches, fun m hm => (hother' m hm).trans (hother m hm), only_linkSend honly⟩
  · rw [if_neg (by simpa using hin), hfetches, hfind] at hexec
    dsimp only at hexec
    rw [hdata] at hexec
    obtain ⟨hsend, _, _, _, hkept, _, hother'⟩ := linkSend_link hl 4 p.tag p.addr d.length d (s := s) (u := linkTake l p s) hseq
    exact ⟨_, hexec, by rw [hsend, hout], hkept.trans hfetches, fun m hm => (hother' m hm).trans (hother m hm), only_linkSend honly⟩
  · rw [if_neg (by simpa using hin), hfetches, hfind] at hexec
    dsimp only at hexec
    by_cases hroom : (s.culvert l).fetches.length < 8
    · rw [if_pos hroom] at hexec
      let u := setCulvert l (fun c => { c with fetches := c.fetches ++ [⟨p.addr, p.length, none, 0⟩] }) (linkTake l p s)
      have hu : u.culvert l = _ := culvert_setCulvert_self hl _ (linkTake l p s)
      have huOnly : OnlyIn [.out, .brg] s u := only_setCulvert honly
      obtain ⟨hsend, hcount, hregs, hkept, hother'⟩ := sendRetry_link hl p (s := s) (u := u) (by rw [hu, hself]) (wf_setCulvert hwf1)
      have hregs' : RegsOnly [Off.BRG_RETRIES_SENT] s (sendRetry l p u) := fun k hk => (hregs k hk).trans (reg_of_only k huOnly)
      refine ⟨_, hexec, by rw [hsend, setCulvert_out, hout], by rw [hcount, reg_of_only _ huOnly], fun _ => ⟨?_, hregs'⟩, fun h => absurd hroom (by omega),
        fun m hm => (hother' m hm).trans ((culvert_setCulvert_ne hl hm _ _).trans (hother m hm)), regs_sendRetry (regs_setCulvert (regs_linkTake regs_refl)),
        only_sendRetry (only_setCulvert (only_linkTake only_refl))⟩
      rw [hkept, hu, hfetches]
    · rw [if_neg hroom] at hexec
      obtain ⟨hsend, hcount, hregs, hkept, hother'⟩ := sendRetry_link hl p (s := s) (u := bump Off.BRG_SLOTS_FULL (linkTake l p s)) (by rw [culvert_bump, hself])
        (wf_bump hwf1)
      refine ⟨_, hexec, by rw [hsend, bump_out, hout], ?_, fun h => absurd h hroom, fun _ => ⟨by rw [hkept, culvert_bump, hfetches], ?_⟩,
        fun m hm => (hother' m hm).trans ((culvert_bump _ _ m).trans (hother m hm)), regs_sendRetry (regs_bump (regs_linkTake regs_refl)),
        only_sendRetry (only_bump (only_linkTake only_refl))⟩
      · rw [hcount, reg_bump_ne _ _ _ (by decide), reg_of_only _ honly]
      · rw [hregs _ (by decide), reg_bump_unmasked _ _ hwf1 (by decide), reg_of_only _ honly]

theorem exists_next_fetches (s : State) (l addr len : Nat) (hwf : RegsWf s) (hup : s.up = true) (hl : l < 2) :
    (∃ t, exec (.fetchComplete l addr len) s = .next t ∧ t.culvert l = { s.culvert l with fetches := (s.culvert l).fetches.map fun f => if f.addr = addr ∧ f.len = len ∧ f.data = none then { f with data := some (s.xread addr len), at_ := s.now } else f } ∧
      (∀ m, m ≠ l → t.culvert m = s.culvert m) ∧ OnlyIn [.brg] s t) ∧
    (∀ f, (s.culvert l).fetches.find? (fun x => x.addr == addr && x.len == len && x.data.isSome) = some f →
      ∃ t, exec (.fetchHoldExpiry l addr len) s = .next t ∧ t.now = max s.now (f.at_ + 64000) ∧ t.culvert l = { s.culvert l with fetches := (s.culvert l).fetches.erase f } ∧
        (∀ m, m ≠ l → t.culvert m = s.culvert m) ∧ t.reg Off.BRG_HOLD_EXPIRED = s.reg Off.BRG_HOLD_EXPIRED + 1 ∧
        RegsOnly [Off.BRG_HOLD_EXPIRED] s t ∧ OnlyIn [.now, .time, .nv, .isl, .regs, .brg] s t) := by
  refine ⟨⟨_, congrArg Host.Outcome.next (if_pos hup), ?_, fun m hm => culvert_setCulvert_ne hl hm _ s, only_setCulvert only_refl⟩, fun f hfind => ?_⟩
  · rw [culvert_setCulvert_self hl]
    simp only [Bool.and_eq_true, beq_iff_eq, Option.isNone_iff_eq_none, and_assoc]
  · let s1 := advanceTo (f.at_ + 64000) s
    let t := s1 |> setCulvert l (fun c => { c with fetches := c.fetches.erase f }) |> bump Off.BRG_HOLD_EXPIRED
    have hexec : exec (.fetchHoldExpiry l addr len) s = .next t := by
      refine congrArg Host.Outcome.next ((if_pos hup).trans ?_)
      dsimp only
      rw [hfind]
    have hs1 : OnlyIn [.now, .isl, .time, .nv] s s1 := only_advanceTo only_refl
    have hset : OnlyIn [.brg] s1 (setCulvert l (fun c => { c with fetches := c.fetches.erase f }) s1) := only_setCulvert only_refl
    refine ⟨t, hexec, (now_of_only (only_bump (P := [.brg, .regs]) (only_setCulvert only_refl))).trans (now_advanceTo _ s), ?_, fun m hm => ?_, ?_,
      regs_bump (regs_setCulvert (regs_advanceTo regs_refl)), only_bump (only_setCulvert (only_advanceTo only_refl))⟩
    · rw [show t.culvert l = _ from culvert_bump _ _ l, culvert_setCulvert_self hl, culvert_advanceTo]
    · exact (culvert_bump _ _ m).trans ((culvert_setCulvert_ne hl hm _ s1).trans (culvert_advanceTo _ s m))
    · rw [reg_bump_unmasked _ _ (wf_setCulvert (wf_advanceTo hwf)) (by decide), reg_of_only _ hset, reg_of_only _ hs1]

theorem xbyte_bump {key : Nat} (h : key < Off.BRG_XAREA) (s : State) (c : Nat) : (bump key s).xbyte c = s.xbyte c := by
  rw [xbyte_eq_wordByte, reg_bump_ne _ _ _ (by omega)]
  rfl

theorem xbyte_sendRetry (l : Nat) (p : Packet) (s : State) (c : Nat) : (sendRetry l p s).xbyte c = s.xbyte c := by
  have hsend : OnlyIn [.out, .brg] (bump Off.BRG_RETRIES_SENT s) (sendRetry l p s) := only_linkSend only_refl
  rw [xbyte_eq_wordByte, reg_of_only _ hsend]
  exact xbyte_bump (by decide) s c

/-- What an inbound write or record does once the link has taken it. -/
def inboundWritten (l : Nat) (p : Packet) (s : State) : State :=
  if p.type == 8 || !inXarea p.addr p.length then linkSend l 9 0 p.tag p.addr 0 [] s
  else if 32 ≤ (s.culvert l).inbound then sendRetry l p (bump Off.BRG_SLOTS_FULL s)
  else s |> setCulvert l (fun c => { c with inbound := c.inbound + 1 }) |> xwrite p.addr p.payload |> linkSend l 6 0 p.tag p.addr 0 []

theorem exec_inboundWrite {s : State} {l : Nat} {p : Packet} (hok : s.packetOk l p = true) (htype : p.type = 1 ∨ p.type = 2 ∨ p.type = 8 ∧ l = 1) :
    exec (.inboundWrite l p) s = .next (inboundWritten l p (linkTake l p s)) := by
  refine congrArg Host.Outcome.next ((if_pos hok).trans (if_pos ?_))
  obtain h | h | ⟨h, hl⟩ := htype
  · rw [h]
    rfl
  · rw [h]
    rfl
  · rw [h, hl]
    rfl

theorem length_of_packetOk {s : State} {l : Nat} {p : Packet} (hok : s.packetOk l p = true) (htype : p.type ≠ 3) : p.payload.length = p.length := by
  simp only [State.packetOk, Bool.and_eq_true, beq_iff_eq] at hok
  obtain ⟨⟨_, hlen⟩, _⟩ := hok
  rw [hlen, if_neg htype]

theorem exists_next_inboundWrite (s : State) (l : Nat) (p : Packet) (hwf : RegsWf s) (hok : s.packetOk l p = true) (htype : p.type = 1 ∨ p.type = 2) :
    (p.addr + p.length ≤ 32768 → (s.culvert l).inbound < 32 →
      ∃ t, exec (.inboundWrite l p) s = .next t ∧ t.xread p.addr p.length = p.payload ∧
        (∀ a, a < p.addr ∨ p.addr + p.length ≤ a → t.xbyte a = s.xbyte a) ∧ (t.culvert l).inbound = (s.culvert l).inbound + 1 ∧
        (∀ m, (t.culvert m).fetches = (s.culvert m).fetches.filter fun f => decide (f.addr + f.len ≤ p.addr) || decide (p.addr + p.length ≤ f.addr)) ∧
        (∀ m, m ≠ l → (t.culvert m).inbound = (s.culvert m).inbound) ∧
        t.out = s.out ++ s.ackMsgs l p ++ [.packet l (s.nextPacket l 6 p.tag p.addr 0 [])] ∧ RegsOnly xareaRegs s t ∧ OnlyIn [.regs, .out, .brg] s t) ∧
    (p.addr + p.length ≤ 32768 → 32 ≤ (s.culvert l).inbound →
      ∃ t, exec (.inboundWrite l p) s = .next t ∧ (∀ a, t.xbyte a = s.xbyte a) ∧ t.reg Off.BRG_SLOTS_FULL = s.reg Off.BRG_SLOTS_FULL + 1 ∧
        t.out = s.out ++ s.ackMsgs l p ++ [.packet l (s.nextPacket l 5 p.tag p.addr 0 [])] ∧
        RegsOnly [Off.BRG_RETRIES_SENT, Off.BRG_SLOTS_FULL] s t ∧ OnlyIn [.regs, .out, .brg] s t) ∧
    (32768 < p.addr + p.length → ∃ t, exec (.inboundWrite l p) s = .next t ∧
      t.out = s.out ++ s.ackMsgs l p ++ [.packet l (s.nextPacket l 9 p.tag p.addr 0 [])] ∧ OnlyIn [.out, .brg] s t) := by
  obtain ⟨hl, _, hself, hother, hout, _, _, _, _, honly⟩ := linkTake_link hok
  have hexec := exec_inboundWrite hok (htype.imp_right Or.inl)
  have hseq : ((linkTake l p s).culvert l).txSeq = (s.culvert l).txSeq := by rw [hself]
  have hinbound : ((linkTake l p s).culvert l).inbound = (s.culvert l).inbound := by rw [hself]
  have hwf1 : RegsWf (linkTake l p s) := wf_linkTake hwf
  have hnot8 : (p.type == 8) = false := by
    obtain h | h := htype <;> rw [h] <;> rfl
  have hlen : p.payload.length = p.length := length_of_packetOk hok (by omega)
  unfold inboundWritten inXarea at hexec
  rw [hnot8, Bool.false_or] at hexec
  have hbyte : ∀ c, (linkTake l p s).xbyte c = s.xbyte c := fun c => by
    rw [xbyte_eq_wordByte, reg_of_only _ honly]
    rfl
  refine ⟨fun hin hroom => ?_, fun hin hfull => ?_, fun hout' => ?_⟩
  · rw [if_neg (by simpa using hin), if_neg (by rw [hinbound]; omega)] at hexec
    let u := setCulvert l (fun c => { c with inbound := c.inbound + 1 }) (linkTake l p s)
    have hu : u.culvert l = _ := culvert_setCulvert_self hl _ (linkTake l p s)
    have huOther : ∀ m, m ≠ l → u.culvert m = s.culvert m := fun m hm => (culvert_setCulvert_ne hl hm _ _).trans (hother m hm)
    have huOnly : OnlyIn [.out, .brg] s u := only_setCulvert honly
    have huByte : ∀ c, u.xbyte c = s.xbyte c := fun c => by
      rw [xbyte_eq_wordByte, reg_of_only _ huOnly]
      rfl
    obtain ⟨hread, hrest, hregs, hculv, hxout⟩ := xwrite_blocks p.addr p.payload (s := u) (by omega) (wf_setCulvert hwf1)
    rw [hlen] at hread hrest hculv
    obtain ⟨hsend, _, _, _, hfetches, hcount, hother'⟩ := linkSend_link hl 6 p.tag p.addr 0 [] (s := s) (u := xwrite p.addr p.payload u) (by rw [hculv, hu, hself])
    have hlink : OnlyIn [.out, .brg] (xwrite p.addr p.payload u) (linkSend l 6 0 p.tag p.addr 0 [] (xwrite p.addr p.payload u)) := only_linkSend only_refl
    have hsame : ∀ c, (linkSend l 6 0 p.tag p.addr 0 [] (xwrite p.addr p.payload u)).xbyte c = (xwrite p.addr p.payload u).xbyte c := fun c => by
      rw [xbyte_eq_wordByte, reg_of_only _ hlink]
      rfl
    refine ⟨_, hexec, ?_, fun c hc => (hsame c).trans ((hrest c hc).trans (huByte c)), ?_, fun m => ?_, fun m hm => ?_, ?_, ?_,
      only_linkSend (only_xwrite (only_setCulvert (only_linkTake only_refl)))⟩
    · exact (List.map_congr_left fun i _ => hsame (p.addr + i)).trans hread
    · rw [hcount, hculv, hu, hself]
    · by_cases hm : m = l
      · rw [hm, hfetches, hculv, hu, hself]
      · rw [hother' m hm, hculv, huOther m hm]
    · rw [hother' m hm, hculv, huOther m hm]
    · rw [hsend, hxout, setCulvert_out, hout]
    · exact fun k hk => (reg_of_only k hlink).trans ((hregs k hk).trans (reg_of_only k huOnly))
  · rw [if_neg (by simpa using hin), if_pos (by rw [hinbound]; exact hfull)] at hexec
    obtain ⟨hsend, _, hregs, _, _⟩ := sendRetry_link hl p (s := s) (u := bump Off.BRG_SLOTS_FULL (linkTake l p s)) (by rw [culvert_bump, hself]) (wf_bump hwf1)
    refine ⟨_, hexec, fun c => ?_, ?_, by rw [hsend, bump_out, hout], regs_sendRetry (regs_bump (regs_linkTake regs_refl)),
      only_sendRetry (only_bump (only_linkTake only_refl))⟩
    · exact (xbyte_sendRetry _ _ _ c).trans ((xbyte_bump (by decide) _ c).trans (hbyte c))
    · rw [hregs _ (by decide), reg_bump_unmasked _ _ hwf1 (by decide), reg_of_only _ honly]
  · rw [if_pos (by simpa using hout')] at hexec
    obtain ⟨hsend, _⟩ := linkSend_link hl 9 p.tag p.addr 0 [] (s := s) (u := linkTake l p s) hseq
    exact ⟨_, hexec, by rw [hsend, hout], only_linkSend honly⟩

theorem exists_next_inboundRecord (s : State) (p : Packet) (hok : s.packetOk 1 p = true) (htype : p.type = 8) : ∃ t, exec (.inboundWrite 1 p) s = .next t ∧
    t.out = s.out ++ s.ackMsgs 1 p ++ [.packet 1 (s.nextPacket 1 9 p.tag p.addr 0 [])] ∧ OnlyIn [.out, .brg] s t := by
  obtain ⟨hl, _, hself, _, hout, _, _, _, _, honly⟩ := linkTake_link hok
  have hexec := exec_inboundWrite hok (Or.inr (Or.inr ⟨htype, rfl⟩))
  rw [inboundWritten, if_pos (by rw [htype]; rfl)] at hexec
  obtain ⟨hsend, _⟩ := linkSend_link hl 9 p.tag p.addr 0 [] (s := s) (u := linkTake 1 p s) (by rw [hself])
  exact ⟨_, hexec, by rw [hsend, hout], only_linkSend honly⟩

/-- Settles O48, command by command. -/
theorem culvertRequests : Obligations.CulvertRequests :=
  ⟨exists_next_bridgeRead, exists_next_readAnswered, exists_next_rdData, exists_next_corruptRead, exists_next_writeAnswered, exists_next_rdReqRepeat,
    exists_next_writeRepeat, exists_next_inboundRdReq, exists_next_fetches, exists_next_inboundWrite, exists_next_inboundRecord⟩

end Sys2Proof.Machine

namespace Sys2Proof.Machine

set_option Elab.async false

/-! ### A DMA channel past the sixteen of the spec (R455) -/

/-- Channel 18 of a block that lists nineteen: it waits for the last 8 bytes of its only descriptor. -/
def extraChannel : Dma := { Reset.dma with state := .running, desc := Tests.desc 0x8071 16 0 32752 0, done := 8 }

/-- Its read of link 0. -/
def extraReading : Reading := { Tests.rd 7 0 false with dma := some 18, len := 8 }

/-- A module in operation with that channel and its read outstanding. -/
def extraChannels : State :=
  Tests.linksUp (fun c => { c with reads := [extraReading] }) { Tests.op with dmas := List.replicate 18 Reset.dma ++ [extraChannel] }

/-- The data that it waits for. -/
def extraData : Packet := Tests.pkt 4 7 0 8 0 [1, 2, 3, 4, 5, 6, 7, 8]

/-- The state once the data has come. -/
def extraArrived : State :=
  dmaArrives 18 extraData.payload (setCulvert 0 (fun c => { c with reads := c.reads.erase extraReading }) (linkTake 0 extraData extraChannels))

theorem exec_rdData_extraChannels : exec (.rdData 0 extraData false) extraChannels = .next extraArrived := by
  have hfind : ((linkTake 0 extraData extraChannels).culvert 0).reads.find? (fun r => r.tag == extraData.tag && r.len == extraData.payload.length) =
      some extraReading := by decide +kernel
  rw [exec_rdData false (by decide +kernel) rfl, if_neg Bool.false_ne_true, hfind]
  rfl

/-- No source of the interrupt controller stands for channel 18 (Table 12.1), so that its end asserts none. -/
theorem extraArrived_not_raised : ¬ Raised (Irq.DMA_DONE + 18) extraArrived := by
  intro h
  exact absurd (h .a (by decide +kernel)) (by decide +kernel)

/-- Refutes O49: data over a link for a channel is asked of every length of the list of channels, and the end of an eighteenth raises no interrupt. -/
theorem not_dmaChannels : ¬ Obligations.DmaChannels := by
  unfold Obligations.DmaChannels
  rintro ⟨_, _, _, _, _, _, harrives, _⟩
  obtain ⟨t, hexec, _, _, _, _, _, hraised, _⟩ := harrives extraChannels 0 18 32760 extraData extraReading extraChannel (by unfold RegsWf; decide +kernel) (by decide +kernel)
    rfl (by decide +kernel) rfl (by decide +kernel) rfl rfl (by decide +kernel) (by decide +kernel) (by decide +kernel) (by decide +kernel) (by decide +kernel)
    (by decide +kernel)
  rw [exec_rdData_extraChannels, Host.Outcome.next.injEq] at hexec
  subst hexec
  exact extraArrived_not_raised hraised

end Sys2Proof.Machine

namespace Sys2Proof.Machine

set_option Elab.async false

/-! ### An activation in recovery outside BOOT (R523) -/

/-- A header whose one compatibility entry takes every hardware revision. -/
def anyRevision : List Byte := List.replicate 11 0 ++ [1] ++ List.replicate 120 0 ++ [16] ++ List.replicate 10 0 ++ [255]

/-- A module in operation that is marked as in recovery, with a verified image of type 0. -/
def recoveryInOperation : State :=
  Tests.staged 0 ⟨.verified, [(0, anyRevision)]⟩ { Tests.op with sys := { Tests.op.sys with recovery := true } }

/-- UPD_CMD: ACTIVATE of type 0. -/
def activateFirst : Word := 0x55500103

theorem compatHw_anyRevision (v : BitVec 8) : compatHw anyRevision v.toNat = true := by
  have hentries : compatOf anyRevision = [(16, 0, 255)] := by decide +kernel
  have hle : v.toNat ≤ 255 := Nat.le_of_lt_succ v.isLt
  rw [compatHw, hentries]
  simpa using hle

/-- The images that the cross-check takes: none runs in recovery. -/
def firstAlone (s : State) (x : Nat) : Option (List Byte) := if Nat.testBit 1 (x - 1) then some (s.target (x - 1)).header else s.runHeader x

theorem crossCheck_firstAlone {s : State} (hrecovery : s.sys.recovery = true) (hheader : (s.target 0).header = anyRevision) :
    s.crossCheck (firstAlone s) (fun _ => true) = (0, 0, 0) := by
  have hnone : ∀ x, Nat.testBit 1 (x - 1) = false → firstAlone s x = none := fun x hx => by
    rw [firstAlone, hx, State.runHeader, hrecovery]
    rfl
  have hfirst : firstAlone s 1 = some anyRevision := by
    rw [firstAlone, ← hheader]
    rfl
  have hpair : s.pairing 1 16 anyRevision [] = 0 := by
    unfold State.pairing
    dsimp only
    rw [if_pos rfl, if_pos rfl, compatHw_anyRevision]
    rfl
  unfold State.crossCheck
  simp [pairings, hfirst, hnone 2 rfl, hnone 3 rfl, hnone 4 rfl, hpair]

/-- An activation in recovery ends in a module reset. -/
theorem activateOp_of_recovery {mask : Nat} {s : State} (hmask : mask ≠ 0)
    (hverified : ((List.range 4).filter fun t => mask.testBit t).all (fun t => (s.target t).state == .verified) = true) (hstaging : s.stagingOn = false)
    (hrejoining : s.rejoining = false) (hmode : s.updMode = true)
    (hcross : (s.crossCheck (fun x => if mask.testBit (x - 1) then some (s.target (x - 1)).header else s.runHeader x) fun _ => true).1 ≠ 2)
    (hrecovery : s.sys.recovery = true) : ∃ cause s1, s1.sys = s.sys ∧ activateOp mask s = moduleReset cause s1 := by
  have hslots : ∀ (ts : List Nat) (u : State), (ts.foldl (fun s t => setSlots t (fun x => { x with markB := s.targetB t, trial := none }) s) u).sys = u.sys := by
    intro ts
    induction ts with
    | nil => exact fun _ => rfl
    | cons t ts ih => exact fun u => ih _
  unfold activateOp
  rw [if_neg hmask, if_neg (by rw [hverified]; decide), if_neg (by rw [hstaging]; decide), if_neg (by rw [hrejoining]; decide), if_neg (by rw [hmode]; decide),
    if_neg hcross, if_pos hrecovery]
  refine ⟨_, _, ?_, rfl⟩
  exact hslots ((List.range 4).filter fun t => mask.testBit t) (setCompat _ s)

/-- The activation marks the image and resets the module. -/
theorem exec_updateActivate_recoveryInOperation :
    ∃ cause s1, s1.sys.mode = .operational ∧ exec (.updateActivate activateFirst) recoveryInOperation = .next (moduleReset cause s1) := by
  have hcross : (updBegins 3 recoveryInOperation).crossCheck (firstAlone (updBegins 3 recoveryInOperation)) (fun _ => true) = (0, 0, 0) :=
    crossCheck_firstAlone rfl (by decide +kernel)
  obtain ⟨cause, s1, hsys, hop⟩ := activateOp_of_recovery (mask := 1) (s := updBegins 3 recoveryInOperation) (by decide) (by decide +kernel) (by decide +kernel)
    (by decide +kernel) (by decide +kernel) (fun h => absurd ((congrArg (·.1) hcross).symm.trans h) (by decide)) rfl
  refine ⟨cause, s1, congrArg Sys.mode hsys, ?_⟩
  rw [← hop]
  exact congrArg Host.Outcome.next (if_pos (by decide +kernel))

/-- Refutes O54: nothing asks that the module in recovery is in BOOT, and a reset from operation counts its change of mode in the register file. -/
theorem not_firmwareUpdate : ¬ Obligations.FirmwareUpdate := by
  unfold Obligations.FirmwareUpdate
  rintro ⟨_, _, _, _, _, _, _, _, hactivate⟩
  obtain ⟨t, hexec, hcheck⟩ := hactivate recoveryInOperation activateFirst 1 (0, 0, 0) (by decide +kernel) (by decide) (by decide) (by decide) (by decide) (by decide +kernel)
    (by decide +kernel) (by decide +kernel) (by decide +kernel) (by decide +kernel)
  obtain ⟨_, _, hreset⟩ := hcheck (crossCheck_firstAlone rfl (by decide +kernel)).symm
  obtain ⟨_, _, hregs, _⟩ := hreset (by decide) rfl
  obtain ⟨cause, s1, hmode, hexec'⟩ := exec_updateActivate_recoveryInOperation
  rw [hexec', Host.Outcome.next.injEq] at hexec
  subst hexec
  obtain ⟨_, _, hchanges, _⟩ := resetTo_moduleReset (s := s1) (s' := s1) cause rfl rfl rfl rfl ⟨rfl, rfl, rfl, rfl, rfl⟩
  rw [hmode, State.reg, hregs] at hchanges
  exact absurd hchanges (by decide)

end Sys2Proof.Machine

namespace Sys2Proof.Machine

set_option Elab.async false

/-! ### REC's queue over several operations -/

/-- REC runs as before, its queue has grown by at most `n`, and no request in it is lost. -/
def QueueGrown (n : Nat) (s t : State) : Prop :=
  t.recUp = s.recUp ∧ t.erec.queue.length ≤ s.erec.queue.length + n ∧ ∀ q ∈ s.erec.queue, q ∈ t.erec.queue

theorem grown_refl (s : State) : QueueGrown 0 s s := ⟨rfl, Nat.le_refl _, fun _ h => h⟩

theorem grown_mono {m n : Nat} {s t : State} (h : QueueGrown m s t) (hmn : m ≤ n) : QueueGrown n s t := by
  obtain ⟨hup, hlen, hkept⟩ := h
  exact ⟨hup, by omega, hkept⟩

/-- An operation that leaves the mode, the supervisor and REC alone. -/
theorem grown_only {P : List Part} {n : Nat} {b s t : State} (h : QueueGrown n b s) (ht : OnlyIn P s t) (hP : ∀ p ∈ [Part.sys, .isl, .erec], p ∉ P := by decide) :
    QueueGrown n b t := by
  have herec : t.erec = s.erec := ht.2 .erec (hP _ (by decide))
  rw [QueueGrown, recUp_of_only ht hP, herec]
  exact h

theorem grown_record {n type : Nat} {items : List Item} {b s : State} (h : QueueGrown n b s) : QueueGrown (n + 1) b (record type items s) := by
  obtain ⟨hup, hlen, hkept⟩ := h
  refine ⟨(recUp_record type items s).trans hup, (queue_record_le type items s).trans (Nat.succ_le_succ hlen), fun q hq => ?_⟩
  unfold record
  split <;> exact mem_queue_requestRec _ (hkept q hq)

theorem grown_when {n : Nat} {b s : State} {c : Bool} {f : State → State} (h : QueueGrown n b s) (hf : ∀ s, QueueGrown n b s → QueueGrown (n + 1) b (f s)) :
    QueueGrown (n + 1) b (when c f s) := by
  cases c
  · exact grown_mono h (Nat.le_succ n)
  · exact hf s h

/-- A request stands in the queue when at most seven came before it in the same command and those after it lose none. -/
theorem inQueue_of_grown {m n type : Nat} {items : List Item} {s s' t : State} (h : QueueGrown m s s') (hm : m ≤ 7)
    (h' : QueueGrown n (record type items s') t) : InQueue type items s t := by
  obtain ⟨hup, hlen, _⟩ := h
  obtain ⟨_, _, hkept⟩ := h'
  intro hrun hroom
  obtain ⟨q, hq, htype, hitems⟩ := inQueue_record (type := type) (items := items) hup (by omega) hrun hroom
  exact ⟨q, hkept q hq, htype, hitems⟩

end Sys2Proof.Machine

namespace Sys2Proof.Machine

set_option Elab.async false

/-! ### The end of an attempt (R107) -/

theorem grown_wipeLane {n : Nat} {l : Lane} {cause : Nat} {b s : State} (h : QueueGrown n b s) : QueueGrown (n + 1) b (wipeLane l cause s) := by
  unfold wipeLane
  dsimp only
  split
  · exact grown_mono h (Nat.le_succ n)
  · exact grown_only (P := [.mems]) (grown_record (grown_only (P := [.free, .mems, .regs]) h (only_bumpLane (only_mk (only_mk only_refl)))))
      (only_when only_unpowerLane only_refl)

/-- The vote after the end of an attempt: the lane's record as a reset leaves it, but for what an exclusion notes. -/
theorem endAttempt_vot (l : Lane) (c : Cause) (atOnce : Bool) (s : State) :
    (endAttempt l c atOnce s).vot =
      (resetLane (if (atOnce || (markExclusion l c s).retires l) = true then .retired else .reset) l (markExclusion l c s)).vot :=
  (only_raiseIrq (P := [.free, .regs, .isl, .icus, .mems, .erec]) (only_when only_record (only_record (only_bump (only_wipeLane only_refl))))).2 .vot (by decide)

/-- What the end of an attempt shows. -/
theorem endAttempt_ends (l : Lane) (c : Cause) (atOnce : Bool) (s : State) :
    ((endAttempt l c atOnce s).vot.lanes.get l).phase ∈ [Phase.reset, .retired] ∧ (atOnce = true → ((endAttempt l c atOnce s).vot.lanes.get l).phase = .retired) ∧
      ((endAttempt l c atOnce s).vot.lanes.get l).cause = c.code ∧ (endAttempt l c atOnce s).vot.exclSeq = s.vot.exclSeq + 1 ∧
      Raised Irq.VOT_REJOIN_FAILED (endAttempt l c atOnce s) ∧ InQueue 0x0203 [iU8 1 l.idx, iU8 2 c.code] s (endAttempt l c atOnce s) ∧
      (∀ m, m ≠ l → (endAttempt l c atOnce s).vot.lanes.get m = s.vot.lanes.get m) := by
  have hself : (endAttempt l c atOnce s).vot.lanes.get l = { Reset.laneVote with
      phase := if (atOnce || (markExclusion l c s).retires l) = true then .retired else .reset, cause := c.code
      history := s.nv.opSeconds.toNat :: (s.vot.lanes.get l).history.filter fun t => decide (s.nv.opSeconds.toNat < t + 3600)
      portFails := (s.vot.lanes.get l).portFails, cfg := s.reg Off.VOT_REJOIN_CFG, phaseAt := s.now, waits := !(markExclusion l c s).running } := by
    rw [endAttempt_vot, resetLane]
    dsimp only
    rw [get_modify_self, markExclusion, get_modify_self]
  refine ⟨?_, fun honce => ?_, by rw [hself], by rw [endAttempt_vot]; rfl, raised_raiseIrq _ _ (by decide), ?_, fun m hm => ?_⟩
  · rw [hself]
    dsimp only
    split <;> decide
  · rw [hself, honce]
    rfl
  · have hreset : QueueGrown 0 s (resetLane (if (atOnce || (markExclusion l c s).retires l) = true then .retired else .reset) l (markExclusion l c s)) :=
      grown_only (P := [.regs, .latches, .loWrites, .vot, .icus]) (grown_refl s) (only_resetLane (only_markExclusion only_refl))
    exact inQueue_of_grown (grown_only (P := [.regs]) (grown_wipeLane (l := l) (cause := 4) hreset) (only_bump only_refl)) (by decide)
      (grown_only (P := [.icus]) (grown_when (c := atOnce || (markExclusion l c s).retires l) (grown_refl _) fun _ h => grown_record h) (only_raiseIrq only_refl))
  · rw [endAttempt_vot, resetLane]
    dsimp only
    rw [get_modify_ne _ _ _ _ hm, markExclusion, get_modify_ne _ _ _ _ hm]

/-! ### The phases (R107 to R109, R112) -/

theorem modify_eq_set {α : Type} (t : Tri α) (l : Lane) (f : α → α) : t.modify l f = t.set l (f (t.get l)) := by cases l <;> rfl

theorem exists_next_rejoinRequest (s : State) (v : Word) (l : Lane) (hup : s.up = true) (hmode : s.sys.mode = .degraded) (hkey : fld v 16 16 = 0x524A)
    (hlane : fld v 0 2 = l.idx + 1) (hin : s.inVote l = false) (hrejoins : s.rejoins l = false) :
    ∃ t, exec (.rejoinRequest v) s = .next t ∧
      t.vot = { s.vot with lanes := s.vot.lanes.set l { s.vot.lanes.get l with phase := .reset, phaseAt := s.now, waits := false, requested := true, history := [] } } ∧
      OnlyIn [.vot] s t := by
  refine ⟨s.setLane l fun x => { x with phase := .reset, phaseAt := s.now, waits := false, requested := true, history := [] }, ?_, ?_, only_setLane only_refl⟩
  · refine congrArg Host.Outcome.next ((if_pos hup).trans ?_)
    unfold rejoinReqOp
    have hsome : (match fld v 0 2 with | 1 => some Lane.a | 2 => some Lane.b | 3 => some Lane.c | _ => none) = some l := by
      rw [hlane]
      cases l <;> rfl
    split at hsome <;> simp_all
  · unfold State.setLane
    rw [modify_eq_set]

theorem exists_next_rejoinRejected (s : State) (v : Word) (hwf : RegsWf s) (hup : s.up = true)
    (hbad : fld v 16 16 ≠ 0x524A ∨ fld v 0 2 = 0 ∨ s.sys.mode ≠ .degraded ∨ (∃ l : Lane, fld v 0 2 = l.idx + 1 ∧ (s.inVote l = true ∨ s.rejoins l = true))) :
    ∃ t, exec (.rejoinRequest v) s = .next t ∧ t.reg Off.VOT_REQ_REJECTS = s.reg Off.VOT_REQ_REJECTS + 1 ∧
      RegsOnly [Off.VOT_REQ_REJECTS] s t ∧ OnlyIn [.regs] s t := by
  refine ⟨bump Off.VOT_REQ_REJECTS s, ?_, reg_bump_unmasked _ _ hwf (by decide), regs_bump regs_refl, only_bump only_refl⟩
  refine congrArg Host.Outcome.next ((if_pos hup).trans ?_)
  have hreject : ∀ l : Lane, fld v 0 2 = l.idx + 1 → (fld v 16 16 != 0x524A || s.inVote l || s.rejoins l || s.sys.mode != .degraded) = true := by
    intro l hl
    obtain h | h | h | ⟨m, hm, h⟩ := hbad
    · simp [h]
    · omega
    · simp [h]
    · have : m = l := by
        cases m <;> cases l <;> simp_all [Lane.idx]
      subst this
      obtain h | h := h <;> simp [h]
  unfold rejoinReqOp
  dsimp only
  split
  next l h =>
    refine if_pos (hreject l ?_)
    split at h
    · obtain rfl := Option.some.inj h
      exact ‹fld v 0 2 = 1›
    · obtain rfl := Option.some.inj h
      exact ‹fld v 0 2 = 2›
    · obtain rfl := Option.some.inj h
      exact ‹fld v 0 2 = 3›
    · exact nomatch h
  next => rfl

theorem phase_of_inPhase {s : State} {l : Lane} {p : Phase} (h : s.inPhase l p = true) : s.mayRejoin l = true ∧ (s.vot.lanes.get l).phase = p := by
  simpa [State.inPhase] using h

/-- The lane's record and phase after it enters a phase; the other lanes are left alone. -/
theorem toPhase_lanes (l : Lane) (p : Phase) (s : State) :
    (toPhase l p s).vot.lanes.get l = { s.vot.lanes.get l with phase := p, phaseAt := s.now, passes := 0, dirty := 0, ready := false } ∧
      ∀ m, m ≠ l → (toPhase l p s).vot.lanes.get m = s.vot.lanes.get m :=
  ⟨get_modify_self _ _ _, fun _ hm => get_modify_ne _ _ _ _ hm⟩

theorem exists_next_rejoinHoldEnd (s : State) (l : Lane) (hphase : s.inPhase l .reset = true) (hrejoins : s.rejoins l = true) :
    ∃ t, exec (.rejoinHoldEnd l) s = .next t ∧ t.now = max s.now ((s.vot.lanes.get l).phaseAt + (s.vot.lanes.get l).holdNs) ∧
      (t.vot.lanes.get l).phase = .boot ∧ (t.vot.lanes.get l).phaseAt = t.now ∧ (∀ m, m ≠ l → t.vot.lanes.get m = s.vot.lanes.get m) ∧
      OnlyIn [.now, .time, .nv, .isl, .vot] s t := by
  let u := advanceTo ((s.vot.lanes.get l).phaseAt + (s.vot.lanes.get l).holdNs) s
  have hu : OnlyIn [.now, .isl, .time, .nv] s u := only_advanceTo only_refl
  have huvot : u.vot = s.vot := hu.2 .vot (by decide)
  obtain ⟨hself, hother⟩ := toPhase_lanes l .boot u
  refine ⟨toPhase l .boot u, congrArg Host.Outcome.next (if_pos (by rw [hphase, hrejoins]; rfl)), now_advanceTo _ s, by rw [hself], by rw [hself]; rfl,
    fun m hm => (hother m hm).trans (by rw [huvot]), only_toPhase (only_advanceTo only_refl)⟩

theorem inBound_of_within {s : State} {l : Lane} {f : State → State} (h : s.overBound l = false) : inBound l f s = f s := if_neg (by rw [h]; decide)

theorem inBound_of_over {s : State} {l : Lane} {f : State → State} (h : s.overBound l = true) : inBound l f s = endAttempt l .rejoinFail false s := if_pos h

theorem exists_next_rejoinBootDone (s : State) (l : Lane) (hphase : s.inPhase l .boot = true) (hbound : s.overBound l = false) :
    ∃ t, exec (.rejoinBootDone l) s = .next t ∧ (t.vot.lanes.get l).phase = .selftest ∧ (∀ m, m ≠ l → t.vot.lanes.get m = s.vot.lanes.get m) ∧
      (s.nv.identity.isSome = true → s.nv.tamper = false → (t.mems.get l).secure = .valid) ∧ (∀ m, m ≠ l → t.mems.get m = s.mems.get m) ∧
      OnlyIn [.vot, .mems] s t := by
  obtain ⟨hmay, _⟩ := phase_of_inPhase hphase
  simp only [State.mayRejoin, Bool.and_eq_true, Bool.not_eq_true'] at hmay
  obtain ⟨⟨_, hpower⟩, hdomain⟩ := hmay
  have hexec : exec (.rejoinBootDone l) s = .next (installKeys (toPhase l .selftest s) l) := congrArg Host.Outcome.next ((if_pos hphase).trans (inBound_of_within hbound))
  obtain ⟨hself, hother⟩ := toPhase_lanes l .selftest s
  have hkeys : OnlyIn [.mems] (toPhase l .selftest s) (installKeys (toPhase l .selftest s) l) := only_installKeys only_refl
  have hvot : (installKeys (toPhase l .selftest s) l).vot = (toPhase l .selftest s).vot := hkeys.2 .vot (by decide)
  refine ⟨_, hexec, by rw [hvot, hself], fun m hm => by rw [hvot, hother m hm], fun hid htamper => ?_, fun m hm => ?_, only_installKeys (only_toPhase only_refl)⟩
  · have hinstall : installKeys (toPhase l .selftest s) l = _ :=
      if_pos (by simp only [Bool.and_eq_true, Bool.not_eq_true']; exact ⟨⟨⟨hid, htamper⟩, hpower⟩, hdomain⟩)
    rw [hinstall]
    exact congrArg LaneMem.secure (get_set_self _ _ _)
  · unfold installKeys
    dsimp only
    split
    · exact get_set_ne _ _ _ _ hm
    · rfl

theorem exists_next_rejoinSelftestDone (s : State) (l : Lane) (hphase : s.inPhase l .selftest = true) (hbound : s.overBound l = false) :
    (∃ t, exec (.rejoinSelftestDone l true) s = .next t ∧ (t.vot.lanes.get l).phase = .precopy ∧
      (∀ m, m ≠ l → t.vot.lanes.get m = s.vot.lanes.get m) ∧ OnlyIn [.vot] s t) ∧
    (∃ t, exec (.rejoinSelftestDone l false) s = .next t ∧ (t.vot.lanes.get l).phase = .retired ∧
      (t.vot.lanes.get l).cause = Cause.image.code ∧ t.vot.exclSeq = s.vot.exclSeq + 1 ∧ Raised Irq.VOT_REJOIN_FAILED t ∧
      InQueue 0x0203 [iU8 1 l.idx, iU8 2 7] s t ∧
      (∀ m, m ≠ l → t.vot.lanes.get m = s.vot.lanes.get m) ∧ OnlyIn [.free, .regs, .latches, .loWrites, .isl, .vot, .icus, .mems, .erec] s t) := by
  have hexec : ∀ ok : Bool, exec (.rejoinSelftestDone l ok) s = .next ((if ok then toPhase l .precopy else endAttempt l .image true) s) := fun ok =>
    congrArg Host.Outcome.next ((if_pos hphase).trans (inBound_of_within hbound))
  obtain ⟨hself, hother⟩ := toPhase_lanes l .precopy s
  obtain ⟨_, hphase', hcause, hseq, hraised, hqueue, hother'⟩ := endAttempt_ends l .image true s
  exact ⟨⟨toPhase l .precopy s, hexec true, by rw [hself], hother, only_toPhase only_refl⟩,
    ⟨endAttempt l .image true s, hexec false, hphase' rfl, hcause, hseq, hraised, hqueue, hother', only_endAttempt only_refl⟩⟩

/-- The lane's record after a pass of PRECOPY. -/
def passed (l : Lane) (n : Nat) (s : State) : State :=
  s.setLane l fun v => { v with passes := v.passes + 1, dirty := n, ready := decide (n ≤ (s.vot.lanes.get l).dirtyLimit) }

theorem exec_precopyPassEnd {s : State} {l : Lane} (n : Nat) (hphase : s.inPhase l .precopy = true) (hready : (s.vot.lanes.get l).ready = false) :
    exec (.precopyPassEnd l n) s = .next (if !decide (n ≤ (s.vot.lanes.get l).dirtyLimit) && decide ((s.vot.lanes.get l).maxPasses ≤ (s.vot.lanes.get l).passes + 1)
      then endAttempt l .rejoinFail false (passed l n s) else passed l n s) :=
  congrArg Host.Outcome.next (if_pos (by rw [hphase, hready]; rfl))

theorem exists_next_precopyPassEnd (s : State) (l : Lane) (n : Nat) (hphase : s.inPhase l .precopy = true) (hready : (s.vot.lanes.get l).ready = false)
    (hgo : n ≤ (s.vot.lanes.get l).dirtyLimit ∨ (s.vot.lanes.get l).passes + 1 < (s.vot.lanes.get l).maxPasses) :
    ∃ t, exec (.precopyPassEnd l n) s = .next t ∧
      t.vot = { s.vot with lanes := s.vot.lanes.set l { s.vot.lanes.get l with passes := (s.vot.lanes.get l).passes + 1, dirty := n, ready := decide (n ≤ (s.vot.lanes.get l).dirtyLimit) } } ∧
      OnlyIn [.vot] s t := by
  refine ⟨passed l n s, ?_, ?_, only_setLane only_refl⟩
  · rw [exec_precopyPassEnd n hphase hready, if_neg]
    simp only [Bool.and_eq_true, Bool.not_eq_true', decide_eq_true_eq, decide_eq_false_iff_not]
    omega
  · unfold passed State.setLane
    rw [modify_eq_set]

theorem exists_next_precopyGivenUp (s : State) (l : Lane) (n : Nat) (hphase : s.inPhase l .precopy = true) (hready : (s.vot.lanes.get l).ready = false)
    (hdirty : (s.vot.lanes.get l).dirtyLimit < n) (hlast : (s.vot.lanes.get l).maxPasses ≤ (s.vot.lanes.get l).passes + 1) :
    ∃ t, exec (.precopyPassEnd l n) s = .next t ∧ (t.vot.lanes.get l).phase ∈ [Phase.reset, .retired] ∧
      (t.vot.lanes.get l).cause = Cause.rejoinFail.code ∧ t.vot.exclSeq = s.vot.exclSeq + 1 ∧ Raised Irq.VOT_REJOIN_FAILED t ∧
      InQueue 0x0203 [iU8 1 l.idx, iU8 2 8] s t ∧
      (∀ m, m ≠ l → t.vot.lanes.get m = s.vot.lanes.get m) ∧ OnlyIn [.free, .regs, .latches, .loWrites, .isl, .vot, .icus, .mems, .erec] s t := by
  obtain ⟨hphase', _, hcause, hseq, hraised, hqueue, hother⟩ := endAttempt_ends l .rejoinFail false (passed l n s)
  refine ⟨endAttempt l .rejoinFail false (passed l n s), ?_, hphase', hcause, hseq, hraised, hqueue, fun m hm => (hother m hm).trans (get_modify_ne _ _ _ _ hm),
    only_endAttempt (only_setLane only_refl)⟩
  rw [exec_precopyPassEnd n hphase hready, if_pos]
  simp only [Bool.and_eq_true, Bool.not_eq_true', decide_eq_true_eq, decide_eq_false_iff_not]
  omega

theorem exists_next_stopcopyEnd (s : State) (l : Lane) (hphase : s.inPhase l .stopcopy = true) (hbound : s.overBound l = false) :
    ∃ t, exec (.stopcopyEnd l) s = .next t ∧
      t.vot = { s.vot with lanes := s.vot.lanes.set l { s.vot.lanes.get l with ready := true, dirty := 0 } } ∧ OnlyIn [.vot] s t := by
  refine ⟨s.setLane l fun v => { v with ready := true, dirty := 0 }, congrArg Host.Outcome.next ((if_pos hphase).trans (inBound_of_within hbound)), ?_, only_setLane only_refl⟩
  unfold State.setLane
  rw [modify_eq_set]

theorem exists_next_rejoinPhaseTimeout (s : State) (l : Lane) (hphase : s.inPhase l .boot = true ∨ s.inPhase l .selftest = true ∨ s.inPhase l .stopcopy = true)
    (hready : (s.vot.lanes.get l).ready = false) :
    ∃ t, exec (.rejoinPhaseTimeout l) s = .next t ∧ (t.vot.lanes.get l).phase ∈ [Phase.reset, .retired] ∧
      (t.vot.lanes.get l).cause = Cause.rejoinFail.code ∧ t.vot.exclSeq = s.vot.exclSeq + 1 ∧ Raised Irq.VOT_REJOIN_FAILED t ∧
      InQueue 0x0203 [iU8 1 l.idx, iU8 2 8] s t ∧ (∀ m, m ≠ l → t.vot.lanes.get m = s.vot.lanes.get m) ∧
      OnlyIn [.now, .time, .nv, .free, .regs, .latches, .loWrites, .isl, .vot, .icus, .mems, .erec] s t := by
  obtain ⟨b, hmay, hb⟩ : ∃ b, s.mayRejoin l = true ∧ (s.vot.lanes.get l).bound = some b := by
    obtain h | h | h := hphase
    all_goals
      obtain ⟨hmay, hp⟩ := phase_of_inPhase h
      exact ⟨_, hmay, by rw [LaneVote.bound, hp]⟩
  let u := advanceTo ((s.vot.lanes.get l).phaseAt + b) s
  have hu : OnlyIn [.now, .isl, .time, .nv] s u := only_advanceTo only_refl
  have huvot : u.vot = s.vot := hu.2 .vot (by decide)
  have herec : u.erec = s.erec := hu.2 .erec (by decide)
  obtain ⟨hphase', _, hcause, hseq, hraised, hqueue, hother⟩ := endAttempt_ends l .rejoinFail false u
  refine ⟨endAttempt l .rejoinFail false u, ?_, hphase', hcause, by rw [hseq, huvot], hraised, fun hrun hroom => hqueue ((recUp_advanceTo _ s).trans hrun) (by rw [herec]; exact hroom),
    fun m hm => by rw [hother m hm, huvot], only_endAttempt (only_advanceTo only_refl)⟩
  show Host.Outcome.next _ = _
  dsimp only
  rw [hb]
  exact congrArg Host.Outcome.next (if_pos (by rw [hmay, hready]; rfl))

theorem exists_next_rejoinOverBound (s : State) (l : Lane) (ok : Bool) (c : Instr) (hbound : s.overBound l = true)
    (hc : c = .rejoinBootDone l ∧ s.inPhase l .boot = true ∨ c = .rejoinSelftestDone l ok ∧ s.inPhase l .selftest = true ∨
      c = .stopcopyEnd l ∧ s.inPhase l .stopcopy = true) :
    ∃ t, exec c s = .next t ∧ (t.vot.lanes.get l).phase ∈ [Phase.reset, .retired] ∧
      (t.vot.lanes.get l).cause = Cause.rejoinFail.code ∧ t.vot.exclSeq = s.vot.exclSeq + 1 ∧ Raised Irq.VOT_REJOIN_FAILED t ∧
      (∀ m, m ≠ l → t.vot.lanes.get m = s.vot.lanes.get m) ∧ OnlyIn [.free, .regs, .latches, .loWrites, .isl, .vot, .icus, .mems, .erec] s t := by
  obtain ⟨hphase', _, hcause, hseq, hraised, _, hother⟩ := endAttempt_ends l .rejoinFail false s
  refine ⟨endAttempt l .rejoinFail false s, ?_, hphase', hcause, hseq, hraised, hother, only_endAttempt only_refl⟩
  obtain ⟨rfl, h⟩ | ⟨rfl, h⟩ | ⟨rfl, h⟩ := hc
  all_goals exact congrArg Host.Outcome.next ((if_pos h).trans (inBound_of_over hbound))

/-- Settles O21, phase by phase. -/
theorem liveRejoin : Obligations.LiveRejoin :=
  ⟨exists_next_rejoinRequest, exists_next_rejoinRejected, exists_next_rejoinHoldEnd, exists_next_rejoinBootDone, exists_next_rejoinSelftestDone,
    exists_next_precopyPassEnd, exists_next_precopyGivenUp, exists_next_stopcopyEnd, exists_next_rejoinPhaseTimeout, exists_next_rejoinOverBound⟩

end Sys2Proof.Machine

namespace Sys2Proof.Machine

set_option Elab.async false

/-! ### An idle Piste (R195, R202) -/

theorem pisteIdle_iff (s : State) : s.pisteIdle = true ↔ s.pst.armed = [] ∧ (s.pst.edge = [] ∨ s.pst.edgeAt < s.now) := by
  simp [State.pisteIdle]

theorem pisteIdle_later {s t : State} (h : s.pisteIdle = true) (hpst : t.pst = s.pst) (hnow : s.now ≤ t.now) : t.pisteIdle = true := by
  rw [pisteIdle_iff] at h ⊢
  rw [hpst]
  obtain ⟨harmed, hedge⟩ := h
  exact ⟨harmed, hedge.imp_right fun h => Nat.lt_of_lt_of_le h hnow⟩

theorem settleEdge_of_idle {s : State} (h : s.pisteIdle = true) : settleEdge s = s := by
  obtain ⟨_, hedge⟩ := (pisteIdle_iff s).mp h
  refine if_pos ?_
  obtain h | h := hedge
  · rw [h]
    simp
  · simp [Nat.ne_of_lt h]

theorem pisteBefore_of_idle {s : State} (h : s.pisteIdle = true) : pisteBefore s = s := by
  obtain ⟨harmed, _⟩ := (pisteIdle_iff s).mp h
  have hnone : s.comparersOf 4 = [] := by rw [State.comparersOf, State.comparers, harmed]; rfl
  unfold pisteBefore
  rw [hnone]
  exact ite_eq_right_iff.mpr fun _ => settleEdge_of_idle h

theorem pisteUpdate_of_idle {s : State} (jump : Bool) (h : s.pisteIdle = true) : pisteUpdate jump s = s := by
  obtain ⟨harmed, _⟩ := (pisteIdle_iff s).mp h
  unfold pisteUpdate
  rw [harmed]
  exact ite_eq_right_iff.mpr fun _ => settleEdge_of_idle h

theorem setClass_of_idle {s : State} (c : Nat) (h : s.pst.armed = []) : OnlyIn [.icus, .odo] s (setClass c s) := by
  have hpst : (setClass c s).pst = s.pst := by
    have harmed : (setClass c s).pst.armed = s.pst.armed := by
      unfold setClass
      split
      · rfl
      · show List.map _ s.pst.armed = _
        rw [h]
        rfl
    rw [(setClass_parts c s).2, harmed]
  have honly : OnlyIn [.icus, .odo, .pst] s (setClass c s) := only_setClass only_refl
  refine ⟨honly.1, fun p hp => ?_⟩
  by_cases hpst' : p = .pst
  · subst hpst'
    exact hpst
  · exact honly.2 p (by simpa [hpst'] using hp)

theorem only_setClass_of_idle {P : List Part} {b s : State} {c : Nat} (harmed : s.pst.armed = []) (h : OnlyIn P b s) (hP : ∀ p ∈ [Part.icus, .odo], p ∈ P := by decide) :
    OnlyIn P b (setClass c s) :=
  only_via h hP fun _ h => onlyIn_trans h (setClass_of_idle c harmed)

theorem only_gradeOwn_of_idle {P : List Part} {b s : State} (harmed : s.pst.armed = []) (h : OnlyIn P b s) (hP : ∀ p ∈ [Part.icus, .odo], p ∈ P := by decide) :
    OnlyIn P b (gradeOwn s) :=
  only_via h hP fun _ h => only_setClass_of_idle harmed (only_mk h)

theorem gradeOwn_odo (s : State) : (gradeOwn s).odo = { s.odo with unc := s.uncNow, cls := s.classNow } := (setClass_parts _ _).1

/-! ### ODO_FIX_STATUS (R156 to R162) -/

theorem fixStatus_fields {st cause : Nat} {s : State} (hwf : RegsWf s) (hst : st < 16) (hcause : cause < 16) :
    fld ((fixStatus st cause s).reg Off.ODO_FIX_STATUS) 0 4 = st ∧ (st ≠ 1 → fld ((fixStatus st cause s).reg Off.ODO_FIX_STATUS) 4 4 = cause) := by
  have hreg : ∀ v, (setReg Off.ODO_FIX_STATUS v s).reg Off.ODO_FIX_STATUS = v := fun v => reg_setReg_unmasked _ v s hwf (by decide)
  unfold fixStatus
  split
  next h =>
    subst h
    rw [hreg]
    have hseq : fld (s.reg Off.ODO_FIX_STATUS) 8 8 < 256 := Nat.mod_lt _ (by decide)
    refine ⟨?_, fun h => absurd rfl h⟩
    simp only [mkWord, fld, List.foldl_cons, List.foldl_nil, Nat.shiftLeft_eq, BitVec.toNat_ofNat, Nat.shiftRight_eq_div_pow] at hseq ⊢
    omega
  next h =>
    unfold fixStatus.cmdResult3
    rw [hreg]
    have hseq : (fld (s.reg Off.ODO_FIX_STATUS) 8 8 + 1) % 256 < 256 := Nat.mod_lt _ (by decide)
    generalize (fld (s.reg Off.ODO_FIX_STATUS) 8 8 + 1) % 256 = q at hseq ⊢
    simp only [mkWord, fld, List.foldl_cons, List.foldl_nil, Nat.shiftLeft_eq, BitVec.toNat_ofNat, Nat.shiftRight_eq_div_pow]
    omega

theorem regs_fixStatus {R : List Nat} {b s : State} {st cause : Nat} (h : RegsOnly R b s) (hR : ∀ o ∈ [Off.ODO_FIX_STATUS], o ∈ R := by decide) :
    RegsOnly R b (fixStatus st cause s) :=
  regs_via h hR fun _ h => regs_ite (regs_setReg h) (regs_setReg h)

theorem wf_fixStatus {st cause : Nat} {s : State} (h : RegsWf s) : RegsWf (fixStatus st cause s) := wf_ite (wf_setReg h) (wf_setReg h)

theorem regs_fixReject {R : List Nat} {b s : State} {cause : Nat} (h : RegsOnly R b s)
    (hR : ∀ o ∈ [Off.ODO_FIX_STATUS, Off.ODO_FIX_REJECT_CNT], o ∈ R := by decide) : RegsOnly R b (fixReject cause s) :=
  regs_via h hR fun _ h => regs_raiseIrq (regs_bump (regs_fixStatus (regs_mk h)))

/-- A field of two or three bits within one of four. -/
theorem fld_of_wider {w : Word} {lo n m v : Nat} (h : fld w lo m = v) (hn : n ≤ m) (hv : v < 2 ^ n) : fld w lo n = v := by
  have hdvd : (2 : Nat) ^ n ∣ 2 ^ m := Nat.pow_dvd_pow 2 hn
  unfold fld at *
  rw [← Nat.mod_mod_of_dvd _ hdvd, h, Nat.mod_eq_of_lt hv]

theorem fixReject_rejects {cause : Nat} {s : State} (hwf : RegsWf s) (hcause : cause < 16) :
    fld ((fixReject cause s).reg Off.ODO_FIX_STATUS) 0 2 = 3 ∧ fld ((fixReject cause s).reg Off.ODO_FIX_STATUS) 4 4 = cause ∧
      (fixReject cause s).odo.pending = s.odo.pending ∧ (fixReject cause s).odo.pos = s.odo.pos ∧ (fixReject cause s).odo.fixSeq = s.odo.fixSeq ∧
      (fixReject cause s).reg Off.ODO_FIX_REJECT_CNT = s.reg Off.ODO_FIX_REJECT_CNT + 1 ∧ Raised Irq.ODO_FIX_REJECTED (fixReject cause s) ∧
      RegsOnly [Off.ODO_FIX_STATUS, Off.ODO_FIX_REJECT_CNT] s (fixReject cause s) ∧ OnlyIn [.regs, .odo, .icus] s (fixReject cause s) := by
  let s1 : State := { s with odo := { s.odo with gateRun := if cause = 1 then s.odo.gateRun else [] } }
  have hwf1 : RegsWf s1 := wf_mk hwf
  obtain ⟨hstate, hc⟩ := fixStatus_fields (st := 3) (s := s1) hwf1 (by decide) hcause
  have hstatus : RegsOnly [Off.ODO_FIX_STATUS] s1 (fixStatus 3 cause s1) := regs_fixStatus regs_refl
  have hreg : ∀ k, (fixReject cause s).reg k = (bump Off.ODO_FIX_REJECT_CNT (fixStatus 3 cause s1)).reg k := fun k =>
    reg_of_only (P := [.icus]) k (only_raiseIrq only_refl)
  have hodo : (fixReject cause s).odo = s1.odo := (only_raiseIrq (P := [.regs, .icus]) (only_bump (only_fixStatus only_refl))).2 .odo (by decide)
  refine ⟨?_, ?_, by rw [hodo], by rw [hodo], by rw [hodo], ?_, raised_raiseIrq _ _ (by decide), regs_fixReject regs_refl, only_fixReject only_refl⟩
  · rw [hreg, reg_bump_ne _ _ _ (by decide)]
    exact fld_of_wider hstate (by decide) (by decide)
  · rw [hreg, reg_bump_ne _ _ _ (by decide), hc (by decide)]
  · rw [hreg, reg_bump_unmasked _ _ (wf_fixStatus hwf1) (by decide), hstatus _ (by decide)]
    rfl

/-! ### The commands of a fix -/

theorem signed_code_self {pos : Int} (hlo : -9223372036854775808 ≤ pos) (hhi : pos < 9223372036854775808) : signed 64 (code 64 pos) = pos := by
  unfold signed code
  norm_num
  split <;> omega

theorem exists_next_fixSubmit (s : State) (pos : Int) (time acc cmd : Word) (hwf : RegsWf s) (hup : s.up = true) (hkey : fld cmd 16 16 = 0x4658)
    (hsource : s.odoSource ≠ 2) (hpending : s.odo.pending = none) (hlo : -9223372036854775808 ≤ pos) (hhi : pos < 9223372036854775808) :
    ∃ t, exec (.fixSubmit pos time acc cmd) s = .next t ∧
      t.odo = { s.odo with pending := some ⟨pos, time, fld acc 16 16, fld acc 0 16, bit cmd 0⟩ } ∧
      fld (t.reg Off.ODO_FIX_STATUS) 0 2 = 1 ∧ RegsOnly [Off.ODO_FIX_STATUS] s t ∧ OnlyIn [.regs, .odo] s t := by
  let s1 : State := { s with odo := { s.odo with pending := some ⟨pos, time, fld acc 16 16, fld acc 0 16, bit cmd 0⟩ } }
  have hop : fixSubmitOp pos time acc cmd s = fixStatus 1 0 s1 := by
    unfold fixSubmitOp
    rw [if_neg (by rw [hkey]; decide), if_neg hsource, if_neg (by rw [hpending]; decide), signed_code_self hlo hhi]
  have hexec : exec (.fixSubmit pos time acc cmd) s = .next (fixStatus 1 0 s1) := congrArg Host.Outcome.next ((if_pos hup).trans hop)
  exact ⟨_, hexec, (only_fixStatus (P := [.regs]) only_refl).2 .odo (by decide),
    fld_of_wider (fixStatus_fields (s := s1) (wf_mk hwf) (by decide) (by decide)).1 (by decide) (by decide),
    regs_fixStatus (regs_mk regs_refl), only_fixStatus (only_mk only_refl)⟩

theorem exists_next_fixSubmitRejected (s : State) (pos : Int) (time acc cmd : Word) (cause : Nat) (hwf : RegsWf s) (hup : s.up = true)
    (hcause : cause = 5 ∧ fld cmd 16 16 ≠ 0x4658 ∨ cause = 7 ∧ fld cmd 16 16 = 0x4658 ∧ s.odoSource = 2 ∨
     cause = 4 ∧ fld cmd 16 16 = 0x4658 ∧ s.odoSource ≠ 2 ∧ s.odo.pending ≠ none) :
    ∃ t, exec (.fixSubmit pos time acc cmd) s = .next t ∧ fld (t.reg Off.ODO_FIX_STATUS) 0 2 = 3 ∧
      fld (t.reg Off.ODO_FIX_STATUS) 4 4 = cause ∧ t.odo.pending = s.odo.pending ∧ t.odo.pos = s.odo.pos ∧
      t.reg Off.ODO_FIX_REJECT_CNT = s.reg Off.ODO_FIX_REJECT_CNT + 1 ∧ Raised Irq.ODO_FIX_REJECTED t ∧
      RegsOnly [Off.ODO_FIX_STATUS, Off.ODO_FIX_REJECT_CNT] s t ∧ OnlyIn [.regs, .odo, .icus] s t := by
  have hop : fixSubmitOp pos time acc cmd s = fixReject cause s := by
    unfold fixSubmitOp
    obtain ⟨rfl, hkey⟩ | ⟨rfl, hkey, hsource⟩ | ⟨rfl, hkey, hsource, hpending⟩ := hcause
    · rw [if_pos (by simpa using hkey)]
    · rw [if_neg (by rw [hkey]; decide), if_pos hsource]
    · rw [if_neg (by rw [hkey]; decide), if_neg hsource, if_pos (Option.isSome_iff_ne_none.mpr hpending)]
  obtain ⟨hstate, hc, hpend, hpos, _, hcount, hraised, hregs, honly⟩ := fixReject_rejects (cause := cause) hwf (by omega)
  exact ⟨_, congrArg Host.Outcome.next ((if_pos hup).trans hop), hstate, hc, hpend, hpos, hcount, hraised, hregs, honly⟩

/-- The pending fix is taken from its place. -/
def unpended (s : State) : State := { s with odo := { s.odo with pending := none } }

/-- The estimate as an accepted fix corrects it, before it is graded. -/
def corrected (f : Fix) (corr : Int) (s : State) : State :=
  { s with odo := { s.odo with
      pos := s.odo.pos + corr * 1000000
      history := (s.odo.history.map fun k => { k with pos := k.pos + corr * 1000000 })
      fixSeq := s.odo.fixSeq + 1
      uncBase := 10 * f.acc, uncDist := pathSince (extend f.time s.odo.estAt) s.odo.pos s.odo.history
      haveFix := true, restored := false, gateRun := []
      bridgeAt := if s.odo.bridged then s.now else s.odo.bridgeAt
      calFix := if decide (f.acc ≤ 2000) then some (f.pos, extend f.time s.odo.estAt, (s.estimateAt (extend f.time s.odo.estAt)).sens.map (·.1)) else none } }

/-- The registers and the interrupt of an accepted fix. -/
def fixTold (corr : Int) (s : State) : State :=
  s |> setReg Off.ODO_FIX_CORR (BitVec.ofInt 32 (satSigned 32 corr)) |> fixStatus 2 0 |> bump Off.ODO_FIX_ACCEPT_CNT |> raiseIrq Irq.ODO_FIX_ACCEPTED

theorem fixAccept_of_idle {f : Fix} {corr : Int} {s : State} (hidle : s.pisteIdle = true) (hcal : s.odo.calFix = none) :
    fixAccept f corr false s = record 0x0501 [⟨1, 9, beBytes 8 (code 64 corr)⟩] (fixTold corr (gradeOwn (corrected f corr s))) := by
  obtain ⟨harmed, _⟩ := (pisteIdle_iff s).mp hidle
  have honly : OnlyIn (.odo :: recParts) s (record 0x0501 [⟨1, 9, beBytes 8 (code 64 corr)⟩] (fixTold corr (gradeOwn (corrected f corr s)))) :=
    only_record (only_raiseIrq (only_bump (only_fixStatus (only_setReg (only_gradeOwn_of_idle harmed (only_mk only_refl))))))
  unfold fixAccept
  dsimp only
  rw [pisteBefore_of_idle hidle, hcal]
  exact pisteUpdate_of_idle true (pisteIdle_later hidle (honly.2 .pst (by decide)) (Nat.le_of_eq (now_of_only honly).symm))

theorem fixProcessOp_of_pending {f : Fix} {s : State} (h : s.odo.pending = some f) (hsource : s.odoSource ≠ 2) :
    fixProcessOp s = if extend f.time s.odo.estAt < (s.odo.estAt : Int) - 1000000000 then fixReject 2 (unpended s)
      else if (s.odo.estAt : Int) < extend f.time s.odo.estAt then fixReject 3 (unpended s)
      else if f.force then
        if s.odo.standstill || decide (s.odo.cls ≤ 1) then
          fixAccept f (f.pos - um (s.estimateAt (extend f.time s.odo.estAt)).pos) false (unpended s) else fixReject 6 (unpended s)
      else if s.odo.cls = 0 || decide ((f.pos - um (s.estimateAt (extend f.time s.odo.estAt)).pos).natAbs ≤
          (s.estimateAt (extend f.time s.odo.estAt)).unc + 10 * f.acc + 1000 * fld (s.reg Off.ODO_FIX_CFG) 0 16) then
        fixAccept f (f.pos - um (s.estimateAt (extend f.time s.odo.estAt)).pos) false (unpended s)
      else
        let corr := f.pos - um (s.estimateAt (extend f.time s.odo.estAt)).pos
        let n := max 2 (fld (s.reg Off.ODO_FIX_CFG) 16 4)
        let run := ((corr, 10 * f.acc) :: s.odo.gateRun).take n
        if run.length = n && runAgrees (1000 * fld (s.reg Off.ODO_FIX_CFG) 0 16) run then fixAccept f corr true (unpended s)
        else { unpended s with odo := { (unpended s).odo with gateRun := run } } |> setReg Off.ODO_FIX_CORR (BitVec.ofInt 32 (satSigned 32 corr)) |> fixReject 1 := by
  unfold fixProcessOp
  rw [h]
  exact if_neg hsource

theorem exists_next_fixAccepted (s : State) (f : Fix) (corr : Int) (hwf : RegsWf s) (hup : s.up = true) (hdsp : s.sys.dspFault = false)
    (hpending : s.odo.pending = some f) (hsource : s.odoSource ≠ 2) (hidle : s.pisteIdle = true) (hcal : s.odo.calFix = none)
    (hold : (s.odo.estAt : Int) - 1000000000 ≤ extend f.time s.odo.estAt) (hnew : extend f.time s.odo.estAt ≤ s.odo.estAt)
    (hcorr : corr = f.pos - um (s.estimateAt (extend f.time s.odo.estAt)).pos) (hforce : f.force = false)
    (hgate : s.odo.cls = 0 ∨ corr.natAbs ≤ (s.estimateAt (extend f.time s.odo.estAt)).unc + 10 * f.acc + 1000 * fld (s.reg Off.ODO_FIX_CFG) 0 16) :
    ∃ t, exec .fixProcess s = .next t ∧ t.odo.pos = s.odo.pos + corr * 1000000 ∧ t.odo.fixSeq = s.odo.fixSeq + 1 ∧ t.odo.haveFix = true ∧
      t.odo.history = (s.odo.history.map fun k => { k with pos := k.pos + corr * 1000000 }) ∧
      t.odo.uncBase = 10 * f.acc ∧ t.odo.pending = none ∧ t.odo.vel = s.odo.vel ∧ fld (t.reg Off.ODO_FIX_STATUS) 0 3 = 2 ∧
      t.reg Off.ODO_FIX_ACCEPT_CNT = s.reg Off.ODO_FIX_ACCEPT_CNT + 1 ∧ Raised Irq.ODO_FIX_ACCEPTED t ∧
      Recorded 0x0501 [⟨1, 9, beBytes 8 (code 64 corr)⟩] s t ∧
      RegsOnly [Off.ODO_FIX_CORR, Off.ODO_FIX_STATUS, Off.ODO_FIX_ACCEPT_CNT, Off.REC_LOST_CNT] s t ∧ OnlyIn (.odo :: recParts) s t := by
  obtain ⟨harmed, _⟩ := (pisteIdle_iff s).mp hidle
  let g := gradeOwn (corrected f corr (unpended s))
  have hop : fixProcessOp s = record 0x0501 [⟨1, 9, beBytes 8 (code 64 corr)⟩] (fixTold corr g) := by
    rw [fixProcessOp_of_pending hpending hsource, if_neg (by omega), if_neg (by omega), if_neg (by rw [hforce]; decide), if_pos (by simpa [← hcorr] using hgate), ← hcorr]
    exact fixAccept_of_idle (pisteIdle_later hidle rfl (Nat.le_refl _)) hcal
  have hexec : exec .fixProcess s = .next (record 0x0501 [⟨1, 9, beBytes 8 (code 64 corr)⟩] (fixTold corr g)) :=
    congrArg Host.Outcome.next ((if_pos (by rw [hup, hdsp]; rfl)).trans hop)
  have hg : OnlyIn [.icus, .odo] s g := only_gradeOwn_of_idle harmed (only_mk (only_mk only_refl))
  have hwfG : RegsWf g := regsWf_of_only hwf hg
  let c := setReg Off.ODO_FIX_CORR (BitVec.ofInt 32 (satSigned 32 corr)) g
  have hwfC : RegsWf c := wf_setReg hwfG
  have hregs : RegsOnly [Off.REC_LOST_CNT] (bump Off.ODO_FIX_ACCEPT_CNT (fixStatus 2 0 c)) (record 0x0501 [⟨1, 9, beBytes 8 (code 64 corr)⟩] (fixTold corr g)) :=
    regs_record (regs_raiseIrq regs_refl)
  have hodo : (record 0x0501 [⟨1, 9, beBytes 8 (code 64 corr)⟩] (fixTold corr g)).odo = g.odo :=
    (only_record (P := recParts) (only_raiseIrq (only_bump (only_fixStatus (only_setReg only_refl))))).2 .odo (by decide)
  have hgodo : g.odo = { (corrected f corr (unpended s)).odo with unc := (corrected f corr (unpended s)).uncNow, cls := (corrected f corr (unpended s)).classNow } := gradeOwn_odo _
  have htold : OnlyIn [.odo, .regs, .icus] s (fixTold corr g) :=
    only_raiseIrq (only_bump (only_fixStatus (only_setReg (only_gradeOwn_of_idle harmed (only_mk (only_mk only_refl))))))
  rw [hgodo] at hodo
  refine ⟨_, hexec, by rw [hodo]; rfl, by rw [hodo]; rfl, by rw [hodo]; rfl, by rw [hodo]; rfl, by rw [hodo]; rfl, by rw [hodo]; rfl, by rw [hodo]; rfl, ?_, ?_,
    raised_record (raised_raiseIrq _ _ (by decide)), recorded_record_of htold,
    regs_record (regs_raiseIrq (regs_bump (regs_fixStatus (regs_setReg (regs_gradeOwn (regs_mk (regs_mk regs_refl))))))),
    only_record (only_raiseIrq (only_bump (only_fixStatus (only_setReg (only_gradeOwn_of_idle harmed (only_mk (only_mk only_refl)))))))⟩
  · rw [hregs _ (by decide), reg_bump_ne _ _ _ (by decide)]
    exact fld_of_wider (fixStatus_fields hwfC (by decide) (by decide)).1 (by decide) (by decide)
  · have hstatus : RegsOnly [Off.ODO_FIX_STATUS, Off.ODO_FIX_CORR] g (fixStatus 2 0 c) := regs_fixStatus (regs_setReg regs_refl)
    rw [hregs _ (by decide), reg_bump_unmasked _ _ (wf_fixStatus hwfC) (by decide), hstatus _ (by decide), reg_of_only _ hg]

theorem exists_next_fixRejected (s : State) (f : Fix) (cause : Nat) (u : Int) (hwf : RegsWf s) (hup : s.up = true) (hdsp : s.sys.dspFault = false)
    (hpending : s.odo.pending = some f) (hsource : s.odoSource ≠ 2) (hu : u = extend f.time s.odo.estAt)
    (hcause : cause = 2 ∧ u < (s.odo.estAt : Int) - 1000000000 ∨ cause = 3 ∧ (s.odo.estAt : Int) < u ∨
     (s.odo.estAt : Int) - 1000000000 ≤ u ∧ u ≤ s.odo.estAt ∧ (cause = 6 ∧ f.force = true ∧ s.odo.standstill = false ∧ 1 < s.odo.cls ∨
       cause = 1 ∧ f.force = false ∧ s.odo.cls ≠ 0 ∧ s.odo.gateRun = [] ∧
       (s.estimateAt u).unc + 10 * f.acc + 1000 * fld (s.reg Off.ODO_FIX_CFG) 0 16 < (f.pos - um (s.estimateAt u).pos).natAbs)) :
    ∃ t, exec .fixProcess s = .next t ∧ t.odo.pos = s.odo.pos ∧ t.odo.fixSeq = s.odo.fixSeq ∧ t.odo.pending = none ∧
      fld (t.reg Off.ODO_FIX_STATUS) 0 2 = 3 ∧ fld (t.reg Off.ODO_FIX_STATUS) 4 4 = cause ∧
      t.reg Off.ODO_FIX_REJECT_CNT = s.reg Off.ODO_FIX_REJECT_CNT + 1 ∧ Raised Irq.ODO_FIX_REJECTED t ∧
      RegsOnly [Off.ODO_FIX_CORR, Off.ODO_FIX_STATUS, Off.ODO_FIX_REJECT_CNT] s t ∧ OnlyIn [.regs, .odo, .icus] s t := by
  obtain ⟨y, hop, hodo, hy, hyReg, hyCount, hyOnly⟩ : ∃ y, fixProcessOp s = fixReject cause y ∧ (y.odo.pos = s.odo.pos ∧ y.odo.fixSeq = s.odo.fixSeq ∧ y.odo.pending = none) ∧
      RegsWf y ∧ RegsOnly [Off.ODO_FIX_CORR, Off.ODO_FIX_STATUS, Off.ODO_FIX_REJECT_CNT] s y ∧ y.reg Off.ODO_FIX_REJECT_CNT = s.reg Off.ODO_FIX_REJECT_CNT ∧
      OnlyIn [.regs, .odo, .icus] s y := by
    have hplain : RegsWf (unpended s) ∧ RegsOnly [Off.ODO_FIX_CORR, Off.ODO_FIX_STATUS, Off.ODO_FIX_REJECT_CNT] s (unpended s) ∧
        (unpended s).reg Off.ODO_FIX_REJECT_CNT = s.reg Off.ODO_FIX_REJECT_CNT ∧ OnlyIn [.regs, .odo, .icus] s (unpended s) :=
      ⟨wf_mk hwf, regs_mk regs_refl, rfl, only_mk only_refl⟩
    rw [fixProcessOp_of_pending hpending hsource, ← hu]
    obtain ⟨rfl, hlate⟩ | ⟨rfl, hfuture⟩ | ⟨hlo, hhi, ⟨rfl, hforce, hstand, hcls⟩ | ⟨rfl, hforce, hcls, hrun, hgate⟩⟩ := hcause
    · rw [if_pos hlate]
      exact ⟨unpended s, rfl, ⟨rfl, rfl, rfl⟩, hplain⟩
    · rw [if_neg (by omega), if_pos hfuture]
      exact ⟨unpended s, rfl, ⟨rfl, rfl, rfl⟩, hplain⟩
    · rw [if_neg (by omega), if_neg (by omega), if_pos hforce, if_neg (by simp [hstand]; omega)]
      exact ⟨unpended s, rfl, ⟨rfl, rfl, rfl⟩, hplain⟩
    · rw [if_neg (by omega), if_neg (by omega), if_neg (by rw [hforce]; decide), if_neg (by simp [hcls]; omega), hrun]
      dsimp only
      rw [if_neg]
      · exact ⟨_, rfl, ⟨rfl, rfl, rfl⟩, wf_setReg (wf_mk (wf_mk hwf)), regs_setReg (regs_mk (regs_mk regs_refl)),
          reg_setReg_ne _ _ _ _ (by decide), only_setReg (only_mk (only_mk only_refl))⟩
      · have hshort : ∀ n, 2 ≤ n → ((f.pos - um (s.estimateAt u).pos, 10 * f.acc) :: ([] : List (Int × Nat))).take n ≠ [] ∧
            (((f.pos - um (s.estimateAt u).pos, 10 * f.acc) :: ([] : List (Int × Nat))).take n).length ≠ n := by
          intro n hn
          rw [List.take_of_length_le (by simpa using Nat.le_of_lt hn)]
          exact ⟨by simp, by simp; omega⟩
        simp only [Bool.and_eq_true, decide_eq_true_eq, not_and]
        intro h
        exact absurd h (hshort _ (Nat.le_max_left _ _)).2
  obtain ⟨hpos, hseq, hpend⟩ := hodo
  obtain ⟨hstate, hc, hpend', hpos', hseq', hcount, hraised, _, _⟩ := fixReject_rejects (cause := cause) hy (by omega)
  refine ⟨_, congrArg Host.Outcome.next ((if_pos (by rw [hup, hdsp]; rfl)).trans hop), by rw [hpos', hpos], by rw [hseq', hseq], by rw [hpend', hpend], hstate, hc,
    by rw [hcount, hyCount], hraised, regs_fixReject hyReg, only_fixReject hyOnly⟩

/-! ### The remote source and the read of the position -/

theorem exists_next_remoteRecord (s : State) (node : Nat) (payload : List Byte) (r : PosRec) (hup : s.up = true) (hsource : s.odoSource = 2)
    (hlen : payload.length = 32) (hr : r = posRecOf payload) (hnode : node = fld (s.reg Off.ODO_REMOTE_CFG) 0 14) :
    ∃ t, exec (.remoteRecord node payload) s = .next t ∧
      t.odo = { s.odo with remote := some r, remoteAt := s.tb0, remoteFrom := node, remoteStale := false, remoteJump := t.odo.remoteJump } ∧
      t.odo.remoteJump = (s.odo.remoteJump || s.odo.remote.all fun p => fld p.qual 16 8 != fld r.qual 16 8 || s.odo.remoteFrom != node) ∧
      OnlyIn [.odo] s t := by
  refine ⟨_, congrArg Host.Outcome.next ((if_pos (by rw [hup, hsource, hlen]; rfl)).trans (if_neg (by simp [← hnode]))), ?_, ?_, only_mk only_refl⟩
  · rw [hr]
  · cases h : s.odo.remote <;> simp [hr]

/-- The remote source marked stale and counted, before its class falls (R165). -/
def staleNoted (s : State) : State := bump Off.ODO_REMOTE_STALE_CNT { s with odo := { s.odo with remoteStale := true } }

/-- What a record that is not followed, or no longer, does to the position (R165). -/
def staled (s : State) : State := setClass 0 (staleNoted s)

theorem setClass_odo (c : Nat) (s : State) : (setClass c s).odo = { s.odo with cls := c } := by
  unfold setClass
  split
  · next h => rw [h]
  · exact (only_raiseIrq (P := [.icus]) (s := suspendBelow _) only_refl).2 .odo (by decide)

theorem raised_setClass_of_ne {c : Nat} {s : State} (h : c ≠ s.odo.cls) : Raised Irq.ODO_QUALITY_CHG (setClass c s) := by
  rw [setClass, if_neg h]
  exact raised_raiseIrq _ _ (by decide)

theorem suspendOnly_setClass (c : Nat) (s : State) : SuspendOnly s (setClass c s) := by
  unfold setClass
  split
  · exact ⟨rfl, rfl⟩
  · have hpst : (raiseIrq Irq.ODO_QUALITY_CHG (suspendBelow { s with odo := { s.odo with cls := c } })).pst =
        (suspendBelow { s with odo := { s.odo with cls := c } }).pst := (only_raiseIrq (P := [.icus]) only_refl).2 .pst (by decide)
    refine ⟨by rw [hpst]; rfl, ?_⟩
    rw [hpst]
    exact List.map_map.trans (List.map_congr_left fun _ _ => rfl)

theorem staled_stales (s : State) (hwf : RegsWf s) :
    (staled s).odo = { s.odo with cls := 0, remoteStale := true } ∧ (s.odo.cls ≠ 0 → Raised Irq.ODO_QUALITY_CHG (staled s)) ∧
      (staled s).reg Off.ODO_REMOTE_STALE_CNT = s.reg Off.ODO_REMOTE_STALE_CNT + 1 ∧ SuspendOnly s (staled s) ∧
      RegsOnly [Off.ODO_REMOTE_STALE_CNT] s (staled s) ∧ OnlyIn [.regs, .odo, .icus, .pst] s (staled s) := by
  have hodo : (staleNoted s).odo = { s.odo with remoteStale := true } :=
    (only_bump (P := [.regs]) (b := { s with odo := { s.odo with remoteStale := true } }) only_refl).2 .odo (by decide)
  have hpst : (staleNoted s).pst = s.pst := (only_bump (P := [.regs, .odo]) (only_mk only_refl)).2 .pst (by decide)
  have hclass : OnlyIn [.odo, .icus, .pst] (staleNoted s) (staled s) := only_setClass only_refl
  refine ⟨by rw [staled, setClass_odo, hodo], fun h => raised_setClass_of_ne (by rw [hodo]; exact Ne.symm h), ?_, ?_,
    regs_setClass (regs_bump (regs_mk regs_refl)), only_setClass (only_bump (only_mk only_refl))⟩
  · exact (reg_of_only _ hclass).trans (reg_bump_unmasked _ _ (wf_mk hwf) (by decide))
  · obtain ⟨h1, h2⟩ := suspendOnly_setClass 0 (staleNoted s)
    rw [hpst] at h1 h2
    exact ⟨h1, h2⟩

theorem exists_next_staleRecord (s : State) (node : Nat) (payload : List Byte) (c : Instr) (hwf : RegsWf s) (hup : s.up = true) (hsource : s.odoSource = 2)
    (hc : c = .remoteStale ∧ s.odo.remote ≠ none ∧ s.odo.remoteStale = false ∨
      c = .remoteRecord node payload ∧ payload.length = 32 ∧ node ≠ fld (s.reg Off.ODO_REMOTE_CFG) 0 14) :
    ∃ t, exec c s = .next t ∧ t.odo = { s.odo with cls := 0, remoteStale := true } ∧ (s.odo.cls ≠ 0 → Raised Irq.ODO_QUALITY_CHG t) ∧
      t.reg Off.ODO_REMOTE_STALE_CNT = s.reg Off.ODO_REMOTE_STALE_CNT + 1 ∧ SuspendOnly s t ∧ RegsOnly [Off.ODO_REMOTE_STALE_CNT] s t ∧
      OnlyIn [.now, .time, .nv, .isl, .regs, .odo, .icus, .pst] s t := by
  obtain ⟨y, hexec, hy⟩ : ∃ y, exec c s = .next (staled y) ∧ OnlyIn [.now, .isl, .nv, .time] s y := by
    obtain ⟨rfl, hremote, hstale⟩ | ⟨rfl, hlen, hnode⟩ := hc
    · obtain ⟨r, hr⟩ := Option.ne_none_iff_exists'.mp hremote
      have hy : OnlyIn [.now, .isl, .nv, .time] s (toTb0 ((s.remoteDue r).toNat + 1) s) := only_toTb0 only_refl
      refine ⟨_, congrArg Host.Outcome.next ((if_pos (by rw [hup, hsource]; rfl)).trans ?_), hy⟩
      dsimp only
      rw [hr]
      dsimp only
      rw [staleRemote, if_neg (by rw [show (toTb0 _ s).odo = s.odo from hy.2 .odo (by decide), hstale]; decide)]
      rfl
    · exact ⟨s, congrArg Host.Outcome.next ((if_pos (by rw [hup, hsource, hlen]; rfl)).trans (if_pos (by simpa using hnode))), only_refl⟩
  have hodo := hy.2 .odo (by decide)
  have hpst := hy.2 .pst (by decide)
  obtain ⟨h1, h2, h3, h4, h5, h6⟩ := staled_stales y (regsWf_of_only hwf hy)
  rw [hodo] at h1 h2
  rw [reg_of_only _ hy] at h3
  refine ⟨_, hexec, h1, h2, h3, ⟨by rw [← hpst]; exact h4.1, by rw [← hpst]; exact h4.2⟩, fun o ho => (h5 o ho).trans (reg_of_only _ hy), ?_⟩
  exact onlyIn_trans (onlyIn_mono hy (by decide)) (onlyIn_mono h6 (by decide))

theorem exists_next_odoPosRead (s : State) (l : Lane) (core : Nat) (hup : s.up = true) (hvote : s.inVote l = true) :
    ∃ t, exec (.odoPosRead l core) s = .next t ∧ t.vot = s.vot.answered core (s.peek l Off.ODO_POS_LO) false ∧
      (∀ o ∈ [Off.ODO_POS_HI, Off.ODO_VEL, Off.ODO_ACC, Off.ODO_QUALITY, Off.ODO_UNC, Off.ODO_EST_CTIME, Off.ODO_EST_SEQ],
        t.latched none core o = some (s.peek s.lane0 o)) ∧ OnlyIn [.latches, .vot] s t := by
  refine ⟨answerAll core (s.peek l Off.ODO_POS_LO) false (odoPosOp core s), congrArg Host.Outcome.next (if_pos (by rw [hup, hvote]; rfl)),
    answerAll_vot _ _ _ _, fun o ho => ?_, only_answerAll (only_setLatch only_refl)⟩
  have hlatches : (answerAll core (s.peek l Off.ODO_POS_LO) false (odoPosOp core s)).latches = (odoPosOp core s).latches :=
    (onlyIn_answerAll core _ false _).2 .latches (by decide)
  rw [State.latched, hlatches]
  refine latched_setLatch _ _ _ _ _ _ _ ?_
  simp only [List.mem_cons, List.not_mem_nil, or_false] at ho
  obtain rfl | rfl | rfl | rfl | rfl | rfl | rfl := ho <;> rfl

/-- Settles O26, command by command. -/
theorem fixesAndRemotePosition : Obligations.FixesAndRemotePosition :=
  ⟨exists_next_fixSubmit, exists_next_fixSubmitRejected, exists_next_fixAccepted, exists_next_fixRejected, exists_next_remoteRecord, exists_next_staleRecord,
    exists_next_odoPosRead⟩

end Sys2Proof.Machine

namespace Sys2Proof.Machine

set_option Elab.async false

/-! ### A service write of the wake configuration with a register file out of form (R462) -/

/-- A commissioned module that serves one session, and whose register file holds the wake configuration twice. -/
def wakeTwice : State :=
  { Tests.commissioned (Tests.served [Tests.sess]) with regs := [(Off.SYS_WAKE_CFG, 1), (Off.SYS_WAKE_CFG, 3)] }

/-- Port 7, from which the session's role may write 0x1104. -/
def servicePort : Path := { Tests.x11 with port := 7 }

/-- The default of the wake configuration, written to 0x1104. -/
def wakeDefault : KspMsg := Tests.req 0x11 5 9 0x1104 0 [0, 0, 0, 0xF0]

/-- The register file after the write, which removes one of the two entries. -/
theorem wakeTwice_written (t : State) (h : exec (.kspWrite servicePort .plain wakeDefault true) wakeTwice = .next t) : t.reg Off.SYS_WAKE_CFG = 3 := by
  have hwritten : (kspArrive (wakeDefault.code == 0x11) servicePort .plain wakeDefault kspDiscard
      (inSession servicePort wakeDefault (writeReq true servicePort wakeDefault)) wakeTwice).reg Off.SYS_WAKE_CFG = 3 := by decide +kernel
  rw [← Host.Outcome.next.inj (show Host.Outcome.next _ = _ from h)]
  exact hwritten

/-- Refutes O51: nothing asks for a register file in form, and of a wake configuration that stands there twice a write of its default removes one entry alone. -/
theorem not_serviceObjects : ¬ Obligations.ServiceObjects := by
  unfold Obligations.ServiceObjects
  rintro ⟨_, _, _, _, _, _, hwrite, _⟩
  obtain ⟨_, hstored, _⟩ := hwrite wakeTwice servicePort .plain wakeDefault true Tests.sess (Tests.objd 0x1104 0) 0 0x1104 0 0xF0
    (by unfold Requested; decide +kernel) (by unfold Executes; decide +kernel) rfl rfl rfl (by decide) (by decide +kernel) (by decide +kernel)
  obtain ⟨t, hexec, _, _, _, _, hwake, _⟩ := hstored rfl (by decide +kernel) (by decide +kernel) (by decide +kernel) rfl (by decide) (by decide +kernel)
  exact absurd ((wakeTwice_written t hexec).symm.trans hwake) (by decide +kernel)

end Sys2Proof.Machine

namespace Sys2Proof.Machine

set_option Elab.async false

/-! ### PARTNER and PROTECTED (Table 11.11) -/

theorem settled_congr {s s' : State} (c : Chk) (h : s'.pairMember = s.pairMember) : s'.settled c = s.settled c := by
  rw [State.settled, State.settled, h]

/-- PARTNER and PROTECTED set, before their change is reported. -/
def pairSet (s : State) : State := { s with chk := s.settled s.chk }

theorem chkUpdate_eq (s : State) : chkUpdate s =
    when ((s.settled s.chk).protected_ != s.chk.protected_) (raiseIrq Irq.CHK_PROTECTION_CHG)
      (when ((s.settled s.chk).partner != s.chk.partner) (raiseIrq Irq.CHK_PARTNER_CHG) (pairSet s)) := by
  have hready : (s.chk.partnerCode == 2) = (s.chk.presentN && !s.chk.pFail) := by
    unfold Chk.partnerCode
    cases s.chk.presentN <;> cases s.chk.pFail <;> rfl
  have hpartner : (s.settled s.chk).partner = s.chk.partnerCode := by
    rw [Chk.partnerCode, State.settled]
  have hchk : s.settled s.chk = { s.chk with
      partner := s.chk.partnerCode
      protected_ := s.pairMember && s.chk.role == .active && s.chk.holder && s.chk.partnerCode == 2 && s.chk.mramOk && s.chk.stream == .running } := by
    rw [hready, ← hpartner]
    simp only [State.settled, Bool.and_assoc]
  unfold chkUpdate pairSet
  rw [hchk]

theorem chkUpdate_chk (s : State) : (chkUpdate s).chk = s.settled s.chk := by
  have hparts : OnlyIn [.icus] (pairSet s) (chkUpdate s) := by
    rw [chkUpdate_eq]
    exact only_when only_raiseIrq (only_when only_raiseIrq only_refl)
  exact hparts.2 .chk (by decide)

theorem pairReported_chkUpdate {s s' : State} (hpartner : s'.chk.partner = s.chk.partner) (hprot : s'.chk.protected_ = s.chk.protected_) :
    PairReported s (chkUpdate s') := by
  rw [PairReported, chkUpdate_chk, chkUpdate_eq, ← hpartner, ← hprot]
  refine ⟨fun h => raised_when raised_raiseIrq_too ?_, fun h => ?_⟩
  · rw [bne_iff_ne.mpr h]
    exact raised_raiseIrq _ _ (by decide)
  · rw [bne_iff_ne.mpr h]
    exact raised_raiseIrq _ _ (by decide)

end Sys2Proof.Machine

namespace Sys2Proof.Machine

set_option Elab.async false

/-! ### Passes of the background activities (R540) -/

theorem passDone_tlm (a : Nat) (s : State) :
    (passDone a s).tlm = { s.tlm with
      late := if s.tlm.latePass.getLsbD a then s.tlm.late else s.tlm.late &&& ~~~(1#10 <<< a)
      latePass := s.tlm.latePass &&& ~~~(1#10 <<< a), periodAt := s.tlm.periodAt.set a s.now } := by
  unfold passDone
  dsimp only
  split
  · rfl
  · next h =>
    have hclear : s.tlm.latePass &&& ~~~(1#10 <<< a) = s.tlm.latePass := by
      ext i hi
      have hi' : i = a → s.tlm.latePass[i] = false := fun hia => by
        subst hia
        simpa [BitVec.getLsbD_eq_getElem hi] using h
      by_cases hia : i = a
      · simp [hi' hia]
      · simp only [BitVec.getElem_and, BitVec.getElem_not, BitVec.getElem_shiftLeft, BitVec.getElem_one]
        grind
    rw [hclear]

theorem passTold_passDone {a : Nat} {s s' : State} (hlate : s'.tlm.late = s.tlm.late) (hpass : s'.tlm.latePass = s.tlm.latePass) : PassTold a s (passDone a s') := by
  rw [PassTold, passDone_tlm, hlate, hpass]
  exact ⟨rfl, rfl⟩

/-- What was told of a pass stays while the telemetry is left alone. -/
theorem passTold_of_tlm {a : Nat} {s t u : State} (h : PassTold a s t) (htlm : u.tlm = t.tlm) : PassTold a s u := by
  rw [PassTold, htlm]
  exact h

/-! ### Words that a scrub corrects (R421, R423) -/

theorem mem_insNat_iff (k n : Nat) (l : List Nat) : k ∈ insNat l n ↔ k ∈ l ∨ k = n := by
  induction l with
  | nil => simp [insNat]
  | cons x xs ih =>
    unfold insNat
    split
    · simp [or_comm]
    · split
      · next h => subst h; simp; tauto
      · simp [ih, or_assoc]

/-- The rate count of a lane changes no byte, and none of the words that the scrub has corrected. -/
theorem countCorrection_mems (l : Lane) (s : State) : ∃ m : LaneMem, (countCorrection l s).mems = s.mems.modify l (fun _ => m) ∧
    m.dram = (s.mem l).dram ∧ m.spad = (s.mem l).spad ∧ m.scrubNow = (s.mem l).scrubNow ∧ m.scrubOld = (s.mem l).scrubOld := by
  unfold countCorrection
  generalize ceWindow = window
  extract_lets at_ m0 m lim hit s1
  clear_value at_
  have hm : ∃ start count rate, m = { m0 with ceStart := start, ceCount := count, ceRate := rate } := by
    by_cases hwindow : m0.ceStart + window ≤ at_
    · exact ⟨_, _, _, if_pos hwindow⟩
    · exact ⟨_, _, _, if_neg hwindow⟩
  obtain ⟨start, count, rate, hm⟩ := hm
  clear_value m
  have hs1 : OnlyIn recParts s1 (when (hit && !m.ceRecorded) (record 0x0301 [iU8 1 l.idx, iU8 2 0, iU32 3 m.ceCount]) (when hit (assertAt l Irq.MEM_CE_RATE) s1)) :=
    only_when only_record (only_when only_assertAt only_refl)
  exact ⟨{ m with ceRate := m.ceRate || hit, ceRecorded := m.ceRecorded || hit }, hs1.2 .mems (by decide), by rw [hm], by rw [hm], by rw [hm], by rw [hm]⟩

/-- Register in which a lane counts the corrections of its DRAM or scratchpad. -/
def ceCount (dram : Bool) : Nat := if dram then Off.SPM_DRAM_CE_CNT else Off.SPM_SPM_CE_CNT

theorem regMask_ceCount (l : Lane) (dram : Bool) : regMask (laneKey l (ceCount dram)) = BitVec.allOnes 32 := by
  cases l <;> cases dram <;> decide

/-- Registers that a correction changes. -/
def ceRegs : List Nat :=
  [Off.SPM_DRAM_CE_CNT, Off.SPM_SPM_CE_CNT, Off.SPM_DRAM_ERR_LO, Off.SPM_DRAM_ERR_HI, Off.SPM_DRAM_ERR_INFO, Off.SPM_SPM_ERR_ADDR, Off.SPM_SPM_ERR_INFO, Off.REC_LOST_CNT]

theorem fld_mkWord_three (a b c x y z lo n : Nat) :
    fld (mkWord [(a, x), (b, y), (c, z)]) lo n = (x * 2 ^ a + y * 2 ^ b + z * 2 ^ c) % 2 ^ 32 / 2 ^ lo % 2 ^ n := by
  simp [mkWord, fld, Nat.shiftLeft_eq, Nat.shiftRight_eq_div_pow]

theorem fromScrub_scrubInfo (b : Nat) : fromScrub (scrubInfo b) = true := by
  have hb : b % 72 < 72 := Nat.mod_lt _ (by decide)
  rw [fromScrub, beq_iff_eq, scrubInfo, fld_mkWord_three]
  omega

/-- What the scrub's corrections of the words at `ws` leave: the count, the bytes, and the words that it has noted in this pass. -/
def Corrected (l : Lane) (dram : Bool) (ws : List Nat) (s t : State) : Prop :=
  RegsWf t ∧ t.reg (laneKey l (ceCount dram)) = s.reg (laneKey l (ceCount dram)) + BitVec.ofNat 32 ws.length ∧
  SameBytes l s t ∧ (∀ m, m ≠ l → t.mem m = s.mem m) ∧ (t.mem l).scrubOld = (s.mem l).scrubOld ∧
  (∀ k, k ∈ (t.mem l).scrubNow ↔ k ∈ (s.mem l).scrubNow ∨ ∃ a ∈ ws, k = 2 * (a / 8) + b2n dram) ∧
  RegsOnly ceRegs s t ∧ OnlyIn (.mems :: recParts) s t

theorem corrected_nil {l : Lane} {dram : Bool} {s : State} (h : RegsWf s) : Corrected l dram [] s s :=
  ⟨h, by simp, ⟨rfl, rfl⟩, fun _ _ => rfl, rfl, by simp, regs_refl, only_refl⟩

/-- Registers that a correction changes after its count. -/
def ceLog : List Nat :=
  [Off.SPM_DRAM_ERR_LO, Off.SPM_DRAM_ERR_HI, Off.SPM_DRAM_ERR_INFO, Off.SPM_SPM_ERR_ADDR, Off.SPM_SPM_ERR_INFO, Off.REC_LOST_CNT]

theorem ceCount_not_mem_ceLog (l : Lane) (dram : Bool) : laneKey l (ceCount dram) % 16777216 ∉ ceLog := by
  cases l <;> cases dram <;> decide

theorem ceCount_mem_ceRegs (l : Lane) (dram : Bool) : laneKey l (ceCount dram) % 16777216 ∈ ceRegs := by
  cases l <;> cases dram <;> decide

theorem correct_counts {l : Lane} {dram : Bool} {addr : Nat} {info : Word} {s : State} (h : RegsWf s) :
    RegsWf (correct l dram addr info s) ∧ RegsOnly ceRegs s (correct l dram addr info s) ∧
    (correct l dram addr info s).reg (laneKey l (ceCount dram)) = s.reg (laneKey l (ceCount dram)) + 1 := by
  have hlog : ∀ {R : List Nat} {b u : State} (w : Word) (f : LaneMem → LaneMem), (∀ o ∈ ceLog, o ∈ R) → RegsOnly R b u →
      RegsOnly R b (countCorrection l (assertAt l Irq.MEM_CE (setMem l f (logError l dram addr w u)))) := fun w f hR h =>
    regs_via h hR fun _ h => regs_countCorrection (regs_assertAt (regs_setMem (regs_logError h)))
  refine ⟨?_, ?_, ?_⟩
  · exact wf_countCorrection (wf_assertAt (wf_setMem (wf_logError (wf_bumpLane h))))
  · exact hlog _ _ (by decide) (regs_bump (k := laneKey l (ceCount dram)) regs_refl (ceCount_mem_ceRegs l dram))
  · exact (hlog (R := ceLog) _ _ (fun _ h => h) regs_refl _ (ceCount_not_mem_ceLog l dram)).trans (reg_bump_unmasked _ _ h (regMask_ceCount l dram))

theorem modify_twice {α : Type} (x : Tri α) (l : Lane) (f : α → α) (y : α) : (x.modify l f).modify l (fun _ => y) = x.modify l (fun _ => y) := by
  cases l <;> rfl

/-- The steps of a correction. -/
theorem correct_eq (l : Lane) (dram : Bool) (addr : Nat) (info : Word) (s : State) (h : fromScrub info = true) : ∃ (o : Nat) (w : Word) (f : LaneMem → LaneMem),
    correct l dram addr info s = countCorrection l (assertAt l Irq.MEM_CE (setMem l f (logError l dram addr w (bumpLane l o s)))) ∧
    ∀ m, (f m).dram = m.dram ∧ (f m).spad = m.spad ∧ (f m).scrubNow = insNat m.scrubNow (2 * (addr / 8) + b2n dram) ∧ (f m).scrubOld = m.scrubOld :=
  ⟨_, _, _, rfl, fun m => ⟨rfl, rfl, by rw [h]; rfl, rfl⟩⟩

theorem correct_mems (l : Lane) (dram : Bool) (addr : Nat) (info : Word) (s : State) (h : fromScrub info = true) :
    ∃ m : LaneMem, (correct l dram addr info s).mems = s.mems.modify l (fun _ => m) ∧
    m.dram = (s.mem l).dram ∧ m.spad = (s.mem l).spad ∧ m.scrubNow = insNat (s.mem l).scrubNow (2 * (addr / 8) + b2n dram) ∧ m.scrubOld = (s.mem l).scrubOld := by
  obtain ⟨o, w, f, hcorrect, hf⟩ := correct_eq l dram addr info s h
  have hlogged : OnlyIn [.regs] s (logError l dram addr w (bumpLane l o s)) := only_logError (only_mk only_refl)
  have hlog : (logError l dram addr w (bumpLane l o s)).mems = s.mems := hlogged.2 .mems (by decide)
  have hmem : (assertAt l Irq.MEM_CE (setMem l f (logError l dram addr w (bumpLane l o s)))).mems = s.mems.modify l f := congrArg (fun x => Tri.modify x l f) hlog
  obtain ⟨m, hm, hdram, hspad, hnow, hold⟩ := countCorrection_mems l (assertAt l Irq.MEM_CE (setMem l f (logError l dram addr w (bumpLane l o s))))
  rw [State.mem, hmem, get_modify_self] at hdram hspad hnow hold
  rw [hmem, modify_twice] at hm
  obtain ⟨hfdram, hfspad, hfnow, hfold⟩ := hf (s.mem l)
  exact ⟨m, by rw [hcorrect, hm], hdram.trans hfdram, hspad.trans hfspad, hnow.trans hfnow, hold.trans hfold⟩

theorem corrected_correct {l : Lane} {dram : Bool} {addr b : Nat} {s : State} (h : RegsWf s) : Corrected l dram [addr] s (correct l dram addr (scrubInfo b) s) := by
  obtain ⟨hwf, hregs, hcount⟩ := correct_counts (l := l) (dram := dram) (addr := addr) (info := scrubInfo b) h
  obtain ⟨m, hm, hdram, hspad, hnow, hold⟩ := correct_mems l dram addr (scrubInfo b) s (fromScrub_scrubInfo b)
  have hself : (correct l dram addr (scrubInfo b) s).mem l = m := by rw [State.mem, hm, get_modify_self]
  refine ⟨hwf, hcount, ⟨by rw [hself, hdram], by rw [hself, hspad]⟩, fun k hk => ?_, by rw [hself, hold], fun k => ?_, hregs, only_correct only_refl⟩
  · rw [State.mem, hm, get_modify_ne _ _ _ _ hk]
    rfl
  · rw [hself, hnow, mem_insNat_iff]
    simp

theorem corrected_trans {l : Lane} {dram : Bool} {ws vs : List Nat} {s t u : State} (h : Corrected l dram ws s t) (h' : Corrected l dram vs t u) :
    Corrected l dram (ws ++ vs) s u := by
  obtain ⟨_, hcount, ⟨hdram, hspad⟩, hother, hold, hnow, hregs, honly⟩ := h
  obtain ⟨hwf, hcount', ⟨hdram', hspad'⟩, hother', hold', hnow', hregs', honly'⟩ := h'
  refine ⟨hwf, ?_, ⟨hdram'.trans hdram, hspad'.trans hspad⟩, fun m hm => (hother' m hm).trans (hother m hm), hold'.trans hold, fun k => ?_,
    regsOnly_trans hregs hregs', onlyIn_trans honly honly'⟩
  · rw [hcount', hcount, List.length_append, BitVec.ofNat_add, BitVec.add_assoc]
  · rw [hnow', hnow]
    simp only [List.mem_append, or_and_right, exists_or, or_assoc]

/-- Words at the places below the limit are corrected, and no others. -/
theorem corrected_scrubWords {l : Lane} {dram : Bool} {limit : Nat} {ws : List (Nat × Nat)} {s : State} (h : RegsWf s) :
    Corrected l dram ((ws.filter fun w => decide (w.1 < limit)).map (·.1)) s (scrubWords l dram limit ws s) := by
  unfold scrubWords
  induction (ws.filter fun w => decide (w.1 < limit)) generalizing s with
  | nil => exact corrected_nil h
  | cons w ws ih =>
    have hw := corrected_correct (l := l) (dram := dram) (addr := w.1) (b := w.2) h
    exact corrected_trans hw (ih hw.1)

theorem passEnds_mem (l : Lane) (dram : Bool) (s : State) :
    (passEnds l dram s).mem l = { s.mem l with
      scrubOld := ((s.mem l).scrubOld.filter fun k => !(k % 2 == b2n dram)) ++ (s.mem l).scrubNow.filter fun k => k % 2 == b2n dram
      scrubNow := (s.mem l).scrubNow.filter fun k => !(k % 2 == b2n dram) } := get_modify_self _ _ _

theorem passEnds_mem_ne {l m : Lane} (dram : Bool) (s : State) (h : m ≠ l) : (passEnds l dram s).mem m = s.mem m := get_modify_ne _ _ _ _ h

/-- A scrub that has come so far, or has ended its pass. -/
def scrubTold (a : Nat) (l : Lane) (dram done : Bool) (u : State) : State := when done (fun s => lanePassDone a l (passEnds l dram s)) u

theorem scrubTold_mem (a : Nat) (l m : Lane) (dram done : Bool) (u : State) :
    (scrubTold a l dram done u).mem m = if done then (passEnds l dram u).mem m else u.mem m := by
  cases done <;> rfl

/-- The progress of a lane's DRAM scrub. -/
def scrubProgress (l : Lane) (percent : Nat) (s : State) : State := { s with tlm := { s.tlm with progress := s.tlm.progress.set l percent } }

theorem exec_dramScrub {s : State} {l : Lane} (ws : List (Nat × Nat)) (percent : Nat) (h : s.scrubs l = true) :
    exec (.dramScrub l ws percent) s = .next (scrubTold 0 l true (decide (100 ≤ percent))
      (scrubProgress l (if decide (100 ≤ percent) then 0 else percent) (scrubWords l true 0x200000000 ws s))) :=
  congrArg Host.Outcome.next (if_pos h)

theorem exec_spmScrub {s : State} {l : Lane} (ws : List (Nat × Nat)) (done : Bool) (h : s.scrubs l = true) :
    exec (.spmScrub l ws done) s = .next (scrubTold 1 l false done (scrubWords l false 0x400000 ws s)) :=
  congrArg Host.Outcome.next (if_pos h)

theorem exists_next_scrub (s : State) (l : Lane) (ws : List (Nat × Nat)) (percent lim cnt a : Nat) (dram done : Bool) (c : Instr) (hwf : RegsWf s)
    (hscrubs : s.scrubs l = true)
    (hc : c = .dramScrub l ws percent ∧ dram = true ∧ lim = 0x200000000 ∧ done = decide (100 ≤ percent) ∧ cnt = Off.SPM_DRAM_CE_CNT ∧ a = 0 ∨
      c = .spmScrub l ws done ∧ dram = false ∧ lim = 0x400000 ∧ cnt = Off.SPM_SPM_CE_CNT ∧ a = 1) :
    ∃ t, exec c s = .next t ∧
      t.reg (laneKey l cnt) = s.reg (laneKey l cnt) + BitVec.ofNat 32 (ws.filter fun w => decide (w.1 < lim)).length ∧
      SameBytes l s t ∧ (∀ m, m ≠ l → t.mem m = s.mem m) ∧
      (done = true → PassTold a s t ∧ ∀ k, (k % 2 = b2n dram → k ∉ (t.mem l).scrubNow ∧
          (k ∈ (t.mem l).scrubOld ↔ k ∈ (s.mem l).scrubNow ∨ ∃ w ∈ ws, w.1 < lim ∧ k = 2 * (w.1 / 8) + b2n dram)) ∧
        (k % 2 ≠ b2n dram → (k ∈ (t.mem l).scrubNow ↔ k ∈ (s.mem l).scrubNow) ∧ (k ∈ (t.mem l).scrubOld ↔ k ∈ (s.mem l).scrubOld))) ∧
      (done = false → t.tlm.late = s.tlm.late ∧ t.tlm.latePass = s.tlm.latePass ∧ (t.mem l).scrubOld = (s.mem l).scrubOld ∧
        ∀ k, k ∈ (t.mem l).scrubNow ↔ k ∈ (s.mem l).scrubNow ∨ ∃ w ∈ ws, w.1 < lim ∧ k = 2 * (w.1 / 8) + b2n dram) ∧
      t.tlm = { s.tlm with late := t.tlm.late, latePass := t.tlm.latePass, progress := if dram then s.tlm.progress.set l (if done then 0 else percent) else s.tlm.progress, periodAt := if done then (s.tlm.periodAt.set (10 + 2 * l.idx + a) s.now).set a s.now else s.tlm.periodAt } ∧
      RegsOnly [Off.SPM_DRAM_CE_CNT, Off.SPM_SPM_CE_CNT, Off.SPM_DRAM_ERR_LO, Off.SPM_DRAM_ERR_HI, Off.SPM_DRAM_ERR_INFO, Off.SPM_SPM_ERR_ADDR, Off.SPM_SPM_ERR_INFO, Off.REC_LOST_CNT] s t ∧
      OnlyIn (.mems :: .tlm :: recParts) s t := by
  obtain ⟨u, hexec, hcorr, htlm, hu, hcnt⟩ : ∃ u, exec c s = .next (scrubTold a l dram done u) ∧
      Corrected l dram ((ws.filter fun w => decide (w.1 < lim)).map (·.1)) s (scrubWords l dram lim ws s) ∧
      u.tlm = { s.tlm with progress := if dram then s.tlm.progress.set l (if done then 0 else percent) else s.tlm.progress } ∧
      OnlyIn [.tlm] (scrubWords l dram lim ws s) u ∧ cnt = ceCount dram := by
    have htlm : ∀ dram lim, (scrubWords l dram lim ws s).tlm = s.tlm := fun dram lim => (corrected_scrubWords hwf).2.2.2.2.2.2.2.2 .tlm (by decide)
    obtain ⟨rfl, rfl, rfl, rfl, rfl, rfl⟩ | ⟨rfl, rfl, rfl, rfl, rfl⟩ := hc
    · refine ⟨_, exec_dramScrub ws percent hscrubs, corrected_scrubWords hwf, ?_, only_mk only_refl, rfl⟩
      exact congrArg (fun y : Tlm => { y with progress := y.progress.set l (if decide (100 ≤ percent) then 0 else percent) }) (htlm true 0x200000000)
    · exact ⟨_, exec_spmScrub ws done hscrubs, corrected_scrubWords hwf, htlm _ _, only_refl, rfl⟩
  obtain ⟨_, hcount, ⟨hdram, hspad⟩, hother, hold, hnow, hregs, honly⟩ := hcorr
  have hmems : u.mems = (scrubWords l dram lim ws s).mems := hu.2 .mems (by decide)
  have hmem : ∀ m, u.mem m = (scrubWords l dram lim ws s).mem m := fun m => by rw [State.mem, hmems]; rfl
  have hclock : u.now = s.now := (hu.2 .now (by decide)).trans (honly.2 .now (by decide))
  have htold : OnlyIn [.mems, .tlm] u (scrubTold a l dram done u) := only_when (fun h => only_passDone (only_mk (only_mk h))) only_refl
  have hwords : ∀ k, k ∈ (scrubWords l dram lim ws s |>.mem l).scrubNow ↔ k ∈ (s.mem l).scrubNow ∨ ∃ w ∈ ws, w.1 < lim ∧ k = 2 * (w.1 / 8) + b2n dram := fun k => by
    rw [hnow]
    simp [and_assoc]
  refine ⟨_, hexec, ?_, ?_, fun m hm => ?_, fun hdone => ?_, fun hdone => ?_, ?_, ?_, ?_⟩
  · rw [hcnt, reg_of_only _ htold, reg_of_only _ hu, hcount, List.length_map]
  · rw [SameBytes, scrubTold_mem, passEnds_mem, hmem]
    split <;> exact ⟨hdram, hspad⟩
  · rw [scrubTold_mem, passEnds_mem_ne _ _ hm, ite_self, hmem, hother m hm]
  · subst hdone
    refine ⟨passTold_passDone (congrArg Tlm.late htlm :) (congrArg Tlm.latePass htlm :), fun k => ?_⟩
    rw [scrubTold_mem, if_pos rfl, passEnds_mem, hmem]
    refine ⟨fun hk => ?_, fun hk => ?_⟩
    · simp [hk, hwords]
    · have hother : ∀ w : Nat × Nat, k ≠ 2 * (w.1 / 8) + b2n dram := by
        rintro w rfl
        have hdram : b2n dram < 2 := by cases dram <;> decide
        omega
      simp [hk, hwords, hold, hother]
  · subst hdone
    rw [scrubTold_mem, if_neg (by decide), hmem]
    exact ⟨(congrArg Tlm.late htlm :), (congrArg Tlm.latePass htlm :), hold, hwords⟩
  · cases done
    · have hsame : (scrubTold a l dram false u).tlm = u.tlm := rfl
      rw [hsame, htlm]
      simp
    · rw [show (scrubTold a l dram true u).tlm = _ from passDone_tlm a _]
      dsimp only
      rw [show (passEnds l dram u).tlm = u.tlm from rfl, show (passEnds l dram u).now = u.now from rfl, htlm, hclock]
      simp
  · exact regs_of_only (regs_of_only hregs hu) htold
  · exact onlyIn_trans (onlyIn_mono honly (by decide)) (onlyIn_trans (onlyIn_mono hu (by decide)) (onlyIn_mono htold (by decide)))

/-! ### The read-verify of the MRAM -/

/-- The MRAM has failed, before PROTECTED follows. -/
def mramFailed (s : State) : State :=
  when (!s.sys.mramFault) (record 0x0303 [iU8 1 1]) (passDone 2 { s with chk := { s.chk with mramOk := false }, sys := { s.sys with mramFault := true } })

theorem exists_next_mramReadVerify (s : State) (ok spare : Bool) (hpowered : s.isl.powered = true) (hmode : 3 ≤ s.sys.mode.code) (htakeover : s.chk.takeover = none)
    (hpause : s.sys.warmPause = false) :
    ∃ t, exec (.mramReadVerify ok spare) s = .next t ∧ PassTold 2 s t ∧ PairReported s t ∧
      (ok = true ∨ spare = true → t.chk = s.settled { s.chk with mramOk := s.chk.mramOk || !s.sys.mramFault } ∧ t.sys = s.sys ∧ t.erec = s.erec ∧ t.isl = s.isl) ∧
      (ok = false → spare = false → t.chk = s.settled { s.chk with mramOk := false } ∧ t.sys = { s.sys with mramFault := true } ∧
        (s.sys.mramFault = false → Recorded 0x0303 [iU8 1 1] s t)) ∧
      RegsOnly [Off.REC_LOST_CNT] s t ∧ OnlyIn (.sys :: .chk :: .tlm :: recParts) s t := by
  have hguard : (s.isl.powered && decide (3 ≤ s.sys.mode.code) && s.chk.takeover.isNone && !s.sys.warmPause) = true := by
    rw [hpowered, htakeover, hpause, decide_eq_true hmode]
    rfl
  by_cases hgood : (ok || spare) = true
  · have hdone : OnlyIn [.icus, .chk] (passDone 2 { s with chk := { s.chk with mramOk := s.chk.mramOk || !s.sys.mramFault } })
        (chkUpdate (passDone 2 { s with chk := { s.chk with mramOk := s.chk.mramOk || !s.sys.mramFault } })) := only_chkUpdate only_refl
    refine ⟨_, congrArg Host.Outcome.next ((if_pos hguard).trans (if_pos hgood)), ?_, ?_, fun _ => ⟨?_, hdone.2 .sys (by decide), hdone.2 .erec (by decide), hdone.2 .isl (by decide)⟩,
      fun hok hspare => ?_, regs_chkUpdate (regs_passDone (regs_mk regs_refl)), only_chkUpdate (only_passDone (only_mk only_refl))⟩
    · exact passTold_of_tlm (passTold_passDone (s' := { s with chk := { s.chk with mramOk := s.chk.mramOk || !s.sys.mramFault } }) rfl rfl) (hdone.2 .tlm (by decide))
    · exact pairReported_chkUpdate rfl rfl
    · exact chkUpdate_chk _
    · rw [hok, hspare] at hgood
      exact absurd hgood (by decide)
  · obtain ⟨hok, hspare⟩ := Bool.or_eq_false_iff.mp (Bool.not_eq_true _ ▸ hgood)
    have hw : OnlyIn (.tlm :: recParts) { s with chk := { s.chk with mramOk := false }, sys := { s.sys with mramFault := true } } (mramFailed s) :=
      only_when only_record (only_passDone only_refl)
    have hdone : OnlyIn [.icus, .chk] (mramFailed s) (chkUpdate (mramFailed s)) := only_chkUpdate only_refl
    have hregs : RegsOnly [Off.REC_LOST_CNT] s (mramFailed s) := regs_when regs_record (regs_passDone (regs_mk regs_refl))
    have hchk : (mramFailed s).chk = { s.chk with mramOk := false } := hw.2 .chk (by decide)
    have hmember : (mramFailed s).pairMember = s.pairMember := congrArg (fun w => bit w 0) (hregs _ (by decide))
    have htlm : PassTold 2 s (mramFailed s) := by
      have hrecord : OnlyIn recParts (passDone 2 { s with chk := { s.chk with mramOk := false }, sys := { s.sys with mramFault := true } }) (mramFailed s) :=
        only_when only_record only_refl
      exact passTold_of_tlm (passTold_passDone (s' := { s with chk := { s.chk with mramOk := false }, sys := { s.sys with mramFault := true } }) rfl rfl) (hrecord.2 .tlm (by decide))
    refine ⟨_, congrArg Host.Outcome.next ((if_pos hguard).trans (if_neg hgood)), passTold_of_tlm htlm (hdone.2 .tlm (by decide)),
      pairReported_chkUpdate (s' := mramFailed s) (congrArg Chk.partner hchk :) (congrArg Chk.protected_ hchk :), fun h => absurd (by rw [hok, hspare] at h; exact h) (by decide), fun _ _ => ⟨?_, ?_, fun hfault => ?_⟩,
      regs_chkUpdate hregs, only_chkUpdate (only_when only_record (only_passDone (only_mk only_refl)))⟩
    · exact (chkUpdate_chk _).trans ((settled_congr _ hmember).trans (congrArg s.settled hchk))
    · exact (hdone.2 .sys (by decide)).trans (hw.2 .sys (by decide))
    · have htold : Recorded 0x0303 [iU8 1 1] s (mramFailed s) := by
        rw [mramFailed, hfault]
        exact recorded_congr _ _ s (passDone 2 { s with chk := { s.chk with mramOk := false }, sys := { s.sys with mramFault := true } }) _ _
          (recorded_record _ _ _) rfl rfl rfl rfl rfl rfl rfl
      exact recorded_after htold hdone

/-! ### Refreshes of the NOR and the NAND -/

theorem times_succ (n : Nat) (f : State → State) (s : State) : times (n + 1) f s = f (times n f s) := by
  rw [times, times, List.range_succ, List.foldl_append]
  rfl

theorem times_succ_first (n : Nat) (f : State → State) (s : State) : times (n + 1) f s = times n f (f s) := by
  induction n with
  | zero => rfl
  | succ n ih => rw [times_succ, ih, times_succ]

theorem grown_times_record (n type : Nat) (items : List Item) (s : State) : QueueGrown n s (times n (record type items) s) := by
  induction n with
  | zero => exact grown_refl s
  | succ n ih =>
    rw [times_succ]
    exact grown_record ih

theorem queue_record_eq {type : Nat} {items : List Item} {s : State} (hup : s.recUp = true) (hroom : s.erec.queue.length < 64) :
    (record type items s).erec.queue.length = s.erec.queue.length + 1 := by
  unfold record
  split <;> rw [requestRec_queue _ s hup hroom, List.length_append] <;> rfl

theorem queue_times_record {n type : Nat} {items : List Item} {s : State} (hup : s.recUp = true) (hroom : s.erec.queue.length + n ≤ 64) :
    (times n (record type items) s).erec.queue.length = s.erec.queue.length + n := by
  induction n with
  | zero => rfl
  | succ n ih =>
    have hn := ih (by omega)
    obtain ⟨hrun, _, _⟩ := grown_times_record n type items s
    rw [times_succ, queue_record_eq (hrun.trans hup) (by omega), hn]
    omega

theorem inQueue_times_record {n type : Nat} {items : List Item} {s s' : State} (hn : 1 ≤ n) (h : QueueGrown 0 s s') :
    InQueue type items s (times n (record type items) s') := by
  obtain ⟨m, rfl⟩ := Nat.exists_eq_add_of_le' hn
  rw [times_succ_first]
  exact inQueue_of_grown h (by decide) (grown_times_record m _ _ _)

/-- A request stands in the queue as long as REC's queue does. -/
theorem inQueue_of_queue {type : Nat} {items : List Item} {s t u : State} (h : InQueue type items s t) (hu : u.erec.queue = t.erec.queue) : InQueue type items s u := by
  intro hup hroom
  rw [hu]
  exact h hup hroom

theorem norRead_read {slot : Nat} {s v : State} {seen : BitVec 8} (hseen : seen = s.tlm.norSeen ||| 1#8 <<< slot) (hnor : v.tlm.norSeen = s.tlm.norSeen)
    (hpass : v.tlm.latePass = s.tlm.latePass) :
    (norRead slot v).upd = v.upd ∧ (norRead slot v).erec = v.erec ∧ (norRead slot v).isl = v.isl ∧
    (v.tlm.late = s.tlm.late → seen = 255 ∧ (norRead slot v).upd.failing = [] → PassTold 3 s (norRead slot v) ∧ (norRead slot v).tlm.norSeen = 0) ∧
    (¬ (seen = 255 ∧ (norRead slot v).upd.failing = []) → (norRead slot v).tlm = { v.tlm with norSeen := seen }) := by
  have honly : OnlyIn [.tlm] v (norRead slot v) := only_norRead only_refl
  have hupd : (norRead slot v).upd = v.upd := honly.2 .upd (by decide)
  refine ⟨hupd, honly.2 .erec (by decide), honly.2 .isl (by decide), fun hlate h => ?_, fun h => ?_⟩
  · rw [hupd] at h
    have hread : norRead slot v = passDone 3 { v with tlm := { v.tlm with norSeen := 0 } } := if_pos (by simp [hnor, ← hseen, h])
    rw [hread]
    refine ⟨passTold_passDone (s' := { v with tlm := { v.tlm with norSeen := 0 } }) hlate hpass, ?_⟩
    rw [passDone_tlm]
  · rw [hupd] at h
    have hread : norRead slot v = { v with tlm := { v.tlm with norSeen := v.tlm.norSeen ||| 1#8 <<< slot } } := if_neg (by simpa [hnor, ← hseen] using h)
    rw [hread, hnor, ← hseen]

/-- The failing blocks of the NOR noted anew. -/
def norNoted (failing : List (Nat × Nat)) (s : State) : State := { s with upd := { s.upd with failing := failing } }

/-- Failing blocks that are left: the refresh is late (R507). -/
def norLeft (slot blocks : Nat) (keep : List (Nat × Nat)) (s : State) : State :=
  { norNoted ((slot, blocks) :: keep) s with tlm := { s.tlm with late := s.tlm.late ||| 8#10 } }

/-- What the reading of a slot leaves of the pass, where the refresh is `late` or not. -/
def NorPass (seen : BitVec 8) (late : Bool) (s t : State) : Prop :=
  (seen = 255 ∧ t.upd.failing = [] → PassTold 3 s t ∧ t.tlm.norSeen = 0) ∧
  (¬ (seen = 255 ∧ t.upd.failing = []) → t.tlm.norSeen = seen ∧ t.tlm.latePass = s.tlm.latePass ∧ (late = false → t.tlm.late = s.tlm.late))

theorem norPass_read {slot : Nat} {s v : State} {seen : BitVec 8} (hseen : seen = s.tlm.norSeen ||| 1#8 <<< slot) (htlm : v.tlm = s.tlm) :
    NorPass seen false s (norRead slot v) := by
  obtain ⟨_, _, _, hdone, hmore⟩ := norRead_read (v := v) hseen (by rw [htlm]) (by rw [htlm])
  refine ⟨hdone (by rw [htlm]), fun h => ?_⟩
  rw [hmore h, htlm]
  exact ⟨rfl, rfl, fun _ => rfl⟩

theorem norLeft_read {slot blocks : Nat} {keep : List (Nat × Nat)} {items : List Item} {s : State} {seen : BitVec 8} (hseen : seen = s.tlm.norSeen ||| 1#8 <<< slot) :
    (norRead slot (record 0x0B01 items (norLeft slot blocks keep s))).upd = { s.upd with failing := (slot, blocks) :: keep } ∧
    (norRead slot (record 0x0B01 items (norLeft slot blocks keep s))).tlm = { s.tlm with late := s.tlm.late ||| 8#10, norSeen := seen } ∧
    Recorded 0x0B01 items s (norRead slot (record 0x0B01 items (norLeft slot blocks keep s))) := by
  have hrecord : OnlyIn recParts (norLeft slot blocks keep s) (record 0x0B01 items (norLeft slot blocks keep s)) := only_record only_refl
  have htlm : (record 0x0B01 items (norLeft slot blocks keep s)).tlm = { s.tlm with late := s.tlm.late ||| 8#10 } := hrecord.2 .tlm (by decide)
  obtain ⟨hupd, herec, hisl, _, hmore⟩ := norRead_read (s := s) (v := record 0x0B01 items (norLeft slot blocks keep s)) hseen (by rw [htlm]) (by rw [htlm])
  have hleft : (norRead slot (record 0x0B01 items (norLeft slot blocks keep s))).upd = { s.upd with failing := (slot, blocks) :: keep } := hupd.trans (hrecord.2 .upd (by decide))
  refine ⟨hleft, ?_, ?_⟩
  · rw [hmore fun h => by rw [hleft] at h; exact absurd h.2 (by simp), htlm]
  · exact recorded_congr _ _ s (norLeft slot blocks keep s) _ _ (recorded_record _ _ _) rfl rfl rfl rfl rfl herec (congrArg Island.events hisl)

/-- What is done with a slot, by what its reading finds (R507). -/
theorem norRefresh_eq (slot blocks : Nat) (fails : Bool) (s : State) (b may hash : Bool) (n : NorSlot) (hb : b = (slot % 2 == 1)) (hn : n = (s.typeSlots (slot / 2)).slot b)
    (hhash : hash = decide (beAt n.header 68 64 = (Config.sha512 n.payload).toNat))
    (hmay : may = (decide ((s.typeSlots (slot / 2)).mark ≠ b ∧ (s.typeSlots (slot / 2)).runB ≠ b ∧ (s.typeSlots (slot / 2)).markB ≠ b) ||
      decide (((s.typeSlots (slot / 2)).slot (!b)).state = .verified))) :
    norRefresh slot blocks fails s = norRead slot (
      if fails = false then norNoted (s.upd.failing.filter fun x => x.1 != slot) s
      else if hash = false then s
      else if may = true then times blocks (record 0x0E03 [iU8 1 0, iU8 2 slot]) (norNoted (s.upd.failing.filter fun x => x.1 != slot) s)
      else record 0x0B01 [iU8 1 (slot / 2 + 1), iU8 2 (b2n b)] (norLeft slot blocks (s.upd.failing.filter fun x => x.1 != slot) s)) := by
  have hmay' : may = (!((s.typeSlots (slot / 2)).mark == b || (s.typeSlots (slot / 2)).runB == b || (s.typeSlots (slot / 2)).markB == b) ||
      ((s.typeSlots (slot / 2)).slot (!b)).state == .verified) := by
    rw [hmay]
    grind
  have hhash' : hash = (beAt n.header 68 64 == (Config.sha512 n.payload).toNat) := by
    rw [hhash]
    grind
  rw [apply_ite (norRead slot), apply_ite (norRead slot), apply_ite (norRead slot), hmay', hhash', hn, hb]
  unfold norRefresh
  simp only [Bool.not_eq_true']
  rfl

theorem exists_next_norRefresh (s : State) (slot blocks : Nat) (fails b may : Bool) (ts : TypeSlots) (n : NorSlot) (keep : List (Nat × Nat)) (seen : BitVec 8)
    (hup : s.up = true) (hslot : slot < 8) (hbusy : s.norBusy b = false) (hseen : seen = s.tlm.norSeen ||| 1#8 <<< slot) (hts : ts = s.typeSlots (slot / 2))
    (hb : b = (slot % 2 == 1)) (hn : n = ts.slot b) (hkeep : keep = (s.upd.failing.filter fun x => x.1 != slot))
    (hmay : may = (decide (ts.mark ≠ b ∧ ts.runB ≠ b ∧ ts.markB ≠ b) || decide ((ts.slot (!b)).state = .verified))) :
    ∃ t, exec (.norRefresh slot blocks fails) s = .next t ∧
      (seen = 255 ∧ t.upd.failing = [] → PassTold 3 s t ∧ t.tlm.norSeen = 0) ∧
      (¬ (seen = 255 ∧ t.upd.failing = []) → t.tlm.norSeen = seen ∧ t.tlm.latePass = s.tlm.latePass ∧ (may = true ∨ fails = false → t.tlm.late = s.tlm.late)) ∧
      (fails = false → t.upd = { s.upd with failing := keep } ∧ t.erec = s.erec ∧ t.isl = s.isl) ∧
      (fails = true → beAt n.header 68 64 ≠ (Config.sha512 n.payload).toNat → t.upd = s.upd ∧ t.erec = s.erec ∧ t.isl = s.isl) ∧
      (fails = true → beAt n.header 68 64 = (Config.sha512 n.payload).toNat → may = true → t.upd = { s.upd with failing := keep } ∧
        (s.recUp = true → s.erec.queue.length + blocks ≤ 64 → t.erec.queue.length = s.erec.queue.length + blocks) ∧
        (1 ≤ blocks → InQueue 0x0E03 [iU8 1 0, iU8 2 slot] s t)) ∧
      (fails = true → beAt n.header 68 64 = (Config.sha512 n.payload).toNat → may = false → t.upd = { s.upd with failing := (slot, blocks) :: keep } ∧
        t.tlm = { s.tlm with late := s.tlm.late ||| 8#10, norSeen := seen } ∧ Recorded 0x0B01 [iU8 1 (slot / 2 + 1), iU8 2 (b2n b)] s t) ∧
      RegsOnly [Off.REC_LOST_CNT] s t ∧ OnlyIn (.upd :: .tlm :: recParts) s t := by
  have hexec : exec (.norRefresh slot blocks fails) s = .next (norRefresh slot blocks fails s) :=
    congrArg Host.Outcome.next (if_pos (by rw [hup, decide_eq_true hslot, ← hb, hbusy]; rfl))
  have honly : OnlyIn (.upd :: .tlm :: recParts) s (norRefresh slot blocks fails s) := only_norRefresh only_refl
  subst hts
  rw [norRefresh_eq slot blocks fails s b may _ n hb hn rfl hmay, ← hkeep] at hexec honly
  have huntold : ∀ {v : State}, v.tlm = s.tlm → (seen = 255 ∧ (norRead slot v).upd.failing = [] → PassTold 3 s (norRead slot v) ∧ (norRead slot v).tlm.norSeen = 0) ∧
      (¬ (seen = 255 ∧ (norRead slot v).upd.failing = []) → (norRead slot v).tlm.norSeen = seen ∧ (norRead slot v).tlm.latePass = s.tlm.latePass ∧
        (may = true ∨ fails = false → (norRead slot v).tlm.late = s.tlm.late)) := fun htlm => by
    obtain ⟨hdone, hmore⟩ := norPass_read hseen htlm
    exact ⟨hdone, fun h => ⟨(hmore h).1, (hmore h).2.1, fun _ => (hmore h).2.2 rfl⟩⟩
  have hparts : ∀ v, (norRead slot v).upd = v.upd ∧ (norRead slot v).erec = v.erec ∧ (norRead slot v).isl = v.isl := fun v => by
    have hread : OnlyIn [.tlm] v (norRead slot v) := only_norRead only_refl
    exact ⟨hread.2 .upd (by decide), hread.2 .erec (by decide), hread.2 .isl (by decide)⟩
  by_cases hfails : fails = false
  · rw [if_pos hfails] at hexec honly
    obtain ⟨hdone, hmore⟩ := huntold (v := norNoted keep s) rfl
    exact ⟨_, hexec, hdone, hmore, fun _ => hparts _, fun h => absurd (hfails.symm.trans h) (by decide), fun h => absurd (hfails.symm.trans h) (by decide),
      fun h => absurd (hfails.symm.trans h) (by decide), regs_norRead (regs_mk regs_refl), honly⟩
  rw [if_neg hfails] at hexec honly
  by_cases hhash : beAt n.header 68 64 = (Config.sha512 n.payload).toNat
  · rw [decide_eq_true hhash, if_neg (by decide)] at hexec honly
    by_cases hblocks : may = true
    · rw [if_pos hblocks] at hexec honly
      have hrecord : OnlyIn recParts (norNoted keep s) (times blocks (record 0x0E03 [iU8 1 0, iU8 2 slot]) (norNoted keep s)) :=
        only_times (fun _ h => only_record h) only_refl
      obtain ⟨hdone, hmore⟩ := huntold (v := times blocks (record 0x0E03 [iU8 1 0, iU8 2 slot]) (norNoted keep s)) (hrecord.2 .tlm (by decide))
      obtain ⟨hupd, herec, _⟩ := hparts (times blocks (record 0x0E03 [iU8 1 0, iU8 2 slot]) (norNoted keep s))
      refine ⟨_, hexec, hdone, hmore, fun h => absurd h hfails, fun _ h => absurd hhash h, fun _ _ _ => ⟨hupd.trans (hrecord.2 .upd (by decide)), fun hrun hroom => ?_, fun hn => ?_⟩,
        fun _ _ h => absurd (hblocks.symm.trans h) (by decide), regs_norRead (regs_foldl (fun _ _ h => regs_record h) (regs_mk regs_refl)), honly⟩
      · rw [herec]
        exact queue_times_record (s := norNoted keep s) hrun hroom
      · exact inQueue_of_queue (inQueue_times_record hn (grown_only (grown_refl s) (only_mk (P := [.upd]) only_refl))) (congrArg Recorder.queue herec)
    · rw [if_neg hblocks] at hexec honly
      obtain ⟨hupd, htlm, htold⟩ := norLeft_read (blocks := blocks) (keep := keep) (items := [iU8 1 (slot / 2 + 1), iU8 2 (b2n b)]) hseen
      refine ⟨_, hexec, fun h => by rw [hupd] at h; exact absurd h.2 (by simp), fun _ => ?_, fun h => absurd h hfails, fun _ h => absurd hhash h,
        fun _ _ h => absurd h hblocks, fun _ _ _ => ⟨hupd, htlm, htold⟩, regs_norRead (regs_record (regs_mk (regs_mk regs_refl))), honly⟩
      rw [htlm]
      exact ⟨rfl, rfl, fun h => absurd h (not_or.mpr ⟨hblocks, hfails⟩)⟩
  · rw [decide_eq_false hhash, if_pos rfl] at hexec honly
    obtain ⟨hdone, hmore⟩ := huntold (v := s) rfl
    exact ⟨_, hexec, hdone, hmore, fun h => absurd h hfails, fun _ _ => hparts _, fun _ h => absurd h hhash, fun _ h => absurd h hhash, regs_norRead regs_refl, honly⟩

theorem exec_norRefresh_of_busy (s : State) (slot blocks : Nat) (fails : Bool) (h : s.norBusy (slot % 2 == 1) = true) : exec (.norRefresh slot blocks fails) s = .next s := by
  refine congrArg Host.Outcome.next (if_neg ?_)
  rw [h]
  simp

theorem recState_requestRec (q : RecReq) (s : State) : (requestRec q s).erec.state = s.erec.state := by
  unfold requestRec
  dsimp only
  split
  · split
    · rfl
    · split <;> rfl
  · split <;> rfl

theorem recState_record (type : Nat) (items : List Item) (s : State) : (record type items s).erec.state = s.erec.state := by
  unfold record
  split <;> exact recState_requestRec _ s

theorem recState_times_record (n type : Nat) (items : List Item) (s : State) : (times n (record type items) s).erec.state = s.erec.state := by
  induction n with
  | zero => rfl
  | succ n ih => rw [times_succ, recState_record, ih]

theorem retireBlocks_retires (n : Nat) {s : State} (hwf : RegsWf s) :
    (retireBlocks n s).nv = { s.nv with nand := { s.nv.nand with retired := s.nv.nand.retired + n } } ∧
    (retireBlocks n s).erec = { s.erec with state := if 1 ≤ n ∧ 7872 ≤ s.nv.nand.retired + n then .failed else s.erec.state } ∧
    (retireBlocks n s).reg Off.REC_BAD_BLOCKS = s.reg Off.REC_BAD_BLOCKS + BitVec.ofNat 32 n ∧ (1 ≤ n → Raised Irq.REC_STORAGE (retireBlocks n s)) := by
  unfold retireBlocks
  by_cases hn : n = 0
  · rw [if_pos hn]
    subst hn
    exact ⟨rfl, rfl, by simp, nofun⟩
  · rw [if_neg hn]
    have hall : (1 ≤ n ∧ 7872 ≤ s.nv.nand.retired + n) ↔ 7872 ≤ s.nv.nand.retired + n := and_iff_right (Nat.one_le_iff_ne_zero.mpr hn)
    refine ⟨rfl, ?_, ?_, fun _ => raised_raiseIrq _ _ (by decide)⟩
    · simp only [hall]
      rfl
    · exact reg_setReg_unmasked _ _ _ (wf_mk hwf) (by decide)

theorem exists_next_nandRefresh (s : State) (n m f : Nat) (hwf : RegsWf s) (hup : s.recUp = true) (hstate : s.erec.state ≠ .failed) :
    ∃ t, exec (.nandRefresh n m f) s = .next t ∧ PassTold 4 s t ∧ (s.erec.queue.length + n + m ≤ 64 → t.erec.queue.length = s.erec.queue.length + n + m) ∧
      (1 ≤ n + m → InQueue 0x0E03 [iU8 1 1] s t) ∧ (1 ≤ m + f → Raised Irq.REC_STORAGE t) ∧
      t.reg Off.REC_BAD_BLOCKS = s.reg Off.REC_BAD_BLOCKS + BitVec.ofNat 32 f ∧
      t.erec.state = (if 1 ≤ f ∧ 7872 ≤ s.nv.nand.retired + f then .failed else s.erec.state) ∧
      t.nv = { s.nv with nand := { s.nv.nand with retired := s.nv.nand.retired + f, badCrc := s.nv.nand.badCrc.filter fun b => decide (m = 0) || !b.1 } } ∧
      RegsOnly [Off.REC_LOST_CNT, Off.REC_BAD_BLOCKS] s t ∧ OnlyIn (.nv :: .tlm :: recParts) s t := by
  obtain ⟨x, hx, hnv, hlater⟩ : ∃ x, exec (.nandRefresh n m f) s = .next (passDone 4 (retireBlocks f (when (m != 0) (raiseIrq Irq.REC_STORAGE) (times (n + m) (record 0x0E03 [iU8 1 1]) x)))) ∧
      x.nv = { s.nv with nand := { s.nv.nand with badCrc := s.nv.nand.badCrc.filter fun b => decide (m = 0) || !b.1 } } ∧ OnlyIn [.nv] s x := by
    refine ⟨_, congrArg Host.Outcome.next (if_pos (by rw [hup, bne_iff_ne.mpr hstate]; rfl)), ?_, only_mk only_refl⟩
    by_cases hm : m = 0
    · simp [hm]
    · simp [hm]
  have hregs : RegsOnly [Off.REC_LOST_CNT] x (when (m != 0) (raiseIrq Irq.REC_STORAGE) (times (n + m) (record 0x0E03 [iU8 1 1]) x)) :=
    regs_when regs_raiseIrq (regs_foldl (fun _ _ h => regs_record h) regs_refl)
  have hwhen : OnlyIn [.icus] (times (n + m) (record 0x0E03 [iU8 1 1]) x) (when (m != 0) (raiseIrq Irq.REC_STORAGE) (times (n + m) (record 0x0E03 [iU8 1 1]) x)) :=
    only_when only_raiseIrq only_refl
  have hstorage : m ≠ 0 → Raised Irq.REC_STORAGE (when (m != 0) (raiseIrq Irq.REC_STORAGE) (times (n + m) (record 0x0E03 [iU8 1 1]) x)) := fun hm => by
    rw [bne_iff_ne.mpr hm]
    exact raised_raiseIrq _ _ (by decide)
  have honly : OnlyIn recParts x (when (m != 0) (raiseIrq Irq.REC_STORAGE) (times (n + m) (record 0x0E03 [iU8 1 1]) x)) :=
    only_when only_raiseIrq (only_times (fun _ h => only_record h) only_refl)
  have hgrown : QueueGrown 0 s x := grown_only (grown_refl s) hlater
  obtain ⟨hrun, _, _⟩ := grown_times_record (n + m) 0x0E03 [iU8 1 1] x
  have hstate' : (times (n + m) (record 0x0E03 [iU8 1 1]) x).erec.state = x.erec.state := recState_times_record _ _ _ _
  have hsame : x.recUp = s.recUp ∧ x.erec = s.erec ∧ x.tlm = s.tlm := ⟨recUp_of_only hlater, hlater.2 .erec (by decide), hlater.2 .tlm (by decide)⟩
  have hwfx : RegsWf x := regsWf_of_only hwf hlater
  have hwfw : RegsWf (when (m != 0) (raiseIrq Irq.REC_STORAGE) (times (n + m) (record 0x0E03 [iU8 1 1]) x)) :=
    wf_when wf_raiseIrq (wf_foldl (fun _ _ h => wf_record h) hwfx)
  generalize hw : when (m != 0) (raiseIrq Irq.REC_STORAGE) (times (n + m) (record 0x0E03 [iU8 1 1]) x) = w at hx hregs hwhen hstorage honly hwfw
  obtain ⟨hnvw, herec, hbad, hraised⟩ := retireBlocks_retires f hwfw
  have hdone : OnlyIn [.tlm] (retireBlocks f w) (passDone 4 (retireBlocks f w)) := only_passDone only_refl
  obtain ⟨hrunx, herecx, htlmx⟩ := hsame
  have herecw : w.erec = (times (n + m) (record 0x0E03 [iU8 1 1]) x).erec := hwhen.2 .erec (by decide)
  have herect : (passDone 4 (retireBlocks f w)).erec = (retireBlocks f w).erec := hdone.2 .erec (by decide)
  have hnvt : (passDone 4 (retireBlocks f w)).nv = (retireBlocks f w).nv := hdone.2 .nv (by decide)
  have hnvx : w.nv = x.nv := honly.2 .nv (by decide)
  have hqueue : (passDone 4 (retireBlocks f w)).erec.queue = (times (n + m) (record 0x0E03 [iU8 1 1]) x).erec.queue := by
    rw [herect, herec, herecw]
  have hretire : OnlyIn [.regs, .nv, .icus, .erec] w (retireBlocks f w) := only_retireBlocks only_refl
  have htlm : (retireBlocks f w).tlm = s.tlm := ((hretire.2 .tlm (by decide)).trans (honly.2 .tlm (by decide))).trans htlmx
  refine ⟨_, hx, passTold_passDone (by rw [htlm]) (by rw [htlm]), fun hroom => ?_, fun hn => ?_, fun hn => ?_, ?_, ?_, ?_, ?_, ?_⟩
  · rw [hqueue, queue_times_record (hrunx.trans hup) (by rw [herecx]; omega), herecx]
    omega
  · exact inQueue_of_queue (inQueue_times_record hn hgrown) hqueue
  · by_cases hm : m = 0
    · exact raised_passDone (hraised (by omega))
    · exact raised_passDone (raised_retireBlocks (hstorage hm))
  · rw [reg_of_only _ hdone, hbad, hregs _ (by decide), reg_of_only _ hlater]
  · rw [herect, herec, herecw, hnvx, hnv, hstate', herecx]
  · rw [hnvt, hnvw, hnvx, hnv]
  · exact regs_passDone (regs_retireBlocks (regs_via (regs_of_only regs_refl hlater) (by decide) fun _ h => regsOnly_trans h hregs))
  · exact onlyIn_trans (onlyIn_mono hlater (by decide)) (onlyIn_trans (onlyIn_mono honly (by decide)) (only_passDone (only_retireBlocks only_refl)))

theorem exists_next_bgLate (s u : State) (a : Nat) (due : Bool) (hwf : RegsWf s) (hruns : s.bgRuns a = true) (hu : u = advanceTo (s.periodStart a + bgPeriod a) s)
    (hdue : due = ((s.tlm.lateAt.getD a none).all fun x => decide (x + 3600 ≤ u.nv.opSeconds.toNat))) :
    ∃ t, exec (.bgLate a) s = .next t ∧ t.reg Off.TLM_BG_LATE_CNT = s.reg Off.TLM_BG_LATE_CNT + 1 ∧ Raised Irq.TLM_BG_LATE t ∧
      t.tlm = { s.tlm with late := s.tlm.late ||| 1#10 <<< a, latePass := s.tlm.latePass ||| 1#10 <<< a, periodAt := u.nextPeriods a, lateAt := if due then s.tlm.lateAt.set a (some u.nv.opSeconds.toNat) else s.tlm.lateAt } ∧
      (due = true → Recorded 0x0E01 [iU8 1 a] u t) ∧ (due = false → t.erec = s.erec ∧ t.isl = u.isl) ∧
      t.reg Off.TLM_PUB_MISSED = s.reg Off.TLM_PUB_MISSED + (if a = 9 then 1 else 0) ∧
      RegsOnly [Off.TLM_BG_LATE_CNT, Off.TLM_PUB_MISSED, Off.REC_LOST_CNT] s t ∧ OnlyIn (.tlm :: recParts) u t := by
  obtain ⟨v, hexec, htlm, hv⟩ : ∃ v, exec (.bgLate a) s = .next (when (a == 9) (bump Off.TLM_PUB_MISSED) (when due (record 0x0E01 [iU8 1 a]) (raiseIrq Irq.TLM_BG_LATE (bump Off.TLM_BG_LATE_CNT v)))) ∧
      v.tlm = { s.tlm with late := s.tlm.late ||| 1#10 <<< a, latePass := s.tlm.latePass ||| 1#10 <<< a, periodAt := u.nextPeriods a, lateAt := if due then s.tlm.lateAt.set a (some u.nv.opSeconds.toNat) else s.tlm.lateAt } ∧
      OnlyIn [.tlm] u v := by
    have htlmu : u.tlm = s.tlm := by rw [hu, advanceTo_tlm]
    have hdue' : due = (match u.tlm.lateAt.getD a none with
        | some t => decide (t + 3600 ≤ u.nv.opSeconds.toNat)
        | none => true) := by
      rw [hdue, htlmu]
      cases s.tlm.lateAt.getD a none <;> rfl
    refine ⟨{ u with tlm := { u.tlm with late := u.tlm.late ||| 1#10 <<< a, latePass := u.tlm.latePass ||| 1#10 <<< a, periodAt := u.nextPeriods a, lateAt := if due then u.tlm.lateAt.set a (some u.nv.opSeconds.toNat) else u.tlm.lateAt } },
      ?_, by rw [htlmu], only_mk only_refl⟩
    refine congrArg Host.Outcome.next ((if_pos hruns).trans ?_)
    rw [hdue', hu]
    rfl
  have hregu : ∀ k, u.reg k = s.reg k := fun k => reg_congr s u k (by rw [hu, advanceTo_regs])
  have hwfv : RegsWf v := regsWf_of_only (by rw [RegsWf, hu, advanceTo_regs]; exact hwf) hv
  have hw : OnlyIn [.tlm, .regs, .icus] u (raiseIrq Irq.TLM_BG_LATE (bump Off.TLM_BG_LATE_CNT v)) := only_raiseIrq (only_bump (onlyIn_mono hv (by decide)))
  have hrecord : OnlyIn recParts (raiseIrq Irq.TLM_BG_LATE (bump Off.TLM_BG_LATE_CNT v)) (when due (record 0x0E01 [iU8 1 a]) (raiseIrq Irq.TLM_BG_LATE (bump Off.TLM_BG_LATE_CNT v))) :=
    only_when only_record only_refl
  have hregs : RegsOnly [Off.REC_LOST_CNT, Off.TLM_BG_LATE_CNT] v (when due (record 0x0E01 [iU8 1 a]) (raiseIrq Irq.TLM_BG_LATE (bump Off.TLM_BG_LATE_CNT v))) :=
    regs_when regs_record (regs_raiseIrq (regs_bump regs_refl))
  have hlate : RegsOnly [Off.REC_LOST_CNT, Off.TLM_PUB_MISSED] (bump Off.TLM_BG_LATE_CNT v) (when (a == 9) (bump Off.TLM_PUB_MISSED) (when due (record 0x0E01 [iU8 1 a]) (raiseIrq Irq.TLM_BG_LATE (bump Off.TLM_BG_LATE_CNT v)))) :=
    regs_when regs_bump (regs_when regs_record (regs_raiseIrq regs_refl))
  have hwft : RegsWf (when due (record 0x0E01 [iU8 1 a]) (raiseIrq Irq.TLM_BG_LATE (bump Off.TLM_BG_LATE_CNT v))) := wf_when wf_record (wf_raiseIrq (wf_bump hwfv))
  have hmissed : OnlyIn [.regs] (when due (record 0x0E01 [iU8 1 a]) (raiseIrq Irq.TLM_BG_LATE (bump Off.TLM_BG_LATE_CNT v)))
      (when (a == 9) (bump Off.TLM_PUB_MISSED) (when due (record 0x0E01 [iU8 1 a]) (raiseIrq Irq.TLM_BG_LATE (bump Off.TLM_BG_LATE_CNT v)))) := only_when only_bump only_refl
  refine ⟨_, hexec, ?_, raised_when raised_bump (raised_when raised_record (raised_raiseIrq _ _ (by decide))), ?_, fun h => ?_, fun h => ?_, ?_, ?_, ?_⟩
  · rw [hlate _ (by decide), reg_bump_unmasked _ _ hwfv (by decide), reg_of_only _ hv, hregu]
  · have htlmt := onlyIn_trans (onlyIn_mono hrecord (by decide) : OnlyIn recParts _ _) (onlyIn_mono hmissed (by decide))
    exact ((htlmt.2 .tlm (by decide)).trans ((only_raiseIrq (P := [.icus, .regs]) (only_bump only_refl)).2 .tlm (by decide))).trans htlm
  · rw [h] at hmissed ⊢
    exact recorded_after (recorded_before (recorded_record _ _ _) hw) hmissed
  · rw [h]
    have hall : OnlyIn [.tlm, .regs, .icus] u (when (a == 9) (bump Off.TLM_PUB_MISSED) (raiseIrq Irq.TLM_BG_LATE (bump Off.TLM_BG_LATE_CNT v))) := only_when only_bump hw
    exact ⟨(hall.2 .erec (by decide)).trans (by rw [hu, advanceTo_erec]), hall.2 .isl (by decide)⟩
  · by_cases h9 : a = 9
    · rw [if_pos h9, beq_iff_eq.mpr h9, when_true, reg_bump_unmasked _ _ hwft (by decide), hregs _ (by decide), reg_of_only _ hv, hregu]
    · rw [if_neg h9, beq_eq_false_iff_ne.mpr h9, when_false, hregs _ (by decide), reg_of_only _ hv, hregu]
      simp
  · exact fun k hk => (regs_when (R := [Off.TLM_BG_LATE_CNT, Off.TLM_PUB_MISSED, Off.REC_LOST_CNT]) regs_bump (regs_via regs_refl (by decide) fun _ h => regsOnly_trans h hregs) k hk).trans
      ((reg_of_only _ hv).trans (hregu _))
  · exact onlyIn_trans (onlyIn_mono hw (by decide)) (onlyIn_trans (onlyIn_mono hrecord (by decide)) (onlyIn_mono hmissed (by decide)))

/-- Settles O58, command by command. -/
theorem backgroundPasses : Obligations.BackgroundPasses :=
  ⟨exists_next_scrub, exists_next_mramReadVerify, exists_next_norRefresh, exec_norRefresh_of_busy, exists_next_nandRefresh, exists_next_bgLate⟩

end Sys2Proof.Machine

namespace Sys2Proof.Machine

set_option Elab.async false

/-! ### The next request of REC's queue (R493) -/

theorem firstRec_mem {l : List RecReq} {q : RecReq} (h : firstRec l = some q) : q ∈ l := by
  induction l generalizing q with
  | nil => exact absurd h (by simp [firstRec])
  | cons x xs ih =>
    unfold firstRec at h
    split at h
    · next p hp =>
      split at h
      · cases h
        exact List.mem_cons_of_mem _ (ih hp)
      · cases h
        exact List.mem_cons_self
    · cases h
      exact List.mem_cons_self

theorem firstRec_isSome {l : List RecReq} (h : l ≠ []) : ∃ q, firstRec l = some q := by
  cases l with
  | nil => exact absurd rfl h
  | cons x xs =>
    unfold firstRec
    split
    · split
      · exact ⟨_, rfl⟩
      · exact ⟨_, rfl⟩
    · exact ⟨_, rfl⟩

/-! ### The open page (R497) -/

theorem commitPage_erec (s : State) : (commitPage s).erec = { s.erec with page := [] } := by
  unfold commitPage
  split
  · next h =>
    rw [List.isEmpty_iff] at h
    rw [← h]
  · split
    · rfl
    · exact (only_when (P := [.icus]) only_raiseIrq only_refl).2 .erec (by decide)

/-- The page in NAND, before the wear is reported. -/
def pageKept (s : State) : State :=
  bump Off.REC_PAGES { s with
    nv := { s.nv with nand := { s.nv.nand.store s.erec.page with
      erases := s.nv.nand.erases + (if fld (s.reg Off.REC_PAGES) 0 5 = 31 then 1 else 0) } }
    erec := { s.erec with page := [] } }

theorem commitPage_of_page {s : State} (hpage : s.erec.page ≠ []) (hstate : s.erec.state ≠ .failed) : OnlyIn [.icus] (pageKept s) (commitPage s) := by
  have herases : b2n (fld (s.reg Off.REC_PAGES) 0 5 == 31) = if fld (s.reg Off.REC_PAGES) 0 5 = 31 then 1 else 0 := by
    rw [b2n]
    simp only [beq_iff_eq]
  unfold commitPage
  rw [if_neg (by simpa using hpage), if_neg (by simpa using hstate), pageKept, ← herases]
  exact only_when only_raiseIrq only_refl

theorem pageStored_commitPage {s : State} (hwf : RegsWf s) (hpage : s.erec.page ≠ []) (hstate : s.erec.state ≠ .failed) : PageStored s (commitPage s) := by
  have hkept := commitPage_of_page hpage hstate
  have hnv : (commitPage s).nv = (pageKept s).nv := hkept.2 .nv (by decide)
  rw [PageStored, hnv, reg_of_only _ hkept]
  exact ⟨rfl, rfl, rfl, reg_bump_unmasked _ _ (wf_mk hwf) (by decide)⟩

/-- A commit leaves in the NAND what is not of its pages. -/
theorem commitPage_nand (s : State) :
    (commitPage s).nv = { s.nv with nand := { (commitPage s).nv.nand with newest := s.nv.nand.newest, keptBase := s.nv.nand.keptBase, retired := s.nv.nand.retired } } ∧
    (s.erec.state = .failed → (commitPage s).nv = s.nv) := by
  by_cases hpage : s.erec.page = []
  · have hsame : commitPage s = s := if_pos (by rw [hpage]; rfl)
    rw [hsame]
    exact ⟨rfl, fun _ => rfl⟩
  · by_cases hstate : s.erec.state = .failed
    · have hdropped : commitPage s = { s with erec := { s.erec with page := [] } } := (if_neg (by simpa using hpage)).trans (if_pos (by rw [hstate]; rfl))
      rw [hdropped]
      exact ⟨rfl, fun _ => rfl⟩
    · have hnv : (commitPage s).nv = (pageKept s).nv := (commitPage_of_page hpage hstate).2 .nv (by decide)
      rw [hnv]
      exact ⟨rfl, fun h => absurd h hstate⟩

/-! ### Acceptance of a request (R491, R493 to R495) -/

/-- A request taken from the queue, with a loss told. -/
def recTaken (q : RecReq) (s : State) : State :=
  when s.erec.tell (raiseIrq Irq.REC_LOST) { s with erec := { s.erec with queue := s.erec.queue.erase q, lost := false, tell := false } }

theorem recTaken_only (q : RecReq) (s : State) :
    OnlyIn [.icus] { s with erec := { s.erec with queue := s.erec.queue.erase q, lost := false, tell := false } } (recTaken q s) :=
  only_when only_raiseIrq only_refl

theorem recTaken_erec (q : RecReq) (s : State) : (recTaken q s).erec = { s.erec with queue := s.erec.queue.erase q, lost := false, tell := false } :=
  (recTaken_only q s).2 .erec (by decide)

theorem raised_recTaken {q : RecReq} {s : State} (h : s.erec.tell = true) : Raised Irq.REC_LOST (recTaken q s) := by
  rw [recTaken, h]
  exact raised_raiseIrq _ _ (by decide)

/-- A request folded into the newest record of the page. -/
def recFolded (q : RecReq) (r : Rec) (s : State) : State :=
  bump Off.REC_FOLDED { recTaken q s with erec := { (recTaken q s).erec with page := (recTaken q s).erec.page.dropLast ++ [{ r with repeats := r.repeats + 1 }] } }

theorem acceptOne_of_folds {q : RecReq} {r : Rec} {s : State} (hfirst : firstRec s.erec.queue = some q) (hlast : s.erec.page.getLast? = some r)
    (hfolds : s.folds { q with lost := s.erec.lost } r = true) : acceptOne s = recFolded q r s := by
  have hpage : (recTaken q s).erec.page.getLast? = some r := by rw [recTaken_erec]; exact hlast
  unfold acceptOne
  rw [hfirst]
  dsimp only
  rw [show when s.erec.tell (raiseIrq Irq.REC_LOST) { s with erec := { s.erec with queue := s.erec.queue.erase q, lost := false, tell := false } } = recTaken q s from rfl, hpage]
  exact if_pos hfolds

/-- The record that a request becomes. -/
def recMade (q : RecReq) (s : State) : Rec :=
  ⟨Sys2Proof.nextSeq s.nv.nand.newest, { q with lost := s.erec.lost }, 0,
    ((s.erec.page.getLast?.or s.nv.nand.circulating.getLast?).map (s.repeats { q with lost := s.erec.lost })).getD false⟩

theorem acceptOne_of_new {q : RecReq} {s : State} (hfirst : firstRec s.erec.queue = some q)
    (hfolds : (s.erec.page.getLast?.all fun r => !s.folds { q with lost := s.erec.lost } r) = true) :
    acceptOne s = acceptOne.newRec { q with lost := s.erec.lost } (recMade q s).continues (recTaken q s) := by
  have hpage : (recTaken q s).erec.page = s.erec.page := by rw [recTaken_erec]
  unfold acceptOne
  rw [hfirst]
  dsimp only
  rw [show when s.erec.tell (raiseIrq Irq.REC_LOST) { s with erec := { s.erec with queue := s.erec.queue.erase q, lost := false, tell := false } } = recTaken q s from rfl, hpage]
  cases hlast : s.erec.page.getLast? with
  | none =>
    dsimp only
    rw [recMade, State.newestRec, hlast]
  | some r =>
    rw [hlast] at hfolds
    refine (if_neg (by simpa using hfolds)).trans ?_
    rw [recMade, hlast]
    rfl

/-- Bytes of the open page. -/
def pageUsed (s : State) : Nat := s.erec.page.foldl (fun a y => a + y.size) 0

/-- A record entered in the open page. -/
def recEntered (x : Rec) (s : State) : State :=
  bump Off.REC_RECORDS { s with
    erec := { s.erec with page := s.erec.page ++ [x], pageAt := if s.erec.page.isEmpty then s.now else s.erec.pageAt }
    nv := { s.nv with nand := { s.nv.nand with newest := x.seq, keptBase := if s.nv.nand.keptBase = 0 then x.seq else s.nv.nand.keptBase } } }

theorem newRec_eq (q : RecReq) (s : State) :
    acceptOne.newRec { q with lost := s.erec.lost } (recMade q s).continues (recTaken q s) =
      recEntered (recMade q s) (if pageUsed s + (recMade q s).size ≤ 4096 then recTaken q s else commitPage (recTaken q s)) := by
  have hnv : (recTaken q s).nv = s.nv := (recTaken_only q s).2 .nv (by decide)
  have hpage : (recTaken q s).erec.page = s.erec.page := by rw [recTaken_erec]
  unfold acceptOne.newRec
  rw [hnv, hpage]
  rfl

/-- Before the commit that a record may need. -/
def recFits (q : RecReq) (s : State) : State := if pageUsed s + (recMade q s).size ≤ 4096 then recTaken q s else commitPage (recTaken q s)

theorem recFits_erec (q : RecReq) (s : State) : ∃ page, (recFits q s).erec = { s.erec with queue := s.erec.queue.erase q, lost := false, tell := false, page := page } := by
  unfold recFits
  split
  · exact ⟨_, recTaken_erec q s⟩
  · exact ⟨_, (commitPage_erec _).trans (by rw [recTaken_erec])⟩

theorem recFits_nand (q : RecReq) (s : State) : (recFits q s).nv.nand.keptBase = s.nv.nand.keptBase := by
  have hnv : (recTaken q s).nv = s.nv := (recTaken_only q s).2 .nv (by decide)
  unfold recFits
  split
  · rw [hnv]
  · rw [(commitPage_nand _).1, hnv]

theorem wf_recTaken {q : RecReq} {s : State} (h : RegsWf s) : RegsWf (recTaken q s) := regsWf_of_only (wf_mk h) (recTaken_only q s)

theorem wf_recFits {q : RecReq} {s : State} (h : RegsWf s) : RegsWf (recFits q s) := wf_ite (wf_recTaken h) (wf_commitPage (wf_recTaken h))

theorem regs_recTaken {R : List Nat} {b s : State} {q : RecReq} (h : RegsOnly R b s) : RegsOnly R b (recTaken q s) := regs_of_only (regs_mk h) (recTaken_only q s)

theorem regs_recFits (q : RecReq) (s : State) : RegsOnly [Off.REC_PAGES] s (recFits q s) :=
  regs_ite (regs_recTaken regs_refl) (regs_commitPage (regs_recTaken regs_refl))

theorem recAccepted_new {q : RecReq} {s : State} (hwf : RegsWf s) (hfirst : firstRec s.erec.queue = some q)
    (hfolds : (s.erec.page.getLast?.all fun r => !s.folds { q with lost := s.erec.lost } r) = true) :
    ∃ page at_, acceptOne s = recEntered (recMade q s) (recFits q s) ∧
    (acceptOne s).erec = { s.erec with queue := s.erec.queue.erase q, lost := false, tell := false, page := page ++ [recMade q s], pageAt := at_ } ∧
    (acceptOne s).nv.nand.newest = (recMade q s).seq ∧
    (acceptOne s).nv.nand.keptBase = (if s.nv.nand.keptBase = 0 then (recMade q s).seq else s.nv.nand.keptBase) ∧
    (acceptOne s).reg Off.REC_RECORDS = s.reg Off.REC_RECORDS + 1 ∧ (s.erec.tell = true → Raised Irq.REC_LOST (acceptOne s)) ∧
    RegsOnly [Off.REC_RECORDS, Off.REC_PAGES] s (acceptOne s) ∧ OnlyIn [.regs, .nv, .icus, .erec] s (acceptOne s) := by
  have hop : acceptOne s = recEntered (recMade q s) (recFits q s) := (acceptOne_of_new hfirst hfolds).trans (newRec_eq q s)
  obtain ⟨page, herec⟩ := recFits_erec q s
  have honly : OnlyIn [.regs, .nv, .icus, .erec] s (acceptOne s) := only_acceptOne only_refl
  rw [hop] at honly ⊢
  refine ⟨page, if (recFits q s).erec.page.isEmpty then (recFits q s).now else (recFits q s).erec.pageAt, rfl, ?_, rfl, ?_, ?_, fun h => ?_, ?_, honly⟩
  · show ({ (recFits q s).erec with page := (recFits q s).erec.page ++ [recMade q s], pageAt := _ } : Recorder) = _
    rw [herec]
  · show (if (recFits q s).nv.nand.keptBase = 0 then _ else (recFits q s).nv.nand.keptBase) = _
    rw [recFits_nand]
  · exact (reg_bump_unmasked _ _ (wf_mk (wf_recFits hwf)) (by decide)).trans (congrArg (· + 1) (regs_recFits q s _ (by decide)))
  · exact raised_bump (raised_mk (raised_ite (raised_recTaken h) (raised_commitPage (raised_recTaken h))))
  · exact regs_bump (regs_mk (regs_via regs_refl (by decide) fun _ h => regsOnly_trans h (regs_recFits q s)))

/-! ### Requests and acceptance as commands -/

theorem requestRec_full (q : RecReq) {s : State} (hwf : RegsWf s) (hup : s.recUp = true) (hfull : 64 ≤ s.erec.queue.length) :
    (requestRec q s).erec = { s.erec with lost := true } ∧ (requestRec q s).reg Off.REC_LOST_CNT = s.reg Off.REC_LOST_CNT + 1 ∧
    (s.erec.lost = false → Raised Irq.REC_LOST (requestRec q s)) := by
  have hbump : (bump Off.REC_LOST_CNT { s with erec := { s.erec with lost := true } }).reg Off.REC_LOST_CNT = s.reg Off.REC_LOST_CNT + 1 :=
    reg_bump_unmasked _ _ (wf_mk hwf) (by decide)
  unfold requestRec
  rw [if_pos hup, if_neg (by omega)]
  dsimp only
  cases s.erec.lost
  · exact ⟨rfl, hbump, fun _ => raised_raiseIrq _ _ (by decide)⟩
  · exact ⟨rfl, hbump, nofun⟩

theorem exists_next_recordRequest (s : State) (type : Nat) (items : List (Nat × Nat × List Byte)) (hwf : RegsWf s) (hup : s.up = true) :
    ∃ t, exec (.recordRequest type items) s = .next t ∧ Recorded type (items.map fun i => ⟨i.1, i.2.1, i.2.2⟩) s t ∧
      (s.recUp = true → 64 ≤ s.erec.queue.length → t.erec = { s.erec with lost := true } ∧ t.reg Off.REC_LOST_CNT = s.reg Off.REC_LOST_CNT + 1 ∧
        (s.erec.lost = false → Raised Irq.REC_LOST t)) ∧
      (s.recUp = false → 16 ≤ s.isl.events.length → t.isl = { s.isl with eventsLost := s.isl.eventsLost + 1 }) ∧
      RegsOnly [Off.REC_LOST_CNT] s t ∧ OnlyIn recParts s t := by
  refine ⟨_, congrArg Host.Outcome.next (if_pos hup), recorded_record _ _ _, fun hrec hfull => ?_, fun hrec hfull => ?_, regs_record regs_refl, only_record only_refl⟩
  · unfold record
    split <;> exact requestRec_full _ hwf hrec hfull
  · unfold record
    split <;> rw [requestRec, if_neg (by rw [hrec]; decide), if_neg (by omega)]

theorem exists_next_recordAccept (s : State) (q q' : RecReq) (hwf : RegsWf s) (hruns : s.recRuns = true) (hfirst : firstRec s.erec.queue = some q)
    (hq : q' = { q with lost := s.erec.lost }) :
    (∀ r, s.erec.page.getLast? = some r → s.folds q' r = true → ∃ t, exec .recordAccept s = .next t ∧
      t.erec = { s.erec with queue := s.erec.queue.erase q, lost := false, tell := false, page := s.erec.page.dropLast ++ [{ r with repeats := r.repeats + 1 }] } ∧
      t.reg Off.REC_FOLDED = s.reg Off.REC_FOLDED + 1 ∧ (s.erec.tell = true → Raised Irq.REC_LOST t) ∧
      RegsOnly [Off.REC_FOLDED] s t ∧ OnlyIn [.regs, .icus, .erec] s t) ∧
    (∀ (x : Rec) (used : Nat), (s.erec.page.getLast?.all fun r => !s.folds q' r) = true → used = s.erec.page.foldl (fun a y => a + y.size) 0 →
      x = ⟨Sys2Proof.nextSeq s.nv.nand.newest, q', 0, ((s.erec.page.getLast?.or s.nv.nand.circulating.getLast?).map (s.repeats q')).getD false⟩ →
      ∃ t, exec .recordAccept s = .next t ∧ t.erec.queue = s.erec.queue.erase q ∧ t.erec.lost = false ∧ t.nv.nand.newest = x.seq ∧
        t.reg Off.REC_RECORDS = s.reg Off.REC_RECORDS + 1 ∧ (s.erec.tell = true → Raised Irq.REC_LOST t) ∧
        t.nv.nand.keptBase = (if s.nv.nand.keptBase = 0 then x.seq else s.nv.nand.keptBase) ∧
        (used + x.size ≤ 4096 → t.erec.page = s.erec.page ++ [x] ∧ t.erec.pageAt = (if s.erec.page = [] then s.now else s.erec.pageAt) ∧
          t.nv.nand.circulating = s.nv.nand.circulating ∧ RegsOnly [Off.REC_RECORDS] s t) ∧
        (4096 < used + x.size → s.erec.page ≠ [] → t.erec.page = [x] ∧ t.erec.pageAt = s.now ∧ (s.erec.state ≠ .failed → PageStored s t)) ∧
        RegsOnly [Off.REC_RECORDS, Off.REC_PAGES] s t ∧ OnlyIn [.regs, .nv, .icus, .erec] s t) := by
  subst hq
  have hexec : exec .recordAccept s = .next (acceptOne s) := congrArg Host.Outcome.next (if_pos hruns)
  have htaken : (recTaken q s).nv = s.nv ∧ (recTaken q s).now = s.now := ⟨(recTaken_only q s).2 .nv (by decide), (recTaken_only q s).2 .now (by decide)⟩
  obtain ⟨hnv, hnow⟩ := htaken
  have herec := recTaken_erec q s
  refine ⟨fun r hlast hfolds => ?_, fun x used hfolds hused hx => ?_⟩
  · rw [acceptOne_of_folds hfirst hlast hfolds] at hexec
    refine ⟨_, hexec, ?_, ?_, fun h => raised_bump (raised_mk (raised_recTaken h)), regs_bump (regs_mk (regs_recTaken regs_refl)),
      only_bump (only_mk (only_when only_raiseIrq (only_mk only_refl)))⟩
    · show ({ (recTaken q s).erec with page := (recTaken q s).erec.page.dropLast ++ _ } : Recorder) = _
      rw [herec]
    · exact (reg_bump_unmasked _ _ (wf_mk (wf_recTaken hwf)) (by decide)).trans (congrArg (· + 1) (regs_recTaken (R := []) regs_refl _ (by decide)))
  · obtain rfl : x = recMade q s := hx
    obtain ⟨page, at_, hop, hrec, hnewest, hbase, hcount, htell, hregs, honly⟩ := recAccepted_new hwf hfirst hfolds
    refine ⟨_, hexec, by rw [hrec], by rw [hrec], hnewest, hcount, htell, hbase, fun hfits => ?_, fun hfits hpage => ?_, hregs, honly⟩
    · have hfit : recFits q s = recTaken q s := if_pos (by rw [pageUsed, ← hused]; exact hfits)
      rw [hop, hfit]
      refine ⟨?_, ?_, ?_, regs_bump (regs_mk (regs_recTaken regs_refl))⟩
      · show (recTaken q s).erec.page ++ _ = _
        rw [herec]
      · show (if (recTaken q s).erec.page.isEmpty then (recTaken q s).now else (recTaken q s).erec.pageAt) = _
        rw [herec, hnow]
        simp only [List.isEmpty_iff]
      · show (recTaken q s).nv.nand.circulating = _
        rw [hnv]
    · have hfit : recFits q s = commitPage (recTaken q s) := if_neg (by rw [pageUsed, ← hused]; omega)
      have hcommit := commitPage_erec (recTaken q s)
      have hclock : (commitPage (recTaken q s)).now = (recTaken q s).now := (only_commitPage (P := [.regs, .nv, .icus, .erec]) only_refl).2 .now (by decide)
      rw [hop, hfit]
      refine ⟨?_, ?_, fun hstate => ?_⟩
      · show (commitPage (recTaken q s)).erec.page ++ _ = _
        rw [hcommit]
        rfl
      · show (if (commitPage (recTaken q s)).erec.page.isEmpty then (commitPage (recTaken q s)).now else _) = _
        rw [hcommit, hclock, hnow]
        rfl
      · have hstored := pageStored_commitPage (s := recTaken q s) (wf_recTaken hwf) (by rw [herec]; exact hpage) (by rw [herec]; exact hstate)
        have hcirc : (recEntered (recMade q s) (commitPage (recTaken q s))).nv.nand = { (commitPage (recTaken q s)).nv.nand with
            newest := (recEntered (recMade q s) (commitPage (recTaken q s))).nv.nand.newest
            keptBase := (recEntered (recMade q s) (commitPage (recTaken q s))).nv.nand.keptBase } := rfl
        have hentered : RegsOnly [Off.REC_RECORDS] (commitPage (recTaken q s)) (recEntered (recMade q s) (commitPage (recTaken q s))) := regs_bump (regs_mk regs_refl)
        obtain ⟨h1, h2, h3, h4⟩ := hstored
        have hpages : (recTaken q s).reg Off.REC_PAGES = s.reg Off.REC_PAGES := regs_recTaken (R := []) regs_refl _ (by decide)
        rw [hnv, herec] at h1 h2
        rw [hnv, hpages] at h3
        rw [hpages] at h4
        refine ⟨?_, ?_, ?_, (hentered _ (by decide)).trans h4⟩
        · rw [hcirc]
          exact h1
        · rw [hcirc]
          exact h2
        · rw [hcirc]
          exact h3

/-! ### The commit of a page as a command -/

theorem exists_next_pageCommit (s : State) (failed : Nat) (hwf : RegsWf s) (hruns : s.recRuns = true) :
    (s.erec.page ≠ [] → ∃ t, exec (.pageCommit failed) s = .next t ∧ t.now = max s.now (s.erec.pageAt + s.commitTime) ∧ t.erec.page = [] ∧
      t.erec = { s.erec with page := [], state := if 0 < failed ∧ 7872 ≤ s.nv.nand.retired + failed then .failed else s.erec.state } ∧
      t.nv.nand.newest = s.nv.nand.newest ∧ t.nv.nand.keptBase = s.nv.nand.keptBase ∧ t.nv.nand.retired = s.nv.nand.retired + failed ∧
      t.reg Off.REC_BAD_BLOCKS = s.reg Off.REC_BAD_BLOCKS + BitVec.ofNat 32 failed ∧ (0 < failed → Raised Irq.REC_STORAGE t) ∧
      (t.erec.state ≠ .failed → PageStored s t) ∧ (t.erec.state = .failed → t.nv.nand.circulating = s.nv.nand.circulating ∧ t.nv.nand.kept = s.nv.nand.kept) ∧
      RegsOnly [Off.REC_PAGES, Off.REC_BAD_BLOCKS] s t ∧ OnlyIn [.now, .regs, .isl, .nv, .time, .icus, .erec] s t) ∧
    (s.erec.page = [] → exec (.pageCommit failed) s = .next s) := by
  refine ⟨fun hpage => ?_, fun hpage => congrArg Host.Outcome.next ((if_pos hruns).trans (if_pos (by rw [hpage]; rfl)))⟩
  have hexec : exec (.pageCommit failed) s = .next (commitPage (retireBlocks failed (advanceTo (s.erec.pageAt + s.commitTime) s))) :=
    congrArg Host.Outcome.next ((if_pos hruns).trans (if_neg (by simpa using hpage)))
  have hlater : OnlyIn [.now, .isl, .time, .nv] s (advanceTo (s.erec.pageAt + s.commitTime) s) := only_advanceTo only_refl
  have hnand : (advanceTo (s.erec.pageAt + s.commitTime) s).nv.nand = s.nv.nand := by
    unfold advanceTo advance
    split
    · rfl
    · dsimp only
      split <;> rfl
  have hnow := now_advanceTo (s.erec.pageAt + s.commitTime) s
  have hwfu : RegsWf (advanceTo (s.erec.pageAt + s.commitTime) s) := regsWf_of_only hwf hlater
  have herecu : (advanceTo (s.erec.pageAt + s.commitTime) s).erec = s.erec := hlater.2 .erec (by decide)
  generalize advanceTo (s.erec.pageAt + s.commitTime) s = u at hexec hlater hnand hnow hwfu herecu
  obtain ⟨hnv, herec, hbad, hraised⟩ := retireBlocks_retires failed hwfu
  have hretire : OnlyIn [.regs, .nv, .icus, .erec] u (retireBlocks failed u) := only_retireBlocks only_refl
  have hregs : RegsOnly [Off.REC_BAD_BLOCKS] s (retireBlocks failed u) := regs_retireBlocks (regs_of_only regs_refl hlater)
  have hwfr : RegsWf (retireBlocks failed u) := wf_retireBlocks hwfu
  have hpager : (retireBlocks failed u).erec.page = s.erec.page := by rw [herec, herecu]
  have hcommitted : RegsOnly [Off.REC_PAGES] (retireBlocks failed u) (commitPage (retireBlocks failed u)) := regs_commitPage regs_refl
  obtain ⟨hkept, hdropped⟩ := commitPage_nand (retireBlocks failed u)
  have herect := commitPage_erec (retireBlocks failed u)
  have hclock : (commitPage (retireBlocks failed u)).now = u.now := (only_commitPage (P := [.regs, .nv, .icus, .erec]) hretire).2 .now (by decide)
  refine ⟨_, hexec, hclock.trans hnow, by rw [herect], ?_, ?_, ?_, ?_, ?_, fun h => raised_commitPage (hraised h), fun h => ?_, fun h => ?_, ?_, ?_⟩
  · rw [herect, herec, herecu, hnand]
    rfl
  · rw [hkept, hnv, hnand]
  · rw [hkept, hnv, hnand]
  · rw [hkept, hnv, hnand]
  · rw [hcommitted _ (by decide), hbad, reg_of_only _ hlater]
  · rw [herect] at h
    obtain ⟨h1, h2, h3, h4⟩ := pageStored_commitPage hwfr (by rw [hpager]; exact hpage) h
    have hpages : (retireBlocks failed u).reg Off.REC_PAGES = s.reg Off.REC_PAGES := hregs _ (by decide)
    rw [hnv, hnand, hpager] at h1 h2
    rw [hnv, hnand, hpages] at h3
    rw [hpages] at h4
    exact ⟨h1, h2, h3, h4⟩
  · rw [herect] at h
    rw [hdropped h, hnv, hnand]
    exact ⟨rfl, rfl⟩
  · exact regs_commitPage (regs_via regs_refl (by decide) fun _ h => regsOnly_trans h hregs)
  · exact onlyIn_trans (onlyIn_mono hlater (by decide)) (only_commitPage (only_retireBlocks only_refl))

/-! ### Acceptance of the whole queue (R498) -/

/-- Registers that an acceptance changes. -/
def acceptRegs : List Nat := [Off.REC_RECORDS, Off.REC_FOLDED, Off.REC_PAGES]

/-- Records and folds together. -/
def recAccepted (s : State) : Word := s.reg Off.REC_RECORDS + s.reg Off.REC_FOLDED

theorem acceptOne_accepts {s : State} (hwf : RegsWf s) (hqueue : s.erec.queue ≠ []) :
    (acceptOne s).erec.queue.length + 1 = s.erec.queue.length ∧ recAccepted (acceptOne s) = recAccepted s + 1 ∧ (acceptOne s).erec.state = s.erec.state ∧
    RegsWf (acceptOne s) ∧ RegsOnly acceptRegs s (acceptOne s) := by
  obtain ⟨q, hfirst⟩ := firstRec_isSome hqueue
  have hlen : (s.erec.queue.erase q).length + 1 = s.erec.queue.length := by
    have hpos := List.length_pos_of_mem (firstRec_mem hfirst)
    rw [List.length_erase_of_mem (firstRec_mem hfirst)]
    omega
  by_cases hfolds : (s.erec.page.getLast?.all fun r => !s.folds { q with lost := s.erec.lost } r) = true
  · obtain ⟨page, at_, hop, hrec, _, _, hcount, _, hregs, _⟩ := recAccepted_new hwf hfirst hfolds
    have hfolded := hregs Off.REC_FOLDED (by decide)
    refine ⟨by rw [hrec]; exact hlen, ?_, by rw [hrec], ?_, fun k hk => hregs k fun h => hk ?_⟩
    · rw [recAccepted, recAccepted, hcount, hfolded]
      ac_rfl
    · rw [hop]
      exact wf_bump (wf_mk (wf_recFits hwf))
    · revert h
      simp only [acceptRegs, List.mem_cons, List.not_mem_nil, or_false]
      tauto
  · obtain ⟨r, hlast, hfold⟩ : ∃ r, s.erec.page.getLast? = some r ∧ s.folds { q with lost := s.erec.lost } r = true := by
      cases hlast : s.erec.page.getLast? with
      | none => rw [hlast] at hfolds; exact absurd rfl hfolds
      | some r => rw [hlast] at hfolds; exact ⟨r, rfl, by simpa using hfolds⟩
    have herec := recTaken_erec q s
    have hregs : RegsOnly [Off.REC_FOLDED] s (recFolded q r s) := regs_bump (regs_mk (regs_recTaken regs_refl))
    rw [acceptOne_of_folds hfirst hlast hfold]
    refine ⟨?_, ?_, ?_, wf_bump (wf_mk (wf_recTaken hwf)), regs_bump (regs_mk (regs_recTaken regs_refl))⟩
    · show (recTaken q s).erec.queue.length + 1 = _
      rw [herec]
      exact hlen
    · have hfolded : (recFolded q r s).reg Off.REC_FOLDED = s.reg Off.REC_FOLDED + 1 :=
        (reg_bump_unmasked _ _ (wf_mk (wf_recTaken hwf)) (by decide)).trans (congrArg (· + 1) (regs_recTaken (R := []) regs_refl _ (by decide)))
      rw [recAccepted, recAccepted, hfolded, hregs _ (by decide), BitVec.add_assoc]
    · show (recTaken q s).erec.state = _
      rw [herec]

theorem acceptAll_accepts {s : State} (hwf : RegsWf s) :
    (acceptAll s).erec.queue = [] ∧ recAccepted (acceptAll s) = recAccepted s + BitVec.ofNat 32 s.erec.queue.length ∧ (acceptAll s).erec.state = s.erec.state ∧
    RegsWf (acceptAll s) ∧ RegsOnly acceptRegs s (acceptAll s) := by
  have htimes : ∀ (n : Nat) (s : State), RegsWf s → s.erec.queue.length = n →
      (times n acceptOne s).erec.queue = [] ∧ recAccepted (times n acceptOne s) = recAccepted s + BitVec.ofNat 32 n ∧ (times n acceptOne s).erec.state = s.erec.state ∧
      RegsWf (times n acceptOne s) ∧ RegsOnly acceptRegs s (times n acceptOne s) := by
    intro n
    induction n with
    | zero => exact fun s hwf hlen => ⟨List.length_eq_zero_iff.mp hlen, by simp [times], rfl, hwf, regs_refl⟩
    | succ n ih =>
      intro s hwf hlen
      obtain ⟨hrest, hcount, hstate, hwf', hregs⟩ := acceptOne_accepts hwf (by rw [← List.length_pos_iff]; omega)
      obtain ⟨hempty, hcounts, hstates, hwfs, hregss⟩ := ih _ hwf' (by omega)
      rw [times_succ_first]
      refine ⟨hempty, ?_, hstates.trans hstate, hwfs, regsOnly_trans hregs hregss⟩
      rw [hcounts, hcount, BitVec.add_assoc, Nat.add_comm n 1, BitVec.ofNat_add]
      rfl
  exact htimes _ s hwf rfl

/-! ### The start of REC (R498) -/

theorem record_of_recUp {type : Nat} {items : List Item} {s : State} (hup : s.recUp = true) :
    (record type items s).isl = s.isl ∧ (s.erec.lost = true ∧ s.erec.tell = true → (record type items s).erec.lost = true ∧ (record type items s).erec.tell = true) := by
  have hreq : ∀ q, (requestRec q s).isl = s.isl ∧ (s.erec.lost = true ∧ s.erec.tell = true → (requestRec q s).erec.lost = true ∧ (requestRec q s).erec.tell = true) := by
    intro q
    unfold requestRec
    rw [if_pos hup]
    dsimp only
    split
    · exact ⟨rfl, fun h => h⟩
    · split
      · exact ⟨rfl, fun h => ⟨rfl, h.2⟩⟩
      · exact ⟨rfl, fun h => ⟨rfl, h.2⟩⟩
  unfold record
  split <;> exact hreq _

theorem tellStandby_tells {s : State} (hup : s.recUp = true) :
    (tellStandby s).chk = { s.chk with told := true } ∧ (tellStandby s).isl = s.isl ∧ (tellStandby s).erec.state = s.erec.state ∧
    (s.erec.lost = true ∧ s.erec.tell = true → (tellStandby s).erec.lost = true ∧ (tellStandby s).erec.tell = true) ∧ (s.chk.told = true → tellStandby s = s) := by
  unfold tellStandby
  by_cases htold : s.chk.told = true
  · rw [if_pos htold, ← htold]
    exact ⟨rfl, rfl, rfl, fun h => h, fun _ => rfl⟩
  · rw [if_neg htold]
    have hrecords : ∀ (es : List (Nat × Word × Nat)) (u : State), u.recUp = true →
        (es.foldl (fun s e => record 0x0A04 [iU8 1 e.1, iU32 2 e.2.1.toNat, iU64 3 e.2.2] s) u).isl = u.isl ∧
        (es.foldl (fun s e => record 0x0A04 [iU8 1 e.1, iU32 2 e.2.1.toNat, iU64 3 e.2.2] s) u).erec.state = u.erec.state ∧
        (u.erec.lost = true ∧ u.erec.tell = true → (es.foldl (fun s e => record 0x0A04 [iU8 1 e.1, iU32 2 e.2.1.toNat, iU64 3 e.2.2] s) u).erec.lost = true ∧
          (es.foldl (fun s e => record 0x0A04 [iU8 1 e.1, iU32 2 e.2.1.toNat, iU64 3 e.2.2] s) u).erec.tell = true) := by
      intro es
      induction es with
      | nil => exact fun u _ => ⟨rfl, rfl, fun h => h⟩
      | cons e es ih =>
        intro u hu
        obtain ⟨hisl, hlost⟩ := record_of_recUp (type := 0x0A04) (items := [iU8 1 e.1, iU32 2 e.2.1.toNat, iU64 3 e.2.2]) hu
        obtain ⟨hisls, hstates, hlosts⟩ := ih _ ((recUp_record _ _ u).trans hu)
        exact ⟨hisls.trans hisl, hstates.trans (recState_record _ _ u), fun h => hlosts (hlost h)⟩
    obtain ⟨hisl, hstate, hlost⟩ := hrecords s.chk.events s hup
    exact ⟨rfl, hisl, hstate, hlost, fun h => absurd h htold⟩

/-- REC started with the supervisor's events, before it accepts them. -/
def recStarted (nand : Bool) (s : State) : State :=
  { s with
    erec := { s.erec with
      state := if !nand || decide (7872 ≤ s.nv.nand.retired) then .failed else if s.nv.nand.clear.isSome then .clearing else .ready, queue := s.isl.events }
    isl := { s.isl with events := [], eventsLost := 0 } }

/-- The events accepted, the lost ones counted, a failure reported. -/
def recCounted (nand : Bool) (s : State) : State :=
  when (!nand || decide (7872 ≤ s.nv.nand.retired)) (raiseIrq Irq.REC_STORAGE) (bumpBy Off.REC_LOST_CNT s.isl.eventsLost (acceptAll (recStarted nand s)))

theorem exists_next_recReady (s : State) (nand : Bool) (hwf : RegsWf s) (hup : s.up = true) (hstate : s.erec.state = .notReady) :
    ∃ t, exec (.recReady nand) s = .next t ∧
      t.erec.state = (if nand = false ∨ 7872 ≤ s.nv.nand.retired then .failed else if s.nv.nand.clear.isSome then .clearing else .ready) ∧
      (nand = false ∨ 7872 ≤ s.nv.nand.retired → Raised Irq.REC_STORAGE t) ∧
      t.isl = { s.isl with events := [], eventsLost := 0 } ∧
      t.chk = { s.chk with told := true } ∧ (s.chk.told = true → t.erec.queue = []) ∧
      t.reg Off.REC_RECORDS + t.reg Off.REC_FOLDED = s.reg Off.REC_RECORDS + s.reg Off.REC_FOLDED + BitVec.ofNat 32 s.isl.events.length ∧
      (s.chk.told = true → t.reg Off.REC_LOST_CNT = s.reg Off.REC_LOST_CNT + BitVec.ofNat 32 s.isl.eventsLost) ∧
      (s.isl.eventsLost ≠ 0 → t.erec.lost = true ∧ t.erec.tell = true) ∧
      RegsOnly [Off.REC_RECORDS, Off.REC_FOLDED, Off.REC_LOST_CNT, Off.REC_PAGES] s t ∧ OnlyIn (.nv :: .chk :: recParts) s t := by
  have hexec : exec (.recReady nand) s = .next (tellStandby (if s.isl.eventsLost = 0 then recCounted nand s else
      { recCounted nand s with erec := { (recCounted nand s).erec with lost := true, tell := true } })) :=
    congrArg Host.Outcome.next (if_pos (by rw [hup, hstate]; rfl))
  have hfails : (!nand || decide (7872 ≤ s.nv.nand.retired)) = decide (nand = false ∨ 7872 ≤ s.nv.nand.retired) := by
    cases nand <;> simp
  obtain ⟨hqueue, hcount, haccState, hwfa, hrega⟩ := acceptAll_accepts (s := recStarted nand s) (wf_mk hwf)
  have honly : OnlyIn [.regs, .nv, .icus, .erec] (recStarted nand s) (acceptAll (recStarted nand s)) := only_acceptAll only_refl
  have hcounted : OnlyIn [.regs, .icus] (acceptAll (recStarted nand s)) (recCounted nand s) := only_when only_raiseIrq (only_bumpBy only_refl)
  have hlost : (recCounted nand s).reg Off.REC_LOST_CNT = s.reg Off.REC_LOST_CNT + BitVec.ofNat 32 s.isl.eventsLost := by
    have hwhen : RegsOnly [] (bumpBy Off.REC_LOST_CNT s.isl.eventsLost (acceptAll (recStarted nand s))) (recCounted nand s) := regs_when regs_raiseIrq regs_refl
    rw [hwhen _ (by decide)]
    exact (reg_setReg_unmasked _ _ _ hwfa (by decide)).trans (congrArg (· + BitVec.ofNat 32 s.isl.eventsLost) (hrega _ (by decide)))
  have hregc : RegsOnly [Off.REC_LOST_CNT] (acceptAll (recStarted nand s)) (recCounted nand s) := regs_when regs_raiseIrq (regs_bumpBy regs_refl)
  have hfailed : nand = false ∨ 7872 ≤ s.nv.nand.retired → Raised Irq.REC_STORAGE (recCounted nand s) := fun h => by
    rw [recCounted, hfails, decide_eq_true h]
    exact raised_raiseIrq _ _ (by decide)
  have herec : (recCounted nand s).erec = (acceptAll (recStarted nand s)).erec := hcounted.2 .erec (by decide)
  have hisl : (recCounted nand s).isl = { s.isl with events := [], eventsLost := 0 } := (hcounted.2 .isl (by decide)).trans (honly.2 .isl (by decide))
  have hchk : (recCounted nand s).chk = s.chk := (hcounted.2 .chk (by decide)).trans (honly.2 .chk (by decide))
  obtain ⟨v, hv, hvRegs, hvOnly, hvTell, hvSame, hvRaised⟩ : ∃ v, (if s.isl.eventsLost = 0 then recCounted nand s else
      { recCounted nand s with erec := { (recCounted nand s).erec with lost := true, tell := true } }) = v ∧ RegsOnly [] (recCounted nand s) v ∧ OnlyIn [.erec] (recCounted nand s) v ∧
      (s.isl.eventsLost ≠ 0 → v.erec.lost = true ∧ v.erec.tell = true) ∧ (v.erec.queue = (recCounted nand s).erec.queue ∧ v.erec.state = (recCounted nand s).erec.state) ∧
      (Raised Irq.REC_STORAGE (recCounted nand s) → Raised Irq.REC_STORAGE v) := by
    by_cases h : s.isl.eventsLost = 0
    · rw [if_pos h]
      exact ⟨_, rfl, regs_refl, only_refl, fun h' => absurd h h', ⟨rfl, rfl⟩, fun h => h⟩
    · rw [if_neg h]
      exact ⟨_, rfl, regs_mk regs_refl, only_mk only_refl, fun _ => ⟨rfl, rfl⟩, ⟨rfl, rfl⟩, fun h => h⟩
  rw [hv] at hexec
  obtain ⟨hvQueue, hvState⟩ := hvSame
  have hstarted : v.erec.state = if nand = false ∨ 7872 ≤ s.nv.nand.retired then .failed else if s.nv.nand.clear.isSome then .clearing else .ready := by
    rw [hvState, herec, haccState, recStarted, hfails]
    simp only [decide_eq_true_eq]
  have hislv : v.isl = { s.isl with events := [], eventsLost := 0 } := (hvOnly.2 .isl (by decide)).trans hisl
  have hchkv : v.chk = s.chk := (hvOnly.2 .chk (by decide)).trans hchk
  have hrec : v.recUp = true := by
    have hsys : v.sys = s.sys := ((hvOnly.2 .sys (by decide)).trans (hcounted.2 .sys (by decide))).trans (honly.2 .sys (by decide))
    have hready : (v.erec.state != .notReady) = true := by
      rw [hstarted]
      split
      · rfl
      · split <;> rfl
    have hon : v.up = s.up := by
      unfold State.up State.hubOn
      rw [hsys, hislv]
    rw [State.recUp, hready, hon, hup]
    rfl
  obtain ⟨htold, htisl, htstate, httell, htsame⟩ := tellStandby_tells hrec
  have htregs : RegsOnly [Off.REC_LOST_CNT] v (tellStandby v) := regs_tellStandby regs_refl
  have hregv : ∀ o, o % 16777216 ≠ Off.REC_LOST_CNT → v.reg o = (acceptAll (recStarted nand s)).reg o := fun o ho =>
    (hvRegs o (by simp)).trans (hregc o (by simpa using ho))
  refine ⟨_, hexec, htstate.trans hstarted, fun h => raised_tellStandby (hvRaised (hfailed h)), htisl.trans hislv, htold.trans (by rw [hchkv]), fun h => ?_, ?_, fun h => ?_,
    fun h => httell (hvTell h), ?_, ?_⟩
  · rw [htsame (by rw [hchkv]; exact h), hvQueue, herec, hqueue]
  · rw [htregs _ (by decide), htregs _ (by decide), hregv _ (by decide), hregv _ (by decide)]
    exact hcount
  · rw [htsame (by rw [hchkv]; exact h), hvRegs _ (by simp), hlost]
  · have hfirst : RegsOnly [Off.REC_RECORDS, Off.REC_FOLDED, Off.REC_LOST_CNT, Off.REC_PAGES] s (recCounted nand s) :=
      regs_via (regs_via (regs_mk regs_refl : RegsOnly _ s (recStarted nand s)) (by decide) fun _ h => regsOnly_trans h hrega) (by decide) fun _ h => regsOnly_trans h hregc
    exact regs_tellStandby (regs_via hfirst (by decide) fun _ h => regsOnly_trans h hvRegs)
  · have hfirst : OnlyIn (.nv :: .chk :: recParts) s (acceptAll (recStarted nand s)) := only_acceptAll (only_mk only_refl)
    exact only_tellStandby (onlyIn_trans (onlyIn_trans hfirst (onlyIn_mono hcounted (by decide))) (onlyIn_mono hvOnly (by decide)))

/-! ### Application records (R499) -/

/-- A command of REC_APP_CMD is over. -/
def appDone (cause : Nat) (s : State) : State := raiseIrq Irq.REC_APP_DONE (cmdResult Off.REC_APP_STATUS (if cause = 0 then 2 else 3) cause s)

theorem appDone_told {cause : Nat} {s : State} (hwf : RegsWf s) :
    (appDone cause s).reg Off.REC_APP_STATUS = cmdStatus (s.reg Off.REC_APP_STATUS) (if cause = 0 then 2 else 3) cause ∧ Raised Irq.REC_APP_DONE (appDone cause s) ∧
    (∀ {R b}, RegsOnly R b s → (∀ o ∈ [Off.REC_APP_STATUS], o ∈ R) → RegsOnly R b (appDone cause s)) ∧ OnlyIn [.regs, .icus] s (appDone cause s) :=
  ⟨reg_setReg_unmasked _ _ _ hwf (by decide), raised_raiseIrq _ _ (by decide), fun h hR => regs_via h hR fun _ h => regs_raiseIrq (regs_setReg h),
    only_raiseIrq (only_cmdResult only_refl)⟩

/-- The snapshot of an application record. -/
def appSnap (type : Nat) (s : State) : List Word := (s.profileOf type).elim [] s.snapshotOf

theorem exists_next_appRecord (s : State) (v : Word) (type n : Nat) (hwf : RegsWf s) (hruns : s.recRuns = true) (htype : type = fld v 0 16)
    (hn : n = fld (s.reg Off.REC_APP_LEN) 0 7) :
    (fld v 16 16 = 0x5243 → 0x8000 ≤ type → type ≤ 0xFEFF → n ≤ 108 → s.erec.queue.length < 64 →
      ∃ t q, exec (.appRecord v) s = .next t ∧ t.erec = { s.erec with queue := s.erec.queue ++ [q] } ∧ q.type = type ∧ q.items = [] ∧ q.app = s.appBytes n ∧ q.at_ = s.now ∧
        t.reg Off.REC_APP_STATUS = cmdStatus (s.reg Off.REC_APP_STATUS) 2 0 ∧ Raised Irq.REC_APP_DONE t ∧
        RegsOnly [Off.REC_APP_STATUS] s t ∧ OnlyIn [.regs, .icus, .erec] s t) ∧
    (∀ cause : Nat, (fld v 16 16 ≠ 0x5243 ∧ cause = 1 ∨ fld v 16 16 = 0x5243 ∧ (type < 0x8000 ∨ 0xFEFF < type) ∧ cause = 2 ∨
        fld v 16 16 = 0x5243 ∧ 0x8000 ≤ type ∧ type ≤ 0xFEFF ∧ 108 < n ∧ cause = 3) →
      ∃ t, exec (.appRecord v) s = .next t ∧ t.reg Off.REC_APP_STATUS = cmdStatus (s.reg Off.REC_APP_STATUS) 3 cause ∧ Raised Irq.REC_APP_DONE t ∧
        RegsOnly [Off.REC_APP_STATUS] s t ∧ OnlyIn [.regs, .icus] s t) ∧
    (fld v 16 16 = 0x5243 → 0x8000 ≤ type → type ≤ 0xFEFF → n ≤ 108 → 64 ≤ s.erec.queue.length →
      ∃ t, exec (.appRecord v) s = .next t ∧ t.erec = { s.erec with lost := true } ∧ t.reg Off.REC_LOST_CNT = s.reg Off.REC_LOST_CNT + 1 ∧
        t.reg Off.REC_APP_STATUS = cmdStatus (s.reg Off.REC_APP_STATUS) 3 4 ∧ Raised Irq.REC_APP_DONE t ∧
        RegsOnly [Off.REC_APP_STATUS, Off.REC_LOST_CNT] s t ∧ OnlyIn [.regs, .icus, .erec] s t) := by
  have hrec : s.recUp = true := by
    rw [State.recUp, Bool.and_comm]
    exact hruns
  have hexec : exec (.appRecord v) s = .next (appRecordOp v s) := congrArg Host.Outcome.next (if_pos hruns)
  have hreject : ∀ cause, cause ≠ 0 → appRecordOp v s = appDone cause s → ∃ t, exec (.appRecord v) s = .next t ∧ t.reg Off.REC_APP_STATUS = cmdStatus (s.reg Off.REC_APP_STATUS) 3 cause ∧
      Raised Irq.REC_APP_DONE t ∧ RegsOnly [Off.REC_APP_STATUS] s t ∧ OnlyIn [.regs, .icus] s t := fun cause hne hop => by
    obtain ⟨hreg, hraised, hregs, honly⟩ := appDone_told (cause := cause) hwf
    rw [if_neg hne] at hreg
    rw [hop] at hexec
    exact ⟨_, hexec, hreg, hraised, hregs regs_refl (fun _ h => h), honly⟩
  have hasked : fld v 16 16 = 0x5243 → 0x8000 ≤ type → type ≤ 0xFEFF → n ≤ 108 → ∃ q : RecReq, q.type = type ∧ q.items = [] ∧ q.app = s.appBytes n ∧ q.at_ = s.now ∧
      appRecordOp v s = appDone (if decide (64 ≤ s.erec.queue.length) then 4 else 0) (requestRec q s) := fun hkey hlo hhi hlen => by
    rw [htype] at hlo hhi
    rw [hn] at hlen
    rw [htype, hn]
    refine ⟨s.request (fld v 0 16) [] (s.appBytes (fld (s.reg Off.REC_APP_LEN) 0 7)) (appSnap (fld v 0 16) s), rfl, rfl, rfl, rfl, ?_⟩
    unfold appRecordOp
    dsimp only
    rw [if_neg (by simp [hkey]), if_neg (by simp; omega), if_neg (by omega), appSnap]
    cases s.profileOf (fld v 0 16) <;> rfl
  refine ⟨fun hkey hlo hhi hlen hroom => ?_, fun cause hc => ?_, fun hkey hlo hhi hlen hfull => ?_⟩
  · obtain ⟨q, hqtype, hqitems, hqapp, hqat, hop⟩ := hasked hkey hlo hhi hlen
    have hreq : requestRec q s = { s with erec := { s.erec with queue := s.erec.queue ++ [q] } } := by
      rw [requestRec, if_pos hrec, if_pos hroom]
    rw [hop, hreq, decide_eq_false (by omega)] at hexec
    obtain ⟨hreg, hraised, hregs, honly⟩ := appDone_told (cause := 0) (s := { s with erec := { s.erec with queue := s.erec.queue ++ [q] } }) (wf_mk hwf)
    exact ⟨_, q, hexec, honly.2 .erec (by decide), hqtype, hqitems, hqapp, hqat, hreg, hraised, hregs (regs_mk regs_refl) (fun _ h => h),
      onlyIn_trans (only_mk only_refl) (onlyIn_mono honly (by decide))⟩
  · obtain ⟨hkey, rfl⟩ | ⟨hkey, hrange, rfl⟩ | ⟨hkey, hlo, hhi, hlen, rfl⟩ := hc
    · exact hreject 1 (by decide) (if_pos (by simpa using hkey))
    · rw [htype] at hrange
      exact hreject 2 (by decide) ((if_neg (by simp [hkey])).trans (if_pos (by simpa using hrange)))
    · rw [htype] at hlo hhi
      rw [hn] at hlen
      exact hreject 3 (by decide) ((if_neg (by simp [hkey])).trans ((if_neg (by simp; omega)).trans (if_pos hlen)))
  · obtain ⟨q, _, _, _, _, hop⟩ := hasked hkey hlo hhi hlen
    obtain ⟨herec, hlost, _⟩ := requestRec_full q hwf hrec hfull
    have hwfq : RegsWf (requestRec q s) := wf_requestRec hwf
    have hregq : RegsOnly [Off.REC_LOST_CNT] s (requestRec q s) := regs_requestRec regs_refl
    rw [hop, decide_eq_true hfull] at hexec
    obtain ⟨hreg, hraised, hregs, honly⟩ := appDone_told (cause := 4) (s := requestRec q s) hwfq
    have hdone : RegsOnly [Off.REC_APP_STATUS] (requestRec q s) (appDone 4 (requestRec q s)) := hregs regs_refl fun _ h => h
    rw [hregq _ (by decide)] at hreg
    refine ⟨_, hexec, (honly.2 .erec (by decide)).trans herec, (hdone _ (by decide)).trans hlost, hreg, hraised, hregs (regs_requestRec regs_refl) (by decide), ?_⟩
    have hq : OnlyIn [.regs, .icus, .erec] s (requestRec q s) := by
      unfold requestRec
      rw [if_pos hrec]
      exact only_ite (only_mk only_refl) (only_ite (only_bump (only_mk only_refl)) (only_raiseIrq (only_bump (only_mk only_refl))))
    exact onlyIn_trans hq (onlyIn_mono honly (by decide))

/-! ### Reading a record (R504) -/

theorem recBytes_congr {s t : State} {kept : Bool} {r : Rec} (h : t.nv.nand.badCrc = s.nv.nand.badCrc) : t.recBytes kept r = s.recBytes kept r := by
  rw [State.recBytes, State.recBytes, h]

/-- The bytes that a read of the area has found, noted for the record where their CRC-32C fails. -/
def recLoaded (kept : Bool) (seq : Word) (bs : List Byte) (s : State) : State :=
  { s with
    erec := { s.erec with loaded := bs, loadBad := !crcHolds bs }
    nv := { s.nv with nand := { s.nv.nand with
      badCrc := if !crcHolds bs then (kept, seq, bs) :: s.nv.nand.badCrc.filter fun b => !(b.1 == kept && b.2.1 == seq)
        else s.nv.nand.badCrc.filter fun b => !(b.1 == kept && b.2.1 == seq) } } }

theorem recBytes_recLoaded {kept : Bool} {seq : Word} {bs : List Byte} {r : Rec} {s : State} (hseq : r.seq = seq) :
    (recLoaded kept seq bs s).recBytes kept r = if crcHolds bs then r.bytes else bs := by
  subst hseq
  rw [State.recBytes, recLoaded]
  cases crcHolds bs
  · simp
  · have hnone : (s.nv.nand.badCrc.filter fun b => !(b.1 == kept && b.2.1 == r.seq)).find? (fun b => b.1 == kept && b.2.1 == r.seq) = none := by
      rw [List.find?_eq_none]
      intro b hb
      simpa only [Bool.not_eq_true', Bool.not_eq_true] using (List.mem_filter.mp hb).2
    simp only [Bool.not_true, Bool.false_eq_true, if_false, if_true, hnone]
    rfl

theorem recLoaded_keeps {kept : Bool} {seq : Word} {bs : List Byte} {s : State} {b : Bool × Word × List Byte} (hb : b ∈ s.nv.nand.badCrc)
    (hother : b.1 ≠ kept ∨ b.2.1 ≠ seq) : b ∈ (recLoaded kept seq bs s).nv.nand.badCrc := by
  have hrest : b ∈ s.nv.nand.badCrc.filter fun b => !(b.1 == kept && b.2.1 == seq) := List.mem_filter.mpr ⟨hb, by
    rw [Bool.not_eq_true', Bool.and_eq_false_iff]
    simpa using hother⟩
  rw [recLoaded]
  dsimp only
  split
  · exact List.mem_cons_of_mem _ hrest
  · exact hrest

theorem exists_next_recordLoad (s : State) (seq : Word) (found : List Byte) (kept : Bool) (hwf : RegsWf s) (hruns : s.recRuns = true)
    (hkept : kept = bit (s.reg Off.REC_READ_SEL) 0) :
    (∀ r bs, s.recOf kept seq = some r → bs = (if found = [] then s.recBytes kept r else found) → ∃ t, exec (.recordLoad seq found) s = .next t ∧
      t.erec = { s.erec with loaded := bs, loadBad := !crcHolds bs } ∧ t.reg Off.REC_READ_SEQ = seq ∧
      t.reg Off.REC_READ_STATUS = mkWord [(0, 2), (2, b2n (!crcHolds bs)), (8, beAt bs 2 1)] ∧
      t.reg Off.REC_BAD_CRC_CNT = s.reg Off.REC_BAD_CRC_CNT + (if crcHolds bs then 0 else 1) ∧
      t.nv = { s.nv with nand := { s.nv.nand with badCrc := t.nv.nand.badCrc } } ∧
      (crcHolds bs = false → t.recBytes kept r = bs) ∧ (crcHolds bs = true → t.recBytes kept r = r.bytes) ∧
      (∀ b ∈ s.nv.nand.badCrc, b.1 ≠ kept ∨ b.2.1 ≠ seq → b ∈ t.nv.nand.badCrc) ∧
      RegsOnly [Off.REC_READ_SEQ, Off.REC_READ_STATUS, Off.REC_BAD_CRC_CNT] s t ∧ OnlyIn [.regs, .nv, .erec] s t) ∧
    (s.recOf kept seq = none → ∃ t, exec (.recordLoad seq found) s = .next t ∧ t.reg Off.REC_READ_SEQ = seq ∧
      t.reg Off.REC_READ_STATUS = 3 ∧ RegsOnly [Off.REC_READ_SEQ, Off.REC_READ_STATUS] s t ∧ OnlyIn [.regs] s t) := by
  have hset : RegsWf (setReg Off.REC_READ_SEQ seq s) ∧ (setReg Off.REC_READ_SEQ seq s).reg Off.REC_READ_SEQ = seq ∧
      kept = bit ((setReg Off.REC_READ_SEQ seq s).reg Off.REC_READ_SEL) 0 := by
    refine ⟨wf_setReg hwf, reg_setReg_unmasked _ _ _ hwf (by decide), ?_⟩
    rw [reg_setReg_ne _ _ _ _ (by decide)]
    exact hkept
  obtain ⟨hwfs, hseq, hsel⟩ := hset
  have hexec : exec (.recordLoad seq found) s = .next (recordLoadOp seq found s) := congrArg Host.Outcome.next (if_pos hruns)
  refine ⟨fun r bs hr hbs => ?_, fun hr => ?_⟩
  · have hop : recordLoadOp seq found s = when (!crcHolds bs) (bump Off.REC_BAD_CRC_CNT)
        (setReg Off.REC_READ_STATUS (mkWord [(0, 2), (2, b2n (!crcHolds bs)), (8, beAt bs 2 1)]) (recLoaded kept seq bs (setReg Off.REC_READ_SEQ seq s))) := by
      have hbs' : (if found.isEmpty then (setReg Off.REC_READ_SEQ seq s).recBytes kept r else found) = bs := by
        rw [hbs]
        simp only [List.isEmpty_iff]
        rfl
      have hr' : (setReg Off.REC_READ_SEQ seq s).recOf kept seq = some r := hr
      unfold recordLoadOp
      dsimp only
      rw [← hsel, hr']
      dsimp only
      rw [hbs']
      rfl
    have hseqr : r.seq = seq := by simpa using List.find?_some hr
    rw [hop] at hexec
    have hwfl : RegsWf (recLoaded kept seq bs (setReg Off.REC_READ_SEQ seq s)) := wf_mk hwfs
    generalize hw : setReg Off.REC_READ_STATUS (mkWord [(0, 2), (2, b2n (!crcHolds bs)), (8, beAt bs 2 1)]) (recLoaded kept seq bs (setReg Off.REC_READ_SEQ seq s)) = w at hexec
    have hwStatus : w.reg Off.REC_READ_STATUS = mkWord [(0, 2), (2, b2n (!crcHolds bs)), (8, beAt bs 2 1)] := by
      rw [← hw, reg_setReg_unmasked _ _ _ hwfl (by decide)]
    have hwRegs : RegsOnly [Off.REC_READ_STATUS] (setReg Off.REC_READ_SEQ seq s) w := by
      rw [← hw]
      exact regs_setReg (regs_mk regs_refl)
    have hwOnly : OnlyIn [.regs] (recLoaded kept seq bs (setReg Off.REC_READ_SEQ seq s)) w := by
      rw [← hw]
      exact only_setReg only_refl
    have hwWf : RegsWf w := by
      rw [← hw]
      exact wf_setReg hwfl
    have hbad : OnlyIn [.regs] w (when (!crcHolds bs) (bump Off.REC_BAD_CRC_CNT) w) := only_when only_bump only_refl
    have hbadRegs : RegsOnly [Off.REC_BAD_CRC_CNT] w (when (!crcHolds bs) (bump Off.REC_BAD_CRC_CNT) w) := regs_when regs_bump regs_refl
    have hnv : (when (!crcHolds bs) (bump Off.REC_BAD_CRC_CNT) w).nv = (recLoaded kept seq bs (setReg Off.REC_READ_SEQ seq s)).nv :=
      (hbad.2 .nv (by decide)).trans (hwOnly.2 .nv (by decide))
    refine ⟨_, hexec, (hbad.2 .erec (by decide)).trans (hwOnly.2 .erec (by decide)), ?_, ?_, ?_, ?_, fun h => ?_, fun h => ?_, fun b hb hother => ?_, ?_, ?_⟩
    · rw [hbadRegs _ (by decide), hwRegs _ (by decide), hseq]
    · rw [hbadRegs _ (by decide), hwStatus]
    · have hcount : w.reg Off.REC_BAD_CRC_CNT = s.reg Off.REC_BAD_CRC_CNT := (hwRegs _ (by decide)).trans (reg_setReg_ne _ _ _ _ (by decide))
      cases crcHolds bs
      · exact (reg_bump_unmasked _ _ hwWf (by decide)).trans (congrArg (· + 1) hcount)
      · exact hcount.trans (BitVec.add_zero _).symm
    · rw [hnv]
      rfl
    · rw [recBytes_congr (congrArg (fun x => x.nand.badCrc) hnv), recBytes_recLoaded hseqr, h]
      rfl
    · rw [recBytes_congr (congrArg (fun x => x.nand.badCrc) hnv), recBytes_recLoaded hseqr, h]
      rfl
    · rw [hnv]
      exact recLoaded_keeps hb hother
    · exact regs_when regs_bump (regs_via (regs_setReg regs_refl : RegsOnly _ s (setReg Off.REC_READ_SEQ seq s)) (by decide) fun _ h => regsOnly_trans h hwRegs)
    · exact onlyIn_trans (onlyIn_trans (only_mk (only_setReg only_refl)) (onlyIn_mono hwOnly (by decide))) (onlyIn_mono hbad (by decide))
  · have hop : recordLoadOp seq found s = setReg Off.REC_READ_STATUS 3 (setReg Off.REC_READ_SEQ seq s) := by
      have hr' : (setReg Off.REC_READ_SEQ seq s).recOf kept seq = none := hr
      unfold recordLoadOp
      dsimp only
      rw [← hsel, hr']
    rw [hop] at hexec
    refine ⟨_, hexec, (reg_setReg_ne _ _ _ _ (by decide)).trans hseq, ?_, regs_setReg (regs_setReg regs_refl), only_setReg (only_setReg only_refl)⟩
    rw [reg_setReg_self _ _ _ hwfs]
    decide

/-- Settles O52, command by command. -/
theorem records : Obligations.Records :=
  ⟨exists_next_recordRequest, exists_next_recordAccept, exists_next_pageCommit, exists_next_recReady, exists_next_appRecord, exists_next_recordLoad⟩

end Sys2Proof.Machine

namespace Sys2Proof.Machine

set_option Elab.async false

/-! ### The snapshot (R544) -/

theorem length_beBytes (n v : Nat) : (beBytes n v).length = n := by
  induction n with
  | zero => rfl
  | succ n ih => exact congrArg (· + 1) ih

theorem telemetry_length (s : State) : s.telemetry.length = 64 := by
  unfold State.telemetry
  dsimp only
  repeat rw [List.length_append]
  repeat rw [length_beBytes]

/-- The first 18 bytes of a snapshot: its number, the seconds of operation, the time and what was measured. -/
theorem telemetry_front (s : State) : s.telemetry.take 18 =
    beBytes 4 s.tlm.pubSeq.toNat ++ beBytes 4 s.nv.opSeconds.toNat ++ beBytes 4 (ctime s.tb0).toNat ++ beBytes 2 (code 16 s.tlm.temp) ++
      beBytes 2 (s.tlm.vin % 65536) ++ beBytes 2 (s.tlm.power % 65536) := by
  unfold State.telemetry
  dsimp only
  repeat rw [List.take_append_of_le_length (by simp only [List.length_append, length_beBytes]; decide)]
  exact List.take_of_length_le (by simp only [List.length_append, length_beBytes]; decide)

theorem beBytes_two_mod (v : Nat) : beBytes 2 (v % 65536) = beBytes 2 v := by
  have hbyte : ∀ k, k < 2 → BitVec.ofNat 8 ((v % 65536) >>> (8 * k)) = BitVec.ofNat 8 (v >>> (8 * k)) := by
    intro k hk
    apply BitVec.eq_of_toNat_eq
    simp only [BitVec.toNat_ofNat, Nat.shiftRight_eq_div_pow]
    interval_cases k <;> omega
  simp only [beBytes, hbyte 1 (by decide), hbyte 0 (by decide)]

theorem slice_of_take {bs : List Byte} (o n m : Nat) (h : o + n ≤ m) : slice bs o n = slice (bs.take m) o n := by
  rw [slice, slice, List.drop_take, List.take_take, Nat.min_eq_left (by omega)]

theorem telemetry_pubSeq (s : State) : s.telemetry.take 4 = beBytes 4 s.tlm.pubSeq.toNat := by
  have h := slice_of_take (bs := s.telemetry) 0 4 18 (by decide)
  rw [telemetry_front, List.append_assoc, List.append_assoc, List.append_assoc, List.append_assoc] at h
  exact h.trans (List.take_left' (length_beBytes _ _))

theorem telemetry_opSeconds (s : State) : slice s.telemetry 4 4 = beBytes 4 s.nv.opSeconds.toNat := by
  rw [slice_of_take 4 4 18 (by decide), telemetry_front, List.append_assoc, List.append_assoc, List.append_assoc, List.append_assoc, slice,
    List.drop_left' (length_beBytes _ _)]
  exact List.take_left' (length_beBytes _ _)

theorem telemetry_measured (s : State) : slice s.telemetry 12 6 = beBytes 2 (code 16 s.tlm.temp) ++ beBytes 2 s.tlm.vin ++ beBytes 2 s.tlm.power := by
  rw [slice_of_take 12 6 18 (by decide), telemetry_front, List.append_assoc, List.append_assoc, slice, beBytes_two_mod, beBytes_two_mod,
    List.drop_left' (by rw [List.length_append, List.length_append, length_beBytes, length_beBytes, length_beBytes]), ← List.append_assoc]
  exact List.take_of_length_le (by rw [List.length_append, List.length_append, length_beBytes, length_beBytes, length_beBytes])

/-- The measurement of a second. -/
def tlmMeasured (hot wall : Int) (vin power : Nat) (warn : Bool) (u : State) : State :=
  { u with tlm := { u.tlm with
      temp := hot, vin := vin, power := power, pubSeq := u.tlm.pubSeq + 1, tempWarn := warn
      excursion := u.tlm.excursion.map fun e => (e.1, max e.2.1 wall, e.2.2)
      hotAt := if 1100 ≤ hot then some (u.tlm.hotAt.getD u.now) else none } }

/-- The warning of a temperature. -/
def tlmWarned (hot : Int) (s : State) : State := record 0x0E04 [⟨1, 7, beBytes 2 (code 16 hot)⟩] (raiseIrq Irq.TLM_TEMP_WARN s)

/-- The publication of a snapshot. -/
def tlmPublished (v : State) : State := raiseIrq Irq.TLM_PUBLISHED { v with tlm := { v.tlm with snapshot := v.telemetry } }

theorem toTb2_parts (n : Nat) (s : State) : OnlyIn [.now, .isl, .time, .nv] s (toTb2 n s) := only_toTb2 only_refl

theorem recUp_toTb2 (n : Nat) (s : State) : (toTb2 n s).recUp = s.recUp := by
  have hsys : (toTb2 n s).sys = s.sys := (toTb2_parts n s).2 .sys (by decide)
  have herec : (toTb2 n s).erec = s.erec := (toTb2_parts n s).2 .erec (by decide)
  have hpowered : (toTb2 n s).isl.powered = s.isl.powered := by
    unfold toTb2 advance
    dsimp only
    split
    · rfl
    · split <;> rfl
  unfold State.recUp State.up State.hubOn
  rw [hsys, herec, hpowered]

theorem exists_next_telemetrySnapshot (s u : State) (t0 : Int) (ts : List Int) (vin power : Nat) (hot wall : Int) (warn : Bool) (hup : s.up = true)
    (hmode : 4 ≤ s.sys.mode.code) (hu : u = toTb2 ((s.time.tb2.ns / 1000000000 + 1) * 1000000000 * nsUnit) s) (hhot : hot = ts.foldl max t0)
    (hwall : wall = ((t0 :: ts).take 2).foldl max t0) (hwarn : warn = decide (10 * (fld (s.reg Off.TLM_CFG) 0 8 : Int) < hot)) :
    ∃ t, exec (.telemetrySnapshot (t0 :: ts) vin power) s = .next t ∧ t.now = u.now ∧
      t.tlm.pubSeq = s.tlm.pubSeq + 1 ∧ t.tlm.temp = hot ∧ t.tlm.vin = vin ∧ t.tlm.power = power ∧ t.tlm.tempWarn = warn ∧
      t.tlm.excursion = s.tlm.excursion.map (fun e => (e.1, max e.2.1 wall, e.2.2)) ∧
      t.tlm.hotAt = (if 1100 ≤ hot then some (s.tlm.hotAt.getD u.now) else none) ∧ PassTold 9 s t ∧ Raised Irq.TLM_PUBLISHED t ∧
      (warn = true → s.tlm.tempWarn = false → Raised Irq.TLM_TEMP_WARN t ∧ InQueue 0x0E04 [⟨1, 7, beBytes 2 (code 16 hot)⟩] s t) ∧
      (warn = false ∨ s.tlm.tempWarn = true → t.erec = s.erec) ∧
      t.tlm.snapshot.length = 64 ∧ t.tlm.snapshot.take 4 = beBytes 4 (s.tlm.pubSeq + 1).toNat ∧ slice t.tlm.snapshot 4 4 = beBytes 4 t.nv.opSeconds.toNat ∧
      slice t.tlm.snapshot 12 6 = beBytes 2 (code 16 hot) ++ beBytes 2 vin ++ beBytes 2 power ∧
      RegsOnly [Off.REC_LOST_CNT] s t ∧ OnlyIn (.tlm :: recParts) u t := by
  have hlater : OnlyIn [.now, .isl, .time, .nv] s u := by
    rw [hu]
    exact toTb2_parts _ s
  have htlmu : u.tlm = s.tlm := hlater.2 .tlm (by decide)
  have herecu : u.erec = s.erec := hlater.2 .erec (by decide)
  have hrecUp : u.recUp = s.recUp := by
    rw [hu]
    exact recUp_toTb2 _ s
  have hexec : exec (.telemetrySnapshot (t0 :: ts) vin power) s =
      .next (tlmPublished (when (warn && !s.tlm.tempWarn) (tlmWarned hot) (passDone 9 (tlmMeasured hot wall vin power warn u)))) := by
    rw [hhot, hwall, hwarn, hhot, hu]
    exact congrArg Host.Outcome.next (if_pos (by simp [hup, hmode]))
  have htold : PassTold 9 s (passDone 9 (tlmMeasured hot wall vin power warn u)) := by
    refine passTold_passDone (s' := tlmMeasured hot wall vin power warn u) ?_ ?_
    · show u.tlm.late = _
      rw [htlmu]
    · show u.tlm.latePass = _
      rw [htlmu]
  have htlm := passDone_tlm 9 (tlmMeasured hot wall vin power warn u)
  have hpassed : OnlyIn [.tlm] u (passDone 9 (tlmMeasured hot wall vin power warn u)) := only_passDone (only_mk only_refl)
  generalize passDone 9 (tlmMeasured hot wall vin power warn u) = v at hexec htold htlm hpassed
  have hwarn1 : OnlyIn recParts v (tlmWarned hot v) := only_record (only_raiseIrq only_refl)
  have hwarnRegs : RegsOnly [Off.REC_LOST_CNT] v (tlmWarned hot v) := regs_record (regs_raiseIrq regs_refl)
  have hwarned : OnlyIn recParts v (when (warn && !s.tlm.tempWarn) (tlmWarned hot) v) := only_ite hwarn1 only_refl
  have hwarnedRegs : RegsOnly [Off.REC_LOST_CNT] v (when (warn && !s.tlm.tempWarn) (tlmWarned hot) v) := regs_ite hwarnRegs regs_refl
  have htell : warn = true → s.tlm.tempWarn = false → Raised Irq.TLM_TEMP_WARN (when (warn && !s.tlm.tempWarn) (tlmWarned hot) v) ∧
      InQueue 0x0E04 [⟨1, 7, beBytes 2 (code 16 hot)⟩] s (when (warn && !s.tlm.tempWarn) (tlmWarned hot) v) := by
    intro h1 h2
    rw [h1, h2]
    refine ⟨raised_record (raised_raiseIrq _ _ (by decide)), ?_⟩
    have hrec : Recorded 0x0E04 [⟨1, 7, beBytes 2 (code 16 hot)⟩] u (tlmWarned hot v) :=
      recorded_record_of (onlyIn_trans (onlyIn_mono hpassed (by decide) : OnlyIn [.tlm, .icus] u v) (only_raiseIrq only_refl))
    intro hsup hlen
    obtain ⟨q, hq, htype, hitems, _, _⟩ := hrec.1 (hrecUp.trans hsup) (by rw [herecu]; omega)
    refine ⟨q, ?_, htype, hitems⟩
    show q ∈ (tlmWarned hot v).erec.queue
    rw [hq]
    exact List.mem_append_right _ (List.mem_singleton_self q)
  have hquiet : warn = false ∨ s.tlm.tempWarn = true → when (warn && !s.tlm.tempWarn) (tlmWarned hot) v = v := by
    rintro (h | h)
    · rw [h]
      rfl
    · rw [h, Bool.not_true, Bool.and_false]
      rfl
  generalize when (warn && !s.tlm.tempWarn) (tlmWarned hot) v = w at hexec hwarned hwarnedRegs htell hquiet
  have hpub : OnlyIn [.tlm, .icus] w (tlmPublished w) := only_raiseIrq (only_mk only_refl)
  have htlmw : w.tlm = v.tlm := hwarned.2 .tlm (by decide)
  have htlmt : (tlmPublished w).tlm = { v.tlm with snapshot := w.telemetry } := by
    have hraise : OnlyIn [.icus] { w with tlm := { w.tlm with snapshot := w.telemetry } } (tlmPublished w) := only_raiseIrq only_refl
    rw [← htlmw]
    exact hraise.2 .tlm (by decide)
  have herect : (tlmPublished w).erec = w.erec := hpub.2 .erec (by decide)
  have hmeasured : (tlmPublished w).tlm.pubSeq = s.tlm.pubSeq + 1 ∧ (tlmPublished w).tlm.temp = hot ∧ (tlmPublished w).tlm.vin = vin ∧
      (tlmPublished w).tlm.power = power ∧ (tlmPublished w).tlm.tempWarn = warn ∧
      (tlmPublished w).tlm.excursion = s.tlm.excursion.map (fun e => (e.1, max e.2.1 wall, e.2.2)) ∧
      (tlmPublished w).tlm.hotAt = (if 1100 ≤ hot then some (s.tlm.hotAt.getD u.now) else none) := by
    rw [htlmt, htlm, ← htlmu]
    exact ⟨rfl, rfl, rfl, rfl, rfl, rfl, rfl⟩
  obtain ⟨hpubSeq, htemp, hvin, hpower, htempWarn, hexcursion, hhotAt⟩ := hmeasured
  have hsnapshot : (tlmPublished w).tlm.snapshot = w.telemetry := by rw [htlmt]
  have hseqw : w.tlm.pubSeq = s.tlm.pubSeq + 1 := by
    rw [← hpubSeq, htlmt, htlmw]
  have hfields : w.tlm.temp = hot ∧ w.tlm.vin = vin ∧ w.tlm.power = power := by
    rw [← htemp, ← hvin, ← hpower, htlmt, htlmw]
    exact ⟨rfl, rfl, rfl⟩
  obtain ⟨htempw, hvinw, hpowerw⟩ := hfields
  have hnow : (tlmPublished w).now = u.now := (hpub.2 .now (by decide)).trans ((hwarned.2 .now (by decide)).trans (hpassed.2 .now (by decide)))
  have hnv : (tlmPublished w).nv = w.nv := hpub.2 .nv (by decide)
  refine ⟨_, hexec, hnow, hpubSeq, htemp, hvin, hpower, htempWarn, hexcursion, hhotAt, ?_, raised_raiseIrq _ _ (by decide), fun h1 h2 => ?_, fun h => ?_, ?_, ?_, ?_, ?_, ?_, ?_⟩
  · rw [PassTold, htlmt]
    exact htold
  · obtain ⟨hraised, hqueue⟩ := htell h1 h2
    exact ⟨raised_raiseIrq_too (raised_mk hraised), inQueue_of_queue hqueue (congrArg Recorder.queue herect)⟩
  · rw [herect, hquiet h]
    exact (hpassed.2 .erec (by decide)).trans herecu
  · rw [hsnapshot]
    exact telemetry_length w
  · rw [hsnapshot, telemetry_pubSeq, hseqw]
  · rw [hsnapshot, telemetry_opSeconds, hnv]
  · rw [hsnapshot, telemetry_measured, htempw, hvinw, hpowerw]
  · exact regs_of_only (regsOnly_trans (regs_of_only (regs_of_only regs_refl hlater) hpassed) hwarnedRegs) hpub
  · exact onlyIn_trans (onlyIn_mono hpassed (by decide)) (onlyIn_trans (onlyIn_mono hwarned (by decide)) (onlyIn_mono hpub (by decide)))

/-! ### Link margins -/

/-- The margin of a port and whether it is low. -/
def marginNoted (p : Nat) (m : Int) (low : List (Option Nat)) (warn : Bool) (s : State) : State :=
  { s with tlm := { s.tlm with margins := s.tlm.margins.set p (satSigned 16 m), lowSince := low, marginWarn := warn } }

/-- The warning of a margin. -/
def marginTold (p : Nat) (s : State) : State :=
  record 0x0E02 [iU8 1 p, ⟨2, 7, beBytes 2 (code 16 (s.tlm.margins.getD p 0))⟩] (raiseIrq Irq.TLM_MARGIN_WARN (bump Off.TLM_MARGIN_WARN_CNT s))

theorem any_decide_iff (o : Option Nat) (c : Bool) (p : Nat → Prop) [DecidablePred p] :
    (c && o.any fun x => decide (p x)) = true ↔ ∃ x, o = some x ∧ c = true ∧ p x := by
  cases o <;> simp

/-- A port used and low for 10 s. -/
def lowPort (s : State) (low : List (Option Nat)) (q : Nat) : Bool := s.portUsed q && (low.getD q none).any fun x => decide (x + 10000000000 ≤ s.now)

theorem lowPort_iff {s : State} {low : List (Option Nat)} {q : Nat} :
    lowPort s low q = true ↔ ∃ x, low.getD q none = some x ∧ s.portUsed q = true ∧ x + 10000000000 ≤ s.now :=
  any_decide_iff (low.getD q none) (s.portUsed q) fun x => x + 10000000000 ≤ s.now

theorem portLow_eq (s : State) : s.portLow = lowPort s s.tlm.lowSince := by
  funext q
  delta State.portLow lowPort
  generalize s.tlm.lowSince.getD q none = o
  cases o with
  | none => exact (Bool.and_false _).symm
  | some x => exact (congrArg (s.portUsed q && ·) Option.any_some).symm

theorem lowPort_of_tlm (s : State) (x : Tlm) (low : List (Option Nat)) : lowPort { s with tlm := x } low = lowPort s low := by
  funext q
  rfl

theorem marginCheck_eq (p : Nat) (m : Int) (s : State) (low : List (Option Nat)) (first : Option Nat)
    (hlow : low = s.tlm.lowSince.set p (if m < (fld (s.reg Off.TLM_CFG) 8 8 : Int) then some ((s.tlm.lowSince.getD p none).getD s.now) else none))
    (hfirst : first = (List.range 22).find? (lowPort s low)) :
    marginCheck p m s = when (first.isSome && !s.tlm.marginWarn) (marginTold (first.getD p)) (portRead p (marginNoted p m low first.isSome s)) := by
  unfold marginCheck
  dsimp only
  rw [portLow_eq, lowPort_of_tlm]
  simp only [decide_eq_true_eq]
  rw [← hlow, ← hfirst]
  rfl

theorem portRead_all {p : Nat} {s : State} (h : ∀ q, q < 22 → s.portUsed q = true → (s.tlm.portSeen ||| 1#22 <<< p).getLsbD q = true) :
    portRead p s = passDone 7 { s with tlm := { s.tlm with portSeen := 0 } } := by
  refine if_pos (List.all_eq_true.mpr fun q hq => ?_)
  have := h q (List.mem_range.mp hq)
  cases hused : s.portUsed q
  · rfl
  · simpa using this hused

theorem portRead_some {p q : Nat} {s : State} (hq : q < 22) (hused : s.portUsed q = true) (h : (s.tlm.portSeen ||| 1#22 <<< p).getLsbD q = false) :
    portRead p s = { s with tlm := { s.tlm with portSeen := s.tlm.portSeen ||| 1#22 <<< p } } := by
  refine if_neg fun hall => ?_
  have := List.all_eq_true.mp hall q (List.mem_range.mpr hq)
  rw [hused, h] at this
  exact absurd this (by decide)

theorem portRead_tlm (p : Nat) (s : State) : (portRead p s).tlm = { s.tlm with
    late := (portRead p s).tlm.late, latePass := (portRead p s).tlm.latePass, portSeen := (portRead p s).tlm.portSeen, periodAt := (portRead p s).tlm.periodAt } := by
  unfold portRead
  dsimp only
  split
  · rw [passDone_tlm]
  · rfl

theorem exists_next_linkMarginCheck (s : State) (p pp : Nat) (m : Int) (since : Option Nat) (low : List (Option Nat)) (seen : BitVec 22) (hwf : RegsWf s)
    (hup : s.up = true) (hused : s.portUsed p = true)
    (hsince : since = (if m < (fld (s.reg Off.TLM_CFG) 8 8 : Int) then some ((s.tlm.lowSince.getD p none).getD s.now) else none))
    (hlow : low = s.tlm.lowSince.set p since) (hseen : seen = s.tlm.portSeen ||| 1#22 <<< p)
    (hpp : pp = ((List.range 22).find? fun q => s.portUsed q && (low.getD q none).any fun x => decide (x + 10000000000 ≤ s.now)).getD p) :
    ∃ t, exec (.linkMarginCheck p m) s = .next t ∧ t.tlm.margins = s.tlm.margins.set p (satSigned 16 m) ∧ t.tlm.lowSince = low ∧
      (t.tlm.marginWarn = true ↔ ∃ q x, q < 22 ∧ low.getD q none = some x ∧ s.portUsed q = true ∧ x + 10000000000 ≤ s.now) ∧
      ((∀ q, q < 22 → s.portUsed q = true → seen.getLsbD q = true) → PassTold 7 s t ∧ t.tlm.portSeen = 0) ∧
      ((∃ q, q < 22 ∧ s.portUsed q = true ∧ seen.getLsbD q = false) → t.tlm.portSeen = seen ∧ t.tlm.late = s.tlm.late ∧ t.tlm.latePass = s.tlm.latePass) ∧
      t.tlm = { s.tlm with margins := t.tlm.margins, lowSince := low, marginWarn := t.tlm.marginWarn, late := t.tlm.late, latePass := t.tlm.latePass, portSeen := t.tlm.portSeen, periodAt := t.tlm.periodAt } ∧
      (t.tlm.marginWarn = true → s.tlm.marginWarn = false → t.reg Off.TLM_MARGIN_WARN_CNT = s.reg Off.TLM_MARGIN_WARN_CNT + 1 ∧ Raised Irq.TLM_MARGIN_WARN t ∧
        Recorded 0x0E02 [iU8 1 pp, ⟨2, 7, beBytes 2 (code 16 (t.tlm.margins.getD pp 0))⟩] s t) ∧
      (t.tlm.marginWarn = false ∨ s.tlm.marginWarn = true → t.regs = s.regs ∧ t.icus = s.icus ∧ t.erec = s.erec ∧ t.isl = s.isl) ∧
      RegsOnly [Off.TLM_MARGIN_WARN_CNT, Off.REC_LOST_CNT] s t ∧ OnlyIn (.tlm :: recParts) s t := by
  subst hsince
  obtain ⟨first, hfirst⟩ : ∃ first, first = (List.range 22).find? (lowPort s low) := ⟨_, rfl⟩
  have hppf : pp = first.getD p := by rw [hpp, hfirst]; rfl
  have hexec : exec (.linkMarginCheck p m) s = .next (when (first.isSome && !s.tlm.marginWarn) (marginTold pp) (portRead p (marginNoted p m low first.isSome s))) := by
    rw [hppf, ← marginCheck_eq p m s low first hlow hfirst]
    exact congrArg Host.Outcome.next (if_pos (by simp [hup, hused]))
  have hwarn : first.isSome = true ↔ ∃ q x, q < 22 ∧ low.getD q none = some x ∧ s.portUsed q = true ∧ x + 10000000000 ≤ s.now := by
    rw [hfirst, List.find?_isSome]
    constructor
    · rintro ⟨q, hq, h⟩
      obtain ⟨x, hx⟩ := lowPort_iff.mp h
      exact ⟨q, x, List.mem_range.mp hq, hx⟩
    · rintro ⟨q, x, hq, hx⟩
      exact ⟨q, List.mem_range.mpr hq, lowPort_iff.mpr ⟨x, hx⟩⟩
  have htlm := portRead_tlm p (marginNoted p m low first.isSome s)
  have hall : (∀ q, q < 22 → s.portUsed q = true → seen.getLsbD q = true) → PassTold 7 s (portRead p (marginNoted p m low first.isSome s)) ∧
      (portRead p (marginNoted p m low first.isSome s)).tlm.portSeen = 0 := by
    intro h
    rw [portRead_all (s := marginNoted p m low first.isSome s) (by rw [hseen] at h; exact h)]
    exact ⟨passTold_passDone rfl rfl, by rw [passDone_tlm]⟩
  have hsome : (∃ q, q < 22 ∧ s.portUsed q = true ∧ seen.getLsbD q = false) → (portRead p (marginNoted p m low first.isSome s)).tlm.portSeen = seen ∧
      (portRead p (marginNoted p m low first.isSome s)).tlm.late = s.tlm.late ∧ (portRead p (marginNoted p m low first.isSome s)).tlm.latePass = s.tlm.latePass := by
    rintro ⟨q, hq, hqused, hqseen⟩
    rw [portRead_some (s := marginNoted p m low first.isSome s) hq hqused (by rw [hseen] at hqseen; exact hqseen), hseen]
    exact ⟨rfl, rfl, rfl⟩
  have hread : OnlyIn [.tlm] s (portRead p (marginNoted p m low first.isSome s)) := only_portRead (only_mk only_refl)
  have hfields : (portRead p (marginNoted p m low first.isSome s)).tlm.margins = s.tlm.margins.set p (satSigned 16 m) ∧
      (portRead p (marginNoted p m low first.isSome s)).tlm.lowSince = low ∧ (portRead p (marginNoted p m low first.isSome s)).tlm.marginWarn = first.isSome := by
    rw [htlm]
    exact ⟨rfl, rfl, rfl⟩
  have hrest : (portRead p (marginNoted p m low first.isSome s)).tlm = { s.tlm with
      margins := (portRead p (marginNoted p m low first.isSome s)).tlm.margins, lowSince := low
      marginWarn := (portRead p (marginNoted p m low first.isSome s)).tlm.marginWarn, late := (portRead p (marginNoted p m low first.isSome s)).tlm.late
      latePass := (portRead p (marginNoted p m low first.isSome s)).tlm.latePass, portSeen := (portRead p (marginNoted p m low first.isSome s)).tlm.portSeen
      periodAt := (portRead p (marginNoted p m low first.isSome s)).tlm.periodAt } := by
    rw [hfields.1, hfields.2.2]
    exact htlm
  obtain ⟨hmargins, hlows, hwarns⟩ := hfields
  generalize portRead p (marginNoted p m low first.isSome s) = v at *
  have htold : OnlyIn recParts v (marginTold pp v) := only_record (only_raiseIrq (only_bump only_refl))
  have htoldRegs : RegsOnly [Off.TLM_MARGIN_WARN_CNT, Off.REC_LOST_CNT] v (marginTold pp v) := regs_record (regs_raiseIrq (regs_bump regs_refl))
  have hwhen : OnlyIn recParts v (when (first.isSome && !s.tlm.marginWarn) (marginTold pp) v) := only_ite htold only_refl
  have htlmt : (when (first.isSome && !s.tlm.marginWarn) (marginTold pp) v).tlm = v.tlm := hwhen.2 .tlm (by decide)
  refine ⟨_, hexec, ?_⟩
  rw [PassTold, htlmt]
  refine ⟨hmargins, hlows, by rw [hwarns]; exact hwarn, hall, hsome, hrest, fun h1 h2 => ?_, fun h => ?_, ?_, ?_⟩
  · rw [hwarns] at h1
    rw [h1, h2]
    have hbumped : RegsOnly [Off.REC_LOST_CNT] (bump Off.TLM_MARGIN_WARN_CNT v) (marginTold pp v) := regs_record (regs_raiseIrq regs_refl)
    refine ⟨?_, raised_record (raised_raiseIrq _ _ (by decide)), ?_⟩
    · exact (hbumped _ (by decide)).trans ((reg_bump_unmasked _ _ (regsWf_of_only hwf hread) (by decide)).trans (congrArg (· + 1) (reg_of_only _ hread)))
    · exact recorded_record_of (onlyIn_trans (onlyIn_mono hread (by decide) : OnlyIn [.tlm, .regs, .icus] s v) (only_raiseIrq (only_bump only_refl)))
  · have hnone : when (first.isSome && !s.tlm.marginWarn) (marginTold pp) v = v := by
      rcases h with h | h
      · rw [← hwarns, h]
        rfl
      · rw [h, Bool.not_true, Bool.and_false]
        rfl
    rw [hnone]
    exact ⟨hread.2 .regs (by decide), hread.2 .icus (by decide), hread.2 .erec (by decide), hread.2 .isl (by decide)⟩
  · exact regsOnly_trans (regs_of_only regs_refl hread) (regs_ite htoldRegs regs_refl)
  · exact onlyIn_trans (onlyIn_mono hread (by decide)) (onlyIn_mono hwhen (by decide))

/-! ### Temperatures (R580) -/

theorem exists_next_tempExcursionBegin (s : State) (edge : Int) (hpowered : s.isl.powered = true) (hnone : s.tlm.excursion = none) (hedge : 800 < edge) :
    ∃ t, exec (.tempExcursionBegin edge) s = .next t ∧ t.tlm = { s.tlm with excursion := some (s.now, edge, false) } ∧ OnlyIn [.tlm] s t :=
  ⟨_, congrArg Host.Outcome.next (if_pos (by simp [hpowered, hnone, hedge])), rfl, only_mk only_refl⟩

/-- The record at the limit of an excursion (R580). -/
def tempLimited (e : Nat × Int × Bool) (u : State) : State := tempRecord e.1 e.2.1 { u with tlm := { u.tlm with excursion := some (e.1, e.2.1, true) } }

theorem tempLimited_told (n : Nat) (e : Nat × Int × Bool) (s : State) : (tempLimited e (advanceTo n s)).now = max s.now n ∧
    (tempLimited e (advanceTo n s)).tlm = { s.tlm with excursion := some (e.1, e.2.1, true) } ∧
    InQueue 0x0105 [iU32 1 (((tempLimited e (advanceTo n s)).now - e.1) / 1000000000), ⟨2, 7, beBytes 2 (code 16 e.2.1)⟩] s (tempLimited e (advanceTo n s)) ∧
    RegsOnly [Off.REC_LOST_CNT] s (tempLimited e (advanceTo n s)) ∧ OnlyIn (.now :: .nv :: .time :: .tlm :: recParts) s (tempLimited e (advanceTo n s)) := by
  have hlater : OnlyIn [.now, .isl, .time, .nv] s (advanceTo n s) := only_advanceTo only_refl
  have hqueue : ∀ t, Recorded 0x0105 [iU32 1 (((advanceTo n s).now - e.1) / 1000000000), ⟨2, 7, beBytes 2 (code 16 e.2.1)⟩] (advanceTo n s) t →
      InQueue 0x0105 [iU32 1 (((advanceTo n s).now - e.1) / 1000000000), ⟨2, 7, beBytes 2 (code 16 e.2.1)⟩] s t := fun _ => inQueue_of_recorded_later
  have htlmu : (advanceTo n s).tlm = s.tlm := hlater.2 .tlm (by decide)
  rw [← now_advanceTo]
  generalize advanceTo n s = u at hlater hqueue htlmu ⊢
  have hnoted : OnlyIn [.tlm] u { u with tlm := { u.tlm with excursion := some (e.1, e.2.1, true) } } := only_mk only_refl
  have hrec : OnlyIn recParts { u with tlm := { u.tlm with excursion := some (e.1, e.2.1, true) } } (tempLimited e u) := only_record only_refl
  have hnow : (tempLimited e u).now = u.now := hrec.2 .now (by decide)
  refine ⟨hnow, ?_, ?_, regs_record (regs_mk (regs_of_only regs_refl hlater)), ?_⟩
  · rw [← htlmu]
    exact hrec.2 .tlm (by decide)
  · rw [hnow]
    exact hqueue _ (recorded_record_of hnoted)
  · exact onlyIn_trans (onlyIn_mono hlater (by decide)) (onlyIn_trans (onlyIn_mono hnoted (by decide)) (onlyIn_mono hrec (by decide)))

theorem exec_tempExcursionLimit {s : State} {e : Nat × Int × Bool} (hexc : s.tlm.excursion = some e) :
    exec .tempExcursionLimit s = .next (if Config.gradeAX && !e.2.2 then tempLimited e (advanceTo (e.1 + 600000000000) s) else s) := by
  show execTempExcursionLimit s = _
  delta execTempExcursionLimit tempLimited
  rw [hexc]

theorem exec_tempExcursionEnd {s : State} {e : Nat × Int × Bool} (edge : Int) (hexc : s.tlm.excursion = some e) : exec (.tempExcursionEnd edge) s =
    .next (when (decide (edge ≤ 800)) (fun s => tempRecord e.1 e.2.1 { s with tlm := { s.tlm with excursion := none } }) s) := by
  show execTempExcursionEnd edge s = _
  delta execTempExcursionEnd
  rw [hexc]

theorem exists_next_tempExcursion (s : State) (start : Nat) (peak edge : Int) (marked : Bool) (hexc : s.tlm.excursion = some (start, peak, marked)) :
    (edge ≤ 800 → ∃ t, exec (.tempExcursionEnd edge) s = .next t ∧ t.tlm = { s.tlm with excursion := none } ∧
      Recorded 0x0105 [iU32 1 ((s.now - start) / 1000000000), ⟨2, 7, beBytes 2 (code 16 peak)⟩] s t ∧ RegsOnly [Off.REC_LOST_CNT] s t ∧ OnlyIn (.tlm :: recParts) s t) ∧
    (800 < edge → exec (.tempExcursionEnd edge) s = .next s) ∧
    (∃ t, exec .tempExcursionLimit s = .next t ∧ (Config.gradeAX = false ∨ marked = true → t = s) ∧
      (Config.gradeAX = true → marked = false → t.now = max s.now (start + 600000000000) ∧ t.tlm = { s.tlm with excursion := some (start, peak, true) } ∧
        InQueue 0x0105 [iU32 1 ((t.now - start) / 1000000000), ⟨2, 7, beBytes 2 (code 16 peak)⟩] s t) ∧
      RegsOnly [Off.REC_LOST_CNT] s t ∧ OnlyIn (.now :: .nv :: .time :: .tlm :: recParts) s t) := by
  have hend := exec_tempExcursionEnd edge hexc
  refine ⟨fun h => ?_, fun h => ?_, ?_⟩
  · rw [hend, decide_eq_true h]
    have hnoted : OnlyIn [.tlm] s { s with tlm := { s.tlm with excursion := none } } := only_mk only_refl
    exact ⟨_, rfl, (only_record (P := recParts) only_refl).2 .tlm (by decide), recorded_record_of hnoted, regs_record (regs_mk regs_refl),
      only_record (only_mk only_refl)⟩
  · rw [hend, decide_eq_false (by omega)]
    rfl
  · by_cases hlimit : Config.gradeAX = true ∧ marked = false
    · obtain ⟨hgrade, hmarked⟩ := hlimit
      subst hmarked
      have hlim : exec .tempExcursionLimit s = .next (tempLimited (start, peak, false) (advanceTo (start + 600000000000) s)) :=
        (exec_tempExcursionLimit hexc).trans (congrArg Host.Outcome.next (if_pos (by rw [hgrade]; rfl)))
      obtain ⟨hnow, htlm, hqueue, hregs, honly⟩ := tempLimited_told (start + 600000000000) (start, peak, false) s
      refine ⟨_, hlim, fun h => ?_, fun _ _ => ⟨hnow, htlm, hqueue⟩, hregs, honly⟩
      rcases h with h | h
      · exact absurd (hgrade.symm.trans h) (by decide)
      · exact absurd h (by decide)
    · have hlim : exec .tempExcursionLimit s = .next s := by
        refine (exec_tempExcursionLimit hexc).trans (congrArg Host.Outcome.next (if_neg fun h => hlimit ?_))
        simpa using h
      exact ⟨s, hlim, fun _ => rfl, fun h1 h2 => absurd ⟨h1, h2⟩ hlimit, regs_refl, only_refl⟩

theorem exec_tempExcursion_none (s : State) (edge : Int) (hnone : s.tlm.excursion = none) :
    exec (.tempExcursionEnd edge) s = .next s ∧ exec .tempExcursionLimit s = .next s := by
  constructor
  · show execTempExcursionEnd edge s = _
    delta execTempExcursionEnd
    rw [hnone]
  · show execTempExcursionLimit s = _
    delta execTempExcursionLimit
    rw [hnone]

theorem recPage_record (type : Nat) (items : List Item) (s : State) : (record type items s).erec.page = s.erec.page := by
  have hreq : ∀ q, (requestRec q s).erec.page = s.erec.page := by
    intro q
    unfold requestRec
    dsimp only
    split
    · split
      · rfl
      · split <;> rfl
    · split <;> rfl
  unfold record
  split <;> exact hreq _

/-- A request that finds REC's queue and page empty is on NAND once the module has fallen silent. -/
theorem failSilent_stores {s : State} {q : RecReq} (hsilent : s.sys.failSilent = false) (hqueue : s.erec.queue = [q]) (hpage : s.erec.page = []) (hstate : s.erec.state ≠ .failed) :
    ∃ r ∈ (failSilent s).nv.nand.circulating, r.body.type = q.type ∧ r.body.items = q.items := by
  have hfirst : firstRec s.erec.queue = some q := by
    rw [hqueue]
    rfl
  have hfolds : (s.erec.page.getLast?.all fun r => !s.folds { q with lost := s.erec.lost } r) = true := by
    rw [hpage]
    rfl
  have hall : acceptAll s = recEntered (recMade q s) (recFits q s) := by
    rw [acceptAll, hqueue]
    exact (acceptOne_of_new hfirst hfolds).trans (newRec_eq q s)
  have htaken := recTaken_erec q s
  have hfit : (recFits q s).erec.page = [] ∧ (recFits q s).erec.state = s.erec.state := by
    unfold recFits
    split
    · rw [htaken]
      exact ⟨hpage, rfl⟩
    · rw [commitPage_erec, htaken]
      exact ⟨rfl, rfl⟩
  have hentered : (recEntered (recMade q s) (recFits q s)).erec.page = [recMade q s] := by
    show (recFits q s).erec.page ++ [recMade q s] = _
    rw [hfit.1]
    rfl
  have hkept := commitPage_of_page (s := recEntered (recMade q s) (recFits q s)) (by rw [hentered]; simp) (fun h => hstate (hfit.2.symm.trans h))
  have hnv : (commitPage (recEntered (recMade q s) (recFits q s))).nv = (pageKept (recEntered (recMade q s) (recFits q s))).nv := hkept.2 .nv (by decide)
  have hnand : (failSilent s).nv = (commitPage (acceptAll s)).nv := by
    unfold failSilent
    rw [if_neg (by rw [hsilent]; decide)]
    exact (only_abandonCycle (P := [.cyc, .vot, .out, .regs]) only_refl).2 .nv (by decide)
  refine ⟨recMade q s, ?_, rfl, rfl⟩
  rw [hnand, hall, hnv]
  show recMade q s ∈ (((recFits q s).nv.nand.circulating ++ (recEntered (recMade q s) (recFits q s)).erec.page).reverse.take 65536).reverse
  rw [hentered, List.reverse_append, List.reverse_singleton, List.mem_reverse]
  exact List.mem_cons_self

theorem exists_next_thermalShutdown (s u : State) (peak : Int) (hot : Nat) (hup : s.up = true) (hpeak : 1100 ≤ peak) (hhot : hot = s.tlm.hotAt.getD s.now)
    (hu : u = advanceTo (hot + 1000000000) s) :
    ∃ t, exec (.thermalShutdown peak) s = .next t ∧ FellSilent u t ∧
      (s.recUp = true → s.erec.state ≠ .failed → s.erec.queue = [] → s.erec.page = [] → ∃ r ∈ t.nv.nand.circulating, r.body.type = 0x0105 ∧
        r.body.items = [iU32 1 ((u.now - (s.tlm.excursion.map (·.1)).getD hot) / 1000000000), ⟨2, 7, beBytes 2 (code 16 peak)⟩]) ∧ OnlyIn silentParts u t := by
  have hexec : exec (.thermalShutdown peak) s = .next (failSilent (tempRecord ((s.tlm.excursion.map (·.1)).getD hot) peak u)) := by
    rw [hu, hhot]
    exact congrArg Host.Outcome.next (if_pos (by simp [hup, hpeak]))
  have hlater : OnlyIn [.now, .isl, .time, .nv] s u := by
    rw [hu]
    exact only_advanceTo only_refl
  have hrecUp : u.recUp = s.recUp := by
    rw [hu]
    exact recUp_advanceTo _ s
  have hsys : u.sys = s.sys := hlater.2 .sys (by decide)
  have herec : u.erec = s.erec := hlater.2 .erec (by decide)
  have hsilent : u.sys.failSilent = false := by
    rw [hsys]
    exact failSilent_of_up hup
  refine ⟨_, hexec, fellSilent_record _ _ u hsilent, fun hrec hstate hqueue hpage => ?_, only_failSilent (only_record only_refl)⟩
  obtain ⟨q, hq, htype, hitems, _, _⟩ := (recorded_record 0x0105 [iU32 1 ((u.now - (s.tlm.excursion.map (·.1)).getD hot) / 1000000000), ⟨2, 7, beBytes 2 (code 16 peak)⟩] u).1
    (hrecUp.trans hrec) (by rw [herec, hqueue]; decide)
  rw [herec, hqueue] at hq
  rw [← htype, ← hitems]
  have hpagew : (record 0x0105 [iU32 1 ((u.now - (s.tlm.excursion.map (·.1)).getD hot) / 1000000000), ⟨2, 7, beBytes 2 (code 16 peak)⟩] u).erec.page = [] :=
    (recPage_record _ _ u).trans ((congrArg Recorder.page herec).trans hpage)
  refine failSilent_stores ?_ hq hpagew ?_
  · exact (congrArg Sys.failSilent (record_sys _ _ u)).trans hsilent
  · exact fun h => hstate ((congrArg Recorder.state herec).symm.trans ((recState_record _ _ u).symm.trans h))

/-- Settles O59, command by command. -/
theorem telemetry : Obligations.Telemetry :=
  ⟨exists_next_telemetrySnapshot, exists_next_linkMarginCheck, exists_next_tempExcursionBegin, exists_next_tempExcursion, exec_tempExcursion_none,
    exists_next_thermalShutdown⟩

end Sys2Proof.Machine

namespace Sys2Proof.Machine

set_option Elab.async false

/-! ### The instant of a strobe (R88) -/

/-- The instant of the next strobe of a kind, on TB0. -/
def strobeDue (kind : Nat) (s : State) : Nat :=
  if s.tb0 % strobePeriod kind = 0 ∧ s.vot.strobes.getD kind 0 ≠ s.tb0 then s.tb0 else (s.tb0 / strobePeriod kind + 1) * strobePeriod kind

/-- The instant `n` noted for a kind of strobe. -/
def strobeNoted (kind n : Nat) (u : State) : State := { u with vot := { u.vot with strobes := modAt u.vot.strobes kind fun _ => n } }

theorem strobe_due (kind : Nat) (s : State) :
    (if (s.tb0 / strobePeriod kind * strobePeriod kind = s.tb0 && s.vot.strobes.getD kind 0 != s.tb0 / strobePeriod kind * strobePeriod kind) = true
      then s.tb0 / strobePeriod kind * strobePeriod kind else s.tb0 / strobePeriod kind * strobePeriod kind + strobePeriod kind) = strobeDue kind s := by
  have hdiv := Nat.div_add_mod s.tb0 (strobePeriod kind)
  rw [Nat.mul_comm] at hdiv
  unfold strobeDue
  by_cases hmod : s.tb0 % strobePeriod kind = 0
  · have hwhole : s.tb0 / strobePeriod kind * strobePeriod kind = s.tb0 := by omega
    simp only [hwhole, hmod, decide_true, Bool.true_and, bne_iff_ne, true_and, Nat.succ_mul]
  · have hpart : ¬ s.tb0 / strobePeriod kind * strobePeriod kind = s.tb0 := by omega
    simp only [hpart, hmod, decide_false, Bool.false_and, Bool.false_eq_true, if_false, false_and, Nat.succ_mul]

/-- What a strobe does with its samples. -/
def strobed (kind : Nat) (xs : List (Tri Int)) (s : State) : State :=
  match kind with
  | 0 => tripEval (xs.zipIdx.foldl (fun s x => if x.2 < 32 then diStrobe x.2 x.1 s else when (decide (x.2 < 40)) (speedStrobe (x.2 - 32) x.1) s) s)
  | 1 => xs.zipIdx.foldl (fun s x => when (decide (x.2 < 4)) (analogStrobe x.2 x.1) s) s
  | _ => inertialStrobe xs s

theorem strobe_eq (kind : Nat) (xs : List (Tri Int)) (s : State) : strobe kind xs s = strobed kind xs (strobeNoted kind (strobeDue kind s) (toTb0 (strobeDue kind s) s)) := by
  rw [← strobe_due]
  delta strobe strobed strobeNoted
  rfl

theorem exec_sampleStrobe {s : State} {kind : Nat} (xs : List (Tri Int)) (hup : s.up = true) (hon : s.dio.enabled = true) (hkind : kind < 3) :
    exec (.sampleStrobe kind xs) s = .next (strobed kind xs (strobeNoted kind (strobeDue kind s) (toTb0 (strobeDue kind s) s))) := by
  have hexec : exec (.sampleStrobe kind xs) s = .next (strobe kind xs s) := congrArg Host.Outcome.next (if_pos (by simp [hup, hon, hkind]))
  rw [hexec, strobe_eq]

theorem le_now_ite (c : Prop) [Decidable c] (d : Nat) (s : State) : s.now ≤ (if c then s else advance d s).now := by
  split
  · exact le_rfl
  · exact Nat.le_add_right _ _

theorem le_now_toTb0 (n : Nat) (s : State) : s.now ≤ (toTb0 n s).now := le_now_ite _ _ _

/-- The state in which the samples of a strobe are taken. -/
def AtStrobe (kind : Nat) (s u : State) : Prop :=
  OnlyIn [.now, .isl, .nv, .time, .vot] s u ∧ s.now ≤ u.now ∧ u.vot = { s.vot with strobes := modAt s.vot.strobes kind fun _ => strobeDue kind s }

theorem atStrobe_noted {kind : Nat} {s u : State} (hlater : OnlyIn [.now, .isl, .nv, .time] s u) (hnow : s.now ≤ u.now) :
    AtStrobe kind s (strobeNoted kind (strobeDue kind s) u) := by
  have hvot : u.vot = s.vot := hlater.2 .vot (by decide)
  generalize hn : strobeDue kind s = n
  refine ⟨only_mk (onlyIn_mono hlater (by decide)), hnow, ?_⟩
  rw [hn, ← hvot]
  rfl

theorem now_strobeNoted (kind n : Nat) (u : State) : (strobeNoted kind n u).now = u.now := rfl

theorem exists_atStrobe {s : State} {kind : Nat} (xs : List (Tri Int)) (hup : s.up = true) (hon : s.dio.enabled = true) (hkind : kind < 3) :
    ∃ u, exec (.sampleStrobe kind xs) s = .next (strobed kind xs u) ∧ u.now = (toTb0 (strobeDue kind s) s).now ∧ AtStrobe kind s u :=
  ⟨_, exec_sampleStrobe xs hup hon hkind, now_strobeNoted _ _ _, atStrobe_noted (only_toTb0 only_refl) (le_now_toTb0 _ s)⟩

/-- The lanes that a strobe finds, and the paths that count, are those of before while there are any. -/
theorem paths_atStrobe {kind ch : Nat} {s u : State} (hu : AtStrobe kind s u) (h : s.paths ch ≠ []) : u.paths ch = s.paths ch := by
  obtain ⟨hparts, hnow, hvot⟩ := hu
  have hsys : u.sys = s.sys := hparts.2 .sys (by decide)
  have hregs : u.regs = s.regs := hparts.2 .regs (by decide)
  have hmask : ∀ l, u.pathMasked l ch = s.pathMasked l ch := fun l => congrArg (bit · _) (reg_congr _ _ _ hregs)
  have hin : u.lanesIn = s.lanesIn := by
    refine List.filter_congr fun l _ => ?_
    rw [State.inVote, hvot]
    rfl
  have hreset : s.lanesReset = false := by
    cases hr : s.lanesReset
    · rfl
    · exact absurd (if_pos hr) h
  have hlater : u.lanesReset = false := by
    unfold State.lanesReset at hreset ⊢
    rw [hsys]
    rw [Bool.and_eq_false_iff] at hreset ⊢
    refine hreset.imp id fun h => ?_
    rw [decide_eq_false_iff_not] at h ⊢
    omega
  unfold State.paths
  rw [hreset, hlater, hin]
  simp only [hmask]

/-! ### What an agreement leaves (R89 to R93) -/

/-- Of the vote, only the agreement of one channel has changed. -/
def AgreedAt (ch : Nat) (s t : State) : Prop :=
  t.vot = { s.vot with agree := t.vot.agree } ∧ (∀ c, c ≠ ch → t.agreeOf c = s.agreeOf c) ∧ t.vot.agree.length = s.vot.agree.length

theorem agreedAt_refl {ch : Nat} {s : State} : AgreedAt ch s s := ⟨rfl, fun _ _ => rfl, rfl⟩

theorem agreedAt_trans {ch : Nat} {s t u : State} (h : AgreedAt ch s t) (h' : AgreedAt ch t u) : AgreedAt ch s u :=
  ⟨by rw [h'.1, h.1], fun c hc => (h'.2.1 c hc).trans (h.2.1 c hc), h'.2.2.trans h.2.2⟩

theorem agreedAt_of_vot {ch : Nat} {s t u : State} (h : AgreedAt ch s t) (hu : u.vot = t.vot) : AgreedAt ch s u := by
  unfold AgreedAt State.agreeOf at *
  rw [hu]
  exact h

theorem agreedAt_of_only {P : List Part} {ch : Nat} {s t u : State} (h : AgreedAt ch s t) (hu : OnlyIn P t u) (hP : Part.vot ∉ P := by decide) : AgreedAt ch s u :=
  agreedAt_of_vot h (hu.2 .vot hP)

theorem length_modAt {α : Type} (l : List α) (i : Nat) (f : α → α) : (modAt l i f).length = l.length := by
  induction l generalizing i with
  | nil => rfl
  | cons x xs ih =>
    cases i with
    | zero => rfl
    | succ i => exact congrArg (· + 1) (ih i)

theorem length_setAgree (ch : Nat) (f : Agree → Agree) (s : State) : (setAgree ch f s).vot.agree.length = s.vot.agree.length := length_modAt _ _ _

theorem agreedAt_setAgree {ch : Nat} {f : Agree → Agree} {s t : State} (h : AgreedAt ch s t) : AgreedAt ch s (setAgree ch f t) :=
  agreedAt_trans h ⟨rfl, fun _ hc => getD_modAt_ne _ _ _ _ _ hc, length_setAgree _ _ _⟩

theorem agreeOf_setAgree {ch : Nat} {f : Agree → Agree} {s : State} (h : ch < s.vot.agree.length) : (setAgree ch f s).agreeOf ch = f (s.agreeOf ch) :=
  getD_modAt_self _ _ _ _ h

/-- The disagreement of a path, noted. -/
def pathNoted (l : Lane) (ch : Nat) (s : State) : State :=
  setAgree ch (fun a => { a with times := a.times.set l (s.now :: ((s.agreeOf ch).times.get l).filter fun t => decide (s.now < t + 1000000000)) }) s

theorem pathDisagree_only (l : Lane) (ch : Nat) (s : State) : OnlyIn [.regs, .isl, .icus, .erec] (pathNoted l ch s) (pathDisagree l ch s) :=
  only_ite (only_maskPath only_refl) only_refl

theorem agreedAt_pathDisagree {l : Lane} {ch : Nat} {s t : State} (h : AgreedAt ch s t) : AgreedAt ch s (pathDisagree l ch t) :=
  agreedAt_of_only (agreedAt_setAgree h) (pathDisagree_only l ch t)

theorem agreedAt_judgePending {ch : Nat} {v : Agreed} {s t : State} (h : AgreedAt ch s t) : AgreedAt ch s (judgePending ch v t) := by
  have hbump : ∀ (k : Nat) (u : State), AgreedAt ch s u → AgreedAt ch s (bump k u) := fun k u hu => agreedAt_of_only hu (only_bump (P := [.regs]) only_refl)
  unfold judgePending
  split
  · exact h
  · dsimp only
    split
    · split
      · exact hbump _ _ (agreedAt_setAgree h)
      · exact agreedAt_pathDisagree (agreedAt_setAgree h)
    · exact agreedAt_pathDisagree (agreedAt_setAgree h)

theorem agreedAt_bump {k ch : Nat} {s t : State} (h : AgreedAt ch s t) : AgreedAt ch s (bump k t) := agreedAt_of_only h (only_bump (P := [.regs]) only_refl)

theorem agreedAt_when {c : Bool} {f : State → State} {ch : Nat} {s t : State} (hf : AgreedAt ch s t → AgreedAt ch s (f t)) (h : AgreedAt ch s t) :
    AgreedAt ch s (when c f t) := by
  cases c
  · exact h
  · exact hf h

theorem agreedAt_agreeTwo {ch : Nat} {same : Bool} {v : Int} {s t : State} (h : AgreedAt ch s t) : AgreedAt ch s (agreeTwo ch same v t).2 := by
  unfold agreeTwo
  dsimp only
  split
  · exact agreedAt_setAgree (agreedAt_judgePending h)
  · exact agreedAt_when agreedAt_bump (agreedAt_setAgree (agreedAt_judgePending h))

theorem agreedAt_agreeCode {ch : Nat} {x : Tri Int} {s t : State} (h : AgreedAt ch s t) : AgreedAt ch s (agreeCode ch x t).2 := by
  unfold agreeCode
  dsimp only
  split
  · exact agreedAt_bump (agreedAt_setAgree (agreedAt_judgePending h))
  · exact agreedAt_when agreedAt_bump (agreedAt_setAgree (agreedAt_judgePending h))

theorem agreedAt_agreeMeas {ch : Nat} {x : Tri Int} {s t : State} (h : AgreedAt ch s t) : AgreedAt ch s (agreeMeas ch x t).2 := by
  have hfold : ∀ (ls : List Lane) (u : State), AgreedAt ch s u → AgreedAt ch s (ls.foldl (fun s l => pathDisagree l ch s) u) := by
    intro ls
    induction ls with
    | nil => exact fun u hu => hu
    | cons l ls ih => exact fun u hu => ih _ (agreedAt_pathDisagree hu)
  unfold agreeMeas
  dsimp only
  split
  · exact hfold _ _ (agreedAt_setAgree (agreedAt_setAgree h))
  · exact agreedAt_bump (agreedAt_setAgree h)

theorem agreedAt_agreeSample {ch : Nat} {x : Tri Int} {s t : State} (h : AgreedAt ch s t) : AgreedAt ch s (agreeSample ch x t).2 := by
  unfold agreeSample
  dsimp only
  split
  · split
    · exact agreedAt_agreeCode h
    · exact agreedAt_agreeMeas h
  · exact agreedAt_agreeTwo h
  · exact agreedAt_judgePending h

/-! ### A strobe of any kind -/

/-- Of the vote, only agreements have changed, and time has not. -/
def AgreesOnly (s t : State) : Prop := t.vot = { s.vot with agree := t.vot.agree } ∧ t.now = s.now

theorem agreesOnly_refl {s : State} : AgreesOnly s s := ⟨rfl, rfl⟩

theorem agreesOnly_trans {s t u : State} (h : AgreesOnly s t) (h' : AgreesOnly t u) : AgreesOnly s u := ⟨by rw [h'.1, h.1], h'.2.trans h.2⟩

theorem agreesOnly_of_only {P : List Part} {s t : State} (h : OnlyIn P s t) (hP : ∀ p ∈ [Part.vot, .now], p ∉ P := by decide) : AgreesOnly s t := by
  have hvot : t.vot = s.vot := h.2 .vot (hP _ (by decide))
  exact ⟨by rw [hvot], h.2 .now (hP _ (by decide))⟩

theorem agreesOnly_agreeSample (ch : Nat) (x : Tri Int) (s : State) : AgreesOnly s (agreeSample ch x s).2 :=
  ⟨(agreedAt_agreeSample agreedAt_refl).1, (only_agreeSample (P := [.regs, .isl, .vot, .icus, .erec]) only_refl).2 .now (by decide)⟩

theorem diStrobe_of_marked {n : Nat} {x : Tri Int} {s : State} (h : s.testMarked (n / 8) = true) :
    diStrobe n x s = diSample n (s.agreeOf n).last (testSample n x s) := if_pos h

theorem diStrobe_of_unmarked {n : Nat} {x : Tri Int} {s : State} (h : s.testMarked (n / 8) = false) :
    diStrobe n x s = diSample n (agreeSample n x s).1 (agreeSample n x s).2 := if_neg (by rw [h]; decide)

theorem agreesOnly_diStrobe (n : Nat) (x : Tri Int) (s : State) : AgreesOnly s (diStrobe n x s) := by
  cases h : s.testMarked (n / 8)
  · rw [diStrobe_of_unmarked h]
    exact agreesOnly_trans (agreesOnly_agreeSample n x s) (agreesOnly_of_only (only_diSample (P := [.icus, .dio]) only_refl))
  · rw [diStrobe_of_marked h]
    exact agreesOnly_of_only (only_diSample (P := [.icus, .dio]) (only_testSample only_refl))

theorem agreesOnly_speedStrobe (k : Nat) (x : Tri Int) (s : State) : AgreesOnly s (speedStrobe k x s) := by
  refine agreesOnly_trans (agreesOnly_agreeSample (32 + k) x s) (agreesOnly_of_only (P := [.regs, .isl, .icus, .erec, .odo]) ?_)
  exact only_when only_phaseStrobe only_refl

theorem agreesOnly_analogStrobe (n : Nat) (x : Tri Int) (s : State) : AgreesOnly s (analogStrobe n x s) :=
  agreesOnly_trans (agreesOnly_agreeSample (40 + n) x s) (agreesOnly_of_only (P := [.regs, .isl, .icus, .erec, .sup]) (only_takeSample only_refl))

theorem agreesOnly_foldl {α : Type} {f : State → α → State} (hf : ∀ u x, AgreesOnly u (f u x)) (l : List α) (s : State) : AgreesOnly s (l.foldl f s) := by
  induction l generalizing s with
  | nil => exact agreesOnly_refl
  | cons x xs ih => exact agreesOnly_trans (hf s x) (ih _)

theorem agreesOnly_when {c : Bool} {f : State → State} {s : State} (h : AgreesOnly s (f s)) : AgreesOnly s (when c f s) := by
  cases c
  · exact agreesOnly_refl
  · exact h

/-- One axis of an inertial strobe. -/
def axisStrobe (p : List (Option Int) × State) (x : Tri Int × Nat) : List (Option Int) × State :=
  if x.2 < 6 then (p.1 ++ [(agreeSample (44 + x.2) x.1 p.2).1], (agreeSample (44 + x.2) x.1 p.2).2) else p

theorem inertialStrobe_eq (xs : List (Tri Int)) (s : State) :
    inertialStrobe xs s = when (!s.sys.dspFault) (inertStrobe (xs.zipIdx.foldl axisStrobe ([], s)).1) (xs.zipIdx.foldl axisStrobe ([], s)).2 := by
  have hfold : (fun (p : List (Option Int) × State) (x : Tri Int × Nat) =>
      if x.2 < 6 then let (v, s) := agreeSample (44 + x.2) x.1 p.2; (p.1 ++ [v], s) else p) = axisStrobe := by
    funext p x
    unfold axisStrobe
    cases agreeSample (44 + x.2) x.1 p.2
    rfl
  unfold inertialStrobe
  rw [hfold]

theorem agreesOnly_axes (l : List (Tri Int × Nat)) (p : List (Option Int) × State) : AgreesOnly p.2 (l.foldl axisStrobe p).2 := by
  induction l generalizing p with
  | nil => exact agreesOnly_refl
  | cons x xs ih =>
    refine agreesOnly_trans ?_ (ih _)
    unfold axisStrobe
    split
    · exact agreesOnly_agreeSample _ _ _
    · exact agreesOnly_refl

theorem agreesOnly_strobed {kind : Nat} (xs : List (Tri Int)) (s : State) (hkind : kind < 3) : AgreesOnly s (strobed kind xs s) := by
  interval_cases kind
  · refine agreesOnly_trans (agreesOnly_foldl (fun u x => ?_) _ s) (agreesOnly_of_only (only_tripEval (P := [.regs, .out, .isl, .icus, .erec, .dio]) only_refl))
    split
    · exact agreesOnly_diStrobe _ _ u
    · exact agreesOnly_when (agreesOnly_speedStrobe _ _ u)
  · exact agreesOnly_foldl (fun u x => agreesOnly_when (agreesOnly_analogStrobe _ _ u)) _ s
  · rw [strobed, inertialStrobe_eq]
    exact agreesOnly_trans (agreesOnly_axes xs.zipIdx ([], s)) (agreesOnly_when (agreesOnly_of_only (only_inertStrobe (P := [.free, .odo]) only_refl)))
    all_goals decide

theorem only_strobed {kind : Nat} (xs : List (Tri Int)) (s : State) (hkind : kind < 3) :
    OnlyIn [.free, .regs, .out, .isl, .vot, .icus, .erec, .odo, .sup, .dio] s (strobed kind xs s) := by
  interval_cases kind
  · refine only_tripEval (only_foldl (fun u x h => ?_) only_refl)
    exact only_ite (only_diStrobe h) (only_when only_speedStrobe h)
  · exact only_foldl (fun u x h => only_when only_analogStrobe h) only_refl
  · exact only_inertialStrobe only_refl

theorem exists_next_sampleStrobe (s : State) (kind due : Nat) (xs : List (Tri Int)) (hup : s.up = true) (hon : s.dio.enabled = true) (hkind : kind < 3)
    (hlen : kind < s.vot.strobes.length)
    (hdue : due = (if s.tb0 % strobePeriod kind = 0 ∧ s.vot.strobes.getD kind 0 ≠ s.tb0 then s.tb0 else (s.tb0 / strobePeriod kind + 1) * strobePeriod kind)) :
    ∃ t, exec (.sampleStrobe kind xs) s = .next t ∧ t.now = (toTb0 due s).now ∧ t.vot.strobes.getD kind 0 = due ∧
      (∀ k, k ≠ kind → t.vot.strobes.getD k 0 = s.vot.strobes.getD k 0) ∧
      OnlyIn [.now, .free, .regs, .out, .isl, .nv, .time, .vot, .icus, .erec, .odo, .sup, .dio] s t := by
  have hdue' : strobeDue kind s = due := hdue.symm
  obtain ⟨u, hexec, hnow0, hparts, _, hnoted⟩ := exists_atStrobe xs hup hon hkind
  obtain ⟨hvot, hnow⟩ := agreesOnly_strobed xs u hkind
  have hstrobes : (strobed kind xs u).vot.strobes = modAt s.vot.strobes kind fun _ => due := by
    rw [hvot, hnoted, hdue']
  rw [hdue'] at hnow0
  refine ⟨_, hexec, hnow.trans hnow0, ?_, fun k hk => ?_, ?_⟩
  · rw [hstrobes]
    exact getD_modAt_self _ _ _ _ hlen
  · rw [hstrobes]
    exact getD_modAt_ne _ _ _ _ _ hk
  · exact onlyIn_trans (onlyIn_mono hparts (by decide)) (onlyIn_mono (only_strobed xs u hkind) (by decide))

/-! ### Measured axes (R91, R93) -/

theorem strobed_axis (x : Tri Int) (u : State) :
    strobed 2 [x] u = when (!u.sys.dspFault) (inertStrobe [(agreeSample 44 x u).1]) (agreeSample 44 x u).2 := inertialStrobe_eq [x] u

/-- A single axis is no inertial measurement. -/
theorem inertStrobe_alone (v : Option Int) (s : State) : OnlyIn [.odo] s (inertStrobe [v] s) := by
  have hnone : inertStrobe [v] s = { s with odo := { s.odo with inert := none, calmSince := none } } := by
    unfold inertStrobe
    have hlen : ([v].length == 6) = false := rfl
    simp only [hlen, Bool.and_false, Bool.false_and, Bool.false_eq_true, if_false]
    split
    · rfl
    · next h => 
      split at h <;> exact absurd h (by simp)
  rw [hnone]
  exact only_mk only_refl

theorem strobed_axis_only (x : Tri Int) (u : State) : OnlyIn [.odo] (agreeSample 44 x u).2 (strobed 2 [x] u) := by
  rw [strobed_axis]
  exact only_ite (inertStrobe_alone _ _) only_refl

theorem measTol_axis (s : State) : s.measTol 44 = fld (s.reg Off.VOT_MEAS_TOL) 24 8 := rfl

theorem agreeSample_of_three {ch : Nat} {x : Tri Int} {s : State} (h : (s.paths ch).length = 3) :
    agreeSample ch x s = if ch < 32 then agreeCode ch x s else agreeMeas ch x s := by
  obtain ⟨p, q, r, hp⟩ := List.length_eq_three.mp h
  unfold agreeSample
  rw [hp]

theorem agreeSample_of_two {ch : Nat} {p q : Lane} {x : Tri Int} {s : State} (h : s.paths ch = [p, q]) :
    agreeSample ch x s = agreeTwo ch (decide ((x.get p - x.get q).natAbs ≤ if ch < 32 then 0 else s.measTol ch))
      (if ch < 32 then x.get p else halfInt (x.get p + x.get q)) s := by
  unfold agreeSample
  rw [h]

theorem exists_next_axisAgrees (s : State) (x : Tri Int) (m : Int) (tol : Nat) (hup : s.up = true) (hon : s.dio.enabled = true) (hlen : 44 < s.vot.agree.length)
    (hpaths : (s.paths 44).length = 3) (hm : m = medInt x.a x.b x.c) (htol : tol = fld (s.reg Off.VOT_MEAS_TOL) 24 8) (ha : (x.a - m).natAbs ≤ tol)
    (hb : (x.b - m).natAbs ≤ tol) (hc : (x.c - m).natAbs ≤ tol) :
    ∃ t, exec (.sampleStrobe 2 [x]) s = .next t ∧ (t.agreeOf 44).last = some m ∧ (t.agreeOf 44).diffs = 0 ∧
      (∀ ch, ch ≠ 44 → t.agreeOf ch = s.agreeOf ch) ∧ OnlyIn [.now, .isl, .nv, .time, .vot, .odo] s t := by
  obtain ⟨u, hexec, _, hu⟩ := exists_atStrobe [x] hup hon (kind := 2) (by decide)
  have hthree : (u.paths 44).length = 3 := by rw [paths_atStrobe hu (by intro h; rw [h] at hpaths; exact absurd hpaths (by decide)), hpaths]
  obtain ⟨hparts, _, hvot⟩ := hu
  have hmeas : u.measTol 44 = tol := by rw [measTol_axis, htol, reg_of_only _ hparts]
  have hagree : u.vot.agree = s.vot.agree := by rw [hvot]
  have hall : ∀ l ∈ Lane.all, ¬ (decide (u.measTol 44 < (x.get l - m).natAbs)) = true := by
    intro l _
    rw [hmeas, decide_eq_true_iff]
    cases l
    · exact Nat.not_lt.mpr ha
    · exact Nat.not_lt.mpr hb
    · exact Nat.not_lt.mpr hc
  have hsample : (agreeSample 44 x u).2 = setAgree 44 (fun a => { a with last := some m }) (setAgree 44 (fun a => { a with diffs := 0, pending := none }) u) := by
    rw [agreeSample_of_three hthree, if_neg (by decide)]
    unfold agreeMeas
    dsimp only
    rw [← hm, List.filter_eq_nil_iff.mpr hall]
    rfl
  have hlenu : 44 < u.vot.agree.length := by rw [hagree]; exact hlen
  have hstrobed := strobed_axis_only x u
  rw [hsample] at hstrobed
  have hfinal : ∀ ch, (strobed 2 [x] u).agreeOf ch =
      (setAgree 44 (fun a => { a with last := some m }) (setAgree 44 (fun a => { a with diffs := 0, pending := none }) u)).agreeOf ch := by
    intro ch
    unfold State.agreeOf
    rw [hstrobed.2 .vot (by decide)]
  have hself := agreeOf_setAgree (f := fun a => { a with last := some m }) (s := setAgree 44 (fun a => { a with diffs := 0, pending := none }) u)
    (by rw [length_setAgree]; exact hlenu)
  rw [agreeOf_setAgree hlenu] at hself
  refine ⟨_, hexec, by rw [hfinal, hself], by rw [hfinal, hself], fun ch hch => ?_, ?_⟩
  · rw [hfinal, (agreedAt_setAgree (agreedAt_setAgree (agreedAt_refl (ch := 44)))).2.1 ch hch]
    exact congrArg (fun l => l.getD ch Reset.agree) hagree
  · exact onlyIn_trans (onlyIn_mono hparts (by decide)) (onlyIn_trans (only_setAgree (only_setAgree only_refl)) (onlyIn_mono hstrobed (by decide)))

theorem exists_next_axisOfTwo (s : State) (x : Tri Int) (p q : Lane) (tol rep : Nat) (hwf : RegsWf s) (hup : s.up = true) (hon : s.dio.enabled = true)
    (hlen : 44 < s.vot.agree.length) (hpaths : s.paths 44 = [p, q]) (hpending : (s.agreeOf 44).pending = none) (htol : tol = fld (s.reg Off.VOT_MEAS_TOL) 24 8)
    (hrep : rep = max 1 (fld (s.reg Off.VOT_INPUT_CFG) 8 8)) :
    ∃ t, exec (.sampleStrobe 2 [x]) s = .next t ∧
      ((x.get p - x.get q).natAbs ≤ tol → (t.agreeOf 44).last = some (Int.tdiv (x.get p + x.get q) 2) ∧ (t.agreeOf 44).diffs = 0 ∧ t.regs = s.regs) ∧
      (tol < (x.get p - x.get q).natAbs → (t.agreeOf 44).last = (s.agreeOf 44).last ∧ (t.agreeOf 44).diffs = min (rep + 1) ((s.agreeOf 44).diffs + 1) ∧
        t.reg Off.VOT_NOAGREE_CNT = s.reg Off.VOT_NOAGREE_CNT + (if (s.agreeOf 44).diffs < rep then 0 else 1)) ∧
      RegsOnly [Off.VOT_NOAGREE_CNT] s t ∧ OnlyIn [.now, .regs, .isl, .nv, .time, .vot, .odo] s t := by
  obtain ⟨u, hexec, _, hu⟩ := exists_atStrobe [x] hup hon (kind := 2) (by decide)
  have htwo : u.paths 44 = [p, q] := by rw [paths_atStrobe hu (by rw [hpaths]; simp), hpaths]
  obtain ⟨hparts, _, hvot⟩ := hu
  have hmeas : u.measTol 44 = tol := by rw [measTol_axis, htol, reg_of_only _ hparts]
  have hagree : u.vot.agree = s.vot.agree := by rw [hvot]
  have hagreeOf : u.agreeOf 44 = s.agreeOf 44 := congrArg (fun l => l.getD 44 Reset.agree) hagree
  have hcfg : u.reg Off.VOT_INPUT_CFG = s.reg Off.VOT_INPUT_CFG := reg_of_only _ hparts
  have hlenu : 44 < u.vot.agree.length := by rw [hagree]; exact hlen
  have hjudge : ∀ v, judgePending 44 v u = u := by
    intro v
    unfold judgePending
    rw [hagreeOf, hpending]
  have hsample : (agreeSample 44 x u).2 = if (x.get p - x.get q).natAbs ≤ tol then setAgree 44 (fun a => { a with last := some (Int.tdiv (x.get p + x.get q) 2), diffs := 0 }) u
      else when (decide (rep ≤ (s.agreeOf 44).diffs)) noAgree (setAgree 44 (fun a => { a with diffs := min (rep + 1) (a.diffs + 1) }) u) := by
    rw [agreeSample_of_two htwo, if_neg (by decide), if_neg (by decide), hmeas]
    unfold agreeTwo
    dsimp only
    rw [hjudge, hagreeOf, hcfg, ← hrep]
    by_cases h : (x.get p - x.get q).natAbs ≤ tol
    · rw [if_pos (decide_eq_true h), if_pos h]
      rfl
    · rw [if_neg (by simpa using h), if_neg h]
  have hstrobed := strobed_axis_only x u
  rw [hsample] at hstrobed
  have hvotAfter : (strobed 2 [x] u).vot = _ := hstrobed.2 .vot (by decide)
  have hregsAfter : (strobed 2 [x] u).regs = _ := hstrobed.2 .regs (by decide)
  refine ⟨_, hexec, fun h => ?_, fun h => ?_, ?_, ?_⟩
  · rw [if_pos h] at hvotAfter hregsAfter
    have hself : (strobed 2 [x] u).agreeOf 44 = { u.agreeOf 44 with last := some (Int.tdiv (x.get p + x.get q) 2), diffs := 0 } := by
      unfold State.agreeOf
      rw [hvotAfter]
      exact agreeOf_setAgree (f := fun a => { a with last := some (Int.tdiv (x.get p + x.get q) 2), diffs := 0 }) hlenu
    exact ⟨by rw [hself], by rw [hself], hregsAfter.trans (hparts.2 .regs (by decide))⟩
  · rw [if_neg (Nat.not_le.mpr h)] at hvotAfter hregsAfter
    have hself : (strobed 2 [x] u).agreeOf 44 = { s.agreeOf 44 with diffs := min (rep + 1) ((s.agreeOf 44).diffs + 1) } := by
      have hnoted : (when (decide (rep ≤ (s.agreeOf 44).diffs)) noAgree (setAgree 44 (fun a => { a with diffs := min (rep + 1) (a.diffs + 1) }) u)).vot =
          (setAgree 44 (fun a => { a with diffs := min (rep + 1) (a.diffs + 1) }) u).vot :=
        (only_when (P := [.regs]) only_bump only_refl : OnlyIn [.regs] (setAgree 44 (fun a => { a with diffs := min (rep + 1) (a.diffs + 1) }) u)
          (when (decide (rep ≤ (s.agreeOf 44).diffs)) noAgree (setAgree 44 (fun a => { a with diffs := min (rep + 1) (a.diffs + 1) }) u))).2 .vot (by decide)
      unfold State.agreeOf
      rw [hvotAfter, hnoted]
      refine (agreeOf_setAgree (f := fun a => { a with diffs := min (rep + 1) (a.diffs + 1) }) hlenu).trans ?_
      rw [hagreeOf]
      rfl
    refine ⟨by rw [hself], by rw [hself], ?_⟩
    have hwfu : RegsWf (setAgree 44 (fun a => { a with diffs := min (rep + 1) (a.diffs + 1) }) u) := wf_mk (regsWf_of_only hwf hparts)
    have hcount : (setAgree 44 (fun a => { a with diffs := min (rep + 1) (a.diffs + 1) }) u).reg Off.VOT_NOAGREE_CNT = s.reg Off.VOT_NOAGREE_CNT :=
      (reg_of_only _ hparts : u.reg _ = s.reg _)
    rw [reg_congr _ _ _ hregsAfter]
    by_cases hfew : (s.agreeOf 44).diffs < rep
    · rw [decide_eq_false (Nat.not_le.mpr hfew), if_pos hfew]
      exact hcount.trans (BitVec.add_zero _).symm
    · rw [decide_eq_true (Nat.not_lt.mp hfew), if_neg hfew]
      exact (reg_bump_unmasked _ _ hwfu (by decide)).trans (congrArg (· + 1) hcount)
  · have hregs : RegsOnly [Off.VOT_NOAGREE_CNT] s (if (x.get p - x.get q).natAbs ≤ tol then setAgree 44 (fun a => { a with last := some (Int.tdiv (x.get p + x.get q) 2), diffs := 0 }) u
        else when (decide (rep ≤ (s.agreeOf 44).diffs)) noAgree (setAgree 44 (fun a => { a with diffs := min (rep + 1) (a.diffs + 1) }) u)) :=
      regs_ite (regs_mk (regs_of_only regs_refl hparts)) (regs_when regs_bump (regs_mk (regs_of_only regs_refl hparts)))
    exact regs_of_only hregs hstrobed
  · exact onlyIn_trans (onlyIn_mono hparts (by decide)) (onlyIn_trans (only_ite (only_setAgree only_refl) (only_when only_bump (only_setAgree only_refl))) (onlyIn_mono hstrobed (by decide)))

/-! ### Digital inputs (R89, R90) -/

/-- A code that two paths give. -/
def Majority (x : Tri Int) (v : Int) : Prop := x.a = v ∧ x.b = v ∨ x.a = v ∧ x.c = v ∨ x.b = v ∧ x.c = v

theorem majority_code {x : Tri Int} {v : Int} (h : Majority x v) :
    (if (decide (x.a = x.b) || decide (x.a = x.c)) = true then some x.a else if x.b = x.c then some x.b else none : Agreed) = some v := by
  rcases h with ⟨ha, hb⟩ | ⟨ha, hc⟩ | ⟨hb, hc⟩
  · rw [if_pos (by simp [ha, hb]), ha]
  · rw [if_pos (by simp [ha, hc]), ha]
  · by_cases ha : x.a = v
    · rw [if_pos (by simp [ha, hb]), ha]
    · rw [if_neg (by simp [ha, hb, hc]), if_pos (hb.trans hc.symm), hb]

/-- The agreement on a code. -/
def codeAgreed (ch : Nat) (x : Tri Int) (v : Int) (changed : Bool) (u : State) : State :=
  setAgree ch (fun a => { a with last := some v, diffs := 0, pending := if changed then none else Lane.all.find? fun l => x.get l != v }) (judgePending ch (some v) u)

/-- The agreed code has changed. -/
def codeChanged (ch : Nat) (v : Int) (s : State) : Bool :=
  match (s.agreeOf ch).last with
  | some y => y != v
  | none => false

theorem agreeCode_of_majority {ch : Nat} {x : Tri Int} {v : Int} {s : State} (h : Majority x v) :
    agreeCode ch x s = (some v, when (codeChanged ch v s && (Lane.all.find? fun l => x.get l != v).isSome) (bump Off.VOT_STRADDLE_CNT) (codeAgreed ch x v (codeChanged ch v s) s)) := by
  unfold agreeCode codeAgreed codeChanged
  dsimp only
  rw [majority_code h] <;> rfl

theorem testMarked_atStrobe {kind g : Nat} {s u : State} (hu : AtStrobe kind s u) (h : s.testMarked g = false) : u.testMarked g = false := by
  obtain ⟨hparts, hnow, _⟩ := hu
  have hdio : u.dio = s.dio := hparts.2 .dio (by decide)
  unfold State.testMarked State.group at h ⊢
  rw [hdio]
  cases htest : (s.dio.groups.getD g Reset.group).testAt with
  | none => rfl
  | some t =>
    rw [htest] at h
    simp only [Option.any_some, decide_eq_false_iff_not] at h ⊢
    omega

/-- A strobe of one digital input that two of three paths agree on. -/
theorem strobed_majority {x : Tri Int} {v : Int} {u : State} (hpaths : (u.paths 0).length = 3) (htest : u.testMarked 0 = false) (h : Majority x v) :
    strobed 0 [x] u = tripEval (diSample 0 (some v)
      (when (codeChanged 0 v u && (Lane.all.find? fun l => x.get l != v).isSome) (bump Off.VOT_STRADDLE_CNT) (codeAgreed 0 x v (codeChanged 0 v u) u))) := by
  have hdi : strobed 0 [x] u = tripEval (diStrobe 0 x u) := rfl
  rw [hdi, diStrobe_of_unmarked htest, agreeSample_of_three hpaths, if_pos (by decide), agreeCode_of_majority h]

theorem exists_next_codeAgrees (s : State) (x : Tri Int) (v : Int) (hup : s.up = true) (hon : s.dio.enabled = true) (hlen : 0 < s.vot.agree.length)
    (hpaths : (s.paths 0).length = 3) (htest : s.testMarked 0 = false) (hv : x.a = v ∧ x.b = v ∨ x.a = v ∧ x.c = v ∨ x.b = v ∧ x.c = v) :
    ∃ t, exec (.sampleStrobe 0 [x]) s = .next t ∧ (t.agreeOf 0).last = some v ∧ (t.agreeOf 0).diffs = 0 ∧ (∀ ch, ch ≠ 0 → t.agreeOf ch = s.agreeOf ch) ∧
      OnlyIn [.now, .regs, .out, .isl, .nv, .time, .vot, .icus, .erec, .odo, .sup, .dio] s t := by
  obtain ⟨u, hexec, _, hu⟩ := exists_atStrobe [x] hup hon (kind := 0) (by decide)
  have hthree : (u.paths 0).length = 3 := by rw [paths_atStrobe hu (by intro h; rw [h] at hpaths; exact absurd hpaths (by decide)), hpaths]
  rw [strobed_majority hthree (testMarked_atStrobe hu htest) hv] at hexec
  obtain ⟨hparts, _, hvot⟩ := hu
  have hagree : u.vot.agree = s.vot.agree := by rw [hvot]
  have hjudged : AgreedAt 0 u (judgePending 0 (some v) u) := agreedAt_judgePending agreedAt_refl
  have hself : (codeAgreed 0 x v (codeChanged 0 v u) u).agreeOf 0 = _ := agreeOf_setAgree (by rw [hjudged.2.2, hagree]; exact hlen)
  have hcode : AgreedAt 0 u (codeAgreed 0 x v (codeChanged 0 v u) u) := agreedAt_setAgree hjudged
  have honly : OnlyIn [.regs, .isl, .vot, .icus, .erec] u (codeAgreed 0 x v (codeChanged 0 v u) u) := only_setAgree (only_judgePending only_refl)
  generalize codeAgreed 0 x v (codeChanged 0 v u) u = w at *
  have hafter : OnlyIn [.regs, .out, .isl, .icus, .erec, .dio] w
      (tripEval (diSample 0 (some v) (when (codeChanged 0 v u && (Lane.all.find? fun l => x.get l != v).isSome) (bump Off.VOT_STRADDLE_CNT) w))) :=
    only_tripEval (only_diSample (only_when only_bump only_refl))
  have hvotw := hafter.2 .vot (by decide)
  have hagreeOf : ∀ ch, (tripEval (diSample 0 (some v) (when (codeChanged 0 v u && (Lane.all.find? fun l => x.get l != v).isSome) (bump Off.VOT_STRADDLE_CNT) w))).agreeOf ch =
      w.agreeOf ch := fun ch => congrArg (fun y : Vot => y.agree.getD ch Reset.agree) hvotw
  refine ⟨_, hexec, by rw [hagreeOf, hself], by rw [hagreeOf, hself], fun ch hch => ?_, ?_⟩
  · rw [hagreeOf, hcode.2.1 ch hch]
    exact congrArg (fun l => l.getD ch Reset.agree) hagree
  · exact onlyIn_trans (onlyIn_mono hparts (by decide)) (onlyIn_trans (onlyIn_mono honly (by decide)) (onlyIn_mono hafter (by decide)))

/-- A mask is no straddle. -/
theorem straddle_pathDisagree (l : Lane) (s : State) : (pathDisagree l 0 s).reg Off.VOT_STRADDLE_CNT = s.reg Off.VOT_STRADDLE_CNT := by
  have hmask : RegsOnly [(maskAt l 0).1, Off.REC_LOST_CNT] (pathNoted l 0 s) (maskPath l 0 (pathNoted l 0 s)) := by
    cases l <;> exact regs_record (regs_raiseIrq (regs_setReg regs_refl))
  have hnoted : (pathNoted l 0 s).reg Off.VOT_STRADDLE_CNT = s.reg Off.VOT_STRADDLE_CNT := rfl
  have hpath : pathDisagree l 0 s = maskPath l 0 (pathNoted l 0 s) ∨ pathDisagree l 0 s = pathNoted l 0 s := ite_eq_or_eq _ _ _
  rcases hpath with h | h
  · rw [h, hmask _ (by cases l <;> decide), hnoted]
  · rw [h, hnoted]

theorem lone_of_all (v : Int) : (Lane.all.find? fun l => (⟨v, v, v⟩ : Tri Int).get l != v) = none := by
  rw [List.find?_eq_none]
  intro l _
  cases l <;> simp [Tri.get]

theorem exists_next_codeJudged (s : State) (x : Tri Int) (v w : Int) (l : Lane) (hwf : RegsWf s) (hup : s.up = true) (hon : s.dio.enabled = true)
    (hlen : 0 < s.vot.agree.length) (hpaths : (s.paths 0).length = 3) (htest : s.testMarked 0 = false) (hpending : (s.agreeOf 0).pending = some l)
    (hlast : (s.agreeOf 0).last = some w) (hx : x = ⟨v, v, v⟩) :
    ∃ t, exec (.sampleStrobe 0 [x]) s = .next t ∧ (t.agreeOf 0).pending = none ∧
      t.reg Off.VOT_STRADDLE_CNT = s.reg Off.VOT_STRADDLE_CNT + (if v = w then 0 else 1) ∧
      (v = w → t.now ∈ (t.agreeOf 0).times.get l) ∧ (v ≠ w → (t.agreeOf 0).times = (s.agreeOf 0).times) := by
  subst hx
  obtain ⟨u, hexec, _, hu⟩ := exists_atStrobe [(⟨v, v, v⟩ : Tri Int)] hup hon (kind := 0) (by decide)
  have hthree : (u.paths 0).length = 3 := by rw [paths_atStrobe hu (by intro h; rw [h] at hpaths; exact absurd hpaths (by decide)), hpaths]
  rw [strobed_majority hthree (testMarked_atStrobe hu htest) (Or.inl ⟨rfl, rfl⟩), lone_of_all, Option.isSome_none, Bool.and_false, when_false] at hexec
  obtain ⟨hparts, _, hvot⟩ := hu
  have hagree : u.vot.agree = s.vot.agree := by rw [hvot]
  have hagreeOf : u.agreeOf 0 = s.agreeOf 0 := congrArg (fun l => l.getD 0 Reset.agree) hagree
  have hlenu : 0 < u.vot.agree.length := by rw [hagree]; exact hlen
  have hjudged : AgreedAt 0 u (judgePending 0 (some v) u) := agreedAt_judgePending agreedAt_refl
  have hself : (codeAgreed 0 ⟨v, v, v⟩ v (codeChanged 0 v u) u).agreeOf 0 = { (judgePending 0 (some v) u).agreeOf 0 with last := some v, diffs := 0, pending := none } := by
    refine (agreeOf_setAgree (by rw [hjudged.2.2]; exact hlenu)).trans ?_
    rw [lone_of_all, ite_self]
  have hcodeReg : (codeAgreed 0 ⟨v, v, v⟩ v (codeChanged 0 v u) u).reg Off.VOT_STRADDLE_CNT = (judgePending 0 (some v) u).reg Off.VOT_STRADDLE_CNT := rfl
  have hcodeNow : (codeAgreed 0 ⟨v, v, v⟩ v (codeChanged 0 v u) u).now = u.now :=
    (only_setAgree (P := [.regs, .isl, .vot, .icus, .erec]) (only_judgePending only_refl)).2 .now (by decide)
  generalize codeAgreed 0 ⟨v, v, v⟩ v (codeChanged 0 v u) u = y at *
  have hafter : OnlyIn [.regs, .out, .isl, .icus, .erec, .dio] y (tripEval (diSample 0 (some v) y)) := only_tripEval (only_diSample only_refl)
  have hafterRegs : RegsOnly [Off.DIO_DARK_SKIP_CNT, Off.DIO_DEMAG_HIGH_CNT, Off.DIO_TRIP_CNT, Off.REC_LOST_CNT] y (tripEval (diSample 0 (some v) y)) :=
    regs_tripEval (regs_diSample regs_refl)
  have hfinal : (tripEval (diSample 0 (some v) y)).agreeOf 0 = { (judgePending 0 (some v) u).agreeOf 0 with last := some v, diffs := 0, pending := none } :=
    (congrArg (fun y : Vot => y.agree.getD 0 Reset.agree) (hafter.2 .vot (by decide))).trans hself
  have hnow : (tripEval (diSample 0 (some v) y)).now = u.now := (hafter.2 .now (by decide)).trans hcodeNow
  have hreg : (tripEval (diSample 0 (some v) y)).reg Off.VOT_STRADDLE_CNT = (judgePending 0 (some v) u).reg Off.VOT_STRADDLE_CNT :=
    (hafterRegs _ (by decide)).trans hcodeReg
  have hwfu : RegsWf u := regsWf_of_only hwf hparts
  have hregu : u.reg Off.VOT_STRADDLE_CNT = s.reg Off.VOT_STRADDLE_CNT := reg_of_only _ hparts
  have hcleared : (setAgree 0 (fun a => { a with pending := none }) u).agreeOf 0 = { u.agreeOf 0 with pending := none } := agreeOf_setAgree hlenu
  have hjudge : judgePending 0 (some v) u = if v = w then pathDisagree l 0 (setAgree 0 (fun a => { a with pending := none }) u)
      else bump Off.VOT_STRADDLE_CNT (setAgree 0 (fun a => { a with pending := none }) u) := by
    unfold judgePending
    rw [hagreeOf, hpending]
    dsimp only
    rw [hlast]
    by_cases h : v = w
    · rw [if_neg (by simp [h]), if_pos h]
    · rw [if_pos (by simpa using fun h' => h h'.symm), if_neg h]
  refine ⟨_, hexec, by rw [hfinal], ?_, fun h => ?_, fun h => ?_⟩
  · rw [hreg, hjudge]
    by_cases h : v = w
    · rw [if_pos h, if_pos h, straddle_pathDisagree]
      exact hregu.trans (BitVec.add_zero _).symm
    · rw [if_neg h, if_neg h]
      exact (reg_bump_unmasked _ _ (wf_mk hwfu) (by decide)).trans (congrArg (· + 1) hregu)
  · have hpath := (pathDisagree_only l 0 (setAgree 0 (fun a => { a with pending := none }) u)).2 .vot (by decide)
    have htimes : (pathDisagree l 0 (setAgree 0 (fun a => { a with pending := none }) u)).agreeOf 0 = _ :=
      (congrArg (fun y : Vot => y.agree.getD 0 Reset.agree) hpath).trans (agreeOf_setAgree (by rw [length_setAgree]; exact hlenu))
    rw [hfinal, hnow, hjudge, if_pos h, htimes]
    dsimp only
    rw [get_set_self]
    exact List.mem_cons_self
  · rw [hfinal, hjudge, if_neg h]
    show ((setAgree 0 (fun a => { a with pending := none }) u).agreeOf 0).times = _
    rw [hcleared, hagreeOf]

/-! ### Ports (R139, R140, Table 1.9) -/

theorem fld_eq_extract (w : Word) (lo n : Nat) : fld w lo n = (w.extractLsb' lo n).toNat := (BitVec.extractLsb'_toNat _ _ _).symm

/-- The word of a calibration status whose count is replaced. -/
theorem calCount_extract (old : Word) (c : BitVec 16) :
    ((old &&& ~~~(0xFFFF00#32)) ||| c.setWidth 32 <<< 8).extractLsb' 8 16 = c ∧ ((old &&& ~~~(0xFFFF00#32)) ||| c.setWidth 32 <<< 8).extractLsb' 0 8 = old.extractLsb' 0 8 := by
  have hmask : (~~~(0xFFFF00#32)).extractLsb' 8 16 = 0#16 ∧ (~~~(0xFFFF00#32)).extractLsb' 0 8 = BitVec.allOnes 8 := by decide
  constructor
  · rw [BitVec.extractLsb'_or, BitVec.extractLsb'_and, hmask.1, BitVec.and_zero, BitVec.zero_or]
    ext i hi
    simp only [BitVec.getElem_extractLsb', BitVec.getLsbD_shiftLeft, BitVec.getLsbD_setWidth]
    have h1 : 8 + i < 32 := by omega
    have h2 : ¬ 8 + i < 8 := by omega
    simp [h1]
    grind
  · rw [BitVec.extractLsb'_or, BitVec.extractLsb'_and, hmask.2, BitVec.and_allOnes]
    ext i hi
    simp only [BitVec.getElem_or, BitVec.getElem_extractLsb', BitVec.getLsbD_shiftLeft]
    simp [hi]

theorem mkWord_count {n : Nat} (h : n < 65536) : mkWord [(8, n)] = (BitVec.ofNat 16 n).setWidth 32 <<< 8 := by
  apply BitVec.eq_of_toNat_eq
  simp only [mkWord, List.foldl_cons, List.foldl_nil, Nat.zero_add, BitVec.toNat_ofNat, BitVec.toNat_shiftLeft, BitVec.toNat_setWidth, Nat.shiftLeft_eq]
  omega

theorem fld_calCount_count {old : Word} {n : Nat} (h : n < 65536) : fld ((old &&& ~~~(0xFFFF00#32)) ||| mkWord [(8, n)]) 8 16 = n := by
  rw [fld_eq_extract, mkWord_count h, (calCount_extract _ _).1, BitVec.toNat_ofNat]
  omega

theorem fld_calCount_low {old : Word} {n : Nat} (h : n < 65536) : fld ((old &&& ~~~(0xFFFF00#32)) ||| mkWord [(8, n)]) 0 8 = fld old 0 8 := by
  rw [fld_eq_extract, mkWord_count h, (calCount_extract _ _).2, fld_eq_extract]

theorem exists_next_phyLinkUp (s : State) (p speed : Nat) (old : Word) (hwf : RegsWf s) (hhub : s.hubOn = true) (hused : s.portUsed p = true)
    (hlen : p < s.ftn.ports.length) (hdown : (s.ftn.ports.getD p Reset.port).up = false) (hold : old = s.reg Off.FTN_TS_CAL_STATUS) :
    (speed = portSpeed p → ∃ t, exec (.phyLinkUp p speed) s = .next t ∧
      t.ftn.ports.getD p Reset.port = { s.ftn.ports.getD p Reset.port with up := true, noStamp := false, cal := .measuring, calRun := true, calStep := 0, dev := satSigned 16 (Config.freeInt s.free), partnerDev := none, loopMeas := [], wayMeas := [], noLoop := false } ∧
      (∀ q, q ≠ p → t.ftn.ports.getD q Reset.port = s.ftn.ports.getD q Reset.port) ∧ t.ftn = { s.ftn with ports := t.ftn.ports } ∧ t.free = s.free + 1 ∧
      t.reg (Off.FTN_TS_CORR + 4 * p) = mkWord [(0, code 16 (satSigned 16 (Config.freeInt s.free))), (16, 1)] &&& regMask (Off.FTN_TS_CORR + 4 * p) ∧
      RegsOnly [Off.FTN_TS_CORR + 4 * p] s t ∧ OnlyIn [.free, .regs, .ftn] s t) ∧
    (speed ≠ portSpeed p → ∃ t, exec (.phyLinkUp p speed) s = .next t ∧
      t.ftn.ports.getD p Reset.port = { s.ftn.ports.getD p Reset.port with up := true, noStamp := true } ∧
      (∀ q, q ≠ p → t.ftn.ports.getD q Reset.port = s.ftn.ports.getD q Reset.port) ∧ t.ftn = { s.ftn with ports := t.ftn.ports } ∧
      fld (t.reg Off.FTN_TS_CAL_STATUS) 8 16 = min 65535 (fld old 8 16 + 1) ∧ fld (t.reg Off.FTN_TS_CAL_STATUS) 0 8 = fld old 0 8 ∧
      RegsOnly [Off.FTN_TS_CAL_STATUS] s t ∧ OnlyIn [.regs, .ftn] s t) := by
  have hp : p < 22 := by
    unfold State.portUsed at hused
    rw [Bool.and_eq_true, decide_eq_true_iff] at hused
    exact hused.1
  have hcond : (s.hubOn && s.portUsed p && decide (p < 22) && !(s.ftn.ports.getD p Reset.port).up) = true := by
    rw [hhub, hused, decide_eq_true hp, hdown]
    rfl
  refine ⟨fun h => ?_, fun h => ?_⟩
  · have hexec : exec (.phyLinkUp p speed) s = .next (calStart p (setPort p (fun x => { x with up := true, noStamp := false }) s)) := by
      have hok : (speed == portSpeed p) = true := beq_iff_eq.mpr h
      refine congrArg Host.Outcome.next ((if_pos hcond).trans ?_)
      rw [hok]
      rfl
    refine ⟨_, hexec, ?_, fun q hq => ?_, rfl, rfl, ?_, ?_, only_calStart (only_setPort only_refl)⟩
    · refine (getD_modAt_self _ _ _ _ (by rw [show (setPort p (fun x => { x with up := true, noStamp := false }) s).ftn.ports = modAt s.ftn.ports p _ from rfl, length_modAt]; exact hlen)).trans ?_
      rw [show (setPort p (fun x => { x with up := true, noStamp := false }) s).ftn.ports.getD p Reset.port = { s.ftn.ports.getD p Reset.port with up := true, noStamp := false } from
        getD_modAt_self _ _ _ _ hlen]
      rfl
    · exact (getD_modAt_ne _ _ _ _ _ hq).trans (getD_modAt_ne _ _ _ _ _ hq)
    · exact reg_setReg_self _ _ _ (wf_mk (wf_mk hwf))
    · have hoff : Off.FTN_TS_CORR + 4 * p < 16777216 := by
        have : Off.FTN_TS_CORR < 16777000 := by decide
        omega
      refine fun k hk => reg_setReg_ne _ _ _ _ fun h => hk ?_
      rw [h, Nat.mod_eq_of_lt hoff]
      exact List.mem_singleton_self _
  · have hexec : exec (.phyLinkUp p speed) s = .next (setReg Off.FTN_TS_CAL_STATUS
        ((old &&& ~~~(0xFFFF00#32)) ||| mkWord [(8, min 65535 (fld old 8 16 + 1))]) (setPort p (fun x => { x with up := true, noStamp := true }) s)) := by
      have hok : (speed == portSpeed p) = false := beq_eq_false_iff_ne.mpr h
      refine congrArg Host.Outcome.next ((if_pos hcond).trans ?_)
      rw [hok, hold]
      rfl
    have hstatus : (setReg Off.FTN_TS_CAL_STATUS ((old &&& ~~~(0xFFFF00#32)) ||| mkWord [(8, min 65535 (fld old 8 16 + 1))])
        (setPort p (fun x => { x with up := true, noStamp := true }) s)).reg Off.FTN_TS_CAL_STATUS = (old &&& ~~~(0xFFFF00#32)) ||| mkWord [(8, min 65535 (fld old 8 16 + 1))] :=
      reg_setReg_unmasked _ _ _ (wf_mk hwf) (by decide)
    refine ⟨_, hexec, getD_modAt_self _ _ _ _ hlen, fun q hq => getD_modAt_ne _ _ _ _ _ hq, rfl, ?_, ?_, regs_setReg (regs_mk regs_refl), only_setReg (only_setPort only_refl)⟩
    · rw [hstatus, fld_calCount_count (by omega)]
    · rw [hstatus, fld_calCount_low (by omega)]

theorem exists_next_portDown (s : State) (p : Nat) (hhub : s.hubOn = true) (hlow : 4 ≤ p) (hp : p < 22) (hlen : p < s.ftn.ports.length)
    (hport : (s.ftn.ports.getD p Reset.port).up = true) :
    ∃ t, exec (.portDown p) s = .next t ∧
      t.ftn.ports.getD p Reset.port = { s.ftn.ports.getD p Reset.port with up := false, noStamp := false, delay := none, delays := [], sent := [], echoSeq := 65535, lastCheck := none } ∧
      (∀ q, q ≠ p → t.ftn.ports.getD q Reset.port = s.ftn.ports.getD q Reset.port) ∧ t.ftn = { s.ftn with ports := t.ftn.ports } ∧
      Recorded 0x0703 [iU8 1 p, iU8 2 1] s t ∧ RegsOnly [Off.REC_LOST_CNT] s t ∧ OnlyIn (.ftn :: recParts) s t := by
  have hexec : exec (.portDown p) s = .next (record 0x0703 [iU8 1 p, iU8 2 1] (setPort p Port.down s)) := by
    refine congrArg Host.Outcome.next (if_pos ?_)
    rw [hhub, decide_eq_true hlow, decide_eq_true hp, hport]
    rfl
  have hset : OnlyIn [.ftn] s (setPort p Port.down s) := only_setPort only_refl
  have hftn : (record 0x0703 [iU8 1 p, iU8 2 1] (setPort p Port.down s)).ftn = (setPort p Port.down s).ftn := record_ftn _ _ _
  refine ⟨_, hexec, ?_, fun q hq => ?_, ?_, recorded_record_of hset, regs_record (regs_setPort regs_refl), only_record (only_setPort only_refl)⟩
  · rw [hftn]
    exact getD_modAt_self _ _ _ _ hlen
  · rw [hftn]
    exact getD_modAt_ne _ _ _ _ _ hq
  · rw [hftn]
    rfl

/-- Settles O60, command by command. -/
theorem samplingAndPorts : Obligations.SamplingAndPorts :=
  ⟨exists_next_sampleStrobe, exists_next_axisAgrees, exists_next_axisOfTwo, exists_next_codeAgrees, exists_next_codeJudged, exists_next_phyLinkUp, exists_next_portDown⟩

end Sys2Proof.Machine

namespace Sys2Proof.Machine

set_option Elab.async false

/-! ### More channels than the module has

No statement on the outputs bounds the list of channels, and the configuration of a 174th would stand where the count of skipped dark tests does. -/

/-- A dark test on channel 0, whose group is open, and a channel 173 that drives its image. -/
def manyOuts : List Out := { Reset.out with dark := true } :: List.replicate 172 Reset.out ++ [{ Reset.out with fresh := true, image := true }]

/-- A running module with so many channels. -/
def manyChannels : State := { State.reset with
  isl := { State.reset.isl with powered := true }
  sys := { Reset.sys with mode := .operational }
  vot := { Reset.vot with lanes := Reset.vot.lanes.map fun _ x => { x with phase := .inVote }, slices := 7 }
  dio := { Reset.dio with outs := manyOuts, enabled := true } }

/-- The end of the dark test is counted in the word that configures channel 173, whose switch has been set by the word before. -/
def leavesStale (c : Instr) (s : State) : Bool :=
  match exec c s with
  | .next t => decide (173 < t.dio.outs.length) && (t.dout 173).on && !t.resolve 173 (t.dout 173)
  | _ => false

theorem not_resolved_of_leavesStale {c : Instr} {s t : State} (h : leavesStale c s = true) (hexec : exec c s = .next t) : ¬ Resolved t := by
  unfold leavesStale at h
  rw [hexec] at h
  simp only [Bool.and_eq_true, decide_eq_true_eq, Bool.not_eq_true'] at h
  obtain ⟨⟨hlen, hon⟩, hoff⟩ := h
  intro hres
  rw [hres 173 hlen, hoff] at hon
  exact absurd hon (by decide)

theorem manyChannels_form : RegsWf manyChannels := rfl

/-- Refutes O37: a filtered input evaluates the matrix, which ends a dark test of channel 0 and counts it where a list of 174 channels has the
configuration of its last. -/
theorem not_fieldInputs : ¬ Obligations.FieldInputs := by
  unfold Obligations.FieldInputs
  rintro ⟨hchange, _⟩
  obtain ⟨t, hexec, _, _, _, _, _, _, _, _, _, hres, _⟩ := hchange manyChannels 0 1 .on manyChannels_form (by decide +kernel) (by decide) (by decide)
    (by decide +kernel) (by decide +kernel) (by decide +kernel) (by decide +kernel)
  exact not_resolved_of_leavesStale (by decide +kernel) hexec hres

/-- Refutes O38: a write of the output commands ends a dark test of channel 0 and counts it where a list of 174 channels has the configuration of its last. -/
theorem not_outputsAndSupplies : ¬ Obligations.OutputsAndSupplies := by
  unfold Obligations.OutputsAndSupplies
  rintro ⟨hwrite, _⟩
  obtain ⟨t, hexec, _, _, hres, _⟩ := hwrite manyChannels 0 manyChannels_form (by decide +kernel) (by decide +kernel)
  exact not_resolved_of_leavesStale (by decide +kernel) hexec hres

/-- Refutes O39: a reset of a trip ends a dark test of channel 0 and counts it where a list of 174 channels has the configuration of its last. -/
theorem not_outputFaultsAndRequests : ¬ Obligations.OutputFaultsAndRequests := by
  unfold Obligations.OutputFaultsAndRequests
  rintro ⟨_, _, _, _, _, _, _, _, htrip, _⟩
  obtain ⟨hreset, _⟩ := htrip manyChannels 0 manyChannels_form (by decide) (by decide +kernel) (by decide +kernel)
  obtain ⟨t, hexec, _, hres, _⟩ := hreset (by decide +kernel)
  exact not_resolved_of_leavesStale (by decide +kernel) hexec hres

/-- Refutes O56: the opening of test access ends a dark test of channel 0 and counts it where a list of 174 channels has the configuration of its last. -/
theorem not_lifeCycle : ¬ Obligations.LifeCycle := by
  unfold Obligations.LifeCycle
  rintro ⟨_, _, hopen, _⟩
  obtain ⟨t, hexec, _, _, hres, _⟩ := hopen manyChannels (.openBoundaryScan 3) 3 true false 1 (by decide +kernel) (by decide +kernel)
    (.inl ⟨rfl, by decide, rfl, rfl, by decide +kernel⟩)
  exact not_resolved_of_leavesStale (by decide +kernel) hexec hres

end Sys2Proof.Machine

namespace Sys2Proof.Machine

set_option Elab.async false

/-! ### Registers and cycle engines of a lane -/

theorem regMask_laneKey (l : Lane) (off : Nat) : regMask (laneKey l off) = regMask off := by
  unfold regMask laneKey
  rw [Nat.mul_add_mod_self_right]

/-- A lane's register without reserved bits takes the value written. -/
theorem reg_setReg_lane {s : State} (l : Lane) {off : Nat} (v : Word) (hwf : RegsWf s) (h : off < 16777216 ∧ regMask off = BitVec.allOnes 32 := by decide) :
    (setReg (laneKey l off) v s).reg (laneKey l off) = v :=
  reg_setReg_unmasked _ v s hwf ((regMask_laneKey l off).trans h.2)

/-- A lane's counter without reserved bits advances by one. -/
theorem reg_bumpLane_self {s : State} (l : Lane) {off : Nat} (hwf : RegsWf s) (h : off < 16777216 ∧ regMask off = BitVec.allOnes 32 := by decide) :
    (bumpLane l off s).reg (laneKey l off) = s.reg (laneKey l off) + 1 :=
  reg_bump_unmasked _ s hwf ((regMask_laneKey l off).trans h.2)

theorem laneCyc_congr {s t : State} (h : t.cyc = s.cyc) (l : Lane) : t.laneCyc l = s.laneCyc l := by
  unfold State.laneCyc
  rw [h]

theorem laneCyc_of_only {P : List Part} {s t : State} (h : OnlyIn P s t) (l : Lane) (hP : Part.cyc ∉ P := by decide) : t.laneCyc l = s.laneCyc l :=
  laneCyc_congr (h.2 .cyc hP) l

@[simp] theorem laneCyc_setCyc_self (l : Lane) (f : LaneCyc → LaneCyc) (s : State) : (setCyc l f s).laneCyc l = f (s.laneCyc l) := get_modify_self _ _ _

theorem laneCyc_setCyc_ne {l m : Lane} (f : LaneCyc → LaneCyc) (s : State) (h : m ≠ l) : (setCyc l f s).laneCyc m = s.laneCyc m := get_modify_ne _ _ _ _ h

theorem only_setCyc {P : List Part} {b s : State} {l : Lane} {f : LaneCyc → LaneCyc} (h : OnlyIn P b s) (hP : ∀ p ∈ [Part.cyc], p ∈ P := by decide) :
    OnlyIn P b (setCyc l f s) :=
  only_via h hP fun _ h => only_mk h

theorem mem_pend_assertAt (l : Lane) (id : Nat) (s : State) (h : irqAssigned id = true) : id ∈ ((assertAt l id s).icus.get l).pend := by
  rw [assertAt, get_modify_self]
  exact mem_pend_assert _ _ _ h

/-! ### Batches of online changes and of forces (R313, R314, R318, R319) -/

/-- The rejection of an entry or a command: what it notes in the lane's engine, its counter, and a command's interrupt. -/
def batchReject (l : Lane) (f : LaneCyc → LaneCyc) (off id : Nat) (cmd : Bool) (s : State) : State :=
  s |> setCyc l f |> bumpLane l off |> when cmd (assertAt l id)

theorem ocReject_eq (l : Lane) (cause : Nat) (cmd : Bool) (s : State) :
    ocReject l cause cmd s = batchReject l (fun c => { c with oc := .rejected, ocCause := cause }) Off.CYC_OC_REJECTS Irq.CYC_OC_DONE cmd s := rfl

theorem frcReject_eq (l : Lane) (cause : Nat) (cmd : Bool) (s : State) :
    frcReject l cause cmd s = batchReject l (fun c => { c with frc := .rejected, frcCause := cause }) Off.CYC_FRC_REJECTS Irq.CYC_FRC_DONE cmd s := rfl

section
variable {P : List Part} {b s : State} {l : Lane} {f : LaneCyc → LaneCyc} {off id : Nat}

theorem only_batchReject {cmd : Bool} (h : OnlyIn P b s) (hP : ∀ p ∈ [Part.regs, .cyc, .icus], p ∈ P := by decide) : OnlyIn P b (batchReject l f off id cmd s) :=
  only_via h hP fun _ h => only_when only_assertAt (only_bumpLane (only_setCyc h))

/-- The rejection of an entry raises no interrupt. -/
theorem only_batchReject_entry (h : OnlyIn P b s) (hP : ∀ p ∈ [Part.regs, .cyc], p ∈ P := by decide) : OnlyIn P b (batchReject l f off id false s) :=
  only_via h hP fun _ h => only_bumpLane (only_setCyc h)

theorem laneCyc_batchReject_self (cmd : Bool) (s : State) : (batchReject l f off id cmd s).laneCyc l = f (s.laneCyc l) := by
  have hrest : OnlyIn [.regs, .icus] (setCyc l f s) (batchReject l f off id cmd s) := only_when only_assertAt (only_bumpLane only_refl)
  rw [laneCyc_of_only hrest, laneCyc_setCyc_self]

theorem laneCyc_batchReject_ne {m : Lane} (cmd : Bool) (s : State) (h : m ≠ l) : (batchReject l f off id cmd s).laneCyc m = s.laneCyc m := by
  have hrest : OnlyIn [.regs, .icus] (setCyc l f s) (batchReject l f off id cmd s) := only_when only_assertAt (only_bumpLane only_refl)
  rw [laneCyc_of_only hrest, laneCyc_setCyc_ne f s h]

theorem batchReject_reg (cmd : Bool) (s : State) (k : Nat) : (batchReject l f off id cmd s).reg k = (bumpLane l off s).reg k := by
  have hrest : OnlyIn [.icus] (bumpLane l off (setCyc l f s)) (batchReject l f off id cmd s) := only_when only_assertAt only_refl
  rw [reg_of_only k hrest]
  rfl

theorem regs_batchReject {R : List Nat} {cmd : Bool} (h : RegsOnly R b s) (hk : off < 16777216 ∧ off ∈ R := by decide) : RegsOnly R b (batchReject l f off id cmd s) :=
  fun k hk' => (batchReject_reg cmd s k).trans (regs_bumpLane h hk k hk')

theorem mem_pend_batchReject (s : State) (h : irqAssigned id = true) : id ∈ ((batchReject l f off id true s).icus.get l).pend :=
  mem_pend_assertAt l id _ h

end

/-- A rejected command shows in its lane alone: the note, the counter and the interrupt. -/
theorem exists_next_batchReject {o : Host.Outcome State Fault Refusal} {off id : Nat} {s : State} (l : Lane) (f : LaneCyc → LaneCyc) (hwf : RegsWf s)
    (ho : o = .next (batchReject l f off id true s)) (hoff : off < 16777216 ∧ regMask off = BitVec.allOnes 32 := by decide)
    (hid : irqAssigned id = true := by decide) :
    ∃ t, o = .next t ∧ t.laneCyc l = f (s.laneCyc l) ∧ (∀ m, m ≠ l → t.laneCyc m = s.laneCyc m) ∧ t.reg (laneKey l off) = s.reg (laneKey l off) + 1 ∧
      id ∈ (t.icus.get l).pend ∧ RegsOnly [off] s t ∧ OnlyIn [.regs, .cyc, .icus] s t :=
  ⟨_, ho, laneCyc_batchReject_self true s, fun _ => laneCyc_batchReject_ne true s, (batchReject_reg true s _).trans (reg_bumpLane_self l hwf hoff),
    mem_pend_batchReject s hid, regs_batchReject regs_refl ⟨hoff.1, List.mem_singleton_self _⟩, only_batchReject only_refl⟩

/-- A command that is taken changes its lane's engine alone. -/
theorem exists_next_setCyc {o : Host.Outcome State Fault Refusal} {s : State} (l : Lane) (f : LaneCyc → LaneCyc) (ho : o = .next (setCyc l f s)) :
    ∃ t, o = .next t ∧ t.laneCyc l = f (s.laneCyc l) ∧ (∀ m, m ≠ l → t.laneCyc m = s.laneCyc m) ∧ OnlyIn [.cyc] s t :=
  ⟨_, ho, laneCyc_setCyc_self l f s, fun _ => laneCyc_setCyc_ne f s, only_setCyc only_refl⟩

/-- A command of a lane's engine runs while the hub is up and the lane is in vote. -/
theorem next_when_inVote {f : State → State} {s u : State} {l : Lane} (hup : s.up = true) (hin : s.inVote l = true) (hf : f s = u) :
    (Host.Outcome.next (when (s.up && s.inVote l) f s) : Host.Outcome State Fault Refusal) = .next u := by
  rw [hup, hin, Bool.and_self, when_true, hf]

/-- The words a batch is staged from are others than the one that stages. -/
theorem cycReg_setReg_ne {s : State} {l : Lane} {o off : Nat} (v : Word) (h : off ≠ o) : cycReg (setReg (laneKey l o) v s) l off = s.reg (laneKey l off) :=
  reg_setReg_ne _ _ v s (laneKey_ne_of_offset h)

section
variable {s : State} {l : Lane} {hi : Word} {off rej id : Nat} {f : LaneCyc → LaneCyc}

/-- An entry staged by a write of its high word: the word stands, and the lane's engine has taken it. -/
theorem staged (hwf : RegsWf s) (hoff : off < 16777216 ∧ regMask off = BitVec.allOnes 32) :
    (setCyc l f (setReg (laneKey l off) hi s)).reg (laneKey l off) = hi ∧ (setCyc l f (setReg (laneKey l off) hi s)).laneCyc l = f (s.laneCyc l) ∧
      (∀ m, m ≠ l → (setCyc l f (setReg (laneKey l off) hi s)).laneCyc m = s.laneCyc m) ∧ RegsOnly [off, rej] s (setCyc l f (setReg (laneKey l off) hi s)) ∧
      OnlyIn [.regs, .cyc] s (setCyc l f (setReg (laneKey l off) hi s)) := by
  have hset : OnlyIn [.regs] s (setReg (laneKey l off) hi s) := only_setReg only_refl
  have hrest : OnlyIn [.cyc] (setReg (laneKey l off) hi s) (setCyc l f (setReg (laneKey l off) hi s)) := only_setCyc only_refl
  refine ⟨?_, ?_, fun m hm => ?_, ?_, only_setCyc (only_setReg only_refl)⟩
  · rw [reg_of_only _ hrest, reg_setReg_lane l hi hwf hoff]
  · rw [laneCyc_setCyc_self, laneCyc_of_only hset]
  · rw [laneCyc_setCyc_ne f _ hm, laneCyc_of_only hset]
  · exact regs_of_only (regs_setReg regs_refl (laneKey_mem l ⟨hoff.1, List.mem_cons_self⟩)) hrest

/-- An entry rejected at the write of its high word: the word stands, and the rejection is noted and counted. -/
theorem stage_rejected (hwf : RegsWf s) (hoff : off < 16777216 ∧ regMask off = BitVec.allOnes 32) (hrej : rej < 16777216 ∧ regMask rej = BitVec.allOnes 32)
    (hne : rej ≠ off) :
    (batchReject l f rej id false (setReg (laneKey l off) hi s)).reg (laneKey l off) = hi ∧
      (batchReject l f rej id false (setReg (laneKey l off) hi s)).laneCyc l = f (s.laneCyc l) ∧
      (batchReject l f rej id false (setReg (laneKey l off) hi s)).reg (laneKey l rej) = s.reg (laneKey l rej) + 1 ∧
      (∀ m, m ≠ l → (batchReject l f rej id false (setReg (laneKey l off) hi s)).laneCyc m = s.laneCyc m) ∧
      RegsOnly [off, rej] s (batchReject l f rej id false (setReg (laneKey l off) hi s)) ∧
      OnlyIn [.regs, .cyc] s (batchReject l f rej id false (setReg (laneKey l off) hi s)) := by
  have hset : OnlyIn [.regs] s (setReg (laneKey l off) hi s) := only_setReg only_refl
  refine ⟨?_, ?_, ?_, fun m hm => ?_, ?_, only_batchReject_entry (only_setReg only_refl)⟩
  · rw [batchReject_reg, bumpLane, reg_bump_ne _ _ _ (laneKey_ne_of_offset hne.symm), reg_setReg_lane l hi hwf hoff]
  · rw [laneCyc_batchReject_self, laneCyc_of_only hset]
  · rw [batchReject_reg, reg_bumpLane_self l (wf_setReg hwf) hrej, reg_setReg_ne _ _ _ _ (laneKey_ne_of_offset hne)]
  · rw [laneCyc_batchReject_ne false _ hm, laneCyc_of_only hset]
  · exact regs_batchReject (regs_setReg regs_refl (laneKey_mem l ⟨hoff.1, List.mem_cons_self⟩)) ⟨hrej.1, List.mem_cons_of_mem _ List.mem_cons_self⟩

end

theorem cpf_congr {s t : State} (h : t.nv = s.nv) : t.cpf = s.cpf := by
  unfold State.cpf State.runSlot State.typeSlots
  rw [h]

/-! ### The commands -/

theorem exists_next_ocStage (s : State) (l : Lane) (hi addr : Word) (e : OcEntry) (hwf : RegsWf s) (hup : s.up = true) (hin : s.inVote l = true)
    (haddr : addr = s.reg (laneKey l Off.CYC_OC_ADDR))
    (he : e = ⟨fld (s.reg (laneKey l Off.CYC_OC_SEL)) 0 6, addr, hi ++ s.reg (laneKey l Off.CYC_OC_VAL_LO)⟩) :
    ∃ t, exec (.ocStage l hi) s = .next t ∧ t.reg (laneKey l Off.CYC_OC_VAL_HI) = hi ∧
      (sizeOk 4 addr = true → targetIn addr (Config.changeable s.cpf) = true →
        t.laneCyc l = { s.laneCyc l with oc := .staging, ocCause := 0, ocList := insOc e (s.laneCyc l).ocList }) ∧
      (sizeOk 4 addr = true → targetIn addr (Config.changeable s.cpf) = false →
        t.laneCyc l = { s.laneCyc l with oc := .rejected, ocCause := 1 }) ∧
      (sizeOk 4 addr = false → t.laneCyc l = { s.laneCyc l with oc := .rejected, ocCause := 2 } ∧
        t.reg (laneKey l Off.CYC_OC_REJECTS) = s.reg (laneKey l Off.CYC_OC_REJECTS) + 1) ∧ (∀ m, m ≠ l → t.laneCyc m = s.laneCyc m) ∧
      RegsOnly [Off.CYC_OC_VAL_HI, Off.CYC_OC_REJECTS] s t ∧ OnlyIn [.regs, .cyc] s t := by
  have hcpf : (setReg (laneKey l Off.CYC_OC_VAL_HI) hi s).cpf = s.cpf := cpf_congr (setReg_nv _ _ _)
  have hop : ocStageOp l hi s =
      if !sizeOk 4 addr then batchReject l (fun c => { c with oc := .rejected, ocCause := 2 }) Off.CYC_OC_REJECTS Irq.CYC_OC_DONE false (setReg (laneKey l Off.CYC_OC_VAL_HI) hi s)
      else if !targetIn addr (Config.changeable s.cpf) then
        batchReject l (fun c => { c with oc := .rejected, ocCause := 1 }) Off.CYC_OC_REJECTS Irq.CYC_OC_DONE false (setReg (laneKey l Off.CYC_OC_VAL_HI) hi s)
      else setCyc l (fun c => { c with oc := .staging, ocCause := 0, ocList := insOc e c.ocList }) (setReg (laneKey l Off.CYC_OC_VAL_HI) hi s) := by
    unfold ocStageOp stagedValue
    dsimp only
    rw [cycReg_setReg_ne hi (by decide), cycReg_setReg_ne hi (by decide), cycReg_setReg_ne hi (by decide), ← haddr, ← he, hcpf, ocReject_eq, ocReject_eq]
  cases hsize : sizeOk 4 addr with
  | false =>
    rw [hsize, Bool.not_false, if_pos rfl] at hop
    obtain ⟨hreg, hcyc, hcount, hrest⟩ := stage_rejected (s := s) (l := l) (hi := hi) (f := fun c => { c with oc := .rejected, ocCause := 2 })
      (id := Irq.CYC_OC_DONE) hwf (off := Off.CYC_OC_VAL_HI) (by decide) (rej := Off.CYC_OC_REJECTS) (by decide) (by decide)
    exact ⟨_, next_when_inVote hup hin hop, hreg, fun h => Bool.noConfusion h, fun h => Bool.noConfusion h,
      fun _ => ⟨hcyc, hcount⟩, hrest⟩
  | true =>
    rw [hsize, Bool.not_true, if_neg Bool.false_ne_true] at hop
    cases htarget : targetIn addr (Config.changeable s.cpf) with
    | false =>
      rw [htarget, Bool.not_false, if_pos rfl] at hop
      obtain ⟨hreg, hcyc, _, hrest⟩ := stage_rejected (s := s) (l := l) (hi := hi) (f := fun c => { c with oc := .rejected, ocCause := 1 })
        (id := Irq.CYC_OC_DONE) hwf (off := Off.CYC_OC_VAL_HI) (by decide) (rej := Off.CYC_OC_REJECTS) (by decide) (by decide)
      exact ⟨_, next_when_inVote hup hin hop, hreg, fun _ h => Bool.noConfusion h, fun _ _ => hcyc,
        fun h => Bool.noConfusion h, hrest⟩
    | true =>
      rw [htarget, Bool.not_true, if_neg Bool.false_ne_true] at hop
      obtain ⟨hreg, hcyc, hrest⟩ := staged (s := s) (l := l) (hi := hi) (rej := Off.CYC_OC_REJECTS) hwf (off := Off.CYC_OC_VAL_HI) (by decide)
      exact ⟨_, next_when_inVote hup hin hop, hreg, fun _ _ => hcyc, fun _ h => Bool.noConfusion h,
        fun h => Bool.noConfusion h, hrest⟩

theorem exists_next_ocCommit (s : State) (l : Lane) (tgt : Nat) (hup : s.up = true) (hin : s.inVote l = true)
    (htgt : tgt = fld (s.reg (laneKey l Off.CYC_OC_TARGET)) 0 16) (hpend : (s.laneCyc l).ocPend = none) (hlist : (s.laneCyc l).ocList ≠ [])
    (hok : s.targetOk tgt = true) :
    ∃ t, exec (.ocCommit l 0x4F43) s = .next t ∧ t.laneCyc l = { s.laneCyc l with oc := .pending, ocCause := 0, ocPend := some (s.laneCyc l).ocList, ocList := [], ocTarget := tgt } ∧
      (∀ m, m ≠ l → t.laneCyc m = s.laneCyc m) ∧ OnlyIn [.cyc] s t := by
  subst htgt
  refine exists_next_setCyc l
    (fun c => { c with oc := .pending, ocCause := 0, ocPend := some c.ocList, ocList := [], ocTarget := fld (s.reg (laneKey l Off.CYC_OC_TARGET)) 0 16 }) (next_when_inVote hup hin ?_)
  unfold ocCommitOp cycReg
  dsimp only
  rw [if_neg (by decide), hpend, if_neg (by decide), if_neg (by simpa using hlist), hok]
  exact if_neg (by decide)

/-- The causes of a rejected command of a batch, in the order of Table 9.11. -/
theorem exists_next_ocRejected (s : State) (l : Lane) (key : Half) (cause : Nat) (c : Instr) (hwf : RegsWf s) (hup : s.up = true) (hin : s.inVote l = true)
    (hc : key ≠ 0x4F43 ∧ cause = 6 ∧ (c = .ocCommit l key ∨ c = .ocDiscard l key) ∨
      c = .ocCommit l key ∧ key = 0x4F43 ∧ (cause = 3 ∧ (s.laneCyc l).ocPend ≠ none ∨ cause = 5 ∧ (s.laneCyc l).ocPend = none ∧ (s.laneCyc l).ocList = [] ∨
       cause = 4 ∧ (s.laneCyc l).ocPend = none ∧ (s.laneCyc l).ocList ≠ [] ∧ s.targetOk (fld (s.reg (laneKey l Off.CYC_OC_TARGET)) 0 16) = false)) :
    ∃ t, exec c s = .next t ∧ t.laneCyc l = { s.laneCyc l with oc := .rejected, ocCause := cause } ∧ (∀ m, m ≠ l → t.laneCyc m = s.laneCyc m) ∧
      t.reg (laneKey l Off.CYC_OC_REJECTS) = s.reg (laneKey l Off.CYC_OC_REJECTS) + 1 ∧ Irq.CYC_OC_DONE ∈ (t.icus.get l).pend ∧
      RegsOnly [Off.CYC_OC_REJECTS] s t ∧ OnlyIn [.regs, .cyc, .icus] s t := by
  refine exists_next_batchReject (off := Off.CYC_OC_REJECTS) (id := Irq.CYC_OC_DONE) l (fun c => { c with oc := .rejected, ocCause := cause }) hwf ?_
  rw [← ocReject_eq]
  obtain ⟨hkey, rfl, rfl | rfl⟩ | ⟨rfl, rfl, hcause⟩ := hc
  · exact next_when_inVote hup hin (if_pos (bne_iff_ne.mpr hkey))
  · exact next_when_inVote hup hin (if_pos (bne_iff_ne.mpr hkey))
  · refine next_when_inVote hup hin ?_
    unfold ocCommitOp cycReg
    dsimp only
    rw [if_neg (by decide)]
    obtain ⟨rfl, hpend⟩ | ⟨rfl, hpend, hlist⟩ | ⟨rfl, hpend, hlist, htarget⟩ := hcause
    · exact if_pos (Option.isSome_iff_ne_none.mpr hpend)
    · rw [hpend, if_neg (by decide), hlist, if_pos List.isEmpty_nil]
    · rw [hpend, if_neg (by decide), if_neg (by simpa using hlist), htarget, if_pos Bool.not_false]

theorem exists_next_ocDiscard (s : State) (l : Lane) (hup : s.up = true) (hin : s.inVote l = true) :
    ∃ t, exec (.ocDiscard l 0x4F43) s = .next t ∧
    t.laneCyc l = { s.laneCyc l with oc := (if (s.laneCyc l).ocPend.isSome then .pending else .idle), ocCause := 0, ocList := [] } ∧
    (∀ m, m ≠ l → t.laneCyc m = s.laneCyc m) ∧ OnlyIn [.cyc] s t :=
  exists_next_setCyc l (fun c => { c with oc := if c.ocPend.isSome then .pending else .idle, ocCause := 0, ocList := [] }) (next_when_inVote hup hin (if_neg (by decide)))

theorem forceArea_setReg (l : Lane) (hi : Word) (kind : Nat) (s : State) :
    (setReg (laneKey l Off.CYC_FRC_VAL_HI) hi s).forceArea l kind = s.forceArea l kind := by
  funext o
  unfold State.forceArea
  rw [cycReg_setReg_ne hi (by decide), cpf_congr (setReg_nv _ _ _)]
  rfl

theorem exists_next_forceStage (s : State) (l : Lane) (hi sel addr : Word) (f : Force) (hwf : RegsWf s) (hup : s.up = true) (hin : s.inVote l = true)
    (hsel : sel = s.reg (laneKey l Off.CYC_FRC_SEL)) (haddr : addr = s.reg (laneKey l Off.CYC_FRC_ADDR))
    (hf : f = ⟨fld sel 0 8, sel, addr, hi ++ s.reg (laneKey l Off.CYC_FRC_VAL_LO)⟩) :
    ∃ t, exec (.forceStage l hi) s = .next t ∧ t.reg (laneKey l Off.CYC_FRC_VAL_HI) = hi ∧
      (fld sel 16 2 < 3 → (bit sel 24 = true → sizeOk 5 addr = true ∧ targetIn addr (s.forceArea l (fld sel 16 2)) = true) →
        t.laneCyc l = { s.laneCyc l with frc := .staging, frcCause := 0, frcList := insForce f (s.laneCyc l).frcList }) ∧
      (fld sel 16 2 < 3 → bit sel 24 = true → sizeOk 5 addr = false →
        t.laneCyc l = { s.laneCyc l with frc := .rejected, frcCause := 2 } ∧
        t.reg (laneKey l Off.CYC_FRC_REJECTS) = s.reg (laneKey l Off.CYC_FRC_REJECTS) + 1) ∧
      (fld sel 16 2 = 3 → t.laneCyc l = { s.laneCyc l with frc := .rejected, frcCause := 1 }) ∧ (∀ m, m ≠ l → t.laneCyc m = s.laneCyc m) ∧
      RegsOnly [Off.CYC_FRC_VAL_HI, Off.CYC_FRC_REJECTS] s t ∧ OnlyIn [.regs, .cyc] s t := by
  have hkind : f.kind = fld sel 16 2 := by rw [hf]; rfl
  have hen : f.en = bit sel 24 := by rw [hf]; rfl
  let reject : Nat → State := fun cause =>
    batchReject l (fun c => { c with frc := .rejected, frcCause := cause }) Off.CYC_FRC_REJECTS Irq.CYC_FRC_DONE false (setReg (laneKey l Off.CYC_FRC_VAL_HI) hi s)
  have hop : frcStageOp l hi s = if fld sel 16 2 == 3 then reject 1 else if bit sel 24 && !sizeOk 5 addr then reject 2
      else if bit sel 24 && !targetIn addr (s.forceArea l (fld sel 16 2)) then reject 1
      else setCyc l (fun c => { c with frc := .staging, frcCause := 0, frcList := insForce f c.frcList }) (setReg (laneKey l Off.CYC_FRC_VAL_HI) hi s) := by
    unfold frcStageOp stagedValue
    dsimp only
    rw [cycReg_setReg_ne hi (by decide), cycReg_setReg_ne hi (by decide), cycReg_setReg_ne hi (by decide), ← haddr, ← hsel, ← hf, forceArea_setReg, hkind, hen]
    rfl
  have hreject (cause : Nat) := stage_rejected (s := s) (l := l) (hi := hi) (f := fun c => { c with frc := .rejected, frcCause := cause })
    (id := Irq.CYC_FRC_DONE) hwf (off := Off.CYC_FRC_VAL_HI) (by decide) (rej := Off.CYC_FRC_REJECTS) (by decide) (by decide)
  by_cases hthree : fld sel 16 2 = 3
  · rw [if_pos (beq_iff_eq.mpr hthree)] at hop
    obtain ⟨hreg, hcyc, _, hrest⟩ := hreject 1
    exact ⟨_, next_when_inVote hup hin hop, hreg, fun h => absurd hthree (Nat.ne_of_lt h), fun h => absurd hthree (Nat.ne_of_lt h), fun _ => hcyc, hrest⟩
  rw [if_neg (fun h => hthree (beq_iff_eq.mp h))] at hop
  cases hbad : bit sel 24 && !sizeOk 5 addr with
  | true =>
    rw [hbad, if_pos rfl] at hop
    obtain ⟨hset, hsize⟩ := Bool.and_eq_true_iff.mp hbad
    rw [Bool.not_eq_true'] at hsize
    obtain ⟨hreg, hcyc, hcount, hrest⟩ := hreject 2
    refine ⟨_, next_when_inVote hup hin hop, hreg, fun _ h => ?_, fun _ _ _ => ⟨hcyc, hcount⟩, fun h => absurd h hthree, hrest⟩
    exact absurd ((h hset).1.symm.trans hsize) (by decide)
  | false =>
    rw [hbad, if_neg Bool.false_ne_true] at hop
    have hsize (h : bit sel 24 = true) (hs : sizeOk 5 addr = false) : False := by simp [h, hs] at hbad
    cases hout : bit sel 24 && !targetIn addr (s.forceArea l (fld sel 16 2)) with
    | true =>
      rw [hout, if_pos rfl] at hop
      obtain ⟨hset, htarget⟩ := Bool.and_eq_true_iff.mp hout
      rw [Bool.not_eq_true'] at htarget
      obtain ⟨hreg, _, _, hrest⟩ := hreject 1
      refine ⟨_, next_when_inVote hup hin hop, hreg, fun _ h => ?_, fun _ h hs => (hsize h hs).elim, fun h => absurd h hthree, hrest⟩
      exact absurd ((h hset).2.symm.trans htarget) (by decide)
    | false =>
      rw [hout, if_neg Bool.false_ne_true] at hop
      obtain ⟨hreg, hcyc, hrest⟩ := staged (s := s) (l := l) (hi := hi) (rej := Off.CYC_FRC_REJECTS) hwf (off := Off.CYC_FRC_VAL_HI) (by decide)
      exact ⟨_, next_when_inVote hup hin hop, hreg, fun _ _ => hcyc, fun _ h hs => (hsize h hs).elim, fun h => absurd h hthree, hrest⟩

theorem exists_next_forceCommit (s : State) (l : Lane) (tgt : Nat) (hup : s.up = true) (hin : s.inVote l = true)
    (htgt : tgt = fld (s.reg (laneKey l Off.CYC_FRC_TARGET)) 0 16) (hpend : (s.laneCyc l).frcPend = none) (hlist : (s.laneCyc l).frcList ≠ [])
    (hok : s.targetOk tgt = true) (hoverlap : forceOverlap (forceEdit (s.laneCyc l).forces (s.laneCyc l).frcList) = false) :
    ∃ t, exec (.forceCommit l 0x4643) s = .next t ∧ t.laneCyc l = { s.laneCyc l with frc := .pending, frcCause := 0, frcPend := some (s.laneCyc l).frcList, frcList := [], frcTarget := tgt } ∧
      (∀ m, m ≠ l → t.laneCyc m = s.laneCyc m) ∧ OnlyIn [.cyc] s t := by
  subst htgt
  refine exists_next_setCyc l
    (fun c => { c with frc := .pending, frcCause := 0, frcPend := some c.frcList, frcList := [], frcTarget := fld (s.reg (laneKey l Off.CYC_FRC_TARGET)) 0 16 }) (next_when_inVote hup hin ?_)
  unfold frcCommitOp cycReg
  dsimp only
  rw [if_neg (by decide), hpend, if_neg (by decide), if_neg (by simpa using hlist), hok, if_neg (by decide), hoverlap]
  exact if_neg (by decide)

theorem exists_next_forceRejected (s : State) (l : Lane) (key : Half) (cause : Nat) (c : Instr) (hwf : RegsWf s) (hup : s.up = true) (hin : s.inVote l = true)
    (hc : key ≠ 0x4643 ∧ cause = 6 ∧ (c = .forceCommit l key ∨ c = .forceDiscard l key) ∨
      c = .forceCommit l key ∧ key = 0x4643 ∧ (cause = 3 ∧ (s.laneCyc l).frcPend ≠ none ∨ cause = 5 ∧ (s.laneCyc l).frcPend = none ∧ (s.laneCyc l).frcList = [] ∨
       cause = 4 ∧ (s.laneCyc l).frcPend = none ∧ (s.laneCyc l).frcList ≠ [] ∧ s.targetOk (fld (s.reg (laneKey l Off.CYC_FRC_TARGET)) 0 16) = false ∨
       cause = 7 ∧ (s.laneCyc l).frcPend = none ∧ (s.laneCyc l).frcList ≠ [] ∧ s.targetOk (fld (s.reg (laneKey l Off.CYC_FRC_TARGET)) 0 16) = true ∧
         forceOverlap (forceEdit (s.laneCyc l).forces (s.laneCyc l).frcList) = true)) :
    ∃ t, exec c s = .next t ∧ t.laneCyc l = { s.laneCyc l with frc := .rejected, frcCause := cause } ∧ (∀ m, m ≠ l → t.laneCyc m = s.laneCyc m) ∧
      t.reg (laneKey l Off.CYC_FRC_REJECTS) = s.reg (laneKey l Off.CYC_FRC_REJECTS) + 1 ∧ Irq.CYC_FRC_DONE ∈ (t.icus.get l).pend ∧
      RegsOnly [Off.CYC_FRC_REJECTS] s t ∧ OnlyIn [.regs, .cyc, .icus] s t := by
  refine exists_next_batchReject (off := Off.CYC_FRC_REJECTS) (id := Irq.CYC_FRC_DONE) l (fun c => { c with frc := .rejected, frcCause := cause }) hwf ?_
  rw [← frcReject_eq]
  obtain ⟨hkey, rfl, rfl | rfl⟩ | ⟨rfl, rfl, hcause⟩ := hc
  · exact next_when_inVote hup hin (if_pos (bne_iff_ne.mpr hkey))
  · exact next_when_inVote hup hin (if_pos (bne_iff_ne.mpr hkey))
  · refine next_when_inVote hup hin ?_
    unfold frcCommitOp cycReg
    dsimp only
    rw [if_neg (by decide)]
    obtain ⟨rfl, hpend⟩ | ⟨rfl, hpend, hlist⟩ | ⟨rfl, hpend, hlist, htarget⟩ | ⟨rfl, hpend, hlist, htarget, hoverlap⟩ := hcause
    · exact if_pos (Option.isSome_iff_ne_none.mpr hpend)
    · rw [hpend, if_neg (by decide), hlist, if_pos List.isEmpty_nil]
    · rw [hpend, if_neg (by decide), if_neg (by simpa using hlist), htarget, if_pos Bool.not_false]
    · rw [hpend, if_neg (by decide), if_neg (by simpa using hlist), htarget, if_neg (by decide), if_pos hoverlap]

theorem exists_next_forceDiscard (s : State) (l : Lane) (hup : s.up = true) (hin : s.inVote l = true) :
    ∃ t, exec (.forceDiscard l 0x4643) s = .next t ∧
    t.laneCyc l = { s.laneCyc l with frc := (if (s.laneCyc l).frcPend.isSome then .pending else .idle), frcCause := 0, frcList := [] } ∧
    (∀ m, m ≠ l → t.laneCyc m = s.laneCyc m) ∧ OnlyIn [.cyc] s t :=
  exists_next_setCyc l (fun c => { c with frc := if c.frcPend.isSome then .pending else .idle, frcCause := 0, frcList := [] }) (next_when_inVote hup hin (if_neg (by decide)))

/-- Settles O36, command by command. -/
theorem onlineChangeAndForces : Obligations.OnlineChangeAndForces :=
  ⟨exists_next_ocStage, exists_next_ocCommit, exists_next_ocRejected, exists_next_ocDiscard, exists_next_forceStage, exists_next_forceCommit,
    exists_next_forceRejected, exists_next_forceDiscard⟩

end Sys2Proof.Machine

namespace Sys2Proof.Machine

set_option Elab.async false

/-! ### More ports than the module has

The end of a calibration is asked of every length of the list of ports, and the correction word of port 4,065,536 has a key among those of lane A. -/

/-- A port whose calibration runs, and whose partner has given no deviation. -/
def measuringPort : Port := { Reset.port with calRun := true }

/-- A module in operation with so many of them. -/
def manyPorts : State := { Tests.op with ftn := { Tests.op.ftn with ports := List.replicate 4065537 measuringPort } }

/-- The last of them. -/
def lastPort : Nat := 4065536

theorem port_manyPorts : manyPorts.port lastPort = measuringPort := by
  unfold State.port manyPorts
  dsimp only
  exact List.getD_replicate _ (by decide)

theorem calEnd_regs {p : Nat} {s : State} (h : s.port p = measuringPort) : (calEnd p s).regs = (setReg (Off.FTN_TS_CORR + 4 * p) 0x30000 s).regs := by
  unfold calEnd
  rw [h]
  rfl

theorem exec_calibrationEnd_manyPorts : exec (.calibrationEnd lastPort) manyPorts = .next (calEnd lastPort manyPorts) := by
  have hover : manyPorts.calOver lastPort = true := by
    unfold State.calOver
    rw [port_manyPorts]
    rfl
  have hup : manyPorts.up = true := by decide +kernel
  change Host.Outcome.next (when (manyPorts.up && manyPorts.calOver lastPort) (calEnd lastPort) manyPorts) = _
  rw [hover, hup]
  rfl

/-- Refutes O24: the correction word of port 4,065,536 has the key of offset 0x400 of lane A, which is not among those that a calibration may change. -/
theorem not_portCalibration : ¬ Obligations.PortCalibration := by
  unfold Obligations.PortCalibration
  rintro ⟨_, _, _, _, _, _, hend, _⟩
  obtain ⟨t, hexec, _, _, _, _, hregs, _⟩ := hend manyPorts lastPort (.calibrationEnd lastPort) (by decide +kernel)
    (by rw [manyPorts, List.length_replicate]; decide) (by rw [port_manyPorts]; rfl)
    (.inr ⟨rfl, by rw [port_manyPorts]; rfl, .inr (by decide)⟩)
  rw [exec_calibrationEnd_manyPorts, Host.Outcome.next.injEq] at hexec
  subst hexec
  have hreg := hregs (Off.FTN_TS_CORR + 4 * lastPort) (by decide)
  rw [reg_congr _ _ _ (calEnd_regs port_manyPorts), reg_setReg_self _ _ _ (by unfold RegsWf; rfl)] at hreg
  exact absurd hreg (by decide +kernel)

end Sys2Proof.Machine

namespace Sys2Proof.Machine

set_option Elab.async false

/-! ### Registers whose write has an action of its own -/

/-- The write of the register is a command beside the plain one, or acts through the cycle engine or a time base (R11). -/
def actsAlone (off : Nat) : Bool :=
  off == Off.CYC_OC_VAL_HI || off == Off.CYC_FRC_VAL_HI || (off / 65536 == 3 && decide (off < 0x30100) && (off % 64 == 0x18 || off % 64 == 0x30)) ||
    ownCommands.any fun r => decide (r.1 ≤ off) && decide (off < r.1 + r.2.1 * r.2.2) && (off - r.1) % r.2.1 == 0

theorem off_mod_four_of_rowAt {off : Nat} (h : (rowAt off).isSome = true) : off % 4 = 0 := by
  have hrows : ∀ r ∈ Regs.rows, r.off % 4 = 0 ∧ r.stride % 4 = 0 := by decide +kernel
  unfold rowAt at h
  obtain ⟨r, hmem, hr⟩ := List.find?_isSome.mp h
  obtain ⟨hoff, hstride⟩ := hrows r hmem
  simp only [Bool.and_eq_true, decide_eq_true_eq, beq_iff_eq] at hr
  obtain ⟨⟨hle, -⟩, hmod⟩ := hr
  have hdvd : 4 ∣ off - r.off := (Nat.dvd_of_mod_eq_zero hstride).trans (Nat.dvd_of_mod_eq_zero hmod)
  omega

section
variable {off : Nat} (h : actsAlone off = false)
include h

theorem ne_of_actsAlone {x : Nat} (hx : actsAlone x = true := by decide +kernel) : off ≠ x := by
  rintro rfl
  exact Bool.noConfusion (h.symm.trans hx)

theorem not_own {base stride n : Nat} (hmem : (base, stride, n) ∈ ownCommands) : ¬ (base ≤ off ∧ off < base + stride * n ∧ (off - base) % stride = 0) := by
  unfold actsAlone at h
  have hown := List.any_eq_false.mp (Bool.or_eq_false_iff.mp h).2 _ hmem
  simpa only [Bool.and_eq_true, decide_eq_true_eq, beq_iff_eq, and_assoc] using hown

theorem not_inRun (h4 : off % 4 = 0) {base n : Nat} (hmem : (base, 4, n) ∈ ownCommands ∧ base % 4 = 0 := by decide +kernel) : ¬ inRun off base n = true := by
  have hown := not_own h hmem.1
  unfold inRun
  rw [Bool.and_eq_true, decide_eq_true_eq, decide_eq_true_eq]
  rintro ⟨hle, hlt⟩
  exact hown ⟨hle, hlt, by omega⟩

theorem not_timeBase (hblock : off / 65536 = 3) (hlt : off < 0x30100) : off % 64 ≠ 0x18 ∧ off % 64 ≠ 0x30 := by
  unfold actsAlone at h
  simp only [Bool.or_eq_false_iff, Bool.and_eq_false_iff, beq_eq_false_iff_ne, decide_eq_false_iff_not] at h
  obtain ⟨⟨-, (hblock' | hge) | htb⟩, -⟩ := h
  · exact absurd hblock hblock'
  · exact absurd hlt hge
  · exact htb

theorem writeTb_of_plain (hblock : off / 65536 = 3) (l : Lane) (core : Nat) (v : Word) (s : State) : writeTb l core off v s = regWriteGen l core off v s := by
  have htb := not_timeBase h hblock
  have hin := not_own h (base := 0x30028) (stride := 64) (n := 4) (by decide +kernel)
  unfold writeTb
  dsimp only
  rw [if_neg (by simp; omega), if_neg (by simp; omega), if_neg (by simp; omega), if_neg (ne_of_actsAlone h)]

theorem writeDma_of_plain (hblock : off / 65536 = 10) (l : Lane) (core : Nat) (v : Word) (s : State) : writeDma l core off v s = regWriteGen l core off v s := by
  have hcmd := not_own h (base := 0xA0008) (stride := 64) (n := 16) (by decide +kernel)
  unfold writeDma
  rw [if_neg (by simp; omega)]

/-- The write of every other register is the plain one (R11, R12). -/
theorem regWriteOp_of_plain (h4 : off % 4 = 0) (l : Lane) (core stream : Nat) (v : Word) (s : State) :
    regWriteOp l core stream off v s = regWriteGen l core off v s := by
  have hne := @ne_of_actsAlone off h
  have hrun := @not_inRun off h h4
  unfold regWriteOp
  split
  · rw [writeIcu, if_neg hne, if_neg hne, if_neg hne, if_neg hrun, if_neg hrun]
  · rw [writeVot, if_neg hne, if_neg hne, if_neg hne]
  · rw [writeCyc, if_neg hne, if_neg hne, if_neg hne, if_neg hne, if_neg hne]
  · rename_i hblock
    exact writeTb_of_plain h hblock l core v s
  · rw [writePst, if_neg hne, if_neg hrun]
  · rw [writeOdo, if_neg hne]
  · rw [writeFtn, if_neg hne, if_neg hne, if_neg hne, if_neg hne, if_neg hne, if_neg, if_neg hne, if_neg hne, if_neg hne, if_neg hne]
    rw [Bool.or_eq_true, Bool.or_eq_true, decide_eq_true_eq, decide_eq_true_eq]
    exact fun hx => hx.elim (fun hx => hx.elim hne hne) hrun
  · rw [writeDio, if_neg hne, if_neg hne, if_neg hrun]
  · rw [writeBrg, if_neg hrun]
  · rename_i hblock
    exact writeDma_of_plain h hblock l core v s
  · rw [writeRec, if_neg hne, if_neg hne, if_neg hne]
  · rw [writeUpd, if_neg hne, if_neg hne]
  · exact if_neg hne
  · rw [writeChk, if_neg hne, if_neg hne]
  · rw [writeSys, if_neg hne, if_neg hne, if_neg hne]
  · rfl

theorem writeAt_of_plain (hw : writable off = true) (l : Lane) (core stream : Nat) (v : Word) (s : State) :
    writeAt l core stream off v s = regWriteGen l core off v s := by
  have hrow : (rowAt off).isSome = true := by
    unfold writable at hw
    split at hw
    · rename_i r hr
      rw [hr]
      rfl
    · exact Bool.noConfusion hw
  have hlisted : ¬ (rowAt off).isNone = true := by rw [← Option.not_isSome, hrow]; decide
  rw [writeAt, if_neg hlisted, hw, when_true, regWriteOp_of_plain h (off_mod_four_of_rowAt hrow)]
end

/-! ### 64-bit pairs, plain registers -/

/-- The low halves of the writable pairs. -/
def lowHalves : List Nat := loPairs.flatMap fun r => (List.range r.2.2).map fun i => r.1 + r.2.1 * i

theorem mem_lowHalves {off : Nat} (h : isLo off = true) : off ∈ lowHalves := by
  unfold isLo at h
  obtain ⟨r, hmem, hr⟩ := List.any_eq_true.mp h
  simp only [Bool.and_eq_true, decide_eq_true_eq, beq_iff_eq] at hr
  obtain ⟨⟨hle, hmod⟩, hlt⟩ := hr
  refine List.mem_flatMap.mpr ⟨r, hmem, List.mem_map.mpr ⟨(off - r.1) / r.2.1, List.mem_range.mpr hlt, ?_⟩⟩
  have hdiv := Nat.div_add_mod (off - r.1) r.2.1
  omega

theorem lowHalf_plain {off : Nat} (h : isLo off = true) :
    actsAlone off = false ∧ writable off = true ∧ off % 4 = 0 ∧ off < 16777216 ∧ regMask off = BitVec.allOnes 32 ∧ laneLocal off = laneLocal (off + 4) ∧ isLo (off + 4) = false := by
  have hall : ∀ o ∈ lowHalves, actsAlone o = false ∧ writable o = true ∧ o % 4 = 0 ∧ o < 16777216 ∧ regMask o = BitVec.allOnes 32 ∧
      laneLocal o = laneLocal (o + 4) ∧ isLo (o + 4) = false := by
    decide +kernel
  exact hall off (mem_lowHalves h)

theorem highHalf_plain {off : Nat} (h : isHi off = true) (h2 : off / 65536 ≠ 2) (h3 : off / 65536 ≠ 3) :
    actsAlone off = false ∧ writable off = true := by
  have hall : ∀ o ∈ lowHalves, (o + 4) / 65536 ≠ 2 → (o + 4) / 65536 ≠ 3 → actsAlone (o + 4) = false ∧ writable (o + 4) = true := by decide +kernel
  unfold isHi at h
  rw [Bool.and_eq_true, decide_eq_true_eq] at h
  obtain ⟨hle, hlo⟩ := h
  obtain ⟨o, rfl⟩ : ∃ o, off = o + 4 := ⟨off - 4, by omega⟩
  exact hall o (mem_lowHalves hlo) h2 h3

theorem isHi_of_block {off : Nat} (hblock : off / 65536 = 3) (hlt : off < 0x30100) (h : off % 64 = 0x18 ∨ off % 64 = 0x30) : isHi off = true := by
  have hall : ∀ i < 64, isHi (0x30000 + 4 * i) = ((4 * i) % 64 == 0x18 || (4 * i) % 64 == 0x30) := by decide +kernel
  obtain ⟨i, rfl⟩ : ∃ i, off = 0x30000 + 4 * i := ⟨(off - 0x30000) / 4, by omega⟩
  rw [hall i (by omega), Bool.or_eq_true, beq_iff_eq, beq_iff_eq]
  omega

theorem plainReg_iff {off : Nat} : plainReg off = true ↔ writable off = true ∧ isLo off = false ∧ isHi off = false ∧
    (ownCommands.any fun r => decide (r.1 ≤ off) && decide (off < r.1 + r.2.1 * r.2.2) && (off - r.1) % r.2.1 == 0) = false := by
  unfold plainReg
  simp only [Bool.and_eq_true, Bool.not_eq_true', and_assoc]

theorem actsAlone_of_plainReg {off : Nat} (h : plainReg off = true) : actsAlone off = false := by
  obtain ⟨-, -, hhi, hown⟩ := plainReg_iff.mp h
  have hne : ∀ x, isHi x = true → (off == x) = false := fun x hx => beq_eq_false_iff_ne.mpr fun e => Bool.noConfusion (hhi.symm.trans (e ▸ hx))
  have htb : (off / 65536 == 3 && decide (off < 0x30100) && (off % 64 == 0x18 || off % 64 == 0x30)) = false := by
    refine Bool.eq_false_iff.mpr fun h => ?_
    simp only [Bool.and_eq_true, Bool.or_eq_true, beq_iff_eq, decide_eq_true_eq] at h
    exact Bool.noConfusion (hhi.symm.trans (isHi_of_block h.1.1 h.1.2 h.2))
  rw [actsAlone, hown, htb, hne _ (by decide +kernel), hne _ (by decide +kernel)]
  rfl

theorem writeAt_of_plainReg {off : Nat} (h : plainReg off = true) (l : Lane) (core stream : Nat) (v : Word) (s : State) :
    writeAt l core stream off v s = if boundaryOf off = .live then setReg (regKey l off) v s else shadowWrite (regKey l off) (v &&& regMask off) s := by
  obtain ⟨hw, hlo, hhi, -⟩ := plainReg_iff.mp h
  rw [writeAt_of_plain (actsAlone_of_plainReg h) hw, regWriteGen, hlo, hhi]
  rfl

/-! ### Keys and commands -/

theorem off_lt_of_accessOk {s : State} {l : Lane} {core off : Nat} (h : s.accessOk l core off = true) : off < 0x111000 := by
  unfold State.accessOk at h
  simp only [Bool.and_eq_true, decide_eq_true_eq] at h
  exact h.1.2

theorem regKey_mod (l : Lane) {off : Nat} (h : off < 16777216) : regKey l off % 16777216 = off := by
  unfold regKey laneKey
  split
  · rw [Nat.mul_add_mod_self_right, Nat.mod_eq_of_lt h]
  · exact Nat.mod_eq_of_lt h

theorem regMask_regKey (l : Lane) (off : Nat) : regMask (regKey l off) = regMask off := by
  unfold regKey
  split
  · exact regMask_laneKey l off
  · rfl

theorem exec_shadowedWrite {s : State} {l : Lane} {off : Nat} (v : Word) (hok : s.accessOk l 0 off = true) (hp : plainReg off = true)
    (hb : boundaryOf off ≠ .live) : exec (.shadowedWrite l off v) s = .next (shadowWrite (regKey l off) (v &&& regMask off) s) := by
  have hlive : (boundaryOf off != .live) = true := bne_iff_ne.mpr hb
  change execShadowedWrite l off v s = _
  rw [execShadowedWrite, hok, hlive, Bool.true_or, Bool.true_or, Bool.and_self, when_true, writeAt_of_plainReg hp, if_neg hb]

/-! ### Values pending and held (R326 to R328) -/

/-- A held value put at a key. -/
def holdAt (key : Nat) (v : Word) (s : State) : State :=
  { s with shadows := s.shadows.map fun y => if y.key == key then { y with held := some v } else y }

theorem only_holdAt {P : List Part} {b s : State} {key : Nat} {v : Word} (h : OnlyIn P b s) (hP : ∀ p ∈ [Part.shadows], p ∈ P := by decide) :
    OnlyIn P b (holdAt key v s) :=
  only_via h hP fun _ h => only_mk h

theorem find_holdAt_self {key : Nat} {v p : Word} {h : Option Word} {s : State} (hfind : (s.shadows.find? fun x => x.key == key) = some ⟨key, p, h⟩) :
    ((holdAt key v s).shadows.find? fun x => x.key == key) = some ⟨key, p, some v⟩ := find_held hfind

theorem find_holdAt_ne {key k : Nat} (v : Word) (s : State) (hk : k ≠ key) :
    ((holdAt key v s).shadows.find? fun x => x.key == k) = s.shadows.find? fun x => x.key == k := by
  have hpred : ((fun x : Shadow => x.key == k) ∘ fun y : Shadow => if y.key == key then { y with held := some v } else y) = fun x => x.key == k := by
    funext y
    dsimp only [Function.comp]
    split <;> rfl
  unfold holdAt
  rw [List.find?_map, hpred]
  cases hf : s.shadows.find? fun x => x.key == k with
  | none => rfl
  | some x =>
    have hx : x.key = k := beq_iff_eq.mp (List.find?_some hf :)
    exact congrArg some (if_neg (by rw [hx, beq_iff_eq]; exact hk))

theorem shadowWrite_of_free {key : Nat} {v : Word} {s : State} (h : (s.shadows.find? fun x => x.key == key) = none) :
    shadowWrite key v s = { s with shadows := s.shadows ++ [⟨key, v, none⟩] } := by
  unfold shadowWrite
  rw [h]

/-- The counters of a replaced held value: the module's, and CYC_CFG's own. -/
theorem shadowWrite_of_held {key : Nat} {v p q : Word} {s : State} (h : (s.shadows.find? fun x => x.key == key) = some ⟨key, p, some q⟩) :
    shadowWrite key v s = when (key % 16777216 / 65536 == 2 || key % 16777216 / 65536 == 64) (bump (key - key % 16777216 + Off.CYC_CFG_REPLACED))
      (bump Off.TLM_REPLACED_CNT (holdAt key v s)) := by
  unfold shadowWrite
  rw [h]
  rfl

/-! ### The clauses -/

section
variable {s : State} {l : Lane} {core off : Nat} {v : Word}

theorem look_map_self (g : List Nat) (f : Nat → Word) {o : Nat} (h : o ∈ g) : look (g.map fun o => (o, f o)) o = some (f o) := by
  induction g with
  | nil => exact absurd h List.not_mem_nil
  | cons x xs ih =>
    rw [List.map_cons, look]
    by_cases hx : x = o
    · rw [if_pos hx, hx]
    · rw [if_neg hx]
      exact ih (List.mem_of_ne_of_mem (Ne.symm hx) h)

theorem latched_setLatch_ne {lane m : Option Lane} {core c : Nat} (off o : Nat) (vals : List (Nat × Word)) (s : State) (h : (m, c) ≠ (lane, core)) :
    (setLatch lane core off vals s).latched m c o = s.latched m c o := by
  have hmine : ∀ x : Latch, (x.lane == m && x.core == c) = true → (x.lane == lane && x.core == core && x.off == off) = false := by
    intro x hx
    simp only [Bool.and_eq_true, beq_iff_eq] at hx
    obtain ⟨rfl, rfl⟩ := hx
    simp only [Bool.and_eq_false_iff, beq_eq_false_iff_ne]
    exact .inl (not_and_or.mp fun e => h (Prod.ext e.1 e.2))
  have hnew : ¬ ((lane == m && core == c) = true) := by
    rw [Bool.and_eq_true, beq_iff_eq, beq_iff_eq]
    rintro ⟨rfl, rfl⟩
    exact h rfl
  unfold setLatch State.latched
  dsimp only
  rw [List.filter_cons_of_neg (by exact hnew), List.filter_filter]
  congr 1
  refine List.filter_congr fun x _ => ?_
  by_cases hx : (x.lane == m && x.core == c) = true
  · rw [hmine x hx, hx]
    rfl
  · rw [Bool.not_eq_true] at hx
    rw [hx]
    rfl

theorem latched_readAnswer (l : Lane) (core off : Nat) (v : Word) (s : State) (m : Option Lane) (c o : Nat) :
    (readAnswer l core off v s).latched m c o = s.latched m c o := by
  have hlatches : (readAnswer l core off v s).latches = s.latches := (onlyIn_readAnswer l core off v s).2 .latches (by decide)
  rw [State.latched, hlatches]
  rfl

theorem ne_of_latchGroup {off x : Nat} (hg : latchGroup off ≠ []) (hx : latchGroup x = [] := by decide) : off ≠ x := by
  rintro rfl
  exact hg hx

/-- The read of a register that latches a group: the group's values of this instant, then the answer (R10). -/
theorem regReadOp_of_latchGroup {l : Lane} {core off : Nat} (stream : Nat) (s : State) (hg : latchGroup off ≠ []) :
    ∃ v, regReadOp l core stream off s =
      readAnswer l core off v (setLatch (latchOwner l off) core off ((latchGroup off).map fun o => (o, s.peekAt l core o)) s) := by
  have hsome : (!((latchGroup off).map fun o => (o, s.peekAt l core o)).isEmpty) = true := by simpa using hg
  have hne := @ne_of_latchGroup off
  rw [regReadOp, if_neg (hne hg), if_neg (hne hg), if_neg (hne hg), if_neg (hne hg), if_neg (hne hg), if_neg (hne hg), if_neg (hne hg), if_neg (hne hg)]
  dsimp only
  rw [hsome, when_true]
  exact ⟨_, rfl⟩

theorem only_readAnswer {P : List Part} {b : State} {w : Word} (h : OnlyIn P b s) (hP : ∀ p ∈ [Part.vot], p ∈ P := by decide) :
    OnlyIn P b (readAnswer l core off w s) :=
  only_via h hP fun _ h => only_ite (only_answer h) (only_answerAll h)

theorem exists_next_readLoLatch (hok : s.accessOk l core off = true) (hg : latchGroup off ≠ []) (hrow : (rowAt off).isSome = true) :
    ∃ t, exec (.readLoLatch l core off) s = .next t ∧
      (∀ o ∈ latchGroup off, t.latched (latchOwner l off) core o = some (s.peekAt l core o)) ∧
      (∀ (m : Option Lane) (c o : Nat), (m, c) ≠ (latchOwner l off, core) → t.latched m c o = s.latched m c o) ∧
      OnlyIn [.latches, .vot] s t := by
  have hsome : (off == Off.ODO_POS_LO || !(latchGroup off).isEmpty) = true := by
    rw [Bool.or_eq_true, Bool.not_eq_true', List.isEmpty_eq_false_iff]
    exact .inr hg
  have hlisted : ¬ (rowAt off).isNone = true := by rw [← Option.not_isSome, hrow]; decide
  obtain ⟨w, hread⟩ := regReadOp_of_latchGroup (l := l) (core := core) (8 * core) s hg
  have hexec : exec (.readLoLatch l core off) s =
      .next (readAnswer l core off w (setLatch (latchOwner l off) core off ((latchGroup off).map fun o => (o, s.peekAt l core o)) s)) := by
    change execReadLoLatch l core off s = _
    rw [execReadLoLatch, hok, hsome, Bool.and_self, when_true, readAt, if_neg hlisted, hread]
  refine ⟨_, hexec, fun o ho => ?_, fun m c o hm => ?_, only_readAnswer (only_setLatch only_refl)⟩
  · rw [latched_readAnswer]
    exact latched_setLatch _ _ _ _ _ _ _ (look_map_self _ _ ho)
  · rw [latched_readAnswer, latched_setLatch_ne _ _ _ _ hm]

theorem exists_next_writeHiCommit (hwf : RegsWf s) (hok : s.accessOk l core off = true) (hhi : isHi off = true)
    (hb : boundaryOf off = .live) (h2 : off / 65536 ≠ 2) (h3 : off / 65536 ≠ 3) :
    ∃ t, exec (.writeHiCommit l core off v) s = .next t ∧ t.reg (regKey l off) = v &&& regMask off ∧
      t.reg (regKey l (off - 4)) = s.loFor l core (off - 4) ∧ RegsOnly [off, off - 4] s t ∧ OnlyIn [.regs, .loWrites] s t := by
  obtain ⟨hplain, hw⟩ := highHalf_plain hhi h2 h3
  obtain ⟨hle, hlo⟩ : 4 ≤ off ∧ isLo (off - 4) = true := by simpa [isHi] using hhi
  obtain ⟨-, -, -, hlt, hmask, -, hlo'⟩ := lowHalf_plain hlo
  rw [Nat.sub_add_cancel hle] at hlo'
  have hoff : off < 16777216 := (off_lt_of_accessOk hok).trans (by decide)
  have hexec : exec (.writeHiCommit l core off v) s = .next (setReg (regKey l off) v (commitLo l core (off - 4) s)) := by
    change execWriteHiCommit l core off v s = _
    rw [execWriteHiCommit, hok, hhi, Bool.true_or, Bool.and_self, when_true, writeAt_of_plain hplain hw, regWriteGen, hlo', hhi]
    exact congrArg Host.Outcome.next (if_pos hb)
  have hwf' : RegsWf (commitLo l core (off - 4) s) := wf_mk (wf_setReg hwf)
  have hkey : regKey l (off - 4) ≠ regKey l off := fun e => by
    have hmod := congrArg (· % 16777216) e
    simp only [regKey_mod l hoff, regKey_mod l hlt] at hmod
    omega
  have hlow : OnlyIn [.regs, .loWrites] s (commitLo l core (off - 4) s) := only_mk (s := setReg (regKey l (off - 4)) (s.loFor l core (off - 4)) s) (only_setReg only_refl)
  refine ⟨_, hexec, ?_, ?_, ?_, only_setReg hlow⟩
  · rw [reg_setReg_self _ _ _ hwf', regMask_regKey]
  · rw [reg_setReg_ne _ _ _ _ hkey]
    change (setReg (regKey l (off - 4)) (s.loFor l core (off - 4)) s).reg (regKey l (off - 4)) = _
    rw [reg_setReg_self _ _ _ hwf, regMask_regKey, hmask, BitVec.and_allOnes]
  · exact regs_setReg (regs_mk (regs_setReg regs_refl (by rw [regKey_mod l hlt]; simp))) (by rw [regKey_mod l hoff]; simp)

theorem exists_next_registerWrite_lo (hok : s.accessOk l core off = true) (hlo : isLo off = true) :
    ∃ t, exec (.registerWrite l core off v) s = .next t ∧ t.loFor l core off = v ∧ OnlyIn [.loWrites] s t := by
  obtain ⟨hplain, hw, h4, -⟩ := lowHalf_plain hlo
  refine ⟨putLo l core off v s, ?_, ?_, only_mk only_refl⟩
  · rw [exec_registerWrite l core off v s hok h4, writeAt_of_plain hplain hw, regWriteGen, hlo]
    rfl
  · unfold State.loFor putLo
    rw [List.find?_cons_of_pos (by simp)]

theorem exists_next_shadowedWrite_free (hok : s.accessOk l 0 off = true) (hp : plainReg off = true) (hb : boundaryOf off ≠ .live)
    (hfind : (s.shadows.find? fun x => x.key == regKey l off) = none) :
    ∃ t, exec (.shadowedWrite l off v) s = .next t ∧ t.shadows = s.shadows ++ [⟨regKey l off, v &&& regMask off, none⟩] ∧ OnlyIn [.shadows] s t :=
  ⟨_, exec_shadowedWrite v hok hp hb, by rw [shadowWrite_of_free hfind], by rw [shadowWrite_of_free hfind]; exact only_mk only_refl⟩

theorem exists_next_shadowedWrite_pending {p : Word} (hok : s.accessOk l 0 off = true) (hp : plainReg off = true) (hb : boundaryOf off ≠ .live)
    (hfind : (s.shadows.find? fun x => x.key == regKey l off) = some ⟨regKey l off, p, none⟩) :
    ∃ t, exec (.shadowedWrite l off v) s = .next t ∧
      (t.shadows.find? fun x => x.key == regKey l off) = some ⟨regKey l off, p, some (v &&& regMask off)⟩ ∧
      (∀ k : Nat, k ≠ regKey l off → (t.shadows.find? fun x => x.key == k) = s.shadows.find? fun x => x.key == k) ∧ OnlyIn [.shadows] s t :=
  ⟨_, (exec_shadowedWrite v hok hp hb).trans (congrArg _ (shadowWrite_of_pending hfind)), find_holdAt_self hfind, fun _ => find_holdAt_ne _ s,
    only_holdAt only_refl⟩

theorem exists_next_shadowedWrite_held {p q : Word} (hwf : RegsWf s) (hok : s.accessOk l 0 off = true) (hp : plainReg off = true)
    (hb : boundaryOf off ≠ .live) (hfind : (s.shadows.find? fun x => x.key == regKey l off) = some ⟨regKey l off, p, some q⟩) :
    ∃ t, exec (.shadowedWrite l off v) s = .next t ∧
      (t.shadows.find? fun x => x.key == regKey l off) = some ⟨regKey l off, p, some (v &&& regMask off)⟩ ∧
      (∀ k : Nat, k ≠ regKey l off → (t.shadows.find? fun x => x.key == k) = s.shadows.find? fun x => x.key == k) ∧
      t.reg Off.TLM_REPLACED_CNT = s.reg Off.TLM_REPLACED_CNT + 1 ∧
      (off / 65536 = 2 → t.reg (laneKey l Off.CYC_CFG_REPLACED) = s.reg (laneKey l Off.CYC_CFG_REPLACED) + 1) ∧
      RegsOnly (if off / 65536 = 2 then [Off.TLM_REPLACED_CNT, Off.CYC_CFG_REPLACED] else [Off.TLM_REPLACED_CNT]) s t ∧
      OnlyIn [.shadows, .regs] s t := by
  have hlt := off_lt_of_accessOk hok
  have hmod := regKey_mod l (off := off) (by omega)
  set u := holdAt (regKey l off) (v &&& regMask off) s with hu
  have hshadows : ∀ t, OnlyIn [.regs] u t → t.shadows = u.shadows := fun t h => h.2 .shadows (by decide)
  have hwfu : RegsWf u := hwf
  have hcount : (bump Off.TLM_REPLACED_CNT u).reg Off.TLM_REPLACED_CNT = s.reg Off.TLM_REPLACED_CNT + 1 :=
    reg_bump_unmasked _ _ hwfu (by decide)
  have honly : OnlyIn [.shadows, .regs] s (bump Off.TLM_REPLACED_CNT u) := only_bump (only_holdAt only_refl)
  have hexec := exec_shadowedWrite v hok hp hb
  rw [shadowWrite_of_held hfind, hmod] at hexec
  have h64 : (off / 65536 == 64) = false := beq_eq_false_iff_ne.mpr (by omega)
  by_cases h2 : off / 65536 = 2
  · have hlocal : regKey l off = laneKey l off := if_pos (by unfold laneLocal; rw [h2]; rfl)
    have hkey : regKey l off - off + Off.CYC_CFG_REPLACED = laneKey l Off.CYC_CFG_REPLACED := by
      rw [hlocal, laneKey, laneKey, Nat.add_sub_cancel]
    rw [beq_iff_eq.mpr h2, Bool.true_or, when_true, hkey] at hexec
    have hs := hshadows (bumpLane l Off.CYC_CFG_REPLACED (bump Off.TLM_REPLACED_CNT u)) (only_bumpLane (only_bump only_refl))
    refine ⟨bumpLane l Off.CYC_CFG_REPLACED (bump Off.TLM_REPLACED_CNT u), hexec, ?_, fun k hk => ?_, ?_, fun _ => ?_, ?_, only_bumpLane honly⟩
    · rw [hs, hu]; exact find_holdAt_self hfind
    · rw [hs, hu]; exact find_holdAt_ne _ s hk
    · rw [bumpLane, reg_bump_ne _ _ _ (by rw [laneKey]; cases l <;> decide)]
      exact hcount
    · rw [reg_bumpLane_self l (wf_bump hwfu)]
      rw [reg_bump_ne _ _ _ (by rw [laneKey]; cases l <;> decide)]
      rfl
    · rw [if_pos h2]
      exact regs_bumpLane (regs_bump (regs_mk regs_refl))
  · rw [beq_eq_false_iff_ne.mpr h2, h64, Bool.or_self, when_false] at hexec
    have hs := hshadows (bump Off.TLM_REPLACED_CNT u) (only_bump only_refl)
    refine ⟨_, hexec, ?_, fun k hk => ?_, hcount, fun h => absurd h h2, ?_, honly⟩
    · rw [hs, hu]; exact find_holdAt_self hfind
    · rw [hs, hu]; exact find_holdAt_ne _ s hk
    · rw [if_neg h2]
      exact regs_bump (regs_mk regs_refl)

theorem exists_next_registerWrite_live (hwf : RegsWf s) (hok : s.accessOk l core off = true) (hp : plainReg off = true)
    (hb : boundaryOf off = .live) (h4 : off % 4 = 0) :
    ∃ t, exec (.registerWrite l core off v) s = .next t ∧ t.reg (regKey l off) = v &&& regMask off ∧
      (∀ k : Nat, k ≠ regKey l off → t.reg k = s.reg k) ∧ OnlyIn [.regs] s t := by
  refine ⟨setReg (regKey l off) v s, ?_, ?_, fun k hk => reg_setReg_ne _ _ _ _ hk, only_setReg only_refl⟩
  · rw [exec_registerWrite l core off v s hok h4, writeAt_of_plainReg hp, if_pos hb]
  · rw [reg_setReg_self _ _ _ hwf, regMask_regKey]

end

/-- Settles O10, command by command. -/
theorem registerAccess : Obligations.RegisterAccess := by
  unfold Obligations.RegisterAccess
  exact ⟨fun _ _ _ _ => exists_next_readLoLatch, fun _ _ _ _ _ => exists_next_writeHiCommit, fun _ _ _ _ _ => exists_next_registerWrite_lo,
    fun _ _ _ _ => exists_next_shadowedWrite_free, fun _ _ _ _ _ => exists_next_shadowedWrite_pending,
    fun _ _ _ _ _ _ => exists_next_shadowedWrite_held, fun _ _ _ _ _ => exists_next_registerWrite_live⟩

end Sys2Proof.Machine

namespace Sys2Proof.Machine
set_option Elab.async false

/-! ### The arrival of a voted access (R68, R71, R84) -/

/-- A lane's access at its instant, counted on its stream and its hub port. -/
def issued (st : Nat) (seq : Word) (x : Access1) (s : State) : State :=
  (advanceTo x.at_ s).setLane x.lane fun v => { v with seqs := put v.seqs st (seq + 1), portSeq := v.portSeq + 1 }

/-- No limit of a voted access has passed (R78, R82). -/
theorem expireAll_of_fresh {s : State} (hkept : ∀ k ∈ s.vot.kept, s.now < k.at_ + s.lateLimit)
    (hopen : ∀ e ∈ s.vot.open_, ∀ t, s.limitFrom e = some t → s.now < t + s.lateLimit) : expireAll s = s := by
  have hk : (s.vot.kept.filter fun k => decide (k.at_ + s.lateLimit ≤ s.now)) = [] := by
    refine List.filter_eq_nil_iff.mpr fun k hk => ?_
    have := hkept k hk
    simp only [decide_eq_true_eq]
    omega
  have ho : (s.vot.open_.filter fun e => match s.limitFrom e with
      | some t => decide (t + s.lateLimit ≤ s.now)
      | none => false) = [] := by
    refine List.filter_eq_nil_iff.mpr fun e he => ?_
    split
    · rename_i t ht
      have := hopen e he t ht
      simp only [decide_eq_true_eq]
      omega
    · exact Bool.false_ne_true
  unfold expireAll
  dsimp only
  rw [hk, List.foldl_nil]
  exact congrArg (List.foldl _ s) ho

theorem twenty_le_lateLimit (s : State) : 20000 ≤ s.lateLimit := by
  unfold State.lateLimit
  omega

theorem lateLimit_congr {s t : State} (h : t.regs = s.regs) : t.lateLimit = s.lateLimit := by
  unfold State.lateLimit
  rw [reg_congr s t _ h]

theorem up_advanceTo (n : Nat) (s : State) : (advanceTo n s).up = s.up := by
  have hpowered : (advanceTo n s).isl.powered = s.isl.powered := by
    unfold advanceTo advance
    split
    · rfl
    · dsimp only
      split <;> rfl
  rw [State.up, State.up, State.hubOn, State.hubOn, advanceTo_sys, hpowered]

section
variable {s : State} {st : Nat} {seq : Word} {x : Access1}

theorem arrive_of_fresh (hup : s.up = true) (hin : s.inVote x.lane = true) (hst : st < 48) (htarget : votedTarget x.addr = true)
    (hdigest : isDigest x.addr = false) (hnow : s.now ≤ x.at_) (hfresh : expireAll (advanceTo x.at_ s) = advanceTo x.at_ s) :
    arrive st seq x s = match s.vot.kept.find? fun k => k.stream == st && k.seq == seq with
      | some k => lateArrival k x (issued st seq x s)
      | none => openArrival st seq x (issued st seq x s) := by
  have hcond : (s.up && s.inVote x.lane && decide (st < 48) && (votedTarget x.addr || (!x.write && x.addr % 4 == 0 && mramWindow x.addr))) = true := by
    rw [hup, hin, decide_eq_true hst, htarget]
    rfl
  have hadv : (!(advanceTo x.at_ s).up || !(advanceTo x.at_ s).inVote x.lane) = false := by
    rw [up_advanceTo, hup, State.inVote, advanceTo_vot]
    change (!true || !s.inVote x.lane) = false
    rw [hin]
    rfl
  have hat : (advanceTo x.at_ s).now = x.at_ := by rw [now_advanceTo]; exact Nat.max_eq_right hnow
  have hself : ({ x with at_ := x.at_ } : Access1) = x := rfl
  unfold arrive
  rw [if_pos hcond]
  dsimp only
  rw [hfresh, if_neg (by rw [hadv]; exact Bool.false_ne_true), if_neg (by rw [hdigest]; exact Bool.false_ne_true), hat, hself]
  have hkept : (issued st seq x s).vot.kept = s.vot.kept := by
    change (advanceTo x.at_ s).vot.kept = _
    rw [advanceTo_vot]
  change (match (issued st seq x s).vot.kept.find? fun k => k.stream == st && k.seq == seq with
      | some k => lateArrival k x (issued st seq x s)
      | none => openArrival st seq x (issued st seq x s)) = _
  rw [hkept]
end

/-! ### The first access waits, the second resolves -/

theorem exists_other_inVote {s : State} (l : Lane) (h : 2 ≤ s.lanesIn.length) : ∃ m, m ≠ l ∧ s.inVote m = true := by
  by_contra hnone
  have honly : ∀ m ∈ s.lanesIn, m = l := fun m hm => by_contra fun hne => hnone ⟨m, hne, (mem_lanesIn s m).mp hm⟩
  have hnodup : s.lanesIn.Nodup := List.Nodup.filter _ (by decide)
  have hle : s.lanesIn.length ≤ [l].length := (List.subperm_of_subset hnodup fun m hm => List.mem_singleton.mpr (honly m hm)).length_le
  exact absurd (h.trans hle) (Nat.not_succ_le_self 1)

theorem resolveAll_single {s : State} {e : OpenAccess} (hopen : s.vot.open_ = [e]) (hup : s.up = true) : resolveAll s = resolveFirst e.stream s := by
  unfold resolveAll
  rw [hopen]
  exact if_neg (by rw [failSilent_of_up hup]; exact Bool.false_ne_true)

/-- One access of two lanes or more decides nothing. -/
theorem resolveAll_first {s : State} {st : Nat} {seq : Word} {x : Access1} (hopen : s.vot.open_ = [⟨st, seq, [x], []⟩]) (hup : s.up = true)
    (hin : s.inVote x.lane = true) (htwo : 2 ≤ s.lanesIn.length) : resolveAll s = s := by
  obtain ⟨m, hne, hm⟩ := exists_other_inVote x.lane htwo
  have harrived : s.arrived ⟨st, seq, [x], []⟩ = [x] := List.filter_cons_of_pos hin
  have hawaited : (s.awaited ⟨st, seq, [x], []⟩).isEmpty = false := by
    refine List.isEmpty_eq_false_iff_exists_mem.mpr ⟨m, List.mem_filter.mpr ⟨(mem_lanesIn s m).mpr hm, ?_⟩⟩
    simpa using Ne.symm hne
  rw [resolveAll_single hopen hup, resolveFirst, hopen, List.find?_cons_of_pos (by exact beq_self_eq_true st)]
  dsimp only
  rw [harrived]
  exact if_neg (by rw [hawaited]; exact Bool.false_ne_true)

/-- The second access that agrees with the first resolves both, where it waits for no link. -/
theorem resolveAll_second {s : State} {st : Nat} {seq : Word} {x y : Access1} (hopen : s.vot.open_ = [⟨st, seq, [x, y], []⟩]) (hup : s.up = true)
    (hx : s.inVote x.lane = true) (hy : s.inVote y.lane = true) (hsame : x.same y = true) (hlink : s.linkBusy st (0x2000000000 + x.addr) x.write = false) :
    resolveAll s = resolveWith ⟨st, seq, [x, y], []⟩ x s := by
  have harrived : s.arrived ⟨st, seq, [x, y], []⟩ = [x, y] := by
    simp only [State.arrived, List.filter_cons, hx, hy, if_true, List.filter_nil]
  have hmaj : majAccess [x, y] = some x := if_pos (by rw [List.any_cons, hsame]; rfl)
  rw [resolveAll_single hopen hup, resolveFirst, hopen, List.find?_cons_of_pos (by exact beq_self_eq_true st)]
  dsimp only
  rw [harrived, hmaj]
  exact if_neg (by rw [hlink]; exact Bool.false_ne_true)

/-- An access in its window ends its lane's run of late ones (R77). -/
def inWindow (l : Lane) (s : State) : State := s.setLane l fun v => { v with skewRun := 0 }

/-- A resolved access of two lanes is kept, and no other lane has an answer of it (R79, R82). -/
def keptFor (k : KeptAccess) (old : Vot) (s : State) : State :=
  { s with vot := { s.vot with
    kept := s.vot.kept ++ [k]
    lanes := s.vot.lanes.map fun l x => if k.lanes.contains l then x else { x with answer := (old.lanes.get l).answer } } }

/-- With nothing outstanding any more. -/
def noneOpen (s : State) : State := { s with vot := { s.vot with open_ := [] } }

theorem judgeAccess_agreed {s : State} {st : Nat} {seq : Word} {m x : Access1} {t : Nat} (hsame : x.same m = true) (hdigest : isDigest m.addr = false)
    (hwindow : t ≤ x.at_ + 2000 ∧ x.at_ ≤ t + 2000) : judgeAccess st seq m t x s = inWindow x.lane s := by
  have hout : outWindow t x.at_ = false :=
    Bool.or_eq_false_iff.mpr ⟨decide_eq_false (Nat.not_lt.mpr hwindow.2), decide_eq_false (Nat.not_lt.mpr hwindow.1)⟩
  have hhi : (m.addr == Off.VOT_DIGEST_HI) = false := (Bool.or_eq_false_iff.mp hdigest).2
  unfold judgeAccess
  rw [hout, hsame, hhi]
  rfl

/-- What the second access of a module-shared block leaves, given the state that its commit leaves. -/
theorem resolveWith_pair {s s1 : State} {st : Nat} {seq : Word} {x y : Access1} {r : Word} (hopen : s.vot.open_ = [⟨st, seq, [x, y], []⟩])
    (hsame : x.same y = true) (hdigest : isDigest x.addr = false) (haddr : x.addr < 0x1000000000) (hwindow : x.at_ ≤ y.at_ ∧ y.at_ ≤ x.at_ + 2000)
    (hcommit : commitAccess st x [x.lane, y.lane] (noneOpen s) = s1) (hanswer : x.write = true ∧ r = x.value ∨
      x.write = false ∧ (s1.vot.lanes.get x.lane).answer = ⟨st / 8, r, false⟩) :
    resolveWith ⟨st, seq, [x, y], []⟩ x s =
      inWindow y.lane (inWindow x.lane (keptFor ⟨st, seq, x.addr, x.write, r, false, false, y.at_, [x.lane, y.lane]⟩ s.vot s1)) := by
  have hxx : x.same x = true := by simp [Access1.same]
  have hyx : y.same x = true := by
    simp only [Access1.same, Bool.and_eq_true, Bool.or_eq_true, Bool.not_eq_true', beq_iff_eq] at hsame ⊢
    obtain ⟨⟨ha, hw⟩, hv⟩ := hsame
    exact ⟨⟨ha.symm, hw.symm⟩, hv.imp (fun h => hw ▸ h) Eq.symm⟩
  have hnone : ([⟨st, seq, [x, y], []⟩] : List OpenAccess).filter (fun z => !(z.stream == st && z.seq == seq)) = [] := by simp
  have hmaj : majorityAt x [x, y] = y.at_ := by simp [majorityAt, hxx, hsame]
  have hagree : (([x, y].filter fun z => z.same x).map (·.lane)) = [x.lane, y.lane] := by simp [hxx, hyx]
  have hlow : decide (0x1000000000 ≤ x.addr) = false := decide_eq_false (by omega)
  unfold resolveWith
  dsimp only
  rw [hopen, hnone, hmaj, hagree]
  have hval : (if x.write = true then x.value else (s1.vot.lanes.get x.lane).answer.value) = r ∧ (!x.write && (s1.vot.lanes.get x.lane).answer.busError) = false := by
    obtain ⟨hw, rfl⟩ | ⟨hw, ha⟩ := hanswer
    · rw [hw]
      exact ⟨rfl, rfl⟩
    · rw [hw, ha]
      exact ⟨rfl, rfl⟩
  have hcommit' : commitAccess st x [x.lane, y.lane] { s with vot := { s.vot with open_ := [] } } = s1 := hcommit
  rw [hcommit', hlow, Bool.false_and, hval.1, hval.2]
  rw [List.foldl_cons, List.foldl_cons, List.foldl_nil, judgeAccess_agreed hxx hdigest ⟨by omega, by omega⟩, judgeAccess_agreed hyx hdigest ⟨by omega, by omega⟩]
  rfl

end Sys2Proof.Machine

namespace Sys2Proof.Machine
set_option Elab.async false

/-! ### The commands of a voted access -/

section
variable {s : State} {l m : Lane} {st : Nat} {seq : Word} {addr : Nat} {v : Word} {at_ time : Nat}

theorem now_issued (st : Nat) (seq : Word) {x : Access1} (h : s.now ≤ x.at_) : (issued st seq x s).now = x.at_ :=
  (now_advanceTo _ _).trans (Nat.max_eq_right h)

theorem up_issued (st : Nat) (seq : Word) (x : Access1) (s : State) : (issued st seq x s).up = s.up := up_advanceTo x.at_ s

theorem only_issued {P : List Part} {b : State} {x : Access1} (h : OnlyIn P b s) (hP : ∀ p ∈ [Part.now, .time, .nv, .isl, .vot], p ∈ P := by decide) :
    OnlyIn P b (issued st seq x s) :=
  only_via h hP fun _ h => only_setLane (only_advanceTo h)

/-- The lanes' records after an access: the one that made it has it counted. -/
theorem vot_issued (st : Nat) (seq : Word) (x : Access1) (s : State) : (issued st seq x s).vot =
    { s.vot with lanes := s.vot.lanes.modify x.lane fun v => { v with seqs := put v.seqs st (seq + 1), portSeq := v.portSeq + 1 } } := by
  unfold issued State.setLane
  dsimp only
  rw [advanceTo_vot]

theorem inVote_issued (st : Nat) (seq : Word) (x : Access1) (s : State) (k : Lane) : (issued st seq x s).inVote k = s.inVote k := by
  rw [State.inVote, vot_issued]
  by_cases e : k = x.lane
  · rw [e, get_modify_self]
    rfl
  · rw [get_modify_ne _ _ _ _ e]
    rfl

/-- The access as the first of its stream and sequence. -/
def opened (st : Nat) (seq : Word) (xs : List Access1) (s : State) : State := { s with vot := { s.vot with open_ := [⟨st, seq, xs, []⟩] } }

theorem openArrival_first {x : Access1} (hopen : s.vot.open_ = []) (hup : s.up = true) (hin : s.inVote x.lane = true) (htwo : 2 ≤ s.lanesIn.length) :
    openArrival st seq x s = opened st seq [x] s := by
  unfold openArrival
  rw [hopen]
  exact resolveAll_first (s := opened st seq [x] s) rfl hup hin htwo

theorem openArrival_second {x y : Access1} (hopen : s.vot.open_ = [⟨st, seq, [x], []⟩]) (hne : x.lane ≠ y.lane) :
    openArrival st seq y s = resolveAll (opened st seq [x, y] s) := by
  have hmine : ((⟨st, seq, [x], []⟩ : OpenAccess).stream == st && (⟨st, seq, [x], []⟩ : OpenAccess).seq == seq) = true := by simp
  unfold openArrival
  rw [hopen, List.find?_cons_of_pos (by exact hmine)]
  have hother : ([x].any fun z => z.lane == y.lane) = false := by simpa using hne
  dsimp only
  rw [hother, if_neg Bool.false_ne_true, List.map_cons, List.map_nil, if_pos hmine]
  rfl

theorem exists_next_votedAccess_first (w : Bool) (hup : s.up = true) (hin : s.inVote l = true)
    (htwo : 2 ≤ s.lanesIn.length) (hst : st < 48) (htarget : votedTarget addr = true) (hdigest : isDigest addr = false) (hopen : s.vot.open_ = [])
    (hkept : s.vot.kept = []) (hnow : s.now ≤ time) :
    ∃ t, exec (if w then .votedWrite l st seq addr v time else .votedRead l st seq addr time) s = .next t ∧ t.now = time ∧
      t.vot.open_ = [⟨st, seq, [⟨l, time, addr, w, if w then v else 0⟩], []⟩] ∧ t.vot.kept = [] ∧
      look (t.vot.lanes.get l).seqs st = some (seq + 1) ∧ (∀ m : Lane, m ≠ l → t.vot.lanes.get m = s.vot.lanes.get m) ∧
      OnlyIn [.now, .time, .nv, .isl, .vot] s t := by
  set x : Access1 := ⟨l, time, addr, w, if w then v else 0⟩ with hx
  have hexec : exec (if w then .votedWrite l st seq addr v time else .votedRead l st seq addr time) s = .next (settled s (arrive st seq x s)) := by
    cases w <;> rfl
  have hfresh : expireAll (advanceTo time s) = advanceTo time s :=
    expireAll_of_fresh (by rw [advanceTo_vot, hkept]; exact fun _ h => absurd h List.not_mem_nil)
      (by rw [advanceTo_vot, hopen]; exact fun _ h => absurd h List.not_mem_nil)
  have hvot := vot_issued st seq x s
  have hinv := inVote_issued st seq x s
  have harrive : arrive st seq x s = opened st seq [x] (issued st seq x s) := by
    rw [arrive_of_fresh hup hin hst htarget hdigest hnow hfresh, hkept, List.find?_nil]
    exact openArrival_first (by rw [hvot, hopen]) ((up_issued _ _ _ _).trans hup) ((hinv l).trans hin) (by rw [lanesIn_congr hinv]; exact htwo)
  rw [harrive, settled_of_lanes (t := opened st seq [x] (issued st seq x s)) hinv] at hexec
  refine ⟨_, hexec, now_issued st seq hnow, rfl, ?_, ?_, fun m hm => ?_, only_mk (only_issued only_refl)⟩
  · change (issued st seq x s).vot.kept = []
    rw [hvot, hkept]
  · change look ((issued st seq x s).vot.lanes.get l).seqs st = _
    rw [hvot, get_modify_self]
    exact look_put_self _ _ _
  · change (issued st seq x s).vot.lanes.get m = _
    rw [hvot, get_modify_ne _ _ _ _ hm]

/-- An access that comes within its window finds the first one waiting. -/
theorem expireAll_of_waiting {x : Access1} (hopen : s.vot.open_ = [⟨st, seq, [x], []⟩]) (hkept : s.vot.kept = []) (hin : s.inVote x.lane = true)
    (htime : s.now ≤ x.at_ + 2000) : expireAll s = s := by
  refine expireAll_of_fresh (by rw [hkept]; exact fun _ h => absurd h List.not_mem_nil) fun e he t ht => ?_
  rw [hopen, List.mem_singleton] at he
  have harrived : s.arrived ⟨st, seq, [x], []⟩ = [x] := List.filter_cons_of_pos hin
  subst he
  unfold State.limitFrom at ht
  dsimp only at ht
  rw [harrived] at ht
  have hat : x.at_ = t := Option.some.inj ht
  have := twenty_le_lateLimit s
  omega

theorem lanes_inWindow (l k : Lane) (s : State) : ∃ n, (inWindow l s).vot.lanes.get k = { s.vot.lanes.get k with skewRun := n } := by
  by_cases e : k = l
  · rw [e]
    exact ⟨0, get_modify_self _ _ _⟩
  · exact ⟨_, get_modify_ne _ _ _ _ e⟩

theorem inVote_inWindow (l k : Lane) (s : State) : (inWindow l s).inVote k = s.inVote k := by
  obtain ⟨n, hn⟩ := lanes_inWindow l k s
  rw [State.inVote, hn]
  rfl

theorem lanes_keptFor (k : KeptAccess) (old : Vot) (s : State) (l : Lane) : (keptFor k old s).vot.lanes.get l =
    if k.lanes.contains l then s.vot.lanes.get l else { s.vot.lanes.get l with answer := (old.lanes.get l).answer } := get_map _ _ _

theorem inVote_keptFor (k : KeptAccess) (old : Vot) (s : State) (l : Lane) : (keptFor k old s).inVote l = s.inVote l := by
  rw [State.inVote, lanes_keptFor]
  split <;> rfl

/-- The second access of a stream and sequence that agrees with the first: both are resolved, given what the commit of the target leaves. -/
theorem exec_second {c : Instr} {x y : Access1} {s1 : State} {r : Word}
    (hc : exec c s = .next (settled s (arrive st seq y s))) (hup : s.up = true) (hx : s.inVote x.lane = true) (hy : s.inVote y.lane = true)
    (hne : x.lane ≠ y.lane) (hst : st < 48) (htarget : votedTarget x.addr = true) (hdigest : isDigest x.addr = false) (haddr : x.addr < 0x110000)
    (hopen : s.vot.open_ = [⟨st, seq, [x], []⟩]) (hkept : s.vot.kept = []) (hat : x.at_ ≤ s.now) (hnow : s.now ≤ y.at_) (htime : y.at_ ≤ x.at_ + 2000)
    (hsame : x.same y = true) (hfence : x.addr ≠ Off.BRG_FENCE) (hlanes : ∀ k, s1.inVote k = s.inVote k)
    (hcommit : commitAccess st x [x.lane, y.lane] (noneOpen (opened st seq [x, y] (issued st seq y s))) = s1)
    (hanswer : x.write = true ∧ r = x.value ∨ x.write = false ∧ (s1.vot.lanes.get x.lane).answer = ⟨st / 8, r, false⟩) :
    exec c s = .next (inWindow y.lane (inWindow x.lane (keptFor ⟨st, seq, x.addr, x.write, r, false, false, y.at_, [x.lane, y.lane]⟩ (issued st seq y s).vot s1))) := by
  obtain ⟨hyaddr, hywrite⟩ : y.addr = x.addr ∧ y.write = x.write := by
    simp only [Access1.same, Bool.and_eq_true, beq_iff_eq] at hsame
    exact ⟨hsame.1.1.symm, hsame.1.2.symm⟩
  have hvot := vot_issued st seq y s
  have hinv := inVote_issued st seq y s
  have hnow' : (advanceTo y.at_ s).now = y.at_ := (now_advanceTo _ _).trans (Nat.max_eq_right hnow)
  have hfresh : expireAll (advanceTo y.at_ s) = advanceTo y.at_ s :=
    expireAll_of_waiting (st := st) (seq := seq) (x := x) (by rw [advanceTo_vot, hopen]) (by rw [advanceTo_vot, hkept])
      (by rw [State.inVote, advanceTo_vot]; exact hx) (by rw [hnow']; exact htime)
  have hlink : (opened st seq [x, y] (issued st seq y s)).linkBusy st (0x2000000000 + x.addr) x.write = false := by
    have hwin : windowOf (0x2000000000 + x.addr) = none := if_neg (by simp; omega)
    have hne : (0x2000000000 + x.addr == 0x2000000000 + Off.BRG_FENCE) = false := beq_eq_false_iff_ne.mpr (by omega)
    unfold State.linkBusy
    rw [hwin, hne]
    exact ite_self _
  have hres := resolveWith_pair (s := opened st seq [x, y] (issued st seq y s)) rfl hsame hdigest (by omega) ⟨by omega, htime⟩ hcommit hanswer
  have harrive : arrive st seq y s = inWindow y.lane (inWindow x.lane (keptFor ⟨st, seq, x.addr, x.write, r, false, false, y.at_, [x.lane, y.lane]⟩ (issued st seq y s).vot s1)) := by
    rw [arrive_of_fresh hup hy hst (by rw [hyaddr]; exact htarget) (by rw [hyaddr]; exact hdigest) hnow hfresh, hkept, List.find?_nil]
    dsimp only
    rw [openArrival_second (st := st) (seq := seq) (x := x) (by rw [hvot, hopen]) hne,
      resolveAll_second (s := opened st seq [x, y] (issued st seq y s)) (st := st) (seq := seq) rfl ((up_issued st seq y s).trans hup) ((hinv _).trans hx) ((hinv _).trans hy) hsame hlink, hres]
    rfl
  rw [hc, harrive, settled_of_lanes fun k => ?_]
  rw [inVote_inWindow, inVote_inWindow, inVote_keptFor, hlanes]

theorem votedTarget_iff {addr : Nat} (h : votedTarget addr = true) (hlow : addr < 0x1000000000) : addr < 0x110000 ∧ laneLocal addr = false := by
  have hwindow : decide (0x1000000000 ≤ addr) = false := decide_eq_false (by omega)
  unfold votedTarget at h
  rw [hwindow, Bool.false_and, Bool.or_false, Bool.and_eq_true, Bool.and_eq_true, decide_eq_true_eq, Bool.not_eq_true'] at h
  exact h.2

theorem commitAccess_low {st : Nat} {x : Access1} {ls : List Lane} {s : State} (h : x.addr < 0x110000) :
    commitAccess st x ls s = if x.write then writeAt s.lane0 (st / 8) st x.addr x.value s else readAt s.lane0 (st / 8) st x.addr s := by
  have hmram : mramWindow x.addr = false := Bool.and_eq_false_iff.mpr (.inl (decide_eq_false (by omega)))
  unfold commitAccess
  rw [hmram, if_neg Bool.false_ne_true, if_neg (by omega)]

theorem lane_keptFor_fields (k : KeptAccess) (old : Vot) (s : State) (l : Lane) : ∃ a, (keptFor k old s).vot.lanes.get l = { s.vot.lanes.get l with answer := a } := by
  rw [lanes_keptFor]
  split
  · exact ⟨_, rfl⟩
  · exact ⟨_, rfl⟩

theorem writable_lt {off : Nat} (h : writable off = true) : off < 0x111000 := by
  have hrows : ∀ r ∈ Regs.rows, r.off + r.stride * r.count ≤ 0x111000 := by decide +kernel
  unfold writable at h
  split at h
  · rename_i r hr
    have hle := hrows r (List.mem_of_find?_eq_some hr)
    have hin := List.find?_some hr
    simp only [Bool.and_eq_true, decide_eq_true_eq] at hin
    omega
  · exact Bool.noConfusion h

/-- A configuration register is read as the register file has it. -/
theorem readAt_config {addr : Nat} {k : Lane} {core stream : Nat} {s : State}
    (haddr : addr ∈ [Off.VOT_CFG, Off.PST_CFG, Off.ODO_CFG, Off.SUP_CFG, Off.DIO_OUT_CFG, Off.REC_CFG]) (hlatches : s.latches = []) :
    readAt k core stream addr s = answerAll core (s.reg addr) false s := by
  have hall : ∀ a ∈ [Off.VOT_CFG, Off.PST_CFG, Off.ODO_CFG, Off.SUP_CFG, Off.DIO_OUT_CFG, Off.REC_CFG], (rowAt a).isNone = false ∧
      ((rowAt a).map fun r => r.access == .wo).getD false = false ∧ latchGroup a = [] ∧ laneLocal a = false ∧ a ∉ [Off.ICU_CLAIM_N, Off.ICU_CLAIM_F, Off.PST_FIRE_HEAD,
        Off.SUP_DIST_HEAD, Off.BRG_FAIL_HEAD, Off.UPD_RNG, Off.ODO_POS_LO, Off.BRG_FENCE] := by decide +kernel
  obtain ⟨hrow, hwo, hgroup, hlocal, hne⟩ := hall addr haddr
  simp only [List.mem_cons, List.not_mem_nil, or_false, not_or] at hne
  obtain ⟨h1, h2, h3, h4, h5, h6, h7, h8⟩ := hne
  have hlatched : ∀ own, s.latched own core addr = none := fun own => by
    unfold State.latched
    rw [hlatches]
    rfl
  have hpeek : s.peekAt k core addr = s.reg addr := by
    simp only [List.mem_cons, List.not_mem_nil, or_false] at haddr
    obtain rfl | rfl | rfl | rfl | rfl | rfl := haddr <;> rfl
  unfold readAt regReadOp readAnswer
  rw [hrow, if_neg Bool.false_ne_true, if_neg h1, if_neg h2, if_neg h3, if_neg h4, if_neg h5, if_neg h6, if_neg h7, if_neg h8]
  dsimp only
  rw [hwo, hgroup, hlatched, hpeek, hlocal]
  rfl

theorem exists_next_votedWrite_second (hwf : RegsWf s) (hup : s.up = true) (hin : s.inVote l = true) (hm : s.inVote m = true) (hne : l ≠ m) (hst : st < 48)
    (htarget : votedTarget addr = true) (hplain : plainReg addr = true) (hlive : boundaryOf addr = .live)
    (hopen : s.vot.open_ = [⟨st, seq, [⟨m, at_, addr, true, v⟩], []⟩]) (hkept : s.vot.kept = []) (hat : at_ ≤ s.now) (hnow : s.now ≤ time)
    (htime : time ≤ at_ + 2000) :
    ∃ t, exec (.votedWrite l st seq addr v time) s = .next t ∧ t.now = time ∧ t.reg addr = v &&& regMask addr ∧
      (∀ k : Nat, k ≠ addr → t.reg k = s.reg k) ∧ t.vot.open_ = [] ∧
      t.vot.kept = [⟨st, seq, addr, true, v, false, false, time, [m, l]⟩] ∧
      (∀ x : Lane, (t.vot.lanes.get x).phase = (s.vot.lanes.get x).phase) ∧ OnlyIn [.now, .time, .nv, .isl, .regs, .vot] s t := by
  have hw : writable addr = true := (plainReg_iff.mp hplain).1
  have hfence : addr ≠ Off.BRG_FENCE := by
    rintro rfl
    exact absurd hw (by decide +kernel)
  have hdigest : isDigest addr = false := by
    have hacts := actsAlone_of_plainReg hplain
    exact Bool.or_eq_false_iff.mpr ⟨beq_eq_false_iff_ne.mpr (ne_of_actsAlone hacts), beq_eq_false_iff_ne.mpr (ne_of_actsAlone hacts)⟩
  obtain ⟨hlow, hlocal⟩ := votedTarget_iff htarget (by have := writable_lt hw; omega)
  have hkey : ∀ k, regKey k addr = addr := fun k => if_neg (by rw [hlocal]; exact Bool.false_ne_true)
  set y : Access1 := ⟨l, time, addr, true, v⟩ with hy
  set x : Access1 := ⟨m, at_, addr, true, v⟩ with hx
  set u := noneOpen (opened st seq [x, y] (issued st seq y s)) with hu
  have honly : OnlyIn [.now, .time, .nv, .isl, .vot] s u := only_mk (s := issued st seq y s) (only_issued only_refl)
  have hinv := inVote_issued st seq y s
  have hvot := vot_issued st seq y s
  have hkept' : u.vot.kept = [] := by
    change (issued st seq y s).vot.kept = []
    rw [hvot, hkept]
  have hphase : ∀ k, (u.vot.lanes.get k).phase = (s.vot.lanes.get k).phase := by
    intro k
    change ((issued st seq y s).vot.lanes.get k).phase = _
    rw [hvot]
    by_cases e : k = l
    · rw [e, get_modify_self]
    · rw [get_modify_ne _ _ _ _ e]
  have hcommit : commitAccess st x [m, l] u = setReg addr v u := by
    rw [commitAccess_low hlow, if_pos rfl, writeAt_of_plainReg hplain, if_pos hlive, hkey]
  have hinv' : ∀ k, (setReg addr v u).inVote k = s.inVote k := fun k => by
    refine Eq.trans ?_ (hinv k)
    rw [State.inVote, setReg_vot]
    rfl
  have hexec := exec_second (c := .votedWrite l st seq addr v time) (x := x) (y := y) (s1 := setReg addr v u) (r := v) rfl hup hm hin (Ne.symm hne) hst htarget
    hdigest hlow hopen hkept hat hnow htime (by simp [Access1.same, hx, hy]) hfence hinv' hcommit (.inl ⟨rfl, rfl⟩)
  set k0 : KeptAccess := ⟨st, seq, addr, true, v, false, false, time, [m, l]⟩ with hk0
  set t := inWindow l (inWindow m (keptFor k0 (issued st seq y s).vot (setReg addr v u))) with ht
  have hrest : OnlyIn [.vot] (setReg addr v u) t := only_setLane (only_setLane (only_mk only_refl))
  have hall : OnlyIn [.now, .time, .nv, .isl, .regs, .vot] s t := onlyIn_trans (only_setReg (onlyIn_mono honly (by decide))) (onlyIn_mono hrest (by decide))
  have hnow' : t.now = time := (hrest.2 .now (by decide)).trans ((setReg_now _ _ _).trans (now_issued st seq hnow))
  have hopen' : (setReg addr v u).vot.open_ = [] := by rw [setReg_vot]; rfl
  refine ⟨t, hexec, hnow', ?_, fun k hk => ?_, hopen', ?_, fun k => ?_, hall⟩
  · rw [reg_of_only addr hrest, reg_setReg_self _ _ _ (wf_of_only hwf honly)]
  · rw [reg_of_only k hrest, reg_setReg_ne _ _ _ _ hk, reg_of_only k honly]
  · change (setReg addr v u).vot.kept ++ [k0] = [k0]
    rw [setReg_vot, hkept']
    rfl
  · obtain ⟨_, h1⟩ := lanes_inWindow l k (inWindow m (keptFor k0 (issued st seq y s).vot (setReg addr v u)))
    obtain ⟨_, h2⟩ := lanes_inWindow m k (keptFor k0 (issued st seq y s).vot (setReg addr v u))
    obtain ⟨_, h3⟩ := lane_keptFor_fields k0 (issued st seq y s).vot (setReg addr v u) k
    rw [ht, h1, h2, h3, setReg_vot]
    exact hphase k

theorem exists_next_votedRead_second (hup : s.up = true) (hin : s.inVote l = true) (hm : s.inVote m = true) (hne : l ≠ m) (hst : st < 48)
    (haddr : addr ∈ [Off.VOT_CFG, Off.PST_CFG, Off.ODO_CFG, Off.SUP_CFG, Off.DIO_OUT_CFG, Off.REC_CFG]) (hlatches : s.latches = [])
    (hopen : s.vot.open_ = [⟨st, seq, [⟨m, at_, addr, false, 0⟩], []⟩]) (hkept : s.vot.kept = []) (hat : at_ ≤ s.now) (hnow : s.now ≤ time)
    (htime : time ≤ at_ + 2000) :
    ∃ t, exec (.votedRead l st seq addr time) s = .next t ∧ t.now = time ∧ (t.vot.lanes.get l).answer = ⟨st / 8, s.reg addr, false⟩ ∧
      (t.vot.lanes.get m).answer = ⟨st / 8, s.reg addr, false⟩ ∧ t.vot.open_ = [] ∧
      t.vot.kept = [⟨st, seq, addr, false, s.reg addr, false, false, time, [m, l]⟩] ∧ OnlyIn [.now, .time, .nv, .isl, .vot] s t := by
  have hall : ∀ a ∈ [Off.VOT_CFG, Off.PST_CFG, Off.ODO_CFG, Off.SUP_CFG, Off.DIO_OUT_CFG, Off.REC_CFG], votedTarget a = true ∧ isDigest a = false ∧
      a < 0x110000 ∧ a ≠ Off.BRG_FENCE := by decide
  obtain ⟨htarget, hdigest, hlow, hfence⟩ := hall addr haddr
  set y : Access1 := ⟨l, time, addr, false, 0⟩ with hy
  set x : Access1 := ⟨m, at_, addr, false, 0⟩ with hx
  set u := noneOpen (opened st seq [x, y] (issued st seq y s)) with hu
  have honly : OnlyIn [.now, .time, .nv, .isl, .vot] s u := only_mk (s := issued st seq y s) (only_issued only_refl)
  have hreg : u.reg addr = s.reg addr := reg_of_only addr honly
  have hinv := inVote_issued st seq y s
  have hvot := vot_issued st seq y s
  have hkept' : u.vot.kept = [] := by
    change (issued st seq y s).vot.kept = []
    rw [hvot, hkept]
  have hcommit : commitAccess st x [m, l] u = answerAll (st / 8) (s.reg addr) false u := by
    rw [commitAccess_low hlow, if_neg (by exact Bool.false_ne_true), readAt_config haddr (honly.2 .latches (by decide) ▸ hlatches), hreg]
  have htold : ∀ k, s.inVote k = true → ((answerAll (st / 8) (s.reg addr) false u).vot.lanes.get k).answer = ⟨st / 8, s.reg addr, false⟩ := by
    intro k hk
    have hk' : (u.vot.lanes.get k).inVote = true := (hinv k).trans hk
    rw [answerAll_vot, Vot.answered]
    dsimp only
    rw [get_map, if_pos hk']
  have hinv' : ∀ k, (answerAll (st / 8) (s.reg addr) false u).inVote k = s.inVote k := by
    intro k
    refine Eq.trans ?_ (hinv k)
    rw [State.inVote, answerAll_vot, Vot.answered]
    dsimp only
    rw [get_map]
    split <;> rfl
  have hexec := exec_second (c := .votedRead l st seq addr time) (x := x) (y := y) (r := s.reg addr) rfl hup hm hin (Ne.symm hne) hst htarget
    hdigest hlow hopen hkept hat hnow htime (by simp [Access1.same, hx, hy]) hfence hinv' hcommit (.inr ⟨rfl, htold m hm⟩)
  have hanswer : ∀ k ∈ [m, l], s.inVote k = true → ((inWindow l (inWindow m (keptFor ⟨st, seq, addr, false, s.reg addr, false, false, time, [m, l]⟩
      (issued st seq y s).vot (answerAll (st / 8) (s.reg addr) false u)))).vot.lanes.get k).answer = ⟨st / 8, s.reg addr, false⟩ := by
    intro k hk hin
    obtain ⟨_, h1⟩ := lanes_inWindow l k (inWindow m (keptFor ⟨st, seq, addr, false, s.reg addr, false, false, time, [m, l]⟩ (issued st seq y s).vot
      (answerAll (st / 8) (s.reg addr) false u)))
    obtain ⟨_, h2⟩ := lanes_inWindow m k (keptFor ⟨st, seq, addr, false, s.reg addr, false, false, time, [m, l]⟩ (issued st seq y s).vot
      (answerAll (st / 8) (s.reg addr) false u))
    rw [h1, h2, lanes_keptFor, if_pos (List.contains_iff_mem.mpr hk)]
    exact htold k hin
  have hnow' : (answerAll (st / 8) (s.reg addr) false u).now = time := (answerAll_now _ _ _ _).trans (now_issued st seq hnow)
  have hopen' : (answerAll (st / 8) (s.reg addr) false u).vot.open_ = [] := by rw [answerAll_vot]; rfl
  have hkept'' : (answerAll (st / 8) (s.reg addr) false u).vot.kept = [] := by rw [answerAll_vot]; exact hkept'
  refine ⟨_, hexec, hnow', hanswer l (by simp) hin, hanswer m (by simp) hm, hopen', ?_, only_setLane (only_setLane (only_mk (only_answerAll honly)))⟩
  change (answerAll (st / 8) (s.reg addr) false u).vot.kept ++ _ = _
  rw [hkept'']
  rfl

end

/-- Settles O17, command by command. -/
theorem votedAccess : Obligations.VotedAccess := by
  unfold Obligations.VotedAccess
  exact ⟨fun _ _ _ _ _ _ w _ => exists_next_votedAccess_first w, fun _ _ _ _ _ _ _ _ _ => exists_next_votedWrite_second,
    fun _ _ _ _ _ _ _ _ => exists_next_votedRead_second⟩

end Sys2Proof.Machine

namespace Sys2Proof.Machine
set_option Elab.async false

/-! ### A lane that comes late (R72, R77, R82) -/

/-- A late access counts on its lane's run, short of the limit. -/
def skewed (l : Lane) (s : State) : State :=
  raiseIrq Irq.VOT_SKEW (bump (Off.VOT_SKEW_CNT + 4 * l.idx) (s.setLane l fun v => { v with skewRun := (s.vot.lanes.get l).skewRun + 1 }))

theorem skewEvent_of_short {l : Lane} {s : State} (h : (s.vot.lanes.get l).skewRun + 1 < max 1 (fld (s.reg Off.VOT_CFG) 8 8)) :
    skewEvent l s = skewed l s := by
  unfold skewEvent
  exact if_neg (by simpa using h)

/-- The counters that the Sluice keeps for each lane have no reserved bits. -/
theorem laneCount_plain (l : Lane) : ∀ off ∈ [Off.VOT_SKEW_CNT, Off.TLM_HUBPORT_ERR, Off.VOT_DIS_CNT],
    regMask (off + 4 * l.idx) = BitVec.allOnes 32 ∧ (off + 4 * l.idx) % 16777216 = off + 4 * l.idx := by
  cases l <;> decide

section
variable {s : State} {l : Lane}

theorem vot_skewed : (skewed l s).vot = (s.setLane l fun v => { v with skewRun := (s.vot.lanes.get l).skewRun + 1 }).vot := by
  unfold skewed
  rw [raiseIrq_vot, bump_vot]

theorem lane_skewed_self : (skewed l s).vot.lanes.get l = { s.vot.lanes.get l with skewRun := (s.vot.lanes.get l).skewRun + 1 } := by
  rw [vot_skewed]
  exact get_modify_self _ _ _

theorem lanes_skewed (k : Lane) : ∃ n, (skewed l s).vot.lanes.get k = { s.vot.lanes.get k with skewRun := n } := by
  rw [vot_skewed]
  by_cases e : k = l
  · rw [e]
    exact ⟨_, get_modify_self _ _ _⟩
  · exact ⟨_, get_modify_ne _ _ _ _ e⟩

theorem inVote_skewed (k : Lane) : (skewed l s).inVote k = s.inVote k := by
  obtain ⟨n, hn⟩ := lanes_skewed (l := l) (s := s) k
  rw [State.inVote, hn]
  rfl

theorem only_skewed {P : List Part} {b : State} (h : OnlyIn P b s) (hP : ∀ p ∈ [Part.regs, .vot, .icus], p ∈ P := by decide) : OnlyIn P b (skewed l s) :=
  only_via h hP fun _ h => only_raiseIrq (only_bump (only_setLane h))

theorem reg_skewed (k : Nat) : (skewed l s).reg k = (bump (Off.VOT_SKEW_CNT + 4 * l.idx) s).reg k := by
  have hset : (bump (Off.VOT_SKEW_CNT + 4 * l.idx) (s.setLane l fun v => { v with skewRun := (s.vot.lanes.get l).skewRun + 1 })).regs =
      (bump (Off.VOT_SKEW_CNT + 4 * l.idx) s).regs := rfl
  unfold skewed
  rw [raiseIrq_reg]
  exact reg_congr _ _ _ hset

theorem reg_skewed_self (hwf : RegsWf s) : (skewed l s).reg (Off.VOT_SKEW_CNT + 4 * l.idx) = s.reg (Off.VOT_SKEW_CNT + 4 * l.idx) + 1 := by
  rw [reg_skewed]
  exact reg_bump_unmasked _ _ hwf (laneCount_plain l _ (by simp)).1

theorem regs_skewed {R : List Nat} {b : State} (h : RegsOnly R b s) (hR : Off.VOT_SKEW_CNT + 4 * l.idx ∈ R) : RegsOnly R b (skewed l s) := fun k hk => by
  have hkey := (laneCount_plain l Off.VOT_SKEW_CNT (by simp)).2
  rw [reg_skewed]
  exact regs_bump h (by rw [hkey]; exact hR) k hk

theorem raised_skewed : Raised Irq.VOT_SKEW (skewed l s) := raised_raiseIrq _ _ (by decide)

end

/-! ### An access that finds its majority resolved -/

/-- The kept accesses after lane `l` has delivered the one of a stream and sequence. -/
def Vot.delivered (v : Vot) (k : KeptAccess) (l : Lane) : Vot :=
  { v with kept := v.kept.map fun y => if y.stream == k.stream && y.seq == k.seq then { y with lanes := y.lanes ++ [l] } else y }

/-- It is noted, and a read is answered with the kept value. -/
def lateAnswered (k : KeptAccess) (x : Access1) (s : State) : State :=
  when (!x.write && !k.awaits) (answer x.lane (k.stream / 8) (if k.write then 0 else k.value) (!k.write && k.busError)) { s with vot := s.vot.delivered k x.lane }

theorem lateArrival_eq {k : KeptAccess} {x : Access1} (s : State) (h : x.lane ∉ k.lanes) :
    lateArrival k x s = judgeAccess k.stream k.seq ⟨x.lane, k.at_, k.addr, k.write, k.value⟩ k.at_ x (lateAnswered k x s) := by
  unfold lateArrival
  exact if_neg (by simpa using h)

theorem only_lateAnswered {P : List Part} {b s : State} {k : KeptAccess} {x : Access1} (h : OnlyIn P b s) (hP : ∀ p ∈ [Part.vot], p ∈ P := by decide) :
    OnlyIn P b (lateAnswered k x s) :=
  only_via h hP fun _ h => only_when only_answer (only_mk h)

theorem lane_lateAnswered (k : KeptAccess) (x : Access1) (s : State) (m : Lane) :
    ∃ a, (lateAnswered k x s).vot.lanes.get m = { s.vot.lanes.get m with answer := a } := by
  unfold lateAnswered when
  split
  · rw [answer_vot]
    by_cases e : m = x.lane
    · rw [e]
      exact ⟨_, get_set_self _ _ _⟩
    · exact ⟨_, get_set_ne _ _ _ _ e⟩
  · exact ⟨_, rfl⟩

theorem kept_lateAnswered (k : KeptAccess) (x : Access1) {s : State} (h : s.vot.kept = [k]) :
    (lateAnswered k x s).vot.kept = [{ k with lanes := k.lanes ++ [x.lane] }] := by
  have hnote : (s.vot.delivered k x.lane).kept = [{ k with lanes := k.lanes ++ [x.lane] }] := by
    unfold Vot.delivered
    rw [h]
    exact congrArg (fun y => [y]) (if_pos (by simp))
  unfold lateAnswered when
  split
  · exact hnote
  · exact hnote

section
variable {s : State} {l : Lane} {st : Nat} {seq : Word} {addr : Nat} {v w : Word} {wr : Bool} {at_ time : Nat} {ls : List Lane}

/-- The access of a lane whose majority has resolved, while it is kept. -/
theorem exec_lateAccess (hup : s.up = true) (hin : s.inVote l = true) (hst : st < 48) (htarget : votedTarget addr = true)
    (hdigest : isDigest addr = false) (hopen : s.vot.open_ = []) (hkept : s.vot.kept = [⟨st, seq, addr, wr, v, false, false, at_, ls⟩]) (hl : l ∉ ls)
    (hnow : s.now ≤ time) (hlimit : time < at_ + s.lateLimit) :
    exec (.lateAccess l st seq addr wr w time) s = .next (settled s (judgeAccess st seq ⟨l, at_, addr, wr, v⟩ at_ ⟨l, time, addr, wr, if wr then w else 0⟩
      (lateAnswered ⟨st, seq, addr, wr, v, false, false, at_, ls⟩ ⟨l, time, addr, wr, if wr then w else 0⟩
        (issued st seq ⟨l, time, addr, wr, if wr then w else 0⟩ s)))) := by
  set k : KeptAccess := ⟨st, seq, addr, wr, v, false, false, at_, ls⟩ with hk
  set x : Access1 := ⟨l, time, addr, wr, if wr then w else 0⟩ with hx
  have hmine : (k.stream == st && k.seq == seq) = true := by simp [hk]
  have hnow' : (advanceTo time s).now = time := (now_advanceTo _ _).trans (Nat.max_eq_right hnow)
  have hfresh : expireAll (advanceTo time s) = advanceTo time s := by
    refine expireAll_of_fresh (fun y hy => ?_) (by rw [advanceTo_vot, hopen]; exact fun _ h => absurd h List.not_mem_nil)
    rw [advanceTo_vot, hkept, List.mem_singleton] at hy
    rw [hy, hnow', lateLimit_congr (advanceTo_regs _ _)]
    exact hlimit
  have hany : (s.vot.kept.any fun k => k.stream == st && k.seq == seq) = true := by
    rw [hkept, List.any_cons, hmine]
    rfl
  have harrive : arrive st seq x s = lateArrival k x (issued st seq x s) := by
    rw [arrive_of_fresh hup hin hst htarget hdigest hnow hfresh, hkept, List.find?_cons_of_pos (by exact hmine)]
  refine congrArg Host.Outcome.next ((if_pos hany).trans ?_)
  rw [harrive, lateArrival_eq _ hl]

end
end Sys2Proof.Machine

namespace Sys2Proof.Machine
set_option Elab.async false

section
variable {s : State} {l : Lane} {st : Nat} {seq : Word} {addr : Nat} {v w : Word} {wr : Bool} {at_ time : Nat} {ls : List Lane}

/-- An access out of its window that agrees counts on its lane's run (R77). -/
theorem judgeAccess_late {m x : Access1} {t : Nat} (hsame : x.same m = true) (hdigest : isDigest m.addr = false) (hlate : t + 2000 < x.at_) :
    judgeAccess st seq m t x s = skewEvent x.lane s := by
  have hout : outWindow t x.at_ = true := Bool.or_eq_true_iff.mpr (.inl (decide_eq_true hlate))
  have hhi : (m.addr == Off.VOT_DIGEST_HI) = false := (Bool.or_eq_false_iff.mp hdigest).2
  unfold judgeAccess
  rw [hout, hsame, hhi]
  rfl

/-- An access in its window with another value is a minority (R72, R102). -/
theorem judgeAccess_odd {m x : Access1} {t : Nat} (hsame : x.same m = false) (hdigest : isDigest m.addr = false) (hwindow : t ≤ x.at_ + 2000 ∧ x.at_ ≤ t + 2000)
    (hx : x.write = true) : judgeAccess st seq m t x s =
      minorityEvent x.lane st 0 m.addr seq false ((inWindow x.lane s).accessSafety st m.addr) (inWindow x.lane s) := by
  have hout : outWindow t x.at_ = false :=
    Bool.or_eq_false_iff.mpr ⟨decide_eq_false (Nat.not_lt.mpr hwindow.2), decide_eq_false (Nat.not_lt.mpr hwindow.1)⟩
  unfold judgeAccess oddAccess
  rw [hout, hsame, hdigest, hx]
  rfl

theorem answer_lateAnswered (k : KeptAccess) (x : Access1) (s : State) (hx : x.write = false) (hk : k.awaits = false) :
    ((lateAnswered k x s).vot.lanes.get x.lane).answer = ⟨k.stream / 8, if k.write then 0 else k.value, !k.write && k.busError⟩ := by
  unfold lateAnswered
  rw [hx, hk, Bool.not_false, Bool.and_self, when_true, answer_vot, get_set_self]

theorem exists_next_lateAccess_skewed (hwf : RegsWf s) (hup : s.up = true) (hin : s.inVote l = true) (hst : st < 48) (htarget : votedTarget addr = true)
    (hdigest : isDigest addr = false) (hopen : s.vot.open_ = []) (hkept : s.vot.kept = [⟨st, seq, addr, wr, v, false, false, at_, ls⟩]) (hl : l ∉ ls)
    (hagree : wr = true → w = v) (hnow : s.now ≤ time) (hlate : at_ + 2000 < time) (hlimit : time < at_ + s.lateLimit)
    (hrun : (s.vot.lanes.get l).skewRun + 1 < max 1 (fld (s.reg Off.VOT_CFG) 8 8)) :
    ∃ t, exec (.lateAccess l st seq addr wr w time) s = .next t ∧ t.now = time ∧ (t.vot.lanes.get l).skewRun = (s.vot.lanes.get l).skewRun + 1 ∧
      (wr = false → (t.vot.lanes.get l).answer = ⟨st / 8, v, false⟩) ∧ t.vot.kept = [⟨st, seq, addr, wr, v, false, false, at_, ls ++ [l]⟩] ∧
      t.reg (Off.VOT_SKEW_CNT + 4 * l.idx) = s.reg (Off.VOT_SKEW_CNT + 4 * l.idx) + 1 ∧ Raised Irq.VOT_SKEW t ∧
      RegsOnly [Off.VOT_SKEW_CNT + 4 * l.idx] s t ∧ OnlyIn [.now, .time, .nv, .isl, .regs, .vot, .icus] s t := by
  have hexec := exec_lateAccess (w := w) hup hin hst htarget hdigest hopen hkept hl hnow hlimit
  set k : KeptAccess := ⟨st, seq, addr, wr, v, false, false, at_, ls⟩ with hk
  set x : Access1 := ⟨l, time, addr, wr, if wr then w else 0⟩ with hx
  set u := lateAnswered k x (issued st seq x s) with hu
  have honly : OnlyIn [.now, .time, .nv, .isl, .vot] s u := only_lateAnswered (only_issued only_refl)
  have hissued : (issued st seq x s).vot.lanes.get l = { s.vot.lanes.get l with seqs := put (s.vot.lanes.get l).seqs st (seq + 1), portSeq := (s.vot.lanes.get l).portSeq + 1 } := by
    rw [vot_issued, get_modify_self]
  obtain ⟨a, hlane⟩ := lane_lateAnswered k x (issued st seq x s) l
  have hrun' : (u.vot.lanes.get l).skewRun = (s.vot.lanes.get l).skewRun := by rw [hu, hlane, hissued]
  have hsame : x.same ⟨l, at_, addr, wr, v⟩ = true := by
    cases wr with
    | false => simp [Access1.same, hx]
    | true => simp [Access1.same, hx, hagree rfl]
  have hinv : ∀ m, u.inVote m = s.inVote m := fun m => by
    obtain ⟨a, ha⟩ := lane_lateAnswered k x (issued st seq x s) m
    rw [← inVote_issued st seq x s m, State.inVote, hu, ha]
    rfl
  rw [judgeAccess_late hsame hdigest hlate, skewEvent_of_short (s := u) (by rw [hrun', reg_of_only _ honly]; exact hrun),
    settled_of_lanes (t := skewed l u) fun m => (inVote_skewed m).trans (hinv m)] at hexec
  refine ⟨skewed l u, hexec, ?_, ?_, fun hw => ?_, ?_, ?_, raised_skewed, ?_, only_skewed (onlyIn_mono honly (by decide))⟩
  · rw [(only_skewed (P := [.regs, .vot, .icus]) only_refl).2 .now (by decide)]
    rw [(only_lateAnswered (P := [.vot]) only_refl).2 .now (by decide)]
    exact now_issued st seq hnow
  · rw [lane_skewed_self]
    exact congrArg (· + 1) hrun'
  · rw [lane_skewed_self]
    subst hw
    exact answer_lateAnswered k x (issued st seq x s) rfl rfl
  · rw [vot_skewed]
    exact kept_lateAnswered k x (by rw [vot_issued]; exact hkept)
  · rw [reg_skewed_self (wf_of_only hwf honly), reg_of_only _ honly]
  · exact regs_skewed (regs_of_only regs_refl honly) (List.mem_singleton_self _)

/-- A minority event short of both limits only counts. -/
theorem minority_of_short {safety : Bool} {c : Cause} (hsafety : (s.vot.lanes.get l).safetyRun + 1 < max 1 (fld (s.reg Off.VOT_CFG) 0 2))
    (hstd : (s.vot.lanes.get l).stdRun + 1 < max 1 (fld (s.reg Off.VOT_CFG) 4 4)) :
    ∃ f : LaneVote → LaneVote, (∀ v, (f v).phase = v.phase) ∧ minority l safety c st seq s = s.setLane l f := by
  unfold minority
  dsimp only
  split
  · exact ⟨fun v => v, fun _ => rfl, by rw [State.setLane]; cases l <;> rfl⟩
  · split
    · rw [if_neg (by rw [decide_eq_true_eq]; split <;> omega)]
      refine ⟨_, ?_, rfl⟩
      exact fun _ => rfl
    · rw [if_neg (by rw [decide_eq_true_eq]; split <;> omega)]
      refine ⟨_, ?_, rfl⟩
      exact fun _ => rfl

theorem inVote_setLane {f : LaneVote → LaneVote} (hf : ∀ v, (f v).phase = v.phase) (k : Lane) : (s.setLane l f).inVote k = s.inVote k := by
  by_cases e : k = l
  · rw [State.inVote, e, State.inVote]
    change ((s.vot.lanes.modify l f).get l).inVote = _
    rw [get_modify_self, LaneVote.inVote, LaneVote.inVote, hf]
  · rw [State.inVote]
    exact congrArg LaneVote.inVote (get_modify_ne _ _ _ _ e)

/-- The counters and words that a minority shows. -/
def minorityRegs (l : Lane) : List Nat := [Off.VOT_DIS_CNT + 4 * l.idx, Off.VOT_DIS_ADDR, Off.VOT_DIS_INFO, Off.REC_LOST_CNT]

theorem only_showMinority {P : List Part} {b : State} {kind : Nat} {late : Bool} (h : OnlyIn P b s) (hP : ∀ p ∈ recParts, p ∈ P := by decide) :
    OnlyIn P b (showMinority l st kind addr seq late s) :=
  only_via h hP fun _ h => only_record (only_raiseIrq (only_setReg (only_setReg (only_bump h))))

theorem regs_showMinority {b : State} {kind : Nat} {late : Bool} (h : RegsOnly (minorityRegs l) b s) :
    RegsOnly (minorityRegs l) b (showMinority l st kind addr seq late s) := by
  have hkey := (laneCount_plain l Off.VOT_DIS_CNT (by simp)).2
  exact regs_record (regs_raiseIrq (regs_setReg (regs_setReg (regs_bump h (by rw [hkey]; exact List.mem_cons_self)) (by cases l <;> decide)) (by cases l <;> decide)))
    (by cases l <;> decide)

theorem reg_showMinority {kind : Nat} {late : Bool} (hwf : RegsWf s) :
    (showMinority l st kind addr seq late s).reg (Off.VOT_DIS_CNT + 4 * l.idx) = s.reg (Off.VOT_DIS_CNT + 4 * l.idx) + 1 ∧
      (showMinority l st kind addr seq late s).reg Off.VOT_DIS_ADDR = BitVec.ofNat 32 (addr % 2097152) := by
  obtain ⟨hmask, hkey⟩ := laneCount_plain l Off.VOT_DIS_CNT (by simp)
  have hne : Off.VOT_DIS_CNT + 4 * l.idx ≠ Off.REC_LOST_CNT ∧ Off.VOT_DIS_CNT + 4 * l.idx ≠ Off.VOT_DIS_INFO ∧ Off.VOT_DIS_CNT + 4 * l.idx ≠ Off.VOT_DIS_ADDR := by
    cases l <;> decide
  have hrec : ∀ u type items k, k % 16777216 ≠ Off.REC_LOST_CNT → (record type items u).reg k = u.reg k := fun u type items k hk =>
    regs_record (R := [Off.REC_LOST_CNT]) regs_refl (by simp) k (by simpa using hk)
  unfold showMinority
  constructor
  · rw [hrec _ _ _ _ (by rw [hkey]; exact hne.1), raiseIrq_reg, reg_setReg_ne _ _ _ _ hne.2.1, reg_setReg_ne _ _ _ _ hne.2.2, reg_bump_unmasked _ _ hwf hmask]
  · rw [hrec _ _ _ _ (by decide), raiseIrq_reg, reg_setReg_ne _ _ _ _ (by decide), reg_setReg_unmasked _ _ _ (wf_bump hwf) (by decide)]

theorem exists_next_lateAccess_minority (hwf : RegsWf s) (hup : s.up = true) (hin : s.inVote l = true) (hst : st < 48) (htarget : votedTarget addr = true)
    (hdigest : isDigest addr = false) (hopen : s.vot.open_ = []) (hkept : s.vot.kept = [⟨st, seq, addr, true, v, false, false, at_, ls⟩]) (hl : l ∉ ls)
    (hodd : w ≠ v) (hnow : s.now ≤ time) (hat : at_ ≤ time) (htime : time ≤ at_ + 2000)
    (hsafety : (s.vot.lanes.get l).safetyRun + 1 < max 1 (fld (s.reg Off.VOT_CFG) 0 2))
    (hstd : (s.vot.lanes.get l).stdRun + 1 < max 1 (fld (s.reg Off.VOT_CFG) 4 4)) :
    ∃ t, exec (.lateAccess l st seq addr true w time) s = .next t ∧ t.reg (Off.VOT_DIS_CNT + 4 * l.idx) = s.reg (Off.VOT_DIS_CNT + 4 * l.idx) + 1 ∧
      t.reg Off.VOT_DIS_ADDR = BitVec.ofNat 32 (addr % 2097152) ∧ Raised Irq.VOT_DISAGREE t ∧ t.inVote l = true ∧
      InQueue 0x0204 [iU8 1 l.idx, iU32 2 (addr % 2097152), iU8 3 0] s t ∧
      RegsOnly [Off.VOT_DIS_CNT + 4 * l.idx, Off.VOT_DIS_ADDR, Off.VOT_DIS_INFO, Off.REC_LOST_CNT] s t ∧
      OnlyIn [.now, .time, .nv, .isl, .regs, .vot, .icus, .erec] s t := by
  have hlim := twenty_le_lateLimit s
  have hexec := exec_lateAccess (w := w) hup hin hst htarget hdigest hopen hkept hl hnow (by omega)
  set k : KeptAccess := ⟨st, seq, addr, true, v, false, false, at_, ls⟩ with hk
  set x : Access1 := ⟨l, time, addr, true, if true then w else 0⟩ with hx
  set u := inWindow l (lateAnswered k x (issued st seq x s)) with hu
  have honly : OnlyIn [.now, .time, .nv, .isl, .vot] s u := only_setLane (only_lateAnswered (only_issued only_refl))
  have hsame : x.same ⟨l, at_, addr, true, v⟩ = false := by simpa [Access1.same, hx] using hodd
  have hlane : (u.vot.lanes.get l).safetyRun = (s.vot.lanes.get l).safetyRun ∧ (u.vot.lanes.get l).stdRun = (s.vot.lanes.get l).stdRun := by
    obtain ⟨_, h1⟩ := lanes_inWindow l l (lateAnswered k x (issued st seq x s))
    obtain ⟨_, h2⟩ := lane_lateAnswered k x (issued st seq x s) l
    rw [hu, h1, h2, vot_issued, get_modify_self]
    exact ⟨rfl, rfl⟩
  have hinv : ∀ m, u.inVote m = s.inVote m := fun m => by
    obtain ⟨_, ha⟩ := lane_lateAnswered k x (issued st seq x s) m
    rw [hu, inVote_inWindow, ← inVote_issued st seq x s m, State.inVote, ha]
    rfl
  have hregs : RegsOnly (minorityRegs l) s (showMinority l st 0 addr seq false u) := regs_showMinority (regs_of_only regs_refl honly)
  have hshown : OnlyIn [.regs, .isl, .icus, .erec] u (showMinority l st 0 addr seq false u) := only_showMinority only_refl
  have hcfg : (showMinority l st 0 addr seq false u).reg Off.VOT_CFG = s.reg Off.VOT_CFG := hregs _ (by cases l <;> decide)
  have hvot : (showMinority l st 0 addr seq false u).vot = u.vot := hshown.2 .vot (by decide)
  obtain ⟨f, hf, hminority⟩ := minority_of_short (l := l) (st := st) (seq := seq) (s := showMinority l st 0 addr seq false u)
    (safety := u.accessSafety st addr) (c := .disagree) (by rw [hvot, hlane.1, hcfg]; exact hsafety) (by rw [hvot, hlane.2, hcfg]; exact hstd)
  set t := (showMinority l st 0 addr seq false u).setLane l f with ht
  have hinv' : ∀ m, t.inVote m = s.inVote m := fun m => by
    rw [ht, inVote_setLane hf, State.inVote, hvot]
    exact hinv m
  have hjudge : judgeAccess st seq ⟨l, at_, addr, true, v⟩ at_ x (lateAnswered k x (issued st seq x s)) = t := by
    rw [judgeAccess_odd hsame hdigest ⟨by change at_ ≤ time + 2000; omega, htime⟩ rfl]
    exact hminority
  have hrest : OnlyIn [.vot] (showMinority l st 0 addr seq false u) t := only_setLane only_refl
  obtain ⟨hcount, hshow⟩ := reg_showMinority (l := l) (st := st) (seq := seq) (addr := addr) (kind := 0) (late := false) (wf_of_only hwf honly)
  rw [hjudge, settled_of_lanes hinv'] at hexec
  refine ⟨t, hexec, ?_, ?_, raised_setLane (raised_record (raised_raiseIrq _ _ (by decide))) hf, (hinv' l).trans hin, ?_, ?_, ?_⟩
  · rw [reg_of_only _ hrest, hcount, reg_of_only _ honly]
  · rw [reg_of_only _ hrest, hshow]
  · have hcounted : OnlyIn [.regs, .icus] u (raiseIrq Irq.VOT_DISAGREE (setReg Off.VOT_DIS_INFO (mkWord [(0, st), (6, 0), (8 + l.idx, 1), (11, b2n false),
        (16, seq.toNat % 65536)]) (setReg Off.VOT_DIS_ADDR (BitVec.ofNat 32 (addr % 2097152)) (bump (Off.VOT_DIS_CNT + 4 * l.idx) u)))) :=
      only_raiseIrq (only_setReg (only_setReg (only_bump only_refl)))
    have hlate : OnlyIn [.vot] (advanceTo time s) u := only_setLane (only_lateAnswered (only_setLane only_refl))
    refine inQueue_of_queue (t := showMinority l st 0 addr seq false u) (inQueue_record ?_ (Nat.le_add_right_of_le (le_of_eq ?_))) rfl
    · exact (recUp_of_only hcounted).trans ((recUp_of_only hlate).trans (recUp_advanceTo time s))
    · exact congrArg (fun r : Recorder => r.queue.length) ((hcounted.2 .erec (by decide)).trans (honly.2 .erec (by decide)))
  · exact regs_of_only hregs hrest
  · exact onlyIn_trans (onlyIn_mono honly (by decide)) (only_setLane (onlyIn_mono hshown (by decide)))

end
end Sys2Proof.Machine

namespace Sys2Proof.Machine
set_option Elab.async false

/-! ### Lanes that leave the vote for lateness (R78, Table 3.3) -/

/-- Nothing is outstanding in a state whose deliveries are those of another. -/
theorem quiet_congr {s t : State} (hopen : t.vot.open_ = s.vot.open_) (hvoted : t.vot.voted = s.vot.voted ∧ t.vot.votedDigest = s.vot.votedDigest ∧
    t.vot.votedEnd = s.vot.votedEnd) (htime : t.time.votes = s.time.votes)
    (hlanes : ∀ k, (t.vot.lanes.get k).handed = (s.vot.lanes.get k).handed ∧ (t.vot.lanes.get k).digest = (s.vot.lanes.get k).digest ∧
      (t.vot.lanes.get k).ended = (s.vot.lanes.get k).ended) : t.quiet = s.quiet := by
  unfold State.quiet
  simp only [hopen, hvoted, htime, hlanes]

theorem votes_advanceTo (n : Nat) (s : State) : (advanceTo n s).time.votes = s.time.votes := by
  unfold advanceTo
  split <;> rfl

theorem kept_excludeLane {l : Lane} {c : Cause} {s : State} (hin : s.inVote l = true) (hthree : 3 ≤ s.lanesIn.length) :
    (excludeLane l c s).vot.kept = s.vot.kept := by
  rw [excludeLane_vot l c s hin hthree, exclusion_vot]
  rfl

/-- The one lane in vote that a list does not name. -/
theorem lanesIn_filter_other {s : State} {l : Lane} {ls : List Lane} (hin : s.inVote l = true) (hls : ∀ m : Lane, m ∈ ls ↔ m ≠ l) :
    (s.lanesIn.filter fun m => !ls.contains m) = [l] := by
  have hpred : ∀ m, (!ls.contains m && s.inVote m) = (m == l) := by
    intro m
    by_cases e : m = l
    · have hnot : ls.contains l = false := by simpa using fun h => (hls l).mp h rfl
      rw [e, hnot, hin, beq_self_eq_true]
      rfl
    · have hmem : ls.contains m = true := List.contains_iff_mem.mpr ((hls m).mpr e)
      rw [hmem, beq_eq_false_iff_ne.mpr e]
      rfl
  rw [State.lanesIn, List.filter_filter]
  simp only [hpred]
  cases l <;> rfl

/-- The kept access is forgotten. -/
def forgotten (s : State) : State := { s with vot := { s.vot with kept := [] } }

/-- LATE_LIMIT passes for the one kept access, which one lane has not delivered (R78). -/
theorem expireAll_of_kept {s : State} {l : Lane} {k : KeptAccess} (hup : s.up = true) (hin : s.inVote l = true)
    (hkept : s.vot.kept = [k]) (hls : ∀ m : Lane, m ∈ k.lanes ↔ m ≠ l) (hdue : k.at_ + s.lateLimit ≤ s.now)
    (hsettled : (excludeLate [l] (forgotten s)).sys.failSilent = true ∨ (excludeLate [l] (forgotten s)).vot.open_ = []) :
    expireAll s = excludeLate [l] (forgotten s) := by
  have hdone : (s.vot.kept.filter fun k => decide (k.at_ + s.lateLimit ≤ s.now)) = [k] := by
    rw [hkept, List.filter_cons_of_pos (by simpa using hdue), List.filter_nil]
  have hforget : ({ s with vot := { s.vot with kept := s.vot.kept.filter fun x => !(x.stream == k.stream && x.seq == k.seq) } } : State) = forgotten s := by
    rw [hkept, List.filter_cons_of_neg (by simp), List.filter_nil]
    rfl
  have hone : expireKept k s = excludeLate [l] (forgotten s) := by
    unfold expireKept
    rw [lanesIn_filter_other hin hls, hforget]
  unfold expireAll
  dsimp only
  rw [hdone, List.foldl_cons, List.foldl_nil, failSilent_of_up hup, if_neg Bool.false_ne_true, hone]
  obtain hsilent | hnone := hsettled
  · refine List.foldlRecOn (motive := fun t => t = excludeLate [l] (forgotten s)) _ _ rfl fun t ht e _ => ?_
    rw [ht, hsilent]
    rfl
  · rw [hnone]
    rfl

theorem excludeLate_of_three {s : State} (l : Lane) (h : 3 ≤ s.lanesIn.length) : excludeLate [l] s = excludeLane l .late s := by
  unfold excludeLate
  rw [if_neg (by exact Bool.false_ne_true), if_neg (by change ¬ s.lanesIn.length < 3; omega)]
  rfl

theorem excludeLate_of_two {s : State} (l : Lane) (h : s.lanesIn.length = 2) :
    excludeLate [l] s = failSilent (record 0x0201 [iU8 1 l.idx, iU8 2 Cause.late.code] s) := by
  unfold excludeLate
  rw [if_neg (by exact Bool.false_ne_true), if_pos (by rw [h]; exact Nat.lt_succ_self 2)]
  rfl

section
variable {s : State} {l : Lane} {k : KeptAccess}

theorem exists_next_lateLimitExpiry (hup : s.up = true) (hquiet : s.quiet = true) (hin : s.inVote l = true) (hst : k.stream < 48)
    (hkept : s.vot.kept = [k]) (hls : ∀ m : Lane, m ∈ k.lanes ↔ m ≠ l) (hnow : s.now ≤ k.at_ + s.lateLimit) :
    (s.lanesIn.length = 3 → ∃ t, exec (.lateLimitExpiry k.stream k.seq) s = .next t ∧ t.now = k.at_ + s.lateLimit ∧ LeftVote l .late s t ∧
      t.vot.kept = [] ∧ OnlyIn (.now :: .time :: exclParts) s t) ∧
    (s.lanesIn.length = 2 → ∃ t, exec (.lateLimitExpiry k.stream k.seq) s = .next t ∧ FellSilent s t ∧ OnlyIn (.now :: .time :: silentParts) s t) := by
  have hopen : s.vot.open_ = [] := by
    unfold State.quiet at hquiet
    simp only [Bool.and_eq_true, List.isEmpty_iff] at hquiet
    exact hquiet.1.1.1.1
  set at' := k.at_ + s.lateLimit with hat'
  set u := forgotten (advanceTo at' s) with hu
  have hnow' : (advanceTo at' s).now = at' := (now_advanceTo _ _).trans (Nat.max_eq_right hnow)
  have honly : OnlyIn [.now, .time, .nv, .isl, .vot] s u := only_mk (s := advanceTo at' s) (only_advanceTo only_refl)
  have hinv : ∀ m, u.inVote m = s.inVote m := fun m => by
    change ((advanceTo at' s).vot.lanes.get m).inVote = _
    rw [advanceTo_vot]
    rfl
  have hlanes := lanesIn_congr hinv
  have hup' : u.up = true := (up_advanceTo at' s).trans hup
  have hexec : exec (.lateLimitExpiry k.stream k.seq) s = .next (settled s (expireAll (advanceTo at' s))) := by
    have hfind : s.vot.kept.find? (fun x => x.stream == k.stream && x.seq == k.seq) = some k := by
      rw [hkept, List.find?_cons_of_pos (by simp)]
    have hunit : (!s.up) = false := by rw [hup]; rfl
    refine congrArg Host.Outcome.next ((if_neg (by rw [hunit]; exact Bool.false_ne_true)).trans ((if_neg (by omega)).trans ((if_neg (by omega)).trans ?_)))
    rw [hfind]
  have hexpire := expireAll_of_kept (s := advanceTo at' s) (l := l) (k := k) ((up_advanceTo at' s).trans hup)
    ((congrArg (fun v : Vot => (v.lanes.get l).inVote) (advanceTo_vot at' s)).trans hin) (by rw [advanceTo_vot, hkept]) hls
    (by rw [hnow', lateLimit_congr (advanceTo_regs _ _)])
  constructor
  · intro hthree
    have hthree' : 3 ≤ u.lanesIn.length := by rw [hlanes, hthree]
    have hquiet' : u.quiet = true := by
      rw [← hquiet]
      refine quiet_congr ?_ ?_ (votes_advanceTo at' s) fun m => ?_
      all_goals
        rw [hu, forgotten]
        dsimp only
        rw [advanceTo_vot]
      · exact ⟨rfl, rfl, rfl⟩
      · exact ⟨rfl, rfl, rfl⟩
    have hleft : excludeLate [l] u = excludeLane l .late u := excludeLate_of_three l hthree'
    rw [hexpire (.inr (by
      rw [← hu, hleft, excludeLane_vot l _ u ((hinv l).trans hin) hthree', (exclusion_rest l _ u).2.1]
      change (advanceTo at' s).vot.open_ = []
      rw [advanceTo_vot, hopen])), ← hu, hleft, settled_excludeLane s l .late u ((hinv l).trans hin) hthree' hquiet'] at hexec
    have hexcl : OnlyIn exclParts u (excludeLane l .late u) := only_excludeLane only_refl
    refine ⟨_, hexec, ?_, ?_, ?_, onlyIn_trans (onlyIn_mono honly (by decide)) (onlyIn_mono hexcl (by decide))⟩
    · rw [hexcl.2 .now (by decide)]
      exact hnow'
    · exact leftVote_of_same (leftVote_excludeLane l .late u hup' ((hinv l).trans hin) hthree') hinv
        (by rw [hu, forgotten]; dsimp only; rw [advanceTo_vot]) (congrArg Sys.mode (honly.2 .sys (by decide)))
    · rw [kept_excludeLane ((hinv l).trans hin) hthree']
      rfl
  · intro htwo
    have hleft : excludeLate [l] u = failSilent (record 0x0201 [iU8 1 l.idx, iU8 2 Cause.late.code] u) := excludeLate_of_two l (by rw [hlanes, htwo])
    have hsilent : FellSilent u (excludeLate [l] u) := by
      rw [hleft]
      exact fellSilent_record _ _ u (failSilent_of_up hup')
    rw [hexpire (.inl hsilent.1), ← hu, settled_of_silent hsilent, hleft] at hexec
    rw [hleft] at hsilent
    exact ⟨_, hexec, fellSilent_of_same hsilent (congrArg Sys.mode (honly.2 .sys (by decide))),
      only_failSilent (only_record (onlyIn_mono honly (by decide)))⟩

/-- The times of a lane's failed transfers within the last second, and this one (R23). -/
def failTimes (l : Lane) (s : State) : List Nat := s.now :: ((s.vot.lanes.get l).portFails.filter fun t => decide (s.now < t + 1000000000))

/-- A failed transfer at the hub is noted and counted. -/
def transferFailed (l : Lane) (s : State) : State :=
  bump (Off.TLM_HUBPORT_ERR + 4 * l.idx) (s.setLane l fun v => { v with portFails := failTimes l s })

theorem lanes_transferFailed (m : Lane) : ∃ ts, (transferFailed l s).vot.lanes.get m = { s.vot.lanes.get m with portFails := ts } := by
  by_cases e : m = l
  · rw [e]
    exact ⟨_, get_modify_self _ _ _⟩
  · exact ⟨_, get_modify_ne _ _ _ _ e⟩

theorem inVote_transferFailed (m : Lane) : (transferFailed l s).inVote m = s.inVote m := by
  obtain ⟨ts, h⟩ := lanes_transferFailed (l := l) (s := s) m
  rw [State.inVote, h]
  rfl

theorem exec_hubPortRetryExhausted {st : Nat} {seq : Word} {xs : List HubTransfer} (hup : s.up = true) (hin : s.inVote l = true) (hfour : xs.length = 4)
    (hfail : ∀ x ∈ xs, s.portPasses l x = false) (hrun : (s.vot.lanes.get l).skewRun + 1 < max 1 (fld (s.reg Off.VOT_CFG) 8 8)) :
    exec (.hubPortRetryExhausted l st seq xs) s =
      .next (settled s (when (decide (16 ≤ (failTimes l s).length)) (excludeLane l .hubPort) (skewed l (transferFailed l s)))) := by
  have hnone : (xs.any (s.portPasses l)) = false := List.any_eq_false.mpr fun x hx => by rw [hfail x hx]; exact Bool.false_ne_true
  have hcond : (s.up && s.inVote l && decide (xs.length = 4) && !xs.any (s.portPasses l)) = true := by
    rw [hup, hin, decide_eq_true hfour, hnone]
    rfl
  obtain ⟨ts, hlane⟩ := lanes_transferFailed (l := l) (s := s) l
  have hcfg : (transferFailed l s).reg Off.VOT_CFG = s.reg Off.VOT_CFG := reg_bump_ne _ _ _ (by cases l <;> decide)
  have hskew : skewEvent l (transferFailed l s) = skewed l (transferFailed l s) := skewEvent_of_short (by rw [hlane, hcfg]; exact hrun)
  rw [← hskew]
  exact congrArg Host.Outcome.next (if_pos hcond)

theorem exists_next_hubPortRetryExhausted_late {st : Nat} {seq : Word} {xs : List HubTransfer} (hwf : RegsWf s) (hup : s.up = true) (hin : s.inVote l = true)
    (hfour : xs.length = 4) (hfail : ∀ x ∈ xs, s.portPasses l x = false)
    (hfew : ((s.vot.lanes.get l).portFails.filter fun t => decide (s.now < t + 1000000000)).length < 15)
    (hrun : (s.vot.lanes.get l).skewRun + 1 < max 1 (fld (s.reg Off.VOT_CFG) 8 8)) :
    ∃ t, exec (.hubPortRetryExhausted l st seq xs) s = .next t ∧
      t.reg (Off.TLM_HUBPORT_ERR + 4 * l.idx) = s.reg (Off.TLM_HUBPORT_ERR + 4 * l.idx) + 1 ∧
      t.reg (Off.VOT_SKEW_CNT + 4 * l.idx) = s.reg (Off.VOT_SKEW_CNT + 4 * l.idx) + 1 ∧
      (t.vot.lanes.get l).skewRun = (s.vot.lanes.get l).skewRun + 1 ∧ s.now ∈ (t.vot.lanes.get l).portFails ∧ t.inVote l = true ∧
      Raised Irq.VOT_SKEW t ∧ RegsOnly [Off.TLM_HUBPORT_ERR + 4 * l.idx, Off.VOT_SKEW_CNT + 4 * l.idx] s t ∧ OnlyIn [.regs, .vot, .icus] s t := by
  have hexec := exec_hubPortRetryExhausted (st := st) (seq := seq) hup hin hfour hfail hrun
  set u := transferFailed l s with hu
  have hinv : ∀ m, (skewed l u).inVote m = s.inVote m := fun m => (inVote_skewed m).trans (inVote_transferFailed m)
  have hshort : decide (16 ≤ (failTimes l s).length) = false := decide_eq_false (by rw [failTimes, List.length_cons]; omega)
  rw [hshort, when_false, settled_of_lanes hinv] at hexec
  have hwfu : RegsWf u := wf_bump hwf
  have hlane : u.vot.lanes.get l = { s.vot.lanes.get l with portFails := failTimes l s } := get_modify_self _ _ _
  obtain ⟨herrmask, herrkey⟩ := laneCount_plain l Off.TLM_HUBPORT_ERR (by simp)
  have hne : Off.TLM_HUBPORT_ERR + 4 * l.idx ≠ Off.VOT_SKEW_CNT + 4 * l.idx := by cases l <;> decide
  refine ⟨_, hexec, ?_, ?_, ?_, ?_, (hinv l).trans hin, raised_skewed, ?_, only_skewed (only_bump (only_setLane only_refl))⟩
  · rw [reg_skewed, reg_bump_ne _ _ _ hne]
    exact reg_bump_unmasked _ _ hwf herrmask
  · rw [reg_skewed_self hwfu]
    exact congrArg (· + 1) (reg_bump_ne _ _ _ (Ne.symm hne))
  · rw [lane_skewed_self, hlane]
  · rw [lane_skewed_self, hlane]
    exact List.mem_cons_self
  · exact regs_skewed (regs_bump regs_refl (by rw [herrkey]; exact List.mem_cons_self)) (by simp)

theorem exists_next_hubPortRetryExhausted_excluded {st : Nat} {seq : Word} {xs : List HubTransfer} (hup : s.up = true) (hquiet : s.quiet = true)
    (hin : s.inVote l = true) (hthree : s.lanesIn.length = 3) (hfour : xs.length = 4) (hfail : ∀ x ∈ xs, s.portPasses l x = false)
    (hmany : 15 ≤ ((s.vot.lanes.get l).portFails.filter fun t => decide (s.now < t + 1000000000)).length)
    (hrun : (s.vot.lanes.get l).skewRun + 1 < max 1 (fld (s.reg Off.VOT_CFG) 8 8)) :
    ∃ t, exec (.hubPortRetryExhausted l st seq xs) s = .next t ∧ LeftVote l .hubPort s t ∧ OnlyIn exclParts s t := by
  have hexec := exec_hubPortRetryExhausted (st := st) (seq := seq) hup hin hfour hfail hrun
  set u := skewed l (transferFailed l s) with hu
  have honly : OnlyIn [.regs, .vot, .icus] s u := only_skewed (only_bump (only_setLane only_refl))
  have hinv : ∀ m, u.inVote m = s.inVote m := fun m => (inVote_skewed m).trans (inVote_transferFailed m)
  have hvot : u.vot = ((transferFailed l s).setLane l fun v => { v with skewRun := ((transferFailed l s).vot.lanes.get l).skewRun + 1 }).vot := vot_skewed
  have hlanes : ∀ m, ∃ n ts, u.vot.lanes.get m = { s.vot.lanes.get m with skewRun := n, portFails := ts } := fun m => by
    obtain ⟨n, h1⟩ := lanes_skewed (l := l) (s := transferFailed l s) m
    obtain ⟨ts, h2⟩ := lanes_transferFailed (l := l) (s := s) m
    exact ⟨n, ts, by rw [hu, h1, h2]⟩
  have hquiet' : u.quiet = true := by
    rw [← hquiet]
    refine quiet_congr (by rw [hvot]; rfl) (by rw [hvot]; exact ⟨rfl, rfl, rfl⟩) (by rw [honly.2 .time (by decide)]) fun m => ?_
    obtain ⟨n, ts, h⟩ := hlanes m
    rw [h]
    exact ⟨rfl, rfl, rfl⟩
  have hthree' : 3 ≤ u.lanesIn.length := by rw [lanesIn_congr hinv, hthree]
  have hlong : decide (16 ≤ (failTimes l s).length) = true := decide_eq_true (by rw [failTimes, List.length_cons]; omega)
  rw [hlong, when_true, settled_excludeLane s l .hubPort u ((hinv l).trans hin) hthree' hquiet'] at hexec
  exact ⟨_, hexec, leftVote_of_same (leftVote_excludeLane l .hubPort u ((up_of_only honly).trans hup) ((hinv l).trans hin) hthree') hinv (by rw [hvot]; rfl)
    (congrArg Sys.mode (honly.2 .sys (by decide))), only_excludeLane (onlyIn_mono honly (by decide))⟩

end

/-- Settles O18, command by command. -/
theorem lateAccesses : Obligations.LateAccesses := by
  unfold Obligations.LateAccesses
  exact ⟨fun _ _ _ _ _ _ _ _ _ _ _ => exists_next_lateAccess_skewed, fun _ _ _ _ _ _ _ _ _ _ => exists_next_lateAccess_minority,
    fun _ _ _ => exists_next_lateLimitExpiry, fun _ _ _ _ _ => exists_next_hubPortRetryExhausted_late,
    fun _ _ _ _ _ => exists_next_hubPortRetryExhausted_excluded⟩

end Sys2Proof.Machine

namespace Sys2Proof.Machine
set_option Elab.async false

/-! ### What the lanes have delivered -/

theorem filter_lanes_one {p : Lane → Bool} {l : Lane} (hl : p l = true) (hothers : ∀ m, m ≠ l → p m = false) : Lane.all.filter p = [l] := by
  have hpred : p = fun m => m == l := funext fun m => by
    by_cases e : m = l
    · rw [e, hl, beq_self_eq_true]
    · rw [hothers m e, beq_eq_false_iff_ne.mpr e]
  rw [hpred]
  cases l <;> rfl

theorem filter_lanes_two {p : Lane → Bool} {l m : Lane} (hne : l ≠ m) (hl : p l = true) (hm : p m = true) (hothers : ∀ x, x ≠ l → x ≠ m → p x = false) :
    Lane.all.filter p = [l, m] ∨ Lane.all.filter p = [m, l] := by
  have hpred : p = fun x => x == l || x == m := funext fun x => by
    by_cases e : x = l
    · rw [e, hl, beq_self_eq_true, Bool.true_or]
    · by_cases e' : x = m
      · rw [e', hm, beq_self_eq_true, Bool.or_true]
      · rw [hothers x e e', beq_eq_false_iff_ne.mpr e, beq_eq_false_iff_ne.mpr e']
        rfl
  rw [hpred]
  revert hne
  cases l <;> cases m <;> decide

theorem delivered_eq (s : State) (p : LaneVote → Bool) : s.delivered p = Lane.all.filter fun l => p (s.vot.lanes.get l) && s.inVote l := by
  rw [State.delivered, State.lanesIn, List.filter_filter]

theorem delivered_one {s : State} {p : LaneVote → Bool} {l : Lane} (hin : s.inVote l = true) (hl : p (s.vot.lanes.get l) = true)
    (hothers : ∀ m, m ≠ l → p (s.vot.lanes.get m) = false) : s.delivered p = [l] := by
  rw [delivered_eq]
  exact filter_lanes_one (by rw [hl, hin]; rfl) fun m hm => by rw [hothers m hm]; rfl

theorem delivered_two {s : State} {p : LaneVote → Bool} {l m : Lane} (hne : l ≠ m) (hl : s.inVote l = true) (hm : s.inVote m = true)
    (hpl : p (s.vot.lanes.get l) = true) (hpm : p (s.vot.lanes.get m) = true) (hothers : ∀ x, x ≠ l → x ≠ m → p (s.vot.lanes.get x) = false ∨ s.inVote x = false) :
    s.delivered p = [l, m] ∨ s.delivered p = [m, l] := by
  rw [delivered_eq]
  refine filter_lanes_two hne (by rw [hpl, hl]; rfl) (by rw [hpm, hm]; rfl) fun x hxl hxm => ?_
  obtain h | h := hothers x hxl hxm
  · rw [h, Bool.false_and]
  · rw [h, Bool.and_false]

/-- With two lanes in vote the third is not. -/
theorem not_inVote_of_two {s : State} {l m x : Lane} (htwo : s.lanesIn.length = 2) (hne : l ≠ m) (hl : s.inVote l = true) (hm : s.inVote m = true)
    (hxl : x ≠ l) (hxm : x ≠ m) : s.inVote x = false := by
  refine Bool.eq_false_iff.mpr fun hx => ?_
  have hnodup : [l, m, x].Nodup := by simp [hne, Ne.symm hxl, Ne.symm hxm]
  have hle : [l, m, x].length ≤ s.lanesIn.length := (List.subperm_of_subset hnodup fun y hy => by
    simp only [List.mem_cons, List.not_mem_nil, or_false] at hy
    rw [mem_lanesIn]
    obtain rfl | rfl | rfl := hy
    · exact hl
    · exact hm
    · exact hx).length_le
  rw [htwo] at hle
  exact absurd hle (Nat.not_succ_le_self 2)

theorem outWindow_within {t x : Nat} (h : t ≤ x + 2000) (h' : x ≤ t + 2000) : outWindow t x = false :=
  Bool.or_eq_false_iff.mpr ⟨decide_eq_false (Nat.not_lt.mpr h'), decide_eq_false (Nat.not_lt.mpr h)⟩

/-! ### Output images (R96, R97) -/

theorem outImage_congr {s t : State} (l : Lane) (hregs : t.regs = s.regs) (hmems : t.mems = s.mems) (hcyc : t.cyc = s.cyc) : t.outImage l = s.outImage l := by
  unfold State.outImage cycReg
  rw [reg_congr s t _ hregs, hmems, laneCyc_congr hcyc]

/-- An image like the voted one, handed over in the window of R77, only ends its lane's run. -/
theorem judgeImage_agreed {s : State} {l : Lane} {v : List DWord} {t a : Nat} (h : (s.vot.lanes.get l).handed = some (a, v)) (hwindow : outWindow t a = false) :
    judgeImage v t l s = inWindow l s := by
  have hodd : oddWords v v = [] := List.filter_eq_nil_iff.mpr fun i _ => by simp
  unfold judgeImage imageMinority
  rw [h]
  dsimp only
  rw [hodd, hwindow]
  rfl

/-- The voted image of the first cycle waits for the next boundary (R292). -/
def imageTaken (v : List DWord) (s : State) : State :=
  { s with
    vot := { s.vot with voted := some (s.now, v) }
    cyc := { s.cyc with firstImage := some ⟨s.cyc.startedNo.toNat, (s.time.ipt.headD 0) / nsUnit, v.flatMap fun w => leBytes 8 w.toNat⟩ } }

theorem takeImage_first {v : List DWord} {s : State} (h : s.cyc.first = true) : takeImage v s = imageTaken v s := by
  unfold takeImage
  exact if_pos h

/-- Two equal images are taken. -/
theorem voteImages_two {s : State} {l m : Lane} {tl tm : Nat} {v : List DWord} (hls : s.delivered (fun v => v.handed.isSome) = [l, m])
    (hl : (s.vot.lanes.get l).handed = some (tl, v)) (hm : (s.vot.lanes.get m).handed = some (tm, v)) (hwl : outWindow s.now tl = false)
    (hwm : outWindow s.now tm = false) (hfirst : s.cyc.first = true) :
    ∃ n, voteImages s = inWindow m (inWindow l (imageTaken v (outStatus false n s))) := by
  have himgs : ([l, m].filterMap fun l => (s.vot.lanes.get l).handed.map (·.2)) = [v, v] := by simp [hl, hm]
  refine ⟨((List.range (longest [v, v])).filter fun i => [v, v].any fun w => w[i]? != v[i]?).length, ?_⟩
  unfold voteImages
  dsimp only
  rw [hls, himgs]
  dsimp only
  rw [if_pos (beq_self_eq_true v)]
  dsimp only
  rw [List.foldl_cons, List.foldl_cons, List.foldl_nil, takeImage_first (by exact hfirst)]
  set w := imageTaken v (outStatus false ((List.range (longest [v, v])).filter fun i => [v, v].any fun w => w[i]? != v[i]?).length s)
  obtain ⟨r, hr⟩ := lanes_inWindow l m w
  have hfirst' : judgeImage v w.now l w = inWindow l w := judgeImage_agreed (a := tl) hl hwl
  rw [hfirst']
  exact judgeImage_agreed (by rw [hr]; exact hm) hwm

/-- One image of two lanes or more decides nothing. -/
theorem voteImages_one {s : State} {l : Lane} (hls : s.delivered (fun v => v.handed.isSome) = [l]) {h : Nat × List DWord}
    (hl : (s.vot.lanes.get l).handed = some h) : voteImages s = outStatus false 0 s := by
  have himgs : ([l].filterMap fun l => (s.vot.lanes.get l).handed.map (·.2)) = [h.2] := by simp [hl]
  unfold voteImages
  dsimp only
  rw [hls, himgs]
  rfl

/-- A lane's cycle after its logic has ended at an instant (Table 9.1). -/
def LaneCyc.logicDone (c : LaneCyc) (time : Nat) : LaneCyc :=
  { c with phase := 4, execLast := (time - c.startAt) / 1000, execMax := max c.execMax ((time - c.startAt) / 1000) }

/-- A lane's logic has ended and its image is handed over. -/
def handedOver (l : Lane) (time : Nat) (s : State) : State :=
  (setCyc l (fun c => { c with phase := 4, execLast := (time - (s.laneCyc l).startAt) / 1000, execMax := max c.execMax ((time - (s.laneCyc l).startAt) / 1000) }) (advanceTo time s)).setLane l fun v => { v with handed := some (time, s.outImage l) }

section
variable {s : State} {l m : Lane} {at_ time : Nat}

theorem inCyclePhase_of (p : Nat) (hup : s.up = true) (hin : s.inVote l = true) (hp : (s.laneCyc l).phase = p) : s.inCyclePhase l p = true := by
  unfold State.inCyclePhase
  rw [hup, hin, hp, beq_self_eq_true]
  rfl

theorem only_handedOver {P : List Part} {b : State} (h : OnlyIn P b s) (hP : ∀ p ∈ [Part.now, .time, .nv, .isl, .vot, .cyc], p ∈ P := by decide) :
    OnlyIn P b (handedOver l time s) :=
  only_via h hP fun _ h => only_setLane (only_setCyc (only_advanceTo h))

theorem vot_handedOver : (handedOver l time s).vot = { s.vot with lanes := s.vot.lanes.modify l fun v => { v with handed := some (time, s.outImage l) } } := by
  unfold handedOver State.setLane setCyc
  dsimp only
  rw [advanceTo_vot]

theorem lane_handedOver_self : (handedOver l time s).vot.lanes.get l = { s.vot.lanes.get l with handed := some (time, s.outImage l) } := by
  rw [vot_handedOver, get_modify_self]

theorem lane_handedOver_ne (h : m ≠ l) : (handedOver l time s).vot.lanes.get m = s.vot.lanes.get m := by
  rw [vot_handedOver, get_modify_ne _ _ _ _ h]

theorem phase_handedOver (k : Lane) : ((handedOver l time s).vot.lanes.get k).phase = (s.vot.lanes.get k).phase := by
  by_cases e : k = l
  · rw [e, lane_handedOver_self]
  · rw [lane_handedOver_ne e]

theorem inVote_handedOver (k : Lane) : (handedOver l time s).inVote k = s.inVote k := by
  rw [State.inVote, LaneVote.inVote, phase_handedOver]
  rfl

theorem exec_outputHandover (hup : s.up = true) (hin : s.inVote l = true) (hphase : (s.laneCyc l).phase = 2) (hvoted : s.vot.voted = none)
    (hnow : s.now ≤ time) : exec (.outputHandover l time) s = .next (settled s (voteImages (handedOver l time s))) := by
  have hnow' : (advanceTo time s).now = time := (now_advanceTo _ _).trans (Nat.max_eq_right hnow)
  have hadv : OnlyIn [.now, .time, .nv, .isl] s (advanceTo time s) := only_advanceTo only_refl
  have hcyc : (advanceTo time s).laneCyc l = s.laneCyc l := laneCyc_of_only hadv l
  have himg : (advanceTo time s).outImage l = s.outImage l := outImage_congr l (hadv.2 .regs (by decide)) (hadv.2 .mems (by decide)) (hadv.2 .cyc (by decide))
  have hnone : (handedOver l time s).vot.voted = none := by rw [vot_handedOver]; exact hvoted
  refine congrArg Host.Outcome.next ((if_pos (inCyclePhase_of 2 hup hin hphase)).trans ?_)
  dsimp only
  rw [hnow', hcyc, himg]
  change settled s (match (handedOver l time s).vot.voted with | some v => _ | none => voteImages (handedOver l time s)) = _
  rw [hnone]

theorem exists_next_outputHandover_first (hup : s.up = true) (hin : s.inVote l = true) (hphase : (s.laneCyc l).phase = 2)
    (hvoted : s.vot.voted = none) (hothers : ∀ m : Lane, m ≠ l → (s.vot.lanes.get m).handed = none) (hnow : s.now ≤ time) :
    ∃ t, exec (.outputHandover l time) s = .next t ∧ t.now = time ∧ (t.vot.lanes.get l).handed = some (time, s.outImage l) ∧
      t.vot.voted = none ∧ (t.laneCyc l).phase = 4 ∧ (t.laneCyc l).execLast = (time - (s.laneCyc l).startAt) / 1000 ∧
      RegsOnly [Off.VOT_OUT_STATUS] s t ∧ OnlyIn [.now, .time, .nv, .isl, .regs, .vot, .cyc] s t := by
  have hexec := exec_outputHandover hup hin hphase hvoted hnow
  set u := handedOver l time s with hu
  have honly : OnlyIn [.now, .time, .nv, .isl, .vot, .cyc] s u := only_handedOver only_refl
  have hself : u.vot.lanes.get l = { s.vot.lanes.get l with handed := some (time, s.outImage l) } := lane_handedOver_self
  have hls : u.delivered (fun v => v.handed.isSome) = [l] := delivered_one ((inVote_handedOver l).trans hin) (by rw [hself]; rfl) fun m hm => by
    rw [hu, lane_handedOver_ne hm, hothers m hm]
    rfl
  have hrest : OnlyIn [.regs] u (outStatus false 0 u) := only_setReg only_refl
  have hvot : (outStatus false 0 u).vot = u.vot := hrest.2 .vot (by decide)
  have hnow' : u.now = time := (now_advanceTo _ _).trans (Nat.max_eq_right hnow)
  have hcyc : u.laneCyc l = (s.laneCyc l).logicDone time := by
    refine (laneCyc_setCyc_self l _ (advanceTo time s)).trans ?_
    rw [laneCyc_of_only (P := [.now, .time, .nv, .isl]) (only_advanceTo only_refl)]
    rfl
  have hinv : ∀ k, (outStatus false 0 u).inVote k = s.inVote k := fun k => by
    rw [State.inVote, hvot]
    exact inVote_handedOver k
  rw [voteImages_one hls (by rw [hself]), settled_of_lanes hinv] at hexec
  refine ⟨_, hexec, (hrest.2 .now (by decide)).trans hnow', ?_, ?_, ?_, ?_, regs_setReg (regs_of_only regs_refl honly), only_setReg (onlyIn_mono honly (by decide))⟩
  · rw [hvot, hself]
  · rw [hvot, hu, vot_handedOver]
    exact hvoted
  · rw [laneCyc_of_only hrest, hcyc, LaneCyc.logicDone]
  · rw [laneCyc_of_only hrest, hcyc, LaneCyc.logicDone]

theorem exists_next_outputHandover_second (hup : s.up = true) (hin : s.inVote l = true) (hm : s.inVote m = true) (hne : l ≠ m)
    (hphase : (s.laneCyc l).phase = 2) (hfirst : s.cyc.first = true) (hvoted : s.vot.voted = none)
    (hhanded : (s.vot.lanes.get m).handed = some (at_, s.outImage l)) (hothers : ∀ x : Lane, x ≠ m → (s.vot.lanes.get x).handed = none)
    (hat : at_ ≤ s.now) (hnow : s.now ≤ time) (htime : time ≤ at_ + 2000) :
    ∃ t, exec (.outputHandover l time) s = .next t ∧ t.vot.voted = some (time, s.outImage l) ∧
      (t.cyc.firstImage.map (·.data)) = some ((s.outImage l).flatMap fun w => leBytes 8 w.toNat) ∧ t.dio = s.dio ∧
      (∀ x : Lane, (t.vot.lanes.get x).phase = (s.vot.lanes.get x).phase) ∧
      RegsOnly [Off.VOT_OUT_STATUS] s t ∧ OnlyIn [.now, .time, .nv, .isl, .regs, .vot, .cyc] s t := by
  have hexec := exec_outputHandover hup hin hphase hvoted hnow
  set u := handedOver l time s with hu
  have honly : OnlyIn [.now, .time, .nv, .isl, .vot, .cyc] s u := only_handedOver only_refl
  have hself : u.vot.lanes.get l = { s.vot.lanes.get l with handed := some (time, s.outImage l) } := lane_handedOver_self
  have hother : u.vot.lanes.get m = s.vot.lanes.get m := lane_handedOver_ne (Ne.symm hne)
  have hnow' : u.now = time := (now_advanceTo _ _).trans (Nat.max_eq_right hnow)
  have hcycle : u.cyc.first = true := by
    change (advanceTo time s).cyc.first = true
    rw [advanceTo_cyc]
    exact hfirst
  have hwl : outWindow u.now time = false := outWindow_within (by omega) (by omega)
  have hwm : outWindow u.now at_ = false := outWindow_within (by omega) (by omega)
  have hvote : ∃ i j n, voteImages u = inWindow i (inWindow j (imageTaken (s.outImage l) (outStatus false n u))) := by
    obtain hls | hls := delivered_two (p := fun v => v.handed.isSome) hne ((inVote_handedOver l).trans hin) ((inVote_handedOver m).trans hm)
      (by rw [hself]; rfl) (by rw [hother, hhanded]; rfl) fun x hxl hxm => .inl (by rw [lane_handedOver_ne hxl, hothers x hxm]; rfl)
    · exact ⟨_, _, voteImages_two hls (by rw [hself]) (by rw [hother, hhanded]) hwl hwm hcycle⟩
    · exact ⟨_, _, voteImages_two hls (by rw [hother, hhanded]) (by rw [hself]) hwm hwl hcycle⟩
  obtain ⟨i, j, n, hvote⟩ := hvote
  set w := imageTaken (s.outImage l) (outStatus false n u) with hw
  set t := inWindow i (inWindow j w) with ht
  have hrest : OnlyIn [.vot] w t := only_setLane (only_setLane only_refl)
  have hstatus : OnlyIn [.regs] u (outStatus false n u) := only_setReg only_refl
  have htaken : OnlyIn [.vot, .cyc] (outStatus false n u) w := only_mk only_refl
  have hphases : ∀ k, (t.vot.lanes.get k).phase = (s.vot.lanes.get k).phase := fun k => by
    obtain ⟨_, h1⟩ := lanes_inWindow i k (inWindow j w)
    obtain ⟨_, h2⟩ := lanes_inWindow j k w
    rw [ht, h1, h2]
    change ((outStatus false n u).vot.lanes.get k).phase = _
    rw [hstatus.2 .vot (by decide)]
    exact phase_handedOver k
  have hinv : ∀ k, t.inVote k = s.inVote k := fun k => by
    rw [State.inVote, LaneVote.inVote, hphases]
    rfl
  rw [hvote, settled_of_lanes hinv] at hexec
  have hall : OnlyIn [.now, .time, .nv, .isl, .regs, .vot, .cyc] s t :=
    onlyIn_trans (onlyIn_mono honly (by decide)) (onlyIn_trans (onlyIn_mono hstatus (by decide)) (onlyIn_trans (onlyIn_mono htaken (by decide)) (onlyIn_mono hrest (by decide))))
  refine ⟨t, hexec, ?_, ?_, hall.2 .dio (by decide), hphases, ?_, hall⟩
  · change some ((outStatus false n u).now, _) = _
    rw [hstatus.2 .now (by decide), hnow']
  · rfl
  · exact regs_of_only (regs_of_only (regs_setReg (regs_of_only regs_refl honly)) htaken) hrest

end

end Sys2Proof.Machine

namespace Sys2Proof.Machine
set_option Elab.async false

/-! ### Digests (R100, R311) -/

theorem slots_advanceTo (n : Nat) (s : State) : (advanceTo n s).nv.slots = s.nv.slots := by
  unfold advanceTo advance
  split
  · rfl
  · dsimp only
    split <;> rfl

/-- The digest of a lane rests on its cycle, its image and the program that runs. -/
theorem digestOf_congr {s t : State} (l : Lane) (ps : List Nat) (hregs : t.regs = s.regs) (hslots : t.nv.slots = s.nv.slots) (hcyc : t.cyc = s.cyc)
    (hvot : t.vot = s.vot) : t.digestOf l ps = s.digestOf l ps := by
  have hrun : t.runImage 3 = s.runImage 3 := by
    unfold State.runImage State.typeSlots
    rw [hslots]
  unfold State.digestOf State.rotation State.dataPage State.dataByte cycReg State.laneCyc
  rw [reg_congr s t _ hregs, hcyc, hvot, hrun]

/-- The lane's engine after its digest: what its logic has written, and its rotation gone on (R311). -/
def digestGiven (l : Lane) (ws : List (Nat × List Byte)) (d : DWord) (time : Nat) (s : State) : State :=
  let bs := ws.flatMap fun w => w.2.zipIdx.map fun b => (w.1 + b.2, b.1)
  let u := setCyc l (putData bs) (advanceTo time s)
  setCyc l (fun c => { c with phase := 5, rot := ((u.rotation l).getLastD 0) + 1 }) (u.setLane l fun v => { v with digest := some (time, d) })

section
variable {s : State} {l m : Lane} {ws : List (Nat × List Byte)} {flip d : DWord} {at_ time : Nat}

theorem only_digestGiven {P : List Part} {b : State} (h : OnlyIn P b s) (hP : ∀ p ∈ [Part.now, .time, .nv, .isl, .vot, .cyc], p ∈ P := by decide) :
    OnlyIn P b (digestGiven l ws d time s) :=
  only_via h hP fun _ h => only_setCyc (only_setLane (only_setCyc (only_advanceTo h)))

theorem vot_digestGiven : (digestGiven l ws d time s).vot = { s.vot with lanes := s.vot.lanes.modify l fun v => { v with digest := some (time, d) } } := by
  unfold digestGiven State.setLane setCyc
  dsimp only
  rw [advanceTo_vot]

theorem lane_digestGiven_self : (digestGiven l ws d time s).vot.lanes.get l = { s.vot.lanes.get l with digest := some (time, d) } := by
  rw [vot_digestGiven, get_modify_self]

theorem lane_digestGiven_ne (h : m ≠ l) : (digestGiven l ws d time s).vot.lanes.get m = s.vot.lanes.get m := by
  rw [vot_digestGiven, get_modify_ne _ _ _ _ h]

theorem phase_digestGiven (k : Lane) : ((digestGiven l ws d time s).vot.lanes.get k).phase = (s.vot.lanes.get k).phase := by
  by_cases e : k = l
  · rw [e, lane_digestGiven_self]
  · rw [lane_digestGiven_ne e]

theorem inVote_digestGiven (k : Lane) : (digestGiven l ws d time s).inVote k = s.inVote k := by
  rw [State.inVote, LaneVote.inVote, phase_digestGiven]
  rfl

theorem now_digestGiven (hnow : s.now ≤ time) : (digestGiven l ws d time s).now = time := (now_advanceTo _ _).trans (Nat.max_eq_right hnow)

theorem laneCyc_digestGiven : ((digestGiven l ws d time s).laneCyc l).phase = 5 := congrArg LaneCyc.phase (laneCyc_setCyc_self l _ _)

theorem exec_digestWrite (hup : s.up = true) (hin : s.inVote l = true) (hphase : (s.laneCyc l).phase = 4) (hvoted : s.vot.votedDigest = none)
    (hnow : s.now ≤ time) : exec (.digestWrite l ws flip time) s = .next (settled s (voteDigests (digestGiven l ws (s.ownDigest l ws ^^^ flip) time s))) := by
  have hnow' : (advanceTo time s).now = time := (now_advanceTo _ _).trans (Nat.max_eq_right hnow)
  have hadv : OnlyIn [.now, .time, .nv, .isl] s (advanceTo time s) := only_advanceTo only_refl
  have hdigest : ∀ ps bs, (setCyc l (putData bs) (advanceTo time s)).digestOf l ps = (setCyc l (putData bs) s).digestOf l ps := fun ps bs =>
    digestOf_congr l ps (hadv.2 .regs (by decide)) (slots_advanceTo time s) (by rw [setCyc, setCyc, advanceTo_cyc]) (advanceTo_vot time s)
  have hnone : (digestGiven l ws (s.ownDigest l ws ^^^ flip) time s).vot.votedDigest = none := by rw [vot_digestGiven]; exact hvoted
  have hexec : exec (.digestWrite l ws flip time) s = .next (settled s (digestArrive l (s.ownDigest l ws ^^^ flip)
      (setCyc l (putData (ws.flatMap fun w => w.2.zipIdx.map fun b => (w.1 + b.2, b.1))) (advanceTo time s)))) := by
    change Host.Outcome.next (when (s.inCyclePhase l 4) _ s) = _
    rw [inCyclePhase_of 4 hup hin hphase, when_true]
    dsimp only
    rw [hdigest]
    rfl
  rw [hexec]
  unfold digestArrive
  dsimp only
  have hnow'' : (setCyc l (putData (ws.flatMap fun w => w.2.zipIdx.map fun b => (w.1 + b.2, b.1))) (advanceTo time s)).now = time := hnow'
  rw [hnow'']
  change Host.Outcome.next (settled s (match (digestGiven l ws (s.ownDigest l ws ^^^ flip) time s).vot.votedDigest with
    | some (t, m) => _
    | none => voteDigests (digestGiven l ws (s.ownDigest l ws ^^^ flip) time s))) = _
  rw [hnone]

/-- A digest like the voted one, in the window of R77, of a lane in vote, only ends its run of late accesses. -/
theorem judgeDigest_agreed {t a : Nat} {v : DWord} (h : (s.vot.lanes.get l).digest = some (a, v)) (hwindow : outWindow t a = false)
    (hphase : (s.vot.lanes.get l).phase = .inVote) : judgeDigest v t l s = inWindow l s := by
  have hstays : ((inWindow l s).vot.lanes.get l).phase = .inVote := by
    obtain ⟨_, hl⟩ := lanes_inWindow l l s
    rw [hl]
    exact hphase
  unfold judgeDigest
  rw [h]
  dsimp only
  rw [hwindow, if_pos rfl]
  change digestAgrees l (inWindow l s) = _
  unfold digestAgrees
  rw [hstays]
  rfl

/-- One digest of two lanes or more decides nothing. -/
theorem voteDigests_one (hls : s.delivered (fun v => v.digest.isSome) = [l]) {x : Nat × DWord} (hl : (s.vot.lanes.get l).digest = some x) : voteDigests s = s := by
  have hds : ([l].filterMap fun l => (s.vot.lanes.get l).digest.map (·.2)) = [x.2] := by simp [hl]
  unfold voteDigests
  dsimp only
  rw [hls, hds]
  rfl

/-- Two equal digests are taken. -/
def digestTaken (d : DWord) (s : State) : State := { s with vot := { s.vot with digest := d, votedDigest := some (s.now, d) } }

theorem voteDigests_two {tl tm : Nat} (hls : s.delivered (fun v => v.digest.isSome) = [l, m])
    (hl : (s.vot.lanes.get l).digest = some (tl, d)) (hm : (s.vot.lanes.get m).digest = some (tm, d)) (hwl : outWindow s.now tl = false)
    (hwm : outWindow s.now tm = false) (hpl : (s.vot.lanes.get l).phase = .inVote) (hpm : (s.vot.lanes.get m).phase = .inVote) :
    voteDigests s = inWindow m (inWindow l (digestTaken d s)) := by
  have hds : ([l, m].filterMap fun l => (s.vot.lanes.get l).digest.map (·.2)) = [d, d] := by simp [hl, hm]
  have hagree : agreedOf [d, d] = some d := by simp [agreedOf]
  obtain ⟨r, hr⟩ := lanes_inWindow l m (digestTaken d s)
  have hfirst : judgeDigest d (digestTaken d s).now l (digestTaken d s) = inWindow l (digestTaken d s) := judgeDigest_agreed (a := tl) hl hwl hpl
  unfold voteDigests
  dsimp only
  rw [hls, hds, hagree]
  dsimp only
  rw [List.foldl_cons, List.foldl_cons, List.foldl_nil]
  change judgeDigest d (judgeDigest d (digestTaken d s).now l (digestTaken d s)).now m (judgeDigest d (digestTaken d s).now l (digestTaken d s)) = _
  rw [hfirst]
  exact judgeDigest_agreed (by rw [hr]; exact hm) hwm (by rw [hr]; exact hpm)

/-- Two different digests of two lanes in vote have no majority. -/
theorem voteDigests_differ {x y : Nat × DWord} (hls : s.delivered (fun v => v.digest.isSome) = [l, m])
    (hl : (s.vot.lanes.get l).digest = some x) (hm : (s.vot.lanes.get m).digest = some y) (hne : x.2 ≠ y.2) (htwo : s.lanesIn.length = 2) :
    voteDigests s = noMajority 0x20 0 s := by
  have hds : ([l, m].filterMap fun l => (s.vot.lanes.get l).digest.map (·.2)) = [x.2, y.2] := by simp [hl, hm]
  have hagree : agreedOf [x.2, y.2] = none := by simp [agreedOf, hne]
  unfold voteDigests
  dsimp only
  rw [hls, hds, hagree, htwo]
  rfl

theorem exists_next_digestWrite_first (hup : s.up = true) (hin : s.inVote l = true) (hphase : (s.laneCyc l).phase = 4)
    (hvoted : s.vot.votedDigest = none) (hothers : ∀ m : Lane, m ≠ l → (s.vot.lanes.get m).digest = none) (hnow : s.now ≤ time) :
    ∃ t, exec (.digestWrite l ws flip time) s = .next t ∧ (t.vot.lanes.get l).digest = some (time, s.ownDigest l ws ^^^ flip) ∧
      (t.laneCyc l).phase = 5 ∧ t.vot.digest = s.vot.digest ∧ t.vot.votedDigest = none ∧ OnlyIn [.now, .time, .nv, .isl, .vot, .cyc] s t := by
  have hexec := exec_digestWrite (ws := ws) (flip := flip) hup hin hphase hvoted hnow
  have hls : (digestGiven l ws (s.ownDigest l ws ^^^ flip) time s).delivered (fun v => v.digest.isSome) = [l] :=
    delivered_one ((inVote_digestGiven l).trans hin) (by rw [lane_digestGiven_self]; rfl) fun m hm => by
      rw [lane_digestGiven_ne hm, hothers m hm]
      rfl
  rw [voteDigests_one hls (by rw [lane_digestGiven_self]), settled_of_lanes inVote_digestGiven] at hexec
  refine ⟨_, hexec, ?_, laneCyc_digestGiven, ?_, ?_, only_digestGiven only_refl⟩
  · rw [lane_digestGiven_self]
  · rw [vot_digestGiven]
  · rw [vot_digestGiven]
    exact hvoted

theorem exists_next_digestWrite_second (hup : s.up = true) (hl : (s.vot.lanes.get l).phase = .inVote) (hm : (s.vot.lanes.get m).phase = .inVote)
    (hne : l ≠ m) (hphase : (s.laneCyc l).phase = 4) (hvoted : s.vot.votedDigest = none) (hd : d = s.ownDigest l ws ^^^ flip)
    (hgiven : (s.vot.lanes.get m).digest = some (at_, d)) (hothers : ∀ x : Lane, x ≠ m → (s.vot.lanes.get x).digest = none)
    (hat : at_ ≤ s.now) (hnow : s.now ≤ time) (htime : time ≤ at_ + 2000) :
    ∃ t, exec (.digestWrite l ws flip time) s = .next t ∧ t.vot.digest = d ∧ t.vot.votedDigest = some (time, d) ∧
      (t.vot.lanes.get l).digest = some (time, d) ∧ (t.laneCyc l).phase = 5 ∧ OnlyIn [.now, .time, .nv, .isl, .vot, .cyc] s t := by
  have hin : s.inVote l = true := by rw [State.inVote, LaneVote.inVote, hl]; rfl
  have hin' : s.inVote m = true := by rw [State.inVote, LaneVote.inVote, hm]; rfl
  have hexec := exec_digestWrite (ws := ws) (flip := flip) hup hin hphase hvoted hnow
  rw [← hd] at hexec
  set u := digestGiven l ws d time s with hu
  have hnow' : u.now = time := now_digestGiven hnow
  have hself : u.vot.lanes.get l = { s.vot.lanes.get l with digest := some (time, d) } := lane_digestGiven_self
  have hother : u.vot.lanes.get m = s.vot.lanes.get m := lane_digestGiven_ne (Ne.symm hne)
  have hwl : outWindow u.now time = false := outWindow_within (by omega) (by omega)
  have hwm : outWindow u.now at_ = false := outWindow_within (by omega) (by omega)
  have hvote : ∃ i j, voteDigests u = inWindow i (inWindow j (digestTaken d u)) := by
    obtain hls | hls := delivered_two (p := fun v => v.digest.isSome) hne ((inVote_digestGiven l).trans hin) ((inVote_digestGiven m).trans hin')
      (by rw [hself]; rfl) (by rw [hother, hgiven]; rfl) fun x hxl hxm => .inl (by rw [lane_digestGiven_ne hxl, hothers x hxm]; rfl)
    · exact ⟨_, _, voteDigests_two hls (by rw [hself]) (by rw [hother, hgiven]) hwl hwm (by rw [hself]; exact hl) (by rw [hother]; exact hm)⟩
    · exact ⟨_, _, voteDigests_two hls (by rw [hother, hgiven]) (by rw [hself]) hwm hwl (by rw [hother]; exact hm) (by rw [hself]; exact hl)⟩
  obtain ⟨i, j, hvote⟩ := hvote
  set t := inWindow i (inWindow j (digestTaken d u)) with ht
  have hrest : OnlyIn [.vot] u t := only_setLane (only_setLane (only_mk only_refl))
  have hlanes : ∀ k, ∃ n, t.vot.lanes.get k = { u.vot.lanes.get k with skewRun := n } := fun k => by
    obtain ⟨n, h1⟩ := lanes_inWindow i k (inWindow j (digestTaken d u))
    obtain ⟨_, h2⟩ := lanes_inWindow j k (digestTaken d u)
    exact ⟨n, by rw [ht, h1, h2]; rfl⟩
  have hinv : ∀ k, t.inVote k = s.inVote k := fun k => by
    obtain ⟨_, h⟩ := hlanes k
    rw [State.inVote, h]
    exact inVote_digestGiven k
  rw [hvote, settled_of_lanes hinv] at hexec
  refine ⟨t, hexec, rfl, ?_, ?_, ?_, onlyIn_trans (only_digestGiven only_refl) (onlyIn_mono hrest (by decide))⟩
  · change some (u.now, d) = _
    rw [hnow']
  · obtain ⟨_, h⟩ := hlanes l
    rw [h, hself]
  · rw [laneCyc_of_only hrest]
    exact laneCyc_digestGiven

theorem exists_next_digestWrite_differ {e : DWord} (hup : s.up = true) (hl : s.inVote l = true) (hm : s.inVote m = true) (hne : l ≠ m)
    (htwo : s.lanesIn.length = 2) (hphase : (s.laneCyc l).phase = 4) (hvoted : s.vot.votedDigest = none)
    (hgiven : (s.vot.lanes.get m).digest = some (at_, e)) (hdiffer : s.ownDigest l ws ^^^ flip ≠ e) (hnow : s.now ≤ time) :
    ∃ t, exec (.digestWrite l ws flip time) s = .next t ∧ FellSilent s t ∧ OnlyIn (.now :: .time :: silentParts) s t := by
  have hexec := exec_digestWrite (ws := ws) (flip := flip) hup hl hphase hvoted hnow
  set u := digestGiven l ws (s.ownDigest l ws ^^^ flip) time s with hu
  have honly : OnlyIn [.now, .time, .nv, .isl, .vot, .cyc] s u := only_digestGiven only_refl
  have hself : u.vot.lanes.get l = { s.vot.lanes.get l with digest := some (time, s.ownDigest l ws ^^^ flip) } := lane_digestGiven_self
  have hother : u.vot.lanes.get m = s.vot.lanes.get m := lane_digestGiven_ne (Ne.symm hne)
  have hinv : ∀ k, u.inVote k = s.inVote k := inVote_digestGiven
  have htwo' : u.lanesIn.length = 2 := by rw [lanesIn_congr hinv, htwo]
  have hvote : voteDigests u = noMajority 0x20 0 u := by
    obtain hls | hls := delivered_two (p := fun v => v.digest.isSome) hne ((hinv l).trans hl) ((hinv m).trans hm)
      (by rw [hself]; rfl) (by rw [hother, hgiven]; rfl) fun x hxl hxm => .inr ((hinv x).trans (not_inVote_of_two htwo hne hl hm hxl hxm))
    · exact voteDigests_differ hls (by rw [hself]) (by rw [hother, hgiven]) hdiffer htwo'
    · exact voteDigests_differ hls (by rw [hother, hgiven]) (by rw [hself]) (Ne.symm hdiffer) htwo'
  have hsys : u.sys = s.sys := honly.2 .sys (by decide)
  have hsilent : FellSilent u (noMajority 0x20 0 u) := fellSilent_record _ _ u (by rw [hsys]; exact failSilent_of_up hup)
  rw [hvote, settled_of_silent hsilent] at hexec
  exact ⟨_, hexec, fellSilent_of_same hsilent (congrArg Sys.mode hsys), only_failSilent (only_record (onlyIn_mono honly (by decide)))⟩

end

/-- Settles O20, command by command. -/
theorem imagesAndDigests : Obligations.ImagesAndDigests := by
  unfold Obligations.ImagesAndDigests
  exact ⟨fun _ _ _ hup hin _ => exists_next_outputHandover_first hup hin, fun _ _ _ _ _ => exists_next_outputHandover_second,
    fun _ _ _ _ _ hup hin _ => exists_next_digestWrite_first hup hin, fun _ _ _ _ _ _ _ _ => exists_next_digestWrite_second,
    fun _ _ _ _ _ _ _ _ => exists_next_digestWrite_differ⟩

end Sys2Proof.Machine

namespace Sys2Proof.Machine

set_option Elab.async false

/-! ### A report of the output stages while the module is silent (R33, R395) -/

/-- A fail-silent module: its blocks take no writes. -/
def silentReset : State := { State.reset with sys := { Reset.sys with failSilent := true } }

/-- A report of a wrong key that comes then is not taken. -/
theorem exec_cmpReport_silentReset : exec (.cmpReport 0) silentReset = .next silentReset := congrArg Host.Outcome.next (if_neg (by decide))

/-- Refutes O43: nothing asks that the module is up, and a fail-silent one takes no report, so that one of a wrong key is not counted. -/
theorem not_pairSignalsAndCommands : ¬ Obligations.PairSignalsAndCommands := by
  unfold Obligations.PairSignalsAndCommands
  rintro ⟨_, _, _, _, _, _, _, _, hreport⟩
  obtain ⟨hwrongKey, _⟩ := hreport silentReset 0 rfl
  obtain ⟨t, hexec, hcount, _⟩ := hwrongKey (by decide)
  rw [exec_cmpReport_silentReset, Host.Outcome.next.injEq] at hexec
  subst hexec
  exact absurd hcount (by decide +kernel)

end Sys2Proof.Machine

namespace Sys2Proof.Machine

set_option Elab.async false

/-! ### A tamper event while an output of a time base waits for the vote (R105, R434) -/

/-- A module in operation with no bank left to wipe: lane A in vote without power, the domains of B and C open. Lane A alone has issued a rate of TB0. -/
def rateWaits : State :=
  { Tests.op with
    mems := ⟨{ Reset.laneMem with powerOff := true }, { Reset.laneMem with domainOpen := true }, { Reset.laneMem with domainOpen := true }⟩
    time := { Tests.op.time with votes := [⟨0, 0, [(.a, 0, .rate 1)], none, []⟩] } }

/-- The module once the event has taken lane A from the vote. -/
def rateDropped : State := settled rateWaits (tamperOp rateWaits)

theorem exec_tamper_rateWaits : exec (.tamper 0) rateWaits = .next rateDropped :=
  congrArg (fun s => Host.Outcome.next (settled rateWaits s)) (if_pos (by decide))

/-- The rate of a lane that has left the vote is no longer voted on. -/
theorem rateDropped_votes : rateDropped.time.votes.length = 0 := by decide +kernel

/-- Refutes O45: nothing asks that no vote is open, and a rate that a lane without power has issued alone goes with the lane, so that the time bases do
not stay as they were. -/
theorem not_laneMemories : ¬ Obligations.LaneMemories := by
  unfold Obligations.LaneMemories
  rintro ⟨_, _, _, _, _, htamper, _⟩
  obtain ⟨t, hexec, _, _, _, _, honly⟩ := htamper rateWaits 0 (by decide)
  rw [exec_tamper_rateWaits, Host.Outcome.next.injEq] at hexec
  subst hexec
  have htime : rateDropped.time = rateWaits.time := honly.2 .time (by decide)
  exact absurd rateDropped_votes (by rw [htime]; decide)

end Sys2Proof.Machine

namespace Sys2Proof.Machine

set_option Elab.async false

/-! ### A boundary on a time base that stands still (R284) -/

/-- A base that does not run. -/
def standing : Base := { Reset.time.tb2 with rate := 0 }

/-- A module in operation whose bases stand still, at rate 0, a boundary behind it. -/
def stoodStill : State :=
  { Tests.op with
    time := { Tests.op.time with tb0 := standing, tb1 := standing, tb2 := standing, tb3 := standing }
    cyc := { Tests.op.cyc with begun := true, boundaryAt := 1 } }

/-- The module at its next boundary. -/
def stoodAtBoundary : State := settled stoodStill (boundary stoodStill.coupled [] (toTb2 (stoodStill.nextBoundary * nsUnit) stoodStill))

theorem exec_cycleBoundary_stoodStill : exec (.cycleBoundary []) stoodStill = .next stoodAtBoundary :=
  congrArg (fun s => Host.Outcome.next (settled stoodStill s)) (if_pos (by decide +kernel))

/-- No time of TB2 has passed. -/
theorem stoodAtBoundary_tb2 : stoodAtBoundary.time.tb2.ns = 0 := by decide +kernel

theorem stoodStill_plain : stoodStill.plainBoundary := by
  refine ⟨by decide, by decide +kernel, rfl, rfl, rfl, rfl, rfl, fun l => .inl (by cases l <;> rfl), fun n hn _ l _ => ?_⟩
  match n, hn with
  | 0, _ | 1, _ | 2, _ | 3, _ => exact ⟨fun _ => by cases l <;> rfl, fun _ => rfl⟩

/-- Refutes O35: nothing asks that TB2 runs, and at rate 0 the module is at its next boundary without a cycle time having passed. -/
theorem not_cycleBoundaries : ¬ Obligations.CycleBoundaries := by
  unfold Obligations.CycleBoundaries
  rintro ⟨hstart, _⟩
  obtain ⟨t, hexec, hdue, _⟩ := hstart stoodStill [] stoodStill_plain (by decide) (fun l => by cases l <;> exact ⟨rfl, rfl⟩) rfl rfl rfl rfl
    (fun l => by cases l <;> exact ⟨rfl, rfl, rfl⟩)
  rw [exec_cycleBoundary_stoodStill, Host.Outcome.next.injEq] at hexec
  subst hexec
  rw [stoodAtBoundary_tb2] at hdue
  exact absurd (Nat.le_trans (Nat.le_add_right _ _) hdue) (by decide)

end Sys2Proof.Machine

namespace Sys2Proof.Machine

set_option Elab.async false

/-! ### Entry words and the status of a Piste entry (Tables 6.2 to 6.6) -/

theorem regMask_status : ∀ n < 1024, regMask (Off.PST_ENTRY_W0 + 32 * n + 4 * 7) = BitVec.allOnes 32 := by decide +kernel

/-- The four fields of a status word. -/
theorem fld_status {state result cause fires : Nat} (hstate : state < 16) (hresult : result < 16) (hcause : cause < 256) (hfires : fires < 65536) :
    fld (mkWord [(0, state), (4, result), (8, cause), (16, fires)]) 0 3 = state % 8 ∧
      fld (mkWord [(0, state), (4, result), (8, cause), (16, fires)]) 4 3 = result % 8 ∧
      fld (mkWord [(0, state), (4, result), (8, cause), (16, fires)]) 8 4 = cause % 16 ∧
      fld (mkWord [(0, state), (4, result), (8, cause), (16, fires)]) 16 16 = fires := by
  simp only [mkWord, fld, List.foldl_cons, List.foldl_nil, Nat.shiftLeft_eq, BitVec.toNat_ofNat, Nat.shiftRight_eq_div_pow]
  omega

/-- Another word, or a word of another entry, has another key. -/
theorem entryKey_ne {n w m v : Nat} (hw : w < 8) (hv : v < 8) (h : n ≠ m ∨ w ≠ v) : Off.PST_ENTRY_W0 + 32 * n + 4 * w ≠ Off.PST_ENTRY_W0 + 32 * m + 4 * v := by
  omega

section
variable {P : List Part} {R : List Nat} {b s : State} {n : Nat}

theorem entryWord_of_only {t : State} (h : OnlyIn P s t) (m w : Nat) (hP : Part.regs ∉ P := by decide) : t.entryWord m w = s.entryWord m w := reg_of_only _ h hP

theorem entryWord_setEntry_ne {w m x : Nat} (v : Word) (s : State) (hw : w < 8) (hx : x < 8) (h : m ≠ n ∨ x ≠ w) :
    (setEntry n w v s).entryWord m x = s.entryWord m x :=
  reg_setReg_ne _ _ v s (entryKey_ne hx hw h)

theorem only_setEntry {w : Nat} {v : Word} (h : OnlyIn P b s) (hP : ∀ p ∈ [Part.regs], p ∈ P := by decide) : OnlyIn P b (setEntry n w v s) := only_setReg h hP

theorem only_setStatus {state result cause fires : Nat} (h : OnlyIn P b s) (hP : ∀ p ∈ [Part.regs], p ∈ P := by decide) :
    OnlyIn P b (setStatus n state result cause fires s) := only_setReg h hP

theorem only_setArmed {f : Armed → Armed} (h : OnlyIn P b s) (hP : ∀ p ∈ [Part.pst], p ∈ P := by decide) : OnlyIn P b (setArmed n f s) := only_via h hP fun _ h => only_mk h

theorem only_dropArmed (h : OnlyIn P b s) (hP : ∀ p ∈ [Part.pst], p ∈ P := by decide) : OnlyIn P b (dropArmed n s) := only_via h hP fun _ h => only_mk h

theorem wf_setStatus {state result cause fires : Nat} (h : RegsWf s) : RegsWf (setStatus n state result cause fires s) := wf_setReg h

/-- The status register of an entry, under the name that the frames use. -/
theorem status_mem (hn : n < 1024) (hR : Off.PST_ENTRY_W7 + 32 * n ∈ R) : (Off.PST_ENTRY_W0 + 32 * n + 4 * 7) % 16777216 ∈ R := by
  have hkey : (Off.PST_ENTRY_W0 + 32 * n + 4 * 7) % 16777216 = Off.PST_ENTRY_W7 + 32 * n := by
    have h0 : Off.PST_ENTRY_W0 = 0x48000 := rfl
    have h7 : Off.PST_ENTRY_W7 = 0x4801C := rfl
    omega
  rw [hkey]
  exact hR

theorem regs_setStatus {state result cause fires : Nat} (h : RegsOnly R b s) (hn : n < 1024) (hR : Off.PST_ENTRY_W7 + 32 * n ∈ R) :
    RegsOnly R b (setStatus n state result cause fires s) :=
  regs_setReg h (status_mem hn hR)

theorem entryWord_setStatus (hwf : RegsWf s) (hn : n < 1024) (state result cause fires : Nat) :
    (setStatus n state result cause fires s).entryWord n 7 = mkWord [(0, state), (4, result), (8, cause), (16, fires)] :=
  reg_setReg_unmasked _ _ s hwf (regMask_status n hn)

/-- What an entry's status reads as once it is written. -/
theorem status_setStatus {state result cause fires : Nat} (hwf : RegsWf s) (hn : n < 1024) (hstate : state < 8) (hresult : result < 8) (hcause : cause < 16)
    (hfires : fires < 65536) :
    (setStatus n state result cause fires s).entryState n = state ∧ fld ((setStatus n state result cause fires s).entryWord n 7) 4 3 = result ∧
      fld ((setStatus n state result cause fires s).entryWord n 7) 8 4 = cause ∧ (setStatus n state result cause fires s).eFires n = fires := by
  obtain ⟨h0, h4, h8, h16⟩ := fld_status (state := state) (result := result) (cause := cause) (fires := fires) (by omega) (by omega) (by omega) hfires
  unfold State.entryState State.eFires
  rw [entryWord_setStatus hwf hn, h0, h4, h8, h16, Nat.mod_eq_of_lt hstate, Nat.mod_eq_of_lt hresult, Nat.mod_eq_of_lt hcause]
  exact ⟨rfl, rfl, rfl, rfl⟩

theorem eFires_lt (s : State) (n : Nat) : s.eFires n < 65536 := Nat.mod_lt _ (by decide)

/-! ### The entries that are armed -/

theorem armedOf_congr {t : State} (h : t.pst.armed = s.pst.armed) (m : Nat) : t.armedOf m = s.armedOf m := by
  unfold State.armedOf
  rw [h]

theorem armedOf_of_only {t : State} (h : OnlyIn P s t) (m : Nat) (hP : Part.pst ∉ P := by decide) : t.armedOf m = s.armedOf m :=
  armedOf_congr (congrArg Piste.armed (h.2 .pst hP)) m

theorem armedOf_dropArmed_self (n : Nat) (s : State) : (dropArmed n s).armedOf n = none := by
  simp [State.armedOf, dropArmed]

theorem armedOf_dropArmed_ne {m : Nat} (s : State) (h : m ≠ n) : (dropArmed n s).armedOf m = s.armedOf m := by
  unfold State.armedOf dropArmed
  rw [List.find?_filter]
  refine List.find?_congr fun x _ => ?_
  by_cases hx : x.index = m
  · simp [hx, h]
  · simp [hx]

/-- Nothing is dropped for an entry that is not armed. -/
theorem dropArmed_of_none (h : s.armedOf n = none) : dropArmed n s = s := by
  have hall : s.pst.armed.filter (fun x => x.index != n) = s.pst.armed :=
    List.filter_eq_self.mpr fun x hx => by simpa using List.find?_eq_none.mp h x hx
  unfold dropArmed
  rw [hall]

theorem armedOf_setArmed_ne {m : Nat} (f : Armed → Armed) (s : State) (hf : ∀ x, (f x).index = x.index) (h : m ≠ n) : (setArmed n f s).armedOf m = s.armedOf m := by
  unfold State.armedOf setArmed
  dsimp only
  induction s.pst.armed with
  | nil => rfl
  | cons x xs ih =>
    have hindex : (if x.index == n then f x else x).index = x.index := by
      split
      · exact hf x
      · rfl
    rw [List.map_cons, List.find?_cons, List.find?_cons, hindex, ih]
    by_cases hx : x.index = m
    · rw [if_neg (by simpa [hx] using h)]
    · rw [beq_false_of_ne hx]

theorem armedOf_setArmed_self (f : Armed → Armed) (s : State) (hf : ∀ x, (f x).index = x.index) : (setArmed n f s).armedOf n = (s.armedOf n).map f := by
  unfold State.armedOf setArmed
  dsimp only
  induction s.pst.armed with
  | nil => rfl
  | cons x xs ih =>
    have hindex : (if x.index == n then f x else x).index = x.index := by
      split
      · exact hf x
      · rfl
    rw [List.map_cons, List.find?_cons, List.find?_cons, hindex, ih]
    by_cases hx : x.index = n
    · simp [hx]
    · rw [beq_false_of_ne hx]

theorem find_insBy_self {α : Type} (le : α → α → Bool) (p : α → Bool) (x : α) (l : List α) (hx : p x = true) (hl : l.find? p = none) : (insBy le x l).find? p = some x := by
  induction l with
  | nil => simp [insBy, hx]
  | cons y ys ih =>
    rw [List.find?_cons] at hl
    split at hl
    · exact absurd hl (by simp)
    next hy =>
    unfold insBy
    split
    · simp [hx]
    · rw [List.find?_cons, hy]
      exact ih hl

theorem find_insBy_ne {α : Type} (le : α → α → Bool) (p : α → Bool) (x : α) (l : List α) (hx : p x = false) : (insBy le x l).find? p = l.find? p := by
  induction l with
  | nil => simp [insBy, hx]
  | cons y ys ih =>
    unfold insBy
    split
    · rw [List.find?_cons, hx]
    · rw [List.find?_cons, List.find?_cons, ih]

/-! ### An edge at which no entry has acted (R195) -/

theorem settleEdge_of_edgeFree (h : s.edgeFree = true) : settleEdge s = s := by
  unfold State.edgeFree at h
  refine if_pos ?_
  rw [Bool.or_eq_true, decide_eq_true_eq] at h
  obtain h | h := h
  · rw [h, Bool.or_true]
  · simp [Nat.ne_of_lt h]

theorem edgeFree_congr {t : State} (hedge : t.pst.edge = s.pst.edge) (hat : t.pst.edgeAt = s.pst.edgeAt) (hnow : s.now ≤ t.now) (h : s.edgeFree = true) : t.edgeFree = true := by
  unfold State.edgeFree at *
  rw [hedge, hat]
  rw [Bool.or_eq_true, decide_eq_true_eq] at *
  exact h.imp_right fun h => Nat.lt_of_lt_of_le h hnow

end

end Sys2Proof.Machine

namespace Sys2Proof.Machine

set_option Elab.async false

/-! ### The commands of PST_CMD (R189, R190, R194) -/

/-- The word of a command keeps its entry. -/
theorem fld_withOp_entry {op : Nat} (v : Word) (hop : op < 16) : fld (withOp v op) 16 10 = fld v 16 10 := by
  have hbits : (withOp v op).extractLsb' 16 10 = v.extractLsb' 16 10 := by
    obtain ⟨op, rfl⟩ : ∃ o : Fin 16, op = o.val := ⟨⟨op, hop⟩, rfl⟩
    unfold withOp
    ext i hi
    have hmask : ∀ j < 10, (0xFFFFFFF0#32).getLsbD (16 + j) = true := by decide
    have hcode : ∀ (o : Fin 16), ∀ j < 10, (BitVec.ofNat 32 o.val).getLsbD (16 + j) = false := by decide
    simp [hmask i hi, hcode op i hi]
  rw [fld_eq_extract, fld_eq_extract, hbits]

theorem fld_withOp_op {op : Nat} (v : Word) (hop : op < 16) : fld (withOp v op) 0 4 = op := by
  have hbits : (withOp v op).extractLsb' 0 4 = BitVec.ofNat 4 op := by
    obtain ⟨op, rfl⟩ : ∃ o : Fin 16, op = o.val := ⟨⟨op, hop⟩, rfl⟩
    unfold withOp
    ext i hi
    have hmask : ∀ j < 4, (0xFFFFFFF0#32).getLsbD j = false := by decide
    have hcode : ∀ (o : Fin 16), ∀ j < 4, (BitVec.ofNat 32 o.val).getLsbD j = (BitVec.ofNat 4 o.val).getLsbD j := by decide
    simp [hmask i hi, hcode op i hi]
  rw [fld_eq_extract, hbits, BitVec.toNat_ofNat, Nat.mod_eq_of_lt (by omega)]

section
variable {P : List Part} {R : List Nat} {b s : State} {n : Nat} {r : Option (Nat × Nat)}

theorem only_pstResult (h : OnlyIn P b s) (hP : ∀ p ∈ [Part.regs, .icus], p ∈ P := by decide) : OnlyIn P b (pstResult r s) :=
  only_via h hP fun _ h => only_raiseIrq (only_setReg h)

theorem regs_pstResult (h : RegsOnly R b s) (hR : Off.PST_CMD_STATUS ∈ R) : RegsOnly R b (pstResult r s) := regs_raiseIrq (regs_setReg h hR)

theorem raised_pstResult (r : Option (Nat × Nat)) (s : State) : Raised Irq.PST_CMD_DONE (pstResult r s) := raised_raiseIrq _ _ (by decide)

theorem raised_pstResult_too {id : Nat} (h : Raised id s) : Raised id (pstResult r s) := raised_raiseIrq_too (raised_of_only h (only_setReg (P := [.regs]) only_refl))

theorem entryWord_pstResult {w : Nat} (hn : n < 1024) (hw : w < 8) : (pstResult r s).entryWord n w = s.entryWord n w := by
  have hreg : (pstResult r s).reg (Off.PST_ENTRY_W0 + 32 * n + 4 * w) = (setReg Off.PST_CMD_STATUS _ s).reg (Off.PST_ENTRY_W0 + 32 * n + 4 * w) := raiseIrq_reg _ _ _
  have h0 : Off.PST_ENTRY_W0 = 0x48000 := rfl
  have hstatus : Off.PST_CMD_STATUS < 0x48000 := by decide
  exact hreg.trans (reg_setReg_ne _ _ _ s (by omega))

theorem armedOf_pstResult (m : Nat) : (pstResult r s).armedOf m = s.armedOf m := armedOf_of_only (only_pstResult (P := [.regs, .icus]) only_refl) m

theorem pst_pstResult (r : Option (Nat × Nat)) (s : State) : (pstResult r s).pst = s.pst := (only_pstResult (P := [.regs, .icus]) only_refl).2 .pst (by decide)

/-- A command without a rejected entry ends OK. -/
theorem status_pstResult_none (hwf : RegsWf s) : fld ((pstResult none s).reg Off.PST_CMD_STATUS) 0 4 = 2 := by
  have hseq : (fld (s.reg Off.PST_CMD_STATUS) 8 8 + 1) % 256 < 256 := Nat.mod_lt _ (by decide)
  unfold pstResult
  rw [raiseIrq_reg, reg_setReg_unmasked _ _ s hwf (by decide)]
  generalize (fld (s.reg Off.PST_CMD_STATUS) 8 8 + 1) % 256 = q at hseq ⊢
  simp only [mkWord, fld, List.foldl_cons, List.foldl_nil, Nat.shiftLeft_eq, BitVec.toNat_ofNat, Nat.shiftRight_eq_div_pow]
  omega

/-- A command with one ends with its cause and its number. -/
theorem status_pstResult_some {cause : Nat} (hwf : RegsWf s) (hn : n < 1024) (hcause : cause < 16) :
    fld ((pstResult (some (n, cause)) s).reg Off.PST_CMD_STATUS) 0 4 = 3 ∧ fld ((pstResult (some (n, cause)) s).reg Off.PST_CMD_STATUS) 4 4 = cause ∧
      fld ((pstResult (some (n, cause)) s).reg Off.PST_CMD_STATUS) 16 10 = n := by
  have hseq : (fld (s.reg Off.PST_CMD_STATUS) 8 8 + 1) % 256 < 256 := Nat.mod_lt _ (by decide)
  unfold pstResult
  rw [raiseIrq_reg, reg_setReg_unmasked _ _ s hwf (by decide)]
  generalize (fld (s.reg Off.PST_CMD_STATUS) 8 8 + 1) % 256 = q at hseq ⊢
  simp only [mkWord, fld, List.foldl_cons, List.foldl_nil, Nat.shiftLeft_eq, BitVec.toNat_ofNat, Nat.shiftRight_eq_div_pow]
  omega

end

/-! #### ARM -/

/-- An ARM of one entry: the entry is judged, the edge settled, and the outcome shown. -/
def armOne (n : Nat) (s : State) : State :=
  pstResult (if (armEntry n s).1 = 0 then none else some (n, (armEntry n s).1)) (settleEdge (armEntry n s).2)

theorem armList_single (n : Nat) (s : State) : armList [n] s = (if (armEntry n s).1 = 0 then none else some (n, (armEntry n s).1), (armEntry n s).2) := rfl

theorem exec_armOne {s : State} {n : Nat} {v : Word} {c : Instr} (hup : s.up = true) (hc : c = .arm v ∧ n = fld v 16 10 ∨ c = .armMask v ∧ s.masked = [n]) :
    exec c s = .next (armOne n s) := by
  obtain ⟨rfl, rfl⟩ | ⟨rfl, hmasked⟩ := hc
  · have hop : pstCmdOp (withOp v 1) s = armOne (fld v 16 10) s := by
      unfold pstCmdOp
      dsimp only
      rw [fld_withOp_op v (by decide), fld_withOp_entry v (by decide), armList_single]
      rfl
    exact congrArg Host.Outcome.next ((if_pos hup).trans hop)
  · have hop : pstCmdOp (withOp v 3) s = armOne n s := by
      unfold pstCmdOp
      dsimp only
      rw [fld_withOp_op v (by decide), hmasked, armList_single]
      rfl
    exact congrArg Host.Outcome.next ((if_pos hup).trans hop)

/-- The record that the Piste keeps of an entry at its arming. -/
def freshArmed (n : Nat) (s : State) : Armed :=
  { index := n, above := decide (s.posTrig n ≤ s.qNow (eAdvance (s.eCtrl n))), reached := false, phase := 0, waitAt := none, slow := false, suspend := s.belowQual n }

/-- The Piste with an entry listed as armed, by rising index, and not as fired. -/
def listArmed (n : Nat) (s : State) : State :=
  { s with pst := { s.pst with armed := insBy (fun x y => decide (x.index ≤ y.index)) (freshArmed n s) s.pst.armed,
                               fired := s.pst.fired.filter fun x => x != n } }

section
variable {s : State} {n : Nat}

theorem armEntry_of_armed (h : s.armedOf n ≠ none) : armEntry n s = (3, s) := if_pos (Option.isSome_iff_ne_none.mpr h)

theorem armEntry_of_cause (h : s.armedOf n = none) (hcause : s.armCause n ≠ 0) : armEntry n s = (2, setStatus n 6 0 (s.armCause n) 0 s) := by
  unfold armEntry
  rw [if_neg (by rw [h]; decide)]
  exact if_pos (bne_iff_ne.mpr hcause)

theorem armEntry_of_ok (h : s.armedOf n = none) (hcause : s.armCause n = 0) (hpassed : s.trigPassed n = false) :
    armEntry n s = (0, compared n (setStatus n 1 0 0 0 (listArmed n s))) := by
  unfold armEntry
  rw [if_neg (by rw [h]; decide)]
  dsimp only
  rw [if_neg (by rw [hcause]; decide), if_neg (by rw [hpassed]; decide)]
  rfl

theorem armEntry_of_missed (h : s.armedOf n = none) (hcause : s.armCause n = 0) (hpassed : s.trigPassed n = true) (hlate : bit (s.eCtrl n) 9 = false) :
    armEntry n s = (2, raiseIrq Irq.PST_MISSED (bump Off.PST_MISSED_CNT (setStatus n 5 0 4 0 s))) := by
  unfold armEntry
  rw [if_neg (by rw [h]; decide)]
  dsimp only
  rw [if_neg (by rw [hcause]; decide), if_pos hpassed, if_neg (by rw [hlate]; decide)]

theorem armCause_lt (s : State) (n : Nat) : s.armCause n < 16 := by
  unfold State.armCause
  dsimp only
  repeat' split
  all_goals decide

theorem armOne_raised (s : State) (n : Nat) : Raised Irq.PST_CMD_DONE (armOne n s) := raised_pstResult _ _

/-- An entry that is armed is armed no second time. -/
theorem armOne_of_armed (hwf : RegsWf s) (hfree : s.edgeFree = true) (hn : n < 1024) (h : s.armedOf n ≠ none) :
    (armOne n s).entryWord n 7 = s.entryWord n 7 ∧ fld ((armOne n s).reg Off.PST_CMD_STATUS) 0 4 = 3 ∧ fld ((armOne n s).reg Off.PST_CMD_STATUS) 4 4 = 3 ∧
      OnlyIn [.regs, .icus] s (armOne n s) ∧ RegsOnly [Off.PST_ENTRY_W7 + 32 * n, Off.PST_CMD_STATUS] s (armOne n s) := by
  have hone : armOne n s = pstResult (some (n, 3)) s := by
    rw [armOne, armEntry_of_armed h, if_neg (Nat.succ_ne_zero _), settleEdge_of_edgeFree hfree]
  obtain ⟨hstate, hcause, _⟩ := status_pstResult_some (cause := 3) hwf hn (by decide)
  rw [hone]
  exact ⟨entryWord_pstResult hn (by decide), hstate, hcause, only_pstResult only_refl, regs_pstResult regs_refl (by simp)⟩

/-- An entry that may not be armed is REJECTED with its cause. -/
theorem armOne_of_cause (hwf : RegsWf s) (hfree : s.edgeFree = true) (hn : n < 1024) (h : s.armedOf n = none) (hcause : s.armCause n ≠ 0) :
    (armOne n s).entryState n = 6 ∧ fld ((armOne n s).entryWord n 7) 8 4 = s.armCause n ∧ fld ((armOne n s).reg Off.PST_CMD_STATUS) 0 4 = 3 ∧
      fld ((armOne n s).reg Off.PST_CMD_STATUS) 4 4 = 2 ∧ fld ((armOne n s).reg Off.PST_CMD_STATUS) 16 10 = n ∧ OnlyIn [.regs, .icus] s (armOne n s) ∧
      RegsOnly [Off.PST_ENTRY_W7 + 32 * n, Off.PST_CMD_STATUS] s (armOne n s) := by
  set u := setStatus n 6 0 (s.armCause n) 0 s with hu
  have honly : OnlyIn [.regs] s u := only_setStatus only_refl
  have hone : armOne n s = pstResult (some (n, 2)) u := by
    have hpst : u.pst = s.pst := honly.2 .pst (by decide)
    rw [armOne, armEntry_of_cause h hcause, if_neg (Nat.succ_ne_zero _), ← hu, settleEdge_of_edgeFree (edgeFree_congr (by rw [hpst]) (by rw [hpst]) (Nat.le_of_eq (honly.2 .now (by decide)).symm) hfree)]
  obtain ⟨hstate, hc, hindex⟩ := status_pstResult_some (cause := 2) (wf_setStatus hwf) hn (by decide)
  obtain ⟨hs, _, hw, _⟩ := status_setStatus (state := 6) (result := 0) (fires := 0) hwf hn (by decide) (by decide) (armCause_lt s n) (by decide)
  rw [hone, State.entryState, entryWord_pstResult hn (by decide)]
  exact ⟨hs, hw, hstate, hc, hindex, only_pstResult (only_setStatus only_refl), regs_pstResult (regs_setStatus regs_refl hn (by simp)) (by simp)⟩

/-- An entry whose trigger has been passed is MISSED. -/
theorem armOne_of_missed (hwf : RegsWf s) (hfree : s.edgeFree = true) (hn : n < 1024) (h : s.armedOf n = none) (hcause : s.armCause n = 0)
    (hpassed : s.trigPassed n = true) (hlate : bit (s.eCtrl n) 9 = false) :
    (armOne n s).entryState n = 5 ∧ fld ((armOne n s).entryWord n 7) 8 4 = 4 ∧
      (armOne n s).reg Off.PST_MISSED_CNT = s.reg Off.PST_MISSED_CNT + 1 ∧ Raised Irq.PST_MISSED (armOne n s) ∧
      fld ((armOne n s).reg Off.PST_CMD_STATUS) 0 4 = 3 ∧ OnlyIn [.regs, .icus] s (armOne n s) := by
  set w := setStatus n 5 0 4 0 s with hw
  set u := raiseIrq Irq.PST_MISSED (bump Off.PST_MISSED_CNT w) with hu
  have honly : OnlyIn [.regs, .icus] s u := only_raiseIrq (only_bump (only_setStatus only_refl))
  have hwfw : RegsWf w := wf_setStatus hwf
  have hone : armOne n s = pstResult (some (n, 2)) u := by
    have hpst : u.pst = s.pst := honly.2 .pst (by decide)
    rw [armOne, armEntry_of_missed h hcause hpassed hlate, if_neg (Nat.succ_ne_zero _), ← hw, ← hu,
      settleEdge_of_edgeFree (edgeFree_congr (by rw [hpst]) (by rw [hpst]) (Nat.le_of_eq (honly.2 .now (by decide)).symm) hfree)]
  obtain ⟨hstate, _, _⟩ := status_pstResult_some (s := u) (cause := 2) (wf_raiseIrq (wf_bump hwfw)) hn (by decide)
  obtain ⟨hs, _, hc, _⟩ := status_setStatus (state := 5) (result := 0) (cause := 4) (fires := 0) hwf hn (by decide) (by decide) (by decide) (by decide)
  have h0 : Off.PST_ENTRY_W0 = 0x48000 := rfl
  have hcnt : Off.PST_MISSED_CNT = 0x40304 := rfl
  have hword : u.entryWord n 7 = w.entryWord n 7 := by
    rw [hu, State.entryWord, raiseIrq_reg, reg_bump_ne _ _ _ (by omega)]
    rfl
  have hcount : (pstResult (some (n, 2)) u).reg Off.PST_MISSED_CNT = s.reg Off.PST_MISSED_CNT + 1 := by
    rw [pstResult, raiseIrq_reg, reg_setReg_ne _ _ _ _ (by decide), hu, raiseIrq_reg, reg_bump_unmasked _ _ hwfw (by decide), hw, setStatus, setEntry,
      reg_setReg_ne _ _ _ _ (by omega)]
  rw [hone, State.entryState, entryWord_pstResult hn (by decide), hword]
  exact ⟨hs, hc, hcount, raised_pstResult_too (raised_raiseIrq _ _ (by decide)), hstate, only_pstResult honly⟩

/-- An entry that may be armed, with its trigger still to come, is ARMED. -/
theorem armOne_of_ok (hwf : RegsWf s) (hfree : s.edgeFree = true) (hn : n < 1024) (h : s.armedOf n = none) (hcause : s.armCause n = 0)
    (hpassed : s.trigPassed n = false) :
    (armOne n s).entryState n = 1 ∧ ((armOne n s).armedOf n).isSome = true ∧ n ∉ (armOne n s).pst.fired ∧ (armOne n s).eFires n = 0 ∧
      fld ((armOne n s).reg Off.PST_CMD_STATUS) 0 4 = 2 ∧ (∀ m, m ≠ n → (armOne n s).armedOf m = s.armedOf m) ∧ OnlyIn [.regs, .pst, .icus] s (armOne n s) ∧
      RegsOnly [Off.PST_ENTRY_W7 + 32 * n, Off.PST_CMD_STATUS] s (armOne n s) := by
  set w := setStatus n 1 0 0 0 (listArmed n s) with hw
  have hlist : OnlyIn [.pst] s (listArmed n s) := only_mk only_refl
  have hset : OnlyIn [.regs] (listArmed n s) w := only_setStatus only_refl
  have hpst : w.pst = (listArmed n s).pst := hset.2 .pst (by decide)
  have hcmp : OnlyIn [.pst] w (compared n w) := only_setArmed only_refl
  have hwfl : RegsWf (listArmed n s) := wf_of_only hwf hlist
  have hcompared : OnlyIn [.regs, .pst] s (compared n w) := only_setArmed (only_setStatus (only_mk only_refl))
  have hone : armOne n s = pstResult none (compared n w) := by
    have hfree' : (compared n w).edgeFree = true := edgeFree_congr (show w.pst.edge = _ by rw [hpst]; rfl) (show w.pst.edgeAt = _ by rw [hpst]; rfl)
      (Nat.le_of_eq (hcompared.2 .now (by decide)).symm) hfree
    rw [armOne, armEntry_of_ok h hcause hpassed, if_pos rfl, ← hw, settleEdge_of_edgeFree hfree']
  obtain ⟨hs, _, _, hf⟩ := status_setStatus (state := 1) (result := 0) (cause := 0) (fires := 0) hwfl hn (by decide) (by decide) (by decide) (by decide)
  have hword : (armOne n s).entryWord n 7 = w.entryWord n 7 := by rw [hone, entryWord_pstResult hn (by decide), entryWord_of_only hcmp]
  have hself : (armOne n s).armedOf n = (w.armedOf n).map fun x => { x with reached := w.posReached n (w.qNow (eAdvance (w.eCtrl n))), phase := w.phiAt n w.tb0 } := by
    rw [hone, armedOf_pstResult]
    exact armedOf_setArmed_self _ w fun _ => rfl
  have hnew : w.armedOf n = some (freshArmed n s) := by
    rw [armedOf_congr (congrArg Piste.armed hpst) n]
    exact find_insBy_self _ _ _ _ (beq_self_eq_true n) h
  have hother : ∀ m, m ≠ n → (armOne n s).armedOf m = s.armedOf m := fun m hm => by
    have hsame : (compared n w).armedOf m = w.armedOf m := armedOf_setArmed_ne _ w (fun _ => rfl) hm
    rw [hone, armedOf_pstResult, hsame, armedOf_congr (congrArg Piste.armed hpst) m]
    exact find_insBy_ne _ _ _ _ (beq_false_of_ne hm.symm)
  have hfired : (armOne n s).pst.fired = s.pst.fired.filter fun x => x != n := by
    rw [hone, pst_pstResult]
    exact congrArg Piste.fired hpst
  refine ⟨?_, ?_, ?_, ?_, ?_, hother, ?_, ?_⟩
  · rw [State.entryState, hword]
    exact hs
  · rw [hself, hnew]
    rfl
  · rw [hfired]
    simp
  · rw [State.eFires, hword]
    exact hf
  · rw [hone]
    exact status_pstResult_none (wf_of_only (wf_setStatus hwfl) hcmp)
  · rw [hone]
    exact only_pstResult (onlyIn_mono hcompared (by decide))
  · rw [hone]
    exact regs_pstResult (regs_of_only (regs_setStatus (regs_of_only regs_refl hlist) hn (by simp)) hcmp) (by simp)

theorem exists_next_arm (s : State) (n : Nat) (v : Word) (c : Instr) (hwf : RegsWf s) (hup : s.up = true) (hfree : s.edgeFree = true) (hn : n < 1024)
    (hc : c = .arm v ∧ n = fld v 16 10 ∨ c = .armMask v ∧ s.masked = [n]) :
    ∃ t, exec c s = .next t ∧ Raised Irq.PST_CMD_DONE t ∧
      (s.armedOf n = none → s.armCause n = 0 → s.trigPassed n = false → t.entryState n = 1 ∧ (t.armedOf n).isSome = true ∧
        n ∉ t.pst.fired ∧ t.eFires n = 0 ∧ fld (t.reg Off.PST_CMD_STATUS) 0 4 = 2 ∧ t.reg Off.PST_MISSED_CNT = s.reg Off.PST_MISSED_CNT ∧
        (∀ m, m ≠ n → t.armedOf m = s.armedOf m) ∧ OnlyIn [.regs, .pst, .icus] s t) ∧
      (s.armedOf n = none → s.armCause n ≠ 0 → t.entryState n = 6 ∧ fld (t.entryWord n 7) 8 4 = s.armCause n ∧
        fld (t.reg Off.PST_CMD_STATUS) 0 4 = 3 ∧ fld (t.reg Off.PST_CMD_STATUS) 4 4 = 2 ∧ fld (t.reg Off.PST_CMD_STATUS) 16 10 = n ∧
        OnlyIn [.regs, .icus] s t) ∧
      (s.armedOf n = none → s.armCause n = 0 → s.trigPassed n = true → bit (s.eCtrl n) 9 = false → t.entryState n = 5 ∧
        fld (t.entryWord n 7) 8 4 = 4 ∧ t.reg Off.PST_MISSED_CNT = s.reg Off.PST_MISSED_CNT + 1 ∧ Raised Irq.PST_MISSED t ∧
        fld (t.reg Off.PST_CMD_STATUS) 0 4 = 3 ∧ OnlyIn [.regs, .icus] s t) ∧
      (s.armedOf n ≠ none → t.entryWord n 7 = s.entryWord n 7 ∧ fld (t.reg Off.PST_CMD_STATUS) 0 4 = 3 ∧
        fld (t.reg Off.PST_CMD_STATUS) 4 4 = 3 ∧ OnlyIn [.regs, .icus] s t) ∧
      (s.trigPassed n = false → RegsOnly [Off.PST_ENTRY_W7 + 32 * n, Off.PST_CMD_STATUS] s t) := by
  refine ⟨armOne n s, exec_armOne hup hc, armOne_raised s n, fun h hcause hpassed => ?_, fun h hcause => ?_, fun h hcause hpassed hlate => ?_, fun h => ?_, fun hpassed => ?_⟩
  · obtain ⟨hstate, harmed, hfired, hfires, hstatus, hother, honly, hregs⟩ := armOne_of_ok hwf hfree hn h hcause hpassed
    have hkey : Off.PST_MISSED_CNT % 16777216 ∉ [Off.PST_ENTRY_W7 + 32 * n, Off.PST_CMD_STATUS] := by
      have hcnt : Off.PST_MISSED_CNT = 0x40304 := rfl
      have h7 : Off.PST_ENTRY_W7 = 0x4801C := rfl
      have hcmd : Off.PST_CMD_STATUS ≠ 0x40304 := by decide
      simp only [List.mem_cons, List.not_mem_nil, or_false]
      omega
    exact ⟨hstate, harmed, hfired, hfires, hstatus, hregs _ hkey, hother, honly⟩
  · obtain ⟨hstate, hw, hstatus, hc2, hindex, honly, _⟩ := armOne_of_cause hwf hfree hn h hcause
    exact ⟨hstate, hw, hstatus, hc2, hindex, honly⟩
  · exact armOne_of_missed hwf hfree hn h hcause hpassed hlate
  · obtain ⟨hw, hstatus, hc3, honly, _⟩ := armOne_of_armed hwf hfree hn h
    exact ⟨hw, hstatus, hc3, honly⟩
  · by_cases h : s.armedOf n = none
    · by_cases hcause : s.armCause n = 0
      · obtain ⟨_, _, _, _, _, _, _, hregs⟩ := armOne_of_ok hwf hfree hn h hcause hpassed
        exact hregs
      · obtain ⟨_, _, _, _, _, _, hregs⟩ := armOne_of_cause hwf hfree hn h hcause
        exact hregs
    · obtain ⟨_, _, _, _, hregs⟩ := armOne_of_armed hwf hfree hn h
      exact hregs

end

end Sys2Proof.Machine

namespace Sys2Proof.Machine

set_option Elab.async false

/-! #### DISARM -/

section
variable {s : State} {n : Nat}

/-- What a command does to the entries it disarms, and to the others. -/
structure Disarmed (sel : List Nat) (s t : State) : Prop where
  wf : RegsWf t
  named : ∀ n ∈ sel, t.entryState n = 0 ∧ t.armedOf n = none ∧ t.eFires n = s.eFires n
  others : ∀ n, n ∉ sel → n < 1024 → t.armedOf n = s.armedOf n ∧ t.entryWord n 7 = s.entryWord n 7
  pulses : t.pst.pulses = s.pst.pulses
  words : ∀ n w, n < 1024 → w < 7 → t.entryWord n w = s.entryWord n w
  frame : OnlyIn [.regs, .pst] s t

theorem disarm_eq (n : Nat) (s : State) : disarm n s = setStatus n 0 (fld (s.entryWord n 7) 4 3) 0 (s.eFires n) (dropArmed n s) := by
  unfold disarm
  split
  · rfl
  next h => rw [dropArmed_of_none (by simpa using h)]

theorem disarmed_disarm (hwf : RegsWf s) (hn : n < 1024) : Disarmed [n] s (disarm n s) := by
  have hdrop : OnlyIn [.pst] s (dropArmed n s) := only_dropArmed only_refl
  have hset : OnlyIn [.regs] (dropArmed n s) (disarm n s) := by
    rw [disarm_eq]
    exact only_setStatus only_refl
  obtain ⟨hstate, _, _, hfires⟩ := status_setStatus (state := 0) (result := fld (s.entryWord n 7) 4 3) (cause := 0) (wf_of_only hwf hdrop) hn (by decide)
    (Nat.mod_lt _ (by decide)) (by decide) (eFires_lt s n)
  have hword : ∀ m w, w < 8 → m ≠ n ∨ w ≠ 7 → (disarm n s).entryWord m w = s.entryWord m w := fun m w hw hne => by
    rw [disarm_eq, setStatus, entryWord_setEntry_ne _ _ (by decide) hw hne, entryWord_of_only hdrop]
  refine ⟨?_, fun m hm => ?_, fun m hm _ => ⟨?_, hword m 7 (by decide) (.inl (by simpa using hm))⟩, ?_, fun m w _ hw => hword m w (by omega) (.inr (by omega)), ?_⟩
  · rw [disarm_eq]
    exact wf_setStatus (wf_of_only hwf hdrop)
  · obtain rfl := List.mem_singleton.mp hm
    refine ⟨?_, ?_, ?_⟩
    · rw [disarm_eq]
      exact hstate
    · rw [armedOf_of_only hset, armedOf_dropArmed_self]
    · rw [disarm_eq]
      exact hfires
  · rw [armedOf_of_only hset, armedOf_dropArmed_ne s (by simpa using hm)]
  · have hpst : (disarm n s).pst = (dropArmed n s).pst := hset.2 .pst (by decide)
    rw [hpst]
    rfl
  · exact onlyIn_trans (onlyIn_mono hdrop (by decide)) (onlyIn_mono hset (by decide))

theorem Disarmed.cons {ns : List Nat} {t u : State} (h : Disarmed [n] s t) (ht : Disarmed ns t u) (hlt : ∀ m ∈ n :: ns, m < 1024) : Disarmed (n :: ns) s u := by
  refine ⟨ht.wf, fun m hm => ?_, fun m hm hm' => ?_, ht.pulses.trans h.pulses, fun m w hm hw => (ht.words m w hm hw).trans (h.words m w hm hw), onlyIn_trans h.frame ht.frame⟩
  · have hm' := hlt m hm
    by_cases hns : m ∈ ns
    · obtain ⟨hstate, harmed, hfires⟩ := ht.named m hns
      refine ⟨hstate, harmed, hfires.trans ?_⟩
      by_cases hmn : m = n
      · exact (h.named m (by simp [hmn])).2.2
      · exact congrArg (fun w => fld w 16 16) (h.others m (by simpa using hmn) hm').2
    · obtain rfl : m = n := (List.mem_cons.mp hm).resolve_right hns
      obtain ⟨hstate, harmed, hfires⟩ := h.named m (List.mem_singleton_self m)
      obtain ⟨hsame, hword⟩ := ht.others m hns hm'
      refine ⟨?_, hsame.trans harmed, ?_⟩
      · rw [State.entryState, hword]
        exact hstate
      · rw [State.eFires, hword]
        exact hfires
  · obtain ⟨hmn, hns⟩ := not_or.mp (List.mem_cons.not.mp hm)
    obtain ⟨hsame, hword⟩ := ht.others m hns hm'
    obtain ⟨hsame', hword'⟩ := h.others m (by simpa using hmn) hm'
    exact ⟨hsame.trans hsame', hword.trans hword'⟩

theorem disarmed_foldl (ns : List Nat) (hwf : RegsWf s) (hlt : ∀ m ∈ ns, m < 1024) : Disarmed ns s (ns.foldl (fun s n => disarm n s) s) := by
  induction ns generalizing s with
  | nil => exact ⟨hwf, fun _ h => absurd h List.not_mem_nil, fun _ _ _ => ⟨rfl, rfl⟩, rfl, fun _ _ _ _ => rfl, only_refl⟩
  | cons n ns ih =>
    have hone := disarmed_disarm hwf (hlt n List.mem_cons_self)
    exact hone.cons (ih hone.wf fun m hm => hlt m (List.mem_cons_of_mem _ hm)) hlt

theorem exec_disarm {v : Word} {c : Instr} {sel : List Nat} (hup : s.up = true)
    (hc : c = .disarm v ∧ sel = [fld v 16 10] ∨ c = .disarmMask v ∧ sel = s.masked ∨ c = .disarmAll v ∧ sel = List.range 1024) :
    exec c s = .next (pstResult none (sel.foldl (fun s n => disarm n s) s)) := by
  obtain ⟨hc, hsel⟩ | ⟨hc, hsel⟩ | ⟨hc, hsel⟩ := hc <;> rw [hc, hsel]
  · have hop : pstCmdOp (withOp v 2) s = pstResult none (disarm (fld v 16 10) s) := by
      unfold pstCmdOp
      dsimp only
      rw [fld_withOp_op v (by decide), fld_withOp_entry v (by decide)]
      rfl
    exact congrArg Host.Outcome.next ((if_pos hup).trans hop)
  · have hop : pstCmdOp (withOp v 4) s = pstResult none (s.masked.foldl (fun s n => disarm n s) s) := by
      unfold pstCmdOp
      dsimp only
      rw [fld_withOp_op v (by decide)]
      rfl
    exact congrArg Host.Outcome.next ((if_pos hup).trans hop)
  · have hop : pstCmdOp (withOp v 5) s = pstResult none ((List.range 1024).foldl (fun s n => disarm n s) s) := by
      unfold pstCmdOp
      dsimp only
      rw [fld_withOp_op v (by decide)]
      rfl
    exact congrArg Host.Outcome.next ((if_pos hup).trans hop)

theorem disarm_names_lt {v : Word} {c : Instr} {sel : List Nat}
    (hc : c = .disarm v ∧ sel = [fld v 16 10] ∨ c = .disarmMask v ∧ sel = s.masked ∨ c = .disarmAll v ∧ sel = List.range 1024) : ∀ m ∈ sel, m < 1024 := by
  intro m hm
  obtain ⟨_, hsel⟩ | ⟨_, hsel⟩ | ⟨_, hsel⟩ := hc <;> rw [hsel] at hm
  · rw [List.mem_singleton.mp hm]
    exact Nat.mod_lt _ (by decide)
  · exact List.mem_range.mp (List.mem_filter.mp hm).1
  · exact List.mem_range.mp hm

end

theorem exists_next_disarm (s : State) (v : Word) (c : Instr) (sel : List Nat) (hwf : RegsWf s) (hup : s.up = true)
    (hc : c = .disarm v ∧ sel = [fld v 16 10] ∨ c = .disarmMask v ∧ sel = s.masked ∨ c = .disarmAll v ∧ sel = List.range 1024) :
    ∃ t, exec c s = .next t ∧ fld (t.reg Off.PST_CMD_STATUS) 0 4 = 2 ∧ Raised Irq.PST_CMD_DONE t ∧
      (∀ n ∈ sel, t.entryState n = 0 ∧ t.armedOf n = none ∧ t.eFires n = s.eFires n) ∧
      (∀ n, n ∉ sel → n < 1024 → t.armedOf n = s.armedOf n ∧ t.entryWord n 7 = s.entryWord n 7) ∧ t.pst.pulses = s.pst.pulses ∧
      (∀ n w, n < 1024 → w < 7 → t.entryWord n w = s.entryWord n w) ∧ OnlyIn [.regs, .pst, .icus] s t := by
  have hexec := exec_disarm hup hc
  have hlt := disarm_names_lt hc
  have hdis := disarmed_foldl sel hwf hlt
  set u := sel.foldl (fun s n => disarm n s) s
  refine ⟨_, hexec, status_pstResult_none hdis.wf, raised_pstResult _ _, fun m hm => ?_, fun m hm hm' => ?_, ?_, fun m w hm hw => ?_,
    only_pstResult (onlyIn_mono hdis.frame (by decide))⟩
  · rw [State.entryState, State.eFires, entryWord_pstResult (hlt m hm) (by decide), armedOf_pstResult]
    exact hdis.named m hm
  · rw [entryWord_pstResult hm' (by decide), armedOf_pstResult]
    exact hdis.others m hm hm'
  · rw [pst_pstResult]
    exact hdis.pulses
  · rw [entryWord_pstResult hm (by omega)]
    exact hdis.words m w hm hw

/-! ### The end of a pulse (R196) -/

theorem mem_insBy {α : Type} (le : α → α → Bool) (x y : α) (l : List α) (h : y ∈ insBy le x l) : y = x ∨ y ∈ l := by
  induction l with
  | nil => exact .inl (List.mem_singleton.mp h)
  | cons z zs ih =>
    unfold insBy at h
    split at h
    · exact List.mem_cons.mp h
    · obtain rfl | h := List.mem_cons.mp h
      · exact .inr List.mem_cons_self
      · exact (ih h).imp_right (List.mem_cons_of_mem _)

theorem mem_of_mem_sortBy {α : Type} (le : α → α → Bool) (y : α) (l : List α) (h : y ∈ sortBy le l) : y ∈ l := by
  induction l with
  | nil => exact h
  | cons x xs ih => exact (mem_insBy le x y _ h).elim (fun h => h ▸ List.mem_cons_self) fun h => List.mem_cons_of_mem _ (ih h)

/-- The element before all others comes first. -/
theorem head_sortBy_cons {α : Type} (le : α → α → Bool) (x : α) (l : List α) (h : ∀ y ∈ l, le x y = true) : (sortBy le (x :: l)).head? = some x := by
  show (insBy le x (sortBy le l)).head? = some x
  cases hl : sortBy le l with
  | nil => rfl
  | cons y ys =>
    have hy : le x y = true := h y (mem_of_mem_sortBy le y l (by rw [hl]; exact List.mem_cons_self))
    unfold insBy
    rw [if_pos hy]
    rfl

/-- The end of a pulse at its instant. -/
def pulseOver (p : Pulse) (s : State) : State :=
  if p.taken then raiseIrq Irq.PST_CONFLICT (bump Off.PST_CONFLICT_CNT s)
  else if p.sync then setSync (s.pst.sync &&& ~~~(1#8 <<< p.target)) s
  else resolveOuts { s with pst := { s.pst with doLevel := s.pst.doLevel &&& ~~~(1#16 <<< p.target) } }

/-- The Piste without a pulse, at the pulse's end. -/
def withoutPulse (p : Pulse) (s : State) : State := advanceTo p.endAt { s with pst := { s.pst with pulses := s.pst.pulses.erase p } }

theorem exists_next_pulseEnd (s : State) (n : Nat) (p : Pulse) (rest : List Pulse) (hwf : RegsWf s) (hup : s.up = true)
    (hpulses : s.pst.pulses.filter (fun x => x.index == n) = p :: rest) (hfirst : ∀ x ∈ rest, p.endAt < x.endAt) :
    ∃ t, exec (.pulseEnd n) s = .next t ∧ p.endAt ≤ t.now ∧ t.pst.pulses = s.pst.pulses.erase p ∧
      (p.taken = true → t.reg Off.PST_CONFLICT_CNT = s.reg Off.PST_CONFLICT_CNT + 1 ∧ Raised Irq.PST_CONFLICT t ∧ t.pst.sync = s.pst.sync ∧
        t.pst.doLevel = s.pst.doLevel ∧ t.dio = s.dio ∧ t.out = s.out) ∧
      (p.taken = false → p.sync = true → t.pst.sync = s.pst.sync &&& ~~~(1#8 <<< p.target) ∧ t.pst.doLevel = s.pst.doLevel ∧
        t.regs = s.regs ∧ t.dio = s.dio) ∧
      (p.taken = false → p.sync = false → t.pst.doLevel = s.pst.doLevel &&& ~~~(1#16 <<< p.target) ∧ t.pst.sync = s.pst.sync) ∧
      t.pst.armed = s.pst.armed ∧ RegsOnly [Off.PST_CONFLICT_CNT, Off.DIO_DARK_SKIP_CNT, Off.DIO_DEMAG_HIGH_CNT] s t ∧
      OnlyIn [.now, .time, .nv, .isl, .regs, .out, .pst, .dio, .icus] s t := by
  have hhead : (sortBy (fun (x y : Pulse) => decide (x.endAt ≤ y.endAt)) (s.pst.pulses.filter fun q => q.index == n)).head? = some p := by
    rw [hpulses]
    exact head_sortBy_cons _ p rest fun y hy => decide_eq_true (Nat.le_of_lt (hfirst y hy))
  have hexec : exec (.pulseEnd n) s = .next (pulseOver p (withoutPulse p s)) := by
    change execPulseEnd n s = _
    unfold execPulseEnd
    rw [hhead]
    exact congrArg Host.Outcome.next (if_pos hup)
  have hgone : OnlyIn [.now, .time, .nv, .isl] { s with pst := { s.pst with pulses := s.pst.pulses.erase p } } (withoutPulse p s) := only_advanceTo only_refl
  have hpst : (withoutPulse p s).pst = { s.pst with pulses := s.pst.pulses.erase p } := hgone.2 .pst (by decide)
  have hregs : (withoutPulse p s).regs = s.regs := hgone.2 .regs (by decide)
  have hreg : ∀ k, (withoutPulse p s).reg k = s.reg k := fun k => reg_congr _ _ k hregs
  have hdio : (withoutPulse p s).dio = s.dio := hgone.2 .dio (by decide)
  have hout : (withoutPulse p s).out = s.out := hgone.2 .out (by decide)
  have hnow : p.endAt ≤ (withoutPulse p s).now := by
    rw [withoutPulse, now_advanceTo]
    exact Nat.le_max_right _ _
  have hstart : OnlyIn [.now, .time, .nv, .isl, .regs, .out, .pst, .dio, .icus] s (withoutPulse p s) := only_advanceTo (only_mk only_refl)
  have hwf' : RegsWf (withoutPulse p s) := wf_of_only (wf_mk hwf) hgone
  have hstartRegs : RegsOnly [Off.PST_CONFLICT_CNT, Off.DIO_DARK_SKIP_CNT, Off.DIO_DEMAG_HIGH_CNT] s (withoutPulse p s) := fun k _ => hreg k
  generalize withoutPulse p s = u at *
  refine ⟨_, hexec, ?_⟩
  unfold pulseOver
  cases htaken : p.taken with
  | true =>
    rw [if_pos rfl]
    have hover : OnlyIn [.regs, .icus] u (raiseIrq Irq.PST_CONFLICT (bump Off.PST_CONFLICT_CNT u)) := only_raiseIrq (only_bump only_refl)
    have hpst' := (hover.2 .pst (by decide)).trans hpst
    have hcount : (raiseIrq Irq.PST_CONFLICT (bump Off.PST_CONFLICT_CNT u)).reg Off.PST_CONFLICT_CNT = s.reg Off.PST_CONFLICT_CNT + 1 := by
      rw [raiseIrq_reg, reg_bump_unmasked _ _ hwf' (by decide), hreg]
    refine ⟨hnow.trans (Nat.le_of_eq (hover.2 .now (by decide)).symm), by rw [hpst'], fun _ => ⟨hcount, raised_raiseIrq _ _ (by decide), by rw [hpst'], by rw [hpst'],
      (hover.2 .dio (by decide)).trans hdio, (hover.2 .out (by decide)).trans hout⟩, fun h => Bool.noConfusion h, fun h => Bool.noConfusion h, by rw [hpst'],
      regs_raiseIrq (regs_bump hstartRegs), only_raiseIrq (only_bump hstart)⟩
  | false =>
    rw [if_neg Bool.false_ne_true]
    cases hsync : p.sync with
    | true =>
      rw [if_pos rfl]
      have hover : OnlyIn [.out, .pst] u (setSync (u.pst.sync &&& ~~~(1#8 <<< p.target)) u) := only_setSync only_refl
      have hpst' : (setSync (u.pst.sync &&& ~~~(1#8 <<< p.target)) u).pst = { u.pst with sync := u.pst.sync &&& ~~~(1#8 <<< p.target) } := rfl
      refine ⟨hnow.trans (Nat.le_of_eq (hover.2 .now (by decide)).symm), by rw [hpst', hpst], fun h => Bool.noConfusion h,
        fun _ _ => ⟨by rw [hpst', hpst], by rw [hpst', hpst], (hover.2 .regs (by decide)).trans hregs, (hover.2 .dio (by decide)).trans hdio⟩,
        fun _ h => Bool.noConfusion h, by rw [hpst', hpst],
        regs_of_only hstartRegs hover, only_setSync hstart⟩
    | false =>
      rw [if_neg Bool.false_ne_true]
      set w : State := { u with pst := { u.pst with doLevel := u.pst.doLevel &&& ~~~(1#16 <<< p.target) } } with hw
      have hover : OnlyIn [.regs, .out, .icus, .dio] w (resolveOuts w) := only_resolveOuts only_refl
      have hpst' : (resolveOuts w).pst = { u.pst with doLevel := u.pst.doLevel &&& ~~~(1#16 <<< p.target) } := hover.2 .pst (by decide)
      refine ⟨hnow.trans (Nat.le_of_eq (hover.2 .now (by decide)).symm), by rw [hpst', hpst], fun h => Bool.noConfusion h, fun _ h => Bool.noConfusion h,
        fun _ _ => ⟨by rw [hpst', hpst], by rw [hpst', hpst]⟩, by rw [hpst', hpst], regs_resolveOuts (regs_mk hstartRegs), only_resolveOuts (only_mk hstart)⟩

/-! ### Entry words, the fire FIFO and the scrub -/

theorem exists_next_entryWordWrite (s : State) (n w : Nat) (v : Word) (hwf : RegsWf s) (hup : s.up = true) (hn : n < 1024) (hw : w < 8) :
    ∃ t, exec (.entryWordWrite n w v) s = .next t ∧
      (w < 7 → s.armedOf n = none → t.entryWord n w = v &&& regMask (Off.PST_ENTRY_W0 + 32 * n + 4 * w) ∧
        RegsOnly [Off.PST_ENTRY_W0 + 32 * n + 4 * w] s t) ∧
      (w < 7 → s.armedOf n ≠ none → t.reg Off.PST_WRITE_REJECTS = s.reg Off.PST_WRITE_REJECTS + 1 ∧
        RegsOnly [Off.PST_WRITE_REJECTS] s t) ∧ (w = 7 → t.regs = s.regs) ∧ OnlyIn [.regs] s t := by
  have hexec : exec (.entryWordWrite n w v) s = .next (entryWordOp n w v s) :=
    congrArg Host.Outcome.next (if_pos (by rw [hup, decide_eq_true hn, decide_eq_true hw]; rfl))
  refine ⟨_, hexec, ?_⟩
  unfold entryWordOp
  split
  next h7 => exact ⟨fun h => absurd h7 (Nat.ne_of_lt h), fun h => absurd h7 (Nat.ne_of_lt h), fun _ => rfl, only_refl⟩
  next h7 =>
    split
    next harmed =>
      exact ⟨fun _ h => by rw [h] at harmed; exact Bool.noConfusion harmed, fun _ _ => ⟨reg_bump_unmasked _ _ hwf (by decide), regs_bump regs_refl⟩,
        fun h => absurd h h7, only_bump only_refl⟩
    next harmed =>
      have hkey : (Off.PST_ENTRY_W0 + 32 * n + 4 * w) % 16777216 = Off.PST_ENTRY_W0 + 32 * n + 4 * w := by
        have h0 : Off.PST_ENTRY_W0 = 0x48000 := rfl
        omega
      exact ⟨fun _ _ => ⟨reg_setReg_self _ _ _ hwf, regs_setReg regs_refl (by rw [hkey]; exact List.mem_singleton_self _)⟩,
        fun _ h => absurd (Option.not_isSome_iff_eq_none.mp harmed) h, fun h => absurd h h7, only_setEntry only_refl⟩

theorem latched_answerAll (core o : Nat) (w : Word) (err : Bool) (s : State) (c : Nat) : (answerAll core w err s).latched none c o = s.latched none c o := by
  have hlatches : (answerAll core w err s).latches = s.latches := (onlyIn_answerAll core w err s).2 .latches (by decide)
  rw [State.latched, hlatches]
  rfl

theorem exists_next_pstFireHeadRead (s : State) (core : Nat) (e : Fire) (rest : List Fire) (hup : s.up = true) (hfifo : s.pst.fifo = e :: rest) :
    ∃ t, exec (.pstFireHeadRead core) s = .next t ∧ t.pst = { s.pst with fifo := rest } ∧ t.vot = s.vot.answered core e.head false ∧
      t.latched none core Off.PST_FIRE_TIME = some e.time ∧ OnlyIn [.latches, .pst, .vot] s t := by
  set u : State := setLatch none core Off.PST_FIRE_HEAD [(Off.PST_FIRE_TIME, e.time)] { s with pst := { s.pst with fifo := rest } }
  have hop : fireHeadOp core s = answerAll core e.head false u := by
    unfold fireHeadOp
    rw [hfifo]
    rfl
  refine ⟨_, congrArg Host.Outcome.next ((if_pos hup).trans hop), (onlyIn_answerAll core e.head false u).2 .pst (by decide), answerAll_vot _ _ _ _, ?_,
    only_answerAll (only_setLatch (only_mk only_refl))⟩
  rw [latched_answerAll]
  exact latched_setLatch _ _ _ _ _ _ _ rfl

theorem exists_next_pstFireHeadRead_empty (s : State) (core : Nat) (hup : s.up = true) (hfifo : s.pst.fifo = []) :
    ∃ t, exec (.pstFireHeadRead core) s = .next t ∧ t.pst = s.pst ∧ t.vot = s.vot.answered core 0 false ∧ OnlyIn [.latches, .pst, .vot] s t := by
  set u : State := setLatch none core Off.PST_FIRE_HEAD [(Off.PST_FIRE_TIME, 0)] s
  have hop : fireHeadOp core s = answerAll core 0 false u := by
    have hsame : ({ s with pst := { s.pst with fifo := s.pst.fifo.drop 1 } } : State) = s := by
      rw [hfifo]
      show ({ s with pst := { s.pst with fifo := [] } } : State) = s
      rw [← hfifo]
    unfold fireHeadOp
    dsimp only
    rw [hsame, hfifo]
    rfl
  exact ⟨_, congrArg Host.Outcome.next ((if_pos hup).trans hop), (onlyIn_answerAll core 0 false u).2 .pst (by decide), answerAll_vot _ _ _ _,
    only_answerAll (only_setLatch only_refl)⟩

theorem exists_next_pisteStoreScrub (s : State) (n : Nat) (hwf : RegsWf s) (hup : s.up = true) (hn : n < 1024) :
    ∃ t, exec (.pisteStoreScrub n) s = .next t ∧ t.entryState n = 6 ∧ fld (t.entryWord n 7) 8 4 = 6 ∧ t.eFires n = s.eFires n ∧
      t.armedOf n = none ∧ (∀ m, m ≠ n → t.armedOf m = s.armedOf m) ∧ Raised Irq.PST_STORE_ERROR t ∧ Recorded 0x0601 [iU16 1 n] s t ∧
      RegsOnly [Off.PST_ENTRY_W7 + 32 * n, Off.REC_LOST_CNT] s t ∧ OnlyIn (.pst :: recParts) s t := by
  set w := setStatus n 6 0 6 (s.eFires n) (dropArmed n s) with hw
  set u := record 0x0601 [iU16 1 n] w with hu
  have hdrop : OnlyIn [.pst] s (dropArmed n s) := only_dropArmed only_refl
  have hset : OnlyIn [.regs] (dropArmed n s) w := only_setStatus only_refl
  have hrec : OnlyIn recParts w (raiseIrq Irq.PST_STORE_ERROR u) := only_raiseIrq (only_record only_refl)
  have hexec : exec (.pisteStoreScrub n) s = .next (raiseIrq Irq.PST_STORE_ERROR u) :=
    congrArg Host.Outcome.next (if_pos (by rw [hup, decide_eq_true hn]; rfl))
  obtain ⟨hstate, _, hcause, hfires⟩ := status_setStatus (state := 6) (result := 0) (cause := 6) (wf_of_only hwf hdrop) hn (by decide) (by decide) (by decide) (eFires_lt s n)
  have hword : (raiseIrq Irq.PST_STORE_ERROR u).entryWord n 7 = w.entryWord n 7 := by
    have hlost : RegsOnly [Off.REC_LOST_CNT] w u := regs_record regs_refl
    have hkey : (Off.PST_ENTRY_W0 + 32 * n + 4 * 7) % 16777216 ∉ [Off.REC_LOST_CNT] := by
      have h0 : Off.PST_ENTRY_W0 = 0x48000 := rfl
      have hrec : Off.REC_LOST_CNT < 0x48000 ∨ 0x50000 < Off.REC_LOST_CNT := by decide
      rw [List.mem_singleton]
      omega
    rw [State.entryWord, raiseIrq_reg]
    exact hlost _ hkey
  have harmed : ∀ m, (raiseIrq Irq.PST_STORE_ERROR u).armedOf m = (dropArmed n s).armedOf m := fun m => by
    rw [armedOf_of_only hrec, armedOf_of_only hset]
  refine ⟨_, hexec, ?_, ?_, ?_, ?_, fun m hm => ?_, raised_raiseIrq _ _ (by decide), ?_, ?_, ?_⟩
  · rw [State.entryState, hword]
    exact hstate
  · rw [hword, hcause]
  · rw [State.eFires, hword]
    exact hfires
  · rw [harmed, armedOf_dropArmed_self]
  · rw [harmed, armedOf_dropArmed_ne s hm]
  · exact recorded_after (recorded_record_of (P := [.regs, .pst]) (only_setStatus (only_dropArmed only_refl))) (only_raiseIrq (P := [.icus]) only_refl)
  · exact regs_raiseIrq (regs_record (regs_setStatus (regs_of_only regs_refl hdrop) hn (by simp)) (by simp))
  · exact only_raiseIrq (only_record (only_setStatus (only_dropArmed only_refl)))

/-- Settles O29, command by command. -/
theorem pisteCommands : Obligations.PisteCommands :=
  ⟨exists_next_arm, exists_next_disarm, exists_next_pulseEnd, exists_next_entryWordWrite, exists_next_pstFireHeadRead, exists_next_pstFireHeadRead_empty,
    exists_next_pisteStoreScrub⟩

end Sys2Proof.Machine

namespace Sys2Proof.Machine

set_option Elab.async false

/-! ### The end of a one-shot occurrence (R191 to R193) -/

section
variable {s : State} {n : Nat}

/-- Neither the registers of the frame are an entry's words, but its status. -/
theorem entryWord_of_regs {R : List Nat} {t : State} (h : RegsOnly R s t) {m w : Nat} (hm : m < 1024) (hw : w < 8) (hR : Off.PST_ENTRY_W0 + 32 * m + 4 * w ∉ R) :
    t.entryWord m w = s.entryWord m w := by
  have hkey : (Off.PST_ENTRY_W0 + 32 * m + 4 * w) % 16777216 = Off.PST_ENTRY_W0 + 32 * m + 4 * w := by
    have h0 : Off.PST_ENTRY_W0 = 0x48000 := rfl
    omega
  refine h _ ?_
  rw [hkey]
  exact hR

theorem entryWord_setReg_ne {k m w : Nat} (v : Word) (s : State) (hk : k < Off.PST_ENTRY_W0) : (setReg k v s).entryWord m w = s.entryWord m w :=
  reg_setReg_ne _ _ v s (by omega)

/-- The words of an entry but its status stay as they are at a write of the status. -/
theorem entryWord_setStatus_ne {w state result cause fires : Nat} (s : State) (hw : w < 7) : (setStatus n state result cause fires s).entryWord n w = s.entryWord n w :=
  entryWord_setEntry_ne _ s (by decide) (by omega) (.inr (by omega))

/-- No entry of the fire FIFO is due at the end of an occurrence: the entry does not log, or its match was logged when its waiting began. -/
def State.logless (s : State) (n : Nat) : Prop := bit (s.eAction n) 4 = false ∨ ((s.armedOf n).any fun a => a.waitAt.isSome) = true

theorem logless_congr {t : State} (hword : t.eAction n = s.eAction n) (harmed : t.armedOf n = s.armedOf n) (h : s.logless n) : t.logless n := by
  unfold State.logless
  rw [hword, harmed]
  exact h

theorem endOccurrence_of_oneShot (final result cause : Nat) (hper : ePeriodic (s.eCtrl n) = false) (hlog : s.logless n) :
    endOccurrence n final result cause s = dropArmed n (setStatus n final result cause (s.eFires n) s) := by
  have hquiet : (bit (s.eAction n) 4 && !(s.armedOf n).any fun a => a.waitAt.isSome) = false := by
    obtain h | h := hlog
    · rw [h, Bool.false_and]
    · rw [h, Bool.not_true, Bool.and_false]
  unfold endOccurrence
  dsimp only
  rw [hquiet, hper]
  rfl

/-- How a one-shot occurrence leaves its entry: with a status, and no longer armed. -/
structure EntryOver (n final result cause fires : Nat) (s t : State) : Prop where
  state : t.entryState n = final
  result : fld (t.entryWord n 7) 4 3 = result
  cause : fld (t.entryWord n 7) 8 4 = cause
  fires : t.eFires n = fires
  unarmed : t.armedOf n = none
  others : ∀ m, m ≠ n → t.armedOf m = s.armedOf m
  fifo : t.pst.fifo = s.pst.fifo
  fired : t.pst.fired = s.pst.fired
  edge : t.pst.edge = s.pst.edge ∧ t.pst.edgeAt = s.pst.edgeAt

/-- The end of an occurrence of a one-shot entry. -/
theorem entryOver_drop {final result cause fires : Nat} (hwf : RegsWf s) (hn : n < 1024) (hfinal : final < 8) (hresult : result < 8) (hcause : cause < 16)
    (hfires : fires < 65536) : EntryOver n final result cause fires s (dropArmed n (setStatus n final result cause fires s)) := by
  have hset : OnlyIn [.regs] s (setStatus n final result cause fires s) := only_setStatus only_refl
  have hdrop : OnlyIn [.pst] (setStatus n final result cause fires s) (dropArmed n (setStatus n final result cause fires s)) := only_dropArmed only_refl
  obtain ⟨h0, h4, h8, h16⟩ := status_setStatus hwf hn hfinal hresult hcause hfires
  have hpst : (setStatus n final result cause fires s).pst = s.pst := hset.2 .pst (by decide)
  refine ⟨?_, ?_, ?_, ?_, armedOf_dropArmed_self n _, fun m hm => ?_, ?_, ?_, ?_⟩
  · rw [State.entryState, entryWord_of_only hdrop]
    exact h0
  · rw [entryWord_of_only hdrop, h4]
  · rw [entryWord_of_only hdrop, h8]
  · rw [State.eFires, entryWord_of_only hdrop]
    exact h16
  · rw [armedOf_dropArmed_ne _ hm, armedOf_of_only hset]
  · rw [← hpst]
    rfl
  · rw [← hpst]
    rfl
  · rw [← hpst]
    exact ⟨rfl, rfl⟩

theorem EntryOver.before {final result cause fires : Nat} {s' t : State} (h : EntryOver n final result cause fires s' t) (harmed : ∀ m, s'.armedOf m = s.armedOf m)
    (hfifo : s'.pst.fifo = s.pst.fifo) (hfired : s'.pst.fired = s.pst.fired) (hedge : s'.pst.edge = s.pst.edge ∧ s'.pst.edgeAt = s.pst.edgeAt) :
    EntryOver n final result cause fires s t :=
  ⟨h.state, h.result, h.cause, h.fires, h.unarmed, fun m hm => (h.others m hm).trans (harmed m), h.fifo.trans hfifo, h.fired.trans hfired,
    h.edge.1.trans hedge.1, h.edge.2.trans hedge.2⟩

/-! ### Fires and skips -/

/-- The entry is noted as fired. -/
def noteFired (n : Nat) (s : State) : State := { s with pst := { s.pst with fired := insNat s.pst.fired n } }

theorem mem_insNat_self (l : List Nat) (n : Nat) : n ∈ insNat l n := by
  induction l with
  | nil => exact List.mem_singleton_self n
  | cons x xs ih =>
    unfold insNat
    split
    · exact List.mem_cons_self
    · split
      next h => exact h ▸ List.mem_cons_self
      · exact List.mem_cons_of_mem _ ih

/-- A fire of an entry without an action. -/
def fireOf (n result : Nat) (s : State) : State :=
  bump Off.PST_FIRE_CNT (setStatus n (s.entryState n) result 0 (min 65535 (s.eFires n + 1)) (noteFired n s))

theorem fireEntry_of_noAction {result : Nat} (hkind : fld (s.eAction n) 0 4 = 0) (h2 : result ≠ 2) (h3 : result ≠ 3) :
    fireEntry n result s = endOccurrence n 3 result 0 (fireOf n result s) := by
  have hperform : performAction n result (noteFired n s) = noteFired n s := by
    unfold performAction
    dsimp only
    rw [show (noteFired n s).eAction n = s.eAction n from rfl, hkind]
    rfl
  unfold fireEntry
  dsimp only
  rw [if_neg (by rw [hkind]; simp), show ({ s with pst := { s.pst with fired := insNat s.pst.fired n } } : State) = noteFired n s from rfl, hperform,
    beq_false_of_ne h2, beq_false_of_ne h3]
  rfl

theorem entryWord_fireOf {result w : Nat} (hw : w < 7) : (fireOf n result s).entryWord n w = s.entryWord n w := by
  rw [fireOf, bump, bumpBy, entryWord_setReg_ne _ _ (by decide), entryWord_setStatus_ne _ hw]
  rfl

theorem armedOf_fireOf {result : Nat} (m : Nat) : (fireOf n result s).armedOf m = s.armedOf m := by
  have hrest : OnlyIn [.regs] (noteFired n s) (fireOf n result s) := only_bump (only_setStatus only_refl)
  exact armedOf_of_only hrest m

theorem wf_fireOf {result : Nat} (hwf : RegsWf s) : RegsWf (fireOf n result s) :=
  wf_bump (wf_setStatus (wf_mk hwf))

/-- A one-shot entry without an action fires (R193). -/
theorem fireEntry_fires {result : Nat} (hwf : RegsWf s) (hn : n < 1024) (hkind : fld (s.eAction n) 0 4 = 0) (hper : ePeriodic (s.eCtrl n) = false)
    (hlog : s.logless n) (hresult : result < 8) (h2 : result ≠ 2) (h3 : result ≠ 3) :
    EntryOver n 3 result 0 (min 65535 (s.eFires n + 1)) (noteFired n s) (fireEntry n result s) ∧
      (fireEntry n result s).reg Off.PST_FIRE_CNT = s.reg Off.PST_FIRE_CNT + 1 ∧
      RegsOnly [Off.PST_ENTRY_W7 + 32 * n, Off.PST_FIRE_CNT] s (fireEntry n result s) ∧ OnlyIn [.regs, .pst] s (fireEntry n result s) := by
  have h0 : Off.PST_ENTRY_W0 = 0x48000 := rfl
  have hcnt : Off.PST_FIRE_CNT = 0x40300 := rfl
  have hnote : OnlyIn [.pst] s (noteFired n s) := only_mk only_refl
  have hfire : OnlyIn [.regs] (noteFired n s) (fireOf n result s) := only_bump (only_setStatus only_refl)
  have hpst : (fireOf n result s).pst = (noteFired n s).pst := hfire.2 .pst (by decide)
  have hfires : (fireOf n result s).eFires n = min 65535 (s.eFires n + 1) := by
    obtain ⟨_, _, _, h⟩ := status_setStatus (state := s.entryState n) (result := result) (cause := 0) (fires := min 65535 (s.eFires n + 1))
      (wf_of_only hwf hnote) hn (Nat.mod_lt _ (by decide)) hresult (by decide) (by omega)
    rw [State.eFires, fireOf, bump, bumpBy, entryWord_setReg_ne _ _ (by decide)]
    exact h
  have hend : fireEntry n result s = dropArmed n (setStatus n 3 result 0 (min 65535 (s.eFires n + 1)) (fireOf n result s)) := by
    rw [fireEntry_of_noAction hkind h2 h3, endOccurrence_of_oneShot, hfires]
    · rw [State.eCtrl, entryWord_fireOf (by decide)]
      exact hper
    · exact logless_congr (entryWord_fireOf (by decide)) (armedOf_fireOf n) hlog
  have hover := entryOver_drop (final := 3) (cause := 0) (fires := min 65535 (s.eFires n + 1)) (wf_fireOf (n := n) (result := result) hwf) hn (by decide) hresult
    (by decide) (by omega)
  have hdrop : OnlyIn [.pst] (setStatus n 3 result 0 (min 65535 (s.eFires n + 1)) (fireOf n result s)) (fireEntry n result s) := by
    rw [hend]
    exact only_dropArmed only_refl
  rw [← hend] at hover
  refine ⟨hover.before (fun m => armedOf_fireOf m) (by rw [hpst]) (by rw [hpst]) ⟨by rw [hpst], by rw [hpst]⟩, ?_, ?_, ?_⟩
  · rw [reg_of_only _ hdrop, setStatus, setEntry, reg_setReg_ne _ _ _ _ (by omega), fireOf, reg_bump_unmasked _ _ (wf_setStatus (wf_of_only hwf hnote)) (by decide),
      setStatus, setEntry, reg_setReg_ne _ _ _ _ (by omega), reg_of_only _ hnote]
  · refine regs_of_only (regs_setStatus ?_ hn (by simp)) hdrop
    exact regs_bump (regs_setStatus (regs_of_only regs_refl hnote) hn (by simp)) (List.mem_cons_of_mem _ List.mem_cons_self)
  · rw [hend]
    exact only_dropArmed (only_setStatus (only_bump (only_setStatus (only_mk only_refl))))

/-- A one-shot entry's occurrence is skipped (R191). -/
theorem skipOccurrence_skips {cause : Nat} (hwf : RegsWf s) (hn : n < 1024) (hper : ePeriodic (s.eCtrl n) = false) (hlog : s.logless n) (hcause : cause < 16) :
    EntryOver n 4 7 cause (s.eFires n) s (skipOccurrence n cause s) ∧ (skipOccurrence n cause s).reg Off.PST_SKIPPED_CNT = s.reg Off.PST_SKIPPED_CNT + 1 ∧
      Raised Irq.PST_SKIPPED (skipOccurrence n cause s) ∧ RegsOnly [Off.PST_ENTRY_W7 + 32 * n, Off.PST_SKIPPED_CNT] s (skipOccurrence n cause s) ∧
      OnlyIn [.regs, .pst, .icus] s (skipOccurrence n cause s) := by
  have h0 : Off.PST_ENTRY_W0 = 0x48000 := rfl
  have hcnt : Off.PST_SKIPPED_CNT = 0x40308 := rfl
  set u := raiseIrq Irq.PST_SKIPPED (bump Off.PST_SKIPPED_CNT s) with hu
  have hcount : OnlyIn [.regs, .icus] s u := only_raiseIrq (only_bump only_refl)
  have hwfu : RegsWf u := wf_raiseIrq (wf_bump hwf)
  have hpst : u.pst = s.pst := hcount.2 .pst (by decide)
  have hword : ∀ w, u.entryWord n w = s.entryWord n w := fun w => by
    rw [hu, State.entryWord, raiseIrq_reg]
    exact entryWord_setReg_ne _ s (by decide)
  have hfires : u.eFires n = s.eFires n := congrArg (fun w => fld w 16 16) (hword 7)
  have hend : skipOccurrence n cause s = dropArmed n (setStatus n 4 7 cause (s.eFires n) u) := by
    have hskip : skipOccurrence n cause s = endOccurrence n 4 7 cause u := rfl
    rw [hskip, endOccurrence_of_oneShot, hfires]
    · rw [State.eCtrl, hword]
      exact hper
    · exact logless_congr (hword 6) (armedOf_of_only hcount n) hlog
  have hover := entryOver_drop (final := 4) (result := 7) (fires := s.eFires n) hwfu hn (by decide) (by decide) hcause (eFires_lt s n)
  have hdrop : OnlyIn [.pst] (setStatus n 4 7 cause (s.eFires n) u) (skipOccurrence n cause s) := by
    rw [hend]
    exact only_dropArmed only_refl
  have hset : OnlyIn [.regs] u (setStatus n 4 7 cause (s.eFires n) u) := only_setStatus only_refl
  rw [← hend] at hover
  refine ⟨hover.before (fun m => armedOf_of_only hcount m) (by rw [hpst]) (by rw [hpst]) ⟨by rw [hpst], by rw [hpst]⟩, ?_,
    raised_of_only (raised_of_only (raised_raiseIrq _ _ (by decide)) hset) hdrop, ?_, ?_⟩
  · rw [reg_of_only _ hdrop, setStatus, setEntry, reg_setReg_ne _ _ _ _ (by omega), hu, raiseIrq_reg, reg_bump_unmasked _ _ hwf (by decide)]
  · exact regs_of_only (regs_setStatus (regs_raiseIrq (regs_bump regs_refl (List.mem_cons_of_mem _ List.mem_cons_self))) hn (by simp)) hdrop
  · rw [hend]
    exact only_dropArmed (only_setStatus (only_raiseIrq (only_bump only_refl)))

end

/-! ### Waiting entries (R191) -/

theorem exists_next_guardWaitFire (s : State) (n : Nat) (x : Armed) (hwf : RegsWf s) (hcomparing : s.comparing = true) (hfree : s.edgeFree = true) (hn : n < 1024)
    (harmed : s.armedOf n = some x) (hwait : x.waitAt.isSome = true) (hslow : x.slow = true) (hfast : s.fastOk n = true) (hper : ePeriodic (s.eCtrl n) = false)
    (hkind : fld (s.eAction n) 0 4 = 0) :
    ∃ t, exec (.guardWaitFire n) s = .next t ∧ t.entryState n = 3 ∧ fld (t.entryWord n 7) 4 3 = 5 ∧
      t.eFires n = min 65535 (s.eFires n + 1) ∧ t.armedOf n = none ∧ (∀ m, m ≠ n → t.armedOf m = s.armedOf m) ∧ t.pst.fifo = s.pst.fifo ∧
      t.reg Off.PST_FIRE_CNT = s.reg Off.PST_FIRE_CNT + 1 ∧ RegsOnly [Off.PST_ENTRY_W7 + 32 * n, Off.PST_FIRE_CNT] s t ∧
      OnlyIn [.regs, .pst] s t := by
  obtain ⟨hover, hcount, hregs, honly⟩ := fireEntry_fires (result := 5) hwf hn hkind hper (.inr (by rw [harmed]; exact hwait)) (by decide) (by decide) (by decide)
  have hwaits : ((s.armedOf n).any fun y => y.waitAt.isSome && y.slow && s.fastOk n) = true := by
    rw [harmed, hfast]
    simp [hwait, hslow]
  have hfree' : (fireEntry n 5 s).edgeFree = true := edgeFree_congr hover.edge.1 hover.edge.2 (Nat.le_of_eq (honly.2 .now (by decide)).symm) hfree
  have hfire : settleEdge (waitFire n s) = fireEntry n 5 s := by
    rw [waitFire, hwaits, when_true, settleEdge_of_edgeFree hfree']
  exact ⟨_, congrArg Host.Outcome.next ((if_pos hcomparing).trans hfire), hover.state, hover.result, hover.fires, hover.unarmed, hover.others, hover.fifo, hcount, hregs, honly⟩

theorem exists_next_waitLimitExpiry (s : State) (n at_ : Nat) (x : Armed) (hwf : RegsWf s) (hcomparing : s.comparing = true) (hn : n < 1024)
    (harmed : s.armedOf n = some x) (hwait : x.waitAt = some at_) (hper : ePeriodic (s.eCtrl n) = false) :
    ∃ t, exec (.waitLimitExpiry n) s = .next t ∧ at_ + 1000000 * max 1 (fld (s.reg Off.PST_CFG) 0 16) ≤ t.now ∧ t.entryState n = 4 ∧
      fld (t.entryWord n 7) 4 3 = 7 ∧ fld (t.entryWord n 7) 8 4 = 8 ∧ t.armedOf n = none ∧ (∀ m, m ≠ n → t.armedOf m = s.armedOf m) ∧
      t.reg Off.PST_SKIPPED_CNT = s.reg Off.PST_SKIPPED_CNT + 1 ∧ Raised Irq.PST_SKIPPED t ∧ t.pst.fifo = s.pst.fifo ∧
      RegsOnly [Off.PST_ENTRY_W7 + 32 * n, Off.PST_SKIPPED_CNT] s t ∧ OnlyIn [.now, .time, .nv, .isl, .regs, .pst, .icus] s t := by
  have hwaiting : s.waiting n = true := by
    unfold State.waiting
    rw [harmed]
    exact congrArg Option.isSome hwait
  set u := advanceTo (at_ + 1000000 * max 1 (fld (s.reg Off.PST_CFG) 0 16)) s with hu
  have hexec : exec (.waitLimitExpiry n) s = .next (skipOccurrence n 8 u) := by
    have hop : exec (.waitLimitExpiry n) s = .next (when (s.comparing && s.waiting n) (fun s => skipOccurrence n 8 (advanceTo ((match s.armedOf n with
        | some a => a.waitAt.getD s.now
        | none => s.now) + 1000000 * max 1 (fld (s.reg Off.PST_CFG) 0 16)) s)) s) := rfl
    rw [hop, hcomparing, hwaiting, Bool.and_self, when_true, harmed]
    dsimp only
    rw [hwait, Option.getD_some]
  have hadv : OnlyIn [.now, .isl, .nv, .time] s u := only_advanceTo only_refl
  have hpst : u.pst = s.pst := hadv.2 .pst (by decide)
  have hword : ∀ w, u.entryWord n w = s.entryWord n w := fun w => entryWord_of_only hadv n w
  have harmedu : ∀ m, u.armedOf m = s.armedOf m := fun m => armedOf_of_only hadv m
  obtain ⟨hover, hcount, hraised, hregs, honly⟩ := skipOccurrence_skips (s := u) (n := n) (cause := 8) (wf_of_only hwf hadv) hn
    (by rw [State.eCtrl, hword]; exact hper) (.inr (by rw [harmedu, harmed]; exact congrArg Option.isSome hwait)) (by decide)
  have hnow : (skipOccurrence n 8 u).now = u.now := honly.2 .now (by decide)
  refine ⟨_, hexec, ?_, hover.state, hover.result, hover.cause, hover.unarmed, fun m hm => (hover.others m hm).trans (harmedu m), ?_, hraised, ?_,
    regsOnly_trans (regs_of_only regs_refl hadv) hregs, onlyIn_trans (onlyIn_mono hadv (by decide)) (onlyIn_mono honly (by decide))⟩
  · rw [hnow, hu, now_advanceTo]
    exact Nat.le_max_right _ _
  · rw [hcount, reg_of_only _ hadv]
  · rw [hover.fifo, hpst]

end Sys2Proof.Machine

namespace Sys2Proof.Machine

set_option Elab.async false

/-! ### A base over a span of module time (R118, R180) -/

theorem med3_add (x y z d : Nat) : med3 (x + d) (y + d) (z + d) = med3 x y z + d := by
  unfold med3
  omega

theorem time_adv (dt : Nat) (strobe : Bool) (x : Base) : (x.adv dt strobe).time = x.time + dt * x.rate := by
  have hmed : ∀ y : Nat, med3 y y y = y := fun y => by
    unfold med3
    omega
  unfold Base.adv Base.time
  dsimp only
  cases strobe
  · exact med3_add _ _ _ _
  · rw [if_pos rfl, hmed]

/-- How far a base gets in a span depends on its rate alone. -/
theorem time_base_advance (dt d : Nat) (s : State) : ((advance dt s).base d).time = (s.base d).time + dt * (s.base d).rate := by
  have hbase : (advance dt s).base d = (s.base d).adv dt (decide (s.now / 1000 < (s.now + dt) / 1000)) := by
    match d with
    | 0 => rfl
    | 1 => rfl
    | 2 => rfl
    | _ + 3 => rfl
  rw [hbase, time_adv]

theorem servoState_base_advance (dt d : Nat) (s : State) : (advance dt s).servoState ((advance dt s).base d) = s.servoState (s.base d) := by
  have hservos : ((advance dt s).base d).servos = (s.base d).servos := by
    have hadv : ∀ (strobe : Bool) (x : Base), (x.adv dt strobe).servos = x.servos := fun strobe x => by cases strobe <;> rfl
    match d with
    | 0 => exact hadv _ _
    | 1 => exact hadv _ _
    | 2 => exact hadv _ _
    | _ + 3 => exact hadv _ _
  unfold State.servoState
  rw [hservos]
  rfl

/-- The seconds of a trigger, extended against two readings of a base that the trigger does not lie far behind, are the same. -/
theorem extended_seconds (w : Word) (c c' : Nat) (hle : c ≤ c') (hnear : (c' : Int) ≤ c + (w - BitVec.ofInt 32 c).toInt + 5) :
    (c' : Int) + (w - BitVec.ofInt 32 c').toInt = c + (w - BitVec.ofInt 32 c).toInt := by
  have hdiff : ∀ x : Int, (w - BitVec.ofInt 32 x).toInt = (w.toInt - x).bmod 4294967296 := fun x => by
    rw [BitVec.toInt_sub, BitVec.toInt_ofInt]
    simp
  rw [hdiff] at hnear ⊢
  rw [hdiff]
  generalize w.toInt = v at *
  unfold Int.bmod at *
  push_cast at *
  split at hnear <;> split <;> omega

section
variable {s : State} {n : Nat}

/-- Time to the match of a TB entry: to the first slice edge at or after its trigger. -/
def tbDelay (s : State) (n : Nat) : Nat :=
  let x := s.base (eDom (s.eCtrl n))
  let need := (s.tbTrig n * (nsUnit : Int) - x.time).toNat
  (s.now + (need + x.rate - 1) / x.rate + 3) / 4 * 4 - s.now

theorem tbDelay_bounds (hrate : 0 < (s.base (eDom (s.eCtrl n))).rate) (hfast : (s.base (eDom (s.eCtrl n))).rate < 2 * nsUnit)
    (hahead : ((s.base (eDom (s.eCtrl n))).ns : Int) ≤ s.tbTrig n) :
    (s.now + tbDelay s n) % 4 = 0 ∧
      s.tbTrig n * nsUnit ≤ (((s.base (eDom (s.eCtrl n))).time + tbDelay s n * (s.base (eDom (s.eCtrl n))).rate : Nat) : Int) ∧
      (((s.base (eDom (s.eCtrl n))).time + tbDelay s n * (s.base (eDom (s.eCtrl n))).rate : Nat) : Int) < (s.tbTrig n + 10) * nsUnit := by
  unfold tbDelay Base.ns at *
  dsimp only
  generalize (s.base (eDom (s.eCtrl n))).rate = rate at *
  generalize (s.base (eDom (s.eCtrl n))).time = time at *
  generalize s.tbTrig n = trig at *
  unfold nsUnit at *
  have hneed : trig * 281474976710656 - time ≤ ((trig * ((281474976710656 : Nat) : Int) - time).toNat : Int) ∧
      ((trig * ((281474976710656 : Nat) : Int) - time).toNat : Int) ≤ max (trig * 281474976710656 - time) 0 := by omega
  generalize (trig * ((281474976710656 : Nat) : Int) - time).toNat = need at *
  set k := (need + rate - 1) / rate with hk
  have hlo : need ≤ k * rate := by
    have h := Nat.lt_mul_div_succ (need + rate - 1) hrate
    rw [← hk, Nat.mul_comm, Nat.succ_mul] at h
    omega
  have hhi : k * rate ≤ need + rate - 1 := Nat.div_mul_le_self _ _
  generalize k = k at *
  obtain ⟨e, he, hdt⟩ : ∃ e, e ≤ 3 ∧ (s.now + k + 3) / 4 * 4 - s.now = k + e := ⟨(s.now + k + 3) / 4 * 4 - s.now - k, by omega, by omega⟩
  have hmul : (k + e) * rate ≤ k * rate + 3 * rate ∧ k * rate ≤ (k + e) * rate :=
    ⟨by rw [Nat.add_mul]; exact Nat.add_le_add_left (Nat.mul_le_mul_right _ he) _, Nat.mul_le_mul_right _ (Nat.le_add_right _ _)⟩
  refine ⟨by omega, ?_, ?_⟩
  · rw [hdt]
    generalize (k + e) * rate = r at *
    generalize k * rate = r' at *
    push_cast
    omega
  · rw [hdt]
    generalize (k + e) * rate = r at *
    generalize k * rate = r' at *
    push_cast
    omega

/-- The trigger of a TB entry stays the same to its match. -/
theorem tbTrig_advance (hrate : 0 < (s.base (eDom (s.eCtrl n))).rate) (hfast : (s.base (eDom (s.eCtrl n))).rate < 2 * nsUnit)
    (hahead : ((s.base (eDom (s.eCtrl n))).ns : Int) ≤ s.tbTrig n) : (advance (tbDelay s n) s).tbTrig n = s.tbTrig n := by
  obtain ⟨_, _, hhi⟩ := tbDelay_bounds hrate hfast hahead
  rw [← time_base_advance] at hhi
  have hle : (s.base (eDom (s.eCtrl n))).time ≤ ((advance (tbDelay s n) s).base (eDom (s.eCtrl n))).time := by
    rw [time_base_advance]
    exact Nat.le_add_right _ _
  have hw : ∀ w, (advance (tbDelay s n) s).entryWord n w = s.entryWord n w := fun w => entryWord_of_only (only_advance (P := [.now, .isl, .nv, .time]) only_refl) n w
  have hctrl : (advance (tbDelay s n) s).eCtrl n = s.eCtrl n := hw 0
  have hns : (s.entryWord n 1).toNat < 4294967296 := (s.entryWord n 1).isLt
  have hsec := extended_seconds (s.entryWord n 2) ((s.base (eDom (s.eCtrl n))).ns / 1000000000)
    (((advance (tbDelay s n) s).base (eDom (s.eCtrl n))).ns / 1000000000) (by unfold Base.ns nsUnit; omega) (by
      unfold State.tbTrig Base.ns nsUnit at *
      dsimp only at *
      push_cast at *
      omega)
  unfold State.tbTrig
  dsimp only
  rw [hctrl, hw, hw, hsec]

end

end Sys2Proof.Machine

namespace Sys2Proof.Machine

set_option Elab.async false

/-! ### Guards and QUAL of an entry (R188, R191) -/

section
variable {s t : State} {n : Nat}

theorem bit_of_fld_zero {w : Word} {lo len i : Nat} (h : fld w lo len = 0) (hlo : lo ≤ i) (hhi : i < lo + len) : bit w i = false := by
  have hzero : w.extractLsb' lo len = 0#len := BitVec.eq_of_toNat_eq (by rw [← fld_eq_extract, h]; simp)
  have hbit : (w.extractLsb' lo len).getLsbD (i - lo) = false := by
    rw [hzero]
    simp
  rw [BitVec.getLsbD_extractLsb', decide_eq_true (by omega), Bool.true_and, Nat.add_sub_cancel' hlo] at hbit
  exact hbit

/-- A guard of type NONE that is not inverted holds. -/
theorem guardOk_of_none {g : Word} (h : fld g 0 4 = 0) : s.guardOk g = true := by
  unfold State.guardOk
  dsimp only
  rw [fld_of_wider (n := 3) h (by decide) (by decide), bit_of_fld_zero h (i := 3) (by decide) (by decide)]
  rfl

/-- What the guards look at is the same in two states. -/
structure SameView (s t : State) : Prop where
  windows : ∀ k, 0x40100 ≤ k → k < 0x40300 → t.reg k = s.reg k
  armed : ∀ m, (t.armedOf m).isSome = (s.armedOf m).isSome
  fired : t.pst.fired = s.pst.fired
  inputs : t.dio = s.dio
  estimate : t.odo = s.odo
  time : t.tb0 = s.tb0

theorem SameView.guardOk (h : SameView s t) (g : Word) : t.guardOk g = s.guardOk g := by
  have hvel : t.velNow = s.velNow := by
    unfold State.velNow State.velAt
    rw [h.estimate, h.time]
  have hpos : t.posNow = s.posNow := by
    unfold State.posNow State.posAt
    rw [h.estimate, h.time]
  have hmin : ∀ w, t.reg (Off.PST_WIN_MIN_LO + 16 * (w % 32)) = s.reg (Off.PST_WIN_MIN_LO + 16 * (w % 32)) :=
    fun w => h.windows _ (Nat.le_add_right _ _) (by have h0 : Off.PST_WIN_MIN_LO = 0x40100 := rfl; omega)
  have hmax : ∀ w, t.reg (Off.PST_WIN_MAX_LO + 16 * (w % 32)) = s.reg (Off.PST_WIN_MAX_LO + 16 * (w % 32)) :=
    fun w => h.windows _ (by have h0 : Off.PST_WIN_MAX_LO = 0x40108 := rfl; omega) (by have h0 : Off.PST_WIN_MAX_LO = 0x40108 := rfl; omega)
  have hwindow : ∀ w, t.window (w % 32) = s.window (w % 32) := fun w => by
    have hminHi : t.reg (Off.PST_WIN_MIN_HI + 16 * (w % 32)) = s.reg (Off.PST_WIN_MIN_HI + 16 * (w % 32)) :=
      h.windows _ (by have h0 : Off.PST_WIN_MIN_HI = 0x40104 := rfl; omega) (by have h0 : Off.PST_WIN_MIN_HI = 0x40104 := rfl; omega)
    have hmaxHi : t.reg (Off.PST_WIN_MAX_HI + 16 * (w % 32)) = s.reg (Off.PST_WIN_MAX_HI + 16 * (w % 32)) :=
      h.windows _ (by have h0 : Off.PST_WIN_MAX_HI = 0x4010C := rfl; omega) (by have h0 : Off.PST_WIN_MAX_HI = 0x4010C := rfl; omega)
    unfold State.window
    dsimp only
    rw [hminHi, hmaxHi, hmin, hmax]
  unfold State.guardOk
  dsimp only
  rw [h.fired, h.armed, h.inputs, h.estimate, hvel, hpos, hmin, hmax, hwindow]

theorem qualOk_of_present (hd : 4 ≤ eDom (s.eCtrl n)) (h : SameView s t) (hctrl : t.eCtrl n = s.eCtrl n) : t.qualOk n = s.qualOk n := by
  unfold State.qualOk
  dsimp only
  rw [hctrl, if_neg (Nat.not_lt.mpr hd), if_neg (Nat.not_lt.mpr hd), h.estimate]

theorem condFail_of_present (hd : 4 ≤ eDom (s.eCtrl n)) (h : SameView s t) (hwords : ∀ w, w < 7 → t.entryWord n w = s.entryWord n w) :
    t.condFail n = s.condFail n := by
  unfold State.condFail
  rw [qualOk_of_present hd h (hwords 0 (by decide)), h.guardOk, h.guardOk, hwords 4 (by decide), hwords 5 (by decide)]

theorem slowOk_of_present (hd : 4 ≤ eDom (s.eCtrl n)) (h : SameView s t) (hwords : ∀ w, w < 7 → t.entryWord n w = s.entryWord n w) : t.slowOk n = s.slowOk n := by
  unfold State.slowOk
  simp only [List.all_cons, List.all_nil]
  rw [qualOk_of_present hd h (hwords 0 (by decide)), h.guardOk, h.guardOk, hwords 4 (by decide), hwords 5 (by decide)]

/-- Without a condition on either guard, QUAL decides. -/
theorem condFail_of_no_guard (hqual : s.qualOk n = true) (h4 : fld (s.entryWord n 4) 0 4 = 0) (h5 : fld (s.entryWord n 5) 0 4 = 0) : s.condFail n = 0 := by
  unfold State.condFail
  rw [hqual, guardOk_of_none h4, guardOk_of_none h5]
  rfl

theorem condFail_lt (s : State) (n : Nat) : s.condFail n < 16 := by
  unfold State.condFail
  split
  · decide
  · split <;> decide

/-! ### The match of one entry (R179, R191) -/

theorem advance_zero (s : State) : advance 0 s = { s with nv := (advance 0 s).nv, isl := (advance 0 s).isl } := by
  have hadv : ∀ x : Base, x.adv 0 false = x := fun x => by simp [Base.adv]
  have hstrobe : decide (s.now / 1000 < (s.now + 0) / 1000) = false := decide_eq_false (Nat.lt_irrefl _)
  have htime : (advance 0 s).time = s.time := by
    unfold advance
    dsimp only
    rw [hstrobe, hadv, hadv, hadv, hadv]
  have hsame : advance 0 s = { s with now := (advance 0 s).now, time := (advance 0 s).time, nv := (advance 0 s).nv, isl := (advance 0 s).isl } := rfl
  rw [htime] at hsame
  exact hsame

theorem index_of_armedOf {x : Armed} (h : s.armedOf n = some x) : x.index = n := by simpa using List.find?_some h

theorem exec_pisteMatch {x : Armed} {sl : BitVec 3} {dt : Nat} (hcomparing : s.comparing = true) (hreports : 2 ≤ s.reports sl) (hcomp : s.comparers = [n])
    (harmed : s.armedOf n = some x) (hdt : s.matchIn x = some dt) (hmatch : (advance dt s).matchesNow n = true) :
    exec (.pisteMatch n sl) s = .next (settleEdge (matchEntry n (advance dt s))) := by
  have hop : exec (.pisteMatch n sl) s = .next (when (s.comparing && decide (2 ≤ s.reports sl) && s.comparers.contains n) (fun s =>
      match (s.armedOf n).bind s.matchIn with
      | some dt =>
        let s1 := advance dt s
        settleEdge ((s1.comparers.filter s1.matchesNow).foldl (fun s n => matchEntry n s) s1)
      | none => s) s) := rfl
  have hcomp' : (advance dt s).comparers = [n] := hcomp
  rw [hop, hcomparing, decide_eq_true hreports, hcomp, Bool.and_self, show ([n] : List Nat).contains n = true by simp, Bool.and_self, when_true, harmed, Option.bind_some, hdt]
  dsimp only
  rw [hcomp', List.filter_cons_of_pos hmatch, List.filter_nil]
  rfl

/-- The state in which an occurrence is judged: the entry has been compared, and stamped with the time of its match. -/
def atMatch (n : Nat) (s : State) : State := setReg (Off.PST_STAMP + 4 * n) (ctime (compared n s).tb0) (compared n s)

theorem only_atMatch {P : List Part} {b : State} (h : OnlyIn P b s) (hP : ∀ p ∈ [Part.regs, .pst], p ∈ P := by decide) : OnlyIn P b (atMatch n s) :=
  only_via h hP fun _ h => only_setReg (only_setArmed h)

/-- How a one-shot occurrence goes on once it is judged. -/
def judged (n : Nat) (m : State) : State :=
  if m.condFail n = 0 then fireEntry n 1 m
  else if bit (m.eCtrl n) 8 then
    m |> setArmed n (fun x => { x with waitAt := some m.now, slow := m.slowOk n }) |> setStatus n 2 0 (fld (m.entryWord n 7) 8 4) (m.eFires n)
      |> when (bit (m.eAction n) 4) (pushFire n 0)
  else skipOccurrence n (m.condFail n) m

theorem armedOf_compared {x : Armed} (h : s.armedOf n = some x) :
    (compared n s).armedOf n = some { x with reached := s.posReached n (s.qNow (eAdvance (s.eCtrl n))), phase := s.phiAt n s.tb0 } := by
  have hmap := armedOf_setArmed_self (n := n) (fun y => { y with reached := s.posReached n (s.qNow (eAdvance (s.eCtrl n))), phase := s.phiAt n s.tb0 }) s fun _ => rfl
  rw [h] at hmap
  exact hmap

theorem entryWord_atMatch {w : Nat} (hn : n < 1024) : (atMatch n s).entryWord n w = s.entryWord n w := by
  have hcmp : OnlyIn [.pst] s (compared n s) := only_setArmed only_refl
  have h1 : Off.PST_STAMP = 0x44000 := rfl
  have h0 : Off.PST_ENTRY_W0 = 0x48000 := rfl
  rw [atMatch, entryWord_setReg_ne _ _ (by omega), entryWord_of_only hcmp]

theorem regs_atMatch (hn : n < 1024) : RegsOnly [Off.PST_STAMP + 4 * n] s (atMatch n s) := by
  have hkey : (Off.PST_STAMP + 4 * n) % 16777216 = Off.PST_STAMP + 4 * n := by
    have h1 : Off.PST_STAMP = 0x44000 := rfl
    omega
  exact regs_setReg (regs_of_only (P := [.pst]) regs_refl (only_setArmed only_refl)) (by rw [hkey]; exact List.mem_singleton_self _)

theorem armedOf_atMatch (m : Nat) : (atMatch n s).armedOf m = (compared n s).armedOf m := armedOf_of_only (P := [.regs]) (only_setReg only_refl) m

theorem armedOf_atMatch_ne {m : Nat} (h : m ≠ n) : (atMatch n s).armedOf m = s.armedOf m := by
  rw [armedOf_atMatch]
  exact armedOf_setArmed_ne _ s (fun _ => rfl) h

theorem pst_atMatch : (atMatch n s).pst = (compared n s).pst := (only_setReg (P := [.regs]) only_refl).2 .pst (by decide)

theorem sameView_atMatch {x : Armed} (hn : n < 1024) (harmed : s.armedOf n = some x) : SameView s (atMatch n s) := by
  have honly : OnlyIn [.regs, .pst] s (atMatch n s) := only_atMatch only_refl
  have hpst : (atMatch n s).pst = (compared n s).pst := pst_atMatch
  refine ⟨fun k hlo hhi => regs_atMatch hn k ?_, fun m => ?_, by rw [hpst]; rfl, honly.2 .dio (by decide), honly.2 .odo (by decide), ?_⟩
  · have h1 : Off.PST_STAMP = 0x44000 := rfl
    rw [List.mem_singleton]
    omega
  · by_cases hm : m = n
    · rw [hm, armedOf_atMatch, armedOf_compared harmed, harmed]
      rfl
    · rw [armedOf_atMatch_ne hm]
  · exact congrArg (fun x : Time => x.tb0.ns) (honly.2 .time (by decide))

theorem occurrence_of_oneShot {x : Armed} (hn : n < 1024) (harmed : s.armedOf n = some x) (hwait : x.waitAt = none) (hper : ePeriodic (s.eCtrl n) = false) :
    occurrence n 1 false (compared n s) = judged n (atMatch n s) := by
  have hdrop : dropWaiting n (compared n s) = compared n s := by
    unfold dropWaiting
    rw [armedOf_compared harmed]
    dsimp only
    rw [hwait]
    rfl
  have hctrl : ePeriodic ((atMatch n s).eCtrl n) = false := by
    rw [State.eCtrl, entryWord_atMatch hn]
    exact hper
  unfold occurrence
  dsimp only
  rw [hdrop, ← atMatch, hctrl]
  rfl

/-! ### Entries that come to their triggers (R180, R202, R207) -/

theorem crossed_of_phase {x : Armed} (hx : x.index = n) (hdom : eDom (s.eCtrl n) = 5) (hdsp : s.sys.dspFault = false)
    (hpass : passes (s.entryWord n 1) x.phase (s.phiAt n s.tb0) = true) : s.crossed x 0 = true := by
  have htime : s.tb0In 0 = s.tb0 := by
    unfold State.tb0In State.tb0 Base.ns
    rw [Nat.zero_mul, Nat.add_zero]
  unfold State.crossed
  dsimp only
  rw [hx, hdom, htime]
  rw [hdsp, hpass]
  rfl

theorem crossed_of_position {x : Armed} (hx : x.index = n) (hdom : eDom (s.eCtrl n) = 4) (hdsp : s.sys.dspFault = false) (hcls : eQual (s.eCtrl n) ≤ s.odo.cls)
    (hfresh : x.reached = false) (hreached : s.posReached n (s.qNow (eAdvance (s.eCtrl n))) = true) : s.crossed x 0 = true := by
  have htime : s.tb0In 0 = s.tb0 := by
    unfold State.tb0In State.tb0 Base.ns
    rw [Nat.zero_mul, Nat.add_zero]
  have hbelow : s.belowQual n = false := by
    unfold State.belowQual
    rw [hdsp, decide_eq_false (by omega), Bool.or_self, Bool.and_false]
  unfold State.crossed
  dsimp only
  rw [hx, hdom, htime]
  rw [hfresh, hbelow, Bool.not_false, Bool.true_and, Bool.true_and]
  exact hreached

theorem matchIn_of_crossed {x : Armed} (hx : x.index = n) (hedge : s.now % 4 = 0) (hd : 4 ≤ eDom (s.eCtrl n)) (hcross : s.crossed x 0 = true) : s.matchIn x = some 0 := by
  have hoff : (s.now + 3) / 4 * 4 - s.now = 0 := by omega
  have hleft : ∀ m, s.edgesLeft m = (m + 10000 - s.tb0) / 4 + 1 := fun _ => rfl
  unfold State.matchIn
  dsimp only
  rw [hx, if_neg (by omega), hoff, hleft, firstEdge, if_pos hcross]

theorem matchesNow_present {x : Armed} (hcomp : s.comparers = [n]) (harmed : s.armedOf n = some x) (hd : 4 ≤ eDom (s.eCtrl n)) (hcross : s.crossed x 0 = true) :
    (advance 0 s).matchesNow n = true := by
  rw [advance_zero]
  have hcomp' : ({ s with nv := (advance 0 s).nv, isl := (advance 0 s).isl } : State).comparers = [n] := hcomp
  have harmed' : ({ s with nv := (advance 0 s).nv, isl := (advance 0 s).isl } : State).armedOf n = some x := harmed
  have hd' : ¬eDom (({ s with nv := (advance 0 s).nv, isl := (advance 0 s).isl } : State).eCtrl n) < 4 := Nat.not_lt.mpr hd
  unfold State.matchesNow
  rw [hcomp', harmed', Option.any_some, if_neg hd']
  have hin : ([n] : List Nat).contains n = true := by simp
  rw [hin, Bool.true_and]
  exact hcross

/-- An entry on POSITION or PHASE at its trigger matches at the present edge. -/
theorem exec_match_present {x : Armed} {sl : BitVec 3} (hcomparing : s.comparing = true) (hreports : 2 ≤ s.reports sl) (hcomp : s.comparers = [n])
    (harmed : s.armedOf n = some x) (htrigger : s.comesToTrigger n x) (hd : 4 ≤ eDom (s.eCtrl n)) :
    exec (.pisteMatch n sl) s = .next (settleEdge (matchEntry n (advance 0 s))) ∧ (advance 0 s).matchesNow n = true ∧
      (eDom (s.eCtrl n) = 5 → passes (s.entryWord n 1) x.phase (s.phiAt n s.tb0) = true) := by
  have hx : x.index = n := index_of_armedOf harmed
  obtain ⟨hlt, _⟩ | ⟨hedge, hdsp, htrig⟩ := htrigger
  · omega
  · obtain ⟨hdom, hcls, hfresh, hreached⟩ | ⟨hdom, hpass⟩ := htrig
    · have hcross := crossed_of_position hx hdom hdsp hcls hfresh hreached
      have hmatch := matchesNow_present hcomp harmed hd hcross
      exact ⟨exec_pisteMatch hcomparing hreports hcomp harmed (matchIn_of_crossed hx hedge hd hcross) hmatch, hmatch, fun h => by omega⟩
    · have hcross := crossed_of_phase hx hdom hdsp hpass
      have hmatch := matchesNow_present hcomp harmed hd hcross
      exact ⟨exec_pisteMatch hcomparing hreports hcomp harmed (matchIn_of_crossed hx hedge hd hcross) hmatch, hmatch, fun _ => hpass⟩

theorem le_ns_of_time {x : Base} {q : Int} (h : q * nsUnit ≤ x.time) : q ≤ x.ns := by
  unfold Base.ns
  rw [Int.natCast_ediv]
  exact Int.le_ediv_of_mul_le (by decide) h

/-- A TB entry matches at the first edge at or after its trigger. -/
theorem exec_match_tb {x : Armed} {sl : BitVec 3} (hcomparing : s.comparing = true) (hreports : 2 ≤ s.reports sl) (hcomp : s.comparers = [n])
    (harmed : s.armedOf n = some x) (hd : eDom (s.eCtrl n) < 4) (hrate : 0 < (s.base (eDom (s.eCtrl n))).rate) (hfast : (s.base (eDom (s.eCtrl n))).rate < 2 * nsUnit)
    (hahead : ((s.base (eDom (s.eCtrl n))).ns : Int) ≤ s.tbTrig n) :
    exec (.pisteMatch n sl) s = .next (settleEdge (matchEntry n (advance (tbDelay s n) s))) ∧ (advance (tbDelay s n) s).matchesNow n = true := by
  have hx : x.index = n := index_of_armedOf harmed
  have hdt : s.matchIn x = some (tbDelay s n) := by
    unfold State.matchIn
    dsimp only
    rw [hx, if_pos hd]
    rfl
  suffices hmatch : (advance (tbDelay s n) s).matchesNow n = true from ⟨exec_pisteMatch hcomparing hreports hcomp harmed hdt hmatch, hmatch⟩
  have hcomp' : (advance (tbDelay s n) s).comparers = [n] := hcomp
  have harmed' : (advance (tbDelay s n) s).armedOf n = some x := harmed
  have hctrl : (advance (tbDelay s n) s).eCtrl n = s.eCtrl n := entryWord_of_only (only_advance (P := [.now, .isl, .nv, .time]) only_refl) n 0
  obtain ⟨_, hlo, _⟩ := tbDelay_bounds hrate hfast hahead
  rw [← time_base_advance] at hlo
  unfold State.matchesNow
  rw [hcomp', harmed', Option.any_some, hctrl, if_pos hd, tbTrig_advance hrate hfast hahead]
  have hin : ([n] : List Nat).contains n = true := by simp
  rw [hin, Bool.true_and, decide_eq_true_eq]
  exact le_ns_of_time hlo

theorem matchEntry_of_phase_invalid {x : Armed} (hmatch : s.matchesNow n = true) (hdom : eDom (s.eCtrl n) = 5) (harmed : s.armedOf n = some x)
    (hpass : passes (s.entryWord n 1) x.phase (s.phiAt n s.tb0) = true) (hlock : s.sup.lock ≠ .locked) :
    matchEntry n s = bump Off.PST_INVALID_CNT (compared n s) := by
  unfold matchEntry phaseEntry
  dsimp only
  rw [hmatch, Bool.not_true, if_neg Bool.false_ne_true, if_pos hdom, harmed, Option.any_some, hpass, Bool.not_true, if_neg Bool.false_ne_true,
    if_pos (bne_iff_ne.mpr hlock)]

theorem matchEntry_of_valid {x : Armed} (hmatch : s.matchesNow n = true) (harmed : s.armedOf n = some x)
    (hpass : eDom (s.eCtrl n) = 5 → passes (s.entryWord n 1) x.phase (s.phiAt n s.tb0) = true) (hlock : eDom (s.eCtrl n) = 5 → s.sup.lock = .locked) :
    matchEntry n s = occurrence n 1 false (compared n s) := by
  unfold matchEntry phaseEntry
  dsimp only
  rw [hmatch, Bool.not_true, if_neg Bool.false_ne_true]
  split
  next hdom =>
    rw [harmed, Option.any_some, hpass hdom, Bool.not_true, if_neg Bool.false_ne_true, hlock hdom]
    exact if_neg (by decide)
  next => rfl

/-! ### PISTE_MATCH -/

theorem regMask_stamp : ∀ n < 1024, regMask (Off.PST_STAMP + 4 * n) = BitVec.allOnes 32 := by decide +kernel

/-- The end of an edge at which no entry has acted on a target. -/
theorem settleEdge_after {P : List Part} {t : State} (hfree : s.edgeFree = true) (hedge : t.pst.edge = s.pst.edge ∧ t.pst.edgeAt = s.pst.edgeAt)
    (h : OnlyIn P s t) (hP : Part.now ∉ P := by decide) : settleEdge t = t :=
  settleEdge_of_edgeFree (edgeFree_congr hedge.1 hedge.2 (Nat.le_of_eq (now_of_only h hP).symm) hfree)

/-- A one-shot entry that comes to its trigger is judged at its edge. -/
theorem exec_judged {x : Armed} {sl : BitVec 3} (hcomparing : s.comparing = true) (hreports : 2 ≤ s.reports sl) (hn : n < 1024) (hcomp : s.comparers = [n])
    (harmed : s.armedOf n = some x) (hwait : x.waitAt = none) (htrigger : s.comesToTrigger n x) (hlock : eDom (s.eCtrl n) = 5 → s.sup.lock = .locked)
    (hper : ePeriodic (s.eCtrl n) = false) :
    ∃ dt, exec (.pisteMatch n sl) s = .next (settleEdge (judged n (atMatch n (advance dt s)))) ∧ (4 ≤ eDom (s.eCtrl n) → dt = 0) ∧
      (eDom (s.eCtrl n) < 4 → (s.now + dt) % 4 = 0 ∧ s.tbTrig n * nsUnit ≤ ((advance dt s).base (eDom (s.eCtrl n))).time) := by
  have hvalid : ∀ dt, (advance dt s).matchesNow n = true →
      (eDom (s.eCtrl n) = 5 → passes ((advance dt s).entryWord n 1) x.phase ((advance dt s).phiAt n (advance dt s).tb0) = true) →
      matchEntry n (advance dt s) = judged n (atMatch n (advance dt s)) := fun dt hmatch hpass => by
    have hctrl : (advance dt s).eCtrl n = s.eCtrl n := entryWord_of_only (only_advance (P := [.now, .isl, .nv, .time]) only_refl) n 0
    rw [matchEntry_of_valid hmatch harmed (by rw [hctrl]; exact hpass) (by rw [hctrl]; exact hlock),
      occurrence_of_oneShot hn (s := advance dt s) harmed hwait (by rw [hctrl]; exact hper)]
  by_cases hd : 4 ≤ eDom (s.eCtrl n)
  · obtain ⟨hexec, hmatch, hpass⟩ := exec_match_present hcomparing hreports hcomp harmed htrigger hd
    refine ⟨0, ?_, fun _ => rfl, fun h => by omega⟩
    rw [hexec, hvalid 0 hmatch fun hdom => ?_]
    rw [advance_zero]
    exact hpass hdom
  · obtain ⟨hlt, hrate, hfast, hahead⟩ | ⟨_, _, ⟨hdom, _⟩ | ⟨hdom, _⟩⟩ := htrigger
    · obtain ⟨hexec, hmatch⟩ := exec_match_tb hcomparing hreports hcomp harmed hlt hrate hfast hahead
      obtain ⟨hedge, htrig, _⟩ := tbDelay_bounds hrate hfast hahead
      rw [← time_base_advance] at htrig
      refine ⟨tbDelay s n, ?_, fun h => absurd h hd, fun _ => ⟨hedge, htrig⟩⟩
      rw [hexec, hvalid _ hmatch fun hdom => by omega]
    · omega
    · omega

/-- The state in which an entry is judged, next to the state before its match. -/
structure AtMatch (n : Nat) (x : Armed) (s m : State) : Prop where
  words : ∀ w, m.entryWord n w = s.entryWord n w
  armed : ∃ y, m.armedOf n = some y ∧ y.waitAt = x.waitAt
  others : ∀ k, k ≠ n → m.armedOf k = s.armedOf k
  fifo : m.pst.fifo = s.pst.fifo
  fired : m.pst.fired = s.pst.fired
  edge : m.pst.edge = s.pst.edge ∧ m.pst.edgeAt = s.pst.edgeAt
  regs : RegsOnly [Off.PST_STAMP + 4 * n] s m
  wf : RegsWf m
  frame : OnlyIn [.now, .time, .nv, .isl, .regs, .pst] s m

theorem atMatch_advance {x : Armed} (dt : Nat) (hwf : RegsWf s) (hn : n < 1024) (harmed : s.armedOf n = some x) : AtMatch n x s (atMatch n (advance dt s)) := by
  have hadv : OnlyIn [.now, .isl, .nv, .time] s (advance dt s) := only_advance only_refl
  have hcmp : OnlyIn [.pst] (advance dt s) (compared n (advance dt s)) := only_setArmed only_refl
  have hpst : (atMatch n (advance dt s)).pst = (compared n (advance dt s)).pst := pst_atMatch
  refine ⟨fun w => ?_, ⟨_, (armedOf_atMatch n).trans (armedOf_compared (s := advance dt s) harmed), rfl⟩, fun k hk => armedOf_atMatch_ne (s := advance dt s) hk, by rw [hpst]; rfl,
    by rw [hpst]; rfl, ⟨by rw [hpst]; rfl, by rw [hpst]; rfl⟩, regsOnly_trans (regs_of_only regs_refl hadv) (regs_atMatch hn), ?_,
    only_atMatch (only_advance only_refl)⟩
  · rw [entryWord_atMatch hn, entryWord_of_only hadv]
  · exact wf_setReg (wf_of_only (wf_of_only hwf hadv) hcmp)

theorem AtMatch.eFires {x : Armed} {m : State} (h : AtMatch n x s m) : m.eFires n = s.eFires n := congrArg (fun w => fld w 16 16) (h.words 7)

theorem servoState_congr (htime : t.time = s.time) (hvot : t.vot = s.vot) (d : Nat) : t.servoState (t.base d) = s.servoState (s.base d) := by
  unfold State.servoState State.base
  rw [htime, lanesIn_congr fun k => show (t.vot.lanes.get k).inVote = (s.vot.lanes.get k).inVote by rw [hvot]]

theorem qualOk_atMatch (dt : Nat) (hn : n < 1024) : (atMatch n (advance dt s)).qualOk n = s.qualOk n := by
  have honly : OnlyIn [.regs, .pst] (advance dt s) (atMatch n (advance dt s)) := only_atMatch only_refl
  have hadv : OnlyIn [.now, .isl, .nv, .time] s (advance dt s) := only_advance only_refl
  have hctrl : (atMatch n (advance dt s)).eCtrl n = s.eCtrl n := by rw [State.eCtrl, entryWord_atMatch hn, entryWord_of_only hadv]; rfl
  have hodo : (atMatch n (advance dt s)).odo = s.odo := (honly.2 .odo (by decide)).trans (hadv.2 .odo (by decide))
  unfold State.qualOk
  dsimp only
  rw [hctrl, hodo, servoState_congr (honly.2 .time (by decide)) (honly.2 .vot (by decide)), servoState_base_advance]

theorem stamp_not_mem {k : Nat} (hn : n < 1024) (hk : k < 0x44000 ∨ 0x45000 ≤ k) (hlt : k < 16777216) : k % 16777216 ∉ [Off.PST_STAMP + 4 * n] := by
  have h1 : Off.PST_STAMP = 0x44000 := rfl
  rw [List.mem_singleton]
  omega

theorem exists_next_matchFires (s : State) (n d : Nat) (x : Armed) (sl : BitVec 3) (hwf : RegsWf s) (hcomparing : s.comparing = true) (hfree : s.edgeFree = true)
    (hreports : 2 ≤ s.reports sl) (hn : n < 1024) (hcomp : s.comparers = [n]) (harmed : s.armedOf n = some x) (hwait : x.waitAt = none)
    (htrigger : s.comesToTrigger n x) (hdom : d = eDom (s.eCtrl n)) (hlock : d = 5 → s.sup.lock = .locked) (hper : ePeriodic (s.eCtrl n) = false)
    (hqual : s.qualOk n = true) (hact : fld (s.eAction n) 0 5 = 0) (hg4 : fld (s.entryWord n 4) 0 4 = 0) (hg5 : fld (s.entryWord n 5) 0 4 = 0) :
    ∃ t, exec (.pisteMatch n sl) s = .next t ∧ t.entryState n = 3 ∧ fld (t.entryWord n 7) 4 3 = 1 ∧
      t.eFires n = min 65535 (s.eFires n + 1) ∧ t.armedOf n = none ∧ (∀ m, m ≠ n → t.armedOf m = s.armedOf m) ∧ n ∈ t.pst.fired ∧
      (d < 4 → t.now % 4 = 0 ∧ s.tbTrig n * 281474976710656 ≤ ((t.base d).time : Int)) ∧ (4 ≤ d → t.now = s.now) ∧
      t.reg (Off.PST_STAMP + 4 * n) = ctime t.tb0 ∧ t.reg Off.PST_FIRE_CNT = s.reg Off.PST_FIRE_CNT + 1 ∧
      RegsOnly [Off.PST_ENTRY_W7 + 32 * n, Off.PST_STAMP + 4 * n, Off.PST_FIRE_CNT] s t ∧ OnlyIn [.now, .time, .nv, .isl, .regs, .pst] s t := by
  subst hdom
  obtain ⟨dt, hexec, hpresent, htb⟩ := exec_judged hcomparing hreports hn hcomp harmed hwait htrigger hlock hper
  have hat := atMatch_advance (x := x) dt hwf hn harmed
  have hqual' : (atMatch n (advance dt s)).qualOk n = true := (qualOk_atMatch dt hn).trans hqual
  have hstamp : (atMatch n (advance dt s)).reg (Off.PST_STAMP + 4 * n) = ctime (atMatch n (advance dt s)).tb0 := by
    have htime : (atMatch n (advance dt s)).time = (compared n (advance dt s)).time := (only_setReg (P := [.regs]) only_refl).2 .time (by decide)
    rw [State.tb0, htime]
    exact reg_setReg_unmasked _ _ _ (wf_of_only (P := [.now, .isl, .nv, .time, .pst]) hwf (only_setArmed (only_advance only_refl))) (regMask_stamp n hn)
  have hnow : (atMatch n (advance dt s)).now = s.now + dt := (only_atMatch (P := [.regs, .pst]) only_refl).2 .now (by decide)
  have hbase : (atMatch n (advance dt s)).base (eDom (s.eCtrl n)) = (advance dt s).base (eDom (s.eCtrl n)) :=
    congrArg (fun x : Time => x.get (eDom (s.eCtrl n))) ((only_atMatch (P := [.regs, .pst]) only_refl).2 .time (by decide))
  generalize atMatch n (advance dt s) = m at *
  have hwords := hat.words
  have hkind : fld (m.eAction n) 0 4 = 0 := by
    rw [State.eAction, hwords]
    exact fld_of_wider hact (by decide) (by decide)
  have hlog : m.logless n := .inl (by
    rw [State.eAction, hwords]
    exact bit_of_fld_zero hact (by decide) (by decide))
  obtain ⟨hover, hcount, hregs, honly⟩ := fireEntry_fires (result := 1) hat.wf hn hkind (by rw [State.eCtrl, hwords]; exact hper) hlog (by decide) (by decide) (by decide)
  have hjudged : settleEdge (judged n m) = fireEntry n 1 m := by
    rw [judged, condFail_of_no_guard hqual' (by rw [hwords]; exact hg4) (by rw [hwords]; exact hg5), if_pos rfl]
    exact settleEdge_after (s := m) (edgeFree_congr hat.edge.1 hat.edge.2 (by omega) hfree) hover.edge honly
  have htime : (fireEntry n 1 m).time = m.time := honly.2 .time (by decide)
  have hnow' : (fireEntry n 1 m).now = s.now + dt := (honly.2 .now (by decide)).trans hnow
  have hstampKey : (Off.PST_STAMP + 4 * n) % 16777216 ∉ [Off.PST_ENTRY_W7 + 32 * n, Off.PST_FIRE_CNT] := by
    have h1 : Off.PST_STAMP = 0x44000 := rfl
    have h2 : Off.PST_ENTRY_W7 = 0x4801C := rfl
    have h3 : Off.PST_FIRE_CNT = 0x40300 := rfl
    simp only [List.mem_cons, List.not_mem_nil, or_false]
    omega
  refine ⟨_, hexec.trans (congrArg Host.Outcome.next hjudged), hover.state, hover.result, by rw [hover.fires, hat.eFires], hover.unarmed,
    fun k hk => (hover.others k hk).trans (hat.others k hk), ?_, fun hd => ?_, fun hd => ?_, ?_, ?_, ?_,
    onlyIn_trans hat.frame (onlyIn_mono honly (by decide))⟩
  · rw [hover.fired]
    exact mem_insNat_self _ _
  · obtain ⟨hedge, htrig⟩ := htb hd
    refine ⟨by rw [hnow', hedge], ?_⟩
    rw [State.base, htime]
    exact htrig.trans (Int.ofNat_le.mpr (Nat.le_of_eq (congrArg Base.time hbase.symm)))
  · rw [hnow', hpresent hd, Nat.add_zero]
  · rw [hregs _ hstampKey, hstamp, State.tb0, State.tb0, htime]
  · rw [hcount, hat.regs _ (stamp_not_mem hn (by decide) (by decide))]
  · refine fun k hk => (hregs k fun h => hk ?_).trans (hat.regs k fun h => hk ?_)
    · obtain h | h := List.mem_cons.mp h
      · exact h ▸ List.mem_cons_self
      · exact List.mem_cons_of_mem _ (List.mem_cons_of_mem _ h)
    · rw [List.mem_singleton.mp h]
      exact List.mem_cons_of_mem _ List.mem_cons_self

theorem exists_next_matchInvalid (s : State) (n : Nat) (x : Armed) (sl : BitVec 3) (hwf : RegsWf s) (hcomparing : s.comparing = true) (hfree : s.edgeFree = true)
    (hreports : 2 ≤ s.reports sl) (hcomp : s.comparers = [n]) (harmed : s.armedOf n = some x) (_hwait : x.waitAt = none)
    (htrigger : s.comesToTrigger n x) (hdom : eDom (s.eCtrl n) = 5) (hlock : s.sup.lock ≠ .locked) :
    ∃ t, exec (.pisteMatch n sl) s = .next t ∧ t.reg Off.PST_INVALID_CNT = s.reg Off.PST_INVALID_CNT + 1 ∧ t.now = s.now ∧
      (t.armedOf n).map (·.phase) = some (s.phiAt n s.tb0) ∧ (∀ m, m ≠ n → t.armedOf m = s.armedOf m) ∧ t.pst.fired = s.pst.fired ∧
      RegsOnly [Off.PST_INVALID_CNT] s t ∧ OnlyIn [.now, .time, .nv, .isl, .regs, .pst] s t := by
  obtain ⟨hexec, hmatch, hpass⟩ := exec_match_present hcomparing hreports hcomp harmed htrigger (by omega)
  have hadv : OnlyIn [.now, .isl, .nv, .time] s (advance 0 s) := only_advance only_refl
  have hphi : (advance 0 s).phiAt n (advance 0 s).tb0 = s.phiAt n s.tb0 := by
    rw [advance_zero]
    rfl
  have hcmp : OnlyIn [.pst] (advance 0 s) (compared n (advance 0 s)) := only_setArmed only_refl
  have hcount : OnlyIn [.regs] (compared n (advance 0 s)) (bump Off.PST_INVALID_CNT (compared n (advance 0 s))) := only_bump only_refl
  have hpst : (bump Off.PST_INVALID_CNT (compared n (advance 0 s))).pst = (compared n (advance 0 s)).pst := hcount.2 .pst (by decide)
  have hregs : RegsOnly [] s (compared n (advance 0 s)) := regs_of_only (regs_of_only regs_refl hadv) hcmp
  have hnow : (compared n (advance 0 s)).now = s.now := rfl
  have hone : matchEntry n (advance 0 s) = bump Off.PST_INVALID_CNT (compared n (advance 0 s)) :=
    matchEntry_of_phase_invalid (x := x) hmatch ((congrArg eDom (entryWord_of_only hadv n 0)).trans hdom) harmed
      (by rw [hphi, entryWord_of_only hadv]; exact hpass hdom) (by rw [hadv.2 .sup (by decide)]; exact hlock)
  have hfree' : (bump Off.PST_INVALID_CNT (compared n (advance 0 s))).edgeFree = true :=
    edgeFree_congr (by rw [hpst]; rfl) (by rw [hpst]; rfl) (Nat.le_of_eq ((hcount.2 .now (by decide)).trans hnow).symm) hfree
  have harmed' := armedOf_compared (s := advance 0 s) harmed
  rw [hone, settleEdge_of_edgeFree hfree'] at hexec
  refine ⟨_, hexec, ?_, (hcount.2 .now (by decide)).trans hnow, ?_, fun m hm => ?_, by rw [hpst]; rfl, ?_, only_bump (only_setArmed (only_advance only_refl))⟩
  · rw [reg_bump_unmasked _ _ (wf_of_only (wf_of_only hwf hadv) hcmp) (by decide), hregs _ List.not_mem_nil]
  · rw [armedOf_of_only hcount, harmed', ← hphi]
    rfl
  · rw [armedOf_of_only hcount]
    exact armedOf_setArmed_ne _ _ (fun _ => rfl) hm
  · exact regs_bump fun k _ => hregs k List.not_mem_nil

/-- The Piste's record of an entry whose waiting begins. -/
def waitsFrom (n : Nat) (m : State) (x : Armed) : Armed := { x with waitAt := some m.now, slow := m.slowOk n }

/-- A one-shot entry whose conditions fail, and which may wait. -/
def waitOf (n : Nat) (m : State) : State :=
  m |> setArmed n (waitsFrom n m) |> setStatus n 2 0 (fld (m.entryWord n 7) 8 4) (m.eFires n)

theorem judged_of_wait {m : State} (hfail : m.condFail n ≠ 0) (hwaits : bit (m.eCtrl n) 8 = true) (hlog : bit (m.eAction n) 4 = false) : judged n m = waitOf n m := by
  rw [judged, if_neg hfail, if_pos hwaits, hlog]
  rfl

theorem exists_next_matchSkips (s : State) (n cause : Nat) (x : Armed) (sl : BitVec 3) (hwf : RegsWf s) (hcomparing : s.comparing = true) (hfree : s.edgeFree = true)
    (hreports : 2 ≤ s.reports sl) (hn : n < 1024) (hcomp : s.comparers = [n]) (harmed : s.armedOf n = some x) (hwait : x.waitAt = none)
    (htrigger : s.comesToTrigger n x) (hdom : 4 ≤ eDom (s.eCtrl n)) (hlock : eDom (s.eCtrl n) = 5 → s.sup.lock = .locked) (hper : ePeriodic (s.eCtrl n) = false)
    (hlog : bit (s.eAction n) 4 = false) (hcause : cause = s.condFail n) (hfails : cause ≠ 0) :
    ∃ t, exec (.pisteMatch n sl) s = .next t ∧ t.reg (Off.PST_STAMP + 4 * n) = ctime s.tb0 ∧
      (bit (s.eCtrl n) 8 = false → t.entryState n = 4 ∧ fld (t.entryWord n 7) 4 3 = 7 ∧ fld (t.entryWord n 7) 8 4 = cause ∧
        t.armedOf n = none ∧ t.reg Off.PST_SKIPPED_CNT = s.reg Off.PST_SKIPPED_CNT + 1 ∧ Raised Irq.PST_SKIPPED t) ∧
      (bit (s.eCtrl n) 8 = true → t.entryState n = 2 ∧ (t.armedOf n).map (fun x => (x.waitAt, x.slow)) = some (some s.now, s.slowOk n) ∧
        t.reg Off.PST_SKIPPED_CNT = s.reg Off.PST_SKIPPED_CNT) ∧ (∀ m, m ≠ n → t.armedOf m = s.armedOf m) ∧ t.pst.fired = s.pst.fired ∧
      RegsOnly [Off.PST_ENTRY_W7 + 32 * n, Off.PST_STAMP + 4 * n, Off.PST_SKIPPED_CNT] s t ∧ OnlyIn [.now, .time, .nv, .isl, .regs, .pst, .icus] s t := by
  subst hcause
  obtain ⟨dt, hexec, hpresent, _⟩ := exec_judged hcomparing hreports hn hcomp harmed hwait htrigger hlock hper
  obtain rfl := hpresent hdom
  have hat := atMatch_advance (x := x) 0 hwf hn harmed
  have htime : (advance 0 s).tb0 = s.tb0 := by
    rw [advance_zero]
    rfl
  have hadv : OnlyIn [.now, .isl, .nv, .time] s (advance 0 s) := only_advance only_refl
  have hview : SameView s (atMatch n (advance 0 s)) := by
    have h := sameView_atMatch (s := advance 0 s) hn harmed
    exact ⟨h.windows, h.armed, h.fired, h.inputs, h.estimate, h.time.trans htime⟩
  have hstamp : (atMatch n (advance 0 s)).reg (Off.PST_STAMP + 4 * n) = ctime s.tb0 := by
    rw [← htime]
    exact reg_setReg_unmasked _ _ _ (wf_of_only (P := [.now, .isl, .nv, .time, .pst]) hwf (only_setArmed (only_advance only_refl))) (regMask_stamp n hn)
  have hnow : (atMatch n (advance 0 s)).now = s.now := (only_atMatch (P := [.regs, .pst]) (s := advance 0 s) only_refl).2 .now (by decide)
  generalize atMatch n (advance 0 s) = m at *
  have hwords := hat.words
  have hfail : m.condFail n = s.condFail n := condFail_of_present hdom hview fun w _ => hwords w
  have hslow : m.slowOk n = s.slowOk n := slowOk_of_present hdom hview fun w _ => hwords w
  have hfreem : m.edgeFree = true := edgeFree_congr hat.edge.1 hat.edge.2 (Nat.le_of_eq hnow.symm) hfree
  have hctrl : m.eCtrl n = s.eCtrl n := hwords 0
  have hlogm : bit (m.eAction n) 4 = false := by
    rw [State.eAction, hwords]
    exact hlog
  have h1 : Off.PST_STAMP = 0x44000 := rfl
  have h2 : Off.PST_ENTRY_W7 = 0x4801C := rfl
  have h3 : Off.PST_SKIPPED_CNT = 0x40308 := rfl
  have hframe : ∀ {t : State} {R : List Nat}, RegsOnly R m t → (∀ k ∈ R, k = Off.PST_ENTRY_W7 + 32 * n ∨ k = Off.PST_SKIPPED_CNT) →
      t.reg (Off.PST_STAMP + 4 * n) = ctime s.tb0 ∧ RegsOnly [Off.PST_ENTRY_W7 + 32 * n, Off.PST_STAMP + 4 * n, Off.PST_SKIPPED_CNT] s t := fun {t R} hR hmem => by
    refine ⟨(hR _ fun h => ?_).trans hstamp, fun k hk => (hR k fun h => hk ?_).trans (hat.regs k fun h => hk ?_)⟩
    · have := hmem _ h
      omega
    · simp only [List.mem_cons, List.not_mem_nil, or_false]
      have := hmem _ h
      omega
    · rw [List.mem_singleton.mp h]
      exact List.mem_cons_of_mem _ List.mem_cons_self
  cases hwaits : bit (s.eCtrl n) 8 with
  | false =>
    obtain ⟨hover, hcount, hraised, hregs, honly⟩ := skipOccurrence_skips (cause := m.condFail n) hat.wf hn (by rw [hctrl]; exact hper) (.inl hlogm) (condFail_lt m n)
    have hjudged : settleEdge (judged n m) = skipOccurrence n (m.condFail n) m := by
      rw [judged, if_neg (by rw [hfail]; exact hfails), hctrl, hwaits, if_neg Bool.false_ne_true]
      exact settleEdge_after hfreem hover.edge honly
    obtain ⟨hstamp', hregs'⟩ := hframe hregs fun k hk => by simpa using hk
    exact ⟨_, hexec.trans (congrArg Host.Outcome.next hjudged), hstamp', fun _ => ⟨hover.state, hover.result, hover.cause.trans hfail, hover.unarmed,
      hcount.trans (congrArg (· + 1) (hat.regs _ (stamp_not_mem hn (by decide) (by decide)))), hraised⟩, fun h => Bool.noConfusion h,
      fun k hk => (hover.others k hk).trans (hat.others k hk), hover.fired.trans hat.fired, hregs', onlyIn_trans (onlyIn_mono hat.frame (by decide)) (onlyIn_mono honly (by decide))⟩
  | true =>
    have hset : OnlyIn [.pst] m (setArmed n (waitsFrom n m) m) := only_setArmed only_refl
    have hstatus : OnlyIn [.regs] (setArmed n (waitsFrom n m) m) (waitOf n m) := only_setStatus only_refl
    have hpst : (waitOf n m).pst = (setArmed n (waitsFrom n m) m).pst := hstatus.2 .pst (by decide)
    have honly : OnlyIn [.regs, .pst] m (waitOf n m) := only_setStatus (only_setArmed only_refl)
    have hregs : RegsOnly [Off.PST_ENTRY_W7 + 32 * n] m (waitOf n m) := regs_setStatus (regs_of_only regs_refl hset) hn (List.mem_singleton_self _)
    have hjudged : settleEdge (judged n m) = waitOf n m := by
      rw [judged_of_wait (by rw [hfail]; exact hfails) (by rw [hctrl]; exact hwaits) hlogm]
      exact settleEdge_after hfreem ⟨by rw [hpst]; rfl, by rw [hpst]; rfl⟩ honly
    obtain ⟨hstate, _, _, _⟩ := status_setStatus (state := 2) (result := 0) (cause := fld (m.entryWord n 7) 8 4) (wf_of_only hat.wf hset) hn (by decide) (by decide)
      (Nat.mod_lt _ (by decide)) (eFires_lt m n)
    obtain ⟨hstamp', hregs'⟩ := hframe hregs fun k hk => .inl (List.mem_singleton.mp hk)
    obtain ⟨y, hy, _⟩ := hat.armed
    have hskipped : Off.PST_SKIPPED_CNT % 16777216 ∉ [Off.PST_ENTRY_W7 + 32 * n, Off.PST_STAMP + 4 * n] := by
      simp only [List.mem_cons, List.not_mem_nil, or_false]
      omega
    refine ⟨_, hexec.trans (congrArg Host.Outcome.next hjudged), hstamp', fun h => Bool.noConfusion h, fun _ => ⟨hstate, ?_, ?_⟩, fun k hk => ?_, ?_, hregs',
      onlyIn_trans (onlyIn_mono hat.frame (by decide)) (onlyIn_mono honly (by decide))⟩
    · rw [armedOf_of_only hstatus, armedOf_setArmed_self (waitsFrom n m) m fun _ => rfl, hy, ← hnow, ← hslow]
      rfl
    · rw [hregs _ fun h => hskipped (List.mem_cons.mpr (.inl (List.mem_singleton.mp h))), hat.regs _ fun h => hskipped (List.mem_cons_of_mem _ h)]
    · rw [armedOf_of_only hstatus, armedOf_setArmed_ne (waitsFrom n m) m (fun _ => rfl) hk]
      exact hat.others k hk
    · rw [hpst]
      exact hat.fired

end

/-- Settles O28, command by command. -/
theorem pisteOccurrences : Obligations.PisteOccurrences :=
  ⟨exists_next_matchFires, exists_next_matchInvalid, exists_next_matchSkips, exists_next_guardWaitFire, exists_next_waitLimitExpiry⟩

end Sys2Proof.Machine

namespace Sys2Proof.Machine

set_option Elab.async false

/-! ### Sparse lists without double keys -/

theorem look_eq_none_of_not_mem {α : Type} {l : List (Nat × α)} {k : Nat} (h : k ∉ l.map (·.1)) : look l k = none := by
  induction l with
  | nil => rfl
  | cons x xs ih =>
    rw [List.map_cons, List.mem_cons, not_or] at h
    obtain ⟨hx, hxs⟩ := h
    exact (if_neg (Ne.symm hx)).trans (ih hxs)

theorem look_del_of_nodup {α : Type} {l : List (Nat × α)} (k : Nat) (h : (l.map (·.1)).Nodup) : look (del l k) k = none := by
  induction l with
  | nil => rfl
  | cons x xs ih =>
    rw [List.map_cons, List.nodup_cons] at h
    obtain ⟨hx, hxs⟩ := h
    unfold del
    split
    next hk => exact look_eq_none_of_not_mem (hk ▸ hx)
    next hk => exact (if_neg hk).trans (ih hxs)

/-- What an entry written reads as. -/
theorem look_putC_of_nodup {α : Type} [DecidableEq α] {l : List (Nat × α)} (k : Nat) (d v : α) (h : (l.map (·.1)).Nodup) : (look (putC l k d v) k).getD d = v := by
  unfold putC
  split
  next hv => rw [look_del_of_nodup k h, Option.getD_none, hv]
  next => rw [look_put_self, Option.getD_some]

theorem look_putC_of_ne_default {α : Type} [DecidableEq α] (l : List (Nat × α)) (k : Nat) {d v : α} (h : v ≠ d) : look (putC l k d v) k = some v := by
  rw [putC, if_neg h, look_put_self]

/-! ### Transmit and receive buffers (R230, R244 to R246) -/

section
variable {s : State}

theorem txBuf_setTxBuf_ne {k m : Nat} (v : TxBuf) (s : State) (h : m ≠ k) : (setTxBuf k v s).txBuf m = s.txBuf m := by
  unfold State.txBuf setTxBuf
  rw [look_putC_ne _ _ _ _ _ h]

theorem txBuf_setTxBuf_self {k : Nat} {v : TxBuf} (s : State) (h : v.state ≠ .empty) : (setTxBuf k v s).txBuf k = v := by
  have hlook : look (setTxBuf k v s).ftn.txBufs k = some v := look_putC_of_ne_default s.ftn.txBufs k fun hv => h (by rw [hv])
  rw [State.txBuf, hlook, Option.getD_some]

theorem only_setTxBuf {P : List Part} {b : State} {k : Nat} {v : TxBuf} (h : OnlyIn P b s) (hP : ∀ p ∈ [Part.ftn], p ∈ P := by decide) : OnlyIn P b (setTxBuf k v s) :=
  only_via h hP fun _ h => only_mk h

theorem exists_next_txbCommand (s : State) (hup : s.up = true) :
    (∃ t, exec .txbPrepare s = .next t ∧ t.txBuf s.txSel = { s.txBuf s.txSel with state := .prepared } ∧
      (∀ b, b ≠ s.txSel → t.txBuf b = s.txBuf b) ∧ OnlyIn [.ftn] s t) ∧
    ((s.ftn.txBufs.map (·.1)).Nodup → ∃ t, exec .txbCancel s = .next t ∧ t.txBuf s.txSel = { s.txBuf s.txSel with state := .empty } ∧
      (∀ b, b ≠ s.txSel → t.txBuf b = s.txBuf b) ∧ OnlyIn [.ftn] s t) :=
  ⟨⟨_, congrArg Host.Outcome.next (if_pos hup), txBuf_setTxBuf_self s (fun h => TxState.noConfusion h), fun _ hb => txBuf_setTxBuf_ne _ s hb, only_setTxBuf only_refl⟩,
    fun hnodup => ⟨_, congrArg Host.Outcome.next (if_pos hup), look_putC_of_nodup _ _ _ hnodup, fun _ hb => txBuf_setTxBuf_ne _ s hb, only_setTxBuf only_refl⟩⟩

theorem exists_next_txbWrite (s : State) (off : Nat) (v : Word) (hwf : RegsWf s) (hup : s.up = true) :
    ((s.txBuf s.txSel).state = .prepared ∨ (s.txBuf s.txSel).state = .released → ∃ t, exec (.txbWrite off v) s = .next t ∧
      t.reg Off.FTN_WRITE_REJECTS = s.reg Off.FTN_WRITE_REJECTS + 1 ∧ RegsOnly [Off.FTN_WRITE_REJECTS] s t ∧ OnlyIn [.regs] s t) ∧
    ((s.txBuf s.txSel).state = .sent → ∃ t, exec (.txbWrite off v) s = .next t ∧ OnlyIn [.ftn] s t ∧
      (∀ b, b ≠ s.txSel → t.txBuf b = s.txBuf b) ∧
      (off = Off.FTN_TXB_HDR → t.txBuf s.txSel = { s.txBuf s.txSel with hdr := v }) ∧
      (off = Off.FTN_TXB_CFG → t.txBuf s.txSel = { s.txBuf s.txSel with cfg := v &&& 0x3FF#32 }) ∧
      (∀ i, i < 368 → off = Off.FTN_TXB_DATA + 4 * i → v ≠ 0 → look (t.txBuf s.txSel).data i = some v)) := by
  have hexec : exec (.txbWrite off v) s = .next (txbWriteOp off v s) := congrArg Host.Outcome.next (if_pos hup)
  refine ⟨fun hstate => ?_, fun hsent => ?_⟩
  · have hop : txbWriteOp off v s = bump Off.FTN_WRITE_REJECTS s := by
      refine if_pos ?_
      obtain h | h := hstate <;> rw [h] <;> rfl
    exact ⟨_, hexec.trans (congrArg Host.Outcome.next hop), reg_bump_unmasked _ s hwf (by decide), regs_bump regs_refl, only_bump only_refl⟩
  · have hopen : ¬((s.txBuf s.txSel).state == .prepared || (s.txBuf s.txSel).state == .released) = true := by rw [hsent]; decide
    have hne : ∀ w : TxBuf, w.state = .sent → w.state ≠ .empty := fun w h => by rw [h]; decide
    have hh : Off.FTN_TXB_HDR = 0x70124 := rfl
    have hc : Off.FTN_TXB_CFG = 0x70128 := rfl
    have hd : Off.FTN_TXB_DATA = 0x78000 := rfl
    refine ⟨_, hexec, ?_⟩
    unfold txbWriteOp
    dsimp only
    rw [if_neg hopen]
    split
    next hoff =>
      rw [beq_iff_eq] at hoff
      exact ⟨only_setTxBuf only_refl, fun b hb => txBuf_setTxBuf_ne _ s hb, fun _ => txBuf_setTxBuf_self s (hne _ hsent), fun h => by omega, fun i _ h => by omega⟩
    next hhdr =>
      rw [beq_iff_eq] at hhdr
      split
      next hoff =>
        rw [beq_iff_eq] at hoff
        exact ⟨only_setTxBuf only_refl, fun b hb => txBuf_setTxBuf_ne _ s hb, fun h => by omega, fun _ => txBuf_setTxBuf_self s (hne _ hsent), fun i _ h => by omega⟩
      next hcfg =>
        rw [beq_iff_eq] at hcfg
        split
        next =>
          refine ⟨only_setTxBuf only_refl, fun b hb => txBuf_setTxBuf_ne _ s hb, fun h => absurd h hhdr, fun h => absurd h hcfg, fun i _ hoff hv => ?_⟩
          have hi : (off - Off.FTN_TXB_DATA) / 4 = i := by omega
          have hself := txBuf_setTxBuf_self (k := s.txSel) (v := { s.txBuf s.txSel with data := putC (s.txBuf s.txSel).data ((off - Off.FTN_TXB_DATA) / 4) 0 v }) s
            (hne _ hsent)
          rw [hself, hi]
          exact look_putC_of_ne_default _ _ hv
        next hout =>
          refine ⟨only_refl, fun _ _ => rfl, fun h => absurd h hhdr, fun h => absurd h hcfg, fun i hi hoff => absurd ?_ hout⟩
          rw [Bool.and_eq_true, decide_eq_true_eq, decide_eq_true_eq]
          omega

theorem exists_next_rxbSnapshot (s : State) (v : Word) (hwf : RegsWf s) (hup : s.up = true) :
    ∃ t, exec (.rxbSnapshot v) s = .next t ∧ t.ftn.snapshot = some (s.rxBuf (fld v 0 8)) ∧
    (t.rxBuf (fld v 0 8)).unread = false ∧ t.reg Off.FTN_RXB_SEL = v &&& regMask Off.FTN_RXB_SEL ∧
    (∀ b, b ≠ fld v 0 8 → t.rxBuf b = s.rxBuf b) ∧ t.ftn.arb = s.ftn.arb ∧ RegsOnly [Off.FTN_RXB_SEL] s t ∧ OnlyIn [.regs, .ftn] s t := by
  have hset : OnlyIn [.regs] s (setReg Off.FTN_RXB_SEL v s) := only_setReg only_refl
  have hftn : (setReg Off.FTN_RXB_SEL v s).ftn = s.ftn := hset.2 .ftn (by decide)
  have hmk : OnlyIn [.ftn] (setReg Off.FTN_RXB_SEL v s) (rxbSnapshotOp v s) := only_mk only_refl
  have hbufs : (rxbSnapshotOp v s).ftn.rxBufs =
      if (s.rxBuf (fld v 0 8)).unread then put s.ftn.rxBufs (fld v 0 8) { s.rxBuf (fld v 0 8) with unread := false } else s.ftn.rxBufs := by rw [← hftn]; rfl
  refine ⟨_, congrArg Host.Outcome.next (if_pos hup), rfl, ?_, (reg_of_only _ hmk).trans (reg_setReg_self _ v s hwf), fun m hm => ?_, ?_,
    regs_of_only (regs_setReg regs_refl) hmk, only_mk (only_setReg (P := [.regs, .ftn]) only_refl)⟩
  · rw [State.rxBuf, hbufs]
    split
    · rw [look_put_self, Option.getD_some]
    next hread => exact Bool.eq_false_iff.mpr hread
  · rw [State.rxBuf, hbufs]
    split
    · rw [look_put_ne _ _ _ _ hm]
      rfl
    · rfl
  · show (setReg Off.FTN_RXB_SEL v s).ftn.arb = s.ftn.arb
    rw [hftn]

/-! ### The shadow table (R245, Table 7.15) -/

theorem exists_next_slotW4Write (s : State) (v : Word) (_hwf : RegsWf s) (hup : s.up = true) (hnodup : (s.ftn.shadow.entries.map (·.1)).Nodup)
    (hopen : bit (s.reg Off.FTN_SLOT_SEL) 16 = false) :
    ∃ t, exec (.slotW4Write v) s = .next t ∧
      (t.ftn.shadow.entry (fld (s.reg Off.FTN_SLOT_SEL) 0 14)).getD ⟨0, 0, 0, 0, 0⟩ = ⟨s.reg Off.FTN_SLOT, s.reg (Off.FTN_SLOT + 4), s.reg (Off.FTN_SLOT + 8), s.reg (Off.FTN_SLOT + 12), v &&& 0xFFFF#32⟩ ∧
      (∀ j, j ≠ fld (s.reg Off.FTN_SLOT_SEL) 0 14 → t.ftn.shadow.entry j = s.ftn.shadow.entry j) ∧ t.ftn.shadowDirty = true ∧
      t.ftn.active = s.ftn.active ∧ RegsOnly [Off.FTN_SLOT + 16] s t ∧ OnlyIn [.regs, .ftn] s t := by
  set e : Slot := ⟨s.reg Off.FTN_SLOT, s.reg (Off.FTN_SLOT + 4), s.reg (Off.FTN_SLOT + 8), s.reg (Off.FTN_SLOT + 12), v &&& 0xFFFF#32⟩ with he
  set w := setReg (Off.FTN_SLOT + 16) v s with hw
  have hset : OnlyIn [.regs] s w := only_setReg only_refl
  have hftn : w.ftn = s.ftn := hset.2 .ftn (by decide)
  have hop : slotW4Op v s = { w with ftn := { w.ftn with shadow := ⟨putC w.ftn.shadow.entries (fld (s.reg Off.FTN_SLOT_SEL) 0 14) ⟨0, 0, 0, 0, 0⟩ e⟩, shadowDirty := true } } :=
    if_neg (by rw [hopen]; decide)
  rw [hftn] at hop
  have hmk : OnlyIn [.ftn] w (slotW4Op v s) := by
    rw [hop]
    exact only_mk only_refl
  have hexec : exec (.slotW4Write v) s = .next (slotW4Op v s) := congrArg Host.Outcome.next (if_pos hup)
  refine ⟨_, hexec, ?_, fun j hj => ?_, by rw [hop], by rw [hop], regs_of_only (regs_setReg regs_refl) hmk, onlyIn_trans (onlyIn_mono hset (by decide)) (onlyIn_mono hmk (by decide))⟩
  · rw [hop]
    exact look_putC_of_nodup _ _ _ hnodup
  · rw [hop]
    exact look_putC_ne _ _ _ _ _ hj

theorem exists_next_slotW4Write_refused (s : State) (v : Word) (hwf : RegsWf s) (hup : s.up = true) (hclosed : bit (s.reg Off.FTN_SLOT_SEL) 16 = true) :
    ∃ t, exec (.slotW4Write v) s = .next t ∧ t.reg Off.FTN_WRITE_REJECTS = s.reg Off.FTN_WRITE_REJECTS + 1 ∧
      RegsOnly [Off.FTN_WRITE_REJECTS] s t ∧ OnlyIn [.regs] s t := by
  have hop : slotW4Op v s = bump Off.FTN_WRITE_REJECTS s := if_pos hclosed
  exact ⟨_, congrArg Host.Outcome.next ((if_pos hup).trans hop), reg_bump_unmasked _ s hwf (by decide), regs_bump regs_refl, only_bump only_refl⟩

theorem exists_next_matrixDiscard (s : State) (key : Half) (hup : s.up = true) :
    (key = 0x4D58 → ∃ t, exec (.matrixDiscard key) s = .next t ∧
      t.ftn = { s.ftn with shadow := s.ftn.active, shadowDirty := false, matrix := ⟨2, 0, 0⟩ } ∧
      t.shadows = s.shadows.filter (fun x => boundaryOf (x.key % 16777216) != .shadowMatrix) ∧ OnlyIn [.shadows, .ftn] s t) ∧
    (key ≠ 0x4D58 → ∃ t, exec (.matrixDiscard key) s = .next t ∧ t.ftn = { s.ftn with matrix := ⟨3, 6, 0⟩ } ∧ OnlyIn [.ftn] s t) := by
  have hexec : exec (.matrixDiscard key) s = .next (matrixDiscardOp key s) := congrArg Host.Outcome.next (if_pos hup)
  refine ⟨fun hkey => ?_, fun hkey => ?_⟩
  · have hop : matrixDiscardOp key s = { s with
        shadows := s.shadows.filter fun x => boundaryOf (x.key % 16777216) != .shadowMatrix
        ftn := { s.ftn with shadow := s.ftn.active, shadowDirty := false, matrix := ⟨2, 0, 0⟩ } } := if_neg (by rw [hkey]; decide)
    exact ⟨_, hexec.trans (congrArg Host.Outcome.next hop), rfl, rfl, only_mk only_refl⟩
  · have hop : matrixDiscardOp key s = matrixReject 6 0 false s := if_pos (bne_iff_ne.mpr hkey)
    exact ⟨_, hexec.trans (congrArg Host.Outcome.next hop), rfl, only_mk only_refl⟩

end

end Sys2Proof.Machine

namespace Sys2Proof.Machine

set_option Elab.async false

/-! ### The commit of a matrix (R213 to R220) -/

section
variable {P : List Part} {R : List Nat} {b s : State}

theorem only_cycReject {lanes : List Lane} {cause : Nat} (h : OnlyIn P b s) (hP : ∀ p ∈ [Part.cyc, .icus], p ∈ P := by decide) : OnlyIn P b (cycReject lanes cause s) :=
  only_via h hP fun _ h => only_raiseIrq (only_foldl (fun _ _ h => only_mk h) h)

theorem only_sourceCheck (h : OnlyIn P b s) (hP : ∀ p ∈ [Part.cyc, .icus], p ∈ P := by decide) : OnlyIn P b (sourceCheck s) :=
  only_via h hP fun _ h => only_ite (only_mk h) (only_cycReject (only_mk h))

theorem only_setOverlap (h : OnlyIn P b s) (hP : ∀ p ∈ [Part.regs], p ∈ P := by decide) : OnlyIn P b (setOverlap s) :=
  only_via h hP fun _ h => only_foldl (fun _ _ h => only_setReg h) h

theorem only_matrixHook (h : OnlyIn P b s) (hP : ∀ p ∈ [Part.regs, .cyc, .icus], p ∈ P := by decide) : OnlyIn P b (matrixHook s) :=
  only_via h hP fun _ h => only_sourceCheck (only_foldl (fun _ _ h => only_setReg h) (only_setOverlap h))

theorem regs_matrixHook (h : RegsOnly R b s) (hR : ∀ o ∈ [Off.CYC_IMG_OVERLAP, Off.CYC_STN_UNLISTED], o ∈ R := by decide) : RegsOnly R b (matrixHook s) :=
  regs_via h hR fun _ h => regs_of_only (P := [.cyc, .icus])
    (regs_foldl (fun _ _ h => regs_setReg h) (regs_foldl (f := fun s l => setReg (laneKey l Off.CYC_IMG_OVERLAP) _ s) (fun _ _ h => regs_setReg h) h)) (only_sourceCheck only_refl)

theorem only_cpErrors (h : OnlyIn P b s) (hP : ∀ p ∈ [Part.ftn], p ∈ P := by decide) : OnlyIn P b (cpErrors s) := only_via h hP fun _ h => only_mk h

theorem only_matrixReject {cause entry : Nat} {isCommit : Bool} (h : OnlyIn P b s) (hP : ∀ p ∈ [Part.regs, .ftn, .icus], p ∈ P := by decide) :
    OnlyIn P b (matrixReject cause entry isCommit s) :=
  only_via h hP fun _ h => only_when (fun h => only_raiseIrq (only_bump h)) (only_mk h)

/-- No port has to be switched off. -/
theorem portsOff_of_used (h : ((List.range 22).all fun p => !(s.port p).up || s.portUsed p) = true) : portsOff s = s := by
  have hkeep : ∀ ps : List Nat, (ps.all fun p => !(s.port p).up || s.portUsed p) = true → ps.foldl (fun s p =>
      if (s.port p).up && !s.portUsed p then
        s |> setPort p Port.down |> when (decide (p < 4)) (setLink p fun l => { l with broken := true, good := 0, restoring := false })
      else s) s = s := fun ps => by
    induction ps with
    | nil => exact fun _ => rfl
    | cons p ps ih =>
      intro hall
      rw [List.all_cons, Bool.and_eq_true, Bool.or_eq_true, Bool.not_eq_true'] at hall
      obtain ⟨hp, hps⟩ := hall
      have hidle : ((s.port p).up && !s.portUsed p) = false := by
        obtain h | h := hp <;> rw [h]
        · rfl
        · rw [Bool.not_true, Bool.and_false]
      rw [List.foldl_cons, if_neg (by rw [hidle]; decide)]
      exact ih hps
  exact hkeep _ h

theorem commitBoundary_of_none {u : Update} (h : s.shadows = []) : commitBoundary u s = s := by
  unfold commitBoundary
  rw [h]
  rfl

/-- The shadow matrix as the active one, with its ID. -/
def matrixTaken (s : State) : State :=
  { s with ftn := { s.ftn with
      active := s.ftn.shadow, shadowDirty := false, matrix := ⟨2, 0, 0⟩, sync := List.replicate 15 none
      matrixId := matrixId (s.reg Off.FTN_MATRIX_CFG) (s.reg Off.FTN_MATRIX_CFG2) (s.reg Off.FTN_ARB_CFG) s.ftn.shadow } }

theorem matrixTake_of_no_pending (hshadows : s.shadows = []) (hports : ((List.range 22).all fun p => !(s.port p).up || s.portUsed p) = true) :
    matrixTake s = raiseIrq Irq.FTN_MATRIX_DONE (matrixHook (cpErrors (matrixTaken s))) := by
  unfold matrixTake
  dsimp only
  rw [commitBoundary_of_none hshadows, portsOff_of_used hports]
  rfl

theorem matrixReject_rejects {cause entry : Nat} (hwf : RegsWf s) :
    Raised Irq.FTN_MATRIX_DONE (matrixReject cause entry true s) ∧ (matrixReject cause entry true s).ftn = { s.ftn with matrix := ⟨3, cause, entry⟩ } ∧
      (matrixReject cause entry true s).cyc = s.cyc ∧ (matrixReject cause entry true s).reg Off.FTN_WRITE_REJECTS = s.reg Off.FTN_WRITE_REJECTS + 1 ∧
      RegsOnly [Off.FTN_WRITE_REJECTS] s (matrixReject cause entry true s) := by
  set w : State := { s with ftn := { s.ftn with matrix := ⟨3, cause, entry⟩ } } with hw
  have hrest : OnlyIn [.regs, .icus] w (raiseIrq Irq.FTN_MATRIX_DONE (bump Off.FTN_WRITE_REJECTS w)) := only_raiseIrq (only_bump only_refl)
  have hreject : matrixReject cause entry true s = raiseIrq Irq.FTN_MATRIX_DONE (bump Off.FTN_WRITE_REJECTS w) := rfl
  rw [hreject]
  exact ⟨raised_raiseIrq _ _ (by decide), hrest.2 .ftn (by decide), hrest.2 .cyc (by decide), (raiseIrq_reg _ _ _).trans (reg_bump_unmasked _ w (wf_mk hwf) (by decide)),
    regs_raiseIrq (regs_bump (regs_mk regs_refl))⟩

/-- Cause and entry with which a COMMIT is rejected; cause 0 when it is taken (R219, Table 7.14). -/
def State.commitFault (s : State) (key : Half) : Nat × Nat :=
  if key ≠ 0x4D58 then (6, 0) else if bit (s.reg Off.FTN_CTRL) 0 = true then (1, 0) else s.matrixCheck

theorem matrixCommitOp_eq (key : Half) (s : State) :
    matrixCommitOp key s = if (s.commitFault key).1 = 0 then matrixTake s else matrixReject (s.commitFault key).1 (s.commitFault key).2 true s := by
  unfold matrixCommitOp State.commitFault
  by_cases hkey : key = 0x4D58
  · rw [if_neg (by rw [hkey]; decide), if_neg (not_not.mpr hkey)]
    split <;> rfl
  · rw [if_pos (bne_iff_ne.mpr hkey), if_pos hkey]
    rfl

theorem commitFault_of {key : Half} {cause entry : Nat} (h : cause = 6 ∧ entry = 0 ∧ key ≠ 0x4D58 ∨
    cause = 1 ∧ entry = 0 ∧ key = 0x4D58 ∧ bit (s.reg Off.FTN_CTRL) 0 = true ∨
    key = 0x4D58 ∧ bit (s.reg Off.FTN_CTRL) 0 = false ∧ s.matrixCheck = (cause, entry) ∧ cause ≠ 0) : s.commitFault key = (cause, entry) ∧ cause ≠ 0 := by
  unfold State.commitFault
  obtain ⟨rfl, rfl, hkey⟩ | ⟨rfl, rfl, hkey, hrun⟩ | ⟨hkey, hrun, hcheck, hne⟩ := h
  · exact ⟨if_pos hkey, by decide⟩
  · exact ⟨(if_neg (not_not.mpr hkey)).trans (if_pos hrun), by decide⟩
  · rw [if_neg (not_not.mpr hkey), if_neg (by rw [hrun]; decide)]
    exact ⟨hcheck, hne⟩

theorem exists_next_matrixCommit (s : State) (key : Half) (hwf : RegsWf s) (hup : s.up = true) (hshadows : s.shadows = [])
    (hports : ((List.range 22).all fun p => !(s.port p).up || s.portUsed p) = true) :
    ∃ t, exec (.matrixCommit key) s = .next t ∧ Raised Irq.FTN_MATRIX_DONE t ∧ t.ftn.shadow = s.ftn.shadow ∧
      (key = 0x4D58 → bit (s.reg Off.FTN_CTRL) 0 = false → s.matrixCheck.1 = 0 → t.ftn.active = s.ftn.shadow ∧ t.ftn.shadowDirty = false ∧
        t.ftn.matrix = ⟨2, 0, 0⟩ ∧ t.ftn.matrixId = matrixId (s.reg Off.FTN_MATRIX_CFG) (s.reg Off.FTN_MATRIX_CFG2) (s.reg Off.FTN_ARB_CFG) s.ftn.shadow ∧
        RegsOnly [Off.CYC_IMG_OVERLAP, Off.CYC_STN_UNLISTED] s t) ∧
      (∀ cause entry, (cause = 6 ∧ entry = 0 ∧ key ≠ 0x4D58 ∨ cause = 1 ∧ entry = 0 ∧ key = 0x4D58 ∧ bit (s.reg Off.FTN_CTRL) 0 = true ∨
          key = 0x4D58 ∧ bit (s.reg Off.FTN_CTRL) 0 = false ∧ s.matrixCheck = (cause, entry) ∧ cause ≠ 0) →
        t.ftn = { s.ftn with matrix := ⟨3, cause, entry⟩ } ∧ t.cyc = s.cyc ∧
        t.reg Off.FTN_WRITE_REJECTS = s.reg Off.FTN_WRITE_REJECTS + 1 ∧ RegsOnly [Off.FTN_WRITE_REJECTS] s t) ∧
      OnlyIn [.regs, .ftn, .cyc, .icus] s t := by
  have hexec : exec (.matrixCommit key) s = .next (matrixCommitOp key s) := congrArg Host.Outcome.next (if_pos hup)
  by_cases hfault : (s.commitFault key).1 = 0
  · have hop : matrixCommitOp key s = raiseIrq Irq.FTN_MATRIX_DONE (matrixHook (cpErrors (matrixTaken s))) := by
      rw [matrixCommitOp_eq, if_pos hfault, matrixTake_of_no_pending hshadows hports]
    have hrest : OnlyIn [.regs, .cyc, .icus] (cpErrors (matrixTaken s)) (raiseIrq Irq.FTN_MATRIX_DONE (matrixHook (cpErrors (matrixTaken s)))) :=
      only_raiseIrq (only_matrixHook only_refl)
    have hftn : (raiseIrq Irq.FTN_MATRIX_DONE (matrixHook (cpErrors (matrixTaken s)))).ftn = (cpErrors (matrixTaken s)).ftn := hrest.2 .ftn (by decide)
    refine ⟨_, hexec.trans (congrArg Host.Outcome.next hop), raised_raiseIrq _ _ (by decide), by rw [hftn]; rfl, fun _ _ _ => ⟨by rw [hftn]; rfl, by rw [hftn]; rfl,
      by rw [hftn]; rfl, by rw [hftn]; rfl, ?_⟩, fun cause entry h => ?_, only_raiseIrq (only_matrixHook (only_cpErrors (only_mk only_refl)))⟩
    · exact regs_raiseIrq (regs_matrixHook (regs_of_only (P := [.ftn]) regs_refl (only_cpErrors (only_mk only_refl))))
    · obtain ⟨hsame, hne⟩ := commitFault_of h
      exact absurd ((congrArg Prod.fst hsame).symm.trans hfault) hne
  · have hop : matrixCommitOp key s = matrixReject (s.commitFault key).1 (s.commitFault key).2 true s := by rw [matrixCommitOp_eq, if_neg hfault]
    obtain ⟨hraised, hftn, hcyc, hcount, hregs⟩ := matrixReject_rejects (cause := (s.commitFault key).1) (entry := (s.commitFault key).2) hwf
    refine ⟨_, hexec.trans (congrArg Host.Outcome.next hop), hraised, by rw [hftn], fun hkey hrun hcheck => ?_, fun cause entry h => ?_, only_matrixReject only_refl⟩
    · refine absurd ?_ hfault
      rw [State.commitFault, if_neg (not_not.mpr hkey), if_neg (by rw [hrun]; decide)]
      exact hcheck
    · obtain ⟨hsame, _⟩ := commitFault_of h
      exact ⟨by rw [hftn, hsame], hcyc, hcount, hregs⟩

end

/-! ### Participation and start-up (R249 to R258) -/

section
variable {P : List Part} {R : List Nat} {b s : State}

theorem only_toListen (h : OnlyIn P b s) (hP : ∀ p ∈ [Part.ftn], p ∈ P := by decide) : OnlyIn P b (toListen s) := only_via h hP fun _ h => only_mk h

theorem only_loseIntegration {cause : Nat} (h : OnlyIn P b s) (hP : ∀ p ∈ [Part.regs, .isl, .icus, .erec, .ftn], p ∈ P := by decide) : OnlyIn P b (loseIntegration cause s) :=
  only_via h hP fun _ h => only_ite (only_record (only_raiseIrq (only_bump (only_toListen (only_mk h))))) h

theorem only_enterColdstart (h : OnlyIn P b s) (hP : ∀ p ∈ [Part.regs, .icus, .ftn], p ∈ P := by decide) : OnlyIn P b (enterColdstart s) :=
  only_via h hP fun _ h => only_raiseIrq (only_bump (only_mk h))

/-- The listen timeout depends on the instant and on the node's place in the matrix. -/
theorem listenDue_congr {t : State} (hnow : t.now = s.now) (hregs : ∀ k, k ≠ Off.FTN_CTRL → t.reg k = s.reg k) : t.listenDue = s.listenDue := by
  unfold State.listenDue State.clusterNs State.ranksNs State.ownAddr State.matrix
  rw [hnow, hregs _ (by decide), hregs _ (by decide), hregs _ (by decide), hregs _ (by decide)]

theorem exists_next_runSet (s : State) (hwf : RegsWf s) (hup : s.up = true) :
    ∃ t, exec .runSet s = .next t ∧ bit (t.reg Off.FTN_CTRL) 0 = true ∧
    t.ftn.su = (if s.ftn.su = .stopped then .listen else s.ftn.su) ∧
    t.ftn.suDue = (if s.ftn.su = .stopped then s.listenDue else s.ftn.suDue) ∧
    t.ftn.attempt = (if bit (s.reg Off.FTN_CTRL) 0 then s.ftn.attempt else 0) ∧ t.ftn.active = s.ftn.active ∧ t.ftn.cycle = s.ftn.cycle ∧
    RegsOnly [Off.FTN_CTRL] s t ∧ OnlyIn [.regs, .ftn] s t := by
  set w := setReg Off.FTN_CTRL (s.reg Off.FTN_CTRL ||| 1#32) s with hw
  have hset : OnlyIn [.regs] s w := only_setReg only_refl
  have hftn : w.ftn = s.ftn := hset.2 .ftn (by decide)
  have hdue : w.listenDue = s.listenDue := listenDue_congr (hset.2 .now (by decide)) fun k hk => reg_setReg_ne _ _ _ s hk
  have hop : runSetOp s = { w with ftn := { w.ftn with
      attempt := if bit (s.reg Off.FTN_CTRL) 0 then w.ftn.attempt else 0
      exhausted := if bit (s.reg Off.FTN_CTRL) 0 then w.ftn.exhausted else false
      su := if w.ftn.su == .stopped then .listen else w.ftn.su
      suDue := if w.ftn.su == .stopped then w.listenDue else w.ftn.suDue } } := rfl
  have hmk : OnlyIn [.ftn] w (runSetOp s) := only_mk only_refl
  have hexec : exec .runSet s = .next (runSetOp s) := congrArg Host.Outcome.next (if_pos hup)
  rw [hftn, hdue] at hop
  refine ⟨_, hexec, ?_, by rw [hop]; simp, by rw [hop]; simp, by rw [hop], by rw [hop], by rw [hop], regs_of_only (regs_setReg regs_refl) hmk,
    onlyIn_trans (onlyIn_mono hset (by decide)) (onlyIn_mono hmk (by decide))⟩
  rw [reg_of_only _ hmk, hw, reg_setReg_self _ _ s hwf, bit, BitVec.getLsbD_and, BitVec.getLsbD_or]
  have hmask : (regMask Off.FTN_CTRL).getLsbD 0 = true := by decide
  rw [hmask]
  simp

theorem exists_next_runClear (s : State) (hwf : RegsWf s) (hup : s.up = true) :
    ∃ t, exec .runClear s = .next t ∧ bit (t.reg Off.FTN_CTRL) 0 = false ∧
    (s.ftn.su = .integrated → t.ftn = { s.ftn with leaving := true }) ∧ (s.ftn.su ≠ .integrated → t.ftn.su = .stopped) ∧
    t.ftn.active = s.ftn.active ∧ RegsOnly [Off.FTN_CTRL] s t ∧ OnlyIn [.regs, .ftn] s t := by
  set w := setReg Off.FTN_CTRL (s.reg Off.FTN_CTRL &&& ~~~1#32) s with hw
  have hset : OnlyIn [.regs] s w := only_setReg only_refl
  have hftn : w.ftn = s.ftn := hset.2 .ftn (by decide)
  have hop : runClearOp s = if w.ftn.su == .integrated then { w with ftn := { w.ftn with leaving := true } }
      else { w with ftn := { w.ftn with su := .stopped, cold := false, leader := false, coldFrom := none, countFrom := none, match_ := 0
                                        exit := if w.ftn.su == .aligned then 4 else w.ftn.exit } } := rfl
  have hmk : OnlyIn [.ftn] w (runClearOp s) := by
    rw [hop]
    exact only_ite (only_mk only_refl) (only_mk only_refl)
  have hexec : exec .runClear s = .next (runClearOp s) := congrArg Host.Outcome.next (if_pos hup)
  rw [hftn] at hop
  refine ⟨_, hexec, ?_, fun h => by rw [hop, if_pos (beq_iff_eq.mpr h)], fun h => by rw [hop, if_neg (by simpa using h)], ?_, regs_of_only (regs_setReg regs_refl) hmk,
    onlyIn_trans (onlyIn_mono hset (by decide)) (onlyIn_mono hmk (by decide))⟩
  · rw [reg_of_only _ hmk, hw, reg_setReg_self _ _ s hwf, bit, BitVec.getLsbD_and, BitVec.getLsbD_and]
    simp
  · rw [hop]
    split <;> rfl

/-- How integration is lost (R258). -/
theorem loseIntegration_of_integrated {cause : Nat} (h : s.ftn.su = .integrated) :
    loseIntegration cause s = record 0x0705 [iU8 1 cause] (raiseIrq Irq.FTN_INTEG_LOST (bump Off.FTN_INTEG_LOSS (toListen { s with ftn := { s.ftn with exit := cause } }))) :=
  if_pos (beq_iff_eq.mpr h)

theorem loseIntegration_loses {cause : Nat} (hwf : RegsWf s) (h : s.ftn.su = .integrated) :
    (loseIntegration cause s).ftn = { (toListen s).ftn with exit := cause } ∧ (loseIntegration cause s).reg Off.FTN_INTEG_LOSS = s.reg Off.FTN_INTEG_LOSS + 1 ∧
      Raised Irq.FTN_INTEG_LOST (loseIntegration cause s) ∧ Recorded 0x0705 [iU8 1 cause] s (loseIntegration cause s) ∧
      RegsOnly [Off.FTN_INTEG_LOSS, Off.REC_LOST_CNT] s (loseIntegration cause s) := by
  set w := toListen { s with ftn := { s.ftn with exit := cause } } with hw
  have hlisten : OnlyIn [.ftn] s w := only_toListen (only_mk only_refl)
  have hrest : OnlyIn recParts w (record 0x0705 [iU8 1 cause] (raiseIrq Irq.FTN_INTEG_LOST (bump Off.FTN_INTEG_LOSS w))) := only_record (only_raiseIrq (only_bump only_refl))
  have hrec : RegsOnly [Off.REC_LOST_CNT] (raiseIrq Irq.FTN_INTEG_LOST (bump Off.FTN_INTEG_LOSS w)) (record 0x0705 [iU8 1 cause] (raiseIrq Irq.FTN_INTEG_LOST (bump Off.FTN_INTEG_LOSS w))) :=
    regs_record regs_refl
  rw [loseIntegration_of_integrated h, ← hw]
  refine ⟨hrest.2 .ftn (by decide), ?_, raised_record (raised_raiseIrq _ _ (by decide)),
    recorded_record_of (P := [.regs, .icus, .ftn]) (only_raiseIrq (only_bump (onlyIn_mono hlisten (by decide)))),
    regs_record (regs_raiseIrq (regs_bump (regs_of_only regs_refl hlisten)))⟩
  rw [hrec _ (by decide), raiseIrq_reg, reg_bump_unmasked _ _ (wf_of_only hwf hlisten) (by decide), reg_of_only _ hlisten]

theorem exists_next_leavingEnd (s : State) (hwf : RegsWf s) (hleaving : s.ftn.leaving = true) (hsu : s.ftn.su = .integrated) :
    ∃ t, exec .leavingEnd s = .next t ∧ t.ftn.leaving = false ∧ t.ftn.exit = 4 ∧
      t.ftn.su = (if bit (s.reg Off.FTN_CTRL) 0 then .listen else .stopped) ∧ t.reg Off.FTN_INTEG_LOSS = s.reg Off.FTN_INTEG_LOSS + 1 ∧
      Raised Irq.FTN_INTEG_LOST t ∧ Recorded 0x0705 [iU8 1 4] s t ∧ RegsOnly [Off.FTN_INTEG_LOSS, Off.REC_LOST_CNT] s t ∧
      OnlyIn (.ftn :: recParts) s t := by
  set w : State := { s with ftn := { s.ftn with leaving := false } } with hw
  have hleft : OnlyIn [.ftn] s w := only_mk only_refl
  obtain ⟨hftn, hcount, hraised, hrecorded, hregs⟩ := loseIntegration_loses (s := w) (cause := 4) (wf_mk hwf) hsu
  set u := loseIntegration 4 w with hu
  have hlost : OnlyIn (.ftn :: recParts) w u := only_loseIntegration only_refl
  have hop : leavingEndOp s = { u with ftn := { u.ftn with su := if bit (s.reg Off.FTN_CTRL) 0 then .listen else .stopped, suDue := u.listenDue } } := if_pos hleaving
  have hmk : OnlyIn [.ftn] u (leavingEndOp s) := by
    rw [hop]
    exact only_mk only_refl
  have hexec : exec .leavingEnd s = .next (leavingEndOp s) := rfl
  rw [hftn] at hop
  refine ⟨_, hexec, by rw [hop]; rfl, by rw [hop], by rw [hop], ?_, raised_of_only hraised hmk, recorded_after (recorded_before hrecorded hleft) hmk,
    regs_of_only (regsOnly_trans (regs_of_only regs_refl hleft) hregs) hmk, onlyIn_trans (onlyIn_mono hleft (by decide)) (onlyIn_trans hlost (onlyIn_mono hmk (by decide)))⟩
  rw [reg_of_only _ hmk, hcount, reg_of_only _ hleft]

/-- An own COLDSTART entered (R250, R254, R256). -/
theorem enterColdstart_enters (hwf : RegsWf s) :
    (enterColdstart s).ftn = { s.ftn with su := .coldstart, leader := true, attempt := s.ftn.attempt + 1, coldFrom := none, exhausted := decide (max 1 (fld (s.reg Off.FTN_SU_CFG) 0 4) ≤ s.ftn.attempt + 1) } ∧
      (enterColdstart s).reg Off.FTN_SU_ATTEMPTS = s.reg Off.FTN_SU_ATTEMPTS + 1 ∧ Raised Irq.FTN_COLDSTART (enterColdstart s) ∧
      RegsOnly [Off.FTN_SU_ATTEMPTS] s (enterColdstart s) := by
  set w : State := { s with ftn := { s.ftn with su := .coldstart, leader := true, attempt := s.ftn.attempt + 1, coldFrom := none, exhausted := decide (max 1 (fld (s.reg Off.FTN_SU_CFG) 0 4) ≤ s.ftn.attempt + 1) } } with hw
  have hrest : OnlyIn [.regs, .icus] w (enterColdstart s) := only_raiseIrq (only_bump only_refl)
  have henter : enterColdstart s = raiseIrq Irq.FTN_COLDSTART (bump Off.FTN_SU_ATTEMPTS w) := rfl
  refine ⟨hrest.2 .ftn (by decide), ?_, raised_raiseIrq _ _ (by decide), ?_⟩
  · rw [henter, raiseIrq_reg]
    exact reg_bump_unmasked _ w (wf_mk hwf) (by decide)
  · rw [henter]
    exact regs_raiseIrq (regs_bump (regs_mk regs_refl))

theorem exec_coldstart {c : Instr} (hc : c = .listenTimeout ∧ s.ftn.su = .listen ∧ s.coldNode = true ∧ s.ftn.exhausted = false ∨
     c = .backoffEnd ∧ s.ftn.su = .backoff ∧ s.ftn.exhausted = false) : exec c s = .next (enterColdstart (advanceTo s.ftn.suDue s)) := by
  obtain ⟨rfl, hsu, hnode, hexhausted⟩ | ⟨rfl, hsu, hexhausted⟩ := hc
  · exact congrArg Host.Outcome.next (if_pos (by rw [hsu, hnode, hexhausted]; rfl))
  · have hftn : (advanceTo s.ftn.suDue s).ftn = s.ftn := (only_advanceTo (P := [.now, .isl, .nv, .time]) only_refl).2 .ftn (by decide)
    exact congrArg Host.Outcome.next ((if_pos (by rw [hsu]; rfl)).trans (if_neg (by rw [hftn, hexhausted]; decide)))

theorem exists_next_coldstart (s : State) (c : Instr) (hwf : RegsWf s)
    (hc : c = .listenTimeout ∧ s.ftn.su = .listen ∧ s.coldNode = true ∧ s.ftn.exhausted = false ∨
     c = .backoffEnd ∧ s.ftn.su = .backoff ∧ s.ftn.exhausted = false) :
    ∃ t, exec c s = .next t ∧ s.ftn.suDue ≤ t.now ∧ t.ftn = { s.ftn with su := .coldstart, leader := true, attempt := s.ftn.attempt + 1, coldFrom := none, exhausted := decide (max 1 (fld (s.reg Off.FTN_SU_CFG) 0 4) ≤ s.ftn.attempt + 1) } ∧
      t.reg Off.FTN_SU_ATTEMPTS = s.reg Off.FTN_SU_ATTEMPTS + 1 ∧ Raised Irq.FTN_COLDSTART t ∧ RegsOnly [Off.FTN_SU_ATTEMPTS] s t ∧
      OnlyIn [.now, .time, .nv, .isl, .regs, .ftn, .icus] s t := by
  have hadv : OnlyIn [.now, .isl, .nv, .time] s (advanceTo s.ftn.suDue s) := only_advanceTo only_refl
  obtain ⟨hftn, hcount, hraised, hregs⟩ := enterColdstart_enters (wf_of_only hwf hadv)
  have honly : OnlyIn [.regs, .icus, .ftn] (advanceTo s.ftn.suDue s) (enterColdstart (advanceTo s.ftn.suDue s)) := only_enterColdstart only_refl
  rw [hadv.2 .ftn (by decide), reg_of_only _ hadv] at hftn
  refine ⟨_, exec_coldstart hc, ?_, hftn, by rw [hcount, reg_of_only _ hadv], hraised, regsOnly_trans (regs_of_only regs_refl hadv) hregs,
    only_enterColdstart (only_advanceTo only_refl)⟩
  rw [now_of_only honly, now_advanceTo]
  exact Nat.le_max_right _ _

theorem exists_next_backoffEnd (s : State) (hsu : s.ftn.su = .backoff) (hexhausted : s.ftn.exhausted = true) :
    ∃ t, exec .backoffEnd s = .next t ∧ t.ftn.su = .listen ∧
    s.ftn.suDue ≤ t.now ∧ t.ftn.suDue = t.listenDue ∧ OnlyIn [.now, .time, .nv, .isl, .ftn] s t := by
  have hadv : OnlyIn [.now, .isl, .nv, .time] s (advanceTo s.ftn.suDue s) := only_advanceTo only_refl
  have hftn : (advanceTo s.ftn.suDue s).ftn = s.ftn := hadv.2 .ftn (by decide)
  have hexec : exec .backoffEnd s = .next (toListen (advanceTo s.ftn.suDue s)) :=
    congrArg Host.Outcome.next ((if_pos (by rw [hsu]; rfl)).trans (if_pos (by rw [hftn, hexhausted])))
  refine ⟨_, hexec, rfl, ?_, rfl, only_toListen (only_advanceTo only_refl)⟩
  show s.ftn.suDue ≤ (advanceTo s.ftn.suDue s).now
  rw [now_advanceTo]
  exact Nat.le_max_right _ _

theorem exists_next_listenTimeout_warm (s : State) (_hsu : s.ftn.su = .listen) (hnode : s.coldNode = false) :
    ∃ t, exec .listenTimeout s = .next t ∧ OnlyIn [] s t :=
  ⟨s, congrArg Host.Outcome.next (if_neg (by rw [hnode, Bool.and_false, Bool.false_and]; decide)), only_refl⟩

theorem exists_next_coldAbort (s : State) (n : Nat) (hsu : s.ftn.su = .aligned) (hcold : s.ftn.cold = true) (hfrom : s.ftn.countFrom = some n)
    (hdue : n + max 1 (fld (s.reg Off.FTN_SU_CFG) 4 4) * s.matrix.m ≤ s.ftn.cycle) :
    ∃ t, exec .coldAbort s = .next t ∧ t.ftn.su = (if s.ftn.leader then .backoff else .listen) ∧
      t.ftn.suDue = (if s.ftn.leader then s.backoffDue else s.listenDue) ∧ t.ftn.cold = false ∧ t.ftn.leader = false ∧
      t.ftn.exit = 5 ∧ t.ftn.attempt = s.ftn.attempt ∧ OnlyIn [.ftn] s t := by
  have hexec : exec .coldAbort s = .next (if s.ftn.leader then
        { s with ftn := { s.ftn with su := .backoff, suDue := s.backoffDue, cold := false, leader := false, coldFrom := none, countFrom := none, match_ := 0, exit := 5 } }
      else toListen { s with ftn := { s.ftn with exit := 5 } }) := by
    have hcond : (s.ftn.su == .aligned && s.ftn.cold && decide (n + max 1 (fld (s.reg Off.FTN_SU_CFG) 4 4) * s.matrix.m ≤ s.ftn.cycle)) = true := by
      rw [hsu, hcold, decide_eq_true hdue]
      rfl
    change execColdAbort s = _
    unfold execColdAbort
    dsimp only
    rw [hfrom]
    exact congrArg Host.Outcome.next (if_pos hcond)
  refine ⟨_, hexec, ?_⟩
  cases s.ftn.leader with
  | true => exact ⟨rfl, rfl, rfl, rfl, rfl, rfl, only_mk only_refl⟩
  | false => exact ⟨rfl, rfl, rfl, rfl, rfl, rfl, only_toListen (only_mk only_refl)⟩

end

/-- Settles O33, command by command. -/
theorem matrixAndParticipation : Obligations.MatrixAndParticipation :=
  ⟨exists_next_matrixCommit, exists_next_matrixDiscard, exists_next_slotW4Write, exists_next_slotW4Write_refused, exists_next_txbCommand, exists_next_txbWrite,
    exists_next_rxbSnapshot, exists_next_runSet, exists_next_runClear, exists_next_leavingEnd, exists_next_coldstart, exists_next_backoffEnd,
    exists_next_listenTimeout_warm, exists_next_coldAbort⟩

end Sys2Proof.Machine

namespace Sys2Proof.Machine

set_option Elab.async false

/-! ### TB0 at an instant (R212) -/

theorem nsUnit_pos : 0 < nsUnit := by
  unfold nsUnit
  norm_num

theorem div_up_mul_ge {need rate : Nat} (h : 0 < rate) : need ≤ (need + rate - 1) / rate * rate := by
  have hceil := Nat.lt_mul_div_succ (need + rate - 1) h
  rw [Nat.mul_add_one, Nat.mul_comm rate] at hceil
  generalize (need + rate - 1) / rate * rate = gain at *
  omega

theorem toTb0_eq {s : State} {ns target : Nat} (h : ns * nsUnit = target) :
    toTb0 ns s = if target ≤ s.time.tb0.time then s else advance ((target - s.time.tb0.time + s.time.tb0.rate - 1) / s.time.tb0.rate) s := by
  subst h
  rfl

theorem le_time_toTb0 {s : State} {ns target : Nat} (h : ns * nsUnit = target) (hrate : 0 < s.time.tb0.rate) : target ≤ (toTb0 ns s).time.tb0.time := by
  rw [toTb0_eq h]
  split
  next h => exact h
  next h =>
    have hceil := div_up_mul_ge (need := target - s.time.tb0.time) hrate
    have htime : (advance ((target - s.time.tb0.time + s.time.tb0.rate - 1) / s.time.tb0.rate) s).time.tb0.time =
      s.time.tb0.time + (target - s.time.tb0.time + s.time.tb0.rate - 1) / s.time.tb0.rate * s.time.tb0.rate := time_adv _ _ _
    rw [htime]
    exact Nat.sub_le_iff_le_add'.mp hceil

theorem le_ns_of_le_time {x : Base} {ns target : Nat} (htarget : ns * nsUnit = target) (h : target ≤ x.time) : ns ≤ x.ns := by
  subst htarget
  unfold Base.ns
  exact (Nat.le_div_iff_mul_le nsUnit_pos).mpr h

/-- Where TB0 runs, it has come to the instant waited for. -/
theorem le_tb0_toTb0 {s : State} (ns : Nat) (hrate : 0 < s.time.tb0.rate) : ns ≤ (toTb0 ns s).tb0 := le_ns_of_le_time rfl (le_time_toTb0 rfl hrate)

/-! ### Frames on both channels (R221 to R226) -/

section
variable {P : List Part} {b s : State}

theorem only_sendChan {chanB : Bool} {f : Frame} (h : OnlyIn P b s) (hP : ∀ p ∈ [Part.out], p ∈ P := by decide) : OnlyIn P b (sendChan chanB f s) :=
  only_via h hP fun _ h => only_ite (only_when only_send h) h

theorem only_sendBoth {f : Frame} (h : OnlyIn P b s) (hP : ∀ p ∈ [Part.out], p ∈ P := by decide) : OnlyIn P b (sendBoth f s) :=
  only_via h hP fun _ h => only_sendChan (only_sendChan h)

theorem txLive_later {t : State} (h : s.txLive = true) (hsys : t.sys = s.sys) (hports : t.ftn.ports = s.ftn.ports) (hreg : t.reg Off.FTN_PORT_EN = s.reg Off.FTN_PORT_EN)
    (hnow : s.now ≤ t.now) : t.txLive = true := by
  unfold State.txLive State.portUsed State.port at *
  rw [hsys, hports, hreg]
  simp only [List.all_cons, List.all_nil, Bool.and_true, Bool.and_eq_true, decide_eq_true_eq] at h ⊢
  obtain ⟨⟨⟨hoffA, htillA⟩, hoffB, htillB⟩, hp0, hp3⟩ := h
  exact ⟨⟨⟨hoffA, htillA.trans hnow⟩, hoffB, htillB.trans hnow⟩, hp0, hp3⟩

/-- While the protocol engines run, both channels are carried. -/
theorem live_of_txLive (h : s.txLive = true) : s.engineDown false = false ∧ s.engineDown true = false ∧ s.portLive 0 = true ∧ s.portLive 3 = true := by
  unfold State.txLive at h
  simp only [List.all_cons, List.all_nil, Bool.and_true, Bool.and_eq_true, decide_eq_true_eq, Bool.not_eq_true'] at h
  obtain ⟨⟨⟨hoffA, htillA⟩, hoffB, htillB⟩, ⟨hu0, hp0⟩, hu3, hp3⟩ := h
  have hA : s.engineDown false = false := by
    unfold State.engineDown
    dsimp only
    rw [if_neg (by decide), hoffA, decide_eq_false (Nat.not_lt.mpr htillA), Bool.and_false, Bool.or_self]
  have hB : s.engineDown true = false := by
    unfold State.engineDown
    dsimp only
    rw [if_pos rfl, hoffB, decide_eq_false (Nat.not_lt.mpr htillB), Bool.and_false, Bool.or_self]
  refine ⟨hA, hB, ?_, ?_⟩
  · unfold State.portLive
    rw [hu0, hp0, hA]
    rfl
  · unfold State.portLive
    rw [hu3, hp3, hB]
    rfl

/-- A frame leaves on the transmit ports of both channels. -/
theorem sendBoth_of_live {f : Frame} (h : s.txLive = true) (hroleA : s.ftn.roleA = .normal) (hroleB : s.ftn.roleB = .normal) :
    sendBoth f s = { s with out := s.out ++ [.frame 0 f, .frame 3 f] } := by
  have hchan : ∀ {u : State}, u.txLive = true → u.ftn.roleA = .normal → u.ftn.roleB = .normal →
      sendChan false f u = send (.frame 0 f) u ∧ sendChan true f u = send (.frame 3 f) u := fun {u} h hroleA hroleB => by
    obtain ⟨hA, hB, hp0, hp3⟩ := live_of_txLive h
    have hupA : u.chanUp false = true := by
      unfold State.chanUp
      rw [hA, if_neg (by decide), hroleA]
      decide
    have hupB : u.chanUp true = true := by
      unfold State.chanUp
      rw [hB, if_pos rfl, hroleB]
      decide
    have hheadA : ((if false = true then u.ftn.roleB else u.ftn.roleA) == Role.head) = false := by
      rw [if_neg (by decide), hroleA]
      decide
    have hheadB : ((if true = true then u.ftn.roleB else u.ftn.roleA) == Role.head) = false := by
      rw [if_pos rfl, hroleB]
      decide
    refine ⟨?_, ?_⟩
    · unfold sendChan
      rw [if_pos hupA]
      dsimp only
      rw [hheadA]
      dsimp only
      rw [hp0]
      rfl
    · unfold sendChan
      rw [if_pos hupB]
      dsimp only
      rw [hheadB]
      dsimp only
      rw [hp3]
      rfl
  unfold sendBoth
  rw [(hchan h hroleA hroleB).1]
  rw [(hchan (u := send (.frame 0 f) s) (txLive_later h rfl rfl rfl (Nat.le_refl _)) hroleA hroleB).2]
  simp [send]

/-! ### Own frames (R221 to R224) -/

theorem ownFrame_state (kind slot dest tx obj : Nat) (sub info : Byte) (released : Bool) (payload : List Byte) (s : State) :
    (ownFrame kind slot dest tx obj sub info released payload s).2 = { s with ftn := { s.ftn with seqs := (nextSeq slot s).2.ftn.seqs } } := rfl

theorem only_ownFrame {kind slot dest tx obj : Nat} {sub info : Byte} {released : Bool} {payload : List Byte} (h : OnlyIn P b s) (hP : ∀ p ∈ [Part.ftn], p ∈ P := by decide) :
    OnlyIn P b (ownFrame kind slot dest tx obj sub info released payload s).2 :=
  only_via h hP fun _ h => only_mk h

/-- An own frame has the addresses of its node, and what it was built from. -/
theorem ownAddressed_ownFrame {t : State} {kind slot dest tx obj : Nat} {sub info : Byte} {released : Bool} {payload : List Byte} (h : s.ownAddr = t.ownAddr) :
    OwnAddressed (ownFrame kind slot dest tx obj sub info released payload s).1 t := by
  have hsame : OwnAddressed (ownFrame kind slot dest tx obj sub info released payload s).1 s := ⟨rfl, rfl, rfl, rfl, rfl, rfl, rfl⟩
  unfold OwnAddressed at *
  rwa [h] at hsame

theorem ownAddr_congr {t : State} (h : t.reg Off.FTN_NODE_CFG = s.reg Off.FTN_NODE_CFG) : t.ownAddr = s.ownAddr := by
  unfold State.ownAddr
  rw [h]

theorem matrix_congr {t : State} (h : t.regs = s.regs) : t.matrix = s.matrix := by
  unfold State.matrix
  rw [reg_congr _ _ _ h, reg_congr _ _ _ h, reg_congr _ _ _ h]

end

end Sys2Proof.Machine

namespace Sys2Proof.Machine

set_option Elab.async false

theorem ownAddressed_congr {f : Frame} {s t : State} (h : s.ownAddr = t.ownAddr) (hf : OwnAddressed f s) : OwnAddressed f t := by
  unfold OwnAddressed at *
  rwa [h] at hf

/-! ### The start of a basic cycle (R212, R276) -/

section
variable {P : List Part} {R : List Nat} {b s : State}

theorem only_takeRoles (h : OnlyIn P b s) (hP : ∀ p ∈ [Part.regs, .ftn, .icus], p ∈ P := by decide) : OnlyIn P b (takeRoles s) :=
  only_via h hP fun _ h => only_when only_raiseIrq (only_when only_bump (only_when only_bump (only_mk h)))

theorem regs_takeRoles (h : RegsOnly R b s) (hR : ∀ o ∈ [Off.FTN_RING_LOOPS], o ∈ R := by decide) : RegsOnly R b (takeRoles s) :=
  regs_via h hR fun _ h => regs_when regs_raiseIrq (regs_when (fun h => regs_bump h) (regs_when (fun h => regs_bump h) (regs_mk h)))

theorem takeRoles_ftn (s : State) : (takeRoles s).ftn = { s.ftn with roleA := s.roleOf false, roleB := s.roleOf true } := by
  have hrest : OnlyIn [.regs, .icus] { s with ftn := { s.ftn with roleA := s.roleOf false, roleB := s.roleOf true } } (takeRoles s) :=
    only_when only_raiseIrq (only_when only_bump (only_when only_bump only_refl))
  exact hrest.2 .ftn (by decide)

theorem roleOf_congr {t : State} (h : t.ftn.links = s.ftn.links) (chanB : Bool) : t.roleOf chanB = s.roleOf chanB := by
  unfold State.roleOf State.link
  rw [h]

/-- Neither channel is looped. -/
def rolesNormal (s : State) : State := { s with ftn := { s.ftn with roleA := .normal, roleB := .normal } }

/-- Without a broken link no role is entered. -/
theorem takeRoles_of_normal (hA : s.roleOf false = .normal) (hB : s.roleOf true = .normal) :
    takeRoles s = rolesNormal s := by
  unfold takeRoles
  dsimp only
  rw [hA, hB]
  rfl

/-- A role entered on channel A alone is counted once and reported. -/
theorem takeRoles_enters (hwf : RegsWf s) (hA : s.roleOf false ≠ .normal) (hnew : s.roleOf false ≠ s.ftn.roleA) (hB : s.roleOf true = .normal) :
    (takeRoles s).reg Off.FTN_RING_LOOPS = s.reg Off.FTN_RING_LOOPS + 1 ∧ Raised Irq.FTN_RING_LOOP (takeRoles s) := by
  have htake : takeRoles s = raiseIrq Irq.FTN_RING_LOOP (bump Off.FTN_RING_LOOPS { s with ftn := { s.ftn with roleA := s.roleOf false, roleB := s.roleOf true } }) := by
    have hnA : (s.roleOf false != .normal && s.roleOf false != s.ftn.roleA) = true := by rw [bne_iff_ne.mpr hA, bne_iff_ne.mpr hnew]; rfl
    have hnB : (s.roleOf true != .normal && s.roleOf true != s.ftn.roleB) = false := by rw [hB]; rfl
    unfold takeRoles
    dsimp only
    rw [hnA, hnB]
    rfl
  rw [htake]
  exact ⟨(raiseIrq_reg _ _ _).trans (reg_bump_unmasked _ _ (wf_mk hwf) (by decide)), raised_raiseIrq _ _ (by decide)⟩

theorem tb0_congr {t : State} (h : t.time = s.time) : s.tb0 = t.tb0 := by
  unfold State.tb0
  rw [h]

theorem bIdx_congr {t : State} (hcycle : t.ftn.cycle = s.ftn.cycle) (hregs : t.regs = s.regs) : t.bIdx = s.bIdx := by
  unfold State.bIdx
  rw [hcycle, matrix_congr hregs]

/-- The new basic cycle's marks on a state at its instant. -/
def cycleMarked (n : Nat) (u : State) : State := { clearCycleMarks u with ftn := { (clearCycleMarks u).ftn with cycle := n } }

/-- Basic cycle `n` has begun: its instant, the marks of the last one cleared, its number. -/
def cycleBegun (n : Nat) (s : State) : State := cycleMarked n (toTb0 (n * s.matrix.t) s)

/-- The frame of the new basic cycle's begin. -/
structure Begun (n : Nat) (s t : State) : Prop where
  cycle : t.ftn.cycle = n
  sync : t.ftn.sync = List.replicate 15 none
  errSeen : t.ftn.errSeen = false
  same : t.ftn = { s.ftn with cycle := n, rx := t.ftn.rx, errSeen := false, outSeen := false, sync := List.replicate 15 none, guards := t.ftn.guards }
  regs : t.regs = s.regs
  later : s.now ≤ t.now
  instant : 0 < s.time.tb0.rate → n * s.matrix.t ≤ t.tb0
  frame : OnlyIn [.now, .time, .nv, .isl, .ftn] s t

theorem begun_cycleMarked {n : Nat} {u : State} (hto : OnlyIn [.now, .isl, .nv, .time] s u) (hlater : s.now ≤ u.now)
    (hinstant : 0 < s.time.tb0.rate → n * s.matrix.t ≤ u.tb0) : Begun n s (cycleMarked n u) := by
  have hftn : u.ftn = s.ftn := hto.2 .ftn (by decide)
  have hmarked : OnlyIn [.ftn] u (cycleMarked n u) := only_mk (only_mk only_refl)
  have htb0 : u.tb0 = (cycleMarked n u).tb0 := tb0_congr (hmarked.2 .time (by decide))
  exact ⟨rfl, rfl, rfl, by rw [← hftn]; rfl, (hmarked.2 .regs (by decide)).trans (hto.2 .regs (by decide)), hlater.trans (Nat.le_of_eq (now_of_only hmarked).symm),
    fun h => (hinstant h).trans (Nat.le_of_eq htb0), onlyIn_trans (onlyIn_mono hto (by decide)) (onlyIn_mono hmarked (by decide))⟩

theorem begun_cycleBegun (n : Nat) (s : State) : Begun n s (cycleBegun n s) :=
  begun_cycleMarked (only_toTb0 only_refl) (le_now_toTb0 _ s) (le_tb0_toTb0 _)

theorem Begun.bIdx {n : Nat} {t : State} (h : Begun n s t) : t.bIdx = n % s.matrix.m := by
  unfold State.bIdx
  rw [h.cycle, matrix_congr h.regs]

theorem Begun.role {n : Nat} {t : State} (h : Begun n s t) (chanB : Bool) : t.roleOf chanB = s.roleOf chanB := roleOf_congr (by rw [h.same]) chanB

theorem exec_basicCycleStart {n : Nat} (hup : s.up = true) (hn : n = s.nextCycle) :
    exec .basicCycleStart s = .next (coldCycle (takeRoles (when ((cycleBegun n s).bIdx == 0) clusterStart (cycleBegun n s)))) := by
  subst hn
  exact congrArg Host.Outcome.next (if_pos hup)

/-- A basic cycle that begins no cluster cycle. -/
theorem exec_innerCycleStart {n : Nat} (hup : s.up = true) (hn : n = s.nextCycle) (hinner : n % s.matrix.m ≠ 0) :
    exec .basicCycleStart s = .next (coldCycle (takeRoles (cycleBegun n s))) := by
  have hexec := exec_basicCycleStart hup hn
  rw [(begun_cycleBegun n s).bIdx, beq_false_of_ne hinner, when_false] at hexec
  exact hexec

theorem exists_next_basicCycleStart (s : State) (n : Nat) (hwf : RegsWf s) (hup : s.up = true) (hn : n = s.nextCycle) (hinner : n % s.matrix.m ≠ 0)
    (hsu : s.ftn.su ≠ .coldstart) (hrate : 0 < s.time.tb0.rate) :
    ∃ t, exec .basicCycleStart s = .next t ∧ t.ftn.cycle = n ∧ n * s.matrix.t ≤ t.tb0 ∧ t.ftn.roleA = s.roleOf false ∧
      t.ftn.roleB = s.roleOf true ∧ t.ftn.su = s.ftn.su ∧ t.ftn.sync = List.replicate 15 none ∧ t.ftn.errSeen = false ∧
      t.ftn.ports = s.ftn.ports ∧ t.ftn.links = s.ftn.links ∧
      (s.roleOf false ≠ .normal → s.roleOf false ≠ s.ftn.roleA → s.roleOf true = .normal →
        t.reg Off.FTN_RING_LOOPS = s.reg Off.FTN_RING_LOOPS + 1 ∧ Raised Irq.FTN_RING_LOOP t) ∧
      RegsOnly [Off.FTN_RING_LOOPS] s t ∧ OnlyIn [.now, .time, .nv, .isl, .regs, .ftn, .icus] s t := by
  have hexec := exec_innerCycleStart hup hn hinner
  have hb := begun_cycleBegun n s
  generalize cycleBegun n s = u at *
  have hftn := takeRoles_ftn u
  rw [hb.role, hb.role] at hftn
  have hcold : coldCycle (takeRoles u) = takeRoles u := by
    refine if_neg ?_
    rw [hftn, hb.same]
    simpa using hsu
  have hrest : OnlyIn [.regs, .ftn, .icus] u (takeRoles u) := only_takeRoles only_refl
  have htb0 : (takeRoles u).tb0 = u.tb0 := congrArg (fun x : Time => x.tb0.ns) (hrest.2 .time (by decide))
  rw [hcold] at hexec
  refine ⟨_, hexec, by rw [hftn]; exact hb.cycle, by rw [htb0]; exact hb.instant hrate, by rw [hftn], by rw [hftn], by rw [hftn, hb.same], by rw [hftn]; exact hb.sync,
    by rw [hftn]; exact hb.errSeen, by rw [hftn, hb.same], by rw [hftn, hb.same], fun hA hnew hB => ?_, ?_, onlyIn_trans (onlyIn_mono hb.frame (by decide)) (onlyIn_mono hrest (by decide))⟩
  · have h := takeRoles_enters (s := u) (by rw [RegsWf, hb.regs]; exact hwf) (by rw [hb.role]; exact hA) (by rw [hb.role, hb.same]; exact hnew) (by rw [hb.role]; exact hB)
    rwa [reg_congr _ _ _ hb.regs] at h
  · exact regs_takeRoles fun k _ => reg_congr _ _ k hb.regs

/-! ### COLDSTART frames (R254) -/

/-- A COLDSTART frame goes out on both channels. -/
theorem sendColdstart_sends (hwf : RegsWf s) (hlive : s.txLive = true) (hA : s.ftn.roleA = .normal) (hB : s.ftn.roleB = .normal) :
    ((sendColdstart s).ftn.su = s.ftn.su ∧ (sendColdstart s).ftn.coldFrom = s.ftn.coldFrom) ∧
      (∃ f : Frame, f.kind = 4 ∧ f.slot = 32768 + ((s.ftn.active.syncs.find? fun x => x.2.owner == s.ownAddr).map (·.1)).getD 0 ∧ OwnAddressed f s ∧
        f.payload = beBytes 4 s.ftn.matrixId.toNat ++ beBytes 2 s.ftn.attempt ++ beBytes 2 0 ∧ (sendColdstart s).out = s.out ++ [.frame 0 f, .frame 3 f]) ∧
      (sendColdstart s).reg Off.FTN_TX_FRAMES = s.reg Off.FTN_TX_FRAMES + 1 ∧ RegsOnly [Off.FTN_TX_FRAMES] s (sendColdstart s) ∧
      OnlyIn [.regs, .out, .ftn] s (sendColdstart s) := by
  set i := ((s.ftn.active.syncs.find? fun x => x.2.owner == s.ownAddr).map (·.1)).getD 0 with hi
  set payload := beBytes 4 s.ftn.matrixId.toNat ++ beBytes 2 s.ftn.attempt ++ beBytes 2 0 with hp
  set r := ownFrame 4 (32768 + i) 65535 s.tb0 0 0 0 false payload s with hr
  have hown : OnlyIn [.ftn] s r.2 := only_ownFrame only_refl
  have hsent : sendBoth r.1 r.2 = { r.2 with out := r.2.out ++ [.frame 0 r.1, .frame 3 r.1] } :=
    sendBoth_of_live (txLive_later hlive (hown.2 .sys (by decide)) rfl (reg_of_only _ hown) (Nat.le_of_eq (hown.2 .now (by decide)).symm)) hA hB
  have hop : sendColdstart s = bump Off.FTN_TX_FRAMES (sendBoth r.1 r.2) := rfl
  have hbump : OnlyIn [.regs] (sendBoth r.1 r.2) (sendColdstart s) := only_bump only_refl
  have hout : OnlyIn [.out] r.2 (sendBoth r.1 r.2) := only_sendBoth only_refl
  have hwf' : RegsWf (sendBoth r.1 r.2) := wf_of_only (wf_of_only hwf hown) hout
  refine ⟨?_, ⟨r.1, rfl, rfl, ownAddressed_ownFrame rfl, rfl, ?_⟩, ?_, ?_, only_bump (only_sendBoth (onlyIn_mono hown (by decide)))⟩
  · have hftn : (sendColdstart s).ftn = r.2.ftn := (hbump.2 .ftn (by decide)).trans (hout.2 .ftn (by decide))
    rw [hftn]
    exact ⟨rfl, rfl⟩
  · have h : (sendColdstart s).out = (sendBoth r.1 r.2).out := hbump.2 .out (by decide)
    rw [h, hsent]
    rfl
  · rw [hop, reg_bump_unmasked _ _ hwf' (by decide), reg_of_only _ hout, reg_of_only _ hown]
  · rw [hop]
    exact regs_bump (regs_of_only (regs_of_only regs_refl hown) hout)

/-- The node's first COLDSTART cycle is noted. -/
def coldMarked (s : State) : State := { s with ftn := { s.ftn with coldFrom := some (s.ftn.coldFrom.getD s.ftn.cycle) } }

theorem onlyIn_rolesNormal (s : State) : OnlyIn [.ftn] s (rolesNormal s) := only_mk only_refl

theorem onlyIn_coldMarked (s : State) : OnlyIn [.ftn] s (coldMarked s) := only_mk only_refl

theorem coldCycle_of_coldstart (hsu : s.ftn.su = .coldstart) (hinner : s.bIdx ≠ 0) :
    coldCycle s = sendColdstart (coldMarked s) := by
  unfold coldCycle coldMarked
  rw [if_pos (by rw [hsu]; rfl)]
  split
  next h => rw [h]; rfl
  next c h =>
    rw [beq_false_of_ne hinner, Bool.false_and, if_neg Bool.false_ne_true, h]
    have hsame : ({ s with ftn := { s.ftn with coldFrom := some ((some c).getD s.ftn.cycle) } } : State) = s := by
      show ({ s with ftn := { s.ftn with coldFrom := some c } } : State) = s
      rw [← h]
    rw [hsame]

theorem coldCycle_of_begun {n : Nat} {u : State} (hb : Begun n s u) (hinner : n % s.matrix.m ≠ 0) (hsu : s.ftn.su = .coldstart) (hA : s.roleOf false = .normal)
    (hB : s.roleOf true = .normal) : coldCycle (takeRoles u) = sendColdstart (coldMarked (rolesNormal u)) := by
  rw [takeRoles_of_normal (by rw [hb.role]; exact hA) (by rw [hb.role]; exact hB)]
  refine coldCycle_of_coldstart ?_ ?_
  · show u.ftn.su = _
    rw [hb.same]
    exact hsu
  · rw [bIdx_congr (t := rolesNormal u) (s := u) rfl rfl, hb.bIdx]
    exact hinner

theorem Begun.coldMarked {n : Nat} {u : State} (h : Begun n s u) :
    (coldMarked (rolesNormal u)).ftn.su = s.ftn.su ∧ (coldMarked (rolesNormal u)).ftn.active = s.ftn.active ∧
      (coldMarked (rolesNormal u)).ftn.matrixId = s.ftn.matrixId ∧ (coldMarked (rolesNormal u)).ftn.attempt = s.ftn.attempt ∧
      (coldMarked (rolesNormal u)).ftn.ports = s.ftn.ports ∧ (coldMarked (rolesNormal u)).ftn.roleA = .normal ∧
      (coldMarked (rolesNormal u)).ftn.roleB = .normal ∧ (coldMarked (rolesNormal u)).ftn.coldFrom.isSome = true := by
  have hsu : u.ftn.su = s.ftn.su := by rw [h.same]
  have hactive : u.ftn.active = s.ftn.active := by rw [h.same]
  have hid : u.ftn.matrixId = s.ftn.matrixId := by rw [h.same]
  have hattempt : u.ftn.attempt = s.ftn.attempt := by rw [h.same]
  have hports : u.ftn.ports = s.ftn.ports := by rw [h.same]
  exact ⟨hsu, hactive, hid, hattempt, hports, rfl, rfl, rfl⟩

theorem exists_next_coldstartFrame (s : State) (n : Nat) (hwf : RegsWf s) (hup : s.up = true) (hn : n = s.nextCycle) (hinner : n % s.matrix.m ≠ 0)
    (hsu : s.ftn.su = .coldstart) (hA : s.roleOf false = .normal) (hB : s.roleOf true = .normal) (hlive : s.txLive = true) :
    ∃ t, exec .basicCycleStart s = .next t ∧ t.ftn.su = .coldstart ∧ t.ftn.coldFrom.isSome = true ∧
      (∃ f : Frame, f.kind = 4 ∧ f.slot = 32768 + ((s.ftn.active.syncs.find? fun x => x.2.owner == s.ownAddr).map (·.1)).getD 0 ∧ OwnAddressed f s ∧
        f.payload = beBytes 4 s.ftn.matrixId.toNat ++ beBytes 2 s.ftn.attempt ++ beBytes 2 0 ∧
        t.out = s.out ++ [.frame 0 f, .frame 3 f]) ∧ t.reg Off.FTN_TX_FRAMES = s.reg Off.FTN_TX_FRAMES + 1 ∧
      RegsOnly [Off.FTN_TX_FRAMES] s t ∧ OnlyIn [.now, .time, .nv, .isl, .regs, .out, .ftn] s t := by
  have hexec := exec_innerCycleStart hup hn hinner
  have hb := begun_cycleBegun n s
  rw [coldCycle_of_begun hb hinner hsu hA hB] at hexec
  generalize cycleBegun n s = u at *
  have hmark : OnlyIn [.ftn] u (coldMarked (rolesNormal u)) := onlyIn_trans (onlyIn_rolesNormal u) (onlyIn_coldMarked (rolesNormal u))
  obtain ⟨hsu', hactive, hid, hattempt, hports, hroleA, hroleB, hfrom⟩ := hb.coldMarked
  generalize coldMarked (rolesNormal u) = w at *
  have hframe : OnlyIn [.now, .time, .nv, .isl, .ftn] s w := onlyIn_trans hb.frame (onlyIn_mono hmark (by decide))
  have hregs : w.regs = s.regs := (hmark.2 .regs (by decide)).trans hb.regs
  have hlive' : w.txLive = true := txLive_later hlive (hframe.2 .sys (by decide)) hports (reg_congr _ _ _ hregs)
    (hb.later.trans (Nat.le_of_eq (now_of_only hmark).symm))
  obtain ⟨⟨hsu'', hfrom'⟩, ⟨f, hkind, hslot, haddr, hpayload, hout⟩, hcount, hreg, honly⟩ := sendColdstart_sends (s := w) (by rw [RegsWf, hregs]; exact hwf) hlive' hroleA hroleB
  have hown : w.ownAddr = s.ownAddr := ownAddr_congr (reg_congr _ _ _ hregs)
  refine ⟨_, hexec, hsu''.trans (hsu'.trans hsu), by rw [hfrom']; exact hfrom, ⟨f, hkind, ?_, ?_, ?_, ?_⟩, ?_, regsOnly_trans (fun k _ => reg_congr _ _ k hregs) hreg,
    onlyIn_trans (onlyIn_mono hframe (by decide)) (onlyIn_mono honly (by decide))⟩
  · rw [hslot, hactive, hown]
  · exact ownAddressed_congr hown haddr
  · rw [hpayload, hid, hattempt]
  · rw [hout, hframe.2 .out (by decide)]
  · rw [hcount, reg_congr _ _ _ hregs]

/-! ### Cycle points (R242) -/

theorem exists_next_cyclePoint (s : State) (c : Nat) (cp : Word) (hc : c < 32) (hcp : cp = s.reg (Off.FTN_CP + 4 * c)) (hsu : s.ftn.su = .integrated)
    (hindex : s.bIdx % 2 ^ fld cp 2 3 = fld cp 5 6) (hplain : bit cp 1 = false) (hrate : 0 < s.time.tb0.rate) :
    (bit s.ftn.cpErr c = false → ∃ t, exec (.cyclePoint c) s = .next t ∧
      s.ftn.cycle * s.matrix.t + 1000 * fld cp 12 12 ≤ t.tb0 ∧ (bit cp 0 = true → Raised (Irq.FTN_CP + c) t) ∧
      (bit cp 0 = false → t.icus = s.icus) ∧ OnlyIn [.now, .time, .nv, .isl, .icus] s t) ∧
    (bit s.ftn.cpErr c = true → ∃ t, exec (.cyclePoint c) s = .next t ∧ OnlyIn [] s t) := by
  have hcond : (decide (c < 32) && s.ftn.su == .integrated && s.bIdx % 2 ^ fld cp 2 3 == fld cp 5 6) = true := by
    rw [decide_eq_true hc, hsu, beq_iff_eq.mpr hindex]
    rfl
  refine ⟨fun hgood => ?_, fun herr => ⟨s, ?_, only_refl⟩⟩
  · set u := when (bit cp 0) (raiseIrq (Irq.FTN_CP + c)) (toTb0 (s.ftn.cycle * s.matrix.t + 1000 * fld cp 12 12) s) with hu
    have hto : OnlyIn [.now, .isl, .nv, .time] s (toTb0 (s.ftn.cycle * s.matrix.t + 1000 * fld cp 12 12) s) := only_toTb0 only_refl
    have hraise : OnlyIn [.icus] (toTb0 (s.ftn.cycle * s.matrix.t + 1000 * fld cp 12 12) s) u := only_when only_raiseIrq only_refl
    have honly : OnlyIn [.now, .time, .nv, .isl, .icus] s u := only_when only_raiseIrq (only_toTb0 only_refl)
    have hvote : ∀ k, u.inVote k = s.inVote k := fun k => congrArg (fun v : Vot => (v.lanes.get k).inVote) (honly.2 .vot (by decide))
    have hexec : exec (.cyclePoint c) s = .next u := by
      change execCyclePoint c s = _
      unfold execCyclePoint
      dsimp only
      rw [← hcp, hcond, hgood, Bool.not_false, Bool.and_self, if_pos rfl, ← hu, hplain, Bool.false_and, Bool.false_and, Bool.false_and, Bool.false_and, if_neg Bool.false_ne_true,
        settled_of_lanes hvote]
    have htime : u.tb0 = (toTb0 (s.ftn.cycle * s.matrix.t + 1000 * fld cp 12 12) s).tb0 := congrArg (fun x : Time => x.tb0.ns) (hraise.2 .time (by decide))
    have hassigned : ∀ k, k < 32 → irqAssigned (Irq.FTN_CP + k) = true := by decide
    refine ⟨_, hexec, by rw [htime]; exact le_tb0_toTb0 _ hrate, fun hirq => ?_, fun hirq => ?_, honly⟩
    · rw [hu, hirq, when_true]
      exact raised_raiseIrq _ _ (hassigned c hc)
    · rw [hu, hirq, when_false]
      exact hto.2 .icus (by decide)
  · change execCyclePoint c s = _
    unfold execCyclePoint
    dsimp only
    rw [← hcp, herr, Bool.not_true, Bool.and_false, if_neg Bool.false_ne_true, settled_of_lanes fun _ => rfl]

end

end Sys2Proof.Machine

namespace Sys2Proof.Machine

set_option Elab.async false

/-! ### The start of a cluster cycle, and integration (R253) -/

section
variable {P : List Part} {R : List Nat} {b s : State}

/-- What a cluster-cycle start puts back: the engines, the checkpoint stream's announcements, the guardian counts and the loops seen. -/
def clusterCounts (s : State) : State :=
  { s with
    sys := { s.sys with netA := s.sys.netA.restart s.nv.opSeconds.toNat, netB := s.sys.netB.restart s.nv.opSeconds.toNat }
    chk := { s.chk with rejected := false, announced := s.chk.announced + 1 }
    ftn := { s.ftn with
      guards := s.ftn.guards.map Guard.newCluster
      loopedPrevA := s.ftn.loopedA, loopedPrevB := s.ftn.loopedB, loopedA := false, loopedB := false } }

/-- No link waits to be restored, and none is broken. -/
def State.linksWhole (s : State) : Prop := ∀ l ∈ s.ftn.links, l.restoreAt = none ∧ l.broken = false

theorem link_of_whole (h : s.linksWhole) (p : Nat) : (s.link p).restoreAt = none ∧ (s.link p).broken = false := by
  unfold State.link
  rw [List.getD_eq_getElem?_getD]
  cases hl : s.ftn.links[p]? with
  | none => exact ⟨rfl, rfl⟩
  | some l => exact h l (List.mem_of_getElem? hl)

theorem restoreLink_of_whole (h : s.linksWhole) (p : Nat) : restoreLink p s = s := by
  unfold restoreLink
  dsimp only
  rw [(link_of_whole h p).1]

theorem roleOf_of_whole (h : s.linksWhole) (chanB : Bool) : s.roleOf chanB = .normal := by
  unfold State.roleOf
  rw [(link_of_whole h _).2, (link_of_whole h _).2]

/-- Nothing waits for a cluster-cycle start. -/
theorem clusterStart_of_plain {t : State} (ht : countMatch (countMidpoints (clusterCounts s)) = t) (hlinks : t.linksWhole) (hshadows : t.shadows = []) : clusterStart s = t := by
  have hnone : (t.shadows.any fun x => boundaryOf (x.key % 16777216) == .shadowCluster) = false := by
    rw [hshadows]
    rfl
  have hstart : clusterStart s = (fun s => if s.shadows.any fun x => boundaryOf (x.key % 16777216) == .shadowCluster then
      s |> commitBoundary .shadowCluster |> cpErrors |> sourceCheck else s)
      (restoreLink 3 (restoreLink 2 (restoreLink 1 (restoreLink 0 (countMatch (countMidpoints (clusterCounts s))))))) := rfl
  rw [hstart, ht, restoreLink_of_whole hlinks, restoreLink_of_whole hlinks, restoreLink_of_whole hlinks, restoreLink_of_whole hlinks]
  exact if_neg (by rw [hnone]; decide)

/-- The counters with which a node enters INTEGRATED. -/
def integrated (s : State) : State := { s with ftn := { s.ftn with su := .integrated, noMidCc := 0, clique := 0 } }

theorem integrate_of_ready (hmode : s.sys.mode ≠ .integrate) (htake : s.odo.takeFrom = none) :
    integrate s = raiseIrq Irq.FTN_INTEGRATED (bump Off.FTN_INTEG_COUNT (integrated s)) := by
  have hrest : OnlyIn [.regs, .icus] (integrated s) (raiseIrq Irq.FTN_INTEGRATED (bump Off.FTN_INTEG_COUNT (integrated s))) := only_raiseIrq (only_bump only_refl)
  have htaken : takeAligned (raiseIrq Irq.FTN_INTEGRATED (bump Off.FTN_INTEG_COUNT (integrated s))) = raiseIrq Irq.FTN_INTEGRATED (bump Off.FTN_INTEG_COUNT (integrated s)) := by
    unfold takeAligned
    rw [hrest.2 .odo (by decide)]
    show (match s.odo.takeFrom with | none => _ | some (t, at_) => _) = _
    rw [htake]
  have hmode' : ((raiseIrq Irq.FTN_INTEGRATED (bump Off.FTN_INTEG_COUNT (integrated s))).sys.mode == Mode.integrate) = false := by
    rw [hrest.2 .sys (by decide)]
    exact beq_false_of_ne hmode
  have hdef : integrate s = if (takeAligned (raiseIrq Irq.FTN_INTEGRATED (bump Off.FTN_INTEG_COUNT (integrated s)))).sys.mode == .integrate then
      endStartUp (takeAligned (raiseIrq Irq.FTN_INTEGRATED (bump Off.FTN_INTEG_COUNT (integrated s))))
    else takeAligned (raiseIrq Irq.FTN_INTEGRATED (bump Off.FTN_INTEG_COUNT (integrated s))) := rfl
  rw [hdef, htaken, if_neg (by rw [hmode']; decide)]

/-- A counted cluster cycle that has matched. -/
def matchCounted (s : State) : State := { s with ftn := { s.ftn with noMidCc := 0, ccMid := false, match_ := s.ftn.match_ + 1, ccMatch := true } }

theorem countMatch_of_second {from_ : Nat} (hsu : s.ftn.su = .aligned) (hfrom : s.ftn.countFrom = some from_) (hmatch : s.ftn.ccMatch = true) (hfirst : 1 ≤ s.ftn.match_) :
    countMatch (countMidpoints s) = integrate (matchCounted s) := by
  have hmid : countMidpoints s = { s with ftn := { s.ftn with noMidCc := 0, ccMid := false } } := if_neg (by rw [hsu]; decide)
  rw [hmid]
  unfold countMatch
  rw [if_pos (by rw [hsu]; decide)]
  dsimp only
  split
  next hnone =>
    rw [hfrom] at hnone
    cases hnone
  next =>
    rw [if_pos hmatch, if_pos (by omega)]
    rfl

theorem onlyIn_clusterCounts (s : State) : OnlyIn [.sys, .chk, .ftn] s (clusterCounts s) := only_mk only_refl

theorem onlyIn_matchCounted (s : State) : OnlyIn [.ftn] s (matchCounted s) := only_mk only_refl

theorem onlyIn_integrated (s : State) : OnlyIn [.ftn] s (integrated s) := only_mk only_refl

/-- The state in which a node with its second match begins a cluster cycle. -/
def joined (s : State) : State := raiseIrq Irq.FTN_INTEGRATED (bump Off.FTN_INTEG_COUNT (integrated (matchCounted (clusterCounts s))))

theorem only_joined : OnlyIn [.regs, .sys, .chk, .ftn, .icus] s (joined s) := by
  refine only_raiseIrq (only_bump ?_)
  exact onlyIn_trans (onlyIn_mono (onlyIn_clusterCounts s) (by decide)) (onlyIn_trans (onlyIn_mono (onlyIn_matchCounted _) (by decide)) (onlyIn_mono (onlyIn_integrated _) (by decide)))

theorem joined_ftn (s : State) : (joined s).ftn = (integrated (matchCounted (clusterCounts s))).ftn := by
  have hrest : OnlyIn [.regs, .icus] (integrated (matchCounted (clusterCounts s))) (joined s) := only_raiseIrq (only_bump only_refl)
  exact hrest.2 .ftn (by decide)

theorem joined_fields (s : State) : (joined s).ftn.links = s.ftn.links ∧ (joined s).ftn.cycle = s.ftn.cycle ∧ (joined s).ftn.su = .integrated ∧ (joined s).sys.mode = s.sys.mode := by
  have hsys : OnlyIn [.regs, .icus] (integrated (matchCounted (clusterCounts s))) (joined s) := only_raiseIrq (only_bump only_refl)
  rw [joined_ftn, hsys.2 .sys (by decide)]
  exact ⟨rfl, rfl, rfl, rfl⟩

theorem joined_whole (h : s.linksWhole) : (joined s).linksWhole := by
  obtain ⟨hlinks, -⟩ := joined_fields s
  unfold State.linksWhole
  rw [hlinks]
  exact h

theorem clusterStart_of_second {from_ : Nat} (hsu : s.ftn.su = .aligned) (hfrom : s.ftn.countFrom = some from_) (hmatch : s.ftn.ccMatch = true) (hfirst : 1 ≤ s.ftn.match_)
    (hmode : s.sys.mode ≠ .integrate) (htake : s.odo.takeFrom = none) (hlinks : s.linksWhole) (hshadows : s.shadows = []) : clusterStart s = joined s := by
  have honly : OnlyIn [.regs, .sys, .chk, .ftn, .icus] s (joined s) := only_joined
  refine clusterStart_of_plain ?_ ?_ ?_
  · rw [countMatch_of_second (s := clusterCounts s) hsu hfrom hmatch hfirst]
    exact integrate_of_ready (s := matchCounted (clusterCounts s)) hmode htake
  · exact joined_whole hlinks
  · rw [honly.2 .shadows (by decide)]
    exact hshadows

theorem integrated_regs (s : State) : (integrated (matchCounted (clusterCounts s))).regs = s.regs := rfl

theorem rolesNormal_fields (s : State) : (rolesNormal s).ftn.su = s.ftn.su ∧ (rolesNormal s).ftn.cycle = s.ftn.cycle ∧ (rolesNormal s).sys = s.sys := ⟨rfl, rfl, rfl⟩

theorem exists_next_clusterCycleStart (s : State) (n from_ : Nat) (hwf : RegsWf s) (hup : s.up = true) (hn : n = s.nextCycle) (hfirst : n % s.matrix.m = 0)
    (hshadows : s.shadows = []) (hlinks : ∀ l ∈ s.ftn.links, l.restoreAt = none ∧ l.broken = false) (hsu : s.ftn.su = .aligned) (hfrom : s.ftn.countFrom = some from_)
    (hmatch : s.ftn.ccMatch = true) (honce : 1 ≤ s.ftn.match_) (hmode : s.sys.mode ≠ .integrate) (htake : s.odo.takeFrom = none) :
    ∃ t, exec .basicCycleStart s = .next t ∧ t.ftn.cycle = n ∧ t.ftn.su = .integrated ∧ t.sys.mode = s.sys.mode ∧
      t.reg Off.FTN_INTEG_COUNT = s.reg Off.FTN_INTEG_COUNT + 1 ∧ Raised Irq.FTN_INTEGRATED t ∧ RegsOnly [Off.FTN_INTEG_COUNT] s t ∧
      OnlyIn [.now, .time, .nv, .isl, .regs, .sys, .chk, .ftn, .icus] s t := by
  have hexec := exec_basicCycleStart hup hn
  have hb := begun_cycleBegun n s
  rw [hb.bIdx, hfirst, beq_self_eq_true, when_true] at hexec
  generalize cycleBegun n s = u at *
  have hsame : u.ftn.su = s.ftn.su ∧ u.ftn.countFrom = s.ftn.countFrom ∧ u.ftn.ccMatch = s.ftn.ccMatch ∧ u.ftn.match_ = s.ftn.match_ ∧ u.ftn.links = s.ftn.links := by
    rw [hb.same]
    exact ⟨rfl, rfl, rfl, rfl, rfl⟩
  obtain ⟨hsu', hfrom', hmatch', honce', hlinks'⟩ := hsame
  have hwhole : u.linksWhole := by
    unfold State.linksWhole
    rw [hlinks']
    exact hlinks
  have hstart := clusterStart_of_second (s := u) (hsu'.trans hsu) (hfrom'.trans hfrom) (hmatch'.trans hmatch) (by rw [honce']; exact honce)
    (by rw [hb.frame.2 .sys (by decide)]; exact hmode) (by rw [hb.frame.2 .odo (by decide)]; exact htake) hwhole
    (by rw [hb.frame.2 .shadows (by decide)]; exact hshadows)
  have hwhole' : (joined u).linksWhole := joined_whole hwhole
  obtain ⟨-, hcycle, hsuj, hmodej⟩ := joined_fields u
  have hjoined : OnlyIn [.regs, .sys, .chk, .ftn, .icus] u (joined u) := only_joined
  have hnormal := onlyIn_rolesNormal (joined u)
  obtain ⟨hrolesSu, hrolesCycle, hrolesSys⟩ := rolesNormal_fields (joined u)
  have hintegrated : (rolesNormal (joined u)).ftn.su = .integrated := hrolesSu.trans hsuj
  have hcold : coldCycle (rolesNormal (joined u)) = rolesNormal (joined u) := if_neg (by rw [hintegrated]; decide)
  rw [hstart, takeRoles_of_normal (roleOf_of_whole hwhole' false) (roleOf_of_whole hwhole' true), hcold] at hexec
  have hregs : (integrated (matchCounted (clusterCounts u))).regs = s.regs := (integrated_regs u).trans hb.regs
  have hwfi : RegsWf (integrated (matchCounted (clusterCounts u))) := by
    rw [RegsWf, hregs]
    exact hwf
  refine ⟨_, hexec, ?_, hintegrated, ?_, ?_, raised_of_only (raised_raiseIrq _ _ (by decide)) hnormal, regs_of_only ?_ hnormal,
    onlyIn_trans (onlyIn_mono hb.frame (by decide)) (onlyIn_trans (onlyIn_mono hjoined (by decide)) (onlyIn_mono hnormal (by decide)))⟩
  · exact hrolesCycle.trans (hcycle.trans hb.cycle)
  · rw [hrolesSys]
    exact hmodej.trans (congrArg Sys.mode (hb.frame.2 .sys (by decide)))
  · rw [reg_of_only _ hnormal, joined, raiseIrq_reg, reg_bump_unmasked _ _ hwfi (by decide), reg_congr _ _ _ hregs]
  · exact regs_raiseIrq (regs_bump fun k _ => reg_congr _ _ k hregs)

end

end Sys2Proof.Machine

namespace Sys2Proof.Machine

set_option Elab.async false

/-! ### The midpoint of a basic cycle (R240, R268) -/

section
variable {P : List Part} {R : List Nat} {b s t : State} {v : SyncVal} {e : Int}

/-! #### An input that no servo takes -/

theorem servoInput_of_off {n : Nat} (h : ∀ l : Lane, s.servoOn n l = false) : servoInput n e s = s := by
  have hfold : ∀ ls : List Lane, ls.foldl (fun s l => laneInput n e l s) s = s := by
    intro ls
    induction ls with
    | nil => rfl
    | cons l ls ih =>
      have hstep : laneInput n e l s = s := if_pos (by rw [h l]; decide)
      rw [List.foldl_cons, hstep, ih]
  unfold servoInput stateWatch
  dsimp only
  rw [hfold]
  exact if_neg (by rw [bne_self_eq_false]; decide)

theorem tb0Input_of_off (h : ∀ l : Lane, s.servoOn 0 l = false) (hfew : s.discards < 4) : tb0Input e s = s := by
  unfold tb0Input
  rw [servoInput_of_off h]
  exact if_neg (by rw [decide_eq_true_eq]; omega)

theorem servoOn_tb0_congr (h : ∀ l : Lane, t.reg (laneKey l Off.TB_SERVO_CFG) = s.reg (laneKey l Off.TB_SERVO_CFG)) (l : Lane) :
    t.servoOn 0 l = s.servoOn 0 l := by
  have hword : t.laneTb l Off.TB_SERVO_CFG 0 = s.laneTb l Off.TB_SERVO_CFG 0 := h l
  unfold State.servoOn
  rw [hword]
  rfl

theorem discards_congr (hservo : ∀ l : Lane, t.servo 0 l = s.servo 0 l) (hvot : t.vot = s.vot) : t.discards = s.discards := by
  have hlanes : t.lanesIn = s.lanesIn := lanesIn_congr fun k => show (t.vot.lanes.get k).inVote = (s.vot.lanes.get k).inVote by rw [hvot]
  have hcount : (fun l => (t.servo 0 l).discards) = fun l => (s.servo 0 l).discards := funext fun l => by rw [hservo l]
  unfold State.discards
  rw [hlanes, hcount]

theorem servo_advance (dt : Nat) (l : Lane) (s : State) : (advance dt s).servo 0 l = s.servo 0 l := by
  have hservos : ∀ (strobe : Bool) (x : Base), (x.adv dt strobe).servos = x.servos := fun strobe x => by cases strobe <;> rfl
  exact congrArg (fun x : Tri LaneServo => x.get l) (hservos _ s.time.tb0)

theorem servo_toTb0 (ns : Nat) (l : Lane) (s : State) : (toTb0 ns s).servo 0 l = s.servo 0 l := by
  unfold toTb0
  dsimp only
  split
  · rfl
  · exact servo_advance _ l s

/-! #### Midpoints of one value and of none -/

/-- The marks of a midpoint with every value in the window, at most one. -/
def midpointNoted (valid full good : Bool) (mid : Int) (n : Nat) (s : State) : State :=
  { s with ftn := { s.ftn with
      midValid := valid, midpoint := mid, used := n, out := 0, k := 0, fullPd := full, clique := 0
      outSeen := s.ftn.outSeen || false
      ccMid := s.ftn.ccMid || valid
      ccMatch := s.ftn.ccMatch && good, match_ := if good then s.ftn.match_ else 0
      noMidRun := if valid then 0 else s.ftn.noMidRun + 1 } }

theorem onlyIn_midpointNoted (valid full good : Bool) (mid : Int) (n : Nat) (s : State) : OnlyIn [.ftn] s (midpointNoted valid full good mid n s) := only_mk only_refl

theorem midpointNoted_fields (valid full good : Bool) (mid : Int) (n : Nat) (s : State) :
    (midpointNoted valid full good mid n s).ftn.midValid = valid ∧ (midpointNoted valid full good mid n s).ftn.midpoint = mid ∧
      (midpointNoted valid full good mid n s).ftn.used = n ∧ (midpointNoted valid full good mid n s).ftn.out = 0 ∧
      (midpointNoted valid full good mid n s).ftn.noMidRun = (if valid then 0 else s.ftn.noMidRun + 1) ∧ (midpointNoted valid full good mid n s).ftn.clique = 0 ∧
      (midpointNoted valid full good mid n s).ftn.su = s.ftn.su ∧ (midpointNoted valid full good mid n s).ftn.rx = s.ftn.rx := ⟨rfl, rfl, rfl, rfl, rfl, rfl, rfl, rfl⟩

theorem midpointOf_one (d : Int) : midpointOf [d] 0 = d := by
  have hends : midpointOf [d] 0 = (d + d).tdiv 2 := rfl
  rw [hends, ← Int.two_mul, Int.mul_tdiv_cancel_left d (by decide)]

theorem le_window {d w : Nat} (h : d ≤ w * 25600) : d ≤ w * 100 * 256 := by
  simpa only [Nat.mul_assoc, Nat.reduceMul] using h

theorem formMidpoint_of_one (hvals : s.syncValues = [v]) (hnode : s.syncNode = false) (hwithin : v.dev.natAbs ≤ max 1 (fld (s.reg Off.FTN_SU_CFG) 8 8) * 25600) :
    ∃ good : Bool, formMidpoint s = tb0Input v.dev (bumpBy Off.FTN_SYNC_OUT_WINDOW 0 (midpointNoted true v.pd good v.dev 1 s)) := by
  have hkept : [v].filter (fun v => decide (v.dev.natAbs ≤ max 1 (fld (s.reg Off.FTN_SU_CFG) 8 8) * 100 * 256)) = [v] := by
    exact List.filter_cons_of_pos (decide_eq_true (le_window hwithin))
  have hpd : [v].all (·.pd) = v.pd := Bool.and_true _
  have hform : ∃ good : Bool, formMidpoint s =
      tb0Input (midpointOf [v.dev] 0) (bumpBy Off.FTN_SYNC_OUT_WINDOW 0 (midpointNoted true v.pd good (midpointOf [v.dev] 0) 1 s)) := by
    unfold formMidpoint
    dsimp only
    rw [hvals, hkept, hnode, hpd, List.map_singleton, List.length_singleton]
    exact ⟨v.pd && decide ((midpointOf [v.dev] 0).natAbs ≤ max 1 (fld (s.tbReg Off.TB_SERVO_CFG 0) 24 8) * 256000) && true, rfl⟩
  rwa [midpointOf_one] at hform

theorem formMidpoint_of_none (hvals : s.syncValues = []) (hnode : s.syncNode = false) :
    formMidpoint s = when (s.ftn.su == .integrated) (bump Off.FTN_SYNC_NO_MIDPOINT) (when (s.ftn.noMidRun == 0) (raiseIrq Irq.FTN_SYNC_INVALID)
      (bumpBy Off.FTN_SYNC_OUT_WINDOW 0 (midpointNoted false true false s.ftn.midpoint 0 s))) := by
  unfold formMidpoint
  dsimp only
  rw [hvals, hnode]
  rfl

/-- The state at the network idle time of the present basic cycle. -/
def atNit (s : State) : State := toTb0 (s.ftn.cycle * s.matrix.t + s.matrix.t - s.matrix.nit) s

theorem onlyIn_atNit (s : State) : OnlyIn [.now, .time, .nv, .isl] s (atNit s) := only_toTb0 only_refl

theorem exec_nitStart (hup : s.up = true) (hsu : s.ftn.su = .integrated) :
    exec .nitStart s = .next (formMidpoint (s.ftn.active.entries.foldl (fun s x => markMissing x s) (atNit s))) := by
  have hftn : (atNit s).ftn = s.ftn := (onlyIn_atNit s).2 .ftn (by decide)
  rw [← hftn]
  exact congrArg Host.Outcome.next (if_pos (by rw [hup, hsu]; decide))

theorem syncValues_congr (hsync : t.ftn.sync = s.ftn.sync) (hnode : t.reg Off.FTN_NODE_CFG = s.reg Off.FTN_NODE_CFG) :
    t.syncValues = s.syncValues ∧ t.syncNode = s.syncNode := by
  have hsyncNode : t.syncNode = s.syncNode := by
    unfold State.syncNode
    rw [hnode]
  unfold State.syncValues
  rw [hsync, hsyncNode]
  exact ⟨rfl, rfl⟩

theorem syncValues_of_plain (hnode : s.syncNode = false) : s.syncValues = s.ftn.sync.filterMap id := by
  unfold State.syncValues
  rw [hnode]
  exact List.append_nil _

theorem exists_next_midpoint (s : State) (v : SyncVal) (_hwf : RegsWf s) (hup : s.up = true) (hsu : s.ftn.su = .integrated) (hnone : s.ftn.active.entries = [])
    (hvals : s.ftn.sync.filterMap id = [v]) (hnode : s.syncNode = false) (hwithin : v.dev.natAbs ≤ max 1 (fld (s.reg Off.FTN_SU_CFG) 8 8) * 25600)
    (hoff : ∀ l : Lane, s.servoOn 0 l = false) (hfew : s.discards < 4) :
    ∃ t, exec .nitStart s = .next t ∧ t.ftn.midValid = true ∧ t.ftn.midpoint = v.dev ∧ t.ftn.used = 1 ∧ t.ftn.out = 0 ∧
      t.ftn.noMidRun = 0 ∧ t.ftn.clique = 0 ∧ t.ftn.su = .integrated ∧ RegsOnly [Off.FTN_SYNC_OUT_WINDOW] s t ∧
      OnlyIn [.now, .time, .nv, .isl, .regs, .ftn, .icus] s t := by
  have hexec := exec_nitStart hup hsu
  have hat := onlyIn_atNit s
  have hservo : ∀ l : Lane, (atNit s).servo 0 l = s.servo 0 l := fun l => servo_toTb0 _ l s
  rw [hnone, List.foldl_nil] at hexec
  generalize atNit s = u at *
  have hftn : u.ftn = s.ftn := hat.2 .ftn (by decide)
  have hreg : ∀ k, u.reg k = s.reg k := fun k => reg_of_only k hat
  obtain ⟨hvals', hnode'⟩ := syncValues_congr (congrArg Ftn.sync hftn) (hreg _)
  have huvals : u.syncValues = [v] := by rw [hvals', syncValues_of_plain hnode, hvals]
  have hunode := hnode'.trans hnode
  have huwithin : v.dev.natAbs ≤ max 1 (fld (u.reg Off.FTN_SU_CFG) 8 8) * 25600 := by
    rw [hreg]
    exact hwithin
  obtain ⟨good, hform⟩ := formMidpoint_of_one (s := u) (v := v) huvals hunode huwithin
  have hnoted := onlyIn_midpointNoted true v.pd good v.dev 1 u
  have hfields := midpointNoted_fields true v.pd good v.dev 1 u
  generalize midpointNoted true v.pd good v.dev 1 u = w at *
  obtain ⟨hvalid, hmid, hused, hout, hrun, hclique, hsu', -⟩ := hfields
  have hbump : OnlyIn [.regs] w (bumpBy Off.FTN_SYNC_OUT_WINDOW 0 w) := only_bumpBy only_refl
  have hregs : RegsOnly [Off.FTN_SYNC_OUT_WINDOW] s (bumpBy Off.FTN_SYNC_OUT_WINDOW 0 w) := regs_bumpBy fun k _ => (reg_of_only k hnoted).trans (hreg k)
  have hoff' : ∀ l : Lane, (bumpBy Off.FTN_SYNC_OUT_WINDOW 0 w).servoOn 0 l = false := fun l => by
    rw [servoOn_tb0_congr (s := s) fun k => hregs _ ?_]
    · exact hoff l
    · cases k <;> decide
  have hdisc : (bumpBy Off.FTN_SYNC_OUT_WINDOW 0 w).discards = s.discards := by
    refine discards_congr (fun l => ?_) ((hbump.2 .vot (by decide)).trans ((hnoted.2 .vot (by decide)).trans (hat.2 .vot (by decide))))
    rw [← hservo l]
    unfold State.servo State.base
    rw [hbump.2 .time (by decide), hnoted.2 .time (by decide)]
  rw [hform, tb0Input_of_off hoff' (by omega)] at hexec
  have hftn' : (bumpBy Off.FTN_SYNC_OUT_WINDOW 0 w).ftn = w.ftn := hbump.2 .ftn (by decide)
  refine ⟨_, hexec, ?_⟩
  rw [hftn', hsu', hftn, hsu]
  exact ⟨hvalid, hmid, hused, hout, hrun, hclique, rfl, hregs, onlyIn_trans (onlyIn_mono hat (by decide)) (onlyIn_trans (onlyIn_mono hnoted (by decide)) (onlyIn_mono hbump (by decide)))⟩

/-! #### An RX entry whose occurrence brought nothing -/

/-- What a missing frame leaves of an entry's reception. -/
def RxStat.missed (r : RxStat) : RxStat := { r with state := 3, count := (r.count + 1) % 65536 }

/-- The marks of a missing frame, apart from the buffer. -/
def rxMissed (x : Nat × Slot) (s : State) : State :=
  when x.2.irq (raiseIrq Irq.FTN_RX_MISSING) (bump Off.FTN_RX_MISSING (setRx (s.rxOf x.1).missed s))

theorem rxOf_entry (s : State) (i : Nat) : (s.rxOf i).entry = i := by
  unfold State.rxOf
  cases h : s.ftn.rx.find? (fun r => r.entry == i) with
  | none => rfl
  | some r =>
    have hfound := List.find?_some h
    exact beq_iff_eq.mp hfound

theorem rxOf_congr (h : t.ftn.rx = s.ftn.rx) (i : Nat) : t.rxOf i = s.rxOf i := by
  unfold State.rxOf
  rw [h]

theorem rxOf_setRx (r : RxStat) (s : State) : (setRx r s).rxOf r.entry = r := by
  unfold State.rxOf setRx
  dsimp only
  rw [List.find?_cons_of_pos (p := fun x : RxStat => x.entry == r.entry) (beq_self_eq_true _)]
  rfl

theorem onlyIn_setRx (r : RxStat) (s : State) : OnlyIn [.ftn] s (setRx r s) := only_mk only_refl

theorem onlyIn_setRxBuf (n : Nat) (v : RxBuf) (s : State) : OnlyIn [.ftn] s (setRxBuf n v s) := only_mk only_refl

/-- What a reception leaves of the network's own marks. -/
structure RxKept (s t : State) : Prop where
  su : t.ftn.su = s.ftn.su
  sync : t.ftn.sync = s.ftn.sync
  midpoint : t.ftn.midpoint = s.ftn.midpoint
  noMidRun : t.ftn.noMidRun = s.ftn.noMidRun

theorem rxKept_setRx (r : RxStat) (s : State) : RxKept s (setRx r s) := ⟨rfl, rfl, rfl, rfl⟩

theorem rxKept_setRxBuf (n : Nat) (v : RxBuf) (s : State) : RxKept s (setRxBuf n v s) := ⟨rfl, rfl, rfl, rfl⟩

theorem RxKept.of_ftn {u : State} (h : RxKept s t) (hu : u.ftn = t.ftn) : RxKept s u := by
  refine ⟨?_, ?_, ?_, ?_⟩ <;> rw [hu]
  exacts [h.su, h.sync, h.midpoint, h.noMidRun]

theorem RxKept.trans {u : State} (h : RxKept s t) (hu : RxKept t u) : RxKept s u :=
  ⟨hu.su.trans h.su, hu.sync.trans h.sync, hu.midpoint.trans h.midpoint, hu.noMidRun.trans h.noMidRun⟩

/-- A missing frame of an RX entry: its reception, its count, and its interrupt where it has one. -/
theorem rxMissed_marks (hwf : RegsWf s) (i : Nat) (e : Slot) :
    (rxMissed (i, e) s).rxOf i = (s.rxOf i).missed ∧ (rxMissed (i, e) s).reg Off.FTN_RX_MISSING = s.reg Off.FTN_RX_MISSING + 1 ∧
      (e.irq = true → Raised Irq.FTN_RX_MISSING (rxMissed (i, e) s)) ∧ RegsOnly [Off.FTN_RX_MISSING] s (rxMissed (i, e) s) ∧
      RxKept s (rxMissed (i, e) s) ∧ OnlyIn [.regs, .ftn, .icus] s (rxMissed (i, e) s) := by
  have hset := onlyIn_setRx (s.rxOf i).missed s
  have hcounted : OnlyIn [.regs, .icus] (setRx (s.rxOf i).missed s) (rxMissed (i, e) s) := only_when only_raiseIrq (only_bump only_refl)
  have hown : (setRx (s.rxOf i).missed s).rxOf i = (s.rxOf i).missed := by
    have h := rxOf_setRx (s.rxOf i).missed s
    rwa [show (s.rxOf i).missed.entry = i from rxOf_entry s i] at h
  have hftn : (rxMissed (i, e) s).ftn = (setRx (s.rxOf i).missed s).ftn := hcounted.2 .ftn (by decide)
  refine ⟨(rxOf_congr (congrArg Ftn.rx hftn) i).trans hown, ?_, fun hirq => ?_, regs_when regs_raiseIrq (regs_bump fun k _ => reg_of_only k hset),
    (rxKept_setRx _ s).of_ftn hftn, onlyIn_trans (onlyIn_mono hset (by decide)) (onlyIn_mono hcounted (by decide))⟩
  · have hirqs : (rxMissed (i, e) s).reg Off.FTN_RX_MISSING = (bump Off.FTN_RX_MISSING (setRx (s.rxOf i).missed s)).reg Off.FTN_RX_MISSING :=
      reg_of_only (P := [.icus]) _ (only_when only_raiseIrq only_refl)
    rw [hirqs, reg_bump_unmasked _ _ (wf_of_only hwf hset) (by decide), reg_of_only _ hset]
  · rw [rxMissed, hirq, when_true]
    exact raised_raiseIrq _ _ (by decide)

theorem markMissing_of_missing {i : Nat} {e : Slot} (hrx : e.rx = true) (hkind : e.kind ≠ 2) (hocc : e.occurs s.bIdx = true) (hgot : (s.rxOf i).got = false) :
    RxKept (rxMissed (i, e) s) (markMissing (i, e) s) ∧ (markMissing (i, e) s).rxOf i = (rxMissed (i, e) s).rxOf i ∧
      OnlyIn [.ftn] (rxMissed (i, e) s) (markMissing (i, e) s) := by
  have hmark : markMissing (i, e) s = if e.map == 1 then
      setRxBuf e.buf { (rxMissed (i, e) s).rxBuf e.buf with state := 3, count := (((rxMissed (i, e) s).rxBuf e.buf).count + 1) % 65536 } (rxMissed (i, e) s)
    else rxMissed (i, e) s := by
    refine if_pos ?_
    show (e.rx && e.kind != 2 && e.occurs s.bIdx && !(s.rxOf i).got) = true
    rw [hrx, hocc, hgot, bne_iff_ne.mpr hkind]
    rfl
  rw [hmark]
  split
  · exact ⟨rxKept_setRxBuf _ _ _, rfl, onlyIn_setRxBuf _ _ _⟩
  · exact ⟨⟨rfl, rfl, rfl, rfl⟩, rfl, only_refl⟩

theorem exists_next_missing (s : State) (i : Nat) (e : Slot) (hwf : RegsWf s) (hup : s.up = true) (hsu : s.ftn.su = .integrated) (hone : s.ftn.active.entries = [(i, e)])
    (hrx : e.rx = true) (hkind : e.kind ≠ 2) (hocc : e.occurs s.bIdx = true) (hgot : (s.rxOf i).got = false) (hvals : s.ftn.sync.filterMap id = [])
    (hnode : s.syncNode = false) :
    ∃ t, exec .nitStart s = .next t ∧ (t.rxOf i).state = 3 ∧ (t.rxOf i).count = ((s.rxOf i).count + 1) % 65536 ∧ t.ftn.midValid = false ∧
      t.ftn.midpoint = s.ftn.midpoint ∧ t.ftn.noMidRun = s.ftn.noMidRun + 1 ∧ t.reg Off.FTN_RX_MISSING = s.reg Off.FTN_RX_MISSING + 1 ∧
      t.reg Off.FTN_SYNC_NO_MIDPOINT = s.reg Off.FTN_SYNC_NO_MIDPOINT + 1 ∧ (e.irq = true → Raised Irq.FTN_RX_MISSING t) ∧
      (s.ftn.noMidRun = 0 → Raised Irq.FTN_SYNC_INVALID t) ∧ RegsOnly [Off.FTN_RX_MISSING, Off.FTN_SYNC_NO_MIDPOINT, Off.FTN_SYNC_OUT_WINDOW] s t ∧
      OnlyIn [.now, .time, .nv, .isl, .regs, .ftn, .icus] s t := by
  have hexec := exec_nitStart hup hsu
  have hat := onlyIn_atNit s
  rw [hone, List.foldl_cons, List.foldl_nil] at hexec
  generalize atNit s = u at *
  have hftn : u.ftn = s.ftn := hat.2 .ftn (by decide)
  have hreg : ∀ k, u.reg k = s.reg k := fun k => reg_of_only k hat
  have hwfu : RegsWf u := wf_of_only hwf hat
  have hrxOf : u.rxOf i = s.rxOf i := rxOf_congr (congrArg Ftn.rx hftn) i
  have hidx : u.bIdx = s.bIdx := bIdx_congr (congrArg Ftn.cycle hftn) (hat.2 .regs (by decide))
  obtain ⟨hrx', hcount, hirq, hregs, hkept, honly⟩ := rxMissed_marks hwfu i e
  obtain ⟨hkept', hrx'', honly'⟩ := markMissing_of_missing (s := u) hrx hkind (by rw [hidx]; exact hocc) (by rw [hrxOf]; exact hgot)
  have hwfm : RegsWf (rxMissed (i, e) u) := wf_when wf_raiseIrq (wf_bump (wf_of_only hwfu (onlyIn_setRx _ u)))
  generalize rxMissed (i, e) u = m at *
  generalize markMissing (i, e) u = w at *
  have hmarked := hkept.trans hkept'
  have hwregs : RegsOnly [Off.FTN_RX_MISSING] s w := fun k hk => (reg_of_only k honly').trans ((hregs k hk).trans (hreg k))
  obtain ⟨hvals', hnode'⟩ := syncValues_congr (s := s) (t := w) (hmarked.sync.trans (congrArg Ftn.sync hftn)) (hwregs _ (by decide))
  have hform := formMidpoint_of_none (s := w) (by rw [hvals', syncValues_of_plain hnode, hvals]) (hnode'.trans hnode)
  have hnoted := onlyIn_midpointNoted false true false w.ftn.midpoint 0 w
  obtain ⟨hvalid, hmid, -, -, hrun, -, -, hrxn⟩ := midpointNoted_fields false true false w.ftn.midpoint 0 w
  generalize midpointNoted false true false w.ftn.midpoint 0 w = x at *
  have hwfx : RegsWf x := wf_of_only (wf_of_only hwfm honly') hnoted
  have hxregs : RegsOnly [Off.FTN_RX_MISSING] s x := fun k hk => (reg_of_only k hnoted).trans (hwregs k hk)
  rw [show (w.ftn.su == SuState.integrated) = true by rw [hmarked.su, hftn, hsu]; rfl, when_true, hmarked.noMidRun, hftn] at hform
  have hcounted : OnlyIn [.regs, .icus] x (formMidpoint w) := by
    rw [hform]
    exact only_bump (only_when only_raiseIrq (only_bumpBy only_refl))
  have hftnx : (formMidpoint w).ftn = x.ftn := hcounted.2 .ftn (by decide)
  have hrxt : (formMidpoint w).rxOf i = (s.rxOf i).missed := by
    rw [rxOf_congr (congrArg Ftn.rx hftnx), rxOf_congr hrxn, hrx'', hrx', hrxOf]
  refine ⟨_, hexec, by rw [hrxt]; rfl, by rw [hrxt]; rfl, by rw [hftnx, hvalid], ?_, ?_, ?_, ?_, fun h => ?_, fun h => ?_, ?_,
    onlyIn_trans (onlyIn_mono hat (by decide)) (onlyIn_trans (onlyIn_mono honly (by decide)) (onlyIn_trans (onlyIn_mono honly' (by decide))
      (onlyIn_trans (onlyIn_mono hnoted (by decide)) (onlyIn_mono hcounted (by decide)))))⟩
  · rw [hftnx, hmid, hmarked.midpoint, hftn]
  · rw [hftnx, hrun, if_neg (by decide), hmarked.noMidRun, hftn]
  · rw [hform, reg_bump_ne _ _ _ (by decide), reg_of_only (P := [.icus]) _ (only_when only_raiseIrq only_refl), bumpBy, reg_setReg_ne _ _ _ _ (by decide),
      reg_of_only _ hnoted, reg_of_only _ honly', hcount, hreg]
  · rw [hform, reg_bump_unmasked _ _ (wf_when wf_raiseIrq (wf_bumpBy hwfx)) (by decide), reg_of_only (P := [.icus]) _ (only_when only_raiseIrq only_refl), bumpBy,
      reg_setReg_ne _ _ _ _ (by decide), hxregs _ (by decide)]
  · rw [hform]
    exact raised_bump (raised_when raised_raiseIrq_too (raised_bumpBy (raised_of_only (raised_of_only (hirq h) honly') hnoted)))
  · rw [hform, h, beq_self_eq_true, when_true]
    exact raised_bump (raised_raiseIrq _ _ (by decide))
  · rw [hform]
    exact regs_bump (regs_when regs_raiseIrq (regs_bumpBy (fun k hk => hxregs k fun h => hk (List.mem_cons.mpr (.inl (List.mem_singleton.mp h))))))

end

/-- Settles O30, command by command. -/
theorem basicCycles : Obligations.BasicCycles :=
  ⟨exists_next_basicCycleStart, exists_next_clusterCycleStart, exists_next_coldstartFrame, exists_next_cyclePoint, exists_next_midpoint, exists_next_missing⟩

end Sys2Proof.Machine

namespace Sys2Proof.Machine

set_option Elab.async false

/-! ### What a span of module time leaves (R225) -/

section
variable {P : List Part} {R : List Nat} {b s t y w : State}

theorem powered_toTb0 (n : Nat) (s : State) : (toTb0 n s).isl.powered = s.isl.powered := by
  have hadv : ∀ dt : Nat, (advance dt s).isl.powered = s.isl.powered := fun dt => by
    show (if s.isl.powered then _ else s.isl).powered = _
    split <;> rfl
  rw [toTb0_eq rfl]
  split
  · rfl
  · exact hadv _

theorem onlyIn_toTb0 (n : Nat) (s : State) : OnlyIn [.now, .time, .nv, .isl] s (toTb0 n s) := only_toTb0 only_refl

theorem up_congr (hpowered : t.isl.powered = s.isl.powered) (hsys : t.sys = s.sys) : t.up = s.up := by
  unfold State.up State.hubOn
  rw [hpowered, hsys]

theorem sys_toTb0 (n : Nat) (s : State) : (toTb0 n s).sys = s.sys := by
  have h := onlyIn_toTb0 n s
  exact h.2 .sys (by decide)

theorem up_toTb0 (n : Nat) (s : State) : (toTb0 n s).up = s.up := up_congr (powered_toTb0 n s) (sys_toTb0 n s)

theorem recUp_toTb0 (n : Nat) (s : State) : (toTb0 n s).recUp = s.recUp := by
  unfold State.recUp
  rw [up_toTb0, (onlyIn_toTb0 n s).2 .erec (by decide)]

/-! ### Sending on both channels with no star port to serve (R226, R234) -/

theorem sendStars_zero (f : Frame) (s : State) : sendStars 0 f s = s := by
  have hfold : ∀ ps : List Nat, ps.foldl (fun s p => if Nat.testBit 0 p then sendStar p f s else s) s = s := by
    intro ps
    induction ps with
    | nil => rfl
    | cons p ps ih =>
      rw [List.foldl_cons, if_neg (by rw [Nat.zero_testBit]; decide), ih]
  exact hfold _

theorem bothLive_iff : s.bothLive = true ↔ s.ftn.roleA = .normal ∧ s.ftn.roleB = .normal ∧ s.txLive = true := by
  unfold Machine.State.bothLive
  rw [Bool.and_eq_true, Bool.and_eq_true, beq_iff_eq, beq_iff_eq, and_assoc]

/-- What a state later in the same command still has of the channels. -/
structure SameNet (s t : State) : Prop where
  sys : t.sys = s.sys
  roleA : t.ftn.roleA = s.ftn.roleA
  roleB : t.ftn.roleB = s.ftn.roleB
  ports : t.ftn.ports = s.ftn.ports
  su : t.ftn.su = s.ftn.su
  cycle : t.ftn.cycle = s.ftn.cycle
  regs : t.regs = s.regs
  now : s.now ≤ t.now

theorem SameNet.bothLive (h : SameNet s t) (hlive : s.bothLive = true) : t.bothLive = true := by
  obtain ⟨hA, hB, hlive⟩ := bothLive_iff.mp hlive
  exact bothLive_iff.mpr ⟨h.roleA.trans hA, h.roleB.trans hB, txLive_later hlive h.sys h.ports (reg_congr _ _ _ h.regs) h.now⟩

theorem sameNet_toTb0 (n : Nat) (s : State) : SameNet s (toTb0 n s) := by
  have h := onlyIn_toTb0 n s
  have hftn : (toTb0 n s).ftn = s.ftn := h.2 .ftn (by decide)
  refine ⟨h.2 .sys (by decide), ?_, ?_, ?_, ?_, ?_, h.2 .regs (by decide), le_now_toTb0 n s⟩ <;> rw [hftn]

theorem emitOwn_of_live {e : Slot} {f : Frame} (hlive : s.bothLive = true) (hstar : e.starFwd = 0) :
    emitOwn e f s = bump Off.FTN_TX_FRAMES { s with out := s.out ++ [.frame 0 f, .frame 3 f] } := by
  obtain ⟨hA, hB, hlive⟩ := bothLive_iff.mp hlive
  unfold emitOwn
  rw [sendBoth_of_live hlive hA hB, hstar]
  unfold when
  rw [sendStars_zero, ite_self]

/-- An own frame on both channels, counted. -/
theorem emitOwn_sends {e : Slot} {f : Frame} (hwf : RegsWf s) (hlive : s.bothLive = true) (hstar : e.starFwd = 0) :
    (emitOwn e f s).out = s.out ++ [.frame 0 f, .frame 3 f] ∧ (emitOwn e f s).reg Off.FTN_TX_FRAMES = s.reg Off.FTN_TX_FRAMES + 1 ∧
      RegsOnly [Off.FTN_TX_FRAMES] s (emitOwn e f s) ∧ OnlyIn [.regs, .out] s (emitOwn e f s) := by
  have hsent : OnlyIn [.out] s { s with out := s.out ++ [.frame 0 f, .frame 3 f] } := only_mk only_refl
  have hbump : OnlyIn [.regs] { s with out := s.out ++ [.frame 0 f, .frame 3 f] } (emitOwn e f s) := by
    rw [emitOwn_of_live hlive hstar]
    exact only_bump only_refl
  refine ⟨hbump.2 .out (by decide), ?_, ?_, onlyIn_trans (onlyIn_mono hsent (by decide)) (onlyIn_mono hbump (by decide))⟩
  · rw [emitOwn_of_live hlive hstar, reg_bump_unmasked _ _ (wf_of_only hwf hsent) (by decide), reg_of_only _ hsent]
  · rw [emitOwn_of_live hlive hstar]
    exact regs_bump fun k _ => reg_of_only k hsent

/-! ### The frame of an own entry (R221 to R225) -/

/-- What every frame of own entry `i` at `tx` has. -/
structure OwnFrameAt (s : State) (i tx kind : Nat) (f : Frame) : Prop where
  kind : f.kind = kind
  addressed : OwnAddressed f s
  slot : f.slot = i
  txTime : f.txTime = ctime tx
  cycle : f.cycle = cycleField s.matrix.m (tx / s.matrix.t)
  hop : f.hop = 0
  looped : f.looped = false
  seq : f.seq = ((look s.ftn.seqs i).getD 65535 + 1) % 65536

theorem ownFrameAt_ownFrame {i tx kind dest obj : Nat} {sub info : Byte} {released : Bool} {payload : List Byte} (hregs : w.regs = s.regs) (hseqs : w.ftn.seqs = s.ftn.seqs) :
    OwnFrameAt s i tx kind (ownFrame kind i dest tx obj sub info released payload w).1 := by
  refine ⟨rfl, ownAddressed_ownFrame (ownAddr_congr (reg_congr _ _ _ hregs)), rfl, rfl, ?_, rfl, rfl, ?_⟩
  · rw [← matrix_congr hregs]
    rfl
  · rw [← hseqs]
    rfl

theorem ownFrame_content (kind slot dest tx obj : Nat) (sub info : Byte) (released : Bool) (payload : List Byte) (s : State) :
    (ownFrame kind slot dest tx obj sub info released payload s).1.info = info ∧ (ownFrame kind slot dest tx obj sub info released payload s).1.payload = payload ∧
      (ownFrame kind slot dest tx obj sub info released payload s).1.dest = dest := ⟨rfl, rfl, rfl⟩

/-- What sending an own frame leaves of a state. -/
structure FrameSent (s t : State) (f : Frame) : Prop where
  out : t.out = s.out ++ [.frame 0 f, .frame 3 f]
  count : t.reg Off.FTN_TX_FRAMES = s.reg Off.FTN_TX_FRAMES + 1
  su : t.ftn.su = s.ftn.su
  cycle : t.ftn.cycle = s.ftn.cycle
  icus : t.icus = s.icus
  regs : RegsOnly [Off.FTN_TX_FRAMES] s t
  frame : OnlyIn [.now, .free, .isl, .regs, .out, .nv, .time, .ftn] s t

theorem frameSent_emitOwn {e : Slot} {f : Frame} (hwf : RegsWf s) (hlive : s.bothLive = true) (hstar : e.starFwd = 0) (hnet : SameNet s y)
    (honly : OnlyIn [.now, .free, .isl, .nv, .time, .ftn] s y) : FrameSent s (emitOwn e f y) f := by
  obtain ⟨hout, hcount, hregs, hframe⟩ := emitOwn_sends (s := y) (e := e) (f := f) (wf_of_only hwf honly) (hnet.bothLive hlive) hstar
  have hftn : (emitOwn e f y).ftn = y.ftn := hframe.2 .ftn (by decide)
  refine ⟨?_, ?_, ?_, ?_, (hframe.2 .icus (by decide)).trans (honly.2 .icus (by decide)), fun k hk => (hregs k hk).trans (reg_of_only k honly),
    onlyIn_trans (onlyIn_mono honly (by decide)) (onlyIn_mono hframe (by decide))⟩
  · rw [hout, honly.2 .out (by decide)]
  · rw [hcount, reg_of_only _ honly]
  · rw [hftn, hnet.su]
  · rw [hftn, hnet.cycle]

/-! ### Build points (R225) -/

section
variable {i n tx : Nat} {e : Slot} {be : Bool}

/-- The build point of own entry `i` with its occurrence at `tx`. -/
structure BuildPoint (s : State) (i n tx : Nat) (e : Slot) : Prop where
  up : s.up = true
  entry : s.ftn.active.entry i = some e
  at_ : s.buildAt e.start = some (n, tx)
  own : e.owner = s.ownAddr
  occurs : e.occurs (n % s.matrix.m) = true

variable (h : BuildPoint s i n tx e)
include h

theorem exec_frameBuild (corrupt : Bool) :
    exec (.frameBuild i be corrupt) s = .next (if corrupt then hubFail (toTb0 (tx - 2000) s)
      else if e.kind == 1 then
        if s.ftn.su == .integrated || (s.ftn.su == .aligned && s.ftn.cold && s.syncNode && s.ftn.countFrom.isSome) then
          emitOwn e (ownFrame 3 i 65535 tx 0 0 0 false (toTb0 (tx - 2000) s).syncPayload (toTb0 (tx - 2000) s)).1
            (ownFrame 3 i 65535 tx 0 0 0 false (toTb0 (tx - 2000) s).syncPayload (toTb0 (tx - 2000) s)).2
        else s
      else if e.kind == 0 && s.ftn.su == .integrated then
        if (toTb0 (tx - 2000) s).nullReason e tx be == 0 then sendData i e tx (toTb0 (tx - 2000) s)
        else sendNull i e tx ((toTb0 (tx - 2000) s).nullReason e tx be) (toTb0 (tx - 2000) s)
      else s) := by
  obtain ⟨hup, hentry, hat, hown, hocc⟩ := h
  show Host.Outcome.next (match s.ftn.active.entry i with | none => s | some e => _) = _
  rw [hentry]
  dsimp only
  rw [hat]
  dsimp only
  rw [if_neg (by rw [hup, hown, hocc, beq_self_eq_true]; decide)]

theorem exists_next_corruptFrame :
    ∃ t, exec (.frameBuild i be true) s = .next t ∧ FellSilent s t ∧ t.sys.hubFault = true ∧ OnlyIn (.now :: .time :: silentParts) s t := by
  have hexec := exec_frameBuild (be := be) h true
  rw [if_pos rfl] at hexec
  generalize tx - 2000 = ns at *
  obtain ⟨hsys, hsilent, honly⟩ := hubFail_of_up ((up_toTb0 ns s).trans h.up)
  have hat := onlyIn_toTb0 ns s
  refine ⟨_, hexec, fellSilent_of_same hsilent (congrArg Sys.mode (sys_toTb0 ns s)), ?_, onlyIn_trans (onlyIn_mono hat (by decide)) (onlyIn_mono honly (by decide))⟩
  rw [hsys]

end

/-! ### What an entry sends (R226 to R229) -/

theorem maj_congr (hregs : t.regs = s.regs) (hvot : t.vot = s.vot) (off : Nat) : t.maj off = s.maj off := by
  have hlanes : t.lanesIn = s.lanesIn := lanesIn_congr fun k => show (t.vot.lanes.get k).inVote = (s.vot.lanes.get k).inVote by rw [hvot]
  have hwords : (fun l => t.reg (laneKey l off)) = fun l => s.reg (laneKey l off) := funext fun l => reg_congr _ _ _ hregs
  unfold State.maj
  rw [hlanes, hwords]

theorem cycleNs_congr (hregs : t.regs = s.regs) (hvot : t.vot = s.vot) : t.cycleNs = s.cycleNs := by
  have hcoupled : t.coupled = s.coupled := by
    unfold State.coupled State.ftnNode
    rw [maj_congr hregs hvot, reg_congr _ _ _ hregs]
  unfold State.cycleNs
  rw [hcoupled, matrix_congr hregs, maj_congr hregs hvot, maj_congr hregs hvot]

theorem nullReason_congr (h : OnlyIn [.now, .time, .nv, .isl] s t) (e : Slot) (tx : Nat) (be : Bool) : t.nullReason e tx be = s.nullReason e tx be := by
  have hregs : t.regs = s.regs := h.2 .regs (by decide)
  have hftn : t.ftn = s.ftn := h.2 .ftn (by decide)
  have hcyc : t.cyc = s.cyc := h.2 .cyc (by decide)
  have hsys : t.sys = s.sys := h.2 .sys (by decide)
  have hstale : t.stale tx = s.stale tx := by
    unfold State.stale
    rw [hcyc, hsys, cycleNs_congr hregs (h.2 .vot (by decide)), matrix_congr hregs]
  unfold State.nullReason State.txBuf State.held
  rw [hstale, hftn, hsys, hcyc]

theorem sameNet_ownFrame {kind slot dest tx obj : Nat} {sub info : Byte} {released : Bool} {payload : List Byte} (h : SameNet s w) :
    SameNet s (ownFrame kind slot dest tx obj sub info released payload w).2 :=
  ⟨h.sys, h.roleA, h.roleB, h.ports, h.su, h.cycle, h.regs, h.now⟩

/-- The network after the note whether the last frame was NULL. -/
def nullNoted (v : Bool) (s : State) : State := { s with ftn := { s.ftn with nullSent := v } }

theorem onlyIn_nullNoted (v : Bool) (s : State) : OnlyIn [.ftn] s (nullNoted v s) := only_mk only_refl

theorem sameNet_nullNoted {v : Bool} (h : SameNet s w) : SameNet s (nullNoted v w) := ⟨h.sys, h.roleA, h.roleB, h.ports, h.su, h.cycle, h.regs, h.now⟩

/-- A state within a command before anything is sent. -/
structure Before (s u : State) : Prop where
  net : SameNet s u
  frame : OnlyIn [.now, .time, .nv, .isl] s u
  recording : u.recUp = s.recUp

theorem before_toTb0 (n : Nat) (s : State) : Before s (toTb0 n s) := ⟨sameNet_toTb0 n s, onlyIn_toTb0 n s, recUp_toTb0 n s⟩

section
variable {u : State} {i tx reason : Nat} {e : Slot} (hwf : RegsWf s) (hlive : s.bothLive = true) (hstar : e.starFwd = 0) (hu : Before s u)
include hwf hlive hstar hu

/-- A SYNC frame. -/
theorem sendSync_sends : ∃ f, OwnFrameAt s i tx 3 f ∧
    FrameSent s (emitOwn e (ownFrame 3 i 65535 tx 0 0 0 false u.syncPayload u).1 (ownFrame 3 i 65535 tx 0 0 0 false u.syncPayload u).2) f :=
  ⟨_, ownFrameAt_ownFrame hu.net.regs (congrArg Ftn.seqs (hu.frame.2 .ftn (by decide))),
    frameSent_emitOwn hwf hlive hstar (sameNet_ownFrame hu.net) (only_ownFrame (onlyIn_mono hu.frame (by decide)))⟩

/-- A NULL frame in the place of DATA. -/
theorem sendNull_sends : ∃ f, OwnFrameAt s i tx 2 f ∧ f.info = BitVec.ofNat 8 reason ∧ f.payload = beBytes 4 s.imageCycle ∧
    (sendNull i e tx reason u).out = s.out ++ [.frame 0 f, .frame 3 f] ∧
    (sendNull i e tx reason u).reg Off.FTN_TX_FRAMES = s.reg Off.FTN_TX_FRAMES + 1 ∧ (sendNull i e tx reason u).reg Off.FTN_TX_NULL = s.reg Off.FTN_TX_NULL + 1 ∧
    (s.ftn.nullSent = false → Raised Irq.FTN_NULL_SENT (sendNull i e tx reason u)) ∧ (reason = 6 → InQueue 0x0704 [iU16 1 i] s (sendNull i e tx reason u)) ∧
    (sendNull i e tx reason u).ftn.su = s.ftn.su ∧ (sendNull i e tx reason u).ftn.cycle = s.ftn.cycle ∧
    RegsOnly [Off.FTN_TX_FRAMES, Off.FTN_TX_NULL, Off.REC_LOST_CNT] s (sendNull i e tx reason u) ∧
    OnlyIn (.now :: .free :: .out :: .nv :: .time :: .ftn :: recParts) s (sendNull i e tx reason u) := by
  have hftn : u.ftn = s.ftn := hu.frame.2 .ftn (by decide)
  have himage : u.imageCycle = s.imageCycle := by
    unfold State.imageCycle
    rw [hu.frame.2 .cyc (by decide)]
  have hdef : sendNull i e tx reason u = when (reason == 6) (record 0x0704 [iU16 1 i]) (when (!u.ftn.nullSent) (raiseIrq Irq.FTN_NULL_SENT)
      (bump Off.FTN_TX_NULL (emitOwn e (ownFrame 2 i 65535 tx 0 0 (BitVec.ofNat 8 reason) false (beBytes 4 u.imageCycle) u).1
        (nullNoted true (ownFrame 2 i 65535 tx 0 0 (BitVec.ofNat 8 reason) false (beBytes 4 u.imageCycle) u).2)))) := rfl
  rw [hdef, himage, hftn]
  have hframe := ownFrameAt_ownFrame (i := i) (tx := tx) (kind := 2) (dest := 65535) (obj := 0) (sub := 0) (info := BitVec.ofNat 8 reason) (released := false)
    (payload := beBytes 4 s.imageCycle) hu.net.regs (congrArg Ftn.seqs hftn)
  obtain ⟨hinfo, hpayload, -⟩ := ownFrame_content 2 i 65535 tx 0 0 (BitVec.ofNat 8 reason) false (beBytes 4 s.imageCycle) u
  have hown : OnlyIn [.now, .free, .isl, .nv, .time, .ftn] s (ownFrame 2 i 65535 tx 0 0 (BitVec.ofNat 8 reason) false (beBytes 4 s.imageCycle) u).2 :=
    only_ownFrame (onlyIn_mono hu.frame (by decide))
  have hnet := sameNet_nullNoted (v := true) (sameNet_ownFrame (kind := 2) (slot := i) (dest := 65535) (tx := tx) (obj := 0) (sub := 0) (info := BitVec.ofNat 8 reason) (released := false)
    (payload := beBytes 4 s.imageCycle) hu.net)
  have hrec : (ownFrame 2 i 65535 tx 0 0 (BitVec.ofNat 8 reason) false (beBytes 4 s.imageCycle) u).2.recUp = s.recUp := (recUp_of_only (P := [.ftn]) (only_ownFrame only_refl)).trans hu.recording
  generalize ownFrame 2 i 65535 tx 0 0 (BitVec.ofNat 8 reason) false (beBytes 4 s.imageCycle) u = r at *
  have hnoted := onlyIn_nullNoted true r.2
  have hbefore := onlyIn_trans hown (onlyIn_mono hnoted (by decide))
  have hrec' : (nullNoted true r.2).recUp = s.recUp := (recUp_of_only hnoted).trans hrec
  obtain ⟨hout, hcount, hsu, hcycle, -, hregs, hsent⟩ := frameSent_emitOwn (e := e) (f := r.1) hwf hlive hstar hnet hbefore
  obtain ⟨-, -, -, hemit⟩ := emitOwn_sends (s := nullNoted true r.2) (e := e) (f := r.1) (wf_of_only hwf hbefore) (hnet.bothLive hlive) hstar
  have hwfx : RegsWf (emitOwn e r.1 (nullNoted true r.2)) := by
    rw [emitOwn_of_live (hnet.bothLive hlive) hstar]
    exact wf_bump (wf_of_only (wf_of_only hwf hbefore) (P := [.out]) (only_mk only_refl))
  have hrecx : (emitOwn e r.1 (nullNoted true r.2)).recUp = s.recUp := (recUp_of_only hemit).trans hrec'
  have hqueue : (emitOwn e r.1 (nullNoted true r.2)).erec = s.erec := (hemit.2 .erec (by decide)).trans (hbefore.2 .erec (by decide))
  generalize emitOwn e r.1 (nullNoted true r.2) = x at *
  have hraise : OnlyIn [.regs, .icus] x (when (!s.ftn.nullSent) (raiseIrq Irq.FTN_NULL_SENT) (bump Off.FTN_TX_NULL x)) := only_when only_raiseIrq (only_bump only_refl)
  have hnull : (when (!s.ftn.nullSent) (raiseIrq Irq.FTN_NULL_SENT) (bump Off.FTN_TX_NULL x)).reg Off.FTN_TX_NULL = s.reg Off.FTN_TX_NULL + 1 := by
    rw [reg_of_only (P := [.icus]) _ (only_when only_raiseIrq only_refl), reg_bump_unmasked _ _ hwfx (by decide), hregs _ (by decide)]
  have hfirst : s.ftn.nullSent = false → Raised Irq.FTN_NULL_SENT (when (!s.ftn.nullSent) (raiseIrq Irq.FTN_NULL_SENT) (bump Off.FTN_TX_NULL x)) := fun h => by
    rw [h]
    exact raised_raiseIrq _ _ (by decide)
  have hcounted : RegsOnly [Off.FTN_TX_NULL] x (when (!s.ftn.nullSent) (raiseIrq Irq.FTN_NULL_SENT) (bump Off.FTN_TX_NULL x)) := regs_when regs_raiseIrq (regs_bump regs_refl)
  generalize when (!s.ftn.nullSent) (raiseIrq Irq.FTN_NULL_SENT) (bump Off.FTN_TX_NULL x) = v at *
  have hrecord : OnlyIn recParts v (when (reason == 6) (record 0x0704 [iU16 1 i]) v) := only_when only_record only_refl
  have hlost : RegsOnly [Off.REC_LOST_CNT] v (when (reason == 6) (record 0x0704 [iU16 1 i]) v) := regs_when regs_record regs_refl
  refine ⟨r.1, hframe, hinfo, hpayload, ?_, ?_, ?_, fun h => raised_when raised_record (hfirst h), fun h => ?_, ?_, ?_, ?_,
    onlyIn_trans (onlyIn_mono hsent (by decide)) (onlyIn_trans (onlyIn_mono hraise (by decide)) (onlyIn_mono hrecord (by decide)))⟩
  · rw [hrecord.2 .out (by decide), hraise.2 .out (by decide), hout]
  · rw [hlost _ (by decide), hcounted _ (by decide), hcount]
  · rw [hlost _ (by decide), hnull]
  · rw [h]
    exact inQueue_record ((recUp_of_only hraise).trans hrecx) (by rw [hraise.2 .erec (by decide), hqueue]; omega)
  · rw [hrecord.2 .ftn (by decide), hraise.2 .ftn (by decide), hsu]
  · rw [hrecord.2 .ftn (by decide), hraise.2 .ftn (by decide), hcycle]
  · exact fun k hk => by
      simp only [List.mem_cons, List.not_mem_nil, or_false, not_or] at hk
      obtain ⟨hframes, hnulls, hlosts⟩ := hk
      rw [hlost k (by simpa using hlosts), hcounted k (by simpa using hnulls), hregs k (by simpa using hframes)]

end

/-- A DATA entry of the image sends while there is an image (R228). -/
theorem exists_image_of_data {e : Slot} {tx : Nat} {be : Bool} (hmap : e.map = 0) (h : s.nullReason e tx be = 0) : ∃ im, s.cyc.image = some im := by
  cases himage : s.cyc.image with
  | some im => exact ⟨im, rfl⟩
  | none =>
    have hnone : (!s.cyc.released || (none : Option Image).isNone) = true := Bool.or_true _
    unfold State.nullReason at h
    rw [hmap, himage, if_neg (by decide)] at h
    rw [if_pos hnone] at h
    repeat' split at h
    all_goals contradiction

/-- What a DATA frame of an own entry leaves. -/
structure DataSent (s t : State) (i tx : Nat) (e : Slot) (f : Frame) : Prop where
  frame : OwnFrameAt s i tx 1 f
  content : e.map = 1 → f.dest = fld (s.txBuf e.buf).hdr 0 16 ∧ f.payload = (List.range e.plen).map (s.txBuf e.buf).byte
  out : t.out = s.out ++ [.frame 0 f, .frame 3 f]
  count : t.reg Off.FTN_TX_FRAMES = s.reg Off.FTN_TX_FRAMES + 1
  buffer : e.map = 1 → (t.txBuf e.buf).sent = ((s.txBuf e.buf).sent + 1) % 65536 ∧ (e.irq = true → Raised Irq.FTN_TX_DONE t)
  su : t.ftn.su = s.ftn.su
  cycle : t.ftn.cycle = s.ftn.cycle
  regs : RegsOnly [Off.FTN_TX_FRAMES] s t
  only : OnlyIn [.now, .free, .isl, .regs, .out, .nv, .time, .ftn, .icus] s t

theorem FrameSent.dataSent {i tx : Nat} {e : Slot} {f : Frame} (h : FrameSent s t f) (hmap : e.map ≠ 1) (hf : OwnFrameAt s i tx 1 f) : DataSent s t i tx e f :=
  ⟨hf, fun h => absurd h hmap, h.out, h.count, fun h => absurd h hmap, h.su, h.cycle, h.regs, onlyIn_mono h.frame (by decide)⟩

/-- A buffer as its frame leaves: RELEASED data is used up, a kept buffer is PREPARED again (R244). -/
def TxBuf.afterFrame (x : TxBuf) : TxBuf :=
  { x with state := if bit x.cfg 9 && !(x.state == .released) then .prepared else .sent, sent := (x.sent + 1) % 65536 }

theorem TxBuf.afterFrame_state (x : TxBuf) : x.afterFrame.state ≠ .empty := by
  show (if bit x.cfg 9 && !(x.state == .released) then TxState.prepared else .sent) ≠ .empty
  split <;> decide

theorem FrameSent.dataSent_buffer {i tx : Nat} {e : Slot} {f : Frame} (h : FrameSent s t f) (hf : OwnFrameAt s i tx 1 f)
    (hcontent : f.dest = fld (s.txBuf e.buf).hdr 0 16 ∧ f.payload = (List.range e.plen).map (s.txBuf e.buf).byte) :
    DataSent s (when e.irq (raiseIrq Irq.FTN_TX_DONE) (setTxBuf e.buf (s.txBuf e.buf).afterFrame t)) i tx e f := by
  have hset : OnlyIn [.ftn] t (setTxBuf e.buf (s.txBuf e.buf).afterFrame t) := only_setTxBuf only_refl
  have hbuf : (setTxBuf e.buf (s.txBuf e.buf).afterFrame t).txBuf e.buf = (s.txBuf e.buf).afterFrame := txBuf_setTxBuf_self t (TxBuf.afterFrame_state _)
  have hsu : (setTxBuf e.buf (s.txBuf e.buf).afterFrame t).ftn.su = t.ftn.su ∧ (setTxBuf e.buf (s.txBuf e.buf).afterFrame t).ftn.cycle = t.ftn.cycle := ⟨rfl, rfl⟩
  generalize setTxBuf e.buf (s.txBuf e.buf).afterFrame t = v at *
  have hirq : OnlyIn [.icus] v (when e.irq (raiseIrq Irq.FTN_TX_DONE) v) := only_when only_raiseIrq only_refl
  have hftn : (when e.irq (raiseIrq Irq.FTN_TX_DONE) v).ftn = v.ftn := hirq.2 .ftn (by decide)
  obtain ⟨hsu, hcycle⟩ := hsu
  refine ⟨hf, fun _ => hcontent, ?_, ?_, fun _ => ⟨?_, fun hon => ?_⟩, ?_, ?_, fun k hk => ?_, onlyIn_trans (onlyIn_mono h.frame (by decide)) (onlyIn_trans (onlyIn_mono hset (by decide)) (onlyIn_mono hirq (by decide)))⟩
  · rw [hirq.2 .out (by decide), hset.2 .out (by decide), h.out]
  · rw [reg_of_only _ hirq, reg_of_only _ hset, h.count]
  · unfold State.txBuf at hbuf ⊢
    rw [hftn, hbuf]
    rfl
  · rw [hon]
    exact raised_raiseIrq _ _ (by decide)
  · rw [hftn, hsu, h.su]
  · rw [hftn, hcycle, h.cycle]
  · rw [reg_of_only _ hirq, reg_of_only _ hset, h.regs k hk]

section
variable {u : State} {i tx : Nat} {e : Slot} {be : Bool} (hwf : RegsWf s) (hlive : s.bothLive = true) (hstar : e.starFwd = 0) (hu : Before s u)
include hwf hlive hstar hu

theorem sendData_sends (hdata : s.nullReason e tx be = 0) : ∃ f, DataSent s (sendData i e tx u) i tx e f := by
  have hnet := sameNet_nullNoted (v := false) hu.net
  have hbefore : OnlyIn [.now, .free, .isl, .nv, .time, .ftn] s (nullNoted false u) := onlyIn_trans (onlyIn_mono hu.frame (by decide)) (onlyIn_mono (onlyIn_nullNoted false u) (by decide))
  have hseqs : (nullNoted false u).ftn.seqs = s.ftn.seqs := by
    show u.ftn.seqs = _
    rw [hu.frame.2 .ftn (by decide)]
  have hbuf : u.txBuf e.buf = s.txBuf e.buf := by
    unfold State.txBuf
    rw [hu.frame.2 .ftn (by decide)]
  match hmap : e.map with
  | 0 =>
    obtain ⟨im, himage⟩ := exists_image_of_data hmap hdata
    have himage' : u.cyc.image = some im := by rw [hu.frame.2 .cyc (by decide), himage]
    unfold sendData
    rw [hmap]
    dsimp only
    rw [himage']
    exact ⟨_, (frameSent_emitOwn hwf hlive hstar (sameNet_ownFrame hnet) (only_ownFrame hbefore)).dataSent (by omega) (ownFrameAt_ownFrame hnet.regs hseqs)⟩
  | 1 =>
    unfold sendData
    rw [hmap]
    dsimp only
    rw [hbuf]
    exact ⟨_, (frameSent_emitOwn hwf hlive hstar (sameNet_ownFrame hnet) (only_ownFrame hbefore)).dataSent_buffer (ownFrameAt_ownFrame hnet.regs hseqs) ⟨rfl, rfl⟩⟩
  | m + 2 =>
    unfold sendData
    rw [hmap]
    dsimp only
    refine ⟨_, (frameSent_emitOwn hwf hlive hstar ?_ (only_mk (only_ownFrame hbefore))).dataSent (by omega) (ownFrameAt_ownFrame (w := nullNoted false u) hnet.regs hseqs)⟩
    exact ⟨hnet.sys, hnet.roleA, hnet.roleB, hnet.ports, hnet.su, hnet.cycle, hnet.regs, hnet.now⟩

end

theorem exists_next_frameBuild (s : State) (i n tx kind : Nat) (e : Slot) (be : Bool) (hwf : RegsWf s) (hup : s.up = true) (hsu : s.ftn.su = .integrated)
    (hentry : s.ftn.active.entry i = some e) (hat : s.buildAt e.start = some (n, tx)) (hown : e.owner = s.ownAddr) (hocc : e.occurs (n % s.matrix.m) = true)
    (hstar : e.starFwd = 0) (hlive : s.bothLive = true)
    (hkind : kind = 3 ∧ e.kind = 1 ∨ kind = 2 ∧ e.kind = 0 ∧ s.nullReason e tx be ≠ 0 ∨ kind = 1 ∧ e.kind = 0 ∧ s.nullReason e tx be = 0) :
    ∃ t, exec (.frameBuild i be false) s = .next t ∧
      (∃ f : Frame, f.kind = kind ∧ OwnAddressed f s ∧ f.slot = i ∧ f.txTime = ctime tx ∧ f.cycle = cycleField s.matrix.m (tx / s.matrix.t) ∧
        f.hop = 0 ∧ f.looped = false ∧ f.seq = ((look s.ftn.seqs i).getD 65535 + 1) % 65536 ∧
        (kind = 2 → f.info = BitVec.ofNat 8 (s.nullReason e tx be) ∧ f.payload = beBytes 4 s.imageCycle) ∧
        (kind = 1 → e.map = 1 → f.dest = fld (s.txBuf e.buf).hdr 0 16 ∧ f.payload = (List.range e.plen).map (s.txBuf e.buf).byte) ∧
        t.out = s.out ++ [.frame 0 f, .frame 3 f]) ∧
      t.reg Off.FTN_TX_FRAMES = s.reg Off.FTN_TX_FRAMES + 1 ∧ (kind = 2 → t.reg Off.FTN_TX_NULL = s.reg Off.FTN_TX_NULL + 1) ∧
      (kind = 1 → e.map = 1 → (t.txBuf e.buf).sent = ((s.txBuf e.buf).sent + 1) % 65536 ∧ (e.irq = true → Raised Irq.FTN_TX_DONE t)) ∧
      (kind = 2 → s.ftn.nullSent = false → Raised Irq.FTN_NULL_SENT t) ∧
      (kind = 2 → s.nullReason e tx be = 6 → InQueue 0x0704 [iU16 1 i] s t) ∧ t.ftn.su = s.ftn.su ∧ t.ftn.cycle = s.ftn.cycle ∧
      RegsOnly [Off.FTN_TX_FRAMES, Off.FTN_TX_NULL, Off.REC_LOST_CNT] s t ∧
      OnlyIn (.now :: .free :: .out :: .nv :: .time :: .ftn :: recParts) s t := by
  have hexec := exec_frameBuild (be := be) ⟨hup, hentry, hat, hown, hocc⟩ false
  have hu := before_toTb0 (tx - 2000) s
  generalize toTb0 (tx - 2000) s = u at *
  have hintegrated : (s.ftn.su == SuState.integrated) = true := beq_iff_eq.mpr hsu
  have hwider : ∀ {t : State}, RegsOnly [Off.FTN_TX_FRAMES] s t → RegsOnly [Off.FTN_TX_FRAMES, Off.FTN_TX_NULL, Off.REC_LOST_CNT] s t := fun h k hk =>
    h k fun hmem => hk (List.mem_cons.mpr (.inl (List.mem_singleton.mp hmem)))
  rw [if_neg (by decide), nullReason_congr hu.frame, hintegrated] at hexec
  rcases hkind with ⟨rfl, hk⟩ | ⟨rfl, hk, hreason⟩ | ⟨rfl, hk, hreason⟩
  · rw [if_pos (beq_iff_eq.mpr hk), if_pos (Bool.true_or _)] at hexec
    obtain ⟨f, hf, hsent⟩ := sendSync_sends (i := i) (tx := tx) hwf hlive hstar hu
    exact ⟨_, hexec, ⟨f, hf.kind, hf.addressed, hf.slot, hf.txTime, hf.cycle, hf.hop, hf.looped, hf.seq, fun h => absurd h (by decide), fun h => absurd h (by decide), hsent.out⟩,
      hsent.count, fun h => absurd h (by decide), fun h => absurd h (by decide), fun h => absurd h (by decide), fun h => absurd h (by decide), hsent.su, hsent.cycle, hwider hsent.regs,
      onlyIn_mono hsent.frame (by decide)⟩
  · rw [if_neg (by rw [hk]; decide), if_pos (by rw [hk]; decide), if_neg (by rwa [beq_iff_eq])] at hexec
    obtain ⟨f, hf, hinfo, hpayload, hout, hcount, hnull, hraised, hqueue, hsu', hcycle, hregs, honly⟩ :=
      sendNull_sends (i := i) (tx := tx) (reason := s.nullReason e tx be) hwf hlive hstar hu
    exact ⟨_, hexec, ⟨f, hf.kind, hf.addressed, hf.slot, hf.txTime, hf.cycle, hf.hop, hf.looped, hf.seq, fun _ => ⟨hinfo, hpayload⟩, fun h => absurd h (by decide), hout⟩,
      hcount, fun _ => hnull, fun h => absurd h (by decide), fun _ => hraised, fun _ => hqueue, hsu', hcycle, hregs, honly⟩
  · rw [if_neg (by rw [hk]; decide), if_pos (by rw [hk]; decide), if_pos (by rwa [beq_iff_eq])] at hexec
    obtain ⟨f, hf, hcontent, hout, hcount, hbuffer, hsu', hcycle, hregs, honly⟩ := sendData_sends (i := i) (tx := tx) hwf hlive hstar hu hreason
    exact ⟨_, hexec, ⟨f, hf.kind, hf.addressed, hf.slot, hf.txTime, hf.cycle, hf.hop, hf.looped, hf.seq, fun h => absurd h (by decide), fun _ => hcontent, hout⟩,
      hcount, fun h => absurd h (by decide), fun _ => hbuffer, fun h => absurd h (by decide), fun h => absurd h (by decide), hsu', hcycle, hwider hregs, onlyIn_mono honly (by decide)⟩

end

end Sys2Proof.Machine

namespace Sys2Proof.Machine

set_option Elab.async false

/-! ### The arbitrating queue (R235) -/

section
variable {s t u v : State} {i n tx : Nat} {e : Slot} {q : Queued} {f : Frame} {own : List ArbData}

/-- The queue without the frame chosen. -/
def arbTaken (q : Queued) (s : State) : State := { s with ftn := { s.ftn with arb := s.ftn.arb.erase q } }

/-- The queue with a frame. -/
def arbQueued (f : Frame) (s : State) : State := { s with ftn := { s.ftn with arb := s.ftn.arb ++ [⟨f, s.ftn.cycle⟩] } }

/-- The chosen frame leaves from a state (R225, R234). -/
def sendPicked (tx : Nat) (e : Slot) (own : Nat) (q : Queued) (s : State) : State :=
  let r := finishArb tx q.frame (arbTaken q s)
  r.2 |> sendBoth r.1 |> sendStars (e.starFwd ||| r.2.starMask r.1) r.1 |> when (r.1.source == own) (bump Off.FTN_TX_FRAMES)

theorem onlyIn_arbTaken (q : Queued) (s : State) : OnlyIn [.ftn] s (arbTaken q s) := only_mk only_refl

theorem onlyIn_arbQueued (f : Frame) (s : State) : OnlyIn [.ftn] s (arbQueued f s) := only_mk only_refl

theorem sameNet_arbTaken (h : SameNet s t) : SameNet s (arbTaken q t) := ⟨h.sys, h.roleA, h.roleB, h.ports, h.su, h.cycle, h.regs, h.now⟩

theorem sameNet_arbQueued (h : SameNet s t) : SameNet s (arbQueued f t) := ⟨h.sys, h.roleA, h.roleB, h.ports, h.su, h.cycle, h.regs, h.now⟩

theorem arbTaken_fields (q : Queued) (s : State) : (arbTaken q s).ftn.active = s.ftn.active ∧ (arbTaken q s).ftn.seqs = s.ftn.seqs := ⟨rfl, rfl⟩

theorem arb_arbTaken (h : s.ftn.arb = [q]) : (arbTaken q s).ftn.arb = [] := by
  show s.ftn.arb.erase q = []
  rw [h, List.erase_cons_head]

theorem queueArb_of_room (h : s.ftn.arb.length < 32) : queueArb f s = arbQueued f s := if_pos h

theorem queueOwn_nil (s : State) : queueOwn [] s = s := rfl

theorem exec_arbOccurrence (h : BuildPoint s i n tx e) (hsu : s.ftn.su = .integrated) (hkind : e.kind = 2) {ns : Nat} (hns : tx - 2000 = ns) :
    exec (.arbOccurrence i own) s = .next (match pickArb (queueOwn own (toTb0 ns s)).ftn.arb with
      | none => queueOwn own (toTb0 ns s)
      | some q => sendPicked tx e s.ownAddr q (queueOwn own (toTb0 ns s))) := by
  obtain ⟨hup, hentry, hat, hown, hocc⟩ := h
  show Host.Outcome.next (match s.ftn.active.entry i with | none => s | some e => _) = _
  rw [hentry]
  dsimp only
  rw [hat]
  dsimp only
  rw [if_pos (by simp only [hup, hsu, hkind, hown, hocc, beq_self_eq_true, Bool.and_true])]
  subst hns
  rfl

theorem exec_arbOccurrence_one (h : BuildPoint s i n tx e) (hsu : s.ftn.su = .integrated) (hkind : e.kind = 2) {ns : Nat} (hns : tx - 2000 = ns) (hv : queueOwn own (toTb0 ns s) = v)
    (hq : v.ftn.arb = [q]) : exec (.arbOccurrence i own) s = .next (sendPicked tx e s.ownAddr q v) := by
  rw [exec_arbOccurrence h hsu hkind hns, hv, hq]
  rfl

/-- A frame out on both channels. -/
def onBoth (f : Frame) (s : State) : State := { s with out := s.out ++ [.frame 0 f, .frame 3 f] }

theorem onlyIn_onBoth (f : Frame) (s : State) : OnlyIn [.out] s (onBoth f s) := only_mk only_refl

theorem out_onBoth (f : Frame) (s : State) : (onBoth f s).out = s.out ++ [.frame 0 f, .frame 3 f] := rfl

/-- What a frame that leaves with no star port to serve is. -/
theorem sendPicked_of_live {r : Frame × State} {o : Nat} (hr : finishArb tx q.frame (arbTaken q v) = r) (hlive : r.2.bothLive = true) (hstar : e.starFwd = 0)
    (hmask : r.2.starMask r.1 = 0) :
    sendPicked tx e o q v = when (r.1.source == o) (bump Off.FTN_TX_FRAMES) (onBoth r.1 r.2) := by
  obtain ⟨hA, hB, hlive⟩ := bothLive_iff.mp hlive
  unfold sendPicked
  rw [hr]
  dsimp only
  rw [sendBoth_of_live hlive hA hB, hstar, hmask, Nat.or_self, sendStars_zero]
  rfl

theorem starMask_congr (hregs : t.regs = s.regs) (hactive : t.ftn.active = s.ftn.active) (f : Frame) : t.starMask f = s.starMask f := by
  unfold State.starMask
  rw [hactive, reg_congr _ _ _ hregs, ownAddr_congr (reg_congr _ _ _ hregs)]

theorem exists_next_arbForeign (s : State) (i n tx : Nat) (e : Slot) (q : Queued) (h : BuildPoint s i n tx e) (hsu : s.ftn.su = .integrated) (hkind : e.kind = 2)
    (hstar : e.starFwd = 0) (hlive : s.bothLive = true) (hq : s.ftn.arb = [q]) (hsource : q.frame.source ≠ s.ownAddr) (hmask : s.starMask q.frame = 0) :
    ∃ t, exec (.arbOccurrence i []) s = .next t ∧ t.out = s.out ++ [.frame 0 q.frame, .frame 3 q.frame] ∧ t.ftn.arb = [] ∧ t.ftn.seqs = s.ftn.seqs ∧
      OnlyIn [.now, .time, .nv, .isl, .out, .ftn] s t := by
  obtain ⟨ns, hns⟩ : ∃ ns, tx - 2000 = ns := ⟨_, rfl⟩
  have hu := before_toTb0 ns s
  have hftn : (toTb0 ns s).ftn = s.ftn := hu.frame.2 .ftn (by decide)
  have hexec := exec_arbOccurrence_one (own := []) (v := toTb0 ns s) h hsu hkind hns (queueOwn_nil _) ((congrArg Ftn.arb hftn).trans hq)
  generalize toTb0 ns s = u at *
  have htaken := onlyIn_arbTaken q u
  have hnet : SameNet s (arbTaken q u) := sameNet_arbTaken hu.net
  have hnone := arb_arbTaken ((congrArg Ftn.arb hftn).trans hq)
  obtain ⟨hactive, hseqs⟩ := arbTaken_fields q u
  have hfinish : finishArb tx q.frame (arbTaken q u) = (q.frame, arbTaken q u) :=
    if_neg (by rw [beq_iff_eq, ownAddr_congr (reg_congr _ _ _ hnet.regs)]; exact hsource)
  have hsend := sendPicked_of_live (o := s.ownAddr) hfinish (hnet.bothLive hlive) hstar (by rw [starMask_congr hnet.regs (hactive.trans (congrArg Ftn.active hftn)), hmask])
  rw [hsend] at hexec
  dsimp only at hexec
  rw [beq_false_of_ne hsource, when_false] at hexec
  have hsent := onlyIn_onBoth q.frame (arbTaken q u)
  have hftn' : (onBoth q.frame (arbTaken q u)).ftn = (arbTaken q u).ftn := hsent.2 .ftn (by decide)
  refine ⟨_, hexec, ?_, ?_, ?_, onlyIn_trans (onlyIn_mono hu.frame (by decide)) (onlyIn_trans (onlyIn_mono htaken (by decide)) (onlyIn_mono hsent (by decide)))⟩
  · rw [out_onBoth, htaken.2 .out (by decide), hu.frame.2 .out (by decide)]
  · rw [hftn', hnone]
  · rw [hftn', hseqs, hftn]

theorem exists_next_arbIdle (s : State) (i n tx : Nat) (e : Slot) (h : BuildPoint s i n tx e) (hsu : s.ftn.su = .integrated) (hkind : e.kind = 2)
    (hnone : s.ftn.arb = []) : ∃ t, exec (.arbOccurrence i []) s = .next t ∧ t.out = s.out ∧ OnlyIn [.now, .time, .nv, .isl] s t := by
  obtain ⟨ns, hns⟩ : ∃ ns, tx - 2000 = ns := ⟨_, rfl⟩
  have hu := onlyIn_toTb0 ns s
  have hexec := exec_arbOccurrence (own := []) h hsu hkind hns
  have harb : (toTb0 ns s).ftn.arb = [] := by rw [hu.2 .ftn (by decide), hnone]
  rw [queueOwn_nil, harb] at hexec
  exact ⟨_, hexec, hu.2 .out (by decide), hu⟩

/-- What every own frame of a minislot has. -/
structure ArbFrame (s : State) (tx kind : Nat) (f : Frame) : Prop where
  kind : f.kind = kind
  slot : f.slot = 0x7FFF
  txTime : f.txTime = ctime tx
  addressed : OwnAddressed f s

theorem arbFrame_ownFrame {kind dest obj : Nat} {sub info : Byte} {payload : List Byte} (hregs : t.regs = s.regs) :
    ArbFrame s tx kind (ownFrame kind 0x7FFF dest tx obj sub info false payload t).1 :=
  ⟨rfl, rfl, rfl, ownAddressed_ownFrame (ownAddr_congr (reg_congr _ _ _ hregs))⟩

theorem ownFrame_arb (kind slot dest tx obj : Nat) (sub info : Byte) (released : Bool) (payload : List Byte) (s : State) :
    (ownFrame kind slot dest tx obj sub info released payload s).2.ftn.arb = s.ftn.arb := rfl

/-- The queue's own frame leaves with its tags of this occurrence (R223, R224). -/
theorem arbOwn_sends {kind dest : Nat} {payload : List Byte} (hwf : RegsWf s) (hlive : s.bothLive = true) (hstar : e.starFwd = 0) (hnet : SameNet s v)
    (honly : OnlyIn [.now, .time, .nv, .isl, .ftn] s v) (hq : v.ftn.arb = [q]) (hsource : q.frame.source = s.ownAddr) (hkind : q.frame.kind = kind)
    (hdest : q.frame.dest = dest) (hpayload : q.frame.payload = payload) (hsingle : dest ≠ 65535) (hring : dest / 256 ≠ s.ownAddr / 256) :
    (sendPicked tx e s.ownAddr q v).ftn.arb = [] ∧
      (∃ f : Frame, f.kind = kind ∧ f.dest = dest ∧ f.payload = payload ∧ f.slot = 0x7FFF ∧ f.txTime = ctime tx ∧ OwnAddressed f s ∧
        (sendPicked tx e s.ownAddr q v).out = s.out ++ [.frame 0 f, .frame 3 f]) ∧
      (sendPicked tx e s.ownAddr q v).reg Off.FTN_TX_FRAMES = s.reg Off.FTN_TX_FRAMES + 1 ∧ RegsOnly [Off.FTN_TX_FRAMES] s (sendPicked tx e s.ownAddr q v) ∧
      OnlyIn [.now, .time, .nv, .isl, .regs, .out, .ftn] s (sendPicked tx e s.ownAddr q v) := by
  have htaken := onlyIn_arbTaken q v
  have hnet' : SameNet s (arbTaken q v) := sameNet_arbTaken hnet
  have haddr : (arbTaken q v).ownAddr = s.ownAddr := ownAddr_congr (reg_congr _ _ _ hnet'.regs)
  have hnone := arb_arbTaken hq
  have hfinish : finishArb tx q.frame (arbTaken q v) =
      ownFrame kind 0x7FFF dest tx q.frame.objIndex q.frame.objSub q.frame.info false payload (arbTaken q v) := by
    rw [← hkind, ← hdest, ← hpayload]
    exact if_pos (by rw [haddr, hsource, beq_self_eq_true])
  generalize hw : arbTaken q v = w at *
  have hown : OnlyIn [.ftn] w (ownFrame kind 0x7FFF dest tx q.frame.objIndex q.frame.objSub q.frame.info false payload w).2 := only_ownFrame only_refl
  have hframe : ArbFrame s tx kind (ownFrame kind 0x7FFF dest tx q.frame.objIndex q.frame.objSub q.frame.info false payload w).1 := arbFrame_ownFrame hnet'.regs
  have hcontent := ownFrame_content kind 0x7FFF dest tx q.frame.objIndex q.frame.objSub q.frame.info false payload w
  have hnet'' := sameNet_ownFrame (kind := kind) (slot := 0x7FFF) (dest := dest) (tx := tx) (obj := q.frame.objIndex) (sub := q.frame.objSub) (info := q.frame.info)
    (released := false) (payload := payload) hnet'
  have harb := ownFrame_arb kind 0x7FFF dest tx q.frame.objIndex q.frame.objSub q.frame.info false payload w
  generalize ownFrame kind 0x7FFF dest tx q.frame.objIndex q.frame.objSub q.frame.info false payload w = r at *
  obtain ⟨-, hpayload', hdest'⟩ := hcontent
  obtain ⟨hkind', hslot, htx, haddressed⟩ := hframe
  obtain ⟨-, -, hsource', -⟩ := id haddressed
  have hbefore := onlyIn_trans honly (onlyIn_trans (onlyIn_mono htaken (by decide)) (onlyIn_mono hown (by decide)))
  have hmask : r.2.starMask r.1 = 0 := by
    have hwindow : frameWindow r.1 = 1 := by
      unfold frameWindow
      rw [hslot]
    unfold State.starMask
    rw [hwindow, hdest']
    rw [if_neg (by rwa [beq_iff_eq]), ownAddr_congr (reg_congr _ _ _ hnet''.regs), beq_false_of_ne hring]
    rfl
  rw [sendPicked_of_live (by rw [hw]; exact hfinish) (hnet''.bothLive hlive) hstar hmask, hsource', beq_self_eq_true, when_true]
  have hsent := onlyIn_onBoth r.1 r.2
  have hcount : OnlyIn [.regs] (onBoth r.1 r.2) (bump Off.FTN_TX_FRAMES (onBoth r.1 r.2)) := only_bump only_refl
  have hsentRegs : ∀ k, (onBoth r.1 r.2).reg k = s.reg k := fun k => (reg_of_only k hsent).trans (reg_of_only k hbefore)
  refine ⟨?_, ⟨r.1, hkind', hdest', hpayload', hslot, htx, haddressed, ?_⟩, ?_, regs_bump fun k _ => hsentRegs k,
    onlyIn_trans (onlyIn_mono hbefore (by decide)) (onlyIn_trans (onlyIn_mono hsent (by decide)) (onlyIn_mono hcount (by decide)))⟩
  · rw [hcount.2 .ftn (by decide), hsent.2 .ftn (by decide), harb, hnone]
  · rw [hcount.2 .out (by decide), out_onBoth, hbefore.2 .out (by decide)]
  · rw [reg_bump_unmasked _ _ (wf_of_only (wf_of_only hwf hbefore) hsent) (by decide), hsentRegs]

/-- The own DATA frame that joins an empty queue. -/
theorem queueOwn_one (d : ArbData) (h : s.ftn.arb = []) :
    ∃ f : Frame, queueOwn [d] s = arbQueued f s ∧ (arbQueued f s).ftn.arb = [⟨f, s.ftn.cycle⟩] ∧ f.source = s.ownAddr ∧ f.kind = 1 ∧ f.dest = d.dest ∧ f.payload = d.payload := by
  refine ⟨(ownFrame 1 0x7FFF d.dest s.tb0 d.objIndex d.objSub 0 false d.payload s).1, queueArb_of_room (by rw [h]; decide), ?_, rfl, rfl, rfl, rfl⟩
  unfold arbQueued
  dsimp only
  rw [h, List.nil_append]

theorem exists_next_arbOwn (s : State) (i n tx kind dest : Nat) (e : Slot) (q : Queued) (own : List ArbData) (payload : List Byte) (hwf : RegsWf s) (hup : s.up = true)
    (hsu : s.ftn.su = .integrated) (hentry : s.ftn.active.entry i = some e) (hkind : e.kind = 2) (hat : s.buildAt e.start = some (n, tx)) (hown : e.owner = s.ownAddr)
    (hocc : e.occurs (n % s.matrix.m) = true) (hstar : e.starFwd = 0) (hlive : s.bothLive = true) (hsingle : dest ≠ 65535) (hring : dest / 256 ≠ s.ownAddr / 256)
    (hcase : own = [] ∧ s.ftn.arb = [q] ∧ q.frame.source = s.ownAddr ∧ kind = q.frame.kind ∧ dest = q.frame.dest ∧ payload = q.frame.payload ∨
      own = [⟨dest, 7, 3, payload⟩] ∧ s.ftn.arb = [] ∧ kind = 1) :
    ∃ t, exec (.arbOccurrence i own) s = .next t ∧ t.ftn.arb = [] ∧
      (∃ f : Frame, f.kind = kind ∧ f.dest = dest ∧ f.payload = payload ∧ f.slot = 0x7FFF ∧ f.txTime = ctime tx ∧ OwnAddressed f s ∧
        t.out = s.out ++ [.frame 0 f, .frame 3 f]) ∧ t.reg Off.FTN_TX_FRAMES = s.reg Off.FTN_TX_FRAMES + 1 ∧
      RegsOnly [Off.FTN_TX_FRAMES] s t ∧ OnlyIn [.now, .time, .nv, .isl, .regs, .out, .ftn] s t := by
  obtain ⟨ns, hns⟩ : ∃ ns, tx - 2000 = ns := ⟨_, rfl⟩
  have hu := before_toTb0 ns s
  have hftn : (toTb0 ns s).ftn = s.ftn := hu.frame.2 .ftn (by decide)
  have hexec := fun q v => exec_arbOccurrence_one (own := own) (q := q) (v := v) ⟨hup, hentry, hat, hown, hocc⟩ hsu hkind hns
  generalize toTb0 ns s = u at *
  rcases hcase with ⟨rfl, hq, hsource, rfl, rfl, rfl⟩ | ⟨rfl, hnone, rfl⟩
  · have hq' : u.ftn.arb = [q] := by rw [hftn, hq]
    exact ⟨_, hexec q u (queueOwn_nil u) hq', arbOwn_sends hwf hlive hstar hu.net (onlyIn_mono hu.frame (by decide)) hq' hsource rfl rfl rfl hsingle hring⟩
  · obtain ⟨f, hqueued, hq, hsource, hk, hd, hp⟩ := queueOwn_one (s := u) ⟨dest, 7, 3, payload⟩ (by rw [hftn, hnone])
    exact ⟨_, hexec _ _ hqueued hq, arbOwn_sends hwf hlive hstar (sameNet_arbQueued hu.net) (onlyIn_trans (onlyIn_mono hu.frame (by decide)) (onlyIn_mono (onlyIn_arbQueued f u) (by decide)))
      hq (hsource.trans (ownAddr_congr (reg_congr _ _ _ hu.net.regs))) hk hd hp hsingle hring⟩

/-- The queue with what has not outlived its age. -/
def arbKept (keep : List Queued) (s : State) : State := { s with ftn := { s.ftn with arb := keep } }

theorem onlyIn_arbKept (keep : List Queued) (s : State) : OnlyIn [.ftn] s (arbKept keep s) := only_mk only_refl

theorem exists_next_arbAge (s : State) (keep : List Queued) (hwf : RegsWf s)
    (hkeep : keep = s.ftn.arb.filter (fun q => decide (s.ftn.cycle ≤ q.cycle + max 1 (fld (s.reg Off.FTN_ARB_CFG) 28 4)))) :
    ∃ t, exec .arbAgeExpiry s = .next t ∧ t.ftn = { s.ftn with arb := keep } ∧
      t.reg Off.FTN_ARB_DROP = s.reg Off.FTN_ARB_DROP + BitVec.ofNat 32 (s.ftn.arb.length - keep.length) ∧
      (keep.length < s.ftn.arb.length → Raised Irq.FTN_ARB_DROP t) ∧ RegsOnly [Off.FTN_ARB_DROP] s t ∧ OnlyIn [.regs, .ftn, .icus] s t := by
  have hexec : exec .arbAgeExpiry s = .next (if s.ftn.arb.length - keep.length == 0 then s else
      raiseIrq Irq.FTN_ARB_DROP (bumpBy Off.FTN_ARB_DROP (s.ftn.arb.length - keep.length) (arbKept keep s))) := by
    rw [hkeep]
    rfl
  have hle : keep.length ≤ s.ftn.arb.length := by
    rw [hkeep]
    exact List.length_filter_le _ _
  by_cases hnone : s.ftn.arb.length - keep.length = 0
  · rw [hnone, beq_self_eq_true, if_pos rfl] at hexec
    have hall : keep = s.ftn.arb := by
      rw [hkeep] at hnone hle ⊢
      exact List.filter_sublist.eq_of_length_le (by omega)
    exact ⟨s, hexec, by rw [hall], by rw [hnone]; exact (BitVec.add_zero _).symm, fun h => absurd h (by omega), regs_refl, only_refl⟩
  · rw [beq_false_of_ne hnone, if_neg (by decide)] at hexec
    have hkept := onlyIn_arbKept keep s
    have hcount : OnlyIn [.regs, .icus] (arbKept keep s) (raiseIrq Irq.FTN_ARB_DROP (bumpBy Off.FTN_ARB_DROP (s.ftn.arb.length - keep.length) (arbKept keep s))) :=
      only_raiseIrq (only_bumpBy only_refl)
    refine ⟨_, hexec, hcount.2 .ftn (by decide), ?_, fun _ => raised_raiseIrq _ _ (by decide), regs_raiseIrq (regs_bumpBy fun k _ => reg_of_only k hkept),
      onlyIn_trans (onlyIn_mono hkept (by decide)) (onlyIn_mono hcount (by decide))⟩
    rw [raiseIrq_reg, bumpBy, reg_setReg_unmasked _ _ _ (wf_of_only hwf hkept) (by decide), reg_of_only _ hkept]

end

/-- Settles O31, command by command. -/
theorem sendingFrames : Obligations.SendingFrames :=
  ⟨exists_next_frameBuild, fun _ _ _ _ _ _ hup hentry hat hown hocc => exists_next_corruptFrame ⟨hup, hentry, hat, hown, hocc⟩,
    fun s i n tx e q hup hsu hentry hkind hat hown hocc hstar hlive =>
      ⟨fun hq hsource hmask => exists_next_arbForeign s i n tx e q ⟨hup, hentry, hat, hown, hocc⟩ hsu hkind hstar hlive hq hsource hmask,
        fun hnone => exists_next_arbIdle s i n tx e ⟨hup, hentry, hat, hown, hocc⟩ hsu hkind hnone⟩,
    exists_next_arbOwn, exists_next_arbAge⟩

end Sys2Proof.Machine

namespace Sys2Proof.Machine

set_option Elab.async false

/-! ### The checks of a received frame (R236, R237) -/

section
variable {P : List Part} {R : List Nat} {b s t : State} {f : Frame} {c p : Nat}

theorem verdict_congr (hregs : t.regs = s.regs) (htime : t.time = s.time) (hactive : t.ftn.active = s.ftn.active) (hlast : t.ftn.last = s.ftn.last) (f : Frame) :
    t.verdict f = s.verdict f := by
  unfold State.verdict State.slotOk State.seqCheck State.tb0
  rw [hactive, hlast, htime, matrix_congr hregs]

/-- Each failed check has a counter of its own. -/
theorem counter_of_fail (h : s.verdict f = .fail c) : regMask c = BitVec.allOnes 32 ∧ c % 16777216 = c := by
  have hseq : ∀ c, s.seqCheck f ≠ .fail c := fun c => by
    intro h
    unfold State.seqCheck at h
    dsimp only at h
    repeat' split at h
    all_goals cases h
  unfold State.verdict at h
  repeat' split at h
  · cases h
    decide
  · cases h
    decide
  · cases h
    decide
  · cases h
    decide
  · exact absurd h (hseq c)

/-- The mark of a check that has failed in this basic cycle. -/
def errMarked (s : State) : State := { s with ftn := { s.ftn with errSeen := true } }

theorem onlyIn_errMarked (s : State) : OnlyIn [.ftn] s (errMarked s) := only_mk only_refl

theorem checkFailed_marks (hwf : RegsWf s) (h : regMask c = BitVec.allOnes 32 ∧ c % 16777216 = c) :
    (checkFailed c s).reg c = s.reg c + 1 ∧ (checkFailed c s).ftn = { s.ftn with errSeen := true } ∧ (s.ftn.errSeen = false → Raised Irq.FTN_RX_ERROR (checkFailed c s)) ∧
      RegsOnly [c] s (checkFailed c s) ∧ OnlyIn [.regs, .ftn, .icus] s (checkFailed c s) := by
  obtain ⟨hmask, hmod⟩ := h
  have hbump : OnlyIn [.regs] s (bump c s) := only_bump only_refl
  have hcount : (bump c s).reg c = s.reg c + 1 := reg_bump_unmasked _ _ hwf hmask
  have hregs : RegsOnly [c] s (bump c s) := regs_bump regs_refl (by rw [hmod]; exact List.mem_singleton_self c)
  have hftn : (bump c s).ftn = s.ftn := hbump.2 .ftn (by decide)
  have hdef : checkFailed c s = if (bump c s).ftn.errSeen then bump c s else raiseIrq Irq.FTN_RX_ERROR (errMarked (bump c s)) := rfl
  have hmarked := onlyIn_errMarked (bump c s)
  have hsame : (errMarked (bump c s)).ftn = { (bump c s).ftn with errSeen := true } := rfl
  rw [hdef]
  generalize bump c s = u at *
  cases hseen : s.ftn.errSeen with
  | true =>
    rw [if_pos (by rw [hftn, hseen])]
    refine ⟨hcount, ?_, fun h => absurd h (by decide), hregs, onlyIn_mono hbump (by decide)⟩
    rw [hftn, ← hseen]
  | false =>
    rw [if_neg (by rw [hftn, hseen]; decide)]
    have hraise : OnlyIn [.icus] (errMarked u) (raiseIrq Irq.FTN_RX_ERROR (errMarked u)) := only_raiseIrq only_refl
    refine ⟨?_, ?_, fun _ => raised_raiseIrq _ _ (by decide), fun k hk => ?_, onlyIn_trans (onlyIn_mono hbump (by decide)) (onlyIn_trans (onlyIn_mono hmarked (by decide)) (onlyIn_mono hraise (by decide)))⟩
    · rw [reg_of_only _ hraise, reg_of_only _ hmarked, hcount]
    · rw [hraise.2 .ftn (by decide), hsame, hftn]
    · rw [reg_of_only _ hraise, reg_of_only _ hmarked, hregs k hk]

/-! ### Frames that pass (R231, R232, R276) -/

/-- A frame out on one port, one hop on. -/
def passedOn (out : Nat) (f : Frame) (s : State) : State := { s with out := s.out ++ [.frame out { f with hop := f.hop + 1 }] }

theorem onlyIn_passedOn (out : Nat) (f : Frame) (s : State) : OnlyIn [.out] s (passedOn out f s) := only_mk only_refl

theorem out_passedOn (out : Nat) (f : Frame) (s : State) : (passedOn out f s).out = s.out ++ [.frame out { f with hop := f.hop + 1 }] := rfl

/-- A channel that is carried on its main direction. -/
theorem chanUp_of_passes {out : Nat} (h : s.passesOn p out) : (p = 1 ∨ p = 2) ∧ s.chanUp (p == 2) = true := by
  obtain ⟨⟨rfl, -, hrole⟩ | ⟨rfl, -, hrole⟩, hlive, -⟩ := h
  · refine ⟨.inl rfl, ?_⟩
    unfold State.portLive at hlive
    unfold State.chanUp
    rw [show ((1 : Nat) == 2) = false from rfl, if_neg (by decide), hrole]
    simp_all
  · refine ⟨.inr rfl, ?_⟩
    unfold State.portLive at hlive
    unfold State.chanUp
    rw [show ((2 : Nat) == 2) = true from rfl, if_pos rfl, hrole]
    simp_all

theorem sendChan_of_normal {chanB : Bool} {g : Frame} {out : Nat} (hup : s.chanUp chanB = true) (hport : chanB = false ∧ out = 0 ∧ s.ftn.roleA = .normal ∨ chanB = true ∧ out = 3 ∧ s.ftn.roleB = .normal)
    (hlive : s.portLive out = true) : sendChan chanB g s = send (.frame out g) s := by
  unfold sendChan
  rw [if_pos hup]
  rcases hport with ⟨rfl, rfl, hrole⟩ | ⟨rfl, rfl, hrole⟩
  · rw [if_neg Bool.false_ne_true, hrole]
    dsimp only
    rw [show (Role.normal == Role.head) = false from rfl]
    dsimp only
    rw [hlive]
    rfl
  · rw [if_pos rfl, hrole]
    dsimp only
    rw [show (Role.normal == Role.head) = false from rfl]
    dsimp only
    rw [hlive]
    rfl

theorem forward_of_passes {out : Nat} (h : s.passesOn p out) (hloop : f.looped = false) : forward p f s = passedOn out f s := by
  have hup := (chanUp_of_passes h).2
  obtain ⟨⟨rfl, rfl, hrole⟩ | ⟨rfl, rfl, hrole⟩, -, hout⟩ := h
  · have hsend : forward 1 f s = sendChan false { f with hop := f.hop + 1 } s := if_neg (by rw [hloop]; decide)
    rw [hsend, sendChan_of_normal (chanB := false) hup (.inl ⟨rfl, rfl, hrole⟩) hout]
    rfl
  · have hsend : forward 2 f s = sendChan true { f with hop := f.hop + 1 } s := if_neg (by rw [hloop]; decide)
    rw [hsend, sendChan_of_normal (chanB := true) hup (.inr ⟨rfl, rfl, hrole⟩) hout]
    rfl

theorem exec_frameReceive_ring {chanB : Bool} {stamp : Int} (hup : s.up = true) (hp : p < 4) (hlive : s.portLive p = true) (hlocal : linkLocal f = false)
    (hB : (p == 2 || p == 3) = chanB) (hchan : s.chanUp chanB = true) (hdir : f.looped = (p == 0 || p == 3)) :
    exec (.frameReceive p f stamp) s = .next (ringFrame p chanB f (s.ingress p stamp) s) := by
  refine congrArg Host.Outcome.next ?_
  dsimp only
  rw [hB, hup, hlive, decide_eq_true hp, hlocal, hchan, hdir, beq_self_eq_true]
  rfl

theorem exec_frameReceive_passes {out : Nat} {stamp : Int} (hup : s.up = true) (h : s.passesOn p out) (hlocal : linkLocal f = false) (hloop : f.looped = false) :
    exec (.frameReceive p f stamp) s = .next (ringFrame p (p == 2) f (s.ingress p stamp) s) := by
  obtain ⟨hp, hchan⟩ := chanUp_of_passes h
  obtain ⟨-, hlive, -⟩ := h
  refine exec_frameReceive_ring hup (by omega) hlive hlocal ?_ hchan ?_
  · rcases hp with rfl | rfl <;> rfl
  · rw [hloop]
    rcases hp with rfl | rfl <;> rfl

theorem ringFrame_passes {out : Nat} {x : Option Int} (h : s.passesOn p out) (hloop : f.looped = false) (hforeign : f.source / 256 ≠ s.ownAddr / 256)
    (hhop : f.hop + 1 < 2 * s.matrix.n) :
    ringFrame p (p == 2) f x s = receive (p == 2) f x (if (s.port p).measures then x else none) (passedOn out f s) := by
  unfold ringFrame
  dsimp only
  rw [beq_false_of_ne hforeign, Bool.false_and, if_neg (by decide), if_neg (by omega), forward_of_passes h hloop]
  rfl

theorem ringFrame_tooFar {x : Option Int} {chanB : Bool} (hforeign : f.source / 256 ≠ s.ownAddr / 256) (hhop : 2 * s.matrix.n ≤ f.hop + 1) :
    ringFrame p chanB f x s = bump Off.FTN_HOP_DROP s := by
  unfold ringFrame
  dsimp only
  rw [beq_false_of_ne hforeign, Bool.false_and, if_neg (by decide), if_pos hhop]

/-! ### Frames dropped on the way, and own ones (R231, R232, R236, R238) -/

theorem exists_next_hopDrop (s : State) (p out : Nat) (f : Frame) (stamp : Int) (hwf : RegsWf s) (hup : s.up = true) (hpass : s.passesOn p out)
    (hloop : f.looped = false) (hforeign : f.source / 256 ≠ s.ownAddr / 256) (hlocal : linkLocal f = false) (hhop : 2 * s.matrix.n ≤ f.hop + 1) :
    ∃ t, exec (.frameReceive p f stamp) s = .next t ∧ t.reg Off.FTN_HOP_DROP = s.reg Off.FTN_HOP_DROP + 1 ∧ RegsOnly [Off.FTN_HOP_DROP] s t ∧ OnlyIn [.regs] s t := by
  have hexec := exec_frameReceive_passes (stamp := stamp) hup hpass hlocal hloop
  rw [ringFrame_tooFar hforeign hhop] at hexec
  exact ⟨_, hexec, reg_bump_unmasked _ _ hwf (by decide), regs_bump regs_refl, only_bump only_refl⟩

/-- A frame that is passed on and then checked. -/
theorem exec_frameReceive_checked {out : Nat} {stamp : Int} (hup : s.up = true) (hpass : s.passesOn p out) (hloop : f.looped = false)
    (hforeign : f.source / 256 ≠ s.ownAddr / 256) (hlocal : linkLocal f = false) (hhop : f.hop + 1 < 2 * s.matrix.n) :
    ∃ x : Option Int, exec (.frameReceive p f stamp) s = .next (receive (p == 2) f (s.ingress p stamp) x (passedOn out f s)) ∧ (passedOn out f s).verdict f = s.verdict f :=
  ⟨_, (exec_frameReceive_passes hup hpass hlocal hloop).trans (congrArg Host.Outcome.next (ringFrame_passes hpass hloop hforeign hhop)), verdict_congr rfl rfl rfl rfl f⟩

theorem exists_next_checkFail (s : State) (p out c : Nat) (f : Frame) (stamp : Int) (hwf : RegsWf s) (hup : s.up = true) (hpass : s.passesOn p out)
    (hloop : f.looped = false) (hforeign : f.source / 256 ≠ s.ownAddr / 256) (hlocal : linkLocal f = false) (hhop : f.hop + 1 < 2 * s.matrix.n)
    (hfail : s.verdict f = .fail c) :
    ∃ t, exec (.frameReceive p f stamp) s = .next t ∧ t.out = s.out ++ [.frame out { f with hop := f.hop + 1 }] ∧ t.reg c = s.reg c + 1 ∧
      t.ftn = { s.ftn with errSeen := true } ∧ (s.ftn.errSeen = false → Raised Irq.FTN_RX_ERROR t) ∧ RegsOnly [c] s t ∧ OnlyIn [.regs, .out, .ftn, .icus] s t := by
  obtain ⟨x, hexec, hverdict⟩ := exec_frameReceive_checked (stamp := stamp) hup hpass hloop hforeign hlocal hhop
  have hpassed := onlyIn_passedOn out f s
  have hout := out_passedOn out f s
  generalize passedOn out f s = u at *
  have hftn : u.ftn = s.ftn := hpassed.2 .ftn (by decide)
  unfold receive at hexec
  rw [hverdict, hfail] at hexec
  obtain ⟨hcount, hmark, hraise, hregs, honly⟩ := checkFailed_marks (wf_of_only hwf hpassed) (counter_of_fail hfail)
  refine ⟨_, hexec, ?_, ?_, by rw [hmark, hftn], fun h => hraise (by rw [hftn, h]), fun k hk => (hregs k hk).trans (reg_of_only k hpassed),
    onlyIn_trans (onlyIn_mono hpassed (by decide)) (onlyIn_mono honly (by decide))⟩
  · rw [honly.2 .out (by decide), hout]
  · rw [hcount, reg_of_only _ hpassed]

theorem retake_of_first (h : (s.ftn.last.all fun y => !y.chanB) = true) (x : Option Int) : retake f x s = s := by
  have hnone : ∀ y, (s.ftn.last.find? fun y => y.source == f.source && y.slot == f.slot) = some y → y.chanB = false := fun y hy => by
    have hall := List.all_eq_true.mp h y (List.mem_of_find?_eq_some hy)
    simpa using hall
  have hsame : ((s.ftn.last.find? fun y => y.source == f.source && y.slot == f.slot).any fun y => y.chanB && y.edge.isSome && y.edge == x.map hubEdge) = false := by
    cases hy : s.ftn.last.find? fun y => y.source == f.source && y.slot == f.slot with
    | none => rfl
    | some y =>
      rw [Option.any_some, hnone y hy]
      rfl
  unfold retake
  dsimp only
  rw [hsame]
  exact if_pos rfl

theorem exists_next_mismatch (s : State) (p out : Nat) (f : Frame) (stamp : Int) (hwf : RegsWf s) (hup : s.up = true) (hpass : s.passesOn p out)
    (hloop : f.looped = false) (hforeign : f.source / 256 ≠ s.ownAddr / 256) (hlocal : linkLocal f = false) (hhop : f.hop + 1 < 2 * s.matrix.n)
    (hsecond : s.verdict f = .second false) (hfirst : (s.ftn.last.all fun y => !y.chanB) = true) :
    ∃ t, exec (.frameReceive p f stamp) s = .next t ∧ t.reg Off.FTN_CH_MISMATCH = s.reg Off.FTN_CH_MISMATCH + 1 ∧ Raised Irq.FTN_CH_MISMATCH t ∧ t.ftn = s.ftn ∧
      RegsOnly [Off.FTN_CH_MISMATCH] s t ∧ OnlyIn [.regs, .out, .icus] s t := by
  obtain ⟨x, hexec, hverdict⟩ := exec_frameReceive_checked (stamp := stamp) hup hpass hloop hforeign hlocal hhop
  have hpassed := onlyIn_passedOn out f s
  generalize passedOn out f s = u at *
  have hcount : OnlyIn [.regs, .icus] u (raiseIrq Irq.FTN_CH_MISMATCH (bump Off.FTN_CH_MISMATCH u)) := only_raiseIrq (only_bump only_refl)
  have hftn : (raiseIrq Irq.FTN_CH_MISMATCH (bump Off.FTN_CH_MISMATCH u)).ftn = s.ftn := (hcount.2 .ftn (by decide)).trans (hpassed.2 .ftn (by decide))
  have hkept : retake f (s.ingress p stamp) (raiseIrq Irq.FTN_CH_MISMATCH (bump Off.FTN_CH_MISMATCH u)) = raiseIrq Irq.FTN_CH_MISMATCH (bump Off.FTN_CH_MISMATCH u) :=
    retake_of_first (by rw [hftn]; exact hfirst) _
  have hstays : ∀ c : Bool, when c (retake f (s.ingress p stamp)) (raiseIrq Irq.FTN_CH_MISMATCH (bump Off.FTN_CH_MISMATCH u)) =
      raiseIrq Irq.FTN_CH_MISMATCH (bump Off.FTN_CH_MISMATCH u) := fun c => by
    cases c
    · rfl
    · exact hkept
  unfold receive at hexec
  dsimp only at hexec
  rw [hverdict, hsecond] at hexec
  dsimp only at hexec
  rw [Bool.not_false, when_true, hstays, Bool.false_and, when_false] at hexec
  refine ⟨_, hexec, ?_, raised_raiseIrq _ _ (by decide), hftn, regs_raiseIrq (regs_bump fun k _ => reg_of_only k hpassed),
    onlyIn_trans (onlyIn_mono hpassed (by decide)) (onlyIn_mono hcount (by decide))⟩
  rw [raiseIrq_reg, reg_bump_unmasked _ _ (wf_of_only hwf hpassed) (by decide), reg_of_only _ hpassed]

theorem exists_next_ownFrame (s : State) (p : Nat) (f : Frame) (stamp : Int) (hlocal : linkLocal f = false) (hown : f.source / 256 = s.ownAddr / 256)
    (_hp : p = 1 ∨ p = 2) (hloop : f.looped = false) : ∃ t, exec (.frameReceive p f stamp) s = .next t ∧ OnlyIn [] s t := by
  have hring : ∀ chanB x, ringFrame p chanB f x s = s := fun chanB x => by
    unfold ringFrame
    dsimp only
    rw [hown, beq_self_eq_true, hloop]
    exact if_pos rfl
  refine ⟨s, ?_, only_refl⟩
  show Host.Outcome.next (if _ then s else if linkLocal f then _ else if _ then ringFrame p _ f _ s else s) = _
  rw [hlocal, hring, ite_self, if_neg Bool.false_ne_true, ite_self]

theorem exists_next_loopedFrame (s : State) (p out : Nat) (f : Frame) (stamp : Int) (hlocal : linkLocal f = false) (hown : f.source / 256 = s.ownAddr / 256)
    (hup : s.up = true) (hlive : s.portLive p = true) (hloop : f.looped = true) (hhop : f.hop + 1 < 2 * s.matrix.n)
    (hport : p = 0 ∧ out = 1 ∧ s.ftn.roleA ≠ .tail ∧ s.ftn.roleA ≠ .isolated ∨ p = 3 ∧ out = 2 ∧ s.ftn.roleB ≠ .tail ∧ s.ftn.roleB ≠ .isolated) :
    ∃ t, exec (.frameReceive p f stamp) s = .next t ∧ t.out = s.out ++ [.frame out { f with hop := f.hop + 1 }] ∧ OnlyIn [.out] s t := by
  have hring : ringFrame p (p == 3) f (s.ingress p stamp) s = forward p f s := by
    unfold ringFrame
    dsimp only
    rw [hown, beq_self_eq_true, hloop, if_neg (by decide), if_neg (by omega)]
    rfl
  have hforward : forward p f s = passedOn out f s := by
    unfold forward
    rw [if_pos hloop]
    rcases hport with ⟨rfl, rfl, htail, -⟩ | ⟨rfl, rfl, htail, -⟩
    · rw [if_neg (by simpa using htail)]
      rfl
    · rw [if_neg (by simpa using htail)]
      rfl
  have hexec : exec (.frameReceive p f stamp) s = .next (ringFrame p (p == 3) f (s.ingress p stamp) s) := by
    have hchan : s.chanUp (p == 3) = true := by
      unfold State.portLive at hlive
      unfold State.chanUp
      rcases hport with ⟨rfl, -, -, hrole⟩ | ⟨rfl, -, -, hrole⟩ <;> simp_all
    refine exec_frameReceive_ring hup (by omega) hlive hlocal ?_ hchan ?_
    · rcases hport with ⟨rfl, -⟩ | ⟨rfl, -⟩ <;> rfl
    · rw [hloop]
      rcases hport with ⟨rfl, -⟩ | ⟨rfl, -⟩ <;> rfl
  rw [hring, hforward] at hexec
  exact ⟨_, hexec, out_passedOn out f s, onlyIn_passedOn out f s⟩

end

end Sys2Proof.Machine

namespace Sys2Proof.Machine

set_option Elab.async false

/-! ### Accepted frames (R237 to R241) -/

section
variable {P : List Part} {R : List Nat} {b s t u : State} {f : Frame} {c p gap : Nat} {chanB : Bool} {edge : Option Nat} {x : Option Int}

/-- The counters of an accepted frame. -/
def acceptCounted (gap : Nat) (f : Frame) (s : State) : State :=
  when (f.kind == 2) (bump Off.FTN_RX_NULL) (bumpBy Off.FTN_SEQ_GAP gap (bump Off.FTN_RX_OK s))

theorem onlyIn_keepSeq (chanB : Bool) (edge : Option Nat) (f : Frame) (s : State) : OnlyIn [.ftn] s (keepSeq chanB edge f s) := only_mk only_refl

theorem onlyIn_acceptCounted (gap : Nat) (f : Frame) (s : State) : OnlyIn [.regs] s (acceptCounted gap f s) := only_when only_bump (only_bumpBy (only_bump only_refl))

theorem acceptCounted_counts (gap : Nat) (f : Frame) (hwf : RegsWf s) :
    (acceptCounted gap f s).reg Off.FTN_RX_OK = s.reg Off.FTN_RX_OK + 1 ∧
      (acceptCounted gap f s).reg Off.FTN_SEQ_GAP = s.reg Off.FTN_SEQ_GAP + BitVec.ofNat 32 gap ∧
      (f.kind = 2 → (acceptCounted gap f s).reg Off.FTN_RX_NULL = s.reg Off.FTN_RX_NULL + 1) ∧
      (f.kind ≠ 2 → RegsOnly [Off.FTN_RX_OK, Off.FTN_SEQ_GAP] s (acceptCounted gap f s)) ∧
      RegsOnly [Off.FTN_RX_OK, Off.FTN_SEQ_GAP, Off.FTN_RX_NULL] s (acceptCounted gap f s) := by
  have hgap : ∀ k, k ≠ Off.FTN_RX_NULL → (acceptCounted gap f s).reg k = (bumpBy Off.FTN_SEQ_GAP gap (bump Off.FTN_RX_OK s)).reg k := fun k hk => by
    unfold acceptCounted when
    split
    · exact reg_bump_ne _ _ _ hk
    · rfl
  refine ⟨?_, ?_, fun h => ?_, fun h => ?_, regs_when regs_bump (regs_bumpBy (regs_bump regs_refl))⟩
  · rw [hgap _ (by decide), bumpBy, reg_setReg_ne _ _ _ _ (by decide), reg_bump_unmasked _ _ hwf (by decide)]
  · rw [hgap _ (by decide), bumpBy, reg_setReg_unmasked _ _ _ (wf_bump hwf) (by decide), reg_bump_ne _ _ _ (by decide)]
  · rw [acceptCounted, h, beq_self_eq_true, when_true, reg_bump_unmasked _ _ (wf_bumpBy (wf_bump hwf)) (by decide), bumpBy, reg_setReg_ne _ _ _ _ (by decide),
      reg_bump_ne _ _ _ (by decide)]
  · rw [acceptCounted, beq_false_of_ne h, when_false]
    exact regs_bumpBy (regs_bump regs_refl)

/-- The marks of looped traffic after an unlooped frame. -/
theorem loopsNoted_of_unlooped (hloop : f.looped = false) (s : State) :
    ({ s with ftn := { s.ftn with loopedA := s.ftn.loopedA || (f.looped && !chanB), loopedB := s.ftn.loopedB || (f.looped && chanB) } } : State) = s := by
  rw [hloop, Bool.false_and, Bool.false_and, Bool.or_false, Bool.or_false]

theorem acceptFrame_of_plain {stars : Bool} (hloop : f.looped = false) (hkind : f.kind ≠ 3) (hstars : stars = true → s.starMask f = 0) :
    acceptFrame chanB edge stars gap f x s = sink chanB f x (acceptCounted gap f (keepSeq chanB edge f s)) := by
  have hline : ∀ u : State, lineTime f u = u := fun u => by
    unfold lineTime
    rw [beq_false_of_ne hkind, Bool.false_and, Bool.false_and, when_false]
  have hsent : ∀ u : State, when (stars && s.ftn.su == .integrated) (sendStars (s.starMask f) f) u = u := fun u => by
    unfold when
    split
    next h =>
      rw [hstars (Bool.and_eq_true_iff.mp h).1, sendStars_zero]
    next => rfl
  have hlooped : ∀ u : State, when f.looped (bump Off.FTN_LOOPED_RX) u = u := fun u => by rw [hloop, when_false]
  have hseen : ∀ (v : Bool) (u : State), when (f.looped && v) (raiseIrq Irq.FTN_LOOPED_SEEN) u = u := fun v u => by rw [hloop, Bool.false_and, when_false]
  unfold acceptFrame
  dsimp only
  rw [hline, hsent, hlooped, Bool.and_assoc, Bool.and_assoc, Bool.and_assoc, hseen, loopsNoted_of_unlooped hloop]
  rfl

/-! #### An RX entry and its buffer -/

/-- The reception of an entry after an accepted frame. -/
def RxStat.received (r : RxStat) (e : Slot) (f : Frame) : RxStat :=
  { r with state := if f.kind == 2 then 2 else 1, reason := if f.kind == 2 then f.info else 0, count := (r.count + 1) % 65536, info := f.info, got := true,
           data := if f.kind == 2 || e.map != 0 then r.data else f.payload }

/-- A receive buffer after an accepted frame. -/
def RxBuf.received (r : RxBuf) (f : Frame) (chanB : Bool) (x : Option Int) : RxBuf :=
  { r with frame := if f.kind == 2 then r.frame else some f, time := if f.kind == 2 then r.time else stampWord x, chanB := if f.kind == 2 then r.chanB else chanB
           state := if f.kind == 2 then 2 else 1, reason := if f.kind == 2 then f.info else 0, count := (r.count + 1) % 65536 }

theorem rxStatus_marks (i : Nat) (e : Slot) (f : Frame) (s : State) :
    (rxStatus i e f s).rxOf i = (s.rxOf i).received e f ∧ (rxStatus i e f s).ftn.last = s.ftn.last ∧ (rxStatus i e f s).ftn.su = s.ftn.su ∧
      (e.irq = true → Raised Irq.FTN_RX (rxStatus i e f s)) ∧ OnlyIn [.ftn, .icus] s (rxStatus i e f s) := by
  have hdef : rxStatus i e f s = when e.irq (raiseIrq Irq.FTN_RX) (setRx ((s.rxOf i).received e f) s) := rfl
  have hown : (setRx ((s.rxOf i).received e f) s).rxOf i = (s.rxOf i).received e f := by
    have h := rxOf_setRx ((s.rxOf i).received e f) s
    rwa [show ((s.rxOf i).received e f).entry = i from rxOf_entry s i] at h
  have hsame : (setRx ((s.rxOf i).received e f) s).ftn.last = s.ftn.last ∧ (setRx ((s.rxOf i).received e f) s).ftn.su = s.ftn.su := ⟨rfl, rfl⟩
  have hset := onlyIn_setRx ((s.rxOf i).received e f) s
  rw [hdef]
  generalize setRx ((s.rxOf i).received e f) s = u at *
  have hirq : OnlyIn [.icus] u (when e.irq (raiseIrq Irq.FTN_RX) u) := only_when only_raiseIrq only_refl
  have hftn : (when e.irq (raiseIrq Irq.FTN_RX) u).ftn = u.ftn := hirq.2 .ftn (by decide)
  refine ⟨(rxOf_congr (congrArg Ftn.rx hftn) i).trans hown, by rw [hftn, hsame.1], by rw [hftn, hsame.2], fun h => ?_,
    onlyIn_trans (onlyIn_mono hset (by decide)) (onlyIn_mono hirq (by decide))⟩
  rw [h]
  exact raised_raiseIrq _ _ (by decide)

theorem rxBuf_setRxBuf (n : Nat) (v : RxBuf) (s : State) : (setRxBuf n v s).rxBuf n = v := by
  unfold State.rxBuf setRxBuf
  dsimp only
  rw [look_put_self]
  rfl

/-- What reaches the sink of an RX entry that maps no object. -/
theorem deliver_marks {i : Nat} {e : Slot} (hmap : e.map ≠ 2) (s : State) :
    (deliver i e chanB f x s).rxOf i = (s.rxOf i).received e f ∧ (deliver i e chanB f x s).ftn.last = s.ftn.last ∧ (deliver i e chanB f x s).ftn.su = s.ftn.su ∧
      (e.map = 1 → ∃ r : RxBuf, (deliver i e chanB f x s).rxBuf e.buf = r.received f chanB x) ∧
      (e.irq = true → Raised Irq.FTN_RX (deliver i e chanB f x s)) ∧ OnlyIn [.ftn, .icus] s (deliver i e chanB f x s) := by
  obtain ⟨hrx, hlast, hsu, hirq, honly⟩ := rxStatus_marks i e f s
  by_cases hbuf : e.map = 1
  · have hdef : deliver i e chanB f x s = setRxBuf e.buf (((rxStatus i e f s).rxBuf e.buf).received f chanB x) (rxStatus i e f s) := if_pos (by rw [hbuf]; rfl)
    rw [hdef]
    generalize rxStatus i e f s = u at *
    have hset := onlyIn_setRxBuf e.buf ((u.rxBuf e.buf).received f chanB x) u
    exact ⟨hrx, hlast, hsu, fun _ => ⟨_, rxBuf_setRxBuf _ _ _⟩, fun h => raised_of_only (hirq h) hset, onlyIn_trans honly (onlyIn_mono hset (by decide))⟩
  · have hdef : deliver i e chanB f x s = rxStatus i e f s := by
      unfold deliver
      dsimp only
      rw [beq_false_of_ne hbuf, beq_false_of_ne hmap, Bool.false_and]
      rfl
    rw [hdef]
    exact ⟨hrx, hlast, hsu, fun h => absurd h hbuf, hirq, honly⟩

/-! #### A frame of the ring -/

theorem keepSeq_fields (chanB : Bool) (edge : Option Nat) (f : Frame) (s : State) :
    (keepSeq chanB edge f s).ftn.last.head? = some ⟨f.source, f.slot, f.seq, frameBody f, chanB, edge⟩ ∧ (keepSeq chanB edge f s).ftn.rx = s.ftn.rx ∧
      (keepSeq chanB edge f s).ftn.su = s.ftn.su ∧ (keepSeq chanB edge f s).ftn.active = s.ftn.active ∧ (keepSeq chanB edge f s).ftn.guards = s.ftn.guards ∧
      (keepSeq chanB edge f s).ftn.arb = s.ftn.arb := ⟨rfl, rfl, rfl, rfl, rfl, rfl⟩

theorem linkLocal_of_data (h : f.kind = 1 ∨ f.kind = 2) : linkLocal f = false := by
  unfold linkLocal
  rcases h with h | h <;> rw [h] <;> rfl

theorem receive_of_accepted {e : Slot} (hverdict : s.verdict f = .accept gap) (hkind : f.kind = 1 ∨ f.kind = 2) (hloop : f.looped = false) (hwindow : frameWindow f = 0)
    (hentry : s.ftn.active.entry (frameEntry f) = some e) (hrx : e.rx = true) (hstar : e.starFwd = 0) (y : Option Int) :
    receive chanB f x y s = deliver (frameEntry f) e chanB f x (acceptCounted gap f (keepSeq chanB (x.map hubEdge) f s)) := by
  have hkinds : (f.kind == 1 || f.kind == 2 || f.kind == 3) = true ∧ (f.kind == 3 || f.kind == 4) = false ∧ f.kind ≠ 3 := by
    rcases hkind with h | h <;> rw [h] <;> decide
  obtain ⟨hdata, hsync, hnot⟩ := hkinds
  have hmask : s.starMask f = 0 := by
    unfold State.starMask
    rw [hwindow, hentry]
    exact hstar
  have hactive : (acceptCounted gap f (keepSeq chanB (x.map hubEdge) f s)).ftn.active = s.ftn.active := by
    rw [(onlyIn_acceptCounted gap f _).2 .ftn (by decide)]
    exact (keepSeq_fields chanB (x.map hubEdge) f s).2.2.2.1
  unfold receive
  dsimp only
  rw [hverdict]
  dsimp only
  rw [hsync, when_false, acceptFrame_of_plain hloop hnot fun _ => hmask]
  unfold sink
  rw [hwindow, hactive, hentry]
  dsimp only
  rw [hrx, hdata, if_pos (by decide)]
  rfl

theorem exists_next_accepted (s : State) (p out gap : Nat) (f : Frame) (e : Slot) (stamp : Int) (hwf : RegsWf s) (hup : s.up = true) (hpass : s.passesOn p out)
    (hloop : f.looped = false) (hforeign : f.source / 256 ≠ s.ownAddr / 256) (hhop : f.hop + 1 < 2 * s.matrix.n) (haccept : s.verdict f = .accept gap)
    (hkind : f.kind = 1 ∨ f.kind = 2) (hwindow : frameWindow f = 0) (hentry : s.ftn.active.entry (frameEntry f) = some e) (hrx : e.rx = true) (hmap : e.map ≠ 2)
    (hstar : e.starFwd = 0) :
    ∃ t, exec (.frameReceive p f stamp) s = .next t ∧ t.out = s.out ++ [.frame out { f with hop := f.hop + 1 }] ∧
      t.reg Off.FTN_RX_OK = s.reg Off.FTN_RX_OK + 1 ∧ t.reg Off.FTN_SEQ_GAP = s.reg Off.FTN_SEQ_GAP + BitVec.ofNat 32 gap ∧
      (f.kind = 2 → t.reg Off.FTN_RX_NULL = s.reg Off.FTN_RX_NULL + 1) ∧ (t.rxOf (frameEntry f)).state = f.kind ∧
      (t.rxOf (frameEntry f)).count = ((s.rxOf (frameEntry f)).count + 1) % 65536 ∧ (t.rxOf (frameEntry f)).got = true ∧
      (f.kind = 1 → e.map = 0 → (t.rxOf (frameEntry f)).data = f.payload) ∧
      (f.kind = 1 → e.map = 1 → (t.rxBuf e.buf).frame = some f ∧ (t.rxBuf e.buf).chanB = (p == 2) ∧
        (t.rxBuf e.buf).time = stampWord (s.ingress p stamp) ∧ (t.rxBuf e.buf).state = 1) ∧
      t.ftn.last.head? = some ⟨f.source, f.slot, f.seq, frameBody f, p == 2, (s.ingress p stamp).map hubEdge⟩ ∧
      (e.irq = true → Raised Irq.FTN_RX t) ∧ t.ftn.su = s.ftn.su ∧
      RegsOnly [Off.FTN_RX_OK, Off.FTN_SEQ_GAP, Off.FTN_RX_NULL] s t ∧ OnlyIn [.regs, .out, .ftn, .icus] s t := by
  obtain ⟨y, hexec, hverdict⟩ := exec_frameReceive_checked (stamp := stamp) hup hpass hloop hforeign (linkLocal_of_data hkind) hhop
  have hpassed := onlyIn_passedOn out f s
  have hout := out_passedOn out f s
  generalize passedOn out f s = u at *
  generalize s.ingress p stamp = x at *
  have hftn : u.ftn = s.ftn := hpassed.2 .ftn (by decide)
  rw [receive_of_accepted (hverdict.trans haccept) hkind hloop hwindow (by rw [hftn, hentry]) hrx hstar] at hexec
  have hkept := onlyIn_keepSeq (p == 2) (x.map hubEdge) f u
  obtain ⟨hlast, hrxs, hsu, -, -, -⟩ := keepSeq_fields (p == 2) (x.map hubEdge) f u
  generalize keepSeq (p == 2) (x.map hubEdge) f u = k at *
  have hkreg : ∀ r, k.reg r = s.reg r := fun r => (reg_of_only r hkept).trans (reg_of_only r hpassed)
  obtain ⟨hok, hgap, hnull, -, hregs⟩ := acceptCounted_counts gap f (wf_of_only (wf_of_only hwf hpassed) hkept)
  have hcounted := onlyIn_acceptCounted gap f k
  generalize acceptCounted gap f k = c at *
  obtain ⟨hrx', hlast', hsu', hbuf, hirq, hdelivered⟩ := deliver_marks (f := f) (x := x) (chanB := p == 2) (i := frameEntry f) hmap c
  generalize deliver (frameEntry f) e (p == 2) f x c = t at *
  have hcftn : c.ftn = k.ftn := hcounted.2 .ftn (by decide)
  have hrxOf : c.rxOf (frameEntry f) = s.rxOf (frameEntry f) := rxOf_congr (by rw [hcftn, hrxs, hftn]) _
  rw [hrxOf] at hrx'
  have hstate : (if f.kind == 2 then 2 else 1) = f.kind := by
    rcases hkind with h | h <;> rw [h] <;> rfl
  refine ⟨t, hexec, ?_, ?_, ?_, fun h => ?_, ?_, by rw [hrx']; rfl, by rw [hrx']; rfl, fun hk hm => ?_, fun hk hm => ?_, ?_, hirq, ?_, fun r hr => ?_, ?_⟩
  · rw [hdelivered.2 .out (by decide), hcounted.2 .out (by decide), hkept.2 .out (by decide), hout]
  · rw [reg_of_only _ hdelivered, hok, hkreg]
  · rw [reg_of_only _ hdelivered, hgap, hkreg]
  · rw [reg_of_only _ hdelivered, hnull h, hkreg]
  · rw [hrx']
    exact hstate
  · rw [hrx', RxStat.received, hk, hm]
    rfl
  · obtain ⟨r, hr⟩ := hbuf hm
    rw [hr, RxBuf.received, hk]
    exact ⟨rfl, rfl, rfl, rfl⟩
  · rw [hlast', hcftn, hlast]
  · rw [hsu', hcftn, hsu, hftn]
  · rw [reg_of_only _ hdelivered, hregs r hr, hkreg]
  · exact onlyIn_trans (onlyIn_mono hpassed (by decide)) (onlyIn_trans (onlyIn_mono hkept (by decide)) (onlyIn_trans (onlyIn_mono hcounted (by decide)) (onlyIn_mono hdelivered (by decide))))

end

end Sys2Proof.Machine

namespace Sys2Proof.Machine

set_option Elab.async false

/-! ### Frames from star ports (R233, R235, R271, R272) -/

theorem getElem?_modAt_self {α : Type} (l : List α) (i : Nat) (f : α → α) : (modAt l i f)[i]? = l[i]?.map f := by
  induction l generalizing i with
  | nil => rfl
  | cons x xs ih =>
    cases i with
    | zero => rfl
    | succ i => exact ih i

section
variable {s t u v : State} {f : Frame} {c p gap at_ : Nat} {stamp : Int} {e : Slot}

/-- Star port `p` takes frames (R29, Table 1.9). -/
structure StarPort (s : State) (p : Nat) : Prop where
  up : s.up = true
  port : p < 16
  live : s.portLive (4 + p) = true
  guardian : s.sys.guardianFault = false

theorem exec_starFrameReceive (h : StarPort s p) : exec (.starFrameReceive p f stamp) s = .next (
    match s.starViolation p f (s.inCycle ((s.ingress (4 + p) stamp).getD stamp)) with
      | some k => guardViolate p k s
      | none => starFrame f (s.ingress (4 + p) stamp) (usedWindow p f s)) := by
  obtain ⟨hup, hp, hlive, hguard⟩ := h
  refine congrArg Host.Outcome.next ?_
  dsimp only
  rw [hup, decide_eq_true hp, hlive, hguard]
  exact if_neg (by decide)

theorem exec_starFrameReceive_passed (h : StarPort s p) (hnone : s.starViolation p f (s.inCycle ((s.ingress (4 + p) stamp).getD stamp)) = none) :
    exec (.starFrameReceive p f stamp) s = .next (starFrame f (s.ingress (4 + p) stamp) (usedWindow p f s)) := by
  rw [exec_starFrameReceive h, hnone]

theorem onlyIn_usedWindow (p : Nat) (f : Frame) (s : State) : OnlyIn [.ftn] s (usedWindow p f s) := only_mk only_refl

theorem sameNet_usedWindow (p : Nat) (f : Frame) (s : State) : SameNet s (usedWindow p f s) := ⟨rfl, rfl, rfl, rfl, rfl, rfl, rfl, Nat.le_refl _⟩

theorem verdict_usedWindow (p : Nat) (f : Frame) (s : State) : (usedWindow p f s).verdict f = s.verdict f := verdict_congr rfl rfl rfl rfl f

/-- The note of a window's use leaves the rest of the network. -/
theorem usedWindow_fields (p : Nat) (f : Frame) (s : State) :
    (usedWindow p f s).ftn.active = s.ftn.active ∧ (usedWindow p f s).ftn.arb = s.ftn.arb ∧ (usedWindow p f s).ftn.last = s.ftn.last ∧
      (usedWindow p f s).ftn.cycle = s.ftn.cycle ∧ (usedWindow p f s).ftn.errSeen = s.ftn.errSeen := ⟨rfl, rfl, rfl, rfl, rfl⟩

theorem guard_usedWindow {g : Guard} (hg : s.ftn.guards[p]? = some g) :
    (frameWindow f = 0 → (usedWindow p f s).ftn.guards[p]? = some { g with passed := f.slot :: g.passed }) ∧
      (frameWindow f = 1 → (usedWindow p f s).ftn.guards[p]? = some { g with arbs := g.arbs + 1 }) := by
  unfold usedWindow
  dsimp only
  rw [getElem?_modAt_self, hg]
  exact ⟨fun h => by rw [h]; rfl, fun h => by rw [h]; rfl⟩

theorem arbQueued_fields (f : Frame) (s : State) : (arbQueued f s).ftn.arb = s.ftn.arb ++ [⟨f, s.ftn.cycle⟩] ∧ (arbQueued f s).ftn.guards = s.ftn.guards := ⟨rfl, rfl⟩

theorem regs_acceptCounted (h : f.kind ≠ 2) : RegsOnly [Off.FTN_RX_OK, Off.FTN_SEQ_GAP] s (acceptCounted gap f s) := by
  rw [acceptCounted, beq_false_of_ne h, when_false]
  exact regs_bumpBy (regs_bump regs_refl)

/-- A frame of an exclusive window goes onto both channels at its time, and is accepted. -/
theorem starFrame_exclusive (hverdict : v.verdict f = .accept gap) (hloop : f.looped = false) (hkind : f.kind = 1) (hwindow : frameWindow f = 0)
    (hentry : v.ftn.active.entry f.slot = some e) (hrx : e.rx = false) (hstar : e.starFwd = 0) (hlive : v.bothLive = true) (x : Option Int)
    (hat : v.ftn.cycle * v.matrix.t + e.ringStart = at_) :
    starFrame f x v = acceptCounted gap f (keepSeq false none f (onBoth f (toTb0 at_ v))) := by
  have hslot : frameEntry f = f.slot := by
    unfold frameWindow at hwindow
    unfold frameEntry
    omega
  have hnet := sameNet_toTb0 at_ v
  have hftn : (toTb0 at_ v).ftn = v.ftn := (onlyIn_toTb0 at_ v).2 .ftn (by decide)
  obtain ⟨hA, hB, htx⟩ := bothLive_iff.mp (hnet.bothLive hlive)
  have hsent : sendBoth f (toTb0 at_ v) = onBoth f (toTb0 at_ v) := sendBoth_of_live htx hA hB
  have hactive : (onBoth f (toTb0 at_ v)).ftn.active = v.ftn.active := by rw [(onlyIn_onBoth f (toTb0 at_ v)).2 .ftn (by decide), hftn]
  generalize hw : onBoth f (toTb0 at_ v) = w at *
  have hmask : w.starMask f = 0 := by
    unfold State.starMask
    rw [hwindow, hactive, hslot, hentry]
    exact hstar
  have hactive' : (acceptCounted gap f (keepSeq false none f w)).ftn.active = v.ftn.active := by
    obtain ⟨-, -, -, hkept, -⟩ := keepSeq_fields false none f w
    rw [(onlyIn_acceptCounted gap f _).2 .ftn (by decide), hkept, hactive]
  have hsink : sink false f x (acceptCounted gap f (keepSeq false none f w)) = acceptCounted gap f (keepSeq false none f w) := by
    unfold sink
    rw [hwindow, hactive', hslot, hentry]
    dsimp only
    rw [hrx, Bool.false_and, if_neg (by decide)]
    rfl
  unfold starFrame
  rw [hverdict]
  dsimp only
  rw [if_neg (by rw [hwindow]; decide), hentry, Option.map_some, Option.getD_some, hat, hsent, acceptFrame_of_plain hloop (by rw [hkind]; decide) fun _ => hmask, hsink]

/-- An arbitrating frame waits in the queue, and is accepted. -/
theorem starFrame_arbitrating (hverdict : v.verdict f = .accept gap) (hloop : f.looped = false) (hkind : f.kind = 1) (hwindow : frameWindow f = 1)
    (hroom : v.ftn.arb.length < 32) (hown : f.dest ≠ v.ownAddr) (hsingle : f.dest ≠ 65535) (x : Option Int) :
    starFrame f x v = acceptCounted gap f (keepSeq false none f (arbQueued f v)) := by
  have haddr : (acceptCounted gap f (keepSeq false none f (arbQueued f v))).ownAddr = v.ownAddr := by
    refine ownAddr_congr ?_
    rw [regs_acceptCounted (by rw [hkind]; decide) _ (by decide), reg_of_only _ (onlyIn_keepSeq false none f (arbQueued f v)), reg_of_only _ (onlyIn_arbQueued f v)]
  unfold starFrame
  rw [hverdict]
  dsimp only
  rw [if_pos hwindow, queueArb_of_room hroom, acceptFrame_of_plain hloop (by rw [hkind]; decide) fun h => absurd h (by decide)]
  unfold sink
  rw [hwindow]
  unfold arbFrame
  rw [haddr, beq_false_of_ne hown, beq_false_of_ne hsingle]
  rfl

/-- What an accepted star frame leaves, from the state in which it is accepted. -/
theorem starAccepted (hwf : RegsWf u) (hkind : f.kind = 1) :
    (acceptCounted gap f (keepSeq false none f u)).ftn.arb = u.ftn.arb ∧ (acceptCounted gap f (keepSeq false none f u)).ftn.guards = u.ftn.guards ∧
      (acceptCounted gap f (keepSeq false none f u)).reg Off.FTN_RX_OK = u.reg Off.FTN_RX_OK + 1 ∧
      RegsOnly [Off.FTN_RX_OK, Off.FTN_SEQ_GAP] u (acceptCounted gap f (keepSeq false none f u)) ∧ OnlyIn [.regs, .ftn] u (acceptCounted gap f (keepSeq false none f u)) := by
  have hkept := onlyIn_keepSeq false none f u
  obtain ⟨-, -, -, -, hguards, harb⟩ := keepSeq_fields false none f u
  have hwf' := wf_of_only hwf hkept
  generalize keepSeq false none f u = k at *
  have hcounted := onlyIn_acceptCounted gap f k
  obtain ⟨hok, -⟩ := acceptCounted_counts gap f hwf'
  have hftn : (acceptCounted gap f k).ftn = k.ftn := hcounted.2 .ftn (by decide)
  refine ⟨by rw [hftn, harb], by rw [hftn, hguards], by rw [hok, reg_of_only _ hkept], fun r hr => ?_, onlyIn_trans (onlyIn_mono hkept (by decide)) (onlyIn_mono hcounted (by decide))⟩
  rw [regs_acceptCounted (by rw [hkind]; decide) r hr, reg_of_only _ hkept]

theorem exists_next_starExclusive (s : State) (p gap : Nat) (f : Frame) (g : Guard) (stamp : Int) (e : Slot) (hwf : RegsWf s) (hport : StarPort s p)
    (hguard : s.ftn.guards[p]? = some g) (hnone : s.starViolation p f (s.inCycle ((s.ingress (4 + p) stamp).getD stamp)) = none) (haccept : s.verdict f = .accept gap)
    (hloop : f.looped = false) (hkind : f.kind = 1) (hwindow : frameWindow f = 0) (hentry : s.ftn.active.entry f.slot = some e) (hrx : e.rx = false)
    (hstar : e.starFwd = 0) (hlive : s.bothLive = true) (hrate : 0 < s.time.tb0.rate) :
    ∃ t, exec (.starFrameReceive p f stamp) s = .next t ∧ t.out = s.out ++ [.frame 0 f, .frame 3 f] ∧ t.ftn.arb = s.ftn.arb ∧
      s.ftn.cycle * s.matrix.t + e.ringStart ≤ t.tb0 ∧ t.ftn.guards[p]? = some { g with passed := f.slot :: g.passed } ∧
      t.reg Off.FTN_RX_OK = s.reg Off.FTN_RX_OK + 1 ∧ RegsOnly [Off.FTN_RX_OK, Off.FTN_SEQ_GAP] s t ∧ OnlyIn [.now, .time, .nv, .isl, .regs, .out, .ftn] s t := by
  have hexec := exec_starFrameReceive_passed hport hnone
  have hused := onlyIn_usedWindow p f s
  have hnet := sameNet_usedWindow p f s
  have hverdict := (verdict_usedWindow p f s).trans haccept
  obtain ⟨hactive, harb, -, hcycle, -⟩ := usedWindow_fields p f s
  have hguard' := (guard_usedWindow hguard).1 hwindow
  generalize usedWindow p f s = v at *
  have hmatrix : v.matrix = s.matrix := matrix_congr (hused.2 .regs (by decide))
  have htime : v.time = s.time := hused.2 .time (by decide)
  obtain ⟨at_, hat⟩ : ∃ at_, s.ftn.cycle * s.matrix.t + e.ringStart = at_ := ⟨_, rfl⟩
  rw [hat]
  rw [starFrame_exclusive (at_ := at_) hverdict hloop hkind hwindow (by rw [hactive, hentry]) hrx hstar (hnet.bothLive hlive) _ (by rw [hcycle, hmatrix, hat])] at hexec
  have hlater := onlyIn_toTb0 at_ v
  have hinstant : at_ ≤ (toTb0 at_ v).tb0 := le_tb0_toTb0 at_ (by rw [htime]; exact hrate)
  generalize toTb0 at_ v = w at *
  have hsent := onlyIn_onBoth f w
  have hout := out_onBoth f w
  have hbefore : OnlyIn [.now, .time, .nv, .isl, .out, .ftn] s (onBoth f w) :=
    onlyIn_trans (onlyIn_mono hused (by decide)) (onlyIn_trans (onlyIn_mono hlater (by decide)) (onlyIn_mono hsent (by decide)))
  generalize onBoth f w = y at *
  obtain ⟨harb', hguards, hok, hregs, honly⟩ := starAccepted (u := y) (gap := gap) (wf_of_only hwf hbefore) hkind
  generalize acceptCounted gap f (keepSeq false none f y) = t at *
  have hftn : y.ftn = v.ftn := (hsent.2 .ftn (by decide)).trans (hlater.2 .ftn (by decide))
  refine ⟨t, hexec, ?_, ?_, ?_, ?_, ?_, fun r hr => ?_, onlyIn_trans (onlyIn_mono hbefore (by decide)) (onlyIn_mono honly (by decide))⟩
  · rw [honly.2 .out (by decide), hout, hlater.2 .out (by decide), hused.2 .out (by decide)]
  · rw [harb', hftn, harb]
  · unfold State.tb0 at hinstant ⊢
    rw [honly.2 .time (by decide), hsent.2 .time (by decide)]
    exact hinstant
  · rw [hguards, hftn, hguard']
  · rw [hok, reg_of_only _ hbefore]
  · rw [hregs r hr, reg_of_only _ hbefore]

theorem exists_next_starArbitrating (s : State) (p gap : Nat) (f : Frame) (g : Guard) (stamp : Int) (hwf : RegsWf s) (hport : StarPort s p)
    (hguard : s.ftn.guards[p]? = some g) (hnone : s.starViolation p f (s.inCycle ((s.ingress (4 + p) stamp).getD stamp)) = none) (haccept : s.verdict f = .accept gap)
    (hloop : f.looped = false) (hkind : f.kind = 1) (hwindow : frameWindow f = 1) (hroom : s.ftn.arb.length < 32) (hown : f.dest ≠ s.ownAddr) (hsingle : f.dest ≠ 65535) :
    ∃ t, exec (.starFrameReceive p f stamp) s = .next t ∧ t.ftn.arb = s.ftn.arb ++ [⟨f, s.ftn.cycle⟩] ∧ t.ftn.guards[p]? = some { g with arbs := g.arbs + 1 } ∧
      t.reg Off.FTN_RX_OK = s.reg Off.FTN_RX_OK + 1 ∧ RegsOnly [Off.FTN_RX_OK, Off.FTN_SEQ_GAP] s t ∧ OnlyIn [.regs, .ftn] s t := by
  have hexec := exec_starFrameReceive_passed hport hnone
  have hused := onlyIn_usedWindow p f s
  have hverdict := (verdict_usedWindow p f s).trans haccept
  obtain ⟨-, harb, -, hcycle, -⟩ := usedWindow_fields p f s
  have hguard' := (guard_usedWindow hguard).2 hwindow
  generalize usedWindow p f s = v at *
  rw [starFrame_arbitrating hverdict hloop hkind hwindow (by rw [harb]; exact hroom) (by rw [ownAddr_congr (reg_of_only _ hused)]; exact hown) hsingle] at hexec
  have hqueued := onlyIn_arbQueued f v
  obtain ⟨harbq, hguardsq⟩ := arbQueued_fields f v
  generalize arbQueued f v = y at *
  have hbefore := onlyIn_trans hused hqueued
  obtain ⟨harb', hguards, hok, hregs, honly⟩ := starAccepted (u := y) (gap := gap) (wf_of_only hwf hbefore) hkind
  generalize acceptCounted gap f (keepSeq false none f y) = t at *
  refine ⟨t, hexec, ?_, ?_, ?_, fun r hr => ?_, onlyIn_trans (onlyIn_mono hbefore (by decide)) honly⟩
  · rw [harb', harbq, harb, hcycle]
  · rw [hguards, hguardsq, hguard']
  · rw [hok, reg_of_only _ hbefore]
  · rw [hregs r hr, reg_of_only _ hbefore]

theorem exists_next_starFail (s : State) (p c : Nat) (f : Frame) (stamp : Int) (hwf : RegsWf s) (hup : s.up = true) (hp : p < 16) (hlive : s.portLive (4 + p) = true)
    (hguard : s.sys.guardianFault = false) (hnone : s.starViolation p f (s.inCycle ((s.ingress (4 + p) stamp).getD stamp)) = none) (hfail : s.verdict f = .fail c) :
    ∃ t, exec (.starFrameReceive p f stamp) s = .next t ∧ t.reg c = s.reg c + 1 ∧ t.out = s.out ∧ t.ftn.errSeen = true ∧ t.ftn.arb = s.ftn.arb ∧
      t.ftn.last = s.ftn.last ∧ RegsOnly [c] s t ∧ OnlyIn [.regs, .ftn, .icus] s t := by
  have hexec := exec_starFrameReceive_passed ⟨hup, hp, hlive, hguard⟩ hnone
  have hused := onlyIn_usedWindow p f s
  have hverdict := (verdict_usedWindow p f s).trans hfail
  obtain ⟨-, harb, hlast, -, -⟩ := usedWindow_fields p f s
  generalize usedWindow p f s = v at *
  unfold starFrame at hexec
  rw [hverdict] at hexec
  dsimp only at hexec
  obtain ⟨hcount, hmark, -, hregs, honly⟩ := checkFailed_marks (wf_of_only hwf hused) (counter_of_fail hfail)
  generalize checkFailed c v = t at *
  refine ⟨t, hexec, ?_, ?_, by rw [hmark], by rw [hmark, harb], by rw [hmark, hlast], fun r hr => ?_, onlyIn_trans (onlyIn_mono hused (by decide)) honly⟩
  · rw [hcount, reg_of_only _ hused]
  · rw [honly.2 .out (by decide), hused.2 .out (by decide)]
  · rw [hregs r hr, reg_of_only _ hused]

/-! ### Violations of the guardian (R273, Table 8.7) -/

/-- Whether a violation blocks the port. -/
def Guard.blocks (g : Guard) (cfg : Word) : Bool := !g.blocked && !g.disabled && decide (max 1 (fld cfg 16 4) ≤ g.count + 1)

/-- The run of basic cycles with a block, after a violation. -/
def Guard.runAfter (g : Guard) (cfg : Word) : Nat := if g.blocks cfg then g.run + 1 else g.run

/-- Whether a violation disables the port. -/
def Guard.disables (g : Guard) (cfg : Word) : Bool := g.blocks cfg && fld cfg 24 8 != 0 && decide (fld cfg 24 8 ≤ g.runAfter cfg)

/-- The guard of a port after a violation. -/
def Guard.violated (g : Guard) (cfg : Word) (kind : Nat) : Guard :=
  { g with count := g.count + 1, lastKind := kind, run := g.runAfter cfg, total := min 65535 (g.total + 1), blocked := g.blocked || g.blocks cfg,
           disabled := g.disabled || g.disables cfg, hit := true, tell := g.tell || !g.hit }

/-- The violation noted at its port. -/
def guardMarked (p kind : Nat) (s : State) : State :=
  { s with ftn := { s.ftn with guards := modAt s.ftn.guards p fun _ => (s.ftn.guards.getD p Reset.guard).violated (s.reg Off.FTN_GUARD_CFG) kind } }

theorem onlyIn_guardMarked (p kind : Nat) (s : State) : OnlyIn [.ftn] s (guardMarked p kind s) := only_mk only_refl

theorem guardMarked_fields (p kind : Nat) (s : State) :
    (guardMarked p kind s).ftn.guards = modAt s.ftn.guards p (fun _ => (s.ftn.guards.getD p Reset.guard).violated (s.reg Off.FTN_GUARD_CFG) kind) ∧
      (guardMarked p kind s).ftn.arb = s.ftn.arb ∧ (guardMarked p kind s).ftn.last = s.ftn.last ∧ (guardMarked p kind s).ftn.ports = s.ftn.ports := ⟨rfl, rfl, rfl, rfl⟩

theorem getElem?_modAt_ne {α : Type} (l : List α) {i j : Nat} (f : α → α) (h : j ≠ i) : (modAt l i f)[j]? = l[j]? := by
  induction l generalizing i j with
  | nil => rfl
  | cons x xs ih =>
    cases i with
    | zero =>
      cases j with
      | zero => exact absurd rfl h
      | succ j => rfl
    | succ i =>
      cases j with
      | zero => rfl
      | succ j => exact ih fun hij => h (by rw [hij])

/-- The counters and the first interrupts of a violation. -/
def guardCounted (g : Guard) (cfg : Word) (kind : Nat) (s : State) : State :=
  s |> bump Off.FTN_GUARD_BLOCKED |> when (kind == 5) (bump Off.FTN_GUARD_TRUNC) |> when (!g.hit) (raiseIrq Irq.FTN_GUARD_VIOLATION)
    |> when (g.blocks cfg) (raiseIrq Irq.FTN_GUARD_BLOCK)

theorem onlyIn_guardCounted (g : Guard) (cfg : Word) (kind : Nat) (s : State) : OnlyIn [.regs, .icus] s (guardCounted g cfg kind s) :=
  only_when only_raiseIrq (only_when only_raiseIrq (only_when only_bump (only_bump only_refl)))

theorem guardViolate_eq {g : Guard} {kind : Nat} (hg : s.ftn.guards[p]? = some g) :
    guardViolate p kind s = when (g.disables (s.reg Off.FTN_GUARD_CFG)) (fun s => raiseIrq Irq.FTN_GUARD_DISABLE (record 0x0706 [iU8 1 p, iU8 2 kind] s))
      (guardCounted g (s.reg Off.FTN_GUARD_CFG) kind (guardMarked p kind s)) := by
  have hgd : s.ftn.guards.getD p Reset.guard = g := by rw [List.getD_eq_getElem?_getD, hg, Option.getD_some]
  rw [← hgd]
  rfl

theorem guardCounted_counts {g : Guard} {cfg : Word} {kind : Nat} (hwf : RegsWf s) :
    (guardCounted g cfg kind s).reg Off.FTN_GUARD_BLOCKED = s.reg Off.FTN_GUARD_BLOCKED + 1 ∧
      RegsOnly [Off.FTN_GUARD_BLOCKED, Off.FTN_GUARD_TRUNC] s (guardCounted g cfg kind s) ∧
      (kind ≠ 5 → RegsOnly [Off.FTN_GUARD_BLOCKED] s (guardCounted g cfg kind s)) ∧ (g.hit = false → Raised Irq.FTN_GUARD_VIOLATION (guardCounted g cfg kind s)) ∧
      (g.blocks cfg = true → Raised Irq.FTN_GUARD_BLOCK (guardCounted g cfg kind s)) := by
  have hirqs : ∀ u : State, ∀ k, (when (g.blocks cfg) (raiseIrq Irq.FTN_GUARD_BLOCK) (when (!g.hit) (raiseIrq Irq.FTN_GUARD_VIOLATION) u)).reg k = u.reg k := fun u k =>
    reg_of_only (P := [.icus]) k (only_when only_raiseIrq (only_when only_raiseIrq only_refl))
  refine ⟨?_, regs_when regs_raiseIrq (regs_when regs_raiseIrq (regs_when regs_bump (regs_bump regs_refl))), fun h => ?_, fun h => ?_, fun h => ?_⟩
  · rw [guardCounted, hirqs]
    unfold when
    split
    · rw [reg_bump_ne _ _ _ (by decide), reg_bump_unmasked _ _ hwf (by decide)]
    · rw [reg_bump_unmasked _ _ hwf (by decide)]
  · rw [guardCounted, beq_false_of_ne h, when_false]
    exact regs_when regs_raiseIrq (regs_when regs_raiseIrq (regs_bump regs_refl))
  · rw [guardCounted, h]
    exact raised_when raised_raiseIrq_too (raised_raiseIrq _ _ (by decide))
  · rw [guardCounted, h]
    exact raised_raiseIrq _ _ (by decide)

/-- What a violation leaves at its port and of the rest. -/
structure Violated (s t : State) (p kind : Nat) (g : Guard) : Prop where
  guard : t.ftn.guards[p]? = some (g.violated (s.reg Off.FTN_GUARD_CFG) kind)
  others : ∀ q, q ≠ p → t.ftn.guards[q]? = s.ftn.guards[q]?
  arb : t.ftn.arb = s.ftn.arb
  last : t.ftn.last = s.ftn.last
  ports : t.ftn.ports = s.ftn.ports
  out : t.out = s.out
  count : t.reg Off.FTN_GUARD_BLOCKED = s.reg Off.FTN_GUARD_BLOCKED + 1
  regs : RegsOnly [Off.FTN_GUARD_BLOCKED, Off.FTN_GUARD_TRUNC, Off.REC_LOST_CNT] s t
  whole : kind ≠ 5 → RegsOnly [Off.FTN_GUARD_BLOCKED, Off.REC_LOST_CNT] s t
  first : g.hit = false → Raised Irq.FTN_GUARD_VIOLATION t
  block : g.blocks (s.reg Off.FTN_GUARD_CFG) = true → Raised Irq.FTN_GUARD_BLOCK t
  frame : OnlyIn (.ftn :: recParts) s t

theorem guardViolate_marks {g : Guard} {kind : Nat} (hwf : RegsWf s) (hg : s.ftn.guards[p]? = some g) : Violated s (guardViolate p kind s) p kind g := by
  have hgd : s.ftn.guards.getD p Reset.guard = g := by rw [List.getD_eq_getElem?_getD, hg, Option.getD_some]
  have hmarked := onlyIn_guardMarked p kind s
  obtain ⟨hguards, harb, hlast, hports⟩ := guardMarked_fields p kind s
  rw [guardViolate_eq hg]
  generalize guardMarked p kind s = m at *
  obtain ⟨hcount, hregs, hwhole, hfirst, hblock⟩ := guardCounted_counts (g := g) (cfg := s.reg Off.FTN_GUARD_CFG) (kind := kind) (wf_of_only hwf hmarked)
  have hcounted := onlyIn_guardCounted g (s.reg Off.FTN_GUARD_CFG) kind m
  generalize guardCounted g (s.reg Off.FTN_GUARD_CFG) kind m = c at *
  have hdis : OnlyIn recParts c (when (g.disables (s.reg Off.FTN_GUARD_CFG)) (fun s => raiseIrq Irq.FTN_GUARD_DISABLE (record 0x0706 [iU8 1 p, iU8 2 kind] s)) c) :=
    only_when (fun h => only_raiseIrq (only_record h)) only_refl
  have hlost : RegsOnly [Off.REC_LOST_CNT] c (when (g.disables (s.reg Off.FTN_GUARD_CFG)) (fun s => raiseIrq Irq.FTN_GUARD_DISABLE (record 0x0706 [iU8 1 p, iU8 2 kind] s)) c) :=
    regs_when (fun h => regs_raiseIrq (regs_record h)) regs_refl
  have hraised : ∀ id, Raised id c → Raised id (when (g.disables (s.reg Off.FTN_GUARD_CFG)) (fun s => raiseIrq Irq.FTN_GUARD_DISABLE (record 0x0706 [iU8 1 p, iU8 2 kind] s)) c) :=
    fun id h => raised_when (fun h => raised_raiseIrq_too (raised_record h)) h
  generalize when (g.disables (s.reg Off.FTN_GUARD_CFG)) (fun s => raiseIrq Irq.FTN_GUARD_DISABLE (record 0x0706 [iU8 1 p, iU8 2 kind] s)) c = t at *
  have hftn : t.ftn = m.ftn := (hdis.2 .ftn (by decide)).trans (hcounted.2 .ftn (by decide))
  have hframe : OnlyIn (.ftn :: recParts) s t := onlyIn_trans (onlyIn_mono hmarked (by decide)) (onlyIn_trans (onlyIn_mono hcounted (by decide)) (onlyIn_mono hdis (by decide)))
  refine ⟨?_, fun q hq => ?_, ?_, ?_, ?_, hframe.2 .out (by decide), ?_, fun k hk => ?_, fun h k hk => ?_, fun h => hraised _ (hfirst h), fun h => hraised _ (hblock h), hframe⟩
  · rw [hftn, hguards, getElem?_modAt_self, hg, hgd]
    rfl
  · rw [hftn, hguards, getElem?_modAt_ne _ _ hq]
  · rw [hftn, harb]
  · rw [hftn, hlast]
  · rw [hftn, hports]
  · rw [hlost _ (by decide), hcount, reg_of_only _ hmarked]
  · simp only [List.mem_cons, List.not_mem_nil, or_false, not_or] at hk
    obtain ⟨hk1, hk2, hk3⟩ := hk
    rw [hlost k (by simpa using hk3), hregs k (by simpa using ⟨hk1, hk2⟩), reg_of_only _ hmarked]
  · simp only [List.mem_cons, List.not_mem_nil, or_false, not_or] at hk
    obtain ⟨hk1, hk2⟩ := hk
    rw [hlost k (by simpa using hk2), hwhole h k (by simpa using hk1), reg_of_only _ hmarked]

theorem starViolation_idle (hnone : s.starWindows p = []) {y : Int} (hidle : ((s.matrix.t - s.matrix.nit : Nat) : Int) * 256 ≤ y) :
    s.starViolation p f y = some 7 := by
  unfold State.starViolation
  dsimp only
  rw [hnone, List.find?_nil]
  dsimp only
  rw [if_neg (by rw [decide_eq_true_eq]; intro h; exact absurd hidle (Int.not_le.mpr h.2)), if_pos (decide_eq_true hidle)]

theorem exists_next_starIdle (s : State) (p : Nat) (f : Frame) (stamp : Int) (hwf : RegsWf s) (hup : s.up = true) (hp : p < 16) (hlive : s.portLive (4 + p) = true)
    (hguard : s.sys.guardianFault = false) (hlen : p < s.ftn.guards.length) (hnone : s.starWindows p = [] ∧ s.matrix.nit ≤ s.matrix.t)
    (hidle : ((s.matrix.t - s.matrix.nit : Nat) : Int) * 256 ≤ s.inCycle ((s.ingress (4 + p) stamp).getD stamp)) :
    ∃ t, exec (.starFrameReceive p f stamp) s = .next t ∧ t.reg Off.FTN_GUARD_BLOCKED = s.reg Off.FTN_GUARD_BLOCKED + 1 ∧ t.out = s.out ∧
      (t.ftn.guards[p]?).map (·.lastKind) = some 7 ∧ t.ftn.arb = s.ftn.arb ∧ t.ftn.last = s.ftn.last ∧
      RegsOnly [Off.FTN_GUARD_BLOCKED, Off.REC_LOST_CNT] s t ∧ OnlyIn (.ftn :: recParts) s t := by
  obtain ⟨hnone, -⟩ := hnone
  have hexec := exec_starFrameReceive (f := f) (stamp := stamp) ⟨hup, hp, hlive, hguard⟩
  rw [starViolation_idle hnone hidle] at hexec
  have h := guardViolate_marks (kind := 7) hwf (List.getElem?_eq_getElem hlen)
  exact ⟨_, hexec, h.count, h.out, by rw [h.guard]; rfl, h.arb, h.last, h.whole (by decide), h.frame⟩

end

/-- Settles O32, command by command. -/
theorem receivingFrames : Obligations.ReceivingFrames :=
  ⟨exists_next_accepted,
    fun s p out c f stamp hwf hup hpass hloop hforeign hlocal =>
      ⟨exists_next_hopDrop s p out f stamp hwf hup hpass hloop hforeign hlocal, exists_next_checkFail s p out c f stamp hwf hup hpass hloop hforeign hlocal,
        exists_next_mismatch s p out f stamp hwf hup hpass hloop hforeign hlocal⟩,
    fun s p out f stamp hlocal hown => ⟨exists_next_ownFrame s p f stamp hlocal hown, exists_next_loopedFrame s p out f stamp hlocal hown⟩,
    fun s p gap f g stamp hwf hup hp hlive hguardian hguard hnone haccept hloop hkind =>
      ⟨fun e => exists_next_starExclusive s p gap f g stamp e hwf ⟨hup, hp, hlive, hguardian⟩ hguard hnone haccept hloop hkind,
        exists_next_starArbitrating s p gap f g stamp hwf ⟨hup, hp, hlive, hguardian⟩ hguard hnone haccept hloop hkind⟩,
    exists_next_starFail, exists_next_starIdle⟩

end Sys2Proof.Machine

namespace Sys2Proof.Machine

set_option Elab.async false

/-! ### Links and ports of a state (R139, R275) -/

section
variable {P : List Part} {R : List Nat} {b s t : State} {f : Link → Link} {h : Port → Port} {p q : Nat}

theorem link_congr (hlinks : t.ftn.links = s.ftn.links) (p : Nat) : t.link p = s.link p := by
  unfold State.link
  rw [hlinks]

theorem port_congr (hports : t.ftn.ports = s.ftn.ports) (p : Nat) : t.port p = s.port p := by
  unfold State.port
  rw [hports]

theorem link_setLink_self (hp : p < s.ftn.links.length) : (setLink p f s).link p = f (s.link p) := getD_modAt_self _ _ _ _ hp

theorem link_setLink_ne (hq : q ≠ p) : (setLink p f s).link q = s.link q := getD_modAt_ne _ _ _ _ _ hq

theorem port_setPort_self (hp : p < s.ftn.ports.length) : (setPort p h s).port p = h (s.port p) := getD_modAt_self _ _ _ _ hp

theorem port_setPort_ne (hq : q ≠ p) : (setPort p h s).port q = s.port q := getD_modAt_ne _ _ _ _ _ hq

theorem links_setPort (p : Nat) (h : Port → Port) (s : State) : (setPort p h s).ftn.links = s.ftn.links := rfl

theorem ports_setLink (p : Nat) (f : Link → Link) (s : State) : (setLink p f s).ftn.ports = s.ftn.ports := rfl

theorem onlyIn_setLink (p : Nat) (f : Link → Link) (s : State) : OnlyIn [.ftn] s (setLink p f s) := only_mk only_refl

end

/-! ### Violations at a guarded port (R273) -/

section
variable {s t : State} {p : Nat}

theorem exec_guardViolation {kind : Nat} (hup : s.up = true) (hp : p < 16) (h1 : 1 ≤ kind) (h7 : kind ≤ 7) :
    exec (.guardViolation p kind) s = .next (guardViolate p kind s) :=
  congrArg Host.Outcome.next (if_pos (by rw [hup, decide_eq_true hp, decide_eq_true h1, decide_eq_true h7]; decide))

theorem exists_next_guardViolation (s : State) (p kind lim : Nat) (g : Guard) (hwf : RegsWf s) (hup : s.up = true) (hp : p < 16) (hg : s.ftn.guards[p]? = some g)
    (h1 : 1 ≤ kind) (h7 : kind ≤ 7) (hlim : lim = max 1 (fld (s.reg Off.FTN_GUARD_CFG) 16 4)) (hblocked : g.blocked = false) (hdisabled : g.disabled = false)
    (hnever : fld (s.reg Off.FTN_GUARD_CFG) 24 8 = 0) :
    ∃ t, exec (.guardViolation p kind) s = .next t ∧
      t.ftn.guards[p]? = some { g with count := g.count + 1, lastKind := kind, total := min 65535 (g.total + 1), blocked := decide (lim ≤ g.count + 1), run := (if lim ≤ g.count + 1 then g.run + 1 else g.run), hit := true, tell := g.tell || !g.hit } ∧
      (∀ q, q ≠ p → t.ftn.guards[q]? = s.ftn.guards[q]?) ∧ t.reg Off.FTN_GUARD_BLOCKED = s.reg Off.FTN_GUARD_BLOCKED + 1 ∧
      (g.hit = false → Raised Irq.FTN_GUARD_VIOLATION t) ∧ (lim ≤ g.count + 1 → Raised Irq.FTN_GUARD_BLOCK t) ∧
      RegsOnly [Off.FTN_GUARD_BLOCKED, Off.FTN_GUARD_TRUNC] s t ∧ OnlyIn [.regs, .ftn, .icus] s t := by
  have hblocks : g.blocks (s.reg Off.FTN_GUARD_CFG) = decide (lim ≤ g.count + 1) := by
    unfold Guard.blocks
    rw [hblocked, hdisabled, hlim]
    rfl
  have hdisables : g.disables (s.reg Off.FTN_GUARD_CFG) = false := by
    unfold Guard.disables
    rw [hnever, bne_self_eq_false, Bool.and_false, Bool.false_and]
  have hguard : g.violated (s.reg Off.FTN_GUARD_CFG) kind = { g with count := g.count + 1, lastKind := kind, total := min 65535 (g.total + 1), blocked := decide (lim ≤ g.count + 1), run := (if lim ≤ g.count + 1 then g.run + 1 else g.run), hit := true, tell := g.tell || !g.hit } := by
    unfold Guard.violated Guard.runAfter
    rw [hdisables, hblocks, hblocked, Bool.or_false, Bool.false_or]
    simp only [decide_eq_true_eq]
  have hmarks := guardViolate_marks (kind := kind) hwf hg
  have heq := guardViolate_eq (kind := kind) hg
  rw [hdisables, when_false] at heq
  have hmarked := onlyIn_guardMarked p kind s
  obtain ⟨-, hregs, -, -, -⟩ := guardCounted_counts (g := g) (cfg := s.reg Off.FTN_GUARD_CFG) (kind := kind) (wf_of_only hwf hmarked)
  have hcounted := onlyIn_guardCounted g (s.reg Off.FTN_GUARD_CFG) kind (guardMarked p kind s)
  rw [← heq] at hregs hcounted
  exact ⟨_, exec_guardViolation hup hp h1 h7, by rw [hmarks.guard, hguard], hmarks.others, hmarks.count, hmarks.first, fun h => hmarks.block (by rw [hblocks, decide_eq_true h]),
    fun k hk => (hregs k hk).trans (reg_of_only k hmarked), onlyIn_trans (onlyIn_mono hmarked (by decide)) (onlyIn_mono hcounted (by decide))⟩

theorem exists_next_guardDisable (s : State) (p kind : Nat) (g : Guard) (hwf : RegsWf s) (hup : s.up = true) (hp : p < 16) (hg : s.ftn.guards[p]? = some g)
    (h1 : 1 ≤ kind) (h7 : kind ≤ 7) (hblocked : g.blocked = false) (hdisabled : g.disabled = false) (hlim : max 1 (fld (s.reg Off.FTN_GUARD_CFG) 16 4) ≤ g.count + 1)
    (hon : fld (s.reg Off.FTN_GUARD_CFG) 24 8 ≠ 0) (hrun : fld (s.reg Off.FTN_GUARD_CFG) 24 8 ≤ g.run + 1) :
    ∃ t g', exec (.guardViolation p kind) s = .next t ∧ t.ftn.guards[p]? = some g' ∧ g'.blocked = true ∧ g'.disabled = true ∧
      Raised Irq.FTN_GUARD_DISABLE t ∧ Recorded 0x0706 [iU8 1 p, iU8 2 kind] s t ∧
      RegsOnly [Off.FTN_GUARD_BLOCKED, Off.FTN_GUARD_TRUNC, Off.REC_LOST_CNT] s t ∧ OnlyIn (.ftn :: recParts) s t := by
  have hblocks : g.blocks (s.reg Off.FTN_GUARD_CFG) = true := by
    unfold Guard.blocks
    rw [hblocked, hdisabled, decide_eq_true hlim]
    rfl
  have hdisables : g.disables (s.reg Off.FTN_GUARD_CFG) = true := by
    unfold Guard.disables Guard.runAfter
    rw [hblocks, if_pos rfl, bne_iff_ne.mpr hon, decide_eq_true hrun]
    rfl
  have hmarks := guardViolate_marks (kind := kind) hwf hg
  have heq := guardViolate_eq (kind := kind) hg
  rw [hdisables, when_true] at heq
  have hcounted : OnlyIn [.regs, .ftn, .icus] s (guardCounted g (s.reg Off.FTN_GUARD_CFG) kind (guardMarked p kind s)) :=
    onlyIn_trans (onlyIn_mono (onlyIn_guardMarked p kind s) (by decide)) (onlyIn_mono (onlyIn_guardCounted _ _ _ _) (by decide))
  refine ⟨_, _, exec_guardViolation hup hp h1 h7, hmarks.guard, ?_, ?_, ?_, ?_, hmarks.regs, hmarks.frame⟩
  · show (g.blocked || g.blocks _) = true
    rw [hblocks, Bool.or_true]
  · show (g.disabled || g.disables _) = true
    rw [hdisables, Bool.or_true]
  · rw [heq]
    exact raised_raiseIrq _ _ (by decide)
  · rw [heq]
    exact recorded_after (recorded_record_of hcounted) (only_raiseIrq (P := [.icus]) only_refl)

theorem exists_next_guardPortEnable (s : State) (v : Word) (g : Guard) (hwf : RegsWf s) (hup : s.up = true) (hg : s.ftn.guards[fld v 8 4]? = some g) :
    (fld v 16 16 = 0x4744 → fld v 0 4 = 1 → ∃ t, exec (.guardPortEnable v) s = .next t ∧
      t.ftn.guards[fld v 8 4]? = some { g with disabled := false, run := 0 } ∧
      (∀ q, q ≠ fld v 8 4 → t.ftn.guards[q]? = s.ftn.guards[q]?) ∧ OnlyIn [.ftn] s t) ∧
    (fld v 16 16 ≠ 0x4744 → ∃ t, exec (.guardPortEnable v) s = .next t ∧ t.reg Off.FTN_CMD_REJECTS = s.reg Off.FTN_CMD_REJECTS + 1 ∧
      RegsOnly [Off.FTN_CMD_REJECTS] s t ∧ OnlyIn [.regs] s t) := by
  have hexec : exec (.guardPortEnable v) s = .next (guardCmdOp v s) := congrArg Host.Outcome.next (if_pos hup)
  refine ⟨fun hkey hop => ?_, fun hkey => ?_⟩
  · have hcmd : guardCmdOp v s = { s with ftn := { s.ftn with guards := modAt s.ftn.guards (fld v 8 4) fun g => { g with disabled := false, run := 0 } } } :=
      if_pos (by rw [hkey, hop]; decide)
    rw [hcmd] at hexec
    refine ⟨_, hexec, ?_, fun q hq => getElem?_modAt_ne _ _ hq, only_mk only_refl⟩
    show (modAt s.ftn.guards (fld v 8 4) _)[fld v 8 4]? = _
    rw [getElem?_modAt_self, hg]
    rfl
  · have hcmd : guardCmdOp v s = bump Off.FTN_CMD_REJECTS s := if_neg (by rw [beq_false_of_ne hkey, Bool.false_and]; decide)
    rw [hcmd] at hexec
    exact ⟨_, hexec, reg_bump_unmasked _ _ hwf (by decide), regs_bump regs_refl, only_bump only_refl⟩

end

/-! ### Ring healing (R275 to R279) -/

section
variable {s t : State} {p : Nat}

/-- A link as its break leaves it. -/
def Link.broke (l : Link) : Link :=
  { l with broken := true, good := 0, restoring := false, readyOut := false, readyIn := false, restoreAt := none, acked := false }

/-- A port that the module does not have is down. -/
theorem port_setPort_down (s : State) (p : Nat) : (setPort p Port.down s).port p = (s.port p).down := by
  by_cases hp : p < s.ftn.ports.length
  · exact port_setPort_self hp
  · have hnone : s.port p = Reset.port := List.getD_eq_default _ _ (by omega)
    have hnone' : (setPort p Port.down s).port p = Reset.port := List.getD_eq_default _ _ (by
      show (modAt s.ftn.ports p Port.down).length ≤ p
      rw [length_modAt]
      omega)
    rw [hnone, hnone']
    rfl

theorem exists_next_linkBroken (s : State) (p cause : Nat) (hon : s.hubOn = true) (hp : p < 4) (hlen : p < s.ftn.links.length) (hwhole : (s.link p).broken = false)
    (hcause : cause = 1 ∨ cause = 2 ∧ (s.port p).up = true ∧ ((s.port p).lastCheck.all fun c => decide (c + 2 ≤ s.ftn.cycle)) = true ∨
     cause = 3 ∧ s.linkLong p = true) :
    ∃ t, exec (.linkBroken p cause) s = .next t ∧ (t.link p).broken = true ∧ (t.link p).restoring = false ∧ (t.link p).held = (s.link p).held ∧
      (cause = 1 → t.port p = (s.port p).down) ∧ (cause ≠ 1 → t.port p = s.port p) ∧
      (∀ q, q ≠ p → t.link q = s.link q) ∧ (∀ q, q ≠ p → t.port q = s.port q) ∧ Recorded 0x0703 [iU8 1 p, iU8 2 cause] s t ∧
      RegsOnly [Off.REC_LOST_CNT] s t ∧ OnlyIn (.ftn :: recParts) s t := by
  have hbreaks : s.breaks p cause = true ∧ (1 ≤ cause ∧ cause ≤ 3) := by
    rcases hcause with rfl | ⟨rfl, hup, hlast⟩ | ⟨rfl, hlong⟩
    · exact ⟨rfl, by decide, by decide⟩
    · refine ⟨?_, by decide, by decide⟩
      unfold State.breaks
      rw [hup]
      cases hl : (s.port p).lastCheck with
      | none => rfl
      | some c =>
        rw [hl] at hlast
        exact hlast
    · exact ⟨hlong, by decide, by decide⟩
  obtain ⟨hbreaks, h1, h3⟩ := hbreaks
  have hexec : exec (.linkBroken p cause) s = .next (breakLink p cause s) :=
    congrArg Host.Outcome.next (if_pos (by rw [hon, decide_eq_true hp, decide_eq_true h1, decide_eq_true h3, hbreaks]; rfl))
  have hbreak : breakLink p cause s = record 0x0703 [iU8 1 p, iU8 2 cause] (when (cause == 1) (setPort p Port.down) (setLink p Link.broke s)) :=
    if_neg (by rw [hwhole]; decide)
  rw [hbreak] at hexec
  have hset := onlyIn_setLink p Link.broke s
  have hself := link_setLink_self (f := Link.broke) hlen
  have hothers : ∀ q, q ≠ p → (setLink p Link.broke s).link q = s.link q := fun q hq => link_setLink_ne hq
  have hports : ∀ q, (setLink p Link.broke s).port q = s.port q := fun q => port_congr (ports_setLink p Link.broke s) q
  generalize setLink p Link.broke s = u at *
  have hdown : OnlyIn [.ftn] u (when (cause == 1) (setPort p Port.down) u) := only_when only_setPort only_refl
  have hlinks : (when (cause == 1) (setPort p Port.down) u).ftn.links = u.ftn.links := by
    unfold when
    split <;> rfl
  have hsame : cause ≠ 1 → ∀ q, (when (cause == 1) (setPort p Port.down) u).port q = u.port q := fun h q => by rw [beq_false_of_ne h, when_false]
  have hothers' : ∀ q, q ≠ p → (when (cause == 1) (setPort p Port.down) u).port q = u.port q := fun q hq => by
    unfold when
    split
    · exact port_setPort_ne hq
    · rfl
  have hone : cause = 1 → (when (cause == 1) (setPort p Port.down) u).port p = (u.port p).down := fun h => by
    rw [h]
    exact port_setPort_down u p
  generalize when (cause == 1) (setPort p Port.down) u = w at *
  have hrec : OnlyIn recParts w (record 0x0703 [iU8 1 p, iU8 2 cause] w) := only_record only_refl
  have hbefore : OnlyIn [.ftn] s w := onlyIn_trans hset hdown
  have hftn : (record 0x0703 [iU8 1 p, iU8 2 cause] w).ftn = w.ftn := hrec.2 .ftn (by decide)
  have hlink : ∀ q, (record 0x0703 [iU8 1 p, iU8 2 cause] w).link q = u.link q := fun q => link_congr (by rw [hftn, hlinks]) q
  have hport : ∀ q, (record 0x0703 [iU8 1 p, iU8 2 cause] w).port q = w.port q := fun q => port_congr (by rw [hftn]) q
  refine ⟨_, hexec, by rw [hlink, hself]; rfl, by rw [hlink, hself]; rfl, by rw [hlink, hself]; rfl, fun h => ?_, fun h => ?_, fun q hq => ?_, fun q hq => ?_,
    recorded_record_of hbefore, regs_record fun k _ => reg_of_only k hbefore, onlyIn_trans (onlyIn_mono hbefore (by decide)) (onlyIn_mono hrec (by decide))⟩
  · rw [hport, hone h, hports]
  · rw [hport, hsame h, hports]
  · rw [hlink, hothers q hq]
  · rw [hport, hothers' q hq, hports]

theorem onlyIn_sendLocal (p : Nat) (info : Byte) (payload : List Byte) (s : State) : OnlyIn [.out, .ftn] s (sendLocal p info payload s) :=
  only_send (s := (ownFrame 5 0xC000 65535 (s.egress p / 256).toNat 0 0 info false payload s).2) (only_ownFrame only_refl)

/-- A link-local frame on one port. -/
theorem sendLocal_sends (p : Nat) (info : Byte) (payload : List Byte) (s : State) :
    (∃ f : Frame, f.kind = 5 ∧ f.info = info ∧ f.payload = payload ∧ (sendLocal p info payload s).out = s.out ++ [.frame p f]) ∧
      (sendLocal p info payload s).ftn.links = s.ftn.links :=
  ⟨⟨(ownFrame 5 0xC000 65535 (s.egress p / 256).toNat 0 0 info false payload s).1, rfl, rfl, rfl, rfl⟩, rfl⟩

theorem exists_next_heal (s : State) (p cc : Nat) (hup : s.up = true) (hp : p < 4) (hlen : p < s.ftn.links.length) :
    ((s.link p).broken = true → (s.link p).held = false → ∃ t, exec (.healReady p (chanOf p)) s = .next t ∧
      t.link p = { s.link p with readyIn := true } ∧ (∀ q, q ≠ p → t.link q = s.link q) ∧ OnlyIn [.ftn] s t) ∧
    (p = 1 ∨ p = 2 → (s.link p).restoring = true → ∃ t, exec (.healRestoreAt p (chanOf p) cc) s = .next t ∧
      t.link p = { s.link p with restoreAt := some (cc % 1024), acked := true } ∧ (∀ q, q ≠ p → t.link q = s.link q) ∧
      (∃ f : Frame, f.kind = 5 ∧ f.info = 4 ∧ f.payload = healPayload 4 p (cc % 1024) ∧ t.out = s.out ++ [.frame p f]) ∧ OnlyIn [.out, .ftn] s t) ∧
    (p = 0 ∨ p = 3 → (s.link p).restoreAt = some (cc % 1024) → ∃ t, exec (.healAck p (chanOf p) cc) s = .next t ∧
      t.link p = { s.link p with acked := true } ∧ (∀ q, q ≠ p → t.link q = s.link q) ∧ OnlyIn [.ftn] s t) := by
  refine ⟨fun hbroken hheld => ?_, fun hport hrestoring => ?_, fun hport hat => ?_⟩
  · have hexec : exec (.healReady p (chanOf p)) s = .next (setLink p (fun l => { l with readyIn := true }) s) :=
      congrArg Host.Outcome.next (if_pos (by rw [hup, decide_eq_true hp, beq_self_eq_true, hbroken, hheld]; decide))
    exact ⟨_, hexec, link_setLink_self hlen, fun q hq => link_setLink_ne hq, onlyIn_setLink _ _ _⟩
  · have hexec : exec (.healRestoreAt p (chanOf p) cc) s =
        .next (sendLocal p 4 (healPayload 4 p (cc % 1024)) (setLink p (fun l => { l with restoreAt := some (cc % 1024), acked := true }) s)) := by
      refine congrArg Host.Outcome.next (if_pos ?_)
      rw [hup, beq_self_eq_true, hrestoring]
      rcases hport with rfl | rfl <;> decide
    have hset := onlyIn_setLink p (fun l => { l with restoreAt := some (cc % 1024), acked := true }) s
    have hself := link_setLink_self (f := fun l => { l with restoreAt := some (cc % 1024), acked := true }) hlen
    have hothers : ∀ q, q ≠ p → (setLink p (fun l => { l with restoreAt := some (cc % 1024), acked := true }) s).link q = s.link q := fun q hq => link_setLink_ne hq
    generalize setLink p (fun l => { l with restoreAt := some (cc % 1024), acked := true }) s = u at *
    obtain ⟨⟨f, hkind, hinfo, hpayload, hout⟩, hlinks⟩ := sendLocal_sends p 4 (healPayload 4 p (cc % 1024)) u
    refine ⟨_, hexec, ?_, fun q hq => ?_, ⟨f, hkind, hinfo, hpayload, ?_⟩, onlyIn_trans (onlyIn_mono hset (by decide)) (onlyIn_sendLocal _ _ _ _)⟩
    · rw [link_congr hlinks, hself]
    · rw [link_congr hlinks, hothers q hq]
    · rw [hout, hset.2 .out (by decide)]
  · have hexec : exec (.healAck p (chanOf p) cc) s = .next (setLink p (fun l => { l with acked := true }) s) := by
      refine congrArg Host.Outcome.next (if_pos ?_)
      rw [hup, beq_self_eq_true, hat, beq_self_eq_true]
      rcases hport with rfl | rfl <;> decide
    exact ⟨_, hexec, link_setLink_self hlen, fun q hq => link_setLink_ne hq, onlyIn_setLink _ _ _⟩

/-! ### FTN_RING_CMD (R279, R281) -/

theorem ringCmd_rejects (hwf : RegsWf s) {v : Word} {c : Instr} (hexec : exec c s = .next (ringCmdOp v s)) (hcmd : ringCmdOp v s = bump Off.FTN_CMD_REJECTS s) :
    ∃ t, exec c s = .next t ∧ t.reg Off.FTN_CMD_REJECTS = s.reg Off.FTN_CMD_REJECTS + 1 ∧ RegsOnly [Off.FTN_CMD_REJECTS] s t ∧ OnlyIn [.regs] s t := by
  rw [hcmd] at hexec
  exact ⟨_, hexec, reg_bump_unmasked _ _ hwf (by decide), regs_bump regs_refl, only_bump only_refl⟩

theorem exists_next_ringCmd (s : State) (v : Word) (p : Nat) (hwf : RegsWf s) (hup : s.up = true) (hp : p = fld v 4 2) (hlen : p < s.ftn.links.length) :
    (fld v 16 16 = 0x524E → fld v 0 4 = 1 → s.sys.mode = .safeHold → ∃ t, exec (.ringHold v) s = .next t ∧ (t.link p).broken = true ∧
      (t.link p).held = true ∧ (∀ q, q ≠ p → t.link q = s.link q) ∧ OnlyIn [.ftn] s t) ∧
    (fld v 16 16 = 0x524E → fld v 0 4 = 2 → ∃ t, exec (.ringRelease v) s = .next t ∧ t.link p = { s.link p with held := false, good := 0 } ∧
      (∀ q, q ≠ p → t.link q = s.link q) ∧ OnlyIn [.ftn] s t) ∧
    (∀ c : Instr, (c = .ringHold v ∨ c = .ringRelease v) → fld v 16 16 ≠ 0x524E → ∃ t, exec c s = .next t ∧
      t.reg Off.FTN_CMD_REJECTS = s.reg Off.FTN_CMD_REJECTS + 1 ∧ RegsOnly [Off.FTN_CMD_REJECTS] s t ∧ OnlyIn [.regs] s t) ∧
    (fld v 0 4 = 1 → s.sys.mode ≠ .safeHold → ∃ t, exec (.ringHold v) s = .next t ∧
      t.reg Off.FTN_CMD_REJECTS = s.reg Off.FTN_CMD_REJECTS + 1 ∧ RegsOnly [Off.FTN_CMD_REJECTS] s t ∧ OnlyIn [.regs] s t) := by
  have hhold : exec (.ringHold v) s = .next (ringCmdOp v s) := congrArg Host.Outcome.next (if_pos hup)
  have hrelease : exec (.ringRelease v) s = .next (ringCmdOp v s) := congrArg Host.Outcome.next (if_pos hup)
  subst hp
  refine ⟨fun hkey hop hmode => ?_, fun hkey hop => ?_, fun c hc hkey => ?_, fun hop hmode => ?_⟩
  · have hheld : s.held = true := beq_iff_eq.mpr hmode
    have hcmd : ringCmdOp v s = setLink (fld v 4 2) (fun l => { l.broke with held := true }) s := if_pos (by rw [hkey, hop, hheld]; decide)
    rw [hcmd] at hhold
    have hself := link_setLink_self (f := fun l => { l.broke with held := true }) hlen
    exact ⟨_, hhold, by rw [hself]; rfl, by rw [hself], fun q hq => link_setLink_ne hq, onlyIn_setLink _ _ _⟩
  · have hcmd : ringCmdOp v s = setLink (fld v 4 2) (fun l => { l with held := false, good := 0 }) s := by
      unfold ringCmdOp
      dsimp only
      rw [hkey, hop, if_neg (by rw [Bool.and_eq_true]; intro h; exact absurd h.1 (by decide)), if_pos (by decide)]
    rw [hcmd] at hrelease
    exact ⟨_, hrelease, link_setLink_self hlen, fun q hq => link_setLink_ne hq, onlyIn_setLink _ _ _⟩
  · have hcmd : ringCmdOp v s = bump Off.FTN_CMD_REJECTS s := by
      unfold ringCmdOp
      dsimp only
      rw [beq_false_of_ne hkey, Bool.false_and, Bool.false_and, Bool.false_and, if_neg (by decide), if_neg (by decide)]
    rcases hc with rfl | rfl
    · exact ringCmd_rejects hwf hhold hcmd
    · exact ringCmd_rejects hwf hrelease hcmd
  · have hheld : s.held = false := beq_false_of_ne hmode
    have hcmd : ringCmdOp v s = bump Off.FTN_CMD_REJECTS s := by
      unfold ringCmdOp
      dsimp only
      rw [hop, hheld, Bool.and_false, if_neg (by decide), if_neg (by rw [Bool.and_eq_true]; intro h; exact absurd h.2 (by decide))]
    exact ringCmd_rejects hwf hhold hcmd

end

end Sys2Proof.Machine

namespace Sys2Proof.Machine

set_option Elab.async false

/-! ### Link checks received (R260 to R264) -/

section
variable {s t u : State} {p q c : Nat} {f : Frame} {stamp x : Int}

/-- A LINK_CHECK in the service window of its star port. -/
def checkNoted (p : Nat) (s : State) : State :=
  { s with ftn := { s.ftn with guards := modAt s.ftn.guards (p - 4) fun g => { g with checks := g.checks + 1 } } }

theorem onlyIn_checkNoted (p : Nat) (s : State) : OnlyIn [.ftn] s (checkNoted p s) := only_mk only_refl

theorem checkNoted_fields (p : Nat) (s : State) :
    (checkNoted p s).ftn = { s.ftn with guards := modAt s.ftn.guards (p - 4) fun g => { g with checks := g.checks + 1 } } := rfl

theorem onlyIn_when_checkNoted (c : Bool) (p : Nat) (s : State) : OnlyIn [.ftn] s (when c (checkNoted p) s) := by
  unfold when
  split
  · exact onlyIn_checkNoted p s
  · exact only_refl

/-- What a port does with an admitted LINK_CHECK. -/
def checkAdmitted (p : Nat) (f : Frame) (x : Option Int) (s : State) : State :=
  if !f.fcsOk then checkFailed Off.FTN_RX_FCS_ERR s
  else if !headerOk f then checkFailed Off.FTN_RX_BAD_HDR s
  else if f.e2e != frameCrc f then checkFailed Off.FTN_RX_CRC_ERR s
  else if !(f.kind == 5 && f.info == 2 && (f.plen == 84 || f.plen == 24)) then when (decide (4 ≤ p)) (guardViolate (p - 4) 7) s
  else takeCheck p f x s

theorem exec_linkCheckReceive (hup : s.up = true) (hp : p < 20) (hlive : s.portLive p = true) :
    exec (.linkCheckReceive p f stamp) s = .next (
      if decide (4 ≤ p) && decide (s.inCycle ((s.ingress p stamp).getD stamp) < ((s.matrix.t - s.matrix.nit : Nat) : Int) * 256) then guardViolate (p - 4) 3 s
      else if decide (4 ≤ p) && decide (1 ≤ (s.ftn.guards.getD (p - 4) Reset.guard).checks) then guardViolate (p - 4) 7 s
      else checkAdmitted p f (s.ingress p stamp) (when (decide (4 ≤ p)) (checkNoted p) s)) :=
  congrArg Host.Outcome.next (if_neg (by rw [hup, decide_eq_true hp, hlive]; decide))

theorem exec_linkCheckReceive_admitted (hup : s.up = true) (hp : p < 20) (hlive : s.portLive p = true)
    (hadmit : 4 ≤ p → ((s.matrix.t - s.matrix.nit : Nat) : Int) * 256 ≤ s.inCycle ((s.ingress p stamp).getD stamp) ∧ (s.ftn.guards.getD (p - 4) Reset.guard).checks = 0) :
    exec (.linkCheckReceive p f stamp) s = .next (checkAdmitted p f (s.ingress p stamp) (when (decide (4 ≤ p)) (checkNoted p) s)) := by
  rw [exec_linkCheckReceive hup hp hlive]
  by_cases hstar : 4 ≤ p
  · obtain ⟨hwindow, hfirst⟩ := hadmit hstar
    rw [if_neg (by rw [decide_eq_false (Int.not_lt.mpr hwindow), Bool.and_false]; decide), if_neg (by rw [hfirst, decide_eq_false (show ¬ 1 ≤ 0 by decide), Bool.and_false]; decide)]
  · rw [decide_eq_false hstar, Bool.false_and, Bool.false_and, if_neg (by decide), if_neg (by decide)]

theorem exists_next_linkCheckViolation (s : State) (p kind : Nat) (f : Frame) (stamp x : Int) (hwf : RegsWf s) (hup : s.up = true) (hstar : 4 ≤ p) (hp : p < 20)
    (hlen : p < 4 + s.ftn.guards.length) (hlive : s.portLive p = true) (hx : s.ingress p stamp = some x)
    (hcase : kind = 3 ∧ s.inCycle x < ((s.matrix.t - s.matrix.nit : Nat) : Int) * 256 ∨
     kind = 7 ∧ ((s.matrix.t - s.matrix.nit : Nat) : Int) * 256 ≤ s.inCycle x ∧ 1 ≤ (s.ftn.guards.getD (p - 4) Reset.guard).checks) :
    ∃ t, exec (.linkCheckReceive p f stamp) s = .next t ∧ t.reg Off.FTN_GUARD_BLOCKED = s.reg Off.FTN_GUARD_BLOCKED + 1 ∧
      (t.ftn.guards[p - 4]?).map (·.lastKind) = some kind ∧ t.ftn.ports = s.ftn.ports ∧
      RegsOnly [Off.FTN_GUARD_BLOCKED, Off.REC_LOST_CNT] s t ∧ OnlyIn (.ftn :: recParts) s t := by
  have hexec : exec (.linkCheckReceive p f stamp) s = .next (guardViolate (p - 4) kind s) := by
    rw [exec_linkCheckReceive hup hp hlive, hx, Option.getD_some, decide_eq_true hstar]
    rcases hcase with ⟨rfl, hbefore⟩ | ⟨rfl, hwindow, hsecond⟩
    · rw [decide_eq_true hbefore, if_pos (by decide)]
    · rw [decide_eq_false (Int.not_lt.mpr hwindow), if_neg (by decide), decide_eq_true hsecond, if_pos (by decide)]
  have h := guardViolate_marks (kind := kind) hwf (List.getElem?_eq_getElem (show p - 4 < s.ftn.guards.length by omega))
  exact ⟨_, hexec, h.count, by rw [h.guard]; rfl, h.ports, h.whole (by rcases hcase with ⟨rfl, -⟩ | ⟨rfl, -⟩ <;> decide), h.frame⟩

theorem exists_next_linkCheckFail (s : State) (p c : Nat) (f : Frame) (stamp : Int) (hwf : RegsWf s) (hup : s.up = true) (hp : p < 20) (hlive : s.portLive p = true)
    (hadmit : 4 ≤ p → ((s.matrix.t - s.matrix.nit : Nat) : Int) * 256 ≤ s.inCycle ((s.ingress p stamp).getD stamp) ∧ (s.ftn.guards.getD (p - 4) Reset.guard).checks = 0)
    (hcase : c = Off.FTN_RX_FCS_ERR ∧ f.fcsOk = false ∨ c = Off.FTN_RX_BAD_HDR ∧ f.fcsOk = true ∧ headerOk f = false ∨
     c = Off.FTN_RX_CRC_ERR ∧ f.fcsOk = true ∧ headerOk f = true ∧ f.e2e ≠ frameCrc f) :
    ∃ t, exec (.linkCheckReceive p f stamp) s = .next t ∧ t.reg c = s.reg c + 1 ∧ t.ftn = { s.ftn with errSeen := true, guards := t.ftn.guards } ∧
      (s.ftn.errSeen = false → Raised Irq.FTN_RX_ERROR t) ∧ RegsOnly [c] s t ∧ OnlyIn [.regs, .ftn, .icus] s t := by
  have hexec := exec_linkCheckReceive_admitted (f := f) hup hp hlive hadmit
  have hnoted : OnlyIn [.ftn] s (when (decide (4 ≤ p)) (checkNoted p) s) := onlyIn_when_checkNoted _ p s
  have hftn : (when (decide (4 ≤ p)) (checkNoted p) s).ftn = { s.ftn with guards := (when (decide (4 ≤ p)) (checkNoted p) s).ftn.guards } := by
    unfold when
    split <;> rfl
  generalize when (decide (4 ≤ p)) (checkNoted p) s = u at *
  have hfail : checkAdmitted p f (s.ingress p stamp) u = checkFailed c u ∧ (regMask c = BitVec.allOnes 32 ∧ c % 16777216 = c) := by
    unfold checkAdmitted
    rcases hcase with ⟨rfl, hfcs⟩ | ⟨rfl, hfcs, hhdr⟩ | ⟨rfl, hfcs, hhdr, hcrc⟩
    · exact ⟨if_pos (by rw [hfcs]; rfl), by decide, by decide⟩
    · exact ⟨by rw [if_neg (by rw [hfcs]; decide), if_pos (by rw [hhdr]; rfl)], by decide, by decide⟩
    · exact ⟨by rw [if_neg (by rw [hfcs]; decide), if_neg (by rw [hhdr]; decide), if_pos (bne_iff_ne.mpr hcrc)], by decide, by decide⟩
  obtain ⟨hfail, hcounter⟩ := hfail
  obtain ⟨hcount, hmark, hraise, hregs, honly⟩ := checkFailed_marks (wf_of_only hwf hnoted) hcounter
  rw [hfail] at hexec
  have hseen : u.ftn.errSeen = s.ftn.errSeen := by rw [hftn]
  refine ⟨_, hexec, by rw [hcount, reg_of_only _ hnoted], ?_, fun h => hraise (by rw [hseen, h]), fun k hk => (hregs k hk).trans (reg_of_only k hnoted),
    onlyIn_trans (onlyIn_mono hnoted (by decide)) honly⟩
  rw [hmark, hftn]

/-- A port after the echo of a LINK_CHECK was kept. -/
def Port.heard (y : Port) (seq : Nat) (x : Int) (cycle : Nat) (pds : List (Option Nat)) : Port :=
  { y with echoSeq := seq, echoRx := x, lastCheck := some cycle, pdIn := pds }

/-- The delay of an echoed LINK_CHECK (R262). -/
def checkDelay (f : Frame) (t1 t4 : Int) : Int :=
  ((t4 - t1) - compactDiff f.txTime (beAt f.payload 1 1) (BitVec.ofNat 32 (beAt f.payload 8 4)) (beAt f.payload 12 1)) / 2

theorem meanInt_one (d : Int) : meanInt [d] = d := by
  unfold meanInt
  simp

/-- A measurement keeps what the port echoes; the first one of a measuring port is its delay. -/
theorem measure_marks {t1 t4 : Int} (hp : p < s.ftn.ports.length) :
    ((measure p f t1 t4 s).port p).echoSeq = (s.port p).echoSeq ∧ ((measure p f t1 t4 s).port p).echoRx = (s.port p).echoRx ∧
      ((measure p f t1 t4 s).port p).lastCheck = (s.port p).lastCheck ∧
      ((s.port p).measures = true → (s.port p).delay = none → (s.port p).delays = [] → ((measure p f t1 t4 s).port p).delay = some (checkDelay f t1 t4)) ∧
      (∀ q, q ≠ p → (measure p f t1 t4 s).port q = s.port q) ∧ (measure p f t1 t4 s).ftn.guards = s.ftn.guards ∧ OnlyIn [.ftn, .icus] s (measure p f t1 t4 s) := by
  have hdef : ∃ (delays : List Int) (delay : Option Int) (off : Port → Option Int) (past first : Bool),
      measure p f t1 t4 s = when first (raiseIrq Irq.FTN_STAR_OFFSET) (setPort p (fun x => { x with delays := delays, delay := delay, offset := off x, offsetOver := past }) s) ∧
      ((s.port p).measures = true → (s.port p).delay = none → (s.port p).delays = [] → delay = some (checkDelay f t1 t4)) := by
    refine ⟨_, _, _, _, _, rfl, fun hm hnone hfirst => ?_⟩
    rw [hm, hnone, hfirst, if_pos rfl, if_pos rfl]
    exact congrArg some (meanInt_one _)
  obtain ⟨delays, delay, off, past, first, hdef, hdelay⟩ := hdef
  rw [hdef]
  have hself := port_setPort_self (h := fun x : Port => { x with delays := delays, delay := delay, offset := off x, offsetOver := past }) hp
  have hothers : ∀ q, q ≠ p → (setPort p (fun x => { x with delays := delays, delay := delay, offset := off x, offsetOver := past }) s).port q = s.port q := fun q hq => port_setPort_ne hq
  have hset : OnlyIn [.ftn] s (setPort p (fun x => { x with delays := delays, delay := delay, offset := off x, offsetOver := past }) s) := only_setPort only_refl
  have hguards : (setPort p (fun x => { x with delays := delays, delay := delay, offset := off x, offsetOver := past }) s).ftn.guards = s.ftn.guards := rfl
  generalize setPort p (fun x => { x with delays := delays, delay := delay, offset := off x, offsetOver := past }) s = u at *
  have hirq : OnlyIn [.icus] u (when first (raiseIrq Irq.FTN_STAR_OFFSET) u) := only_when only_raiseIrq only_refl
  have hftn : (when first (raiseIrq Irq.FTN_STAR_OFFSET) u).ftn = u.ftn := hirq.2 .ftn (by decide)
  have hports : ∀ q, (when first (raiseIrq Irq.FTN_STAR_OFFSET) u).port q = u.port q := fun q => port_congr (by rw [hftn]) q
  refine ⟨?_, ?_, ?_, fun hm hnone hfirst => ?_, fun q hq => ?_, by rw [hftn, hguards], onlyIn_trans (onlyIn_mono hset (by decide)) (onlyIn_mono hirq (by decide))⟩
  · rw [hports, hself]
  · rw [hports, hself]
  · rw [hports, hself]
  · rw [hports, hself]
    exact hdelay hm hnone hfirst
  · rw [hports, hothers q hq]

theorem countGood_marks (p : Nat) (consecutive : Bool) (s : State) :
    (countGood p consecutive s).ftn.ports = s.ftn.ports ∧ (countGood p consecutive s).ftn.guards = s.ftn.guards ∧ OnlyIn [.ftn] s (countGood p consecutive s) :=
  ⟨rfl, rfl, only_mk only_refl⟩

/-- The last LINK_CHECK came in the basic cycle before. -/
def State.consecutiveCheck (s : State) (p : Nat) : Bool :=
  match (s.port p).lastCheck with
  | some c => c + 1 == s.ftn.cycle
  | none => false

/-- The path delays of a LINK_CHECK (R263). -/
def checkPds (f : Frame) : List (Option Nat) :=
  (List.range 15).map fun j => if f.plen == 84 && (beAt f.payload 6 2).testBit j then some (beAt f.payload (24 + 4 * j) 4) else none

theorem takeCheck_eq (p : Nat) (f : Frame) (x : Int) (s : State) :
    takeCheck p f (some x) s = when (decide (p < 4)) (countGood p (s.consecutiveCheck p))
      (match (s.port p).sent.find? (fun y => y.1 == beAt f.payload 4 2) with
        | some y => measure p f y.2 x (setPort p (fun y => y.heard f.seq x s.ftn.cycle (checkPds f)) (bump Off.FTN_RX_OK s))
        | none => setPort p (fun y => y.heard f.seq x s.ftn.cycle (checkPds f)) (bump Off.FTN_RX_OK s)) := by
  unfold takeCheck
  dsimp only
  cases (s.port p).sent.find? (fun y => y.1 == beAt f.payload 4 2) <;> rfl

/-- A LINK_CHECK that passes its checks: the echo that the port keeps, and the measurement that it answers. -/
theorem takeCheck_marks (hwf : RegsWf s) (hp : p < s.ftn.ports.length) (hstamps : (s.port p).noStamp = false) :
    ((takeCheck p f (some x) s).port p).echoSeq = f.seq ∧ ((takeCheck p f (some x) s).port p).echoRx = x ∧
      ((takeCheck p f (some x) s).port p).lastCheck = some s.ftn.cycle ∧ (takeCheck p f (some x) s).reg Off.FTN_RX_OK = s.reg Off.FTN_RX_OK + 1 ∧
      (∀ q, q ≠ p → (takeCheck p f (some x) s).port q = s.port q) ∧
      (∀ y, (s.port p).sent.find? (fun x => x.1 == beAt f.payload 4 2) = some y → (s.port p).cal = .frozen → (s.port p).delay = none →
        (s.port p).delays = [] → ((takeCheck p f (some x) s).port p).delay = some (checkDelay f y.2 x)) ∧
      ((s.port p).sent = [] → ((takeCheck p f (some x) s).port p).delay = (s.port p).delay) ∧ (takeCheck p f (some x) s).ftn.guards = s.ftn.guards ∧
      RegsOnly [Off.FTN_RX_OK] s (takeCheck p f (some x) s) ∧ OnlyIn [.regs, .ftn, .icus] s (takeCheck p f (some x) s) := by
  rw [takeCheck_eq]
  generalize s.consecutiveCheck p = consecutive
  generalize checkPds f = pds
  have hbump : OnlyIn [.regs] s (bump Off.FTN_RX_OK s) := only_bump only_refl
  have hcount := reg_bump_unmasked Off.FTN_RX_OK s hwf (by decide)
  have hregs : RegsOnly [Off.FTN_RX_OK] s (bump Off.FTN_RX_OK s) := regs_bump regs_refl
  have hftn : (bump Off.FTN_RX_OK s).ftn = s.ftn := hbump.2 .ftn (by decide)
  generalize bump Off.FTN_RX_OK s = b at *
  have hbports : ∀ q, b.port q = s.port q := fun q => port_congr (by rw [hftn]) q
  have hplen : p < b.ftn.ports.length := by rw [hftn]; exact hp
  have hset : OnlyIn [.ftn] b (setPort p (fun y => y.heard f.seq x s.ftn.cycle pds) b) := only_setPort only_refl
  have hself := port_setPort_self (h := fun y => y.heard f.seq x s.ftn.cycle pds) hplen
  have hothers : ∀ q, q ≠ p → (setPort p (fun y => y.heard f.seq x s.ftn.cycle pds) b).port q = b.port q := fun q hq => port_setPort_ne hq
  have hguards : (setPort p (fun y => y.heard f.seq x s.ftn.cycle pds) b).ftn.guards = b.ftn.guards := rfl
  have hslen : p < (setPort p (fun y => y.heard f.seq x s.ftn.cycle pds) b).ftn.ports.length := by
    show p < (modAt b.ftn.ports p _).length
    rwa [length_modAt]
  generalize setPort p (fun y => y.heard f.seq x s.ftn.cycle pds) b = e at *
  rw [hbports] at hself
  -- The measurement, if there is one, and then the count of good checks.
  obtain ⟨m, hm, hecho, hrx, hlast, hmdelay, hmnone, hmothers, hmguards, hmonly⟩ : ∃ m : State, (match (s.port p).sent.find? (fun y => y.1 == beAt f.payload 4 2) with
        | some y => measure p f y.2 x e
        | none => e) = m ∧ (m.port p).echoSeq = (e.port p).echoSeq ∧ (m.port p).echoRx = (e.port p).echoRx ∧ (m.port p).lastCheck = (e.port p).lastCheck ∧
        (∀ y, (s.port p).sent.find? (fun x => x.1 == beAt f.payload 4 2) = some y → (e.port p).measures = true → (e.port p).delay = none → (e.port p).delays = [] →
          (m.port p).delay = some (checkDelay f y.2 x)) ∧
        ((s.port p).sent = [] → (m.port p).delay = (e.port p).delay) ∧ (∀ q, q ≠ p → m.port q = e.port q) ∧ m.ftn.guards = e.ftn.guards ∧ OnlyIn [.ftn, .icus] e m := by
    cases hfind : (s.port p).sent.find? (fun y => y.1 == beAt f.payload 4 2) with
    | none => exact ⟨e, rfl, rfl, rfl, rfl, fun y h => absurd h (by simp), fun _ => rfl, fun _ _ => rfl, rfl, only_refl⟩
    | some y =>
      obtain ⟨hecho, hrx, hlast, hdelay, hothers, hguards, honly⟩ := measure_marks (f := f) (t1 := y.2) (t4 := x) hslen
      refine ⟨_, rfl, hecho, hrx, hlast, fun z hz => ?_, fun hnone => ?_, hothers, hguards, honly⟩
      · cases hz
        exact hdelay
      · rw [hnone] at hfind
        cases hfind
  rw [hm]
  have hgood : (when (decide (p < 4)) (countGood p consecutive) m).ftn.ports = m.ftn.ports ∧ (when (decide (p < 4)) (countGood p consecutive) m).ftn.guards = m.ftn.guards ∧
      OnlyIn [.ftn] m (when (decide (p < 4)) (countGood p consecutive) m) := by
    unfold when
    split
    · exact countGood_marks p consecutive m
    · exact ⟨rfl, rfl, only_refl⟩
  obtain ⟨hgports, hgguards, hgonly⟩ := hgood
  generalize when (decide (p < 4)) (countGood p consecutive) m = t at *
  have hport : ∀ q, t.port q = m.port q := fun q => port_congr hgports q
  have hreg : ∀ k, t.reg k = b.reg k := fun k => by rw [reg_of_only k hgonly, reg_of_only k hmonly, reg_of_only k hset]
  refine ⟨?_, ?_, ?_, ?_, fun q hq => ?_, fun y hy hcal hnone hfirst => ?_, fun h => ?_, ?_, fun k hk => ?_,
    onlyIn_trans (onlyIn_mono hbump (by decide)) (onlyIn_trans (onlyIn_mono hset (by decide)) (onlyIn_trans (onlyIn_mono hmonly (by decide)) (onlyIn_mono hgonly (by decide))))⟩
  · rw [hport, hecho, hself]
    rfl
  · rw [hport, hrx, hself]
    rfl
  · rw [hport, hlast, hself]
    rfl
  · rw [hreg, hcount]
  · rw [hport, hmothers q hq, hothers q hq, hbports]
  · rw [hport]
    refine hmdelay y hy ?_ (by rw [hself]; exact hnone) (by rw [hself]; exact hfirst)
    rw [hself]
    show (!(s.port p).noStamp && ((s.port p).cal == .frozen || (s.port p).cal == .nominal)) = true
    rw [hstamps, hcal]
    rfl
  · rw [hport, hmnone h, hself]
    rfl
  · rw [hgguards, hmguards, hguards, hftn]
  · rw [hreg, hregs k hk]

theorem exists_next_linkCheck (s : State) (p : Nat) (f : Frame) (stamp x : Int) (hwf : RegsWf s) (hup : s.up = true) (hp : p < 20) (hlen : p < s.ftn.ports.length)
    (hlive : s.portLive p = true) (hx : s.ingress p stamp = some x)
    (hadmit : 4 ≤ p → ((s.matrix.t - s.matrix.nit : Nat) : Int) * 256 ≤ s.inCycle x ∧ (s.ftn.guards.getD (p - 4) Reset.guard).checks = 0)
    (hfcs : f.fcsOk = true) (hhdr : headerOk f = true) (hcrc : f.e2e = frameCrc f) (hkind : f.kind = 5) (hinfo : f.info = 2) (hplen : f.plen = 84 ∨ f.plen = 24) :
    ∃ t, exec (.linkCheckReceive p f stamp) s = .next t ∧ (t.port p).echoSeq = f.seq ∧ (t.port p).echoRx = x ∧
      (t.port p).lastCheck = some s.ftn.cycle ∧ t.reg Off.FTN_RX_OK = s.reg Off.FTN_RX_OK + 1 ∧ (∀ q, q ≠ p → t.port q = s.port q) ∧
      (∀ y, (s.port p).sent.find? (fun x => x.1 == beAt f.payload 4 2) = some y → (s.port p).cal = .frozen → (s.port p).delay = none →
        (s.port p).delays = [] → (t.port p).delay = some (((x - y.2) - compactDiff f.txTime (beAt f.payload 1 1) (BitVec.ofNat 32 (beAt f.payload 8 4)) (beAt f.payload 12 1)) / 2)) ∧
      ((s.port p).sent = [] → (t.port p).delay = (s.port p).delay) ∧ (4 ≤ p → p < 4 + s.ftn.guards.length → (t.ftn.guards.getD (p - 4) Reset.guard).checks = 1) ∧
      RegsOnly [Off.FTN_RX_OK] s t ∧ OnlyIn [.regs, .ftn, .icus] s t := by
  have hexec := exec_linkCheckReceive_admitted (f := f) hup hp hlive (stamp := stamp) (by rw [hx]; exact hadmit)
  have hstamps : (s.port p).noStamp = false := by
    cases hn : (s.port p).noStamp with
    | false => rfl
    | true =>
      unfold State.ingress at hx
      dsimp only at hx
      rw [hn] at hx
      cases hx
  have hnoted := onlyIn_when_checkNoted (decide (4 ≤ p)) p s
  have hfields : (when (decide (4 ≤ p)) (checkNoted p) s).ftn.ports = s.ftn.ports ∧ (when (decide (4 ≤ p)) (checkNoted p) s).ftn.cycle = s.ftn.cycle := by
    unfold when
    split <;> exact ⟨rfl, rfl⟩
  have hchecks : 4 ≤ p → p < 4 + s.ftn.guards.length → ((when (decide (4 ≤ p)) (checkNoted p) s).ftn.guards.getD (p - 4) Reset.guard).checks = 1 := fun hstar hg => by
    rw [decide_eq_true hstar, when_true, checkNoted_fields]
    dsimp only
    rw [getD_modAt_self _ _ _ _ (by omega), (hadmit hstar).2]
  obtain ⟨hports, hcycle⟩ := hfields
  generalize when (decide (4 ≤ p)) (checkNoted p) s = u at *
  have hport : ∀ q, u.port q = s.port q := fun q => port_congr hports q
  have htake : checkAdmitted p f (s.ingress p stamp) u = takeCheck p f (some x) u := by
    have hsize : (f.plen == 84 || f.plen == 24) = true := by
      rcases hplen with h | h <;> rw [h] <;> decide
    unfold checkAdmitted
    rw [hx, hfcs, hhdr, hcrc, bne_self_eq_false, hkind, hinfo, hsize]
    rfl
  rw [htake] at hexec
  obtain ⟨hecho, hrx, hlast, hcount, hothers, hdelay, hquiet, hguards, hregs, honly⟩ :=
    takeCheck_marks (f := f) (x := x) (p := p) (wf_of_only hwf hnoted) (by rw [hports]; exact hlen) (by rw [hport]; exact hstamps)
  generalize takeCheck p f (some x) u = t at *
  rw [hport] at hdelay hquiet
  refine ⟨t, hexec, hecho, hrx, by rw [hlast, hcycle], by rw [hcount, reg_of_only _ hnoted], fun q hq => by rw [hothers q hq, hport], hdelay, hquiet,
    fun hstar hg => by rw [hguards]; exact hchecks hstar hg, fun k hk => (hregs k hk).trans (reg_of_only k hnoted), onlyIn_trans (onlyIn_mono hnoted (by decide)) honly⟩

end

end Sys2Proof.Machine

namespace Sys2Proof.Machine

set_option Elab.async false

/-! ### Link checks sent (R260) -/

section
variable {s t u w : State} {p q : Nat}

/-- Both protocol engines have restarted. -/
def State.enginesReady (s : State) : Prop := s.sys.netA.till ≤ s.now ∧ s.sys.netB.till ≤ s.now

theorem engineDown_of_ready (h : s.enginesReady) : s.engineDown false = s.sys.netA.off ∧ s.engineDown true = s.sys.netB.off := by
  obtain ⟨hA, hB⟩ := h
  unfold State.engineDown
  dsimp only
  rw [if_neg (by decide), if_pos rfl, decide_eq_false (Nat.not_lt.mpr hA), decide_eq_false (Nat.not_lt.mpr hB), Bool.and_false, Bool.and_false, Bool.or_false, Bool.or_false]
  exact ⟨rfl, rfl⟩

/-- A port is live as long as its link stays up. -/
theorem portLive_later (h : s.enginesReady) (hsys : t.sys = s.sys) (hregs : t.regs = s.regs) (hnow : s.now ≤ t.now) (hup : (t.port p).up = (s.port p).up) :
    t.portLive p = s.portLive p ∧ t.enginesReady := by
  have hready : t.enginesReady := by
    unfold State.enginesReady
    rw [hsys]
    exact ⟨h.1.trans hnow, h.2.trans hnow⟩
  obtain ⟨hsA, hsB⟩ := engineDown_of_ready h
  obtain ⟨htA, htB⟩ := engineDown_of_ready hready
  refine ⟨?_, hready⟩
  unfold State.portLive State.portUsed
  rw [htA, htB, hsA, hsB, hsys, hup, reg_congr _ _ _ hregs]

/-- No port but one sends, and none is under calibration. -/
structure OnePort (p : Nat) (s : State) : Prop where
  dead : ∀ q, q < 22 → q ≠ p → s.portLive q = false
  idle : ∀ q, q < 22 → (s.port q).loopFor = false ∧ (s.port q).calRun = false

/-- What a port sends at the link checks of an idle time. -/
def checkStep (run : Bool) (s : State) (p : Nat) : State := calIdle p (when (run && decide (p < 20)) (sendCheck p) s)

theorem calIdle_of_idle (h : (s.port p).loopFor = false ∧ (s.port p).calRun = false) : calIdle p s = s := by
  obtain ⟨hloop, hcal⟩ := h
  have hover : s.calOver p = false := by
    unfold State.calOver
    dsimp only
    rw [hcal, Bool.false_and]
  unfold calIdle
  dsimp only
  rw [hover, hcal, hloop, Bool.false_and, if_neg (by decide), if_neg (by decide), if_neg (by decide)]

theorem checkStep_of_dead (run : Bool) (h : OnePort p s) (hq : q < 22) (hne : q ≠ p) : checkStep run s q = s := by
  have hsend : sendCheck q s = s := if_neg (by rw [h.dead q hq hne]; decide)
  unfold checkStep
  have hwhen : when (run && decide (q < 20)) (sendCheck q) s = s := by
    unfold when
    split
    · exact hsend
    · rfl
  rw [hwhen, calIdle_of_idle (h.idle q hq)]

theorem checkSteps_of_dead (run : Bool) (h : OnePort p s) {ls : List Nat} (hls : ∀ q ∈ ls, q < 22 ∧ q ≠ p) : ls.foldl (checkStep run) s = s := by
  induction ls with
  | nil => rfl
  | cons q ls ih =>
    obtain ⟨hq, hne⟩ := hls q List.mem_cons_self
    rw [List.foldl_cons, checkStep_of_dead run h hq hne]
    exact ih fun q hq => hls q (List.mem_cons_of_mem _ hq)

/-- With one port live the link checks of an idle time are that port's. -/
theorem checkSteps_of_one (run : Bool) (hp : p < 22) (h : OnePort p s) (h' : OnePort p (checkStep run s p)) :
    (List.range 22).foldl (checkStep run) s = checkStep run s p := by
  obtain ⟨before, after, hsplit⟩ := List.append_of_mem (List.mem_range.mpr hp)
  have hnodup : (before ++ p :: after).Nodup := hsplit ▸ List.nodup_range
  have hlt : ∀ q ∈ before ++ p :: after, q < 22 := fun q hq => List.mem_range.mp (hsplit ▸ hq)
  rw [List.nodup_append, List.nodup_cons] at hnodup
  obtain ⟨-, ⟨hafter, -⟩, hbefore⟩ := hnodup
  rw [hsplit, List.foldl_append, List.foldl_cons, checkSteps_of_dead run h, checkSteps_of_dead run h']
  · exact fun q hq => ⟨hlt q (by simp [hq]), fun hqp => hafter (hqp ▸ hq)⟩
  · exact fun q hq => ⟨hlt q (by simp [hq]), hbefore q hq p List.mem_cons_self⟩

/-- The payload of a LINK_CHECK has the path delays on a main-direction transmit port alone (Table 8.3). -/
theorem length_checkPayload (s : State) (p : Nat) (t1 : Int) : (s.checkPayload p t1).length = if p = 0 ∨ p = 3 then 84 else 24 := by
  have hpds : ∀ l : List (Option Nat), (l.flatMap fun d => beBytes 4 (d.getD 0)).length = 4 * l.length := by
    intro l
    induction l with
    | nil => rfl
    | cons d l ih =>
      rw [List.flatMap_cons, List.length_append, length_beBytes, ih, List.length_cons]
      omega
  unfold State.checkPayload
  dsimp only
  simp only [List.length_append, length_beBytes]
  by_cases hmain : p = 0 ∨ p = 3
  · rw [if_pos (by simpa using hmain), if_pos hmain, hpds, List.length_map, List.length_range]
  · rw [if_neg (by simpa using hmain), if_neg hmain]
    rfl

/-- A guard that has told its partner of a violation. -/
def guardTold (p : Nat) (s : State) : State :=
  { s with ftn := { s.ftn with guards := modAt s.ftn.guards (p - 4) fun g => if 4 ≤ p then { g with tell := false } else g } }

theorem onlyIn_guardTold (p : Nat) (s : State) : OnlyIn [.ftn] s (guardTold p s) := only_mk only_refl

theorem guardTold_fields (p : Nat) (s : State) : (guardTold p s).ftn.ports = s.ftn.ports ∧ (guardTold p s).ftn.links = s.ftn.links := ⟨rfl, rfl⟩

theorem ownFrame_fields (kind slot dest tx obj : Nat) (sub info : Byte) (released : Bool) (payload : List Byte) (s : State) :
    (ownFrame kind slot dest tx obj sub info released payload s).1.kind = kind ∧ (ownFrame kind slot dest tx obj sub info released payload s).1.info = info ∧
      (ownFrame kind slot dest tx obj sub info released payload s).1.slot = slot ∧ (ownFrame kind slot dest tx obj sub info released payload s).1.dest = dest ∧
      (ownFrame kind slot dest tx obj sub info released payload s).1.hop = 0 ∧ (ownFrame kind slot dest tx obj sub info released payload s).1.txTime = ctime tx ∧
      (ownFrame kind slot dest tx obj sub info released payload s).1.payload = payload ∧
      (ownFrame kind slot dest tx obj sub info released payload s).2.ftn.ports = s.ftn.ports ∧
      (ownFrame kind slot dest tx obj sub info released payload s).2.ftn.links = s.ftn.links := ⟨rfl, rfl, rfl, rfl, rfl, rfl, rfl, rfl, rfl⟩

/-- A LINK_CHECK as port `p` sends it from `s`. -/
structure CheckFrame (s : State) (p : Nat) (f : Frame) : Prop where
  kind : f.kind = 5
  info : f.info = 2
  slot : f.slot = 0xC000
  dest : f.dest = 65535
  hop : f.hop = 0
  addressed : OwnAddressed f s
  txTime : f.txTime = ctime (s.egress p / 256).toNat
  length : f.payload.length = if p = 0 ∨ p = 3 then 84 else 24

theorem sendCheck_sends (hlive : s.portLive p = true) (hlen : p < s.ftn.ports.length) :
    ∃ f, CheckFrame s p f ∧ (sendCheck p s).out = s.out ++ [.frame p f] ∧
      (sendCheck p s).port p = { s.port p with sent := ((f.seq, s.egress p) :: (s.port p).sent).take 4 } ∧ (∀ q, q ≠ p → (sendCheck p s).port q = s.port q) ∧
      (sendCheck p s).ftn.links = s.ftn.links ∧ OnlyIn [.out, .ftn] s (sendCheck p s) := by
  have hdef : sendCheck p s = guardTold p (setPort p (fun x => { x with sent := (((ownFrame 5 0xC000 65535 (s.egress p / 256).toNat 0 0 2 false (s.checkPayload p (s.egress p)) s).1.seq, s.egress p) :: x.sent).take 4 })
      (send (.frame p (ownFrame 5 0xC000 65535 (s.egress p / 256).toNat 0 0 2 false (s.checkPayload p (s.egress p)) s).1)
        (ownFrame 5 0xC000 65535 (s.egress p / 256).toNat 0 0 2 false (s.checkPayload p (s.egress p)) s).2)) := if_pos hlive
  rw [hdef]
  have haddr : OwnAddressed (ownFrame 5 0xC000 65535 (s.egress p / 256).toNat 0 0 2 false (s.checkPayload p (s.egress p)) s).1 s := ownAddressed_ownFrame rfl
  obtain ⟨hkind, hinfo, hslot, hdest, hhop, htx, hpayload, hports, hlinks⟩ := ownFrame_fields 5 0xC000 65535 (s.egress p / 256).toNat 0 0 2 false (s.checkPayload p (s.egress p)) s
  have hown : OnlyIn [.ftn] s (ownFrame 5 0xC000 65535 (s.egress p / 256).toNat 0 0 2 false (s.checkPayload p (s.egress p)) s).2 := only_ownFrame only_refl
  generalize ownFrame 5 0xC000 65535 (s.egress p / 256).toNat 0 0 2 false (s.checkPayload p (s.egress p)) s = r at *
  have hsend : OnlyIn [.out] r.2 (send (.frame p r.1) r.2) := only_send only_refl
  have hout : (send (.frame p r.1) r.2).out = r.2.out ++ [.frame p r.1] := rfl
  have hftn : (send (.frame p r.1) r.2).ftn = r.2.ftn := hsend.2 .ftn (by decide)
  generalize send (.frame p r.1) r.2 = y at *
  have hyports : ∀ q, y.port q = s.port q := fun q => port_congr (by rw [hftn, hports]) q
  have hset : OnlyIn [.ftn] y (setPort p (fun x => { x with sent := ((r.1.seq, s.egress p) :: x.sent).take 4 }) y) := only_setPort only_refl
  have hself := port_setPort_self (s := y) (h := fun x : Port => { x with sent := ((r.1.seq, s.egress p) :: x.sent).take 4 }) (p := p) (by rw [hftn, hports]; exact hlen)
  have hothers : ∀ q, q ≠ p → (setPort p (fun x => { x with sent := ((r.1.seq, s.egress p) :: x.sent).take 4 }) y).port q = y.port q := fun q hq => port_setPort_ne hq
  have hsetLinks := links_setPort p (fun x => { x with sent := ((r.1.seq, s.egress p) :: x.sent).take 4 }) y
  generalize setPort p (fun x => { x with sent := ((r.1.seq, s.egress p) :: x.sent).take 4 }) y = z at *
  have htold := onlyIn_guardTold p z
  obtain ⟨htPorts, htLinks⟩ := guardTold_fields p z
  refine ⟨r.1, ⟨hkind, hinfo, hslot, hdest, hhop, haddr, htx, by rw [hpayload, length_checkPayload]⟩, ?_, ?_, fun q hq => ?_, by rw [htLinks, hsetLinks, hftn, hlinks],
    onlyIn_trans (onlyIn_mono hown (by decide)) (onlyIn_trans (onlyIn_mono hsend (by decide)) (onlyIn_trans (onlyIn_mono hset (by decide)) (onlyIn_mono htold (by decide))))⟩
  · rw [htold.2 .out (by decide), hset.2 .out (by decide), hout, hown.2 .out (by decide)]
  · rw [port_congr htPorts, hself, hyports]
  · rw [port_congr htPorts, hothers q hq, hyports]

theorem fields_of_sent {x y : Port} {l : List (Nat × Int)} (h : x = { y with sent := l }) : x.loopFor = y.loopFor ∧ x.calRun = y.calRun ∧ x.sent = l := by
  subst h
  exact ⟨rfl, rfl, rfl⟩

theorem sendHeal_of_whole (h : (s.link p).broken = false) : sendHeal p s = s := by
  unfold sendHeal
  dsimp only
  rw [h, Bool.false_and, Bool.false_and]
  exact if_neg (by decide)

theorem exec_linkCheckSend {ns : Nat} (hup : s.up = true) (hrun : bit (s.reg Off.FTN_CTRL) 0 = true) (hns : s.ftn.cycle * s.matrix.t + s.matrix.t - s.matrix.nit + 1000 = ns) :
    exec .linkCheckSend s = .next (sendHeal 3 (sendHeal 2 (sendHeal 1 (sendHeal 0 ((List.range 22).foldl (checkStep true) (toTb0 ns s)))))) := by
  have hexec : execLinkCheckSend s = .next ((fun s =>
      let s1 := toTb0 (s.ftn.cycle * s.matrix.t + s.matrix.t - s.matrix.nit + 1000) s
      let run := bit (s.reg Off.FTN_CTRL) 0
      let s2 := (List.range 22).foldl (fun s p => calIdle p (when (run && decide (p < 20)) (sendCheck p) s)) s1
      s2 |> sendHeal 0 |> sendHeal 1 |> sendHeal 2 |> sendHeal 3) s) := congrArg Host.Outcome.next (if_pos hup)
  have harm : exec .linkCheckSend s = execLinkCheckSend s := rfl
  dsimp only at hexec
  rw [harm, hexec, hrun, hns]
  rfl

theorem exists_next_linkCheckSend (s : State) (p : Nat) (_hwf : RegsWf s) (hup : s.up = true) (hrun : bit (s.reg Off.FTN_CTRL) 0 = true) (hp : p < 20)
    (hlen : p < s.ftn.ports.length) (hlive : s.portLive p = true) (hready : ([s.sys.netA, s.sys.netB].all fun e => decide (e.till ≤ s.now)) = true)
    (hdead : ∀ q, q < 22 → q ≠ p → s.portLive q = false) (hidle : ∀ q, q < 22 → (s.port q).loopFor = false ∧ (s.port q).calRun = false)
    (hwhole : ∀ l ∈ s.ftn.links, l.broken = false) :
    ∃ t, exec .linkCheckSend s = .next t ∧ (∃ f : Frame, f.kind = 5 ∧ f.info = 2 ∧ f.slot = 0xC000 ∧ f.dest = 65535 ∧ f.hop = 0 ∧
      OwnAddressed f s ∧ f.txTime = ctime (t.egress p / 256).toNat ∧ f.payload.length = (if p = 0 ∨ p = 3 then 84 else 24) ∧
      t.out = s.out ++ [.frame p f] ∧ (t.port p).sent = ((f.seq, t.egress p) :: (s.port p).sent).take 4) ∧
      (∀ q, q ≠ p → t.port q = s.port q) ∧ t.ftn.links = s.ftn.links ∧ OnlyIn [.now, .time, .nv, .isl, .out, .ftn] s t := by
  have hready : s.enginesReady := by simpa [State.enginesReady] using hready
  obtain ⟨ns, hns⟩ : ∃ ns, s.ftn.cycle * s.matrix.t + s.matrix.t - s.matrix.nit + 1000 = ns := ⟨_, rfl⟩
  have hexec := exec_linkCheckSend hup hrun hns
  have hat := onlyIn_toTb0 ns s
  have hnow := le_now_toTb0 ns s
  generalize toTb0 ns s = u at *
  have huports : ∀ q, u.port q = s.port q := fun q => port_congr (by rw [hat.2 .ftn (by decide)]) q
  have hulive : ∀ q, u.portLive q = s.portLive q := fun q => (portLive_later hready (hat.2 .sys (by decide)) (hat.2 .regs (by decide)) hnow (by rw [huports])).1
  have huready : u.enginesReady := (portLive_later (p := p) hready (hat.2 .sys (by decide)) (hat.2 .regs (by decide)) hnow (by rw [huports])).2
  have hone : OnePort p u := ⟨fun q hq hne => by rw [hulive, hdead q hq hne], fun q hq => by rw [huports]; exact hidle q hq⟩
  obtain ⟨f, hf, hout, hport, hothers, hlinks, honly⟩ := sendCheck_sends (s := u) (p := p) (by rw [hulive, hlive]) (by rw [hat.2 .ftn (by decide)]; exact hlen)
  have hstep : checkStep true u p = calIdle p (sendCheck p u) := by rw [checkStep, Bool.true_and, decide_eq_true hp, when_true]
  generalize sendCheck p u = v at *
  have hvidle : ∀ q, q < 22 → (v.port q).loopFor = false ∧ (v.port q).calRun = false := fun q hq => by
    by_cases hqp : q = p
    · obtain ⟨hloop, hcal, -⟩ := fields_of_sent hport
      rw [hqp, hloop, hcal]
      exact hone.idle p (by omega)
    · rw [hothers q hqp]
      exact hone.idle q hq
  rw [calIdle_of_idle (hvidle p (by omega))] at hstep
  have hvlive : ∀ q, q < 22 → q ≠ p → v.portLive q = false := fun q hq hne => by
    rw [(portLive_later huready (honly.2 .sys (by decide)) (honly.2 .regs (by decide)) (Nat.le_of_eq (honly.2 .now (by decide)).symm) (by rw [hothers q hne])).1]
    exact hone.dead q hq hne
  rw [checkSteps_of_one true (by omega) hone (hstep ▸ ⟨hvlive, hvidle⟩), hstep] at hexec
  have hvlinks : v.ftn.links = s.ftn.links := by rw [hlinks, hat.2 .ftn (by decide)]
  have hvwhole : ∀ k, (v.link k).broken = false := fun k => by
    rw [link_congr hvlinks]
    unfold State.link
    rw [List.getD_eq_getElem?_getD]
    cases hl : s.ftn.links[k]? with
    | none => rfl
    | some l => exact hwhole l (List.mem_of_getElem? hl)
  rw [sendHeal_of_whole (hvwhole 0), sendHeal_of_whole (hvwhole 1), sendHeal_of_whole (hvwhole 2), sendHeal_of_whole (hvwhole 3)] at hexec
  have hegress : v.egress p = u.egress p := by
    unfold State.egress State.stamp
    rw [honly.2 .time (by decide)]
  have haddr : OwnAddressed f s := by
    have h := hf.addressed
    unfold OwnAddressed at h ⊢
    rwa [ownAddr_congr (reg_of_only _ hat)] at h
  refine ⟨v, hexec, ⟨f, hf.kind, hf.info, hf.slot, hf.dest, hf.hop, haddr, by rw [hegress]; exact hf.txTime, hf.length, ?_, ?_⟩, fun q hq => ?_, hvlinks,
    onlyIn_trans (onlyIn_mono hat (by decide)) (onlyIn_mono honly (by decide))⟩
  · rw [hout, hat.2 .out (by decide)]
  · obtain ⟨-, -, hsent⟩ := fields_of_sent hport
    rw [hsent, hegress, huports]
  · rw [hothers q hq, huports]

end

/-- Settles O34, command by command. -/
theorem linkChecksAndHealing : Obligations.LinkChecksAndHealing :=
  ⟨exists_next_linkCheckSend, exists_next_linkCheck, exists_next_linkCheckFail, exists_next_linkCheckViolation, exists_next_guardViolation, exists_next_guardDisable,
    exists_next_guardPortEnable, exists_next_linkBroken, exists_next_heal, exists_next_ringCmd⟩

end Sys2Proof.Machine

namespace Sys2Proof.Machine

set_option Elab.async false

/-! ### What a clear meets on its way into the NAND (R502) -/

theorem acceptAll_of_none {s : State} (h : s.erec.queue = []) : acceptAll s = s := by
  unfold acceptAll
  rw [h]
  rfl

theorem commitPage_clear (s : State) : (commitPage s).nv.nand.clear = s.nv.nand.clear := by
  by_cases hpage : s.erec.page = []
  · rw [commitPage, if_pos (by rw [hpage]; rfl)]
  · by_cases hstate : s.erec.state = .failed
    · rw [(commitPage_nand s).2 hstate]
    · have hnv : (commitPage s).nv = (pageKept s).nv := (commitPage_of_page hpage hstate).2 .nv (by decide)
      rw [hnv]
      rfl

theorem newRec_clearWaits (q : RecReq) (same : Bool) (s : State) : (acceptOne.newRec q same s).erec.clearWaits = s.erec.clearWaits := by
  have hpage : ∀ (c : Prop) [Decidable c], (if c then s else commitPage s).erec.clearWaits = s.erec.clearWaits := fun c _ => by
    split
    · rfl
    · rw [commitPage_erec]
  unfold acceptOne.newRec
  dsimp only
  rw [bump_erec]
  exact hpage _

/-- An acceptance leaves a clear that waits. -/
theorem acceptOne_clearWaits (s : State) : (acceptOne s).erec.clearWaits = s.erec.clearWaits := by
  cases hfirst : firstRec s.erec.queue with
  | none => rw [acceptOne, hfirst]
  | some q =>
    have htaken := congrArg Recorder.clearWaits (recTaken_erec q s)
    by_cases hfolds : (s.erec.page.getLast?.all fun r => !s.folds { q with lost := s.erec.lost } r) = true
    · rw [acceptOne_of_new hfirst hfolds, newRec_clearWaits]
      exact htaken
    · obtain ⟨r, hlast, hfold⟩ : ∃ r, s.erec.page.getLast? = some r ∧ s.folds { q with lost := s.erec.lost } r = true := by
        cases hlast : s.erec.page.getLast? with
        | none => rw [hlast] at hfolds; exact absurd rfl hfolds
        | some r => rw [hlast] at hfolds; exact ⟨r, rfl, by simpa using hfolds⟩
      rw [acceptOne_of_folds hfirst hlast hfold]
      exact htaken

theorem acceptAll_clearWaits (s : State) : (acceptAll s).erec.clearWaits = s.erec.clearWaits := by
  have hfold : ∀ (l : List Nat) (t : State), (l.foldl (fun s _ => acceptOne s) t).erec.clearWaits = t.erec.clearWaits := by
    intro l
    induction l with
    | nil => exact fun _ => rfl
    | cons x xs ih => exact fun t => (ih (acceptOne t)).trans (acceptOne_clearWaits t)
  exact hfold _ s

/-- A request for a record changes the queue and the loss of REC alone. -/
theorem requestRec_erec (q : RecReq) (s : State) :
    (requestRec q s).erec = { s.erec with queue := (requestRec q s).erec.queue, lost := (requestRec q s).erec.lost, tell := (requestRec q s).erec.tell } := by
  unfold requestRec
  split
  · split
    · rfl
    · dsimp only
      split
      · rfl
      · rw [raiseIrq_erec]
        rfl
  · split <;> rfl

theorem record_erec (type : Nat) (items : List Item) (s : State) : (record type items s).erec =
    { s.erec with queue := (record type items s).erec.queue, lost := (record type items s).erec.lost, tell := (record type items s).erec.tell } := by
  unfold record
  split <;> exact requestRec_erec _ s

theorem record_only_of_room {type : Nat} {items : List Item} {s : State} (hup : s.recUp = true) (hroom : s.erec.queue.length < 64) :
    OnlyIn [.erec] s (record type items s) := by
  unfold record requestRec
  split <;> rw [if_pos hup, if_pos hroom] <;> exact only_mk only_refl

/-! ### The clear itself -/

/-- The items of the CLEAR record. -/
def clearItems (kept : Bool) (role : Nat) (path : List Byte) (s : State) : List Item :=
  [iU8 1 (b2n kept), iU8 2 role, iOct 3 path, iU32 4 (firstSeq (s.recArea kept)).toNat, iU32 5 (lastSeqOf (s.recArea kept)).toNat]

/-- The CLEAR record is in the open page. -/
def clearTold (kept : Bool) (role : Nat) (path : List Byte) (s : State) : State :=
  acceptAll (record 0x0108 (clearItems kept role path (acceptAll s)) (acceptAll s))

/-- The clear stands in the NAND, behind its record. -/
def clearSet (kept : Bool) (s : State) : State :=
  { s with
    nv := { s.nv with nand := { s.nv.nand with clear := some ⟨kept, s.nv.nand.newest⟩, keptBase := if kept then s.nv.nand.newest else s.nv.nand.keptBase } }
    erec := { s.erec with state := .clearing } }

theorem beginClear_eq (kept : Bool) (role : Nat) (path : List Byte) (s : State) :
    beginClear kept role path s = commitPage (clearSet kept (clearTold kept role path s)) := rfl

theorem clearTold_only (kept : Bool) (role : Nat) (path : List Byte) (s : State) :
    OnlyIn [.regs, .isl, .nv, .icus, .erec] s (clearTold kept role path s) := only_acceptAll (only_record (only_acceptAll only_refl))

theorem clearSet_only (kept : Bool) (s : State) : OnlyIn [.nv, .erec] s (clearSet kept s) := only_mk only_refl

theorem clearTold_clearWaits (kept : Bool) (role : Nat) (path : List Byte) (s : State) :
    (clearTold kept role path s).erec.clearWaits = s.erec.clearWaits := by
  rw [clearTold, acceptAll_clearWaits, record_erec, acceptAll_clearWaits]

/-- What every clear that begins leaves. -/
theorem beginClear_begins (kept : Bool) (role : Nat) (path : List Byte) (s : State) :
    (beginClear kept role path s).erec.state = .clearing ∧ (beginClear kept role path s).erec.page = [] ∧
    (beginClear kept role path s).erec.clearWaits = s.erec.clearWaits ∧ (beginClear kept role path s).nv.nand.clear.map (·.kept) = some kept ∧
    OnlyIn [.regs, .isl, .nv, .icus, .erec] s (beginClear kept role path s) := by
  rw [beginClear_eq]
  refine ⟨?_, ?_, ?_, ?_, only_commitPage (onlyIn_trans (clearTold_only kept role path s) (onlyIn_mono (clearSet_only kept _) (by decide)))⟩
  · rw [commitPage_erec]
    rfl
  · rw [commitPage_erec]
  · rw [commitPage_erec]
    exact clearTold_clearWaits kept role path s
  · rw [commitPage_clear]
    rfl

/-- The CLEAR record as the first of an empty page, before its acceptance. -/
theorem clearTold_of_idle {kept : Bool} {role : Nat} {path : List Byte} {s : State} (hwf : RegsWf s) (hup : s.recUp = true) (hqueue : s.erec.queue = [])
    (hpage : s.erec.page = []) : ∃ r : Rec, (clearTold kept role path s).erec.page = [r] ∧ (clearTold kept role path s).erec.queue = [] ∧
      r.seq = Sys2Proof.nextSeq s.nv.nand.newest ∧ r.body.type = 0x0108 ∧ r.body.items = clearItems kept role path s ∧
      (clearTold kept role path s).nv.nand.newest = r.seq ∧
      (clearTold kept role path s).nv.nand.keptBase = (if s.nv.nand.keptBase = 0 then r.seq else s.nv.nand.keptBase) ∧
      (clearTold kept role path s).reg Off.REC_RECORDS = s.reg Off.REC_RECORDS + 1 ∧ RegsWf (clearTold kept role path s) ∧
      RegsOnly [Off.REC_RECORDS, Off.REC_PAGES] s (clearTold kept role path s) ∧ OnlyIn [.regs, .nv, .icus, .erec] s (clearTold kept role path s) := by
  have hroom : s.erec.queue.length < 64 := by rw [hqueue]; decide
  obtain ⟨q, hq, hqtype, hqitems, _⟩ := (recorded_record 0x0108 (clearItems kept role path s) s).1 hup hroom
  have hasked : OnlyIn [.erec] s (record 0x0108 (clearItems kept role path s) s) := record_only_of_room hup hroom
  have herec := record_erec_of_room 0x0108 (clearItems kept role path s) s hup hroom
  rw [hqueue, List.nil_append] at hq
  rw [hq] at herec
  have htold : clearTold kept role path s = acceptOne (record 0x0108 (clearItems kept role path s) s) := by
    rw [clearTold, acceptAll_of_none hqueue, acceptAll_of_single _ q hq]
  generalize hu : record 0x0108 (clearItems kept role path s) s = u at *
  have hwfu : RegsWf u := regsWf_of_only hwf hasked
  have hpageu : u.erec.page = [] := by rw [herec]; exact hpage
  have hnv : u.nv = s.nv := hasked.2 .nv (by decide)
  obtain ⟨page, at_, hop, hacc, hnewest, hbase, hcount, _, hregs, honly⟩ := recAccepted_new (q := q) hwfu (by rw [hq]; rfl) (by rw [hpageu]; rfl)
  obtain ⟨⟨r, hr, _⟩, _⟩ := page_acceptOne_of_single u q hq hpageu
  have hnil : page = [] := by
    rw [hacc] at hr
    exact (List.append_eq_singleton_iff.mp hr).elim And.left fun h => absurd h.2 (by simp)
  subst hnil
  rw [htold]
  refine ⟨recMade q u, by rw [hacc]; rfl, ?_, by rw [recMade, hnv], hqtype, hqitems, hnewest, by rw [hbase, hnv], ?_, ?_, ?_, onlyIn_trans (onlyIn_mono hasked (by decide)) honly⟩
  · rw [hacc, hq]
    simp
  · rw [hcount, reg_of_only _ hasked]
  · rw [hop]
    exact wf_bump (wf_mk (wf_recFits hwfu))
  · exact regsOnly_trans (regs_of_only regs_refl hasked) hregs

theorem recUp_of_runs {s : State} (h : s.recRuns = true) : s.recUp = true := by
  rw [State.recUp, Bool.and_comm]
  exact h

theorem exec_clear {c : Instr} {kept : Bool} {role : Nat} {path : List Byte} {s : State} (hruns : s.recRuns = true)
    (hc : c = .clearCirculating role path ∧ kept = false ∧ 3 ≤ role ∨ c = .clearKept role path ∧ kept = true ∧ 4 ≤ role) :
    exec c s = .next (clearOp kept role path s) := by
  obtain ⟨rfl, rfl, hrole⟩ | ⟨rfl, rfl, hrole⟩ := hc
  · exact congrArg Host.Outcome.next (if_pos (by rw [hruns, decide_eq_true hrole]; rfl))
  · exact congrArg Host.Outcome.next (if_pos (by rw [hruns, decide_eq_true hrole]; rfl))

theorem exists_next_clear (s : State) (c : Instr) (kept : Bool) (role : Nat) (path : List Byte) (hwf : RegsWf s) (hruns : s.recRuns = true)
    (hc : c = .clearCirculating role path ∧ kept = false ∧ 3 ≤ role ∨ c = .clearKept role path ∧ kept = true ∧ 4 ≤ role) :
    (s.erec.state = .ready → s.erec.queue = [] → s.erec.page = [] → ∃ t r, exec c s = .next t ∧ t.erec.state = .clearing ∧ t.erec.page = [] ∧ t.erec.queue = [] ∧
      t.nv.nand.clear = some ⟨kept, Sys2Proof.nextSeq s.nv.nand.newest⟩ ∧ t.nv.nand.newest = Sys2Proof.nextSeq s.nv.nand.newest ∧ r ∈ t.nv.nand.circulating ∧
      r.seq = Sys2Proof.nextSeq s.nv.nand.newest ∧ r.body.type = 0x0108 ∧
      r.body.items = [iU8 1 (b2n kept), iU8 2 role, iOct 3 path, iU32 4 (firstSeq (s.recArea kept)).toNat, iU32 5 (lastSeqOf (s.recArea kept)).toNat] ∧
      t.nv.nand.keptBase = (if kept = true ∨ s.nv.nand.keptBase = 0 then Sys2Proof.nextSeq s.nv.nand.newest else s.nv.nand.keptBase) ∧
      t.reg Off.REC_RECORDS = s.reg Off.REC_RECORDS + 1 ∧ RegsOnly [Off.REC_RECORDS, Off.REC_PAGES] s t ∧ OnlyIn [.regs, .nv, .icus, .erec] s t) ∧
    (s.erec.state = .exporting → s.erec.clearWaits = none → ∃ t, exec c s = .next t ∧
      t.erec = { s.erec with clearWaits := some (kept, [iU8 2 role, iOct 3 path]) } ∧ OnlyIn [.erec] s t) := by
  have hexec := exec_clear hruns hc
  refine ⟨fun hstate hqueue hpage => ?_, fun hstate hwaits => ?_⟩
  · have hop : clearOp kept role path s = beginClear kept role path s := by rw [clearOp, hstate]
    obtain ⟨r, htpage, htqueue, hseq, htype, hitems, hnewest, hbase, hcount, htwf, hregs, honly⟩ :=
      clearTold_of_idle (kept := kept) (role := role) (path := path) hwf (recUp_of_runs hruns) hqueue hpage
    rw [hop, beginClear_eq] at hexec
    obtain ⟨hclearing, hempty, _⟩ := beginClear_begins kept role path s
    rw [beginClear_eq] at hclearing hempty
    generalize clearTold kept role path s = u at *
    have hset := clearSet_only kept u
    have hsetRegs : ∀ k, (clearSet kept u).reg k = u.reg k := fun k => reg_of_only k hset
    have hkeeps : (commitPage (clearSet kept u)).nv.nand.newest = u.nv.nand.newest ∧
        (commitPage (clearSet kept u)).nv.nand.keptBase = if kept then u.nv.nand.newest else u.nv.nand.keptBase := by
      rw [(commitPage_nand (clearSet kept u)).1]
      exact ⟨rfl, rfl⟩
    obtain ⟨hnewest', hbase'⟩ := hkeeps
    have hcommit : RegsOnly [Off.REC_PAGES] (clearSet kept u) (commitPage (clearSet kept u)) := regs_commitPage regs_refl
    refine ⟨_, r, hexec, hclearing, hempty, ?_, ?_, ?_, mem_circulating_commitPage _ r htpage (by simp [clearSet]), hseq, htype, hitems, ?_, ?_, ?_, ?_⟩
    · rw [commitPage_erec]
      exact htqueue
    · rw [commitPage_clear, ← hseq, ← hnewest]
      rfl
    · rw [hnewest', hnewest, hseq]
    · rw [hbase', hnewest, hbase, hseq]
      cases kept <;> simp
    · rw [hcommit _ (by decide), hsetRegs, hcount]
    · exact regs_commitPage (regs_of_only hregs hset)
    · exact only_commitPage (onlyIn_trans honly (onlyIn_mono hset (by decide)))
  · have hop : clearOp kept role path s = { s with erec := { s.erec with clearWaits := some (kept, [iU8 2 role, iOct 3 path]) } } := by
      rw [clearOp, hstate]
      exact if_neg (by rw [hwaits]; decide)
    rw [hop] at hexec
    exact ⟨_, hexec, rfl, only_mk only_refl⟩

theorem exec_clear_of_role (s : State) (role : Nat) (path : List Byte) :
    (role < 3 → exec (.clearCirculating role path) s = .next s) ∧ (role < 4 → exec (.clearKept role path) s = .next s) := by
  refine ⟨fun h => ?_, fun h => ?_⟩
  · exact congrArg Host.Outcome.next (if_neg (by rw [decide_eq_false (Nat.not_le_of_lt h), Bool.and_false]; decide))
  · exact congrArg Host.Outcome.next (if_neg (by rw [decide_eq_false (Nat.not_le_of_lt h), Bool.and_false]; decide))

/-- The erasure of an area up to its CLEAR record. -/
def Nand.erasedBy (c : Clear) (n : Nand) : Nand :=
  if c.kept then { n with kept := n.kept.filter fun r => !seqBefore r.seq c.seq, clear := none }
  else { n with circulating := n.circulating.filter fun r => !seqBefore r.seq c.seq, clear := none }

theorem erasedBy_fields (c : Clear) (n : Nand) : (n.erasedBy c).clear = none ∧ (n.erasedBy c).newest = n.newest ∧ (n.erasedBy c).keptBase = n.keptBase ∧
    (n.erasedBy c).kept = (if c.kept then n.kept.filter (fun r => !seqBefore r.seq c.seq) else n.kept) ∧
    (n.erasedBy c).circulating = (if c.kept then n.circulating else n.circulating.filter (fun r => !seqBefore r.seq c.seq)) := by
  unfold Nand.erasedBy
  cases c.kept
  · exact ⟨rfl, rfl, rfl, rfl, rfl⟩
  · exact ⟨rfl, rfl, rfl, rfl, rfl⟩

theorem clearDone_eq (c : Clear) (s : State) : clearDone c s =
    raiseIrq Irq.REC_CLEAR_DONE { s with nv := { s.nv with nand := s.nv.nand.erasedBy c }, erec := { s.erec with state := .ready } } := rfl

theorem exists_next_clearComplete (s : State) (c : Clear) (hruns : s.recRuns = true) (hstate : s.erec.state = .clearing) (hclear : s.nv.nand.clear = some c) :
    ∃ t, exec .clearComplete s = .next t ∧ t.erec = { s.erec with state := .ready } ∧ t.nv = { s.nv with nand := t.nv.nand } ∧ t.nv.nand.clear = none ∧
      t.nv.nand.newest = s.nv.nand.newest ∧ t.nv.nand.keptBase = s.nv.nand.keptBase ∧
      t.nv.nand.kept = (if c.kept then s.nv.nand.kept.filter (fun r => !seqBefore r.seq c.seq) else s.nv.nand.kept) ∧
      t.nv.nand.circulating = (if c.kept then s.nv.nand.circulating else s.nv.nand.circulating.filter (fun r => !seqBefore r.seq c.seq)) ∧
      Raised Irq.REC_CLEAR_DONE t ∧ OnlyIn [.nv, .icus, .erec] s t := by
  have hexec : exec .clearComplete s = .next (clearDone c s) := by
    refine congrArg Host.Outcome.next ?_
    rw [hclear]
    exact if_pos (by rw [hruns, hstate]; rfl)
  rw [clearDone_eq] at hexec
  refine ⟨_, hexec, ?_, ?_, ?_⟩
  · rw [raiseIrq_erec]
  · rw [raiseIrq_nv]
  · rw [raiseIrq_nv]
    obtain ⟨hclear, hnewest, hbase, hkept, hcirculating⟩ := erasedBy_fields c s.nv.nand
    exact ⟨hclear, hnewest, hbase, hkept, hcirculating, raised_raiseIrq _ _ (by decide), only_raiseIrq (only_mk only_refl)⟩

end Sys2Proof.Machine

namespace Sys2Proof.Machine

set_option Elab.async false

/-! ### The start of an export (R505) -/

section
variable {s t : State}

theorem dma_setDma_self {c : Nat} (f : Dma → Dma) (h : c < s.dmas.length) : (setDma c f s).dma c = f (s.dma c) := getD_modAt_self _ _ _ _ h

theorem dma_setDma_ne {c k : Nat} (f : Dma → Dma) (h : k ≠ c) : (setDma c f s).dma k = s.dma k := getD_modAt_ne _ _ _ _ _ h

theorem dma_congr (h : t.dmas = s.dmas) (c : Nat) : t.dma c = s.dma c := congrArg (fun l => l.getD c Reset.dma) h

theorem onlyIn_setDma (c : Nat) (f : Dma → Dma) (s : State) : OnlyIn [.dmas] s (setDma c f s) := only_mk only_refl

/-- The kinds of destination that an export may have (Table 16.9). -/
theorem exportKind_iff {k : Nat} : (k != 0 && k != 1 && k != 2 && k != 4) = false ↔ k ∈ [0, 1, 2, 4] := by
  simp only [Bool.and_eq_false_iff, bne_eq_false_iff_eq, List.mem_cons, List.not_mem_nil, or_false, or_assoc]

theorem expStatus_told (state cause : Nat) (hwf : RegsWf s) :
    (expStatus state cause s).reg Off.REC_EXP_STATUS = cmdStatus (s.reg Off.REC_EXP_STATUS) state cause ∧
    RegsOnly [Off.REC_EXP_STATUS] s (expStatus state cause s) ∧ OnlyIn [.regs] s (expStatus state cause s) :=
  ⟨reg_setReg_unmasked _ _ _ hwf (by decide), regs_setReg regs_refl, only_cmdResult only_refl⟩

/-- REC exports. -/
def exportBegun (s : State) : State := { s with erec := { s.erec with state := .exporting } }

/-- An export that starts. -/
def exportStarted (s : State) : State :=
  setDma 1 (fun d => { d with state := .running, done := 0 }) (setReg Off.REC_EXP_COUNT 0 (expStatus 1 0 (exportBegun s)))

theorem exportStarted_told (hwf : RegsWf s) (hdma : 1 < s.dmas.length) :
    (exportStarted s).erec = { s.erec with state := .exporting } ∧ (exportStarted s).dma 1 = { s.dma 1 with state := .running, done := 0 } ∧
    (∀ k, k ≠ 1 → (exportStarted s).dma k = s.dma k) ∧ (exportStarted s).reg Off.REC_EXP_STATUS = cmdStatus (s.reg Off.REC_EXP_STATUS) 1 0 ∧
    (exportStarted s).reg Off.REC_EXP_COUNT = 0 ∧ RegsOnly [Off.REC_EXP_STATUS, Off.REC_EXP_COUNT] s (exportStarted s) ∧
    OnlyIn [.regs, .erec, .dmas] s (exportStarted s) := by
  have hbegun : OnlyIn [.erec] s (exportBegun s) := only_mk only_refl
  have hwfBegun : RegsWf (exportBegun s) := wf_mk hwf
  obtain ⟨hstatus, hstatusRegs, hstatusOnly⟩ := expStatus_told 1 0 hwfBegun
  have hwfStatus : RegsWf (expStatus 1 0 (exportBegun s)) := wf_setReg hwfBegun
  have hcount := onlyIn_trans (onlyIn_mono hbegun (by decide) : OnlyIn [.regs, .erec] s _) (onlyIn_mono hstatusOnly (by decide))
  have hset : OnlyIn [.regs] (expStatus 1 0 (exportBegun s)) (setReg Off.REC_EXP_COUNT 0 (expStatus 1 0 (exportBegun s))) := only_setReg only_refl
  have hzero : (setReg Off.REC_EXP_COUNT 0 (expStatus 1 0 (exportBegun s))).reg Off.REC_EXP_COUNT = 0 := by
    rw [reg_setReg_self _ _ _ hwfStatus]
    decide
  have hrest := onlyIn_trans hcount (onlyIn_mono hset (by decide))
  have hregs : RegsOnly [Off.REC_EXP_STATUS, Off.REC_EXP_COUNT] s (setReg Off.REC_EXP_COUNT 0 (expStatus 1 0 (exportBegun s))) :=
    regs_setReg (regs_via (regs_of_only regs_refl hbegun) (by decide) fun _ h => regsOnly_trans h hstatusRegs)
  have hold : (setReg Off.REC_EXP_COUNT 0 (expStatus 1 0 (exportBegun s))).reg Off.REC_EXP_STATUS = cmdStatus (s.reg Off.REC_EXP_STATUS) 1 0 := by
    rw [reg_setReg_ne _ _ _ _ (by decide), hstatus, reg_of_only _ hbegun]
  have herec : (setReg Off.REC_EXP_COUNT 0 (expStatus 1 0 (exportBegun s))).erec = { s.erec with state := .exporting } :=
    (hset.2 .erec (by decide)).trans (hstatusOnly.2 .erec (by decide))
  rw [exportStarted]
  generalize setReg Off.REC_EXP_COUNT 0 (expStatus 1 0 (exportBegun s)) = u at *
  have hdmas : u.dmas = s.dmas := hrest.2 .dmas (by decide)
  have hlen : 1 < u.dmas.length := by rw [hdmas]; exact hdma
  have hlast := onlyIn_setDma 1 (fun d => { d with state := .running, done := 0 }) u
  refine ⟨herec, ?_, fun k hk => ?_, ?_, ?_, regs_of_only hregs hlast, onlyIn_trans (onlyIn_mono hrest (by decide)) (onlyIn_mono hlast (by decide))⟩
  · rw [dma_setDma_self _ hlen, dma_congr hdmas]
  · rw [dma_setDma_ne _ hk, dma_congr hdmas]
  · rw [reg_of_only _ hlast, hold]
  · rw [reg_of_only _ hlast, hzero]

theorem exists_next_exportStart (s : State) (v : Word) (hwf : RegsWf s) (hruns : s.recRuns = true) (hdma : 1 < s.dmas.length) :
    (fld v 16 16 = 0x5245 → s.erec.state = .ready → s.expSpan ≤ 65536 → fld (s.reg Off.REC_EXP_CFG) 4 3 ∈ [0, 1, 2, 4] →
      endpointIn (fld (s.reg Off.REC_EXP_CFG) 4 3) s.expDst (256 * s.expSpan) = true →
      ∃ t, exec (.exportStart v) s = .next t ∧ t.erec = { s.erec with state := .exporting } ∧ t.dma 1 = { s.dma 1 with state := .running, done := 0 } ∧
        (∀ k, k ≠ 1 → t.dma k = s.dma k) ∧ t.reg Off.REC_EXP_STATUS = cmdStatus (s.reg Off.REC_EXP_STATUS) 1 0 ∧ t.reg Off.REC_EXP_COUNT = 0 ∧
        RegsOnly [Off.REC_EXP_STATUS, Off.REC_EXP_COUNT] s t ∧ OnlyIn [.regs, .erec, .dmas] s t) ∧
    (∀ (c : Instr) (cause : Nat), (c = .exportStart v ∨ c = .exportAbort v) ∧ fld v 16 16 ≠ 0x5245 ∧ cause = 1 ∨
        c = .exportStart v ∧ fld v 16 16 = 0x5245 ∧ (s.erec.state ≠ .ready ∧ cause = 4 ∨ s.erec.state = .ready ∧ 65536 < s.expSpan ∧ cause = 2 ∨
          s.erec.state = .ready ∧ s.expSpan ≤ 65536 ∧ (fld (s.reg Off.REC_EXP_CFG) 4 3 ∉ [0, 1, 2, 4] ∨
            endpointIn (fld (s.reg Off.REC_EXP_CFG) 4 3) s.expDst (256 * s.expSpan) = false) ∧ cause = 3) →
      ∃ t, exec c s = .next t ∧ t.reg Off.REC_EXP_STATUS = cmdStatus (s.reg Off.REC_EXP_STATUS) 3 cause ∧
        RegsOnly [Off.REC_EXP_STATUS] s t ∧ OnlyIn [.regs] s t) ∧
    (fld v 16 16 = 0x5245 → s.erec.state ≠ .exporting → exec (.exportAbort v) s = .next s) := by
  have hstart : exec (.exportStart v) s = .next (exportStartOp v s) := congrArg Host.Outcome.next (if_pos hruns)
  have habort : exec (.exportAbort v) s = .next (exportAbortOp v s) := congrArg Host.Outcome.next (if_pos hruns)
  have hreject : ∀ (c : Instr) (cause : Nat), exec c s = .next (expStatus 3 cause s) → ∃ t, exec c s = .next t ∧
      t.reg Off.REC_EXP_STATUS = cmdStatus (s.reg Off.REC_EXP_STATUS) 3 cause ∧ RegsOnly [Off.REC_EXP_STATUS] s t ∧ OnlyIn [.regs] s t := fun c cause h =>
    ⟨_, h, expStatus_told 3 cause hwf⟩
  refine ⟨fun hkey hstate hspan hkind hend => ?_, fun c cause hc => ?_, fun hkey hstate => ?_⟩
  · have hop : exportStartOp v s = exportStarted s := by
      unfold exportStartOp
      dsimp only
      rw [if_neg (by simpa using hkey), if_neg (by simpa using hstate), if_neg (Nat.not_lt.mpr hspan), exportKind_iff.mpr hkind, hend]
      rfl
    rw [hop] at hstart
    exact ⟨_, hstart, exportStarted_told hwf hdma⟩
  · obtain ⟨hc, hkey, rfl⟩ | ⟨rfl, hkey, ⟨hstate, rfl⟩ | ⟨hstate, hspan, rfl⟩ | ⟨hstate, hspan, hdst, rfl⟩⟩ := hc
    · obtain rfl | rfl := hc
      · exact hreject _ 1 (hstart.trans (congrArg _ (if_pos (by simpa using hkey))))
      · exact hreject _ 1 (habort.trans (congrArg _ (if_pos (by simpa using hkey))))
    · refine hreject _ 4 (hstart.trans (congrArg _ ?_))
      unfold exportStartOp
      dsimp only
      rw [if_neg (by simpa using hkey), if_pos (by simpa using hstate)]
    · refine hreject _ 2 (hstart.trans (congrArg _ ?_))
      unfold exportStartOp
      dsimp only
      rw [if_neg (by simpa using hkey), if_neg (by simpa using hstate), if_pos hspan]
    · refine hreject _ 3 (hstart.trans (congrArg _ ?_))
      have hbad : ((fld (s.reg Off.REC_EXP_CFG) 4 3 != 0 && fld (s.reg Off.REC_EXP_CFG) 4 3 != 1 && fld (s.reg Off.REC_EXP_CFG) 4 3 != 2 &&
          fld (s.reg Off.REC_EXP_CFG) 4 3 != 4) || !endpointIn (fld (s.reg Off.REC_EXP_CFG) 4 3) s.expDst (256 * s.expSpan)) = true := by
        obtain hkind | hend := hdst
        · rw [Bool.eq_true_of_not_eq_false (mt exportKind_iff.mp hkind), Bool.true_or]
        · rw [hend, Bool.not_false, Bool.or_true]
      unfold exportStartOp
      dsimp only
      rw [if_neg (by simpa using hkey), if_neg (by simpa using hstate), if_neg (Nat.not_lt.mpr hspan), if_pos hbad]
  · refine habort.trans (congrArg _ ?_)
    unfold exportAbortOp
    rw [if_neg (by simpa using hkey), if_neg (by simpa using hstate)]

/-! ### The end of an export (R503, R505) -/

/-- An export that is over, before a clear that waited for it. -/
def exportEnded (state cause : Nat) (d : DmaState) (s : State) : State :=
  raiseIrq Irq.REC_EXPORT_DONE (setDma 1 (fun x => { x with state := d })
    (expEnds state cause { s with erec := { s.erec with state := .ready, clearWaits := none } }))

theorem exportOver_of_none {state cause : Nat} {d : DmaState} (h : s.erec.clearWaits = none) : exportOver state cause d s = exportEnded state cause d s := by
  unfold exportOver
  rw [h]
  rfl

theorem exportOver_of_clear {state cause : Nat} {d : DmaState} {kept : Bool} {r p : Item} (h : s.erec.clearWaits = some (kept, [r, p])) :
    exportOver state cause d s = beginClear kept (beNat r.value) p.value (exportEnded state cause d s) := by
  unfold exportOver
  rw [h]
  rfl

theorem exportEnded_erec (state cause : Nat) (d : DmaState) (s : State) : (exportEnded state cause d s).erec = { s.erec with state := .ready, clearWaits := none } := by
  rw [exportEnded, raiseIrq_erec]
  rfl

theorem exportEnded_only (state cause : Nat) (d : DmaState) (s : State) : OnlyIn [.regs, .icus, .erec, .dmas] s (exportEnded state cause d s) :=
  only_raiseIrq (only_mk (only_setReg (only_mk only_refl)))

theorem exportEnded_dma (state cause : Nat) (d : DmaState) (hdma : 1 < s.dmas.length) :
    (exportEnded state cause d s).dma 1 = { s.dma 1 with state := d } ∧ ∀ k, k ≠ 1 → (exportEnded state cause d s).dma k = s.dma k := by
  have hirq : ∀ u : State, (raiseIrq Irq.REC_EXPORT_DONE u).dmas = u.dmas := fun u => (only_raiseIrq only_refl : OnlyIn [.icus] u _).2 .dmas (by decide)
  have hends : (expEnds state cause { s with erec := { s.erec with state := .ready, clearWaits := none } }).dmas = s.dmas := rfl
  rw [exportEnded]
  generalize expEnds state cause { s with erec := { s.erec with state := .ready, clearWaits := none } } = u at *
  refine ⟨?_, fun k hk => ?_⟩
  · rw [dma_congr (hirq _), dma_setDma_self _ (by rw [hends]; exact hdma), dma_congr hends]
  · rw [dma_congr (hirq _), dma_setDma_ne _ hk, dma_congr hends]

theorem exportEnded_regs (state cause : Nat) (d : DmaState) (hwf : RegsWf s) :
    (exportEnded state cause d s).reg Off.REC_EXP_STATUS = mkWord [(0, state), (4, cause), (8, fld (s.reg Off.REC_EXP_STATUS) 8 8)] ∧
    RegsOnly [Off.REC_EXP_STATUS] s (exportEnded state cause d s) ∧ Raised Irq.REC_EXPORT_DONE (exportEnded state cause d s) := by
  refine ⟨?_, regs_raiseIrq (regs_mk (regs_setReg (regs_mk regs_refl))), raised_raiseIrq _ _ (by decide)⟩
  rw [exportEnded, raiseIrq_reg]
  exact reg_setReg_unmasked _ _ _ (wf_mk hwf) (by decide)

end

end Sys2Proof.Machine

namespace Sys2Proof.Machine

set_option Elab.async false

/-! ### Slots of an export (R505) -/

section
variable {s t u w : State}

theorem reg_bumpBy_unmasked (key n : Nat) (hwf : RegsWf s) (hkey : regMask key = 4294967295) :
    (bumpBy key n s).reg key = s.reg key + BitVec.ofNat 32 n := reg_setReg_unmasked _ _ _ hwf hkey

theorem length_expSlot (s : State) (i : Nat) : (s.expSlot i).length = 256 := by
  unfold State.expSlot
  dsimp only
  split
  · rw [List.length_take, List.length_append, List.length_replicate]
    omega
  · exact List.length_replicate

theorem length_slotBytes (s : State) (n : Nat) : (s.slotBytes 0 n).length = 256 * n := by
  have hslots : ∀ l : List Nat, (l.flatMap s.expSlot).length = 256 * l.length := by
    intro l
    induction l with
    | nil => rfl
    | cons x xs ih =>
      rw [List.flatMap_cons, List.length_append, ih, length_expSlot, List.length_cons]
      omega
  unfold State.slotBytes
  rw [Nat.zero_div, Nat.zero_mod, List.drop_zero, List.drop_zero, hslots, List.length_range]

/-! ### What an export has written -/

/-- The counts of an export that has come to byte `e`, by `m` more. -/
def expCounted (m e bad : Nat) (s : State) : State :=
  setReg Off.REC_EXP_COUNT (BitVec.ofNat 32 (e / 256)) (bumpBy Off.REC_BAD_CRC_CNT bad (setDma 1 (fun x => { x with done := e }) (countBytes m s)))

theorem onlyIn_countBytes (m : Nat) (s : State) : OnlyIn [.regs] s (countBytes m s) := only_setReg (only_setReg only_refl)

theorem regs_countBytes (m : Nat) (s : State) : RegsOnly [Off.DMA_BYTES_LO, Off.DMA_BYTES_HI] s (countBytes m s) := regs_setReg (regs_setReg regs_refl)

theorem expCounted_told (m e bad : Nat) (hwf : RegsWf s) (hdma : 1 < s.dmas.length) :
    (expCounted m e bad s).dma 1 = { s.dma 1 with done := e } ∧ (∀ k, k ≠ 1 → (expCounted m e bad s).dma k = s.dma k) ∧
    (expCounted m e bad s).reg Off.REC_EXP_COUNT = BitVec.ofNat 32 (e / 256) ∧
    (expCounted m e bad s).reg Off.REC_BAD_CRC_CNT = s.reg Off.REC_BAD_CRC_CNT + BitVec.ofNat 32 bad ∧
    RegsOnly [Off.REC_EXP_COUNT, Off.REC_BAD_CRC_CNT, Off.DMA_BYTES_LO, Off.DMA_BYTES_HI] s (expCounted m e bad s) ∧
    OnlyIn [.regs, .dmas] s (expCounted m e bad s) ∧ RegsWf (expCounted m e bad s) := by
  have hbytes := onlyIn_countBytes m s
  have hbytesRegs := regs_countBytes m s
  have hwfBytes : RegsWf (countBytes m s) := wf_setReg (wf_setReg hwf)
  rw [expCounted]
  generalize countBytes m s = a at *
  have hset := onlyIn_setDma 1 (fun x => { x with done := e }) a
  have hdmas : a.dmas = s.dmas := hbytes.2 .dmas (by decide)
  have hself := dma_setDma_self (s := a) (fun x => { x with done := e }) (by rw [hdmas]; exact hdma : 1 < a.dmas.length)
  have hother : ∀ k, k ≠ 1 → (setDma 1 (fun x => { x with done := e }) a).dma k = a.dma k := fun k => dma_setDma_ne _
  have hwfSet : RegsWf (setDma 1 (fun x => { x with done := e }) a) := regsWf_of_only hwfBytes hset
  generalize setDma 1 (fun x => { x with done := e }) a = b at *
  have hcounts : OnlyIn [.regs] b (setReg Off.REC_EXP_COUNT (BitVec.ofNat 32 (e / 256)) (bumpBy Off.REC_BAD_CRC_CNT bad b)) := only_setReg (only_bumpBy only_refl)
  have hregs : RegsOnly [Off.DMA_BYTES_LO, Off.DMA_BYTES_HI] s b := regs_of_only hbytesRegs hset
  refine ⟨?_, fun k hk => ?_, reg_setReg_unmasked _ _ _ (wf_bumpBy hwfSet) (by decide), ?_,
    regs_setReg (regs_bumpBy (regs_via regs_refl (by decide) fun _ h => regsOnly_trans h hregs)),
    onlyIn_trans (onlyIn_trans (onlyIn_mono hbytes (by decide)) (onlyIn_mono hset (by decide))) (onlyIn_mono hcounts (by decide)), wf_setReg (wf_bumpBy hwfSet)⟩
  · rw [dma_congr (hcounts.2 .dmas (by decide)), hself, dma_congr hdmas]
  · rw [dma_congr (hcounts.2 .dmas (by decide)), hother k hk, dma_congr hdmas]
  · rw [reg_setReg_ne _ _ _ _ (by decide), reg_bumpBy_unmasked _ _ hwfSet (by decide), hregs _ (by decide)]

/-- The bytes that an export writes next, up to slot `n`. -/
def State.expBytes (s : State) (n : Nat) : List Byte := (s.slotBytes (s.dma 1).done n).take (4096 * s.expRoom)

/-- The destination once it has taken them: how many, and the state. -/
def State.expTaken (s : State) (n : Nat) : Nat × State :=
  dmaWrite 1 (fld (s.reg Off.REC_EXP_CFG) 4 3) s.expDst (s.dma 1).done (s.expBytes n) s

theorem expWrite_eq (n : Nat) (s : State) : expWrite n s =
    expCounted (s.expTaken n).1 ((s.dma 1).done + (s.expTaken n).1) (s.badSlots ((s.dma 1).done / 256) (((s.dma 1).done + (s.expTaken n).1) / 256)) (s.expTaken n).2 := rfl

/-! ### Memory of the lanes -/

theorem mem_foldl_wrLane (ls : List Lane) (hls : ls.Nodup) (addr : Nat) (bs : List Byte) (s : State) (l : Lane) :
    (ls.foldl (fun s l => wrLane l addr bs s) s).mem l = if l ∈ ls then (s.mem l).wr addr bs else s.mem l := by
  induction ls generalizing s with
  | nil => rfl
  | cons x xs ih =>
    rw [List.nodup_cons] at hls
    obtain ⟨hx, hxs⟩ := hls
    rw [List.foldl_cons, ih hxs]
    by_cases hl : l = x
    · subst hl
      rw [if_neg hx, if_pos List.mem_cons_self]
      exact get_modify_self _ _ _
    · have hsame : (wrLane x addr bs s).mem l = s.mem l := get_modify_ne _ _ _ _ hl
      simp only [hsame, List.mem_cons, hl, false_or]

theorem onlyIn_wrLanes (addr : Nat) (bs : List Byte) (s : State) : OnlyIn [.mems] s (wrLanes addr bs s) := only_foldl (fun _ _ h => only_wrLane h) only_refl

theorem wrLanes_mem (addr : Nat) (bs : List Byte) (s : State) (l : Lane) :
    (wrLanes addr bs s).mem l = if s.inVote l = true then (s.mem l).wr addr bs else s.mem l := by
  rw [wrLanes, mem_foldl_wrLane _ (nodup_lanesIn s)]
  simp only [mem_lanesIn]

end

end Sys2Proof.Machine

namespace Sys2Proof.Machine

set_option Elab.async false

/-! ### Exports to the eMMC and to the lanes (R505) -/

section
variable {s u w : State} {kind n : Nat}

/-- The slots in the eMMC or in the memory of the lanes in vote. -/
def slotsMoved (kind : Nat) (bs : List Byte) (s : State) : State :=
  if kind = 4 then { s with nv := { s.nv with emmc := wrBytes s.nv.emmc (512 * s.expDst) bs } } else wrLanes s.expDst bs s

theorem onlyIn_slotsMoved (kind : Nat) (bs : List Byte) (s : State) : OnlyIn [.nv, .mems] s (slotsMoved kind bs s) :=
  only_ite (only_mk only_refl) (onlyIn_mono (onlyIn_wrLanes _ _ s) (by decide))

/-- What the destination then holds. -/
def SlotsStand (kind : Nat) (bs : List Byte) (s t : State) : Prop :=
  (kind = 4 → t.nv = { s.nv with emmc := wrBytes s.nv.emmc (512 * s.expDst) bs } ∧ t.mems = s.mems) ∧
  (kind = 0 → inDram s.expDst bs.length = true → (∀ l, s.inVote l = true → (t.mem l).rd s.expDst bs.length = bs) ∧
    (∀ l, s.inVote l = false → t.mem l = s.mem l) ∧ t.nv = s.nv)

theorem slotsStand_slotsMoved (kind : Nat) (bs : List Byte) (hmem : MemsWf s) : SlotsStand kind bs s (slotsMoved kind bs s) := by
  refine ⟨fun hk => ?_, fun hk hdram => ?_⟩
  · rw [slotsMoved, if_pos hk]
    exact ⟨rfl, rfl⟩
  · rw [slotsMoved, if_neg (by omega)]
    refine ⟨fun l hl => ?_, fun l hl => ?_, (onlyIn_wrLanes _ _ s).2 .nv (by decide)⟩
    · obtain ⟨hdramWf, hspadWf⟩ := hmem l
      rw [wrLanes_mem, if_pos hl]
      exact rd_wr _ _ _ hdramWf hspadWf (Or.inl hdram)
    · rw [wrLanes_mem, if_neg (by rw [hl]; decide)]

theorem slotsStand_of_only {bs : List Byte} {t t' : State} (h : SlotsStand kind bs s t) (hnv : t'.nv = t.nv) (hmems : t'.mems = t.mems) :
    SlotsStand kind bs s t' := by
  obtain ⟨hemmc, hlanes⟩ := h
  have hmem : ∀ l, t'.mem l = t.mem l := fun l => congrArg (fun x => x.get l) hmems
  refine ⟨fun hk => ?_, fun hk hdram => ?_⟩
  · rw [hnv, hmems]
    exact hemmc hk
  · obtain ⟨hin, hout, hsame⟩ := hlanes hk hdram
    exact ⟨fun l hl => by rw [hmem]; exact hin l hl, fun l hl => (hmem l).trans (hout l hl), hnv.trans hsame⟩

/-- An export that begins at its first slot and finds its destination ready for all of them. -/
structure ExportsAll (kind n : Nat) (s : State) : Prop where
  wf : RegsWf s
  mems : MemsWf s
  channel : 1 < s.dmas.length
  done : (s.dma 1).done = 0
  cfg : kind = fld (s.reg Off.REC_EXP_CFG) 4 3
  dest : kind = 4 ∨ kind = 0 ∧ ∀ l, (s.vot.lanes.get l).phase ≠ .stopcopy
  slots : n ≤ 65536

theorem expRoom_of_all (h : ExportsAll kind n s) : s.expRoom = 4096 := by
  unfold State.expRoom
  rw [← h.cfg]
  obtain rfl | ⟨rfl, hlanes⟩ := h.dest
  · rfl
  · refine if_neg ?_
    rw [Bool.not_eq_true, List.any_eq_false]
    exact fun l _ => by simpa using hlanes l

theorem expBytes_of_all (h : ExportsAll kind n s) : s.expBytes n = s.slotBytes 0 n := by
  have hslots := h.slots
  rw [State.expBytes, h.done, expRoom_of_all h]
  refine List.take_of_length_le ?_
  rw [length_slotBytes]
  omega

theorem expTaken_of_all (h : ExportsAll kind n s) : s.expTaken n = (256 * n, slotsMoved kind (s.slotBytes 0 n) s) := by
  rw [State.expTaken, expBytes_of_all h, h.done, ← h.cfg, ← length_slotBytes s n]
  obtain rfl | ⟨rfl, _⟩ := h.dest
  · rfl
  · rfl

/-- The export stands at slot `n`, with its slots at their destination. -/
structure Exported (kind n : Nat) (errors : Word) (s t : State) : Prop where
  wf : RegsWf t
  channel : t.dma 1 = { s.dma 1 with done := 256 * n }
  channels : ∀ k, k ≠ 1 → t.dma k = s.dma k
  length : t.dmas.length = s.dmas.length
  count : t.reg Off.REC_EXP_COUNT = BitVec.ofNat 32 n
  bad : t.reg Off.REC_BAD_CRC_CNT = s.reg Off.REC_BAD_CRC_CNT + BitVec.ofNat 32 (s.badSlots 0 n)
  errors : t.reg Off.DMA_ERRORS = s.reg Off.DMA_ERRORS + errors
  stand : SlotsStand kind (s.slotBytes 0 n) s t
  regs : RegsOnly [Off.REC_EXP_COUNT, Off.REC_BAD_CRC_CNT, Off.DMA_ERRORS, Off.DMA_BYTES_LO, Off.DMA_BYTES_HI] s t
  only : OnlyIn [.free, .regs, .nv, .mems, .dmas] s t

theorem length_expCounted (m e bad : Nat) (s : State) : (expCounted m e bad s).dmas.length = s.dmas.length := length_modAt _ _ _

theorem exported_expWrite (h : ExportsAll kind n s) : Exported kind n 0 s (expWrite n s) := by
  have hmoved := onlyIn_slotsMoved kind (s.slotBytes 0 n) s
  have hstand := slotsStand_slotsMoved (s := s) kind (s.slotBytes 0 n) h.mems
  rw [expWrite_eq, expTaken_of_all h, h.done, Nat.zero_add, Nat.zero_div, Nat.mul_div_cancel_left n (by decide : 0 < 256)]
  dsimp only
  generalize slotsMoved kind (s.slotBytes 0 n) s = u at *
  have hdmas : u.dmas = s.dmas := hmoved.2 .dmas (by decide)
  obtain ⟨hself, hother, hcount, hbad, hregs, honly, hwf⟩ :=
    expCounted_told (s := u) (256 * n) (256 * n) (s.badSlots 0 n) (regsWf_of_only h.wf hmoved) (by rw [hdmas]; exact h.channel)
  rw [Nat.mul_div_cancel_left n (by decide : 0 < 256)] at hcount
  have hregs' : RegsOnly [Off.REC_EXP_COUNT, Off.REC_BAD_CRC_CNT, Off.DMA_BYTES_LO, Off.DMA_BYTES_HI] s _ := regsOnly_trans (regs_of_only regs_refl hmoved) hregs
  exact ⟨hwf, by rw [hself, dma_congr hdmas], fun k hk => by rw [hother k hk, dma_congr hdmas], by rw [length_expCounted, hdmas], hcount, by rw [hbad, reg_of_only _ hmoved],
    (hregs' _ (by decide)).trans (BitVec.add_zero _).symm, slotsStand_of_only hstand (honly.2 .nv (by decide)) (honly.2 .mems (by decide)),
    regs_via regs_refl (by decide) fun _ h => regsOnly_trans h hregs', onlyIn_trans (onlyIn_mono hmoved (by decide)) (onlyIn_mono honly (by decide))⟩

theorem exported_bump (h : Exported kind n 0 s w) : Exported kind n 1 s (bump Off.DMA_ERRORS w) := by
  have hbump : OnlyIn [.regs] w (bump Off.DMA_ERRORS w) := only_bump only_refl
  have hdmas : (bump Off.DMA_ERRORS w).dmas = w.dmas := hbump.2 .dmas (by decide)
  refine ⟨wf_bump h.wf, by rw [dma_congr hdmas, h.channel], fun k hk => by rw [dma_congr hdmas, h.channels k hk], by rw [hdmas, h.length], ?_, ?_, ?_,
    slotsStand_of_only h.stand (hbump.2 .nv (by decide)) (hbump.2 .mems (by decide)), regs_bump h.regs, only_bump h.only⟩
  · rw [reg_bump_ne _ _ _ (by decide), h.count]
  · rw [reg_bump_ne _ _ _ (by decide), h.bad]
  · rw [reg_bump_unmasked _ _ h.wf (by decide), h.errors]
    exact congrArg (· + 1) (BitVec.add_zero _)

theorem exportsAll_fresh (h : ExportsAll kind n s) : ExportsAll kind n (fresh s).2 := ⟨h.wf, h.mems, h.channel, h.done, h.cfg, h.dest, h.slots⟩

theorem exported_of_fresh {errors : Word} (h : Exported kind n errors (fresh s).2 w) : Exported kind n errors s w :=
  ⟨h.wf, h.channel, h.channels, h.length, h.count, h.bad, h.errors, h.stand, h.regs, onlyIn_trans (only_mk only_refl) h.only⟩

/-- The end of an export that no clear waits for. -/
theorem exportEnded_of_exported {errors : Word} (st cause : Nat) (d : DmaState) (hdma : 1 < s.dmas.length) (hwaits : s.erec.clearWaits = none)
    (h : Exported kind n errors s w) : exportOver st cause d w = exportEnded st cause d w ∧ (exportEnded st cause d w).erec.state = .ready ∧
      ((exportEnded st cause d w).dma 1).state = d ∧ ((exportEnded st cause d w).dma 1).done = 256 * n ∧
      (∀ k, k ≠ 1 → (exportEnded st cause d w).dma k = s.dma k) ∧ (exportEnded st cause d w).reg Off.REC_EXP_COUNT = BitVec.ofNat 32 n ∧
      (exportEnded st cause d w).reg Off.REC_EXP_STATUS = mkWord [(0, st), (4, cause), (8, fld (s.reg Off.REC_EXP_STATUS) 8 8)] ∧
      (exportEnded st cause d w).reg Off.REC_BAD_CRC_CNT = s.reg Off.REC_BAD_CRC_CNT + BitVec.ofNat 32 (s.badSlots 0 n) ∧
      Raised Irq.REC_EXPORT_DONE (exportEnded st cause d w) ∧ (exportEnded st cause d w).reg Off.DMA_ERRORS = s.reg Off.DMA_ERRORS + errors ∧
      SlotsStand kind (s.slotBytes 0 n) s (exportEnded st cause d w) ∧
      RegsOnly [Off.REC_EXP_COUNT, Off.REC_EXP_STATUS, Off.REC_BAD_CRC_CNT, Off.DMA_ERRORS, Off.DMA_BYTES_LO, Off.DMA_BYTES_HI] s (exportEnded st cause d w) ∧
      OnlyIn [.free, .regs, .nv, .icus, .mems, .erec, .dmas] s (exportEnded st cause d w) := by
  have herec : w.erec = s.erec := h.only.2 .erec (by decide)
  have hlen : 1 < w.dmas.length := by rw [h.length]; exact hdma
  obtain ⟨hself, hother⟩ := exportEnded_dma st cause d hlen
  obtain ⟨hstatus, hregs, hraised⟩ := exportEnded_regs st cause d h.wf
  have honly := exportEnded_only st cause d w
  refine ⟨exportOver_of_none (by rw [herec]; exact hwaits), by rw [exportEnded_erec], by rw [hself], by rw [hself, h.channel], fun k hk => by rw [hother k hk, h.channels k hk],
    ?_, ?_, ?_, hraised, ?_, slotsStand_of_only h.stand (honly.2 .nv (by decide)) (honly.2 .mems (by decide)), ?_, ?_⟩
  · rw [hregs _ (by decide), h.count]
  · rw [hstatus, h.regs _ (by decide)]
  · rw [hregs _ (by decide), h.bad]
  · rw [hregs _ (by decide), h.errors]
  · exact regs_via (regs_via regs_refl (by decide) fun _ h' => regsOnly_trans h' h.regs : RegsOnly _ s w) (by decide) fun _ h => regsOnly_trans h hregs
  · exact onlyIn_trans (onlyIn_mono h.only (by decide)) (onlyIn_mono honly (by decide))

theorem slotsStand_told {bs : List Byte} {t : State} (h : SlotsStand kind bs s t) (hlen : bs.length = 256 * n) :
    (kind = 4 → t.nv = { s.nv with emmc := wrBytes s.nv.emmc (512 * s.expDst) bs } ∧ t.mems = s.mems) ∧
    (kind = 0 → inDram s.expDst (256 * n) = true → (∀ l, s.inVote l = true → (t.mem l).rd s.expDst bs.length = bs) ∧
      (∀ l, s.inVote l = false → t.mem l = s.mem l) ∧ t.nv = s.nv) := by
  rw [← hlen]
  exact h

theorem exec_exportEnd {result : Nat} (hruns : s.recRuns = true) (hstate : s.erec.state = .exporting) :
    exec (.exportEnd result) s = .next (exportEndOp result s) := congrArg Host.Outcome.next (if_pos (by rw [hruns, hstate]; rfl))

end

theorem exists_next_exportLocal (s : State) (v : Word) (result n st cause kind : Nat) (d : DmaState) (c : Instr) (bs : List Byte) (hwf : RegsWf s)
    (hmem : MemsWf s) (hruns : s.recRuns = true) (hstate : s.erec.state = .exporting) (hdma : 1 < s.dmas.length) (hrunning : (s.dma 1).state = .running)
    (hdone : (s.dma 1).done = 0) (hwaits : s.erec.clearWaits = none) (hspan : s.expSpan ≤ 65536) (hkind : kind = fld (s.reg Off.REC_EXP_CFG) 4 3)
    (hdest : kind = 4 ∨ kind = 0 ∧ (∀ l, (s.vot.lanes.get l).phase ≠ .stopcopy)) (hbs : bs = s.slotBytes 0 n)
    (hc : c = .exportEnd 0 ∧ n = s.expSpan ∧ st = 2 ∧ cause = 0 ∧ d = .done ∨ c = .exportEnd (result + 1) ∧ n = min result s.expSpan ∧ st = 4 ∧ cause = 5 ∧ d = .error ∨
     c = .exportAbort v ∧ fld v 16 16 = 0x5245 ∧ n = (Config.freeWord s.free).toNat % (s.expSpan + 1) ∧ st = 5 ∧ cause = 0 ∧ d = .aborted) :
    ∃ t, exec c s = .next t ∧ t.erec.state = .ready ∧ (t.dma 1).state = d ∧ (t.dma 1).done = 256 * n ∧ (∀ k, k ≠ 1 → t.dma k = s.dma k) ∧
      t.reg Off.REC_EXP_COUNT = BitVec.ofNat 32 n ∧ t.reg Off.REC_EXP_STATUS = mkWord [(0, st), (4, cause), (8, fld (s.reg Off.REC_EXP_STATUS) 8 8)] ∧
      t.reg Off.REC_BAD_CRC_CNT = s.reg Off.REC_BAD_CRC_CNT + BitVec.ofNat 32 (s.badSlots 0 n) ∧ Raised Irq.REC_EXPORT_DONE t ∧
      t.reg Off.DMA_ERRORS = s.reg Off.DMA_ERRORS + (if st = 4 then 1 else 0) ∧
      (kind = 4 → t.nv = { s.nv with emmc := wrBytes s.nv.emmc (512 * s.expDst) bs } ∧ t.mems = s.mems) ∧
      (kind = 0 → inDram s.expDst (256 * n) = true → (∀ l, s.inVote l = true → (t.mem l).rd s.expDst bs.length = bs) ∧
        (∀ l, s.inVote l = false → t.mem l = s.mem l) ∧ t.nv = s.nv) ∧
      RegsOnly [Off.REC_EXP_COUNT, Off.REC_EXP_STATUS, Off.REC_BAD_CRC_CNT, Off.DMA_ERRORS, Off.DMA_BYTES_LO, Off.DMA_BYTES_HI] s t ∧
      OnlyIn [.free, .regs, .nv, .icus, .mems, .erec, .dmas] s t := by
  subst hbs
  have hall : ∀ n, n ≤ s.expSpan → ExportsAll kind n s := fun n hn => ⟨hwf, hmem, hdma, hdone, hkind, hdest, Nat.le_trans hn hspan⟩
  suffices hended : ∃ errors w, Exported kind n errors s w ∧ exec c s = .next (exportOver st cause d w) ∧ errors = if st = 4 then 1 else 0 by
    obtain ⟨errors, w, hw, hexec, herrors⟩ := hended
    obtain ⟨hop, hready, hself, hselfDone, hother, hcount, hstatus, hbad, hraised, hcounted, hstand, hregs, honly⟩ := exportEnded_of_exported st cause d hdma hwaits hw
    obtain ⟨hemmc, hlanes⟩ := slotsStand_told hstand (length_slotBytes s n)
    rw [hop] at hexec
    rw [herrors] at hcounted
    exact ⟨_, hexec, hready, hself, hselfDone, hother, hcount, hstatus, hbad, hraised, hcounted, hemmc, hlanes, hregs, honly⟩
  have hgoes : ∀ w errors, Exported kind n errors s w → ((w.dma 1).state == DmaState.error) = false := fun w errors hw => by
    rw [hw.channel]
    exact beq_false_of_ne (by rw [hrunning]; decide)
  obtain ⟨rfl, hn, rfl, rfl, rfl⟩ | ⟨rfl, hn, rfl, rfl, rfl⟩ | ⟨rfl, hkey, hn, rfl, rfl, rfl⟩ := hc
  · have hw := exported_expWrite (hall n (Nat.le_of_eq hn))
    refine ⟨0, _, hw, (exec_exportEnd hruns hstate).trans (congrArg _ ?_), rfl⟩
    unfold exportEndOp
    rw [if_pos rfl, ← hn]
    dsimp only
    rw [hgoes _ _ hw, if_neg Bool.false_ne_true, if_neg (by simp), if_neg (by rw [hw.channel]; exact Nat.lt_irrefl _)]
  · have hw := exported_expWrite (hall n (hn ▸ Nat.min_le_right _ _))
    refine ⟨1, _, exported_bump hw, (exec_exportEnd hruns hstate).trans (congrArg _ ?_), rfl⟩
    unfold exportEndOp
    rw [if_neg (Nat.succ_ne_zero _), Nat.add_sub_cancel, ← hn]
    dsimp only
    rw [hgoes _ _ hw, if_neg Bool.false_ne_true, if_pos (Nat.succ_ne_zero _)]
  · have hlt : n ≤ s.expSpan := by
      rw [hn]
      exact Nat.le_of_lt_succ (Nat.mod_lt _ (Nat.succ_pos _))
    have hw := exported_of_fresh (exported_expWrite (exportsAll_fresh (hall n hlt)))
    refine ⟨0, _, hw, Eq.trans (congrArg Host.Outcome.next (if_pos hruns)) (congrArg _ ?_), rfl⟩
    have hslots : (s.dma 1).done / 256 + (fresh s).1.toNat % (s.expSpan + 1 - (s.dma 1).done / 256) = n := by
      rw [hdone, Nat.zero_div, Nat.zero_add, Nat.sub_zero, hn]
      rfl
    unfold exportAbortOp
    rw [if_neg (by simpa using hkey), if_pos (by rw [hstate]; rfl)]
    dsimp only
    rw [hslots]

end Sys2Proof.Machine

namespace Sys2Proof.Machine

set_option Elab.async false

/-! ### Bursts of an export over a link (R443, R452) -/

section
variable {s t u : State} {l : Nat}

/-- A link takes writes. -/
structure LinkTakes (l : Nat) (s : State) : Prop where
  up : (s.culvert l).state = .up
  claim : s.refuses l = false

theorem setCulvert_cfg (l : Nat) (f : Culvert → Culvert) (s : State) : (setCulvert l f s).brg.cfg = s.brg.cfg := by
  unfold setCulvert
  split <;> rfl

theorem refuses_congr (hcfg : t.brg.cfg = s.brg.cfg) (honly : OnlyIn [.out, .brg] s t) : t.refuses l = s.refuses l := by
  have hchk : t.chk = s.chk := honly.2 .chk (by decide)
  unfold State.refuses State.fenced
  rw [hcfg, hchk, reg_of_only _ honly]

/-- A burst as the link holds it. -/
def burst (l remote : Nat) (data : List Byte) (s : State) : Posted :=
  ⟨(s.culvert l).nextTag, remote, 0, 0, some 1, s.npWindow l remote, s.now, data, none⟩

/-- A link that takes writes and has room for one more sends the burst. -/
theorem linkWrite_sends (remote : Nat) (data : List Byte) (hl : LinkTakes l s) (hroom : s.room l ≠ 0) :
    ((linkWrite l remote 0 0 (some 1) data s).culvert l).posted = (s.culvert l).posted ++ [burst l remote data s] ∧
    LinkTakes l (linkWrite l remote 0 0 (some 1) data s) ∧ (∀ m, m ≠ l → (linkWrite l remote 0 0 (some 1) data s).culvert m = s.culvert m) ∧
    OnlyIn [.out, .brg] s (linkWrite l remote 0 0 (some 1) data s) := by
  have hlt : l < 2 := link_lt_of_up hl.up
  obtain ⟨htag, htagOther, _⟩ := nextTag_link hlt s
  have htagOnly : OnlyIn [.out, .brg] s (nextTag l s) := only_nextTag only_refl
  have hop : linkWrite l remote 0 0 (some 1) data s = linkSend l (if s.npWindow l remote then 2 else 1) 0 (s.culvert l).nextTag remote data.length data
      (setCulvert l (fun c => { c with posted := c.posted ++ [burst l remote data s] }) (nextTag l s)) := by
    unfold linkWrite
    dsimp only
    rw [if_neg hroom, hl.claim, if_neg Bool.false_ne_true, hl.up]
    rfl
  have hset := culvert_setCulvert_self hlt (fun c => { c with posted := c.posted ++ [burst l remote data s] }) (nextTag l s)
  have hsetOther : ∀ m, m ≠ l → _ := fun m hm => culvert_setCulvert_ne hlt hm (fun c => { c with posted := c.posted ++ [burst l remote data s] }) (nextTag l s)
  have hsetOnly : OnlyIn [.out, .brg] s (setCulvert l (fun c => { c with posted := c.posted ++ [burst l remote data s] }) (nextTag l s)) := only_setCulvert htagOnly
  have hsetCfg : (setCulvert l (fun c => { c with posted := c.posted ++ [burst l remote data s] }) (nextTag l s)).brg.cfg = s.brg.cfg :=
    (setCulvert_cfg _ _ _).trans (setCulvert_cfg _ _ _)
  rw [hop]
  rw [htag] at hset
  generalize setCulvert l (fun c => { c with posted := c.posted ++ [burst l remote data s] }) (nextTag l s) = u at *
  have hsend : ∀ type tag, ((linkSend l type 0 tag remote data.length data u).culvert l).posted = (u.culvert l).posted ∧
      ((linkSend l type 0 tag remote data.length data u).culvert l).state = (u.culvert l).state ∧
      (∀ m, m ≠ l → (linkSend l type 0 tag remote data.length data u).culvert m = u.culvert m) ∧
      (linkSend l type 0 tag remote data.length data u).brg.cfg = u.brg.cfg ∧ OnlyIn [.out, .brg] u (linkSend l type 0 tag remote data.length data u) := fun type tag => by
    have hself : (linkSend l type 0 tag remote data.length data u).culvert l = _ := culvert_setCulvert_self hlt _ u
    exact ⟨by rw [hself], by rw [hself], fun m hm => culvert_setCulvert_ne hlt hm _ u, setCulvert_cfg _ _ _, only_linkSend only_refl⟩
  obtain ⟨hposted, hstate, hother, hcfg, honly⟩ := hsend (if s.npWindow l remote then 2 else 1) (s.culvert l).nextTag
  refine ⟨by rw [hposted, hset], ⟨by rw [hstate, hset, hl.up], ?_⟩, fun m hm => by rw [hother m hm, hsetOther m hm, htagOther m hm], onlyIn_trans hsetOnly honly⟩
  rw [refuses_congr (hcfg.trans hsetCfg) (onlyIn_trans hsetOnly honly)]
  exact hl.claim

/-- The bursts that bytes from an address on make: each follows the one before. -/
structure Bursts (addr : Nat) (bs : List Byte) (ws : List Posted) : Prop where
  data : ws.flatMap (·.data) = bs
  each : ∀ i w, ws[i]? = some w → w.addr = addr + 4096 * i ∧ w.dma = some 1 ∧ w.data.length ≤ 4096

theorem bursts_nil (addr : Nat) : Bursts addr [] [] := ⟨rfl, fun i w h => by simp at h⟩

theorem bursts_cons {addr : Nat} {bs : List Byte} {w : Posted} {ws : List Posted} (hdata : w.data = bs.take 4096) (haddr : w.addr = addr) (hdma : w.dma = some 1)
    (h : Bursts (addr + 4096) (bs.drop 4096) ws) : Bursts addr bs (w :: ws) := by
  refine ⟨?_, fun i x hx => ?_⟩
  · rw [List.flatMap_cons, h.data, hdata, List.take_append_drop]
  · cases i with
    | zero =>
      obtain rfl := Option.some.inj hx
      refine ⟨by rw [haddr, Nat.mul_zero, Nat.add_zero], hdma, ?_⟩
      rw [hdata, List.length_take]
      exact Nat.min_le_left _ _
    | succ i =>
      rw [List.getElem?_cons_succ] at hx
      obtain ⟨hx1, hx2, hx3⟩ := h.each i x hx
      exact ⟨by omega, hx2, hx3⟩

theorem room_eq (h : ∃ ws, (t.culvert l).posted = (s.culvert l).posted ++ ws ∧ ws.length = 1) : t.room l = s.room l - 1 := by
  obtain ⟨ws, hposted, hlen⟩ := h
  rw [State.room, State.room, hposted, List.length_append, hlen]
  omega

theorem dmaBursts_send (n addr : Nat) (bs : List Byte) (s : State) (hl : LinkTakes l s) (hrun : (s.dma 1).state = .running) (hfuel : bs.length ≤ 4096 * n)
    (hroom : bs.length ≤ 4096 * s.room l) :
    (dmaBursts 1 l addr bs n s).1 = bs.length ∧ (∃ ws, ((dmaBursts 1 l addr bs n s).2.culvert l).posted = (s.culvert l).posted ++ ws ∧ Bursts addr bs ws) ∧
    (∀ m, m ≠ l → (dmaBursts 1 l addr bs n s).2.culvert m = s.culvert m) ∧ OnlyIn [.out, .brg] s (dmaBursts 1 l addr bs n s).2 := by
  induction n generalizing addr bs s with
  | zero =>
    obtain rfl := List.length_eq_zero_iff.mp (Nat.le_zero.mp hfuel)
    exact ⟨rfl, ⟨[], (List.append_nil _).symm, bursts_nil addr⟩, fun _ _ => rfl, only_refl⟩
  | succ n ih =>
    by_cases hbs : bs = []
    · subst hbs
      exact ⟨rfl, ⟨[], (List.append_nil _).symm, bursts_nil addr⟩, fun _ _ => rfl, only_refl⟩
    · have hlen : 0 < bs.length := List.length_pos_iff.mpr hbs
      have hsome : s.room l ≠ 0 := by
        intro h
        rw [h] at hroom
        omega
      obtain ⟨hposted, htakes, hother, honly⟩ := linkWrite_sends addr (bs.take 4096) hl hsome
      have hrest := room_eq ⟨_, hposted, rfl⟩
      have hrun' : ((linkWrite l addr 0 0 (some 1) (bs.take 4096) s).dma 1).state = .running := by
        rw [dma_congr (honly.2 .dmas (by decide))]
        exact hrun
      have hop : dmaBursts 1 l addr bs (n + 1) s =
          ((dmaBursts 1 l (addr + 4096) (bs.drop 4096) n (linkWrite l addr 0 0 (some 1) (bs.take 4096) s)).1 + min 4096 bs.length,
            (dmaBursts 1 l (addr + 4096) (bs.drop 4096) n (linkWrite l addr 0 0 (some 1) (bs.take 4096) s)).2) := by
        rw [dmaBursts, if_neg (by simpa using hbs)]
        exact if_pos (by rw [hrun']; rfl)
      rw [hop]
      generalize linkWrite l addr 0 0 (some 1) (bs.take 4096) s = u at *
      have hfits : (bs.drop 4096).length ≤ 4096 * n ∧ (bs.drop 4096).length ≤ 4096 * u.room l := by
        obtain ⟨r, hr⟩ := Nat.exists_eq_succ_of_ne_zero hsome
        rw [hr] at hroom hrest
        rw [List.length_drop, hrest]
        omega
      obtain ⟨hcount, ⟨ws, hws, hbursts⟩, hother', honly'⟩ := ih (addr + 4096) (bs.drop 4096) u htakes hrun' hfits.1 hfits.2
      refine ⟨?_, ⟨burst l addr (bs.take 4096) s :: ws, ?_, bursts_cons rfl rfl rfl hbursts⟩, fun m hm => by rw [hother' m hm, hother m hm], onlyIn_trans honly honly'⟩
      · rw [hcount, List.length_drop]
        omega
      · rw [hws, hposted, List.append_assoc]
        rfl

/-! ### The end of an export, with what follows -/

theorem dmas_expCounted (m e bad : Nat) (s : State) : (expCounted m e bad s).dmas = modAt s.dmas 1 (fun x => { x with done := e }) := rfl

theorem expTaken_of_link (h : fld (s.reg Off.REC_EXP_CFG) 4 3 = l + 1) (hl : l < 2) (n : Nat) :
    s.expTaken n = dmaBursts 1 l (s.expDst + (s.dma 1).done) (s.expBytes n) ((s.expBytes n).length / 4096 + 1) s ∧ s.expRoom = s.room l := by
  unfold State.expTaken State.expRoom
  rw [h]
  obtain rfl | rfl : l = 0 ∨ l = 1 := by omega
  · exact ⟨rfl, rfl⟩
  · exact ⟨rfl, rfl⟩

end

theorem exists_next_exportOverLink (s : State) (l d : Nat) (bs : List Byte) (hwf : RegsWf s) (hruns : s.recRuns = true) (hstate : s.erec.state = .exporting)
    (hdma : 1 < s.dmas.length) (hrunning : (s.dma 1).state = .running) (hd : d = (s.dma 1).done) (hkind : fld (s.reg Off.REC_EXP_CFG) 4 3 = l + 1) (hl : l < 2)
    (hup : (s.culvert l).state = .up) (hclaim : s.refuses l = false) (_hspan : s.expSpan ≤ 65536) (hbs : bs = (s.slotBytes d s.expSpan).take (4096 * s.room l))
    (hmore : d + bs.length < 256 * s.expSpan) :
    ∃ t, exec (.exportEnd 0) s = .next t ∧ t.erec = s.erec ∧ (t.dma 1).state = .running ∧ (t.dma 1).done = d + bs.length ∧
      (t.culvert l).posted.take (s.culvert l).posted.length = (s.culvert l).posted ∧
      ((t.culvert l).posted.drop (s.culvert l).posted.length).flatMap (·.data) = bs ∧
      (∀ x ∈ ((t.culvert l).posted.drop (s.culvert l).posted.length).zipIdx, x.1.addr = s.expDst + d + 4096 * x.2 ∧ x.1.dma = some 1 ∧ x.1.data.length ≤ 4096) ∧
      t.reg Off.REC_EXP_COUNT = BitVec.ofNat 32 ((d + bs.length) / 256) ∧
      (∀ k, k ≠ 1 → t.dma k = s.dma k) ∧ (∀ m, m ≠ l → t.culvert m = s.culvert m) ∧
      RegsOnly [Off.REC_EXP_COUNT, Off.REC_BAD_CRC_CNT, Off.DMA_BYTES_LO, Off.DMA_BYTES_HI] s t ∧ OnlyIn [.regs, .out, .brg, .dmas] s t := by
  obtain ⟨htaken, hroom⟩ := expTaken_of_link hkind hl s.expSpan
  have hbytes : s.expBytes s.expSpan = bs := by rw [State.expBytes, hroom, ← hd, hbs]
  have hfits : bs.length ≤ 4096 * s.room l := by
    rw [hbs, List.length_take]
    exact Nat.min_le_left _ _
  rw [hbytes, ← hd] at htaken
  obtain ⟨hcount, ⟨ws, hws, hbursts⟩, hother, honly⟩ := dmaBursts_send (bs.length / 4096 + 1) (s.expDst + d) bs s ⟨hup, hclaim⟩ hrunning (by omega) hfits
  have hexec := exec_exportEnd (result := 0) hruns hstate
  have hwrite := expWrite_eq s.expSpan s
  rw [htaken, hcount, ← hd] at hwrite
  generalize (dmaBursts 1 l (s.expDst + d) bs (bs.length / 4096 + 1) s).2 = u at *
  have hdmas : u.dmas = s.dmas := honly.2 .dmas (by decide)
  obtain ⟨hself, hselfOther, hreg, _, hregs, hcounts, _⟩ := expCounted_told (s := u) bs.length (d + bs.length) (s.badSlots (d / 256) ((d + bs.length) / 256))
    (regsWf_of_only hwf honly) (by rw [hdmas]; exact hdma)
  rw [← hwrite] at hself hselfOther hreg hregs hcounts
  have hrun : ((expWrite s.expSpan s).dma 1).state = .running := by
    rw [hself, dma_congr hdmas]
    exact hrunning
  have hop : exportEndOp 0 s = expWrite s.expSpan s := by
    unfold exportEndOp
    rw [if_pos rfl]
    dsimp only
    rw [beq_false_of_ne (by rw [hrun]; decide : ((expWrite s.expSpan s).dma 1).state ≠ DmaState.error), if_neg Bool.false_ne_true, if_neg (by simp),
      if_pos (by rw [hself]; exact hmore)]
  rw [hop] at hexec
  generalize expWrite s.expSpan s = t at *
  have hculvert : ∀ m, t.culvert m = u.culvert m := fun m => by
    have hbrg : t.brg = u.brg := hcounts.2 .brg (by decide)
    unfold State.culvert
    rw [hbrg]
  refine ⟨t, hexec, (hcounts.2 .erec (by decide)).trans (honly.2 .erec (by decide)), hrun, by rw [hself], ?_, ?_, ?_, hreg, fun k hk => ?_, fun m hm => ?_, ?_, ?_⟩
  · rw [hculvert, hws, List.take_left]
  · rw [hculvert, hws, List.drop_left]
    exact hbursts.data
  · rw [hculvert, hws, List.drop_left]
    exact fun x hx => hbursts.each _ _ (List.mem_zipIdx_iff_getElem?.mp hx)
  · rw [hselfOther k hk, dma_congr hdmas]
  · rw [hculvert, hother m hm]
  · exact regsOnly_trans (regs_of_only regs_refl honly) hregs
  · exact onlyIn_trans (onlyIn_mono honly (by decide)) (onlyIn_mono hcounts (by decide))

end Sys2Proof.Machine

namespace Sys2Proof.Machine

set_option Elab.async false

/-! ### A clear that follows an export (R503) -/

theorem expBytes_at_end {s : State} {n : Nat} (h : (s.dma 1).done = 256 * n) : s.expBytes n = [] := by
  have hnone : (List.range n).drop n = [] := List.drop_eq_nil_of_le (Nat.le_of_eq List.length_range)
  rw [State.expBytes, State.slotBytes, h, Nat.mul_div_cancel_left n (by decide : 0 < 256), hnone, List.flatMap_nil, List.drop_nil, List.take_nil]

theorem exists_next_exportThenClear (s : State) (kept : Bool) (r p : Item) (hruns : s.recRuns = true) (hstate : s.erec.state = .exporting)
    (hwaits : s.erec.clearWaits = some (kept, [r, p])) (hrunning : (s.dma 1).state = .running) (hdone : (s.dma 1).done = 256 * s.expSpan)
    (hdma : 1 < s.dmas.length) (hkind : fld (s.reg Off.REC_EXP_CFG) 4 3 = 4) :
    ∃ t, exec (.exportEnd 0) s = .next t ∧ t.erec.state = .clearing ∧ t.erec.clearWaits = none ∧ t.nv.nand.clear.map (·.kept) = some kept ∧
      (t.dma 1).state = .done ∧ OnlyIn [.regs, .nv, .icus, .isl, .erec, .dmas] s t := by
  have hexec := exec_exportEnd (result := 0) hruns hstate
  have htaken : s.expTaken s.expSpan = (0, { s with nv := { s.nv with emmc := wrBytes s.nv.emmc (512 * s.expDst + (s.dma 1).done) [] } }) := by
    rw [State.expTaken, expBytes_at_end hdone, hkind]
    rfl
  have hwrite := expWrite_eq s.expSpan s
  rw [htaken] at hwrite
  dsimp only at hwrite
  have hnv : OnlyIn [.nv] s { s with nv := { s.nv with emmc := wrBytes s.nv.emmc (512 * s.expDst + (s.dma 1).done) [] } } := only_mk only_refl
  generalize ({ s with nv := { s.nv with emmc := wrBytes s.nv.emmc (512 * s.expDst + (s.dma 1).done) [] } } : State) = u at *
  have hdmas : u.dmas = s.dmas := hnv.2 .dmas (by decide)
  have hcounted : OnlyIn [.regs, .dmas] u (expWrite s.expSpan s) := by
    rw [hwrite]
    exact only_setReg (only_bumpBy (only_mk (onlyIn_mono (onlyIn_countBytes _ _) (by decide))))
  have hself : (expWrite s.expSpan s).dma 1 = { s.dma 1 with done := (s.dma 1).done + 0 } := by
    rw [hwrite, ← dma_congr hdmas, State.dma, dmas_expCounted]
    exact getD_modAt_self _ _ _ _ (by rw [hdmas]; exact hdma)
  have hlen : 1 < (expWrite s.expSpan s).dmas.length := by
    rw [hwrite, length_expCounted, hdmas]
    exact hdma
  have herec : (expWrite s.expSpan s).erec = s.erec := (hcounted.2 .erec (by decide)).trans (hnv.2 .erec (by decide))
  have hop : exportEndOp 0 s = exportOver 2 0 .done (expWrite s.expSpan s) := by
    unfold exportEndOp
    rw [if_pos rfl]
    dsimp only
    rw [hself]
    dsimp only
    rw [beq_false_of_ne (by rw [hrunning]; decide : (s.dma 1).state ≠ DmaState.error), if_neg Bool.false_ne_true, if_neg (by simp), if_neg (by rw [hdone]; exact Nat.lt_irrefl _)]
  rw [hop, exportOver_of_clear (by rw [herec]; exact hwaits)] at hexec
  have honly : OnlyIn [.regs, .nv, .icus, .isl, .erec, .dmas] s (expWrite s.expSpan s) := onlyIn_trans (onlyIn_mono hnv (by decide)) (onlyIn_mono hcounted (by decide))
  generalize expWrite s.expSpan s = w at *
  obtain ⟨hdone', _⟩ := exportEnded_dma 2 0 .done hlen
  have hended := exportEnded_only 2 0 .done w
  have hendedRec := exportEnded_erec 2 0 .done w
  generalize exportEnded 2 0 .done w = x at *
  obtain ⟨hclearing, _, hnone, hclear, hbegun⟩ := beginClear_begins kept (beNat r.value) p.value x
  refine ⟨_, hexec, hclearing, ?_, hclear, ?_, onlyIn_trans (onlyIn_trans honly (onlyIn_mono hended (by decide))) (onlyIn_mono hbegun (by decide))⟩
  · rw [hnone, hendedRec]
  · rw [dma_congr (hbegun.2 .dmas (by decide)), hdone']

/-! ### An export whose write fails over a link (R445, R454, R505) -/

theorem record_powered (type : Nat) (items : List Item) (s : State) : (record type items s).isl.powered = s.isl.powered := by
  have hreq : ∀ q, (requestRec q s).isl.powered = s.isl.powered := fun q => by
    unfold requestRec
    split
    · split
      · rfl
      · dsimp only
        split
        · rfl
        · rw [raiseIrq_isl]
          rfl
    · split <;> rfl
  unfold record
  split <;> exact hreq _

/-- A failed write of a channel leaves the module running and a clear that waits. -/
theorem failWrite_keeps {l code c : Nat} {w : Posted} {s : State} (h : w.dma = some c) :
    (failWrite l w code s).up = s.up ∧ (failWrite l w code s).erec.clearWaits = s.erec.clearWaits := by
  have hpush : OnlyIn [.regs, .icus, .brg] s (raiseIrq Irq.BRG_WRITE_FAIL (bump Off.BRG_WRITE_FAILS (fifoPushed l w code s))) :=
    only_raiseIrq (only_bump (only_ite (only_raiseIrq (only_bump (only_mk only_refl))) (only_mk only_refl)))
  rw [failWrite_eq, writeFailureTold_of_some h, writeFailureRecorded]
  generalize raiseIrq Irq.BRG_WRITE_FAIL (bump Off.BRG_WRITE_FAILS (fifoPushed l w code s)) = u at *
  have hstop : ∀ v : State, OnlyIn [.regs, .icus, .dmas] v (dmaStop c 3 v) := fun v => only_dmaStop only_refl
  refine ⟨(up_of_only (hstop _)).trans ((up_congr (record_powered _ _ u) ((only_record only_refl : OnlyIn recParts u _).2 .sys (by decide))).trans (up_of_only hpush)), ?_⟩
  rw [(hstop _).2 .erec (by decide), record_erec, hpush.2 .erec (by decide)]

theorem channel_of_error {s : State} (h : (s.dma 1).state = .error) : 1 < s.dmas.length := by
  by_contra hge
  rw [State.dma, List.getD_eq_default _ _ (Nat.le_of_not_lt hge)] at h
  exact absurd h (by decide)

theorem exists_next_exportFails (s : State) (l : Nat) (p : Packet) (w : Posted) (hwf : RegsWf s) (hok : s.packetOk l p = true) (htype : p.type = 7)
    (hopen : s.vot.open_ = []) (hstate : s.erec.state = .exporting) (hwaits : s.erec.clearWaits = none) (_hdma : 1 < s.dmas.length)
    (hrunning : (s.dma 1).state = .running) (hfresh : p.tag ∉ (s.culvert l).failedTags)
    (hfind : (s.culvert l).posted.find? (fun x => x.tag == p.tag) = some w) (hw : w.dma = some 1) :
    ∃ t, exec (.wrError l p) s = .next t ∧ t.erec.state = .ready ∧ (t.dma 1).state = .error ∧ (t.dma 1).error = 3 ∧ Raised Irq.REC_EXPORT_DONE t ∧
      t.reg Off.REC_EXP_STATUS = mkWord [(0, 4), (4, 5), (8, fld (s.reg Off.REC_EXP_STATUS) 8 8)] ∧ (t.culvert l).posted = (s.culvert l).posted.erase w ∧
      OnlyIn (.out :: .vot :: .brg :: .dmas :: recParts) s t := by
  obtain ⟨hfailed, hposted, _, _, ⟨hopen', hstate', hregs⟩, honly⟩ := writeError_of_posted p.code hwf hok hfresh hfind
  obtain ⟨_, hup, hself, _, _, _, _, _, _, htake⟩ := linkTake_link hok
  obtain ⟨_, _, _, _, _, _, _, _, hchannel⟩ := hfailed
  obtain ⟨_, hstopped⟩ := hchannel 1 hw
  obtain ⟨herror, hcause, _⟩ := hstopped hrunning
  have hexec := exec_wrError hok htype
  have hkept : (writeError l p.tag p.code (linkTake l p s)).up = true ∧ (writeError l p.tag p.code (linkTake l p s)).erec.clearWaits = none ∧
      RegsWf (writeError l p.tag p.code (linkTake l p s)) := by
    have herase : OnlyIn [.out, .brg] s (setCulvert l (fun c => { c with posted := c.posted.erase w }) (linkTake l p s)) := only_setCulvert htake
    obtain ⟨hup', hwaits'⟩ := failWrite_keeps (l := l) (code := p.code) (s := setCulvert l (fun c => { c with posted := c.posted.erase w }) (linkTake l p s)) hw
    unfold writeError
    dsimp only
    rw [hself, if_neg (by simpa using hfresh), hfind]
    exact ⟨hup'.trans ((up_of_only herase).trans hup), hwaits'.trans ((congrArg Recorder.clearWaits (herase.2 .erec (by decide))).trans hwaits),
      wf_failWrite (wf_setCulvert (wf_linkTake hwf))⟩
  obtain ⟨hup', hwaits', hwf'⟩ := hkept
  generalize writeError l p.tag p.code (linkTake l p s) = u at *
  obtain ⟨hended, _⟩ := exportEnded_dma 4 5 .error (channel_of_error herror)
  obtain ⟨hstatus, _, hraised⟩ := exportEnded_regs 4 5 .error hwf'
  have hendedOnly := exportEnded_only 4 5 .error u
  have hendedRec := exportEnded_erec 4 5 .error u
  have hover : exportFailed u = exportEnded 4 5 .error u := by
    rw [exportFailed, hstate', hstate, herror, ← exportOver_of_none hwaits']
    rfl
  have hop : afterWrites u = exportEnded 4 5 .error u := by
    rw [afterWrites, hup', when_true, hover, resolveAll_of_none]
    rw [hendedOnly.2 .vot (by decide), hopen', hopen]
  rw [hop] at hexec
  generalize exportEnded 4 5 .error u = t at *
  have hbrg : t.brg = u.brg := hendedOnly.2 .brg (by decide)
  refine ⟨t, hexec, by rw [hendedRec], by rw [hended], by rw [hended]; exact hcause, hraised, ?_, ?_, onlyIn_trans honly (onlyIn_mono hendedOnly (by decide))⟩
  · rw [hstatus, hregs _ (by decide)]
  · rw [← hposted]
    unfold State.culvert
    rw [hbrg]

/-- Settles O53, command by command. -/
theorem clearsAndExports : Obligations.ClearsAndExports :=
  ⟨exists_next_clear, exec_clear_of_role, exists_next_clearComplete, exists_next_exportStart, exists_next_exportLocal, exists_next_exportOverLink,
    exists_next_exportThenClear, exists_next_exportFails⟩

end Sys2Proof.Machine

namespace Sys2Proof.Machine

set_option Elab.async false

/-! ### The server of the service protocol, and what it answers (R485, R487, R488) -/

section
variable {s t u v : State} {p q : Path} {m r : KspMsg} {via : Via}

/-- `u` answers as `s` does, and has not answered more. -/
structure SameServer (s u : State) : Prop where
  ftn : u.ftn = s.ftn
  out : u.out = s.out
  reach : ∀ n ip, u.reachable n ip = s.reachable n ip
  addr : u.ownAddr = s.ownAddr
  on : u.serverOn = s.serverOn

theorem sameServer_refl (s : State) : SameServer s s := ⟨rfl, rfl, fun _ _ => rfl, rfl, rfl⟩

theorem sameServer_trans (h1 : SameServer s t) (h2 : SameServer t u) : SameServer s u :=
  ⟨h2.ftn.trans h1.ftn, h2.out.trans h1.out, fun n ip => (h2.reach n ip).trans (h1.reach n ip), h2.addr.trans h1.addr, h2.on.trans h1.on⟩

theorem kspCfg_congr (hsys : t.sys = s.sys) (hnv : t.nv = s.nv) (hactive : t.ksp.active = s.ksp.active) (i j : Nat) : t.kspCfg i j = s.kspCfg i j := by
  unfold State.kspCfg State.objDflt State.runImage State.typeSlots
  rw [hsys, hnv, hactive]

theorem reachable_congr (hsys : t.sys = s.sys) (hnv : t.nv = s.nv) (hactive : t.ksp.active = s.ksp.active) (hga : t.isl.ga = s.isl.ga) (n : Nat) (ip : Word) :
    t.reachable n ip = s.reachable n ip := by
  unfold State.reachable State.portAddr
  simp only [kspCfg_congr hsys hnv hactive, hga]

theorem serverOn_congr (hsys : t.sys = s.sys) (hpowered : t.isl.powered = s.isl.powered) (hvot : t.vot = s.vot) : t.serverOn = s.serverOn := by
  unfold State.serverOn State.lanesIn State.inVote
  rw [up_congr hpowered hsys, hsys, hvot]

/-- The parts that the server's answers do not rest on, but for the fields named. -/
def offServer : List Part := [.free, .regs, .isl, .icus, .erec, .ksp]

theorem sameServer_of_only (h : OnlyIn offServer s t) (haddr : t.reg Off.FTN_NODE_CFG = s.reg Off.FTN_NODE_CFG) (hactive : t.ksp.active = s.ksp.active)
    (hpowered : t.isl.powered = s.isl.powered) (hga : t.isl.ga = s.isl.ga) : SameServer s t := by
  have hsys : t.sys = s.sys := h.2 .sys (by decide)
  have hnv : t.nv = s.nv := h.2 .nv (by decide)
  exact ⟨h.2 .ftn (by decide), h.2 .out (by decide), reachable_congr hsys hnv hactive hga, congrArg (fun w => fld w 0 14) haddr,
    serverOn_congr hsys hpowered (h.2 .vot (by decide))⟩

theorem sameServer_setKsp {f : Ksp → Ksp} (h : (f s.ksp).active = s.ksp.active) : SameServer s (setKsp f s) :=
  ⟨rfl, rfl, reachable_congr rfl rfl h rfl, rfl, rfl⟩

theorem sameServer_setSession (n : Half) (f : Session → Session) (s : State) : SameServer s (setSession n f s) := sameServer_setKsp rfl

theorem record_ga (type : Nat) (items : List Item) (s : State) : (record type items s).isl.ga = s.isl.ga := by
  have hreq : ∀ q, (requestRec q s).isl.ga = s.isl.ga := fun q => by
    unfold requestRec
    split
    · split
      · rfl
      · dsimp only
        split
        · rfl
        · rw [raiseIrq_isl]
          rfl
    · split <;> rfl
  unfold record
  split <;> exact hreq _

theorem sameServer_record (type : Nat) (items : List Item) (s : State) : SameServer s (record type items s) :=
  sameServer_of_only (only_record only_refl) ((regs_record regs_refl : RegsOnly [Off.REC_LOST_CNT] s _) _ (by decide))
    (congrArg Ksp.active ((only_record only_refl : OnlyIn recParts s (record type items s)).2 .ksp (by decide))) (record_powered type items s) (record_ga type items s)

theorem sameServer_raiseIrq (id : Nat) (s : State) : SameServer s (raiseIrq id s) :=
  sameServer_of_only (only_raiseIrq only_refl) (reg_of_only _ (only_raiseIrq only_refl : OnlyIn [.icus] s _)) (by rw [raiseIrq_ksp]) (by rw [raiseIrq_isl]) (by rw [raiseIrq_isl])

theorem sameServer_sessionEvent (x : Session) (opened : Nat) (s : State) : SameServer s (sessionEvent x opened s) :=
  sameServer_trans (sameServer_record _ _ s) (sameServer_raiseIrq _ _)

theorem queueArb_out (f : Frame) (s : State) : (queueArb f s).out = s.out := by
  unfold queueArb
  split
  · rfl
  · rw [raiseIrq_out, bump_out]

/-- A response leaves as the request's state has it leave. -/
theorem answers_transmit (h : SameServer s u) (hon : s.serverOn = true) : Answers p r s (transmit p r u) := by
  unfold transmit
  refine ⟨fun hk => ?_, fun hk => ?_⟩
  · rw [if_neg (by simpa using hk), h.reach]
    cases s.reachable (p.kind.toNat - 2) p.ipv4
    · exact ⟨h.ftn, by rw [when_false, h.out, if_neg Bool.false_ne_true, List.append_nil]⟩
    · exact ⟨h.ftn, congrArg (· ++ _) h.out⟩
  · rw [if_pos (by rw [hk]; rfl), h.on, hon, when_true]
    refine ⟨(queueArb_out _ u).trans h.out, fun hroom => ?_⟩
    have hframe : kspFrame p r u = kspFrame p r s := by
      unfold kspFrame bareFrame
      rw [h.addr]
    rw [queueArb_of_room (by rw [h.ftn]; exact hroom), hframe, arbQueued, h.ftn]

/-- A response changes nothing of the server itself, of the records and of the other parts. -/
theorem onlyIn_transmit (p : Path) (r : KspMsg) (s : State) : OnlyIn [.regs, .out, .icus, .ftn] s (transmit p r s) := only_transmit only_refl

theorem regs_queueArb (f : Frame) (s : State) : RegsOnly [Off.FTN_ARB_DROP] s (queueArb f s) := regs_ite (regs_mk regs_refl) (regs_raiseIrq (regs_bump regs_refl))

theorem regs_transmit (p : Path) (r : KspMsg) (s : State) : RegsOnly [Off.FTN_ARB_DROP] s (transmit p r s) :=
  regs_ite (regs_when (fun h => regsOnly_trans h (regs_queueArb _ _)) regs_refl) (regs_when (fun h => regs_mk h) regs_refl)

theorem raised_transmit {id : Nat} (h : Raised id s) : Raised id (transmit p r s) :=
  raised_ite (raised_when (fun h => raised_ite (raised_mk h) (raised_raiseIrq_too (raised_bump h))) h) (raised_when (fun h => raised_mk h) h)

theorem transmit_ksp (p : Path) (r : KspMsg) (s : State) : (transmit p r s).ksp = s.ksp := (onlyIn_transmit p r s).2 .ksp (by decide)

end

end Sys2Proof.Machine

namespace Sys2Proof.Machine

set_option Elab.async false

/-! ### How requests arrive (R468 to R471) -/

section
variable {s t u : State} {p : Path} {m r : KspMsg} {via : Via} {x : Session}

theorem serverOn_of_serves (h : s.kspServes p = true) : s.serverOn = true := by
  rw [State.kspServes, Bool.and_eq_true] at h
  exact h.1

theorem kspArrive_of_unserved (c : Bool) (wide f : State → State) (h : s.kspServes p = false ∨ via.passes p = false) : kspArrive c p via m wide f s = s := by
  refine if_pos ?_
  obtain h | h := h
  · rw [h]
    simp
  · rw [h]
    simp

theorem kspArrive_of_bad (wide f : State → State) (hserves : s.kspServes p = true) (hpasses : via.passes p = true)
    (hwaits : ∀ x ∈ s.ksp.sessions, x.waiting = none) (hbad : kspGood m = false) : kspArrive true p via m wide f s = kspDiscard s := by
  unfold kspArrive
  rw [hserves, hpasses, if_neg (by decide), kspService_of_none_waits s hwaits, hbad]
  exact if_pos rfl

theorem kspArrive_of_full (wide f : State → State) (hserves : s.kspServes p = true) (hpasses : via.passes p = true)
    (hwaits : ∀ x ∈ s.ksp.sessions, x.waiting = none) (hgood : kspGood m = true) (hresponse : kspResponse m = false) (hcast : via.bcast = false)
    (hqueue : s.queue = 16) : kspArrive true p via m wide f s = kspRefuse 0x0E p m s := by
  unfold kspArrive
  rw [hserves, hpasses, if_neg (by decide), kspService_of_none_waits s hwaits, hgood, hresponse, hcast]
  exact if_pos hqueue

theorem kspArrive_of_requested (wide f : State → State) (h : Requested false p via m s) : kspArrive true p via m wide f s = f s.taken := by
  obtain ⟨hserves, hpasses, hcast, hgood, hresponse, hqueue, hwaits⟩ := h
  have hroom : s.queue ≠ 16 := by
    have := hqueue.resolve_left Bool.false_ne_true
    omega
  unfold kspArrive
  rw [hserves, hpasses, if_neg (by decide), kspService_of_none_waits s hwaits, hgood, hresponse, hcast]
  exact if_neg hroom

theorem sameServer_of_ksp (h : OnlyIn [.ksp] s t) (hactive : t.ksp.active = s.ksp.active) : SameServer s t := by
  have hisl : t.isl = s.isl := h.2 .isl (by decide)
  exact sameServer_of_only (onlyIn_mono h (by decide)) (reg_of_only _ h) hactive (by rw [hisl]) (by rw [hisl])

theorem onlyIn_taken (s : State) : OnlyIn [.ksp] s s.taken := only_mk only_refl

theorem sameServer_taken (s : State) : SameServer s s.taken := sameServer_of_ksp (onlyIn_taken s) rfl

theorem onlyIn_touched (p : Path) (n : Half) (s : State) : OnlyIn [.ksp] s (s.touched p n) :=
  onlyIn_trans (onlyIn_taken s) (only_mk only_refl)

theorem sameServer_touched (p : Path) (n : Half) (s : State) : SameServer s (s.touched p n) := sameServer_of_ksp (onlyIn_touched p n s) rfl

theorem onlyIn_heard (n : Half) (s : State) : OnlyIn [.ksp] s (s.heard n) := onlyIn_trans (onlyIn_taken s) (only_mk only_refl)

theorem sameServer_heard (n : Half) (s : State) : SameServer s (s.heard n) := sameServer_of_ksp (onlyIn_heard n s) rfl

/-! ### Refusals and answers -/

/-- A refusal that is no BUSY is told, and nothing more. -/
theorem kspRefuse_told (status : Nat) (h : SameServer s u) (hon : s.serverOn = true) (honly : OnlyIn [.ksp] s u) :
    Answers p (kspRespond m m.session status false 0 []) s (kspRefuse status p m u) ∧
    (kspRefuse status p m u).ksp = { u.ksp with busy := if status = 0x0E then u.ksp.busy + 1 else u.ksp.busy } ∧
    RegsOnly [Off.FTN_ARB_DROP] s (kspRefuse status p m u) ∧ OnlyIn answerParts s (kspRefuse status p m u) := by
  have hbusy : SameServer u (when (status == 0x0E) (setKsp fun k => { k with busy := k.busy + 1 }) u) ∧
      OnlyIn [.ksp] u (when (status == 0x0E) (setKsp fun k => { k with busy := k.busy + 1 }) u) ∧
      (when (status == 0x0E) (setKsp fun k => { k with busy := k.busy + 1 }) u).ksp = { u.ksp with busy := if status = 0x0E then u.ksp.busy + 1 else u.ksp.busy } := by
    by_cases hs : status = 0x0E
    · subst hs
      have hset : OnlyIn [.ksp] u (setKsp (fun k => { k with busy := k.busy + 1 }) u) := only_mk only_refl
      exact ⟨sameServer_of_ksp hset rfl, hset, rfl⟩
    · rw [beq_false_of_ne hs, when_false, if_neg hs]
      exact ⟨sameServer_refl u, only_refl, rfl⟩
  obtain ⟨hsame, hbusyOnly, hksp⟩ := hbusy
  rw [kspRefuse]
  generalize when (status == 0x0E) (setKsp fun k => { k with busy := k.busy + 1 }) u = v at *
  have hfirst := onlyIn_trans honly hbusyOnly
  exact ⟨answers_transmit (sameServer_trans h hsame) hon, (transmit_ksp _ _ _).trans hksp, regsOnly_trans (regs_of_only regs_refl hfirst) (regs_transmit _ _ _),
    onlyIn_trans (onlyIn_mono hfirst (by decide)) (onlyIn_mono (onlyIn_transmit _ _ _) (by decide))⟩

/-- The server after an executed request, before its answer leaves. -/
def kspKept (m r : KspMsg) (s : State) : State :=
  when (m.session != 0) (setSession m.session fun x => { x with kept := some (m.trans, r), waiting := none }) (setKsp (fun k => { k with executed := k.executed + 1 }) s)

theorem conclude_eq (p : Path) (m : KspMsg) (status : Nat) (last : Bool) (offset : Nat) (payload : List Byte) (s : State) :
    conclude p m status last offset payload s =
      transmit p (kspRespond m m.session status last offset payload) (kspKept m (kspRespond m m.session status last offset payload) s) := rfl

theorem onlyIn_kspKept (m r : KspMsg) (s : State) : OnlyIn [.ksp] s (kspKept m r s) := only_when (fun h => only_mk h) (only_mk only_refl)

/-- The sessions, of which that of the request keeps its answer. -/
def keptIn (m r : KspMsg) (l : List Session) : List Session :=
  if m.session = 0 then l else l.map fun x => if x.num == m.session then { x with kept := some (m.trans, r), waiting := none } else x

theorem kspKept_ksp (m r : KspMsg) (s : State) : (kspKept m r s).ksp = { s.ksp with executed := s.ksp.executed + 1, sessions := keptIn m r s.ksp.sessions } := by
  unfold kspKept keptIn
  by_cases h : m.session = 0
  · rw [if_pos h, h]
    rfl
  · rw [if_neg h, bne_iff_ne.mpr h]
    rfl

theorem sameServer_kspKept (m r : KspMsg) (s : State) : SameServer s (kspKept m r s) := sameServer_of_ksp (onlyIn_kspKept m r s) (by rw [kspKept_ksp])

theorem keptIn_of_none (m r : KspMsg) {l : List Session} (h : ∀ y ∈ l, y.num ≠ m.session) : keptIn m r l = l := by
  unfold keptIn
  split
  · rfl
  · exact (List.map_congr_left fun y hy => if_neg (by simpa using h y hy)).trans (List.map_id _)

/-! ### Requests of a session (R471, R472, R478, R480) -/

theorem num_of_session (h : s.session p m.session = some x) : x ∈ s.ksp.sessions ∧ x.num = m.session ∧ x.path.same p = true := by
  have hx := List.find?_some h
  rw [Bool.and_eq_true, beq_iff_eq] at hx
  exact ⟨List.mem_of_find?_eq_some h, hx⟩

theorem inSession_of_none (f : Session → State → State) (h : s.session p m.session = none) : inSession p m f s.taken = kspRefuse 9 p m s.taken := by
  unfold inSession
  rw [show s.taken.session p m.session = none from h]

theorem setSession_lastAt (h : x.num = m.session) : setSession x.num (fun y => { y with lastAt := s.now }) s.taken = s.heard m.session := by
  rw [h]
  unfold setSession setKsp State.heard
  simp only [beq_iff_eq]
  rfl

theorem inSession_of_kept (f : Session → State → State) (h : s.session p m.session = some x) (hwaits : x.waiting = none) (hkept : x.kept = some (m.trans, r)) :
    inSession p m f s.taken = transmit p r (s.heard m.session) := by
  obtain ⟨_, hnum, _⟩ := num_of_session h
  unfold inSession
  rw [show s.taken.session p m.session = some x from h]
  dsimp only
  rw [show s.taken.now = s.now from rfl, setSession_lastAt hnum, hwaits, hkept]
  exact if_pos (beq_self_eq_true _)

theorem run_touches (hnum : x.num = m.session) (honly : (s.ksp.sessions.filter fun y => y.num == m.session) = [x]) (hseg : x.segTimedOut = false) :
    setSession x.num (fun y => { y with path := p, segTimedOut := false }) (s.heard m.session) = s.touched p m.session := by
  have hone : ∀ y ∈ s.ksp.sessions, y.num = m.session → y = x := fun y hy hn => by
    have hmem : y ∈ s.ksp.sessions.filter fun y => y.num == m.session := List.mem_filter.mpr ⟨hy, by simpa using hn⟩
    rw [honly] at hmem
    exact List.mem_singleton.mp hmem
  have hmap : (s.heard m.session).ksp.sessions.map (fun y => if y.num == m.session then { y with path := p, segTimedOut := false } else y) =
      s.ksp.sessions.map fun y => if y.num = m.session then { y with lastAt := s.now, path := p } else y := by
    show (s.ksp.sessions.map fun y => if y.num = m.session then { y with lastAt := s.now } else y).map _ = _
    rw [List.map_map]
    refine List.map_congr_left fun y hy => ?_
    by_cases hn : y.num = m.session
    · have hy' : y.segTimedOut = false := by rw [hone y hy hn, hseg]
      simp only [Function.comp, hn, if_pos, beq_self_eq_true]
      rw [← hy']
    · simp only [Function.comp, if_neg hn, beq_iff_eq]
  rw [hnum]
  unfold setSession setKsp
  dsimp only
  rw [hmap]
  rfl

/-- A new request of a session is executed by `f` on the server it has touched. -/
theorem inSession_of_executes (f : Session → State → State) (h : Executes p m x s) (hwaits : x.waiting = none) :
    inSession p m f s.taken = f x (s.touched p m.session) := by
  obtain ⟨_, hx, honly, hkept, hseg, hopen⟩ := h
  obtain ⟨_, hnum, _⟩ := num_of_session hx
  have hadmits : (x.state == .awaitAuth && m.code != 2 && m.code != 3) = false := by
    obtain h | h | h := hopen
    · rw [h]
      rfl
    · rw [h]
      simp
    · rw [h]
      simp
  have hrun : inSession.run p m f x (s.heard m.session) = f x (s.touched p m.session) := by
    unfold inSession.run
    rw [hadmits, if_neg Bool.false_ne_true, run_touches hnum honly hseg, hseg]
    exact if_neg Bool.false_ne_true
  unfold inSession
  rw [show s.taken.session p m.session = some x from hx]
  dsimp only
  rw [show s.taken.now = s.now from rfl, setSession_lastAt hnum, hwaits]
  cases hk : x.kept with
  | none => exact hrun
  | some k =>
    rw [hk] at hkept
    exact (if_neg (by simpa using hkept)).trans hrun

theorem waits_of_requested {wide : Bool} (h : Requested wide p via m s) (hx : s.session p m.session = some x) : x.waiting = none := by
  obtain ⟨_, _, _, _, _, _, hwaits⟩ := h
  exact hwaits x (num_of_session hx).1

end

end Sys2Proof.Machine

namespace Sys2Proof.Machine

set_option Elab.async false

/-! ### Session numbers (R478) -/

section
variable {s t u : State} {p : Path} {m r : KspMsg} {via : Via} {x : Session}

/-- The numbers that a random word offers. -/
def offered (w : Word) : List Half := (List.range 9).map fun k => BitVec.ofNat 16 ((w.toNat + k) % 65534 + 1)

theorem toNat_offered (n : Nat) : (BitVec.ofNat 16 (n % 65534 + 1)).toNat = n % 65534 + 1 := by
  rw [BitVec.toNat_ofNat]
  exact Nat.mod_eq_of_lt (by omega)

theorem nodup_offered (w : Word) : (offered w).Nodup := by
  unfold offered
  refine (List.nodup_map_iff_inj_on List.nodup_range).mpr fun i hi j hj hij => ?_
  have heq := congrArg BitVec.toNat hij
  rw [toNat_offered, toNat_offered] at heq
  rw [List.mem_range] at hi hj
  omega

theorem num_of_offered {w : Word} {n : Half} (h : n ∈ offered w) : n ≠ 0 ∧ n ≠ 0xFFFF := by
  obtain ⟨k, _, rfl⟩ := List.mem_map.mp h
  have hn := toNat_offered (w.toNat + k)
  refine ⟨fun h0 => ?_, fun hf => ?_⟩
  · rw [h0] at hn
    exact absurd hn (by rw [show (0 : Half).toNat = 0 from rfl]; omega)
  · rw [hf] at hn
    exact absurd hn (by rw [show (0xFFFF : Half).toNat = 65535 from rfl]; omega)

/-- With fewer than eight sessions open a free number is found. -/
theorem sessionNum_free (w : Word) (h : s.ksp.sessions.length < 8) :
    s.sessionNum w ≠ 0 ∧ s.sessionNum w ≠ 0xFFFF ∧ ∀ y ∈ s.ksp.sessions, y.num ≠ s.sessionNum w := by
  have hdef : s.sessionNum w = ((offered w).find? fun n => s.ksp.sessions.all fun x => x.num != n).getD 1 := rfl
  cases hfind : (offered w).find? fun n => s.ksp.sessions.all fun x => x.num != n with
  | some n =>
    rw [hdef, hfind]
    obtain ⟨hzero, hmax⟩ := num_of_offered (List.mem_of_find?_eq_some hfind)
    refine ⟨hzero, hmax, fun y hy => ?_⟩
    have hfree := List.find?_some hfind
    simpa using List.all_eq_true.mp hfree y hy
  | none =>
    have hsub : offered w ⊆ s.ksp.sessions.map (·.num) := fun n hn => by
      have hused := List.find?_eq_none.mp hfind n hn
      simp only [List.all_eq_true, bne_iff_ne, not_forall, not_not] at hused
      obtain ⟨y, hy, hnum⟩ := hused
      exact List.mem_map.mpr ⟨y, hy, hnum⟩
    have hlen := ((nodup_offered w).subperm hsub).length_le
    rw [List.length_map, offered, List.length_map, List.length_range] at hlen
    omega

/-! ### OPEN (R478 to R480) -/

/-- The session that an OPEN makes. -/
def newSession (p : Path) (role : Nat) (s : State) : Session :=
  { num := s.sessionNum (Config.freeWord s.free), role := role, state := if 3 ≤ role then .awaitAuth else .open_, path := p,
    nonce := if 3 ≤ role then freeBytes (fresh s).2 64 else List.replicate 64 0, openAt := s.now, lastAt := s.now, kept := none, snapshot := none, seg := none,
    segTimedOut := false, waiting := none, attNonce := [], cursor := none, cursorKept := 0 }

/-- The server with it. -/
def withSession (x : Session) (role : Nat) (s : State) : State :=
  { s with free := s.free + (if 3 ≤ role then 65 else 1)
           ksp := { s.ksp with sessions := s.ksp.sessions ++ [x], opened := s.ksp.opened + 1, executed := s.ksp.executed + 1 } }

/-- The body of the answer. -/
def openBody (x : Session) (role : Nat) (s : State) : List Byte :=
  beBytes 1 role ++ beBytes 1 (if 3 ≤ role then 2 else 1) ++ s.objValue none 0x1200 2 ++ x.nonce ++ beBytes 16 Config.unitId.toNat

theorem openSession_eq (p : Path) (m : KspMsg) (role : Nat) (s : State) : openSession p m role s =
    transmit p (kspRespond m (newSession p role s).num 0 false 0 (openBody (newSession p role s) role s))
      (sessionEvent (newSession p role s) 1 (withSession (newSession p role s) role s)) := by
  unfold openSession newSession withSession openBody
  by_cases h : 3 ≤ role
  · simp only [h, decide_true, if_true]
    rfl
  · simp only [h, decide_false, if_false, Bool.false_eq_true]
    rfl

theorem length_freeBytes (s : State) (n : Nat) : (freeBytes s n).length = n := by
  rw [freeBytes, List.length_map, List.length_range]

theorem onlyIn_sessionEvent (x : Session) (opened : Nat) (s : State) : OnlyIn recParts s (sessionEvent x opened s) := only_sessionEvent only_refl

theorem regs_sessionEvent (x : Session) (opened : Nat) (s : State) : RegsOnly [Off.REC_LOST_CNT] s (sessionEvent x opened s) := regs_raiseIrq (regs_record regs_refl)

theorem raised_sessionEvent (x : Session) (opened : Nat) (s : State) : Raised Irq.KSP_SESSION (sessionEvent x opened s) := raised_raiseIrq _ _ (by decide)

theorem openGate_taken (p : Path) (m : KspMsg) (role : Nat) (s : State) : s.taken.openGate p m role = s.openGate p m role := rfl

/-- What an OPEN that is granted finds. -/
theorem room_of_openGate {role : Nat} (h : s.openGate p m role = 0) : s.ksp.sessions.length < 8 := by
  unfold State.openGate at h
  split at h
  · exact absurd h (by decide)
  split at h
  · exact absurd h (by decide)
  split at h
  · exact absurd h (by decide)
  split at h
  · exact absurd h (by decide)
  · omega

/-- A status of OPEN other than BAD_SESSION says that the request names no session. -/
theorem session_of_openGate {role g : Nat} (h : s.openGate p m role = g) (h9 : g ≠ 9) : m.session = 0 := by
  by_contra hne
  exact h9 (h.symm.trans (if_pos (bne_iff_ne.mpr hne)))

theorem exec_kspOpen (h : Requested false p via m s) (hcode : m.code = 1) : exec (.kspOpen p via m) s = .next (openReq p m s.taken) := by
  refine congrArg Host.Outcome.next ?_
  rw [hcode]
  exact kspArrive_of_requested _ _ h

theorem onlyIn_conclude (p : Path) (m : KspMsg) (status : Nat) (s : State) : OnlyIn answerParts s (concludeStatus p m status s) := only_conclude only_refl

/-- An executed request without a session is told. -/
theorem conclude_told {status offset : Nat} {last : Bool} {payload : List Byte} (h : SameServer s u) (hon : s.serverOn = true) :
    Answers p (kspRespond m m.session status last offset payload) s (conclude p m status last offset payload u) ∧
    (conclude p m status last offset payload u).ksp = { u.ksp with
      executed := u.ksp.executed + 1, sessions := keptIn m (kspRespond m m.session status last offset payload) u.ksp.sessions } ∧
    RegsOnly [Off.FTN_ARB_DROP] u (conclude p m status last offset payload u) ∧ OnlyIn answerParts u (conclude p m status last offset payload u) := by
  have hkept := onlyIn_kspKept m (kspRespond m m.session status last offset payload) u
  have hsame := sameServer_kspKept m (kspRespond m m.session status last offset payload) u
  have hksp := kspKept_ksp m (kspRespond m m.session status last offset payload) u
  rw [conclude_eq]
  generalize kspKept m (kspRespond m m.session status last offset payload) u = v at *
  exact ⟨answers_transmit (sameServer_trans h hsame) hon, (transmit_ksp _ _ _).trans hksp, regsOnly_trans (regs_of_only regs_refl hkept) (regs_transmit _ _ _),
    onlyIn_trans (onlyIn_mono hkept (by decide)) (onlyIn_mono (onlyIn_transmit _ _ _) (by decide))⟩

theorem raised_conclude {id status offset : Nat} {last : Bool} {payload : List Byte} (h : Raised id u) : Raised id (conclude p m status last offset payload u) := by
  rw [conclude_eq]
  exact raised_transmit (raised_of_only h (onlyIn_kspKept _ _ u))

theorem recorded_transmit {type : Nat} {items : List Item} (h : Recorded type items s u) : Recorded type items s (transmit p r u) :=
  recorded_after h (onlyIn_transmit p r u)

theorem onlyIn_withSession (x : Session) (role : Nat) (s : State) : OnlyIn [.free, .ksp] s (withSession x role s) := only_mk only_refl

theorem withSession_fields (x : Session) (role : Nat) (s : State) : (withSession x role s).free = s.free + (if 3 ≤ role then 65 else 1) ∧
    (withSession x role s).ksp = { s.ksp with sessions := s.ksp.sessions ++ [x], opened := s.ksp.opened + 1, executed := s.ksp.executed + 1 } ∧
    (withSession x role s).isl = s.isl ∧ (withSession x role s).regs = s.regs := ⟨rfl, rfl, rfl, rfl⟩

theorem sameServer_withSession (x : Session) (role : Nat) (s : State) : SameServer s (withSession x role s) := by
  obtain ⟨_, hksp, hisl, _⟩ := withSession_fields x role s
  have honly := onlyIn_withSession x role s
  exact sameServer_of_only (onlyIn_mono honly (by decide)) (reg_of_only _ honly) (by rw [hksp]) (by rw [hisl]) (by rw [hisl])

theorem newSession_fields (p : Path) (role : Nat) (s : State) : (newSession p role s).role = role ∧ (newSession p role s).path = p ∧
    (newSession p role s).state = (if 3 ≤ role then .awaitAuth else .open_) ∧ (newSession p role s).openAt = s.now ∧ (newSession p role s).lastAt = s.now ∧
    (newSession p role s).kept = none ∧ (newSession p role s).num = s.sessionNum (Config.freeWord s.free) := ⟨rfl, rfl, rfl, rfl, rfl, rfl, rfl⟩

theorem newSession_nonce (p : Path) (role : Nat) (s : State) : (newSession p role s).nonce.length = 64 ∧
    (role < 3 → ∀ b ∈ (newSession p role s).nonce, b = 0) := by
  unfold newSession
  dsimp only
  refine ⟨?_, fun h b hb => ?_⟩
  · split
    · exact length_freeBytes _ _
    · exact List.length_replicate
  · rw [if_neg (by omega)] at hb
    exact List.eq_of_mem_replicate hb

end

theorem exists_next_kspOpen (s : State) (p : Path) (via : Via) (m : KspMsg) (role : Nat) (hreq : Requested false p via m s) (hcode : m.code = 1)
    (hrole : role = beAt m.payload 0 1) :
    (s.openGate p m role = 0 → ∃ t x, exec (.kspOpen p via m) s = .next t ∧ x.role = role ∧ x.path = p ∧ x.state = (if 3 ≤ role then .awaitAuth else .open_) ∧
      x.num ≠ 0 ∧ x.num ≠ 0xFFFF ∧ (∀ y ∈ s.ksp.sessions, y.num ≠ x.num) ∧ x.openAt = s.now ∧ x.lastAt = s.now ∧ x.kept = none ∧ x.nonce.length = 64 ∧
      (role < 3 → ∀ b ∈ x.nonce, b = 0) ∧ t.free = s.free + (if 3 ≤ role then 65 else 1) ∧
      t.ksp = { s.taken.ksp with sessions := s.ksp.sessions ++ [x], opened := s.ksp.opened + 1, executed := s.ksp.executed + 1 } ∧
      Answers p (kspRespond m x.num 0 false 0 (beBytes 1 role ++ beBytes 1 (if 3 ≤ role then 2 else 1) ++ s.objValue none 0x1200 2 ++ x.nonce ++ beBytes 16 Config.unitId.toNat)) s t ∧
      Recorded 0x0D04 [iU8 1 role, iOct 2 (pathBytes p), iU8 3 1] s t ∧ Raised Irq.KSP_SESSION t ∧
      RegsOnly [Off.REC_LOST_CNT, Off.FTN_ARB_DROP] s t ∧ OnlyIn (.free :: .out :: .ftn :: .ksp :: recParts) s t) ∧
    (∀ g, s.openGate p m role = g → g ≠ 0 → ∃ t, exec (.kspOpen p via m) s = .next t ∧ Answers p (kspRespond m m.session g false 0 []) s t ∧
      t.ksp = { s.taken.ksp with executed := if g = 9 ∨ g = 0x0E then s.ksp.executed else s.ksp.executed + 1, busy := if g = 0x0E then s.ksp.busy + 1 else s.ksp.busy } ∧
      RegsOnly [Off.FTN_ARB_DROP] s t ∧ OnlyIn answerParts s t) := by
  have hexec := exec_kspOpen hreq hcode
  have hon := serverOn_of_serves hreq.1
  have hgate : openReq p m s.taken = match s.openGate p m role with
      | 0 => openSession p m role s.taken
      | 9 => kspRefuse 9 p m s.taken
      | 0x0E => kspRefuse 0x0E p m s.taken
      | g => concludeStatus p m g s.taken := by rw [hrole]; rfl
  rw [hgate] at hexec
  refine ⟨fun hg => ?_, fun g hg hne => ?_⟩
  · rw [hg] at hexec
    replace hexec := hexec.trans (congrArg _ (openSession_eq p m role s.taken))
    obtain ⟨hxRole, hxPath, hxState, hxOpen, hxLast, hxKept, hxNum⟩ := newSession_fields p role s.taken
    obtain ⟨hnonce, hzeros⟩ := newSession_nonce p role s.taken
    obtain ⟨hzero, hmax, hfree⟩ := sessionNum_free (s := s.taken) (Config.freeWord s.taken.free) (room_of_openGate hg)
    have hbody : openBody (newSession p role s.taken) role s.taken = beBytes 1 role ++ beBytes 1 (if 3 ≤ role then 2 else 1) ++ s.objValue none 0x1200 2 ++
        (newSession p role s.taken).nonce ++ beBytes 16 Config.unitId.toNat := rfl
    rw [hbody] at hexec
    rw [← hxNum] at hzero hmax hfree
    generalize newSession p role s.taken = x at *
    have htaken := onlyIn_taken s
    obtain ⟨hvFree, hvKsp, _, _⟩ := withSession_fields x role s.taken
    have hv := onlyIn_trans (onlyIn_mono htaken (by decide)) (onlyIn_withSession x role s.taken)
    have hvSame := sameServer_trans (sameServer_taken s) (sameServer_withSession x role s.taken)
    generalize withSession x role s.taken = v at *
    have htold : Recorded 0x0D04 [iU8 1 x.role, iOct 2 (pathBytes x.path), iU8 3 1] s (sessionEvent x 1 v) :=
      recorded_after (P := [.icus]) (recorded_record_of hv) (only_raiseIrq only_refl)
    rw [hxRole, hxPath] at htold
    have hw := onlyIn_sessionEvent x 1 v
    have hwSame := sameServer_trans hvSame (sameServer_sessionEvent x 1 v)
    have hwRegs := regs_sessionEvent x 1 v
    have hwRaised := raised_sessionEvent x 1 v
    generalize sessionEvent x 1 v = w at *
    have hlast := onlyIn_transmit p (kspRespond m x.num 0 false 0 (beBytes 1 role ++ beBytes 1 (if 3 ≤ role then 2 else 1) ++ s.objValue none 0x1200 2 ++ x.nonce ++
      beBytes 16 Config.unitId.toNat)) w
    refine ⟨_, x, hexec, hxRole, hxPath, hxState, hzero, hmax, hfree, hxOpen, hxLast, hxKept, hnonce, hzeros, ?_, ?_, answers_transmit hwSame hon, ?_, raised_transmit hwRaised, ?_, ?_⟩
    · rw [hlast.2 .free (by decide), hw.2 .free (by decide), hvFree]
      rfl
    · rw [transmit_ksp, hw.2 .ksp (by decide), hvKsp]
      rfl
    · exact recorded_transmit htold
    · exact regs_via (regs_via (regs_of_only regs_refl hv) (by decide) fun _ h => regsOnly_trans h hwRegs : RegsOnly _ s w) (by decide)
        fun _ h => regsOnly_trans h (regs_transmit _ _ _)
    · exact onlyIn_trans (onlyIn_trans (onlyIn_mono hv (by decide)) (onlyIn_mono hw (by decide))) (onlyIn_mono hlast (by decide))
  · by_cases hrefused : g = 9 ∨ g = 0x0E
    · have hop : exec (.kspOpen p via m) s = .next (kspRefuse g p m s.taken) := by
        rw [hexec, hg]
        obtain rfl | rfl := hrefused
        · rfl
        · rfl
      obtain ⟨hans, hksp, hregs, honly⟩ := kspRefuse_told (m := m) (p := p) g (sameServer_taken s) hon (onlyIn_taken s)
      refine ⟨_, hop, hans, ?_, hregs, honly⟩
      rw [hksp, if_pos hrefused]
      rfl
    · obtain ⟨h9, hE⟩ := not_or.mp hrefused
      have hop : exec (.kspOpen p via m) s = .next (concludeStatus p m g s.taken) := by
        rw [hexec, hg]
        split
        · exact absurd rfl hne
        · exact absurd rfl h9
        · exact absurd rfl hE
        · rfl
      obtain ⟨hans, hksp, hregs, honly⟩ := conclude_told (m := m) (p := p) (status := g) (last := false) (offset := 0) (payload := []) (sameServer_taken s) hon
      refine ⟨_, hop, hans, ?_, regsOnly_trans (regs_of_only regs_refl (onlyIn_taken s)) hregs, onlyIn_trans (onlyIn_mono (onlyIn_taken s) (by decide)) honly⟩
      rw [concludeStatus, hksp, keptIn, if_pos (session_of_openGate hg h9), if_neg hrefused, if_neg hE]
      rfl

end Sys2Proof.Machine

namespace Sys2Proof.Machine

set_option Elab.async false

/-! ### Sessions that end (R482, R484) -/

section
variable {s t u : State} {p q : Path} {m r : KspMsg} {via : Via} {x y : Session} {n : Half}

/-- The sessions without those that `f` picks. -/
def sessionsLeft (f : Session → Bool) (s : State) : State := { s with ksp := { s.ksp with sessions := s.ksp.sessions.filter fun x => !f x } }

theorem endSessions_one {f : Session → Bool} (h : s.ksp.sessions.filter f = [y]) : endSessions f s = sessionEvent y 0 (sessionsLeft f s) := by
  unfold endSessions
  rw [h]
  rfl

theorem onlyIn_sessionsLeft (f : Session → Bool) (s : State) : OnlyIn [.ksp] s (sessionsLeft f s) := only_mk only_refl

theorem sessionsLeft_fields (f : Session → Bool) (s : State) : (sessionsLeft f s).ksp = { s.ksp with sessions := s.ksp.sessions.filter fun x => !f x } := rfl

theorem bound_same (p q : Path) : p.bound.same q = p.same q := rfl

/-- Two paths that are one have one descriptor. -/
theorem pathBytes_of_same (h : p.same q = true) : pathBytes p = pathBytes q := by
  have hb : p.bound = q.bound := by simpa [Path.same] using h
  have hkind : p.kind = q.kind := (congrArg Path.kind hb :)
  have hsource : p.source = q.source := (congrArg Path.source hb :)
  have hip : p.ipv4 = q.ipv4 := (congrArg Path.ipv4 hb :)
  rw [pathBytes, pathBytes, hkind, hsource, hip]

/-- A session after a request of session `n` on path `p` at the instant `now`. -/
def touch (now : Nat) (p : Path) (n : Half) (y : Session) : Session := if y.num = n then { y with lastAt := now, path := p } else y

theorem touch_num (now : Nat) (p : Path) (n : Half) (y : Session) : (touch now p n y).num = y.num := by
  unfold touch
  split <;> rfl

/-- The sessions after it. -/
def touchedIn (now : Nat) (p : Path) (n : Half) (l : List Session) : List Session := l.map (touch now p n)

theorem touched_ksp (p : Path) (n : Half) (s : State) : (s.touched p n).ksp = { s.taken.ksp with sessions := touchedIn s.now p n s.ksp.sessions } := rfl

theorem filter_touchedIn (now : Nat) (p : Path) (n : Half) (l : List Session) :
    (touchedIn now p n l).filter (fun y => y.num == n) = (l.filter fun y => y.num == n).map (fun y => { y with lastAt := now, path := p }) ∧
    (touchedIn now p n l).filter (fun y => !(y.num == n)) = l.filter fun y => y.num != n := by
  have hin : (fun y : Session => y.num == n) ∘ touch now p n = fun y => y.num == n := funext fun y => congrArg (· == n) (touch_num now p n y)
  have hout : (fun y : Session => !(y.num == n)) ∘ touch now p n = fun y => y.num != n := funext fun y => congrArg (! · == n) (touch_num now p n y)
  rw [touchedIn, List.filter_map, List.filter_map, hin, hout]
  refine ⟨List.map_congr_left fun y hy => ?_, (List.map_congr_left fun y hy => ?_).trans (List.map_id _)⟩
  · exact if_pos (by simpa using (List.mem_filter.mp hy).2)
  · exact if_neg (by simpa using (List.mem_filter.mp hy).2)

/-! ### Requests that are executed (R470, R472) -/

theorem concluded_of {f : Session → Session} {status offset : Nat} {last : Bool} {payload : List Byte} (hne : m.session ≠ 0) (hf : ∀ y, (f y).num = y.num)
    (hu : u.ksp = { s.taken.ksp with sessions := s.ksp.sessions.map fun y => if y.num = m.session then f { y with lastAt := s.now, path := p } else y })
    (hsame : SameServer s u) (hon : s.serverOn = true) :
    Concluded p m (kspRespond m m.session status last offset payload) f s.ksp s (conclude p m status last offset payload u) := by
  obtain ⟨hans, hksp, _⟩ := conclude_told (m := m) (p := p) (status := status) (last := last) (offset := offset) (payload := payload) hsame hon
  refine ⟨hans, ?_⟩
  have hmap : keptIn m (kspRespond m m.session status last offset payload) u.ksp.sessions = s.ksp.sessions.map fun y =>
      if y.num = m.session then { f { y with lastAt := s.now, path := p } with kept := some (m.trans, kspRespond m m.session status last offset payload), waiting := none } else y := by
    rw [hu, keptIn, if_neg hne]
    show (s.ksp.sessions.map _).map _ = _
    rw [List.map_map]
    refine List.map_congr_left fun y _ => ?_
    by_cases hn : y.num = m.session
    · have hfn : (f { y with lastAt := s.now, path := p }).num = m.session := (hf _).trans hn
      simp only [Function.comp, if_pos hn, beq_iff_eq, if_pos hfn]
    · simp only [Function.comp, if_neg hn, beq_iff_eq]
  rw [hksp, hmap, hu]
  rfl

theorem onlyIn_concluded {status offset : Nat} {last : Bool} {payload : List Byte} (hsame : SameServer s u) (hon : s.serverOn = true) (h : OnlyIn [.ksp] s u) :
    RegsOnly [Off.FTN_ARB_DROP] s (conclude p m status last offset payload u) ∧ OnlyIn answerParts s (conclude p m status last offset payload u) := by
  obtain ⟨_, _, hregs, honly⟩ := conclude_told (m := m) (p := p) (status := status) (last := last) (offset := offset) (payload := payload) hsame hon
  exact ⟨regsOnly_trans (regs_of_only regs_refl h) hregs, onlyIn_trans (onlyIn_mono h (by decide)) honly⟩

/-! ### AUTH (R481 to R483) -/

theorem exec_kspAuth (h : Requested false p via m s) (hx : Executes p m x s) (hcode : m.code = 2) :
    exec (.kspAuth p via m) s = .next (authReq p m x (s.touched p m.session)) := by
  refine congrArg Host.Outcome.next ?_
  rw [hcode]
  exact (kspArrive_of_requested _ _ h).trans (inSession_of_executes _ hx (waits_of_requested h hx.2.1))

/-- The signature of an AUTH holds under the key of its slot. -/
def authOk (m : KspMsg) (x : Session) (s : State) : Bool :=
  match s.roleKey x.role (beAt m.payload 0 1) with
  | some k => Config.pssVerify k (authBytes x) (m.payload.drop 4)
  | none => false

theorem authReq_of_awaiting (hstate : x.state = .awaitAuth) (hlen : m.payload.length = 516) :
    authReq p m x s = if authOk m x s then concludeStatus p m 0 (setSession x.num (fun y => { y with state := .open_ }) s) else authFailed p m x s := by
  unfold authReq authOk
  rw [hstate, hlen, if_neg (by decide), if_neg (by decide)]
  cases s.roleKey x.role (beAt m.payload 0 1) with
  | none => rfl
  | some k => rfl

/-- The failures of a path within a minute. -/
def recentFails (p : Path) (s : State) : List Nat := (s.now :: (s.lockout p).fails).filter fun a => decide (s.now ≤ a + 60000000000)

/-- Its lockout after one more. -/
def lockoutAfter (p : Path) (s : State) : Lockout :=
  if 3 ≤ (recentFails p s).length then ⟨p.bound, [], some (s.now + 300000000000)⟩ else ⟨p.bound, recentFails p s, (s.lockout p).till⟩

theorem lockoutAfter_fields (p : Path) (s : State) : (lockoutAfter p s).path = p.bound ∧
    (lockoutAfter p s).till = if 3 ≤ (recentFails p s).length then some (s.now + 300000000000) else (s.lockout p).till := by
  unfold lockoutAfter
  split
  · exact ⟨rfl, rfl⟩
  · exact ⟨rfl, rfl⟩

/-- A failed AUTH is counted and told. -/
def authTold (p : Path) (role : Nat) (s : State) : State :=
  raiseIrq Irq.KSP_SESSION (record 0x0D03 [iOct 1 (pathBytes p), iU8 2 role] (setKsp (fun k => { k with authFails := k.authFails + 1 }) s))

theorem authFailed_eq (p : Path) (m : KspMsg) (x : Session) (s : State) : authFailed p m x s =
    concludeStatus p m 0x0C (putLockout (lockoutAfter p s) (authTold p x.role (endSessions (fun y => y.num == x.num) s))) := rfl

theorem lockout_putLockout {l : Lockout} (h : l.path = p.bound) :
    (putLockout l s).lockout p = l ∧ ∀ q, p.same q = false → (putLockout l s).lockout q = s.lockout q := by
  have hlist : (putLockout l s).ksp.lockouts = l :: s.ksp.lockouts.filter fun x => !x.path.same l.path := rfl
  refine ⟨?_, fun q hq => ?_⟩
  · have hself : l.path.same p = true := by
      rw [h, bound_same]
      exact beq_self_eq_true _
    rw [State.lockout, hlist, List.find?_cons, hself]
    rfl
  · have hother : l.path.same q = false := by rw [h, bound_same, hq]
    have hrest : (fun x : Lockout => decide ((!x.path.same l.path) = true ∧ x.path.same q = true)) = fun x => x.path.same q := by
      funext x
      by_cases hx : x.path.same q = true
      · have hne : x.path.same l.path = false := by
          rw [h, Path.same, beq_eq_false_iff_ne]
          rw [Path.same, beq_iff_eq] at hx
          rw [Path.same, beq_eq_false_iff_ne] at hq
          exact fun hp => hq (hp.symm.trans hx)
        rw [hx]
        exact decide_eq_true ⟨by rw [hne]; rfl, rfl⟩
      · rw [Bool.eq_false_of_not_eq_true hx]
        exact decide_eq_false fun hp => Bool.false_ne_true hp.2
    rw [State.lockout, hlist, List.find?_cons, hother, List.find?_filter, hrest]
    rfl

theorem mem_queue_record {q : RecReq} (type : Nat) (items : List Item) (h : q ∈ s.erec.queue) : q ∈ (record type items s).erec.queue := by
  unfold record
  split <;> exact mem_queue_requestRec _ h

theorem inQueue_of_recorded {type : Nat} {items : List Item} (h : Recorded type items s t) : InQueue type items s t := by
  intro hup hroom
  obtain ⟨q, hq, htype, hitems, _⟩ := h.1 hup (by omega)
  exact ⟨q, by rw [hq]; exact List.mem_append_right _ (List.mem_singleton_self q), htype, hitems⟩

/-- What a record that comes later leaves in the queue. -/
theorem inQueue_then_record {type : Nat} {items : List Item} (type' : Nat) (items' : List Item) (h : InQueue type items s t) :
    InQueue type items s (record type' items' t) := by
  intro hup hroom
  obtain ⟨q, hq, hrest⟩ := h hup hroom
  exact ⟨q, mem_queue_record type' items' hq, hrest⟩

theorem inQueue_of_only {P : List Part} {type : Nat} {items : List Item} (h : InQueue type items s t) (ht : OnlyIn P t u) (hP : Part.erec ∉ P := by decide) :
    InQueue type items s u := inQueue_of_queue h (congrArg Recorder.queue (ht.2 .erec hP))

/-- The end of the one session of a number. -/
theorem endSessions_told (hone : s.ksp.sessions.filter (fun z => z.num == n) = [y]) :
    (endSessions (fun z => z.num == n) s).ksp = { s.ksp with sessions := s.ksp.sessions.filter fun z => !(z.num == n) } ∧
    Recorded 0x0D04 [iU8 1 y.role, iOct 2 (pathBytes y.path), iU8 3 0] s (endSessions (fun z => z.num == n) s) ∧
    (endSessions (fun z => z.num == n) s).erec.queue.length ≤ s.erec.queue.length + 1 ∧ (endSessions (fun z => z.num == n) s).recUp = s.recUp ∧
    SameServer s (endSessions (fun z => z.num == n) s) ∧ Raised Irq.KSP_SESSION (endSessions (fun z => z.num == n) s) ∧
    RegsOnly [Off.REC_LOST_CNT] s (endSessions (fun z => z.num == n) s) ∧ OnlyIn (.ksp :: recParts) s (endSessions (fun z => z.num == n) s) := by
  have hleft := onlyIn_sessionsLeft (fun z => z.num == n) s
  have hksp := sessionsLeft_fields (fun z => z.num == n) s
  rw [endSessions_one hone]
  have hleftSame : SameServer s (sessionsLeft (fun z => z.num == n) s) := sameServer_of_ksp hleft rfl
  generalize sessionsLeft (fun z => z.num == n) s = v at *
  have hevent := onlyIn_sessionEvent y 0 v
  have hirq : OnlyIn [.icus] (record 0x0D04 [iU8 1 y.role, iOct 2 (pathBytes y.path), iU8 3 0] v) (sessionEvent y 0 v) := only_raiseIrq only_refl
  have herec : v.erec = s.erec := hleft.2 .erec (by decide)
  refine ⟨(hevent.2 .ksp (by decide)).trans hksp, recorded_after (recorded_record_of hleft) hirq, ?_, ?_, sameServer_trans hleftSame (sameServer_sessionEvent _ _ _),
    raised_sessionEvent _ _ _, regsOnly_trans (regs_of_only regs_refl hleft) (regs_sessionEvent _ _ _), onlyIn_trans (onlyIn_mono hleft (by decide)) (onlyIn_mono hevent (by decide))⟩
  · rw [hirq.2 .erec (by decide), ← herec]
    exact queue_record_le _ _ v
  · rw [recUp_of_only hirq, recUp_record, recUp_of_only hleft]

end

end Sys2Proof.Machine

namespace Sys2Proof.Machine

set_option Elab.async false

section
variable {s t u v : State} {p q : Path} {m r : KspMsg} {via : Via} {x y : Session} {n : Half}

/-! ### A failed AUTH (R482, R483) -/

theorem authTold_told (p : Path) (role : Nat) (h : v.recUp = s.recUp) (hlen : v.erec.queue.length ≤ s.erec.queue.length + 1) :
    (authTold p role v).ksp = { v.ksp with authFails := v.ksp.authFails + 1 } ∧ InQueue 0x0D03 [iOct 1 (pathBytes p), iU8 2 role] s (authTold p role v) ∧
    (∀ type items, InQueue type items s v → InQueue type items s (authTold p role v)) ∧ SameServer v (authTold p role v) ∧
    Raised Irq.KSP_SESSION (authTold p role v) ∧ RegsOnly [Off.REC_LOST_CNT] v (authTold p role v) ∧ OnlyIn (.ksp :: recParts) v (authTold p role v) := by
  have hcount : OnlyIn [.ksp] v (setKsp (fun k => { k with authFails := k.authFails + 1 }) v) := only_mk only_refl
  have hcountKsp : (setKsp (fun k => { k with authFails := k.authFails + 1 }) v).ksp = { v.ksp with authFails := v.ksp.authFails + 1 } := rfl
  rw [authTold]
  generalize setKsp (fun k => { k with authFails := k.authFails + 1 }) v = w at *
  have hrec : OnlyIn recParts w (record 0x0D03 [iOct 1 (pathBytes p), iU8 2 role] w) := only_record only_refl
  have hqueue : w.erec = v.erec := hcount.2 .erec (by decide)
  have hin : InQueue 0x0D03 [iOct 1 (pathBytes p), iU8 2 role] s (record 0x0D03 [iOct 1 (pathBytes p), iU8 2 role] w) :=
    inQueue_record ((recUp_of_only hcount).trans h) (by rw [hqueue]; omega)
  have hirq : OnlyIn [.icus] _ (raiseIrq Irq.KSP_SESSION (record 0x0D03 [iOct 1 (pathBytes p), iU8 2 role] w)) := only_raiseIrq only_refl
  exact ⟨(hirq.2 .ksp (by decide)).trans ((hrec.2 .ksp (by decide)).trans hcountKsp), inQueue_of_only hin hirq,
    fun type items h => inQueue_of_only (inQueue_then_record _ _ (inQueue_of_only h hcount)) hirq,
    sameServer_trans (sameServer_of_ksp hcount (by rw [hcountKsp])) (sameServer_trans (sameServer_record _ _ w) (sameServer_raiseIrq _ _)),
    raised_raiseIrq _ _ (by decide), regs_raiseIrq (regs_record (regs_of_only regs_refl hcount)),
    onlyIn_trans (onlyIn_mono hcount (by decide)) (onlyIn_trans (onlyIn_mono hrec (by decide)) (onlyIn_mono hirq (by decide)))⟩

theorem onlyIn_putLockout (l : Lockout) (s : State) : OnlyIn [.ksp] s (putLockout l s) := only_mk only_refl

theorem putLockout_ksp (l : Lockout) (s : State) :
    (putLockout l s).ksp = { s.ksp with lockouts := l :: s.ksp.lockouts.filter fun x => !x.path.same l.path } := rfl

theorem lockout_congr (h : t.ksp.lockouts = s.ksp.lockouts) (q : Path) : t.lockout q = s.lockout q := by rw [State.lockout, h]; rfl

/-- The one session of the request's number, as its request finds it. -/
theorem sessions_touched (h : Executes p m x s) : (s.touched p m.session).ksp.sessions.filter (fun y => y.num == m.session) = [{ x with lastAt := s.now, path := p }] ∧
    (s.touched p m.session).ksp.sessions.filter (fun y => !(y.num == m.session)) = s.ksp.sessions.filter fun y => y.num != m.session := by
  obtain ⟨_, _, hone, _⟩ := h
  obtain ⟨hin, hout⟩ := filter_touchedIn s.now p m.session s.ksp.sessions
  rw [hone] at hin
  exact ⟨hin, hout⟩

/-- What the end of a request's own session leaves. -/
theorem sessionEnds_told (h : Executes p m x s) :
    let v := endSessions (fun y => y.num == m.session) (s.touched p m.session)
    v.ksp = { s.taken.ksp with sessions := s.ksp.sessions.filter fun y => y.num != m.session } ∧
    Recorded 0x0D04 [iU8 1 x.role, iOct 2 (pathBytes x.path), iU8 3 0] s v ∧ v.erec.queue.length ≤ s.erec.queue.length + 1 ∧ v.recUp = s.recUp ∧
    SameServer s v ∧ Raised Irq.KSP_SESSION v ∧ RegsOnly [Off.REC_LOST_CNT] s v ∧ OnlyIn (.ksp :: recParts) s v := by
  obtain ⟨hone, hrest⟩ := sessions_touched h
  obtain ⟨_, _, hpath⟩ := num_of_session h.2.1
  have htouch := onlyIn_touched p m.session s
  have htouchSame := sameServer_touched p m.session s
  have htouchKsp := touched_ksp p m.session s
  dsimp only
  generalize s.touched p m.session = w at *
  obtain ⟨hksp, hrec, hlen, hrecUp, hsame, hraised, hregs, honly⟩ := endSessions_told hone
  have herec : w.erec = s.erec := htouch.2 .erec (by decide)
  have hpathEq : pathBytes x.path = pathBytes p := pathBytes_of_same hpath
  refine ⟨?_, ?_, by rw [← herec]; exact hlen, hrecUp.trans (recUp_of_only htouch), sameServer_trans htouchSame hsame, hraised,
    regsOnly_trans (regs_of_only regs_refl htouch) hregs, onlyIn_trans (onlyIn_mono htouch (by decide)) honly⟩
  · rw [hksp, hrest, htouchKsp]
  · rw [hpathEq]
    exact recorded_before hrec htouch

/-- A session whose AUTH has failed is gone. -/
theorem authFailed_told (h : Executes p m x s) (hon : s.serverOn = true) :
    let t := authFailed p m x (s.touched p m.session)
    (t.ksp.sessions = s.ksp.sessions.filter fun y => y.num != m.session) ∧ Answers p (kspRespond m m.session 0x0C false 0 []) s t ∧
    t.ksp.authFails = s.ksp.authFails + 1 ∧ Raised Irq.KSP_SESSION t ∧ InQueue 0x0D03 [iOct 1 (pathBytes p), iU8 2 x.role] s t ∧
    InQueue 0x0D04 [iU8 1 x.role, iOct 2 (pathBytes x.path), iU8 3 0] s t ∧
    ((t.lockout p).till = if 3 ≤ ((s.now :: (s.lockout p).fails).filter fun a => decide (s.now ≤ a + 60000000000)).length then some (s.now + 300000000000) else (s.lockout p).till) ∧
    (∀ q, p.same q = false → (t.lockout q).till = (s.lockout q).till ∧ (t.lockout q).fails = (s.lockout q).fails) ∧
    RegsOnly [Off.REC_LOST_CNT, Off.FTN_ARB_DROP] s t ∧ OnlyIn (.out :: .ftn :: .ksp :: recParts) s t := by
  obtain ⟨hksp, hrec, hlen, hrecUp, hsame, _, hregs, honly⟩ := sessionEnds_told h
  obtain ⟨_, hnum, _⟩ := num_of_session h.2.1
  have hlock : lockoutAfter p (s.touched p m.session) = lockoutAfter p s := rfl
  obtain ⟨hlockPath, hlockTill⟩ := lockoutAfter_fields p s
  dsimp only
  rw [authFailed_eq, hnum, hlock]
  generalize endSessions (fun y => y.num == m.session) (s.touched p m.session) = v at *
  obtain ⟨haKsp, haIn, haKeeps, haSame, haRaised, haRegs, haOnly⟩ := authTold_told p x.role hrecUp hlen
  have hended := haKeeps _ _ (inQueue_of_recorded hrec)
  have hsameA := sameServer_trans hsame haSame
  have honlyA := onlyIn_trans honly haOnly
  have hregsA := regsOnly_trans hregs haRegs
  rw [hksp] at haKsp
  generalize authTold p x.role v = a at *
  have hput := onlyIn_putLockout (lockoutAfter p s) a
  have hputKsp := putLockout_ksp (lockoutAfter p s) a
  have hputSame : SameServer a (putLockout (lockoutAfter p s) a) := sameServer_of_ksp hput (by rw [hputKsp])
  obtain ⟨hself, hother⟩ := lockout_putLockout (s := a) hlockPath
  have haLock : ∀ q, a.lockout q = s.lockout q := lockout_congr (by rw [haKsp]; rfl)
  have hnone : ∀ y ∈ (putLockout (lockoutAfter p s) a).ksp.sessions, y.num ≠ m.session := fun y hy => by
    rw [hputKsp, haKsp] at hy
    simpa using (List.mem_filter.mp hy).2
  generalize putLockout (lockoutAfter p s) a = b at *
  obtain ⟨hans, hcKsp, hcRegs, hcOnly⟩ := conclude_told (m := m) (p := p) (status := 0x0C) (last := false) (offset := 0) (payload := [])
    (sameServer_trans hsameA hputSame) hon
  have hcIn : OnlyIn [.regs, .out, .icus, .ftn, .ksp] b (concludeStatus p m 0x0C b) := hcOnly
  have hcLock : ∀ q, (concludeStatus p m 0x0C b).lockout q = b.lockout q := lockout_congr (by rw [concludeStatus, hcKsp])
  rw [keptIn_of_none _ _ hnone] at hcKsp
  refine ⟨?_, hans, ?_, raised_conclude (raised_of_only haRaised hput), inQueue_of_only (inQueue_of_only haIn hput) hcIn, inQueue_of_only (inQueue_of_only hended hput) hcIn,
    ?_, fun q hq => ?_, ?_, ?_⟩
  · rw [concludeStatus, hcKsp, hputKsp, haKsp]
  · rw [concludeStatus, hcKsp, hputKsp, haKsp]
    rfl
  · rw [hcLock, hself, hlockTill]
    rfl
  · rw [hcLock, hother q hq, haLock]
    exact ⟨rfl, rfl⟩
  · exact regs_via (regs_via regs_refl (by decide) fun _ h => regs_of_only (regsOnly_trans h hregsA) hput : RegsOnly _ s b) (by decide) fun _ h => regsOnly_trans h hcRegs
  · exact onlyIn_trans (onlyIn_trans (onlyIn_mono honlyA (by decide)) (onlyIn_mono hput (by decide))) (onlyIn_mono hcOnly (by decide))

end

theorem exists_next_kspAuth (s : State) (p : Path) (via : Via) (m : KspMsg) (x : Session) (ok : Bool) (hreq : Requested false p via m s)
    (hx : Executes p m x s) (hcode : m.code = 2) (hstate : x.state = .awaitAuth) (hlen : m.payload.length = 516)
    (hok : ok = (match s.roleKey x.role (beAt m.payload 0 1) with | some k => Config.pssVerify k (authBytes x) (m.payload.drop 4) | none => false)) :
    ∃ t, exec (.kspAuth p via m) s = .next t ∧
      (ok = true → Concluded p m (kspRespond m m.session 0 false 0 []) (fun y => { y with state := .open_ }) s.ksp s t) ∧
      (ok = false → t.ksp.sessions = s.ksp.sessions.filter fun y => y.num != m.session) ∧
      (ok = false → Answers p (kspRespond m m.session 0x0C false 0 []) s t ∧ t.ksp.authFails = s.ksp.authFails + 1 ∧ Raised Irq.KSP_SESSION t ∧
        InQueue 0x0D03 [iOct 1 (pathBytes p), iU8 2 x.role] s t ∧ InQueue 0x0D04 [iU8 1 x.role, iOct 2 (pathBytes x.path), iU8 3 0] s t ∧
        (t.lockout p).till = (if 3 ≤ ((s.now :: (s.lockout p).fails).filter fun a => decide (s.now ≤ a + 60000000000)).length then some (s.now + 300000000000) else (s.lockout p).till) ∧
        (∀ q, p.same q = false → (t.lockout q).till = (s.lockout q).till ∧ (t.lockout q).fails = (s.lockout q).fails)) ∧
      RegsOnly [Off.REC_LOST_CNT, Off.FTN_ARB_DROP] s t ∧ OnlyIn (.out :: .ftn :: .ksp :: recParts) s t := by
  have hexec := exec_kspAuth hreq hx hcode
  have hon := serverOn_of_serves hreq.1
  have hauth : authOk m x (s.touched p m.session) = ok := by
    rw [hok]
    rfl
  rw [authReq_of_awaiting hstate hlen, hauth] at hexec
  cases ok with
  | true =>
    obtain ⟨_, hnum, _⟩ := num_of_session hx.2.1
    have hset : OnlyIn [.ksp] s (setSession x.num (fun y => { y with state := .open_ }) (s.touched p m.session)) := only_setSession (onlyIn_touched _ _ _)
    have hsame : SameServer s (setSession x.num (fun y => { y with state := .open_ }) (s.touched p m.session)) := sameServer_of_ksp hset rfl
    have hksp : (setSession x.num (fun y => { y with state := .open_ }) (s.touched p m.session)).ksp = { s.taken.ksp with
        sessions := s.ksp.sessions.map fun y => if y.num = m.session then { { y with lastAt := s.now, path := p } with state := .open_ } else y } := by
      have hmap : (s.touched p m.session).ksp.sessions.map (fun y => if y.num == x.num then { y with state := SessState.open_ } else y) =
          s.ksp.sessions.map fun y => if y.num = m.session then { { y with lastAt := s.now, path := p } with state := .open_ } else y := by
        rw [touched_ksp, touchedIn]
        dsimp only
        rw [List.map_map, hnum]
        refine List.map_congr_left fun y _ => ?_
        simp only [Function.comp, beq_iff_eq, touch_num]
        by_cases hy : y.num = m.session
        · rw [if_pos hy, if_pos hy, touch, if_pos hy]
        · rw [if_neg hy, if_neg hy, touch, if_neg hy]
      unfold setSession setKsp
      dsimp only
      rw [hmap]
      rfl
    generalize setSession x.num (fun y => { y with state := SessState.open_ }) (s.touched p m.session) = u at *
    obtain ⟨hregs, honly⟩ := onlyIn_concluded (m := m) (p := p) (status := 0) (last := false) (offset := 0) (payload := []) hsame hon hset
    exact ⟨_, hexec, fun _ => concluded_of (f := fun y => { y with state := .open_ }) hx.1 (fun _ => rfl) hksp hsame hon, nofun, nofun,
      regs_via regs_refl (by decide) fun _ h => regsOnly_trans h hregs, onlyIn_mono honly (by decide)⟩
  | false =>
    obtain ⟨hsessions, hans, hfails, hraised, hfailed, hended, hlock, hothers, hregs, honly⟩ := authFailed_told hx hon
    exact ⟨_, hexec, nofun, fun _ => hsessions, fun _ => ⟨hans, hfails, hraised, hfailed, hended, hlock, hothers⟩, hregs, honly⟩

end Sys2Proof.Machine

namespace Sys2Proof.Machine

set_option Elab.async false

/-! ### CLOSE, AUTH of an open session, codes unknown (R478, R480) -/

theorem exists_next_kspOfSession (s : State) (p : Path) (via : Via) (m : KspMsg) (x : Session) (hreq : Requested false p via m s) (hx : Executes p m x s) :
    (m.code = 2 → x.state = .open_ → ∃ t, exec (.kspAuth p via m) s = .next t ∧ Answers p (kspRespond m m.session 9 false 0 []) s t ∧
      t.ksp = (s.touched p m.session).ksp ∧ RegsOnly [Off.FTN_ARB_DROP] s t ∧ OnlyIn answerParts s t) ∧
    (m.code = 3 → ∃ t, exec (.kspClose p via m) s = .next t ∧ Answers p (kspRespond m m.session 0 false 0 []) s t ∧
      t.ksp = { s.taken.ksp with sessions := s.ksp.sessions.filter fun y => y.num != m.session, executed := s.ksp.executed + 1 } ∧
      InQueue 0x0D04 [iU8 1 x.role, iOct 2 (pathBytes x.path), iU8 3 0] s t ∧ Raised Irq.KSP_SESSION t ∧
      RegsOnly [Off.REC_LOST_CNT, Off.FTN_ARB_DROP] s t ∧ OnlyIn (.out :: .ftn :: .ksp :: recParts) s t) ∧
    (m.code.toNat ∉ kspCodes → ∃ t, exec (.kspBadCode p via m) s = .next t ∧ Concluded p m (kspRespond m m.session 0x11 false 0 []) id s.ksp s t ∧
      RegsOnly [Off.FTN_ARB_DROP] s t ∧ OnlyIn answerParts s t) := by
  have hon := serverOn_of_serves hreq.1
  have hwaits := waits_of_requested hreq hx.2.1
  obtain ⟨_, hnum, _⟩ := num_of_session hx.2.1
  refine ⟨fun hcode hstate => ?_, fun hcode => ?_, fun hcode => ?_⟩
  · have hexec : exec (.kspAuth p via m) s = .next (kspRefuse 9 p m (s.touched p m.session)) :=
      (exec_kspAuth hreq hx hcode).trans (congrArg _ (if_pos (by rw [hstate]; rfl)))
    obtain ⟨hans, hksp, hregs, honly⟩ := kspRefuse_told (m := m) (p := p) 9 (sameServer_touched p m.session s) hon (onlyIn_touched p m.session s)
    exact ⟨_, hexec, hans, hksp, hregs, honly⟩
  · have hexec : exec (.kspClose p via m) s = .next (concludeStatus p m 0 (endSessions (fun y => y.num == m.session) (s.touched p m.session))) := by
      rw [← hnum]
      refine congrArg Host.Outcome.next ?_
      rw [hcode, hnum]
      refine (kspArrive_of_requested _ _ hreq).trans ((inSession_of_executes _ hx hwaits).trans ?_)
      rw [closeReq, hnum]
    obtain ⟨hksp, hrec, _, _, hsame, hraised, hregs, honly⟩ := sessionEnds_told hx
    generalize endSessions (fun y => y.num == m.session) (s.touched p m.session) = v at *
    have hnone : ∀ y ∈ v.ksp.sessions, y.num ≠ m.session := fun y hy => by
      rw [hksp] at hy
      simpa using (List.mem_filter.mp hy).2
    obtain ⟨hans, hcKsp, hcRegs, hcOnly⟩ := conclude_told (m := m) (p := p) (status := 0) (last := false) (offset := 0) (payload := []) hsame hon
    have hcIn : OnlyIn [.regs, .out, .icus, .ftn, .ksp] v (concludeStatus p m 0 v) := hcOnly
    rw [keptIn_of_none _ _ hnone] at hcKsp
    refine ⟨_, hexec, hans, ?_, inQueue_of_only (inQueue_of_recorded hrec) hcIn, raised_conclude hraised, ?_, ?_⟩
    · rw [concludeStatus, hcKsp, hksp]
      rfl
    · exact regs_via (regs_via regs_refl (by decide) fun _ h => regsOnly_trans h hregs : RegsOnly _ s v) (by decide) fun _ h => regsOnly_trans h hcRegs
    · exact onlyIn_trans (onlyIn_mono honly (by decide)) (onlyIn_mono hcOnly (by decide))
  · have hexec : exec (.kspBadCode p via m) s = .next (concludeStatus p m 0x11 (s.touched p m.session)) := by
      have hunknown : (!kspCodes.contains m.code.toNat) = true := by simpa using hcode
      refine congrArg Host.Outcome.next ?_
      rw [hunknown]
      refine (kspArrive_of_requested _ _ hreq).trans ?_
      rw [anySession, if_neg hx.1]
      exact inSession_of_executes _ hx hwaits
    have htouch := onlyIn_touched p m.session s
    have hsame := sameServer_touched p m.session s
    obtain ⟨hregs, honly⟩ := onlyIn_concluded (m := m) (p := p) (status := 0x11) (last := false) (offset := 0) (payload := []) hsame hon htouch
    exact ⟨_, hexec, concluded_of (f := id) hx.1 (fun _ => rfl) rfl hsame hon, hregs, honly⟩

/-! ### Requests of a session that is not there, and those that are repeated (R472, R478) -/

theorem exists_next_kspNotExecuted (s : State) (p : Path) (via : Via) (m : KspMsg) (storeOk : Bool) (c : Instr) (hreq : Requested false p via m s) (hne : m.session ≠ 0)
    (hc : c = .kspAuth p via m ∧ m.code = 2 ∨ c = .kspClose p via m ∧ m.code = 3 ∨ c = .kspRead p via m ∧ m.code = 0x10 ∨
     c = .kspWrite p via m storeOk ∧ m.code = 0x11 ∨ c = .kspReadSeg p via m ∧ m.code = 0x12 ∨ c = .kspWriteSeg p via m storeOk ∧ m.code = 0x13 ∨
     c = .kspAbort p via m ∧ m.code = 0x14 ∨ c = .kspInfo p via m ∧ m.code = 0x20) :
    (s.session p m.session = none → ∃ t, exec c s = .next t ∧ Answers p (kspRespond m m.session 9 false 0 []) s t ∧ t.ksp = s.taken.ksp ∧
      RegsOnly [Off.FTN_ARB_DROP] s t ∧ OnlyIn answerParts s t) ∧
    (∀ x r, s.session p m.session = some x → x.kept = some (m.trans, r) → ∃ t, exec c s = .next t ∧ Answers p r s t ∧ t.ksp = (s.heard m.session).ksp ∧
      RegsOnly [Off.FTN_ARB_DROP] s t ∧ OnlyIn answerParts s t) := by
  have hon := serverOn_of_serves hreq.1
  have hexec : ∃ f : Session → State → State, exec c s = .next (inSession p m f s.taken) := by
    have harrive : ∀ wide f, kspArrive true p via m wide f s = f s.taken := fun wide f => kspArrive_of_requested wide f hreq
    have hany : ∀ f, anySession p m f s.taken = inSession p m (fun x => f (some x)) s.taken := fun f => if_neg hne
    obtain ⟨rfl, h⟩ | ⟨rfl, h⟩ | ⟨rfl, h⟩ | ⟨rfl, h⟩ | ⟨rfl, h⟩ | ⟨rfl, h⟩ | ⟨rfl, h⟩ | ⟨rfl, h⟩ := hc
    · exact ⟨authReq p m, congrArg Host.Outcome.next (by rw [h]; exact harrive _ _)⟩
    · exact ⟨closeReq p m, congrArg Host.Outcome.next (by rw [h]; exact harrive _ _)⟩
    · exact ⟨fun x => readReq p m (some x), congrArg Host.Outcome.next (by rw [h]; exact (harrive _ _).trans (hany _))⟩
    · exact ⟨writeReq storeOk p m, congrArg Host.Outcome.next (by rw [h]; exact harrive _ _)⟩
    · exact ⟨readSegReq p m, congrArg Host.Outcome.next (by rw [h]; exact harrive _ _)⟩
    · exact ⟨writeSegReq storeOk p m, congrArg Host.Outcome.next (by rw [h]; exact harrive _ _)⟩
    · exact ⟨abortReq p m, congrArg Host.Outcome.next (by rw [h]; exact harrive _ _)⟩
    · exact ⟨fun x => infoReq p m (some x), congrArg Host.Outcome.next (by rw [h]; exact (harrive _ _).trans (hany _))⟩
  obtain ⟨f, hexec⟩ := hexec
  refine ⟨fun hnone => ?_, fun x r hx hkept => ?_⟩
  · rw [inSession_of_none f hnone] at hexec
    obtain ⟨hans, hksp, hregs, honly⟩ := kspRefuse_told (m := m) (p := p) 9 (sameServer_taken s) hon (onlyIn_taken s)
    exact ⟨_, hexec, hans, hksp, hregs, honly⟩
  · rw [inSession_of_kept f hx (waits_of_requested hreq hx) hkept] at hexec
    exact ⟨_, hexec, answers_transmit (sameServer_heard m.session s) hon, transmit_ksp _ _ _, regsOnly_trans (regs_of_only regs_refl (onlyIn_heard m.session s)) (regs_transmit _ _ _),
      onlyIn_trans (onlyIn_mono (onlyIn_heard m.session s) (by decide)) (onlyIn_mono (onlyIn_transmit _ _ _) (by decide))⟩

/-! ### Requests that go no further (R468 to R471) -/

theorem exists_next_kspStopped (s : State) (p : Path) (via : Via) (m : KspMsg) (c : Instr)
    (hc : c = .kspOpen p via m ∧ m.code = 1 ∨ c = .kspRead p via m ∧ m.code = 0x10 ∨ c = .kspWrite p via m true ∧ m.code = 0x11 ∨
     c = .kspInfo p via m ∧ m.code = 0x20 ∨ c = .kspBadCode p via m ∧ m.code.toNat ∉ kspCodes) :
    (s.kspServes p = false ∨ via.passes p = false → exec c s = .next s) ∧
    (s.kspServes p = true → via.passes p = true → (∀ x ∈ s.ksp.sessions, x.waiting = none) → kspGood m = false →
      ∃ t, exec c s = .next t ∧ t.ksp = { s.ksp with discarded := s.ksp.discarded + 1 } ∧ OnlyIn [.ksp] s t) ∧
    (s.kspServes p = true → via.passes p = true → (∀ x ∈ s.ksp.sessions, x.waiting = none) → kspGood m = true → kspResponse m = false → via.bcast = false → s.queue = 16 →
      ∃ t, exec c s = .next t ∧ Answers p (kspRespond m m.session 0x0E false 0 []) s t ∧ t.ksp = { s.ksp with busy := s.ksp.busy + 1 } ∧
        RegsOnly [Off.FTN_ARB_DROP] s t ∧ OnlyIn answerParts s t) := by
  have hexec : ∃ wide f : State → State, exec c s = .next (kspArrive true p via m wide f s) := by
    obtain ⟨rfl, h⟩ | ⟨rfl, h⟩ | ⟨rfl, h⟩ | ⟨rfl, h⟩ | ⟨rfl, h⟩ := hc
    · exact ⟨_, _, congrArg Host.Outcome.next (by rw [h]; rfl)⟩
    · exact ⟨_, _, congrArg Host.Outcome.next (by rw [h]; rfl)⟩
    · exact ⟨_, _, congrArg Host.Outcome.next (by rw [h]; rfl)⟩
    · exact ⟨_, _, congrArg Host.Outcome.next (by rw [h]; rfl)⟩
    · have hunknown : (!kspCodes.contains m.code.toNat) = true := by simpa using h
      exact ⟨_, _, congrArg Host.Outcome.next (by rw [hunknown])⟩
  obtain ⟨wide, f, hexec⟩ := hexec
  refine ⟨fun h => ?_, fun hserves hpasses hwaits hbad => ?_, fun hserves hpasses hwaits hgood hresponse hcast hqueue => ?_⟩
  · rw [hexec, kspArrive_of_unserved true wide f h]
  · rw [kspArrive_of_bad wide f hserves hpasses hwaits hbad] at hexec
    exact ⟨_, hexec, rfl, only_mk only_refl⟩
  · rw [kspArrive_of_full wide f hserves hpasses hwaits hgood hresponse hcast hqueue] at hexec
    obtain ⟨hans, hksp, hregs, honly⟩ := kspRefuse_told (m := m) (p := p) 0x0E (sameServer_refl s) (serverOn_of_serves hserves) only_refl
    exact ⟨_, hexec, hans, hksp, hregs, honly⟩

/-! ### The times of sessions and lockouts (R480, R483, R484) -/

theorem exists_next_sessionTimeout (s : State) (n due : Nat) (x : Session) (c : Instr) (hon : s.serverOn = true) (hx : s.sessionOf n = some x)
    (hone : (s.ksp.sessions.filter fun y => y.num == x.num) = [x])
    (hc : c = .sessionIdleTimeout n ∧ due = x.lastAt + s.kspCfg 0x1200 2 * 1000000000 ∨
     c = .authTimeout n ∧ x.state = .awaitAuth ∧ due = x.openAt + 30000000000) :
    ∃ t, exec c s = .next t ∧ t.now = max s.now due ∧ t.ksp = { s.ksp with sessions := s.ksp.sessions.filter fun y => y.num != x.num } ∧
      InQueue 0x0D04 [iU8 1 x.role, iOct 2 (pathBytes x.path), iU8 3 0] s t ∧ Raised Irq.KSP_SESSION t ∧
      RegsOnly [Off.REC_LOST_CNT] s t ∧ OnlyIn (.now :: .nv :: .time :: .ksp :: recParts) s t := by
  have hexec : exec c s = .next (endSessions (fun y => y.num == x.num) (advanceTo due s)) := by
    have hat : ∀ (d : Session → Option Nat), d x = some due → atSession n d (fun x => endSessions fun y => y.num == x.num) s =
        endSessions (fun y => y.num == x.num) (advanceTo due s) := fun d hd => by
      unfold atSession
      rw [hx]
      dsimp only
      rw [hd, hon]
      rfl
    obtain ⟨rfl, hdue⟩ | ⟨rfl, hstate, hdue⟩ := hc
    · exact congrArg Host.Outcome.next (hat _ (by rw [hdue]))
    · exact congrArg Host.Outcome.next (hat _ (by rw [hstate, hdue]; rfl))
  have hadvance : OnlyIn [.now, .isl, .time, .nv] s (advanceTo due s) := only_advanceTo only_refl
  have hnow : (advanceTo due s).now = max s.now due := now_advanceTo due s
  have hksp : (advanceTo due s).ksp = s.ksp := hadvance.2 .ksp (by decide)
  have hin : ∀ {t : State}, Recorded 0x0D04 [iU8 1 x.role, iOct 2 (pathBytes x.path), iU8 3 0] (advanceTo due s) t →
      InQueue 0x0D04 [iU8 1 x.role, iOct 2 (pathBytes x.path), iU8 3 0] s t := fun h => inQueue_of_recorded_later h
  generalize advanceTo due s = v at *
  obtain ⟨htKsp, hrec, _, _, _, hraised, hregs, honly⟩ := endSessions_told (s := v) (n := x.num) (y := x) (by rw [hksp]; exact hone)
  refine ⟨_, hexec, (honly.2 .now (by decide)).trans hnow, ?_, hin hrec, hraised, regsOnly_trans (regs_of_only regs_refl hadvance) hregs,
    onlyIn_trans (onlyIn_mono hadvance (by decide)) (onlyIn_mono honly (by decide))⟩
  rw [htKsp, hksp]
  rfl

theorem exists_next_lockoutEnd (s : State) (p : Path) (at_ : Nat) (htill : (s.lockout p).till = some at_) :
    ∃ t, exec (.lockoutEnd p) s = .next t ∧ t.now = max s.now at_ ∧ t.ksp = { s.ksp with lockouts := s.ksp.lockouts.filter fun l => !l.path.same p } ∧
      OnlyIn [.now, .isl, .nv, .time, .ksp] s t := by
  have hexec : exec (.lockoutEnd p) s = .next (setKsp (fun k => { k with lockouts := k.lockouts.filter fun l => !l.path.same p }) (advanceTo at_ s)) := by
    refine congrArg Host.Outcome.next ?_
    rw [htill]
  have hadvance : OnlyIn [.now, .isl, .time, .nv] s (advanceTo at_ s) := only_advanceTo only_refl
  have hksp : (advanceTo at_ s).ksp = s.ksp := hadvance.2 .ksp (by decide)
  refine ⟨_, hexec, now_advanceTo at_ s, ?_, only_setKsp (onlyIn_mono hadvance (by decide))⟩
  rw [setKsp, hksp]

/-- Settles O50, command by command. -/
theorem kspSessions : Obligations.KspSessions :=
  ⟨exists_next_kspOpen, exists_next_kspAuth, exists_next_kspOfSession, exists_next_kspNotExecuted, exists_next_kspStopped, exists_next_sessionTimeout,
    exists_next_lockoutEnd⟩

end Sys2Proof.Machine

namespace Sys2Proof.Machine

set_option Elab.async false

section
variable {s t u : State} {n : Nat} {v : Lock}

/-! ### Channels of the supply (R167, R168) -/

theorem chan_congr (h : t.sup.chans = s.sup.chans) (m : Nat) : t.chan m = s.chan m := congrArg (fun l => l.getD m Reset.chan) h

theorem onlyIn_setChan (n : Nat) (f : Chan → Chan) (s : State) : OnlyIn [.sup] s (setChan n f s) := only_mk only_refl

theorem setChan_fields (n : Nat) (f : Chan → Chan) (s : State) : (setChan n f s).sup = { s.sup with chans := modAt s.sup.chans n f } := rfl

theorem chan_setChan_self (f : Chan → Chan) (h : n < s.sup.chans.length) : (setChan n f s).chan n = f (s.chan n) := getD_modAt_self _ _ _ _ h

theorem chan_setChan_ne {m : Nat} (f : Chan → Chan) (h : m ≠ n) : (setChan n f s).chan m = s.chan m := getD_modAt_ne _ _ _ _ _ h

theorem chOn_of_mode (h : s.chMode n = 1 ∨ s.chMode n = 2) : s.chOn n = true := by
  rw [State.chOn, Bool.or_eq_true, beq_iff_eq, beq_iff_eq]
  exact h

/-- A channel whose range fault is told. -/
def rangeTold (n : Nat) (s : State) : State := raiseIrq Irq.SUP_RANGE (bump Off.SUP_RANGE_CNT (setChan n (fun c => { c with range := true }) s))

theorem rangeTold_only (n : Nat) (s : State) : OnlyIn [.regs, .icus] (setChan n (fun c => { c with range := true }) s) (rangeTold n s) :=
  only_raiseIrq (only_bump only_refl)

theorem rangeTold_regs (n : Nat) (s : State) : RegsOnly [Off.SUP_RANGE_CNT] s (rangeTold n s) := regs_raiseIrq (regs_bump (regs_mk regs_refl))

theorem raised_rangeTold (n : Nat) (s : State) : Raised Irq.SUP_RANGE (rangeTold n s) := raised_raiseIrq _ _ (by decide)

theorem exec_supRangeFault {a : Nat} (hdsp : s.dspOn = true) (hn : n < 4) (hrange : (s.chan n).range = false) (hmode : s.chMode n = 1 ∨ s.chMode n = 2)
    (hout : (s.chan n).outAt = some a) (hlate : a + 1000000 < s.now) : exec (.supRangeFault n) s = .next (
      when (n == s.refCh && s.sup.lock == .acquire) (lockChange .noSignal) (when (n == s.refCh && s.sup.lock == .locked) (lockChange .hold) (rangeTold n s))) := by
  refine congrArg Host.Outcome.next (if_pos ?_)
  rw [hdsp, decide_eq_true hn, chOn_of_mode hmode, hrange, hout, Option.any_some, decide_eq_true hlate]
  rfl

theorem exists_next_supRangeFault (s : State) (n a : Nat) (hwf : RegsWf s) (hdsp : s.dspOn = true) (hn : n < 4) (hlen : n < s.sup.chans.length)
    (hrange : (s.chan n).range = false) (hmode : s.chMode n = 1 ∨ s.chMode n = 2) (hout : (s.chan n).outAt = some a) (hlate : a + 1000000 < s.now)
    (hlock : n = s.refCh → s.sup.lock ≠ .locked ∧ s.sup.lock ≠ .acquire) :
    ∃ t, exec (.supRangeFault n) s = .next t ∧ t.sup = { s.sup with chans := t.sup.chans } ∧ t.chan n = { s.chan n with range := true } ∧
      (∀ m, m ≠ n → t.chan m = s.chan m) ∧
      t.reg Off.SUP_RANGE_CNT = s.reg Off.SUP_RANGE_CNT + 1 ∧ Raised Irq.SUP_RANGE t ∧ RegsOnly [Off.SUP_RANGE_CNT] s t ∧
      OnlyIn [.regs, .sup, .icus] s t := by
  have hexec := exec_supRangeFault hdsp hn hrange hmode hout hlate
  have hlocked : (n == s.refCh && s.sup.lock == .locked) = false := by
    rw [Bool.and_eq_false_imp, beq_iff_eq, beq_eq_false_iff_ne]
    exact fun h => (hlock h).1
  have hacquire : (n == s.refCh && s.sup.lock == .acquire) = false := by
    rw [Bool.and_eq_false_imp, beq_iff_eq, beq_eq_false_iff_ne]
    exact fun h => (hlock h).2
  rw [hlocked, hacquire, when_false, when_false] at hexec
  have hset := onlyIn_setChan n (fun c => { c with range := true }) s
  have htold := rangeTold_only n s
  have hsup : (rangeTold n s).sup = (setChan n (fun c => { c with range := true }) s).sup := htold.2 .sup (by decide)
  refine ⟨_, hexec, ?_, ?_, fun m hm => ?_, ?_, raised_rangeTold n s, rangeTold_regs n s, onlyIn_trans (onlyIn_mono hset (by decide)) (onlyIn_mono htold (by decide))⟩
  · rw [hsup, setChan_fields]
  · rw [chan_congr (congrArg Sup.chans hsup), chan_setChan_self _ hlen]
  · rw [chan_congr (congrArg Sup.chans hsup), chan_setChan_ne _ hm]
  · have hwfSet : RegsWf (setChan n (fun c => { c with range := true }) s) := wf_mk hwf
    rw [rangeTold, reg_of_only _ (only_raiseIrq only_refl : OnlyIn [.icus] (bump Off.SUP_RANGE_CNT (setChan n (fun c => { c with range := true }) s)) _),
      reg_bump_unmasked _ _ hwfSet (by decide)]
    rfl

/-! ### Changes of the lock (R172) -/

/-- The tracker in another lock state. -/
def lockSet (v : Lock) (s : State) : State :=
  { s with sup := { s.sup with
    lock := v, goodRun := 0, jumpRun := 0, holdAt := if v == .hold then s.now else s.sup.holdAt
    windowAt := s.tb0, means := { Reset.means with since := s.tb0 }
    thd := if v == .locked then s.sup.thd else 0
    harm := if v == .locked then s.sup.harm else List.replicate 40 0
    freq := if v == .off then 0 else s.sup.freq
    phase := if v == .off then 0 else s.sup.phase } }

theorem lockChange_of_ne (h : s.sup.lock ≠ v) : lockChange v s =
    record 0x0506 [iU8 1 s.sup.lock.code, iU8 2 v.code] (raiseIrq Irq.SUP_LOCK_CHG (when (s.sup.lock == .locked) (bump Off.SUP_LOCK_LOSS_CNT) (lockSet v s))) :=
  if_neg (by simpa using h)

theorem onlyIn_lockSet (v : Lock) (s : State) : OnlyIn [.sup] s (lockSet v s) := only_mk only_refl

theorem lockSet_fields (v : Lock) (s : State) : (lockSet v s).sup.lock = v ∧ (lockSet v s).sup.active = s.sup.active ∧ (lockSet v s).sup.chans = s.sup.chans ∧
    (v ≠ .locked → (lockSet v s).sup.thd = 0 ∧ (lockSet v s).sup.harm = List.replicate 40 0) ∧
    (v ≠ .off → (lockSet v s).sup.freq = s.sup.freq ∧ (lockSet v s).sup.phase = s.sup.phase) ∧
    (v = .off → (lockSet v s).sup.freq = 0 ∧ (lockSet v s).sup.phase = 0) ∧ (v = .hold → (lockSet v s).sup.holdAt = s.now) := by
  refine ⟨rfl, rfl, rfl, fun h => ?_, fun h => ?_, fun h => ?_, fun h => ?_⟩
  · exact ⟨if_neg (by simpa using h), if_neg (by simpa using h)⟩
  · exact ⟨if_neg (by simpa using h), if_neg (by simpa using h)⟩
  · subst h
    exact ⟨rfl, rfl⟩
  · subst h
    rfl

/-- What a change of the lock leaves, and tells. -/
theorem lockChange_told (hne : s.sup.lock ≠ v) :
    (lockChange v s).sup = (lockSet v s).sup ∧ Raised Irq.SUP_LOCK_CHG (lockChange v s) ∧
    Recorded 0x0506 [iU8 1 s.sup.lock.code, iU8 2 v.code] s (lockChange v s) ∧
    (RegsWf s → (lockChange v s).reg Off.SUP_LOCK_LOSS_CNT = s.reg Off.SUP_LOCK_LOSS_CNT + (if s.sup.lock = .locked then 1 else 0)) ∧
    RegsOnly [Off.SUP_LOCK_LOSS_CNT, Off.REC_LOST_CNT] s (lockChange v s) ∧ OnlyIn (.sup :: recParts) s (lockChange v s) := by
  have hset := onlyIn_lockSet v s
  rw [lockChange_of_ne hne]
  generalize lockSet v s = a at *
  have hbump : OnlyIn [.regs] a (when (s.sup.lock == .locked) (bump Off.SUP_LOCK_LOSS_CNT) a) := only_when only_bump only_refl
  have hbumpRegs : RegsOnly [Off.SUP_LOCK_LOSS_CNT] a (when (s.sup.lock == .locked) (bump Off.SUP_LOCK_LOSS_CNT) a) := regs_when regs_bump regs_refl
  have hcount : RegsWf a → (when (s.sup.lock == .locked) (bump Off.SUP_LOCK_LOSS_CNT) a).reg Off.SUP_LOCK_LOSS_CNT =
      a.reg Off.SUP_LOCK_LOSS_CNT + (if s.sup.lock = .locked then 1 else 0) := fun hwf => by
    by_cases hl : s.sup.lock = .locked
    · rw [hl, if_pos rfl]
      exact reg_bump_unmasked _ _ hwf (by decide)
    · rw [beq_false_of_ne hl, when_false, if_neg hl]
      exact (BitVec.add_zero _).symm
  generalize when (s.sup.lock == .locked) (bump Off.SUP_LOCK_LOSS_CNT) a = b at *
  have hirq : OnlyIn [.icus] b (raiseIrq Irq.SUP_LOCK_CHG b) := only_raiseIrq only_refl
  have hraised : Raised Irq.SUP_LOCK_CHG (raiseIrq Irq.SUP_LOCK_CHG b) := raised_raiseIrq _ _ (by decide)
  have hbefore : OnlyIn [.sup, .regs, .icus] s (raiseIrq Irq.SUP_LOCK_CHG b) :=
    onlyIn_trans (onlyIn_trans (onlyIn_mono hset (by decide)) (onlyIn_mono hbump (by decide))) (onlyIn_mono hirq (by decide))
  have hregs : RegsOnly [Off.SUP_LOCK_LOSS_CNT] s (raiseIrq Irq.SUP_LOCK_CHG b) := regs_raiseIrq (regsOnly_trans (regs_of_only regs_refl hset) hbumpRegs)
  have hcounted : RegsWf s → (raiseIrq Irq.SUP_LOCK_CHG b).reg Off.SUP_LOCK_LOSS_CNT = s.reg Off.SUP_LOCK_LOSS_CNT + (if s.sup.lock = .locked then 1 else 0) := fun hwf => by
    rw [reg_of_only _ hirq, hcount (regsWf_of_only hwf hset), reg_of_only _ hset]
  have hsup : (raiseIrq Irq.SUP_LOCK_CHG b).sup = a.sup := (hirq.2 .sup (by decide)).trans (hbump.2 .sup (by decide))
  generalize raiseIrq Irq.SUP_LOCK_CHG b = c at *
  have hrec : OnlyIn recParts c (record 0x0506 [iU8 1 s.sup.lock.code, iU8 2 v.code] c) := only_record only_refl
  have hrecRegs : RegsOnly [Off.REC_LOST_CNT] c (record 0x0506 [iU8 1 s.sup.lock.code, iU8 2 v.code] c) := regs_record regs_refl
  exact ⟨(hrec.2 .sup (by decide)).trans hsup, raised_record hraised, recorded_record_of hbefore, fun hwf => (hrecRegs _ (by decide)).trans (hcounted hwf),
    regs_record (regs_via regs_refl (by decide) fun _ h => regsOnly_trans h hregs), onlyIn_trans (onlyIn_mono hbefore (by decide)) (onlyIn_mono hrec (by decide))⟩

theorem exists_next_supRangeFault_reference (s : State) (n a : Nat) (hdsp : s.dspOn = true) (hn : n < 4) (hlen : n < s.sup.chans.length)
    (hrange : (s.chan n).range = false) (hmode : s.chMode n = 1 ∨ s.chMode n = 2) (hout : (s.chan n).outAt = some a) (hlate : a + 1000000 < s.now)
    (href : n = s.refCh) (hlock : s.sup.lock = .locked) :
    ∃ t, exec (.supRangeFault n) s = .next t ∧ (t.chan n).range = true ∧ t.sup.lock = .hold ∧ t.sup.holdAt = s.now ∧ Raised Irq.SUP_RANGE t ∧
      Raised Irq.SUP_LOCK_CHG t ∧ InQueue 0x0506 [iU8 1 Lock.locked.code, iU8 2 Lock.hold.code] s t ∧
      RegsOnly [Off.SUP_RANGE_CNT, Off.SUP_LOCK_LOSS_CNT, Off.REC_LOST_CNT] s t ∧ OnlyIn (.sup :: recParts) s t := by
  have hexec := exec_supRangeFault hdsp hn hrange hmode hout hlate
  rw [hlock, ← href, beq_self_eq_true] at hexec
  replace hexec : exec (.supRangeFault n) s = .next (lockChange .hold (rangeTold n s)) := hexec
  have hset := onlyIn_setChan n (fun c => { c with range := true }) s
  have hself := chan_setChan_self (s := s) (fun c => { c with range := true }) hlen
  have hsetLock : (setChan n (fun c => { c with range := true }) s).sup.lock = s.sup.lock := rfl
  have htold := rangeTold_only n s
  have htoldRegs := rangeTold_regs n s
  have hraised := raised_rangeTold n s
  have hsup : (rangeTold n s).sup = (setChan n (fun c => { c with range := true }) s).sup := htold.2 .sup (by decide)
  have honly : OnlyIn [.sup, .regs, .icus] s (rangeTold n s) := onlyIn_trans (onlyIn_mono hset (by decide)) (onlyIn_mono htold (by decide))
  rw [← hsup, hlock] at hsetLock
  have hchan : (rangeTold n s).chan n = { s.chan n with range := true } := (chan_congr (congrArg Sup.chans hsup) n).trans hself
  generalize rangeTold n s = w at *
  have hne : w.sup.lock ≠ .hold := by rw [hsetLock]; decide
  obtain ⟨hlSup, hlRaised, hlRec, _, hlRegs, hlOnly⟩ := lockChange_told hne
  obtain ⟨hlLock, _, hlChans, _, _, _, hlHold⟩ := lockSet_fields .hold w
  rw [hsetLock] at hlRec
  refine ⟨_, hexec, ?_, by rw [hlSup, hlLock], ?_, ?_, hlRaised, inQueue_of_recorded (recorded_before hlRec honly), ?_, onlyIn_trans (onlyIn_mono honly (by decide)) (onlyIn_mono hlOnly (by decide))⟩
  · rw [chan_congr ((congrArg Sup.chans hlSup).trans hlChans), hchan]
  · rw [hlSup, hlHold rfl, honly.2 .now (by decide)]
  · rw [lockChange_of_ne hne]
    exact raised_record (raised_raiseIrq_too (raised_when raised_bump (raised_of_only hraised (onlyIn_lockSet _ _))))
  · exact regs_via (regs_via regs_refl (by decide) fun _ h => regsOnly_trans h htoldRegs : RegsOnly _ s w) (by decide) fun _ h => regsOnly_trans h hlRegs

theorem exists_next_supRangeReturn (s : State) (n a : Nat) (hdsp : s.dspOn = true) (hn : n < 4) (hlen : n < s.sup.chans.length)
    (hback : (s.chan n).backAt = some a) (hlong : a + 100000000 ≤ s.now) :
    ∃ t, exec (.supRangeReturn n) s = .next t ∧ t.sup = { s.sup with chans := t.sup.chans } ∧ t.chan n = { s.chan n with range := false } ∧
      (∀ m, m ≠ n → t.chan m = s.chan m) ∧ OnlyIn [.sup] s t := by
  have hexec : exec (.supRangeReturn n) s = .next (setChan n (fun c => { c with range := false }) s) := by
    refine congrArg Host.Outcome.next (if_pos ?_)
    rw [hdsp, decide_eq_true hn, hback, Option.any_some, decide_eq_true hlong]
    rfl
  exact ⟨_, hexec, rfl, chan_setChan_self _ hlen, fun m hm => chan_setChan_ne _ hm, onlyIn_setChan _ _ s⟩

theorem inRange_false_iff (f : Nat) : inRange f = false ↔ f < 14000000 ∨ 70000000 < f := by
  rw [inRange, Bool.and_eq_false_iff, decide_eq_false_iff_not, decide_eq_false_iff_not, Nat.not_le, Nat.not_le]

theorem exists_next_lockChange (s : State) (n : Nat) (v : Lock) (c : Instr) (hwf : RegsWf s) (hdsp : s.dspOn = true) (hne : s.sup.lock ≠ v)
    (hc : c = .supLockChange n ∧ v = lockOf n ∧ (s.trackOff = true ∧ v = .off ∨
       s.trackOff = false ∧ (s.signal = false ∧ (s.sup.lock = .off ∨ s.sup.lock = .acquire) ∧ v = .noSignal ∨
         s.signal = true ∧ (s.sup.lock = .off ∨ s.sup.lock = .noSignal ∨ s.sup.lock = .hold) ∧ v = .acquire ∨
         s.signal = true ∧ s.sup.lock = .acquire ∧ 20 ≤ s.sup.goodRun ∧ v = .locked ∨
         s.sup.lock = .locked ∧ (s.signal = false ∨ s.sup.freq < 14000000 ∨ 70000000 < s.sup.freq) ∧ v = .hold ∨
         s.sup.lock = .locked ∧ 2 ≤ s.sup.jumpRun ∧ v = .acquire)) ∨
     c = .supHoldExpiry ∧ s.sup.lock = .hold ∧ v = .noSignal) :
    ∃ t, exec c s = .next t ∧ t.sup.lock = v ∧ (v ≠ .locked → t.sup.thd = 0 ∧ t.sup.harm = List.replicate 40 0) ∧
      (v ≠ .off → t.sup.freq = s.sup.freq ∧ t.sup.phase = s.sup.phase) ∧ (v = .off → t.sup.freq = 0 ∧ t.sup.phase = 0) ∧
      t.sup.active = s.sup.active ∧ t.sup.chans = s.sup.chans ∧ (c = .supHoldExpiry → s.holdEnd ≤ t.now) ∧
      t.reg Off.SUP_LOCK_LOSS_CNT = s.reg Off.SUP_LOCK_LOSS_CNT + (if s.sup.lock = .locked then 1 else 0) ∧
      Raised Irq.SUP_LOCK_CHG t ∧ InQueue 0x0506 [iU8 1 s.sup.lock.code, iU8 2 v.code] s t ∧
      RegsOnly [Off.SUP_LOCK_LOSS_CNT, Off.REC_LOST_CNT] s t ∧ OnlyIn (.now :: .time :: .nv :: .sup :: recParts) s t := by
  obtain ⟨w, hexec, hw, hnow, hin⟩ : ∃ w, exec c s = .next (lockChange v w) ∧ OnlyIn [.now, .isl, .nv, .time] s w ∧ (c = .supHoldExpiry → s.holdEnd ≤ w.now) ∧
      ∀ t, Recorded 0x0506 [iU8 1 s.sup.lock.code, iU8 2 v.code] w t → InQueue 0x0506 [iU8 1 s.sup.lock.code, iU8 2 v.code] s t := by
    obtain ⟨rfl, hv, hmeets⟩ | ⟨rfl, hlock, rfl⟩ := hc
    · refine ⟨s, ?_, only_refl, nofun, fun t h => inQueue_of_recorded h⟩
      have hcriterion : s.lockMeets v = true := by
        unfold State.lockMeets
        obtain ⟨hoff, rfl⟩ | ⟨hon, ⟨hsignal, hl | hl, rfl⟩ | ⟨hsignal, hl | hl | hl, rfl⟩ | ⟨hsignal, hl, hrun, rfl⟩ | ⟨hl, hloss, rfl⟩ | ⟨hl, hrun, rfl⟩⟩ := hmeets
        · rw [hoff]
          rfl
        · rw [hon, hl, hsignal]
          rfl
        · rw [hon, hl, hsignal]
          rfl
        · rw [hon, hl, hsignal]
          rfl
        · rw [hon, hl, hsignal]
          rfl
        · rw [hon, hl, hsignal]
          rfl
        · rw [hon, hl, hsignal]
          exact decide_eq_true hrun
        · rw [hon, hl]
          show (!s.signal || !inRange s.sup.freq) = true
          obtain h | h := hloss
          · rw [h]
            rfl
          · rw [(inRange_false_iff _).mpr h]
            exact Bool.or_true _
        · rw [hon, hl]
          exact decide_eq_true hrun
      rw [hv] at hcriterion ⊢
      exact congrArg Host.Outcome.next (if_pos (by rw [hdsp, hcriterion]; rfl))
    · have hadvance : OnlyIn [.now, .isl, .nv, .time] s (advanceTo s.holdEnd s) := only_advanceTo only_refl
      refine ⟨advanceTo s.holdEnd s, congrArg Host.Outcome.next (if_pos (by rw [hdsp, hlock]; rfl)), hadvance, fun _ => ?_, fun t h => inQueue_of_recorded_later h⟩
      rw [now_advanceTo]
      exact Nat.le_max_right _ _
  have hsup : w.sup = s.sup := hw.2 .sup (by decide)
  obtain ⟨htSup, hraised, hrec, hcount, hregs, honly⟩ := lockChange_told (s := w) (v := v) (by rw [hsup]; exact hne)
  obtain ⟨hl, hactive, hchans, hthd, hfreq, hoff, _⟩ := lockSet_fields v w
  rw [hsup] at hactive hchans hfreq hrec hcount
  refine ⟨_, hexec, by rw [htSup, hl], by rw [htSup]; exact hthd, by rw [htSup]; exact hfreq, by rw [htSup]; exact hoff, by rw [htSup, hactive], by rw [htSup, hchans],
    fun h => ?_, ?_, hraised, hin _ hrec, regsOnly_trans (regs_of_only regs_refl hw) hregs, onlyIn_trans (onlyIn_mono hw (by decide)) (onlyIn_mono honly (by decide))⟩
  · rw [honly.2 .now (by decide)]
    exact hnow h
  · rw [hcount (regsWf_of_only hwf hw), reg_of_only _ hw]

end

end Sys2Proof.Machine

namespace Sys2Proof.Machine

set_option Elab.async false

section
variable {s t u : State} {l : Lane} {fails : BitVec 3}

/-! ### Spare converters (R169) -/

/-- The spares' turn is over, and their next begins. -/
def sparesTurned (s : State) : State := passDone 5 (setSup (fun x => { x with calNext := (s.sup.calNext + 1) % 4, calAt := s.now }) s)

/-- The converter of a path is outside its limit. -/
def spareKept (ch : Nat) (l : Lane) (s : State) : State :=
  raiseIrq Irq.SUP_CAL (record 0x0508 [iU8 1 ch, iU8 2 l.idx] (bump Off.SUP_CAL_CNT (setSup (fun x => { x with spares := x.spares.set l (some ch) }) s)))

theorem exec_adcCalRotation {due : Nat} (hdue : s.sup.calAt + 15000000000 = due) (hdsp : s.dspOn = true) (hspare : s.sup.spares.get l = none) : exec (.adcCalRotation fails) s = .next (
    (Lane.all.filter fun l => fails.getLsbD l.idx && (s.sup.spares.get l).isNone).foldl (fun u l => spareKept s.sup.calNext l u)
      (sparesTurned (advanceTo due s))) := by
  have hany : (Lane.all.any fun l => (s.sup.spares.get l).isNone) = true := by
    rw [List.any_eq_true]
    exact ⟨l, by cases l <;> decide, by rw [hspare]; rfl⟩
  refine congrArg Host.Outcome.next ((if_pos (by rw [hdsp, hany]; rfl)).trans ?_)
  have hsup : (advanceTo due s).sup = s.sup := (only_advanceTo only_refl : OnlyIn [.now, .isl, .nv, .time] s _).2 .sup (by decide)
  dsimp only
  rw [hdue, hsup]
  unfold sparesTurned
  rw [hsup]
  rfl

theorem sparesTurned_fields (s : State) : (sparesTurned s).sup = { s.sup with calNext := (s.sup.calNext + 1) % 4, calAt := s.now } ∧ (sparesTurned s).now = s.now :=
  ⟨rfl, rfl⟩

theorem onlyIn_sparesTurned (s : State) : OnlyIn [.sup, .tlm] s (sparesTurned s) := only_mk (only_mk (only_mk only_refl))

theorem passTold_sparesTurned {s' : State} (htlm : s'.tlm = s.tlm) : PassTold 5 s (sparesTurned s') :=
  passTold_passDone (by rw [← htlm]; rfl) (by rw [← htlm]; rfl)

theorem advanced_now (n : Nat) (s : State) : n ≤ (advanceTo n s).now := by
  rw [now_advanceTo]
  exact Nat.le_max_right _ _

theorem onlyIn_advanceTo (n : Nat) (s : State) : OnlyIn [.now, .isl, .nv, .time] s (advanceTo n s) := only_advanceTo only_refl

theorem exists_next_adcCalRotation (s : State) (l : Lane) (hdsp : s.dspOn = true) (hspare : s.sup.spares.get l = none) :
    ∃ t, exec (.adcCalRotation 0) s = .next t ∧ s.sup.calAt + 15000000000 ≤ t.now ∧
      t.sup = { s.sup with calNext := (s.sup.calNext + 1) % 4, calAt := t.now } ∧ PassTold 5 s t ∧
      OnlyIn [.now, .time, .nv, .isl, .sup, .tlm] s t := by
  obtain ⟨due, hdue⟩ : ∃ due, s.sup.calAt + 15000000000 = due := ⟨_, rfl⟩
  have hexec := exec_adcCalRotation hdue (fails := 0) hdsp hspare
  have hnone : (Lane.all.filter fun l => (0 : BitVec 3).getLsbD l.idx && (s.sup.spares.get l).isNone) = [] := by
    rw [List.filter_eq_nil_iff]
    intro l _
    rw [show (0 : BitVec 3) = 0#3 from rfl, BitVec.getLsbD_zero, Bool.false_and]
    exact Bool.false_ne_true
  rw [hnone, List.foldl_nil] at hexec
  have hadvance := onlyIn_advanceTo due s
  have hlate := advanced_now due s
  generalize advanceTo due s = w at *
  have hsup : w.sup = s.sup := hadvance.2 .sup (by decide)
  obtain ⟨hturned, hnow⟩ := sparesTurned_fields w
  have honly := onlyIn_sparesTurned w
  refine ⟨_, hexec, by rw [hdue, hnow]; exact hlate, by rw [hturned, hnow, hsup], passTold_sparesTurned (hadvance.2 .tlm (by decide)),
    onlyIn_trans (onlyIn_mono hadvance (by decide)) (onlyIn_mono honly (by decide))⟩

theorem lanes_of_bit (l : Lane) (free : Lane → Bool) (h : free l = true) : (Lane.all.filter fun k => (1#3 <<< l.idx).getLsbD k.idx && free k) = [l] := by
  cases l
  · simp [Lane.all, Lane.idx, h]
  · simp [Lane.all, Lane.idx, h]
  · simp [Lane.all, Lane.idx, h]

theorem exists_next_adcCalRotation_fails (s : State) (l : Lane) (fails : BitVec 3) (hwf : RegsWf s) (hdsp : s.dspOn = true) (hfails : fails = 1 <<< l.idx)
    (hspare : s.sup.spares.get l = none) :
    ∃ t, exec (.adcCalRotation fails) s = .next t ∧
      t.sup = { s.sup with calNext := (s.sup.calNext + 1) % 4, calAt := t.now, spares := s.sup.spares.set l (some s.sup.calNext) } ∧
      t.reg Off.SUP_CAL_CNT = s.reg Off.SUP_CAL_CNT + 1 ∧ Raised Irq.SUP_CAL t ∧ InQueue 0x0508 [iU8 1 s.sup.calNext, iU8 2 l.idx] s t ∧
      RegsOnly [Off.SUP_CAL_CNT, Off.REC_LOST_CNT] s t ∧ OnlyIn (.now :: .time :: .nv :: .sup :: .tlm :: recParts) s t := by
  obtain ⟨due, hdue⟩ : ∃ due, s.sup.calAt + 15000000000 = due := ⟨_, rfl⟩
  have hexec := exec_adcCalRotation hdue (fails := fails) hdsp hspare
  have hone : (Lane.all.filter fun k => fails.getLsbD k.idx && (s.sup.spares.get k).isNone) = [l] := by
    rw [hfails]
    exact lanes_of_bit l (fun k => (s.sup.spares.get k).isNone) (by rw [hspare]; rfl)
  rw [hone, List.foldl_cons, List.foldl_nil] at hexec
  have hadvance := onlyIn_advanceTo due s
  have hin : ∀ t, Recorded 0x0508 [iU8 1 s.sup.calNext, iU8 2 l.idx] (advanceTo due s) t → InQueue 0x0508 [iU8 1 s.sup.calNext, iU8 2 l.idx] s t :=
    fun t h => inQueue_of_recorded_later h
  generalize advanceTo due s = w at *
  have hsup : w.sup = s.sup := hadvance.2 .sup (by decide)
  obtain ⟨hturned, hnow⟩ := sparesTurned_fields w
  have hturn := onlyIn_sparesTurned w
  generalize sparesTurned w = x at *
  have hset : OnlyIn [.sup] x (setSup (fun y => { y with spares := y.spares.set l (some s.sup.calNext) }) x) := only_mk only_refl
  have hsetSup : (setSup (fun y => { y with spares := y.spares.set l (some s.sup.calNext) }) x).sup = { x.sup with spares := x.sup.spares.set l (some s.sup.calNext) } := rfl
  rw [spareKept] at hexec
  generalize setSup (fun y => { y with spares := y.spares.set l (some s.sup.calNext) }) x = y at *
  have hy := onlyIn_trans (onlyIn_mono hturn (by decide) : OnlyIn [.sup, .tlm] w x) (onlyIn_mono hset (by decide))
  have hwfy : RegsWf y := regsWf_of_only (regsWf_of_only hwf hadvance) hy
  have hbump : OnlyIn [.regs] y (bump Off.SUP_CAL_CNT y) := only_bump only_refl
  have hcount : (bump Off.SUP_CAL_CNT y).reg Off.SUP_CAL_CNT = y.reg Off.SUP_CAL_CNT + 1 := reg_bump_unmasked _ _ hwfy (by decide)
  have hbumpRegs : RegsOnly [Off.SUP_CAL_CNT] y (bump Off.SUP_CAL_CNT y) := regs_bump regs_refl
  generalize bump Off.SUP_CAL_CNT y = z at *
  have hz := onlyIn_trans (onlyIn_mono hy (by decide) : OnlyIn [.sup, .tlm, .regs] w y) (onlyIn_mono hbump (by decide))
  have hrec : Recorded 0x0508 [iU8 1 s.sup.calNext, iU8 2 l.idx] w (raiseIrq Irq.SUP_CAL (record 0x0508 [iU8 1 s.sup.calNext, iU8 2 l.idx] z)) :=
    recorded_after (P := [.icus]) (recorded_record_of hz) (only_raiseIrq only_refl)
  have hlast : OnlyIn recParts z (raiseIrq Irq.SUP_CAL (record 0x0508 [iU8 1 s.sup.calNext, iU8 2 l.idx] z)) := only_raiseIrq (only_record only_refl)
  have hlastRegs : RegsOnly [Off.REC_LOST_CNT] z (raiseIrq Irq.SUP_CAL (record 0x0508 [iU8 1 s.sup.calNext, iU8 2 l.idx] z)) := regs_raiseIrq (regs_record regs_refl)
  refine ⟨_, hexec, ?_, ?_, raised_raiseIrq _ _ (by decide), hin _ hrec, ?_, ?_⟩
  · rw [hlast.2 .sup (by decide), hlast.2 .now (by decide), hbump.2 .sup (by decide), hbump.2 .now (by decide), hset.2 .now (by decide), hsetSup, hturned, hnow, hsup]
  · rw [hlastRegs _ (by decide), hcount, reg_of_only _ hy, reg_of_only _ hadvance]
  · have hz : RegsOnly [Off.SUP_CAL_CNT] s z := regsOnly_trans (regs_of_only (regs_of_only regs_refl hadvance) hy) hbumpRegs
    exact regs_via (regs_via regs_refl (by decide) fun _ h => regsOnly_trans h hz : RegsOnly _ s z) (by decide) fun _ h => regsOnly_trans h hlastRegs
  · exact onlyIn_trans (onlyIn_trans (onlyIn_mono hadvance (by decide)) (onlyIn_mono hz (by decide))) (onlyIn_mono hlast (by decide))

end

end Sys2Proof.Machine

namespace Sys2Proof.Machine

set_option Elab.async false

section
variable {s t u : State} {n : Nat}

/-! ### What the work of the tracker leaves alone (R170, R177) -/

/-- Only the supply-phase domain is touched, and what `keep` reads of it is as before. -/
def SupAlike {α : Type} (keep : Sup → α) (s t : State) : Prop := OnlyIn [.sup] s t ∧ keep t.sup = keep s.sup

theorem supAlike_refl {α : Type} {keep : Sup → α} : SupAlike keep s s := ⟨only_refl, rfl⟩

theorem supAlike_trans {α : Type} {keep : Sup → α} (h : SupAlike keep s t) (h' : SupAlike keep t u) : SupAlike keep s u :=
  ⟨onlyIn_trans h.1 h'.1, h'.2.trans h.2⟩

theorem supAlike_setSup {α : Type} {keep : Sup → α} {f : Sup → Sup} (h : keep (f s.sup) = keep s.sup) : SupAlike keep s (setSup f s) := ⟨only_mk only_refl, h⟩

theorem supAlike_when {α : Type} {keep : Sup → α} {c : Bool} {f : State → State} (h : SupAlike keep s (f s)) : SupAlike keep s (when c f s) := by
  cases c
  · exact supAlike_refl
  · exact h

theorem supAlike_foldl {α β : Type} {keep : Sup → α} {f : State → β → State} (h : ∀ s x, SupAlike keep s (f s x)) (xs : List β) (s : State) :
    SupAlike keep s (xs.foldl f s) := by
  induction xs generalizing s with
  | nil => exact supAlike_refl
  | cons x xs ih => exact supAlike_trans (h s x) (ih (f s x))

/-- What values and fundamentals do not touch. -/
def trackerPart (x : Sup) : Lock × Word × Nat × Nat × List Nat × List DistEntry := (x.lock, x.phase, x.freq, x.thd, x.harm, x.fifo)

theorem trackerPart_eq {x y : Sup} (h : trackerPart x = trackerPart y) :
    x.lock = y.lock ∧ x.phase = y.phase ∧ x.freq = y.freq ∧ x.thd = y.thd ∧ x.harm = y.harm ∧ x.fifo = y.fifo := by simpa [trackerPart] using h

theorem refresh_keeps (n : Nat) (s : State) : SupAlike trackerPart s (refresh n s) := by
  unfold refresh
  dsimp only
  by_cases hdue : (!(s.chOn n) || decide (s.tb0 < (s.chan n).freshAt + s.valuePeriod)) = true
  · rw [if_pos hdue]
    exact supAlike_refl
  · rw [if_neg hdue]
    generalize (if s.supDc then meanOf _ else rmsOf _) = value
    cases value with
    | none => exact supAlike_refl
    | some x => exact supAlike_trans (supAlike_trans (supAlike_trans (supAlike_setSup rfl) (supAlike_setSup rfl)) (supAlike_setSup rfl)) (supAlike_setSup rfl)

theorem measureChan_keeps (f at_ n : Nat) (s : State) : SupAlike trackerPart s (measureChan f at_ n s) := by
  unfold measureChan
  split
  · exact supAlike_setSup rfl
  · exact supAlike_refl

theorem measureHalf_keeps (s : State) : SupAlike trackerPart s (measureHalf s) := by
  unfold measureHalf
  exact supAlike_trans (supAlike_foldl (fun u n => measureChan_keeps _ _ n u) [0, 1, 2, 3] s) (supAlike_setSup (by dsimp only [trackerPart]))

/-- Values and fundamentals are formed as their times come. -/
def valuesFormed (s : State) : State := when ([0, 1, 2, 3].foldl (fun s n => refresh n s) s).halfDue measureHalf ([0, 1, 2, 3].foldl (fun s n => refresh n s) s)

theorem valuesFormed_keeps (s : State) : SupAlike trackerPart s (valuesFormed s) :=
  supAlike_trans (supAlike_foldl (fun u n => refresh_keeps n u) _ s) (supAlike_when (measureHalf_keeps _))

/-- What windows and means do not touch. -/
def shownPart (x : Sup) : Lock × Word × Nat × Nat × Nat × Nat × List Chan × List DistEntry := (x.lock, x.phase, x.freq, x.phaseAt, x.measFreq, x.slope, x.chans, x.fifo)

theorem shownPart_parts {x : Sup} {l : Lock} {p : Word} {f at_ mf sl : Nat} {cs : List Chan} {es : List DistEntry} (h : shownPart x = (l, p, f, at_, mf, sl, cs, es)) :
    x.lock = l ∧ x.phase = p ∧ x.freq = f ∧ x.phaseAt = at_ ∧ x.measFreq = mf ∧ x.slope = sl ∧ x.chans = cs ∧ x.fifo = es := by simpa [shownPart] using h

/-- Windows and means after a tracker update. -/
def windowsEnded (fr : Nat) (s : State) : State :=
  meansEnd (windowEnd (when (s.sup.lock == .locked) (setSup fun x => { x with means := { x.means with freqs := x.means.freqs + fr, nFreq := x.means.nFreq + 1 } }) s))

theorem windowEnd_keeps (s : State) : SupAlike shownPart s (windowEnd s) := by
  unfold windowEnd
  dsimp only
  split
  · exact supAlike_refl
  · exact supAlike_setSup rfl

theorem meansEnd_keeps (s : State) : SupAlike shownPart s (meansEnd s) := by
  unfold meansEnd
  dsimp only
  split
  · exact supAlike_refl
  · exact supAlike_trans (supAlike_trans (supAlike_setSup rfl) (supAlike_setSup rfl)) (supAlike_setSup rfl)

theorem windowsEnded_keeps (fr : Nat) (s : State) : SupAlike shownPart s (windowsEnded fr s) :=
  supAlike_trans (supAlike_trans (supAlike_when (supAlike_setSup rfl)) (windowEnd_keeps _)) (meansEnd_keeps _)

theorem windowEnd_of_unlocked (h : s.sup.lock ≠ .locked) : windowEnd s = s := if_pos (by rw [bne_iff_ne.mpr h]; rfl)

theorem meansEnd_of_unlocked (h : s.sup.lock ≠ .locked) : meansEnd s = s := if_pos (by rw [bne_iff_ne.mpr h]; rfl)

/-- Without lock there are no windows and no means. -/
theorem windowsEnded_of_unlocked (fr : Nat) (h : s.sup.lock ≠ .locked) : windowsEnded fr s = s := by
  rw [windowsEnded, beq_false_of_ne h, when_false, windowEnd_of_unlocked h, meansEnd_of_unlocked h]

/-! ### The tracker's result (R172, R173) -/

/-- The phase that an update shows. -/
def State.phaseShown (s : State) (phase : Word) : Word :=
  match s.sup.lock with
  | .off => 0
  | .noSignal => s.sup.phase
  | .acquire => phase
  | .locked => s.lockedPhase phase
  | .hold => s.phaseNow

/-- The frequency that an update shows. -/
def State.freqShown (s : State) (freq : Nat) : Nat :=
  match s.sup.lock with
  | .off => 0
  | .acquire => freq % 4294967296
  | .locked => s.lockedFreq freq
  | _ => s.sup.freq

theorem shown_acquire {freq : Nat} (phase : Word) (h : s.sup.lock = .acquire) (hfreq : freq < 4294967296) : s.phaseShown phase = phase ∧ s.freqShown freq = freq := by
  rw [State.phaseShown, State.freqShown, h]
  exact ⟨rfl, Nat.mod_eq_of_lt hfreq⟩

theorem shown_off (freq : Nat) (phase : Word) (h : s.sup.lock = .off) : s.phaseShown phase = 0 ∧ s.freqShown freq = 0 := by
  rw [State.phaseShown, State.freqShown, h]
  exact ⟨rfl, rfl⟩

theorem shown_noSignal (freq : Nat) (phase : Word) (h : s.sup.lock = .noSignal) : s.phaseShown phase = s.sup.phase ∧ s.freqShown freq = s.sup.freq := by
  rw [State.phaseShown, State.freqShown, h]
  exact ⟨rfl, rfl⟩

theorem freqShown_hold (freq : Nat) (h : s.sup.lock = .hold) : s.freqShown freq = s.sup.freq := by rw [State.freqShown, h]

theorem shown_locked (freq : Nat) (phase : Word) (h : s.sup.lock = .locked) : s.phaseShown phase = s.lockedPhase phase ∧ s.freqShown freq = s.lockedFreq freq := by
  rw [State.phaseShown, State.freqShown, h]
  exact ⟨rfl, rfl⟩

/-- Phase and frequency are shown as of the present instant. -/
def trackerShown (freq : Nat) (phase : Word) (s : State) : State := setSup (fun x => { x with phase := s.phaseShown phase, freq := s.freqShown freq, phaseAt := s.tb0 }) s

theorem onlyIn_trackerShown (freq : Nat) (phase : Word) (s : State) : OnlyIn [.sup] s (trackerShown freq phase s) := only_mk only_refl

theorem trackerShown_fields (freq : Nat) (phase : Word) (s : State) :
    shownPart (trackerShown freq phase s).sup =
      (s.sup.lock, s.phaseShown phase, s.freqShown freq, s.tb0, s.sup.measFreq, s.sup.slope, s.sup.chans, s.sup.fifo) ∧
    (trackerShown freq phase s).sup.lock = s.sup.lock ∧ (trackerShown freq phase s).sup.thd = s.sup.thd ∧ (trackerShown freq phase s).sup.harm = s.sup.harm := ⟨rfl, rfl, rfl, rfl⟩

theorem lockedFreq_near (freq : Nat) (h : s.sup.slope ≤ 500000) : s.lockedFreq freq ≤ s.sup.measFreq + 1000 ∧ s.sup.measFreq ≤ s.lockedFreq freq + 1000 := by
  rw [State.lockedFreq, if_pos h]
  omega

theorem toInt_ofInt_of_small {i : Int} (h : i.natAbs ≤ 1193046) : (BitVec.ofInt 32 i).toInt = i := by
  rw [BitVec.toInt_ofInt]
  refine Int.bmod_eq_of_le ?_ ?_
  · norm_num
    omega
  · norm_num
    omega

theorem lockedPhase_near (phase : Word) (h : s.sup.slope ≤ 500000) :
    (s.lockedPhase phase - ((s.chan s.refCh).phase + turns s.sup.measFreq ((s.tb0 : Int) - (s.chan s.refCh).phaseAt))).toInt.natAbs ≤ 1193046 := by
  have hexcess : s.sup.slope - 500000 = 0 := Nat.sub_eq_zero_of_le h
  rw [State.lockedPhase, hexcess]
  generalize (s.chan s.refCh).phase + turns s.sup.measFreq ((s.tb0 : Int) - (s.chan s.refCh).phaseAt) = ref
  generalize signedTurn (phase - ref) = err
  have hlim : (degree : Int) / 10 + ((0 : Nat) : Int) * ((degree : Int) / 5) / 1000000 = 1193046 := by decide
  rw [hlim, add_sub_cancel_left, toInt_ofInt_of_small (by omega)]
  omega

/-! ### One update (R170) -/

theorem pistePhase_of_idle (h : s.pisteIdle = true) : pistePhase s = s := by
  obtain ⟨harmed, _⟩ := (pisteIdle_iff s).mp h
  have hnone : s.comparersOf 5 = [] := by rw [State.comparersOf, State.comparers, harmed]; rfl
  unfold pistePhase
  rw [hnone]
  exact ite_eq_right_iff.mpr fun _ => settleEdge_of_idle h

theorem pisteIdle_of_sup (h : s.pisteIdle = true) (ho : OnlyIn [.sup] s t) : t.pisteIdle = true :=
  pisteIdle_later h (ho.2 .pst (by decide)) (Nat.le_of_eq (ho.2 .now (by decide)).symm)

/-- What an update shows, once its values are formed. -/
def trackerResult (freq : Nat) (phase : Word) (s : State) : State := windowsEnded (s.freqShown freq) (trackerShown freq phase s)

/-- An update from its formed values on, step by step. -/
def trackerSteps (freq : Nat) (phase : Word) (s2 : State) : State :=
  let ph := s2.phaseShown phase
  let fr := s2.freqShown freq
  let s3 := setSup (fun x => { x with phase := ph, freq := fr, phaseAt := s2.tb0 }) s2
  let s4 := when (s3.sup.lock == .locked) (setSup fun x => { x with means := { x.means with freqs := x.means.freqs + fr, nFreq := x.means.nFreq + 1 } }) s3
  pistePhase (meansEnd (windowEnd s4))

theorem trackerSteps_eq (freq : Nat) (phase : Word) (s : State) : trackerSteps freq phase s = pistePhase (trackerResult freq phase s) := rfl

/-- The formed state is taken as it is: nothing in the steps after it depends on how it was formed. -/
theorem exec_trackerSteps {due freq : Nat} {phase : Word} (hdue : (s.tb0 / 10000 + 1) * 10000 = due) (hdsp : s.dspOn = true)
    (hbefore : pistePhase (toTb0 due s) = toTb0 due s) : exec (.supTrackerUpdate freq phase) s = .next (trackerSteps freq phase (valuesFormed (toTb0 due s))) := by
  have hformed : when ([0, 1, 2, 3].foldl (fun s n => refresh n s) (toTb0 due s)).halfDue measureHalf ([0, 1, 2, 3].foldl (fun s n => refresh n s) (toTb0 due s)) =
      valuesFormed (toTb0 due s) := rfl
  show execSupTrackerUpdate freq phase s = _
  unfold execSupTrackerUpdate
  rw [hdsp, when_true]
  dsimp only
  rw [hdue, hbefore, hformed]
  generalize valuesFormed (toTb0 due s) = x
  as_aux_lemma => rfl

theorem exec_supTrackerUpdate {due freq : Nat} {phase : Word} (hdue : (s.tb0 / 10000 + 1) * 10000 = due) (hdsp : s.dspOn = true) (hidle : s.pisteIdle = true) :
    exec (.supTrackerUpdate freq phase) s = .next (trackerResult freq phase (valuesFormed (toTb0 due s))) := by
  have hidleDue : (toTb0 due s).pisteIdle = true := pisteIdle_later hidle ((onlyIn_toTb0 due s).2 .pst (by decide)) (le_now_toTb0 due s)
  have hidleEnd : (trackerResult freq phase (valuesFormed (toTb0 due s))).pisteIdle = true :=
    pisteIdle_of_sup (pisteIdle_of_sup (pisteIdle_of_sup hidleDue (valuesFormed_keeps _).1) (onlyIn_trackerShown _ _ _)) (windowsEnded_keeps _ _).1
  rw [exec_trackerSteps hdue hdsp (pistePhase_of_idle hidleDue), trackerSteps_eq, pistePhase_of_idle hidleEnd]

theorem exists_next_supTrackerUpdate (s : State) (freq : Nat) (phase : Word) (hdsp : s.dspOn = true) (hidle : s.pisteIdle = true) (hfreq : freq < 4294967296) :
    ∃ t, exec (.supTrackerUpdate freq phase) s = .next t ∧ t.sup.phaseAt = t.tb0 ∧ t.sup.lock = s.sup.lock ∧
      (s.sup.lock = .acquire → t.sup.phase = phase ∧ t.sup.freq = freq) ∧
      (s.sup.lock = .off → t.sup.phase = 0 ∧ t.sup.freq = 0) ∧
      (s.sup.lock = .noSignal → t.sup.phase = s.sup.phase ∧ t.sup.freq = s.sup.freq) ∧ (s.sup.lock = .hold → t.sup.freq = s.sup.freq) ∧
      (s.sup.lock = .locked → t.sup.slope ≤ 500000 → t.sup.freq ≤ t.sup.measFreq + 1000 ∧ t.sup.measFreq ≤ t.sup.freq + 1000 ∧
        (t.sup.phase - ((t.chan t.refCh).phase + turns t.sup.measFreq ((t.tb0 : Int) - (t.chan t.refCh).phaseAt))).toInt.natAbs ≤ 1193046) ∧
      (s.sup.lock ≠ .locked → t.sup.thd = s.sup.thd ∧ t.sup.harm = s.sup.harm) ∧ t.sup.fifo = s.sup.fifo ∧
      OnlyIn [.now, .time, .nv, .isl, .sup] s t := by
  obtain ⟨due, hdue⟩ : ∃ due, (s.tb0 / 10000 + 1) * 10000 = due := ⟨_, rfl⟩
  have hexec := exec_supTrackerUpdate (freq := freq) (phase := phase) hdue hdsp hidle
  rw [trackerResult] at hexec
  have hto := onlyIn_toTb0 due s
  generalize toTb0 due s = w at *
  obtain ⟨hformOnly, hform⟩ := valuesFormed_keeps w
  generalize valuesFormed w = x at *
  rw [hto.2 .sup (by decide)] at hform
  obtain ⟨hlock, hphase, hfr, hthd, hharm, hfifo⟩ := trackerPart_eq hform
  obtain ⟨hshown, hyLock, hyThd, hyHarm⟩ := trackerShown_fields freq phase x
  have hshownOnly := onlyIn_trackerShown freq phase x
  generalize trackerShown freq phase x = y at *
  obtain ⟨hendOnly, hend⟩ := windowsEnded_keeps (x.freqShown freq) y
  have hopen : y.sup.lock ≠ .locked → windowsEnded (x.freqShown freq) y = y := windowsEnded_of_unlocked _
  generalize windowsEnded (x.freqShown freq) y = t at *
  have hxt : OnlyIn [.sup] x t := onlyIn_trans hshownOnly hendOnly
  have htb : t.tb0 = x.tb0 := tb0_congr (hxt.2 .time (by decide)).symm
  have href : t.refCh = x.refCh := congrArg (fld · 4 2) (reg_of_only Off.SUP_CFG hxt)
  rw [hshown] at hend
  obtain ⟨hl, hp, hf, hat, hm, hs, hc, hff⟩ := shownPart_parts hend
  have hchan : t.chan t.refCh = x.chan x.refCh := by rw [href, chan_congr hc]
  refine ⟨t, hexec, hat.trans htb.symm, hl.trans hlock, fun h => ?_, fun h => ?_, fun h => ?_, fun h => ?_, fun h hslope => ?_, fun h => ?_, hff.trans hfifo, ?_⟩
  · rw [hp, hf]
    exact shown_acquire phase (hlock.trans h) hfreq
  · rw [hp, hf]
    exact shown_off freq phase (hlock.trans h)
  · rw [hp, hf, ← hphase, ← hfr]
    exact shown_noSignal freq phase (hlock.trans h)
  · rw [hf, freqShown_hold freq (hlock.trans h), hfr]
  · rw [hs] at hslope
    obtain ⟨hphaseLocked, hfreqLocked⟩ := shown_locked freq phase (hlock.trans h)
    rw [hf, hm, hp, hchan, htb, hfreqLocked, hphaseLocked]
    exact ⟨(lockedFreq_near freq hslope).1, (lockedFreq_near freq hslope).2, lockedPhase_near phase hslope⟩
  · rw [hopen (by rw [hyLock, hlock]; exact h)]
    exact ⟨hyThd.trans hthd, hyHarm.trans hharm⟩
  · exact onlyIn_trans (onlyIn_mono hto (by decide)) (onlyIn_mono (onlyIn_trans hformOnly hxt) (by decide))

end

end Sys2Proof.Machine

namespace Sys2Proof.Machine

set_option Elab.async false

section
variable {s t u : State} {cls ch f a : Nat} {v l : Int}

/-! ### A disturbance begins (R174, R175) -/

/-- The begin condition of a class is met by the value `v` at the limit `l` (Table 5.5). -/
def BeginMet (s : State) (cls ch f a : Nat) (v l : Int) : Prop :=
  cls = 1 ∧ v = (s.chan ch).val ∧ (v < s.supLimit 1 ∧ l = s.supLimit 1 ∨
    (s.supLimit 1 : Int) ≤ v ∧ v < s.supLimit 2 ∧ l = s.supLimit 2 ∧ (s.chan ch).lowAt = some a ∧ a + 120000000000 ≤ s.tb0) ∨
  cls = 2 ∧ v = (s.chan ch).val ∧ (s.supLimit 4 < v ∧ l = s.supLimit 4 ∨
    s.supLimit 3 < v ∧ v ≤ s.supLimit 4 ∧ l = s.supLimit 3 ∧ (s.chan ch).highAt = some a ∧ a + 300000000000 ≤ s.tb0) ∨
  cls = 3 ∧ v = (s.chan ch).val ∧ v < s.brokenLimit ∧ l = s.brokenLimit ∨
  cls = 4 ∧ v = (s.chan ch).dev ∧ s.spikeLimit < v ∧ l = s.spikeLimit ∧ (s.chan ch).long = false ∨
  cls = 5 ∧ s.sup.means.freq = some f ∧ (f < s.supLimit 5 * 1000 ∨ s.supLimit 6 * 1000 < f) ∧ v = f ∧ l = 0 ∨
  cls = 6 ∧ s.sup.means.thd = some f ∧ s.supLimit 7 < f ∧ v = f ∧ l = s.supLimit 7

theorem class_of_beginMet (h : BeginMet s cls ch f a v l) : cls ∈ [1, 2, 3, 4, 5, 6] := by
  obtain ⟨rfl, _⟩ | ⟨rfl, _⟩ | ⟨rfl, _⟩ | ⟨rfl, _⟩ | ⟨rfl, _⟩ | ⟨rfl, _⟩ := h <;> decide

/-- Each class has a counter of its own. -/
theorem distCount_key (h : cls ∈ [1, 2, 3, 4, 5, 6]) : regMask (Off.SUP_DIST_CNT + 4 * (cls - 1)) = BitVec.allOnes 32 ∧
    (Off.SUP_DIST_CNT + 4 * (cls - 1)) % 16777216 = Off.SUP_DIST_CNT + 4 * (cls - 1) := by
  revert cls
  decide

theorem lasted_of_some {at_ : Option Nat} {sec : Nat} (h : at_ = some a) (hlong : a + sec * 1000000000 ≤ s.tb0) : s.lasted at_ sec = true := by
  rw [State.lasted, h, Option.any_some, decide_eq_true hlong]

theorem offBand_pos (h : f < s.supLimit 5 * 1000 ∨ s.supLimit 6 * 1000 < f) : s.offBand f ≠ 0 := by
  rw [State.offBand]
  omega

theorem offBand_inside (h : s.supLimit 5 * 1000 ≤ f) (h' : f ≤ s.supLimit 6 * 1000) : s.offBand f = 0 := by
  rw [State.offBand]
  omega

theorem harmHigh_of_thd (h : s.sup.means.thd = some f) (hhigh : s.supLimit 7 < f) : s.harmHigh = true := by
  rw [State.harmHigh, h, Option.any_some, decide_eq_true hhigh, Bool.true_or]

theorem begins_dip (hc : (s.chan ch).val < s.supLimit 1 ∧ l = s.supLimit 1 ∨ (s.supLimit 1 : Int) ≤ (s.chan ch).val ∧ (s.chan ch).val < s.supLimit 2 ∧
    l = s.supLimit 2 ∧ (s.chan ch).lowAt = some a ∧ a + 120000000000 ≤ s.tb0) : s.begins 1 ch = some ((s.chan ch).val, l) := by
  unfold State.begins
  obtain ⟨hlow, rfl⟩ | ⟨hnot, hlow, rfl, hat, hlong⟩ := hc
  · exact if_pos hlow
  · refine (if_neg (Int.not_lt.mpr hnot)).trans (if_pos ?_)
    rw [decide_eq_true hlow, lasted_of_some hat (by omega), Bool.or_true]
    rfl

theorem begins_swell (hc : s.supLimit 4 < (s.chan ch).val ∧ l = s.supLimit 4 ∨ s.supLimit 3 < (s.chan ch).val ∧ (s.chan ch).val ≤ s.supLimit 4 ∧
    l = s.supLimit 3 ∧ (s.chan ch).highAt = some a ∧ a + 300000000000 ≤ s.tb0) : s.begins 2 ch = some ((s.chan ch).val, l) := by
  unfold State.begins
  obtain ⟨hhigh, rfl⟩ | ⟨hhigh, hnot, rfl, hat, hlong⟩ := hc
  · exact if_pos hhigh
  · refine (if_neg (Int.not_lt.mpr hnot)).trans (if_pos ?_)
    rw [decide_eq_true hhigh, lasted_of_some hat (by omega)]
    rfl

theorem begins_of_met (h : BeginMet s cls ch f a v l) : s.begins cls ch = some (v, l) := by
  obtain ⟨rfl, rfl, hc⟩ | ⟨rfl, rfl, hc⟩ | ⟨rfl, rfl, hlow, rfl⟩ | ⟨rfl, rfl, hspike, rfl, hlong⟩ | ⟨rfl, hf, hband, rfl, rfl⟩ | ⟨rfl, hf, hhigh, rfl, rfl⟩ := h
  · exact begins_dip hc
  · exact begins_swell hc
  · exact if_pos hlow
  · exact if_pos (by rw [decide_eq_true (Int.ofNat_lt.mp hspike), hlong]; rfl)
  · unfold State.begins
    rw [hf]
    exact if_neg (offBand_pos hband)
  · unfold State.begins
    rw [hf]
    exact if_pos (harmHigh_of_thd hf hhigh)

/-- No event stands on a channel: none of its class, and no DIP to take over. -/
theorem free_of_active (p : Dist → Bool) (h : ∀ d ∈ s.sup.active, d.chan ≠ ch) : (s.sup.active.any fun d => d.chan == ch && p d) = false := by
  rw [List.any_eq_false]
  intro d hd
  rw [beq_false_of_ne (h d hd), Bool.false_and]
  exact Bool.false_ne_true

theorem exec_disturbanceStart (hdsp : s.dspOn = true) (hclass : s.classifies cls ch = true) (hbegin : s.begins cls ch = some (v, l))
    (hfree : (s.sup.active.any fun d => d.chan == ch && (d.cls == cls || (cls == 1 && d.cls == 3))) = false) :
    exec (.disturbanceStart cls ch) s = .next (distStart cls ch v l s) := by
  show execDisturbanceStart cls ch s = _
  unfold execDisturbanceStart
  rw [hbegin]
  exact congrArg Host.Outcome.next (if_pos (by rw [hdsp, hclass, hfree]; rfl))

/-- A begin is counted and told. -/
def beginTold (cls : Nat) (s : State) : State := raiseIrq Irq.SUP_DIST_START (bump (Off.SUP_DIST_CNT + 4 * (cls - 1)) s)

/-- An event stands, beside those in `left`. -/
def eventSet (d : Dist) (left : List Dist) (s : State) : State := setSup (fun x => { x with active := d :: left }) s

theorem filter_of_free (p : Dist → Bool) (h : ∀ d ∈ s.sup.active, d.chan ≠ ch) : s.sup.active.filter (fun d => !(p d && d.chan == ch)) = s.sup.active := by
  rw [List.filter_eq_self]
  intro d hd
  rw [beq_false_of_ne (h d hd), Bool.and_false]
  rfl

theorem find_of_free (p : Dist → Bool) (h : ∀ d ∈ s.sup.active, d.chan ≠ ch) : s.sup.active.find? (fun d => p d && d.chan == ch) = none := by
  rw [List.find?_eq_none]
  intro d hd
  rw [beq_false_of_ne (h d hd), Bool.and_false]
  exact Bool.false_ne_true

theorem distStart_new (hended : s.sup.ended = []) (hfree : ∀ d ∈ s.sup.active, d.chan ≠ ch) :
    distStart cls ch v l s = beginTold cls (eventSet ⟨cls, ch, s.tb0, v, l⟩ s.sup.active s) := by
  unfold distStart
  dsimp only
  rw [hended, filter_of_free _ hfree, find_of_free _ hfree]
  rfl

theorem distStart_extends {at_ start : Nat} {x : Int} (hended : s.sup.ended = [(cls, ch, at_, start, x)]) (hnear : s.tb0 ≤ at_ + 20000000)
    (hfree : ∀ d ∈ s.sup.active, d.chan ≠ ch) : distStart cls ch v l s = eventSet ⟨cls, ch, start, s.extremeOf cls x v, l⟩ s.sup.active s := by
  have hfind : s.sup.ended.find? (fun e => e.1 == cls && e.2.1 == ch && decide (s.tb0 ≤ e.2.2.1 + 20000000)) = some (cls, ch, at_, start, x) := by
    rw [hended]
    exact List.find?_cons_of_pos (by rw [beq_self_eq_true, beq_self_eq_true, decide_eq_true hnear]; rfl)
  unfold distStart
  dsimp only
  rw [hfind, filter_of_free _ hfree]
  rfl

theorem exists_next_disturbanceStart (s : State) (cls ch f a : Nat) (v l : Int) (hwf : RegsWf s) (hdsp : s.dspOn = true) (hclass : s.classifies cls ch = true)
    (hmet : BeginMet s cls ch f a v l) (hfree : ∀ d ∈ s.sup.active, d.chan ≠ ch) :
    (s.sup.ended = [] → ∃ t, exec (.disturbanceStart cls ch) s = .next t ∧
      t.sup = { s.sup with active := ⟨cls, ch, s.tb0, v, l⟩ :: s.sup.active } ∧
      t.reg (Off.SUP_DIST_CNT + 4 * (cls - 1)) = s.reg (Off.SUP_DIST_CNT + 4 * (cls - 1)) + 1 ∧ Raised Irq.SUP_DIST_START t ∧
      RegsOnly [Off.SUP_DIST_CNT + 4 * (cls - 1)] s t ∧ OnlyIn [.regs, .sup, .icus] s t) ∧
    (∀ (at_ start : Nat) (x : Int), s.sup.ended = [(cls, ch, at_, start, x)] → s.tb0 ≤ at_ + 20000000 →
      ∃ t, exec (.disturbanceStart cls ch) s = .next t ∧
      t.sup = { s.sup with active := ⟨cls, ch, start, s.extremeOf cls x v, l⟩ :: s.sup.active } ∧ OnlyIn [.sup] s t) := by
  have hexec := exec_disturbanceStart hdsp hclass (begins_of_met hmet) (free_of_active _ hfree)
  obtain ⟨hmask, hkey⟩ := distCount_key (class_of_beginMet hmet)
  refine ⟨fun hended => ?_, fun at_ start x hended hnear => ?_⟩
  · rw [distStart_new hended hfree] at hexec
    have hset : OnlyIn [.sup] s (eventSet ⟨cls, ch, s.tb0, v, l⟩ s.sup.active s) := only_mk only_refl
    have hwfSet : RegsWf (eventSet ⟨cls, ch, s.tb0, v, l⟩ s.sup.active s) := regsWf_of_only hwf hset
    refine ⟨_, hexec, rfl, ?_, raised_raiseIrq _ _ (by decide), ?_, only_raiseIrq (only_bump (only_mk only_refl))⟩
    · exact (raiseIrq_reg _ _ _).trans (reg_bump_unmasked _ _ hwfSet hmask)
    · exact regs_raiseIrq (regs_bump (regs_mk regs_refl) (by rw [hkey]; exact List.mem_singleton_self _))
  · rw [distStart_extends hended hnear hfree] at hexec
    exact ⟨_, hexec, rfl, only_mk only_refl⟩

/-! ### An interruption takes over a dip (R175) -/

theorem distStart_takesOver {d : Dist} (hactive : s.sup.active = [d]) (hdip : d.cls = 1) (hch : d.chan = ch) (hended : s.sup.ended = []) :
    distStart 3 ch v l s = beginTold 3 (eventSet ⟨3, ch, d.start, v, l⟩ [] s) := by
  unfold distStart
  dsimp only
  have hit : (3 == 3 && d.cls == 1 && d.chan == ch) = true := by
    rw [hdip, hch, beq_self_eq_true, beq_self_eq_true, beq_self_eq_true]
    rfl
  have hfind : [d].find? (fun d => 3 == 3 && d.cls == 1 && d.chan == ch) = some d := List.find?_cons_of_pos hit
  have hleft : [d].filter (fun d => !(3 == 3 && d.cls == 1 && d.chan == ch)) = [] := List.filter_cons_of_neg (by rw [hit]; exact Bool.false_ne_true)
  rw [hended, hactive, hfind, hleft]
  rfl

theorem exists_next_disturbanceStart_takesOver (s : State) (ch : Nat) (d : Dist) (hdsp : s.dspOn = true) (hclass : s.classifies 3 ch = true)
    (hlow : (s.chan ch).val < s.brokenLimit) (hdip : d.cls = 1) (hch : d.chan = ch) (hactive : s.sup.active = [d]) (hended : s.sup.ended = []) :
    ∃ t, exec (.disturbanceStart 3 ch) s = .next t ∧ t.sup = { s.sup with active := [⟨3, ch, d.start, (s.chan ch).val, s.brokenLimit⟩] } ∧
      OnlyIn [.regs, .sup, .icus] s t := by
  have hfree : (s.sup.active.any fun d => d.chan == ch && (d.cls == 3 || (3 == 1 && d.cls == 3))) = false := by
    rw [hactive, List.any_cons, List.any_nil, hdip]
    exact (Bool.or_false _).trans (Bool.and_false _)
  have hexec := exec_disturbanceStart hdsp hclass (if_pos hlow) hfree
  rw [distStart_takesOver hactive hdip hch hended] at hexec
  exact ⟨_, hexec, rfl, only_raiseIrq (only_bump (only_mk only_refl))⟩

end

end Sys2Proof.Machine

namespace Sys2Proof.Machine

set_option Elab.async false

section
variable {s t u : State} {d : Dist} {f : Nat}

/-! ### A disturbance ends (R176) -/

/-- The entry of an event that ends now. -/
def distEntry (d : Dist) (s : State) : DistEntry :=
  { head := mkWord [(0, d.cls), (4, d.chan), (8, (s.sup.seq + 1).toNat), (16, b2n s.sup.lost)], start := ctime d.start,
    dur := BitVec.ofNat 32 (min 4294967295 ((s.tb0 - d.start) / 1000)), extreme := BitVec.ofInt 32 (satSigned 32 d.extreme) }

/-- The event is closed, before its entry is queued. -/
def distClosed (d : Dist) (s : State) : State :=
  { s with sup := { s.sup with
    active := s.sup.active.filter (fun y => !(y.cls == d.cls && y.chan == d.chan)), seq := s.sup.seq + 1, lastEnd := s.tb0
    recent := ((s.sup.recent ++ [distEntry d s]).reverse.take 16).reverse
    ended := (d.cls, d.chan, s.tb0, d.start, d.extreme) :: s.sup.ended.filter fun y => !(y.1 == d.cls && y.2.1 == d.chan) } }

/-- The entry is queued, or lost with the FIFO full. -/
def distQueued (e : DistEntry) (s : State) : State := raiseIrq Irq.SUP_DIST_END { s with sup := { s.sup with fifo := s.sup.fifo ++ [e], lost := false } }

def distLost (s : State) : State := raiseIrq Irq.SUP_DIST_OVERFLOW (bump Off.SUP_FIFO_LOST { s with sup := { s.sup with lost := true } })

/-- The record of an event that has ended, when enabled. -/
def distRecorded (d : Dist) (e : DistEntry) (s : State) : State :=
  when (bit (s.reg Off.SUP_CFG) (15 + d.cls))
    (record 0x0507 [iU8 1 d.cls, iU8 2 d.chan, iU32 3 e.start.toNat, iU32 4 e.dur.toNat, iI32 5 (satSigned 32 d.extreme)]) s

theorem distEnd_of_room (h : s.sup.fifo.length < 16) : distEnd d s = distRecorded d (distEntry d s) (distQueued (distEntry d s) (distClosed d s)) := by
  have hsplit : (if s.sup.fifo.length < 16 then distQueued (distEntry d s) (distClosed d s) else distLost (distClosed d s)) = distQueued (distEntry d s) (distClosed d s) := if_pos h
  rw [← hsplit]
  rfl

theorem distEnd_of_full (h : 16 ≤ s.sup.fifo.length) : distEnd d s = distRecorded d (distEntry d s) (distLost (distClosed d s)) := by
  have hsplit : (if s.sup.fifo.length < 16 then distQueued (distEntry d s) (distClosed d s) else distLost (distClosed d s)) = distLost (distClosed d s) :=
    if_neg (Nat.not_lt.mpr h)
  rw [← hsplit]
  rfl

theorem distClosed_fields (hactive : s.sup.active = [d]) : (distClosed d s).sup.active = [] ∧ (distClosed d s).sup.fifo = s.sup.fifo := by
  refine ⟨?_, rfl⟩
  have hself : (!(d.cls == d.cls && d.chan == d.chan)) = false := by
    rw [beq_self_eq_true, beq_self_eq_true]
    rfl
  show s.sup.active.filter _ = []
  rw [hactive]
  exact List.filter_cons_of_neg (by rw [hself]; exact Bool.false_ne_true)

theorem onlyIn_distClosed (d : Dist) (s : State) : OnlyIn [.sup] s (distClosed d s) := only_mk only_refl

theorem distQueued_told (e : DistEntry) (s : State) : (distQueued e s).sup = { s.sup with fifo := s.sup.fifo ++ [e], lost := false } ∧
    Raised Irq.SUP_DIST_END (distQueued e s) ∧ RegsOnly [] s (distQueued e s) ∧ OnlyIn [.sup, .icus] s (distQueued e s) :=
  ⟨rfl, raised_raiseIrq _ _ (by decide), regs_raiseIrq (regs_mk regs_refl), only_raiseIrq (only_mk only_refl)⟩

theorem distLost_told (s : State) : (distLost s).sup = { s.sup with lost := true } ∧ Raised Irq.SUP_DIST_OVERFLOW (distLost s) ∧
    (RegsWf s → (distLost s).reg Off.SUP_FIFO_LOST = s.reg Off.SUP_FIFO_LOST + 1) ∧ RegsOnly [Off.SUP_FIFO_LOST] s (distLost s) ∧
    OnlyIn [.sup, .regs, .icus] s (distLost s) := by
  refine ⟨rfl, raised_raiseIrq _ _ (by decide), fun hwf => ?_, regs_raiseIrq (regs_bump (regs_mk regs_refl)), only_raiseIrq (only_bump (only_mk only_refl))⟩
  have hset : RegsWf { s with sup := { s.sup with lost := true } } := wf_mk hwf
  exact (raiseIrq_reg _ _ _).trans (reg_bump_unmasked _ _ hset (by decide))

theorem distRecorded_told (d : Dist) (e : DistEntry) (s : State) : (distRecorded d e s).sup = s.sup ∧ (∀ k, Raised k s → Raised k (distRecorded d e s)) ∧
    RegsOnly [Off.REC_LOST_CNT] s (distRecorded d e s) ∧ OnlyIn recParts s (distRecorded d e s) := by
  have honly : OnlyIn recParts s (distRecorded d e s) := only_when only_record only_refl
  exact ⟨honly.2 .sup (by decide), fun k h => raised_when raised_record h, regs_when regs_record regs_refl, honly⟩

/-! ### The entry's head word -/

theorem fld_mkWord_four (a b c d x y z w lo n : Nat) :
    fld (mkWord [(a, x), (b, y), (c, z), (d, w)]) lo n = (x * 2 ^ a + y * 2 ^ b + z * 2 ^ c + w * 2 ^ d) % 2 ^ 32 / 2 ^ lo % 2 ^ n := by
  simp [mkWord, fld, Nat.shiftLeft_eq, Nat.shiftRight_eq_div_pow]

theorem bit_eq_fld (w : Word) (i : Nat) : bit w i = decide (fld w i 1 = 1) := by
  rw [bit, BitVec.getLsbD, Nat.testBit_eq_decide_div_mod_eq, fld, Nat.shiftRight_eq_div_pow, pow_one]

theorem distHead_fields (hcls : d.cls ≤ 6) (hch : d.chan < 4) : fld (distEntry d s).head 0 3 = d.cls ∧ bit (distEntry d s).head 16 = s.sup.lost := by
  have hseq : (s.sup.seq + 1).toNat < 256 := (s.sup.seq + 1).isLt
  rw [bit_eq_fld, distEntry]
  dsimp only
  rw [fld_mkWord_four, fld_mkWord_four]
  cases s.sup.lost
  · simp only [b2n, Bool.false_eq_true, if_false, decide_eq_false_iff_not]
    omega
  · simp only [b2n, if_true, decide_eq_true_eq]
    omega

/-- The end condition of an event is met (Table 5.5). -/
def EndMet (s : State) (d : Dist) (f : Nat) : Prop :=
  (d.cls = 1 ∨ d.cls = 3) ∧ d.limit + (s.supLimit 0 * 2 / 100 : Nat) < (s.chan d.chan).val ∨
  d.cls = 2 ∧ (s.chan d.chan).val < d.limit - (s.supLimit 0 * 2 / 100 : Nat) ∨ d.cls = 4 ∧ 20 ≤ (s.chan d.chan).within ∨
  d.cls = 5 ∧ s.sup.means.freq = some f ∧ s.supLimit 5 * 1000 ≤ f ∧ f ≤ s.supLimit 6 * 1000 ∨
  d.cls = 6 ∧ s.sup.means.thd ≠ none ∧ s.harmHigh = false

theorem ends_of_met (h : EndMet s d f) : s.ends d = true := by
  unfold State.ends
  obtain ⟨hc | hc, hval⟩ | ⟨hc, hval⟩ | ⟨hc, hrun⟩ | ⟨hc, hf, hlow, hhigh⟩ | ⟨hc, hthd, hnot⟩ := h
  · rw [hc]
    exact decide_eq_true hval
  · rw [hc]
    exact decide_eq_true hval
  · rw [hc]
    exact decide_eq_true hval
  · rw [hc]
    exact decide_eq_true hrun
  · rw [hc, hf]
    exact beq_iff_eq.mpr (offBand_inside hlow hhigh)
  · rw [hc, hnot, Option.isSome_iff_ne_none.mpr hthd]
    rfl

theorem class_le_of_endMet (h : EndMet s d f) : d.cls ≤ 6 := by
  obtain ⟨hc | hc, _⟩ | ⟨hc, _⟩ | ⟨hc, _⟩ | ⟨hc, _⟩ | ⟨hc, _⟩ := h <;> rw [hc] <;> decide

theorem chan_lt_of_classifies {cls ch : Nat} (h : s.classifies cls ch = true) : ch < 4 := by
  simp only [State.classifies, Bool.and_eq_true, decide_eq_true_eq] at h
  omega

theorem exec_disturbanceEnd (hdsp : s.dspOn = true) (hactive : s.sup.active = [d]) (hclass : s.classifies d.cls d.chan = true) (hends : s.ends d = true) :
    exec (.disturbanceEnd d.cls d.chan) s = .next (distEnd d s) := by
  have hself : (d.cls == d.cls && d.chan == d.chan) = true := by
    rw [beq_self_eq_true, beq_self_eq_true]
    rfl
  have hfind : s.activeDist d.cls d.chan = some d := by
    rw [State.activeDist, hactive]
    exact List.find?_cons_of_pos hself
  show execDisturbanceEnd d.cls d.chan s = _
  unfold execDisturbanceEnd
  rw [hfind]
  exact congrArg Host.Outcome.next (if_pos (by rw [hdsp, hclass, hends]; rfl))

theorem exists_next_disturbanceEnd (s : State) (d : Dist) (f : Nat) (hwf : RegsWf s) (hdsp : s.dspOn = true) (hactive : s.sup.active = [d])
    (hclass : s.classifies d.cls d.chan = true) (hmet : EndMet s d f) :
    (s.sup.fifo.length < 16 →
      ∃ t e, exec (.disturbanceEnd d.cls d.chan) s = .next t ∧ t.sup.active = [] ∧ t.sup.fifo = s.sup.fifo ++ [e] ∧ t.sup.lost = false ∧
        fld e.head 0 3 = d.cls ∧ bit e.head 16 = s.sup.lost ∧ e.start = ctime d.start ∧
        e.dur = BitVec.ofNat 32 (min 4294967295 ((s.tb0 - d.start) / 1000)) ∧ e.extreme = BitVec.ofInt 32 (satSigned 32 d.extreme) ∧
        Raised Irq.SUP_DIST_END t ∧ RegsOnly [Off.REC_LOST_CNT] s t ∧ OnlyIn (.sup :: recParts) s t) ∧
    (16 ≤ s.sup.fifo.length →
      ∃ t, exec (.disturbanceEnd d.cls d.chan) s = .next t ∧ t.sup.active = [] ∧ t.sup.fifo = s.sup.fifo ∧ t.sup.lost = true ∧
        t.reg Off.SUP_FIFO_LOST = s.reg Off.SUP_FIFO_LOST + 1 ∧ Raised Irq.SUP_DIST_OVERFLOW t ∧
        RegsOnly [Off.SUP_FIFO_LOST, Off.REC_LOST_CNT] s t ∧ OnlyIn (.sup :: recParts) s t) := by
  have hexec := exec_disturbanceEnd hdsp hactive hclass (ends_of_met hmet)
  obtain ⟨hhead, hbit⟩ := distHead_fields (s := s) (class_le_of_endMet hmet) (chan_lt_of_classifies hclass)
  obtain ⟨hnone, hfifo⟩ := distClosed_fields hactive
  have hclosed := onlyIn_distClosed d s
  have hwfClosed : RegsWf (distClosed d s) := regsWf_of_only hwf hclosed
  refine ⟨fun hroom => ?_, fun hfull => ?_⟩
  · rw [distEnd_of_room hroom] at hexec
    obtain ⟨hqSup, hqRaised, hqRegs, hqOnly⟩ := distQueued_told (distEntry d s) (distClosed d s)
    obtain ⟨hrSup, hrRaised, hrRegs, hrOnly⟩ := distRecorded_told d (distEntry d s) (distQueued (distEntry d s) (distClosed d s))
    refine ⟨_, distEntry d s, hexec, ?_, ?_, ?_, hhead, hbit, rfl, rfl, rfl, hrRaised _ hqRaised, ?_, ?_⟩
    · rw [hrSup, hqSup]
      exact hnone
    · rw [hrSup, hqSup, ← hfifo]
    · rw [hrSup, hqSup]
    · exact regsOnly_trans (regs_via (regs_of_only regs_refl hclosed) (by decide) fun _ h => regsOnly_trans h hqRegs) hrRegs
    · exact onlyIn_trans (onlyIn_trans (onlyIn_mono hclosed (by decide)) (onlyIn_mono hqOnly (by decide))) (onlyIn_mono hrOnly (by decide))
  · rw [distEnd_of_full hfull] at hexec
    obtain ⟨hlSup, hlRaised, hlCount, hlRegs, hlOnly⟩ := distLost_told (distClosed d s)
    obtain ⟨hrSup, hrRaised, hrRegs, hrOnly⟩ := distRecorded_told d (distEntry d s) (distLost (distClosed d s))
    refine ⟨_, hexec, ?_, ?_, ?_, ?_, hrRaised _ hlRaised, ?_, ?_⟩
    · rw [hrSup, hlSup]
      exact hnone
    · rw [hrSup, hlSup]
      exact hfifo
    · rw [hrSup, hlSup]
    · rw [hrRegs _ (by decide), hlCount hwfClosed, reg_of_only _ hclosed]
    · exact regs_via (regs_via (regs_of_only regs_refl hclosed) (by decide) fun _ h => regsOnly_trans h hlRegs : RegsOnly _ s _) (by decide) fun _ h => regsOnly_trans h hrRegs
    · exact onlyIn_trans (onlyIn_trans (onlyIn_mono hclosed (by decide)) (onlyIn_mono hlOnly (by decide))) (onlyIn_mono hrOnly (by decide))

/-! ### Reading the head (R176, R81) -/

theorem distHeadOp_of_cons {core : Nat} {e : DistEntry} {rest : List DistEntry} (h : s.sup.fifo = e :: rest) :
    distHeadOp core s = answerAll core e.head false (setLatch none core Off.SUP_DIST_HEAD
      [(Off.SUP_DIST_START, e.start), (Off.SUP_DIST_DUR, e.dur), (Off.SUP_DIST_EXTREME, e.extreme)] { s with sup := { s.sup with fifo := rest } }) := by
  unfold distHeadOp
  rw [h]
  rfl

theorem distHeadOp_of_nil {core : Nat} (h : s.sup.fifo = []) :
    distHeadOp core s = answerAll core 0 false (setLatch none core Off.SUP_DIST_HEAD
      [(Off.SUP_DIST_START, 0), (Off.SUP_DIST_DUR, 0), (Off.SUP_DIST_EXTREME, 0)] s) := by
  have hsame : ({ s with sup := { s.sup with fifo := s.sup.fifo.drop 1 } } : State) = s := by
    rw [h]
    show ({ s with sup := { s.sup with fifo := [] } } : State) = s
    rw [← h]
  unfold distHeadOp
  dsimp only
  rw [hsame, h]
  rfl

theorem exists_next_supDistHeadRead (s : State) (core : Nat) (e : DistEntry) (rest : List DistEntry) (hup : s.up = true) (hfifo : s.sup.fifo = e :: rest) :
    ∃ t, exec (.supDistHeadRead core) s = .next t ∧ t.sup = { s.sup with fifo := rest } ∧ t.vot = s.vot.answered core e.head false ∧
      t.latched none core Off.SUP_DIST_START = some e.start ∧ t.latched none core Off.SUP_DIST_DUR = some e.dur ∧
      t.latched none core Off.SUP_DIST_EXTREME = some e.extreme ∧ OnlyIn [.latches, .sup, .vot] s t := by
  refine ⟨_, congrArg Host.Outcome.next ((if_pos hup).trans (distHeadOp_of_cons hfifo)), (onlyIn_answerAll core e.head false _).2 .sup (by decide), answerAll_vot _ _ _ _, ?_, ?_, ?_,
    only_answerAll (only_setLatch (only_mk only_refl))⟩
  · rw [latched_answerAll]
    exact latched_setLatch _ _ _ _ _ _ _ rfl
  · rw [latched_answerAll]
    exact latched_setLatch _ _ _ _ _ _ _ rfl
  · rw [latched_answerAll]
    exact latched_setLatch _ _ _ _ _ _ _ rfl

theorem exists_next_supDistHeadRead_empty (s : State) (core : Nat) (hup : s.up = true) (hfifo : s.sup.fifo = []) :
    ∃ t, exec (.supDistHeadRead core) s = .next t ∧ t.sup = s.sup ∧ t.vot = s.vot.answered core 0 false ∧ OnlyIn [.latches, .sup, .vot] s t :=
  ⟨_, congrArg Host.Outcome.next ((if_pos hup).trans (distHeadOp_of_nil hfifo)), (onlyIn_answerAll core 0 false _).2 .sup (by decide), answerAll_vot _ _ _ _,
    only_answerAll (only_setLatch only_refl)⟩

end

/-- Settles O27, command by command. -/
theorem supplyDomain : Obligations.SupplyDomain :=
  ⟨exists_next_supRangeFault, exists_next_supRangeFault_reference, exists_next_supRangeReturn, exists_next_adcCalRotation, exists_next_adcCalRotation_fails,
    exists_next_lockChange, exists_next_supTrackerUpdate, exists_next_disturbanceStart, exists_next_disturbanceStart_takesOver, exists_next_disturbanceEnd,
    exists_next_supDistHeadRead, exists_next_supDistHeadRead_empty⟩

end Sys2Proof.Machine

namespace Sys2Proof.Machine

set_option Elab.async false

section
variable {s t b : State} {n : Nat}

/-! ### What every estimator update leaves (R144)

With no Piste entry armed, the estimator's work touches the free values, its own state and what a record touches; the stamp, the pending fix and the count of fixes
stay as they are until the update is kept. -/

/-- Between `b` and `s` the estimator alone has worked. -/
def Steady (b s : State) : Prop :=
  s.pst.armed = [] ∧ OnlyIn (.free :: .odo :: recParts) b s ∧ s.odo.estSeq = b.odo.estSeq ∧ s.odo.pending = b.odo.pending ∧ s.odo.fixSeq = b.odo.fixSeq

theorem steady_refl (h : s.pst.armed = []) : Steady s s := ⟨h, only_refl, rfl, rfl, rfl⟩

theorem steady_of_only {P : List Part} (h : Steady b s) (ho : OnlyIn P s t) (hP : ∀ p ∈ P, p ∈ .free :: recParts := by decide) : Steady b t := by
  obtain ⟨harmed, honly, hseq, hpending, hfix⟩ := h
  have ho' : OnlyIn (.free :: recParts) s t := onlyIn_mono ho hP
  have hodo : t.odo = s.odo := ho'.2 .odo (by decide)
  exact ⟨by rw [ho'.2 .pst (by decide), harmed], onlyIn_trans honly (onlyIn_mono ho' (by decide)), by rw [hodo, hseq], by rw [hodo, hpending], by rw [hodo, hfix]⟩

theorem steady_odo {o : Odo} (h : Steady b s) (ho : o.estSeq = s.odo.estSeq ∧ o.pending = s.odo.pending ∧ o.fixSeq = s.odo.fixSeq := by exact ⟨rfl, rfl, rfl⟩) :
    Steady b { s with odo := o } := by
  obtain ⟨harmed, honly, hseq, hpending, hfix⟩ := h
  exact ⟨harmed, only_mk honly, ho.1.trans hseq, ho.2.1.trans hpending, ho.2.2.trans hfix⟩

theorem steady_ite {c : Prop} [Decidable c] (h : Steady b s) (h' : Steady b t) : Steady b (if c then s else t) := by
  split
  · exact h
  · exact h'

theorem steady_when {c : Bool} {f : State → State} (hf : Steady b s → Steady b (f s)) (h : Steady b s) : Steady b (when c f s) := steady_ite (hf h) h

theorem steady_foldl {α : Type} {f : State → α → State} {l : List α} (hf : ∀ t x, Steady b t → Steady b (f t x)) (h : Steady b s) : Steady b (l.foldl f s) := by
  induction l generalizing s with
  | nil => exact h
  | cons x xs ih => exact ih (hf s x h)

theorem steady_raiseIrq {id : Nat} (h : Steady b s) : Steady b (raiseIrq id s) := steady_of_only h (only_raiseIrq only_refl : OnlyIn [.icus] s _)

theorem steady_bump {k : Nat} (h : Steady b s) : Steady b (bump k s) := steady_of_only h (only_bump only_refl : OnlyIn [.regs] s _)

theorem steady_record {type : Nat} {items : List Item} (h : Steady b s) : Steady b (record type items s) := steady_of_only h (only_record only_refl : OnlyIn recParts s _)

theorem steady_setClass {c : Nat} (h : Steady b s) : Steady b (setClass c s) := by
  obtain ⟨harmed, honly, hseq, hpending, hfix⟩ := h
  have hodo := setClass_odo c s
  have hclass := setClass_of_idle c harmed
  exact ⟨by rw [hclass.2 .pst (by decide), harmed], onlyIn_trans honly (onlyIn_mono hclass (by decide)), by rw [hodo]; exact hseq, by rw [hodo]; exact hpending,
    by rw [hodo]; exact hfix⟩

theorem steady_gradeOwn (h : Steady b s) : Steady b (gradeOwn s) := steady_setClass (steady_odo h)

/-! #### Sensors -/

theorem steady_setSensor {f : Sensor → Sensor} (h : Steady b s) : Steady b (setSensor n f s) := steady_odo h

theorem steady_sensorTo {v : SensState} (h : Steady b s) : Steady b (sensorTo n v s) := steady_setSensor h

theorem steady_faultSensor {cause : Nat} (h : Steady b s) : Steady b (faultSensor n cause s) :=
  steady_ite (steady_setSensor h) (steady_raiseIrq (steady_record (steady_bump (steady_sensorTo (steady_setSensor h)))))

theorem steady_sensorEnables (h : Steady b s) : Steady b (sensorEnables s) :=
  steady_foldl (fun _ _ h => steady_ite (steady_sensorTo h) (steady_ite (steady_sensorTo h) h)) h

theorem steady_enterSlip {v : SensState} {c : Nat} (h : Steady b s) : Steady b (enterSlip n v c s) := steady_raiseIrq (steady_record (steady_bump (steady_sensorTo h)))

theorem steady_qualify (h : Steady b s) : Steady b (qualify n s) := by
  unfold qualify
  dsimp only
  split
  · exact steady_when steady_sensorTo h
  · exact steady_when steady_sensorTo h
  · exact h

/-! #### Free values -/

theorem onlyIn_freeIn (lo hi : Int) (s : State) : OnlyIn [.free] s (freeIn lo hi s).2 := only_mk only_refl

theorem steady_freeIn {lo hi : Int} (h : Steady b s) : Steady b (freeIn lo hi s).2 := steady_of_only h (onlyIn_freeIn lo hi s)

theorem steady_fuse {l : List Int} (h : Steady b s) : Steady b (fuse l s).2 := by
  unfold fuse
  split
  · exact h
  · exact steady_freeIn h

theorem steady_refVel (h : Steady b s) : Steady b (refVel n s).2 := by
  unfold refVel
  dsimp only
  split
  · exact h
  · exact steady_fuse h

theorem steady_sensorStep {current : Option Nat} (h : Steady b s) : Steady b (sensorStep n current s) := by
  unfold sensorStep
  split
  · exact h
  · have hfault : Steady b (when (current.any fun i => decide (i < 2000) || decide (60000 < i)) (faultSensor n 4) s) := steady_when steady_faultSensor h
    generalize when (current.any fun i => decide (i < 2000) || decide (60000 < i)) (faultSensor n 4) s = u at *
    dsimp only
    have hvel : Steady b (sensorVel n u).2 := steady_freeIn hfault
    generalize sensorVel n u = vel at *
    obtain ⟨vel, v⟩ := vel
    have hacc : Steady b (freeIn (-2147483648) 2147483647 v).2 := steady_freeIn hvel
    generalize freeIn (-2147483648) 2147483647 v = acc at *
    obtain ⟨acc, w⟩ := acc
    have href : Steady b (refVel n w).2 := steady_refVel hacc
    generalize refVel n w = ref at *
    obtain ⟨ref, x⟩ := ref
    dsimp only
    refine steady_qualify ?_
    split
    · exact steady_ite (steady_enterSlip (steady_setSensor href)) (steady_ite (steady_enterSlip (steady_setSensor href)) (steady_setSensor href))
    · exact steady_when steady_sensorTo (steady_setSensor href)
    · exact steady_when steady_sensorTo (steady_setSensor href)
    · exact steady_setSensor href

/-! #### The estimate -/

theorem steady_movePos {d : Int} (h : Steady b s) : Steady b (movePos d s) := steady_odo h

theorem steady_takeVel {v : Int} (h : Steady b s) : Steady b (takeVel v s) :=
  steady_ite (steady_odo h) (steady_when (fun h => steady_raiseIrq (steady_bump h)) (steady_odo h))

theorem steady_fusedUpdate (h : Steady b s) : Steady b (fusedUpdate s) := by
  unfold fusedUpdate
  have hs : Steady b { s with odo := { s.odo with bridged := false } } := steady_odo h
  generalize ({ s with odo := { s.odo with bridged := false } } : State) = u at *
  dsimp only
  split
  · refine steady_ite ?_ hs
    have hd : Steady b (fuse (u.okDist fun x => x.count - x.lock) u).2 := steady_fuse hs
    exact steady_raiseIrq (steady_movePos (steady_odo hd))
  · have hd : Steady b (fuse (u.okDist fun x => x.count - x.seen) u).2 := steady_fuse hs
    have hv : ∀ l, Steady b (fuse l (fuse (u.okDist fun x => x.count - x.seen) u).2).2 := fun l => steady_fuse hd
    exact steady_odo (steady_takeVel (steady_movePos (steady_freeIn (hv _))))

/-- An estimate that moves by the acceleration `a`. -/
def bridgeMoved (a : Int) (s : State) : State :=
  let fine := s.odo.vel + 5 * a + s.odo.frac
  let s2 := movePos (fine / 100000) { s with odo := { s.odo with frac := (fine % 100000).toNat } }
  let s3 := takeVel (s.odo.vel + 10 * a) s2
  { s3 with odo := { s3.odo with acc := a } }

/-- Bridging stands. -/
def bridgeSet (s : State) : State := if s.odo.bridged then s else bump Off.ODO_BRIDGE_CNT { s with odo := { s.odo with bridged := true, bridgeAt := s.now } }

theorem bridgedUpdate_of_standstill (h : (bridgeSet s).odo.standstill = true) : bridgedUpdate s = bridgeSet s := if_pos h

theorem bridgedUpdate_of_inert {a : Int} (h : (bridgeSet s).odo.standstill = false) (ha : (bridgeSet s).odo.inert = some a) :
    bridgedUpdate s = bridgeMoved (a * (bridgeSet s).orient) (bridgeSet s) := by
  refine (if_neg (ne_true_of_eq_false h)).trans ?_
  dsimp only
  rw [show (if s.odo.bridged then s else bump Off.ODO_BRIDGE_CNT { s with odo := { s.odo with bridged := true, bridgeAt := s.now } }) = bridgeSet s from rfl, ha]
  rfl

/-- Without an inertial acceleration the estimate takes a free one (log 21). -/
theorem bridgedUpdate_of_free (h : (bridgeSet s).odo.standstill = false) (ha : (bridgeSet s).odo.inert = none) :
    bridgedUpdate s = bridgeMoved (freeIn (-2147483648) 2147483647 (bridgeSet s)).1 (freeIn (-2147483648) 2147483647 (bridgeSet s)).2 := by
  refine (if_neg (ne_true_of_eq_false h)).trans ?_
  dsimp only
  rw [show (if s.odo.bridged then s else bump Off.ODO_BRIDGE_CNT { s with odo := { s.odo with bridged := true, bridgeAt := s.now } }) = bridgeSet s from rfl, ha]
  rfl

theorem steady_bridgeMoved {a : Int} (h : Steady b s) : Steady b (bridgeMoved a s) := steady_odo (steady_takeVel (steady_movePos (steady_odo h)))

theorem steady_bridgeSet (h : Steady b s) : Steady b (bridgeSet s) := steady_ite h (steady_bump (steady_odo h))

theorem steady_bridgedUpdate (h : Steady b s) : Steady b (bridgedUpdate s) := by
  have hset := steady_bridgeSet h
  cases hstand : (bridgeSet s).odo.standstill
  case true =>
    rw [bridgedUpdate_of_standstill hstand]
    exact hset
  case false =>
    cases hinert : (bridgeSet s).odo.inert with
    | some a =>
      rw [bridgedUpdate_of_inert hstand hinert]
      exact steady_bridgeMoved hset
    | none =>
      rw [bridgedUpdate_of_free hstand hinert]
      exact steady_bridgeMoved (steady_freeIn hset)

theorem steady_standstill (h : Steady b s) : Steady b (standstill s) := steady_ite (steady_raiseIrq (steady_odo h)) h

theorem steady_odoExtrapolate {dt : Int} (h : Steady b s) : Steady b (odoExtrapolate dt s) := steady_gradeOwn (steady_odo h)

/-- The estimate as a DSP takes it up again (R526). -/
def resumed (s : State) : State :=
  if s.odo.resume then odoExtrapolate ((s.tb0 : Int) - s.odo.estAt - 10000)
    { s with odo := { s.odo with resume := false, sensors := s.odo.sensors.map fun x => { x with seen := x.count } } }
  else s

/-- The sensors at an update. -/
def sensorsStepped (currents : List Nat) (s : State) : State := (List.range 4).foldl (fun s n => sensorStep n currents[n]? s) (sensorEnables s)

/-- The estimate fused or bridged. -/
def moved (s : State) : State := if s.odo.sensors.any fun x => x.state == .ok then fusedUpdate s else bridgedUpdate s

/-- The counts are seen, and standstill and class follow. -/
def updateGraded (s : State) : State := gradeOwn (standstill { s with odo := { s.odo with sensors := s.odo.sensors.map fun x => { x with seen := x.count } } })

theorem localUpdate_eq (currents : List Nat) (s : State) : localUpdate currents s = updateGraded (moved (sensorsStepped currents (resumed s))) := by
  unfold localUpdate updateGraded moved sensorsStepped resumed
  dsimp only

theorem steady_resumed (h : Steady b s) : Steady b (resumed s) := steady_ite (steady_odoExtrapolate (steady_odo h)) h

theorem steady_sensorsStepped (currents : List Nat) (h : Steady b s) : Steady b (sensorsStepped currents s) :=
  steady_foldl (fun _ _ h => steady_sensorStep h) (steady_sensorEnables h)

theorem steady_moved (h : Steady b s) : Steady b (moved s) := steady_ite (steady_fusedUpdate h) (steady_bridgedUpdate h)

theorem steady_updateGraded (h : Steady b s) : Steady b (updateGraded s) := steady_gradeOwn (steady_standstill (steady_odo h))

theorem steady_localUpdate (currents : List Nat) (h : Steady b s) : Steady b (localUpdate currents s) := by
  rw [localUpdate_eq]
  exact steady_updateGraded (steady_moved (steady_sensorsStepped currents (steady_resumed h)))

theorem steady_staleRemote (h : Steady b s) : Steady b (staleRemote s) := steady_setClass (steady_ite h (steady_bump (steady_odo h)))

/-- The estimate that a record gives at the present instant (R165). -/
def followed (r : PosRec) (s : State) : State :=
  let dt : Int := (s.tb0 : Int) - extend r.time s.odo.remoteAt
  { s with odo := { s.odo with
      pos := (r.pos * 1000000) + r.vel * dt + r.acc * dt * dt / 2000000000000
      vel := r.vel * 1000000000 + r.acc * dt / 1000, acc := r.acc
      unc := min 4294967295 (r.unc + (750000 * dt * dt / 1000000000000000000).toNat)
      quality := r.qual, standstill := bit r.qual 2, dir := fld r.qual 3 2 } }

theorem remoteUpdate_of_none (h : s.odo.remote = none) : remoteUpdate s = setClass 0 s := by
  unfold remoteUpdate
  rw [h]

theorem remoteUpdate_of_some {r : PosRec} (h : s.odo.remote = some r) : remoteUpdate s =
    if (followed r s).odo.remoteStale || decide ((followed r s).remoteDue r < (followed r s).tb0) then staleRemote (followed r s) else setClass (fld r.qual 0 2) (followed r s) := by
  unfold remoteUpdate
  rw [h]
  rfl

theorem steady_remoteUpdate (h : Steady b s) : Steady b (remoteUpdate s) := by
  cases hr : s.odo.remote with
  | none =>
    rw [remoteUpdate_of_none hr]
    exact steady_setClass h
  | some r =>
    rw [remoteUpdate_of_some hr]
    exact steady_ite (steady_staleRemote (steady_odo h)) (steady_setClass (steady_odo h))

end

end Sys2Proof.Machine

namespace Sys2Proof.Machine

set_option Elab.async false

section
variable {s t b : State} {n : Nat} {currents : List Nat}

/-! ### One update (R144) -/

/-- TB0 instant of the next update. -/
def updateAt (s : State) : Nat := if s.tb0 % 10000 == 0 && s.tb0 != s.odo.estAt then s.tb0 else (s.tb0 / 10000 + 1) * 10000

theorem updateAt_bounds (s : State) : updateAt s % 10000 = 0 ∧ s.tb0 ≤ updateAt s ∧ updateAt s ≤ s.tb0 + 10000 := by
  unfold updateAt
  split
  next h =>
    rw [Bool.and_eq_true, beq_iff_eq] at h
    exact ⟨h.1, Nat.le_refl _, Nat.le_add_right _ _⟩
  next => omega

/-- The estimate of an update, by its source. -/
def estimated (currents : List Nat) (s : State) : State := if s.odoSource = 2 then remoteUpdate s else localUpdate currents s

/-- An update is stamped. -/
def stamped (due : Nat) (s : State) : State := { s with odo := { s.odo with estAt := due, estSeq := s.odo.estSeq + 1, remoteJump := false } }

/-- A stamped update joins the history. -/
def inHistory (due : Nat) (s : State) : State := { s with odo := { s.odo with history := s.kept :: s.odo.history.filter fun k => decide (due ≤ k.time + 1000000000) } }

theorem steady_estimated (currents : List Nat) (h : Steady b s) : Steady b (estimated currents s) := steady_ite (steady_remoteUpdate h) (steady_localUpdate currents h)

/-- An update is kept, and with it its stamp. -/
def updateKept (due : Nat) (s : State) : State := inHistory due (stamped due s)

theorem onlyIn_updateKept (due : Nat) (s : State) : OnlyIn [.odo] s (updateKept due s) := only_mk (only_mk only_refl)

theorem updateKept_fields (due : Nat) (s : State) :
    (updateKept due s).odo.estAt = due ∧ (updateKept due s).odo.estSeq = s.odo.estSeq + 1 ∧ (updateKept due s).odo.history.head? = some (updateKept due s).kept ∧
    (updateKept due s).odo.pending = s.odo.pending ∧ (updateKept due s).odo.fixSeq = s.odo.fixSeq := ⟨rfl, rfl, rfl, rfl, rfl⟩

/-- The estimate `s1` of an update is stamped and kept, and the Piste follows, step by step. -/
def updateSteps (jump : Bool) (due : Nat) (s1 : State) : State :=
  let s2 := { s1 with odo := { s1.odo with estAt := due, estSeq := s1.odo.estSeq + 1, remoteJump := false } }
  pisteUpdate jump { s2 with odo := { s2.odo with history := s2.kept :: s2.odo.history.filter fun k => decide (due ≤ k.time + 1000000000) } }

theorem updateSteps_eq (jump : Bool) (due : Nat) (s : State) : updateSteps jump due s = pisteUpdate jump (updateKept due s) := rfl

theorem exec_updateSteps (currents : List Nat) (s : State) : exec (.estimatorUpdate currents) s = .next (
    when (s.up && s.dio.enabled && !s.sys.dspFault && (s.odoSource == 1 || s.odoSource == 2)) (fun s =>
      let due := if s.tb0 % 10000 == 0 && s.tb0 != s.odo.estAt then s.tb0 else (s.tb0 / 10000 + 1) * 10000
      let s0 := pisteBefore (toTb0 due s)
      updateSteps (s0.odoSource == 2 && s0.odo.remoteJump) due (if s0.odoSource = 2 then remoteUpdate s0 else localUpdate currents s0)) s) := rfl

theorem exec_estimatorUpdate {due : Nat} (hdue : updateAt s = due) (hup : s.up = true) (hdio : s.dio.enabled = true) (hdsp : s.sys.dspFault = false)
    (hsource : s.odoSource = 1 ∨ s.odoSource = 2) (hidle : s.pisteIdle = true) :
    exec (.estimatorUpdate currents) s = .next (updateKept due (estimated currents (toTb0 due s))) := by
  have hto := onlyIn_toTb0 due s
  have hidleDue : (toTb0 due s).pisteIdle = true := pisteIdle_later hidle (hto.2 .pst (by decide)) (le_now_toTb0 due s)
  have hon : (s.up && s.dio.enabled && !s.sys.dspFault && (s.odoSource == 1 || s.odoSource == 2)) = true := by
    rw [hup, hdio, hdsp, Bool.or_eq_true_iff.mpr (hsource.imp beq_iff_eq.mpr beq_iff_eq.mpr)]
    rfl
  obtain ⟨_, hest, _⟩ := steady_estimated currents (steady_refl ((pisteIdle_iff _).mp hidleDue).1)
  have hidleEnd : (updateKept due (estimated currents (toTb0 due s))).pisteIdle = true :=
    pisteIdle_later hidleDue (((onlyIn_updateKept due _).2 .pst (by decide)).trans (hest.2 .pst (by decide)))
      (Nat.le_of_eq (((onlyIn_updateKept due _).2 .now (by decide)).trans (hest.2 .now (by decide))).symm)
  rw [exec_updateSteps, hon, when_true]
  dsimp only
  rw [show (if s.tb0 % 10000 == 0 && s.tb0 != s.odo.estAt then s.tb0 else (s.tb0 / 10000 + 1) * 10000) = due from hdue, pisteBefore_of_idle hidleDue]
  rw [updateSteps_eq]
  exact congrArg Host.Outcome.next (pisteUpdate_of_idle _ hidleEnd)

theorem exists_next_estimatorUpdate (s : State) (currents : List Nat) (hup : s.up = true) (hdio : s.dio.enabled = true) (hdsp : s.sys.dspFault = false)
    (hsource : s.odoSource = 1 ∨ s.odoSource = 2) (hidle : s.pisteIdle = true) :
    ∃ t, exec (.estimatorUpdate currents) s = .next t ∧ t.odo.estAt % 10000 = 0 ∧ s.tb0 ≤ t.odo.estAt ∧ t.odo.estAt ≤ s.tb0 + 10000 ∧
      t.odo.estSeq = s.odo.estSeq + 1 ∧ t.odo.history.head? = some t.kept ∧ t.odo.pending = s.odo.pending ∧ t.odo.fixSeq = s.odo.fixSeq ∧
      OnlyIn (.now :: .free :: .nv :: .time :: .odo :: recParts) s t := by
  obtain ⟨hround, hlow, hhigh⟩ := updateAt_bounds s
  obtain ⟨due, hdue⟩ : ∃ due, updateAt s = due := ⟨_, rfl⟩
  rw [hdue] at hround hlow hhigh
  have hexec := exec_estimatorUpdate (currents := currents) hdue hup hdio hdsp hsource hidle
  have hto := onlyIn_toTb0 due s
  have harmed : (toTb0 due s).pst.armed = [] := by
    rw [hto.2 .pst (by decide)]
    exact ((pisteIdle_iff s).mp hidle).1
  generalize toTb0 due s = w at *
  obtain ⟨_, honly, hseq, hpending, hfix⟩ := steady_estimated currents (steady_refl harmed)
  generalize estimated currents w = e at *
  obtain ⟨hat, hcount, hhead, hkeptPending, hkeptFix⟩ := updateKept_fields due e
  have hkept := onlyIn_updateKept due e
  generalize updateKept due e = t at *
  rw [hto.2 .odo (by decide)] at hseq hpending hfix
  refine ⟨t, hexec, by rw [hat]; exact hround, by rw [hat]; exact hlow, by rw [hat]; exact hhigh, by rw [hcount, hseq], hhead, by rw [hkeptPending, hpending],
    by rw [hkeptFix, hfix], ?_⟩
  exact onlyIn_trans (onlyIn_trans (onlyIn_mono hto (by decide)) (onlyIn_mono honly (by decide))) (onlyIn_mono hkept (by decide))

/-! ### A followed record (R165) -/

theorem updateKept_odo (due : Nat) (s : State) : ∃ h, (updateKept due s).odo = { s.odo with estAt := due, estSeq := s.odo.estSeq + 1, remoteJump := false, history := h } :=
  ⟨_, rfl⟩

theorem odoSource_congr (h : t.reg Off.ODO_CFG = s.reg Off.ODO_CFG) : t.odoSource = s.odoSource := congrArg (fld · 0 2) h

theorem armed_of_idle {P : List Part} (hidle : s.pisteIdle = true) (h : OnlyIn P s t) (hP : Part.pst ∉ P := by decide) : t.pst.armed = [] := by
  rw [h.2 .pst hP]
  exact ((pisteIdle_iff s).mp hidle).1

theorem estimated_remote (h : s.odoSource = 2) : estimated currents s = remoteUpdate s := if_pos h

theorem exists_next_estimatorUpdate_noRecord (s : State) (currents : List Nat) (hup : s.up = true) (hdio : s.dio.enabled = true) (hdsp : s.sys.dspFault = false)
    (hsource : s.odoSource = 2) (hidle : s.pisteIdle = true) (hremote : s.odo.remote = none) :
    ∃ t, exec (.estimatorUpdate currents) s = .next t ∧ t.odo.cls = 0 ∧ t.odo.pos = s.odo.pos ∧ t.odo.remoteJump = false ∧
      t.odo.sensors = s.odo.sensors ∧ OnlyIn [.now, .nv, .isl, .time, .odo, .icus] s t := by
  obtain ⟨due, hdue⟩ : ∃ due, updateAt s = due := ⟨_, rfl⟩
  have hexec := exec_estimatorUpdate (currents := currents) hdue hup hdio hdsp (.inr hsource) hidle
  have hto := onlyIn_toTb0 due s
  have hwSource : (toTb0 due s).odoSource = 2 := (odoSource_congr (reg_of_only _ hto)).trans hsource
  have hwOdo : (toTb0 due s).odo = s.odo := hto.2 .odo (by decide)
  have harmed := armed_of_idle hidle hto
  rw [estimated_remote hwSource, remoteUpdate_of_none (by rw [hwOdo, hremote])] at hexec
  have hclass := setClass_of_idle 0 harmed
  have hclassOdo := setClass_odo 0 (toTb0 due s)
  rw [hwOdo] at hclassOdo
  obtain ⟨h, hodo⟩ := updateKept_odo due (setClass 0 (toTb0 due s))
  rw [hclassOdo] at hodo
  refine ⟨_, hexec, by rw [hodo], by rw [hodo], by rw [hodo], by rw [hodo],
    onlyIn_trans (onlyIn_trans (onlyIn_mono hto (by decide)) (onlyIn_mono hclass (by decide))) (onlyIn_mono (onlyIn_updateKept due _) (by decide))⟩

theorem followsRecord_followed (r : PosRec) (s : State) : FollowsRecord r s.odo.remoteAt (followed r s) := ⟨rfl, rfl, rfl, rfl, rfl, rfl⟩

/-- What a record says of the estimate. -/
def recordPart (o : Odo) : Int × Int × Int × Nat × Bool × Nat := (o.pos, o.vel, o.acc, o.unc, o.standstill, o.dir)

theorem followsRecord_congr {r : PosRec} {at_ : Nat} (h : FollowsRecord r at_ s) (htime : t.time = s.time) (hodo : recordPart t.odo = recordPart s.odo) :
    FollowsRecord r at_ t := by
  simp only [recordPart, Prod.mk.injEq] at hodo
  obtain ⟨hpos, hvel, hacc, hunc, hstill, hdir⟩ := hodo
  unfold FollowsRecord at h ⊢
  rw [hpos, hvel, hacc, hunc, hstill, hdir, ← tb0_congr htime]
  exact h

theorem remoteDue_congr (r : PosRec) (hat : t.odo.remoteAt = s.odo.remoteAt) (hcfg : t.reg Off.ODO_REMOTE_CFG = s.reg Off.ODO_REMOTE_CFG)
    (hmatrix : t.reg Off.FTN_MATRIX_CFG = s.reg Off.FTN_MATRIX_CFG) : t.remoteDue r = s.remoteDue r := by
  rw [State.remoteDue, State.remoteDue, hat, hcfg, hmatrix]

theorem followed_leaves (r : PosRec) (s : State) : (followed r s).odo.remoteStale = s.odo.remoteStale ∧ (followed r s).odo.remote = s.odo.remote ∧
    (followed r s).odo.sensors = s.odo.sensors ∧ (followed r s).odo.remoteAt = s.odo.remoteAt ∧ OnlyIn [.odo] s (followed r s) :=
  ⟨rfl, rfl, rfl, rfl, only_mk only_refl⟩

/-- What a stale record makes of the estimate. -/
theorem staleRemote_told (harmed : s.pst.armed = []) : (staleRemote s).odo = { s.odo with cls := 0, remoteStale := true } ∧
    RegsOnly [Off.ODO_REMOTE_STALE_CNT] s (staleRemote s) ∧ OnlyIn [.regs, .odo, .icus] s (staleRemote s) := by
  unfold staleRemote
  cases h : s.odo.remoteStale
  case true =>
    rw [if_pos rfl]
    refine ⟨?_, regs_setClass regs_refl, onlyIn_mono (setClass_of_idle 0 harmed) (by decide)⟩
    rw [setClass_odo, ← h]
  case false =>
    rw [if_neg Bool.false_ne_true]
    have hnoted : OnlyIn [.regs, .odo] s (bump Off.ODO_REMOTE_STALE_CNT { s with odo := { s.odo with remoteStale := true } }) := only_bump (only_mk only_refl)
    have hnotedOdo : (bump Off.ODO_REMOTE_STALE_CNT { s with odo := { s.odo with remoteStale := true } }).odo = { s.odo with remoteStale := true } := rfl
    refine ⟨?_, regs_setClass (regs_bump (regs_mk regs_refl)), onlyIn_trans (onlyIn_mono hnoted (by decide)) (onlyIn_mono (setClass_of_idle 0 ?_) (by decide))⟩
    · rw [setClass_odo, hnotedOdo]
    · rw [hnoted.2 .pst (by decide)]
      exact harmed

/-- A followed estimate takes the class `q` of its record, or is stale after the instant `d`. -/
def recordGraded (d : Int) (q : Nat) (s : State) : State := if s.odo.remoteStale || decide (d < s.tb0) then staleRemote s else setClass q s

theorem recordGraded_told (d : Int) (q : Nat) (harmed : s.pst.armed = []) : ∃ c b, (recordGraded d q s).odo = { s.odo with cls := c, remoteStale := b } ∧
    RegsOnly [Off.ODO_REMOTE_STALE_CNT] s (recordGraded d q s) ∧ OnlyIn [.regs, .odo, .icus] s (recordGraded d q s) ∧
    (s.odo.remoteStale = false → (s.tb0 : Int) ≤ d → c = q ∧ (recordGraded d q s).regs = s.regs) ∧ (s.odo.remoteStale = true ∨ d < s.tb0 → c = 0 ∧ b = true) := by
  by_cases hstale : (s.odo.remoteStale || decide (d < s.tb0)) = true
  · obtain ⟨hodo, hregs, honly⟩ := staleRemote_told harmed
    have heq : recordGraded d q s = staleRemote s := if_pos hstale
    rw [heq]
    refine ⟨0, true, hodo, hregs, honly, fun hf hd => ?_, fun _ => ⟨rfl, rfl⟩⟩
    rw [hf, Bool.false_or, decide_eq_true_eq] at hstale
    exact absurd hstale (Int.not_lt.mpr hd)
  · have hclass := setClass_of_idle q harmed
    have heq : recordGraded d q s = setClass q s := if_neg hstale
    rw [heq]
    refine ⟨q, s.odo.remoteStale, setClass_odo _ _, regs_setClass regs_refl, onlyIn_mono hclass (by decide), fun _ _ => ⟨rfl, hclass.2 .regs (by decide)⟩,
      fun h => absurd ?_ hstale⟩
    rw [Bool.or_eq_true, decide_eq_true_eq]
    exact h

/-- An update from a record: its estimate graded and kept. -/
def recordKept (due : Nat) (d : Int) (q : Nat) (s : State) : State := updateKept due (recordGraded d q s)

theorem recordKept_told (due : Nat) (d : Int) (q : Nat) (harmed : s.pst.armed = []) :
    recordPart (recordKept due d q s).odo = recordPart s.odo ∧ (recordKept due d q s).odo.remoteJump = false ∧ (recordKept due d q s).odo.remote = s.odo.remote ∧
    (recordKept due d q s).odo.sensors = s.odo.sensors ∧ RegsOnly [Off.ODO_REMOTE_STALE_CNT] s (recordKept due d q s) ∧
    OnlyIn [.regs, .odo, .icus] s (recordKept due d q s) ∧
    (s.odo.remoteStale = false → (s.tb0 : Int) ≤ d → (recordKept due d q s).odo.cls = q ∧ (recordKept due d q s).regs = s.regs) ∧
    (s.odo.remoteStale = true ∨ d < s.tb0 → (recordKept due d q s).odo.cls = 0 ∧ (recordKept due d q s).odo.remoteStale = true) := by
  obtain ⟨c, b, hvOdo, hvRegs, hvOnly, hfresh, hstale⟩ := recordGraded_told d q harmed
  have hkept := onlyIn_updateKept due (recordGraded d q s)
  obtain ⟨hist, hodo⟩ := updateKept_odo due (recordGraded d q s)
  rw [hvOdo] at hodo
  unfold recordKept
  rw [hodo]
  refine ⟨rfl, rfl, rfl, rfl, regs_of_only hvRegs hkept, onlyIn_trans hvOnly (onlyIn_mono hkept (by decide)), fun hf hd => ?_, fun hd => hstale hd⟩
  obtain ⟨hc, hr⟩ := hfresh hf hd
  exact ⟨hc, (hkept.2 .regs (by decide)).trans hr⟩

theorem remoteUpdate_graded {r : PosRec} (h : s.odo.remote = some r) : remoteUpdate s = recordGraded ((followed r s).remoteDue r) (fld r.qual 0 2) (followed r s) :=
  remoteUpdate_of_some h

theorem exists_next_estimatorUpdate_record (s : State) (currents : List Nat) (r : PosRec) (hup : s.up = true) (hdio : s.dio.enabled = true) (hdsp : s.sys.dspFault = false)
    (hsource : s.odoSource = 2) (hidle : s.pisteIdle = true) (hremote : s.odo.remote = some r) :
    ∃ t, exec (.estimatorUpdate currents) s = .next t ∧ FollowsRecord r s.odo.remoteAt t ∧ t.odo.remoteJump = false ∧ t.odo.remote = some r ∧
      t.odo.sensors = s.odo.sensors ∧ RegsOnly [Off.ODO_REMOTE_STALE_CNT] s t ∧
      (s.odo.remoteStale = false → (t.tb0 : Int) ≤ s.remoteDue r → t.odo.cls = fld r.qual 0 2 ∧ t.regs = s.regs) ∧
      (s.odo.remoteStale = true ∨ s.remoteDue r < t.tb0 → t.odo.cls = 0 ∧ t.odo.remoteStale = true) ∧
      OnlyIn [.now, .regs, .nv, .isl, .time, .odo, .icus] s t := by
  obtain ⟨due, hdue⟩ : ∃ due, updateAt s = due := ⟨_, rfl⟩
  have hexec := exec_estimatorUpdate (currents := currents) hdue hup hdio hdsp (.inr hsource) hidle
  have hto := onlyIn_toTb0 due s
  have hwSource : (toTb0 due s).odoSource = 2 := (odoSource_congr (reg_of_only _ hto)).trans hsource
  have hwOdo : (toTb0 due s).odo = s.odo := hto.2 .odo (by decide)
  rw [estimated_remote hwSource, remoteUpdate_graded (by rw [hwOdo, hremote])] at hexec
  obtain ⟨hStale, hRemote, hSensors, hAt, hfollow⟩ := followed_leaves r (toTb0 due s)
  have hfollows := followsRecord_followed r (toTb0 due s)
  rw [hwOdo] at hStale hRemote hSensors hAt hfollows
  have honly : OnlyIn [.now, .time, .nv, .isl, .odo] s (followed r (toTb0 due s)) := onlyIn_trans (onlyIn_mono hto (by decide)) (onlyIn_mono hfollow (by decide))
  have harmed := armed_of_idle hidle honly
  have hDue : (followed r (toTb0 due s)).remoteDue r = s.remoteDue r := remoteDue_congr r hAt (reg_of_only _ honly) (reg_of_only _ honly)
  have hregs : RegsOnly [Off.ODO_REMOTE_STALE_CNT] s (followed r (toTb0 due s)) := regs_of_only regs_refl honly
  have hregsEq : (followed r (toTb0 due s)).regs = s.regs := honly.2 .regs (by decide)
  rw [hDue] at hexec
  obtain ⟨hpart, hjump, hrem, hsens, htRegs, htOnly, hfresh, hstale⟩ := recordKept_told due (s.remoteDue r) (fld r.qual 0 2) harmed
  have htime := htOnly.2 .time (by decide)
  rw [hStale, tb0_congr htime, hregsEq] at hfresh
  rw [hStale, tb0_congr htime] at hstale
  exact ⟨_, hexec, followsRecord_congr hfollows htime hpart, hjump, hrem.trans (hRemote.trans hremote), hsens.trans hSensors, regsOnly_trans hregs htRegs, hfresh, hstale,
    onlyIn_trans (onlyIn_mono honly (by decide)) (onlyIn_mono htOnly (by decide))⟩

end

end Sys2Proof.Machine

namespace Sys2Proof.Machine

set_option Elab.async false

section
variable {s t b : State} {n : Nat} {currents : List Nat}

/-! ### No sensor is on (R147, Table 5.1) -/

/-- Sensors of the first `n` inputs are OFF. -/
def SensorsOff (ns : List Nat) (s : State) : Prop := ∀ n ∈ ns, (s.sensor n).state = .off

/-- One sensor follows its SENSOR_EN. -/
def sensorEnable (s : State) (n : Nat) : State :=
  let on := bit (s.reg Off.ODO_CFG) (4 + n) && fld (s.sensorCfg n) 0 12 != 0
  let st := (s.sensor n).state
  if !on && st != .off then sensorTo n .off s else if on && st == .off then sensorTo n .rejoin s else s

theorem sensorEnables_eq (s : State) : sensorEnables s = (List.range 4).foldl sensorEnable s := rfl

theorem sensorEnable_of_clear (h : bit (s.reg Off.ODO_CFG) (4 + n) = false) : sensorEnable s n = if (s.sensor n).state = .off then s else sensorTo n .off s := by
  unfold sensorEnable
  rw [h, Bool.false_and]
  by_cases hoff : (s.sensor n).state = .off
  · rw [hoff, if_pos rfl]
    rfl
  · rw [if_neg hoff]
    exact if_pos (by rw [bne_iff_ne.mpr hoff]; rfl)

theorem sensor_setSensor_self (f : Sensor → Sensor) (h : n < s.odo.sensors.length) : (setSensor n f s).sensor n = f (s.sensor n) := getD_modAt_self _ _ _ _ h

theorem sensor_setSensor_ne {m : Nat} (f : Sensor → Sensor) (h : m ≠ n) : (setSensor n f s).sensor m = s.sensor m := getD_modAt_ne _ _ _ _ _ h

/-- What bridging goes by. -/
def bridgePart (o : Odo) : Bool × Option Int × Bool × Nat := (o.bridged, o.inert, o.standstill, o.sensors.length)

theorem bridgePart_eq {x y : Odo} (h : bridgePart x = bridgePart y) :
    x.bridged = y.bridged ∧ x.inert = y.inert ∧ x.standstill = y.standstill ∧ x.sensors.length = y.sensors.length := by simpa [bridgePart] using h

theorem sensorTo_off (n : Nat) (h : n < s.odo.sensors.length) : ((sensorTo n .off s).sensor n).state = .off ∧
    (∀ m, (s.sensor m).state = .off → ((sensorTo n .off s).sensor m).state = .off) ∧ bridgePart (sensorTo n .off s).odo = bridgePart s.odo ∧ OnlyIn [.odo] s (sensorTo n .off s) := by
  have hself : ((sensorTo n .off s).sensor n).state = .off := congrArg Sensor.state (sensor_setSensor_self _ h)
  refine ⟨hself, fun m hm => ?_, ?_, only_mk only_refl⟩
  · by_cases hmn : m = n
    · rw [hmn]
      exact hself
    · exact (congrArg Sensor.state (sensor_setSensor_ne _ hmn)).trans hm
  · show (s.odo.bridged, s.odo.inert, s.odo.standstill, (modAt s.odo.sensors n _).length) = bridgePart s.odo
    rw [length_modAt]
    rfl

theorem sensorEnable_off (hclear : bit (s.reg Off.ODO_CFG) (4 + n) = false) (h : n < s.odo.sensors.length) : ((sensorEnable s n).sensor n).state = .off ∧
    (∀ m, (s.sensor m).state = .off → ((sensorEnable s n).sensor m).state = .off) ∧ bridgePart (sensorEnable s n).odo = bridgePart s.odo ∧ OnlyIn [.odo] s (sensorEnable s n) := by
  rw [sensorEnable_of_clear hclear]
  by_cases hoff : (s.sensor n).state = .off
  · rw [if_pos hoff]
    exact ⟨hoff, fun _ h => h, rfl, only_refl⟩
  · rw [if_neg hoff]
    exact sensorTo_off n h

/-- With SENSOR_EN clear every sensor goes OFF. -/
theorem foldl_sensorEnable (ns : List Nat) (s : State) (hclear : ∀ n ∈ ns, bit (s.reg Off.ODO_CFG) (4 + n) = false) (hlen : ∀ n ∈ ns, n < s.odo.sensors.length) :
    SensorsOff ns (ns.foldl sensorEnable s) ∧ (∀ m, (s.sensor m).state = .off → ((ns.foldl sensorEnable s).sensor m).state = .off) ∧
    bridgePart (ns.foldl sensorEnable s).odo = bridgePart s.odo ∧ OnlyIn [.odo] s (ns.foldl sensorEnable s) := by
  induction ns generalizing s with
  | nil => exact ⟨fun _ h => absurd h List.not_mem_nil, fun _ h => h, rfl, only_refl⟩
  | cons n ns ih =>
    obtain ⟨hself, hstay, hpart, honly⟩ := sensorEnable_off (hclear n List.mem_cons_self) (hlen n List.mem_cons_self)
    obtain ⟨_, _, _, hlength⟩ := bridgePart_eq hpart
    obtain ⟨hrest, hkeep, hparts, honlys⟩ := ih (sensorEnable s n) (fun m hm => by rw [reg_of_only _ honly]; exact hclear m (List.mem_cons_of_mem _ hm))
      (fun m hm => by rw [hlength]; exact hlen m (List.mem_cons_of_mem _ hm))
    refine ⟨fun m hm => ?_, fun m hm => hkeep m (hstay m hm), hparts.trans hpart, onlyIn_trans honly honlys⟩
    obtain rfl | hm := List.mem_cons.mp hm
    · exact hkeep m hself
    · exact hrest m hm

theorem foldl_sensorStep_off (ns : List Nat) (h : SensorsOff ns s) : ns.foldl (fun s n => sensorStep n currents[n]? s) s = s := by
  induction ns with
  | nil => rfl
  | cons n ns ih =>
    have hstep : sensorStep n currents[n]? s = s := if_pos (by rw [h n List.mem_cons_self]; rfl)
    rw [List.foldl_cons, hstep]
    exact ih fun m hm => h m (List.mem_cons_of_mem _ hm)

theorem off_of_sensorsOff (h : SensorsOff (List.range 4) s) (hlen : s.odo.sensors.length = 4) : ∀ x ∈ s.odo.sensors, x.state = .off := by
  intro x hx
  obtain ⟨i, hi, rfl⟩ := List.getElem_of_mem hx
  have hoff := h i (List.mem_range.mpr (by omega))
  rwa [State.sensor, List.getD_eq_getElem _ _ hi] at hoff

theorem resumed_leaves (harmed : s.pst.armed = []) : bridgePart (resumed s).odo = bridgePart s.odo ∧ OnlyIn [.odo, .icus] s (resumed s) := by
  unfold resumed
  split
  · refine ⟨?_, only_gradeOwn_of_idle harmed (only_mk (only_mk only_refl))⟩
    rw [odoExtrapolate, gradeOwn_odo]
    show (s.odo.bridged, s.odo.inert, s.odo.standstill, (s.odo.sensors.map _).length) = bridgePart s.odo
    rw [List.length_map]
    rfl
  · exact ⟨rfl, only_refl⟩

theorem bits_of_fld_zero {w : Word} (h : fld w 4 4 = 0) : ∀ n ∈ List.range 4, bit w (4 + n) = false := fun n hn =>
  bit_of_fld_zero h (Nat.le_add_right 4 n) (Nat.add_lt_add_left (List.mem_range.mp hn) 4)

theorem sensorsStepped_off (currents : List Nat) (hclear : fld (s.reg Off.ODO_CFG) 4 4 = 0) (hlen : s.odo.sensors.length = 4) :
    (∀ x ∈ (sensorsStepped currents s).odo.sensors, x.state = .off) ∧ bridgePart (sensorsStepped currents s).odo = bridgePart s.odo ∧
    OnlyIn [.odo] s (sensorsStepped currents s) := by
  obtain ⟨hoff, _, hpart, honly⟩ := foldl_sensorEnable (List.range 4) s (bits_of_fld_zero hclear) (fun n hn => by rw [hlen]; exact List.mem_range.mp hn)
  rw [sensorsStepped, sensorEnables_eq, foldl_sensorStep_off _ hoff]
  exact ⟨off_of_sensorsOff hoff ((bridgePart_eq hpart).2.2.2.trans hlen), hpart, honly⟩

/-! ### A bridged update (R148) -/

theorem moved_bridged (h : ∀ x ∈ s.odo.sensors, x.state = .off) : moved s = bridgedUpdate s := by
  refine if_neg ?_
  rw [List.any_eq_true]
  rintro ⟨x, hx, hok⟩
  rw [h x hx] at hok
  exact absurd hok (by decide)

theorem bridgeSet_told (h : s.odo.bridged = false) : (bridgeSet s).odo = { s.odo with bridged := true, bridgeAt := s.now } ∧
    (RegsWf s → (bridgeSet s).reg Off.ODO_BRIDGE_CNT = s.reg Off.ODO_BRIDGE_CNT + 1) ∧ RegsOnly [Off.ODO_BRIDGE_CNT] s (bridgeSet s) := by
  have heq : bridgeSet s = bump Off.ODO_BRIDGE_CNT { s with odo := { s.odo with bridged := true, bridgeAt := s.now } } := if_neg (by rw [h]; exact Bool.false_ne_true)
  rw [heq]
  refine ⟨rfl, fun hwf => ?_, regs_bump (regs_mk regs_refl)⟩
  have hset : RegsWf { s with odo := { s.odo with bridged := true, bridgeAt := s.now } } := wf_mk hwf
  exact reg_bump_unmasked _ _ hset (by decide)

theorem takeVel_leaves (v : Int) (s : State) : (takeVel v s).odo.sensors = s.odo.sensors ∧ (takeVel v s).odo.bridged = s.odo.bridged ∧
    RegsOnly [Off.ODO_REVERSAL_CNT] s (takeVel v s) := by
  unfold takeVel
  dsimp only
  generalize (if 0 < v then 1 else if v < 0 then 2 else s.odo.dir) = dir
  split
  · exact ⟨rfl, rfl, regs_mk regs_refl⟩
  · generalize (s.odo.dir != 0 && dir != s.odo.dir) = rev
    cases rev
    · exact ⟨rfl, rfl, regs_mk regs_refl⟩
    · exact ⟨rfl, rfl, regs_raiseIrq (regs_bump (regs_mk regs_refl))⟩

theorem bridgeMoved_leaves (a : Int) (s : State) : (bridgeMoved a s).odo.sensors = s.odo.sensors ∧ (bridgeMoved a s).odo.bridged = s.odo.bridged ∧
    (bridgeMoved a s).odo.acc = a ∧ RegsOnly [Off.ODO_REVERSAL_CNT] s (bridgeMoved a s) := by
  obtain ⟨hsensors, hbridged, hregs⟩ := takeVel_leaves (s.odo.vel + 10 * a)
    (movePos ((s.odo.vel + 5 * a + s.odo.frac) / 100000) { s with odo := { s.odo with frac := ((s.odo.vel + 5 * a + s.odo.frac) % 100000).toNat } })
  exact ⟨hsensors, hbridged, rfl, regs_mk (regsOnly_trans (regs_mk (regs_mk regs_refl)) hregs)⟩

theorem bridgedUpdate_told (h : s.odo.bridged = false) : (bridgedUpdate s).odo.sensors = s.odo.sensors ∧ (bridgedUpdate s).odo.bridged = true ∧
    (∀ a, s.odo.inert = some a → s.odo.standstill = false → (bridgedUpdate s).odo.acc = a * s.orient) ∧
    (RegsWf s → (bridgedUpdate s).reg Off.ODO_BRIDGE_CNT = s.reg Off.ODO_BRIDGE_CNT + 1) ∧ RegsOnly [Off.ODO_BRIDGE_CNT, Off.ODO_REVERSAL_CNT] s (bridgedUpdate s) := by
  obtain ⟨hodo, hcount, hregs⟩ := bridgeSet_told h
  have hsensors : (bridgeSet s).odo.sensors = s.odo.sensors := by rw [hodo]
  have hbridged : (bridgeSet s).odo.bridged = true := by rw [hodo]
  have hinert : (bridgeSet s).odo.inert = s.odo.inert := by rw [hodo]
  have hstill : (bridgeSet s).odo.standstill = s.odo.standstill := by rw [hodo]
  have horient : (bridgeSet s).orient = s.orient := congrArg (fun w => if bit w 10 then -1 else 1) (hregs Off.ODO_CFG (by decide))
  have hboth : RegsOnly [Off.ODO_BRIDGE_CNT, Off.ODO_REVERSAL_CNT] s (bridgeSet s) := regs_via regs_refl (by decide) fun _ h => regsOnly_trans h hregs
  cases hs : s.odo.standstill
  case true =>
    rw [bridgedUpdate_of_standstill (hstill.trans hs)]
    exact ⟨hsensors, hbridged, nofun, hcount, hboth⟩
  case false =>
    obtain ⟨a, u, hu, hacc, huOdo, huRegs⟩ : ∃ a u, bridgedUpdate s = bridgeMoved a u ∧ (∀ i, s.odo.inert = some i → a = i * s.orient) ∧
        u.odo = (bridgeSet s).odo ∧ u.regs = (bridgeSet s).regs := by
      cases hi : s.odo.inert with
      | some i => exact ⟨_, _, bridgedUpdate_of_inert (hstill.trans hs) (hinert.trans hi), fun _ h => by rw [horient, Option.some.inj h], rfl, rfl⟩
      | none => exact ⟨_, _, bridgedUpdate_of_free (hstill.trans hs) (hinert.trans hi), nofun, rfl, rfl⟩
    obtain ⟨hmSensors, hmBridged, hmAcc, hmRegs⟩ := bridgeMoved_leaves a u
    have huReg : ∀ k, u.reg k = (bridgeSet s).reg k := fun k => reg_congr _ _ k huRegs
    rw [hu]
    refine ⟨by rw [hmSensors, huOdo, hsensors], by rw [hmBridged, huOdo, hbridged], fun i hi _ => by rw [hmAcc, hacc i hi], fun hwf => ?_, ?_⟩
    · rw [hmRegs _ (by decide), huReg, hcount hwf]
    · have hsu : RegsOnly [Off.ODO_BRIDGE_CNT, Off.ODO_REVERSAL_CNT] s u := fun k hk => (huReg k).trans (hboth k hk)
      exact regs_via hsu (by decide) fun _ h => regsOnly_trans h hmRegs

theorem standstill_of_bridged (h : s.odo.bridged = true) : standstill s = s := by
  have hnone : s.standstillAt = none := if_pos (by rw [h, Bool.or_true, Bool.true_or])
  unfold standstill
  rw [hnone]
  rfl

/-- Bridging stands when an update is graded. -/
theorem updateGraded_bridged (harmed : s.pst.armed = []) (h : s.odo.bridged = true) (hoff : ∀ x ∈ s.odo.sensors, x.state = .off) :
    (updateGraded s).odo.bridged = true ∧ (∀ x ∈ (updateGraded s).odo.sensors, x.state = .off) ∧ (updateGraded s).odo.acc = s.odo.acc ∧
    (updateGraded s).regs = s.regs := by
  have hstill : standstill { s with odo := { s.odo with sensors := s.odo.sensors.map fun x => { x with seen := x.count } } } =
      { s with odo := { s.odo with sensors := s.odo.sensors.map fun x => { x with seen := x.count } } } := standstill_of_bridged h
  rw [updateGraded, hstill]
  have honly : OnlyIn [.odo, .icus] s (gradeOwn { s with odo := { s.odo with sensors := s.odo.sensors.map fun x => { x with seen := x.count } } }) :=
    only_gradeOwn_of_idle harmed (only_mk only_refl)
  refine ⟨?_, ?_, ?_, honly.2 .regs (by decide)⟩
  · rw [gradeOwn_odo]
    exact h
  · rw [gradeOwn_odo]
    intro x hx
    obtain ⟨y, hy, rfl⟩ := List.mem_map.mp hx
    exact hoff y hy
  · rw [gradeOwn_odo]

end

end Sys2Proof.Machine

namespace Sys2Proof.Machine

set_option Elab.async false

section
variable {s t b : State} {n : Nat} {currents : List Nat}

theorem estimated_local (h : s.odoSource = 1) : estimated currents s = localUpdate currents s := if_neg (by rw [h]; decide)

/-- A local update without a sensor bridges. -/
theorem localUpdate_bridged (currents : List Nat) (harmed : s.pst.armed = []) (hclear : fld (s.reg Off.ODO_CFG) 4 4 = 0) (hlen : s.odo.sensors.length = 4)
    (hbridged : s.odo.bridged = false) :
    (localUpdate currents s).odo.bridged = true ∧ (∀ x ∈ (localUpdate currents s).odo.sensors, x.state = .off) ∧
    (∀ a, s.odo.inert = some a → s.odo.standstill = false → (localUpdate currents s).odo.acc = a * s.orient) ∧
    (RegsWf s → (localUpdate currents s).reg Off.ODO_BRIDGE_CNT = s.reg Off.ODO_BRIDGE_CNT + 1) ∧
    RegsOnly [Off.ODO_BRIDGE_CNT, Off.ODO_REVERSAL_CNT] s (localUpdate currents s) := by
  obtain ⟨hrPart, hrOnly⟩ := resumed_leaves harmed
  obtain ⟨_, _, _, hrLen⟩ := bridgePart_eq hrPart
  obtain ⟨hoff, hxPart, hxOnly⟩ := sensorsStepped_off currents (by rw [reg_of_only _ hrOnly]; exact hclear) (hrLen.trans hlen)
  rw [localUpdate_eq, moved_bridged hoff]
  have hx : OnlyIn [.odo, .icus] s (sensorsStepped currents (resumed s)) := onlyIn_trans hrOnly (onlyIn_mono hxOnly (by decide))
  obtain ⟨hxBridged, hxInert, hxStill, _⟩ := bridgePart_eq (hxPart.trans hrPart)
  have hxOrient : (sensorsStepped currents (resumed s)).orient = s.orient := congrArg (fun w => if bit w 10 then -1 else 1) (reg_of_only Off.ODO_CFG hx)
  obtain ⟨hySensors, hyBridged, hyAcc, hyCount, hyRegs⟩ := bridgedUpdate_told (hxBridged.trans hbridged)
  have hyArmed : (bridgedUpdate (sensorsStepped currents (resumed s))).pst.armed = [] :=
    (steady_bridgedUpdate (steady_sensorsStepped currents (steady_resumed (steady_refl harmed)))).1
  obtain ⟨htBridged, htOff, htAcc, htRegs⟩ := updateGraded_bridged hyArmed hyBridged (by rw [hySensors]; exact hoff)
  have htReg : ∀ k, (updateGraded (bridgedUpdate (sensorsStepped currents (resumed s)))).reg k = (bridgedUpdate (sensorsStepped currents (resumed s))).reg k :=
    fun k => reg_congr _ _ k htRegs
  refine ⟨htBridged, htOff, fun a ha hs => ?_, fun hwf => ?_, fun k hk => ?_⟩
  · rw [htAcc, hyAcc a (hxInert.trans ha) (hxStill.trans hs), hxOrient]
  · rw [htReg, hyCount (regsWf_of_only hwf hx), reg_of_only _ hx]
  · rw [htReg, hyRegs k hk, reg_of_only _ hx]

theorem updateKept_leaves (due : Nat) (s : State) : (updateKept due s).odo.bridged = s.odo.bridged ∧ (updateKept due s).odo.sensors = s.odo.sensors ∧
    (updateKept due s).odo.acc = s.odo.acc := ⟨rfl, rfl, rfl⟩

theorem exists_next_estimatorUpdate_bridged (s : State) (currents : List Nat) (hwf : RegsWf s) (hup : s.up = true) (hdio : s.dio.enabled = true)
    (hdsp : s.sys.dspFault = false) (hsource : s.odoSource = 1) (hidle : s.pisteIdle = true) (hlen : s.odo.sensors.length = 4)
    (hclear : fld (s.reg Off.ODO_CFG) 4 4 = 0) (hbridged : s.odo.bridged = false) :
    ∃ t, exec (.estimatorUpdate currents) s = .next t ∧ t.odo.bridged = true ∧ (∀ x ∈ t.odo.sensors, x.state = .off) ∧
      (∀ a, s.odo.inert = some a → s.odo.standstill = false → t.odo.acc = a * s.orient) ∧
      t.reg Off.ODO_BRIDGE_CNT = s.reg Off.ODO_BRIDGE_CNT + 1 ∧ RegsOnly [Off.ODO_BRIDGE_CNT, Off.ODO_REVERSAL_CNT] s t ∧
      OnlyIn (.now :: .free :: .nv :: .time :: .odo :: recParts) s t := by
  obtain ⟨due, hdue⟩ : ∃ due, updateAt s = due := ⟨_, rfl⟩
  have hexec := exec_estimatorUpdate (currents := currents) hdue hup hdio hdsp (.inl hsource) hidle
  have hto := onlyIn_toTb0 due s
  have hodo : (toTb0 due s).odo = s.odo := hto.2 .odo (by decide)
  have harmed := armed_of_idle hidle hto
  have horient : (toTb0 due s).orient = s.orient := congrArg (fun w => if bit w 10 then -1 else 1) (reg_of_only Off.ODO_CFG hto)
  rw [estimated_local ((odoSource_congr (reg_of_only _ hto)).trans hsource)] at hexec
  obtain ⟨htBridged, htOff, htAcc, htCount, htRegs⟩ := localUpdate_bridged currents harmed (by rw [reg_of_only _ hto]; exact hclear) (by rw [hodo]; exact hlen)
    (by rw [hodo]; exact hbridged)
  obtain ⟨_, honly, _⟩ := steady_localUpdate currents (steady_refl harmed)
  obtain ⟨hkBridged, hkSensors, hkAcc⟩ := updateKept_leaves due (localUpdate currents (toTb0 due s))
  have hkept := onlyIn_updateKept due (localUpdate currents (toTb0 due s))
  refine ⟨_, hexec, hkBridged.trans htBridged, fun x hx => htOff x (hkSensors ▸ hx), fun a ha hs => ?_, ?_, fun k hk => ?_, ?_⟩
  · rw [← horient]
    refine hkAcc.trans ?_
    exact htAcc a (by rw [hodo]; exact ha) (by rw [hodo]; exact hs)
  · rw [reg_of_only _ hkept, htCount (regsWf_of_only hwf hto), reg_of_only _ hto]
  · rw [reg_of_only _ hkept, htRegs k hk, reg_of_only _ hto]
  · exact onlyIn_trans (onlyIn_trans (onlyIn_mono hto (by decide)) (onlyIn_mono honly (by decide))) (onlyIn_mono hkept (by decide))

/-! ### A sensor qualifies (R147) -/

theorem exec_sensorStateTimer (hup : s.up = true) (hdio : s.dio.enabled = true) (hdsp : s.sys.dspFault = false) (hsource : s.odoSource = 1) (hn : n < 4) :
    exec (.sensorStateTimer n) s = .next (qualify n s) :=
  congrArg Host.Outcome.next (if_pos (by rw [hup, hdio, hdsp, hsource, decide_eq_true hn]; rfl))

theorem exists_next_sensorStateTimer (s : State) (n : Nat) (hup : s.up = true) (hdio : s.dio.enabled = true) (hdsp : s.sys.dspFault = false) (hsource : s.odoSource = 1)
    (hn : n < 4) (hlen : n < s.odo.sensors.length) :
    (∀ f : Nat, (s.sensor n).state = .rejoin → (s.sensor n).fitSince = some f → f + 200000000 ≤ s.now →
      ∃ t, exec (.sensorStateTimer n) s = .next t ∧ t.sensor n = { s.sensor n with state := .ok, okFrom := some s.tb0, fitSince := none } ∧
      (∀ m, m ≠ n → t.sensor m = s.sensor m) ∧ OnlyIn [.odo] s t) ∧
    ((s.sensor n).state = .fault → (s.sensor n).unfitAt + 1000000000 ≤ s.now → (s.sensor n).alone < 4 → (s.sensor n).a.badSince = none →
      (s.sensor n).b.badSince = none →
      ∃ t, exec (.sensorStateTimer n) s = .next t ∧ t.sensor n = { s.sensor n with state := .rejoin, okFrom := none, fitSince := none } ∧
      (∀ m, m ≠ n → t.sensor m = s.sensor m) ∧ OnlyIn [.odo] s t) := by
  have hexec := exec_sensorStateTimer hup hdio hdsp hsource hn
  refine ⟨fun f hstate hfit hlong => ?_, fun hstate hlong halone ha hb => ?_⟩
  · have hto : qualify n s = sensorTo n .ok s := by
      unfold qualify
      dsimp only
      rw [hstate, hfit]
      exact if_pos (by rw [Option.any_some, decide_eq_true hlong])
    rw [hto] at hexec
    exact ⟨_, hexec, sensor_setSensor_self _ hlen, fun m hm => sensor_setSensor_ne _ hm, only_sensorTo only_refl⟩
  · have hto : qualify n s = sensorTo n .rejoin s := by
      unfold qualify
      dsimp only
      rw [hstate]
      exact if_pos (by rw [decide_eq_true hlong, decide_eq_true halone, ha, hb]; rfl)
    rw [hto] at hexec
    exact ⟨_, hexec, sensor_setSensor_self _ hlen, fun m hm => sensor_setSensor_ne _ hm, only_sensorTo only_refl⟩

/-! ### Standstill (R153) -/

theorem foldl_edge_le (xs : List Sensor) (c m : Nat) (hc : c ≤ m) (h : ∀ x ∈ xs, x.edgeAt ≤ m) : xs.foldl (fun a x => max a x.edgeAt) c ≤ m := by
  induction xs generalizing c with
  | nil => exact hc
  | cons x xs ih => exact ih _ (Nat.max_le.mpr ⟨hc, h x List.mem_cons_self⟩) fun y hy => h y (List.mem_cons_of_mem _ hy)

theorem exists_next_standstillEntry (s : State) (c w : Nat) (hup : s.up = true) (hdio : s.dio.enabled = true) (hsource : s.odoSource = 1)
    (hmoving : s.odo.standstill = false) (hbridged : s.odo.bridged = false) (hdsp : s.sys.dspFault = false) (hok : (s.odo.sensors.any fun x => x.state == .ok) = true)
    (hcalm : s.odo.calmSince = some c) (hw : w = 10000000 * max 1 (fld (s.reg Off.ODO_CFG) 16 8)) (hlong : c + w ≤ s.now)
    (hedges : ∀ x ∈ s.odo.sensors, x.state = .ok → x.edgeAt + w ≤ s.now) :
    ∃ t, exec .standstillEntry s = .next t ∧ t.odo = { s.odo with standstill := true, vel := 0, acc := 0, dir := 0, sensors := s.odo.sensors.map fun x => { x with lock := x.count } } ∧ Raised Irq.ODO_STANDSTILL t ∧
      OnlyIn [.odo, .icus] s t := by
  have hexec : exec .standstillEntry s = .next (standstill s) := congrArg Host.Outcome.next (if_pos (by rw [hup, hdio, hsource, hdsp]; rfl))
  have hany : (s.odo.sensors.filter fun x => x.state == .ok).isEmpty = false := by
    obtain ⟨x, hx, hxok⟩ := List.any_eq_true.mp hok
    rw [List.isEmpty_eq_false_iff]
    exact List.ne_nil_of_mem (List.mem_filter.mpr ⟨hx, hxok⟩)
  have hat : s.standstillAt = some ((s.odo.sensors.filter fun x => x.state == .ok).foldl (fun a x => max a x.edgeAt) c + w) := by
    refine (if_neg (by rw [hmoving, hbridged, hany]; decide)).trans ?_
    rw [hcalm, hw]
    rfl
  have hle := foldl_edge_le (s.odo.sensors.filter fun x => x.state == .ok) c (s.now - w) (by omega) fun x hx => by
    obtain ⟨hx, hxok⟩ := List.mem_filter.mp hx
    have := hedges x hx (beq_iff_eq.mp hxok)
    omega
  have hdue : (s.standstillAt.any fun t => decide (t ≤ s.now)) = true := by
    rw [hat, Option.any_some, decide_eq_true (by omega)]
  exact ⟨_, hexec.trans (congrArg Host.Outcome.next (if_pos hdue)), rfl, raised_raiseIrq _ _ (by decide), only_raiseIrq (only_mk only_refl)⟩

/-! ### The limit of bridging (R148) -/

theorem classNow_coarse (hfix : s.odo.haveFix = true) (hdsp : s.sys.dspFault = false) (hbridged : s.odo.bridged = true)
    (hlong : fld (s.reg Off.ODO_BRIDGE_CFG) 0 16 * 1000000 < s.bridgeNs) : s.classNow = 1 := by
  have hknown : (!s.odo.haveFix || s.sys.dspFault) = false := by
    rw [hfix, hdsp]
    rfl
  refine (if_neg (ne_true_of_eq_false hknown)).trans ?_
  by_cases hunc : fld (s.reg Off.ODO_UNC_CFG) 16 16 * 1000 < s.uncNow
  · exact if_pos hunc
  · refine (if_neg hunc).trans ?_
    by_cases hrestored : s.odo.restored = true
    · exact if_pos hrestored
    · exact (if_neg hrestored).trans ((if_pos hbridged).trans (if_pos hlong))

theorem suspended_of_class {a : Armed} (h : 1 ≠ s.odo.cls) (ha : a ∈ (setClass 1 s).pst.armed) (hdom : eDom (s.eCtrl a.index) = 4) (hqual : 1 < eQual (s.eCtrl a.index)) :
    a.suspend = true := by
  rw [setClass, if_neg h] at ha
  have hpst : (raiseIrq Irq.ODO_QUALITY_CHG (suspendBelow { s with odo := { s.odo with cls := 1 } })).pst = (suspendBelow { s with odo := { s.odo with cls := 1 } }).pst :=
    (only_raiseIrq (P := [.icus]) only_refl).2 .pst (by decide)
  rw [hpst] at ha
  obtain ⟨x, _, rfl⟩ := List.mem_map.mp ha
  have hbelow : State.belowQual { s with odo := { s.odo with cls := 1 } } x.index = true := by
    have hd : eDom (State.eCtrl { s with odo := { s.odo with cls := 1 } } x.index) = 4 := hdom
    rw [State.belowQual, hd, beq_self_eq_true, Bool.true_and, Bool.or_eq_true]
    exact .inr (decide_eq_true hqual)
  exact (congrArg (x.suspend || ·) hbelow).trans (Bool.or_true _)

/-- The uncertainty of the present instant is taken. -/
def uncTaken (s : State) : State := { s with odo := { s.odo with unc := s.uncNow } }

theorem gradeOwn_eq (s : State) : gradeOwn s = setClass s.classNow (uncTaken s) := rfl

theorem uncTaken_leaves (s : State) : (uncTaken s).odo.cls = s.odo.cls ∧ (uncTaken s).pst = s.pst ∧ (∀ n, (uncTaken s).eCtrl n = s.eCtrl n) :=
  ⟨rfl, rfl, fun _ => rfl⟩

/-- An estimate that falls to COARSE. -/
theorem gradeOwn_coarse (h : s.classNow = 1) : (gradeOwn s).odo.cls = 1 ∧ (gradeOwn s).odo.pos = s.odo.pos ∧ (s.odo.cls ≠ 1 → Raised Irq.ODO_QUALITY_CHG (gradeOwn s)) ∧
    SuspendOnly s (gradeOwn s) ∧ (s.odo.cls ≠ 1 → ∀ a ∈ (gradeOwn s).pst.armed, eDom (s.eCtrl a.index) = 4 → 1 < eQual (s.eCtrl a.index) → a.suspend = true) := by
  obtain ⟨hcls, hpst, hctrl⟩ := uncTaken_leaves s
  have hodo := gradeOwn_odo s
  have hsuspend := suspendOnly_setClass 1 (uncTaken s)
  refine ⟨by rw [hodo]; exact h, by rw [hodo], ?_⟩
  rw [gradeOwn_eq, h]
  refine ⟨fun hne => raised_setClass_of_ne (by rw [hcls]; exact hne.symm), ⟨by rw [← hpst]; exact hsuspend.1, by rw [← hpst]; exact hsuspend.2⟩, fun hne a ha hdom hqual => ?_⟩
  rw [← hctrl] at hdom hqual
  exact suspended_of_class (by rw [hcls]; exact hne.symm) ha hdom hqual

theorem exists_next_bridgeLimitExpiry (s : State) (hup : s.up = true) (hbridged : s.odo.bridged = true) (hsource : s.odoSource = 1) (hfix : s.odo.haveFix = true)
    (hdsp : s.sys.dspFault = false) :
    ∃ t, exec .bridgeLimitExpiry s = .next t ∧ t.odo.cls = 1 ∧ t.odo.pos = s.odo.pos ∧ (s.odo.cls ≠ 1 → Raised Irq.ODO_QUALITY_CHG t) ∧
      SuspendOnly s t ∧ (s.odo.cls ≠ 1 → ∀ a ∈ t.pst.armed, eDom (s.eCtrl a.index) = 4 → 1 < eQual (s.eCtrl a.index) → a.suspend = true) ∧
      OnlyIn [.now, .time, .nv, .isl, .odo, .icus, .pst] s t := by
  obtain ⟨due, hdue⟩ : ∃ due, s.odo.bridgeAt + fld (s.reg Off.ODO_BRIDGE_CFG) 0 16 * 1000000 + 1 = due := ⟨_, rfl⟩
  have hexec : exec .bridgeLimitExpiry s = .next (gradeOwn (advanceTo due s)) := by
    refine congrArg Host.Outcome.next ((if_pos (by rw [hup, hbridged, hsource]; rfl)).trans ?_)
    dsimp only
    rw [hdue]
  have hadv := onlyIn_advanceTo due s
  have hlate := advanced_now due s
  have hodo : (advanceTo due s).odo = s.odo := hadv.2 .odo (by decide)
  have hclass : (advanceTo due s).classNow = 1 := by
    refine classNow_coarse (by rw [hodo]; exact hfix) (by rw [hadv.2 .sys (by decide)]; exact hdsp) (by rw [hodo]; exact hbridged) ?_
    rw [State.bridgeNs, hodo, reg_of_only _ hadv]
    omega
  have hgrade : OnlyIn [.odo, .icus, .pst] (advanceTo due s) (gradeOwn (advanceTo due s)) := only_gradeOwn only_refl
  obtain ⟨hcls, hpos, hraised, hsuspend, hsuspended⟩ := gradeOwn_coarse hclass
  have hpst : (advanceTo due s).pst = s.pst := hadv.2 .pst (by decide)
  have hctrl : ∀ n, (advanceTo due s).eCtrl n = s.eCtrl n := fun n => reg_of_only _ hadv
  rw [hodo] at hpos hraised hsuspended
  refine ⟨_, hexec, hcls, hpos, hraised, ⟨by rw [← hpst]; exact hsuspend.1, by rw [← hpst]; exact hsuspend.2⟩, fun hne a ha hdom hqual => ?_,
    onlyIn_trans (onlyIn_mono hadv (by decide)) (onlyIn_mono hgrade (by decide))⟩
  exact hsuspended hne a ha (by rw [hctrl]; exact hdom) (by rw [hctrl]; exact hqual)

end

/-- Settles O25, command by command. -/
theorem estimator : Obligations.Estimator :=
  ⟨exists_next_estimatorUpdate, exists_next_estimatorUpdate_bridged, exists_next_estimatorUpdate_noRecord, exists_next_estimatorUpdate_record,
    exists_next_sensorStateTimer, exists_next_standstillEntry, exists_next_bridgeLimitExpiry⟩

end Sys2Proof.Machine

namespace Sys2Proof.Machine

set_option Elab.async false

section
variable {s t u : State} {n k : Nat} {l m x y z : Lane} {o : TbOut}

/-! ### Bases and servos (R118, R125) -/

theorem base_setBase_self (n : Nat) (f : Base → Base) (s : State) : (setBase n f s).base n = f (s.base n) := by
  match n with
  | 0 => rfl
  | 1 => rfl
  | 2 => rfl
  | _ + 3 => rfl

theorem base_setBase_ne {n m : Nat} (f : Base → Base) (s : State) (hm : m < 4) (hn : n < 4) (h : m ≠ n) : (setBase n f s).base m = s.base m := by
  match n, m with
  | 0, 0 => exact absurd rfl h
  | 0, 1 => rfl
  | 0, 2 => rfl
  | 0, 3 => rfl
  | 1, 0 => rfl
  | 1, 1 => exact absurd rfl h
  | 1, 2 => rfl
  | 1, 3 => rfl
  | 2, 0 => rfl
  | 2, 1 => rfl
  | 2, 2 => exact absurd rfl h
  | 2, 3 => rfl
  | 3, 0 => rfl
  | 3, 1 => rfl
  | 3, 2 => rfl
  | 3, 3 => exact absurd rfl h
  | _ + 4, _ => omega
  | _, _ + 4 => omega

theorem setBase_rest (n : Nat) (f : Base → Base) (s : State) : (setBase n f s).time.votes = s.time.votes ∧ (setBase n f s).time.ptp = s.time.ptp := by
  match n with
  | 0 => exact ⟨rfl, rfl⟩
  | 1 => exact ⟨rfl, rfl⟩
  | 2 => exact ⟨rfl, rfl⟩
  | _ + 3 => exact ⟨rfl, rfl⟩

theorem onlyIn_setBase (n : Nat) (f : Base → Base) (s : State) : OnlyIn [.time] s (setBase n f s) := only_mk only_refl

theorem servo_setServo_self (f : LaneServo → LaneServo) (s : State) : (setServo n l f s).servo n l = f (s.servo n l) := by
  rw [State.servo, setServo, base_setBase_self]
  exact get_set_self _ _ _

theorem servo_setServo_ne (f : LaneServo → LaneServo) (s : State) (h : m ≠ l) : (setServo n l f s).servo n m = s.servo n m := by
  rw [State.servo, setServo, base_setBase_self]
  exact get_set_ne _ _ _ _ h

theorem base_setServo (f : LaneServo → LaneServo) (s : State) : (setServo n l f s).base n = { s.base n with servos := ((setServo n l f s).base n).servos } := by
  rw [setServo, base_setBase_self]

/-! ### What voting leaves (R69 to R78, R125) -/

/-- Between `s` and `t` only the votes, the counts of outputs of base `n`, and runs of the vote have changed. -/
def VoteWork (n : Nat) (s t : State) : Prop :=
  OnlyIn [.time, .vot] s t ∧ (∀ l, t.inVote l = s.inVote l) ∧ (∀ m, m < 4 → m ≠ n → t.base m = s.base m) ∧
  t.base n = { s.base n with servos := (t.base n).servos } ∧ (∀ l, t.servo n l = { s.servo n l with issued := (t.servo n l).issued }) ∧ t.time.ptp = s.time.ptp

theorem voteWork_refl (n : Nat) (s : State) : VoteWork n s s := ⟨only_refl, fun _ => rfl, fun _ _ _ => rfl, rfl, fun _ => rfl, rfl⟩

theorem voteWork_trans (h : VoteWork n s t) (h' : VoteWork n t u) : VoteWork n s u := by
  obtain ⟨honly, hin, hbase, hn, hservo, hptp⟩ := h
  obtain ⟨honly', hin', hbase', hn', hservo', hptp'⟩ := h'
  refine ⟨onlyIn_trans honly honly', fun l => (hin' l).trans (hin l), fun m hm hne => (hbase' m hm hne).trans (hbase m hm hne), ?_, fun l => ?_, hptp'.trans hptp⟩
  · rw [hn', hn]
  · rw [hservo', hservo]

/-- The votes stand at `vs`. -/
def votesSet (vs : List TbVote) (s : State) : State := { s with time := { s.time with votes := vs } }

theorem voteWork_votesSet (n : Nat) (vs : List TbVote) (s : State) : VoteWork n s (votesSet vs s) := by
  have hbase : ∀ m, (votesSet vs s).base m = s.base m := fun m => by
    match m with
    | 0 => rfl
    | 1 => rfl
    | 2 => rfl
    | _ + 3 => rfl
  refine ⟨only_mk only_refl, fun _ => rfl, fun m _ _ => hbase m, ?_, fun l => ?_, rfl⟩
  · rw [hbase]
  · rw [State.servo, State.servo, hbase]

/-- A lane's output of base `n` is counted. -/
def issueNoted (n : Nat) (l : Lane) (s : State) : State := setServo n l (fun v => { v with issued := (s.servo n l).issued + 1 }) s

theorem voteWork_issueNoted (hn : n < 4) (l : Lane) (s : State) : VoteWork n s (issueNoted n l s) := by
  refine ⟨only_mk only_refl, fun _ => rfl, fun m hm hne => base_setBase_ne _ _ hm hn hne, base_setServo _ _, fun m => ?_, (setBase_rest _ _ _).2⟩
  by_cases h : m = l
  · rw [h, issueNoted, servo_setServo_self]
  · rw [issueNoted, servo_setServo_ne _ _ h]

theorem issued_issueNoted (n : Nat) (l m : Lane) (s : State) :
    ((issueNoted n l s).servo n m).issued = if m = l then (s.servo n l).issued + 1 else (s.servo n m).issued := by
  by_cases h : m = l
  · rw [h, issueNoted, servo_setServo_self, if_pos rfl]
  · rw [issueNoted, servo_setServo_ne _ _ h, if_neg h]

/-- A lane's run of late accesses ends. -/
def runEnded (l : Lane) (s : State) : State := s.setLane l fun v => { v with skewRun := 0 }

theorem inVote_runEnded (l m : Lane) (s : State) : (runEnded l s).inVote m = s.inVote m := by
  cases l <;> cases m <;> rfl

theorem voteWork_runEnded (l : Lane) (s : State) : VoteWork n s (runEnded l s) :=
  ⟨only_mk only_refl, fun m => inVote_runEnded l m s, fun _ _ _ => rfl, rfl, fun _ => rfl, rfl⟩

/-- An output in time and alike ends its lane's run of late accesses, no more. -/
theorem judgeOut_alike (v : TbVote) (t : Nat) (o : TbOut) (l : Lane) (s : State) : judgeOut v t o (l, t, o) s = runEnded l s := by
  have hin : outWindow t t = false := by
    have hnot : ¬ t + voteWindow < t := by omega
    rw [outWindow, decide_eq_false hnot]
    rfl
  unfold judgeOut
  dsimp only
  rw [hin, bne_self_eq_false]
  rfl

theorem pruneTb_eq (s : State) : pruneTb s = votesSet (s.time.votes.filter fun v => v.done.isNone || !(s.tbAwaited v).isEmpty) s := rfl

/-! ### One vote on the stream of a base -/

/-- A vote that `xs` have issued, at the instant `t`, alike. -/
def voteOf (n k : Nat) (o : TbOut) (t : Nat) (xs : List Lane) (done : Option (Nat × TbOut)) : TbVote := ⟨n, k, xs.map fun l => (l, t, o), done, []⟩

theorem tbIssued_voteOf {t : Nat} {xs : List Lane} {d : Option (Nat × TbOut)} (h : ∀ l ∈ xs, s.inVote l = true) :
    s.tbIssued (voteOf n k o t xs d) = xs.map fun l => (l, t, o) := by
  refine List.filter_eq_self.mpr fun x hx => ?_
  obtain ⟨l, hl, rfl⟩ := List.mem_map.mp hx
  exact h l hl

theorem awaited_voteOf {t : Nat} {xs : List Lane} {d : Option (Nat × TbOut)} :
    s.tbAwaited (voteOf n k o t xs d) = s.lanesIn.filter fun l => !xs.contains l := by
  refine List.filter_congr fun l _ => ?_
  have hany : (xs.map fun l => (l, t, o)).any (fun x => x.1 == l) = xs.contains l := by
    rw [List.any_map, ← List.any_beq']
    rfl
  rw [voteOf, hany]
  exact Bool.and_true _

theorem find_vote {v : TbVote} {p : TbVote → Bool} (hp : p v = true) : [v].find? p = some v := List.find?_cons_of_pos hp

theorem decideAllTb_one {v : TbVote} (hv : s.time.votes = [v]) (hok : s.sys.failSilent = false) : decideAllTb n s = pruneTb (decideTb n s) := by
  rw [decideAllTb, hv]
  show pruneTb (if s.sys.failSilent then s else decideTb n s) = _
  rw [hok]
  rfl

theorem putVote_one {v w : TbVote} (hv : s.time.votes = [w]) (hb : w.base = v.base) (hk : w.seq = v.seq) : putVote v s = votesSet [v] s := by
  have his : w.is v.base v.seq = true := by
    rw [TbVote.is, hb, hk, beq_self_eq_true, beq_self_eq_true]
    rfl
  rw [putVote, hv, List.map_cons, List.map_nil, if_pos his]
  rfl

/-- One lane alone decides nothing while another in vote is awaited. -/
theorem decideTb_waits {t : Nat} (hv : s.time.votes = [voteOf n k o t [x] none]) (hx : s.inVote x = true) (hy : s.inVote y = true) (hne : y ≠ x) : decideTb n s = s := by
  have hfind : s.time.votes.find? (fun v => v.base == n && v.done.isNone) = some (voteOf n k o t [x] none) := by
    rw [hv]
    exact find_vote (by rw [voteOf, beq_self_eq_true]; rfl)
  have hawaited : (s.tbAwaited (voteOf n k o t [x] none)).isEmpty = false := by
    rw [awaited_voteOf, List.isEmpty_eq_false_iff]
    refine List.ne_nil_of_mem (List.mem_filter.mpr ⟨(mem_lanesIn s y).mpr hy, ?_⟩)
    simpa using hne
  unfold decideTb
  rw [hfind]
  dsimp only
  rw [tbIssued_voteOf (by simpa using hx)]
  show (if (decide (2 ≤ s.lanesIn.length) && (s.tbAwaited (voteOf n k o t [x] none)).isEmpty) = true then _ else s) = s
  rw [hawaited, Bool.and_false]
  rfl

/-- Two lanes alike decide, and their output takes effect. -/
theorem decideTb_decides (hv : s.time.votes = [voteOf n k o s.now [x, y] none]) (hx : s.inVote x = true) (hy : s.inVote y = true)
    (hnow : (applyOut n o (votesSet [voteOf n k o s.now [x, y] (some (s.now, o))] s)).now = s.now) :
    decideTb n s = runEnded y (runEnded x (applyOut n o (votesSet [voteOf n k o s.now [x, y] (some (s.now, o))] s))) := by
  have hfind : s.time.votes.find? (fun v => v.base == n && v.done.isNone) = some (voteOf n k o s.now [x, y] none) := by
    rw [hv]
    exact find_vote (by rw [voteOf, beq_self_eq_true]; rfl)
  have hagreed : agreedOf [o, o] = some o := if_pos (by simp)
  have hput : putVote { voteOf n k o s.now [x, y] none with done := some (s.now, o) } s = votesSet [voteOf n k o s.now [x, y] (some (s.now, o))] s :=
    putVote_one hv rfl rfl
  unfold decideTb
  rw [hfind]
  dsimp only
  rw [tbIssued_voteOf (by simp [hx, hy])]
  show (match agreedOf [o, o] with | some m => _ | none => _) = _
  rw [hagreed]
  dsimp only
  rw [hput]
  generalize applyOut n o (votesSet [voteOf n k o s.now [x, y] (some (s.now, o))] s) = z at *
  show judgeOut _ (judgeOut _ z.now o (x, s.now, o) z).now o (y, s.now, o) (judgeOut _ z.now o (x, s.now, o) z) = _
  rw [hnow, judgeOut_alike]
  rw [show (runEnded x z).now = s.now from hnow, judgeOut_alike]

/-! ### A lane's output (R125) -/

theorem issue_first (hnone : s.time.votes = []) (htwo : 2 ≤ s.lanesIn.length) :
    issue n l o s = decideAllTb n (votesSet [voteOf n (s.servo n l).issued o s.now [l] none] (issueNoted n l s)) := by
  have hlanes : (issueNoted n l s).lanesIn = s.lanesIn := rfl
  have hvotes : (issueNoted n l s).time.votes = [] := (setBase_rest _ _ _).1.trans hnone
  unfold issue
  dsimp only
  rw [show setServo n l (fun v => { v with issued := (s.servo n l).issued + 1 }) s = issueNoted n l s from rfl, hlanes, if_neg (Nat.not_lt.mpr htwo), hvotes]
  rfl

theorem find_issued {t : Nat} {xs : List Lane} {d : Option (Nat × TbOut)} (hv : s.time.votes = [voteOf n k o t xs d]) :
    (issueNoted n l s).time.votes = [voteOf n k o t xs d] ∧ (issueNoted n l s).time.votes.find? (fun v => v.is n k) = some (voteOf n k o t xs d) := by
  have hvotes : (issueNoted n l s).time.votes = [voteOf n k o t xs d] := (setBase_rest _ _ _).1.trans hv
  refine ⟨hvotes, ?_⟩
  rw [hvotes]
  exact find_vote (by rw [TbVote.is, voteOf, beq_self_eq_true, beq_self_eq_true]; rfl)

theorem issue_second {xs : List Lane} (hv : s.time.votes = [voteOf n (s.servo n l).issued o s.now xs none]) (htwo : 2 ≤ s.lanesIn.length) :
    issue n l o s = decideAllTb n (votesSet [voteOf n (s.servo n l).issued o s.now (xs ++ [l]) none] (issueNoted n l s)) := by
  have hlanes : (issueNoted n l s).lanesIn = s.lanesIn := rfl
  obtain ⟨hvotes, hfind⟩ := find_issued (l := l) hv
  have hput : putVote (voteOf n (s.servo n l).issued o s.now (xs ++ [l]) none) (issueNoted n l s) =
      votesSet [voteOf n (s.servo n l).issued o s.now (xs ++ [l]) none] (issueNoted n l s) := putVote_one hvotes rfl rfl
  have hadd : { voteOf n (s.servo n l).issued o s.now xs none with issued := (voteOf n (s.servo n l).issued o s.now xs none).issued ++ [(l, s.now, o)] } =
      voteOf n (s.servo n l).issued o s.now (xs ++ [l]) none := by
    rw [voteOf, voteOf, List.map_append]
    rfl
  unfold issue
  dsimp only
  rw [show setServo n l (fun v => { v with issued := (s.servo n l).issued + 1 }) s = issueNoted n l s from rfl, hlanes, if_neg (Nat.not_lt.mpr htwo), hfind]
  dsimp only
  rw [← hput, ← hadd]
  rfl

theorem issue_third {xs : List Lane} (hv : s.time.votes = [voteOf n (s.servo n l).issued o s.now xs (some (s.now, o))]) (htwo : 2 ≤ s.lanesIn.length) :
    issue n l o s = pruneTb (runEnded l (votesSet [voteOf n (s.servo n l).issued o s.now (xs ++ [l]) (some (s.now, o))] (issueNoted n l s))) := by
  have hlanes : (issueNoted n l s).lanesIn = s.lanesIn := rfl
  obtain ⟨hvotes, hfind⟩ := find_issued (l := l) hv
  have hput : putVote (voteOf n (s.servo n l).issued o s.now (xs ++ [l]) (some (s.now, o))) (issueNoted n l s) =
      votesSet [voteOf n (s.servo n l).issued o s.now (xs ++ [l]) (some (s.now, o))] (issueNoted n l s) := putVote_one hvotes rfl rfl
  have hadd : { voteOf n (s.servo n l).issued o s.now xs (some (s.now, o)) with
      issued := (voteOf n (s.servo n l).issued o s.now xs (some (s.now, o))).issued ++ [(l, s.now, o)] } =
      voteOf n (s.servo n l).issued o s.now (xs ++ [l]) (some (s.now, o)) := by
    rw [voteOf, voteOf, List.map_append]
    rfl
  unfold issue
  dsimp only
  rw [show setServo n l (fun v => { v with issued := (s.servo n l).issued + 1 }) s = issueNoted n l s from rfl, hlanes, if_neg (Nat.not_lt.mpr htwo), hfind]
  dsimp only
  rw [← hput, ← hadd, ← judgeOut_alike]
  rfl

/-! ### The round of the lanes in vote

What the lanes in vote issue alike is open with the first, takes effect with the second, and is forgotten with the last. -/

/-- The votes after the lanes in `D`, the latest first, have issued `o` as the `k`th output of base `n`. -/
def VotesAfter (n k : Nat) (o : TbOut) (s : State) : List Lane → Prop
  | [] => s.time.votes = []
  | [x] => s.time.votes = [voteOf n k o s.now [x] none]
  | [y, x] => s.time.votes = if s.lanesIn.length = 2 then [] else [voteOf n k o s.now [x, y] (some (s.now, o))]
  | _ => s.time.votes = []

/-- A step of a lane before its output, or the effect of an output, that leaves voting as it was. -/
def Calm (n : Nat) (s t : State) : Prop :=
  t.time.votes = s.time.votes ∧ (∀ l, t.inVote l = s.inVote l) ∧ (∀ l, (t.servo n l).issued = (s.servo n l).issued) ∧ t.now = s.now ∧
  t.sys.failSilent = s.sys.failSilent

theorem decideAll_first {t : Nat} (hv : s.time.votes = [voteOf n k o t [x] none]) (hx : s.inVote x = true) (hy : s.inVote y = true) (hne : y ≠ x) :
    decideAllTb n s = s := by
  have hprune : pruneTb s = s := by
    rw [pruneTb_eq, hv]
    show votesSet [voteOf n k o t [x] none] s = s
    rw [← hv]
    rfl
  rw [decideAllTb, hv]
  show pruneTb (if s.sys.failSilent then s else decideTb n s) = s
  rw [decideTb_waits hv hx hy hne, ite_self, hprune]

/-- No lane is awaited exactly when the two that have issued are the only ones in vote. -/
theorem awaited_isEmpty (hx : s.inVote x = true) (hy : s.inVote y = true) (hne : y ≠ x) :
    (s.lanesIn.filter fun l => !(([x, y] : List Lane).contains l)).isEmpty = decide (s.lanesIn.length = 2) := by
  rw [Bool.eq_iff_iff, List.isEmpty_iff, List.filter_eq_nil_iff, decide_eq_true_eq]
  have hnodup : s.lanesIn.Nodup := List.Nodup.filter _ (by decide)
  refine ⟨fun hall => ?_, fun htwo l hl => ?_⟩
  · have hsub : s.lanesIn ⊆ [x, y] := fun l hl => by
      have hmem : ([x, y] : List Lane).contains l = true := Bool.not_eq_false _ ▸ fun h => hall l hl (by rw [h]; rfl)
      exact List.contains_iff_mem.mp hmem
    have hback : [x, y] ⊆ s.lanesIn := fun l hl => by
      obtain rfl | rfl : l = x ∨ l = y := by simpa using hl
      · exact (mem_lanesIn s l).mpr hx
      · exact (mem_lanesIn s l).mpr hy
    have hpair : [x, y].Nodup := by simpa using hne.symm
    exact Nat.le_antisymm (List.subperm_of_subset hnodup hsub).length_le (List.subperm_of_subset hpair hback).length_le
  · have hin := (mem_lanesIn s l).mp hl
    by_cases hlx : l = x
    · simp [hlx]
    · by_cases hly : l = y
      · simp [hly]
      · exact absurd hin (by rw [not_inVote_of_two htwo hne.symm hx hy hlx hly]; exact Bool.false_ne_true)

theorem servo_votesSet (vs : List TbVote) (m : Lane) (s : State) : (votesSet vs s).servo n m = s.servo n m := by
  match n with
  | 0 => rfl
  | 1 => rfl
  | 2 => rfl
  | _ + 3 => rfl

theorem servo_runEnded (l m : Lane) (s : State) : (runEnded l s).servo n m = s.servo n m := rfl

/-- The first output opens the vote. -/
theorem work_first (hn : n < 4) (hv : VotesAfter n k o s []) (hk : (s.servo n x).issued = k) (hx : s.inVote x = true) (htwo : 2 ≤ s.lanesIn.length) :
    VoteWork n s (issue n x o s) ∧ VotesAfter n k o (issue n x o s) [x] ∧
    (∀ m, ((issue n x o s).servo n m).issued = if m = x then k + 1 else (s.servo n m).issued) := by
  obtain ⟨y, hne, hy⟩ := exists_other_inVote x htwo
  have hissue := issue_first (l := x) (n := n) (o := o) hv htwo
  have hopen := decideAll_first (s := votesSet [voteOf n k o s.now [x] none] (issueNoted n x s)) (x := x) (y := y) rfl hx hy hne
  rw [hk] at hissue
  rw [hissue, hopen]
  refine ⟨voteWork_trans (voteWork_issueNoted hn x s) (voteWork_votesSet n _ _), rfl, fun m => ?_⟩
  rw [servo_votesSet, issued_issueNoted, hk]

theorem prune_decided {t : Nat} {xs : List Lane} (hv : s.time.votes = [voteOf n k o t xs (some (t, o))]) :
    (pruneTb s).time.votes = if (s.lanesIn.filter fun l => !xs.contains l).isEmpty then [] else [voteOf n k o t xs (some (t, o))] := by
  rw [pruneTb_eq, hv]
  show List.filter _ _ = _
  rw [← awaited_voteOf (n := n) (k := k) (o := o) (t := t) (d := some (t, o))]
  cases h : (s.tbAwaited (voteOf n k o t xs (some (t, o)))).isEmpty
  · exact List.filter_cons_of_pos (by rw [h]; rfl)
  · exact List.filter_cons_of_neg (by rw [h]; exact Bool.false_ne_true)

/-- The second output decides the vote and takes effect. -/
theorem work_second (hn : n < 4) (hv : VotesAfter n k o s [x]) (hk : (s.servo n y).issued = k) (hx : s.inVote x = true) (hy : s.inVote y = true) (hne : y ≠ x)
    (htwo : 2 ≤ s.lanesIn.length) (hok : s.sys.failSilent = false) (hcalm : ∀ u, VoteWork n s u → Calm n u (applyOut n o u)) :
    ∃ u, VoteWork n s u ∧ VoteWork n (applyOut n o u) (issue n y o s) ∧ VotesAfter n k o (issue n y o s) [y, x] ∧
    (∀ m, ((issue n y o s).servo n m).issued = if m = y then k + 1 else (s.servo n m).issued) := by
  set u := votesSet [voteOf n k o s.now [x, y] (some (s.now, o))] (votesSet [voteOf n k o s.now [x, y] none] (issueNoted n y s)) with hu
  have hwork : VoteWork n s u := voteWork_trans (voteWork_trans (voteWork_issueNoted hn y s) (voteWork_votesSet n _ _)) (voteWork_votesSet n _ _)
  obtain ⟨hvotes, hin, hissued, hnow, hsilent⟩ := hcalm u hwork
  have hissue := issue_second (l := y) (n := n) (o := o) (xs := [x]) (hk ▸ hv) htwo
  rw [hk] at hissue
  have hdecide := decideTb_decides (s := votesSet [voteOf n k o s.now [x, y] none] (issueNoted n y s)) (n := n) (k := k) (o := o) (x := x) (y := y) rfl hx hy hnow
  have hall := decideAllTb_one (s := votesSet [voteOf n k o s.now [x, y] none] (issueNoted n y s)) (n := n) rfl hok
  have heq : issue n y o s = pruneTb (runEnded y (runEnded x (applyOut n o u))) := hissue.trans (hall.trans (congrArg pruneTb hdecide))
  have hlanes : (runEnded y (runEnded x (applyOut n o u))).lanesIn = s.lanesIn :=
    lanesIn_congr fun l => by rw [inVote_runEnded, inVote_runEnded, hin, hwork.2.1]
  have hpruned := prune_decided (s := runEnded y (runEnded x (applyOut n o u))) (n := n) (k := k) (o := o) (t := s.now) (xs := [x, y]) hvotes
  have hrest : VoteWork n (applyOut n o u) (issue n y o s) := by
    rw [heq]
    exact voteWork_trans (voteWork_trans (voteWork_runEnded x _) (voteWork_runEnded y _)) (voteWork_votesSet n _ _)
  refine ⟨u, hwork, hrest, ?_, fun m => ?_⟩
  · rw [hlanes, awaited_isEmpty hx hy hne] at hpruned
    have hends : (issue n y o s).lanesIn = s.lanesIn := lanesIn_congr fun l => by rw [hrest.2.1, hin, hwork.2.1]
    have hendNow : (issue n y o s).now = s.now := (hrest.1.2 .now (by decide)).trans hnow
    show (issue n y o s).time.votes = _
    rw [hends, hendNow, heq, hpruned]
    simp
  · rw [heq, pruneTb_eq, servo_votesSet, servo_runEnded, servo_runEnded, hissued, hu, servo_votesSet, servo_votesSet, issued_issueNoted, hk]

/-- The third output finds its vote decided, and the vote is forgotten. -/
theorem work_third (hn : n < 4) (hv : VotesAfter n k o s [y, x]) (hk : (s.servo n z).issued = k) (hin : s.lanesIn = [x, y, z]) :
    VoteWork n s (issue n z o s) ∧ VotesAfter n k o (issue n z o s) [z, y, x] ∧
    (∀ m, ((issue n z o s).servo n m).issued = if m = z then k + 1 else (s.servo n m).issued) := by
  have hvotes : s.time.votes = [voteOf n k o s.now [x, y] (some (s.now, o))] := by
    have hv' : s.time.votes = _ := hv
    rw [hv', hin]
    rfl
  have hissue := issue_third (l := z) (n := n) (o := o) (xs := [x, y]) (hk ▸ hvotes) (by rw [hin]; exact Nat.le_succ 2)
  rw [hk] at hissue
  have hpruned := prune_decided (s := runEnded z (votesSet [voteOf n k o s.now [x, y, z] (some (s.now, o))] (issueNoted n z s))) (n := n) (k := k) (o := o) (t := s.now)
    (xs := [x, y, z]) rfl
  have hlanes : (runEnded z (votesSet [voteOf n k o s.now [x, y, z] (some (s.now, o))] (issueNoted n z s))).lanesIn = [x, y, z] :=
    (lanesIn_congr fun l => inVote_runEnded z l _).trans hin
  rw [hissue]
  refine ⟨voteWork_trans (voteWork_trans (voteWork_trans (voteWork_issueNoted hn z s) (voteWork_votesSet n _ _)) (voteWork_runEnded z _)) (voteWork_votesSet n _ _), ?_, fun m => ?_⟩
  · show (pruneTb _).time.votes = []
    refine hpruned.trans (if_pos ?_)
    rw [hlanes, List.isEmpty_iff, List.filter_eq_nil_iff]
    intro l hl
    rw [List.contains_iff_mem.mpr hl]
    exact Bool.false_ne_true
  · rw [pruneTb_eq, servo_votesSet, servo_runEnded, servo_votesSet, issued_issueNoted, hk]

end

end Sys2Proof.Machine

namespace Sys2Proof.Machine

set_option Elab.async false

section
variable {s t u : State} {n k : Nat} {l m x y z : Lane} {o : TbOut}

/-! ### A round of the lanes in vote (R125)

Each lane prepares and issues. `E D b` says what holds after the lanes in `D` have acted, `b` whether their output has taken effect: it survives the votes, a lane's
preparation adds the lane, and the second lane's output sets `b`. -/

/-- What the acts of the lanes keep to. -/
structure Round (n k : Nat) (o : TbOut) (s : State) (act pre : Lane → State → State) (E : List Lane → Bool → State → Prop) : Prop where
  base : n < 4
  votes : s.time.votes = []
  two : 2 ≤ s.lanesIn.length
  sound : s.sys.failSilent = false
  issued : ∀ l, s.inVote l = true → (s.servo n l).issued = k
  start : E [] false s
  work : ∀ D b u t, E D b u → VoteWork n u t → E D b t
  prepare : ∀ D b l u, E D b u → (∀ m, u.inVote m = s.inVote m) → l ∉ D → s.inVote l = true → E (l :: D) b (pre l u) ∧ Calm n u (pre l u) ∧ act l u = issue n l o (pre l u)
  apply : ∀ D u, E D false u → E D true (applyOut n o u) ∧ Calm n u (applyOut n o u)

/-- The state of a round after the lanes in `D`. -/
def Stage (n k : Nat) (o : TbOut) (s : State) (E : List Lane → Bool → State → Prop) (D : List Lane) (b : Bool) (u : State) : Prop :=
  E D b u ∧ VotesAfter n k o u D ∧ (∀ m, u.inVote m = s.inVote m) ∧ (∀ m, (u.servo n m).issued = if m ∈ D then k + 1 else (s.servo n m).issued) ∧
  u.sys.failSilent = false

theorem votesAfter_calm {D : List Lane} (h : Calm n s t) (hv : VotesAfter n k o s D) : VotesAfter n k o t D := by
  obtain ⟨hvotes, hin, _, hnow, _⟩ := h
  have hlanes := lanesIn_congr hin
  unfold VotesAfter at *
  rw [hvotes, hnow, hlanes]
  exact hv

theorem issued_cons {D : List Lane} (hsu : ∀ m, (u.servo n m).issued = if m ∈ D then k + 1 else (s.servo n m).issued)
    (hut : ∀ m, (t.servo n m).issued = if m = l then k + 1 else (u.servo n m).issued) :
    ∀ m, (t.servo n m).issued = if m ∈ l :: D then k + 1 else (s.servo n m).issued := fun m => by
  rw [hut, hsu]
  by_cases hm : m = l
  · rw [if_pos hm, if_pos (by rw [hm]; exact List.mem_cons_self)]
  · rw [if_neg hm]
    by_cases hD : m ∈ D
    · rw [if_pos hD, if_pos (List.mem_cons_of_mem _ hD)]
    · rw [if_neg hD, if_neg fun h => (List.mem_cons.mp h).elim hm hD]

section
variable {act pre : Lane → State → State} {E : List Lane → Bool → State → Prop} (h : Round n k o s act pre E)
include h

/-- A lane that is about to issue. -/
theorem stage_prepared {D : List Lane} {b : Bool} (hu : Stage n k o s E D b u) (hl : l ∉ D) (hin : s.inVote l = true) :
    E (l :: D) b (pre l u) ∧ VotesAfter n k o (pre l u) D ∧ (∀ m, (pre l u).inVote m = s.inVote m) ∧
    (∀ m, ((pre l u).servo n m).issued = if m ∈ D then k + 1 else (s.servo n m).issued) ∧ (pre l u).sys.failSilent = false ∧
    ((pre l u).servo n l).issued = k ∧ act l u = issue n l o (pre l u) := by
  obtain ⟨hE, hvotes, hsame, hissued, hsound⟩ := hu
  obtain ⟨hE', hcalm, hact⟩ := h.prepare D b l u hE hsame hl hin
  have hvotes' := votesAfter_calm hcalm hvotes
  obtain ⟨_, hin', hissued', _, hsound'⟩ := hcalm
  refine ⟨hE', hvotes', fun m => (hin' m).trans (hsame m), fun m => (hissued' m).trans (hissued m), hsound'.trans hsound, ?_, hact⟩
  rw [hissued', hissued, if_neg hl, h.issued l hin]

theorem stage_first (hu : Stage n k o s E [] false u) (hx : s.inVote x = true) : Stage n k o s E [x] false (act x u) := by
  obtain ⟨hE, hvotes, hsame, hissued, hsound, hk, hact⟩ := stage_prepared h hu List.not_mem_nil hx
  have htwo : 2 ≤ (pre x u).lanesIn.length := by rw [lanesIn_congr hsame]; exact h.two
  obtain ⟨hwork, hafter, hcount⟩ := work_first (o := o) h.base hvotes hk (by rw [hsame]; exact hx) htwo
  rw [hact]
  exact ⟨h.work _ _ _ _ hE hwork, hafter, fun m => (hwork.2.1 m).trans (hsame m), issued_cons hissued hcount,
    (congrArg Sys.failSilent (hwork.1.2 .sys (by decide))).trans hsound⟩

theorem stage_second (hu : Stage n k o s E [x] false u) (hx : s.inVote x = true) (hy : s.inVote y = true) (hne : y ≠ x) : Stage n k o s E [y, x] true (act y u) := by
  obtain ⟨hE, hvotes, hsame, hissued, hsound, hk, hact⟩ := stage_prepared h hu (by simpa using hne) hy
  have htwo : 2 ≤ (pre y u).lanesIn.length := by rw [lanesIn_congr hsame]; exact h.two
  obtain ⟨v, hwork, hrest, hafter, hcount⟩ := work_second h.base hvotes hk (by rw [hsame]; exact hx) (by rw [hsame]; exact hy) hne htwo hsound
    fun v hv => (h.apply _ v (h.work _ _ _ _ hE hv)).2
  obtain ⟨happlied, hcalm⟩ := h.apply _ v (h.work _ _ _ _ hE hwork)
  rw [hact]
  refine ⟨h.work _ _ _ _ happlied hrest, hafter, fun m => ?_, issued_cons hissued hcount, ?_⟩
  · rw [hrest.2.1, hcalm.2.1, hwork.2.1, hsame]
  · obtain ⟨_, _, _, _, hsilent⟩ := hcalm
    exact (congrArg Sys.failSilent (hrest.1.2 .sys (by decide))).trans (hsilent.trans ((congrArg Sys.failSilent (hwork.1.2 .sys (by decide))).trans hsound))

theorem stage_third (hu : Stage n k o s E [y, x] true u) (hlanes : s.lanesIn = [x, y, z]) (hz : s.inVote z = true) (hne : z ∉ [y, x]) :
    Stage n k o s E [z, y, x] true (act z u) := by
  obtain ⟨hE, hvotes, hsame, hissued, hsound, hk, hact⟩ := stage_prepared h hu hne hz
  obtain ⟨hwork, hafter, hcount⟩ := work_third h.base hvotes hk ((lanesIn_congr hsame).trans hlanes)
  rw [hact]
  exact ⟨h.work _ _ _ _ hE hwork, hafter, fun m => (hwork.2.1 m).trans (hsame m), issued_cons hissued hcount,
    (congrArg Sys.failSilent (hwork.1.2 .sys (by decide))).trans hsound⟩

/-- Two or three lanes in vote. -/
theorem round_done : ∃ D, (∀ l, l ∈ D ↔ s.inVote l = true) ∧ E D true (s.lanesIn.foldl (fun u l => act l u) s) ∧
    (s.lanesIn.foldl (fun u l => act l u) s).time.votes = [] ∧ (∀ m, (s.lanesIn.foldl (fun u l => act l u) s).inVote m = s.inVote m) ∧
    (∀ m, ((s.lanesIn.foldl (fun u l => act l u) s).servo n m).issued = if s.inVote m = true then k + 1 else (s.servo n m).issued) := by
  have hnodup : s.lanesIn.Nodup := List.Nodup.filter _ (by decide)
  have hle : s.lanesIn.length ≤ 3 := List.length_filter_le _ _
  have htwo := h.two
  have hmem := mem_lanesIn s
  have hstart : Stage n k o s E [] false s := ⟨h.start, h.votes, fun _ => rfl, fun _ => rfl, h.sound⟩
  match hlanes : s.lanesIn with
  | [] => rw [hlanes] at htwo; exact absurd htwo (by decide)
  | [x] => rw [hlanes] at htwo; exact absurd htwo (by simp)
  | [x, y] =>
    rw [hlanes] at hnodup hmem
    have hne : y ≠ x := by simpa [eq_comm] using hnodup
    have hx : s.inVote x = true := (hmem x).mp (by simp)
    have hy : s.inVote y = true := (hmem y).mp (by simp)
    obtain ⟨hE, hvotes, hsame, hissued, _⟩ := stage_second h (stage_first h hstart hx) hx hy hne
    have hD : ∀ l, l ∈ [y, x] ↔ s.inVote l = true := fun l => by rw [← hmem]; simp [or_comm]
    refine ⟨[y, x], hD, hE, ?_, hsame, fun m => ?_⟩
    · refine Eq.trans hvotes (if_pos ?_)
      rw [lanesIn_congr hsame, hlanes]
      rfl
    · refine (hissued m).trans ?_
      simp only [hD]
  | [x, y, z] =>
    rw [hlanes] at hnodup hmem
    obtain ⟨hyx, hzx, hzy⟩ : y ≠ x ∧ z ≠ x ∧ z ≠ y := by
      simp only [List.nodup_cons, List.mem_cons, List.not_mem_nil, not_or, or_false] at hnodup
      exact ⟨fun h => hnodup.1.1 h.symm, fun h => hnodup.1.2 h.symm, fun h => hnodup.2.1 h.symm⟩
    have hx : s.inVote x = true := (hmem x).mp (by simp)
    have hy : s.inVote y = true := (hmem y).mp (by simp)
    have hz : s.inVote z = true := (hmem z).mp (by simp)
    obtain ⟨hE, hvotes, hsame, hissued, _⟩ := stage_third h (stage_second h (stage_first h hstart hx) hx hy hyx) hlanes hz (by simp [hzx, hzy])
    have hD : ∀ l, l ∈ [z, y, x] ↔ s.inVote l = true := fun l => by
      rw [← hmem]
      simp only [List.mem_cons, List.not_mem_nil, or_false]
      exact ⟨fun h => h.elim (fun h => .inr (.inr h)) fun h => h.elim (fun h => .inr (.inl h)) .inl,
        fun h => h.elim (fun h => .inr (.inr h)) fun h => h.elim (fun h => .inr (.inl h)) .inl⟩
    refine ⟨[z, y, x], hD, hE, hvotes, hsame, fun m => ?_⟩
    refine (hissued m).trans ?_
    simp only [hD]
  | _ :: _ :: _ :: _ :: _ => rw [hlanes] at hle; exact absurd hle (by simp)

end

end

end Sys2Proof.Machine

namespace Sys2Proof.Machine

set_option Elab.async false

section
variable {s t u : State} {n : Nat} {l m : Lane} {v w : LaneServo} {e : Int}

/-! ### Lanes that act alike on a base (R125) -/

/-- The servo of base `n` in the lanes of `D` is `w`, as it was in the others, and nothing else of the bases has changed. -/
def Acted (n : Nat) (w : LaneServo) (s : State) (D : List Lane) (u : State) : Prop :=
  (∀ l, u.inVote l = s.inVote l) ∧ (∀ m, m < 4 → m ≠ n → u.base m = s.base m) ∧ u.base n = { s.base n with servos := (u.base n).servos } ∧
  (∀ l, u.servo n l = if l ∈ D then w else s.servo n l)

theorem acted_nil (n : Nat) (w : LaneServo) (s : State) : Acted n w s [] s := ⟨fun _ => rfl, fun _ _ _ => rfl, rfl, fun _ => rfl⟩

/-- One lane's servo changes. -/
def ServoTo (n : Nat) (l : Lane) (w : LaneServo) (s t : State) : Prop :=
  (∀ m, t.inVote m = s.inVote m) ∧ (∀ m, m < 4 → m ≠ n → t.base m = s.base m) ∧ t.base n = { s.base n with servos := (t.base n).servos } ∧
  t.servo n l = w ∧ ∀ m, m ≠ l → t.servo n m = s.servo n m

theorem servoTo_setServo (hn : n < 4) (f : LaneServo → LaneServo) (s : State) : ServoTo n l (f (s.servo n l)) s (setServo n l f s) :=
  ⟨fun _ => rfl, fun _ hm hne => base_setBase_ne _ _ hm hn hne, base_setServo _ _, servo_setServo_self _ _, fun _ h => servo_setServo_ne _ _ h⟩

theorem servoTo_trans (h : ServoTo n l v s t) (h' : ServoTo n l w t u) : ServoTo n l w s u := by
  obtain ⟨hin, hbase, hn, _, hrest⟩ := h
  obtain ⟨hin', hbase', hn', hself, hrest'⟩ := h'
  exact ⟨fun m => (hin' m).trans (hin m), fun m hm hne => (hbase' m hm hne).trans (hbase m hm hne), by rw [hn', hn], hself, fun m hm => (hrest' m hm).trans (hrest m hm)⟩

theorem servoTo_same (h : ServoTo n l w s t) (htime : u.time = t.time) (hin : ∀ m, u.inVote m = t.inVote m) : ServoTo n l w s u := by
  have hbase : ∀ m, u.base m = t.base m := fun m => by rw [State.base, State.base, htime]
  have hservo : ∀ m, u.servo n m = t.servo n m := fun m => by rw [State.servo, State.servo, hbase]
  obtain ⟨hin', hbase', hn', hself, hrest⟩ := h
  refine ⟨fun m => (hin m).trans (hin' m), fun m hm hne => (hbase m).trans (hbase' m hm hne), ?_, (hservo l).trans hself, fun m hm => (hservo m).trans (hrest m hm)⟩
  rw [hbase, hn']

theorem acted_cons {D : List Lane} (h : Acted n w s D u) (ht : ServoTo n l w u t) : Acted n w s (l :: D) t := by
  obtain ⟨hin, hbase, hn, hservo⟩ := h
  obtain ⟨hin', hbase', hn', hself, hrest⟩ := ht
  refine ⟨fun m => (hin' m).trans (hin m), fun m hm hne => (hbase' m hm hne).trans (hbase m hm hne), by rw [hn', hn], fun m => ?_⟩
  by_cases hm : m = l
  · rw [hm, hself, if_pos List.mem_cons_self]
  · rw [hrest m hm, hservo]
    by_cases hD : m ∈ D
    · rw [if_pos hD, if_pos (List.mem_cons_of_mem _ hD)]
    · rw [if_neg hD, if_neg fun h => (List.mem_cons.mp h).elim hm hD]

/-- What each lane in vote does in turn. -/
theorem lanes_foldl {E : List Lane → State → Prop} {act : Lane → State → State} (h0 : E [] s)
    (hact : ∀ D l u, E D u → l ∉ D → s.inVote l = true → E (l :: D) (act l u)) :
    ∃ D, (∀ l, l ∈ D ↔ s.inVote l = true) ∧ E D (s.lanesIn.foldl (fun u l => act l u) s) := by
  have hnodup : s.lanesIn.Nodup := List.Nodup.filter _ (by decide)
  have hfold : ∀ (ls D : List Lane) (u : State), E D u → ls.Nodup → (∀ l ∈ ls, l ∉ D ∧ s.inVote l = true) →
      ∃ D', (∀ l, l ∈ D' ↔ l ∈ ls ∨ l ∈ D) ∧ E D' (ls.foldl (fun u l => act l u) u) := by
    intro ls
    induction ls with
    | nil => exact fun D u hE _ _ => ⟨D, fun l => by simp, hE⟩
    | cons x xs ih =>
      intro D u hE hnd hall
      obtain ⟨hxs, hnd'⟩ := List.nodup_cons.mp hnd
      obtain ⟨hxD, hxin⟩ := hall x List.mem_cons_self
      obtain ⟨D', hD', hE'⟩ := ih (x :: D) (act x u) (hact D x u hE hxD hxin) hnd' fun l hl => by
        obtain ⟨hlD, hlin⟩ := hall l (List.mem_cons_of_mem _ hl)
        exact ⟨fun h => (List.mem_cons.mp h).elim (fun h => hxs (h ▸ hl)) hlD, hlin⟩
      refine ⟨D', fun l => ?_, hE'⟩
      rw [hD', List.mem_cons, List.mem_cons]
      exact ⟨fun h => h.elim (fun h => .inl (.inr h)) fun h => h.elim (fun h => .inl (.inl h)) .inr,
        fun h => h.elim (fun h => h.elim (fun h => .inr (.inl h)) .inl) fun h => .inr (.inr h)⟩
  obtain ⟨D, hD, hE⟩ := hfold s.lanesIn [] s h0 hnodup fun l hl => ⟨List.not_mem_nil, (mem_lanesIn s l).mp hl⟩
  exact ⟨D, fun l => by rw [hD, mem_lanesIn]; simp, hE⟩

theorem agreedOf_replicate {α : Type} [DecidableEq α] (x : α) {k : Nat} (hk : 2 ≤ k) : agreedOf (List.replicate k x) = some x := by
  match k with
  | 0 => exact absurd hk (by decide)
  | 1 => exact absurd hk (by decide)
  | k + 2 => exact if_pos (by simp [List.replicate_succ])

theorem map_lanesIn_alike {α : Type} {f : Lane → α} {x : α} (hall : ∀ l, s.inVote l = true → f l = x) : s.lanesIn.map f = List.replicate s.lanesIn.length x := by
  rw [List.eq_replicate_iff]
  refine ⟨List.length_map _, fun y hy => ?_⟩
  obtain ⟨l, hl, rfl⟩ := List.mem_map.mp hy
  exact hall l ((mem_lanesIn s l).mp hl)

/-- The majority of lanes that are alike. -/
theorem servoState_alike (hall : ∀ l, s.inVote l = true → (s.servo n l).state = v.state) (htwo : 2 ≤ s.lanesIn.length) : s.servoState (s.base n) = v.state := by
  have hmap : (s.lanesIn.map fun l => ((s.base n).servos.get l).state) = List.replicate s.lanesIn.length v.state := map_lanesIn_alike hall
  unfold State.servoState
  dsimp only
  rw [hmap, agreedOf_replicate _ htwo]
  rfl

/-! ### Interrupts of one lane -/

theorem pends_assertAt_self (l : Lane) (id : Nat) (s : State) (h : irqAssigned id = true) : id ∈ ((assertAt l id s).icus.get l).pend := by
  rw [assertAt, get_modify_self]
  exact mem_pend_assert _ _ _ h

theorem pends_assertAt {id k : Nat} (h : k ∈ (s.icus.get m).pend) : k ∈ ((assertAt l id s).icus.get m).pend := by
  by_cases e : m = l
  · subst e
    rw [assertAt, get_modify_self]
    exact mem_pend_assert_of_mem _ _ _ _ h
  · rw [assertAt, get_modify_ne _ _ _ _ e]
    exact h

/-! ### The first input of a FREE base (R127, R128) -/

/-- A servo that begins to acquire. -/
def LaneServo.started (v : LaneServo) : LaneServo := { v with state := .acquire, lockRun := 0, offRun := 0 }

/-- A servo that has a valid input `e` at the TB2 time `at_`. -/
def LaneServo.noted (v : LaneServo) (at_ : Nat) (e : Int) : LaneServo := { v with inputAt := some at_, lastE := e, valid := true, discards := 0 }

theorem toServo_acquire (h : (s.servo n l).state ≠ .acquire) : toServo n l .acquire s =
    assertAt l Irq.TB_STATE (setServo n l (fun x => { x with state := .acquire, integral := (s.servo n l).integral, lockRun := 0, offRun := 0 }) s) := if_neg h

theorem toServo_acquire_told (hn : n < 4) (h : (s.servo n l).state ≠ .acquire) : ServoTo n l (s.servo n l).started s (toServo n l .acquire s) ∧
    OnlyIn [.time, .icus] s (toServo n l .acquire s) ∧ (toServo n l .acquire s).time.votes = s.time.votes ∧ (toServo n l .acquire s).time.ptp = s.time.ptp ∧
    Irq.TB_STATE ∈ ((toServo n l .acquire s).icus.get l).pend ∧ ∀ k m, k ∈ (s.icus.get m).pend → k ∈ ((toServo n l .acquire s).icus.get m).pend := by
  rw [toServo_acquire h]
  have hset : ServoTo n l (s.servo n l).started s (setServo n l (fun x => { x with state := .acquire, integral := (s.servo n l).integral, lockRun := 0, offRun := 0 }) s) :=
    servoTo_setServo hn _ s
  have hrest : (setServo n l (fun x => { x with state := .acquire, integral := (s.servo n l).integral, lockRun := 0, offRun := 0 }) s).time.votes = s.time.votes ∧
      (setServo n l (fun x => { x with state := .acquire, integral := (s.servo n l).integral, lockRun := 0, offRun := 0 }) s).time.ptp = s.time.ptp := setBase_rest _ _ _
  exact ⟨servoTo_same hset rfl fun _ => rfl, only_assertAt (only_mk only_refl), hrest.1, hrest.2,
    pends_assertAt_self _ _ _ (by decide), fun _ _ h => pends_assertAt h⟩

theorem noteInput_told (hn : n < 4) (e : Int) (s : State) : ServoTo n l ((s.servo n l).noted s.time.tb2.time e) s (noteInput n l e s) ∧
    OnlyIn [.time] s (noteInput n l e s) ∧ (noteInput n l e s).time.votes = s.time.votes ∧ (noteInput n l e s).time.ptp = s.time.ptp :=
  ⟨servoTo_setServo hn _ s, only_mk only_refl, (setBase_rest _ _ _).1, (setBase_rest _ _ _).2⟩

/-- A first input at one lane's servo. -/
def firstInput (n : Nat) (e : Int) (l : Lane) (s : State) : State := noteInput n l e (toServo n l .acquire s)

theorem laneInput_free (hon : s.servoOn n l = true) (hstate : (s.servo n l).state = .free)
    (hsmall : e.natAbs ≤ max 1 (fld (s.laneTb l Off.TB_SERVO_CFG n) 24 8) * 256000) : laneInput n e l s = firstInput n e l s := by
  have hbig : decide (max 1 (fld (s.laneTb l Off.TB_SERVO_CFG n) 24 8) * 256000 < e.natAbs) = false := decide_eq_false (Nat.not_lt.mpr hsmall)
  unfold laneInput
  dsimp only
  rw [hon, hbig, hstate, Bool.and_false]
  rfl

theorem firstInput_told (hn : n < 4) (hne : n ≠ 2) (hstate : (s.servo n l).state = .free) :
    ServoTo n l ((s.servo n l).started.noted s.time.tb2.time e) s (firstInput n e l s) ∧ OnlyIn [.time, .icus] s (firstInput n e l s) ∧
    (firstInput n e l s).time.votes = s.time.votes ∧ (firstInput n e l s).time.ptp = s.time.ptp ∧
    Irq.TB_STATE ∈ ((firstInput n e l s).icus.get l).pend ∧ ∀ k m, k ∈ (s.icus.get m).pend → k ∈ ((firstInput n e l s).icus.get m).pend := by
  obtain ⟨hto, honly, hvotes, hptp, hpend, hkeep⟩ := toServo_acquire_told (l := l) (s := s) hn (by rw [hstate]; decide)
  obtain ⟨hnote, honly', hvotes', hptp'⟩ := noteInput_told (l := l) hn e (toServo n l .acquire s)
  have htb2 : (toServo n l .acquire s).time.tb2 = s.time.tb2 := hto.2.1 2 (by decide) hne.symm
  rw [hto.2.2.2.1, htb2] at hnote
  have hicus : (firstInput n e l s).icus = (toServo n l .acquire s).icus := honly'.2 .icus (by decide)
  refine ⟨servoTo_trans hto hnote, onlyIn_trans honly (onlyIn_mono honly' (by decide)), hvotes'.trans hvotes, hptp'.trans hptp, ?_, fun k m h => ?_⟩
  · rw [hicus]
    exact hpend
  · rw [hicus]
    exact hkeep k m h

/-- Lanes that have had their first input. -/
def FirstInputs (n : Nat) (v : LaneServo) (e : Int) (s : State) (D : List Lane) (u : State) : Prop :=
  Acted n (v.started.noted s.time.tb2.time e) s D u ∧ OnlyIn [.time, .icus] s u ∧ u.time.votes = s.time.votes ∧ u.time.ptp = s.time.ptp ∧
  ∀ l ∈ D, Irq.TB_STATE ∈ (u.icus.get l).pend

theorem firstInputs_nil (n : Nat) (v : LaneServo) (e : Int) (s : State) : FirstInputs n v e s [] s :=
  ⟨acted_nil _ _ _, only_refl, rfl, rfl, fun _ h => absurd h List.not_mem_nil⟩

theorem firstInputs_cons {D : List Lane} (hn : n < 4) (hne : n ≠ 2) (hfree : v.state = .free) (hservo : s.servo n l = v) (h : FirstInputs n v e s D u) (hl : l ∉ D) :
    FirstInputs n v e s (l :: D) (firstInput n e l u) := by
  obtain ⟨hacted, honly, hvotes, hptp, hpend⟩ := h
  have hself : u.servo n l = v := by rw [hacted.2.2.2, if_neg hl, hservo]
  have htb2 : u.time.tb2 = s.time.tb2 := hacted.2.1 2 (by decide) hne.symm
  obtain ⟨hto, honly', hvotes', hptp', hpend', hkeep⟩ := firstInput_told (s := u) (l := l) (e := e) hn hne (by rw [hself, hfree])
  rw [hself, htb2] at hto
  refine ⟨acted_cons hacted hto, onlyIn_trans honly honly', hvotes'.trans hvotes, hptp'.trans hptp, fun m hm => ?_⟩
  obtain rfl | hm := List.mem_cons.mp hm
  · exact hpend'
  · exact hkeep _ _ (hpend m hm)

/-- The premises of an input that the servos of base `n` take as their first. -/
structure FirstAt (n : Nat) (v : LaneServo) (e : Int) (s : State) : Prop where
  base : n < 4
  notTb2 : n ≠ 2
  alike : s.alike n v
  auto : fld (s.tbReg Off.TB_SERVO_CFG n) 0 2 = 1
  source : n = 1 → fld (s.maj Off.TB_CFG) 0 2 ≠ 0
  free : v.state = .free
  small : e.natAbs ≤ max 1 (fld (s.tbReg Off.TB_SERVO_CFG n) 24 8) * 256000

theorem servoOn_of_alike (halike : s.alike n v) (hne : n ≠ 2) (hauto : fld (s.tbReg Off.TB_SERVO_CFG n) 0 2 = 1) (hsource : n = 1 → fld (s.maj Off.TB_CFG) 0 2 ≠ 0)
    (hin : s.inVote l = true) : s.servoOn n l = true := by
  obtain ⟨_, _, hall⟩ := halike
  obtain ⟨_, hcfg, hservo, _, _⟩ := hall l hin
  unfold State.servoOn
  rw [hservo, hcfg, hauto, bne_iff_ne.mpr hne]
  by_cases h1 : n = 1
  · rw [beq_false_of_ne (hsource h1), Bool.and_false]
    rfl
  · rw [beq_false_of_ne h1, Bool.false_and]
    rfl

theorem servoOn_of_only {P : List Part} (h : OnlyIn P s t) (hP : Part.regs ∉ P := by decide) : t.servoOn n l = s.servoOn n l := by
  unfold State.servoOn State.laneTb
  rw [reg_of_only _ h hP, reg_of_only _ h hP]

theorem laneTb_of_only {P : List Part} {off : Nat} (h : OnlyIn P s t) (hP : Part.regs ∉ P := by decide) : t.laneTb l off n = s.laneTb l off n := reg_of_only _ h hP

theorem laneInput_first {D : List Lane} (h : FirstAt n v e s) (hu : FirstInputs n v e s D u) (hl : l ∉ D) (hin : s.inVote l = true) :
    laneInput n e l u = firstInput n e l u := by
  obtain ⟨hacted, honly, _, _, _⟩ := hu
  obtain ⟨_, _, hall⟩ := h.alike
  obtain ⟨hservo, _, hcfg, _, _⟩ := hall l hin
  refine laneInput_free ?_ ?_ ?_
  · rw [servoOn_of_only honly]
    exact servoOn_of_alike h.alike h.notTb2 h.auto h.source hin
  · rw [hacted.2.2.2, if_neg hl, hservo, h.free]
  · rw [laneTb_of_only honly, hcfg]
    exact h.small

theorem firstInputs_step {D : List Lane} (h : FirstAt n v e s) (hu : FirstInputs n v e s D u) (hl : l ∉ D) (hin : s.inVote l = true) :
    FirstInputs n v e s (l :: D) (laneInput n e l u) := by
  obtain ⟨_, _, hall⟩ := h.alike
  obtain ⟨hservo, _⟩ := hall l hin
  rw [laneInput_first h hu hl hin]
  exact firstInputs_cons h.base h.notTb2 h.free hservo hu hl

/-- What the lanes leave of a first input. -/
theorem firstInputs_done {D : List Lane} (h : FirstInputs n v e s D t) (hD : ∀ l, l ∈ D ↔ s.inVote l = true) :
    Served n (v.started.noted s.time.tb2.time e) s t ∧ t.base n = { s.base n with servos := (t.base n).servos } ∧ Raised Irq.TB_STATE t := by
  obtain ⟨⟨hin, hbase, hn, hservo⟩, _, _, _, hpend⟩ := h
  refine ⟨⟨fun l => ?_, hbase⟩, hn, fun l hl => hpend l ((hD l).mpr ((hin l).symm.trans hl))⟩
  rw [hservo]
  simp only [hD]

theorem servoState_of_alike (h : s.alike n v) : s.servoState (s.base n) = v.state := by
  obtain ⟨_, htwo, hall⟩ := h
  exact servoState_alike (fun l hl => by rw [(hall l hl).1]) htwo

/-- A record requested after a change of other parts, and of servos and rates, was requested before it. -/
theorem recorded_rebased {P : List Part} {type : Nat} {items : List Item} (h : Recorded type items t u) (ho : OnlyIn P s t) (htb : t.time.tb0.time = s.time.tb0.time)
    (hP : ∀ p ∈ [Part.sys, .isl, .erec, .nv], p ∉ P := by decide) : Recorded type items s u := by
  have hup : t.recUp = s.recUp := recUp_of_only ho fun p hp => hP p (by revert p; decide)
  have herec : t.erec = s.erec := ho.2 .erec (hP _ (by decide))
  have hisl : t.isl = s.isl := ho.2 .isl (hP _ (by decide))
  have hnv : t.nv = s.nv := ho.2 .nv (hP _ (by decide))
  unfold Recorded at *
  rw [hup, herec, hisl, hnv, htb] at h
  exact h

theorem tb0_time_of_base {m : Nat} (hn : t.base m = { s.base m with servos := (t.base m).servos }) (hother : ∀ k, k < 4 → k ≠ m → t.base k = s.base k) :
    t.time.tb0.time = s.time.tb0.time := by
  by_cases h : 0 = m
  · subst h
    show (t.base 0).time = (s.base 0).time
    rw [hn]
    rfl
  · exact congrArg Base.time (hother 0 (by decide) h)

/-- The lanes' first input, recorded as a change of state. -/
theorem servoInput_first (h : FirstAt n v e s) : Served n (v.started.noted s.time.tb2.time e) s (servoInput n e s) ∧
    (servoInput n e s).base n = { s.base n with servos := ((servoInput n e s).base n).servos } ∧ Raised Irq.TB_STATE (servoInput n e s) ∧
    Recorded 0x0401 [iU8 1 n, iU8 2 0, iU8 3 1] s (servoInput n e s) ∧ (servoInput n e s).time.ptp = s.time.ptp ∧
    RegsOnly [Off.REC_LOST_CNT] s (servoInput n e s) ∧ OnlyIn (.time :: recParts) s (servoInput n e s) := by
  obtain ⟨D, hD, hE⟩ := lanes_foldl (s := s) (firstInputs_nil n v e s) fun D l u hu hl hin => firstInputs_step h hu hl hin
  have heq : servoInput n e s = when (s.servoState (s.base n) != (s.lanesIn.foldl (fun s l => laneInput n e l s) s).servoState ((s.lanesIn.foldl (fun s l => laneInput n e l s) s).base n))
      (record 0x0401 [iU8 1 n, iU8 2 (s.servoState (s.base n)).code,
        iU8 3 ((s.lanesIn.foldl (fun s l => laneInput n e l s) s).servoState ((s.lanesIn.foldl (fun s l => laneInput n e l s) s).base n)).code])
      (s.lanesIn.foldl (fun s l => laneInput n e l s) s) := rfl
  rw [heq]
  clear heq
  generalize s.lanesIn.foldl (fun u l => laneInput n e l u) s = t at *
  obtain ⟨hserved, hbase, hraised⟩ := firstInputs_done hE hD
  obtain ⟨⟨hin, _, _, hservo⟩, honly, _, hptp, _⟩ := hE
  have hbefore : s.servoState (s.base n) = .free := (servoState_of_alike h.alike).trans h.free
  have hafter : t.servoState (t.base n) = .acquire := servoState_alike (v := v.started.noted s.time.tb2.time e)
    (fun l hl => by rw [hservo, if_pos ((hD l).mpr ((hin l).symm.trans hl))]) (by rw [lanesIn_congr hin]; exact h.alike.2.1)
  rw [hbefore, hafter]
  have hrec : OnlyIn recParts t (record 0x0401 [iU8 1 n, iU8 2 0, iU8 3 1] t) := only_record only_refl
  have htime : (record 0x0401 [iU8 1 n, iU8 2 0, iU8 3 1] t).time = t.time := hrec.2 .time (by decide)
  have hbases : ∀ m, (record 0x0401 [iU8 1 n, iU8 2 0, iU8 3 1] t).base m = t.base m := fun m => by rw [State.base, State.base, htime]
  rw [show when (Servo.free != Servo.acquire) (record 0x0401 [iU8 1 n, iU8 2 Servo.free.code, iU8 3 Servo.acquire.code]) t =
    record 0x0401 [iU8 1 n, iU8 2 0, iU8 3 1] t from rfl]
  refine ⟨⟨fun l => ?_, fun m hm hne => (hbases m).trans (hserved.2 m hm hne)⟩, by rw [hbases]; exact hbase, raised_record hraised, ?_, by rw [htime, hptp],
    regs_record (regs_of_only regs_refl honly), onlyIn_trans (onlyIn_mono honly (by decide)) (onlyIn_mono hrec (by decide))⟩
  · rw [State.servo, hbases]
    exact hserved.1 l
  · exact recorded_rebased (recorded_record _ _ t) honly (tb0_time_of_base hbase hserved.2)

end

end Sys2Proof.Machine

namespace Sys2Proof.Machine

set_option Elab.async false

section
variable {s t u : State} {n : Nat} {l m : Lane} {v w : LaneServo} {e : Int}

/-! ### Offset inputs of a base (R126, R127, R138) -/

theorem exec_servoOffsetInput (hup : s.up = true) (hn : n < 4) (hne : n ≠ 0) : exec (.servoOffsetInput n e) s = .next (servoInput n e s) :=
  congrArg Host.Outcome.next ((if_pos (by rw [hup, decide_eq_true hn]; rfl)).trans (congrFun (if_neg hne) s))

theorem exec_servoOffsetInput_tb0 (hup : s.up = true) : exec (.servoOffsetInput 0 e) s = .next (tb0Input e s) :=
  congrArg Host.Outcome.next ((if_pos (by rw [hup]; rfl)).trans (congrFun (if_pos rfl) s))

theorem tb0Input_taken (hall : ∀ l, (servoInput 0 e s).inVote l = true → ((servoInput 0 e s).servo 0 l).discards = 0) (htwo : 2 ≤ (servoInput 0 e s).lanesIn.length) :
    tb0Input e s = servoInput 0 e s := by
  have hzero : (servoInput 0 e s).discards = 0 := by
    rw [State.discards, map_lanesIn_alike hall, agreedOf_replicate _ htwo]
    rfl
  unfold tb0Input
  dsimp only
  rw [hzero]
  rfl

/-- An input that the lanes take reaches the servos of every base alike. -/
theorem exec_servoOffsetInput_of_taken (hup : s.up = true) (hn : n < 4) (hin : ∀ l, (servoInput n e s).inVote l = s.inVote l) (htwo : 2 ≤ s.lanesIn.length)
    (hall : ∀ l, s.inVote l = true → ((servoInput n e s).servo n l).discards = 0) : exec (.servoOffsetInput n e) s = .next (servoInput n e s) := by
  by_cases h : n = 0
  · subst h
    rw [exec_servoOffsetInput_tb0 hup, tb0Input_taken (fun l hl => hall l ((hin l).symm.trans hl)) (by rw [lanesIn_congr hin]; exact htwo)]
  · exact exec_servoOffsetInput hup hn h

theorem base_of_mem (h : n ∈ [0, 1, 3]) : n < 4 ∧ n ≠ 2 := by
  revert h n
  decide

theorem exists_next_servoOffsetInput_first (s : State) (n : Nat) (v : LaneServo) (e : Int) (cfg : Word) (hup : s.up = true) (hn : n ∈ [0, 1, 3]) (halike : s.alike n v)
    (hcfg : cfg = s.tbReg Off.TB_SERVO_CFG n) (hauto : fld cfg 0 2 = 1) (hsource : n = 1 → fld (s.maj Off.TB_CFG) 0 2 ≠ 0) (hfree : v.state = .free)
    (hsmall : e.natAbs ≤ max 1 (fld cfg 24 8) * 256000) :
    ∃ t, exec (.servoOffsetInput n e) s = .next t ∧
      Served n { v with state := .acquire, lockRun := 0, offRun := 0, inputAt := some s.time.tb2.time, lastE := e, valid := true, discards := 0 } s t ∧
      t.base n = { s.base n with servos := (t.base n).servos } ∧ Raised Irq.TB_STATE t ∧ Recorded 0x0401 [iU8 1 n, iU8 2 0, iU8 3 1] s t ∧
      RegsOnly [Off.REC_LOST_CNT] s t ∧ OnlyIn (.time :: recParts) s t := by
  subst hcfg
  obtain ⟨hlt, hne⟩ := base_of_mem hn
  obtain ⟨hserved, hbase, hraised, hrec, _, hregs, honly⟩ := servoInput_first ⟨hlt, hne, halike, hauto, hsource, hfree, hsmall⟩
  have hin : ∀ l, (servoInput n e s).inVote l = s.inVote l := fun l => congrArg (fun x => (x.lanes.get l).inVote) (honly.2 .vot (by decide) : (servoInput n e s).vot = s.vot)
  refine ⟨_, exec_servoOffsetInput_of_taken hup hlt hin halike.2.1 fun l hl => ?_, hserved, hbase, hraised, hrec, hregs, honly⟩
  rw [hserved.1, if_pos hl]
  rfl

end

end Sys2Proof.Machine

namespace Sys2Proof.Machine

set_option Elab.async false

section
variable {s t u : State} {n k r off id : Nat} {l m : Lane} {v w : LaneServo} {ids R : List Nat} {e : Int}

/-! ### What a lane does before its output (R125 to R127) -/

/-- A lane's servo of base `n` has become `w`, the interrupts `ids` are pending in the lane, and no register outside `R` differs. -/
structure Prepared (n : Nat) (l : Lane) (w : LaneServo) (ids R : List Nat) (s t : State) : Prop where
  servo : ServoTo n l w s t
  only : OnlyIn [.regs, .time, .icus] s t
  regs : RegsOnly R s t
  votes : t.time.votes = s.time.votes
  ptp : t.time.ptp = s.time.ptp
  pends : ∀ id ∈ ids, id ∈ (t.icus.get l).pend
  keeps : ∀ id m, id ∈ (s.icus.get m).pend → id ∈ (t.icus.get m).pend

theorem servoTo_refl (n : Nat) (l : Lane) (s : State) : ServoTo n l (s.servo n l) s s := ⟨fun _ => rfl, fun _ _ _ => rfl, rfl, rfl, fun _ _ => rfl⟩

theorem prepared_refl (n : Nat) (l : Lane) (R : List Nat) (s : State) : Prepared n l (s.servo n l) [] R s s :=
  ⟨servoTo_refl n l s, only_refl, regs_refl, rfl, rfl, fun _ h => absurd h List.not_mem_nil, fun _ _ h => h⟩

theorem Prepared.setServo (h : Prepared n l w ids R s t) (hn : n < 4) (f : LaneServo → LaneServo) : Prepared n l (f w) ids R s (setServo n l f t) where
  servo := by
    have hset := servoTo_setServo (l := l) hn f t
    rw [h.servo.2.2.2.1] at hset
    exact servoTo_trans h.servo hset
  only := onlyIn_trans h.only (onlyIn_mono (onlyIn_setBase n _ t) (by decide))
  regs := regs_of_only h.regs (onlyIn_setBase n _ t)
  votes := (setBase_rest _ _ _).1.trans h.votes
  ptp := (setBase_rest _ _ _).2.trans h.ptp
  pends := h.pends
  keeps := h.keeps

theorem Prepared.assertAt (h : Prepared n l w ids R s t) (hid : irqAssigned id = true) : Prepared n l w (id :: ids) R s (assertAt l id t) where
  servo := servoTo_same h.servo rfl fun _ => rfl
  only := only_assertAt h.only
  regs := regs_assertAt h.regs
  votes := h.votes
  ptp := h.ptp
  pends := fun k hk => by
    obtain rfl | hk := List.mem_cons.mp hk
    · exact pends_assertAt_self _ _ _ hid
    · exact pends_assertAt (h.pends k hk)
  keeps := fun k m hk => pends_assertAt (h.keeps k m hk)

/-- Other parts change. -/
theorem Prepared.then {P : List Part} (h : Prepared n l w ids R s t) (honly : OnlyIn P t u) (hregs : RegsOnly R t u)
    (hP : ∀ p, p ∈ P → p = Part.regs := by decide) : Prepared n l w ids R s u where
  servo := by
    have hvot : u.vot = t.vot := honly.2 .vot fun hp => absurd (hP _ hp) (by decide)
    exact servoTo_same h.servo (honly.2 .time fun hp => absurd (hP _ hp) (by decide)) fun m => by rw [State.inVote, State.inVote, hvot]
  only := onlyIn_trans h.only (onlyIn_mono honly fun p hp => by rw [hP p hp]; decide)
  regs := regsOnly_trans h.regs hregs
  votes := (congrArg (·.votes) (honly.2 .time fun hp => absurd (hP _ hp) (by decide) : u.time = t.time)).trans h.votes
  ptp := (congrArg (·.ptp) (honly.2 .time fun hp => absurd (hP _ hp) (by decide) : u.time = t.time)).trans h.ptp
  pends := fun id hid => by
    rw [(honly.2 .icus fun hp => absurd (hP _ hp) (by decide) : u.icus = t.icus)]
    exact h.pends id hid
  keeps := fun id m hid => by
    rw [(honly.2 .icus fun hp => absurd (hP _ hp) (by decide) : u.icus = t.icus)]
    exact h.keeps id m hid

theorem Prepared.bumpLane (h : Prepared n l w ids R s t) (hoff : off < 16777216 ∧ off ∈ R) : Prepared n l w ids R s (bumpLane l off t) :=
  h.then (P := [.regs]) (only_bumpLane only_refl) (regs_bumpLane regs_refl hoff)

theorem Prepared.weaken (h : Prepared n l w ids R s t) {ids' : List Nat} (hsub : ∀ id ∈ ids', id ∈ ids) : Prepared n l w ids' R s t :=
  { h with pends := fun id hid => h.pends id (hsub id hid) }

theorem Prepared.when {c : Bool} {f : State → State} (h : Prepared n l w ids R s t) (hf : ∀ u, Prepared n l w ids R s u → Prepared n l w ids R s (f u)) :
    Prepared n l w ids R s (when c f t) := by
  cases c
  · exact h
  · exact hf t h

theorem Prepared.calm (h : Prepared n l w ids R s t) (hissued : w.issued = (s.servo n l).issued) : Calm n s t := by
  obtain ⟨hin, _, _, hself, hrest⟩ := h.servo
  refine ⟨h.votes, hin, fun m => ?_, h.only.2 .now (by decide), congrArg Sys.failSilent (h.only.2 .sys (by decide))⟩
  by_cases hm : m = l
  · rw [hm, hself, hissued]
  · rw [hrest m hm]

/-! ### Rates issued alike -/

/-- The servo of base `n` in the lanes of `D` is `w` but for its count of outputs, as it was in the others, and once `b`, the base runs at the rate `r`. -/
structure Rated (n r : Nat) (w : LaneServo) (ids R : List Nat) (s : State) (D : List Lane) (b : Bool) (u : State) : Prop where
  votes : ∀ l, u.inVote l = s.inVote l
  bases : ∀ m, m < 4 → m ≠ n → u.base m = s.base m
  base : u.base n = { s.base n with rate := if b then r else (s.base n).rate, servos := (u.base n).servos }
  servo : ∀ l, u.servo n l = { (if l ∈ D then w else s.servo n l) with issued := (u.servo n l).issued }
  only : OnlyIn [.regs, .time, .vot, .icus] s u
  regs : RegsOnly R s u
  pends : ∀ l ∈ D, ∀ id ∈ ids, id ∈ (u.icus.get l).pend

theorem rated_nil : Rated n r w ids R s [] false s :=
  ⟨fun _ => rfl, fun _ _ _ => rfl, rfl, fun _ => rfl, only_refl, regs_refl, fun _ h => absurd h List.not_mem_nil⟩

theorem Rated.work {D : List Lane} {b : Bool} (h : Rated n r w ids R s D b u) (hw : VoteWork n u t) : Rated n r w ids R s D b t := by
  obtain ⟨honly, hin, hbases, hbase, hservo, _⟩ := hw
  refine ⟨fun l => (hin l).trans (h.votes l), fun m hm hne => (hbases m hm hne).trans (h.bases m hm hne), ?_, fun l => ?_,
    onlyIn_trans h.only (onlyIn_mono honly (by decide)), regs_of_only h.regs honly, fun l hl id hid => ?_⟩
  · rw [hbase, h.base]
  · rw [hservo, h.servo]
  · rw [show t.icus = u.icus from honly.2 .icus (by decide)]
    exact h.pends l hl id hid

theorem Rated.prepared {D : List Lane} {b : Bool} (h : Rated n r w ids R s D b u) (hp : Prepared n l { w with issued := (u.servo n l).issued } ids R u t) :
    Rated n r w ids R s (l :: D) b t := by
  obtain ⟨hin, hbases, hbase, hself, hrest⟩ := hp.servo
  refine ⟨fun l => (hin l).trans (h.votes l), fun m hm hne => (hbases m hm hne).trans (h.bases m hm hne), ?_, fun m => ?_,
    onlyIn_trans h.only (onlyIn_mono hp.only (by decide)), regsOnly_trans h.regs hp.regs, fun m hm id hid => ?_⟩
  · rw [hbase, h.base]
  · by_cases hm : m = l
    · rw [hm, hself, if_pos List.mem_cons_self]
    · rw [hrest m hm, h.servo]
      by_cases hD : m ∈ D
      · rw [if_pos hD, if_pos (List.mem_cons_of_mem _ hD)]
      · rw [if_neg hD, if_neg fun h => (List.mem_cons.mp h).elim hm hD]
  · by_cases hml : m = l
    · rw [hml]
      exact hp.pends id hid
    · exact hp.keeps id m (h.pends m ((List.mem_cons.mp hm).resolve_left hml) id hid)

theorem applyOut_rate (hne : n ≠ 2) (s : State) : applyOut n (.rate r) s = setBase n (fun b => { b with rate := r }) s := if_neg (by simpa using hne)

theorem servo_setBase_rate (n r : Nat) (l : Lane) (s : State) : (setBase n (fun b => { b with rate := r }) s).servo n l = s.servo n l := by
  rw [State.servo, base_setBase_self]
  rfl

theorem Rated.applied {D : List Lane} (h : Rated n r w ids R s D false u) (hn : n < 4) (hne : n ≠ 2) :
    Rated n r w ids R s D true (applyOut n (.rate r) u) ∧ Calm n u (applyOut n (.rate r) u) := by
  rw [applyOut_rate hne]
  have honly := onlyIn_setBase n (fun b => { b with rate := r }) u
  refine ⟨⟨h.votes, fun m hm hmn => (base_setBase_ne _ _ hm hn hmn).trans (h.bases m hm hmn), ?_, fun l => ?_, onlyIn_trans h.only (onlyIn_mono honly (by decide)),
    regs_of_only h.regs honly, h.pends⟩, (setBase_rest _ _ _).1, fun _ => rfl, fun l => ?_, rfl, rfl⟩
  · rw [base_setBase_self, h.base]
    rfl
  · rw [servo_setBase_rate n r, h.servo]
  · rw [servo_setBase_rate n r]

/-- What the lanes in vote prepare alike and issue alike. -/
theorem rated_done {act pre : Lane → State → State} (hn : n < 4) (hne : n ≠ 2) (halike : s.alike n v) (hup : s.up = true)
    (hprep : ∀ D b l u, Rated n r w ids R s D b u → l ∉ D → s.inVote l = true →
      Prepared n l { w with issued := (u.servo n l).issued } ids R u (pre l u) ∧ act l u = issue n l (.rate r) (pre l u)) :
    ∃ D, (∀ l, l ∈ D ↔ s.inVote l = true) ∧ Rated n r w ids R s D true (s.lanesIn.foldl (fun u l => act l u) s) ∧
      (s.lanesIn.foldl (fun u l => act l u) s).time.votes = [] ∧
      (∀ m, ((s.lanesIn.foldl (fun u l => act l u) s).servo n m).issued = if s.inVote m = true then v.issued + 1 else (s.servo n m).issued) := by
  obtain ⟨hvotes, htwo, hall⟩ := halike
  have hround : Round n v.issued (.rate r) s act pre (Rated n r w ids R s) :=
    { base := hn, votes := hvotes, two := htwo, sound := failSilent_of_up hup, issued := fun l hl => by rw [(hall l hl).1]
      start := rated_nil
      work := fun D b u t h hw => h.work hw
      prepare := fun D b l u h _ hl hin => ⟨h.prepared (hprep D b l u h hl hin).1, (hprep D b l u h hl hin).1.calm rfl, (hprep D b l u h hl hin).2⟩
      apply := fun D u h => h.applied hn hne }
  obtain ⟨D, hD, hE, hnone, _, hissued⟩ := round_done hround
  exact ⟨D, hD, hE, hnone, hissued⟩

/-! ### Changes of a base's state (R127) -/

theorem stateWatch_same {f : State → State} (h : s.servoState (s.base n) = (f s).servoState ((f s).base n)) : stateWatch n f s = f s := by
  unfold stateWatch
  dsimp only
  rw [h, bne_self_eq_false]
  rfl

theorem stateWatch_changed {f : State → State} {p q : Servo} (hp : s.servoState (s.base n) = p) (hq : (f s).servoState ((f s).base n) = q) (hne : p ≠ q) :
    stateWatch n f s = record 0x0401 [iU8 1 n, iU8 2 p.code, iU8 3 q.code] (f s) := by
  unfold stateWatch
  dsimp only
  rw [hp, hq, bne_iff_ne.mpr hne]
  rfl

end

end Sys2Proof.Machine

namespace Sys2Proof.Machine

set_option Elab.async false

section
variable {s t u : State} {n : Nat} {l : Lane} {v w : LaneServo} {e i p lim c : Int} {at_ : Nat}

/-! ### Slewing a LOCKED base (R126, Table 4.2) -/

/-- The PI terms of an input. -/
def slewTerms (n : Nat) (l : Lane) (e : Int) (dt : Nat) (s : State) : Int × Nat × Bool × Bool :=
  servoTerms (s.laneTb l Off.TB_SERVO_CFG n) (s.laneTb l Off.TB_GAINS n) (s.base 2).rate (s.servo n l).integral e dt

/-- A lane's servo with its new integral, its clamped terms counted. -/
def termsTaken (n : Nat) (l : Lane) (x : Int × Nat × Bool × Bool) (s : State) : State :=
  when x.2.2.2 (clamped n l) (when x.2.2.1 (clamped n l) (setServo n l (fun b => { b with integral := x.1, clamped := x.2.2.1 || x.2.2.2 }) s))

theorem slew_eq (dt : Nat) : slew n l e dt s =
    issueRate n l (slewTerms n l e dt s).2.1 (servoLock n l (max 1 (fld (s.laneTb l Off.TB_SERVO_CFG n) 8 8) * 256) e (termsTaken n l (slewTerms n l e dt s) s)) := rfl

/-- A LOCKED servo after an input within its limit. -/
def LaneServo.slewed (v : LaneServo) (thr : Nat) (e : Int) (x : Int × Nat × Bool × Bool) : LaneServo :=
  { v with integral := x.1, clamped := x.2.2.1 || x.2.2.2, lockRun := if e.natAbs ≤ thr then v.lockRun + 1 else 0, offRun := 0 }

theorem servoLock_locked {thr : Nat} (hstate : (s.servo n l).state = .locked) (hsmall : e.natAbs ≤ 4 * thr) :
    servoLock n l thr e s = setServo n l (fun b => { b with lockRun := if e.natAbs ≤ thr then (s.servo n l).lockRun + 1 else 0, offRun := 0 }) s := by
  unfold servoLock
  dsimp only
  rw [hstate, if_neg (Nat.not_lt.mpr hsmall)]
  rfl

theorem clampCnt_lt (hn : n < 4) : Off.TB_CLAMP_CNT + 4 * n < 16777216 := by
  change 0x30190 + 4 * n < 16777216
  omega

theorem prepared_clamped {ids : List Nat} {b : State} (hn : n < 4) (h : Prepared n l w ids [Off.TB_CLAMP_CNT + 4 * n] b s) :
    Prepared n l w ids [Off.TB_CLAMP_CNT + 4 * n] b (clamped n l s) :=
  ((h.bumpLane ⟨clampCnt_lt hn, List.mem_singleton_self _⟩).assertAt (by decide)).weaken fun _ => List.mem_cons_of_mem _

/-- What a lane does with a further input before its rate. -/
def slewing (n : Nat) (e : Int) (dt : Nat) (l : Lane) (s : State) : State :=
  servoLock n l (max 1 (fld (s.laneTb l Off.TB_SERVO_CFG n) 8 8) * 256) e (termsTaken n l (slewTerms n l e dt (noteInput n l e s)) (noteInput n l e s))

theorem prepared_slewing {dt : Nat} (hn : n < 4) (hstate : (s.servo n l).state = .locked)
    (hsmall : e.natAbs ≤ 4 * (max 1 (fld (s.laneTb l Off.TB_SERVO_CFG n) 8 8) * 256)) :
    Prepared n l (((s.servo n l).noted s.time.tb2.time e).slewed (max 1 (fld (s.laneTb l Off.TB_SERVO_CFG n) 8 8) * 256) e (slewTerms n l e dt (noteInput n l e s))) []
      [Off.TB_CLAMP_CNT + 4 * n] s (slewing n e dt l s) := by
  have hnoted := (prepared_refl n l [Off.TB_CLAMP_CNT + 4 * n] s).setServo hn fun b => { b with inputAt := some s.time.tb2.time, lastE := e, valid := true, discards := 0 }
  unfold slewing
  generalize slewTerms n l e dt (noteInput n l e s) = x
  generalize max 1 (fld (s.laneTb l Off.TB_SERVO_CFG n) 8 8) * 256 = thr at *
  have hint : Prepared n l { (s.servo n l).noted s.time.tb2.time e with integral := x.1, clamped := x.2.2.1 || x.2.2.2 } [] [Off.TB_CLAMP_CNT + 4 * n] s
      (termsTaken n l x (noteInput n l e s)) :=
    ((hnoted.setServo hn fun b => { b with integral := x.1, clamped := x.2.2.1 || x.2.2.2 }).when fun _ => prepared_clamped hn).when fun _ => prepared_clamped hn
  have hself := hint.servo.2.2.2.1
  rw [servoLock_locked (by rw [hself]; exact hstate) hsmall, hself]
  exact hint.setServo hn fun b => { b with lockRun := if e.natAbs ≤ thr then (s.servo n l).lockRun + 1 else 0, offRun := 0 }

/-- A further input of a LOCKED servo slews. -/
theorem laneInput_locked (hon : s.servoOn n l = true) (hstate : (s.servo n l).state = .locked) (hat : (s.servo n l).inputAt = some at_) (hlater : at_ < s.time.tb2.time)
    (hsmall : e.natAbs ≤ max 1 (fld (s.laneTb l Off.TB_SERVO_CFG n) 24 8) * 256000) :
    laneInput n e l s = slew n l e (s.time.tb2.time - at_) (noteInput n l e s) := by
  have hbig : decide (max 1 (fld (s.laneTb l Off.TB_SERVO_CFG n) 24 8) * 256000 < e.natAbs) = false := decide_eq_false (Nat.not_lt.mpr hsmall)
  unfold laneInput
  dsimp only
  rw [hon, hbig, hstate, Bool.and_false]
  show (match (s.servo n l).inputAt with | some t0 => _ | none => _) = _
  rw [hat]
  show when (decide (at_ < s.time.tb2.time)) _ _ = _
  rw [decide_eq_true hlater]
  rfl

theorem issueRate_auto {x : Int} (hauto : fld (s.laneTb l Off.TB_SERVO_CFG n) 0 2 = 1) : issueRate n l x s = issue n l (.rate x.toNat) s := by
  unfold issueRate
  rw [hauto]
  rfl

/-! ### The configuration while lanes act -/

theorem reg_of_regsOnly {R : List Nat} {off : Nat} (h : RegsOnly R s u) (hlt : off < 16777216) (hR : off ∉ R) : u.reg (laneKey l off) = s.reg (laneKey l off) := by
  refine h _ ?_
  have hoff : laneKey l off % 16777216 = off := by rw [laneKey, Nat.mul_add_mod_self_right, Nat.mod_eq_of_lt hlt]
  rwa [hoff]

/-- Registers of the time bases that no counter stands at. -/
theorem tbCfg_ne_cnt (h : n ∈ [0, 1, 3]) : ∀ off ∈ [Off.TB_CFG, Off.TB_SERVO_CFG + 64 * n, Off.TB_GAINS + 64 * n, Off.TB_HOLD_CFG + 64 * n],
    off < 16777216 ∧ off ∉ [Off.TB_CLAMP_CNT + 4 * n] ∧ off ∉ [Off.TB_HOLD_CNT] := by
  revert h n
  decide

/-- The lanes' configurations of base `n` are the same. -/
structure SameCfg (n : Nat) (s u : State) : Prop where
  source : ∀ l, u.reg (laneKey l Off.TB_CFG) = s.reg (laneKey l Off.TB_CFG)
  servo : ∀ l, u.laneTb l Off.TB_SERVO_CFG n = s.laneTb l Off.TB_SERVO_CFG n
  gains : ∀ l, u.laneTb l Off.TB_GAINS n = s.laneTb l Off.TB_GAINS n
  hold : ∀ l, u.laneTb l Off.TB_HOLD_CFG n = s.laneTb l Off.TB_HOLD_CFG n

theorem sameCfg_of_regsOnly {R : List Nat} (h : RegsOnly R s u)
    (hR : ∀ off ∈ [Off.TB_CFG, Off.TB_SERVO_CFG + 64 * n, Off.TB_GAINS + 64 * n, Off.TB_HOLD_CFG + 64 * n], off < 16777216 ∧ off ∉ R) : SameCfg n s u := by
  have hsame : ∀ off ∈ [Off.TB_CFG, Off.TB_SERVO_CFG + 64 * n, Off.TB_GAINS + 64 * n, Off.TB_HOLD_CFG + 64 * n], ∀ l, u.reg (laneKey l off) = s.reg (laneKey l off) :=
    fun off hoff l => reg_of_regsOnly h (hR off hoff).1 (hR off hoff).2
  exact ⟨hsame _ (by simp), hsame _ (by simp), hsame _ (by simp), hsame _ (by simp)⟩

theorem SameCfg.servoOn (h : SameCfg n s u) : u.servoOn n l = s.servoOn n l := by
  unfold State.servoOn
  rw [h.servo, h.source]

theorem slewTerms_noteInput {dt : Nat} (hn : n < 4) (hne : n ≠ 2) : slewTerms n l e dt (noteInput n l e s) =
    servoTerms (s.laneTb l Off.TB_SERVO_CFG n) (s.laneTb l Off.TB_GAINS n) (s.base 2).rate (s.servo n l).integral e dt := by
  obtain ⟨hto, _⟩ := noteInput_told (l := l) hn e s
  unfold slewTerms
  rw [hto.2.1 2 (by decide) hne.symm, hto.2.2.2.1]
  rfl

/-- The premises of a further input of a LOCKED base. -/
structure FurtherAt (n : Nat) (v : LaneServo) (e : Int) (at_ : Nat) (s : State) : Prop where
  up : s.up = true
  base : n ∈ [0, 1, 3]
  alike : s.alike n v
  auto : fld (s.tbReg Off.TB_SERVO_CFG n) 0 2 = 1
  source : n = 1 → fld (s.maj Off.TB_CFG) 0 2 ≠ 0
  locked : v.state = .locked
  small : e.natAbs ≤ max 1 (fld (s.tbReg Off.TB_SERVO_CFG n) 24 8) * 256000
  near : e.natAbs ≤ 4 * (max 1 (fld (s.tbReg Off.TB_SERVO_CFG n) 8 8) * 256)
  input : v.inputAt = some at_
  later : at_ < s.time.tb2.time

/-- The terms of a further input, alike in the lanes. -/
def termsOf (n : Nat) (v : LaneServo) (e : Int) (at_ : Nat) (s : State) : Int × Nat × Bool × Bool :=
  servoTerms (s.tbReg Off.TB_SERVO_CFG n) (s.tbReg Off.TB_GAINS n) (s.base 2).rate v.integral e (s.time.tb2.time - at_)

/-- The servo that a further input leaves, but for its count of outputs. -/
def slewedOf (n : Nat) (v : LaneServo) (e : Int) (at_ : Nat) (s : State) : LaneServo :=
  (v.noted s.time.tb2.time e).slewed (max 1 (fld (s.tbReg Off.TB_SERVO_CFG n) 8 8) * 256) e (termsOf n v e at_ s)

theorem Rated.servo_waiting {r : Nat} {ids R : List Nat} {D : List Lane} {b : Bool} (h : Rated n r w ids R s D b u) (hl : l ∉ D) (hv : s.servo n l = v) :
    u.servo n l = { v with issued := (u.servo n l).issued } := by
  have hservo := h.servo l
  rw [if_neg hl, hv] at hservo
  exact hservo

theorem FurtherAt.act (h : FurtherAt n v e at_ s) {D : List Lane} {b : Bool}
    (hu : Rated n (termsOf n v e at_ s).2.1 (slewedOf n v e at_ s) [] [Off.TB_CLAMP_CNT + 4 * n] s D b u) (hl : l ∉ D) (hin : s.inVote l = true) :
    Prepared n l { slewedOf n v e at_ s with issued := (u.servo n l).issued } [] [Off.TB_CLAMP_CNT + 4 * n] u (slewing n e (s.time.tb2.time - at_) l u) ∧
    laneInput n e l u = issue n l (.rate (termsOf n v e at_ s).2.1) (slewing n e (s.time.tb2.time - at_) l u) := by
  obtain ⟨hlt, hne⟩ := base_of_mem h.base
  obtain ⟨_, _, hall⟩ := h.alike
  obtain ⟨hv, _, hcfg, hgains, _⟩ := hall l hin
  have hsame : SameCfg n s u := sameCfg_of_regsOnly hu.regs fun off hoff => ⟨(tbCfg_ne_cnt h.base off hoff).1, (tbCfg_ne_cnt h.base off hoff).2.1⟩
  have hservo := hu.servo_waiting hl hv
  have htb2 : u.time.tb2 = s.time.tb2 := hu.bases 2 (by decide) hne.symm
  have hbase2 : u.base 2 = s.base 2 := htb2
  have hcfgU : u.laneTb l Off.TB_SERVO_CFG n = s.tbReg Off.TB_SERVO_CFG n := (hsame.servo l).trans hcfg
  have hstate : (u.servo n l).state = .locked := by rw [hservo]; exact h.locked
  have hterms : slewTerms n l e (s.time.tb2.time - at_) (noteInput n l e u) = termsOf n v e at_ s := by
    rw [slewTerms_noteInput hlt hne, hcfgU, hsame.gains, hgains, hbase2, hservo]
    rfl
  have hprep := prepared_slewing (dt := s.time.tb2.time - at_) (s := u) (e := e) hlt hstate (by rw [hcfgU]; exact h.near)
  have hw : ((u.servo n l).noted u.time.tb2.time e).slewed (max 1 (fld (u.laneTb l Off.TB_SERVO_CFG n) 8 8) * 256) e
      (slewTerms n l e (s.time.tb2.time - at_) (noteInput n l e u)) = { slewedOf n v e at_ s with issued := (u.servo n l).issued } := by
    rw [hterms, hcfgU, htb2]
    generalize u.servo n l = x at *
    rw [hservo]
    rfl
  have hauto : fld ((slewing n e (s.time.tb2.time - at_) l u).laneTb l Off.TB_SERVO_CFG n) 0 2 = 1 := by
    have hafter : SameCfg n u (slewing n e (s.time.tb2.time - at_) l u) :=
      sameCfg_of_regsOnly hprep.regs fun off hoff => ⟨(tbCfg_ne_cnt h.base off hoff).1, (tbCfg_ne_cnt h.base off hoff).2.1⟩
    rw [hafter.servo, hcfgU]
    exact h.auto
  rw [hw] at hprep
  refine ⟨hprep, ?_⟩
  have hinput := laneInput_locked (s := u) (at_ := at_) (e := e) (by rw [hsame.servoOn]; exact servoOn_of_alike h.alike hne h.auto h.source hin) hstate
    (by rw [hservo]; exact h.input) (by rw [htb2]; exact h.later) (by rw [hcfgU]; exact h.small)
  rw [htb2, slew_eq] at hinput
  rw [hinput, ← hterms]
  exact issueRate_auto hauto

theorem servoState_of_rated {r : Nat} {ids R : List Nat} {D : List Lane} (h : Rated n r w ids R s D true t) (hD : ∀ l, l ∈ D ↔ s.inVote l = true)
    (htwo : 2 ≤ s.lanesIn.length) : t.servoState (t.base n) = w.state := by
  refine servoState_alike (fun l hl => ?_) (by rw [lanesIn_congr h.votes]; exact htwo)
  rw [h.servo, if_pos ((hD l).mpr ((h.votes l).symm.trans hl))]

/-- A further input of a LOCKED base. -/
theorem servoInput_further (h : FurtherAt n v e at_ s) : ∃ D, (∀ l, l ∈ D ↔ s.inVote l = true) ∧
    Rated n (termsOf n v e at_ s).2.1 (slewedOf n v e at_ s) [] [Off.TB_CLAMP_CNT + 4 * n] s D true (servoInput n e s) ∧ (servoInput n e s).time.votes = [] ∧
    ∀ m, ((servoInput n e s).servo n m).issued = if s.inVote m = true then v.issued + 1 else (s.servo n m).issued := by
  obtain ⟨hlt, hne⟩ := base_of_mem h.base
  obtain ⟨D, hD, hrated, hvotes, hissued⟩ := rated_done hlt hne h.alike h.up fun D b l u hu hl hin => h.act hu hl hin
  have hwatch : servoInput n e s = s.lanesIn.foldl (fun u l => laneInput n e l u) s := by
    refine stateWatch_same ?_
    rw [servoState_of_alike h.alike, servoState_of_rated hrated hD h.alike.2.1]
    rfl
  rw [hwatch]
  exact ⟨D, hD, hrated, hvotes, hissued⟩

theorem exists_next_servoOffsetInput_further (s : State) (n : Nat) (v : LaneServo) (e lim c i p : Int) (cfg gains : Word) (at_ : Nat) (hup : s.up = true) (hn : n ∈ [0, 1, 3])
    (halike : s.alike n v) (hcfg : cfg = s.tbReg Off.TB_SERVO_CFG n) (hgains : gains = s.tbReg Off.TB_GAINS n) (hauto : fld cfg 0 2 = 1)
    (hsource : n = 1 → fld (s.maj Off.TB_CFG) 0 2 ≠ 0) (hlocked : v.state = .locked) (hsmall : e.natAbs ≤ max 1 (fld cfg 24 8) * 256000)
    (hnear : e.natAbs ≤ 4 * (max 1 (fld cfg 8 8) * 256)) (hinput : v.inputAt = some at_) (hlater : at_ < s.time.tb2.time)
    (hlim : lim = (max 1 (fld cfg 16 8) * 281474976710656 / 1000000 : Nat))
    (hc : c = e * 1099511627776 * 281474976710656 / ((s.time.tb2.time - at_ : Nat) : Int))
    (hi : i = max (-lim) (min (v.integral + (fld gains 16 16 : Int) * c / 32768) lim)) (hp : p = max (-lim) (min (i + (fld gains 0 16 : Int) * c / 32768) lim)) :
    ∃ t, exec (.servoOffsetInput n e) s = .next t ∧
      (∀ l : Lane, s.inVote l = true → (t.servo n l).integral = i ∧ (t.servo n l).state = .locked ∧
        (t.servo n l).inputAt = some s.time.tb2.time ∧ (t.servo n l).lastE = e ∧ (t.servo n l).issued = v.issued + 1) ∧
      t.base n = { s.base n with rate := (((s.base 2).rate : Int) - p).toNat, servos := (t.base n).servos } ∧
      (∀ m, m < 4 → m ≠ n → t.base m = s.base m) ∧ t.time.votes = [] ∧ (∀ l : Lane, t.inVote l = s.inVote l) ∧
      RegsOnly [Off.TB_CLAMP_CNT + 4 * n] s t ∧ OnlyIn [.regs, .time, .vot, .icus] s t := by
  subst hcfg hgains
  have hterms : (termsOf n v e at_ s).1 = i ∧ (termsOf n v e at_ s).2.1 = (((s.base 2).rate : Int) - p).toNat := by
    subst hp hi hc hlim
    exact ⟨rfl, rfl⟩
  have h : FurtherAt n v e at_ s := ⟨hup, hn, halike, hauto, hsource, hlocked, hsmall, hnear, hinput, hlater⟩
  obtain ⟨D, hD, hrated, hvotes, hissued⟩ := servoInput_further h
  have hself : ∀ l, s.inVote l = true → (servoInput n e s).servo n l = { slewedOf n v e at_ s with issued := ((servoInput n e s).servo n l).issued } := fun l hl => by
    have hservo := hrated.servo l
    rwa [if_pos ((hD l).mpr hl)] at hservo
  refine ⟨_, exec_servoOffsetInput_of_taken hup (base_of_mem hn).1 hrated.votes halike.2.1 fun l hl => ?_, fun l hl => ⟨?_, ?_, ?_, ?_, ?_⟩, ?_, hrated.bases, hvotes,
    hrated.votes, hrated.regs, hrated.only⟩
  · rw [hself l hl]
    rfl
  · rw [hself l hl, ← hterms.1]
    rfl
  · rw [hself l hl]
    exact hlocked
  · rw [hself l hl]
    rfl
  · rw [hself l hl]
    rfl
  · rw [hissued, if_pos hl]
  · rw [← hterms.2]
    exact hrated.base

end

end Sys2Proof.Machine

namespace Sys2Proof.Machine

set_option Elab.async false

section
variable {s t u : State} {n due r : Nat} {l : Lane} {v w : LaneServo} {ids R : List Nat}

/-! ### TB2 at an instant (R118) -/

theorem toTb2_cases (due : Nat) (s : State) : toTb2 due s = s ∨ ∃ dt, toTb2 due s = advance dt s := by
  unfold toTb2
  dsimp only
  split
  · exact .inl rfl
  · exact .inr ⟨_, rfl⟩

theorem le_time_toTb2 (hrate : 0 < s.time.tb2.rate) : due ≤ (toTb2 due s).time.tb2.time := by
  unfold toTb2
  dsimp only
  split
  next h => exact h
  next h =>
    have hceil := div_up_mul_ge (need := due - s.time.tb2.time) hrate
    have htime : (advance ((due - s.time.tb2.time + s.time.tb2.rate - 1) / s.time.tb2.rate) s).time.tb2.time =
      s.time.tb2.time + (due - s.time.tb2.time + s.time.tb2.rate - 1) / s.time.tb2.rate * s.time.tb2.rate := time_adv _ _ _
    rw [htime]
    exact Nat.sub_le_iff_le_add'.mp hceil

theorem base_advance (dt m : Nat) (s : State) : ((advance dt s).base m).rate = (s.base m).rate ∧ ((advance dt s).base m).servos = (s.base m).servos := by
  have hadv : ∀ (strobe : Bool) (x : Base), (x.adv dt strobe).rate = x.rate ∧ (x.adv dt strobe).servos = x.servos := fun strobe x => by cases strobe <;> exact ⟨rfl, rfl⟩
  match m with
  | 0 => exact hadv _ _
  | 1 => exact hadv _ _
  | 2 => exact hadv _ _
  | _ + 3 => exact hadv _ _

theorem base_toTb2 (due m : Nat) (s : State) : ((toTb2 due s).base m).rate = (s.base m).rate ∧ ((toTb2 due s).base m).servos = (s.base m).servos := by
  obtain h | ⟨dt, h⟩ := toTb2_cases due s
  · rw [h]
    exact ⟨rfl, rfl⟩
  · rw [h]
    exact base_advance dt m s

theorem servo_toTb2 (due n : Nat) (l : Lane) (s : State) : (toTb2 due s).servo n l = s.servo n l := by
  rw [State.servo, (base_toTb2 due n s).2, State.servo]

theorem votes_toTb2 (due : Nat) (s : State) : (toTb2 due s).time.votes = s.time.votes := by
  obtain h | ⟨dt, h⟩ := toTb2_cases due s
  · rw [h]
  · rw [h]
    rfl

theorem powered_toTb2 (due : Nat) (s : State) : (toTb2 due s).isl.powered = s.isl.powered := by
  obtain h | ⟨dt, h⟩ := toTb2_cases due s
  · rw [h]
  · rw [h]
    show (if s.isl.powered then _ else s.isl).powered = _
    split <;> rfl

theorem up_toTb2 (due : Nat) (s : State) : (toTb2 due s).up = s.up := up_congr (powered_toTb2 due s) ((toTb2_parts due s).2 .sys (by decide))

theorem inVote_toTb2 (due : Nat) (s : State) (l : Lane) : (toTb2 due s).inVote l = s.inVote l :=
  congrArg (fun x : Vot => (x.lanes.get l).inVote) ((toTb2_parts due s).2 .vot (by decide))

theorem maj_of_only {P : List Part} {off : Nat} (h : OnlyIn P s t) (hregs : Part.regs ∉ P := by decide) (hvot : Part.vot ∉ P := by decide) : t.maj off = s.maj off :=
  maj_congr (h.2 .regs hregs) (h.2 .vot hvot) off

theorem alike_toTb2 (h : s.alike n v) (due : Nat) : (toTb2 due s).alike n v := by
  obtain ⟨hvotes, htwo, hall⟩ := h
  have honly := toTb2_parts due s
  refine ⟨(votes_toTb2 due s).trans hvotes, by rw [lanesIn_congr (inVote_toTb2 due s)]; exact htwo, fun l hl => ?_⟩
  obtain ⟨hservo, hsource, hcfg, hgains, hhold⟩ := hall l ((inVote_toTb2 due s l).symm.trans hl)
  unfold State.tbReg
  rw [servo_toTb2, reg_of_only _ honly, laneTb_of_only honly, laneTb_of_only honly, laneTb_of_only honly, maj_of_only honly, maj_of_only honly, maj_of_only honly, maj_of_only honly]
  exact ⟨hservo, hsource, hcfg, hgains, hhold⟩

/-! ### Holding times (Table 4.2) -/

/-- A lane's servo enters the state `q`. -/
def entered (n : Nat) (l : Lane) (q : Servo) (s : State) : State :=
  setServo n l (fun x => { x with
    state := q, integral := if q == .free then 0 else (s.servo n l).integral, lockRun := 0, offRun := 0
    holdAt := if q == .holdover then s.time.tb2.time else x.holdAt
    inputAt := if q == .free then none else x.inputAt }) s

/-- An entry into HOLDOVER is counted and reported. -/
def holdNoted (l : Lane) (s : State) : State := assertAt l Irq.TB_HOLDOVER (bumpLane l Off.TB_HOLD_CNT s)

theorem toServo_change {q : Servo} (h : (s.servo n l).state ≠ q) : toServo n l q s =
    when (q == .holdover) (issueRate n l (((s.base 2).rate : Int) - if q == .free then 0 else (s.servo n l).integral))
      (when (q == .free) (issueRate n l (s.base 2).rate) (when (q == .holdover) (holdNoted l) (assertAt l Irq.TB_STATE (entered n l q s)))) := if_neg h

/-- HOLDOVER is entered: I is kept. -/
def held (n : Nat) (l : Lane) (s : State) : State := holdNoted l (assertAt l Irq.TB_STATE (entered n l .holdover s))

/-- FREE is entered: I is cleared. -/
def freed (n : Nat) (l : Lane) (s : State) : State := assertAt l Irq.TB_STATE (entered n l .free s)

theorem toServo_holdover (h : (s.servo n l).state ≠ .holdover) :
    toServo n l .holdover s = issueRate n l (((s.base 2).rate : Int) - (s.servo n l).integral) (held n l s) := by
  rw [toServo_change h, held, beq_self_eq_true, show (Servo.holdover == Servo.free) = false from rfl, when_true, when_false, when_true, if_neg Bool.false_ne_true]

theorem toServo_free (h : (s.servo n l).state ≠ .free) : toServo n l .free s = issueRate n l ((s.base 2).rate : Int) (freed n l s) := by
  rw [toServo_change h, freed, beq_self_eq_true, show (Servo.free == Servo.holdover) = false from rfl, when_false, when_true, when_false]

/-- A servo that holds over from the TB2 time `now`. -/
def LaneServo.held (v : LaneServo) (now : Nat) : LaneServo := { v with state := .holdover, lockRun := 0, offRun := 0, holdAt := now }

/-- A servo that runs FREE. -/
def LaneServo.freed (v : LaneServo) : LaneServo := { v with state := .free, integral := 0, lockRun := 0, offRun := 0, inputAt := none }

theorem holdCnt_lt : Off.TB_HOLD_CNT < 16777216 := by decide

theorem Prepared.held {b : State} (h : Prepared n l w [] [Off.TB_HOLD_CNT] b s) (hn : n < 4) :
    Prepared n l (w.held s.time.tb2.time) [Irq.TB_HOLDOVER, Irq.TB_STATE] [Off.TB_HOLD_CNT] b (held n l s) := by
  have hself := h.servo.2.2.2.1
  have hset := h.setServo hn fun x =>
    { x with state := .holdover, integral := (s.servo n l).integral, lockRun := 0, offRun := 0, holdAt := s.time.tb2.time, inputAt := x.inputAt }
  rw [hself] at hset
  have hentered : Prepared n l (w.held s.time.tb2.time) [] [Off.TB_HOLD_CNT] b (entered n l .holdover s) := by
    unfold entered
    rw [hself]
    exact hset
  exact ((hentered.assertAt (by decide)).bumpLane ⟨holdCnt_lt, List.mem_singleton_self _⟩).assertAt (by decide)

theorem Prepared.freed {b : State} (h : Prepared n l w [] R b s) (hn : n < 4) : Prepared n l w.freed [Irq.TB_STATE] R b (freed n l s) :=
  (h.setServo hn fun x => { x with state := .free, integral := 0, lockRun := 0, offRun := 0, holdAt := x.holdAt, inputAt := none }).assertAt (by decide)

theorem dueOf_alike {d : State → Nat → Lane → Option Nat} (hall : ∀ l, s.inVote l = true → d s n l = some due) (htwo : 2 ≤ s.lanesIn.length) :
    dueOf (s.lanesIn.filterMap (d s n)) = some due := by
  have hmap : s.lanesIn.filterMap (d s n) = s.lanesIn.map fun _ => due :=
    (List.filterMap_congr fun l hl => hall l ((mem_lanesIn s l).mp hl)).trans (congrFun (List.filterMap_eq_map (f := fun _ : Lane => due)) _)
  rw [dueOf, hmap, map_lanesIn_alike fun _ _ => rfl, agreedOf_replicate _ htwo]
  rfl

/-- A lane's act once its holding time has come. -/
def dueAct (n : Nat) (d : State → Nat → Lane → Option Nat) (f : Lane → State → State) (l : Lane) (s : State) : State :=
  match d s n l with
  | some x => when (decide (x ≤ s.time.tb2.time)) (f l) s
  | none => s

theorem atDue_eq {d : State → Nat → Lane → Option Nat} {f : Lane → State → State} (h : dueOf (s.lanesIn.filterMap (d s n)) = some due) :
    atDue n d f s = stateWatch n (fun s => s.lanesIn.foldl (fun s l => dueAct n d f l s) s) (toTb2 due s) := by
  unfold atDue
  split
  next hnone =>
    rw [h] at hnone
    cases hnone
  next hsome =>
    obtain rfl := Option.some.inj (h.symm.trans hsome)
    exact rfl

/-- What the lanes do alike when their holding time has come: each prepares, and issues the rate `x`. -/
structure Holds (n due : Nat) (x : Int) (v w : LaneServo) (ids R : List Nat) (d : State → Nat → Lane → Option Nat) (f pre : Lane → State → State) (s : State) : Prop where
  up : s.up = true
  base : n ∈ [0, 1, 3]
  alike : s.alike n v
  auto : fld (s.tbReg Off.TB_SERVO_CFG n) 0 2 = 1
  passed : due ≤ s.time.tb2.time
  cfg : ∀ off ∈ [Off.TB_CFG, Off.TB_SERVO_CFG + 64 * n, Off.TB_GAINS + 64 * n, Off.TB_HOLD_CFG + 64 * n], off < 16777216 ∧ off ∉ R
  differs : v.state ≠ w.state
  act : ∀ u l, SameCfg n s u → u.time.tb2 = s.time.tb2 → u.servo n l = { v with issued := (u.servo n l).issued } → s.inVote l = true →
    d u n l = some due ∧ Prepared n l { w with issued := (u.servo n l).issued } ids R u (pre l u) ∧ f l u = issueRate n l x (pre l u)

theorem dueAct_of_passed {d : State → Nat → Lane → Option Nat} {f : Lane → State → State} (h : d s n l = some due) (hpassed : due ≤ s.time.tb2.time) :
    dueAct n d f l s = f l s := by
  rw [dueAct, h]
  exact if_pos (decide_eq_true hpassed)

theorem atDue_of_alike {d : State → Nat → Lane → Option Nat} {f : Lane → State → State} (hall : ∀ l, s.inVote l = true → d s n l = some due) (htwo : 2 ≤ s.lanesIn.length) :
    atDue n d f s = stateWatch n (fun s => s.lanesIn.foldl (fun s l => dueAct n d f l s) s) (toTb2 due s) := atDue_eq (dueOf_alike hall htwo)

theorem Holds.done {x : Int} {d : State → Nat → Lane → Option Nat} {f pre : Lane → State → State} (h : Holds n due x v w ids R d f pre s) :
    ∃ D, (∀ l, l ∈ D ↔ s.inVote l = true) ∧ Rated n x.toNat w ids R s D true (s.lanesIn.foldl (fun s l => dueAct n d f l s) s) ∧
      stateWatch n (fun s => s.lanesIn.foldl (fun s l => dueAct n d f l s) s) s =
        record 0x0401 [iU8 1 n, iU8 2 v.state.code, iU8 3 w.state.code] (s.lanesIn.foldl (fun s l => dueAct n d f l s) s) := by
  obtain ⟨hlt, hne⟩ := base_of_mem h.base
  obtain ⟨_, htwo, hall⟩ := h.alike
  obtain ⟨D, hD, hrated, _, _⟩ := rated_done (r := x.toNat) (w := w) (ids := ids) (R := R) (act := dueAct n d f) (pre := pre) hlt hne h.alike h.up fun D b l u hu hl hin => by
    obtain ⟨hv, _, hcfg, _, _⟩ := hall l hin
    have hsame : SameCfg n s u := sameCfg_of_regsOnly hu.regs h.cfg
    have htb2 : u.time.tb2 = s.time.tb2 := hu.bases 2 (by decide) hne.symm
    obtain ⟨hdue, hprep, hact⟩ := h.act u l hsame htb2 (hu.servo_waiting hl hv) hin
    refine ⟨hprep, ?_⟩
    have hafter : SameCfg n u (pre l u) := sameCfg_of_regsOnly hprep.regs h.cfg
    rw [dueAct_of_passed hdue (by rw [htb2]; exact h.passed), hact, issueRate_auto (by rw [hafter.servo, hsame.servo, hcfg]; exact h.auto)]
  refine ⟨D, hD, hrated, stateWatch_changed (servoState_of_alike h.alike) (servoState_of_rated hrated hD htwo) h.differs⟩

end

end Sys2Proof.Machine

namespace Sys2Proof.Machine

set_option Elab.async false

section
variable {s t u : State} {n due : Nat} {l : Lane} {v w : LaneServo} {ids R : List Nat} {x : Int}
  {d : State → Nat → Lane → Option Nat} {f pre : Lane → State → State}

theorem exec_servoHoldEnter (hup : s.up = true) (hn : n < 4) : exec (.servoHoldEnter n) s = .next (holdEnter n s) :=
  congrArg Host.Outcome.next (if_pos (by rw [hup, decide_eq_true hn]; rfl))

theorem exec_servoHoldLimit (hup : s.up = true) (hn : n < 4) : exec (.servoHoldLimit n) s = .next (holdLimit n s) :=
  congrArg Host.Outcome.next (if_pos (by rw [hup, decide_eq_true hn]; rfl))

theorem inQueue_toTb2 {type : Nat} {items : List Item} (h : Recorded type items (toTb2 due s) t) : InQueue type items s t := by
  intro hup hlen
  have herec : (toTb2 due s).erec = s.erec := (toTb2_parts due s).2 .erec (by decide)
  obtain ⟨q, hq, htype, hitems, _⟩ := h.1 ((recUp_toTb2 due s).trans hup) (by rw [herec]; omega)
  exact ⟨q, by rw [hq]; exact List.mem_append_right _ (List.mem_singleton_self q), htype, hitems⟩

/-- The lanes' holding time has come in `s`, and `t` is what it leaves. -/
structure HeldTo (n due : Nat) (x : Int) (v w : LaneServo) (ids R : List Nat) (s t : State) : Prop where
  now : t.now = (toTb2 due s).now
  rate : (t.base n).rate = x.toNat
  tb2 : t.time.tb2 = (toTb2 due s).time.tb2
  raised : ∀ id ∈ ids, Raised id t
  told : InQueue 0x0401 [iU8 1 n, iU8 2 v.state.code, iU8 3 w.state.code] s t
  servo : ∀ l, s.inVote l = true → t.servo n l = { w with issued := (t.servo n l).issued }
  votes : ∀ l, t.inVote l = s.inVote l
  regs : RegsOnly (Off.REC_LOST_CNT :: R) s t
  only : OnlyIn (.now :: .time :: .nv :: .vot :: recParts) s t

theorem Holds.heldTo (h : Holds n due x v w ids R d f pre (toTb2 due s)) (hdue : ∀ l, s.inVote l = true → d s n l = some due) (htwo : 2 ≤ s.lanesIn.length) :
    HeldTo n due x v w ids R s (atDue n d f s) := by
  obtain ⟨hlt, hne⟩ := base_of_mem h.base
  obtain ⟨D, hD, hrated, hwatch⟩ := h.done
  rw [atDue_of_alike hdue htwo, hwatch]
  have hlate := toTb2_parts due s
  generalize List.foldl _ _ _ = u at *
  have hrec : OnlyIn recParts u (record 0x0401 [iU8 1 n, iU8 2 v.state.code, iU8 3 w.state.code] u) := only_record only_refl
  have htold : Recorded 0x0401 [iU8 1 n, iU8 2 v.state.code, iU8 3 w.state.code] u (record 0x0401 [iU8 1 n, iU8 2 v.state.code, iU8 3 w.state.code] u) :=
    recorded_record _ _ _
  have hregs : RegsOnly (Off.REC_LOST_CNT :: R) u (record 0x0401 [iU8 1 n, iU8 2 v.state.code, iU8 3 w.state.code] u) :=
    regs_record regs_refl fun o ho => by
      rw [List.mem_singleton.mp ho]
      exact List.mem_cons_self
  have hraise : ∀ id, Raised id u → Raised id (record 0x0401 [iU8 1 n, iU8 2 v.state.code, iU8 3 w.state.code] u) := fun id h => raised_record h
  generalize record 0x0401 [iU8 1 n, iU8 2 v.state.code, iU8 3 w.state.code] u = t at *
  have htime : t.time = u.time := hrec.2 .time (by decide)
  have hbases : ∀ m, t.base m = u.base m := fun m => by rw [State.base, State.base, htime]
  have hvot : t.vot = u.vot := hrec.2 .vot (by decide)
  have hvotes : ∀ l, t.inVote l = s.inVote l := fun l =>
    (congrArg (fun y : Vot => (y.lanes.get l).inVote) hvot).trans ((hrated.votes l).trans (inVote_toTb2 due s l))
  refine { now := ?_, rate := ?_, tb2 := ?_, raised := fun id hid => hraise id fun l hl => ?_, told := inQueue_toTb2 (recorded_rebased htold hrated.only ?_),
           servo := fun l hl => ?_, votes := hvotes, regs := ?_, only := ?_ }
  · exact (hrec.2 .now (by decide)).trans (hrated.only.2 .now (by decide))
  · rw [hbases, hrated.base]
    rfl
  · exact (congrArg (·.tb2) htime).trans (hrated.bases 2 (by decide) hne.symm)
  · exact hrated.pends l ((hD l).mpr ((hrated.votes l).symm.trans hl)) id hid
  · by_cases h0 : 0 = n
    · subst h0
      have hbase := hrated.base
      show (u.base 0).time = ((toTb2 due s).base 0).time
      rw [hbase]
      rfl
    · exact congrArg Base.time (hrated.bases 0 (by decide) h0)
  · have hservo := hrated.servo l
    rw [if_pos ((hD l).mpr ((inVote_toTb2 due s l).trans hl))] at hservo
    rw [State.servo, hbases]
    exact hservo
  · exact regsOnly_trans (regs_via (regs_of_only regs_refl hlate) (fun _ ho => List.mem_cons_of_mem _ ho) fun _ hb => regsOnly_trans hb hrated.regs : RegsOnly _ s u) hregs
  · exact onlyIn_trans (onlyIn_trans (onlyIn_mono hlate (by decide)) (onlyIn_mono hrated.only (by decide))) (onlyIn_mono hrec (by decide))

/-! ### HOLD_ENTER and HOLD_LIMIT -/

theorem enterDue_of {at_ : Nat} {w0 : Word} (hstate : (s.servo n l).state = .locked ∨ (s.servo n l).state = .acquire) (hat : (s.servo n l).inputAt = some at_)
    (hcfg : s.laneTb l Off.TB_HOLD_CFG n = w0) : s.enterDue n l = some (at_ + 1000000 * nsUnit * max 1 (fld w0 0 16)) := by
  have hon : ((s.servo n l).state == Servo.locked || (s.servo n l).state == Servo.acquire) = true := by
    obtain h | h := hstate
    · rw [h]
      rfl
    · rw [h]
      rfl
  unfold State.enterDue
  dsimp only
  rw [if_pos hon, hat, hcfg]
  exact rfl

theorem limitDue_of {w0 : Word} (hstate : (s.servo n l).state = .holdover) (hcfg : s.laneTb l Off.TB_HOLD_CFG n = w0) :
    s.limitDue n l = some ((s.servo n l).holdAt + 1000000000 * nsUnit * max 1 (fld w0 16 16)) := by
  unfold State.limitDue
  dsimp only
  rw [hstate, hcfg]
  exact if_pos rfl

/-- A lane's input is no longer valid. -/
def invalidated (n : Nat) (l : Lane) (s : State) : State := setServo n l (fun v => { v with valid := false }) s

/-- What a lane does at HOLD_ENTER. -/
def enterAct (n : Nat) (l : Lane) (s : State) : State := toServo n l (if (s.servo n l).state == .locked then .holdover else .free) (invalidated n l s)

theorem holdEnter_eq : holdEnter n s = atDue n State.enterDue (enterAct n) s := rfl

theorem prepared_invalidated (hn : n < 4) : Prepared n l { s.servo n l with valid := false } [] R s (invalidated n l s) := (prepared_refl n l R s).setServo hn fun v => { v with valid := false }

theorem enterAct_locked (hn : n < 4) (hne : n ≠ 2) (h : (s.servo n l).state = .locked) :
    enterAct n l s = issueRate n l (((s.base 2).rate : Int) - (s.servo n l).integral) (held n l (invalidated n l s)) := by
  have hprep := prepared_invalidated (l := l) (R := []) (s := s) hn
  have hself := hprep.servo.2.2.2.1
  rw [enterAct, h, beq_self_eq_true, if_pos rfl, toServo_holdover (by rw [hself]; show (s.servo n l).state ≠ _; rw [h]; decide), hself, hprep.servo.2.1 2 (by decide) hne.symm]

theorem enterAct_acquire (hn : n < 4) (hne : n ≠ 2) (h : (s.servo n l).state = .acquire) :
    enterAct n l s = issueRate n l ((s.base 2).rate : Int) (freed n l (invalidated n l s)) := by
  have hprep := prepared_invalidated (l := l) (R := []) (s := s) hn
  have hself := hprep.servo.2.2.2.1
  rw [enterAct, h, show (Servo.acquire == Servo.locked) = false from rfl, if_neg Bool.false_ne_true,
    toServo_free (by rw [hself]; show (s.servo n l).state ≠ _; rw [h]; decide), hprep.servo.2.1 2 (by decide) hne.symm]

/-- The lanes' holding time of base `n`, alike. -/
structure HoldAt (n due : Nat) (v : LaneServo) (s : State) : Prop where
  up : s.up = true
  base : n ∈ [0, 1, 3]
  alike : s.alike n v
  rate : 0 < (s.base 2).rate
  auto : fld (s.tbReg Off.TB_SERVO_CFG n) 0 2 = 1

theorem HoldAt.heldTo (h : HoldAt n due v s)
    (hcfg : ∀ off ∈ [Off.TB_CFG, Off.TB_SERVO_CFG + 64 * n, Off.TB_GAINS + 64 * n, Off.TB_HOLD_CFG + 64 * n], off < 16777216 ∧ off ∉ R) (hdiffers : v.state ≠ w.state)
    (hdue : ∀ u l, u.laneTb l Off.TB_HOLD_CFG n = s.tbReg Off.TB_HOLD_CFG n → u.servo n l = { v with issued := (u.servo n l).issued } → d u n l = some due)
    (hact : ∀ u l, (u.base 2).rate = (s.base 2).rate → u.time.tb2 = (toTb2 due s).time.tb2 → u.servo n l = { v with issued := (u.servo n l).issued } →
      Prepared n l { w with issued := (u.servo n l).issued } ids R u (pre l u) ∧ f l u = issueRate n l x (pre l u)) :
    HeldTo n due x v w ids R s (atDue n d f s) := by
  obtain ⟨hlt, hne⟩ := base_of_mem h.base
  have halike := alike_toTb2 h.alike due
  obtain ⟨_, htwo, hall⟩ := h.alike
  have hparts := toTb2_parts due s
  have hcfgs : (toTb2 due s).tbReg Off.TB_SERVO_CFG n = s.tbReg Off.TB_SERVO_CFG n := maj_of_only hparts
  have hholds : Holds n due x v w ids R d f pre (toTb2 due s) :=
    { up := (up_toTb2 due s).trans h.up, base := h.base, alike := halike, auto := by rw [hcfgs]; exact h.auto, passed := le_time_toTb2 h.rate
      cfg := hcfg, differs := hdiffers
      act := fun u l hsame htb2 hservo hin => by
        obtain ⟨_, _, _, _, hhold⟩ := hall l ((inVote_toTb2 due s l).symm.trans hin)
        exact ⟨hdue u l (by rw [hsame.hold, laneTb_of_only hparts, hhold]) hservo, hact u l ((congrArg Base.rate htb2).trans (base_toTb2 due 2 s).1) htb2 hservo⟩ }
  refine hholds.heldTo (fun l hl => ?_) htwo
  obtain ⟨hv, _, _, _, hhold⟩ := hall l hl
  exact hdue s l hhold (by rw [hv])

/-- LOCKED passes to HOLDOVER. -/
theorem holdEnter_locked {at_ : Nat} (h : HoldAt n due v s) (hdue : at_ + 1000000 * nsUnit * max 1 (fld (s.tbReg Off.TB_HOLD_CFG n) 0 16) = due)
    (hat : v.inputAt = some at_) (hlocked : v.state = .locked) :
    HeldTo n due (((s.base 2).rate : Int) - v.integral) v (LaneServo.held { v with valid := false } (toTb2 due s).time.tb2.time) [Irq.TB_HOLDOVER, Irq.TB_STATE]
      [Off.TB_HOLD_CNT] s (holdEnter n s) := by
  obtain ⟨hlt, hne⟩ := base_of_mem h.base
  refine h.heldTo (pre := fun l u => held n l (invalidated n l u)) (fun off hoff => ⟨(tbCfg_ne_cnt h.base off hoff).1, (tbCfg_ne_cnt h.base off hoff).2.2⟩)
    (by rw [hlocked]; exact Servo.noConfusion) (fun u l hcfg hservo => ?_) fun u l hrate htb2 hservo => ⟨?_, ?_⟩
  · rw [enterDue_of (at_ := at_) (.inl (by rw [hservo]; exact hlocked)) (by rw [hservo]; exact hat) hcfg, hdue]
  · have hprep := (prepared_invalidated (l := l) (R := [Off.TB_HOLD_CNT]) (s := u) hlt).held hlt
    rw [show (invalidated n l u).time.tb2 = u.time.tb2 from (prepared_invalidated (l := l) (R := []) hlt).servo.2.1 2 (by decide) hne.symm, htb2] at hprep
    generalize u.servo n l = y at *
    rw [hservo] at hprep
    exact hprep
  · show enterAct n l u = _
    rw [enterAct_locked hlt hne (by rw [hservo]; exact hlocked), hrate, hservo]

/-- ACQUIRE passes to FREE. -/
theorem holdEnter_acquire {at_ : Nat} (h : HoldAt n due v s) (hdue : at_ + 1000000 * nsUnit * max 1 (fld (s.tbReg Off.TB_HOLD_CFG n) 0 16) = due)
    (hat : v.inputAt = some at_) (hacquire : v.state = .acquire) :
    HeldTo n due ((s.base 2).rate : Int) v (LaneServo.freed { v with valid := false }) [Irq.TB_STATE] [] s (holdEnter n s) := by
  obtain ⟨hlt, hne⟩ := base_of_mem h.base
  refine h.heldTo (pre := fun l u => freed n l (invalidated n l u)) (fun off hoff => ⟨(tbCfg_ne_cnt h.base off hoff).1, List.not_mem_nil⟩)
    (by rw [hacquire]; exact Servo.noConfusion) (fun u l hcfg hservo => ?_) fun u l hrate _ hservo => ⟨?_, ?_⟩
  · rw [enterDue_of (at_ := at_) (.inr (by rw [hservo]; exact hacquire)) (by rw [hservo]; exact hat) hcfg, hdue]
  · have hprep := (prepared_invalidated (l := l) (R := []) (s := u) hlt).freed hlt
    generalize u.servo n l = y at *
    rw [hservo] at hprep
    exact hprep
  · show enterAct n l u = _
    rw [enterAct_acquire hlt hne (by rw [hservo]; exact hacquire), hrate]

/-- HOLDOVER passes to FREE. -/
theorem holdLimit_holdover (h : HoldAt n due v s) (hdue : v.holdAt + 1000000000 * nsUnit * max 1 (fld (s.tbReg Off.TB_HOLD_CFG n) 16 16) = due)
    (hholdover : v.state = .holdover) : HeldTo n due ((s.base 2).rate : Int) v v.freed [Irq.TB_STATE] [] s (holdLimit n s) := by
  obtain ⟨hlt, hne⟩ := base_of_mem h.base
  refine h.heldTo (pre := fun l u => freed n l u) (fun off hoff => ⟨(tbCfg_ne_cnt h.base off hoff).1, List.not_mem_nil⟩)
    (by rw [hholdover]; exact Servo.noConfusion) (fun u l hcfg hservo => ?_) fun u l hrate _ hservo => ⟨?_, ?_⟩
  · rw [limitDue_of (by rw [hservo]; exact hholdover) hcfg, ← hdue]
    generalize u.servo n l = y at *
    rw [hservo]
  · have hprep := (prepared_refl n l [] u).freed hlt
    generalize u.servo n l = y at *
    rw [hservo] at hprep
    exact hprep
  · rw [toServo_free (by rw [hservo]; show v.state ≠ _; rw [hholdover]; exact Servo.noConfusion), hrate]

theorem exists_next_servoHoldEnter (s : State) (n at_ : Nat) (v : LaneServo) (hup : s.up = true) (hn : n ∈ [0, 1, 3]) (halike : s.alike n v) (hrate : 0 < (s.base 2).rate)
    (hauto : fld (s.tbReg Off.TB_SERVO_CFG n) 0 2 = 1) (hat : v.inputAt = some at_) (hstate : v.state = .locked ∨ v.state = .acquire) :
    ∃ t, exec (.servoHoldEnter n) s = .next t ∧
      t.now = (toTb2 (at_ + 1000000 * nsUnit * max 1 (fld (s.tbReg Off.TB_HOLD_CFG n) 0 16)) s).now ∧
      (v.state = .locked → (t.base n).rate = (((s.base 2).rate : Int) - v.integral).toNat ∧ Raised Irq.TB_HOLDOVER t ∧
        InQueue 0x0401 [iU8 1 n, iU8 2 2, iU8 3 3] s t ∧
        ∀ l : Lane, s.inVote l = true → (t.servo n l).state = .holdover ∧ (t.servo n l).integral = v.integral ∧ (t.servo n l).holdAt = t.time.tb2.time) ∧
      (v.state = .acquire → (t.base n).rate = (s.base 2).rate ∧ InQueue 0x0401 [iU8 1 n, iU8 2 1, iU8 3 0] s t ∧
        ∀ l : Lane, s.inVote l = true → (t.servo n l).state = .free ∧ (t.servo n l).integral = 0) ∧
      (∀ l : Lane, t.inVote l = s.inVote l) ∧ Raised Irq.TB_STATE t ∧ RegsOnly [Off.REC_LOST_CNT, Off.TB_HOLD_CNT] s t ∧
      OnlyIn (.now :: .time :: .nv :: .vot :: recParts) s t := by
  obtain ⟨due, hdue⟩ : ∃ due, at_ + 1000000 * nsUnit * max 1 (fld (s.tbReg Off.TB_HOLD_CFG n) 0 16) = due := ⟨_, rfl⟩
  have h : HoldAt n due v s := ⟨hup, hn, halike, hrate, hauto⟩
  rw [hdue]
  obtain hlocked | hacquire := hstate
  · have ht := holdEnter_locked h hdue hat hlocked
    have htold := ht.told
    rw [hlocked] at htold
    refine ⟨_, exec_servoHoldEnter hup (base_of_mem hn).1, ht.now, fun _ => ⟨ht.rate, ht.raised _ (by simp), htold, fun l hl => ?_⟩, fun hacquire => ?_, ht.votes,
      ht.raised _ (by simp), ht.regs, ht.only⟩
    · rw [ht.servo l hl, ht.tb2]
      exact ⟨rfl, rfl, rfl⟩
    · rw [hlocked] at hacquire
      cases hacquire
  · have ht := holdEnter_acquire h hdue hat hacquire
    have htold := ht.told
    rw [hacquire] at htold
    refine ⟨_, exec_servoHoldEnter hup (base_of_mem hn).1, ht.now, fun hlocked => ?_, fun _ => ⟨ht.rate, htold, fun l hl => ?_⟩, ht.votes,
      ht.raised _ (by simp), fun k hk => ht.regs k fun hm => hk ?_, ht.only⟩
    · rw [hacquire] at hlocked
      cases hlocked
    · rw [ht.servo l hl]
      exact ⟨rfl, rfl⟩
    · rw [List.mem_singleton.mp hm]
      exact List.mem_cons_self

theorem exists_next_servoHoldLimit (s : State) (n : Nat) (v : LaneServo) (hup : s.up = true) (hn : n ∈ [0, 1, 3]) (halike : s.alike n v) (hrate : 0 < (s.base 2).rate)
    (hauto : fld (s.tbReg Off.TB_SERVO_CFG n) 0 2 = 1) (hholdover : v.state = .holdover) :
    ∃ t, exec (.servoHoldLimit n) s = .next t ∧
      t.now = (toTb2 (v.holdAt + 1000000000 * nsUnit * max 1 (fld (s.tbReg Off.TB_HOLD_CFG n) 16 16)) s).now ∧
      (∀ l : Lane, s.inVote l = true → (t.servo n l).state = .free ∧ (t.servo n l).integral = 0) ∧ (t.base n).rate = (s.base 2).rate ∧
      InQueue 0x0401 [iU8 1 n, iU8 2 3, iU8 3 0] s t ∧ (∀ l : Lane, t.inVote l = s.inVote l) ∧ Raised Irq.TB_STATE t ∧
      RegsOnly [Off.REC_LOST_CNT] s t ∧ OnlyIn (.now :: .time :: .nv :: .vot :: recParts) s t := by
  obtain ⟨due, hdue⟩ : ∃ due, v.holdAt + 1000000000 * nsUnit * max 1 (fld (s.tbReg Off.TB_HOLD_CFG n) 16 16) = due := ⟨_, rfl⟩
  rw [hdue]
  have ht := holdLimit_holdover ⟨hup, hn, halike, hrate, hauto⟩ hdue hholdover
  have htold := ht.told
  rw [hholdover] at htold
  refine ⟨_, exec_servoHoldLimit hup (base_of_mem hn).1, ht.now, fun l hl => ?_, ht.rate, htold, ht.votes, ht.raised _ (by simp), ht.regs, ht.only⟩
  rw [ht.servo l hl]
  exact ⟨rfl, rfl⟩

end

/-- Settles O22, command by command. -/
theorem servoOfABase : Obligations.ServoOfABase :=
  ⟨exists_next_servoOffsetInput_first, exists_next_servoOffsetInput_further, exists_next_servoHoldEnter, exists_next_servoHoldLimit⟩

end Sys2Proof.Machine

namespace Sys2Proof.Machine

set_option Elab.async false

section
variable {s t u : State} {n core off : Nat} {l m : Lane} {R : List Nat}

/-! ### Writes that the lanes make alike (R125) -/

theorem exec_tbStepWrite {hi : Word} (hup : s.up = true) (hn : n < 4) : exec (.tbStepWrite core n hi) s = .next (everyLane (tbStepOp core n hi) s) :=
  congrArg Host.Outcome.next (if_pos (by rw [hup, decide_eq_true hn]; rfl))

theorem exec_tbRateWrite {hi : Word} (hup : s.up = true) (hn : n < 4) : exec (.tbRateWrite core n hi) s = .next (everyLane (tbRateOp core n hi) s) :=
  congrArg Host.Outcome.next (if_pos (by rw [hup, decide_eq_true hn]; rfl))

theorem exec_tbOffsetInWrite {v : Word} (hup : s.up = true) (hn : n < 4) : exec (.tbOffsetInWrite n v) s = .next (everyLane (tbOffsetOp n v) s) :=
  congrArg Host.Outcome.next (if_pos (by rw [hup, decide_eq_true hn]; rfl))

/-- The low half of a lane's pair committed. -/
theorem commitLo_of_local (hlocal : laneLocal off = true) : commitLo l core off s = dropLo l core off (setReg (laneKey l off) (s.loFor l core off) s) := by
  rw [commitLo, regKey, if_pos hlocal]

theorem onlyIn_commitLo : OnlyIn [.regs, .loWrites] s (commitLo l core off s) :=
  onlyIn_trans (onlyIn_mono (only_setReg only_refl : OnlyIn [.regs] s _) (by decide)) (onlyIn_mono (only_mk only_refl : OnlyIn [.loWrites] _ _) (by decide))

theorem reg_commitLo_ne {k : Nat} (hlocal : laneLocal off = true) (h : k ≠ laneKey l off) : (commitLo l core off s).reg k = s.reg k := by
  rw [commitLo_of_local hlocal]
  exact (reg_congr _ _ _ (dropLo_regs _ _ _ _)).trans (reg_setReg_ne _ _ _ _ h)

theorem regsOnly_commitLo (hlocal : laneLocal off = true) (hoff : off < 16777216 ∧ off ∈ R) : RegsOnly R s (commitLo l core off s) := by
  rw [commitLo_of_local hlocal]
  exact regs_mk (regs_setReg regs_refl (laneKey_mem l hoff))

theorem wf_commitLo_of_local (hlocal : laneLocal off = true) (h : RegsWf s) : RegsWf (commitLo l core off s) := by
  rw [commitLo_of_local hlocal]
  exact wf_mk (wf_setReg h)

/-! ### Writes that are refused (Tables 4.8 and 4.11) -/

/-- Each lane of `D` has counted one refusal. -/
structure Refused (R : List Nat) (s : State) (D : List Lane) (u : State) : Prop where
  wf : RegsWf u
  counted : ∀ l, u.reg (laneKey l Off.TB_REJECT_CNT) = s.reg (laneKey l Off.TB_REJECT_CNT) + if l ∈ D then 1 else 0
  regs : RegsOnly R s u
  only : OnlyIn [.regs, .loWrites] s u

theorem refused_nil (hwf : RegsWf s) : Refused R s [] s := ⟨hwf, fun _ => (BitVec.add_zero _).symm, regs_refl, only_refl⟩

theorem rejectCnt_lt : Off.TB_REJECT_CNT < 16777216 := by decide

theorem reg_tbRefuse (hwf : RegsWf s) (l m : Lane) :
    (tbRefuse l s).reg (laneKey m Off.TB_REJECT_CNT) = if m = l then s.reg (laneKey l Off.TB_REJECT_CNT) + 1 else s.reg (laneKey m Off.TB_REJECT_CNT) := by
  by_cases h : m = l
  · rw [if_pos h, h]
    exact reg_bumpLane_self l hwf
  · rw [if_neg h]
    exact reg_bump_ne _ _ _ (laneKey_ne h rejectCnt_lt rejectCnt_lt)

/-- A lane that changes nothing of the counts, then refuses. -/
theorem Refused.refuse {D : List Lane} (h : Refused R s D u) (hl : l ∉ D) (hR : Off.TB_REJECT_CNT ∈ R) (hwf : RegsWf t) (hregs : RegsOnly R u t)
    (honly : OnlyIn [.regs, .loWrites] u t) (hsame : ∀ m, t.reg (laneKey m Off.TB_REJECT_CNT) = u.reg (laneKey m Off.TB_REJECT_CNT)) : Refused R s (l :: D) (tbRefuse l t) where
  wf := regsWf_bump _ _ hwf
  counted := fun m => by
    rw [reg_tbRefuse hwf, hsame, hsame, h.counted, h.counted]
    by_cases hm : m = l
    · rw [if_pos hm, hm, if_neg hl, if_pos List.mem_cons_self, add_zero]
    · rw [if_neg hm]
      congr 1
      exact if_congr (by simp [hm]) rfl rfl
  regs := regsOnly_trans (regsOnly_trans h.regs hregs) (regs_bumpLane regs_refl ⟨rejectCnt_lt, hR⟩)
  only := onlyIn_trans (onlyIn_trans h.only honly) (onlyIn_mono (only_bumpLane only_refl : OnlyIn [.regs] t _) (by decide))

theorem stepLo_local (h : n < 4) : laneLocal (Off.TB_STEP_LO + 64 * n) = true ∧ Off.TB_STEP_LO + 64 * n < 16777216 ∧ Off.TB_STEP_LO + 64 * n ≠ Off.TB_REJECT_CNT := by
  interval_cases n <;> decide

theorem base_of_refused (h : n = 0 ∨ n = 2) : n < 4 ∧ (n == 1 || n == 3) = false := by
  obtain rfl | rfl := h
  · exact ⟨by decide, rfl⟩
  · exact ⟨by decide, rfl⟩

theorem Refused.step {D : List Lane} {hi : Word} (h : Refused [Off.TB_REJECT_CNT, Off.TB_STEP_LO + 64 * n] s D u) (hn : n = 0 ∨ n = 2) (hl : l ∉ D) :
    Refused [Off.TB_REJECT_CNT, Off.TB_STEP_LO + 64 * n] s (l :: D) (tbStepOp core n hi l u) := by
  obtain ⟨hlt, hno⟩ := base_of_refused hn
  obtain ⟨hlocal, hoff, hne⟩ := stepLo_local hlt
  have heq : tbStepOp core n hi l u = tbRefuse l (commitLo l core (Off.TB_STEP_LO + 64 * n) u) := if_neg (by rw [hno]; exact Bool.false_ne_true)
  rw [heq]
  refine h.refuse hl List.mem_cons_self (wf_commitLo_of_local hlocal h.wf) (regsOnly_commitLo hlocal ⟨hoff, by simp⟩) onlyIn_commitLo fun m => reg_commitLo_ne hlocal ?_
  by_cases hm : m = l
  · rw [hm]
    exact laneKey_ne_of_offset hne.symm
  · exact laneKey_ne hm rejectCnt_lt hoff

theorem Refused.offset {D : List Lane} {v : Word} (h : Refused R s D u) (hR : Off.TB_REJECT_CNT ∈ R) (hn : n = 0 ∨ n = 2) (hl : l ∉ D) :
    Refused R s (l :: D) (tbOffsetOp n v l u) := by
  obtain ⟨_, hno⟩ := base_of_refused hn
  have heq : tbOffsetOp n v l u = tbRefuse l u := if_neg (by rw [hno]; exact Bool.false_ne_true)
  rw [heq]
  exact h.refuse hl hR h.wf regs_refl only_refl fun _ => rfl

theorem exists_next_tbRefused (s : State) (core n : Nat) (v : Word) (c : Instr) (hwf : RegsWf s) (hup : s.up = true)
    (hc : c = .tbStepWrite core n v ∨ c = .tbOffsetInWrite n v) (hn : n = 0 ∨ n = 2) :
    ∃ t, exec c s = .next t ∧ t.time = s.time ∧
      (∀ l, s.inVote l = true → t.reg (laneKey l Off.TB_REJECT_CNT) = s.reg (laneKey l Off.TB_REJECT_CNT) + 1) ∧
      RegsOnly [Off.TB_REJECT_CNT, Off.TB_STEP_LO + 64 * n] s t ∧ OnlyIn [.regs, .loWrites] s t := by
  obtain ⟨hlt, _⟩ := base_of_refused hn
  have hdone : ∀ act : Lane → State → State, (∀ D l u, Refused [Off.TB_REJECT_CNT, Off.TB_STEP_LO + 64 * n] s D u → l ∉ D →
      Refused [Off.TB_REJECT_CNT, Off.TB_STEP_LO + 64 * n] s (l :: D) (act l u)) →
      ∃ D, (∀ l, l ∈ D ↔ s.inVote l = true) ∧ Refused [Off.TB_REJECT_CNT, Off.TB_STEP_LO + 64 * n] s D (everyLane act s) := fun act hact =>
    lanes_foldl (refused_nil hwf) fun D l u h hl _ => hact D l u h hl
  have hfinish : ∀ t D, (∀ l, l ∈ D ↔ s.inVote l = true) → Refused [Off.TB_REJECT_CNT, Off.TB_STEP_LO + 64 * n] s D t → t.time = s.time ∧
      (∀ l, s.inVote l = true → t.reg (laneKey l Off.TB_REJECT_CNT) = s.reg (laneKey l Off.TB_REJECT_CNT) + 1) ∧
      RegsOnly [Off.TB_REJECT_CNT, Off.TB_STEP_LO + 64 * n] s t ∧ OnlyIn [.regs, .loWrites] s t := fun t D hD h =>
    ⟨h.only.2 .time (by decide), fun l hl => by rw [h.counted, if_pos ((hD l).mpr hl)], h.regs, h.only⟩
  obtain rfl | rfl := hc
  · obtain ⟨D, hD, h⟩ := hdone (tbStepOp core n v) fun D l u h hl => h.step hn hl
    exact ⟨_, exec_tbStepWrite hup hlt, hfinish _ D hD h⟩
  · obtain ⟨D, hD, h⟩ := hdone (tbOffsetOp n v) fun D l u h hl => h.offset List.mem_cons_self hn hl
    exact ⟨_, exec_tbOffsetInWrite hup hlt, hfinish _ D hD h⟩

/-! ### An invalid temperature, messages of others, and a lane off its beacon (R120, R136, R137) -/

theorem exists_next_tbTrimWrite_invalid (s : State) (hup : s.up = true) :
    ∃ t, exec (.tbTrimWrite false) s = .next t ∧ t.time = s.time ∧
      Recorded 0x0401 [iU8 1 2, iU8 2 (s.servoState s.time.tb2).code, iU8 3 (s.servoState s.time.tb2).code] s t ∧ PassTold 6 s t ∧
      RegsOnly [Off.REC_LOST_CNT] s t ∧ OnlyIn (.tlm :: recParts) s t := by
  have hexec : exec (.tbTrimWrite false) s =
      .next (passDone 6 (record 0x0401 [iU8 1 2, iU8 2 (s.servoState s.time.tb2).code, iU8 3 (s.servoState s.time.tb2).code] s)) :=
    congrArg Host.Outcome.next (if_pos hup)
  generalize [iU8 1 2, iU8 2 (s.servoState s.time.tb2).code, iU8 3 (s.servoState s.time.tb2).code] = items at *
  have hrec : OnlyIn recParts s (record 0x0401 items s) := only_record only_refl
  have htlm : (record 0x0401 items s).tlm = s.tlm := hrec.2 .tlm (by decide)
  have hpass : OnlyIn [.tlm] (record 0x0401 items s) (passDone 6 (record 0x0401 items s)) := only_passDone only_refl
  refine ⟨_, hexec, (hpass.2 .time (by decide)).trans (hrec.2 .time (by decide)), recorded_after (recorded_record _ _ s) hpass, passTold_passDone (by rw [htlm]) (by rw [htlm]),
    regs_passDone (regs_record regs_refl), onlyIn_trans (onlyIn_mono hrec (by decide)) (onlyIn_mono hpass (by decide))⟩

theorem exec_ptpMessage {m : PtpMsg} {port : Nat} {stamp : Int} (hup : s.up = true) (hport : s.ptpPort = some port) (hmine : s.time.ptp.port = port)
    (hdomain : m.domain = s.ptpOpt 1) (htransport : m.transport = s.ptpOpt 2) (hstamp : (s.port port).noStamp = false) :
    exec (.ptpMessage port m stamp) s = .next (ptpTake m (stamp - (rxCorr port + (s.port port).dev)) s) := by
  have hcond : (s.up && s.ptpPort == some port && m.domain == s.ptpOpt 1 && m.transport == s.ptpOpt 2) = true := by
    rw [hup, hport, hdomain, htransport, beq_self_eq_true, beq_self_eq_true, beq_self_eq_true]
    rfl
  have hingress : s.ingress port stamp = some (stamp - (rxCorr port + (s.port port).dev)) := if_neg (by rw [hstamp]; exact Bool.false_ne_true)
  show Host.Outcome.next (if (s.up && s.ptpPort == some port && m.domain == s.ptpOpt 1 && m.transport == s.ptpOpt 2) = true then _ else s) = _
  rw [if_pos hcond, hingress]
  dsimp only
  rw [hmine, if_pos (beq_self_eq_true _)]

theorem exists_next_ptpAnnounce (s : State) (m : PtpMsg) (port gm rank : Nat) (stamp : Int) (hup : s.up = true) (hport : s.ptpPort = some port)
    (hmine : s.time.ptp.port = port) (hdomain : m.domain = s.ptpOpt 1) (htransport : m.transport = s.ptpOpt 2) (hstamp : (s.port port).noStamp = false)
    (hbody : m.body = .announce gm rank) :
    ∃ t, exec (.ptpMessage port m stamp) s = .next t ∧
      t.time = { s.time with ptp := { s.time.ptp with masters := ⟨m.source, gm, rank, (s.time.ptp.masters.find? fun y => y.source == m.source).any (·.barred)⟩ :: s.time.ptp.masters.filter fun x => x.source != m.source } } ∧
      OnlyIn [.time] s t := by
  have htake : ptpTake m (stamp - (rxCorr port + (s.port port).dev)) s =
      hearMaster ⟨m.source, gm, rank, (s.time.ptp.masters.find? fun y => y.source == m.source).any (·.barred)⟩ s := by
    unfold ptpTake
    rw [hbody]
  exact ⟨_, (exec_ptpMessage hup hport hmine hdomain htransport hstamp).trans (congrArg Host.Outcome.next htake), rfl, only_mk only_refl⟩

theorem exec_ptpMessage_of_other (s : State) (m : PtpMsg) (port : Nat) (stamp : Int) (h : s.ptpPort ≠ some port ∨ m.domain ≠ s.ptpOpt 1 ∨ m.transport ≠ s.ptpOpt 2) :
    exec (.ptpMessage port m stamp) s = .next s := by
  have hcond : ¬ (s.up && s.ptpPort == some port && m.domain == s.ptpOpt 1 && m.transport == s.ptpOpt 2) = true := by
    rw [Bool.and_eq_true, Bool.and_eq_true, Bool.and_eq_true, beq_iff_eq, beq_iff_eq, beq_iff_eq]
    rintro ⟨⟨⟨_, hport⟩, hdomain⟩, htransport⟩
    exact h.elim (fun h => h hport) fun h => h.elim (fun h => h hdomain) fun h => h htransport
  exact congrArg Host.Outcome.next (if_neg hcond)

/-- The lane's alignment error is held. -/
def misaligned (l : Lane) (s : State) : State :=
  setReg (laneKey l Off.TB_ALIGN_MAX) (BitVec.ofNat 32 (max (s.reg (laneKey l Off.TB_ALIGN_MAX)).toNat (max 5121 (fresh s).1.toNat))) (fresh s).2

theorem onlyIn_misaligned : OnlyIn [.regs, .free] s (misaligned l s) := only_setReg (only_mk only_refl)

theorem exec_laneAlignFault (hup : s.up = true) (hin : s.inVote l = true) : exec (.laneAlignFault l) s = .next (settled s (excludeLane l .clock (misaligned l s))) :=
  congrArg (fun t => Host.Outcome.next (settled s t)) (if_pos (by rw [hup, hin]; rfl))

theorem exists_next_laneAlignFault (s : State) (l : Lane) (hup : s.up = true) (hquiet : s.quiet = true) (hin : s.inVote l = true) (hthree : s.lanesIn.length = 3) :
    ∃ t, exec (.laneAlignFault l) s = .next t ∧ LeftVote l .clock s t ∧ OnlyIn exclParts s t := by
  have honly := onlyIn_misaligned (s := s) (l := l)
  have hexec := exec_laneAlignFault (s := s) (l := l) hup hin
  generalize misaligned l s = u at *
  have hvot : u.vot = s.vot := honly.2 .vot (by decide)
  have hsys : u.sys = s.sys := honly.2 .sys (by decide)
  have htime : u.time = s.time := honly.2 .time (by decide)
  have hinU : ∀ k, u.inVote k = s.inVote k := fun k => by rw [State.inVote, State.inVote, hvot]
  have hupU : u.up = true := (up_of_only honly).trans hup
  have hquietU : u.quiet = true := by
    unfold State.quiet at *
    rw [hvot, htime]
    exact hquiet
  have hlanes : 3 ≤ u.lanesIn.length := by rw [lanesIn_congr hinU, hthree]
  rw [settled_excludeLane s l .clock u ((hinU l).trans hin) hlanes hquietU] at hexec
  exact ⟨_, hexec, leftVote_of_same (leftVote_excludeLane l .clock u hupU ((hinU l).trans hin) hlanes) hinU (by rw [hvot]) (by rw [hsys]),
    onlyIn_trans (onlyIn_mono honly (by decide)) (only_excludeLane only_refl)⟩

end

end Sys2Proof.Machine

namespace Sys2Proof.Machine

set_option Elab.async false

section
variable {s t u : State} {m : PtpMsg} {port : Nat} {l : Lane}

/-! ### A Sync of the selected master (R136) -/

theorem ptpOpt_congr {j : Nat} (hj : j ∈ [1, 2, 3, 5]) (h : t.nv = s.nv) : t.ptpOpt j = s.ptpOpt j := by
  have hrow : ((objRow 0x2304 j).any fun r => r.pers == 2) = true := by
    revert hj j
    decide
  have hvalue : t.objValue none 0x2304 j = s.objValue none 0x2304 j := by
    unfold State.objValue
    cases hr : objRow 0x2304 j with
    | none =>
      rw [hr] at hrow
      exact absurd hrow Bool.false_ne_true
    | some r =>
      rw [hr] at hrow
      dsimp only
      rw [if_pos (by simpa using hrow), if_pos (by simpa using hrow), h]
  rw [State.ptpOpt, hvalue, State.ptpOpt]

/-- A Sync of the selected master, its interval in range, noted with its stamps. -/
def syncNoted (m : PtpMsg) (t1 x : Int) (s : State) : State :=
  setPtp (fun p => { p with syncSeq := m.seq, t1 := some t1, t2 := some x })
    (setPtp (fun p => { p with masters := p.masters.map fun y => if y.source == m.source then { y with barred := false } else y }) s)

theorem onlyIn_setPtp (f : Ptp → Ptp) (s : State) : OnlyIn [.time] s (setPtp f s) := only_mk only_refl

theorem base_setPtp (f : Ptp → Ptp) (n : Nat) (s : State) : (setPtp f s).base n = s.base n := by
  match n with
  | 0 => rfl
  | 1 => rfl
  | 2 => rfl
  | _ + 3 => rfl

theorem ptpTake_sync {i t1 x : Int} {y : PtpMaster} (hbody : m.body = .sync i (some t1)) (hmaster : s.ptpMaster = some y) (hsource : y.source = m.source)
    (hlo : -4 ≤ i) (hhi : i ≤ 0) : ptpTake m x s = ptpSynced (syncNoted m t1 x s) := by
  have hout : (decide (i < -4) || decide (0 < i)) = false := by
    rw [decide_eq_false (Int.not_lt.mpr hlo), decide_eq_false (Int.not_lt.mpr hhi)]
    rfl
  have hmine : (s.ptpMaster.any fun y => y.source == m.source) = true := by
    rw [hmaster, ← hsource]
    exact beq_self_eq_true _
  unfold ptpTake
  rw [hbody]
  dsimp only
  rw [hout, hmine]
  rfl

/-- A delay request sent after the offset of a Sync. -/
def requested (s0 s : State) : State :=
  setPtp (fun p => { p with reqSeq := (s0.time.ptp.reqSeq + 1) % 65536, peer := none, t3 := some (s0.stamp1 + txCorr s0.time.ptp.port) })
    (send (.delayReq s0.time.ptp.port (s0.ptpOpt 3 != 0) (s0.ptpOpt 1) ((s0.time.ptp.reqSeq + 1) % 65536)) s)

theorem ptpSynced_eq {t1 t2 d : Int} (h1 : s.time.ptp.t1 = some t1) (h2 : s.time.ptp.t2 = some t2) (hd : s.time.ptp.delay = some d) :
    ptpSynced s = requested s (servoInput 1 (satSigned 32 (t2 - t1 - d)) s) := by
  unfold ptpSynced ptpInput
  rw [h1, h2, hd]
  rfl

theorem base_requested (s0 : State) (n : Nat) (s : State) : (requested s0 s).base n = s.base n :=
  base_setPtp _ n (send (.delayReq s0.time.ptp.port (s0.ptpOpt 3 != 0) (s0.ptpOpt 1) ((s0.time.ptp.reqSeq + 1) % 65536)) s)

theorem onlyIn_requested (s0 s : State) : OnlyIn [.time, .out] s (requested s0 s) :=
  onlyIn_trans (onlyIn_mono (only_send only_refl : OnlyIn [.out] s _) (by decide)) (onlyIn_mono (onlyIn_setPtp _ _) (by decide))

theorem onlyIn_syncNoted {t1 x : Int} : OnlyIn [.time] s (syncNoted m t1 x s) := onlyIn_trans (onlyIn_setPtp _ s) (onlyIn_setPtp _ _)

theorem base_syncNoted {t1 x : Int} (n : Nat) : (syncNoted m t1 x s).base n = s.base n := (base_setPtp _ n _).trans (base_setPtp _ n s)

theorem alike_of_time {n : Nat} {v : LaneServo} (h : s.alike n v) (honly : OnlyIn [.time] s t) (hbase : t.base n = s.base n) (hvotes : t.time.votes = s.time.votes) :
    t.alike n v := by
  obtain ⟨hnone, htwo, hall⟩ := h
  have hvot : t.vot = s.vot := honly.2 .vot (by decide)
  have hin : ∀ l, t.inVote l = s.inVote l := fun l => by rw [State.inVote, State.inVote, hvot]
  refine ⟨hvotes.trans hnone, by rw [lanesIn_congr hin]; exact htwo, fun l hl => ?_⟩
  unfold State.tbReg
  rw [State.servo, hbase, reg_of_only _ honly, laneTb_of_only honly, laneTb_of_only honly, laneTb_of_only honly, maj_of_only honly, maj_of_only honly, maj_of_only honly,
    maj_of_only honly]
  exact hall l ((hin l).symm.trans hl)

theorem source_of_ptpPort (h : s.ptpPort = some port) : fld (s.maj Off.TB_CFG) 0 2 ≠ 0 := by
  intro h0
  unfold State.ptpPort at h
  rw [h0] at h
  cases h

theorem exists_next_ptpSync (s : State) (m : PtpMsg) (y : PtpMaster) (v : LaneServo) (port : Nat) (stamp i t1 d e : Int) (cfg : Word) (hup : s.up = true) (halike : s.alike 1 v)
    (hport : s.ptpPort = some port) (hmine : s.time.ptp.port = port) (hdomain : m.domain = s.ptpOpt 1) (htransport : m.transport = s.ptpOpt 2)
    (hstamp : (s.port port).noStamp = false) (hbody : m.body = .sync i (some t1)) (hmaster : s.ptpMaster = some y) (hsource : y.source = m.source)
    (hlo : -4 ≤ i) (hhi : i ≤ 0) (hd : s.time.ptp.delay = some d) (he : e = satSigned 32 (stamp - (rxCorr port + (s.port port).dev) - t1 - d))
    (hcfg : cfg = s.tbReg Off.TB_SERVO_CFG 1) (hauto : fld cfg 0 2 = 1) (hfree : v.state = .free) (hsmall : e.natAbs ≤ max 1 (fld cfg 24 8) * 256000) :
    ∃ t, exec (.ptpMessage port m stamp) s = .next t ∧
      Served 1 { v with state := .acquire, lockRun := 0, offRun := 0, inputAt := some s.time.tb2.time, lastE := e, valid := true, discards := 0 } s t ∧
      t.out = s.out ++ [.delayReq port (s.ptpOpt 3 != 0) (s.ptpOpt 1) ((s.time.ptp.reqSeq + 1) % 65536)] ∧
      t.time.ptp.t3 = some (s.stamp1 + txCorr port) ∧ Raised Irq.TB_STATE t ∧ Recorded 0x0401 [iU8 1 1, iU8 2 0, iU8 3 1] s t ∧
      RegsOnly [Off.REC_LOST_CNT] s t ∧ OnlyIn (.time :: .out :: recParts) s t := by
  subst hcfg
  obtain ⟨x, hx⟩ : ∃ x, stamp - (rxCorr port + (s.port port).dev) = x := ⟨_, rfl⟩
  have hexec := exec_ptpMessage (stamp := stamp) hup hport hmine hdomain htransport hstamp
  rw [hx, ptpTake_sync hbody hmaster hsource hlo hhi, ptpSynced_eq (s := syncNoted m t1 x s) (t1 := t1) (t2 := x) rfl rfl hd] at hexec
  rw [hx] at he
  rw [← he] at hexec
  have hnoted : OnlyIn [.time] s (syncNoted m t1 x s) := onlyIn_syncNoted
  have hbases : ∀ n, (syncNoted m t1 x s).base n = s.base n := base_syncNoted
  have hptp : (syncNoted m t1 x s).time.ptp.reqSeq = s.time.ptp.reqSeq ∧ (syncNoted m t1 x s).time.ptp.port = port := ⟨rfl, hmine⟩
  have hvotes : (syncNoted m t1 x s).time.votes = s.time.votes := rfl
  generalize syncNoted m t1 x s = s2 at *
  have htb : s2.tbReg Off.TB_SERVO_CFG 1 = s.tbReg Off.TB_SERVO_CFG 1 := maj_of_only hnoted
  have hvot : s2.vot = s.vot := hnoted.2 .vot (by decide)
  have hin : ∀ l, s2.inVote l = s.inVote l := fun l => by rw [State.inVote, State.inVote, hvot]
  have hfirst : FirstAt 1 v e s2 := ⟨by decide, by decide, alike_of_time halike hnoted (hbases 1) hvotes, by rw [htb]; exact hauto,
    fun _ => by rw [maj_of_only hnoted]; exact source_of_ptpPort hport, hfree, by rw [htb]; exact hsmall⟩
  obtain ⟨⟨hservo, hothers⟩, _, hraised, hrec, _, hregs, honly⟩ := servoInput_first hfirst
  have htb2 : s2.time.tb2 = s.time.tb2 := hbases 2
  have htb1 : s2.time.tb1 = s.time.tb1 := hbases 1
  rw [htb2] at hservo
  generalize servoInput 1 e s2 = t2 at *
  have hreq := onlyIn_requested s2 t2
  have hout : (requested s2 t2).out = t2.out ++ [.delayReq s2.time.ptp.port (s2.ptpOpt 3 != 0) (s2.ptpOpt 1) ((s2.time.ptp.reqSeq + 1) % 65536)] := rfl
  have hoption : ∀ j ∈ [1, 2, 3, 5], s2.ptpOpt j = s.ptpOpt j := fun j hj => ptpOpt_congr hj (hnoted.2 .nv (by decide))
  refine ⟨_, hexec, ⟨fun l => ?_, fun n hn hne => ?_⟩, ?_, ?_, raised_of_only hraised hreq, ?_, ?_, ?_⟩
  · rw [State.servo, base_requested, ← State.servo, hservo, hin, State.servo, State.servo, hbases]
    rfl
  · rw [base_requested, hothers n hn hne, hbases]
  · rw [hout, (honly.2 .out (by decide) : t2.out = s2.out), (hnoted.2 .out (by decide) : s2.out = s.out), hptp.2, hptp.1, hoption 3 (by decide), hoption 1 (by decide)]
  · show some (s2.stamp1 + txCorr s2.time.ptp.port) = _
    rw [hptp.2, State.stamp1, htb1]
    rfl
  · exact recorded_after (recorded_rebased hrec hnoted (congrArg Base.time (hbases 0) : (s2.base 0).time = (s.base 0).time)) hreq
  · exact regs_of_only (regsOnly_trans (regs_of_only regs_refl hnoted) hregs) hreq
  · exact onlyIn_trans (onlyIn_trans (onlyIn_mono hnoted (by decide)) (onlyIn_mono honly (by decide))) (onlyIn_mono hreq (by decide))

end

end Sys2Proof.Machine

namespace Sys2Proof.Machine

set_option Elab.async false

section
variable {s t u : State} {n : Nat} {l : Lane} {v : LaneServo} {e : Int} {p q : Servo}

/-! ### The majority while the lanes begin to acquire one by one (R127) -/

/-- What is alike in all lanes but for three truth values. -/
def ofLanes (x y z : Bool) : Lane → Bool
  | .a => x
  | .b => y
  | .c => z

theorem ofLanes_eq (f : Lane → Bool) : f = ofLanes (f .a) (f .b) (f .c) := funext fun l => by cases l <;> rfl

/-- The majority of lanes `i`, those of `p` in ACQUIRE, the rest FREE. -/
def acquiring (i p : Lane → Bool) : Servo :=
  (agreedOf ((Lane.all.filter i).map fun l => if p l then Servo.acquire else .free)).getD
    (((Lane.all.filter i).map fun l => if p l then Servo.acquire else .free).headD .free)

theorem acquiring_bools : ∀ i1 i2 i3 p1 p2 p3 q1 q2 q3 : Bool, (p1 = true → q1 = true) → (p2 = true → q2 = true) → (p3 = true → q3 = true) →
    acquiring (ofLanes i1 i2 i3) (ofLanes p1 p2 p3) ≠ .free → acquiring (ofLanes i1 i2 i3) (ofLanes q1 q2 q3) = .acquire := by decide

/-- Once the majority acquires, it acquires as more lanes do. -/
theorem acquiring_mono {i p q : Lane → Bool} (h : ∀ l, p l = true → q l = true) (hp : acquiring i p ≠ .free) : acquiring i q = .acquire := by
  rw [ofLanes_eq i, ofLanes_eq p] at hp
  rw [ofLanes_eq i, ofLanes_eq q]
  exact acquiring_bools _ _ _ _ _ _ _ _ _ (h .a) (h .b) (h .c) hp

theorem servoState_acquiring {w : LaneServo} {D : List Lane} (h : Acted n w s D u) (halike : s.alike n v) (hfree : v.state = .free) (hw : w.state = .acquire) :
    u.servoState (u.base n) = acquiring s.inVote fun l => decide (l ∈ D) := by
  obtain ⟨hin, _, _, hservo⟩ := h
  obtain ⟨_, _, hall⟩ := halike
  have hmap : (s.lanesIn.map fun l => ((u.base n).servos.get l).state) = s.lanesIn.map fun l => if decide (l ∈ D) = true then Servo.acquire else .free := by
    refine List.map_congr_left fun l hl => ?_
    show (u.servo n l).state = _
    rw [hservo]
    by_cases hD : l ∈ D
    · rw [if_pos hD, if_pos (decide_eq_true hD), hw]
    · rw [if_neg hD, if_neg (by simpa using hD), (hall l ((mem_lanesIn s l).mp hl)).1, hfree]
  unfold State.servoState
  dsimp only
  rw [lanesIn_congr hin, hmap]
  exact rfl

/-! ### TB_OFFSET_IN of each lane (R138) -/

/-- The lanes of `D` have had their first input, each watched for a change of the majority's state. -/
structure OffsetIns (n : Nat) (v : LaneServo) (e : Int) (s : State) (D : List Lane) (u : State) : Prop where
  acted : Acted n (v.started.noted s.time.tb2.time e) s D u
  pends : ∀ l ∈ D, Irq.TB_STATE ∈ (u.icus.get l).pend
  regs : RegsOnly [Off.REC_LOST_CNT] s u
  only : OnlyIn (.time :: recParts) s u
  told : (u.servoState (u.base n) = .free ∧ OnlyIn [.time, .icus] s u) ∨ (u.servoState (u.base n) = .acquire ∧ Recorded 0x0401 [iU8 1 n, iU8 2 0, iU8 3 1] s u)

theorem tbCfg_ne_lost (h : n < 4) : ∀ off ∈ [Off.TB_CFG, Off.TB_SERVO_CFG + 64 * n, Off.TB_GAINS + 64 * n, Off.TB_HOLD_CFG + 64 * n],
    off < 16777216 ∧ off ∉ [Off.REC_LOST_CNT] := by
  interval_cases n <;> decide

theorem offsetIns_nil (h : FirstAt n v e s) : OffsetIns n v e s [] s :=
  ⟨acted_nil _ _ _, fun _ h => absurd h List.not_mem_nil, regs_refl, only_refl, .inl ⟨(servoState_of_alike h.alike).trans h.free, only_refl⟩⟩

/-- A lane's first input before it is watched. -/
theorem OffsetIns.input {D : List Lane} (hu : OffsetIns n v e s D u) (h : FirstAt n v e s) (hl : l ∉ D) (hin : s.inVote l = true) :
    Acted n (v.started.noted s.time.tb2.time e) s (l :: D) (laneInput n e l u) ∧ OnlyIn [.time, .icus] u (laneInput n e l u) ∧
    ∀ m ∈ l :: D, Irq.TB_STATE ∈ ((laneInput n e l u).icus.get m).pend := by
  obtain ⟨_, _, hall⟩ := h.alike
  obtain ⟨hservo, _, hcfg, _, _⟩ := hall l hin
  have hsame : SameCfg n s u := sameCfg_of_regsOnly hu.regs (tbCfg_ne_lost h.base)
  have hself : u.servo n l = v := by rw [hu.acted.2.2.2, if_neg hl, hservo]
  have htb2 : u.time.tb2 = s.time.tb2 := hu.acted.2.1 2 (by decide) h.notTb2.symm
  have hstate : (u.servo n l).state = .free := by rw [hself, h.free]
  rw [laneInput_free (by rw [hsame.servoOn]; exact servoOn_of_alike h.alike h.notTb2 h.auto h.source hin) hstate (by rw [hsame.servo, hcfg]; exact h.small)]
  obtain ⟨hto, honly, _, _, hpend, hkeep⟩ := firstInput_told (s := u) (l := l) (e := e) h.base h.notTb2 hstate
  rw [hself, htb2] at hto
  refine ⟨acted_cons hu.acted hto, honly, fun m hm => ?_⟩
  obtain rfl | hm := List.mem_cons.mp hm
  · exact hpend
  · exact hkeep _ _ (hu.pends m hm)

theorem acted_of_only {P : List Part} {w : LaneServo} {D : List Lane} (h : Acted n w s D u) (ht : OnlyIn P u t) (htime : Part.time ∉ P := by decide) (hvot : Part.vot ∉ P := by decide) :
    Acted n w s D t := by
  obtain ⟨hin, hbase, hn, hservo⟩ := h
  have hsame : ∀ m, t.base m = u.base m := fun m => by rw [State.base, State.base, (ht.2 .time htime : t.time = u.time)]
  refine ⟨fun l => ?_, fun m hm hne => (hsame m).trans (hbase m hm hne), by rw [hsame]; exact hn, fun l => ?_⟩
  · rw [State.inVote, (ht.2 .vot hvot : t.vot = u.vot)]
    exact hin l
  · rw [State.servo, hsame]
    exact hservo l

theorem OffsetIns.step {D : List Lane} (hu : OffsetIns n v e s D u) (h : FirstAt n v e s) (hl : l ∉ D) (hin : s.inVote l = true) :
    OffsetIns n v e s (l :: D) (stateWatch n (laneInput n e l) u) := by
  obtain ⟨hacted, honly, hpends⟩ := hu.input h hl hin
  have hafter := servoState_acquiring hacted h.alike h.free rfl
  have hbefore := servoState_acquiring hu.acted h.alike h.free rfl
  have hmono : u.servoState (u.base n) ≠ .free → (laneInput n e l u).servoState ((laneInput n e l u).base n) = .acquire := fun hp => by
    rw [hafter]
    exact acquiring_mono (fun m hm => by simpa using Or.inr (by simpa using hm)) (hbefore ▸ hp)
  have hregs : RegsOnly [Off.REC_LOST_CNT] s (laneInput n e l u) := regs_of_only hu.regs honly
  have hall : OnlyIn (.time :: recParts) s (laneInput n e l u) := onlyIn_trans hu.only (onlyIn_mono honly (by decide))
  obtain ⟨hfree, hquiet⟩ | ⟨hacq, hrec⟩ := hu.told
  · by_cases hstays : (laneInput n e l u).servoState ((laneInput n e l u).base n) = .free
    · rw [stateWatch_same (hfree.trans hstays.symm)]
      exact ⟨hacted, hpends, hregs, hall, .inl ⟨hstays, onlyIn_trans hquiet honly⟩⟩
    · have hturns : (laneInput n e l u).servoState ((laneInput n e l u).base n) = .acquire := by
        rw [hafter] at hstays ⊢
        exact acquiring_mono (fun _ h => h) hstays
      rw [stateWatch_changed hfree hturns Servo.noConfusion]
      generalize laneInput n e l u = t at *
      have hwrite : OnlyIn recParts t (record 0x0401 [iU8 1 n, iU8 2 Servo.free.code, iU8 3 Servo.acquire.code] t) := only_record only_refl
      have hkept := acted_of_only hacted hwrite
      refine ⟨hkept, fun m hm => ?_, regs_record hregs, onlyIn_trans hall (onlyIn_mono hwrite (by decide)), .inr ⟨?_, ?_⟩⟩
      · exact record_keeps _ _ _ _ m (hpends m hm)
      · rw [servoState_acquiring hkept h.alike h.free rfl, ← hafter]
        exact hturns
      · exact recorded_rebased (recorded_record _ _ t) (onlyIn_trans hquiet honly) (tb0_time_of_base hacted.2.2.1 hacted.2.1)
  · have hstays := hmono (by rw [hacq]; exact Servo.noConfusion)
    rw [stateWatch_same (hacq.trans hstays.symm)]
    exact ⟨hacted, hpends, hregs, hall, .inr ⟨hstays, recorded_after hrec honly⟩⟩

theorem exists_next_tbOffsetInWrite (s : State) (n : Nat) (v : LaneServo) (x : Word) (e : Int) (cfg : Word) (hup : s.up = true) (halike : s.alike n v) (hn : n = 1 ∨ n = 3)
    (he : e = x.toInt) (hcfg : cfg = s.tbReg Off.TB_SERVO_CFG n) (hauto : fld cfg 0 2 = 1) (hsource : n = 1 → fld (s.maj Off.TB_CFG) 0 2 ≠ 0) (hfree : v.state = .free)
    (hsmall : e.natAbs ≤ max 1 (fld cfg 24 8) * 256000) :
    ∃ t, exec (.tbOffsetInWrite n x) s = .next t ∧
      Served n { v with state := .acquire, lockRun := 0, offRun := 0, inputAt := some s.time.tb2.time, lastE := e, valid := true, discards := 0 } s t ∧
      t.base n = { s.base n with servos := (t.base n).servos } ∧ Raised Irq.TB_STATE t ∧ Recorded 0x0401 [iU8 1 n, iU8 2 0, iU8 3 1] s t ∧
      RegsOnly [Off.REC_LOST_CNT] s t ∧ OnlyIn (.time :: recParts) s t := by
  subst he hcfg
  obtain ⟨hlt, hne, hin⟩ : n < 4 ∧ n ≠ 2 ∧ (n == 1 || n == 3) = true := by
    obtain rfl | rfl := hn
    · exact ⟨by decide, by decide, rfl⟩
    · exact ⟨by decide, by decide, rfl⟩
  have h : FirstAt n v x.toInt s := ⟨hlt, hne, halike, hauto, hsource, hfree, hsmall⟩
  have hop : ∀ l u, tbOffsetOp n x l u = stateWatch n (laneInput n x.toInt l) u := fun l u => if_pos hin
  obtain ⟨D, hD, hE⟩ := lanes_foldl (E := OffsetIns n v x.toInt s) (act := tbOffsetOp n x) (offsetIns_nil h) fun D l u hu hl hin => by
    rw [hop]
    exact hu.step h hl hin
  have hserved : Served n (v.started.noted s.time.tb2.time x.toInt) s (everyLane (tbOffsetOp n x) s) := ⟨fun l => by
    rw [everyLane, hE.acted.2.2.2]
    simp only [hD], hE.acted.2.1⟩
  refine ⟨_, exec_tbOffsetInWrite hup hlt, hserved, hE.acted.2.2.1, fun l hl => hE.pends l ((hD l).mpr ((hE.acted.1 l).symm.trans hl)), ?_, hE.regs, hE.only⟩
  obtain ⟨hstill, _⟩ | ⟨_, hrec⟩ := hE.told
  · refine absurd ((servoState_alike (v := v.started.noted s.time.tb2.time x.toInt) (fun l hl => ?_) (by rw [lanesIn_congr hE.acted.1]; exact halike.2.1)).symm.trans hstill) Servo.noConfusion
    rw [hE.acted.2.2.2, if_pos ((hD l).mpr ((hE.acted.1 l).symm.trans hl))]
  · exact hrec

end

end Sys2Proof.Machine

namespace Sys2Proof.Machine

set_option Elab.async false

section
variable {s t u : State} {n core off : Nat} {l m : Lane} {w : Word} {D : List Lane} {b : Bool} {f : Base → Base}

/-! ### The lanes' low halves (R11) -/

theorem loOwner_ne (hlocal : laneLocal off = true) (h : m ≠ l) : loOwner m off ≠ loOwner l off := by
  rw [loOwner, loOwner, if_pos hlocal, if_pos hlocal]
  exact fun hsome => h (Option.some.inj hsome)

theorem loFor_congr (hlo : t.loWrites = s.loWrites) (hsh : t.shadows = s.shadows) (hreg : t.reg (regKey l off) = s.reg (regKey l off)) :
    t.loFor l core off = s.loFor l core off := by
  unfold State.loFor State.pendingAt
  rw [hlo, hsh, hreg]

/-- A commit leaves the low halves of the other lanes. -/
theorem loFor_commitLo_ne (hlocal : laneLocal off = true) (hlt : off < 16777216) (h : m ≠ l) : (commitLo l core off s).loFor m core off = s.loFor m core off := by
  have hfind : ((commitLo l core off s).loWrites.find? fun x => x.lane == loOwner m off && x.core == core && x.off == off) =
      s.loWrites.find? fun x => x.lane == loOwner m off && x.core == core && x.off == off := by
    show ((s.loWrites.filter fun x => !(x.lane == loOwner l off && x.core == core && x.off == off)).find? _) = _
    rw [List.find?_filter]
    congr 1
    funext x
    by_cases hx : x.lane = loOwner m off
    · rw [beq_false_of_ne (show x.lane ≠ loOwner l off from hx ▸ loOwner_ne hlocal h)]
      simp only [Bool.false_and, Bool.not_false, true_and, Bool.decide_eq_true]
    · rw [beq_false_of_ne hx]
      simp
  have hreg : (commitLo l core off s).reg (regKey m off) = s.reg (regKey m off) := reg_commitLo_ne hlocal (by
    rw [regKey, if_pos hlocal]
    exact laneKey_ne h hlt hlt)
  have hsh : (commitLo l core off s).shadows = s.shadows := (onlyIn_commitLo).2 .shadows (by decide)
  unfold State.loFor State.pendingAt
  rw [hfind, hsh, hreg]

/-- The lanes of `D` have committed the low half `w`, which waits in the others in vote. -/
structure Lows (core off : Nat) (w : Word) (s : State) (D : List Lane) (u : State) : Prop where
  waiting : ∀ l, l ∉ D → s.inVote l = true → u.loFor l core off = w
  committed : ∀ l ∈ D, u.reg (laneKey l off) = w
  wf : RegsWf u

theorem Lows.same (h : Lows core off w s D u) (hlocal : laneLocal off = true) (hlo : t.loWrites = u.loWrites) (hsh : t.shadows = u.shadows)
    (hreg : ∀ l, t.reg (laneKey l off) = u.reg (laneKey l off)) (hwf : RegsWf t) : Lows core off w s D t where
  waiting := fun l hl hin => (loFor_congr hlo hsh (by rw [regKey, if_pos hlocal, hreg])).trans (h.waiting l hl hin)
  committed := fun l hl => (hreg l).trans (h.committed l hl)
  wf := hwf

/-- A change of other parts. -/
theorem Lows.only {P : List Part} (h : Lows core off w s D u) (hlocal : laneLocal off = true) (ht : OnlyIn P u t)
    (hP : ∀ p ∈ [Part.regs, .loWrites, .shadows], p ∉ P := by decide) : Lows core off w s D t :=
  h.same hlocal (ht.2 .loWrites (hP _ (by decide))) (ht.2 .shadows (hP _ (by decide))) (fun l => reg_of_only _ ht (hP _ (by decide))) (regsWf_of_only h.wf ht (hP _ (by decide)))

theorem Lows.commit (h : Lows core off w s D u) (hlocal : laneLocal off = true) (hoff : off < 16777216 ∧ regMask off = BitVec.allOnes 32) (hl : l ∉ D) (hin : s.inVote l = true) :
    Lows core off w s (l :: D) (commitLo l core off u) where
  waiting := fun m hm hin => by
    obtain ⟨hne, hm⟩ := not_or.mp (mt List.mem_cons.mpr hm)
    rw [loFor_commitLo_ne hlocal hoff.1 hne]
    exact h.waiting m hm hin
  committed := fun m hm => by
    by_cases hml : m = l
    · rw [hml, commitLo_of_local hlocal]
      exact (reg_congr _ _ _ (dropLo_regs _ _ _ _)).trans ((reg_setReg_lane l _ h.wf hoff).trans (h.waiting l hl hin))
    · rw [reg_commitLo_ne hlocal (laneKey_ne hml hoff.1 hoff.1)]
      exact h.committed m ((List.mem_cons.mp hm).resolve_left hml)
  wf := wf_commitLo_of_local hlocal h.wf

/-! ### Outputs issued alike -/

/-- Between `s` and `u` the lanes issue an output that acts on base `n` by `f`, and once `b` it has; the servos are as they were but for their counts. -/
structure Issuing (n : Nat) (f : Base → Base) (s : State) (b : Bool) (u : State) : Prop where
  votes : ∀ l, u.inVote l = s.inVote l
  bases : ∀ m, m < 4 → m ≠ n → u.base m = s.base m
  base : u.base n = { (if b then f (s.base n) else s.base n) with servos := (u.base n).servos }
  servo : ∀ l, u.servo n l = { s.servo n l with issued := (u.servo n l).issued }

theorem issuing_nil : Issuing n f s false s := ⟨fun _ => rfl, fun _ _ _ => rfl, rfl, fun _ => rfl⟩

theorem Issuing.work (h : Issuing n f s b u) (hw : VoteWork n u t) : Issuing n f s b t := by
  obtain ⟨_, hin, hbases, hbase, hservo, _⟩ := hw
  refine ⟨fun l => (hin l).trans (h.votes l), fun m hm hne => (hbases m hm hne).trans (h.bases m hm hne), ?_, fun l => ?_⟩
  · rw [hbase, h.base]
  · rw [hservo, h.servo]

theorem Issuing.only {P : List Part} (h : Issuing n f s b u) (ht : OnlyIn P u t) (hP : ∀ p ∈ [Part.time, .vot], p ∉ P := by decide) : Issuing n f s b t := by
  have hsame : ∀ m, t.base m = u.base m := fun m => by rw [State.base, State.base, (ht.2 .time (hP _ (by decide)) : t.time = u.time)]
  refine ⟨fun l => ?_, fun m hm hne => (hsame m).trans (h.bases m hm hne), by rw [hsame]; exact h.base, fun l => ?_⟩
  · rw [State.inVote, (ht.2 .vot (hP _ (by decide)) : t.vot = u.vot)]
    exact h.votes l
  · rw [State.servo, hsame]
    exact h.servo l

theorem servo_setBase (hf : ∀ x, (f x).servos = x.servos) (l : Lane) (s : State) : (setBase n f s).servo n l = s.servo n l := by
  rw [State.servo, base_setBase_self, hf, State.servo]

theorem Issuing.applied (h : Issuing n f s false u) (hn : n < 4) (hf : ∀ x, (f x).servos = x.servos) (hcong : ∀ x y : Base, f { x with servos := y.servos } = { f x with servos := y.servos }) :
    Issuing n f s true (setBase n f u) := by
  refine ⟨h.votes, fun m hm hmn => (base_setBase_ne _ _ hm hn hmn).trans (h.bases m hm hmn), ?_, fun l => ?_⟩
  · rw [base_setBase_self]
    have hbase := h.base
    rw [if_neg Bool.false_ne_true] at hbase
    rw [if_pos rfl, hf]
    generalize u.base n = y at *
    rw [hbase]
    exact hcong _ y
  · rw [servo_setBase hf]
    exact h.servo l

/-- What leaves the bases, the votes and the silence alone is calm. -/
theorem calm_of_only {P : List Part} (h : OnlyIn P s t) (hP : ∀ p ∈ [Part.now, .time, .vot, .sys], p ∉ P := by decide) : Calm n s t := by
  have htime : t.time = s.time := h.2 .time (hP _ (by decide))
  have hvot : t.vot = s.vot := h.2 .vot (hP _ (by decide))
  refine ⟨by rw [htime], fun l => by rw [State.inVote, State.inVote, hvot], fun l => ?_, h.2 .now (hP _ (by decide)), congrArg Sys.failSilent (h.2 .sys (hP _ (by decide)))⟩
  rw [State.servo, State.servo, State.base, State.base, htime]

theorem calm_trans (h : Calm n s t) (h' : Calm n t u) : Calm n s u := by
  obtain ⟨hvotes, hin, hissued, hnow, hsilent⟩ := h
  obtain ⟨hvotes', hin', hissued', hnow', hsilent'⟩ := h'
  exact ⟨hvotes'.trans hvotes, fun l => (hin' l).trans (hin l), fun l => (hissued' l).trans (hissued l), hnow'.trans hnow, hsilent'.trans hsilent⟩

theorem calm_setBase (hf : ∀ x, (f x).servos = x.servos) : Calm n s (setBase n f s) :=
  ⟨(setBase_rest _ _ _).1, fun _ => rfl, fun l => by rw [servo_setBase hf], rfl, rfl⟩

/-- The servo of base `n` after a round. -/
theorem Issuing.served {v : LaneServo} (h : Issuing n f s b u) (halike : s.alike n v)
    (hissued : ∀ m, (u.servo n m).issued = if s.inVote m = true then v.issued + 1 else (s.servo n m).issued) : Served n { v with issued := v.issued + 1 } s u := by
  refine ⟨fun l => ?_, h.bases⟩
  rw [h.servo, hissued]
  by_cases hl : s.inVote l = true
  · rw [if_pos hl, if_pos hl, (halike.2.2 l hl).1]
  · rw [if_neg hl, if_neg hl]

end

end Sys2Proof.Machine

namespace Sys2Proof.Machine

set_option Elab.async false

section
variable {s t u : State} {n core : Nat} {l m : Lane} {hi lo : Word} {D : List Lane} {b : Bool}

/-! ### TB_RATE_HI of the lanes (R125, Table 4.6) -/

/-- The base runs at the rate `r`. -/
def Base.rated (r : Nat) (x : Base) : Base := { x with rate := r }

theorem rateRegs (h : n ∈ [0, 1, 3]) : laneLocal (Off.TB_RATE_LO + 64 * n) = true ∧
    (Off.TB_RATE_LO + 64 * n < 16777216 ∧ regMask (Off.TB_RATE_LO + 64 * n) = BitVec.allOnes 32) ∧
    (Off.TB_RATE_HI + 64 * n < 16777216 ∧ regMask (Off.TB_RATE_HI + 64 * n) = BitVec.allOnes 32) ∧
    Off.TB_RATE_LO + 64 * n ≠ Off.TB_RATE_HI + 64 * n := by
  revert h n
  decide

theorem tbCfg_ne_rate (h : n ∈ [0, 1, 3]) : ∀ off ∈ [Off.TB_CFG, Off.TB_SERVO_CFG + 64 * n, Off.TB_GAINS + 64 * n, Off.TB_HOLD_CFG + 64 * n],
    off < 16777216 ∧ off ∉ [Off.TB_RATE_LO + 64 * n, Off.TB_RATE_HI + 64 * n] := by
  revert h n
  decide

/-- A lane's pair is written. -/
def ratePut (core n : Nat) (hi : Word) (l : Lane) (s : State) : State :=
  setReg (laneKey l (Off.TB_RATE_HI + 64 * n)) hi (commitLo l core (Off.TB_RATE_LO + 64 * n) s)

/-- The lanes of `D` have written their pairs, and issue the rate. -/
structure Rating (core n : Nat) (hi lo : Word) (s : State) (D : List Lane) (b : Bool) (u : State) : Prop where
  issuing : Issuing n (Base.rated (hi ++ lo : DWord).toNat) s b u
  lows : Lows core (Off.TB_RATE_LO + 64 * n) lo s D u
  highs : ∀ l ∈ D, u.reg (laneKey l (Off.TB_RATE_HI + 64 * n)) = hi
  regs : RegsOnly [Off.TB_RATE_LO + 64 * n, Off.TB_RATE_HI + 64 * n] s u
  only : OnlyIn [.regs, .loWrites, .time, .vot] s u

theorem onlyIn_ratePut : OnlyIn [.regs, .loWrites] s (ratePut core n hi l s) := only_setReg onlyIn_commitLo

theorem Rating.put (h : Rating core n hi lo s D b u) (hn : n ∈ [0, 1, 3]) (hl : l ∉ D) (hin : s.inVote l = true) : Rating core n hi lo s (l :: D) b (ratePut core n hi l u) := by
  obtain ⟨hlocal, hlow, hhigh, hne⟩ := rateRegs hn
  have hcommit := h.lows.commit hlocal hlow hl hin
  have hlows : ∀ m, (ratePut core n hi l u).reg (laneKey m (Off.TB_RATE_LO + 64 * n)) =
      (commitLo l core (Off.TB_RATE_LO + 64 * n) u).reg (laneKey m (Off.TB_RATE_LO + 64 * n)) := fun m => reg_setReg_ne _ _ _ _ (by
    by_cases hm : m = l
    · rw [hm]
      exact laneKey_ne_of_offset hne
    · exact laneKey_ne hm hlow.1 hhigh.1)
  refine ⟨h.issuing.only onlyIn_ratePut, hcommit.same hlocal rfl rfl hlows (wf_setReg hcommit.wf), fun m hm => ?_, ?_, onlyIn_trans h.only (onlyIn_mono onlyIn_ratePut (by decide))⟩
  · by_cases hml : m = l
    · rw [hml]
      exact reg_setReg_lane l hi hcommit.wf hhigh
    · refine (reg_setReg_ne _ _ _ _ (laneKey_ne hml hhigh.1 hhigh.1)).trans ((reg_commitLo_ne hlocal (laneKey_ne hml hhigh.1 hlow.1)).trans ?_)
      exact h.highs m ((List.mem_cons.mp hm).resolve_left hml)
  · exact regs_setReg (regsOnly_trans h.regs (regsOnly_commitLo hlocal ⟨hlow.1, by simp⟩)) (laneKey_mem l ⟨hhigh.1, by simp⟩)

theorem Rating.work (h : Rating core n hi lo s D b u) (hn : n ∈ [0, 1, 3]) (hw : VoteWork n u t) : Rating core n hi lo s D b t := by
  have honly := hw.1
  refine ⟨h.issuing.work hw, h.lows.only (rateRegs hn).1 honly, fun l hl => ?_, regs_of_only h.regs honly, onlyIn_trans h.only (onlyIn_mono honly (by decide))⟩
  rw [reg_of_only _ honly]
  exact h.highs l hl

theorem Rating.applied (h : Rating core n hi lo s D false u) (hn : n ∈ [0, 1, 3]) :
    Rating core n hi lo s D true (applyOut n (.rate (hi ++ lo : DWord).toNat) u) ∧ Calm n u (applyOut n (.rate (hi ++ lo : DWord).toNat) u) := by
  obtain ⟨hlt, hne⟩ := base_of_mem hn
  rw [applyOut_rate hne]
  have honly := onlyIn_setBase n (Base.rated (hi ++ lo : DWord).toNat) u
  refine ⟨⟨h.issuing.applied hlt (fun _ => rfl) fun _ _ => rfl, h.lows.only (rateRegs hn).1 honly, fun l hl => ?_, regs_of_only h.regs honly,
    onlyIn_trans h.only (onlyIn_mono honly (by decide))⟩, calm_setBase fun _ => rfl⟩
  exact (reg_of_only _ honly).trans (h.highs l hl)

theorem tbRateOp_eq (hne : n ≠ 2) (hmanual : fld (s.laneTb l Off.TB_SERVO_CFG n) 0 2 = 2)
    (hlo : (commitLo l core (Off.TB_RATE_LO + 64 * n) s).reg (laneKey l (Off.TB_RATE_LO + 64 * n)) = lo) :
    tbRateOp core n hi l s = issue n l (.rate (hi ++ lo : DWord).toNat) (ratePut core n hi l s) := by
  have hcond : (n != 2 && fld (s.laneTb l Off.TB_SERVO_CFG n) 0 2 == 2) = true := by
    rw [hmanual, bne_iff_ne.mpr hne]
    rfl
  rw [← hlo]
  exact if_pos hcond

theorem rating_round {v : LaneServo} (hwf : RegsWf s) (hup : s.up = true) (halike : s.alike n v) (hn : n ∈ [0, 1, 3]) (hmanual : fld (s.tbReg Off.TB_SERVO_CFG n) 0 2 = 2)
    (hlo : ∀ l, s.inVote l = true → s.loFor l core (Off.TB_RATE_LO + 64 * n) = lo) :
    Round n v.issued (.rate (hi ++ lo : DWord).toNat) s (tbRateOp core n hi) (ratePut core n hi) (Rating core n hi lo s) := by
  obtain ⟨hlt, hne⟩ := base_of_mem hn
  obtain ⟨hvotes, htwo, hall⟩ := halike
  exact
    { base := hlt, votes := hvotes, two := htwo, sound := failSilent_of_up hup, issued := fun l hl => by rw [(hall l hl).1]
      start := ⟨issuing_nil, ⟨fun l _ hin => hlo l hin, fun _ h => absurd h List.not_mem_nil, hwf⟩, fun _ h => absurd h List.not_mem_nil, regs_refl, only_refl⟩
      work := fun D b u t h hw => h.work hn hw
      prepare := fun D b l u h _ hl hin => by
        obtain ⟨_, _, hcfg, _, _⟩ := hall l hin
        have hsame : SameCfg n s u := sameCfg_of_regsOnly h.regs (tbCfg_ne_rate hn)
        have hcommit := h.lows.commit (rateRegs hn).1 (rateRegs hn).2.1 hl hin
        exact ⟨h.put hn hl hin, calm_of_only onlyIn_ratePut,
          tbRateOp_eq hne (by rw [hsame.servo, hcfg]; exact hmanual) (hcommit.committed l List.mem_cons_self)⟩
      apply := fun D u h => h.applied hn }

theorem exists_next_tbRateWrite (s : State) (core n : Nat) (v : LaneServo) (hi lo : Word) (hwf : RegsWf s) (hup : s.up = true) (halike : s.alike n v) (hn : n ∈ [0, 1, 3])
    (hmanual : fld (s.tbReg Off.TB_SERVO_CFG n) 0 2 = 2) (hlo : ∀ l, s.inVote l = true → s.loFor l core (Off.TB_RATE_LO + 64 * n) = lo) :
    ∃ t, exec (.tbRateWrite core n hi) s = .next t ∧ t.base n = { s.base n with rate := (hi ++ lo : DWord).toNat, servos := (t.base n).servos } ∧
      Served n { v with issued := v.issued + 1 } s t ∧
      (∀ l, s.inVote l = true → t.reg (laneKey l (Off.TB_RATE_HI + 64 * n)) = hi ∧ t.reg (laneKey l (Off.TB_RATE_LO + 64 * n)) = lo) ∧
      (∀ l : Lane, t.inVote l = s.inVote l) ∧ RegsOnly [Off.TB_RATE_LO + 64 * n, Off.TB_RATE_HI + 64 * n] s t ∧
      OnlyIn [.regs, .loWrites, .time, .vot] s t := by
  obtain ⟨D, hD, hE, _, hin, hissued⟩ := round_done (rating_round hwf hup halike hn hmanual hlo (hi := hi))
  exact ⟨_, exec_tbRateWrite hup (base_of_mem hn).1, hE.issuing.base, hE.issuing.served halike hissued,
    fun l hl => ⟨hE.highs l ((hD l).mpr hl), hE.lows.committed l ((hD l).mpr hl)⟩, hin, hE.regs, hE.only⟩

end

end Sys2Proof.Machine

namespace Sys2Proof.Machine

set_option Elab.async false

section
variable {s t u : State} {n core off : Nat} {l m : Lane} {hi lo : Word} {x d : Int} {D : List Lane} {b : Bool}

/-! ### A step of a base (R132, R133) -/

/-- The counters of a stepped base. -/
def Base.stepped (d : Int) (x : Base) : Base :=
  { x with ctr1 := ((x.ctr1 : Int) + d).toNat, ctr2 := ((x.ctr2 : Int) + d).toNat, ctr3 := ((x.ctr3 : Int) + d).toNat, stepSeq := x.stepSeq + 1 }

/-- What a step of TB1 drops of the PTP slave. -/
def ptpDropped (s : State) : State := { s with time := { s.time with ptp := { s.time.ptp with t1 := none, t2 := none, t3 := none, peer := none } } }

/-- A base stepped, counted and reported. -/
def stepMade (n : Nat) (d : Int) (s : State) : State :=
  raiseIrq Irq.TB_STEP (bumpAll (Off.TB_STEP_CNT + 4 * n) (when (n == 1) ptpDropped (setBase n (Base.stepped d) s)))

/-- The record of a step by `d` from the time `old`. -/
def stepItems (n : Nat) (d : Int) (old : Nat) : List Item :=
  [iU8 1 n, ⟨2, 9, beBytes 8 (code 64 (d / (nsUnit : Int)))⟩, iU8 3 (d % (nsUnit : Int) / 1099511627776).toNat, ⟨4, 12, timeBytes old⟩]

theorem stepBase_eq (n : Nat) (d : Int) (s : State) : stepBase n d s =
    pisteStep n ((s.base n).time / nsUnit) (record 0x0402 (stepItems n d (s.base n).time) (stepMade n d s)) := rfl

theorem stepItems_whole (n old : Nat) (x : Int) : stepItems n (x * (nsUnit : Int)) old =
    [iU8 1 n, ⟨2, 9, beBytes 8 (code 64 x)⟩, iU8 3 0, ⟨4, 12, timeBytes old⟩] := by
  have hne : (nsUnit : Int) ≠ 0 := Int.natCast_ne_zero.mpr nsUnit_pos.ne'
  have hdiv : x * (nsUnit : Int) / (nsUnit : Int) = x := Int.mul_ediv_cancel x hne
  have hmod : x * (nsUnit : Int) % (nsUnit : Int) = 0 := Int.mul_emod_left x _
  rw [stepItems, hdiv, hmod]
  rfl

theorem settleEdge_of_empty (hedge : s.pst.edge = []) : settleEdge s = s := by
  unfold settleEdge
  rw [if_pos (by rw [hedge, List.isEmpty_nil, Bool.or_true])]

theorem pisteStep_of_none {old : Nat} (harmed : s.pst.armed = []) (hedge : s.pst.edge = []) : pisteStep n old s = s := by
  have hnone : s.comparersOf n = [] := by
    unfold State.comparersOf State.comparers
    rw [harmed]
    rfl
  unfold pisteStep
  dsimp only
  rw [hnone, List.filter_nil, List.foldl_nil, settleEdge_of_empty hedge, ite_self]

theorem reg_bumpAll_self (hwf : RegsWf s) (h : off < 16777216 ∧ regMask off = BitVec.allOnes 32) (l : Lane) :
    (bumpAll off s).reg (laneKey l off) = s.reg (laneKey l off) + 1 := by
  have hc : RegsWf (bumpLane .c off s) := regsWf_bump _ _ hwf
  have hb : RegsWf (bumpLane .b off (bumpLane .c off s)) := regsWf_bump _ _ hc
  have hne : ∀ {k m : Lane} (t : State), k ≠ m → (bumpLane m off t).reg (laneKey k off) = t.reg (laneKey k off) := fun t hkm => reg_bump_ne _ _ t (laneKey_ne hkm h.1 h.1)
  unfold bumpAll
  cases l
  · rw [reg_bumpLane_self .a hb h, hne _ (by decide), hne _ (by decide)]
  · rw [hne _ (by decide), reg_bumpLane_self .b hc h, hne _ (by decide)]
  · rw [hne _ (by decide), hne _ (by decide), reg_bumpLane_self .c hwf h]

theorem stepRegs (h : n = 1 ∨ n = 3) : laneLocal (Off.TB_STEP_LO + 64 * n) = true ∧
    (Off.TB_STEP_LO + 64 * n < 16777216 ∧ regMask (Off.TB_STEP_LO + 64 * n) = BitVec.allOnes 32) ∧
    (Off.TB_STEP_CNT + 4 * n < 16777216 ∧ regMask (Off.TB_STEP_CNT + 4 * n) = BitVec.allOnes 32) ∧
    Off.TB_STEP_LO + 64 * n ≠ Off.TB_STEP_CNT + 4 * n ∧ Off.TB_STEP_LO + 64 * n ∉ [Off.REC_LOST_CNT] ∧ Off.TB_STEP_CNT + 4 * n ∉ [Off.REC_LOST_CNT] := by
  obtain rfl | rfl := h <;> decide

theorem onlyIn_ptpDropped {c : Bool} : OnlyIn [.time] s (when c ptpDropped s) := only_when (fun _ => only_mk only_refl) only_refl

theorem base_ptpDropped (c : Bool) (m : Nat) (s : State) : (when c ptpDropped s).base m = s.base m := by
  cases c
  · rfl
  · match m with
    | 0 => rfl
    | 1 => rfl
    | 2 => rfl
    | _ + 3 => rfl

theorem calm_ptpDropped (c : Bool) : Calm n s (when c ptpDropped s) := by
  refine ⟨?_, fun l => ?_, fun l => ?_, ?_, ?_⟩
  · cases c <;> rfl
  · cases c <;> rfl
  · rw [State.servo, base_ptpDropped, State.servo]
  · cases c <;> rfl
  · cases c <;> rfl

theorem Lows.regs {R : List Nat} {P : List Part} {w : Word} (h : Lows core off w s D u) (hlocal : laneLocal off = true) (hlt : off < 16777216) (ht : OnlyIn P u t)
    (hregs : RegsOnly R u t) (hR : off ∉ R) (hwf : RegsWf t) (hP : ∀ p ∈ [Part.loWrites, .shadows], p ∉ P := by decide) : Lows core off w s D t :=
  h.same hlocal (ht.2 .loWrites (hP _ (by decide))) (ht.2 .shadows (hP _ (by decide))) (fun _ => reg_of_regsOnly hregs hlt hR) hwf

/-- What a step leaves before its record. -/
theorem stepMade_told (hn : n = 1 ∨ n = 3) (d : Int) (s : State) : OnlyIn [.regs, .time, .icus] s (stepMade n d s) ∧ RegsOnly [Off.TB_STEP_CNT + 4 * n] s (stepMade n d s) ∧
    Calm n s (stepMade n d s) ∧ Raised Irq.TB_STEP (stepMade n d s) ∧
    (RegsWf s → RegsWf (stepMade n d s) ∧
      ∀ l, (stepMade n d s).reg (laneKey l (Off.TB_STEP_CNT + 4 * n)) = s.reg (laneKey l (Off.TB_STEP_CNT + 4 * n)) + 1) ∧
    ∀ m, (stepMade n d s).base m = (setBase n (Base.stepped d) s).base m := by
  obtain ⟨_, _, hcnt, _⟩ := stepRegs hn
  have hset := onlyIn_setBase n (Base.stepped d) s
  have hcalm : Calm n s (setBase n (Base.stepped d) s) := calm_setBase fun _ => rfl
  unfold stepMade
  generalize setBase n (Base.stepped d) s = u at *
  have hdrop : OnlyIn [.time] u (when (n == 1) ptpDropped u) := onlyIn_ptpDropped
  have hcalm' := calm_ptpDropped (n := n) (s := u) (n == 1)
  have hbases := fun m => base_ptpDropped (n == 1) m u
  generalize when (n == 1) ptpDropped u = t at *
  have hbump : OnlyIn [.regs] t (bumpAll (Off.TB_STEP_CNT + 4 * n) t) := only_bumpLane (only_bumpLane (only_bumpLane only_refl))
  have hregs : RegsOnly [Off.TB_STEP_CNT + 4 * n] t (bumpAll (Off.TB_STEP_CNT + 4 * n) t) := regs_bumpAll regs_refl ⟨hcnt.1, List.mem_singleton_self _⟩
  have hself := fun hwf => reg_bumpAll_self (s := t) (off := Off.TB_STEP_CNT + 4 * n) hwf hcnt
  have hwfB : RegsWf t → RegsWf (bumpAll (Off.TB_STEP_CNT + 4 * n) t) := wf_bumpAll
  generalize bumpAll (Off.TB_STEP_CNT + 4 * n) t = x at *
  have hraise : OnlyIn [.icus] x (raiseIrq Irq.TB_STEP x) := only_raiseIrq only_refl
  have hraised : Raised Irq.TB_STEP (raiseIrq Irq.TB_STEP x) := raised_raiseIrq _ _ (by decide)
  generalize raiseIrq Irq.TB_STEP x = y at *
  have htime : y.time = t.time := (hraise.2 .time (by decide)).trans (hbump.2 .time (by decide))
  have hst : OnlyIn [.time] s t := onlyIn_trans hset hdrop
  refine ⟨onlyIn_trans (onlyIn_trans (onlyIn_mono hst (by decide)) (onlyIn_mono hbump (by decide))) (onlyIn_mono hraise (by decide)),
    regs_of_only (regsOnly_trans (regs_of_only regs_refl hst) hregs) hraise,
    calm_trans (calm_trans (calm_trans hcalm hcalm') (calm_of_only hbump)) (calm_of_only hraise), hraised, fun hwf => ?_, fun m => ?_⟩
  · have hwfT : RegsWf t := regsWf_of_only hwf hst
    refine ⟨regsWf_of_only (hwfB hwfT) hraise, fun l => ?_⟩
    rw [reg_of_only _ hraise, hself hwfT, reg_of_only _ hst]
  · rw [← hbases, State.base, State.base, htime]

/-- The lanes of `D` have committed their low halves, and issue the step by `x` ns. -/
structure Stepping (core n : Nat) (lo : Word) (x : Int) (s : State) (D : List Lane) (b : Bool) (u : State) : Prop where
  issuing : Issuing n (Base.stepped (x * (nsUnit : Int))) s b u
  lows : Lows core (Off.TB_STEP_LO + 64 * n) lo s D u
  counts : ∀ l, u.reg (laneKey l (Off.TB_STEP_CNT + 4 * n)) = s.reg (laneKey l (Off.TB_STEP_CNT + 4 * n)) + if b then 1 else 0
  waits : b = false → OnlyIn [.regs, .loWrites, .time, .vot] s u
  told : b = true → Raised Irq.TB_STEP u ∧ Recorded 0x0402 [iU8 1 n, ⟨2, 9, beBytes 8 (code 64 x)⟩, iU8 3 0, ⟨4, 12, timeBytes (s.base n).time⟩] s u
  regs : RegsOnly [Off.TB_STEP_LO + 64 * n, Off.TB_STEP_CNT + 4 * n, Off.REC_LOST_CNT] s u
  only : OnlyIn (.loWrites :: .time :: .vot :: recParts) s u

theorem stepping_nil (hwf : RegsWf s) (hlo : ∀ l, s.inVote l = true → s.loFor l core (Off.TB_STEP_LO + 64 * n) = lo) : Stepping core n lo x s [] false s :=
  ⟨issuing_nil, ⟨fun l _ hin => hlo l hin, fun _ h => absurd h List.not_mem_nil, hwf⟩, fun _ => (add_zero _).symm, fun _ => only_refl, fun h => absurd h Bool.false_ne_true,
    regs_refl, only_refl⟩

theorem raised_of_votes {id : Nat} (h : Raised id s) (hin : ∀ l, t.inVote l = s.inVote l) (hicus : t.icus = s.icus) : Raised id t := fun l hl => by
  rw [hicus]
  exact h l ((hin l).symm.trans hl)

theorem Stepping.work (h : Stepping core n lo x s D b u) (hn : n = 1 ∨ n = 3) (hw : VoteWork n u t) : Stepping core n lo x s D b t := by
  have honly := hw.1
  refine ⟨h.issuing.work hw, h.lows.only (stepRegs hn).1 honly, fun l => (reg_of_only _ honly).trans (h.counts l),
    fun hb => onlyIn_trans (h.waits hb) (onlyIn_mono honly (by decide)), fun hb => ?_, regs_of_only h.regs honly, onlyIn_trans h.only (onlyIn_mono honly (by decide))⟩
  obtain ⟨hraised, hrec⟩ := h.told hb
  exact ⟨raised_of_votes hraised hw.2.1 (honly.2 .icus (by decide)), recorded_after hrec honly⟩

theorem Stepping.commit (h : Stepping core n lo x s D b u) (hn : n = 1 ∨ n = 3) (hl : l ∉ D) (hin : s.inVote l = true) :
    Stepping core n lo x s (l :: D) b (commitLo l core (Off.TB_STEP_LO + 64 * n) u) := by
  obtain ⟨hlocal, hlow, hcnt, hne, _, _⟩ := stepRegs hn
  have honly : OnlyIn [.regs, .loWrites] u (commitLo l core (Off.TB_STEP_LO + 64 * n) u) := onlyIn_commitLo
  refine ⟨h.issuing.only honly, h.lows.commit hlocal hlow hl hin, fun m => ?_, fun hb => onlyIn_trans (h.waits hb) (onlyIn_mono honly (by decide)), fun hb => ?_,
    regsOnly_trans h.regs (regsOnly_commitLo hlocal ⟨hlow.1, List.mem_cons_self⟩), onlyIn_trans h.only (onlyIn_mono honly (by decide))⟩
  · rw [← h.counts, reg_commitLo_ne hlocal]
    by_cases hm : m = l
    · rw [hm]
      exact laneKey_ne_of_offset hne.symm
    · exact laneKey_ne hm hcnt.1 hlow.1
  · obtain ⟨hraised, hrec⟩ := h.told hb
    exact ⟨raised_of_only hraised honly, recorded_after hrec honly⟩

/-- The bases are the same, and the lanes in vote. -/
theorem Issuing.of_bases {f : Base → Base} (h : Issuing n f s b u) (hbases : ∀ m, t.base m = u.base m) (hin : ∀ l, t.inVote l = s.inVote l) : Issuing n f s b t :=
  ⟨hin, fun m hm hne => (hbases m).trans (h.bases m hm hne), by rw [hbases]; exact h.base, fun l => by rw [State.servo, hbases]; exact h.servo l⟩

theorem Stepping.applied (h : Stepping core n lo x s D false u) (hn : n = 1 ∨ n = 3) (harmed : s.pst.armed = []) (hedge : s.pst.edge = []) :
    Stepping core n lo x s D true (applyOut n (.step (x * (nsUnit : Int))) u) ∧ Calm n u (applyOut n (.step (x * (nsUnit : Int))) u) := by
  obtain ⟨hlocal, hlow, hcnt, hne, hlost, hlost'⟩ := stepRegs hn
  have hlt : n < 4 := by omega
  have hquiet := h.waits rfl
  have hold : (u.base n).time = (s.base n).time := by
    rw [h.issuing.base]
    rfl
  obtain ⟨honly, hregs, hcalm, hraised, hcounts, hbases⟩ := stepMade_told hn (x * (nsUnit : Int)) u
  obtain ⟨hwf, hcounts⟩ := hcounts h.lows.wf
  have hissuing := h.issuing.applied hlt (f := Base.stepped (x * (nsUnit : Int))) (fun _ => rfl) fun _ _ => rfl
  have hstep := stepBase_eq n (x * (nsUnit : Int)) u
  rw [hold, stepItems_whole] at hstep
  show Stepping core n lo x s D true (stepBase n (x * (nsUnit : Int)) u) ∧ Calm n u (stepBase n (x * (nsUnit : Int)) u)
  rw [hstep]
  generalize setBase n (Base.stepped (x * (nsUnit : Int))) u = y at *
  generalize stepMade n (x * (nsUnit : Int)) u = t at *
  have hissuing' : Issuing n (Base.stepped (x * (nsUnit : Int))) s true t :=
    hissuing.of_bases hbases fun l => (hcalm.2.1 l).trans (h.issuing.votes l)
  generalize hitems : [iU8 1 n, ⟨2, 9, beBytes 8 (code 64 x)⟩, iU8 3 0, ⟨4, 12, timeBytes (s.base n).time⟩] = items at *
  have hrec : OnlyIn recParts t (record 0x0402 items t) := only_record only_refl
  have hregsR : RegsOnly [Off.REC_LOST_CNT] t (record 0x0402 items t) := regs_record regs_refl
  have hwfR : RegsWf (record 0x0402 items t) := wf_record hwf
  have hraisedR : Raised Irq.TB_STEP (record 0x0402 items t) := raised_record hraised
  have htold : Recorded 0x0402 items t (record 0x0402 items t) := recorded_record _ _ _
  generalize record 0x0402 items t = z at *
  have hpst : z.pst = s.pst := (hrec.2 .pst (by decide)).trans ((honly.2 .pst (by decide)).trans (hquiet.2 .pst (by decide)))
  rw [pisteStep_of_none (by rw [hpst]; exact harmed) (by rw [hpst]; exact hedge)]
  have htime0 : t.time.tb0.time = s.time.tb0.time := congrArg Base.time (hissuing'.bases 0 (by decide) (by omega))
  refine ⟨⟨hissuing'.only hrec, (h.lows.regs hlocal hlow.1 honly hregs (by simpa using hne) hwf).regs hlocal hlow.1 hrec hregsR hlost hwfR, fun l => ?_, fun hb => absurd hb.symm Bool.false_ne_true,
    fun _ => ⟨hraisedR, ?_⟩, ?_, ?_⟩, calm_trans hcalm (calm_of_only hrec)⟩
  · rw [reg_of_regsOnly hregsR hcnt.1 hlost', hcounts, h.counts, if_neg Bool.false_ne_true, if_pos rfl, add_zero]
  · exact hitems ▸ recorded_rebased htold (onlyIn_trans (onlyIn_mono hquiet (by decide)) (onlyIn_mono honly (by decide)) : OnlyIn [.regs, .loWrites, .time, .vot, .icus] s t) htime0
  · exact regsOnly_trans (regs_via h.regs (fun _ ho => ho) fun _ hb => regsOnly_trans hb (regs_via regs_refl (by simp) fun _ hc => regsOnly_trans hc hregs : RegsOnly _ u t))
      (regs_via regs_refl (by simp) fun _ hc => regsOnly_trans hc hregsR)
  · exact onlyIn_trans (onlyIn_trans h.only (onlyIn_mono honly (by decide))) (onlyIn_mono hrec (by decide))

theorem tbStepOp_eq (hn : n = 1 ∨ n = 3)
    (hlo : (commitLo l core (Off.TB_STEP_LO + 64 * n) s).reg (laneKey l (Off.TB_STEP_LO + 64 * n)) = lo) :
    tbStepOp core n hi l s = issue n l (.step ((hi ++ lo : DWord).toInt * (nsUnit : Int))) (commitLo l core (Off.TB_STEP_LO + 64 * n) s) := by
  have hcond : (n == 1 || n == 3) = true := by
    obtain rfl | rfl := hn
    · rfl
    · rfl
  rw [← hlo]
  exact if_pos hcond

theorem stepping_round {v : LaneServo} (hwf : RegsWf s) (hup : s.up = true) (halike : s.alike n v) (hn : n = 1 ∨ n = 3) (harmed : s.pst.armed = [])
    (hedge : s.pst.edge = []) (hlo : ∀ l, s.inVote l = true → s.loFor l core (Off.TB_STEP_LO + 64 * n) = lo) :
    Round n v.issued (.step ((hi ++ lo : DWord).toInt * (nsUnit : Int))) s (tbStepOp core n hi) (fun l u => commitLo l core (Off.TB_STEP_LO + 64 * n) u)
      (Stepping core n lo (hi ++ lo : DWord).toInt s) := by
  obtain ⟨hvotes, htwo, hall⟩ := halike
  exact
    { base := by omega, votes := hvotes, two := htwo, sound := failSilent_of_up hup, issued := fun l hl => by rw [(hall l hl).1]
      start := stepping_nil hwf hlo
      work := fun D b u t h hw => h.work hn hw
      prepare := fun D b l u h _ hl hin =>
        ⟨h.commit hn hl hin, calm_of_only onlyIn_commitLo, tbStepOp_eq hn ((h.commit hn hl hin).lows.committed l List.mem_cons_self)⟩
      apply := fun D u h => h.applied hn harmed hedge }

theorem exists_next_tbStepWrite (s : State) (core n : Nat) (v : LaneServo) (hi lo : Word) (d : Int) (hwf : RegsWf s) (hup : s.up = true) (halike : s.alike n v)
    (hn : n = 1 ∨ n = 3) (harmed : s.pst.armed = []) (hedge : s.pst.edge = []) (hlo : ∀ l, s.inVote l = true → s.loFor l core (Off.TB_STEP_LO + 64 * n) = lo)
    (hd : d = (hi ++ lo : DWord).toInt * 281474976710656) :
    ∃ t, exec (.tbStepWrite core n hi) s = .next t ∧ t.base n = { s.base n with ctr1 := (((s.base n).ctr1 : Int) + d).toNat, ctr2 := (((s.base n).ctr2 : Int) + d).toNat, ctr3 := (((s.base n).ctr3 : Int) + d).toNat, stepSeq := (s.base n).stepSeq + 1, servos := (t.base n).servos } ∧
      Served n { v with issued := v.issued + 1 } s t ∧ Raised Irq.TB_STEP t ∧
      (∀ l, t.reg (laneKey l (Off.TB_STEP_CNT + 4 * n)) = s.reg (laneKey l (Off.TB_STEP_CNT + 4 * n)) + 1) ∧
      Recorded 0x0402 [iU8 1 n, ⟨2, 9, beBytes 8 (code 64 (hi ++ lo : DWord).toInt)⟩, iU8 3 0, ⟨4, 12, timeBytes (s.base n).time⟩] s t ∧
      (∀ l : Lane, t.inVote l = s.inVote l) ∧
      RegsOnly [Off.TB_STEP_LO + 64 * n, Off.TB_STEP_CNT + 4 * n, Off.REC_LOST_CNT] s t ∧ OnlyIn (.loWrites :: .time :: .vot :: recParts) s t := by
  subst hd
  obtain ⟨_, _, hE, _, hin, hissued⟩ := round_done (stepping_round hwf hup halike hn harmed hedge hlo (hi := hi))
  obtain ⟨hraised, hrec⟩ := hE.told rfl
  exact ⟨_, exec_tbStepWrite hup (by omega), hE.issuing.base, hE.issuing.served halike hissued, hraised, hE.counts, hrec, hin, hE.regs, hE.only⟩

end

end Sys2Proof.Machine

namespace Sys2Proof.Machine

set_option Elab.async false

section
variable {s t u : State} {k r : Nat} {l m : Lane} {w trim : Word} {D : List Lane} {b : Bool}

/-! ### TB_TRIM (R114, R137) -/

/-- A change of another base than TB2. -/
theorem setBase_spares_tb2 {f : Base → Base} (hk : k < 4) (hne : k ≠ 2) (s : State) : (setBase k f s).base 2 = s.base 2 ∧ Calm 2 s (setBase k f s) ∧ OnlyIn [.time] s (setBase k f s) := by
  have hbase := base_setBase_ne f s (m := 2) (by decide) hk hne.symm
  exact ⟨hbase, ⟨(setBase_rest _ _ _).1, fun _ => rfl, fun l => by rw [State.servo, hbase, State.servo], rfl, rfl⟩, onlyIn_setBase k f s⟩

/-- A base in FREE runs with TB2. -/
def follows (r k : Nat) (s : State) : State :=
  when (s.servoState (s.base k) == .free && fld (s.tbReg Off.TB_SERVO_CFG k) 0 2 != 2) (setBase k (Base.rated r)) s

theorem follows_told (hk : k < 4) (hne : k ≠ 2) (s : State) : (follows r k s).base 2 = s.base 2 ∧ Calm 2 s (follows r k s) ∧ OnlyIn [.time] s (follows r k s) := by
  unfold follows
  cases s.servoState (s.base k) == .free && fld (s.tbReg Off.TB_SERVO_CFG k) 0 2 != 2
  · exact ⟨rfl, calm_of_only (P := []) only_refl, only_refl⟩
  · exact setBase_spares_tb2 hk hne s

theorem applyOut_of_rate (n r : Nat) (s : State) : applyOut n (.rate r) s =
    if n == 2 then [0, 1, 3].foldl (fun s k => follows r k s) (setBase n (Base.rated r) s) else setBase n (Base.rated r) s := rfl

theorem applyOut_tb2 (r : Nat) (s : State) : applyOut 2 (.rate r) s = follows r 3 (follows r 1 (follows r 0 (setBase 2 (Base.rated r) s))) := by
  rw [applyOut_of_rate, beq_self_eq_true, if_pos rfl, List.foldl_cons, List.foldl_cons, List.foldl_cons, List.foldl_nil]

/-- A rate word of TB2 acts on it, and the bases in FREE follow. -/
theorem applyOut_tb2_told (r : Nat) (s : State) : (applyOut 2 (.rate r) s).base 2 = Base.rated r (s.base 2) ∧ Calm 2 s (applyOut 2 (.rate r) s) ∧
    OnlyIn [.time] s (applyOut 2 (.rate r) s) := by
  have hcalm : Calm 2 s (setBase 2 (Base.rated r) s) := calm_setBase fun _ => rfl
  have hbase := base_setBase_self 2 (Base.rated r) s
  have honly := onlyIn_setBase 2 (Base.rated r) s
  rw [applyOut_tb2]
  obtain ⟨hbase0, hcalm0, honly0⟩ := follows_told (r := r) (k := 0) (by decide) (by decide) (setBase 2 (Base.rated r) s)
  obtain ⟨hbase1, hcalm1, honly1⟩ := follows_told (r := r) (k := 1) (by decide) (by decide) (follows r 0 (setBase 2 (Base.rated r) s))
  obtain ⟨hbase3, hcalm3, honly3⟩ := follows_told (r := r) (k := 3) (by decide) (by decide) (follows r 1 (follows r 0 (setBase 2 (Base.rated r) s)))
  exact ⟨hbase3.trans (hbase1.trans (hbase0.trans hbase)), calm_trans (calm_trans (calm_trans hcalm hcalm0) hcalm1) hcalm3,
    onlyIn_trans (onlyIn_trans (onlyIn_trans honly honly0) honly1) honly3⟩

/-- The word that the trim curve leaves in TB_TRIM. -/
def trimmed (trim : Word) (temp : Int) : Word := BitVec.ofInt 32 (trim.toInt + clampInt trimStep (Config.trimAt temp - trim.toInt))

theorem trimReg : Off.TB_TRIM < 16777216 ∧ regMask Off.TB_TRIM = BitVec.allOnes 32 := by decide

/-- The lanes of `D` have trimmed from `trim` to `w`, and issue TB2's rate. -/
structure Trimming (trim w : Word) (r : Nat) (s : State) (D : List Lane) (b : Bool) (u : State) : Prop where
  votes : ∀ l, u.inVote l = s.inVote l
  base : u.base 2 = { (if b then Base.rated r (s.base 2) else s.base 2) with servos := (u.base 2).servos }
  waiting : ∀ l, l ∉ D → s.inVote l = true → u.reg (laneKey l Off.TB_TRIM) = trim
  trimmed : ∀ l ∈ D, u.reg (laneKey l Off.TB_TRIM) = w
  wf : RegsWf u
  regs : RegsOnly [Off.TB_TRIM] s u
  only : OnlyIn [.regs, .time, .vot] s u

theorem trimming_nil (hwf : RegsWf s) (htrim : ∀ l, s.inVote l = true → s.reg (laneKey l Off.TB_TRIM) = trim) : Trimming trim w r s [] false s :=
  ⟨fun _ => rfl, rfl, fun l _ hin => htrim l hin, fun _ h => absurd h List.not_mem_nil, hwf, regs_refl, only_refl⟩

theorem Trimming.work (h : Trimming trim w r s D b u) (hw : VoteWork 2 u t) : Trimming trim w r s D b t := by
  obtain ⟨honly, hin, _, hbase, _, _⟩ := hw
  exact ⟨fun l => (hin l).trans (h.votes l), by rw [hbase, h.base], fun l hl hin => (reg_of_only _ honly).trans (h.waiting l hl hin),
    fun l hl => (reg_of_only _ honly).trans (h.trimmed l hl), regsWf_of_only h.wf honly, regs_of_only h.regs honly, onlyIn_trans h.only (onlyIn_mono honly (by decide))⟩

theorem Trimming.put (h : Trimming trim w r s D b u) (l : Lane) : Trimming trim w r s (l :: D) b (setReg (laneKey l Off.TB_TRIM) w u) := by
  have honly : OnlyIn [.regs] u (setReg (laneKey l Off.TB_TRIM) w u) := only_setReg only_refl
  have hbase : (setReg (laneKey l Off.TB_TRIM) w u).base 2 = u.base 2 := congrArg (·.tb2) (honly.2 .time (by decide))
  refine ⟨fun m => ?_, by rw [hbase]; exact h.base, fun m hm hin => ?_, fun m hm => ?_, wf_setReg h.wf, regs_setReg h.regs (laneKey_mem l ⟨trimReg.1, List.mem_singleton_self _⟩),
    onlyIn_trans h.only (onlyIn_mono honly (by decide))⟩
  · rw [State.inVote, (honly.2 .vot (by decide) : (setReg (laneKey l Off.TB_TRIM) w u).vot = u.vot)]
    exact h.votes m
  · obtain ⟨hne, hm⟩ := not_or.mp (mt List.mem_cons.mpr hm)
    rw [reg_setReg_ne _ _ _ _ (laneKey_ne hne trimReg.1 trimReg.1)]
    exact h.waiting m hm hin
  · by_cases hml : m = l
    · rw [hml]
      exact reg_setReg_lane l w h.wf trimReg
    · rw [reg_setReg_ne _ _ _ _ (laneKey_ne hml trimReg.1 trimReg.1)]
      exact h.trimmed m ((List.mem_cons.mp hm).resolve_left hml)

theorem Trimming.applied (h : Trimming trim w r s D false u) : Trimming trim w r s D true (applyOut 2 (.rate r) u) ∧ Calm 2 u (applyOut 2 (.rate r) u) := by
  obtain ⟨hbase, hcalm, honly⟩ := applyOut_tb2_told r u
  generalize applyOut 2 (.rate r) u = t at *
  refine ⟨⟨fun l => (hcalm.2.1 l).trans (h.votes l), ?_, fun l hl hin => (reg_of_only _ honly).trans (h.waiting l hl hin), fun l hl => (reg_of_only _ honly).trans (h.trimmed l hl),
    regsWf_of_only h.wf honly, regs_of_only h.regs honly, onlyIn_trans h.only (onlyIn_mono honly (by decide))⟩, hcalm⟩
  have hbefore := h.base
  generalize u.base 2 = y at *
  rw [hbase, hbefore]
  rfl

theorem laneTrim_eq (hold : s.reg (laneKey l Off.TB_TRIM) = trim) (hwf : RegsWf s) : laneTrim l s =
    issue 2 l (.rate ((nsUnit : Int) + (trimmed trim s.tlm.temp).toInt * 256).toNat) (setReg (laneKey l Off.TB_TRIM) (trimmed trim s.tlm.temp) s) := by
  have hnew := reg_setReg_lane l (trimmed trim s.tlm.temp) hwf trimReg
  unfold laneTrim trimOp
  dsimp only
  rw [hold]
  show issue 2 l (.rate ((nsUnit : Int) + ((setReg (laneKey l Off.TB_TRIM) (trimmed trim s.tlm.temp) s).reg (laneKey l Off.TB_TRIM)).toInt * 256).toNat) _ = _
  rw [hnew]
  rfl

theorem trimming_round {v : LaneServo} (hwf : RegsWf s) (hup : s.up = true) (halike : s.alike 2 v) (htrim : ∀ l, s.inVote l = true → s.reg (laneKey l Off.TB_TRIM) = trim) :
    Round 2 v.issued (.rate ((nsUnit : Int) + (trimmed trim s.tlm.temp).toInt * 256).toNat) s laneTrim
      (fun l u => setReg (laneKey l Off.TB_TRIM) (trimmed trim s.tlm.temp) u)
      (Trimming trim (trimmed trim s.tlm.temp) ((nsUnit : Int) + (trimmed trim s.tlm.temp).toInt * 256).toNat s) := by
  obtain ⟨hvotes, htwo, hall⟩ := halike
  exact
    { base := by decide, votes := hvotes, two := htwo, sound := failSilent_of_up hup, issued := fun l hl => by rw [(hall l hl).1]
      start := trimming_nil hwf htrim
      work := fun D b u t h hw => h.work hw
      prepare := fun D b l u h _ hl hin => by
        have hact := laneTrim_eq (h.waiting l hl hin) h.wf
        rw [(h.only.2 .tlm (by decide) : u.tlm = s.tlm)] at hact
        exact ⟨h.put l, calm_of_only (only_setReg only_refl : OnlyIn [.regs] u _), hact⟩
      apply := fun D u h => h.applied }

theorem exists_next_tbTrimWrite (s : State) (v : LaneServo) (trim : Word) (hwf : RegsWf s) (hup : s.up = true) (halike : s.alike 2 v)
    (htrim : ∀ l, s.inVote l = true → s.reg (laneKey l Off.TB_TRIM) = trim) :
    ∃ t, exec (.tbTrimWrite true) s = .next t ∧
      (∀ l, s.inVote l = true → t.reg (laneKey l Off.TB_TRIM) = BitVec.ofInt 32 (trim.toInt + clampInt trimStep (Config.trimAt s.tlm.temp - trim.toInt))) ∧
      t.base 2 = { s.base 2 with rate := (281474976710656 + (BitVec.ofInt 32 (trim.toInt + clampInt trimStep (Config.trimAt s.tlm.temp - trim.toInt))).toInt * 256).toNat, servos := (t.base 2).servos } ∧
      (∀ l : Lane, t.inVote l = s.inVote l) ∧ PassTold 6 s t ∧ RegsOnly [Off.TB_TRIM] s t ∧ OnlyIn [.regs, .time, .vot, .tlm] s t := by
  have hexec : exec (.tbTrimWrite true) s = .next (passDone 6 (everyLane laneTrim s)) := congrArg Host.Outcome.next (if_pos hup)
  obtain ⟨D, hD, hE, _, hin, _⟩ := round_done (trimming_round hwf hup halike htrim)
  have heq : everyLane laneTrim s = s.lanesIn.foldl (fun u l => laneTrim l u) s := rfl
  rw [heq] at hexec
  generalize s.lanesIn.foldl (fun u l => laneTrim l u) s = u at *
  have hpass : OnlyIn [.tlm] u (passDone 6 u) := only_passDone only_refl
  have htlm : u.tlm = s.tlm := hE.only.2 .tlm (by decide)
  refine ⟨_, hexec, fun l hl => (reg_of_only _ hpass).trans (hE.trimmed l ((hD l).mpr hl)), ?_, fun l => ?_, passTold_passDone (by rw [htlm]) (by rw [htlm]),
    regs_of_only hE.regs hpass, onlyIn_trans (onlyIn_mono hE.only (by decide)) (onlyIn_mono hpass (by decide))⟩
  · have hbase : (passDone 6 u).base 2 = u.base 2 := congrArg (·.tb2) (hpass.2 .time (by decide))
    rw [hbase]
    exact hE.base
  · rw [State.inVote, (hpass.2 .vot (by decide) : (passDone 6 u).vot = u.vot)]
    exact hin l

end

/-- Settles O23, command by command. -/
theorem timeBaseCommands : Obligations.TimeBaseCommands :=
  ⟨exists_next_tbStepWrite, exists_next_tbRateWrite, exists_next_tbOffsetInWrite, exists_next_tbRefused, exists_next_tbTrimWrite, exists_next_tbTrimWrite_invalid,
    exists_next_ptpAnnounce, exists_next_ptpSync, exec_ptpMessage_of_other, exists_next_laneAlignFault⟩

end Sys2Proof.Machine
